-- ==== Sys2Proof/Word.lean ====
section
/-!
DEFINITION. The plainest words of the model: a byte, the two Wings, and reading bits of a number.
Field values are natural numbers below two to the field's width; the operations that read and write them truncate.
-/
namespace Sys2Proof

/-- One byte. -/
abbrev Byte := BitVec 8

/-- The two halves of the die, PD1 and PD2 (00 Table 0-4). -/
inductive Wing where
  | a | b
  deriving DecidableEq, Repr

/-- The other Wing. -/
def Wing.other : Wing → Wing
  | .a => .b
  | .b => .a

/-- Wing A is 0 and Wing B is 1 wherever the spec numbers them. -/
def Wing.num : Wing → Nat
  | .a => 0
  | .b => 1

/-- A consumer of a memory word that reads uncorrectable (15 Table 15-3). -/
inductive Consumer where
  /-- Instruction fetch, load, or a store that needs read-modify-write, of a Tutor core. -/
  | fetch (core : Nat)
  | load (core : Nat)
  | store (core : Nat)
  /-- The ring engine, at the descriptor of an index of a ring or at its buffer. -/
  | descriptor (ring idx : Nat)
  | buffer (ring idx : Nat)
  /-- A Lesson engine: its instruction fetch, or a read of its data area or subscription table. -/
  | engine (n : Nat) (isFetch : Bool)
  /-- A Substitute copy (10 R272). -/
  | substituteCopy
  /-- A snapshot restore or a reset seeding, at a slot of the ring. -/
  | restore (slot : Nat)
  /-- The Bursar's accumulator copy of a point: the one in force, or both. -/
  | bursar (point : Nat) (both : Bool)
  /-- The sample fabric, at the word of a SOURCE with its TIMESTAMP. -/
  | fabric (source ts : Nat)
  deriving DecidableEq, Repr

/-- The header of an IDP datagram of a request (20 Table 20-4); LEN is the length of the payload beside it. -/
structure IdpHead where
  magic : Nat
  version : Nat
  tag : Nat
  epoch : Nat
  index : Nat
  sub : Nat
  wing : Nat
  offset : Nat
  total : Nat
  deriving DecidableEq, Repr

/-- A frame of a USDO client (20 R474). `room` is how many bytes of value the answering frame carries. -/
inductive UsdoFrame where
  /-- Starts a read. -/
  | read (index sub room : Nat)
  /-- An expedited write. -/
  | write (index sub : Nat) (data : List Nat)
  /-- Starts a segmented write of `total` bytes. -/
  | writeStart (index sub total : Nat)
  | writeSegment (toggle : Bool) (data : List Nat)
  | readSegment (toggle : Bool) (room : Nat)
  /-- A bulk transfer or routed access. -/
  | unsupported
  deriving DecidableEq, Repr

/-- What the debug module is asked to do with a hart through DMI (21 R516): its status, resume, and, of a halted hart, a load, a
store or an instruction fetch at an address, an abstract read or write of a register by its number (control and status registers
from 0, integer registers from 0x1000, float registers from 0x1020), and the program buffer. -/
inductive DmiOp where
  | status
  | resume
  | load (addr width : Nat)
  | store (addr width value : Nat)
  | fetch (addr : Nat)
  | readReg (n : Nat)
  | writeReg (n value : Nat)
  | readBuf (k : Nat)
  | writeBuf (k value : Nat)
  deriving DecidableEq, Repr

/-- One clock period at an MCLK ball and the four MD balls it serves (06 R147, R148): the ticks of its edges, and by channel the
levels 0 to 15 steps of 0.5 ns after each edge, as the bits of a number. -/
structure MdClock where
  rise : Nat
  fall : Nat
  atRise : List Nat
  atFall : List Nat
  deriving DecidableEq, Repr

/-- A large supply group by its OPEN_GRP count, or a two-ball supply by its OPEN_PAIR bit (02 R61, Table 2-7). -/
inductive BallGroup where
  | large (which : Nat)
  | pair (which : Nat)
  deriving DecidableEq, Repr

/-- One ball of a dual signal, by the signal's OPEN_SIG bit (02 R58, R60). -/
structure DualBall where
  sig : Nat
  second : Bool
  deriving DecidableEq, Repr

/-- What the two receivers of a dual ball read (02 R58). -/
structure DualRead where
  first : Bool
  second : Bool
  deriving DecidableEq, Repr

/-- The two receivers of a Prefect channel's ball pair, by channel (18 R430). -/
structure ChannelRead where
  ch : Nat
  read : DualRead
  deriving DecidableEq, Repr

/-- The eight switches as each receiver of their ball pairs reads them (02 R58, 18 R438). -/
structure SwitchRead where
  first : Nat
  second : Nat
  deriving DecidableEq, Repr

/-- What a conversion held beside its input (05 R119, R129): the reference applied, in nV, and the hold instant. -/
structure SarHold where
  vref : Nat
  instant : Nat
  deriving DecidableEq, Repr

/-- How an MCLK ball loses its clock (06 R149): no rising edge for 1 µs, or so many of them within 10 µs. -/
inductive ClockLoss where
  | stopped (pin : Nat)
  | fast (pin edges : Nat)
  deriving DecidableEq, Repr

/-- The periods of a clock pin, in order. -/
structure PinPeriods where
  pin : Nat
  clocks : List MdClock
  deriving DecidableEq, Repr

/-- The CRC-16 a NIUJOR frame carries, and whether its delimiters and coding are right (19 R450). -/
structure FrameCheck where
  crc : Nat
  ok : Bool
  deriving DecidableEq, Repr

/-- The atomic operations of RV32A (21 R503). -/
inductive AmoOp where
  | lr | sc | swap | add | xor | and | or | min | max | minu | maxu
  deriving DecidableEq, Repr

end Sys2Proof
end

