-- ==== Sys2Proof/Syntax.lean ====
section
/-!
DEFINITION. The commands of the block: one constructor per row of spec/opcode_table.json, with the operands the spec's
text gives the row (the table gives no bits). A command is a register write or read by a Tutor core, an operation of a
bus or protocol, or an event at a pin, a clock or an engine; where the outcome lies outside the block (an analog level,
a frame, a flash's answer) it is an operand. Cores are 0 to 3 for TC0 to TC3.
-/
namespace Sys2Proof

/-- A command of the block. -/
inductive Instr where
  -- 01, 02: reset, handshakes, fabric, Bell, balls
  /-- POWER_ON (01 R42). -/
  | powerOn
  /-- RSTN_LOW (01 R42): the net has been low for 1 µs. -/
  | rstnLow
  /-- SOFTWARE_RESET_REQUEST (01 R42) by a Tutor core. -/
  | softwareResetRequest
  /-- VCORE_DROOP (03 R74): by VCORE itself, or by a loss of VANA. -/
  | vcoreDroop (byVcore : Bool)
  /-- RESET_PHASE_ADVANCE (01 R43): `mask` is, at the end of the PLL phase, the PLLs that have not locked (bit 0 E0,
  1 E1, 2 A, 3 B, 4 C, 5 N), at the end of the Bell self-test the roots that failed, and otherwise unused; `bootsel`
  is the level pair of BOOTSEL1 and BOOTSEL0 at 20 µs. -/
  | resetPhaseAdvance (mask bootsel : Nat)
  /-- RESET_END (01 R43). -/
  | resetEnd
  /-- PLL_RETRY_RESET (04 R102). -/
  | pllRetryReset
  /-- HANDSHAKE_STALL (01 R25): the silent island, the island at the other end, whether the silent one is the
  receiver, and the port whose command buffers the channel carries, if any. -/
  | handshakeStall (silent other : Nat) (receiver : Bool) (cmdPort : Option Nat)
  /-- SAMPLE_WORD_OFFER (01 R28): the fields of the word, and whether its spine is free to deliver. -/
  | sampleWordOffer (result reason source ts : Nat) (subst inj spineFree : Bool)
  /-- BELL_COPY_DIVERGENCE (01 R32): the root the divergence points to. -/
  | bellCopyDivergence (root : Nat)
  /-- BELL_REQ_APPLY (01 R36) by a Tutor core; LATCH and BARRIER of the same write. -/
  | bellReqApply (core group : Nat)
  /-- BELL_REQ_JOINT_APPLY (01 R36): the group mask, and whether the write also sets LATCH or BARRIER. -/
  | bellReqJointApply (core mask : Nat) (extra : Bool)
  /-- BELL_REQ_LATCH (01 R36). -/
  | bellReqLatch (core points : Nat)
  /-- BELL_REQ_BARRIER (01 R36). -/
  | bellReqBarrier (core ident : Nat)
  /-- BELL_ALONE (01 R36). -/
  | bellAlone
  /-- BARRIER_COMPLETE (01 R37). -/
  | barrierComplete
  /-- BARRIER_TIMEOUT (01 R37): the sites that have not acknowledged, by bit. -/
  | barrierTimeout (missing : Nat)
  /-- PERIOD_BELL (10 R257). -/
  | periodBell
  /-- HEAD_EVENT (10 R257): a head module reaches CNT while its carrier rises or falls. -/
  | headEvent (m : Nat) (falling : Bool)
  /-- LESSON_FALLBACK (10 R258). -/
  | lessonFallback
  /-- OPEN_BALL_TEST (02 R60): one ball of a dual signal, and whether its receiver changed in the window. -/
  | openBallTest (ball : DualBall) (changed : Bool)
  /-- SUPPLY_BALL_OPEN (02 R61): a group or two-ball supply, and the current of each of its balls over 1 s, in µA. -/
  | supplyBallOpen (group : BallGroup) (amps : List Nat)
  /-- IO_BANK_CHANGE (02 R55): bank 1 to 4 and its new IOB_STAT code. -/
  | ioBankChange (bank code : Nat)
  -- 03: supplies and the Caretaker
  /-- MAIN_SUPPLY_GOOD (03 R75). -/
  | mainSupplyGood
  /-- VANA_FAIL (03 R74). -/
  | vanaFail
  /-- VPF_GOOD (18 R434). -/
  | vpfGood
  /-- VPF_FAIL (18 R434). -/
  | vpfFail
  /-- CARETAKER_START (03 R74). -/
  | caretakerStart
  /-- CARETAKER_STOP (03 R74). -/
  | caretakerStop
  /-- STORE_FAULT (03 R70). -/
  | storeFault
  /-- PWR_SW_WRITE (03 R71): the written PD1_ON and PD2_ON, and the written 1s to PD1_OC and PD2_OC. -/
  | pwrSwWrite (core : Nat) (pd1 pd2 clr1 clr2 : Bool)
  /-- WING_POWER_GOOD (03 R71). -/
  | wingPowerGood (w : Wing)
  /-- SWITCH_OVERCURRENT (03 R72): the domain, 1, 2, 3, 5 or 6. -/
  | switchOvercurrent (pd : Nat)
  /-- HARVEST_STATE_CHANGE (03 R79): delivering or not, and HARV_SET out of range (03 R78). -/
  | harvestStateChange (delivering setFault : Bool)
  /-- CELL_PATH_ON (03 R80). -/
  | cellPathOn
  /-- CELL_PATH_OFF (03 R80). -/
  | cellPathOff
  /-- CELL_REMOVED (03 R82). -/
  | cellRemoved
  /-- CELL_INSERTED (03 R74). -/
  | cellInserted
  /-- STORE_CEILING_REACHED (03 R76). -/
  | storeCeilingReached
  /-- STORE_CAP_MEASURED (03 R84): the rise time Δt from 2.20 V to 2.40 V, in ms. -/
  | storeCapMeasured (dtMs : Nat)
  /-- PWR_CELL_WRITE (03 R93). -/
  | pwrCellWrite (core on off low ilim : Nat)
  /-- GAUGE_SAMPLE (03 R85): the converter codes, 1.5 mV per LSB, and the charge taken from the cell since the last
  sample, µAh. -/
  | gaugeSample (vstore vcell used : Nat)
  /-- ADMISSION_REQUEST (03 R89): the operation classes of the burst (Table 3-4), by the Caretaker or the controller. -/
  | admissionRequest (classes : List Nat) (byCaretaker : Bool)
  /-- BURST_COMPLETE (03 R89). -/
  | burstComplete
  /-- CARETAKER_TAKE_PORT (03 R91). -/
  | caretakerTakePort
  /-- CARETAKER_RELEASE_PORT (03 R92). -/
  | caretakerReleasePort
  /-- VANA_GOOD (13 R334, 03 R83, R70). -/
  | vanaGood
  -- 04: clocks, timebase and RTC
  /-- PLL_LOCK (04 R98): loop 0 E0, 1 E1, 2 A, 3 B, 4 C, 5 N. -/
  | pllLock (loop : Nat)
  /-- PLL_UNLOCK (04 R98). -/
  | pllUnlock (loop : Nat)
  /-- CLK_EN_WRITE (04 R100): the written PLLA_EN and PLLB_EN. -/
  | clkEnWrite (core : Nat) (a b : Bool)
  /-- XIN_LOST (04 R101). -/
  | xinLost
  /-- TB_LO_READ (04 R104). -/
  | tbLoRead (core : Nat)
  /-- PPS_PULSE (04 R106). -/
  | ppsPulse
  /-- PPS_PULSE_END (04 R106). -/
  | ppsPulseEnd
  /-- PHASE_STEP (04 R108). -/
  | phaseStep
  /-- SYNC_IN_EDGE (04 R109): oscillator cycles, 0 to 3, from the start of the present Edge tick to the edge. -/
  | syncInEdge (cycle : Nat)
  /-- SYNC_MISSED (04 R109). -/
  | syncMissed
  /-- SYNC_OUT_PULSE (04 R110). -/
  | syncOutPulse
  /-- RC_TRIM (04 R111). -/
  | rcTrim
  /-- RTC_CRYSTAL_STOP (04 R111). -/
  | rtcCrystalStop
  /-- RTC_CRYSTAL_START (04 R111). -/
  | rtcCrystalStart
  /-- RTC_SECOND (04 R112). -/
  | rtcSecond
  /-- RTC_SEC_WRITE (04 R112): the low word; the high word is the one last written to RTC_SECH. -/
  | rtcSecWrite (core lo : Nat)
  /-- RTC_SUB_READ (04 R114). -/
  | rtcSubRead (core : Nat)
  -- 05: SAR
  /-- SAR_BURST_START (05 R121, R122): an occurrence of slot `k`'s selected source reaches the slot. -/
  | sarBurstStart (k : Nat)
  /-- SAR_SWTRIG_WRITE (05 R121). -/
  | sarSwtrigWrite (core mask : Nat)
  /-- SAR_FREE_RUN_TRIGGER (05 R121). -/
  | sarFreeRunTrigger (k : Nat)
  /-- SAR_CONVERSION_COMPLETE (05 R123): the calibrated input voltage, in nV, of the slot's own slice and of the Substitute (used as
  the slice that converted requires), and the applied reference (used unless the internal one is selected) with the hold
  instant. -/
  | sarConversionComplete (k : Nat) (own subst : Int) (hold : SarHold)
  /-- SAR_INJ_WRITE (05 R125). -/
  | sarInjWrite (core k input ext : Nat)
  /-- REF_READY_SET (05 R129). -/
  | refReadySet
  /-- FOREGROUND_CAL_COMPLETE (05 R133). -/
  | foregroundCalComplete
  /-- BACKGROUND_STEP_START (05 R134). -/
  | backgroundStepStart
  /-- SUBST_ENTRY_OPPORTUNITY (05 R135). -/
  | substEntryOpportunity
  /-- SLICE_CAL_COMPLETE (05 R140): the slice, its fitted offset (1/16 LSB) and gain (2^-30), and whether the weight-fit
  residual is within 1 LSB. -/
  | sliceCalComplete (slice : Nat) (ofs gain : Int) (residualOk : Bool)
  /-- SUBST_EXIT_OPPORTUNITY (05 R139). -/
  | substExitOpportunity
  /-- VREFP_OUT_OF_RANGE (05 R129). -/
  | vrefpOutOfRange
  -- 06: modulator inputs
  /-- MOD_CLOCK_LOST (06 R149) of a clock pin. -/
  | modClockLost (loss : ClockLoss)
  /-- MOD_DATA_LOST (06 R149): the periods of a clock pin in which a channel holds its level. -/
  | modDataLost (run : PinPeriods)
  /-- MOD_LOSS_END (06 R149): the periods of clock pin `j` with which a loss of its clock or of a channel's data ends. -/
  | modLossEnd (j : Nat) (clocks : List MdClock)
  /-- MOD_DECIMATION (06 R150): the periods of clock pin `j` before the one with a decimation edge, and that one. -/
  | modDecimation (j : Nat) (before : List MdClock) (last : MdClock)
  /-- MOD_FDLY_WRITE (06 R156). -/
  | modFdlyWrite (core n fdly : Nat)
  /-- GUARD_TRIP_ASSERT (06 R159): the periods of clock pin `j` up to the bit that trips a guard. -/
  | guardTripAssert (j : Nat) (clocks : List MdClock)
  /-- GUARD_SETTLE_CLEAR (06 R162): the periods of clock pin `j` up to the bit at which a guard has settled. -/
  | guardSettleClear (j : Nat) (clocks : List MdClock)
  /-- MOD_GUARD_CLR (06 R161): a write of MOD_GCMD with this CLR. -/
  | modGuardClr (core n : Nat) (clr : Bool)
  -- 07: comparators and the trip tree
  /-- COMPARATOR_LATCH_SET (07 R174): comparator `c` with the level at its ball, in 0.1 mV. -/
  | comparatorLatchSet (c : Nat) (level : Int)
  /-- LEB_BLANKING_END (07 R178). -/
  | lebBlankingEnd (c : Nat) (level : Int)
  /-- WC_CLR_WRITE (07 R175): the level at the write. -/
  | wcClrWrite (core c : Nat) (level : Int)
  /-- COMPARATOR_INITIAL_CLEAR (07 R177): a level at which a stage is seen on its non-trip side. -/
  | comparatorInitialClear (c : Nat) (level : Int)
  /-- WC_THR_WRITE (07 R172). -/
  | wcThrWrite (core c lo hi : Nat)
  /-- TRIP_GROUP_FIRST_ASSERT (07 R180). -/
  | tripGroupFirstAssert (g : Nat)
  -- 08: PWM modules
  /-- PWM_ZERO_EVENT (08 R189), with the levels at WCIN balls that have changed by then: comparator and 0.1 mV. -/
  | pwmZeroEvent (m : Nat) (wcin : List (Nat × Int))
  /-- PWM_PERIOD_EVENT (08 R189), with the levels at WCIN balls that have changed by then. -/
  | pwmPeriodEvent (m : Nat) (wcin : List (Nat × Int))
  /-- PWM_TRIGGER_COMPARE (08 R189): TCMP0 or TCMP1, and the direction. -/
  | pwmTriggerCompare (m which : Nat) (falling : Bool)
  /-- PWM_COMPARE_MATCH (08 R191): CMPA or CMPB, on the rising or falling carrier. -/
  | pwmCompareMatch (m : Nat) (b falling : Bool)
  /-- TURN_ON_DELAY_EXPIRY (08 R205). -/
  | turnOnDelayExpiry (m : Nat) (low : Bool)
  /-- PWM_SHADOW_LOW_WRITE (08 R199) of shadow word `w`, 0 to 2. -/
  | pwmShadowLowWrite (core m w value : Nat)
  /-- PWM_SHADOW_HIGH_WRITE (08 R199). -/
  | pwmShadowHighWrite (core m w value : Nat)
  /-- STAGED_MOVE (08 R202). -/
  | stagedMove
  /-- DELAY_LINE_LOCK (08 R195). -/
  | delayLineLock
  /-- DELAY_LINE_LOST (08 R198). -/
  | delayLineLost
  /-- SAFE_LEVEL_RESUME_CHECK (08 R214). -/
  | safeLevelResumeCheck (m : Nat)
  /-- PWM_OUTEN_WRITE (08 R216). -/
  | pwmOutenWrite (core m : Nat) (on : Bool)
  /-- PWM_CNT_EN_WRITE (08 R218). -/
  | pwmCntEnWrite (core m : Nat) (on : Bool)
  /-- PWM_ARM_WRITE (08 R218). -/
  | pwmArmWrite (core m : Nat) (on : Bool)
  /-- PWM_GSTART_WRITE (08 R218). -/
  | pwmGstartWrite (core mask : Nat)
  /-- GROUP_START_EXECUTE (08 R218). -/
  | groupStartExecute
  /-- PWM_TIMED_START (08 R218). -/
  | pwmTimedStart (m : Nat)
  /-- PWM_LINK_PULSE (08 R220): the oldest pulse on its way to module `m` arrives. -/
  | pwmLinkPulse (m : Nat)
  /-- PWM_INT_WRITE (08 R221): the written ISEL, PRESC, IEN, and the 1 written to IFLAG. -/
  | pwmIntWrite (core m isel presc : Nat) (ien clr : Bool)
  -- 09: gate interface
  /-- FLT_QUALIFIED (09 R229): the FLT inputs, by module bit, that become qualified low in this tick, and the modules
  whose blanking window ends in the same tick. -/
  | fltQualified (mask ended : Nat)
  /-- FLT_BLANKING_END (09 R229): the modules whose window ends. -/
  | fltBlankingEnd (mask : Nat)
  /-- RDY_LOST (09 R227). -/
  | rdyLost (m : Nat)
  /-- SHOOT_THROUGH (09 R231). -/
  | shootThrough (m : Nat)
  /-- GI_SWTRIG_WRITE (09 R239). -/
  | giSwtrigWrite (core trig : Nat)
  /-- SEQUENCER_GAP_END (09 R233) of leg `k`. -/
  | sequencerGapEnd (k : Nat)
  /-- REFRESH_INSERT (09 R237). -/
  | refreshInsert (m : Nat)
  /-- REFRESH_PHASE_END (09 R237). -/
  | refreshPhaseEnd (m : Nat)
  /-- FLT_QUALIFIED_HIGH (09 R229). -/
  | fltQualifiedHigh (m : Nat)
  /-- RDY_QUALIFIED_HIGH (09 R227). -/
  | rdyQualifiedHigh (m : Nat)
  -- 10: Lesson engines. An instruction's operands are the engine and the fields of Table 10-3 that the operation uses,
  -- as the engine decoded them: `addr` is ADDR, `wide` MOD[0], and registers are 0 to 31.
  /-- LESSON_RUN_START (10 R260). -/
  | lessonRunStart (n : Nat)
  /-- NOP (10 R252). -/
  | nop (n : Nat)
  /-- LDK (10 R252). -/
  | ldk (n rd imm : Nat)
  /-- LD (10 R252). -/
  | ld (n rd addr : Nat) (wide : Bool)
  /-- ST (10 R252). -/
  | st (n ra addr : Nat) (wide : Bool)
  /-- LDS (10 R250): first subscription RA and MOD, the count less 1. -/
  | lds (n rd ra mod : Nat)
  /-- WAIT (10 R259): first and last subscription, and D in ticks. -/
  | wait (n ra rb d : Nat)
  /-- WAIT_DEADLINE (10 R259): the tick T_k + D. -/
  | waitDeadline (n : Nat)
  /-- INJ (05 R125): slot, input and EXT. -/
  | inj (n slot input ext : Nat)
  /-- STPC (10 R255). -/
  | stpc (n m ra rb : Nat)
  /-- STPD (10 R255). -/
  | stpd (n m ra rb : Nat)
  /-- STPP (10 R255). -/
  | stpp (n m ra rb rc : Nat)
  /-- STPE (10 R255). -/
  | stpe (n m ra rb : Nat)
  /-- ADD (10 R252). -/
  | add (n rd ra rb : Nat)
  /-- SUB (10 R252). -/
  | sub (n rd ra rb : Nat)
  /-- MUL (10 R252). -/
  | mul (n rd ra rb : Nat)
  /-- MAC (10 R252). -/
  | mac (n rd ra rb rc : Nat)
  /-- DIV (10 R252). -/
  | div (n rd ra rb : Nat)
  /-- SQRT (10 R252). -/
  | sqrt (n rd ra : Nat)
  /-- ABS (10 R252). -/
  | abs (n rd ra : Nat)
  /-- SINCOS (10 R252). -/
  | sincos (n rd ra : Nat)
  /-- PI (10 R254): RA the error, RB the feedforward. -/
  | pi (n rd ra rb addr : Nat)
  /-- PR (10 R254). -/
  | pr (n rd ra rb addr : Nat)
  /-- BIQ (10 R254). -/
  | biq (n rd ra addr : Nat)
  /-- CLARKE (10 R252). -/
  | clarke (n rd ra rb rc : Nat)
  /-- PARK (10 R252). -/
  | park (n rd ra rb rc : Nat)
  /-- IPARK (10 R252). -/
  | ipark (n rd ra rb rc : Nat)
  /-- SOGI (10 R254). -/
  | sogi (n rd ra rb addr : Nat)
  /-- DDSRF (10 R254). -/
  | ddsrf (n rd ra rb rc addr : Nat)
  /-- PLL (10 R254). -/
  | pll (n rd ra addr : Nat)
  /-- LIM (10 R252). -/
  | lim (n rd ra rb rc : Nat)
  /-- RLIM (10 R254). -/
  | rlim (n rd ra addr : Nat)
  /-- LUT (10 R254). -/
  | lut (n rd ra addr : Nat)
  /-- CMPF (10 R252): flag and condition. -/
  | cmpf (n flag ra rb cond : Nat)
  /-- CLIM (10 R252): RC the limit, MOD the mode. -/
  | clim (n rd ra rb rc mod : Nat)
  /-- PROF (10 R254). -/
  | prof (n rd ra addr : Nat)
  /-- RAMP (10 R254): RA the target, RB the measured value. -/
  | ramp (n rd ra rb addr : Nat)
  /-- FERR (10 R269). -/
  | ferr (n ra rb addr : Nat)
  /-- PRESET (10 R270): RA the output, RB the error, RC the feedforward. -/
  | preset (n ra rb rc addr : Nat)
  /-- SKIP (10 R252): flag, the value that skips, and the number of instructions. -/
  | skip (n flag : Nat) (eq : Bool) (count : Nat)
  /-- EVRY (10 R252): flag, N and phase. -/
  | evry (n flag every phase : Nat)
  /-- EVT (10 R267): value register, code and MOD[0]. -/
  | evt (n ra code : Nat) (fault : Bool)
  /-- END (10 R260). -/
  | endRun (n : Nat)
  /-- ENGINE_DATA_WRITE (10 R248): a core's 32-bit store at a byte offset of window `n`. -/
  | engineDataWrite (core n offset value : Nat)
  /-- ENGINE_DATA_UPDATE (10 R278): byte offset and the 32-bit words of a write of entry 0x5020 + n:04. -/
  | engineDataUpdate (n offset : Nat) (words : List Nat)
  /-- LE_RETIRE_WRITE (10 R271). -/
  | leRetireWrite (core n : Nat)
  /-- SUBSTITUTE_COPY_COMPLETE (10 R272): the word indices of 32-bit words that read uncorrectable, none when the copy
  met none. -/
  | substituteCopyComplete (w : Wing) (bad : List Nat)
  /-- LE_SUBGO_WRITE (10 R272). -/
  | leSubgoWrite (core : Nat) (goa gob : Bool)
  /-- SUBSTITUTE_SELF_TEST (10 R273): the test of the Wing's idle Substitute ends. -/
  | substituteSelfTest (w : Wing) (pass : Bool)
  /-- HELD_LOW_HALF_TIMEOUT (10 R248). -/
  | heldLowHalfTimeout (core : Nat)
  -- 11, 12: the Timetables as shipped
  /-- GRID_COMMAND_SYNC (11 R290). -/
  | gridCommandSync
  /-- GRID_COMMAND_RUN (11 R293). -/
  | gridCommandRun
  /-- GRID_COMMAND_CLEAR_TRIP (11 R290). -/
  | gridCommandClearTrip
  /-- ISLANDING_DISARM (12 R301). -/
  | islandingDisarm
  /-- ISLANDING_ARM (12 R301). -/
  | islandingArm
  /-- ISLANDING_CLEAR_TRIP (12 R301). -/
  | islandingClearTrip
  /-- MPPT_TRACE_REQUEST (12 R312) of an input. -/
  | mpptTraceRequest (input : Nat)
  -- 13: the Bursar. Points are 0 to 7 for AC0 to AC3 and DC0 to DC3, phases 0 to 2.
  /-- BURSAR_PAIR (13 R318) of a phase of a point. -/
  | bursarPair (point phase : Nat)
  /-- METERING_CYCLE_END (13 R320, R322): a crossing, this many Edge ticks after the previous one. -/
  | meteringCycleEnd (point len : Nat)
  /-- HALF_CYCLE_BOUNDARY (13 R328) of a point. -/
  | halfCycleBoundary (point : Nat)
  /-- BUR_LATCH_WRITE (13 R326). -/
  | burLatchWrite (core mask : Nat)
  /-- BUR_SAVE_NOW_WRITE (13 R330). -/
  | burSaveNowWrite (core : Nat)
  /-- BURSAR_RESTORE (13 R332). -/
  | bursarRestore
  /-- THEFT_WINDOW_CLOCK (06 R164). -/
  | theftWindowClock
  /-- THEFT_WINDOW_END (06 R164, 13 R335), with the levels of the four balls at the cycles of MCLK(GRP), as 4-bit numbers. -/
  | theftWindowEnd (samples : List Nat)
  /-- THEFT_CLR_WRITE (13 R335). -/
  | theftClrWrite (core : Nat)
  -- 14: Hall Pass and duplex. A command written to HP_CMD acts for the Wing of its core.
  /-- LEASE_RENEW (14 R342). -/
  | leaseRenew (core : Nat)
  /-- LEASE_EXPIRY (14 R344): the vote finds the count of the Wing's lease at zero. -/
  | leaseExpiry (w : Wing)
  /-- VOTER_DISAGREEMENT (14 R341): the voter disagrees with the others on the lease of a Wing. -/
  | voterDisagreement (voter : Nat) (w : Wing)
  /-- STANDBY (14 R345, R348), with the outcome of its self-test. -/
  | standby (core : Nat) (pass : Bool)
  /-- WAKE (14 R345). -/
  | wake (core : Nat)
  /-- COLD (14 R345). -/
  | cold (core : Nat)
  /-- READY (14 R356). -/
  | ready (core : Nat)
  /-- HANDOVER (14 R355). -/
  | handover (core : Nat)
  /-- CANCEL (14 R345). -/
  | cancel (core : Nat)
  /-- RELEASE (14 R345). -/
  | release (core : Nat)
  /-- ACQUIRE (14 R345). -/
  | acquire (core : Nat)
  /-- COLD_SELF_TEST_WINDOW (14 R348), with the outcome of the self-test. -/
  | coldSelfTestWindow (w : Wing) (pass : Bool)
  /-- SNAPSHOT_WRITE_COMPLETE (14 R350). -/
  | snapshotWriteComplete
  /-- TAKEOVER_SLOT_CHOSEN (14 R352). -/
  | takeoverSlotChosen
  /-- TAKEOVER_RESTORE_COMPLETE (14 R352). -/
  | takeoverRestoreComplete
  /-- HP_REARM_WRITE (14 R354). -/
  | hpRearmWrite (core mask : Nat)
  /-- HANDOVER_COPY_COMPLETE (14 R355). -/
  | handoverCopyComplete
  /-- LINK_STALE (14 R358): the standby Wing sees the newest SEQ stand still. -/
  | linkStale (w : Wing)
  -- 15: memory integrity. Memories go by the identifiers of Table 15-1, words by their number in the memory; `stored` is
  -- the code word as the cells give it.
  /-- SCRUB_READ (15 R378) of a class: the code word read, and whether a functional write has reached the word since. -/
  | scrubRead (cls stored : Nat) (written : Bool)
  /-- SCRUB_PASS_OVERDUE (15 R377). -/
  | scrubPassOverdue (cls : Nat)
  /-- UNCORRECTABLE_READ (15 R373). -/
  | uncorrectableRead (consumer : Consumer) (memory word stored : Nat)
  /-- SAT_RET_WRITE (15 R384). -/
  | satRetWrite (core bank : Nat) (go : Bool)
  /-- REP_LOAD_WRITE (15 R383). -/
  | repLoadWrite (core count : Nat)
  /-- AGEING_MEASURE (15 R386): the slowdown of each monitor in 0.01 %. -/
  | ageingMeasure (slow : List Nat)
  -- 16: the Library
  /-- LIBRARY_INIT (16 R392, R396): what SFDP gives, and what the flash holds that the block has not written: of every
  block its number, place (area 0 to 8, 9 spare, 10 bad), erase count and day of the last write (none where no directory
  copy is valid), its valid records as area, type, SEQ, time and payload, and its final records. -/
  | libraryInit (supported nand : Bool) (pageL2 eraseL2 blocks : Nat) (dir : List (Nat × Nat × Nat × Nat))
      (recs : List (Nat × Nat × Nat × Nat × List Nat)) (finals : List (List Nat))
  /-- LIB_APPEND_RECORD (19 R462) of the Q13 descriptor of an index. -/
  | libAppendRecord (idx : Nat)
  /-- LIB_READ_RECORD (19 R462), with the bit errors of each codeword read (16 R399). -/
  | libReadRecord (idx : Nat) (errs : List Nat)
  /-- LIB_READ_NEWEST (19 R462). -/
  | libReadNewest (idx : Nat) (errs : List Nat)
  /-- FLASH_OPERATION_COMPLETE (16 R402): without or with a failure reported. -/
  | flashOperationComplete (ok : Bool)
  /-- RECORD_COMMIT (16 R400). -/
  | recordCommit
  /-- LIBRARY_REFRESH (16 R405). -/
  | libraryRefresh
  /-- WEAR_LEVEL_RELOCATE (16 R403). -/
  | wearLevelRelocate
  -- 17: worlds, boot and signatures
  /-- BOOT_IMAGE_VERIFY (17 R417, R420): the boot ROM of a Wing tries its next slot. -/
  | bootImageVerify (w : Wing)
  /-- IDENTITY_KEY_DERIVE (17 R421): the 256 bits extracted, or none where extraction fails. -/
  | identityKeyDerive (extracted : Option Nat)
  /-- WORLD_VIOLATION (17 R412): the initiator's number (17 Table 17-9, SEC_VIOL), the address it reached for, and for a
  Tutor core the cause of its access fault: 1 fetch, 5 load, 7 store. -/
  | worldViolation (initiator addr cause : Nat)
  /-- ENROL (17 R415) by a Tutor core through SEC_CMD. -/
  | enrol (core : Nat)
  /-- TRANSFER (17 R415). -/
  | transfer (core : Nat)
  /-- VENDOR_OFF (17 R415). -/
  | vendorOff (core : Nat)
  /-- ADVANCE (17 R415). -/
  | advance (core : Nat)
  /-- SEC_COMMAND_COMPLETE (17 R415). -/
  | secCommandComplete
  /-- ATTESTATION_REQUEST (17 R423): the bytes of the nonce. -/
  | attestationRequest (nonce : List Nat)
  /-- ATTESTATION_COMPLETE (17 R423). -/
  | attestationComplete
  -- 18: the Prefect. Channel 0 is A and 1 is B.
  /-- TEST_PULSE_START (18 R429). -/
  | testPulseStart (ch : Nat)
  /-- TEST_PULSE_END (18 R429). -/
  | testPulseEnd (ch : Nat)
  /-- TEST_PULSE_CHECK (18 Table 18-1), by the two receivers of each ball pair: each of SPR_x read low throughout 300 to 500 µs,
  each of SPR_y read low at some time, and each of SPR_x reads low at 800 µs. -/
  | testPulseCheck (ch : Nat) (xLow yLow xStill : DualRead)
  /-- FILTERED_DEMAND (18 R430): whether each receiver of the channel's ball pair has read low for T_FILT. -/
  | filteredDemand (low : ChannelRead)
  /-- DISCREPANCY_FAULT (18 R431): the channel that demands. -/
  | discrepancyFault (ch : Nat)
  /-- READBACK_FAULT (18 R431): the levels that the two receivers of SPR_OUT have read for 10 µs. -/
  | readbackFault (levels : DualRead)
  /-- PREFECT_CLOCK_CHECK (18 R431): Prefect RC cycles counted in 10 ms of the crystal. -/
  | prefectClockCheck (count : Nat)
  /-- PREFECT_FAULT_CLEAR (18 R431). -/
  | prefectFaultClear
  /-- PREFECT_NOTICE (18 R432). -/
  | prefectNotice
  /-- PREFECT_FORCE (18 R432). -/
  | prefectForce
  /-- PREFECT_RELEASE_READY (18 R436). -/
  | prefectReleaseReady
  /-- PF_REL_WRITE (18 R437). -/
  | pfRelWrite (core key : Nat)
  /-- FORCE_RELEASE (18 R437). -/
  | forceRelease
  /-- CFGSW_READ (18 R438): the eight switches as each receiver of their ball pairs reads them. -/
  | cfgswRead (read : SwitchRead)
  /-- CFGSW_CHANGE (18 R438): the switches as sampled by each receiver. -/
  | cfgswChange (read : SwitchRead)
  /-- PREFECT_SET_DELIVERY (18 R439). -/
  | prefectSetDelivery
  /-- SEAL_OPENED (18 R440): the wire has carried eight bits unlike those that SEAL_OUT drove. -/
  | sealOpened
  /-- SEAL_CLOSED (18 R440): the wire has carried the eight bits that SEAL_OUT drove. -/
  | sealClosed
  /-- PF_COMMIT_WRITE (18 R441). -/
  | pfCommitWrite (core digest : Nat)
  /-- COMMIT_ARM_TIMEOUT (18 R441). -/
  | commitArmTimeout
  /-- COMMISSIONING_COMPLETE (18 R441). -/
  | commissioningComplete
  -- 19: ports and rings. Ports are 0 ETH0, 1 ETH1, 2 CAN0, 3 CAN1, 4 PEER.
  /-- PORT_EN_WRITE (19 R445). -/
  | portEnWrite (core mask : Nat)
  /-- ETH_FRAME_RECEIVE (19 R446): the frame without its FCS, whether the FCS is right, and the timebase of its start. -/
  | ethFrameReceive (p : Nat) (frame : List Nat) (fcsOk : Bool) (ts : Nat)
  /-- CAN_FRAME_RECEIVE (19 R448): identifier, IDE, FDF, BRS, ESI, RTR, DLC, data, whether an error frame ended it, and the
  timebase of its start. -/
  | canFrameReceive (p ident : Nat) (ide fdf brs esi rtr : Bool) (dlc : Nat) (data : List Nat) (err : Bool) (ts : Nat)
  /-- NIUJOR_FRAME_RECEIVE (19 R450): destination, source, TYPE, payload, what its coding shows, and the timebase of its start. -/
  | niujorFrameReceive (dst src type : Nat) (payload : List Nat) (check : FrameCheck) (ts : Nat)
  /-- NIUJOR_CYCLE_START (19 R450) at the origin. -/
  | niujorCycleStart
  /-- NIUJOR_SLOT (19 R450). -/
  | niujorSlot
  /-- CHAIN_BELL (01 R41). -/
  | chainBell
  /-- ETH_MDIO_WRITE (19 R447): a write with GO = 1. -/
  | ethMdioWrite (core phyad regad : Nat) (isWrite : Bool) (data : Nat)
  /-- MDIO_FRAME_COMPLETE (19 R447): what a read frame read. -/
  | mdioFrameComplete (data : Nat)
  /-- PEER_TRAIN (19 R451): a write of TRAIN = 1. -/
  | peerTrain (core : Nat)
  /-- TRAINING_WORD (19 R452): marker, position byte and check byte. -/
  | trainingWord (marker pos check : Nat)
  /-- HOP_PULSE (19 R452). -/
  | hopPulse
  /-- TRAINING_ECHO (19 R452): the round trip in ps. -/
  | trainingEcho (roundTrip : Nat)
  /-- HOP_REPORT (19 R452): the hop delay in 1/8 Edge tick. -/
  | hopReport (hop : Nat)
  /-- ECHO_TIMEOUT (19 R452). -/
  | echoTimeout
  /-- POSITION_REPORT (19 R451). -/
  | positionReport (pos : Nat)
  /-- TRAINING_TIMEOUT (19 R452). -/
  | trainingTimeout
  /-- RING_CFG_WRITE (19 R453). -/
  | ringCfgWrite (core q value : Nat)
  /-- RING_HEAD_WRITE (19 R455). -/
  | ringHeadWrite (core q head : Nat)
  /-- DESCRIPTOR_PROCESS (19 R464): the ring engine's next turn. -/
  | descriptorProcess
  /-- DESCRIPTOR_COMPLETE (19 R455): the taken descriptor of a transmit ring or of Q15, its ERRCODE 0 or 5, and the timebase
  at which the frame start left the port. -/
  | descriptorComplete (q code ts : Nat)
  /-- RING_HALT_CLEAR (19 R460). -/
  | ringHaltClear (core q : Nat)
  /-- CAPTURE_BUFFER_COMPLETE (19 R461) of stream 0 or 1. -/
  | captureBufferComplete (a : Nat)
  /-- CRYPTO_HASH (19 R462). -/
  | cryptoHash
  /-- CRYPTO_VERIFY (19 R462). -/
  | cryptoVerify
  /-- PORT_RESTART (19 R466). -/
  | portRestart (p : Nat)
  /-- ETH_LINK_CHANGE (19 R446): link, and the negotiated speed and duplex. -/
  | ethLinkChange (p : Nat) (up : Bool) (spd : Nat) (fdx : Bool)
  /-- CAN_BUS_OFF_RECOVERY (19 R448). -/
  | canBusOffRecovery (p : Nat)
  -- 20, 22: dictionary. A request is served by the gateway of Wing `w` for initiator `init`: a core 0 to 3, or 0x40 plus the
  -- port. Ports are 0 ETH0, 1 ETH1, 2 CAN0, 3 CAN1.
  /-- USDO_TRANSFER (20 R474): one frame of a client's session at a CAN port. -/
  | usdoTransfer (p client : Nat) (frame : UsdoFrame)
  /-- USDO_SESSION_TIMEOUT (20 R474). -/
  | usdoSessionTimeout (p client : Nat)
  /-- IDP_READ (20 R476): a datagram from a source address and port to a UDP port. -/
  | idpRead (p source udp : Nat) (head : IdpHead)
  /-- IDP_WRITE (20 R476): the same with its payload. -/
  | idpWrite (p source udp : Nat) (head : IdpHead) (payload : List Nat)
  /-- IDP_TRANSFER_TIMEOUT (20 R476). -/
  | idpTransferTimeout (p source tag : Nat)
  /-- REQUEST_FORWARD (20 R478). -/
  | requestForward
  /-- GROUP_ENTER (20 R485). -/
  | groupEnter (w : Wing) (init g : Nat)
  /-- GROUP_RESTART (20 R485). -/
  | groupRestart (w : Wing) (init g : Nat)
  /-- GROUP_RESTORE (20 R485). -/
  | groupRestore (w : Wing) (init g : Nat)
  /-- VALIDATION_COMPLETE (20 R487) of a group, or of the joint restart that names it. -/
  | validationComplete (g : Nat)
  /-- JOINT_RESTART (20 R488). -/
  | jointRestart (w : Wing) (init mask : Nat)
  /-- STORE_PARAMETERS (20 R492). -/
  | storeParameters (w : Wing) (init value : Nat)
  /-- RESTORE_DEFAULTS (20 R492). -/
  | restoreDefaults (w : Wing) (init value : Nat)
  /-- ROLL_CALL (20 R494). -/
  | rollCall (w : Wing) (init : Nat)
  /-- DESCRIPTION_REQUEST (20 R473). -/
  | descriptionRequest (w : Wing) (init value : Nat)
  /-- DESCRIPTION_READ (20 R473). -/
  | descriptionRead (w : Wing) (init : Nat)
  /-- PROGRAM_DOWNLOAD (17 R419). -/
  | programDownload (w : Wing) (init : Nat) (data : List Nat)
  /-- IMAGE_SLOT_WRITE (20 R497): slot 0 A, 1 B, 2 C. -/
  | imageSlotWrite (w : Wing) (init slot : Nat) (data : List Nat)
  /-- SEED_REQUEST (22 R524). -/
  | seedRequest (w : Wing) (init value : Nat)
  /-- SEED_COMPLETE (22 R524). -/
  | seedComplete
  -- 21: Tutor cores and debug
  /-- INTERRUPT_CLAIM (21 R509). -/
  | interruptClaim (core : Nat)
  /-- INTERRUPT_COMPLETE (21 R509). -/
  | interruptComplete (core src : Nat)
  /-- MACHINE_TIMER (21 R502). -/
  | machineTimer (core : Nat)
  /-- TUT_MTCMPL_WRITE (21 R519). -/
  | tutMtcmplWrite (core value : Nat)
  /-- TUT_MTCMPH_WRITE (21 R519). -/
  | tutMtcmphWrite (core value : Nat)
  /-- WFI (21 R502). -/
  | wfi (core : Nat)
  /-- GATEWAY_READ (21 R513): a write of GW_CTRL with OP 1 and GO. -/
  | gatewayRead (core : Nat) (ien : Bool)
  /-- GATEWAY_WRITE (21 R513): a write of GW_CTRL with OP 2 and GO. -/
  | gatewayWrite (core : Nat) (ien : Bool)
  /-- GATEWAY_DONE (21 R513). -/
  | gatewayDone (core : Nat)
  /-- TAP_RESET (21 R514). -/
  | tapReset
  /-- EXTEST (21 R515): what the boundary register is loaded with. -/
  | extest (cells : Nat)
  /-- IDCODE (21 R514). -/
  | idcode
  /-- SAMPLE_PRELOAD (21 R514): what the boundary register is loaded with. -/
  | samplePreload (cells : Nat)
  /-- DTMCS (21 R514). -/
  | dtmcs
  /-- DMI (21 R516): an access to the debug module that selects a hart. -/
  | dmi (hart : Nat) (op : DmiOp)
  /-- BYPASS (21 R514). -/
  | bypass
  /-- DEBUG_HALT (21 R518): of a core. -/
  | debugHalt (core : Nat)
  /-- LEHALT_WRITE (21 R518): the six bits of LEHALT. -/
  | lehaltWrite (core value : Nat)
  /-- AMO_SATCHEL (21 R503): an LR, SC or AMO at an address, with its operand. -/
  | amoSatchel (core addr : Nat) (op : AmoOp) (value : Nat)
  /-- REGISTER_WRITE (00 R13): a 32-bit store of a core. -/
  | registerWrite (core addr value : Nat)
  deriving DecidableEq, Repr

end Sys2Proof
end

