-- ==== Sys2Proof/Decode.lean ====
section
/-!
DEFINITION. The command a word of the command table spells. The block takes commands, not instruction words: no row of the
table gives a bit, so there is nothing to decode. The instruction words of the Lesson engines are data of their Timetables
and are read in Machine/Timetable.lean (10 R251).
-/
namespace Sys2Proof

/-- No word spells a command, since no row of the command table gives bits. -/
def decodeTableWord (_nbits _w : Nat) : Option Instr := none

end Sys2Proof
end

