-- ==== Sys2Proof/Config.lean ====
section
/-!
DEFINITION. What the spec leaves open: free values. Each is an opaque constant, so nothing in Lean can evaluate it
or prove a value of it; State holds the counter it is applied to.
-/
namespace Sys2Proof

/-- The free value number `n` (assumption log, entry 5): a result the spec calls undefined or does not state. -/
opaque Config.freeValue : Nat → Nat

/-- Whether an SLH-DSA signature (FIPS 205) verifies, of the little-endian numbers that the bytes of the
public key, the message and the signature spell (assumption log, entry 6). -/
opaque Config.slhVerifies : Nat → Nat → Nat → Bool

/-- The SLH-DSA-SHA2-128f signature (FIPS 205) of the identity key over a message, as numbers: the public key and the
message (assumption log, entry 6). -/
opaque Config.slhSign : Nat → Nat → Nat

/-- What a Q14 hash command writes over the 8 reserved bytes of its command block, of the SHA-256 digest it forms
(19 R462; assumption log, entry 27). -/
opaque Config.hashResult : Nat → Nat

/-- The identity public key that the 256 bits of the key extractor give (17 R421; assumption log, entry 6). -/
opaque Config.identityPublicKey : Nat → Nat

/-- Byte `i` from offset 8 of the identity certificate in its on-die store (17 R422; assumption log, entry 6). -/
opaque Config.identityCertificate : Nat → Nat

/-- The binary32 pattern an engine gives for the sine of a binary64 pattern, used where it lies within the stated error
(assumption log, entry 7). -/
opaque Config.sineOf : Nat → Nat

/-- The cosine companion of `Config.sineOf` (assumption log, entry 7). -/
opaque Config.cosineOf : Nat → Nat

/-- Which operand a minimum (0) or a maximum (1) of two binary64 patterns gives where one of them is not a number
(assumption log, entry 23). -/
opaque Config.nanPick : Nat → Nat → Nat → Bool

/-- The fraction bits of a result that is not a number (assumption log, entry 5). -/
opaque Config.nanFraction : Nat

/-- Byte `i` of the boot ROM, whose content the spec does not give (21 Table 21-3; assumption log, entry 104). -/
opaque Config.romByte : Nat → Nat

/-- The image slot and the byte of its image that the window shows at an offset (16 R394; assumption log, entry 104). -/
opaque Config.windowPlace : Nat → Nat × Nat

/-- The coefficient by which a first-order filter of a shipped Timetable moves towards its input in a run, a binary32 pattern, of
the binary64 patterns of its time constant and of the lesson period in seconds (11 R283, R285, 12 R299; assumption log, entry 25). -/
opaque Config.filterStep : Nat → Nat → Nat

/-- Coefficient `i` (B0, B1, B2, A1, A2) of the second-order frequency filter of a shipped Timetable, a binary32 pattern, of the
binary64 pattern of the lesson period (11 R283; assumption log, entry 25). -/
opaque Config.freqFilter : Nat → Nat → Nat

end Sys2Proof
end

