-- ==== Sys2Proof/Machine/Fields.lean ====
section
/-!
DEFINITION. The register fields of the block: one name per field of the register tables of spec/ (Tables 1-10, 2-1,
2-7, 3-6, 4-3, 5-6, 6-2, 7-7, 8-9, 9-4, 10-12, 13-7, 14-8, 15-10, 16-7, 17-9, 18-5, 19-8 and 21-7), its width and
access code, and its Reset column. A field of an indexed register (PWM_RUN of module m, SAR_STAT of slot k) is one name
and one index. Reserved bits are no field: they read as 0 and ignore a write (00 R14).
-/
namespace Sys2Proof.Machine

/-- The access codes of Table 0-5 (00 R12). -/
inductive Access where
  | ro | rw | wo | w1c | w1s | rc | rwl
  deriving DecidableEq, Repr

/-- One register field of Tables 1-10 to 21-7, named REGISTER_FIELD (REGISTER alone where the field is the register). -/
inductive Fld where
  -- Table 1-10: 01 R39
  | BELL_CFG_CADENCE
  | BELL_REQ_APPLY
  | BELL_REQ_LATCH
  | BELL_REQ_BARRIER
  | BELL_REQ_GROUP
  | BELL_REQ_POINTS
  | BELL_REQ_BARRIER_ID
  | BELL_STAT_SEQ
  | BELL_STAT_ROOT0_OK
  | BELL_STAT_ROOT1_OK
  | BELL_STAT_BAR_DONE
  | BELL_STAT_BAR_TO
  | BELL_STAT_BAR_ID
  | BELL_BART
  | BELL_DIV_DIVERGE
  | BELL_COMP_COMP
  | BELL_COMP_ORIGIN
  | BELL_HOP_HOP
  | BELL_MISS0
  | BELL_MISS1
  | FAB_LOAD0_LOAD
  | FAB_LOAD1_LOAD
  | FAB_LOAD2_LOAD
  | FAB_LOAD3_LOAD
  | FAB_DROP
  | CH_STALL
  -- Table 2-1: 02 Table 2-1
  | FUSE_VARIANT_VARIANT
  | FUSE_VARIANT_STEP
  | FUSE_RES_PM_CNT
  | FUSE_RES_WC_CNT
  | FUSE_RES_MUXIN
  | FUSE_RES_MD_CNT
  | FUSE_RES_MCLK_CNT
  | FUSE_RES_MPPT_CNT
  | FUSE_RES_THEFT
  | FUSE_RES_PREFECT
  | FUSE_RES_REFTRIM
  | STRAP_BOOTSEL
  | IOB_STAT_VIO1
  | IOB_STAT_VIO2
  | IOB_STAT_VIO3
  | IOB_STAT_VIO4
  | IOB_CHG_CHG
  -- Table 2-7: 02 Table 2-7
  | OPEN_CFG_PERIOD
  | OPEN_CFG_EN
  | OPEN_SIG_SIG
  | OPEN_PAIR_PAIR
  | OPEN_GRP
  | OPEN_UNT_PAIR_U
  | OPEN_UNT_GRP_U
  -- Table 3-6: 03 R93
  | CT_STAT_MAIN
  | CT_STAT_HARV
  | CT_STAT_CELLP
  | CT_STAT_CELLON
  | CT_STAT_CHG
  | CT_STAT_SETFLT
  | CT_STAT_CELLLOW
  | CT_STAT_STFLT
  | CT_STAT_COLD
  | CT_STAT_REFUSED
  | CT_STAT_FINAL
  | CT_STAT_LIBOWN
  | PWR_STORE_VMAX
  | PWR_STORE_VFLOOR
  | PWR_CELL_ON
  | PWR_CELL_OFF
  | PWR_CELL_LOW
  | PWR_CELL_ILIM
  | PWR_CELLQ
  | GAUGE_V_VSTORE
  | GAUGE_V_VCELL
  | GAUGE_CAP_CAP
  | GAUGE_CAP_LIM
  | GAUGE_E
  | GAUGE_RSV
  | GAUGE_COST_COST
  | PWR_SW_PD1_ON
  | PWR_SW_PD2_ON
  | PWR_SW_PD1_PG
  | PWR_SW_PD2_PG
  | PWR_SW_PD1_OC
  | PWR_SW_PD2_OC
  | PWR_MON_VCORE_OK
  | PWR_MON_VANA_OK
  | PWR_MON_VPF_OK
  | PWR_MON_DROOPS
  -- Table 4-3: 04 R114
  | CLK_STAT_XIN_OK
  | CLK_STAT_E0_LK
  | CLK_STAT_E1_LK
  | CLK_STAT_E_SEL
  | CLK_STAT_A_LK
  | CLK_STAT_B_LK
  | CLK_STAT_C_LK
  | CLK_STAT_N_LK
  | CLK_STAT_E_SW
  | CLK_STAT_XIN_LOST
  | CLK_EN_PLLA_EN
  | CLK_EN_PLLB_EN
  | CLK_SYNC_MODE
  | CLK_SYNC_OUTSRC
  | CLK_SYNC_OUTEN
  | CLK_SYNC_REFUSED
  | CLK_SYNC_MISSED
  | CLK_SYNC_SLEW_INT
  | SYNC_PER
  | SYNC_OFS
  | SYNC_ERR_ERR
  | CLK_RATE
  | TB_LO
  | TB_HI
  | TB_PPS_PHASE
  | TB_PPS_EN
  | RTC_SUB_FRAC
  | RTC_SUB_RCSRC
  | RTC_SEC
  | RTC_SECH_SECH
  | CT_RCTRIM_EN
  | CT_RCTRIM_TRIMMED
  -- Table 5-6: 05 R145
  | SAR_CTRL_SLOT_EN
  | SAR_REF_SEL
  | SAR_REF_REF_READY
  | SAR_REF_EXT_RANGE
  | SAR_CAL_ROT_EN
  | SAR_CAL_FGCAL
  | SAR_CAL_ROT_STOP
  | SAR_CAL_CALLATE
  | SAR_CAL_MATCH_TOL
  | SAR_CALPOS_STEP
  | SAR_CALPOS_PHASE
  | SAR_CALPOS_ROUND
  | SAR_CALSKIP_SKIP
  | SAR_MAP_SUBSLOT
  | SAR_MAP_RETIRED
  | SAR_SWTRIG_TRIG
  | SAR_TRIG_SRC
  | SAR_TRIG_PMSEL
  | SAR_TRIG_EVT
  | SAR_TRIG_SEQ_LEN
  | SAR_TRIG_DIV
  | SAR_SEQ_E0
  | SAR_SEQ_E1
  | SAR_SEQ_E2
  | SAR_SEQ_E3
  | SAR_INJ_IN
  | SAR_INJ_EXT
  | SAR_STAT_INJQ
  | SAR_STAT_INJOVF
  | SAR_STAT_TRIGLOST
  | SAR_STAT_INVALID
  | SAR_LAST
  | SAR_LASTT
  | SAR_COFS_OFS
  | SAR_CGAIN_GAIN
  | SAR_CSTAT_OK
  | SAR_CSTAT_FAIL
  | SAR_CSTAT_FAILS
  | SAR_CSTAT_AGE
  -- Table 6-2: 06 R167
  | MOD_CTRL_CH_EN
  | MOD_THEFT_GRP
  | MOD_THEFT_CHSEL
  | MOD_STAT_CLKLOST
  | MOD_STAT_CLKEV
  | MOD_DLOST_LOST
  | MOD_DLEV_EV
  | MOD_CLK_MODE
  | MOD_CLK_DIV
  | MOD_CLK_EDGE
  | MOD_CLK_DLY
  | MOD_CLK_STUCK
  | MOD_CFG_ORDER
  | MOD_CFG_OSR
  | MOD_CFG_GOSR
  | MOD_CFG_SYNC
  | MOD_CFG_PMSEL
  | MOD_CFG_EVT
  | MOD_FDLY_FDLY
  | MOD_GTHR_HI
  | MOD_GTHR_LO
  | MOD_GCFG_TG
  | MOD_GCFG_LATCH
  | MOD_GCFG_LINK
  | MOD_GCFG_LOSSTRIP
  | MOD_GCFG_GEN
  | MOD_GCFG_TRIPPED
  | MOD_GCFG_CLR
  | MOD_STAT_INVALID
  | MOD_STAT_GTRIPS
  | MOD_LAST
  | MOD_LASTT
  -- Table 7-7: 07 R186
  | TG_STAT_ACTIVE
  | TG_STAT_SEEN
  | TG_FORCE_FORCE
  | TG_ROUTE_PM
  | TG_FIRST_SRC
  | TG_FTS
  | WC_THR_LO
  | WC_THR_HI
  | WC_CFG_MODE
  | WC_CFG_HYST
  | WC_CFG_TG
  | WC_CFG_LATCH
  | WC_CFG_LINK
  | WC_CFG_LEBEDGE
  | WC_CFG_TRIPPED
  | WC_CFG_SIDE
  | WC_CFG_CLR
  | WC_LEB_LEBT
  | WC_STAT_TRIPS
  | WC_STAT_RAWHI
  | WC_STAT_RAWLO
  -- Table 8-9: 08 R224
  | PWM_CTRL_CMODE
  | PWM_CTRL_RLD
  | PWM_CTRL_OUTMODE
  | PWM_CTRL_STRETCH
  | PWM_CTRL_TRIPLEN
  | PWM_CTRL_DBGRUN
  | PWM_CTRL_LINKOUT
  | PWM_CTRL_FOLLOW
  | PWM_CTRL_SH
  | PWM_CTRL_SL
  | PWM_CTRL_OWNER
  | PWM_CTRL_FORWARD
  | PWM_RUN_CNT_EN
  | PWM_RUN_OUTEN
  | PWM_RUN_ARM
  | PWM_STAT_RUNNING
  | PWM_STAT_OUTACT
  | PWM_STAT_TRIPPED
  | PWM_STAT_TRIPL
  | PWM_STAT_DIR
  | PWM_STAT_SUPPR
  | PWM_STAT_STRETCHED
  | PWM_STAT_CARRYSAT
  | PWM_STAT_LATE
  | PWM_STAT_SUPCNT
  | PWM_CNT_CNT
  | PWM_CTABH_EVT0
  | PWM_CTABH_ACT0
  | PWM_CTABH_EVT1
  | PWM_CTABH_ACT1
  | PWM_CTABH_EVT2
  | PWM_CTABH_ACT2
  | PWM_CTABH_EVT3
  | PWM_CTABH_ACT3
  | PWM_CTABL_RULES01
  | PWM_CTABL_RULES23
  | PWM_MINPW_MINPW
  | PWM_LOAD_LOADCNT
  | PWM_LOAD_LOADDIR
  | PWM_TCFG_T0DIR
  | PWM_TCFG_T1DIR
  | PWM_ERSEL_SEL
  | PWM_CARRY_CARRY
  | PWM_START
  | PWM_INT_ISEL
  | PWM_INT_PRESC
  | PWM_INT_IEN
  | PWM_INT_ICNT
  | PWM_INT_IFLAG
  | PWM_SHD0L
  | PWM_SHD0H
  | PWM_SHD1L
  | PWM_SHD1H
  | PWM_SHD2L
  | PWM_SHD2H
  | PWM_ACT0L
  | PWM_ACT0H
  | PWM_ACT1L
  | PWM_ACT1H
  | PWM_ACT2L
  | PWM_ACT2H
  | PWM_GSTART_MASK
  | PWM_DLSTAT_DL_LOCK
  | PWM_DLSTAT_DL_LOST
  | PWM_STGDROP
  -- Table 9-4: 09 R244
  | GI_SHUT_BUSY
  | GI_DEFER_DEFER
  | GI_LOCKED_LOCK
  | GI_RSPSTAT_ACTED
  | GI_SWTRIG_TRIG
  | GI_FLTLVL_LOW
  | GI_FLTSEEN_SEEN
  | GI_RDYLVL_HIGH
  | GI_RDYLOST_LOST
  | GI_SHOOT_SHOOT
  | GI_MISC_SEQFB
  | RSP_CFG_ACT
  | RSP_CFG_SCOPE
  | RSP_CFG_LOCK
  | RSP_CFG_IRQ
  | RSP_MASK_MASK
  | GSEQ_LEG_MA
  | GSEQ_LEG_MB
  | GSEQ_LEG_OUTER
  | GSEQ_LEG_EN
  | GSEQ_LEG_GAP
  | GI_CH_BLANK
  | GI_CH_FILT
  | GI_CH_FLTEN
  | GI_CH_RDYCHK
  | GI_CH_RFILT
  | GI_REF_REFRESH_W
  | GI_REF_REFRESH_N
  | GI_FTS
  | GI_CNT_FLTCNT
  | GI_CNT_REFCNT
  | GI_CNT_SHOOTCNT
  -- Table 10-12: 10 R277
  | LT_CFG_SRC
  | LT_CFG_HEAD
  | LT_CFG_DIR
  | LT_CFG_DIV
  | LT_PER_PER
  | LT_MATCH_CNT
  | LT_STAT_HEADMODE
  | LT_STAT_FALLBACK
  | LT_STAT_SKIPPED
  | LT_COUNT
  | LT_LAST
  | LT_LEN_LEN
  | LE_MAP_SEA
  | LE_MAP_SEB
  | LE_MAP_RET
  | LE_MAP_SEA_RET
  | LE_MAP_SEB_RET
  | LE_SUBST_COPYA
  | LE_SUBST_COPYB
  | LE_SUBST_IMGA
  | LE_SUBST_IMGB
  | LE_SUBGO_GOA
  | LE_SUBGO_GOB
  | LE_CTRL_EN
  | LE_CTRL_OVR_LIMIT
  | LE_CMD_MAN
  | LE_CMD_RETIRE
  | LE_STAT_RUNNING
  | LE_STAT_OVRLIM
  | LE_STAT_FAULT
  | LE_STAT_FCAUSE
  | LE_STAT_OVRCONS
  | LE_STAT_OVRCNT
  | LE_STAT_INVCNT
  | LE_TIME_LAST
  | LE_TMAX_MAX
  | LE_WCET_BOUND
  | LE_SNAP_BASE
  | LE_SNAP_LEN
  | LE_FLAGS_FLAGS
  | LE_FLAGS_PC
  -- Table 13-7: 13 R338
  | BUR_CTRL_AC_EN
  | BUR_CTRL_DC_EN
  | BUR_CTRL_THEFT_EN
  | BUR_LATCH_REQ
  | BUR_LSTAT_LSEQ
  | BUR_LSTAT_PEND
  | BUR_SAVE_INT
  | BUR_SAVE_NOW
  | BUR_STAT_RESTORED
  | BUR_STAT_SPANPEND
  | BUR_STAT_SAVEREF
  | BUR_STAT_GAP
  | BUR_STAT_TAMPER
  | BUR_LASTSV
  | BUR_THEFT
  | BUR_TSKIP
  | BUR_TCLR_THEFT_CLR
  | BUR_TQ
  | BUR_TGAIN
  | BUR_SRC_VA
  | BUR_SRC_VB
  | BUR_SRC_VC
  | BUR_ISRC_IA
  | BUR_ISRC_IB
  | BUR_ISRC_IC
  | BUR_CFG_INV
  | BUR_CFG_F60
  | BUR_UDIN
  | BUR_INOM
  | BUR_PRAT
  | BUR_EVT_SAG
  | BUR_EVT_SWL
  | BUR_EVT2_INT
  | BUR_EVT2_HYS
  | BUR_GV
  | BUR_OV
  | BUR_GI
  | BUR_OI
  | BUR_PH_PH
  | BUR_LHDR_LSEQ
  | BUR_LTS
  | BUR_LGAP
  | BUR_LAL
  | BUR_LAH
  | BUR_PUB
  -- Table 14-8: 14 R364
  | HP_CTRL_MODE
  | HP_CTRL_AUTOHO
  | HP_CTRL_BISTEN
  | HP_LEASE_LEASE
  | HP_LEASE_RPP
  | HP_RENEW_RENEW
  | HP_CMD_CMD
  | HP_STAT_HOLDER
  | HP_STAT_STATEA
  | HP_STAT_STATEB
  | HP_STAT_STALE
  | HP_STAT_LINKFLT
  | HP_STAT_HOREQ
  | HP_STAT_TRANSFER
  | HP_STAT_ARBDEG
  | HP_STAT_REFUSE
  | HP_LREM_LREMA
  | HP_LREM_LREMB
  | HP_RING_BASE
  | HP_TUTOR_OFS
  | HP_TUTOR_LEN
  | HP_SEQL
  | HP_SEQH
  | HP_AGE
  | HP_REARM_MASK
  | HP_STALE_STALE_MS
  | HP_STALE_FRESH_MS
  | HP_CNT_TKO
  | HP_CNT_HANDO
  | HP_CNT_RENDISC
  | HP_CNT_SNAPSKIP
  | HP_BIST_A_OK
  | HP_BIST_B_OK
  | HP_BIST_A_FAILS
  | HP_BIST_B_FAILS
  | HP_TKO_DUR
  | HP_TKO_AGE
  -- Table 15-10: 15 R390
  | INT_CTRL_SCR_EN
  | INT_CTRL_AUTOREP
  | INT_CTRL_AUTORET
  | INT_CTRL_CEVT
  | INT_STAT_OVERDUE
  | INT_STAT_RECFULL
  | INT_STAT_FLOOR
  | SAT_BANK_INSERV
  | SAT_BANK_RETIRED
  | SAT_RET_BANK
  | SAT_RET_GO
  | REP_CNT_USED
  | REP_LOAD_COUNT
  | AGE_CFG_WARN
  | SCR_PASS_PASS
  | SCR_POS_WORD
  | SCR_CNT_CORR
  | SCR_CNT_UNCORR
  | SCR_CNT_HARD
  | SCR_DONE
  | INT_LASTA
  | INT_LASTC
  | REPC_SHIP_TOTAL
  | REPC_SHIP_CONSUMED
  | REPC_REM_REMAIN
  | REPC_REM_FLOOR
  | AGE_SLOW
  | AGE_WARN
  -- Table 16-7: 16 R408
  | LIB_CTRL_EN
  | LIB_CTRL_XIP
  | LIB_STAT_READY
  | LIB_STAT_NAND
  | LIB_STAT_OCT
  | LIB_STAT_REFRESHING
  | LIB_STAT_FULL
  | LIB_STAT_UNCORR
  | LIB_GEOM_PAGE_L2
  | LIB_GEOM_ERASE_L2
  | LIB_GEOM_BLOCKS
  | LIB_RET_REFRESH_DAYS
  | LIB_RET_REF_BITS
  | LIB_WL_WL_DIFF
  | LIB_WL_FREE_MIN
  | LIB_CRES_SAVES
  | LIB_CRES_FINALS
  | LIB_CRES_FPT
  | LIB_CNT0_CORRCW
  | LIB_CNT0_UNCORR
  | LIB_CNT0_BADNEW
  | LIB_CNT1_BAD
  | LIB_CNT1_SPARE
  | LIB_REF
  | LIB_REFUSE_REFUSED
  | LIB_EMAX
  -- Table 17-9: 17 R425
  | SEC_STAT_LOCK
  | SEC_STAT_PUF_OK
  | SEC_STAT_MAPDIFF
  | SEC_STAT_NOIMG
  | SEC_STAT_BSBAD
  | SEC_STAT_SLOTA
  | SEC_STAT_SLOTB
  | SEC_LOCK_LOCK
  | SEC_BLK_BLK
  | SEC_BLK_PORT
  | SEC_SATL
  | SEC_SATH
  | SEC_LIB_AREA
  | SEC_FUSE_SVN
  | SEC_FUSE_OWNERS
  | SEC_FUSE_VENDOR_OFF
  | SEC_CMD_CMD
  | SEC_CMDA
  | SEC_CMDST_BUSY
  | SEC_CMDST_RESULT
  | SEC_VIOL_INIT
  | SEC_VIOLA
  | SEC_PREF_SLOT
  -- Table 18-5: 18 R443
  | PF_STAT_STATE
  | PF_STAT_SEALOK
  | PF_STAT_SPRA
  | PF_STAT_SPRB
  | PF_STAT_XTALSKIP
  | PF_STAT_FCAUSE
  | PF_CFG_CFGSW
  | PF_CFG_COMSET
  | PF_CFG_SLOTS
  | PF_CFG_SWBAD
  | PF_CFG_CFGCHG
  | PF_HASH
  | PF_CNT_DEMANDS
  | PF_CNT_TESTFAIL
  | PF_CNT_FAULTS
  | PF_LASTT
  | PF_REL_KEY
  | PF_COMMIT
  | PF_COMST_ARMED
  | PF_COMST_RESULT
  -- Table 19-8: 19 R468
  | PORT_EN_EN
  | PORT_FLT_FLT
  | RING_EPOCH
  | ETH_MDIO_PHYAD
  | ETH_MDIO_REGAD
  | ETH_MDIO_WRITE
  | ETH_MDIO_GO
  | ETH_MDIO_DATA
  | ETH_CFG_SPEED
  | ETH_CFG_ANEG
  | ETH_CFG_HDX
  | ETH_CFG_PROMISC
  | ETH_MACL
  | ETH_MACH_MAC
  | ETH_STAT_LINK
  | ETH_STAT_SPD
  | ETH_STAT_FDX
  | ETH_STAT_RXDROP
  | ETH_STAT_FCSERR
  | CAN_CFG_FDEN
  | CAN_CFG_BRSEN
  | CAN_CFG_LOOP
  | CAN_CFG_LISTEN
  | CAN_CFG_ABOREC
  | CAN_NBT_BRP
  | CAN_NBT_TSEG1
  | CAN_NBT_TSEG2
  | CAN_NBT_SJW
  | CAN_DBT_BRP
  | CAN_DBT_TSEG1
  | CAN_DBT_TSEG2
  | CAN_DBT_SJW
  | CAN_DBT_TDC
  | CAN_DBT_TDCO
  | CAN_STAT_TEC
  | CAN_STAT_REC
  | CAN_STAT_STATE
  | CAN_FLT_ID
  | CAN_FLT_IDE
  | CAN_FLT_EN
  | CAN_MSK_MASK
  | PEER_CFG_NUNITS
  | PEER_CFG_TRAIN
  | PEER_CFG_POS
  | PEER_CFG_TRAINED
  | PEER_CFG_CRCERR
  | CAP_CFG_SOURCE
  | CAP_CFG_DIV
  | CAP_CFG_EN
  | RING_BASE
  | RING_CFG_SIZE_L2
  | RING_CFG_OWNER
  | RING_CFG_EN
  | RING_CFG_IRQ
  | RING_HEAD_HEAD
  | RING_TAIL_TAIL
  | RING_STAT_HALT
  | RING_STAT_ERR
  | RING_STAT_DROP
  | RING_TAIL10B_TAIL
  -- Table 21-7: 21 R520
  | TUT_ID_HART
  | TUT_ID_NS
  | TUT_TKOV_ADDR
  | TUT_MSIP_MSIP
  | TUT_MTCMPL
  | TUT_MTCMPH
  | TUT_DBG_SEC_EN
  | TUT_DBG_NS_EN
  | TUT_DBG_LEHALT
  | TUT_IPEND
  | TUT_IEN
  | TUT_THR_THR
  | TUT_CLAIM_SRC
  | TUT_IPRIO_PRIO
  | GW_CTRL_OP
  | GW_CTRL_GO
  | GW_CTRL_BUSY
  | GW_CTRL_DONE
  | GW_CTRL_IEN
  | GW_ENTRY_SUB
  | GW_ENTRY_INDEX
  | GW_BUF
  | GW_OFS
  | GW_LEN_LEN
  | GW_EPOCH
  | GW_ABORT
  deriving DecidableEq, Repr

/-- Width in bits and access code of a field, from its table's Bits and Access columns. -/
structure FldSpec where
  width : Nat
  acc : Access
  deriving DecidableEq, Repr

/-- The width and the access code of each field (the Bits and Access columns). -/
def Fld.spec : Fld → FldSpec
  | .BELL_STAT_ROOT0_OK | .BELL_STAT_ROOT1_OK | .FUSE_RES_THEFT | .FUSE_RES_PREFECT | .FUSE_RES_REFTRIM
  | .CT_STAT_MAIN | .CT_STAT_HARV | .CT_STAT_CELLP | .CT_STAT_CELLON | .CT_STAT_CHG | .CT_STAT_SETFLT
  | .CT_STAT_CELLLOW | .CT_STAT_LIBOWN | .PWR_SW_PD1_PG | .PWR_SW_PD2_PG | .PWR_MON_VCORE_OK | .PWR_MON_VANA_OK
  | .PWR_MON_VPF_OK | .CLK_STAT_XIN_OK | .CLK_STAT_E0_LK | .CLK_STAT_E1_LK | .CLK_STAT_E_SEL | .CLK_STAT_A_LK
  | .CLK_STAT_B_LK | .CLK_STAT_C_LK | .CLK_STAT_N_LK | .RTC_SUB_RCSRC | .CT_RCTRIM_TRIMMED | .SAR_REF_REF_READY
  | .SAR_REF_EXT_RANGE | .SAR_CAL_FGCAL | .SAR_CAL_ROT_STOP | .SAR_CSTAT_OK | .SAR_CSTAT_FAIL | .MOD_GCFG_TRIPPED
  | .WC_CFG_TRIPPED | .WC_CFG_SIDE | .WC_STAT_RAWHI | .WC_STAT_RAWLO | .PWM_STAT_RUNNING | .PWM_STAT_OUTACT
  | .PWM_STAT_TRIPPED | .PWM_STAT_DIR | .PWM_DLSTAT_DL_LOCK | .LT_STAT_HEADMODE | .LE_MAP_SEA_RET | .LE_MAP_SEB_RET
  | .LE_SUBST_COPYA | .LE_SUBST_COPYB | .LE_STAT_RUNNING | .BUR_STAT_RESTORED | .BUR_STAT_SPANPEND | .HP_STAT_STALE
  | .HP_STAT_TRANSFER | .HP_STAT_ARBDEG | .HP_BIST_A_OK | .HP_BIST_B_OK | .AGE_WARN | .LIB_STAT_READY
  | .LIB_STAT_NAND | .LIB_STAT_OCT | .LIB_STAT_REFRESHING | .SEC_STAT_LOCK | .SEC_STAT_PUF_OK | .SEC_STAT_BSBAD
  | .SEC_FUSE_VENDOR_OFF | .SEC_CMDST_BUSY | .PF_STAT_SEALOK | .PF_STAT_SPRA | .PF_STAT_SPRB | .PF_STAT_XTALSKIP
  | .PF_CFG_SWBAD | .PF_CFG_CFGCHG | .PF_COMST_ARMED | .ETH_STAT_LINK | .ETH_STAT_FDX | .PEER_CFG_TRAINED
  | .TUT_ID_NS | .GW_CTRL_BUSY => ⟨1, .ro⟩
  | .BELL_COMP_ORIGIN | .OPEN_CFG_EN | .PWR_SW_PD1_ON | .PWR_SW_PD2_ON | .CLK_EN_PLLA_EN | .CLK_EN_PLLB_EN
  | .CLK_SYNC_OUTSRC | .CLK_SYNC_OUTEN | .TB_PPS_EN | .CT_RCTRIM_EN | .SAR_CAL_ROT_EN | .PWM_RUN_CNT_EN
  | .PWM_RUN_OUTEN | .PWM_RUN_ARM | .PWM_INT_IEN | .LE_CMD_MAN | .HP_CTRL_BISTEN | .INT_CTRL_AUTOREP
  | .INT_CTRL_AUTORET | .INT_CTRL_CEVT | .LIB_CTRL_EN | .LIB_CTRL_XIP | .ETH_MDIO_WRITE | .ETH_MDIO_GO
  | .ETH_CFG_ANEG | .ETH_CFG_HDX | .ETH_CFG_PROMISC | .CAN_CFG_FDEN | .CAN_CFG_BRSEN | .CAN_CFG_LOOP
  | .CAN_CFG_LISTEN | .CAN_CFG_ABOREC | .CAN_DBT_TDC | .CAN_FLT_IDE | .CAN_FLT_EN | .CAP_CFG_EN | .RING_CFG_EN
  | .RING_CFG_IRQ | .GW_CTRL_IEN => ⟨1, .rw⟩
  | .MOD_CLK_EDGE | .MOD_CFG_ORDER | .MOD_GCFG_LATCH | .MOD_GCFG_LOSSTRIP | .MOD_GCFG_GEN | .WC_CFG_LATCH
  | .PWM_CTRL_OUTMODE | .PWM_CTRL_STRETCH | .PWM_CTRL_TRIPLEN | .PWM_CTRL_DBGRUN | .PWM_CTRL_FOLLOW | .PWM_CTRL_SH
  | .PWM_CTRL_SL | .PWM_CTRL_OWNER | .PWM_CTRL_FORWARD | .PWM_LOAD_LOADDIR | .RSP_CFG_SCOPE | .RSP_CFG_LOCK
  | .RSP_CFG_IRQ | .GSEQ_LEG_EN | .GI_CH_FLTEN | .GI_CH_RDYCHK | .LT_CFG_DIR | .LE_CTRL_EN | .BUR_CTRL_THEFT_EN
  | .BUR_CFG_INV | .BUR_CFG_F60 | .HP_CTRL_MODE | .HP_CTRL_AUTOHO => ⟨1, .rwl⟩
  | .BELL_STAT_BAR_DONE | .BELL_STAT_BAR_TO | .CT_STAT_STFLT | .CT_STAT_COLD | .CT_STAT_REFUSED | .CT_STAT_FINAL
  | .PWR_SW_PD1_OC | .PWR_SW_PD2_OC | .CLK_STAT_E_SW | .CLK_STAT_XIN_LOST | .CLK_SYNC_REFUSED | .CLK_SYNC_MISSED
  | .SAR_CAL_CALLATE | .SAR_STAT_INJOVF | .PWM_STAT_TRIPL | .PWM_STAT_SUPPR | .PWM_STAT_STRETCHED
  | .PWM_STAT_CARRYSAT | .PWM_INT_IFLAG | .PWM_DLSTAT_DL_LOST | .GI_MISC_SEQFB | .LT_STAT_FALLBACK
  | .LT_STAT_SKIPPED | .LE_SUBST_IMGA | .LE_SUBST_IMGB | .LE_STAT_OVRLIM | .LE_STAT_FAULT | .BUR_STAT_SAVEREF
  | .BUR_STAT_GAP | .BUR_STAT_TAMPER | .HP_STAT_LINKFLT | .HP_STAT_HOREQ | .INT_STAT_RECFULL | .INT_STAT_FLOOR
  | .LIB_STAT_FULL | .LIB_STAT_UNCORR | .SEC_STAT_MAPDIFF | .SEC_STAT_NOIMG | .RING_STAT_HALT | .GW_CTRL_DONE => ⟨1, .w1c⟩
  | .SEC_LOCK_LOCK | .TUT_DBG_SEC_EN | .TUT_DBG_NS_EN => ⟨1, .w1s⟩
  | .BELL_REQ_APPLY | .BELL_REQ_LATCH | .BELL_REQ_BARRIER | .MOD_GCFG_CLR | .WC_CFG_CLR | .LE_SUBGO_GOA
  | .LE_SUBGO_GOB | .LE_CMD_RETIRE | .BUR_SAVE_NOW | .BUR_TCLR_THEFT_CLR | .HP_RENEW_RENEW | .SAT_RET_GO
  | .PEER_CFG_TRAIN | .GW_CTRL_GO => ⟨1, .wo⟩
  | .FUSE_RES_MUXIN | .STRAP_BOOTSEL | .IOB_STAT_VIO1 | .IOB_STAT_VIO2 | .IOB_STAT_VIO3 | .IOB_STAT_VIO4
  | .HP_STAT_HOLDER | .SEC_STAT_SLOTA | .SEC_STAT_SLOTB | .ETH_STAT_SPD | .CAN_STAT_STATE | .TUT_ID_HART => ⟨2, .ro⟩
  | .PWR_CELL_ILIM | .CLK_SYNC_MODE | .SEC_LIB_AREA | .SEC_PREF_SLOT | .ETH_CFG_SPEED | .RING_CFG_OWNER
  | .TUT_MSIP_MSIP | .GW_CTRL_OP => ⟨2, .rw⟩
  | .SAR_REF_SEL | .SAR_TRIG_EVT | .SAR_TRIG_SEQ_LEN | .MOD_CLK_MODE | .MOD_CFG_SYNC | .MOD_CFG_EVT | .WC_CFG_MODE
  | .WC_CFG_LEBEDGE | .PWM_CTRL_CMODE | .PWM_CTRL_RLD | .PWM_CTABH_ACT0 | .PWM_CTABH_ACT1 | .PWM_CTABH_ACT2
  | .PWM_CTABH_ACT3 | .PWM_TCFG_T0DIR | .PWM_TCFG_T1DIR | .RSP_CFG_ACT | .LT_CFG_SRC | .LT_CFG_HEAD => ⟨2, .rwl⟩
  | .SAR_INJ_IN | .GI_SWTRIG_TRIG => ⟨2, .wo⟩
  | .FUSE_RES_MCLK_CNT | .SAR_CALPOS_PHASE | .SAR_STAT_INJQ | .HP_STAT_STATEA | .HP_STAT_STATEB | .HP_STAT_REFUSE
  | .SEC_CMDST_RESULT | .PF_STAT_STATE | .PF_COMST_RESULT => ⟨3, .ro⟩
  | .PWM_INT_ISEL | .LIB_CRES_FPT | .TUT_THR_THR | .TUT_IPRIO_PRIO => ⟨3, .rw⟩
  | .SAR_TRIG_SRC | .MOD_THEFT_GRP | .MOD_CLK_STUCK | .PWM_CTRL_LINKOUT | .PWM_CTABH_EVT0 | .PWM_CTABH_EVT1
  | .PWM_CTABH_EVT2 | .PWM_CTABH_EVT3 | .HP_LEASE_RPP => ⟨3, .rwl⟩
  | .FUSE_RES_MPPT_CNT | .PWM_INT_ICNT | .LE_MAP_SEA | .LE_MAP_SEB | .LE_STAT_FCAUSE | .LIB_GEOM_PAGE_L2
  | .SEC_FUSE_OWNERS | .PF_CFG_COMSET => ⟨4, .ro⟩
  | .PWM_INT_PRESC | .CAN_DBT_TSEG2 | .CAN_DBT_SJW | .RING_CFG_SIZE_L2 => ⟨4, .rw⟩
  | .MOD_THEFT_CHSEL | .MOD_CLK_DLY | .PWM_ERSEL_SEL | .GSEQ_LEG_OUTER | .BUR_CTRL_AC_EN | .BUR_CTRL_DC_EN => ⟨4, .rwl⟩
  | .IOB_CHG_CHG => ⟨4, .w1c⟩
  | .HP_CMD_CMD | .SAT_RET_BANK | .SEC_CMD_CMD => ⟨4, .wo⟩
  | .FUSE_RES_PM_CNT | .FUSE_RES_MD_CNT | .SAR_CALPOS_STEP | .SAR_MAP_SUBSLOT | .LIB_GEOM_ERASE_L2
  | .PF_STAT_FCAUSE | .PEER_CFG_NUNITS | .PEER_CFG_POS => ⟨5, .ro⟩
  | .LIB_RET_REF_BITS | .SEC_BLK_PORT | .PORT_EN_EN | .ETH_MDIO_PHYAD | .ETH_MDIO_REGAD | .CAN_DBT_BRP
  | .CAN_DBT_TSEG1 | .TUT_CLAIM_SRC => ⟨5, .rw⟩
  | .SAR_TRIG_PMSEL | .MOD_CFG_PMSEL | .MOD_GCFG_LINK | .WC_CFG_LINK | .GSEQ_LEG_MA | .GSEQ_LEG_MB => ⟨5, .rwl⟩
  | .PORT_FLT_FLT => ⟨5, .w1c⟩
  | .FUSE_RES_WC_CNT | .MOD_STAT_CLKLOST => ⟨6, .ro⟩
  | .TUT_DBG_LEHALT => ⟨6, .rw⟩
  | .MOD_CLK_DIV | .MOD_CFG_GOSR | .HP_RING_BASE => ⟨6, .rwl⟩
  | .MOD_STAT_CLKEV => ⟨6, .w1c⟩
  | .SAR_INJ_EXT => ⟨6, .wo⟩
  | .PF_CFG_SLOTS | .RING_STAT_ERR => ⟨7, .ro⟩
  | .SEC_BLK_BLK | .CAN_NBT_TSEG2 | .CAN_NBT_SJW | .CAN_DBT_TDCO => ⟨7, .rw⟩
  | .WC_CFG_HYST => ⟨7, .rwl⟩
  | .SAR_STAT_TRIGLOST | .SAR_STAT_INVALID | .MOD_STAT_INVALID | .MOD_STAT_GTRIPS | .WC_STAT_TRIPS | .PWM_STAT_LATE
  | .PWM_STAT_SUPCNT | .GI_CNT_FLTCNT | .GI_CNT_REFCNT | .GI_CNT_SHOOTCNT | .LE_STAT_OVRCNT | .LE_STAT_INVCNT
  | .HP_CNT_RENDISC | .HP_CNT_SNAPSKIP | .SCR_CNT_UNCORR | .SCR_CNT_HARD | .LIB_CNT0_UNCORR | .LIB_CNT0_BADNEW
  | .ETH_STAT_RXDROP | .ETH_STAT_FCSERR | .PEER_CFG_CRCERR | .RING_STAT_DROP => ⟨8, .rc⟩
  | .BELL_STAT_BAR_ID | .FUSE_VARIANT_VARIANT | .FUSE_VARIANT_STEP | .OPEN_UNT_GRP_U | .PWR_MON_DROOPS
  | .SAR_CSTAT_FAILS | .TG_STAT_ACTIVE | .TG_FIRST_SRC | .LE_STAT_OVRCONS | .BUR_LSTAT_PEND | .HP_CNT_TKO
  | .HP_CNT_HANDO | .HP_BIST_A_FAILS | .HP_BIST_B_FAILS | .SEC_FUSE_SVN | .SEC_VIOL_INIT | .PF_CFG_CFGSW
  | .PF_CNT_TESTFAIL | .PF_CNT_FAULTS | .CAN_STAT_TEC | .CAN_STAT_REC => ⟨8, .ro⟩
  | .BELL_CFG_CADENCE | .OPEN_CFG_PERIOD | .PWR_STORE_VMAX | .PWR_STORE_VFLOOR | .PWR_CELL_ON | .PWR_CELL_OFF
  | .PWR_CELL_LOW | .SAR_CAL_MATCH_TOL | .TG_FORCE_FORCE | .INT_CTRL_SCR_EN | .LIB_WL_FREE_MIN | .CAN_NBT_BRP
  | .CAN_NBT_TSEG1 | .CAP_CFG_SOURCE | .CAP_CFG_DIV | .GW_ENTRY_SUB => ⟨8, .rw⟩
  | .SAR_TRIG_DIV | .SAR_SEQ_E0 | .SAR_SEQ_E1 | .SAR_SEQ_E2 | .SAR_SEQ_E3 | .MOD_GCFG_TG | .WC_CFG_TG
  | .WC_LEB_LEBT | .GI_CH_FILT | .GI_CH_RFILT | .GI_REF_REFRESH_N | .LT_CFG_DIV | .LE_CTRL_OVR_LIMIT | .BUR_SRC_VA
  | .BUR_SRC_VB | .BUR_SRC_VC | .BUR_ISRC_IA | .BUR_ISRC_IB | .BUR_ISRC_IC => ⟨8, .rwl⟩
  | .TG_STAT_SEEN | .INT_STAT_OVERDUE => ⟨8, .w1c⟩
  | .BELL_REQ_GROUP | .BELL_REQ_POINTS | .BELL_REQ_BARRIER_ID | .BUR_LATCH_REQ => ⟨8, .wo⟩
  | .OPEN_UNT_PAIR_U => ⟨9, .ro⟩
  | .OPEN_PAIR_PAIR => ⟨9, .w1c⟩
  | .HP_LREM_LREMA | .HP_LREM_LREMB | .REP_CNT_USED => ⟨10, .ro⟩
  | .MOD_FDLY_FDLY => ⟨10, .rw⟩
  | .MOD_CFG_OSR | .GSEQ_LEG_GAP | .GI_CH_BLANK | .HP_LEASE_LEASE | .HP_TUTOR_LEN => ⟨10, .rwl⟩
  | .REP_LOAD_COUNT => ⟨10, .wo⟩
  | .BUR_SAVE_INT => ⟨11, .rw⟩
  | .PWM_MINPW_MINPW => ⟨11, .rwl⟩
  | .FAB_LOAD0_LOAD | .FAB_LOAD1_LOAD | .FAB_LOAD2_LOAD | .FAB_LOAD3_LOAD | .GAUGE_V_VSTORE | .GAUGE_V_VCELL
  | .LE_MAP_RET | .LE_FLAGS_PC | .HP_TKO_DUR => ⟨12, .ro⟩
  | .WC_THR_LO | .WC_THR_HI | .LIB_RET_REFRESH_DAYS | .LIB_CRES_FINALS | .RING_HEAD_HEAD | .RING_TAIL_TAIL
  | .RING_TAIL10B_TAIL => ⟨12, .rw⟩
  | .GI_REF_REFRESH_W => ⟨12, .rwl⟩
  | .LE_SNAP_BASE | .LE_SNAP_LEN => ⟨13, .rwl⟩
  | .RTC_SUB_FRAC => ⟨15, .ro⟩
  | .BELL_DIV_DIVERGE | .SCR_CNT_CORR | .LIB_CNT0_CORRCW | .LIB_REFUSE_REFUSED => ⟨16, .rc⟩
  | .BELL_STAT_SEQ | .BELL_HOP_HOP | .GAUGE_CAP_CAP | .SAR_COFS_OFS | .SAR_CSTAT_AGE | .LE_FLAGS_FLAGS
  | .BUR_LSTAT_LSEQ | .BUR_LHDR_LSEQ | .HP_TKO_AGE | .SAT_BANK_INSERV | .SAT_BANK_RETIRED | .REPC_SHIP_TOTAL
  | .REPC_SHIP_CONSUMED | .REPC_REM_REMAIN | .REPC_REM_FLOOR | .AGE_SLOW | .LIB_GEOM_BLOCKS | .LIB_CNT1_BAD
  | .LIB_CNT1_SPARE | .PF_CNT_DEMANDS => ⟨16, .ro⟩
  | .BELL_COMP_COMP | .GAUGE_CAP_LIM | .CLK_SYNC_SLEW_INT | .RTC_SECH_SECH | .MOD_GTHR_HI | .MOD_GTHR_LO
  | .HP_STALE_STALE_MS | .HP_STALE_FRESH_MS | .AGE_CFG_WARN | .LIB_WL_WL_DIFF | .LIB_CRES_SAVES | .ETH_MDIO_DATA
  | .ETH_MACH_MAC | .GW_ENTRY_INDEX | .GW_LEN_LEN => ⟨16, .rw⟩
  | .SAR_CTRL_SLOT_EN | .PWM_CTABL_RULES01 | .PWM_CTABL_RULES23 | .BUR_EVT_SAG | .BUR_EVT_SWL | .BUR_EVT2_INT
  | .BUR_EVT2_HYS | .BUR_PH_PH | .HP_TUTOR_OFS => ⟨16, .rwl⟩
  | .OPEN_SIG_SIG | .GI_RSPSTAT_ACTED => ⟨16, .w1c⟩
  | .SAR_SWTRIG_TRIG | .PF_REL_KEY => ⟨16, .wo⟩
  | .SAR_MAP_RETIRED => ⟨17, .ro⟩
  | .SCR_PASS_PASS => ⟨17, .rw⟩
  | .SAR_CALSKIP_SKIP => ⟨17, .w1c⟩
  | .SCR_POS_WORD => ⟨18, .ro⟩
  | .TUT_TKOV_ADDR => ⟨18, .rw⟩
  | .LE_TMAX_MAX => ⟨20, .rc⟩
  | .PWM_CNT_CNT | .LT_LEN_LEN | .LE_TIME_LAST | .LE_WCET_BOUND => ⟨20, .ro⟩
  | .PWM_LOAD_LOADCNT | .LT_PER_PER | .LT_MATCH_CNT => ⟨20, .rwl⟩
  | .SYNC_ERR_ERR | .SAR_CALPOS_ROUND | .SAR_CGAIN_GAIN | .MOD_DLOST_LOST | .PWM_CARRY_CARRY | .GI_SHUT_BUSY
  | .GI_FLTLVL_LOW | .GI_RDYLVL_HIGH => ⟨24, .ro⟩
  | .GAUGE_COST_COST => ⟨24, .rw⟩
  | .MOD_CTRL_CH_EN | .TG_ROUTE_PM | .RSP_MASK_MASK => ⟨24, .rwl⟩
  | .MOD_DLEV_EV | .GI_DEFER_DEFER | .GI_LOCKED_LOCK | .GI_FLTSEEN_SEEN | .GI_RDYLOST_LOST | .GI_SHOOT_SHOOT => ⟨24, .w1c⟩
  | .PWM_GSTART_MASK | .HP_REARM_MASK => ⟨24, .wo⟩
  | .CAN_FLT_ID | .CAN_MSK_MASK => ⟨29, .rw⟩
  | .TB_PPS_PHASE => ⟨30, .rw⟩
  | .FAB_DROP | .CH_STALL | .PWM_STGDROP => ⟨32, .rc⟩
  | .BELL_BART | .BELL_MISS0 | .BELL_MISS1 | .OPEN_GRP | .GAUGE_E | .TB_LO | .TB_HI | .SAR_LAST | .SAR_LASTT
  | .MOD_LAST | .MOD_LASTT | .TG_FTS | .PWM_ACT0L | .PWM_ACT0H | .PWM_ACT1L | .PWM_ACT1H | .PWM_ACT2L | .PWM_ACT2H
  | .GI_FTS | .LT_COUNT | .LT_LAST | .BUR_LASTSV | .BUR_TSKIP | .BUR_TQ | .BUR_LTS | .BUR_LGAP | .BUR_LAL
  | .BUR_LAH | .BUR_PUB | .HP_SEQL | .HP_SEQH | .HP_AGE | .SCR_DONE | .INT_LASTA | .INT_LASTC | .LIB_REF
  | .LIB_EMAX | .SEC_VIOLA | .PF_HASH | .PF_LASTT | .RING_EPOCH | .TUT_IPEND | .GW_ABORT => ⟨32, .ro⟩
  | .PWR_CELLQ | .GAUGE_RSV | .SYNC_PER | .SYNC_OFS | .CLK_RATE | .RTC_SEC | .PWM_START | .PWM_SHD0L | .PWM_SHD0H
  | .PWM_SHD1L | .PWM_SHD1H | .PWM_SHD2L | .PWM_SHD2H | .SEC_SATL | .SEC_SATH | .SEC_CMDA | .ETH_MACL | .RING_BASE
  | .TUT_MTCMPL | .TUT_MTCMPH | .TUT_IEN | .GW_BUF | .GW_OFS | .GW_EPOCH => ⟨32, .rw⟩
  | .BUR_THEFT | .BUR_TGAIN | .BUR_UDIN | .BUR_INOM | .BUR_PRAT | .BUR_GV | .BUR_OV | .BUR_GI | .BUR_OI => ⟨32, .rwl⟩
  | .PF_COMMIT => ⟨32, .wo⟩

/-- The width of a field in bits. -/
def Fld.width (f : Fld) : Nat := f.spec.width
/-- The access code of a field. -/
def Fld.acc (f : Fld) : Access := f.spec.acc

/-- The Reset column of a field whose instances all reset alike. -/
def Fld.resetWord (f : Fld) : Nat :=
  match f with
  | .BELL_CFG_CADENCE | .BELL_STAT_ROOT0_OK | .BELL_STAT_ROOT1_OK | .FUSE_RES_THEFT | .FUSE_RES_PREFECT
  | .FUSE_RES_REFTRIM | .OPEN_CFG_EN | .CT_STAT_MAIN | .CT_STAT_CHG | .CT_STAT_COLD | .PWR_CELL_ILIM
  | .PWR_SW_PD1_ON | .PWR_SW_PD2_ON | .PWR_SW_PD1_PG | .PWR_SW_PD2_PG | .PWR_MON_VCORE_OK | .PWR_MON_VANA_OK
  | .PWR_MON_VPF_OK | .CLK_STAT_XIN_OK | .CLK_STAT_E0_LK | .CLK_STAT_E1_LK | .CLK_STAT_A_LK | .CLK_STAT_B_LK
  | .CLK_STAT_C_LK | .CLK_STAT_N_LK | .CLK_EN_PLLA_EN | .CLK_EN_PLLB_EN | .CT_RCTRIM_EN | .SAR_CAL_ROT_EN
  | .MOD_CLK_DIV | .MOD_GCFG_LOSSTRIP | .MOD_GCFG_TRIPPED | .WC_CFG_LATCH | .WC_CFG_TRIPPED | .LT_CFG_SRC
  | .HP_CTRL_BISTEN | .HP_LEASE_RPP | .HP_STAT_STATEA | .HP_STAT_STATEB | .INT_CTRL_AUTOREP | .INT_CTRL_AUTORET
  | .INT_CTRL_CEVT | .LIB_CTRL_EN | .LIB_CTRL_XIP | .PF_STAT_STATE | .PF_STAT_SPRA | .PF_STAT_SPRB | .RING_EPOCH
  | .ETH_CFG_ANEG | .CAN_CFG_FDEN | .CAN_CFG_BRSEN | .CAN_CFG_ABOREC | .CAN_DBT_TDC => 1
  | .FUSE_VARIANT_VARIANT => 0x0E
  | .FUSE_VARIANT_STEP => 0x01
  | .FUSE_RES_PM_CNT | .FUSE_RES_MD_CNT => 24
  | .FUSE_RES_WC_CNT => 48
  | .FUSE_RES_MUXIN | .LE_CTRL_OVR_LIMIT | .CAN_DBT_TSEG2 | .CAN_DBT_SJW => 3
  | .FUSE_RES_MCLK_CNT => 6
  | .FUSE_RES_MPPT_CNT => 12
  | .IOB_STAT_VIO1 | .IOB_STAT_VIO2 | .IOB_STAT_VIO3 | .IOB_STAT_VIO4 | .MOD_CLK_STUCK | .ETH_CFG_SPEED
  | .CAN_NBT_TSEG2 | .CAN_NBT_SJW | .RING_CFG_OWNER => 2
  | .OPEN_CFG_PERIOD => 0xA
  | .OPEN_UNT_PAIR_U => 0x1FF
  | .OPEN_UNT_GRP_U | .BUR_SRC_VA | .BUR_SRC_VB | .BUR_SRC_VC | .BUR_ISRC_IA | .BUR_ISRC_IB | .BUR_ISRC_IC
  | .INT_CTRL_SCR_EN => 0xFF
  | .PWR_STORE_VMAX => 0x1E
  | .PWR_STORE_VFLOOR | .SAR_CALPOS_PHASE | .HP_STALE_STALE_MS => 5
  | .PWR_CELL_ON | .LE_MAP_SEA | .LE_MAP_SEB | .BUR_SAVE_INT => 0xF
  | .PWR_CELL_OFF => 0x19
  | .PWR_CELL_LOW => 0x32
  | .GAUGE_V_VSTORE => 1467
  | .GAUGE_RSV => 0xC350
  | .CLK_SYNC_SLEW_INT => 0x400
  | .SYNC_PER => 0x9C400
  | .SAR_CAL_MATCH_TOL | .MOD_CFG_OSR => 0x20
  | .SAR_MAP_SUBSLOT => 0x1F
  | .SAR_CSTAT_AGE | .PWM_SHD1L | .PWM_ACT1L | .HP_TKO_AGE | .SAT_BANK_INSERV => 0xFFFF
  | .MOD_CFG_GOSR => 0xC
  | .MOD_GTHR_HI => 0x7FFF
  | .MOD_GTHR_LO => 0x8000
  | .WC_THR_HI => 0xFFF
  | .PWM_MINPW_MINPW | .GI_REF_REFRESH_W | .LIB_CRES_FINALS => 0x40
  | .PWM_SHD2L | .PWM_SHD2H | .PWM_ACT2L | .PWM_ACT2H => 0x4000
  | .GSEQ_LEG_GAP => 0x50
  | .GI_CH_FILT | .GI_CH_RFILT | .LIB_RET_REF_BITS => 8
  | .LT_PER_PER => 0x3E80
  | .BUR_THEFT | .HP_STALE_FRESH_MS | .LIB_WL_WL_DIFF => 0x3E8
  | .BUR_UDIN => 0x43660000
  | .BUR_INOM => 0x42C80000
  | .BUR_PRAT => 0x4AB71B00
  | .BUR_EVT_SAG => 0x2328
  | .BUR_EVT_SWL => 0x2AF8
  | .BUR_EVT2_INT | .AGE_CFG_WARN => 0x1F4
  | .BUR_EVT2_HYS | .HP_LEASE_LEASE => 0xC8
  | .BUR_GV | .BUR_GI => 0x3F800000
  | .HP_RING_BASE => 0x3C
  | .HP_AGE | .TUT_MTCMPL | .TUT_MTCMPH | .GW_EPOCH => 0xFFFFFFFF
  | .LIB_RET_REFRESH_DAYS => 0x5B5
  | .LIB_WL_FREE_MIN | .RING_CFG_SIZE_L2 => 4
  | .LIB_CRES_SAVES => 0x60
  | .CAN_NBT_BRP => 9
  | .CAN_NBT_TSEG1 => 0xB
  | .CAN_DBT_TSEG1 => 0xE
  | .CAN_DBT_TDCO => 0x10
  | _ => 0

/-- The Reset column of field `f` of instance `i` (00 R15). "fuse", "pin" and "—" entries hold what the assumption log
names (entries 3 and 4): the fuses of an MNS48-LQF of the first stepping, a unit that powers up for the first time. -/
def Fld.reset (f : Fld) (i : Nat) : Nat :=
  match f with
  | .GAUGE_COST_COST => [5, 40, 70, 12, 15, 18000, 160, 1300].getD i 0
  | .SCR_PASS_PASS => (if i = 7 then 3600 else 600)
  | .REPC_SHIP_TOTAL | .REPC_REM_REMAIN => [0, 508, 0, 254, 3, 1, 3, 45].getD i 0
  | .REPC_REM_FLOOR => [0, 460, 0, 200, 2, 1, 2, 45].getD i 0
  | .TUT_ID_HART => i % 4
  | _ => f.resetWord

end Sys2Proof.Machine
end

