-- ==== Sys2Proof/Machine/RegMap.lean ====
section
/-!
DEFINITION. The register map: each register of the tables of spec/ with its address, its instances and its fields.
Addresses are the base of the block (the rule that closes each chapter) plus the Offset column.
-/
namespace Sys2Proof.Machine

/-- One field's place in its register word. -/
structure FieldAt where
  fld : Fld
  lo : Nat
  deriving DecidableEq, Repr

/-- A register of the map: instance `i` (from `first`, `count` of them) and sub-instance `j` lie at
`base + stride * (i - first) + stride2 * j`, and their fields have index `i * count2 + j`. -/
structure RegDesc where
  name : String
  base : Nat
  first : Nat := 0
  count : Nat := 1
  stride : Nat := 0
  count2 : Nat := 1
  stride2 : Nat := 0
  fields : List FieldAt
  deriving DecidableEq, Repr

/-- The registers of Table 1-10 (spec/01 R39). -/
def regs1_10 : List RegDesc := [
  { name := "BELL_CFG", base := 0x4C002000, fields := [⟨.BELL_CFG_CADENCE, 0⟩] },
  { name := "BELL_REQ", base := 0x4C002004, fields := [⟨.BELL_REQ_APPLY, 2⟩, ⟨.BELL_REQ_LATCH, 3⟩, ⟨.BELL_REQ_BARRIER, 4⟩, ⟨.BELL_REQ_GROUP, 8⟩, ⟨.BELL_REQ_POINTS, 16⟩, ⟨.BELL_REQ_BARRIER_ID, 24⟩] },
  { name := "BELL_STAT", base := 0x4C002008, fields := [⟨.BELL_STAT_SEQ, 0⟩, ⟨.BELL_STAT_ROOT0_OK, 16⟩, ⟨.BELL_STAT_ROOT1_OK, 17⟩, ⟨.BELL_STAT_BAR_DONE, 18⟩, ⟨.BELL_STAT_BAR_TO, 19⟩, ⟨.BELL_STAT_BAR_ID, 20⟩] },
  { name := "BELL_BART", base := 0x4C00200C, fields := [⟨.BELL_BART, 0⟩] },
  { name := "BELL_DIV", base := 0x4C002010, fields := [⟨.BELL_DIV_DIVERGE, 0⟩] },
  { name := "BELL_COMP", base := 0x4C002014, fields := [⟨.BELL_COMP_COMP, 0⟩, ⟨.BELL_COMP_ORIGIN, 16⟩] },
  { name := "BELL_HOP", base := 0x4C002018, fields := [⟨.BELL_HOP_HOP, 0⟩] },
  { name := "BELL_MISS0", base := 0x4C00201C, fields := [⟨.BELL_MISS0, 0⟩] },
  { name := "BELL_MISS1", base := 0x4C002020, fields := [⟨.BELL_MISS1, 0⟩] },
  { name := "FAB_LOAD0", base := 0x4C002024, fields := [⟨.FAB_LOAD0_LOAD, 0⟩] },
  { name := "FAB_LOAD1", base := 0x4C002028, fields := [⟨.FAB_LOAD1_LOAD, 0⟩] },
  { name := "FAB_LOAD2", base := 0x4C00202C, fields := [⟨.FAB_LOAD2_LOAD, 0⟩] },
  { name := "FAB_LOAD3", base := 0x4C002030, fields := [⟨.FAB_LOAD3_LOAD, 0⟩] },
  { name := "FAB_DROP", base := 0x4C002034, fields := [⟨.FAB_DROP, 0⟩] },
  { name := "CH_STALL", base := 0x4C002038, fields := [⟨.CH_STALL, 0⟩] } ]

/-- The registers of Table 2-1 (spec/02 Table 2-1). -/
def regs2_1 : List RegDesc := [
  { name := "FUSE_VARIANT", base := 0x4C000000, fields := [⟨.FUSE_VARIANT_VARIANT, 0⟩, ⟨.FUSE_VARIANT_STEP, 8⟩] },
  { name := "FUSE_RES", base := 0x4C000004, fields := [⟨.FUSE_RES_PM_CNT, 0⟩, ⟨.FUSE_RES_WC_CNT, 5⟩, ⟨.FUSE_RES_MUXIN, 11⟩, ⟨.FUSE_RES_MD_CNT, 13⟩, ⟨.FUSE_RES_MCLK_CNT, 18⟩, ⟨.FUSE_RES_MPPT_CNT, 21⟩, ⟨.FUSE_RES_THEFT, 25⟩, ⟨.FUSE_RES_PREFECT, 26⟩, ⟨.FUSE_RES_REFTRIM, 27⟩] },
  { name := "STRAP", base := 0x4C000008, fields := [⟨.STRAP_BOOTSEL, 0⟩] },
  { name := "IOB_STAT", base := 0x4C00000C, fields := [⟨.IOB_STAT_VIO1, 0⟩, ⟨.IOB_STAT_VIO2, 2⟩, ⟨.IOB_STAT_VIO3, 4⟩, ⟨.IOB_STAT_VIO4, 6⟩] },
  { name := "IOB_CHG", base := 0x4C000010, fields := [⟨.IOB_CHG_CHG, 0⟩] } ]

/-- The registers of Table 2-7 (spec/02 Table 2-7). -/
def regs2_7 : List RegDesc := [
  { name := "OPEN_CFG", base := 0x4C000100, fields := [⟨.OPEN_CFG_PERIOD, 0⟩, ⟨.OPEN_CFG_EN, 8⟩] },
  { name := "OPEN_SIG", base := 0x4C000104, fields := [⟨.OPEN_SIG_SIG, 0⟩] },
  { name := "OPEN_PAIR", base := 0x4C000108, fields := [⟨.OPEN_PAIR_PAIR, 0⟩] },
  { name := "OPEN_GRP", base := 0x4C00010C, fields := [⟨.OPEN_GRP, 0⟩] },
  { name := "OPEN_UNT", base := 0x4C000110, fields := [⟨.OPEN_UNT_PAIR_U, 0⟩, ⟨.OPEN_UNT_GRP_U, 9⟩] } ]

/-- The registers of Table 3-6 (spec/03 R93). -/
def regs3_6 : List RegDesc := [
  { name := "CT_STAT", base := 0x4C000400, fields := [⟨.CT_STAT_MAIN, 0⟩, ⟨.CT_STAT_HARV, 1⟩, ⟨.CT_STAT_CELLP, 2⟩, ⟨.CT_STAT_CELLON, 3⟩, ⟨.CT_STAT_CHG, 4⟩, ⟨.CT_STAT_SETFLT, 5⟩, ⟨.CT_STAT_CELLLOW, 6⟩, ⟨.CT_STAT_STFLT, 7⟩, ⟨.CT_STAT_COLD, 8⟩, ⟨.CT_STAT_REFUSED, 9⟩, ⟨.CT_STAT_FINAL, 10⟩, ⟨.CT_STAT_LIBOWN, 11⟩] },
  { name := "PWR_STORE", base := 0x4C000404, fields := [⟨.PWR_STORE_VMAX, 0⟩, ⟨.PWR_STORE_VFLOOR, 8⟩] },
  { name := "PWR_CELL", base := 0x4C000408, fields := [⟨.PWR_CELL_ON, 0⟩, ⟨.PWR_CELL_OFF, 8⟩, ⟨.PWR_CELL_LOW, 16⟩, ⟨.PWR_CELL_ILIM, 24⟩] },
  { name := "PWR_CELLQ", base := 0x4C00040C, fields := [⟨.PWR_CELLQ, 0⟩] },
  { name := "GAUGE_V", base := 0x4C000410, fields := [⟨.GAUGE_V_VSTORE, 0⟩, ⟨.GAUGE_V_VCELL, 16⟩] },
  { name := "GAUGE_CAP", base := 0x4C000414, fields := [⟨.GAUGE_CAP_CAP, 0⟩, ⟨.GAUGE_CAP_LIM, 16⟩] },
  { name := "GAUGE_E", base := 0x4C000418, fields := [⟨.GAUGE_E, 0⟩] },
  { name := "GAUGE_RSV", base := 0x4C00041C, fields := [⟨.GAUGE_RSV, 0⟩] },
  { name := "GAUGE_COST", base := 0x4C000420, count := 8, stride := 0x4, fields := [⟨.GAUGE_COST_COST, 0⟩] },
  { name := "PWR_SW", base := 0x4C000440, fields := [⟨.PWR_SW_PD1_ON, 0⟩, ⟨.PWR_SW_PD2_ON, 1⟩, ⟨.PWR_SW_PD1_PG, 4⟩, ⟨.PWR_SW_PD2_PG, 5⟩, ⟨.PWR_SW_PD1_OC, 8⟩, ⟨.PWR_SW_PD2_OC, 9⟩] },
  { name := "PWR_MON", base := 0x4C000444, fields := [⟨.PWR_MON_VCORE_OK, 0⟩, ⟨.PWR_MON_VANA_OK, 1⟩, ⟨.PWR_MON_VPF_OK, 2⟩, ⟨.PWR_MON_DROOPS, 8⟩] } ]

/-- The registers of Table 4-3 (spec/04 R114). -/
def regs4_3 : List RegDesc := [
  { name := "CLK_STAT", base := 0x4C001000, fields := [⟨.CLK_STAT_XIN_OK, 0⟩, ⟨.CLK_STAT_E0_LK, 1⟩, ⟨.CLK_STAT_E1_LK, 2⟩, ⟨.CLK_STAT_E_SEL, 3⟩, ⟨.CLK_STAT_A_LK, 4⟩, ⟨.CLK_STAT_B_LK, 5⟩, ⟨.CLK_STAT_C_LK, 6⟩, ⟨.CLK_STAT_N_LK, 7⟩, ⟨.CLK_STAT_E_SW, 8⟩, ⟨.CLK_STAT_XIN_LOST, 9⟩] },
  { name := "CLK_EN", base := 0x4C001004, fields := [⟨.CLK_EN_PLLA_EN, 0⟩, ⟨.CLK_EN_PLLB_EN, 1⟩] },
  { name := "CLK_SYNC", base := 0x4C001008, fields := [⟨.CLK_SYNC_MODE, 0⟩, ⟨.CLK_SYNC_OUTSRC, 2⟩, ⟨.CLK_SYNC_OUTEN, 3⟩, ⟨.CLK_SYNC_REFUSED, 4⟩, ⟨.CLK_SYNC_MISSED, 5⟩, ⟨.CLK_SYNC_SLEW_INT, 16⟩] },
  { name := "SYNC_PER", base := 0x4C00100C, fields := [⟨.SYNC_PER, 0⟩] },
  { name := "SYNC_OFS", base := 0x4C001010, fields := [⟨.SYNC_OFS, 0⟩] },
  { name := "SYNC_ERR", base := 0x4C001014, fields := [⟨.SYNC_ERR_ERR, 0⟩] },
  { name := "CLK_RATE", base := 0x4C001018, fields := [⟨.CLK_RATE, 0⟩] },
  { name := "TB_LO", base := 0x4C00101C, fields := [⟨.TB_LO, 0⟩] },
  { name := "TB_HI", base := 0x4C001020, fields := [⟨.TB_HI, 0⟩] },
  { name := "TB_PPS", base := 0x4C001024, fields := [⟨.TB_PPS_PHASE, 0⟩, ⟨.TB_PPS_EN, 30⟩] },
  { name := "RTC_SUB", base := 0x4C001040, fields := [⟨.RTC_SUB_FRAC, 0⟩, ⟨.RTC_SUB_RCSRC, 15⟩] },
  { name := "RTC_SEC", base := 0x4C001044, fields := [⟨.RTC_SEC, 0⟩] },
  { name := "RTC_SECH", base := 0x4C001048, fields := [⟨.RTC_SECH_SECH, 0⟩] },
  { name := "CT_RCTRIM", base := 0x4C00104C, fields := [⟨.CT_RCTRIM_EN, 0⟩, ⟨.CT_RCTRIM_TRIMMED, 1⟩] } ]

/-- The registers of Table 5-6 (spec/05 R145). -/
def regs5_6 : List RegDesc := [
  { name := "SAR_CTRL", base := 0x42000000, fields := [⟨.SAR_CTRL_SLOT_EN, 0⟩] },
  { name := "SAR_REF", base := 0x42000004, fields := [⟨.SAR_REF_SEL, 0⟩, ⟨.SAR_REF_REF_READY, 8⟩, ⟨.SAR_REF_EXT_RANGE, 9⟩] },
  { name := "SAR_CAL", base := 0x42000008, fields := [⟨.SAR_CAL_ROT_EN, 0⟩, ⟨.SAR_CAL_FGCAL, 1⟩, ⟨.SAR_CAL_ROT_STOP, 2⟩, ⟨.SAR_CAL_CALLATE, 3⟩, ⟨.SAR_CAL_MATCH_TOL, 8⟩] },
  { name := "SAR_CALPOS", base := 0x4200000C, fields := [⟨.SAR_CALPOS_STEP, 0⟩, ⟨.SAR_CALPOS_PHASE, 5⟩, ⟨.SAR_CALPOS_ROUND, 8⟩] },
  { name := "SAR_CALSKIP", base := 0x42000010, fields := [⟨.SAR_CALSKIP_SKIP, 0⟩] },
  { name := "SAR_MAP", base := 0x42000014, fields := [⟨.SAR_MAP_SUBSLOT, 0⟩, ⟨.SAR_MAP_RETIRED, 8⟩] },
  { name := "SAR_SWTRIG", base := 0x42000018, fields := [⟨.SAR_SWTRIG_TRIG, 0⟩] },
  { name := "SAR_TRIG", base := 0x42000100, count := 16, stride := 0x20, fields := [⟨.SAR_TRIG_SRC, 0⟩, ⟨.SAR_TRIG_PMSEL, 3⟩, ⟨.SAR_TRIG_EVT, 8⟩, ⟨.SAR_TRIG_SEQ_LEN, 10⟩, ⟨.SAR_TRIG_DIV, 12⟩] },
  { name := "SAR_SEQ", base := 0x42000104, count := 16, stride := 0x20, fields := [⟨.SAR_SEQ_E0, 0⟩, ⟨.SAR_SEQ_E1, 8⟩, ⟨.SAR_SEQ_E2, 16⟩, ⟨.SAR_SEQ_E3, 24⟩] },
  { name := "SAR_INJ", base := 0x42000108, count := 16, stride := 0x20, fields := [⟨.SAR_INJ_IN, 0⟩, ⟨.SAR_INJ_EXT, 2⟩] },
  { name := "SAR_STAT", base := 0x4200010C, count := 16, stride := 0x20, fields := [⟨.SAR_STAT_INJQ, 0⟩, ⟨.SAR_STAT_INJOVF, 3⟩, ⟨.SAR_STAT_TRIGLOST, 8⟩, ⟨.SAR_STAT_INVALID, 16⟩] },
  { name := "SAR_LAST", base := 0x42000110, count := 16, stride := 0x20, fields := [⟨.SAR_LAST, 0⟩] },
  { name := "SAR_LASTT", base := 0x42000114, count := 16, stride := 0x20, fields := [⟨.SAR_LASTT, 0⟩] },
  { name := "SAR_COFS", base := 0x42000400, count := 17, stride := 0x10, fields := [⟨.SAR_COFS_OFS, 0⟩] },
  { name := "SAR_CGAIN", base := 0x42000404, count := 17, stride := 0x10, fields := [⟨.SAR_CGAIN_GAIN, 0⟩] },
  { name := "SAR_CSTAT", base := 0x42000408, count := 17, stride := 0x10, fields := [⟨.SAR_CSTAT_OK, 0⟩, ⟨.SAR_CSTAT_FAIL, 1⟩, ⟨.SAR_CSTAT_FAILS, 8⟩, ⟨.SAR_CSTAT_AGE, 16⟩] } ]

/-- The registers of Table 6-2 (spec/06 R167). -/
def regs6_2 : List RegDesc := [
  { name := "MOD_CTRL", base := 0x43000000, fields := [⟨.MOD_CTRL_CH_EN, 0⟩] },
  { name := "MOD_THEFT", base := 0x43000004, fields := [⟨.MOD_THEFT_GRP, 0⟩, ⟨.MOD_THEFT_CHSEL, 4⟩] },
  { name := "MOD_STAT", base := 0x43000008, fields := [⟨.MOD_STAT_CLKLOST, 0⟩, ⟨.MOD_STAT_CLKEV, 8⟩] },
  { name := "MOD_DLOST", base := 0x4300000C, fields := [⟨.MOD_DLOST_LOST, 0⟩] },
  { name := "MOD_DLEV", base := 0x43000010, fields := [⟨.MOD_DLEV_EV, 0⟩] },
  { name := "MOD_CLK", base := 0x43000020, count := 6, stride := 0x4, fields := [⟨.MOD_CLK_MODE, 0⟩, ⟨.MOD_CLK_DIV, 2⟩, ⟨.MOD_CLK_EDGE, 8⟩, ⟨.MOD_CLK_DLY, 9⟩, ⟨.MOD_CLK_STUCK, 13⟩] },
  { name := "MOD_CFG", base := 0x43000100, count := 24, stride := 0x20, fields := [⟨.MOD_CFG_ORDER, 0⟩, ⟨.MOD_CFG_OSR, 1⟩, ⟨.MOD_CFG_GOSR, 11⟩, ⟨.MOD_CFG_SYNC, 17⟩, ⟨.MOD_CFG_PMSEL, 19⟩, ⟨.MOD_CFG_EVT, 24⟩] },
  { name := "MOD_FDLY", base := 0x43000104, count := 24, stride := 0x20, fields := [⟨.MOD_FDLY_FDLY, 0⟩] },
  { name := "MOD_GTHR", base := 0x43000108, count := 24, stride := 0x20, fields := [⟨.MOD_GTHR_HI, 0⟩, ⟨.MOD_GTHR_LO, 16⟩] },
  { name := "MOD_GCFG", base := 0x4300010C, count := 24, stride := 0x20, fields := [⟨.MOD_GCFG_TG, 0⟩, ⟨.MOD_GCFG_LATCH, 8⟩, ⟨.MOD_GCFG_LINK, 9⟩, ⟨.MOD_GCFG_LOSSTRIP, 14⟩, ⟨.MOD_GCFG_GEN, 15⟩, ⟨.MOD_GCFG_TRIPPED, 16⟩, ⟨.MOD_GCFG_CLR, 17⟩] },
  { name := "MOD_STAT", base := 0x43000110, count := 24, stride := 0x20, fields := [⟨.MOD_STAT_INVALID, 0⟩, ⟨.MOD_STAT_GTRIPS, 8⟩] },
  { name := "MOD_LAST", base := 0x43000114, count := 24, stride := 0x20, fields := [⟨.MOD_LAST, 0⟩] },
  { name := "MOD_LASTT", base := 0x43000118, count := 24, stride := 0x20, fields := [⟨.MOD_LASTT, 0⟩] } ]

/-- The registers of Table 7-7 (spec/07 R186). -/
def regs7_7 : List RegDesc := [
  { name := "TG_STAT", base := 0x44000000, fields := [⟨.TG_STAT_ACTIVE, 0⟩, ⟨.TG_STAT_SEEN, 8⟩] },
  { name := "TG_FORCE", base := 0x44000004, fields := [⟨.TG_FORCE_FORCE, 0⟩] },
  { name := "TG_ROUTE", base := 0x44000020, count := 8, stride := 0x4, fields := [⟨.TG_ROUTE_PM, 0⟩] },
  { name := "TG_FIRST", base := 0x44000040, count := 8, stride := 0x8, fields := [⟨.TG_FIRST_SRC, 0⟩] },
  { name := "TG_FTS", base := 0x44000044, count := 8, stride := 0x8, fields := [⟨.TG_FTS, 0⟩] },
  { name := "WC_THR", base := 0x44000100, count := 48, stride := 0x10, fields := [⟨.WC_THR_LO, 0⟩, ⟨.WC_THR_HI, 16⟩] },
  { name := "WC_CFG", base := 0x44000104, count := 48, stride := 0x10, fields := [⟨.WC_CFG_MODE, 0⟩, ⟨.WC_CFG_HYST, 2⟩, ⟨.WC_CFG_TG, 9⟩, ⟨.WC_CFG_LATCH, 17⟩, ⟨.WC_CFG_LINK, 18⟩, ⟨.WC_CFG_LEBEDGE, 23⟩, ⟨.WC_CFG_TRIPPED, 25⟩, ⟨.WC_CFG_SIDE, 26⟩, ⟨.WC_CFG_CLR, 27⟩] },
  { name := "WC_LEB", base := 0x44000108, count := 48, stride := 0x10, fields := [⟨.WC_LEB_LEBT, 0⟩] },
  { name := "WC_STAT", base := 0x4400010C, count := 48, stride := 0x10, fields := [⟨.WC_STAT_TRIPS, 0⟩, ⟨.WC_STAT_RAWHI, 8⟩, ⟨.WC_STAT_RAWLO, 9⟩] } ]

/-- The registers of Table 8-9 (spec/08 R224). -/
def regs8_9 : List RegDesc := [
  { name := "PWM_CTRL", base := 0x40000000, count := 24, stride := 0x100, fields := [⟨.PWM_CTRL_CMODE, 0⟩, ⟨.PWM_CTRL_RLD, 2⟩, ⟨.PWM_CTRL_OUTMODE, 4⟩, ⟨.PWM_CTRL_STRETCH, 5⟩, ⟨.PWM_CTRL_TRIPLEN, 6⟩, ⟨.PWM_CTRL_DBGRUN, 7⟩, ⟨.PWM_CTRL_LINKOUT, 8⟩, ⟨.PWM_CTRL_FOLLOW, 11⟩, ⟨.PWM_CTRL_SH, 12⟩, ⟨.PWM_CTRL_SL, 13⟩, ⟨.PWM_CTRL_OWNER, 14⟩, ⟨.PWM_CTRL_FORWARD, 15⟩] },
  { name := "PWM_RUN", base := 0x40000004, count := 24, stride := 0x100, fields := [⟨.PWM_RUN_CNT_EN, 0⟩, ⟨.PWM_RUN_OUTEN, 1⟩, ⟨.PWM_RUN_ARM, 2⟩] },
  { name := "PWM_STAT", base := 0x40000008, count := 24, stride := 0x100, fields := [⟨.PWM_STAT_RUNNING, 0⟩, ⟨.PWM_STAT_OUTACT, 1⟩, ⟨.PWM_STAT_TRIPPED, 2⟩, ⟨.PWM_STAT_TRIPL, 3⟩, ⟨.PWM_STAT_DIR, 4⟩, ⟨.PWM_STAT_SUPPR, 5⟩, ⟨.PWM_STAT_STRETCHED, 6⟩, ⟨.PWM_STAT_CARRYSAT, 7⟩, ⟨.PWM_STAT_LATE, 8⟩, ⟨.PWM_STAT_SUPCNT, 16⟩] },
  { name := "PWM_CNT", base := 0x4000000C, count := 24, stride := 0x100, fields := [⟨.PWM_CNT_CNT, 0⟩] },
  { name := "PWM_CTABH", base := 0x40000010, count := 24, stride := 0x100, fields := [⟨.PWM_CTABH_EVT0, 0⟩, ⟨.PWM_CTABH_ACT0, 3⟩, ⟨.PWM_CTABH_EVT1, 8⟩, ⟨.PWM_CTABH_ACT1, 11⟩, ⟨.PWM_CTABH_EVT2, 16⟩, ⟨.PWM_CTABH_ACT2, 19⟩, ⟨.PWM_CTABH_EVT3, 24⟩, ⟨.PWM_CTABH_ACT3, 27⟩] },
  { name := "PWM_CTABL", base := 0x40000014, count := 24, stride := 0x100, fields := [⟨.PWM_CTABL_RULES01, 0⟩, ⟨.PWM_CTABL_RULES23, 16⟩] },
  { name := "PWM_MINPW", base := 0x40000018, count := 24, stride := 0x100, fields := [⟨.PWM_MINPW_MINPW, 0⟩] },
  { name := "PWM_LOAD", base := 0x4000001C, count := 24, stride := 0x100, fields := [⟨.PWM_LOAD_LOADCNT, 0⟩, ⟨.PWM_LOAD_LOADDIR, 20⟩] },
  { name := "PWM_TCFG", base := 0x40000020, count := 24, stride := 0x100, fields := [⟨.PWM_TCFG_T0DIR, 0⟩, ⟨.PWM_TCFG_T1DIR, 2⟩] },
  { name := "PWM_ERSEL", base := 0x40000024, count := 24, stride := 0x100, fields := [⟨.PWM_ERSEL_SEL, 0⟩] },
  { name := "PWM_CARRY", base := 0x40000028, count := 24, stride := 0x100, fields := [⟨.PWM_CARRY_CARRY, 0⟩] },
  { name := "PWM_START", base := 0x4000002C, count := 24, stride := 0x100, fields := [⟨.PWM_START, 0⟩] },
  { name := "PWM_INT", base := 0x40000030, count := 24, stride := 0x100, fields := [⟨.PWM_INT_ISEL, 0⟩, ⟨.PWM_INT_PRESC, 3⟩, ⟨.PWM_INT_IEN, 7⟩, ⟨.PWM_INT_ICNT, 8⟩, ⟨.PWM_INT_IFLAG, 12⟩] },
  { name := "PWM_SHD0L", base := 0x40000040, count := 24, stride := 0x100, fields := [⟨.PWM_SHD0L, 0⟩] },
  { name := "PWM_SHD0H", base := 0x40000044, count := 24, stride := 0x100, fields := [⟨.PWM_SHD0H, 0⟩] },
  { name := "PWM_SHD1L", base := 0x40000048, count := 24, stride := 0x100, fields := [⟨.PWM_SHD1L, 0⟩] },
  { name := "PWM_SHD1H", base := 0x4000004C, count := 24, stride := 0x100, fields := [⟨.PWM_SHD1H, 0⟩] },
  { name := "PWM_SHD2L", base := 0x40000050, count := 24, stride := 0x100, fields := [⟨.PWM_SHD2L, 0⟩] },
  { name := "PWM_SHD2H", base := 0x40000054, count := 24, stride := 0x100, fields := [⟨.PWM_SHD2H, 0⟩] },
  { name := "PWM_ACT0L", base := 0x40000060, count := 24, stride := 0x100, fields := [⟨.PWM_ACT0L, 0⟩] },
  { name := "PWM_ACT0H", base := 0x40000064, count := 24, stride := 0x100, fields := [⟨.PWM_ACT0H, 0⟩] },
  { name := "PWM_ACT1L", base := 0x40000068, count := 24, stride := 0x100, fields := [⟨.PWM_ACT1L, 0⟩] },
  { name := "PWM_ACT1H", base := 0x4000006C, count := 24, stride := 0x100, fields := [⟨.PWM_ACT1H, 0⟩] },
  { name := "PWM_ACT2L", base := 0x40000070, count := 24, stride := 0x100, fields := [⟨.PWM_ACT2L, 0⟩] },
  { name := "PWM_ACT2H", base := 0x40000074, count := 24, stride := 0x100, fields := [⟨.PWM_ACT2H, 0⟩] },
  { name := "PWM_GSTART", base := 0x40001800, fields := [⟨.PWM_GSTART_MASK, 0⟩] },
  { name := "PWM_DLSTAT", base := 0x40001804, fields := [⟨.PWM_DLSTAT_DL_LOCK, 0⟩, ⟨.PWM_DLSTAT_DL_LOST, 1⟩] },
  { name := "PWM_STGDROP", base := 0x40001808, fields := [⟨.PWM_STGDROP, 0⟩] } ]

/-- The registers of Table 9-4 (spec/09 R244). -/
def regs9_4 : List RegDesc := [
  { name := "GI_SHUT", base := 0x41000000, fields := [⟨.GI_SHUT_BUSY, 0⟩] },
  { name := "GI_DEFER", base := 0x41000004, fields := [⟨.GI_DEFER_DEFER, 0⟩] },
  { name := "GI_LOCKED", base := 0x41000008, fields := [⟨.GI_LOCKED_LOCK, 0⟩] },
  { name := "GI_RSPSTAT", base := 0x4100000C, fields := [⟨.GI_RSPSTAT_ACTED, 0⟩] },
  { name := "GI_SWTRIG", base := 0x41000010, fields := [⟨.GI_SWTRIG_TRIG, 0⟩] },
  { name := "GI_FLTLVL", base := 0x41000014, fields := [⟨.GI_FLTLVL_LOW, 0⟩] },
  { name := "GI_FLTSEEN", base := 0x41000018, fields := [⟨.GI_FLTSEEN_SEEN, 0⟩] },
  { name := "GI_RDYLVL", base := 0x4100001C, fields := [⟨.GI_RDYLVL_HIGH, 0⟩] },
  { name := "GI_RDYLOST", base := 0x41000020, fields := [⟨.GI_RDYLOST_LOST, 0⟩] },
  { name := "GI_SHOOT", base := 0x41000024, fields := [⟨.GI_SHOOT_SHOOT, 0⟩] },
  { name := "GI_MISC", base := 0x41000028, fields := [⟨.GI_MISC_SEQFB, 0⟩] },
  { name := "RSP_CFG", base := 0x41000080, count := 16, stride := 0x8, fields := [⟨.RSP_CFG_ACT, 0⟩, ⟨.RSP_CFG_SCOPE, 2⟩, ⟨.RSP_CFG_LOCK, 3⟩, ⟨.RSP_CFG_IRQ, 4⟩] },
  { name := "RSP_MASK", base := 0x41000084, count := 16, stride := 0x8, fields := [⟨.RSP_MASK_MASK, 0⟩] },
  { name := "GSEQ_LEG", base := 0x41000100, count := 12, stride := 0x4, fields := [⟨.GSEQ_LEG_MA, 0⟩, ⟨.GSEQ_LEG_MB, 5⟩, ⟨.GSEQ_LEG_OUTER, 10⟩, ⟨.GSEQ_LEG_EN, 14⟩, ⟨.GSEQ_LEG_GAP, 15⟩] },
  { name := "GI_CH", base := 0x41000200, count := 24, stride := 0x10, fields := [⟨.GI_CH_BLANK, 0⟩, ⟨.GI_CH_FILT, 10⟩, ⟨.GI_CH_FLTEN, 18⟩, ⟨.GI_CH_RDYCHK, 19⟩, ⟨.GI_CH_RFILT, 20⟩] },
  { name := "GI_REF", base := 0x41000204, count := 24, stride := 0x10, fields := [⟨.GI_REF_REFRESH_W, 0⟩, ⟨.GI_REF_REFRESH_N, 12⟩] },
  { name := "GI_FTS", base := 0x41000208, count := 24, stride := 0x10, fields := [⟨.GI_FTS, 0⟩] },
  { name := "GI_CNT", base := 0x4100020C, count := 24, stride := 0x10, fields := [⟨.GI_CNT_FLTCNT, 0⟩, ⟨.GI_CNT_REFCNT, 8⟩, ⟨.GI_CNT_SHOOTCNT, 16⟩] } ]

/-- The registers of Table 10-12 (spec/10 R277). -/
def regs10_12 : List RegDesc := [
  { name := "LT_CFG", base := 0x45000000, fields := [⟨.LT_CFG_SRC, 0⟩, ⟨.LT_CFG_HEAD, 2⟩, ⟨.LT_CFG_DIR, 4⟩, ⟨.LT_CFG_DIV, 8⟩] },
  { name := "LT_PER", base := 0x45000004, fields := [⟨.LT_PER_PER, 0⟩] },
  { name := "LT_MATCH", base := 0x45000008, fields := [⟨.LT_MATCH_CNT, 0⟩] },
  { name := "LT_STAT", base := 0x4500000C, fields := [⟨.LT_STAT_HEADMODE, 0⟩, ⟨.LT_STAT_FALLBACK, 1⟩, ⟨.LT_STAT_SKIPPED, 2⟩] },
  { name := "LT_COUNT", base := 0x45000010, fields := [⟨.LT_COUNT, 0⟩] },
  { name := "LT_LAST", base := 0x45000014, fields := [⟨.LT_LAST, 0⟩] },
  { name := "LT_LEN", base := 0x45000018, fields := [⟨.LT_LEN_LEN, 0⟩] },
  { name := "LE_MAP", base := 0x45000020, fields := [⟨.LE_MAP_SEA, 0⟩, ⟨.LE_MAP_SEB, 4⟩, ⟨.LE_MAP_RET, 8⟩, ⟨.LE_MAP_SEA_RET, 20⟩, ⟨.LE_MAP_SEB_RET, 21⟩] },
  { name := "LE_SUBST", base := 0x45000024, fields := [⟨.LE_SUBST_COPYA, 0⟩, ⟨.LE_SUBST_COPYB, 1⟩, ⟨.LE_SUBST_IMGA, 2⟩, ⟨.LE_SUBST_IMGB, 3⟩] },
  { name := "LE_SUBGO", base := 0x45000028, fields := [⟨.LE_SUBGO_GOA, 0⟩, ⟨.LE_SUBGO_GOB, 1⟩] },
  { name := "LE_CTRL", base := 0x45000100, count := 12, stride := 0x20, fields := [⟨.LE_CTRL_EN, 0⟩, ⟨.LE_CTRL_OVR_LIMIT, 8⟩] },
  { name := "LE_CMD", base := 0x45000104, count := 12, stride := 0x20, fields := [⟨.LE_CMD_MAN, 0⟩, ⟨.LE_CMD_RETIRE, 1⟩] },
  { name := "LE_STAT", base := 0x45000108, count := 12, stride := 0x20, fields := [⟨.LE_STAT_RUNNING, 0⟩, ⟨.LE_STAT_OVRLIM, 1⟩, ⟨.LE_STAT_FAULT, 2⟩, ⟨.LE_STAT_FCAUSE, 4⟩, ⟨.LE_STAT_OVRCONS, 8⟩, ⟨.LE_STAT_OVRCNT, 16⟩, ⟨.LE_STAT_INVCNT, 24⟩] },
  { name := "LE_TIME", base := 0x4500010C, count := 12, stride := 0x20, fields := [⟨.LE_TIME_LAST, 0⟩] },
  { name := "LE_TMAX", base := 0x45000110, count := 12, stride := 0x20, fields := [⟨.LE_TMAX_MAX, 0⟩] },
  { name := "LE_WCET", base := 0x45000114, count := 12, stride := 0x20, fields := [⟨.LE_WCET_BOUND, 0⟩] },
  { name := "LE_SNAP", base := 0x45000118, count := 12, stride := 0x20, fields := [⟨.LE_SNAP_BASE, 0⟩, ⟨.LE_SNAP_LEN, 16⟩] },
  { name := "LE_FLAGS", base := 0x4500011C, count := 12, stride := 0x20, fields := [⟨.LE_FLAGS_FLAGS, 0⟩, ⟨.LE_FLAGS_PC, 16⟩] } ]

/-- The registers of Table 13-7 (spec/13 R338). -/
def regs13_7 : List RegDesc := [
  { name := "BUR_CTRL", base := 0x46000000, fields := [⟨.BUR_CTRL_AC_EN, 0⟩, ⟨.BUR_CTRL_DC_EN, 4⟩, ⟨.BUR_CTRL_THEFT_EN, 8⟩] },
  { name := "BUR_LATCH", base := 0x46000004, fields := [⟨.BUR_LATCH_REQ, 0⟩] },
  { name := "BUR_LSTAT", base := 0x46000008, fields := [⟨.BUR_LSTAT_LSEQ, 0⟩, ⟨.BUR_LSTAT_PEND, 16⟩] },
  { name := "BUR_SAVE", base := 0x4600000C, fields := [⟨.BUR_SAVE_INT, 0⟩, ⟨.BUR_SAVE_NOW, 11⟩] },
  { name := "BUR_STAT", base := 0x46000010, fields := [⟨.BUR_STAT_RESTORED, 0⟩, ⟨.BUR_STAT_SPANPEND, 1⟩, ⟨.BUR_STAT_SAVEREF, 2⟩, ⟨.BUR_STAT_GAP, 3⟩, ⟨.BUR_STAT_TAMPER, 4⟩] },
  { name := "BUR_LASTSV", base := 0x46000014, fields := [⟨.BUR_LASTSV, 0⟩] },
  { name := "BUR_THEFT", base := 0x46000018, fields := [⟨.BUR_THEFT, 0⟩] },
  { name := "BUR_TSKIP", base := 0x4600001C, fields := [⟨.BUR_TSKIP, 0⟩] },
  { name := "BUR_TCLR", base := 0x46000020, fields := [⟨.BUR_TCLR_THEFT_CLR, 0⟩] },
  { name := "BUR_TQ", base := 0x46000024, count := 4, stride := 0x4, fields := [⟨.BUR_TQ, 0⟩] },
  { name := "BUR_TGAIN", base := 0x46000034, count := 4, stride := 0x4, fields := [⟨.BUR_TGAIN, 0⟩] },
  { name := "BUR_SRC", base := 0x46000100, count := 8, stride := 0x40, fields := [⟨.BUR_SRC_VA, 0⟩, ⟨.BUR_SRC_VB, 8⟩, ⟨.BUR_SRC_VC, 16⟩] },
  { name := "BUR_ISRC", base := 0x46000104, count := 8, stride := 0x40, fields := [⟨.BUR_ISRC_IA, 0⟩, ⟨.BUR_ISRC_IB, 8⟩, ⟨.BUR_ISRC_IC, 16⟩] },
  { name := "BUR_CFG", base := 0x46000108, count := 8, stride := 0x40, fields := [⟨.BUR_CFG_INV, 0⟩, ⟨.BUR_CFG_F60, 1⟩] },
  { name := "BUR_UDIN", base := 0x4600010C, count := 8, stride := 0x40, fields := [⟨.BUR_UDIN, 0⟩] },
  { name := "BUR_INOM", base := 0x46000110, count := 8, stride := 0x40, fields := [⟨.BUR_INOM, 0⟩] },
  { name := "BUR_PRAT", base := 0x46000114, count := 8, stride := 0x40, fields := [⟨.BUR_PRAT, 0⟩] },
  { name := "BUR_EVT", base := 0x46000118, count := 8, stride := 0x40, fields := [⟨.BUR_EVT_SAG, 0⟩, ⟨.BUR_EVT_SWL, 16⟩] },
  { name := "BUR_EVT2", base := 0x4600011C, count := 8, stride := 0x40, fields := [⟨.BUR_EVT2_INT, 0⟩, ⟨.BUR_EVT2_HYS, 16⟩] },
  { name := "BUR_GV", base := 0x46000120, count := 8, stride := 0x40, count2 := 3, stride2 := 0x8, fields := [⟨.BUR_GV, 0⟩] },
  { name := "BUR_OV", base := 0x46000124, count := 8, stride := 0x40, count2 := 3, stride2 := 0x8, fields := [⟨.BUR_OV, 0⟩] },
  { name := "BUR_GI", base := 0x46000800, count := 8, stride := 0x40, count2 := 3, stride2 := 0x10, fields := [⟨.BUR_GI, 0⟩] },
  { name := "BUR_OI", base := 0x46000804, count := 8, stride := 0x40, count2 := 3, stride2 := 0x10, fields := [⟨.BUR_OI, 0⟩] },
  { name := "BUR_PH", base := 0x46000808, count := 8, stride := 0x40, count2 := 3, stride2 := 0x10, fields := [⟨.BUR_PH_PH, 0⟩] },
  { name := "BUR_LHDR", base := 0x46001000, count := 8, stride := 0x100, fields := [⟨.BUR_LHDR_LSEQ, 0⟩] },
  { name := "BUR_LTS", base := 0x46001004, count := 8, stride := 0x100, fields := [⟨.BUR_LTS, 0⟩] },
  { name := "BUR_LGAP", base := 0x46001008, count := 8, stride := 0x100, fields := [⟨.BUR_LGAP, 0⟩] },
  { name := "BUR_LAL", base := 0x46001010, count := 8, stride := 0x100, count2 := 16, stride2 := 0x8, fields := [⟨.BUR_LAL, 0⟩] },
  { name := "BUR_LAH", base := 0x46001014, count := 8, stride := 0x100, count2 := 16, stride2 := 0x8, fields := [⟨.BUR_LAH, 0⟩] },
  { name := "BUR_PUB", base := 0x46001C00, count := 8, stride := 0x40, count2 := 12, stride2 := 0x4, fields := [⟨.BUR_PUB, 0⟩] } ]

/-- The registers of Table 14-8 (spec/14 R364). -/
def regs14_8 : List RegDesc := [
  { name := "HP_CTRL", base := 0x47000000, fields := [⟨.HP_CTRL_MODE, 0⟩, ⟨.HP_CTRL_AUTOHO, 1⟩, ⟨.HP_CTRL_BISTEN, 2⟩] },
  { name := "HP_LEASE", base := 0x47000004, fields := [⟨.HP_LEASE_LEASE, 0⟩, ⟨.HP_LEASE_RPP, 10⟩] },
  { name := "HP_RENEW", base := 0x47000008, fields := [⟨.HP_RENEW_RENEW, 0⟩] },
  { name := "HP_CMD", base := 0x4700000C, fields := [⟨.HP_CMD_CMD, 0⟩] },
  { name := "HP_STAT", base := 0x47000010, fields := [⟨.HP_STAT_HOLDER, 0⟩, ⟨.HP_STAT_STATEA, 2⟩, ⟨.HP_STAT_STATEB, 5⟩, ⟨.HP_STAT_STALE, 8⟩, ⟨.HP_STAT_LINKFLT, 9⟩, ⟨.HP_STAT_HOREQ, 10⟩, ⟨.HP_STAT_TRANSFER, 11⟩, ⟨.HP_STAT_ARBDEG, 12⟩, ⟨.HP_STAT_REFUSE, 13⟩] },
  { name := "HP_LREM", base := 0x47000014, fields := [⟨.HP_LREM_LREMA, 0⟩, ⟨.HP_LREM_LREMB, 16⟩] },
  { name := "HP_RING", base := 0x47000018, fields := [⟨.HP_RING_BASE, 0⟩] },
  { name := "HP_TUTOR", base := 0x4700001C, fields := [⟨.HP_TUTOR_OFS, 0⟩, ⟨.HP_TUTOR_LEN, 16⟩] },
  { name := "HP_SEQL", base := 0x47000020, fields := [⟨.HP_SEQL, 0⟩] },
  { name := "HP_SEQH", base := 0x47000024, fields := [⟨.HP_SEQH, 0⟩] },
  { name := "HP_AGE", base := 0x47000028, fields := [⟨.HP_AGE, 0⟩] },
  { name := "HP_REARM", base := 0x4700002C, fields := [⟨.HP_REARM_MASK, 0⟩] },
  { name := "HP_STALE", base := 0x47000030, fields := [⟨.HP_STALE_STALE_MS, 0⟩, ⟨.HP_STALE_FRESH_MS, 16⟩] },
  { name := "HP_CNT", base := 0x47000034, fields := [⟨.HP_CNT_TKO, 0⟩, ⟨.HP_CNT_HANDO, 8⟩, ⟨.HP_CNT_RENDISC, 16⟩, ⟨.HP_CNT_SNAPSKIP, 24⟩] },
  { name := "HP_BIST", base := 0x47000038, fields := [⟨.HP_BIST_A_OK, 0⟩, ⟨.HP_BIST_B_OK, 1⟩, ⟨.HP_BIST_A_FAILS, 8⟩, ⟨.HP_BIST_B_FAILS, 16⟩] },
  { name := "HP_TKO", base := 0x4700003C, fields := [⟨.HP_TKO_DUR, 0⟩, ⟨.HP_TKO_AGE, 16⟩] } ]

/-- The registers of Table 15-10 (spec/15 R390). -/
def regs15_10 : List RegDesc := [
  { name := "INT_CTRL", base := 0x48000000, fields := [⟨.INT_CTRL_SCR_EN, 0⟩, ⟨.INT_CTRL_AUTOREP, 8⟩, ⟨.INT_CTRL_AUTORET, 9⟩, ⟨.INT_CTRL_CEVT, 10⟩] },
  { name := "INT_STAT", base := 0x48000004, fields := [⟨.INT_STAT_OVERDUE, 0⟩, ⟨.INT_STAT_RECFULL, 8⟩, ⟨.INT_STAT_FLOOR, 9⟩] },
  { name := "SAT_BANK", base := 0x48000008, fields := [⟨.SAT_BANK_INSERV, 0⟩, ⟨.SAT_BANK_RETIRED, 16⟩] },
  { name := "SAT_RET", base := 0x4800000C, fields := [⟨.SAT_RET_BANK, 0⟩, ⟨.SAT_RET_GO, 4⟩] },
  { name := "REP_CNT", base := 0x48000010, fields := [⟨.REP_CNT_USED, 0⟩] },
  { name := "REP_LOAD", base := 0x48000014, fields := [⟨.REP_LOAD_COUNT, 0⟩] },
  { name := "AGE_CFG", base := 0x48000018, fields := [⟨.AGE_CFG_WARN, 0⟩] },
  { name := "SCR_PASS", base := 0x48000020, count := 8, stride := 0x10, fields := [⟨.SCR_PASS_PASS, 0⟩] },
  { name := "SCR_POS", base := 0x48000024, count := 8, stride := 0x10, fields := [⟨.SCR_POS_WORD, 0⟩] },
  { name := "SCR_CNT", base := 0x48000028, count := 8, stride := 0x10, fields := [⟨.SCR_CNT_CORR, 0⟩, ⟨.SCR_CNT_UNCORR, 16⟩, ⟨.SCR_CNT_HARD, 24⟩] },
  { name := "SCR_DONE", base := 0x4800002C, count := 8, stride := 0x10, fields := [⟨.SCR_DONE, 0⟩] },
  { name := "INT_LASTA", base := 0x480000A0, fields := [⟨.INT_LASTA, 0⟩] },
  { name := "INT_LASTC", base := 0x480000A4, fields := [⟨.INT_LASTC, 0⟩] },
  { name := "REPC_SHIP", base := 0x48000100, first := 1, count := 7, stride := 0x8, fields := [⟨.REPC_SHIP_TOTAL, 0⟩, ⟨.REPC_SHIP_CONSUMED, 16⟩] },
  { name := "REPC_REM", base := 0x48000104, first := 1, count := 7, stride := 0x8, fields := [⟨.REPC_REM_REMAIN, 0⟩, ⟨.REPC_REM_FLOOR, 16⟩] },
  { name := "AGE", base := 0x48000200, count := 86, stride := 0x4, fields := [⟨.AGE_SLOW, 0⟩, ⟨.AGE_WARN, 16⟩] } ]

/-- The registers of Table 16-7 (spec/16 R408). -/
def regs16_7 : List RegDesc := [
  { name := "LIB_CTRL", base := 0x49000000, fields := [⟨.LIB_CTRL_EN, 0⟩, ⟨.LIB_CTRL_XIP, 1⟩] },
  { name := "LIB_STAT", base := 0x49000004, fields := [⟨.LIB_STAT_READY, 0⟩, ⟨.LIB_STAT_NAND, 1⟩, ⟨.LIB_STAT_OCT, 2⟩, ⟨.LIB_STAT_REFRESHING, 3⟩, ⟨.LIB_STAT_FULL, 4⟩, ⟨.LIB_STAT_UNCORR, 5⟩] },
  { name := "LIB_GEOM", base := 0x49000008, fields := [⟨.LIB_GEOM_PAGE_L2, 0⟩, ⟨.LIB_GEOM_ERASE_L2, 8⟩, ⟨.LIB_GEOM_BLOCKS, 16⟩] },
  { name := "LIB_RET", base := 0x4900000C, fields := [⟨.LIB_RET_REFRESH_DAYS, 0⟩, ⟨.LIB_RET_REF_BITS, 16⟩] },
  { name := "LIB_WL", base := 0x49000010, fields := [⟨.LIB_WL_WL_DIFF, 0⟩, ⟨.LIB_WL_FREE_MIN, 16⟩] },
  { name := "LIB_CRES", base := 0x49000014, fields := [⟨.LIB_CRES_SAVES, 0⟩, ⟨.LIB_CRES_FINALS, 16⟩, ⟨.LIB_CRES_FPT, 28⟩] },
  { name := "LIB_CNT0", base := 0x49000018, fields := [⟨.LIB_CNT0_CORRCW, 0⟩, ⟨.LIB_CNT0_UNCORR, 16⟩, ⟨.LIB_CNT0_BADNEW, 24⟩] },
  { name := "LIB_CNT1", base := 0x4900001C, fields := [⟨.LIB_CNT1_BAD, 0⟩, ⟨.LIB_CNT1_SPARE, 16⟩] },
  { name := "LIB_REF", base := 0x49000020, fields := [⟨.LIB_REF, 0⟩] },
  { name := "LIB_REFUSE", base := 0x49000024, fields := [⟨.LIB_REFUSE_REFUSED, 0⟩] },
  { name := "LIB_EMAX", base := 0x49000028, fields := [⟨.LIB_EMAX, 0⟩] } ]

/-- The registers of Table 17-9 (spec/17 R425). -/
def regs17_9 : List RegDesc := [
  { name := "SEC_STAT", base := 0x4A000000, fields := [⟨.SEC_STAT_LOCK, 0⟩, ⟨.SEC_STAT_PUF_OK, 1⟩, ⟨.SEC_STAT_MAPDIFF, 2⟩, ⟨.SEC_STAT_NOIMG, 3⟩, ⟨.SEC_STAT_BSBAD, 4⟩, ⟨.SEC_STAT_SLOTA, 8⟩, ⟨.SEC_STAT_SLOTB, 10⟩] },
  { name := "SEC_LOCK", base := 0x4A000004, fields := [⟨.SEC_LOCK_LOCK, 0⟩] },
  { name := "SEC_BLK", base := 0x4A000008, fields := [⟨.SEC_BLK_BLK, 0⟩, ⟨.SEC_BLK_PORT, 8⟩] },
  { name := "SEC_SATL", base := 0x4A00000C, fields := [⟨.SEC_SATL, 0⟩] },
  { name := "SEC_SATH", base := 0x4A000010, fields := [⟨.SEC_SATH, 0⟩] },
  { name := "SEC_LIB", base := 0x4A000014, fields := [⟨.SEC_LIB_AREA, 0⟩] },
  { name := "SEC_FUSE", base := 0x4A000018, fields := [⟨.SEC_FUSE_SVN, 0⟩, ⟨.SEC_FUSE_OWNERS, 8⟩, ⟨.SEC_FUSE_VENDOR_OFF, 12⟩] },
  { name := "SEC_CMD", base := 0x4A00001C, fields := [⟨.SEC_CMD_CMD, 0⟩] },
  { name := "SEC_CMDA", base := 0x4A000020, fields := [⟨.SEC_CMDA, 0⟩] },
  { name := "SEC_CMDST", base := 0x4A000024, fields := [⟨.SEC_CMDST_BUSY, 0⟩, ⟨.SEC_CMDST_RESULT, 1⟩] },
  { name := "SEC_VIOL", base := 0x4A000028, fields := [⟨.SEC_VIOL_INIT, 0⟩] },
  { name := "SEC_VIOLA", base := 0x4A00002C, fields := [⟨.SEC_VIOLA, 0⟩] },
  { name := "SEC_PREF", base := 0x4A000030, fields := [⟨.SEC_PREF_SLOT, 0⟩] } ]

/-- The registers of Table 18-5 (spec/18 R443). -/
def regs18_5 : List RegDesc := [
  { name := "PF_STAT", base := 0x4D000000, fields := [⟨.PF_STAT_STATE, 0⟩, ⟨.PF_STAT_SEALOK, 3⟩, ⟨.PF_STAT_SPRA, 4⟩, ⟨.PF_STAT_SPRB, 5⟩, ⟨.PF_STAT_XTALSKIP, 6⟩, ⟨.PF_STAT_FCAUSE, 8⟩] },
  { name := "PF_CFG", base := 0x4D000004, fields := [⟨.PF_CFG_CFGSW, 0⟩, ⟨.PF_CFG_COMSET, 8⟩, ⟨.PF_CFG_SLOTS, 12⟩, ⟨.PF_CFG_SWBAD, 19⟩, ⟨.PF_CFG_CFGCHG, 20⟩] },
  { name := "PF_HASH", base := 0x4D000008, count := 4, stride := 0x4, fields := [⟨.PF_HASH, 0⟩] },
  { name := "PF_CNT", base := 0x4D000018, fields := [⟨.PF_CNT_DEMANDS, 0⟩, ⟨.PF_CNT_TESTFAIL, 16⟩, ⟨.PF_CNT_FAULTS, 24⟩] },
  { name := "PF_LASTT", base := 0x4D00001C, fields := [⟨.PF_LASTT, 0⟩] },
  { name := "PF_REL", base := 0x4D000020, fields := [⟨.PF_REL_KEY, 0⟩] },
  { name := "PF_COMMIT", base := 0x4D000024, fields := [⟨.PF_COMMIT, 0⟩] },
  { name := "PF_COMST", base := 0x4D000028, fields := [⟨.PF_COMST_ARMED, 0⟩, ⟨.PF_COMST_RESULT, 1⟩] } ]

/-- The registers of Table 19-8 (spec/19 R468). -/
def regs19_8 : List RegDesc := [
  { name := "PORT_EN", base := 0x4B000000, fields := [⟨.PORT_EN_EN, 0⟩] },
  { name := "PORT_FLT", base := 0x4B000004, fields := [⟨.PORT_FLT_FLT, 0⟩] },
  { name := "RING_EPOCH", base := 0x4B000008, fields := [⟨.RING_EPOCH, 0⟩] },
  { name := "ETH_MDIO", base := 0x4B00000C, fields := [⟨.ETH_MDIO_PHYAD, 0⟩, ⟨.ETH_MDIO_REGAD, 5⟩, ⟨.ETH_MDIO_WRITE, 10⟩, ⟨.ETH_MDIO_GO, 11⟩, ⟨.ETH_MDIO_DATA, 16⟩] },
  { name := "ETH_CFG", base := 0x4B000100, count := 2, stride := 0x40, fields := [⟨.ETH_CFG_SPEED, 0⟩, ⟨.ETH_CFG_ANEG, 2⟩, ⟨.ETH_CFG_HDX, 3⟩, ⟨.ETH_CFG_PROMISC, 4⟩] },
  { name := "ETH_MACL", base := 0x4B000104, count := 2, stride := 0x40, fields := [⟨.ETH_MACL, 0⟩] },
  { name := "ETH_MACH", base := 0x4B000108, count := 2, stride := 0x40, fields := [⟨.ETH_MACH_MAC, 0⟩] },
  { name := "ETH_STAT", base := 0x4B00010C, count := 2, stride := 0x40, fields := [⟨.ETH_STAT_LINK, 0⟩, ⟨.ETH_STAT_SPD, 1⟩, ⟨.ETH_STAT_FDX, 3⟩, ⟨.ETH_STAT_RXDROP, 8⟩, ⟨.ETH_STAT_FCSERR, 16⟩] },
  { name := "CAN_CFG", base := 0x4B000180, first := 2, count := 2, stride := 0x40, fields := [⟨.CAN_CFG_FDEN, 0⟩, ⟨.CAN_CFG_BRSEN, 1⟩, ⟨.CAN_CFG_LOOP, 2⟩, ⟨.CAN_CFG_LISTEN, 3⟩, ⟨.CAN_CFG_ABOREC, 4⟩] },
  { name := "CAN_NBT", base := 0x4B000184, first := 2, count := 2, stride := 0x40, fields := [⟨.CAN_NBT_BRP, 0⟩, ⟨.CAN_NBT_TSEG1, 8⟩, ⟨.CAN_NBT_TSEG2, 16⟩, ⟨.CAN_NBT_SJW, 23⟩] },
  { name := "CAN_DBT", base := 0x4B000188, first := 2, count := 2, stride := 0x40, fields := [⟨.CAN_DBT_BRP, 0⟩, ⟨.CAN_DBT_TSEG1, 8⟩, ⟨.CAN_DBT_TSEG2, 16⟩, ⟨.CAN_DBT_SJW, 20⟩, ⟨.CAN_DBT_TDC, 24⟩, ⟨.CAN_DBT_TDCO, 25⟩] },
  { name := "CAN_STAT", base := 0x4B00018C, first := 2, count := 2, stride := 0x40, fields := [⟨.CAN_STAT_TEC, 0⟩, ⟨.CAN_STAT_REC, 8⟩, ⟨.CAN_STAT_STATE, 16⟩] },
  { name := "CAN_FLT", base := 0x4B000200, first := 2, count := 2, stride := 0x100, count2 := 32, stride2 := 0x8, fields := [⟨.CAN_FLT_ID, 0⟩, ⟨.CAN_FLT_IDE, 29⟩, ⟨.CAN_FLT_EN, 30⟩] },
  { name := "CAN_MSK", base := 0x4B000204, first := 2, count := 2, stride := 0x100, count2 := 32, stride2 := 0x8, fields := [⟨.CAN_MSK_MASK, 0⟩] },
  { name := "PEER_CFG", base := 0x4B000400, fields := [⟨.PEER_CFG_NUNITS, 0⟩, ⟨.PEER_CFG_TRAIN, 5⟩, ⟨.PEER_CFG_POS, 8⟩, ⟨.PEER_CFG_TRAINED, 13⟩, ⟨.PEER_CFG_CRCERR, 16⟩] },
  { name := "CAP_CFG", base := 0x4B000700, count := 2, stride := 0x4, fields := [⟨.CAP_CFG_SOURCE, 0⟩, ⟨.CAP_CFG_DIV, 8⟩, ⟨.CAP_CFG_EN, 16⟩] },
  { name := "RING_BASE", base := 0x4B000800, count := 16, stride := 0x20, fields := [⟨.RING_BASE, 0⟩] },
  { name := "RING_CFG", base := 0x4B000804, count := 16, stride := 0x20, fields := [⟨.RING_CFG_SIZE_L2, 0⟩, ⟨.RING_CFG_OWNER, 4⟩, ⟨.RING_CFG_EN, 6⟩, ⟨.RING_CFG_IRQ, 7⟩] },
  { name := "RING_HEAD", base := 0x4B000808, count := 16, stride := 0x20, fields := [⟨.RING_HEAD_HEAD, 0⟩] },
  { name := "RING_TAIL", base := 0x4B00080C, count := 16, stride := 0x20, fields := [⟨.RING_TAIL_TAIL, 0⟩] },
  { name := "RING_STAT", base := 0x4B000810, count := 16, stride := 0x20, fields := [⟨.RING_STAT_HALT, 0⟩, ⟨.RING_STAT_ERR, 1⟩, ⟨.RING_STAT_DROP, 8⟩] },
  { name := "RING_TAIL10B", base := 0x4B000A00, fields := [⟨.RING_TAIL10B_TAIL, 0⟩] } ]

/-- The registers of Table 21-7 (spec/21 R520). -/
def regs21_7 : List RegDesc := [
  { name := "TUT_ID", base := 0x4E000000, count := 4, stride := 0x0, fields := [⟨.TUT_ID_HART, 0⟩, ⟨.TUT_ID_NS, 2⟩] },
  { name := "TUT_TKOV", base := 0x4E000004, count := 4, stride := 0x0, fields := [⟨.TUT_TKOV_ADDR, 2⟩] },
  { name := "TUT_MSIP", base := 0x4E000008, count := 4, stride := 0x0, fields := [⟨.TUT_MSIP_MSIP, 0⟩] },
  { name := "TUT_MTCMPL", base := 0x4E000010, count := 4, stride := 0x0, fields := [⟨.TUT_MTCMPL, 0⟩] },
  { name := "TUT_MTCMPH", base := 0x4E000014, count := 4, stride := 0x0, fields := [⟨.TUT_MTCMPH, 0⟩] },
  { name := "TUT_DBG", base := 0x4E000018, count := 4, stride := 0x0, fields := [⟨.TUT_DBG_SEC_EN, 0⟩, ⟨.TUT_DBG_NS_EN, 1⟩, ⟨.TUT_DBG_LEHALT, 8⟩] },
  { name := "TUT_IPEND", base := 0x4E000020, count := 4, stride := 0x0, fields := [⟨.TUT_IPEND, 0⟩] },
  { name := "TUT_IEN", base := 0x4E000024, count := 4, stride := 0x0, fields := [⟨.TUT_IEN, 0⟩] },
  { name := "TUT_THR", base := 0x4E000028, count := 4, stride := 0x0, fields := [⟨.TUT_THR_THR, 0⟩] },
  { name := "TUT_CLAIM", base := 0x4E00002C, count := 4, stride := 0x0, fields := [⟨.TUT_CLAIM_SRC, 0⟩] },
  { name := "TUT_IPRIO", base := 0x4E000080, count := 4, stride := 0x0, count2 := 32, stride2 := 0x4, fields := [⟨.TUT_IPRIO_PRIO, 0⟩] },
  { name := "GW_CTRL", base := 0x4E000100, count := 4, stride := 0x0, fields := [⟨.GW_CTRL_OP, 0⟩, ⟨.GW_CTRL_GO, 2⟩, ⟨.GW_CTRL_BUSY, 3⟩, ⟨.GW_CTRL_DONE, 4⟩, ⟨.GW_CTRL_IEN, 5⟩] },
  { name := "GW_ENTRY", base := 0x4E000104, count := 4, stride := 0x0, fields := [⟨.GW_ENTRY_SUB, 8⟩, ⟨.GW_ENTRY_INDEX, 16⟩] },
  { name := "GW_BUF", base := 0x4E000108, count := 4, stride := 0x0, fields := [⟨.GW_BUF, 0⟩] },
  { name := "GW_OFS", base := 0x4E00010C, count := 4, stride := 0x0, fields := [⟨.GW_OFS, 0⟩] },
  { name := "GW_LEN", base := 0x4E000110, count := 4, stride := 0x0, fields := [⟨.GW_LEN_LEN, 0⟩] },
  { name := "GW_EPOCH", base := 0x4E000114, count := 4, stride := 0x0, fields := [⟨.GW_EPOCH, 0⟩] },
  { name := "GW_ABORT", base := 0x4E000118, count := 4, stride := 0x0, fields := [⟨.GW_ABORT, 0⟩] } ]

/-- The whole register map. -/
def regMap : List RegDesc :=
  regs1_10 ++ regs2_1 ++ regs2_7 ++ regs3_6 ++ regs4_3 ++ regs5_6 ++ regs6_2 ++ regs7_7 ++ regs8_9 ++ regs9_4 ++ regs10_12 ++ regs13_7 ++ regs14_8 ++ regs15_10 ++ regs16_7 ++ regs17_9 ++ regs18_5 ++ regs19_8 ++ regs21_7

end Sys2Proof.Machine
end

