-- ==== Sys2Proof/Machine/Sparse.lean ====
section
/-!
DEFINITION. Sparse tables as plain data: a list of (key, value) pairs in one canonical form, keys strictly rising in
the lexicographic order and no entry equal to what an unlisted key reads as, so that equal tables are equal lists.
Registers, engine memories, Satchel and the dictionary's own variables are all held this way.
-/
namespace Sys2Proof.Machine

/-- The key of a sparse table: (field, index), (site, address) or (index, subindex). -/
abbrev Key := Nat × Nat

/-- The lexicographic order of keys. -/
def keyLt (a b : Key) : Bool := a.1 < b.1 || (a.1 == b.1 && a.2 < b.2)

/-- A sparse table of numbers. -/
abbrev SMap := List (Key × Nat)

/-- What key `k` reads as, `d` where it is not listed. -/
def SMap.get (m : SMap) (k : Key) (d : Nat) : Nat :=
  match m with
  | [] => d
  | (k', v) :: r => if k = k' then v else SMap.get r k d

/-- The listed entry of `k`, if any. -/
def SMap.find (m : SMap) (k : Key) : Option Nat :=
  match m with
  | [] => none
  | (k', v) :: r => if k = k' then some v else SMap.find r k

/-- The table without an entry for `k`. -/
def SMap.erase (m : SMap) (k : Key) : SMap :=
  match m with
  | [] => []
  | (k', v) :: r => if k = k' then SMap.erase r k else (k', v) :: SMap.erase r k

/-- The table with the entry `(k, v)` in its place. -/
def SMap.insert (m : SMap) (k : Key) (v : Nat) : SMap :=
  match m with
  | [] => [(k, v)]
  | (k', v') :: r =>
    if k = k' then (k, v) :: r
    else if keyLt k k' then (k, v) :: (k', v') :: r
    else (k', v') :: SMap.insert r k v

/-- The table in which `k` reads as `v`, in canonical form when `d` is what an unlisted key reads as. -/
def SMap.set (m : SMap) (k : Key) (d v : Nat) : SMap :=
  if v = d then m.erase k else m.insert k v

/-- The canonical form: keys strictly rising, no entry at its default. -/
def SMap.wf (dflt : Key → Nat) : SMap → Bool
  | [] => true
  | [(k, v)] => v != dflt k
  | (k, v) :: (k', v') :: r => v != dflt k && keyLt k k' && SMap.wf dflt ((k', v') :: r)

/-- Bytes are put into a sparse memory from a key on. -/
def putBytes (m : SMap) (k ofs : Nat) (l : List Nat) : SMap :=
  (List.range l.length).foldl (fun m i => m.set (k, ofs + i) 0 (l.getD i 0 % 256)) m

end Sys2Proof.Machine
end

