-- ==== Sys2Proof/Machine/State.lean ====
section
/-!
DEFINITION. The state of the block: every register field, buffer, queue, counter, mode and latch the spec gives it, as
plain data, the queue of waiting commands, the reasons to stop, and the state after reset. Register fields are held in
one sparse table keyed by field and index (Machine/Fields.lean names them with their Reset column); what the spec gives
the machine beside its registers stands in one structure per chapter.
-/
namespace Sys2Proof.Machine

/-- Values of register fields that wait to take effect, by field and index. -/
abbrev FldMap := List ((Fld × Nat) × Nat)

/-- The states a whole-die reset moves through (01 Table 1-12). -/
inductive ResetPhase where
  | none | fuses | plls | repairs | clearing | bellTest | release
  deriving DecidableEq, Repr

/-- The reset sequencer and what it holds between its phases (01 R42 to R45). -/
structure ResetSt where
  phase : ResetPhase := .none
  /-- Cause of the running or last reset, as the detail word of discard reason 2 (20 R480). -/
  cause : Nat := 1
  /-- VCORE monitor failed since the previous reset ended (01 R45). -/
  vcoreFailed : Bool := false
  /-- The PD3 switch has opened since the previous reset ended (01 R45). -/
  pd3Opened : Bool := false
  /-- Recorded at 0 µs: PD3 has lost its contents (01 R45). -/
  satchelLost : Bool := false
  /-- PLLs that had not locked at 45 µs: bit 0 E0, 1 E1, 2 A, 3 B, 4 C, 5 N (01 R44). -/
  pllFailed : Nat := 0
  /-- Bell roots that failed the self-test of the reset, by bit (01 R44). -/
  rootsFailed : Nat := 0
  /-- The last reset ended with no Bell root in service (01 R44). -/
  noRoot : Bool := false
  /-- A whole-die reset that a clock failure has requested and that is not yet taken, by its cause (04 Table 4-2). -/
  requested : Option Nat := none
  deriving DecidableEq, Repr

/-- A sample word of the fabric (01 Table 1-5). -/
structure SampleWord where
  result : Nat
  valid : Bool
  subst : Bool
  inj : Bool
  reason : Nat
  source : Nat
  ts : Nat
  deriving DecidableEq, Repr

/-- The Bell word (01 Table 1-9); its CHECK follows from the rest. -/
structure BellWord where
  period : Bool := false
  snapshot : Bool := false
  apply : Bool := false
  latch : Bool := false
  barrier : Bool := false
  test : Bool := false
  group : Nat := 0
  points : Nat := 0
  barrierId : Nat := 0
  /-- The group mask of a joint APPLY (GROUP 0xFF). -/
  jointMask : Nat := 0
  seq : Nat := 0
  deriving DecidableEq, Repr

/-- A barrier in progress (01 R37). -/
structure Barrier where
  id : Nat
  /-- Sites still waited for, by bit. -/
  waited : Nat
  deriving DecidableEq, Repr

/-- A request that waits at the root (01 R24, R36): who asks, and the group or barrier asked for, with the mask of a joint
APPLY. Requesters are numbered: 0 to 3 the Tutor cores, 4 the dictionary service. -/
structure BellReq where
  who : Nat
  what : Nat
  mask : Nat := 0
  deriving DecidableEq, Repr

/-- The Bell roots and their waiting requests (01 R32, R36, R37). -/
structure BellSt where
  /-- APPLY requests waiting, oldest first: a group number, or 0xFF with its joint mask. -/
  applyQ : List BellReq := []
  latchQ : List Nat := []
  barrierQ : List BellReq := []
  /-- The requesters served last, the lowest in priority (01 R24). -/
  lastApply : Nat := 4
  lastBarrier : Nat := 4
  /-- The 64 bits that the roots sent last (01 Table 1-9). -/
  sent : Nat := 0
  /-- Barriers in progress, oldest first. -/
  barriers : List Barrier := []
  lastWord : BellWord := {}
  /-- Timebases of the divergences of the last 1 s that point to root 0 and to root 1 (01 R32). -/
  div0 : List Nat := []
  div1 : List Nat := []
  deriving DecidableEq, Repr

/-- The sample fabric: each source's words waiting in its output buffer and the words delivered (01 R26 to R31). -/
structure FabricSt where
  /-- Waiting words, oldest first, with their source; at most eight of one source. -/
  waiting : List SampleWord := []
  /-- The newest word delivered from each source. -/
  newest : List SampleWord := []
  /-- Words that spines 0 to 3 have carried in the running millisecond of the timebase (01 Table 1-10, FAB_LOAD). -/
  carried : List Nat := [0, 0, 0, 0]
  deriving DecidableEq, Repr

/-- The Caretaker and the supplies beside their registers (03). -/
structure CaretakerSt where
  /-- PD0 logic runs (03 R70, R74). -/
  running : Bool := true
  /-- VCORE power-good has been released to the reset logic (03 R75). -/
  powerGood : Bool := true
  /-- An admitted burst runs; its class costs have been admitted (03 R89). -/
  burst : Bool := false
  /-- The running burst was started by the Caretaker, not by the Library controller (03 R91). -/
  burstOwn : Bool := false
  /-- Counters have changed since the last final record (03 R89). -/
  changed : Bool := false
  /-- The store has been filled above GAUGE_RSV + COST4 + COST0 since the last unprompted final record (03 R90). -/
  finalArmed : Bool := true
  /-- E_avail has been at or above GAUGE_RSV since the cold start (03 R90). -/
  reached : Bool := false
  /-- The harvester or the cell path has delivered during the present rise of VSTORE (03 R84). -/
  riseSpoiled : Bool := false
  /-- HARV_IN and HARV_SET let the harvester deliver (03 R78, R79). -/
  harvReady : Bool := false
  /-- The cell path has conducted since the last sample (03 R82). -/
  cellTook : Bool := false
  /-- Internal switches of PD3, PD5 and PD6 opened on overcurrent, by bit (03 R72). -/
  intOpen : Nat := 0
  /-- Dual balls found open so far: bits 0 to 15 as OPEN_SIG, 16 to 24 as OPEN_PAIR (02 R62). -/
  openKnown : Nat := 0
  /-- Balls of dual signals that their tests have found open, by twice the OPEN_SIG bit, plus one for the second ball (02 R60). -/
  openBalls : Nat := 0
  /-- Balls of the eight large groups found open, by ball bit (02 R62). -/
  openGroups : List Nat := List.replicate 8 0
  /-- Idle steps of the present cycle of the 16 MHz RC, and quarter Edge ticks of the present RTC fraction (04 R103, R112;
  assumption log, entry 24). -/
  rcPhase : Nat := 0
  rtcPhase : Nat := 0
  /-- The flash is in deep power-down (03 R88; assumption log, entry 103). -/
  flashAsleep : Bool := true
  /-- Bytes of the Caretaker SRAM that Tutor cores have stored, by offset (21 R507). -/
  sram : SMap := []
  deriving DecidableEq, Repr

/-- The clocks, the timebase and the RTC beside their registers (04). -/
structure ClockSt where
  /-- Timebase count held at the reset request (04 R105). -/
  held : Nat := 0
  /-- The Caretaker has cold-started since the last timebase load (04 R105). -/
  coldLoad : Bool := false
  /-- The signed rate accumulator, in 1/16 as (04 R108). -/
  rateAcc : Int := 0
  /-- Timebase of the last step worked off SYNC_ERR (04 R108). -/
  phaseTick : Nat := 0
  /-- Oscillator cycles by which stepped ticks and ALIGN have moved the Edge clock, later positive (04 R108, R109). -/
  moved : Int := 0
  /-- Timebase of the last tick that carried a step (04 R108). -/
  stepAt : Option Nat := none
  /-- The last edge of SYNC_IN that SYNC_OUT relayed: timebase and oscillator cycle (04 R110). -/
  relayed : Option (Nat × Nat) := none
  /-- Live RTC seconds, 48 bits (04 R112); the fraction is RTC_SUB.FRAC. -/
  rtc : Nat := 0
  /-- RTC_SECH as written and not yet committed (04 R112). -/
  sechHold : Nat := 0
  ppsOut : Bool := false
  /-- Timebase at which the last pulse of SYNC_OUT began; it lasts 16 ticks (04 R110). -/
  syncOutAt : Option Nat := none
  /-- The 32.768 kHz crystal runs (04 R111). -/
  crystal : Bool := true
  /-- PLL outputs are gated off because XIN is lost (04 R101). -/
  gated : Bool := false
  /-- PLL_E, PLL_C or PLL_N failed to lock in the last reset, so the Caretaker asks again (04 R102). -/
  retry : Bool := false
  deriving DecidableEq, Repr

/-- One conversion: input, extension, injected (05 R116, R125). -/
structure SarConv where
  input : Nat
  ext : Nat
  inj : Bool
  deriving DecidableEq, Repr

/-- One conversion slot beside its registers (05 R120 to R126). -/
structure SarSlot where
  /-- A burst runs; its next sequence entry is `entry`. -/
  burst : Bool := false
  entry : Nat := 0
  /-- A trigger is held pending (05 R122). -/
  pendingTrig : Bool := false
  /-- Occurrences of the slot's PWM event or of the PERIOD Bell that are on their way to it (05 R121, R123). -/
  due : Nat := 0
  /-- The slice of the conversion in hand has stalled (05 R141). -/
  stalled : Bool := false
  /-- TIMESTAMP of the last delivered word, which a read of SAR_LAST latches (05 Table 5-6). -/
  lastTs : Nat := 0
  /-- Occurrences of the source since the last burst it started (05 Table 5-1). -/
  divCount : Nat := 0
  /-- Injected requests queued, oldest first: input and extension. -/
  injQ : List (Nat × Nat) := []
  /-- The conversion in acquisition or conversion. -/
  cur : Option SarConv := none
  /-- RESULT of the last valid word (05 R141). -/
  lastValid : Nat := 0
  deriving DecidableEq, Repr

/-- The SAR block beside its registers (05). -/
structure SarSt where
  slots : List SarSlot := List.replicate 16 {}
  /-- Input of the previous conversion on each slice S0 to S16 (05 R119). -/
  lastInput : List (Option Nat) := List.replicate 17 none
  /-- Consecutive failed calibrations of each slice (05 R140). -/
  fails : List Nat := List.replicate 17 0
  /-- Step the next background step start begins (05 R134). -/
  nextStep : Nat := 0
  /-- The next step's start came while an exit was late (05 R139). -/
  stepDue : Bool := false
  /-- Entry opportunities lost in this step (05 R135). -/
  lost : Nat := 0
  /-- Overlapped conversions done of the pair, and whether one of them differed by more than MATCH_TOL (05 R137). -/
  pairDone : Nat := 0
  pairBad : Bool := false
  /-- Timestamps of the opportunity that the pair follows, and of the first injected request since (05 R135). -/
  oppAt : Nat := 0
  injAt : Option Nat := none
  /-- Consecutive failed exit matches (05 R139). -/
  exitFails : Nat := 0
  /-- Eight failed exit matches have counted as a failed calibration in this step (05 R139). -/
  exitFailed : Bool := false
  /-- A foreground calibration starts when REF_READY becomes 1 (05 R130, R133). -/
  fgPending : Bool := true
  deriving DecidableEq, Repr

/-- One modulator channel beside its registers (06). -/
structure ModChan where
  /-- The bits received, newest first, each with the tick of its sampling edge (06 R148, R152). -/
  bits : List (Bool × Nat) := []
  /-- Bits of the newest level in a row (06 R149). -/
  run : Nat := 0
  /-- Sampling edges since the group's restart, and since the last decimation edge (06 R150, R153). -/
  edges : Nat := 0
  since : Nat := 0
  /-- A PWM event waits for its decimation edge (06 R153). -/
  syncDue : Bool := false
  /-- Bits the main filter and the guard filter have taken since they started (06 R154, R162). -/
  taken : Nat := 0
  guardTaken : Nat := 0
  /-- Recess has begun and the main filter completes its current word (06 R163). -/
  finishing : Bool := false
  /-- Main-filter outputs, newest first, at most four (06 R155), and the centre instant of the newest (06 R152). -/
  outs : List Int := []
  centre : Option Nat := none
  /-- TIMESTAMP of the last word, which a read of MOD_LASTn latches (06 Table 6-2). -/
  lastTs : Nat := 0
  /-- Words still to be marked by the rows of Table 6-1: enabled, order or M changed, FDLY written, loss. -/
  markEn : Nat := 4
  markOrd : Nat := 0
  markDelay : Nat := 0
  markLoss : Nat := 0
  /-- The delay from which the running ramp started, as a fraction, and the steps made of four (06 R156). -/
  rampNum : Nat := 0
  rampDen : Nat := 1
  rampStep : Nat := 4
  /-- The guard trip stands from one of the cases of R162. -/
  initial : Bool := true
  deriving DecidableEq, Repr

/-- One comparator beside its registers (07). -/
structure CompChan where
  /-- The level at the WCIN ball, in 0.1 mV. -/
  level : Int := 0
  /-- TRIPPED stands since a reset or a change of MODE, and the stages seen since on their non-trip side (07 R177). -/
  initial : Bool := true
  seenHi : Bool := false
  seenLo : Bool := false
  /-- Leading-edge blanking runs (07 R178). -/
  blanked : Bool := false
  deriving DecidableEq, Repr

/-- The comparators and the trip groups beside their registers (07). -/
structure TripSt where
  chans : List CompChan := List.replicate 48 {}
  /-- Groups that rose with SEEN at 0 and await their sample, by bit (07 R180). -/
  risen : Nat := 0
  deriving DecidableEq, Repr

/-- What a module's pads follow (08 R213 to R217, 09 R231, R233). -/
inductive PadMode where
  /-- Driven low: OUTEN is 0, no pass, a Prefect force, or armed and waiting for a period start. -/
  | low
  /-- The programmed safe level. -/
  | safe
  /-- The commands. -/
  | follow
  /-- A leg's gap runs: the outer pads are off and the inner pads keep their level. -/
  | gap
  /-- The shoot-through interlock holds both pads low until the next period start. -/
  | shoot
  deriving DecidableEq, Repr

/-- A word an engine has staged: engine, shadow word, value, its run complete (08 R202). -/
structure Staged where
  engine : Nat
  word : Nat
  value : Nat
  complete : Bool := false
  deriving DecidableEq, Repr

/-- One PWM module beside its registers (08, 09). Instants are in taps: 128 × timebase + tap. -/
structure PwmMod where
  /-- The high-side and low-side commands that the command tables form (08 R193, R194). -/
  h : Bool := false
  l : Bool := false
  /-- The same with suppressed intervals removed (08 R208). -/
  he : Bool := false
  le : Bool := false
  /-- A suppressed low interval runs inside a merged high interval (08 R209). -/
  merged : Bool := false
  /-- How far the carry moves the next falling edge of H, in taps. -/
  move : Int := 0
  /-- The running high-side or low-side pulse is stretched to MINPW (08 R209). -/
  stretchHi : Bool := false
  stretchLo : Bool := false
  /-- The output commands after the turn-on delays, and when each last rose. -/
  hi : Bool := false
  lo : Bool := false
  hiAt : Nat := 0
  loAt : Nat := 0
  /-- Turn-on delays that run: the instant each side is due to rise (08 R205). -/
  riseHi : Option Nat := none
  riseLo : Option Nat := none
  /-- A fall moved past the tick of its match, by the carry or held to MINPW: its instant, and whether the carry moved it (08
  R209, R211). -/
  fallHi : Option (Nat × Bool) := none
  fallLo : Option (Nat × Bool) := none
  /-- The instant at which the carry has ended the high-side pulse before its command falls (08 R209). -/
  early : Option Nat := none
  /-- The internal commands while the pads do not follow them, and their turn-on delays (07 R178; 09 R243). -/
  inHi : Bool := false
  inLo : Bool := false
  dueHi : Option Nat := none
  dueLo : Option Nat := none
  /-- The ticks in which the pads last ceased to follow, in which the interlock last acted, and of the last link load (09 R243,
  08 R223). -/
  leftAt : Option Nat := none
  shotAt : Option Nat := none
  loadAt : Option Nat := none
  mode : PadMode := .low
  /-- High-side and low-side levels driven at the output stage (08 R207 gives the pads from them). -/
  outHi : Bool := false
  outLo : Bool := false
  /-- A period start has been seen whose check follows 4 ticks later (08 R214). -/
  due : Bool := false
  /-- The interlock has acted and its report is to follow (09 R231). -/
  shot : Bool := false
  /-- The running refresh: 0 none, 1 before the low side rises, 2 while it is high, 3 before the high side rises (09 R237). -/
  refresh : Nat := 0
  refCount : Nat := 0
  /-- The high-side output has stayed high since the last period start (09 R237). -/
  stayed : Bool := false
  /-- Staged words of the running lesson period, and those that move 12 ticks after the Bell (08 R202, R203). -/
  staged : List Staged := []
  moving : List Staged := []
  /-- The last reload, and the last commits with the shadow words before them (08 R201). -/
  reloadAt : Option Nat := none
  commitAt : Option Nat := none
  commits : Nat := 0
  before : List Nat := [0, 0, 0]
  /-- The last staged move and the words it moved (08 R204). -/
  movedAt : Option Nat := none
  movedWords : List Nat := []
  /-- RWL fields applied by a restart that wait for a period start of the running counter (08 R224). -/
  wait : FldMap := []
  deriving DecidableEq, Repr

/-- A link pulse on its way: the module it reaches, the tick it was sent in, and the ticks from the event that first
raised it to its arrival (08 R219, R220). -/
structure LinkPulse where
  dest : Nat
  sent : Nat
  latency : Nat
  deriving DecidableEq, Repr

/-- The PWM block beside its registers (08). -/
structure PwmSt where
  mods : List PwmMod := List.replicate 24 {}
  /-- The holding register of each core: module, shadow word, low half (08 R199). -/
  holds : List (Option (Nat × Nat × Nat)) := [none, none, none, none]
  /-- Masks written to PWM_GSTART whose 8 ticks run, oldest first (08 R218). -/
  gstart : List Nat := []
  links : List LinkPulse := []
  /-- Some counter has run since the last whole-die reset (22 R524). -/
  counted : Bool := false
  deriving DecidableEq, Repr

/-- The gate interface beside its registers (09). -/
structure GateSt where
  /-- Legs whose gap runs, and those of them timed by the clockless delay (09 R233, R235), by bit. -/
  gaps : Nat := 0
  clockless : Nat := 0
  /-- The modules of each running gap, which stand until it ends (09 R233). -/
  gapMods : List (Nat × List Nat) := []
  /-- Modules whose running shutdown then clears CNT_EN (09 R240), by bit. -/
  stopAfter : Nat := 0
  /-- Writes held by a shutdown, in the order written: module, and whether the field is OUTEN (09 R242). -/
  held : List (Nat × Bool) := []
  /-- Modules whose FLT blanking window runs, by bit (09 R228). -/
  blank : Nat := 0
  /-- FLTm became qualified low inside its window and is not reported yet (09 R229): module and tick of its level. -/
  fltWaits : List (Nat × Nat) := []
  /-- The Prefect forces every gate pad low (09 R235, 18 R432). -/
  force : Bool := true
  deriving DecidableEq, Repr

/-- What a subscription keeps of the fabric (10 R249): its newest word and its newest valid word. -/
structure Sub where
  newest : Option SampleWord := none
  valid : Option SampleWord := none
  deriving DecidableEq, Repr

/-- One Lesson engine beside its registers and memory (10). Register and data values are the bit patterns of binary32
and binary64. -/
structure Engine where
  /-- The Bell of the period has reached the engine and its run has not started. -/
  due : Bool := false
  /-- The run of the period has executed END. -/
  complete : Bool := false
  pc : Nat := 0
  regs : List Nat := List.replicate 32 0
  flags : Nat := 0
  /-- T_k of the run, and its cycles so far. -/
  tk : Nat := 0
  cycles : Nat := 0
  /-- A WAIT stalls: first and last subscription, deadline tick, and the tick it began in. -/
  wait : Option (Nat × Nat × Nat × Nat) := none
  /-- The rollback log, newest first: index of a 32-bit word of the memory and its old value (10 R263). -/
  log : List (Nat × Nat) := []
  /-- Events kept for END: code, instruction, ECODE and VALUE (10 R267). -/
  events : List (Nat × Nat × Nat × Nat) := []
  /-- The first EVT with MOD[0] = 1 of the run (10 R266). -/
  evtFault : Option Nat := none
  /-- The next run is the first after a restart of its group with EN = 1 (10 R253). -/
  first : Bool := false
  /-- Writes held until the run ends, oldest first: whether a Tutor core made it (10 R248) or a data update of entry
  0x5020 + n:04 (10 R278), and the word indices and values made together. -/
  held : List (Bool × List (Nat × Nat)) := []
  /-- LE_CMDn.RETIRE has been written (10 R271). -/
  retire : Bool := false
  /-- Timebase of the last hardware fault (10 R271). -/
  faultAt : Option Nat := none
  /-- Response entry 11 has run since the last completed run (10 R264). -/
  limited : Bool := false
  subs : List Sub := List.replicate 32 {}
  /-- The LE_SNAPn range as it stood at the end of the last completed run, in 64-bit words (10 R265). -/
  image : Option (List Nat) := none
  deriving DecidableEq, Repr

/-- The engines, their memories and the lesson timer beside their registers (10). -/
structure EngSt where
  engines : List Engine := List.replicate 12 {}
  /-- Engine memory in 32-bit words, keyed by window and word index (byte offset / 4); 12 and 13 are SE-A and SE-B. -/
  mem : SMap := []
  /-- Held low halves of 64-bit data words, by core: window, word index, value (10 R248). -/
  lowHold : List (Option (Nat × Nat × Nat)) := [none, none, none, none]
  /-- Read latches of the high half, by core: window, word index of the high half, value (10 R248). -/
  highLatch : List (Option (Nat × Nat × Nat)) := [none, none, none, none]
  /-- Engines whose run was complete at the last PERIOD Bell, by bit (14 R354). -/
  done : Nat := 0
  /-- Timebase of the last PERIOD Bell. -/
  lastBell : Option Nat := none
  /-- Head events towards DIV (10 R257). -/
  divCount : Nat := 0
  /-- The copy that follows a retirement, by Substitute: the engine served (10 R272). -/
  copyA : Option Nat := none
  copyB : Option Nat := none
  /-- A Substitute whose copy has ended and that runs from the next Bell. -/
  readyA : Bool := false
  readyB : Bool := false
  deriving DecidableEq, Repr

/-- What a shipped Timetable carries of its sequences and its PLL from one run to the next (11 R283, R284), as binary64 patterns:
the voltage DDSRF's four states, the PLL's integrator, θ and the last ω, and the frequency filter's two states. -/
structure GridLock where
  seqV : List Nat := [0, 0, 0, 0]
  pll : Nat := 0
  theta : Nat := 0
  w : Option Nat := none
  filt : List Nat := [0, 0]
  deriving DecidableEq, Repr

/-- The current controllers of the grid Timetable (11 R286, R289), as binary64 patterns: the current DDSRF's four states, the
integrators of the four sequence controllers (positive d, q, negative d, q) and of the DC link's, and the two states of each axis of
each harmonic of the bank. -/
structure GridCtl where
  seqI : List Nat := [0, 0, 0, 0]
  ints : List Nat := [0, 0, 0, 0]
  dc : Nat := 0
  res : List Nat := List.replicate 96 0
  deriving DecidableEq, Repr

/-- The grid Timetable as shipped (11): its state and what it carries from one run to the next. Fractions are binary64
patterns, times are counted in runs. -/
structure GridSt where
  /-- A set of the grid group has been applied, so the Timetable runs on the engine of 0x6000:01. -/
  installed : Bool := false
  /-- The state code of Table 11-2, and the last trip code. -/
  st : Nat := 0
  trip : Nat := 0
  hold : Bool := false
  /-- A command of 0x6000:03 that acts from the next run. -/
  cmd : Option Nat := none
  /-- The parameter bank in use (11 R281). -/
  bank : Bool := false
  /-- The resampled curves, 256 binary32 patterns each (11 R292). -/
  lvCurve : List Nat := []
  hvCurve : List Nat := []
  /-- Consecutive runs of: U_LV below entry, at or above exit; U_HV above entry, at or below exit; U1 at or above the MC
  exit; the LV boundary crossed; the HV boundary crossed; ω held at a limit. -/
  cLvIn : Nat := 0
  cLvOut : Nat := 0
  cHvIn : Nat := 0
  cHvOut : Nat := 0
  cMcOut : Nat := 0
  cLvTrip : Nat := 0
  cHvTrip : Nat := 0
  cSat : Nat := 0
  /-- The LV and HV timers, in runs. -/
  lvTimer : Option Nat := none
  hvTimer : Option Nat := none
  /-- References and their values before the state was entered. -/
  id : Nat := 0
  ir : Nat := 0
  i2 : Nat := 0
  idEntry : Nat := 0
  irEntry : Nat := 0
  pR : Nat := 0
  qR : Nat := 0
  /-- P_M while the frequency limit holds it. -/
  pM : Option Nat := none
  /-- U_PRE, a binary32 pattern. -/
  uPre : Nat := 0
  /-- The fourteen published values of the last completed run, binary32 patterns (11 Table 11-6). -/
  published : List Nat := List.replicate 14 0
  lock : GridLock := {}
  ctl : GridCtl := {}
  /-- The duties of the last run, outer and inner of each phase, binary32 patterns (11 R287). -/
  duties : List Nat := []
  /-- The crossing of this ride-through has been reported (11 R292), and a set awaits event 0x0616. -/
  crossed : Bool := false
  applied : Bool := false
  deriving DecidableEq, Repr

/-- The islanding Timetable as shipped (12). Sums are binary64 patterns. -/
structure IslSt where
  installed : Bool := false
  st : Nat := 0
  trip : Nat := 0
  cmd : Option Nat := none
  /-- Consecutive runs in which the conditions of stages 0 to 7 hold (12 Table 12-1). -/
  counts : List Nat := List.replicate 8 0
  hold : Bool := false
  /-- Runs since the PLL left hold; none before it was ever held. -/
  sinceHold : Option Nat := none
  /-- LT_COUNT of the window's first run, and whether the window is discarded (12 R306). -/
  start : Option Nat := none
  discard : Bool := false
  /-- Runs of the window so far, and S_c, S_u, S_i, S_cu, S_ci. -/
  n : Nat := 0
  sums : List Nat := [0, 0, 0, 0, 0]
  /-- Consecutive valid windows above Z_TH. -/
  conf : Nat := 0
  z : Nat := 0
  valid : Bool := false
  windows : Nat := 0
  /-- Published: frequency, ROCOF, largest phase error in degrees, U_LV, U_HV (binary32). -/
  freq : Option Nat := none
  rocof : Nat := 0
  maxErr : Nat := 0
  uLv : Nat := 0
  uHv : Nat := 0
  lock : GridLock := {}
  /-- The state of the filter of r, a binary64 pattern (12 R299). -/
  roc : Nat := 0
  /-- Event 0x0632 has been queued and 0x0633 not yet (12 R306). -/
  lost : Bool := false
  deriving DecidableEq, Repr

/-- One tracker of the MPPT Timetable (12 R310, R311). Values are binary64 patterns. -/
structure Tracker where
  /-- The state code of Table 12-2. -/
  st : Nat := 0
  vRef : Nat := 0
  vEntry : Nat := 0
  vLast : Nat := 0
  pLast : Nat := 0
  step : Nat := 0
  voc : Nat := 0
  /-- The direction: v_ref falls. -/
  down : Bool := false
  /-- Runs summed since the last update, and the sums of v, the current and their product. -/
  n : Nat := 0
  sumV : Nat := 0
  sumI : Nat := 0
  sumP : Nat := 0
  /-- In START: runs so far and v of the last 16 runs, newest first. -/
  runs : Nat := 0
  last : List Nat := []
  /-- The integrator of the voltage loop (12 R308). -/
  integ : Nat := 0
  deriving DecidableEq, Repr

/-- A running I-V trace (12 R312). -/
structure Trace where
  input : Nat
  /-- Leg 1 to 3, and runs of the leg so far. -/
  leg : Nat := 1
  runs : Nat := 0
  /-- v_ref at the start of leg 1, and where the leg began. -/
  vStart : Nat := 0
  vFrom : Nat := 0
  /-- Sums of voltage and current of the running point of leg 2. -/
  sumV : Nat := 0
  sumI : Nat := 0
  deriving DecidableEq, Repr

/-- The MPPT Timetable as shipped (12). -/
structure MpptSt where
  installed : Bool := false
  trackers : List Tracker := List.replicate 12 {}
  trace : Option Trace := none
  /-- A trace requested that starts with the next run. -/
  ask : Option Nat := none
  deriving DecidableEq, Repr

/-- The shipped Timetables, and writes of their RW entries that wait for the end of a run (11 R281). -/
structure ShippedSt where
  grid : GridSt := {}
  isl : IslSt := {}
  mppt : MpptSt := {}
  late : List (Nat × Nat × Nat) := []
  deriving DecidableEq, Repr

/-- A word the Bursar keeps: timestamp, value in volts or amperes as binary64 bits, and whether it may be used. -/
structure BurWord where
  ts : Nat
  value : Nat
  ok : Bool
  deriving DecidableEq, Repr

/-- One phase of a metering point (13 R318, R319). -/
structure BurPhase where
  /-- Voltage words that wait for their current, oldest first. -/
  volts : List BurWord := []
  /-- Current words at hand, oldest first. -/
  amps : List BurWord := []
  /-- Timestamp of the voltage word paired last. -/
  prev : Option Nat := none
  /-- Consecutive invalid words of the voltage and of the current source, and their last valid values. -/
  badV : Nat := 0
  badI : Nat := 0
  lastV : Option Nat := none
  lastI : Option Nat := none
  /-- A gap runs, and the timebase of its start. -/
  gapAt : Option Nat := none
  /-- Pairs of the running cycle, newest first: t − start and Δt in ticks, v and i as binary64 bits. -/
  pairs : List (Nat × Nat × Nat × Nat) := []
  /-- Σ v²·Δt, in binary64 bits and V² ticks, and Σ Δt of the running half-cycle and of the one before it (13 R328). -/
  half : Nat × Nat := (0, 0)
  halfWas : Option (Nat × Nat) := none
  deriving DecidableEq, Repr

/-- A voltage event that runs: timebase of its start boundary, half-cycles so far, phases concerned, and its extreme in
1/10 000 of U_DIN (13 R328). -/
structure BurEvent where
  start : Nat
  halves : Nat
  phases : Nat
  extreme : Nat
  deriving DecidableEq, Repr

/-- A metering point in PD3 (13 R320 to R328). -/
structure BurPoint where
  phases : List BurPhase := [{}, {}, {}]
  /-- Timebase of the start of the running cycle; none until the first crossing. -/
  start : Option Nat := none
  sag : Option BurEvent := none
  swell : Option BurEvent := none
  inter : Option BurEvent := none
  deriving DecidableEq, Repr

/-- A point's accumulators in the Caretaker SRAM (13 R323, R324): two copies of 16 accumulators of 96 bits, the selector
word, and the gap time in Edge ticks. -/
structure BurAcc where
  copy0 : List Nat := List.replicate 16 0
  copy1 : List Nat := List.replicate 16 0
  current : Bool := false
  commits : Nat := 0
  gap : Nat := 0
  /-- Timebase of the cycle end that committed the copy in force. -/
  ended : Option Nat := none
  deriving DecidableEq, Repr

/-- The Bursar beside its registers (13). -/
structure BursarSt where
  points : List BurPoint := List.replicate 8 {}
  /-- PD0: accumulators, theft charges (96 bits, LSB 2^-64 mAh) and tamper latches by channel (13 R335). -/
  accs : List BurAcc := List.replicate 8 {}
  theft : List Nat := [0, 0, 0, 0]
  tampered : Nat := 0
  /-- PD0: the accumulators restarted at 0 and await the restore of 13 R332. -/
  restoreDue : Bool := true
  /-- PD0: the RTC has been set since the last Caretaker cold start (13 Table 13-5). -/
  rtcSet : Bool := false
  /-- PD0: RTC seconds of the save whose span is unmetered, and its point mask (13 R333). -/
  span : Option (Nat × Nat) := none
  /-- PD0: seconds without the main supply, saturating at 2 (13 R334). -/
  absent : Nat := 0
  /-- PD0: a theft window runs, and MCLK(GRP) is driven (06 R164). -/
  window : Bool := false
  windowClock : Bool := false
  /-- PD0: events that wait for VCORE (13 R330, R335). -/
  late : List Nat := []
  deriving DecidableEq, Repr

/-- The Wing states of Table 14-2 (14 R346). -/
inductive WingState where
  | off | boot | cold | warm | ready | taking | active | failed
  deriving DecidableEq, Repr

/-- The code HP_STAT shows for a Wing state (14 Table 14-2). -/
def WingState.code : WingState → Nat
  | .off => 0 | .boot => 1 | .cold => 2 | .warm => 3 | .ready => 4 | .taking => 5 | .active => 6 | .failed => 7

/-- The state a code of Table 14-2 names. -/
def WingState.ofCode : Nat → WingState
  | 0 => .off | 1 => .boot | 2 => .cold | 3 => .warm | 4 => .ready | 5 => .taking | 6 => .active | _ => .failed

/-- One voter of the Hall Pass arbiter: its lease counts in RC cycles (14 R341). -/
structure Voter where
  leaseA : Nat := 0
  leaseB : Nat := 0
  retired : Bool := false
  /-- Timebases of its disagreements with the others within the last 1 s. -/
  times : List Nat := []
  deriving DecidableEq, Repr

/-- An engine section of a snapshot: pair, BASE, LEN and the words (14 Table 14-3). -/
structure EngSection where
  pair : Nat
  base : Nat
  words : List Nat
  deriving DecidableEq, Repr

/-- One slot of the snapshot ring, by content (14 Table 14-3). -/
structure Snapshot where
  seq : Nat := 0
  /-- The second copy of SEQ, written last. -/
  seqEnd : Nat := 0
  format : Nat := 0
  ltCount : Nat := 0
  bellSeq : Nat := 0
  wing : Wing := .a
  handover : Bool := false
  afterTakeover : Bool := false
  time : Nat := 0
  epoch : Nat := 0
  hash : Nat := 0
  outen : Nat := 0
  engMask : Nat := 0
  /-- SHD0, SHD1 and SHD2 of PM0 to PM23 in order. -/
  shadows : List Nat := []
  engines : List EngSection := []
  tutor : Option (Nat × List Nat) := none
  /-- The CRC of the slot checks. -/
  crcOk : Bool := true
  /-- A word of the slot reads as poison. -/
  poisoned : Bool := true
  deriving DecidableEq, Repr

/-- The phase of a planned handover (14 Table 14-5). -/
inductive Handover where
  | none
  /-- HANDOVER written; Bell H is this many PERIOD Bells ahead. -/
  | pending (bells : Nat)
  /-- After Bell H, until the arbiter records the new holder. -/
  | copying
  deriving DecidableEq, Repr

/-- The Hall Pass arbiter and the duplex machinery (14). -/
structure DuplexSt where
  voters : List Voter := [{}, {}, {}]
  handover : Handover := .none
  /-- Modules named in HP_REARM whose OUTEN waits for the first complete staged sets (14 R354). -/
  rearm : Nat := 0
  /-- The slot a Wing in TAKING restores from, once chosen; the inner none means no usable slot (14 R352). -/
  chosen : Option (Option Snapshot) := none
  /-- The restore of the Wing in TAKING is complete; it enters ACTIVE at the next PERIOD Bell. -/
  restored : Bool := false
  /-- Timebase of the expiry that started the running takeover. -/
  expiryTs : Nat := 0
  released : Bool := false
  /-- The next snapshot is the first after a takeover (Table 14-3 offset 15 bit 2). -/
  firstAfter : Bool := false
  /-- The Wing entered ACTIVE by a takeover with no usable slot: engines start with FIRST = 1. -/
  noSnap : Bool := false
  /-- SEQ of the snapshot number kept in the Caretaker (14 R349). -/
  seq : Nat := 0
  /-- The newest SEQ written (14 Table 14-8), whose high half a read of HP_SEQL latches in HP_SEQH. -/
  written : Nat := 0
  /-- A snapshot has been written since STALE was set (14 R358). -/
  advanced : Bool := false
  /-- Wing B has been granted the pass by an ACQUIRE in this RC cycle (14 R345). -/
  acquired : Bool := false
  /-- The snapshot being written, captured at its Bell (14 R350). -/
  writing : Option Snapshot := none
  slots : List Snapshot := [{}, {}, {}, {}]
  /-- PERIOD Bells since the Wing entered ACTIVE by a takeover (14 R354). -/
  activeBells : Nat := 0
  /-- Consecutive self-test failures of Wing A and Wing B (14 R348). -/
  bistFailA : Nat := 0
  bistFailB : Nat := 0
  /-- Timebases at which the self-test windows of Wing A and Wing B opened; one lasts at most 2 ms (14 R348). -/
  windowA : Option Nat := none
  windowB : Option Nat := none
  /-- WAKE has started the PLL of the Wing in COLD, which enters WARM at its lock (14 R345), by Wing bit. -/
  waking : Nat := 0
  /-- A takeover runs whose HP_REARM write, which ends HP_TKO.DUR, is to come (Table 14-8). -/
  tkoOpen : Bool := false
  deriving DecidableEq, Repr

/-- Memory integrity beside its registers (15). Memories go by the identifiers of Table 15-1, words by their number in
the memory. -/
structure IntegritySt where
  /-- The record of field repairs, in the order made: 64-bit entries (15 Table 15-5). -/
  repairs : List Nat := []
  /-- Satchel lost its contents in the last reset, so a word that `marks` does not list is poison (01 R45). -/
  satLost : Bool := true
  /-- Words that hold poison (1) or hold no poison (0), where that is not what their memory starts with (15 R371). -/
  marks : SMap := []
  /-- The suspect tables of the eight classes, previous pass and current pass: words of the class, oldest first (15 R379). -/
  suspectPrev : List (List Nat) := List.replicate 8 []
  suspectCur : List (List Nat) := List.replicate 8 []
  /-- Corrections since the last event 0x90 of each class, and the timebase of that event (15 R378). -/
  corrSince : List Nat := List.replicate 8 0
  corrAt : List (Option Nat) := List.replicate 8 none
  /-- Spare rows in use, by memory and row number, and spare columns, by memory, subarray and number (15 R380). -/
  rowsUsed : List (Nat × Nat) := []
  colsUsed : List (Nat × Nat × Nat) := []
  /-- Hard faults recorded: memory, row and column of the subarray (15 R380). -/
  hard : List (Nat × Nat × Nat) := []
  /-- Memories whose event 0x97 has been queued (15 R381). -/
  exhausted : List Nat := []
  /-- Wing memory islands that have stalled: bit 0 ITCM A, 1 DTCM A, 2 ITCM B, 3 DTCM B (15 Table 15-6). -/
  deadMem : Nat := 0
  /-- Fuses of the unit: the Satchel banks shipped in service, and the production repairs as entries of Table 15-5 with DAY 0 (15
  Table 15-10, 20 Table 20-13). -/
  bankFuse : Nat := 0xFFFF
  shipped : List Nat := []
  /-- Uncorrectable words of Satchel banks found: bank, word and timebase (15 R384). -/
  found : List (Nat × Nat × Nat) := []
  deriving DecidableEq, Repr

/-- A committed or unfinished record of the Library, by content (16 R398, R400). -/
structure LibRecord where
  area : Nat
  type : Nat
  seq : Nat
  /-- RTC seconds [31:0] at creation. -/
  time : Nat
  payload : List Nat
  /-- Physical block that holds its first page. -/
  block : Nat
  /-- The four copies of the commit marker; none while the marker is erased. -/
  marker : Option (List Nat) := none
  /-- A codeword of it was found uncorrectable (16 R405). -/
  lost : Bool := false
  deriving DecidableEq, Repr

/-- What a burst of the Library does (03 R89, Table 3-4). -/
inductive LibWork where
  /-- A record and its commit marker. -/
  | record
  /-- The erase of a block. -/
  | erase (block : Nat)
  /-- A copy through the code of a block to a spare block, for a refresh, a relocation or a bad block. -/
  | copy (old new : Nat) (refresh bad : Bool)
  deriving DecidableEq, Repr

/-- A burst asked of the Library manager (16 R402, 19 R462, R463). -/
structure LibReq where
  /-- Client index of 19 R463: 0 Bursar and Caretaker, 1 the manager, 2 and 3 the Wings, 4 Prefect set, 5 repair copy. -/
  client : Nat
  area : Nat
  type : Nat
  payload : List Nat
  /-- The Q13 descriptor that asked, which completes with the burst. -/
  ring : Option Nat := none
  /-- The remap its directory record commits (16 R403 to R405): old block and the block that replaces it. -/
  remap : Option (Nat × Nat) := none
  /-- The remap is a refresh (16 R405). -/
  refresh : Bool := false
  /-- It has been refused before (16 R406). -/
  again : Bool := false
  work : LibWork := .record
  deriving DecidableEq, Repr

/-- The burst that runs: its request, the SEQ of its record, and its operation classes still to complete, the one in
progress first (03 Table 3-4). -/
structure LibBurst where
  req : LibReq
  seq : Nat
  block : Nat
  ops : List Nat
  deriving DecidableEq, Repr

/-- The Library manager and the flash beside their registers (16). -/
structure LibrarySt where
  /-- Logical blocks of areas 0 to 8 in order, as physical block numbers (16 R395). -/
  areas : List (List Nat) := List.replicate 9 []
  /-- Erase counts and days of the last write, by block (16 R396). -/
  erases : SMap := []
  days : SMap := []
  bad : List Nat := []
  /-- Blocks in which a read needed more than REF_BITS corrections, and blocks just refreshed and not read since. -/
  worn : List Nat := []
  fresh : List Nat := []
  /-- Blocks of no area that hold old content and are erased before reuse, and bad blocks whose content waits to be copied
  (16 Table 16-5, R404). -/
  dirty : List Nat := []
  failing : List Nat := []
  /-- Low pulses of XSPI_RSTN so far (16 R393, 02 R65). -/
  rstPulses : Nat := 0
  /-- Bytes in use of the head block of each area. -/
  used : List Nat := List.replicate 9 0
  /-- The next SEQ of each area. -/
  seqs : List Nat := List.replicate 9 0
  /-- Records in the flash, oldest first. -/
  records : List LibRecord := []
  /-- Final records in area 8, oldest first, as their 16 bytes (16 Table 16-4). -/
  finals : List (List Nat) := []
  /-- The block of area 0, first or second, that holds the newest committed copy; none while neither is valid. -/
  dirBlock : Option Nat := none
  /-- Bursts that wait for their turn, and refused ones asked again at each gauge sample (16 R406). -/
  queue : List LibReq := []
  refused : List LibReq := []
  burst : Option LibBurst := none
  /-- The client served last (19 R463, 01 R24). -/
  lastClient : Nat := 5
  /-- Pre-erased final slots free. -/
  finalFree : Nat := 0
  deriving DecidableEq, Repr

/-- The image a Wing runs, as its boot accepted it (17 Table 17-4). -/
structure Image where
  digest : Nat := 0
  svn : Nat := 0
  owner : Bool := false
  cores : Nat := 0
  version : Nat := 0
  entry : Nat := 0
  deriving DecidableEq, Repr

/-- Fuses, keys and the running security operations (17). -/
structure SecuritySt where
  serial : Nat := 0
  vendorHash : Nat := 0
  /-- Owner key hashes programmed, in order; the newest is the current owner key (17 R414). -/
  ownerKeys : List Nat := []
  imageA : Option Image := none
  imageB : Option Image := none
  /-- The core whose fuse command runs, its code and its pending effect: a key hash or a count (17 R415). -/
  running : Option (Nat × Nat × Nat) := none
  /-- Initiators whose violation event was queued in the running second (17 R412). -/
  violated : List Nat := []
  /-- The identity key: the number its 32-byte public key spells (17 R421). -/
  identity : Option Nat := none
  /-- The attestation that runs: its report up to the signature, as captured (17 R423). -/
  attesting : Option (List Nat) := none
  /-- The report readable at 0xB020:02: the bytes before the signature, as captured, and the signature (17 Table 17-7). -/
  report : Option (List Nat × Nat) := none
  /-- Slots that the boot of Wing A and of Wing B has tried (17 Table 17-5). -/
  triedA : List Nat := []
  triedB : List Nat := []
  /-- The image placed in Satchel by a download boot (17 R419). -/
  download : Option (List Nat) := none
  deriving DecidableEq, Repr

/-- The Prefect in PD7, beside its mirror registers (18). A whole-die reset does not reset it. -/
structure PrefectSt where
  /-- VPF has been good for 1 ms (18 R434). -/
  vpfGood : Bool := true
  /-- SPR_OUT is driven high. -/
  sprOut : Bool := false
  /-- TP outputs low and demand masks that run, by channel bit (18 R429, R430). -/
  tpLow : Nat := 0
  mask : Nat := 0
  /-- Channels that show a filtered demand, by bit. -/
  demand : Nat := 0
  /-- Consecutive clean test cycles of channels A and B (18 R431). -/
  clean : List Nat := [0, 0]
  /-- The notice and the force of the newest demand or fault are on their way (18 R432), and the force is of a demand. -/
  noticeDue : Bool := false
  forceDue : Bool := false
  forceDemand : Bool := false
  /-- The switches have been read since VPF became good (18 R438). -/
  cfgRead : Bool := false
  /-- The Library manager has a parameter set to deliver (18 R439). -/
  deliver : Bool := true
  /-- The set loaded last, and the set in force: 96 bytes (18 Table 18-3). -/
  loaded : Option (List Nat) := none
  set : Option (List Nat) := none
  /-- Commissioning slots programmed, in order: set number and 128 bits of digest (18 R441). -/
  slots : List (Nat × Nat) := []
  /-- The next slot is being programmed. -/
  programming : Bool := false
  /-- The Prefect's own balls found open, its diagnostic: bits 1 to 15 as OPEN_SIG, 20 VPF (02 R62). -/
  openBalls : Nat := 0
  /-- Timebase of the first key of a release request (18 R437). -/
  keyAt : Option Nat := none
  deriving DecidableEq, Repr

/-- A ring descriptor (19 Table 19-2). -/
structure Desc where
  addr : Nat := 0
  len : Nat := 0
  own : Bool := false
  done : Bool := false
  err : Bool := false
  tsreq : Bool := false
  closed : Bool := false
  gap : Bool := false
  epoch : Nat := 0
  errcode : Nat := 0
  matched : Nat := 0
  ts : Nat := 0
  deriving DecidableEq, Repr

/-- A descriptor that the device has taken and not finished: ring, index, descriptor (19 R464). -/
structure Taken where
  ring : Nat
  idx : Nat
  desc : Desc
  deriving DecidableEq, Repr

/-- One event record of Q10 (19 R458): the header and the 128-bit payload. -/
structure Event where
  eseq : Nat
  epoch : Nat
  block : Nat
  ns : Bool
  lost : Nat
  rtc : Nat
  payload : Nat
  deriving DecidableEq, Repr

/-- A capture stream's buffer in progress (19 R461). -/
structure Capture where
  words : List SampleWord := []
  skip : Nat := 0
  gap : Bool := false
  deriving DecidableEq, Repr

/-- Where link training stands in this unit (19 R451, R452). -/
inductive Training where
  | idle | words | hops | failed
  deriving DecidableEq, Repr

/-- What a unit sends on its SYNC output (19 R452): a chain Bell, a training word with its POS, or a hop pulse. -/
inductive SyncOut where
  | bell
  | word (pos : Nat)
  | hop
  deriving DecidableEq, Repr

/-- Ports and rings beside their registers (19). -/
structure PortsSt where
  /-- Descriptors taken and not finished, newest first. -/
  taken : List Taken := []
  capA : Capture := {}
  capB : Capture := {}
  training : Training := .idle
  /-- Timebase at which this unit's hop pulse rose, while its echo is awaited. -/
  hopStart : Option Nat := none
  /-- What the SYNC output sent last, in order, and the last frame sent on the data pair: header, payload and CRC-16. -/
  syncOut : List SyncOut := []
  peerSent : List Nat := []
  /-- A chain Bell that waits for the end of training (Table 19-7). -/
  bellWaits : Bool := false
  /-- The Niujor slot in progress, from 0. -/
  slot : Nat := 0
  /-- The MDIO frame in progress: write, PHYAD, REGAD, DATA (19 R447). -/
  mdio : Option (Bool × Nat × Nat × Nat) := none
  /-- Ports held in local reset after a port fault, by bit (19 R466). -/
  held : Nat := 0
  /-- Events stored in Q10 and not yet passed by every consuming Wing, oldest first. -/
  q10 : List Event := []
  eseq : Nat := 0
  /-- Events lost since the last stored one. -/
  q10Lost : Nat := 0
  /-- Event 0x0D waits for space (Table 19-7): DETAIL and new epoch. -/
  epochEvent : Option (Nat × Nat) := none
  /-- Records at the front of `q10` that Wing A and Wing B have passed, where each keeps its own index (19 R458). -/
  q10A : Nat := 0
  q10B : Nat := 0
  /-- The ring the ring engine served last (19 R463). -/
  lastRing : Nat := 15
  deriving DecidableEq, Repr

/-- The group states of Table 20-7 (20 R484). -/
inductive GState where
  | running | entering | recess | rejected | validating | applying | notFitted
  deriving DecidableEq, Repr

/-- The state code of the group byte (20 Table 20-7). -/
def GState.code : GState → Nat
  | .running => 0 | .entering => 1 | .recess => 2 | .rejected => 3 | .validating => 4 | .applying => 5 | .notFitted => 6

/-- Who waits for the answer to a request that takes time (20 R485, R487, R494; 22 R524). -/
inductive Asker where
  /-- An IDP datagram: port, source and TAG. -/
  | idp (port source tag : Nat)
  /-- A USDO session: port and client. -/
  | usdo (port client : Nat)
  /-- The local gateway of a Tutor core. -/
  | core (c : Nat)
  deriving DecidableEq, Repr

/-- One function group (20 R484 to R495). -/
structure Group where
  st : GState := .notFitted
  standbyBehind : Bool := false
  unstored : Bool := false
  deferred : Bool := false
  joint : Bool := false
  discarded : Bool := false
  /-- Commands held by ENTERING or APPLYING, in order (20 R485): 1 ENTER, 2 RESTART, 3 RESTORE; and who awaits each. -/
  held : List (Nat × Option Asker) := []
  seq : Nat := 0
  hash : Nat := 0
  /-- 0x2010 + g:05. -/
  valRes : Nat := 0
  lastCmd : Nat := 0
  /-- The restart write in progress ends with this abort code instead of success (20 Table 20-10). -/
  restartAbort : Nat := 0
  /-- Who awaits the outcome of the restart (20 R487). -/
  askers : List Asker := []
  /-- The pending set beside the set in force (20 R486): register fields, keyed as registers are. -/
  pend : FldMap := []
  /-- The pending set's dictionary entries, keyed by index and subindex. -/
  pendVars : SMap := []
  /-- What a COLD standby still holds in place of the set in force (20 R490). -/
  standbyVars : SMap := []
  deriving DecidableEq, Repr

/-- The groups at reset (20 R491): every group 1 to 13 is in RECESS; the other numbers are no groups. -/
def groupsReset : List Group :=
  let r : Group := { st := .recess }
  let n : Group := {}
  [n, r, r, r, r, r, r, r, r, r, r, r, r, r, n, n]

/-- The last discard record (20 R480). -/
structure Discard where
  reason : Nat := 2
  epoch : Nat := 1
  time : Nat := 0
  detail : Nat := 1
  deriving DecidableEq, Repr

/-- A USDO session of a CAN port (20 R474). -/
structure UsdoSession where
  port : Nat
  client : Nat
  epoch : Nat
  index : Nat
  sub : Nat
  write : Bool
  /-- Bytes received or still to send. -/
  data : List Nat
  toggle : Bool
  /-- Bytes a segmented write is to have in all. -/
  total : Nat := 0
  /-- Bytes of value that the answering frame of a read carries. -/
  room : Nat := 0
  /-- The answer awaits a restart, a held command or an assembly. -/
  waiting : Bool := false
  /-- The session's next request ends with abort 0x0F00_0001 (20 R481). -/
  aborted : Bool := false
  deriving DecidableEq, Repr

/-- An IDP transfer of an Ethernet port (20 R476). -/
structure IdpTransfer where
  port : Nat
  source : Nat
  tag : Nat
  write : Bool
  index : Nat
  sub : Nat
  total : Nat
  data : List Nat
  /-- Timebase of its last segment. -/
  last : Nat := 0
  aborted : Bool := false
  deriving DecidableEq, Repr

/-- An answer kept for 2 s (20 R476): the source, the TAG, the abort code (0 success) and the bytes. -/
structure Answer where
  port : Nat
  source : Nat
  tag : Nat
  code : Nat
  data : List Nat
  /-- Timebase of the answer. -/
  at_ : Nat := 0
  deriving DecidableEq, Repr

/-- A request forwarded over the cross-Wing link (20 R478): who asked, the Wing that holds the entry, the initiator, the
entry, and the bytes of a write. -/
structure Forward where
  asker : Asker
  wing : Wing
  init : Nat
  index : Nat
  sub : Nat
  data : Option (List Nat)
  deriving DecidableEq, Repr

/-- The dictionary servers, the groups and the fault epoch's record (20). -/
structure DictSt where
  groups : List Group := groupsReset
  /-- Entries the dictionary itself holds, keyed by index and subindex (value in force). -/
  vars : SMap := []
  discard : Discard := {}
  discards : Nat := 1
  usdo : List UsdoSession := []
  idp : List IdpTransfer := []
  cache : List Answer := []
  /-- The joint restart in progress: its mask (20 R488). -/
  joint : Option Nat := none
  /-- 0x2030:02 and the seed restore that runs (22 R524). -/
  seedOutcome : Nat := 0xFFFF000F
  seeding : Option Wing := none
  /-- The Wing whose gateway serves the Roll Call assembly that waits for its barrier (20 R494). -/
  rollCall : Option Wing := none
  /-- Who awaits the Roll Call assembly, and who awaits the seed restore. -/
  rollAskers : List Asker := []
  seedAskers : List Asker := []
  /-- Requests that wait to be forwarded to the other Wing, oldest first (20 R478). -/
  forwards : List Forward := []
  /-- The last Roll Call summary assembled, 384 bytes. -/
  summary : List Nat := []
  /-- The entry named last in 0x2005:01 (20 R473). -/
  descReq : Nat := 0
  /-- The bytes the last dictionary read returned. -/
  answered : List Nat := []
  /-- Buffers sent so far by capture streams 0 and 1 (20 R498), and the IDP datagrams of the last one. -/
  streamTag : List Nat := [0, 0]
  streamSent : List (List Nat) := []
  /-- The abort code the last dictionary request ended with; 0 success (20 Table 20-5). -/
  lastAbort : Nat := 0
  /-- Class S and G records wait to be stored (20 R492), by group number. -/
  unstored : List Nat := []
  deriving DecidableEq, Repr

/-- The Tutor local block and the cores beside their registers (21). -/
structure TutorSt where
  /-- Timer compare values of TC0 to TC3, 64 bits (21 R502). -/
  mtcmp : List Nat := [2^64 - 1, 2^64 - 1, 2^64 - 1, 2^64 - 1]
  /-- A low word held until the high word is written (21 R519). -/
  mtcmpHold : List (Option Nat) := [none, none, none, none]
  /-- Machine timer interrupt pending, by core bit. -/
  mtip : Nat := 0
  /-- Sources claimed and not completed, by Wing, and the cores that have claimed source 11, which is each core's own (21 R509). -/
  claimedA : Nat := 0
  claimedB : Nat := 0
  claimedGw : Nat := 0
  /-- The core's clock is stopped by WFI, by core bit. -/
  wfi : Nat := 0
  /-- The core is halted in debug mode, by core bit (21 R518). -/
  halted : Nat := 0
  /-- A takeover entry awaits the core's leaving debug mode, by core bit (21 R511, Table 21-6). -/
  takeover : Nat := 0
  /-- The address each core was last sent to: the boot ROM at reset, the takeover entry (21 R511). -/
  entered : List Nat := [0, 0, 0, 0]
  /-- DTCM of both Wings: written bytes, by Wing and byte offset (21 Table 21-3). -/
  dtcm : SMap := []
  /-- ITCM of both Wings: the image the boot copied there and the bytes stored since, by Wing and byte offset. -/
  itcm : SMap := []
  /-- Engines halted by LEHALT, by engine bit (21 R518). -/
  leHalted : Nat := 0
  /-- LR reservations: per core the region (0 DTCM, 1 Satchel) and granule address (21 R503). -/
  lr : List (Option (Nat × Nat)) := [none, none, none, none]
  /-- Cores held in local reset by bit (15 R385). -/
  heldReset : Nat := 0
  /-- TAP instruction register: IDCODE after a reset of the TAP (21 R514). -/
  tapIr : Nat := 0x01
  /-- What the data register the TAP last selected captured. -/
  tapDr : Nat := 0
  /-- The boundary cells as last shifted in, and whether EXTEST drives the output balls from them (21 R515). -/
  boundary : Nat := 0
  extest : Bool := false
  /-- The last hart access of the debug module was answered unavailable (21 R516). -/
  dmUnavail : Bool := false
  /-- What the last read command of a core returned. -/
  lastRead : Nat := 0
  /-- mcause and mtval of TC0 to TC3 after the last access fault (21 Table 21-2). -/
  mcause : List Nat := [0, 0, 0, 0]
  mtval : List Nat := [0, 0, 0, 0]
  /-- Integer registers 0 to 31 and float registers 32 to 63 of TC0 to TC3, by core and number (21 R500). -/
  xf : SMap := []
  /-- Control and status registers that do not read 0, by core and number: PMP entries, mepc, mstatus and the others that the
  debug module writes (21 R500, R504, R511). -/
  csrs : SMap := []
  /-- The core runs in user mode, by core bit (21 R500, R504). -/
  user : Nat := 0
  /-- timeh as each core's last read of time latched it (21 R502). -/
  timeh : List Nat := [0, 0, 0, 0]
  /-- Program buffer words written, by word number, and the outcome of the last abstract command: 0 none, 2 not supported,
  3 exception, 4 hart not halted (21 R516). -/
  progbuf : SMap := []
  cmderr : Nat := 0
  deriving DecidableEq, Repr

/-- Why the block stops with a fault. -/
inductive Fault where
  /-- Raised by no command: the spec gives every command of the table an effect. -/
  | none
  deriving DecidableEq, Repr

/-- Why a command is refused. -/
inductive Refusal where
  /-- Raised by an arm of exec whose command has no meaning yet; safe, it stops where the hardware goes on. -/
  | notModelled (mnemonic : String)
  deriving DecidableEq, Repr

/-- The whole block. -/
structure State where
  /-- Commands waiting, first in, first out. -/
  pending : List Instr
  /-- Register fields that do not read as their Reset column, keyed by field number and index. -/
  regs : SMap
  /-- The 64-bit timebase, in Edge ticks (04 R104). -/
  tb : Nat
  /-- Number of free values used so far (the model's own field, assumption log, entry 5). -/
  freeCtr : Nat
  /-- Reset sequencer (01). -/
  rst : ResetSt
  /-- Bell roots (01). -/
  bell : BellSt
  /-- Sample fabric (01). -/
  fab : FabricSt
  /-- Hall Pass and duplex (14). -/
  dup : DuplexSt
  /-- Security (17). -/
  sec : SecuritySt
  /-- Ports and rings (19). -/
  ports : PortsSt
  /-- Dictionary and groups (20). -/
  dict : DictSt
  /-- Tutor cores (21). -/
  tut : TutorSt
  /-- Satchel, by byte address from 0x2000_0000: written bytes (15). -/
  satchel : SMap
  /-- Supplies and the Caretaker (03). -/
  ct : CaretakerSt
  /-- Clocks, timebase and RTC (04). -/
  clk : ClockSt
  /-- SAR slots, slices and the Substitute (05). -/
  sar : SarSt
  /-- Memory integrity (15). -/
  integ : IntegritySt
  /-- Library (16). -/
  lib : LibrarySt
  /-- Modulator channels (06). -/
  sd : List ModChan
  /-- Comparators and trip groups (07). -/
  trip : TripSt
  /-- PWM modules (08). -/
  pwm : PwmSt
  /-- Gate interface (09). -/
  gate : GateSt
  /-- Lesson engines and the lesson timer (10). -/
  eng : EngSt
  /-- The Timetables as shipped (11, 12). -/
  ship : ShippedSt
  /-- Bursar (13). -/
  bur : BursarSt
  /-- Prefect (18). -/
  pf : PrefectSt
  deriving DecidableEq, Repr

/-- The block right after its first whole-die reset (assumption log, entries 2 to 4). Every register field is at its
Reset column, so the table lists none. -/
def State.reset : State where
  pending := []
  regs := []
  tb := 0
  freeCtr := 0
  rst := {}
  bell := {}
  fab := {}
  dup := {}
  sec := {}
  ports := {}
  dict := {}
  tut := {}
  satchel := []
  ct := {}
  clk := {}
  sar := {}
  integ := {}
  lib := {}
  sd := List.replicate 24 {}
  trip := {}
  pwm := {}
  gate := {}
  eng := {}
  ship := {}
  bur := {}
  pf := {}

end Sys2Proof.Machine
end

