-- ==== Sys2Proof/Machine/Ops.lean ====
section
/-!
DEFINITION. The named operations every command is written over: numbers and bits, register fields, lists in State,
free values, events on Q10, interrupts, worlds, the Hall Pass, function groups, spares and repair records.
-/
namespace Sys2Proof.Machine

/-- What a command answers. -/
abbrev Out := Host.Outcome State Fault Refusal

/-! ### Numbers and bits -/

/-- The signed number a `w`-bit field holds, in two's complement. -/
def toSigned (w v : Nat) : Int := if v % 2 ^ w < 2 ^ (w - 1) then (v % 2 ^ w : Nat) else (v % 2 ^ w : Nat) - (2 ^ w : Nat)

/-- The `w`-bit two's complement of a signed number. -/
def ofSigned (w : Nat) (i : Int) : Nat := (i % (2 ^ w : Nat)).toNat

/-- The nearest value of the range `lo` to `hi`. -/
def clampNat (lo hi v : Nat) : Nat := if v < lo then lo else if hi < v then hi else v

/-- The nearest signed value of the range `lo` to `hi`. -/
def clampInt (lo hi v : Int) : Int := if v < lo then lo else if hi < v then hi else v

/-- One more, saturating at the largest `w`-bit number. -/
def satInc (w v : Nat) : Nat := if v + 1 < 2 ^ w then v + 1 else 2 ^ w - 1

/-- Bit `i` of `v` set to `b`, the others kept. -/
def setBitTo (v i : Nat) (b : Bool) : Nat :=
  if b then v ||| 2 ^ i else if v.testBit i then v - 2 ^ i else v

/-- Bits `lo + w - 1` down to `lo` of `v`. -/
def bits (v lo w : Nat) : Nat := v / 2 ^ lo % 2 ^ w

/-- `v` without the bits set in `clr`. -/
def maskOff (v clr : Nat) : Nat := v ^^^ (v &&& clr)

/-- The bits of `v` below `n`, as the list of their numbers. -/
def bitsOf (n v : Nat) : List Nat := (List.range n).filter (fun i => v.testBit i)

/-- The list with element `i` changed by `f`. -/
def modAt {α : Type} (l : List α) (i : Nat) (d : α) (f : α → α) : List α := l.set i (f (l.getD i d))

/-! ### Register fields -/

/-- The key of field `f` of instance `i` in the sparse table of registers. -/
def Fld.key (f : Fld) (i : Nat) : Key := (f.ctorIdx, i)

/-- The value of field `f` of instance `i`. -/
def State.fld (s : State) (f : Fld) (i : Nat := 0) : Nat := s.regs.get (f.key i) (f.reset i)

/-- A one-bit field as a truth value. -/
def State.flag (s : State) (f : Fld) (i : Nat := 0) : Bool := s.fld f i != 0

/-- Bit `b` of field `f`. -/
def State.bit (s : State) (f : Fld) (i b : Nat) : Bool := (s.fld f i).testBit b

/-- Field `f` of instance `i` takes `v`, in the field's width. -/
def State.setFld (s : State) (f : Fld) (i v : Nat) : State :=
  { s with regs := s.regs.set (f.key i) (f.reset i) (v % 2 ^ f.width) }

/-- A one-bit field takes a truth value. -/
def State.setFlag (s : State) (f : Fld) (i : Nat) (b : Bool) : State := s.setFld f i b.toNat

/-- Bit `b` of field `f` takes a truth value. -/
def State.setBit (s : State) (f : Fld) (i b : Nat) (v : Bool) : State := s.setFld f i (setBitTo (s.fld f i) b v)

/-- Field `f` counts one more, saturating at the field's width. -/
def State.count (s : State) (f : Fld) (i : Nat := 0) : State := s.setFld f i (satInc f.width (s.fld f i))

/-- A signed field. -/
def State.sfld (s : State) (f : Fld) (i : Nat := 0) : Int := toSigned f.width (s.fld f i)

/-- The change `f` for every element of a list, in order. -/
def State.each {α : Type} (s : State) (l : List α) (f : State → α → State) : State := l.foldl f s

/-- The change `f` if the condition holds. -/
def State.when (s : State) (b : Bool) (f : State → State) : State := if b then f s else s

/-- The low word of the timebase, the timestamp of every event and word (00 Notation). -/
def State.ts (s : State) : Nat := s.tb % 2 ^ 32

/-- A locked setting takes a value (20 R486): the fields of class RWL, which alone have pending values. -/
def State.setLocked (s : State) (f : Fld) (i v : Nat) : State := if f.acc = .rwl then s.setFld f i v else s

/-- Locked settings take their values in order. -/
def State.setAll (s : State) (l : FldMap) : State := s.each l (fun s e => s.setLocked e.1.1 e.1.2 e.2)

/-- The table of waiting values with one of them replaced or added. -/
def FldMap.put (l : FldMap) (f : Fld) (i v : Nat) : FldMap :=
  match l with
  | [] => [((f, i), v)]
  | e :: r => if e.1 = (f, i) then ((f, i), v) :: r else e :: FldMap.put r f i v

/-- The waiting value of a field, if any. -/
def FldMap.find (l : FldMap) (f : Fld) (i : Nat) : Option Nat :=
  match l with
  | [] => none
  | e :: r => if e.1 = (f, i) then some e.2 else FldMap.find r f i

/-! ### Free values -/

/-- The next free value of `w` bits, and the state that has used it (assumption log, entry 5). -/
def State.fresh (s : State) (w : Nat) : Nat × State :=
  (Config.freeValue s.freeCtr % 2 ^ w, { s with freeCtr := s.freeCtr + 1 })

/-! ### Blocks, worlds and events -/

/-- The blocks of the address map by bits [27:24] of their base (19 Table 19-4). -/
inductive Blk where
  | pwm | gate | sar | modulator | comparator | engine | bursar | duplex | integrity | library | security | ports
  | caretaker | prefect | tutor
  deriving DecidableEq, Repr

/-- BLOCK of an event record (19 Table 19-4). -/
def Blk.num : Blk → Nat
  | .pwm => 0 | .gate => 1 | .sar => 2 | .modulator => 3 | .comparator => 4 | .engine => 5 | .bursar => 6
  | .duplex => 7 | .integrity => 8 | .library => 9 | .security => 0xA | .ports => 0xB | .caretaker => 0xC
  | .prefect => 0xD | .tutor => 0xE

/-- The base address of a block (21 Table 21-3). -/
def Blk.base (b : Blk) : Nat := 0x40000000 + 0x1000000 * b.num

/-- The block is in the Non-secure world (17 R411, Table 17-1). -/
def State.blockNs (s : State) (b : Blk) : Bool :=
  match b with
  | .pwm => s.bit .SEC_BLK_BLK 0 0
  | .gate => s.bit .SEC_BLK_BLK 0 1
  | .sar => s.bit .SEC_BLK_BLK 0 2
  | .modulator => s.bit .SEC_BLK_BLK 0 3
  | .comparator => s.bit .SEC_BLK_BLK 0 4
  | .engine => s.bit .SEC_BLK_BLK 0 5
  | .bursar => s.bit .SEC_BLK_BLK 0 6
  | _ => false

/-- Port `p` is in the Non-secure world (17 Table 17-9, SEC_BLK.PORT). -/
def State.portNs (s : State) (p : Nat) : Bool := s.bit .SEC_BLK_PORT 0 p

/-- The Wing of a Tutor core (21). -/
def coreWing (core : Nat) : Wing := if core < 2 then .a else .b

/-- The Wing of a Lesson engine (10 R246). -/
def engineWing (n : Nat) : Wing := if n < 6 then .a else .b

/-- The core is Non-secure (17 R410, 21 R504): TC1 and TC3 as the image header said, TC0 and TC2 never. -/
def State.coreNs (s : State) (core : Nat) : Bool := s.flag .TUT_ID_NS core

/-- Records Q10 can hold (19 R453). -/
def State.q10Cap (s : State) : Nat := 2 ^ s.fld .RING_CFG_SIZE_L2 10

/-- The Wings that own ring `q` (19 R454). -/
def State.ringOwners (s : State) (q : Nat) : List Wing :=
  let split := s.flag .HP_CTRL_MODE
  match s.fld .RING_CFG_OWNER q with
  | 0 => [.a]
  | 1 => [.b]
  | 3 => if q = 10 then [.a, .b] else []
  | _ =>
    if split then
      if q = 10 then [.a, .b] else if s.flag .PWM_CTRL_OWNER 0 then [.b] else [.a]
    else if s.bit .HP_STAT_HOLDER 0 1 then [.b] else [.a]

/-- Source `src` is raised in one core (21 R508, R509): its pending bit is set, and WFI ends (21 R502). -/
def State.raiseCore (s : State) (core src : Nat) : State :=
  let s := s.setBit .TUT_IPEND core src true
  { s with tut := { s.tut with wfi := setBitTo s.tut.wfi core false } }

/-- Source `src` is raised in Wing `w`: both cores of the Wing share the controller. -/
def State.raise (s : State) (w : Wing) (src : Nat) : State :=
  (s.raiseCore (2 * w.num) src).raiseCore (2 * w.num + 1) src

/-- Source 16 + q is raised in the owners of ring `q` (21 Table 21-4). -/
def State.raiseRing (s : State) (q : Nat) : State := s.each (s.ringOwners q) (fun s w => s.raise w (16 + q))

/-- One record is stored on Q10, or dropped and counted when Q10 is full (19 R458). ESEQ counts both. -/
def State.emit (s : State) (b : Blk) (payload : Nat) : State :=
  let eseq := (s.ports.eseq + 1) % 2 ^ 32
  if s.ports.q10.length < s.q10Cap then
    let e : Event :=
      { eseq := eseq, epoch := s.fld .RING_EPOCH, block := b.num, ns := s.blockNs b,
        lost := s.ports.q10Lost, rtc := s.clk.rtc % 2 ^ 32, payload := payload % 2 ^ 128 }
    let s := { s with ports := { s.ports with q10 := s.ports.q10 ++ [e], eseq := eseq, q10Lost := 0 } }
    let s := s.setFld .RING_HEAD_HEAD 10 ((s.fld .RING_HEAD_HEAD 10 + 1) % s.q10Cap)
    s.when (s.flag .RING_CFG_IRQ 10) (fun s => s.raiseRing 10)
  else
    let s := { s with ports := { s.ports with eseq := eseq, q10Lost := min (s.ports.q10Lost + 1) 0xFFFF } }
    s.count .RING_STAT_DROP 10

/-- The generic payload (19 R459). -/
def genericPayload (code detail ident ts : Nat) : Nat :=
  code % 256 + detail % 256 * 2 ^ 8 + ident % 2 ^ 32 * 2 ^ 32 + ts % 2 ^ 32 * 2 ^ 64

/-- A generic event (19 Table 19-5) at the present tick. -/
def State.event (s : State) (b : Blk) (code detail ident : Nat) : State :=
  s.emit b (genericPayload code detail ident s.ts)

/-- Generic event 0x01: a register or command write is discarded (19 Table 19-5). -/
def State.discarded (s : State) (b : Blk) (addr : Nat) : State := s.event b 0x01 0 addr

/-! ### Words of status registers -/

/-- The word of a register of the map at its instance 0, from its fields. -/
def State.word (s : State) (r : RegDesc) (i : Nat := 0) : Nat :=
  r.fields.foldl (fun a fa => a + s.fld fa.fld i * 2 ^ fa.lo) 0

/-- The register of a table with the given name, or an empty one. -/
def regNamed (t : List RegDesc) (n : String) : RegDesc :=
  (t.find? (fun r => r.name == n)).getD { name := n, base := 0, fields := [] }

/-- CT_STAT as a word (03 Table 3-6). -/
def State.ctStat (s : State) : Nat := s.word (regNamed regs3_6 "CT_STAT")
/-- CLK_STAT as a word (04 Table 4-3). -/
def State.clkStat (s : State) : Nat := s.word (regNamed regs4_3 "CLK_STAT")
/-- CLK_SYNC as a word (04 Table 4-3). -/
def State.clkSync (s : State) : Nat := s.word (regNamed regs4_3 "CLK_SYNC")

/-- A supply, store or cell event (19 Table 19-5, code 0x08). -/
def State.supplyEvent (s : State) : State := s.event .caretaker 0x08 0 s.ctStat
/-- A clock event (19 Table 19-5, code 0x09) that shows CLK_STAT. -/
def State.clockEvent (s : State) : State := s.event .caretaker 0x09 0 s.clkStat

/-- `num / den` rounded to the nearest whole number; of a tie, which neighbour is free. -/
def State.roundFree (s : State) (num : Int) (den : Nat) : Int × State :=
  let q := num / den
  let r := num % den
  if 2 * r = den then let (f, s) := s.fresh 1; (q + f, s)
  else (if (den : Int) < 2 * r then q + 1 else q, s)

/-! ### World checks -/

/-- A security event (17 R424): CODE, WING, SLOT, REASON and the address. -/
def State.secEvent (s : State) (code wing slot reason addr : Nat) : State :=
  s.emit .security (code % 256 + wing % 2 * 2 ^ 8 + slot % 8 * 2 ^ 9 + reason % 16 * 2 ^ 12
    + addr % 2 ^ 32 * 2 ^ 32 + s.ts * 2 ^ 64)

/-- A duplex event (14 Table 14-6). `bits` holds NOSNAP, AGED and RELEASED as 1, 2 and 4. -/
def State.dupEvent (s : State) (code : Nat) (w : Wing) (bits reason age seq ts : Nat) : State :=
  s.emit .duplex (code % 256 + w.num * 2 ^ 8 + bits % 8 * 2 ^ 9 + reason % 16 * 2 ^ 12 + min age 0xFFFF * 2 ^ 16
    + seq % 2 ^ 32 * 2 ^ 32 + ts % 2 ^ 32 * 2 ^ 64)

/-- A Non-secure initiator reached for a Secure target (17 R412): SEC_VIOL records it, event 0xB2 at most once per
second for each initiator. -/
def State.violation (s : State) (init addr : Nat) : State :=
  let s := (s.setFld .SEC_VIOL_INIT 0 init).setFld .SEC_VIOLA 0 addr
  if s.sec.violated.contains init then s
  else { s.secEvent 0xB2 0 0 0 addr with sec := { s.sec with violated := init :: s.sec.violated } }

/-- A core's access ends with an access fault (21 Table 21-2): 1 fetch, 5 load, 7 store; mtval holds the address. -/
def State.coreFault (s : State) (core cause addr : Nat) : State :=
  { s with tut := { s.tut with mcause := s.tut.mcause.set core cause, mtval := s.tut.mtval.set core addr } }

/-- What the last read of a core returned. -/
def State.reads (s : State) (v : Nat) : State := { s with tut := { s.tut with lastRead := v } }

/-- The state of a Wing (14 R346), held in HP_STAT. -/
def State.wing (s : State) (w : Wing) : WingState :=
  match w with
  | .a => .ofCode (s.fld .HP_STAT_STATEA)
  | .b => .ofCode (s.fld .HP_STAT_STATEB)

/-- The PLL of a Wing's clocks is locked (04 Table 4-2). -/
def State.wingClock (s : State) : Wing → Bool
  | .a => s.flag .CLK_STAT_A_LK && !s.clk.gated
  | .b => s.flag .CLK_STAT_B_LK && !s.clk.gated

/-- The Edge domain has no clock (04 R99, R101, Table 4-2): both loops are unlocked, the only one in use after a switch to E1
is, or XIN is lost. -/
def State.edgeStopped (s : State) : Bool :=
  s.clk.gated || (!s.flag .CLK_STAT_E1_LK && (s.flag .CLK_STAT_E_SEL || !s.flag .CLK_STAT_E0_LK))

/-- The timebase at which a Wing's self-test window opened (14 R348). -/
def State.windowAt (s : State) : Wing → Option Nat
  | .a => s.dup.windowA
  | .b => s.dup.windowB

/-- A Wing's self-test window opens or closes (14 R348). -/
def State.setWindow (s : State) (w : Wing) (t : Option Nat) : State :=
  match w with
  | .a => { s with dup := { s.dup with windowA := t } }
  | .b => { s with dup := { s.dup with windowB := t } }

/-- The self-test window of a COLD Wing is open: 2 ms from its start (14 R348). -/
def State.inWindow (s : State) (w : Wing) : Bool :=
  match s.windowAt w with
  | some t => s.tb < t + 1280000
  | none => false

/-- A core executes: no whole-die reset runs, its Wing is powered and clocked (04 R100, R101) or in a self-test window of COLD
(14 R348), it is not held in local reset (15 R385), and WFI has not stopped its clock (21 R502). -/
def State.coreRuns (s : State) (core : Nat) : Bool :=
  let w := coreWing core
  s.rst.phase == .none && s.wing w != .off && (s.wingClock w || (s.wing w == .cold && s.inWindow w))
    && !s.tut.heldReset.testBit core && !s.tut.wfi.testBit core

/-- The effect `f` of an instruction of a core; a core that executes nothing has none. -/
def State.coreActs (s : State) (core : Nat) (f : State → State) : State := if s.coreRuns core then f s else s

/-- The configuration byte of PMP entry `i` of a core (21 R504). -/
def State.pmpCfg (s : State) (core i : Nat) : Nat := s.tut.csrs.get (core, 0x3A0 + i / 4) 0 / 2 ^ (8 * (i % 4)) % 256

/-- The address register of PMP entry `i` of a core: address bits [33:2]. -/
def State.pmpAddr (s : State) (core i : Nat) : Nat := s.tut.csrs.get (core, 0x3B0 + i) 0

/-- PMP entry `i` matches the 4-byte granule `g` (21 R504): TOR, NA4 or NAPOT. -/
def State.pmpMatch (s : State) (core i g : Nat) : Bool :=
  let a := s.pmpAddr core i
  match s.pmpCfg core i / 8 % 4 with
  | 1 => (i == 0 || s.pmpAddr core (i - 1) ≤ g) && g < a
  | 2 => g == a
  | 3 => let m := a ^^^ (a + 1); (g ||| m) == (a ||| m)
  | _ => false

/-- The PMP lets a core's access through (21 R504): the lowest-numbered entry that matches decides, in machine mode only if it is
locked; without one, machine mode passes and user mode fails. It does not apply in debug mode (21 R516). -/
def State.pmpAllows (s : State) (core cause addr : Nat) : Bool :=
  s.tut.halted.testBit core ||
    match (List.range 16).find? (fun i => s.pmpMatch core i (addr / 4)) with
    | some i =>
      let c := s.pmpCfg core i
      (!s.tut.user.testBit core && !c.testBit 7) || c.testBit (match cause with | 1 => 2 | 5 => 0 | _ => 1)
    | none => !s.tut.user.testBit core

/-- The change `f` of a core's access to a target of world `ns` at `addr`, or the access fault `cause`: the PMP check is made
first, the world check second, with its violation (17 R410, R412; 21 R504, Table 21-2). -/
def State.accessAs (s : State) (cause core addr : Nat) (ns : Bool) (f : State → State) : State :=
  s.coreActs core (fun s =>
    if !s.pmpAllows core cause addr then s.coreFault core cause addr
    else if s.coreNs core && !ns then (s.violation core addr).coreFault core cause addr else f s)

/-- The change `f` of a core's store to a target of world `ns`. -/
def State.access (s : State) (core addr : Nat) (ns : Bool) (f : State → State) : State := s.accessAs 7 core addr ns f

/-- A core's load from a register of block `b`. -/
def State.loadBlk (s : State) (core : Nat) (b : Blk) (addr : Nat) (f : State → State) : State :=
  s.accessAs 5 core addr (s.blockNs b) f

/-- An access to a register of block `b`. -/
def State.accessBlk (s : State) (core : Nat) (b : Blk) (addr : Nat) (f : State → State) : State :=
  s.access core addr (s.blockNs b) f

/-! ### The variant -/

/-- PMm exists in the variant (00 Table 0-1). -/
def State.hasPm (s : State) (m : Nat) : Bool := m < s.fld .FUSE_RES_PM_CNT
/-- WCc exists in the variant. -/
def State.hasWc (s : State) (c : Nat) : Bool := c < s.fld .FUSE_RES_WC_CNT
/-- Modulator data input n exists in the variant. -/
def State.hasMd (s : State) (n : Nat) : Bool := n < s.fld .FUSE_RES_MD_CNT
/-- Modulator clock pin j exists in the variant. -/
def State.hasMclk (s : State) (j : Nat) : Bool := j < s.fld .FUSE_RES_MCLK_CNT
/-- Input i of a SAR slot is bonded (00 Table 0-1). -/
def State.bonded (s : State) (i : Nat) : Bool := i ≤ s.fld .FUSE_RES_MUXIN
/-- The Prefect is fitted (00 R5). -/
def State.prefectFitted (s : State) : Bool := s.flag .FUSE_RES_PREFECT
/-- The domain of a loop is held in reset (01 R44): the loop, 4 for PLL_C and 5 for PLL_N, had not locked in the last whole-die
reset. -/
def State.domainHeld (s : State) (loop : Nat) : Bool := s.rst.pllFailed.testBit loop

/-- The Edge domain is held in reset: both of its loops failed. -/
def State.edgeHeld (s : State) : Bool := s.domainHeld 0 && s.domainHeld 1

/-- I/O bank `b` is present, at 1.8 V or 3.3 V (02 R55). While it is not, its outputs are high-impedance and its inputs read
their pull level. -/
def State.bankOn (s : State) (b : Nat) : Bool :=
  let code := s.fld (match b with | 1 => .IOB_STAT_VIO1 | 2 => .IOB_STAT_VIO2 | 3 => .IOB_STAT_VIO3 | _ => .IOB_STAT_VIO4)
  code == 1 || code == 2

/-- A head module that the variant has (00 Table 0-1). -/
def State.isHead (s : State) (m : Nat) : Bool := m % 6 == 0 && s.hasPm m

/-! ### Hall Pass -/

/-- A Wing takes a state. -/
def State.setWing (s : State) (w : Wing) (st : WingState) : State :=
  match w with
  | .a => s.setFld .HP_STAT_STATEA 0 st.code
  | .b => s.setFld .HP_STAT_STATEB 0 st.code

/-- The Wing holds its pass (14 R340). -/
def State.pass (s : State) (w : Wing) : Bool := s.bit .HP_STAT_HOLDER 0 w.num

/-- The device is in Split mode (14 R340). -/
def State.split (s : State) : Bool := s.flag .HP_CTRL_MODE

/-- The Wing that holds the Duplex pass. -/
def State.holder (s : State) : Option Wing :=
  if s.pass .a then some .a else if s.pass .b then some .b else none

/-- Any Wing holds a pass. -/
def State.anyPass (s : State) : Bool := s.pass .a || s.pass .b

/-- The Wing entitled to module `m` (14 R340, 08 R217): in Split the owner if it holds its pass; in Duplex the holder,
and from Bell H of a planned handover the new Wing. -/
def State.entitled (s : State) (m : Nat) : Option Wing :=
  if s.split then
    let w : Wing := if s.flag .PWM_CTRL_OWNER m then .b else .a
    if s.pass w then some w else none
  else
    match s.dup.handover with
    | .copying => s.holder.map Wing.other
    | _ => s.holder

/-- The Wing is entitled to module `m`. -/
def State.isEntitled (s : State) (w : Wing) (m : Nat) : Bool := s.entitled m == some w

/-! ### Function groups -/

/-- Function group `g` (20 R483). -/
def State.group (s : State) (g : Nat) : Group := s.dict.groups.getD g {}

/-- Group `g` changed by `f`. -/
def State.modGroup (s : State) (g : Nat) (f : Group → Group) : State :=
  { s with dict := { s.dict with groups := modAt s.dict.groups g {} f } }

/-- Group `g` is RUNNING. -/
def State.groupRunning (s : State) (g : Nat) : Bool := (s.group g).st == .running

/-- Group `g` is in RECESS or REJECTED, where RWL writes go to its pending set (20 R486). -/
def State.groupOpen (s : State) (g : Nat) : Bool := (s.group g).st == .recess || (s.group g).st == .rejected

/-- The group byte (20 R495). -/
def State.groupByte (s : State) (g : Nat) : Nat :=
  if g = 0 || 13 < g then 7 else
  let p := s.group g
  p.st.code + p.standbyBehind.toNat * 8 + p.unstored.toNat * 16 + p.deferred.toNat * 32 + p.joint.toNat * 64
    + p.discarded.toNat * 128

/-! ### Requests for a Bell -/

/-- The oldest request of the requester whose turn it is: the first after `last` in rotating order (01 R24, R36). -/
def nextTurn (last : Nat) (l : List BellReq) : Option BellReq :=
  l.foldl (fun o r => match o with
    | none => some r
    | some x => if (r.who + 4 - last) % 5 < (x.who + 4 - last) % 5 then some r else some x) none

/-- APPLY of a group, or of the groups of a mask with GROUP 0xFF, waits at the root (01 R36). -/
def State.requestApply (s : State) (who group mask : Nat) : State :=
  { s with bell := { s.bell with applyQ := s.bell.applyQ ++ [{ who := who, what := group, mask := mask }] } }

/-- A barrier waits at the root. -/
def State.requestBarrier (s : State) (who ident : Nat) : State :=
  { s with bell := { s.bell with barrierQ := s.bell.barrierQ ++ [{ who := who, what := ident }] } }

/-! ### Spares and the record of field repairs -/

/-- An integrity event (15 Table 15-8). -/
def State.intEvent (s : State) (code unit loc addr nerr : Nat) : State :=
  s.emit .integrity (code % 256 + unit % 256 * 2 ^ 8 + loc % 2 ^ 16 * 2 ^ 16 + addr % 2 ^ 32 * 2 ^ 32
    + nerr % 256 * 2 ^ 64 + s.ts * 2 ^ 96)

/-- Spare rows of a memory's bank: 8, and 2 in engine memories and the Caretaker SRAM (15 Table 15-1). -/
def spareRows (mem : Nat) : Nat := if mem < 0x20 then 8 else 2

/-- A subarray has no spare column left (level 1), or a bank fewer spare rows than 2 in Satchel and 1 elsewhere (level 3): the
floors that Table 15-7 sets beside the counts (15 R387). -/
def State.thin (s : State) (l : Nat) : Bool :=
  (l == 1 && s.integ.colsUsed.any (fun c => s.integ.colsUsed.contains (c.1, c.2.1, 1 - c.2.2))) ||
  (l == 3 && s.integ.rowsUsed.any (fun r =>
    spareRows r.1 < (s.integ.rowsUsed.filter (fun x => x.1 == r.1)).length + (if r.1 < 0x10 then 2 else 1)))

/-- Level `l` is below its floor (15 R387, Table 15-7). -/
def State.belowLevel (s : State) (l : Nat) : Bool := s.fld .REPC_REM_REMAIN l < s.fld .REPC_REM_FLOOR l || s.thin l

/-- Level `l` has `n` spares left. -/
def State.putRemain (s : State) (l n : Nat) : State :=
  (s.setFld .REPC_REM_REMAIN l n).setFld .REPC_SHIP_CONSUMED l (s.fld .REPC_SHIP_TOTAL l - n)

/-- INT_STAT.FLOOR and event 0x9C when a level first falls below its floor (15 R387); `was` tells whether it stood below. -/
def State.noteFloor (s : State) (l : Nat) (was : Bool) : State :=
  s.when (!was && s.belowLevel l) (fun s => (s.setFld .INT_STAT_FLOOR 0 1).intEvent 0x9C l 0 0 0)

/-- Level `l` has `n` spares left, and falls below its floor or not (15 R387). -/
def State.setRemain (s : State) (l n : Nat) : State := (s.putRemain l n).noteFloor l (s.belowLevel l)

/-- One spare of level `l` is consumed (15 R387, Table 15-7). -/
def State.consumeSpare (s : State) (l : Nat) : State := s.setRemain l (s.fld .REPC_REM_REMAIN l - 1)

/-- A repair enters the record (15 R382, Table 15-5); one that would not fit sets RECFULL and queues event 0x9B. -/
def State.recordRepair (s : State) (kind unit loc spare : Nat) : State :=
  let day := s.clk.rtc / 86400 % 2 ^ 16
  let e := kind % 256 + unit % 256 * 2 ^ 8 + loc % 2 ^ 16 * 2 ^ 16 + spare % 2 ^ 16 * 2 ^ 32 + day * 2 ^ 48
  if s.integ.repairs.length < 512 then
    let s := { s with integ := { s.integ with repairs := s.integ.repairs ++ [e] } }
    s.setFld .REP_CNT_USED 0 s.integ.repairs.length
  else (s.setFld .INT_STAT_RECFULL 0 1).intEvent 0x9B unit 0 0 0

/-- A number of the record of spares as it is shown: in Split mode level 5 shows 0 (15 R387). -/
def State.spare (s : State) (f : Fld) (l : Nat) : Nat := if l = 5 && s.split then 0 else s.fld f l

/-- The standby Wing is or is not there as a spare (01 R18, 03 R71, 14 R348). The floor check does not apply in Split mode. -/
def State.standbyReserve (s : State) (there : Bool) : State :=
  if s.split then s else s.setRemain 5 there.toNat

end Sys2Proof.Machine
end

