-- ==== Sys2Proof/Machine/Balls.lean ====
section
/-!
DEFINITION. Balls: dual receivers, open-ball tests and I/O bank detection (02).
-/
namespace Sys2Proof.Machine

/-- What the device uses of a dual input, from its two receivers: the active level whenever either reads it (02 R58). -/
def dualActive (first second : Bool) : Bool := first || second

/-- What a dual input gives for a net at its active level or not (02 R58): a ball that its test has found open reads its pull, which
is the inactive level, whatever stands on the net (assumption log, entry 106). -/
def State.netActive (s : State) (sig : Nat) (net : Bool) : Bool :=
  dualActive (net && !s.ct.openBalls.testBit (2 * sig)) (net && !s.ct.openBalls.testBit (2 * sig + 1))

/-- Balls of a large supply group (02 Table 2-5), by its count in OPEN_GRP, in sizes S, M and L. -/
def groupBalls (which size : Nat) : Nat :=
  let row : List Nat := match which with
    | 0 => [28, 36, 48] | 1 => [8, 10, 12] | 2 => [6, 8, 12] | 6 => [64, 90, 125] | 7 => [15, 20, 28] | _ => [4, 4, 4]
  row.getD (min size 2) 0

/-- Balls of a large group that may be open at its full current rating: 10 %, rounded down (02 R62). -/
def groupAllowance (which size : Nat) : Nat := groupBalls which size / 10

/-- The size code of the variant (00 Table 0-2): 0 S, 1 M, 2 L. -/
def State.sizeCode (s : State) : Nat := s.fld .FUSE_VARIANT_VARIANT % 4

/-- An open ball is found (02 R62): event 0x06 names it, and a dual signal's or two-ball supply's reserve goes to zero
once. DETAIL is 0 for OPEN_SIG, 1 for OPEN_PAIR and 2 for OPEN_GRP. The Prefect records a ball of its own, a signal 1 to 15 or
VPF, as a diagnostic. -/
def State.openBall (s : State) (detail bit known : Nat) : State :=
  let s := s.event .caretaker 0x06 detail bit
  let own := (1 ≤ known && known < 16) || known == 20
  let s := s.when (own && s.prefectFitted) (fun s => { s with pf := { s.pf with openBalls := setBitTo s.pf.openBalls known true } })
  if s.ct.openKnown.testBit known then s
  else { s.consumeSpare 7 with ct := { s.ct with openKnown := setBitTo s.ct.openKnown known true } }

/-- OPEN_BALL_TEST (02 R60, R62): with tests enabled, a ball whose receiver changed in its window is open. Signals 1 to
15 are the Prefect's, which an N variant lacks (02 Table 2-7). -/
def execOpenBallTest (ball : DualBall) (changed : Bool) (s : State) : Out :=
  let sig := ball.sig
  .next (if s.flag .OPEN_CFG_EN && sig < 16 && (sig == 0 || s.prefectFitted) then
    let k := 2 * sig + (if ball.second then 1 else 0)
    let s := { s with ct := { s.ct with openBalls := setBitTo s.ct.openBalls k changed } }
    s.when changed (fun s => (s.setBit .OPEN_SIG_SIG 0 sig true).openBall 0 sig sig)
  else s)

/-- The balls of a group of `n` that carry less than 25 % of its mean current, by number (02 R61). -/
def lowBalls (n : Nat) (amps : List Nat) : List Nat :=
  let total := ((List.range n).map (fun i => amps.getD i 0)).sum
  (List.range n).filter (fun i => 4 * n * amps.getD i 0 < total)

/-- The mean current per ball is at least 10 mA, in µA (02 R61). -/
def meanEnough (n : Nat) (amps : List Nat) : Bool :=
  10000 * n ≤ ((List.range n).map (fun i => amps.getD i 0)).sum

/-- One more ball of a large group is open (02 R62): its count rises, saturating at 15, event 0x06 names the group, and its
reserve falls by one until the allowance is used. -/
def State.groupBallOpen (s : State) (which ball : Nat) : State :=
  let known := s.ct.openGroups.getD which 0
  if known.testBit ball then s else
  let n := (bitsOf 128 known).length
  let s := { s with ct := { s.ct with openGroups := s.ct.openGroups.set which (setBitTo known ball true) } }
  let old := bits (s.fld .OPEN_GRP) (4 * which) 4
  let s := s.setFld .OPEN_GRP 0 (s.fld .OPEN_GRP - old * 2 ^ (4 * which) + min (old + 1) 15 * 2 ^ (4 * which))
  let s := s.event .caretaker 0x06 2 which
  s.when (n < groupAllowance which s.sizeCode) (fun s => s.consumeSpare 7)

/-- SUPPLY_BALL_OPEN (02 R61, R62): the currents of the balls of a group or two-ball supply over 1 s. Where their mean is at
least 10 mA the group is no longer untested, and each ball below 25 % of the mean is open. -/
def execSupplyBallOpen (group : BallGroup) (amps : List Nat) (s : State) : Out :=
  .next (match group with
    | .large which =>
      let n := groupBalls which s.sizeCode
      s.when (s.flag .OPEN_CFG_EN && meanEnough n amps && which < 8) (fun s =>
        (s.setBit .OPEN_UNT_GRP_U 0 which false).each (lowBalls n amps) (fun s b => s.groupBallOpen which b))
    | .pair which =>
      s.when (s.flag .OPEN_CFG_EN && meanEnough 2 amps && which < 9) (fun s =>
        let s := s.setBit .OPEN_UNT_PAIR_U 0 which false
        s.when (!(lowBalls 2 amps).isEmpty) (fun s => (s.setBit .OPEN_PAIR_PAIR 0 which true).openBall 1 which (16 + which))))

/-- The IOB_STAT field of bank 1 to 4. -/
def bankFld : Nat → Fld
  | 1 => .IOB_STAT_VIO1 | 2 => .IOB_STAT_VIO2 | 3 => .IOB_STAT_VIO3 | _ => .IOB_STAT_VIO4

/-- IO_BANK_CHANGE (02 R55): a bank's detected class changes; CHG is set and event 0x07 names the bank (assumption log, entry
101). -/
def execIoBankChange (bank code : Nat) (s : State) : Out :=
  .next (if 1 ≤ bank && bank ≤ 4 && code < 4 && s.fld (bankFld bank) != code then
    let s := s.setFld (bankFld bank) 0 code
    (s.setBit .IOB_CHG_CHG 0 (bank - 1) true).event .caretaker 0x07 0 bank
  else s)

end Sys2Proof.Machine
end

