-- ==== Sys2Proof/Machine/Codes.lean ====
section
/-!
DEFINITION. The codes of the block: the CRC-32 of Table 14-3, SHA-256, the SEC-DED code of the memories (15 R367, R368),
the Reed-Solomon code of Satchel (15 R369, R370) and the BCH page code of the Library (16 R399). Bytes are numbers below
256, in lists in ascending address order.
-/
namespace Sys2Proof.Machine

/-- The XOR of numbers. -/
def xorAll (l : List Nat) : Nat := l.foldl (fun a b => a ^^^ b) 0

/-- The number of bits set below bit `n`. -/
def weight (n v : Nat) : Nat := ((List.range n).filter (fun i => v.testBit i)).length

/-- The little-endian bytes of `v`. -/
def leBytes (n v : Nat) : List Nat := (List.range n).map (fun i => v / 2 ^ (8 * i) % 256)

/-- The number that little-endian bytes spell. -/
def ofLe (l : List Nat) : Nat := l.foldr (fun b a => b % 256 + 256 * a) 0

/-- The number that big-endian bytes spell. -/
def ofBe (l : List Nat) : Nat := l.foldl (fun a b => a * 256 + b % 256) 0

/-! ### CRC-32 -/

/-- One bit of the reflected division by 0x04C1_1DB7. -/
def crcBit (c : Nat) : Nat := if c.testBit 0 then (c / 2) ^^^ 0xEDB88320 else c / 2

/-- One byte enters the CRC. -/
def crcByte (c b : Nat) : Nat :=
  crcBit (crcBit (crcBit (crcBit (crcBit (crcBit (crcBit (crcBit (c ^^^ (b % 256)))))))))

/-- CRC-32 as in IEEE 802.3 (14 Table 14-3). -/
def crc32 (l : List Nat) : Nat := (l.foldl crcByte 0xFFFFFFFF) ^^^ 0xFFFFFFFF

/-! ### CRC-16 -/

/-- One bit of the division by x^16 + x^12 + x^5 + 1. -/
def crc16Bit (c : Nat) (b : Bool) : Nat := (c * 2 % 2 ^ 16) ^^^ (if c.testBit 15 != b then 0x1021 else 0)

/-- The CRC-16 of the low `n` bits of a number, the highest first, from 0xFFFF (01 Table 1-9; assumption log, entry 99). -/
def crc16 (n v : Nat) : Nat := (List.range n).foldl (fun c i => crc16Bit c (v.testBit (n - 1 - i))) 0xFFFF

/-- The CRC-16 of bytes on the Niujor link (19 R450), bit 0 of each first, as its two bytes go out: the least significant byte
first, its bit 0 the coefficient of x^15 (assumption log, entry 113). -/
def niujorCrc (l : List Nat) : Nat :=
  let c := l.foldl (fun c b => (List.range 8).foldl (fun c i => crc16Bit c (b.testBit i)) c) 0xFFFF
  (List.range 16).foldl (fun a i => a * 2 + c / 2 ^ i % 2) 0

/-! ### SHA-256 -/

/-- The greatest `x` with `x ^ k` at most `v`, from the bits of `x` below bit `n` and the bits above it. -/
def rootBits (k v : Nat) : Nat → Nat → Nat
  | 0, x => x
  | n + 1, x => rootBits k v n (if (x + 2 ^ n) ^ k ≤ v then x + 2 ^ n else x)

/-- The first 32 bits of the fraction of the `k`-th root of a number below 2^9. -/
def rootFraction (k p : Nat) : Nat := rootBits k (p * 2 ^ (32 * k)) 37 0 % 2 ^ 32

/-- The primes below 312, 64 in number. -/
def shaPrimes : List Nat := (List.range 312).filter (fun p => 2 ≤ p && (List.range 18).all (fun d => d < 2 || d = p || p % d != 0))

/-- The words that hashing carries from step to step: the newest four of each of its two sequences, and the sixteen message words
that come next, all newest first or next first. -/
structure ShaWork where
  a : List Nat
  e : List Nat
  next : List Nat
  deriving DecidableEq, Repr

/-- The XOR of a 32-bit word's rotations to the right. -/
def turned (l : List Nat) (x : Nat) : Nat := xorAll (l.map (fun n => x / 2 ^ n + x % 2 ^ n * 2 ^ (32 - n)))

/-- The message word that follows sixteen others. -/
def shaExtend (l : List Nat) : Nat :=
  (l.getD 0 0 + l.getD 9 0 + (turned [7, 18] (l.getD 1 0) ^^^ l.getD 1 0 / 2 ^ 3)
    + (turned [17, 19] (l.getD 14 0) ^^^ l.getD 14 0 / 2 ^ 10)) % 2 ^ 32

/-- One step of SHA-256 with its constant. -/
def shaStep (t : ShaWork) (k : Nat) : ShaWork :=
  let a (i : Nat) : Nat := t.a.getD i 0
  let e (i : Nat) : Nat := t.e.getD i 0
  let choice := e 2 ^^^ (e 0 &&& (e 1 ^^^ e 2))
  let most := (a 0 &&& (a 1 ||| a 2)) ||| (a 1 &&& a 2)
  let sum := e 3 + turned [6, 11, 25] (e 0) + choice + k + t.next.headD 0
  { a := (sum + turned [2, 13, 22] (a 0) + most) % 2 ^ 32 :: t.a.take 3
    e := (a 3 + sum) % 2 ^ 32 :: t.e.take 3
    next := t.next.drop 1 ++ [shaExtend t.next] }

/-- One block of 64 bytes enters the hash, eight words. -/
def shaBlock (h block : List Nat) : List Nat :=
  let t := (shaPrimes.map (rootFraction 3)).foldl shaStep
    { a := h.take 4, e := h.drop 4, next := (List.range 16).map (fun i => ofBe ((block.drop (4 * i)).take 4)) }
  List.zipWith (fun x y => (x + y) % 2 ^ 32) h (t.a ++ t.e)

/-- SHA-256 of a byte string, 32 bytes: FIPS 180-4, its constants from their definitions. -/
def sha256 (l : List Nat) : List Nat :=
  let tail := 0x80 :: List.replicate ((119 - l.length % 64) % 64) 0 ++ (leBytes 8 (8 * l.length)).reverse
  let blocks := (l.length + tail.length) / 64
  let h := (List.range blocks).foldl (fun h i => shaBlock h (((l ++ tail).drop (64 * i)).take 64)) ((shaPrimes.take 8).map (rootFraction 2))
  h.flatMap (fun w => (leBytes 4 w).reverse)

/-! ### SEC-DED (15 R367, R368) -/

/-- The column vectors of the data bits d0 to d63. -/
def secVectors : List Nat :=
  (List.range 256).filter (fun v => weight 8 v == 3) ++ ((List.range 256).filter (fun v => weight 8 v == 5)).take 8

/-- The check byte of 64 data bits. -/
def secCheck (d : Nat) : Nat :=
  xorAll (List.zipWith (fun i v => if d.testBit i then v else 0) (List.range 64) secVectors)

/-- The stored 72-bit word of 64 data bits. -/
def secEncode (d : Nat) : Nat := d % 2 ^ 64 + secCheck d * 2 ^ 64

/-- The stored pattern of poison (15 R371): data 0 with check byte 0x7F. -/
def secPoison : Nat := 0x7F * 2 ^ 64

/-- What a decoder decides: the data with the number of bits or symbols corrected, poison, or uncorrectable. -/
inductive Decoded where
  | data (d nerr : Nat) (column : Option Nat)
  | poison
  | uncorrectable
  deriving DecidableEq, Repr

/-- The SEC-DED decoder (15 R368). `column` names the stored bit that was in error. -/
def secDecode (w : Nat) : Decoded :=
  let d := w % 2 ^ 64
  let syn := secCheck d ^^^ (w / 2 ^ 64 % 256)
  if syn = 0 then .data d 0 none
  else if syn = 0x7F then .poison
  else if weight 8 syn = 1 then .data d 1 (some (64 + Nat.log2 syn))
  else match secVectors.findIdx? (fun v => v == syn) with
    | some i => .data (d ^^^ 2 ^ i) 1 (some i)
    | none => .uncorrectable

/-! ### Reed-Solomon RS(20,16) (15 R369, R370) -/

/-- Twice an element of GF(2^8), field polynomial 0x11D. -/
def gfDouble (a : Nat) : Nat := if a < 128 then 2 * a else (2 * a) ^^^ 0x11D

/-- The product in GF(2^8), by the bits of `b` from bit `n - 1` down. -/
def gfMulN : Nat → Nat → Nat → Nat → Nat
  | 0, _, _, acc => acc
  | n + 1, a, b, acc => gfMulN n a b (gfDouble acc ^^^ (if b.testBit n then a else 0))

/-- The product in GF(2^8). -/
def gfMul (a b : Nat) : Nat := gfMulN 8 a b 0

/-- α^n. -/
def gfExp : Nat → Nat
  | 0 => 1
  | n + 1 => gfDouble (gfExp n)

/-- The inverse of a nonzero element, as its 254th power. -/
def gfInv (a : Nat) : Nat :=
  let a2 := gfMul a a
  let a4 := gfMul a2 a2
  let a8 := gfMul a4 a4
  let a16 := gfMul a8 a8
  let a32 := gfMul a16 a16
  let a64 := gfMul a32 a32
  let a128 := gfMul a64 a64
  gfMul (gfMul (gfMul a2 a4) (gfMul a8 a16)) (gfMul (gfMul a32 a64) a128)

/-- One data byte enters the division by g(x): the remainder's four coefficients, highest first. -/
def rsStep (r : List Nat) (b : Nat) : List Nat :=
  let f := b ^^^ r.getD 0 0
  [r.getD 1 0 ^^^ gfMul f 0x0F, r.getD 2 0 ^^^ gfMul f 0x36, r.getD 3 0 ^^^ gfMul f 0x78, gfMul f 0x40]

/-- The 20 stored bytes of 16 data bytes. -/
def rsEncode (d : List Nat) : List Nat := d ++ d.foldl rsStep [0, 0, 0, 0]

/-- The stored pattern of poison (15 R371). -/
def rsPoison : List Nat := List.replicate 16 0 ++ List.replicate 4 0xFF

/-- Syndrome `k`: the code word's value at α^k. -/
def rsSyndrome (w : List Nat) (k : Nat) : Nat := w.foldl (fun a b => gfMul a (gfExp k) ^^^ b) 0

/-- The word with `y` added to its byte `i`. -/
def rsFix (w : List Nat) (i y : Nat) : List Nat := w.set i (w.getD i 0 ^^^ y)

/-- Data of a corrected word. -/
def rsData (w : List Nat) (n i y : Nat) : Decoded := .data (ofLe (w.take 16)) n (some (8 * i + Nat.log2 y))

/-- The decoder (15 R370): poison is compared first; one or two erroneous symbols are corrected. The data is given as the
number its bytes spell; `column` is the highest wrong bit of the first symbol corrected. -/
def rsDecode (w : List Nat) : Decoded :=
  if w = rsPoison then .poison else
  let s0 := rsSyndrome w 0
  let s1 := rsSyndrome w 1
  let s2 := rsSyndrome w 2
  let s3 := rsSyndrome w 3
  if s0 = 0 && s1 = 0 && s2 = 0 && s3 = 0 then .data (ofLe (w.take 16)) 0 none else
  match (List.range 20).find? (fun i =>
      let x := gfExp (19 - i)
      s0 != 0 && s1 == gfMul s0 x && s2 == gfMul s1 x && s3 == gfMul s2 x) with
  | some i => rsData (rsFix w i s0) 1 i s0
  | none =>
    let det := gfMul s1 s1 ^^^ gfMul s0 s2
    if det = 0 then .uncorrectable else
    let g1 := gfMul (gfMul s0 s3 ^^^ gfMul s1 s2) (gfInv det)
    let g2 := gfMul (gfMul s1 s3 ^^^ gfMul s2 s2) (gfInv det)
    match (List.range 20).filter (fun i =>
        let x := gfExp (19 - i)
        (gfMul x x ^^^ gfMul g1 x ^^^ g2) == 0) with
    | [i, j] =>
      let xi := gfExp (19 - i)
      let xj := gfExp (19 - j)
      let yi := gfMul (s1 ^^^ gfMul s0 xj) (gfInv (xi ^^^ xj))
      let yj := s0 ^^^ yi
      if yi = 0 || yj = 0 then .uncorrectable else rsData (rsFix (rsFix w i yi) j yj) 2 i yi
    | _ => .uncorrectable

/-! ### The page code (16 R399) -/

/-- Twice an element of GF(2^14), field polynomial 0x402B. -/
def gf14Double (a : Nat) : Nat := if a < 2 ^ 13 then 2 * a else (2 * a) ^^^ 0x402B

/-- The product in GF(2^14), by the bits of `b` from bit `n - 1` down. -/
def gf14MulN : Nat → Nat → Nat → Nat → Nat
  | 0, _, _, acc => acc
  | n + 1, a, b, acc => gf14MulN n a b (gf14Double acc ^^^ (if b.testBit n then a else 0))

/-- α^n in GF(2^14). -/
def gf14Exp : Nat → Nat
  | 0 => 1
  | n + 1 => gf14Double (gf14Exp n)

/-- A polynomial over GF(2^14), lowest coefficient first, times (x + r). -/
def gf14Factor (p : List Nat) (r : Nat) : List Nat :=
  List.zipWith (fun a b => a ^^^ b) (0 :: p) (p.map (fun c => gf14MulN 14 c r 0) ++ [0])

/-- The conjugates of an element: it and its squares, 14 in all. -/
def gf14Conjugates : Nat → Nat → List Nat
  | 0, _ => []
  | n + 1, r => r :: gf14Conjugates n (gf14MulN 14 r r 0)

/-- The generator of the page code: the product of the minimal polynomials of α^1, α^3, up to α^31, which are those of
α^1 to α^32. -/
def bchGenerator : Nat :=
  let roots := (List.range 16).flatMap (fun i => gf14Conjugates 14 (gf14Exp (2 * i + 1)))
  (roots.foldl gf14Factor [1]).foldr (fun c a => c % 2 + 2 * a) 0

/-- One bit of a codeword enters the division by the generator. -/
def bchBit (g r : Nat) (b : Bool) : Nat :=
  let r' := 2 * r
  if (r.testBit 223) != b then (r' ^^^ g) % 2 ^ 224 else r' % 2 ^ 224

/-- The 28 parity bytes of a codeword's data bytes, bit 7 of each byte first. -/
def bchParity (d : List Nat) : List Nat :=
  let g := bchGenerator
  let r := d.foldl (fun r b => (List.range 8).foldl (fun r i => bchBit g r (b.testBit (7 - i))) r) 0
  (leBytes 28 r).reverse

end Sys2Proof.Machine
end

