-- ==== Sys2Proof/Machine/Accum.lean ====
section
/-!
DEFINITION. The energy accumulators in the Caretaker SRAM (13 R323, R324) and the records that hold their values: the save
record (13 Table 13-5) and the final record (16 Table 16-4).
-/
namespace Sys2Proof.Machine

/-- The copy in force (13 R324). -/
def BurAcc.now (a : BurAcc) : List Nat := if a.current then a.copy1 else a.copy0

/-- New values go into the copy that is not current, and the selector then names it (13 R324). -/
def BurAcc.commit (a : BurAcc) (l : List Nat) : BurAcc :=
  let a := if a.current then { a with copy0 := l } else { a with copy1 := l }
  { a with current := !a.current, commits := (a.commits + 1) % 2 ^ 32, ended := none }

/-- What a latch at timebase `t` takes (13 R326, Table 13-6): a cycle that ends in that tick counts as ended after it, so the copy
from before its commit. -/
def BurAcc.atLatch (a : BurAcc) (t : Nat) : List Nat :=
  if a.ended == some t then (if a.current then a.copy0 else a.copy1) else a.now

/-- Point `q`'s accumulators and gap time. -/
def State.acc (s : State) (q : Nat) : BurAcc := s.bur.accs.getD q {}

/-- Bits [95:32] of accumulator `a` of point `q`: the visible value in [47:0] and the wrap counter in [63:48] (13 R323). -/
def State.accWord (s : State) (q a : Nat) : Nat :=
  if 4 ≤ q && 4 ≤ a then 0 else (s.acc q).now.getD a 0 / 2 ^ 32 % 2 ^ 64

/-- What a latch takes of accumulator `a` of point `q`, as `accWord`. -/
def State.latchWord (s : State) (q a : Nat) : Nat :=
  if 4 ≤ q && 4 ≤ a then 0 else ((s.acc q).atLatch s.tb).getD a 0 / 2 ^ 32 % 2 ^ 64

/-- Gap time in ms: 640 000 ticks each (13 R319). -/
def BurAcc.gapMs (a : BurAcc) : Nat := a.gap / 640000 % 2 ^ 32

/-- The enabled points as a mask (13 Table 13-7). -/
def State.burMask (s : State) : Nat := s.fld .BUR_CTRL_AC_EN + s.fld .BUR_CTRL_DC_EN * 16

/-- The payload of a save record (13 Table 13-5). -/
def State.savePayload (s : State) : List Nat :=
  let mask := s.burMask
  leBytes 8 (s.clk.rtc % 2 ^ 48) ++ leBytes 8 s.tb ++ [mask, s.bur.rtcSet.toNat + 2 * (s.flag .BUR_CTRL_THEFT_EN).toNat, 0, 0]
    ++ leBytes 4 (s.group 12).seq ++ List.replicate 8 0
    ++ (bitsOf 4 mask).flatMap (fun q => (List.range 16).flatMap (fun a => leBytes 8 (s.accWord q a)))
    ++ ((bitsOf 8 mask).filter (fun q => 4 ≤ q)).flatMap (fun q =>
        (List.range 4).flatMap (fun a => leBytes 8 (s.accWord q a)) ++ leBytes 4 (s.acc q).gapMs ++ [0, 0, 0, 0])
    ++ (List.range 4).flatMap (fun c => leBytes 4 (if s.flag .FUSE_RES_THEFT then s.fld .BUR_TQ c else 0))

/-- The point mask of a save record's payload. -/
def saveMask (p : List Nat) : Nat := p.getD 16 0

/-- The offset of point `q` in a save record whose mask is `mask`. -/
def saveOffset (mask q : Nat) : Nat :=
  32 + 128 * ((bitsOf 4 mask).filter (fun x => x < q)).length
    + 40 * ((bitsOf 8 mask).filter (fun x => 4 ≤ x && x < q)).length

/-- Accumulator `a` of point `q` in a save record, bits [95:32]; 0 where the record does not hold it. -/
def saveValue (p : List Nat) (q a : Nat) : Nat :=
  let mask := saveMask p
  if !mask.testBit q || (4 ≤ q && 4 ≤ a) then 0 else ofLe ((p.drop (saveOffset mask q + 8 * a)).take 8)

/-- The gap time of a DC point in a save record, ms. -/
def saveGap (p : List Nat) (q : Nat) : Nat :=
  let mask := saveMask p
  if q < 4 || !mask.testBit q then 0 else ofLe ((p.drop (saveOffset mask q + 32)).take 4)

/-- The theft charge of channel `c` in a save record, mAh. -/
def saveTheft (p : List Nat) (c : Nat) : Nat := ofLe ((p.drop (saveOffset (saveMask p) 8 + 4 * c)).take 4)

/-- A record is valid: at least three copies of its marker equal the CRC of its header and payload (16 R400, R402), and no
codeword of it is uncorrectable (16 R405). -/
def LibRecord.bytes (r : LibRecord) : List Nat :=
  leBytes 2 0x4C52 ++ [r.type % 256, 0] ++ leBytes 4 r.payload.length ++ leBytes 4 r.seq ++ leBytes 4 r.time ++ r.payload

/-- The record counts (16 R400). -/
def LibRecord.valid (r : LibRecord) : Bool :=
  match r.marker with
  | none => false
  | some m => !r.lost && 3 ≤ (m.filter (fun c => c == crc32 r.bytes)).length

/-- The newest valid record of an area and type. -/
def State.newestRecord (s : State) (area type : Nat) : Option LibRecord :=
  s.lib.records.reverse.find? (fun r => r.area == area && r.type == type && r.valid)

/-- The smallest exponent for which every number over 2^E fits in 16 bits (16 R401). -/
def finalExp : Nat → List Nat → Nat → Nat
  | 0, _, e => e
  | n + 1, l, e => if l.all (fun v => v / 2 ^ e < 2 ^ 16) then e else finalExp n l (e + 1)

/-- The final record of the counters as they stand (16 R401, Table 16-4). -/
def State.finalPayload (s : State) : List Nat :=
  let q := s.fld .LIB_CRES_FPT
  let base := s.newestRecord 7 0x30
  let inc := (List.range 6).map (fun a =>
    let was := match base with
      | some r => saveValue r.payload q a
      | none => 0
    if 4 ≤ q && 4 ≤ a then 0 else (s.accWord q a % 2 ^ 48 + 2 ^ 48 - was % 2 ^ 48) % 2 ^ 48)
  let e := finalExp 31 inc 0
  let sq := match base with
    | some r => r.seq % 2 ^ 16
    | none => 0xFFFF
  [q, e] ++ leBytes 2 sq ++ inc.flatMap (fun v => leBytes 2 (v / 2 ^ e))

end Sys2Proof.Machine
end

