-- ==== Sys2Proof/Machine/Float.lean ====
section
/-!
DEFINITION. The arithmetic of the Lesson engines (10 R247): binary32 and binary64 values, the operations rounded once to
nearest, ties to even, and the sine and cosine within the bound of Table 10-4.
-/
namespace Sys2Proof.Machine

/-- A floating-point value: not a number, an infinity, or ± `m` × 2^`e`. -/
inductive Fp where
  | nan
  | inf (neg : Bool)
  | fin (neg : Bool) (m : Nat) (e : Int)
  deriving DecidableEq, Repr

/-- A format: significand bits, least and greatest exponent of a normal number, and whether subnormals are flushed. -/
structure FpFormat where
  p : Nat
  emin : Int
  emax : Int
  flush : Bool

/-- binary32, whose subnormals are flushed (10 R247). -/
def b32 : FpFormat := ⟨24, -126, 127, true⟩
/-- binary64. -/
def b64 : FpFormat := ⟨53, -1022, 1023, false⟩

/-- +0. -/
def Fp.zero : Fp := .fin false 0 0

/-- `num / den` rounded to the nearest integer, ties to even. -/
def roundDiv (num den : Nat) : Nat :=
  let q := num / den
  let r := num % den
  if 2 * r < den then q else if den < 2 * r then q + 1 else q + q % 2

/-- 2 to an integer power that is not negative. -/
def pow2 (i : Int) : Nat := 2 ^ i.toNat

/-- The value ± `num / den` × 2^`e` rounded to a format. -/
def roundTo (f : FpFormat) (neg : Bool) (num den : Nat) (e : Int) : Fp :=
  if num = 0 then .fin neg 0 0 else
  let k : Int := (Nat.log2 num : Int) - Nat.log2 den
  let ge := if 0 ≤ k then decide (den * pow2 k ≤ num) else decide (den ≤ num * pow2 (-k))
  let lead := (if ge then k else k - 1) + e
  let q := max lead f.emin - (f.p - 1)
  let m := if q ≤ e then roundDiv (num * pow2 (e - q)) den else roundDiv num (den * pow2 (q - e))
  if m = 0 then .fin neg 0 0 else
  let top := (Nat.log2 m : Int) + q
  if f.emax < top then .inf neg
  else if f.flush && top < f.emin then .fin neg 0 0
  else .fin neg m q

/-- A value rounded to a format. -/
def Fp.round (f : FpFormat) : Fp → Fp
  | .fin n m e => roundTo f n m 1 e
  | x => x

/-- The value a binary32 pattern holds; a subnormal counts as zero of its sign (10 R247). -/
def Fp.of32 (b : Nat) : Fp :=
  let neg := b.testBit 31
  let ex : Nat := b / 2 ^ 23 % 256
  let fr : Nat := b % 2 ^ 23
  if ex = 255 then (if fr = 0 then .inf neg else .nan)
  else if ex = 0 then .fin neg 0 0
  else .fin neg (2 ^ 23 + fr) ((ex : Int) - 150)

/-- The value a binary64 pattern holds. -/
def Fp.of64 (b : Nat) : Fp :=
  let neg := b.testBit 63
  let ex : Nat := b / 2 ^ 52 % 2048
  let fr : Nat := b % 2 ^ 52
  if ex = 2047 then (if fr = 0 then .inf neg else .nan)
  else if ex = 0 then .fin neg fr (-1074)
  else .fin neg (2 ^ 52 + fr) ((ex : Int) - 1075)

/-- The significand of `m` × 2^`e` in `p` bits with its leading bit set. -/
def normal (p m : Nat) : Nat := if Nat.log2 m < p then m * 2 ^ (p - 1 - Nat.log2 m) else m / 2 ^ (Nat.log2 m + 1 - p)

/-- The binary32 pattern of a value, rounded. The spec names no pattern for a result that is not a number, so its
fraction is a free value (assumption log, entry 5). -/
def Fp.bits32 (x : Fp) : Nat :=
  match x.round b32 with
  | .nan => 0x7F800001 + Config.nanFraction % (2 ^ 23 - 1)
  | .inf n => n.toNat * 2 ^ 31 + 0x7F800000
  | .fin n m e =>
    if m = 0 then n.toNat * 2 ^ 31
    else n.toNat * 2 ^ 31 + ((Nat.log2 m : Int) + e + 127).toNat * 2 ^ 23 + normal 24 m % 2 ^ 23

/-- The binary64 pattern of a value, rounded. -/
def Fp.bits64 (x : Fp) : Nat :=
  match x.round b64 with
  | .nan => 0x7FF0000000000001 + Config.nanFraction % (2 ^ 52 - 1)
  | .inf n => n.toNat * 2 ^ 63 + 0x7FF0000000000000
  | .fin n m e =>
    if m = 0 then n.toNat * 2 ^ 63
    else if (Nat.log2 m : Int) + e < -1022 then n.toNat * 2 ^ 63 + m * pow2 (e + 1074)
    else n.toNat * 2 ^ 63 + ((Nat.log2 m : Int) + e + 1023).toNat * 2 ^ 52 + normal 53 m % 2 ^ 52

/-- The value is a number. -/
def Fp.finite : Fp → Bool
  | .fin _ _ _ => true
  | _ => false

/-- The value with the other sign. -/
def Fp.neg : Fp → Fp
  | .nan => .nan
  | .inf n => .inf (!n)
  | .fin n m e => .fin (!n) m e

/-- The magnitude. -/
def Fp.abs : Fp → Fp
  | .nan => .nan
  | .inf _ => .inf false
  | .fin _ m e => .fin false m e

/-- The signed integer ± `m`. -/
def signed (n : Bool) (m : Nat) : Int := if n then -(m : Int) else m

/-- The exact sum; an exact zero from unlike signs is +0. -/
def Fp.addExact : Fp → Fp → Fp
  | .nan, _ => .nan
  | _, .nan => .nan
  | .inf a, .inf b => if a = b then .inf a else .nan
  | .inf a, _ => .inf a
  | _, .inf b => .inf b
  | .fin a m e, .fin b m' e' =>
    let q := min e e'
    let t := signed a (m * pow2 (e - q)) + signed b (m' * pow2 (e' - q))
    if t = 0 then .fin (a && b) 0 0 else .fin (decide (t < 0)) t.natAbs q

/-- The exact product. -/
def Fp.mulExact : Fp → Fp → Fp
  | .nan, _ => .nan
  | _, .nan => .nan
  | .inf a, .inf b => .inf (a != b)
  | .inf a, .fin b m _ => if m = 0 then .nan else .inf (a != b)
  | .fin a m _, .inf b => if m = 0 then .nan else .inf (a != b)
  | .fin a m e, .fin b m' e' => .fin (a != b) (m * m') (e + e')

/-- The quotient, rounded to a format. -/
def Fp.div (f : FpFormat) : Fp → Fp → Fp
  | .nan, _ => .nan
  | _, .nan => .nan
  | .inf _, .inf _ => .nan
  | .inf a, .fin b _ _ => .inf (a != b)
  | .fin a _ _, .inf b => .fin (a != b) 0 0
  | .fin a m e, .fin b m' e' =>
    if m' = 0 then (if m = 0 then .nan else .inf (a != b)) else roundTo f (a != b) m m' (e - e')

/-- The integer square root, bit by bit from bit `k` down. -/
def isqrt : Nat → Nat → Nat → Nat
  | 0, _, r => r
  | k + 1, n, r => let t := r + 2 ^ k; isqrt k n (if t * t ≤ n then t else r)

/-- The square root, rounded to a format. -/
def Fp.sqrt (f : FpFormat) : Fp → Fp
  | .nan => .nan
  | .inf n => if n then .nan else .inf false
  | .fin n m e =>
    if m = 0 then .fin n 0 0
    else if n then .nan
    else
      let k : Int := 2 * f.p + 4 + (e % 2)
      let w := m * pow2 k
      let r := isqrt (Nat.log2 w / 2 + 1) w 0
      roundTo f false (2 * r + (if r * r = w then 0 else 1)) 1 ((e - k) / 2 - 1)

/-- Sum, difference, product in binary64. -/
def Fp.add (a b : Fp) : Fp := (a.addExact b).round b64
/-- Difference in binary64. -/
def Fp.sub (a b : Fp) : Fp := (a.addExact b.neg).round b64
/-- Product in binary64. -/
def Fp.mul (a b : Fp) : Fp := (a.mulExact b).round b64

/-- The sign of a difference of numbers; nothing when either is not a number. -/
def Fp.cmp (a b : Fp) : Option Int :=
  match a, b with
  | .nan, _ => none
  | _, .nan => none
  | .inf x, .inf y => some (if x = y then 0 else if x then -1 else 1)
  | .inf x, _ => some (if x then -1 else 1)
  | _, .inf y => some (if y then 1 else -1)
  | .fin x m e, .fin y m' e' =>
    let q := min e e'
    some (signed x (m * pow2 (e - q)) - signed y (m' * pow2 (e' - q)))

/-- `a < b`. -/
def Fp.lt (a b : Fp) : Bool := match a.cmp b with | some d => d < 0 | none => false
/-- `a ≤ b`. -/
def Fp.le (a b : Fp) : Bool := match a.cmp b with | some d => d ≤ 0 | none => false
/-- `a = b` as numbers. -/
def Fp.eqv (a b : Fp) : Bool := match a.cmp b with | some d => d == 0 | none => false

/-- The smaller; where either is not a number the spec does not say which operand comes out (assumption log, entry 23). -/
def Fp.min (a b : Fp) : Fp :=
  match a.cmp b with
  | some d => if d ≤ 0 then a else b
  | none => if Config.nanPick 0 a.bits64 b.bits64 then a else b
/-- The larger. -/
def Fp.max (a b : Fp) : Fp :=
  match a.cmp b with
  | some d => if d < 0 then b else a
  | none => if Config.nanPick 1 a.bits64 b.bits64 then a else b

/-- The nearest integer, ties to even; 0 where the value is no number. -/
def Fp.toIntEven : Fp → Int
  | .fin n m e => signed n (if 0 ≤ e then m * pow2 e else roundDiv m (pow2 (-e)))
  | _ => 0

/-- The largest integer not above the value; 0 where it is no number. -/
def Fp.floor : Fp → Int
  | .fin n m e => if 0 ≤ e then signed n (m * pow2 e) else signed n m / (pow2 (-e) : Int)
  | _ => 0

/-- An integer as a value. -/
def Fp.ofInt (i : Int) : Fp := .fin (decide (i < 0)) i.natAbs 0

/-- 2π × 2^256, rounded. -/
def twoPi256 : Nat := 0x6487ed5110b4611a62633145c06e0e68948127044533e63a0105df531d89cd913

/-- A number less whole multiples of 2π, at 2^-`s` with `s` at least 256. -/
def modTwoPi (n : Bool) (m : Nat) (e : Int) : Nat × Nat :=
  let s := Max.max 256 (-e).toNat
  let c := twoPi256 * 2 ^ (s - 256)
  let r := m * pow2 (e + s) % c
  (if n && r != 0 then c - r else r, s)

/-- θ reduced modulo 2π to [0, 2π) (10 R254). -/
def Fp.wrap : Fp → Fp
  | .fin n m e => let (r, s) := modTwoPi n m e; roundTo b64 false r 1 (-s)
  | _ => .nan

/-- The sum of the terms that follow `t` in the series of sine (from `k` = 1) or cosine (from `k` = 0), at 2^-64. -/
def trigTail : Nat → Int → Int → Int → Int
  | 0, _, _, _ => 0
  | fuel + 1, x2, k, t =>
    let t' := -(t * x2 / 2 ^ 64) / ((k + 1) * (k + 2))
    t' + trigTail fuel x2 (k + 2) t'

/-- The sine or cosine of a number at 2^-64, within 2^-50. -/
def trig (cosine : Bool) (n : Bool) (m : Nat) (e : Int) : Int :=
  let (r, s) := modTwoPi n m e
  let x : Int := (r / 2 ^ (s - 64) : Nat)
  let x2 := x * x / 2 ^ 64
  if cosine then 2 ^ 64 + trigTail 22 x2 0 (2 ^ 64) else x + trigTail 22 x2 1 x

/-- A value within 2^-22 of `t` × 2^-64: the free one `c` where it lies there, otherwise the nearest (10 Table 10-4). -/
def within22 (c : Nat) (t : Int) : Fp :=
  let near : Fp := (Fp.fin (decide (t < 0)) t.natAbs (-64)).round b32
  match (Fp.of32 c).addExact (Fp.fin (decide (0 < t)) t.natAbs (-64)) with
  | .fin _ m e => if Fp.le (.fin false m e) (.fin false (2 ^ 42 - 2 ^ 16) (-64)) then Fp.of32 c else near
  | _ => near

/-- sin x, with an absolute error of at most 2^-22 that the spec leaves open (assumption log, entry 7). -/
def Fp.sin (x : Fp) : Fp :=
  match x with
  | .fin n m e => within22 (Config.sineOf x.bits64) (trig false n m e)
  | _ => .nan

/-- cos x, as `Fp.sin`. -/
def Fp.cos (x : Fp) : Fp :=
  match x with
  | .fin n m e => within22 (Config.cosineOf x.bits64) (trig true n m e)
  | _ => .nan

end Sys2Proof.Machine
end

