-- ==== Sys2Proof/Machine/BurWords.lean ====
section
/-!
DEFINITION. The sample words the Bursar takes (13 R316 to R319): scaling, bridging and gaps.
-/
namespace Sys2Proof.Machine

/-- Point `q` meters (13 Table 13-7). -/
def State.metering (s : State) (q : Nat) : Bool := s.burMask.testBit q

/-- The voltage source of a phase, 0xFF where it is absent (13 R316). -/
def State.vSource (s : State) (q x : Nat) : Nat :=
  if 4 ≤ q && x != 0 then 0xFF else
  s.fld (match x with | 0 => .BUR_SRC_VA | 1 => .BUR_SRC_VB | _ => .BUR_SRC_VC) q

/-- The current source of a phase. -/
def State.iSource (s : State) (q x : Nat) : Nat :=
  if 4 ≤ q && x != 0 then 0xFF else bits (s.fld (match x with | 0 => .BUR_ISRC_IA | 1 => .BUR_ISRC_IB | _ => .BUR_ISRC_IC) q) 0 8

/-- A point. -/
def State.point (s : State) (q : Nat) : BurPoint := s.bur.points.getD q {}

/-- A point changed by `f`. -/
def State.modPoint (s : State) (q : Nat) (f : BurPoint → BurPoint) : State :=
  { s with bur := { s.bur with points := modAt s.bur.points q {} f } }

/-- A phase of a point. -/
def State.phase (s : State) (q x : Nat) : BurPhase := (s.point q).phases.getD x {}

/-- A phase of a point changed by `f`. -/
def State.modPhase (s : State) (q x : Nat) (f : BurPhase → BurPhase) : State :=
  s.modPoint q (fun p => { p with phases := modAt p.phases x {} f })

/-- A Bursar event on Q10 (13 Table 13-4). -/
def State.burEvent (s : State) (code point phases : Nat) (ended : Bool) (extreme duration time : Nat) : State :=
  s.emit .bursar (code % 256 + point % 16 * 2 ^ 8 + phases % 8 * 2 ^ 12 + ended.toNat * 2 ^ 15 + min extreme 65535 * 2 ^ 16
    + duration % 2 ^ 32 * 2 ^ 32 + time % 2 ^ 64 * 2 ^ 64)

/-- The raw value of a word (13 R317, 10 R250): unsigned from a SAR source, two's complement from a modulator. -/
def burRaw (w : SampleWord) : Int := if w.source < 0x40 then w.result else toSigned 18 w.result

/-- A word as the Bursar keeps it, given the count of invalid words and the last valid value of its source: up to 16
consecutive invalid words are bridged (13 R319). Answers with the new count and last value. -/
def burTake (w : SampleWord) (value : Nat) (bad : Nat) (last : Option Nat) : BurWord × Nat × Option Nat :=
  if w.valid then ({ ts := w.ts, value := value, ok := true }, 0, some value)
  else
    let n := bad + 1
    match last with
    | some v => ({ ts := w.ts, value := v, ok := n ≤ 16 }, n, last)
    | none => ({ ts := w.ts, value := 0, ok := false }, n, none)

/-- A gap starts at the 17th invalid word, with event 0x73, and ends when both sources are valid again, with 0x74 (13 R319). -/
def State.burGap (s : State) (q x : Nat) : State :=
  let p := s.phase q x
  let inGap := 16 < p.badV || 16 < p.badI
  match p.gapAt with
  | none =>
    if inGap then
      let s := (s.modPhase q x (fun p => { p with gapAt := some s.tb })).setFld .BUR_STAT_GAP 0 1
      s.burEvent 0x73 q (2 ^ x) false 0 0 s.tb
    else s
  | some t =>
    if inGap then s
    else (s.modPhase q x (fun p => { p with gapAt := none })).burEvent 0x74 q (2 ^ x) false 0 0 t

/-- A phase takes a voltage word: x × GAIN + OFFSET, the product in binary64 (13 R317). -/
def State.takeVolt (s : State) (q x : Nat) (w : SampleWord) : State :=
  let v := ((Fp.ofInt (burRaw w)).mul (.of32 (s.fld .BUR_GV (3 * q + x)))).add (.of32 (s.fld .BUR_OV (3 * q + x)))
  let s := s.modPhase q x (fun p =>
    let (bw, n, last) := burTake w v.bits64 p.badV p.lastV
    { p with volts := p.volts ++ [bw], badV := n, lastV := last })
  s.burGap q x

/-- A phase takes a current word; INV = 1 negates it (13 R317). -/
def State.takeAmp (s : State) (q x : Nat) (w : SampleWord) : State :=
  let i := ((Fp.ofInt (burRaw w)).mul (.of32 (s.fld .BUR_GI (3 * q + x)))).add (.of32 (s.fld .BUR_OI (3 * q + x)))
  let i := if s.flag .BUR_CFG_INV q then i.neg else i
  let s := s.modPhase q x (fun p =>
    let (bw, n, last) := burTake w i.bits64 p.badI p.lastI
    { p with amps := p.amps ++ [bw], badI := n, lastI := last })
  s.burGap q x

/-- The Bursar listens to its sources itself (13 R316). -/
def State.bursarTakes (s : State) (w : SampleWord) : State :=
  if 0x57 < w.source || s.domainHeld 4 then s else
  s.each (List.range 8) (fun s q =>
    if !s.metering q then s else
    s.each (List.range 3) (fun s x =>
      let s := s.when (s.vSource q x == w.source) (fun s => s.takeVolt q x w)
      s.when (s.iSource q x == w.source) (fun s => s.takeAmp q x w)))

end Sys2Proof.Machine
end

