-- ==== Sys2Proof/Machine/Poison.lean ====
section
/-!
DEFINITION. Poisoned words as they stand in the memories (15 R371, R372), and what their readers leave in INT_LASTA and
on Q10 (15 R373).
-/
namespace Sys2Proof.Machine

/-- What an unlisted word of memory `mem` holds: Satchel words are poison after a reset that lost them (01 R45). -/
def State.markDefault (s : State) (mem : Nat) : Nat := if mem < 16 ∧ s.integ.satLost then 1 else 0

/-- The Wing memory island of an ITCM or DTCM bank: 0 ITCM A, 1 DTCM A, 2 ITCM B, 3 DTCM B (15 Table 15-1). -/
def tcmIsland (mem : Nat) : Nat := if mem < 0x14 then 0 else if mem < 0x18 then 2 else if mem < 0x1A then 1 else 3

/-- Memory `mem` lies in a stalled Wing memory island, whose accesses all end as uncorrectable (15 Table 15-6). -/
def State.deadBank (s : State) (mem : Nat) : Bool := 0x10 ≤ mem && mem < 0x1C && s.integ.deadMem.testBit (tcmIsland mem)

/-- Word `w` of memory `mem` holds poison, or every access to it ends as uncorrectable. -/
def State.poisoned (s : State) (mem w : Nat) : Bool :=
  s.integ.marks.get (mem, w) (s.markDefault mem) == 1 || s.deadBank mem

/-- Word `w` of memory `mem` is poisoned, or written whole (15 R371, R372). -/
def State.mark (s : State) (mem w : Nat) (bad : Bool) : State :=
  { s with integ := { s.integ with marks := s.integ.marks.set (mem, w) (s.markDefault mem) bad.toNat } }

/-- The physical site that answers to engine `n` (10 R272): the Substitute that serves it, or the engine itself. -/
def State.siteOf (s : State) (n : Nat) : Nat :=
  if s.fld .LE_MAP_SEA = n then 12 else if s.fld .LE_MAP_SEB = n then 13 else n

/-- The Tutor-map address of a byte of engine window `n` (10 R246). -/
def engAddr (n offset : Nat) : Nat := 0x45400000 + 0x10000 * n + offset

/-- A consumer has read an uncorrectable word (fresh) or poison (15 R373). -/
def State.badRead (s : State) (mem addr : Nat) (fresh : Bool) : State :=
  (s.setFld .INT_LASTA 0 addr).intEvent (if fresh then 0x91 else 0x92) mem 0 addr 0

/-- Word `w` (64 bits) of engine `n`'s memory reads as poison. -/
def State.engBad (s : State) (n w : Nat) : Bool := s.poisoned (0x20 + s.siteOf n) w

end Sys2Proof.Machine
end

