-- ==== Sys2Proof/Machine/Satchel.lean ====
section
/-!
DEFINITION. Satchel by bytes (15 R366, R372, R384): reads that meet poison or a retired bank, whole-word writes that clear
poison, and narrower ones that poison discards; DTCM bytes beside it (21 Table 21-3).
-/
namespace Sys2Proof.Machine

/-- The Satchel bank of a byte offset, 256 KiB each (15 R366). -/
def satBank (off : Nat) : Nat := off / 0x40000 % 16

/-- Bank `b` has been retired (15 R384). -/
def State.bankRetired (s : State) (b : Nat) : Bool := s.bit .SAT_BANK_RETIRED 0 b

/-- The 16-byte word that holds a byte offset reads as poison, or lies in a retired bank (15 R371, R384). -/
def State.satBad (s : State) (off : Nat) : Bool :=
  s.bankRetired (satBank off) || s.poisoned (satBank off) (off % 0x40000 / 16)

/-- A byte of Satchel. -/
def State.satByte (s : State) (off : Nat) : Nat := s.satchel.get (0, off) 0

/-- `n` bytes of Satchel from an address of the Tutor map; nothing where a word is poison or the range leaves Satchel. -/
def State.satRead (s : State) (addr n : Nat) : Option (List Nat) :=
  let off := addr - 0x20000000
  if addr < 0x20000000 || 0x400000 < off + n then none
  else if (List.range (n / 16 + 2)).any (fun k => off / 16 * 16 + 16 * k < off + n && s.satBad (off / 16 * 16 + 16 * k)) then none
  else some ((List.range n).map (fun i => s.satByte (off + i)))

/-- One byte is stored. -/
def State.satPut (s : State) (off b : Nat) : State := { s with satchel := s.satchel.set (0, off) 0 (b % 256) }

/-- The bytes of one 16-byte word are written: a whole word clears poison; a narrower write to a poisoned word, and any
write to a retired bank, is discarded (15 R372, R384). The truth value tells whether it was stored. -/
def State.satWriteWord (s : State) (off : Nat) (l : List Nat) : Bool × State :=
  let put (s : State) : State := (s.each (List.range l.length) (fun s i => s.satPut (off + i) (l.getD i 0)))
  if s.bankRetired (satBank off) then (false, s)
  else if l.length = 16 then (true, (put s).mark (satBank off) (off % 0x40000 / 16) false)
  else if s.satBad off then (false, s)
  else (true, put s)

/-- `n` words of bytes are written from an offset on, each piece up to the end of its 16-byte word. -/
def State.satWriteN : Nat → State → Nat → List Nat → Bool × State
  | 0, s, _, _ => (true, s)
  | n + 1, s, off, l =>
    if l.isEmpty then (true, s) else
    let k := 16 - off % 16
    let (ok, s) := s.satWriteWord off (l.take k)
    let (ok', s) := s.satWriteN n (off + k) (l.drop k)
    (ok && ok', s)

/-- Bytes are written to an address of the Tutor map. Nothing is written outside Satchel. -/
def State.satWrite (s : State) (addr : Nat) (l : List Nat) : Bool × State :=
  let off := addr - 0x20000000
  if addr < 0x20000000 || 0x400000 < off + l.length then (false, s) else s.satWriteN (l.length / 16 + 2) off l

end Sys2Proof.Machine
end

