-- ==== Sys2Proof/Machine/Vars.lean ====
section
/-!
DEFINITION. The dictionary entries that are no register: their types, ranges and defaults, as the tables of chapters 11, 12
and 20 give them, and their values. A REAL32 is held as its binary32 pattern, here as in the ranges and defaults.
-/
namespace Sys2Proof.Machine

/-- The types of dictionary entries (20 R472). -/
inductive ObjTy where
  | bool | u8 | u16 | u32 | u48 | u64 | i16 | i32 | r32 | str | domain
  deriving DecidableEq, Repr

/-- An entry of the dictionary's own: `ni` indexes from `idx`, each with `n` subindexes from `sub`. -/
structure VarDesc where
  idx : Nat
  sub : Nat
  n : Nat := 1
  ni : Nat := 1
  ty : ObjTy
  /-- RWL: written through the pending set of its group. -/
  lock : Bool := true
  group : Nat
  /-- The intervals a value may lie in. -/
  ranges : List (Nat × Nat)
  dflt : Nat
  deriving DecidableEq, Repr

/-- The grid entries (11 Table 11-5). -/
def gridVars : List VarDesc := [
  { idx := 0x6000, sub := 0x1, ty := .u8, group := 9, ranges := [(0, 11)], dflt := 0 },
  { idx := 0x6000, sub := 0x2, ty := .u8, group := 9, ranges := [(0, 0), (6, 6), (12, 12), (18, 18)], dflt := 0 },
  { idx := 0x6000, sub := 0x3, ty := .u8, lock := false, group := 9, ranges := [(0, 2)], dflt := 0 },
  { idx := 0x6001, sub := 0x1, ty := .r32, group := 9, ranges := [(0x42480000, 0x44FA0000)], dflt := 0x43A34CCD },
  { idx := 0x6001, sub := 0x2, ty := .r32, group := 9, ranges := [(0x3F800000, 0x469C4000)], dflt := 0x42C80000 },
  { idx := 0x6001, sub := 0x3, ty := .r32, group := 9, ranges := [(0x42480000, 0x42480000), (0x42700000, 0x42700000)], dflt := 0x42480000 },
  { idx := 0x6001, sub := 0x4, ty := .r32, group := 9, ranges := [(0x3F800000, 0x41200000)], dflt := 0x40A00000 },
  { idx := 0x6001, sub := 0x5, ty := .r32, group := 9, ranges := [(0x41200000, 0x44FA0000)], dflt := 0x4331B333 },
  { idx := 0x6001, sub := 0x6, ty := .r32, group := 9, ranges := [(0x0, 0x49742400)], dflt := 0x4676BC00 },
  { idx := 0x6001, sub := 0x7, ty := .r32, group := 9, ranges := [(0x3CA3D70A, 0x3F000000)], dflt := 0x3DCCCCCD },
  { idx := 0x6001, sub := 0x8, ty := .u8, group := 9, ranges := [(0, 1)], dflt := 1 },
  { idx := 0x6002, sub := 0x1, ty := .r32, group := 9, ranges := [(0x0, 0x42C80000)], dflt := 0x3F99999A },
  { idx := 0x6002, sub := 0x2, ty := .r32, group := 9, ranges := [(0x0, 0x49742400)], dflt := 0x44480000 },
  { idx := 0x6002, sub := 0x3, ty := .r32, group := 9, ranges := [(0x0, 0x42C80000)], dflt := 0x3F99999A },
  { idx := 0x6002, sub := 0x4, ty := .r32, group := 9, ranges := [(0x0, 0x49742400)], dflt := 0x44480000 },
  { idx := 0x6002, sub := 0x5, ty := .r32, group := 9, ranges := [(0x0, 0x3DCCCCCD)], dflt := 0x39D1B717 },
  { idx := 0x6002, sub := 0x6, ty := .r32, group := 9, ranges := [(0x3DCCCCCD, 0x3FC00000)], dflt := 0x3F8CCCCD },
  { idx := 0x6002, sub := 0x7, ty := .u8, group := 9, ranges := [(0, 1)], dflt := 0 },
  { idx := 0x6002, sub := 0x8, ty := .r32, group := 9, ranges := [(0x3F000000, 0x3F800000)], dflt := 0x3F7AE148 },
  { idx := 0x6002, sub := 0x9, ty := .r32, group := 9, ranges := [(0x0, 0x3C23D70A)], dflt := 0x3A03126F },
  { idx := 0x6003, sub := 0x1, ty := .u32, group := 9, ranges := [(0x0, 0xFFFFFF)], dflt := 0xDB6DB6 },
  { idx := 0x6003, sub := 0x2, ty := .r32, group := 9, ranges := [(0x0, 0x42480000)], dflt := 0x40000000 },
  { idx := 0x6003, sub := 0x10, n := 24, ty := .r32, group := 9, ranges := [(0x0, 0x40800000)], dflt := 0x3F800000 },
  { idx := 0x6004, sub := 0x1, ty := .u8, group := 9, ranges := [(0, 1)], dflt := 0 },
  { idx := 0x6004, sub := 0x2, ty := .r32, lock := false, group := 9, ranges := [(0xBF99999A, 0x3F99999A)], dflt := 0x0 },
  { idx := 0x6004, sub := 0x3, ty := .r32, lock := false, group := 9, ranges := [(0x42C80000, 0x44BB8000)], dflt := 0x443B8000 },
  { idx := 0x6004, sub := 0x4, ty := .r32, group := 9, ranges := [(0x0, 0x3F800000)], dflt := 0x3C23D70A },
  { idx := 0x6004, sub := 0x5, ty := .r32, group := 9, ranges := [(0x0, 0x42C80000)], dflt := 0x3F000000 },
  { idx := 0x6004, sub := 0x6, ty := .u8, group := 9, ranges := [(0, 2)], dflt := 0 },
  { idx := 0x6004, sub := 0x7, ty := .r32, lock := false, group := 9, ranges := [(0xBF800000, 0x3F800000)], dflt := 0x0 },
  { idx := 0x6004, sub := 0x8, ty := .r32, lock := false, group := 9, ranges := [(0xBF800000, 0xBF4CCCCD), (0x3F4CCCCD, 0x3F800000)], dflt := 0x3F800000 },
  { idx := 0x6004, sub := 0x9, ty := .r32, lock := false, group := 9, ranges := [(0x3F666666, 0x3F8CCCCD)], dflt := 0x3F800000 },
  { idx := 0x6004, sub := 0xA, ty := .r32, group := 9, ranges := [(0x0, 0x3DCCCCCD)], dflt := 0x3CA3D70A },
  { idx := 0x6004, sub := 0xB, ty := .r32, group := 9, ranges := [(0x0, 0x42480000)], dflt := 0x40A00000 },
  { idx := 0x6004, sub := 0xC, ty := .r32, group := 9, ranges := [(0x0, 0x3F800000)], dflt := 0x3EDF3B64 },
  { idx := 0x6005, sub := 0x1, ty := .r32, group := 9, ranges := [(0x3A83126F, 0x42C80000)], dflt := 0x3DCCCCCD },
  { idx := 0x6005, sub := 0x2, ty := .r32, group := 9, ranges := [(0x3A83126F, 0x42C80000)], dflt := 0x3F800000 },
  { idx := 0x6005, sub := 0x3, ty := .r32, group := 9, ranges := [(0x3A83126F, 0x42C80000)], dflt := 0x3F800000 },
  { idx := 0x6005, sub := 0x4, ty := .r32, group := 9, ranges := [(0x3A83126F, 0x42C80000)], dflt := 0x3F800000 },
  { idx := 0x6005, sub := 0x5, ty := .bool, group := 9, ranges := [(0, 1)], dflt := 1 },
  { idx := 0x6005, sub := 0x6, ty := .r32, group := 9, ranges := [(0x0, 0x40000000)], dflt := 0x3E4CCCCD },
  { idx := 0x6005, sub := 0x7, ty := .r32, group := 9, ranges := [(0x3C23D70A, 0x40A00000)], dflt := 0x3ECCCCCD },
  { idx := 0x6006, sub := 0x1, ty := .r32, group := 9, ranges := [(0x3F000000, 0x3F733333)], dflt := 0x3F59999A },
  { idx := 0x6006, sub := 0x2, ty := .r32, group := 9, ranges := [(0x3F000000, 0x3F800000)], dflt := 0x3F666666 },
  { idx := 0x6006, sub := 0x3, ty := .r32, group := 9, ranges := [(0x3F866666, 0x3FC00000)], dflt := 0x3F8CCCCD },
  { idx := 0x6006, sub := 0x4, ty := .r32, group := 9, ranges := [(0x3F800000, 0x3FC00000)], dflt := 0x3F8A3D71 },
  { idx := 0x6006, sub := 0x5, ty := .u8, group := 9, ranges := [(1, 64)], dflt := 4 },
  { idx := 0x6006, sub := 0x6, ty := .r32, group := 9, ranges := [(0x0, 0x41200000)], dflt := 0x40000000 },
  { idx := 0x6006, sub := 0x7, ty := .r32, group := 9, ranges := [(0x0, 0x41200000)], dflt := 0x40000000 },
  { idx := 0x6006, sub := 0x8, ty := .r32, group := 9, ranges := [(0x0, 0x3FC00000)], dflt := 0x3F800000 },
  { idx := 0x6006, sub := 0x9, ty := .u8, group := 9, ranges := [(0, 1)], dflt := 0 },
  { idx := 0x6006, sub := 0xA, ty := .bool, group := 9, ranges := [(0, 1)], dflt := 0 },
  { idx := 0x6006, sub := 0xB, ty := .r32, group := 9, ranges := [(0x0, 0x3F666666)], dflt := 0x3F000000 },
  { idx := 0x6006, sub := 0xC, ty := .r32, group := 9, ranges := [(0x0, 0x3F733333)], dflt := 0x3F0CCCCD },
  { idx := 0x6006, sub := 0xD, ty := .r32, group := 9, ranges := [(0x3CA3D70A, 0x3F800000)], dflt := 0x3DCCCCCD },
  { idx := 0x6006, sub := 0xE, ty := .bool, group := 9, ranges := [(0, 1)], dflt := 1 } ]

/-- The ride-through curves (11 Table 11-5). -/
def curveVars : List VarDesc := [
  { idx := 0x6007, sub := 0x1, ty := .u8, group := 9, ranges := [(2, 16)], dflt := 4 },
  { idx := 0x6007, sub := 0x2, ty := .u32, group := 9, ranges := [(0x0, 0xFFFFFFFF)], dflt := 0x40000000 },
  { idx := 0x6007, sub := 0x3, ty := .u32, group := 9, ranges := [(0x0, 0xFFFFFFFF)], dflt := 0x5DC0096 },
  { idx := 0x6007, sub := 0x4, ty := .u32, group := 9, ranges := [(0x0, 0xFFFFFFFF)], dflt := 0x613405DC },
  { idx := 0x6007, sub := 0x5, ty := .u32, group := 9, ranges := [(0x0, 0xFFFFFFFF)], dflt := 0x21340BB8 },
  { idx := 0x6007, sub := 0x6, ty := .u32, group := 9, ranges := [(0, 4294967295)], dflt := 0 },
  { idx := 0x6007, sub := 0x7, ty := .u32, group := 9, ranges := [(0, 4294967295)], dflt := 0 },
  { idx := 0x6007, sub := 0x8, ty := .u32, group := 9, ranges := [(0, 4294967295)], dflt := 0 },
  { idx := 0x6007, sub := 0x9, ty := .u32, group := 9, ranges := [(0, 4294967295)], dflt := 0 },
  { idx := 0x6007, sub := 0xA, ty := .u32, group := 9, ranges := [(0, 4294967295)], dflt := 0 },
  { idx := 0x6007, sub := 0xB, ty := .u32, group := 9, ranges := [(0, 4294967295)], dflt := 0 },
  { idx := 0x6007, sub := 0xC, ty := .u32, group := 9, ranges := [(0, 4294967295)], dflt := 0 },
  { idx := 0x6007, sub := 0xD, ty := .u32, group := 9, ranges := [(0, 4294967295)], dflt := 0 },
  { idx := 0x6007, sub := 0xE, ty := .u32, group := 9, ranges := [(0, 4294967295)], dflt := 0 },
  { idx := 0x6007, sub := 0xF, ty := .u32, group := 9, ranges := [(0, 4294967295)], dflt := 0 },
  { idx := 0x6007, sub := 0x10, ty := .u32, group := 9, ranges := [(0, 4294967295)], dflt := 0 },
  { idx := 0x6007, sub := 0x11, ty := .u32, group := 9, ranges := [(0, 4294967295)], dflt := 0 },
  { idx := 0x6008, sub := 0x1, ty := .u8, group := 9, ranges := [(2, 16)], dflt := 4 },
  { idx := 0x6008, sub := 0x2, ty := .u32, group := 9, ranges := [(0x0, 0xFFFFFFFF)], dflt := 0x72C80000 },
  { idx := 0x6008, sub := 0x3, ty := .u32, group := 9, ranges := [(0x0, 0xFFFFFFFF)], dflt := 0x70D40064 },
  { idx := 0x6008, sub := 0x4, ty := .u32, group := 9, ranges := [(0x0, 0xFFFFFFFF)], dflt := 0x6CEC03E8 },
  { idx := 0x6008, sub := 0x5, ty := .u32, group := 9, ranges := [(0x0, 0xFFFFFFFF)], dflt := 0x2AF8EA60 },
  { idx := 0x6008, sub := 0x6, ty := .u32, group := 9, ranges := [(0, 4294967295)], dflt := 0 },
  { idx := 0x6008, sub := 0x7, ty := .u32, group := 9, ranges := [(0, 4294967295)], dflt := 0 },
  { idx := 0x6008, sub := 0x8, ty := .u32, group := 9, ranges := [(0, 4294967295)], dflt := 0 },
  { idx := 0x6008, sub := 0x9, ty := .u32, group := 9, ranges := [(0, 4294967295)], dflt := 0 },
  { idx := 0x6008, sub := 0xA, ty := .u32, group := 9, ranges := [(0, 4294967295)], dflt := 0 },
  { idx := 0x6008, sub := 0xB, ty := .u32, group := 9, ranges := [(0, 4294967295)], dflt := 0 },
  { idx := 0x6008, sub := 0xC, ty := .u32, group := 9, ranges := [(0, 4294967295)], dflt := 0 },
  { idx := 0x6008, sub := 0xD, ty := .u32, group := 9, ranges := [(0, 4294967295)], dflt := 0 },
  { idx := 0x6008, sub := 0xE, ty := .u32, group := 9, ranges := [(0, 4294967295)], dflt := 0 },
  { idx := 0x6008, sub := 0xF, ty := .u32, group := 9, ranges := [(0, 4294967295)], dflt := 0 },
  { idx := 0x6008, sub := 0x10, ty := .u32, group := 9, ranges := [(0, 4294967295)], dflt := 0 },
  { idx := 0x6008, sub := 0x11, ty := .u32, group := 9, ranges := [(0, 4294967295)], dflt := 0 } ]

/-- The islanding entries (12 Table 12-5). -/
def islVars : List VarDesc := [
  { idx := 0x6100, sub := 0x1, ty := .u8, group := 10, ranges := [(0, 11)], dflt := 1 },
  { idx := 0x6100, sub := 0x2, ty := .u8, lock := false, group := 10, ranges := [(0, 2)], dflt := 0 },
  { idx := 0x6101, sub := 0x1, ty := .r32, group := 10, ranges := [(0x3D4CCCCD, 0x3F800000)], dflt := 0x3F59999A },
  { idx := 0x6101, sub := 0x3, ty := .r32, group := 10, ranges := [(0x3D4CCCCD, 0x3F800000)], dflt := 0x3DCCCCCD },
  { idx := 0x6101, sub := 0x2, ty := .r32, group := 10, ranges := [(0x3CA3D70A, 0x42700000)], dflt := 0x3FCCCCCD },
  { idx := 0x6101, sub := 0x4, ty := .r32, group := 10, ranges := [(0x3CA3D70A, 0x42700000)], dflt := 0x3E23D70A },
  { idx := 0x6101, sub := 0x5, ty := .r32, group := 10, ranges := [(0x3F800000, 0x3FC00000)], dflt := 0x3F8CCCCD },
  { idx := 0x6101, sub := 0x7, ty := .r32, group := 10, ranges := [(0x3F800000, 0x3FC00000)], dflt := 0x3FA66666 },
  { idx := 0x6101, sub := 0x6, ty := .r32, group := 10, ranges := [(0x3CA3D70A, 0x42F00000)], dflt := 0x42720000 },
  { idx := 0x6101, sub := 0x8, ty := .r32, group := 10, ranges := [(0x3CA3D70A, 0x42F00000)], dflt := 0x3D4CCCCD },
  { idx := 0x6101, sub := 0x9, ty := .r32, group := 10, ranges := [(0x3DCCCCCD, 0x41200000)], dflt := 0x40200000 },
  { idx := 0x6101, sub := 0xA, ty := .r32, group := 10, ranges := [(0x3CA3D70A, 0x42700000)], dflt := 0x3DCCCCCD },
  { idx := 0x6101, sub := 0xB, ty := .r32, group := 10, ranges := [(0x3DCCCCCD, 0x41200000)], dflt := 0x3FC00000 },
  { idx := 0x6101, sub := 0xC, ty := .r32, group := 10, ranges := [(0x3CA3D70A, 0x42700000)], dflt := 0x3DCCCCCD },
  { idx := 0x6101, sub := 0xE, ty := .r32, group := 10, ranges := [(0x3DCCCCCD, 0x41200000)], dflt := 0x40200000 },
  { idx := 0x6101, sub := 0xF, ty := .r32, group := 10, ranges := [(0x3CA3D70A, 0x3F800000)], dflt := 0x3E4CCCCD },
  { idx := 0x6101, sub := 0x10, ty := .r32, group := 10, ranges := [(0x3CA3D70A, 0x40A00000)], dflt := 0x3F000000 },
  { idx := 0x6101, sub := 0x12, ty := .r32, group := 10, ranges := [(0x40000000, 0x41F00000)], dflt := 0x41200000 },
  { idx := 0x6101, sub := 0x13, ty := .u16, group := 10, ranges := [(0, 511)], dflt := 319 },
  { idx := 0x6102, sub := 0x1, ty := .bool, group := 10, ranges := [(0, 1)], dflt := 1 },
  { idx := 0x6102, sub := 0x2, ty := .r32, group := 10, ranges := [(0x3A03126F, 0x3C23D70A)], dflt := 0x3B03126F },
  { idx := 0x6102, sub := 0x3, ty := .u8, group := 10, ranges := [(1, 64)], dflt := 8 },
  { idx := 0x6102, sub := 0x4, ty := .u16, group := 10, ranges := [(16, 2047)], dflt := 127 },
  { idx := 0x6102, sub := 0x5, ty := .r32, group := 10, ranges := [(0x3D4CCCCD, 0x40A00000)], dflt := 0x3F000000 },
  { idx := 0x6102, sub := 0x6, ty := .u8, group := 10, ranges := [(1, 4)], dflt := 1 },
  { idx := 0x6102, sub := 0x7, ty := .u8, group := 10, ranges := [(0, 255)], dflt := 0 } ]

/-- The MPPT entries (12 Table 12-6). -/
def mpptVars : List VarDesc := [
  { idx := 0x6200, sub := 0x1, ty := .u8, group := 11, ranges := [(0, 11)], dflt := 2 },
  { idx := 0x6200, sub := 0x2, ty := .u8, group := 11, ranges := [(0, 23)], dflt := 6 },
  { idx := 0x6200, sub := 0x3, ty := .u16, group := 11, ranges := [(0, 4095)], dflt := 0 },
  { idx := 0x6200, sub := 0x4, ty := .u8, group := 11, ranges := [(1, 255)], dflt := 4 },
  { idx := 0x6201, sub := 0x1, ty := .r32, group := 11, ranges := [(0x3F000000, 0x3F733333)], dflt := 0x3F4CCCCD },
  { idx := 0x6201, sub := 0x2, ty := .r32, group := 11, ranges := [(0x3C23D70A, 0x41200000)], dflt := 0x3D4CCCCD },
  { idx := 0x6201, sub := 0x3, ty := .r32, group := 11, ranges := [(0x3DCCCCCD, 0x42480000)], dflt := 0x40000000 },
  { idx := 0x6201, sub := 0x4, ty := .r32, group := 11, ranges := [(0x0, 0x41200000)], dflt := 0x3DCCCCCD },
  { idx := 0x6201, sub := 0x5, ty := .r32, group := 11, ranges := [(0x0, 0x447A0000)], dflt := 0x3F000000 },
  { idx := 0x6201, sub := 0x6, ty := .r32, group := 11, ranges := [(0x0, 0x44BB8000)], dflt := 0x43480000 },
  { idx := 0x6201, sub := 0x7, ty := .r32, group := 11, ranges := [(0x0, 0x44BB8000)], dflt := 0x44BB8000 },
  { idx := 0x6201, sub := 0x8, ty := .r32, group := 11, ranges := [(0x3F000000, 0x3F7AE148)], dflt := 0x3F733333 },
  { idx := 0x6201, sub := 0x9, ty := .r32, group := 11, ranges := [(0x42C80000, 0x44C80000)], dflt := 0x44834000 },
  { idx := 0x6201, sub := 0xA, ty := .r32, group := 11, ranges := [(0x3F800000, 0x42C80000)], dflt := 0x41A00000 },
  { idx := 0x6201, sub := 0xB, ty := .r32, group := 11, ranges := [(0x3BA3D70A, 0x3F800000)], dflt := 0x3CA3D70A },
  { idx := 0x6201, sub := 0xC, ty := .r32, group := 11, ranges := [(0x0, 0x3F800000)], dflt := 0x3B03126F },
  { idx := 0x6201, sub := 0xD, ty := .r32, group := 11, ranges := [(0x0, 0x447A0000)], dflt := 0x41A00000 },
  { idx := 0x6201, sub := 0xE, ty := .r32, group := 11, ranges := [(0x41A00000, 0x42A00000)], dflt := 0x42700000 },
  { idx := 0x6201, sub := 0xF, ty := .r32, group := 11, ranges := [(0x0, 0x42C80000)], dflt := 0x3E4CCCCD },
  { idx := 0x6210, sub := 0x1, ni := 12, ty := .r32, lock := false, group := 11, ranges := [(0x0, 0x49742400)], dflt := 0x49742400 } ]

/-- The entries of the dictionary itself (20 R497). -/
def ownVars : List VarDesc := [
  { idx := 0x1200, sub := 0x1, ty := .u16, lock := false, group := 0, ranges := [(1024, 65535)], dflt := 17732 },
  { idx := 0x1200, sub := 0x2, ty := .u8, lock := false, group := 0, ranges := [(0, 3)], dflt := 3 },
  { idx := 0x1200, sub := 0x3, ty := .u8, lock := false, group := 0, ranges := [(1, 127), (129, 255)], dflt := 129 },
  { idx := 0x1200, sub := 0x4, ty := .u8, lock := false, group := 0, ranges := [(1, 127), (129, 255)], dflt := 130 },
  { idx := 0x2200, sub := 0x2, ni := 2, ty := .u48, lock := false, group := 0, ranges := [(0, 281474976710655)], dflt := 0 },
  { idx := 0x2200, sub := 0x3, ni := 2, ty := .u8, lock := false, group := 0, ranges := [(0, 1)], dflt := 0 } ]

/-- Every entry of the dictionary's own. -/
def allVars : List VarDesc := gridVars ++ curveVars ++ islVars ++ mpptVars ++ ownVars

/-- The description of entry `idx`:`sub`, if it is one of these. -/
def varDesc (idx sub : Nat) : Option VarDesc :=
  allVars.find? (fun v => v.idx ≤ idx && idx < v.idx + v.ni && v.sub ≤ sub && sub < v.sub + v.n)

/-- The default of an entry; that of the probe slot is the low byte of the serial number (12 R305). -/
def State.varDefault (s : State) (idx sub : Nat) : Nat :=
  if idx = 0x6102 ∧ sub = 7 then s.sec.serial % 256 else
  match varDesc idx sub with
  | some v => v.dflt
  | none => 0

/-- The value in force of an entry. -/
def State.var (s : State) (idx sub : Nat) : Nat := s.dict.vars.get (idx, sub) (s.varDefault idx sub)

/-- A REAL32 entry as a number. -/
def State.varR (s : State) (idx sub : Nat) : Fp := .of32 (s.var idx sub)

/-- An entry takes a value. -/
def State.setVar (s : State) (idx sub v : Nat) : State :=
  { s with dict := { s.dict with vars := s.dict.vars.set (idx, sub) (s.varDefault idx sub) v } }

/-- Engine `n` carries the shipped Timetable whose entries begin at `base` (11 R279, 12 R298, R308): the engine its entry names or,
in Duplex mode, its pair. -/
def State.shippedOn (s : State) (base n : Nat) : Bool :=
  s.var base 1 == n || (!s.split && s.var base 1 % 6 == n % 6)

/-- Writes of RW entries of the Timetable on engine `n` that have waited for the end of its run are made (11 R281, 10 R248). -/
def State.settleLate (s : State) (n : Nat) : State :=
  let mine (e : Nat × Nat × Nat) : Bool := s.shippedOn (e.1 / 256 * 256) n
  let l := s.ship.late.filter mine
  State.each { s with ship := { s.ship with late := s.ship.late.filter (fun e => !mine e) } } l (fun s e => s.setVar e.1 e.2.1 e.2.2)

/-- A value lies in an entry's range; a REAL32 that is not a number lies in none. -/
def VarDesc.inRange (d : VarDesc) (v : Nat) : Bool :=
  d.ranges.any (fun r =>
    if d.ty = .r32 then (Fp.of32 r.1).le (.of32 v) && (Fp.of32 v).le (.of32 r.2) else r.1 ≤ v && v ≤ r.2)

end Sys2Proof.Machine
end

