-- ==== Sys2Proof/Machine/Rings.lean ====
section
/-!
DEFINITION. Ring descriptors (19 Table 19-2) between Satchel and the ring engine, and their completion (19 R455, R457,
R460).
-/
namespace Sys2Proof.Machine

/-- The descriptor that 32 bytes spell (19 Table 19-2). -/
def Desc.ofBytes (l : List Nat) : Desc :=
  let w (o n : Nat) : Nat := ofLe ((l.drop o).take n)
  let f := w 6 2
  { addr := w 0 4, len := w 4 2, own := f.testBit 0, done := f.testBit 1, err := f.testBit 2, tsreq := f.testBit 3,
    closed := f.testBit 4, gap := f.testBit 5, epoch := w 8 4, errcode := w 12 1, matched := w 13 1, ts := w 16 8 }

/-- The 32 bytes of a descriptor. -/
def Desc.bytes (d : Desc) : List Nat :=
  let f := d.own.toNat + 2 * d.done.toNat + 4 * d.err.toNat + 8 * d.tsreq.toNat + 16 * d.closed.toNat + 32 * d.gap.toNat
  leBytes 4 d.addr ++ leBytes 2 d.len ++ leBytes 2 f ++ leBytes 4 d.epoch ++ [d.errcode % 256, d.matched % 256, 0, 0]
    ++ leBytes 8 d.ts ++ List.replicate 8 0

/-- The world of ring `q` (19 Table 19-1): a port's rings follow the port, the capture streams the SAR block, the others are
Secure. -/
def State.ringNs (s : State) (q : Nat) : Bool :=
  if q < 10 then s.portNs (q / 2) else if q = 11 || q = 12 then s.blockNs .sar else false

/-- A Satchel region of 64 KiB is Non-secure (17 Table 17-1). -/
def State.satNs (s : State) (addr : Nat) : Bool :=
  let r := (addr - 0x20000000) / 0x10000 % 64
  if r < 32 then s.bit .SEC_SATL 0 r else s.bit .SEC_SATH 0 (r - 32)

/-- Ring `q` has this many descriptors (19 R453). -/
def State.ringSize (s : State) (q : Nat) : Nat := 2 ^ s.fld .RING_CFG_SIZE_L2 q

/-- The Satchel address of descriptor `i` of ring `q`. -/
def State.descAddr (s : State) (q i : Nat) : Nat := s.fld .RING_BASE q + 32 * i

/-- Descriptor `i` of ring `q` as it stands in Satchel; none where it reads as poison (19 R455). -/
def State.desc (s : State) (q i : Nat) : Option Desc := (s.satRead (s.descAddr q i) 32).map Desc.ofBytes

/-- The indices from the consumer's to the producer's: submitted and not yet taken, or completed and not yet consumed (19
Table 19-8). -/
def State.ringSpan (s : State) (q : Nat) : List Nat :=
  let n := s.ringSize q
  let t := s.fld .RING_TAIL_TAIL q % n
  (List.range ((s.fld .RING_HEAD_HEAD q % n + n - t) % n)).map (fun k => (t + k) % n)

/-- A descriptor is written in one 32-byte write (19 R455). -/
def State.putDescriptor (s : State) (q i : Nat) (d : Desc) : State := (s.satWrite (s.descAddr q i) d.bytes).2

/-- The device finishes descriptor `i` of ring `q` (19 R455): the descriptor is written with OWN clear and DONE set, the
owner is interrupted if IRQ is set, and an ERRCODE of 0x01 or 0x02 halts the ring with event 0x0C (19 R460). -/
def State.finish (s : State) (q i : Nat) (d : Desc) : State :=
  let d := { d with own := false, done := true, err := d.errcode != 0 }
  let s := s.putDescriptor q i d
  let s := { s with ports := { s.ports with taken := s.ports.taken.filter (fun t => !(t.ring == q && t.idx == i)) } }
  let s := s.when (s.flag .RING_CFG_IRQ q) (fun s => s.raiseRing q)
  s.when (d.errcode == 1 || d.errcode == 2) (fun s =>
    ((s.setFld .RING_STAT_HALT q 1).setFld .RING_STAT_ERR q d.errcode).event .ports 0x0C 0 q)

/-- The descriptor of ring `q` with index `i` that the device has taken and not finished. -/
def State.takenDesc (s : State) (q i : Nat) : Option Desc :=
  (s.ports.taken.find? (fun t => t.ring == q && t.idx == i)).map (fun t => t.desc)

/-- A taken command descriptor completes with an error code and a data length. -/
def State.finishCmd (s : State) (q i len code : Nat) : State :=
  match s.takenDesc q i with
  | none => s
  | some d => s.finish q i { d with len := len, errcode := code, ts := if d.tsreq then s.tb else d.ts }

/-- The descriptor at HEAD of a ring the device produces, if it is free: OWN set, the ring enabled and not halted. -/
def State.freeDesc (s : State) (q : Nat) : Option Desc :=
  if s.flag .RING_CFG_EN q && !s.flag .RING_STAT_HALT q then
    match s.desc q (s.fld .RING_HEAD_HEAD q) with
    | some d => if d.own then some d else none
    | none => none
  else none

/-- The Non-secure ring `q` reaches for a Secure part of Satchel (17 R412, 19 Table 19-3). -/
def State.ringBarred (s : State) (q addr n : Nat) : Bool :=
  s.ringNs q && !((List.range (n / 0x10000 + 2)).all (fun k =>
    let r := addr / 0x10000 * 0x10000 + k * 0x10000
    addr + n ≤ r || s.satNs r))

/-- Data reaches the buffer of the descriptor at HEAD of a ring that the device produces, and the descriptor completes (19
R455, R456): ERRCODE 0x04 for a buffer too small, 0x02 for a world violation, 0x01 for a buffer that cannot be written. -/
def State.produce (s : State) (q : Nat) (d : Desc) (data : List Nat) (ts : Nat) : State :=
  let i := s.fld .RING_HEAD_HEAD q
  let d := { d with epoch := s.fld .RING_EPOCH, ts := ts }
  let s := s.setFld .RING_HEAD_HEAD q ((i + 1) % s.ringSize q)
  if d.len < data.length then s.finish q i { d with len := 0, errcode := 0x04 }
  else if s.ringBarred q d.addr data.length then
    (s.violation (0x10 + q) d.addr).finish q i { d with len := 0, errcode := 0x02 }
  else
    let (ok, s) := s.satWrite d.addr data
    s.finish q i { d with len := data.length, errcode := if ok then 0 else 0x01 }

/-- The 64-bit timebase of a word's 32-bit timestamp, in the recent past. -/
def State.wideTs (s : State) (ts : Nat) : Nat := s.tb - (s.tb + 2 ^ 32 - ts % 2 ^ 32) % 2 ^ 32

/-- A sample word as its 64 bits (01 Table 1-5). RESULT is 0 when REASON is 7. -/
def SampleWord.bits (w : SampleWord) : Nat :=
  (if w.reason = 7 then 0 else w.result % 2 ^ 18) + w.valid.toNat * 2 ^ 18 + w.subst.toNat * 2 ^ 19
    + w.inj.toNat * 2 ^ 20 + w.reason % 8 * 2 ^ 21 + w.source % 256 * 2 ^ 24 + w.ts % 2 ^ 32 * 2 ^ 32

/-- The buffer in progress of capture stream `a`. -/
def State.cap (s : State) (a : Nat) : Capture := if a = 0 then s.ports.capA else s.ports.capB

/-- The buffer in progress of a capture stream is replaced. -/
def State.setCap (s : State) (a : Nat) (c : Capture) : State :=
  { s with ports := if a = 0 then { s.ports with capA := c } else { s.ports with capB := c } }

/-- Port `p` is enabled and not held in local reset (19 R445, R466). -/
def State.portOn (s : State) (p : Nat) : Bool :=
  s.bit .PORT_EN_EN 0 p && !s.ports.held.testBit p && !s.domainHeld 4 && (p < 2 || 3 < p || s.bankOn 3)

/-- An IDP header (20 Table 20-4). -/
def idpHeader (op tag epoch idx sub wing ofs total len flags : Nat) : List Nat :=
  leBytes 2 0x4449 ++ [1, op] ++ leBytes 4 tag ++ leBytes 4 epoch ++ leBytes 2 idx ++ [sub, wing] ++ leBytes 4 ofs
    ++ leBytes 4 total ++ leBytes 2 len ++ leBytes 2 flags

/-- A completed buffer of stream `a` goes out as IDP datagrams while a destination is set (20 R498): at most 1400 bytes
each, with the count of buffers as TAG, and GAP and CLOSED in the reserved word. -/
def State.streamSend (s : State) (a : Nat) (gap closed : Bool) (l : List Nat) : State :=
  let tag := s.dict.streamTag.getD a 0
  if s.var (0x2200 + a) 2 = 0 || !s.portOn (s.var (0x2200 + a) 3) then s else
  let sent := (List.range ((l.length + 1399) / 1400)).map (fun k =>
    let d := (l.drop (1400 * k)).take 1400
    idpHeader 0x06 tag (s.fld .RING_EPOCH) (0x2200 + a) 1 0 (1400 * k) l.length d.length (gap.toNat + 2 * closed.toNat) ++ d)
  { s with dict := { s.dict with streamTag := s.dict.streamTag.set a ((tag + 1) % 2 ^ 32), streamSent := sent } }

/-- The current buffer of a capture stream completes (19 R461): TS is the timebase of its first word; GAP if a word found no
free descriptor before it, CLOSED if EN was cleared. -/
def State.captureDone (s : State) (a : Nat) (closed : Bool) : State :=
  let c := s.cap a
  let ts := match c.words with | w :: _ => s.wideTs w.ts | [] => s.tb
  match s.freeDesc (11 + a) with
  | some d =>
    let l := c.words.flatMap (fun w => leBytes 8 w.bits)
    ((s.setCap a {}).produce (11 + a) { d with closed := closed, gap := c.gap } l ts).streamSend a c.gap closed l
  | none => s.setCap a { c with words := [], skip := 0 }

/-! ### Ports -/

/-- Link training runs (19 R451), so the SYNC chain carries no chain Bell. -/
def State.trains (s : State) : Bool := s.ports.training == .words || s.ports.training == .hops

/-- What goes out on the SYNC output. -/
def State.syncSend (s : State) (l : List SyncOut) : State := { s with ports := { s.ports with syncOut := l } }

/-- A frame goes out on the Niujor data pair: header, payload and CRC-16 (19 R450). -/
def State.peerSend (s : State) (l : List Nat) : State :=
  { s with ports := { s.ports with peerSent := l ++ leBytes 2 (niujorCrc l) } }

end Sys2Proof.Machine
end

