-- ==== Sys2Proof/Machine/Epoch.lean ====
section
/-!
DEFINITION. The fault epoch: what each increment discards (20 R480, R481) and how the rings settle (19 R465).
-/
namespace Sys2Proof.Machine

/-- A descriptor completed with an error code (19 R455). -/
def Desc.fail (d : Desc) (code : Nat) : Desc := { d with own := false, done := true, err := true, errcode := code }

/-- The rings whose owned descriptors are flushed at an epoch advance (19 Table 19-6): the transmit rings, Q13, Q14, Q15. -/
def flushRings : List Nat := [1, 3, 5, 7, 9, 13, 14, 15]

/-- The receive rings. -/
def rxRings : List Nat := [0, 2, 4, 6, 8]

/-- A descriptor at an epoch advance (19 Table 19-6): owned ones of the flushed rings, and completed ones not yet
consumed of the receive rings, take ERRCODE 0x06. -/
def Desc.settle (q : Nat) (d : Desc) : Desc :=
  if flushRings.contains q && d.own then d.fail 0x06
  else if rxRings.contains q && d.done then { d with err := true, errcode := 0x06 }
  else d

/-- Ring `q` is halted with an error code (19 R460, R465). -/
def State.haltRing (s : State) (q code : Nat) : State := (s.setFld .RING_STAT_HALT q 1).setFld .RING_STAT_ERR q code

/-- A capture stream is closed (19 Table 19-6, R461): its current buffer completes with CLOSED and EN clears. -/
def State.closeCapture (s : State) (a : Nat) : State := (s.captureDone a true).setFlag .CAP_CFG_EN a false

/-- The descriptors of ring `q` that an epoch advance flushes, as they are written. -/
def State.flushed (s : State) (q : Nat) : List (Nat × Desc) :=
  (s.ringSpan q).filterMap (fun i =>
    match s.desc q i with
    | some d => if d.settle q = d then none else some (i, d.settle q)
    | none => none)

/-- Ring `q` settles (19 Table 19-6): what it flushes is written, a ring the device consumes has nothing left to take, and a
ring with a flushed descriptor halts. -/
def State.settleRing (s : State) (q : Nat) : State :=
  let l := s.flushed q
  if l.isEmpty || !s.flag .RING_CFG_EN q then s else
  let s := s.each l (fun s e => s.putDescriptor q e.1 e.2)
  let s := s.when (flushRings.contains q) (fun s => s.setFld .RING_TAIL_TAIL q (s.fld .RING_HEAD_HEAD q))
  s.haltRing q 0x06

/-- A descriptor taken and not finished is cut by an epoch advance: of Q14 and Q15, and a Q13 command whose burst has not
begun. A frame on the wire stays. -/
def State.cutTaken (s : State) (t : Taken) : Bool :=
  t.ring == 14 || t.ring == 15 || (t.ring == 13 && s.lib.burst.bind (fun b => b.req.ring) != some t.idx)

/-- The rings settle (19 R465, Table 19-6). -/
def State.settleRings (s : State) : State :=
  let cut := s.ports.taken.filter s.cutTaken
  let s := s.each (flushRings ++ rxRings) State.settleRing
  let s := s.each cut (fun s t =>
    (({ s with ports := { s.ports with taken := s.ports.taken.erase t } } : State).putDescriptor t.ring t.idx
      (t.desc.fail 0x06)).haltRing t.ring 0x06)
  let s := { s with lib := { s.lib with queue := s.lib.queue.filter (fun r => r.ring.isNone) } }
  let s := s.when (s.flag .CAP_CFG_EN 0) (fun s => s.closeCapture 0)
  s.when (s.flag .CAP_CFG_EN 1) (fun s => s.closeCapture 1)

/-- One group at an epoch advance (20 R481, Table 20-10): a pending set in Recess is dropped, a validation abandoned; a
set that is applying applies, and its restart write is answered with 0x0F00_0001. A held command is a transfer in progress,
and is dropped. -/
def Group.settle (p : Group) : Group :=
  let p := { p with held := [], deferred := false }
  match p.st with
  | .recess | .rejected => { p with pend := [], pendVars := [], discarded := true }
  | .validating =>
    { p with st := .recess, pend := [], pendVars := [], discarded := true, joint := false, restartAbort := 0x0F000001, askers := [] }
  | .applying => { p with restartAbort := 0x0F000001 }
  | _ => p

/-- Those who await a group's validation or a held command of it. -/
def Group.waiters (p : Group) : List Asker :=
  (if p.st == .validating then p.askers else []) ++ p.held.filterMap (fun h => h.2)

/-- An IDP request that is discarded: its next request with the same TAG ends with 0x0F00_0001 (20 R481). -/
def Asker.cut : Asker → Option IdpTransfer
  | .idp p src tag => some { port := p, source := src, tag := tag, write := true, index := 0, sub := 0, total := 0, data := []
                             aborted := true }
  | _ => none

/-- A core's gateway transfer ends with an abort code (21 R513, Table 21-6). -/
def State.endGateway (s : State) (core code : Nat) : State :=
  if s.flag .GW_CTRL_BUSY core then
    let s := ((s.setFld .GW_CTRL_BUSY core 0).setFld .GW_CTRL_DONE core 1).setFld .GW_ABORT core code
    s.when (s.flag .GW_CTRL_IEN core) (fun s => s.raiseCore core 11)
  else s

/-- Event 0x0D of an epoch advance, kept for later when Q10 is full (19 R465, Table 19-7). -/
def State.epochEvent (s : State) (reason : Nat) : State :=
  if s.ports.q10.length < s.q10Cap then s.event .ports 0x0D reason (s.fld .RING_EPOCH)
  else { s with ports := { s.ports with epochEvent := some (reason, s.fld .RING_EPOCH) } }

/-- The erase count of a block. -/
def State.erases (s : State) (b : Nat) : Nat := s.lib.erases.get (b, 0) 0

/-- Final slots of a block of area 8 (16 R401): 64 bytes each on NOR, one page on NAND. -/
def State.slotsPerBlock (s : State) : Nat :=
  2 ^ s.fld .LIB_GEOM_ERASE_L2 / (if s.flag .LIB_STAT_NAND then 2 ^ s.fld .LIB_GEOM_PAGE_L2 else 64)

/-- The erase of a block has completed (16 R396, R397): it counts, the records of the block are gone, and a block of area 8 gives
its final slots, the oldest, free again. -/
def State.erased (s : State) (b : Nat) : State :=
  let s := { s with lib := { s.lib with
    erases := s.lib.erases.set (b, 0) 0 (s.erases b + 1)
    records := s.lib.records.filter (fun r => r.block != b)
    dirty := s.lib.dirty.filter (fun x => x != b) } }
  s.when ((s.lib.areas.getD 8 []).contains b) (fun s =>
    let n := min s.slotsPerBlock s.lib.finals.length
    { s with lib := { s.lib with
      finals := s.lib.finals.drop n, finalFree := s.lib.finalFree + n
      areas := modAt s.lib.areas 8 [] (fun l => l.filter (fun x => x != b) ++ [b]) } })

/-- The erase that a burst has in progress, past its WAKE. -/
def LibBurst.erasing (b : LibBurst) : Option Nat :=
  match b.req.work, b.ops with
  | .erase x, op :: _ => if op = 0 then none else some x
  | _, _ => none

/-- A burst of the Library controller is cut off (16 R402, Table 16-5): the flash completes its operation, no further one is
issued, and the record keeps no marker. Its Q13 descriptor completes as flushed. -/
def State.cutBurst (s : State) : State :=
  if s.ct.burstOwn then s else
  let ring := s.lib.burst.bind (fun b => b.req.ring)
  let s := s.each (s.lib.burst.bind LibBurst.erasing).toList State.erased
  let s := { s with lib := { s.lib with burst := none }, ct := { s.ct with burst := false } }
  match ring with
  | some i => (s.finishCmd 13 i 0 0x06).haltRing 13 0x06
  | none => s

/-- A seed that was running is abandoned (22 R524): the engines of its Wing run from their data areas with FIRST = 1. -/
def State.seedCut (s : State) : State :=
  match s.dict.seeding with
  | some w =>
    { s with eng := { s.eng with engines := s.eng.engines.mapIdx (fun n (e : Engine) =>
      if engineWing n == w then { e with first := true } else e) } }
  | none => s

/-- The fault epoch increments (20 R480, R481): the record of the discard, and all in-flight work. -/
def State.advanceEpoch (s : State) (reason detail : Nat) : State :=
  let e := (s.fld .RING_EPOCH + 1) % 2 ^ 32
  let s := s.seedCut.setFld .RING_EPOCH 0 e
  let d : DictSt := s.dict
  let s := { s with dict := { d with
    discard := { reason := reason, epoch := e, time := s.tb, detail := detail }
    discards := min (d.discards + 1) (2 ^ 32 - 1)
    groups := d.groups.map Group.settle
    usdo := d.usdo.map (fun (u : UsdoSession) => { u with aborted := true })
    idp := d.idp.map (fun (t : IdpTransfer) => { t with aborted := true })
      ++ (d.groups.flatMap Group.waiters ++ d.seedAskers ++ d.forwards.map (fun (f : Forward) => f.asker)).filterMap Asker.cut
    cache := [], seeding := none, seedAskers := [], forwards := []
    joint := if d.groups.any (fun (p : Group) => p.joint && p.st == GState.validating) then none else d.joint } }
  let s := s.settleRings.cutBurst
  let s := { s with sec := { s.sec with attesting := none } }
  let s := s.each [0, 1, 2, 3] (fun s c => s.endGateway c 0x0F000001)
  s.epochEvent reason

/-- A port fault (19 R466): the epoch advances, and the port is held in local reset until it restarts. -/
def State.portFault (s : State) (p reason detail : Nat) : State :=
  let s := s.advanceEpoch reason detail
  { s with ports := { s.ports with held := setBitTo s.ports.held p true } }

end Sys2Proof.Machine
end

