-- ==== Sys2Proof/Machine/ResetCore.lean ====
section
/-!
DEFINITION. The start of a whole-die reset (01 R42, R43), which supplies, clocks and pins request.
-/
namespace Sys2Proof.Machine

/-- No Wing holds a pass (01 R43): the arbiter revokes it, and every module's OUTEN clears. -/
def State.revokeAll (s : State) : State :=
  let s := s.setFld .HP_STAT_HOLDER 0 0
  let s := (s.setFld .HP_LREM_LREMA 0 0).setFld .HP_LREM_LREMB 0 0
  let s := { s with dup := { s.dup with
    voters := s.dup.voters.map (fun (v : Voter) => { v with leaseA := 0, leaseB := 0 })
    handover := .none, rearm := 0 } }
  s.each (List.range 24) (fun s m => (s.setFld .PWM_RUN_OUTEN m 0).setFld .PWM_STAT_OUTACT m 0)

/-- The fuses take a command's effect (17 R414). The count of a thermometer never falls. -/
def State.program (s : State) (cmd v : Nat) : State :=
  match cmd with
  | 1 | 2 =>
    let s := { s with sec := { s.sec with ownerKeys := s.sec.ownerKeys ++ [v] } }
    s.setFld .SEC_FUSE_OWNERS 0 s.sec.ownerKeys.length
  | 3 => s.setFld .SEC_FUSE_VENDOR_OFF 0 1
  | _ => s.setFld .SEC_FUSE_SVN 0 (max (s.fld .SEC_FUSE_SVN) (min v 128))

/-- A reset or a loss of the main supply ends a running command (17 Table 17-8): the bits programmed so far stand, each of
them whole; which they are is free (assumption log, entry 5). -/
def State.cutSecCommand (s : State) : State :=
  match s.sec.running with
  | none => s
  | some (_, cmd, v) =>
    let (m, s) := s.fresh 256
    let s := match cmd with
      | 1 | 2 => if v &&& m = 0 then s else s.program cmd (v &&& m)
      | 3 => if m % 2 = 1 then s.program cmd v else s
      | _ => s.program cmd (s.fld .SEC_FUSE_SVN + m % (v + 1 - min v (s.fld .SEC_FUSE_SVN)))
    { s.setFld .SEC_CMDST_BUSY 0 0 with sec := { s.sec with running := none } }

/-- What stands in the Wings' ITCM is lost when VCORE fails (03 Table 3-1). What it holds afterwards is assumption log, entry
33. -/
def State.loseItcm (s : State) : State :=
  { s with
    tut := { s.tut with itcm := [] }
    integ := { s.integ with marks := s.integ.marks.filter (fun e => !(0x10 ≤ e.1.1 && e.1.1 < 0x18)) } }

/-- The comparators enter TRIPPED, and routing, TG_FORCE and SEEN take their reset values, at 0 µs (07 R177, Table 7-6). -/
def State.tripsReset (s : State) : State :=
  let s := s.each (List.range 8) (fun s g => s.setFld .TG_ROUTE_PM g 0)
  let s := (s.setFld .TG_FORCE_FORCE 0 0).setFld .TG_STAT_SEEN 0 0
  let s := s.each (List.range 48) (fun s c => s.setFld .WC_CFG_TRIPPED c 1)
  { s with trip := { s.trip with risen := 0, chans := s.trip.chans.map (fun (p : CompChan) =>
    { p with initial := true, seenHi := false, seenLo := false, blanked := false }) } }

/-- Work in progress stops at the reset request (01 Table 1-12): the gate outputs take their reset state, engine runs, Bells,
barriers and the requests of the Library controller end. -/
def State.quiesce (s : State) : State :=
  let s := s.each (List.range 12) (fun s n => s.setFld .LE_STAT_RUNNING n 0)
  { s with
    pwm := {}, gate := { force := s.gate.force }, bell := {}, fab := {}
    eng := { s.eng with engines := s.eng.engines.map (fun (e : Engine) => { e with due := false }) }
    lib := { s.lib with queue := [], refused := [] }
    dup := { s.dup with
      writing := none, chosen := none, restored := false, waking := 0, windowA := none, windowB := none, tkoOpen := false }
    dict := { s.dict with rollCall := none, rollAskers := [], joint := none } }

/-- The reset request is taken (01 Table 1-12, 0 µs): the fault epoch increments with reason 2 and the cause as its
detail, the pass is revoked, the gate outputs fall, a fuse command is cut, the identity seeds are erased, and the Caretaker
captures the timebase (04 R105) and whether PD3 has lost its contents (01 R45). A request during the sequence restarts it. -/
def State.startReset (s : State) (cause : Nat) : State :=
  let lost := cause == 1 || s.rst.vcoreFailed || s.rst.pd3Opened
  let s := (s.advanceEpoch 2 cause).revokeAll.cutSecCommand.quiesce.tripsReset
  let s := s.when (cause == 1 || s.rst.vcoreFailed) State.loseItcm
  { s with
    rst := { s.rst with
      phase := .fuses, cause := cause, satchelLost := lost, pllFailed := 0, rootsFailed := 0, requested := none }
    clk := { s.clk with held := s.tb }
    sec := { s.sec with identity := none } }

end Sys2Proof.Machine
end

