-- ==== Sys2Proof/Machine/Supply.lean ====
section
/-!
DEFINITION. Supplies, power domains and the Caretaker (03).
-/
namespace Sys2Proof.Machine

/-- Fields held in PD0: a whole-die reset keeps them, and a Caretaker cold start gives them their Reset column (03 R93,
04 R114, Table 4-3, 13 R338, 16 R408, 17 R425, 06 R167, 20 R480). -/
def pd0Fields : List Fld :=
  [.CT_STAT_MAIN, .CT_STAT_HARV, .CT_STAT_CELLP, .CT_STAT_CELLON, .CT_STAT_CHG, .CT_STAT_SETFLT, .CT_STAT_CELLLOW,
    .CT_STAT_STFLT, .CT_STAT_COLD, .CT_STAT_REFUSED, .CT_STAT_FINAL, .CT_STAT_LIBOWN, .PWR_STORE_VMAX, .PWR_STORE_VFLOOR,
    .PWR_CELL_ON, .PWR_CELL_OFF, .PWR_CELL_LOW, .PWR_CELL_ILIM, .PWR_CELLQ, .GAUGE_V_VSTORE, .GAUGE_V_VCELL,
    .GAUGE_CAP_CAP, .GAUGE_CAP_LIM, .GAUGE_E, .GAUGE_RSV, .GAUGE_COST_COST, .PWR_MON_DROOPS] ++
  [.CLK_STAT_XIN_LOST, .RTC_SUB_FRAC, .RTC_SUB_RCSRC, .RTC_SEC, .RTC_SECH_SECH, .CT_RCTRIM_EN, .CT_RCTRIM_TRIMMED,
    .BUR_STAT_RESTORED, .BUR_STAT_SPANPEND, .BUR_CTRL_THEFT_EN, .BUR_THEFT, .BUR_TGAIN, .BUR_TQ, .BUR_TSKIP, .MOD_THEFT_GRP, .MOD_THEFT_CHSEL, .LIB_STAT_OCT,
    .LIB_CRES_SAVES, .LIB_CRES_FINALS, .LIB_CRES_FPT, .SEC_PREF_SLOT, .RING_EPOCH, .REP_CNT_USED]

/-- Fields that mirror a pin, a monitor or the store, which a loss of PD0 does not set: their value is the outside's. -/
def pinFields : List Fld :=
  [.CT_STAT_MAIN, .CT_STAT_HARV, .CT_STAT_CELLP, .CT_STAT_CELLON, .CT_STAT_CHG, .CT_STAT_SETFLT, .CT_STAT_CELLLOW,
    .GAUGE_V_VSTORE, .GAUGE_V_VCELL]

/-- The registers without their entries for a list of fields, so that those read as their Reset column. -/
def dropFields (m : SMap) (l : List Fld) : SMap :=
  let nums := l.map Fld.ctorIdx
  m.filter (fun e => !nums.contains e.1.1)

/-- PD0 loses its state (03 Table 3-1): the RTC, the energy accumulators, the gauge, the record of field repairs, the
snapshot number and the fault epoch, which a cold start sets to 0 with no discard recorded (20 R480). -/
def State.losePd0 (s : State) : State :=
  let keep := pd0Fields.filter (fun f => !pinFields.contains f)
  let s := { s with
    regs := dropFields s.regs keep
    clk := { s.clk with rtc := 0, sechHold := 0, coldLoad := true }
    dup := { s.dup with seq := 0, written := 0 }
    integ := { s.integ with repairs := [] }
    dict := { s.dict with discard := { reason := 0, epoch := 0, time := 0, detail := 0 }, discards := 0 }
    bur := { points := s.bur.points }
    ct := { s.ct with burst := false, changed := false, finalArmed := true, reached := false, sram := [] } }
  s.setFld .RING_EPOCH 0 0

/-- A whole-die reset caused by droop is counted and requested (03 R74, Table 3-6). -/
def State.droop (s : State) : State := (s.count .PWR_MON_DROOPS).startReset 4

/-- VCORE_DROOP (03 R74): VCORE below its threshold, or a loss of VANA while running (03 R75): the monitor fails, VCORE
power-good is withheld, and the reset starts. PD3 has lost its contents when the VCORE monitor failed (01 R45). -/
def execVcoreDroop (byVcore : Bool) (s : State) : Out :=
  let s := s.setFld (if byVcore then .PWR_MON_VCORE_OK else .PWR_MON_VANA_OK) 0 0
  let s := s.setFld .CT_STAT_MAIN 0 0
  let s := if byVcore then s else s.setFld .CT_STAT_CHG 0 0
  let s := { s with rst := { s.rst with vcoreFailed := s.rst.vcoreFailed || byVcore },
                    ct := { s.ct with powerGood := false } }
  .next s.droop

/-- VANA_FAIL (03 R74, R75): VANA below 1.62 V for 10 µs withholds VCORE power-good; the charger stops, and while
power-good was released the loss counts as a droop. -/
def execVanaFail (s : State) : Out :=
  let was := s.ct.powerGood
  let s := ((s.setFld .PWR_MON_VANA_OK 0 0).setFld .CT_STAT_MAIN 0 0).setFld .CT_STAT_CHG 0 0
  let s := { s with ct := { s.ct with powerGood := false } }
  .next (s.when was State.droop)

/-- The main supply starts during a window (06 R166, 13 R334): it ends at once and counts as skipped. -/
def State.theftAbort (s : State) : State :=
  let s := s.when s.bur.window (fun s => s.count .BUR_TSKIP)
  { s with bur := { s.bur with window := false, windowClock := false, absent := 0 } }

/-- VSTORE, in 0.1 mV, of a gauge code of 1.5 mV (03 R85). -/
def gaugeVolt (code : Nat) : Nat := 15 * code

/-- The voltage of a PWR_STORE or PWR_CELL code in 0.1 mV (03 R93). -/
def codeVolt (code : Nat) : Nat := 20000 + 200 * code

/-- VSTORE is below the ceiling in force: PWR_STORE.VMAX, or 2.60 V while the Caretaker logic is not running (03 R76, R83). -/
def State.belowCeiling (s : State) : Bool :=
  gaugeVolt (s.fld .GAUGE_V_VSTORE) < (if s.ct.running then codeVolt (s.fld .PWR_STORE_VMAX) else 26000)

/-- A path other than the charger delivers. -/
def State.othersFill (s : State) : Bool := s.flag .CT_STAT_HARV || s.flag .CT_STAT_CELLON

/-- The filling paths follow the ceiling (03 R76, R80, Table 3-5): above it all stop; below it the harvester delivers where its
inputs let it, which keeps the cell path off. A delivery spoils the present rise (03 R84). -/
def State.settlePaths (s : State) : State :=
  let below := s.belowCeiling
  let s := s.setFlag .CT_STAT_HARV 0 (s.ct.harvReady && below)
  let s := s.setFlag .CT_STAT_CELLON 0 (s.flag .CT_STAT_CELLON && below && !s.flag .CT_STAT_HARV)
  let s := s.setFlag .CT_STAT_CHG 0 (s.flag .CT_STAT_CHG && below)
  { s with ct := { s.ct with riseSpoiled := s.ct.riseSpoiled || s.othersFill } }

/-- MAIN_SUPPLY_GOOD (03 R75): with the Caretaker logic running, VCORE power-good is released to the reset logic. -/
def execMainSupplyGood (s : State) : Out :=
  .next (
    let s := s.theftAbort
    let s := ((s.setFld .PWR_MON_VCORE_OK 0 1).setFld .PWR_MON_VANA_OK 0 1).setFld .CT_STAT_MAIN 0 1
    let s := s.when s.belowCeiling (fun s => s.setFld .CT_STAT_CHG 0 1)
    { s with ct := { s.ct with powerGood := s.ct.running } })

/-- VANA_GOOD (13 R334, 06 R166, 03 R70, R83): a theft window ends at once, and the charger delivers below the ceiling. The
main supply is good once VCORE is good too. -/
def execVanaGood (s : State) : Out :=
  .next (
    let s := s.theftAbort.setFld .PWR_MON_VANA_OK 0 1
    let s := s.setFlag .CT_STAT_MAIN 0 (s.flag .PWR_MON_VCORE_OK)
    s.when s.belowCeiling (fun s => s.setFld .CT_STAT_CHG 0 1))

/-- CARETAKER_START (03 R74, R75, R93): PD0 logic starts cold, with its fields at their Reset columns and COLD set; with the
main supply good it releases VCORE power-good. -/
def execCaretakerStart (s : State) : Out :=
  .next (if s.ct.running then s
  else
    let s := s.losePd0
    { s with ct := { s.ct with
      running := true, powerGood := s.flag .PWR_MON_VCORE_OK && s.flag .PWR_MON_VANA_OK } })

/-- CARETAKER_STOP (03 R74, R70): VSTORE below 1.80 V stops PD0 only while VANA is not good; its state is lost and no
Hall Pass can be granted (03 Table 3-1). -/
def execCaretakerStop (s : State) : Out :=
  .next (if s.ct.running && !s.flag .PWR_MON_VANA_OK then
    let s := s.losePd0
    { s with ct := { s.ct with running := false, powerGood := false } }
  else s)

/-- The store is open, shorted or empty while the Caretaker runs from VANA (03 R70): STFLT and an event. -/
def State.storeFault (s : State) : State :=
  if s.ct.running && s.flag .PWR_MON_VANA_OK then (s.setFld .CT_STAT_STFLT 0 1).supplyEvent else s

/-- STORE_FAULT (03 R70). -/
def execStoreFault (s : State) : Out := .next s.storeFault

/-- The switch of a Wing. -/
def pdOn : Wing → Fld
  | .a => .PWR_SW_PD1_ON
  | .b => .PWR_SW_PD2_ON
/-- The overcurrent flag of a Wing's switch. -/
def pdOc : Wing → Fld
  | .a => .PWR_SW_PD1_OC
  | .b => .PWR_SW_PD2_OC
/-- Power good of a Wing's domain. -/
def pdPg : Wing → Fld
  | .a => .PWR_SW_PD1_PG
  | .b => .PWR_SW_PD2_PG

/-- What stands in a Wing's domain is lost with its supply (03 Table 3-1): ITCM, DTCM and the engine memories, the runs and
subscription values of its engines, and what its cores were doing. What the memories hold afterwards is assumption log,
entry 33. -/
def State.losePd (s : State) (w : Wing) : State :=
  let eng (n : Nat) : Bool := n / 6 == w.num
  let bank (m : Nat) : Bool := (0x10 ≤ m && m < 0x18 && (m - 0x10) / 4 == w.num) || (0x18 ≤ m && m < 0x1C && (m - 0x18) / 2 == w.num)
    || (0x20 ≤ m && m < 0x2C && eng (m - 0x20)) || m == 0x2C + w.num
  let core (l : Nat) : Nat := maskOff l (3 * 4 ^ w.num)
  let s := s.each ((List.range 12).filter eng) (fun s n => s.setFld .LE_STAT_RUNNING n 0)
  { s with
    eng := { s.eng with
      mem := s.eng.mem.filter (fun e => !eng e.1.1)
      engines := s.eng.engines.zipIdx.map (fun e => if eng e.2 then {} else e.1) }
    integ := { s.integ with
      marks := s.integ.marks.filter (fun e => !bank e.1.1), deadMem := maskOff s.integ.deadMem (3 * 4 ^ w.num) }
    tut := { s.tut with
      itcm := s.tut.itcm.filter (fun e => e.1.1 != w.num), dtcm := s.tut.dtcm.filter (fun e => e.1.1 != w.num)
      wfi := core s.tut.wfi, halted := core s.tut.halted, takeover := core s.tut.takeover, heldReset := core s.tut.heldReset
      lr := s.tut.lr.zipIdx.map (fun e => if coreWing e.2 == w then none else e.1) } }

/-- A Wing's switch opens (03 R71, R72): the Wing is OFF, its image is lost with its ITCM, and the Wing-level reserve
is zero. -/
def State.openSwitch (s : State) (w : Wing) : State :=
  let s := ((s.setFld (pdOn w) 0 0).setFld (pdPg w) 0 0).losePd w
  let s := s.setWing w .off
  let s := { s with sec := match w with
    | .a => { s.sec with imageA := none }
    | .b => { s.sec with imageB := none } }
  s.standbyReserve false

/-- A written switch bit (03 R71, R72): 0 opens a closed switch; 1 closes an open one whose overcurrent flag is clear. -/
def State.driveSwitch (s : State) (w : Wing) (on : Bool) : State :=
  if !on && s.flag (pdOn w) then s.openSwitch w
  else if on && !s.flag (pdOn w) && !s.flag (pdOc w) then s.setFld (pdOn w) 0 1
  else s

/-- PWR_SW_WRITE (03 R71): discarded with an event if it would open the switch of a Wing that holds the pass, or either
switch in Split mode; otherwise the flags clear where 1 is written and the switches follow. -/
def State.pwrSwWrite (s : State) (pd1 pd2 clr1 clr2 : Bool) : State :=
  let opens (w : Wing) (on : Bool) : Bool := !on && s.flag (pdOn w) && (s.pass w || s.split)
  if opens .a pd1 || opens .b pd2 then s.discarded .caretaker 0x4C000440
  else
    let s := s.when clr1 (fun s => s.setFld .PWR_SW_PD1_OC 0 0)
    let s := s.when clr2 (fun s => s.setFld .PWR_SW_PD2_OC 0 0)
    (s.driveSwitch .a pd1).driveSwitch .b pd2

/-- PWR_SW_WRITE (03 R71). -/
def execPwrSwWrite (core : Nat) (pd1 pd2 clr1 clr2 : Bool) (s : State) : Out :=
  .next (s.accessBlk core .caretaker 0x4C000440 (fun s => s.pwrSwWrite pd1 pd2 clr1 clr2))

/-- WING_POWER_GOOD (03 R71): a closed domain ends its ramp and local reset; the Wing starts in the boot ROM, in BOOT. -/
def execWingPowerGood (w : Wing) (s : State) : Out :=
  .next (if s.flag (pdOn w) && !s.flag (pdPg w) then
    let s := (s.setFld (pdPg w) 0 1).setWing w .boot
    { s with sec := match w with | .a => { s.sec with triedA := [] } | .b => { s.sec with triedB := [] } }
  else s)

/-- SWITCH_OVERCURRENT (03 R72): the switch opens. For PD1 and PD2 the flag is set and an event queued; for PD3, PD5 and
PD6 the opening is a VCORE droop, and for PD6 also a Ports-domain fault (20 R480). -/
def execSwitchOvercurrent (pd : Nat) (s : State) : Out :=
  .next (match pd with
    | 1 => ((s.openSwitch .a).setFld .PWR_SW_PD1_OC 0 1).supplyEvent
    | 2 => ((s.openSwitch .b).setFld .PWR_SW_PD2_OC 0 1).supplyEvent
    | 3 => State.droop { s with rst := { s.rst with pd3Opened := true },
                                ct := { s.ct with intOpen := setBitTo s.ct.intOpen 3 true } }
    | 5 => State.droop { s with ct := { s.ct with intOpen := setBitTo s.ct.intOpen 5 true } }
    | 6 => (State.advanceEpoch { s with ct := { s.ct with intOpen := setBitTo s.ct.intOpen 6 true } } 4 1).droop
    | _ => s)

/-- HARVEST_STATE_CHANGE (03 R76, R78, R79, R80, Table 3-5): with HARV_SET out of range, or VSTORE at the ceiling, the harvester
stays off; while it delivers, the cell path stays off, and the measurement of R84 is spoiled. -/
def execHarvestStateChange (delivering setFault : Bool) (s : State) : Out :=
  let s := s.setFlag .CT_STAT_SETFLT 0 setFault
  .next (State.settlePaths { s with ct := { s.ct with harvReady := delivering && !setFault } })

/-- CELL_PATH_ON (03 R76, R80): the path conducts only below the ceiling, while the harvester does not deliver and a cell is
present. -/
def execCellPathOn (s : State) : Out :=
  .next (if !s.flag .CT_STAT_HARV && s.flag .CT_STAT_CELLP && s.belowCeiling then
    { s.setFld .CT_STAT_CELLON 0 1 with ct := { s.ct with riseSpoiled := true, cellTook := true } }
  else s)

/-- CELL_PATH_OFF (03 R80). -/
def execCellPathOff (s : State) : Out := .next (s.setFld .CT_STAT_CELLON 0 0)

/-- CELL_REMOVED (03 R82, Table 3-5): CELLP clears, the path stops, the count stays, and an event is queued. -/
def execCellRemoved (s : State) : Out :=
  .next ((s.setFld .CT_STAT_CELLP 0 0).setFld .CT_STAT_CELLON 0 0).supplyEvent

/-- CELL_INSERTED (03 R74). -/
def execCellInserted (s : State) : Out := .next (s.setFld .CT_STAT_CELLP 0 1)

/-- STORE_CEILING_REACHED (03 R76): every filling path stops. -/
def execStoreCeilingReached (s : State) : Out :=
  .next (((s.setFld .CT_STAT_HARV 0 0).setFld .CT_STAT_CELLON 0 0).setFld .CT_STAT_CHG 0 0)

/-- STORE_CAP_MEASURED (03 R84): CAP = 9.5 mA × Δt / 0.2 V, in mF, when the charger alone raised the store (assumption log,
entries 35 and 102). -/
def execStoreCapMeasured (dtMs : Nat) (s : State) : Out :=
  let ok := !s.ct.riseSpoiled && !s.othersFill && s.flag .CT_STAT_CHG
  .next (s.when ok (fun s => s.setFld .GAUGE_CAP_CAP 0 (min (dtMs * 475 / 10000) 0xFFFF)))

/-- A PWR_CELL write (03 R93): codes are stored at the nearest end of their range; a write that would make OFF less than
ON + 0.04 V is discarded with an event. -/
def State.pwrCellWrite (s : State) (on off low ilim : Nat) : State :=
  let on := clampNat 0 170 on
  let off := clampNat 0 170 off
  if off < on + 2 then s.discarded .caretaker 0x4C000408
  else (((s.setFld .PWR_CELL_ON 0 on).setFld .PWR_CELL_OFF 0 off).setFld .PWR_CELL_LOW 0 (clampNat 25 95 low)).setFld
    .PWR_CELL_ILIM 0 ilim

/-- PWR_CELL_WRITE (03 R93). -/
def execPwrCellWrite (core on off low ilim : Nat) (s : State) : Out := 
  .next (s.accessBlk core .caretaker 0x4C000408 (fun s => s.pwrCellWrite on off low ilim))

/-- C of the gauge, in mF (03 R85): the smaller of CAP and LIM, taking only those that are not 0. -/
def State.gaugeC (s : State) : Nat :=
  let cap := s.fld .GAUGE_CAP_CAP
  let lim := s.fld .GAUGE_CAP_LIM
  if cap = 0 then lim else if lim = 0 then cap else min cap lim

/-- E_avail in µJ (03 R85): 500 × C × (VSTORE² − VFLOOR²), 0 when VSTORE is at or below VFLOOR. -/
def State.eAvail (s : State) : Nat :=
  let v := gaugeVolt (s.fld .GAUGE_V_VSTORE)
  let f := codeVolt (s.fld .PWR_STORE_VFLOOR)
  if v ≤ f then 0 else min (s.gaugeC * (v * v - f * f) / 200000) (2 ^ 32 - 1)

/-- No path fills the store (03 R90). -/
def State.noFill (s : State) : Bool := !s.flag .CT_STAT_HARV && !s.flag .CT_STAT_CELLON && !s.flag .CT_STAT_CHG

/-- A final record of the Bursar counters is written to a pre-erased slot (03 R89, R90). -/
def State.writeFinal (s : State) : State :=
  { s.setFld .CT_STAT_FINAL 0 1 with
    ct := { s.ct with changed := false }
    lib := { s.lib with finalFree := s.lib.finalFree - 1, finals := s.lib.finals ++ [s.finalPayload] } }

/-- The unprompted final record (03 R90): E_avail has fallen below GAUGE_RSV while no path fills the store, once until the store
has been filled above GAUGE_RSV + COST4 + COST0. With no erased slot nothing is written and the refusal is counted (16
Table 16-6). -/
def State.finalUnprompted (s : State) : State :=
  let e := s.fld .GAUGE_E
  let s := { s with ct := { s.ct with reached := s.ct.reached || s.fld .GAUGE_RSV ≤ e } }
  if s.ct.finalArmed && s.ct.reached && e < s.fld .GAUGE_RSV && s.noFill then
    let s := if 0 < s.lib.finalFree then s.writeFinal else s.count .LIB_REFUSE_REFUSED
    { s with ct := { s.ct with finalArmed := false } }
  else if s.fld .GAUGE_RSV + s.fld .GAUGE_COST_COST 4 + s.fld .GAUGE_COST_COST 0 < e then
    { s with ct := { s.ct with finalArmed := true } }
  else s

/-- A gauge sample (03 R76, R82 to R85, R90, Table 3-5): the newest samples, E_avail, CELLLOW, the charge taken since the last
sample, the filling paths up to the ceiling (the charger while VANA is good), the start of a rise at 2.20 V, an empty store
under VANA, and the unprompted final record. -/
def State.gaugeSample (vstore vcell used : Nat) (s : State) : State :=
  if !s.ct.running then s else
    let s := (s.setFld .GAUGE_V_VSTORE 0 vstore).setFld .GAUGE_V_VCELL 0 vcell
    let s := s.setFlag .CT_STAT_CELLLOW 0 (gaugeVolt (s.fld .GAUGE_V_VCELL) < codeVolt (s.fld .PWR_CELL_LOW))
    let s := s.when s.ct.cellTook (fun s => s.setFld .PWR_CELLQ 0 (min (s.fld .PWR_CELLQ + used) (2 ^ 32 - 1)))
    let s := s.setFlag .CT_STAT_CHG 0 (s.flag .PWR_MON_VANA_OK && s.belowCeiling)
    let s := s.settlePaths
    let s := { s with ct := { s.ct with
      cellTook := s.flag .CT_STAT_CELLON
      riseSpoiled := if gaugeVolt (s.fld .GAUGE_V_VSTORE) < 22000 then s.othersFill else s.ct.riseSpoiled } }
    let s := s.setFld .GAUGE_E 0 s.eAvail
    let s := s.when (gaugeVolt (s.fld .GAUGE_V_VSTORE) < 18000 && !s.flag .CT_STAT_STFLT) State.storeFault
    s.finalUnprompted

/-- The cost of a burst in µJ (03 R88): the sum of its operations' classes. -/
def State.burstCost (s : State) (classes : List Nat) : Nat :=
  classes.foldl (fun a n => a + s.fld .GAUGE_COST_COST n) 0

/-- The reserve of an admission (03 R89): GAUGE_RSV plus COST7 while theft metering is enabled. -/
def State.admReserve (s : State) : Nat :=
  s.fld .GAUGE_RSV + (if s.flag .BUR_CTRL_THEFT_EN then s.fld .GAUGE_COST_COST 7 else 0)

/-- Admission of a burst (03 R89): it starts if E_avail covers its cost and the reserve; otherwise REFUSED, an event,
and one final record if counters have changed, it can be paid for and a pre-erased slot is free. -/
def State.admitBurst (s : State) (classes : List Nat) (byCaretaker : Bool) : State :=
  let e := s.eAvail
  if s.burstCost classes + s.admReserve ≤ e then
    { s with ct := { s.ct with burst := true, burstOwn := byCaretaker } }
  else
    let s := (s.setFld .CT_STAT_REFUSED 0 1).supplyEvent
    s.when (s.ct.changed && s.fld .GAUGE_COST_COST 0 + s.fld .GAUGE_COST_COST 4 ≤ e && 0 < s.lib.finalFree)
      State.writeFinal

/-- A flash found in octal mode is reset by a low pulse of XSPI_RSTN, the only command that drives it low (02 R65, 16 R393). -/
def State.leaveOctal (s : State) : State :=
  s.when (s.flag .LIB_STAT_OCT) (fun s =>
    { s.setFld .LIB_STAT_OCT 0 0 with lib := { s.lib with rstPulses := s.lib.rstPulses + 1 } })

/-- CARETAKER_TAKE_PORT (03 R91, 16 R393): VCORE absent, the Caretaker takes the Library port at single-lane SDR, the
flash reset out of octal mode first. -/
def execCaretakerTakePort (s : State) : Out :=
  .next (if s.ct.running && !s.flag .PWR_MON_VCORE_OK then s.leaveOctal.setFld .CT_STAT_LIBOWN 0 1 else s)

/-- CARETAKER_RELEASE_PORT (03 R92, Table 3-5): with the main supply back, the Caretaker clears LIBOWN once its burst has
ended. -/
def execCaretakerReleasePort (s : State) : Out :=
  .next (if s.flag .CT_STAT_LIBOWN && s.flag .CT_STAT_MAIN && !(s.ct.burst && s.ct.burstOwn) then s.setFld .CT_STAT_LIBOWN 0 0
  else s)

end Sys2Proof.Machine
end

