-- ==== Sys2Proof/Machine/Library.lean ====
section
/-!
DEFINITION. The Library manager (16, 19 R462, R463): areas, records, bursts and their commit, refusals, wear, bad blocks,
refresh, and the Q13 commands.
-/
namespace Sys2Proof.Machine

/-! ### Events -/

/-- A Library event (16 R408). -/
def State.libEvent (s : State) (code area block seq : Nat) : State :=
  s.emit .library (code % 256 + area % 256 * 2 ^ 8 + block % 2 ^ 16 * 2 ^ 16 + seq % 2 ^ 32 * 2 ^ 32 + s.ts * 2 ^ 64)

/-- A Bursar event (13 Table 13-4). -/
def burPayload (code point phases : Nat) (ended : Bool) (extreme duration time : Nat) : Nat :=
  code % 256 + point % 16 * 2 ^ 8 + phases % 8 * 2 ^ 12 + ended.toNat * 2 ^ 15 + min extreme 65535 * 2 ^ 16
    + duration % 2 ^ 32 * 2 ^ 32 + time % 2 ^ 64 * 2 ^ 64

/-- A Bursar event that waits for VCORE where it is absent (13 R330, R335). -/
def State.burLate (s : State) (payload : Nat) : State :=
  if s.flag .PWR_MON_VCORE_OK then s.emit .bursar payload
  else { s with bur := { s.bur with late := s.bur.late ++ [payload] } }

/-- A device-management event (20 Table 20-15). -/
def State.mgmtEvent (s : State) (code g reason entry : Nat) : State :=
  s.emit .ports (code % 256 + g % 256 * 2 ^ 8 + s.groupByte g % 256 * 2 ^ 16 + reason % 256 * 2 ^ 24
    + (s.group g).seq % 2 ^ 32 * 2 ^ 32 + s.ts * 2 ^ 64 + entry % 2 ^ 32 * 2 ^ 96)

/-! ### Blocks -/

/-- The RTC day (16 R396). -/
def State.today (s : State) : Nat := s.clk.rtc / 86400

/-- The Library is SPI NAND. -/
def State.isNand (s : State) : Bool := s.flag .LIB_STAT_NAND

/-- Bytes of an erase unit. -/
def State.blockBytes (s : State) : Nat := 2 ^ s.fld .LIB_GEOM_ERASE_L2

/-- The blocks of an area, oldest first; the head is the last. -/
def State.area (s : State) (a : Nat) : List Nat := s.lib.areas.getD a []

/-- A block belongs to an area. -/
def State.mapped (s : State) (b : Nat) : Bool := s.lib.areas.any (fun l => l.contains b)

/-- The spare pool (16 R395): blocks of no area that are not bad. -/
def State.spares (s : State) : List Nat :=
  (List.range (s.fld .LIB_GEOM_BLOCKS)).filter (fun b => !s.mapped b && !s.lib.bad.contains b)

/-- The block of a list with the lowest erase count. -/
def State.leastWorn (s : State) (l : List Nat) : Option Nat :=
  l.foldl (fun o b => match o with
    | none => some b
    | some x => if s.erases b < s.erases x then some b else some x) none

/-- The block of a list with the highest erase count. -/
def State.mostWorn (s : State) (l : List Nat) : Option Nat :=
  l.foldl (fun o b => match o with
    | none => some b
    | some x => if s.erases x < s.erases b then some b else some x) none

/-- The erased blocks of the spare pool (16 R403). -/
def State.ready (s : State) : List Nat := s.spares.filter (fun b => !s.lib.dirty.contains b)

/-- LIB_CNT1 and LIB_EMAX follow the directory. FULL is set with event 0xA3 when the erased blocks of the pool fall below FREE_MIN
(16 R403). -/
def State.libShow (s : State) (was : Nat) : State :=
  let n := s.ready.length
  let s := (s.setFld .LIB_CNT1_BAD 0 s.lib.bad.length).setFld .LIB_CNT1_SPARE 0 s.spares.length
  let s := s.setFld .LIB_EMAX 0 ((s.lib.erases.map (fun e => e.2)).foldl max 0)
  s.when (n < s.fld .LIB_WL_FREE_MIN && s.fld .LIB_WL_FREE_MIN ≤ was) (fun s =>
    (s.setFld .LIB_STAT_FULL 0 1).libEvent 0xA3 6 0 0)

/-- Block `b` holds no record. -/
def State.blank (s : State) (b : Nat) : Bool := !s.lib.records.any (fun r => r.block == b)

/-- Erases are asked for only above this energy (16 R406); what the admission of one then needs is 03 R89's. -/
def State.mayErase (s : State) : Bool :=
  s.fld .GAUGE_COST_COST (if s.isNand then 6 else 5) + s.fld .GAUGE_RSV ≤ s.eAvail

/-- A block is written today. -/
def State.written (s : State) (b : Nat) : State :=
  { s with lib := { s.lib with days := s.lib.days.set (b, 0) 0 s.today } }

/-- In the map and the records, block `old` is replaced by `new`. -/
def State.remapBlock (s : State) (old new : Nat) : State :=
  let sub (b : Nat) : Nat := if b = old then new else b
  let s := { s with lib := { s.lib with
    areas := s.lib.areas.map (fun (l : List Nat) => l.map sub)
    records := s.lib.records.map (fun (r : LibRecord) => { r with block := sub r.block }) } }
  s.written new

/-! ### Records -/

/-- The stored length of `n` bytes under the page code: 28 parity bytes for every codeword of 1024 (16 R399). -/
def storedLen (n : Nat) : Nat := n + 28 * ((n + 1023) / 1024)

/-- Page programs of a record of `n` bytes with its header (13 R330, 16 R398, R399). -/
def State.recordPages (s : State) (n : Nat) : Nat :=
  if s.isNand then (n + 2 ^ s.fld .LIB_GEOM_PAGE_L2 - 1) / 2 ^ s.fld .LIB_GEOM_PAGE_L2 else (storedLen n + 255) / 256

/-- The space a record takes up to the start of the next one: on NOR its marker follows the parity at a 16-byte boundary,
and records start on pages (16 R398, R400). -/
def State.recordSpace (s : State) (n : Nat) : Nat :=
  if s.isNand then s.recordPages n * 2 ^ s.fld .LIB_GEOM_PAGE_L2
  else ((storedLen n + 15) / 16 * 16 + 16 + 255) / 256 * 256

/-- WAKE where the flash sleeps (03 R88). -/
def State.wakeOps (s : State) : List Nat := if s.ct.flashAsleep then [0] else []

/-- The class of one page program, and that of one erase (03 Table 3-4). -/
def State.progOp (s : State) : Nat := if s.isNand then 2 else 1
def State.eraseOp (s : State) : Nat := if s.isNand then 6 else 5

/-- The operation classes of a record's burst (03 R88): WAKE where the flash sleeps, the programs, and the marker. -/
def State.recordOps (s : State) (n : Nat) : List Nat :=
  s.wakeOps ++ List.replicate (s.recordPages n) s.progOp ++ [3]

/-- The programs that a copy of a block takes: those of the records in it, with their markers. -/
def State.copyOps (s : State) (b : Nat) : List Nat :=
  (s.lib.records.filter (fun r => r.block == b)).flatMap (fun r =>
    List.replicate (s.recordPages (16 + r.payload.length)) s.progOp ++ (if r.marker.isSome then [3] else []))

/-- The operation classes of a burst. -/
def State.workOps (s : State) (r : LibReq) : List Nat :=
  match r.work with
  | .record => s.recordOps (16 + r.payload.length)
  | .erase _ => s.wakeOps ++ [s.eraseOp]
  | .copy old _ _ _ => s.wakeOps ++ s.copyOps old

/-- Log areas of Table 16-2. -/
def isLog (a : Nat) : Bool := 5 ≤ a && a ≤ 7

/-- The half of area 4 that a record goes to (16 R402, Table 16-5): never the half that holds the newest valid set of its
type and group. Its blocks stand in two halves. -/
def State.paramHalf (s : State) (type : Nat) (payload : List Nat) : Nat :=
  let l := s.area 4
  let k := l.length / 2
  let newest := s.lib.records.reverse.find? (fun r =>
    r.area == 4 && r.type == type && r.payload.head? == payload.head? && r.valid)
  match newest with
  | some r => if (l.take k).contains r.block then l.getD k 0 else l.getD 0 0
  | none => l.getD 0 0

/-- The oldest block of a log area, erased, becomes its head (16 R397). -/
def State.rotate (s : State) (a : Nat) : State :=
  match s.area a with
  | [] => s
  | b :: r => { s with lib := { s.lib with areas := s.lib.areas.set a (r ++ [b]), used := s.lib.used.set a 0 } }

/-- The block that must be erased before a record of a log area finds room (16 R397). -/
def State.eraseFirst (s : State) (r : LibReq) : Option Nat :=
  let oldest := (s.area r.area).head?.getD 0
  if r.work = .record && isLog r.area && !(s.area r.area).isEmpty
      && !(s.lib.used.getD r.area 0 + s.recordSpace (16 + r.payload.length) ≤ s.blockBytes) && !s.blank oldest then some oldest
  else none

/-- Where a record of an area goes and the state that has made room for it; nothing where there is no room: no erased block, or
an area 6 that stops while the pool is short (16 R403). -/
def State.placeRecord (s : State) (r : LibReq) : Option (Nat × State) :=
  let n := 16 + r.payload.length
  if (s.area r.area).isEmpty || (r.area == 6 && s.flag .LIB_STAT_FULL) then none
  else if isLog r.area then
    let space := s.recordSpace n
    let fits := s.lib.used.getD r.area 0 + space ≤ s.blockBytes
    if (s.eraseFirst r).isSome then none
    else
      let s := if fits then s else s.rotate r.area
      let s := { s with lib := { s.lib with used := modAt s.lib.used r.area 0 (fun u => u + space) } }
      let b := (s.area r.area).getLast?.getD 0
      some (b, s.written b)
  else if r.area == 4 then
    let b := s.paramHalf r.type r.payload
    some (b, s.written b)
  else if r.area == 0 then
    let b := (s.area 0).getD (match s.lib.dirBlock with | some 0 => 1 | _ => 0) 0
    some (b, s.written b)
  else
    let b := (s.area r.area).head?.getD 0
    some (b, s.written b)

/-! ### Bursts -/

/-- A burst is refused (16 R406): counted, with event 0xA5, kept for the next gauge sample among up to 64, a newer Bursar
save in place of an older one; a Wing's descriptor completes with ERRCODE 0x07 (19 Table 19-3). A refused save sets
SAVEREF and queues event 0x77 once VCORE is present (13 R330). -/
def State.refuseBurst (s : State) (r : LibReq) : State :=
  let s := s.setFld .CT_STAT_REFUSED 0 1
  let s := (s.count .LIB_REFUSE_REFUSED).libEvent 0xA5 r.area 0 0
  let save := r.area == 7 && r.type == 0x30
  let kept := s.lib.refused.filter (fun x => !(save && x.area == 7 && x.type == 0x30))
  let s := if kept.length < 64 then
      { s with lib := { s.lib with refused := kept ++ [{ r with again := true, ring := none }] } }
    else s
  let s := match r.ring with
    | some i => s.finishCmd 13 i 0 0x07
    | none => s
  let g := r.payload.getD 0 0
  let s := s.when (r.area == 4 && r.type == 0x02 && g < 14 && !r.again) (fun s => s.mgmtEvent 0x24 g 0 0)
  s.when (save && !r.again) (fun s =>
    (s.setFld .BUR_STAT_SAVEREF 0 1).burLate (burPayload 0x77 0 0 false 0 0 (s.clk.rtc % 2 ^ 48)))

/-- The store covers a burst and the reserve (03 R89). -/
def State.covers (s : State) (ops : List Nat) : Bool := s.burstCost ops + s.admReserve ≤ s.eAvail

/-- A burst that can be placed and admitted starts (16 R398, R402): its record takes its header and payload, with the
marker still erased; otherwise it is refused. -/
def State.startRecord (s : State) (r : LibReq) (byCaretaker : Bool) : State :=
  match s.placeRecord r with
  | none => s.refuseBurst r
  | some (b, s') =>
    let ops := s.workOps r
    if s.covers ops then
      let s := s'.admitBurst ops byCaretaker
      let s := s.when byCaretaker (fun s => s.leaveOctal.setFld .CT_STAT_LIBOWN 0 1)
      let seq := s.lib.seqs.getD r.area 0
      let rec0 : LibRecord :=
        { area := r.area, type := r.type, seq := seq, time := s.clk.rtc % 2 ^ 32, payload := r.payload, block := b }
      { s with lib := { s.lib with
        records := s.lib.records ++ [rec0]
        seqs := s.lib.seqs.set r.area ((seq + 1) % 2 ^ 32)
        burst := some { req := r, seq := seq, block := b, ops := ops }
        lastClient := r.client } }
    else (s.admitBurst ops byCaretaker).refuseBurst r

/-- A burst that erases or copies block `b` starts if it is admitted (03 R89); otherwise it is refused. The block that a copy
fills is no longer erased. -/
def State.startWork (s : State) (r : LibReq) (b : Nat) : State :=
  let ops := s.workOps r
  if s.covers ops then
    let s := s.admitBurst ops false
    let fills : List Nat := match r.work with | .copy _ new _ _ => [new] | _ => []
    { s with lib := { s.lib with
      dirty := fills ++ s.lib.dirty
      burst := some { req := r, seq := 0, block := b, ops := ops }
      lastClient := r.client } }
  else (s.admitBurst ops false).refuseBurst r

/-- The burst of a request starts or is refused. A record that needs an erased block waits at the front of the queue for an erase
of its own, which the Caretaker never makes (03 R91, 16 R397) and which is not asked for below its energy (16 R406). -/
def State.startBurst (s : State) (r : LibReq) (byCaretaker : Bool) : State :=
  match r.work with
  | .erase b => if byCaretaker || !s.mayErase then { s with lib := { s.lib with refused := s.lib.refused ++ [r] } } else s.startWork r b
  | .copy _ new _ _ => if byCaretaker then { s with lib := { s.lib with refused := s.lib.refused ++ [r] } } else s.startWork r new
  | .record =>
    match s.eraseFirst r with
    | none => s.startRecord r byCaretaker
    | some b =>
      let e : LibReq := { client := 1, area := r.area, type := 0, payload := [], work := .erase b }
      if byCaretaker || !s.mayErase || !s.covers (s.workOps e) then s.refuseBurst r
      else State.startWork { s with lib := { s.lib with queue := r :: s.lib.queue } } e b

/-- The request to serve next: the lowest client index, then rotating (19 R463, 01 R24). -/
def nextReq (last : Nat) (l : List LibReq) : Option LibReq :=
  l.foldl (fun o r => match o with
    | none => some r
    | some x => if (r.client + 5 - last) % 6 < (x.client + 5 - last) % 6 then some r else some x) none

/-- The list without the first occurrence of a request. -/
def dropReq (r : LibReq) : List LibReq → List LibReq
  | [] => []
  | x :: l => if x = r then l else x :: dropReq r l

/-- Waiting bursts are served in order, until one starts (16 R402). While VCORE is present the controller serves them,
otherwise the Caretaker, which writes only the records of area 7 (03 R91). -/
def State.serveN : Nat → State → State
  | 0, s => s
  | n + 1, s =>
    let ct := !s.flag .PWR_MON_VCORE_OK
    let usable := s.flag .LIB_STAT_READY && s.flag .LIB_CTRL_EN && !s.ct.burst && s.lib.burst.isNone &&
      (ct == s.flag .CT_STAT_LIBOWN || ct)
    let held (r : LibReq) : Bool := r.work = .record && (s.area r.area).any (fun b => s.lib.failing.contains b)
    let l := s.lib.queue.filter (fun r => (!ct || (r.area == 7 && r.work = .record)) && !held r)
    if !usable then s else
    match nextReq s.lib.lastClient l with
    | none => s
    | some r =>
      let s := { s with lib := { s.lib with queue := dropReq r s.lib.queue } }
      (s.startBurst r ct).serveN n

/-- Waiting bursts are served. -/
def State.serve (s : State) : State := s.serveN s.lib.queue.length

/-- A client asks for a record (19 R463). -/
def State.libSubmit (s : State) (r : LibReq) : State :=
  State.serve { s with lib := { s.lib with queue := s.lib.queue ++ [r] } }

/-- Some request for an erase of the block waits or runs. -/
def State.erasing (s : State) (b : Nat) : Bool :=
  (s.lib.queue ++ s.lib.refused ++ (s.lib.burst.map (fun b => b.req)).toList).any (fun r => r.work = .erase b)

/-- The manager asks for the erase of a block (03 R89, 16 R406). -/
def State.askErase (s : State) (a b : Nat) : State :=
  if s.erasing b || !s.mayErase then s
  else s.libSubmit { client := 1, area := a, type := 0, payload := [], work := .erase b }

/-- The manager asks for a copy of a block to a spare one. -/
def State.askCopy (s : State) (a old new : Nat) (refresh bad : Bool) : State :=
  s.libSubmit { client := 1, area := a, type := 0, payload := [], work := .copy old new refresh bad }

/-- The controller keeps erased save spaces ahead of the head of area 7 and erased final slots, and erases what the pool holds
(16 R397, R403). -/
def State.libPrepare (s : State) : State :=
  let was := s.ready.length
  let l := s.area 7
  let blanks := (l.dropLast.filter s.blank).length
  let ahead := (blanks * s.blockBytes + (s.blockBytes - s.lib.used.getD 7 0)) / s.recordSpace (16 + s.savePayload.length)
  let s := s.when (ahead < s.fld .LIB_CRES_SAVES) (fun s =>
    s.each (l.dropLast.find? (fun b => !s.blank b)).toList (fun s b => s.askErase 7 b))
  let s := s.when (s.lib.finalFree < s.fld .LIB_CRES_FINALS && s.slotsPerBlock ≤ s.lib.finals.length) (fun s =>
    s.each (s.area 8).head?.toList (fun s b => s.askErase 8 b))
  let s := s.each (s.spares.find? (fun b => s.lib.dirty.contains b)).toList (fun s b => s.askErase 9 b)
  s.libShow was

/-- A record of the Bursar or the Caretaker for area 7 or the event log ring. -/
def State.libRecord (s : State) (client area type : Nat) (payload : List Nat) : State :=
  s.libSubmit { client := client, area := area, type := type, payload := payload }

/-- The directory as its record holds it (16 R396): of every block its place, erase count and day. -/
def State.directory (s : State) : List Nat :=
  (List.range (s.fld .LIB_GEOM_BLOCKS)).flatMap (fun b =>
    [if s.lib.bad.contains b then 10 else (s.lib.areas.findIdx? (fun l => l.contains b)).getD 9]
      ++ leBytes 4 (s.erases b) ++ leBytes 2 (s.lib.days.get (b, 0) 0))

/-- A directory update is asked for, with the remap that its commit makes (16 R396). -/
def State.dirUpdate (s : State) (remap : Option (Nat × Nat)) (refresh : Bool) : State :=
  s.libSubmit { client := 1, area := 0, type := 0x00, payload := s.directory, remap := remap, refresh := refresh }

/-- A record of the burst that runs, changed by `f`. -/
def State.modBurstRecord (s : State) (b : LibBurst) (f : LibRecord → LibRecord) : State :=
  { s with lib := { s.lib with records := s.lib.records.map (fun r =>
    if r.area == b.req.area && r.seq == b.seq && r.marker.isNone then f r else r) } }

/-- A block enters the bad-block table with event 0xA1 (16 R404). -/
def State.markBad (s : State) (a b seq : Nat) : State :=
  let was := s.ready.length
  let s := { s with lib := { s.lib with
    bad := s.lib.bad ++ [b], failing := s.lib.failing.filter (fun x => x != b), dirty := s.lib.dirty.filter (fun x => x != b) } }
  (s.libEvent 0xA1 a b seq).libShow was

/-- Block `b` of an area is found bad (16 R404): a copy of its content to a spare block is asked for; without a spare a log area
shrinks, and a static area's write fails with event 0xA4. A block of the pool goes to the table at once. -/
def State.badBlock (s : State) (a b seq : Nat) : State :=
  let s := s.count .LIB_CNT0_BADNEW
  if !s.mapped b then s.markBad a b seq
  else match s.leastWorn s.ready with
    | some n => State.askCopy { s with lib := { s.lib with failing := b :: s.lib.failing } } a b n false true
    | none =>
      if isLog a then
        State.markBad { s with lib := { s.lib with
          areas := s.lib.areas.map (fun (l : List Nat) => l.filter (fun x => x != b))
          records := s.lib.records.filter (fun r => r.block != b) } } a b seq
      else s.libEvent 0xA4 a b seq

/-- A program or an erase of the burst has failed (16 R404): its block is bad. A record that was being programmed waits to be
written again at the head, or fails for want of a spare; another copy is asked for where the block to be filled failed. -/
def State.operationFails (s : State) (b : LibBurst) : State :=
  let a := b.req.area
  let past (s : State) : State := { s with lib := { s.lib with burst := some { b with ops := [] } } }
  match b.req.work with
  | .erase _ => (past s).badBlock a b.block 0
  | .copy old new refresh bad =>
    let s := (past s).badBlock a new 0
    s.each (s.leastWorn s.ready).toList (fun s n => s.askCopy a old n refresh bad)
  | .record =>
    let s := { s with lib := { s.lib with
      records := s.lib.records.filter (fun r => !(r.area == a && r.seq == b.seq && r.marker.isNone))
      seqs := s.lib.seqs.set a b.seq } }
    let s := (past s).badBlock a b.block b.seq
    if s.lib.bad.contains b.block || s.lib.failing.contains b.block then
      { s with lib := { s.lib with queue := b.req :: s.lib.queue } }
    else match b.req.ring with
      | some i => s.finishCmd 13 i 0 0x07
      | none => s

/-- The last operation of an erase or a copy has completed (16 R397, R403 to R405): the block is erased; a refresh or relocation
asks for its directory record; the content of a bad block stands in its place at once, and the directory follows. -/
def State.workDone (s : State) (b : LibBurst) : State :=
  let was := s.ready.length
  match b.req.work with
  | .record => s
  | .erase x => (s.erased x).libShow was
  | .copy old new refresh bad =>
    if !bad then s.dirUpdate (some (old, new)) refresh
    else
      let s := s.remapBlock old new
      let s := { s with lib := { s.lib with dirty := s.lib.dirty.filter (fun x => x != new) } }
      (s.markBad b.req.area old b.seq).dirUpdate none false

/-- FLASH_OPERATION_COMPLETE (16 R402, R404): the next operation of the burst is issued, and the last one of an erase or a copy
ends it; a failed program or erase makes its block bad. A record's marker completes as RECORD_COMMIT. With VIO4 absent no operation
reaches the flash (02 R55). -/
def execFlashOperationComplete (ok : Bool) (s : State) : Out :=
  let ok := ok && s.bankOn 4
  .next (match s.lib.burst with
    | none => s
    | some b =>
      match b.ops with
      | op :: rest =>
        if op == 3 && b.req.work = .record then s
        else if !ok && op != 0 then s.operationFails b
        else
          let s := { s with lib := { s.lib with burst := some { b with ops := rest } } }
          s.when rest.isEmpty (fun s => s.workDone b)
      | [] => s)

/-- Blocks due for a refresh (16 R405): last written REFRESH_DAYS ago or earlier, or read with too many corrections. -/
def State.refreshDue (s : State) : List Nat :=
  ((List.range 9).filter (fun a => a != 0)).flatMap (fun a => (s.area a).filter (fun b =>
    s.lib.worn.contains b || (!s.blank b && s.lib.days.get (b, 0) 0 + s.fld .LIB_RET_REFRESH_DAYS ≤ s.today)))

/-- The next block due is copied through the code to a spare block, which its directory record will map (16 R405). -/
def State.refreshNext (s : State) : State :=
  match s.refreshDue.head?, s.leastWorn s.ready with
  | some b, some n => (s.setFld .LIB_STAT_REFRESHING 0 1).askCopy 0 b n true false
  | _, _ => s.setFld .LIB_STAT_REFRESHING 0 0

/-- LIBRARY_REFRESH (16 R405): only while the main supply is good. -/
def execLibraryRefresh (s : State) : Out :=
  .next (if s.flag .LIB_STAT_READY && s.flag .LIB_CTRL_EN && s.flag .CT_STAT_MAIN && !s.flag .LIB_STAT_REFRESHING then
    s.libPrepare.refreshNext
  else s)

/-- WEAR_LEVEL_RELOCATE (16 R403): a block of a static area or of the directory that lags LIB_EMAX by more than WL_DIFF is
copied to the spare block with the highest count, which its directory record will map. -/
def execWearLevelRelocate (s : State) : Out :=
  .next (if s.flag .LIB_STAT_READY && s.flag .LIB_CTRL_EN && s.flag .CT_STAT_MAIN then
    let lag := [0, 1, 2, 3].flatMap (fun a => (s.area a).filter (fun b =>
      s.erases b + s.fld .LIB_WL_WL_DIFF < s.fld .LIB_EMAX))
    match lag.head?, s.mostWorn s.ready with
    | some b, some n => s.askCopy 0 b n false false
    | _, _ => s
  else s)

/-- What a committed record does (16 R396, R403, R405; 13 Table 13-7; 20 R492). -/
def State.committed (s : State) (b : LibBurst) : State :=
  if b.req.area == 0 then
    let was := s.ready.length
    let s := { s with lib := { s.lib with dirBlock := some (match s.lib.dirBlock with | some 0 => 1 | _ => 0) } }
    match b.req.remap with
    | none => s.libShow was
    | some (old, new) =>
      let s := s.remapBlock old new
      let s := { s with lib := { s.lib with
        worn := s.lib.worn.filter (fun x => x != old), dirty := old :: s.lib.dirty.filter (fun x => x != new) } }
      let s := (s.libShow was).askErase 9 old
      if b.req.refresh then
        let s := { s with lib := { s.lib with fresh := new :: s.lib.fresh } }
        (s.count .LIB_REF).refreshNext
      else s
  else if b.req.area == 7 && b.req.type == 0x30 then s.setFld .BUR_LASTSV 0 (ofLe (b.req.payload.take 4))
  else if b.req.type == 0x02 && b.req.payload.getD 0 0 < 14 then
    let g := b.req.payload.getD 0 0
    let s := { s with dict := { s.dict with unstored := s.dict.unstored.filter (fun x => x != g) } }
    (s.modGroup g (fun p => { p with unstored := false })).mgmtEvent 0x23 g 0 0
  else s

/-- RECORD_COMMIT (16 R400, R402): the marker's program completes, with four copies of the CRC, and the record counts. -/
def execRecordCommit (s : State) : Out :=
  .next (match s.lib.burst with
    | some b =>
      if b.ops == [3] && b.req.work = .record then
        let s := s.modBurstRecord b (fun r => { r with marker := some (List.replicate 4 (crc32 r.bytes)) })
        let s := { s with lib := { s.lib with burst := some { b with ops := [] } } }
        let s := match b.req.ring with
          | some i => s.finishCmd 13 i (16 + b.req.payload.length) 0
          | none => s
        s.committed b
      else s
    | none => s)

/-- The Library's copy of the record: the entries of its repair records in order. -/
def State.repairCopy (s : State) : List Nat :=
  (s.lib.records.filter (fun r => r.area == 4 && r.type == 0x03 && r.valid)).map (fun r => ofLe r.payload)

/-- The manager appends each new entry to its copy (15 R383). -/
def State.copyRepairs (s : State) : State :=
  let mine (l : List LibReq) : Nat := (l.filter (fun r => r.area == 4 && r.type == 0x03)).length
  let n := s.repairCopy.length + mine s.lib.queue + mine s.lib.refused +
    (match s.lib.burst with | some b => mine [b.req] | none => 0)
  s.each (s.integ.repairs.drop n) (fun s e => s.libRecord 5 4 0x03 (leBytes 8 e))

/-- BURST_COMPLETE (03 R89): the burst that runs has ended, and the next waiting one is served. A burst runs to its end:
one with operations left does not end. The flash sleeps again (assumption log, entry 103). -/
def execBurstComplete (s : State) : Out :=
  .next (match s.lib.burst with
    | some b =>
      if b.ops.isEmpty then
        State.copyRepairs (State.serve { s with
          lib := { s.lib with burst := none }, ct := { s.ct with burst := false, burstOwn := false, flashAsleep := true } })
      else s
    | none => State.serve { s with ct := { s.ct with burst := false, burstOwn := false, flashAsleep := true } })

/-- What the Caretaker issues (03 R91): WAKE, record programs with their marker, and FINAL; never an erase. -/
def caretakerMay (classes : List Nat) : Bool := classes.all (fun n => n != 5 && n != 6 && n != 7)

/-- ADMISSION_REQUEST (03 R89, R91, R92): the Library controller asks while VCORE is present, and the Caretaker, which then holds
the port, while it is absent; only one burst runs. Waiting bursts of the Library come first; otherwise a burst of the given
classes. -/
def execAdmissionRequest (classes : List Nat) (byCaretaker : Bool) (s : State) : Out :=
  .next (if s.ct.burst || byCaretaker == s.flag .PWR_MON_VCORE_OK || !s.ct.running then s
  else if s.lib.queue.isEmpty then
    if byCaretaker && !caretakerMay classes then s else
    let s := s.admitBurst classes byCaretaker
    if s.ct.burst then s.when byCaretaker (fun s => s.leaveOctal.setFld .CT_STAT_LIBOWN 0 1)
    else (s.count .LIB_REFUSE_REFUSED).libEvent 0xA5 0 0 0
  else s.serve)

/-- GAUGE_SAMPLE (03 R85, 16 R406): the gauge, and refused bursts ask again. -/
def execGaugeSample (vstore vcell used : Nat) (s : State) : Out :=
  let s := State.gaugeSample vstore vcell used s
  .next (State.copyRepairs (State.serve { s with lib := { s.lib with queue := s.lib.refused ++ s.lib.queue, refused := [] } }))

/-! ### The Q13 commands (19 R462) -/

/-- The command block and data of a taken Q13 or Q14 descriptor: OP, ARG, SEQ and the data. -/
def State.command (s : State) (d : Desc) : Option (Nat × Nat × Nat × List Nat) :=
  (s.satRead d.addr d.len).map (fun l => (l.getD 0 0, ofLe ((l.drop 1).take 3), ofLe ((l.drop 4).take 4), l.drop 16))

/-- The client index of the Wing that owns Q13 (19 R463). -/
def State.wingClient (s : State) : Nat := if s.ringOwners 13 == [.b] then 3 else 2

/-- LIB_APPEND_RECORD (19 R462): OP 1, TYPE in ARG[15:8], the area in ARG[7:0]. A Library that is not usable or has no such
area refuses. A buffer that reads as poison completes with ERRCODE 0x01. -/
def execLibAppendRecord (idx : Nat) (s : State) : Out :=
  .next (match s.takenDesc 13 idx with
    | none => s
    | some d =>
      match s.command d with
      | none => s.finishCmd 13 idx d.len 0x01
      | some (op, arg, _, data) =>
        if op != 1 then s
        else if !s.flag .LIB_STAT_READY || (s.area (arg % 256)).isEmpty then s.finishCmd 13 idx 0 0x07
        else s.libSubmit
          { client := s.wingClient, area := arg % 256, type := arg / 256 % 256, payload := data, ring := some idx })

/-- A record is read, with the bit errors found in each of its codewords (16 R399, R405): more than 16 make it
uncorrectable, with event 0xA0; more than REF_BITS mark its block for refresh, or make it bad directly after one. -/
def State.readRecord (s : State) (idx : Nat) (d : Desc) (r : LibRecord) (errs : List Nat) : State :=
  let errs := if s.bankOn 4 then errs else [17]
  let s := s.each errs (fun s e =>
    if e = 0 then s else if e ≤ 16 then s.count .LIB_CNT0_CORRCW
    else (s.count .LIB_CNT0_UNCORR).setFld .LIB_STAT_UNCORR 0 1)
  let many := errs.any (fun e => decide (s.fld .LIB_RET_REF_BITS < e))
  let s := if many then
      if s.lib.fresh.contains r.block then s.badBlock r.area r.block r.seq
      else { s with lib := { s.lib with worn := r.block :: s.lib.worn.filter (fun x => x != r.block) } }
    else s
  let s := { s with lib := { s.lib with fresh := s.lib.fresh.filter (fun x => x != r.block) } }
  if errs.any (fun e => decide (16 < e)) then
    let s := { s with lib := { s.lib with records := s.lib.records.map (fun (x : LibRecord) =>
      if x.area == r.area && x.seq == r.seq then { x with lost := true } else x) } }
    (s.libEvent 0xA0 r.area r.block r.seq).finishCmd 13 idx 0 0x07
  else
    let (ok, s) := s.satWrite (d.addr + 16) r.payload
    if ok then s.finishCmd 13 idx (16 + r.payload.length) 0 else s.finishCmd 13 idx 0 0x01

/-- A read command of Q13: the record that `pick` chooses from the area and TYPE of ARG and from SEQ. -/
def State.readCommand (s : State) (idx op : Nat) (errs : List Nat) (pick : Nat → Nat → Nat → Option LibRecord) : State :=
  match s.takenDesc 13 idx with
  | none => s
  | some d =>
    match s.command d with
    | none => s.finishCmd 13 idx d.len 0x01
    | some (o, arg, seq, _) =>
      if o != op then s
      else if !s.flag .LIB_STAT_READY then s.finishCmd 13 idx 0 0x07
      else match pick (arg % 256) (arg / 256 % 256) seq with
        | none => s.finishCmd 13 idx 0 0x07
        | some r =>
          let s := s.setFld .LIB_STAT_OCT 0 0
          if d.len < 16 + r.payload.length then s.finishCmd 13 idx 0 0x04 else s.readRecord idx d r errs

/-- LIB_READ_RECORD (19 R462): OP 2 reads the record SEQ of the area. -/
def execLibReadRecord (idx : Nat) (errs : List Nat) (s : State) : Out :=
  .next (s.readCommand idx 2 errs (fun a _ seq =>
    s.lib.records.reverse.find? (fun r => r.area == a && r.seq == seq && r.valid)))

/-- LIB_READ_NEWEST (19 R462): OP 3 reads the newest record of the TYPE. -/
def execLibReadNewest (idx : Nat) (errs : List Nat) (s : State) : Out :=
  .next (s.readCommand idx 3 errs (fun a t _ => s.newestRecord a t))

/-! ### The start of the Library -/

/-- A device of Table 16-1. -/
def supportedFlash (nand : Bool) (pageL2 eraseL2 blocks : Nat) : Bool :=
  if nand then (pageL2 == 11 || pageL2 == 12) && 2 ^ 27 ≤ blocks * 2 ^ eraseL2 && blocks * 2 ^ eraseL2 ≤ 2 ^ 31
  else pageL2 == 8 && eraseL2 == 16 && 1024 ≤ blocks && blocks ≤ 16384

/-- The controller reads SFDP and the directory (16 R392, R393, R396): LIB_GEOM is filled, octal mode is left, and READY
follows a supported device with a valid directory copy. -/
def State.libInit (s : State) (supported nand : Bool) (pageL2 eraseL2 blocks : Nat) (dir : List (Nat × Nat × Nat × Nat))
    (recs : List (Nat × Nat × Nat × Nat × List Nat)) (finals : List (List Nat)) : State :=
  let s := s.leaveOctal.setFld .LIB_STAT_READY 0 0
  if !(supported && supportedFlash nand pageL2 eraseL2 blocks) || !s.flag .LIB_CTRL_EN || s.domainHeld 4 then s else
  let s := (((s.setFld .LIB_GEOM_PAGE_L2 0 pageL2).setFld .LIB_GEOM_ERASE_L2 0 eraseL2).setFld .LIB_GEOM_BLOCKS 0 blocks).setFlag
    .LIB_STAT_NAND 0 nand
  let s := if s.lib.dirBlock.isSome || dir.isEmpty then s else
    let areas := (List.range 9).map (fun a => (dir.filter (fun e => e.2.1 == a)).map (fun e => e.1))
    let per := if nand then 2 ^ eraseL2 / 2 ^ pageL2 else 2 ^ eraseL2 / 64
    let mk (e : Nat × Nat × Nat × Nat × List Nat) : LibRecord :=
      let r : LibRecord := { area := e.1, type := e.2.1, seq := e.2.2.1, time := e.2.2.2.1, payload := e.2.2.2.2,
                             block := (areas.getD e.1 []).getLast?.getD 0 }
      { r with marker := some (List.replicate 4 (crc32 r.bytes)) }
    let next (a : Nat) : Nat := ((recs.filter (fun e => e.1 == a)).map (fun e => (e.2.2.1 + 1) % 2 ^ 32)).getLast?.getD 0
    { s with lib := { s.lib with
      areas := areas
      erases := dir.foldl (fun m e => m.set (e.1, 0) 0 e.2.2.1) []
      days := dir.foldl (fun m e => m.set (e.1, 0) 0 e.2.2.2) []
      bad := (dir.filter (fun e => e.2.1 == 10)).map (fun e => e.1)
      records := recs.map mk, finals := finals, seqs := (List.range 9).map next, dirBlock := some 0
      finalFree := (areas.getD 8 []).length * per - finals.length } }
  if s.lib.dirBlock.isNone then s
  else ((s.setFld .LIB_STAT_READY 0 1).libShow s.ready.length).serve

end Sys2Proof.Machine
end

