-- ==== Sys2Proof/Machine/Carrier.lean ====
section
/-!
DEFINITION. The carrier of a PWM module: its waveform words, the instants of its events within a period, the command
rules at an instant, and the time to the next change of a command (08 R188 to R194, R199, Table 8-2).
-/
namespace Sys2Proof.Machine

/-- Module `m` beside its registers. -/
def State.pm (s : State) (m : Nat) : PwmMod := s.pwm.mods.getD m {}

/-- Module `m` changed by `f`. -/
def State.modPm (s : State) (m : Nat) (f : PwmMod → PwmMod) : State :=
  { s with pwm := { s.pwm with mods := modAt s.pwm.mods m {} f } }

/-! ### Waveform words -/

/-- The low halves of the shadow words. -/
def shdLow : Nat → Fld
  | 0 => .PWM_SHD0L | 1 => .PWM_SHD1L | _ => .PWM_SHD2L
/-- The high halves of the shadow words. -/
def shdHigh : Nat → Fld
  | 0 => .PWM_SHD0H | 1 => .PWM_SHD1H | _ => .PWM_SHD2H
/-- The low halves of the active words. -/
def actLow : Nat → Fld
  | 0 => .PWM_ACT0L | 1 => .PWM_ACT1L | _ => .PWM_ACT2L
/-- The high halves of the active words. -/
def actHigh : Nat → Fld
  | 0 => .PWM_ACT0H | 1 => .PWM_ACT1H | _ => .PWM_ACT2H

/-- Shadow word `w` of module `m`. -/
def State.shd (s : State) (m w : Nat) : Nat := s.fld (shdLow w) m + s.fld (shdHigh w) m * 2 ^ 32

/-- Active word `w` of module `m`. -/
def State.act (s : State) (m w : Nat) : Nat := s.fld (actLow w) m + s.fld (actHigh w) m * 2 ^ 32

/-- Active word `w` takes `v`. -/
def State.setAct (s : State) (m w v : Nat) : State := (s.setFld (actLow w) m v).setFld (actHigh w) m (v / 2 ^ 32)

/-- A shadow word as it is stored (08 Table 8-5): reserved bits read 0, PER is at least 16, a delay at most 2 µs. -/
def shdStored (w v : Nat) : Nat :=
  match w with
  | 0 => bits v 0 27 + bits v 32 27 * 2 ^ 32
  | 1 => max 16 (bits v 0 20) + bits v 20 40 * 2 ^ 20
  | _ => min 163840 (bits v 0 18) + min 163840 (bits v 32 18) * 2 ^ 32

/-- CMPA or CMPB in force. -/
def State.cmp (s : State) (m : Nat) (b : Bool) : Nat := bits (s.act m 0) (if b then 32 else 0) 27
/-- The period value in force. -/
def State.per (s : State) (m : Nat) : Nat := bits (s.act m 1) 0 20
/-- TCMP0 or TCMP1 in force. -/
def State.tcmp (s : State) (m which : Nat) : Nat := bits (s.act m 1) (20 + 20 * which) 20
/-- The turn-on delay of a side in force, in taps. -/
def State.ton (s : State) (m : Nat) (low : Bool) : Nat := bits (s.act m 2) (if low then 32 else 0) 18
/-- MINPW in taps. -/
def State.minpw (s : State) (m : Nat) : Nat := s.fld .PWM_MINPW_MINPW m * 128

/-! ### Instants within a period -/

/-- Ticks of one period (08 Table 8-1); counting mode 0b11 counts as up. -/
def periodTicks (mode per : Nat) : Nat := if mode = 2 then 2 * per else per + 1

/-- The instant of an event of Table 8-3 in taps after the period start, if it occurs (08 Table 8-2, R192). Table 8-2
places a falling match at value v at the period's end less v, in down mode and in up-down mode alike. -/
def eventTime (mode per cmpa cmpb evt : Nat) : Option Nat :=
  let total := periodTicks mode per * 128
  let up (v : Nat) : Option Nat :=
    if mode = 1 then none
    else if v < (if mode = 2 then per * 128 else total) then some v else none
  let down (v : Nat) : Option Nat :=
    if mode = 1 then (if v < total then some ((total - v) % total) else none)
    else if mode = 2 then (if 0 < v ∧ v ≤ per * 128 then some (total - v) else none)
    else none
  match evt with
  | 1 => some (if mode = 1 then per * 128 else 0)
  | 2 => some (if mode = 1 then 0 else per * 128)
  | 3 => up cmpa
  | 4 => down cmpa
  | 5 => up cmpb
  | 6 => down cmpb
  | _ => none

/-- The instant of an event of module `m` from its active words. -/
def State.eventAt (s : State) (m evt : Nat) : Option Nat :=
  eventTime (s.fld .PWM_CTRL_CMODE m) (s.per m) (s.cmp m false) (s.cmp m true) evt

/-- The count of the tick in which a match falls, and its offset into that tick in taps (08 Table 8-2). In down mode an
offset of 128 is the tick's end; in up-down mode the end of the tick of count C + 1 is the start of that of count C. -/
def matchPlace (mode v : Nat) (falling : Bool) : Nat × Nat :=
  let c := v / 128
  let f := v % 128
  if !falling then (c, f)
  else if mode = 2 then (if f = 0 then (c, 0) else (c + 1, 128 - f))
  else (c, 128 - f)

/-- Ticks from the period start to a count in a direction. -/
def posOf (mode per cnt : Nat) (falling : Bool) : Nat :=
  if mode = 1 then per - cnt else if mode = 2 && falling then (2 * per - cnt) % (2 * per) else cnt

/-- The count and direction at a position of the period. -/
def countAt (mode per pos : Nat) : Nat × Bool :=
  if mode = 1 then (per - pos, true)
  else if mode = 2 then (if pos < per then (pos, false) else (2 * per - pos, true))
  else (pos, false)

/-! ### Command rules -/

/-- The rules of the H table or, for the low side, of the L table: event and action (08 R193, R194). -/
def State.rules (s : State) (m : Nat) (low : Bool) : List (Nat × Nat) :=
  if low then
    let v := s.fld .PWM_CTABL_RULES01 m + s.fld .PWM_CTABL_RULES23 m * 2 ^ 16
    (List.range 4).map (fun r => (bits v (8 * r) 3, bits v (8 * r + 3) 2))
  else
    [(s.fld .PWM_CTABH_EVT0 m, s.fld .PWM_CTABH_ACT0 m), (s.fld .PWM_CTABH_EVT1 m, s.fld .PWM_CTABH_ACT1 m),
     (s.fld .PWM_CTABH_EVT2 m, s.fld .PWM_CTABH_ACT2 m), (s.fld .PWM_CTABH_EVT3 m, s.fld .PWM_CTABH_ACT3 m)]

/-- The rule that acts at instant `t`: the lowest-numbered one whose event falls there (08 R193). -/
def State.winner (s : State) (m : Nat) (low : Bool) (t : Nat) : Option (Nat × Nat) :=
  (s.rules m low).find? (fun r => r.2 != 0 && s.eventAt m r.1 == some t)

/-- What an action does to a command. -/
def ruleAct (act : Nat) (h : Bool) : Bool :=
  match act with
  | 1 => false
  | 2 => true
  | 3 => !h
  | _ => h

/-- Taps from `t` to a later instant `u` of a repeating period of `total` taps, 1 to `total`. -/
def ahead (total t u : Nat) : Nat := (u + total - t % total - 1) % total + 1

/-- The least element that satisfies a test, of a list of distances. -/
def leastWhere (l : List Nat) (p : Nat → Bool) : Option Nat :=
  l.foldl (fun best d => if p d && (match best with | none => true | some b => d < b) then some d else best) none

/-- Taps from instant `t` to the next change of a command that is now `h`, by the active words, if one comes within a
period. Rules that leave the command as it is are passed over. -/
def State.nextChange (s : State) (m : Nat) (low : Bool) (t : Nat) (h : Bool) : Option Nat :=
  let total := periodTicks (s.fld .PWM_CTRL_CMODE m) (s.per m) * 128
  let times := ([1, 2, 3, 4, 5, 6].filterMap (s.eventAt m)).map (ahead total t)
  leastWhere times (fun d =>
    match s.winner m low ((t + d) % total) with
    | some r => ruleAct r.2 h != h
    | none => false)

end Sys2Proof.Machine
end

