-- ==== Sys2Proof/Machine/Fabric.lean ====
section
/-!
DEFINITION. The sample fabric: offering, buffering, dropping and delivering sample words (01 R26 to R31), and the capture
streams that listen to it (19 R461).
-/
namespace Sys2Proof.Machine

/-- The spine of a SOURCE (01 Table 1-3); the Substitute travels on spine 2 with the SOURCE of its slot. -/
def spineOf (source : Nat) (subst : Bool) : Nat :=
  if subst then 2 else if source < 0x20 then 0 else if source < 0x40 then 1 else if source < 0x58 then 2 else 3

/-- A word whose VALID follows its REASON (01 R31). -/
def mkWord (result reason source ts : Nat) (subst inj : Bool) : SampleWord :=
  { result := if reason = 7 then 0 else result % 2 ^ 18, valid := reason == 0, subst := subst, inj := inj,
    reason := reason, source := source, ts := ts % 2 ^ 32 }

/-- The list of newest words with that of `w`'s source replaced. -/
def putNewest (l : List SampleWord) (w : SampleWord) : List SampleWord :=
  match l with
  | [] => [w]
  | x :: r => if x.source = w.source then w :: r else x :: putNewest r w

/-- The newest word delivered from a source. -/
def State.newest (s : State) (source : Nat) : Option SampleWord := s.fab.newest.find? (fun w => w.source == source)

/-- A spine carries one more word. -/
def State.carry (s : State) (sp : Nat) : State :=
  { s with fab := { s.fab with carried := modAt s.fab.carried sp 0 (· + 1) } }

/-- The load of a spine as FAB_LOAD shows it: words of 64 bits in 1 ms against 3.2 Mbit, in 1/4096 (01 R26, Table 1-10). -/
def loadShown (words : Nat) : Nat := min 4095 (words * 64 * 4096 / 3200000)

/-- The field of FAB_LOAD0 to FAB_LOAD3. -/
def loadFld : Nat → Fld
  | 0 => .FAB_LOAD0_LOAD | 1 => .FAB_LOAD1_LOAD | 2 => .FAB_LOAD2_LOAD | _ => .FAB_LOAD3_LOAD

/-- Each millisecond of the timebase FAB_LOAD0 to FAB_LOAD3 take the load of the one that has ended (assumption log, entry
100). -/
def State.loadTick (s : State) : State :=
  if s.tb % 640000 != 0 then s else
  let n := s.fab.carried
  let s := s.each (List.range 4) (fun s k => s.setFld (loadFld k) 0 (loadShown (n.getD k 0)))
  { s with fab := { s.fab with carried := [0, 0, 0, 0] } }

/-- A capture stream takes a word of its SOURCE (19 R461): every (DIV + 1)th one, into the buffer of the current
descriptor; without a free descriptor it is dropped and the next buffer carries GAP. -/
def State.capture (s : State) (a : Nat) (w : SampleWord) : State :=
  if s.flag .CAP_CFG_EN a && s.fld .CAP_CFG_SOURCE a == w.source then
    let c := s.cap a
    if c.skip < s.fld .CAP_CFG_DIV a then s.setCap a { c with skip := c.skip + 1 }
    else
      let s := s.setCap a { c with skip := 0 }
      let full := match s.freeDesc (11 + a) with | some d => decide (d.len < c.words.length * 8 + 8) | none => false
      let s := s.when full (fun s => s.captureDone a false)
      match s.freeDesc (11 + a) with
      | some _ => let c := s.cap a; (s.setCap a { c with words := c.words ++ [w] }).carry 3
      | none => let c := s.cap a; (s.setCap a { c with gap := true }).count .RING_STAT_DROP (11 + a)
  else s

/-- The enabled subscription entries of a SOURCE: engine and entry (10 R249, Table 10-2). -/
def State.subscribers (s : State) (source : Nat) : List (Nat × Nat) :=
  s.eng.mem.filterMap (fun e =>
    if e.1.1 < 12 ∧ 0x3F80 ≤ e.1.2 ∧ e.1.2 % 4 = 0 ∧ e.2 % 256 = source ∧ e.2.testBit 8 then some (e.1.1, (e.1.2 - 0x3F80) / 4)
    else none)

/-- Engine `n` beside its registers and memory. -/
def State.engine (s : State) (n : Nat) : Engine := s.eng.engines.getD n {}

/-- Engine `n` changed by `f`. -/
def State.modEngine (s : State) (n : Nat) (f : Engine → Engine) : State :=
  { s with eng := { s.eng with engines := modAt s.eng.engines n {} f } }

/-- Every subscription from `a` to `b` holds a word of the current period (10 R259). -/
def Engine.periodWords (e : Engine) (a b : Nat) : Bool :=
  (List.range (b + 1 - a)).all (fun i =>
    match (e.subs.getD (a + i) {}).newest with
    | some w => (w.ts + 2 ^ 32 - e.tk % 2 ^ 32) % 2 ^ 32 < 2 ^ 31
    | none => false)

/-- A WAIT ends (10 R259): TMO tells whether the deadline ended it, and its stall counts in engine cycles of 1.25 ns. -/
def State.endWait (s : State) (n : Nat) (tmo : Bool) : State :=
  match (s.engine n).wait with
  | none => s
  | some (_, _, _, began) =>
    s.modEngine n (fun e => { e with
      wait := none, pc := e.pc + 1, cycles := e.cycles + 1 + ((s.tb - began) * 5 + 3) / 4, flags := setBitTo e.flags 4 tmo })

/-- A WAIT whose words have come is released. -/
def State.releaseWait (s : State) (n : Nat) : State :=
  match (s.engine n).wait with
  | some (a, b, _, _) => if (s.engine n).periodWords a b then s.endWait n false else s
  | none => s

/-- A subscription takes a word of its SOURCE (10 R249). -/
def State.subscribe (s : State) (w : SampleWord) (n i : Nat) : State :=
  (s.modEngine n (fun e => { e with
    subs := modAt e.subs i {} (fun u => { newest := some w, valid := if w.valid then some w else u.valid }) })).releaseWait n

/-- A word reaches every subscribed listener (01 R28). -/
def State.deliver (s : State) (w : SampleWord) : State :=
  let s := ({ s with fab := { s.fab with newest := putNewest s.fab.newest w } } : State).carry (spineOf w.source w.subst)
  let s := s.bursarTakes w
  let s := s.each (s.subscribers w.source) (fun s e => s.subscribe w e.1 e.2)
  (s.capture 0 w).capture 1 w

/-- Waiting words, oldest first, as those that spine `sp` may deliver now and those that stay: a word stays while an earlier
one of its SOURCE waits on another spine (01 R28, 05 R138). -/
def splitReady (sp : Nat) (l : List SampleWord) : List SampleWord × List SampleWord :=
  l.foldl (fun a x =>
    if spineOf x.source x.subst == sp && !a.2.any (fun y => y.source == x.source) then (a.1 ++ [x], a.2)
    else (a.1, a.2 ++ [x])) ([], [])

/-- A producer offers a word to its spine (01 R28, 05 R138). A free spine delivers the words that wait on it, in order, and
then this one unless an earlier word of its SOURCE still waits on another spine; otherwise the word joins its producer's output
buffer of eight words, or is dropped: FAB_DROP and event 0x03. -/
def State.offer (s : State) (w : SampleWord) (spineFree : Bool) : State :=
  let p := if spineFree then splitReady (spineOf w.source w.subst) s.fab.waiting else ([], s.fab.waiting)
  let s := State.each { s with fab := { s.fab with waiting := p.2 } } p.1 State.deliver
  if spineFree && !p.2.any (fun x => x.source == w.source) then s.deliver w
  else if (p.2.filter (fun x => x.source == w.source && x.subst == w.subst)).length < 8 then
    { s with fab := { s.fab with waiting := s.fab.waiting ++ [w] } }
  else (s.count .FAB_DROP).event .caretaker 0x03 0 w.source

/-- SAMPLE_WORD_OFFER (01 R28, R30, R31). -/
def execSampleWordOffer (result reason source ts : Nat) (subst inj spineFree : Bool) (s : State) : Out :=
  .next (s.offer (mkWord result reason source ts subst inj) spineFree)

end Sys2Proof.Machine
end

