-- ==== Sys2Proof/Machine/Pads.lean ====
section
/-!
DEFINITION. From commands to pads: levels and edge records, the safe level and the low state, the gate sequencer of
three-level legs, ordered shutdowns, the response table, and the trip groups with the modules they route to
(07 R179, R180; 08 R205 to R222; 09 R226 to R243).
-/
namespace Sys2Proof.Machine

/-! ### Levels and edges -/

/-- The present instant, at the start of the tick, in taps. -/
def State.nowTaps (s : State) : Nat := s.tb * 128

/-- The device is of size L, which drives GHm and GLm (00 Table 0-1, 08 R207). -/
def State.sizeL (s : State) : Bool := s.fld .FUSE_RES_PM_CNT == 24

/-- The Prefect forces every gate pad low (02 R64, 18 R432); an N variant has no Prefect (00 R5, 02 R46). -/
def State.forced (s : State) : Bool := s.prefectFitted && s.gate.force

/-- The pads of module `m`: GHm and GLm, or in sizes S and M PULSEm and ENm (08 R207, 02 R64). -/
def State.padsOf (s : State) (m : Nat) : Bool × Bool :=
  let p := s.pm m
  if s.forced then (false, false) else if s.sizeL then (p.outHi, p.outLo) else (p.outHi, p.outHi || p.outLo)

/-- An edge is placed at its tap while the delay lines hold lock, otherwise at the start of its tick (08 R198). -/
def State.place (s : State) (inst : Nat) : Nat := if s.flag .PWM_DLSTAT_DL_LOCK then inst else inst / 128 * 128

/-- The edge record of one edge, if selected (08 R222): kind 0 high-side rise, 1 high-side fall, 2 low-side rise, 3
low-side fall. -/
def State.edgeRecord (s : State) (m kind inst : Nat) (tripf carry : Bool) : State :=
  let i := s.place inst
  s.when (s.bit .PWM_ERSEL_SEL m kind) (fun s =>
    s.offer (mkWord (i % 128 + kind * 2 ^ 7 + tripf.toNat * 2 ^ 9 + carry.toNat * 2 ^ 10) 0 (0x80 + m) (i / 128)
      false false) true)

/-- One side's level at the output stage takes `lvl` at an instant: its edge record, and with a rising edge its FLT
blanking window; the fall of the high side restarts the refresh count (08 R222, 09 R228, R237). -/
def State.setSide (s : State) (m : Nat) (low lvl : Bool) (inst : Nat) (tripf carry : Bool) : State :=
  let p := s.pm m
  if (if low then p.outLo else p.outHi) = lvl then s else
  let s := s.modPm m (fun p =>
    if low then { p with outLo := lvl }
    else if lvl then { p with outHi := true } else { p with outHi := false, stayed := false, refCount := 0 })
  let s := s.edgeRecord m ((if low then 2 else 0) + (if lvl then 0 else 1)) inst tripf carry
  s.when (lvl && s.fld .GI_CH_BLANK m != 0) (fun s =>
    { s with gate := { s.gate with blank := setBitTo s.gate.blank m true } })

/-- A command edge starts leading-edge blanking of the comparators linked to the module (07 R178). -/
def State.startLeb (s : State) (m : Nat) (low : Bool) : State :=
  let hit (c : Nat) := s.fld .WC_CFG_LINK c == m && s.bit .WC_CFG_LEBEDGE c low.toNat && s.fld .WC_LEB_LEBT c != 0
  { s with trip := { s.trip with chans := s.trip.chans.mapIdx (fun c p => if hit c then { p with blanked := true } else p) } }

/-- A command of a side rises or falls at an instant, and its output with it while the pads follow (08 R205, R207). -/
def State.setCmd (s : State) (m : Nat) (low lvl : Bool) (inst : Nat) (carry : Bool) : State :=
  let was := if low then (s.pm m).lo else (s.pm m).hi
  let s := s.modPm m (fun p =>
    if low then { p with lo := lvl, loAt := if lvl then inst else p.loAt }
    else { p with hi := lvl, hiAt := if lvl then inst else p.hiAt })
  let s := s.when (lvl && !was) (fun s => s.startLeb m low)
  s.when ((s.pm m).mode == .follow) (fun s => s.setSide m low lvl inst false carry)

/-- The carry takes a value, within ±(2^23 − 1) taps (08 R210). -/
def State.setCarry (s : State) (m : Nat) (c : Int) : State :=
  let lim : Int := 2 ^ 23 - 1
  let s := s.when (decide (c < -lim) || decide (lim < c)) (fun s => s.setFld .PWM_STAT_CARRYSAT m 1)
  s.setFld .PWM_CARRY_CARRY m (ofSigned 24 (clampInt (-lim) lim c))

/-! ### Safe level, low state and legs -/

/-- A Tutor core or Lesson engine of the Wing is halted by the debugger (08 R213). -/
def State.haltedWing (s : State) (w : Wing) : Bool :=
  (bitsOf 4 s.tut.halted).any (fun c => coreWing c == w) || (bitsOf 12 s.tut.leHalted).any (fun n => (n < 6) == (w == .a))

/-- The gate outputs stay in their reset state: during a whole-die reset, after one that left no Bell root in service (01 R44),
and while a failed PLL is retried (04 R102). -/
def State.gatesHeld (s : State) : Bool := s.rst.phase != .none || s.rst.noRoot || s.clk.retry

/-- TRIP, or a trip that is latched, holds the module (08 R213). -/
def State.tripHolds (s : State) (m : Nat) : Bool :=
  s.flag .PWM_STAT_TRIPPED m || (s.flag .PWM_CTRL_TRIPLEN m && s.flag .PWM_STAT_TRIPL m)

/-- A condition of 08 R213 holds: the pads take the programmed safe level. -/
def State.safeCause (s : State) (m : Nat) : Bool :=
  s.tripHolds m || (match s.entitled m with | some w => s.haltedWing w | none => false) || s.edgeStopped

/-- A condition of 08 R215 holds: the pads are driven low. Pads that the trip tree has put at the safe level stay there while it
holds them, though OUTEN is cleared behind them (07 Table 7-5, 09 R240). -/
def State.lowCause (s : State) (m : Nat) : Bool :=
  (!s.flag .PWM_RUN_OUTEN m && !((s.pm m).mode == .safe && s.tripHolds m)) || (s.entitled m).isNone || s.forced || s.gatesHeld

/-- The two modules of leg `k` (09 R232). -/
def State.legMods (s : State) (k : Nat) : List Nat := [s.fld .GSEQ_LEG_MA k, s.fld .GSEQ_LEG_MB k]

/-- The enabled leg a module belongs to. -/
def State.legOf (s : State) (m : Nat) : Option Nat :=
  (List.range 12).find? (fun k => s.flag .GSEQ_LEG_EN k && (s.legMods k).contains m)

/-- The outer pads of module `m` in leg `k`: bit 0 the high side, bit 1 the low side. -/
def State.outerOf (s : State) (k m : Nat) : Nat :=
  let v := s.fld .GSEQ_LEG_OUTER k
  if s.fld .GSEQ_LEG_MA k = m then v % 4 else v / 4

/-- The gap of leg `k` runs. -/
def State.gapRuns (s : State) (k : Nat) : Bool := s.gate.gaps.testBit k

/-- The module stops following its commands (08 R210, R214, R223, 09 R238): delays, refresh and carry are dropped. The internal
commands go on (07 R178). -/
def State.leaveFollow (s : State) (m : Nat) (mode : PadMode) : State :=
  let s := s.modPm m (fun p =>
    let p := if p.mode == .follow then
        { p with inHi := p.hi, inLo := p.lo, dueHi := p.riseHi, dueLo := p.riseLo, leftAt := some s.tb }
      else p
    { p with
      mode := mode, hi := false, lo := false, riseHi := none, riseLo := none, fallHi := none, fallLo := none, early := none
      he := p.h, le := p.l, merged := false, move := 0, stretchHi := false, stretchLo := false
      refresh := 0, refCount := 0, stayed := false, due := false })
  (s.setFld .PWM_CARRY_CARRY m 0).setFld .PWM_STAT_OUTACT m 0

/-- One module's pads go low or to the programmed safe level at once (08 R212, R215). -/
def State.padsOff (s : State) (m : Nat) (mode : PadMode) (tripf : Bool) : State :=
  let s := s.leaveFollow m mode
  let safe := mode == .safe
  let s := s.setSide m false (safe && s.flag .PWM_CTRL_SH m) s.nowTaps tripf false
  s.setSide m true (safe && s.flag .PWM_CTRL_SL m) s.nowTaps tripf false

/-- Stage 1 of a leg's turn-off for one module (09 R233, R234): its outer pads go low at once and its inner pads keep
their level; in sizes S and M the channel takes the state in which its outer switch is off, with ENm as it was. -/
def State.stage1 (s : State) (k m : Nat) (tripf : Bool) : State :=
  let o := s.outerOf k m
  let p := s.pm m
  let en := p.outHi || p.outLo
  let (hi, lo) :=
    if s.sizeL then (p.outHi && !o.testBit 0, p.outLo && !o.testBit 1)
    else match o with
      | 0 => (p.outHi, p.outLo)
      | 1 => (false, en)
      | 2 => (en, false)
      | _ => (false, false)
  let s := s.leaveFollow m .gap
  (s.setSide m false hi s.nowTaps tripf false).setSide m true lo s.nowTaps tripf false

/-- A leg turns off as one unit: stage 1 acts on both modules and the gap starts, timed without a clock while both Edge
loops are unlocked (09 R233, R235). -/
def State.legOff (s : State) (k : Nat) (tripf : Bool) : State :=
  let s := s.each (s.legMods k) (fun s m => s.stage1 k m tripf)
  { s with gate := { s.gate with
    gaps := setBitTo s.gate.gaps k true, clockless := if s.edgeStopped then setBitTo s.gate.clockless k true else s.gate.clockless
    gapMods := (k, s.legMods k) :: s.gate.gapMods.filter (fun e => e.1 != k) } }

/-- The module's pads stay as they are: in a running gap, or low already, or at the level asked for, or low by the interlock in
the tick of a TRIP (09 R243). -/
def State.staysDown (s : State) (m : Nat) (mode : PadMode) : Bool :=
  let p := s.pm m
  p.mode == .gap || p.mode == .low || p.mode == mode || (p.mode == .shoot && mode == .safe && p.shotAt == some s.tb)

/-- A cause sends a module's pads low or to the safe level (08 R213, R215; 09 R233). -/
def State.putDown (s : State) (m : Nat) (mode : PadMode) (tripf : Bool) : State :=
  match s.legOf m with
  | none => if s.staysDown m mode then s else s.padsOff m mode tripf
  | some k =>
    if s.gapRuns k then s
    else if (s.legMods k).any (fun x => (s.pm x).mode == .follow || (s.pm x).mode == .shoot) then s.legOff k tripf
    else if s.staysDown m mode then s
    else s.padsOff m mode tripf

/-- Every module whose pads a present cause holds is put down. -/
def State.settlePads (s : State) : State :=
  s.each (List.range 24) (fun s m =>
    if !s.hasPm m then s
    else if s.lowCause m then s.putDown m .low false
    else if s.safeCause m then s.putDown m .safe true
    else s)

/-! ### Enables and counters -/

/-- OUTEN is cleared; the pads go low, a leg in its order (08 R210, R217; 09 R233), unless the trip tree holds them at the safe
level (07 Table 7-5). -/
def State.clearOuten (s : State) (m : Nat) : State :=
  let s := s.setFld .PWM_RUN_OUTEN m 0
  s.when (s.lowCause m) (fun s => s.putDown m .low false)

/-- OUTEN is set, which arms the module (08 R217). -/
def State.setOuten (s : State) (m : Nat) : State := s.setFld .PWM_RUN_OUTEN m 1

/-- The counter stops (08 R218): CNT_EN, OUTEN and ARM clear, and the carry. -/
def State.stopCounter (s : State) (m : Nat) : State :=
  let s := ((s.setFld .PWM_RUN_CNT_EN m 0).setFld .PWM_STAT_RUNNING m 0).setFld .PWM_RUN_ARM m 0
  (s.clearOuten m).setFld .PWM_CARRY_CARRY m 0

/-- The counter loads a position that is `later` ticks after LOADCNT (08 R190, R218, R220): above PER it loads PER. -/
def State.loadCount (s : State) (m later : Nat) : State :=
  let mode := s.fld .PWM_CTRL_CMODE m
  let per := s.per m
  let pos := posOf mode per (min (s.fld .PWM_LOAD_LOADCNT m) per) (s.flag .PWM_LOAD_LOADDIR m)
  let (cnt, falling) := countAt mode per ((pos + later) % periodTicks mode per)
  (s.setFld .PWM_CNT_CNT m cnt).setFlag .PWM_STAT_DIR m falling

/-- A head module's counter starts or restarts, which restarts the count of head events (10 R257). -/
def State.headRestart (s : State) (m : Nat) : State :=
  s.when (s.fld .LT_CFG_SRC == 2 && s.fld .LT_CFG_HEAD * 6 == m) (fun s => { s with eng := { s.eng with divCount := 0 } })

/-- The counter starts (08 R193, R218, R221), or restarts with everything but the count and the prescaler unchanged. -/
def State.startCounter (s : State) (m : Nat) : State :=
  let running := s.flag .PWM_RUN_CNT_EN m
  let s := (s.loadCount m 0).setFld .PWM_INT_ICNT m 0
  let s := s.headRestart m
  if running then s
  else
    let s := (s.setFld .PWM_RUN_CNT_EN m 1).setFld .PWM_STAT_RUNNING m 1
    let s := { s with pwm := { s.pwm with counted := true } }
    s.modPm m (fun p => { p with h := false, l := false, he := false, le := false })

/-! ### Gate events, shutdowns and the response table -/

/-- A gate event (09 Table 9-1). -/
def State.gateEvent (s : State) (code entry mask tsReport tsFirst : Nat) : State :=
  s.emit .gate (code % 256 + entry % 256 * 2 ^ 8 + mask % 2 ^ 24 * 2 ^ 16 + tsReport % 2 ^ 32 * 2 ^ 64
    + tsFirst % 2 ^ 32 * 2 ^ 96)

/-- A gate event whose two times are the present tick. -/
def State.gateNow (s : State) (code entry mask : Nat) : State := s.gateEvent code entry mask s.ts s.ts

/-- The Prefect is fitted and not CLEAR, so a write of 1 to OUTEN is discarded (18 R435). -/
def State.prefectBlocks (s : State) : Bool := s.prefectFitted && s.fld .PF_STAT_STATE != 6

/-- A held write is executed (09 R242): OUTEN of a locked module, or under a Prefect that is not CLEAR (18 R435), is refused
with event 0x34. -/
def State.runHeld (s : State) (e : Nat × Bool) : State :=
  if e.2 then
    if s.bit .GI_LOCKED_LOCK 0 e.1 || s.prefectBlocks then s.gateNow 0x34 0xFF (2 ^ e.1) else s.setOuten e.1
  else if s.flag .PWM_RUN_CNT_EN e.1 then s else s.startCounter e.1

/-- The shutdowns of the modules `ms` complete (09 R240 to R242): CNT_EN clears first where the action says so, then the
held writes are executed in the order written. -/
def State.shutDone (s : State) (ms : List Nat) : State :=
  let s := s.each ms (fun s m => s.setBit .GI_SHUT_BUSY 0 m false)
  let s := s.each ms (fun s m => s.when (s.gate.stopAfter.testBit m) (fun s =>
    State.stopCounter { s with gate := { s.gate with stopAfter := setBitTo s.gate.stopAfter m false } } m))
  let mine := s.gate.held.filter (fun e => ms.contains e.1)
  let s := { s with gate := { s.gate with held := s.gate.held.filter (fun e => !ms.contains e.1) } }
  s.each mine State.runHeld

/-- The module's leg, if any, has no gap running. -/
def State.gapFree (s : State) (m : Nat) : Bool :=
  match s.legOf m with
  | some k => !s.gapRuns k
  | none => true

/-- An ordered shutdown of modules (09 R240, R241): a module whose shutdown runs is passed over. -/
def State.shutdown (s : State) (targets : Nat) (stop : Bool) : State :=
  let fresh := (bitsOf 24 targets).filter (fun m => !s.bit .GI_SHUT_BUSY 0 m)
  let s := s.each fresh (fun s m => (s.setBit .GI_SHUT_BUSY 0 m true).clearOuten m)
  let s := s.when stop (fun s => { s with gate := { s.gate with stopAfter := fresh.foldl (fun a m => setBitTo a m true) s.gate.stopAfter } })
  s.shutDone (fresh.filter s.gapFree)

/-- Targets widened to whole enabled legs (09 R239), within the variant. -/
def State.widen (s : State) (mask : Nat) : Nat :=
  let legs := (List.range 12).filter (fun k => s.flag .GSEQ_LEG_EN k && (s.legMods k).any (fun m => mask.testBit m))
  let all := legs.foldl (fun a k => (s.legMods k).foldl (fun a m => setBitTo a m true) a) mask
  all % 2 ^ s.fld .FUSE_RES_PM_CNT

/-- Response entry `i` runs for an event with the given affected set (09 R239, R240). -/
def State.runEntry (s : State) (i affected : Nat) : State :=
  let act := s.fld .RSP_CFG_ACT i
  if act = 0 || act = 3 then s else
  let targets := s.widen (if s.flag .RSP_CFG_SCOPE i then s.fld .RSP_MASK_MASK i else affected)
  let s := s.setBit .GI_RSPSTAT_ACTED 0 i true
  let s := s.gateNow 0x35 i targets
  let s := s.when (s.flag .RSP_CFG_LOCK i) (fun s => s.setFld .GI_LOCKED_LOCK 0 (s.fld .GI_LOCKED_LOCK ||| targets))
  let wings := [Wing.a, Wing.b].filter (fun w => (bitsOf 24 targets).any (fun m => s.isEntitled w m))
  let s := s.when (s.flag .RSP_CFG_IRQ i) (fun s => s.each wings (fun s w => s.raise w 5))
  s.shutdown targets (act == 2)

/-- A leg's gap ends (09 R233, R236, R241): the inner pads go low and the shutdowns of its modules complete. -/
def State.gapEnd (s : State) (k : Nat) : State :=
  let ms := ((s.gate.gapMods.find? (fun e => e.1 == k)).map (·.2)).getD []
  let s := { s with gate := { s.gate with
    gaps := setBitTo s.gate.gaps k false, gapMods := s.gate.gapMods.filter (fun e => e.1 != k) } }
  let s := s.each ms (fun s m => s.padsOff m (if s.lowCause m then .low else .safe) (s.safeCause m))
  s.shutDone (ms.filter (fun m => s.bit .GI_SHUT_BUSY 0 m))

/-- GI_MISC.SEQFB is set when the clock returns after a gap that the clockless delay timed (09 R235). -/
def State.seqFallback (s : State) : State :=
  s.when (s.gate.clockless != 0 && !s.edgeStopped) (fun s =>
    { s.setFld .GI_MISC_SEQFB 0 1 with gate := { s.gate with clockless := 0 } })

/-! ### Trip groups -/

/-- The sources that drive trip group `g` now, by the codes of TG_FIRSTg, lowest first (07 R171, R179, Table 7-7). -/
def State.tripSources (s : State) (g : Nat) : List Nat :=
  let wc := (List.range 48).filter (fun c =>
    s.hasWc c && s.fld .WC_CFG_MODE c != 3 && s.flag .WC_CFG_TRIPPED c && s.bit .WC_CFG_TG c g)
  let gd := (List.range 24).filter (fun n =>
    s.hasMd n && s.flag .MOD_GCFG_TRIPPED n && s.bit .MOD_GCFG_TG n g)
  wc ++ gd.map (0x40 + ·) ++ (if s.bit .TG_FORCE_FORCE 0 g then [0x80] else [])

/-- TRIP of a module: the OR of the groups routed to it (07 R179). -/
def State.tripOf (s : State) (m : Nat) : Bool :=
  (List.range 8).any (fun g => s.bit .TG_STAT_ACTIVE 0 g && s.bit .TG_ROUTE_PM g m)

/-- The trip tree follows its sources (07 R179, R180; 08 R213): groups, the TRIP input of each module, TRIPL with TRIPLEN,
and the pads. -/
def State.settleTrips (s : State) : State :=
  let act := (List.range 8).foldl (fun a g => setBitTo a g (!(s.tripSources g).isEmpty)) 0
  let newly := maskOff (maskOff act (s.fld .TG_STAT_ACTIVE)) (s.fld .TG_STAT_SEEN)
  let s := { s with trip := { s.trip with risen := (s.trip.risen ||| newly) &&& act } }
  let s := s.setFld .TG_STAT_ACTIVE 0 act
  let s := s.each (List.range 24) (fun s m =>
    let t := s.hasPm m && s.tripOf m
    let s := s.when (t && !s.flag .PWM_STAT_TRIPPED m && s.flag .PWM_CTRL_TRIPLEN m) (fun s => s.setFld .PWM_STAT_TRIPL m 1)
    s.setFlag .PWM_STAT_TRIPPED m t)
  s.settlePads

end Sys2Proof.Machine
end

