-- ==== Sys2Proof/Machine/Comparator.lean ====
section
/-!
DEFINITION. The window comparators, their latches, and the trip-group records (07).
-/
namespace Sys2Proof.Machine

/-- Comparator `c` beside its registers. -/
def State.wc (s : State) (c : Nat) : CompChan := s.trip.chans.getD c {}

/-- Comparator `c` changed by `f`. -/
def State.modWc (s : State) (c : Nat) (f : CompChan → CompChan) : State :=
  { s with trip := { s.trip with chans := modAt s.trip.chans c {} f } }

/-- A threshold in 0.1 mV (07 R170, R171): 0.4 mV per code, as for the hysteresis. -/
def mvOf (code : Nat) : Int := 4 * (code : Int)

/-- The upper stage is in use (07 Table 7-1). -/
def State.upperUsed (s : State) (c : Nat) : Bool := s.fld .WC_CFG_MODE c ≤ 1
/-- The lower stage is in use. -/
def State.lowerUsed (s : State) (c : Nat) : Bool := s.fld .WC_CFG_MODE c == 0 || s.fld .WC_CFG_MODE c == 2

/-- The upper stage is in its trip region (07 Table 7-1). -/
def State.upperTrip (s : State) (c : Nat) : Bool := mvOf (s.fld .WC_THR_HI c) < (s.wc c).level
/-- The lower stage is in its trip region. -/
def State.lowerTrip (s : State) (c : Nat) : Bool := (s.wc c).level < mvOf (s.fld .WC_THR_LO c)
/-- The upper stage is on its non-trip side. -/
def State.upperClear (s : State) (c : Nat) : Bool :=
  (s.wc c).level < mvOf (s.fld .WC_THR_HI c) - mvOf (s.fld .WC_CFG_HYST c)
/-- The lower stage is on its non-trip side. -/
def State.lowerClear (s : State) (c : Nat) : Bool :=
  mvOf (s.fld .WC_THR_LO c) + mvOf (s.fld .WC_CFG_HYST c) < (s.wc c).level

/-- Every stage in use is on its non-trip side. -/
def State.wcQuiet (s : State) (c : Nat) : Bool :=
  (!s.upperUsed c || s.upperClear c) && (!s.lowerUsed c || s.lowerClear c)

/-- A stage in use is in its trip region. -/
def State.wcTripping (s : State) (c : Nat) : Bool := (s.upperUsed c && s.upperTrip c) || (s.lowerUsed c && s.lowerTrip c)

/-- The latch sets if a stage in use is in its trip region and it is neither set nor blanked (07 R174, R178). -/
def State.latchIfTripping (s : State) (c : Nat) : State :=
  if s.wcTripping c && !s.flag .WC_CFG_TRIPPED c && !(s.wc c).blanked then
    let s := (s.setFld .WC_CFG_TRIPPED c 1).setFlag .WC_CFG_SIDE c (!(s.upperUsed c && s.upperTrip c))
    (s.count .WC_STAT_TRIPS c).settleTrips
  else s

/-- The level at a ball, with RAWHI and RAWLO (07 Table 7-7), and the latch with it (07 R174). -/
def State.setLevel (s : State) (c : Nat) (level : Int) : State :=
  let s := s.modWc c (fun p => { p with level := level })
  ((s.setFlag .WC_STAT_RAWHI c (s.upperTrip c)).setFlag .WC_STAT_RAWLO c (s.lowerTrip c)).latchIfTripping c

/-- Comparator `c` works: the variant has it, and its domain is out of reset (01 R43, R44). -/
def State.wcWorks (s : State) (c : Nat) : Bool := s.hasWc c && s.rst.phase == .none && !s.domainHeld 5

/-- The latch clears. -/
def State.latchClear (s : State) (c : Nat) : State :=
  ((s.setFld .WC_CFG_TRIPPED c 0).modWc c (fun p => { p with initial := false })).settleTrips

/-- COMPARATOR_LATCH_SET (07 R174). -/
def execComparatorLatchSet (c : Nat) (level : Int) (s : State) : Out :=
  .next (if s.wcWorks c then s.setLevel c level else s)

/-- LEB_BLANKING_END (07 R178). -/
def execLebBlankingEnd (c : Nat) (level : Int) (s : State) : Out :=
  .next (if s.wcWorks c then (s.modWc c (fun p => { p with blanked := false })).setLevel c level else s)

/-- The counter of the comparator's LINK module runs, so that the cycle mode has clear instants (07 R176). -/
def State.linkRuns (s : State) (c : Nat) : Bool := s.flag .PWM_RUN_CNT_EN (s.fld .WC_CFG_LINK c)

/-- A 1 written to CLR (07 R175, R176): a clear instant in hold mode, and in cycle mode while LINK's counter is stopped. -/
def State.wcClr (s : State) (c : Nat) : State :=
  if s.hasWc c && s.flag .WC_CFG_TRIPPED c && (s.flag .WC_CFG_LATCH c || !s.linkRuns c) && s.wcQuiet c
  then s.latchClear c else s

/-- WC_CLR_WRITE (07 R175). -/
def execWcClrWrite (core c : Nat) (level : Int) (s : State) : Out :=
  .next (s.accessBlk core .comparator (0x44000104 + 0x10 * c) (fun s =>
    if s.wcWorks c then (s.setLevel c level).wcClr c else s))

/-- COMPARATOR_INITIAL_CLEAR (07 R177): once every stage in use has been seen on its non-trip side, the latch clears, unless a
stage in its trip region keeps it set (07 R174). -/
def execComparatorInitialClear (c : Nat) (level : Int) (s : State) : Out :=
  .next (if s.wcWorks c && (s.wc c).initial && s.flag .WC_CFG_TRIPPED c then
    let s := s.setLevel c level
    let s := s.modWc c (fun p => { p with seenHi := p.seenHi || s.upperClear c, seenLo := p.seenLo || s.lowerClear c })
    if (!s.upperUsed c || (s.wc c).seenHi) && (!s.lowerUsed c || (s.wc c).seenLo) && !s.wcTripping c then s.latchClear c else s
  else s)

/-- The window rule (07 R172): in window mode LO + HYST must be less than HI − HYST. -/
def windowOk (mode hyst lo hi : Nat) : Bool := mode != 0 || lo + 2 * hyst < hi

/-- A threshold write (07 R172): within the window rule the DACs take the codes, otherwise event 0x01. -/
def State.wcThr (s : State) (c lo hi : Nat) : State :=
  if !s.hasWc c then s
  else if windowOk (s.fld .WC_CFG_MODE c) (s.fld .WC_CFG_HYST c) (lo % 4096) (hi % 4096) then
    let s := (s.setFld .WC_THR_LO c lo).setFld .WC_THR_HI c hi
    s.setLevel c (s.wc c).level
  else s.discarded .comparator (0x44000100 + 0x10 * c)

/-- WC_THR_WRITE (07 R172). -/
def execWcThrWrite (core c lo hi : Nat) (s : State) : Out :=
  .next (s.accessBlk core .comparator (0x44000100 + 0x10 * c) (fun s => s.wcThr c lo hi))

/-- TRIP_GROUP_FIRST_ASSERT (07 R180): SEEN, the lowest source code and the time are recorded, event 0x0F is queued, and
the group's response entry runs. -/
def execTripGroupFirstAssert (g : Nat) (s : State) : Out :=
  .next (if g < 8 && s.trip.risen.testBit g && !s.edgeStopped then
    let src := (s.tripSources g).headD 0
    let s := { s with trip := { s.trip with risen := setBitTo s.trip.risen g false } }
    let s := s.setBit .TG_STAT_SEEN 0 g true
    let s := (s.setFld .TG_FIRST_SRC g src).setFld .TG_FTS g s.ts
    let s := s.event .comparator 0x0F g src
    s.runEntry g (s.fld .TG_ROUTE_PM g)
  else s)

/-- The clear instant of the comparators and guards of LINK module `m` (07 R175, 06 R161): a cycle-mode latch clears if
every stage in use is on its non-trip side, a cycle-mode guard trip that is not an initial one clears. -/
def State.cycleClears (s : State) (m : Nat) : State :=
  let s := s.each (List.range 48) (fun s c =>
    s.when (s.hasWc c && s.flag .WC_CFG_TRIPPED c && !s.flag .WC_CFG_LATCH c && s.fld .WC_CFG_LINK c == m && s.wcQuiet c)
      (fun s => (s.setFld .WC_CFG_TRIPPED c 0).modWc c (fun p => { p with initial := false })))
  let s := s.each (List.range 24) (fun s n =>
    s.when (s.hasMd n && s.flag .MOD_GCFG_TRIPPED n && !s.flag .MOD_GCFG_LATCH n && s.fld .MOD_GCFG_LINK n == m
        && !(s.sd.getD n {}).initial) (fun s => s.setFld .MOD_GCFG_TRIPPED n 0))
  s.settleTrips

/-- The comparator settings take effect (07 R171, R177, R178): a comparator whose MODE has changed enters TRIPPED unless every stage
in use is on its non-trip side already, and one switched off reads 0; without LEBEDGE or LEBT nothing is blanked. -/
def State.compApplied (s : State) (oldMode : List Nat) : State :=
  let s := s.each (List.range 48) (fun s c =>
    let s := s.modWc c (fun p => { p with
      blanked := p.blanked && s.fld .WC_CFG_LEBEDGE c != 0 && s.fld .WC_LEB_LEBT c != 0 })
    let s :=
      if s.fld .WC_CFG_MODE c = oldMode.getD c 0 then s
      else if s.fld .WC_CFG_MODE c = 3 then (s.setFld .WC_CFG_TRIPPED c 0).modWc c (fun p => { p with initial := false })
      else if s.wcQuiet c then s
      else (s.setFld .WC_CFG_TRIPPED c 1).modWc c (fun p => { p with initial := true, seenHi := false, seenLo := false })
    s.when (s.hasWc c) (fun s => s.setLevel c (s.wc c).level))
  s.settleTrips

end Sys2Proof.Machine
end

