-- ==== Sys2Proof/Machine/Sar.lean ====
section
/-!
DEFINITION. The SAR slots, the references, calibration and the Substitute (05).
-/
namespace Sys2Proof.Machine

/-! ### Slots and slices -/

/-- Slot `k` beside its registers. -/
def State.slot (s : State) (k : Nat) : SarSlot := s.sar.slots.getD k {}

/-- Slot `k` changed by `f`. -/
def State.modSlot (s : State) (k : Nat) (f : SarSlot → SarSlot) : State :=
  { s with sar := { s.sar with slots := modAt s.sar.slots k {} f } }

/-- Slice `x` is retired (05 Table 5-6). -/
def State.sliceRetired (s : State) (x : Nat) : Bool := s.bit .SAR_MAP_RETIRED 0 x

/-- The slice that delivers slot `k`'s words: the Substitute where it stands in, otherwise the slot's own, or none (05 R142). -/
def State.servingSlice (s : State) (k : Nat) : Option Nat :=
  if s.fld .SAR_MAP_SUBSLOT = k then (if s.sliceRetired 16 then none else some 16)
  else if s.sliceRetired k then none else some k

/-- The SAR group is RUNNING, no foreground calibration runs (05 R145), and its domain is out of reset (01 R44). -/
def State.sarConverts (s : State) : Bool := s.groupRunning 1 && !s.flag .SAR_CAL_FGCAL && !s.domainHeld 5

/-- Slot `k` converts triggered bursts. -/
def State.slotConverts (s : State) (k : Nat) : Bool := s.sarConverts && s.bit .SAR_CTRL_SLOT_EN 0 k

/-- Sequence entry `e` of slot `k`: input in [1:0], extension in [7:2] (05 Table 5-6). -/
def State.seqEntry (s : State) (k e : Nat) : SarConv :=
  let v := s.fld (match e with
    | 0 => .SAR_SEQ_E0 | 1 => .SAR_SEQ_E1 | 2 => .SAR_SEQ_E2 | _ => .SAR_SEQ_E3) k
  { input := v % 4, ext := v / 4, inj := false }

/-- The conversion a slot begins next, when none is in hand (05 R120, R122, R126): an injected request first, then the
burst's next entry; a burst that has ended starts the pending one. -/
def State.nextConv (s : State) (k : Nat) : State :=
  let ended := s.fld .SAR_TRIG_SEQ_LEN k < (s.slot k).entry
  let s := s.when ((s.slot k).burst && ended) (fun s =>
    s.modSlot k (fun p => { p with burst := p.pendingTrig, pendingTrig := false, entry := 0 }))
  let p := s.slot k
  match p.injQ with
  | (i, e) :: r =>
    let s := s.modSlot k (fun p => { p with injQ := r, cur := some { input := i, ext := e, inj := true } })
    s.setFld .SAR_STAT_INJQ k r.length
  | [] =>
    if p.burst then s.modSlot k (fun p => { p with cur := some (s.seqEntry k p.entry), entry := p.entry + 1 })
    else s.modSlot k (fun p => { p with cur := none })

/-- A trigger of slot `k` (05 R122): it starts a burst, or is held, or is lost and counted. -/
def State.trigger (s : State) (k : Nat) : State :=
  let p := s.slot k
  if !p.burst then
    let s := s.modSlot k (fun p => { p with burst := true, entry := 0 })
    s.when p.cur.isNone (fun s => s.nextConv k)
  else if !p.pendingTrig then s.modSlot k (fun p => { p with pendingTrig := true })
  else s.count .SAR_STAT_TRIGLOST k

/-- An occurrence of the trigger source is on its way to each slot that converts and whose source it is (05 R121). Those during
foreground calibration are lost without being counted (05 R133). -/
def State.occurs (s : State) (src : Nat → Bool) : State :=
  s.each (List.range 16) (fun s k => s.when (s.slotConverts k && src k) (fun s => s.modSlot k (fun p => { p with due := p.due + 1 })))

/-- Event `evt` of module `m` as trigger source: 0 zero, 1 period, 2 and 3 trigger compares (05 Table 5-1). -/
def State.pwmOccurs (s : State) (m evt : Nat) : State :=
  s.occurs (fun k => s.fld .SAR_TRIG_SRC k == 2 && s.fld .SAR_TRIG_PMSEL k == m && s.fld .SAR_TRIG_EVT k == evt)

/-- A PERIOD Bell as trigger source (05 Table 5-1). -/
def State.bellOccurs (s : State) : State := s.occurs (fun k => s.fld .SAR_TRIG_SRC k == 3)

/-- SAR_BURST_START (05 R121, R122): an occurrence of the slot's PWM event or of the PERIOD Bell reaches the slot; every
(DIV + 1)th starts a burst. -/
def execSarBurstStart (k : Nat) (s : State) : Out :=
  .next (
    if s.slotConverts k && 0 < (s.slot k).due then
      let s := s.modSlot k (fun p => { p with due := p.due - 1 })
      let n := (s.slot k).divCount
      if n < s.fld .SAR_TRIG_DIV k then s.modSlot k (fun p => { p with divCount := n + 1 })
      else (s.modSlot k (fun p => { p with divCount := 0 })).trigger k
    else s)

/-- A software trigger write (05 R121, Table 5-5): a slot with another source ignores it. -/
def State.sarSwtrig (s : State) (mask : Nat) : State :=
  s.each (bitsOf 16 mask) (fun s k =>
    s.when (s.slotConverts k && s.fld .SAR_TRIG_SRC k == 4) (fun s => s.trigger k))

/-- SAR_SWTRIG_WRITE (05 R121). -/
def execSarSwtrigWrite (core mask : Nat) (s : State) : Out := 
  .next (s.accessBlk core .sar 0x42000018 (fun s => s.sarSwtrig mask))

/-- SAR_FREE_RUN_TRIGGER (05 R121): DIV × 250 ns after the last conversion of a burst, free-run starts the next. -/
def execSarFreeRunTrigger (k : Nat) (s : State) : Out :=
  .next (s.when (s.slotConverts k && s.fld .SAR_TRIG_SRC k == 1 && !(s.slot k).burst) (fun s => s.trigger k))

/-! ### Retirement and the Substitute -/

/-- The Substitute leaves its slot and the step ends. -/
def State.endStep (s : State) : State :=
  let s := (s.setFld .SAR_CALPOS_PHASE 0 5).setFld .SAR_MAP_SUBSLOT 0 0x1F
  { s with sar := { s.sar with
    pairDone := 0, pairBad := false, injAt := none, lost := 0, exitFails := 0, exitFailed := false } }

/-- The running step is abandoned (05 Table 5-5): S(k) returns at once with its previous coefficients; a Substitute that
serves a retired slice's slot stays there. -/
def State.abandonStep (s : State) : State :=
  let sub := s.fld .SAR_MAP_SUBSLOT
  let s := s.endStep
  s.when (sub < 16 && s.sliceRetired sub) (fun s => s.setFld .SAR_MAP_SUBSLOT 0 sub)

/-- Clearing ROT_EN ends the current step as on Recess entry (05 Table 5-6). -/
def State.stopRotation (s : State) : State :=
  { s.abandonStep with sar := { s.abandonStep.sar with stepDue := false } }

/-- A slice is retired (05 R140 to R142): recorded, reported as event 0x0A with DETAIL 2, and rotation stops; a free
Substitute takes or keeps the slice's slot. -/
def State.retireSlice (s : State) (x : Nat) : State :=
  if s.sliceRetired x then s else
  let s := s.setBit .SAR_MAP_RETIRED 0 x true
  let s := s.recordRepair 0x04 x 0 0
  let s := (s.setFld .SAR_CAL_ROT_STOP 0 1).event .sar 0x0A 2 x
  let s := s.when (x = 16) (fun s => s.setFld .SAR_MAP_SUBSLOT 0 0x1F)
  let s := s.when (x < 16 && s.fld .SAR_MAP_SUBSLOT = 0x1F && !s.sliceRetired 16) (fun s =>
    s.setFld .SAR_MAP_SUBSLOT 0 x)
  (s.setFld .SAR_CALPOS_PHASE 0 5).consumeSpare 4

/-- A slice's island stalls (05 R141): it is retired; if it serves a slot the Substitute takes the slot from the next conversion,
having returned any slot it stood in for. The conversion in hand has no slice. -/
def State.stallSlice (s : State) (x : Nat) : State :=
  if s.sliceRetired x then s else
  let s := s.each (List.range 16) (fun s k =>
    s.when (s.servingSlice k == some x && (s.slot k).cur.isSome) (fun s => s.modSlot k (fun p => { p with stalled := true })))
  let sub := s.fld .SAR_MAP_SUBSLOT
  let visiting := x ≠ 16 && sub < 16 && sub ≠ x && !s.sliceRetired sub
  (s.when visiting State.endStep).retireSlice x

/-- The slot of the running step. -/
def State.stepSlot (s : State) : Nat := s.fld .SAR_CALPOS_STEP

/-- A failed calibration of slice `x`, or eight failed exit matches (05 R139, R140): the first is repeated at once, the
second consecutive one retires the slice. -/
def State.calFailed (s : State) (x : Nat) : State :=
  let s := ((s.setFld .SAR_CSTAT_OK x 0).setFld .SAR_CSTAT_FAIL x 1).count .SAR_CSTAT_FAILS x
  let n := s.sar.fails.getD x 0 + 1
  let s := { s with sar := { s.sar with fails := s.sar.fails.set x n, exitFails := 0 } }
  if 2 ≤ n then s.retireSlice x
  else s.when (!s.flag .SAR_CAL_FGCAL) (fun s => s.setFld .SAR_CALPOS_PHASE 0 2)

/-- The next background step starts (05 R134): the Substitute awaits its entry, or in step 16 calibrates itself. -/
def State.startStep (s : State) : State :=
  let k := s.sar.nextStep
  let s := (s.setFld .SAR_CALPOS_STEP 0 k).setFld .SAR_CALPOS_PHASE 0 (if k = 16 then 2 else 0)
  { s with sar := { s.sar with nextStep := if k = 16 then 0 else k + 1, lost := 0, exitFails := 0, exitFailed := false, stepDue := false,
                               fails := s.sar.fails.set k 0 } }

/-- The step has ended; one whose start was due follows at once (05 R139). -/
def State.exitDone (s : State) : State :=
  let s := s.endStep
  s.when s.sar.stepDue State.startStep

/-- A round is complete (05 R134, Table 5-5): ROUND counts and the next round starts at step 0, at once where it was due. -/
def State.roundDone (s : State) : State :=
  let s := (s.count .SAR_CALPOS_ROUND).setFld .SAR_CALPOS_PHASE 0 5
  State.when { s with sar := { s.sar with nextStep := 0 } } s.sar.stepDue State.startStep

/-- An entry opportunity is lost; after the fourth the step is skipped (05 R135). -/
def State.loseEntry (s : State) : State :=
  let n := s.sar.lost + 1
  let s := { s.setFld .SAR_CALPOS_PHASE 0 0 with sar := { s.sar with lost := n, pairDone := 0, pairBad := false, injAt := none } }
  s.when (n = 4) (fun s =>
    let k := s.stepSlot
    ((s.setBit .SAR_CALSKIP_SKIP 0 k true).event .sar 0x0A 0 k).exitDone)

/-- An exit opportunity is lost: the exit is tried again at the next (05 R137, R139). -/
def State.loseExit (s : State) : State :=
  { s.setFld .SAR_CALPOS_PHASE 0 3 with sar := { s.sar with pairDone := 0, pairBad := false, injAt := none } }

/-- BACKGROUND_STEP_START (05 R134, R139): rotation runs while the group is RUNNING, enabled and not stopped; while it is stopped
nothing changes and every slice keeps its last coefficients (R132, R142). If the exit of the step before has not completed,
CALLATE is set and the step waits for it; a round that is due waits for step 16. -/
def execBackgroundStepStart (s : State) : Out :=
  .next (
    if !(s.sarConverts && s.flag .SAR_CAL_ROT_EN && !s.flag .SAR_CAL_ROT_STOP) then s
    else if s.fld .SAR_CALPOS_PHASE = 5 then s.startStep
    else
      let s := s.when (s.stepSlot < 16) (fun s => s.setFld .SAR_CAL_CALLATE 0 1)
      { s with sar := { s.sar with stepDue := true } })

/-- The overlapped pair of a swap begins to be awaited (05 R135): its opportunity is now. -/
def State.openPair (s : State) (phase : Nat) : State :=
  { s.setFld .SAR_CALPOS_PHASE 0 phase with sar := { s.sar with pairDone := 0, pairBad := false, injAt := none, oppAt := s.ts } }

/-- SUBST_ENTRY_OPPORTUNITY (05 R135, R139): with the slot's injected queue empty the overlapped pair is awaited; a slot that
does not convert is swapped at once; otherwise the opportunity is lost. -/
def execSubstEntryOpportunity (s : State) : Out :=
  let k := s.stepSlot
  .next (
    if s.fld .SAR_CALPOS_PHASE ≠ 0 || 16 ≤ k then s
    else if !s.bit .SAR_CTRL_SLOT_EN 0 k then (s.setFld .SAR_CALPOS_PHASE 0 2).setFld .SAR_MAP_SUBSLOT 0 k
    else if (s.slot k).injQ.isEmpty && s.flag .SAR_REF_REF_READY then s.openPair 1
    else s.loseEntry)

/-- SUBST_EXIT_OPPORTUNITY (05 R139): as for an entry, but never skipped. -/
def execSubstExitOpportunity (s : State) : Out :=
  let k := s.stepSlot
  .next (
    if s.fld .SAR_CALPOS_PHASE ≠ 3 || 16 ≤ k then s
    else if !s.bit .SAR_CTRL_SLOT_EN 0 k then s.exitDone
    else if (s.slot k).injQ.isEmpty && s.flag .SAR_REF_REF_READY then s.openPair 4
    else s)

/-- The coefficients of a calibration lie within their limits (05 R140): ±512 LSB, ±0.5 %, and the weight-fit residual. -/
def calInLimits (ofs gain : Int) (residualOk : Bool) : Bool :=
  residualOk && -8192 ≤ ofs && ofs ≤ 8192 && -5368709 ≤ gain && gain ≤ 5368709

/-- SLICE_CAL_COMPLETE (05 R133, R134, R140): coefficients within their limits are taken, and the step goes on; others
count as a failed calibration. Nothing else writes OFS and GAIN, so a slice keeps its last ones (R132). -/
def execSliceCalComplete (slice : Nat) (ofs gain : Int) (residualOk : Bool) (s : State) : Out :=
  let fg := s.flag .SAR_CAL_FGCAL
  let inStep := s.fld .SAR_CALPOS_PHASE = 2 && s.stepSlot = slice
  .next (
    if 17 ≤ slice || s.sliceRetired slice || !(fg || inStep) then s
    else if calInLimits ofs gain residualOk then
      let s := (s.setFld .SAR_COFS_OFS slice (ofSigned 16 ofs)).setFld .SAR_CGAIN_GAIN slice (ofSigned 24 gain)
      let s := ((s.setFld .SAR_CSTAT_OK slice 1).setFld .SAR_CSTAT_FAIL slice 0).setFld .SAR_CSTAT_AGE slice 0
      let s := s.when (!s.sar.exitFailed) (fun s => { s with sar := { s.sar with fails := s.sar.fails.set slice 0 } })
      if fg then s
      else if slice = 16 then s.roundDone
      else s.setFld .SAR_CALPOS_PHASE 0 3
    else s.calFailed slice)

/-! ### References and foreground calibration -/

/-- Foreground calibration starts (05 R133): no slot converts. -/
def State.startFgCal (s : State) : State :=
  { s.setFld .SAR_CAL_FGCAL 0 1 with sar := { s.sar with fgPending := false, exitFailed := false, fails := List.replicate 17 0 } }

/-- REF_READY_SET (05 R129, R133): the selected reference has settled; a pending foreground calibration starts. -/
def execRefReadySet (s : State) : Out :=
  .next (if s.domainHeld 5 then s else
    let s := (s.setFld .SAR_REF_REF_READY 0 1).setFld .SAR_REF_EXT_RANGE 0 0
    s.when (s.sar.fgPending && s.groupRunning 1) State.startFgCal)

/-- FOREGROUND_CAL_COMPLETE (05 R133): slots convert again, first the injected requests that were queued when it began
(assumption log, entry 107), and rotation starts at step 0 if ROT_EN is 1. -/
def execForegroundCalComplete (s : State) : Out :=
  .next (if s.flag .SAR_CAL_FGCAL then
    let s := (s.setFld .SAR_CAL_FGCAL 0 0).setFld .SAR_CALPOS_PHASE 0 5
    let s := { s with sar := { s.sar with nextStep := 0 } }
    s.each (List.range 16) (fun s k => s.when (s.sarConverts && (s.slot k).cur.isNone) (fun s => s.nextConv k))
  else s)

/-- REF_READY falls during a swap (05 Table 5-5): an entry is a lost opportunity, and an exit is retried. -/
def State.reverseSwap (s : State) : State :=
  if s.fld .SAR_CALPOS_PHASE = 1 then s.loseEntry
  else s.when (s.fld .SAR_CALPOS_PHASE = 4) State.loseExit

/-- VREFP_OUT_OF_RANGE (05 R129): with the external reference selected, EXT_RANGE is set and REF_READY falls. -/
def execVrefpOutOfRange (s : State) : Out :=
  .next (if s.fld .SAR_REF_SEL = 1 && !s.domainHeld 5 then
    ((s.setFld .SAR_REF_EXT_RANGE 0 1).setFld .SAR_REF_REF_READY 0 0).reverseSwap
  else s)

/-! ### Injected requests -/

/-- A swap of slot `k` awaits or makes its overlapped pair. -/
def State.swapping (s : State) (k : Nat) : Bool :=
  s.stepSlot = k && (s.fld .SAR_CALPOS_PHASE = 1 || s.fld .SAR_CALPOS_PHASE = 4)

/-- An injected request of slot `k` (05 R125, R135, R145, Table 5-8): discarded while the slot converts nothing, on an unbonded
input, or with a full queue; otherwise queued. The first one since the opportunity of a swap is noted by its time. -/
def State.inject (s : State) (k input ext : Nat) : State :=
  if !s.sarConverts then s.event .sar 0x0A 4 k
  else if !s.bonded input then s.event .sar 0x0A 3 k
  else if 4 ≤ (s.slot k).injQ.length then (s.setFld .SAR_STAT_INJOVF k 1).event .sar 0x0A 1 k
  else
    let s := s.modSlot k (fun p => { p with injQ := p.injQ ++ [(input, ext % 64)] })
    let s := s.setFld .SAR_STAT_INJQ k (s.slot k).injQ.length
    let s := s.when (s.swapping k && s.sar.injAt.isNone) (fun s => { s with sar := { s.sar with injAt := some s.ts } })
    s.when (s.slot k).cur.isNone (fun s => s.nextConv k)

/-- SAR_INJ_WRITE (05 R125). -/
def execSarInjWrite (core k input ext : Nat) (s : State) : Out :=
  .next (s.accessBlk core .sar (0x42000108 + 0x20 * k) (fun s => if k < 16 then s.inject k (input % 4) ext else s))

/-! ### Conversions -/

/-- The REASON of a conversion on slice `x` (05 R119, R129, R141; 01 R31): the highest applicable code. -/
def State.convReason (s : State) (x : Option Nat) (c : SarConv) : Nat :=
  match x with
  | none => 6
  | some x =>
    if !s.flag .SAR_REF_REF_READY then 4
    else
      let changed := match s.sar.lastInput.getD x none with
        | some i => i != c.input
        | none => false
      if c.ext = 0 && changed then 1 else 0

/-- The larger of two results less the smaller. -/
def absDiff (a b : Nat) : Nat := (a - b) + (b - a)

/-- One overlapped conversion is done (05 R136, R137): after the second, a confirmed match completes the swap and a
difference above MATCH_TOL reverses it. -/
def State.pairStep (s : State) (own subst : Nat) : State :=
  let bad := s.sar.pairBad || decide (s.fld .SAR_CAL_MATCH_TOL < absDiff own subst)
  let entry := s.fld .SAR_CALPOS_PHASE = 1
  if s.sar.pairDone = 0 then { s with sar := { s.sar with pairDone := 1, pairBad := bad } }
  else if entry then
    if bad then s.loseEntry
    else
      let s := { s with sar := { s.sar with pairDone := 0, pairBad := false, injAt := none } }
      (s.setFld .SAR_CALPOS_PHASE 0 2).setFld .SAR_MAP_SUBSLOT 0 s.stepSlot
  else if bad then
    let n := s.sar.exitFails + 1
    let s := { s.loseExit with sar := { s.loseExit.sar with exitFails := n } }
    s.when (n = 8) (fun s => State.calFailed { s with sar := { s.sar with exitFailed := true } } s.stepSlot)
  else s.exitDone

/-- A hold at tick `hold` counts for the pair of slot `k`: it falls at least 100 ns, which are 64 ticks, after the opportunity
(05 R135). Times are compared as differences of 32-bit timestamps. -/
def State.pairHold (s : State) (k hold : Nat) : Bool :=
  let d := (hold + 2 ^ 32 - s.sar.oppAt % 2 ^ 32) % 2 ^ 32
  s.swapping k && 64 ≤ d && d < 2 ^ 31

/-- An injected request entered the queue before `hold` (05 R135). -/
def State.injBefore (s : State) (hold : Nat) : Bool :=
  match s.sar.injAt with
  | some t => let d := (hold + 2 ^ 32 - t % 2 ^ 32) % 2 ^ 32; 0 < d && d < 2 ^ 31
  | none => false

/-- The opportunity of slot `k`'s swap is lost where an injected request entered the queue before the first overlapped hold
(05 R135, R139). -/
def State.judgePair (s : State) (k hold : Nat) : State :=
  s.when (s.pairHold k hold && s.sar.pairDone = 0 && s.injBefore hold) (fun s =>
    if s.fld .SAR_CALPOS_PHASE = 1 then s.loseEntry else s.loseExit)

/-- The slices that convert slot `k` at `hold`, with the one whose word is delivered first (05 R136): alone the serving slice;
in an overlapped pair first the outgoing one, then the incoming one. -/
def State.convSlices (s : State) (k hold : Nat) : Option Nat × List Nat :=
  if s.pairHold k hold then
    let first := s.sar.pairDone = 0
    (some (if (s.fld .SAR_CALPOS_PHASE = 1) = first then k else 16), [k, 16])
  else
    (s.servingSlice k, (s.servingSlice k).toList)

/-- The reference voltage in nV (05 R127): 2.5 V internal, or the applied one. -/
def State.vref (s : State) (applied : Nat) : Nat := if s.fld .SAR_REF_SEL = 0 then 2500000000 else applied

/-- RESULT = round(V_in / VREF × 2^18) for an input voltage in nV, straight binary, with 0 below 0 V and 0x3_FFFF at the top
(05 R117); which neighbour a tie goes to is not stated and free. -/
def State.sarResult (s : State) (vin : Int) (vref : Nat) : Nat × State :=
  if vin < 0 then (0, s)
  else
    let (v, s) := s.roundFree (vin * 2 ^ 18) vref
    (min v.toNat 0x3FFFF, s)

/-- The word of the conversion `c` in hand is delivered, and the slot goes on (05 R119, R123, R136, R137, R141). -/
def State.convert (s : State) (k own subst hold : Nat) (c : SarConv) : State :=
      let (x, conv) := if (s.slot k).stalled then (none, []) else s.convSlices k hold
      let reason := s.convReason x c
      let raw := if x = some 16 then subst else own
      let result := if reason = 6 then (s.slot k).lastValid else raw
      let w := mkWord result reason (4 * k + c.input) hold (x = some 16) c.inj
      let s := { s with sar := { s.sar with
        lastInput := conv.foldl (fun l x => l.set x (some c.input)) s.sar.lastInput } }
      let s := s.when (reason = 0) (fun s => s.modSlot k (fun p => { p with lastValid := result }))
      let s := s.when (reason ≠ 0) (fun s => s.count .SAR_STAT_INVALID k)
      let s := (s.setFld .SAR_LAST k (w.bits % 2 ^ 32)).modSlot k (fun p => { p with lastTs := w.ts })
      let s := s.when (conv.length = 2) (fun s => s.pairStep own subst)
      let s := s.modSlot k (fun p => { p with cur := none, stalled := false })
      let s := if s.sarConverts then s.nextConv k
        else s.modSlot k (fun p => { p with burst := false, entry := 0, pendingTrig := false })
      s.offer w true

/-- SAR_CONVERSION_COMPLETE (05 R115 to R119, R123, R127, R129, R135 to R137, R141): the input voltage as the slot's own slice and
the Substitute have held it, and the applied reference; the word of the conversion in hand is offered with its true hold instant,
an invalid word is counted, a slot without a slice repeats its last valid RESULT, and the slot goes on to its next conversion.
A burst and a trigger in hand when a foreground calibration begins end here (assumption log, entry 107). -/
def execSarConversionComplete (k : Nat) (own subst : Int) (hold : SarHold) (s : State) : Out :=
  .next (match (s.slot k).cur with
    | none => s
    | some c =>
      let (a, s) := s.sarResult own (s.vref hold.vref)
      let (b, s) := s.sarResult subst (s.vref hold.vref)
      (s.judgePair k hold.instant).convert k a b hold.instant c)

/-- The SAR group leaves RUNNING (05 R144, R145): the running conversion completes, queued requests are discarded with
one event 0x0A, DETAIL 4, for each slot that held any, triggers held are dropped, and the step is abandoned. -/
def State.sarLeave (s : State) : State :=
  let s := s.each (List.range 16) (fun s k =>
    let had := !(s.slot k).injQ.isEmpty
    let s := s.modSlot k (fun p => { p with injQ := [], pendingTrig := false, burst := false, entry := 0, due := 0 })
    let s := s.setFld .SAR_STAT_INJQ k 0
    s.when had (fun s => s.event .sar 0x0A 4 k))
  let busy := s.fld .SAR_CALPOS_PHASE ≠ 5
  let s := s.setFld .SAR_CAL_FGCAL 0 0
  let s := { s with sar := { s.sar with fgPending := s.sar.fgPending || busy, stepDue := false } }
  s.when busy State.abandonStep

/-- The SAR group's settings take effect (05 R129, R130): a new SEL drops REF_READY and asks for a foreground
calibration, which the first restart after a reset asks for as well; with the reference ready it starts at once. -/
def State.sarApplied (s : State) (oldSel : Nat) : State :=
  let s := s.when (s.fld .SAR_REF_SEL ≠ oldSel) (fun s =>
    { (s.setFld .SAR_REF_REF_READY 0 0).setFld .SAR_REF_EXT_RANGE 0 0 with sar := { s.sar with fgPending := true } })
  s.when (s.sar.fgPending && s.flag .SAR_REF_REF_READY) State.startFgCal

end Sys2Proof.Machine
end

