-- ==== Sys2Proof/Machine/Modulator.lean ====
section
/-!
DEFINITION. The isolated modulator inputs: losses, the main filter's words with the fractional delay, and the guards (06).
-/
namespace Sys2Proof.Machine

/-- Channel `n` beside its registers. -/
def State.chan (s : State) (n : Nat) : ModChan := s.sd.getD n {}

/-- Channel `n` changed by `f`. -/
def State.modChan (s : State) (n : Nat) (f : ModChan → ModChan) : State := { s with sd := modAt s.sd n {} f }

/-- The clock or the data of channel `n` is lost (06 R149). -/
def State.chanLost (s : State) (n : Nat) : Bool := s.bit .MOD_STAT_CLKLOST 0 (n / 4) || s.bit .MOD_DLOST_LOST 0 n

/-! ### The filters -/

/-- Sums of `m` neighbours of a list, one for each place that has them. -/
def boxcar (m : Nat) : List Nat → List Nat
  | [] => []
  | x :: r => if m ≤ r.length + 1 then ((x :: r).take m).sum :: boxcar m r else []

/-- A sinc filter of order `n` and length `m` over the newest bits, scaled to `(2d − 1) × 2^k` for the ones-density `d` over its
response: numerator and denominator (06 R150, R151, R159). -/
def sincScaled (n m k : Nat) (l : List Bool) : Int × Nat :=
  let ones := ((List.range n).foldl (fun l _ => boxcar m l) (l.map Bool.toNat)).headD 0
  ((2 * (ones : Int) - (m ^ n : Nat)) * 2 ^ k, m ^ n)

/-- A main-filter output in 18 bits (06 R151). -/
def sat18 (y : Int) : Int := clampInt (-131072) 131071 y

/-- The output of a main filter of order `n` and ratio `m` over bits, the newest first; of a tie, which neighbour is free. -/
def State.mainOutput (s : State) (n m : Nat) (l : List Bool) : Int × State :=
  let (num, den) := sincScaled n m 17 l
  let (v, s) := s.roundFree num den
  (sat18 v, s)

/-- The levels a channel has received, the newest first. -/
def ModChan.levels (c : ModChan) : List Bool := c.bits.map (·.1)

/-- Bits after which a guard filter of length `g` shows its final value (06 R160). -/
def guardSpan (g : Nat) : Nat := 2 * (g - 1) + 1

/-- The guard output (06 R159). Its length makes no tie. -/
def guardValue (g : Nat) (l : List Bool) : Int :=
  let (num, den) := sincScaled 2 g 15 l
  clampInt (-32768) 32767 ((2 * num + den) / (2 * den))

/-- The guard filter of channel `n` has taken the bits of its whole response since it started (06 R162). -/
def State.guardFull (s : State) (n : Nat) : Bool := guardSpan (s.fld .MOD_CFG_GOSR n) ≤ (s.chan n).guardTaken

/-- The guard output of channel `n` lies between LO and HI (06 R159). Before the filter has its bits the output is free. -/
def State.guardInside (s : State) (n : Nat) : Bool × State :=
  let inside (out : Int) : Bool := s.sfld .MOD_GTHR_LO n ≤ out && out ≤ s.sfld .MOD_GTHR_HI n
  if s.guardFull n then (inside (guardValue (s.fld .MOD_CFG_GOSR n) (s.chan n).levels), s)
  else let (x, s) := s.fresh 16; (inside (toSigned 16 x), s)

/-! ### Guard trips and losses -/

/-- A guard trip asserts (06 R159, R162), counted when it was not asserted. In a case of R162 its filter starts anew, and the
trip clears without CLR, unless a hold-mode trip stands that waits for CLR. -/
def State.guardAssert (s : State) (n : Nat) (initial : Bool) : State :=
  let was := s.flag .MOD_GCFG_TRIPPED n
  let held := was && s.flag .MOD_GCFG_LATCH n && !(s.chan n).initial
  let s := s.when (!was) (fun s => s.count .MOD_STAT_GTRIPS n)
  let s := s.setFld .MOD_GCFG_TRIPPED n 1
  s.when initial (fun s => s.modChan n (fun c => { c with initial := !held, guardTaken := 0 }))

/-- A guard trip clears. -/
def State.guardClear (s : State) (n : Nat) : State :=
  ((s.setFld .MOD_GCFG_TRIPPED n 0).modChan n (fun c => { c with initial := false })).settleTrips

/-- A loss holds the guard trip of channel `n` asserted (06 R162). -/
def State.lossHolds (s : State) (n : Nat) : Bool := s.chanLost n && s.flag .MOD_GCFG_LOSSTRIP n

/-- Channels `l` lose their clock or data (06 R154, R162): their words carry REASON 5 from now on, and with LOSSTRIP the
guard trip asserts. -/
def State.chansLose (s : State) (l : List Nat) : State :=
  (s.each l (fun s n =>
    let s := s.modChan n (fun c => { c with markLoss := 4 })
    s.when (s.flag .MOD_GCFG_LOSSTRIP n) (fun s => s.guardAssert n true))).settleTrips

/-- A loss has ended for channels `l` (06 R154, R162): four words more carry REASON 5, and the guard trip is asserted. -/
def State.chansRecover (s : State) (l : List Nat) : State :=
  (s.each l (fun s n => s.when (!s.chanLost n) (fun s =>
    (s.modChan n (fun c => { c with markLoss := 4 })).guardAssert n true))).settleTrips

/-- The channels of clock pin `j` that the variant has (06 R147). -/
def State.pinChans (s : State) (j : Nat) : List Nat := (List.range 4).filterMap (fun i =>
  if s.hasMd (4 * j + i) then some (4 * j + i) else none)

/-- Clock pin `j` works in output or input mode, outside a whole-die reset and with its domain out of reset (01 R44). -/
def State.pinOn (s : State) (j : Nat) : Bool :=
  s.hasMclk j && s.rst.phase == .none && !s.domainHeld 5 && (s.fld .MOD_CLK_MODE j == 1 || s.fld .MOD_CLK_MODE j == 2)

/-- MOD_CLOCK_LOST (06 R149): no rising edge for 1 µs, or in input mode more than 260 of them within 10 µs. -/
def execModClockLost (loss : ClockLoss) (s : State) : Out :=
  let (j, found) := match loss with
    | .stopped j => (j, true)
    | .fast j k => (j, s.fld .MOD_CLK_MODE j == 2 && decide (260 < k))
  .next (if s.pinOn j && found && !s.bit .MOD_STAT_CLKLOST 0 j then
    let s := (s.setBit .MOD_STAT_CLKLOST 0 j true).setBit .MOD_STAT_CLKEV 0 j true
    (s.event .modulator 0x0B 0 j).chansLose (s.pinChans j)
  else s)

/-- The delay in force as a fraction of 1/1024 output period: a ramp moves in four equal steps (06 R156). -/
def ModChan.delay (c : ModChan) (fdly : Nat) : Nat × Nat :=
  if 4 ≤ c.rampStep then (fdly, 1)
  else (c.rampNum * (4 - c.rampStep) + fdly * c.rampDen * c.rampStep, 4 * c.rampDen)

/-- Numerator and denominator of the cubic Lagrange interpolation at `a / b` between outputs n − 1 and n − 2, over the
outputs n to n − 3 (06 R155). -/
def lagrange (y0 y1 y2 y3 : Int) (a b : Int) : Int × Int :=
  (y0 * (-a * (a - b) * (a - 2 * b)) + y1 * (3 * (a + b) * (a - b) * (a - 2 * b))
    + y2 * (-3 * (a + b) * a * (a - 2 * b)) + y3 * ((a + b) * a * (a - b)), 6 * b * b * b)

/-- The word's value, and the state that has used its free values: exact where the interpolation gives a whole number in
range; otherwise one of the two neighbours, and outside the range any value, since the spec states no rounding there
(assumption log, entry 21). Without the outputs it is formed from, any value. -/
def State.interpolate (s : State) (n : Nat) : Int × State :=
  let c := s.chan n
  let (p, q) := c.delay (s.fld .MOD_FDLY_FDLY n)
  let any : Int × State := let (f, s) := s.fresh 18; (toSigned 18 f, s)
  match p, c.outs with
  | 0, _ :: y1 :: _ => (y1, s)
  | _ + 1, [y0, y1, y2, y3] =>
    let (num, den) := lagrange y0 y1 y2 y3 p (1024 * q)
    let v := num / den
    if num % den = 0 ∧ -131072 ≤ v ∧ v ≤ 131071 then (v, s)
    else if -131072 ≤ v ∧ v < 131071 then let (f, s) := s.fresh 1; (v + f, s)
    else any
  | _, _ => any

/-- The main-filter output of channel `n` at a decimation edge and the instant of its centre bit, kc bits before (06 R150 to
R152); free while the filter lacks the bits of its response. -/
def State.mainStep (s : State) (n : Nat) : (Int × Nat) × State :=
  let order := 3 + s.fld .MOD_CFG_ORDER n
  let m := s.fld .MOD_CFG_OSR n
  let c := s.chan n
  match c.bits[order * (m - 1) / 2]? with
  | some b =>
    if order * (m - 1) < c.taken then let (y, s) := s.mainOutput order m c.levels; ((y, b.2), s)
    else let (y, s) := s.fresh 18; ((toSigned 18 y, b.2), s)
  | none => let (y, s) := s.fresh 18; let (t, s) := s.fresh 32; ((toSigned 18 y, t), s)

/-- REASON of a channel's word (06 R154, 01 R31). -/
def State.modReason (s : State) (n : Nat) : Nat :=
  let c := s.chan n
  if s.chanLost n || 0 < c.markLoss then 5 else if 0 < c.markDelay then 3 else if 0 < c.markEn || 0 < c.markOrd then 2 else 0

/-- A decimation edge of channel `n` (06 R150 to R157): the word formed from the outputs up to this one, with the centre instant
of the output before it and its settling mark, takes its place on spine 2. -/
def State.modWord (s : State) (n : Nat) : State :=
  let ((y, t), s) := s.mainStep n
  let (ts, s) := match (s.chan n).centre with
    | some t => (t, s)
    | none => s.fresh 32
  let lost := s.chanLost n
  let reason := s.modReason n
  let s := s.modChan n (fun c => { c with
    outs := (y :: c.outs).take 4, centre := some t, rampStep := if c.rampStep < 4 then c.rampStep + 1 else 4,
    since := 0, syncDue := false, finishing := false,
    markEn := c.markEn - 1, markOrd := c.markOrd - 1, markDelay := c.markDelay - 1,
    markLoss := if lost then 4 else c.markLoss - 1 })
  let (v, s) := s.interpolate n
  let w := mkWord (ofSigned 18 v) reason (0x40 + n) ts false false
  let s := s.when (reason != 0) (fun s => s.count .MOD_STAT_INVALID n)
  let s := (s.setFld .MOD_LAST n (w.bits % 2 ^ 32)).modChan n (fun c => { c with lastTs := w.ts })
  s.offer w true

/-- The sampling edge just taken is a decimation edge of channel `n` (06 R150, R153): every M-th edge since the group's restart,
or with SYNC the first edge after the PWM event and every M-th from there. -/
def State.decimates (s : State) (n : Nat) : Bool :=
  let c := s.chan n
  let m := s.fld .MOD_CFG_OSR n
  s.bit .MOD_CTRL_CH_EN 0 n && (s.groupRunning 2 || c.finishing)
    && (if s.fld .MOD_CFG_SYNC n = 1 then c.syncDue || m ≤ c.since else c.edges % m = 0)

/-- A channel takes the level sampled at the edge of tick `t`. Its history keeps the longest response, sinc4 with M = 512. -/
def ModChan.take (c : ModChan) (level : Bool) (t : Nat) : ModChan :=
  { c with
    run := if (c.bits.head?).any (fun b => b.1 == level) then c.run + 1 else 1
    bits := ((level, t) :: c.bits).take 2045
    edges := c.edges + 1, since := c.since + 1, taken := c.taken + 1, guardTaken := c.guardTaken + 1 }

/-- The data of channel `n` is lost after a run of one level, and found when the level changes (06 R149). -/
def State.dataCheck (s : State) (n : Nat) : State :=
  let stuck := decide (32 * 2 ^ s.fld .MOD_CLK_STUCK (n / 4) ≤ (s.chan n).run)
  match stuck, s.bit .MOD_DLOST_LOST 0 n with
  | true, false =>
    let s := (s.setBit .MOD_DLOST_LOST 0 n true).setBit .MOD_DLEV_EV 0 n true
    (s.event .modulator 0x0B 0 n).chansLose [n]
  | false, true => (s.setBit .MOD_DLOST_LOST 0 n false).chansRecover [n]
  | _, _ => s

/-- The guard of channel `n` after a bit (06 R159, R162): with its response full, an output outside LO and HI asserts the trip,
and one inside clears a trip of R162 that no loss holds. -/
def State.guardCheck (s : State) (n : Nat) : State :=
  if !s.flag .MOD_GCFG_GEN n || !s.guardFull n then s else
  let (inside, s) := s.guardInside n
  if !inside then (if s.flag .MOD_GCFG_TRIPPED n then s else (s.guardAssert n false).settleTrips)
  else if s.flag .MOD_GCFG_TRIPPED n && (s.chan n).initial && !s.lossHolds n then s.guardClear n
  else s

/-- Channel `n` takes a bit: its loss detection, its guard and its main filter. -/
def State.feedBit (s : State) (n : Nat) (level : Bool) (t : Nat) : State :=
  let s := (((s.modChan n (fun c => c.take level t)).dataCheck n).guardCheck n)
  s.when (s.decimates n) (fun s => s.modWord n)

/-- A period of clock pin `j` (06 R147, R148): each of its channels takes the level of its ball at the edge EDGE selects, DLY
after it. With its bank absent the pin has no clock (02 R55). -/
def State.feedPeriod (s : State) (j : Nat) (k : MdClock) : State :=
  if s.pinOn j && s.bankOn 2 then
    let falling := s.flag .MOD_CLK_EDGE j
    let dly := s.fld .MOD_CLK_DLY j
    s.each (s.pinChans j) (fun s n =>
      let seen := (if falling then k.atFall else k.atRise).getD (n % 4) 0
      s.feedBit n (seen.testBit dly) (if falling then k.fall else k.rise))
  else s

/-- Periods of clock pin `j`, in order. -/
def State.feedPin (s : State) (j : Nat) (l : List MdClock) : State := s.each l (fun s k => s.feedPeriod j k)

/-- MOD_DECIMATION (06 R150 to R158): clock periods up to a decimation edge. -/
def execModDecimation (j : Nat) (before : List MdClock) (last : MdClock) (s : State) : Out :=
  .next (s.feedPin j (before ++ [last]))

/-- MOD_DATA_LOST (06 R149): clock periods up to a run of one level. -/
def execModDataLost (run : PinPeriods) (s : State) : Out := .next (s.feedPin run.pin run.clocks)

/-- MOD_LOSS_END (06 R149): the clock of the pin runs again within its limits, if it was lost, and its periods follow; with the
first change of level a data loss ends. -/
def execModLossEnd (j : Nat) (clocks : List MdClock) (s : State) : Out :=
  .next ((s.when (s.pinOn j && s.bankOn 2 && s.bit .MOD_STAT_CLKLOST 0 j) (fun s =>
    (s.setBit .MOD_STAT_CLKLOST 0 j false).chansRecover (s.pinChans j))).feedPin j clocks)

/-- GUARD_TRIP_ASSERT (06 R159): clock periods up to a guard output outside LO and HI. -/
def execGuardTripAssert (j : Nat) (clocks : List MdClock) (s : State) : Out := .next (s.feedPin j clocks)

/-- GUARD_SETTLE_CLEAR (06 R162): clock periods up to the settling of a guard. -/
def execGuardSettleClear (j : Nat) (clocks : List MdClock) (s : State) : Out := .next (s.feedPin j clocks)

/-- Event `evt` of module `m` (05 Table 5-1): a trigger of SAR slots, and a decimation edge of synchronised channels at the next
sampling edge (06 R153). -/
def State.pwmEvent (s : State) (m evt : Nat) : State :=
  (s.pwmOccurs m evt).each (List.range 24) (fun s n =>
    s.when (s.fld .MOD_CFG_SYNC n == 1 && s.fld .MOD_CFG_PMSEL n == m && s.fld .MOD_CFG_EVT n == evt)
      (fun s => s.modChan n (fun c => { c with syncDue := true })))

/-- The modulator group enters Recess (06 R163): the main filters stop after their current word. -/
def State.modLeave (s : State) : State :=
  s.each (bitsOf 24 (s.fld .MOD_CTRL_CH_EN)) (fun s n => s.modChan n (fun c => { c with finishing := true }))

/-- A write of FDLY (06 R154, R156, R158): discarded when it is nonzero and the channel is synchronised; otherwise it takes
effect at the next word, in four steps from the delay in force. -/
def State.fdlyWrite (s : State) (n v : Nat) : State :=
  if !s.hasMd n then s
  else if s.fld .MOD_CFG_SYNC n = 1 ∧ v % 1024 ≠ 0 then s.discarded .modulator (0x43000104 + 0x20 * n)
  else
    let (p, q) := (s.chan n).delay (s.fld .MOD_FDLY_FDLY n)
    (s.setFld .MOD_FDLY_FDLY n v).modChan n (fun c => { c with rampNum := p, rampDen := q, rampStep := 0, markDelay := 4 })

/-- MOD_FDLY_WRITE (06 R156). -/
def execModFdlyWrite (core n fdly : Nat) (s : State) : Out :=
  .next (s.accessBlk core .modulator (0x43000104 + 0x20 * n) (fun s => s.fdlyWrite n fdly))

/-- A 1 written to CLR (06 R161): a hold-mode trip clears while the output lies between LO and HI and no loss holds it. -/
def State.guardClr (s : State) (n : Nat) : State :=
  if s.hasMd n && s.flag .MOD_GCFG_TRIPPED n && s.flag .MOD_GCFG_LATCH n && !s.lossHolds n then
    let (inside, s) := s.guardInside n
    if inside then s.guardClear n else s
  else s

/-- MOD_GUARD_CLR (06 R161): a write of 0 to CLR does nothing. -/
def execModGuardClr (core n : Nat) (clr : Bool) (s : State) : Out :=
  .next (s.accessBlk core .modulator (0x4300010C + 0x20 * n) (fun s => s.when clr (fun s => s.guardClr n)))

/-- The modulator settings take effect (06 R154, R162): `before` gives the old CH_EN, and by channel the old ORDER, OSR,
GOSR and GEN. Decimation edges count from here. -/
def State.modApplied (s : State) (chEn : Nat) (before : List (Nat × Nat × Nat × Nat)) : State :=
  let s := s.each (List.range 24) (fun s n =>
    let (ord, osr, gosr, gen) := before.getD n (0, 0, 0, 0)
    let changed := s.fld .MOD_CFG_ORDER n != ord || s.fld .MOD_CFG_OSR n != osr
    let order := 3 + s.fld .MOD_CFG_ORDER n
    let s := s.modChan n (fun c => { c with edges := 0, finishing := false })
    let s := s.when changed (fun s => s.modChan n (fun c => { c with
      taken := 0, markOrd := if s.fld .MOD_FDLY_FDLY n = 0 then order else order + 3 }))
    let s := s.when (s.bit .MOD_CTRL_CH_EN 0 n && !chEn.testBit n) (fun s => s.modChan n (fun c => { c with
      taken := 0, outs := [], centre := none, markEn := 4 }))
    s.when (s.flag .MOD_GCFG_GEN n && gen == 0 || s.fld .MOD_CFG_GOSR n != gosr) (fun s => s.guardAssert n true))
  s.settleTrips

end Sys2Proof.Machine
end

