-- ==== Sys2Proof/Machine/Bursar.lean ====
section
/-!
DEFINITION. The Bursar (13): pairing, metering cycles, accumulators, voltage events, latches, saves, restore and theft
metering.
-/
namespace Sys2Proof.Machine

/-- A register of the Bursar block. -/
def burAddr (ofs : Nat) : Nat := 0x46000000 + ofs

/-! ### Pairing -/

/-- The signed distance of two 32-bit timestamps. -/
def tsDiff (a b : Nat) : Int := toSigned 32 (a + 2 ^ 32 - b % 2 ^ 32)

/-- The current words on either side of an instant: the latest at or before it, and the first at or after it (13 R318). -/
def bracket (l : List BurWord) (t : Nat) : Option BurWord × Option BurWord :=
  (l.reverse.find? (fun w => tsDiff w.ts t ≤ 0), l.find? (fun w => 0 ≤ tsDiff w.ts t))

/-- The current at an instant between two words, interpolated linearly in binary64. -/
def interpolate (a b : BurWord) (t : Nat) : Fp :=
  let x := Fp.of64 a.value
  let d := tsDiff b.ts a.ts
  if d ≤ 0 then x
  else x.add (((Fp.of64 b.value).sub x).mul (Fp.div b64 (.ofInt (tsDiff t a.ts)) (.ofInt d)))

/-- BURSAR_PAIR (13 R318, R319): the oldest voltage word of a phase is paired with the current at TIMESTAMP + PH once the
later current word is at hand; a pair of a gap contributes nothing and its Δt is gap time. -/
def execBursarPair (q x : Nat) (s : State) : Out :=
  .next (
    let p := s.phase q x
    match p.volts with
    | [] => s
    | v :: rest =>
      let t := (v.ts + ofSigned 32 (s.sfld .BUR_PH_PH (3 * q + x))) % 2 ^ 32
      match bracket p.amps t with
      | (_, none) => s
      | (none, some _) => s.modPhase q x (fun p => { p with volts := rest, prev := some v.ts })
      | (some a, some b) =>
        let dt : Nat := match p.prev with
          | some u => (tsDiff v.ts u).toNat
          | none => 0
        let s := s.modPhase q x (fun p => { p with
          volts := rest, prev := some v.ts, amps := p.amps.dropWhile (fun w => decide (tsDiff w.ts a.ts < 0)) })
        if v.ok && a.ok && b.ok then
          match (s.point q).start with
          | none => s
          | some st =>
            let i := interpolate a b t
            let vv := Fp.of64 v.value
            let e := (vv.mul vv).mul (.ofInt (dt : Int))
            s.modPhase q x (fun p => { p with
              pairs := ((tsDiff v.ts st).toNat, v.value, i.bits64, dt) :: p.pairs
              half := (((Fp.of64 p.half.1).add e).bits64, p.half.2 + dt) })
        else
          { s with bur := { s.bur with accs := modAt s.bur.accs q {} (fun a => { a with gap := a.gap + dt }) } })

/-! ### Cycle arithmetic -/

/-- A span of Edge ticks in seconds, binary64. -/
def tickSeconds (n : Nat) : Fp := roundTo b64 false n 640000000 0

/-- Σ of terms in binary64, oldest pair first. -/
def fpSum (l : List (Nat × Nat × Nat × Nat)) (f : Nat → Fp → Fp → Fp → Fp) : Fp :=
  l.foldr (fun p a => a.add (f p.1 (.of64 p.2.1) (.of64 p.2.2.1) (tickSeconds p.2.2.2))) Fp.zero

/-- cos or sin of ωt over a cycle of `len` ticks. -/
def cycleTrig (cosine : Bool) (t len : Nat) : Fp :=
  match roundTo b64 false (twoPi256 * t) len (-256) with
  | .fin n m e => let r := trig cosine n m e; roundTo b64 (decide (r < 0)) r.natAbs 1 (-64)
  | _ => .nan

/-- What a phase contributes to a cycle (13 R321). -/
structure PhaseSums where
  energy : Fp
  v : Fp
  i : Fp
  p1 : Fp
  q1 : Fp
  s1 : Fp

/-- The sums of a phase over a cycle of `len` ticks (13 R321). -/
def phaseSums (l : List (Nat × Nat × Nat × Nat)) (len : Nat) : PhaseSums :=
  let tt := tickSeconds len
  let two := Fp.ofInt 2
  let rms (f : Fp → Fp → Fp) := Fp.sqrt b64 (Fp.div b64 (fpSum l (fun _ v i dt => ((f v i).mul (f v i)).mul dt)) tt)
  let part (cosine : Bool) (f : Fp → Fp → Fp) :=
    Fp.div b64 (two.mul (fpSum l (fun t v i dt => ((f v i).mul (cycleTrig cosine t len)).mul dt))) tt
  let vre := part true (fun v _ => v)
  let vim := (part false (fun v _ => v)).neg
  let ire := part true (fun _ i => i)
  let iim := (part false (fun _ i => i)).neg
  let half (x : Fp) := Fp.div b64 x two
  let mag (a b : Fp) := Fp.sqrt b64 ((a.mul a).add (b.mul b))
  { energy := fpSum l (fun _ v i dt => (v.mul i).mul dt)
    v := rms (fun v _ => v), i := rms (fun _ i => i)
    p1 := half ((vre.mul ire).add (vim.mul iim))
    q1 := half ((vim.mul ire).sub (vre.mul iim))
    s1 := half ((mag vre vim).mul (mag ire iim)) }

/-- An energy or charge as a count of internal LSBs, 2^-32 of 0.36 J (or As), to the nearest (13 R322, R323). Where the
energy is no number the spec states no increment: a free value (assumption log, entry 5). -/
def State.increment (s : State) (x : Fp) : Nat × State :=
  if x.finite then
    (((Fp.div b64 ((x.abs).mul (.fin false 1 32)) (roundTo b64 false 36 100 0)).toIntEven).toNat, s)
  else s.fresh 64

/-- Accumulator `a` of a list grows by an energy, whole (13 R322), in 96 bits (13 R323). -/
def State.accumulate (s : State) (l : List Nat) (a : Nat) (x : Fp) : List Nat × State :=
  let (n, s) := s.increment x
  (modAt l a 0 (fun v => (v + n) % 2 ^ 96), s)

/-- The quadrant register of a set, from the signs of P and Q; exactly 0 counts as positive (13 Table 13-1). -/
def quadrant (p q : Fp) : Nat :=
  match p.lt Fp.zero, q.lt Fp.zero with
  | false, false => 2
  | true, false => 3
  | true, true => 4
  | false, true => 5

/-- The set of eight accumulators from `base` on takes a cycle's P·T, Q·T and S·T (13 Table 13-1). -/
def State.accumulateSet (s : State) (l : List Nat) (base : Nat) (pt qt st p q : Fp) : List Nat × State :=
  let neg := p.lt Fp.zero
  let (l, s) := s.accumulate l (base + neg.toNat) pt
  let (l, s) := s.accumulate l (base + quadrant p q) qt
  s.accumulate l (base + 6 + neg.toNat) st

/-- The last cycle's published words (13 Table 13-7, BUR_PUBq), as binary32. -/
def State.publish (s : State) (q : Nat) (l : List Fp) : State :=
  s.each (List.range 12) (fun s k => s.setFld .BUR_PUB (12 * q + k) ((l.getD k Fp.zero).bits32))

/-- The sum of a quantity over the phases of a cycle. -/
def overPhases (ph : List PhaseSums) (f : PhaseSums → Fp) : Fp := ph.foldl (fun a p => a.add (f p)) Fp.zero

/-- The accumulators of a DC point after a cycle of `tt` seconds, and its published values (13 R322, Table 13-1). -/
def State.closeDc (s : State) (q : Nat) (ph : List PhaseSums) (tt : Fp) (acc : List Nat) : List Nat × State :=
  let pick (f : PhaseSums → Fp) : Fp := (ph[0]?.map f).getD Fp.zero
  let e := overPhases ph PhaseSums.energy
  let c := fpSum (s.phase q 0).pairs (fun _ _ i dt => i.mul dt)
  let (acc, s) := s.accumulate acc (if e.lt Fp.zero then 1 else 0) e
  let (acc, s) := s.accumulate acc (if c.lt Fp.zero then 3 else 2) c
  (acc, s.publish q [pick PhaseSums.v, pick PhaseSums.i, Fp.div b64 e tt])

/-- The accumulators of an AC point after a cycle of `tt` seconds, and its published values (13 R322, Table 13-1). -/
def State.closeAc (s : State) (q : Nat) (ph : List PhaseSums) (tt : Fp) (acc : List Nat) : List Nat × State :=
  let e := overPhases ph PhaseSums.energy
  let p := Fp.div b64 e tt
  let p1 := overPhases ph PhaseSums.p1
  let q1 := overPhases ph PhaseSums.q1
  let ss := overPhases ph (fun x => x.v.mul x.i)
  let s1 := overPhases ph PhaseSums.s1
  let qm := Fp.sqrt b64 (let d := (ss.mul ss).sub (p.mul p); if d.lt Fp.zero then Fp.zero else d)
  let qq := if q1.lt Fp.zero then qm.neg else qm
  let (acc, s) := s.accumulateSet acc 0 e (qq.mul tt) (ss.mul tt) p qq
  let (acc, s) := s.accumulateSet acc 8 (p1.mul tt) (q1.mul tt) (s1.mul tt) p1 q1
  (acc, s.publish q ((ph.map PhaseSums.v) ++ (ph.map PhaseSums.i) ++ [p, qq, ss, p1, q1, Fp.div b64 (.ofInt 1) tt]))

/-- The accumulators of a point after a cycle (13 Table 13-1). -/
def State.closeSums (s : State) (q : Nat) (ph : List PhaseSums) (tt : Fp) (acc : List Nat) : List Nat × State :=
  if 4 ≤ q then s.closeDc q ph tt acc else s.closeAc q ph tt acc

/-- The pairs of a cycle that ends `len` ticks after its start, and those after its end, counted from there. -/
def cyclePairs (l : List (Nat × Nat × Nat × Nat)) (len : Nat) :
    List (Nat × Nat × Nat × Nat) × List (Nat × Nat × Nat × Nat) :=
  (l.filter (fun p => p.1 ≤ len), (l.filter (fun p => len < p.1)).map (fun p => (p.1 - len, p.2)))

/-- A cycle of `len` ticks ends at point `q` (13 R321, R322, R324): its energies enter the accumulators, which are
committed to the Caretaker SRAM, and the point's values are published. Pairs after its end belong to the next cycle. -/
def State.closeCycle (s : State) (q len : Nat) : State :=
  let rest := (List.range 3).map (fun x => (cyclePairs (s.phase q x).pairs len).2)
  let s := s.each (List.range 3) (fun s x => s.modPhase q x (fun p => { p with pairs := (cyclePairs p.pairs len).1 }))
  let tt := tickSeconds len
  let ph := (List.range 3).map (fun x => phaseSums (s.phase q x).pairs len)
  let acc := (s.acc q).now
  let (acc, s) := s.closeSums q ph tt acc
  let s := s.each (List.range 3) (fun s x => s.modPhase q x (fun p => { p with pairs := rest.getD x [] }))
  { s with
    bur := { s.bur with accs := modAt s.bur.accs q {} (fun a => { a.commit acc with ended := some s.tb }) }
    ct := { s.ct with changed := true } }

/-- The nominal cycle of a point in Edge ticks: 1/F_NOM, and exactly 20 ms for a DC point (13 R320). -/
def State.nominalCycle (s : State) (q : Nat) : Nat :=
  if 4 ≤ q then 12800000 else if s.flag .BUR_CFG_F60 q then 10666667 else 12800000

/-- A crossing counts (13 R320): 1/69 s to 1/42.5 s after the previous one, with a phase-a rms of at least 0.10 × U_DIN. -/
def State.crossingCounts (s : State) (q len : Nat) : Bool :=
  640000000 ≤ len * 69 && len * 85 ≤ 1280000000 &&
    ((Fp.of32 (s.fld .BUR_UDIN q)).mul (roundTo b64 false 1 10 0)).le (phaseSums (s.phase q 0).pairs len).v

/-- METERING_CYCLE_END (13 R320, R322): the first crossing starts a cycle; from then on a cycle ends at a crossing that
counts, otherwise one nominal cycle after its start. -/
def execMeteringCycleEnd (q len : Nat) (s : State) : Out :=
  .next (if !s.metering q then s else
    match (s.point q).start with
    | none =>
      let s := s.each (List.range 3) (fun s x => s.modPhase q x (fun p => { p with pairs := [], half := (0, 0), halfWas := none }))
      s.modPoint q (fun p => { p with start := some (s.tb) })
    | some st =>
      let t := if q < 4 && s.crossingCounts q len then len else s.nominalCycle q
      (s.closeCycle q t).modPoint q (fun p => { p with start := some (st + t) }))

/-! ### Voltage events -/

/-- Urms(1/2) of a phase in 1/10 000 of U_DIN over its last two half-cycles; nothing without pairs (13 R328). -/
def State.urms (s : State) (q x : Nat) : Option Fp :=
  let p := s.phase q x
  match p.halfWas with
  | none => none
  | some (e, n) =>
    if n + p.half.2 = 0 then none else
    let u := Fp.sqrt b64 (Fp.div b64 ((Fp.of64 e).add (.of64 p.half.1)) (.ofInt (n + p.half.2 : Nat)))
    some ((Fp.div b64 u (.of32 (s.fld .BUR_UDIN q))).mul (.ofInt 10000))

/-- A value in whole 1/10 000, to the nearest, saturating at 65 535. -/
def rel (x : Fp) : Nat := min x.toIntEven.toNat 65535

/-- One voltage event judged at a half-cycle boundary (13 R328, R329): it starts with a notice, counts half-cycles, keeps its
extreme, and ends with a record that also goes to the Library event log ring. -/
def State.judge (s : State) (q code : Nat) (ev : Option BurEvent) (starts ends : Bool) (phases now : Nat)
    (worse : Nat → Nat → Nat) : State × Option BurEvent :=
  match ev with
  | none =>
    if starts then
      (s.burEvent code q phases false now 0 s.tb, some { start := s.tb, halves := 0, phases := phases, extreme := now })
    else (s, none)
  | some e =>
    let e := { e with halves := e.halves + 1, phases := e.phases ||| phases, extreme := worse e.extreme now }
    if ends then
      let s := s.burEvent code q e.phases true e.extreme e.halves e.start
      (s.libRecord 0 5 0x10 (leBytes 16 (burPayload code q e.phases true e.extreme e.halves e.start)), none)
    else (s, some e)

/-- A half-cycle in which no phase has a value: running events count it and keep their extremes (13 Table 13-6). -/
def BurPoint.halfPasses (p : BurPoint) : BurPoint :=
  let next (e : Option BurEvent) : Option BurEvent := e.map (fun e => { e with halves := e.halves + 1 })
  { p with sag := next p.sag, swell := next p.swell, inter := next p.inter }

/-- HALF_CYCLE_BOUNDARY (13 R328, Table 13-3). -/
def execHalfCycleBoundary (q : Nat) (s : State) : Out :=
  .next (if !s.metering q || 4 ≤ q then s else
    let l := ((List.range 3).filter (fun x => s.vSource q x != 0xFF)).filterMap (fun x => (s.urms q x).map (fun u => (x, u)))
    let s := s.each (List.range 3) (fun s x => s.modPhase q x (fun p => { p with halfWas := some p.half, half := (0, 0) }))
    if l.isEmpty then s.modPoint q BurPoint.halfPasses else
    let at_ (n : Nat) : Fp := .ofInt n
    let sag := s.fld .BUR_EVT_SAG q
    let swl := s.fld .BUR_EVT_SWL q
    let int_ := s.fld .BUR_EVT2_INT q
    let hys := s.fld .BUR_EVT2_HYS q
    let mask (f : Fp → Bool) : Nat := (l.filter (fun e => f e.2)).foldl (fun a e => a + 2 ^ e.1) 0
    let low := l.foldl (fun a e => min a (rel e.2)) 65535
    let high := l.foldl (fun a e => max a (rel e.2)) 0
    let p := s.point q
    let below := mask (fun u => u.lt (at_ sag))
    let above := mask (fun u => (at_ swl).lt u)
    let gone := mask (fun u => u.lt (at_ int_))
    let (s, sagE) := s.judge q 0x70 p.sag (below != 0) (l.all (fun e => (at_ (sag + hys)).le e.2)) below low min
    let (s, swlE) := s.judge q 0x71 p.swell (above != 0)
      (l.all (fun e => e.2.le (.ofInt ((swl : Int) - hys)))) above high max
    let (s, intE) := s.judge q 0x72 p.inter (l.all (fun e => e.2.lt (at_ int_)))
      (l.any (fun e => (at_ (int_ + hys)).le e.2)) gone low min
    s.modPoint q (fun p => { p with sag := sagE, swell := swlE, inter := intE }))

/-! ### Latches and saves -/

/-- A LATCH is requested for a point mask; it merges into one that waits (13 R326). -/
def State.requestLatch (s : State) (mask : Nat) : State :=
  let s := s.setFld .BUR_LSTAT_PEND 0 (s.fld .BUR_LSTAT_PEND ||| (mask % 256))
  { s with bell := { s.bell with latchQ := match s.bell.latchQ with
    | [] => [mask % 256]
    | m :: r => (m ||| (mask % 256)) :: r } }

/-- BUR_LATCH_WRITE (13 R326). -/
def execBurLatchWrite (core mask : Nat) (s : State) : Out :=
  .next (s.accessBlk core .bursar (burAddr 4) (fun s => s.requestLatch mask))

/-- The LATCH Bell (13 R326): each named point copies its accumulators and gap time into its latched set, with the next LSEQ
and the Bell's timebase. -/
def State.bursarLatch (s : State) (points ts : Nat) : State :=
  let lseq := (s.fld .BUR_LSTAT_LSEQ + 1) % 2 ^ 16
  let s := s.setFld .BUR_LSTAT_LSEQ 0 lseq
  let s := s.setFld .BUR_LSTAT_PEND 0 (maskOff (s.fld .BUR_LSTAT_PEND) points)
  s.each (bitsOf 8 points) (fun s q =>
    let s := (s.setFld .BUR_LHDR_LSEQ q lseq).setFld .BUR_LTS q ts
    let s := s.setFld .BUR_LGAP q (s.acc q).gapMs
    s.each (List.range 16) (fun s a =>
      let v := s.latchWord q a
      (s.setFld .BUR_LAL (16 * q + a) (v % 2 ^ 32)).setFld .BUR_LAH (16 * q + a) (v / 2 ^ 32)))

/-- A save is due (13 R330): one save record is asked of the Library. -/
def State.saveDue (s : State) : State := s.libRecord 0 7 0x30 s.savePayload

/-- BUR_SAVE_NOW_WRITE (13 R330). -/
def execBurSaveNowWrite (core : Nat) (s : State) : Out :=
  .next (s.accessBlk core .bursar (burAddr 0xC) State.saveDue)

/-! ### Restore (13 R332, R333) -/

/-- Accumulator `a` of point `q` grows by a saved value, whose missing low bits are 0. -/
def addSaved (l : List Nat) (q : Nat) (value : Nat → Nat) : List Nat :=
  (List.range 16).map (fun a => if 4 ≤ q && 4 ≤ a then l.getD a 0 else (l.getD a 0 + value a * 2 ^ 32) % 2 ^ 96)

/-- The increments of a final record over its base, times 2^E (16 R401). -/
def finalIncrement (f : List Nat) (q a : Nat) : Nat :=
  if f.getD 0 0 != q || 6 ≤ a then 0 else ofLe ((f.drop (4 + 2 * a)).take 2) * 2 ^ f.getD 1 0

/-- BURSAR_RESTORE (13 R332, R333): after a Caretaker cold start, with the Library usable, the newest save or final record is
added into the accumulators and RESTORED is set; a save record also leaves a span to be written at the first RTC write. -/
def execBursarRestore (s : State) : Out :=
  .next (if !s.bur.restoreDue || !s.flag .LIB_STAT_READY then s else
    let save := s.newestRecord 7 0x30
    let base := match save with | some r => r.payload | none => []
    let sq := match save with | some r => r.seq % 2 ^ 16 | none => 0xFFFF
    let fin := match s.lib.finals.getLast? with
      | some f => if ofLe ((f.drop 2).take 2) == sq then some f else none
      | none => none
    let accs := (List.range 8).map (fun q =>
      let a := s.acc q
      let inc (k : Nat) : Nat := match fin with | some f => finalIncrement f q k | none => 0
      { a.commit (addSaved a.now q (fun k => saveValue base q k + inc k)) with gap := a.gap + saveGap base q * 640000 })
    let theft := (List.range 4).map (fun c =>
      (s.bur.theft.getD c 0 + (if (base.getD 17 0).testBit 1 then saveTheft base c else 0) * 2 ^ 64) % 2 ^ 96)
    let old := s.lib.records.reverse.find? (fun r => r.area == 7 && r.type == 0x30 && r.valid && (r.payload.getD 17 0).testBit 0)
    let spanOf (r : LibRecord) : Nat × Nat := (ofLe (r.payload.take 6), saveMask r.payload)
    let span := match save, fin with
      | some r, none => some (spanOf ((if (r.payload.getD 17 0).testBit 0 then some r else old).getD r))
      | _, _ => none
    let s := { s with bur := { s.bur with accs := accs, theft := theft, restoreDue := false, span := span } }
    let s := s.each (List.range 4) (fun s c => s.setFld .BUR_TQ c (theft.getD c 0 / 2 ^ 64))
    (s.setFld .BUR_STAT_RESTORED 0 1).setFlag .BUR_STAT_SPANPEND 0 span.isSome)

/-- The bound of an unsaved span (13 R333): P_RATED × seconds in 0.1 mWh, saturating at 2^48 − 1. -/
def State.spanBound (s : State) (q seconds : Nat) : Nat :=
  match ((Fp.of32 (s.fld .BUR_PRAT q)).mul (.ofInt seconds)).mulExact (.ofInt 100) with
  | .fin n m e =>
    match Fp.div b64 (.fin n m e) (.ofInt 36) with
    | .fin _ m e => min (Fp.fin false m e).toIntEven.toNat (2 ^ 48 - 1)
    | _ => 2 ^ 48 - 1
  | _ => 2 ^ 48 - 1

/-- The first RTC write after a cold start writes one unsaved-span record per point of the save and queues event 0x76 (13
R333). -/
def State.writeSpans (s : State) : State :=
  let s := { s with bur := { s.bur with rtcSet := true } }
  match s.bur.span with
  | none => s
  | some (sec, mask) =>
    let s := { s with bur := { s.bur with span := none } }
    (s.each (bitsOf 8 mask) (fun s q =>
      let b := s.spanBound q (s.clk.rtc - sec)
      let pay := burPayload 0x76 q 0 false 0 b (sec % 2 ^ 48 + b / 2 ^ 32 * 2 ^ 48)
      (s.emit .bursar pay).libRecord 0 5 0x11 (leBytes 16 pay ++ leBytes 8 b))).setFld .BUR_STAT_SPANPEND 0 0

/-! ### Theft metering (13 R334, R335; 06 R164 to R166) -/

/-- Theft metering is fitted and enabled. -/
def State.theftOn (s : State) : Bool := s.flag .FUSE_RES_THEFT && s.flag .BUR_CTRL_THEFT_EN

/-- A second of theft metering starts (13 R334): a window, or THEFT_SKIP counts. -/
def State.theftSecond (s : State) : State :=
  let s := { s with bur := { s.bur with absent := if s.flag .CT_STAT_MAIN then 0 else min (s.bur.absent + 1) 2 } }
  if !s.theftOn then s
  else if 2 ≤ s.bur.absent && s.fld .GAUGE_RSV + s.fld .GAUGE_COST_COST 7 ≤ s.eAvail && s.fld .MOD_THEFT_CHSEL != 0 then
    { s with bur := { s.bur with window := true, windowClock := false } }
  else s.count .BUR_TSKIP

/-- THEFT_WINDOW_CLOCK (06 R164): 1 ms into the window MCLK(GRP) runs at 8 MHz. -/
def execTheftWindowClock (s : State) : Out :=
  .next (if s.bur.window then { s with bur := { s.bur with windowClock := true } } else s)

/-- The first words of a window's bits, the oldest first: sinc3 with M = 128, without the three that come before them (06 R164). -/
def State.theftWordsN (l : List Bool) : Nat → State → List Int × State
  | 0, s => ([], s)
  | k + 1, s =>
    let r := theftWordsN l k s
    let y := r.2.mainOutput 3 128 (l.take (128 * (k + 4))).reverse
    (r.1 ++ [y.1], y.2)

/-- The words of a window's bits (06 R164). -/
def State.theftWords (s : State) (l : List Bool) : List Int × State := s.theftWordsN l (l.length / 128 - 3)

/-- The charge of one second at the rms current of a window's words, in 2^-64 mAh (13 R335). -/
def State.theftCharge (s : State) (c : Nat) (l : List Int) : Nat × State :=
  if l.isEmpty then (0, s) else
  let sq := l.foldl (fun (a : Nat) w => a + (w * w).toNat) 0
  let r := Fp.sqrt b64 (roundTo b64 false sq l.length (-34))
  match ((r.mul (.of32 (s.fld .BUR_TGAIN c))).abs).mul (roundTo b64 false 10 36 64) with
  | .fin n m e => ((Fp.fin n m e).toIntEven.toNat, s)
  | _ => s.fresh 64

/-- A channel's charge grows by a window (13 R335); at THEFT_THR the tamper is recorded, written and reported once. -/
def State.theftAdd (s : State) (c : Nat) (words : List Int) : State :=
  let (n, s) := s.theftCharge c words
  let v := (s.bur.theft.getD c 0 + n) % 2 ^ 96
  let s := { s with bur := { s.bur with theft := s.bur.theft.set c v } }
  let mah := v / 2 ^ 64
  let s := s.setFld .BUR_TQ c mah
  if s.fld .BUR_THEFT ≤ mah && !s.bur.tampered.testBit c then
    let s := { s.setFld .BUR_STAT_TAMPER 0 1 with bur := { s.bur with tampered := setBitTo s.bur.tampered c true } }
    let pay := burPayload 0x75 c 0 false 0 mah (s.clk.rtc % 2 ^ 48)
    (s.libRecord 0 7 0x12 (leBytes 16 pay)).burLate pay
  else s

/-- THEFT_WINDOW_END (06 R164, 13 R335): MCLK(GRP) and MOD_PWR stop, and the charge of each selected channel MD4×GRP+i grows. -/
def execTheftWindowEnd (samples : List Nat) (s : State) : Out :=
  .next (if s.bur.window && s.bur.windowClock then
    let s := { s with bur := { s.bur with window := false, windowClock := false } }
    let l := (bitsOf 4 (s.fld .MOD_THEFT_CHSEL)).filter (fun c => s.hasMd (4 * s.fld .MOD_THEFT_GRP + c))
    s.each l (fun s c =>
      let (words, s) := s.theftWords (samples.map (fun v => v.testBit c))
      s.theftAdd c words)
  else s)

/-- THEFT_CLR_WRITE (13 R335): all four charges are zeroed. THEFT_CLR is absent in G variants (13 R338). -/
def State.theftClear (s : State) : State :=
  if !s.flag .FUSE_RES_THEFT then s else
  let s := { s with bur := { s.bur with theft := [0, 0, 0, 0], tampered := 0 } }
  s.each (List.range 4) (fun s c => s.setFld .BUR_TQ c 0)

/-- THEFT_CLR_WRITE (13 R335), by a core. -/
def execTheftClrWrite (core : Nat) (s : State) : Out := .next (s.accessBlk core .bursar (burAddr 0x20) State.theftClear)

/-! ### The Bursar group (13 R336) -/

/-- The settings of point `q`, as one list. -/
def State.pointSettings (s : State) (q : Nat) : List Nat :=
  [(s.burMask / 2 ^ q) % 2] ++
  ([.BUR_SRC_VA, .BUR_SRC_VB, .BUR_SRC_VC, .BUR_ISRC_IA, .BUR_ISRC_IB, .BUR_ISRC_IC, .BUR_CFG_INV, .BUR_CFG_F60, .BUR_UDIN,
    .BUR_INOM, .BUR_PRAT, .BUR_EVT_SAG, .BUR_EVT_SWL, .BUR_EVT2_INT, .BUR_EVT2_HYS] : List Fld).map (fun f => s.fld f q) ++
  ([.BUR_GV, .BUR_OV, .BUR_GI, .BUR_OI, .BUR_PH_PH] : List Fld).flatMap (fun f => (List.range 3).map (fun x => s.fld f (3 * q + x)))

/-- At the APPLY Bell each point whose settings change closes its running cycle with the old settings and starts its next
cycle at its next crossing (13 R336). `was` is the state before the set applied. -/
def State.bursarApplied (s was : State) : State :=
  s.each (List.range 8) (fun s q =>
    if s.pointSettings q == was.pointSettings q then s else
    let s := match (was.point q).start with
      | some st => if was.tb ≤ st then s else
        let closed := was.closeCycle q (was.tb - st)
        let s := { s with bur := { s.bur with accs := s.bur.accs.set q (closed.acc q) }, freeCtr := closed.freeCtr
                          ct := { s.ct with changed := true } }
        s.each (List.range 12) (fun s k => s.setFld .BUR_PUB (12 * q + k) (closed.fld .BUR_PUB (12 * q + k)))
      | none => s
    s.modPoint q (fun _ => {}))

end Sys2Proof.Machine
end

