-- ==== Sys2Proof/Machine/Blocks.lean ====
section
/-!
DEFINITION. The transforms and blocks of the Lesson engines as functions of their operands, coefficients and states (10 R254,
Tables 10-4 and 10-6): the instructions and the Timetables as shipped share them. All compute in binary64, each operation
rounded, in the order of the pseudocode.
-/
namespace Sys2Proof.Machine

/-- `min(max(x, lo), hi)`. -/
def Fp.clamp (x lo hi : Fp) : Fp := (x.max lo).min hi

/-- 2 and 3 as values. -/
def fpTwo : Fp := .fin false 2 0
/-- Three. -/
def fpThree : Fp := .fin false 3 0

/-- CLARKE: α and β. -/
def clarkeOf (a b c : Fp) : Fp × Fp :=
  (Fp.div b64 (((fpTwo.mul a).sub b).sub c) fpThree, Fp.div b64 (b.sub c) (Fp.sqrt b64 fpThree))

/-- PARK: d and q of α and β at an angle's sine and cosine. -/
def parkOf (a b si co : Fp) : Fp × Fp := ((a.mul co).add (b.mul si), (a.neg.mul si).add (b.mul co))

/-- IPARK: α and β of d and q. -/
def iparkOf (d q si co : Fp) : Fp × Fp := ((d.mul co).sub (q.mul si), (d.mul si).add (q.mul co))

/-- CLIM: the vector (`a`, `b`) limited to the circle of radius `r`: 0 scales both, 1 takes `a` first, 2 takes `b` first. -/
def circleOf (mod : Nat) (a b r : Fp) : Fp × Fp :=
  let first (x y : Fp) : Fp × Fp :=
    let x' := x.clamp r.neg r
    let m := Fp.sqrt b64 ((r.mul r).sub (x'.mul x'))
    (x', y.clamp m.neg m)
  if mod = 1 then first a b
  else if mod = 2 then (first b a).swap
  else
    let mag := Fp.sqrt b64 ((a.mul a).add (b.mul b))
    if r.lt mag then (Fp.div b64 (a.mul r) mag, Fp.div b64 (b.mul r) mag) else (a, b)

/-- PI: the output, the integrator after it, and whether it was limited. -/
def piOf (kp kit lo hi kaw i e ff : Fp) : Fp × Fp × Bool :=
  let u := ((kp.mul e).add i).add ff
  let y := u.clamp lo hi
  let i' :=
    if kaw.eqv .zero then
      if y.eqv u || (hi.lt u && e.lt .zero) || (u.lt lo && Fp.zero.lt e) then i.add (kit.mul e) else i
    else (i.add (kit.mul e)).add (kaw.mul (y.sub u))
  (y, i', !y.eqv u)

/-- PR: the output and the two states. -/
def prOf (kr h wc cph sph ts x1 x2 e w : Fp) : Fp × Fp × Fp :=
  let wh := h.mul w
  let x1 := x1.add (ts.mul (((fpTwo.mul wc).mul ((kr.mul e).sub x1)).sub (wh.mul x2)))
  let x2 := x2.add ((ts.mul wh).mul x1)
  ((cph.mul x1).sub (sph.mul x2), x1, x2)

/-- BIQ: the output and the two states. -/
def biqOf (b0 b1 b2 a1 a2 s1 s2 x : Fp) : Fp × Fp × Fp :=
  let y := (b0.mul x).add s1
  (y, ((b1.mul x).sub (a1.mul y)).add s2, (b2.mul x).sub (a2.mul y))

/-- DDSRF: d1, q1, d2, q2, and the four states in the order of the block. -/
def ddsrfOf (lam al be si c dpf qpf dnf qnf : Fp) : List Fp × List Fp :=
  let c2 := (c.mul c).sub (si.mul si)
  let s2 := (fpTwo.mul si).mul c
  let d1 := ((al.mul c).add (be.mul si)).sub ((dnf.mul c2).add (qnf.mul s2))
  let q1 := ((be.mul c).sub (al.mul si)).sub ((qnf.mul c2).sub (dnf.mul s2))
  let d2 := ((al.mul c).sub (be.mul si)).sub ((dpf.mul c2).sub (qpf.mul s2))
  let q2 := ((al.mul si).add (be.mul c)).sub ((qpf.mul c2).add (dpf.mul s2))
  let step (f d : Fp) : Fp := f.add (lam.mul (d.sub f))
  ([d1, q1, d2, q2], [step dpf d1, step qpf q1, step dnf d2, step qnf q2])

/-- PLL: the angle and ω, the integrator after them, and whether ω was limited. -/
def pllOf (kp kit wnom ts wmin wmax i th e : Fp) : Fp × Fp × Fp × Bool :=
  let w := (wnom.add (kp.mul e)).add i
  let high := wmax.lt w
  let low := !high && w.lt wmin
  let w' := if high then wmax else if low then wmin else w
  ((th.add (ts.mul w')).wrap, w', if high || low then i else i.add (kit.mul e), high || low)

end Sys2Proof.Machine
end

