-- ==== Sys2Proof/Machine/Timetable.lean ====
section
/-!
DEFINITION. Timetables as they stand in an engine's memory: the fields of an instruction word, the first END, and what
validation and rearming ask of a Timetable (10 R251, R252, R262, R275).
-/
namespace Sys2Proof.Machine

/-- A 32-bit word of an engine's memory, by window and word index. -/
def State.engWord (s : State) (n idx : Nat) : Nat := s.eng.mem.get (n, idx) 0

/-- A word of an engine's memory takes a value. -/
def State.setEngWord (s : State) (n idx v : Nat) : State :=
  { s with eng := { s.eng with mem := s.eng.mem.set (n, idx) 0 (v % 2 ^ 32) } }

/-- The fields of an instruction word (10 Table 10-3). -/
structure TtInstr where
  op : Nat
  rd : Nat
  ra : Nat
  rb : Nat
  rc : Nat
  mod : Nat
  imm : Nat
  deriving DecidableEq, Repr

/-- The instruction two memory words spell. -/
def TtInstr.ofWords (lo hi : Nat) : TtInstr :=
  { op := bits hi 24 8, rd := bits hi 19 5, ra := bits hi 14 5, rb := bits hi 9 5, rc := bits hi 4 5, mod := bits hi 0 4,
    imm := lo }

/-- Instruction `i` of engine `n`'s Timetable, as `word` reads its memory. -/
def ttAt (word : Nat → Nat) (i : Nat) : TtInstr := .ofWords (word (2 * i)) (word (2 * i + 1))

/-- The instructions from `i` on to the first END, both within `fuel` words; none where there is no END. -/
def ttFrom (word : Nat → Nat) : Nat → Nat → Option (List TtInstr)
  | 0, _ => none
  | fuel + 1, i =>
    let t := ttAt word i
    if t.op = 0x5F then some [t] else (ttFrom word fuel (i + 1)).map (t :: ·)

/-- The Timetable of engine `n`: instruction 0 to the first END (10 R275). -/
def State.timetable (s : State) (n : Nat) : Option (List TtInstr) := ttFrom (s.engWord n) 4096 0

/-- A store to a PWM module (10 Table 10-4, STPC to STPE). -/
def TtInstr.storesTo (t : TtInstr) : Option Nat := if 0x10 ≤ t.op ∧ t.op ≤ 0x13 then some (t.imm % 32) else none

/-- Cycles and state words of an operation (10 Table 10-4); none for an unknown OP. WAIT and LDS without their stall and
count. -/
def opCost (op : Nat) : Option (Nat × Nat) :=
  match op with
  | 0x00 => some (1, 0) | 0x01 => some (1, 0) | 0x02 => some (2, 0) | 0x03 => some (2, 1) | 0x04 => some (2, 0)
  | 0x05 => some (1, 0) | 0x06 => some (2, 0) | 0x10 => some (3, 0) | 0x11 => some (4, 0) | 0x12 => some (3, 0)
  | 0x13 => some (3, 0) | 0x20 => some (1, 0) | 0x21 => some (1, 0) | 0x22 => some (1, 0) | 0x23 => some (1, 0)
  | 0x24 => some (8, 0) | 0x25 => some (8, 0) | 0x26 => some (1, 0) | 0x27 => some (6, 0) | 0x30 => some (6, 1)
  | 0x31 => some (8, 2) | 0x32 => some (7, 2) | 0x33 => some (3, 0) | 0x34 => some (3, 0) | 0x35 => some (3, 0)
  | 0x36 => some (10, 2) | 0x37 => some (24, 4) | 0x38 => some (14, 2) | 0x40 => some (1, 0) | 0x41 => some (3, 1)
  | 0x42 => some (6, 0) | 0x43 => some (1, 0) | 0x44 => some (10, 0) | 0x48 => some (16, 3) | 0x49 => some (4, 2)
  | 0x4A => some (4, 1) | 0x4B => some (4, 1) | 0x50 => some (1, 0) | 0x51 => some (2, 0) | 0x52 => some (2, 0)
  | 0x5F => some (2, 0)
  | _ => none

/-- The bound b of R262, in engine cycles. -/
def wcetBound (l : List TtInstr) : Nat :=
  l.foldl (fun b t =>
    if t.op = 0x05 then max b ((5 * (t.imm % 2 ^ 20) + 3) / 4) + 1
    else
      let c := (opCost t.op).getD (0, 0)
      let b := b + c.1 + (if t.op = 0x04 then t.mod + 1 else 0)
      if t.op = 0x06 ∨ t.op = 0x52 ∨ t.storesTo.isSome then b + 1 else b) 27

/-- The modules the enabled engines of a Wing store to. -/
def State.fedBy (s : State) (w : Wing) : List Nat :=
  ((List.range 12).filter (fun n => (n < 6) == (w == .a) && s.flag .LE_CTRL_EN n)).flatMap (fun n =>
    ((s.timetable n).getD []).filterMap TtInstr.storesTo)

end Sys2Proof.Machine
end

