-- ==== Sys2Proof/Machine/Pwm.lean ====
section
/-!
DEFINITION. The PWM modules (08): commands and pulse judgement, counter events and reloads, the shadow and staging sets,
starts and the SYNC chain, enables, interrupts, and the check that leaves the safe level.
-/
namespace Sys2Proof.Machine

/-- The address of a register of module `m`. -/
def pwmAddr (m ofs : Nat) : Nat := 0x40000000 + 0x100 * m + ofs

/-! ### Commands and pulse judgement -/

/-- The complementary output mode (08 R194). -/
def State.complementary (s : State) (m : Nat) : Bool := !s.flag .PWM_CTRL_OUTMODE m

/-- An interval is suppressed (08 R209). -/
def State.suppressed (s : State) (m : Nat) : State := (s.setFld .PWM_STAT_SUPPR m 1).count .PWM_STAT_SUPCNT m

/-- How an interval is judged (08 R209). -/
inductive Judgement where
  | emit | stretch | suppress
  deriving DecidableEq, Repr

/-- The judgement of an interval that makes a pulse of `width` taps; none means that it does not end within a period. -/
def judgeWidth (stretch : Bool) (minpw : Nat) (width : Option Int) : Judgement :=
  match width with
  | none => .emit
  | some w => if (minpw : Int) ≤ w then .emit else if stretch && 0 < w then .stretch else .suppress

/-- The pulse of a side ends no earlier than MINPW after it began (08 R211). -/
def heldEnd (on : Bool) (began minpw inst : Nat) : Nat := if on then max inst (began + minpw) else inst

/-- The command of a side falls at an instant: in the present tick at once, in a later one when it comes (08 R209, R211). -/
def State.fallCmd (s : State) (m : Nat) (low : Bool) (inst : Nat) (carry : Bool) : State :=
  if inst < s.nowTaps + 128 then s.setCmd m low false inst carry
  else s.modPm m (fun p => if low then { p with fallLo := some (inst, carry) } else { p with fallHi := some (inst, carry) })

/-- The falls that wait for an instant before `limit` are made. -/
def State.dueFalls (s : State) (m limit : Nat) : State :=
  let s := match (s.pm m).fallHi with
    | some (i, c) => if i < limit then (s.modPm m (fun p => { p with fallHi := none })).setCmd m false false i c else s
    | none => s
  match (s.pm m).fallLo with
  | some (i, c) => if i < limit then (s.modPm m (fun p => { p with fallLo := none })).setCmd m true false i c else s
  | none => s

/-- The command of a side rises at an instant of the present tick; a later one waits for TURN_ON_DELAY_EXPIRY (08 R205). -/
def State.riseCmd (s : State) (m : Nat) (low : Bool) (inst : Nat) : State :=
  if inst < s.nowTaps + 128 then
    (s.setCmd m low true inst false).modPm m (fun p => if low then { p with riseLo := none } else { p with riseHi := none })
  else s.modPm m (fun p => if low then { p with riseLo := some inst } else { p with riseHi := some inst })

/-- The internal command of a side falls while the pads do not follow (07 R178). -/
def State.innerFall (s : State) (m : Nat) (low : Bool) : State :=
  s.modPm m (fun p => if low then { p with inLo := false, dueLo := none } else { p with inHi := false, dueHi := none })

/-- The internal command of a side begins its turn-on delay while the pads do not follow. -/
def State.innerRise (s : State) (m : Nat) (low : Bool) (inst : Nat) : State :=
  let due := some (inst + s.ton m low)
  s.modPm m (fun p => if low then { p with dueLo := due } else { p with dueHi := due })

/-- H falls during a refresh (09 R238): a displacement that the carry owes to this fall goes back to the carry. -/
def State.refreshFall (s : State) (m : Nat) : State :=
  let p := s.pm m
  let back : Int := if p.merged || p.stretchHi || !p.he then 0 else p.move
  (s.when (back != 0) (fun s => s.setCarry m (s.sfld .PWM_CARRY_CARRY m + back))).modPm m (fun p => { p with
    h := false, he := false, merged := false, move := 0 })

/-- H rises in complementary mode at `inst`, instant `t` of the period (08 R205, R208 to R211, Table 8-8). -/
def State.riseH (s : State) (m inst t : Nat) : State :=
  let p := s.pm m
  if p.mode ≠ .follow then ((s.modPm m (fun p => { p with h := true, he := true })).innerFall m true).innerRise m false inst
  else if p.refresh ≠ 0 then s.modPm m (fun p => { p with h := true, he := true })
  else if p.he then s.modPm m (fun p => { p with h := true })
  else
    let fallAt := heldEnd p.lo p.loAt (s.minpw m) inst
    let extra : Int := fallAt - inst
    let s := s.when (!p.lo && p.riseLo == some inst) (fun s =>
      (s.setCarry m (s.sfld .PWM_CARRY_CARRY m - s.ton m true)).suppressed m)
    let carry := s.sfld .PWM_CARRY_CARRY m
    let we := (s.nextChange m false t true).map (fun d => (d : Int) + carry)
    let s := s.modPm m (fun p => { p with h := true })
    match judgeWidth (s.flag .PWM_CTRL_STRETCH m) (s.minpw m) (we.map (· - s.ton m false)) with
    | .suppress => (s.setCarry m (we.getD 0)).suppressed m
    | j =>
      let s := s.when p.lo (fun s => s.fallCmd m true fallAt false)
      let s := s.when (j == .stretch) (fun s => s.setFld .PWM_STAT_STRETCHED m 1)
      let booked := if p.stretchLo then carry else carry + extra
      (s.setFld .PWM_CARRY_CARRY m 0).modPm m (fun p => { p with
        he := true, riseLo := none, stretchLo := false, riseHi := some (fallAt + s.ton m false),
        move := if j == .stretch then 0 else booked, stretchHi := j == .stretch })

/-- H falls in complementary mode: the falling edge is moved by the carry, held to MINPW, and the low interval judged. -/
def State.fallH (s : State) (m inst t : Nat) : State :=
  let p := s.pm m
  if p.mode ≠ .follow then ((s.modPm m (fun p => { p with h := false, he := false })).innerFall m false).innerRise m true inst
  else if p.refresh ≠ 0 then s.refreshFall m
  else if !p.he then s.modPm m (fun p => { p with h := false })
  else
    let carry := s.sfld .PWM_CARRY_CARRY m
    let moved := if p.merged then carry else p.move
    let base : Nat := ((inst : Int) + moved).toNat
    let on := p.hi || p.early.isSome
    let began : Option Nat := if on then some p.hiAt else p.riseHi.filter (fun r => r < base || p.stretchHi)
    let zero := !on && p.riseHi == some base && began.isNone
    let fallAt : Nat := p.early.getD (match began with
      | some r => if p.stretchHi then r + s.minpw m else heldEnd true r (s.minpw m) base
      | none => base)
    let s := s.when zero (fun s => s.suppressed m)
    let carry : Int := (if p.merged then 0 else carry) - (if p.stretchHi then 0 else (fallAt : Int) - base)
      + (if zero then (s.ton m false : Int) else 0)
    let wl := (s.nextChange m false t false).map (fun d => ((inst + d : Nat) : Int) - fallAt)
    let s := s.modPm m (fun p => { p with h := false })
    match judgeWidth (s.flag .PWM_CTRL_STRETCH m) (s.minpw m) (wl.map (· - s.ton m true)) with
    | .suppress =>
      ((s.setCarry m (carry - wl.getD 0)).suppressed m).modPm m (fun p => { p with merged := true, move := 0 })
    | j =>
      let s := s.modPm m (fun p => { p with
        he := false, merged := false, move := 0, riseHi := none, stretchHi := false, early := none
        riseLo := some (fallAt + s.ton m true), stretchLo := j == .stretch })
      let s := s.when (!on && began.isSome) (fun s => s.riseCmd m false (began.getD 0))
      let s := s.when (began.isSome && p.early.isNone) (fun s => s.fallCmd m false fallAt (moved != 0))
      (s.when (j == .stretch) (fun s => s.setFld .PWM_STAT_STRETCHED m 1)).setCarry m carry

/-- A side's command rises in independent mode; only the high side carries (08 R209). -/
def State.riseSide (s : State) (m : Nat) (low : Bool) (inst t : Nat) : State :=
  let p := s.pm m
  let raw (e : Bool) (p : PwmMod) : PwmMod := if low then { p with l := true, le := e } else { p with h := true, he := e }
  if p.mode ≠ .follow then (s.modPm m (raw true)).innerRise m low inst
  else if p.refresh ≠ 0 then s.modPm m (raw true)
  else
    let carry := if low then 0 else s.sfld .PWM_CARRY_CARRY m
    let we := (s.nextChange m low t true).map (fun d => (d : Int) + carry)
    match judgeWidth (s.flag .PWM_CTRL_STRETCH m) (s.minpw m) (we.map (· - s.ton m low)) with
    | .suppress => ((s.when (!low) (fun s => s.setCarry m (we.getD 0))).suppressed m).modPm m (raw false)
    | j =>
      let s := s.when (j == .stretch) (fun s => s.setFld .PWM_STAT_STRETCHED m 1)
      let s := s.when (!low) (fun s => s.setFld .PWM_CARRY_CARRY m 0)
      let due := some (inst + s.ton m low)
      (s.modPm m (raw true)).modPm m (fun p =>
        if low then { p with riseLo := due, stretchLo := j == .stretch }
        else { p with riseHi := due, stretchHi := j == .stretch, move := if j == .stretch then 0 else carry })

/-- A side's command falls in independent mode: a pulse that has begun, or begins before its moved end, ends there or at MINPW. -/
def State.fallSide (s : State) (m : Nat) (low : Bool) (inst : Nat) : State :=
  let p := s.pm m
  let raw (p : PwmMod) : PwmMod :=
    if low then { p with l := false, le := false, riseLo := none, stretchLo := false }
    else { p with h := false, he := false, riseHi := none, stretchHi := false, move := 0, early := none }
  if p.mode ≠ .follow then (s.modPm m raw).innerFall m low
  else if p.refresh ≠ 0 then (s.when (!low) (fun s => s.refreshFall m)).modPm m raw
  else
    let on := if low then p.lo else p.hi || p.early.isSome
    let stretch := if low then p.stretchLo else p.stretchHi
    let move : Int := if low then 0 else p.move
    let base : Nat := ((inst : Int) + move).toNat
    let pend := if low then p.riseLo else p.riseHi
    let s := s.modPm m raw
    match (if on then some (if low then p.loAt else p.hiAt) else pend.filter (fun r => r < base || stretch)) with
    | none => s.when (pend == some base) (fun s =>
        (s.when (!low) (fun s => s.setCarry m (s.sfld .PWM_CARRY_CARRY m + s.ton m false))).suppressed m)
    | some r =>
      let fallAt := (if low then none else p.early).getD (heldEnd true r (s.minpw m) base)
      let s := s.when (!on) (fun s => s.riseCmd m low r)
      let s := s.when (low || p.early.isNone) (fun s => s.fallCmd m low fallAt (move != 0))
      s.when (!low && !stretch) (fun s => s.setCarry m (s.sfld .PWM_CARRY_CARRY m - ((fallAt : Int) - base)))

/-- A high-side pulse whose end the carry moves before the command's own fall ends in the tick in which that end lies (08 R209,
R211). -/
def State.earlyFall (s : State) (m : Nat) : State :=
  let p := s.pm m
  let moved := if p.merged then s.sfld .PWM_CARRY_CARRY m else p.move
  if !(p.mode == .follow && p.refresh == 0 && p.h && p.he && p.hi && decide (moved < 0)) then s else
  let mode := s.fld .PWM_CTRL_CMODE m
  let total := periodTicks mode (s.per m) * 128
  let t := posOf mode (s.per m) (min (s.fld .PWM_CNT_CNT m) (s.per m)) (s.flag .PWM_STAT_DIR m) * 128
  match s.nextChange m false ((t + total - 1) % total) true with
  | none => s
  | some d =>
    let fallAt := heldEnd true p.hiAt (s.minpw m) ((s.nowTaps + d : Nat) - 1 + moved).toNat
    if s.nowTaps + 128 ≤ fallAt then s
    else (s.modPm m (fun p => { p with early := some fallAt })).setCmd m false false fallAt true

/-- The rule of an event acts on a command, if it wins its instant (08 R193, R194). -/
def State.ruleOn (s : State) (m : Nat) (low : Bool) (evt inst t : Nat) : State :=
  match s.winner m low t with
  | none => s
  | some r =>
    let was := if low then (s.pm m).l else (s.pm m).h
    let now := ruleAct r.2 was
    if r.1 ≠ evt ∨ now = was then s
    else if s.complementary m then (if now then s.riseH m inst t else s.fallH m inst t)
    else if now then s.riseSide m low inst t
    else s.fallSide m low inst

/-- Event `evt` of Table 8-3 acts on the commands at `inst`. -/
def State.commandRules (s : State) (m evt inst : Nat) : State :=
  match s.eventAt m evt with
  | none => s
  | some t =>
    let s := s.ruleOn m false evt inst t
    s.when (!s.complementary m) (fun s => s.ruleOn m true evt inst t)

/-! ### Interrupts and link pulses -/

/-- An occurrence of event code `code` of PWM_INT.ISEL (08 R221). -/
def State.pwmInt (s : State) (m code : Nat) : State :=
  if s.isHead m && s.fld .PWM_INT_ISEL m == code then
    let n := s.fld .PWM_INT_ICNT m + 1
    if s.fld .PWM_INT_PRESC m < n then
      let s := (s.setFld .PWM_INT_ICNT m 0).setFld .PWM_INT_IFLAG m 1
      match s.entitled m with
      | some w => s.when (s.flag .PWM_INT_IEN m) (fun s => s.raise w (1 + m / 6))
      | none => s
    else s.setFld .PWM_INT_ICNT m n
  else s

/-- The hop to module `d` in Edge ticks (08 R220): 8 across a group boundary, otherwise 2. -/
def hopTicks (d : Nat) : Nat := if d % 6 = 0 then 8 else 2

/-- Module `m` sends a pulse to the next module, one for a tick (08 R219). -/
def State.sendLink (s : State) (m age : Nat) : State :=
  if 23 ≤ m ∨ s.pwm.links.any (fun l => l.dest == m + 1 && l.sent == s.tb) then s
  else { s with pwm := { s.pwm with
    links := s.pwm.links ++ [{ dest := m + 1, sent := s.tb, latency := age + hopTicks (m + 1) }] } }

/-- A source of LINKOUT falls: bit 0 zero, 1 period, 2 CMPB up-match. -/
def State.linkOut (s : State) (m src : Nat) : State := s.when (s.bit .PWM_CTRL_LINKOUT m src) (fun s => s.sendLink m 0)

/-! ### Reload and period start -/

/-- The shadow word a reload in the present tick takes: one committed in this tick counts as after it (08 R201). -/
def State.shdForReload (s : State) (m w : Nat) : Nat :=
  let p := s.pm m
  if p.commitAt = some s.tb then p.before.getD w 0 else s.shd m w

/-- A reload at the zero or period event (08 R190, R200, R201). -/
def State.reload (s : State) (m : Nat) (zero : Bool) : State :=
  let rld := s.fld .PWM_CTRL_RLD m
  let sel := rld = 2 || (if zero then rld != 1 else rld == 1)
  let updown := s.fld .PWM_CTRL_CMODE m = 2
  let w1 := s.shdForReload m 1
  let old := s.act m 1
  let per := if (if updown then zero else sel) then w1 % 2 ^ 20 else old % 2 ^ 20
  let rest := if sel then w1 / 2 ^ 20 else old / 2 ^ 20
  let w0 := s.shdForReload m 0
  let w2 := s.shdForReload m 2
  let s := s.setAct m 1 (per + rest * 2 ^ 20)
  if sel then
    let s := (s.setAct m 0 w0).setAct m 2 w2
    let p := s.pm m
    let late := if p.commitAt = some s.tb then p.commits else 0
    let s := s.each (List.range late) (fun s _ => s.count .PWM_STAT_LATE m)
    s.modPm m (fun p => { p with reloadAt := some s.tb })
  else s

/-- Pads at the safe level take the level that SH and SL set (08 R212). -/
def State.safeLevels (s : State) (m : Nat) : State :=
  if (s.pm m).mode == .safe then
    (s.setSide m false (s.flag .PWM_CTRL_SH m) s.nowTaps true false).setSide m true (s.flag .PWM_CTRL_SL m) s.nowTaps true false
  else s

/-- The PWM group has restarted (08 R210, R212): the carry is cleared, and pads at the safe level follow new settings. -/
def State.pwmApplied (s : State) (m : Nat) : State := (s.setFld .PWM_CARRY_CARRY m 0).safeLevels m

/-- The RWL settings that waited for the period start take effect (08 R224): H keeps its value, a side commanded off turns
off at once, and a side commanded on that is not on rises after its delay. -/
def State.takeSettings (s : State) (m : Nat) : State :=
  let w := (s.pm m).wait
  if w.isEmpty then s else
  let wasComp := s.complementary m
  let s := s.setAll w
  let s := s.modPm m (fun p => { p with wait := [], l := if wasComp then false else p.l, le := if wasComp then false else p.le })
  let s := s.safeLevels m
  let p := s.pm m
  if p.mode ≠ .follow ∨ p.refresh ≠ 0 then s else
  let wantLo := if s.complementary m then !p.he else p.le
  let s := s.when (p.hi && !p.he) (fun s => s.setCmd m false false s.nowTaps false)
  let s := s.when (p.lo && !wantLo) (fun s => s.setCmd m true false s.nowTaps false)
  s.modPm m (fun p => { p with
    riseHi := if p.he && !p.hi then some (p.riseHi.getD (s.nowTaps + s.ton m false)) else none
    riseLo := if wantLo && !p.lo then some (p.riseLo.getD (s.nowTaps + s.ton m true)) else none })

/-- The modules whose conditions bear on module `m`: its leg's, or its own (09 R236). -/
def State.together (s : State) (m : Nat) : List Nat :=
  match s.legOf m with
  | some k => s.legMods k
  | none => [m]

/-- At a period start the module's check of R214 is to follow (08 R214, R217; 09 R227, R236). -/
def State.resumeDue (s : State) (m : Nat) : Bool :=
  let p := s.pm m
  let ready := p.mode != .low || !s.flag .GI_CH_RDYCHK m || s.bit .GI_RDYLVL_HIGH 0 m
  let leg := match s.legOf m with
    | some k => !s.gapRuns k && (s.legMods k).all (fun x => !s.lowCause x && !s.safeCause x)
    | none => true
  p.mode != .follow && p.mode != .gap && s.flag .PWM_RUN_OUTEN m && ready && leg

/-- The start of a period of module `m` (08 Table 8-1): the clear instant of its comparators and guards, waiting settings,
the refresh count, and the check to come. -/
def State.periodStart (s : State) (m : Nat) (wcin : List (Nat × Int)) : State :=
  let s := s.each wcin (fun s e => s.setLevel e.1 e.2)
  let s := s.cycleClears m
  let s := s.takeSettings m
  let s := s.modPm m (fun p => { p with
    refCount := if s.fld .GI_REF_REFRESH_N m != 0 && p.stayed then p.refCount + 1 else 0, stayed := p.outHi })
  s.modPm m (fun p => { p with due := s.resumeDue m })

/-- A debug halt holds the module's count: the entitled Wing is halted and DBGRUN is 0 (08 R213). -/
def State.haltHolds (s : State) (m : Nat) : Bool :=
  (match s.entitled m with | some w => s.haltedWing w | none => false) && !s.flag .PWM_CTRL_DBGRUN m

/-- The module exists, its counter runs and nothing holds it. -/
def State.counts (s : State) (m : Nat) : Bool := s.hasPm m && s.flag .PWM_RUN_CNT_EN m && !s.haltHolds m && !s.edgeStopped

/-- A link load in this tick has overwritten the count of an event, whose own count is `cnt` (08 Table 8-8). -/
def State.overwritten (s : State) (m cnt : Nat) : Bool :=
  (s.pm m).loadAt == some s.tb && s.fld .PWM_CNT_CNT m != cnt

/-- PWM_ZERO_EVENT (08 R189): the first tick of count 0. -/
def execPwmZeroEvent (m : Nat) (wcin : List (Nat × Int)) (s : State) : Out :=
  .next (if !s.counts m || s.overwritten m 0 then s else
    let s := (s.setFld .PWM_CNT_CNT m 0).setFlag .PWM_STAT_DIR m (s.fld .PWM_CTRL_CMODE m == 1)
    let s := s.when (s.fld .PWM_CTRL_CMODE m != 1) (fun s => s.periodStart m wcin)
    let s := s.reload m true
    let s := s.linkOut m 0
    ((s.commandRules m 1 s.nowTaps).pwmInt m 0).pwmEvent m 0)

/-- PWM_PERIOD_EVENT (08 R189, R190): the first tick of count PER; a reload in down mode that leaves PER below the count
starts the period at the new PER. -/
def execPwmPeriodEvent (m : Nat) (wcin : List (Nat × Int)) (s : State) : Out :=
  .next (if !s.counts m || s.overwritten m (s.per m) then s else
    let down := s.fld .PWM_CTRL_CMODE m = 1
    let s := (s.setFld .PWM_CNT_CNT m (s.per m)).setFlag .PWM_STAT_DIR m (s.fld .PWM_CTRL_CMODE m != 0)
    let s := s.when down (fun s => s.periodStart m wcin)
    let s := s.reload m false
    let s := s.when (down && s.per m < s.fld .PWM_CNT_CNT m) (fun s => s.setFld .PWM_CNT_CNT m (s.per m))
    let s := s.linkOut m 1
    ((s.commandRules m 2 s.nowTaps).pwmInt m 1).pwmEvent m 1)

/-- PWM_TRIGGER_COMPARE (08 R189): never above PER; in up-down mode a compare of 0 or PER fires whatever direction is
selected. -/
def execPwmTriggerCompare (m which : Nat) (falling : Bool) (s : State) : Out :=
  .next (
    let v := s.tcmp m which
    let mode := s.fld .PWM_CTRL_CMODE m
    let dir := s.fld (if which = 0 then .PWM_TCFG_T0DIR else .PWM_TCFG_T1DIR) m
    let falling := if mode = 2 then falling else mode = 1
    let turn := mode = 2 && (v == 0 || v == s.per m)
    let fires := dir != 0 && (turn || dir.testBit (if falling then 1 else 0))
    if s.counts m && which < 2 && v ≤ s.per m && fires then
      let s := (s.setFld .PWM_CNT_CNT m v).setFlag .PWM_STAT_DIR m falling
      (s.pwmInt m (6 + which)).pwmEvent m (2 + which)
    else s)

/-- PWM_COMPARE_MATCH (08 R191 to R194): values that the carrier never passes never match. -/
def execPwmCompareMatch (m : Nat) (b falling : Bool) (s : State) : Out :=
  .next (
    let evt := 3 + 2 * b.toNat + falling.toNat
    if s.counts m && (s.eventAt m evt).isSome then
      let mode := s.fld .PWM_CTRL_CMODE m
      let (cnt, ofs) := matchPlace mode (s.cmp m b) falling
      let s := (s.setFld .PWM_CNT_CNT m cnt).setFlag .PWM_STAT_DIR m falling
      let s := s.when (b && !falling) (fun s => s.linkOut m 2)
      (s.commandRules m evt (s.nowTaps + ofs)).pwmInt m (evt - 1)
    else s)

/-- The interlock of size L blocks a both-on command (09 R231): both pads go low until the next period start. -/
def State.interlock (s : State) (m : Nat) : State :=
  let s := s.leaveFollow m .shoot
  let s := (s.setSide m false false s.nowTaps false false).setSide m true false s.nowTaps false false
  s.modPm m (fun p => { p with shot := true, shotAt := some s.tb })

/-- A turn-on delay of an internal command runs out while the pads do not follow: it starts blanking (07 R178), and in the tick of a
TRIP a both-on command still acts as shoot-through (09 Table 9-3). -/
def State.innerExpiry (s : State) (m : Nat) (low : Bool) : State :=
  let p := s.pm m
  if (if low then p.dueLo else p.dueHi).isNone then s else
  let s := s.modPm m (fun p => if low then { p with inLo := true, dueLo := none } else { p with inHi := true, dueHi := none })
  (s.startLeb m low).when (!s.complementary m && s.sizeL && p.mode == .safe && p.leftAt == some s.tb
    && (if low then p.inHi else p.inLo)) (fun s => s.interlock m)

/-- TURN_ON_DELAY_EXPIRY (08 R205): the side rises if its command is still on, or its pulse has its moved end still to come. -/
def execTurnOnDelayExpiry (m : Nat) (low : Bool) (s : State) : Out :=
  .next (
    if (s.pm m).mode != .follow then s.innerExpiry m low else
    let s := s.dueFalls m (((if low then (s.pm m).riseLo else (s.pm m).riseHi).getD 0) + 1)
    let p := s.pm m
    let on := if low then (if s.complementary m then !p.he else p.le || p.fallLo.isSome) else p.he || p.fallHi.isSome
    match (if low then p.riseLo else p.riseHi) with
    | none => s
    | some r =>
      let s := s.modPm m (fun p => if low then { p with riseLo := none } else { p with riseHi := none })
      if !on || p.refresh != 0 then s
      else if !s.complementary m && s.sizeL && (if low then p.hi else p.lo) then s.interlock m
      else s.setCmd m low true r false)

/-! ### Shadows and staging -/

/-- A whole shadow word is committed (08 R199, R201, R204): one in the tick of a reload counts as late; a direct write in
the tick of a staged move to the same word leaves the staged value. -/
def State.commitShd (s : State) (m w v : Nat) (direct : Bool) : State :=
  let p := s.pm m
  let s := if p.commitAt = some s.tb then s
    else s.modPm m (fun p => { p with commitAt := some s.tb, commits := 0, before := [s.shd m 0, s.shd m 1, s.shd m 2] })
  let s := s.when (p.reloadAt == some s.tb) (fun s => s.count .PWM_STAT_LATE m)
  let s := s.modPm m (fun p => { p with commits := p.commits + 1 })
  if direct && p.movedAt == some s.tb && p.movedWords.contains w then s
  else
    let v := shdStored w v
    (s.setFld (shdLow w) m v).setFld (shdHigh w) m (v / 2 ^ 32)

/-- The address of a half of a shadow word. -/
def shdAddr (m w : Nat) (high : Bool) : Nat := pwmAddr m (0x40 + 8 * w + 4 * high.toNat)

/-- A core's write to the low half of a shadow word (08 R199): it is held, and a half held before is discarded. -/
def State.shdLowWrite (s : State) (core m w v : Nat) : State :=
  if !s.hasPm m then s else
  let s := match s.pwm.holds.getD core none with
    | some (m', w', _) => s.discarded .pwm (shdAddr m' w' false)
    | none => s
  { s with pwm := { s.pwm with holds := s.pwm.holds.set core (some (m, w, v % 2 ^ 32)) } }

/-- A core's write to the high half (08 R199): it commits the matching held half, or both are discarded. -/
def State.shdHighWrite (s : State) (core m w v : Nat) : State :=
  if !s.hasPm m then s else
  match s.pwm.holds.getD core none with
  | some (m', w', lo) =>
    let s := { s with pwm := { s.pwm with holds := s.pwm.holds.set core none } }
    if m' = m ∧ w' = w then s.commitShd m w (lo + v % 2 ^ 32 * 2 ^ 32) true
    else (s.discarded .pwm (shdAddr m' w' false)).discarded .pwm (shdAddr m w true)
  | none => s.discarded .pwm (shdAddr m w true)

/-- PWM_SHADOW_LOW_WRITE (08 R199). -/
def execPwmShadowLowWrite (core m w value : Nat) (s : State) : Out :=
  .next (s.accessBlk core .pwm (shdAddr m w false) (fun s => if w < 3 then s.shdLowWrite core m w value else s))

/-- PWM_SHADOW_HIGH_WRITE (08 R199). -/
def execPwmShadowHighWrite (core m w value : Nat) (s : State) : Out :=
  .next (s.accessBlk core .pwm (shdAddr m w true) (fun s => if w < 3 then s.shdHighWrite core m w value else s))

/-- Engine `n` stages a shadow word (08 R202): only engines of the entitled Wing may. -/
def State.stage (s : State) (n m w v : Nat) : State :=
  if !s.hasPm m then s
  else if s.isEntitled (engineWing n) m then
    s.modPm m (fun p => { p with
      staged := p.staged.filter (fun e => !(e.engine == n && e.word == w)) ++ [{ engine := n, word := w, value := v }] })
  else s.discarded .engine (shdAddr m w false)

/-- The words engine `n` has staged are complete (08 R202). -/
def State.markStaged (s : State) (n : Nat) : State :=
  { s with pwm := { s.pwm with mods := s.pwm.mods.map (fun p =>
    { p with staged := p.staged.map (fun e => if e.engine = n then { e with complete := true } else e) }) } }

/-- The words engine `n` has staged in an abandoned run are discarded and counted by module (08 R202). -/
def State.dropStaged (s : State) (n : Nat) : State :=
  s.each (List.range 24) (fun s m =>
    let had := (s.pm m).staged.any (fun e => e.engine == n && !e.complete)
    let s := s.modPm m (fun p => { p with staged := p.staged.filter (fun e => !(e.engine == n && !e.complete)) })
    s.when had (fun s => s.count .PWM_STGDROP))

/-- The staging sets at a PERIOD Bell (08 R202): complete words are on their way, the others are discarded and counted. -/
def State.stagingAtBell (s : State) : State :=
  s.each (List.range 24) (fun s m =>
    let p := s.pm m
    let drop := p.staged.any (fun e => !e.complete)
    let s := s.modPm m (fun p => { p with moving := p.moving ++ p.staged.filter (fun e => e.complete), staged := [] })
    s.when drop (fun s => s.count .PWM_STGDROP))

/-- A word on its way still moves (08 R202, 14 R355): its Wing is entitled, or is the old holder at the handover Bell. -/
def State.mayMove (s : State) (m n : Nat) : Bool :=
  s.isEntitled (engineWing n) m || (s.dup.handover == .copying && s.holder == some (engineWing n))

/-- A module named in HP_REARM is enabled at this staged move (14 R354): with its first complete set; a module that no
engine of the Wing stores to, after a Bell at which any of its engines has a complete run, or, where no engine is enabled,
after the Bell that follows the one at which the Wing entered ACTIVE. -/
def State.rearmNow (s : State) (m : Nat) (moved : Bool) : Bool :=
  s.dup.rearm.testBit m && (moved ||
    match s.entitled m with
    | none => false
    | some w =>
      let mine := (List.range 12).filter (fun n => engineWing n == w)
      !(s.fedBy w).contains m &&
        (mine.any (fun n => s.eng.done.testBit n) || (mine.all (fun n => !s.flag .LE_CTRL_EN n) && 1 ≤ s.dup.activeBells)))

/-- The shadow words of every module, 0 for those fused off (14 Table 14-3). -/
def State.allShadows (s : State) : List Nat :=
  (List.range 72).map (fun i => if s.hasPm (i / 3) then s.shd (i / 3) (i % 3) else 0)

/-- The shadow words join the snapshot being written, after its Bell's staged move (14 R350). -/
def State.captureShadows (s : State) : State :=
  match s.dup.writing with
  | some p => if p.shadows.isEmpty then { s with dup := { s.dup with writing := some { p with shadows := s.allShadows } } } else s
  | none => s

/-- STAGED_MOVE (08 R202 to R204, 14 R354): 12 ticks after the Bell the staged words move to the shadows. -/
def execStagedMove (s : State) : Out :=
  .next (State.captureShadows <| s.each (List.range 24) (fun s m =>
    let l := (s.pm m).moving
    let go := l.filter (fun e => s.mayMove m e.engine)
    let s := s.each go (fun s e => s.commitShd m e.word e.value false)
    let s := s.when (!l.isEmpty) (fun s => s.modPm m (fun p => { p with
      moving := [], movedAt := if go.isEmpty then p.movedAt else some s.tb, movedWords := go.map (fun e => e.word) }))
    let s := s.when (go.length < l.length) (fun s => s.count .PWM_STGDROP)
    s.when (s.rearmNow m (!go.isEmpty)) (fun s =>
      State.setOuten { s with dup := { s.dup with rearm := setBitTo s.dup.rearm m false } } m)))

/-! ### Delay lines -/

/-- DELAY_LINE_LOCK (08 R195). -/
def execDelayLineLock (s : State) : Out := .next (s.setFld .PWM_DLSTAT_DL_LOCK 0 1)

/-- DELAY_LINE_LOST (08 R198). -/
def execDelayLineLost (s : State) : Out :=
  .next (((s.setFld .PWM_DLSTAT_DL_LOCK 0 0).setFld .PWM_DLSTAT_DL_LOST 0 1).event .pwm 0x0E 0 0)

/-! ### Leaving the safe level -/

/-- The pads follow the commands, which take H as if it had just changed (08 R214). -/
def State.followNow (s : State) (m : Nat) : State :=
  let tripf := (s.pm m).mode = .safe
  let s := s.setFld .PWM_STAT_OUTACT m 1
  let s := (s.setSide m false false s.nowTaps tripf false).setSide m true false s.nowTaps tripf false
  let comp := s.complementary m
  s.modPm m (fun p =>
    let wantLo := if comp then !p.h else p.l
    { p with
      mode := .follow, he := p.h, le := p.l, hi := false, lo := false, inHi := false, inLo := false, dueHi := none, dueLo := none
      early := none
      riseHi := if p.h then some (s.nowTaps + s.ton m false) else none
      riseLo := if wantLo then some (s.nowTaps + s.ton m true) else none })

/-- SAFE_LEVEL_RESUME_CHECK (08 R214, R217; 09 R231, R236): 4 ticks after a period start. -/
def execSafeLevelResumeCheck (m : Nat) (s : State) : Out :=
  .next (if !(s.pm m).due then s else
    let s := s.modPm m (fun p => { p with due := false })
    let p := s.pm m
    if (s.together m).any s.lowCause then s
    else if (s.together m).any s.safeCause then s.when (p.mode != .safe) (fun s => s.padsOff m .safe true)
    else if p.mode = .shoot ∧ p.h ∧ p.l ∧ !s.complementary m then s
    else s.followNow m)

/-! ### Enables, starts and the SYNC chain -/

/-- A write that an ordered shutdown holds (09 R242). -/
def State.holdWrite (s : State) (m : Nat) (outen : Bool) : State :=
  let s := { s with gate := { s.gate with held := s.gate.held.filter (· != (m, outen)) ++ [(m, outen)] } }
  (s.setBit .GI_DEFER_DEFER 0 m true).gateNow 0x33 0xFF (2 ^ m)

/-- A held write is cancelled by a write of 0 (09 R242). -/
def State.cancelHeld (s : State) (m : Nat) (outen : Bool) : State :=
  { s with gate := { s.gate with held := s.gate.held.filter (· != (m, outen)) } }

/-- A write to OUTEN that acts for Wing `w` (08 R216, 09 R242, 18 R435). -/
def State.outenWrite (s : State) (w : Wing) (m : Nat) (on : Bool) : State :=
  if !s.hasPm m then s
  else if !on then (s.cancelHeld m true).clearOuten m
  else if !s.isEntitled w m then s.discarded .pwm (pwmAddr m 4)
  else if s.prefectBlocks then s.gateNow 0x34 0xFF (2 ^ m)
  else if s.bit .GI_SHUT_BUSY 0 m then s.holdWrite m true
  else if s.bit .GI_LOCKED_LOCK 0 m then s.gateNow 0x34 0xFF (2 ^ m)
  else s.setOuten m

/-- PWM_OUTEN_WRITE (08 R216). -/
def execPwmOutenWrite (core m : Nat) (on : Bool) (s : State) : Out :=
  .next (s.accessBlk core .pwm (pwmAddr m 4) (fun s => s.outenWrite (coreWing core) m on))

/-- A write to CNT_EN (08 R218, 09 R242). -/
def State.cntEnWrite (s : State) (m : Nat) (on : Bool) : State :=
  if !s.hasPm m then s
  else if !on then (s.cancelHeld m false).stopCounter m
  else if s.bit .GI_SHUT_BUSY 0 m then s.holdWrite m false
  else if s.flag .PWM_RUN_CNT_EN m then s
  else s.startCounter m

/-- PWM_CNT_EN_WRITE (08 R218). -/
def execPwmCntEnWrite (core m : Nat) (on : Bool) (s : State) : Out :=
  .next (s.accessBlk core .pwm (pwmAddr m 4) (fun s => s.cntEnWrite m on))

/-- A write to ARM, which only head modules have (08 R218, R221). -/
def State.armWrite (s : State) (m : Nat) (on : Bool) : State := s.when (s.isHead m) (fun s => s.setFlag .PWM_RUN_ARM m on)

/-- PWM_ARM_WRITE (08 R218). -/
def execPwmArmWrite (core m : Nat) (on : Bool) (s : State) : Out :=
  .next (s.accessBlk core .pwm (pwmAddr m 4) (fun s => s.armWrite m on))

/-- A write to PWM_GSTART (08 R218). -/
def State.gstartWrite (s : State) (mask : Nat) : State :=
  { s with pwm := { s.pwm with gstart := s.pwm.gstart ++ [mask % 2 ^ 24] } }

/-- PWM_GSTART_WRITE (08 R218). -/
def execPwmGstartWrite (core mask : Nat) (s : State) : Out :=
  .next (s.accessBlk core .pwm 0x40001800 (fun s => s.gstartWrite mask))

/-- GROUP_START_EXECUTE (08 R218): 8 ticks after the write every named module starts or restarts in one tick. -/
def execGroupStartExecute (s : State) : Out :=
  .next (match s.pwm.gstart with
    | [] => s
    | mask :: r =>
      State.each { s with pwm := { s.pwm with gstart := r } } ((bitsOf 24 mask).filter s.hasPm) State.startCounter)

/-- PWM_TIMED_START (08 R218): in the tick in which the low word of the timebase equals PWM_START, an armed head module starts, and
ARM clears. -/
def execPwmTimedStart (m : Nat) (s : State) : Out :=
  .next (if s.isHead m && s.flag .PWM_RUN_ARM m && s.fld .PWM_START m == s.ts then
    (s.setFld .PWM_RUN_ARM m 0).startCounter m else s)

/-- PWM_LINK_PULSE (08 R219, R220): a following module loads LOADCNT compensated for the hops since the event, and a
forwarding module relays the pulse. -/
def execPwmLinkPulse (m : Nat) (s : State) : Out :=
  .next (match s.pwm.links.find? (fun l => l.dest == m) with
    | none => s
    | some l =>
      let s := { s with pwm := { s.pwm with links := s.pwm.links.erase l } }
      if !s.hasPm m then s else
      let s := s.when (s.flag .PWM_CTRL_FOLLOW m) (fun s =>
        (s.loadCount m (if s.counts m then l.latency else 0)).modPm m (fun p => { p with loadAt := some s.tb }))
      s.when (s.flag .PWM_CTRL_FORWARD m) (fun s => s.sendLink m l.latency))

/-- A write to PWM_INT (08 R221): non-head modules ignore it; a change of ISEL or PRESC restarts the prescaler. -/
def State.intWrite (s : State) (m isel presc : Nat) (ien clr : Bool) : State :=
  if !s.isHead m then s else
  let changed := s.fld .PWM_INT_ISEL m != isel % 8 || s.fld .PWM_INT_PRESC m != presc % 16
  let s := ((s.setFld .PWM_INT_ISEL m isel).setFld .PWM_INT_PRESC m presc).setFlag .PWM_INT_IEN m ien
  let s := s.when clr (fun s => s.setFld .PWM_INT_IFLAG m 0)
  s.when changed (fun s => s.setFld .PWM_INT_ICNT m 0)

/-- PWM_INT_WRITE (08 R221). -/
def execPwmIntWrite (core m isel presc : Nat) (ien clr : Bool) (s : State) : Out :=
  .next (s.accessBlk core .pwm (pwmAddr m 0x30) (fun s => s.intWrite m isel presc ien clr))

/-- Module `m` in one tick: its counter advances (08 R188), in a debug halt only with DBGRUN (08 R213), and the moved ends of its
pulses that lie in the tick are made. -/
def State.modTick (s : State) (m : Nat) : State :=
  let s := s.dueFalls m (s.nowTaps + 128)
  if !s.counts m then s else
  let mode := s.fld .PWM_CTRL_CMODE m
  let per := s.per m
  let pos := posOf mode per (min (s.fld .PWM_CNT_CNT m) per) (s.flag .PWM_STAT_DIR m)
  let (cnt, falling) := countAt mode per ((pos + 1) % periodTicks mode per)
  ((s.setFld .PWM_CNT_CNT m cnt).setFlag .PWM_STAT_DIR m falling).earlyFall m

/-- Every module takes its tick. -/
def State.advanceCounters (s : State) : State := s.each (List.range 24) State.modTick

end Sys2Proof.Machine
end

