-- ==== Sys2Proof/Machine/Recess.lean ====
section
/-!
DEFINITION. Recess: the commands that put a function group into it and out of it (20 R484, R485, R489).
-/
namespace Sys2Proof.Machine

/-- The function group of engine `n` (20 Table 20-6). -/
def engGroup (n : Nat) : Nat := if n < 6 then 7 else 8

/-- A dictionary request ends with an abort code, 0 for success. -/
def State.answer (s : State) (code : Nat) : State := { s with dict := { s.dict with lastAbort := code } }

/-- A run of an engine of group 7 or 8 is in progress. -/
def State.groupEngineRuns (s : State) (g : Nat) : Bool := (List.range 12).any (fun n => engGroup n = g && s.flag .LE_STAT_RUNNING n)

/-- Some module entitled to the Wing of engine group `g` has OUTEN set (20 R489). -/
def State.groupDrives (s : State) (g : Nat) : Bool :=
  let w : Wing := if g = 8 then .b else .a
  (List.range 24).any (fun m => s.flag .PWM_RUN_OUTEN m && s.isEntitled w m)

/-- A RUNNING group leaves RUNNING (20 Table 20-8): ENTERING while an engine run is in progress, else RECESS with a pending
set that is a copy of the set in force. -/
def State.enterRecess (s : State) (g : Nat) : State :=
  if (g = 7 || g = 8) && s.groupEngineRuns g then s.modGroup g (fun p => { p with st := .entering })
  else
    let s := s.modGroup g (fun p => { p with st := .recess, pend := [], pendVars := [] })
    (s.when (g = 1) State.sarLeave).when (g = 2) State.modLeave

/-- A group command acts or is refused (20 R485, Table 20-8): 1 ENTER, 2 RESTART, 3 RESTORE. -/
def State.groupAct (s : State) (g cmd : Nat) : State :=
  let ok (s : State) : State := (s.modGroup g (fun p => { p with lastCmd := cmd, discarded := false })).answer 0
  let no := s.answer 0x08000022
  match cmd, (s.group g).st with
  | 1, .running => if (g = 7 || g = 8) && s.groupDrives g then no else ok (s.enterRecess g)
  | 1, .recess | 1, .rejected => ok s
  | 2, .recess | 2, .rejected => ok (s.modGroup g (fun p => { p with st := .validating, restartAbort := 0, joint := false }))
  | 2, .validating => ok s
  | 3, .recess | 3, .rejected => ok (s.modGroup g (fun p => { p with st := .recess, pend := [], pendVars := [] }))
  | _, _ => no

/-- A write to 0x2010 + g:01 (20 R485): held in ENTERING and APPLYING, as DEFERRED, with event 0x22. -/
def State.groupCommand (s : State) (g cmd : Nat) : State :=
  if cmd = 0 || 3 < cmd then s.answer 0x06090030
  else
    match (s.group g).st with
    | .entering | .applying =>
      (s.modGroup g (fun p => { p with held := p.held ++ [(cmd, none)], deferred := true, discarded := false })).mgmtEvent 0x22 g cmd 0
        |>.answer 0
    | _ => s.groupAct g cmd

/-- An answer is kept for 2 s in the cache of its source and TAG, the newest 16 of them (20 R476). -/
def State.cacheAnswer (s : State) (port source tag code : Nat) (data : List Nat) : State :=
  let a : Answer := { port := port, source := source, tag := tag, code := code, data := data, at_ := s.tb }
  { s with dict := { s.dict with cache :=
    (a :: s.dict.cache.filter (fun x => !(x.port == port && x.source == source && x.tag == tag))).take 16 } }

/-- The transfers that run on a port (20 R476). -/
def State.idpRunning (s : State) (p : Nat) : Nat := (s.dict.idp.filter (fun t => t.port == p && !t.aborted)).length

/-- An IDP request is answered (20 R476): from now on its answer comes from the cache; a value longer than one datagram
is kept as a copy from which later segments come, unless 8 transfers run on the port. -/
def State.idpAnswer (s : State) (p src tag code : Nat) (data : List Nat) : State :=
  if code = 0 && 1400 < data.length then
    if 8 ≤ s.idpRunning p then (s.cacheAnswer p src tag 0x05040005 []).answer 0x05040005
    else
      let t : IdpTransfer := { port := p, source := src, tag := tag, write := false, index := 0, sub := 0
                               total := data.length, data := data, last := s.tb }
      { s with dict := { s.dict with idp := t :: s.dict.idp, lastAbort := 0, answered := data.take 1400 } }
  else { s.cacheAnswer p src tag code data with dict := { (s.cacheAnswer p src tag code data).dict with
    lastAbort := code, answered := data } }

/-- A USDO session that waited is answered (20 R474): it ends, or its read goes on with the bytes that found no room. -/
def State.usdoAnswer (s : State) (p client code : Nat) (data : List Nat) : State :=
  let mine (u : UsdoSession) : Bool := u.port = p && u.client = client && u.waiting
  let room := ((s.dict.usdo.find? mine).map (fun u => u.room)).getD 0
  let next (u : UsdoSession) : Option UsdoSession :=
    if !mine u then some u
    else if u.write || code != 0 || data.length ≤ room then none
    else some { u with waiting := false, data := data.drop room }
  { s with dict := { s.dict with usdo := s.dict.usdo.filterMap next, lastAbort := code, answered := data.take room } }

/-- A request is answered, by the transport it came over (20 R474, R476; 21 R513). -/
def State.tell (s : State) (a : Asker) (code : Nat) (data : List Nat) : State :=
  match a with
  | .idp p src tag => s.idpAnswer p src tag code data
  | .usdo p client => s.usdoAnswer p client code data
  | .core c => s.endGateway c code

/-- Those who await group `g`'s restart are answered with the outcome (20 R487). -/
def State.tellAskers (s : State) (g : Nat) : State :=
  let l := (s.group g).askers
  let code := s.dict.lastAbort
  (s.each l (fun s a => s.tell a code [])).modGroup g (fun p => { p with askers := [] })

/-- One command that was held is executed, and answered unless it has begun a restart or is held again (20 R485). -/
def State.heldCommand (s : State) (g : Nat) (h : Nat × Option Asker) : State :=
  match (s.group g).st with
  | .entering | .applying => s.modGroup g (fun p => { p with held := p.held ++ [h], deferred := true })
  | _ =>
    let s := s.groupAct g h.1
    if h.1 = 2 && s.dict.lastAbort = 0 then s.modGroup g (fun p => { p with askers := p.askers ++ h.2.toList })
    else
      let code := s.dict.lastAbort
      s.each h.2.toList (fun s a => s.tell a code [])

/-- A state that held commands has ended: they are executed in order. -/
def State.releaseHeld (s : State) (g : Nat) : State :=
  let l := (s.group g).held
  (s.modGroup g (fun p => { p with held := [], deferred := false })).each l (fun s h => s.heldCommand g h)

/-- ENTERING ends with the run that was in progress (20 Table 20-7). -/
def State.settleEntering (s : State) : State :=
  s.each [7, 8] (fun s g =>
    if (s.group g).st == .entering && !s.groupEngineRuns g then
      (s.modGroup g (fun p => { p with st := .recess, pend := [], pendVars := [] })).releaseHeld g
    else s)

end Sys2Proof.Machine
end

