-- ==== Sys2Proof/Machine/Engine.lean ====
section
/-!
DEFINITION. The Lesson engines between instructions (10): runs and their ends, the rollback, held writes, overruns,
engine faults, retirement and the Substitutes, and the Tutor writes of R248.
-/
namespace Sys2Proof.Machine

/-- An engine event (10 Table 10-9). -/
def State.engEvent (s : State) (code n cause pc ecode value ts : Nat) : State :=
  s.emit .engine (code % 256 + n % 16 * 2 ^ 8 + cause % 16 * 2 ^ 12 + pc % 2 ^ 12 * 2 ^ 16 + ecode % 2 ^ 16 * 2 ^ 32
    + value % 2 ^ 32 * 2 ^ 64 + ts % 2 ^ 32 * 2 ^ 96)

/-- A run of engine `n` is in progress. -/
def State.running (s : State) (n : Nat) : Bool := s.flag .LE_STAT_RUNNING n

/-- Engine `n` itself or a Substitute that serves it can run (10 R272, R273). -/
def State.engineServed (s : State) (n : Nat) : Bool := !s.bit .LE_MAP_RET 0 n || s.siteOf n != n

/-- Engine `n` starts a run at a Bell (10 R274): EN, its group out of Recess, its Wing ACTIVE, not halted by the debugger,
not retired, and clocked. -/
def State.mayRun (s : State) (n : Nat) : Bool :=
  s.flag .LE_CTRL_EN n && s.groupRunning (engGroup n) && s.wing (engineWing n) == .active && !s.tut.leHalted.testBit n
    && s.engineServed n && s.wingClock (engineWing n)

/-- A run of engine `n` executes: it is in progress, no WAIT stalls it (10 R252), and its Wing has its clock (04 R100, R101). -/
def State.engineActs (s : State) (n : Nat) : Bool :=
  n < 12 && s.running n && (s.engine n).wait.isNone && s.wingClock (engineWing n)

/-! ### Engine memory -/

/-- 64-bit word `w` of the data is written whole by the writes `l`. -/
def wholeWord (l : List (Nat × Nat)) (w : Nat) : Bool := l.any (fun e => e.1 = 2 * w) && l.any (fun e => e.1 = 2 * w + 1)

/-- Stores made together into engine memory (15 R372): a word written whole loses its poison; a half of a poisoned word is
discarded. -/
def State.engStore (s : State) (n : Nat) (l : List (Nat × Nat)) : State :=
  let mem := 0x20 + s.siteOf n
  s.each l (fun s e =>
    let w := e.1 / 2
    if !s.poisoned mem w then s.setEngWord n e.1 e.2
    else if wholeWord l w then (s.mark mem w false).setEngWord n e.1 e.2
    else s.badRead mem (engAddr n (4 * e.1)) false)

/-- A store of `l` meets a poisoned word that it does not cover (15 R372). -/
def State.engStoreFails (s : State) (n : Nat) (l : List (Nat × Nat)) : Bool :=
  l.any (fun e => s.engBad n (e.1 / 2) && !wholeWord l (e.1 / 2))

/-- The held writes are made, in the order written (10 R248), and the data updates of a shipped Timetable's RW entries (11 R281). -/
def State.settleHeld (s : State) (n : Nat) : State :=
  let l := (s.engine n).held
  let s := s.modEngine n (fun e => { e with held := [] })
  (s.each l (fun s w => s.engStore n w.2)).settleLate n

/-- The LE_SNAPn range of engine `n` in 64-bit words (10 R265). -/
def State.snapRange (s : State) (n : Nat) : List Nat :=
  let base := 0x2000 + 2 * s.fld .LE_SNAP_BASE n
  (List.range (s.fld .LE_SNAP_LEN n)).map (fun i => s.engWord n (base + 2 * i) + s.engWord n (base + 2 * i + 1) * 2 ^ 32)

/-! ### Ends of runs -/

/-- The run of engine `n` stops without END: its staged words and its kept events are discarded (10 R263, R266). -/
def State.stopRun (s : State) (n : Nat) : State :=
  let s := (s.setFld .LE_STAT_RUNNING n 0).dropStaged n
  s.modEngine n (fun e => { e with due := false, complete := false, wait := none, events := [], evtFault := none })

/-- The data words the run has written take their old values, and held writes follow (10 R263, R248). -/
def State.rollback (s : State) (n : Nat) : State :=
  let l := (s.engine n).log
  let s := s.each l (fun s e => s.setEngWord n e.1 e.2)
  (s.modEngine n (fun e => { e with log := [] })).settleHeld n

/-- The run in progress is abandoned and rolled back (10 R263, R266). -/
def State.abandonRun (s : State) (n : Nat) : State := ((s.stopRun n).rollback n).settleEntering

/-- Every run of a Wing's engines is abandoned, as when it leaves ACTIVE (10 R274) or its clock stops (R266). There the rollback
waits for the clock, but nothing reads or writes the words before it: here it is made at once. -/
def State.abandonWing (s : State) (w : Wing) : State :=
  s.each ((List.range 12).filter (fun n => engineWing n == w)) (fun s n =>
    if s.running n || (s.engine n).due then s.abandonRun n else s)

/-- An overrun (10 R263, R264): the Bell finds the run of engine `n` not complete. -/
def State.overrun (s : State) (n : Nat) : State :=
  let e := s.engine n
  let s := (s.setFld .LE_FLAGS_PC n e.pc).abandonRun n
  let s := (s.count .LE_STAT_OVRCONS n).count .LE_STAT_OVRCNT n
  let s := s.engEvent 0x50 n 0 e.pc 0 (s.fld .LE_STAT_OVRCONS n) e.tk
  s.when (s.fld .LE_CTRL_OVR_LIMIT n ≤ s.fld .LE_STAT_OVRCONS n && !e.limited) (fun s =>
    let s := s.setFld .LE_STAT_OVRLIM n 1
    let s := s.engEvent 0x51 n 0 e.pc 0 (s.fld .LE_STAT_OVRCONS n) e.tk
    (s.runEntry 11 (s.fld .RSP_MASK_MASK 11)).modEngine n (fun e => { e with limited := true }))

/-! ### Faults and retirement -/

/-- The Substitute of a Wing: the field that names the engine it serves. -/
def substMap : Wing → Fld
  | .a => .LE_MAP_SEA
  | .b => .LE_MAP_SEB

/-- The Substitute's retired flag. -/
def substRet : Wing → Fld
  | .a => .LE_MAP_SEA_RET
  | .b => .LE_MAP_SEB_RET

/-- The Substitute's copy flag. -/
def substCopy : Wing → Fld
  | .a => .LE_SUBST_COPYA
  | .b => .LE_SUBST_COPYB

/-- The Substitute's image flag. -/
def substImg : Wing → Fld
  | .a => .LE_SUBST_IMGA
  | .b => .LE_SUBST_IMGB

/-- The engine a Wing's Substitute is copying or has copied. -/
def State.copyOf (s : State) : Wing → Option Nat
  | .a => s.eng.copyA
  | .b => s.eng.copyB

/-- The engine being copied to a Wing's Substitute, and whether its copy is complete. -/
def State.setCopy (s : State) (w : Wing) (n : Option Nat) (ready : Bool) : State :=
  match w with
  | .a => { s with eng := { s.eng with copyA := n, readyA := ready } }
  | .b => { s with eng := { s.eng with copyB := n, readyB := ready } }

/-- A Wing's engine reserve is exhausted (10 R273, 14 R359): event 0x89, and HOREQ where AUTOHO asks the holder. -/
def State.reserveGone (s : State) (w : Wing) : State :=
  let s := s.dupEvent 0x89 w 0 0 0 0 s.ts
  s.when (s.flag .HP_CTRL_AUTOHO && !s.split && s.pass w) (fun s => (s.setFld .HP_STAT_HOREQ 0 1).raise w 6)

/-- Engine `n` is retired (10 R271 to R273): it stops, event 0x55, the record of repairs, and its copy to the Wing's
Substitute begins where that is idle. Where the Substitute itself served the engine, the site is retired. -/
def State.retireEngine (s : State) (n : Nat) : State :=
  let w := engineWing n
  if s.bit .LE_MAP_RET 0 n && s.siteOf n = n then s else
  let pc := (s.engine n).pc
  let s := if s.running n || (s.engine n).due then s.abandonRun n else s
  let s := s.engEvent 0x55 n 0 pc 0 0 (s.fld .LT_LAST)
  if s.siteOf n != n then
    ((((s.setFld (substMap w) 0 0xF).setFld (substRet w) 0 1).recordRepair 6 w.num 0 0).setCopy w none false).reserveGone w
  else
    let s := (s.setBit .LE_MAP_RET 0 n true).recordRepair 5 n 0 0
    if s.fld (substMap w) != 0xF || s.flag (substRet w) || (s.copyOf w).isSome then s.reserveGone w
    else ((s.consumeSpare 4).setFld (substCopy w) 0 1).setCopy w (some n) false

/-- The report of an engine fault (10 R266): FAULT, FCAUSE, the instruction, event 0x52 and response entry 13. -/
def State.faultReport (s : State) (n cause pc : Nat) : State :=
  let s := ((s.setFld .LE_STAT_FAULT n 1).setFld .LE_STAT_FCAUSE n cause).setFld .LE_FLAGS_PC n pc
  let s := s.engEvent 0x52 n cause pc 0 0 (s.engine n).tk
  s.runEntry 13 (s.fld .RSP_MASK_MASK 13)

/-- Ticks in one second of the timebase. -/
def tickSecond : Nat := 640000000

/-- A hardware fault counts towards retirement (10 R271): a stall, or a second hardware fault within 1 s. -/
def State.hardwareFault (s : State) (n cause : Nat) : State :=
  let again := match (s.engine n).faultAt with
    | some t => s.tb ≤ t + tickSecond
    | none => false
  let s := s.modEngine n (fun e => { e with faultAt := some s.tb })
  if again || cause = 5 then s.retireEngine n else s

/-- An engine fault of cause 1, 2, 3, 5 or 6 in a run (10 R266): the run is abandoned at the fault. -/
def State.engineFault (s : State) (n cause : Nat) : State :=
  let s := (s.faultReport n cause (s.engine n).pc).abandonRun n
  if cause = 1 || cause = 2 || cause = 5 then s.hardwareFault n cause else s

/-! ### The run -/

/-- LESSON_RUN_START (10 R247, R253, R260). -/
def execLessonRunStart (n : Nat) (s : State) : Out :=
  .next (if n < 12 && (s.engine n).due && !s.running n && s.mayRun n then
    let man := s.fld .LE_CMD_MAN n
    (s.modEngine n (fun e => { e with
      due := false, complete := false, pc := 0, regs := List.replicate 32 0, flags := man * 4 + e.first.toNat * 8,
      first := false, cycles := 0, wait := none, log := [], events := [], evtFault := none })).setFld .LE_STAT_RUNNING n 1
  else s)

/-! ### Tutor writes -/

/-- A data write of a core is made, or held while a run is in progress; with 16 held it ends with a store access fault
(10 R248). A held half that is made alone is never lost: it is `flushed` into the held writes whatever their number (assumption
log, entry 54). -/
def State.dataMake (s : State) (core n : Nat) (l : List (Nat × Nat)) (flushed : Bool := false) : State :=
  let addr := engAddr n (4 * (l.headD (0, 0)).1)
  if s.running n then
    if !flushed && 16 ≤ ((s.engine n).held.filter (fun w => w.1)).length then s.coreFault core 7 addr
    else s.modEngine n (fun e => { e with held := e.held ++ [(true, l)] })
  else
    let bad := s.engStoreFails n l
    (s.engStore n l).when bad (fun s => s.coreFault core 7 addr)

/-- The held low half of a core, if any, is made alone (10 R248). -/
def State.flushLow (s : State) (core : Nat) : State :=
  match s.eng.lowHold.getD core none with
  | some (n, idx, v) =>
    ({ s with eng := { s.eng with lowHold := s.eng.lowHold.set core none } } : State).dataMake core n [(idx, v)] true
  | none => s

/-- A core's write to the 32-bit word `idx` of a data area (10 R248): a low half is held, a high half joins its low half. -/
def State.dataWrite (s : State) (core n idx v : Nat) : State :=
  let v := v % 2 ^ 32
  if idx % 2 = 0 then
    let s := s.flushLow core
    { s with eng := { s.eng with lowHold := s.eng.lowHold.set core (some (n, idx, v)) } }
  else
    match s.eng.lowHold.getD core none with
    | some (n', idx', lo) =>
      if n' = n ∧ idx' + 1 = idx then
        ({ s with eng := { s.eng with lowHold := s.eng.lowHold.set core none } } : State).dataMake core n [(idx', lo), (idx, v)]
      else (s.flushLow core).dataMake core n [(idx, v)]
    | none => s.dataMake core n [(idx, v)]

/-- The key of word `idx` of engine `n`'s window in a pending set (20 R486). -/
def windowKey (n idx : Nat) : Key := (0x10000 + n, idx)

/-- The copy of engine `n` to its Substitute has stopped for an image from firmware (10 R272, Table 10-10). -/
def State.imageAwaited (s : State) (n : Nat) : Bool :=
  let w := engineWing n
  n < 12 && s.copyOf w == some n && !s.flag (substCopy w) && !(match w with | .a => s.eng.readyA | .b => s.eng.readyB)

/-- A core's 32-bit store into window `n` (10 R246, Table 10-1): a data word as R248 states; a Timetable or subscription
word goes to the pending set in Recess and is discarded otherwise, unless it is the image a stopped copy waits for (R272). Windows
12 and 13 take stores while the Substitute is idle. -/
def State.windowWrite (s : State) (core n offset v : Nat) : State :=
  let idx := offset / 4
  let w : Wing := if n = 13 ∨ (6 ≤ n ∧ n < 12) then .b else .a
  if coreWing core != w then s.coreFault core 7 (engAddr n offset)
  else if offset % 4 != 0 then s.coreFault core 6 (engAddr n offset)
  else if 12 ≤ n && s.fld (substMap w) != 0xF then s
  else if 0x2000 ≤ idx && idx < 0x3F80 then s.dataWrite core n idx v
  else if s.imageAwaited n then s.setEngWord n idx v
  else if s.groupOpen (engGroup n) && n < 12 then
    s.modGroup (engGroup n) (fun p => { p with pendVars := p.pendVars.insert (windowKey n idx) (v % 2 ^ 32) })
  else s.discarded .engine (engAddr n offset)

/-- ENGINE_DATA_WRITE (10 R246, R248). -/
def execEngineDataWrite (core n offset value : Nat) (s : State) : Out :=
  .next (s.accessBlk core .engine (engAddr n offset) (fun s =>
    if n < 14 ∧ offset < 0x10000 then s.windowWrite core n offset value else s))

/-- HELD_LOW_HALF_TIMEOUT (10 R248). -/
def execHeldLowHalfTimeout (core : Nat) (s : State) : Out := .next (s.flushLow core)

/-- A data update (10 R278): in one piece between two runs, or at once while the engine does not run. `offset` counts
from the start of the data area (assumption log, entry 22). -/
def State.dataUpdate (s : State) (n offset : Nat) (words : List Nat) : State :=
  let l := (List.range words.length).map (fun i => (0x2000 + offset / 4 + i, words.getD i 0 % 2 ^ 32))
  if s.running n then s.modEngine n (fun e => { e with held := e.held ++ [(false, l)] }) else s.engStore n l

/-- The offset and length of a data update fit the data area (10 Table 10-13). -/
def updateFits (offset len : Nat) : Bool := offset % 4 = 0 && 1 ≤ len && len ≤ 64 && offset + 4 * len ≤ 32256

/-- ENGINE_DATA_UPDATE (10 R278). -/
def execEngineDataUpdate (n offset : Nat) (words : List Nat) (s : State) : Out :=
  .next (if n < 12 ∧ updateFits offset words.length then s.dataUpdate n offset words else s)

/-! ### Retirement by command, and the Substitutes -/

/-- LE_CMDn.RETIRE is written with 1 (10 R271): it takes effect at the next PERIOD Bell. -/
def State.retireWrite (s : State) (n : Nat) : State := s.modEngine n (fun e => { e with retire := true })

/-- The access of a core to the registers of engine `n` (10 R277): only cores of its own Wing. -/
def State.engineAccess (s : State) (core n addr : Nat) (f : State → State) : State :=
  s.accessBlk core .engine addr (fun s => if coreWing core == engineWing n then f s else s.coreFault core 7 addr)

/-- The address of a register of engine `n` (10 R277). -/
def engRegAddr (n ofs : Nat) : Nat := 0x45000100 + 0x20 * n + ofs

/-- LE_RETIRE_WRITE (10 R271). -/
def execLeRetireWrite (core n : Nat) (s : State) : Out :=
  .next (if n < 12 then s.engineAccess core n (engRegAddr n 4) (fun s => s.retireWrite n) else s)

/-- The 64-bit word `w` of engine `n`'s memory lies in its LE_SNAPn range. -/
def State.inSnap (s : State) (n w : Nat) : Bool :=
  0x1000 + s.fld .LE_SNAP_BASE n ≤ w && w < 0x1000 + s.fld .LE_SNAP_BASE n + s.fld .LE_SNAP_LEN n

/-- A snapshot slot is usable (14 R351). -/
def State.usable (s : State) (p : Snapshot) : Bool :=
  p.format = 1 && p.seq = p.seqEnd && p.crcOk && !p.poisoned &&
    (p.epoch = s.fld .RING_EPOCH || p.epoch + 1 = s.fld .RING_EPOCH)

/-- The newest usable slot (14 R351). -/
def State.newestSlot (s : State) : Option Snapshot :=
  s.dup.slots.foldl (fun best p => if s.usable p && (match best with | some b => b.seq < p.seq | none => true) then some p else best)
    none

/-- A snapshot's copy of 64-bit word `w` of engine `n`'s memory. -/
def Snapshot.engWord (p : Snapshot) (n w : Nat) : Option Nat :=
  (p.engines.find? (fun g => g.pair == n % 6 && 0x1000 + g.base ≤ w && w < 0x1000 + g.base + g.words.length)).map
    (fun g => g.words.getD (w - 0x1000 - g.base) 0)

/-- The copy to the Wing's Substitute ends (10 R272): words that read uncorrectable inside LE_SNAPn come from the Wing's
newest usable snapshot; any other needs an image from firmware. -/
def State.copyEnds (s : State) (w : Wing) (n : Nat) (bad : List Nat) : State :=
  let slot := s.newestSlot
  let lost := bad.filter (fun i => !(s.inSnap n (i / 2) && (match slot with | some p => (p.engWord n (i / 2)).isSome | none => false)))
  let s := s.each bad (fun s i =>
    match slot with
    | some p =>
      if s.inSnap n (i / 2) then
        match p.engWord n (i / 2) with
        | some v => (s.setEngWord n (i / 2 * 2) v).setEngWord n (i / 2 * 2 + 1) (v / 2 ^ 32)
        | none => s
      else s
    | none => s)
  let s := s.setFld (substCopy w) 0 0
  if lost.isEmpty then s.setCopy w (some n) true
  else
    let s := s.setFld (substImg w) 0 1
    (s.engEvent 0x57 n 0 0 0 0 (s.fld .LT_LAST)).raise w 7

/-- SUBSTITUTE_COPY_COMPLETE (10 R272). -/
def execSubstituteCopyComplete (w : Wing) (bad : List Nat) (s : State) : Out :=
  .next (match s.copyOf w with
    | some n => if s.flag (substCopy w) then s.copyEnds w n bad else s
    | none => s)

/-- GOA or GOB is written with 1 (10 R272): the copy that stopped for an image resumes. -/
def State.subgo (s : State) (w : Wing) : State :=
  s.when ((s.copyOf w).isSome && !s.flag (substCopy w) && s.fld (substMap w) = 0xF) (fun s => s.setFld (substCopy w) 0 1)

/-- GOA and GOB as written. -/
def State.subgoWrite (s : State) (goa gob : Bool) : State := (s.when goa (fun s => s.subgo .a)).when gob (fun s => s.subgo .b)

/-- LE_SUBGO_WRITE (10 R272). -/
def execLeSubgoWrite (core : Nat) (goa gob : Bool) (s : State) : Out :=
  .next (s.accessBlk core .engine 0x45000028 (fun s => s.subgoWrite goa gob))

/-- SUBSTITUTE_SELF_TEST (10 R273): an idle Substitute that fails is retired. -/
def execSubstituteSelfTest (w : Wing) (pass : Bool) (s : State) : Out :=
  .next (if pass || s.fld (substMap w) != 0xF || (s.copyOf w).isSome || s.flag (substRet w) then s
    else ((s.setFld (substRet w) 0 1).recordRepair 6 w.num 0 0).consumeSpare 4)

/-! ### The Bell at the engines -/

/-- A Substitute whose copy has ended runs from this Bell on (10 Table 10-10, step 4). -/
def State.substService (s : State) (w : Wing) : State :=
  match s.copyOf w with
  | some n =>
    let ready := match w with | .a => s.eng.readyA | .b => s.eng.readyB
    if ready then ((s.setFld (substMap w) 0 n).setCopy w none false).engEvent 0x56 n 0 0 0 0 (s.fld .LT_LAST) else s
  | none => s

/-- The runs that the Bell of the next period finds (10 R260, R263): complete ones move, the others overrun; retirements
take effect; a Substitute comes into service. LT_LAST holds the new T_k. -/
def State.enginesEnd (s : State) : State :=
  let s := s.each (List.range 12) (fun s n => if s.running n || (s.engine n).due then s.overrun n else s)
  let done := (List.range 12).foldl (fun a n => setBitTo a n (s.engine n).complete) 0
  let s := ({ s with eng := { s.eng with done := done } } : State).stagingAtBell
  let s := s.each (List.range 12) (fun s n =>
    let asked := (s.engine n).retire
    let s := s.modEngine n (fun e => { e with retire := false, complete := false })
    if asked then s.retireEngine n else s)
  (s.substService .a).substService .b

/-- Runs of the new period are due on every engine that may run (10 R260, R274). -/
def State.enginesDue (s : State) (ns : List Nat) : State :=
  s.each (ns.filter s.mayRun) (fun s n => s.modEngine n (fun e => { e with due := true, tk := s.eng.lastBell.getD s.tb }))

end Sys2Proof.Machine
end

