-- ==== Sys2Proof/Machine/EngineInstr.lean ====
section
/-!
DEFINITION. The instructions of the Lesson engines (10 R250 to R256, R259, R267 to R270). Block instructions compute in
binary64, each operation rounded, in the order of the pseudocode of R254.
-/
namespace Sys2Proof.Machine

/-! ### Registers, flags and data -/

/-- The pattern of register `r` of engine `n`; F0 reads +0.0 (10 R247). -/
def State.rgBits (s : State) (n r : Nat) : Nat := if r = 0 then 0 else (s.engine n).regs.getD r 0

/-- The value of register `r`. -/
def State.rg (s : State) (n r : Nat) : Fp := .of32 (s.rgBits n r)

/-- Register `r` takes a pattern; writes to F0 are discarded (10 R247). -/
def State.setRgBits (s : State) (n r v : Nat) : State :=
  if r = 0 then s else s.modEngine n (fun e => { e with regs := e.regs.set r (v % 2 ^ 32) })

/-- Register `r` takes a value rounded to binary32. -/
def State.setRg (s : State) (n r : Nat) (x : Fp) : State := s.setRgBits n r x.bits32

/-- Registers from `r` on take values. -/
def State.setRgs (s : State) (n r : Nat) (l : List Fp) : State :=
  s.each (List.range l.length) (fun s i => s.setRg n (r + i) (l.getD i .nan))

/-- Flag `i` of engine `n` (10 Table 10-5). -/
def State.engFlag (s : State) (n i : Nat) : Bool := (s.engine n).flags.testBit i

/-- Flag `i` takes a value. -/
def State.setEngFlag (s : State) (n i : Nat) (b : Bool) : State :=
  s.modEngine n (fun e => { e with flags := setBitTo e.flags i b })

/-- The 32-bit data word at ADDR. -/
def State.d32 (s : State) (n a : Nat) : Nat := s.engWord n (0x2000 + a)

/-- The binary32 data word at ADDR. -/
def State.r32 (s : State) (n a : Nat) : Fp := .of32 (s.d32 n a)

/-- The binary64 data word at ADDR. -/
def State.r64 (s : State) (n a : Nat) : Fp := .of64 (s.d32 n a + s.d32 n (a + 1) * 2 ^ 32)

/-- An instruction of `cycles` cycles executes in a run; the next one follows unless the run has ended. -/
def State.instr (s : State) (n cycles : Nat) (f : State → State) : State :=
  if s.engineActs n then
    let s := f s
    s.when (s.running n) (fun s => s.modEngine n (fun e => { e with pc := e.pc + 1, cycles := e.cycles + cycles }))
  else s

/-- The change `f` of an instruction that reads `k` memory words from index `i` on; a poisoned one among them is an engine
fault with cause 2 (10 R266, 15 R373). -/
def State.readWords (s : State) (n i k : Nat) (f : State → State) : State :=
  match (List.range k).find? (fun j => s.engBad n ((i + j) / 2)) with
  | some j => (s.badRead (0x20 + s.siteOf n) (engAddr n (4 * (i + j))) false).engineFault n 2
  | none => f s

/-- As `readWords`, of data words from ADDR on. -/
def State.readData (s : State) (n a k : Nat) (f : State → State) : State := s.readWords n (0x2000 + a) k f

/-- A data word takes a value, its old value logged (10 R263). -/
def State.logStore (s : State) (n a v : Nat) : State :=
  let old := s.d32 n a
  (s.modEngine n (fun e => { e with log := (0x2000 + a, old) :: e.log })).setEngWord n (0x2000 + a) v

/-- A binary64 data word takes a value, logged. -/
def State.store64 (s : State) (n a : Nat) (x : Fp) : State :=
  let v := x.bits64
  (s.logStore n a v).logStore n (a + 1) (v / 2 ^ 32)

/-- The state words of a block take their values and `f` follows; a value that is not finite is not written, and an engine
fault with cause 3 follows instead (10 R256). -/
def State.putStates (s : State) (n : Nat) (l : List (Nat × Fp)) (f : State → State) : State :=
  if l.all (fun e => e.2.finite) then f (s.each l (fun s e => s.store64 n e.1 e.2)) else s.engineFault n 3

/-! ### Loads, stores, samples -/

/-- NOP. -/
def execNop (n : Nat) (s : State) : Out := .next (s.instr n 1 id)

/-- LDK: RD := IMM as binary32. -/
def execLdk (n rd imm : Nat) (s : State) : Out := .next (s.instr n 1 (fun s => s.setRgBits n rd imm))

/-- LD: RD := the binary32 word, or the binary64 word rounded to binary32. -/
def execLd (n rd addr : Nat) (wide : Bool) (s : State) : Out :=
  .next (s.instr n 2 (fun s => s.readData n addr (if wide then 2 else 1) (fun s =>
    if wide then s.setRg n rd (s.r64 n addr) else s.setRgBits n rd (s.d32 n addr))))

/-- ST: stores RA, or RA widened to binary64 (10 R256). A store narrower than the code word reads it first (15 R372). -/
def execSt (n ra addr : Nat) (wide : Bool) (s : State) : Out :=
  .next (s.instr n 2 (fun s =>
    if !(s.rg n ra).finite then s.engineFault n 3
    else if wide && addr % 2 = 0 then
      (s.mark (0x20 + s.siteOf n) ((0x2000 + addr) / 2) false).store64 n addr (s.rg n ra)
    else s.readData n addr (if wide then 2 else 1) (fun s =>
      if wide then s.store64 n addr (s.rg n ra) else s.logStore n addr (s.rgBits n ra))))

/-- The raw value of a word (10 R250): unsigned from a SAR source, two's complement from a modulator, and the placement of
an edge record in taps after T_k. -/
def rawValue (w : SampleWord) (tk : Nat) : Int :=
  if w.source < 0x40 then w.result
  else if w.source < 0x58 then toSigned 18 w.result
  else toSigned 32 (w.ts + 2 ^ 32 - tk % 2 ^ 32) * 128 + (w.result % 128 : Nat)

/-- The value of subscription `i` and its two outcomes: whether its newest word was valid, and whether that word counts in
INVCNT (10 R250). The product and sum are formed in binary64 and rounded once. -/
def State.subValue (s : State) (n i : Nat) : Fp × Bool × Bool :=
  let cfg := s.engWord n (0x3F80 + 4 * i)
  let gain := Fp.of32 (s.engWord n (0x3F80 + 4 * i + 1))
  let ofs := Fp.of32 (s.engWord n (0x3F80 + 4 * i + 2))
  let u := (s.engine n).subs.getD i {}
  if !cfg.testBit 8 then (ofs, false, false) else
  let ok := match u.newest with
    | some w => w.valid
    | none => false
  let v := match u.valid with
    | some w => (gain.mul (.ofInt (rawValue w (s.engine n).tk))).add ofs
    | none => ofs
  (v, ok, u.newest.isSome && !ok)

/-- LDS: RD onward := the converted words of subscriptions RA to RA + MOD (10 R250). -/
def execLds (n rd ra mod : Nat) (s : State) : Out :=
  .next (s.instr n (3 + mod) (fun s => s.readWords n (0x3F80 + 4 * ra) (4 * (mod + 1)) (fun s =>
    let l := (List.range (mod + 1)).map (fun i => s.subValue n (ra + i))
    let s := s.setRgs n rd (l.map (fun v => v.1))
    let s := s.each (l.filter (fun v => v.2.2)) (fun s _ => s.count .LE_STAT_INVCNT n)
    s.setEngFlag n 0 (l.all (fun v => v.2.1)))))

/-- WAIT: until every subscription from RA to RB holds a word of the period, or until the tick T_k + D (10 R259). -/
def execWait (n ra rb d : Nat) (s : State) : Out :=
  .next (if s.engineActs n then
    let e := s.engine n
    let s := s.modEngine n (fun e => { e with wait := some (ra, rb, e.tk + d, s.tb) })
    if e.periodWords ra rb then s.endWait n false
    else if e.tk + d ≤ s.tb then s.endWait n true
    else s
  else s)

/-- WAIT_DEADLINE (10 R259): the deadline ends the wait and TMO is set. -/
def execWaitDeadline (n : Nat) (s : State) : Out :=
  .next (if n < 12 && s.running n && s.wingClock (engineWing n) then s.endWait n true else s)

/-- INJ: writes SAR_INJk (05 R125). -/
def execInj (n slot input ext : Nat) (s : State) : Out :=
  .next (s.instr n 2 (fun s => if slot < 16 then s.inject slot (input % 4) ext else s))

/-! ### PWM stores (10 R255) -/

/-- A value rounded to the nearest integer, ties to even, and clamped. -/
def Fp.count (x : Fp) (lo hi : Int) : Nat := (clampInt lo hi x.toIntEven).toNat

/-- A shadow word is staged where every value is finite; otherwise an engine fault with cause 3 (10 R256). -/
def State.stageAll (s : State) (n m w : Nat) (l : List Fp) (v : Nat) : State :=
  if l.all Fp.finite then s.stage n m w v else s.engineFault n 3

/-- A compare value from counts. -/
def compareOf (x : Fp) : Nat := x.count 0 0x7FFFFFF

/-- 128 as a value. -/
def fp128 : Fp := .fin false 128 0

/-- STPC: CMPA and CMPB from counts. -/
def execStpc (n m ra rb : Nat) (s : State) : Out :=
  .next (s.instr n 3 (fun s =>
    let a := fp128.mul (s.rg n ra)
    let b := fp128.mul (s.rg n rb)
    s.stageAll n m 0 [a, b] (compareOf a + compareOf b * 2 ^ 32)))

/-- PER of module `m` as it will stand at the next staged move: what STPP staged in this run, or the shadow PER. -/
def State.stagedPer (s : State) (n m : Nat) : Nat :=
  match (s.pm m).staged.find? (fun e => e.engine == n && e.word == 1 && !e.complete) with
  | some e => e.value % 2 ^ 20
  | none => s.shd m 1 % 2 ^ 20

/-- STPD: CMPA and CMPB from duties. -/
def execStpd (n m ra rb : Nat) (s : State) : Out :=
  .next (s.instr n 4 (fun s =>
    let per := Fp.ofInt (s.stagedPer n m)
    let a := (fp128.mul (s.rg n ra)).mul per
    let b := (fp128.mul (s.rg n rb)).mul per
    s.stageAll n m 0 [a, b] (compareOf a + compareOf b * 2 ^ 32)))

/-- STPP: PER, TCMP0 and TCMP1 from counts. -/
def execStpp (n m ra rb rc : Nat) (s : State) : Out :=
  .next (s.instr n 3 (fun s =>
    let p := s.rg n ra
    let t0 := s.rg n rb
    let t1 := s.rg n rc
    s.stageAll n m 1 [p, t0, t1] (p.count 16 1048575 + t0.count 0 1048575 * 2 ^ 20 + t1.count 0 1048575 * 2 ^ 40)))

/-- Taps in 1 ns, 81.92 in binary64. -/
def tapsPerNs : Fp := roundTo b64 false 8192 100 0

/-- STPE: TONH and TONL from ns. -/
def execStpe (n m ra rb : Nat) (s : State) : Out :=
  .next (s.instr n 3 (fun s =>
    let h := tapsPerNs.mul (s.rg n ra)
    let l := tapsPerNs.mul (s.rg n rb)
    s.stageAll n m 2 [h, l] (h.count 0 163840 + l.count 0 163840 * 2 ^ 32)))

/-! ### Arithmetic, rounded once -/

/-- ADD. -/
def execAdd (n rd ra rb : Nat) (s : State) : Out :=
  .next (s.instr n 1 (fun s => s.setRg n rd ((s.rg n ra).addExact (s.rg n rb))))

/-- SUB. -/
def execSub (n rd ra rb : Nat) (s : State) : Out :=
  .next (s.instr n 1 (fun s => s.setRg n rd ((s.rg n ra).addExact (s.rg n rb).neg)))

/-- MUL. -/
def execMul (n rd ra rb : Nat) (s : State) : Out :=
  .next (s.instr n 1 (fun s => s.setRg n rd ((s.rg n ra).mulExact (s.rg n rb))))

/-- MAC: RA × RB + RC, one rounding. -/
def execMac (n rd ra rb rc : Nat) (s : State) : Out :=
  .next (s.instr n 1 (fun s => s.setRg n rd (((s.rg n ra).mulExact (s.rg n rb)).addExact (s.rg n rc))))

/-- DIV. -/
def execDiv (n rd ra rb : Nat) (s : State) : Out :=
  .next (s.instr n 8 (fun s => s.setRg n rd (Fp.div b32 (s.rg n ra) (s.rg n rb))))

/-- SQRT. -/
def execSqrt (n rd ra : Nat) (s : State) : Out :=
  .next (s.instr n 8 (fun s => s.setRg n rd (Fp.sqrt b32 (s.rg n ra))))

/-- ABS. -/
def execAbs (n rd ra : Nat) (s : State) : Out := .next (s.instr n 1 (fun s => s.setRg n rd (s.rg n ra).abs))

/-- SINCOS. -/
def execSincos (n rd ra : Nat) (s : State) : Out :=
  .next (s.instr n 6 (fun s => s.setRgs n rd [(s.rg n ra).sin, (s.rg n ra).cos]))

/-! ### Transforms and limits -/

/-- CLARKE. -/
def execClarke (n rd ra rb rc : Nat) (s : State) : Out :=
  .next (s.instr n 3 (fun s =>
    let v := clarkeOf (s.rg n ra) (s.rg n rb) (s.rg n rc)
    s.setRgs n rd [v.1, v.2]))

/-- PARK. -/
def execPark (n rd ra rb rc : Nat) (s : State) : Out :=
  .next (s.instr n 3 (fun s =>
    let v := parkOf (s.rg n ra) (s.rg n rb) (s.rg n rc) (s.rg n (rc + 1))
    s.setRgs n rd [v.1, v.2]))

/-- IPARK. -/
def execIpark (n rd ra rb rc : Nat) (s : State) : Out :=
  .next (s.instr n 3 (fun s =>
    let v := iparkOf (s.rg n ra) (s.rg n rb) (s.rg n rc) (s.rg n (rc + 1))
    s.setRgs n rd [v.1, v.2]))

/-- LIM: one of the operands unchanged; SAT when it limited (10 R247, Table 10-5). -/
def execLim (n rd ra rb rc : Nat) (s : State) : Out :=
  .next (s.instr n 1 (fun s =>
    let x := s.rg n ra
    let y := x.clamp (s.rg n rb) (s.rg n rc)
    let m := x.max (s.rg n rb)
    let src := if y = m then (if m = x then ra else rb) else rc
    (s.setRgBits n rd (s.rgBits n src)).setEngFlag n 1 (!y.eqv x)))

/-- CLIM: the vector (RA, RB) limited to the circle of radius RC: 0 scales both, 1 RA first, 2 RB first. -/
def execClim (n rd ra rb rc mod : Nat) (s : State) : Out :=
  .next (s.instr n 10 (fun s =>
    let v := circleOf mod (s.rg n ra) (s.rg n rb) (s.rg n rc)
    (s.setRgs n rd [v.1, v.2]).setEngFlag n 1 (!(v.1.eqv (s.rg n ra) && v.2.eqv (s.rg n rb)))))

/-- CMPF: flag := a condition of RA and RB. -/
def execCmpf (n flag ra rb cond : Nat) (s : State) : Out :=
  .next (s.instr n 1 (fun s =>
    let a := s.rg n ra
    let b := s.rg n rb
    s.setEngFlag n flag (match cond with
      | 0 => b.lt a
      | 1 => b.le a
      | 2 => a.lt b
      | 3 => a.le b
      | 4 => a.eqv b
      | 5 => !a.eqv b
      | 6 => b.lt a.abs
      | _ => a.abs.le b)))

/-! ### Blocks (10 R254) -/

/-- PI. -/
def execPi (n rd ra rb addr : Nat) (s : State) : Out :=
  .next (s.instr n 6 (fun s => s.readData n addr 7 (fun s =>
    let v := piOf (s.r32 n addr) (s.r32 n (addr + 1)) (s.r32 n (addr + 2)) (s.r32 n (addr + 3)) (s.r32 n (addr + 6))
      (s.r64 n (addr + 4)) (s.rg n ra) (s.rg n rb)
    s.putStates n [(addr + 4, v.2.1)] (fun s => (s.setRg n rd v.1).setEngFlag n 1 v.2.2))))

/-- PR. -/
def execPr (n rd ra rb addr : Nat) (s : State) : Out :=
  .next (s.instr n 8 (fun s => s.readData n addr 10 (fun s =>
    let v := prOf (s.r32 n addr) (s.r32 n (addr + 1)) (s.r32 n (addr + 2)) (s.r32 n (addr + 3)) (s.r32 n (addr + 4))
      (s.r32 n (addr + 5)) (s.r64 n (addr + 6)) (s.r64 n (addr + 8)) (s.rg n ra) (s.rg n rb)
    s.putStates n [(addr + 6, v.2.1), (addr + 8, v.2.2)] (fun s => s.setRg n rd v.1))))

/-- BIQ. -/
def execBiq (n rd ra addr : Nat) (s : State) : Out :=
  .next (s.instr n 7 (fun s => s.readData n addr 10 (fun s =>
    let v := biqOf (s.r32 n addr) (s.r32 n (addr + 1)) (s.r32 n (addr + 2)) (s.r32 n (addr + 3)) (s.r32 n (addr + 4))
      (s.r64 n (addr + 6)) (s.r64 n (addr + 8)) (s.rg n ra)
    s.putStates n [(addr + 6, v.2.1), (addr + 8, v.2.2)] (fun s => s.setRg n rd v.1))))

/-- SOGI. -/
def execSogi (n rd ra rb addr : Nat) (s : State) : Out :=
  .next (s.instr n 10 (fun s => s.readData n addr 6 (fun s =>
    let v := s.rg n ra
    let w := s.rg n rb
    let k := s.r32 n addr
    let ts := s.r32 n (addr + 1)
    let x1 := s.r64 n (addr + 2)
    let x2 := s.r64 n (addr + 4)
    let x1 := x1.add ((ts.mul w).mul ((k.mul (v.sub x1)).sub x2))
    let x2 := x2.add ((ts.mul w).mul x1)
    s.putStates n [(addr + 2, x1), (addr + 4, x2)] (fun s => s.setRgs n rd [x1, x2]))))

/-- DDSRF. -/
def execDdsrf (n rd ra rb rc addr : Nat) (s : State) : Out :=
  .next (s.instr n 24 (fun s => s.readData n addr 10 (fun s =>
    let v := ddsrfOf (s.r32 n addr) (s.rg n ra) (s.rg n rb) (s.rg n rc) (s.rg n (rc + 1))
      (s.r64 n (addr + 2)) (s.r64 n (addr + 4)) (s.r64 n (addr + 6)) (s.r64 n (addr + 8))
    s.putStates n ((List.range 4).map (fun i => (addr + 2 + 2 * i, v.2.getD i .nan))) (fun s => s.setRgs n rd v.1))))

/-- PLL. -/
def execPll (n rd ra addr : Nat) (s : State) : Out :=
  .next (s.instr n 14 (fun s => s.readData n addr 10 (fun s =>
    let v := pllOf (s.r32 n addr) (s.r32 n (addr + 1)) (s.r32 n (addr + 2)) (s.r32 n (addr + 3)) (s.r32 n (addr + 4))
      (s.r32 n (addr + 5)) (s.r64 n (addr + 6)) (s.r64 n (addr + 8)) (s.rg n ra)
    s.putStates n [(addr + 6, v.2.2.1), (addr + 8, v.1)] (fun s =>
      (s.setRgs n rd [v.1, v.2.1, v.1.sin, v.1.cos]).setEngFlag n 1 v.2.2.2))))

/-- RLIM. -/
def execRlim (n rd ra addr : Nat) (s : State) : Out :=
  .next (s.instr n 3 (fun s => s.readData n addr 4 (fun s =>
    let d := (s.rg n ra).sub (s.r64 n (addr + 2))
    let m := d.clamp (s.r32 n (addr + 1)).neg (s.r32 n addr)
    let y := (s.r64 n (addr + 2)).add m
    s.putStates n [(addr + 2, y)] (fun s => (s.setRg n rd y).setEngFlag n 1 (!m.eqv d)))))

/-- LUT; a block field out of range is an engine fault with cause 6. -/
def execLut (n rd ra addr : Nat) (s : State) : Out :=
  .next (s.instr n 6 (fun s => s.readData n addr 4 (fun s =>
    let len := s.d32 n (addr + 2)
    if len < 2 ∨ 256 < len ∨ 0x1F80 < addr + 4 + len then s.engineFault n 6
    else
      let u := (((s.rg n ra).sub (s.r32 n addr)).mul (s.r32 n (addr + 1))).clamp .zero (.ofInt (len - 1 : Nat))
      let j := min u.floor.toNat (len - 2)
      s.readData n (addr + 4 + j) 2 (fun s =>
        let y0 := s.r32 n (addr + 4 + j)
        let y1 := s.r32 n (addr + 4 + j + 1)
        s.setRg n rd (y0.add ((u.sub (.ofInt j)).mul (y1.sub y0)))))))

/-- PROF. -/
def execProf (n rd ra addr : Nat) (s : State) : Out :=
  .next (s.instr n 16 (fun s => s.readData n addr 10 (fun s =>
    let x := s.rg n ra
    let vmax := s.r32 n addr
    let amax := s.r32 n (addr + 1)
    let jmax := s.r32 n (addr + 2)
    let ts := s.r32 n (addr + 3)
    let pos := s.r64 n (addr + 4)
    let vel := s.r64 n (addr + 6)
    let acc := s.r64 n (addr + 8)
    let d := x.sub pos
    let sign : Fp := if Fp.zero.lt d then .fin false 1 0 else if d.lt .zero then .fin true 1 0 else d
    let vd := sign.mul (vmax.min (Fp.sqrt b64 ((fpTwo.mul amax).mul d.abs)))
    let ad := (Fp.div b64 (vd.sub vel) ts).clamp amax.neg amax
    let acc := acc.add ((ad.sub acc).clamp (jmax.neg.mul ts) (jmax.mul ts))
    let vel := (vel.add (acc.mul ts)).clamp vmax.neg vmax
    let pos := pos.add (vel.mul ts)
    let there := (x.sub pos).abs.le ((amax.mul ts).mul ts) && vel.abs.le (amax.mul ts)
    let pos := if there then x else pos
    let vel := if there then Fp.zero else vel
    let acc := if there then Fp.zero else acc
    s.putStates n [(addr + 4, pos), (addr + 6, vel), (addr + 8, acc)] (fun s => s.setRgs n rd [pos, vel]))))

/-- RAMP (10 R268). -/
def execRamp (n rd ra rb addr : Nat) (s : State) : Out :=
  .next (s.instr n 4 (fun s => s.readData n addr 6 (fun s =>
    let x := s.rg n ra
    let lim := (s.r32 n addr).mul (s.r32 n (addr + 1))
    let restart := s.d32 n (addr + 4) = 0 || s.engFlag n 3
    let y := if restart then s.rg n rb else s.r64 n (addr + 2)
    let y := y.add ((x.sub y).clamp ((s.r32 n addr).neg.mul (s.r32 n (addr + 1))) lim)
    s.putStates n [(addr + 2, y)] (fun s =>
      let s := s.when restart (fun s => s.logStore n (addr + 4) 1)
      (s.setRg n rd y).setEngFlag n 1 (!y.eqv x)))))

/-- FERR (10 R269): the count of consecutive periods of following error, and its event at END when it reaches NPER. -/
def execFerr (n ra rb addr : Nat) (s : State) : Out :=
  .next (s.instr n 4 (fun s => s.readData n addr 4 (fun s =>
    let beyond := (s.r32 n addr).lt ((s.rg n ra).sub (s.rg n rb)).abs
    let nper := s.d32 n (addr + 1)
    let cnt := s.d32 n (addr + 2)
    let cnt' := if beyond then (if cnt < nper then cnt + 1 else cnt) else 0
    let s := s.logStore n (addr + 2) cnt'
    let s := s.when (beyond && cnt < nper && cnt' = nper) (fun s =>
      s.modEngine n (fun e => { e with events := e.events ++ [(0x53, e.pc, addr, 0)] }))
    s.setEngFlag n 5 (0 < cnt'))))

/-- PRESET (10 R270): the integrator of a PI block for a bumpless transfer. -/
def execPreset (n ra rb rc addr : Nat) (s : State) : Out :=
  .next (s.instr n 4 (fun s => s.readData n addr 6 (fun s =>
    let i := (((s.rg n ra).clamp (s.r32 n (addr + 2)) (s.r32 n (addr + 3))).sub ((s.r32 n addr).mul (s.rg n rb))).sub (s.rg n rc)
    s.putStates n [(addr + 4, i)] id)))

/-! ### Control -/

/-- SKIP: skips the next instructions if the flag equals MOD[0]; they take no cycles. -/
def execSkip (n flag : Nat) (eq : Bool) (count : Nat) (s : State) : Out :=
  .next (s.instr n 1 (fun s => s.when (s.engFlag n flag == eq) (fun s =>
    s.modEngine n (fun e => { e with pc := e.pc + count % 256 }))))

/-- EVRY: flag := (LT_COUNT mod N = phase). -/
def execEvry (n flag every phase : Nat) (s : State) : Out :=
  .next (s.instr n 2 (fun s => s.setEngFlag n flag (s.fld .LT_COUNT % every == phase)))

/-- EVT: an event at END, and a fault there with MOD[0] = 1 (10 R266, R267). -/
def execEvt (n ra code : Nat) (fault : Bool) (s : State) : Out :=
  .next (s.instr n 2 (fun s =>
    let v := s.rgBits n ra
    s.modEngine n (fun e => { e with
      events := e.events ++ [(0x54, e.pc, code % 2 ^ 16, v)],
      evtFault := if fault && e.evtFault.isNone then some e.pc else e.evtFault })))

end Sys2Proof.Machine
end

