-- ==== Sys2Proof/Machine/Standby.lean ====
section
/-!
DEFINITION. The sets of groups 0x09 to 0x0B in a COLD standby (20 R490): STANDBY_BEHIND until its next self-test window,
and the restart without Recess that a takeover in that interval causes.
-/
namespace Sys2Proof.Machine

/-- The standby holds the sets in force of groups 0x09 to 0x0B. -/
def State.standbyTakesSets (s : State) : State :=
  s.each [9, 10, 11] (fun s g => s.modGroup g (fun p => { p with standbyBehind := false, standbyVars := [] }))

/-- A set of groups 0x09 to 0x0B has applied while the standby is COLD: it keeps the values before, `old`. -/
def State.standbyLeft (s : State) (g : Nat) (old : SMap) : State :=
  s.modGroup g (fun p => { p with
    standbyBehind := true
    standbyVars := old.foldl (fun m e => if (m.find e.1).isSome then m else m.insert e.1 e.2) p.standbyVars })

/-- A COLD standby takes over while a group is behind: the group runs on the standby's previous set, and the recorded set
applies through a restart without Recess (20 R490). -/
def State.standbySwap (s : State) : State :=
  s.each [9, 10, 11] (fun s g =>
    let p := s.group g
    if !p.standbyBehind then s else
    let recorded : SMap := p.standbyVars.map (fun e => (e.1, s.var e.1.1 e.1.2))
    let s := s.each p.standbyVars (fun s e => s.setVar e.1.1 e.1.2 e.2)
    let s := s.modGroup g (fun p => { p with standbyBehind := false, standbyVars := [] })
    if p.st == .running then
      (s.modGroup g (fun p => { p with st := .applying, pendVars := recorded })).requestApply 4 g 0
    else s)

end Sys2Proof.Machine
end

