-- ==== Sys2Proof/Machine/Duplex.lean ====
section
/-!
DEFINITION. The Hall Pass arbiter, the Wing states, snapshots, takeovers and planned handovers (14).
-/
namespace Sys2Proof.Machine

/-! ### The nominal lesson period -/

/-- Counts to a module's period in Edge ticks, from its shadow PER (10 R262). -/
def State.shadowPeriod (s : State) (m : Nat) : Nat := periodTicks (s.fld .PWM_CTRL_CMODE m) (s.shd m 1 % 2 ^ 20)

/-- The nominal lesson period P in Edge ticks (10 R262), of the lesson timer's set in force. -/
def State.nominalPeriod (s : State) : Nat :=
  if s.fld .LT_CFG_SRC = 2 then (s.fld .LT_CFG_DIV + 1) * s.shadowPeriod (6 * s.fld .LT_CFG_HEAD) else s.fld .LT_PER_PER

/-! ### Leases -/

/-- The full lease in RC cycles (14 R341). -/
def State.leaseCycles (s : State) : Nat := 16 * s.fld .HP_LEASE_LEASE

/-- A Wing's lease count in the voters takes `v`, and HP_LREM shows it (14 R341). -/
def State.setLease (s : State) (w : Wing) (v : Nat) : State :=
  let s := { s with dup := { s.dup with voters := s.dup.voters.map (fun (p : Voter) =>
    match w with | .a => { p with leaseA := v } | .b => { p with leaseB := v }) } }
  s.setFld (match w with | .a => .HP_LREM_LREMA | .b => .HP_LREM_LREMB) 0 ((v + 15) / 16)

/-- The lease count of a Wing as a voter holds it. -/
def Voter.lease (p : Voter) : Wing → Nat
  | .a => p.leaseA
  | .b => p.leaseB

/-- The voted count of a Wing's lease: what two of the voters in service agree on (14 R341). -/
def State.votedLease (s : State) (w : Wing) : Nat :=
  match (s.dup.voters.filter (fun v => !v.retired)).map (fun v => v.lease w) with
  | [a, b, c] => if a = b ∨ a = c then a else if b = c then b else 0
  | [a, b] => if a = b then a else 0
  | a :: _ => a
  | [] => 0

/-- A Wing records or gives up its pass. -/
def State.setPass (s : State) (w : Wing) (on : Bool) : State := s.setBit .HP_STAT_HOLDER 0 w.num on

/-- A pass is granted with a full lease (14 R341). -/
def State.grant (s : State) (w : Wing) : State := (s.setPass w true).setLease w s.leaseCycles

/-- A cycle of the RC begins after the given number of idle steps. -/
def State.setRc (s : State) (n : Nat) : State := { s with ct := { s.ct with rcPhase := n } }

/-- An ACQUIRE of Wing B has been granted in the running RC cycle, or a new cycle begins (14 R345). -/
def State.setAcquired (s : State) (b : Bool) : State := { s with dup := { s.dup with acquired := b } }

/-- Idle steps count the leases down, whatever the PLLs do (04 R103): one cycle of the Caretaker's 16 MHz RC in 40 of them
(assumption log, entry 24). -/
def State.leaseTick (s : State) : State :=
  if !s.ct.running then s
  else if s.ct.rcPhase < 39 then s.setRc (s.ct.rcPhase + 1)
  else
    ((s.setRc 0).setAcquired false).each [Wing.a, Wing.b] (fun s w =>
      if s.pass w then s.setLease w (s.votedLease w - 1) else s)

/-- LEASE_RENEW (14 R342, Table 14-7): the holder's renewal loads the count again; any other is discarded and counted. -/
def State.renew (s : State) (w : Wing) : State :=
  if s.pass w && 0 < s.votedLease w then s.setLease w s.leaseCycles else s.count .HP_CNT_RENDISC

/-- The address of a register of the duplex block. -/
def hpAddr (ofs : Nat) : Nat := 0x47000000 + ofs

/-- LEASE_RENEW (14 R342). -/
def execLeaseRenew (core : Nat) (s : State) : Out :=
  .next (s.accessBlk core .duplex (hpAddr 8) (fun s => s.renew (coreWing core)))

/-- The modules a Wing's pass covers (14 R340). -/
def State.covered (s : State) (w : Wing) : List Nat :=
  (List.range 24).filter (fun m => !s.split || s.flag .PWM_CTRL_OWNER m == (w == .b))

/-- A core enters the takeover entry as a machine interrupt (21 R511): mepc holds the interrupted pc, which follows from what
the core's program did and is free (assumption log, entry 105), MIE and the mode it interrupted move on in mstatus, and the
integer and float registers stay. -/
def State.enterTakeover (s : State) (c : Nat) : State :=
  let (pc, s) := s.fresh 31
  let st := s.tut.csrs.get (c, 0x300) 0
  let keep := bits st 0 3 + bits st 4 3 * 2 ^ 4 + bits st 8 3 * 2 ^ 8 + st / 2 ^ 13 * 2 ^ 13
  let st := keep + bits st 3 1 * 2 ^ 7 + (if s.tut.user.testBit c then 0 else 3) * 2 ^ 11
  { s with tut := { s.tut with
    takeover := setBitTo s.tut.takeover c false
    wfi := setBitTo s.tut.wfi c false
    user := setBitTo s.tut.user c false
    csrs := (s.tut.csrs.set (c, 0x341) 0 (2 * pc)).set (c, 0x300) 0 st
    mcause := s.tut.mcause.set c 0x80000018
    entered := s.tut.entered.set c (0x10000000 + 4 * s.fld .TUT_TKOV_ADDR c) } }

/-- Both cores of a Wing enter the takeover entry; one in debug mode does so when it resumes (21 R511, Table 21-6). -/
def State.takeoverEntry (s : State) (w : Wing) : State :=
  s.each [2 * w.num, 2 * w.num + 1] (fun s c =>
    if s.tut.halted.testBit c then { s with tut := { s.tut with takeover := setBitTo s.tut.takeover c true } }
    else s.enterTakeover c)

/-- A Wing is eligible (14 R346). -/
def State.eligible (s : State) (w : Wing) : Bool := s.wing w == .cold || s.wing w == .warm || s.wing w == .ready

/-- The PLL of a Wing that was to start has locked: a COLD Wing goes to WARM (14 R345), and a Wing in TAKING enters its
takeover entry (14 R352). -/
def State.wingLocked (s : State) (w : Wing) : State :=
  if !s.dup.waking.testBit w.num then s else
  let s := { s with dup := { s.dup with waking := setBitTo s.dup.waking w.num false } }
  if s.wing w == .cold then (s.setWing w .warm).standbyTakesSets
  else s.when (s.wing w == .taking) (fun s => s.takeoverEntry w)

/-- The lease of a Wing ends (14 R344, R346, R352, R357): the pass is revoked, its modules lose OUTEN, the Wing leaves
ACTIVE and its engines abandon their runs. In Duplex the fault epoch increments and an eligible Wing enters TAKING; after
Bell H of a handover that is the Wing which was to take over. -/
def State.passLost (s : State) (w : Wing) (released : Bool) : State :=
  if !s.pass w then s else
  let s := ((s.setPass w false).setLease w 0).each (s.covered w) (fun s m => s.clearOuten m)
  let copying := s.dup.handover == .copying
  let s := { s with dup := { s.dup with
    handover := .none, chosen := none, restored := false, released := released, expiryTs := s.tb,
    rearm := (s.covered w).foldl (fun a m => setBitTo a m false) s.dup.rearm } }
  let s := s.setFld .HP_STAT_TRANSFER 0 0
  let s := s.abandonWing w
  let s := s.when (s.wing w == .active || s.wing w == .taking) (fun s => (s.setWing w .boot).raise w 6)
  if s.split then s.dupEvent 0x83 w 0 0 0 0 s.ts
  else
    let o := w.other
    let s := s.when (copying && s.wing o == .active) (fun s => (s.abandonWing o).setWing o .ready)
    if s.eligible o && s.ct.running then
      let s := s.advanceEpoch 1 o.num
      let s := s.when (s.wing o == .cold) State.standbySwap
      let s := (s.grant o).setWing o .taking
      let s := s.when (s.wingClock o) (fun s => s.takeoverEntry o)
      { s.count .HP_CNT_TKO with dup := { (s.setWindow o none).dup with
        waking := setBitTo s.dup.waking o.num (!s.wingClock o), tkoOpen := true } }
    else
      let s := s.advanceEpoch 1 0xFFFFFFFF
      s.dupEvent 0x80 w (1 + 4 * released.toNat) 1 0xFFFF 0 s.ts

/-- LEASE_EXPIRY (14 R344). -/
def execLeaseExpiry (w : Wing) (s : State) : Out := .next (s.passLost w false)

/-- A voter is retired (14 R341): recorded, ARBDEG, event 0x8A, and the die-level arbiter reserve is gone. -/
def State.retireVoter (s : State) (voter : Nat) (w : Wing) : State :=
  let s := { s with dup := { s.dup with voters := modAt s.dup.voters voter {} (fun (v : Voter) => { v with retired := true }) } }
  ((s.setFld .HP_STAT_ARBDEG 0 1).dupEvent 0x8A w 0 0 0 0 s.ts |>.recordRepair 8 voter 0 0).consumeSpare 6

/-- VOTER_DISAGREEMENT (14 R341): the third within 1 s retires the voter; between two remaining voters a disagreement
counts as an expiry. -/
def execVoterDisagreement (voter : Nat) (w : Wing) (s : State) : Out :=
  .next (
    let v := s.dup.voters.getD voter {}
    if 3 ≤ voter || v.retired then s
    else if s.dup.voters.any (fun p => p.retired) then s.passLost w false
    else
      let times := s.tb :: v.times.filter (fun t => s.tb < t + tickSecond)
      let s := { s with dup := { s.dup with voters := s.dup.voters.set voter { v with times := times } } }
      s.when (decide (3 ≤ times.length)) (fun s => s.retireVoter voter w))

/-! ### Commands of HP_CMD -/

/-- A command without an effect in the Wing's state (14 R345): event 0x8B. -/
def State.cmdDiscarded (s : State) (w : Wing) (cmd : Nat) : State := s.dupEvent 0x8B w 0 cmd 0 0 s.ts

/-- A write of a command to HP_CMD by a core: Secure world only (14 R364). -/
def State.hpCmd (s : State) (core : Nat) (f : State → Wing → State) : State :=
  s.accessBlk core .duplex (hpAddr 0xC) (fun s => f s (coreWing core))

/-- A Wing's PLL stops (14 R345, R348). -/
def State.stopPll (s : State) : Wing → State
  | .a => s.setFld .CLK_STAT_A_LK 0 0
  | .b => s.setFld .CLK_STAT_B_LK 0 0

/-- Consecutive failed self-tests of a Wing. -/
def State.bistFails (s : State) : Wing → Nat
  | .a => s.dup.bistFailA
  | .b => s.dup.bistFailB

/-- They take a value. -/
def State.setBistFails (s : State) (w : Wing) (n : Nat) : State :=
  match w with
  | .a => { s with dup := { s.dup with bistFailA := n } }
  | .b => { s with dup := { s.dup with bistFailB := n } }

/-- The outcome of a Wing's self-test (14 R348): HP_BIST, events 0x86 and 0x87, and FAILED after the second failure. -/
def State.bistResult (s : State) (w : Wing) (pass : Bool) : State :=
  let s := s.setFlag (match w with | .a => .HP_BIST_A_OK | .b => .HP_BIST_B_OK) 0 pass
  if pass then s.setBistFails w 0
  else
    let s := s.count (match w with | .a => .HP_BIST_A_FAILS | .b => .HP_BIST_B_FAILS)
    let n := s.bistFails w + 1
    let s := (s.setBistFails w n).dupEvent 0x86 w 0 0 0 0 s.ts
    if 2 ≤ n then ((s.setWing w .failed).dupEvent 0x87 w 0 0 0 0 s.ts).standbyReserve false else s

/-- A memory island of the Wing has stalled: its self-test fails (15 Table 15-6). -/
def State.deadWing (s : State) (w : Wing) : Bool := s.integ.deadMem.testBit (2 * w.num) || s.integ.deadMem.testBit (2 * w.num + 1)

/-- STANDBY (14 R345, R348). -/
def State.standbyCmd (s : State) (w : Wing) (pass : Bool) : State :=
  if s.wing w == .boot && !s.split then
    let pass := pass && !s.deadWing w
    let s := s.bistResult w pass
    if pass then ((s.setWing w .cold).stopPll w).standbyReserve true else s
  else s.cmdDiscarded w 1

/-- STANDBY (14 R345, R348), by a core. -/
def execStandby (core : Nat) (pass : Bool) (s : State) : Out := .next (s.hpCmd core (fun s w => s.standbyCmd w pass))

/-- The PLL of a Wing in COLD starts, or is found running (14 R345): WARM once locked. -/
def State.wakeWing (s : State) (w : Wing) : State :=
  if s.wingClock w then (s.setWing w .warm).standbyTakesSets
  else { s with dup := { s.dup with waking := setBitTo s.dup.waking w.num true } }

/-- WAKE (14 R345). -/
def State.wakeCmd (s : State) (w : Wing) : State :=
  if s.wing w == .cold && s.inWindow w then s.wakeWing w
  else if s.pass w && s.wing w.other == .cold then s.wakeWing w.other
  else s.cmdDiscarded w 2

/-- WAKE (14 R345), by a core. -/
def execWake (core : Nat) (s : State) : Out := .next (s.hpCmd core (fun s w => s.wakeCmd w))

/-- D_H in ns (14 R355): 3 µs and 4 ns per 8 bytes of the engine and Tutor sections of a Wing. -/
def State.copyTime (s : State) (w : Wing) : Nat :=
  3000 + 4 * (s.fld .HP_TUTOR_LEN + ((List.range 12).filter (fun n => engineWing n == w)).foldl (fun a n => a + s.fld .LE_SNAP_LEN n) 0)

/-- The reason of Table 14-6 against a handover to the standby `sb` (14 R356); 0 where every check holds. -/
def State.handoverCheck (s : State) (sb : Wing) (needReady inTransfer : Bool) : Nat :=
  if s.split then 6
  else if needReady && s.wing sb != .ready then 1
  else if !(s.groupRunning 13 && s.groupRunning 7 && s.groupRunning 8) then 2
  else if (List.range 6).any (fun j => s.fld .LE_SNAP_BASE j != s.fld .LE_SNAP_BASE (j + 6)
      || s.fld .LE_SNAP_LEN j != s.fld .LE_SNAP_LEN (j + 6)) then 3
  else if ((List.range 12).filter (fun n => engineWing n == sb)).any (fun n =>
      25 * s.nominalPeriod < 20 * s.fld .LE_WCET_BOUND n + 16 * s.copyTime sb + 32) then 4
  else if s.flag .HP_STAT_LINKFLT then 5
  else if !inTransfer && s.flag .HP_STAT_TRANSFER then 7
  else 0

/-- A handover or READY command is refused (14 R356). -/
def State.refuse (s : State) (w : Wing) (reason : Nat) : State :=
  (s.setFld .HP_STAT_REFUSE 0 reason).dupEvent 0x82 w 0 reason 0 0 s.ts

/-- READY (14 R356). -/
def State.readyCmd (s : State) (w : Wing) : State :=
  if s.wing w == .warm then
    let r := s.handoverCheck w false false
    if r = 0 then s.setWing w .ready else s.refuse w r
  else s.cmdDiscarded w 4

/-- READY (14 R356), by a core. -/
def execReady (core : Nat) (s : State) : Out := .next (s.hpCmd core (fun s w => s.readyCmd w))

/-- HANDOVER (14 R355, R356), by the holder. -/
def State.handoverCmd (s : State) (w : Wing) : State :=
  if s.pass w then
    let r := s.handoverCheck w.other true false
    if r = 0 then
      let s := (s.setLease w s.leaseCycles).setFld .HP_STAT_TRANSFER 0 1
      { s with dup := { s.dup with handover := .pending 2 } }
    else s.refuse w r
  else s.cmdDiscarded w 5

/-- HANDOVER (14 R355, R356), by a core. -/
def execHandover (core : Nat) (s : State) : Out := .next (s.hpCmd core (fun s w => s.handoverCmd w))

/-- A planned handover is given up before its Bell. -/
def State.cancelHandover (s : State) : State :=
  ({ s with dup := { s.dup with handover := .none } } : State).setFld .HP_STAT_TRANSFER 0 0

/-- A handover waits for its Bell. -/
def State.handoverWaits (s : State) : Bool :=
  match s.dup.handover with
  | .pending _ => true
  | _ => false

/-- A handover that waits for its Bell is cancelled as a command is refused, once a condition of R356 fails (14 R356). -/
def State.checkHandover (s : State) : State :=
  match s.holder with
  | some w =>
    let r := s.handoverCheck w.other true true
    s.when (s.handoverWaits && r != 0) (fun s => (s.refuse w r).cancelHandover)
  | none => s

/-- COLD (14 R345): a handover that waits ends, since the standby is no longer READY (14 R356). -/
def State.coldCmd (s : State) (w : Wing) : State :=
  if s.wing w == .warm || s.wing w == .ready then ((s.setWing w .cold).stopPll w).checkHandover else s.cmdDiscarded w 3

/-- COLD (14 R345), by a core. -/
def execCold (core : Nat) (s : State) : Out := .next (s.hpCmd core (fun s w => s.coldCmd w))

/-- CANCEL (14 R345). -/
def State.cancelCmd (s : State) (w : Wing) : State :=
  let sb := if s.wing w == .ready then w else w.other
  if (s.wing w == .ready || (s.pass w && !s.split)) && (s.handoverWaits || s.wing sb == .ready)
      && s.dup.handover != .copying then
    let s := s.when s.handoverWaits State.cancelHandover
    s.when (s.wing sb == .ready) (fun s => s.setWing sb .warm)
  else s.cmdDiscarded w 6

/-- CANCEL (14 R345), by a core. -/
def execCancel (core : Nat) (s : State) : Out := .next (s.hpCmd core (fun s w => s.cancelCmd w))

/-- RELEASE (14 R345): as an expiry in the same vote. -/
def State.releaseCmd (s : State) (w : Wing) : State := if s.pass w then s.passLost w true else s.cmdDiscarded w 7

/-- RELEASE (14 R345), by a core. -/
def execRelease (core : Nat) (s : State) : Out := .next (s.hpCmd core (fun s w => s.releaseCmd w))

/-- A grant to Wing B is withdrawn, since Wing A's ACQUIRE is decided in the same RC cycle (14 R345): B stays in BOOT. -/
def State.withdrawB (s : State) : State :=
  let s := ((s.setPass .b false).setLease .b 0).each (s.covered .b) (fun s m => s.clearOuten m)
  (s.abandonWing .b).setWing .b .boot

/-- ACQUIRE (14 R340, R345): a Wing in BOOT with no pass held for its modules becomes ACTIVE. In Duplex, of two in one RC cycle
Wing A's is granted. -/
def State.acquireCmd (s : State) (w : Wing) : State :=
  if !s.ct.running then s
  else
    let s := s.when (w == .a && s.wing .a == .boot && !s.split && s.dup.acquired && s.wing .b == .active) State.withdrawB
    if s.wing w == .boot && !(if s.split then s.pass w else s.anyPass) then
      let s := (s.grant w).setWing w .active
      s.setAcquired (w == .b && !s.split)
    else s.cmdDiscarded w 8

/-- ACQUIRE (14 R340, R345), by a core. -/
def execAcquire (core : Nat) (s : State) : Out := .next (s.hpCmd core (fun s w => s.acquireCmd w))

/-- COLD_SELF_TEST_WINDOW (14 R348). -/
def execColdSelfTestWindow (w : Wing) (pass : Bool) (s : State) : Out :=
  .next (if s.wing w == .cold && s.flag .HP_CTRL_BISTEN then
    (s.setWindow w (some s.tb)).standbyTakesSets.bistResult w (pass && !s.deadWing w) else s)

/-- A self-test window ends 2 ms after it opened (14 R348): a Wing still in COLD stops its PLL again. -/
def State.closeWindows (s : State) : State :=
  s.each [Wing.a, Wing.b] (fun s w =>
    s.when ((s.windowAt w).isSome && !s.inWindow w) (fun s =>
      (s.when (s.wing w == .cold && !s.dup.waking.testBit w.num) (fun s => s.stopPll w)).setWindow w none))

/-! ### Snapshots -/

/-- An engine's part of a snapshot (10 R265): its range at the end of the last completed run; before any, as it stands
with the words of a run in progress at their old values. -/
def State.engImage (s : State) (n : Nat) : List Nat :=
  match (s.engine n).image with
  | some l => l
  | none => State.snapRange (s.each (s.engine n).log (fun s e => s.setEngWord n e.1 e.2)) n

/-- The engine sections of a Wing's snapshot (14 Table 14-3). -/
def State.sections (s : State) (w : Wing) : List EngSection :=
  ((List.range 6).filter (fun j => s.fld .LE_SNAP_LEN (j + 6 * w.num) != 0)).map (fun j =>
    { pair := j, base := s.fld .LE_SNAP_BASE (j + 6 * w.num), words := s.engImage (j + 6 * w.num) })

/-- A 64-bit word of a Wing's DTCM. -/
def State.dtcmWord (s : State) (w : Wing) (ofs : Nat) : Nat :=
  (List.range 8).foldr (fun i a => s.tut.dtcm.get (w.num, ofs + i) 0 + 256 * a) 0

/-- A 64-bit word of a Wing's DTCM takes a value. -/
def State.setDtcmWord (s : State) (w : Wing) (ofs v : Nat) : State :=
  { s with tut := { s.tut with dtcm := (List.range 8).foldl (fun m i =>
    m.set (w.num, ofs + i) 0 (v / 256 ^ i % 256)) s.tut.dtcm } }

/-- The Tutor section of a Wing's snapshot: OFS and LEN words of its DTCM (14 R350). -/
def State.tutorSection (s : State) (w : Wing) : Option (Nat × List Nat) :=
  let len := s.fld .HP_TUTOR_LEN
  let ofs := s.fld .HP_TUTOR_OFS
  if len = 0 then none else some (ofs, (List.range len).map (fun i => s.dtcmWord w (8 * (ofs + i))))

/-- A SNAPSHOT Bell at the holder (14 R350): the parts are captured under the next SEQ, or the Bell is skipped while the
previous write runs. The shadow words join at the Bell's staged move. -/
def State.snapshotBell (s : State) (handover : Bool) : State :=
  match s.holder with
  | some w =>
    if s.split || s.wing w != .active || !s.wingClock w then s
    else if s.dup.writing.isSome then
      (s.count .HP_CNT_SNAPSKIP).dupEvent 0x88 w 0 0 0 s.dup.seq s.ts
    else
      let seq := s.dup.seq + 1
      let secs := s.sections w
      let p : Snapshot :=
        { seq := seq, format := 1, ltCount := s.fld .LT_COUNT, bellSeq := s.bell.lastWord.seq, wing := w,
          handover := handover, afterTakeover := s.dup.firstAfter, time := s.eng.lastBell.getD s.tb,
          epoch := s.fld .RING_EPOCH, hash := (s.group (7 + w.num)).hash % 2 ^ 32,
          outen := (List.range 24).foldl (fun a m => setBitTo a m (s.flag .PWM_RUN_OUTEN m)) 0,
          engMask := secs.foldl (fun a g => setBitTo a g.pair true) 0, engines := secs, tutor := s.tutorSection w }
      { s with dup := { s.dup with seq := seq, writing := some p, firstAfter := false } }
  | none => s

/-- The Satchel banks of the snapshot ring slot `i` are in service (14 R349, 15 R384). -/
def State.slotInService (s : State) (i : Nat) : Bool := !s.bit .SAT_BANK_RETIRED 0 ((s.fld .HP_RING_BASE + i) / 4)

/-- HP_AGE: the age of the newest usable slot in µs, saturating (14 R351). -/
def State.refreshAge (s : State) : State :=
  s.setFld .HP_AGE 0 (match s.newestSlot with
    | some p => min ((s.tb - p.time) / 640) 0xFFFFFFFF
    | none => 0xFFFFFFFF)

/-- STALE clears, with event 0x85, once snapshots have advanced again and LINKFLT has been cleared (14 R358). -/
def State.settleStale (s : State) : State :=
  s.when (s.flag .HP_STAT_STALE && !s.flag .HP_STAT_LINKFLT && s.dup.advanced) (fun s =>
    (s.setFld .HP_STAT_STALE 0 0).dupEvent 0x85 (match s.holder with | some w => w.other | none => .a) 0 0 0 s.dup.written s.ts)

/-- SNAPSHOT_WRITE_COMPLETE (14 R349 to R351, R358): the slot SEQ mod 4 holds the snapshot; in a retired bank it is
unusable (Table 15-9). -/
def execSnapshotWriteComplete (s : State) : Out :=
  .next (match s.dup.writing with
    | none => s
    | some _ =>
      let s := s.captureShadows
      let p := s.dup.writing.getD {}
      let i := p.seq % 4
      let p := { p with seqEnd := p.seq, crcOk := true, poisoned := !s.slotInService i }
      let s := { s with dup := { s.dup with slots := s.dup.slots.set i p, writing := none } }
      let s := { s.setFld .HP_SEQL 0 p.seq with dup := { s.dup with written := p.seq, advanced := true } }
      s.refreshAge.settleStale)

/-- LINK_STALE (14 R358): the standby, WARM or READY or COLD in its self-test window, finds the newest SEQ standing still. -/
def State.linkFault (s : State) (w : Wing) : State :=
  let s := (s.setFld .HP_STAT_LINKFLT 0 1).setFld .HP_STAT_STALE 0 1
  let s := { s with dup := { s.dup with advanced := false } }
  ((s.dupEvent 0x84 w 0 0 0 s.dup.seq s.ts).raise w 6).checkHandover

/-- LINK_STALE (14 R358). -/
def execLinkStale (w : Wing) (s : State) : Out :=
  .next (if !s.split && (s.wing w == .warm || s.wing w == .ready || (s.wing w == .cold && s.inWindow w)) && !s.flag .HP_STAT_STALE
    then s.linkFault w else s)

/-! ### Takeover -/

/-- The Wing in TAKING. -/
def State.taking (s : State) : Option Wing :=
  if s.wing .a == .taking then some .a else if s.wing .b == .taking then some .b else none

/-- TAKEOVER_SLOT_CHOSEN (14 R351 to R353, R358): the newest usable slot, if any, and event 0x80. -/
def execTakeoverSlotChosen (s : State) : Out :=
  .next (match s.taking with
    | none => s
    | some w =>
      if s.dup.chosen.isSome then s else
      let slot := s.newestSlot
      let s := { s with dup := { s.dup with chosen := some slot } }
      let rel := 4 * s.dup.released.toNat
      match slot with
      | none => (s.setFld .HP_TKO_AGE 0 0xFFFF).dupEvent 0x80 w (1 + rel) 0 0xFFFF 0 s.dup.expiryTs
      | some p =>
        let age := min ((s.tb - p.time) / 640000) 0xFFFF
        let aged := if s.fld .HP_STALE_STALE_MS * 640000 < s.tb - p.time then 2 else 0
        (s.setFld .HP_TKO_AGE 0 age).dupEvent 0x80 w (aged + rel) 0 age p.seq s.dup.expiryTs)

/-- The engine and Tutor sections of a snapshot are copied into a Wing (14 Table 14-4). -/
def State.restore (s : State) (w : Wing) (engines : List EngSection) (tutor : Option (Nat × List Nat)) : State :=
  let s := s.each engines (fun s g =>
    let n := g.pair + 6 * w.num
    let s := s.each (List.range g.words.length) (fun s i =>
      let at' := 0x2000 + 2 * (g.base + i)
      let v := g.words.getD i 0
      ((s.mark (0x20 + s.siteOf n) (at' / 2) false).setEngWord n at' v).setEngWord n (at' + 1) (v / 2 ^ 32))
    s.modEngine n (fun e => { e with image := none }))
  match tutor with
  | some (ofs, l) => s.each (List.range l.length) (fun s i => s.setDtcmWord w (8 * (ofs + i)) (l.getD i 0))
  | none => s

/-- The next run of every engine of a Wing starts with FIRST or without (10 R253, 14 R353). -/
def State.setFirst (s : State) (w : Wing) (b : Bool) : State :=
  s.each ((List.range 12).filter (fun n => engineWing n == w)) (fun s n => s.modEngine n (fun e => { e with first := b }))

/-- TAKEOVER_RESTORE_COMPLETE (14 R352, R353). -/
def execTakeoverRestoreComplete (s : State) : Out :=
  .next (match s.taking, s.dup.chosen with
    | some w, some slot =>
      if s.dup.restored then s else
      let s := match slot with
        | some p => (s.restore w p.engines p.tutor).setFirst w false
        | none => s.setFirst w true
      { s with dup := { s.dup with restored := true, noSnap := slot.isNone } }
    | _, _ => s)

/-- The Wing whose restore is complete enters ACTIVE at a PERIOD Bell (14 Table 14-4). -/
def State.takeoverBell (s : State) : State :=
  match s.taking with
  | some w =>
    if s.dup.restored then
      let s := s.setWing w .active
      { s with dup := { s.dup with restored := false, chosen := none, firstAfter := true, activeBells := 0 } }
    else s
  | none => { s with dup := { s.dup with activeBells := s.dup.activeBells + 1 } }

/-- The modules of a write to HP_REARM that the Wing's pass covers wait for the first complete staged sets (14 R354); the write
ends HP_TKO.DUR. -/
def State.rearmWrite (s : State) (w : Wing) (mask : Nat) : State :=
  if s.wing w == .taking || s.wing w == .active then
    let s := s.when s.dup.tkoOpen (fun s => s.setFld .HP_TKO_DUR 0 (min ((s.tb - s.dup.expiryTs) / 640) 4095))
    { s with dup := { s.dup with
      rearm := (s.covered w).foldl (fun a m => setBitTo a m (mask.testBit m)) s.dup.rearm, tkoOpen := false } }
  else s.discarded .duplex (hpAddr 0x2C)

/-- HP_REARM_WRITE (14 R354). -/
def execHpRearmWrite (core mask : Nat) (s : State) : Out :=
  .next (s.accessBlk core .duplex (hpAddr 0x2C) (fun s => s.rearmWrite (coreWing core) mask))

/-! ### Planned handover -/

/-- A PERIOD Bell while a handover waits (14 R355, R356): a failing condition cancels; otherwise it is one Bell nearer, and Bell H
hands the Edge domain to the new Wing. -/
def State.handoverBell (s : State) : State :=
  let s := s.checkHandover
  match s.dup.handover, s.holder with
  | .pending (k + 1), some w =>
    if k != 0 then { s with dup := { s.dup with handover := .pending k } }
    else
      let s := s.snapshotBell true
      State.settlePads (({ s with dup := { s.dup with handover := .copying } } : State).setWing w.other .active)
  | _, _ => s

/-- HANDOVER_COPY_COMPLETE (14 R355): the new Wing holds the state that follows run H − 1 and starts run H with FIRST = 0;
the arbiter records it with a full lease. -/
def execHandoverCopyComplete (s : State) : Out :=
  .next (match s.dup.handover, s.holder with
    | .copying, some w =>
      let o := w.other
      let s := (s.restore o (s.sections w) (s.tutorSection w)).setFirst o false
      let s := ((s.setPass w false).setLease w 0).grant o
      let s := (s.setWing w .warm).cancelHandover
      let s := (s.count .HP_CNT_HANDO).dupEvent 0x81 o 0 0 0 s.dup.seq s.ts
      (s.enginesDue ((List.range 12).filter (fun n => engineWing n == o))).settlePads
    | _, _ => s)

end Sys2Proof.Machine
end

