-- ==== Sys2Proof/Machine/Gate.lean ====
section
/-!
DEFINITION. The gate drive interface: driver inputs, desaturation reports, the interlock's report, the sequencer's gap,
bootstrap refresh and the software response (09).
-/
namespace Sys2Proof.Machine

/-- The sampler of FLT and RDY works: outside a whole-die reset, with the Edge clock running (02 Table 2-8; 09 R226). -/
def State.samples (s : State) : Bool := s.rst.phase == .none && !s.edgeStopped

/-- FLT reports of one tick (09 R229, R230): module and the tick its level reached the ball. -/
def State.fltReport (s : State) (l : List (Nat × Nat)) : State :=
  match l with
  | [] => s
  | e :: _ =>
    let s := s.each l (fun s e => ((s.setBit .GI_FLTSEEN_SEEN 0 e.1 true).count .GI_CNT_FLTCNT e.1).setFld .GI_FTS e.1 e.2)
    let mask := l.foldl (fun a e => setBitTo a e.1 true) 0
    let age (t : Nat) : Nat := (s.ts + 2 ^ 32 - t) % 2 ^ 32
    let first := l.foldl (fun a e => if age a < age e.2 then e.2 else a) e.2
    (s.gateEvent 0x30 8 mask s.ts first).runEntry 8 mask

/-- Desaturation of module `m` is reported (09 R229). -/
def State.fltLive (s : State) (m : Nat) : Bool := s.flag .GI_CH_FLTEN m && s.flag .PWM_RUN_OUTEN m

/-- The windows that end, with those of their modules still qualified low reported, or only seen without FLTEN or OUTEN (09 R229). -/
def State.endWindows (s : State) (mask : Nat) : State × List (Nat × Nat) :=
  let ended := (bitsOf 24 mask).filter (fun m => s.gate.blank.testBit m)
  let low := s.gate.fltWaits.filter (fun e => ended.contains e.1 && s.bit .GI_FLTLVL_LOW 0 e.1)
  let out := low.filter (fun e => s.fltLive e.1)
  let s := s.each (low.filter (fun e => !s.fltLive e.1)) (fun s e => s.setBit .GI_FLTSEEN_SEEN 0 e.1 true)
  ({ s with gate := { s.gate with
      blank := ended.foldl (fun a m => setBitTo a m false) s.gate.blank
      fltWaits := s.gate.fltWaits.filter (fun e => !ended.contains e.1) } }, out)

/-- FLT_QUALIFIED (09 R226, R229, R230): inputs that become qualified low are reported outside their windows, wait inside
them, and without FLTEN or OUTEN only set GI_FLTSEEN. The first sample lies FILT − 1 ticks back, and the level reached the
ball 2 ticks before it. -/
def execFltQualified (mask ended : Nat) (s : State) : Out :=
  .next (
    if !s.samples then s else
    let (s, late) := s.endWindows ended
    let news := (bitsOf 24 mask).filter (fun m => s.hasPm m && !s.bit .GI_FLTLVL_LOW 0 m)
    let s := s.each news (fun s m => s.setBit .GI_FLTLVL_LOW 0 m true)
    let at_ (m : Nat) : Nat := (s.tb + 2 ^ 32 - s.fld .GI_CH_FILT m + 1 - 2) % 2 ^ 32
    let s := s.each (news.filter (fun m => !s.fltLive m)) (fun s m => s.setBit .GI_FLTSEEN_SEEN 0 m true)
    let waits := news.filter (fun m => s.fltLive m && s.gate.blank.testBit m)
    let s := { s with gate := { s.gate with fltWaits := s.gate.fltWaits ++ waits.map (fun m => (m, at_ m)) } }
    let direct := news.filter (fun m => s.fltLive m && !s.gate.blank.testBit m)
    s.fltReport (late ++ direct.map (fun m => (m, at_ m))))

/-- FLT_BLANKING_END (09 R229). -/
def execFltBlankingEnd (mask : Nat) (s : State) : Out :=
  .next (if !s.samples then s else let (s, late) := s.endWindows mask; s.fltReport late)

/-- FLT_QUALIFIED_HIGH (09 R229): the input may be reported again. With VIO1 absent it reads its pull, which is low (02 R55). -/
def execFltQualifiedHigh (m : Nat) (s : State) : Out :=
  .next (if s.hasPm m && s.samples && s.bankOn 1 then
    let s := s.setBit .GI_FLTLVL_LOW 0 m false
    { s with gate := { s.gate with fltWaits := s.gate.fltWaits.filter (fun e => e.1 != m) } }
  else s)

/-- RDY_LOST (09 R227): with RDYCHK set and OUTACT at 1 it is recorded and entry 9 runs. -/
def execRdyLost (m : Nat) (s : State) : Out :=
  .next (if s.hasPm m && s.samples then
    let s := s.setBit .GI_RDYLVL_HIGH 0 m false
    s.when (s.flag .GI_CH_RDYCHK m && s.flag .PWM_STAT_OUTACT m) (fun s =>
      ((s.setBit .GI_RDYLOST_LOST 0 m true).gateNow 0x31 9 (2 ^ m)).runEntry 9 (2 ^ m))
  else s)

/-- RDY_QUALIFIED_HIGH (09 R227). With VIO1 absent the input reads its pull, which is low (02 R55). -/
def execRdyQualifiedHigh (m : Nat) (s : State) : Out :=
  .next (if s.hasPm m && s.samples && s.bankOn 1 then s.setBit .GI_RDYLVL_HIGH 0 m true else s)

/-- SHOOT_THROUGH (09 R231): the interlock's action is recorded and entry 10 runs. -/
def execShootThrough (m : Nat) (s : State) : Out :=
  .next (if s.hasPm m && s.sizeL && (s.pm m).shot then
    let s := s.modPm m (fun p => { p with shot := false })
    let s := (s.setBit .GI_SHOOT_SHOOT 0 m true).count .GI_CNT_SHOOTCNT m
    (s.gateNow 0x32 10 (2 ^ m)).runEntry 10 (2 ^ m)
  else s)

/-- A write to GI_SWTRIG that acts for Wing `w` (09 R239, R244): entries 14 and 15 run for a Wing entitled to every module
of the entry's mask; other writes are discarded. -/
def State.swtrig (s : State) (w : Wing) (trig : Nat) : State :=
  s.each (bitsOf 2 trig) (fun s i =>
    let mask := s.fld .RSP_MASK_MASK (14 + i)
    if (bitsOf 24 mask).all (fun m => !s.hasPm m || s.isEntitled w m) then s.runEntry (14 + i) mask
    else s.discarded .gate 0x41000010)

/-- GI_SWTRIG_WRITE (09 R239). -/
def execGiSwtrigWrite (core trig : Nat) (s : State) : Out :=
  .next (s.accessBlk core .gate 0x41000010 (fun s => s.swtrig (coreWing core) trig))

/-- SEQUENCER_GAP_END (09 R233). -/
def execSequencerGapEnd (k : Nat) (s : State) : Out :=
  .next (if s.gapRuns k then (s.gapEnd k).seqFallback else s)

/-- REFRESH_INSERT (09 R237): the high side falls and the refresh begins. -/
def execRefreshInsert (m : Nat) (s : State) : Out :=
  .next (
    let p := s.pm m
    let n := s.fld .GI_REF_REFRESH_N m
    if n != 0 && n ≤ p.refCount && p.mode == .follow && p.refresh == 0 then
      let s := s.setCmd m false false s.nowTaps false
      let s := s.setCmd m true false s.nowTaps false
      (s.modPm m (fun p => { p with refresh := 1, refCount := 0, riseHi := none, riseLo := none })).count .GI_CNT_REFCNT m
    else s)

/-- REFRESH_PHASE_END (09 R237, R238): the low side rises, then falls, then the outputs take H again. -/
def execRefreshPhaseEnd (m : Nat) (s : State) : Out :=
  .next (match (s.pm m).refresh with
    | 1 => (s.setCmd m true true s.nowTaps false).modPm m (fun p => { p with refresh := 2 })
    | 2 => (s.setCmd m true false s.nowTaps false).modPm m (fun p => { p with refresh := 3 })
    | 3 =>
      let s := s.modPm m (fun p => { p with refresh := 0, he := p.h, le := p.l, merged := p.merged && p.h })
      let p := s.pm m
      let wantLo := if s.complementary m then !p.he else p.le
      let s := s.when p.he (fun s => s.setCmd m false true s.nowTaps false)
      s.modPm m (fun p => { p with riseLo := if wantLo then some (s.nowTaps + s.ton m true) else none })
    | _ => s)

end Sys2Proof.Machine
end

