-- ==== Sys2Proof/Machine/Integrity.lean ====
section
/-!
DEFINITION. Memory integrity (15): scrubbing, hard faults and spares, what consumers of uncorrectable words see, Satchel bank
retirement, the record of field repairs and the ageing monitors.
-/
namespace Sys2Proof.Machine

/-! ### Memories (15 Table 15-1, Table 15-4) -/

/-- The Tutor-map address of a word of a memory (21 Table 21-3); 0 for a Substitute site that answers to no engine. -/
def State.memAddr (s : State) (mem w : Nat) : Nat :=
  if mem < 0x10 then 0x20000000 + mem * 0x40000 + 16 * w
  else if mem < 0x18 then 0x10000000 + mem % 4 * 0x40000 + 8 * w
  else if mem < 0x1C then 0x11000000 + mem % 2 * 0x40000 + 8 * w
  else if mem = 0x30 then 0x30000000 + 8 * w
  else match (List.range 12).find? (fun n => 0x20 + s.siteOf n == mem) with
    | some n => engAddr n (8 * w)
    | none => 0

/-- Word slots of a row: 32 in Satchel, 64 elsewhere (15 R366). -/
def rowSlots (mem : Nat) : Nat := if mem < 0x10 then 32 else 64

/-- The row of a word, and its column in the subarray: subarray × 8192 + slot × width + bit (15 Table 15-5). -/
def rowOf (mem w : Nat) : Nat := w / rowSlots mem
/-- The column of a stored bit of a word. -/
def columnOf (mem w bit : Nat) : Nat :=
  rowOf mem w / 64 * 8192 + w % rowSlots mem * (if mem < 0x10 then 160 else 72) + bit

/-- Words of a scrub class (15 Table 15-4). -/
def classWords (m : Nat) : Nat :=
  match m with
  | 0 => 262144
  | 1 | 2 => 131072
  | 3 | 4 => 65536
  | 5 | 6 => 57344
  | _ => 8192

/-- The memory and word of the `n`th word of a class. -/
def classWord (m n : Nat) : Nat × Nat :=
  match m with
  | 0 => (n / 16384, n % 16384)
  | 1 => (0x10 + n / 32768, n % 32768)
  | 2 => (0x14 + n / 32768, n % 32768)
  | 3 => (0x18 + n / 32768, n % 32768)
  | 4 => (0x1A + n / 32768, n % 32768)
  | 5 => (if n / 8192 < 6 then 0x20 + n / 8192 else 0x2C, n % 8192)
  | 6 => (if n / 8192 < 6 then 0x26 + n / 8192 else 0x2D, n % 8192)
  | _ => (0x30, n)

/-- The Wing of a scrub class, where it has one. -/
def classWing (m : Nat) : Option Wing :=
  if m = 1 || m = 3 || m = 5 then some .a else if m = 2 || m = 4 || m = 6 then some .b else none

/-- The decoder of a memory. -/
def decodeWord (mem stored : Nat) : Decoded := if mem < 0x10 then rsDecode (leBytes 20 stored) else secDecode stored

/-- A word of a memory takes corrected data (15 R378). -/
def State.writeBack (s : State) (mem w data : Nat) : State :=
  if mem < 0x10 then (s.satWriteWord (mem * 0x40000 + 16 * w) (leBytes 16 data)).2
  else if mem < 0x18 then
    { s with tut := { s.tut with itcm := putBytes s.tut.itcm (mem / 4 % 2) (mem % 4 * 0x40000 + 8 * w) (leBytes 8 data) } }
  else if mem < 0x1C then s.setDtcmWord (if mem < 0x1A then .a else .b) (mem % 2 * 0x40000 + 8 * w) data
  else if mem = 0x30 then
    if w < 0x1C00 then { s with ct := { s.ct with sram := putBytes s.ct.sram 0 (8 * w) (leBytes 8 data) } } else s
  else if 0x20 ≤ mem && mem < 0x2E then
    match (List.range 12).find? (fun n => 0x20 + s.siteOf n == mem) with
    | some n => (s.setEngWord n (2 * w) (data % 2 ^ 32)).setEngWord n (2 * w + 1) (data / 2 ^ 32)
    | none => s
  else s

/-! ### Bank retirement -/

/-- A Satchel bank is retired (15 R384): its reads return poison from now on, the record takes it, event 0x98, and the banks
in service fall below their floor of 16 (15 Table 15-7). -/
def State.retireBank (s : State) (b : Nat) : State :=
  if s.bankRetired b then s else
  let whole := s.fld .SAT_BANK_INSERV = 0xFFFF
  let s := (s.setBit .SAT_BANK_RETIRED 0 b true).setBit .SAT_BANK_INSERV 0 b false
  let s := (s.recordRepair 3 b 0 0).intEvent 0x98 b 0 (0x20000000 + b * 0x40000) 0
  s.when whole (fun s => (s.setFld .INT_STAT_FLOOR 0 1).intEvent 0x9C 3 0 0 0)

/-- An uncorrectable word of a bank counts towards its retirement (15 R384): four distinct ones within one hour in a bank
whose spare rows are exhausted, with AUTORET set. -/
def State.bankFound (s : State) (mem w : Nat) : State :=
  if 0x10 ≤ mem then s else
  let recent := s.integ.found.filter (fun e => decide (s.tb < e.2.2 + 3600 * tickSecond) && !(e.1 == mem && e.2.1 == w))
  let l := (mem, w, s.tb) :: recent
  let s := { s with integ := { s.integ with found := l } }
  s.when (s.flag .INT_CTRL_AUTORET && decide (4 ≤ (l.filter (fun e => e.1 == mem)).length) &&
      decide (spareRows mem ≤ (s.integ.rowsUsed.filter (fun r => r.1 == mem)).length)) (fun s => s.retireBank mem)

/-- SAT_RET_WRITE (15 R384). -/
def execSatRetWrite (core bank : Nat) (go : Bool) (s : State) : Out :=
  .next (s.accessBlk core .integrity 0x4800000C (fun s => s.when go (fun s => s.retireBank (bank % 16))))

/-! ### Hard faults (15 R379 to R381) -/

/-- A spare column of a subarray is free. -/
def State.freeColumn (s : State) (mem sub : Nat) : Option Nat :=
  [0, 1].find? (fun k => !s.integ.colsUsed.contains (mem, sub, k))

/-- A spare row of the bank is free. -/
def State.freeRow (s : State) (mem : Nat) : Option Nat :=
  (List.range (spareRows mem)).find? (fun k => !s.integ.rowsUsed.contains (mem, k))

/-- The column is replaced by spare column `k` of its subarray (15 R380). -/
def State.replaceColumn (s : State) (mem w col k : Nat) : State :=
  let was := s.belowLevel 1
  let s := { s with integ := { s.integ with colsUsed := s.integ.colsUsed ++ [(mem, rowOf mem w / 64, k)] } }
  let s := (s.recordRepair 1 mem col k).putRemain 1 (s.fld .REPC_REM_REMAIN 1 - 1)
  (s.noteFloor 1 was).intEvent 0x96 mem col (s.memAddr mem w) 0

/-- The row is replaced by spare row `k` of its bank (15 R380). -/
def State.replaceRow (s : State) (mem w k : Nat) : State :=
  let was := s.belowLevel 3
  let s := { s with integ := { s.integ with rowsUsed := s.integ.rowsUsed ++ [(mem, k)] } }
  let s := (s.recordRepair 2 mem (rowOf mem w) k).putRemain 3 (s.fld .REPC_REM_REMAIN 3 - 1)
  (s.noteFloor 3 was).intEvent 0x95 mem (rowOf mem w) (s.memAddr mem w) 0

/-- A hard fault is judged (15 R379 to R381): event 0x94, and with AUTOREP a column, a row, or a column as a fallback;
where neither is free event 0x97 once per memory. -/
def State.hardFault (s : State) (m mem w bit nerr : Nat) : State :=
  let row := rowOf mem w
  let col := columnOf mem w bit
  let s := (s.count .SCR_CNT_HARD m).intEvent 0x94 mem row (s.memAddr mem w) nerr
  let same := s.integ.hard.any (fun h => h.1 == mem && h.2.2 == col && h.2.1 != row)
  let s := { s with integ := { s.integ with hard := s.integ.hard ++ [(mem, row, col)] } }
  if !s.flag .INT_CTRL_AUTOREP then s else
  match same, s.freeColumn mem (row / 64), s.freeRow mem with
  | true, some k, _ => s.replaceColumn mem w col k
  | _, _, some k => s.replaceRow mem w k
  | _, some k, none => s.replaceColumn mem w col k
  | _, none, none =>
    if s.integ.exhausted.contains mem then s
    else { s.intEvent 0x97 mem row (s.memAddr mem w) 0 with
           integ := { s.integ with exhausted := mem :: s.integ.exhausted } }

/-! ### Scrubbing -/

/-- The class's next word; the end of the pass turns the suspect tables and counts the pass (15 R375, R379). -/
def State.scrubNext (s : State) (m n : Nat) : State :=
  if n < classWords m then s.setFld .SCR_POS_WORD m n
  else
    let s := (s.setFld .SCR_POS_WORD m 0).count .SCR_DONE m
    { s with integ := { s.integ with
      suspectPrev := s.integ.suspectPrev.set m (s.integ.suspectCur.getD m [])
      suspectCur := s.integ.suspectCur.set m [] } }

/-- A scrubber may take its access now (15 R375 to R377): its class is enabled, its Wing is not OFF, a COLD Wing's only in
its self-test window, and an engine memory's only while the engine does not run. -/
def State.mayScrub (s : State) (m mem : Nat) : Bool :=
  s.bit .INT_CTRL_SCR_EN 0 m && !(m == 0 && s.domainHeld 4) &&
  (match classWing m with
    | none => true
    | some w => s.wing w != .off && (s.wing w != .cold || s.inWindow w)) &&
  !((List.range 12).any (fun n => 0x20 + s.siteOf n == mem && s.running n))

/-- A corrected word (15 R378, R379): written back unless written since, counted, reported at most once per second per class
with the count since, entered into the suspect table, and judged hard if the previous pass corrected it too. -/
def State.scrubCorrected (s : State) (m mem w data nerr bit : Nat) (written : Bool) : State :=
  let n := s.fld .SCR_POS_WORD m
  let s := s.when (!written) (fun s => s.writeBack mem w data)
  let s := (s.count .SCR_CNT_CORR m).setFld .INT_LASTC 0 (s.memAddr mem w)
  let since := s.integ.corrSince.getD m 0 + 1
  let due := match s.integ.corrAt.getD m none with
    | none => true
    | some t => decide (t + tickSecond ≤ s.tb)
  let s := if s.flag .INT_CTRL_CEVT && due then
      { s.intEvent 0x90 mem since (s.memAddr mem w) nerr with integ := { s.integ with
        corrSince := s.integ.corrSince.set m 0, corrAt := s.integ.corrAt.set m (some s.tb) } }
    else { s with integ := { s.integ with corrSince := s.integ.corrSince.set m since } }
  let cur := s.integ.suspectCur.getD m [] ++ [n]
  let s := { s with integ := { s.integ with suspectCur := s.integ.suspectCur.set m (cur.drop (cur.length - 64)) } }
  s.when ((s.integ.suspectPrev.getD m []).contains n) (fun s => s.hardFault m mem w bit nerr)

/-- SCRUB_READ (15 R375, R378): the next word of a class. A retired bank is skipped; poison is not reported again. -/
def execScrubRead (m stored : Nat) (written : Bool) (s : State) : Out :=
  .next (if 8 ≤ m then s else
    let n := s.fld .SCR_POS_WORD m
    let (mem, w) := classWord m n
    if !s.mayScrub m mem then s
    else if mem < 0x10 && s.bankRetired mem then s.scrubNext m ((mem + 1) * 16384)
    else
      let s := if s.poisoned mem w then s else
        match decodeWord mem stored with
        | .data _ 0 _ => s
        | .data d k col => s.scrubCorrected m mem w d k (col.getD 0) written
        | .poison => s.mark mem w true
        | .uncorrectable =>
          ((((s.mark mem w true).count .SCR_CNT_UNCORR m).intEvent 0x93 mem (rowOf mem w) (s.memAddr mem w) 0)).bankFound mem w
      s.scrubNext m (n + 1))

/-- SCRUB_PASS_OVERDUE (15 R377). -/
def execScrubPassOverdue (m : Nat) (s : State) : Out :=
  .next (if 8 ≤ m then s else (s.setBit .INT_STAT_OVERDUE 0 m true).intEvent 0x99 (classWord m 0).1 0 0 0)

/-! ### Consumers (15 R373, Table 15-3) -/

/-- Both copies of a point's accumulators are lost: the point is restored from the Library as after a cold start (15 Table
15-3, 13 R332, R333). -/
def State.restorePoint (s : State) (q : Nat) : State :=
  let save := s.newestRecord 7 0x30
  let base := match save with | some r => r.payload | none => []
  let a : BurAcc := {}
  let a := { a.commit (addSaved a.now q (fun k => saveValue base q k)) with gap := saveGap base q * 640000 }
  let s := { s with bur := { s.bur with accs := s.bur.accs.set q a } }
  match save with
  | some r => { s.setFld .BUR_STAT_SPANPEND 0 1 with bur := { s.bur with span := some (ofLe (r.payload.take 6), 2 ^ q) } }
  | none => s

/-- What a consumer of an uncorrectable or poisoned word does (15 Table 15-3). A buffer or descriptor of a port's ring is
also a port fault (19 R466). -/
def State.consumerSees (s : State) (c : Consumer) (addr : Nat) : State :=
  match c with
  | .fetch core => s.coreFault core 1 addr
  | .load core => s.coreFault core 5 addr
  | .store core => s.coreFault core 7 addr
  | .descriptor q i =>
    let d := ((s.takenDesc q i).orElse (fun _ => s.desc q i)).getD {}
    let s := s.finish q i { d with errcode := 0x01 }
    s.when (q < 10) (fun s => s.portFault (q / 2) 3 (q / 2))
  | .buffer q i =>
    let d := ((s.takenDesc q i).orElse (fun _ => s.desc q i)).getD {}
    let s := s.finish q i { d with errcode := 0x01 }
    s.when (q < 10) (fun s => s.portFault (q / 2) 5 addr)
  | .engine n isFetch => s.when (s.running n) (fun s => s.engineFault n (if isFetch then 1 else 2))
  | .substituteCopy => s
  | .restore k => { s with dup := { s.dup with slots := modAt s.dup.slots k {} (fun p => { p with poisoned := true }) } }
  | .bursar q both =>
    if both then s.restorePoint q
    else { s with bur := { s.bur with accs := modAt s.bur.accs q {} (fun a => { a with current := !a.current }) } }
  | .fabric source ts => s.offer (mkWord 0 7 source ts false false) true

/-- UNCORRECTABLE_READ (15 R368, R370, R371, R373): a consumer reads a word. Data, corrected or not, is simply read; a word
that is uncorrectable is poisoned in the same access (0x91), poison stays poison (0x92), INT_LASTA takes its address, and
the consumer's outcome follows. -/
def execUncorrectableRead (c : Consumer) (mem w stored : Nat) (s : State) : Out :=
  let addr := s.memAddr mem w
  let gone := mem < 0x10 && s.bankRetired mem
  .next (if s.poisoned mem w || gone || decodeWord mem stored == .poison then
    ((s.mark mem w true).badRead mem addr false).consumerSees c addr
  else if decodeWord mem stored == .uncorrectable then
    (((s.mark mem w true).badRead mem addr true).bankFound mem w).consumerSees c addr
  else s)

/-! ### The record of field repairs (15 R382, R383) -/

/-- A memory of Table 15-1. -/
def isMemory (mem : Nat) : Bool := mem < 0x1C || (0x20 ≤ mem && mem < 0x2E) || mem = 0x30

/-- Rows of a memory's bank (15 Table 15-1). -/
def memRows (mem : Nat) : Nat := if mem < 0x20 then 512 else 128

/-- An entry names a unit of the variant and no spare in use (15 R383). -/
def State.repairFits (s : State) (e : Nat) : Bool :=
  let kind := bits e 0 8
  let unit := bits e 8 8
  let loc := bits e 16 16
  let spare := bits e 32 16
  match kind with
  | 1 => isMemory unit && loc / 8192 < memRows unit / 64 && !s.integ.colsUsed.contains (unit, loc / 8192, spare) && spare < 2
  | 2 => isMemory unit && loc < memRows unit && !s.integ.rowsUsed.contains (unit, spare) && spare < spareRows unit
  | 3 => unit < 16 && !s.bankRetired unit
  | 4 => unit < 17 && !s.sliceRetired unit
  | 5 => unit < 12 && !s.bit .LE_MAP_RET 0 unit
  | 6 => unit < 2 && !s.flag (if unit = 0 then .LE_MAP_SEA_RET else .LE_MAP_SEB_RET)
  | 7 => unit < 2 && s.flag (if unit = 0 then .BELL_STAT_ROOT0_OK else .BELL_STAT_ROOT1_OK)
  | 8 => unit < 3 && !(s.dup.voters.getD unit {}).retired
  | _ => false

/-- An entry of the record takes effect (15 R382, R383; 01 Table 1-12). -/
def State.applyRepair (s : State) (e : Nat) : State :=
  let unit := bits e 8 8
  let loc := bits e 16 16
  let spare := bits e 32 16
  match bits e 0 8 with
  | 1 => { s with integ := { s.integ with colsUsed := s.integ.colsUsed ++ [(unit, loc / 8192, spare)] } }
  | 2 => { s with integ := { s.integ with rowsUsed := s.integ.rowsUsed ++ [(unit, spare)] } }
  | 3 => (s.setBit .SAT_BANK_RETIRED 0 unit true).setBit .SAT_BANK_INSERV 0 unit false
  | 4 =>
    let s := (s.setBit .SAR_MAP_RETIRED 0 unit true).setFld .SAR_CAL_ROT_STOP 0 1
    s.when (unit < 16 && s.fld .SAR_MAP_SUBSLOT = 0x1F && !s.sliceRetired 16) (fun s => s.setFld .SAR_MAP_SUBSLOT 0 unit)
  | 5 =>
    let s := s.setBit .LE_MAP_RET 0 unit true
    let w := engineWing unit
    s.when (s.fld (substMap w) = 0xF && !s.flag (substRet w)) (fun s => s.setFld (substMap w) 0 unit)
  | 6 => s.setFld (if unit = 0 then .LE_MAP_SEA_RET else .LE_MAP_SEB_RET) 0 1
  | 7 => s.setFld (if unit = 0 then .BELL_STAT_ROOT0_OK else .BELL_STAT_ROOT1_OK) 0 0
  | 8 =>
    { s.setFld .HP_STAT_ARBDEG 0 1 with dup := { s.dup with
      voters := modAt s.dup.voters unit {} (fun (v : Voter) => { v with retired := true }) } }
  | _ => s

/-- The spares that an entry consumes (15 Table 15-7). -/
def repairLevel (e : Nat) : Option Nat :=
  match bits e 0 8 with
  | 1 => some 1
  | 2 => some 3
  | 4 | 6 => some 4
  | 5 => some 4
  | 7 | 8 => some 6
  | _ => none

/-- A spare row steered after a Caretaker cold start holds zero with valid check bits (15 R382). -/
def State.zeroRow (s : State) (e : Nat) : State :=
  if bits e 0 8 != 2 then s else
  let mem := bits e 8 8
  s.each (List.range (rowSlots mem)) (fun s k =>
    let w := bits e 16 16 * rowSlots mem + k
    (s.writeBack mem w 0).mark mem w false)

/-- REP_LOAD_WRITE (15 R383): while REP_CNT is 0, the first `count` entries of the Library's copy enter the record and are
applied in order; one that names a spare in use or an absent unit is skipped, with event 0x9B and LOC its position. -/
def State.repLoad (s : State) (count : Nat) : State :=
  if s.fld .REP_CNT_USED != 0 then s else
  let l := s.repairCopy.take (min count 512)
  let s := s.each l.zipIdx (fun s e =>
    let s := { s with integ := { s.integ with repairs := s.integ.repairs ++ [e.1] } }
    if s.repairFits e.1 then
      let s := (s.applyRepair e.1).zeroRow e.1
      match repairLevel e.1 with
      | some lv => s.consumeSpare lv
      | none => s
    else s.intEvent 0x9B (bits e.1 8 8) e.2 0 0)
  s.setFld .REP_CNT_USED 0 s.integ.repairs.length

/-- REP_LOAD_WRITE (15 R383), by a core. -/
def execRepLoadWrite (core count : Nat) (s : State) : Out :=
  .next (s.accessBlk core .integrity 0x48000014 (fun s => s.repLoad count))

/-! ### Ageing (15 R386) -/

/-- AGEING_MEASURE (15 R386): each monitor's SLOW is measured; one that reaches AGE_CFG.WARN sets WARN and queues event
0x9A once. -/
def execAgeingMeasure (slow : List Nat) (s : State) : Out :=
  .next (s.each ((slow.take 86).zipIdx) (fun s e =>
    let was := s.flag .AGE_WARN e.2
    let on := decide (s.fld .AGE_CFG_WARN ≤ e.1)
    let s := (s.setFld .AGE_SLOW e.2 (min e.1 65535)).setFlag .AGE_WARN e.2 on
    s.when (on && !was) (fun s => s.intEvent 0x9A e.2 (min e.1 65535) 0 0)))

end Sys2Proof.Machine
end

