-- ==== Sys2Proof/Machine/Sync.lean ====
section
/-!
DEFINITION. What the Timetables as shipped (11, 12) share: numbers, the voltage sequences, PLL and frequency of a run (11 R283,
R284), the duties it stores and the events it queues. The spec gives these Timetables by what each run computes and not by their
instruction words: a run is taken at its END in binary64, and what the run's own STPD and EVT commands have stored or queued
stands (assumption log, entry 25).
-/
namespace Sys2Proof.Machine

/-- A fraction as a value. -/
def fpFrac (num den : Nat) : Fp := roundTo b64 false num den 0

/-- The nominal lesson period in seconds. -/
def State.lessonSeconds (s : State) : Fp := fpFrac s.nominalPeriod tickSecond

/-- `n` lesson periods in seconds. -/
def State.runsTime (s : State) (n : Nat) : Fp := (Fp.ofInt n).mul s.lessonSeconds

/-- The next free binary32 value. -/
def State.freeR (s : State) : Fp × State :=
  let p := s.fresh 32
  (.of32 p.1, p.2)

/-- A count of consecutive runs. -/
def cnt (b : Bool) (n : Nat) : Nat := if b then n + 1 else 0

/-- 2π. -/
def fpTwoPi : Fp := roundTo b64 false twoPi256 1 (-256)

/-- The coefficient of a first-order filter with time constant `t`. -/
def State.filterStep (s : State) (t : Fp) : Fp := .of32 (Config.filterStep t.bits64 s.lessonSeconds.bits64)

/-- Value `i` of a list of binary64 patterns. -/
def at64 (l : List Nat) (i : Nat) : Fp := .of64 (l.getD i 0)

/-- U_BASE, I_BASE and 2π × F_NOM in force. -/
def State.uBase (s : State) : Fp := s.varR 0x6001 1
/-- I_BASE. -/
def State.iBase (s : State) : Fp := s.varR 0x6001 2
/-- 2π × F_NOM. -/
def State.wNom (s : State) : Fp := fpTwoPi.mul (s.varR 0x6001 3)

/-- What a run computes of its voltage samples (11 R283): the decoupled components, U1 and U2 in pu, the phase error, the
frequency, θk, ω, whether the PLL is held and whether it limited ω, and what it carries on. -/
structure Sensed where
  d1 : Fp
  q1 : Fp
  d2 : Fp
  q2 : Fp
  u1 : Fp
  u2 : Fp
  e : Fp
  f : Fp
  theta : Fp
  w : Fp
  hold : Bool
  sat : Bool
  lock : GridLock
  deriving DecidableEq, Repr

/-- The PLL is held (11 R284): from U1 below U_HOLD until U1 reaches 1.25 × U_HOLD. -/
def State.pllHeld (s : State) (was : Bool) (u1 : Fp) : Bool :=
  u1.lt (s.varR 0x6001 7) || (was && u1.lt ((fpFrac 5 4).mul (s.varR 0x6001 7)))

/-- The PLL of a run (11 R283, R284): θ, ω, the integrator and whether ω was limited; held, θ advances by the held ω. -/
def State.pllRun (s : State) (p : GridLock) (hold : Bool) (e : Fp) : Fp × Fp × Fp × Bool :=
  let ts := s.lessonSeconds
  let th := Fp.of64 p.theta
  if hold then
    let w := match p.w with | some w => Fp.of64 w | none => s.wNom
    ((th.add (ts.mul w)).wrap, w, .of64 p.pll, false)
  else
    let f := s.varR 0x6001 3
    let r := s.varR 0x6001 4
    pllOf (s.varR 0x6001 5) ((s.varR 0x6001 6).mul ts) s.wNom ts (fpTwoPi.mul (f.sub r)) (fpTwoPi.mul (f.add r))
      (.of64 p.pll) th e

/-- The sequences, the PLL and the frequency of a run of engine `n` (11 R283): subscriptions 3 to 5 are the phase voltages, the
DDSRF has its corner at 2π × F_NOM / √2, and the frequency is ω / 2π after its second-order filter. -/
def State.sense (s : State) (n : Nat) (p : GridLock) (was : Bool) : Sensed :=
  let v := clarkeOf (s.subValue n 3).1 (s.subValue n 4).1 (s.subValue n 5).1
  let th := Fp.of64 p.theta
  let lam := s.filterStep (Fp.div b64 (Fp.sqrt b64 fpTwo) s.wNom)
  let x := ddsrfOf lam v.1 v.2 th.sin th.cos (at64 p.seqV 0) (at64 p.seqV 1) (at64 p.seqV 2) (at64 p.seqV 3)
  let c (i : Nat) : Fp := x.1.getD i .nan
  let mag (a b : Fp) : Fp := Fp.sqrt b64 ((a.mul a).add (b.mul b))
  let m1 := mag (c 0) (c 1)
  let u1 := Fp.div b64 m1 s.uBase
  let e := Fp.div b64 (c 1) (m1.max ((s.varR 0x6001 7).mul s.uBase))
  let hold := s.pllHeld was u1
  let l := s.pllRun p hold e
  let k (i : Nat) : Fp := .of32 (Config.freqFilter i s.lessonSeconds.bits64)
  let f := biqOf (k 0) (k 1) (k 2) (k 3) (k 4) (at64 p.filt 0) (at64 p.filt 1) (Fp.div b64 l.2.1 fpTwoPi)
  { d1 := c 0, q1 := c 1, d2 := c 2, q2 := c 3, u1 := u1, u2 := Fp.div b64 (mag (c 2) (c 3)) s.uBase, e := e, f := f.1,
    theta := th, w := l.2.1, hold := hold, sat := l.2.2.2,
    lock := { seqV := x.2.map Fp.bits64, pll := l.2.2.1.bits64, theta := l.1.bits64, w := some l.2.1.bits64,
              filt := [f.2.1.bits64, f.2.2.bits64] } }

/-- The run of engine `n` stores a duty to module `m` by STPD, with CMPB of duty 0 (11 R287, 12 R308; 10 R255), unless its own
STPD has. -/
def State.shipDuty (s : State) (n m : Nat) (d : Fp) : State :=
  if !d.finite || (s.pm m).staged.any (fun e => e.engine == n && e.word == 0 && !e.complete) then s
  else s.stage n m 0 (compareOf ((fp128.mul d).mul (.ofInt (s.stagedPer n m))))

/-- The run of engine `n` executes EVT with this ECODE, and VALUE where the spec states it, unless its own EVT has (11 R293, 10
R267). The instruction's place in the Timetable is free. -/
def State.shipEvt (s : State) (n code : Nat) (value : Option Nat) (fault : Bool := false) : State :=
  if (s.engine n).events.any (fun v => v.1 == 0x54 && v.2.2.1 == code && value.all (fun x => x == v.2.2.2)) then s else
  let (pc, s) := s.fresh 12
  let (v, s) := match value with
    | some x => (x, s)
    | none => s.fresh 32
  s.modEngine n (fun e => { e with
    events := e.events ++ [(0x54, pc, code, v)], evtFault := if fault && e.evtFault.isNone then some pc else e.evtFault })

end Sys2Proof.Machine
end

