-- ==== Sys2Proof/Machine/Grid.lean ====
section
/-!
DEFINITION. A run of the grid Timetable as shipped (11): the ride-through curves, the power chain, the references, the states, the
current controllers and the duties.
-/
namespace Sys2Proof.Machine

/-! ### Ride-through curves (11 R292) -/

/-- Point `p` of a curve: time in ms, voltage in 1/10 000 pu, and whether it is held to the next point. -/
def State.curvePoint (s : State) (idx p : Nat) : Nat × Nat × Bool :=
  let w := s.var idx (2 + p)
  (bits w 0 16, bits w 16 14, w.testBit 30)

/-- The points of a curve. -/
def State.curve (s : State) (idx : Nat) : List (Nat × Nat × Bool) := (List.range (s.var idx 1)).map (s.curvePoint idx)

/-- The rules of a curve: 2 to 16 points, times rising strictly from 0 to 10 ms or later. -/
def curveOk (l : List (Nat × Nat × Bool)) : Bool :=
  2 ≤ l.length && l.length ≤ 16 && (l.headD (1, 0, false)).1 = 0 && 10 ≤ (l.getLastD (0, 0, false)).1
    && (List.range (l.length - 1)).all (fun i => (l.getD i (0, 0, false)).1 < (l.getD (i + 1) (0, 0, false)).1)
    && l.all (fun p => p.2.1 ≤ 15000)

/-- The voltage of a curve at the scaled time `x`, in 1/255 ms, as a fraction. -/
def curveAt (l : List (Nat × Nat × Bool)) (x : Nat) : Nat × Nat :=
  match l with
  | [] => (0, 1)
  | [p] => (p.2.1, 1)
  | p :: q :: r =>
    if 255 * q.1 ≤ x then curveAt (q :: r) x
    else if p.2.2 then (p.2.1, 1)
    else
      let d := 255 * (q.1 - p.1)
      let dx := x - 255 * p.1
      (p.2.1 * (d - dx) + q.2.1 * dx, d)

/-- The smaller, or the larger, of two fractions. -/
def pickFrac (least : Bool) (a b : Nat × Nat) : Nat × Nat :=
  if (if least then a.1 * b.2 ≤ b.1 * a.2 else b.1 * a.2 ≤ a.1 * b.2) then a else b

/-- The least or largest voltage of a curve over the scaled times `x` to `y`. -/
def curveOver (least : Bool) (l : List (Nat × Nat × Bool)) (x y : Nat) : Nat × Nat :=
  let inner := (l.filter (fun p => x < 255 * p.1 && 255 * p.1 ≤ y)).map (fun p => (p.2.1, 1))
  inner.foldl (pickFrac least) (pickFrac least (curveAt l x) (curveAt l y))

/-- A curve resampled into 256 values over 0 to its last time (11 R292). -/
def resample (least : Bool) (l : List (Nat × Nat × Bool)) : List Nat :=
  let last := (l.getLastD (0, 0, false)).1
  (List.range 256).map (fun i =>
    let v := curveOver least l ((i - 1) * last) (min (i + 1) 255 * last)
    (fpFrac v.1 (v.2 * 10000)).bits32)

/-- The evaluated boundary at time `t` in seconds: interpolation between the resampled values. -/
def boundary (c : List Nat) (last : Nat) (t : Fp) : Fp :=
  let u := (Fp.div b64 (t.mul (.ofInt 255000)) (.ofInt last)).clamp .zero (.ofInt 255)
  let j := min u.floor.toNat 254
  let y (i : Nat) := Fp.of32 (c.getD i 0)
  (y j).add ((u.sub (.ofInt j)).mul ((y (j + 1)).sub (y j)))

/-! ### The probing code (12 R303, R304) -/

/-- Eleven terms of the code from a_n on, as bits 0 to 10, `k` terms further. -/
def probeTerms : Nat → Nat → Nat
  | 0, r => r
  | k + 1, r => probeTerms k (r / 2 + (if r.testBit 9 != r.testBit 0 then 2 ^ 10 else 0))

/-- The term a_n of the probing code. -/
def probeTerm (n : Nat) : Bool := (probeTerms (n % 2047) 1024).testBit 0

/-- The chip of lesson period count `count` (12 R304). -/
def State.chip (s : State) (count : Nat) : Fp :=
  let j := count / max 1 (s.var 0x6102 3) % 2047
  .fin (probeTerm (j + 8 * s.var 0x6102 7)) 1 0

/-! ### Power and references -/

/-- The power chain of a run (11 R289): P_R, Q_R and P_M, and whether P_R has reached its target. -/
def State.powerChain (s : State) (g : GridSt) (u1 f dc : Fp) : Fp × Fp × Option Nat × Bool :=
  let ts := s.lessonSeconds
  let pR := Fp.of64 g.pR
  let fStart := (s.varR 0x6001 3).add (s.varR 0x6005 6)
  let beyond := s.var 0x6005 5 = 1 && fStart.lt f
  let pM := if beyond then some (g.pM.getD g.pR) else none
  let pLim : Option Fp := pM.map (fun b =>
    ((Fp.of64 b).mul ((Fp.ofInt 1).sub ((s.varR 0x6005 7).mul (f.sub fStart)))).max .zero)
  let limit (x : Fp) : Fp := match pLim with | some l => x.min l | none => x
  let target := limit (if s.var 0x6004 1 = 0 then s.varR 0x6004 2 else dc)
  let up := (if g.st = 5 then s.varR 0x6005 4 else s.varR 0x6005 1).mul ts
  let down := (s.varR 0x6005 2).mul ts
  let pR' := if s.var 0x6004 1 = 0 then limit (pR.add ((target.sub pR).clamp down.neg up)) else target
  let c := s.varR 0x6004 8
  let db := s.varR 0x6004 0xA
  let du := u1.sub (s.varR 0x6004 9)
  let qTarget :=
    match s.var 0x6004 6 with
    | 0 => s.varR 0x6004 7
    | 1 =>
      let q := Fp.div b64 (pR'.abs.mul (Fp.sqrt b64 ((Fp.ofInt 1).sub (c.mul c)))) c.abs
      if c.lt .zero then q.neg else q
    | _ =>
      let out := if db.lt du then du.sub db else if du.lt db.neg then du.add db else .zero
      ((s.varR 0x6004 0xB).neg.mul out).clamp (s.varR 0x6004 0xC).neg (s.varR 0x6004 0xC)
  let qStep := (s.varR 0x6005 3).mul ts
  let qR := Fp.of64 g.qR
  (pR', qR.add ((qTarget.sub qR).clamp qStep.neg qStep), pM, pR'.eqv target)

/-- The references ID, IR and I2 of a run (11 R285, 12 R304) in state `st`. -/
def State.allocate (s : State) (st : Nat) (idEntry irEntry u1 u2 uPre pR qR : Fp) : Fp × Fp × Fp :=
  let iMax := s.varR 0x6002 6
  let irMax := s.varR 0x6006 8
  let root (a b : Fp) : Fp := Fp.sqrt b64 ((a.mul a).sub (b.mul b))
  let uMin := u1.max (fpFrac 1 10)
  if st = 2 ∨ st = 3 then
    let ir := (irEntry.add ((s.varR 0x6006 6).mul (uPre.sub u1))).clamp irMax.neg irMax
    let i2 := ((s.varR 0x6006 7).mul u2).min (iMax.sub ir.abs)
    let idl := root (iMax.sub i2) ir
    (if s.var 0x6006 9 = 0 then idEntry.clamp idl.neg idl else .zero, ir, i2)
  else if st = 1 ∨ st = 5 then
    let id := Fp.div b64 pR uMin
    let probe := if st = 1 && s.ship.isl.installed && s.var 0x6102 1 = 1
      then (s.varR 0x6102 2).mul (s.chip (s.fld .LT_COUNT)) else .zero
    let ir := (Fp.div b64 qR uMin).add probe
    if s.var 0x6002 7 = 0 then
      let id := id.clamp iMax.neg iMax
      let m := root iMax id
      (id, ir.clamp m.neg m, .zero)
    else
      let ir := ir.clamp iMax.neg iMax
      let m := root iMax ir
      (id.clamp m.neg m, ir, .zero)
  else (.zero, .zero, .zero)

/-! ### States -/

/-- Its counts and timers start anew (11 R290). -/
def GridSt.clear (g : GridSt) : GridSt := { g with
  cmd := none, lvTimer := none, hvTimer := none, cLvIn := 0, cLvOut := 0, cHvIn := 0, cHvOut := 0, cMcOut := 0,
  cLvTrip := 0, cHvTrip := 0, cSat := 0, crossed := false }

/-- A waiting command acts (11 Table 11-2): 0 to SYNC, 1 RUN from SYNC with P_R 0, 2 SYNC from TRIPPED, which only command 2
leaves. -/
def GridSt.command (g : GridSt) : GridSt :=
  match g.cmd with
  | some 0 => if g.st = 6 then { g with cmd := none } else { g.clear with st := 0 }
  | some 1 => if g.st = 0 then { g.clear with st := 1, pR := 0 } else { g with cmd := none }
  | some 2 => if g.st = 6 then { g.clear with st := 0 } else { g with cmd := none }
  | _ => g

/-- The last point's time of a curve, in ms. -/
def State.curveEnd (s : State) (idx : Nat) : Nat := (s.curvePoint idx (s.var idx 1 - 1)).1

/-- The counts and timers of a run (11 R284, R290, R292); `hold` and `sat` are the PLL's. -/
def State.gridCount (s : State) (g : GridSt) (u1 uLv uHv : Fp) (hold sat : Bool) : GridSt :=
  let n := s.var 0x6006 5
  let cLvIn := cnt (uLv.lt (s.varR 0x6006 1)) g.cLvIn
  let cHvIn := cnt ((s.varR 0x6006 3).lt uHv) g.cHvIn
  let cHvOut := cnt (uHv.le (s.varR 0x6006 4)) g.cHvOut
  let live := g.st = 1 || g.st = 2 || g.st = 4 || g.st = 5
  let lvT := match g.lvTimer with
    | some k => some (k + 1)
    | none => if live && n ≤ cLvIn then some n else none
  let hvT := match g.hvTimer with
    | some k => if g.st != 3 && n ≤ cHvOut then none else some (k + 1)
    | none => if (live || g.st = 3) && n ≤ cHvIn then some n else none
  let below := match lvT with
    | some k => uLv.lt (boundary g.lvCurve (s.curveEnd 0x6007) (s.runsTime k))
    | none => false
  let above := match hvT with
    | some k => (boundary g.hvCurve (s.curveEnd 0x6008) (s.runsTime k)).lt uHv
    | none => false
  { g with
    hold := hold, cLvIn := cLvIn, cHvIn := cHvIn, cHvOut := cHvOut,
    cLvOut := cnt ((s.varR 0x6006 2).le uLv) g.cLvOut, cMcOut := cnt ((s.varR 0x6006 0xC).le u1) g.cMcOut,
    lvTimer := lvT, hvTimer := hvT, cLvTrip := cnt below g.cLvTrip, cHvTrip := cnt above g.cHvTrip,
    cSat := cnt (sat && (g.st = 1 || g.st = 2 || g.st = 3 || g.st = 5)) g.cSat }

/-- The trip code of a run, 0 for none (11 R284, R292). -/
def State.gridTrip (s : State) (g : GridSt) : Nat :=
  let n := s.var 0x6006 5
  if g.st = 0 ∨ g.st = 6 then 0
  else if s.var 0x6006 0xE = 1 && n ≤ g.cLvTrip then 0x0601
  else if s.var 0x6006 0xE = 1 && n ≤ g.cHvTrip then 0x0602
  else if 0 < g.cSat && (fpFrac 1 10).le (s.runsTime g.cSat) then 0x0603
  else 0

/-- The state at the end of a run that does not trip (11 Table 11-2). -/
def State.gridNext (s : State) (g : GridSt) (u1 : Fp) (atTarget : Bool) : Nat :=
  let n := s.var 0x6006 5
  let mc := s.var 0x6006 0xA = 1 && u1.lt (s.varR 0x6006 0xB)
  match g.st with
  | 1 => if mc then 4 else if n ≤ g.cLvIn then 2 else if n ≤ g.cHvIn then 3 else 1
  | 2 => if mc then 4 else if n ≤ g.cLvOut then (if n ≤ g.cHvIn then 3 else 5) else 2
  | 3 => if n ≤ g.cHvOut then 5 else 3
  | 4 => if n ≤ g.cMcOut then 2 else 4
  | 5 => if mc then 4 else if n ≤ g.cLvIn then 2 else if n ≤ g.cHvIn then 3 else if atTarget then 1 else 5
  | st => st

/-! ### Controllers and duties (11 R286, R287) -/

/-- The negative-sequence references of a run (11 R285): the magnitude I2, 90° ahead of the negative-sequence voltage. -/
def negRefs (x : Sensed) (i2 : Fp) : Fp × Fp :=
  let m := Fp.sqrt b64 ((x.d2.mul x.d2).add (x.q2.mul x.q2))
  if m.eqv .zero then (.zero, .zero) else (Fp.div b64 (i2.mul x.q2) m, (Fp.div b64 (i2.mul x.d2) m).neg)

/-- One axis of the harmonic bank (11 R286), its states at `i` of `res`: the sum of the enabled outputs and the states. A harmonic
whose mask bit is clear takes zero and its output is gated off. -/
def State.harmonicAxis (s : State) (res : List Nat) (i : Nat) (e w : Fp) : Fp × List Nat :=
  let ts := s.lessonSeconds
  (List.range 24).foldl (fun (a : Fp × List Nat) j =>
    let on := (s.var 0x6003 1).testBit j
    let h := Fp.ofInt (2 * j + 3 : Nat)
    let lead := ((h.mul s.wNom).mul (fpFrac 3 2)).mul ts
    let k := i + 4 * j
    let r := prOf ((s.varR 0x6003 2).mul (s.varR 0x6003 (0x10 + j))) h (.ofInt 5) lead.cos lead.sin ts
      (at64 res k) (at64 res (k + 1)) (if on then e else .zero) w
    (if on then a.1.add r.1 else a.1, a.2 ++ [r.2.1.bits64, r.2.2.bits64])) (.zero, [])

/-- Two lists of pairs, by turns. -/
def interleave : List Nat → List Nat → List Nat
  | a :: b :: l, c :: d :: r => a :: b :: c :: d :: interleave l r
  | _, _ => []

/-- The voltage reference αβ of a run and the controllers after it (11 R286, R287). In SYNC and TRIPPED it is the measured voltage
alone, with every integrator and the bank at 0. -/
def State.gridVoltage (s : State) (n : Nat) (c : GridCtl) (x : Sensed) (quiet : Bool) (id ir i2 : Fp) : Fp × Fp × GridCtl :=
  let ts := s.lessonSeconds
  let sub (k : Nat) : Fp := (s.subValue n k).1
  let cur := clarkeOf (sub 0) (sub 1) (sub 2)
  let si := x.theta.sin
  let co := x.theta.cos
  let lam := s.filterStep (Fp.div b64 (Fp.sqrt b64 fpTwo) s.wNom)
  let m := ddsrfOf lam cur.1 cur.2 si co (at64 c.seqI 0) (at64 c.seqI 1) (at64 c.seqI 2) (at64 c.seqI 3)
  let i (k : Nat) : Fp := m.1.getD k .nan
  let wl := x.w.mul (s.varR 0x6002 5)
  let lim := (fpFrac 3 2).mul s.uBase
  let rd := id.mul s.iBase
  let rq := (ir.mul s.iBase).neg
  let r2 := negRefs x (i2.mul s.iBase)
  let pi (kp ki : Nat) (k : Nat) (e ff : Fp) : Fp × Fp × Bool :=
    piOf (s.varR 0x6002 kp) ((s.varR 0x6002 ki).mul ts) lim.neg lim .zero (at64 c.ints k) e ff
  let vd := pi 1 2 0 (rd.sub (i 0)) (x.d1.sub (wl.mul (i 1)))
  let vq := pi 1 2 1 (rq.sub (i 1)) (x.q1.add (wl.mul (i 0)))
  let wd := pi 3 4 2 (r2.1.sub (i 2)) (x.d2.add (wl.mul (i 3)))
  let wq := pi 3 4 3 (r2.2.sub (i 3)) (x.q2.sub (wl.mul (i 2)))
  let ref (p : Fp × Fp × Bool) (v : Fp) : Fp := if quiet then v else p.1
  let out := (x.theta.add (((fpFrac 3 2).mul x.w).mul ts)).wrap
  let a := iparkOf (ref vd x.d1) (ref vq x.q1) out.sin out.cos
  let b := iparkOf (ref wd x.d2) (ref wq x.q2) out.sin.neg out.cos
  let ra := iparkOf rd rq si co
  let rb := iparkOf r2.1 r2.2 si.neg co
  let ha := s.harmonicAxis c.res 0 ((ra.1.add rb.1).sub cur.1) x.w
  let hb := s.harmonicAxis c.res 2 ((ra.2.add rb.2).sub cur.2) x.w
  let sum (p q h : Fp) : Fp := if quiet then p.add q else (p.add q).add h
  (sum a.1 b.1 ha.1, sum a.2 b.2 hb.1,
    { c with
      seqI := m.2.map Fp.bits64
      ints := if quiet then [0, 0, 0, 0] else [vd.2.1, vq.2.1, wd.2.1, wq.2.1].map Fp.bits64
      res := if quiet then List.replicate 96 0 else interleave ha.2 hb.2 })

/-- The six duties of a voltage reference (11 R287), outer and inner of phases a, b and c. -/
def State.gridDuties (s : State) (va vb vp vn id : Fp) : List Fp :=
  let dc := vp.add vn
  let r := circleOf 0 va vb (Fp.div b64 ((s.varR 0x6002 8).mul dc) (Fp.sqrt b64 fpThree))
  let half := Fp.div b64 r.1 fpTwo
  let root := Fp.div b64 ((Fp.sqrt b64 fpThree).mul r.2) fpTwo
  let ph := [r.1, root.sub half, (root.add half).neg]
  let hi := ph.foldl Fp.max r.1
  let lo := ph.foldl Fp.min r.1
  let zero := (Fp.div b64 (hi.add lo) fpTwo).neg
  let sign : Fp := if Fp.zero.lt id then .ofInt 1 else if id.lt .zero then .ofInt (-1) else .zero
  let o := (((s.varR 0x6002 9).mul (vp.sub vn)).mul sign).neg
  ph.flatMap (fun v =>
    let m := ((Fp.div b64 (fpTwo.mul (v.add zero)) dc).add o).clamp (.ofInt (-1)) (.ofInt 1)
    [m.max .zero, (m.min .zero).add (.ofInt 1)])

/-! ### The run -/

/-- The information events of a run (11 R292, R293, Table 11-4) from state `was` to that of `g`; a crossing with trip disabled is
reported once in each ride-through. -/
def State.gridEvents (s : State) (n : Nat) (was g : GridSt) (u1 uLv uHv : Fp) : State :=
  let lv := some uLv.bits32
  let hv := some uHv.bits32
  let s := s.when (g.hold && !was.hold) (fun s => s.shipEvt n 0x0615 none)
  let s := s.when was.applied (fun s => s.shipEvt n 0x0616 none)
  let s := s.when (was.st = 4 && g.st != 4) (fun s => s.shipEvt n 0x0614 (some u1.bits32))
  let s := s.when (g.st = 4 && was.st != 4) (fun s => s.shipEvt n 0x0613 (some u1.bits32))
  let s := s.when (g.st = 2 && was.st != 2 && was.st != 4) (fun s => s.shipEvt n 0x0610 lv)
  let s := s.when (g.st = 3 && was.st != 3) (fun s => s.shipEvt n 0x0611 hv)
  let s := s.when (g.st = 5 && was.st = 2) (fun s => s.shipEvt n 0x0612 lv)
  let s := s.when (g.st = 5 && was.st = 3) (fun s => s.shipEvt n 0x0612 hv)
  let s := s.when (g.crossed && !was.crossed) (fun s =>
    s.shipEvt n 0x0617 (if s.var 0x6006 5 ≤ g.cLvTrip then lv else hv))
  s.when (g.st = 6 && was.st != 6) (fun s => s.shipEvt n g.trip none true)

/-- One complete run of the grid Timetable on engine `n` (11). -/
def State.gridRun (s : State) (n : Nat) : State :=
  let g := s.ship.grid.command
  let x := s.sense n g.lock g.hold
  let vp := (s.subValue n 6).1
  let vn := (s.subValue n 7).1
  let seq := s.var 0x6001 8 = 1
  let uLv := if seq then x.u1.sub x.u2 else x.u1
  let uHv := if seq then x.u1.add x.u2 else x.u1
  let was := { g with hold := s.ship.grid.hold }
  let g := s.gridCount g x.u1 uLv uHv x.hold x.sat
  let dc := piOf (s.varR 0x6004 4) ((s.varR 0x6004 5).mul s.lessonSeconds) (fpFrac 6 5).neg (fpFrac 6 5) .zero
    (.of64 g.ctl.dc) ((vp.add vn).sub (s.varR 0x6004 3)) .zero
  let p := s.powerChain g x.u1 x.f dc.1
  let trip := s.gridTrip g
  let st := if trip = 0 then s.gridNext g x.u1 p.2.2.2 else 6
  let enters := (st = 2 || st = 3) && st != g.st && g.st != 4
  let idE := if enters then g.id else g.idEntry
  let irE := if enters then g.ir else g.irEntry
  let frozen := g.st = 2 || g.st = 3 || g.st = 4
  let old := Fp.of32 g.uPre
  let uPre := if frozen then old else old.add ((s.filterStep (s.varR 0x6006 0xD)).mul (x.u1.sub old))
  let pR := if st = 5 && g.st != 5 then x.u1.mul (.of64 g.id) else p.1
  let (id, ir, i2) := s.allocate st (.of64 idE) (.of64 irE) x.u1 x.u2 uPre pR p.2.1
  let v := s.gridVoltage n g.ctl x (st = 0 || st = 6) id ir i2
  let duties := s.gridDuties v.1 v.2.1 vp vn id
  let time (t : Option Nat) : Fp := match t with | some k => s.runsTime k | none => .zero
  let leaves := (st = 5 || st = 1 || st = 0 || st = 6) && st != g.st
  let tripping := s.var 0x6006 5 ≤ g.cLvTrip || s.var 0x6006 5 ≤ g.cHvTrip
  let g := { g with
    st := st, trip := if trip = 0 then g.trip else trip, id := id.bits64, ir := ir.bits64, i2 := i2.bits64,
    idEntry := idE, irEntry := irE, pR := pR.bits64, qR := p.2.1.bits64, pM := p.2.2.1, uPre := uPre.bits32,
    lvTimer := if leaves then none else g.lvTimer
    hvTimer := if leaves then none else g.hvTimer
    lock := x.lock
    ctl := { v.2.2 with dc := if s.var 0x6004 1 = 1 then dc.2.1.bits64 else g.ctl.dc }
    duties := duties.map Fp.bits32
    crossed := !leaves && (g.crossed || (s.var 0x6006 0xE = 0 && tripping))
    applied := false
    published := [x.u1, x.u2, x.f, x.theta, x.u1.mul id, x.u1.mul ir, id, ir, i2, uPre, time g.lvTimer, time g.hvTimer,
      vp.add vn, vp.sub vn].map Fp.bits32 }
  let s := s.gridEvents n was g x.u1 uLv uHv
  let s := s.each (List.range 6) (fun s k => s.shipDuty n (s.var 0x6000 2 + k) (duties.getD k .nan))
  { s with ship := { s.ship with grid := g } }

end Sys2Proof.Machine
end

