-- ==== Sys2Proof/Machine/Islanding.lean ====
section
/-!
DEFINITION. A run of the islanding Timetable as shipped (12 R298 to R306): its own sequences and PLL, the passive stages, the windows
of the probing code and the trips.
-/
namespace Sys2Proof.Machine

/-- π / 180. -/
def radPerDegree : Fp := roundTo b64 false twoPi256 360 (-256)

/-- The conditions of the passive stages 0 to 7 (12 Table 12-1) and their times. -/
def State.islStages (s : State) (uLv uHv f r e : Fp) (hold young : Bool) : List (Bool × Fp) :=
  let fN := s.varR 0x6001 3
  let v := s.varR 0x6101
  [ (uLv.lt (v 1), v 2), (uLv.lt (v 3), v 4), ((v 5).lt uHv, v 6), ((v 7).lt uHv, v 8),
    (!hold && f.lt (fN.sub (v 9)), v 0xA), (!hold && (fN.add (v 0xB)).lt f, v 0xC),
    (!hold && (v 0xE).lt r.abs, v 0x10), (!hold && !young && ((v 0x12).mul radPerDegree).lt e.abs, .zero) ]

/-- A window that ends at this run (12 R306): z and its validity; the window that follows. A discarded one changes neither. -/
def State.windowEnd (s : State) (p : IslSt) (count len : Nat) : IslSt :=
  let sum (i : Nat) : Fp := .of64 (p.sums.getD i 0)
  let n := Fp.ofInt p.n
  let ncu := (sum 3).sub (Fp.div b64 ((sum 0).mul (sum 1)) n)
  let nci := (sum 4).sub (Fp.div b64 ((sum 0).mul (sum 2)) n)
  let ip := if s.var 0x6102 1 = 1 then s.varR 0x6102 2 else .zero
  let valid := (((fpFrac 1 2).mul ip).mul n).le nci.abs
  let z := Fp.div b64 ncu nci
  let fresh : IslSt → IslSt := fun p => { p with
    start := some (count + 1), discard := false, n := 0, sums := [0, 0, 0, 0, 0], windows := p.windows + 1 }
  if p.discard || len = 0 then fresh p
  else if valid then fresh { p with valid := true, lost := false, z := z.bits32, conf := cnt ((s.varR 0x6102 5).lt z) p.conf }
  else fresh { p with valid := false, lost := p.lost || p.valid, conf := 0 }

/-- A waiting command acts (12 R301): 0 disarms from ARMED, 1 arms from DISARMED, 2 clears a trip. -/
def IslSt.command (p : IslSt) : IslSt :=
  match p.cmd with
  | some 0 => { p with cmd := none, st := if p.st = 1 then 0 else p.st }
  | some 1 => { p with cmd := none, st := if p.st = 0 then 1 else p.st }
  | some 2 => { p with cmd := none, st := if p.st = 2 then 0 else p.st }
  | _ => p

/-- The events of a run (12 R301, R306, Table 12-4). -/
def State.islEvents (s : State) (n : Nat) (was p : IslSt) : State :=
  let armed (k : Nat) : Bool := k == 1
  let s := s.when (armed p.st && was.st = 0) (fun s => s.shipEvt n 0x0630 none)
  let s := s.when (p.st = 0 && was.st != 0) (fun s => s.shipEvt n 0x0631 none)
  let s := s.when (p.lost && !was.lost) (fun s => s.shipEvt n 0x0632 none)
  s.when (was.lost && !p.lost) (fun s => s.shipEvt n 0x0633 none)

/-- The window sums of a run (12 R306), with the chip that acted in its period, and the window's end where this run completes it. A
wrap of LT_COUNT since the window's start discards it. -/
def State.islWindow (s : State) (p : IslSt) (u ir : Fp) : IslSt :=
  let count := s.fld .LT_COUNT
  let len := s.var 0x6102 4 * s.var 0x6102 3
  let wrap := match p.start with
    | some k => decide (count < k)
    | none => false
  let p := if wrap then { p with start := some 0, discard := true } else p
  let start := p.start.getD count
  let c := s.chip (count + 2 ^ 32 - 1)
  let add (i : Nat) (x : Fp) : Nat := ((Fp.of64 (p.sums.getD i 0)).add x).bits64
  let p := { p with
    start := some start, n := p.n + 1, sums := [add 0 c, add 1 u, add 2 ir, add 3 (c.mul u), add 4 (c.mul ir)] }
  if start + len ≤ count + 1 then s.windowEnd p count len else p

/-- One complete run of the islanding Timetable on engine `n` (12 R299 to R306). The rate of change of frequency passes through a
first-order filter with T_ROC; IR and u stand in the frame of its own PLL. -/
def State.islRun (s : State) (n : Nat) : State :=
  let was := s.ship.isl
  let p := was.command
  let x := s.sense n p.lock p.hold
  let cur := clarkeOf (s.subValue n 0).1 (s.subValue n 1).1 (s.subValue n 2).1
  let iq := (parkOf cur.1 cur.2 x.theta.sin x.theta.cos).2
  let ir := Fp.div b64 iq.neg s.iBase
  let u := Fp.div b64 x.d1 s.uBase
  let df := match p.freq with
    | some k => Fp.div b64 (x.f.sub (.of32 k)) s.lessonSeconds
    | none => .zero
  let r0 := Fp.of64 p.roc
  let r := r0.add ((s.filterStep (s.varR 0x6101 0xF)).mul (df.sub r0))
  let uLv := x.u1.sub x.u2
  let uHv := x.u1.add x.u2
  let since := if x.hold then some 0 else p.sinceHold.map (· + 1)
  let young := match since with
    | some k => (s.runsTime k).lt (.ofInt 1)
    | none => false
  let stages := s.islStages uLv uHv x.f r x.e x.hold young
  let on := s.var 0x6101 0x13
  let counts := (List.range 8).map (fun i =>
    cnt (on.testBit i && (stages.getD i (false, .zero)).1) (p.counts.getD i 0))
  let p := s.islWindow p u ir
  let act := on.testBit 8 && s.var 0x6102 6 ≤ p.conf
  let due := (List.range 8).filter (fun i =>
    0 < counts.getD i 0 && ((stages.getD i (false, .zero)).2).le (s.runsTime (counts.getD i 0)))
  let code := match due with
    | i :: _ => some (0x0620 + i)
    | [] => if act then some 0x0628 else none
  let deg := Fp.div b64 x.e.abs radPerDegree
  let p := { p with
    counts := counts, hold := x.hold, sinceHold := since, lock := x.lock, roc := r.bits64, freq := some x.f.bits32
    rocof := r.bits32, uLv := uLv.bits32, uHv := uHv.bits32, maxErr := ((Fp.of32 p.maxErr).max deg).bits32 }
  let s := s.islEvents n was p
  match p.st, code with
  | 1, some k =>
    let s := s.shipEvt n k none true
    { s with ship := { s.ship with isl := { p with st := 2, trip := k } } }
  | _, _ => { s with ship := { s.ship with isl := p } }

end Sys2Proof.Machine
end

