-- ==== Sys2Proof/Machine/Mppt.lean ====
section
/-!
DEFINITION. A run of the MPPT Timetable as shipped (12 R308 to R312): the voltage loops, the trackers and the I-V trace.
-/
namespace Sys2Proof.Machine

/-! ### The trackers -/

/-- The limits V_LO and V_HI of a tracker (12 R311). -/
def State.vLimits (s : State) (t : Tracker) (vdc : Fp) : Fp × Fp :=
  ((s.varR 0x6201 6).max (((Fp.ofInt 1).sub (s.varR 0x6201 8)).mul vdc), (s.varR 0x6201 7).min (.of64 t.voc))

/-- An update of a tracker in TRACK, LIMIT or TRACE (12 R310, R311) for input `i`; in TRACE only the last values and the clamp. -/
def State.trackerUpdate (s : State) (i : Nat) (t : Tracker) (vdc : Fp) : Tracker :=
  let n := Fp.ofInt t.n
  let vBar := Fp.div b64 (.of64 t.sumV) n
  let p := Fp.div b64 (.of64 t.sumP) n
  let dp := p.sub (.of64 t.pLast)
  let dv := vBar.sub (.of64 t.vLast)
  let pLim := s.varR (0x6210 + i) 1
  let vdcLim := s.varR 0x6201 9
  let pDb := s.varR 0x6201 5
  let sMin := s.varR 0x6201 2
  let sMax := s.varR 0x6201 3
  let beyond := pLim.lt p || vdcLim.lt vdc
  let vRef := Fp.of64 t.vRef
  let t := if t.st = 2 && beyond then { t with st := 3, vEntry := t.vRef } else t
  let (vRef, t) :=
    if t.st = 2 then
      let turn := !dp.abs.le pDb && dp.lt .zero
      let step := if dp.abs.le pDb || dv.abs.lt (fpFrac 1 1000) then sMin
        else ((s.varR 0x6201 4).mul (Fp.div b64 dp dv).abs).clamp sMin sMax
      let down := t.down != turn
      (if down then vRef.sub step else vRef.add step, { t with step := step.bits64, down := down })
    else if t.st != 3 then (vRef, t)
    else if beyond then (vRef.add sMax, t)
    else if p.lt (pLim.sub pDb) && vdc.lt (vdcLim.sub (s.varR 0x6201 0xA)) then
      let v := vRef.sub sMin
      if v.le (.of64 t.vEntry) then (.of64 t.vEntry, { t with st := 2 }) else (v, t)
    else (vRef, t)
  let (lo, hi) := s.vLimits t vdc
  { t with
    vRef := (vRef.clamp lo hi).bits64, pLast := p.bits64, vLast := vBar.bits64, n := 0, sumV := 0, sumI := 0, sumP := 0 }

/-- START measures Voc and ends in TRACK after T_START (12 Table 12-2). What TRACK starts with as its last update and its
direction is free. -/
def State.trackerStart (s : State) (t : Tracker) (v : Fp) : Tracker × State :=
  let last := (v.bits64 :: t.last).take 16
  let runs := t.runs + 1
  if (s.varR 0x6201 0xB).le (s.runsTime runs) then
    let sum := last.foldl (fun a b => a.add (.of64 b)) Fp.zero
    let voc := Fp.div b64 sum (.ofInt last.length)
    let (p0, s) := s.freeR
    let (v0, s) := s.freeR
    let (d, s) := s.fresh 1
    ({ t with st := 2, voc := voc.bits64, vRef := ((s.varR 0x6201 1).mul voc).bits64, pLast := p0.bits64,
              vLast := v0.bits64, down := d = 1, n := 0, sumV := 0, sumI := 0, sumP := 0, runs := 0, last := [] }, s)
  else ({ t with runs := runs, last := last }, s)

/-! ### The trace -/

/-- The whole part of `x` / `d`. -/
def floorOver (x : Fp) (d : Nat) : Nat :=
  match x with
  | .fin false m e => if 0 ≤ e then m * pow2 e / d else m / (pow2 (-e) * d)
  | _ => 0

/-- TR_DIV (12 R312): TRACE_T is in ms, and a lesson period of `P` ticks lasts P / 640 000 ms. -/
def State.trDiv (s : State) : Nat := max 1 (floorOver ((Fp.ofInt 3000).mulExact (s.varR 0x6201 0xE)) s.nominalPeriod)

/-- The length of a leg of a trace, in seconds (12 R312). -/
def State.legTime (s : State) (leg : Nat) : Fp :=
  let l2 := s.runsTime (128 * s.trDiv)
  if leg = 2 then l2 else Fp.div b64 ((Fp.div b64 (s.varR 0x6201 0xE) (.ofInt 1000)).sub l2) fpTwo

/-- A point of leg 2 is complete at the END of the last of its TR_DIV runs (12 R312): its mean voltage and current are queued. -/
def State.tracePoint (s : State) (n : Nat) (c : Trace) : Trace × State :=
  let div := s.trDiv
  if c.leg != 2 || c.runs % div != 0 || c.runs = 0 || 128 * div < c.runs then (c, s)
  else
    let mean (x : Nat) : Nat := (Fp.div b64 (.of64 x) (.ofInt div)).bits32
    let s := s.shipEvt n (0x0680 + 2 * c.input) (some (mean c.sumV))
    ({ c with sumV := 0, sumI := 0 }, s.shipEvt n (0x0681 + 2 * c.input) (some (mean c.sumI)))

/-- An input number as the VALUE of an event (12 R310). -/
def inputValue (i : Nat) : Option Nat := some (Fp.ofInt i).bits32

/-- The trace that runs, or none. -/
def State.setTrace (s : State) (c : Option Trace) : State :=
  { s with ship := { s.ship with mppt := { s.ship.mppt with trace := c } } }

/-- One run of a trace (12 Table 12-3): v_ref moves along the leg, a point may be complete, and the leg or the trace ends; with v_dc
above VDC_LIM it is abandoned for LIMIT (Table 12-4a). -/
def State.traceRun (s : State) (n : Nat) (c : Trace) (t : Tracker) (v cur vdc : Fp) : Tracker × State :=
  if (s.varR 0x6201 9).lt vdc then
    let s := (s.shipEvt n 0x0672 (inputValue c.input)).shipEvt n 0x0661 (inputValue c.input)
    ({ t with st := 3, vEntry := t.vRef }, s.setTrace none)
  else
    let (lo, hi) := s.vLimits t vdc
    let goal := if c.leg = 1 then lo else if c.leg = 2 then hi else .of64 c.vStart
    let len := s.legTime c.leg
    let at' := s.runsTime (c.runs + 1)
    let ref := (Fp.of64 c.vFrom).add ((goal.sub (.of64 c.vFrom)).mul ((Fp.div b64 at' len).min (.ofInt 1)))
    let c := { c with runs := c.runs + 1, sumV := ((Fp.of64 c.sumV).add v).bits64, sumI := ((Fp.of64 c.sumI).add cur).bits64 }
    let (c, s) := s.tracePoint n c
    let done := len.le at' || (c.leg = 2 && cur.le (s.varR 0x6201 0xF))
    let t := { t with vRef := ref.bits64 }
    if !done then (t, s.setTrace (some c))
    else if c.leg = 3 then ({ t with st := 2 }, (s.shipEvt n 0x0671 (inputValue c.input)).setTrace none)
    else (t, s.setTrace (some { c with leg := c.leg + 1, runs := 0, vFrom := ref.bits64, sumV := 0, sumI := 0 }))

/-! ### The run -/

/-- The voltage loop of an input (12 R308): its duty and the tracker with its integrator. In OFF and START the duty is 0 and the loop
does not run. -/
def State.voltageLoop (s : State) (t : Tracker) (v vdc : Fp) : Fp × Tracker :=
  if t.st < 2 then (.zero, t)
  else
    let dMax := s.varR 0x6201 8
    let r := piOf (s.varR 0x6201 0xC) ((s.varR 0x6201 0xD).mul s.lessonSeconds) dMax.neg dMax .zero (.of64 t.integ)
      (v.sub (.of64 t.vRef)) .zero
    ((((Fp.ofInt 1).sub (Fp.div b64 v vdc)).add r.1).clamp .zero dMax, { t with integ := r.2.1.bits64 })

/-- The events of a tracker's change between TRACK and LIMIT at an update or at the end of START (12 R310, Table 12-4). -/
def State.trackerEvents (s : State) (n i was now : Nat) : State :=
  let s := s.when (was = 1 && now = 2) (fun s => s.shipEvt n 0x0660 (inputValue i))
  let s := s.when (was = 2 && now = 3) (fun s => s.shipEvt n 0x0661 (inputValue i))
  s.when (was = 3 && now = 2) (fun s => s.shipEvt n 0x0662 (inputValue i))

/-- Tracker `i` as a run leaves it. -/
def State.putTracker (s : State) (i : Nat) (t : Tracker) : State :=
  { s with ship := { s.ship with mppt := { s.ship.mppt with trackers := s.ship.mppt.trackers.set i t } } }

/-- A run's voltage and current enter the sums of the update. -/
def Tracker.gather (t : Tracker) (v cur : Fp) : Tracker :=
  let add (a : Nat) (x : Fp) : Nat := ((Fp.of64 a).add x).bits64
  { t with n := t.n + 1, sumV := add t.sumV v, sumI := add t.sumI cur, sumP := add t.sumP (v.mul cur) }

/-- What a run does with tracker `i` before its voltage loop: START, else the sums, the update that is due and its events, and the
trace. -/
def State.trackerMove (s : State) (n i : Nat) (t : Tracker) (v cur vdc : Fp) : Tracker × State :=
  if t.st = 1 then
    let r := s.trackerStart t v
    (r.1, r.2.trackerEvents n i 1 r.1.st)
  else if t.st < 2 then (t, s)
  else
    let u := t.gather v cur
    let u := if s.fld .LT_COUNT % max 1 (s.var 0x6200 4) = 0 then s.trackerUpdate i u vdc else u
    let s := s.trackerEvents n i t.st u.st
    if t.st != 4 then (u, s)
    else match s.ship.mppt.trace with
      | some c => s.traceRun n c u v cur vdc
      | none => ({ u with st := 2 }, s)

/-- One complete run of tracker `i` on engine `n`. -/
def State.trackerRun (s : State) (n i : Nat) : State :=
  let v := (s.subValue n (2 * i)).1
  let vdc := (s.subValue n 24).1
  let r := s.trackerMove n i (s.ship.mppt.trackers.getD i {}) v (s.subValue n (2 * i + 1)).1 vdc
  let d := r.2.voltageLoop r.1 v vdc
  (r.2.shipDuty n (r.2.var 0x6200 2 + i) d.1).putTracker i d.2

/-- A trace that has been asked for opens (12 R312). -/
def State.traceStart (s : State) (n : Nat) : State :=
  match s.ship.mppt.ask with
  | some i =>
    let t : Tracker := s.ship.mppt.trackers.getD i {}
    let s := { s with ship := { s.ship with mppt := { s.ship.mppt with ask := none } } }
    if t.st != 2 then s
    else
      let s := s.shipEvt n 0x0670 (inputValue i)
      { s with ship := { s.ship with mppt := { s.ship.mppt with
        trackers := s.ship.mppt.trackers.set i { t with st := 4 }
        trace := some { input := i, vStart := t.vRef, vFrom := t.vRef } } } }
  | none => s

/-- One complete run of the MPPT Timetable (12 R308 to R312): every input the variant has. -/
def State.mpptRun (s : State) (n : Nat) : State :=
  (s.traceStart n).each (List.range (min 12 (s.fld .FUSE_RES_MPPT_CNT))) (fun s i => s.trackerRun n i)

end Sys2Proof.Machine
end

