-- ==== Sys2Proof/Machine/Shipped.lean ====
section
/-!
DEFINITION. The Timetables as shipped (11, 12) at the END of a run, their commands and their RW entries, and what the APPLY Bell of
their groups does. END stands here.
-/
namespace Sys2Proof.Machine

/-! ### Runs, commands and writes -/

/-- The shipped Timetables as the run of engine `n` completes: what they compute, and the stores and events their own STPD and EVT
have not made. -/
def State.shippedRun (s : State) (n : Nat) : State :=
  let s := s.when (s.ship.grid.installed && s.shippedOn 0x6000 n) (fun s => s.gridRun n)
  let s := s.when (s.ship.isl.installed && s.shippedOn 0x6100 n) (fun s => s.islRun n)
  s.when (s.ship.mppt.installed && s.shippedOn 0x6200 n) (fun s => s.mpptRun n)

/-- A write of an RW entry of a shipped Timetable is a data update (11 R281): made at once, or after the run in progress. -/
def State.rwVar (s : State) (idx sub v : Nat) : State :=
  if (List.range 12).any (fun n => s.running n && s.shippedOn (idx / 256 * 256) n) then
    { s with ship := { s.ship with late := s.ship.late ++ [(idx, sub, v)] } }
  else s.setVar idx sub v

/-- RSP_CFG13 has ACT 1 or 2 and targets that cover the six bridge modules (11 R293). -/
def State.bridgeCovered (s : State) : Bool :=
  let act := s.fld .RSP_CFG_ACT 13
  let t := s.widen (s.fld .RSP_MASK_MASK 13)
  (act = 1 || act = 2) && (List.range 6).all (fun i => t.testBit (s.var 0x6000 2 + i))

/-- A write of a command to 0x6000:03 (11 R290, R293). -/
def State.gridCommand (s : State) (v : Nat) : State :=
  if 2 < v then s.answer 0x06090030
  else if v = 1 && !s.bridgeCovered then s.answer 0x08000022
  else ({ s with ship := { s.ship with grid := { s.ship.grid with cmd := some v } } } : State).setVar 0x6000 3 v |>.answer 0

/-- GRID_COMMAND_SYNC (11 R290). -/
def execGridCommandSync (s : State) : Out := .next (s.gridCommand 0)

/-- GRID_COMMAND_RUN (11 R293). -/
def execGridCommandRun (s : State) : Out := .next (s.gridCommand 1)

/-- GRID_COMMAND_CLEAR_TRIP (11 R290). -/
def execGridCommandClearTrip (s : State) : Out := .next (s.gridCommand 2)

/-- A write of a command to 0x6100:02 (12 R301). -/
def State.islCommand (s : State) (v : Nat) : State :=
  if 2 < v then s.answer 0x06090030
  else if v = 1 && !s.bridgeCovered then s.answer 0x08000022
  else ({ s with ship := { s.ship with isl := { s.ship.isl with cmd := some v } } } : State).setVar 0x6100 2 v |>.answer 0

/-- ISLANDING_DISARM (12 R301). -/
def execIslandingDisarm (s : State) : Out := .next (s.islCommand 0)

/-- ISLANDING_ARM (12 R301). -/
def execIslandingArm (s : State) : Out := .next (s.islCommand 1)

/-- ISLANDING_CLEAR_TRIP (12 R301). -/
def execIslandingClearTrip (s : State) : Out := .next (s.islCommand 2)

/-- A write of an input number to 0x6200:05 (12 R312): refused while another trace runs or the input is not in TRACK. -/
def State.traceRequest (s : State) (input : Nat) : State :=
  let m := s.ship.mppt
  if 11 < input then s.answer 0x06090030
  else if m.trace.isSome || m.ask.isSome || (m.trackers.getD input {}).st != 2 then s.answer 0x08000022
  else ({ s with ship := { s.ship with mppt := { m with ask := some input } } } : State).answer 0

/-- MPPT_TRACE_REQUEST (12 R312). -/
def execMpptTraceRequest (input : Nat) (s : State) : Out := .next (s.traceRequest input)

/-! ### APPLY of their groups -/

/-- The APPLY Bell of the grid group (11 R281, R292): the other bank is in use, with its curves resampled. -/
def State.gridApplied (s : State) : State :=
  let g := s.ship.grid
  { s with ship := { s.ship with grid := { g with
    installed := true, applied := true, bank := !g.bank, lvCurve := resample true (s.curve 0x6007), hvCurve := resample false (s.curve 0x6008) } } }

/-- The APPLY Bell of the islanding group (12 R301, R306): DISARMED, the window is discarded and a new one begins with this period's
run; the count of windows above Z_TH stands. -/
def State.islApplied (s : State) : State :=
  { s with ship := { s.ship with isl := { s.ship.isl with
    installed := true, st := 0, start := some ((s.fld .LT_COUNT)), discard := false, n := 0, sums := [0, 0, 0, 0, 0],
    windows := 0 } } }

/-- The APPLY Bell of the MPPT group (12 R310, Table 12-4a): a trace ends and its input is in TRACK again; inputs newly enabled go to
START, inputs not enabled to OFF. `was` is the enable mask before. -/
def State.mpptApplied (s : State) (was : Nat) : State :=
  let m := s.ship.mppt
  let on := s.var 0x6200 3
  let l := (List.range 12).map (fun i =>
    let t : Tracker := m.trackers.getD i {}
    if !on.testBit i || s.fld .FUSE_RES_MPPT_CNT ≤ i then ({} : Tracker)
    else if t.st = 0 || !was.testBit i then { t with st := 1, runs := 0, last := [] }
    else if t.st = 4 then { t with st := 2 }
    else t)
  { s with ship := { s.ship with mppt := { m with installed := true, trace := none, ask := none, trackers := l } } }

/-- The grid Timetable at a restart of the engine group: SYNC (11 Table 11-2). -/
def State.gridSync (s : State) : State :=
  { s with ship := { s.ship with grid := { s.ship.grid.clear with st := 0 } } }

/-! ### END -/

/-- The events of a complete run are queued, with the entries they run, and a fault an EVT asked for (10 R266, R267, R269). -/
def State.endEvents (s : State) (n : Nat) (e : Engine) : State :=
  let s := s.each e.events (fun s v =>
    let s := s.engEvent v.1 n 0 v.2.1 v.2.2.1 v.2.2.2 e.tk
    s.when (v.1 == 0x53) (fun s => s.runEntry 12 (s.fld .RSP_MASK_MASK 12)))
  match e.evtFault with
  | some pc => s.faultReport n 4 pc
  | none => s

/-- END (10 R260, R263 to R267): a shipped Timetable has done its run, the stores are complete, the events are queued, the run ends and held writes follow. -/
def execEndRun (n : Nat) (s : State) : Out :=
  .next (if s.engineActs n then
    let s := s.shippedRun n
    let e := s.engine n
    let cycles := e.cycles + 2
    let s := s.markStaged n
    let s := ((s.setFld .LE_FLAGS_FLAGS n e.flags).setFld .LE_FLAGS_PC n e.pc).setFld .LE_STAT_OVRCONS n 0
    let s := s.setFld .LE_TIME_LAST n cycles
    let s := s.setFld .LE_TMAX_MAX n (max (s.fld .LE_TMAX_MAX n) (s.fld .LE_TIME_LAST n))
    let s := s.endEvents n e
    let image := s.snapRange n
    let s := s.modEngine n (fun e => { e with
      complete := true, log := [], events := [], evtFault := none, limited := false, cycles := cycles, image := some image })
    ((s.setFld .LE_STAT_RUNNING n 0).settleHeld n).settleEntering
  else s)

end Sys2Proof.Machine
end

