-- ==== Sys2Proof/Machine/Security.lean ====
section
/-!
DEFINITION. Worlds, secure boot, the security commands, identity and attestation (17).
-/
namespace Sys2Proof.Machine

/-! ### Worlds (17 R410 to R413) -/

/-- A range of Satchel lies in regions of one world. -/
def State.satRangeNs (s : State) (addr n : Nat) : Bool :=
  (List.range (n / 0x10000 + 2)).all (fun k => addr + n ≤ addr / 0x10000 * 0x10000 + k * 0x10000 ||
    s.satNs (addr / 0x10000 * 0x10000 + k * 0x10000))

/-- A range of Satchel lies in Secure regions only. -/
def State.satRangeSecure (s : State) (addr n : Nat) : Bool :=
  (List.range (n / 0x10000 + 2)).all (fun k => addr + n ≤ addr / 0x10000 * 0x10000 + k * 0x10000 ||
    !s.satNs (addr / 0x10000 * 0x10000 + k * 0x10000))

/-- A register of the ports block is Non-secure: a port's registers follow its world, a ring's the ring's (19 R468). -/
def State.portRegNs (s : State) (ofs : Nat) : Bool :=
  if 0x100 ≤ ofs && ofs < 0x180 then s.portNs ((ofs - 0x100) / 0x40)
  else if 0x180 ≤ ofs && ofs < 0x200 then s.portNs (2 + (ofs - 0x180) / 0x40)
  else if 0x200 ≤ ofs && ofs < 0x400 then s.portNs (2 + (ofs - 0x200) / 0x100)
  else if 0x400 ≤ ofs && ofs < 0x500 then s.portNs 4
  else if 0x700 ≤ ofs && ofs < 0x800 then s.blockNs .sar
  else if 0x800 ≤ ofs && ofs < 0xA00 then s.ringNs ((ofs - 0x800) / 0x20)
  else false

/-- The target of a core's access is Non-secure, or, of a read, readable from both worlds (21 Table 21-3, R517). No target stands
outside the regions of the map. -/
def State.targetNs (s : State) (core addr : Nat) (isRead : Bool) : Bool :=
  if 0x11000000 ≤ addr && addr < 0x11080000 then 0x11060000 ≤ addr && s.coreNs (core / 2 * 2 + 1)
  else if 0x20000000 ≤ addr && addr < 0x20400000 then s.satNs addr
  else if 0x4B000000 ≤ addr && addr < 0x4C000000 then s.portRegNs (addr - 0x4B000000)
  else if addr = 0x4C000000 || addr = 0x4C000004 then isRead
  else if 0x4D000000 ≤ addr && addr < 0x4E000000 then isRead
  else if 0x4E000000 ≤ addr && addr < 0x4E001000 then
    !(addr = 0x4E000004 || addr = 0x4E000018 || (0x4E000080 ≤ addr && addr < 0x4E000100)) && s.coreNs core
  else if 0x40000000 ≤ addr && addr < 0x47000000 then
    s.blockNs (match addr / 0x1000000 % 16 with
      | 0 => .pwm | 1 => .gate | 2 => .sar | 3 => .modulator | 4 => .comparator | 5 => .engine | _ => .bursar)
  else !(addr < 0x10000 || (0x10000000 ≤ addr && addr < 0x10100000) || (0x30000000 ≤ addr && addr < 0x30010000)
    || (0x47000000 ≤ addr && addr < 0x4D000000) || (0x50000000 ≤ addr && addr < 0x60000000))

/-- The world of an initiator by its number in SEC_VIOL (17 R410). -/
def State.initiatorNs (s : State) (i : Nat) : Bool :=
  if i < 4 then s.coreNs i
  else if 0x10 ≤ i && i < 0x20 then s.ringNs (i - 0x10)
  else if 0x20 ≤ i && i < 0x2C then s.blockNs .engine
  else if i = 0x30 then s.blockNs .bursar
  else if 0x40 ≤ i && i < 0x45 then s.portNs (i - 0x40)
  else false

/-- WORLD_VIOLATION (17 R412): a Non-secure initiator reaches for a Secure target. The target is not touched; a core takes an
access fault, a ring halts with 0x02 and event 0x0C, a dictionary request ends with abort 0x0601_0000. -/
def execWorldViolation (initiator addr cause : Nat) (s : State) : Out :=
  .next (if !s.initiatorNs initiator || s.targetNs initiator addr (cause == 5) then s else
    let s := s.violation initiator addr
    if initiator < 4 then s.coreFault initiator (if cause = 1 || cause = 5 then cause else 7) addr
    else if 0x10 ≤ initiator && initiator < 0x20 then
      let q := initiator - 0x10
      (s.haltRing q 0x02).event .ports 0x0C 0 q
    else if 0x40 ≤ initiator then { s with dict := { s.dict with lastAbort := 0x06010000 } }
    else s)

/-! ### Fuse commands (17 R414, R415) -/

/-- The current owner key: the newest entry programmed (17 R414). -/
def State.ownerKey (s : State) : Option Nat := s.sec.ownerKeys.getLast?

/-- A command ends at once with a RESULT. -/
def State.secResult (s : State) (r : Nat) : State := s.setFld .SEC_CMDST_RESULT 0 r

/-- A certificate's field (17 Table 17-3). -/
def certField (c : List Nat) (ofs n : Nat) : Nat := ofLe ((c.drop ofs).take n)

/-- A certificate of a kind whose signer's key hashes to the current owner key, whose signature verifies and whose serial is
this device's or 0 (17 Table 17-2). -/
def State.ownerSigned (s : State) (c : List Nat) (kind : Nat) (serial : Bool) : Bool :=
  certField c 0 2 == 1 && certField c 2 1 == kind &&
  (!serial || certField c 4 4 == 0 || certField c 4 4 == s.sec.serial) &&
  s.ownerKey == some (ofLe (sha256 ((c.drop 40).take 32))) &&
  Config.slhVerifies (certField c 40 32) (ofLe (c.take 80)) (certField c 80 7856)

/-- The images now running in an ACTIVE, WARM, READY or COLD Wing (17 Table 17-2). -/
def State.servingImages (s : State) : List Image :=
  let f (w : Wing) (i : Option Image) : List Image :=
    if [WingState.active, .warm, .ready, .cold].contains (s.wing w) then i.toList else []
  f .a s.sec.imageA ++ f .b s.sec.imageB

/-- A command is checked: its RESULT where it is refused, or what it will program (17 Table 17-2). -/
def State.secCheck (s : State) (cmd : Nat) (cert : Option (List Nat)) (target : Nat) : Nat ⊕ Nat :=
  match cmd with
  | 1 =>
    match cert with
    | none => .inl 2
    | some c =>
      if !s.sec.ownerKeys.isEmpty then .inl 4
      else if certField c 0 2 != 1 || certField c 2 1 != 1 then .inl 2
      else .inr (certField c 8 32)
  | 2 =>
    match cert with
    | none => .inl 2
    | some c =>
      if !s.ownerSigned c 2 true then .inl 2
      else if 8 ≤ s.sec.ownerKeys.length then .inl 3
      else .inr (certField c 8 32)
  | 3 =>
    match cert with
    | none => .inl 2
    | some c => if s.ownerSigned c 3 false then .inr 1 else .inl 2
  | 4 => if s.servingImages.all (fun i => target ≤ i.svn) then .inr target else .inl 4
  | _ => .inl 1

/-- A security command (17 R415): discarded with RESULT 7 while one runs, refused while the main supply is bad, and checked;
then it runs until SEC_COMMAND_COMPLETE. `core` is the issuing core, 4 for the dictionary. -/
def State.secCommand (s : State) (core cmd : Nat) (cert : Option (List Nat)) (target : Nat) : State :=
  if s.flag .SEC_CMDST_BUSY then s.secResult 7
  else if !s.flag .CT_STAT_MAIN then s.secResult 5
  else match s.secCheck cmd cert target with
    | .inl r => s.secResult r
    | .inr v => { s.setFld .SEC_CMDST_BUSY 0 1 with sec := { s.sec with running := some (core, cmd, v) } }

/-- A write of a command to SEC_CMD by a core: the certificate lies at SEC_CMDA, in a Secure region. -/
def State.secCmdWrite (s : State) (core cmd : Nat) : State :=
  let a := s.fld .SEC_CMDA
  if cmd = 4 then s.secCommand core cmd none (a % 256)
  else if cmd = 0 || 4 < cmd then s.secCommand core cmd none 0
  else if s.flag .SEC_CMDST_BUSY then s.secResult 7
  else if !s.flag .CT_STAT_MAIN then s.secResult 5
  else if !s.satRangeSecure a 7936 then s.secResult 6
  else s.secCommand core cmd (s.satRead a 7936) 0

/-- A core writes a command to SEC_CMD. -/
def State.secCmdBy (s : State) (core cmd : Nat) : State :=
  s.accessBlk core .security 0x4A00001C (fun s => s.secCmdWrite core cmd)

/-- ENROL (17 R415). -/
def execEnrol (core : Nat) (s : State) : Out := .next (s.secCmdBy core 1)
/-- TRANSFER (17 R415). -/
def execTransfer (core : Nat) (s : State) : Out := .next (s.secCmdBy core 2)
/-- VENDOR_OFF (17 R415). -/
def execVendorOff (core : Nat) (s : State) : Out := .next (s.secCmdBy core 3)
/-- ADVANCE (17 R415). -/
def execAdvance (core : Nat) (s : State) : Out := .next (s.secCmdBy core 4)

/-- SEC_COMMAND_COMPLETE (17 R415): the fuses are programmed, RESULT 0, event 0xB4 or 0xB5, and source 10 in the issuing
Wing (21 Table 21-4). -/
def execSecCommandComplete (s : State) : Out :=
  .next (match s.sec.running with
    | none => s
    | some (core, cmd, v) =>
      let s := s.program cmd v
      let s := { (s.setFld .SEC_CMDST_BUSY 0 0).secResult 0 with sec := { s.sec with running := none } }
      let s := s.secEvent (if cmd = 4 then 0xB5 else 0xB4) 0 0 0 (s.fld .SEC_CMDA)
      s.when (core < 4) (fun s => s.raise (coreWing core) 10))

/-! ### Images and boot (17 R416 to R420) -/

/-- The image of a slot of the Library: the newest valid image record of its area (17 R416, 16 Table 16-2). -/
def State.slotImage (s : State) (slot : Nat) : Option (List Nat) :=
  if slot = 3 then s.sec.download else (s.newestRecord (slot + 1) 0x01).map (fun r => r.payload)

/-- The slots a boot tries, in order (17 Table 17-5). -/
def State.bootOrder (s : State) : List Nat :=
  match s.fld .STRAP_BOOTSEL with
  | 1 => [2]
  | 2 => [3]
  | _ => let p := s.fld .SEC_PREF_SLOT; p :: [0, 1, 2].filter (fun x => x != p)

/-- A field of an image header (17 Table 17-4). -/
def imgField (i : List Nat) (ofs n : Nat) : Nat := ofLe ((i.drop ofs).take n)

/-- The map of an image header: SEC_BLK, SEC_SATL, SEC_SATH and SEC_LIB as their registers hold them. -/
def imgMap (i : List Nat) : Nat × Nat × Nat × Nat :=
  (imgField i 20 4 &&& 0x1F7F, imgField i 24 4, imgField i 28 4, imgField i 32 2 % 4)

/-- The locked map. -/
def State.lockedMap (s : State) : Nat × Nat × Nat × Nat :=
  (s.fld .SEC_BLK_BLK + s.fld .SEC_BLK_PORT * 2 ^ 8, s.fld .SEC_SATL, s.fld .SEC_SATH, s.fld .SEC_LIB_AREA)

/-- The map obeys R411: PWM, gate interface, comparators and Lesson engines in one world. -/
def mapObeys (i : List Nat) : Bool :=
  let b := imgField i 20 4
  (b.testBit 0 == b.testBit 1) && (b.testBit 0 == b.testBit 4) && (b.testBit 0 == b.testBit 5)

/-- Why an image is rejected, as RESULT codes (17 R417, R424): 2 for its signature, key, digest or form, 4 for a condition
that is not met; 0 where it is accepted, the locked map aside (17 R413). -/
def State.imageVerdict (s : State) (i : List Nat) : Nat :=
  let len := imgField i 4 4
  let body := (i.drop 7984).take len
  let key := ofLe (sha256 ((i.drop 96).take 32))
  let signer := imgField i 13 1
  let reserved := imgField i 15 1 == 0 && imgField i 34 30 == 0
  let form := imgField i 0 2 == 0x4947 && imgField i 2 2 == 1 && reserved && len % 8 == 0 && len ≤ 1048576
    && body.length == len
  let keyOk := if signer = 0 then key == s.sec.vendorHash
    else signer == 1 && s.ownerKey == some key
  let sigOk := Config.slhVerifies (imgField i 96 32) (ofLe (i.take 128)) (imgField i 128 7856)
  if !form || !keyOk || !sigOk then 2
  else if (signer = 0 && s.flag .SEC_FUSE_VENDOR_OFF) || imgField i 12 1 < s.fld .SEC_FUSE_SVN || !mapObeys i then 4
  else if sha256 body != (i.drop 64).take 32 then 2
  else 0

/-- A Wing's image. -/
def State.image (s : State) : Wing → Option Image
  | .a => s.sec.imageA
  | .b => s.sec.imageB

/-- The slots a Wing's boot has tried. -/
def State.tried (s : State) : Wing → List Nat
  | .a => s.sec.triedA
  | .b => s.sec.triedB

/-- A Wing's boot has tried a slot. -/
def State.setTried (s : State) (w : Wing) (l : List Nat) : State :=
  { s with sec := match w with | .a => { s.sec with triedA := l } | .b => { s.sec with triedB := l } }

/-- The first Wing to complete its boot applies the map and locks it (17 R413). -/
def State.lockMap (s : State) (i : List Nat) : State :=
  let m := imgMap i
  let s := (s.setFld .SEC_BLK_BLK 0 (m.1 % 2 ^ 7)).setFld .SEC_BLK_PORT 0 (m.1 / 2 ^ 8)
  let s := ((s.setFld .SEC_SATL 0 m.2.1).setFld .SEC_SATH 0 m.2.2.1).setFld .SEC_LIB_AREA 0 m.2.2.2
  (s.setFld .SEC_LOCK_LOCK 0 1).setFld .SEC_STAT_LOCK 0 1

/-- The Wing starts its image (17 Table 17-6, step 7): worlds of TC1 or TC3, TUT_TKOV (21 R511), SEC_STAT and event 0xB1. -/
def State.startImage (s : State) (w : Wing) (slot : Nat) (i : List Nat) : State :=
  let len := imgField i 4 4
  let img : Image :=
    { digest := imgField i 64 32, svn := imgField i 12 1, owner := imgField i 13 1 == 1, cores := imgField i 14 1
      version := imgField i 16 4, entry := imgField i 8 4 }
  let s := { s with tut := { s.tut with itcm := putBytes s.tut.itcm w.num 0 ((i.drop 7984).take len) } }
  let s := s.each (List.range ((len + 7) / 8)) (fun s k => s.mark (0x10 + 4 * w.num + k / 0x8000 % 4) (k % 0x8000) false)
  let s := { s with sec := match w with | .a => { s.sec with imageA := some img } | .b => { s.sec with imageB := some img } }
  let c := 2 * w.num
  let s := s.setFlag .TUT_ID_NS (c + 1) (img.cores.testBit (c + 1))
  let s := (s.setFld .TUT_TKOV_ADDR c (img.entry / 4)).setFld .TUT_TKOV_ADDR (c + 1) (img.entry / 4)
  let at_ := 0x10000000 + img.entry
  let s := { s with tut := { s.tut with entered := (s.tut.entered.set c at_).set (c + 1) at_ } }
  let s := s.setFld (match w with | .a => .SEC_STAT_SLOTA | .b => .SEC_STAT_SLOTB) 0 slot
  s.secEvent 0xB1 w.num slot 0 0

/-- BOOT_IMAGE_VERIFY (17 R413, R417, R419, R420): the ROM of a Wing in BOOT tries its next slot. A rejected image queues
event 0xB0; after the last one NOIMG is set. An accepted image whose map differs from the locked one sets MAPDIFF with
event 0xB3, and the ROM stops. -/
def execBootImageVerify (w : Wing) (s : State) : Out :=
  .next (if s.wing w != .boot || (s.image w).isSome || s.rst.phase != .none then s else
    let s := s.when (s.fld .STRAP_BOOTSEL = 3) (fun s => s.setFld .SEC_STAT_BSBAD 0 1)
    match s.bootOrder.find? (fun x => !(s.tried w).contains x) with
    | none => s
    | some slot =>
      if slot = 3 && s.sec.download.isNone then s
      else if slot != 3 && !s.flag .LIB_STAT_READY then s
      else
        let s := s.setTried w (slot :: s.tried w)
        let i := (s.slotImage slot).getD []
        let v := if i.isEmpty then 2 else s.imageVerdict i
        if v != 0 then
          let s := s.secEvent 0xB0 w.num slot v 0
          s.when (s.bootOrder.all (fun x => (s.tried w).contains x)) (fun s => s.setFld .SEC_STAT_NOIMG 0 1)
        else if s.flag .SEC_LOCK_LOCK && imgMap i != s.lockedMap then
          ((s.setTried w [0, 1, 2, 3]).setFld .SEC_STAT_MAPDIFF 0 1).secEvent 0xB3 w.num slot 0 0
        else
          let s := if s.flag .SEC_LOCK_LOCK then s else s.lockMap i
          s.startImage w slot i)

/-! ### Identity and attestation (17 R421, R423) -/

/-- IDENTITY_KEY_DERIVE (17 R421): PUF_OK and the identity key, or event 0xB6. -/
def execIdentityKeyDerive (extracted : Option Nat) (s : State) : Out :=
  .next (if s.rst.phase != .none then s else match extracted with
    | some v => { s.setFld .SEC_STAT_PUF_OK 0 1 with sec := { s.sec with identity := some (Config.identityPublicKey v) } }
    | none => { (s.setFld .SEC_STAT_PUF_OK 0 0).secEvent 0xB6 0 0 0 0 with sec := { s.sec with identity := none } })

/-- The product code 0x1018:02 (00 R7). -/
def State.productCode (s : State) : Nat := 0x00480000 + s.fld .FUSE_VARIANT_VARIANT

/-- The digest of a Wing's image, 32 bytes; 0 if none. -/
def digestBytes (i : Option Image) : List Nat := leBytes 32 ((i.map (fun x => x.digest)).getD 0)

/-- An image signed by an owner. -/
def ownerSigner (i : Option Image) : Bool := (i.map (fun x => x.owner)).getD false

/-- The attestation report up to its signature (17 Table 17-7). -/
def State.attestation (s : State) (nonce : List Nat) : List Nat :=
  let n := nonce.length
  let hashes := (List.range 16).flatMap (fun g => leBytes 4 ((s.group g).hash % 2 ^ 32))
  let owners := s.sec.ownerKeys.length
  leBytes 2 1 ++ [0, 0] ++ leBytes 4 (17284 + n) ++ leBytes 4 s.productCode ++ leBytes 4 s.sec.serial
    ++ [s.fld .FUSE_VARIANT_STEP, 0, 0, 0] ++ leBytes 4 (s.fld .RING_EPOCH) ++ leBytes 8 s.tb ++ leBytes 8 (s.clk.rtc % 2 ^ 48)
    ++ digestBytes s.sec.imageA ++ digestBytes s.sec.imageB
    ++ [s.fld .SEC_FUSE_SVN, (ownerSigner s.sec.imageA).toNat + 2 * (ownerSigner s.sec.imageB).toNat,
        if owners = 0 then 0xFF else owners - 1, s.fld .SEC_FUSE_VENDOR_OFF + 2 * s.fld .SEC_LOCK_LOCK]
    ++ leBytes 4 (s.fld .SEC_BLK_BLK + s.fld .SEC_BLK_PORT * 2 ^ 8) ++ leBytes 4 (s.fld .SEC_SATL) ++ leBytes 4 (s.fld .SEC_SATH)
    ++ leBytes 2 (s.fld .SEC_LIB_AREA) ++ [s.fld .HP_STAT_HOLDER, 0] ++ sha256 hashes ++ [n] ++ List.replicate 7 0
    ++ nonce ++ leBytes 32 (s.sec.identity.getD 0)

/-- ATTESTATION_REQUEST (17 R421, R423): refused without an identity key, while one runs, or for a nonce of another length
(20 Table 20-5); the report shows the state at its capture. -/
def State.attestRequest (s : State) (nonce : List Nat) : State :=
  if nonce.length < 16 then s.answer 0x06070010
  else if 64 < nonce.length then s.answer 0x06070010
  else if s.sec.attesting.isSome || s.sec.identity.isNone || !s.flag .SEC_STAT_PUF_OK then s.answer 0x08000022
  else { s.answer 0 with sec := { s.sec with attesting := some (s.attestation (nonce.map (fun b => b % 256))) } }

/-- ATTESTATION_REQUEST (17 R423). -/
def execAttestationRequest (nonce : List Nat) (s : State) : Out := .next (s.attestRequest nonce)

/-- ATTESTATION_COMPLETE (17 R423): the report is signed and readable at 0xB020:02. -/
def execAttestationComplete (s : State) : Out :=
  .next (match s.sec.attesting, s.sec.identity with
    | some l, some k =>
      { s with sec := { s.sec with attesting := none, report := some (l, Config.slhSign k (ofLe l) % 256 ^ 17088) } }
    | _, _ => s)

end Sys2Proof.Machine
end

