-- ==== Sys2Proof/Machine/Prefect.lean ====
section
/-!
DEFINITION. The Prefect (18): test pulses, demands and faults, the notice and the force, release, sealed configuration and
commissioning. In N variants the Prefect is absent and none of these happen (00 R5).
-/
namespace Sys2Proof.Machine

/-- The Prefect changed by `f`. -/
def State.modPf (s : State) (f : PrefectSt → PrefectSt) : State := { s with pf := f s.pf }

/-- A Prefect event (18 R443): CODE, CHAN, STATE, SET and TS. -/
def State.pfEvent (s : State) (code chans : Nat) : State :=
  s.emit .prefect (code % 256 + chans % 4 * 2 ^ 8 + s.fld .PF_STAT_STATE * 2 ^ 12 + s.fld .PF_CFG_COMSET * 2 ^ 16
    + s.ts * 2 ^ 64)

/-- The Prefect takes a state (18 Table 18-2). -/
def State.setPf (s : State) (st : Nat) : State := s.setFld .PF_STAT_STATE 0 st

/-- SPR_x level, 0 A and 1 B. -/
def sprFld (ch : Nat) : Fld := if ch = 0 then .PF_STAT_SPRA else .PF_STAT_SPRB

/-- The Prefect is fitted and powered. -/
def State.pfRuns (s : State) : Bool := s.prefectFitted && s.pf.vpfGood

/-- A demand or fault starts its notice and its force (18 R432). -/
def State.pfAct (s : State) (demand : Bool) : State :=
  s.modPf (fun p => { p with noticeDue := true, forceDue := true, forceDemand := p.forceDemand || demand, keyAt := none })

/-- A fault is latched (18 R431, R436): FCAUSE, the counters, its event, and it acts as a demand. -/
def State.pfFault (s : State) (bit code chans : Nat) : State :=
  let s := s.modPf (fun p => { p with clean := [0, 0] })
  if s.bit .PF_STAT_FCAUSE 0 bit then s else
  let s := (s.setBit .PF_STAT_FCAUSE 0 bit true).count .PF_CNT_FAULTS
  let s := s.when (bit < 2) (fun s => s.count .PF_CNT_TESTFAIL)
  let s := s.when (4 ≤ s.fld .PF_STAT_STATE) (fun s => s.setPf 3)
  (s.pfEvent code chans).pfAct false

/-! ### Test pulses (18 R429, R430) -/

/-- TEST_PULSE_START (18 R429): TP goes low and demand detection of the channel is masked. -/
def execTestPulseStart (ch : Nat) (s : State) : Out :=
  .next (if s.pfRuns && ch < 2 then
    s.modPf (fun p => { p with tpLow := setBitTo p.tpLow ch true, mask := setBitTo p.mask ch true })
  else s)

/-- TEST_PULSE_END (18 R429): 500 µs into the pulse TP rises. -/
def execTestPulseEnd (ch : Nat) (s : State) : Out :=
  .next (if s.pfRuns && ch < 2 then s.modPf (fun p => { p with tpLow := setBitTo p.tpLow ch false }) else s)

/-- TEST_PULSE_CHECK (18 Table 18-1, R431): the mask ends and the channel's test is judged. A clean cycle without a demand
counts towards the clearing of a latched fault. -/
def execTestPulseCheck (ch : Nat) (xReads yReads xStill : DualRead) (s : State) : Out :=
  .next (if !(s.pfRuns && ch < 2 && s.pf.mask.testBit ch) then s else
    let y := 1 - ch
    let xLow := dualActive xReads.first xReads.second
    let yHigh := !dualActive yReads.first yReads.second
    let xHigh := !dualActive xStill.first xStill.second
    let xDemand := s.pf.demand.testBit ch
    let yDemand := s.pf.demand.testBit y
    let stuck := !xLow || (!xHigh && !xDemand)
    let cross := !yHigh && !yDemand
    let s := s.modPf (fun p => { p with
      mask := setBitTo p.mask ch false
      demand := if xHigh then setBitTo p.demand ch false else p.demand
      clean := if stuck || cross || xDemand || yDemand then [0, 0] else p.clean.set ch (p.clean.getD ch 0 + 1) })
    let s := s.setFlag (sprFld ch) 0 xHigh
    let s := s.when stuck (fun s => s.pfFault 0 0xC2 (2 ^ ch))
    s.when cross (fun s => s.pfFault 1 0xC3 (2 ^ ch)))

/-! ### Demands and faults (18 R430, R431) -/

/-- FILTERED_DEMAND (18 R430, R436): outside the channel's mask; RELEASING and CLEAR go to DEMAND. A low level, which is the active
one, counts whichever receiver reads it (02 R58). -/
def execFilteredDemand (low : ChannelRead) (s : State) : Out :=
  let ch := low.ch
  .next (if !(s.pfRuns && ch < 2 && dualActive low.read.first low.read.second) || s.pf.mask.testBit ch then s else
    let s := (s.setFld (sprFld ch) 0 0).count .PF_CNT_DEMANDS
    let s := s.modPf (fun p => { p with demand := setBitTo p.demand ch true, clean := [0, 0] })
    let s := s.when (5 ≤ s.fld .PF_STAT_STATE) (fun s => s.setPf 4)
    s.pfAct true)

/-- DISCREPANCY_FAULT (18 R431). -/
def execDiscrepancyFault (ch : Nat) (s : State) : Out :=
  .next (if s.pfRuns && ch < 2 && s.pf.demand.testBit ch && !s.pf.demand.testBit (1 - ch) then s.pfFault 2 0xC4 (2 ^ ch) else s)

/-- READBACK_FAULT (18 R431): either SPR_OUT receiver has read a level different from the one driven for 10 µs. The fault is of no
channel: CHAN is 0 (assumption log, entry 106). -/
def execReadbackFault (levels : DualRead) (s : State) : Out :=
  .next (if s.pfRuns && (levels.first != s.pf.sprOut || levels.second != s.pf.sprOut) then s.pfFault 3 0xCB 0 else s)

/-- PREFECT_CLOCK_CHECK (18 R431): 400 000 cycles of 40 MHz in 10 ms; more than 6 % off is a fault. Skipped while the crystal
is stopped. -/
def execPrefectClockCheck (count : Nat) (s : State) : Out :=
  .next (if !s.pfRuns then s
  else if !s.clk.crystal then s.setFld .PF_STAT_XTALSKIP 0 1
  else
    let s := s.setFld .PF_STAT_XTALSKIP 0 0
    s.when (count + 24000 < 400000 || 424000 < count) (fun s => s.pfFault 4 0xCB 0))

/-- PREFECT_FAULT_CLEAR (18 R431, Table 18-2): after two consecutive clean test cycles of both channels. -/
def execPrefectFaultClear (s : State) : Out :=
  .next (if s.pfRuns && s.fld .PF_STAT_FCAUSE != 0 && s.pf.demand == 0 && s.pf.clean.all (fun n => decide (2 ≤ n)) then
    let s := s.setFld .PF_STAT_FCAUSE 0 0
    s.when (s.fld .PF_STAT_STATE = 3) (fun s => s.setPf 4)
  else s)

/-! ### Notice and force (18 R432) -/

/-- What the notice does: every OUTEN clears, every bit of GI_LOCKED is set, PF_LASTT takes the timebase. -/
def State.pfNotice (s : State) : State :=
  let s := s.each ((List.range 24).filter s.hasPm) (fun s m => s.clearOuten m)
  (s.setFld .GI_LOCKED_LOCK 0 (2 ^ s.fld .FUSE_RES_PM_CNT - 1)).setFld .PF_LASTT 0 s.ts

/-- PREFECT_NOTICE (18 R432). -/
def execPrefectNotice (s : State) : Out :=
  .next (if s.prefectFitted && s.pf.noticeDue then
    (s.modPf (fun p => { p with noticeDue := false })).pfNotice
  else s)

/-- The force drives every gate pad and SPR_OUT low (18 R432). -/
def State.pfForce (s : State) : State :=
  let s := { s with gate := { s.gate with force := true } }
  let s := s.modPf (fun p => { p with sprOut := false })
  s.each ((List.range 24).filter s.hasPm) (fun s m => s.padsOff m .low false)

/-- PREFECT_FORCE (18 R432): event 0xC0 reports a demand. -/
def execPrefectForce (s : State) : Out :=
  .next (if s.prefectFitted && s.pf.forceDue then
    let d := s.pf.forceDemand
    let s := (s.modPf (fun p => { p with forceDue := false, forceDemand := false })).pfForce
    s.when d (fun s => s.pfEvent 0xC0 s.pf.demand)
  else s)

/-! ### Release (18 R436, R437) -/

/-- A field of a parameter set (18 Table 18-3). -/
def setField (p : List Nat) (ofs n : Nat) : Nat := ofLe ((p.drop ofs).take n)

/-- RESTART = 1 of the set in force. -/
def State.pfAuto (s : State) : Bool := match s.pf.set with
  | some p => setField p 3 1 == 1
  | none => false

/-- PREFECT_RELEASE_READY (18 R436, R437): both channels are high and free of faults for T_REL; with an automatic restart
SPR_OUT rises at once. -/
def execPrefectReleaseReady (s : State) : Out :=
  .next (if s.pfRuns && s.fld .PF_STAT_STATE = 4 && s.fld .PF_STAT_FCAUSE = 0 && s.pf.set.isSome then
    let s := ((s.setFld .PF_STAT_SPRA 0 1).setFld .PF_STAT_SPRB 0 1).setPf 5
    s.modPf (fun p => { p with demand := 0, keyAt := none, sprOut := s.pfAuto })
  else s)

/-- PF_REL_WRITE (18 R437): 0x5AA5 and then 0xA55A within 1 ms, both in RELEASING, are a release request. -/
def State.pfRelease (s : State) (key : Nat) : State :=
  if !s.prefectFitted then s else
  let k := key % 2 ^ 16
  if s.fld .PF_STAT_STATE != 5 then s.modPf (fun p => { p with keyAt := none })
  else if k = 0x5AA5 then s.modPf (fun p => { p with keyAt := some s.tb })
  else
    let ok := k == 0xA55A && (match s.pf.keyAt with | some t => decide (s.tb ≤ t + 640000) | none => false)
    s.modPf (fun p => { p with keyAt := none, sprOut := p.sprOut || ok })

/-- PF_REL_WRITE (18 R437, R443), by a Secure core. -/
def execPfRelWrite (core key : Nat) (s : State) : Out := .next (s.access core 0x4D000020 false (fun s => s.pfRelease key))

/-- FORCE_RELEASE (18 R437): T_SUP after SPR_OUT rose the force is released. -/
def execForceRelease (s : State) : Out :=
  .next (if s.pfRuns && s.fld .PF_STAT_STATE = 5 && s.pf.sprOut then
    let s := { s with gate := { s.gate with force := false } }
    (s.setPf 6).pfEvent 0xC1 0
  else s)

/-! ### Supply (18 R434, R436) -/

/-- VPF_GOOD (18 R434, R436): the Prefect starts, with its force active. -/
def execVpfGood (s : State) : Out :=
  .next (if !s.prefectFitted || s.pf.vpfGood then s else
    let s := s.each ([.PF_STAT_STATE, .PF_STAT_SEALOK, .PF_STAT_XTALSKIP, .PF_STAT_FCAUSE, .PF_CFG_CFGSW, .PF_CFG_SWBAD,
      .PF_CFG_CFGCHG, .PF_CNT_DEMANDS, .PF_CNT_TESTFAIL, .PF_CNT_FAULTS, .PF_LASTT, .PF_COMST_ARMED, .PF_COMST_RESULT] : List Fld)
      (fun s f => s.setFld f 0 (f.reset 0))
    let s := s.each (List.range 4) (fun s j => s.setFld .PF_HASH j 0)
    (s.setPf 1).modPf (fun p => { slots := p.slots, vpfGood := true }))

/-- VPF_FAIL (18 R434, Table 18-4): the force is active when unpowered. A slot being programmed counts only if its valid bit
is programmed, each bit whole; which bits are is free (assumption log, entry 5). -/
def execVpfFail (s : State) : Out :=
  .next (if !s.prefectFitted then s else
    let s := (s.pfForce.modPf (fun p => { p with vpfGood := false, noticeDue := false, forceDue := false })).setPf 1
    if !s.pf.programming then s else
    let (m, s) := s.fresh 135
    let h := (List.range 4).foldl (fun a j => a + s.fld .PF_HASH j * 2 ^ (32 * j)) 0
    let slot := (s.fld .PF_CFG_CFGSW % 16 &&& (m / 2), h &&& (m / 128))
    let s := s.modPf (fun p => { p with programming := false, slots := if m % 2 = 1 then p.slots ++ [slot] else p.slots })
    s.when (m % 2 = 1) (fun s => (s.setFld .PF_CFG_COMSET 0 slot.1).setFld .PF_CFG_SLOTS 0 s.pf.slots.length))

/-! ### Sealed configuration (18 R438 to R441) -/

/-- The switches from the two receivers of each: closed, which reads 1, is the active level (02 R58, 18 R438). -/
def switches (r : SwitchRead) : Nat := (r.first ||| r.second) % 256

/-- CFGSW_READ (18 R438): 10 ms after VPF became good; CFGSW[7:4] must be the complement of CFGSW[3:0]. -/
def execCfgswRead (read : SwitchRead) (s : State) : Out :=
  .next (if s.pfRuns && !s.pf.cfgRead then
    let sw := switches read
    let s := (s.setFld .PF_CFG_CFGSW 0 sw).setFlag .PF_CFG_SWBAD 0 (sw / 16 + sw % 16 != 15)
    s.modPf (fun p => { p with cfgRead := true })
  else s)

/-- CFGSW_CHANGE (18 R438, Table 18-4): a sample that differs from the value read at start. -/
def execCfgswChange (read : SwitchRead) (s : State) : Out :=
  .next (if s.pfRuns && s.pf.cfgRead && switches read != s.fld .PF_CFG_CFGSW then
    ((s.setFld .PF_CFG_CFGCHG 0 1).setFld .PF_COMST_ARMED 0 0).pfEvent 0xC5 0
  else s)

/-- Parameter set `n` in Library area 4: a record of type 0x02 with its MAGIC and number (18 R439, Table 18-3). -/
def State.prefectRecord (s : State) (n : Nat) : Option (List Nat) :=
  (s.lib.records.reverse.find? (fun r => r.area == 4 && r.type == 0x02 && r.valid && r.payload.length == 96 &&
    setField r.payload 0 2 == 0x5053 && setField r.payload 2 1 == n)).map (fun r => r.payload)

/-- Every field of a set lies in its range (18 Table 18-3). -/
def setInRange (p : List Nat) : Bool :=
  let within (ofs lo hi : Nat) : Bool := lo ≤ setField p ofs 2 && setField p ofs 2 ≤ hi
  setField p 3 1 ≤ 1 && within 4 50 2000 && within 6 10 2000 && within 8 10 10000 && within 10 1 100

/-- The first 128 bits of a set's SHA-256, as PF_HASH0 to PF_HASH3 hold them (18 R439). -/
def setHash (p : List Nat) : Nat := ofLe ((sha256 p).take 16)

/-- PREFECT_SET_DELIVERY (18 R439): the Library manager delivers set s once the Library is ready; it is in force if the newest
commissioning slot names it, otherwise the Prefect is UNCOMMISSIONED. -/
def execPrefectSetDelivery (s : State) : Out :=
  .next (if !(s.pfRuns && s.pf.deliver && s.pf.cfgRead && !s.flag .PF_CFG_SWBAD && s.flag .LIB_STAT_READY) then s else
    let s := s.modPf (fun p => { p with deliver := false })
    let n := s.fld .PF_CFG_CFGSW % 16
    match s.prefectRecord n with
    | none => s
    | some p =>
      if !setInRange p then ((s.modPf (fun x => { x with set := none })).pfForce).setPf 1
      else
        let h := setHash p
        let s := s.each (List.range 4) (fun s j => s.setFld .PF_HASH j (h / 2 ^ (32 * j)))
        let s := s.modPf (fun x => { x with loaded := some p })
        if s.pf.slots.getLast? == some (n, h) then
          let s := s.modPf (fun x => { x with set := some p })
          let s := s.when (s.fld .PF_STAT_STATE = 1) (fun s => s.setPf (if s.fld .PF_STAT_FCAUSE = 0 then 4 else 3))
          s.pfEvent 0xC8 0
        else
          ((s.modPf (fun x => { x with set := none })).pfForce.setPf 2).pfEvent 0xC9 0)

/-- The bit that SEAL_OUT drives at place `k` of its pattern 0b1001_1101, one bit per 100 µs and the leftmost first (18 R440;
assumption log, entry 106). Both of its drivers drive it (02 R59). -/
def sealOut (k : Nat) : Bool := (0b10011101).testBit (7 - k % 8)

/-- The place in SEAL_OUT's pattern of the bit it drives: one bit per 100 µs, 64 000 ticks of the timebase (18 R440; assumption log,
entry 106). -/
def State.sealPlace (s : State) : Nat := s.tb / 64000 % 8

/-- Which of eight consecutive bits of SEAL_IN match what SEAL_OUT drove, where the wire carried each as driven (`closed`) or turned
over: SEAL_IN is a dual input, a high level its active one (02 R58; assumption log, entry 106). -/
def State.sealMatches (s : State) (closed : Bool) : List Bool :=
  (List.range 8).map (fun j => s.netActive 7 (sealOut j == closed) == sealOut j)

/-- SEAL_OPENED (18 R440): eight consecutive mismatched bits. -/
def execSealOpened (s : State) : Out :=
  .next (s.when (s.pfRuns && (s.sealMatches false).all (fun b => !b)) (fun s =>
    (s.setFld .PF_STAT_SEALOK 0 0).pfEvent 0xC6 0))

/-- SEAL_CLOSED (18 R440, R441): eight consecutive matching bits set SEALOK again; with ARMED set, the next slot is programmed. -/
def execSealClosed (s : State) : Out :=
  .next (s.when (s.pfRuns && (s.sealMatches true).all id) (fun s =>
    let s := (s.setFld .PF_STAT_SEALOK 0 1).pfEvent 0xC7 0
    s.when (s.flag .PF_COMST_ARMED) (fun s => s.modPf (fun p => { p with programming := true }))))

/-- PF_COMMIT_WRITE (18 R441): accepted in UNCOMMISSIONED with the seal open, the digest matching PF_HASH0 and a slot free. -/
def State.pfCommit (s : State) (digest : Nat) : State :=
  if !s.prefectFitted then s else
  if s.fld .PF_STAT_STATE != 2 then s.setFld .PF_COMST_RESULT 0 1
  else if s.flag .PF_STAT_SEALOK then s.setFld .PF_COMST_RESULT 0 2
  else if digest % 2 ^ 32 != s.fld .PF_HASH 0 then s.setFld .PF_COMST_RESULT 0 3
  else if 64 ≤ s.pf.slots.length then s.setFld .PF_COMST_RESULT 0 4
  else (s.setFld .PF_COMST_RESULT 0 0).setFld .PF_COMST_ARMED 0 1

/-- PF_COMMIT_WRITE (18 R441, R443), by a Secure core. -/
def execPfCommitWrite (core digest : Nat) (s : State) : Out := .next (s.access core 0x4D000024 false (fun s => s.pfCommit digest))

/-- COMMIT_ARM_TIMEOUT (18 R441): 60 s after acceptance without seal closure. -/
def execCommitArmTimeout (s : State) : Out :=
  .next (if s.pfRuns && !s.pf.programming then s.setFld .PF_COMST_ARMED 0 0 else s)

/-- COMMISSIONING_COMPLETE (18 R441): the slot holds the set's number and digest, the set is in force, and the state becomes
DEMAND with event 0xCA. -/
def execCommissioningComplete (s : State) : Out :=
  .next (if !(s.pfRuns && s.pf.programming) then s else
    let h := (List.range 4).foldl (fun a j => a + s.fld .PF_HASH j * 2 ^ (32 * j)) 0
    let n := s.fld .PF_CFG_CFGSW % 16
    let s := s.modPf (fun p => { p with programming := false, slots := p.slots ++ [(n, h)], set := p.loaded })
    let s := (s.setFld .PF_CFG_COMSET 0 n).setFld .PF_CFG_SLOTS 0 s.pf.slots.length
    ((s.setFld .PF_COMST_ARMED 0 0).setPf 4).pfEvent 0xCA 0)

end Sys2Proof.Machine
end

