-- ==== Sys2Proof/Machine/RegFile.lean ====
section
/-!
DEFINITION. The register file as a whole: which register an address names, the group that owns an RWL field, what a
written value is stored as, what a variant lacks, pending sets beside the sets in force, and the word a read returns.
-/
namespace Sys2Proof.Machine

/-- The register and the index of its instance at a 32-bit address, as core `core` sees the Tutor local block. -/
def regAt (core addr : Nat) : Option (RegDesc × Nat) :=
  let hit (r : RegDesc) : Option Nat :=
    if r.stride = 0 then
      if r.count = 4 && r.base ≤ addr && addr < r.base + max 1 (r.count2 * r.stride2) then
        if r.count2 = 1 then (if addr = r.base then some core else none)
        else if (addr - r.base) % r.stride2 = 0 then some (core * r.count2 + (addr - r.base) / r.stride2) else none
      else if addr = r.base then some 0 else none
    else if addr < r.base then none else
      let i := (addr - r.base) / r.stride
      let d := (addr - r.base) % r.stride
      if r.count ≤ i then none
      else if r.count2 = 1 then (if d = 0 then some (r.first + i) else none)
      else if d % r.stride2 = 0 && d / r.stride2 < r.count2 then some ((r.first + i) * r.count2 + d / r.stride2) else none
  regMap.findSome? (fun r => (hit r).map (fun i => (r, i)))

/-- Bits [31:24] of an address in the register blocks: 0x40 for PWM to 0x4E for the Tutor local block. -/
def RegDesc.blockByte (r : RegDesc) : Nat := r.base / 0x1000000

/-- The function group that owns the RWL fields of a register (20 R483): instance `i`. -/
def RegDesc.group (r : RegDesc) (i : Nat) : Nat :=
  match r.blockByte with
  | 0x42 => 1
  | 0x43 => 2
  | 0x44 => 3
  | 0x40 => 4
  | 0x41 => 5
  | 0x45 => if r.base < 0x45000100 then 6 else engGroup i
  | 0x46 => 12
  | 0x47 => 13
  | _ => 0

/-- The register lies in a module, comparator, channel, pin or unit that the variant lacks (00 R6). -/
def State.regAbsent (s : State) (r : RegDesc) (i : Nat) : Bool :=
  let b := r.base
  if r.blockByte = 0x40 then b < 0x40001800 && (!s.hasPm i || ((b = 0x4000002C || b = 0x40000030) && !s.isHead i))
  else if b = 0x41000024 then !s.sizeL
  else if 0x41000200 ≤ b && b < 0x41000300 then !s.hasPm i
  else if r.blockByte = 0x43 then
    if b = 0x43000004 then !s.flag .FUSE_RES_THEFT
    else if b = 0x43000020 then !s.hasMclk i
    else 0x43000100 ≤ b && !s.hasMd i
  else if 0x44000100 ≤ b && r.blockByte = 0x44 then !s.hasWc i
  else if 0x46000018 ≤ b && b < 0x46000100 then !s.flag .FUSE_RES_THEFT
  else if r.blockByte = 0x4D then !s.prefectFitted
  else false

/-- The clamp of CLK_RATE to ±500 000 (04 Table 4-3). -/
def rateStored (v : Nat) : Nat := ofSigned 32 (clampInt (-500000) 500000 (toSigned 32 v))

/-- A half of PWM_CTABL as stored: two rules of an event and an action, with event 0b111 as none (08 R193, R194). -/
def ruleHalf (v : Nat) : Nat :=
  let rule (b : Nat) : Nat := (if b % 8 = 7 then 0 else b % 8) + b / 8 % 4 * 8
  rule (v % 256) + rule (v / 256 % 256) * 256

/-- What a written value of a field is stored as (the "stored as" rules of the register tables; 03 R93, 15 R390, 16 R408).
`i` is the instance and `per` the value of SYNC_PER. -/
def storedAs (f : Fld) (i per v : Nat) : Nat :=
  match f with
  | .BELL_CFG_CADENCE | .OPEN_CFG_PERIOD | .SAR_CAL_MATCH_TOL | .GI_CH_FILT | .GI_CH_RFILT | .GI_REF_REFRESH_W
  | .LE_CTRL_OVR_LIMIT | .HP_LEASE_RPP | .HP_STALE_STALE_MS | .CAN_NBT_TSEG1 | .CAN_NBT_TSEG2 => max 1 v
  | .PWR_STORE_VMAX => clampNat 20 170 v
  | .PWR_STORE_VFLOOR => min 50 v
  | .CLK_SYNC_MODE | .SAR_REF_SEL | .MOD_CLK_MODE | .PWM_CTRL_CMODE | .PWM_CTRL_RLD | .RSP_CFG_ACT | .LT_CFG_SRC
  | .SEC_PREF_SLOT => if v = 3 then 0 else v
  | .MOD_CFG_SYNC => if 2 ≤ v then 0 else v
  | .CLK_SYNC_SLEW_INT => max 64 v
  | .SYNC_PER => max 6400 v
  | .SYNC_OFS => v % per
  | .CLK_RATE => rateStored v
  | .SAR_TRIG_SRC => if 5 ≤ v then 0 else v
  | .MOD_CLK_DIV => clampNat 1 50 v
  | .WC_CFG_HYST => min 100 v
  | .PWM_MINPW_MINPW => clampNat 1 1280 v
  | .PWM_CTABH_EVT0 | .PWM_CTABH_EVT1 | .PWM_CTABH_EVT2 | .PWM_CTABH_EVT3 => if v = 7 then 0 else v
  | .PWM_CTABL_RULES01 | .PWM_CTABL_RULES23 => ruleHalf v
  | .GSEQ_LEG_GAP => clampNat 16 800 v
  | .GI_CH_BLANK => min 800 v
  | .LT_PER_PER => clampNat 3200 640000 v
  | .HP_LEASE_LEASE => clampNat 50 1000 v
  | .SCR_PASS_PASS => clampNat 10 86400 v
  | .AGE_CFG_WARN => clampNat 100 1000 v
  | .LIB_RET_REFRESH_DAYS => clampNat 30 1461 v
  | .LIB_RET_REF_BITS => clampNat 1 15 v
  | .LIB_WL_WL_DIFF => clampNat 100 65535 v
  | .LIB_WL_FREE_MIN => clampNat 2 64 v
  | .BUR_SAVE_INT => clampNat 1 1440 v
  | .ETH_CFG_SPEED => if v = 3 then 2 else v
  | .RING_CFG_SIZE_L2 => clampNat 4 12 v
  | .RING_CFG_OWNER => if v = 3 && i != 10 then 2 else v
  | _ => v

/-- A value of a field lies in the range that its table gives, where no "stored as" rule takes every value (20 R486). -/
def fieldInRange (f : Fld) (v : Nat) : Bool :=
  match f with
  | .MOD_CFG_OSR => 8 ≤ v && v ≤ 512
  | .MOD_CFG_GOSR => 8 ≤ v && v ≤ 32
  | .SAR_TRIG_PMSEL | .MOD_CFG_PMSEL | .MOD_GCFG_LINK | .WC_CFG_LINK | .GSEQ_LEG_MA | .GSEQ_LEG_MB => v < 24
  | .LE_SNAP_LEN => v ≤ 4032
  | .HP_TUTOR_LEN => v ≤ 512
  | .TB_PPS_PHASE => v < 640000000
  | .BUR_UDIN => (Fp.of32 0x3F800000).le (.of32 v) && (Fp.of32 v).le (.of32 0x471C4000)
  | .BUR_INOM => (Fp.of32 0x3C23D70A).le (.of32 v) && (Fp.of32 v).le (.of32 0x469C4000)
  | .BUR_PRAT => (Fp.of32 0x3F800000).le (.of32 v) && (Fp.of32 v).le (.of32 0x4CBEBC20)
  | _ => true

/-- The bits of a field that the variant has (00 R6, R16): those of modules, channels and functions it lacks read 0 and take no
write (07 R186, 09 R244, 13 R338). -/
def State.present (s : State) (f : Fld) (v : Nat) : Nat :=
  match f with
  | .TG_ROUTE_PM | .RSP_MASK_MASK | .GI_DEFER_DEFER | .GI_LOCKED_LOCK | .GI_FLTSEEN_SEEN | .GI_RDYLOST_LOST | .GI_SHOOT_SHOOT
  | .GI_FLTLVL_LOW | .GI_RDYLVL_HIGH | .GI_SHUT_BUSY => v % 2 ^ s.fld .FUSE_RES_PM_CNT
  | .MOD_CTRL_CH_EN | .MOD_DLEV_EV => v % 2 ^ s.fld .FUSE_RES_MD_CNT
  | .BUR_CTRL_THEFT_EN => if s.flag .FUSE_RES_THEFT then v else 0
  | _ => v

/-- What a written value of a field is stored as in this variant. -/
def State.stored (s : State) (f : Fld) (i v : Nat) : Nat := s.present f (storedAs f i (s.fld .SYNC_PER) v)

/-- The value of field `f` that reads show: the pending value while its group is open, else the value in force (20 R486).
The RTC shows its live count, and PWR_MON.VPF_OK the VPF monitor. -/
def State.shown (s : State) (r : RegDesc) (f : Fld) (i : Nat) : Nat :=
  if f.acc = .wo then 0
  else if f = .PWR_MON_VPF_OK then (s.prefectFitted && s.pf.vpfGood).toNat
  else if f = .TUT_ID_HART then i
  else if f = .REPC_SHIP_TOTAL ∨ f = .REPC_SHIP_CONSUMED ∨ f = .REPC_REM_REMAIN ∨ f = .REPC_REM_FLOOR then s.spare f i
  else if f.acc = .rwl then
    let g := r.group i
    s.present f (if s.groupOpen g then ((s.group g).pend.find f i).getD (s.fld f i) else s.fld f i)
  else s.present f (s.fld f i)

/-- The word of register `r`, instance `i`, as a read shows it; 0 where the variant lacks it (00 R6, R12, R14). -/
def State.regWord (s : State) (r : RegDesc) (i : Nat) : Nat :=
  if s.regAbsent r i then 0 else r.fields.foldl (fun a fa => a + s.shown r fa.fld i * 2 ^ fa.lo) 0

/-- The word at a register address as core `core` reads it, without the read's side effects; 0 where there is none. -/
def State.wordAt (s : State) (core addr : Nat) : Nat :=
  match regAt core addr with
  | some (r, i) => s.regWord r i
  | none => 0

end Sys2Proof.Machine
end

