-- ==== Sys2Proof/Machine/Entry.lean ====
section
/-!
DEFINITION. The object dictionary's entries (20 R470): index, subindex, type, access, persistence class, function group
and what each maps to; which of them a variant has; their values; the parameter record and configuration hash of a group.
-/
namespace Sys2Proof.Machine

/-- Persistence classes of Table 20-1. -/
inductive Persist where
  | v | g | s
  deriving DecidableEq, Repr

/-- What an entry maps to. -/
inductive EMap where
  /-- Bits `lo` to `lo + w - 1` of the register at `addr`, a stride further for each index. -/
  | reg (addr stride lo w : Nat)
  /-- `n` registers from `addr`, the low word first, a stride further for each index and one for each subindex. -/
  | regs (addr stride n sub : Nat)
  /-- An entry of the dictionary's own (Vars). -/
  | var
  /-- A part of an engine's window: first 32-bit word and how many. -/
  | window (first words : Nat)
  /-- Content or effect of a rule of its own. -/
  | special
  deriving DecidableEq, Repr

/-- Entries `idx` to `idx + ni - 1`, each with subindexes `sub` to `sub + ns - 1`. -/
structure Entry where
  idx : Nat
  sub : Nat
  ni : Nat := 1
  ns : Nat := 1
  ty : ObjTy
  acc : Access
  map : EMap
  cls : Persist := .v
  group : Nat := 0
  deriving DecidableEq, Repr

/-- The identity and communication entries (20 Table 20-14) and the port entries (19 Table 19-9). -/
def entries1 : List Entry := [
  { idx := 0x1000, sub := 0x0, ty := .u32, acc := .ro, map := .special },
  { idx := 0x1008, sub := 0x0, ty := .str, acc := .ro, map := .special },
  { idx := 0x1009, sub := 0x0, ty := .str, acc := .ro, map := .special },
  { idx := 0x100A, sub := 0x0, ty := .str, acc := .ro, map := .special },
  { idx := 0x1010, sub := 0x1, ty := .u32, acc := .rw, map := .special },
  { idx := 0x1011, sub := 0x1, ty := .u32, acc := .rw, map := .special },
  { idx := 0x1018, sub := 0x1, ns := 4, ty := .u32, acc := .ro, map := .special },
  { idx := 0x1100, sub := 0x1, ty := .u8, acc := .rw, map := .reg 0x4B000000 0x0 0 5, cls := .s },
  { idx := 0x1100, sub := 0x2, ty := .u8, acc := .rw, map := .reg 0x4B000004 0x0 0 5 },
  { idx := 0x1110, sub := 0x1, ni := 2, ty := .u32, acc := .rw, map := .reg 0x4B000100 0x40 0 32, cls := .s },
  { idx := 0x1110, sub := 0x2, ni := 2, ty := .u48, acc := .rw, map := .regs 0x4B000104 0x40 2 0x0, cls := .s },
  { idx := 0x1110, sub := 0x3, ni := 2, ty := .u32, acc := .ro, map := .reg 0x4B00010C 0x40 0 32 },
  { idx := 0x1122, sub := 0x1, ni := 2, ty := .u32, acc := .rw, map := .reg 0x4B000180 0x40 0 32, cls := .s },
  { idx := 0x1122, sub := 0x2, ni := 2, ty := .u32, acc := .rw, map := .reg 0x4B000184 0x40 0 32, cls := .s },
  { idx := 0x1122, sub := 0x3, ni := 2, ty := .u32, acc := .rw, map := .reg 0x4B000188 0x40 0 32, cls := .s },
  { idx := 0x1122, sub := 0x4, ni := 2, ty := .u32, acc := .ro, map := .reg 0x4B00018C 0x40 0 32 },
  { idx := 0x1122, sub := 0x10, ni := 2, ns := 32, ty := .u64, acc := .rw, map := .regs 0x4B000200 0x100 2 0x8, cls := .s },
  { idx := 0x1130, sub := 0x1, ty := .u32, acc := .rw, map := .reg 0x4B000400 0x0 0 32 },
  { idx := 0x1200, sub := 0x1, ty := .u16, acc := .rw, map := .var, cls := .s },
  { idx := 0x1200, sub := 0x2, ty := .u8, acc := .rw, map := .var, cls := .s },
  { idx := 0x1200, sub := 0x3, ns := 2, ty := .u8, acc := .rw, map := .var, cls := .s },
  { idx := 0x1F50, sub := 0x1, ns := 4, ty := .domain, acc := .wo, map := .special } ]

/-- The device management entries (20 Tables 20-13 and 20-14). -/
def entries2 : List Entry := [
  { idx := 0x2000, sub := 0x1, ty := .domain, acc := .ro, map := .special },
  { idx := 0x2001, sub := 0x1, ty := .u32, acc := .ro, map := .special },
  { idx := 0x2001, sub := 0x2, ty := .domain, acc := .ro, map := .special },
  { idx := 0x2002, sub := 0x1, ty := .u16, acc := .wo, map := .special },
  { idx := 0x2005, sub := 0x1, ty := .u32, acc := .rw, map := .special },
  { idx := 0x2005, sub := 0x2, ty := .domain, acc := .ro, map := .special },
  { idx := 0x2011, sub := 0x1, ni := 13, ty := .u8, acc := .rw, map := .special },
  { idx := 0x2011, sub := 0x2, ni := 13, ty := .u8, acc := .ro, map := .special },
  { idx := 0x2011, sub := 0x3, ni := 13, ns := 3, ty := .u32, acc := .ro, map := .special },
  { idx := 0x2030, sub := 0x1, ty := .u8, acc := .wo, map := .special },
  { idx := 0x2030, sub := 0x2, ty := .u32, acc := .ro, map := .special },
  { idx := 0x2100, sub := 0x1, ty := .domain, acc := .ro, map := .special },
  { idx := 0x2100, sub := 0x2, ty := .u32, acc := .ro, map := .special },
  { idx := 0x2100, sub := 0x3, ns := 2, ty := .domain, acc := .ro, map := .special },
  { idx := 0x2100, sub := 0x5, ty := .u32, acc := .ro, map := .reg 0x47000038 0x0 0 32 },
  { idx := 0x2100, sub := 0x6, ns := 4, ty := .domain, acc := .ro, map := .special },
  { idx := 0x2200, sub := 0x1, ni := 2, ty := .u32, acc := .rw, map := .reg 0x4B000700 0x4 0 32 },
  { idx := 0x2200, sub := 0x2, ni := 2, ty := .u48, acc := .rw, map := .var },
  { idx := 0x2200, sub := 0x3, ni := 2, ty := .u8, acc := .rw, map := .var } ]

/-- The PWM entries (08 Table 8-10) and the gate interface entries (09 Table 9-5). -/
def entries3 : List Entry := [
  { idx := 0x3000, sub := 0x1, ty := .u8, acc := .rw, map := .reg 0x40001804 0x0 0 2 },
  { idx := 0x3000, sub := 0x2, ty := .u32, acc := .wo, map := .reg 0x40001800 0x0 0 32 },
  { idx := 0x3000, sub := 0x3, ty := .u32, acc := .ro, map := .reg 0x40001808 0x0 0 32 },
  { idx := 0x3010, sub := 0x1, ni := 24, ty := .u32, acc := .rwl, map := .reg 0x40000000 0x100 0 32, cls := .g, group := 4 },
  { idx := 0x3010, sub := 0x2, ni := 24, ty := .u8, acc := .rw, map := .reg 0x40000004 0x100 0 3 },
  { idx := 0x3010, sub := 0x3, ni := 24, ty := .u32, acc := .ro, map := .reg 0x40000008 0x100 0 32 },
  { idx := 0x3010, sub := 0x4, ni := 24, ty := .u32, acc := .rwl, map := .reg 0x40000010 0x100 0 32, cls := .g, group := 4 },
  { idx := 0x3010, sub := 0x5, ni := 24, ty := .u32, acc := .rwl, map := .reg 0x40000014 0x100 0 32, cls := .g, group := 4 },
  { idx := 0x3010, sub := 0x6, ni := 24, ty := .u16, acc := .rwl, map := .reg 0x40000018 0x100 0 11, cls := .g, group := 4 },
  { idx := 0x3010, sub := 0x7, ni := 24, ty := .u32, acc := .rwl, map := .reg 0x4000001C 0x100 0 32, cls := .g, group := 4 },
  { idx := 0x3010, sub := 0x8, ni := 24, ty := .u8, acc := .rwl, map := .reg 0x40000020 0x100 0 8, cls := .g, group := 4 },
  { idx := 0x3010, sub := 0x9, ni := 24, ty := .u8, acc := .rwl, map := .reg 0x40000024 0x100 0 4, cls := .g, group := 4 },
  { idx := 0x3010, sub := 0xA, ni := 24, ty := .u64, acc := .rw, map := .regs 0x40000040 0x100 2 0x0 },
  { idx := 0x3010, sub := 0xB, ni := 24, ty := .u64, acc := .rw, map := .regs 0x40000048 0x100 2 0x0 },
  { idx := 0x3010, sub := 0xC, ni := 24, ty := .u64, acc := .rw, map := .regs 0x40000050 0x100 2 0x0 },
  { idx := 0x3010, sub := 0xD, ni := 24, ty := .i32, acc := .ro, map := .special },
  { idx := 0x3010, sub := 0xE, ni := 24, ty := .u32, acc := .rw, map := .reg 0x4000002C 0x100 0 32 },
  { idx := 0x3010, sub := 0xF, ni := 24, ty := .u16, acc := .rw, map := .reg 0x40000030 0x100 0 13 },
  { idx := 0x3100, sub := 0x1, ty := .u32, acc := .ro, map := .reg 0x41000000 0x0 0 24 },
  { idx := 0x3100, sub := 0x2, ty := .u32, acc := .rw, map := .reg 0x41000004 0x0 0 24 },
  { idx := 0x3100, sub := 0x3, ty := .u32, acc := .rw, map := .reg 0x41000008 0x0 0 24 },
  { idx := 0x3100, sub := 0x4, ty := .u16, acc := .rw, map := .reg 0x4100000C 0x0 0 16 },
  { idx := 0x3100, sub := 0x5, ty := .u8, acc := .wo, map := .reg 0x41000010 0x0 0 8 },
  { idx := 0x3100, sub := 0x6, ty := .u32, acc := .ro, map := .reg 0x41000014 0x0 0 24 },
  { idx := 0x3100, sub := 0x7, ty := .u32, acc := .rw, map := .reg 0x41000018 0x0 0 24 },
  { idx := 0x3100, sub := 0x8, ty := .u32, acc := .ro, map := .reg 0x4100001C 0x0 0 24 },
  { idx := 0x3100, sub := 0x9, ty := .u32, acc := .rw, map := .reg 0x41000020 0x0 0 24 },
  { idx := 0x3100, sub := 0xA, ty := .u32, acc := .rw, map := .reg 0x41000024 0x0 0 24 },
  { idx := 0x3110, sub := 0x1, ni := 16, ty := .u8, acc := .rwl, map := .reg 0x41000080 0x8 0 8, cls := .g, group := 5 },
  { idx := 0x3110, sub := 0x2, ni := 16, ty := .u32, acc := .rwl, map := .reg 0x41000084 0x8 0 32, cls := .g, group := 5 },
  { idx := 0x3120, sub := 0x1, ni := 12, ty := .u32, acc := .rwl, map := .reg 0x41000100 0x4 0 32, cls := .g, group := 5 },
  { idx := 0x3130, sub := 0x1, ni := 24, ty := .u32, acc := .rwl, map := .reg 0x41000200 0x10 0 32, cls := .g, group := 5 },
  { idx := 0x3130, sub := 0x2, ni := 24, ty := .u32, acc := .rwl, map := .reg 0x41000204 0x10 0 32, cls := .g, group := 5 },
  { idx := 0x3130, sub := 0x3, ni := 24, ty := .u32, acc := .ro, map := .reg 0x41000208 0x10 0 32 },
  { idx := 0x3130, sub := 0x4, ni := 24, ty := .u32, acc := .ro, map := .reg 0x4100020C 0x10 0 32 } ]

/-- The SAR entries (05 Table 5-7), the modulator entries (06 Table 6-3) and the comparator entries (07 Table 7-8). -/
def entries4 : List Entry := [
  { idx := 0x4000, sub := 0x1, ty := .u8, acc := .rwl, map := .reg 0x42000004 0x0 0 2, cls := .g, group := 1 },
  { idx := 0x4000, sub := 0x2, ty := .bool, acc := .ro, map := .reg 0x42000004 0x0 8 1 },
  { idx := 0x4000, sub := 0x3, ty := .u16, acc := .rwl, map := .reg 0x42000000 0x0 0 16, cls := .g, group := 1 },
  { idx := 0x4001, sub := 0x1, ty := .bool, acc := .rw, map := .reg 0x42000008 0x0 0 1 },
  { idx := 0x4001, sub := 0x2, ty := .u8, acc := .rw, map := .reg 0x42000008 0x0 8 8 },
  { idx := 0x4001, sub := 0x3, ty := .u32, acc := .ro, map := .reg 0x4200000C 0x0 0 32 },
  { idx := 0x4001, sub := 0x4, ty := .u32, acc := .rw, map := .reg 0x42000010 0x0 0 32 },
  { idx := 0x4001, sub := 0x5, ty := .u32, acc := .ro, map := .reg 0x42000014 0x0 0 32 },
  { idx := 0x4010, sub := 0x1, ni := 16, ty := .u32, acc := .rwl, map := .reg 0x42000100 0x20 0 32, cls := .g, group := 1 },
  { idx := 0x4010, sub := 0x2, ni := 16, ty := .u32, acc := .rwl, map := .reg 0x42000104 0x20 0 32, cls := .g, group := 1 },
  { idx := 0x4010, sub := 0x3, ni := 16, ty := .u32, acc := .ro, map := .reg 0x4200010C 0x20 0 32 },
  { idx := 0x4030, sub := 0x1, ni := 17, ty := .u32, acc := .ro, map := .reg 0x42000408 0x10 0 32 },
  { idx := 0x4100, sub := 0x1, ty := .u32, acc := .rwl, map := .reg 0x43000000 0x0 0 32, cls := .g, group := 2 },
  { idx := 0x4100, sub := 0x2, ty := .u32, acc := .rwl, map := .reg 0x43000004 0x0 0 32, cls := .g, group := 2 },
  { idx := 0x4100, sub := 0x3, ty := .u32, acc := .ro, map := .reg 0x43000008 0x0 0 32 },
  { idx := 0x4108, sub := 0x1, ni := 6, ty := .u32, acc := .rwl, map := .reg 0x43000020 0x4 0 32, cls := .g, group := 2 },
  { idx := 0x4110, sub := 0x1, ni := 24, ty := .u32, acc := .rwl, map := .reg 0x43000100 0x20 0 32, cls := .g, group := 2 },
  { idx := 0x4110, sub := 0x2, ni := 24, ty := .u16, acc := .rw, map := .reg 0x43000104 0x20 0 16, cls := .g, group := 2 },
  { idx := 0x4110, sub := 0x3, ni := 24, ty := .u32, acc := .rw, map := .reg 0x43000108 0x20 0 32, cls := .g, group := 2 },
  { idx := 0x4110, sub := 0x4, ni := 24, ty := .u32, acc := .rwl, map := .reg 0x4300010C 0x20 0 17, cls := .g, group := 2 },
  { idx := 0x4110, sub := 0x5, ni := 24, ty := .bool, acc := .wo, map := .reg 0x4300010C 0x20 17 1 },
  { idx := 0x4110, sub := 0x6, ni := 24, ty := .u32, acc := .ro, map := .reg 0x43000110 0x20 0 32 },
  { idx := 0x4200, sub := 0x1, ty := .u16, acc := .rw, map := .reg 0x44000000 0x0 0 16 },
  { idx := 0x4200, sub := 0x2, ty := .u8, acc := .rw, map := .reg 0x44000004 0x0 0 8 },
  { idx := 0x4208, sub := 0x1, ni := 8, ty := .u32, acc := .rwl, map := .reg 0x44000020 0x4 0 32, cls := .g, group := 3 },
  { idx := 0x4208, sub := 0x2, ni := 8, ty := .u8, acc := .ro, map := .reg 0x44000040 0x8 0 8 },
  { idx := 0x4208, sub := 0x3, ni := 8, ty := .u32, acc := .ro, map := .reg 0x44000044 0x8 0 32 },
  { idx := 0x4210, sub := 0x1, ni := 48, ty := .u32, acc := .rw, map := .reg 0x44000100 0x10 0 32, cls := .g, group := 3 },
  { idx := 0x4210, sub := 0x2, ni := 48, ty := .u32, acc := .rwl, map := .reg 0x44000104 0x10 0 27, cls := .g, group := 3 },
  { idx := 0x4210, sub := 0x3, ni := 48, ty := .u8, acc := .rwl, map := .reg 0x44000108 0x10 0 8, cls := .g, group := 3 },
  { idx := 0x4210, sub := 0x4, ni := 48, ty := .bool, acc := .wo, map := .reg 0x44000104 0x10 27 1 },
  { idx := 0x4210, sub := 0x5, ni := 48, ty := .u32, acc := .ro, map := .reg 0x4400010C 0x10 0 32 } ]

/-- The Lesson-engine entries (10 Table 10-13). -/
def entries5 : List Entry := [
  { idx := 0x5000, sub := 0x1, ty := .u32, acc := .rwl, map := .reg 0x45000000 0x0 0 32, cls := .g, group := 6 },
  { idx := 0x5000, sub := 0x2, ty := .u32, acc := .rwl, map := .reg 0x45000004 0x0 0 32, cls := .g, group := 6 },
  { idx := 0x5000, sub := 0x3, ty := .u32, acc := .rwl, map := .reg 0x45000008 0x0 0 32, cls := .g, group := 6 },
  { idx := 0x5000, sub := 0x4, ty := .u8, acc := .rw, map := .reg 0x4500000C 0x0 0 3 },
  { idx := 0x5000, sub := 0x5, ty := .u32, acc := .ro, map := .reg 0x45000010 0x0 0 32 },
  { idx := 0x5000, sub := 0x6, ty := .u32, acc := .ro, map := .reg 0x45000018 0x0 0 32 },
  { idx := 0x5001, sub := 0x1, ty := .u32, acc := .ro, map := .reg 0x45000020 0x0 0 32 },
  { idx := 0x5001, sub := 0x2, ty := .u8, acc := .rw, map := .reg 0x45000024 0x0 0 4 },
  { idx := 0x5010, sub := 0x1, ni := 12, ty := .u32, acc := .rwl, map := .reg 0x45000100 0x20 0 32, cls := .g, group := 7 },
  { idx := 0x5010, sub := 0x2, ni := 12, ty := .bool, acc := .rw, map := .reg 0x45000104 0x20 0 1 },
  { idx := 0x5010, sub := 0x3, ni := 12, ty := .bool, acc := .wo, map := .reg 0x45000104 0x20 1 1 },
  { idx := 0x5010, sub := 0x4, ni := 12, ty := .u32, acc := .ro, map := .reg 0x45000108 0x20 0 32 },
  { idx := 0x5010, sub := 0x5, ni := 12, ty := .u32, acc := .ro, map := .reg 0x4500010C 0x20 0 32 },
  { idx := 0x5010, sub := 0x6, ni := 12, ty := .u32, acc := .ro, map := .reg 0x45000110 0x20 0 32 },
  { idx := 0x5010, sub := 0x7, ni := 12, ty := .u32, acc := .ro, map := .reg 0x45000114 0x20 0 32 },
  { idx := 0x5010, sub := 0x8, ni := 12, ty := .u32, acc := .rwl, map := .reg 0x45000118 0x20 0 32, cls := .g, group := 7 },
  { idx := 0x5020, sub := 0x1, ni := 12, ty := .domain, acc := .rwl, map := .window 0 0x2000, cls := .g, group := 7 },
  { idx := 0x5020, sub := 0x2, ni := 12, ty := .domain, acc := .rwl, map := .window 0x3F80 0x80, cls := .g, group := 7 },
  { idx := 0x5020, sub := 0x3, ni := 12, ty := .domain, acc := .rwl, map := .window 0x2000 0x1F80, cls := .g, group := 7 },
  { idx := 0x5020, sub := 0x4, ni := 12, ty := .domain, acc := .wo, map := .special } ]

/-- The Bursar entries (13 Table 13-8) and the duplex entries (14 Table 14-9). -/
def entries7 : List Entry := [
  { idx := 0x7000, sub := 0x1, ty := .u16, acc := .rwl, map := .reg 0x46000000 0x0 0 9, cls := .g, group := 12 },
  { idx := 0x7000, sub := 0x2, ty := .u8, acc := .wo, map := .reg 0x46000004 0x0 0 8 },
  { idx := 0x7000, sub := 0x3, ty := .u8, acc := .rw, map := .reg 0x46000010 0x0 0 5 },
  { idx := 0x7000, sub := 0x4, ty := .u16, acc := .rw, map := .reg 0x4600000C 0x0 0 11, cls := .g, group := 12 },
  { idx := 0x7000, sub := 0x5, ty := .bool, acc := .wo, map := .reg 0x4600000C 0x0 11 1 },
  { idx := 0x7001, sub := 0x1, ty := .u32, acc := .rwl, map := .reg 0x46000018 0x0 0 32, cls := .g, group := 12 },
  { idx := 0x7001, sub := 0x2, ns := 4, ty := .u32, acc := .ro, map := .regs 0x46000024 0x0 1 0x4 },
  { idx := 0x7001, sub := 0x6, ns := 4, ty := .r32, acc := .rwl, map := .regs 0x46000034 0x0 1 0x4, cls := .g, group := 12 },
  { idx := 0x7001, sub := 0xA, ty := .u32, acc := .ro, map := .reg 0x4600001C 0x0 0 32 },
  { idx := 0x7001, sub := 0xB, ty := .bool, acc := .wo, map := .reg 0x46000020 0x0 0 1 },
  { idx := 0x7010, sub := 0x1, ni := 8, ty := .u32, acc := .rwl, map := .reg 0x46000100 0x40 0 32, cls := .g, group := 12 },
  { idx := 0x7010, sub := 0x2, ni := 8, ty := .u32, acc := .rwl, map := .reg 0x46000104 0x40 0 32, cls := .g, group := 12 },
  { idx := 0x7010, sub := 0x3, ni := 8, ty := .u32, acc := .rwl, map := .reg 0x46000108 0x40 0 32, cls := .g, group := 12 },
  { idx := 0x7010, sub := 0x4, ni := 8, ty := .r32, acc := .rwl, map := .reg 0x4600010C 0x40 0 32, cls := .g, group := 12 },
  { idx := 0x7010, sub := 0x5, ni := 8, ty := .r32, acc := .rwl, map := .reg 0x46000110 0x40 0 32, cls := .g, group := 12 },
  { idx := 0x7010, sub := 0x6, ni := 8, ty := .r32, acc := .rwl, map := .reg 0x46000114 0x40 0 32, cls := .g, group := 12 },
  { idx := 0x7010, sub := 0x7, ni := 8, ty := .u32, acc := .rwl, map := .reg 0x46000118 0x40 0 32, cls := .g, group := 12 },
  { idx := 0x7010, sub := 0x8, ni := 8, ty := .u32, acc := .rwl, map := .reg 0x4600011C 0x40 0 32, cls := .g, group := 12 },
  { idx := 0x7010, sub := 0x10, ni := 8, ty := .r32, acc := .rwl, map := .reg 0x46000120 0x40 0 32, cls := .g, group := 12 },
  { idx := 0x7010, sub := 0x11, ni := 8, ty := .r32, acc := .rwl, map := .reg 0x46000124 0x40 0 32, cls := .g, group := 12 },
  { idx := 0x7010, sub := 0x12, ni := 8, ty := .r32, acc := .rwl, map := .reg 0x46000800 0x40 0 32, cls := .g, group := 12 },
  { idx := 0x7010, sub := 0x13, ni := 8, ty := .r32, acc := .rwl, map := .reg 0x46000804 0x40 0 32, cls := .g, group := 12 },
  { idx := 0x7010, sub := 0x14, ni := 8, ty := .i16, acc := .rwl, map := .reg 0x46000808 0x40 0 16, cls := .g, group := 12 },
  { idx := 0x7010, sub := 0x15, ni := 8, ty := .r32, acc := .rwl, map := .reg 0x46000128 0x40 0 32, cls := .g, group := 12 },
  { idx := 0x7010, sub := 0x16, ni := 8, ty := .r32, acc := .rwl, map := .reg 0x4600012C 0x40 0 32, cls := .g, group := 12 },
  { idx := 0x7010, sub := 0x17, ni := 8, ty := .r32, acc := .rwl, map := .reg 0x46000810 0x40 0 32, cls := .g, group := 12 },
  { idx := 0x7010, sub := 0x18, ni := 8, ty := .r32, acc := .rwl, map := .reg 0x46000814 0x40 0 32, cls := .g, group := 12 },
  { idx := 0x7010, sub := 0x19, ni := 8, ty := .i16, acc := .rwl, map := .reg 0x46000818 0x40 0 16, cls := .g, group := 12 },
  { idx := 0x7010, sub := 0x1A, ni := 8, ty := .r32, acc := .rwl, map := .reg 0x46000130 0x40 0 32, cls := .g, group := 12 },
  { idx := 0x7010, sub := 0x1B, ni := 8, ty := .r32, acc := .rwl, map := .reg 0x46000134 0x40 0 32, cls := .g, group := 12 },
  { idx := 0x7010, sub := 0x1C, ni := 8, ty := .r32, acc := .rwl, map := .reg 0x46000820 0x40 0 32, cls := .g, group := 12 },
  { idx := 0x7010, sub := 0x1D, ni := 8, ty := .r32, acc := .rwl, map := .reg 0x46000824 0x40 0 32, cls := .g, group := 12 },
  { idx := 0x7010, sub := 0x1E, ni := 8, ty := .i16, acc := .rwl, map := .reg 0x46000828 0x40 0 16, cls := .g, group := 12 },
  { idx := 0x7020, sub := 0x1, ni := 8, ty := .domain, acc := .ro, map := .special },
  { idx := 0x7020, sub := 0x2, ni := 8, ns := 16, ty := .u64, acc := .ro, map := .regs 0x46001010 0x100 2 0x8 },
  { idx := 0x7030, sub := 0x1, ni := 8, ty := .domain, acc := .ro, map := .special },
  { idx := 0x8000, sub := 0x1, ty := .u8, acc := .rwl, map := .reg 0x47000000 0x0 0 3, cls := .g, group := 13 },
  { idx := 0x8000, sub := 0x2, ty := .u16, acc := .rwl, map := .reg 0x47000004 0x0 0 10, cls := .g, group := 13 },
  { idx := 0x8000, sub := 0x3, ty := .u8, acc := .rwl, map := .reg 0x47000004 0x0 10 3, cls := .g, group := 13 },
  { idx := 0x8000, sub := 0x4, ty := .u8, acc := .rwl, map := .reg 0x47000018 0x0 0 6, cls := .g, group := 13 },
  { idx := 0x8000, sub := 0x5, ty := .u32, acc := .rwl, map := .reg 0x4700001C 0x0 0 32, cls := .g, group := 13 },
  { idx := 0x8000, sub := 0x6, ty := .u16, acc := .rw, map := .reg 0x47000030 0x0 0 16, cls := .g, group := 13 },
  { idx := 0x8000, sub := 0x7, ty := .u16, acc := .rw, map := .reg 0x47000030 0x0 16 16, cls := .g, group := 13 },
  { idx := 0x8001, sub := 0x1, ty := .u32, acc := .rw, map := .reg 0x47000010 0x0 0 32 },
  { idx := 0x8001, sub := 0x2, ty := .u32, acc := .ro, map := .reg 0x47000014 0x0 0 32 },
  { idx := 0x8001, sub := 0x3, ty := .u64, acc := .ro, map := .special },
  { idx := 0x8001, sub := 0x4, ty := .u32, acc := .ro, map := .reg 0x47000028 0x0 0 32 },
  { idx := 0x8001, sub := 0x5, ty := .u32, acc := .ro, map := .reg 0x47000034 0x0 0 32 },
  { idx := 0x8001, sub := 0x6, ty := .u32, acc := .ro, map := .reg 0x47000038 0x0 0 32 },
  { idx := 0x8001, sub := 0x7, ty := .u32, acc := .ro, map := .reg 0x4700003C 0x0 0 32 },
  { idx := 0x8002, sub := 0x1, ty := .u8, acc := .wo, map := .special },
  { idx := 0x8003, sub := 0x1, ns := 4, ty := .domain, acc := .ro, map := .special } ]

/-- The integrity entries (15 Table 15-11), the Library entries (16 Table 16-8), the security entries (17 Table 17-10) and the Prefect entries (18 Table 18-6). -/
def entries9 : List Entry := [
  { idx := 0x9000, sub := 0x1, ty := .u16, acc := .rw, map := .reg 0x48000000 0x0 0 11, cls := .s },
  { idx := 0x9000, sub := 0x2, ty := .u16, acc := .rw, map := .reg 0x48000004 0x0 0 10 },
  { idx := 0x9000, sub := 0x3, ty := .u32, acc := .ro, map := .reg 0x48000008 0x0 0 32 },
  { idx := 0x9000, sub := 0x4, ty := .u8, acc := .wo, map := .reg 0x4800000C 0x0 0 5 },
  { idx := 0x9000, sub := 0x5, ty := .u16, acc := .rw, map := .reg 0x48000018 0x0 0 16, cls := .s },
  { idx := 0x9010, sub := 0x1, ni := 8, ty := .u32, acc := .rw, map := .reg 0x48000020 0x10 0 32, cls := .s },
  { idx := 0x9010, sub := 0x2, ni := 8, ty := .u32, acc := .ro, map := .reg 0x48000024 0x10 0 32 },
  { idx := 0x9010, sub := 0x3, ni := 8, ty := .u32, acc := .ro, map := .reg 0x48000028 0x10 0 32 },
  { idx := 0x9010, sub := 0x4, ni := 8, ty := .u32, acc := .ro, map := .reg 0x4800002C 0x10 0 32 },
  { idx := 0x9021, sub := 0x1, ni := 7, ty := .u64, acc := .ro, map := .regs 0x48000100 0x8 2 0x0 },
  { idx := 0x9030, sub := 0x1, ty := .domain, acc := .ro, map := .special },
  { idx := 0x9040, sub := 0x1, ty := .domain, acc := .ro, map := .special },
  { idx := 0xA000, sub := 0x1, ty := .u8, acc := .rw, map := .reg 0x49000000 0x0 0 2 },
  { idx := 0xA000, sub := 0x2, ty := .u8, acc := .rw, map := .reg 0x49000004 0x0 0 6 },
  { idx := 0xA000, sub := 0x3, ty := .u32, acc := .ro, map := .reg 0x49000008 0x0 0 32 },
  { idx := 0xA000, sub := 0x4, ty := .u32, acc := .rw, map := .reg 0x4900000C 0x0 0 32, cls := .s },
  { idx := 0xA000, sub := 0x5, ty := .u32, acc := .rw, map := .reg 0x49000010 0x0 0 32, cls := .s },
  { idx := 0xA000, sub := 0x6, ty := .u32, acc := .rw, map := .reg 0x49000014 0x0 0 32, cls := .s },
  { idx := 0xA000, sub := 0x7, ty := .u64, acc := .ro, map := .regs 0x49000018 0x0 2 0x0 },
  { idx := 0xA010, sub := 0x1, ni := 9, ty := .domain, acc := .ro, map := .special },
  { idx := 0xA020, sub := 0x1, ty := .domain, acc := .ro, map := .special },
  { idx := 0xB000, sub := 0x1, ty := .u32, acc := .rw, map := .reg 0x4A000000 0x0 0 32 },
  { idx := 0xB000, sub := 0x2, ty := .domain, acc := .ro, map := .regs 0x4A000008 0x0 4 0x0 },
  { idx := 0xB000, sub := 0x3, ty := .u32, acc := .ro, map := .reg 0x4A000018 0x0 0 32 },
  { idx := 0xB000, sub := 0x4, ty := .u8, acc := .rw, map := .reg 0x4A000030 0x0 0 2 },
  { idx := 0xB000, sub := 0x5, ty := .u64, acc := .ro, map := .regs 0x4A000028 0x0 2 0x0 },
  { idx := 0xB001, sub := 0x1, ty := .domain, acc := .wo, map := .special },
  { idx := 0xB001, sub := 0x2, ty := .u8, acc := .ro, map := .reg 0x4A000024 0x0 0 8 },
  { idx := 0xB010, sub := 0x1, ty := .domain, acc := .ro, map := .special },
  { idx := 0xB011, sub := 0x1, ty := .domain, acc := .ro, map := .special },
  { idx := 0xB020, sub := 0x1, ty := .domain, acc := .wo, map := .special },
  { idx := 0xB020, sub := 0x2, ty := .domain, acc := .ro, map := .special },
  { idx := 0xC000, sub := 0x1, ty := .u8, acc := .ro, map := .reg 0x4D000000 0x0 0 3 },
  { idx := 0xC000, sub := 0x2, ty := .u32, acc := .ro, map := .reg 0x4D000000 0x0 0 32 },
  { idx := 0xC000, sub := 0x3, ty := .u32, acc := .ro, map := .reg 0x4D000004 0x0 0 32 },
  { idx := 0xC000, sub := 0x4, ty := .domain, acc := .ro, map := .regs 0x4D000008 0x0 4 0x0 },
  { idx := 0xC000, sub := 0x5, ty := .u32, acc := .ro, map := .reg 0x4D000018 0x0 0 32 },
  { idx := 0xC000, sub := 0x6, ty := .u32, acc := .ro, map := .reg 0x4D00001C 0x0 0 32 },
  { idx := 0xC000, sub := 0x7, ty := .domain, acc := .ro, map := .special } ]

/-- The entries of chapters 11 and 12 that are no settings (11 Tables 11-5 and 11-6, 12 Tables 12-5 and 12-6). -/
def entries6 : List Entry := [
  { idx := 0x6000, sub := 0x4, ty := .u8, acc := .ro, map := .special },
  { idx := 0x6000, sub := 0x5, ty := .u16, acc := .ro, map := .special },
  { idx := 0x6000, sub := 0x6, ty := .u32, acc := .ro, map := .special },
  { idx := 0x6000, sub := 0x7, ty := .bool, acc := .ro, map := .special },
  { idx := 0x6009, sub := 0x1, ns := 14, ty := .r32, acc := .ro, map := .special },
  { idx := 0x6009, sub := 0x10, ty := .domain, acc := .ro, map := .special },
  { idx := 0x6100, sub := 0x3, ty := .u8, acc := .ro, map := .special },
  { idx := 0x6100, sub := 0x4, ty := .u16, acc := .ro, map := .special },
  { idx := 0x6100, sub := 0x5, ty := .u32, acc := .ro, map := .special },
  { idx := 0x6103, sub := 0x1, ty := .r32, acc := .ro, map := .special },
  { idx := 0x6103, sub := 0x2, ty := .bool, acc := .ro, map := .special },
  { idx := 0x6103, sub := 0x3, ns := 5, ty := .r32, acc := .ro, map := .special },
  { idx := 0x6103, sub := 0x8, ty := .u32, acc := .ro, map := .special },
  { idx := 0x6200, sub := 0x5, ty := .u8, acc := .rw, map := .special },
  { idx := 0x6200, sub := 0x6, ty := .u32, acc := .ro, map := .special },
  { idx := 0x6210, sub := 0x2, ni := 12, ty := .u8, acc := .ro, map := .special },
  { idx := 0x6210, sub := 0x3, ni := 12, ns := 5, ty := .r32, acc := .ro, map := .special } ]

/-- The entry that a description of the dictionary's own stands for: RWL settings and the persisted ones of 11 R296 and
12 R315 are of class G, commands and 0x2200 are not persisted, and 0x1200 is of class S. -/
def VarDesc.entry (d : VarDesc) : Entry :=
  let command := (d.idx = 0x6000 && d.sub = 3) || (d.idx = 0x6100 && d.sub = 2)
  let cls : Persist :=
    if d.idx = 0x1200 then .s
    else if d.lock then .g
    else if command || d.idx = 0x2200 || (d.idx = 0x6004 && d.sub = 3) then .v
    else .g
  { idx := d.idx, sub := d.sub, ni := d.ni, ns := d.n, ty := d.ty, acc := if d.lock then .rwl else .rw, map := .var
    cls := cls, group := d.group }

/-- Every entry of the dictionary. -/
def allEntries : List Entry :=
  entries1 ++ entries2 ++ entries3 ++ entries4 ++ entries5 ++ entries6 ++ (gridVars ++ curveVars ++ islVars ++ mpptVars).map VarDesc.entry
    ++ entries7 ++ entries9

/-- The entry at an index and subindex. -/
def entryAt (idx sub : Nat) : Option Entry :=
  allEntries.find? (fun e => e.idx ≤ idx && idx < e.idx + e.ni && e.sub ≤ sub && sub < e.sub + e.ns)

/-- The register addresses an entry maps to, the low word first. -/
def Entry.addrs (e : Entry) (idx sub : Nat) : List Nat :=
  match e.map with
  | .reg a st _ _ => [a + st * (idx - e.idx)]
  | .regs a st n ss => (List.range n).map (fun k => a + st * (idx - e.idx) + ss * (sub - e.sub) + 4 * k)
  | _ => []

/-- The entry is one that the variant has (00 R6, 08 R225, 18 R444). -/
def State.entryFitted (s : State) (e : Entry) (idx sub : Nat) : Bool :=
  let regs := (e.addrs idx sub).all (fun a => match regAt 0 a with
    | some (r, i) => !s.regAbsent r i
    | none => false)
  if 0xC000 ≤ idx then s.prefectFitted || sub = 1
  else if 0x3010 ≤ idx && idx < 0x3028 && 0xE ≤ sub then s.isHead (idx - 0x3010)
  else if 0x3010 ≤ idx && idx < 0x3028 then s.hasPm (idx - 0x3010)
  else if 0x6210 ≤ idx && idx < 0x621C then idx - 0x6210 < s.fld .FUSE_RES_MPPT_CNT
  else if 0x7020 ≤ idx && idx < 0x7028 && 2 ≤ sub then idx < 0x7024 || sub < 6
  else regs

/-- The entry at an index and subindex that exists in the variant. -/
def State.entry (s : State) (idx sub : Nat) : Option Entry :=
  (entryAt idx sub).filter (fun e => s.entryFitted e idx sub)

/-- The subindexes of an index that exist. -/
def State.subs (s : State) (idx : Nat) : List Nat :=
  allEntries.flatMap (fun e => if e.idx ≤ idx && idx < e.idx + e.ni then
    ((List.range e.ns).map (fun k => e.sub + k)).filter (fun x => s.entryFitted e idx x) else [])

/-- The index exists, with some subindex (20 R471). -/
def State.indexExists (s : State) (idx : Nat) : Bool := !(s.subs idx).isEmpty

/-- Bytes of a type; 0 for the types whose length the entry states (20 Table 20-3). -/
def ObjTy.size : ObjTy → Nat
  | .bool | .u8 => 1
  | .u16 | .i16 => 2
  | .u32 | .i32 | .r32 => 4
  | .u48 => 6
  | .u64 => 8
  | .str | .domain => 0

/-- The type code of Table 20-3. -/
def ObjTy.code : ObjTy → Nat
  | .bool => 1 | .i16 => 3 | .i32 => 4 | .u8 => 5 | .u16 => 6 | .u32 => 7 | .u48 => 0x19 | .u64 => 0x1B | .r32 => 8
  | .str => 9 | .domain => 0xF

/-- The function group of an entry: the engine groups by engine (20 Table 20-6). -/
def Entry.groupAt (e : Entry) (idx : Nat) : Nat := if e.group = 7 then engGroup (idx - e.idx) else e.group

/-- The value of an own entry as a read shows it: the pending value while its group is open (20 R486). -/
def State.varShown (s : State) (e : Entry) (idx sub : Nat) : Nat :=
  let v := s.var idx sub
  if e.group != 0 && s.groupOpen e.group then ((s.group e.group).pendVars.find (idx, sub)).getD v else v

/-- Word `w` of engine `n`'s window as a read of the dictionary shows it (20 R486). -/
def State.windowShown (s : State) (n w : Nat) : Nat :=
  let g := engGroup n
  if s.groupOpen g then ((s.group g).pendVars.find (windowKey n w)).getD (s.engWord n w) else s.engWord n w

/-- The bytes of an entry that maps to registers, an own value or a window; none for the others. -/
def State.mappedBytes (s : State) (e : Entry) (idx sub : Nat) : List Nat :=
  match e.map with
  | .reg _ _ lo w => leBytes e.ty.size (bits (s.wordAt 0 ((e.addrs idx sub).headD 0)) lo w)
  | .regs .. =>
    let l := (e.addrs idx sub).flatMap (fun a => leBytes 4 (s.wordAt 0 a))
    if e.ty.size = 0 then l else l.take e.ty.size
  | .var => leBytes e.ty.size (s.varShown e idx sub)
  | .window first n => (List.range n).flatMap (fun k => leBytes 4 (s.windowShown (idx - e.idx) (first + k)))
  | .special => []

/-- Bits of a register that hold settings: its RW and RWL fields. -/
def RegDesc.settingMask (r : RegDesc) : Nat :=
  r.fields.foldl (fun a fa => if fa.fld.acc = .rwl || fa.fld.acc = .rw then a ||| ((2 ^ fa.fld.width - 1) * 2 ^ fa.lo) else a) 0

/-- The bytes of a persisted entry: as a read shows it, without the bits that are no settings. -/
def State.storedBytes (s : State) (e : Entry) (idx sub : Nat) : List Nat :=
  match e.map with
  | .reg a _ lo w =>
    let addr := (e.addrs idx sub).headD a
    let m := match regAt 0 addr with
      | some (r, _) => r.settingMask
      | none => 0
    leBytes e.ty.size (bits (s.wordAt 0 addr &&& m) lo w)
  | _ => s.mappedBytes e idx sub

/-- The entries of a group's set (class G) or, for group 0, the class S entries, in ascending order. -/
def State.setEntries (s : State) (g : Nat) : List (Nat × Nat × Entry) :=
  let l := allEntries.flatMap (fun e =>
    if (if g = 0 then e.cls = .s else e.cls = .g) then
      (List.range e.ni).flatMap (fun i => (List.range e.ns).filterMap (fun k =>
        if (g = 0 || e.groupAt (e.idx + i) = g) && s.entryFitted e (e.idx + i) (e.sub + k) then
          some (e.idx + i, e.sub + k, e) else none))
    else [])
  l.mergeSort (fun a b => keyLt (a.1, a.2.1) (b.1, b.2.1) || (a.1 == b.1 && a.2.1 == b.2.1))

/-- The entry list of R492 as a byte string, with the values that `val` gives. -/
def State.entryList (s : State) (g : Nat) (val : Entry → Nat → Nat → List Nat) : List Nat :=
  (s.setEntries g).flatMap (fun x =>
    let b := val x.2.2 x.1 x.2.1
    leBytes 2 x.1 ++ [x.2.1] ++ leBytes 4 b.length ++ b)

/-- The default of a persisted entry: the Reset column of the fields it maps to, or its own default (20 R470). -/
def State.defaultBytes (s : State) (e : Entry) (idx sub : Nat) : List Nat :=
  let word (a : Nat) : Nat := match regAt 0 a with
    | some (r, i) => r.fields.foldl (fun x fa =>
        if fa.fld.acc = .rwl || fa.fld.acc = .rw then x + fa.fld.reset i * 2 ^ fa.lo else x) 0
    | none => 0
  match e.map with
  | .reg _ _ lo w => leBytes e.ty.size (bits (word ((e.addrs idx sub).headD 0)) lo w)
  | .regs .. => ((e.addrs idx sub).flatMap (fun a => leBytes 4 (word a))).take e.ty.size
  | .var => leBytes e.ty.size (s.varDefault idx sub)
  | .window _ n => List.replicate (4 * n) 0
  | .special => []

/-- The parameter record of a group (20 R492): group number, set sequence, entries. -/
def paramRecord (g seq : Nat) (entries : List Nat) : List Nat := [g % 256] ++ leBytes 4 seq ++ entries

/-- The low 32 bits of a configuration hash: the last four bytes of the digest as a big-endian number (20 R492). -/
def configHash (entries : List Nat) : Nat := ofBe ((sha256 entries).drop 28)

/-- The entries of a record, read back: index, subindex and value; it stops at a list that does not parse. -/
def parseEntries : Nat → List Nat → List (Nat × Nat × List Nat)
  | 0, _ => []
  | fuel + 1, l =>
    let n := ofLe ((l.drop 3).take 4)
    if l.length < 7 || l.length < 7 + n then []
    else (ofLe (l.take 2), l.getD 2 0, (l.drop 7).take n) :: parseEntries fuel (l.drop (7 + n))

end Sys2Proof.Machine
end

