-- ==== Sys2Proof/Machine/Apply.lean ====
section
/-!
DEFINITION. The APPLY Bell at which a validated set takes effect (20 R487 to R490), and the parameter records (20 R492).
-/
namespace Sys2Proof.Machine

/-! ### Parameter records -/

/-- A parameter record of group `g` (0 for class S) is handed to the Library; UNSTORED until its commit, with event 0x24,
queued once for the record, where the Library is not ready (20 R492). -/
def State.storeRecord (s : State) (g seq : Nat) (entries : List Nat) : State :=
  let s := (s.modGroup g (fun p => { p with unstored := true }))
  let s := { s with dict := { s.dict with unstored := g :: s.dict.unstored.filter (fun x => x != g) } }
  let s := s.when (!s.flag .LIB_STAT_READY) (fun s => s.mgmtEvent 0x24 g 0 0)
  s.libSubmit { client := if g = 8 then 3 else 2, area := 4, type := 0x02, payload := paramRecord g seq entries
                again := !s.flag .LIB_STAT_READY }

/-- The record of the class S entries as they stand. -/
def State.storeClassS (s : State) : State := s.storeRecord 0 0 (s.entryList 0 s.storedBytes)

/-! ### APPLY -/

/-- The pending set takes the place of the set in force (20 R487). RWL settings of a PWM module whose counter runs wait for its
next period start (08 R224). -/
def State.takePending (s : State) (g : Nat) : State :=
  let p := s.group g
  let s := s.modGroup g (fun p => { p with pend := [], pendVars := [] })
  let s := s.each p.pend (fun s e =>
    let (f, i) := e.1
    if g = 4 && s.flag .PWM_RUN_CNT_EN i then s.modPm i (fun q => { q with wait := q.wait.put f i e.2 })
    else s.setLocked f i e.2)
  s.each p.pendVars (fun s e =>
    if 0x10000 ≤ e.1.1 then s.setEngWord (e.1.1 - 0x10000) e.1.2 e.2 else s.setVar e.1.1 e.1.2 e.2)

/-- A change of HP_CTRL.MODE (14 R340; assumption log, entry 26): to Split, the Wing that holds the pass keeps it as its own and
the standby goes to BOOT; to Duplex, one Wing keeps its pass, Wing A where both hold one, and the other goes to BOOT. -/
def State.modeApplied (s : State) (was : Bool) : State :=
  if s.split == was then s else
  let keep := if s.pass .a then Wing.a else .b
  let leaves (w : Wing) : Bool := s.wing w != .off && s.wing w != .failed && !(s.pass w && w == keep)
  let s := s.each [Wing.a, Wing.b] (fun s w => s.when (leaves w) (fun s =>
    ((s.setPass w false).setLease w 0).setWing w .boot))
  let s := { s with dup := { s.dup with waking := 0, windowA := none, windowB := none, handover := .none } }
  s.standbyReserve false

/-- What each group does beside taking its set, from the state before: SAR, modulator, comparator, PWM, lesson timer, engines,
grid, islanding, MPPT, Bursar and duplex (20 Table 20-6). -/
def State.applyHook (s was : State) (g : Nat) : State :=
  match g with
  | 1 => s.sarApplied (was.fld .SAR_REF_SEL)
  | 2 => s.modApplied (was.fld .MOD_CTRL_CH_EN) ((List.range 24).map (fun n =>
      (was.fld .MOD_CFG_ORDER n, was.fld .MOD_CFG_OSR n, was.fld .MOD_CFG_GOSR n, was.fld .MOD_GCFG_GEN n)))
  | 3 => s.compApplied ((List.range 48).map (fun c => was.fld .WC_CFG_MODE c))
  | 4 => s.each (List.range 24) State.pwmApplied
  | 6 =>
    let s := s.setFlag .LT_STAT_HEADMODE 0 (s.fld .LT_CFG_SRC = 2)
    { s with eng := { s.eng with divCount := 0 } }
  | 7 | 8 =>
    let s := s.each ((List.range 12).filter (fun n => engGroup n = g)) (fun s n =>
      s.modEngine n (fun e => { e with first := s.flag .LE_CTRL_EN n, image := none, subs := List.replicate 32 {} }))
    s.when (s.ship.grid.installed && engGroup (s.var 0x6000 1) = g) State.gridSync
  | 9 => s.gridApplied
  | 10 => s.islApplied
  | 11 => s.mpptApplied (was.var 0x6200 3)
  | 12 => s.bursarApplied was
  | 13 => s.modeApplied was.split
  | _ => s

/-- The standby's copy of a set of groups 0x09 to 0x0B (20 R490). -/
def State.mirrorSet (s : State) (g : Nat) (pend old : SMap) : State :=
  match s.holder with
  | some w =>
    if s.split || pend.isEmpty then s
    else if s.wing w.other == .cold then s.standbyLeft g old else s
  | none => s

/-- The APPLY Bell of group `g` (20 R487, R492): the set takes effect, the group is RUNNING, the set sequence increments, the
record goes to the Library, and a held command follows. -/
def State.applyGroup (s : State) (g : Nat) : State :=
  if (s.group g).st != .applying then s else
  let was := s
  let pend := (s.group g).pendVars
  let old : SMap := pend.map (fun e => (e.1, s.var e.1.1 e.1.2))
  let s := (s.takePending g).applyHook was g
  let s := s.when (9 ≤ g && g ≤ 11) (fun s => s.mirrorSet g pend old)
  let entries := s.entryList g s.storedBytes
  let s := s.modGroup g (fun p => { p with
    st := .running, seq := (p.seq + 1) % 2 ^ 32, hash := configHash entries, valRes := 0 })
  let s := s.when (!(s.group g).joint) (fun s => s.mgmtEvent 0x20 g 0 0)
  let s := (s.answer (s.group g).restartAbort).tellAskers g
  let s := s.modGroup g (fun p => { p with restartAbort := 0, joint := false })
  let s := s.storeRecord g (s.group g).seq entries
  s.releaseHeld g

/-- An APPLY of one group, or of the groups of a joint mask (GROUP 0xFF), with class S stored once (20 R487, R488, R492). -/
def State.applyBell (s : State) (group mask : Nat) : State :=
  if group = 0xFF then
    let s := s.each (bitsOf 14 mask) (fun s g => s.applyGroup g)
    ({ s with dict := { s.dict with joint := none } } : State).mgmtEvent 0x20 0xFF 0 0 |>.storeClassS
  else if (s.group group).st == .applying then (s.applyGroup group).storeClassS else s

end Sys2Proof.Machine
end

