-- ==== Sys2Proof/Machine/RollCall.lean ====
section
/-!
DEFINITION. The Report Card (20 R496) and the Roll Call summary (20 R494, Table 20-11).
-/
namespace Sys2Proof.Machine

/-- The word of the register at an address, as Tutor core 0 reads it. -/
def State.reg (s : State) (addr : Nat) : Nat := s.wordAt 0 addr

/-- Consecutive bit flags as a number, bit 0 first. -/
def flagsOf (l : List Bool) : Nat := (l.zip (List.range l.length)).foldl (fun a b => setBitTo a b.2 b.1) 0

/-- A Substitute engine site is not free (10 R273). -/
def State.substBusy (s : State) (w : Wing) : Bool := s.fld (substMap w) != 0xF || s.flag (substRet w)

/-- Some spare level is below its floor, or a Satchel bank is out of service (15 R387). -/
def State.belowFloor (s : State) : Bool :=
  (List.range 7).any (fun k => s.spare .REPC_REM_REMAIN (k + 1) < s.spare .REPC_REM_FLOOR (k + 1) || s.thin (k + 1))
    || s.fld .SAT_BANK_INSERV != 0xFFFF

/-- Reserve flags of the Report Card (20 Table 20-13, 0x2100:02). -/
def State.reserveFlags (s : State) : Nat :=
  flagsOf [s.flag .CLK_STAT_E_SEL, !(s.flag .BELL_STAT_ROOT0_OK && s.flag .BELL_STAT_ROOT1_OK),
    s.dup.voters.any (fun v => v.retired), s.spare .REPC_REM_REMAIN 5 = 0, s.flag .SAR_CAL_ROT_STOP,
    s.substBusy .a, s.substBusy .b, !s.integ.exhausted.isEmpty, s.belowFloor,
    s.ct.openKnown != 0 || s.fld .OPEN_GRP != 0, s.flag .HP_STAT_STALE, s.flag .CT_STAT_STFLT,
    !s.flag .SEC_STAT_PUF_OK, s.prefectFitted && 64 ≤ s.pf.slots.length,
    s.fld .LIB_CNT1_SPARE < s.fld .LIB_WL_FREE_MIN, s.fld .INT_STAT_OVERDUE != 0,
    (List.range 86).any (fun i => s.flag .AGE_WARN i)]

/-- The highest AGE_i.SLOW. -/
def State.slowest (s : State) : Nat := (List.range 86).foldl (fun a i => max a (s.fld .AGE_SLOW i)) 0

/-- One spare level of the Report Card: TOTAL, CONSUMED, REMAIN, FLOOR. -/
def State.levelBytes (s : State) (l : Nat) : List Nat :=
  leBytes 2 (s.spare .REPC_SHIP_TOTAL l) ++ leBytes 2 (s.spare .REPC_SHIP_CONSUMED l) ++ leBytes 2 (s.spare .REPC_REM_REMAIN l)
    ++ leBytes 2 (s.spare .REPC_REM_FLOOR l)

/-- The Report Card summary, 64 bytes (20 Table 20-13, 0x2100:01). -/
def State.reportCard (s : State) : List Nat :=
  leBytes 4 s.reserveFlags ++ (List.range 7).flatMap (fun k => s.levelBytes (k + 1)) ++ leBytes 2 (s.fld .SAT_BANK_INSERV)
    ++ leBytes 2 s.slowest

/-- 0x1018:03: the stepping and the low half of the serving Wing's image version (20 Table 20-14). -/
def State.revision (s : State) (w : Wing) : Nat :=
  s.fld .FUSE_VARIANT_STEP * 2 ^ 16 + (((s.image w).map (fun i => i.version)).getD 0) % 2 ^ 16

/-- The last discard, 24 bytes (20 Table 20-11, offsets 328 to 351). -/
def State.lastDiscard (s : State) : List Nat :=
  let d := s.dict.discard
  [d.reason, 0, 0, 0] ++ leBytes 4 d.epoch ++ leBytes 8 d.time ++ leBytes 4 d.detail ++ leBytes 4 s.dict.discards

/-- Bit `m` for each module whose flag `f` is set. -/
def State.moduleMask (s : State) (f : Fld) : Nat := (List.range 24).foldl (fun a m => setBitTo a m (s.flag f m)) 0

/-- Bit `n` for each engine whose flag `f` is set. -/
def State.engineMask (s : State) (f : Fld) : Nat := (List.range 12).foldl (fun a n => setBitTo a n (s.flag f n)) 0

/-- The Roll Call summary without its CRC (20 Table 20-11). -/
def State.rollCallBody (s : State) (w : Wing) : List Nat :=
  leBytes 2 1 ++ leBytes 2 384 ++ leBytes 4 s.productCode ++ leBytes 4 s.sec.serial ++ leBytes 4 (s.revision w)
    ++ [s.fld .FUSE_VARIANT_STEP, s.fld .FUSE_VARIANT_VARIANT, 0, 0]
    ++ leBytes 4 (s.fld .RING_EPOCH) ++ leBytes 8 s.tb ++ leBytes 6 s.clk.rtc ++ [0, 0]
    ++ [s.reg 0x47000000 % 8, s.fld .HP_STAT_HOLDER, s.fld .HP_STAT_STATEA, s.fld .HP_STAT_STATEB]
    ++ leBytes 2 (s.fld .HP_LREM_LREMA) ++ leBytes 2 (s.fld .HP_LREM_LREMB)
    ++ leBytes 4 (s.fld .HP_AGE) ++ leBytes 4 (s.reg 0x47000010) ++ leBytes 4 (s.fld .LT_COUNT) ++ leBytes 4 (s.fld .LT_LEN_LEN)
    ++ (List.range 16).map s.groupByte
    ++ (List.range 16).flatMap (fun g => leBytes 4 (s.group g).seq)
    ++ (List.range 16).flatMap (fun g => leBytes 4 (s.group g).hash)
    ++ leBytes 4 (s.reg 0x44000000 % 2 ^ 16) ++ leBytes 4 (s.fld .GI_LOCKED_LOCK) ++ leBytes 4 (s.fld .GI_SHUT_BUSY)
    ++ leBytes 4 (s.moduleMask .PWM_STAT_TRIPL) ++ leBytes 4 (s.moduleMask .PWM_RUN_OUTEN)
    ++ leBytes 2 (s.engineMask .LE_STAT_FAULT) ++ leBytes 2 (s.engineMask .LE_STAT_OVRLIM)
    ++ (if s.prefectFitted then [s.fld .PF_STAT_STATE, s.fld .PF_STAT_FCAUSE] else [0, 0])
    ++ [s.ship.grid.st % 256, s.ship.isl.st % 256] ++ leBytes 2 s.ship.grid.trip ++ leBytes 2 s.ship.isl.trip
    ++ leBytes 4 (s.reg 0x4C000400) ++ leBytes 4 (s.reg 0x4C001000)
    ++ [s.fld .PORT_FLT_FLT, s.reg 0x49000004 % 64, s.reg 0x46000010 % 32, 0]
    ++ leBytes 4 (s.reg 0x48000004) ++ leBytes 4 (s.reg 0x4A000000)
    ++ s.reportCard ++ [0, 0, 0, 0] ++ s.lastDiscard ++ leBytes 4 s.ports.eseq ++ leBytes 4 (s.fld .HP_SEQL)
    ++ List.replicate 20 0

/-- The Roll Call summary, 384 bytes. -/
def State.rollCallSummary (s : State) (w : Wing) : List Nat :=
  let l := s.rollCallBody w
  l ++ leBytes 4 (crc32 l)

end Sys2Proof.Machine
end

