-- ==== Sys2Proof/Machine/Bell.lean ====
section
/-!
DEFINITION. The Bell: requests and the Bells that carry them (01 R32 to R38), PERIOD Bells of the lesson timer (10 R257, R258),
barriers, and the Roll Call assembly that rides on one (20 R494).
-/
namespace Sys2Proof.Machine

/-! ### Roots and requests -/

/-- Some root is in service, so Bells are issued (01 R32, R44). -/
def State.bellsRing (s : State) : Bool := s.flag .BELL_STAT_ROOT0_OK || s.flag .BELL_STAT_ROOT1_OK

/-- The barrier identifier that marks the Roll Call's own barrier; the Bell word carries its low 8 bits. -/
def rollCallId : Nat := 0x1FF

/-- The next APPLY request that may ride: one of the gate group waits while a gate shutdown runs, and others pass it
(09 R242). -/
def State.nextApply (s : State) : Option BellReq :=
  nextTurn s.bell.lastApply (s.bell.applyQ.filter (fun r =>
    !((r.what = 5 || (r.what = 0xFF && r.mask.testBit 5)) && s.fld .GI_SHUT_BUSY != 0)))

/-- The next BARRIER request that may ride. -/
def State.nextBarrier (s : State) : Option BellReq := nextTurn s.bell.lastBarrier s.bell.barrierQ

/-- The word of the next Bell (01 Table 1-9, R36): one APPLY if `apply`, and one LATCH and one BARRIER unless the APPLY is a
joint one. -/
def State.nextWord (s : State) (period apply : Bool) : BellWord :=
  let a := if apply then s.nextApply else none
  let joint := match a with | some r => r.what == 0xFF | none => false
  let l := if joint then none else s.bell.latchQ.head?
  let b := if joint then none else s.nextBarrier
  { period := period, apply := a.isSome, latch := l.isSome, barrier := b.isSome,
    group := (a.map BellReq.what).getD 0, jointMask := if joint then (a.map BellReq.mask).getD 0 else 0,
    points := l.getD 0, barrierId := (b.map BellReq.what).getD 0, seq := (s.fld .BELL_STAT_SEQ + 1) % 2 ^ 16 }

/-- The 64 bits of a Bell word (01 Table 1-9): a joint APPLY has its group mask in place of POINTS and BARRIER_ID. -/
def BellWord.bits (w : BellWord) : Nat :=
  let kind := w.period.toNat + 2 * w.snapshot.toNat + 4 * w.apply.toNat + 8 * w.latch.toNat + 16 * w.barrier.toNat
    + 32 * w.test.toNat
  let high := if w.apply && w.group = 0xFF then w.jointMask % 2 ^ 16 else w.points % 2 ^ 8 + w.barrierId % 2 ^ 8 * 2 ^ 8
  let low := kind + w.group % 2 ^ 8 * 2 ^ 8 + high * 2 ^ 16 + w.seq % 2 ^ 16 * 2 ^ 32
  low + crc16 48 low * 2 ^ 48

/-- The list without its first occurrence of a request. -/
def takeOut (r : Option BellReq) (l : List BellReq) : List BellReq :=
  match r with
  | some x => l.erase x
  | none => l

/-- A Bell leaves the root: its requests wait no longer, and BELL_STAT.SEQ is its number. -/
def State.ring (s : State) (w : BellWord) : State :=
  let b := s.bell
  let s := s.setFld .BELL_STAT_SEQ 0 w.seq
  let a := if w.apply then s.nextApply else none
  let r := if w.barrier then s.nextBarrier else none
  { s with bell := { b with
    lastWord := w
    sent := w.bits
    applyQ := takeOut a b.applyQ
    lastApply := (a.map BellReq.who).getD b.lastApply
    latchQ := if w.latch then b.latchQ.drop 1 else b.latchQ
    barrierQ := takeOut r b.barrierQ
    lastBarrier := (r.map BellReq.who).getD b.lastBarrier } }

/-! ### Barriers -/

/-- The Wing's sites are waited for (01 R37): not OFF, COLD or FAILED, and its PLL runs. -/
def State.wingAnswers (s : State) (w : Wing) : Bool :=
  s.wing w != .off && s.wing w != .cold && s.wing w != .failed && s.wingClock w

/-- A barrier waits for site `i` (01 R37, Table 1-8). -/
def State.siteWaited (s : State) (i : Nat) : Bool :=
  if i < 12 then s.wingAnswers (if i < 6 then .a else .b) && !s.bit .LE_MAP_RET 0 i
  else if i = 12 then s.wingAnswers .a && !s.flag .LE_MAP_SEA_RET
  else if i = 13 then s.wingAnswers .b && !s.flag .LE_MAP_SEB_RET
  else if i < 18 then s.wingAnswers (coreWing (i - 14)) && !s.tut.heldReset.testBit (i - 14)
  else if i < 35 then !s.sliceRetired (i - 18) && !s.domainHeld 5
  else if i < 41 then s.hasMd (4 * (i - 35)) && !s.domainHeld 5
  else if i < 45 then s.hasPm (6 * (i - 41)) && !s.edgeHeld
  else if i = 45 || i = 58 then !s.edgeHeld
  else if i < 48 || i = 53 then !s.domainHeld 4
  else if i < 53 then !s.ports.held.testBit (i - 48) && !s.domainHeld 4
  else if i < 58 then s.hasWc (12 * (i - 54)) && !s.domainHeld 5
  else i < 60

/-- The sites a barrier waits for, by bit. -/
def State.sitesWaited (s : State) : Nat := (List.range 60).foldl (fun a i => setBitTo a i (s.siteWaited i)) 0

/-- A Bell with BARRIER starts a barrier; the Roll Call's captures the summary (01 R37, R38; 20 R494). -/
def State.barrierBell (s : State) (ident : Nat) : State :=
  let b : Barrier := { id := ident, waited := s.sitesWaited }
  let s := { s with bell := { s.bell with barriers := s.bell.barriers ++ [b] } }
  match ident == rollCallId, s.dict.rollCall with
  | true, some w => { s with dict := { s.dict with summary := s.rollCallSummary w } }
  | _, _ => s

/-- The assembled summary answers everyone who awaits it (20 R494). -/
def State.tellRollCall (s : State) : State :=
  let l := s.dict.rollAskers
  let data := s.dict.summary
  let s := { s with dict := { s.dict with rollAskers := [] } }
  s.each l (fun s a => match a with
    | .core _ => s
    | _ => s.tell a 0 data)

/-- A read of 0x2000:01 asks for an assembly; one that runs serves it too (20 R494). With no root in service no Bell can be
asked, and the summary is assembled as the blocks stand. -/
def State.askRollCall (s : State) (w : Wing) : State :=
  if s.dict.rollCall.isSome then s
  else if s.bellsRing then
    ({ s with dict := { s.dict with rollCall := some w, summary := [] } } : State).requestBarrier 4 rollCallId
  else State.tellRollCall { s with dict := { s.dict with summary := s.rollCallSummary w } }

/-- The fault epoch an assembled summary shows. -/
def summaryEpoch (l : List Nat) : Nat := ofLe ((l.drop 20).take 4)

/-- The Roll Call's barrier has ended (20 R494): the summary stands, unless the epoch has advanced since its Bell, when it is
assembled again. -/
def State.rollCallEnds (s : State) : State :=
  match s.dict.rollCall with
  | some w =>
    let s := { s with dict := { s.dict with rollCall := none } }
    if summaryEpoch s.dict.summary = s.fld .RING_EPOCH then s.tellRollCall else s.askRollCall w
  | none => s

/-- The oldest barrier ends (01 R37). -/
def State.barrierEnds (s : State) (f : State → Barrier → State) : State :=
  match s.bell.barriers with
  | b :: r =>
    let s := { s with bell := { s.bell with barriers := r } }
    let s := f (s.setFld .BELL_STAT_BAR_ID 0 b.id) b
    s.when (b.id == rollCallId) State.rollCallEnds
  | [] => s

/-- BARRIER_COMPLETE (01 R37): the last waited-for site has acknowledged. -/
def execBarrierComplete (s : State) : Out :=
  .next (s.barrierEnds (fun s _ => (s.setFld .BELL_STAT_BAR_DONE 0 1).setFld .BELL_BART 0 s.ts))

/-- BARRIER_TIMEOUT (01 R37): BAR_TO, the missing sites by bit, and event 0x05. A site not waited for is never missing. -/
def execBarrierTimeout (missing : Nat) (s : State) : Out :=
  .next (s.barrierEnds (fun s b =>
    let m := missing &&& b.waited
    let s := (s.setFld .BELL_STAT_BAR_TO 0 1).setFld .BELL_MISS0 0 m
    (s.setFld .BELL_MISS1 0 (m / 2 ^ 32)).event .caretaker 0x05 0 (b.id % 256)))

/-! ### What a Bell does at its listeners -/

/-- APPLY, LATCH and BARRIER of a Bell at their listeners. -/
def State.bellRequests (s : State) (w : BellWord) : State :=
  let s := s.when w.apply (fun s => s.applyBell w.group w.jointMask)
  let s := s.when w.latch (fun s => s.bursarLatch w.points s.ts)
  s.when w.barrier (fun s => s.barrierBell w.barrierId)

/-- LEHALT of both Wings, by engine bit (21 R518). -/
def State.leHaltMask (s : State) : Nat := s.fld .TUT_DBG_LEHALT 0 + s.fld .TUT_DBG_LEHALT 2 * 2 ^ 6

/-- LEHALT takes effect at a PERIOD Bell (21 R518): set bits halt their engines, cleared ones resume them with FIRST = 0. -/
def State.haltEngines (s : State) : State :=
  let m := s.leHaltMask
  let back := bitsOf 12 (maskOff s.tut.leHalted m)
  let s := s.each back (fun s n => s.modEngine n (fun e => { e with first := false }))
  State.settlePads { s with tut := { s.tut with leHalted := m } }

/-- The lesson timer's registers at a PERIOD Bell (10 R257): LT_COUNT, LT_LAST and LT_LEN. A period longer than LT_LEN holds
has no stated length. -/
def State.countBell (s : State) : State :=
  let s := s.setFld .LT_COUNT 0 (s.fld .LT_COUNT + 1)
  let s := match s.eng.lastBell with
    | some t =>
      if s.tb - t < 2 ^ 20 then s.setFld .LT_LEN_LEN 0 (s.tb - t)
      else let (v, s) := s.fresh 20; s.setFld .LT_LEN_LEN 0 v
    | none => s
  let s := s.setFld .LT_LAST 0 s.ts
  { s with eng := { s.eng with lastBell := some s.tb, divCount := 0 } }

/-- SNAPSHOT rides on a PERIOD Bell (01 R36): its count is a multiple of CADENCE, or it is the handover Bell. -/
def State.snapshotDue (s : State) : Bool :=
  s.fld .LT_COUNT % s.fld .BELL_CFG_CADENCE = 0 || s.dup.handover == .pending 1

/-- The origin of a chain sends a chain Bell at its lesson timer's Bell (01 R41); during training it waits (19 R467). -/
def State.chainOut (s : State) : State :=
  if !s.flag .BELL_COMP_ORIGIN || !s.portOn 4 then s
  else if s.trains then { s with ports := { s.ports with bellWaits := true } }
  else s.syncSend [.bell]

/-- A PERIOD Bell (01 R36; 10 R257, R260; 14 R350 to R356): the runs of the period end, takeover and handover act, the
requests that ride are carried out, and the runs of the new period are due on the engines of the Wings in ACTIVE. -/
def State.periodBell (s : State) : State :=
  if !s.bellsRing then s else
  let s := s.countBell
  let w := { s.nextWord true true with snapshot := s.snapshotDue }
  let s := (s.ring w).enginesEnd
  let s := s.settleEntering.takeoverBell
  let was := s.dup.handover
  let s := s.handoverBell
  let handed := was != .copying && s.dup.handover == .copying
  let s := s.bellRequests { w with latch := false, barrier := false }
  let s := s.when (s.fld .LT_COUNT % s.fld .BELL_CFG_CADENCE = 0 && !handed) (fun s => s.snapshotBell false)
  let s := s.bellRequests { w with apply := false }
  let s := (((s.raise .a 8).raise .b 8).haltEngines).chainOut.bellOccurs
  if handed then s else s.enginesDue (List.range 12)

/-- A Bell for requests alone (01 R36): APPLY only while the lesson timer issues no PERIOD Bells. -/
def State.bellAlone (s : State) : State :=
  if !s.bellsRing then s else
  let w := s.nextWord false (s.fld .LT_CFG_SRC = 0)
  if w.apply || w.latch || w.barrier then (s.ring w).bellRequests w else s

/-- A Bell of any kind but PERIOD, with the requests that may ride. -/
def State.plainBell (s : State) : State :=
  if !s.bellsRing then s else
  let w := s.nextWord false (s.fld .LT_CFG_SRC = 0)
  (s.ring w).bellRequests w

/-- A chain Bell is relayed and emitted locally (01 R41). The pulse carries no word, and the spec does not say whether the
Bell emitted is a PERIOD Bell: that bit is free (assumption log, entry 28). -/
def State.chainHere (s : State) : State :=
  let (k, s) := (s.syncSend [.bell]).fresh 1
  if k = 1 then s.periodBell else s.plainBell

/-- CHAIN_BELL (01 R41): a unit that is not the origin relays and emits it; during training it waits (19 R467). -/
def execChainBell (s : State) : Out :=
  .next (if s.flag .BELL_COMP_ORIGIN || !s.portOn 4 then s
    else if s.trains then { s with ports := { s.ports with bellWaits := true } }
    else s.chainHere)

/-- Training has ended (19 R451, R467): a chain Bell that waited goes on. -/
def State.trainingEnds (s : State) (t : Training) : State :=
  let waits := s.ports.bellWaits
  let s := { s with ports := { s.ports with training := t, hopStart := none, bellWaits := false } }
  if !waits then s else if s.flag .BELL_COMP_ORIGIN then s.syncSend [.bell] else s.chainHere

/-! ### The commands -/

/-- The timer fires at this tick without a head event (10 R257, R258): from the timebase where it is LT_MATCH.CNT modulo LT_PER,
and in fallback LT_PER ticks after the last Bell. No tick issues two. -/
def State.timerFires (s : State) : Bool :=
  if s.eng.lastBell == some s.tb then false
  else if s.fld .LT_CFG_SRC = 1 then s.tb % s.fld .LT_PER_PER == s.fld .LT_MATCH_CNT
  else s.fld .LT_CFG_SRC = 2 && !s.flag .LT_STAT_HEADMODE &&
    (match s.eng.lastBell with | some t => s.tb == t + s.fld .LT_PER_PER | none => true)

/-- PERIOD_BELL (10 R257, R258): the timer fires from the timebase, or in fallback. -/
def execPeriodBell (s : State) : Out := .next (if s.timerFires then s.periodBell else s)

/-- The head module's count CNT in this direction is a head event (10 R257). -/
def State.headDirection (s : State) (m : Nat) (falling : Bool) : Bool :=
  s.fld .PWM_CTRL_CMODE m != 2 || s.fld .LT_MATCH_CNT = 0 || s.fld .LT_MATCH_CNT = s.per m || s.flag .LT_CFG_DIR == falling

/-- A head event of module `m` (10 R257): the lesson timer follows this head module, whose counter runs and stands at CNT in the
direction asked for. -/
def State.headOccurs (s : State) (m : Nat) (falling : Bool) : Bool :=
  s.fld .LT_CFG_SRC = 2 && m = 6 * s.fld .LT_CFG_HEAD && s.counts m && !s.overwritten m (s.fld .LT_MATCH_CNT)
    && s.headDirection m falling

/-- HEAD_EVENT (10 R257, R258): it counts towards DIV; the (DIV + 1)th issues the Bell unless less than 3200 ticks have gone
since the last. -/
def execHeadEvent (m : Nat) (falling : Bool) (s : State) : Out :=
  .next (
    if !s.headOccurs m falling then s
    else
      let n := s.eng.divCount + 1
      if n ≤ s.fld .LT_CFG_DIV then { s with eng := { s.eng with divCount := n } }
      else if (match s.eng.lastBell with | some t => decide (s.tb < t + 3200) | none => false) then
        ({ s with eng := { s.eng with divCount := 0 } } : State).setFld .LT_STAT_SKIPPED 0 1
      else (({ s with eng := { s.eng with divCount := 0 } } : State).setFld .LT_STAT_HEADMODE 0 1).periodBell)

/-- 640 000 ticks have gone since the last Bell (10 R258). -/
def State.bellLate (s : State) : Bool :=
  match s.eng.lastBell with
  | some t => t + 640000 ≤ s.tb
  | none => true

/-- LESSON_FALLBACK (10 R258): a Bell, FALLBACK and event 0x58; Bells every LT_PER follow until a head event takes over. -/
def execLessonFallback (s : State) : Out :=
  .next (if s.fld .LT_CFG_SRC = 2 && s.flag .LT_STAT_HEADMODE && s.bellLate then
      let s := (s.setFld .LT_STAT_HEADMODE 0 0).periodBell
      (s.setFld .LT_STAT_FALLBACK 0 1).engEvent 0x58 0xF 0 0 0 0 (s.fld .LT_LAST)
    else s)

/-- The address of BELL_REQ (01 R39). -/
def bellReqAddr : Nat := 0x4C002004

/-- A write of BELL_REQ by a requester (01 R36, Table 1-10). -/
def State.bellReqWrite (s : State) (who v : Nat) : State :=
  let group := bits v 8 8
  let joint := v.testBit 2 && group == 0xFF
  let s := s.when (v.testBit 2) (fun s => s.requestApply who group (if joint then bits v 16 16 else 0))
  if joint then s.when (v.testBit 3 || v.testBit 4) (fun s => s.discarded .caretaker bellReqAddr)
  else
    let s := s.when (v.testBit 3) (fun s => s.requestLatch (bits v 16 8))
    s.when (v.testBit 4) (fun s => s.requestBarrier who (bits v 24 8))

/-- BELL_REQ_APPLY (01 R36). -/
def execBellReqApply (core group : Nat) (s : State) : Out :=
  .next (s.accessBlk core .caretaker bellReqAddr (fun s =>
    if group < 255 then s.bellReqWrite (core % 4) (4 + group * 2 ^ 8) else s))

/-- BELL_REQ_JOINT_APPLY (01 R36). -/
def execBellReqJointApply (core mask : Nat) (extra : Bool) (s : State) : Out :=
  .next (s.accessBlk core .caretaker bellReqAddr (fun s =>
    s.bellReqWrite (core % 4) (4 + 0xFF * 2 ^ 8 + extra.toNat * 8 + mask % 2 ^ 16 * 2 ^ 16)))

/-- BELL_REQ_LATCH (01 R36). -/
def execBellReqLatch (core points : Nat) (s : State) : Out :=
  .next (s.accessBlk core .caretaker bellReqAddr (fun s => s.bellReqWrite (core % 4) (8 + points % 256 * 2 ^ 16)))

/-- BELL_REQ_BARRIER (01 R36). -/
def execBellReqBarrier (core ident : Nat) (s : State) : Out :=
  .next (s.accessBlk core .caretaker bellReqAddr (fun s => s.bellReqWrite (core % 4) (16 + ident % 256 * 2 ^ 24)))

/-- BELL_ALONE (01 R36). -/
def execBellAlone (s : State) : Out := .next s.bellAlone

/-! ### Divergence -/

/-- The root bit of BELL_STAT. -/
def rootOk (root : Nat) : Fld := if root = 0 then .BELL_STAT_ROOT0_OK else .BELL_STAT_ROOT1_OK

/-- A root is retired (01 R32, R44): recorded, and the die-level Bell reserve is gone. -/
def State.retireRoot (s : State) (root : Nat) : State :=
  if s.flag (rootOk root) then
    (((s.setFld (rootOk root) 0 0).recordRepair 7 root 0 0).consumeSpare 6).event .caretaker 0x04 0 root
  else s

/-- BELL_COPY_DIVERGENCE (01 R32): counted and reported; the third within 1 s that points to a root retires it. -/
def execBellCopyDivergence (root : Nat) (s : State) : Out :=
  .next (if 2 ≤ root || !s.flag .BELL_STAT_ROOT0_OK || !s.flag .BELL_STAT_ROOT1_OK then s else
    let s := (s.count .BELL_DIV_DIVERGE).event .caretaker 0x04 0 root
    let old := if root = 0 then s.bell.div0 else s.bell.div1
    let times := s.tb :: old.filter (fun t => s.tb < t + tickSecond)
    let s := { s with bell := { s.bell with
      div0 := if root = 0 then times else s.bell.div0, div1 := if root = 0 then s.bell.div1 else times } }
    s.when (decide (3 ≤ times.length)) (fun s => s.retireRoot root))

end Sys2Proof.Machine
end

