-- ==== Sys2Proof/Machine/Clock.lean ====
section
/-!
DEFINITION. The timebase, the phase stepper, SYNC_IN and SYNC_OUT, and the slow oscillators (04). What a PLL, XIN and the
RTC's second reach in other blocks stands in Duties.lean.
-/
namespace Sys2Proof.Machine

/-- One Edge tick (04 R104, R108): the timebase counts, modulo 2^64, and the rate accumulator adds CLK_RATE × 1.5625 as
(held in 1/16 as). -/
def State.edgeTick (s : State) : State :=
  { s with tb := (s.tb + 1) % 2 ^ 64
           clk := { s.clk with rateAcc := s.clk.rateAcc + 25 * s.sfld .CLK_RATE } }

/-- The magnitude at which the rate accumulator takes one step, in 1/16 as (04 R108). -/
def rateStep : Int := 390625000 * 16

/-- The direction in which the rate accumulator asks for a step: +1 shortens a tick, −1 lengthens it (04 R108). -/
def State.rateDemand (s : State) : Int :=
  if rateStep ≤ s.clk.rateAcc then 1 else if s.clk.rateAcc ≤ -rateStep then -1 else 0

/-- The direction in which SYNC_ERR asks for a step, once per SLEW_INT ticks: a local count ahead lengthens a tick
(04 R108, R109). -/
def State.phaseDemand (s : State) : Int :=
  let e := s.sfld .SYNC_ERR_ERR
  if e = 0 || (s.tb + 2 ^ 64 - s.clk.phaseTick) % 2 ^ 64 < s.fld .CLK_SYNC_SLEW_INT then 0
  else if 0 < e then -1 else 1

/-- The step of the rate demand is taken off the accumulator. -/
def State.takeRate (s : State) (d : Int) : State :=
  { s with clk := { s.clk with rateAcc := s.clk.rateAcc - d * rateStep } }

/-- The step of the phase demand is taken off SYNC_ERR. -/
def State.takePhase (s : State) (d : Int) : State :=
  { s.setFld .SYNC_ERR_ERR 0 (ofSigned 24 (s.sfld .SYNC_ERR_ERR + d)) with clk := { s.clk with phaseTick := s.tb } }

/-- One tick is shortened (+1) or lengthened (−1) by one oscillator cycle: later ticks move the other way. -/
def State.moveTick (s : State) (d : Int) : State :=
  { s with clk := { s.clk with moved := s.clk.moved - d, stepAt := some s.tb } }

/-- PHASE_STEP (04 R108): one demand steps; opposite demands of one tick cancel; of two in one direction the second
waits one tick. No tick carries more than one step, and the count is untouched. -/
def execPhaseStep (s : State) : Out :=
  let r := s.rateDemand
  let p := s.phaseDemand
  .next (
    if s.clk.stepAt = some s.tb then s
    else if r ≠ 0 && p ≠ 0 && r + p = 0 then (s.takeRate r).takePhase p
    else if r ≠ 0 then (s.takeRate r).moveTick r
    else if p ≠ 0 then (s.takePhase p).moveTick p
    else s)

/-- TB_LO_READ (04 R104): the low word is returned and the high word latched in the same tick. -/
def execTbLoRead (core : Nat) (s : State) : Out :=
  .next (s.loadBlk core .caretaker 0x4C00101C (fun s =>
    (s.setFld .TB_HI 0 (s.tb / 2 ^ 32)).reads s.ts))

/-- PPS_PULSE (04 R106): with TB_PPS.EN set and the timebase modulo 640 000 000 at PHASE, PPS_OUT goes high. -/
def execPpsPulse (s : State) : Out :=
  .next (if s.flag .TB_PPS_EN && s.tb % 640000000 == s.fld .TB_PPS_PHASE then
    { s with clk := { s.clk with ppsOut := true } }
  else s)

/-- PPS_PULSE_END (04 R106). -/
def execPpsPulseEnd (s : State) : Out := .next { s with clk := { s.clk with ppsOut := false } }

/-- Ticks from the last instant at which the timebase was congruent to SYNC_OFS modulo SYNC_PER. -/
def State.syncPhase (s : State) : Nat :=
  let per := s.fld .SYNC_PER
  (s.tb % per + per - s.fld .SYNC_OFS % per) % per

/-- The signed distance of an edge from the nearest such instant, in oscillator cycles, positive when the local count is
ahead (04 R109); `cycle` is the edge's place in its tick. -/
def State.syncDistance (s : State) (cycle : Nat) : Int :=
  let per := s.fld .SYNC_PER
  let d := s.syncPhase
  if 2 * d ≤ per then (4 * d + cycle : Nat) else (4 * d + cycle : Nat) - (4 * per : Nat)

/-- With OUTEN set and OUTSRC clear, SYNC_OUT relays an edge of SYNC_IN (04 R110). -/
def State.relaySync (s : State) (cycle : Nat) : State :=
  s.when (s.flag .CLK_SYNC_OUTEN && !s.flag .CLK_SYNC_OUTSRC) (fun s =>
    { s with clk := { s.clk with relayed := some (s.tb, cycle) } })

/-- What an edge of SYNC_IN does at oscillator cycle `cycle` of the running tick (04 R109). Off ignores it. ALIGN accepts it only
while no Wing holds the Hall Pass: the output divider is reset, so that the tick begins at the edge and all later ones move with
it, the timebase moves forward to the next count congruent to SYNC_OFS modulo SYNC_PER, and MODE returns to Off; otherwise
REFUSED. TRACK loads SYNC_ERR, or sets REFUSED beyond SYNC_PER / 4. A distance that SYNC_ERR's 24 bits cannot hold is not stated:
the field takes a free value. -/
def State.syncEdge (s : State) (cycle : Nat) : State :=
  let per := s.fld .SYNC_PER
  (match s.fld .CLK_SYNC_MODE with
    | 1 =>
      if s.anyPass then s.setFld .CLK_SYNC_REFUSED 0 1
      else
        let fwd := (per - s.syncPhase) % per
        { s.setFld .CLK_SYNC_MODE 0 0 with
          tb := (s.tb + fwd) % 2 ^ 64, clk := { s.clk with moved := s.clk.moved + cycle } }
    | 2 =>
      let d := s.syncDistance cycle
      if (per : Int) < d || d < -(per : Int) then s.setFld .CLK_SYNC_REFUSED 0 1
      else if -(2 ^ 23) ≤ d && d < 2 ^ 23 then s.setFld .SYNC_ERR_ERR 0 (ofSigned 24 d)
      else
        let (v, s) := s.fresh 24
        s.setFld .SYNC_ERR_ERR 0 v
    | _ => s)

/-- SYNC_IN_EDGE (04 R109, R110). While VIO3 is absent the ball reads its pull and has no edges (02 R55), and without an Edge clock
nothing samples it. -/
def execSyncInEdge (cycle : Nat) (s : State) : Out :=
  .next (if !s.bankOn 3 || s.edgeStopped then s else (s.syncEdge (cycle % 4)).relaySync (cycle % 4))

/-- SYNC_MISSED (04 R109): in TRACK, no edge for 2 × SYNC_PER; MISSED and an event. -/
def execSyncMissed (s : State) : Out :=
  .next (if s.fld .CLK_SYNC_MODE = 2 then
    let s := s.setFld .CLK_SYNC_MISSED 0 1
    s.event .caretaker 0x09 0 s.clkSync
  else s)

/-- SYNC_OUT_PULSE (04 R110): with OUTEN and OUTSRC set, a 16-tick pulse whenever the timebase modulo SYNC_PER is 0. -/
def execSyncOutPulse (s : State) : Out :=
  .next (if s.flag .CLK_SYNC_OUTEN && s.flag .CLK_SYNC_OUTSRC && s.tb % s.fld .SYNC_PER == 0 then
    { s with clk := { s.clk with syncOutAt := some s.tb } }
  else s)

/-- CLK_EN_WRITE (04 R100): discarded with an event if it would stop the PLL of a Wing that holds the pass, or either
PLL in Split mode; otherwise a stopped PLL loses its lock, and a started one searches its band. -/
def State.clkEnWrite (s : State) (a b : Bool) : State :=
  let stops (w : Wing) (f : Fld) (on : Bool) : Bool := !on && s.flag f && (s.pass w || s.split)
  if stops .a .CLK_EN_PLLA_EN a || stops .b .CLK_EN_PLLB_EN b then s.discarded .caretaker 0x4C001004
  else
    let s := (s.setFlag .CLK_EN_PLLA_EN 0 a).setFlag .CLK_EN_PLLB_EN 0 b
    let s := s.when (!a) (fun s => s.setFld .CLK_STAT_A_LK 0 0)
    s.when (!b) (fun s => s.setFld .CLK_STAT_B_LK 0 0)

/-- CLK_EN_WRITE (04 R100). -/
def execClkEnWrite (core : Nat) (a b : Bool) (s : State) : Out := 
  .next (s.accessBlk core .caretaker 0x4C001004 (fun s => s.clkEnWrite a b))

/-- RC_TRIM (04 R111): trimmed when CT_RCTRIM.EN is set and the crystal runs. -/
def execRcTrim (s : State) : Out :=
  .next (s.setFlag .CT_RCTRIM_TRIMMED 0 (s.flag .CT_RCTRIM_EN && s.clk.crystal))

/-- RTC_CRYSTAL_STOP (04 R111): the RTC runs from the RC, which can no longer be trimmed. -/
def execRtcCrystalStop (s : State) : Out :=
  let s := (s.setFld .RTC_SUB_RCSRC 0 1).setFld .CT_RCTRIM_TRIMMED 0 0
  .next { s with clk := { s.clk with crystal := false } }

/-- RTC_CRYSTAL_START (04 R111): the RTC leaves the RC. -/
def execRtcCrystalStart (s : State) : Out :=
  .next { s.setFld .RTC_SUB_RCSRC 0 0 with clk := { s.clk with crystal := true } }

/-- The Caretaker's own oscillators count in every idle step, whatever the PLLs do (04 R103; assumption log, entry 24): the
fraction of the running second counts one in 19 531.25 ticks (R105, R112) and waits at its top for the second. -/
def State.runFraction (s : State) : State :=
  if !s.ct.running then s else
  let q := s.ct.rtcPhase + 4
  if q < 78125 then { s with ct := { s.ct with rtcPhase := q } }
  else
    { s.setFld .RTC_SUB_FRAC 0 (min 0x7FFF (s.fld .RTC_SUB_FRAC + 1)) with ct := { s.ct with rtcPhase := q - 78125 } }

/-- RTC_SUB_READ (04 R114): the fraction is returned, and RTC_SEC and RTC_SECH are latched. -/
def execRtcSubRead (core : Nat) (s : State) : Out :=
  .next (s.loadBlk core .caretaker 0x4C001040 (fun s =>
    let s := (s.setFld .RTC_SEC 0 (s.clk.rtc % 2 ^ 32)).setFld .RTC_SECH_SECH 0 (s.clk.rtc / 2 ^ 32)
    s.reads (s.fld .RTC_SUB_FRAC + 2 ^ 15 * s.fld .RTC_SUB_RCSRC)))

end Sys2Proof.Machine
end

