-- ==== Sys2Proof/Machine/Ports.lean ====
section
/-!
DEFINITION. The ports, the Niujor link and the ring engine (19).
-/
namespace Sys2Proof.Machine

/-! ### Ports -/

/-- The address of a register of the ports block (19 R468). -/
def portAddr (ofs : Nat) : Nat := 0x4B000000 + ofs

/-- Link training starts (19 R451): the origin sends its training word and then its hop pulse; another unit awaits a word. -/
def State.trainStart (s : State) : State :=
  let s := s.setFld .PEER_CFG_TRAINED 0 0
  if s.flag .BELL_COMP_ORIGIN then
    (({ s with ports := { s.ports with training := .hops, hopStart := some s.tb } } : State).setFld .PEER_CFG_POS 0 0).syncSend
      [.word 0, .hop]
  else { s with ports := { s.ports with training := .words, hopStart := none } }

/-- A port starts from its configuration registers (19 R445, R451, R466): no link yet, error counts at 0, PEER trains. -/
def State.portStart (s : State) (p : Nat) : State :=
  if p < 2 then s.setFld .ETH_STAT_LINK p 0
  else if p < 4 then ((s.setFld .CAN_STAT_TEC p 0).setFld .CAN_STAT_REC p 0).setFld .CAN_STAT_STATE p 0
  else s.trainStart

/-- A port is disabled: its link is down, and no training runs. -/
def State.portStop (s : State) (p : Nat) : State :=
  if p < 2 then s.setFld .ETH_STAT_LINK p 0
  else if p = 4 then { s with ports := { s.ports with training := .idle, hopStart := none, bellWaits := false } }
  else s

/-- A write of PORT_EN (19 R445). -/
def State.portEnSet (s : State) (mask : Nat) : State :=
  let was := s.fld .PORT_EN_EN
  let s := s.setFld .PORT_EN_EN 0 mask
  s.each (List.range 5) (fun s p =>
    if mask.testBit p && !was.testBit p then s.portStart p
    else if !mask.testBit p && was.testBit p then s.portStop p
    else s)

/-- PORT_EN_WRITE (19 R445). -/
def execPortEnWrite (core mask : Nat) (s : State) : Out :=
  .next (s.access core (portAddr 0) false (fun s => s.portEnSet mask))

/-- PORT_RESTART (19 R466): 10 µs after its fault the port leaves local reset, restarts if it is enabled, and PORT_FLT is set. -/
def execPortRestart (p : Nat) (s : State) : Out :=
  .next (if p < 5 ∧ s.ports.held.testBit p then
      let s := ({ s with ports := { s.ports with held := setBitTo s.ports.held p false } } : State).setBit .PORT_FLT_FLT 0 p true
      s.when (s.bit .PORT_EN_EN 0 p) (fun s => s.portStart p)
    else s)

/-- ETH_LINK_CHANGE (19 R446): the link comes up with the negotiated speed and duplex, or with those of ETH_CFG where ANEG is 0;
1000 Mbit/s is always full duplex. -/
def execEthLinkChange (p : Nat) (up : Bool) (spd : Nat) (fdx : Bool) (s : State) : Out :=
  .next (if 2 ≤ p ∨ !s.portOn p then s
    else if !up then s.setFld .ETH_STAT_LINK p 0
    else
      let neg := s.flag .ETH_CFG_ANEG p
      let sp := if neg then min spd 2 else s.fld .ETH_CFG_SPEED p
      let fd := sp == 2 || (if neg then fdx else !s.flag .ETH_CFG_HDX p)
      ((s.setFld .ETH_STAT_LINK p 1).setFld .ETH_STAT_SPD p sp).setFlag .ETH_STAT_FDX p fd)

/-! ### Reception -/

/-- The ring engine reads poison, or a retired bank, at a Satchel address (15 R371, R373): it is reported, and the consumer's
outcome follows. -/
def State.ringReadsPoison (s : State) (c : Consumer) (addr : Nat) : State :=
  (s.badRead (satBank (addr - 0x20000000)) addr false).consumerSees c addr

/-- A frame for receive ring `q` (19 R455 to R457): into the descriptor at HEAD, or dropped and counted where none is free. A
descriptor that reads as poison completes with ERRCODE 0x01 and is a port fault (19 R466). -/
def State.receive (s : State) (q : Nat) (frame : List Nat) (matched ts : Nat) (drop : State → State) : State :=
  let i := s.fld .RING_HEAD_HEAD q
  match s.freeDesc q with
  | some d => s.produce q { d with matched := matched } frame ts
  | none =>
    if s.flag .RING_CFG_EN q && !s.flag .RING_STAT_HALT q && (s.desc q i).isNone then
      (s.setFld .RING_HEAD_HEAD q ((i + 1) % s.ringSize q)).ringReadsPoison (.descriptor q i) (s.descAddr q i)
    else drop (s.count .RING_STAT_DROP q)

/-- An Ethernet frame is for port `p` (19 R446): its own MAC address, broadcast or multicast, or PROMISC. -/
def State.ethAccepts (s : State) (p : Nat) (frame : List Nat) : Bool :=
  s.flag .ETH_CFG_PROMISC p || (frame.getD 0 0).testBit 0
    || ofBe (frame.take 6) == s.fld .ETH_MACL p + s.fld .ETH_MACH_MAC p * 2 ^ 32

/-- ETH_FRAME_RECEIVE (19 R446). -/
def execEthFrameReceive (p : Nat) (frame : List Nat) (fcsOk : Bool) (ts : Nat) (s : State) : Out :=
  .next (if 2 ≤ p ∨ !s.portOn p ∨ 1518 < frame.length then s
    else if !fcsOk then s.count .ETH_STAT_FCSERR p
    else if s.ethAccepts p frame then s.receive (2 * p) frame 0 ts (fun s => s.count .ETH_STAT_RXDROP p)
    else s)

/-- The enabled filters of a CAN port that match an identifier (19 R448). -/
def State.canMatches (s : State) (p ident : Nat) (ide : Bool) : List Nat :=
  (List.range 32).filter (fun k =>
    let i := 32 * p + k
    s.flag .CAN_FLT_EN i && s.flag .CAN_FLT_IDE i == ide
      && (ident ^^^ s.fld .CAN_FLT_ID i) &&& s.fld .CAN_MSK_MASK i == 0)

/-- The filter that accepts a frame: the first that matches, or 0 where none is enabled. -/
def State.canFilter (s : State) (p ident : Nat) (ide : Bool) : Option Nat :=
  if (List.range 32).all (fun k => !s.flag .CAN_FLT_EN (32 * p + k)) then some 0 else (s.canMatches p ident ide).head?

/-- CAN_STAT.STATE follows the counts of a controller that is not bus-off (19 R448). -/
def State.canState (s : State) (p : Nat) : State :=
  s.setFld .CAN_STAT_STATE p (if 127 < s.fld .CAN_STAT_TEC p ∨ 127 < s.fld .CAN_STAT_REC p then 1 else 0)

/-- A received frame, or an error frame at a receiver, moves REC (ISO 11898-1; assumption log, entry 29). -/
def State.canRec (s : State) (p : Nat) (err : Bool) : State :=
  let r := s.fld .CAN_STAT_REC p
  (s.setFld .CAN_STAT_REC p (if err then min 255 (r + 1) else if 127 < r then 127 else r - 1)).canState p

/-- A frame sent, or an error frame at the transmitter, moves TEC; above 255 the controller is bus-off (ISO 11898-1;
assumption log, entry 29). -/
def State.canTec (s : State) (p : Nat) (err : Bool) : State :=
  let t := s.fld .CAN_STAT_TEC p
  if err && 247 < t then (s.setFld .CAN_STAT_TEC p 255).setFld .CAN_STAT_STATE p 2
  else (s.setFld .CAN_STAT_TEC p (if err then t + 8 else t - 1)).canState p

/-- The 8-byte header of a CAN frame in a buffer (19 R456). -/
def canHeader (ident : Nat) (ide fdf brs esi rtr : Bool) (dlc : Nat) : List Nat :=
  leBytes 4 (ident % 2 ^ 29 + ide.toNat * 2 ^ 29 + fdf.toNat * 2 ^ 30 + brs.toNat * 2 ^ 31)
    ++ leBytes 4 (esi.toNat + rtr.toNat * 2 + dlc % 16 * 4)

/-- A CAN frame reaches its receive ring if a filter accepts it (19 R448, R456). -/
def State.canStore (s : State) (p : Nat) (header data : List Nat) (ts : Nat) : State :=
  let w := ofLe (header.take 4)
  match s.canFilter p (w % 2 ^ 29) (w.testBit 29) with
  | some k => s.receive (2 * p) (header ++ data) k ts id
  | none => s

/-- CAN_FRAME_RECEIVE (19 R448): FD frames only while FDEN is 1; none while the controller is bus-off. -/
def execCanFrameReceive (p ident : Nat) (ide fdf brs esi rtr : Bool) (dlc : Nat) (data : List Nat) (err : Bool) (ts : Nat)
    (s : State) : Out :=
  .next (if p < 2 ∨ 4 ≤ p ∨ !s.portOn p ∨ s.fld .CAN_STAT_STATE p = 2 then s
    else if err then s.canRec p true
    else if fdf && !s.flag .CAN_CFG_FDEN p then s
    else (s.canRec p false).canStore p (canHeader ident ide fdf brs esi rtr dlc) data ts)

/-- CAN_BUS_OFF_RECOVERY (19 R448): error active again, with both counts at 0, where recovery is automatic. -/
def execCanBusOffRecovery (p : Nat) (s : State) : Out :=
  .next (if 2 ≤ p ∧ p < 4 ∧ s.portOn p ∧ s.fld .CAN_STAT_STATE p = 2 ∧ s.flag .CAN_CFG_ABOREC p then
      ((s.setFld .CAN_STAT_TEC p 0).setFld .CAN_STAT_REC p 0).setFld .CAN_STAT_STATE p 0
    else s)

/-! ### The Niujor link -/

/-- The bytes of a Niujor frame that its CRC-16 covers (19 R450). -/
def niujorBytes (dst src type : Nat) (payload : List Nat) : List Nat :=
  [dst % 256, src % 256, type % 256, payload.length % 256] ++ payload

/-- NIUJOR_FRAME_RECEIVE (19 R450): a bad frame, with another CRC-16, or a wrong delimiter or code, is dropped and counted; a frame
to this unit or to all, of a TYPE free to firmware, reaches Q8. The source tells the slot. -/
def execNiujorFrameReceive (dst src type : Nat) (payload : List Nat) (check : FrameCheck) (ts : Nat) (s : State) : Out :=
  let frame := niujorBytes dst src type payload
  .next (if !s.portOn 4 then s
    else if !check.ok || 64 < payload.length || check.crc != niujorCrc frame then s.count .PEER_CFG_CRCERR
    else if s.trains then s
    else
      let s := { s with ports := { s.ports with slot := src } }
      if 4 ≤ type && (dst = 0xFF || dst = s.fld .PEER_CFG_POS) then s.receive 8 frame 0 ts id
      else s)

/-- The frame of the Q9 descriptor that waits for its slot, with this unit's POS as source. -/
def State.peerFrame (s : State) : Option (List Nat) :=
  match s.ports.taken.find? (fun t => t.ring == 9) with
  | some t => (s.satRead t.desc.addr t.desc.len).map (fun l => l.set 1 (s.fld .PEER_CFG_POS))
  | none => none

/-- NIUJOR_CYCLE_START (19 R450): the origin sends its frame of slot 0, TYPE 0x00 and empty where it has nothing to send. -/
def execNiujorCycleStart (s : State) : Out :=
  .next (if s.portOn 4 && s.flag .BELL_COMP_ORIGIN && !s.trains then
      ({ s with ports := { s.ports with slot := 0 } } : State).peerSend (s.peerFrame.getD [0xFF, 0, 0, 0])
    else s)

/-- NIUJOR_SLOT (19 R450): a unit's own slot; it sends its frame or leaves the slot idle. -/
def execNiujorSlot (s : State) : Out :=
  .next (if s.portOn 4 && !s.flag .BELL_COMP_ORIGIN && s.flag .PEER_CFG_TRAINED && !s.trains then
      let s := { s with ports := { s.ports with slot := s.fld .PEER_CFG_POS } }
      match s.peerFrame with | some l => s.peerSend l | none => s
    else s)

/-- TRAIN is written with 1 (19 R451): at the origin only. -/
def State.trainWrite (s : State) : State := s.when (s.flag .BELL_COMP_ORIGIN && s.portOn 4) State.trainStart

/-- PEER_TRAIN (19 R451). -/
def execPeerTrain (core : Nat) (s : State) : Out :=
  .next (s.access core (portAddr 0x400) (s.portNs 4) State.trainWrite)

/-- TRAINING_WORD (19 R451, R452): a word whose check fails is ignored; else POS is the received position plus 1, TRAINED is
set, and the word is relayed with this unit's POS. -/
def execTrainingWord (marker pos check : Nat) (s : State) : Out :=
  .next (if !s.portOn 4 || s.flag .BELL_COMP_ORIGIN || marker != 0xD2 || 32 ≤ pos || check != (marker ^^^ pos ^^^ 0x5A) then s
    else
      let s := (s.setFld .PEER_CFG_POS 0 (pos + 1)).setFld .PEER_CFG_TRAINED 0 1
      ({ s with ports := { s.ports with training := .hops, hopStart := none } } : State).syncSend [.word (s.fld .PEER_CFG_POS)])

/-- This unit, not the origin, is in step 2 of the training. -/
def State.inHops (s : State) : Bool := s.portOn 4 && !s.flag .BELL_COMP_ORIGIN && s.ports.training == .hops

/-- HOP_PULSE (19 R452): the echo, TYPE 0x01 to the unit before. -/
def execHopPulse (s : State) : Out :=
  .next (if s.inHops then s.peerSend [s.fld .PEER_CFG_POS - 1, s.fld .PEER_CFG_POS, 1, 0] else s)

/-- The hop delay of a round trip in ps, in 1/8 Edge tick (19 R451): half of it less 64 ns. 1/8 tick is 3125/16 ps. Where it
falls between two values the rounding is free (assumption log, entry 30). -/
def State.hopOf (s : State) (rt : Nat) : Nat × State :=
  let n := (rt - 64000) * 8
  let (b, s) := s.fresh 1
  (n / 3125 + (if n % 3125 = 0 then 0 else b), s)

/-- TRAINING_ECHO (19 R451, R452): the hop report, TYPE 0x02 to the next unit. -/
def execTrainingEcho (roundTrip : Nat) (s : State) : Out :=
  .next (if s.portOn 4 && s.ports.training == .hops && s.ports.hopStart.isSome then
      let (h, s) := s.hopOf roundTrip
      let pos := s.fld .PEER_CFG_POS
      let s := s.peerSend ([pos + 1, pos, 2, 2] ++ leBytes 2 h)
      if s.flag .BELL_COMP_ORIGIN then { s with ports := { s.ports with hopStart := none } } else s.trainingEnds .idle
    else s)

/-- HOP_REPORT (19 R451, R452): BELL_HOP, and this unit's own hop pulse in its turn. -/
def execHopReport (hop : Nat) (s : State) : Out :=
  .next (if s.inHops then
      let s := s.setFld .BELL_HOP_HOP 0 hop
      ({ s with ports := { s.ports with hopStart := some s.tb } } : State).syncSend [.hop]
    else s)

/-- ECHO_TIMEOUT (19 R452): the unit is the last; it reports its POS to the origin, which is itself where it is alone. -/
def execEchoTimeout (s : State) : Out :=
  .next (if s.portOn 4 && s.ports.training == .hops && s.ports.hopStart.isSome then
      let pos := s.fld .PEER_CFG_POS
      if s.flag .BELL_COMP_ORIGIN then ((s.setFld .PEER_CFG_NUNITS 0 0).setFld .PEER_CFG_TRAINED 0 1).trainingEnds .idle
      else (s.peerSend [0, pos, 3, 1, pos]).trainingEnds .idle
    else s)

/-- POSITION_REPORT (19 R451): the origin stores the last unit's POS in NUNITS. -/
def execPositionReport (pos : Nat) (s : State) : Out :=
  .next (if s.portOn 4 && s.flag .BELL_COMP_ORIGIN && s.ports.training == .hops then
      ((s.setFld .PEER_CFG_NUNITS 0 pos).setFld .PEER_CFG_TRAINED 0 1).trainingEnds .idle
    else s)

/-- TRAINING_TIMEOUT (19 R452): training fails; a unit not trained keeps TRAINED at 0. -/
def execTrainingTimeout (s : State) : Out := .next (if s.trains then s.trainingEnds .failed else s)

/-! ### MDIO -/

/-- A write of ETH_MDIO with GO = 1 (19 R447). -/
def State.mdioStart (s : State) (phyad regad : Nat) (isWrite : Bool) (data : Nat) : State :=
  if s.ports.mdio.isSome then s.discarded .ports (portAddr 0xC)
  else
    let s := (s.setFld .ETH_MDIO_PHYAD 0 phyad).setFld .ETH_MDIO_REGAD 0 regad
    let s := ((s.setFlag .ETH_MDIO_WRITE 0 isWrite).setFld .ETH_MDIO_DATA 0 data).setFld .ETH_MDIO_GO 0 1
    { s with ports := { s.ports with mdio := some (isWrite, phyad % 32, regad % 32, data % 2 ^ 16) } }

/-- ETH_MDIO_WRITE (19 R447). -/
def execEthMdioWrite (core phyad regad : Nat) (isWrite : Bool) (data : Nat) (s : State) : Out :=
  .next (s.access core (portAddr 0xC) false (fun s => s.mdioStart phyad regad isWrite data))

/-- MDIO_FRAME_COMPLETE (19 R447): GO clears; a read frame leaves its data. With VIO3 absent MDIO reads its pull, which is high
(02 R55). -/
def execMdioFrameComplete (data : Nat) (s : State) : Out :=
  .next (match s.ports.mdio with
    | some (isWrite, _) =>
      let s := s.setFld .ETH_MDIO_GO 0 0
      let s := { s with ports := { s.ports with mdio := none } }
      if isWrite then s else s.setFld .ETH_MDIO_DATA 0 (if s.bankOn 3 then data else 0xFFFF)
    | none => s)

/-! ### Ring registers -/

/-- The rings the device produces (19 Table 19-1), whose HEAD it holds. -/
def deviceProduces (q : Nat) : Bool := [0, 2, 4, 6, 8, 10, 11, 12].contains q

/-- The address of a register of ring `q` (19 R468). -/
def ringAddr (q ofs : Nat) : Nat := portAddr (0x800 + 0x20 * q + ofs)

/-- A core's write to a register of ring `q` (19 R454): the ring's world, and its owner; from another Wing it is discarded. -/
def State.ringOwned (s : State) (core q addr : Nat) (f : State → State) : State :=
  s.access core addr (s.ringNs q) (fun s =>
    if (s.ringOwners q).contains (coreWing core) then f s else s.discarded .ports addr)

/-- The base of ring `q` is aligned to 4 KiB and lies in a Satchel region of the ring's world (19 R453). -/
def State.ringBaseOk (s : State) (q : Nat) : Bool :=
  let b := s.fld .RING_BASE q
  b % 0x1000 = 0 && 0x20000000 ≤ b && b < 0x20400000 && s.satNs b == s.ringNs q

/-- A write of RING_CFGq (19 R453, R454): SIZE_L2 and OWNER as stored, and EN unless the base forbids it. -/
def State.ringCfgSet (s : State) (q v : Nat) : State :=
  let s := s.setFld .RING_CFG_SIZE_L2 q (clampNat 4 12 (v % 16))
  let s := s.setFld .RING_CFG_OWNER q (storedAs .RING_CFG_OWNER q 0 (bits v 4 2))
  let s := s.setFlag .RING_CFG_IRQ q (v.testBit 7)
  if !v.testBit 6 then s.setFld .RING_CFG_EN q 0
  else if s.ringBaseOk q then s.setFld .RING_CFG_EN q 1
  else s.discarded .ports (ringAddr q 4)

/-- RING_CFG_WRITE (19 R453). -/
def execRingCfgWrite (core q value : Nat) (s : State) : Out :=
  .next (if q < 16 then s.ringOwned core q (ringAddr q 4) (fun s => s.ringCfgSet q value) else s)

/-- A write of RING_HEADq: on a ring the device produces HEAD is read-only. -/
def State.ringHeadSet (s : State) (q v : Nat) : State := if deviceProduces q then s else s.setFld .RING_HEAD_HEAD q v

/-- RING_HEAD_WRITE (19 R455). -/
def execRingHeadWrite (core q head : Nat) (s : State) : Out :=
  .next (if q < 16 then s.ringOwned core q (ringAddr q 8) (fun s => s.ringHeadSet q head) else s)

/-- Event 0x0D that waited for space on Q10 is stored (19 R467). -/
def State.lateEpochEvent (s : State) : State :=
  match s.ports.epochEvent with
  | some (reason, e) =>
    if s.ports.q10.length < s.q10Cap then
      ({ s with ports := { s.ports with epochEvent := none } } : State).event .ports 0x0D reason e
    else s
  | none => s

/-- A consumer of Q10 has passed `n` more records: `second` for the index of Wing B. A record that every consumer has passed
is freed (19 R458). -/
def State.q10Passed (s : State) (second : Bool) (n : Nat) : State :=
  let len := s.ports.q10.length
  let both := (s.ringOwners 10).length = 2
  let a := min len (if second then s.ports.q10A else s.ports.q10A + n)
  let b := min len (if second then s.ports.q10B + n else s.ports.q10B)
  let k := if both then min a b else a
  ({ s with ports := { s.ports with q10 := s.ports.q10.drop k, q10A := a - k, q10B := b - k } } : State).lateEpochEvent

/-- A write of a consumer index of Q10: RING_TAIL10, or RING_TAIL10B of Wing B, which moves only while both Wings consume. -/
def State.q10TailSet (s : State) (second : Bool) (v : Nat) : State :=
  let f : Fld := if second then .RING_TAIL10B_TAIL else .RING_TAIL_TAIL
  let i := if second then 0 else 10
  let n := s.q10Cap
  let moved := (v % n + n - s.fld f i % n) % n
  (s.setFld f i v).q10Passed second moved

/-- A write of RING_TAILq: read-only on the rings the device consumes. -/
def State.ringTailSet (s : State) (q v : Nat) : State :=
  if q = 10 then s.q10TailSet false v else if deviceProduces q then s.setFld .RING_TAIL_TAIL q v else s

/-- A write of 1 to RING_STATq.HALT (19 R460): the ring goes on after the failed descriptor. -/
def State.ringResume (s : State) (q : Nat) : State := s.setFld .RING_STAT_HALT q 0

/-- RING_HALT_CLEAR (19 R460). -/
def execRingHaltClear (core q : Nat) (s : State) : Out :=
  .next (if q < 16 then s.ringOwned core q (ringAddr q 0x10) (fun s => s.ringResume q) else s)

/-! ### The ring engine -/

/-- The taken descriptor of ring `q`. -/
def State.takenOf (s : State) (q : Nat) : Option Taken := s.ports.taken.find? (fun t => t.ring == q)

/-- Ring `q`, consumed by the device, has work (19 R463): enabled, not halted, nothing taken, its port able to send, and a
submitted descriptor with OWN set, or one that reads as poison, next. -/
def State.ringWorks (s : State) (q : Nat) : Bool :=
  flushRings.contains q && s.flag .RING_CFG_EN q && !s.flag .RING_STAT_HALT q && (s.takenOf q).isNone
    && (9 < q || s.portOn (q / 2))
    && (!(q = 5 || q = 7) || (s.fld .CAN_STAT_STATE (q / 2) != 2 && !s.flag .CAN_CFG_LISTEN (q / 2)))
    && (match s.ringSpan q with
      | i :: _ => (match s.desc q i with | some d => d.own | none => true)
      | [] => false)

/-- The ring of the next turn: rotating priority, the ring served last at the end (19 R463, 01 R24). -/
def State.nextRing (s : State) : Option Nat :=
  ((List.range 16).map (fun k => (s.ports.lastRing + 1 + k) % 16)).find? (fun q => s.ringWorks q && !s.domainHeld 4)

/-- The OP of a command block is one of its ring's (19 R462). -/
def opKnown (q op : Nat) : Bool := if q = 13 then 1 ≤ op && op ≤ 3 else if q = 14 then op = 1 || op = 2 else true

/-- The ring engine takes descriptor `i` of ring `q` (19 R460, R464, R466, R467): poison first, then a stale EPOCH, a world
violation, and a buffer that cannot be read. A command of no known OP is refused. -/
def State.takeDesc (s : State) (q i : Nat) : State :=
  match s.desc q i with
  | none => s.ringReadsPoison (.descriptor q i) (s.descAddr q i)
  | some d =>
    if d.epoch != s.fld .RING_EPOCH then s.finish q i { d with errcode := 0x03 }
    else if s.ringBarred q d.addr d.len then (s.violation (0x10 + q) d.addr).finish q i { d with errcode := 0x02 }
    else match s.satRead d.addr d.len with
      | none =>
        if 0x20000000 ≤ d.addr && d.addr + d.len ≤ 0x20400000 then s.ringReadsPoison (.buffer q i) d.addr
        else s.finish q i { d with errcode := 0x01 }
      | some l =>
        if opKnown q (l.getD 0 0) then
          { s with ports := { s.ports with taken := { ring := q, idx := i, desc := d } :: s.ports.taken } }
        else s.finish q i { d with errcode := 0x07 }

/-- DESCRIPTOR_PROCESS (19 R463, R464). -/
def execDescriptorProcess (s : State) : Out :=
  .next (match s.nextRing with
    | some q =>
      let i := s.fld .RING_TAIL_TAIL q % s.ringSize q
      let s := s.setFld .RING_TAIL_TAIL q ((i + 1) % s.ringSize q)
      ({ s with ports := { s.ports with lastRing := q } } : State).takeDesc q i
    | none => s)

/-- A CAN frame sent or failed moves TEC; in loop-back it is received as well (19 R448, Table 19-8). -/
def State.canSent (s : State) (p code : Nat) (d : Desc) (ts : Nat) : State :=
  let s := s.canTec p (code = 5)
  if code = 0 && s.flag .CAN_CFG_LOOP p then
    match s.satRead d.addr d.len with
    | some l => s.canStore p (l.take 8) (l.drop 8) ts
    | none => s
  else s

/-- DESCRIPTOR_COMPLETE (19 R455, R457): a transmit ring or Q15; TS only where TSREQ asks for it. -/
def execDescriptorComplete (q code ts : Nat) (s : State) : Out :=
  .next (match s.takenOf q with
    | some t =>
      if q = 13 ∨ q = 14 ∨ (code ≠ 0 ∧ code ≠ 5) then s
      else
        let s := s.finish q t.idx { t.desc with errcode := code, ts := if t.desc.tsreq then ts else t.desc.ts }
        if q = 5 ∨ q = 7 then s.canSent (q / 2) code t.desc ts else s
    | none => s)

/-- CAPTURE_BUFFER_COMPLETE (19 R461): the buffer is full. A clear of EN completes it at once (Table 19-7). -/
def execCaptureBufferComplete (a : Nat) (s : State) : Out :=
  .next (if 2 ≤ a then s else
    match s.freeDesc (11 + a) with
    | some d => if s.flag .CAP_CFG_EN a && d.len < (s.cap a).words.length * 8 + 8 then s.captureDone a false else s
    | none => s)

/-- The taken Q14 command ends: 8 bytes over the reserved bytes of its command block (19 R462). -/
def State.cryptoEnds (s : State) (t : Taken) (result : Nat) : State :=
  let (ok, s) := s.satWrite (t.desc.addr + 8) (leBytes 8 result)
  s.finish 14 t.idx { t.desc with errcode := if ok then 0 else 0x01 }

/-- A Q14 command whose OP is `op`: what it makes of its data. -/
def State.crypto (s : State) (op : Nat) (f : State → List Nat → Nat × State) : State :=
  match s.takenOf 14 with
  | none => s
  | some t =>
    match s.command t.desc with
    | none => s.finish 14 t.idx { t.desc with errcode := 0x01 }
    | some (o, _, _, data) => if o != op then s else let (r, s) := f s data; s.cryptoEnds t r

/-- CRYPTO_HASH (19 R462): SHA-256 over the data. How 32 bytes stand in 8 reserved ones the spec does not say. -/
def execCryptoHash (s : State) : Out := .next (s.crypto 1 (fun s data => (Config.hashResult (ofBe (sha256 data)), s)))

/-- CRYPTO_VERIFY (19 R462): public key, signature and message; 0 means valid, and any other number not. -/
def execCryptoVerify (s : State) : Out :=
  .next (s.crypto 2 (fun s data =>
    if 7888 ≤ data.length
        && Config.slhVerifies (ofLe (data.take 32)) (ofLe (data.drop 7888)) (ofLe ((data.drop 32).take 7856)) then (0, s)
    else let (v, s) := s.fresh 63; (v + 1, s)))

end Sys2Proof.Machine
end

