-- ==== Sys2Proof/Machine/Memory.lean ====
section
/-!
DEFINITION. Stores of Tutor cores into the memory regions of the Tutor map (21 R503, R506, R507; 15 R372).
-/
namespace Sys2Proof.Machine

/-- A store breaks the reservations that cover the granule it reaches (21 R503): region 0 is the DTCM of one Wing, 1 Satchel. -/
def State.breakLr (s : State) (region : Nat) (w : Wing) (granule : Nat) : State :=
  { s with tut := { s.tut with lr := s.tut.lr.zipIdx.map (fun e =>
    if e.1 == some (region, granule) && (region == 1 || coreWing e.2 == w) then none else e.1) } }

/-- The identifier of the ITCM or DTCM bank of a Wing that holds a byte offset (15 Table 15-1). -/
def tcmId (dtcm : Bool) (w : Wing) (ofs : Nat) : Nat :=
  if dtcm then 0x18 + 2 * w.num + ofs / 0x40000 % 2 else 0x10 + 4 * w.num + ofs / 0x40000 % 4

/-- A store narrower than a code word into poison is discarded with a store access fault (15 R372, R373). -/
def State.storeGuard (s : State) (core mem word addr : Nat) (f : State → State) : State :=
  if s.poisoned mem word then (s.badRead mem addr false).coreFault core 7 addr else f s

/-- A core's store of the bytes `l`, at most a word of the bus, to a memory region; the address is aligned to its size. -/
def State.memStore (s : State) (core addr : Nat) (l : List Nat) : State :=
  let w := coreWing core
  if 0x10000000 ≤ addr && addr < 0x10100000 then
    let o := addr - 0x10000000
    s.storeGuard core (tcmId false w o) (o % 0x40000 / 8) addr (fun s =>
      { s with tut := { s.tut with itcm := putBytes s.tut.itcm w.num o l } })
  else if 0x11000000 ≤ addr && addr < 0x11080000 then
    let o := addr - 0x11000000
    s.storeGuard core (tcmId true w o) (o % 0x40000 / 8) addr (fun s =>
      ({ s with tut := { s.tut with dtcm := putBytes s.tut.dtcm w.num o l } } : State).breakLr 0 w (o / 8))
  else if 0x20000000 ≤ addr && addr < 0x20400000 then
    let o := addr - 0x20000000
    let (ok, s) := s.satWrite addr l
    if ok then s.breakLr 1 w (o / 16) else (s.badRead (satBank o) addr false).coreFault core 7 addr
  else
    let o := addr - 0x30000000
    if 0xE000 ≤ o then s.coreFault core 7 addr
    else s.storeGuard core 0x30 (o / 8) addr (fun s => { s with ct := { s.ct with sram := putBytes s.ct.sram 0 o l } })

/-- The address lies in a memory region that accepts stores (21 Table 21-3, R506). -/
def storable (addr : Nat) : Bool :=
  (0x10000000 ≤ addr && addr < 0x10100000) || (0x11000000 ≤ addr && addr < 0x11080000)
    || (0x20000000 ≤ addr && addr < 0x20400000) || (0x30000000 ≤ addr && addr < 0x30010000)

/-- A core's store to an address outside the block registers (21 R504, R506, R507, Table 21-2): ROM, the window and
unmapped addresses end with a store access fault, a misaligned store with mcause 6. -/
def State.coreStore (s : State) (core addr : Nat) (l : List Nat) : State :=
  s.access core addr (s.targetNs core addr false) (fun s =>
    if !storable addr then s.coreFault core 7 addr
    else if addr % l.length != 0 then s.coreFault core 6 addr else s.memStore core addr l)

/-- The 32 bytes of an event record in its Q10 descriptor (19 R458, Table 19-4). -/
def Event.bytes (e : Event) : List Nat :=
  leBytes 4 e.eseq ++ leBytes 4 e.epoch ++ [e.block % 256, e.ns.toNat + (if e.lost = 0 then 0 else 2)] ++ leBytes 2 e.lost
    ++ leBytes 4 e.rtc ++ leBytes 16 e.payload

/-- The byte of Satchel at an offset where a record stands in the buffer of Q10 that its consumers have not all passed (19 R458;
assumption log, entry 74). -/
def State.q10Byte (s : State) (off : Nat) : Option Nat :=
  let at_ := off + 0x20000000
  let n := s.q10Cap
  if !s.flag .RING_CFG_EN 10 || at_ < s.fld .RING_BASE 10 || s.fld .RING_BASE 10 + 32 * n ≤ at_ then none
  else
    let i := (at_ - s.fld .RING_BASE 10) / 32
    let oldest := s.fld .RING_HEAD_HEAD 10 + n - s.ports.q10.length
    (s.ports.q10[(i + 2 * n - oldest) % n]?).map (fun e => e.bytes.getD ((at_ - s.fld .RING_BASE 10) % 32) 0)

/-- A byte of Satchel as a core sees it; none in a word that reads as poison. -/
def State.satSeen (s : State) (off : Nat) : Option Nat :=
  match s.q10Byte off with
  | some b => some b
  | none => if s.satBad off then none else some (s.satByte off)

/-- Bytes of DTCM or Satchel as a core reads them; none where a word is poison or the range leaves its region. -/
def State.coreRead (s : State) (core addr n : Nat) : Option (List Nat) :=
  let w := coreWing core
  if 0x11000000 ≤ addr && addr + n ≤ 0x11080000 then
    let o := addr - 0x11000000
    if (List.range (n / 8 + 2)).any (fun k =>
        let x := o / 8 * 8 + 8 * k
        x < o + n && s.poisoned (tcmId true w x) (x % 0x40000 / 8)) then none
    else some ((List.range n).map (fun i => s.tut.dtcm.get (w.num, o + i) 0))
  else if 0x20000000 ≤ addr && addr + n ≤ 0x20400000 then
    let l := (List.range n).map (fun i => s.satSeen (addr - 0x20000000 + i))
    if l.all Option.isSome then some (l.filterMap id) else none
  else none

/-- Bytes are placed in DTCM or Satchel for a core, in whole. -/
def State.corePlace (s : State) (core addr : Nat) (l : List Nat) : Bool × State :=
  let w := coreWing core
  if 0x11000000 ≤ addr && addr + l.length ≤ 0x11080000 then
    (true, { s with tut := { s.tut with dtcm := putBytes s.tut.dtcm w.num (addr - 0x11000000) l } })
  else if 0x20000000 ≤ addr && addr + l.length ≤ 0x20400000 then s.satWrite addr l
  else (false, s)

end Sys2Proof.Machine
end

