-- ==== Sys2Proof/Machine/RegWrite.lean ====
section
/-!
DEFINITION. A write to a register by its access codes (00 R12, R13; REGISTER_WRITE), and the registers whose write has an
effect beside its fields. Tutor cores write whole words; a dictionary entry writes the bits of its mask.
-/
namespace Sys2Proof.Machine

/-- The block of a register address. -/
def blkOf (addr : Nat) : Blk :=
  match addr / 0x1000000 % 16 with
  | 0 => .pwm | 1 => .gate | 2 => .sar | 3 => .modulator | 4 => .comparator | 5 => .engine | 6 => .bursar | 7 => .duplex
  | 8 => .integrity | 9 => .library | 0xA => .security | 0xB => .ports | 0xC => .caretaker | 0xD => .prefect | _ => .tutor

/-- The state after a command that answers a next state; the state itself after another outcome. -/
def State.took (s : State) (o : Out) : State :=
  match o with
  | .next t => t
  | _ => s

/-- The waiting values without those of field `f` of instance `i`. -/
def FldMap.drop (l : FldMap) (f : Fld) (i : Nat) : FldMap := l.filter (fun e => e.1 != (f, i))

/-- What the bits of `mask` make of field `fa` when `v` is written: the bits outside the mask keep `old`. -/
def maskedField (fa : FieldAt) (old v mask : Nat) : Nat :=
  let m := bits mask fa.lo fa.fld.width
  maskOff old m ||| (bits v fa.lo fa.fld.width &&& m)

/-- A write reaches some bit of the field. -/
def reached (fa : FieldAt) (mask : Nat) : Bool := bits mask fa.lo fa.fld.width != 0

/-- The value in which an RWL field is stored by the write (20 R486; 00 R13). -/
def State.lockedValue (s : State) (r : RegDesc) (i v mask : Nat) (fa : FieldAt) : Nat :=
  s.stored fa.fld i (maskedField fa (s.shown r fa.fld i) v mask)

/-- Some RWL field that the write reaches would take a value other than the one in force (00 R13). -/
def State.locksDiffer (s : State) (r : RegDesc) (i v mask : Nat) : Bool :=
  r.fields.any (fun fa => fa.fld.acc = .rwl && reached fa mask && s.lockedValue r i v mask fa != s.fld fa.fld i)

/-- One field takes its part of a written word by its access code (00 Table 0-5, R13). -/
def State.fieldPut (s : State) (r : RegDesc) (i v mask : Nat) (fa : FieldAt) : State :=
  let f := fa.fld
  let old := s.fld f i
  let g := r.group i
  if !reached fa mask then s
  else match f.acc with
  | .rw =>
    let s := s.setFld f i (s.stored f i (maskedField fa old v mask))
    s.when (g != 0) (fun s => s.modGroup g (fun p => { p with pend := p.pend.drop f i }))
  | .w1c => s.setFld f i (maskOff old (bits (v &&& mask) fa.lo f.width))
  | .w1s => s.setFld f i (old ||| bits (v &&& mask) fa.lo f.width)
  | .rwl =>
    if s.groupOpen g then s.modGroup g (fun p => { p with pend := p.pend.put f i (s.lockedValue r i v mask fa) }) else s
  | .ro | .wo | .rc => s

/-- A write to a register by the access codes of its fields: outside Recess an RWL field keeps its value in force, and event
0x01 names the register where the written value differs (00 R13). -/
def State.fieldsPut (s : State) (r : RegDesc) (i addr v mask : Nat) : State :=
  let bad := !s.groupOpen (r.group i) && s.locksDiffer r i v mask
  (s.each r.fields (fun s fa => s.fieldPut r i v mask fa)).when bad (fun s => s.discarded (blkOf addr) addr)

/-- A write to RTC_SEC (04 R112): with the RTC_SECH written before it the RTC is set and FRAC cleared; a value below the present
count is discarded. -/
def State.rtcSecWrite (s : State) (v : Nat) : State :=
  let new := s.clk.sechHold * 2 ^ 32 + v % 2 ^ 32
  if new < s.clk.rtc then s.discarded .caretaker 0x4C001044
  else
    State.writeSpans ({ s with clk := { s.clk with rtc := new }, ct := { s.ct with rtcPhase := 0 } } |>.setFld .RTC_SUB_FRAC 0 0)

/-- RTC_SEC_WRITE (04 R112). -/
def execRtcSecWrite (core seconds : Nat) (s : State) : Out :=
  .next (s.accessBlk core .caretaker 0x4C001044 (fun s => s.rtcSecWrite seconds))

/-- Clearing bits of GI_DEFER or GI_LOCKED (09 R244): the bits of modules to which the Wing is entitled clear; a 1 for another module
of the variant is discarded, with an event. -/
def State.entitledClear (s : State) (w : Wing) (locked : Bool) (addr v : Nat) : State :=
  let f : Fld := if locked then .GI_LOCKED_LOCK else .GI_DEFER_DEFER
  let l := (bitsOf 24 v).filter s.hasPm
  let ok := l.foldl (fun a m => setBitTo a m (s.isEntitled w m)) 0
  (s.setFld f 0 (maskOff (s.fld f) ok)).when (l.any (fun m => !s.isEntitled w m)) (fun s => s.discarded .gate addr)

/-- A code written to HP_CMD (14 Table 14-5); the self-test of STANDBY has a free outcome here. -/
def State.hpCmdWrite (s : State) (w : Wing) (v : Nat) : State :=
  match v with
  | 1 => let (b, s) := s.fresh 1; s.standbyCmd w (b = 1)
  | 2 => s.wakeCmd w
  | 3 => s.coldCmd w
  | 4 => s.readyCmd w
  | 5 => s.handoverCmd w
  | 6 => s.cancelCmd w
  | 7 => s.releaseCmd w
  | 8 => s.acquireCmd w
  | _ => s.cmdDiscarded w v

/-- A field of the Tutor local block that a Wing's two cores share takes one value in both copies. -/
def State.bothCores (s : State) (r : RegDesc) (i v mask : Nat) : State :=
  s.each [0, 1] (fun s c => s.each r.fields (fun s fa => s.fieldPut r ((i / r.count2 / 2 * 2 + c) * r.count2 + i % r.count2) v mask fa))

/-- The two cores of a Wing leave WFI where a software interrupt becomes pending (21 R502, R512). -/
def State.softWakes (s : State) (w : Wing) : State :=
  s.each [0, 1] (fun s c => s.when (s.bit .TUT_MSIP_MSIP (2 * w.num) c)
    (fun s => { s with tut := { s.tut with wfi := setBitTo s.tut.wfi (2 * w.num + c) false } }))

/-- The machine timer interrupt of a core follows its compare value (21 R502): pending while the timebase is at or above it. -/
def State.timerCheck (s : State) (core : Nat) : State :=
  let on := decide (s.tut.mtcmp.getD core 0 ≤ s.tb)
  let s := { s with tut := { s.tut with mtip := setBitTo s.tut.mtip core on } }
  s.when on (fun s => { s with tut := { s.tut with wfi := setBitTo s.tut.wfi core false } })

/-- A write of TUT_MTCMPL is held (21 R519). -/
def State.mtcmpLow (s : State) (core v : Nat) : State :=
  { s with tut := { s.tut with mtcmpHold := s.tut.mtcmpHold.set core (some (v % 2 ^ 32)) } }

/-- A write of TUT_MTCMPH commits both words (21 R519); the low word stands where none is held. -/
def State.mtcmpHigh (s : State) (core v : Nat) : State :=
  let was := s.tut.mtcmp.getD core 0
  let lo := (s.tut.mtcmpHold.getD core none).getD (was % 2 ^ 32)
  let cmp := lo + v % 2 ^ 32 * 2 ^ 32
  let s := { s with tut := { s.tut with mtcmp := s.tut.mtcmp.set core cmp, mtcmpHold := s.tut.mtcmpHold.set core none } }
  ((s.setFld .TUT_MTCMPL core lo).setFld .TUT_MTCMPH core v).timerCheck core

/-- A write of a source number to TUT_CLAIM completes it (21 R509): the source may be offered again. -/
def State.claimEnds (s : State) (core src : Nat) : State :=
  if src % 32 = 11 then { s with tut := { s.tut with claimedGw := setBitTo s.tut.claimedGw core false } }
  else match coreWing core with
  | .a => { s with tut := { s.tut with claimedA := setBitTo s.tut.claimedA (src % 32) false } }
  | .b => { s with tut := { s.tut with claimedB := setBitTo s.tut.claimedB (src % 32) false } }

/-- The bits of LEHALT of a Wing (21 R518); only a core in debug mode writes them. -/
def State.leHaltWrite (s : State) (core v : Nat) : State :=
  if s.tut.halted.testBit core then
    let c := core / 2 * 2
    (s.setFld .TUT_DBG_LEHALT c v).setFld .TUT_DBG_LEHALT (c + 1) v
  else s

/-- TUT_DBG (21 R516, R518). -/
def State.tutDbgWrite (s : State) (core v : Nat) : State :=
  let s := s.each [core / 2 * 2, core / 2 * 2 + 1] (fun s c =>
    (s.setFld .TUT_DBG_SEC_EN c (s.fld .TUT_DBG_SEC_EN c ||| v % 2)).setFld .TUT_DBG_NS_EN c (s.fld .TUT_DBG_NS_EN c ||| bits v 1 1))
  s.leHaltWrite core (bits v 8 6)

/-- What a write does beside its fields, once they have taken their values. -/
def State.regAfter (s : State) (core : Nat) (r : RegDesc) (i v : Nat) : State :=
  match r.base with
  | 0x4C000404 => s.settlePaths
  | 0x42000008 => s.when (!s.flag .SAR_CAL_ROT_EN && s.fld .SAR_CALPOS_PHASE != 5) State.stopRotation
  | 0x44000004 => s.settleTrips
  | 0x4300010C => s.when (v.testBit 17) (fun s => s.guardClr i)
  | 0x44000104 => s.when (v.testBit 27) (fun s => s.wcClr i)
  | 0x45000104 => s.when (v.testBit 1) (fun s => s.retireWrite i)
  | 0x4600000C => s.when (v.testBit 11) State.saveDue
  | 0x47000010 => s.settleStale
  | 0x49000000 => s.when (v.testBit 0) State.serve
  | 0x4E000008 => s.softWakes (coreWing core)
  | _ => s

/-- A write to ETH_MDIO (19 R447): with GO it starts a frame, without GO the fields take their values. -/
def State.mdioPut (s : State) (r : RegDesc) (i addr v mask : Nat) : State :=
  if v.testBit 11 then s.mdioStart (bits v 0 5) (bits v 5 5) (v.testBit 10) (bits v 16 16)
  else if s.ports.mdio.isSome then s.discarded .ports addr
  else s.fieldsPut r i addr v mask

/-- CAP_CFGa (19 R461): clearing EN closes the stream's buffer. -/
def State.capPut (s : State) (r : RegDesc) (i addr v mask : Nat) : State :=
  let s := s.when (s.flag .CAP_CFG_EN i && mask.testBit 16 && !v.testBit 16) (fun s => s.closeCapture i)
  s.fieldsPut r i addr v mask

/-- A write of the bits of `mask` of register `r`, instance `i`, at `addr`, by core `core` or, over the dictionary, by the
Secure core of the serving Wing. Worlds, and the Wing of an engine, have been checked. -/
def State.regPut (s : State) (core : Nat) (r : RegDesc) (i addr v mask : Nat) : State :=
  let w := coreWing core
  let v := v &&& mask
  if s.regAbsent r i then s else
  match r.base with
  | 0x4C002004 => s.bellReqWrite (core % 4) v
  | 0x4C000408 => s.pwrCellWrite (bits v 0 8) (bits v 8 8) (bits v 16 8) (bits v 24 8)
  | 0x4C000440 => s.pwrSwWrite (v.testBit 0) (v.testBit 1) (v.testBit 8) (v.testBit 9)
  | 0x4C001004 => s.clkEnWrite (v.testBit 0) (v.testBit 1)
  | 0x4C001044 => s.rtcSecWrite v
  | 0x4C001048 => { s with clk := { s.clk with sechHold := v % 2 ^ 16 } }
  | 0x42000018 => s.sarSwtrig v
  | 0x42000108 => s.inject i (bits v 0 2) (bits v 2 6)
  | 0x43000104 => s.fdlyWrite i v
  | 0x44000100 => s.wcThr i (bits v 0 12) (bits v 16 12)
  | 0x40000004 =>
    let s := s.cntEnWrite i (v.testBit 0)
    let s := if v.testBit 1 && s.flag .PWM_RUN_OUTEN i && !s.bit .GI_SHUT_BUSY 0 i then s else s.outenWrite w i (v.testBit 1)
    s.armWrite i (v.testBit 2)
  | 0x40000030 => s.intWrite i (bits v 0 3) (bits v 3 4) (v.testBit 7) (v.testBit 12)
  | 0x40000040 => s.shdLowWrite core i 0 v
  | 0x40000044 => s.shdHighWrite core i 0 v
  | 0x40000048 => s.shdLowWrite core i 1 v
  | 0x4000004C => s.shdHighWrite core i 1 v
  | 0x40000050 => s.shdLowWrite core i 2 v
  | 0x40000054 => s.shdHighWrite core i 2 v
  | 0x40001800 => s.gstartWrite v
  | 0x41000004 => s.entitledClear w false addr v
  | 0x41000008 => s.entitledClear w true addr v
  | 0x41000010 => s.swtrig w v
  | 0x45000028 => s.subgoWrite (v.testBit 0) (v.testBit 1)
  | 0x46000004 => s.requestLatch (v % 256)
  | 0x46000020 => s.when (v.testBit 0) (fun s => s.theftClear)
  | 0x47000008 => s.when (v.testBit 0) (fun s => s.renew w)
  | 0x4700000C => s.hpCmdWrite w (v % 16)
  | 0x4700002C => s.rearmWrite w v
  | 0x4800000C => s.when (v.testBit 4) (fun s => s.retireBank (bits v 0 4))
  | 0x48000014 => s.repLoad v
  | 0x4A000004 => s.when (v.testBit 0) (fun s => (s.setFld .SEC_LOCK_LOCK 0 1).setFld .SEC_STAT_LOCK 0 1)
  | 0x4A000008 | 0x4A00000C | 0x4A000010 | 0x4A000014 =>
    if s.flag .SEC_STAT_LOCK then s.secEvent 0xB2 w.num 0 0 addr else s.fieldsPut r i addr v mask
  | 0x4A00001C => s.secCmdWrite core (v % 16)
  | 0x4D000020 => s.pfRelease v
  | 0x4D000024 => s.pfCommit v
  | 0x4B000000 => s.portEnSet (v % 32)
  | 0x4B00000C => s.mdioPut r i addr v mask
  | 0x4B000400 => s.when (v.testBit 5) State.trainWrite
  | 0x4B000700 => s.capPut r i addr v mask
  | 0x4B000800 | 0x4B000804 | 0x4B000808 | 0x4B00080C | 0x4B000810 =>
    if !(s.ringOwners i).contains w then s.discarded .ports addr
    else if r.base = 0x4B000800 then s.fieldsPut r i addr v mask
    else if r.base = 0x4B000804 then s.ringCfgSet i v
    else if r.base = 0x4B000808 then s.ringHeadSet i v
    else if r.base = 0x4B00080C then s.ringTailSet i v
    else s.when (v.testBit 0) (fun s => s.ringResume i)
  | 0x4B000A00 =>
    if w == .b && (s.ringOwners 10).length = 2 then s.q10TailSet true v else s.discarded .ports addr
  | 0x4E000004 | 0x4E000080 => s.bothCores r i v mask
  | 0x4E000008 => (s.bothCores r i v mask).regAfter core r i v
  | 0x4E000010 => s.mtcmpLow core v
  | 0x4E000014 => s.mtcmpHigh core v
  | 0x4E000018 => s.tutDbgWrite core v
  | 0x4E00002C => s.claimEnds core v
  | _ => (s.fieldsPut r i addr v mask).regAfter core r i v

end Sys2Proof.Machine
end

