-- ==== Sys2Proof/Machine/Dict.lean ====
section
/-!
DEFINITION. Reads of dictionary entries (20 R470 to R473, R479, R496, R497): which request may read what, and the bytes of
every entry. A request is served by the gateway of one Wing for one initiator, numbered as SEC_VIOL numbers them.
-/
namespace Sys2Proof.Machine

/-! ### World rights -/

/-- The block that owns an entry, where its rights are the block's (17 R426): the block chapters' entries. -/
def entryBlk (idx : Nat) : Option Blk :=
  if 0x3000 ≤ idx && idx < 0x3100 then some .pwm
  else if 0x3100 ≤ idx && idx < 0x4000 then some .gate
  else if 0x4000 ≤ idx && idx < 0x4100 then some .sar
  else if 0x4100 ≤ idx && idx < 0x4200 then some .modulator
  else if 0x4200 ≤ idx && idx < 0x5000 then some .comparator
  else if 0x5000 ≤ idx && idx < 0x7000 then some .engine
  else if 0x7000 ≤ idx && idx < 0x8000 then some .bursar
  else if idx = 0x2200 || idx = 0x2201 then some .sar
  else none

/-- The block that owns a function group (20 Table 20-6). -/
def groupBlk (g : Nat) : Option Blk :=
  match g with
  | 1 => some .sar
  | 2 => some .modulator
  | 3 => some .comparator
  | 4 => some .pwm
  | 5 => some .gate
  | 6 | 7 | 8 | 9 | 10 | 11 => some .engine
  | 12 => some .bursar
  | _ => none

/-- The block, where there is one, is in the Non-secure world. -/
def State.blkOpen (s : State) (b : Option Blk) : Bool := (b.map s.blockNs).getD false

/-- An entry of the metrology fields, writable from the Secure world only (13 R336). -/
def metrology (idx sub : Nat) : Bool :=
  0x7010 ≤ idx && idx < 0x7018 && (sub = 3 || sub = 4 || sub = 5 || sub = 6 || 0x10 ≤ sub)

/-- A Non-secure request may read the entry (17 R426, 20 R497). -/
def State.nsReads (s : State) (idx sub : Nat) : Bool :=
  idx < 0x2002 || idx = 0x2005 || idx = 0x2100 || 0xC000 ≤ idx
    || (idx = 0xB010 || idx = 0xB011 || (idx = 0xB020 && sub = 2))
    || (if idx = 0x2200 || idx = 0x2201 then sub = 1 && s.blkOpen (entryBlk idx) else s.blkOpen (entryBlk idx))

/-- A Non-secure request may write the entry (17 R426, 13 R336, 20 R497). -/
def State.nsWrites (s : State) (idx sub : Nat) : Bool :=
  (idx = 0x2005) || (idx = 0xB020 && sub = 1)
    || (0x2011 ≤ idx && idx < 0x201E && sub = 1 && s.blkOpen (groupBlk (idx - 0x2010)))
    || (!metrology idx sub &&
      (if idx = 0x2200 || idx = 0x2201 then sub = 1 && s.blkOpen (entryBlk idx) else s.blkOpen (entryBlk idx)))

/-! ### Which entry -/

/-- Why there is no entry at an index and subindex (00 R6, 20 R471). -/
def State.missing (s : State) (idx sub : Nat) : Nat :=
  let lacks := match entryAt idx sub with
    | some _ => !(0x7024 ≤ idx && idx < 0x7028)
    | none => false
  if lacks || !s.indexExists idx then 0x06020000 else 0x06090011

/-- Subindex 0 of an index with more than one subentry (20 Table 20-1). -/
def State.highest (s : State) (idx sub : Nat) : Option Nat :=
  let l := s.subs idx
  if sub = 0 && 1 < l.length && !l.contains 0 then some (l.foldl max 0) else none

/-! ### Content of special entries -/

/-- The ASCII codes of `n` hexadecimal digits of `v`. -/
def hexText : Nat → Nat → List Nat
  | 0, _ => []
  | n + 1, v => hexText n (v / 16) ++ [if v % 16 < 10 then 0x30 + v % 16 else 0x37 + v % 16]

/-- The image version of a Wing; 0 where it runs none. -/
def State.imageVersion (s : State) (w : Wing) : Nat := ((s.image w).map (fun i => i.version)).getD 0

/-- The length in bytes of a DOMAIN or string that states one (bytes 6 and 7 of a description); 0xFFFF of a variable one. -/
def domainLen (idx sub : Nat) : Nat :=
  match idx, sub with
  | 0x1008, _ => 5
  | 0x1009, _ => 3
  | 0x100A, _ => 8
  | 0x2000, _ => 384
  | 0x2001, _ => 24
  | 0x2005, _ => 8
  | 0x2100, 1 => 64
  | 0x2100, 6 => 344
  | 0x2100, 7 => 8
  | 0x2100, 8 => 8
  | 0x2100, 9 => 16
  | 0x6009, _ => 56
  | 0x9040, _ => 344
  | 0xB000, _ => 16
  | 0xB010, _ => 32
  | 0xB011, _ => 7936
  | 0xC000, 4 => 16
  | 0xC000, 7 => 96
  | _, _ =>
    if 0x5020 ≤ idx && idx < 0x502C then (match sub with | 1 => 32768 | 2 => 512 | 3 => 32256 | _ => 0xFFFF)
    else if 0x7020 ≤ idx && idx < 0x7028 then (if idx < 0x7024 then 140 else 44)
    else if 0x7030 ≤ idx && idx < 0x7038 then 48
    else if idx = 0x8003 then 64
    else if 0xA010 ≤ idx && idx < 0xA019 then 16
    else 0xFFFF

/-- The access code of a description (20 R473). -/
def Access.code : Access → Nat
  | .ro => 0 | .rw => 1 | .wo => 2 | .w1c => 3 | .w1s => 4 | .rc => 5 | .rwl => 6

/-- The description of the entry that 0x2005:01 names (20 R473). -/
def State.description (s : State) : List Nat :=
  let idx := bits s.dict.descReq 16 16
  let sub := bits s.dict.descReq 8 8
  match s.entry idx sub with
  | none => if (s.highest idx sub).isSome then [5, 0, 0, (s.nsReads idx sub).toNat, 0, 0, 1, 0] else List.replicate 8 0
  | some e =>
    let rd := e.acc != Access.wo && s.nsReads idx sub
    let wr := e.acc != Access.ro && e.acc != Access.rc && s.nsWrites idx sub
    let len := if e.ty.size = 0 then domainLen idx sub else e.ty.size
    leBytes 2 e.ty.code ++ [e.acc.code, rd.toNat + 2 * wr.toNat,
      match e.cls with | .v => 0 | .g => 1 | .s => 2, e.groupAt idx] ++ leBytes 2 len

/-- The first 64 bytes of a snapshot slot (14 Table 14-3, R365). -/
def Snapshot.header (p : Snapshot) : List Nat :=
  let engLen := (p.engines.map (fun e => 8 + 8 * e.words.length)).sum
  let tutLen := match p.tutor with | some t => 8 + 8 * t.2.length | none => 0
  let body := (p.engines.flatMap (fun e =>
      [e.pair % 256, 0] ++ leBytes 2 e.base ++ leBytes 2 e.words.length ++ [0, 0] ++ e.words.flatMap (leBytes 8)))
    ++ (match p.tutor with | some t => leBytes 2 t.1 ++ leBytes 2 t.2.length ++ [0, 0, 0, 0] ++ t.2.flatMap (leBytes 8) | none => [])
  let head := leBytes 8 p.seq ++ leBytes 4 p.ltCount ++ leBytes 2 p.bellSeq
    ++ [p.wing.num, p.handover.toNat + 2 * p.tutor.isSome.toNat + 4 * p.afterTakeover.toNat] ++ leBytes 8 p.time
    ++ leBytes 4 p.epoch ++ leBytes 4 p.hash ++ leBytes 4 p.outen ++ leBytes 2 p.engMask ++ leBytes 2 p.format
    ++ leBytes 4 (648 + engLen + tutLen) ++ List.replicate 12 0
  let crc := crc32 (head ++ p.shadows.flatMap (leBytes 8) ++ body)
  head ++ leBytes 4 (if p.crcOk then crc else crc ^^^ 1) ++ [0, 0, 0, 0]

/-- The Library health bytes of the Report Card (20 Table 20-13). -/
def State.libHealth (s : State) : List Nat :=
  let days := (s.lib.areas.flatMap id).map (fun b => s.today - s.lib.days.get (b, 0) 0)
  leBytes 2 (min (days.foldl max 0) 65535) ++ leBytes 2 (s.fld .LIB_CNT1_BAD) ++ leBytes 2 (s.fld .LIB_CNT1_SPARE)
    ++ leBytes 2 (min (s.fld .LIB_EMAX) 65535)

/-- The 16 bytes of 0xA010 + a:01 (16 Table 16-8); every block lies on device 0 (assumption log, entry 32). -/
def State.areaBytes (s : State) (a : Nat) : List Nat :=
  let l := s.area a
  let world := if a = 5 then s.bit .SEC_LIB_AREA 0 0 else if a = 6 then s.bit .SEC_LIB_AREA 0 1 else false
  let oldest := (l.map (fun b => s.lib.days.get (b, 0) 0)).foldl min (2 ^ 16 - 1)
  [a % 256, 0, world.toNat, 0] ++ leBytes 2 l.length ++ leBytes 2 (l.filter s.blank).length
    ++ leBytes 4 (s.lib.seqs.getD a 0) ++ leBytes 2 (if l.isEmpty then 0 else oldest) ++ [0, 0]

/-- The identity certificate in its read-only store (17 R422): its known fields, and free bytes for its keys and signature. -/
def State.identityCert (s : State) : List Nat :=
  [1, 0, 0, 0] ++ leBytes 4 s.sec.serial ++ (List.range 7928).map (fun i => Config.identityCertificate i % 256)

/-- The whole latched set of point `q` (13 R327). -/
def State.latchedSet (s : State) (q : Nat) : List Nat :=
  leBytes 2 (s.fld .BUR_LHDR_LSEQ q) ++ [0, 0] ++ leBytes 4 (s.fld .BUR_LTS q) ++ leBytes 4 (s.fld .BUR_LGAP q)
    ++ (List.range (if q < 4 then 16 else 4)).flatMap (fun a =>
      leBytes 4 (s.fld .BUR_LAL (16 * q + a)) ++ leBytes 4 (s.fld .BUR_LAH (16 * q + a)))

/-- What tracker `i` publishes at subindexes 2 to 7 of 0x6210 + i (12 Table 12-6). -/
def State.trackerBytes (s : State) (i sub : Nat) : List Nat :=
  let t : Tracker := s.ship.mppt.trackers.getD i {}
  let r (x : Nat) : List Nat := leBytes 4 (Fp.of64 x).bits32
  match sub with
  | 2 => [t.st % 256]
  | 3 => r t.vRef
  | 4 => r t.vLast
  | 5 => r t.pLast
  | 6 => r t.step
  | _ => r t.voc

/-- The bytes of the special entries of the ranges 0x1000 and 0x2000; none where the entry cannot be read now. -/
def State.manageBytes (s : State) (w : Wing) (idx sub : Nat) : Option (List Nat) :=
  match idx, sub with
  | 0x1000, _ => some (leBytes 4 0)
  | 0x1008, _ => some [0x4D, 0x4E, 0x53, 0x34, 0x38]
  | 0x1009, _ => some (0x53 :: hexText 2 (s.fld .FUSE_VARIANT_STEP))
  | 0x100A, _ => some (hexText 8 (s.imageVersion w))
  | 0x1010, _ => some (leBytes 4 1)
  | 0x1011, _ => some (leBytes 4 1)
  | 0x1018, 1 => some (leBytes 4 0xA35)
  | 0x1018, 2 => some (leBytes 4 s.productCode)
  | 0x1018, 3 => some (leBytes 4 (s.revision w))
  | 0x1018, _ => some (leBytes 4 s.sec.serial)
  | 0x2000, _ => some s.dict.summary
  | 0x2001, 1 => some (leBytes 4 (s.fld .RING_EPOCH))
  | 0x2001, _ => some s.lastDiscard
  | 0x2005, 1 => some (leBytes 4 s.dict.descReq)
  | 0x2005, _ => some s.description
  | 0x2030, _ => some (leBytes 4 s.dict.seedOutcome)
  | 0x2100, 1 => some s.reportCard
  | 0x2100, 2 => some (leBytes 4 s.reserveFlags)
  | 0x2100, 3 => some (s.integ.shipped.flatMap (leBytes 8))
  | 0x2100, 4 => some (s.integ.repairs.flatMap (leBytes 8))
  | 0x2100, 6 => some ((List.range 86).flatMap (fun i => leBytes 4 (s.reg (0x48000200 + 4 * i))))
  | 0x2100, 7 => some s.libHealth
  | 0x2100, 8 => some (leBytes 2 (s.fld .GAUGE_CAP_CAP) ++ leBytes 2 (s.fld .GAUGE_CAP_LIM) ++ leBytes 4 (s.fld .PWR_CELLQ))
  | 0x2100, _ => some ([0x4C000104, 0x4C000108, 0x4C00010C, 0x4C000110].flatMap (fun a => leBytes 4 (s.reg a)))
  | _, _ =>
    let p := s.group (idx - 0x2010)
    match sub with
    | 1 => some [p.lastCmd]
    | 2 => some [s.groupByte (idx - 0x2010)]
    | 3 => some (leBytes 4 p.seq)
    | 4 => some (leBytes 4 p.hash)
    | _ => some (leBytes 4 p.valRes)

/-- The bytes of the special entries of the control and block ranges. -/
def State.blockBytes20 (s : State) (idx sub : Nat) : Option (List Nat) :=
  let g := s.ship.grid
  let p := s.ship.isl
  match idx, sub with
  | 0x6000, 4 => some [g.st % 256]
  | 0x6000, 5 => some (leBytes 2 g.trip)
  | 0x6000, 6 => some (leBytes 4 (s.group 9).seq)
  | 0x6000, _ => some [g.hold.toNat]
  | 0x6009, 0x10 => some (g.published.flatMap (leBytes 4))
  | 0x6009, _ => some (leBytes 4 (g.published.getD (sub - 1) 0))
  | 0x6100, 3 => some [p.st % 256]
  | 0x6100, 4 => some (leBytes 2 p.trip)
  | 0x6100, _ => some (leBytes 4 (s.group 10).seq)
  | 0x6103, 1 => some (leBytes 4 p.z)
  | 0x6103, 2 => some [p.valid.toNat]
  | 0x6103, 3 => some (leBytes 4 (p.freq.getD (s.var 0x6001 3)))
  | 0x6103, 4 => some (leBytes 4 p.rocof)
  | 0x6103, 5 => some (leBytes 4 p.maxErr)
  | 0x6103, 6 => some (leBytes 4 p.uLv)
  | 0x6103, 7 => some (leBytes 4 p.uHv)
  | 0x6103, _ => some (leBytes 4 p.windows)
  | 0x6200, 5 =>
    let m := s.ship.mppt
    some [match m.trace, m.ask with | some t, _ => t.input | none, some i => i | none, none => 0xFF]
  | 0x6200, _ => some (leBytes 4 (s.group 11).seq)
  | 0x8001, _ => some (leBytes 8 s.dup.written)
  | 0x8003, _ => some ((s.dup.slots.getD (sub - 1) {}).header)
  | 0x9030, _ => some (s.integ.repairs.flatMap (leBytes 8))
  | 0x9040, _ => some ((List.range 86).flatMap (fun i => leBytes 4 (s.reg (0x48000200 + 4 * i))))
  | 0xA020, _ => some (s.lib.bad.flatMap (leBytes 2))
  | 0xB010, _ => s.sec.identity.map (leBytes 32)
  | 0xB011, _ => some s.identityCert
  | 0xB020, _ => s.sec.report.map (fun r => r.1 ++ leBytes 17088 r.2)
  | 0xC000, _ => some (s.pf.set.getD [])
  | _, _ =>
    if 0x3010 ≤ idx && idx < 0x3028 then some (leBytes 4 (ofSigned 32 (s.sfld .PWM_CARRY_CARRY (idx - 0x3010))))
    else if 0x6210 ≤ idx && idx < 0x621C then some (s.trackerBytes (idx - 0x6210) sub)
    else if 0x7020 ≤ idx && idx < 0x7028 then some (s.latchedSet (idx - 0x7020))
    else if 0x7030 ≤ idx && idx < 0x7038 then
      some ((List.range 12).flatMap (fun k => leBytes 4 (s.fld .BUR_PUB (12 * (idx - 0x7030) + k))))
    else some (s.areaBytes (idx - 0xA010))

/-- What a read of an entry answers: the abort code, 0 for success, and the bytes (20 R470 to R473, Table 20-5). -/
def State.readEntry (s : State) (w : Wing) (init idx sub : Nat) : Nat × List Nat :=
  match s.entry idx sub with
  | none =>
    match s.highest idx sub with
    | some n => if s.initiatorNs init && !s.nsReads idx sub then (0x06010000, []) else (0, [n])
    | none => (s.missing idx sub, [])
  | some e =>
    if s.initiatorNs init && !s.nsReads idx sub then (0x06010000, [])
    else if e.acc = Access.wo then (0x06010001, [])
    else match e.map with
      | .special =>
        match (if idx < 0x3000 then s.manageBytes w idx sub else s.blockBytes20 idx sub) with
        | some l => (0, l)
        | none => (0x08000022, [])
      | _ => (0, s.mappedBytes e idx sub)

/-- A request ends with an abort code and, of a read, its bytes. -/
def State.answerRead (s : State) (r : Nat × List Nat) : State :=
  { s with dict := { s.dict with lastAbort := r.1, answered := if r.1 = 0 then r.2 else [] } }

/-- A request without rights: SEC_VIOL and event 0xB2 name the initiator and, in the place of an address, the entry (17 R412;
assumption log, entry 31). -/
def State.noRights (s : State) (init idx sub : Nat) : State := (s.violation init (idx * 2 ^ 16 + sub * 2 ^ 8)).answer 0x06010000

/-- A read of a dictionary entry other than Roll Call: 0x6103:05 restarts its search for the largest error (12 Table 12-5). -/
def State.dictRead (s : State) (w : Wing) (init idx sub : Nat) : State :=
  let r := s.readEntry w init idx sub
  let s := s.answerRead r
  let s := s.when (r.1 = 0x06010000) (fun s => s.noRights init idx sub)
  s.when (r.1 = 0 && idx = 0x6103 && sub = 5)
    (fun s => { s with ship := { s.ship with isl := { s.ship.isl with maxErr := 0 } } })

end Sys2Proof.Machine
end

