-- ==== Sys2Proof/Machine/DictWrite.lean ====
section
/-!
DEFINITION. Writes of dictionary entries (20 R472, R479, R486, R497, and the entry tables of the block chapters). A request
is served by the gateway of one Wing for one initiator; every outcome is an abort code, 0 for success.
-/
namespace Sys2Proof.Machine

/-! ### Entries that map to registers, own values and windows -/

/-- The fields that bits `lo` to `lo + w - 1` of a register cover, with the value `v` of those bits: every value of a setting
lies in the range its table gives (20 R486). -/
def fieldsFit (r : RegDesc) (lo w v : Nat) : Bool :=
  r.fields.all (fun fa =>
    if lo ≤ fa.lo && fa.lo + fa.fld.width ≤ lo + w && (fa.fld.acc = .rwl || fa.fld.acc = .rw) then
      fieldInRange fa.fld (bits v (fa.lo - lo) fa.fld.width)
    else true)

/-- A value too large for an entry that maps to one narrow field (20 R486). -/
def overWide (ty : ObjTy) (w v : Nat) : Bool := ty != .u32 && 2 ^ w ≤ v

/-- An engine's registers and window act for the engine's Wing, to which the request has been routed (20 R478). -/
def State.actingCore (w : Wing) (r : RegDesc) (i : Nat) : Nat :=
  2 * (if r.blockByte = 0x45 && 0x45000100 ≤ r.base then engineWing i else w).num

/-- A write of an entry that maps to bits of one register. -/
def State.writeReg (s : State) (w : Wing) (ty : ObjTy) (addr lo width v : Nat) : State :=
  match regAt 0 addr with
  | none => s.answer 0x06020000
  | some (r, i) =>
    let word := v * 2 ^ lo % 2 ^ 32
    let mask := (2 ^ width - 1) * 2 ^ lo
    if overWide ty width v || !fieldsFit r lo width v then s.answer 0x06090030
    else if r.base = 0x44000100 && !windowOk (s.fld .WC_CFG_MODE i) (s.fld .WC_CFG_HYST i) (bits v 0 12) (bits v 16 12) then
      (s.wcThr i (bits v 0 12) (bits v 16 12)).answer 0x06090030
    else if !s.groupOpen (r.group i) && s.locksDiffer r i word mask then s.answer 0x08000022
    else (s.regPut (State.actingCore w r i) r i addr word mask).answer 0

/-- A write of an entry that maps to several registers, the low word first. A shadow word is committed whole (08 R204). -/
def State.writeRegs (s : State) (w : Wing) (addrs : List Nat) (v : Nat) : State :=
  match addrs.head?.bind (regAt 0) with
  | some (r, m) =>
    if 0x40000040 ≤ r.base && r.base < 0x40000058 then
      (s.commitShd m ((r.base - 0x40000040) / 8) v true).answer 0
    else if (List.range addrs.length).any (fun k => match regAt 0 (addrs.getD k 0) with
        | some (r, i) => !s.groupOpen (r.group i) && s.locksDiffer r i (bits v (32 * k) 32) (2 ^ 32 - 1)
        | none => false) then s.answer 0x08000022
    else
      (s.each (List.range addrs.length) (fun s k =>
        let a := addrs.getD k 0
        match regAt 0 a with
        | some (r, i) => s.regPut (2 * w.num) r i a (bits v (32 * k) 32) (2 ^ 32 - 1)
        | none => s)).answer 0
  | none => s.answer 0x06020000

/-- A write of an entry of the dictionary's own (20 R486; 11 R281, R290, R296; 12 R301, R315). -/
def State.writeVar (s : State) (e : Entry) (idx sub v : Nat) : State :=
  match varDesc idx sub with
  | none => s.answer 0x06090011
  | some d =>
    if idx = 0x6000 && sub = 3 then s.gridCommand v
    else if idx = 0x6100 && sub = 2 then s.islCommand v
    else if !d.inRange v then s.answer 0x06090030
    else if d.lock then
      if s.groupOpen e.group then
        (s.modGroup e.group (fun p => { p with pendVars := p.pendVars.insert (idx, sub) v })).answer 0
      else if v = s.var idx sub then s.answer 0
      else s.answer 0x08000022
    else if d.group != 0 then (s.rwVar idx sub v).answer 0
    else (s.setVar idx sub v).answer 0

/-- A write of a part of an engine's window (10 Table 10-13, 20 R486). -/
def State.writeWindow (s : State) (n first words : Nat) (data : List Nat) : State :=
  let g := engGroup n
  let word (k : Nat) : Nat := ofLe ((data.drop (4 * k)).take 4)
  if s.groupOpen g then
    let put (m : SMap) : SMap := (List.range words).foldl (fun m k => m.insert (windowKey n (first + k)) (word k)) m
    (s.modGroup g (fun p => { p with pendVars := put p.pendVars })).answer 0
  else if (List.range words).all (fun k => s.engWord n (first + k) = word k) then s.answer 0
  else s.answer 0x08000022

/-! ### Entries with a rule of their own -/

/-- A data update through 0x5020 + n:04 (10 R278): the offset as UNSIGNED32 and 4 to 256 bytes. -/
def State.writeData (s : State) (n : Nat) (data : List Nat) : State :=
  let ofs := ofLe (data.take 4)
  let l := data.drop 4
  if l.length % 4 != 0 || l.isEmpty || 256 < l.length then s.answer 0x06070010
  else if !updateFits ofs (l.length / 4) then s.answer 0x06090030
  else (s.dataUpdate n ofs ((List.range (l.length / 4)).map (fun k => ofLe ((l.drop (4 * k)).take 4)))).answer 0

/-- A write of 0x6576_6173 to 0x1010:01 stores the class S entries (20 R492). -/
def State.storeParameters (s : State) (v : Nat) : State :=
  if v != 0x65766173 then s.answer 0x06090030
  else if !s.flag .LIB_STAT_READY then s.answer 0x08000020
  else s.storeClassS.answer 0

/-- A write of 0x6461_6F6C to 0x1011:01 writes a record of defaults for every group, with the sequence it has (20 R492). -/
def State.restoreDefaults (s : State) (v : Nat) : State :=
  if v != 0x64616F6C then s.answer 0x06090030
  else (s.each ((List.range 14).filter (fun g => g = 0 || (s.group g).st != .notFitted)) (fun s g =>
    s.storeRecord g (s.group g).seq (s.entryList g s.defaultBytes))).answer 0

/-- 0x1F50:01 (17 R419): the image of a download boot, for a Wing in BOOT that runs none. -/
def State.programDownload (s : State) (w : Wing) (data : List Nat) : State :=
  if s.fld .STRAP_BOOTSEL = 2 && s.wing w == .boot && (s.image w).isNone then
    { s.answer 0 with sec := { s.sec with download := some data } }
  else s.answer 0x08000022

/-- The image slot is in use by a Wing (20 Table 20-14). -/
def State.slotUsed (s : State) (slot : Nat) : Bool :=
  (s.sec.imageA.isSome && s.fld .SEC_STAT_SLOTA = slot) || (s.sec.imageB.isSome && s.fld .SEC_STAT_SLOTB = slot)

/-- 0x1F50:02 to :04 (20 Table 20-14): an image record for a slot that no Wing uses. -/
def State.imageSlotWrite (s : State) (slot : Nat) (data : List Nat) : State :=
  if s.slotUsed slot then s.answer 0x08000022
  else if !s.flag .LIB_STAT_READY then s.answer 0x08000020
  else (s.libRecord 1 (slot + 1) 0x01 data).answer 0

/-- A write of a group mask to 0x2002:01 (20 R488): every bit names a group, and all of them are in RECESS or REJECTED. -/
def State.jointRestart (s : State) (mask : Nat) : State :=
  let l := bitsOf 16 mask
  if l.isEmpty || s.dict.joint.isSome || !l.all (fun g => s.groupOpen g) then s.answer 0x08000022
  else
    let s := s.each l (fun s g => s.modGroup g (fun p =>
      { p with st := .validating, joint := true, restartAbort := 0, discarded := false }))
    { s.answer 0 with dict := { s.dict with joint := some mask, lastAbort := 0 } }

/-- A write of 1 to 0x2030:01 (22 R524): the requesting Wing is ACTIVE, its engine group is RUNNING, and no counter has run
since the reset. -/
def State.seedRequest (s : State) (w : Wing) (v : Nat) : State :=
  if v != 1 then s.answer 0x06090030
  else if s.wing w == .active && s.groupRunning (if w == .a then 7 else 8) && !s.pwm.counted && s.dict.seeding.isNone then
    { s with dict := { s.dict with seeding := some w, seedOutcome := 0xFFFF000F, lastAbort := 0 } }
  else s.answer 0x08000022

/-- 0xB001:01 (17 Table 17-10): the command code and its certificate or target. -/
def State.securityEntry (s : State) (data : List Nat) : State :=
  let cmd := data.headD 0
  let rest := data.drop 1
  if cmd = 4 then
    if rest.length = 1 then (s.secCommand 4 cmd none (rest.headD 0)).answer 0 else s.answer 0x06070010
  else if 1 ≤ cmd && cmd ≤ 3 then
    if rest.length = 7936 then (s.secCommand 4 cmd (some rest) 0).answer 0 else s.answer 0x06070010
  else (s.secCommand 4 cmd none 0).answer 0

/-- HP_CMD over 0x8002:01 (14 R345, R365; 20 R478). -/
def State.hpEntry (s : State) (w : Wing) (v : Nat) : State :=
  if 15 < v then s.answer 0x06090030 else (s.hpCmdWrite w v).answer 0

/-- A write of a special entry. -/
def State.writeSpecial (s : State) (w : Wing) (idx sub : Nat) (data : List Nat) : State :=
  let v := ofLe data
  match idx, sub with
  | 0x1010, _ => s.storeParameters v
  | 0x1011, _ => s.restoreDefaults v
  | 0x1F50, 1 => s.programDownload w data
  | 0x1F50, _ => s.imageSlotWrite (sub - 2) data
  | 0x2002, _ => s.jointRestart v
  | 0x2005, _ => { s with dict := { s.dict with descReq := v, lastAbort := 0 } }
  | 0x2030, _ => s.seedRequest w v
  | 0x6200, _ => s.traceRequest v
  | 0x8002, _ => s.hpEntry w v
  | 0xB001, _ => s.securityEntry data
  | 0xB020, _ => s.attestRequest data
  | _, _ =>
    if 0x5020 ≤ idx && idx < 0x502C then s.writeData (idx - 0x5020) data else (s.groupCommand (idx - 0x2010) v).checkHandover

/-! ### Any entry -/

/-- The length a write must have: the type's size, or that of a DOMAIN of fixed length (20 R472); none where it may vary. -/
def Entry.writeLen (e : Entry) (idx sub : Nat) : Option Nat :=
  if e.ty.size != 0 then some e.ty.size
  else match e.map with
    | .window _ n => some (4 * n)
    | _ => if domainLen idx sub = 0xFFFF then none else some (domainLen idx sub)

/-- The bytes are written to an entry that takes them. -/
def State.putEntry (s : State) (w : Wing) (e : Entry) (idx sub : Nat) (data : List Nat) : State :=
  match e.map with
  | .reg _ _ lo width => s.writeReg w e.ty ((e.addrs idx sub).headD 0) lo width (ofLe data)
  | .regs .. => s.writeRegs w (e.addrs idx sub) (ofLe data)
  | .var => s.writeVar e idx sub (ofLe data)
  | .window first n => s.writeWindow (idx - e.idx) first n data
  | .special => s.writeSpecial w idx sub data

/-- A write of a dictionary entry (20 R471, R472, R479): it exists, the requester has the right, the entry is writable and
the length is its own; then the bytes are taken or refused by the entry's rule. -/
def State.dictWrite (s : State) (w : Wing) (init idx sub : Nat) (data : List Nat) : State :=
  let data := data.map (fun b => b % 256)
  match s.entry idx sub with
  | none =>
    if (s.highest idx sub).isSome then
      if s.initiatorNs init && !s.nsWrites idx sub then s.noRights init idx sub else s.answer 0x06010002
    else s.answer (s.missing idx sub)
  | some e =>
    if s.initiatorNs init && !s.nsWrites idx sub then s.noRights init idx sub
    else if e.acc = .ro || e.acc = .rc then s.answer 0x06010002
    else if (e.writeLen idx sub).any (fun n => n != data.length) then s.answer 0x06070010
    else s.putEntry w e idx sub data

end Sys2Proof.Machine
end

