-- ==== Sys2Proof/Machine/Transport.lean ====
section
/-!
DEFINITION. The transports of the dictionary (20 R474 to R478, R482): USDO sessions, IDP datagrams, forwarding to the other
Wing, and the commands that are writes or reads of one entry.
-/
namespace Sys2Proof.Machine

/-! ### Routing and serving -/

/-- The Wing that holds an entry (20 R478): its engine group's, or the one entitled to the engine or module it names. -/
def State.entryWing (s : State) (idx : Nat) : Option Wing :=
  if 0x5010 ≤ idx && idx < 0x501C then some (engineWing (idx - 0x5010))
  else if 0x5020 ≤ idx && idx < 0x502C then some (engineWing (idx - 0x5020))
  else if idx = 0x2017 then some .a
  else if idx = 0x2018 then some .b
  else if 0x3010 ≤ idx && idx < 0x3028 then s.entitled (idx - 0x3010)
  else if 0x3130 ≤ idx && idx < 0x3148 then s.entitled (idx - 0x3130)
  else none

/-- The Wing whose gateway serves a port: the owner of its receive ring, Wing A where both or neither own it (20 R478). -/
def State.portWing (s : State) (p : Nat) : Wing := (s.ringOwners (2 * p)).headD .a

/-- SEC_VIOL's number of a port as an initiator (17 R412). -/
def portInit (p : Nat) : Nat := 0x40 + p

/-- A request is executed: a read, or a write of the bytes. -/
def State.request (s : State) (w : Wing) (init idx sub : Nat) (data : Option (List Nat)) : State :=
  match data with
  | some d => s.dictWrite w init idx sub d
  | none => if idx = 0x2000 && sub = 1 then s.askRollCall w else s.dictRead w init idx sub

/-- The request's answer comes later: the state that remembers who awaits it (20 R485, R487, R494; 22 R524). -/
def State.attach (s : State) (a : Asker) (idx sub : Nat) (data : Option (List Nat)) : Option State :=
  let ok := s.dict.lastAbort = 0
  match data with
  | none =>
    if idx = 0x2000 && sub = 1 && s.dict.rollCall.isSome then
      some { s with dict := { s.dict with rollAskers := s.dict.rollAskers ++ [a] } }
    else none
  | some d =>
    if !ok then none
    else if 0x2011 ≤ idx && idx < 0x201E && sub = 1 then
      let g := idx - 0x2010
      let p := s.group g
      match p.held.getLast? with
      | some (c, none) => some (s.modGroup g (fun p => { p with held := p.held.dropLast ++ [(c, some a)] }))
      | _ => if d = [2] && p.st == .validating then some (s.modGroup g (fun p => { p with askers := p.askers ++ [a] })) else none
    else if idx = 0x2002 && sub = 1 then
      (s.dict.joint.bind (fun m => (bitsOf 16 m).head?)).map (fun g =>
        s.modGroup g (fun p => { p with askers := p.askers ++ [a] }))
    else if idx = 0x2030 && sub = 1 && s.dict.seeding.isSome then
      some { s with dict := { s.dict with seedAskers := s.dict.seedAskers ++ [a] } }
    else none

/-- What a read of Roll Call answers at once, with no assembly to wait for, is its summary. -/
def State.readBytes (s : State) (idx sub : Nat) (data : Option (List Nat)) : List Nat :=
  if data.isSome then [] else if idx = 0x2000 && sub = 1 then s.dict.summary else s.dict.answered

/-- A request is executed for someone, who is answered now or later. -/
def State.serveFor (s : State) (a : Asker) (w : Wing) (init idx sub : Nat) (data : Option (List Nat)) : State :=
  let s := (s.answer 0).request w init idx sub data
  match s.attach a idx sub data with
  | some t => t
  | none => s.tell a s.dict.lastAbort (if s.dict.lastAbort = 0 then s.readBytes idx sub data else [])

/-- The gateway of Wing `w` serves a request, or forwards it to the Wing that holds the entry (20 R478). -/
def State.route (s : State) (a : Asker) (w : Wing) (init idx sub : Nat) (data : Option (List Nat)) : State :=
  match s.entryWing idx with
  | some h =>
    if h == w then s.serveFor a w init idx sub data
    else if s.flag .HP_STAT_LINKFLT then s.tell a 0x08000020 []
    else { s with dict := { s.dict with forwards := s.dict.forwards ++
      [{ asker := a, wing := h, init := init, index := idx, sub := sub, data := data }] } }
  | none => s.serveFor a w init idx sub data

/-- REQUEST_FORWARD (20 R478): the oldest forwarded request acts for the Wing that holds its entry, and is answered; while
LINKFLT is 1 it ends with abort 0x0800_0020. -/
def execRequestForward (s : State) : Out :=
  .next (match s.dict.forwards with
    | f :: r =>
      let s := { s with dict := { s.dict with forwards := r } }
      if s.flag .HP_STAT_LINKFLT then s.tell f.asker 0x08000020 []
      else s.serveFor f.asker f.wing f.init f.index f.sub f.data
    | [] => s)

/-! ### IDP -/

/-- A datagram is for the IDP server of port `p` (20 R475): the port and its IDP are on, the UDP port is the server's, and
MAGIC and VERSION are right; any other is dropped. -/
def State.idpTakes (s : State) (p udp : Nat) (h : IdpHead) (len : Nat) : Bool :=
  p < 2 && s.portOn p && (s.var 0x1200 2).testBit p && udp = s.var 0x1200 1 && h.magic = 0x4449 && h.version = 1 && len ≤ 1400

/-- The gateway a datagram's WING addresses: 0 by the port, 1 Wing A, 2 Wing B (20 R478). -/
def State.idpWing (s : State) (p wing : Nat) : Option Wing :=
  match wing with
  | 0 => some (s.portWing p)
  | 1 => some .a
  | 2 => some .b
  | _ => none

/-- The transfer of a source and TAG. -/
def State.idpTransfer (s : State) (p src tag : Nat) : Option IdpTransfer :=
  s.dict.idp.find? (fun t => t.port == p && t.source == src && t.tag == tag)

/-- A transfer ends. -/
def State.dropTransfer (s : State) (p src tag : Nat) : State :=
  { s with dict := { s.dict with idp := s.dict.idp.filter (fun t => !(t.port == p && t.source == src && t.tag == tag)) } }

/-- The transfer takes a new form. -/
def State.setTransfer (s : State) (t : IdpTransfer) : State :=
  let s := s.dropTransfer t.port t.source t.tag
  { s with dict := { s.dict with idp := t :: s.dict.idp } }

/-- The answer of the cache to a repeated request: of the last 2 s (20 R476). -/
def State.cached (s : State) (p src tag : Nat) : Option Answer :=
  s.dict.cache.find? (fun a => a.port == p && a.source == src && a.tag == tag && s.tb ≤ a.at_ + 2 * 640000000)

/-- Someone already awaits the answer of this source and TAG. -/
def State.awaited (s : State) (a : Asker) : Bool :=
  s.dict.rollAskers.contains a || s.dict.seedAskers.contains a || s.dict.forwards.any (fun f => f.asker == a)
    || s.dict.groups.any (fun p => p.askers.contains a || p.held.any (fun h => h.2 == some a))

/-- The answer that an earlier request left for this one (20 R476, R481): of a discarded transfer, or of the cache. -/
def State.idpAgain (s : State) (p src tag : Nat) : Option State :=
  match s.idpTransfer p src tag with
  | some t =>
    if t.aborted then some ((s.dropTransfer p src tag).idpAnswer p src tag 0x0F000001 []) else none
  | none =>
    if s.awaited (.idp p src tag) then some s
    else (s.cached p src tag).map (fun a =>
      { s with dict := { s.dict with lastAbort := a.code, answered := a.data } })

/-- A read segment from the copy of its TAG (20 R476). -/
def State.idpSegment (s : State) (t : IdpTransfer) (offset : Nat) : State :=
  let s := s.setTransfer { t with last := s.tb }
  { s with dict := { s.dict with lastAbort := 0, answered := (t.data.drop offset).take 1400 } }

/-- A read may be untagged, and Roll Call and 0x2001 are never refused for their epoch (20 R482). -/
def State.readEpochOk (s : State) (h : IdpHead) : Bool :=
  h.epoch = 0xFFFFFFFF || h.epoch = s.fld .RING_EPOCH || h.index = 0x2000 || h.index = 0x2001

/-- IDP_READ (20 R475, R476, R482). -/
def execIdpRead (p source udp : Nat) (head : IdpHead) (s : State) : Out :=
  .next (if !s.idpTakes p udp head 0 then s else
    match s.idpAgain p source head.tag with
    | some t => t
    | none =>
      match s.idpTransfer p source head.tag with
      | some t =>
        if t.write then (s.dropTransfer p source head.tag).idpAnswer p source head.tag 0x06070010 []
        else s.idpSegment t head.offset
      | none =>
        match s.idpWing p head.wing with
        | none => s.idpAnswer p source head.tag 0x05040001 []
        | some w =>
          if !s.readEpochOk head then s.idpAnswer p source head.tag 0x0F000002 []
          else if head.offset != 0 then s.idpAnswer p source head.tag 0x06070010 []
          else s.route (.idp p source head.tag) w (portInit p) head.index head.sub none)

/-- The bytes of a write are complete, or its transfer goes on (20 R476). -/
def State.idpTaken (s : State) (w : Wing) (t : IdpTransfer) : State :=
  let s := s.dropTransfer t.port t.source t.tag
  if t.data.length = t.total then s.route (.idp t.port t.source t.tag) w (portInit t.port) t.index t.sub (some t.data)
  else if t.total < t.data.length then s.idpAnswer t.port t.source t.tag 0x06070010 []
  else if 8 ≤ s.idpRunning t.port then s.idpAnswer t.port t.source t.tag 0x05040005 []
  else s.setTransfer { t with last := s.tb }

/-- IDP_WRITE (20 R475, R476, R482): it must carry the current epoch, and its segments arrive in order. -/
def execIdpWrite (p source udp : Nat) (head : IdpHead) (payload : List Nat) (s : State) : Out :=
  .next (if !s.idpTakes p udp head payload.length then s else
    match s.idpAgain p source head.tag with
    | some t => t
    | none =>
      match s.idpWing p head.wing with
      | none => s.idpAnswer p source head.tag 0x05040001 []
      | some w =>
        let was := s.idpTransfer p source head.tag
        let t : IdpTransfer := was.getD { port := p, source := source, tag := head.tag, write := true, index := head.index
                                          sub := head.sub, total := head.total, data := [] }
        if head.epoch != s.fld .RING_EPOCH then (s.dropTransfer p source head.tag).idpAnswer p source head.tag 0x0F000002 []
        else if !t.write || head.offset != t.data.length then
          (s.dropTransfer p source head.tag).idpAnswer p source head.tag 0x06070010 []
        else s.idpTaken w { t with data := t.data ++ payload })

/-- IDP_TRANSFER_TIMEOUT (20 R476): a write with no segment for 1 s ends with abort 0x0504_0000; the copy of a read is
dropped 2 s after its last segment. -/
def execIdpTransferTimeout (p source tag : Nat) (s : State) : Out :=
  .next (match s.idpTransfer p source tag with
    | some t =>
      let u := s.dropTransfer p source tag
      if t.aborted || !t.write then u else u.idpAnswer p source tag 0x05040000 []
    | none => s)

/-! ### USDO -/

/-- The USDO server of a CAN port runs (20 R474). -/
def State.usdoOn (s : State) (p : Nat) : Bool := (p = 2 || p = 3) && s.portOn p && (s.var 0x1200 (p + 1)).testBit 7

/-- The session of a client. -/
def State.usdoSession (s : State) (p client : Nat) : Option UsdoSession :=
  s.dict.usdo.find? (fun u => u.port == p && u.client == client)

/-- A session ends. -/
def State.dropSession (s : State) (p client : Nat) : State :=
  { s with dict := { s.dict with usdo := s.dict.usdo.filter (fun u => !(u.port == p && u.client == client)) } }

/-- A session ends with an abort code. -/
def State.abortSession (s : State) (p client code : Nat) : State :=
  let s := s.dropSession p client
  { s with dict := { s.dict with lastAbort := code, answered := [] } }

/-- A session starts, in place of the client's last one; a fifth ends with abort 0x0504_0005 (20 R474). -/
def State.startSession (s : State) (u : UsdoSession) (f : State → State) : State :=
  let s := s.dropSession u.port u.client
  if 4 ≤ (s.dict.usdo.filter (fun x => x.port == u.port)).length then s.abortSession u.port u.client 0x05040005
  else f { s with dict := { s.dict with usdo := u :: s.dict.usdo, lastAbort := 0, answered := [] } }

/-- A session takes a new form. -/
def State.setSession (s : State) (u : UsdoSession) : State :=
  let s := s.dropSession u.port u.client
  { s with dict := { s.dict with usdo := u :: s.dict.usdo } }

/-- A frame of a session that goes on (20 R474, R481). -/
def State.usdoFrame (s : State) (p client : Nat) (f : UsdoFrame) : State :=
  let u0 : UsdoSession :=
    { port := p, client := client, epoch := s.fld .RING_EPOCH, index := 0, sub := 0, write := true, data := [], toggle := false }
  let go (idx sub : Nat) (d : Option (List Nat)) (s : State) : State :=
    s.route (.usdo p client) (s.portWing p) (portInit p) idx sub d
  match f with
  | .unsupported => s.abortSession p client 0x05040001
  | .read idx sub room =>
    s.startSession { u0 with index := idx, sub := sub, write := false, room := room, waiting := true } (go idx sub none)
  | .write idx sub data => s.startSession { u0 with index := idx, sub := sub, waiting := true } (go idx sub (some data))
  | .writeStart idx sub total => s.startSession { u0 with index := idx, sub := sub, total := total } id
  | .writeSegment toggle data =>
    match s.usdoSession p client with
    | some u =>
      if !u.write then s.abortSession p client 0x05040001
      else if toggle != u.toggle then s.abortSession p client 0x05030000
      else
        let l := u.data ++ data
        if u.total < l.length then s.abortSession p client 0x06070010
        else if l.length = u.total then go u.index u.sub (some l) (s.setSession { u with data := [], waiting := true })
        else s.setSession { u with data := l, toggle := !u.toggle }
    | none => s.abortSession p client 0x05040001
  | .readSegment toggle room =>
    match s.usdoSession p client with
    | some u =>
      if u.write then s.abortSession p client 0x05040001
      else if toggle != u.toggle then s.abortSession p client 0x05030000
      else
        let s := if u.data.length ≤ room then s.dropSession p client
          else s.setSession { u with data := u.data.drop room, toggle := !u.toggle }
        { s with dict := { s.dict with lastAbort := 0, answered := u.data.take room } }
    | none => s.abortSession p client 0x05040001

/-- USDO_TRANSFER (20 R474, R481): a discarded session's next frame ends with 0x0F00_0001; one whose answer is awaited
takes no frame. -/
def execUsdoTransfer (p client : Nat) (frame : UsdoFrame) (s : State) : Out :=
  .next (if !s.usdoOn p then s else
    match s.usdoSession p client with
    | some u =>
      if u.aborted then s.abortSession p client 0x0F000001
      else if u.waiting then s
      else s.usdoFrame p client frame
    | none => s.usdoFrame p client frame)

/-- USDO_SESSION_TIMEOUT (20 R474). -/
def execUsdoSessionTimeout (p client : Nat) (s : State) : Out :=
  .next (if (s.usdoSession p client).isSome then s.abortSession p client 0x05040000 else s)

/-! ### Single entries -/

/-- A command of a group through its entry (20 R485). -/
def State.groupEntry (s : State) (w : Wing) (init g cmd : Nat) : State :=
  if g < 14 then s.dictWrite w init (0x2010 + g) 1 [cmd] else s.answer 0x06020000

/-- GROUP_ENTER (20 R485): a write of 1 to 0x2010 + g:01. -/
def execGroupEnter (w : Wing) (init g : Nat) (s : State) : Out := .next (s.groupEntry w init g 1)

/-- GROUP_RESTART (20 R485). -/
def execGroupRestart (w : Wing) (init g : Nat) (s : State) : Out := .next (s.groupEntry w init g 2)

/-- GROUP_RESTORE (20 R485). -/
def execGroupRestore (w : Wing) (init g : Nat) (s : State) : Out := .next (s.groupEntry w init g 3)

/-- JOINT_RESTART (20 R488). -/
def execJointRestart (w : Wing) (init mask : Nat) (s : State) : Out := .next (s.dictWrite w init 0x2002 1 (leBytes 2 mask))

/-- STORE_PARAMETERS (20 R492). -/
def execStoreParameters (w : Wing) (init value : Nat) (s : State) : Out := .next (s.dictWrite w init 0x1010 1 (leBytes 4 value))

/-- RESTORE_DEFAULTS (20 R492). -/
def execRestoreDefaults (w : Wing) (init value : Nat) (s : State) : Out := .next (s.dictWrite w init 0x1011 1 (leBytes 4 value))

/-- ROLL_CALL (20 R494). -/
def execRollCall (w : Wing) (init : Nat) (s : State) : Out := .next ((s.answer 0).request w init 0x2000 1 none)

/-- DESCRIPTION_REQUEST (20 R473). -/
def execDescriptionRequest (w : Wing) (init value : Nat) (s : State) : Out :=
  .next (s.dictWrite w init 0x2005 1 (leBytes 4 value))

/-- DESCRIPTION_READ (20 R473). -/
def execDescriptionRead (w : Wing) (init : Nat) (s : State) : Out := .next (s.dictRead w init 0x2005 2)

/-- PROGRAM_DOWNLOAD (17 R419): a write of 0x1F50:01. -/
def execProgramDownload (w : Wing) (init : Nat) (data : List Nat) (s : State) : Out := .next (s.dictWrite w init 0x1F50 1 data)

/-- IMAGE_SLOT_WRITE (20 R497): a write of 0x1F50:02 to :04. -/
def execImageSlotWrite (w : Wing) (init slot : Nat) (data : List Nat) (s : State) : Out :=
  .next (if slot < 3 then s.dictWrite w init 0x1F50 (2 + slot) data else s)

/-- SEED_REQUEST (22 R524). -/
def execSeedRequest (w : Wing) (init value : Nat) (s : State) : Out := .next (s.dictWrite w init 0x2030 1 (leBytes 1 value))

end Sys2Proof.Machine
end

