-- ==== Sys2Proof/Machine/Validate.lean ====
section
/-!
DEFINITION. Validation of a restart (20 R487, R488): the rules of each group over its pending set and the sets in force of
the other groups, and what passing and failing do. A finding is an index, a subindex and a reason of Table 20-9.
-/
namespace Sys2Proof.Machine

/-- A finding: index, subindex, reason. -/
abbrev Finding := Nat × Nat × Nat

/-- The finding where `bad` holds. -/
def finding (bad : Bool) (idx sub reason : Nat) : List Finding := if bad then [(idx, sub, reason)] else []

/-- The state as it would be with the pending sets of the groups `gs` in force. RWL settings of a running module that wait for
its period start count as in force (08 R224). -/
def State.proposed (s : State) (gs : List Nat) : State :=
  let s := s.each (List.range 24) (fun s m => s.setAll (s.pm m).wait)
  s.each gs (fun s g =>
    let p := s.group g
    (s.setAll p.pend).each p.pendVars (fun s e =>
      if 0x10000 ≤ e.1.1 then s.setEngWord (e.1.1 - 0x10000) e.1.2 e.2 else s.setVar e.1.1 e.1.2 e.2))

/-! ### Loads and sources -/

/-- A source of Table 1-7 that the variant has. -/
def State.sourceThere (s : State) (src : Nat) : Bool :=
  if src < 0x40 then s.bonded (src % 4)
  else if src < 0x58 then s.hasMd (src - 0x40)
  else if 0x80 ≤ src && src < 0x98 then s.hasPm (src - 0x80)
  else false

/-- Sampling edges per second of a modulator channel's clock: 25 MHz / DIV in output mode, at most 25 MHz in input mode. -/
def State.modClock (s : State) (n : Nat) : Nat × Nat :=
  match s.fld .MOD_CLK_MODE (n / 4) with
  | 1 => (25000000, max 1 (s.fld .MOD_CLK_DIV (n / 4)))
  | 2 => (25000000, 1)
  | _ => (0, 1)

/-- The steady load of a modulator channel in bit/s, rounded up (01 R27): a word every M sampling edges, and with SYNC as many
words as the period of the PWM event needs (06 R153). -/
def State.channelLoad (s : State) (n : Nat) : Nat :=
  let c := s.modClock n
  let d := c.2 * max 1 (s.fld .MOD_CFG_OSR n)
  if s.fld .MOD_CFG_SYNC n = 1 then
    let p := max 1 (s.shadowPeriod (s.fld .MOD_CFG_PMSEL n))
    let words := (p * c.1 + 640000000 * d - 1) / (640000000 * d)
    (words * 64 * 640000000 + p - 1) / p
  else (c.1 * 64 + d - 1) / d

/-- The steady load of spine 2 in bit/s (01 R27, Table 1-4): the Substitute and the main filters. -/
def State.load2 (s : State) : Nat :=
  256000000 + ((bitsOf 24 (s.fld .MOD_CTRL_CH_EN)).map s.channelLoad).sum

/-- Ones of a 4-bit mask. -/
def ones4 (v : Nat) : Nat := (bitsOf 4 v).length

/-- The load of a module's selected edge records in bit/s, rounded up. -/
def State.edgeLoad (s : State) (m : Nat) : Nat :=
  if s.hasPm m then
    let d := max 1 (s.shadowPeriod m)
    (ones4 (s.fld .PWM_ERSEL_SEL m) * 64 * 640000000 + d - 1) / d
  else 0

/-- Words of a source per burst and Edge ticks of a burst period of SAR slot `k`; ticks 0 where no burst comes by itself
(05 Table 5-1, R116). -/
def State.slotRate (s : State) (k input : Nat) : Nat × Nat :=
  let n := s.fld .SAR_TRIG_SEQ_LEN k + 1
  let es := ([Fld.SAR_SEQ_E0, .SAR_SEQ_E1, .SAR_SEQ_E2, .SAR_SEQ_E3].map (fun f => s.fld f k)).take n
  let hits := (es.filter (fun e => e % 4 = input)).length
  let div := s.fld .SAR_TRIG_DIV k
  let ticks := match s.fld .SAR_TRIG_SRC k with
    | 1 => (es.map (fun e => 160 + 4 * (e / 4))).sum + 160 * div
    | 2 => (div + 1) * s.shadowPeriod (s.fld .SAR_TRIG_PMSEL k)
    | 3 => (div + 1) * s.nominalPeriod
    | _ => 0
  (hits, ticks)

/-- The steady load of a source in bit/s: a SAR input at the rate of its bursts, at most that of a slot at 4 MSPS, which stands
where no burst comes by itself. -/
def State.sourceLoad (s : State) (src : Nat) : Nat :=
  if src < 0x40 then
    let r := s.slotRate (src / 4) (src % 4)
    if r.2 = 0 then 256000000 else min 256000000 ((r.1 * 64 * 640000000 + r.2 - 1) / r.2)
  else if src < 0x58 then s.channelLoad (src - 0x40)
  else s.edgeLoad (src - 0x80)

/-- The steady load of spine 3 in bit/s: the selected edge records, and the running captures of the sources they mirror. -/
def State.load3 (s : State) : Nat :=
  ((List.range 24).map s.edgeLoad).sum
  + ((List.range 2).map (fun a =>
      if s.flag .CAP_CFG_EN a then
        (s.sourceLoad (s.fld .CAP_CFG_SOURCE a) + s.fld .CAP_CFG_DIV a) / (s.fld .CAP_CFG_DIV a + 1)
      else 0)).sum

/-- Some spine carries more than 2.88 Gbit/s (01 R27); spines 0 and 1 carry at most 2.048 Gbit/s. -/
def State.overloaded (s : State) : Bool := 2880000000 < s.load2 || 2880000000 < s.load3

/-- A source delivers at least 8 kS/s (13 R336). -/
def State.fastEnough (s : State) (src : Nat) : Bool :=
  if src < 0x40 then
    let r := s.slotRate (src / 4) (src % 4)
    s.bit .SAR_CTRL_SLOT_EN 0 (src / 4) && r.2 != 0 && 8000 * r.2 ≤ 640000000 * r.1
  else if src < 0x58 then
    let n := src - 0x40
    let c := s.modClock n
    s.bit .MOD_CTRL_CH_EN 0 n && 8000 * c.2 * s.fld .MOD_CFG_OSR n ≤ c.1
  else true

/-! ### Values outside their range (reason 1) -/

/-- The entry that shows a register field. -/
def State.entryOfField (s : State) (f : Fld) (i : Nat) : Nat × Nat :=
  let addr := regMap.findSome? (fun r =>
    if r.fields.any (fun fa => fa.fld == f) then
      (List.range (r.count * r.count2)).findSome? (fun k =>
        let a := r.base + r.stride * (k / r.count2) + r.stride2 * (k % r.count2)
        match regAt 0 a with
        | some (r', i') => if r' == r && i' == i then some a else none
        | none => none)
    else none)
  match addr with
  | none => (0, 0)
  | some a =>
    (allEntries.findSome? (fun e => (List.range e.ni).findSome? (fun j => (List.range e.ns).findSome? (fun k =>
      if (e.addrs (e.idx + j) (e.sub + k)).contains a && s.entryFitted e (e.idx + j) (e.sub + k) then
        some (e.idx + j, e.sub + k) else none)))).getD (0, 0)

/-- The first pending value outside its range: a field that a core wrote, or an own entry. -/
def State.rangeFindings (s : State) (g : Nat) : List Finding :=
  let p := s.group g
  (match p.pend.find? (fun e => !fieldInRange e.1.1 e.2) with
    | some e => let x := s.entryOfField e.1.1 e.1.2; [(x.1, x.2, 1)]
    | none => [])
  ++ p.pendVars.filterMap (fun e =>
    if e.1.1 < 0x10000 && !(match varDesc e.1.1 e.1.2 with | some d => d.inRange e.2 | none => true) then
      some (e.1.1, e.1.2, 1) else none)

/-! ### The rules of the groups. Each takes the proposed state. -/

/-- The SAR group (05 R145). -/
def State.sarFindings (s : State) : List Finding :=
  (List.range 16).flatMap (fun k =>
    let es := ([Fld.SAR_SEQ_E0, .SAR_SEQ_E1, .SAR_SEQ_E2, .SAR_SEQ_E3].map (fun f => s.fld f k)).take (s.fld .SAR_TRIG_SEQ_LEN k + 1)
    finding (es.any (fun e => !s.bonded (e % 4))) (0x4010 + k) 2 2
      ++ finding (!s.hasPm (s.fld .SAR_TRIG_PMSEL k)) (0x4010 + k) 1 2)
  ++ finding s.overloaded 0x4000 3 4

/-- The modulator group (06 R158, R165, R167). -/
def State.modFindings (s : State) : List Finding :=
  (List.range 24).flatMap (fun n => if !s.hasMd n then [] else
    finding (s.bit .MOD_CTRL_CH_EN 0 n && s.fld .MOD_CLK_MODE (n / 4) = 0) (0x4108 + n / 4) 1 3
      ++ finding (!s.hasPm (s.fld .MOD_CFG_PMSEL n)) (0x4110 + n) 1 2
      ++ finding (s.fld .MOD_CFG_SYNC n = 1 && s.fld .MOD_FDLY_FDLY n != 0) (0x4110 + n) 1 3)
  ++ finding (s.flag .FUSE_RES_THEFT && s.fld .MOD_CLK_MODE (s.fld .MOD_THEFT_GRP) != 1) 0x4100 2 3
  ++ finding s.overloaded 0x4100 1 4

/-- The comparator group (07 R172). -/
def State.compFindings (s : State) : List Finding :=
  (List.range 48).flatMap (fun c => if !s.hasWc c then [] else
    finding (!windowOk (s.fld .WC_CFG_MODE c) (s.fld .WC_CFG_HYST c) (s.fld .WC_THR_LO c) (s.fld .WC_THR_HI c)) (0x4210 + c) 2 3
      ++ finding (!s.hasPm (s.fld .WC_CFG_LINK c)) (0x4210 + c) 2 2)
  ++ (List.range 8).flatMap (fun g =>
    finding ((bitsOf 24 (s.fld .TG_ROUTE_PM g)).any (fun m => !s.hasPm m)) (0x4208 + g) 1 2)

/-- The module lies in an enabled leg (09 R232). -/
def State.inLeg (s : State) (m : Nat) : Bool :=
  (List.range 12).any (fun k => s.flag .GSEQ_LEG_EN k && (s.fld .GSEQ_LEG_MA k = m || s.fld .GSEQ_LEG_MB k = m))

/-- SH or SL of the module is 1. -/
def State.safeHigh (s : State) (m : Nat) : Bool := s.flag .PWM_CTRL_SH m || s.flag .PWM_CTRL_SL m

/-- The PWM group (08 R212, R224; 09 R232). -/
def State.pwmFindings (s : State) : List Finding :=
  (List.range 24).flatMap (fun m => if !s.hasPm m then [] else
    let ctrl := 0x3010 + m
    let owner : Wing := if s.flag .PWM_CTRL_OWNER m then .b else .a
    finding (s.sizeL && s.flag .PWM_CTRL_SH m && s.flag .PWM_CTRL_SL m) ctrl 1 3
      ++ finding (s.split && s.wing owner != .active) ctrl 1 6
      ++ finding (!s.isHead m && (s.flag .PWM_INT_IEN m || s.flag .PWM_RUN_ARM m)) ctrl 0xF 3
      ++ finding (s.flag .PWM_CTRL_FOLLOW m &&
          (m = 0 || (s.fld .PWM_CTRL_LINKOUT (m - 1) = 0 && !s.flag .PWM_CTRL_FORWARD (m - 1)))) ctrl 1 3
      ++ finding (s.inLeg m && s.safeHigh m) ctrl 1 6)
  ++ finding s.overloaded 0x3010 9 4

/-- The gate group (09 R232, 18 R433). -/
def State.gateFindings (s : State) : List Finding :=
  let on := (List.range 12).filter (fun k => s.flag .GSEQ_LEG_EN k)
  let mods (k : Nat) : List Nat := [s.fld .GSEQ_LEG_MA k, s.fld .GSEQ_LEG_MB k]
  on.flatMap (fun k =>
    let e := 0x3120 + k
    let outer := s.fld .GSEQ_LEG_OUTER k
    finding (on.any (fun j => j < k && (mods j).any (fun m => (mods k).contains m))) e 1 3
      ++ finding (s.fld .GSEQ_LEG_MA k = s.fld .GSEQ_LEG_MB k) e 1 3
      ++ finding ((mods k).any (fun m => !s.hasPm m)) e 1 2
      ++ finding (outer = 0 || outer = 15) e 1 3
      ++ finding ((mods k).any s.safeHigh) e 1 6
      ++ finding (s.prefectFitted && 216 < s.fld .GSEQ_LEG_GAP k) e 1 5)
  ++ (List.range 24).flatMap (fun m =>
    finding (s.hasPm m && s.fld .GI_REF_REFRESH_N m != 0 && s.fld .GI_REF_REFRESH_W m < s.fld .PWM_MINPW_MINPW m)
      (0x3130 + m) 2 3)

/-- HP_LEASE covers two renewal intervals (14 R343): HP_LEASE × 0.98 ≥ 2 × P / RPP + 10 µs. -/
def State.leaseOk (s : State) : Bool :=
  let rpp := s.fld .HP_LEASE_RPP
  20 * s.nominalPeriod + 64000 * rpp ≤ 6272 * s.fld .HP_LEASE_LEASE * rpp

/-- The lesson timer group (10 R275, 14 R343). -/
def State.lessonFindings (s : State) : List Finding :=
  let h := 6 * s.fld .LT_CFG_HEAD
  let p := s.nominalPeriod
  finding (!s.isHead h) 0x5000 1 2
    ++ finding (s.shd h 1 % 2 ^ 20 < s.fld .LT_MATCH_CNT) 0x5000 3 6
    ++ finding (p < 3200 || 640000 < p) 0x5000 2 1
    ++ finding (!s.leaseOk) 0x5000 2 5

/-! ### Timetables (10 R262, R275) -/

/-- The last register of a pair or group that an operation reads or writes: it must not exceed F31. -/
def TtInstr.lastReg (t : TtInstr) : Nat :=
  match t.op with
  | 0x04 => t.rd + t.mod
  | 0x27 | 0x33 | 0x36 | 0x44 | 0x48 => t.rd + 1
  | 0x34 | 0x35 => max (t.rd + 1) (t.rc + 1)
  | 0x37 => max (t.rd + 3) (t.rc + 1)
  | 0x38 => t.rd + 3
  | _ => 0

/-- MOD values of Table 10-4: a bit, a count, a condition or a priority; any other operation takes none. -/
def TtInstr.modOk (t : TtInstr) : Bool :=
  match t.op with
  | 0x04 => true
  | 0x02 | 0x03 | 0x50 | 0x52 => t.mod ≤ 1
  | 0x43 => t.mod ≤ 7
  | 0x44 => t.mod ≤ 2
  | _ => t.mod = 0

/-- Bytes of the block an operation works on, with an ADDR that must be even where it is a block (10 Table 10-6). A LUT has
the length its word N gives. -/
def TtInstr.block (t : TtInstr) (word : Nat → Nat) : Option (Nat × Bool) :=
  match t.op with
  | 0x02 | 0x03 => some (if t.mod = 1 then 8 else 4, false)
  | 0x30 | 0x4B => some (32, true)
  | 0x31 | 0x32 | 0x37 | 0x38 | 0x48 => some (40, true)
  | 0x36 => some (24, true)
  | 0x41 | 0x49 | 0x4A => some (16, true)
  | 0x42 => some (16 + 4 * (word (0x2000 + t.imm % 2 ^ 13 + 2) % 2 ^ 32), true)
  | _ => none

/-- ADDR, in 32-bit words of the data area, and its block lie inside it (10 R251, R275). -/
def TtInstr.addrOk (t : TtInstr) (word : Nat → Nat) : Bool :=
  match t.block word with
  | none => true
  | some (n, even) =>
    let a := t.imm % 2 ^ 13
    (!even || a % 2 = 0) && 4 * a + n ≤ 32256
      && (t.op != 0x42 || (24 ≤ n && n ≤ 1040))

/-- The flag an operation names (10 R275). -/
def TtInstr.flagOk (t : TtInstr) : Bool :=
  match t.op with
  | 0x43 => 8 ≤ t.rd && t.rd ≤ 15
  | 0x51 => 8 ≤ t.rd && t.rd ≤ 15 && t.imm % 2 ^ 16 != 0
  | 0x50 => t.rd ≤ 15
  | _ => true

/-- What is wrong with the instruction at `i` of a Timetable whose END stands at `last`: reason, none where it passes. -/
def State.instrReason (s : State) (n i last : Nat) (t : TtInstr) : Option Nat :=
  if (opCost t.op).isNone || !t.modOk || !t.flagOk || !t.addrOk (s.engWord n) then some 3
  else if 31 < t.lastReg then some 3
  else if t.op = 0x50 && last < i + t.imm % 2 ^ 8 + 1 then some 3
  else if t.op = 0x06 && !(t.ra < 16 && s.bonded (t.rb % 4)) then some 2
  else match t.storesTo with
    | some m =>
      if !s.hasPm m then some 2
      else if s.split && s.fld .PWM_CTRL_OWNER m != (engineWing n).num then some 6
      else none
    | none => none

/-- The modules a Timetable stores to. -/
def storesOf (l : List TtInstr) : List Nat := l.filterMap TtInstr.storesTo

/-- State words of 64 bits that a Timetable writes (10 Table 10-4). -/
def stateWords (l : List TtInstr) : Nat := (l.map (fun t => ((opCost t.op).getD (0, 0)).2)).sum

/-- The enabled subscriptions of engine `n`, with their sources (10 Table 10-2). -/
def State.subSources (s : State) (n : Nat) : List Nat :=
  (List.range 32).filterMap (fun k =>
    let w := s.engWord n (0x3F80 + 4 * k)
    if w.testBit 8 then some (w % 256) else none)

/-- Engine `n`'s Timetable and table (10 R262, R275). -/
def State.engineFindings (s : State) (n : Nat) : List Finding :=
  let e := 0x5020 + n
  finding (4032 < s.fld .LE_SNAP_BASE n + s.fld .LE_SNAP_LEN n) (0x5010 + n) 8 3
    ++ (if !s.flag .LE_CTRL_EN n then [] else
      finding ((s.subSources n).any (fun x => !s.sourceThere x)) e 2 2
      ++ (match s.timetable n with
        | none => [(e, 1, 3)]
        | some l =>
          (l.zipIdx.filterMap (fun x => s.instrReason n x.2 (l.length - 1) x.1)).map (fun r => (e, 1, r))
            ++ finding (25 * s.nominalPeriod < 20 * wcetBound l + 32) e 1 5
            ++ finding (256 < stateWords l) e 1 3))

/-- An engine group (10 R275): its engines, no module fed by two of them, and the spine load. -/
def State.engGroupFindings (s : State) (g : Nat) : List Finding :=
  let l := (List.range 12).filter (fun n => engGroup n = g)
  let stores (n : Nat) : List Nat := if s.flag .LE_CTRL_EN n then storesOf ((s.timetable n).getD []) else []
  l.flatMap s.engineFindings
    ++ l.flatMap (fun n => finding (l.any (fun k => k < n && (stores k).any (fun m => (stores n).contains m))) (0x5020 + n) 1 3)
    ++ finding s.overloaded (0x5010 + 6 * (g - 7)) 1 4

/-! ### The shipped Timetables -/

/-- The lesson period lies within 25 µs to 250 µs (11 R280, 12 R307). -/
def State.lessonFits (s : State) : Bool := 16000 ≤ s.nominalPeriod && s.nominalPeriod ≤ 160000

/-- h × (F_NOM + F_RANGE) > 0.2 / P for harmonic bit `j` (11 R280), exactly. -/
def State.harmonicHigh (s : State) (j : Nat) : Bool :=
  let f := (s.varR 0x6001 3).addExact (s.varR 0x6001 4)
  (Fp.ofInt 640000000).lt ((Fp.ofInt ((5 * (2 * j + 3) * s.nominalPeriod : Nat) : Int)).mulExact f)

/-- The grid group (11 R280, R292). -/
def State.gridFindings (s : State) : List Finding :=
  let v := s.varR
  let one := Fp.ofInt 1
  let m := s.var 0x6000 2
  finding (!s.lessonFits) 0x6000 1 6
    ++ finding (!(s.fld .LT_CFG_SRC = 2 && 6 * s.fld .LT_CFG_HEAD = m)) 0x6000 2 6
    ++ finding (m % 6 != 0 || 18 < m) 0x6000 2 1
    ++ finding (!s.hasPm (m + 5)) 0x6000 2 2
    ++ finding ((bitsOf 24 (s.var 0x6003 1)).any s.harmonicHigh) 0x6003 1 3
    ++ finding ((v 0x6002 6).lt (v 0x6006 8)) 0x6006 8 3
    ++ finding (!(v 0x6006 0xB).lt (v 0x6006 1)) 0x6006 0xB 3
    ++ finding (!((v 0x6006 1).le (v 0x6006 2) && (v 0x6006 2).le one)) 0x6006 2 3
    ++ finding (!(one.le (v 0x6006 4) && (v 0x6006 4).le (v 0x6006 3))) 0x6006 4 3
    ++ finding (!((v 0x6006 0xB).le (v 0x6006 0xC) && (v 0x6006 0xC).le one)) 0x6006 0xC 3
    ++ finding (!curveOk (s.curve 0x6007)) 0x6007 1 3
    ++ finding (!curveOk (s.curve 0x6008)) 0x6008 1 3

/-- The islanding engine's subscriptions 0 to 5 carry what those of the grid engine carry (12 R298). -/
def State.sameSubs (s : State) (a b : Nat) : Bool :=
  (List.range 6).all (fun k => (List.range 3).all (fun j => s.engWord a (0x3F80 + 4 * k + j) = s.engWord b (0x3F80 + 4 * k + j)))

/-- A bound of the Prefect's set in force, at a byte offset (18 Table 18-3). -/
def pfReal (set : List Nat) (ofs : Nat) : Fp := .of32 (ofLe ((set.drop ofs).take 4))

/-- The islanding group against the Prefect's set in force (18 R439). -/
def State.prefectFindings (s : State) : List Finding :=
  match s.pf.set with
  | none => []
  | some set =>
    let v := s.varR
    (List.range 6).flatMap (fun k =>
      let level := pfReal set (16 + 8 * k)
      let time := pfReal set (20 + 8 * k)
      let x := v 0x6101 (1 + 2 * k)
      finding (if k = 2 || k = 3 then x.lt level else level.lt x) 0x6101 (1 + 2 * k) 7
        ++ finding (time.lt (v 0x6101 (2 + 2 * k))) 0x6101 (2 + 2 * k) 7)
    ++ finding (maskOff (ofLe ((set.drop 64).take 2)) (s.var 0x6101 0x13) != 0) 0x6101 0x13 7

/-- The islanding group (12 R298, R307; 18 R439). -/
def State.islFindings (s : State) : List Finding :=
  let n := s.var 0x6100 1
  let chips := (s.var 0x6102 6 + 1) * s.var 0x6102 4 * s.var 0x6102 3 + 2
  finding (96000000 < chips * s.nominalPeriod) 0x6102 4 3
    ++ finding (!s.lessonFits) 0x6100 1 6
    ++ finding ((s.varR 0x6001 4).le (s.varR 0x6101 9)) 0x6101 9 6
    ++ finding ((s.varR 0x6001 4).le (s.varR 0x6101 0xB)) 0x6101 0xB 6
    ++ finding (n = s.var 0x6000 1 || n = s.var 0x6200 1) 0x6100 1 6
    ++ finding (!s.sameSubs n (s.var 0x6000 1)) 0x6100 1 6
    ++ finding (!(storesOf ((s.timetable n).getD [])).isEmpty) 0x6100 1 6
    ++ s.prefectFindings

/-- The MPPT group (12 R308, R309). -/
def State.mpptFindings (s : State) : List Finding :=
  let v := s.varR
  let n := s.var 0x6200 1
  let ticks := s.var 0x6200 4 * s.nominalPeriod
  let on := bitsOf 12 (s.var 0x6200 3)
  let sub (k : Nat) : Nat := s.engWord n (0x3F80 + 4 * k)
  finding (ticks < 32000 || 640000 < ticks) 0x6200 4 3
    ++ finding (!(v 0x6201 6).lt (v 0x6201 7)) 0x6201 6 3
    ++ finding ((v 0x6201 3).lt (v 0x6201 2)) 0x6201 2 3
    ++ finding (((Fp.ofInt 384000).mulExact (v 0x6201 0xE)).lt (Fp.ofInt ((128 * s.nominalPeriod : Nat) : Int))) 0x6201 0xE 3
    ++ finding (n = s.var 0x6000 1 || n = s.var 0x6100 1) 0x6200 1 6
    ++ finding (on.any (fun i => decide (s.fld .FUSE_RES_MPPT_CNT ≤ i))) 0x6200 3 2
    ++ finding (on.any (fun i => !s.hasPm (s.var 0x6200 2 + i))) 0x6200 2 2
    ++ finding (on.any (fun i => !s.sourceThere (sub (2 * i) % 256) || !s.sourceThere (sub (2 * i + 1) % 256))) 0x6200 3 2

/-! ### Bursar and duplex -/

/-- A source of the Bursar that is named: 0xFF names none. -/
def named (src : Nat) : Bool := src != 0xFF

/-- One metering point (13 R336). -/
def State.pointFindings (s : State) (q : Nat) : List Finding :=
  let e := 0x7010 + q
  let on := if q < 4 then s.bit .BUR_CTRL_AC_EN 0 q else s.bit .BUR_CTRL_DC_EN 0 (q - 4)
  let vs := if q < 4 then [s.fld .BUR_SRC_VA q, s.fld .BUR_SRC_VB q, s.fld .BUR_SRC_VC q] else [s.fld .BUR_SRC_VA q]
  let is := if q < 4 then [s.fld .BUR_ISRC_IA q, s.fld .BUR_ISRC_IB q, s.fld .BUR_ISRC_IC q] else [s.fld .BUR_ISRC_IA q]
  let bad (x : Nat) : Bool := named x && (!s.sourceThere x || 0x80 ≤ x)
  let slow (x : Nat) : Bool := on && named x && !s.fastEnough x
  finding (vs.any bad) e 1 2 ++ finding (is.any bad) e 2 2
    ++ finding (q < 4 && on && !named (vs.headD 0)) e 1 3
    ++ finding (q < 4 && on && !named (is.headD 0)) e 2 3
    ++ finding (vs.any slow) e 1 6 ++ finding (is.any slow) e 2 6
    ++ finding (10000 ≤ s.fld .BUR_EVT_SAG q + s.fld .BUR_EVT2_HYS q) e 7 3
    ++ finding (s.fld .BUR_EVT_SWL q ≤ 10000 + s.fld .BUR_EVT2_HYS q) e 7 3
    ++ finding (s.fld .BUR_EVT_SAG q ≤ s.fld .BUR_EVT2_INT q + s.fld .BUR_EVT2_HYS q) e 8 3

/-- The Bursar group (13 R332, R336). -/
def State.bursarFindings (s : State) : List Finding :=
  finding (s.flag .CT_STAT_COLD && !s.flag .BUR_STAT_RESTORED) 0x7000 3 6
    ++ finding (s.flag .BUR_CTRL_THEFT_EN && !s.flag .FUSE_RES_THEFT) 0x7000 1 2
    ++ (List.range 8).flatMap s.pointFindings
    ++ finding s.overloaded 0x7000 1 4

/-- Bytes of a snapshot slot of a Wing (14 Table 14-3). -/
def State.slotBytes (s : State) (w : Wing) : Nat :=
  let lens := (List.range 6).map (fun j => s.fld .LE_SNAP_LEN (j + 6 * w.num))
  let t := s.fld .HP_TUTOR_LEN
  648 + (lens.map (fun n => if n = 0 then 0 else 8 + 8 * n)).sum + (if t = 0 then 0 else 8 + 8 * t)

/-- The duplex group (14 R340, R343, R349, R350); `was` is the state in force. -/
def State.duplexFindings (s was : State) : List Finding :=
  let base := s.fld .HP_RING_BASE
  let bytes := max (s.slotBytes .a) (s.slotBytes .b)
  let changes := s.split != was.split
  finding (changes && (List.range 24).any (fun m => s.flag .PWM_RUN_OUTEN m)) 0x8000 1 6
    ++ finding (changes && s.split && (!s.wingClock .a || !s.wingClock .b)) 0x8000 1 6
    ++ finding (!s.leaseOk) 0x8000 2 5
    ++ finding (base % 4 != 0) 0x8000 4 3
    ++ finding (!s.satRangeSecure (0x20000000 + base * 65536) 262144 || !(List.range 4).all s.slotInService) 0x8000 4 6
    ++ finding (!s.split && 65536 < bytes) 0x8000 5 5
    ++ finding (!s.split && 25 * s.fld .BELL_CFG_CADENCE * s.nominalPeriod < 32000 + 4 * bytes) 0x8000 5 5

/-! ### The restart -/

/-- What is found in the proposed sets of the groups, group by group. -/
def State.findings (s : State) (gs : List Nat) : List Finding :=
  let t := s.proposed gs
  gs.flatMap (fun g => s.rangeFindings g ++
    match g with
    | 1 => t.sarFindings
    | 2 => t.modFindings
    | 3 => t.compFindings
    | 4 => t.pwmFindings
    | 5 => t.gateFindings
    | 6 => t.lessonFindings
    | 7 | 8 => t.engGroupFindings g
    | 9 => t.gridFindings
    | 10 => t.islFindings
    | 11 => t.mpptFindings
    | 12 => t.bursarFindings
    | 13 => t.duplexFindings s
    | _ => [])

/-- Every enabled engine of the groups shows its bound in LE_WCET (10 R262). -/
def State.showBounds (s : State) (gs : List Nat) : State :=
  let t := s.proposed gs
  s.each ((List.range 12).filter (fun n => gs.contains (engGroup n) && t.flag .LE_CTRL_EN n)) (fun s n =>
    match t.timetable n with
    | some l => s.setFld .LE_WCET_BOUND n (wcetBound l)
    | none => s)

/-- A finding as 0x2010 + g:05 shows it. -/
def Finding.word (f : Finding) : Nat := f.1 * 2 ^ 16 + f.2.1 * 2 ^ 8 + f.2.2

/-- Validation of the groups ends (20 R487, R488): all enter APPLYING and APPLY is requested, or all enter REJECTED with
the first finding, event 0x21 and abort 0x0F00_0003. -/
def State.validated (s : State) (gs : List Nat) (joint : Option Nat) : State :=
  let s := s.showBounds gs
  match (s.findings gs).head? with
  | none =>
    let s := s.each gs (fun s g => s.modGroup g (fun p => { p with st := .applying }))
    match joint with
    | some mask => s.requestApply 4 0xFF mask
    | none => s.requestApply 4 (gs.headD 0) 0
  | some f =>
    let s := s.each gs (fun s g => s.modGroup g (fun p => { p with st := .rejected, valRes := f.word, joint := false }))
    let s := s.mgmtEvent 0x21 (if joint.isSome then 0xFF else gs.headD 0) f.2.2 f.word
    let s := s.when joint.isSome (fun s => { s with dict := { s.dict with joint := none } })
    let s := s.answer 0x0F000003
    s.each gs (fun s g => s.tellAskers g)

/-- VALIDATION_COMPLETE (20 R487, R488). -/
def execValidationComplete (g : Nat) (s : State) : Out :=
  .next (if (s.group g).st != .validating then s
    else match s.dict.joint with
      | some mask => if (s.group g).joint then s.validated (bitsOf 14 mask) (some mask) else s.validated [g] none
      | none => s.validated [g] none)

/-! ### Seeding (22 R524, 14 R360) -/

/-- The seed outcome as 0x2030:02 shows it (22 Table 22-3). -/
def seedWord (result age : Nat) : Nat := result + age * 2 ^ 16

/-- The engine ranges of a Wing agree with a slot's descriptors. -/
def State.rangesMatch (s : State) (w : Wing) (p : Snapshot) : Bool :=
  (List.range 6).all (fun j =>
    let n := j + 6 * w.num
    match p.engines.find? (fun g => g.pair == j) with
    | some g => g.base = s.fld .LE_SNAP_BASE n && g.words.length = s.fld .LE_SNAP_LEN n
    | none => s.fld .LE_SNAP_LEN n = 0)

/-- The shadows of a snapshot's PWM section are written (14 R360). -/
def State.restoreShadows (s : State) (p : Snapshot) : State :=
  s.each ((List.range 24).filter s.hasPm) (fun s m => s.each [0, 1, 2] (fun s w =>
    let v := shdStored w (p.shadows.getD (3 * m + w) 0)
    (s.setFld (shdLow w) m v).setFld (shdHigh w) m (v / 2 ^ 32)))

/-- The outcome of a seed for Wing `w` (22 R524, Table 22-3): the newest usable slot no older than FRESH_MS whose descriptors
agree. The engines then resume with FIRST = 0. -/
def State.seed (s : State) (w : Wing) : State :=
  let out (s : State) (r age : Nat) : State := { s with dict := { s.dict with seedOutcome := seedWord r age } }
  match s.newestSlot with
  | none => out s 1 0xFFFF
  | some p =>
    let age := min ((s.tb - p.time) / 640000) 0xFFFF
    if s.fld .HP_STALE_FRESH_MS * 640000 < s.tb - p.time then out s 2 age
    else if !s.rangesMatch w p then out s 3 age
    else out (((s.restore w p.engines p.tutor).restoreShadows p).setFirst w false) 0 age

/-- SEED_COMPLETE (22 R524). -/
def execSeedComplete (s : State) : Out :=
  .next (match s.dict.seeding with
    | some w =>
      let l := s.dict.seedAskers
      let s := s.seed w
      let s := { s with dict := { s.dict with seeding := none, seedAskers := [], lastAbort := 0 } }
      s.each l (fun s a => s.tell a 0 [])
    | none => s)

end Sys2Proof.Machine
end

