-- ==== Sys2Proof/Machine/Tutor.lean ====
section
/-!
DEFINITION. The Tutor local block and debug (21): interrupts, timers, the local dictionary gateway, the TAP and the debug
module, atomic operations, and a core's 32-bit store to any address.
-/
namespace Sys2Proof.Machine

/-! ### Interrupts and timers -/

/-- Source `src` is claimed and not completed for a core (21 R509). -/
def State.claimed (s : State) (core src : Nat) : Bool :=
  if src = 11 then s.tut.claimedGw.testBit core
  else match coreWing core with
    | .a => s.tut.claimedA.testBit src
    | .b => s.tut.claimedB.testBit src

/-- The priority of a source for a core. -/
def State.priority (s : State) (core src : Nat) : Nat := s.fld .TUT_IPRIO_PRIO (core * 32 + src)

/-- A core may be offered a source (21 R509): pending, enabled, above its threshold and not claimed. -/
def State.qualifies (s : State) (core src : Nat) : Bool :=
  s.bit .TUT_IPEND core src && s.bit .TUT_IEN core src && s.fld .TUT_THR_THR core < s.priority core src && !s.claimed core src

/-- The source a core is offered: the highest priority, and of equals the lowest number; none where none qualifies. -/
def State.offered (s : State) (core : Nat) : Option Nat :=
  ((List.range 32).filter (fun k => s.qualifies core k)).foldl (fun best k =>
    match best with
    | some b => if s.priority core b < s.priority core k then some k else best
    | none => some k) none

/-- INTERRUPT_CLAIM (21 R509): a read of TUT_CLAIM returns the offered source and clears its pending bit, in both cores of
the Wing but for a core's own source 11; 0 where none qualifies. -/
def execInterruptClaim (core : Nat) (s : State) : Out :=
  .next (s.coreActs core (fun s => match s.offered core with
    | none => s.reads 0
    | some k =>
      let s := s.reads k
      if k = 11 then
        { s.setBit .TUT_IPEND core 11 false with tut := { s.tut with claimedGw := setBitTo s.tut.claimedGw core true } }
      else
        let c := core / 2 * 2
        let s := (s.setBit .TUT_IPEND c k false).setBit .TUT_IPEND (c + 1) k false
        match coreWing core with
        | .a => { s with tut := { s.tut with claimedA := setBitTo s.tut.claimedA k true } }
        | .b => { s with tut := { s.tut with claimedB := setBitTo s.tut.claimedB k true } }))

/-- INTERRUPT_COMPLETE (21 R509). -/
def execInterruptComplete (core src : Nat) (s : State) : Out := .next (s.coreActs core (fun s => s.claimEnds core src))

/-- MACHINE_TIMER (21 R502). -/
def execMachineTimer (core : Nat) (s : State) : Out := .next (s.timerCheck core)

/-- TUT_MTCMPL_WRITE (21 R519). -/
def execTutMtcmplWrite (core value : Nat) (s : State) : Out := .next (s.coreActs core (fun s => s.mtcmpLow core value))

/-- TUT_MTCMPH_WRITE (21 R519). -/
def execTutMtcmphWrite (core value : Nat) (s : State) : Out := .next (s.coreActs core (fun s => s.mtcmpHigh core value))

/-- Some interrupt of a core is pending, enabled or not (21 R502). -/
def State.anyPending (s : State) (core : Nat) : Bool :=
  s.fld .TUT_IPEND core != 0 || s.tut.mtip.testBit core || s.bit .TUT_MSIP_MSIP core (core % 2)

/-- WFI (21 R502): the core's clock stops unless an interrupt is pending. -/
def execWfi (core : Nat) (s : State) : Out :=
  .next (s.coreActs core (fun s =>
    if s.anyPending core then s else { s with tut := { s.tut with wfi := setBitTo s.tut.wfi core true } }))

/-! ### The local gateway (21 R513) -/

/-- GO of a core's gateway: discarded with event 0x01 while BUSY or with another OP; else BUSY, and a read of Roll Call asks
for its assembly. -/
def State.gatewayGo (s : State) (core op : Nat) (ien : Bool) : State :=
  if s.flag .GW_CTRL_BUSY core || (op != 1 && op != 2) then s.discarded .tutor 0x4E000100
  else
    let s := ((s.setFld .GW_CTRL_OP core op).setFlag .GW_CTRL_IEN core ien).setFld .GW_CTRL_BUSY core 1
    s.when (op = 1 && s.fld .GW_ENTRY_INDEX core = 0x2000 && s.fld .GW_ENTRY_SUB core = 1)
      (fun s => s.askRollCall (coreWing core))

/-- GATEWAY_READ (21 R513). -/
def execGatewayRead (core : Nat) (ien : Bool) (s : State) : Out := .next (s.coreActs core (fun s => s.gatewayGo core 1 ien))

/-- GATEWAY_WRITE (21 R513). -/
def execGatewayWrite (core : Nat) (ien : Bool) (s : State) : Out := .next (s.coreActs core (fun s => s.gatewayGo core 2 ien))

/-- The Wing for which a core's request acts (20 R478); none while the entry is the other Wing's and LINKFLT is 1. -/
def State.gatewayWing (s : State) (core idx : Nat) : Option Wing :=
  let w := coreWing core
  match s.entryWing idx with
  | some h => if h == w then some w else if s.flag .HP_STAT_LINKFLT then none else some h
  | none => some w

/-- The buffer may serve a core's transfer of `n` bytes: 0, or the abort code (21 R513; 17 R412). -/
def State.gatewayBuffer (s : State) (core n : Nat) : Nat :=
  let a := s.fld .GW_BUF core
  if a % 8 != 0 then 0x08000022
  else if s.coreNs core && !(s.targetNs core a false && s.targetNs core (a + (n - 1)) false) then 0x06010000
  else 0

/-- A transfer ends without rights to its buffer, or with another code. -/
def State.gatewayFails (s : State) (core code : Nat) : State :=
  let s := s.when (code = 0x06010000) (fun s => s.violation core (s.fld .GW_BUF core))
  s.endGateway core code

/-- The read of a gateway ends: LEN bytes from OFS on are placed, and GW_LEN tells how many. -/
def State.gatewayPlace (s : State) (core : Nat) (data : List Nat) : State :=
  let l := (data.drop (s.fld .GW_OFS core)).take (s.fld .GW_LEN_LEN core)
  let code := s.gatewayBuffer core l.length
  if code != 0 then s.gatewayFails core code
  else match s.corePlace core (s.fld .GW_BUF core) l with
    | (true, t) => (t.setFld .GW_LEN_LEN core l.length).endGateway core 0
    | (false, t) => t.endGateway core 0x08000022

/-- A read of the gateway (20 R482): untagged or of the current epoch. -/
def State.gatewayReads (s : State) (core idx sub : Nat) : State :=
  let e := s.fld .GW_EPOCH core
  if e != 0xFFFFFFFF && e != s.fld .RING_EPOCH && idx != 0x2000 && idx != 0x2001 then s.endGateway core 0x0F000002
  else match s.gatewayWing core idx with
    | none => s.endGateway core 0x08000020
    | some w =>
      if idx = 0x2000 && sub = 1 then
        if s.dict.rollCall.isSome then s else s.gatewayPlace core s.dict.summary
      else
        let s := (s.answer 0).dictRead w core idx sub
        if s.dict.lastAbort != 0 then s.endGateway core s.dict.lastAbort else s.gatewayPlace core s.dict.answered

/-- A write of the gateway (20 R482): of the current epoch, in one piece. -/
def State.gatewayWrites (s : State) (core idx sub : Nat) : State :=
  let n := s.fld .GW_LEN_LEN core
  let code := s.gatewayBuffer core n
  if s.fld .GW_EPOCH core != s.fld .RING_EPOCH then s.endGateway core 0x0F000002
  else if s.fld .GW_OFS core != 0 then s.endGateway core 0x06070010
  else if code != 0 then s.gatewayFails core code
  else match s.coreRead core (s.fld .GW_BUF core) n, s.gatewayWing core idx with
    | none, _ => s.endGateway core 0x08000022
    | _, none => s.endGateway core 0x08000020
    | some data, some w =>
      let s := (s.answer 0).request w core idx sub (some data)
      match s.attach (.core core) idx sub (some data) with
      | some t => t
      | none => s.endGateway core s.dict.lastAbort

/-- GATEWAY_DONE (21 R513): the transfer is carried out and ends; one that waits for Roll Call, a restart, a held command or
the seed ends with that. -/
def execGatewayDone (core : Nat) (s : State) : Out :=
  .next (if !s.flag .GW_CTRL_BUSY core || s.awaited (.core core) then s
    else
      let idx := s.fld .GW_ENTRY_INDEX core
      let sub := s.fld .GW_ENTRY_SUB core
      if s.fld .GW_CTRL_OP core = 1 then s.gatewayReads core idx sub else s.gatewayWrites core idx sub)

/-! ### The TAP and the debug module (21 R514 to R518) -/

/-- IDCODE (21 R514). -/
def State.idcode (s : State) : Nat := s.fld .FUSE_VARIANT_STEP % 16 * 2 ^ 28 + 0x00048A6B

/-- The TAP takes an instruction, and its data register captures a value; only EXTEST drives balls from the cells. With VIO3 absent
TRSTN reads its pull, which is low and holds the TAP in reset (02 R55, Table 2-8; 21 R514). -/
def State.tap (s : State) (ir dr : Nat) : State :=
  let (ir, dr) := if s.bankOn 3 then (ir, dr) else (0x01, s.idcode)
  { s with tut := { s.tut with tapIr := ir, tapDr := dr, extest := ir = 0x00 } }

/-- TAP_RESET (21 R514): the TAP selects IDCODE. -/
def execTapReset (s : State) : Out := .next (s.tap 0x01 s.idcode)

/-- IDCODE (21 R514). -/
def execIdcode (s : State) : Out := .next (s.tap 0x01 s.idcode)

/-- EXTEST (21 R515): output balls follow their cells, but for the balls of a power stage, the Prefect, MOD_PWR and XSPI_RSTN,
which keep their functional drive. What the cells capture is free. -/
def execExtest (cells : Nat) (s : State) : Out :=
  .next (let (v, s) := s.fresh 32
    let s := s.tap 0x00 v
    { s with tut := { s.tut with boundary := cells } })

/-- SAMPLE_PRELOAD (21 R514): the cells capture the levels of the balls and take what is shifted in. -/
def execSamplePreload (cells : Nat) (s : State) : Out :=
  .next (let (v, s) := s.fresh 32
    let s := s.tap 0x02 v
    { s with tut := { s.tut with boundary := cells } })

/-- DTMCS (21 R514). -/
def execDtmcs (s : State) : Out := .next (let (v, s) := s.fresh 32; s.tap 0x10 v)

/-- BYPASS (21 R514): the one-bit register captures 0. -/
def execBypass (s : State) : Out := .next (s.tap 0x1F 0)

/-- The debug module may select a hart (21 R516): its world is enabled in TUT_DBG of its Wing. -/
def State.hartEnabled (s : State) (hart : Nat) : Bool :=
  hart < 4 && (if s.coreNs hart then s.flag .TUT_DBG_NS_EN hart else s.flag .TUT_DBG_SEC_EN hart)

/-- A core leaves debug mode (21 Table 21-6): a takeover entry that waited is taken. -/
def State.resumeCore (s : State) (core : Nat) : State :=
  if s.tut.halted.testBit core then
    let s := { s with tut := { s.tut with halted := setBitTo s.tut.halted core false } }
    s.when (s.tut.takeover.testBit core) (fun s => s.enterTakeover core)
  else s

/-- DEBUG_HALT (21 R516, R518): an enabled core halts, and the modules to which its Wing is entitled take their safe level. -/
def execDebugHalt (core : Nat) (s : State) : Out :=
  .next (if s.hartEnabled core then
      State.settlePads { s with tut := { s.tut with
        halted := setBitTo s.tut.halted core true, wfi := setBitTo s.tut.wfi core false, dmUnavail := false } }
    else { s with tut := { s.tut with dmUnavail := true } })

/-- LEHALT_WRITE (21 R517, R518). -/
def execLehaltWrite (core value : Nat) (s : State) : Out :=
  .next (s.access core 0x4E000018 false (fun s => s.leHaltWrite core (value % 64)))

/-! ### Atomic operations (21 R503) -/

/-- What an AMO stores, from the old word and the operand. -/
def amoResult (op : AmoOp) (old v : Nat) : Nat :=
  match op with
  | .lr => old
  | .sc | .swap => v
  | .add => (old + v) % 2 ^ 32
  | .xor => old ^^^ v
  | .and => old &&& v
  | .or => old ||| v
  | .min => if toSigned 32 old ≤ toSigned 32 v then old else v
  | .max => if toSigned 32 old ≤ toSigned 32 v then v else old
  | .minu => min old v
  | .maxu => max old v

/-- The region and reservation granule of an address: 8 bytes in DTCM, 16 in Satchel. -/
def granuleOf (addr : Nat) : Option (Nat × Nat) :=
  if 0x11000000 ≤ addr && addr < 0x11080000 then some (0, (addr - 0x11000000) / 8)
  else if 0x20000000 ≤ addr && addr < 0x20400000 then some (1, (addr - 0x20000000) / 16)
  else none

/-- The reservation of a core. -/
def State.setLr (s : State) (core : Nat) (g : Option (Nat × Nat)) : State :=
  { s with tut := { s.tut with lr := s.tut.lr.set core g } }

/-- A word that a core cannot read is poison or lies in a retired bank (15 Table 15-3). -/
def State.amoBad (s : State) (core addr : Nat) : State :=
  let mem := if addr < 0x20000000 then tcmId true (coreWing core) (addr - 0x11000000) else satBank (addr - 0x20000000)
  (s.badRead mem addr false).coreFault core 7 addr

/-- One atomic operation on a word that reads `old`: LR sets the reservation, SC stores only with it and answers 0 or 1, an
AMO answers the old word. -/
def State.amoDo (s : State) (core addr : Nat) (g : Nat × Nat) (op : AmoOp) (old v : Nat) : State :=
  match op with
  | .lr => (s.reads old).setLr core (some g)
  | .sc =>
    if s.tut.lr.getD core none = some g then ((s.memStore core addr (leBytes 4 v)).setLr core none).reads 0
    else (s.setLr core none).reads 1
  | _ => (s.memStore core addr (leBytes 4 (amoResult op old v))).reads old

/-- AMO_SATCHEL (21 R503, R504): on DTCM and Satchel; any other region ends with a store/AMO access fault, and a misaligned
address with mcause 4 for LR and 6 otherwise. -/
def execAmoSatchel (core addr : Nat) (op : AmoOp) (value : Nat) (s : State) : Out :=
  .next (s.access core addr (s.targetNs core addr false) (fun s =>
    match granuleOf addr with
    | none => s.coreFault core 7 addr
    | some g =>
      if addr % 4 != 0 then s.coreFault core (if op = .lr then 4 else 6) addr
      else match s.coreRead core addr 4 with
        | none => s.amoBad core addr
        | some l => s.amoDo core addr g op (ofLe l) (value % 2 ^ 32)))

/-! ### A core's store -/

/-- A register of the metrology fields, written from the Secure world only (13 R336). -/
def metrologyReg (addr : Nat) : Bool :=
  (0x46000100 ≤ addr && addr < 0x46000300 && (let o := (addr - 0x46000100) % 0x40
    o = 8 || o = 0xC || o = 0x10 || o = 0x14 || 0x20 ≤ o))
  || (0x46000800 ≤ addr && addr < 0x46000A00)

/-- A core's store to a block register (21 R506; 10 R246, R277): an offset that no chapter defines ignores it. -/
def State.blockStore (s : State) (core addr v : Nat) : State :=
  if 0x45400000 ≤ addr && addr < 0x454E0000 then s.windowWrite core ((addr - 0x45400000) / 0x10000) ((addr - 0x45400000) % 0x10000) v
  else match regAt core addr with
    | none => s
    | some (r, i) =>
      if r.base = 0x4E000100 && v.testBit 2 then
        (s.when (v.testBit 4) (fun s => s.setFld .GW_CTRL_DONE core 0)).gatewayGo core (v % 4) (v.testBit 5)
      else if r.blockByte = 0x45 && 0x45000100 ≤ r.base && coreWing core != engineWing i then s.coreFault core 7 addr
      else s.regPut core r i addr v (2 ^ 32 - 1)

/-- REGISTER_WRITE (00 R6, R12, R13; 21 R504 to R507): a 32-bit store of a core. Memory regions take it as R506 states; the
blocks take aligned words; any other address ends with a store access fault. -/
def execRegisterWrite (core addr value : Nat) (s : State) : Out :=
  .next (let v := value % 2 ^ 32
    if 0x40000000 ≤ addr && addr < 0x4E001000 then
      s.access core addr (s.targetNs core addr false && !metrologyReg addr) (fun s =>
        if addr % 4 != 0 then s.coreFault core 7 addr else s.blockStore core addr v)
    else s.coreStore core addr (leBytes 4 v))

end Sys2Proof.Machine
end

