-- ==== Sys2Proof/Machine/CoreLoad.lean ====
section
/-!
DEFINITION. The debug module (21 R516) and what it makes a halted core do: loads and fetches with the value they return and what
reading changes (00 R12, 10 R248, 16 R394, 21 R506), stores, and accesses to the core's registers.
-/
namespace Sys2Proof.Machine

/-! ### Loads from the blocks -/

/-- Fields of access RC return their value and are then cleared (00 R12). -/
def State.readClears (s : State) (r : RegDesc) (i : Nat) : State :=
  s.each r.fields (fun s fa => s.when (fa.fld.acc = .rc) (fun s => s.setFld fa.fld i 0))

/-- The load of the register at `addr`: TB_LO, RTC_SUB and TUT_CLAIM act as their own commands do, SAR_LASTk and MOD_LASTn latch
the time of their word and HP_SEQL its high half (05 Table 5-6, 06 Table 6-2, 14 Table 14-8); an offset that no chapter defines, and
what the variant lacks, reads 0 (00 R6, 21 R506). -/
def State.regLoad (s : State) (core addr : Nat) : State :=
  match regAt core addr with
  | none => s.reads 0
  | some (r, i) =>
    if s.regAbsent r i then s.reads 0 else
    match r.base with
    | 0x4C00101C => s.took (execTbLoRead core s)
    | 0x4C001040 => s.took (execRtcSubRead core s)
    | 0x4E00002C => s.took (execInterruptClaim core s)
    | 0x42000110 => (s.reads (s.regWord r i)).setFld .SAR_LASTT i (s.slot i).lastTs
    | 0x43000114 => (s.reads (s.regWord r i)).setFld .MOD_LASTT i (s.chan i).lastTs
    | 0x47000020 => (s.reads (s.regWord r i)).setFld .HP_SEQH 0 (s.dup.written / 2 ^ 32)
    | _ => (s.reads (s.regWord r i)).readClears r i

/-- The read latch of a core takes or loses the high half of a data word (10 R248). -/
def State.setHighLatch (s : State) (core : Nat) (l : Option (Nat × Nat × Nat)) : State :=
  { s with eng := { s.eng with highLatch := s.eng.highLatch.set core l } }

/-- The load of word `idx` of window `n` (10 R248): a low half latches its high half; the next load of that high half
returns it; any other load from a data area clears the latch. Of a Timetable or subscription word the pending one shows
while the engine's group is open (20 R486). -/
def State.windowLoad (s : State) (core n idx : Nat) : State :=
  if s.engBad n (idx / 2) then (s.badRead (0x20 + s.siteOf n) (engAddr n (4 * idx)) false).coreFault core 5 (engAddr n (4 * idx))
  else if idx < 0x2000 || 0x3F80 ≤ idx then s.reads (if n < 12 then s.windowShown n idx else s.engWord n idx)
  else if idx % 2 = 0 then
    (s.reads (s.engWord n idx)).setHighLatch core (some (n, idx + 1, s.engWord n (idx + 1)))
  else
    match s.eng.highLatch.getD core none with
    | some (n', idx', v) => (s.reads (if n' = n ∧ idx' = idx then v else s.engWord n idx)).setHighLatch core none
    | none => s.reads (s.engWord n idx)

/-- A core's load from the block range 0x4000_0000 to 0x4EFF_FFFF (21 Table 21-3, R506): one of another width than 32 bits, a
misaligned one, and one from a window of the other Wing, ends with a load access fault. -/
def State.blockLoad (s : State) (core addr width : Nat) : State :=
  s.accessAs 5 core addr (s.targetNs core addr true) (fun s =>
    if addr % 4 != 0 || width != 4 then s.coreFault core 5 addr
    else if 0x45400000 ≤ addr && addr < 0x454E0000 then
      let n := (addr - 0x45400000) / 0x10000
      let w : Wing := if n = 13 ∨ (6 ≤ n ∧ n < 12) then .b else .a
      if coreWing core != w then s.coreFault core 5 addr else s.windowLoad core n ((addr - 0x45400000) % 0x10000 / 4)
    else s.regLoad core addr)

/-! ### Loads and fetches from the memory regions -/

/-- A core reads the bytes `l`. -/
def State.readsBytes (s : State) (l : List Nat) : State := s.reads (ofLe l)

/-- A core meets poison at `addr` in memory `mem` (15 Table 15-3): INT_LASTA, event 0x92 and the access fault. -/
def State.loadBad (s : State) (cause core mem addr : Nat) : State := (s.badRead mem addr false).coreFault core cause addr

/-- A load or fetch of `n` bytes at offset `o` of the Caretaker SRAM (21 Table 21-3, R507): the record of field repairs as Table
15-5 lays it out, the accumulators, whose layout is not stated and whose bytes are free (assumption log, entry 104), and the
bytes stored. -/
def State.sramLoad (s : State) (cause core o n : Nat) : State :=
  if s.poisoned 0x30 (o / 8) then s.loadBad cause core 0x30 (0x30000000 + o)
  else if o < 0xE000 then s.readsBytes ((List.range n).map (fun i => s.ct.sram.get (0, o + i) 0))
  else if o < 0xF000 then
    s.readsBytes ((List.range n).map (fun i =>
      s.integ.repairs.getD ((o + i - 0xE000) / 8) 0 / 2 ^ (8 * ((o + i) % 8)) % 256))
  else let (v, s) := s.fresh (8 * n); s.reads v

/-- A load or fetch through the window onto the Library (16 R394; 21 Table 21-6): decoded bytes of the image that stands there;
an access fault with NAND, while LIB_STAT.READY is 0 and of an uncorrectable codeword. While XIP is 0 the word is not stated and
free (assumption log, entry 104). -/
def State.xipLoad (s : State) (cause core o n : Nat) : State :=
  let addr := 0x50000000 + o
  if s.flag .LIB_STAT_NAND || !s.flag .LIB_STAT_READY || !s.bankOn 4 then s.coreFault core cause addr
  else if !s.flag .LIB_CTRL_XIP then let (v, s) := s.fresh (8 * n); s.reads v
  else
    let slot := (Config.windowPlace o).1 % 3
    match s.lib.records.reverse.find? (fun r => r.area == slot + 1 && r.type == 1 && r.marker.isSome) with
    | none => s.readsBytes (List.replicate n 0xFF)
    | some r =>
      if r.lost then s.coreFault core cause addr
      else s.readsBytes ((List.range n).map (fun i => r.payload.getD (Config.windowPlace (o + i)).2 0xFF))

/-- A load or fetch of `n` bytes from a memory region (21 Table 21-3, R506); an address outside every region ends with an access
fault, and so does a fetch from a region marked "no". -/
def State.memLoad (s : State) (cause core addr n : Nat) : State :=
  let w := coreWing core
  if addr < 0x10000 then s.readsBytes ((List.range n).map (fun i => Config.romByte (addr + i) % 256))
  else if 0x10000000 ≤ addr && addr < 0x10100000 then
    let o := addr - 0x10000000
    if s.poisoned (tcmId false w o) (o % 0x40000 / 8) then s.loadBad cause core (tcmId false w o) addr
    else s.readsBytes ((List.range n).map (fun i => s.tut.itcm.get (w.num, o + i) 0))
  else if 0x50000000 ≤ addr && addr < 0x60000000 then s.xipLoad cause core (addr - 0x50000000) n
  else if cause = 1 then s.coreFault core 1 addr
  else if 0x30000000 ≤ addr && addr < 0x30010000 then s.sramLoad cause core (addr - 0x30000000) n
  else if (0x11000000 ≤ addr && addr < 0x11080000) || (0x20000000 ≤ addr && addr < 0x20400000) then
    match s.coreRead core addr n with
    | some l => s.readsBytes l
    | none => s.loadBad cause core (if addr < 0x20000000 then tcmId true w (addr - 0x11000000) else satBank (addr - 0x20000000)) addr
  else s.coreFault core cause addr

/-- A core's load of 1, 2 or 4 bytes (21 R504, R506): a misaligned load from a memory region ends with mcause 4. -/
def State.coreLoad (s : State) (core addr width : Nat) : State :=
  if 0x40000000 ≤ addr && addr < 0x4E001000 then s.blockLoad core addr width
  else s.accessAs 5 core addr (s.targetNs core addr true) (fun s =>
    if addr % width != 0 then s.coreFault core 4 addr else s.memLoad 5 core addr width)

/-- A core's fetch of the instruction at `addr` (21 Table 21-3, R506). -/
def State.coreFetch (s : State) (core addr : Nat) : State :=
  s.accessAs 1 core addr (s.targetNs core addr true) (fun s => s.memLoad 1 core addr 4)

/-- A core's store of 1, 2 or 4 bytes: the blocks take aligned words only (21 R506). -/
def State.coreStores (s : State) (core addr width v : Nat) : State :=
  if 0x40000000 ≤ addr && addr < 0x4E001000 then
    if width = 4 then s.took (execRegisterWrite core addr v s)
    else s.access core addr (s.targetNs core addr false && !metrologyReg addr) (fun s => s.coreFault core 7 addr)
  else s.coreStore core addr (leBytes width v)

/-! ### Registers of a core (21 R500, R502, R504) -/

/-- The value of a control and status register; the counters of cycles and instructions depend on what the core has run and are
free (assumption log, entry 105). A read of time latches timeh (21 R502). -/
def State.csrRead (s : State) (core n : Nat) : State :=
  if n = 0x301 then s.reads 0x40101125
  else if n = 0xF13 then s.reads (s.fld .FUSE_VARIANT_STEP)
  else if n = 0xF14 then s.reads core
  else if n = 0x342 then s.reads (s.tut.mcause.getD core 0)
  else if n = 0x343 then s.reads (s.tut.mtval.getD core 0)
  else if n = 0xC01 then
    State.reads { s with tut := { s.tut with timeh := s.tut.timeh.set core (s.tb / 2 ^ 32 % 2 ^ 32) } } s.ts
  else if n = 0xC81 then s.reads (s.tut.timeh.getD core 0)
  else if n = 0x344 then
    s.reads ((s.bit .TUT_MSIP_MSIP core (core % 2)).toNat * 2 ^ 3 + (s.tut.mtip.testBit core).toNat * 2 ^ 7
      + (s.offered core).isSome.toNat * 2 ^ 11)
  else if [0xB00, 0xB02, 0xB80, 0xB82, 0xC00, 0xC02, 0xC80, 0xC82].contains n then
    let (v, s) := s.fresh 32
    s.reads v
  else s.reads (s.tut.csrs.get (core, n) 0)

/-- What a PMP configuration word becomes: bytes of locked entries stay. -/
def pmpMerge (old new : Nat) : Nat :=
  (List.range 4).foldl (fun a k =>
    let o := old / 2 ^ (8 * k) % 256
    a + (if o.testBit 7 then o else new / 2 ^ (8 * k) % 256) * 2 ^ (8 * k)) 0

/-- A control and status register holds `v`. -/
def State.csrPut (s : State) (core n v : Nat) : State :=
  { s with tut := { s.tut with csrs := s.tut.csrs.set (core, n) 0 v } }

/-- The mode in which a core resumes, as dcsr names it: 0 user, else machine. -/
def State.setPriv (s : State) (core p : Nat) : State :=
  { s with tut := { s.tut with user := setBitTo s.tut.user core (p == 0) } }

/-- The address register of PMP entry `i` is locked: by its own entry, or by the TOR entry above it. -/
def State.pmpLocked (s : State) (core i : Nat) : Bool :=
  let next := s.pmpCfg core (i + 1)
  (s.pmpCfg core i).testBit 7 || (i < 15 && next.testBit 7 && next / 8 % 4 == 1)

/-- Control and status register `n` takes a word. The read-only ones and the address of a locked PMP entry stay. -/
def State.csrWrite (s : State) (core n v : Nat) : State :=
  if 0xC00 ≤ n || n = 0x301 || n = 0x344 then s
  else if n = 0x342 then { s with tut := { s.tut with mcause := s.tut.mcause.set core v } }
  else if n = 0x343 then { s with tut := { s.tut with mtval := s.tut.mtval.set core v } }
  else if n = 0x7B0 then (s.csrPut core n v).setPriv core (v % 4)
  else if 0x3A0 ≤ n && n < 0x3A4 then s.csrPut core n (pmpMerge (s.tut.csrs.get (core, n) 0) v)
  else if 0x3B0 ≤ n && n < 0x3C0 && s.pmpLocked core (n - 0x3B0) then s
  else s.csrPut core n v

/-- An abstract register read (21 R516). -/
def State.regRead (s : State) (core n : Nat) : State :=
  if n < 0x1000 then s.csrRead core n else s.reads (s.tut.xf.get (core, n - 0x1000) 0)

/-- An abstract register write (21 R516); integer register 0 stays 0. -/
def State.regWrite (s : State) (core n v : Nat) : State :=
  if n < 0x1000 then s.csrWrite core n v
  else if n = 0x1000 then s
  else { s with tut := { s.tut with xf := s.tut.xf.set (core, n - 0x1000) 0 v } }

/-! ### DMI -/

/-- The outcome of an abstract command. -/
def State.setCmderr (s : State) (e : Nat) : State := { s with tut := { s.tut with cmderr := e } }

/-- mcause of a core. -/
def State.setMcause (s : State) (core c : Nat) : State := { s with tut := { s.tut with mcause := s.tut.mcause.set core c } }

/-- An abstract command on a halted hart; outcome 4 where the hart runs. -/
def State.abstract (s : State) (core : Nat) (f : State → State) : State :=
  if s.tut.halted.testBit core then f (s.setCmderr 0) else s.setCmderr 4

/-- An access by a halted hart: one that ends with a fault leaves outcome 3, any other leaves mcause. -/
def State.abstractMem (s : State) (core : Nat) (f : State → State) : State :=
  s.abstract core (fun s =>
    let t := f (s.setMcause core 0)
    if t.tut.mcause.getD core 0 = 0 then t.setMcause core (s.tut.mcause.getD core 0) else t.setCmderr 3)

/-- What the debug module does for an enabled hart. -/
def State.debugDo (s : State) (hart : Nat) : DmiOp → State
  | .status => s
  | .resume => s.resumeCore hart
  | .load a w => s.abstractMem hart (fun s => s.coreLoad hart a w)
  | .store a w v => s.abstractMem hart (fun s => s.coreStores hart a w v)
  | .fetch a => s.abstractMem hart (fun s => s.coreFetch hart a)
  | .readReg n => s.abstract hart (fun s => s.regRead hart n)
  | .writeReg n v => s.abstract hart (fun s => s.regWrite hart n v)
  | .readBuf k => s.reads (s.tut.progbuf.get (0, k) 0)
  | .writeBuf k v => { s with tut := { s.tut with progbuf := s.tut.progbuf.set (0, k) 0 v } }

/-- DMI (21 R516): a hart that is not enabled is reported unavailable, and nothing is done with it. -/
def execDmi (hart : Nat) (op : DmiOp) (s : State) : Out :=
  .next (let (v, s) := s.fresh 32
    let s := s.tap 0x11 v
    let on := s.hartEnabled hart
    let s := { s with tut := { s.tut with dmUnavail := !on } }
    s.when on (fun s => s.debugDo hart op))

end Sys2Proof.Machine
end

