-- ==== Sys2Proof/Machine/Reset.lean ====
section
/-!
DEFINITION. The whole-die reset (01 R42 to R45): its requests, its phases, and what stands at its end.
-/
namespace Sys2Proof.Machine

/-! ### Requests -/

/-- A reset request reaches the reset logic only while VCORE power-good is released (03 R75). -/
def State.requestReset (s : State) (cause : Nat) : State := s.when s.ct.powerGood (fun s => s.startReset cause)

/-- POWER_ON (01 R42): VCORE power-good at power-on. -/
def execPowerOn (s : State) : Out := .next (s.requestReset 1)

/-- RSTN_LOW (01 R42): the net has been low for 1 µs, and either receiver of the dual ball reads it (02 R58); with VIO3 absent the
ball reads its pull, which is high (02 R55, Table 2-8). -/
def execRstnLow (s : State) : Out :=
  .next (s.when (s.netActive 0 true && s.bankOn 3) (fun s => s.requestReset 2))

/-- SOFTWARE_RESET_REQUEST (01 R42). -/
def execSoftwareResetRequest (s : State) : Out := .next (s.requestReset 3)

/-- PLL_RETRY_RESET (04 R102): once PLL_E, PLL_C or PLL_N has failed to lock, until all five lock; DROOPS does not count it. -/
def execPllRetryReset (s : State) : Out := .next (s.when s.clk.retry (fun s => s.requestReset 5))

/-! ### Phases (01 Table 1-12) -/

/-- The lock bit of a loop: 0 E0, 1 E1, 2 A, 3 B, 4 C, 5 N. -/
def lockFld : Nat → Fld
  | 0 => .CLK_STAT_E0_LK
  | 1 => .CLK_STAT_E1_LK
  | 2 => .CLK_STAT_A_LK
  | 3 => .CLK_STAT_B_LK
  | 4 => .CLK_STAT_C_LK
  | _ => .CLK_STAT_N_LK

/-- 45 µs: the PLLs of `mask` have not locked (01 R44). All of them fail without the reference. -/
def State.pllsDone (s : State) (mask : Nat) : State :=
  let m := mask % 64
  let s := s.each (List.range 6) (fun s k => s.setFlag (lockFld k) 0 (!m.testBit k))
  let s := s.setFlag .CLK_STAT_XIN_OK 0 (m != 63)
  { s with rst := { s.rst with pllFailed := m }, clk := { s.clk with gated := m == 63 } }

/-- 60 to 160 µs: DTCM and the engine memories are zero with valid check bits, and Satchel is poison in every word where its
contents were lost (01 R45). -/
def State.clearMemories (s : State) : State :=
  let kept (m : Nat) : Bool := !((0x18 ≤ m && m < 0x1C) || (0x20 ≤ m && m < 0x2E) || (m < 0x10 && s.rst.satchelLost))
  let s := { s with
    eng := { s.eng with mem := [] }
    tut := { s.tut with dtcm := [] }
    integ := { s.integ with marks := s.integ.marks.filter (fun e => kept e.1.1) } }
  s.when s.rst.satchelLost (fun s =>
    { s with satchel := [], integ := { s.integ with satLost := true }, dup := { s.dup with slots := List.replicate 4 {} } })

/-- The RTC time in ticks (04 R105): seconds × 640 000 000 + ⌊FRAC × 19 531.25⌋. -/
def State.rtcTicks (s : State) : Nat := s.clk.rtc * 640000000 + s.fld .RTC_SUB_FRAC * 78125 / 4

/-- 175 µs: the timebase is loaded (04 R105); after a Caretaker cold start from the RTC time alone. -/
def State.loadTimebase (s : State) : State :=
  let t := if s.clk.coldLoad then s.rtcTicks else max s.rtcTicks (s.clk.held + 115200)
  { s with tb := t % 2 ^ 64, clk := { s.clk with coldLoad := false } }

/-- A phase of the reset begins. -/
def State.toPhase (s : State) (p : ResetPhase) : State := { s with rst := { s.rst with phase := p } }

/-- The resources of a variant (00 Table 0-1, R4; 02 R47): FUSE_RES follows from the variant code. SIZE 0b11 is not used. -/
def sizeRes (size : Nat) : List (Fld × Nat) :=
  let k := size + 1
  [(.FUSE_RES_PM_CNT, 8 * k), (.FUSE_RES_WC_CNT, 16 * k), (.FUSE_RES_MUXIN, k), (.FUSE_RES_MD_CNT, 8 * k),
    (.FUSE_RES_MCLK_CNT, 2 * k), (.FUSE_RES_MPPT_CNT, 4 * k)]

/-- Dual-ball pairs and large-group allowances of a variant (15 Table 15-7, level 7). -/
def packageSpares (variant : Nat) : Nat :=
  (if variant.testBit 3 then 25 else 9) + (match variant % 4 with | 0 => 9 | 1 => 15 | _ => 20)

/-- The fuse load of a reset (01 Table 1-12): the variant code, the resources that follow from it (02 R47), and the package's
spares (15 Table 15-7). -/
def State.loadFuses (s : State) : State :=
  let v := s.fld .FUSE_VARIANT_VARIANT
  let s := if v % 4 = 3 then s else s.each (sizeRes (v % 4)) (fun s e => s.setFld e.1 0 e.2)
  let s := (s.setFlag .FUSE_RES_THEFT 0 (v.testBit 2)).setFlag .FUSE_RES_REFTRIM 0 (v.testBit 2)
  let s := s.setFlag .FUSE_RES_PREFECT 0 (v.testBit 3)
  (s.setFld .REPC_SHIP_TOTAL 7 (packageSpares v)).setFld .REPC_REM_FLOOR 7 (packageSpares v)

/-- 160 µs: each root issues a TEST Bell (01 R44, Table 1-12). -/
def State.testBell (s : State) : State :=
  let w : BellWord := { test := true, seq := (s.fld .BELL_STAT_SEQ + 1) % 2 ^ 16 }
  { s with bell := { s.bell with lastWord := w, sent := w.bits } }

/-- RESET_PHASE_ADVANCE (01 R43, R44, R45; 02 R66; 04 R105). -/
def execResetPhaseAdvance (mask bootsel : Nat) (s : State) : Out :=
  .next (if !s.ct.powerGood then s else
    match s.rst.phase with
    | .none | .release => s
    | .fuses => (s.loadFuses.setFld .STRAP_BOOTSEL 0 (if s.bankOn 3 then bootsel else 0)).toPhase .plls
    | .plls => (s.pllsDone mask).toPhase .repairs
    | .repairs => s.toPhase .clearing
    | .clearing => s.clearMemories.testBell.toPhase .bellTest
    | .bellTest => State.toPhase { s with rst := { s.rst with rootsFailed := mask % 4 } } .release |>.loadTimebase)

/-! ### The end of the reset -/

/-- The fields that a whole-die reset leaves: those of PD0 and PD7, fuses, and what mirrors a pin or a monitor (01 R42, 00
R15). -/
def keptFields : List Fld :=
  pd0Fields ++
  [.PF_STAT_STATE, .PF_STAT_SEALOK, .PF_STAT_SPRA, .PF_STAT_SPRB, .PF_STAT_XTALSKIP, .PF_STAT_FCAUSE, .PF_CFG_CFGSW,
    .PF_CFG_COMSET, .PF_CFG_SLOTS, .PF_CFG_SWBAD, .PF_CFG_CFGCHG, .PF_HASH, .PF_CNT_DEMANDS, .PF_CNT_TESTFAIL,
    .PF_CNT_FAULTS, .PF_LASTT, .PF_COMST_ARMED, .PF_COMST_RESULT, .SEC_FUSE_SVN, .SEC_FUSE_OWNERS, .SEC_FUSE_VENDOR_OFF,
    .FUSE_VARIANT_VARIANT, .FUSE_VARIANT_STEP, .FUSE_RES_PM_CNT, .FUSE_RES_WC_CNT, .FUSE_RES_MUXIN, .FUSE_RES_MD_CNT,
    .FUSE_RES_MCLK_CNT, .FUSE_RES_MPPT_CNT, .FUSE_RES_THEFT, .FUSE_RES_PREFECT, .FUSE_RES_REFTRIM, .STRAP_BOOTSEL,
    .IOB_STAT_VIO1, .IOB_STAT_VIO2, .IOB_STAT_VIO3, .IOB_STAT_VIO4, .PWR_MON_VCORE_OK, .PWR_MON_VANA_OK, .PWR_MON_VPF_OK,
    .CLK_STAT_XIN_OK, .CLK_STAT_E0_LK, .CLK_STAT_E1_LK, .CLK_STAT_A_LK, .CLK_STAT_B_LK, .CLK_STAT_C_LK, .CLK_STAT_N_LK,
    .REPC_SHIP_TOTAL, .REPC_REM_FLOOR, .HP_SEQL, .HP_SEQH]

/-- The registers with every field but the kept ones at its Reset column. -/
def keepFields (m : SMap) : SMap :=
  let nums := keptFields.map Fld.ctorIdx
  m.filter (fun e => nums.contains e.1.1)

/-- Every block in its reset state (00 R15, 01 R42): PD0, PD7, the memories, the flash and the fuses stay. -/
def State.dieReset (s : State) : State :=
  { pending := s.pending
    regs := keepFields s.regs
    tb := s.tb
    freeCtr := s.freeCtr
    rst := { s.rst with phase := .none, vcoreFailed := false, pd3Opened := false }
    bell := {}
    fab := {}
    dup := { seq := s.dup.seq, written := s.dup.written, slots := s.dup.slots }
    sec := { serial := s.sec.serial, vendorHash := s.sec.vendorHash, ownerKeys := s.sec.ownerKeys }
    ports := {}
    dict := { discard := s.dict.discard, discards := s.dict.discards, usdo := s.dict.usdo.filter (fun u => u.aborted),
              idp := s.dict.idp.filter (fun t => t.aborted) }
    tut := { itcm := s.tut.itcm, dtcm := s.tut.dtcm, tapIr := s.tut.tapIr, tapDr := s.tut.tapDr, boundary := s.tut.boundary,
             extest := s.tut.extest, dmUnavail := s.tut.dmUnavail, lastRead := s.tut.lastRead }
    satchel := s.satchel
    ct := { s.ct with intOpen := 0, openKnown := 0, openBalls := 0, openGroups := List.replicate 8 0 }
    clk := { held := s.clk.held, coldLoad := s.clk.coldLoad, phaseTick := s.tb, rtc := s.clk.rtc, sechHold := s.clk.sechHold,
             crystal := s.clk.crystal, gated := s.clk.gated, retry := s.clk.retry }
    sar := {}
    integ := { repairs := s.integ.repairs, satLost := s.integ.satLost, marks := s.integ.marks, bankFuse := s.integ.bankFuse,
               shipped := s.integ.shipped }
    lib := { s.lib with queue := [], refused := [], burst := none, lastClient := 5, failing := [] }
    sd := List.replicate 24 {}
    trip := { chans := s.trip.chans.map (fun (c : CompChan) => { level := c.level }) }
    pwm := {}
    gate := { force := s.gate.force }
    eng := { mem := s.eng.mem }
    ship := {}
    bur := { s.bur with points := List.replicate 8 {} }
    pf := { s.pf with deliver := true } }

/-- A repair is restored, from the fuses or from the record, where it fits, and the Report Card counts what it uses. -/
def State.restoreRepair (s : State) (e : Nat) : State :=
  if !s.repairFits e then s else
  let s := s.applyRepair e
  match repairLevel e with
  | some l => s.putRemain l (s.fld .REPC_REM_REMAIN l - 1)
  | none => s

/-- The spares, the banks in service and the repairs of the unit as shipped, from its fuses (15 R382, Table 15-7, Table 15-10; 00
R15), and then the record of field repairs (01 Table 1-12, 15 R382). -/
def State.restoreRepairs (s : State) : State :=
  let s := s.each (List.range 8) (fun s l => s.putRemain l (s.fld .REPC_SHIP_TOTAL l))
  ((s.setFld .SAT_BANK_INSERV 0 s.integ.bankFuse).each s.integ.shipped State.restoreRepair).each s.integ.repairs State.restoreRepair

/-- Bursar events that waited for VCORE reach Q10 (13 R330, R335). -/
def State.flushLate (s : State) : State :=
  let l := s.bur.late
  State.each { s with bur := { s.bur with late := [] } } l (fun s p => s.emit .bursar p)

/-- PLL_E (both loops), PLL_C or PLL_N failed to lock (04 R102). -/
def retryMask (m : Nat) : Bool := (m.testBit 0 && m.testBit 1) || m.testBit 4 || m.testBit 5

/-- What the end of the reset does on the reset die (01 R44; 04 R99, R102; 18 Table 18-4): repairs restored, the Edge domain on
E1 where only E0 failed, failed Bell roots retired, and a Prefect notice repeated that a demand or fault still asks for. -/
def State.afterReset (s : State) : State :=
  let m := s.rst.pllFailed
  let s := s.restoreRepairs
  let s := { s with clk := { s.clk with retry := retryMask m || (s.clk.retry && (m.testBit 2 || m.testBit 3)) } }
  let s := s.setFlag .CLK_STAT_E_SEL 0 (m.testBit 0 && !m.testBit 1)
  let s := s.each (bitsOf 2 s.rst.rootsFailed) (fun s r => s.retireRoot r)
  let s := { s with rst := { s.rst with noRoot := !s.bellsRing } }
  let st := s.fld .PF_STAT_STATE
  let s := s.when (s.prefectFitted && (st == 3 || st == 4)) (fun s => s.modPf (fun p => { p with noticeDue := true }))
  s.flushLate

/-- The reset ends (01 R43): fields at their Reset columns, then what follows on the reset die. -/
def State.finishReset (s : State) : State := s.dieReset.afterReset

/-- RESET_END (01 R43). -/
def execResetEnd (s : State) : Out :=
  .next (if s.ct.powerGood && s.rst.phase == .release then s.finishReset else s)

end Sys2Proof.Machine
end

