-- ==== Sys2Proof/Machine/Duties.lean ====
section
/-!
DEFINITION. Duties that reach several blocks: PLL lock and unlock and the loss of XIN (04 R98 to R101), the RTC's second (04
R112, 13 R330, R334), the start of the Library (16 R392, 20 R491), and a handshake stall (01 R25, R555; 15 R385).
-/
namespace Sys2Proof.Machine

/-! ### Clocks -/

/-- A whole-die reset is requested (04 Table 4-2); the next idle step takes the request (assumption log, entry 108). -/
def State.askReset (s : State) : State := { s with rst := { s.rst with requested := some 5 } }

/-- The pads take the programmed safe level, a gap that runs is timed without a clock from now on (09 R235), and a whole-die reset
is requested (04 Table 4-2). -/
def State.clockFailure (s : State) : State :=
  State.askReset (State.settlePads { s with gate := { s.gate with clockless := s.gate.clockless ||| s.gate.gaps } })

/-- The step on an empty queue (assumption log, entry 1). A reset that a clock failure has requested begins (entry 108). Otherwise
one tick of the Edge domain passes, which paces the Caretaker's oscillators (entry 24): leases and the RTC's fraction (04 R103, R112; 14 R341);
the timebase and the rate accumulator count (04 R104, R108), running counters advance (08 R188), HP_AGE and FAB_LOAD follow (14
R351, 01 Table 1-10), and a self-test window ends after 2 ms (14 R348). In a whole-die reset and while the Edge domain has no clock
only the Caretaker's oscillators count. -/
def State.idle (s : State) : State :=
  let s := s.leaseTick.runFraction
  match s.rst.requested with
  | some cause => ({ s with rst := { s.rst with requested := none } } : State).requestReset cause
  | none =>
    if s.rst.phase != .none || s.edgeStopped then s else s.edgeTick.advanceCounters.refreshAge.loadTick.closeWindows

/-- The Edge domain moves to E1 (04 R99): E_SEL and E_SW, an event, and the die-level Edge clock reserve is gone. -/
def State.edgeSwitch (s : State) : State :=
  (((s.setFld .CLK_STAT_E_SEL 0 1).setFld .CLK_STAT_E_SW 0 1).clockEvent).consumeSpare 6

/-- PLL_UNLOCK (04 R98, R99, Table 4-2). A Wing whose PLL is unlocked has no clock until it locks again: its engines' runs are
abandoned (10 R266). -/
def execPllUnlock (loop : Nat) (s : State) : Out :=
  .next (if 6 ≤ loop || !s.flag (lockFld loop) then s else
    let s := s.setFld (lockFld loop) 0 0
    match loop with
    | 0 =>
      if s.flag .CLK_STAT_E_SEL then s
      else if s.flag .CLK_STAT_E1_LK then s.edgeSwitch else s.clockFailure
    | 1 => s.when s.edgeStopped State.clockFailure
    | 2 => s.abandonWing .a
    | 3 => s.abandonWing .b
    | _ => s.askReset)

/-- The PLL of a loop runs (04 R98, R100): PLL_A and PLL_B while enabled, their Wing powered, and not stopped for COLD. -/
def State.pllRuns (s : State) (loop : Nat) : Bool :=
  let wing (w : Wing) (en : Fld) : Bool := s.flag en && s.flag (pdOn w) &&
    (s.wing w != .cold || s.dup.waking.testBit w.num || s.inWindow w)
  if loop = 2 then wing .a .CLK_EN_PLLA_EN else if loop = 3 then wing .b .CLK_EN_PLLB_EN else loop < 6

/-- PLL_LOCK (04 R98): the lock bit is set and the output ungated; a Wing that waited for its clock goes on. -/
def execPllLock (loop : Nat) (s : State) : Out :=
  .next (if !s.pllRuns loop || s.clk.gated then s else
    let s := (s.setFld (lockFld loop) 0 1).seqFallback
    match loop with
    | 2 => s.wingLocked .a
    | 3 => s.wingLocked .b
    | _ => s)

/-- XIN_LOST (04 R101, Table 4-2). -/
def execXinLost (s : State) : Out :=
  .next (
    let s := (s.setFld .CLK_STAT_XIN_OK 0 0).setFld .CLK_STAT_XIN_LOST 0 1
    State.clockFailure { s with clk := { s.clk with gated := true } })

/-! ### The RTC -/

/-- RTC_SECOND (04 R112; 13 R330, R334; 17 R412): while the Caretaker runs, the seconds count, a save falls due at each
multiple of 60 × SAVE_INT, theft metering starts its second, every slice's AGE counts (05 Table 5-6), and event 0xB2 may be queued
again for each initiator. -/
def execRtcSecond (s : State) : Out :=
  .next (if !s.ct.running then s else
    let s := s.setFld .RTC_SUB_FRAC 0 0
    let s := s.each (List.range 17) (fun s x => s.count .SAR_CSTAT_AGE x)
    let s := { s with clk := { s.clk with rtc := (s.clk.rtc + 1) % 2 ^ 48 }, sec := { s.sec with violated := [] },
                      ct := { s.ct with rtcPhase := 0 } }
    let s := s.when (s.clk.rtc % (60 * s.fld .BUR_SAVE_INT) = 0) State.saveDue
    s.theftSecond)

/-! ### The Library's start -/

/-- The newest valid stored set of a group, as its entries (20 R491, R492). -/
def State.storedSet (s : State) (g : Nat) : List (Nat × Nat × List Nat) :=
  match s.lib.records.reverse.find? (fun r => r.area == 4 && r.type == 0x02 && r.valid && r.payload.head? == some g) with
  | some r => parseEntries r.payload.length (r.payload.drop 5)
  | none => []

/-- Stored entries take their places: RWL entries in the pending set of their group, others at once. Stored thresholds are back
as they were, whatever WC_CFG.MODE the reset has left for the comparator's next restart (07 R187). -/
def State.loadSet (s : State) (l : List (Nat × Nat × List Nat)) : State :=
  s.each l (fun s e =>
    match s.entry e.1 e.2.1 with
    | some d =>
      if 0x4210 ≤ e.1 && e.1 < 0x4240 && e.2.1 = 1 then
        let v := ofLe e.2.2
        (s.setFld .WC_THR_LO (e.1 - 0x4210) (bits v 0 12)).setFld .WC_THR_HI (e.1 - 0x4210) (bits v 16 12)
      else s.putEntry .a d e.1 e.2.1 e.2.2
    | none => s)

/-- Once READY is 1 after a reset, the pending set of every group in RECESS holds its newest stored set, or the defaults
that the Reset columns are, and the class S entries take their stored values (20 R491). -/
def State.loadStored (s : State) : State :=
  let last := s.dict.lastAbort
  let s := s.each (List.range 14) (fun s g =>
    if g = 0 || (s.group g).st == .recess then s.loadSet (s.storedSet g) else s)
  { s with dict := { s.dict with lastAbort := last } }

/-- LIBRARY_INIT (16 R392, R396; 20 R491). -/
def execLibraryInit (supported nand : Bool) (pageL2 eraseL2 blocks : Nat) (dir : List (Nat × Nat × Nat × Nat))
    (recs : List (Nat × Nat × Nat × Nat × List Nat)) (finals : List (List Nat)) (s : State) : Out :=
  .next (
    let was := s.flag .LIB_STAT_READY
    let s := s.libInit supported nand pageL2 eraseL2 blocks dir recs finals
    s.when (!was && s.flag .LIB_STAT_READY) (fun s => s.loadStored.copyRepairs))

/-! ### Handshake stalls -/

/-- An island number in use (01 Table 1-8, Table 1-13). -/
def islandUsed (i : Nat) : Bool := i < 60 || (64 ≤ i && i ≤ 92)

/-- The Wing of an island of PD1 or PD2. -/
def islandWing (i : Nat) : Option Wing :=
  if i < 12 then some (engineWing i)
  else if i < 14 then some (if i = 12 then .a else .b)
  else if i < 18 then some (coreWing (i - 14))
  else if 82 ≤ i && i ≤ 85 then some (if i < 84 then .a else .b)
  else none

/-- A Lesson engine or Substitute site stalls (10 R266, R271, R273): an engine fault of cause 5 where it serves an engine; an
idle Substitute is retired, and a copy to it ends. -/
def State.stallEngine (s : State) (site : Nat) : State :=
  match (List.range 12).find? (fun n => s.siteOf n = site && s.engineServed n) with
  | some n => s.engineFault n 5
  | none =>
    if site < 12 then s else
    let w : Wing := if site = 12 then .a else .b
    if s.flag (substRet w) then s
    else
      let copying := (s.copyOf w).isSome
      let s := (((s.setFld (substRet w) 0 1).recordRepair 6 w.num 0 0).consumeSpare 4).setCopy w none false
      s.when copying (fun s => (s.setFld (substCopy w) 0 0).reserveGone w)

/-- A Tutor core stalls (15 Table 15-6): held in local reset, and the other core of its Wing is interrupted. -/
def State.stallCore (s : State) (c : Nat) : State :=
  let s := { s with tut := { s.tut with heldReset := setBitTo s.tut.heldReset c true } }
  s.raiseCore (c / 2 * 2 + (1 - c % 2)) 9

/-- A voter stalls (14 R341): it is retired; between two remaining voters it counts as an expiry of the passes held. -/
def State.stallVoter (s : State) (v : Nat) : State :=
  if (s.dup.voters.getD v {}).retired then s
  else if s.dup.voters.any (fun p => p.retired) then s.each [Wing.a, Wing.b] (fun s w => s.passLost w false)
  else s.retireVoter v (s.holder.getD .a)

/-- What a stalled island brings (15 Table 15-6): its repair, or the fault epoch of a port or the Library controller. -/
def State.stallIsland (s : State) (i : Nat) : State :=
  if i < 14 then s.stallEngine i
  else if i < 18 then s.stallCore (i - 14)
  else if i < 35 then s.stallSlice (i - 18)
  else if 48 ≤ i && i < 53 then s.portFault (i - 48) 3 (i - 48)
  else if i = 53 then s.advanceEpoch 4 3
  else if 64 ≤ i && i < 80 then s.retireBank (i - 64)
  else if 82 ≤ i && i < 86 then { s with integ := { s.integ with deadMem := setBitTo s.integ.deadMem (i - 82) true } }
  else if 86 ≤ i && i < 89 then s.stallVoter (i - 86)
  else if 91 ≤ i && i < 93 then s.retireRoot (i - 91)
  else s

/-- HANDSHAKE_STALL (01 R25, R555; 14 R358; 15 R385; 19 R466): CH_STALL counts, event 0x02 names the channel, and the silent
island is dealt with. A channel that carries a command buffer of a port is a port fault, and one between the Wings is the
link Q15. -/
def execHandshakeStall (silent other : Nat) (receiver : Bool) (cmdPort : Option Nat) (s : State) : Out :=
  .next (if !(islandUsed silent && islandUsed other) then s else
    let s := (s.count .CH_STALL).event .caretaker 0x02 0 (silent + other * 2 ^ 8 + receiver.toNat * 2 ^ 16)
    let s := match islandWing silent, islandWing other with
      | some w, some v => s.when (w != v && !s.split) (fun s => s.linkFault v)
      | _, _ => s
    let s := s.stallIsland silent
    match cmdPort with
    | some p => s.when (p < 5 && silent != 48 + p) (fun s => s.portFault p 3 p)
    | none => s)

end Sys2Proof.Machine
end

