-- ==== Sys2Proof/Machine/Dispatch.lean ====
section
/-!
DEFINITION. One arm per command: each is one direct call of the command's meaning.
-/
namespace Sys2Proof.Machine

/-- The effect of a command on everything but the queue. -/
def exec (i : Instr) (s : State) : Host.Outcome State Fault Refusal :=
  match i with
  | .powerOn => Sys2Proof.Machine.execPowerOn s
  | .rstnLow => Sys2Proof.Machine.execRstnLow s
  | .softwareResetRequest => Sys2Proof.Machine.execSoftwareResetRequest s
  | .vcoreDroop byVcore => Sys2Proof.Machine.execVcoreDroop byVcore s
  | .resetPhaseAdvance mask bootsel => Sys2Proof.Machine.execResetPhaseAdvance mask bootsel s
  | .resetEnd => Sys2Proof.Machine.execResetEnd s
  | .pllRetryReset => Sys2Proof.Machine.execPllRetryReset s
  | .handshakeStall silent other receiver cmdPort => Sys2Proof.Machine.execHandshakeStall silent other receiver cmdPort s
  | .sampleWordOffer result reason source ts subst inj spineFree => Sys2Proof.Machine.execSampleWordOffer result reason source ts subst inj spineFree s
  | .bellCopyDivergence root => Sys2Proof.Machine.execBellCopyDivergence root s
  | .bellReqApply core group => Sys2Proof.Machine.execBellReqApply core group s
  | .bellReqJointApply core mask extra => Sys2Proof.Machine.execBellReqJointApply core mask extra s
  | .bellReqLatch core points => Sys2Proof.Machine.execBellReqLatch core points s
  | .bellReqBarrier core ident => Sys2Proof.Machine.execBellReqBarrier core ident s
  | .bellAlone => Sys2Proof.Machine.execBellAlone s
  | .barrierComplete => Sys2Proof.Machine.execBarrierComplete s
  | .barrierTimeout missing => Sys2Proof.Machine.execBarrierTimeout missing s
  | .periodBell => Sys2Proof.Machine.execPeriodBell s
  | .headEvent m falling => Sys2Proof.Machine.execHeadEvent m falling s
  | .lessonFallback => Sys2Proof.Machine.execLessonFallback s
  | .openBallTest ball changed => Sys2Proof.Machine.execOpenBallTest ball changed s
  | .supplyBallOpen group amps => Sys2Proof.Machine.execSupplyBallOpen group amps s
  | .ioBankChange bank code => Sys2Proof.Machine.execIoBankChange bank code s
  | .mainSupplyGood => Sys2Proof.Machine.execMainSupplyGood s
  | .vanaFail => Sys2Proof.Machine.execVanaFail s
  | .vpfGood => Sys2Proof.Machine.execVpfGood s
  | .vpfFail => Sys2Proof.Machine.execVpfFail s
  | .caretakerStart => Sys2Proof.Machine.execCaretakerStart s
  | .caretakerStop => Sys2Proof.Machine.execCaretakerStop s
  | .storeFault => Sys2Proof.Machine.execStoreFault s
  | .pwrSwWrite core pd1 pd2 clr1 clr2 => Sys2Proof.Machine.execPwrSwWrite core pd1 pd2 clr1 clr2 s
  | .wingPowerGood w => Sys2Proof.Machine.execWingPowerGood w s
  | .switchOvercurrent pd => Sys2Proof.Machine.execSwitchOvercurrent pd s
  | .harvestStateChange delivering setFault => Sys2Proof.Machine.execHarvestStateChange delivering setFault s
  | .cellPathOn => Sys2Proof.Machine.execCellPathOn s
  | .cellPathOff => Sys2Proof.Machine.execCellPathOff s
  | .cellRemoved => Sys2Proof.Machine.execCellRemoved s
  | .cellInserted => Sys2Proof.Machine.execCellInserted s
  | .storeCeilingReached => Sys2Proof.Machine.execStoreCeilingReached s
  | .storeCapMeasured dtMs => Sys2Proof.Machine.execStoreCapMeasured dtMs s
  | .pwrCellWrite core on off low ilim => Sys2Proof.Machine.execPwrCellWrite core on off low ilim s
  | .gaugeSample vstore vcell used => Sys2Proof.Machine.execGaugeSample vstore vcell used s
  | .admissionRequest classes byCaretaker => Sys2Proof.Machine.execAdmissionRequest classes byCaretaker s
  | .burstComplete => Sys2Proof.Machine.execBurstComplete s
  | .caretakerTakePort => Sys2Proof.Machine.execCaretakerTakePort s
  | .caretakerReleasePort => Sys2Proof.Machine.execCaretakerReleasePort s
  | .vanaGood => Sys2Proof.Machine.execVanaGood s
  | .pllLock loop => Sys2Proof.Machine.execPllLock loop s
  | .pllUnlock loop => Sys2Proof.Machine.execPllUnlock loop s
  | .clkEnWrite core a b => Sys2Proof.Machine.execClkEnWrite core a b s
  | .xinLost => Sys2Proof.Machine.execXinLost s
  | .tbLoRead core => Sys2Proof.Machine.execTbLoRead core s
  | .ppsPulse => Sys2Proof.Machine.execPpsPulse s
  | .ppsPulseEnd => Sys2Proof.Machine.execPpsPulseEnd s
  | .phaseStep => Sys2Proof.Machine.execPhaseStep s
  | .syncInEdge cycle => Sys2Proof.Machine.execSyncInEdge cycle s
  | .syncMissed => Sys2Proof.Machine.execSyncMissed s
  | .syncOutPulse => Sys2Proof.Machine.execSyncOutPulse s
  | .rcTrim => Sys2Proof.Machine.execRcTrim s
  | .rtcCrystalStop => Sys2Proof.Machine.execRtcCrystalStop s
  | .rtcCrystalStart => Sys2Proof.Machine.execRtcCrystalStart s
  | .rtcSecond => Sys2Proof.Machine.execRtcSecond s
  | .rtcSecWrite core lo => Sys2Proof.Machine.execRtcSecWrite core lo s
  | .rtcSubRead core => Sys2Proof.Machine.execRtcSubRead core s
  | .sarBurstStart k => Sys2Proof.Machine.execSarBurstStart k s
  | .sarSwtrigWrite core mask => Sys2Proof.Machine.execSarSwtrigWrite core mask s
  | .sarFreeRunTrigger k => Sys2Proof.Machine.execSarFreeRunTrigger k s
  | .sarConversionComplete k own subst hold => Sys2Proof.Machine.execSarConversionComplete k own subst hold s
  | .sarInjWrite core k input ext => Sys2Proof.Machine.execSarInjWrite core k input ext s
  | .refReadySet => Sys2Proof.Machine.execRefReadySet s
  | .foregroundCalComplete => Sys2Proof.Machine.execForegroundCalComplete s
  | .backgroundStepStart => Sys2Proof.Machine.execBackgroundStepStart s
  | .substEntryOpportunity => Sys2Proof.Machine.execSubstEntryOpportunity s
  | .sliceCalComplete slice ofs gain residualOk => Sys2Proof.Machine.execSliceCalComplete slice ofs gain residualOk s
  | .substExitOpportunity => Sys2Proof.Machine.execSubstExitOpportunity s
  | .vrefpOutOfRange => Sys2Proof.Machine.execVrefpOutOfRange s
  | .modClockLost loss => Sys2Proof.Machine.execModClockLost loss s
  | .modDataLost run => Sys2Proof.Machine.execModDataLost run s
  | .modLossEnd j clocks => Sys2Proof.Machine.execModLossEnd j clocks s
  | .modDecimation j before last => Sys2Proof.Machine.execModDecimation j before last s
  | .modFdlyWrite core n fdly => Sys2Proof.Machine.execModFdlyWrite core n fdly s
  | .guardTripAssert j clocks => Sys2Proof.Machine.execGuardTripAssert j clocks s
  | .guardSettleClear j clocks => Sys2Proof.Machine.execGuardSettleClear j clocks s
  | .modGuardClr core n clr => Sys2Proof.Machine.execModGuardClr core n clr s
  | .comparatorLatchSet c level => Sys2Proof.Machine.execComparatorLatchSet c level s
  | .lebBlankingEnd c level => Sys2Proof.Machine.execLebBlankingEnd c level s
  | .wcClrWrite core c level => Sys2Proof.Machine.execWcClrWrite core c level s
  | .comparatorInitialClear c level => Sys2Proof.Machine.execComparatorInitialClear c level s
  | .wcThrWrite core c lo hi => Sys2Proof.Machine.execWcThrWrite core c lo hi s
  | .tripGroupFirstAssert g => Sys2Proof.Machine.execTripGroupFirstAssert g s
  | .pwmZeroEvent m wcin => Sys2Proof.Machine.execPwmZeroEvent m wcin s
  | .pwmPeriodEvent m wcin => Sys2Proof.Machine.execPwmPeriodEvent m wcin s
  | .pwmTriggerCompare m which falling => Sys2Proof.Machine.execPwmTriggerCompare m which falling s
  | .pwmCompareMatch m b falling => Sys2Proof.Machine.execPwmCompareMatch m b falling s
  | .turnOnDelayExpiry m low => Sys2Proof.Machine.execTurnOnDelayExpiry m low s
  | .pwmShadowLowWrite core m w value => Sys2Proof.Machine.execPwmShadowLowWrite core m w value s
  | .pwmShadowHighWrite core m w value => Sys2Proof.Machine.execPwmShadowHighWrite core m w value s
  | .stagedMove => Sys2Proof.Machine.execStagedMove s
  | .delayLineLock => Sys2Proof.Machine.execDelayLineLock s
  | .delayLineLost => Sys2Proof.Machine.execDelayLineLost s
  | .safeLevelResumeCheck m => Sys2Proof.Machine.execSafeLevelResumeCheck m s
  | .pwmOutenWrite core m on => Sys2Proof.Machine.execPwmOutenWrite core m on s
  | .pwmCntEnWrite core m on => Sys2Proof.Machine.execPwmCntEnWrite core m on s
  | .pwmArmWrite core m on => Sys2Proof.Machine.execPwmArmWrite core m on s
  | .pwmGstartWrite core mask => Sys2Proof.Machine.execPwmGstartWrite core mask s
  | .groupStartExecute => Sys2Proof.Machine.execGroupStartExecute s
  | .pwmTimedStart m => Sys2Proof.Machine.execPwmTimedStart m s
  | .pwmLinkPulse m => Sys2Proof.Machine.execPwmLinkPulse m s
  | .pwmIntWrite core m isel presc ien clr => Sys2Proof.Machine.execPwmIntWrite core m isel presc ien clr s
  | .fltQualified mask ended => Sys2Proof.Machine.execFltQualified mask ended s
  | .fltBlankingEnd mask => Sys2Proof.Machine.execFltBlankingEnd mask s
  | .rdyLost m => Sys2Proof.Machine.execRdyLost m s
  | .shootThrough m => Sys2Proof.Machine.execShootThrough m s
  | .giSwtrigWrite core trig => Sys2Proof.Machine.execGiSwtrigWrite core trig s
  | .sequencerGapEnd k => Sys2Proof.Machine.execSequencerGapEnd k s
  | .refreshInsert m => Sys2Proof.Machine.execRefreshInsert m s
  | .refreshPhaseEnd m => Sys2Proof.Machine.execRefreshPhaseEnd m s
  | .fltQualifiedHigh m => Sys2Proof.Machine.execFltQualifiedHigh m s
  | .rdyQualifiedHigh m => Sys2Proof.Machine.execRdyQualifiedHigh m s
  | .lessonRunStart n => Sys2Proof.Machine.execLessonRunStart n s
  | .nop n => Sys2Proof.Machine.execNop n s
  | .ldk n rd imm => Sys2Proof.Machine.execLdk n rd imm s
  | .ld n rd addr wide => Sys2Proof.Machine.execLd n rd addr wide s
  | .st n ra addr wide => Sys2Proof.Machine.execSt n ra addr wide s
  | .lds n rd ra mod => Sys2Proof.Machine.execLds n rd ra mod s
  | .wait n ra rb d => Sys2Proof.Machine.execWait n ra rb d s
  | .waitDeadline n => Sys2Proof.Machine.execWaitDeadline n s
  | .inj n slot input ext => Sys2Proof.Machine.execInj n slot input ext s
  | .stpc n m ra rb => Sys2Proof.Machine.execStpc n m ra rb s
  | .stpd n m ra rb => Sys2Proof.Machine.execStpd n m ra rb s
  | .stpp n m ra rb rc => Sys2Proof.Machine.execStpp n m ra rb rc s
  | .stpe n m ra rb => Sys2Proof.Machine.execStpe n m ra rb s
  | .add n rd ra rb => Sys2Proof.Machine.execAdd n rd ra rb s
  | .sub n rd ra rb => Sys2Proof.Machine.execSub n rd ra rb s
  | .mul n rd ra rb => Sys2Proof.Machine.execMul n rd ra rb s
  | .mac n rd ra rb rc => Sys2Proof.Machine.execMac n rd ra rb rc s
  | .div n rd ra rb => Sys2Proof.Machine.execDiv n rd ra rb s
  | .sqrt n rd ra => Sys2Proof.Machine.execSqrt n rd ra s
  | .abs n rd ra => Sys2Proof.Machine.execAbs n rd ra s
  | .sincos n rd ra => Sys2Proof.Machine.execSincos n rd ra s
  | .pi n rd ra rb addr => Sys2Proof.Machine.execPi n rd ra rb addr s
  | .pr n rd ra rb addr => Sys2Proof.Machine.execPr n rd ra rb addr s
  | .biq n rd ra addr => Sys2Proof.Machine.execBiq n rd ra addr s
  | .clarke n rd ra rb rc => Sys2Proof.Machine.execClarke n rd ra rb rc s
  | .park n rd ra rb rc => Sys2Proof.Machine.execPark n rd ra rb rc s
  | .ipark n rd ra rb rc => Sys2Proof.Machine.execIpark n rd ra rb rc s
  | .sogi n rd ra rb addr => Sys2Proof.Machine.execSogi n rd ra rb addr s
  | .ddsrf n rd ra rb rc addr => Sys2Proof.Machine.execDdsrf n rd ra rb rc addr s
  | .pll n rd ra addr => Sys2Proof.Machine.execPll n rd ra addr s
  | .lim n rd ra rb rc => Sys2Proof.Machine.execLim n rd ra rb rc s
  | .rlim n rd ra addr => Sys2Proof.Machine.execRlim n rd ra addr s
  | .lut n rd ra addr => Sys2Proof.Machine.execLut n rd ra addr s
  | .cmpf n flag ra rb cond => Sys2Proof.Machine.execCmpf n flag ra rb cond s
  | .clim n rd ra rb rc mod => Sys2Proof.Machine.execClim n rd ra rb rc mod s
  | .prof n rd ra addr => Sys2Proof.Machine.execProf n rd ra addr s
  | .ramp n rd ra rb addr => Sys2Proof.Machine.execRamp n rd ra rb addr s
  | .ferr n ra rb addr => Sys2Proof.Machine.execFerr n ra rb addr s
  | .preset n ra rb rc addr => Sys2Proof.Machine.execPreset n ra rb rc addr s
  | .skip n flag eq count => Sys2Proof.Machine.execSkip n flag eq count s
  | .evry n flag every phase => Sys2Proof.Machine.execEvry n flag every phase s
  | .evt n ra code fault => Sys2Proof.Machine.execEvt n ra code fault s
  | .endRun n => Sys2Proof.Machine.execEndRun n s
  | .engineDataWrite core n offset value => Sys2Proof.Machine.execEngineDataWrite core n offset value s
  | .engineDataUpdate n offset words => Sys2Proof.Machine.execEngineDataUpdate n offset words s
  | .leRetireWrite core n => Sys2Proof.Machine.execLeRetireWrite core n s
  | .substituteCopyComplete w bad => Sys2Proof.Machine.execSubstituteCopyComplete w bad s
  | .leSubgoWrite core goa gob => Sys2Proof.Machine.execLeSubgoWrite core goa gob s
  | .substituteSelfTest w pass => Sys2Proof.Machine.execSubstituteSelfTest w pass s
  | .heldLowHalfTimeout core => Sys2Proof.Machine.execHeldLowHalfTimeout core s
  | .gridCommandSync => Sys2Proof.Machine.execGridCommandSync s
  | .gridCommandRun => Sys2Proof.Machine.execGridCommandRun s
  | .gridCommandClearTrip => Sys2Proof.Machine.execGridCommandClearTrip s
  | .islandingDisarm => Sys2Proof.Machine.execIslandingDisarm s
  | .islandingArm => Sys2Proof.Machine.execIslandingArm s
  | .islandingClearTrip => Sys2Proof.Machine.execIslandingClearTrip s
  | .mpptTraceRequest input => Sys2Proof.Machine.execMpptTraceRequest input s
  | .bursarPair point phase => Sys2Proof.Machine.execBursarPair point phase s
  | .meteringCycleEnd point len => Sys2Proof.Machine.execMeteringCycleEnd point len s
  | .halfCycleBoundary point => Sys2Proof.Machine.execHalfCycleBoundary point s
  | .burLatchWrite core mask => Sys2Proof.Machine.execBurLatchWrite core mask s
  | .burSaveNowWrite core => Sys2Proof.Machine.execBurSaveNowWrite core s
  | .bursarRestore => Sys2Proof.Machine.execBursarRestore s
  | .theftWindowClock => Sys2Proof.Machine.execTheftWindowClock s
  | .theftWindowEnd samples => Sys2Proof.Machine.execTheftWindowEnd samples s
  | .theftClrWrite core => Sys2Proof.Machine.execTheftClrWrite core s
  | .leaseRenew core => Sys2Proof.Machine.execLeaseRenew core s
  | .leaseExpiry w => Sys2Proof.Machine.execLeaseExpiry w s
  | .voterDisagreement voter w => Sys2Proof.Machine.execVoterDisagreement voter w s
  | .standby core pass => Sys2Proof.Machine.execStandby core pass s
  | .wake core => Sys2Proof.Machine.execWake core s
  | .cold core => Sys2Proof.Machine.execCold core s
  | .ready core => Sys2Proof.Machine.execReady core s
  | .handover core => Sys2Proof.Machine.execHandover core s
  | .cancel core => Sys2Proof.Machine.execCancel core s
  | .release core => Sys2Proof.Machine.execRelease core s
  | .acquire core => Sys2Proof.Machine.execAcquire core s
  | .coldSelfTestWindow w pass => Sys2Proof.Machine.execColdSelfTestWindow w pass s
  | .snapshotWriteComplete => Sys2Proof.Machine.execSnapshotWriteComplete s
  | .takeoverSlotChosen => Sys2Proof.Machine.execTakeoverSlotChosen s
  | .takeoverRestoreComplete => Sys2Proof.Machine.execTakeoverRestoreComplete s
  | .hpRearmWrite core mask => Sys2Proof.Machine.execHpRearmWrite core mask s
  | .handoverCopyComplete => Sys2Proof.Machine.execHandoverCopyComplete s
  | .linkStale w => Sys2Proof.Machine.execLinkStale w s
  | .scrubRead cls stored written => Sys2Proof.Machine.execScrubRead cls stored written s
  | .scrubPassOverdue cls => Sys2Proof.Machine.execScrubPassOverdue cls s
  | .uncorrectableRead consumer memory word stored => Sys2Proof.Machine.execUncorrectableRead consumer memory word stored s
  | .satRetWrite core bank go => Sys2Proof.Machine.execSatRetWrite core bank go s
  | .repLoadWrite core count => Sys2Proof.Machine.execRepLoadWrite core count s
  | .ageingMeasure slow => Sys2Proof.Machine.execAgeingMeasure slow s
  | .libraryInit supported nand pageL2 eraseL2 blocks dir recs finals => Sys2Proof.Machine.execLibraryInit supported nand pageL2 eraseL2 blocks dir recs finals s
  | .libAppendRecord idx => Sys2Proof.Machine.execLibAppendRecord idx s
  | .libReadRecord idx errs => Sys2Proof.Machine.execLibReadRecord idx errs s
  | .libReadNewest idx errs => Sys2Proof.Machine.execLibReadNewest idx errs s
  | .flashOperationComplete ok => Sys2Proof.Machine.execFlashOperationComplete ok s
  | .recordCommit => Sys2Proof.Machine.execRecordCommit s
  | .libraryRefresh => Sys2Proof.Machine.execLibraryRefresh s
  | .wearLevelRelocate => Sys2Proof.Machine.execWearLevelRelocate s
  | .bootImageVerify w => Sys2Proof.Machine.execBootImageVerify w s
  | .identityKeyDerive extracted => Sys2Proof.Machine.execIdentityKeyDerive extracted s
  | .worldViolation initiator addr cause => Sys2Proof.Machine.execWorldViolation initiator addr cause s
  | .enrol core => Sys2Proof.Machine.execEnrol core s
  | .transfer core => Sys2Proof.Machine.execTransfer core s
  | .vendorOff core => Sys2Proof.Machine.execVendorOff core s
  | .advance core => Sys2Proof.Machine.execAdvance core s
  | .secCommandComplete => Sys2Proof.Machine.execSecCommandComplete s
  | .attestationRequest nonce => Sys2Proof.Machine.execAttestationRequest nonce s
  | .attestationComplete => Sys2Proof.Machine.execAttestationComplete s
  | .testPulseStart ch => Sys2Proof.Machine.execTestPulseStart ch s
  | .testPulseEnd ch => Sys2Proof.Machine.execTestPulseEnd ch s
  | .testPulseCheck ch xLow yLow xStill => Sys2Proof.Machine.execTestPulseCheck ch xLow yLow xStill s
  | .filteredDemand low => Sys2Proof.Machine.execFilteredDemand low s
  | .discrepancyFault ch => Sys2Proof.Machine.execDiscrepancyFault ch s
  | .readbackFault levels => Sys2Proof.Machine.execReadbackFault levels s
  | .prefectClockCheck count => Sys2Proof.Machine.execPrefectClockCheck count s
  | .prefectFaultClear => Sys2Proof.Machine.execPrefectFaultClear s
  | .prefectNotice => Sys2Proof.Machine.execPrefectNotice s
  | .prefectForce => Sys2Proof.Machine.execPrefectForce s
  | .prefectReleaseReady => Sys2Proof.Machine.execPrefectReleaseReady s
  | .pfRelWrite core key => Sys2Proof.Machine.execPfRelWrite core key s
  | .forceRelease => Sys2Proof.Machine.execForceRelease s
  | .cfgswRead read => Sys2Proof.Machine.execCfgswRead read s
  | .cfgswChange read => Sys2Proof.Machine.execCfgswChange read s
  | .prefectSetDelivery => Sys2Proof.Machine.execPrefectSetDelivery s
  | .sealOpened => Sys2Proof.Machine.execSealOpened s
  | .sealClosed => Sys2Proof.Machine.execSealClosed s
  | .pfCommitWrite core digest => Sys2Proof.Machine.execPfCommitWrite core digest s
  | .commitArmTimeout => Sys2Proof.Machine.execCommitArmTimeout s
  | .commissioningComplete => Sys2Proof.Machine.execCommissioningComplete s
  | .portEnWrite core mask => Sys2Proof.Machine.execPortEnWrite core mask s
  | .ethFrameReceive p frame fcsOk ts => Sys2Proof.Machine.execEthFrameReceive p frame fcsOk ts s
  | .canFrameReceive p ident ide fdf brs esi rtr dlc data err ts => Sys2Proof.Machine.execCanFrameReceive p ident ide fdf brs esi rtr dlc data err ts s
  | .niujorFrameReceive dst src type payload check ts => Sys2Proof.Machine.execNiujorFrameReceive dst src type payload check ts s
  | .niujorCycleStart => Sys2Proof.Machine.execNiujorCycleStart s
  | .niujorSlot => Sys2Proof.Machine.execNiujorSlot s
  | .chainBell => Sys2Proof.Machine.execChainBell s
  | .ethMdioWrite core phyad regad isWrite data => Sys2Proof.Machine.execEthMdioWrite core phyad regad isWrite data s
  | .mdioFrameComplete data => Sys2Proof.Machine.execMdioFrameComplete data s
  | .peerTrain core => Sys2Proof.Machine.execPeerTrain core s
  | .trainingWord marker pos check => Sys2Proof.Machine.execTrainingWord marker pos check s
  | .hopPulse => Sys2Proof.Machine.execHopPulse s
  | .trainingEcho roundTrip => Sys2Proof.Machine.execTrainingEcho roundTrip s
  | .hopReport hop => Sys2Proof.Machine.execHopReport hop s
  | .echoTimeout => Sys2Proof.Machine.execEchoTimeout s
  | .positionReport pos => Sys2Proof.Machine.execPositionReport pos s
  | .trainingTimeout => Sys2Proof.Machine.execTrainingTimeout s
  | .ringCfgWrite core q value => Sys2Proof.Machine.execRingCfgWrite core q value s
  | .ringHeadWrite core q head => Sys2Proof.Machine.execRingHeadWrite core q head s
  | .descriptorProcess => Sys2Proof.Machine.execDescriptorProcess s
  | .descriptorComplete q code ts => Sys2Proof.Machine.execDescriptorComplete q code ts s
  | .ringHaltClear core q => Sys2Proof.Machine.execRingHaltClear core q s
  | .captureBufferComplete a => Sys2Proof.Machine.execCaptureBufferComplete a s
  | .cryptoHash => Sys2Proof.Machine.execCryptoHash s
  | .cryptoVerify => Sys2Proof.Machine.execCryptoVerify s
  | .portRestart p => Sys2Proof.Machine.execPortRestart p s
  | .ethLinkChange p up spd fdx => Sys2Proof.Machine.execEthLinkChange p up spd fdx s
  | .canBusOffRecovery p => Sys2Proof.Machine.execCanBusOffRecovery p s
  | .usdoTransfer p client frame => Sys2Proof.Machine.execUsdoTransfer p client frame s
  | .usdoSessionTimeout p client => Sys2Proof.Machine.execUsdoSessionTimeout p client s
  | .idpRead p source udp head => Sys2Proof.Machine.execIdpRead p source udp head s
  | .idpWrite p source udp head payload => Sys2Proof.Machine.execIdpWrite p source udp head payload s
  | .idpTransferTimeout p source tag => Sys2Proof.Machine.execIdpTransferTimeout p source tag s
  | .requestForward => Sys2Proof.Machine.execRequestForward s
  | .groupEnter w init g => Sys2Proof.Machine.execGroupEnter w init g s
  | .groupRestart w init g => Sys2Proof.Machine.execGroupRestart w init g s
  | .groupRestore w init g => Sys2Proof.Machine.execGroupRestore w init g s
  | .validationComplete g => Sys2Proof.Machine.execValidationComplete g s
  | .jointRestart w init mask => Sys2Proof.Machine.execJointRestart w init mask s
  | .storeParameters w init value => Sys2Proof.Machine.execStoreParameters w init value s
  | .restoreDefaults w init value => Sys2Proof.Machine.execRestoreDefaults w init value s
  | .rollCall w init => Sys2Proof.Machine.execRollCall w init s
  | .descriptionRequest w init value => Sys2Proof.Machine.execDescriptionRequest w init value s
  | .descriptionRead w init => Sys2Proof.Machine.execDescriptionRead w init s
  | .programDownload w init data => Sys2Proof.Machine.execProgramDownload w init data s
  | .imageSlotWrite w init slot data => Sys2Proof.Machine.execImageSlotWrite w init slot data s
  | .seedRequest w init value => Sys2Proof.Machine.execSeedRequest w init value s
  | .seedComplete => Sys2Proof.Machine.execSeedComplete s
  | .interruptClaim core => Sys2Proof.Machine.execInterruptClaim core s
  | .interruptComplete core src => Sys2Proof.Machine.execInterruptComplete core src s
  | .machineTimer core => Sys2Proof.Machine.execMachineTimer core s
  | .tutMtcmplWrite core value => Sys2Proof.Machine.execTutMtcmplWrite core value s
  | .tutMtcmphWrite core value => Sys2Proof.Machine.execTutMtcmphWrite core value s
  | .wfi core => Sys2Proof.Machine.execWfi core s
  | .gatewayRead core ien => Sys2Proof.Machine.execGatewayRead core ien s
  | .gatewayWrite core ien => Sys2Proof.Machine.execGatewayWrite core ien s
  | .gatewayDone core => Sys2Proof.Machine.execGatewayDone core s
  | .tapReset => Sys2Proof.Machine.execTapReset s
  | .extest cells => Sys2Proof.Machine.execExtest cells s
  | .idcode => Sys2Proof.Machine.execIdcode s
  | .samplePreload cells => Sys2Proof.Machine.execSamplePreload cells s
  | .dtmcs => Sys2Proof.Machine.execDtmcs s
  | .dmi hart op => Sys2Proof.Machine.execDmi hart op s
  | .bypass => Sys2Proof.Machine.execBypass s
  | .debugHalt core => Sys2Proof.Machine.execDebugHalt core s
  | .lehaltWrite core value => Sys2Proof.Machine.execLehaltWrite core value s
  | .amoSatchel core addr op value => Sys2Proof.Machine.execAmoSatchel core addr op value s
  | .registerWrite core addr value => Sys2Proof.Machine.execRegisterWrite core addr value s

end Sys2Proof.Machine
end

