-- ==== Sys2Proof/Machine/Step.lean ====
section
/-!
DEFINITION. One step of the block: the command at the front of the queue, or one Edge tick where none waits.
-/
namespace Sys2Proof.Machine

/-- The queue of waiting commands becomes `l`. -/
def State.setPending (s : State) (l : List Instr) : State := { s with pending := l }

/-- One step: the command at the front of the queue acts, with the queue's rest; the block idles on an empty queue. -/
def step (s : State) : Host.Outcome State Fault Refusal :=
  match s.pending with
  | [] => .next s.idle
  | c :: r => exec c (s.setPending r)

/-- The state with the command that a word of the command table spells at the front of its queue. No row of the table gives
bits, so no word spells a command and the state stays. -/
def State.withFetchWord (s : State) (nbits w : Nat) : State :=
  match Sys2Proof.decodeTableWord nbits w with
  | some c => s.setPending (c :: s.pending)
  | none => s

end Sys2Proof.Machine
end

