-- ==== Sys2Proof/Safety.lean ====
section
/-!
DEFINITION. What counts as a safe state of the block, in the terms claims use: canonical tables, register fields within their
widths, and tables of a fixed number of entries that have that number.
-/
namespace Sys2Proof.Machine

/-- The sparse memories stand in canonical form (Machine/Sparse.lean): Satchel, the engine memories, ITCM, DTCM and the
Caretaker SRAM, whose unlisted bytes and words read as 0. -/
def State.Tidy (s : State) : Prop :=
  s.satchel.wf (fun _ => 0) = true ∧ s.eng.mem.wf (fun _ => 0) = true ∧ s.tut.itcm.wf (fun _ => 0) = true ∧
    s.tut.dtcm.wf (fun _ => 0) = true ∧ s.ct.sram.wf (fun _ => 0) = true

/-- Every register field holds a number of its width. -/
def State.InWidth (s : State) : Prop := ∀ f i, s.fld f i < 2 ^ f.width

/-- One Lesson engine has 32 registers and 32 subscriptions (10 R249, 01 R24). -/
def Engine.Shaped (e : Engine) : Prop := e.regs.length = 32 ∧ e.subs.length = 32

/-- The block has the number of units the spec gives it: 24 modulator channels, 48 comparators, 24 PWM modules, 16 SAR slots
on 17 slices, 12 Lesson engines, 3 voters, 4 snapshot slots, 16 group numbers, 8 metering points, 4 Tutor cores. -/
def State.Shaped (s : State) : Prop :=
  s.sd.length = 24 ∧ s.trip.chans.length = 48 ∧ (s.pwm.mods.length = 24 ∧ s.pwm.holds.length = 4) ∧
    (s.sar.slots.length = 16 ∧ s.sar.lastInput.length = 17 ∧ s.sar.fails.length = 17) ∧
    (s.eng.engines.length = 12 ∧ (∀ e ∈ s.eng.engines, e.Shaped) ∧ s.eng.lowHold.length = 4) ∧
    (s.dup.voters.length = 3 ∧ s.dup.slots.length = 4) ∧ s.dict.groups.length = 16 ∧
    (s.bur.points.length = 8 ∧ s.bur.accs.length = 8) ∧
    (s.tut.mtcmp.length = 4 ∧ s.tut.mtcmpHold.length = 4 ∧ s.tut.entered.length = 4 ∧ s.tut.lr.length = 4 ∧
      s.tut.mcause.length = 4 ∧ s.tut.mtval.length = 4)

/-- The parts of State, in its order. -/
inductive Part where
  | pending | regs | tb | freeCtr | rst | bell | fab | dup | sec | ports | dict | tut | satchel | ct
  | clk | sar | integ | lib | sd | trip | pwm | gate | eng | ship | bur | pf
  deriving DecidableEq, Repr

/-- Two states agree in a part. -/
def Part.same (p : Part) (s t : State) : Prop :=
  match p with
  | .pending => s.pending = t.pending
  | .regs => s.regs = t.regs
  | .tb => s.tb = t.tb
  | .freeCtr => s.freeCtr = t.freeCtr
  | .rst => s.rst = t.rst
  | .bell => s.bell = t.bell
  | .fab => s.fab = t.fab
  | .dup => s.dup = t.dup
  | .sec => s.sec = t.sec
  | .ports => s.ports = t.ports
  | .dict => s.dict = t.dict
  | .tut => s.tut = t.tut
  | .satchel => s.satchel = t.satchel
  | .ct => s.ct = t.ct
  | .clk => s.clk = t.clk
  | .sar => s.sar = t.sar
  | .integ => s.integ = t.integ
  | .lib => s.lib = t.lib
  | .sd => s.sd = t.sd
  | .trip => s.trip = t.trip
  | .pwm => s.pwm = t.pwm
  | .gate => s.gate = t.gate
  | .eng => s.eng = t.eng
  | .ship => s.ship = t.ship
  | .bur => s.bur = t.bur
  | .pf => s.pf = t.pf

/-- A gate pad of module `m` is driven high. -/
def State.padHigh (s : State) (m : Nat) : Bool := (s.pm m).outHi || (s.pm m).outLo

end Sys2Proof.Machine
end

