-- ==== Sys2Proof/Footprint.lean ====
section
/-!
DEFINITION. The footprint of every command: the register fields it may change, in any of its units, and the parts of State
beside the registers that it may change. A command leaves every other field and part as it is; the sets of Foot are what
several commands share.
-/
namespace Sys2Proof
open Sys2Proof.Machine

/-! ### Register fields -/

/-- The states of the Wings. -/
def Foot.wings : List Fld :=
  [.HP_STAT_STATEA, .HP_STAT_STATEB]

/-- The lease counts of the Wings. -/
def Foot.leases : List Fld :=
  [.HP_LREM_LREMA, .HP_LREM_LREMB]

/-- An event record queued on Q10, or lost where Q10 is full: its indices and counts, and the interrupt it may raise. -/
def Foot.events : List Fld :=
  [.RING_HEAD_HEAD, .RING_STAT_DROP, .TUT_IPEND]

/-- A gateway transfer of a core ends (21 R513). -/
def Foot.gateway : List Fld :=
  [.TUT_IPEND, .GW_CTRL_BUSY, .GW_CTRL_DONE, .GW_ABORT]

/-- A violation of the worlds (17 R412) and its event. -/
def Foot.violation : List Fld :=
  List.flatten [Foot.events, [.SEC_VIOL_INIT, .SEC_VIOLA]]

/-- A ring descriptor completes or halts its ring (19 R460). -/
def Foot.halt : List Fld :=
  List.flatten [Foot.events, [.RING_STAT_HALT, .RING_STAT_ERR]]

/-- A module counter starts or stops (08 R188). -/
def Foot.counter : List Fld :=
  [.PWM_RUN_CNT_EN, .PWM_STAT_RUNNING, .PWM_STAT_DIR, .PWM_CNT_CNT, .PWM_INT_ICNT]

/-- Spare levels of the Report Card are consumed (15 R387). -/
def Foot.spares : List Fld :=
  List.flatten [Foot.events, [.INT_STAT_FLOOR, .REPC_SHIP_CONSUMED, .REPC_REM_REMAIN]]

/-- The shadow words of a PWM module. -/
def Foot.shadows : List Fld :=
  [.PWM_SHD0L, .PWM_SHD0H, .PWM_SHD1L, .PWM_SHD1H, .PWM_SHD2L, .PWM_SHD2H]

/-- The Substitute slice leaves its slot and a step is skipped (05 R135). -/
def Foot.substitute : List Fld :=
  List.flatten [Foot.events, [.SAR_CALPOS_STEP, .SAR_CALPOS_PHASE, .SAR_CALSKIP_SKIP, .SAR_MAP_SUBSLOT]]

/-- A repair is recorded (15 R381). -/
def Foot.repair : List Fld :=
  List.flatten [Foot.spares, [.INT_STAT_RECFULL, .REP_CNT_USED]]

/-- A sample word enters the fabric and reaches its listeners (01 R24 to R28). -/
def Foot.word : List Fld :=
  List.flatten [Foot.violation, Foot.halt, [.FAB_DROP, .BUR_STAT_GAP]]

/-- The Library and the Caretaker pass on with what waits (03 R89, 16 R406). -/
def Foot.library : List Fld :=
  List.flatten [Foot.halt, [.CT_STAT_REFUSED, .CT_STAT_FINAL, .CT_STAT_LIBOWN, .BUR_STAT_SAVEREF, .LIB_STAT_OCT,
  .LIB_REFUSE_REFUSED]]

/-- Gate pads settle, with their charge balance (08 R205, R209), and the words the change causes. -/
def Foot.pads : List Fld :=
  List.flatten [Foot.word, [.PWM_STAT_OUTACT, .PWM_CARRY_CARRY]]

/-- Comparators are judged anew (07 R173 to R176). -/
def Foot.comparator : List Fld :=
  List.flatten [Foot.pads, [.TG_STAT_ACTIVE, .WC_CFG_TRIPPED, .WC_CFG_SIDE, .WC_STAT_TRIPS, .WC_STAT_RAWHI,
  .WC_STAT_RAWLO, .PWM_STAT_TRIPPED, .PWM_STAT_TRIPL]]

/-- A module stops driving and its counter may stop (08 R213). -/
def Foot.moduleStop : List Fld :=
  List.flatten [Foot.pads, Foot.counter, [.PWM_RUN_OUTEN, .PWM_RUN_ARM, .GI_DEFER_DEFER]]

/-- The gate sequencer shuts modules down (09 R236 to R240). -/
def Foot.shutdown : List Fld :=
  List.flatten [Foot.pads, Foot.counter, [.PWM_RUN_OUTEN, .PWM_RUN_ARM, .GI_SHUT_BUSY, .GI_LOCKED_LOCK,
  .GI_RSPSTAT_ACTED]]

/-- Trip groups and the modules they lock settle (07 R179, R180). -/
def Foot.trips : List Fld :=
  List.flatten [Foot.shutdown, [.TG_STAT_SEEN, .TG_FIRST_SRC, .TG_FTS]]

/-- A whole-die reset begins and the fault epoch advances (01 R42, 20 R480). -/
def Foot.reset : List Fld :=
  List.flatten [Foot.violation, Foot.gateway, Foot.leases, Foot.halt, [.TG_STAT_SEEN, .TG_FORCE_FORCE, .TG_ROUTE_PM,
  .WC_CFG_TRIPPED, .PWM_RUN_OUTEN, .PWM_STAT_OUTACT, .LE_STAT_RUNNING, .HP_STAT_HOLDER, .SEC_FUSE_SVN,
  .SEC_FUSE_OWNERS, .SEC_FUSE_VENDOR_OFF, .SEC_CMDST_BUSY, .RING_EPOCH, .CAP_CFG_EN, .RING_TAIL_TAIL]]

/-- A Wing loses the pass and the fault epoch advances (14 R343, 20 R480). -/
def Foot.wingOff : List Fld :=
  List.flatten [Foot.pads, Foot.gateway, Foot.wings, Foot.leases, [.SAR_CAL_FGCAL, .SAR_CALPOS_PHASE,
  .SAR_MAP_SUBSLOT, .SAR_STAT_INJQ, .PWM_RUN_OUTEN, .PWM_STGDROP, .LE_STAT_RUNNING, .HP_STAT_HOLDER,
  .HP_STAT_TRANSFER, .HP_CNT_TKO, .INT_LASTA, .RING_EPOCH, .CAP_CFG_EN, .RING_TAIL_TAIL]]

/-- An engine run ends (10 R264). -/
def Foot.engineEnd : List Fld :=
  List.flatten [Foot.shutdown, Foot.gateway, [.SAR_CAL_FGCAL, .SAR_CALPOS_PHASE, .SAR_MAP_SUBSLOT, .SAR_STAT_INJQ,
  .LE_STAT_RUNNING, .LE_STAT_FAULT, .LE_STAT_FCAUSE, .LE_STAT_OVRCONS, .LE_TIME_LAST, .LE_TMAX_MAX, .LE_FLAGS_FLAGS,
  .LE_FLAGS_PC, .INT_LASTA]]

/-- The Caretaker starts or stops (03 R74). -/
def Foot.caretaker : List Fld :=
  [.CT_STAT_STFLT, .CT_STAT_COLD, .CT_STAT_REFUSED, .CT_STAT_FINAL, .CT_STAT_LIBOWN, .PWR_STORE_VMAX,
  .PWR_STORE_VFLOOR, .PWR_CELL_ON, .PWR_CELL_OFF, .PWR_CELL_LOW, .PWR_CELL_ILIM, .PWR_CELLQ, .GAUGE_CAP_CAP,
  .GAUGE_CAP_LIM, .GAUGE_E, .GAUGE_RSV, .GAUGE_COST_COST, .PWR_MON_DROOPS, .CLK_STAT_XIN_LOST, .RTC_SUB_FRAC,
  .RTC_SUB_RCSRC, .RTC_SEC, .RTC_SECH_SECH, .CT_RCTRIM_EN, .CT_RCTRIM_TRIMMED, .MOD_THEFT_GRP, .MOD_THEFT_CHSEL,
  .BUR_CTRL_THEFT_EN, .BUR_STAT_RESTORED, .BUR_STAT_SPANPEND, .BUR_THEFT, .BUR_TSKIP, .BUR_TQ, .BUR_TGAIN,
  .REP_CNT_USED, .LIB_STAT_OCT, .LIB_CRES_SAVES, .LIB_CRES_FINALS, .LIB_CRES_FPT, .SEC_PREF_SLOT, .RING_EPOCH]

/-- An engine instruction reads a word that may be poison, and the run may fail and its Wing respond (10 R265, 15 R373). -/
def Foot.engineRead : List Fld :=
  List.flatten [Foot.shutdown, Foot.repair, Foot.gateway, [.SAR_CAL_FGCAL, .SAR_CALPOS_PHASE, .SAR_MAP_SUBSLOT,
  .SAR_STAT_INJQ, .PWM_STGDROP, .LE_MAP_SEA, .LE_MAP_SEB, .LE_MAP_RET, .LE_MAP_SEA_RET, .LE_MAP_SEB_RET,
  .LE_SUBST_COPYA, .LE_SUBST_COPYB, .LE_STAT_RUNNING, .LE_STAT_FAULT, .LE_STAT_FCAUSE, .LE_FLAGS_PC, .HP_STAT_HOREQ,
  .INT_LASTA]]

/-- A device access to Satchel that may meet poison and fault its port (15 R371, 19 R466). -/
def Foot.recv : List Fld :=
  List.flatten [Foot.engineRead, [.BUR_STAT_SPANPEND, .RING_EPOCH, .CAP_CFG_EN, .RING_TAIL_TAIL]]

/-- A word reads as poison or uncorrectable (15 R371 to R374). -/
def Foot.poison : List Fld :=
  List.flatten [Foot.recv, [.SAT_BANK_INSERV, .SAT_BANK_RETIRED]]

/-- The checks of a restart (20 R487) and an APPLY. -/
def Foot.apply : List Fld :=
  List.flatten [Foot.gateway, Foot.events, [.SAR_CTRL_SLOT_EN, .SAR_REF_SEL, .SAR_TRIG_SRC, .SAR_TRIG_PMSEL,
  .SAR_TRIG_EVT, .SAR_TRIG_SEQ_LEN, .SAR_TRIG_DIV, .SAR_SEQ_E0, .SAR_SEQ_E1, .SAR_SEQ_E2, .SAR_SEQ_E3,
  .MOD_CTRL_CH_EN, .MOD_THEFT_GRP, .MOD_THEFT_CHSEL, .MOD_CLK_MODE, .MOD_CLK_DIV, .MOD_CLK_EDGE, .MOD_CLK_DLY,
  .MOD_CLK_STUCK, .MOD_CFG_ORDER, .MOD_CFG_OSR, .MOD_CFG_GOSR, .MOD_CFG_SYNC, .MOD_CFG_PMSEL, .MOD_CFG_EVT,
  .MOD_GCFG_TG, .MOD_GCFG_LATCH, .MOD_GCFG_LINK, .MOD_GCFG_LOSSTRIP, .MOD_GCFG_GEN, .TG_ROUTE_PM, .WC_CFG_MODE,
  .WC_CFG_HYST, .WC_CFG_TG, .WC_CFG_LATCH, .WC_CFG_LINK, .WC_CFG_LEBEDGE, .WC_LEB_LEBT, .PWM_CTRL_CMODE,
  .PWM_CTRL_RLD, .PWM_CTRL_OUTMODE, .PWM_CTRL_STRETCH, .PWM_CTRL_TRIPLEN, .PWM_CTRL_DBGRUN, .PWM_CTRL_LINKOUT,
  .PWM_CTRL_FOLLOW, .PWM_CTRL_SH, .PWM_CTRL_SL, .PWM_CTRL_OWNER, .PWM_CTRL_FORWARD, .PWM_CTABH_EVT0,
  .PWM_CTABH_ACT0, .PWM_CTABH_EVT1, .PWM_CTABH_ACT1, .PWM_CTABH_EVT2, .PWM_CTABH_ACT2, .PWM_CTABH_EVT3,
  .PWM_CTABH_ACT3, .PWM_CTABL_RULES01, .PWM_CTABL_RULES23], [.PWM_MINPW_MINPW, .PWM_LOAD_LOADCNT, .PWM_LOAD_LOADDIR,
  .PWM_TCFG_T0DIR, .PWM_TCFG_T1DIR, .PWM_ERSEL_SEL, .RSP_CFG_ACT, .RSP_CFG_SCOPE, .RSP_CFG_LOCK, .RSP_CFG_IRQ,
  .RSP_MASK_MASK, .GSEQ_LEG_MA, .GSEQ_LEG_MB, .GSEQ_LEG_OUTER, .GSEQ_LEG_EN, .GSEQ_LEG_GAP, .GI_CH_BLANK,
  .GI_CH_FILT, .GI_CH_FLTEN, .GI_CH_RDYCHK, .GI_CH_RFILT, .GI_REF_REFRESH_W, .GI_REF_REFRESH_N, .LT_CFG_SRC,
  .LT_CFG_HEAD, .LT_CFG_DIR, .LT_CFG_DIV, .LT_PER_PER, .LT_MATCH_CNT, .LE_CTRL_EN, .LE_CTRL_OVR_LIMIT,
  .LE_WCET_BOUND, .LE_SNAP_BASE, .LE_SNAP_LEN, .BUR_CTRL_AC_EN, .BUR_CTRL_DC_EN, .BUR_CTRL_THEFT_EN, .BUR_THEFT,
  .BUR_TGAIN, .BUR_SRC_VA, .BUR_SRC_VB, .BUR_SRC_VC, .BUR_ISRC_IA, .BUR_ISRC_IB, .BUR_ISRC_IC, .BUR_CFG_INV,
  .BUR_CFG_F60, .BUR_UDIN, .BUR_INOM, .BUR_PRAT, .BUR_EVT_SAG, .BUR_EVT_SWL, .BUR_EVT2_INT, .BUR_EVT2_HYS, .BUR_GV,
  .BUR_OV, .BUR_GI, .BUR_OI, .BUR_PH_PH, .HP_CTRL_MODE], [.HP_CTRL_AUTOHO, .HP_LEASE_LEASE, .HP_LEASE_RPP,
  .HP_RING_BASE, .HP_TUTOR_OFS, .HP_TUTOR_LEN]]

/-- A module passes its zero or period event and reloads (08 R199). -/
def Foot.period : List Fld :=
  List.flatten [Foot.comparator, [.SAR_CTRL_SLOT_EN, .SAR_REF_SEL, .SAR_TRIG_SRC, .SAR_TRIG_PMSEL, .SAR_TRIG_EVT,
  .SAR_TRIG_SEQ_LEN, .SAR_TRIG_DIV, .SAR_SEQ_E0, .SAR_SEQ_E1, .SAR_SEQ_E2, .SAR_SEQ_E3, .MOD_CTRL_CH_EN,
  .MOD_THEFT_GRP, .MOD_THEFT_CHSEL, .MOD_CLK_MODE, .MOD_CLK_DIV, .MOD_CLK_EDGE, .MOD_CLK_DLY, .MOD_CLK_STUCK,
  .MOD_CFG_ORDER, .MOD_CFG_OSR, .MOD_CFG_GOSR, .MOD_CFG_SYNC, .MOD_CFG_PMSEL, .MOD_CFG_EVT, .MOD_GCFG_TG,
  .MOD_GCFG_LATCH, .MOD_GCFG_LINK, .MOD_GCFG_LOSSTRIP, .MOD_GCFG_GEN, .MOD_GCFG_TRIPPED, .TG_ROUTE_PM, .WC_CFG_MODE,
  .WC_CFG_HYST, .WC_CFG_TG, .WC_CFG_LATCH, .WC_CFG_LINK, .WC_CFG_LEBEDGE, .WC_LEB_LEBT, .PWM_CTRL_CMODE,
  .PWM_CTRL_RLD, .PWM_CTRL_OUTMODE, .PWM_CTRL_STRETCH, .PWM_CTRL_TRIPLEN, .PWM_CTRL_DBGRUN, .PWM_CTRL_LINKOUT,
  .PWM_CTRL_FOLLOW, .PWM_CTRL_SH, .PWM_CTRL_SL, .PWM_CTRL_OWNER, .PWM_CTRL_FORWARD, .PWM_STAT_DIR, .PWM_STAT_SUPPR,
  .PWM_STAT_STRETCHED, .PWM_STAT_CARRYSAT, .PWM_STAT_LATE, .PWM_STAT_SUPCNT, .PWM_CNT_CNT, .PWM_CTABH_EVT0,
  .PWM_CTABH_ACT0], [.PWM_CTABH_EVT1, .PWM_CTABH_ACT1, .PWM_CTABH_EVT2, .PWM_CTABH_ACT2, .PWM_CTABH_EVT3,
  .PWM_CTABH_ACT3, .PWM_CTABL_RULES01, .PWM_CTABL_RULES23, .PWM_MINPW_MINPW, .PWM_LOAD_LOADCNT, .PWM_LOAD_LOADDIR,
  .PWM_TCFG_T0DIR, .PWM_TCFG_T1DIR, .PWM_ERSEL_SEL, .PWM_INT_ICNT, .PWM_INT_IFLAG, .PWM_ACT0L, .PWM_ACT0H,
  .PWM_ACT1L, .PWM_ACT1H, .PWM_ACT2L, .PWM_ACT2H, .RSP_CFG_ACT, .RSP_CFG_SCOPE, .RSP_CFG_LOCK, .RSP_CFG_IRQ,
  .RSP_MASK_MASK, .GSEQ_LEG_MA, .GSEQ_LEG_MB, .GSEQ_LEG_OUTER, .GSEQ_LEG_EN, .GSEQ_LEG_GAP, .GI_CH_BLANK,
  .GI_CH_FILT, .GI_CH_FLTEN, .GI_CH_RDYCHK, .GI_CH_RFILT, .GI_REF_REFRESH_W, .GI_REF_REFRESH_N, .LT_CFG_SRC,
  .LT_CFG_HEAD, .LT_CFG_DIR, .LT_CFG_DIV, .LT_PER_PER, .LT_MATCH_CNT, .LE_CTRL_EN, .LE_CTRL_OVR_LIMIT,
  .LE_SNAP_BASE, .LE_SNAP_LEN, .BUR_CTRL_AC_EN, .BUR_CTRL_DC_EN, .BUR_CTRL_THEFT_EN, .BUR_THEFT, .BUR_TGAIN,
  .BUR_SRC_VA, .BUR_SRC_VB, .BUR_SRC_VC, .BUR_ISRC_IA, .BUR_ISRC_IB, .BUR_ISRC_IC], [.BUR_CFG_INV, .BUR_CFG_F60,
  .BUR_UDIN, .BUR_INOM, .BUR_PRAT, .BUR_EVT_SAG, .BUR_EVT_SWL, .BUR_EVT2_INT, .BUR_EVT2_HYS, .BUR_GV, .BUR_OV,
  .BUR_GI, .BUR_OI, .BUR_PH_PH, .HP_CTRL_MODE, .HP_CTRL_AUTOHO, .HP_LEASE_LEASE, .HP_LEASE_RPP, .HP_RING_BASE,
  .HP_TUTOR_OFS, .HP_TUTOR_LEN]]

/-- A Bell other than a PERIOD Bell, with APPLY, LATCH and BARRIER (01 R36). -/
def Foot.bell : List Fld :=
  List.flatten [Foot.comparator, Foot.library, Foot.gateway, Foot.spares, Foot.wings, Foot.leases, [.BELL_STAT_SEQ,
  .SAR_CTRL_SLOT_EN, .SAR_REF_SEL, .SAR_REF_REF_READY, .SAR_REF_EXT_RANGE, .SAR_CAL_FGCAL, .SAR_CALPOS_PHASE,
  .SAR_MAP_SUBSLOT, .SAR_TRIG_SRC, .SAR_TRIG_PMSEL, .SAR_TRIG_EVT, .SAR_TRIG_SEQ_LEN, .SAR_TRIG_DIV, .SAR_SEQ_E0,
  .SAR_SEQ_E1, .SAR_SEQ_E2, .SAR_SEQ_E3, .SAR_STAT_INJQ, .MOD_CTRL_CH_EN, .MOD_THEFT_GRP, .MOD_THEFT_CHSEL,
  .MOD_CLK_MODE, .MOD_CLK_DIV, .MOD_CLK_EDGE, .MOD_CLK_DLY, .MOD_CLK_STUCK, .MOD_CFG_ORDER, .MOD_CFG_OSR,
  .MOD_CFG_GOSR, .MOD_CFG_SYNC, .MOD_CFG_PMSEL, .MOD_CFG_EVT, .MOD_GCFG_TG, .MOD_GCFG_LATCH, .MOD_GCFG_LINK,
  .MOD_GCFG_LOSSTRIP, .MOD_GCFG_GEN, .MOD_GCFG_TRIPPED, .MOD_STAT_GTRIPS, .TG_ROUTE_PM, .WC_CFG_MODE, .WC_CFG_HYST,
  .WC_CFG_TG, .WC_CFG_LATCH, .WC_CFG_LINK, .WC_CFG_LEBEDGE, .WC_LEB_LEBT, .PWM_CTRL_CMODE, .PWM_CTRL_RLD,
  .PWM_CTRL_OUTMODE, .PWM_CTRL_STRETCH, .PWM_CTRL_TRIPLEN, .PWM_CTRL_DBGRUN, .PWM_CTRL_LINKOUT, .PWM_CTRL_FOLLOW,
  .PWM_CTRL_SH, .PWM_CTRL_SL, .PWM_CTRL_OWNER, .PWM_CTRL_FORWARD, .PWM_CTABH_EVT0], [.PWM_CTABH_ACT0,
  .PWM_CTABH_EVT1, .PWM_CTABH_ACT1, .PWM_CTABH_EVT2, .PWM_CTABH_ACT2, .PWM_CTABH_EVT3, .PWM_CTABH_ACT3,
  .PWM_CTABL_RULES01, .PWM_CTABL_RULES23, .PWM_MINPW_MINPW, .PWM_LOAD_LOADCNT, .PWM_LOAD_LOADDIR, .PWM_TCFG_T0DIR,
  .PWM_TCFG_T1DIR, .PWM_ERSEL_SEL, .RSP_CFG_ACT, .RSP_CFG_SCOPE, .RSP_CFG_LOCK, .RSP_CFG_IRQ, .RSP_MASK_MASK,
  .GSEQ_LEG_MA, .GSEQ_LEG_MB, .GSEQ_LEG_OUTER, .GSEQ_LEG_EN, .GSEQ_LEG_GAP, .GI_CH_BLANK, .GI_CH_FILT, .GI_CH_FLTEN,
  .GI_CH_RDYCHK, .GI_CH_RFILT, .GI_REF_REFRESH_W, .GI_REF_REFRESH_N, .LT_CFG_SRC, .LT_CFG_HEAD, .LT_CFG_DIR,
  .LT_CFG_DIV, .LT_PER_PER, .LT_MATCH_CNT, .LT_STAT_HEADMODE, .LE_CTRL_EN, .LE_CTRL_OVR_LIMIT, .LE_SNAP_BASE,
  .LE_SNAP_LEN, .BUR_CTRL_AC_EN, .BUR_CTRL_DC_EN, .BUR_CTRL_THEFT_EN, .BUR_LSTAT_LSEQ, .BUR_LSTAT_PEND, .BUR_THEFT,
  .BUR_TGAIN, .BUR_SRC_VA, .BUR_SRC_VB, .BUR_SRC_VC, .BUR_ISRC_IA, .BUR_ISRC_IB, .BUR_ISRC_IC, .BUR_CFG_INV,
  .BUR_CFG_F60, .BUR_UDIN, .BUR_INOM], [.BUR_PRAT, .BUR_EVT_SAG, .BUR_EVT_SWL, .BUR_EVT2_INT, .BUR_EVT2_HYS,
  .BUR_GV, .BUR_OV, .BUR_GI, .BUR_OI, .BUR_PH_PH, .BUR_LHDR_LSEQ, .BUR_LTS, .BUR_LGAP, .BUR_LAL, .BUR_LAH, .BUR_PUB,
  .HP_CTRL_MODE, .HP_CTRL_AUTOHO, .HP_LEASE_LEASE, .HP_LEASE_RPP, .HP_STAT_HOLDER, .HP_RING_BASE, .HP_TUTOR_OFS,
  .HP_TUTOR_LEN]]

/-- A PERIOD Bell: engines are released, overruns counted, snapshots taken (10 R257 to R263). -/
def Foot.periodBell : List Fld :=
  List.flatten [Foot.bell, Foot.shutdown, Foot.repair, [.PWM_STGDROP, .LT_COUNT, .LT_LAST, .LT_LEN_LEN, .LE_MAP_SEA,
  .LE_MAP_SEB, .LE_MAP_RET, .LE_MAP_SEA_RET, .LE_MAP_SEB_RET, .LE_SUBST_COPYA, .LE_SUBST_COPYB, .LE_STAT_RUNNING,
  .LE_STAT_OVRLIM, .LE_STAT_OVRCONS, .LE_STAT_OVRCNT, .LE_FLAGS_PC, .HP_STAT_HOREQ, .HP_STAT_TRANSFER,
  .HP_STAT_REFUSE, .HP_CNT_SNAPSKIP, .INT_LASTA]]

/-- A dictionary write of any entry (20 R471). -/
def Foot.entry : List Fld :=
  List.flatten [Foot.wingOff, Foot.shutdown, Foot.comparator, Foot.shadows, Foot.library, Foot.repair,
  [.BELL_CFG_CADENCE, .BELL_STAT_ROOT0_OK, .BELL_STAT_ROOT1_OK, .BELL_STAT_BAR_DONE, .BELL_STAT_BAR_TO,
  .BELL_COMP_COMP, .BELL_COMP_ORIGIN, .IOB_CHG_CHG, .OPEN_CFG_PERIOD, .OPEN_CFG_EN, .OPEN_SIG_SIG, .OPEN_PAIR_PAIR,
  .CT_STAT_HARV, .CT_STAT_CELLON, .CT_STAT_CHG, .CT_STAT_STFLT, .CT_STAT_COLD, .PWR_STORE_VMAX, .PWR_STORE_VFLOOR,
  .PWR_CELL_ON, .PWR_CELL_OFF, .PWR_CELL_LOW, .PWR_CELL_ILIM, .PWR_CELLQ, .GAUGE_CAP_LIM, .GAUGE_RSV,
  .GAUGE_COST_COST, .PWR_SW_PD1_ON, .PWR_SW_PD2_ON, .PWR_SW_PD1_PG, .PWR_SW_PD2_PG, .PWR_SW_PD1_OC, .PWR_SW_PD2_OC,
  .CLK_STAT_A_LK, .CLK_STAT_B_LK, .CLK_STAT_E_SW, .CLK_STAT_XIN_LOST, .CLK_EN_PLLA_EN, .CLK_EN_PLLB_EN,
  .CLK_SYNC_MODE, .CLK_SYNC_OUTSRC, .CLK_SYNC_OUTEN, .CLK_SYNC_REFUSED, .CLK_SYNC_MISSED, .CLK_SYNC_SLEW_INT,
  .SYNC_PER, .SYNC_OFS, .CLK_RATE, .TB_PPS_PHASE, .TB_PPS_EN, .RTC_SUB_FRAC, .RTC_SEC, .RTC_SECH_SECH,
  .CT_RCTRIM_EN, .SAR_CAL_ROT_EN, .SAR_CAL_ROT_STOP, .SAR_CAL_CALLATE, .SAR_CAL_MATCH_TOL, .SAR_CALSKIP_SKIP,
  .SAR_MAP_RETIRED], [.SAR_STAT_INJOVF, .SAR_STAT_TRIGLOST, .MOD_STAT_CLKEV, .MOD_DLEV_EV, .MOD_FDLY_FDLY,
  .MOD_GTHR_HI, .MOD_GTHR_LO, .MOD_GCFG_TRIPPED, .TG_STAT_SEEN, .TG_FORCE_FORCE, .WC_THR_LO, .WC_THR_HI,
  .PWM_STAT_SUPPR, .PWM_STAT_STRETCHED, .PWM_STAT_CARRYSAT, .PWM_STAT_LATE, .PWM_START, .PWM_INT_ISEL,
  .PWM_INT_PRESC, .PWM_INT_IEN, .PWM_INT_IFLAG, .PWM_DLSTAT_DL_LOST, .GI_DEFER_DEFER, .GI_FLTSEEN_SEEN,
  .GI_RDYLOST_LOST, .GI_SHOOT_SHOOT, .GI_MISC_SEQFB, .LT_STAT_FALLBACK, .LT_STAT_SKIPPED, .LE_MAP_SEA, .LE_MAP_SEB,
  .LE_MAP_RET, .LE_MAP_SEA_RET, .LE_MAP_SEB_RET, .LE_SUBST_COPYA, .LE_SUBST_COPYB, .LE_SUBST_IMGA, .LE_SUBST_IMGB,
  .LE_CMD_MAN, .LE_STAT_OVRLIM, .LE_STAT_FAULT, .BUR_LSTAT_PEND, .BUR_SAVE_INT, .BUR_STAT_SPANPEND,
  .BUR_STAT_TAMPER, .BUR_TQ, .HP_CTRL_BISTEN, .HP_STAT_STALE, .HP_STAT_LINKFLT, .HP_STAT_HOREQ, .HP_STAT_ARBDEG,
  .HP_STAT_REFUSE, .HP_STALE_STALE_MS, .HP_STALE_FRESH_MS, .HP_CNT_RENDISC, .HP_BIST_A_OK, .HP_BIST_B_OK,
  .HP_BIST_A_FAILS, .HP_BIST_B_FAILS, .HP_TKO_DUR], [.INT_CTRL_SCR_EN, .INT_CTRL_AUTOREP, .INT_CTRL_AUTORET,
  .INT_CTRL_CEVT, .INT_STAT_OVERDUE, .SAT_BANK_INSERV, .SAT_BANK_RETIRED, .AGE_CFG_WARN, .SCR_PASS_PASS,
  .LIB_CTRL_EN, .LIB_CTRL_XIP, .LIB_STAT_FULL, .LIB_STAT_UNCORR, .LIB_RET_REFRESH_DAYS, .LIB_RET_REF_BITS,
  .LIB_WL_WL_DIFF, .LIB_WL_FREE_MIN, .LIB_CRES_SAVES, .LIB_CRES_FINALS, .LIB_CRES_FPT, .SEC_STAT_LOCK,
  .SEC_STAT_MAPDIFF, .SEC_STAT_NOIMG, .SEC_LOCK_LOCK, .SEC_BLK_BLK, .SEC_BLK_PORT, .SEC_SATL, .SEC_SATH,
  .SEC_LIB_AREA, .SEC_CMDA, .SEC_CMDST_BUSY, .SEC_CMDST_RESULT, .SEC_PREF_SLOT, .PF_COMST_ARMED, .PF_COMST_RESULT,
  .PORT_EN_EN, .PORT_FLT_FLT, .ETH_MDIO_PHYAD, .ETH_MDIO_REGAD, .ETH_MDIO_WRITE, .ETH_MDIO_GO, .ETH_MDIO_DATA,
  .ETH_CFG_SPEED, .ETH_CFG_ANEG, .ETH_CFG_HDX, .ETH_CFG_PROMISC, .ETH_MACL, .ETH_MACH_MAC, .ETH_STAT_LINK,
  .CAN_CFG_FDEN, .CAN_CFG_BRSEN, .CAN_CFG_LOOP, .CAN_CFG_LISTEN, .CAN_CFG_ABOREC, .CAN_NBT_BRP, .CAN_NBT_TSEG1,
  .CAN_NBT_TSEG2, .CAN_NBT_SJW, .CAN_DBT_BRP, .CAN_DBT_TSEG1], [.CAN_DBT_TSEG2, .CAN_DBT_SJW, .CAN_DBT_TDC,
  .CAN_DBT_TDCO, .CAN_STAT_TEC, .CAN_STAT_REC, .CAN_STAT_STATE, .CAN_FLT_ID, .CAN_FLT_IDE, .CAN_FLT_EN,
  .CAN_MSK_MASK, .PEER_CFG_POS, .PEER_CFG_TRAINED, .CAP_CFG_SOURCE, .CAP_CFG_DIV, .RING_BASE, .RING_CFG_SIZE_L2,
  .RING_CFG_OWNER, .RING_CFG_EN, .RING_CFG_IRQ, .RING_TAIL10B_TAIL, .TUT_TKOV_ADDR, .TUT_MSIP_MSIP, .TUT_MTCMPL,
  .TUT_MTCMPH, .TUT_DBG_SEC_EN, .TUT_DBG_NS_EN, .TUT_DBG_LEHALT, .TUT_IEN, .TUT_THR_THR, .TUT_CLAIM_SRC,
  .TUT_IPRIO_PRIO, .GW_CTRL_OP, .GW_CTRL_IEN, .GW_ENTRY_SUB, .GW_ENTRY_INDEX, .GW_BUF, .GW_OFS, .GW_LEN_LEN,
  .GW_EPOCH]]

/-- The fields that RESET_END leaves: those of the supplies that stay, the Caretaker, the Prefect and the fuses. -/
def Foot.beyondReset : List Fld :=
  [.FUSE_VARIANT_VARIANT, .FUSE_VARIANT_STEP, .FUSE_RES_PM_CNT, .FUSE_RES_WC_CNT, .FUSE_RES_MUXIN, .FUSE_RES_MD_CNT,
  .FUSE_RES_MCLK_CNT, .FUSE_RES_MPPT_CNT, .FUSE_RES_THEFT, .FUSE_RES_PREFECT, .FUSE_RES_REFTRIM, .STRAP_BOOTSEL,
  .IOB_STAT_VIO1, .IOB_STAT_VIO2, .IOB_STAT_VIO3, .IOB_STAT_VIO4, .CT_STAT_MAIN, .CT_STAT_HARV, .CT_STAT_CELLP,
  .CT_STAT_CELLON, .CT_STAT_CHG, .CT_STAT_SETFLT, .CT_STAT_CELLLOW, .CT_STAT_STFLT, .CT_STAT_COLD, .CT_STAT_REFUSED,
  .CT_STAT_FINAL, .CT_STAT_LIBOWN, .PWR_STORE_VMAX, .PWR_STORE_VFLOOR, .PWR_CELL_ON, .PWR_CELL_OFF, .PWR_CELL_LOW,
  .PWR_CELL_ILIM, .PWR_CELLQ, .GAUGE_V_VSTORE, .GAUGE_V_VCELL, .GAUGE_CAP_CAP, .GAUGE_CAP_LIM, .GAUGE_E, .GAUGE_RSV,
  .GAUGE_COST_COST, .PWR_MON_VCORE_OK, .PWR_MON_VANA_OK, .PWR_MON_VPF_OK, .PWR_MON_DROOPS, .CLK_STAT_XIN_OK,
  .CLK_STAT_E0_LK, .CLK_STAT_E1_LK, .CLK_STAT_A_LK, .CLK_STAT_B_LK, .CLK_STAT_C_LK, .CLK_STAT_N_LK,
  .CLK_STAT_XIN_LOST, .RTC_SUB_FRAC, .RTC_SUB_RCSRC, .RTC_SEC, .RTC_SECH_SECH, .CT_RCTRIM_EN, .CT_RCTRIM_TRIMMED,
  .MOD_THEFT_GRP, .MOD_THEFT_CHSEL, .BUR_CTRL_THEFT_EN, .BUR_STAT_RESTORED, .BUR_STAT_SPANPEND, .BUR_THEFT,
  .BUR_TSKIP, .BUR_TQ, .BUR_TGAIN, .HP_SEQL, .HP_SEQH, .REPC_SHIP_TOTAL, .REPC_REM_FLOOR, .LIB_STAT_OCT,
  .LIB_CRES_SAVES, .LIB_CRES_FINALS, .LIB_CRES_FPT, .SEC_FUSE_SVN, .SEC_FUSE_OWNERS, .SEC_FUSE_VENDOR_OFF,
  .SEC_PREF_SLOT, .PF_STAT_STATE, .PF_STAT_SEALOK, .PF_STAT_SPRA, .PF_STAT_SPRB, .PF_STAT_XTALSKIP, .PF_STAT_FCAUSE,
  .PF_CFG_CFGSW, .PF_CFG_COMSET, .PF_CFG_SLOTS, .PF_CFG_SWBAD, .PF_CFG_CFGCHG, .PF_HASH, .PF_CNT_DEMANDS,
  .PF_CNT_TESTFAIL, .PF_CNT_FAULTS, .PF_LASTT, .PF_COMST_ARMED, .PF_COMST_RESULT, .RING_EPOCH]

/-- The register fields that a command may change; of RESET_END, which changes all but a few, see mayWrite. -/
def Instr.fields (c : Instr) : List Fld :=
  match c with
    | .powerOn | .rstnLow | .softwareResetRequest => Foot.reset
    | .vcoreDroop _ => List.flatten [Foot.reset, [.CT_STAT_MAIN, .CT_STAT_CHG, .PWR_MON_VCORE_OK, .PWR_MON_VANA_OK,
    .PWR_MON_DROOPS]]
    | .resetPhaseAdvance _ _ => [.FUSE_RES_PM_CNT, .FUSE_RES_WC_CNT, .FUSE_RES_MUXIN, .FUSE_RES_MD_CNT,
    .FUSE_RES_MCLK_CNT, .FUSE_RES_MPPT_CNT, .FUSE_RES_THEFT, .FUSE_RES_PREFECT, .FUSE_RES_REFTRIM, .STRAP_BOOTSEL,
    .CLK_STAT_XIN_OK, .CLK_STAT_E0_LK, .CLK_STAT_E1_LK, .CLK_STAT_A_LK, .CLK_STAT_B_LK, .CLK_STAT_C_LK,
    .CLK_STAT_N_LK, .REPC_SHIP_TOTAL, .REPC_REM_FLOOR]
    | .resetEnd => []
    | .pllRetryReset => Foot.reset
    | .handshakeStall _ _ _ _ => List.flatten [Foot.engineRead, Foot.wingOff, [.BELL_STAT_ROOT0_OK,
    .BELL_STAT_ROOT1_OK, .CH_STALL, .SAR_CAL_ROT_STOP, .SAR_MAP_RETIRED, .HP_STAT_STALE, .HP_STAT_LINKFLT,
    .HP_STAT_ARBDEG, .HP_STAT_REFUSE, .SAT_BANK_INSERV, .SAT_BANK_RETIRED]]
    | .sampleWordOffer _ _ _ _ _ _ _ => Foot.word
    | .bellCopyDivergence _ => List.flatten [Foot.repair, [.BELL_STAT_ROOT0_OK, .BELL_STAT_ROOT1_OK,
    .BELL_DIV_DIVERGE]]
    | .bellReqApply _ _ | .bellReqJointApply _ _ _ | .bellReqLatch _ _ | .bellReqBarrier _ _ =>
    List.flatten [Foot.violation, [.BUR_LSTAT_PEND]]
    | .bellAlone => Foot.bell
    | .barrierComplete => List.flatten [Foot.gateway, [.BELL_STAT_BAR_DONE, .BELL_STAT_BAR_ID, .BELL_BART]]
    | .barrierTimeout _ => List.flatten [Foot.gateway, Foot.events, [.BELL_STAT_BAR_TO, .BELL_STAT_BAR_ID,
    .BELL_MISS0, .BELL_MISS1]]
    | .periodBell => Foot.periodBell
    | .headEvent _ _ => List.flatten [Foot.periodBell, [.LT_STAT_SKIPPED]]
    | .lessonFallback => List.flatten [Foot.periodBell, [.LT_STAT_FALLBACK]]
    | .openBallTest _ _ => List.flatten [Foot.spares, [.OPEN_SIG_SIG]]
    | .supplyBallOpen _ _ => List.flatten [Foot.spares, [.OPEN_PAIR_PAIR, .OPEN_GRP, .OPEN_UNT_PAIR_U,
    .OPEN_UNT_GRP_U]]
    | .ioBankChange _ _ => List.flatten [Foot.events, [.IOB_STAT_VIO1, .IOB_STAT_VIO2, .IOB_STAT_VIO3, .IOB_STAT_VIO4,
    .IOB_CHG_CHG]]
    | .mainSupplyGood => [.CT_STAT_MAIN, .CT_STAT_CHG, .PWR_MON_VCORE_OK, .PWR_MON_VANA_OK, .BUR_TSKIP]
    | .vanaFail => List.flatten [Foot.reset, [.CT_STAT_MAIN, .CT_STAT_CHG, .PWR_MON_VANA_OK, .PWR_MON_DROOPS]]
    | .vpfGood => [.PF_STAT_STATE, .PF_STAT_SEALOK, .PF_STAT_XTALSKIP, .PF_STAT_FCAUSE, .PF_CFG_CFGSW, .PF_CFG_SWBAD,
    .PF_CFG_CFGCHG, .PF_HASH, .PF_CNT_DEMANDS, .PF_CNT_TESTFAIL, .PF_CNT_FAULTS, .PF_LASTT, .PF_COMST_ARMED,
    .PF_COMST_RESULT]
    | .vpfFail => List.flatten [Foot.pads, [.PF_STAT_STATE, .PF_CFG_COMSET, .PF_CFG_SLOTS]]
    | .caretakerStart | .caretakerStop => Foot.caretaker
    | .storeFault => List.flatten [Foot.events, [.CT_STAT_STFLT]]
    | .pwrSwWrite _ _ _ _ _ => List.flatten [Foot.spares, Foot.wings, Foot.violation, [.PWR_SW_PD1_ON, .PWR_SW_PD2_ON,
    .PWR_SW_PD1_PG, .PWR_SW_PD2_PG, .PWR_SW_PD1_OC, .PWR_SW_PD2_OC, .LE_STAT_RUNNING]]
    | .wingPowerGood _ => List.flatten [Foot.wings, [.PWR_SW_PD1_PG, .PWR_SW_PD2_PG]]
    | .switchOvercurrent _ => List.flatten [Foot.reset, Foot.spares, Foot.wings, [.PWR_SW_PD1_ON, .PWR_SW_PD2_ON,
    .PWR_SW_PD1_PG, .PWR_SW_PD2_PG, .PWR_SW_PD1_OC, .PWR_SW_PD2_OC, .PWR_MON_DROOPS]]
    | .harvestStateChange _ _ => [.CT_STAT_HARV, .CT_STAT_CELLON, .CT_STAT_CHG, .CT_STAT_SETFLT]
    | .cellPathOn | .cellPathOff => [.CT_STAT_CELLON]
    | .cellRemoved => List.flatten [Foot.events, [.CT_STAT_CELLP, .CT_STAT_CELLON]]
    | .cellInserted => [.CT_STAT_CELLP]
    | .storeCeilingReached => [.CT_STAT_HARV, .CT_STAT_CELLON, .CT_STAT_CHG]
    | .storeCapMeasured _ => [.GAUGE_CAP_CAP]
    | .pwrCellWrite _ _ _ _ _ => List.flatten [Foot.violation, [.PWR_CELL_ON, .PWR_CELL_OFF, .PWR_CELL_LOW,
    .PWR_CELL_ILIM]]
    | .gaugeSample _ _ _ => List.flatten [Foot.library, [.CT_STAT_HARV, .CT_STAT_CELLON, .CT_STAT_CHG,
    .CT_STAT_CELLLOW, .CT_STAT_STFLT, .PWR_CELLQ, .GAUGE_V_VSTORE, .GAUGE_V_VCELL, .GAUGE_E]]
    | .admissionRequest _ _ | .burstComplete => Foot.library
    | .caretakerTakePort => [.CT_STAT_LIBOWN, .LIB_STAT_OCT]
    | .caretakerReleasePort => [.CT_STAT_LIBOWN]
    | .vanaGood => [.CT_STAT_MAIN, .CT_STAT_CHG, .PWR_MON_VANA_OK, .BUR_TSKIP]
    | .pllLock _ => List.flatten [Foot.wings, [.CLK_STAT_E0_LK, .CLK_STAT_E1_LK, .CLK_STAT_A_LK, .CLK_STAT_B_LK,
    .CLK_STAT_C_LK, .CLK_STAT_N_LK, .GI_MISC_SEQFB]]
    | .pllUnlock _ => List.flatten [Foot.pads, Foot.gateway, Foot.spares, [.CLK_STAT_E0_LK, .CLK_STAT_E1_LK,
    .CLK_STAT_E_SEL, .CLK_STAT_A_LK, .CLK_STAT_B_LK, .CLK_STAT_C_LK, .CLK_STAT_N_LK, .CLK_STAT_E_SW, .SAR_CAL_FGCAL,
    .SAR_CALPOS_PHASE, .SAR_MAP_SUBSLOT, .SAR_STAT_INJQ, .PWM_STGDROP, .LE_STAT_RUNNING, .INT_LASTA]]
    | .clkEnWrite _ _ _ => List.flatten [Foot.violation, [.CLK_STAT_A_LK, .CLK_STAT_B_LK, .CLK_EN_PLLA_EN,
    .CLK_EN_PLLB_EN]]
    | .xinLost => List.flatten [Foot.pads, [.CLK_STAT_XIN_OK, .CLK_STAT_XIN_LOST]]
    | .tbLoRead _ => List.flatten [Foot.violation, [.TB_HI]]
    | .ppsPulse | .ppsPulseEnd => []
    | .phaseStep => [.SYNC_ERR_ERR]
    | .syncInEdge _ => [.CLK_SYNC_MODE, .CLK_SYNC_REFUSED, .SYNC_ERR_ERR]
    | .syncMissed => List.flatten [Foot.events, [.CLK_SYNC_MISSED]]
    | .syncOutPulse => []
    | .rcTrim => [.CT_RCTRIM_TRIMMED]
    | .rtcCrystalStop => [.RTC_SUB_RCSRC, .CT_RCTRIM_TRIMMED]
    | .rtcCrystalStart => [.RTC_SUB_RCSRC]
    | .rtcSecond => List.flatten [Foot.library, [.RTC_SUB_FRAC, .SAR_CSTAT_AGE, .BUR_TSKIP]]
    | .rtcSecWrite _ _ => List.flatten [Foot.library, Foot.violation, [.RTC_SUB_FRAC, .BUR_STAT_SPANPEND]]
    | .rtcSubRead _ => List.flatten [Foot.violation, [.RTC_SEC, .RTC_SECH_SECH]]
    | .sarBurstStart _ => [.SAR_STAT_INJQ, .SAR_STAT_TRIGLOST]
    | .sarSwtrigWrite _ _ => List.flatten [Foot.violation, [.SAR_STAT_INJQ, .SAR_STAT_TRIGLOST]]
    | .sarFreeRunTrigger _ => [.SAR_STAT_INJQ, .SAR_STAT_TRIGLOST]
    | .sarConversionComplete _ _ _ _ => List.flatten [Foot.word, Foot.repair, Foot.substitute, [.SAR_CAL_ROT_STOP,
    .SAR_MAP_RETIRED, .SAR_STAT_INJQ, .SAR_STAT_INVALID, .SAR_LAST, .SAR_CSTAT_OK, .SAR_CSTAT_FAIL, .SAR_CSTAT_FAILS]]
    | .sarInjWrite _ _ _ _ => List.flatten [Foot.violation, [.SAR_STAT_INJQ, .SAR_STAT_INJOVF]]
    | .refReadySet => [.SAR_REF_REF_READY, .SAR_REF_EXT_RANGE, .SAR_CAL_FGCAL]
    | .foregroundCalComplete => [.SAR_CAL_FGCAL, .SAR_CALPOS_PHASE, .SAR_STAT_INJQ]
    | .backgroundStepStart => [.SAR_CAL_CALLATE, .SAR_CALPOS_STEP, .SAR_CALPOS_PHASE]
    | .substEntryOpportunity => Foot.substitute
    | .sliceCalComplete _ _ _ _ => List.flatten [Foot.repair, [.SAR_CAL_ROT_STOP, .SAR_CALPOS_STEP, .SAR_CALPOS_PHASE,
    .SAR_CALPOS_ROUND, .SAR_MAP_SUBSLOT, .SAR_MAP_RETIRED, .SAR_COFS_OFS, .SAR_CGAIN_GAIN, .SAR_CSTAT_OK,
    .SAR_CSTAT_FAIL, .SAR_CSTAT_FAILS, .SAR_CSTAT_AGE]]
    | .substExitOpportunity => [.SAR_CALPOS_STEP, .SAR_CALPOS_PHASE, .SAR_MAP_SUBSLOT]
    | .vrefpOutOfRange => List.flatten [Foot.substitute, [.SAR_REF_REF_READY, .SAR_REF_EXT_RANGE]]
    | .modClockLost _ => List.flatten [Foot.pads, [.MOD_STAT_CLKLOST, .MOD_STAT_CLKEV, .MOD_GCFG_TRIPPED,
    .MOD_STAT_GTRIPS, .TG_STAT_ACTIVE, .PWM_STAT_TRIPPED, .PWM_STAT_TRIPL]]
    | .modDataLost _ => List.flatten [Foot.pads, [.MOD_DLOST_LOST, .MOD_DLEV_EV, .MOD_GCFG_TRIPPED, .MOD_STAT_INVALID,
    .MOD_STAT_GTRIPS, .MOD_LAST, .TG_STAT_ACTIVE, .PWM_STAT_TRIPPED, .PWM_STAT_TRIPL]]
    | .modLossEnd _ _ => List.flatten [Foot.pads, [.MOD_STAT_CLKLOST, .MOD_DLOST_LOST, .MOD_DLEV_EV,
    .MOD_GCFG_TRIPPED, .MOD_STAT_INVALID, .MOD_STAT_GTRIPS, .MOD_LAST, .TG_STAT_ACTIVE, .PWM_STAT_TRIPPED,
    .PWM_STAT_TRIPL]]
    | .modDecimation _ _ _ => List.flatten [Foot.pads, [.MOD_DLOST_LOST, .MOD_DLEV_EV, .MOD_GCFG_TRIPPED,
    .MOD_STAT_INVALID, .MOD_STAT_GTRIPS, .MOD_LAST, .TG_STAT_ACTIVE, .PWM_STAT_TRIPPED, .PWM_STAT_TRIPL]]
    | .modFdlyWrite _ _ _ => List.flatten [Foot.violation, [.MOD_FDLY_FDLY]]
    | .guardTripAssert _ _ | .guardSettleClear _ _ => List.flatten [Foot.pads, [.MOD_DLOST_LOST, .MOD_DLEV_EV,
    .MOD_GCFG_TRIPPED, .MOD_STAT_INVALID, .MOD_STAT_GTRIPS, .MOD_LAST, .TG_STAT_ACTIVE, .PWM_STAT_TRIPPED,
    .PWM_STAT_TRIPL]]
    | .modGuardClr _ _ _ => List.flatten [Foot.pads, [.MOD_GCFG_TRIPPED, .TG_STAT_ACTIVE, .PWM_STAT_TRIPPED,
    .PWM_STAT_TRIPL]]
    | .comparatorLatchSet _ _ | .lebBlankingEnd _ _ | .wcClrWrite _ _ _ | .comparatorInitialClear _ _ =>
    Foot.comparator
    | .wcThrWrite _ _ _ _ => List.flatten [Foot.comparator, [.WC_THR_LO, .WC_THR_HI]]
    | .tripGroupFirstAssert _ => Foot.trips
    | .pwmZeroEvent _ _ | .pwmPeriodEvent _ _ => Foot.period
    | .pwmTriggerCompare _ _ _ => [.PWM_STAT_DIR, .PWM_CNT_CNT, .PWM_INT_ICNT, .PWM_INT_IFLAG, .TUT_IPEND]
    | .pwmCompareMatch _ _ _ => List.flatten [Foot.word, [.PWM_STAT_DIR, .PWM_STAT_SUPPR, .PWM_STAT_STRETCHED,
    .PWM_STAT_CARRYSAT, .PWM_STAT_SUPCNT, .PWM_CNT_CNT, .PWM_CARRY_CARRY, .PWM_INT_ICNT, .PWM_INT_IFLAG]]
    | .turnOnDelayExpiry _ _ => Foot.pads
    | .pwmShadowLowWrite _ _ _ _ => Foot.violation
    | .pwmShadowHighWrite _ _ _ _ => List.flatten [Foot.shadows, Foot.violation, [.PWM_STAT_LATE]]
    | .stagedMove => List.flatten [Foot.shadows, [.PWM_RUN_OUTEN, .PWM_STAT_LATE, .PWM_STGDROP]]
    | .delayLineLock => [.PWM_DLSTAT_DL_LOCK]
    | .delayLineLost => List.flatten [Foot.events, [.PWM_DLSTAT_DL_LOCK, .PWM_DLSTAT_DL_LOST]]
    | .safeLevelResumeCheck _ => Foot.pads
    | .pwmOutenWrite _ _ _ => List.flatten [Foot.pads, [.PWM_RUN_OUTEN, .GI_DEFER_DEFER]]
    | .pwmCntEnWrite _ _ _ => Foot.moduleStop
    | .pwmArmWrite _ _ _ => List.flatten [Foot.violation, [.PWM_RUN_ARM]]
    | .pwmGstartWrite _ _ => Foot.violation
    | .groupStartExecute => Foot.counter
    | .pwmTimedStart _ => List.flatten [Foot.counter, [.PWM_RUN_ARM]]
    | .pwmLinkPulse _ => [.PWM_STAT_DIR, .PWM_CNT_CNT]
    | .pwmIntWrite _ _ _ _ _ _ => List.flatten [Foot.violation, [.PWM_INT_ISEL, .PWM_INT_PRESC, .PWM_INT_IEN,
    .PWM_INT_ICNT, .PWM_INT_IFLAG]]
    | .fltQualified _ _ => List.flatten [Foot.shutdown, [.GI_FLTLVL_LOW, .GI_FLTSEEN_SEEN, .GI_FTS, .GI_CNT_FLTCNT]]
    | .fltBlankingEnd _ => List.flatten [Foot.shutdown, [.GI_FLTSEEN_SEEN, .GI_FTS, .GI_CNT_FLTCNT]]
    | .rdyLost _ => List.flatten [Foot.shutdown, [.GI_RDYLVL_HIGH, .GI_RDYLOST_LOST]]
    | .shootThrough _ => List.flatten [Foot.shutdown, [.GI_SHOOT_SHOOT, .GI_CNT_SHOOTCNT]]
    | .giSwtrigWrite _ _ => Foot.shutdown
    | .sequencerGapEnd _ => List.flatten [Foot.pads, Foot.counter, [.PWM_RUN_OUTEN, .PWM_RUN_ARM, .GI_SHUT_BUSY,
    .GI_MISC_SEQFB]]
    | .refreshInsert _ => List.flatten [Foot.word, [.GI_CNT_REFCNT]]
    | .refreshPhaseEnd _ => Foot.word
    | .fltQualifiedHigh _ => [.GI_FLTLVL_LOW]
    | .rdyQualifiedHigh _ => [.GI_RDYLVL_HIGH]
    | .lessonRunStart _ => [.LE_STAT_RUNNING]
    | .nop _ | .ldk _ _ _ => []
    | .ld _ _ _ _ | .st _ _ _ _ => Foot.engineRead
    | .lds _ _ _ _ => List.flatten [Foot.engineRead, [.LE_STAT_INVCNT]]
    | .wait _ _ _ _ | .waitDeadline _ => []
    | .inj _ _ _ _ => List.flatten [Foot.events, [.SAR_STAT_INJQ, .SAR_STAT_INJOVF]]
    | .stpc _ _ _ _ | .stpd _ _ _ _ | .stpp _ _ _ _ _ | .stpe _ _ _ _ => Foot.engineRead
    | .add _ _ _ _ | .sub _ _ _ _ | .mul _ _ _ _ | .mac _ _ _ _ _ | .div _ _ _ _ | .sqrt _ _ _ | .abs _ _ _ |
    .sincos _ _ _ => []
    | .pi _ _ _ _ _ | .pr _ _ _ _ _ | .biq _ _ _ _ => Foot.engineRead
    | .clarke _ _ _ _ _ | .park _ _ _ _ _ | .ipark _ _ _ _ _ => []
    | .sogi _ _ _ _ _ | .ddsrf _ _ _ _ _ _ | .pll _ _ _ _ => Foot.engineRead
    | .lim _ _ _ _ _ => []
    | .rlim _ _ _ _ | .lut _ _ _ _ => Foot.engineRead
    | .cmpf _ _ _ _ _ | .clim _ _ _ _ _ _ => []
    | .prof _ _ _ _ | .ramp _ _ _ _ _ | .ferr _ _ _ _ | .preset _ _ _ _ _ => Foot.engineRead
    | .skip _ _ _ _ | .evry _ _ _ _ | .evt _ _ _ _ => []
    | .endRun _ => Foot.engineEnd
    | .engineDataWrite _ _ _ _ => List.flatten [Foot.violation, [.INT_LASTA]]
    | .engineDataUpdate _ _ _ => List.flatten [Foot.events, [.INT_LASTA]]
    | .leRetireWrite _ _ => Foot.violation
    | .substituteCopyComplete _ _ => List.flatten [Foot.events, [.LE_SUBST_COPYA, .LE_SUBST_COPYB, .LE_SUBST_IMGA,
    .LE_SUBST_IMGB]]
    | .leSubgoWrite _ _ _ => List.flatten [Foot.violation, [.LE_SUBST_COPYA, .LE_SUBST_COPYB]]
    | .substituteSelfTest _ _ => List.flatten [Foot.repair, [.LE_MAP_SEA_RET, .LE_MAP_SEB_RET]]
    | .heldLowHalfTimeout _ => List.flatten [Foot.events, [.INT_LASTA]]
    | .gridCommandSync | .gridCommandRun | .gridCommandClearTrip | .islandingDisarm | .islandingArm |
    .islandingClearTrip | .mpptTraceRequest _ | .bursarPair _ _ => []
    | .meteringCycleEnd _ _ => [.BUR_PUB]
    | .halfCycleBoundary _ => Foot.library
    | .burLatchWrite _ _ => List.flatten [Foot.violation, [.BUR_LSTAT_PEND]]
    | .burSaveNowWrite _ => List.flatten [Foot.library, Foot.violation]
    | .bursarRestore => [.BUR_STAT_RESTORED, .BUR_STAT_SPANPEND, .BUR_TQ]
    | .theftWindowClock => []
    | .theftWindowEnd _ => List.flatten [Foot.library, [.BUR_STAT_TAMPER, .BUR_TQ]]
    | .theftClrWrite _ => List.flatten [Foot.violation, [.BUR_TQ]]
    | .leaseRenew _ => List.flatten [Foot.violation, Foot.leases, [.HP_CNT_RENDISC]]
    | .leaseExpiry _ => Foot.wingOff
    | .voterDisagreement _ _ => List.flatten [Foot.wingOff, Foot.repair, [.HP_STAT_ARBDEG]]
    | .standby _ _ => List.flatten [Foot.spares, Foot.wings, Foot.violation, [.CLK_STAT_A_LK, .CLK_STAT_B_LK,
    .HP_BIST_A_OK, .HP_BIST_B_OK, .HP_BIST_A_FAILS, .HP_BIST_B_FAILS]]
    | .wake _ => List.flatten [Foot.violation, Foot.wings]
    | .cold _ => List.flatten [Foot.violation, Foot.wings, [.CLK_STAT_A_LK, .CLK_STAT_B_LK, .HP_STAT_TRANSFER,
    .HP_STAT_REFUSE]]
    | .ready _ => List.flatten [Foot.violation, Foot.wings, [.HP_STAT_REFUSE]]
    | .handover _ => List.flatten [Foot.violation, Foot.leases, [.HP_STAT_TRANSFER, .HP_STAT_REFUSE]]
    | .cancel _ => List.flatten [Foot.violation, Foot.wings, [.HP_STAT_TRANSFER]]
    | .release _ => Foot.wingOff
    | .acquire _ => List.flatten [Foot.pads, Foot.gateway, Foot.wings, Foot.leases, [.SAR_CAL_FGCAL,
    .SAR_CALPOS_PHASE, .SAR_MAP_SUBSLOT, .SAR_STAT_INJQ, .PWM_RUN_OUTEN, .PWM_STGDROP, .LE_STAT_RUNNING,
    .HP_STAT_HOLDER, .INT_LASTA]]
    | .coldSelfTestWindow _ _ => List.flatten [Foot.spares, Foot.wings, [.HP_BIST_A_OK, .HP_BIST_B_OK,
    .HP_BIST_A_FAILS, .HP_BIST_B_FAILS]]
    | .snapshotWriteComplete => List.flatten [Foot.events, [.HP_STAT_STALE, .HP_SEQL, .HP_AGE]]
    | .takeoverSlotChosen => List.flatten [Foot.events, [.HP_TKO_AGE]]
    | .takeoverRestoreComplete => []
    | .hpRearmWrite _ _ => List.flatten [Foot.violation, [.HP_TKO_DUR]]
    | .handoverCopyComplete => List.flatten [Foot.pads, Foot.wings, Foot.leases, [.HP_STAT_HOLDER, .HP_STAT_TRANSFER,
    .HP_CNT_HANDO]]
    | .linkStale _ => List.flatten [Foot.events, [.HP_STAT_STALE, .HP_STAT_LINKFLT, .HP_STAT_TRANSFER,
    .HP_STAT_REFUSE]]
    | .scrubRead _ _ _ => List.flatten [Foot.repair, [.SAT_BANK_INSERV, .SAT_BANK_RETIRED, .SCR_POS_WORD,
    .SCR_CNT_CORR, .SCR_CNT_UNCORR, .SCR_CNT_HARD, .SCR_DONE, .INT_LASTC]]
    | .scrubPassOverdue _ => List.flatten [Foot.events, [.INT_STAT_OVERDUE]]
    | .uncorrectableRead _ _ _ _ => Foot.poison
    | .satRetWrite _ _ _ => List.flatten [Foot.violation, [.INT_STAT_RECFULL, .INT_STAT_FLOOR, .SAT_BANK_INSERV,
    .SAT_BANK_RETIRED, .REP_CNT_USED]]
    | .repLoadWrite _ _ => List.flatten [Foot.spares, Foot.violation, [.BELL_STAT_ROOT0_OK, .BELL_STAT_ROOT1_OK,
    .SAR_CAL_ROT_STOP, .SAR_MAP_SUBSLOT, .SAR_MAP_RETIRED, .LE_MAP_SEA, .LE_MAP_SEB, .LE_MAP_RET, .LE_MAP_SEA_RET,
    .LE_MAP_SEB_RET, .HP_STAT_ARBDEG, .SAT_BANK_INSERV, .SAT_BANK_RETIRED, .REP_CNT_USED]]
    | .ageingMeasure _ => List.flatten [Foot.events, [.AGE_SLOW, .AGE_WARN]]
    | .libraryInit _ _ _ _ _ _ _ _ => List.flatten [Foot.entry, [.LIB_STAT_READY, .LIB_STAT_NAND, .LIB_GEOM_PAGE_L2,
    .LIB_GEOM_ERASE_L2, .LIB_GEOM_BLOCKS, .LIB_CNT1_BAD, .LIB_CNT1_SPARE, .LIB_EMAX]]
    | .libAppendRecord _ => Foot.library
    | .libReadRecord _ _ | .libReadNewest _ _ => List.flatten [Foot.library, [.LIB_STAT_FULL, .LIB_STAT_UNCORR,
    .LIB_CNT0_CORRCW, .LIB_CNT0_UNCORR, .LIB_CNT0_BADNEW, .LIB_CNT1_BAD, .LIB_CNT1_SPARE, .LIB_EMAX]]
    | .flashOperationComplete _ => List.flatten [Foot.library, [.LIB_STAT_FULL, .LIB_CNT0_BADNEW, .LIB_CNT1_BAD,
    .LIB_CNT1_SPARE, .LIB_EMAX]]
    | .recordCommit => List.flatten [Foot.library, [.BUR_LASTSV, .LIB_STAT_REFRESHING, .LIB_STAT_FULL, .LIB_CNT1_BAD,
    .LIB_CNT1_SPARE, .LIB_REF, .LIB_EMAX]]
    | .libraryRefresh => List.flatten [Foot.library, [.LIB_STAT_REFRESHING, .LIB_STAT_FULL, .LIB_CNT1_BAD,
    .LIB_CNT1_SPARE, .LIB_EMAX]]
    | .wearLevelRelocate => Foot.library
    | .bootImageVerify _ => List.flatten [Foot.events, [.SEC_STAT_LOCK, .SEC_STAT_MAPDIFF, .SEC_STAT_NOIMG,
    .SEC_STAT_BSBAD, .SEC_STAT_SLOTA, .SEC_STAT_SLOTB, .SEC_LOCK_LOCK, .SEC_BLK_BLK, .SEC_BLK_PORT, .SEC_SATL,
    .SEC_SATH, .SEC_LIB_AREA, .TUT_ID_NS, .TUT_TKOV_ADDR]]
    | .identityKeyDerive _ => List.flatten [Foot.events, [.SEC_STAT_PUF_OK]]
    | .worldViolation _ _ _ => List.flatten [Foot.violation, Foot.halt]
    | .enrol _ | .transfer _ | .vendorOff _ | .advance _ => List.flatten [Foot.violation, [.SEC_CMDST_BUSY,
    .SEC_CMDST_RESULT]]
    | .secCommandComplete => List.flatten [Foot.events, [.SEC_FUSE_SVN, .SEC_FUSE_OWNERS, .SEC_FUSE_VENDOR_OFF,
    .SEC_CMDST_BUSY, .SEC_CMDST_RESULT]]
    | .attestationRequest _ | .attestationComplete | .testPulseStart _ | .testPulseEnd _ => []
    | .testPulseCheck _ _ _ _ => List.flatten [Foot.events, [.PF_STAT_STATE, .PF_STAT_SPRA, .PF_STAT_SPRB,
    .PF_STAT_FCAUSE, .PF_CNT_TESTFAIL, .PF_CNT_FAULTS]]
    | .filteredDemand _ => [.PF_STAT_STATE, .PF_STAT_SPRA, .PF_STAT_SPRB, .PF_CNT_DEMANDS]
    | .discrepancyFault _ | .readbackFault _ => List.flatten [Foot.events, [.PF_STAT_STATE, .PF_STAT_FCAUSE,
    .PF_CNT_TESTFAIL, .PF_CNT_FAULTS]]
    | .prefectClockCheck _ => List.flatten [Foot.events, [.PF_STAT_STATE, .PF_STAT_XTALSKIP, .PF_STAT_FCAUSE,
    .PF_CNT_TESTFAIL, .PF_CNT_FAULTS]]
    | .prefectFaultClear => [.PF_STAT_STATE, .PF_STAT_FCAUSE]
    | .prefectNotice => List.flatten [Foot.pads, [.PWM_RUN_OUTEN, .GI_LOCKED_LOCK, .PF_LASTT]]
    | .prefectForce => Foot.pads
    | .prefectReleaseReady => [.PF_STAT_STATE, .PF_STAT_SPRA, .PF_STAT_SPRB]
    | .pfRelWrite _ _ => Foot.violation
    | .forceRelease => List.flatten [Foot.events, [.PF_STAT_STATE]]
    | .cfgswRead _ => [.PF_CFG_CFGSW, .PF_CFG_SWBAD]
    | .cfgswChange _ => List.flatten [Foot.events, [.PF_CFG_CFGCHG, .PF_COMST_ARMED]]
    | .prefectSetDelivery => List.flatten [Foot.pads, [.PF_STAT_STATE, .PF_HASH]]
    | .sealOpened | .sealClosed => List.flatten [Foot.events, [.PF_STAT_SEALOK]]
    | .pfCommitWrite _ _ => List.flatten [Foot.violation, [.PF_COMST_ARMED, .PF_COMST_RESULT]]
    | .commitArmTimeout => [.PF_COMST_ARMED]
    | .commissioningComplete => List.flatten [Foot.events, [.PF_STAT_STATE, .PF_CFG_COMSET, .PF_CFG_SLOTS,
    .PF_COMST_ARMED]]
    | .portEnWrite _ _ => List.flatten [Foot.violation, [.PORT_EN_EN, .ETH_STAT_LINK, .CAN_STAT_TEC, .CAN_STAT_REC,
    .CAN_STAT_STATE, .PEER_CFG_POS, .PEER_CFG_TRAINED]]
    | .ethFrameReceive _ _ _ _ => List.flatten [Foot.recv, [.ETH_STAT_RXDROP, .ETH_STAT_FCSERR]]
    | .canFrameReceive _ _ _ _ _ _ _ _ _ _ _ => List.flatten [Foot.recv, [.CAN_STAT_REC, .CAN_STAT_STATE]]
    | .niujorFrameReceive _ _ _ _ _ _ => List.flatten [Foot.recv, [.PEER_CFG_CRCERR]]
    | .niujorCycleStart | .niujorSlot => []
    | .chainBell => Foot.periodBell
    | .ethMdioWrite _ _ _ _ _ => List.flatten [Foot.violation, [.ETH_MDIO_PHYAD, .ETH_MDIO_REGAD, .ETH_MDIO_WRITE,
    .ETH_MDIO_GO, .ETH_MDIO_DATA]]
    | .mdioFrameComplete _ => [.ETH_MDIO_GO, .ETH_MDIO_DATA]
    | .peerTrain _ => List.flatten [Foot.violation, [.PEER_CFG_POS, .PEER_CFG_TRAINED]]
    | .trainingWord _ _ _ => [.PEER_CFG_POS, .PEER_CFG_TRAINED]
    | .hopPulse => []
    | .trainingEcho _ => Foot.periodBell
    | .hopReport _ => [.BELL_HOP_HOP]
    | .echoTimeout | .positionReport _ => List.flatten [Foot.periodBell, [.PEER_CFG_NUNITS, .PEER_CFG_TRAINED]]
    | .trainingTimeout => Foot.periodBell
    | .ringCfgWrite _ _ _ => List.flatten [Foot.violation, [.RING_CFG_SIZE_L2, .RING_CFG_OWNER, .RING_CFG_EN,
    .RING_CFG_IRQ]]
    | .ringHeadWrite _ _ _ => Foot.violation
    | .descriptorProcess => Foot.recv
    | .descriptorComplete _ _ _ => List.flatten [Foot.recv, [.CAN_STAT_TEC, .CAN_STAT_STATE]]
    | .ringHaltClear _ _ => List.flatten [Foot.violation, [.RING_STAT_HALT]]
    | .captureBufferComplete _ => List.flatten [Foot.violation, Foot.halt]
    | .cryptoHash | .cryptoVerify => Foot.halt
    | .portRestart _ => [.PORT_FLT_FLT, .ETH_STAT_LINK, .CAN_STAT_TEC, .CAN_STAT_REC, .CAN_STAT_STATE, .PEER_CFG_POS,
    .PEER_CFG_TRAINED]
    | .ethLinkChange _ _ _ _ => [.ETH_STAT_LINK, .ETH_STAT_SPD, .ETH_STAT_FDX]
    | .canBusOffRecovery _ => [.CAN_STAT_TEC, .CAN_STAT_REC, .CAN_STAT_STATE]
    | .usdoTransfer _ _ _ => Foot.entry
    | .usdoSessionTimeout _ _ => []
    | .idpRead _ _ _ _ | .idpWrite _ _ _ _ _ => Foot.entry
    | .idpTransferTimeout _ _ _ => []
    | .requestForward | .groupEnter _ _ _ | .groupRestart _ _ _ | .groupRestore _ _ _ => Foot.entry
    | .validationComplete _ => Foot.apply
    | .jointRestart _ _ _ | .storeParameters _ _ _ | .restoreDefaults _ _ _ | .rollCall _ _ |
    .descriptionRequest _ _ _ => Foot.entry
    | .descriptionRead _ _ => Foot.violation
    | .programDownload _ _ _ | .imageSlotWrite _ _ _ _ | .seedRequest _ _ _ => Foot.entry
    | .seedComplete => List.flatten [Foot.shadows, Foot.gateway]
    | .interruptClaim _ => [.TUT_IPEND]
    | .interruptComplete _ _ | .machineTimer _ | .tutMtcmplWrite _ _ => []
    | .tutMtcmphWrite _ _ => [.TUT_MTCMPL, .TUT_MTCMPH]
    | .wfi _ => []
    | .gatewayRead _ _ | .gatewayWrite _ _ => List.flatten [Foot.gateway, Foot.events, [.GW_CTRL_OP, .GW_CTRL_IEN]]
    | .gatewayDone _ => Foot.entry
    | .tapReset | .extest _ | .idcode | .samplePreload _ | .dtmcs => []
    | .dmi _ _ => List.flatten [Foot.entry, [.BELL_DIV_DIVERGE, .CH_STALL, .TB_HI, .SAR_STAT_INVALID, .SAR_LASTT,
    .MOD_STAT_INVALID, .MOD_STAT_GTRIPS, .MOD_LASTT, .PWM_STAT_SUPCNT, .GI_CNT_FLTCNT, .GI_CNT_REFCNT,
    .GI_CNT_SHOOTCNT, .LE_STAT_OVRCNT, .LE_STAT_INVCNT, .LE_TMAX_MAX, .HP_SEQH, .HP_CNT_SNAPSKIP, .SCR_CNT_CORR,
    .SCR_CNT_UNCORR, .SCR_CNT_HARD, .LIB_CNT0_CORRCW, .LIB_CNT0_UNCORR, .LIB_CNT0_BADNEW, .ETH_STAT_RXDROP,
    .ETH_STAT_FCSERR, .PEER_CFG_CRCERR]]
    | .bypass => []
    | .debugHalt _ => Foot.pads
    | .lehaltWrite _ _ => List.flatten [Foot.violation, [.TUT_DBG_LEHALT]]
    | .amoSatchel _ _ _ _ => List.flatten [Foot.violation, [.INT_LASTA]]
    | .registerWrite _ _ _ => Foot.entry

/-- A command may change a register field in some unit. -/
def Instr.mayWrite (c : Instr) (f : Fld) : Bool :=
  match c with
  | .resetEnd => !Foot.beyondReset.contains f
  | c => c.fields.contains f

/-! ### Parts of State -/

/-- The parts that LD and commands of its kind may change. -/
def Foot.ldParts : List Part :=
  [.fab, .sec, .ports, .dict, .tut, .satchel, .sar, .integ, .sd, .pwm, .gate, .eng, .ship, .bur]

/-- The parts that LIBRARY_INIT and commands of its kind may change. -/
def Foot.libraryInitParts : List Part :=
  [.freeCtr, .bell, .fab, .dup, .sec, .ports, .dict, .tut, .satchel, .ct, .clk, .sar, .integ, .lib, .sd, .trip,
  .pwm, .gate, .eng, .ship, .bur, .pf]

/-- The parts that GAUGE_SAMPLE and commands of its kind may change. -/
def Foot.gaugeSampleParts : List Part :=
  [.ports, .tut, .satchel, .ct, .integ, .lib, .bur]

/-- The parts that COMPARATOR_LATCH_SET and commands of its kind may change. -/
def Foot.comparatorLatchSetParts : List Part :=
  [.fab, .sec, .ports, .dict, .tut, .satchel, .integ, .trip, .pwm, .gate, .eng, .bur]

/-- The parts that SAFE_LEVEL_RESUME_CHECK and commands of its kind may change. -/
def Foot.safeLevelResumeCheckParts : List Part :=
  [.fab, .sec, .ports, .dict, .tut, .satchel, .integ, .pwm, .gate, .eng, .bur]

/-- The parts that BELL_ALONE and commands of its kind may change. -/
def Foot.bellAloneParts : List Part :=
  [.freeCtr, .bell, .fab, .dup, .sec, .ports, .dict, .tut, .satchel, .ct, .sar, .integ, .lib, .sd, .trip, .pwm,
  .gate, .eng, .ship, .bur]

/-- The parts that POWER_ON and commands of its kind may change. -/
def Foot.powerOnParts : List Part :=
  [.freeCtr, .rst, .bell, .fab, .dup, .sec, .ports, .dict, .tut, .satchel, .ct, .clk, .integ, .lib, .trip, .pwm,
  .gate, .eng]

/-- The parts that MOD_DATA_LOST and commands of its kind may change. -/
def Foot.modDataLostParts : List Part :=
  [.freeCtr, .fab, .sec, .ports, .dict, .tut, .satchel, .integ, .sd, .trip, .pwm, .gate, .eng, .bur]

/-- The parts that UNCORRECTABLE_READ and commands of its kind may change. -/
def Foot.uncorrectableReadParts : List Part :=
  [.fab, .dup, .sec, .ports, .dict, .tut, .satchel, .ct, .sar, .integ, .lib, .sd, .pwm, .gate, .eng, .ship, .bur]

/-- The parts that HANDSHAKE_STALL and commands of its kind may change. -/
def Foot.handshakeStallParts : List Part :=
  [.freeCtr, .bell, .fab, .dup, .sec, .ports, .dict, .tut, .satchel, .ct, .sar, .integ, .lib, .sd, .pwm, .gate,
  .eng, .ship, .bur]

/-- The parts that PREFECT_NOTICE and commands of its kind may change. -/
def Foot.prefectNoticeParts : List Part :=
  [.fab, .sec, .ports, .dict, .tut, .satchel, .integ, .pwm, .gate, .eng, .bur, .pf]

/-- The parts of State beside the registers that a command may change. -/
def Instr.parts (c : Instr) : List Part :=
  match c with
    | .powerOn | .rstnLow | .softwareResetRequest | .vcoreDroop _ => Foot.powerOnParts
    | .resetPhaseAdvance _ _ => [.tb, .rst, .bell, .dup, .tut, .satchel, .clk, .integ, .eng]
    | .resetEnd => [.rst, .bell, .fab, .dup, .sec, .ports, .dict, .tut, .ct, .clk, .sar, .integ, .lib, .sd, .trip,
    .pwm, .gate, .eng, .ship, .bur, .pf]
    | .pllRetryReset => Foot.powerOnParts
    | .handshakeStall _ _ _ _ => Foot.handshakeStallParts
    | .sampleWordOffer _ _ _ _ _ _ _ => [.fab, .sec, .ports, .dict, .tut, .satchel, .integ, .eng, .bur]
    | .bellCopyDivergence _ => [.bell, .ports, .tut, .integ]
    | .bellReqApply _ _ | .bellReqJointApply _ _ _ | .bellReqLatch _ _ | .bellReqBarrier _ _ => [.bell, .sec, .ports,
    .tut]
    | .bellAlone => Foot.bellAloneParts
    | .barrierComplete => [.bell, .dict, .tut]
    | .barrierTimeout _ => [.bell, .ports, .dict, .tut]
    | .periodBell | .headEvent _ _ | .lessonFallback => Foot.bellAloneParts
    | .openBallTest _ _ | .supplyBallOpen _ _ => [.ports, .tut, .ct, .pf]
    | .ioBankChange _ _ => [.ports, .tut]
    | .mainSupplyGood => [.ct, .bur]
    | .vanaFail => Foot.powerOnParts
    | .vpfGood => [.pf]
    | .vpfFail => [.freeCtr, .fab, .sec, .ports, .dict, .tut, .satchel, .integ, .pwm, .gate, .eng, .bur, .pf]
    | .caretakerStart | .caretakerStop => [.dup, .dict, .ct, .clk, .integ, .bur]
    | .storeFault => [.ports, .tut]
    | .pwrSwWrite _ _ _ _ _ => [.sec, .ports, .tut, .integ, .eng]
    | .wingPowerGood _ => [.sec]
    | .switchOvercurrent _ => Foot.powerOnParts
    | .harvestStateChange _ _ | .cellPathOn => [.ct]
    | .cellPathOff => []
    | .cellRemoved => [.ports, .tut]
    | .cellInserted | .storeCeilingReached | .storeCapMeasured _ => []
    | .pwrCellWrite _ _ _ _ _ => [.sec, .ports, .tut]
    | .gaugeSample _ _ _ | .admissionRequest _ _ | .burstComplete => Foot.gaugeSampleParts
    | .caretakerTakePort => [.lib]
    | .caretakerReleasePort => []
    | .vanaGood => [.bur]
    | .pllLock _ => [.freeCtr, .dup, .dict, .tut, .gate]
    | .pllUnlock _ => [.rst, .fab, .sec, .ports, .dict, .tut, .satchel, .sar, .integ, .sd, .pwm, .gate, .eng, .ship,
    .bur]
    | .clkEnWrite _ _ _ => [.sec, .ports, .tut]
    | .xinLost => [.rst, .fab, .sec, .ports, .dict, .tut, .satchel, .clk, .integ, .pwm, .gate, .eng, .bur]
    | .tbLoRead _ => [.sec, .ports, .tut]
    | .ppsPulse | .ppsPulseEnd | .phaseStep => [.clk]
    | .syncInEdge _ => [.tb, .freeCtr, .clk]
    | .syncMissed => [.ports, .tut]
    | .syncOutPulse => [.clk]
    | .rcTrim => []
    | .rtcCrystalStop | .rtcCrystalStart => [.clk]
    | .rtcSecond | .rtcSecWrite _ _ => [.sec, .ports, .tut, .satchel, .ct, .clk, .integ, .lib, .bur]
    | .rtcSubRead _ => [.sec, .ports, .tut]
    | .sarBurstStart _ => [.sar]
    | .sarSwtrigWrite _ _ => [.sec, .ports, .tut, .sar]
    | .sarFreeRunTrigger _ => [.sar]
    | .sarConversionComplete _ _ _ _ => [.freeCtr, .fab, .sec, .ports, .dict, .tut, .satchel, .sar, .integ, .eng,
    .bur]
    | .sarInjWrite _ _ _ _ => [.sec, .ports, .tut, .sar]
    | .refReadySet | .foregroundCalComplete | .backgroundStepStart => [.sar]
    | .substEntryOpportunity => [.ports, .tut, .sar]
    | .sliceCalComplete _ _ _ _ => [.ports, .tut, .sar, .integ]
    | .substExitOpportunity => [.sar]
    | .vrefpOutOfRange => [.ports, .tut, .sar]
    | .modClockLost _ => [.fab, .sec, .ports, .dict, .tut, .satchel, .integ, .sd, .trip, .pwm, .gate, .eng, .bur]
    | .modDataLost _ | .modLossEnd _ _ | .modDecimation _ _ _ => Foot.modDataLostParts
    | .modFdlyWrite _ _ _ => [.sec, .ports, .tut, .sd]
    | .guardTripAssert _ _ | .guardSettleClear _ _ | .modGuardClr _ _ _ => Foot.modDataLostParts
    | .comparatorLatchSet _ _ | .lebBlankingEnd _ _ | .wcClrWrite _ _ _ | .comparatorInitialClear _ _ |
    .wcThrWrite _ _ _ _ | .tripGroupFirstAssert _ => Foot.comparatorLatchSetParts
    | .pwmZeroEvent _ _ | .pwmPeriodEvent _ _ => [.fab, .sec, .ports, .dict, .tut, .satchel, .sar, .integ, .sd, .trip,
    .pwm, .gate, .eng, .bur]
    | .pwmTriggerCompare _ _ _ => [.tut, .sar, .sd]
    | .pwmCompareMatch _ _ _ | .turnOnDelayExpiry _ _ => Foot.comparatorLatchSetParts
    | .pwmShadowLowWrite _ _ _ _ | .pwmShadowHighWrite _ _ _ _ => [.sec, .ports, .tut, .pwm]
    | .stagedMove => [.dup, .pwm]
    | .delayLineLock => []
    | .delayLineLost => [.ports, .tut]
    | .safeLevelResumeCheck _ | .pwmOutenWrite _ _ _ | .pwmCntEnWrite _ _ _ => Foot.safeLevelResumeCheckParts
    | .pwmArmWrite _ _ _ => [.sec, .ports, .tut]
    | .pwmGstartWrite _ _ => [.sec, .ports, .tut, .pwm]
    | .groupStartExecute | .pwmTimedStart _ => [.pwm, .eng]
    | .pwmLinkPulse _ => [.pwm]
    | .pwmIntWrite _ _ _ _ _ _ => [.sec, .ports, .tut]
    | .fltQualified _ _ | .fltBlankingEnd _ | .rdyLost _ | .shootThrough _ | .giSwtrigWrite _ _ | .sequencerGapEnd _
    => Foot.safeLevelResumeCheckParts
    | .refreshInsert _ | .refreshPhaseEnd _ => Foot.comparatorLatchSetParts
    | .fltQualifiedHigh _ => [.gate]
    | .rdyQualifiedHigh _ => []
    | .lessonRunStart _ | .nop _ | .ldk _ _ _ => [.eng]
    | .ld _ _ _ _ | .st _ _ _ _ | .lds _ _ _ _ => Foot.ldParts
    | .wait _ _ _ _ | .waitDeadline _ => [.eng]
    | .inj _ _ _ _ => [.ports, .tut, .sar, .eng]
    | .stpc _ _ _ _ | .stpd _ _ _ _ | .stpp _ _ _ _ _ | .stpe _ _ _ _ => Foot.ldParts
    | .add _ _ _ _ | .sub _ _ _ _ | .mul _ _ _ _ | .mac _ _ _ _ _ | .div _ _ _ _ | .sqrt _ _ _ | .abs _ _ _ |
    .sincos _ _ _ => [.eng]
    | .pi _ _ _ _ _ | .pr _ _ _ _ _ | .biq _ _ _ _ => Foot.ldParts
    | .clarke _ _ _ _ _ | .park _ _ _ _ _ | .ipark _ _ _ _ _ => [.eng]
    | .sogi _ _ _ _ _ | .ddsrf _ _ _ _ _ _ | .pll _ _ _ _ => Foot.ldParts
    | .lim _ _ _ _ _ => [.eng]
    | .rlim _ _ _ _ | .lut _ _ _ _ => Foot.ldParts
    | .cmpf _ _ _ _ _ | .clim _ _ _ _ _ _ => [.eng]
    | .prof _ _ _ _ | .ramp _ _ _ _ _ | .ferr _ _ _ _ | .preset _ _ _ _ _ => Foot.ldParts
    | .skip _ _ _ _ | .evry _ _ _ _ | .evt _ _ _ _ => [.eng]
    | .endRun _ => [.freeCtr, .fab, .sec, .ports, .dict, .tut, .satchel, .sar, .integ, .sd, .pwm, .gate, .eng, .ship,
    .bur]
    | .engineDataWrite _ _ _ _ => [.sec, .ports, .dict, .tut, .integ, .eng]
    | .engineDataUpdate _ _ _ => [.ports, .tut, .integ, .eng]
    | .leRetireWrite _ _ => [.sec, .ports, .tut, .eng]
    | .substituteCopyComplete _ _ => [.ports, .tut, .eng]
    | .leSubgoWrite _ _ _ => [.sec, .ports, .tut]
    | .substituteSelfTest _ _ => [.ports, .tut, .integ]
    | .heldLowHalfTimeout _ => [.ports, .tut, .integ, .eng]
    | .gridCommandSync | .gridCommandRun | .gridCommandClearTrip | .islandingDisarm | .islandingArm |
    .islandingClearTrip | .mpptTraceRequest _ => [.dict, .ship]
    | .bursarPair _ _ => [.bur]
    | .meteringCycleEnd _ _ => [.freeCtr, .ct, .bur]
    | .halfCycleBoundary _ => Foot.gaugeSampleParts
    | .burLatchWrite _ _ => [.bell, .sec, .ports, .tut]
    | .burSaveNowWrite _ => [.sec, .ports, .tut, .satchel, .ct, .integ, .lib, .bur]
    | .bursarRestore | .theftWindowClock => [.bur]
    | .theftWindowEnd _ => [.freeCtr, .ports, .tut, .satchel, .ct, .integ, .lib, .bur]
    | .theftClrWrite _ => [.sec, .ports, .tut, .bur]
    | .leaseRenew _ => [.dup, .sec, .ports, .tut]
    | .leaseExpiry _ | .voterDisagreement _ _ => Foot.handshakeStallParts
    | .standby _ _ => [.dup, .sec, .ports, .tut]
    | .wake _ => [.dup, .sec, .ports, .dict, .tut]
    | .cold _ => [.dup, .sec, .ports, .tut]
    | .ready _ => [.sec, .ports, .tut]
    | .handover _ | .cancel _ => [.dup, .sec, .ports, .tut]
    | .release _ => Foot.handshakeStallParts
    | .acquire _ => [.fab, .dup, .sec, .ports, .dict, .tut, .satchel, .sar, .integ, .sd, .pwm, .gate, .eng, .ship,
    .bur]
    | .coldSelfTestWindow _ _ => [.dup, .ports, .dict, .tut]
    | .snapshotWriteComplete | .takeoverSlotChosen => [.dup, .ports, .tut]
    | .takeoverRestoreComplete => [.dup, .tut, .integ, .eng]
    | .hpRearmWrite _ _ => [.dup, .sec, .ports, .tut]
    | .handoverCopyComplete => [.fab, .dup, .sec, .ports, .dict, .tut, .satchel, .integ, .pwm, .gate, .eng, .bur]
    | .linkStale _ => [.dup, .ports, .tut]
    | .scrubRead _ _ _ => [.ports, .tut, .satchel, .ct, .integ, .eng]
    | .scrubPassOverdue _ => [.ports, .tut]
    | .uncorrectableRead _ _ _ _ => Foot.uncorrectableReadParts
    | .satRetWrite _ _ _ => [.sec, .ports, .tut, .integ]
    | .repLoadWrite _ _ => [.dup, .sec, .ports, .tut, .satchel, .ct, .integ, .eng]
    | .ageingMeasure _ => [.ports, .tut]
    | .libraryInit _ _ _ _ _ _ _ _ => Foot.libraryInitParts
    | .libAppendRecord _ | .libReadRecord _ _ | .libReadNewest _ _ | .flashOperationComplete _ =>
    Foot.gaugeSampleParts
    | .recordCommit => [.ports, .dict, .tut, .satchel, .ct, .integ, .lib, .bur]
    | .libraryRefresh | .wearLevelRelocate => Foot.gaugeSampleParts
    | .bootImageVerify _ => [.sec, .ports, .tut, .integ]
    | .identityKeyDerive _ => [.sec, .ports, .tut]
    | .worldViolation _ _ _ => [.sec, .ports, .dict, .tut]
    | .enrol _ | .transfer _ | .vendorOff _ | .advance _ | .secCommandComplete => [.sec, .ports, .tut]
    | .attestationRequest _ => [.sec, .dict]
    | .attestationComplete => [.sec]
    | .testPulseStart _ | .testPulseEnd _ => [.pf]
    | .testPulseCheck _ _ _ _ => [.ports, .tut, .pf]
    | .filteredDemand _ => [.pf]
    | .discrepancyFault _ | .readbackFault _ | .prefectClockCheck _ => [.ports, .tut, .pf]
    | .prefectFaultClear => []
    | .prefectNotice | .prefectForce => Foot.prefectNoticeParts
    | .prefectReleaseReady => [.pf]
    | .pfRelWrite _ _ => [.sec, .ports, .tut, .pf]
    | .forceRelease => [.ports, .tut, .gate]
    | .cfgswRead _ => [.pf]
    | .cfgswChange _ => [.ports, .tut]
    | .prefectSetDelivery => Foot.prefectNoticeParts
    | .sealOpened => [.ports, .tut]
    | .sealClosed => [.ports, .tut, .pf]
    | .pfCommitWrite _ _ => [.sec, .ports, .tut]
    | .commitArmTimeout => []
    | .commissioningComplete => [.ports, .tut, .pf]
    | .portEnWrite _ _ => [.sec, .ports, .tut]
    | .ethFrameReceive _ _ _ _ | .canFrameReceive _ _ _ _ _ _ _ _ _ _ _ | .niujorFrameReceive _ _ _ _ _ _ =>
    Foot.uncorrectableReadParts
    | .niujorCycleStart | .niujorSlot => [.ports]
    | .chainBell => Foot.bellAloneParts
    | .ethMdioWrite _ _ _ _ _ => [.sec, .ports, .tut]
    | .mdioFrameComplete _ => [.ports]
    | .peerTrain _ => [.sec, .ports, .tut]
    | .trainingWord _ _ _ | .hopPulse => [.ports]
    | .trainingEcho _ => Foot.bellAloneParts
    | .hopReport _ => [.ports]
    | .echoTimeout | .positionReport _ | .trainingTimeout => Foot.bellAloneParts
    | .ringCfgWrite _ _ _ | .ringHeadWrite _ _ _ => [.sec, .ports, .tut]
    | .descriptorProcess | .descriptorComplete _ _ _ => Foot.uncorrectableReadParts
    | .ringHaltClear _ _ => [.sec, .ports, .tut]
    | .captureBufferComplete _ => [.sec, .ports, .dict, .tut, .satchel, .integ]
    | .cryptoHash => [.ports, .tut, .satchel, .integ]
    | .cryptoVerify => [.freeCtr, .ports, .tut, .satchel, .integ]
    | .portRestart _ => [.ports]
    | .ethLinkChange _ _ _ _ | .canBusOffRecovery _ => []
    | .usdoTransfer _ _ _ => Foot.libraryInitParts
    | .usdoSessionTimeout _ _ => [.dict]
    | .idpRead _ _ _ _ | .idpWrite _ _ _ _ _ => Foot.libraryInitParts
    | .idpTransferTimeout _ _ _ => [.dict]
    | .requestForward | .groupEnter _ _ _ | .groupRestart _ _ _ | .groupRestore _ _ _ => Foot.libraryInitParts
    | .validationComplete _ => [.bell, .ports, .dict, .tut, .eng]
    | .jointRestart _ _ _ | .storeParameters _ _ _ | .restoreDefaults _ _ _ | .rollCall _ _ |
    .descriptionRequest _ _ _ => Foot.libraryInitParts
    | .descriptionRead _ _ => [.sec, .ports, .dict, .tut, .ship]
    | .programDownload _ _ _ | .imageSlotWrite _ _ _ _ | .seedRequest _ _ _ => Foot.libraryInitParts
    | .seedComplete => [.dict, .tut, .integ, .eng]
    | .interruptClaim _ | .interruptComplete _ _ | .machineTimer _ | .tutMtcmplWrite _ _ | .tutMtcmphWrite _ _ |
    .wfi _ => [.tut]
    | .gatewayRead _ _ | .gatewayWrite _ _ => [.bell, .ports, .dict, .tut]
    | .gatewayDone _ => Foot.libraryInitParts
    | .tapReset => [.tut]
    | .extest _ => [.freeCtr, .tut]
    | .idcode => [.tut]
    | .samplePreload _ | .dtmcs => [.freeCtr, .tut]
    | .dmi _ _ => Foot.libraryInitParts
    | .bypass => [.tut]
    | .debugHalt _ => Foot.safeLevelResumeCheckParts
    | .lehaltWrite _ _ => [.sec, .ports, .tut]
    | .amoSatchel _ _ _ _ => [.sec, .ports, .tut, .satchel, .ct, .integ]
    | .registerWrite _ _ _ => Foot.libraryInitParts

end Sys2Proof
end

