-- ==== Sys2Proof/Access.lean ====
section
/-!
DEFINITION. The register access that a command of a core is, the access that the worlds turn away, and the Lesson engine that
an arithmetic instruction belongs to.
-/
namespace Sys2Proof
open Sys2Proof.Machine

/-- The access of a command: the core, the address, whether the target is Non-secure (17 R411, 19 R468, 21 Table 21-3), and
the cause of an access fault, 7 for a store and 5 for a load (21 Table 21-2). Commands that no core sends have none. -/
def Instr.target (s : State) (c : Instr) : Option (Nat × Nat × Bool × Nat) :=
  match c with
  | .bellReqApply core _ | .bellReqLatch core _ | .bellReqBarrier core _ => some (core, 0x4C002004, s.blockNs .caretaker, 7)
  | .bellReqJointApply core _ _ => some (core, 0x4C002004, s.blockNs .caretaker, 7)
  | .burLatchWrite core _ => some (core, 0x46000004, s.blockNs .bursar, 7)
  | .burSaveNowWrite core => some (core, 0x4600000C, s.blockNs .bursar, 7)
  | .theftClrWrite core => some (core, 0x46000020, s.blockNs .bursar, 7)
  | .tbLoRead core => some (core, 0x4C00101C, s.blockNs .caretaker, 5)
  | .rtcSubRead core => some (core, 0x4C001040, s.blockNs .caretaker, 5)
  | .rtcSecWrite core _ => some (core, 0x4C001044, s.blockNs .caretaker, 7)
  | .clkEnWrite core _ _ => some (core, 0x4C001004, s.blockNs .caretaker, 7)
  | .pwrSwWrite core _ _ _ _ => some (core, 0x4C000440, s.blockNs .caretaker, 7)
  | .pwrCellWrite core _ _ _ _ => some (core, 0x4C000408, s.blockNs .caretaker, 7)
  | .sarSwtrigWrite core _ => some (core, 0x42000018, s.blockNs .sar, 7)
  | .sarInjWrite core k _ _ => some (core, 0x42000108 + 0x20 * k, s.blockNs .sar, 7)
  | .modFdlyWrite core n _ => some (core, 0x43000104 + 0x20 * n, s.blockNs .modulator, 7)
  | .modGuardClr core n _ => some (core, 0x4300010C + 0x20 * n, s.blockNs .modulator, 7)
  | .wcClrWrite core c _ => some (core, 0x44000104 + 0x10 * c, s.blockNs .comparator, 7)
  | .wcThrWrite core c _ _ => some (core, 0x44000100 + 0x10 * c, s.blockNs .comparator, 7)
  | .pwmShadowLowWrite core m w _ => some (core, 0x40000040 + 0x100 * m + 8 * w, s.blockNs .pwm, 7)
  | .pwmShadowHighWrite core m w _ => some (core, 0x40000044 + 0x100 * m + 8 * w, s.blockNs .pwm, 7)
  | .pwmOutenWrite core m _ | .pwmCntEnWrite core m _ | .pwmArmWrite core m _ =>
    some (core, 0x40000004 + 0x100 * m, s.blockNs .pwm, 7)
  | .pwmIntWrite core m _ _ _ _ => some (core, 0x40000030 + 0x100 * m, s.blockNs .pwm, 7)
  | .pwmGstartWrite core _ => some (core, 0x40001800, s.blockNs .pwm, 7)
  | .giSwtrigWrite core _ => some (core, 0x41000010, s.blockNs .gate, 7)
  | .engineDataWrite core n offset _ => some (core, 0x45400000 + 0x10000 * n + offset, s.blockNs .engine, 7)
  | .leRetireWrite core n => if n < 12 then some (core, 0x45000104 + 0x20 * n, s.blockNs .engine, 7) else none
  | .leSubgoWrite core _ _ => some (core, 0x45000028, s.blockNs .engine, 7)
  | .leaseRenew core => some (core, 0x47000008, s.blockNs .duplex, 7)
  | .standby core _ => some (core, 0x4700000C, s.blockNs .duplex, 7)
  | .wake core | .cold core | .ready core | .handover core | .cancel core | .release core | .acquire core =>
    some (core, 0x4700000C, s.blockNs .duplex, 7)
  | .hpRearmWrite core _ => some (core, 0x4700002C, s.blockNs .duplex, 7)
  | .satRetWrite core _ _ => some (core, 0x4800000C, s.blockNs .integrity, 7)
  | .repLoadWrite core _ => some (core, 0x48000014, s.blockNs .integrity, 7)
  | .enrol core | .transfer core | .vendorOff core | .advance core => some (core, 0x4A00001C, s.blockNs .security, 7)
  | .portEnWrite core _ => some (core, 0x4B000000, false, 7)
  | .ethMdioWrite core _ _ _ _ => some (core, 0x4B00000C, false, 7)
  | .peerTrain core => some (core, 0x4B000400, s.portNs 4, 7)
  | .ringCfgWrite core q _ => if q < 16 then some (core, 0x4B000804 + 0x20 * q, s.ringNs q, 7) else none
  | .ringHeadWrite core q _ => if q < 16 then some (core, 0x4B000808 + 0x20 * q, s.ringNs q, 7) else none
  | .ringHaltClear core q => if q < 16 then some (core, 0x4B000810 + 0x20 * q, s.ringNs q, 7) else none
  | .pfRelWrite core _ => some (core, 0x4D000020, false, 7)
  | .pfCommitWrite core _ => some (core, 0x4D000024, false, 7)
  | .lehaltWrite core _ => some (core, 0x4E000018, false, 7)
  | .amoSatchel core addr _ _ => some (core, addr, s.targetNs core addr false, 7)
  | .registerWrite core addr _ =>
    some (core, addr, s.targetNs core addr false && !metrologyReg addr, 7)
  | _ => none

/-- From `s` to `t` nothing happened but a violation of the worlds at `addr` and the access fault of `core` with `cause` (17
R412): SEC_VIOL shows the core and SEC_VIOLA the address, and no other field, no memory and no engine changes. -/
def Machine.State.barred (s t : State) (core addr cause : Nat) : Prop :=
  t.tut.mcause.getD core 0 = cause ∧ t.tut.mtval.getD core 0 = addr ∧ t.fld .SEC_VIOL_INIT = core ∧ t.fld .SEC_VIOLA = addr ∧
    (∀ f i, f ∉ Foot.violation → t.fld f i = s.fld f i) ∧ (∀ p, p ∉ [Part.regs, .sec, .ports, .tut] → p.same s t) ∧
    t.tut.itcm = s.tut.itcm ∧ t.tut.dtcm = s.tut.dtcm ∧ t.ports.taken = s.ports.taken

/-- The engine whose registers alone an arithmetic or control instruction reads and writes (10 R254). -/
def Instr.arithmeticOf (c : Instr) : Option Nat :=
  match c with
  | .nop n | .ldk n _ _ | .add n _ _ _ | .sub n _ _ _ | .mul n _ _ _ | .mac n _ _ _ _ | .div n _ _ _ | .sqrt n
    _ _ | .abs n _ _ | .sincos n _ _ | .clarke n _ _ _ _ | .park n _ _ _ _ | .ipark n _ _ _ _ | .lim n _ _ _ _
    | .cmpf n _ _ _ _ | .clim n _ _ _ _ _ | .skip n _ _ _ | .evry n _ _ _ => some n
  | _ => none

end Sys2Proof
end

