-- ==== Sys2Proof/Terms.lean ====
section
/-!
DEFINITION. The terms in which the statements speak of a command's effect: an event record on Q10, the beginning of a reset,
the step of an engine instruction, and what the block instructions compute.
-/
namespace Sys2Proof.Machine

/-- From `s` to `t` one record of block `b` with CODE `code` joins Q10 where it has room (19 R458, R459). -/
def State.tells (s t : State) (b : Blk) (code : Nat) : Prop :=
  s.ports.q10.length < s.q10Cap →
    ∃ e, t.ports.q10 = s.ports.q10 ++ [e] ∧ e.eseq = (s.ports.eseq + 1) % 2 ^ 32 ∧ e.block = b.num ∧
      e.payload % 256 = code

/-- From `s` to `t` a record of block `b` with CODE `code` is among those that join Q10, where it has room for 32 (19 R458). -/
def State.reports (s t : State) (b : Blk) (code : Nat) : Prop :=
  s.ports.q10.length + 32 ≤ s.q10Cap →
    (t.ports.q10.drop s.ports.q10.length).any (fun e => e.block == b.num && e.payload % 256 == code) = true

/-- Core `core` executes, and its PMP and its world let it store to `addr` in a target of world `ns` (17 R410; 21 R504). -/
abbrev State.mayStore (s : State) (core addr : Nat) (ns : Bool) : Prop :=
  s.coreRuns core = true ∧ s.pmpAllows core 7 addr = true ∧ (s.coreNs core = true → ns = true)

/-- Core `core` may store to a register of block `b` at `addr`. -/
abbrev State.reaches (s : State) (core : Nat) (b : Blk) (addr : Nat) : Prop := s.mayStore core addr (s.blockNs b)

/-- Core `core` may load a register of block `b` at `addr`. -/
abbrev State.loads (s : State) (core : Nat) (b : Blk) (addr : Nat) : Prop :=
  s.coreRuns core = true ∧ s.pmpAllows core 5 addr = true ∧ (s.coreNs core = true → s.blockNs b = true)

/-- From `s` to `t` a whole-die reset begins (01 R42, R43): its first phase, the fault epoch one more with reason 2 and the
cause as its detail, no pass held, and no module driving. -/
def State.resetBegun (s t : State) (cause : Nat) : Prop :=
  t.rst.phase = .fuses ∧ t.rst.cause = cause ∧ t.fld .RING_EPOCH = (s.fld .RING_EPOCH + 1) % 2 ^ 32 ∧
    t.dict.discard.reason = 2 ∧ t.dict.discard.detail = cause ∧ t.fld .HP_STAT_HOLDER = 0 ∧
    (∀ m < 24, t.fld .PWM_RUN_OUTEN m = 0) ∧ t.clk.held = s.tb

/-- The certificate a fuse command names: the 7936 bytes of the Satchel from SEC_CMDA on (17 Table 17-2). -/
abbrev State.certificate (s : State) : List Nat := (s.satRead (s.fld .SEC_CMDA) 7936).getD []

/-- Descriptor `i` of ring `q` stands in Satchel as the device finished it (19 R455): OWN clear, DONE set, its ERRCODE and
data length. -/
abbrev State.completed (t : State) (q i code n : Nat) : Prop :=
  (t.desc q i).any (fun d => !d.own && d.done && d.errcode == code && d.len == n) = true

/-- From `s` to `t` the device finishes the descriptor `i` of ring `q` that it had taken, with an ERRCODE and a data length; it
stands so in Satchel where its place can be written (19 R455). -/
def State.answered (s t : State) (q i code n : Nat) : Prop :=
  t.takenDesc q i = none ∧
    ((s.satWrite (s.descAddr q i) (List.replicate 32 0)).1 = true → n < 2 ^ 16 → t.completed q i code n)

/-- The Library holds a request: it waits, it runs, or it has been refused and asks again (16 R402, R406). -/
def State.requested (t : State) (r : LibReq) : Bool :=
  t.lib.queue.contains r || t.lib.burst.any (fun b => b.req == r) ||
    t.lib.refused.any (fun x => x.area == r.area && x.type == r.type && x.payload == r.payload && x.work == r.work)

/-- Ring `q` has a free descriptor for `n` bytes, in its world, and its buffer can be written (19 R455, R456). -/
abbrev State.receives (s : State) (q n : Nat) (data : List Nat) : Prop :=
  data.length = n ∧
    (s.freeDesc q).any (fun d => decide (n ≤ d.len) && !s.ringBarred q d.addr n && (s.satWrite d.addr data).1) = true

/-- A trigger reaches slot `k` (05 R122): it starts a burst, whose first entry an idle slot without injected requests converts;
during a burst one is held, and a further one is lost and counted. -/
def State.triggered (s t : State) (k : Nat) : Prop :=
  if (s.slot k).burst = false then
    (t.slot k).burst = true ∧
      ((s.slot k).cur = none → (s.slot k).injQ = [] → (t.slot k).cur = some (s.seqEntry k 0))
  else if (s.slot k).pendingTrig = false then
    (t.slot k).pendingTrig = true ∧ (t.slot k).cur = (s.slot k).cur ∧
      t.fld .SAR_STAT_TRIGLOST k = s.fld .SAR_STAT_TRIGLOST k
  else t.slot k = s.slot k ∧ t.fld .SAR_STAT_TRIGLOST k = satInc 8 (s.fld .SAR_STAT_TRIGLOST k)

/-- `r` is RESULT of an input voltage in nV against VREF (05 R117). -/
def isResult (r : Nat) (vin : Int) (vref : Nat) : Prop :=
  (vin < 0 → r = 0) ∧ (0x3FFFF * vref ≤ vin * 2 ^ 18 → r = 0x3FFFF) ∧
    (0 ≤ vin → vin * 2 ^ 18 ≤ 0x3FFFF * vref → 2 * (vin * 2 ^ 18 - r * vref).natAbs ≤ vref)

/-! ### Engine instructions -/

/-- An instruction of engine `n` executes (10 R252): a run is in progress, no WAIT stalls, its Wing is clocked, and the engine's
tables have their lengths. -/
abbrev State.executes (s : State) (n : Nat) : Prop :=
  n < 12 ∧ n < s.eng.engines.length ∧ (s.engine n).regs.length = 32 ∧ s.running n = true ∧ (s.engine n).wait = none ∧
    s.wingClock (engineWing n) = true

/-- From `s` to `t` engine `n` ends its run with an engine fault of a cause, reported with its instruction (10 R266). -/
abbrev State.faulted (s t : State) (n cause : Nat) : Prop :=
  t.running n = false ∧ t.flag .LE_STAT_FAULT n = true ∧ t.fld .LE_STAT_FCAUSE n = cause ∧
    t.fld .LE_FLAGS_PC n = (s.engine n).pc % 2 ^ 12

/-- Core `core` may store to byte `offset` of engine window `n`: in its own Wing's windows, and in a Substitute's while that is
idle (10 R246, R272). -/
abbrev State.ownsWindow (s : State) (core n offset : Nat) : Prop :=
  n < 14 ∧ offset < 0x10000 ∧ s.reaches core .engine (engAddr n offset) ∧
    coreWing core = (if n = 13 ∨ (6 ≤ n ∧ n < 12) then Wing.b else Wing.a) ∧ (12 ≤ n → s.fld (substMap (coreWing core)) = 0xF)

/-- From `s` to `t` engine `n` goes on to its next instruction after `c` cycles (10 R252). -/
abbrev State.stepped (s t : State) (n c : Nat) : Prop :=
  (t.engine n).pc = (s.engine n).pc + 1 ∧ (t.engine n).cycles = (s.engine n).cycles + c

/-- Register `r` of engine `n` holds the pattern `v`, F0 reads +0.0 (10 R247). -/
abbrev State.regHolds (t : State) (n r v : Nat) : Prop := t.rgBits n r = if r = 0 then 0 else v % 2 ^ 32

/-- The binary64 word at ADDR `a` of engine `n` holds `x`. -/
abbrev State.wordHolds (t : State) (n a : Nat) (x : Fp) : Prop :=
  t.d32 n a = x.bits64 % 2 ^ 32 ∧ t.d32 n (a + 1) = x.bits64 / 2 ^ 32 % 2 ^ 32

/-- No one of `k` memory words of engine `n` from index `i` on is poisoned (15 R373). -/
abbrev State.sound (s : State) (n i k : Nat) : Prop := ∀ j, j < k → s.engBad n ((i + j) / 2) = false

/-- A shadow word staged by engine `n` stands in the staging set of module `m` (08 R202). -/
abbrev State.stages (t : State) (n m w v : Nat) : Prop :=
  ({ engine := n, word := w, value := v } : Staged) ∈ (t.pm m).staged

/-- The condition of CMPF (10 R254). -/
def condHolds (cond : Nat) (a b : Fp) : Bool :=
  match cond with
  | 0 => b.lt a
  | 1 => b.le a
  | 2 => a.lt b
  | 3 => a.le b
  | 4 => a.eqv b
  | 5 => !a.eqv b
  | 6 => b.lt a.abs
  | _ => a.abs.le b

/-- PI (10 R254): output, new integrator, and whether it limits; `w` and `d` read the block's words in binary32 and
binary64. -/
def piSpec (w d : Nat → Fp) (e ff : Fp) : Fp × Fp × Bool :=
  let u := (((w 0).mul e).add (d 4)).add ff
  let y := u.clamp (w 2) (w 3)
  let i :=
    if (w 6).eqv .zero then
      if y.eqv u || ((w 3).lt u && e.lt .zero) || (u.lt (w 2) && Fp.zero.lt e) then (d 4).add ((w 1).mul e) else d 4
    else ((d 4).add ((w 1).mul e)).add ((w 6).mul (y.sub u))
  (y, i, !y.eqv u)

/-- PR (10 R254): output and both states. -/
def prSpec (w d : Nat → Fp) (e om : Fp) : Fp × Fp × Fp :=
  let wh := (w 1).mul om
  let x1 := (d 6).add ((w 5).mul (((fpTwo.mul (w 2)).mul (((w 0).mul e).sub (d 6))).sub (wh.mul (d 8))))
  let x2 := (d 8).add (((w 5).mul wh).mul x1)
  (((w 3).mul x1).sub ((w 4).mul x2), x1, x2)

/-- BIQ (10 R254): output and both states. -/
def biqSpec (w d : Nat → Fp) (x : Fp) : Fp × Fp × Fp :=
  let y := ((w 0).mul x).add (d 6)
  (y, (((w 1).mul x).sub ((w 3).mul y)).add (d 8), ((w 2).mul x).sub ((w 4).mul y))

/-- SOGI (10 R254): both states, which are the outputs. -/
def sogiSpec (w d : Nat → Fp) (v om : Fp) : Fp × Fp :=
  let x1 := (d 2).add (((w 1).mul om).mul (((w 0).mul (v.sub (d 2))).sub (d 4)))
  (x1, (d 4).add (((w 1).mul om).mul x1))

/-- DDSRF (10 R254): the four outputs, and the filter step of each from its state. -/
def ddsrfSpec (d : Nat → Fp) (al be si c : Fp) : Fp × Fp × Fp × Fp :=
  let c2 := (c.mul c).sub (si.mul si)
  let s2 := (fpTwo.mul si).mul c
  (((al.mul c).add (be.mul si)).sub (((d 6).mul c2).add ((d 8).mul s2)),
   ((be.mul c).sub (al.mul si)).sub (((d 8).mul c2).sub ((d 6).mul s2)),
   ((al.mul c).sub (be.mul si)).sub (((d 2).mul c2).sub ((d 4).mul s2)),
   ((al.mul si).add (be.mul c)).sub (((d 4).mul c2).add ((d 2).mul s2)))

/-- One step of a first-order filter with factor `lam`. -/
def lagStep (lam f x : Fp) : Fp := f.add (lam.mul (x.sub f))

/-- PLL (10 R254): angle, frequency, integrator, and whether the frequency is limited. -/
def pllSpec (w d : Nat → Fp) (e : Fp) : Fp × Fp × Fp × Bool :=
  let f := ((w 2).add ((w 0).mul e)).add (d 6)
  let high := (w 5).lt f
  let low := !high && f.lt (w 4)
  let f' := if high then w 5 else if low then w 4 else f
  (((d 8).add ((w 3).mul f')).wrap, f', if high || low then d 6 else (d 6).add ((w 1).mul e), high || low)

/-- RLIM (10 R254): output, and whether it limits. -/
def rlimSpec (w d : Nat → Fp) (x : Fp) : Fp × Bool :=
  let m := (x.sub (d 2)).clamp (w 1).neg (w 0)
  ((d 2).add m, !m.eqv (x.sub (d 2)))

/-- RAMP (10 R268): output from the value `y0` it moves from, and whether it still moves. -/
def rampSpec (w : Nat → Fp) (x y0 : Fp) : Fp × Bool :=
  let y := y0.add ((x.sub y0).clamp ((w 0).neg.mul (w 1)) ((w 0).mul (w 1)))
  (y, !y.eqv x)

/-- PROF (10 R254): position, velocity and acceleration. -/
def profSpec (w d : Nat → Fp) (x : Fp) : Fp × Fp × Fp :=
  let e := x.sub (d 4)
  let sign : Fp := if Fp.zero.lt e then .fin false 1 0 else if e.lt .zero then .fin true 1 0 else e
  let vd := sign.mul ((w 0).min (Fp.sqrt b64 ((fpTwo.mul (w 1)).mul e.abs)))
  let ad := (Fp.div b64 (vd.sub (d 6)) (w 3)).clamp (w 1).neg (w 1)
  let acc := (d 8).add ((ad.sub (d 8)).clamp ((w 2).neg.mul (w 3)) ((w 2).mul (w 3)))
  let vel := ((d 6).add (acc.mul (w 3))).clamp (w 0).neg (w 0)
  let pos := (d 4).add (vel.mul (w 3))
  if (x.sub pos).abs.le (((w 1).mul (w 3)).mul (w 3)) && vel.abs.le ((w 1).mul (w 3)) then (x, .zero, .zero)
  else (pos, vel, acc)

/-- PRESET (10 R270): the integrator for a bumpless transfer. -/
def presetSpec (w : Nat → Fp) (y e ff : Fp) : Fp := ((y.clamp (w 2) (w 3)).sub ((w 0).mul e)).sub ff

/-! ### The idle step -/

/-- What the Caretaker's oscillators change in an idle step (04 R103, R112; 14 R341). -/
def rcFields : List Fld := [.RTC_SUB_FRAC, .HP_LREM_LREMA, .HP_LREM_LREMB]

/-- What a tick of the Edge domain may change in an idle step: counters, the ages and loads shown, the lock bits at the end of a
self-test window, and what the edges of a module's moved pulses bring (08 R209). -/
def tickFields : List Fld :=
  [.PWM_CNT_CNT, .PWM_STAT_DIR, .HP_AGE, .FAB_LOAD0_LOAD, .FAB_LOAD1_LOAD, .FAB_LOAD2_LOAD, .FAB_LOAD3_LOAD, .CLK_STAT_A_LK,
   .CLK_STAT_B_LK, .FAB_DROP, .BUR_STAT_GAP, .SEC_VIOL_INIT, .SEC_VIOLA, .RING_HEAD_HEAD, .RING_STAT_HALT, .RING_STAT_ERR,
   .RING_STAT_DROP, .TUT_IPEND]

/-- The parts that no tick of the Edge domain changes in an idle step. -/
def tickKept : List Part := [.pending, .freeCtr, .rst, .bell, .lib, .sar, .sd, .ship, .pf]

end Sys2Proof.Machine
end

