-- ==== Sys2Proof/Certificates/Slice0/Obligations.lean ====
section
/-!
DEFINITION. The statements for the provers, from the numbered rules of spec/: what each family of commands does, where it
completes, and what it leaves as it was.
-/
open Sys2Proof Sys2Proof.Machine

/-- While VCORE power-good is released, POWER_ON begins a whole-die reset of cause 1: first phase, the fault epoch one
more with reason 2 and the cause as detail, no pass held, no module driving, the timebase captured. So does RSTN_LOW
unless both balls are open, with VIO3 present (cause 2), SOFTWARE_RESET_REQUEST (3), and PLL_RETRY_RESET with a retry
pending (5). VCORE_DROOP begins one of cause 4, shows which monitor failed, and withholds power-good.
RESET_PHASE_ADVANCE goes from fuses to PLLs and latches BOOTSEL, which reads 0 while VIO3 is absent; from PLLs to
repairs, the lock bits showing which loops locked; from repairs to clearing; from clearing to the Bell self-test,
engine memories and DTCM reading zero and Satchel poisoned where its contents were lost; and from the Bell self-test
to release. RESET_END in release ends the reset: no phase, the PWM modules and engines in their reset state, no Bell
waiting, no barrier. -/
def Obligations.ResetRequestsAndPhases : Prop :=
  (∀ (s : State), s.ct.powerGood = true → 
    ∃ t, exec .powerOn s = .next t ∧
      s.resetBegun t 1) ∧
  (∀ (s : State), s.ct.powerGood = true → s.ct.openBalls.testBit 0 = false ∨ s.ct.openBalls.testBit 1 = false → s.bankOn 3 = true → 
    ∃ t, exec .rstnLow s = .next t ∧
      s.resetBegun t 2) ∧
  (∀ (s : State), s.ct.powerGood = true → 
    ∃ t, exec .softwareResetRequest s = .next t ∧
      s.resetBegun t 3) ∧
  (∀ (s : State), s.ct.powerGood = true → s.clk.retry = true → 
    ∃ t, exec .pllRetryReset s = .next t ∧
      s.resetBegun t 5) ∧
  (∀ (s : State) (byVcore : Bool), 
    ∃ t, exec (.vcoreDroop byVcore) s = .next t ∧
      s.resetBegun t 4 ∧ t.ct.powerGood = false ∧
      t.fld (if byVcore then .PWR_MON_VCORE_OK else .PWR_MON_VANA_OK) = 0) ∧
  (∀ (s : State) (mask bootsel : Nat), s.ct.powerGood = true → s.rst.phase = .fuses → 
    ∃ t, exec (.resetPhaseAdvance mask bootsel) s = .next t ∧
      t.rst.phase = .plls ∧ t.fld .STRAP_BOOTSEL = if s.bankOn 3 then bootsel % 4 else 0) ∧
  (∀ (s : State) (mask bootsel : Nat), s.ct.powerGood = true → s.rst.phase = .plls → mask < 64 → 
    ∃ t, exec (.resetPhaseAdvance mask bootsel) s = .next t ∧
      t.rst.phase = .repairs ∧ ∀ k < 6, t.flag (lockFld k) = !mask.testBit k) ∧
  (∀ (s : State) (mask bootsel : Nat), s.ct.powerGood = true → s.rst.phase = .repairs → 
    ∃ t, exec (.resetPhaseAdvance mask bootsel) s = .next t ∧
      t.rst.phase = .clearing) ∧
  (∀ (s : State) (mask bootsel : Nat), s.ct.powerGood = true → s.rst.phase = .clearing → 
    ∃ t, exec (.resetPhaseAdvance mask bootsel) s = .next t ∧
      t.rst.phase = .bellTest ∧ t.eng.mem = [] ∧ t.tut.dtcm = [] ∧
      (if s.rst.satchelLost then t.satchel = [] ∧ t.integ.satLost = true else t.satchel = s.satchel)) ∧
  (∀ (s : State) (mask bootsel : Nat), s.ct.powerGood = true → s.rst.phase = .bellTest → 
    ∃ t, exec (.resetPhaseAdvance mask bootsel) s = .next t ∧
      t.rst.phase = .release) ∧
  (∀ (s : State), s.ct.powerGood = true → s.rst.phase = .release → 
    ∃ t, exec .resetEnd s = .next t ∧
      t.rst.phase = .none ∧ t.pwm = {} ∧ t.eng.engines = ({} : EngSt).engines ∧ t.bell = {} ∧ t.ports = {})

/-- Where a running core may store to BELL_REQ, its write adds its request to those that wait at the root, and no
other: APPLY of a group; APPLY of a mask with GROUP 0xFF, which with LATCH or BARRIER set too requests neither and is
event 0x01; LATCH, whose points join those of a LATCH that waits; BARRIER with its identifier. With a root in service
PERIOD_BELL, where the timer fires from the timebase or in fallback, issues a PERIOD Bell: LT_COUNT and BELL_STAT.SEQ
count one more, LT_LAST is the tick. A head event within DIV only counts; the one after DIV issues a PERIOD Bell too
and starts head mode, unless the last came less than 3200 ticks ago: then it is SKIPPED. LESSON_FALLBACK in head mode
640 000 ticks after the last Bell issues one, sets FALLBACK, leaves head mode and is event 0x58. -/
def Obligations.BellRequestsAndPeriods : Prop :=
  (∀ (s : State) (core group : Nat), s.reaches core .caretaker bellReqAddr → group < 255 → 
    ∃ t, exec (.bellReqApply core group) s = .next t ∧
      t.bell.applyQ = s.bell.applyQ ++ [{ who := core % 4, what := group }] ∧ t.bell.latchQ = s.bell.latchQ ∧ t.bell.barrierQ = s.bell.barrierQ) ∧
  (∀ (s : State) (core mask : Nat) (extra : Bool), s.reaches core .caretaker bellReqAddr → mask < 2 ^ 16 → 
    ∃ t, exec (.bellReqJointApply core mask extra) s = .next t ∧
      t.bell.applyQ = s.bell.applyQ ++ [{ who := core % 4, what := 0xFF, mask := mask }] ∧ t.bell.latchQ = s.bell.latchQ ∧ t.bell.barrierQ = s.bell.barrierQ ∧
      (if extra then s.tells t .caretaker 0x01 else t.ports = s.ports)) ∧
  (∀ (s : State) (core points : Nat), s.reaches core .caretaker bellReqAddr → points < 256 → 
    ∃ t, exec (.bellReqLatch core points) s = .next t ∧
      t.bell.latchQ = (match s.bell.latchQ with | [] => [points] | p :: r => (p ||| points) :: r) ∧
      t.bell.applyQ = s.bell.applyQ ∧ t.bell.barrierQ = s.bell.barrierQ) ∧
  (∀ (s : State) (core ident : Nat), s.reaches core .caretaker bellReqAddr → ident < 256 → 
    ∃ t, exec (.bellReqBarrier core ident) s = .next t ∧
      t.bell.barrierQ = s.bell.barrierQ ++ [{ who := core % 4, what := ident }] ∧ t.bell.applyQ = s.bell.applyQ ∧ t.bell.latchQ = s.bell.latchQ) ∧
  (∀ (s : State), (s.flag .BELL_STAT_ROOT0_OK = true ∨ s.flag .BELL_STAT_ROOT1_OK = true) → s.timerFires = true → 
    ∃ t, exec .periodBell s = .next t ∧
      t.fld .LT_COUNT = (s.fld .LT_COUNT + 1) % 2 ^ 32 ∧ t.fld .BELL_STAT_SEQ = (s.fld .BELL_STAT_SEQ + 1) % 2 ^ 16 ∧
      t.fld .LT_LAST = s.ts) ∧
  (∀ (s : State) (m : Nat) (falling : Bool), s.headOccurs m falling = true → s.eng.divCount < s.fld .LT_CFG_DIV → 
    ∃ t, exec (.headEvent m falling) s = .next t ∧
      t.eng.divCount = s.eng.divCount + 1 ∧ t.fld .LT_COUNT = s.fld .LT_COUNT) ∧
  (∀ (s : State) (m : Nat) (falling : Bool), (s.flag .BELL_STAT_ROOT0_OK = true ∨ s.flag .BELL_STAT_ROOT1_OK = true) → s.headOccurs m falling = true → s.fld .LT_CFG_DIV ≤ s.eng.divCount → ∀ u ∈ s.eng.lastBell, u + 3200 ≤ s.tb → 
    ∃ t, exec (.headEvent m falling) s = .next t ∧
      t.fld .LT_COUNT = (s.fld .LT_COUNT + 1) % 2 ^ 32 ∧ t.fld .LT_LAST = s.ts ∧ t.fld .LT_STAT_HEADMODE = 1 ∧
      t.eng.divCount = 0) ∧
  (∀ (s : State) (m u : Nat) (falling : Bool), s.headOccurs m falling = true → s.fld .LT_CFG_DIV ≤ s.eng.divCount → s.eng.lastBell = some u → s.tb < u + 3200 → 
    ∃ t, exec (.headEvent m falling) s = .next t ∧
      t.fld .LT_STAT_SKIPPED = 1 ∧ t.fld .LT_COUNT = s.fld .LT_COUNT ∧ t.eng.divCount = 0) ∧
  (∀ (s : State), (s.flag .BELL_STAT_ROOT0_OK = true ∨ s.flag .BELL_STAT_ROOT1_OK = true) → s.fld .LT_CFG_SRC = 2 → s.flag .LT_STAT_HEADMODE = true → s.bellLate = true → 
    ∃ t, exec .lessonFallback s = .next t ∧
      t.fld .LT_STAT_FALLBACK = 1 ∧ t.fld .LT_STAT_HEADMODE = 0 ∧ t.fld .LT_COUNT = (s.fld .LT_COUNT + 1) % 2 ^ 32 ∧
      t.fld .LT_LAST = s.ts)

/-- With a root in service, BELL_ALONE while a request waits issues a Bell: SEQ counts, its word names the next APPLY
where the timer is off, and unless that is a joint one the LATCH that waits and the next BARRIER, whose barrier
begins, waiting for the sites that answer. BARRIER_COMPLETE ends the oldest barrier with BAR_DONE, its identifier and
the tick; BARRIER_TIMEOUT ends it with BAR_TO, the missing sites it waited for in BELL_MISS0 and BELL_MISS1, and event
0x05. A Bell copy divergence between two working roots counts and is event 0x04, and retires nothing while fewer than
two others within the second point to the root; the third retires that root, and the other stays in service. -/
def Obligations.BellsAndBarriers : Prop :=
  (∀ (s : State) (w : BellWord), (s.flag .BELL_STAT_ROOT0_OK = true ∨ s.flag .BELL_STAT_ROOT1_OK = true) → w = s.nextWord false (s.fld .LT_CFG_SRC = 0) → w.apply = true ∨ w.latch = true ∨ w.barrier = true → 
    ∃ t, exec .bellAlone s = .next t ∧
      t.bell.lastWord = w ∧ t.bell.sent = w.bits ∧ t.fld .BELL_STAT_SEQ = (s.fld .BELL_STAT_SEQ + 1) % 2 ^ 16 ∧
      t.bell.applyQ = takeOut (if w.apply then s.nextApply else none) s.bell.applyQ ∧
      t.bell.barriers = s.bell.barriers ++ (if w.barrier then [{ id := w.barrierId, waited := t.sitesWaited }] else [])) ∧
  (∀ (s : State) (b : Barrier) (r : List Barrier), s.bell.barriers = b :: r → b.id < 256 → 
    ∃ t, exec .barrierComplete s = .next t ∧
      t.bell.barriers = r ∧ t.fld .BELL_STAT_BAR_DONE = 1 ∧ t.fld .BELL_STAT_BAR_ID = b.id ∧ t.fld .BELL_BART = s.ts) ∧
  (∀ (s : State) (b : Barrier) (r : List Barrier) (missing : Nat), s.bell.barriers = b :: r → b.id < 256 → b.waited < 2 ^ 60 → 
    ∃ t, exec (.barrierTimeout missing) s = .next t ∧
      t.bell.barriers = r ∧ t.fld .BELL_STAT_BAR_TO = 1 ∧ t.fld .BELL_STAT_BAR_ID = b.id ∧
      t.fld .BELL_MISS0 + 2 ^ 32 * t.fld .BELL_MISS1 = missing &&& b.waited ∧ s.tells t .caretaker 0x05) ∧
  (∀ (s : State) (root : Nat), root < 2 → s.flag .BELL_STAT_ROOT0_OK = true → s.flag .BELL_STAT_ROOT1_OK = true → ((if root = 0 then s.bell.div0 else s.bell.div1).filter (fun u => s.tb < u + tickSecond)).length < 2 → 
    ∃ t, exec (.bellCopyDivergence root) s = .next t ∧
      t.fld .BELL_DIV_DIVERGE = satInc 16 (s.fld .BELL_DIV_DIVERGE) ∧ s.tells t .caretaker 0x04 ∧
      t.flag .BELL_STAT_ROOT0_OK = true ∧ t.flag .BELL_STAT_ROOT1_OK = true) ∧
  (∀ (s : State) (root : Nat), root < 2 → s.flag .BELL_STAT_ROOT0_OK = true → s.flag .BELL_STAT_ROOT1_OK = true → 2 ≤ ((if root = 0 then s.bell.div0 else s.bell.div1).filter (fun u => s.tb < u + tickSecond)).length → 
    ∃ t, exec (.bellCopyDivergence root) s = .next t ∧
      t.fld .BELL_DIV_DIVERGE = satInc 16 (s.fld .BELL_DIV_DIVERGE) ∧ t.flag (rootOk root) = false ∧
      t.flag (rootOk (1 - root)) = true)

/-- SAMPLE_WORD_OFFER on a free spine, where no earlier word of its SOURCE waits on another, makes the offered word
the newest of its SOURCE. On a busy spine it joins the words that wait; with eight words of its producer waiting it is
dropped: FAB_DROP counts and event 0x03 is queued. HANDSHAKE_STALL between islands in use counts CH_STALL; for a
silent island with no repair of its own it is event 0x02; a silent Tutor core is held in reset too. -/
def Obligations.SampleFabric : Prop :=
  (∀ (s : State) (result reason source ts : Nat) (subst inj : Bool), ∀ x ∈ s.fab.waiting, x.source ≠ source → 
    ∃ t, exec (.sampleWordOffer result reason source ts subst inj true) s = .next t ∧
      t.newest source = some (mkWord result reason source ts subst inj)) ∧
  (∀ (s : State) (result reason source ts : Nat) (subst inj : Bool), (s.fab.waiting.filter (fun x => x.source == source && x.subst == subst)).length < 8 → 
    ∃ t, exec (.sampleWordOffer result reason source ts subst inj false) s = .next t ∧
      t.fab.waiting = s.fab.waiting ++ [mkWord result reason source ts subst inj]) ∧
  (∀ (s : State) (result reason source ts : Nat) (subst inj : Bool), 8 ≤ (s.fab.waiting.filter (fun x => x.source == source && x.subst == subst)).length → 
    ∃ t, exec (.sampleWordOffer result reason source ts subst inj false) s = .next t ∧
      t.fab.waiting = s.fab.waiting ∧ t.fld .FAB_DROP = satInc 32 (s.fld .FAB_DROP) ∧ s.tells t .caretaker 0x03) ∧
  (∀ (s : State) (silent other : Nat) (receiver : Bool), 35 ≤ silent → silent < 48 → islandUsed other = true → 
    ∃ t, exec (.handshakeStall silent other receiver none) s = .next t ∧
      t.fld .CH_STALL = satInc 32 (s.fld .CH_STALL) ∧ s.tells t .caretaker 0x02) ∧
  (∀ (s : State) (c other : Nat) (receiver : Bool), c < 4 → islandWing other = none → islandUsed other = true → 
    ∃ t, exec (.handshakeStall (14 + c) other receiver none) s = .next t ∧
      t.tut.heldReset.testBit c = true ∧ t.fld .CH_STALL = satInc 32 (s.fld .CH_STALL))

/-- With open-ball tests enabled, OPEN_BALL_TEST of a signal whose receiver changed (signals 1 to 15 where the Prefect
is fitted) sets its bit of OPEN_SIG and is event 0x06; that ball counts as open, and one whose receiver did not change
does not. SUPPLY_BALL_OPEN with a mean current of at least 10 mA a ball ends the untested state of its pair, and sets
the pair's bit with event 0x06 if a ball carries less than a quarter of the mean; of a large group it ends its
untested state, and counts each such ball not counted before, up to 15. IO_BANK_CHANGE to another class shows it in
IOB_STAT, sets CHG and is event 0x07. -/
def Obligations.BallsAndBanks : Prop :=
  (∀ (s : State) (sig : Nat) (second changed : Bool), s.flag .OPEN_CFG_EN = true → sig < 16 → sig = 0 ∨ s.prefectFitted = true → 
    ∃ t, exec (.openBallTest ⟨sig, second⟩ changed) s = .next t ∧
      t.ct.openBalls.testBit (2 * sig + second.toNat) = changed ∧
      (if changed then t.bit .OPEN_SIG_SIG 0 sig = true ∧ s.reports t .caretaker 0x06
       else t = { s with ct := { s.ct with openBalls := t.ct.openBalls } })) ∧
  (∀ (s : State) (which : Nat) (amps : List Nat), s.flag .OPEN_CFG_EN = true → which < 9 → meanEnough 2 amps = true → 
    ∃ t, exec (.supplyBallOpen (.pair which) amps) s = .next t ∧
      t.bit .OPEN_UNT_PAIR_U 0 which = false ∧
      (if lowBalls 2 amps = [] then t.bit .OPEN_PAIR_PAIR 0 which = s.bit .OPEN_PAIR_PAIR 0 which
       else t.bit .OPEN_PAIR_PAIR 0 which = true ∧ s.reports t .caretaker 0x06)) ∧
  (∀ (s : State) (which n : Nat) (amps : List Nat), s.flag .OPEN_CFG_EN = true → which < 8 → n = groupBalls which s.sizeCode → meanEnough n amps = true → 
    ∃ t, exec (.supplyBallOpen (.large which) amps) s = .next t ∧
      t.bit .OPEN_UNT_GRP_U 0 which = false ∧
      bits (t.fld .OPEN_GRP) (4 * which) 4 = min (bits (s.fld .OPEN_GRP) (4 * which) 4 +
        ((lowBalls n amps).filter (fun b => !(s.ct.openGroups.getD which 0).testBit b)).length) 15) ∧
  (∀ (s : State) (bank code : Nat), 1 ≤ bank → bank ≤ 4 → code < 4 → s.fld (bankFld bank) ≠ code → 
    ∃ t, exec (.ioBankChange bank code) s = .next t ∧
      t.fld (bankFld bank) = code ∧ t.bit .IOB_CHG_CHG 0 (bank - 1) = true ∧ s.tells t .caretaker 0x07)

/-- MAIN_SUPPLY_GOOD shows both monitors and MAIN good, ends a theft window, charges below the ceiling, and releases
power-good while the Caretaker runs; VANA_GOOD shows its monitor, MAIN where VCORE is good too, ends a window and
charges below the ceiling. VANA_FAIL shows it failed, ends MAIN and the charger and withholds power-good; where that
was released it begins a reset of cause 4. VPF_GOOD starts a fitted Prefect in STATE 1 with its switches unread, its
hash 0 and its programmed slots; VPF_FAIL stops it with its force active. CARETAKER_START after a stop runs with COLD
set, the RTC at zero, no record of repairs and fault epoch 0, power-good as the monitors stand; CARETAKER_STOP without
VANA ends it with its SRAM and repairs lost and power-good withheld, and with VANA good does not stop it. STORE_FAULT
under VANA sets STFLT with event 0x08. -/
def Obligations.MonitorsAndCaretaker : Prop :=
  (∀ (s : State), 
    ∃ t, exec .mainSupplyGood s = .next t ∧
      t.fld .PWR_MON_VCORE_OK = 1 ∧ t.fld .PWR_MON_VANA_OK = 1 ∧ t.fld .CT_STAT_MAIN = 1 ∧
      t.ct.powerGood = s.ct.running ∧ t.bur.window = false ∧ (s.belowCeiling = true → t.fld .CT_STAT_CHG = 1)) ∧
  (∀ (s : State), 
    ∃ t, exec .vanaGood s = .next t ∧
      t.fld .PWR_MON_VANA_OK = 1 ∧ t.flag .CT_STAT_MAIN = s.flag .PWR_MON_VCORE_OK ∧ t.bur.window = false ∧
      (s.belowCeiling = true → t.fld .CT_STAT_CHG = 1)) ∧
  (∀ (s : State), 
    ∃ t, exec .vanaFail s = .next t ∧
      t.fld .PWR_MON_VANA_OK = 0 ∧ t.fld .CT_STAT_MAIN = 0 ∧ t.fld .CT_STAT_CHG = 0 ∧ t.ct.powerGood = false ∧
      (s.ct.powerGood = true → s.resetBegun t 4)) ∧
  (∀ (s : State), s.prefectFitted = true → s.pf.vpfGood = false → 
    ∃ t, exec .vpfGood s = .next t ∧
      t.pf.vpfGood = true ∧ t.fld .PF_STAT_STATE = 1 ∧ t.pf.slots = s.pf.slots ∧ t.pf.cfgRead = false ∧ ∀ j < 4, t.fld .PF_HASH j = 0) ∧
  (∀ (s : State), s.prefectFitted = true → 
    ∃ t, exec .vpfFail s = .next t ∧
      t.pf.vpfGood = false ∧ t.gate.force = true ∧ t.pf.sprOut = false) ∧
  (∀ (s : State), s.ct.running = false → 
    ∃ t, exec .caretakerStart s = .next t ∧
      t.ct.running = true ∧ t.fld .CT_STAT_COLD = 1 ∧ t.clk.rtc = 0 ∧ t.integ.repairs = [] ∧ t.fld .RING_EPOCH = 0 ∧
      t.ct.powerGood = (s.flag .PWR_MON_VCORE_OK && s.flag .PWR_MON_VANA_OK)) ∧
  (∀ (s : State), s.ct.running = true → 
    ∃ t, exec .caretakerStop s = .next t ∧
      (if s.flag .PWR_MON_VANA_OK then t = s
       else t.ct.running = false ∧ t.ct.powerGood = false ∧ t.ct.sram = [] ∧ t.integ.repairs = [])) ∧
  (∀ (s : State), s.ct.running = true → s.flag .PWR_MON_VANA_OK = true → 
    ∃ t, exec .storeFault s = .next t ∧
      t.fld .CT_STAT_STFLT = 1 ∧ s.tells t .caretaker 0x08)

/-- Where a core may store to PWR_SW, a write that would open the switch of a Wing holding the pass, or any switch in
Split mode, is discarded with event 0x01; any other clears the overcurrent flags where it says so, opens each closed
switch written 0, whose Wing is OFF then, and closes each open one written 1 whose flag is clear. WING_POWER_GOOD of a
closed switch without power good shows it and starts the Wing in BOOT. SWITCH_OVERCURRENT opens PD1 or PD2 with its
flag and event 0x08 and the Wing OFF; of PD3 or PD5 it begins a droop reset; of PD6 too, after a fault of the Ports
domain, so that the fault epoch counts twice. -/
def Obligations.WingSwitches : Prop :=
  (∀ (s : State) (core : Nat) (pd1 pd2 clr1 clr2 : Bool), s.reaches core .caretaker 0x4C000440 → (pd1 = false ∧ s.flag .PWR_SW_PD1_ON = true ∧ (s.pass .a = true ∨ s.split = true)) ∨
      (pd2 = false ∧ s.flag .PWR_SW_PD2_ON = true ∧ (s.pass .b = true ∨ s.split = true)) → 
    ∃ t, exec (.pwrSwWrite core pd1 pd2 clr1 clr2) s = .next t ∧
      (t.flag .PWR_SW_PD1_ON, t.flag .PWR_SW_PD2_ON, t.flag .PWR_SW_PD1_OC, t.flag .PWR_SW_PD2_OC) =
        (s.flag .PWR_SW_PD1_ON, s.flag .PWR_SW_PD2_ON, s.flag .PWR_SW_PD1_OC, s.flag .PWR_SW_PD2_OC) ∧
      s.tells t .caretaker 0x01) ∧
  (∀ (s : State) (core : Nat) (pd1 pd2 clr1 clr2 : Bool), s.reaches core .caretaker 0x4C000440 → pd1 = true ∨ s.flag .PWR_SW_PD1_ON = false ∨ (s.pass .a = false ∧ s.split = false) → pd2 = true ∨ s.flag .PWR_SW_PD2_ON = false ∨ (s.pass .b = false ∧ s.split = false) → 
    ∃ t, exec (.pwrSwWrite core pd1 pd2 clr1 clr2) s = .next t ∧
      t.flag .PWR_SW_PD1_OC = (s.flag .PWR_SW_PD1_OC && !clr1) ∧ t.flag .PWR_SW_PD2_OC = (s.flag .PWR_SW_PD2_OC && !clr2) ∧
      t.flag .PWR_SW_PD1_ON = (pd1 && (s.flag .PWR_SW_PD1_ON || clr1 || !s.flag .PWR_SW_PD1_OC)) ∧
      t.flag .PWR_SW_PD2_ON = (pd2 && (s.flag .PWR_SW_PD2_ON || clr2 || !s.flag .PWR_SW_PD2_OC)) ∧
      (pd1 = false → s.flag .PWR_SW_PD1_ON = true → t.wing .a = .off) ∧
      (pd2 = false → s.flag .PWR_SW_PD2_ON = true → t.wing .b = .off)) ∧
  (∀ (s : State) (w : Wing), s.flag (pdOn w) = true → s.flag (pdPg w) = false → 
    ∃ t, exec (.wingPowerGood w) s = .next t ∧
      t.flag (pdPg w) = true ∧ t.wing w = .boot) ∧
  (∀ (s : State), 
    ∃ t, exec (.switchOvercurrent 1) s = .next t ∧
      t.flag .PWR_SW_PD1_ON = false ∧ t.fld .PWR_SW_PD1_OC = 1 ∧ t.wing .a = .off ∧ s.reports t .caretaker 0x08) ∧
  (∀ (s : State), 
    ∃ t, exec (.switchOvercurrent 2) s = .next t ∧
      t.flag .PWR_SW_PD2_ON = false ∧ t.fld .PWR_SW_PD2_OC = 1 ∧ t.wing .b = .off ∧ s.reports t .caretaker 0x08) ∧
  (∀ (s : State) (pd : Nat), pd = 3 ∨ pd = 5 → 
    ∃ t, exec (.switchOvercurrent pd) s = .next t ∧
      s.resetBegun t 4 ∧ (pd = 3 → t.rst.satchelLost = true)) ∧
  (∀ (s : State), 
    ∃ t, exec (.switchOvercurrent 6) s = .next t ∧
      t.rst.phase = .fuses ∧ t.rst.cause = 4 ∧ t.fld .RING_EPOCH = (s.fld .RING_EPOCH + 2) % 2 ^ 32 ∧ t.fld .HP_STAT_HOLDER = 0)

/-- HARVEST_STATE_CHANGE shows whether HARV_SET is out of range and whether the harvester delivers, which it does
below the ceiling and in range, and which stops the cell path; CELL_PATH_ON conducts with a cell, below the ceiling,
while the harvester does not deliver; CELL_PATH_OFF stops it; CELL_REMOVED stops it too, clears CELLP, keeps the
charge count and is event 0x08; CELL_INSERTED shows the cell; STORE_CEILING_REACHED stops every path.
STORE_CAP_MEASURED after a rise by the charger alone keeps 9.5 mA times Δt over 0.2 V, up to 0xFFFF (the model's
choice, log entry 102); after any other rise nothing. Where a core may store to PWR_CELL, a write keeps the nearest
codes, and is discarded with event 0x01 where OFF would be below ON + 0.04 V. While the Caretaker runs GAUGE_SAMPLE
shows both samples, E_avail of them, a low cell, and charges under VANA up to the ceiling. -/
def Obligations.StoreAndCell : Prop :=
  (∀ (s : State) (delivering setFault : Bool), 
    ∃ t, exec (.harvestStateChange delivering setFault) s = .next t ∧
      t.flag .CT_STAT_SETFLT = setFault ∧ t.flag .CT_STAT_HARV = (delivering && !setFault && s.belowCeiling) ∧
      (t.flag .CT_STAT_HARV = true → t.flag .CT_STAT_CELLON = false)) ∧
  (∀ (s : State), s.flag .CT_STAT_HARV = false → s.flag .CT_STAT_CELLP = true → s.belowCeiling = true → 
    ∃ t, exec .cellPathOn s = .next t ∧
      t.fld .CT_STAT_CELLON = 1) ∧
  (∀ (s : State), 
    ∃ t, exec .cellPathOff s = .next t ∧
      t.fld .CT_STAT_CELLON = 0) ∧
  (∀ (s : State), 
    ∃ t, exec .cellRemoved s = .next t ∧
      t.fld .CT_STAT_CELLP = 0 ∧ t.fld .CT_STAT_CELLON = 0 ∧ t.fld .PWR_CELLQ = s.fld .PWR_CELLQ ∧
      s.tells t .caretaker 0x08) ∧
  (∀ (s : State), 
    ∃ t, exec .cellInserted s = .next t ∧
      t.fld .CT_STAT_CELLP = 1) ∧
  (∀ (s : State), 
    ∃ t, exec .storeCeilingReached s = .next t ∧
      t.fld .CT_STAT_HARV = 0 ∧ t.fld .CT_STAT_CELLON = 0 ∧ t.fld .CT_STAT_CHG = 0) ∧
  (∀ (s : State) (dtMs : Nat), 
    ∃ t, exec (.storeCapMeasured dtMs) s = .next t ∧
      t.fld .GAUGE_CAP_CAP = if s.ct.riseSpoiled = false ∧ s.othersFill = false ∧ s.flag .CT_STAT_CHG = true
        then min (dtMs * 475 / 10000) 0xFFFF else s.fld .GAUGE_CAP_CAP) ∧
  (∀ (s : State) (core on off low ilim : Nat), s.reaches core .caretaker 0x4C000408 → ilim < 4 → min on 170 + 2 ≤ min off 170 → 
    ∃ t, exec (.pwrCellWrite core on off low ilim) s = .next t ∧
      (t.fld .PWR_CELL_ON, t.fld .PWR_CELL_OFF, t.fld .PWR_CELL_LOW, t.fld .PWR_CELL_ILIM) =
        (min on 170, min off 170, max 25 (min low 95), ilim)) ∧
  (∀ (s : State) (core on off low ilim : Nat), s.reaches core .caretaker 0x4C000408 → min off 170 < min on 170 + 2 → 
    ∃ t, exec (.pwrCellWrite core on off low ilim) s = .next t ∧
      (t.fld .PWR_CELL_ON, t.fld .PWR_CELL_OFF, t.fld .PWR_CELL_LOW, t.fld .PWR_CELL_ILIM) =
        (s.fld .PWR_CELL_ON, s.fld .PWR_CELL_OFF, s.fld .PWR_CELL_LOW, s.fld .PWR_CELL_ILIM) ∧ s.tells t .caretaker 0x01) ∧
  (∀ (s : State) (vstore vcell used : Nat), s.ct.running = true → vstore < 4096 → vcell < 4096 → 
    ∃ t, exec (.gaugeSample vstore vcell used) s = .next t ∧
      t.fld .GAUGE_V_VSTORE = vstore ∧ t.fld .GAUGE_V_VCELL = vcell ∧ t.fld .GAUGE_E = t.eAvail ∧
      t.flag .CT_STAT_CELLLOW = decide (15 * vcell < 20000 + 200 * s.fld .PWR_CELL_LOW) ∧
      t.flag .CT_STAT_CHG = (s.flag .PWR_MON_VANA_OK && t.belowCeiling))

/-- While the Caretaker runs and no burst does, ADMISSION_REQUEST by the controller under VCORE, or without it by the
Caretaker for no erase, starts the burst if E_avail covers cost and reserve; the Caretaker then holds the port.
Otherwise no burst starts: REFUSED is set, with event 0x08, and one final record is written if the counters have
changed, E_avail covers WAKE and FINAL and a slot is free. The Caretaker never erases: its request with an erase
changes nothing. BURST_COMPLETE of a burst with no operation left ends it, and with nothing waiting none runs.
CARETAKER_TAKE_PORT without VCORE sets LIBOWN and takes the flash out of octal mode; CARETAKER_RELEASE_PORT clears
LIBOWN once the main supply is back and its burst has ended. -/
def Obligations.BurstAdmission : Prop :=
  (∀ (s : State) (l : List Nat) (byC : Bool), s.ct.running = true → s.ct.burst = false → s.lib.queue = [] → byC = !s.flag .PWR_MON_VCORE_OK → byC = true → caretakerMay l = true → s.burstCost l + s.admReserve ≤ s.eAvail → 
    ∃ t, exec (.admissionRequest l byC) s = .next t ∧
      t.ct.burst = true ∧ t.ct.burstOwn = byC ∧ (byC = true → t.fld .CT_STAT_LIBOWN = 1)) ∧
  (∀ (s : State) (l : List Nat) (byC : Bool), s.ct.running = true → s.ct.burst = false → s.lib.queue = [] → byC = !s.flag .PWR_MON_VCORE_OK → byC = true → caretakerMay l = true → s.eAvail < s.burstCost l + s.admReserve → 
    ∃ t, exec (.admissionRequest l byC) s = .next t ∧
      t.ct.burst = false ∧ t.fld .CT_STAT_REFUSED = 1 ∧ s.reports t .caretaker 0x08 ∧
      t.lib.finals.length = s.lib.finals.length +
        (if s.ct.changed = true ∧ s.fld .GAUGE_COST_COST 0 + s.fld .GAUGE_COST_COST 4 ≤ s.eAvail ∧ 0 < s.lib.finalFree then 1 else 0)) ∧
  (∀ (s : State) (l : List Nat), caretakerMay l = false → s.lib.queue = [] → 
    ∃ t, exec (.admissionRequest l true) s = .next t ∧
      t = s) ∧
  (∀ (s : State), ∀ b ∈ s.lib.burst, b.ops = [] → s.lib.queue = [] → s.integ.repairs.length ≤ s.repairCopy.length → 
    ∃ t, exec .burstComplete s = .next t ∧
      t.ct.burst = false ∧ t.ct.burstOwn = false ∧ (s.lib.burst.isSome → t.lib.burst = none)) ∧
  (∀ (s : State), s.ct.running = true → s.flag .PWR_MON_VCORE_OK = false → 
    ∃ t, exec .caretakerTakePort s = .next t ∧
      t.fld .CT_STAT_LIBOWN = 1 ∧ t.flag .LIB_STAT_OCT = false) ∧
  (∀ (s : State), s.flag .CT_STAT_MAIN = true → s.ct.burst = false ∨ s.ct.burstOwn = false → 
    ∃ t, exec .caretakerReleasePort s = .next t ∧
      t.flag .CT_STAT_LIBOWN = false)

/-- With XIN present PLL_LOCK of a loop that runs sets its lock bit. PLL_UNLOCK of E0 clears its bit; where the Edge
domain runs from it, it moves to a locked E1 with E_SEL, E_SW and event 0x09, and without one a reset of cause 5 is
requested; of E1 it requests that where the Edge domain runs from it, or E0 is unlocked too; of PLL_A or PLL_B it
clears the bit and abandons the runs of that Wing's engines, without a reset; of PLL_C or PLL_N it requests the reset.
XIN_LOST clears XIN_OK, sets XIN_LOST, gates the clocks and requests it. Where a core may store to CLK_EN, a write
starts and stops PLL_A and PLL_B, a stopped one losing its lock; one that would stop a Wing that holds the pass, or
any in Split mode, is discarded with event 0x01. -/
def Obligations.PllsAndEdgeClock : Prop :=
  (∀ (s : State) (loop : Nat), loop < 6 → s.pllRuns loop = true → s.clk.gated = false → 
    ∃ t, exec (.pllLock loop) s = .next t ∧
      t.flag (lockFld loop) = true) ∧
  (∀ (s : State), s.flag .CLK_STAT_E0_LK = true → 
    ∃ t, exec (.pllUnlock 0) s = .next t ∧
      t.flag .CLK_STAT_E0_LK = false ∧
      (if s.flag .CLK_STAT_E_SEL then t.rst = s.rst
       else if s.flag .CLK_STAT_E1_LK then t.fld .CLK_STAT_E_SEL = 1 ∧ t.fld .CLK_STAT_E_SW = 1 ∧ s.reports t .caretaker 0x09
       else t.rst.requested = some 5)) ∧
  (∀ (s : State), s.flag .CLK_STAT_E1_LK = true → 
    ∃ t, exec (.pllUnlock 1) s = .next t ∧
      t.flag .CLK_STAT_E1_LK = false ∧
      (if s.clk.gated = true ∨ s.flag .CLK_STAT_E_SEL = true ∨ s.flag .CLK_STAT_E0_LK = false then t.rst.requested = some 5
       else t.rst = s.rst)) ∧
  (∀ (s : State) (w : Wing), s.flag (lockFld (2 + w.num)) = true → 
    ∃ t, exec (.pllUnlock (2 + w.num)) s = .next t ∧
      t.flag (lockFld (2 + w.num)) = false ∧ t.rst = s.rst ∧ ∀ n < 12, engineWing n = w → t.running n = false) ∧
  (∀ (s : State) (loop : Nat), loop = 4 ∨ loop = 5 → s.flag (lockFld loop) = true → 
    ∃ t, exec (.pllUnlock loop) s = .next t ∧
      t.flag (lockFld loop) = false ∧ t.rst.requested = some 5) ∧
  (∀ (s : State), 
    ∃ t, exec .xinLost s = .next t ∧
      t.fld .CLK_STAT_XIN_OK = 0 ∧ t.fld .CLK_STAT_XIN_LOST = 1 ∧ t.clk.gated = true ∧ t.rst.requested = some 5) ∧
  (∀ (s : State) (core : Nat) (a b : Bool), s.reaches core .caretaker 0x4C001004 → a = true ∨ s.flag .CLK_EN_PLLA_EN = false ∨ (s.pass .a = false ∧ s.split = false) → b = true ∨ s.flag .CLK_EN_PLLB_EN = false ∨ (s.pass .b = false ∧ s.split = false) → 
    ∃ t, exec (.clkEnWrite core a b) s = .next t ∧
      t.flag .CLK_EN_PLLA_EN = a ∧ t.flag .CLK_EN_PLLB_EN = b ∧ t.flag .CLK_STAT_A_LK = (a && s.flag .CLK_STAT_A_LK) ∧
      t.flag .CLK_STAT_B_LK = (b && s.flag .CLK_STAT_B_LK)) ∧
  (∀ (s : State) (core : Nat) (a b : Bool), s.reaches core .caretaker 0x4C001004 → (a = false ∧ s.flag .CLK_EN_PLLA_EN = true ∧ (s.pass .a = true ∨ s.split = true)) ∨
      (b = false ∧ s.flag .CLK_EN_PLLB_EN = true ∧ (s.pass .b = true ∨ s.split = true)) → 
    ∃ t, exec (.clkEnWrite core a b) s = .next t ∧
      t.flag .CLK_EN_PLLA_EN = s.flag .CLK_EN_PLLA_EN ∧ t.flag .CLK_EN_PLLB_EN = s.flag .CLK_EN_PLLB_EN ∧
      s.tells t .caretaker 0x01)

/-- Where a core may load it, TB_LO_READ returns the low word and latches the high word of the same tick. PPS_PULSE at
its phase drives PPS_OUT until PPS_PULSE_END. PHASE_STEP in a tick without a step takes one step off a rate demand and
moves one tick; without one, one off SYNC_ERR; two opposite demands cancel, both taken and no tick moved. The count
stays. With VIO3 present and the Edge clock running, SYNC_IN_EDGE in ALIGN without a pass moves the timebase forward
to the next count congruent to SYNC_OFS modulo SYNC_PER, begins the tick at the edge, and returns MODE to Off; with
one it only sets REFUSED. In TRACK it loads SYNC_ERR with the distance, or beyond SYNC_PER / 4 sets REFUSED. With
OUTEN set and OUTSRC clear SYNC_OUT relays it; with both set SYNC_OUT_PULSE at a multiple of SYNC_PER drives it.
SYNC_MISSED in TRACK sets MISSED with event 0x09. -/
def Obligations.TimebaseAndSync : Prop :=
  (∀ (s : State) (core : Nat), s.loads core .caretaker 0x4C00101C → s.tb < 2 ^ 64 → 
    ∃ t, exec (.tbLoRead core) s = .next t ∧
      t.tut.lastRead + 2 ^ 32 * t.fld .TB_HI = s.tb) ∧
  (∀ (s : State), s.flag .TB_PPS_EN = true → s.tb % 640000000 = s.fld .TB_PPS_PHASE → 
    ∃ t, exec .ppsPulse s = .next t ∧
      t.clk.ppsOut = true) ∧
  (∀ (s : State), 
    ∃ t, exec .ppsPulseEnd s = .next t ∧
      t.clk.ppsOut = false) ∧
  (∀ (s : State), s.clk.stepAt ≠ some s.tb → s.rateDemand ≠ 0 → s.rateDemand + s.phaseDemand ≠ 0 → 
    ∃ t, exec .phaseStep s = .next t ∧
      t.clk.rateAcc = s.clk.rateAcc - s.rateDemand * rateStep ∧ t.clk.moved = s.clk.moved - s.rateDemand ∧
      t.clk.stepAt = some s.tb ∧ t.tb = s.tb ∧ t.fld .SYNC_ERR_ERR = s.fld .SYNC_ERR_ERR) ∧
  (∀ (s : State), s.clk.stepAt ≠ some s.tb → s.rateDemand = 0 → s.phaseDemand ≠ 0 → 
    ∃ t, exec .phaseStep s = .next t ∧
      t.sfld .SYNC_ERR_ERR = s.sfld .SYNC_ERR_ERR + s.phaseDemand ∧ t.clk.moved = s.clk.moved - s.phaseDemand ∧
      t.clk.stepAt = some s.tb ∧ t.tb = s.tb ∧ t.clk.rateAcc = s.clk.rateAcc) ∧
  (∀ (s : State), s.clk.stepAt ≠ some s.tb → s.rateDemand ≠ 0 → s.rateDemand + s.phaseDemand = 0 → 
    ∃ t, exec .phaseStep s = .next t ∧
      t.clk.rateAcc = s.clk.rateAcc - s.rateDemand * rateStep ∧ t.sfld .SYNC_ERR_ERR = s.sfld .SYNC_ERR_ERR + s.phaseDemand ∧
      t.clk.moved = s.clk.moved ∧ t.tb = s.tb) ∧
  (∀ (s : State) (cycle fwd : Nat), s.bankOn 3 = true → s.edgeStopped = false → s.fld .CLK_SYNC_MODE = 1 → s.anyPass = false → fwd < s.fld .SYNC_PER → (s.tb + fwd) % s.fld .SYNC_PER = s.fld .SYNC_OFS % s.fld .SYNC_PER → 
    ∃ t, exec (.syncInEdge cycle) s = .next t ∧
      t.tb = (s.tb + fwd) % 2 ^ 64 ∧ t.fld .CLK_SYNC_MODE = 0 ∧ t.clk.moved = s.clk.moved + (cycle % 4 : Nat)) ∧
  (∀ (s : State) (cycle : Nat), s.bankOn 3 = true → s.edgeStopped = false → s.fld .CLK_SYNC_MODE = 1 → s.anyPass = true → 
    ∃ t, exec (.syncInEdge cycle) s = .next t ∧
      t.fld .CLK_SYNC_REFUSED = 1 ∧ t.fld .CLK_SYNC_MODE = 1 ∧ t.tb = s.tb) ∧
  (∀ (s : State) (cycle : Nat) (d : Int), s.bankOn 3 = true → s.edgeStopped = false → s.fld .CLK_SYNC_MODE = 2 → d = s.syncDistance (cycle % 4) → -(2 ^ 23) ≤ d → d < 2 ^ 23 → 
    ∃ t, exec (.syncInEdge cycle) s = .next t ∧
      (if d.natAbs ≤ s.fld .SYNC_PER then t.sfld .SYNC_ERR_ERR = d else t.fld .CLK_SYNC_REFUSED = 1) ∧ t.tb = s.tb) ∧
  (∀ (s : State) (cycle : Nat), s.bankOn 3 = true → s.edgeStopped = false → s.flag .CLK_SYNC_OUTEN = true → s.flag .CLK_SYNC_OUTSRC = false → 
    ∃ t, exec (.syncInEdge cycle) s = .next t ∧
      t.clk.relayed = some (t.tb, cycle % 4)) ∧
  (∀ (s : State), s.flag .CLK_SYNC_OUTEN = true → s.flag .CLK_SYNC_OUTSRC = true → s.tb % s.fld .SYNC_PER = 0 → 
    ∃ t, exec .syncOutPulse s = .next t ∧
      t.clk.syncOutAt = some s.tb) ∧
  (∀ (s : State), s.fld .CLK_SYNC_MODE = 2 → 
    ∃ t, exec .syncMissed s = .next t ∧
      t.fld .CLK_SYNC_MISSED = 1 ∧ s.tells t .caretaker 0x09)

/-- While the Caretaker runs RTC_SECOND counts one more second, begins a new fraction, and counts AGE of every slice.
RTC_CRYSTAL_STOP shows RCSRC and ends trimming, RTC_CRYSTAL_START clears RCSRC; RC_TRIM shows TRIMMED exactly with EN
set and the crystal running. Where a core may load it, RTC_SUB_READ returns fraction and RCSRC and latches RTC_SEC and
RTC_SECH of the same count. Where a core may store to RTC_SEC, a write commits it with the RTC_SECH held and clears
the fraction, and below the present count is discarded with event 0x01. -/
def Obligations.RealTimeClock : Prop :=
  (∀ (s : State), s.ct.running = true → 
    ∃ t, exec .rtcSecond s = .next t ∧
      t.clk.rtc = (s.clk.rtc + 1) % 2 ^ 48 ∧ t.fld .RTC_SUB_FRAC = 0 ∧ t.sec.violated = [] ∧
      ∀ x < 17, t.fld .SAR_CSTAT_AGE x = satInc (Fld.width .SAR_CSTAT_AGE) (s.fld .SAR_CSTAT_AGE x)) ∧
  (∀ (s : State), 
    ∃ t, exec .rtcCrystalStop s = .next t ∧
      t.fld .RTC_SUB_RCSRC = 1 ∧ t.fld .CT_RCTRIM_TRIMMED = 0 ∧ t.clk.crystal = false) ∧
  (∀ (s : State), 
    ∃ t, exec .rtcCrystalStart s = .next t ∧
      t.fld .RTC_SUB_RCSRC = 0 ∧ t.clk.crystal = true) ∧
  (∀ (s : State), 
    ∃ t, exec .rcTrim s = .next t ∧
      t.flag .CT_RCTRIM_TRIMMED = (s.flag .CT_RCTRIM_EN && s.clk.crystal)) ∧
  (∀ (s : State) (core : Nat), s.loads core .caretaker 0x4C001040 → s.clk.rtc < 2 ^ 48 → 
    ∃ t, exec (.rtcSubRead core) s = .next t ∧
      t.fld .RTC_SEC + 2 ^ 32 * t.fld .RTC_SECH_SECH = s.clk.rtc ∧
      t.tut.lastRead = s.fld .RTC_SUB_FRAC + 2 ^ 15 * s.fld .RTC_SUB_RCSRC) ∧
  (∀ (s : State) (core v : Nat), s.reaches core .caretaker 0x4C001044 → s.clk.rtc ≤ s.clk.sechHold * 2 ^ 32 + v % 2 ^ 32 → 
    ∃ t, exec (.rtcSecWrite core v) s = .next t ∧
      t.clk.rtc = s.clk.sechHold * 2 ^ 32 + v % 2 ^ 32 ∧ t.fld .RTC_SUB_FRAC = 0) ∧
  (∀ (s : State) (core v : Nat), s.reaches core .caretaker 0x4C001044 → s.clk.sechHold * 2 ^ 32 + v % 2 ^ 32 < s.clk.rtc → 
    ∃ t, exec (.rtcSecWrite core v) s = .next t ∧
      t.clk.rtc = s.clk.rtc ∧ s.tells t .caretaker 0x01)

/-- On a converting slot an occurrence of its event counts toward DIV, and the (DIV + 1)th is a trigger; free-run
triggers it between bursts; a software write triggers each slot it names with that source, and no other. While slots
convert, a core's SAR_INJ write of a bonded input joins a queue of fewer than four, or starts at once on an idle slot;
else it is discarded with event 0x0A, on a full queue with INJOVF. SAR_CONVERSION_COMPLETE outside a swap delivers the
word of the slice that serves the slot, own or Substitute, with its hold instant: RESULT of that slice's voltage,
REASON 4 before the reference is ready, else 1 or 0; without one the last valid RESULT with REASON 6, counted in
INVALID. The second overlapped conversion of an entry moves the slot to the Substitute if both pairs match within
MATCH_TOL, and else is a lost opportunity. REF_READY_SET shows the reference ready and starts a pending foreground
calibration; VREFP_OUT_OF_RANGE with the external one sets EXT_RANGE and clears REF_READY. FOREGROUND_CAL_COMPLETE
ends it, rotation at step 0. With rotation on, BACKGROUND_STEP_START begins the next step, or sets CALLATE while a
swap is unfinished; an entry or exit opportunity with an empty queue and the reference ready opens the overlapped
pair, and swaps a disabled slot at once; an entry's else is lost, the fourth skips the step with event 0x0A.
SLICE_CAL_COMPLETE of the step's slice, or in a foreground calibration of any, stores coefficients within their
limits; others are a failed calibration, the second in a row retiring the slice and stopping rotation. -/
def Obligations.SarTriggersAndConversions : Prop :=
  (∀ (s : State) (k : Nat), k < s.sar.slots.length → s.slotConverts k = true → 0 < (s.slot k).due → 
    ∃ t, exec (.sarBurstStart k) s = .next t ∧
      (if (s.slot k).divCount < s.fld .SAR_TRIG_DIV k then
        t.slot k = { s.slot k with due := (s.slot k).due - 1, divCount := (s.slot k).divCount + 1 }
       else (s.modSlot k (fun p => { p with due := p.due - 1, divCount := 0 })).triggered t k)) ∧
  (∀ (s : State) (k : Nat), k < s.sar.slots.length → s.slotConverts k = true → s.fld .SAR_TRIG_SRC k = 1 → (s.slot k).burst = false → 
    ∃ t, exec (.sarFreeRunTrigger k) s = .next t ∧
      s.triggered t k) ∧
  (∀ (s : State) (core mask k : Nat), s.reaches core .sar 0x42000018 → k < 16 → k < s.sar.slots.length → s.slotConverts k = true → 
    ∃ t, exec (.sarSwtrigWrite core mask) s = .next t ∧
      (if mask.testBit k = true ∧ s.fld .SAR_TRIG_SRC k = 4 then s.triggered t k else t.slot k = s.slot k)) ∧
  (∀ (s : State) (core k input ext : Nat), s.reaches core .sar (0x42000108 + 0x20 * k) → k < 16 → k < s.sar.slots.length → input < 4 → ext < 64 → s.bonded input = true → s.sarConverts = true → (s.slot k).injQ.length < 4 → (s.slot k).cur.isSome = true ∨ (s.slot k).injQ = [] → 
    ∃ t, exec (.sarInjWrite core k input ext) s = .next t ∧
      (if (s.slot k).cur.isSome then (t.slot k).injQ = (s.slot k).injQ ++ [(input, ext)] ∧ t.fld .SAR_STAT_INJQ k = (s.slot k).injQ.length + 1
       else (t.slot k).cur = some { input := input, ext := ext, inj := true } ∧ t.fld .SAR_STAT_INJQ k = 0)) ∧
  (∀ (s : State) (core k input ext : Nat), s.reaches core .sar (0x42000108 + 0x20 * k) → k < 16 → input < 4 → s.sarConverts = false ∨ s.bonded input = false ∨ 4 ≤ (s.slot k).injQ.length → 
    ∃ t, exec (.sarInjWrite core k input ext) s = .next t ∧
      (t.slot k).injQ = (s.slot k).injQ ∧ s.tells t .sar 0x0A ∧
      (s.sarConverts = true → s.bonded input = true → t.fld .SAR_STAT_INJOVF k = 1)) ∧
  (∀ (s : State) (k x vref hold : Nat) (own subst : Int) (c : SarConv), k < s.sar.slots.length → (s.slot k).cur = some c → (s.slot k).stalled = false → s.swapping k = false → s.servingSlice k = some x → 0 < s.vref vref → ∀ y ∈ s.fab.waiting, y.source ≠ 4 * k + c.input → 
    ∃ t, exec (.sarConversionComplete k own subst ⟨vref, hold⟩) s = .next t ∧
      ∃ w, t.newest (4 * k + c.input) = some w ∧ isResult w.result (if x = 16 then subst else own) (s.vref vref) ∧
      w.ts = hold % 2 ^ 32 ∧ w.inj = c.inj ∧ w.subst = decide (x = 16) ∧ w.valid = decide (w.reason = 0) ∧
      (if s.flag .SAR_REF_REF_READY then w.reason = 0 ∨ w.reason = 1 ∧ c.ext = 0 else w.reason = 4) ∧
      (t.slot k).lastTs = w.ts ∧ t.fld .SAR_LAST k = w.bits % 2 ^ 32) ∧
  (∀ (s : State) (k vref hold : Nat) (own subst : Int) (c : SarConv), k < s.sar.slots.length → (s.slot k).cur = some c → s.swapping k = false → (s.slot k).stalled = true ∨ s.servingSlice k = none → ∀ y ∈ s.fab.waiting, y.source ≠ 4 * k + c.input → 
    ∃ t, exec (.sarConversionComplete k own subst ⟨vref, hold⟩) s = .next t ∧
      ∃ w, t.newest (4 * k + c.input) = some w ∧ w.result = (s.slot k).lastValid % 2 ^ 18 ∧ w.reason = 6 ∧ w.valid = false ∧
      w.ts = hold % 2 ^ 32 ∧ t.fld .SAR_STAT_INVALID k = satInc 8 (s.fld .SAR_STAT_INVALID k)) ∧
  (∀ (s : State) (k vref hold a b : Nat) (own subst : Int) (c : SarConv), k < s.sar.slots.length → k < 16 → (s.slot k).cur = some c → (s.slot k).stalled = false → s.pairHold k hold = true → s.fld .SAR_CALPOS_PHASE = 1 → s.sar.pairDone = 1 → s.sar.lost < 3 → a < 2 ^ 18 → b < 2 ^ 18 → 0 < s.vref vref → own * 2 ^ 18 = a * s.vref vref → subst * 2 ^ 18 = b * s.vref vref → 
    ∃ t, exec (.sarConversionComplete k own subst ⟨vref, hold⟩) s = .next t ∧
      (if s.sar.pairBad = false ∧ absDiff a b ≤ s.fld .SAR_CAL_MATCH_TOL then t.fld .SAR_MAP_SUBSLOT = k ∧ t.fld .SAR_CALPOS_PHASE = 2
       else t.fld .SAR_MAP_SUBSLOT = s.fld .SAR_MAP_SUBSLOT ∧ t.fld .SAR_CALPOS_PHASE = 0 ∧ t.sar.lost = s.sar.lost + 1)) ∧
  (∀ (s : State), s.domainHeld 5 = false → 
    ∃ t, exec .refReadySet s = .next t ∧
      t.fld .SAR_REF_REF_READY = 1 ∧ t.fld .SAR_REF_EXT_RANGE = 0 ∧
      (s.sar.fgPending = true → s.groupRunning 1 = true → t.fld .SAR_CAL_FGCAL = 1)) ∧
  (∀ (s : State), s.fld .SAR_REF_SEL = 1 → s.domainHeld 5 = false → 
    ∃ t, exec .vrefpOutOfRange s = .next t ∧
      t.fld .SAR_REF_EXT_RANGE = 1 ∧ t.fld .SAR_REF_REF_READY = 0) ∧
  (∀ (s : State), s.flag .SAR_CAL_FGCAL = true → 
    ∃ t, exec .foregroundCalComplete s = .next t ∧
      t.flag .SAR_CAL_FGCAL = false ∧ t.fld .SAR_CALPOS_PHASE = 5 ∧ t.sar.nextStep = 0) ∧
  (∀ (s : State), s.sarConverts = true → s.flag .SAR_CAL_ROT_EN = true → s.flag .SAR_CAL_ROT_STOP = false → s.sar.nextStep ≤ 16 → s.fld .SAR_CALPOS_PHASE = 5 ∨ s.stepSlot < 16 → 
    ∃ t, exec .backgroundStepStart s = .next t ∧
      (if s.fld .SAR_CALPOS_PHASE = 5 then t.fld .SAR_CALPOS_STEP = s.sar.nextStep ∧ t.fld .SAR_CALPOS_PHASE = (if s.sar.nextStep = 16 then 2 else 0)
       else t.fld .SAR_CAL_CALLATE = 1 ∧ t.sar.stepDue = true)) ∧
  (∀ (s : State), s.fld .SAR_CALPOS_PHASE = 0 → s.stepSlot < 16 → s.bit .SAR_CTRL_SLOT_EN 0 s.stepSlot = true → (s.slot s.stepSlot).injQ = [] ∧ s.flag .SAR_REF_REF_READY = true → 
    ∃ t, exec .substEntryOpportunity s = .next t ∧
      (if s.bit .SAR_CTRL_SLOT_EN 0 s.stepSlot then t.fld .SAR_CALPOS_PHASE = 1 ∧ t.sar.pairDone = 0 ∧ t.sar.oppAt = s.ts
       else t.fld .SAR_CALPOS_PHASE = 2 ∧ t.fld .SAR_MAP_SUBSLOT = s.stepSlot)) ∧
  (∀ (s : State), s.fld .SAR_CALPOS_PHASE = 3 → s.stepSlot < 16 → s.bit .SAR_CTRL_SLOT_EN 0 s.stepSlot = true → (s.slot s.stepSlot).injQ = [] ∧ s.flag .SAR_REF_REF_READY = true → 
    ∃ t, exec .substExitOpportunity s = .next t ∧
      (if s.bit .SAR_CTRL_SLOT_EN 0 s.stepSlot then t.fld .SAR_CALPOS_PHASE = 4 ∧ t.sar.pairDone = 0 ∧ t.sar.oppAt = s.ts
       else t.fld .SAR_MAP_SUBSLOT = 0x1F)) ∧
  (∀ (s : State), s.fld .SAR_CALPOS_PHASE = 0 → s.stepSlot < 16 → s.bit .SAR_CTRL_SLOT_EN 0 s.stepSlot = true → (s.slot s.stepSlot).injQ ≠ [] ∨ s.flag .SAR_REF_REF_READY = false → s.sar.lost ≤ 3 → 
    ∃ t, exec .substEntryOpportunity s = .next t ∧
      (if s.sar.lost < 3 then t.sar.lost = s.sar.lost + 1 ∧ t.fld .SAR_CALPOS_PHASE = 0
       else t.bit .SAR_CALSKIP_SKIP 0 s.stepSlot = true ∧ s.tells t .sar 0x0A)) ∧
  (∀ (s : State) (slice : Nat) (ofs gain : Int) (ok : Bool), slice < 17 → s.sliceRetired slice = false → s.flag .SAR_CAL_FGCAL = true ∨ (s.fld .SAR_CALPOS_PHASE = 2 ∧ s.stepSlot = slice) → calInLimits ofs gain ok = true → 
    ∃ t, exec (.sliceCalComplete slice ofs gain ok) s = .next t ∧
      t.sfld .SAR_COFS_OFS slice = ofs ∧ t.sfld .SAR_CGAIN_GAIN slice = gain ∧ t.fld .SAR_CSTAT_OK slice = 1 ∧
      (s.flag .SAR_CAL_FGCAL = false → slice < 16 → t.fld .SAR_CALPOS_PHASE = 3) ∧
      (s.flag .SAR_CAL_FGCAL = false → slice = 16 → t.fld .SAR_CALPOS_ROUND = satInc 24 (s.fld .SAR_CALPOS_ROUND))) ∧
  (∀ (s : State) (slice : Nat) (ofs gain : Int) (ok : Bool), slice < 17 → slice < s.sar.fails.length → s.sliceRetired slice = false → s.flag .SAR_CAL_FGCAL = true ∨ (s.fld .SAR_CALPOS_PHASE = 2 ∧ s.stepSlot = slice) → calInLimits ofs gain ok = false → 
    ∃ t, exec (.sliceCalComplete slice ofs gain ok) s = .next t ∧
      t.fld .SAR_CSTAT_FAIL slice = 1 ∧ t.fld .SAR_COFS_OFS slice = s.fld .SAR_COFS_OFS slice ∧
      t.sliceRetired slice = decide (1 ≤ s.sar.fails.getD slice 0) ∧
      (1 ≤ s.sar.fails.getD slice 0 → t.fld .SAR_CAL_ROT_STOP = 1))

/-- MOD_CLOCK_LOST of a pin in a mode with a clock, by no edge or by more than 260 in input mode, sets CLKLOST and
CLKEV with event 0x0B. Each period of a running pin gives its channels the level at their edge and delay. The one that
fills a run of 32 × 2^STUCK sets LOST and EV, and with LOSSTRIP the guard trip; a change of level clears LOST, and
asserts the guard trip of a channel with no loss left. MOD_LOSS_END clears CLKLOST of a pin whose clock runs again, so
too its channels' guards. A period that is the decimation edge of a running channel, without SYNC the M-th and with it
the first after the event or M after the last, delivers a word with the centre instant of the output before, REASON as
the marks stand, and with no delay that output; on a lost one with REASON 5, counted in INVALID. With its response
full, a guard output outside LO to HI asserts an enabled guard's trip, counted if it was clear; one inside clears a
trip of R162 without a loss. Where a core may store to it, CLR = 1 clears a hold trip whose settled output is inside,
no loss holding it, and leaves one whose output is outside; CLR = 0 leaves it. Where one may store to MOD_FDLY, a
value stands, ramps in four steps from the delay in force and marks four words; a nonzero one of a synchronised
channel is discarded with event 0x01. -/
def Obligations.ModulatorChannels : Prop :=
  (∀ (s : State) (j m : Nat) (e : ClockLoss), j < 6 → s.pinOn j = true → e = .stopped j ∨ (e = .fast j m ∧ s.fld .MOD_CLK_MODE j = 2 ∧ 260 < m) → s.bit .MOD_STAT_CLKLOST 0 j = false → 
    ∃ t, exec (.modClockLost e) s = .next t ∧
      t.bit .MOD_STAT_CLKLOST 0 j = true ∧ t.bit .MOD_STAT_CLKEV 0 j = true ∧ s.reports t .modulator 0x0B) ∧
  (∀ (s u : State) (j n : Nat) (l : List MdClock) (k : MdClock) (b : Bool), u = s.feedPin j l → u.pinOn j = true → u.bankOn 2 = true → n < 24 → n / 4 = j → u.hasMd n = true → n < u.sd.length → b = ((if u.flag .MOD_CLK_EDGE j then k.atFall else k.atRise).getD (n % 4) 0).testBit (u.fld .MOD_CLK_DLY j) → u.bit .MOD_DLOST_LOST 0 n = false → (u.chan n).bits.head?.any (fun x => x.1 == b) = true → 32 * 2 ^ u.fld .MOD_CLK_STUCK j ≤ (u.chan n).run + 1 → 
    ∃ t, exec (.modDataLost ⟨j, l ++ [k]⟩) s = .next t ∧
      t.bit .MOD_DLOST_LOST 0 n = true ∧ t.bit .MOD_DLEV_EV 0 n = true ∧ u.reports t .modulator 0x0B ∧
      (u.flag .MOD_GCFG_LOSSTRIP n = true → t.flag .MOD_GCFG_TRIPPED n = true)) ∧
  (∀ (s u : State) (j n : Nat) (l : List MdClock) (k : MdClock) (b : Bool), s.bit .MOD_STAT_CLKLOST 0 j = false → u = s.feedPin j l → u.pinOn j = true → u.bankOn 2 = true → n < 24 → n / 4 = j → u.hasMd n = true → n < u.sd.length → b = ((if u.flag .MOD_CLK_EDGE j then k.atFall else k.atRise).getD (n % 4) 0).testBit (u.fld .MOD_CLK_DLY j) → u.bit .MOD_DLOST_LOST 0 n = true → (u.chan n).bits.head?.all (fun x => x.1 != b) = true → 
    ∃ t, exec (.modLossEnd j (l ++ [k])) s = .next t ∧
      t.bit .MOD_DLOST_LOST 0 n = false ∧ (u.bit .MOD_STAT_CLKLOST 0 j = false → t.flag .MOD_GCFG_TRIPPED n = true)) ∧
  (∀ (s : State) (j : Nat), j < 6 → s.pinOn j = true → s.bankOn 2 = true → s.bit .MOD_STAT_CLKLOST 0 j = true → 
    ∃ t, exec (.modLossEnd j []) s = .next t ∧
      t.bit .MOD_STAT_CLKLOST 0 j = false ∧
      ∀ n ∈ s.pinChans j, s.bit .MOD_DLOST_LOST 0 n = false → t.flag .MOD_GCFG_TRIPPED n = true) ∧
  (∀ (s u : State) (j n : Nat) (l : List MdClock) (k : MdClock) (b : Bool), u = s.feedPin j l → u.pinOn j = true → u.bankOn 2 = true → n < 24 → n / 4 = j → u.hasMd n = true → n < u.sd.length → b = ((if u.flag .MOD_CLK_EDGE j then k.atFall else k.atRise).getD (n % 4) 0).testBit (u.fld .MOD_CLK_DLY j) → u.bit .MOD_CTRL_CH_EN 0 n = true → u.groupRunning 2 = true → u.chanLost n = false → (u.chan n).bits.head?.all (fun x => x.1 != b) = true ∨ (u.chan n).run + 1 < 32 * 2 ^ u.fld .MOD_CLK_STUCK j → if u.fld .MOD_CFG_SYNC n = 1 then (u.chan n).syncDue = true ∨ u.fld .MOD_CFG_OSR n ≤ (u.chan n).since + 1
      else ((u.chan n).edges + 1) % u.fld .MOD_CFG_OSR n = 0 → 
    ∃ t, exec (.modDecimation j l k) s = .next t ∧
      ∃ w, t.newest (0x40 + n) = some w ∧ (∀ c ∈ (u.chan n).centre, w.ts = c % 2 ^ 32) ∧
      w.reason = (if 0 < (u.chan n).markLoss then 5 else if 0 < (u.chan n).markDelay then 3
        else if 0 < (u.chan n).markEn ∨ 0 < (u.chan n).markOrd then 2 else 0) ∧
      (u.fld .MOD_FDLY_FDLY n = 0 → 4 ≤ (u.chan n).rampStep → ∀ y ∈ (u.chan n).outs.head?, w.result = ofSigned 18 y) ∧
      (t.chan n).lastTs = w.ts ∧ t.fld .MOD_LAST n = w.bits % 2 ^ 32) ∧
  (∀ (s u : State) (j n : Nat) (l : List MdClock) (k : MdClock) (b : Bool), u = s.feedPin j l → u.pinOn j = true → u.bankOn 2 = true → n < 24 → n / 4 = j → u.hasMd n = true → n < u.sd.length → b = ((if u.flag .MOD_CLK_EDGE j then k.atFall else k.atRise).getD (n % 4) 0).testBit (u.fld .MOD_CLK_DLY j) → u.bit .MOD_CTRL_CH_EN 0 n = true → u.groupRunning 2 = true → u.bit .MOD_STAT_CLKLOST 0 j = true → u.fld .MOD_CFG_SYNC n ≠ 1 → ((u.chan n).edges + 1) % u.fld .MOD_CFG_OSR n = 0 → 
    ∃ t, exec (.modDecimation j l k) s = .next t ∧
      ∃ w, t.newest (0x40 + n) = some w ∧ w.reason = 5 ∧ w.valid = false ∧
      t.fld .MOD_STAT_INVALID n = satInc 8 (u.fld .MOD_STAT_INVALID n)) ∧
  (∀ (s u : State) (j n : Nat) (l : List MdClock) (k : MdClock) (b : Bool), u = s.feedPin j l → u.pinOn j = true → u.bankOn 2 = true → n < 24 → n / 4 = j → u.hasMd n = true → n < u.sd.length → b = ((if u.flag .MOD_CLK_EDGE j then k.atFall else k.atRise).getD (n % 4) 0).testBit (u.fld .MOD_CLK_DLY j) → u.flag .MOD_GCFG_GEN n = true → guardSpan (u.fld .MOD_CFG_GOSR n) ≤ (u.chan n).guardTaken + 1 → guardValue (u.fld .MOD_CFG_GOSR n) ((u.chan n).take b 0).levels < u.sfld .MOD_GTHR_LO n ∨ u.sfld .MOD_GTHR_HI n < guardValue (u.fld .MOD_CFG_GOSR n) ((u.chan n).take b 0).levels → 
    ∃ t, exec (.guardTripAssert j (l ++ [k])) s = .next t ∧
      t.flag .MOD_GCFG_TRIPPED n = true ∧
      (u.flag .MOD_GCFG_TRIPPED n = false → t.fld .MOD_STAT_GTRIPS n = satInc 8 (u.fld .MOD_STAT_GTRIPS n))) ∧
  (∀ (s u : State) (j n : Nat) (l : List MdClock) (k : MdClock) (b : Bool), u = s.feedPin j l → u.pinOn j = true → u.bankOn 2 = true → n < 24 → n / 4 = j → u.hasMd n = true → n < u.sd.length → b = ((if u.flag .MOD_CLK_EDGE j then k.atFall else k.atRise).getD (n % 4) 0).testBit (u.fld .MOD_CLK_DLY j) → u.flag .MOD_GCFG_GEN n = true → (u.chan n).initial = true → u.chanLost n = false → (u.chan n).bits.head?.all (fun x => x.1 != b) = true ∨ (u.chan n).run + 1 < 32 * 2 ^ u.fld .MOD_CLK_STUCK j → guardSpan (u.fld .MOD_CFG_GOSR n) ≤ (u.chan n).guardTaken + 1 → u.sfld .MOD_GTHR_LO n ≤ guardValue (u.fld .MOD_CFG_GOSR n) ((u.chan n).take b 0).levels → guardValue (u.fld .MOD_CFG_GOSR n) ((u.chan n).take b 0).levels ≤ u.sfld .MOD_GTHR_HI n → 
    ∃ t, exec (.guardSettleClear j (l ++ [k])) s = .next t ∧
      t.flag .MOD_GCFG_TRIPPED n = false) ∧
  (∀ (s : State) (core n : Nat) (clr : Bool), s.reaches core .modulator (0x4300010C + 0x20 * n) → s.hasMd n = true → s.flag .MOD_GCFG_LATCH n = true → s.lossHolds n = false → s.guardFull n = true → 
    ∃ t, exec (.modGuardClr core n clr) s = .next t ∧
      (if clr = true ∧ s.sfld .MOD_GTHR_LO n ≤ guardValue (s.fld .MOD_CFG_GOSR n) (s.chan n).levels ∧ guardValue (s.fld .MOD_CFG_GOSR n) (s.chan n).levels ≤ s.sfld .MOD_GTHR_HI n then t.flag .MOD_GCFG_TRIPPED n = false
       else t.flag .MOD_GCFG_TRIPPED n = s.flag .MOD_GCFG_TRIPPED n)) ∧
  (∀ (s : State) (core n fdly : Nat), s.reaches core .modulator (0x43000104 + 0x20 * n) → s.hasMd n = true → n < s.sd.length → s.fld .MOD_CFG_SYNC n ≠ 1 ∨ fdly = 0 → fdly < 1024 → 
    ∃ t, exec (.modFdlyWrite core n fdly) s = .next t ∧
      t.fld .MOD_FDLY_FDLY n = fdly ∧ (t.chan n).rampStep = 0 ∧ (t.chan n).markDelay = 4 ∧
      ((t.chan n).rampNum, (t.chan n).rampDen) = (s.chan n).delay (s.fld .MOD_FDLY_FDLY n)) ∧
  (∀ (s : State) (core n fdly : Nat), s.reaches core .modulator (0x43000104 + 0x20 * n) → s.hasMd n = true → s.fld .MOD_CFG_SYNC n = 1 → fdly % 1024 ≠ 0 → 
    ∃ t, exec (.modFdlyWrite core n fdly) s = .next t ∧
      t.fld .MOD_FDLY_FDLY n = s.fld .MOD_FDLY_FDLY n ∧ s.tells t .modulator 0x01)

/-- COMPARATOR_LATCH_SET of a working comparator takes the level at its ball into RAWHI and RAWLO. With a stage in use
in its trip region, the latch neither set nor blanked, it sets TRIPPED, SIDE 0 for the upper stage and 1 for the
lower, and counts it; in every other case it leaves TRIPPED, SIDE and the count. LEB_BLANKING_END ends the blanking,
and sets a clear latch with a stage in its trip region. A WC_CLR_WRITE of a core that may store to CLR, in hold mode
or with LINK's counter stopped, clears a latch all of whose stages in use lie on their non-trip side; in cycle mode
with LINK running, or in a trip region or band, it leaves it set. COMPARATOR_INITIAL_CLEAR of a latch that reset or a
new MODE set clears it when each stage in use has been seen on its non-trip side and none is in its trip region;
otherwise it keeps it and marks each stage seen there. A WC_THR_WRITE within the window rule, LO + HYST below HI −
HYST in window mode, sets both codes; one that breaks it changes nothing and queues event 0x01.
TRIP_GROUP_FIRST_ASSERT of a risen group under a running Edge clock sets SEEN, records the lowest source and the time,
queues event 0x0F, and its response entry acts. -/
def Obligations.ComparatorsAndTrips : Prop :=
  (∀ (s : State) (c : Nat) (level : Int), s.wcWorks c = true → c < s.trip.chans.length → (s.fld .WC_CFG_MODE c ≤ 1 ∧ mvOf (s.fld .WC_THR_HI c) < level) ∨ ((s.fld .WC_CFG_MODE c = 0 ∨ s.fld .WC_CFG_MODE c = 2) ∧ level < mvOf (s.fld .WC_THR_LO c)) → s.flag .WC_CFG_TRIPPED c = false → (s.wc c).blanked = false → 
    ∃ t, exec (.comparatorLatchSet c level) s = .next t ∧
      t.flag .WC_CFG_TRIPPED c = true ∧ t.flag .WC_CFG_SIDE c = !decide (s.fld .WC_CFG_MODE c ≤ 1 ∧ mvOf (s.fld .WC_THR_HI c) < level) ∧
      t.fld .WC_STAT_TRIPS c = satInc 16 (s.fld .WC_STAT_TRIPS c) ∧ t.flag .WC_STAT_RAWHI c = decide (mvOf (s.fld .WC_THR_HI c) < level)) ∧
  (∀ (s : State) (c : Nat) (level : Int), s.wcWorks c = true → c < s.trip.chans.length → s.flag .WC_CFG_TRIPPED c = true ∨ (s.wc c).blanked = true ∨ ¬((s.fld .WC_CFG_MODE c ≤ 1 ∧ mvOf (s.fld .WC_THR_HI c) < level) ∨ ((s.fld .WC_CFG_MODE c = 0 ∨ s.fld .WC_CFG_MODE c = 2) ∧ level < mvOf (s.fld .WC_THR_LO c))) → 
    ∃ t, exec (.comparatorLatchSet c level) s = .next t ∧
      t.flag .WC_CFG_TRIPPED c = s.flag .WC_CFG_TRIPPED c ∧ t.flag .WC_CFG_SIDE c = s.flag .WC_CFG_SIDE c ∧
      t.fld .WC_STAT_TRIPS c = s.fld .WC_STAT_TRIPS c ∧ t.flag .WC_STAT_RAWLO c = decide (level < mvOf (s.fld .WC_THR_LO c))) ∧
  (∀ (s : State) (c : Nat) (level : Int), s.wcWorks c = true → c < s.trip.chans.length → 
    ∃ t, exec (.lebBlankingEnd c level) s = .next t ∧
      (t.wc c).blanked = false ∧
      (s.flag .WC_CFG_TRIPPED c = true ∨ (s.fld .WC_CFG_MODE c ≤ 1 ∧ mvOf (s.fld .WC_THR_HI c) < level) ∨ ((s.fld .WC_CFG_MODE c = 0 ∨ s.fld .WC_CFG_MODE c = 2) ∧ level < mvOf (s.fld .WC_THR_LO c)) → t.flag .WC_CFG_TRIPPED c = true)) ∧
  (∀ (s : State) (core c : Nat) (level : Int), s.reaches core .comparator (0x44000104 + 0x10 * c) → s.wcWorks c = true → c < s.trip.chans.length → s.flag .WC_CFG_LATCH c = true ∨ s.flag .PWM_RUN_CNT_EN (s.fld .WC_CFG_LINK c) = false → (s.fld .WC_CFG_MODE c ≤ 1 → level < mvOf (s.fld .WC_THR_HI c) - mvOf (s.fld .WC_CFG_HYST c)) → (s.fld .WC_CFG_MODE c = 0 ∨ s.fld .WC_CFG_MODE c = 2 → mvOf (s.fld .WC_THR_LO c) + mvOf (s.fld .WC_CFG_HYST c) < level) → 
    ∃ t, exec (.wcClrWrite core c level) s = .next t ∧
      t.flag .WC_CFG_TRIPPED c = false) ∧
  (∀ (s : State) (core c : Nat) (level : Int), s.reaches core .comparator (0x44000104 + 0x10 * c) → s.wcWorks c = true → c < s.trip.chans.length → s.flag .WC_CFG_TRIPPED c = true → (s.flag .WC_CFG_LATCH c = false ∧ s.flag .PWM_RUN_CNT_EN (s.fld .WC_CFG_LINK c) = true) ∨ ¬((s.fld .WC_CFG_MODE c ≤ 1 → level < mvOf (s.fld .WC_THR_HI c) - mvOf (s.fld .WC_CFG_HYST c)) ∧ (s.fld .WC_CFG_MODE c = 0 ∨ s.fld .WC_CFG_MODE c = 2 → mvOf (s.fld .WC_THR_LO c) + mvOf (s.fld .WC_CFG_HYST c) < level)) → 
    ∃ t, exec (.wcClrWrite core c level) s = .next t ∧
      t.flag .WC_CFG_TRIPPED c = true) ∧
  (∀ (s : State) (c : Nat) (level : Int), s.wcWorks c = true → c < s.trip.chans.length → (s.wc c).initial = true → s.flag .WC_CFG_TRIPPED c = true → s.fld .WC_CFG_MODE c ≤ 1 → (s.wc c).seenHi = true ∨ level < mvOf (s.fld .WC_THR_HI c) - mvOf (s.fld .WC_CFG_HYST c) → s.fld .WC_CFG_MODE c = 0 ∨ s.fld .WC_CFG_MODE c = 2 → (s.wc c).seenLo = true ∨ mvOf (s.fld .WC_THR_LO c) + mvOf (s.fld .WC_CFG_HYST c) < level → ¬((s.fld .WC_CFG_MODE c ≤ 1 ∧ mvOf (s.fld .WC_THR_HI c) < level) ∨ ((s.fld .WC_CFG_MODE c = 0 ∨ s.fld .WC_CFG_MODE c = 2) ∧ level < mvOf (s.fld .WC_THR_LO c))) → 
    ∃ t, exec (.comparatorInitialClear c level) s = .next t ∧
      t.flag .WC_CFG_TRIPPED c = false ∧ (t.wc c).initial = false) ∧
  (∀ (s : State) (c : Nat) (level : Int), s.wcWorks c = true → c < s.trip.chans.length → (s.wc c).initial = true → s.flag .WC_CFG_TRIPPED c = true → (s.fld .WC_CFG_MODE c ≤ 1 ∧ mvOf (s.fld .WC_THR_HI c) < level) ∨ ((s.fld .WC_CFG_MODE c = 0 ∨ s.fld .WC_CFG_MODE c = 2) ∧ level < mvOf (s.fld .WC_THR_LO c)) → 
    ∃ t, exec (.comparatorInitialClear c level) s = .next t ∧
      t.flag .WC_CFG_TRIPPED c = true ∧ (t.wc c).initial = true ∧ (level < mvOf (s.fld .WC_THR_HI c) - mvOf (s.fld .WC_CFG_HYST c) → (t.wc c).seenHi = true)) ∧
  (∀ (s : State) (core c lo hi : Nat), s.reaches core .comparator (0x44000100 + 0x10 * c) → s.hasWc c = true → lo < 4096 → hi < 4096 → s.fld .WC_CFG_MODE c ≠ 0 ∨ lo + s.fld .WC_CFG_HYST c < hi - s.fld .WC_CFG_HYST c → 
    ∃ t, exec (.wcThrWrite core c lo hi) s = .next t ∧
      t.fld .WC_THR_LO c = lo ∧ t.fld .WC_THR_HI c = hi) ∧
  (∀ (s : State) (core c lo hi : Nat), s.reaches core .comparator (0x44000100 + 0x10 * c) → s.hasWc c = true → lo < 4096 → hi < 4096 → s.fld .WC_CFG_MODE c = 0 → hi - s.fld .WC_CFG_HYST c ≤ lo + s.fld .WC_CFG_HYST c → 
    ∃ t, exec (.wcThrWrite core c lo hi) s = .next t ∧
      t.fld .WC_THR_LO c = s.fld .WC_THR_LO c ∧ t.fld .WC_THR_HI c = s.fld .WC_THR_HI c ∧ s.tells t .comparator 0x01) ∧
  (∀ (s : State) (g : Nat), g < 8 → s.trip.risen.testBit g = true → s.edgeStopped = false → 
    ∃ t, exec (.tripGroupFirstAssert g) s = .next t ∧
      t.bit .TG_STAT_SEEN 0 g = true ∧ t.fld .TG_FIRST_SRC g = (s.tripSources g).headD 0 % 256 ∧ t.fld .TG_FTS g = s.ts ∧
      s.reports t .comparator 0x0F ∧ (s.fld .RSP_CFG_ACT g = 1 ∨ s.fld .RSP_CFG_ACT g = 2 → t.bit .GI_RSPSTAT_ACTED 0 g = true))

/-- PWM_ZERO_EVENT of a module whose counter counts, and whose count no link load of the tick has replaced, puts the
count at 0, sends a link pulse and interrupts where these are selected; unless RLD is 0b01 the active words take the
shadows, as they stood before the tick's commits; with 0b01 only PER does, and that in up-down mode. PWM_PERIOD_EVENT
puts it at PER, in down mode at a lower PER that its reload brings, and so sends and interrupts; with RLD 0b01 or 0b10
the words are reloaded, PER not in up-down mode, otherwise none. PWM_TRIGGER_COMPARE up to PER in a selected
direction, or at a turn of up-down mode, places the count and interrupts; above PER, or unselected, it does nothing.
PWM_COMPARE_MATCH of a value that the carrier passes places the count, and H takes the action of the lowest rule of
that instant, whose event it is; a CMPB up-match sends a link pulse. A counter that does not count, or whose count a
link load of the tick replaced, has no zero event. A core that may store to PWM_INT of a head module writes ISEL,
PRESC and IEN, clears IFLAG on request, and restarts the prescaler on a change; another module ignores it. -/
def Obligations.PwmCounterEvents : Prop :=
  (∀ (s : State) (m : Nat) (wcin : List (Nat × Int)), s.counts m = true → s.overwritten m 0 = false → 
    ∃ t, exec (.pwmZeroEvent m wcin) s = .next t ∧
      t.fld .PWM_CNT_CNT m = 0 ∧ t.flag .PWM_STAT_DIR m = (s.fld .PWM_CTRL_CMODE m == 1) ∧ (m < 23 → s.bit .PWM_CTRL_LINKOUT m 0 = true → t.pwm.links.any (fun l => l.dest == m + 1 && l.sent == s.tb) = true) ∧
      (s.fld .PWM_CTRL_CMODE m = 1 ∨ (s.pm m).wait = [] → s.isHead m = true → s.fld .PWM_INT_ISEL m = 0 → s.fld .PWM_INT_PRESC m ≤ s.fld .PWM_INT_ICNT m → t.fld .PWM_INT_IFLAG m = 1)) ∧
  (∀ (s : State) (m : Nat) (wcin : List (Nat × Int)), s.counts m = true → s.overwritten m 0 = false → s.fld .PWM_CTRL_CMODE m = 1 ∨ (s.pm m).wait = [] → 
    ∃ t, exec (.pwmZeroEvent m wcin) s = .next t ∧
      (s.fld .PWM_CTRL_RLD m ≠ 1 → (t.fld .PWM_ACT0L m, t.fld .PWM_ACT1L m, t.fld .PWM_ACT2H m) =
        (s.shdForReload m 0 % 2 ^ 32, s.shdForReload m 1 % 2 ^ 32, s.shdForReload m 2 / 2 ^ 32 % 2 ^ 32)) ∧
      (s.fld .PWM_CTRL_RLD m = 1 → t.fld .PWM_ACT0L m = s.fld .PWM_ACT0L m ∧ t.fld .PWM_ACT2H m = s.fld .PWM_ACT2H m ∧
        t.per m = if s.fld .PWM_CTRL_CMODE m = 2 then s.shdForReload m 1 % 2 ^ 20 else s.per m)) ∧
  (∀ (s : State) (m : Nat) (wcin : List (Nat × Int)), s.counts m = true → s.overwritten m (s.per m) = false → 
    ∃ t, exec (.pwmPeriodEvent m wcin) s = .next t ∧
      t.fld .PWM_CNT_CNT m = (if s.fld .PWM_CTRL_CMODE m = 1 then min (s.per m) (t.per m) else s.per m) ∧
      t.flag .PWM_STAT_DIR m = (s.fld .PWM_CTRL_CMODE m != 0) ∧ (m < 23 → s.bit .PWM_CTRL_LINKOUT m 1 = true → t.pwm.links.any (fun l => l.dest == m + 1 && l.sent == s.tb) = true) ∧ (s.fld .PWM_CTRL_CMODE m ≠ 1 ∨ (s.pm m).wait = [] → s.isHead m = true → s.fld .PWM_INT_ISEL m = 1 → s.fld .PWM_INT_PRESC m ≤ s.fld .PWM_INT_ICNT m → t.fld .PWM_INT_IFLAG m = 1)) ∧
  (∀ (s : State) (m : Nat) (wcin : List (Nat × Int)), s.counts m = true → s.overwritten m (s.per m) = false → s.fld .PWM_CTRL_CMODE m ≠ 1 ∨ (s.pm m).wait = [] → 
    ∃ t, exec (.pwmPeriodEvent m wcin) s = .next t ∧
      if s.fld .PWM_CTRL_RLD m = 1 ∨ s.fld .PWM_CTRL_RLD m = 2 then
        t.fld .PWM_ACT0L m = s.shdForReload m 0 % 2 ^ 32 ∧ t.fld .PWM_ACT2H m = s.shdForReload m 2 / 2 ^ 32 % 2 ^ 32 ∧
          t.per m = if s.fld .PWM_CTRL_CMODE m = 2 then s.per m else s.shdForReload m 1 % 2 ^ 20
      else t.fld .PWM_ACT0L m = s.fld .PWM_ACT0L m ∧ t.per m = s.per m) ∧
  (∀ (s : State) (m which : Nat) (falling : Bool), s.counts m = true → which < 2 → s.tcmp m which ≤ s.per m → (s.fld (if which = 0 then .PWM_TCFG_T0DIR else .PWM_TCFG_T1DIR) m) ≠ 0 → (s.fld .PWM_CTRL_CMODE m = 2 ∧ (s.tcmp m which = 0 ∨ s.tcmp m which = s.per m)) ∨
      (s.fld (if which = 0 then .PWM_TCFG_T0DIR else .PWM_TCFG_T1DIR) m).testBit (if s.fld .PWM_CTRL_CMODE m = 1 ∨ (s.fld .PWM_CTRL_CMODE m = 2 ∧ falling = true) then 1 else 0) = true → 
    ∃ t, exec (.pwmTriggerCompare m which falling) s = .next t ∧
      t.fld .PWM_CNT_CNT m = s.tcmp m which ∧ (s.isHead m = true → s.fld .PWM_INT_ISEL m = 6 + which → s.fld .PWM_INT_PRESC m ≤ s.fld .PWM_INT_ICNT m → t.fld .PWM_INT_IFLAG m = 1)) ∧
  (∀ (s : State) (m which : Nat) (falling : Bool), which < 2 → s.per m < s.tcmp m which ∨ (s.fld (if which = 0 then .PWM_TCFG_T0DIR else .PWM_TCFG_T1DIR) m) = 0 → 
    ∃ t, exec (.pwmTriggerCompare m which falling) s = .next t ∧
      t = s) ∧
  (∀ (s : State) (m act : Nat) (b falling : Bool), s.counts m = true → m < s.pwm.mods.length → (s.eventAt m (3 + 2 * b.toNat + falling.toNat)).isSome = true → s.winner m false ((s.eventAt m (3 + 2 * b.toNat + falling.toNat)).getD 0) = some ((3 + 2 * b.toNat + falling.toNat), act) → 
    ∃ t, exec (.pwmCompareMatch m b falling) s = .next t ∧
      t.fld .PWM_CNT_CNT m = (matchPlace (s.fld .PWM_CTRL_CMODE m) (s.cmp m b) falling).1 % 2 ^ 20 ∧
      (t.pm m).h = ruleAct act (s.pm m).h ∧ (b = true → falling = false → m < 23 → s.bit .PWM_CTRL_LINKOUT m 2 = true → t.pwm.links.any (fun l => l.dest == m + 1 && l.sent == s.tb) = true)) ∧
  (∀ (s : State) (m : Nat) (wcin : List (Nat × Int)), s.counts m = false ∨ s.overwritten m 0 = true → 
    ∃ t, exec (.pwmZeroEvent m wcin) s = .next t ∧
      t = s) ∧
  (∀ (s : State) (core m isel presc : Nat) (ien clr : Bool), s.reaches core .pwm (pwmAddr m 0x30) → isel < 8 → presc < 16 → 
    ∃ t, exec (.pwmIntWrite core m isel presc ien clr) s = .next t ∧
      if s.isHead m = true then t.fld .PWM_INT_ISEL m = isel ∧ t.fld .PWM_INT_PRESC m = presc ∧ t.flag .PWM_INT_IEN m = ien ∧
        (clr = true → t.fld .PWM_INT_IFLAG m = 0) ∧
        t.fld .PWM_INT_ICNT m = (if isel = s.fld .PWM_INT_ISEL m ∧ presc = s.fld .PWM_INT_PRESC m then s.fld .PWM_INT_ICNT m else 0)
      else t = s)

/-- A core that may store to it holds the low half of a shadow word; a half it held before is discarded with event
0x01. Its write of the matching high half commits the word as Table 8-5 stores it, LATE counting one in a reload's
tick, but a staged value of the tick stands; another high half changes no shadow, empties the hold and queues event
0x01. STAGED_MOVE moves each module's words that may move into its shadow, the last of one word standing; the words of
a Wing no longer entitled are dropped, counted in PWM_STGDROP. TURN_ON_DELAY_EXPIRY raises a side that is due with its
command on; one whose command has fallen makes no pulse. In size L a both-on command makes both pads low instead.
While the pads do not follow, an internal turn-on starts the blanking of the comparators that select it.
SAFE_LEVEL_RESUME_CHECK of a module that is due and held by no cause, nor its leg, makes its pads follow, a side
commanded on rising after its delay; with a condition of R213 they are at the safe level. DELAY_LINE_LOCK sets
DL_LOCK; DELAY_LINE_LOST clears it, sets DL_LOST and queues event 0x0E. -/
def Obligations.PwmShadowsOutputsAndDelayLines : Prop :=
  (∀ (s : State) (core m w value : Nat), s.reaches core .pwm (shdAddr m w false) → s.hasPm m = true → w < 3 → core < s.pwm.holds.length → 
    ∃ t, exec (.pwmShadowLowWrite core m w value) s = .next t ∧
      t.pwm.holds.getD core none = some (m, w, value % 2 ^ 32) ∧
      (s.pwm.holds.getD core none ≠ none → s.tells t .pwm 0x01) ∧ ∀ k < 3, t.shd m k = s.shd m k) ∧
  (∀ (s : State) (core m w lo value : Nat), s.reaches core .pwm (shdAddr m w true) → s.hasPm m = true → w < 3 → core < s.pwm.holds.length → s.pwm.holds.getD core none = some (m, w, lo) → lo < 2 ^ 32 → 
    ∃ t, exec (.pwmShadowHighWrite core m w value) s = .next t ∧
      t.pwm.holds.getD core none = none ∧ (∀ k < 3, t.shd m k =
        if k = w ∧ ¬((s.pm m).movedAt = some s.tb ∧ w ∈ (s.pm m).movedWords) then shdStored w (lo + value % 2 ^ 32 * 2 ^ 32) else s.shd m k) ∧
      t.fld .PWM_STAT_LATE m = if (s.pm m).reloadAt = some s.tb then satInc 8 (s.fld .PWM_STAT_LATE m) else s.fld .PWM_STAT_LATE m) ∧
  (∀ (s : State) (core m w value : Nat), s.reaches core .pwm (shdAddr m w true) → s.hasPm m = true → w < 3 → core < s.pwm.holds.length → ∀ x ∈ s.pwm.holds.getD core none, (x.1, x.2.1) ≠ (m, w) → 
    ∃ t, exec (.pwmShadowHighWrite core m w value) s = .next t ∧
      t.pwm.holds.getD core none = none ∧ s.reports t .pwm 0x01 ∧ ∀ k < 3, t.shd m k = s.shd m k) ∧
  (∀ (s : State) (m : Nat) (e : Staged) (l r : List Staged), m < 24 → m < s.pwm.mods.length → (s.pm m).moving = l ++ e :: r → s.mayMove m e.engine = true → e.word < 3 → ∀ x ∈ r, x.word = e.word → s.mayMove m x.engine = false → ∀ x ∈ l ++ r, x.word < 3 → 
    ∃ t, exec .stagedMove s = .next t ∧
      t.shd m e.word = shdStored e.word e.value ∧ (t.pm m).moving = []) ∧
  (∀ (s : State) (m : Nat), m < 24 → m < s.pwm.mods.length → (s.pm m).moving ≠ [] → ∀ e ∈ (s.pm m).moving, s.mayMove m e.engine = false → 
    ∃ t, exec .stagedMove s = .next t ∧
      (∀ w < 3, t.shd m w = s.shd m w) ∧ (t.pm m).moving = [] ∧ (s.fld .PWM_STGDROP < 2 ^ 32 - 1 → s.fld .PWM_STGDROP < t.fld .PWM_STGDROP)) ∧
  (∀ (s : State) (m r : Nat) (low : Bool), m < s.pwm.mods.length → (s.pm m).mode = .follow → (if low then (s.pm m).riseLo else (s.pm m).riseHi) = some r → if low then (if s.complementary m then (s.pm m).he = false else (s.pm m).le = true) else (s.pm m).he = true → (s.pm m).refresh = 0 → s.complementary m = true ∨ s.sizeL = false ∨ (if low then (s.pm m).hi else (s.pm m).lo) = false → 
    ∃ t, exec (.turnOnDelayExpiry m low) s = .next t ∧
      if low then (t.pm m).lo = true ∧ (t.pm m).outLo = true ∧ (t.pm m).riseLo = none
      else (t.pm m).hi = true ∧ (t.pm m).outHi = true ∧ (t.pm m).riseHi = none) ∧
  (∀ (s : State) (m r : Nat), m < s.pwm.mods.length → (s.pm m).mode = .follow → (s.pm m).riseHi = some r → (s.pm m).he = false → (s.pm m).fallHi = none → 
    ∃ t, exec (.turnOnDelayExpiry m false) s = .next t ∧
      (t.pm m).outHi = (s.pm m).outHi ∧ (t.pm m).riseHi = none) ∧
  (∀ (s : State) (m r : Nat) (low : Bool), m < s.pwm.mods.length → (s.pm m).mode = .follow → (if low then (s.pm m).riseLo else (s.pm m).riseHi) = some r → if low then (if s.complementary m then (s.pm m).he = false else (s.pm m).le = true) else (s.pm m).he = true → (s.pm m).refresh = 0 → s.complementary m = false → s.sizeL = true → (if low then (s.pm m).hi else (s.pm m).lo) = true → (s.pm m).fallHi = none → (s.pm m).fallLo = none → 
    ∃ t, exec (.turnOnDelayExpiry m low) s = .next t ∧
      (t.pm m).outHi = false ∧ (t.pm m).outLo = false ∧ (t.pm m).mode = .shoot ∧ (t.pm m).shot = true) ∧
  (∀ (s : State) (m r c : Nat) (low : Bool), m < s.pwm.mods.length → (s.pm m).mode ≠ .follow → (if low then (s.pm m).dueLo else (s.pm m).dueHi) = some r → c < s.trip.chans.length → s.fld .WC_CFG_LINK c = m → s.bit .WC_CFG_LEBEDGE c low.toNat = true → s.fld .WC_LEB_LEBT c ≠ 0 → 
    ∃ t, exec (.turnOnDelayExpiry m low) s = .next t ∧
      (t.wc c).blanked = true ∧ (if low then (t.pm m).dueLo else (t.pm m).dueHi) = none) ∧
  (∀ (s : State) (m : Nat), m < s.pwm.mods.length → (s.pm m).due = true → (∀ x ∈ s.together m, s.lowCause x = false) → ∀ x ∈ s.together m, s.safeCause x = false → (s.pm m).mode ≠ .shoot ∨ s.complementary m = true → 
    ∃ t, exec (.safeLevelResumeCheck m) s = .next t ∧
      (t.pm m).mode = .follow ∧ t.flag .PWM_STAT_OUTACT m = true ∧ (t.pm m).outHi = false ∧
      (t.pm m).riseHi = (if (s.pm m).h then some (s.nowTaps + s.ton m false) else none) ∧
      (t.pm m).riseLo = if (if s.complementary m then !(s.pm m).h else (s.pm m).l) then some (s.nowTaps + s.ton m true) else none) ∧
  (∀ (s : State) (m : Nat), m < s.pwm.mods.length → (s.pm m).due = true → (∀ x ∈ s.together m, s.lowCause x = false) → ∃ x ∈ s.together m, s.safeCause x = true → 
    ∃ t, exec (.safeLevelResumeCheck m) s = .next t ∧
      (t.pm m).mode = .safe ∧
      ((s.pm m).mode ≠ .safe → (t.pm m).outHi = s.flag .PWM_CTRL_SH m ∧ (t.pm m).outLo = s.flag .PWM_CTRL_SL m)) ∧
  (∀ (s : State), 
    ∃ t, exec .delayLineLock s = .next t ∧
      t.fld .PWM_DLSTAT_DL_LOCK = 1) ∧
  (∀ (s : State), 
    ∃ t, exec .delayLineLost s = .next t ∧
      t.fld .PWM_DLSTAT_DL_LOCK = 0 ∧ t.fld .PWM_DLSTAT_DL_LOST = 1 ∧ s.tells t .pwm 0x0E)

/-- A core that may store to PWM_RUN of a module its Wing is entitled to sets OUTEN, unless a Prefect, a shutdown or a
lock forbids it; under a Prefect that is not CLEAR, or locked with no shutdown, it stays and event 0x34 is queued; in
a shutdown it is held, with DEFER and event 0x33. Not entitled, it is discarded with event 0x01. Writing 0 clears it,
and pads in no leg cease to follow. CNT_EN 1 starts a stopped counter at LOADCNT, at most PER, with H at 0; in a
shutdown it is held; a running one it leaves alone. CNT_EN 0 stops it and clears OUTEN, ARM and the carry. ARM is
written on head modules only. A mask written to PWM_GSTART waits in order, and GROUP_START_EXECUTE starts or restarts
every fitted module of the first; PWM_TIMED_START so starts an armed head module when the timebase's low word is
PWM_START, and ARM clears; at another time it waits. PWM_LINK_PULSE loads the count that a load at the event would
have reached into a module with FOLLOW, and with FORWARD goes on with the hop added. -/
def Obligations.PwmEnablesAndStarts : Prop :=
  (∀ (s : State) (core m : Nat), s.reaches core .pwm (pwmAddr m 4) → s.hasPm m = true → s.isEntitled (coreWing core) m = true → s.prefectBlocks = false → s.bit .GI_SHUT_BUSY 0 m = false → s.bit .GI_LOCKED_LOCK 0 m = false → 
    ∃ t, exec (.pwmOutenWrite core m true) s = .next t ∧
      t.fld .PWM_RUN_OUTEN m = 1) ∧
  (∀ (s : State) (core m : Nat), s.reaches core .pwm (pwmAddr m 4) → s.hasPm m = true → s.isEntitled (coreWing core) m = true → s.prefectBlocks = true ∨ (s.bit .GI_SHUT_BUSY 0 m = false ∧ s.bit .GI_LOCKED_LOCK 0 m = true) → 
    ∃ t, exec (.pwmOutenWrite core m true) s = .next t ∧
      t.fld .PWM_RUN_OUTEN m = s.fld .PWM_RUN_OUTEN m ∧ s.tells t .gate 0x34) ∧
  (∀ (s : State) (core m : Nat), s.reaches core .pwm (pwmAddr m 4) → s.hasPm m = true → s.isEntitled (coreWing core) m = true → s.prefectBlocks = false → s.bit .GI_SHUT_BUSY 0 m = true → m < 24 → 
    ∃ t, exec (.pwmOutenWrite core m true) s = .next t ∧
      t.fld .PWM_RUN_OUTEN m = s.fld .PWM_RUN_OUTEN m ∧ (m, true) ∈ t.gate.held ∧ t.bit .GI_DEFER_DEFER 0 m = true ∧ s.tells t .gate 0x33) ∧
  (∀ (s : State) (core m : Nat), s.reaches core .pwm (pwmAddr m 4) → s.hasPm m = true → s.isEntitled (coreWing core) m = false → 
    ∃ t, exec (.pwmOutenWrite core m true) s = .next t ∧
      t.fld .PWM_RUN_OUTEN m = s.fld .PWM_RUN_OUTEN m ∧ s.tells t .pwm 0x01) ∧
  (∀ (s : State) (core m : Nat), s.reaches core .pwm (pwmAddr m 4) → s.hasPm m = true → 
    ∃ t, exec (.pwmOutenWrite core m false) s = .next t ∧
      t.fld .PWM_RUN_OUTEN m = 0 ∧ (m, true) ∉ t.gate.held ∧
      (m < s.pwm.mods.length → s.legOf m = none → (t.pm m).mode ≠ .follow)) ∧
  (∀ (s : State) (core m : Nat), s.reaches core .pwm (pwmAddr m 4) → s.hasPm m = true → 
    ∃ t, exec (.pwmCntEnWrite core m true) s = .next t ∧
      if s.bit .GI_SHUT_BUSY 0 m = true then (m, false) ∈ t.gate.held ∧ t.fld .PWM_RUN_CNT_EN m = s.fld .PWM_RUN_CNT_EN m
      else if s.flag .PWM_RUN_CNT_EN m = true then t = s
      else t.fld .PWM_RUN_CNT_EN m = 1 ∧ t.fld .PWM_STAT_RUNNING m = 1 ∧ t.fld .PWM_INT_ICNT m = 0 ∧ (m < s.pwm.mods.length → (t.pm m).h = false) ∧
      (t.fld .PWM_CNT_CNT m, t.flag .PWM_STAT_DIR m) = countAt (s.fld .PWM_CTRL_CMODE m) (s.per m)
        ((posOf (s.fld .PWM_CTRL_CMODE m) (s.per m) (min (s.fld .PWM_LOAD_LOADCNT m) (s.per m)) (s.flag .PWM_LOAD_LOADDIR m) + 0) % periodTicks (s.fld .PWM_CTRL_CMODE m) (s.per m))) ∧
  (∀ (s : State) (core m : Nat), s.reaches core .pwm (pwmAddr m 4) → s.hasPm m = true → 
    ∃ t, exec (.pwmCntEnWrite core m false) s = .next t ∧
      t.fld .PWM_RUN_CNT_EN m = 0 ∧ t.fld .PWM_STAT_RUNNING m = 0 ∧ t.fld .PWM_RUN_OUTEN m = 0 ∧ t.fld .PWM_RUN_ARM m = 0 ∧ t.fld .PWM_CARRY_CARRY m = 0) ∧
  (∀ (s : State) (core m : Nat) (on : Bool), s.reaches core .pwm (pwmAddr m 4) → 
    ∃ t, exec (.pwmArmWrite core m on) s = .next t ∧
      if s.isHead m = true then t.flag .PWM_RUN_ARM m = on else t = s) ∧
  (∀ (s : State) (core mask : Nat), s.reaches core .pwm 0x40001800 → 
    ∃ t, exec (.pwmGstartWrite core mask) s = .next t ∧
      t.pwm.gstart = s.pwm.gstart ++ [mask % 2 ^ 24]) ∧
  (∀ (s : State) (mask m : Nat) (rest : List Nat), s.pwm.gstart = mask :: rest → m < 24 → mask.testBit m = true → s.hasPm m = true → 
    ∃ t, exec .groupStartExecute s = .next t ∧
      t.flag .PWM_RUN_CNT_EN m = true ∧ t.fld .PWM_INT_ICNT m = 0 ∧ t.pwm.gstart = rest ∧ t.fld .PWM_RUN_OUTEN m = s.fld .PWM_RUN_OUTEN m ∧
      (t.fld .PWM_CNT_CNT m, t.flag .PWM_STAT_DIR m) = countAt (s.fld .PWM_CTRL_CMODE m) (s.per m)
        ((posOf (s.fld .PWM_CTRL_CMODE m) (s.per m) (min (s.fld .PWM_LOAD_LOADCNT m) (s.per m)) (s.flag .PWM_LOAD_LOADDIR m) + 0) % periodTicks (s.fld .PWM_CTRL_CMODE m) (s.per m))) ∧
  (∀ (s : State) (m : Nat), s.isHead m = true → s.flag .PWM_RUN_ARM m = true → 
    ∃ t, exec (.pwmTimedStart m) s = .next t ∧
      if s.fld .PWM_START m = s.ts then t.flag .PWM_RUN_CNT_EN m = true ∧ t.fld .PWM_RUN_ARM m = 0 ∧
      (t.fld .PWM_CNT_CNT m, t.flag .PWM_STAT_DIR m) = countAt (s.fld .PWM_CTRL_CMODE m) (s.per m)
        ((posOf (s.fld .PWM_CTRL_CMODE m) (s.per m) (min (s.fld .PWM_LOAD_LOADCNT m) (s.per m)) (s.flag .PWM_LOAD_LOADDIR m) + 0) % periodTicks (s.fld .PWM_CTRL_CMODE m) (s.per m))
      else t = s) ∧
  (∀ (s : State) (m : Nat) (l : LinkPulse), s.pwm.links.find? (fun l => l.dest == m) = some l → s.hasPm m = true → m < s.pwm.mods.length → 
    ∃ t, exec (.pwmLinkPulse m) s = .next t ∧
      (s.flag .PWM_CTRL_FOLLOW m = true →
      (t.fld .PWM_CNT_CNT m, t.flag .PWM_STAT_DIR m) = countAt (s.fld .PWM_CTRL_CMODE m) (s.per m)
        ((posOf (s.fld .PWM_CTRL_CMODE m) (s.per m) (min (s.fld .PWM_LOAD_LOADCNT m) (s.per m)) (s.flag .PWM_LOAD_LOADDIR m) + (if s.counts m then l.latency else 0)) % periodTicks (s.fld .PWM_CTRL_CMODE m) (s.per m))) ∧
      (s.flag .PWM_CTRL_FORWARD m = true → m < 23 → (∀ x ∈ s.pwm.links, x.dest ≠ m + 1) →
        t.pwm.links.any (fun x => x.dest == m + 1 && x.latency == l.latency + hopTicks (m + 1)) = true) ∧
      t.pwm.links.countP (fun x => x.dest == m) + 1 = s.pwm.links.countP (fun x => x.dest == m))

/-- While the sampler works, FLT_QUALIFIED of an input that was high sets its level bit. With FLTEN and OUTEN, outside
its window or with the window ending, it is seen, counted and stamped with the tick of its level, event 0x30 is queued
and entry 8 acts; inside it waits, neither seen nor counted; without FLTEN or OUTEN it is only seen. FLT_BLANKING_END
ends the windows, and reports an input that has waited and is still low, or with FLTEN or OUTEN cleared since only
marks it seen. With VIO1 present, FLT_QUALIFIED_HIGH clears the level bit and RDY_QUALIFIED_HIGH sets its own;
RDY_LOST clears it, and with RDYCHK and OUTACT records the loss with event 0x31 and entry 9. SHOOT_THROUGH in size L
records and counts the interlock's action, with event 0x32 and entry 10. A GI_SWTRIG write of a core that may store to
it runs entry 14 or 15 if its Wing is entitled to every fitted module of the mask, and is discarded with event 0x01
otherwise. SEQUENCER_GAP_END of a running gap ends it: the leg's modules leave the gap, low or at the safe level, and
their shutdowns complete; SEQFB is set if the gap was timed without a clock that now runs. REFRESH_INSERT of a module
that has counted REFRESH_N periods turns both sides off and counts it; each REFRESH_PHASE_END goes on: the low side
on, then off, then the outputs take the commands again. -/
def Obligations.GateDriversAndResponses : Prop :=
  (∀ (s : State) (mask ended m : Nat), m < 24 → mask.testBit m = true → s.hasPm m = true → s.samples = true → s.bit .GI_FLTLVL_LOW 0 m = false → s.fltLive m = true → s.gate.blank.testBit m = false ∨ ended.testBit m = true → 
    ∃ t, exec (.fltQualified mask ended) s = .next t ∧
      t.bit .GI_FLTLVL_LOW 0 m = true ∧ t.bit .GI_FLTSEEN_SEEN 0 m = true ∧ t.fld .GI_CNT_FLTCNT m = satInc 8 (s.fld .GI_CNT_FLTCNT m) ∧
      t.fld .GI_FTS m = (s.tb + 2 ^ 32 - s.fld .GI_CH_FILT m + 1 - 2) % 2 ^ 32 ∧ s.reports t .gate 0x30 ∧
      (s.fld .RSP_CFG_ACT 8 = 1 ∨ s.fld .RSP_CFG_ACT 8 = 2 → t.bit .GI_RSPSTAT_ACTED 0 8 = true)) ∧
  (∀ (s : State) (mask ended m : Nat), m < 24 → mask.testBit m = true → s.hasPm m = true → s.samples = true → s.bit .GI_FLTLVL_LOW 0 m = false → s.fltLive m = true → s.gate.blank.testBit m = true → ended.testBit m = false → 
    ∃ t, exec (.fltQualified mask ended) s = .next t ∧
      t.bit .GI_FLTLVL_LOW 0 m = true ∧ t.fld .GI_CNT_FLTCNT m = s.fld .GI_CNT_FLTCNT m ∧ t.bit .GI_FLTSEEN_SEEN 0 m = s.bit .GI_FLTSEEN_SEEN 0 m ∧
      t.gate.fltWaits.any (fun e => e.1 == m) = true) ∧
  (∀ (s : State) (mask ended m : Nat), m < 24 → mask.testBit m = true → s.hasPm m = true → s.samples = true → s.bit .GI_FLTLVL_LOW 0 m = false → s.fltLive m = false → 
    ∃ t, exec (.fltQualified mask ended) s = .next t ∧
      t.bit .GI_FLTLVL_LOW 0 m = true ∧ t.bit .GI_FLTSEEN_SEEN 0 m = true ∧ t.fld .GI_CNT_FLTCNT m = s.fld .GI_CNT_FLTCNT m) ∧
  (∀ (s : State) (mask m ts : Nat) (l r : List (Nat × Nat)), m < 24 → mask.testBit m = true → s.samples = true → s.gate.blank.testBit m = true → s.gate.fltWaits = l ++ (m, ts) :: r → ∀ e ∈ l ++ r, e.1 ≠ m → s.bit .GI_FLTLVL_LOW 0 m = true → 
    ∃ t, exec (.fltBlankingEnd mask) s = .next t ∧
      t.gate.blank.testBit m = false ∧ t.bit .GI_FLTSEEN_SEEN 0 m = true ∧
      (if s.fltLive m then t.fld .GI_CNT_FLTCNT m = satInc 8 (s.fld .GI_CNT_FLTCNT m) ∧ t.fld .GI_FTS m = ts % 2 ^ 32 ∧ s.reports t .gate 0x30 else t.fld .GI_CNT_FLTCNT m = s.fld .GI_CNT_FLTCNT m)) ∧
  (∀ (s : State) (m : Nat), m < 24 → s.hasPm m = true → s.samples = true → s.bankOn 1 = true → 
    ∃ t, exec (.fltQualifiedHigh m) s = .next t ∧
      t.bit .GI_FLTLVL_LOW 0 m = false ∧ t.gate.fltWaits.any (fun e => e.1 == m) = false) ∧
  (∀ (s : State) (m : Nat), m < 24 → s.hasPm m = true → s.samples = true → s.bankOn 1 = true → 
    ∃ t, exec (.rdyQualifiedHigh m) s = .next t ∧
      t.bit .GI_RDYLVL_HIGH 0 m = true) ∧
  (∀ (s : State) (m : Nat), m < 24 → s.hasPm m = true → s.samples = true → 
    ∃ t, exec (.rdyLost m) s = .next t ∧
      t.bit .GI_RDYLVL_HIGH 0 m = false ∧
      (if s.flag .GI_CH_RDYCHK m = true ∧ s.flag .PWM_STAT_OUTACT m = true then t.bit .GI_RDYLOST_LOST 0 m = true ∧ s.reports t .gate 0x31 ∧ (s.fld .RSP_CFG_ACT 9 = 1 ∨ s.fld .RSP_CFG_ACT 9 = 2 → t.bit .GI_RSPSTAT_ACTED 0 9 = true)
       else t.fld .GI_RDYLOST_LOST = s.fld .GI_RDYLOST_LOST)) ∧
  (∀ (s : State) (m : Nat), m < 24 → m < s.pwm.mods.length → s.hasPm m = true → s.sizeL = true → (s.pm m).shot = true → 
    ∃ t, exec (.shootThrough m) s = .next t ∧
      t.bit .GI_SHOOT_SHOOT 0 m = true ∧ t.fld .GI_CNT_SHOOTCNT m = satInc 8 (s.fld .GI_CNT_SHOOTCNT m) ∧
      s.reports t .gate 0x32 ∧ (s.fld .RSP_CFG_ACT 10 = 1 ∨ s.fld .RSP_CFG_ACT 10 = 2 → t.bit .GI_RSPSTAT_ACTED 0 10 = true)) ∧
  (∀ (s : State) (core i : Nat), s.reaches core .gate 0x41000010 → i < 2 → s.fld .RSP_CFG_ACT (14 + i) = 1 ∨ s.fld .RSP_CFG_ACT (14 + i) = 2 → ∀ m, m < 24 → (s.fld .RSP_MASK_MASK (14 + i)).testBit m = true → s.hasPm m = true → s.isEntitled (coreWing core) m = true → 
    ∃ t, exec (.giSwtrigWrite core (2 ^ i)) s = .next t ∧
      t.bit .GI_RSPSTAT_ACTED 0 (14 + i) = true ∧ s.reports t .gate 0x35) ∧
  (∀ (s : State) (core i m : Nat), s.reaches core .gate 0x41000010 → i < 2 → m < 24 → (s.fld .RSP_MASK_MASK (14 + i)).testBit m = true → s.hasPm m = true → s.isEntitled (coreWing core) m = false → 
    ∃ t, exec (.giSwtrigWrite core (2 ^ i)) s = .next t ∧
      s.tells t .gate 0x01 ∧ t.fld .GI_RSPSTAT_ACTED = s.fld .GI_RSPSTAT_ACTED ∧ t.fld .PWM_RUN_OUTEN = s.fld .PWM_RUN_OUTEN) ∧
  (∀ (s : State) (k : Nat), s.gapRuns k = true → (s.gate.gapMods.find? (fun e => e.1 == k)).map (·.2) = some (s.legMods k) → ∀ m ∈ s.legMods k, m < 24 ∧ m < s.pwm.mods.length ∧ s.legOf m = some k → 
    ∃ t, exec (.sequencerGapEnd k) s = .next t ∧
      t.gapRuns k = false ∧
      (∀ m ∈ s.legMods k, ((t.pm m).mode = .low ∨ (t.pm m).mode = .safe) ∧ t.bit .GI_SHUT_BUSY 0 m = false) ∧
      (s.gate.clockless ≠ 0 → s.edgeStopped = false → t.fld .GI_MISC_SEQFB = 1)) ∧
  (∀ (s : State) (m : Nat), m < s.pwm.mods.length → s.fld .GI_REF_REFRESH_N m ≠ 0 → s.fld .GI_REF_REFRESH_N m ≤ (s.pm m).refCount → (s.pm m).mode = .follow → (s.pm m).refresh = 0 → 
    ∃ t, exec (.refreshInsert m) s = .next t ∧
      (t.pm m).refresh = 1 ∧ (t.pm m).outHi = false ∧ (t.pm m).outLo = false ∧ (t.pm m).refCount = 0 ∧ t.fld .GI_CNT_REFCNT m = satInc 8 (s.fld .GI_CNT_REFCNT m)) ∧
  (∀ (s : State) (m : Nat), m < s.pwm.mods.length → (s.pm m).refresh = 1 → 
    ∃ t, exec (.refreshPhaseEnd m) s = .next t ∧
      (t.pm m).refresh = 2 ∧ (t.pm m).lo = true ∧ ((s.pm m).mode = .follow → (t.pm m).outLo = true)) ∧
  (∀ (s : State) (m : Nat), m < s.pwm.mods.length → (s.pm m).refresh = 2 → 
    ∃ t, exec (.refreshPhaseEnd m) s = .next t ∧
      (t.pm m).refresh = 3 ∧ (t.pm m).lo = false ∧ ((s.pm m).mode = .follow → (t.pm m).outLo = false)) ∧
  (∀ (s : State) (m : Nat), m < s.pwm.mods.length → (s.pm m).refresh = 3 → 
    ∃ t, exec (.refreshPhaseEnd m) s = .next t ∧
      (t.pm m).refresh = 0 ∧ (t.pm m).he = (s.pm m).h ∧ ((s.pm m).h = true → (t.pm m).hi = true) ∧
      (t.pm m).riseLo = if (if s.complementary m then !(s.pm m).h else (s.pm m).l) then some (s.nowTaps + s.ton m true) else none)

/-- While a run of a clocked Wing is in progress and no WAIT stalls, NOP only steps; LDK, ADD, SUB, MUL, MAC, DIV,
SQRT and ABS write their result, rounded once to binary32, into RD, which as F0 stays +0.0; SINCOS writes sine and
cosine into RD and the next register. LIM writes the one of its operands that is min(max(RA, RB), RC), and sets SAT
when that is not RA; CMPF sets its flag to the condition; EVRY sets its flag when LT_COUNT mod N is the phase; SKIP
passes over COUNT instructions when its flag has the value asked for. Each counts its cycles. -/
def Obligations.EngineArithmetic : Prop :=
  (∀ (s : State) (n : Nat), s.executes n → 
    ∃ t, exec (.nop n) s = .next t ∧
      s.stepped t n 1 ∧ (t.engine n).regs = (s.engine n).regs) ∧
  (∀ (s : State) (n rd imm : Nat), s.executes n → rd < 32 → 
    ∃ t, exec (.ldk n rd imm) s = .next t ∧
      s.stepped t n 1 ∧ t.regHolds n rd imm) ∧
  (∀ (s : State) (n rd ra rb : Nat), s.executes n → rd < 32 → 
    ∃ t, exec (.add n rd ra rb) s = .next t ∧
      s.stepped t n 1 ∧ t.regHolds n rd ((s.rg n ra).addExact (s.rg n rb)).bits32) ∧
  (∀ (s : State) (n rd ra rb : Nat), s.executes n → rd < 32 → 
    ∃ t, exec (.sub n rd ra rb) s = .next t ∧
      s.stepped t n 1 ∧ t.regHolds n rd ((s.rg n ra).addExact (s.rg n rb).neg).bits32) ∧
  (∀ (s : State) (n rd ra rb : Nat), s.executes n → rd < 32 → 
    ∃ t, exec (.mul n rd ra rb) s = .next t ∧
      s.stepped t n 1 ∧ t.regHolds n rd ((s.rg n ra).mulExact (s.rg n rb)).bits32) ∧
  (∀ (s : State) (n rd ra rb rc : Nat), s.executes n → rd < 32 → 
    ∃ t, exec (.mac n rd ra rb rc) s = .next t ∧
      s.stepped t n 1 ∧ t.regHolds n rd (((s.rg n ra).mulExact (s.rg n rb)).addExact (s.rg n rc)).bits32) ∧
  (∀ (s : State) (n rd ra rb : Nat), s.executes n → rd < 32 → 
    ∃ t, exec (.div n rd ra rb) s = .next t ∧
      s.stepped t n 8 ∧ t.regHolds n rd (Fp.div b32 (s.rg n ra) (s.rg n rb)).bits32) ∧
  (∀ (s : State) (n rd ra : Nat), s.executes n → rd < 32 → 
    ∃ t, exec (.sqrt n rd ra) s = .next t ∧
      s.stepped t n 8 ∧ t.regHolds n rd (Fp.sqrt b32 (s.rg n ra)).bits32) ∧
  (∀ (s : State) (n rd ra : Nat), s.executes n → rd < 32 → 
    ∃ t, exec (.abs n rd ra) s = .next t ∧
      s.stepped t n 1 ∧ t.regHolds n rd (s.rg n ra).abs.bits32) ∧
  (∀ (s : State) (n rd ra : Nat), s.executes n → rd < 31 → 
    ∃ t, exec (.sincos n rd ra) s = .next t ∧
      s.stepped t n 6 ∧ (t.regHolds n rd ((s.rg n ra).sin).bits32 ∧ t.regHolds n (rd + 1) ((s.rg n ra).cos).bits32)) ∧
  (∀ (s : State) (n rd ra rb rc : Nat), s.executes n → rd < 32 → 
    ∃ t, exec (.lim n rd ra rb rc) s = .next t ∧
      s.stepped t n 1 ∧ (∃ r ∈ [ra, rb, rc], t.regHolds n rd (s.rgBits n r) ∧ s.rg n r = ((s.rg n ra).clamp (s.rg n rb) (s.rg n rc))) ∧
      t.engFlag n 1 = !(((s.rg n ra).clamp (s.rg n rb) (s.rg n rc)).eqv (s.rg n ra))) ∧
  (∀ (s : State) (n flag ra rb cond : Nat), s.executes n → 
    ∃ t, exec (.cmpf n flag ra rb cond) s = .next t ∧
      s.stepped t n 1 ∧ t.engFlag n flag = condHolds cond (s.rg n ra) (s.rg n rb)) ∧
  (∀ (s : State) (n flag every phase : Nat), s.executes n → 
    ∃ t, exec (.evry n flag every phase) s = .next t ∧
      s.stepped t n 2 ∧ t.engFlag n flag = (s.fld .LT_COUNT % every == phase)) ∧
  (∀ (s : State) (n flag count : Nat) (eq : Bool), s.executes n → 
    ∃ t, exec (.skip n flag eq count) s = .next t ∧
      (t.engine n).pc = (s.engine n).pc + 1 + (if s.engFlag n flag = eq then count % 256 else 0) ∧
      (t.engine n).cycles = (s.engine n).cycles + 1)

/-- While a run of a clocked Wing is in progress and no WAIT stalls, CLARKE, PARK and IPARK write both axes, each
operation in binary64; CLIM with MOD 0 scales a vector beyond the radius and leaves one within it; with MOD 1 it
limits RA first and RB to what is left of the circle, with MOD 2 RB first. PI, PR, BIQ and SOGI on sound data words
write their output and states as their equations give them, where the new states are finite; otherwise the run ends
with FCAUSE 3, and on a poisoned word with 2. LUT with a length in range interpolates between two entries, with
another its FCAUSE is 6. -/
def Obligations.EngineTransformsAndBlocks : Prop :=
  (∀ (s : State) (n rd ra rb rc : Nat), s.executes n → rd < 31 → 
    ∃ t, exec (.clarke n rd ra rb rc) s = .next t ∧
      s.stepped t n 3 ∧ (t.regHolds n rd (Fp.div b64 (((fpTwo.mul (s.rg n ra)).sub (s.rg n rb)).sub (s.rg n rc)) fpThree).bits32 ∧ t.regHolds n (rd + 1) (Fp.div b64 ((s.rg n rb).sub (s.rg n rc)) (Fp.sqrt b64 fpThree)).bits32)) ∧
  (∀ (s : State) (n rd ra rb rc : Nat), s.executes n → rd < 31 → 
    ∃ t, exec (.park n rd ra rb rc) s = .next t ∧
      s.stepped t n 3 ∧ (t.regHolds n rd (((s.rg n ra).mul (s.rg n (rc + 1))).add ((s.rg n rb).mul (s.rg n rc))).bits32 ∧ t.regHolds n (rd + 1) (((s.rg n ra).neg.mul (s.rg n rc)).add ((s.rg n rb).mul (s.rg n (rc + 1)))).bits32)) ∧
  (∀ (s : State) (n rd ra rb rc : Nat), s.executes n → rd < 31 → 
    ∃ t, exec (.ipark n rd ra rb rc) s = .next t ∧
      s.stepped t n 3 ∧ (t.regHolds n rd (((s.rg n ra).mul (s.rg n (rc + 1))).sub ((s.rg n rb).mul (s.rg n rc))).bits32 ∧ t.regHolds n (rd + 1) (((s.rg n ra).mul (s.rg n rc)).add ((s.rg n rb).mul (s.rg n (rc + 1)))).bits32)) ∧
  (∀ (s : State) (n rd ra rb rc : Nat) (mag : Fp), s.executes n → rd < 31 → mag = Fp.sqrt b64 (((s.rg n ra).mul (s.rg n ra)).add ((s.rg n rb).mul (s.rg n rb))) → 
    ∃ t, exec (.clim n rd ra rb rc 0) s = .next t ∧
      s.stepped t n 10 ∧ (if (s.rg n rc).lt mag = true then (t.regHolds n rd (Fp.div b64 ((s.rg n ra).mul (s.rg n rc)) mag).bits32 ∧ t.regHolds n (rd + 1) (Fp.div b64 ((s.rg n rb).mul (s.rg n rc)) mag).bits32)
       else (t.regHolds n rd (s.rg n ra).bits32 ∧ t.regHolds n (rd + 1) (s.rg n rb).bits32))) ∧
  (∀ (s : State) (n rd ra rb rc mod : Nat) (x y x1 m : Fp), s.executes n → rd < 31 → mod = 1 ∨ mod = 2 → x = (if mod = 1 then s.rg n ra else s.rg n rb) → y = (if mod = 1 then s.rg n rb else s.rg n ra) → x1 = x.clamp (s.rg n rc).neg (s.rg n rc) → m = Fp.sqrt b64 (((s.rg n rc).mul (s.rg n rc)).sub (x1.mul x1)) → 
    ∃ t, exec (.clim n rd ra rb rc mod) s = .next t ∧
      s.stepped t n 10 ∧ t.regHolds n (if mod = 1 then rd else rd + 1) x1.bits32 ∧ t.regHolds n (if mod = 1 then rd + 1 else rd) (y.clamp m.neg m).bits32) ∧
  (∀ (s : State) (n rd ra rb addr : Nat), s.executes n → rd < 32 → 
    ∃ t, exec (.pi n rd ra rb addr) s = .next t ∧
      if s.sound n (0x2000 + addr) 7 then
        (if ((piSpec (fun k => s.r32 n (addr + k)) (fun k => s.r64 n (addr + k)) (s.rg n ra) (s.rg n rb)).2.1).finite = true then s.stepped t n 6 ∧ t.regHolds n rd (piSpec (fun k => s.r32 n (addr + k)) (fun k => s.r64 n (addr + k)) (s.rg n ra) (s.rg n rb)).1.bits32 ∧
          t.wordHolds n (addr + 4) (piSpec (fun k => s.r32 n (addr + k)) (fun k => s.r64 n (addr + k)) (s.rg n ra) (s.rg n rb)).2.1 ∧
          t.engFlag n 1 = (piSpec (fun k => s.r32 n (addr + k)) (fun k => s.r64 n (addr + k)) (s.rg n ra) (s.rg n rb)).2.2
         else s.faulted t n 3)
      else s.faulted t n 2) ∧
  (∀ (s : State) (n rd ra rb addr : Nat), s.executes n → rd < 32 → 
    ∃ t, exec (.pr n rd ra rb addr) s = .next t ∧
      if s.sound n (0x2000 + addr) 10 then
        (if ((prSpec (fun k => s.r32 n (addr + k)) (fun k => s.r64 n (addr + k)) (s.rg n ra) (s.rg n rb)).2.1).finite = true ∧ ((prSpec (fun k => s.r32 n (addr + k)) (fun k => s.r64 n (addr + k)) (s.rg n ra) (s.rg n rb)).2.2).finite = true then s.stepped t n 8 ∧ t.regHolds n rd (prSpec (fun k => s.r32 n (addr + k)) (fun k => s.r64 n (addr + k)) (s.rg n ra) (s.rg n rb)).1.bits32 ∧
          t.wordHolds n (addr + 6) (prSpec (fun k => s.r32 n (addr + k)) (fun k => s.r64 n (addr + k)) (s.rg n ra) (s.rg n rb)).2.1 ∧
          t.wordHolds n (addr + 8) (prSpec (fun k => s.r32 n (addr + k)) (fun k => s.r64 n (addr + k)) (s.rg n ra) (s.rg n rb)).2.2
         else s.faulted t n 3)
      else s.faulted t n 2) ∧
  (∀ (s : State) (n rd ra addr : Nat), s.executes n → rd < 32 → 
    ∃ t, exec (.biq n rd ra addr) s = .next t ∧
      if s.sound n (0x2000 + addr) 10 then
        (if ((biqSpec (fun k => s.r32 n (addr + k)) (fun k => s.r64 n (addr + k)) (s.rg n ra)).2.1).finite = true ∧ ((biqSpec (fun k => s.r32 n (addr + k)) (fun k => s.r64 n (addr + k)) (s.rg n ra)).2.2).finite = true then s.stepped t n 7 ∧ t.regHolds n rd (biqSpec (fun k => s.r32 n (addr + k)) (fun k => s.r64 n (addr + k)) (s.rg n ra)).1.bits32 ∧
          t.wordHolds n (addr + 6) (biqSpec (fun k => s.r32 n (addr + k)) (fun k => s.r64 n (addr + k)) (s.rg n ra)).2.1 ∧ t.wordHolds n (addr + 8) (biqSpec (fun k => s.r32 n (addr + k)) (fun k => s.r64 n (addr + k)) (s.rg n ra)).2.2
         else s.faulted t n 3)
      else s.faulted t n 2) ∧
  (∀ (s : State) (n rd ra rb addr : Nat), s.executes n → rd < 31 → 
    ∃ t, exec (.sogi n rd ra rb addr) s = .next t ∧
      if s.sound n (0x2000 + addr) 6 then
        (if ((sogiSpec (fun k => s.r32 n (addr + k)) (fun k => s.r64 n (addr + k)) (s.rg n ra) (s.rg n rb)).1).finite = true ∧ ((sogiSpec (fun k => s.r32 n (addr + k)) (fun k => s.r64 n (addr + k)) (s.rg n ra) (s.rg n rb)).2).finite = true then s.stepped t n 10 ∧ (t.regHolds n rd ((sogiSpec (fun k => s.r32 n (addr + k)) (fun k => s.r64 n (addr + k)) (s.rg n ra) (s.rg n rb)).1).bits32 ∧ t.regHolds n (rd + 1) ((sogiSpec (fun k => s.r32 n (addr + k)) (fun k => s.r64 n (addr + k)) (s.rg n ra) (s.rg n rb)).2).bits32) ∧
          t.wordHolds n (addr + 2) (sogiSpec (fun k => s.r32 n (addr + k)) (fun k => s.r64 n (addr + k)) (s.rg n ra) (s.rg n rb)).1 ∧ t.wordHolds n (addr + 4) (sogiSpec (fun k => s.r32 n (addr + k)) (fun k => s.r64 n (addr + k)) (s.rg n ra) (s.rg n rb)).2
         else s.faulted t n 3)
      else s.faulted t n 2) ∧
  (∀ (s : State) (n rd ra addr len j : Nat) (u : Fp), s.executes n → rd < 32 → s.sound n (0x2000 + addr) 4 → len = s.d32 n (addr + 2) → u = (((s.rg n ra).sub (s.r32 n addr)).mul (s.r32 n (addr + 1))).clamp .zero (.ofInt (len - 1 : Nat)) → j = min u.floor.toNat (len - 2) → s.sound n (0x2000 + (addr + 4 + j)) 2 → 
    ∃ t, exec (.lut n rd ra addr) s = .next t ∧
      if 2 ≤ len ∧ len ≤ 256 ∧ addr + 4 + len ≤ 0x1F80 then
        s.stepped t n 6 ∧ t.regHolds n rd ((s.r32 n (addr + 4 + j)).add ((u.sub (.ofInt j)).mul ((s.r32 n (addr + 4 + j + 1)).sub (s.r32 n (addr + 4 + j))))).bits32
      else s.faulted t n 6)

/-- While a run of a clocked Wing is in progress and no WAIT stalls: DDSRF on sound data words writes four outputs and
filters each into its state, where those are finite; otherwise the run ends with FCAUSE 3, and on a poisoned word with
2. So too PLL writes angle, frequency, sine and cosine, keeps the integrator and sets SAT at a limit; RLIM, PROF and
PRESET write output and states as their equations give them; RAMP moves from its state, or from RB when it restarts,
and shows SAT while it moves; FERR counts consecutive periods of following error up to NPER, keeps its event for END
when it gets there, and clears the count within the bound. -/
def Obligations.EngineFiltersAndRamps : Prop :=
  (∀ (s : State) (n rd ra rb rc addr : Nat) (o : Fp × Fp × Fp × Fp), s.executes n → rd < 29 → o = ddsrfSpec (fun k => s.r64 n (addr + k)) (s.rg n ra) (s.rg n rb) (s.rg n rc) (s.rg n (rc + 1)) → 
    ∃ t, exec (.ddsrf n rd ra rb rc addr) s = .next t ∧
      if s.sound n (0x2000 + addr) 10 then
        (if (lagStep (s.r32 n addr) (s.r64 n (addr + 2)) o.1).finite = true ∧ (lagStep (s.r32 n addr) (s.r64 n (addr + 4)) o.2.1).finite = true ∧ (lagStep (s.r32 n addr) (s.r64 n (addr + 6)) o.2.2.1).finite = true ∧ (lagStep (s.r32 n addr) (s.r64 n (addr + 8)) o.2.2.2).finite = true then s.stepped t n 24 ∧ t.regHolds n rd o.1.bits32 ∧ t.regHolds n (rd + 1) o.2.1.bits32 ∧ t.regHolds n (rd + 2) o.2.2.1.bits32 ∧
          t.regHolds n (rd + 3) o.2.2.2.bits32 ∧
          t.wordHolds n (addr + 2) (lagStep (s.r32 n addr) (s.r64 n (addr + 2)) o.1) ∧ t.wordHolds n (addr + 4) (lagStep (s.r32 n addr) (s.r64 n (addr + 4)) o.2.1) ∧ t.wordHolds n (addr + 6) (lagStep (s.r32 n addr) (s.r64 n (addr + 6)) o.2.2.1) ∧ t.wordHolds n (addr + 8) (lagStep (s.r32 n addr) (s.r64 n (addr + 8)) o.2.2.2)
         else s.faulted t n 3)
      else s.faulted t n 2) ∧
  (∀ (s : State) (n rd ra addr : Nat), s.executes n → rd < 29 → 
    ∃ t, exec (.pll n rd ra addr) s = .next t ∧
      if s.sound n (0x2000 + addr) 10 then
        (if ((pllSpec (fun k => s.r32 n (addr + k)) (fun k => s.r64 n (addr + k)) (s.rg n ra)).2.2.1).finite = true ∧ ((pllSpec (fun k => s.r32 n (addr + k)) (fun k => s.r64 n (addr + k)) (s.rg n ra)).1).finite = true then s.stepped t n 14 ∧ t.regHolds n rd (pllSpec (fun k => s.r32 n (addr + k)) (fun k => s.r64 n (addr + k)) (s.rg n ra)).1.bits32 ∧ t.regHolds n (rd + 1) (pllSpec (fun k => s.r32 n (addr + k)) (fun k => s.r64 n (addr + k)) (s.rg n ra)).2.1.bits32 ∧
          t.regHolds n (rd + 2) (pllSpec (fun k => s.r32 n (addr + k)) (fun k => s.r64 n (addr + k)) (s.rg n ra)).1.sin.bits32 ∧ t.regHolds n (rd + 3) (pllSpec (fun k => s.r32 n (addr + k)) (fun k => s.r64 n (addr + k)) (s.rg n ra)).1.cos.bits32 ∧
          t.wordHolds n (addr + 6) (pllSpec (fun k => s.r32 n (addr + k)) (fun k => s.r64 n (addr + k)) (s.rg n ra)).2.2.1 ∧ t.wordHolds n (addr + 8) (pllSpec (fun k => s.r32 n (addr + k)) (fun k => s.r64 n (addr + k)) (s.rg n ra)).1 ∧
          t.engFlag n 1 = (pllSpec (fun k => s.r32 n (addr + k)) (fun k => s.r64 n (addr + k)) (s.rg n ra)).2.2.2
         else s.faulted t n 3)
      else s.faulted t n 2) ∧
  (∀ (s : State) (n rd ra addr : Nat), s.executes n → rd < 32 → 
    ∃ t, exec (.rlim n rd ra addr) s = .next t ∧
      if s.sound n (0x2000 + addr) 4 then
        (if ((rlimSpec (fun k => s.r32 n (addr + k)) (fun k => s.r64 n (addr + k)) (s.rg n ra)).1).finite = true then s.stepped t n 3 ∧ t.regHolds n rd (rlimSpec (fun k => s.r32 n (addr + k)) (fun k => s.r64 n (addr + k)) (s.rg n ra)).1.bits32 ∧ t.wordHolds n (addr + 2) (rlimSpec (fun k => s.r32 n (addr + k)) (fun k => s.r64 n (addr + k)) (s.rg n ra)).1 ∧
          t.engFlag n 1 = (rlimSpec (fun k => s.r32 n (addr + k)) (fun k => s.r64 n (addr + k)) (s.rg n ra)).2
         else s.faulted t n 3)
      else s.faulted t n 2) ∧
  (∀ (s : State) (n rd ra addr : Nat), s.executes n → rd < 31 → 
    ∃ t, exec (.prof n rd ra addr) s = .next t ∧
      if s.sound n (0x2000 + addr) 10 then
        (if ((profSpec (fun k => s.r32 n (addr + k)) (fun k => s.r64 n (addr + k)) (s.rg n ra)).1).finite = true ∧ ((profSpec (fun k => s.r32 n (addr + k)) (fun k => s.r64 n (addr + k)) (s.rg n ra)).2.1).finite = true ∧ ((profSpec (fun k => s.r32 n (addr + k)) (fun k => s.r64 n (addr + k)) (s.rg n ra)).2.2).finite = true then s.stepped t n 16 ∧ (t.regHolds n rd ((profSpec (fun k => s.r32 n (addr + k)) (fun k => s.r64 n (addr + k)) (s.rg n ra)).1).bits32 ∧ t.regHolds n (rd + 1) ((profSpec (fun k => s.r32 n (addr + k)) (fun k => s.r64 n (addr + k)) (s.rg n ra)).2.1).bits32) ∧
          t.wordHolds n (addr + 4) (profSpec (fun k => s.r32 n (addr + k)) (fun k => s.r64 n (addr + k)) (s.rg n ra)).1 ∧ t.wordHolds n (addr + 6) (profSpec (fun k => s.r32 n (addr + k)) (fun k => s.r64 n (addr + k)) (s.rg n ra)).2.1 ∧ t.wordHolds n (addr + 8) (profSpec (fun k => s.r32 n (addr + k)) (fun k => s.r64 n (addr + k)) (s.rg n ra)).2.2
         else s.faulted t n 3)
      else s.faulted t n 2) ∧
  (∀ (s : State) (n ra rb rc addr : Nat), s.executes n → 
    ∃ t, exec (.preset n ra rb rc addr) s = .next t ∧
      if s.sound n (0x2000 + addr) 6 then
        (if ((presetSpec (fun k => s.r32 n (addr + k)) (s.rg n ra) (s.rg n rb) (s.rg n rc))).finite = true then s.stepped t n 4 ∧ t.wordHolds n (addr + 4) (presetSpec (fun k => s.r32 n (addr + k)) (s.rg n ra) (s.rg n rb) (s.rg n rc))
         else s.faulted t n 3)
      else s.faulted t n 2) ∧
  (∀ (s : State) (n rd ra rb addr : Nat) (y0 : Fp), s.executes n → rd < 32 → y0 = (if s.d32 n (addr + 4) = 0 ∨ s.engFlag n 3 = true then s.rg n rb else s.r64 n (addr + 2)) → 
    ∃ t, exec (.ramp n rd ra rb addr) s = .next t ∧
      if s.sound n (0x2000 + addr) 6 then
        (if ((rampSpec (fun k => s.r32 n (addr + k)) (s.rg n ra) y0).1).finite = true then s.stepped t n 4 ∧ t.regHolds n rd (rampSpec (fun k => s.r32 n (addr + k)) (s.rg n ra) y0).1.bits32 ∧ t.wordHolds n (addr + 2) (rampSpec (fun k => s.r32 n (addr + k)) (s.rg n ra) y0).1 ∧
          t.engFlag n 1 = (rampSpec (fun k => s.r32 n (addr + k)) (s.rg n ra) y0).2 ∧ (s.d32 n (addr + 4) = 0 ∨ s.engFlag n 3 = true → t.d32 n (addr + 4) = 1)
         else s.faulted t n 3)
      else s.faulted t n 2) ∧
  (∀ (s : State) (n ra rb addr : Nat) (beyond : Bool), s.executes n → beyond = (s.r32 n addr).lt ((s.rg n ra).sub (s.rg n rb)).abs → 
    ∃ t, exec (.ferr n ra rb addr) s = .next t ∧
      if s.sound n (0x2000 + addr) 4 then s.stepped t n 4 ∧ t.d32 n (addr + 2) = (if beyond = false then 0 else if s.d32 n (addr + 2) < s.d32 n (addr + 1) then (s.d32 n (addr + 2) + 1) % 2 ^ 32 else s.d32 n (addr + 2)) ∧
        (beyond = true → s.d32 n (addr + 2) + 1 = s.d32 n (addr + 1) → (t.engine n).events = (s.engine n).events ++ [(0x53, (s.engine n).pc, addr, 0)])
      else s.faulted t n 2)

/-- While a run of a clocked Wing is in progress and no WAIT stalls: LD writes a sound data word into RD, and on a
poisoned one the run ends with FCAUSE 2; ST of a finite value writes it with the old word logged, of another ends the
run with FCAUSE 3; a wide one at an even address needs no sound word; on a poisoned word it does not cover FCAUSE is
2. LDS writes the converted subscriptions and VALID, on a poisoned word FCAUSE 2. WAIT steps on with its words, or
with TMO at its deadline, and else stalls; WAIT_DEADLINE ends it with TMO. INJ queues a request on a converting slot,
or starts it on an idle one, and discards it with event 0x0A while slots do not convert, on an unbonded input or a
full queue. STPC, STPD, STPP and STPE of finite values stage their shadow word where the Wing is entitled to the
module, and are discarded with event 0x01 where it is not; another value ends the run with FCAUSE 3. EVT keeps its
event, and a fault asked for, for END. -/
def Obligations.EngineMemoryAndStores : Prop :=
  (∀ (s : State) (n rd addr : Nat), s.executes n → rd < 32 → 
    ∃ t, exec (.ld n rd addr false) s = .next t ∧
      if s.sound n (0x2000 + addr) 1 then s.stepped t n 2 ∧ t.regHolds n rd (s.d32 n addr) else s.faulted t n 2) ∧
  (∀ (s : State) (n rd addr : Nat), s.executes n → rd < 32 → 
    ∃ t, exec (.ld n rd addr true) s = .next t ∧
      if s.sound n (0x2000 + addr) 2 then s.stepped t n 2 ∧ t.regHolds n rd (s.r64 n addr).bits32 else s.faulted t n 2) ∧
  (∀ (s : State) (n ra addr : Nat), s.executes n → s.sound n (0x2000 + addr) 1 → 
    ∃ t, exec (.st n ra addr false) s = .next t ∧
      if (s.rg n ra).finite then s.stepped t n 2 ∧ t.d32 n addr = s.rgBits n ra % 2 ^ 32 ∧ (t.engine n).log = (0x2000 + addr, s.d32 n addr) :: (s.engine n).log
      else s.faulted t n 3) ∧
  (∀ (s : State) (n ra addr : Nat), s.executes n → addr % 2 = 0 ∨ s.sound n (0x2000 + addr) 2 → 
    ∃ t, exec (.st n ra addr true) s = .next t ∧
      if (s.rg n ra).finite then s.stepped t n 2 ∧ t.wordHolds n addr (s.rg n ra) ∧ (addr % 2 = 0 → t.engBad n ((0x2000 + addr) / 2) = false)
      else s.faulted t n 3) ∧
  (∀ (s : State) (n ra addr : Nat) (wide : Bool), s.executes n → (s.rg n ra).finite = true → ¬ s.sound n (0x2000 + addr) (if wide then 2 else 1) → wide = false ∨ addr % 2 = 1 → 
    ∃ t, exec (.st n ra addr wide) s = .next t ∧
      s.faulted t n 2) ∧
  (∀ (s : State) (n rd ra mod : Nat), s.executes n → rd + mod < 32 → 
    ∃ t, exec (.lds n rd ra mod) s = .next t ∧
      if s.sound n (0x3F80 + 4 * ra) (4 * (mod + 1)) then s.stepped t n (3 + mod) ∧ (∀ i, i ≤ mod → t.regHolds n (rd + i) (s.subValue n (ra + i)).1.bits32) ∧
        t.engFlag n 0 = (List.range (mod + 1)).all (fun i => (s.subValue n (ra + i)).2.1)
      else s.faulted t n 2) ∧
  (∀ (s : State) (n ra rb d : Nat), s.executes n → 
    ∃ t, exec (.wait n ra rb d) s = .next t ∧
      if (s.engine n).periodWords ra rb = true ∨ (s.engine n).tk + d ≤ s.tb then
        (t.engine n).pc = (s.engine n).pc + 1 ∧ (t.engine n).wait = none ∧ t.engFlag n 4 = !(s.engine n).periodWords ra rb
      else (t.engine n).pc = (s.engine n).pc ∧ (t.engine n).wait = some (ra, rb, (s.engine n).tk + d, s.tb)) ∧
  (∀ (s : State) (n : Nat), n < 12 → n < s.eng.engines.length → s.running n = true → (s.engine n).wait ≠ none → s.wingClock (engineWing n) = true → 
    ∃ t, exec (.waitDeadline n) s = .next t ∧
      (t.engine n).pc = (s.engine n).pc + 1 ∧ (t.engine n).wait = none ∧ t.engFlag n 4 = true) ∧
  (∀ (s : State) (n slot input ext : Nat), s.executes n → slot < 16 → slot < s.sar.slots.length → input < 4 → ext < 64 → 
    ∃ t, exec (.inj n slot input ext) s = .next t ∧
      s.stepped t n 2 ∧ 
      (if s.sarConverts = true ∧ s.bonded input = true ∧ (s.slot slot).injQ.length < 4 then
        ((s.slot slot).cur.isSome = true → (t.slot slot).injQ = (s.slot slot).injQ ++ [(input, ext)]) ∧
        ((s.slot slot).cur = none → (s.slot slot).injQ = [] → (t.slot slot).cur = some { input := input, ext := ext, inj := true })
       else (t.slot slot).injQ = (s.slot slot).injQ ∧ s.tells t .sar 0x0A)) ∧
  (∀ (s : State) (n m ra rb : Nat) (a b : Fp), s.executes n → m < s.pwm.mods.length → a = fp128.mul (s.rg n ra) → b = fp128.mul (s.rg n rb) → 
    ∃ t, exec (.stpc n m ra rb) s = .next t ∧
      if (a).finite = true ∧ (b).finite = true then s.stepped t n 3 ∧
        (if s.hasPm m = true ∧ s.isEntitled (engineWing n) m = true then t.stages n m 0 (compareOf a + compareOf b * 2 ^ 32)
         else (t.pm m).staged = (s.pm m).staged ∧ (s.hasPm m = true → s.tells t .engine 0x01))
      else s.faulted t n 3) ∧
  (∀ (s : State) (n m ra rb : Nat) (a b : Fp), s.executes n → m < s.pwm.mods.length → a = (fp128.mul (s.rg n ra)).mul (Fp.ofInt (s.stagedPer n m)) → b = (fp128.mul (s.rg n rb)).mul (Fp.ofInt (s.stagedPer n m)) → 
    ∃ t, exec (.stpd n m ra rb) s = .next t ∧
      if (a).finite = true ∧ (b).finite = true then s.stepped t n 4 ∧
        (if s.hasPm m = true ∧ s.isEntitled (engineWing n) m = true then t.stages n m 0 (compareOf a + compareOf b * 2 ^ 32)
         else (t.pm m).staged = (s.pm m).staged ∧ (s.hasPm m = true → s.tells t .engine 0x01))
      else s.faulted t n 3) ∧
  (∀ (s : State) (n m ra rb rc : Nat), s.executes n → m < s.pwm.mods.length → 
    ∃ t, exec (.stpp n m ra rb rc) s = .next t ∧
      if (s.rg n ra).finite = true ∧ (s.rg n rb).finite = true ∧ (s.rg n rc).finite = true then s.stepped t n 3 ∧
        (if s.hasPm m = true ∧ s.isEntitled (engineWing n) m = true then t.stages n m 1 ((s.rg n ra).count 16 1048575 + (s.rg n rb).count 0 1048575 * 2 ^ 20 + (s.rg n rc).count 0 1048575 * 2 ^ 40)
         else (t.pm m).staged = (s.pm m).staged ∧ (s.hasPm m = true → s.tells t .engine 0x01))
      else s.faulted t n 3) ∧
  (∀ (s : State) (n m ra rb : Nat) (h l : Fp), s.executes n → m < s.pwm.mods.length → h = tapsPerNs.mul (s.rg n ra) → l = tapsPerNs.mul (s.rg n rb) → 
    ∃ t, exec (.stpe n m ra rb) s = .next t ∧
      if (h).finite = true ∧ (l).finite = true then s.stepped t n 3 ∧
        (if s.hasPm m = true ∧ s.isEntitled (engineWing n) m = true then t.stages n m 2 (h.count 0 163840 + l.count 0 163840 * 2 ^ 32)
         else (t.pm m).staged = (s.pm m).staged ∧ (s.hasPm m = true → s.tells t .engine 0x01))
      else s.faulted t n 3) ∧
  (∀ (s : State) (n ra code : Nat) (fault : Bool), s.executes n → 
    ∃ t, exec (.evt n ra code fault) s = .next t ∧
      s.stepped t n 2 ∧ (t.engine n).events = (s.engine n).events ++ [(0x54, (s.engine n).pc, code % 2 ^ 16, s.rgBits n ra)] ∧
      (fault = true → (t.engine n).evtFault.isSome = true))

/-- LESSON_RUN_START of a due engine that may run begins at pc 0 with its registers zero and no cycles; of another it
does nothing. END completes the run with its cycles in LE_TIME, no consecutive overrun, its stores complete and held
writes made; a fault that EVT asked for is reported with FCAUSE 4. On the engine of the grid Timetable it has staged
the six duties of the bridge. A core that may store to an engine window holds the low half of a data word, making a
half held before alone; the matching high half writes both, or while a run is in progress has them held, the 17th time
a store access fault; a high half alone writes itself on a sound word, and on a poisoned one ends with that fault.
HELD_LOW_HALF_TIMEOUT makes the held half alone, or holds it for a run's end. A store to another word of the window
joins the pending set in Recess, and outside it is discarded with event 0x01. A core of the other Wing gets the fault.
ENGINE_DATA_UPDATE writes its 1 to 64 words at once, or has them held while a run is in progress. LE_RETIRE_WRITE of a
core of its Wing asks for retirement; of another it faults. -/
def Obligations.EngineRunsAndData : Prop :=
  (∀ (s : State) (n : Nat), n < 12 → n < s.eng.engines.length → 
    ∃ t, exec (.lessonRunStart n) s = .next t ∧
      if (s.engine n).due = true ∧ s.running n = false ∧ s.mayRun n = true then
        t.running n = true ∧ (t.engine n).pc = 0 ∧ (t.engine n).regs = List.replicate 32 0 ∧ (t.engine n).cycles = 0 ∧ (t.engine n).due = false
      else t = s) ∧
  (∀ (s : State) (n : Nat), s.executes n → 
    ∃ t, exec (.endRun n) s = .next t ∧
      t.running n = false ∧ (t.engine n).complete = true ∧ (t.engine n).log = [] ∧ (t.engine n).held = [] ∧ t.fld .LE_STAT_OVRCONS n = 0 ∧
      t.fld .LE_TIME_LAST n = ((s.engine n).cycles + 2) % 2 ^ Fld.width .LE_TIME_LAST ∧
      (∀ m < 24, ∀ x ∈ (t.pm m).staged, x.engine = n → x.complete = true) ∧
      ((s.engine n).evtFault.isSome = true → t.fld .LE_STAT_FCAUSE n = 4 ∧ t.flag .LE_STAT_FAULT n = true)) ∧
  (∀ (s : State) (n k : Nat), s.executes n → s.ship.grid.installed = true → s.shippedOn 0x6000 n = true → k < 6 → s.var 0x6000 2 + k < s.pwm.mods.length → s.hasPm (s.var 0x6000 2 + k) = true → s.isEntitled (engineWing n) (s.var 0x6000 2 + k) = true → 
    ∃ t, exec (.endRun n) s = .next t ∧
      t.ship.grid.duties.length = 6 ∧ ((Fp.of32 (t.ship.grid.duties.getD k 0)).finite = true →
        (t.pm (s.var 0x6000 2 + k)).staged.any (fun e => e.engine == n && e.word == 0 && e.complete) = true)) ∧
  (∀ (s : State) (core n idx v : Nat), s.ownsWindow core n (4 * idx) → core < s.eng.lowHold.length → 0x2000 ≤ idx → idx < 0x3F80 → idx % 2 = 0 → 
    ∃ t, exec (.engineDataWrite core n (4 * idx) v) s = .next t ∧
      t.eng.lowHold.getD core none = some (n, idx, v % 2 ^ 32) ∧
      (s.eng.lowHold.getD core none = none → t.eng.mem = s.eng.mem) ∧
      (∀ p ∈ s.eng.lowHold.getD core none, s.running p.1 = false → s.engBad p.1 (p.2.1 / 2) = false → t.engWord p.1 p.2.1 = p.2.2 % 2 ^ 32)) ∧
  (∀ (s : State) (core n idx v lo : Nat), s.ownsWindow core n (4 * idx) → core < s.eng.lowHold.length → 0x2000 ≤ idx → idx < 0x3F80 → idx % 2 = 1 → s.eng.lowHold.getD core none = some (n, idx - 1, lo) → n < s.eng.engines.length → core < s.tut.mcause.length → 
    ∃ t, exec (.engineDataWrite core n (4 * idx) v) s = .next t ∧
      t.eng.lowHold.getD core none = none ∧
      (if s.running n = false then t.engWord n (idx - 1) = lo % 2 ^ 32 ∧ t.engWord n idx = v % 2 ^ 32
       else if ((s.engine n).held.filter (fun w => w.1)).length < 16 then
         (t.engine n).held = (s.engine n).held ++ [(true, [(idx - 1, lo), (idx, v % 2 ^ 32)])] ∧ t.engWord n idx = s.engWord n idx
       else t.tut.mcause.getD core 0 = 7 ∧ t.engWord n idx = s.engWord n idx)) ∧
  (∀ (s : State) (core n idx v : Nat), s.ownsWindow core n (4 * idx) → core < s.eng.lowHold.length → 0x2000 ≤ idx → idx < 0x3F80 → idx % 2 = 1 → ∀ p ∈ s.eng.lowHold.getD core none, (p.1, p.2.1 + 1) ≠ (n, idx) ∧ p.2.1 / 2 ≠ idx / 2 → s.running n = false → core < s.tut.mcause.length → 
    ∃ t, exec (.engineDataWrite core n (4 * idx) v) s = .next t ∧
      if s.engBad n (idx / 2) = false then t.engWord n idx = v % 2 ^ 32 else t.engWord n idx = s.engWord n idx ∧ t.tut.mcause.getD core 0 = 7) ∧
  (∀ (s : State) (core n idx v : Nat), core < s.eng.lowHold.length → n < s.eng.engines.length → s.eng.lowHold.getD core none = some (n, idx, v) → s.engBad n (idx / 2) = false → 
    ∃ t, exec (.heldLowHalfTimeout core) s = .next t ∧
      t.eng.lowHold.getD core none = none ∧
      (if s.running n = false then t.engWord n idx = v % 2 ^ 32 else (t.engine n).held = (s.engine n).held ++ [(true, [(idx, v)])])) ∧
  (∀ (s : State) (core n idx v : Nat), s.ownsWindow core n (4 * idx) → core < s.eng.lowHold.length → n < 12 → idx < 0x2000 ∨ 0x3F80 ≤ idx → s.imageAwaited n = false → engGroup n < s.dict.groups.length → 
    ∃ t, exec (.engineDataWrite core n (4 * idx) v) s = .next t ∧
      t.eng.mem = s.eng.mem ∧ (if s.groupOpen (engGroup n) then (t.group (engGroup n)).pendVars.find (0x10000 + n, idx) = some (v % 2 ^ 32)
       else s.tells t .engine 0x01)) ∧
  (∀ (s : State) (core n ofs v : Nat), s.reaches core .engine (engAddr n ofs) → core < s.tut.mcause.length → n < 12 → ofs < 0x10000 → coreWing core ≠ engineWing n → 
    ∃ t, exec (.engineDataWrite core n ofs v) s = .next t ∧
      t.tut.mcause.getD core 0 = 7 ∧ t.eng.mem = s.eng.mem) ∧
  (∀ (s : State) (n ofs i : Nat) (words : List Nat), n < 12 → n < s.eng.engines.length → ofs % 4 = 0 → words.length ≤ 64 → ofs + 4 * words.length ≤ 32256 → i < words.length → 
    ∃ t, exec (.engineDataUpdate n ofs words) s = .next t ∧
      if s.running n = false then (s.engBad n ((0x2000 + ofs / 4 + i) / 2) = false → t.d32 n (ofs / 4 + i) = words.getD i 0 % 2 ^ 32)
      else (t.engine n).held.length = (s.engine n).held.length + 1 ∧ t.eng.mem = s.eng.mem) ∧
  (∀ (s : State) (core n : Nat), s.reaches core .engine (engRegAddr n 4) → n < 12 → n < s.eng.engines.length → core < s.tut.mcause.length → 
    ∃ t, exec (.leRetireWrite core n) s = .next t ∧
      if coreWing core = engineWing n then (t.engine n).retire = true else (t.engine n).retire = (s.engine n).retire ∧ t.tut.mcause.getD core 0 = 7)

/-- SUBSTITUTE_COPY_COMPLETE of a running copy ends it. Without an uncorrectable word the Substitute is ready; a word
outside LE_SNAP asks for an image, with event 0x57; one inside it comes from the newest usable snapshot that holds it.
A core that may store to LE_SUBGO resumes a copy that stopped for its image. SUBSTITUTE_SELF_TEST that fails retires
an idle Substitute and uses a spare, else it changes nothing. The grid and islanding commands wait for the next run
and answer 0; RUN and ARM are refused with 0x08000022 where response entry 13 does not cover the bridge.
MPPT_TRACE_REQUEST of a tracking input waits where no trace runs or waits; it is refused elsewhere, and an input above
11 is out of range. -/
def Obligations.SubstitutesAndShippedCommands : Prop :=
  (∀ (s : State) (w : Wing) (n : Nat), s.copyOf w = some n → s.flag (substCopy w) = true → 
    ∃ t, exec (.substituteCopyComplete w []) s = .next t ∧
      t.flag (substCopy w) = false ∧ t.copyOf w = some n ∧ (match w with | .a => t.eng.readyA | .b => t.eng.readyB) = true) ∧
  (∀ (s : State) (w : Wing) (n i : Nat) (bad : List Nat), s.copyOf w = some n → s.flag (substCopy w) = true → i ∈ bad → s.inSnap n (i / 2) = false → 
    ∃ t, exec (.substituteCopyComplete w bad) s = .next t ∧
      t.flag (substCopy w) = false ∧ t.flag (substImg w) = true ∧ t.copyOf w = some n ∧ s.reports t .engine 0x57) ∧
  (∀ (s : State) (w : Wing) (n i v : Nat) (p : Snapshot), s.copyOf w = some n → s.flag (substCopy w) = true → s.inSnap n (i / 2) = true → s.newestSlot = some p → p.engWord n (i / 2) = some v → 
    ∃ t, exec (.substituteCopyComplete w [i]) s = .next t ∧
      t.engWord n (i / 2 * 2) = v % 2 ^ 32 ∧ t.engWord n (i / 2 * 2 + 1) = v / 2 ^ 32 % 2 ^ 32 ∧ (match w with | .a => t.eng.readyA | .b => t.eng.readyB) = true) ∧
  (∀ (s : State) (core : Nat) (w : Wing) (a b : Bool), s.reaches core .engine 0x45000028 → (match w with | .a => a | .b => b) = true → (s.copyOf w).isSome = true → s.fld (substMap w) = 0xF → 
    ∃ t, exec (.leSubgoWrite core a b) s = .next t ∧
      t.flag (substCopy w) = true) ∧
  (∀ (s : State) (w : Wing) (pass : Bool), 
    ∃ t, exec (.substituteSelfTest w pass) s = .next t ∧
      if pass = false ∧ s.fld (substMap w) = 0xF ∧ s.copyOf w = none ∧ s.flag (substRet w) = false then
        t.flag (substRet w) = true ∧ t.fld .REPC_REM_REMAIN 4 = s.fld .REPC_REM_REMAIN 4 - 1
      else t = s) ∧
  (∀ (s : State), 
    ∃ t, exec .gridCommandSync s = .next t ∧
      t.ship.grid.cmd = some 0 ∧ t.dict.lastAbort = 0) ∧
  (∀ (s : State), 
    ∃ t, exec .gridCommandRun s = .next t ∧
      if s.bridgeCovered then t.ship.grid.cmd = some 1 ∧ t.dict.lastAbort = 0
      else t.ship.grid.cmd = s.ship.grid.cmd ∧ t.dict.lastAbort = 0x08000022) ∧
  (∀ (s : State), 
    ∃ t, exec .gridCommandClearTrip s = .next t ∧
      t.ship.grid.cmd = some 2 ∧ t.dict.lastAbort = 0) ∧
  (∀ (s : State), 
    ∃ t, exec .islandingDisarm s = .next t ∧
      t.ship.isl.cmd = some 0 ∧ t.dict.lastAbort = 0) ∧
  (∀ (s : State), 
    ∃ t, exec .islandingArm s = .next t ∧
      if s.bridgeCovered then t.ship.isl.cmd = some 1 ∧ t.dict.lastAbort = 0
      else t.ship.isl.cmd = s.ship.isl.cmd ∧ t.dict.lastAbort = 0x08000022) ∧
  (∀ (s : State), 
    ∃ t, exec .islandingClearTrip s = .next t ∧
      t.ship.isl.cmd = some 2 ∧ t.dict.lastAbort = 0) ∧
  (∀ (s : State) (input : Nat), 
    ∃ t, exec (.mpptTraceRequest input) s = .next t ∧
      if 11 < input then t.ship = s.ship ∧ t.dict.lastAbort = 0x06090030
      else if s.ship.mppt.trace = none ∧ s.ship.mppt.ask = none ∧ (s.ship.mppt.trackers.getD input {}).st = 2 then t.ship.mppt.ask = some input ∧ t.dict.lastAbort = 0
      else t.ship = s.ship ∧ t.dict.lastAbort = 0x08000022)

/-- BURSAR_PAIR waits for the current word after the instant of the oldest voltage word. With words on both sides it
takes the pair: usable, it joins the running cycle with the interpolated current; in a gap its time is gap time;
without one before it the word is passed over. METERING_CYCLE_END at a metering point begins the first cycle; later it
ends one at a crossing that counts, else after the nominal cycle, and commits the accumulators; the energy of a DC
point's cycle joins its import or export accumulator. HALF_CYCLE_BOUNDARY of an AC point moves each phase's half-cycle
on, starts a sag with event 0x70 when a phase falls below SAG, and ends one when all are back by the hysteresis. A
mask that a core may store to BUR_LATCH joins the waiting latch, and BUR_SAVE_NOW asks the Library for one save
record. BURSAR_RESTORE when due adds the newest save into the accumulators and sets RESTORED. THEFT_WINDOW_CLOCK
starts the clock of a window, and THEFT_WINDOW_END ends it: charges of selected channels show in BUR_TQ, THEFT_THR
reached sets TAMPER, the others stand. THEFT_CLR of a core that may store to it zeroes them, where fitted. -/
def Obligations.BursarMetering : Prop :=
  (∀ (s : State) (q x u : Nat) (v a b : BurWord) (rest : List BurWord), q < s.bur.points.length → q < s.bur.accs.length → x < (s.point q).phases.length → (s.phase q x).volts = v :: rest → bracket (s.phase q x).amps ((v.ts + ofSigned 32 (s.sfld .BUR_PH_PH (3 * q + x))) % 2 ^ 32) = (some a, some b) → (s.phase q x).prev = some u → 
    ∃ t, exec (.bursarPair q x) s = .next t ∧
      (t.phase q x).volts = rest ∧ (t.phase q x).prev = some v.ts ∧
      (if v.ok && a.ok && b.ok then ∀ st ∈ (s.point q).start, (t.phase q x).pairs =
          ((tsDiff v.ts st).toNat, v.value, (interpolate a b ((v.ts + ofSigned 32 (s.sfld .BUR_PH_PH (3 * q + x))) % 2 ^ 32)).bits64, (tsDiff v.ts u).toNat) :: (s.phase q x).pairs
       else (t.acc q).gap = (s.acc q).gap + (tsDiff v.ts u).toNat ∧ (t.phase q x).pairs = (s.phase q x).pairs)) ∧
  (∀ (s : State) (q x : Nat) (v : BurWord) (rest : List BurWord), q < s.bur.points.length → q < s.bur.accs.length → x < (s.point q).phases.length → (s.phase q x).volts = v :: rest → (bracket (s.phase q x).amps ((v.ts + ofSigned 32 (s.sfld .BUR_PH_PH (3 * q + x))) % 2 ^ 32)).1 = none ∨ (bracket (s.phase q x).amps ((v.ts + ofSigned 32 (s.sfld .BUR_PH_PH (3 * q + x))) % 2 ^ 32)).2 = none → 
    ∃ t, exec (.bursarPair q x) s = .next t ∧
      (t.phase q x).pairs = (s.phase q x).pairs ∧ (if (bracket (s.phase q x).amps ((v.ts + ofSigned 32 (s.sfld .BUR_PH_PH (3 * q + x))) % 2 ^ 32)).2 = none then t = s else (t.phase q x).volts = rest)) ∧
  (∀ (s : State) (q len : Nat) (crossing : Bool), s.metering q = true → q < s.bur.points.length → q < s.bur.accs.length → (crossing = (decide (q < 4) && s.crossingCounts q len)) → 
    ∃ t, exec (.meteringCycleEnd q len) s = .next t ∧
      ((s.point q).start = none → (t.point q).start = some s.tb) ∧
      (∀ st ∈ (s.point q).start, (t.point q).start = some (st + if crossing then len else s.nominalCycle q) ∧ (t.acc q).ended = some s.tb ∧ t.ct.changed = true)) ∧
  (∀ (s : State) (q len : Nat), s.metering q = true → 4 ≤ q → q < s.bur.accs.length → (s.point q).start.isSome = true → (s.acc q).now.length = 16 → (overPhases ((List.range 3).map (fun x => phaseSums (cyclePairs (s.phase q x).pairs 12800000).1 12800000)) PhaseSums.energy).finite = true → 
    ∃ t, exec (.meteringCycleEnd q len) s = .next t ∧
      (t.acc q).now.getD ((overPhases ((List.range 3).map (fun x => phaseSums (cyclePairs (s.phase q x).pairs 12800000).1 12800000)) PhaseSums.energy).lt Fp.zero).toNat 0 =
        ((s.acc q).now.getD ((overPhases ((List.range 3).map (fun x => phaseSums (cyclePairs (s.phase q x).pairs 12800000).1 12800000)) PhaseSums.energy).lt Fp.zero).toNat 0 + (s.increment (overPhases ((List.range 3).map (fun x => phaseSums (cyclePairs (s.phase q x).pairs 12800000).1 12800000)) PhaseSums.energy)).1) % 2 ^ 96) ∧
  (∀ (s : State) (q : Nat), s.metering q = true → q < 4 → q < s.bur.points.length → (s.point q).phases.length = 3 → 
    ∃ t, exec (.halfCycleBoundary q) s = .next t ∧
      (∀ x < 3, (t.phase q x).halfWas = some (s.phase q x).half ∧ (t.phase q x).half = (0, 0)) ∧
      ((s.point q).sag = none → (∃ x ∈ [0, 1, 2], s.vSource q x ≠ 0xFF ∧ (s.urms q x).any (fun u => u.lt (.ofInt (s.fld .BUR_EVT_SAG q))) = true) →
        (t.point q).sag.isSome = true ∧ s.reports t .bursar 0x70) ∧
      ((s.point q).sag.isSome = true → (∃ x ∈ [0, 1, 2], s.vSource q x ≠ 0xFF ∧ (s.urms q x).isSome = true) → (∀ x < 3, s.vSource q x ≠ 0xFF → ∀ u ∈ s.urms q x, (Fp.ofInt (s.fld .BUR_EVT_SAG q + s.fld .BUR_EVT2_HYS q)).le u = true) →
        (t.point q).sag = none ∧ s.reports t .bursar 0x70)) ∧
  (∀ (s : State) (core mask : Nat), s.reaches core .bursar (burAddr 4) → 
    ∃ t, exec (.burLatchWrite core mask) s = .next t ∧
      t.bell.latchQ = (match s.bell.latchQ with | [] => [mask % 256] | m :: r => (m ||| mask % 256) :: r) ∧
      t.fld .BUR_LSTAT_PEND = (s.fld .BUR_LSTAT_PEND ||| mask % 256) % 2 ^ 8) ∧
  (∀ (s : State) (core : Nat), s.reaches core .bursar (burAddr 0xC) → s.lib.queue.length + s.lib.refused.length < 64 → ∀ x ∈ s.lib.queue, x.area ≠ 7 ∨ x.type ≠ 0x30 → 
    ∃ t, exec (.burSaveNowWrite core) s = .next t ∧
      t.requested { client := 0, area := 7, type := 0x30, payload := s.savePayload } = true ∧ (s.ct.burst = true → t.lib.queue = s.lib.queue ++ [{ client := 0, area := 7, type := 0x30, payload := s.savePayload }])) ∧
  (∀ (s : State), s.bur.restoreDue = true → s.flag .LIB_STAT_READY = true → 
    ∃ t, exec .bursarRestore s = .next t ∧
      t.fld .BUR_STAT_RESTORED = 1 ∧ t.bur.restoreDue = false ∧ t.flag .BUR_STAT_SPANPEND = t.bur.span.isSome ∧
      ∀ r ∈ s.newestRecord 7 0x30, s.lib.finals = [] → ∀ q < 8, ∀ a < 4,
        (t.acc q).now.getD a 0 = ((s.acc q).now.getD a 0 + saveValue r.payload q a * 2 ^ 32) % 2 ^ 96) ∧
  (∀ (s : State), 
    ∃ t, exec .theftWindowClock s = .next t ∧
      if s.bur.window = true then t.bur.windowClock = true else t = s) ∧
  (∀ (s : State) (samples : List Nat), s.bur.window = true → s.bur.windowClock = true → s.bur.theft.length = 4 → 
    ∃ t, exec (.theftWindowEnd samples) s = .next t ∧
      t.bur.window = false ∧ t.bur.windowClock = false ∧ ∀ c < 4,
      if s.bit .MOD_THEFT_CHSEL 0 c = true ∧ s.hasMd (4 * s.fld .MOD_THEFT_GRP + c) = true then
        t.fld .BUR_TQ c = t.bur.theft.getD c 0 / 2 ^ 64 % 2 ^ 32 ∧
          (s.fld .BUR_THEFT ≤ t.bur.theft.getD c 0 / 2 ^ 64 → s.bur.tampered.testBit c = false → t.fld .BUR_STAT_TAMPER = 1)
      else t.bur.theft.getD c 0 = s.bur.theft.getD c 0) ∧
  (∀ (s : State) (core : Nat), s.reaches core .bursar (burAddr 0x20) → 
    ∃ t, exec (.theftClrWrite core) s = .next t ∧
      if s.flag .FUSE_RES_THEFT = true then t.bur.theft = [0, 0, 0, 0] ∧ t.bur.tampered = 0 ∧ ∀ c < 4, t.fld .BUR_TQ c = 0 else t = s)

/-- LIBRARY_INIT of a supported device by an enabled controller out of reset shows its geometry, and READY with a
directory; otherwise READY is clear. LIB_APPEND_RECORD to an area of a usable Library makes a request of its Wing;
else it completes with ERRCODE 0x07. LIB_READ_RECORD of SEQ and LIB_READ_NEWEST of a TYPE write a record read with at
most 16 errors in a codeword to the buffer, and mark its block for refresh above REF_BITS; one that is not found
completes with 0x07, as does an uncorrectable one, or one behind an absent VIO4. FLASH_OPERATION_COMPLETE, but for a
record's marker, goes on with the burst's next operation, an erase that ends counts, and a failed program or erase
ends the burst and finds a bad block. RECORD_COMMIT writes the four CRC copies of its record's marker and completes
its descriptor; a save shows in BUR_LASTSV. LIBRARY_REFRESH of a usable Library under a good main supply asks for the
copy of the first block due to a spare, or ends refreshing; WEAR_LEVEL_RELOCATE asks for that of a static block that
lags. -/
def Obligations.LibraryRecords : Prop :=
  (∀ (s : State) (sup nand : Bool) (p e b : Nat) (dir : List (Nat × Nat × Nat × Nat)) (recs : List (Nat × Nat × Nat × Nat × List Nat)) (finals : List (List Nat)), p < 16 → e < 32 → b < 2 ^ 16 → 
    ∃ t, exec (.libraryInit sup nand p e b dir recs finals) s = .next t ∧
      if sup = true ∧ supportedFlash nand p e b = true ∧ s.flag .LIB_CTRL_EN = true ∧ s.domainHeld 4 = false then
        t.fld .LIB_GEOM_BLOCKS = b ∧ t.fld .LIB_GEOM_ERASE_L2 = e ∧ t.fld .LIB_GEOM_PAGE_L2 = p ∧ t.flag .LIB_STAT_NAND = nand ∧
          (dir ≠ [] ∨ s.lib.dirBlock.isSome = true → t.fld .LIB_STAT_READY = 1)
      else t.fld .LIB_STAT_READY = 0) ∧
  (∀ (s : State) (idx arg sq : Nat) (d : Desc) (data : List Nat), s.takenDesc 13 idx = some d → s.command d = some (1, arg, sq, data) → s.lib.queue.length + s.lib.refused.length < 64 → 
    ∃ t, exec (.libAppendRecord idx) s = .next t ∧
      if s.flag .LIB_STAT_READY = true ∧ s.area (arg % 256) ≠ [] then
        (s.ct.burst = true → t.lib.queue = s.lib.queue ++ [{ client := s.wingClient, area := arg % 256, type := arg / 256 % 256, payload := data, ring := some idx }]) ∧
        (t.requested { client := s.wingClient, area := arg % 256, type := arg / 256 % 256, payload := data, ring := some idx } = true ∨
          (arg % 256 = 7 ∧ arg / 256 % 256 = 0x30))
      else s.answered t 13 idx 0x07 0) ∧
  (∀ (s : State) (idx arg sq : Nat) (d : Desc) (data errs : List Nat) (r : LibRecord), s.takenDesc 13 idx = some d → s.command d = some (2, arg, sq, data) → s.flag .LIB_STAT_READY = true → s.lib.records.reverse.find? (fun r => r.area == arg % 256 && r.seq == sq && r.valid) = some r → 16 + r.payload.length ≤ d.len → s.bankOn 4 = true → ∀ e ∈ errs, e ≤ 16 → s.lib.fresh.contains r.block = false ∨ ∀ e ∈ errs, e ≤ s.fld .LIB_RET_REF_BITS → (s.satWrite (d.addr + 16) r.payload).1 = true → 
    ∃ t, exec (.libReadRecord idx errs) s = .next t ∧
      s.answered t 13 idx 0 (16 + r.payload.length) ∧
      (s.descAddr 13 idx + 32 ≤ d.addr ∨ d.addr + 16 + r.payload.length ≤ s.descAddr 13 idx →
        t.satRead (d.addr + 16) r.payload.length = some (r.payload.map (· % 256))) ∧
      ((∃ e ∈ errs, s.fld .LIB_RET_REF_BITS < e) → r.block ∈ t.lib.worn)) ∧
  (∀ (s : State) (idx arg sq : Nat) (d : Desc) (data errs : List Nat), s.takenDesc 13 idx = some d → s.command d = some (2, arg, sq, data) → s.flag .LIB_STAT_READY = false ∨ s.lib.records.reverse.find? (fun r => r.area == arg % 256 && r.seq == sq && r.valid) = none → 
    ∃ t, exec (.libReadRecord idx errs) s = .next t ∧
      s.answered t 13 idx 0x07 0) ∧
  (∀ (s : State) (idx arg sq : Nat) (d : Desc) (data errs : List Nat) (r : LibRecord), s.takenDesc 13 idx = some d → s.command d = some (3, arg, sq, data) → s.flag .LIB_STAT_READY = true → s.newestRecord (arg % 256) (arg / 256 % 256) = some r → 16 + r.payload.length ≤ d.len → s.bankOn 4 = true → ∀ e ∈ errs, e ≤ 16 → s.lib.fresh.contains r.block = false ∨ ∀ e ∈ errs, e ≤ s.fld .LIB_RET_REF_BITS → (s.satWrite (d.addr + 16) r.payload).1 = true → 
    ∃ t, exec (.libReadNewest idx errs) s = .next t ∧
      s.answered t 13 idx 0 (16 + r.payload.length) ∧
      (s.descAddr 13 idx + 32 ≤ d.addr ∨ d.addr + 16 + r.payload.length ≤ s.descAddr 13 idx →
        t.satRead (d.addr + 16) r.payload.length = some (r.payload.map (· % 256))) ∧
      ((∃ e ∈ errs, s.fld .LIB_RET_REF_BITS < e) → r.block ∈ t.lib.worn)) ∧
  (∀ (s : State) (idx arg sq : Nat) (d : Desc) (data errs : List Nat), s.takenDesc 13 idx = some d → s.command d = some (3, arg, sq, data) → s.flag .LIB_STAT_READY = false ∨ s.newestRecord (arg % 256) (arg / 256 % 256) = none → 
    ∃ t, exec (.libReadNewest idx errs) s = .next t ∧
      s.answered t 13 idx 0x07 0) ∧
  (∀ (s : State) (idx arg sq : Nat) (d : Desc) (data errs : List Nat) (r : LibRecord), s.takenDesc 13 idx = some d → s.command d = some (2, arg, sq, data) → s.flag .LIB_STAT_READY = true → s.lib.records.reverse.find? (fun r => r.area == arg % 256 && r.seq == sq && r.valid) = some r → 16 + r.payload.length ≤ d.len → s.lib.fresh.contains r.block = false → s.bankOn 4 = false ∨ ∃ e ∈ errs, 16 < e → 
    ∃ t, exec (.libReadRecord idx errs) s = .next t ∧
      s.answered t 13 idx 0x07 0 ∧ t.fld .LIB_STAT_UNCORR = 1 ∧ s.reports t .library 0xA0) ∧
  (∀ (s : State) (b : LibBurst) (op : Nat) (rest : List Nat), s.bankOn 4 = true → s.lib.burst = some b → b.ops = op :: rest → op ≠ 3 ∨ b.req.work ≠ .record → 
    ∃ t, exec (.flashOperationComplete true) s = .next t ∧
      (rest ≠ [] → t.lib.burst = some { b with ops := rest }) ∧
      (rest = [] → ∀ x < 16384, b.req.work = .erase x → t.erases x = s.erases x + 1 ∧ t.lib.records.any (fun r => r.block == x) = false)) ∧
  (∀ (s : State) (ok : Bool) (b : LibBurst) (op : Nat) (rest : List Nat), ok = false ∨ s.bankOn 4 = false → s.lib.burst = some b → b.ops = op :: rest → op ≠ 0 → op ≠ 3 ∨ b.req.work ≠ .record → 
    ∃ t, exec (.flashOperationComplete ok) s = .next t ∧
      t.lib.burst = some { b with ops := [] } ∧ t.fld .LIB_CNT0_BADNEW = satInc (Fld.width .LIB_CNT0_BADNEW) (s.fld .LIB_CNT0_BADNEW)) ∧
  (∀ (s : State) (b : LibBurst), s.lib.burst = some b → b.ops = [3] → b.req.work = .record → b.req.area ≠ 0 → 
    ∃ t, exec .recordCommit s = .next t ∧
      t.lib.burst = some { b with ops := [] } ∧
      (∀ r ∈ s.lib.records, r.area = b.req.area → r.seq = b.seq → r.marker = none →
        { r with marker := some (List.replicate 4 (crc32 r.bytes)) } ∈ t.lib.records) ∧
      (∀ i ∈ b.req.ring, (s.takenDesc 13 i).isSome = true → s.answered t 13 i 0 (16 + b.req.payload.length)) ∧
      (b.req.area = 7 → b.req.type = 0x30 → t.fld .BUR_LASTSV = ofLe (b.req.payload.take 4) % 2 ^ 32)) ∧
  (∀ (s u : State) (b n : Nat), s.flag .LIB_STAT_READY = true → s.flag .LIB_CTRL_EN = true → s.flag .CT_STAT_MAIN = true → s.flag .LIB_STAT_REFRESHING = false → u = s.libPrepare → u.lib.queue.length + u.lib.refused.length < 64 → 
    ∃ t, exec .libraryRefresh s = .next t ∧
      if u.refreshDue.head? = some b ∧ u.leastWorn u.ready = some n then
        t.fld .LIB_STAT_REFRESHING = 1 ∧ t.requested { client := 1, area := 0, type := 0, payload := [], work := .copy b n true false } = true
      else u.refreshDue = [] ∨ u.ready = [] → t.fld .LIB_STAT_REFRESHING = 0) ∧
  (∀ (s : State) (b n : Nat), s.flag .LIB_STAT_READY = true → s.flag .LIB_CTRL_EN = true → s.flag .CT_STAT_MAIN = true → s.lib.queue.length + s.lib.refused.length < 64 → ([0, 1, 2, 3].flatMap (fun a => (s.area a).filter (fun b => s.erases b + s.fld .LIB_WL_WL_DIFF < s.fld .LIB_EMAX))).head? = some b → s.mostWorn s.ready = some n → 
    ∃ t, exec .wearLevelRelocate s = .next t ∧
      t.requested { client := 1, area := 0, type := 0, payload := [], work := .copy b n false false } = true)

/-- A LEASE_RENEW that a core may store, by a holder with a lease left, loads every voter with the full lease; any
other is counted as discarded. LEASE_EXPIRY of a holder revokes its pass, clears OUTEN of the modules it covers and
its HP_REARM bits and takes it from ACTIVE or TAKING to BOOT. In Split the other pass and the epoch stand; in Duplex
the epoch increments with reason 1, and an eligible other Wing, or the new Wing after Bell H, is granted the pass in
TAKING; with none the pass stays unheld, with event 0x80. An expiry without a pass, or for a retired voter a
disagreement, does nothing. The third VOTER_DISAGREEMENT within a second retires the voter, records it and sets
ARBDEG; between the two left one counts as an expiry. -/
def Obligations.LeasesAndVoters : Prop :=
  (∀ (s : State) (core : Nat), s.reaches core .duplex (hpAddr 8) → 
    ∃ t, exec (.leaseRenew core) s = .next t ∧
      if s.pass (coreWing core) = true ∧ 0 < s.votedLease (coreWing core) then ∀ v ∈ t.dup.voters, v.lease (coreWing core) = s.leaseCycles
      else t.fld .HP_CNT_RENDISC = satInc (Fld.width .HP_CNT_RENDISC) (s.fld .HP_CNT_RENDISC) ∧ t.dup.voters = s.dup.voters) ∧
  (∀ (s : State) (w : Wing), s.pass w = true → 
    ∃ t, exec (.leaseExpiry w) s = .next t ∧
      t.pass w = false ∧ (∀ m ∈ s.covered w, t.fld .PWM_RUN_OUTEN m = 0 ∧ t.dup.rearm.testBit m = false) ∧ t.fld .HP_STAT_TRANSFER = 0 ∧
      (s.wing w = .active ∨ s.wing w = .taking → t.wing w = .boot)) ∧
  (∀ (s : State) (w : Wing), s.pass w = true → 
    ∃ t, exec (.leaseExpiry w) s = .next t ∧
      if s.split = true then t.pass w.other = s.pass w.other ∧ t.fld .RING_EPOCH = s.fld .RING_EPOCH ∧ s.reports t .duplex 0x83
      else t.fld .RING_EPOCH = (s.fld .RING_EPOCH + 1) % 2 ^ 32 ∧ t.dict.discard.reason = 1 ∧
        (if s.ct.running = true ∧ (s.eligible w.other = true ∨ (s.dup.handover = .copying ∧ s.wing w.other = .active)) then
          t.pass w.other = true ∧ t.wing w.other = .taking ∧ t.dict.discard.detail = w.other.num ∧ t.fld .HP_CNT_TKO = satInc (Fld.width .HP_CNT_TKO) (s.fld .HP_CNT_TKO)
        else t.pass w.other = s.pass w.other ∧ t.dict.discard.detail = 0xFFFFFFFF ∧ s.reports t .duplex 0x80)) ∧
  (∀ (s : State) (w : Wing), s.pass w = false → 
    ∃ t, exec (.leaseExpiry w) s = .next t ∧
      t = s) ∧
  (∀ (s : State) (voter : Nat) (w : Wing), voter < 3 → s.dup.voters.length = 3 → 
    ∃ t, exec (.voterDisagreement voter w) s = .next t ∧
      if (s.dup.voters.getD voter {}).retired = true then t = s
      else if (∃ v ∈ s.dup.voters, v.retired = true) then t.pass w = false
      else if 2 ≤ ((s.dup.voters.getD voter {}).times.filter (fun x => s.tb < x + tickSecond)).length then
        (t.dup.voters.getD voter {}).retired = true ∧ t.fld .HP_STAT_ARBDEG = 1 ∧ s.reports t .duplex 0x8A
      else (t.dup.voters.getD voter {}).retired = false ∧ s.tb ∈ (t.dup.voters.getD voter {}).times)

/-- Of the commands that a core may store to HP_CMD: STANDBY of a BOOT Wing in Duplex runs its self-test and on a pass
makes it COLD with its PLL stopped; a failure counts, and the second in a row makes it FAILED. A command with no
effect in the Wing's state queues event 0x8B. WAKE of a COLD Wing in its window, or by the holder for the other COLD
one, makes it WARM, once it is clocked. COLD makes a WARM or READY Wing COLD and stops its PLL. READY makes a WARM
Wing READY where every check holds, and otherwise shows the reason with event 0x82. HANDOVER of a holder renews its
lease and waits for the second PERIOD Bell, or is refused likewise. CANCEL, by a READY Wing or a Duplex holder, before
Bell H gives up a waiting handover and returns the READY Wing to WARM. RELEASE gives the pass up as an expiry does,
and ACQUIRE from BOOT takes a pass that is free for its modules. Wing A's in the RC cycle of Wing B's grant wins; with
the Caretaker stopped none is granted. -/
def Obligations.WingCommands : Prop :=
  (∀ (s : State) (core : Nat) (pass : Bool), s.reaches core .duplex (hpAddr 0xC) → 
    ∃ t, exec (.standby core pass) s = .next t ∧
      if s.wing (coreWing core) = .boot ∧ s.split = false then
        (if pass = true ∧ s.deadWing (coreWing core) = false then
          t.wing (coreWing core) = .cold ∧ t.fld (match coreWing core with | .a => Fld.CLK_STAT_A_LK | .b => .CLK_STAT_B_LK) = 0 ∧ t.fld (match coreWing core with | .a => Fld.HP_BIST_A_OK | .b => .HP_BIST_B_OK) = 1 ∧ t.bistFails (coreWing core) = 0
        else t.fld (match coreWing core with | .a => Fld.HP_BIST_A_OK | .b => .HP_BIST_B_OK) = 0 ∧ t.fld (match coreWing core with | .a => Fld.HP_BIST_A_FAILS | .b => .HP_BIST_B_FAILS) = satInc (Fld.width .HP_BIST_A_FAILS) (s.fld (match coreWing core with | .a => Fld.HP_BIST_A_FAILS | .b => .HP_BIST_B_FAILS)) ∧ s.reports t .duplex 0x86 ∧
          t.wing (coreWing core) = if 1 ≤ s.bistFails (coreWing core) then .failed else .boot)
      else t.wing (coreWing core) = s.wing (coreWing core) ∧ s.tells t .duplex 0x8B) ∧
  (∀ (s : State) (core : Nat) (w : Wing), s.reaches core .duplex (hpAddr 0xC) → w = (if s.wing (coreWing core) = .cold ∧ s.inWindow (coreWing core) = true then coreWing core else (coreWing core).other) → 
    ∃ t, exec (.wake core) s = .next t ∧
      if s.wing w = .cold ∧ (w = coreWing core ∨ s.pass (coreWing core) = true) then
        t.wing w = (if s.wingClock w = true then .warm else .cold) ∧ (s.wingClock w = false → t.dup.waking.testBit w.num = true)
      else s.tells t .duplex 0x8B) ∧
  (∀ (s : State) (core : Nat), s.reaches core .duplex (hpAddr 0xC) → 
    ∃ t, exec (.cold core) s = .next t ∧
      if s.wing (coreWing core) = .warm ∨ s.wing (coreWing core) = .ready then t.wing (coreWing core) = .cold ∧ t.fld (match coreWing core with | .a => Fld.CLK_STAT_A_LK | .b => .CLK_STAT_B_LK) = 0
      else s.tells t .duplex 0x8B) ∧
  (∀ (s : State) (core r : Nat), s.reaches core .duplex (hpAddr 0xC) → r = s.handoverCheck (coreWing core) false false → 
    ∃ t, exec (.ready core) s = .next t ∧
      if s.wing (coreWing core) = .warm then
        (if r = 0 then t.wing (coreWing core) = .ready
        else t.wing (coreWing core) = .warm ∧ t.fld .HP_STAT_REFUSE = r ∧ s.tells t .duplex 0x82)
      else s.tells t .duplex 0x8B) ∧
  (∀ (s : State) (core r : Nat), s.reaches core .duplex (hpAddr 0xC) → r = s.handoverCheck (coreWing core).other true false → 
    ∃ t, exec (.handover core) s = .next t ∧
      if s.pass (coreWing core) = true then
        (if r = 0 then t.dup.handover = .pending 2 ∧ t.fld .HP_STAT_TRANSFER = 1 ∧ (∀ v ∈ t.dup.voters, v.lease (coreWing core) = s.leaseCycles)
        else t.fld .HP_STAT_REFUSE = r ∧ t.dup.handover = s.dup.handover ∧ s.tells t .duplex 0x82)
      else s.tells t .duplex 0x8B) ∧
  (∀ (s : State) (core : Nat) (w : Wing), s.reaches core .duplex (hpAddr 0xC) → w = (if s.wing (coreWing core) = .ready then coreWing core else (coreWing core).other) → 
    ∃ t, exec (.cancel core) s = .next t ∧
      if (w = coreWing core ∨ (s.pass (coreWing core) = true ∧ s.split = false)) ∧ s.dup.handover ≠ .copying ∧ (s.handoverWaits = true ∨ s.wing w = .ready) then
        t.dup.handover = .none ∧ (s.handoverWaits = true → t.fld .HP_STAT_TRANSFER = 0) ∧ (s.wing w = .ready → t.wing w = .warm)
      else s.tells t .duplex 0x8B) ∧
  (∀ (s : State) (core : Nat), s.reaches core .duplex (hpAddr 0xC) → 
    ∃ t, exec (.release core) s = .next t ∧
      if s.pass (coreWing core) = true then t.pass (coreWing core) = false ∧ (∀ m ∈ s.covered (coreWing core), t.fld .PWM_RUN_OUTEN m = 0) ∧
        (s.wing (coreWing core) = .active → t.wing (coreWing core) = .boot) ∧
        (s.split = false → t.fld .RING_EPOCH = (s.fld .RING_EPOCH + 1) % 2 ^ 32)
      else s.tells t .duplex 0x8B) ∧
  (∀ (s : State) (core : Nat), s.reaches core .duplex (hpAddr 0xC) → s.ct.running = true → coreWing core = .b ∨ s.split = true ∨ s.dup.acquired = false → 
    ∃ t, exec (.acquire core) s = .next t ∧
      if s.wing (coreWing core) = .boot ∧ (if s.split = true then s.pass (coreWing core) else s.anyPass) = false then
        t.pass (coreWing core) = true ∧ t.wing (coreWing core) = .active ∧ (∀ v ∈ t.dup.voters, v.lease (coreWing core) = s.leaseCycles)
      else s.tells t .duplex 0x8B) ∧
  (∀ (s : State) (core : Nat), s.reaches core .duplex (hpAddr 0xC) → coreWing core = .a ∨ s.ct.running = false → s.dup.acquired = true → s.split = false → s.wing .a = .boot → s.wing .b = .active → s.pass .a = false → s.pass .b = true → 
    ∃ t, exec (.acquire core) s = .next t ∧
      if s.ct.running = true then t.pass .a = true ∧ t.wing .a = .active ∧ t.pass .b = false ∧ t.wing .b = .boot else t = s)

/-- A COLD Wing's self-test window opens with BISTEN and shows its outcome. SNAPSHOT_WRITE_COMPLETE fills slot SEQ mod
4, usable unless its bank is retired, and shows SEQ. LINK_STALE of a Duplex standby that is WARM, READY or in its
window sets LINKFLT and STALE with event 0x84, once. A Wing in TAKING chooses the newest usable slot, or none, with
event 0x80, then restores its sections into the engines' memories and DTCM, and engines start with FIRST where there
is none. HP_REARM of a Wing in TAKING or ACTIVE names modules its pass covers, and from another is discarded.
HANDOVER_COPY_COMPLETE passes the pass to the other Wing with a full lease and leaves the old holder WARM. -/
def Obligations.SnapshotsAndTakeovers : Prop :=
  (∀ (s : State) (w : Wing) (pass : Bool), 
    ∃ t, exec (.coldSelfTestWindow w pass) s = .next t ∧
      if s.wing w = .cold ∧ s.flag .HP_CTRL_BISTEN = true then
        t.windowAt w = some s.tb ∧ t.fld (match w with | .a => Fld.HP_BIST_A_OK | .b => .HP_BIST_B_OK) = (pass && !s.deadWing w).toNat ∧
          (pass = false ∨ s.deadWing w = true → t.fld (match w with | .a => Fld.HP_BIST_A_FAILS | .b => .HP_BIST_B_FAILS) = satInc (Fld.width .HP_BIST_A_FAILS) (s.fld (match w with | .a => Fld.HP_BIST_A_FAILS | .b => .HP_BIST_B_FAILS)) ∧
            t.wing w = if 1 ≤ s.bistFails w then .failed else .cold)
      else t = s) ∧
  (∀ (s : State) (p : Snapshot), s.dup.writing = some p → s.dup.slots.length = 4 → 
    ∃ t, exec .snapshotWriteComplete s = .next t ∧
      t.dup.writing = none ∧ t.fld .HP_SEQL = p.seq % 2 ^ 32 ∧ (t.dup.slots.getD (p.seq % 4) {}).seq = p.seq ∧ (t.dup.slots.getD (p.seq % 4) {}).seqEnd = p.seq ∧
      (t.dup.slots.getD (p.seq % 4) {}).crcOk = true ∧ (t.dup.slots.getD (p.seq % 4) {}).poisoned = !s.slotInService (p.seq % 4) ∧
      (t.dup.slots.getD (p.seq % 4) {}).engines = p.engines ∧ (t.dup.slots.getD (p.seq % 4) {}).tutor = p.tutor) ∧
  (∀ (s : State) (w : Wing), 
    ∃ t, exec (.linkStale w) s = .next t ∧
      if s.split = false ∧ (s.wing w = .warm ∨ s.wing w = .ready ∨ (s.wing w = .cold ∧ s.inWindow w = true)) ∧ s.flag .HP_STAT_STALE = false then
        t.fld .HP_STAT_LINKFLT = 1 ∧ t.fld .HP_STAT_STALE = 1 ∧ s.reports t .duplex 0x84
      else t = s) ∧
  (∀ (s : State) (w : Wing), s.taking = some w → s.dup.chosen = none → 
    ∃ t, exec .takeoverSlotChosen s = .next t ∧
      t.dup.chosen = some s.newestSlot ∧ s.tells t .duplex 0x80 ∧ (s.newestSlot = none → t.fld .HP_TKO_AGE = 0xFFFF) ∧
      (∀ p ∈ s.newestSlot, t.fld .HP_TKO_AGE = min ((s.tb - p.time) / 640000) 0xFFFF)) ∧
  (∀ (s : State) (w : Wing) (slot : Option Snapshot), s.taking = some w → s.dup.chosen = some slot → s.dup.restored = false → s.eng.engines.length = 12 → 
    ∃ t, exec .takeoverRestoreComplete s = .next t ∧
      t.dup.restored = true ∧ t.dup.noSnap = slot.isNone ∧ (∀ n < 12, engineWing n = w → (t.engine n).first = slot.isNone) ∧
      (∀ p ∈ slot, ∀ l ∈ p.tutor, (∀ i < l.2.length, t.dtcmWord w (8 * (l.1 + i)) = l.2.getD i 0 % 2 ^ 64)) ∧
      (∀ p ∈ slot, (p.engines.map (·.pair)).Nodup → ∀ g ∈ p.engines, g.pair < 6 → ∀ i < g.words.length,
        t.engWord (g.pair + 6 * w.num) (0x2000 + 2 * (g.base + i)) = g.words.getD i 0 % 2 ^ 32)) ∧
  (∀ (s : State) (core mask : Nat) (w : Wing), s.reaches core .duplex (hpAddr 0x2C) → w = coreWing core → 
    ∃ t, exec (.hpRearmWrite core mask) s = .next t ∧
      if s.wing w = .taking ∨ s.wing w = .active then t.dup.tkoOpen = false ∧
        (∀ m < 24, t.dup.rearm.testBit m = if m ∈ s.covered w then mask.testBit m else s.dup.rearm.testBit m) ∧
        (s.dup.tkoOpen = true → t.fld .HP_TKO_DUR = min ((s.tb - s.dup.expiryTs) / 640) 4095)
      else t.dup.rearm = s.dup.rearm ∧ s.tells t .duplex 0x01) ∧
  (∀ (s : State) (w : Wing), s.dup.handover = .copying → s.holder = some w → 
    ∃ t, exec .handoverCopyComplete s = .next t ∧
      t.dup.handover = .none ∧ t.fld .HP_STAT_TRANSFER = 0 ∧ t.pass w = false ∧ t.pass w.other = true ∧ t.wing w = .warm ∧
      (∀ v ∈ t.dup.voters, v.lease w.other = s.leaseCycles) ∧ t.fld .HP_CNT_HANDO = satInc (Fld.width .HP_CNT_HANDO) (s.fld .HP_CNT_HANDO) ∧ s.reports t .duplex 0x81)

/-- SCRUB_READ of a class that may scrub steps to its next word, over retired banks, and at the end of a pass counts
it and turns the suspect table. A clean word counts nothing; a corrected one counts, is written back unless written
since, shows its address and is suspect; one suspect in the previous pass is a hard fault with event 0x94, and with
AUTOREP takes the spare column if its column failed in another row, else a spare row, else the column, with 0x96 or
0x95. An uncorrectable word is counted and poisoned. SCRUB_PASS_OVERDUE sets its bit with event 0x99.
UNCORRECTABLE_READ poisons the word and shows its address; its consumer faults as Table 15-3 gives. A SAT_RET_WRITE
retires a bank; REP_LOAD_WRITE while REP_CNT is 0 takes the Library's entries into the record; AGEING_MEASURE shows
each monitor's SLOW and WARN. -/
def Obligations.ScrubbingAndMemoryFaults : Prop :=
  (∀ (s : State) (m stored mem w : Nat) (written : Bool), m < 8 → classWord m (s.fld .SCR_POS_WORD m) = (mem, w) → 
    ∃ t, exec (.scrubRead m stored written) s = .next t ∧
      if s.mayScrub m mem = false then t = s
      else if (decide (mem < 0x10) && s.bankRetired mem) = true then t.fld .SCR_POS_WORD m = if mem < 15 then (mem + 1) * 16384 else 0
      else if s.fld .SCR_POS_WORD m + 1 < classWords m then t.fld .SCR_POS_WORD m = s.fld .SCR_POS_WORD m + 1
      else t.fld .SCR_POS_WORD m = 0 ∧ t.fld .SCR_DONE m = satInc (Fld.width .SCR_DONE) (s.fld .SCR_DONE m) ∧ t.integ.suspectCur.getD m [] = []) ∧
  (∀ (s : State) (m stored mem w d k : Nat) (written : Bool) (c : Option Nat), m < 8 → classWord m (s.fld .SCR_POS_WORD m) = (mem, w) → s.mayScrub m mem = true → (decide (mem < 0x10) && s.bankRetired mem) = false → s.poisoned mem w = false → decodeWord mem stored = .data d k c → 
    ∃ t, exec (.scrubRead m stored written) s = .next t ∧
      if k = 0 then t.fld .SCR_CNT_CORR m = s.fld .SCR_CNT_CORR m ∧ t.fld .SCR_CNT_UNCORR m = s.fld .SCR_CNT_UNCORR m
      else t.fld .SCR_CNT_CORR m = satInc (Fld.width .SCR_CNT_CORR) (s.fld .SCR_CNT_CORR m) ∧ t.fld .INT_LASTC = s.memAddr mem w % 2 ^ 32 ∧
        (written = false → t.satchel = (s.writeBack mem w d).satchel ∧ t.tut.dtcm = (s.writeBack mem w d).tut.dtcm ∧ t.ct.sram = (s.writeBack mem w d).ct.sram) ∧
        (s.integ.suspectCur.length = 8 → s.fld .SCR_POS_WORD m + 1 < classWords m → s.fld .SCR_POS_WORD m ∈ t.integ.suspectCur.getD m [])) ∧
  (∀ (s : State) (m stored mem w d k n : Nat) (written : Bool) (b : Option Nat), m < 8 → classWord m (s.fld .SCR_POS_WORD m) = (mem, w) → s.mayScrub m mem = true → (decide (mem < 0x10) && s.bankRetired mem) = false → s.poisoned mem w = false → decodeWord mem stored = .data d (n + 1) b → k = b.getD 0 → s.integ.suspectPrev.length = 8 → (s.integ.suspectPrev.getD m []).contains (s.fld .SCR_POS_WORD m) = true → 
    ∃ t, exec (.scrubRead m stored written) s = .next t ∧
      t.fld .SCR_CNT_HARD m = satInc (Fld.width .SCR_CNT_HARD) (s.fld .SCR_CNT_HARD m) ∧ s.reports t .integrity 0x94 ∧
      (if s.flag .INT_CTRL_AUTOREP = false then t.integ.colsUsed = s.integ.colsUsed ∧ t.integ.rowsUsed = s.integ.rowsUsed
       else (∀ x ∈ s.freeColumn mem (rowOf mem w / 64), (s.integ.hard.any (fun h => h.1 == mem && h.2.2 == columnOf mem w k && h.2.1 != rowOf mem w) = true ∨ s.freeRow mem = none) →
            t.integ.colsUsed = s.integ.colsUsed ++ [(mem, rowOf mem w / 64, x)] ∧ s.reports t .integrity 0x96) ∧
          (∀ x ∈ s.freeRow mem, (s.integ.hard.any (fun h => h.1 == mem && h.2.2 == columnOf mem w k && h.2.1 != rowOf mem w) = false ∨
              s.freeColumn mem (rowOf mem w / 64) = none) → t.integ.rowsUsed = s.integ.rowsUsed ++ [(mem, x)] ∧ s.reports t .integrity 0x95))) ∧
  (∀ (s : State) (m stored mem w : Nat) (written : Bool), m < 8 → classWord m (s.fld .SCR_POS_WORD m) = (mem, w) → s.mayScrub m mem = true → (decide (mem < 0x10) && s.bankRetired mem) = false → s.poisoned mem w = false → decodeWord mem stored = .uncorrectable → 
    ∃ t, exec (.scrubRead m stored written) s = .next t ∧
      t.fld .SCR_CNT_UNCORR m = satInc (Fld.width .SCR_CNT_UNCORR) (s.fld .SCR_CNT_UNCORR m) ∧ t.poisoned mem w = true ∧ s.reports t .integrity 0x93) ∧
  (∀ (s : State) (m : Nat), m < 8 → 
    ∃ t, exec (.scrubPassOverdue m) s = .next t ∧
      t.bit .INT_STAT_OVERDUE 0 m = true ∧ s.tells t .integrity 0x99) ∧
  (∀ (s : State) (x : Consumer) (mem w stored : Nat), s.tut.mcause.length = 4 → s.eng.engines.length = 12 → 
    ∃ t, exec (.uncorrectableRead x mem w stored) s = .next t ∧
      if s.poisoned mem w = true ∨ (decide (mem < 0x10) && s.bankRetired mem) = true ∨ decodeWord mem stored = .poison ∨ decodeWord mem stored = .uncorrectable then
        t.poisoned mem w = true ∧ t.fld .INT_LASTA = s.memAddr mem w % 2 ^ 32 ∧ s.reports t .integrity (if s.poisoned mem w = false ∧ (decide (mem < 0x10) && s.bankRetired mem) = false ∧ decodeWord mem stored = .uncorrectable then 0x91 else 0x92) ∧
          (∀ core < 4, (x = .fetch core → t.tut.mcause.getD core 0 = 1) ∧ (x = .load core → t.tut.mcause.getD core 0 = 5) ∧ (x = .store core → t.tut.mcause.getD core 0 = 7)) ∧
          (∀ n < 12, ∀ f ∈ [true, false], x = .engine n f → s.running n = true → t.running n = false ∧ t.flag .LE_STAT_FAULT n = true ∧ t.fld .LE_STAT_FCAUSE n = if f = true then 1 else 2)
      else t = s) ∧
  (∀ (s : State) (core bank : Nat) (go : Bool), s.reaches core .integrity 0x4800000C → 
    ∃ t, exec (.satRetWrite core bank go) s = .next t ∧
      if go = true then t.bankRetired (bank % 16) = true ∧ (s.bankRetired (bank % 16) = false → t.bit .SAT_BANK_INSERV 0 (bank % 16) = false ∧ s.reports t .integrity 0x98) else t = s) ∧
  (∀ (s : State) (core count : Nat), s.reaches core .integrity 0x48000014 → 
    ∃ t, exec (.repLoadWrite core count) s = .next t ∧
      if s.fld .REP_CNT_USED = 0 then t.integ.repairs = s.integ.repairs ++ s.repairCopy.take (min count 512) else t = s) ∧
  (∀ (s : State) (slow : List Nat), slow.length ≤ 86 → 
    ∃ t, exec (.ageingMeasure slow) s = .next t ∧
      ∀ i < slow.length, t.fld .AGE_SLOW i = min (slow.getD i 0) 65535 ∧ t.flag .AGE_WARN i = decide (s.fld .AGE_CFG_WARN ≤ slow.getD i 0))

/-- A fuse command that a core may store to SEC_CMD is discarded with RESULT 7 while one runs, refused with 5 under a
bad main supply and with 6 or 2 where its certificate is in no Secure region or unreadable. ENROL of a well-formed
certificate into a device without an owner starts running; TRANSFER and VENDOR_OFF where the certificate is
owner-signed, else with RESULT 2; ADVANCE where no serving image has a lower count, else with RESULT 4.
SEC_COMMAND_COMPLETE programs the owner key, the vendor bit or the count, which never falls, with RESULT 0 and event
0xB4 or 0xB5. WORLD_VIOLATION of a Non-secure initiator at a Secure target shows both and ends in a core's access
fault, a ring's halt or abort 0x0601_0000. BOOT_IMAGE_VERIFY of a BOOT Wing tries its next slot: an accepted image
starts with the map locked, unless its map differs from a locked one: MAPDIFF; a rejected one queues 0xB0, the last
sets NOIMG. IDENTITY_KEY_DERIVE outside a reset shows PUF_OK, or event 0xB6. ATTESTATION_REQUEST with an identity and
16 to 64 bytes captures the report, and is refused while one runs; ATTESTATION_COMPLETE makes it readable. -/
def Obligations.SecurityAndIdentity : Prop :=
  (∀ (s : State) (core : Nat), s.reaches core .security 0x4A00001C → 
    ∃ t, exec (.enrol core) s = .next t ∧
      if s.flag .SEC_CMDST_BUSY = true then t.fld .SEC_CMDST_RESULT = 7 ∧ t.sec.running = s.sec.running
      else if s.flag .CT_STAT_MAIN = false then t.fld .SEC_CMDST_RESULT = 5 ∧ t.sec.running = s.sec.running
      else if s.satRangeSecure (s.fld .SEC_CMDA) 7936 = false then t.fld .SEC_CMDST_RESULT = 6 ∧ t.sec.running = s.sec.running
      else if s.satRead (s.fld .SEC_CMDA) 7936 = none then t.fld .SEC_CMDST_RESULT = 2 ∧ t.sec.running = s.sec.running
      else if s.sec.ownerKeys ≠ [] then t.fld .SEC_CMDST_RESULT = 4 ∧ t.sec.running = s.sec.running
      else if certField s.certificate 0 2 = 1 ∧ certField s.certificate 2 1 = 1 then t.fld .SEC_CMDST_BUSY = 1 ∧ t.sec.running = some (core, 1, certField s.certificate 8 32)
      else t.fld .SEC_CMDST_RESULT = 2 ∧ t.sec.running = s.sec.running) ∧
  (∀ (s : State) (core : Nat), s.reaches core .security 0x4A00001C → 
    ∃ t, exec (.transfer core) s = .next t ∧
      if s.flag .SEC_CMDST_BUSY = true then t.fld .SEC_CMDST_RESULT = 7 ∧ t.sec.running = s.sec.running
      else if s.flag .CT_STAT_MAIN = false then t.fld .SEC_CMDST_RESULT = 5 ∧ t.sec.running = s.sec.running
      else if s.satRangeSecure (s.fld .SEC_CMDA) 7936 = false then t.fld .SEC_CMDST_RESULT = 6 ∧ t.sec.running = s.sec.running
      else if s.satRead (s.fld .SEC_CMDA) 7936 = none then t.fld .SEC_CMDST_RESULT = 2 ∧ t.sec.running = s.sec.running
      else if s.ownerSigned s.certificate 2 true = false then t.fld .SEC_CMDST_RESULT = 2 ∧ t.sec.running = s.sec.running
      else if 8 ≤ s.sec.ownerKeys.length then t.fld .SEC_CMDST_RESULT = 3 ∧ t.sec.running = s.sec.running
      else t.fld .SEC_CMDST_BUSY = 1 ∧ t.sec.running = some (core, 2, certField s.certificate 8 32)) ∧
  (∀ (s : State) (core : Nat), s.reaches core .security 0x4A00001C → 
    ∃ t, exec (.vendorOff core) s = .next t ∧
      if s.flag .SEC_CMDST_BUSY = true then t.fld .SEC_CMDST_RESULT = 7 ∧ t.sec.running = s.sec.running
      else if s.flag .CT_STAT_MAIN = false then t.fld .SEC_CMDST_RESULT = 5 ∧ t.sec.running = s.sec.running
      else if s.satRangeSecure (s.fld .SEC_CMDA) 7936 = false then t.fld .SEC_CMDST_RESULT = 6 ∧ t.sec.running = s.sec.running
      else if s.satRead (s.fld .SEC_CMDA) 7936 = none then t.fld .SEC_CMDST_RESULT = 2 ∧ t.sec.running = s.sec.running
      else if s.ownerSigned s.certificate 3 false = true then t.fld .SEC_CMDST_BUSY = 1 ∧ t.sec.running = some (core, 3, 1)
      else t.fld .SEC_CMDST_RESULT = 2 ∧ t.sec.running = s.sec.running) ∧
  (∀ (s : State) (core : Nat), s.reaches core .security 0x4A00001C → 
    ∃ t, exec (.advance core) s = .next t ∧
      if s.flag .SEC_CMDST_BUSY = true then t.fld .SEC_CMDST_RESULT = 7 ∧ t.sec.running = s.sec.running
      else if s.flag .CT_STAT_MAIN = false then t.fld .SEC_CMDST_RESULT = 5 ∧ t.sec.running = s.sec.running
      else if ∀ i ∈ s.servingImages, s.fld .SEC_CMDA % 256 ≤ i.svn then t.fld .SEC_CMDST_BUSY = 1 ∧ t.sec.running = some (core, 4, s.fld .SEC_CMDA % 256)
      else t.fld .SEC_CMDST_RESULT = 4 ∧ t.sec.running = s.sec.running) ∧
  (∀ (s : State) (core cmd v : Nat), s.sec.running = some (core, cmd, v) → 1 ≤ cmd → cmd ≤ 4 → 
    ∃ t, exec .secCommandComplete s = .next t ∧
      t.fld .SEC_CMDST_BUSY = 0 ∧ t.fld .SEC_CMDST_RESULT = 0 ∧ t.sec.running = none ∧ s.tells t .security (if cmd = 4 then 0xB5 else 0xB4) ∧
      (t.sec.ownerKeys = if cmd ≤ 2 then s.sec.ownerKeys ++ [v] else s.sec.ownerKeys) ∧ (cmd = 3 → t.fld .SEC_FUSE_VENDOR_OFF = 1) ∧
      (cmd = 4 → t.fld .SEC_FUSE_SVN = max (s.fld .SEC_FUSE_SVN) (min v 128))) ∧
  (∀ (s : State) (x addr cause : Nat), cause = 1 ∨ cause = 5 ∨ cause = 7 → x < 64 ∨ (64 ≤ x ∧ x < 69) → s.tut.mcause.length = 4 → s.tut.mtval.length = 4 → 
    ∃ t, exec (.worldViolation x addr cause) s = .next t ∧
      if s.initiatorNs x = true ∧ s.targetNs x addr (cause == 5) = false then
        t.fld .SEC_VIOL_INIT = x ∧ t.fld .SEC_VIOLA = addr % 2 ^ 32 ∧ (x < 4 → t.tut.mcause.getD x 0 = cause ∧ t.tut.mtval.getD x 0 = addr) ∧
          (16 ≤ x → x < 32 → t.fld .RING_STAT_HALT (x - 16) = 1 ∧ t.fld .RING_STAT_ERR (x - 16) = 2) ∧ (64 ≤ x → t.dict.lastAbort = 0x06010000)
      else t = s) ∧
  (∀ (s : State) (w : Wing) (slot : Nat) (i : List Nat), s.wing w = .boot → s.image w = none → s.rst.phase = .none → s.bootOrder.find? (fun x => !(s.tried w).contains x) = some slot → slot = 3 ∨ s.flag .LIB_STAT_READY = true → slot ≠ 3 ∨ s.sec.download.isSome = true → i = (s.slotImage slot).getD [] → 
    ∃ t, exec (.bootImageVerify w) s = .next t ∧
      if (if i = [] then 2 else s.imageVerdict i) ≠ 0 then t.image w = none ∧ t.fld .SEC_LOCK_LOCK = s.fld .SEC_LOCK_LOCK ∧ slot ∈ t.tried w ∧ s.reports t .security 0xB0 ∧
          ((∀ x ∈ s.bootOrder, x = slot ∨ x ∈ s.tried w) → t.fld .SEC_STAT_NOIMG = 1)
      else if (s.flag .SEC_LOCK_LOCK = true ∧ imgMap i ≠ s.lockedMap) then t.image w = none ∧ t.fld .SEC_STAT_MAPDIFF = 1 ∧ s.reports t .security 0xB3
      else (t.image w).any (fun x => x.digest == imgField i 64 32 && x.svn == imgField i 12 1) = true ∧ t.flag .SEC_LOCK_LOCK = true ∧
        t.fld (match w with | .a => .SEC_STAT_SLOTA | .b => .SEC_STAT_SLOTB) = slot % 4 ∧ s.reports t .security 0xB1) ∧
  (∀ (s : State) (x : Option Nat), 
    ∃ t, exec (.identityKeyDerive x) s = .next t ∧
      if s.rst.phase ≠ .none then t = s else t.fld .SEC_STAT_PUF_OK = x.isSome.toNat ∧
      t.sec.identity = x.map Config.identityPublicKey ∧ (x = none → s.tells t .security 0xB6)) ∧
  (∀ (s : State) (nonce : List Nat), 
    ∃ t, exec (.attestationRequest nonce) s = .next t ∧
      if nonce.length < 16 ∨ 64 < nonce.length then t.sec.attesting = s.sec.attesting ∧ t.dict.lastAbort = 0x06070010
      else if s.sec.attesting ≠ none ∨ s.sec.identity = none ∨ s.flag .SEC_STAT_PUF_OK = false then t.sec.attesting = s.sec.attesting ∧ t.dict.lastAbort = 0x08000022
      else t.sec.attesting = some (s.attestation (nonce.map (fun b => b % 256))) ∧ t.dict.lastAbort = 0) ∧
  (∀ (s : State) (l : List Nat) (k : Nat), s.sec.attesting = some l → s.sec.identity = some k → 
    ∃ t, exec .attestationComplete s = .next t ∧
      t.sec.report = some (l, Config.slhSign k (ofLe l) % 256 ^ 17088) ∧ t.sec.attesting = none)

/-- While the Prefect is fitted and powered, TEST_PULSE_START lowers TP and masks the channel, TEST_PULSE_END raises
it, and TEST_PULSE_CHECK ends the mask: SPR not low in the pulse, or low after it without a demand, is a TEST fault,
FCAUSE bit 0; the other channel low without a demand is XSHORT, bit 1; else, without a demand, a clean cycle counts.
FILTERED_DEMAND outside the mask, at either receiver, shows and counts the demand, leaves RELEASING and CLEAR for
DEMAND and starts the notice and the force. DISCREPANCY_FAULT of a demand on one channel alone sets bit 2,
READBACK_FAULT of either SPR_OUT receiver bit 3, and a PREFECT_CLOCK_CHECK more than 6 % off bit 4; without the
crystal it is skipped. A latched fault takes states 4 and up to FAULT. PREFECT_FAULT_CLEAR clears FCAUSE after two
clean cycles without a demand. -/
def Obligations.PrefectTestsAndDemands : Prop :=
  (∀ (s : State) (ch : Nat), ch < 2 → 
    ∃ t, exec (.testPulseStart ch) s = .next t ∧
      if s.pfRuns = true then t.pf.tpLow.testBit ch = true ∧ t.pf.mask.testBit ch = true ∧ t.pf.tpLow.testBit (1 - ch) = s.pf.tpLow.testBit (1 - ch) else t = s) ∧
  (∀ (s : State) (ch : Nat), ch < 2 → 
    ∃ t, exec (.testPulseEnd ch) s = .next t ∧
      if s.pfRuns = true then t.pf.tpLow.testBit ch = false ∧ t.pf.mask = s.pf.mask else t = s) ∧
  (∀ (s : State) (ch : Nat) (x y z : DualRead), ch < 2 → s.pf.clean.length = 2 → 
    ∃ t, exec (.testPulseCheck ch x y z) s = .next t ∧
      if s.pfRuns = true ∧ s.pf.mask.testBit ch = true then t.pf.mask.testBit ch = false ∧ t.flag (sprFld ch) = !dualActive z.first z.second ∧ (dualActive z.first z.second = false → t.pf.demand.testBit ch = false) ∧
        (if dualActive x.first x.second = false ∨ (dualActive z.first z.second = true ∧ s.pf.demand.testBit ch = false) then t.bit .PF_STAT_FCAUSE 0 0 = true ∧ t.pf.clean = [0, 0] ∧ (s.bit .PF_STAT_FCAUSE 0 0 = false → s.reports t .prefect 0xC2) else t.bit .PF_STAT_FCAUSE 0 0 = s.bit .PF_STAT_FCAUSE 0 0) ∧
        (if dualActive y.first y.second = true ∧ s.pf.demand.testBit (1 - ch) = false then t.bit .PF_STAT_FCAUSE 0 1 = true ∧ t.pf.clean = [0, 0] ∧ (s.bit .PF_STAT_FCAUSE 0 1 = false → s.reports t .prefect 0xC3) else t.bit .PF_STAT_FCAUSE 0 1 = s.bit .PF_STAT_FCAUSE 0 1) ∧
        (s.pf.demand.testBit ch = false → s.pf.demand.testBit (1 - ch) = false → dualActive x.first x.second = true → dualActive z.first z.second = false → dualActive y.first y.second = false →
          t.pf.clean.getD ch 0 = s.pf.clean.getD ch 0 + 1)
      else t = s) ∧
  (∀ (s : State) (ch : Nat) (first second : Bool), ch < 2 → 
    ∃ t, exec (.filteredDemand ⟨ch, ⟨first, second⟩⟩) s = .next t ∧
      if s.pfRuns = true ∧ dualActive first second = true ∧ s.pf.mask.testBit ch = false then
        t.pf.demand.testBit ch = true ∧ t.fld (sprFld ch) = 0 ∧ t.pf.noticeDue = true ∧ t.pf.forceDue = true ∧ t.pf.forceDemand = true ∧
          t.fld .PF_CNT_DEMANDS = satInc (Fld.width .PF_CNT_DEMANDS) (s.fld .PF_CNT_DEMANDS) ∧
          (t.fld .PF_STAT_STATE = if 5 ≤ s.fld .PF_STAT_STATE then 4 else s.fld .PF_STAT_STATE)
      else t = s) ∧
  (∀ (s : State) (ch : Nat), ch < 2 → 
    ∃ t, exec (.discrepancyFault ch) s = .next t ∧
      if s.pfRuns = true ∧ s.pf.demand.testBit ch = true ∧ s.pf.demand.testBit (1 - ch) = false then t.bit .PF_STAT_FCAUSE 0 2 = true ∧ t.pf.clean = [0, 0] ∧ (s.bit .PF_STAT_FCAUSE 0 2 = false → t.pf.noticeDue = true ∧ t.pf.forceDue = true ∧ s.tells t .prefect 0xC4) else t = s) ∧
  (∀ (s : State) (first second : Bool), 
    ∃ t, exec (.readbackFault ⟨first, second⟩) s = .next t ∧
      if s.pfRuns = true ∧ (first ≠ s.pf.sprOut ∨ second ≠ s.pf.sprOut) then t.bit .PF_STAT_FCAUSE 0 3 = true ∧ t.pf.clean = [0, 0] ∧ (s.bit .PF_STAT_FCAUSE 0 3 = false → t.pf.noticeDue = true ∧ t.pf.forceDue = true ∧ s.tells t .prefect 0xCB) else t = s) ∧
  (∀ (s : State) (count : Nat), s.pfRuns = true → 
    ∃ t, exec (.prefectClockCheck count) s = .next t ∧
      if s.clk.crystal = false then t.fld .PF_STAT_XTALSKIP = 1 ∧ t.fld .PF_STAT_FCAUSE = s.fld .PF_STAT_FCAUSE
      else t.fld .PF_STAT_XTALSKIP = 0 ∧
        (if count < 376000 ∨ 424000 < count then t.bit .PF_STAT_FCAUSE 0 4 = true ∧ t.pf.clean = [0, 0] ∧
            (s.bit .PF_STAT_FCAUSE 0 4 = false → 4 ≤ s.fld .PF_STAT_STATE → t.fld .PF_STAT_STATE = 3)
        else t.fld .PF_STAT_FCAUSE = s.fld .PF_STAT_FCAUSE)) ∧
  (∀ (s : State), 
    ∃ t, exec .prefectFaultClear s = .next t ∧
      if s.pfRuns = true ∧ s.fld .PF_STAT_FCAUSE ≠ 0 ∧ s.pf.demand = 0 ∧ (∀ n ∈ s.pf.clean, 2 ≤ n) then
        t.fld .PF_STAT_FCAUSE = 0 ∧ (t.fld .PF_STAT_STATE = if s.fld .PF_STAT_STATE = 3 then 4 else s.fld .PF_STAT_STATE) else t = s)

/-- A due PREFECT_NOTICE clears every OUTEN and locks every module of the variant; a due PREFECT_FORCE drives the pads
and SPR_OUT low. PREFECT_RELEASE_READY in DEMAND without fault and with a set goes to RELEASING, SPR_OUT high where
RESTART is automatic; the two keys of PF_REL within 1 ms raise it; FORCE_RELEASE then ends the force in CLEAR with
event 0xC1. CFGSW_READ keeps the switches, closed at either receiver, and SWBAD, and CFGSW_CHANGE shows a change and
disarms. A delivered set in its ranges is in force if the newest slot names it, else UNCOMMISSIONED. Eight mismatched
bits, unless both balls of SEAL_IN are open, clear SEALOK with 0xC6, eight matching ones set it with 0xC7 and, armed,
program. PF_COMMIT arms or gives its RESULT, the timeout disarms, and completion records the slot and enters DEMAND
with 0xCA. -/
def Obligations.PrefectForceReleaseCommission : Prop :=
  (∀ (s : State), 
    ∃ t, exec .prefectNotice s = .next t ∧
      if s.prefectFitted = true ∧ s.pf.noticeDue = true then (∀ m < 24, s.hasPm m = true → t.fld .PWM_RUN_OUTEN m = 0 ∧ t.bit .GI_LOCKED_LOCK 0 m = true) ∧
        t.fld .PF_LASTT = s.ts ∧ t.pf.noticeDue = false else t = s) ∧
  (∀ (s : State), 
    ∃ t, exec .prefectForce s = .next t ∧
      if s.prefectFitted = true ∧ s.pf.forceDue = true then t.gate.force = true ∧ t.pf.sprOut = false ∧ t.pf.forceDue = false ∧
        (s.pf.forceDemand = true → s.reports t .prefect 0xC0) else t = s) ∧
  (∀ (s : State), 
    ∃ t, exec .prefectReleaseReady s = .next t ∧
      if s.pfRuns = true ∧ s.fld .PF_STAT_STATE = 4 ∧ s.fld .PF_STAT_FCAUSE = 0 ∧ s.pf.set.isSome = true then
        t.fld .PF_STAT_STATE = 5 ∧ t.pf.demand = 0 ∧ t.pf.sprOut = s.pfAuto ∧ t.pf.keyAt = none else t = s) ∧
  (∀ (s : State) (core key : Nat), s.mayStore core 0x4D000020 false → 
    ∃ t, exec (.pfRelWrite core key) s = .next t ∧
      if s.prefectFitted = true ∧ s.fld .PF_STAT_STATE = 5 then
        (if key % 2 ^ 16 = 0x5AA5 then t.pf.keyAt = some s.tb ∧ t.pf.sprOut = s.pf.sprOut
         else t.pf.keyAt = none ∧ (t.pf.sprOut = true ↔ s.pf.sprOut = true ∨ (key % 2 ^ 16 = 0xA55A ∧ ∃ k ∈ s.pf.keyAt, s.tb ≤ k + 640000)))
      else t.pf.sprOut = s.pf.sprOut) ∧
  (∀ (s : State), 
    ∃ t, exec .forceRelease s = .next t ∧
      if s.pfRuns = true ∧ s.fld .PF_STAT_STATE = 5 ∧ s.pf.sprOut = true then t.gate.force = false ∧ t.fld .PF_STAT_STATE = 6 ∧ s.tells t .prefect 0xC1 else t = s) ∧
  (∀ (s : State) (n : Nat) (r : SwitchRead), n = (r.first ||| r.second) % 256 → 
    ∃ t, exec (.cfgswRead r) s = .next t ∧
      if s.pfRuns = true ∧ s.pf.cfgRead = false then t.fld .PF_CFG_CFGSW = n ∧ t.flag .PF_CFG_SWBAD = decide (n / 16 + n % 16 ≠ 15) ∧ t.pf.cfgRead = true else t = s) ∧
  (∀ (s : State) (r : SwitchRead), 
    ∃ t, exec (.cfgswChange r) s = .next t ∧
      if s.pfRuns = true ∧ s.pf.cfgRead = true ∧ (r.first ||| r.second) % 256 ≠ s.fld .PF_CFG_CFGSW then
        t.fld .PF_CFG_CFGCHG = 1 ∧ t.fld .PF_COMST_ARMED = 0 ∧ t.fld .PF_CFG_CFGSW = s.fld .PF_CFG_CFGSW ∧ s.tells t .prefect 0xC5 else t = s) ∧
  (∀ (s : State) (p : List Nat), s.pfRuns = true → s.pf.deliver = true → s.pf.cfgRead = true → s.flag .PF_CFG_SWBAD = false → s.flag .LIB_STAT_READY = true → s.prefectRecord (s.fld .PF_CFG_CFGSW % 16) = some p → 
    ∃ t, exec .prefectSetDelivery s = .next t ∧
      t.pf.deliver = false ∧
      (if setInRange p = false then t.pf.set = none ∧ t.fld .PF_STAT_STATE = 1
       else t.fld .PF_HASH 0 = setHash p % 2 ^ 32 ∧
        (if s.pf.slots.getLast? = some (s.fld .PF_CFG_CFGSW % 16, setHash p) then t.pf.set = some p ∧ s.tells t .prefect 0xC8 ∧
          (s.fld .PF_STAT_STATE = 1 → t.fld .PF_STAT_STATE = if s.fld .PF_STAT_FCAUSE = 0 then 4 else 3)
         else t.pf.set = none ∧ t.fld .PF_STAT_STATE = 2 ∧ s.reports t .prefect 0xC9))) ∧
  (∀ (s : State), s.pfRuns = true → 
    ∃ t, exec .sealOpened s = .next t ∧
      if s.ct.openBalls.testBit 14 = false ∨ s.ct.openBalls.testBit 15 = false then t.fld .PF_STAT_SEALOK = 0 ∧ s.tells t .prefect 0xC6 else t.fld .PF_STAT_SEALOK = s.fld .PF_STAT_SEALOK) ∧
  (∀ (s : State), s.pfRuns = true → 
    ∃ t, exec .sealClosed s = .next t ∧
      if s.ct.openBalls.testBit 14 = false ∨ s.ct.openBalls.testBit 15 = false then t.fld .PF_STAT_SEALOK = 1 ∧ (s.flag .PF_COMST_ARMED = true → t.pf.programming = true) ∧ s.tells t .prefect 0xC7
      else t.fld .PF_STAT_SEALOK = s.fld .PF_STAT_SEALOK) ∧
  (∀ (s : State) (core digest : Nat), s.mayStore core 0x4D000024 false → 
    ∃ t, exec (.pfCommitWrite core digest) s = .next t ∧
      if s.prefectFitted = false then t = s
      else if s.fld .PF_STAT_STATE ≠ 2 then t.fld .PF_COMST_RESULT = 1 ∧ t.fld .PF_COMST_ARMED = s.fld .PF_COMST_ARMED
      else if s.flag .PF_STAT_SEALOK = true then t.fld .PF_COMST_RESULT = 2 ∧ t.fld .PF_COMST_ARMED = s.fld .PF_COMST_ARMED
      else if digest % 2 ^ 32 ≠ s.fld .PF_HASH 0 then t.fld .PF_COMST_RESULT = 3 ∧ t.fld .PF_COMST_ARMED = s.fld .PF_COMST_ARMED
      else if 64 ≤ s.pf.slots.length then t.fld .PF_COMST_RESULT = 4 ∧ t.fld .PF_COMST_ARMED = s.fld .PF_COMST_ARMED
      else t.fld .PF_COMST_ARMED = 1 ∧ t.fld .PF_COMST_RESULT = 0) ∧
  (∀ (s : State), 
    ∃ t, exec .commitArmTimeout s = .next t ∧
      if s.pfRuns = true ∧ s.pf.programming = false then t.fld .PF_COMST_ARMED = 0 else t = s) ∧
  (∀ (s : State), 
    ∃ t, exec .commissioningComplete s = .next t ∧
      if s.pfRuns = true ∧ s.pf.programming = true then t.fld .PF_STAT_STATE = 4 ∧ t.pf.set = s.pf.loaded ∧ t.pf.slots.length = s.pf.slots.length + 1 ∧ t.fld .PF_CFG_COMSET = s.fld .PF_CFG_CFGSW % 16 ∧
        (t.pf.slots.getLast?).map (·.1) = some (s.fld .PF_CFG_CFGSW % 16) ∧ t.fld .PF_COMST_ARMED = 0 ∧ s.tells t .prefect 0xCA else t = s)

/-- A PORT_EN_WRITE that a core may store sets PORT_EN and starts a newly enabled PEER's training; PORT_RESTART of a
port in local reset ends that and sets its fault bit. ETH_LINK_CHANGE of an enabled port shows the negotiated or
configured speed and duplex, or LINK 0. An accepted Ethernet, CAN or Niujor frame completes the free descriptor at
HEAD of its ring with ERRCODE 0 and its length, or 0x04 and 0 where its buffer is too small, and moves HEAD; with none
free an Ethernet frame counts in RXDROP and DROP; a bad FCS is counted. A CAN error frame moves REC (log entry 29); a
frame that no filter accepts, or an FD one without FDEN, reaches no ring; CAN_BUS_OFF_RECOVERY where automatic clears
the counts and the state. A Niujor frame for this unit or all, of a TYPE from 4 on, reaches Q8; a bad one, or one
whose CRC-16 differs, is counted. ETH_MDIO_WRITE starts a frame, or is discarded with event 0x01 while one runs;
MDIO_FRAME_COMPLETE ends it with its data. -/
def Obligations.PortsAndReception : Prop :=
  (∀ (s : State) (core mask : Nat), s.mayStore core (portAddr 0) false → 
    ∃ t, exec (.portEnWrite core mask) s = .next t ∧
      t.fld .PORT_EN_EN = mask % 32 ∧ (mask.testBit 4 = true → (s.fld .PORT_EN_EN).testBit 4 = false → t.trains = true)) ∧
  (∀ (s : State) (p : Nat), p < 5 → 
    ∃ t, exec (.portRestart p) s = .next t ∧
      if s.ports.held.testBit p = true then t.bit .PORT_FLT_FLT 0 p = true ∧ t.ports.held.testBit p = false else t = s) ∧
  (∀ (s : State) (p spd : Nat) (up fdx : Bool), p < 2 → spd ≤ 2 → 
    ∃ t, exec (.ethLinkChange p up spd fdx) s = .next t ∧
      if s.portOn p = false then t = s else if up = false then t.fld .ETH_STAT_LINK p = 0
      else t.fld .ETH_STAT_LINK p = 1 ∧ t.fld .ETH_STAT_SPD p = (if s.flag .ETH_CFG_ANEG p = true then spd else s.fld .ETH_CFG_SPEED p) ∧
        t.flag .ETH_STAT_FDX p = (decide (t.fld .ETH_STAT_SPD p = 2) || (if s.flag .ETH_CFG_ANEG p = true then fdx else !s.flag .ETH_CFG_HDX p))) ∧
  (∀ (s : State) (p ts : Nat) (frame : List Nat), p < 2 → s.portOn p = true → frame.length ≤ 1518 → s.ethAccepts p frame = true → s.receives (2 * p) frame.length frame → 
    ∃ t, exec (.ethFrameReceive p frame true ts) s = .next t ∧
      t.fld .RING_HEAD_HEAD (2 * p) = (s.fld .RING_HEAD_HEAD (2 * p) + 1) % s.ringSize (2 * p) ∧
      t.completed (2 * p) (s.fld .RING_HEAD_HEAD (2 * p)) 0 frame.length) ∧
  (∀ (s : State) (p ts : Nat) (frame : List Nat) (d : Desc), p < 2 → s.portOn p = true → frame.length ≤ 1518 → s.ethAccepts p frame = true → s.freeDesc (2 * p) = some d → d.len < frame.length → 
    ∃ t, exec (.ethFrameReceive p frame true ts) s = .next t ∧
      t.fld .RING_HEAD_HEAD (2 * p) = (s.fld .RING_HEAD_HEAD (2 * p) + 1) % s.ringSize (2 * p) ∧
      ((s.satWrite (s.descAddr (2 * p) (s.fld .RING_HEAD_HEAD (2 * p))) (List.replicate 32 0)).1 = true → t.completed (2 * p) (s.fld .RING_HEAD_HEAD (2 * p)) 4 0)) ∧
  (∀ (s : State) (p ts : Nat) (frame : List Nat), p < 2 → s.portOn p = true → frame.length ≤ 1518 → s.ethAccepts p frame = true → s.freeDesc (2 * p) = none → s.flag .RING_CFG_EN (2 * p) = false ∨ s.flag .RING_STAT_HALT (2 * p) = true ∨ (s.desc (2 * p) (s.fld .RING_HEAD_HEAD (2 * p))).isSome = true → 
    ∃ t, exec (.ethFrameReceive p frame true ts) s = .next t ∧
      t.fld .ETH_STAT_RXDROP p = satInc (Fld.width .ETH_STAT_RXDROP) (s.fld .ETH_STAT_RXDROP p) ∧
      t.fld .RING_STAT_DROP (2 * p) = satInc (Fld.width .RING_STAT_DROP) (s.fld .RING_STAT_DROP (2 * p))) ∧
  (∀ (s : State) (p ts : Nat) (frame : List Nat), p < 2 → frame.length ≤ 1518 → 
    ∃ t, exec (.ethFrameReceive p frame false ts) s = .next t ∧
      if s.portOn p = true then t.fld .ETH_STAT_FCSERR p = satInc (Fld.width .ETH_STAT_FCSERR) (s.fld .ETH_STAT_FCSERR p) else t = s) ∧
  (∀ (s : State) (p ident dlc ts k : Nat) (ide fdf brs esi rtr : Bool) (data : List Nat), 2 ≤ p → p < 4 → s.portOn p = true → s.fld .CAN_STAT_STATE p ≠ 2 → (fdf = true → s.flag .CAN_CFG_FDEN p = true) → ident < 2 ^ 29 → s.canFilter p ident ide = some k → s.receives (2 * p) (8 + data.length) (canHeader ident ide fdf brs esi rtr dlc ++ data) → 
    ∃ t, exec (.canFrameReceive p ident ide fdf brs esi rtr dlc data false ts) s = .next t ∧
      t.fld .RING_HEAD_HEAD (2 * p) = (s.fld .RING_HEAD_HEAD (2 * p) + 1) % s.ringSize (2 * p) ∧
      t.completed (2 * p) (s.fld .RING_HEAD_HEAD (2 * p)) 0 (8 + data.length)) ∧
  (∀ (s : State) (p ident dlc ts : Nat) (ide fdf brs esi rtr err : Bool) (data : List Nat), 2 ≤ p → p < 4 → ident < 2 ^ 29 → err = true ∨ (fdf = true ∧ s.flag .CAN_CFG_FDEN p = false) ∨ s.canFilter p ident ide = none ∨ s.portOn p = false ∨ s.fld .CAN_STAT_STATE p = 2 → 
    ∃ t, exec (.canFrameReceive p ident ide fdf brs esi rtr dlc data err ts) s = .next t ∧
      t.fld .RING_HEAD_HEAD (2 * p) = s.fld .RING_HEAD_HEAD (2 * p) ∧ (s.portOn p = true → s.fld .CAN_STAT_STATE p ≠ 2 → err = true → t.fld .CAN_STAT_REC p = min 255 (s.fld .CAN_STAT_REC p + 1)) ∧
      (s.portOn p = false ∨ s.fld .CAN_STAT_STATE p = 2 → t = s)) ∧
  (∀ (s : State) (p : Nat), 2 ≤ p → p < 4 → 
    ∃ t, exec (.canBusOffRecovery p) s = .next t ∧
      if s.portOn p = true ∧ s.fld .CAN_STAT_STATE p = 2 ∧ s.flag .CAN_CFG_ABOREC p = true then
        t.fld .CAN_STAT_TEC p = 0 ∧ t.fld .CAN_STAT_REC p = 0 ∧ t.fld .CAN_STAT_STATE p = 0 else t = s) ∧
  (∀ (s : State) (dst src type ts : Nat) (payload : List Nat), s.portOn 4 = true → s.trains = false → payload.length ≤ 64 → 4 ≤ type → dst = 0xFF ∨ dst = s.fld .PEER_CFG_POS → s.receives 8 (4 + payload.length) (niujorBytes dst src type payload) → 
    ∃ t, exec (.niujorFrameReceive dst src type payload ⟨niujorCrc (niujorBytes dst src type payload), true⟩ ts) s = .next t ∧
      t.ports.slot = src ∧ t.fld .RING_HEAD_HEAD (8) = (s.fld .RING_HEAD_HEAD (8) + 1) % s.ringSize (8) ∧
      t.completed 8 (s.fld .RING_HEAD_HEAD 8) 0 (4 + payload.length)) ∧
  (∀ (s : State) (dst src type ts crc : Nat) (payload : List Nat) (ok : Bool), s.portOn 4 = true → ok = false ∨ crc ≠ niujorCrc (niujorBytes dst src type payload) → 
    ∃ t, exec (.niujorFrameReceive dst src type payload ⟨crc, ok⟩ ts) s = .next t ∧
      t.fld .PEER_CFG_CRCERR 0 = satInc (Fld.width .PEER_CFG_CRCERR) (s.fld .PEER_CFG_CRCERR 0) ∧ t.fld .RING_HEAD_HEAD 8 = s.fld .RING_HEAD_HEAD 8) ∧
  (∀ (s : State) (core phyad regad data : Nat) (w : Bool), s.mayStore core (portAddr 0xC) false → 
    ∃ t, exec (.ethMdioWrite core phyad regad w data) s = .next t ∧
      if s.ports.mdio = none then t.fld .ETH_MDIO_GO = 1 ∧ t.fld .ETH_MDIO_PHYAD = phyad % 32 ∧ t.fld .ETH_MDIO_REGAD = regad % 32 ∧ t.fld .ETH_MDIO_DATA = data % 2 ^ 16 ∧
        t.flag .ETH_MDIO_WRITE = w ∧ t.ports.mdio = some (w, phyad % 32, regad % 32, data % 2 ^ 16)
      else t.ports.mdio = s.ports.mdio ∧ t.fld .ETH_MDIO_DATA = s.fld .ETH_MDIO_DATA ∧ s.tells t .ports 0x01) ∧
  (∀ (s : State) (data a b c : Nat) (w : Bool), s.ports.mdio = some (w, a, b, c) → 
    ∃ t, exec (.mdioFrameComplete data) s = .next t ∧
      t.fld .ETH_MDIO_GO = 0 ∧ t.ports.mdio = none ∧ t.fld .ETH_MDIO_DATA = (if w = true then s.fld .ETH_MDIO_DATA else if s.bankOn 3 = true then data % 2 ^ 16 else 0xFFFF))

/-- With PEER on: outside training the origin's NIUJOR_CYCLE_START sends its frame, or the empty one of TYPE 0, with
its CRC-16, and NIUJOR_SLOT of a trained unit its waiting frame. A CHAIN_BELL of a follower waits during training;
else it is relayed and a Bell is emitted. PEER_TRAIN at the origin sends word 0 and the hop pulse; TRAINING_WORD sets
POS and TRAINED and is relayed, a bad one is ignored; HOP_PULSE is echoed; TRAINING_ECHO sends half the round trip
less 64 ns, in 1/8 ticks and rounded either way (log entry 30); HOP_REPORT sets BELL_HOP and sends on the unit's own
pulse; ECHO_TIMEOUT of the last unit reports POS, and alone ends the training with NUNITS 0; POSITION_REPORT sets
NUNITS; TRAINING_TIMEOUT fails the training. -/
def Obligations.NiujorLinkAndTraining : Prop :=
  (∀ (s : State) (x : List Nat), x = s.peerFrame.getD [0xFF, 0, 0, 0] → 
    ∃ t, exec .niujorCycleStart s = .next t ∧
      if s.portOn 4 = true ∧ s.flag .BELL_COMP_ORIGIN = true ∧ s.trains = false then t.ports.slot = 0 ∧ t.ports.peerSent = (x) ++ leBytes 2 (niujorCrc (x)) else t = s) ∧
  (∀ (s : State), 
    ∃ t, exec .niujorSlot s = .next t ∧
      if s.portOn 4 = true ∧ s.flag .BELL_COMP_ORIGIN = false ∧ s.flag .PEER_CFG_TRAINED = true ∧ s.trains = false then
        t.ports.slot = s.fld .PEER_CFG_POS ∧ (∀ x ∈ s.peerFrame, t.ports.peerSent = (x) ++ leBytes 2 (niujorCrc (x))) ∧ (s.peerFrame = none → t.ports.peerSent = s.ports.peerSent) else t = s) ∧
  (∀ (s : State), s.portOn 4 = true → s.flag .BELL_COMP_ORIGIN = false → 
    ∃ t, exec .chainBell s = .next t ∧
      if s.trains = true then t.ports.bellWaits = true ∧ t.ports.syncOut = s.ports.syncOut else t.ports.syncOut = [.bell] ∧
        (s.bellsRing = true → t.fld .BELL_STAT_SEQ = (s.fld .BELL_STAT_SEQ + 1) % 2 ^ 16)) ∧
  (∀ (s : State) (core : Nat), s.mayStore core (portAddr 0x400) (s.portNs 4) → 
    ∃ t, exec (.peerTrain core) s = .next t ∧
      if s.portOn 4 = true ∧ s.flag .BELL_COMP_ORIGIN = true then t.ports.training = .hops ∧ t.fld .PEER_CFG_TRAINED = 0 ∧ t.fld .PEER_CFG_POS = 0 ∧ t.ports.syncOut = [.word 0, .hop] ∧ t.ports.hopStart = some s.tb else t = s) ∧
  (∀ (s : State) (marker pos check : Nat), pos ≠ 31 → 
    ∃ t, exec (.trainingWord marker pos check) s = .next t ∧
      if s.portOn 4 = true ∧ s.flag .BELL_COMP_ORIGIN = false ∧ marker = 0xD2 ∧ pos < 32 ∧ check = (marker ^^^ pos ^^^ 0x5A) then
        t.fld .PEER_CFG_POS = pos + 1 ∧ t.fld .PEER_CFG_TRAINED = 1 ∧ t.ports.syncOut = [.word (pos + 1)] ∧ t.ports.training = .hops else t = s) ∧
  (∀ (s : State), 
    ∃ t, exec .hopPulse s = .next t ∧
      if s.portOn 4 = true ∧ s.flag .BELL_COMP_ORIGIN = false ∧ s.ports.training = .hops then t.ports.peerSent = ([s.fld .PEER_CFG_POS - 1, s.fld .PEER_CFG_POS, 1, 0]) ++ leBytes 2 (niujorCrc ([s.fld .PEER_CFG_POS - 1, s.fld .PEER_CFG_POS, 1, 0])) else t = s) ∧
  (∀ (s : State) (rt : Nat), s.portOn 4 = true → s.ports.training = .hops → s.ports.hopStart.isSome = true → s.ports.bellWaits = false → 
    ∃ t, exec (.trainingEcho rt) s = .next t ∧
      t.ports.hopStart = none ∧ (s.flag .BELL_COMP_ORIGIN = false → t.ports.training = .idle) ∧
      (∃ h ∈ [(rt - 64000) * 8 / 3125, ((rt - 64000) * 8 + 3124) / 3125],
        t.ports.peerSent = ([s.fld .PEER_CFG_POS + 1, s.fld .PEER_CFG_POS, 2, 2] ++ leBytes 2 h) ++ leBytes 2 (niujorCrc ([s.fld .PEER_CFG_POS + 1, s.fld .PEER_CFG_POS, 2, 2] ++ leBytes 2 h)))) ∧
  (∀ (s : State) (hop : Nat), hop < 2 ^ 16 → 
    ∃ t, exec (.hopReport hop) s = .next t ∧
      if s.portOn 4 = true ∧ s.flag .BELL_COMP_ORIGIN = false ∧ s.ports.training = .hops then t.fld .BELL_HOP_HOP = hop ∧ t.ports.syncOut = [.hop] ∧ t.ports.hopStart = some s.tb else t = s) ∧
  (∀ (s : State), s.portOn 4 = true → s.ports.training = .hops → s.ports.hopStart.isSome = true → 
    ∃ t, exec .echoTimeout s = .next t ∧
      t.ports.training = .idle ∧ (if s.flag .BELL_COMP_ORIGIN = true then t.fld .PEER_CFG_NUNITS = 0 ∧ t.fld .PEER_CFG_TRAINED = 1
        else t.ports.peerSent = ([0, s.fld .PEER_CFG_POS, 3, 1, s.fld .PEER_CFG_POS]) ++ leBytes 2 (niujorCrc ([0, s.fld .PEER_CFG_POS, 3, 1, s.fld .PEER_CFG_POS])))) ∧
  (∀ (s : State) (pos : Nat), pos < 32 → 
    ∃ t, exec (.positionReport pos) s = .next t ∧
      if s.portOn 4 = true ∧ s.flag .BELL_COMP_ORIGIN = true ∧ s.ports.training = .hops then t.fld .PEER_CFG_NUNITS = pos ∧ t.fld .PEER_CFG_TRAINED = 1 ∧ t.ports.training = .idle else t = s) ∧
  (∀ (s : State), 
    ∃ t, exec .trainingTimeout s = .next t ∧
      if s.trains = true then t.ports.training = .failed ∧ t.fld .PEER_CFG_TRAINED = s.fld .PEER_CFG_TRAINED ∧ t.ports.bellWaits = false else t = s)

/-- Of the stores that a core may make: an owner's RING_CFG_WRITE keeps the clamped size and EN where the base allows
it, with event 0x01 where not; from another Wing it is discarded, as are the next two. RING_HEAD_WRITE moves HEAD of a
ring the device consumes, RING_HALT_CLEAR ends the halt. DESCRIPTOR_PROCESS takes the next descriptor, or completes a
stale one with ERRCODE 0x03, one whose buffer is barred with 0x02 and an unknown command with 0x07.
DESCRIPTOR_COMPLETE completes a taken one with 0 or 0x05, and on CAN moves TEC (log entry 29). CRYPTO_HASH writes its
result, whose form in 8 bytes is open (log entry 27), and completes, with 0x01 where it cannot write; CRYPTO_VERIFY 0
for a valid signature over the reserved bytes, else another number. CAPTURE_BUFFER_COMPLETE of an enabled stream with
a full buffer completes it and moves HEAD. -/
def Obligations.RingsCryptoAndCapture : Prop :=
  (∀ (s : State) (core q v : Nat), q < 16 → s.mayStore core (ringAddr q 4) (s.ringNs q) → 
    ∃ t, exec (.ringCfgWrite core q v) s = .next t ∧
      if (s.ringOwners q).contains (coreWing core) = true then t.fld .RING_CFG_SIZE_L2 q = max 4 (min 12 (v % 16)) ∧ t.flag .RING_CFG_IRQ q = v.testBit 7 ∧
        (if v.testBit 6 = true → s.ringBaseOk q = true then t.flag .RING_CFG_EN q = v.testBit 6 else t.flag .RING_CFG_EN q = s.flag .RING_CFG_EN q ∧ s.tells t .ports 0x01)
      else t.flag .RING_CFG_EN q = s.flag .RING_CFG_EN q ∧ t.fld .RING_CFG_SIZE_L2 q = s.fld .RING_CFG_SIZE_L2 q ∧ s.tells t .ports 0x01) ∧
  (∀ (s : State) (core q v : Nat), q < 16 → s.mayStore core (ringAddr q 8) (s.ringNs q) → 
    ∃ t, exec (.ringHeadWrite core q v) s = .next t ∧
      if (s.ringOwners q).contains (coreWing core) = true then (if deviceProduces q = true then t = s else t.fld .RING_HEAD_HEAD q = v % 2 ^ 12) else t.fld .RING_HEAD_HEAD q = s.fld .RING_HEAD_HEAD q ∧ s.tells t .ports 0x01) ∧
  (∀ (s : State) (core q : Nat), q < 16 → s.mayStore core (ringAddr q 0x10) (s.ringNs q) → 
    ∃ t, exec (.ringHaltClear core q) s = .next t ∧
      if (s.ringOwners q).contains (coreWing core) = true then t.fld .RING_STAT_HALT q = 0 ∧ t.fld .RING_STAT_ERR q = s.fld .RING_STAT_ERR q else t.fld .RING_STAT_HALT q = s.fld .RING_STAT_HALT q ∧ s.tells t .ports 0x01) ∧
  (∀ (s : State) (q n : Nat), s.nextRing = some q → n = s.fld .RING_TAIL_TAIL q % s.ringSize q → 
    ∃ t, exec .descriptorProcess s = .next t ∧
      t.ports.lastRing = q ∧ t.fld .RING_TAIL_TAIL q = (n + 1) % s.ringSize q ∧
      (∀ d ∈ s.desc q n, if d.epoch ≠ s.fld .RING_EPOCH then s.answered t q n 3 d.len
        else if s.ringBarred q d.addr d.len = true then s.answered t q n 2 d.len
        else ∀ l ∈ s.satRead d.addr d.len, if opKnown q (l.getD 0 0) = true then t.takenOf q = some { ring := q, idx := n, desc := d } else s.answered t q n 7 d.len)) ∧
  (∀ (s : State) (q code ts : Nat) (x : Taken), s.takenOf q = some x → q < 16 → q ≠ 13 → q ≠ 14 → code = 0 ∨ code = 5 → 
    ∃ t, exec (.descriptorComplete q code ts) s = .next t ∧
      ((∀ y ∈ t.ports.taken, y.ring = q → y.idx ≠ x.idx)) ∧ (code = 5 ∨ ¬((q = 5 ∨ q = 7) ∧ s.flag .CAN_CFG_LOOP (q / 2) = true) → s.answered t q x.idx code x.desc.len) ∧
      (q = 5 ∨ q = 7 → if code = 5 then (if 247 < s.fld .CAN_STAT_TEC (q / 2) then t.fld .CAN_STAT_STATE (q / 2) = 2 else t.fld .CAN_STAT_TEC (q / 2) = s.fld .CAN_STAT_TEC (q / 2) + 8)
        else t.fld .CAN_STAT_TEC (q / 2) = s.fld .CAN_STAT_TEC (q / 2) - 1)) ∧
  (∀ (s : State) (x : Taken) (op arg seq : Nat) (data : List Nat), s.takenOf 14 = some x → x.desc.len < 2 ^ 16 → s.command x.desc = some (op, arg, seq, data) → 
    ∃ t, exec .cryptoHash s = .next t ∧
      if op = 1 then s.answered t 14 x.idx (if (s.satWrite (x.desc.addr + 8) (List.replicate 8 0)).1 = true then 0 else 1) x.desc.len ∧ (∀ y ∈ t.ports.taken, y.ring = 14 → y.idx ≠ x.idx) ∧
        ((s.satWrite (x.desc.addr + 8) (List.replicate 8 0)).1 = true → s.descAddr 14 x.idx + 32 ≤ x.desc.addr + 8 ∨ x.desc.addr + 16 ≤ s.descAddr 14 x.idx →
          t.satRead (x.desc.addr + 8) 8 = some (leBytes 8 (Config.hashResult (ofBe (sha256 data)))))
      else t = s) ∧
  (∀ (s : State) (x : Taken) (op arg seq : Nat) (data : List Nat), s.takenOf 14 = some x → x.desc.len < 2 ^ 16 → s.command x.desc = some (op, arg, seq, data) → 
    ∃ t, exec .cryptoVerify s = .next t ∧
      if op = 2 then s.answered t 14 x.idx (if (s.satWrite (x.desc.addr + 8) (List.replicate 8 0)).1 = true then 0 else 1) x.desc.len ∧ (∀ y ∈ t.ports.taken, y.ring = 14 → y.idx ≠ x.idx) ∧
        ((s.satWrite (x.desc.addr + 8) (List.replicate 8 0)).1 = true → s.descAddr 14 x.idx + 32 ≤ x.desc.addr + 8 ∨ x.desc.addr + 16 ≤ s.descAddr 14 x.idx →
          (t.satRead (x.desc.addr + 8) 8 = some (List.replicate 8 0) ↔
            7888 ≤ data.length ∧ Config.slhVerifies (ofLe (data.take 32)) (ofLe (data.drop 7888)) (ofLe ((data.drop 32).take 7856)) = true))
      else t = s) ∧
  (∀ (s : State) (a : Nat) (d : Desc), a < 2 → s.freeDesc (11 + a) = some d → 
    ∃ t, exec (.captureBufferComplete a) s = .next t ∧
      if s.flag .CAP_CFG_EN a = true ∧ d.len < (s.cap a).words.length * 8 + 8 then t.fld .RING_HEAD_HEAD (11 + a) = (s.fld .RING_HEAD_HEAD (11 + a) + 1) % s.ringSize (11 + a) ∧ (t.cap a).words = [] ∧ (t.cap a).gap = false else t = s)

/-- From an initiator with write rights (else abort 0x0601_0000): GROUP_ENTER takes a RUNNING group into RECESS with a
fresh pending set, an engine group with a run to ENTERING, and is refused with 0x0800_0022 for one whose Wing drives;
in RECESS and REJECTED it has no effect. Any command in ENTERING or APPLYING is held, DEFERRED, with event 0x22; one
not allowed in the state ends with 0x0800_0022. GROUP_RESTART of one in RECESS or REJECTED starts validation, and in
VALIDATING joins it; GROUP_RESTORE returns it to RECESS with a fresh pending set. VALIDATION_COMPLETE without findings
enters APPLYING and asks for APPLY, with one it enters REJECTED, shows it and queues event 0x21, for all groups of a
joint restart together. JOINT_RESTART, Secure, of open groups only, with no other in progress, starts all of them. -/
def Obligations.FunctionGroupCommands : Prop :=
  (∀ (s : State) (w : Wing) (init g : Nat), 1 ≤ g → g < 14 → s.dict.groups.length = 16 → 
    ∃ t, exec (.groupEnter w init g) s = .next t ∧
      if s.initiatorNs init = true ∧ s.nsWrites (0x2010 + g) 1 = false then t.dict.lastAbort = 0x06010000 ∧ (t.group g).st = (s.group g).st
      else if (s.group g).st = .entering ∨ (s.group g).st = .applying then (t.group g).st = (s.group g).st ∧ (t.group g).held = (s.group g).held ++ [(1, none)] ∧ (t.group g).deferred = true ∧ t.dict.lastAbort = 0 ∧ s.reports t .ports 0x22
      else if (s.group g).st = .running then
        (if (g = 7 ∨ g = 8) ∧ s.groupDrives g = true then (t.group g).st = (s.group g).st ∧ t.dict.lastAbort = 0x08000022
         else t.dict.lastAbort = 0 ∧ (t.group g).lastCmd = 1 ∧
          (if (g = 7 ∨ g = 8) ∧ s.groupEngineRuns g = true then (t.group g).st = .entering
           else (t.group g).st = .recess ∧ (t.group g).pend = [] ∧ (t.group g).pendVars = []))
      else if (s.group g).st = .recess ∨ (s.group g).st = .rejected then (t.group g).st = (s.group g).st ∧ t.dict.lastAbort = 0 ∧ (t.group g).lastCmd = 1
      else (t.group g).st = (s.group g).st ∧ t.dict.lastAbort = 0x08000022) ∧
  (∀ (s : State) (w : Wing) (init g : Nat), 1 ≤ g → g < 14 → s.dict.groups.length = 16 → 
    ∃ t, exec (.groupRestart w init g) s = .next t ∧
      if s.initiatorNs init = true ∧ s.nsWrites (0x2010 + g) 1 = false then t.dict.lastAbort = 0x06010000 ∧ (t.group g).st = (s.group g).st
      else if (s.group g).st = .entering ∨ (s.group g).st = .applying then (t.group g).st = (s.group g).st ∧ (t.group g).held = (s.group g).held ++ [(2, none)] ∧ (t.group g).deferred = true ∧ t.dict.lastAbort = 0 ∧ s.reports t .ports 0x22
      else if (s.group g).st = .recess ∨ (s.group g).st = .rejected then (t.group g).st = .validating ∧ (t.group g).joint = false ∧ (t.group g).lastCmd = 2 ∧ t.dict.lastAbort = 0
      else if (s.group g).st = .validating then (t.group g).st = .validating ∧ t.dict.lastAbort = 0
      else (t.group g).st = (s.group g).st ∧ t.dict.lastAbort = 0x08000022) ∧
  (∀ (s : State) (w : Wing) (init g : Nat), 1 ≤ g → g < 14 → s.dict.groups.length = 16 → 
    ∃ t, exec (.groupRestore w init g) s = .next t ∧
      if s.initiatorNs init = true ∧ s.nsWrites (0x2010 + g) 1 = false then t.dict.lastAbort = 0x06010000 ∧ (t.group g).st = (s.group g).st
      else if (s.group g).st = .entering ∨ (s.group g).st = .applying then (t.group g).st = (s.group g).st ∧ (t.group g).held = (s.group g).held ++ [(3, none)] ∧ (t.group g).deferred = true ∧ t.dict.lastAbort = 0 ∧ s.reports t .ports 0x22
      else if (s.group g).st = .recess ∨ (s.group g).st = .rejected then (t.group g).st = .recess ∧ (t.group g).pend = [] ∧ (t.group g).pendVars = [] ∧ t.dict.lastAbort = 0
      else (t.group g).st = (s.group g).st ∧ t.dict.lastAbort = 0x08000022) ∧
  (∀ (s : State) (g : Nat) (x : Option Finding), s.dict.groups.length = 16 → g < 14 → x = ((s.showBounds [g]).findings [g]).head? → s.dict.joint = none ∨ (s.group g).joint = false → 
    ∃ t, exec (.validationComplete g) s = .next t ∧
      if (s.group g).st ≠ .validating then t = s
      else (x = none → (t.group g).st = .applying ∧ t.bell.applyQ = s.bell.applyQ ++ [{ who := 4, what := g }]) ∧
        (∀ f ∈ x, (t.group g).st = .rejected ∧ (t.group g).valRes = f.word ∧ s.reports t .ports 0x21)) ∧
  (∀ (s : State) (g mask : Nat) (x : Option Finding), s.dict.groups.length = 16 → (s.group g).st = .validating → (s.group g).joint = true → s.dict.joint = some mask → x = ((s.showBounds (bitsOf 14 mask)).findings (bitsOf 14 mask)).head? → 
    ∃ t, exec (.validationComplete g) s = .next t ∧
      (x = none → (∀ k ∈ bitsOf 14 mask, (t.group k).st = .applying) ∧ t.bell.applyQ = s.bell.applyQ ++ [{ who := 4, what := 0xFF, mask := mask }]) ∧
      (∀ f ∈ x, (∀ k ∈ bitsOf 14 mask, (t.group k).st = .rejected ∧ (t.group k).valRes = f.word) ∧ t.dict.joint = none ∧ s.reports t .ports 0x21)) ∧
  (∀ (s : State) (w : Wing) (init mask : Nat), mask < 2 ^ 16 → s.dict.groups.length = 16 → 
    ∃ t, exec (.jointRestart w init mask) s = .next t ∧
      if s.initiatorNs init = true then t.dict.lastAbort = 0x06010000 ∧ t.dict.joint = s.dict.joint
      else if mask = 0 ∨ s.dict.joint.isSome = true ∨ (∃ g ∈ bitsOf 16 mask, s.groupOpen g = false) then t.dict.lastAbort = 0x08000022 ∧ t.dict.joint = s.dict.joint
      else t.dict.joint = some mask ∧ t.dict.lastAbort = 0 ∧ (∀ g ∈ bitsOf 16 mask, (t.group g).st = .validating ∧ (t.group g).joint = true))

/-- From a Secure initiator, any other ending with abort 0x0601_0000: STORE_PARAMETERS with its signature asks for the
class S record, RESTORE_DEFAULTS for a record of defaults of every fitted group; another value ends with 0x0609_0030.
ROLL_CALL of any initiator joins the assembly in progress, or asks for a barrier and a new one. A DESCRIPTION_REQUEST
of any initiator names the entry that DESCRIPTION_READ describes. Secure too: PROGRAM_DOWNLOAD holds the image of a
Wing in BOOT of a download boot, IMAGE_SLOT_WRITE of a slot no Wing uses asks for its record, and SEED_REQUEST of an
ACTIVE Wing with a RUNNING engine group, before any counter ran, starts the restore. SEED_COMPLETE shows its outcome:
1 without a usable slot, 2 for one too old, 3 for other ranges, 0 with its age once restored. -/
def Obligations.DictionaryManagement : Prop :=
  (∀ (s : State) (w : Wing) (init v : Nat), 
    ∃ t, exec (.storeParameters w init v) s = .next t ∧
      if s.initiatorNs init = true then t.dict.lastAbort = 0x06010000 ∧ t.lib = s.lib
      else if v % 2 ^ 32 ≠ 0x65766173 then t.dict.lastAbort = 0x06090030 ∧ t.lib = s.lib
      else if s.flag .LIB_STAT_READY = false then t.dict.lastAbort = 0x08000020 ∧ t.lib = s.lib
      else t.dict.lastAbort = 0 ∧ (s.ct.burst = true → t.lib.queue = s.lib.queue ++ [{ client := 2, area := 4, type := 2, payload := paramRecord 0 0 (s.entryList 0 s.storedBytes) }]) ∧ (s.lib.queue.length + s.lib.refused.length < 40 → t.requested { client := 2, area := 4, type := 2, payload := paramRecord 0 0 (s.entryList 0 s.storedBytes) } = true)) ∧
  (∀ (s : State) (w : Wing) (init v : Nat), s.dict.groups.length = 16 → 
    ∃ t, exec (.restoreDefaults w init v) s = .next t ∧
      if s.initiatorNs init = true then t.dict.lastAbort = 0x06010000 ∧ t.lib = s.lib
      else if v % 2 ^ 32 ≠ 0x64616F6C then t.dict.lastAbort = 0x06090030 ∧ t.lib = s.lib
      else t.dict.lastAbort = 0 ∧ (∀ g < 14, g = 0 ∨ (s.group g).st ≠ .notFitted → s.lib.queue.length + s.lib.refused.length < 40 → s.ct.burst = true →
        t.requested { client := if g = 8 then 3 else 2, area := 4, type := 2, payload := paramRecord g (s.group g).seq (s.entryList g s.defaultBytes), again := !s.flag .LIB_STAT_READY } = true)) ∧
  (∀ (s : State) (w : Wing) (init : Nat), 
    ∃ t, exec (.rollCall w init) s = .next t ∧
      if s.dict.rollCall.isSome = true then t.dict.rollCall = s.dict.rollCall ∧ t.bell = s.bell
      else if s.bellsRing = true then t.dict.rollCall = some w ∧ t.bell.barrierQ = s.bell.barrierQ ++ [{ who := 4, what := rollCallId }]
      else t.dict.summary = (s.answer 0).rollCallSummary w) ∧
  (∀ (s : State) (w : Wing) (init v : Nat), v < 2 ^ 32 → 
    ∃ t, exec (.descriptionRequest w init v) s = .next t ∧
      t.dict.descReq = v ∧ t.dict.lastAbort = 0) ∧
  (∀ (s : State) (w : Wing) (init : Nat), 
    ∃ t, exec (.descriptionRead w init) s = .next t ∧
      t.dict.answered = s.description ∧ t.dict.lastAbort = 0) ∧
  (∀ (s : State) (w : Wing) (init : Nat) (data : List Nat), 
    ∃ t, exec (.programDownload w init data) s = .next t ∧
      if s.initiatorNs init = true then t.dict.lastAbort = 0x06010000 ∧ t.sec.download = s.sec.download
      else if s.fld .STRAP_BOOTSEL = 2 ∧ s.wing w = .boot ∧ s.image w = none then t.sec.download = some (data.map (fun b => b % 256)) ∧ t.dict.lastAbort = 0
      else t.dict.lastAbort = 0x08000022 ∧ t.sec.download = s.sec.download) ∧
  (∀ (s : State) (w : Wing) (init slot : Nat) (data : List Nat), slot < 3 → 
    ∃ t, exec (.imageSlotWrite w init slot data) s = .next t ∧
      if s.initiatorNs init = true then t.dict.lastAbort = 0x06010000 ∧ t.lib = s.lib
      else if s.slotUsed slot = true then t.dict.lastAbort = 0x08000022 ∧ t.lib = s.lib
      else if s.flag .LIB_STAT_READY = false then t.dict.lastAbort = 0x08000020 ∧ t.lib = s.lib
      else t.dict.lastAbort = 0 ∧ (s.ct.burst = true → t.lib.queue = s.lib.queue ++ [{ client := 1, area := slot + 1, type := 1, payload := data.map (fun b => b % 256) }]) ∧ (s.lib.queue.length + s.lib.refused.length < 40 → t.requested { client := 1, area := slot + 1, type := 1, payload := data.map (fun b => b % 256) } = true)) ∧
  (∀ (s : State) (w : Wing) (init v : Nat), v < 256 → 
    ∃ t, exec (.seedRequest w init v) s = .next t ∧
      if s.initiatorNs init = true then t.dict.lastAbort = 0x06010000 ∧ t.dict.seeding = s.dict.seeding
      else if v ≠ 1 then t.dict.lastAbort = 0x06090030 ∧ t.dict.seeding = s.dict.seeding
      else if s.wing w = .active ∧ s.groupRunning (if w = .a then 7 else 8) = true ∧ s.pwm.counted = false ∧ s.dict.seeding = none then
        t.dict.seeding = some w ∧ t.dict.seedOutcome = 0xFFFF000F ∧ t.dict.lastAbort = 0
      else t.dict.lastAbort = 0x08000022 ∧ t.dict.seeding = s.dict.seeding) ∧
  (∀ (s : State) (w : Wing), s.dict.seeding = some w → 
    ∃ t, exec .seedComplete s = .next t ∧
      t.dict.seeding = none ∧ t.dict.seedAskers = [] ∧ (s.newestSlot = none → t.dict.seedOutcome = 0xFFFF0001) ∧
      (∀ p ∈ s.newestSlot, t.dict.seedOutcome = min ((s.tb - p.time) / 640000) 0xFFFF * 2 ^ 16 +
        (if s.fld .HP_STALE_FRESH_MS * 640000 < s.tb - p.time then 2 else if s.rangesMatch w p = false then 3 else 0)))

/-- A USDO read of an entry of the port's Wing answers what it reads, as far as the frame has room; one of the other
Wing's is forwarded, or ends with 0x0800_0020 while LINKFLT is 1; a fifth session ends with 0x0504_0005; a write of
0x2005:01 names the entry; a segmented write opens its session and goes on with the right toggle; a wrong one ends it
with 0x0503_0000, too many bytes with 0x0607_0010, a bulk transfer with 0x0504_0001, a discarded one with 0x0F00_0001
and the timeout with 0x0504_0000. An IDP_READ of the addressed Wing's entry answers its bytes and leaves the answer to
a repetition, or a stale epoch ends it with 0x0F00_0002. An IDP_WRITE of 0x2005:01 names the entry, a segment of an
incomplete one is kept, one with a stale epoch ends with 0x0F00_0002, out of order with 0x0607_0010; the transfer's
timeout drops it, a write with 0x0504_0000. REQUEST_FORWARD carries the oldest request to its Wing, or ends it with
0x0800_0020 while LINKFLT is 1. -/
def Obligations.DictionaryTransports : Prop :=
  (∀ (s : State) (p c i x room : Nat), s.usdoOn p = true → s.usdoSession p c = none → ¬(i = 0x2000 ∧ x = 1) → 
    ∃ t, exec (.usdoTransfer p c (.read i x room)) s = .next t ∧
      if 4 ≤ (s.dict.usdo.filter (fun u => u.port == p)).length then t.dict.lastAbort = 0x05040005
      else if (s.entryWing i).getD (s.portWing p) = s.portWing p then t.dict.lastAbort = (s.readEntry (s.portWing p) (portInit p) i x).1 ∧ ((s.readEntry (s.portWing p) (portInit p) i x).1 = 0 → t.dict.answered = (s.readEntry (s.portWing p) (portInit p) i x).2.take room)
      else if s.flag .HP_STAT_LINKFLT = true then t.dict.lastAbort = 0x08000020
      else t.dict.forwards.length = s.dict.forwards.length + 1) ∧
  (∀ (s : State) (p c v : Nat), s.usdoOn p = true → s.usdoSession p c = none → (s.dict.usdo.filter (fun u => u.port == p)).length < 4 → v < 2 ^ 32 → 
    ∃ t, exec (.usdoTransfer p c (.write 0x2005 1 (leBytes 4 v))) s = .next t ∧
      t.dict.descReq = v ∧ t.dict.lastAbort = 0 ∧ t.usdoSession p c = none) ∧
  (∀ (s : State) (p c i x n : Nat), s.usdoOn p = true → s.usdoSession p c = none → 
    ∃ t, exec (.usdoTransfer p c (.writeStart i x n)) s = .next t ∧
      if 4 ≤ (s.dict.usdo.filter (fun u => u.port == p)).length then t.dict.lastAbort = 0x05040005 ∧ t.usdoSession p c = none
      else t.usdoSession p c = some { port := p, client := c, epoch := s.fld .RING_EPOCH, index := i, sub := x, write := true, data := [], toggle := false, total := n }) ∧
  (∀ (s : State) (p c : Nat) (x : UsdoSession) (b : Bool) (l : List Nat), s.usdoOn p = true → s.usdoSession p c = some x → (x.data ++ l).length ≠ x.total ∨ x.aborted = true ∨ x.write = false ∨ b ≠ x.toggle → 
    ∃ t, exec (.usdoTransfer p c (.writeSegment b l)) s = .next t ∧
      if x.aborted = true then t.usdoSession p c = none ∧ t.dict.lastAbort = 0x0F000001
      else if x.waiting = true then t = s
      else if x.write = false then t.usdoSession p c = none ∧ t.dict.lastAbort = 0x05040001
      else if b ≠ x.toggle then t.usdoSession p c = none ∧ t.dict.lastAbort = 0x05030000
      else if x.total < (x.data ++ l).length then t.usdoSession p c = none ∧ t.dict.lastAbort = 0x06070010
      else t.usdoSession p c = some { x with data := x.data ++ l, toggle := !x.toggle }) ∧
  (∀ (s : State) (p c : Nat), s.usdoOn p = true → s.usdoSession p c = none → 
    ∃ t, exec (.usdoTransfer p c .unsupported) s = .next t ∧
      t.dict.lastAbort = 0x05040001) ∧
  (∀ (s : State) (p c : Nat), 
    ∃ t, exec (.usdoSessionTimeout p c) s = .next t ∧
      if s.usdoSession p c = none then t = s else t.usdoSession p c = none ∧ t.dict.lastAbort = 0x05040000) ∧
  (∀ (s : State) (p src udp : Nat) (h : IdpHead) (w : Wing), s.idpTakes p udp h 0 = true → s.awaited (.idp p src h.tag) = false → s.cached p src h.tag = none → s.idpWing p h.wing = some w → s.idpTransfer p src h.tag = none → h.offset = 0 → (s.entryWing h.index).getD w = w → ¬(h.index = 0x2000 ∧ h.sub = 1) → 
    ∃ t, exec (.idpRead p src udp h) s = .next t ∧
      if s.readEpochOk h = false then t.dict.lastAbort = 0x0F000002 ∧ t.dict.idp = s.dict.idp
      else ((s.readEntry w (portInit p) h.index h.sub).2.length ≤ 1400 → t.dict.lastAbort = (s.readEntry w (portInit p) h.index h.sub).1) ∧ ((s.readEntry w (portInit p) h.index h.sub).1 = 0 → (s.readEntry w (portInit p) h.index h.sub).2.length ≤ 1400 ∨ s.idpRunning p < 8 → t.dict.answered = (s.readEntry w (portInit p) h.index h.sub).2.take 1400) ∧
        ((s.readEntry w (portInit p) h.index h.sub).2.length ≤ 1400 → (t.cached p src h.tag).isSome = true)) ∧
  (∀ (s : State) (p src udp : Nat) (h : IdpHead) (a : Answer), s.idpTakes p udp h 0 = true → s.idpTransfer p src h.tag = none → s.awaited (.idp p src h.tag) = false → s.cached p src h.tag = some a → 
    ∃ t, exec (.idpRead p src udp h) s = .next t ∧
      t.dict.lastAbort = a.code ∧ t.dict.answered = a.data) ∧
  (∀ (s : State) (p src udp : Nat) (h : IdpHead) (w : Wing) (l : List Nat), s.idpTakes p udp h l.length = true → s.awaited (.idp p src h.tag) = false → s.cached p src h.tag = none → s.idpWing p h.wing = some w → s.idpTransfer p src h.tag = none → h.total ≠ l.length ∨ h.epoch ≠ s.fld .RING_EPOCH ∨ h.offset ≠ 0 → 
    ∃ t, exec (.idpWrite p src udp h l) s = .next t ∧
      t.dict.descReq = s.dict.descReq ∧
      (if h.epoch ≠ s.fld .RING_EPOCH then t.dict.lastAbort = 0x0F000002
       else if h.offset ≠ 0 ∨ h.total < l.length then t.dict.lastAbort = 0x06070010
       else if 8 ≤ s.idpRunning p then t.dict.lastAbort = 0x05040005
       else t.idpTransfer p src h.tag = some { port := p, source := src, tag := h.tag, write := true, index := h.index, sub := h.sub, total := h.total, data := l, last := s.tb })) ∧
  (∀ (s : State) (p src udp v : Nat) (h : IdpHead) (w : Wing), s.idpTakes p udp h 4 = true → s.awaited (.idp p src h.tag) = false → s.cached p src h.tag = none → s.idpWing p h.wing = some w → s.idpTransfer p src h.tag = none → h.epoch = s.fld .RING_EPOCH → h.offset = 0 → h.total = 4 → h.index = 0x2005 → h.sub = 1 → v < 2 ^ 32 → 
    ∃ t, exec (.idpWrite p src udp h (leBytes 4 v)) s = .next t ∧
      t.dict.descReq = v ∧ t.dict.lastAbort = 0) ∧
  (∀ (s : State) (p src tag : Nat), 
    ∃ t, exec (.idpTransferTimeout p src tag) s = .next t ∧
      if s.idpTransfer p src tag = none then t = s else t.idpTransfer p src tag = none ∧
        (∀ x ∈ s.idpTransfer p src tag, x.write = true → x.aborted = false → t.dict.lastAbort = 0x05040000)) ∧
  (∀ (s : State) (f : Forward) (l : List Forward) (src tag p : Nat), s.dict.forwards = f :: l → f.asker = .idp p src tag → f.data = none → ¬(f.index = 0x2000 ∧ f.sub = 1) → 
    ∃ t, exec .requestForward s = .next t ∧
      t.dict.forwards = l ∧ (if s.flag .HP_STAT_LINKFLT = true then t.dict.lastAbort = 0x08000020
      else (s.readEntry f.wing f.init f.index f.sub).2.length ≤ 1400 → t.dict.lastAbort = (s.readEntry f.wing f.init f.index f.sub).1 ∧
        ((s.readEntry f.wing f.init f.index f.sub).1 = 0 → t.dict.answered = (s.readEntry f.wing f.init f.index f.sub).2)))

/-- For a core that runs: INTERRUPT_CLAIM answers the offered source, clears its pending bit in both cores of the Wing
and marks it claimed, source 11 for the core alone; with none offered it answers 0. INTERRUPT_COMPLETE ends the claim.
MACHINE_TIMER is pending while the timebase is at or above the compare value; TUT_MTCMPL_WRITE is held and
TUT_MTCMPH_WRITE commits both words, alone the high one with the low as it stands. WFI stops the core's clock unless
an interrupt is pending. -/
def Obligations.TutorInterruptsAndTimer : Prop :=
  (∀ (s : State) (core : Nat) (x : Option Nat), s.coreRuns core = true → core < 4 → x = s.offered core → 
    ∃ t, exec (.interruptClaim core) s = .next t ∧
      (x = none → t.tut.lastRead = 0 ∧ t.fld .TUT_IPEND core = s.fld .TUT_IPEND core) ∧
      (∀ k ∈ x, t.tut.lastRead = k ∧ t.bit .TUT_IPEND core k = false ∧ t.claimed core k = true ∧
        (t.bit .TUT_IPEND (core / 2 * 2) k = (if k = 11 ∧ core % 2 = 1 then s.bit .TUT_IPEND (core / 2 * 2) k else false)) ∧
        (t.bit .TUT_IPEND (core / 2 * 2 + 1) k = (if k = 11 ∧ core % 2 = 0 then s.bit .TUT_IPEND (core / 2 * 2 + 1) k else false)))) ∧
  (∀ (s : State) (core src : Nat), s.coreRuns core = true → core < 4 → src < 32 → 
    ∃ t, exec (.interruptComplete core src) s = .next t ∧
      t.claimed core src = false) ∧
  (∀ (s : State) (core : Nat), core < 4 → 
    ∃ t, exec (.machineTimer core) s = .next t ∧
      t.tut.mtip.testBit core = decide (s.tut.mtcmp.getD core 0 ≤ s.tb)) ∧
  (∀ (s : State) (core v : Nat), s.coreRuns core = true → core < 4 → s.tut.mtcmpHold.length = 4 → 
    ∃ t, exec (.tutMtcmplWrite core v) s = .next t ∧
      t.tut.mtcmpHold.getD core none = some (v % 2 ^ 32) ∧ t.tut.mtcmp = s.tut.mtcmp) ∧
  (∀ (s : State) (core v : Nat), s.coreRuns core = true → core < 4 → s.tut.mtcmp.length = 4 → s.tut.mtcmpHold.length = 4 → 
    ∃ t, exec (.tutMtcmphWrite core v) s = .next t ∧
      (∀ lo ∈ s.tut.mtcmpHold.getD core none, t.tut.mtcmp.getD core 0 = lo + v % 2 ^ 32 * 2 ^ 32) ∧ t.tut.mtcmpHold.getD core none = none ∧
      (s.tut.mtcmpHold.getD core none = none → t.tut.mtcmp.getD core 0 = s.tut.mtcmp.getD core 0 % 2 ^ 32 + v % 2 ^ 32 * 2 ^ 32) ∧
      t.tut.mtip.testBit core = decide (t.tut.mtcmp.getD core 0 ≤ s.tb)) ∧
  (∀ (s : State) (core : Nat), s.coreRuns core = true → 
    ∃ t, exec (.wfi core) s = .next t ∧
      if s.anyPending core = true then t = s else t.tut.wfi.testBit core = true ∧ t.regs = s.regs)

/-- Of a core that runs: GATEWAY_READ and GATEWAY_WRITE set BUSY and OP, or are discarded with event 0x01 while BUSY.
GATEWAY_DONE of a read places the entry's bytes from OFS on in the buffer and shows DONE and the length, or the abort
code, 0x0F00_0002 for a stale epoch; of a write of the current epoch it carries it out. AMO_SATCHEL that the core may
make answers the old word of Satchel and stores the result; LR sets the reservation, SC stores and answers 0 only with
it; a region without atomics ends with cause 7, a misaligned word with 6, or 4 for LR. REGISTER_WRITE that the core
may make stores to DTCM or Satchel, sets a register, is ignored at an undefined offset and ends with cause 7 where
misaligned in the blocks. -/
def Obligations.GatewayAndStores : Prop :=
  (∀ (s : State) (core : Nat) (b : Bool), s.coreRuns core = true → 
    ∃ t, exec (.gatewayRead core b) s = .next t ∧
      if s.flag .GW_CTRL_BUSY core = false then t.fld .GW_CTRL_BUSY core = 1 ∧ t.fld .GW_CTRL_OP core = 1 ∧ t.flag .GW_CTRL_IEN core = b
      else t.fld .GW_CTRL_OP core = s.fld .GW_CTRL_OP core ∧ s.tells t .tutor 0x01) ∧
  (∀ (s : State) (core : Nat) (b : Bool), s.coreRuns core = true → 
    ∃ t, exec (.gatewayWrite core b) s = .next t ∧
      if s.flag .GW_CTRL_BUSY core = false then t.fld .GW_CTRL_BUSY core = 1 ∧ t.fld .GW_CTRL_OP core = 2 ∧ t.flag .GW_CTRL_IEN core = b
      else t.fld .GW_CTRL_OP core = s.fld .GW_CTRL_OP core ∧ s.tells t .tutor 0x01) ∧
  (∀ (s : State) (core : Nat) (x : List Nat), s.flag .GW_CTRL_BUSY core = true → s.awaited (.core core) = false → core < 4 → s.fld .GW_CTRL_OP core = 1 → s.fld .GW_EPOCH core = 0xFFFFFFFF ∨ s.fld .GW_EPOCH core = s.fld .RING_EPOCH → (s.entryWing (s.fld .GW_ENTRY_INDEX core)).getD (coreWing core) = coreWing core → ¬(s.fld .GW_ENTRY_INDEX core = 0x2000 ∧ s.fld .GW_ENTRY_SUB core = 1) → x = ((s.readEntry (coreWing core) core (s.fld .GW_ENTRY_INDEX core) (s.fld .GW_ENTRY_SUB core)).2.drop (s.fld .GW_OFS core)).take (s.fld .GW_LEN_LEN core) → x ≠ [] → s.fld .GW_BUF core % 8 = 0 → 0x11000000 ≤ s.fld .GW_BUF core → s.fld .GW_BUF core + x.length ≤ 0x11080000 → s.coreNs core = false → 
    ∃ t, exec (.gatewayDone core) s = .next t ∧
      t.fld .GW_CTRL_BUSY core = 0 ∧ t.fld .GW_CTRL_DONE core = 1 ∧ t.fld .GW_ABORT core = (s.readEntry (coreWing core) core (s.fld .GW_ENTRY_INDEX core) (s.fld .GW_ENTRY_SUB core)).1 % 2 ^ 32 ∧ ((s.readEntry (coreWing core) core (s.fld .GW_ENTRY_INDEX core) (s.fld .GW_ENTRY_SUB core)).1 = 0 → t.fld .GW_LEN_LEN core = x.length ∧
        (∀ i < x.length, t.tut.dtcm.get ((coreWing core).num, s.fld .GW_BUF core - 0x11000000 + i) 0 = x.getD i 0 % 256))) ∧
  (∀ (s : State) (core : Nat), s.flag .GW_CTRL_BUSY core = true → s.awaited (.core core) = false → s.fld .GW_CTRL_OP core = 1 → s.fld .GW_EPOCH core ≠ 0xFFFFFFFF → s.fld .GW_EPOCH core ≠ s.fld .RING_EPOCH → s.fld .GW_ENTRY_INDEX core ≠ 0x2000 → s.fld .GW_ENTRY_INDEX core ≠ 0x2001 → 
    ∃ t, exec (.gatewayDone core) s = .next t ∧
      t.fld .GW_CTRL_BUSY core = 0 ∧ t.fld .GW_CTRL_DONE core = 1 ∧ t.fld .GW_ABORT core = 0x0F000002) ∧
  (∀ (s : State) (core : Nat) (l : List Nat), s.flag .GW_CTRL_BUSY core = true → s.awaited (.core core) = false → s.fld .GW_CTRL_OP core = 2 → s.fld .GW_EPOCH core = s.fld .RING_EPOCH → s.fld .GW_OFS core = 0 → s.gatewayBuffer core 4 = 0 → s.fld .GW_LEN_LEN core = 4 → s.coreRead core (s.fld .GW_BUF core) 4 = some l → s.fld .GW_ENTRY_INDEX core = 0x2005 → s.fld .GW_ENTRY_SUB core = 1 → 
    ∃ t, exec (.gatewayDone core) s = .next t ∧
      t.fld .GW_CTRL_BUSY core = 0 ∧ t.fld .GW_CTRL_DONE core = 1 ∧ t.fld .GW_ABORT core = 0 ∧ t.dict.descReq = ofLe (l.map (fun b => b % 256))) ∧
  (∀ (s : State) (core addr v : Nat) (op : AmoOp) (l : List Nat), s.mayStore core addr (s.targetNs core addr false) → core < 4 → s.tut.lr.length = 4 → 0x20000000 ≤ addr → addr + 4 ≤ 0x20400000 → addr % 4 = 0 → s.coreRead core addr 4 = some l → op ≠ .sc → 
    ∃ t, exec (.amoSatchel core addr op v) s = .next t ∧
      t.tut.lastRead = ofLe l ∧ (if op = .lr then t.tut.lr.getD core none = some (1, (addr - 0x20000000) / 16) ∧ t.satchel = s.satchel
       else t.coreRead core addr 4 = some (leBytes 4 (amoResult op (ofLe l) (v % 2 ^ 32))))) ∧
  (∀ (s : State) (core addr v : Nat) (l : List Nat), s.mayStore core addr (s.targetNs core addr false) → core < 4 → s.tut.lr.length = 4 → 0x20000000 ≤ addr → addr + 4 ≤ 0x20400000 → addr % 4 = 0 → s.coreRead core addr 4 = some l → 
    ∃ t, exec (.amoSatchel core addr .sc v) s = .next t ∧
      t.tut.lr.getD core none = none ∧ (if s.tut.lr.getD core none = some (1, (addr - 0x20000000) / 16) then t.tut.lastRead = 0 ∧ t.coreRead core addr 4 = some (leBytes 4 (v % 2 ^ 32))
        else t.tut.lastRead = 1 ∧ t.satchel = s.satchel)) ∧
  (∀ (s : State) (core addr v : Nat) (op : AmoOp), s.mayStore core addr (s.targetNs core addr false) → core < 4 → granuleOf addr = none ∨ addr % 4 ≠ 0 → s.tut.mcause.length = 4 → s.tut.mtval.length = 4 → 
    ∃ t, exec (.amoSatchel core addr op v) s = .next t ∧
      t.tut.mcause.getD core 0 = (if granuleOf addr = none then 7 else if op = .lr then 4 else 6) ∧ t.tut.mtval.getD core 0 = addr ∧ t.tut.lastRead = s.tut.lastRead) ∧
  (∀ (s : State) (core addr v : Nat), s.mayStore core addr (s.targetNs core addr false) → 0x20000000 ≤ addr → addr + 4 ≤ 0x20400000 → addr % 4 = 0 → s.satBad (addr - 0x20000000) = false → 
    ∃ t, exec (.registerWrite core addr v) s = .next t ∧
      t.coreRead core addr 4 = some (leBytes 4 (v % 2 ^ 32))) ∧
  (∀ (s : State) (core addr v : Nat), s.mayStore core addr (s.targetNs core addr false) → 0x11000000 ≤ addr → addr + 4 ≤ 0x11080000 → addr % 4 = 0 → 
    ∃ t, exec (.registerWrite core addr v) s = .next t ∧
      ∀ l ∈ s.coreRead core addr 4, t.coreRead core addr 4 = some (leBytes 4 (v % 2 ^ 32))) ∧
  (∀ (s : State) (core p v : Nat), p < 2 → s.mayStore core (0x4B000104 + 0x40 * p) (s.portNs p) → 
    ∃ t, exec (.registerWrite core (0x4B000104 + 0x40 * p) v) s = .next t ∧
      t.fld .ETH_MACL p = v % 2 ^ 32) ∧
  (∀ (s : State) (core addr v : Nat), s.mayStore core addr (s.targetNs core addr false) → 0x45500000 ≤ addr → addr < 0x4E001000 → addr % 4 = 0 → regAt core addr = none → 
    ∃ t, exec (.registerWrite core addr v) s = .next t ∧
      t = s) ∧
  (∀ (s : State) (core addr v : Nat), s.mayStore core addr (s.targetNs core addr false && !metrologyReg addr) → core < 4 → 0x40000000 ≤ addr → addr < 0x4E001000 → addr % 4 ≠ 0 → s.tut.mcause.length = 4 → s.tut.mtval.length = 4 → 
    ∃ t, exec (.registerWrite core addr v) s = .next t ∧
      t.tut.mcause.getD core 0 = 7 ∧ t.tut.mtval.getD core 0 = addr ∧ t.regs = s.regs)

/-- With VIO3 present, else as in reset, each TAP instruction stands in the instruction register: IDCODE and a TAP
reset capture the identification code, EXTEST and SAMPLE_PRELOAD take the boundary cells, and only EXTEST drives the
balls, BYPASS captures 0. DMI of a hart that is not enabled answers unavailable and does nothing; an enabled halted
one resumes, loads, in a block with the read's own effect (RC fields clear), and reads and writes its registers; one
that runs gives outcome 4. DEBUG_HALT halts an enabled core. LEHALT_WRITE, Secure, of a core in debug mode sets
LEHALT, of another leaves it. -/
def Obligations.TapAndDebug : Prop :=
  (∀ (s : State), 
    ∃ t, exec .tapReset s = .next t ∧
      t.tut.tapIr = 0x01 ∧ t.tut.tapDr = s.idcode ∧ t.tut.extest = false) ∧
  (∀ (s : State), 
    ∃ t, exec .idcode s = .next t ∧
      t.tut.tapIr = 0x01 ∧ t.tut.tapDr = s.idcode ∧ t.tut.extest = false) ∧
  (∀ (s : State) (cells : Nat), 
    ∃ t, exec (.extest cells) s = .next t ∧
      t.tut.boundary = cells ∧ t.tut.extest = s.bankOn 3 ∧ (if s.bankOn 3 = true then t.tut.tapIr = 0x00 else t.tut.tapIr = 0x01 ∧ t.tut.tapDr = s.idcode)) ∧
  (∀ (s : State) (cells : Nat), 
    ∃ t, exec (.samplePreload cells) s = .next t ∧
      t.tut.boundary = cells ∧ t.tut.extest = false ∧ (if s.bankOn 3 = true then t.tut.tapIr = 0x02 else t.tut.tapIr = 0x01 ∧ t.tut.tapDr = s.idcode)) ∧
  (∀ (s : State), 
    ∃ t, exec .dtmcs s = .next t ∧
      t.tut.extest = false ∧ (if s.bankOn 3 = true then t.tut.tapIr = 0x10 else t.tut.tapIr = 0x01 ∧ t.tut.tapDr = s.idcode)) ∧
  (∀ (s : State), 
    ∃ t, exec .bypass s = .next t ∧
      t.tut.extest = false ∧ (if s.bankOn 3 = true then t.tut.tapIr = 0x1F ∧ t.tut.tapDr = 0 else t.tut.tapIr = 0x01 ∧ t.tut.tapDr = s.idcode)) ∧
  (∀ (s : State) (hart : Nat) (x : DmiOp), s.hartEnabled hart = false → 
    ∃ t, exec (.dmi hart x) s = .next t ∧
      t.tut.dmUnavail = true ∧ t.tut.halted = s.tut.halted ∧ t.regs = s.regs ∧ t.tut.cmderr = s.tut.cmderr) ∧
  (∀ (s : State) (hart : Nat), s.hartEnabled hart = true → 
    ∃ t, exec (.dmi hart .resume) s = .next t ∧
      t.tut.dmUnavail = false ∧ t.tut.halted.testBit hart = false) ∧
  (∀ (s : State) (hart a : Nat), s.hartEnabled hart = true → s.tut.halted.testBit hart = true → s.coreRuns hart = true → (s.coreNs hart = true → s.targetNs hart a true = true) → 0x40000000 ≤ a → a < 0x4E001000 → a % 4 = 0 → ¬(0x45400000 ≤ a ∧ a < 0x454E0000) → 
    ∃ t, exec (.dmi hart (.load a 4)) s = .next t ∧
      ∀ r ∈ regAt hart a, s.regAbsent r.1 r.2 = false → ¬ r.1.base ∈ [0x4C00101C, 0x4C001040, 0x4E00002C, 0x42000110, 0x43000114, 0x47000020] →
        t.tut.lastRead = s.regWord r.1 r.2 ∧ t.tut.cmderr = 0 ∧ ∀ f ∈ r.1.fields, f.fld.acc = .rc → t.fld f.fld r.2 = 0) ∧
  (∀ (s : State) (hart a : Nat) (l : List Nat), s.hartEnabled hart = true → s.tut.halted.testBit hart = true → s.coreRuns hart = true → (s.coreNs hart = true → s.targetNs hart a true = true) → 0x11000000 ≤ a → a + 4 ≤ 0x11080000 → a % 4 = 0 → s.coreRead hart a 4 = some l → 
    ∃ t, exec (.dmi hart (.load a 4)) s = .next t ∧
      t.tut.lastRead = ofLe l ∧ t.tut.cmderr = 0) ∧
  (∀ (s : State) (hart n v : Nat), s.hartEnabled hart = true → n < 64 → 
    ∃ t, exec (.dmi hart (.writeReg (0x1000 + n) v)) s = .next t ∧
      if s.tut.halted.testBit hart = true then t.tut.cmderr = 0 ∧ t.tut.xf.get (hart, n) 0 = (if n = 0 then s.tut.xf.get (hart, n) 0 else v) else t.tut.cmderr = 4 ∧ t.tut.xf = s.tut.xf) ∧
  (∀ (s : State) (hart n : Nat), s.hartEnabled hart = true → n < 64 → 
    ∃ t, exec (.dmi hart (.readReg (0x1000 + n))) s = .next t ∧
      if s.tut.halted.testBit hart = true then t.tut.cmderr = 0 ∧ t.tut.lastRead = s.tut.xf.get (hart, n) 0 else t.tut.cmderr = 4) ∧
  (∀ (s : State) (core : Nat), 
    ∃ t, exec (.debugHalt core) s = .next t ∧
      if s.hartEnabled core = true then t.tut.halted.testBit core = true ∧ t.tut.dmUnavail = false else t.tut.halted = s.tut.halted ∧ t.tut.dmUnavail = true) ∧
  (∀ (s : State) (core v : Nat), s.mayStore core 0x4E000018 false → core < 4 → 
    ∃ t, exec (.lehaltWrite core v) s = .next t ∧
      if s.tut.halted.testBit core = true then t.fld .TUT_DBG_LEHALT (core / 2 * 2) = v % 64 ∧ t.fld .TUT_DBG_LEHALT (core / 2 * 2 + 1) = v % 64 else t = s)

/-- For every command c, queue r and state s whose queue is c followed by r, a step of s is exec of c on s with the
queue r. -/
def Obligations.StepRunsTheFrontCommand : Prop :=
  ∀ (c : Instr) (r : List Instr) (s : State), s.pending = c :: r → 
    step s = exec c (s.setPending r)

/-- With an empty queue and no reset asked for, outside a whole-die reset and with the Edge clock running, a step
answers a next state whose timebase is one more modulo 2^64 and whose rate accumulator has added CLK_RATE, and only
rcFields and tickFields change. In a reset, and with the Edge clock stopped, only the Caretaker's oscillators count:
RTC_SUB.FRAC and the lease counts. A held lease is one less at the end of each RC cycle. A reset that a clock failure
asked for begins. That an empty queue is a tick is the model's choice (log entry 1). -/
def Obligations.IdleStepIsOneEdgeTick : Prop :=
  (∀ (s : State), s.pending = [] → s.rst.requested = none → s.rst.phase = .none → s.edgeStopped = false → 
    ∃ t, step s = .next t ∧ t.tb = (s.tb + 1) % 2 ^ 64 ∧ t.clk.rateAcc = s.clk.rateAcc + 25 * s.sfld .CLK_RATE ∧
      (∀ f i, f ∉ rcFields ++ tickFields → t.fld f i = s.fld f i) ∧ (∀ p ∈ tickKept, p.same s t)) ∧
  (∀ (s : State), s.pending = [] → s.rst.requested = none → s.rst.phase ≠ .none ∨ s.edgeStopped = true → 
    ∃ t, step s = .next t ∧ (∀ f i, f ∉ rcFields → t.fld f i = s.fld f i) ∧ (∀ p, p ∉ [Part.regs, .ct, .dup] → p.same s t)) ∧
  (∀ (s : State) (w : Wing), s.pending = [] → s.rst.requested = none → s.ct.running = true → s.pass w = true → 
    ∃ t, step s = .next t ∧ t.votedLease w = s.votedLease w - (if 39 ≤ s.ct.rcPhase then 1 else 0)) ∧
  (∀ (s : State) (cause : Nat), s.pending = [] → s.rst.requested = some cause → s.ct.powerGood = true → 
    ∃ t, step s = .next t ∧ s.resetBegun t cause)

/-- The state after reset has canonical memories, fields within their widths, tables of their lengths and an empty
queue. Every guard and comparator is tripped, every module has OUTEN, CNT_EN and ARM at 0 and both pads low, no Wing
holds the pass, both Wings are in BOOT, groups 1 to 13 are in RECESS, OVR_LIMIT is 3, the window comparators'
thresholds stand at 0 and 0xFFF, the guards' at 0x8000 and 0x7FFF, the machine timer compares are all ones, and rings
are disabled with 16 descriptors. -/
def Obligations.ResetState : Prop :=
  (
    State.reset.Tidy ∧ State.reset.InWidth ∧ State.reset.Shaped ∧ State.reset.pending = []) ∧
  (∀ (n : Nat), n < 24 → 
    State.reset.fld .MOD_GCFG_TRIPPED n = 1 ∧ State.reset.fld .MOD_GTHR_HI n = 0x7FFF ∧ State.reset.fld .MOD_GTHR_LO n = 0x8000 ∧
      State.reset.fld .PWM_RUN_OUTEN n = 0 ∧ State.reset.fld .PWM_RUN_CNT_EN n = 0 ∧ State.reset.fld .PWM_RUN_ARM n = 0 ∧
      State.reset.padHigh n = false) ∧
  (∀ (c : Nat), c < 48 → 
    State.reset.fld .WC_CFG_TRIPPED c = 1 ∧ State.reset.fld .WC_CFG_LATCH c = 1 ∧ State.reset.fld .WC_THR_HI c = 0xFFF ∧
      State.reset.fld .WC_THR_LO c = 0) ∧
  (∀ (g : Nat), 1 ≤ g → g ≤ 13 → 
    (State.reset.dict.groups.getD g {}).st = .recess) ∧
  (∀ (q : Nat), q < 16 → 
    State.reset.fld .RING_CFG_EN q = 0 ∧ State.reset.ringSize q = 16 ∧ State.reset.fld .RING_STAT_HALT q = 0) ∧
  (
    State.reset.fld .HP_STAT_HOLDER = 0 ∧ State.reset.wing .a = .boot ∧ State.reset.wing .b = .boot ∧
    State.reset.fld .LE_CTRL_OVR_LIMIT = 3 ∧ State.reset.fld .TUT_MTCMPL = 0xFFFFFFFF ∧ State.reset.fld .TUT_MTCMPH = 0xFFFFFFFF ∧
    State.reset.fld .HP_LEASE_LEASE = 200)

/-- For every one of the 316 commands, with any operands, and every state, exec answers a next state, and that state's
queue is the one before. -/
def Obligations.CommandsComplete : Prop :=
  ∀ (c : Instr) (s : State), 
    ∃ t, exec c s = .next t ∧ t.pending = s.pending

/-- For every state, reached or not, whose memories stand in canonical form, whose register fields hold numbers of
their widths and whose tables have the lengths the spec gives the block, a step that answers a next state gives one in
which all three hold again. -/
def Obligations.StepKeepsTheInvariant : Prop :=
  ∀ (s t : State), s.Tidy → s.InWidth → s.Shaped → step s = .next t → 
    t.Tidy ∧ t.InWidth ∧ t.Shaped

/-- For every command c, state s, register field f that c's footprint does not name (Instr.mayWrite) and unit i, the
next state of exec shows f of unit i as before. -/
def Obligations.FieldFrame : Prop :=
  ∀ (c : Instr) (s t : State) (f : Fld) (i : Nat), exec c s = .next t → c.mayWrite f = false → 
    t.fld f i = s.fld f i

/-- For every command c, state s and part p of the state other than the registers that c's footprint does not name
(Instr.parts), p of the next state is p of the state before: Satchel, the Tutor memories, the engines, the modules,
the rings and the rest. -/
def Obligations.PartFrame : Prop :=
  ∀ (c : Instr) (s t : State) (p : Part), exec c s = .next t → p ≠ .regs → p ∉ c.parts → 
    p.same s t

/-- For every command that is a core's access to a register or a memory (Instr.target), where the core runs, its PMP
lets the access through, it is Non-secure and the target Secure, exec answers a next state in which the core has its
access fault, 7 for a store and 5 for a load, mtval and SEC_VIOLA hold the address and SEC_VIOL the core, and no field
but those of a violation and its event, no memory, no engine and no other part of the state changes. -/
def Obligations.WorldCheck : Prop :=
  ∀ (c : Instr) (s : State) (core addr cause : Nat), c.target s = some (core, addr, false, cause) → s.coreNs core = true → s.coreRuns core = true → s.pmpAllows core cause addr = true → core < 4 → core < s.tut.mcause.length → core < s.tut.mtval.length → addr < 2 ^ 32 → 
    ∃ t, exec c s = .next t ∧ s.barred t core addr cause

/-- An event of a block with room on Q10 appends one record: its sequence number one more than the last modulo 2^32,
the fault epoch, the block's number and world, the count of events lost before it, and its payload of 128 bits; the
lost count starts again. On a full Q10 no record is added, the sequence number counts, the lost count and
RING_STAT10.DROP count and saturate. -/
def Obligations.EventQueue : Prop :=
  (∀ (s : State) (b : Blk) (payload : Nat), s.ports.q10.length < s.q10Cap → 
    ∃ e, (s.emit b payload).ports.q10 = s.ports.q10 ++ [e] ∧ e.eseq = (s.ports.eseq + 1) % 2 ^ 32 ∧ e.epoch = s.fld .RING_EPOCH ∧
      e.block = b.num ∧ e.ns = s.blockNs b ∧ e.lost = s.ports.q10Lost ∧ e.payload = payload % 2 ^ 128 ∧
      (s.emit b payload).ports.eseq = e.eseq ∧ (s.emit b payload).ports.q10Lost = 0) ∧
  (∀ (s : State) (b : Blk) (payload : Nat), s.q10Cap ≤ s.ports.q10.length → 
    (s.emit b payload).ports.q10 = s.ports.q10 ∧ (s.emit b payload).ports.eseq = (s.ports.eseq + 1) % 2 ^ 32 ∧
      (s.emit b payload).ports.q10Lost = min (s.ports.q10Lost + 1) 0xFFFF ∧
      (s.emit b payload).fld .RING_STAT_DROP 10 = satInc (Fld.width .RING_STAT_DROP) (s.fld .RING_STAT_DROP 10))

/-- An advance of the fault epoch makes RING_EPOCH one more modulo 2^32 and records reason, new epoch, timebase and
detail as the last discard. Every USDO and IDP transfer in progress is marked to end with the abort, the answer cache
is empty, a group in Recess loses its pending set and shows DISCARDED, a validation is abandoned, and a group that is
applying or running keeps its set. -/
def Obligations.EpochAdvance : Prop :=
  (∀ (s : State) (reason detail : Nat), 
    (s.advanceEpoch reason detail).fld .RING_EPOCH = (s.fld .RING_EPOCH + 1) % 2 ^ 32 ∧
      (s.advanceEpoch reason detail).dict.discard =
        { reason := reason, epoch := (s.fld .RING_EPOCH + 1) % 2 ^ 32, time := s.tb, detail := detail } ∧
      (s.advanceEpoch reason detail).dict.cache = [] ∧
      (∀ u ∈ (s.advanceEpoch reason detail).dict.usdo, u.aborted = true) ∧
      (∀ u ∈ (s.advanceEpoch reason detail).dict.idp, u.aborted = true)) ∧
  (∀ (s : State) (reason detail g : Nat), (s.group g).st = .recess → 
    ((s.advanceEpoch reason detail).group g).st = .recess ∧ ((s.advanceEpoch reason detail).group g).pend = [] ∧
      ((s.advanceEpoch reason detail).group g).discarded = true) ∧
  (∀ (s : State) (reason detail g : Nat), (s.group g).st = .validating → 
    ((s.advanceEpoch reason detail).group g).st = .recess ∧ ((s.advanceEpoch reason detail).group g).pend = [] ∧
      ((s.advanceEpoch reason detail).group g).discarded = true) ∧
  (∀ (s : State) (reason detail g : Nat), (s.group g).st = .applying ∨ (s.group g).st = .running → 
    ((s.advanceEpoch reason detail).group g).st = (s.group g).st ∧ ((s.advanceEpoch reason detail).group g).pend = (s.group g).pend)

/-- An Edge tick makes the timebase one more, modulo 2^64. No command but SYNC_IN_EDGE and RESET_PHASE_ADVANCE changes
it: the phase stepper leaves the count. ALIGN moves it forward, by less than SYNC_PER, to the next count congruent to
SYNC_OFS modulo SYNC_PER; in the other modes SYNC_IN_EDGE leaves it. A reset's phases leave it or load the larger of
the RTC time and the held count plus 115200, after a cold start the RTC time. A core's read of TB_LO that its world
and PMP allow returns the low word and latches the high word into TB_HI. -/
def Obligations.TimebaseNeverJumpsBackwards : Prop :=
  (∀ (s : State), 
    s.edgeTick.tb = (s.tb + 1) % 2 ^ 64) ∧
  (∀ (s : State), s.pending = [] → s.rst.requested = none → s.rst.phase = .none → s.edgeStopped = false → 
    ∃ t, step s = .next t ∧ t.tb = (s.tb + 1) % 2 ^ 64) ∧
  (∀ (c : Instr) (s t : State), exec c s = .next t → (∀ x, c ≠ .syncInEdge x) → (∀ x y, c ≠ .resetPhaseAdvance x y) → 
    t.tb = s.tb) ∧
  (∀ (s : State) (cycle : Nat), s.fld .CLK_SYNC_MODE = 1 → s.anyPass = false → s.bankOn 3 = true → s.edgeStopped = false → 0 < s.fld .SYNC_PER → 
    ∃ t, exec (.syncInEdge cycle) s = .next t ∧
      ∃ k < s.fld .SYNC_PER, t.tb = (s.tb + k) % 2 ^ 64 ∧
      (s.tb + k) % s.fld .SYNC_PER = s.fld .SYNC_OFS % s.fld .SYNC_PER) ∧
  (∀ (s : State) (cycle : Nat), s.fld .CLK_SYNC_MODE ≠ 1 ∨ s.anyPass = true → 
    ∃ t, exec (.syncInEdge cycle) s = .next t ∧
      t.tb = s.tb) ∧
  (∀ (s : State) (mask bootsel : Nat), 
    ∃ t, exec (.resetPhaseAdvance mask bootsel) s = .next t ∧
      (t.tb = s.tb ∨ (s.clk.coldLoad = true ∧ t.tb = t.rtcTicks % 2 ^ 64) ∨
      t.tb = max t.rtcTicks (s.clk.held + 115200) % 2 ^ 64)) ∧
  (∀ (s : State) (core : Nat), s.loads core .caretaker 0x4C00101C → 
    ∃ t, exec (.tbLoRead core) s = .next t ∧
      t.tut.lastRead = s.tb % 2 ^ 32 ∧ t.fld .TB_HI = s.tb / 2 ^ 32 % 2 ^ 32)

/-- No command lowers the security version count, and none changes it unless a fuse command runs that is not ENROL,
TRANSFER or VENDOR_OFF: the count never advances by itself. A Wing without an image boots none while every image of
its slots has a version below the count. ADVANCE to a count above the version of an image that an ACTIVE, WARM, READY
or COLD Wing runs ends with RESULT 4. -/
def Obligations.SecurityVersionNeverAdvancesByItself : Prop :=
  (∀ (c : Instr) (s t : State), exec c s = .next t → s.InWidth → 
    s.fld .SEC_FUSE_SVN ≤ t.fld .SEC_FUSE_SVN) ∧
  (∀ (c : Instr) (s t : State), exec c s = .next t → (∀ core cmd v, s.sec.running = some (core, cmd, v) → cmd = 1 ∨ cmd = 2 ∨ cmd = 3) → 
    t.fld .SEC_FUSE_SVN = s.fld .SEC_FUSE_SVN) ∧
  (∀ (s : State) (w : Wing), s.image w = none → (∀ slot < 4, (s.slotImage slot).all (fun i => decide (imgField i 12 1 < s.fld .SEC_FUSE_SVN)) = true) → 
    ∃ t, exec (.bootImageVerify w) s = .next t ∧
      t.image w = none) ∧
  (∀ (s : State) (core : Nat), s.reaches core .security 0x4A00001C → s.flag .SEC_CMDST_BUSY = false → s.flag .CT_STAT_MAIN = true → (s.servingImages.any (fun i => i.svn < s.fld .SEC_CMDA % 256)) = true → 
    ∃ t, exec (.advance core) s = .next t ∧
      t.sec.running = s.sec.running ∧ t.fld .SEC_CMDST_RESULT = 4)

/-- No command but VPF_GOOD, VPF_FAIL, TEST_PULSE_CHECK, FILTERED_DEMAND, DISCREPANCY_FAULT, READBACK_FAULT,
PREFECT_CLOCK_CHECK, PREFECT_FAULT_CLEAR, PREFECT_RELEASE_READY, FORCE_RELEASE, PREFECT_SET_DELIVERY and
COMMISSIONING_COMPLETE changes the Prefect's state: takeover, handover, Recess, Split mode and a whole-die reset have
no effect on it. A write of 1 to OUTEN by a core of an entitled Wing while a fitted Prefect is not CLEAR leaves OUTEN.
-/
def Obligations.PrefectStandsAlone : Prop :=
  (∀ (c : Instr) (s t : State), exec c s = .next t → c ≠ .vpfGood → c ≠ .vpfFail → (∀ a b d e, c ≠ .testPulseCheck a b d e) → (∀ a, c ≠ .filteredDemand a) → (∀ a, c ≠ .discrepancyFault a) → (∀ a, c ≠ .readbackFault a) → (∀ a, c ≠ .prefectClockCheck a) → c ≠ .prefectFaultClear → c ≠ .prefectReleaseReady → c ≠ .forceRelease → c ≠ .prefectSetDelivery → c ≠ .commissioningComplete → 
    t.fld .PF_STAT_STATE = s.fld .PF_STAT_STATE) ∧
  (∀ (s : State) (core m : Nat), s.reaches core .pwm (pwmAddr m 4) → s.hasPm m = true → s.isEntitled (coreWing core) m = true → s.prefectBlocks = true → 
    ∃ t, exec (.pwmOutenWrite core m true) s = .next t ∧
      t.fld .PWM_RUN_OUTEN m = s.fld .PWM_RUN_OUTEN m ∧ t.pwm = s.pwm)

/-- The completion of a descriptor with ERRCODE 0x01 or 0x02 sets HALT of its ring, ERR holds the code and event 0x0C
is queued; with 0x04 or 0x05 HALT and ERR stay. While every enabled ring is halted the ring engine takes no
descriptor, and a halted ring offers no free descriptor to its port. The owner's RING_HALT_CLEAR ends the halt and
leaves TAIL, which has passed the failed descriptor since the device took it. -/
def Obligations.RingsHaltOnErrors : Prop :=
  (∀ (s : State) (q i : Nat) (d : Desc), d.errcode = 1 ∨ d.errcode = 2 → 
    (s.finish q i d).fld .RING_STAT_HALT q = 1 ∧ (s.finish q i d).fld .RING_STAT_ERR q = d.errcode ∧ s.tells (s.finish q i d) .ports 0x0C) ∧
  (∀ (s : State) (q i : Nat) (d : Desc), d.errcode = 4 ∨ d.errcode = 5 → 
    (s.finish q i d).fld .RING_STAT_HALT q = s.fld .RING_STAT_HALT q ∧ (s.finish q i d).fld .RING_STAT_ERR q = s.fld .RING_STAT_ERR q) ∧
  (∀ (s : State), ∀ q < 16, s.flag .RING_CFG_EN q = true → s.flag .RING_STAT_HALT q = true → 
    exec .descriptorProcess s = .next s) ∧
  (∀ (s : State) (q : Nat), s.flag .RING_STAT_HALT q = true → 
    s.freeDesc q = none ∧ s.ringWorks q = false) ∧
  (∀ (s : State) (q : Nat), s.nextRing = some q → 
    ∃ t, exec .descriptorProcess s = .next t ∧ (t.fld .RING_EPOCH = s.fld .RING_EPOCH →
      t.fld .RING_TAIL_TAIL q = (s.fld .RING_TAIL_TAIL q % s.ringSize q + 1) % s.ringSize q % 2 ^ Fld.width .RING_TAIL_TAIL)) ∧
  (∀ (s : State) (core q : Nat), s.mayStore core (ringAddr q 0x10) (s.ringNs q) → q < 16 → (s.ringOwners q).contains (coreWing core) = true → 
    ∃ t, exec (.ringHaltClear core q) s = .next t ∧
      t.fld .RING_STAT_HALT q = 0 ∧ t.fld .RING_TAIL_TAIL q = s.fld .RING_TAIL_TAIL q)

/-- When the device takes a descriptor whose EPOCH differs from RING_EPOCH, that descriptor completes with ERR and
ERRCODE 0x03; nothing is taken, no byte of Satchel outside the descriptor's 32 bytes changes, no field changes but
TAIL of that ring and the interrupt its owner asked for, and no part of the state but the registers, the ring engine's
place, the interrupt's wake-up, Satchel and its check marks. -/
def Obligations.StaleDescriptorsComplete : Prop :=
  ∀ (s : State) (q i : Nat) (d : Desc), s.nextRing = some q → i = s.fld .RING_TAIL_TAIL q % s.ringSize q → s.desc q i = some d → d.epoch ≠ s.fld .RING_EPOCH → (s.satWrite (s.descAddr q i) d.bytes).1 = true → 
    ∃ t, exec .descriptorProcess s = .next t ∧ (t.desc q i).any (fun e => !e.own && e.done && e.err && e.errcode == 3) = true ∧
      (∀ x ∈ t.ports.taken, x ∈ s.ports.taken) ∧ t.ports.q10 = s.ports.q10 ∧
      (∀ a, a < s.descAddr q i - 0x20000000 ∨ s.descAddr q i - 0x20000000 + 32 ≤ a → t.satByte a = s.satByte a) ∧
      (∀ f k, ¬(f = .RING_TAIL_TAIL ∧ k = q) → f ≠ .TUT_IPEND → t.fld f k = s.fld f k) ∧
      (∀ p, p ∉ [Part.regs, .ports, .tut, .satchel, .integ] → p.same s t)

/-- Writes to one module's shadow words, ARM and interrupt setting, to one channel's delay, one comparator's
thresholds, one ring's configuration, HEAD and HALT, and one core's machine timer compare, a link change and a bus-off
recovery of one port, and the start of one engine's run, leave the same settings of every other unit. An arithmetic or
control instruction of one engine leaves every other engine whole. -/
def Obligations.InstanceFrames : Prop :=
  (∀ (c : Instr) (s t : State) (n k : Nat), exec c s = .next t → c.arithmeticOf = some n → k ≠ n → 
    t.engine k = s.engine k ∧ ∀ i, t.engWord k i = s.engWord k i) ∧
  (∀ (s : State) (core m w v j : Nat), j ≠ m → 
    ∃ t, exec (.pwmShadowHighWrite core m w v) s = .next t ∧
      t.fld .PWM_SHD0L j = s.fld .PWM_SHD0L j ∧ t.fld .PWM_SHD0H j = s.fld .PWM_SHD0H j ∧ t.fld .PWM_SHD1L j = s.fld .PWM_SHD1L j ∧
      t.fld .PWM_SHD1H j = s.fld .PWM_SHD1H j ∧ t.fld .PWM_SHD2L j = s.fld .PWM_SHD2L j ∧ t.fld .PWM_SHD2H j = s.fld .PWM_SHD2H j) ∧
  (∀ (s : State) (core m j : Nat) (on : Bool), j ≠ m → 
    ∃ t, exec (.pwmArmWrite core m on) s = .next t ∧
      t.fld .PWM_RUN_ARM j = s.fld .PWM_RUN_ARM j) ∧
  (∀ (s : State) (core m isel presc j : Nat) (ien clr : Bool), j ≠ m → 
    ∃ t, exec (.pwmIntWrite core m isel presc ien clr) s = .next t ∧
      t.fld .PWM_INT_ISEL j = s.fld .PWM_INT_ISEL j ∧ t.fld .PWM_INT_PRESC j = s.fld .PWM_INT_PRESC j ∧
      t.fld .PWM_INT_IEN j = s.fld .PWM_INT_IEN j ∧ t.fld .PWM_INT_IFLAG j = s.fld .PWM_INT_IFLAG j) ∧
  (∀ (s : State) (core n fdly j : Nat), j ≠ n → 
    ∃ t, exec (.modFdlyWrite core n fdly) s = .next t ∧
      t.fld .MOD_FDLY_FDLY j = s.fld .MOD_FDLY_FDLY j ∧ t.sd.getD j {} = s.sd.getD j {}) ∧
  (∀ (s : State) (core c lo hi j : Nat), j ≠ c → 
    ∃ t, exec (.wcThrWrite core c lo hi) s = .next t ∧
      t.fld .WC_THR_LO j = s.fld .WC_THR_LO j ∧ t.fld .WC_THR_HI j = s.fld .WC_THR_HI j) ∧
  (∀ (s : State) (core q v j : Nat), j ≠ q → 
    ∃ t, exec (.ringCfgWrite core q v) s = .next t ∧
      t.fld .RING_CFG_SIZE_L2 j = s.fld .RING_CFG_SIZE_L2 j ∧ t.fld .RING_CFG_OWNER j = s.fld .RING_CFG_OWNER j ∧
      t.fld .RING_CFG_EN j = s.fld .RING_CFG_EN j ∧ t.fld .RING_CFG_IRQ j = s.fld .RING_CFG_IRQ j) ∧
  (∀ (s : State) (core q v j : Nat), j ≠ q → j ≠ 10 → 
    ∃ t, exec (.ringHeadWrite core q v) s = .next t ∧
      t.fld .RING_HEAD_HEAD j = s.fld .RING_HEAD_HEAD j) ∧
  (∀ (s : State) (core q j : Nat), j ≠ q → 
    ∃ t, exec (.ringHaltClear core q) s = .next t ∧
      t.fld .RING_STAT_HALT j = s.fld .RING_STAT_HALT j) ∧
  (∀ (s : State) (core v j : Nat), j ≠ core → 
    ∃ t, exec (.tutMtcmphWrite core v) s = .next t ∧
      t.tut.mtcmp.getD j 0 = s.tut.mtcmp.getD j 0 ∧ t.fld .TUT_MTCMPH j = s.fld .TUT_MTCMPH j ∧ t.fld .TUT_MTCMPL j = s.fld .TUT_MTCMPL j) ∧
  (∀ (s : State) (p spd j : Nat) (up fdx : Bool), j ≠ p → 
    ∃ t, exec (.ethLinkChange p up spd fdx) s = .next t ∧
      t.fld .ETH_STAT_LINK j = s.fld .ETH_STAT_LINK j ∧ t.fld .ETH_STAT_SPD j = s.fld .ETH_STAT_SPD j ∧ t.fld .ETH_STAT_FDX j = s.fld .ETH_STAT_FDX j) ∧
  (∀ (s : State) (p j : Nat), j ≠ p → 
    ∃ t, exec (.canBusOffRecovery p) s = .next t ∧
      t.fld .CAN_STAT_STATE j = s.fld .CAN_STAT_STATE j ∧ t.fld .CAN_STAT_TEC j = s.fld .CAN_STAT_TEC j ∧ t.fld .CAN_STAT_REC j = s.fld .CAN_STAT_REC j) ∧
  (∀ (s : State) (n j : Nat), j ≠ n → 
    ∃ t, exec (.lessonRunStart n) s = .next t ∧
      t.engine j = s.engine j ∧ t.fld .LE_STAT_RUNNING j = s.fld .LE_STAT_RUNNING j)

/-- REGISTER_WRITE to a Satchel or DTCM address and AMO_SATCHEL leave every byte of Satchel, and of both Wings' DTCM,
outside the four bytes at their address. ST of an engine that executes leaves every word of every engine's memory but
the one or two words at its ADDR. A received Ethernet frame that its ring takes leaves every byte of Satchel outside
the buffer's first bytes and the descriptor at HEAD. -/
def Obligations.StoreFrames : Prop :=
  (∀ (s t : State) (core addr v a : Nat), 0x20000000 ≤ addr → addr < 0x20400000 → exec (.registerWrite core addr v) s = .next t → a < addr - 0x20000000 ∨ addr - 0x20000000 + 4 ≤ a → 
    t.satByte a = s.satByte a ∧ t.tut.dtcm = s.tut.dtcm) ∧
  (∀ (s t : State) (core addr v w a : Nat), 0x11000000 ≤ addr → addr < 0x11080000 → exec (.registerWrite core addr v) s = .next t → w ≠ (coreWing core).num ∨ a < addr - 0x11000000 ∨ addr - 0x11000000 + 4 ≤ a → 
    t.tut.dtcm.get (w, a) 0 = s.tut.dtcm.get (w, a) 0 ∧ t.satchel = s.satchel) ∧
  (∀ (s t : State) (core addr v a : Nat) (op : AmoOp), 0x20000000 ≤ addr → exec (.amoSatchel core addr op v) s = .next t → a < addr - 0x20000000 ∨ addr - 0x20000000 + 4 ≤ a → 
    t.satByte a = s.satByte a ∧ t.tut.dtcm = s.tut.dtcm) ∧
  (∀ (s t : State) (core addr v w a : Nat) (op : AmoOp), addr < 0x20000000 → exec (.amoSatchel core addr op v) s = .next t → w ≠ (coreWing core).num ∨ a < addr - 0x11000000 ∨ addr - 0x11000000 + 4 ≤ a → 
    t.tut.dtcm.get (w, a) 0 = s.tut.dtcm.get (w, a) 0 ∧ t.satchel = s.satchel) ∧
  (∀ (s t : State) (n ra addr k i : Nat) (wide : Bool), s.executes n → (s.rg n ra).finite = true → s.sound n (0x2000 + addr) (if wide then 2 else 1) → exec (.st n ra addr wide) s = .next t → ¬(k = n ∧ 0x2000 + addr ≤ i ∧ i < 0x2000 + addr + (if wide then 2 else 1)) → 
    t.engWord k i = s.engWord k i) ∧
  (∀ (s t : State) (p ts a : Nat) (frame : List Nat) (d : Desc), p < 2 → s.freeDesc (2 * p) = some d → s.receives (2 * p) frame.length frame → exec (.ethFrameReceive p frame true ts) s = .next t → a < d.addr - 0x20000000 ∨ d.addr - 0x20000000 + frame.length ≤ a → a < s.descAddr (2 * p) (s.fld .RING_HEAD_HEAD (2 * p)) - 0x20000000 ∨ s.descAddr (2 * p) (s.fld .RING_HEAD_HEAD (2 * p)) - 0x20000000 + 32 ≤ a → 
    t.satByte a = s.satByte a)
end

