-- ==== Sys2Proof/Laws/Sparse.lean ====
section
/-!
SUPPORT. Sparse tables: what a key reads as after a write, and the canonical form, which every operation keeps.
-/
namespace Sys2Proof.Machine

theorem keyLt_iff (a b : Key) : keyLt a b = true ↔ a.1 < b.1 ∨ a.1 = b.1 ∧ a.2 < b.2 := by
  simp [keyLt]

theorem keyLt_trans {a b c : Key} (h : keyLt a b = true) (g : keyLt b c = true) : keyLt a c = true := by
  rw [keyLt_iff] at *; omega

theorem keyLt_total {a b : Key} (h : a ≠ b) (g : keyLt a b = false) : keyLt b a = true := by
  have g' : ¬ keyLt a b = true := by simp [g]
  rw [keyLt_iff] at *
  have : a.1 ≠ b.1 ∨ a.2 ≠ b.2 := by
    by_contra hc
    simp only [not_or, not_not] at hc
    exact h (Prod.ext hc.1 hc.2)
  omega

theorem keyLt_irrefl (a : Key) : keyLt a a = false := by simp [keyLt]

/-- The canonical form in the library's terms. -/
theorem SMap.wf_iff (d : Key → Nat) (m : SMap) :
    m.wf d = true ↔ m.Pairwise (fun a b => keyLt a.1 b.1 = true) ∧ ∀ e ∈ m, e.2 ≠ d e.1 := by
  induction m with
  | nil => simp [SMap.wf]
  | cons e r ih =>
    obtain ⟨k, v⟩ := e
    cases r with
    | nil => simp [SMap.wf]
    | cons e' r =>
      obtain ⟨k', v'⟩ := e'
      simp only [SMap.wf, Bool.and_eq_true, bne_iff_ne, ih]
      constructor
      · rintro ⟨⟨hv, hk⟩, hp, hd⟩
        refine ⟨List.pairwise_cons.2 ⟨?_, hp⟩, ?_⟩
        · intro e he
          rcases List.mem_cons.1 he with rfl | he
          · exact hk
          · exact keyLt_trans hk ((List.pairwise_cons.1 hp).1 e he)
        · intro e he
          rcases List.mem_cons.1 he with rfl | he
          · exact hv
          · exact hd e he
      · rintro ⟨hp, hd⟩
        have hp' := List.pairwise_cons.1 hp
        exact ⟨⟨hd _ List.mem_cons_self, hp'.1 _ List.mem_cons_self⟩, hp'.2,
          fun e he => hd e (List.mem_cons_of_mem _ he)⟩

theorem SMap.erase_eq (m : SMap) (k : Key) : m.erase k = m.filter (fun e => k ≠ e.1) := by
  induction m with
  | nil => rfl
  | cons e r ih =>
    simp only [SMap.erase, List.filter_cons, ih]
    by_cases h : k = e.1 <;> simp [h]

@[simp] theorem SMap.get_nil (k : Key) (d : Nat) : SMap.get [] k d = d := rfl

theorem SMap.get_erase (m : SMap) (k k' : Key) (d : Nat) :
    (m.erase k).get k' d = if k' = k then d else m.get k' d := by
  induction m with
  | nil => simp [SMap.erase]
  | cons e r ih =>
    simp only [SMap.erase]
    by_cases h : k = e.1
    · simp only [h, if_true]
      rw [← h, ih]
      by_cases g : k' = k
      · simp [g]
      · simp [SMap.get, g, ← h]
    · simp only [h, if_false, SMap.get, ih]
      by_cases g : k' = e.1
      · have : k' ≠ k := fun x => h (x ▸ g)
        simp [g, Ne.symm h]
      · simp [g]

theorem SMap.get_insert (m : SMap) (k k' : Key) (d v : Nat) :
    (m.insert k v).get k' d = if k' = k then v else m.get k' d := by
  induction m with
  | nil => simp [SMap.insert, SMap.get]
  | cons e r ih =>
    simp only [SMap.insert]
    by_cases h : k = e.1
    · simp only [h, if_true, SMap.get]
      by_cases g : k' = e.1 <;> simp [g]
    · simp only [h, if_false]
      split
      · simp only [SMap.get]
      · simp only [SMap.get, ih]
        by_cases g : k' = e.1
        · simp [g, Ne.symm h]
        · simp [g]

/-- A read of the key just written gives the value, where `d` is what an unlisted key reads as. -/
@[simp] theorem SMap.get_set_self (m : SMap) (k : Key) (d v : Nat) : (m.set k d v).get k d = v := by
  unfold SMap.set
  split
  · simp [SMap.get_erase, *]
  · simp [SMap.get_insert]

/-- A write leaves every other key as it was. -/
theorem SMap.get_set_ne (m : SMap) {k k' : Key} (d d' v : Nat) (h : k' ≠ k) : (m.set k d v).get k' d' = m.get k' d' := by
  unfold SMap.set
  split
  · simp [SMap.get_erase, h]
  · simp [SMap.get_insert, h]

theorem SMap.get_set (m : SMap) (k k' : Key) (d v : Nat) :
    (m.set k d v).get k' d = if k' = k then v else m.get k' d := by
  by_cases h : k' = k
  · subst h; simp
  · simp [h, SMap.get_set_ne]

theorem SMap.get_filter (m : SMap) (p : Nat → Bool) (k : Key) (d : Nat) :
    SMap.get (m.filter (fun e => p e.1.1)) k d = if p k.1 then m.get k d else d := by
  induction m with
  | nil => simp
  | cons e r ih =>
    simp only [List.filter_cons]
    by_cases hk : k = e.1
    · by_cases hp : p e.1.1
      · simp [hp, SMap.get, hk]
      · subst hk; simp [hp, ih]
    · by_cases hp : p e.1.1
      · simp [hp, SMap.get, hk, ih]
      · simp [hp, SMap.get, hk, ih]

theorem SMap.wf_filter {d : Key → Nat} {m : SMap} (p : Key × Nat → Bool) (h : m.wf d = true) :
    SMap.wf d (m.filter p) = true := by
  rw [SMap.wf_iff] at *
  exact ⟨h.1.filter _, fun e he => h.2 e (List.mem_of_mem_filter he)⟩

theorem SMap.wf_erase {d : Key → Nat} {m : SMap} (k : Key) (h : m.wf d = true) : (m.erase k).wf d = true := by
  rw [SMap.erase_eq]; exact SMap.wf_filter _ h

theorem SMap.mem_insert {m : SMap} {k : Key} {v : Nat} {e : Key × Nat} (h : e ∈ m.insert k v) : e = (k, v) ∨ e ∈ m := by
  induction m with
  | nil => simpa [SMap.insert] using h
  | cons x r ih =>
    simp only [SMap.insert] at h
    split at h
    · rcases List.mem_cons.1 h with h | h
      · exact .inl h
      · exact .inr (List.mem_cons_of_mem _ h)
    · split at h
      · rcases List.mem_cons.1 h with h | h
        · exact .inl h
        · exact .inr h
      · rcases List.mem_cons.1 h with h | h
        · exact .inr (by rw [h]; exact List.mem_cons_self)
        · rcases ih h with h | h
          · exact .inl h
          · exact .inr (List.mem_cons_of_mem _ h)

theorem SMap.wf_insert {d : Key → Nat} {m : SMap} {k : Key} {v : Nat} (hv : v ≠ d k) (h : m.wf d = true) :
    (m.insert k v).wf d = true := by
  rw [SMap.wf_iff] at *
  refine ⟨?_, fun e he => ?_⟩
  · obtain ⟨h, -⟩ := h
    induction m with
    | nil => simp [SMap.insert]
    | cons e r ih =>
      have h' := List.pairwise_cons.1 h
      simp only [SMap.insert]
      split
      · rename_i hk
        exact List.pairwise_cons.2 ⟨fun x hx => hk ▸ h'.1 x hx, h'.2⟩
      · rename_i hk
        split
        · rename_i hl
          refine List.pairwise_cons.2 ⟨fun x hx => ?_, h⟩
          rcases List.mem_cons.1 hx with rfl | hx
          · exact hl
          · exact keyLt_trans hl (h'.1 x hx)
        · rename_i hl
          refine List.pairwise_cons.2 ⟨fun x hx => ?_, ih h'.2⟩
          rcases SMap.mem_insert hx with rfl | hx
          · exact keyLt_total hk (by simpa using hl)
          · exact h'.1 x hx
  · rcases SMap.mem_insert he with rfl | he
    · exact hv
    · exact h.2 e he

/-- A write keeps the canonical form, where it is told what the key reads as unlisted. -/
theorem SMap.wf_set {d : Key → Nat} {m : SMap} (k : Key) (v : Nat) (h : m.wf d = true) : (m.set k (d k) v).wf d = true := by
  unfold SMap.set
  split
  · exact SMap.wf_erase k h
  · exact SMap.wf_insert ‹_› h

theorem foldSet_wf {α : Type} (k : α → Key) (v : α → Nat) (l : List α) {m : SMap} (h : m.wf (fun _ => 0) = true) :
    SMap.wf (fun _ => 0) (l.foldl (fun m i => m.set (k i) 0 (v i)) m) = true := by
  induction l generalizing m with
  | nil => exact h
  | cons i r ih => exact ih (SMap.wf_set (d := fun _ => 0) _ _ h)

theorem putBytes_wf {m : SMap} (k o : Nat) (l : List Nat) (h : m.wf (fun _ => 0) = true) :
    (putBytes m k o l).wf (fun _ => 0) = true := by
  unfold putBytes
  generalize List.range l.length = r
  induction r generalizing m with
  | nil => exact h
  | cons i r ih => exact ih (SMap.wf_set (d := fun _ => 0) _ _ h)

end Sys2Proof.Machine
end

