-- ==== Sys2Proof/Laws/Fields.lean ====
section
/-!
SUPPORT. Register fields: what a write of one leaves in it and in every other, and the parts of State it leaves alone.
-/
namespace Sys2Proof.Machine

theorem Fld.ctorIdx_inj {f g : Fld} (h : f.ctorIdx = g.ctorIdx) : f = g := by
  have := congrArg Fld.ofNat h
  simpa [Fld.ofNat_ctorIdx] using this

theorem Fld.key_inj {f g : Fld} {i j : Nat} (h : f.key i = g.key j) : f = g ∧ i = j := by
  simp only [Fld.key, Prod.mk.injEq] at h
  exact ⟨Fld.ctorIdx_inj h.1, h.2⟩

theorem Fld.ctorIdx_lt (f : Fld) : f.ctorIdx < 700 := by
  cases f <;> exact Nat.le_of_ble_eq_true rfl

theorem Fld.resetWord_lt (f : Fld) : f.resetWord < 2 ^ f.width := by
  have h : ∀ n < 700, (Fld.ofNat n).resetWord < 2 ^ (Fld.ofNat n).width := by decide +kernel
  rw [← Fld.ofNat_ctorIdx f]
  exact h _ f.ctorIdx_lt

theorem getD_lt {l : List Nat} {b : Nat} (h : ∀ x ∈ l, x < b) (hb : 0 < b) (i : Nat) : l.getD i 0 < b := by
  by_cases hi : i < l.length
  · rw [List.getD_eq_getElem _ _ hi]; exact h _ (List.getElem_mem hi)
  · rw [List.getD_eq_default _ _ (by omega)]; exact hb

/-- Every Reset column fits its field. -/
theorem Fld.reset_lt (f : Fld) (i : Nat) : f.reset i < 2 ^ f.width := by
  unfold Fld.reset
  split
  · exact getD_lt (by decide) (by decide) i
  · split <;> decide
  · exact getD_lt (by decide) (by decide) i
  · exact getD_lt (by decide) (by decide) i
  · exact getD_lt (by decide) (by decide) i
  · exact Nat.mod_lt i (by decide)
  · exact Fld.resetWord_lt f

end Sys2Proof.Machine
end

