-- ==== Sys2Proof/Laws/State.lean ====
section
/-!
SUPPORT. State as a record: what each named update leaves alone, part by part, and what it writes, so that no later proof
unfolds a record update.
-/
namespace Sys2Proof.Machine

section
variable (s : State)

/-! ### Register fields -/

@[simp] theorem State.setFlag_eq (f : Fld) (i : Nat) (b : Bool) : s.setFlag f i b = s.setFld f i b.toNat := rfl
@[simp] theorem State.setBit_eq (f : Fld) (i b : Nat) (v : Bool) :
    s.setBit f i b v = s.setFld f i (setBitTo (s.fld f i) b v) := rfl
@[simp] theorem State.count_eq (f : Fld) (i : Nat) : s.count f i = s.setFld f i (satInc f.width (s.fld f i)) := rfl

/-- A read of the field just written gives the value in the field's width. -/
@[simp] theorem State.fld_setFld_self (f : Fld) (i v : Nat) : (s.setFld f i v).fld f i = v % 2 ^ f.width := by
  simp [State.fld, State.setFld]

/-- A write leaves every other field alone. -/
theorem State.fld_setFld_ne {f g : Fld} {i j : Nat} (v : Nat) (h : ¬ (g = f ∧ j = i)) :
    (s.setFld f i v).fld g j = s.fld g j := by
  unfold State.fld State.setFld
  exact SMap.get_set_ne _ _ _ _ (fun e => h (Fld.key_inj e))

@[simp] theorem State.fld_setFld (f g : Fld) (i j v : Nat) :
    (s.setFld f i v).fld g j = if g = f ∧ j = i then v % 2 ^ f.width else s.fld g j := by
  by_cases h : g = f ∧ j = i
  · obtain ⟨rfl, rfl⟩ := h; simp
  · simp only [h, if_false]; exact s.fld_setFld_ne v h

/-! ### setFld -/

@[simp] theorem State.setFld_pending (f : Fld) (i v : Nat) : (s.setFld f i v).pending = s.pending := rfl
@[simp] theorem State.setFld_tb (f : Fld) (i v : Nat) : (s.setFld f i v).tb = s.tb := rfl
@[simp] theorem State.setFld_freeCtr (f : Fld) (i v : Nat) : (s.setFld f i v).freeCtr = s.freeCtr := rfl
@[simp] theorem State.setFld_rst (f : Fld) (i v : Nat) : (s.setFld f i v).rst = s.rst := rfl
@[simp] theorem State.setFld_bell (f : Fld) (i v : Nat) : (s.setFld f i v).bell = s.bell := rfl
@[simp] theorem State.setFld_fab (f : Fld) (i v : Nat) : (s.setFld f i v).fab = s.fab := rfl
@[simp] theorem State.setFld_dup (f : Fld) (i v : Nat) : (s.setFld f i v).dup = s.dup := rfl
@[simp] theorem State.setFld_sec (f : Fld) (i v : Nat) : (s.setFld f i v).sec = s.sec := rfl
@[simp] theorem State.setFld_ports (f : Fld) (i v : Nat) : (s.setFld f i v).ports = s.ports := rfl
@[simp] theorem State.setFld_dict (f : Fld) (i v : Nat) : (s.setFld f i v).dict = s.dict := rfl
@[simp] theorem State.setFld_tut (f : Fld) (i v : Nat) : (s.setFld f i v).tut = s.tut := rfl
@[simp] theorem State.setFld_satchel (f : Fld) (i v : Nat) : (s.setFld f i v).satchel = s.satchel := rfl
@[simp] theorem State.setFld_ct (f : Fld) (i v : Nat) : (s.setFld f i v).ct = s.ct := rfl
@[simp] theorem State.setFld_clk (f : Fld) (i v : Nat) : (s.setFld f i v).clk = s.clk := rfl
@[simp] theorem State.setFld_sar (f : Fld) (i v : Nat) : (s.setFld f i v).sar = s.sar := rfl
@[simp] theorem State.setFld_integ (f : Fld) (i v : Nat) : (s.setFld f i v).integ = s.integ := rfl
@[simp] theorem State.setFld_lib (f : Fld) (i v : Nat) : (s.setFld f i v).lib = s.lib := rfl
@[simp] theorem State.setFld_sd (f : Fld) (i v : Nat) : (s.setFld f i v).sd = s.sd := rfl
@[simp] theorem State.setFld_trip (f : Fld) (i v : Nat) : (s.setFld f i v).trip = s.trip := rfl
@[simp] theorem State.setFld_pwm (f : Fld) (i v : Nat) : (s.setFld f i v).pwm = s.pwm := rfl
@[simp] theorem State.setFld_gate (f : Fld) (i v : Nat) : (s.setFld f i v).gate = s.gate := rfl
@[simp] theorem State.setFld_eng (f : Fld) (i v : Nat) : (s.setFld f i v).eng = s.eng := rfl
@[simp] theorem State.setFld_ship (f : Fld) (i v : Nat) : (s.setFld f i v).ship = s.ship := rfl
@[simp] theorem State.setFld_bur (f : Fld) (i v : Nat) : (s.setFld f i v).bur = s.bur := rfl
@[simp] theorem State.setFld_pf (f : Fld) (i v : Nat) : (s.setFld f i v).pf = s.pf := rfl

/-! ### reads -/

@[simp] theorem State.reads_pending (v : Nat) : (s.reads v).pending = s.pending := rfl
@[simp] theorem State.reads_regs (v : Nat) : (s.reads v).regs = s.regs := rfl
@[simp] theorem State.reads_tb (v : Nat) : (s.reads v).tb = s.tb := rfl
@[simp] theorem State.reads_freeCtr (v : Nat) : (s.reads v).freeCtr = s.freeCtr := rfl
@[simp] theorem State.reads_rst (v : Nat) : (s.reads v).rst = s.rst := rfl
@[simp] theorem State.reads_bell (v : Nat) : (s.reads v).bell = s.bell := rfl
@[simp] theorem State.reads_fab (v : Nat) : (s.reads v).fab = s.fab := rfl
@[simp] theorem State.reads_dup (v : Nat) : (s.reads v).dup = s.dup := rfl
@[simp] theorem State.reads_sec (v : Nat) : (s.reads v).sec = s.sec := rfl
@[simp] theorem State.reads_ports (v : Nat) : (s.reads v).ports = s.ports := rfl
@[simp] theorem State.reads_dict (v : Nat) : (s.reads v).dict = s.dict := rfl
@[simp] theorem State.reads_satchel (v : Nat) : (s.reads v).satchel = s.satchel := rfl
@[simp] theorem State.reads_ct (v : Nat) : (s.reads v).ct = s.ct := rfl
@[simp] theorem State.reads_clk (v : Nat) : (s.reads v).clk = s.clk := rfl
@[simp] theorem State.reads_sar (v : Nat) : (s.reads v).sar = s.sar := rfl
@[simp] theorem State.reads_integ (v : Nat) : (s.reads v).integ = s.integ := rfl
@[simp] theorem State.reads_lib (v : Nat) : (s.reads v).lib = s.lib := rfl
@[simp] theorem State.reads_sd (v : Nat) : (s.reads v).sd = s.sd := rfl
@[simp] theorem State.reads_trip (v : Nat) : (s.reads v).trip = s.trip := rfl
@[simp] theorem State.reads_pwm (v : Nat) : (s.reads v).pwm = s.pwm := rfl
@[simp] theorem State.reads_gate (v : Nat) : (s.reads v).gate = s.gate := rfl
@[simp] theorem State.reads_eng (v : Nat) : (s.reads v).eng = s.eng := rfl
@[simp] theorem State.reads_ship (v : Nat) : (s.reads v).ship = s.ship := rfl
@[simp] theorem State.reads_bur (v : Nat) : (s.reads v).bur = s.bur := rfl
@[simp] theorem State.reads_pf (v : Nat) : (s.reads v).pf = s.pf := rfl
@[simp] theorem State.fld_reads (v : Nat) (x : Fld) (j : Nat) : (s.reads v).fld x j = s.fld x j := rfl

/-! ### coreFault -/

@[simp] theorem State.coreFault_pending (core cause addr : Nat) : (s.coreFault core cause addr).pending = s.pending := rfl
@[simp] theorem State.coreFault_regs (core cause addr : Nat) : (s.coreFault core cause addr).regs = s.regs := rfl
@[simp] theorem State.coreFault_tb (core cause addr : Nat) : (s.coreFault core cause addr).tb = s.tb := rfl
@[simp] theorem State.coreFault_freeCtr (core cause addr : Nat) : (s.coreFault core cause addr).freeCtr = s.freeCtr := rfl
@[simp] theorem State.coreFault_rst (core cause addr : Nat) : (s.coreFault core cause addr).rst = s.rst := rfl
@[simp] theorem State.coreFault_bell (core cause addr : Nat) : (s.coreFault core cause addr).bell = s.bell := rfl
@[simp] theorem State.coreFault_fab (core cause addr : Nat) : (s.coreFault core cause addr).fab = s.fab := rfl
@[simp] theorem State.coreFault_dup (core cause addr : Nat) : (s.coreFault core cause addr).dup = s.dup := rfl
@[simp] theorem State.coreFault_sec (core cause addr : Nat) : (s.coreFault core cause addr).sec = s.sec := rfl
@[simp] theorem State.coreFault_ports (core cause addr : Nat) : (s.coreFault core cause addr).ports = s.ports := rfl
@[simp] theorem State.coreFault_dict (core cause addr : Nat) : (s.coreFault core cause addr).dict = s.dict := rfl
@[simp] theorem State.coreFault_satchel (core cause addr : Nat) : (s.coreFault core cause addr).satchel = s.satchel := rfl
@[simp] theorem State.coreFault_ct (core cause addr : Nat) : (s.coreFault core cause addr).ct = s.ct := rfl
@[simp] theorem State.coreFault_clk (core cause addr : Nat) : (s.coreFault core cause addr).clk = s.clk := rfl
@[simp] theorem State.coreFault_sar (core cause addr : Nat) : (s.coreFault core cause addr).sar = s.sar := rfl
@[simp] theorem State.coreFault_integ (core cause addr : Nat) : (s.coreFault core cause addr).integ = s.integ := rfl
@[simp] theorem State.coreFault_lib (core cause addr : Nat) : (s.coreFault core cause addr).lib = s.lib := rfl
@[simp] theorem State.coreFault_sd (core cause addr : Nat) : (s.coreFault core cause addr).sd = s.sd := rfl
@[simp] theorem State.coreFault_trip (core cause addr : Nat) : (s.coreFault core cause addr).trip = s.trip := rfl
@[simp] theorem State.coreFault_pwm (core cause addr : Nat) : (s.coreFault core cause addr).pwm = s.pwm := rfl
@[simp] theorem State.coreFault_gate (core cause addr : Nat) : (s.coreFault core cause addr).gate = s.gate := rfl
@[simp] theorem State.coreFault_eng (core cause addr : Nat) : (s.coreFault core cause addr).eng = s.eng := rfl
@[simp] theorem State.coreFault_ship (core cause addr : Nat) : (s.coreFault core cause addr).ship = s.ship := rfl
@[simp] theorem State.coreFault_bur (core cause addr : Nat) : (s.coreFault core cause addr).bur = s.bur := rfl
@[simp] theorem State.coreFault_pf (core cause addr : Nat) : (s.coreFault core cause addr).pf = s.pf := rfl
@[simp] theorem State.fld_coreFault (core cause addr : Nat) (x : Fld) (j : Nat) : (s.coreFault core cause addr).fld x j = s.fld x j := rfl

/-! ### modGroup -/

@[simp] theorem State.modGroup_pending (g : Nat) (f : Group → Group) : (s.modGroup g f).pending = s.pending := rfl
@[simp] theorem State.modGroup_regs (g : Nat) (f : Group → Group) : (s.modGroup g f).regs = s.regs := rfl
@[simp] theorem State.modGroup_tb (g : Nat) (f : Group → Group) : (s.modGroup g f).tb = s.tb := rfl
@[simp] theorem State.modGroup_freeCtr (g : Nat) (f : Group → Group) : (s.modGroup g f).freeCtr = s.freeCtr := rfl
@[simp] theorem State.modGroup_rst (g : Nat) (f : Group → Group) : (s.modGroup g f).rst = s.rst := rfl
@[simp] theorem State.modGroup_bell (g : Nat) (f : Group → Group) : (s.modGroup g f).bell = s.bell := rfl
@[simp] theorem State.modGroup_fab (g : Nat) (f : Group → Group) : (s.modGroup g f).fab = s.fab := rfl
@[simp] theorem State.modGroup_dup (g : Nat) (f : Group → Group) : (s.modGroup g f).dup = s.dup := rfl
@[simp] theorem State.modGroup_sec (g : Nat) (f : Group → Group) : (s.modGroup g f).sec = s.sec := rfl
@[simp] theorem State.modGroup_ports (g : Nat) (f : Group → Group) : (s.modGroup g f).ports = s.ports := rfl
@[simp] theorem State.modGroup_tut (g : Nat) (f : Group → Group) : (s.modGroup g f).tut = s.tut := rfl
@[simp] theorem State.modGroup_satchel (g : Nat) (f : Group → Group) : (s.modGroup g f).satchel = s.satchel := rfl
@[simp] theorem State.modGroup_ct (g : Nat) (f : Group → Group) : (s.modGroup g f).ct = s.ct := rfl
@[simp] theorem State.modGroup_clk (g : Nat) (f : Group → Group) : (s.modGroup g f).clk = s.clk := rfl
@[simp] theorem State.modGroup_sar (g : Nat) (f : Group → Group) : (s.modGroup g f).sar = s.sar := rfl
@[simp] theorem State.modGroup_integ (g : Nat) (f : Group → Group) : (s.modGroup g f).integ = s.integ := rfl
@[simp] theorem State.modGroup_lib (g : Nat) (f : Group → Group) : (s.modGroup g f).lib = s.lib := rfl
@[simp] theorem State.modGroup_sd (g : Nat) (f : Group → Group) : (s.modGroup g f).sd = s.sd := rfl
@[simp] theorem State.modGroup_trip (g : Nat) (f : Group → Group) : (s.modGroup g f).trip = s.trip := rfl
@[simp] theorem State.modGroup_pwm (g : Nat) (f : Group → Group) : (s.modGroup g f).pwm = s.pwm := rfl
@[simp] theorem State.modGroup_gate (g : Nat) (f : Group → Group) : (s.modGroup g f).gate = s.gate := rfl
@[simp] theorem State.modGroup_eng (g : Nat) (f : Group → Group) : (s.modGroup g f).eng = s.eng := rfl
@[simp] theorem State.modGroup_ship (g : Nat) (f : Group → Group) : (s.modGroup g f).ship = s.ship := rfl
@[simp] theorem State.modGroup_bur (g : Nat) (f : Group → Group) : (s.modGroup g f).bur = s.bur := rfl
@[simp] theorem State.modGroup_pf (g : Nat) (f : Group → Group) : (s.modGroup g f).pf = s.pf := rfl
@[simp] theorem State.fld_modGroup (g : Nat) (f : Group → Group) (x : Fld) (j : Nat) : (s.modGroup g f).fld x j = s.fld x j := rfl

/-! ### setVar -/

@[simp] theorem State.setVar_pending (idx sub v : Nat) : (s.setVar idx sub v).pending = s.pending := rfl
@[simp] theorem State.setVar_regs (idx sub v : Nat) : (s.setVar idx sub v).regs = s.regs := rfl
@[simp] theorem State.setVar_tb (idx sub v : Nat) : (s.setVar idx sub v).tb = s.tb := rfl
@[simp] theorem State.setVar_freeCtr (idx sub v : Nat) : (s.setVar idx sub v).freeCtr = s.freeCtr := rfl
@[simp] theorem State.setVar_rst (idx sub v : Nat) : (s.setVar idx sub v).rst = s.rst := rfl
@[simp] theorem State.setVar_bell (idx sub v : Nat) : (s.setVar idx sub v).bell = s.bell := rfl
@[simp] theorem State.setVar_fab (idx sub v : Nat) : (s.setVar idx sub v).fab = s.fab := rfl
@[simp] theorem State.setVar_dup (idx sub v : Nat) : (s.setVar idx sub v).dup = s.dup := rfl
@[simp] theorem State.setVar_sec (idx sub v : Nat) : (s.setVar idx sub v).sec = s.sec := rfl
@[simp] theorem State.setVar_ports (idx sub v : Nat) : (s.setVar idx sub v).ports = s.ports := rfl
@[simp] theorem State.setVar_tut (idx sub v : Nat) : (s.setVar idx sub v).tut = s.tut := rfl
@[simp] theorem State.setVar_satchel (idx sub v : Nat) : (s.setVar idx sub v).satchel = s.satchel := rfl
@[simp] theorem State.setVar_ct (idx sub v : Nat) : (s.setVar idx sub v).ct = s.ct := rfl
@[simp] theorem State.setVar_clk (idx sub v : Nat) : (s.setVar idx sub v).clk = s.clk := rfl
@[simp] theorem State.setVar_sar (idx sub v : Nat) : (s.setVar idx sub v).sar = s.sar := rfl
@[simp] theorem State.setVar_integ (idx sub v : Nat) : (s.setVar idx sub v).integ = s.integ := rfl
@[simp] theorem State.setVar_lib (idx sub v : Nat) : (s.setVar idx sub v).lib = s.lib := rfl
@[simp] theorem State.setVar_sd (idx sub v : Nat) : (s.setVar idx sub v).sd = s.sd := rfl
@[simp] theorem State.setVar_trip (idx sub v : Nat) : (s.setVar idx sub v).trip = s.trip := rfl
@[simp] theorem State.setVar_pwm (idx sub v : Nat) : (s.setVar idx sub v).pwm = s.pwm := rfl
@[simp] theorem State.setVar_gate (idx sub v : Nat) : (s.setVar idx sub v).gate = s.gate := rfl
@[simp] theorem State.setVar_eng (idx sub v : Nat) : (s.setVar idx sub v).eng = s.eng := rfl
@[simp] theorem State.setVar_ship (idx sub v : Nat) : (s.setVar idx sub v).ship = s.ship := rfl
@[simp] theorem State.setVar_bur (idx sub v : Nat) : (s.setVar idx sub v).bur = s.bur := rfl
@[simp] theorem State.setVar_pf (idx sub v : Nat) : (s.setVar idx sub v).pf = s.pf := rfl
@[simp] theorem State.fld_setVar (idx sub v : Nat) (x : Fld) (j : Nat) : (s.setVar idx sub v).fld x j = s.fld x j := rfl

/-! ### modPm -/

@[simp] theorem State.modPm_pending (m : Nat) (f : PwmMod → PwmMod) : (s.modPm m f).pending = s.pending := rfl
@[simp] theorem State.modPm_regs (m : Nat) (f : PwmMod → PwmMod) : (s.modPm m f).regs = s.regs := rfl
@[simp] theorem State.modPm_tb (m : Nat) (f : PwmMod → PwmMod) : (s.modPm m f).tb = s.tb := rfl
@[simp] theorem State.modPm_freeCtr (m : Nat) (f : PwmMod → PwmMod) : (s.modPm m f).freeCtr = s.freeCtr := rfl
@[simp] theorem State.modPm_rst (m : Nat) (f : PwmMod → PwmMod) : (s.modPm m f).rst = s.rst := rfl
@[simp] theorem State.modPm_bell (m : Nat) (f : PwmMod → PwmMod) : (s.modPm m f).bell = s.bell := rfl
@[simp] theorem State.modPm_fab (m : Nat) (f : PwmMod → PwmMod) : (s.modPm m f).fab = s.fab := rfl
@[simp] theorem State.modPm_dup (m : Nat) (f : PwmMod → PwmMod) : (s.modPm m f).dup = s.dup := rfl
@[simp] theorem State.modPm_sec (m : Nat) (f : PwmMod → PwmMod) : (s.modPm m f).sec = s.sec := rfl
@[simp] theorem State.modPm_ports (m : Nat) (f : PwmMod → PwmMod) : (s.modPm m f).ports = s.ports := rfl
@[simp] theorem State.modPm_dict (m : Nat) (f : PwmMod → PwmMod) : (s.modPm m f).dict = s.dict := rfl
@[simp] theorem State.modPm_tut (m : Nat) (f : PwmMod → PwmMod) : (s.modPm m f).tut = s.tut := rfl
@[simp] theorem State.modPm_satchel (m : Nat) (f : PwmMod → PwmMod) : (s.modPm m f).satchel = s.satchel := rfl
@[simp] theorem State.modPm_ct (m : Nat) (f : PwmMod → PwmMod) : (s.modPm m f).ct = s.ct := rfl
@[simp] theorem State.modPm_clk (m : Nat) (f : PwmMod → PwmMod) : (s.modPm m f).clk = s.clk := rfl
@[simp] theorem State.modPm_sar (m : Nat) (f : PwmMod → PwmMod) : (s.modPm m f).sar = s.sar := rfl
@[simp] theorem State.modPm_integ (m : Nat) (f : PwmMod → PwmMod) : (s.modPm m f).integ = s.integ := rfl
@[simp] theorem State.modPm_lib (m : Nat) (f : PwmMod → PwmMod) : (s.modPm m f).lib = s.lib := rfl
@[simp] theorem State.modPm_sd (m : Nat) (f : PwmMod → PwmMod) : (s.modPm m f).sd = s.sd := rfl
@[simp] theorem State.modPm_trip (m : Nat) (f : PwmMod → PwmMod) : (s.modPm m f).trip = s.trip := rfl
@[simp] theorem State.modPm_gate (m : Nat) (f : PwmMod → PwmMod) : (s.modPm m f).gate = s.gate := rfl
@[simp] theorem State.modPm_eng (m : Nat) (f : PwmMod → PwmMod) : (s.modPm m f).eng = s.eng := rfl
@[simp] theorem State.modPm_ship (m : Nat) (f : PwmMod → PwmMod) : (s.modPm m f).ship = s.ship := rfl
@[simp] theorem State.modPm_bur (m : Nat) (f : PwmMod → PwmMod) : (s.modPm m f).bur = s.bur := rfl
@[simp] theorem State.modPm_pf (m : Nat) (f : PwmMod → PwmMod) : (s.modPm m f).pf = s.pf := rfl
@[simp] theorem State.fld_modPm (m : Nat) (f : PwmMod → PwmMod) (x : Fld) (j : Nat) : (s.modPm m f).fld x j = s.fld x j := rfl

/-! ### modEngine -/

@[simp] theorem State.modEngine_pending (n : Nat) (f : Engine → Engine) : (s.modEngine n f).pending = s.pending := rfl
@[simp] theorem State.modEngine_regs (n : Nat) (f : Engine → Engine) : (s.modEngine n f).regs = s.regs := rfl
@[simp] theorem State.modEngine_tb (n : Nat) (f : Engine → Engine) : (s.modEngine n f).tb = s.tb := rfl
@[simp] theorem State.modEngine_freeCtr (n : Nat) (f : Engine → Engine) : (s.modEngine n f).freeCtr = s.freeCtr := rfl
@[simp] theorem State.modEngine_rst (n : Nat) (f : Engine → Engine) : (s.modEngine n f).rst = s.rst := rfl
@[simp] theorem State.modEngine_bell (n : Nat) (f : Engine → Engine) : (s.modEngine n f).bell = s.bell := rfl
@[simp] theorem State.modEngine_fab (n : Nat) (f : Engine → Engine) : (s.modEngine n f).fab = s.fab := rfl
@[simp] theorem State.modEngine_dup (n : Nat) (f : Engine → Engine) : (s.modEngine n f).dup = s.dup := rfl
@[simp] theorem State.modEngine_sec (n : Nat) (f : Engine → Engine) : (s.modEngine n f).sec = s.sec := rfl
@[simp] theorem State.modEngine_ports (n : Nat) (f : Engine → Engine) : (s.modEngine n f).ports = s.ports := rfl
@[simp] theorem State.modEngine_dict (n : Nat) (f : Engine → Engine) : (s.modEngine n f).dict = s.dict := rfl
@[simp] theorem State.modEngine_tut (n : Nat) (f : Engine → Engine) : (s.modEngine n f).tut = s.tut := rfl
@[simp] theorem State.modEngine_satchel (n : Nat) (f : Engine → Engine) : (s.modEngine n f).satchel = s.satchel := rfl
@[simp] theorem State.modEngine_ct (n : Nat) (f : Engine → Engine) : (s.modEngine n f).ct = s.ct := rfl
@[simp] theorem State.modEngine_clk (n : Nat) (f : Engine → Engine) : (s.modEngine n f).clk = s.clk := rfl
@[simp] theorem State.modEngine_sar (n : Nat) (f : Engine → Engine) : (s.modEngine n f).sar = s.sar := rfl
@[simp] theorem State.modEngine_integ (n : Nat) (f : Engine → Engine) : (s.modEngine n f).integ = s.integ := rfl
@[simp] theorem State.modEngine_lib (n : Nat) (f : Engine → Engine) : (s.modEngine n f).lib = s.lib := rfl
@[simp] theorem State.modEngine_sd (n : Nat) (f : Engine → Engine) : (s.modEngine n f).sd = s.sd := rfl
@[simp] theorem State.modEngine_trip (n : Nat) (f : Engine → Engine) : (s.modEngine n f).trip = s.trip := rfl
@[simp] theorem State.modEngine_pwm (n : Nat) (f : Engine → Engine) : (s.modEngine n f).pwm = s.pwm := rfl
@[simp] theorem State.modEngine_gate (n : Nat) (f : Engine → Engine) : (s.modEngine n f).gate = s.gate := rfl
@[simp] theorem State.modEngine_ship (n : Nat) (f : Engine → Engine) : (s.modEngine n f).ship = s.ship := rfl
@[simp] theorem State.modEngine_bur (n : Nat) (f : Engine → Engine) : (s.modEngine n f).bur = s.bur := rfl
@[simp] theorem State.modEngine_pf (n : Nat) (f : Engine → Engine) : (s.modEngine n f).pf = s.pf := rfl
@[simp] theorem State.fld_modEngine (n : Nat) (f : Engine → Engine) (x : Fld) (j : Nat) : (s.modEngine n f).fld x j = s.fld x j := rfl

/-! ### setEngWord -/

@[simp] theorem State.setEngWord_pending (n idx v : Nat) : (s.setEngWord n idx v).pending = s.pending := rfl
@[simp] theorem State.setEngWord_regs (n idx v : Nat) : (s.setEngWord n idx v).regs = s.regs := rfl
@[simp] theorem State.setEngWord_tb (n idx v : Nat) : (s.setEngWord n idx v).tb = s.tb := rfl
@[simp] theorem State.setEngWord_freeCtr (n idx v : Nat) : (s.setEngWord n idx v).freeCtr = s.freeCtr := rfl
@[simp] theorem State.setEngWord_rst (n idx v : Nat) : (s.setEngWord n idx v).rst = s.rst := rfl
@[simp] theorem State.setEngWord_bell (n idx v : Nat) : (s.setEngWord n idx v).bell = s.bell := rfl
@[simp] theorem State.setEngWord_fab (n idx v : Nat) : (s.setEngWord n idx v).fab = s.fab := rfl
@[simp] theorem State.setEngWord_dup (n idx v : Nat) : (s.setEngWord n idx v).dup = s.dup := rfl
@[simp] theorem State.setEngWord_sec (n idx v : Nat) : (s.setEngWord n idx v).sec = s.sec := rfl
@[simp] theorem State.setEngWord_ports (n idx v : Nat) : (s.setEngWord n idx v).ports = s.ports := rfl
@[simp] theorem State.setEngWord_dict (n idx v : Nat) : (s.setEngWord n idx v).dict = s.dict := rfl
@[simp] theorem State.setEngWord_tut (n idx v : Nat) : (s.setEngWord n idx v).tut = s.tut := rfl
@[simp] theorem State.setEngWord_satchel (n idx v : Nat) : (s.setEngWord n idx v).satchel = s.satchel := rfl
@[simp] theorem State.setEngWord_ct (n idx v : Nat) : (s.setEngWord n idx v).ct = s.ct := rfl
@[simp] theorem State.setEngWord_clk (n idx v : Nat) : (s.setEngWord n idx v).clk = s.clk := rfl
@[simp] theorem State.setEngWord_sar (n idx v : Nat) : (s.setEngWord n idx v).sar = s.sar := rfl
@[simp] theorem State.setEngWord_integ (n idx v : Nat) : (s.setEngWord n idx v).integ = s.integ := rfl
@[simp] theorem State.setEngWord_lib (n idx v : Nat) : (s.setEngWord n idx v).lib = s.lib := rfl
@[simp] theorem State.setEngWord_sd (n idx v : Nat) : (s.setEngWord n idx v).sd = s.sd := rfl
@[simp] theorem State.setEngWord_trip (n idx v : Nat) : (s.setEngWord n idx v).trip = s.trip := rfl
@[simp] theorem State.setEngWord_pwm (n idx v : Nat) : (s.setEngWord n idx v).pwm = s.pwm := rfl
@[simp] theorem State.setEngWord_gate (n idx v : Nat) : (s.setEngWord n idx v).gate = s.gate := rfl
@[simp] theorem State.setEngWord_ship (n idx v : Nat) : (s.setEngWord n idx v).ship = s.ship := rfl
@[simp] theorem State.setEngWord_bur (n idx v : Nat) : (s.setEngWord n idx v).bur = s.bur := rfl
@[simp] theorem State.setEngWord_pf (n idx v : Nat) : (s.setEngWord n idx v).pf = s.pf := rfl
@[simp] theorem State.fld_setEngWord (n idx v : Nat) (x : Fld) (j : Nat) : (s.setEngWord n idx v).fld x j = s.fld x j := rfl

/-! ### modChan -/

@[simp] theorem State.modChan_pending (n : Nat) (f : ModChan → ModChan) : (s.modChan n f).pending = s.pending := rfl
@[simp] theorem State.modChan_regs (n : Nat) (f : ModChan → ModChan) : (s.modChan n f).regs = s.regs := rfl
@[simp] theorem State.modChan_tb (n : Nat) (f : ModChan → ModChan) : (s.modChan n f).tb = s.tb := rfl
@[simp] theorem State.modChan_freeCtr (n : Nat) (f : ModChan → ModChan) : (s.modChan n f).freeCtr = s.freeCtr := rfl
@[simp] theorem State.modChan_rst (n : Nat) (f : ModChan → ModChan) : (s.modChan n f).rst = s.rst := rfl
@[simp] theorem State.modChan_bell (n : Nat) (f : ModChan → ModChan) : (s.modChan n f).bell = s.bell := rfl
@[simp] theorem State.modChan_fab (n : Nat) (f : ModChan → ModChan) : (s.modChan n f).fab = s.fab := rfl
@[simp] theorem State.modChan_dup (n : Nat) (f : ModChan → ModChan) : (s.modChan n f).dup = s.dup := rfl
@[simp] theorem State.modChan_sec (n : Nat) (f : ModChan → ModChan) : (s.modChan n f).sec = s.sec := rfl
@[simp] theorem State.modChan_ports (n : Nat) (f : ModChan → ModChan) : (s.modChan n f).ports = s.ports := rfl
@[simp] theorem State.modChan_dict (n : Nat) (f : ModChan → ModChan) : (s.modChan n f).dict = s.dict := rfl
@[simp] theorem State.modChan_tut (n : Nat) (f : ModChan → ModChan) : (s.modChan n f).tut = s.tut := rfl
@[simp] theorem State.modChan_satchel (n : Nat) (f : ModChan → ModChan) : (s.modChan n f).satchel = s.satchel := rfl
@[simp] theorem State.modChan_ct (n : Nat) (f : ModChan → ModChan) : (s.modChan n f).ct = s.ct := rfl
@[simp] theorem State.modChan_clk (n : Nat) (f : ModChan → ModChan) : (s.modChan n f).clk = s.clk := rfl
@[simp] theorem State.modChan_sar (n : Nat) (f : ModChan → ModChan) : (s.modChan n f).sar = s.sar := rfl
@[simp] theorem State.modChan_integ (n : Nat) (f : ModChan → ModChan) : (s.modChan n f).integ = s.integ := rfl
@[simp] theorem State.modChan_lib (n : Nat) (f : ModChan → ModChan) : (s.modChan n f).lib = s.lib := rfl
@[simp] theorem State.modChan_trip (n : Nat) (f : ModChan → ModChan) : (s.modChan n f).trip = s.trip := rfl
@[simp] theorem State.modChan_pwm (n : Nat) (f : ModChan → ModChan) : (s.modChan n f).pwm = s.pwm := rfl
@[simp] theorem State.modChan_gate (n : Nat) (f : ModChan → ModChan) : (s.modChan n f).gate = s.gate := rfl
@[simp] theorem State.modChan_eng (n : Nat) (f : ModChan → ModChan) : (s.modChan n f).eng = s.eng := rfl
@[simp] theorem State.modChan_ship (n : Nat) (f : ModChan → ModChan) : (s.modChan n f).ship = s.ship := rfl
@[simp] theorem State.modChan_bur (n : Nat) (f : ModChan → ModChan) : (s.modChan n f).bur = s.bur := rfl
@[simp] theorem State.modChan_pf (n : Nat) (f : ModChan → ModChan) : (s.modChan n f).pf = s.pf := rfl
@[simp] theorem State.fld_modChan (n : Nat) (f : ModChan → ModChan) (x : Fld) (j : Nat) : (s.modChan n f).fld x j = s.fld x j := rfl

/-! ### modWc -/

@[simp] theorem State.modWc_pending (c : Nat) (f : CompChan → CompChan) : (s.modWc c f).pending = s.pending := rfl
@[simp] theorem State.modWc_regs (c : Nat) (f : CompChan → CompChan) : (s.modWc c f).regs = s.regs := rfl
@[simp] theorem State.modWc_tb (c : Nat) (f : CompChan → CompChan) : (s.modWc c f).tb = s.tb := rfl
@[simp] theorem State.modWc_freeCtr (c : Nat) (f : CompChan → CompChan) : (s.modWc c f).freeCtr = s.freeCtr := rfl
@[simp] theorem State.modWc_rst (c : Nat) (f : CompChan → CompChan) : (s.modWc c f).rst = s.rst := rfl
@[simp] theorem State.modWc_bell (c : Nat) (f : CompChan → CompChan) : (s.modWc c f).bell = s.bell := rfl
@[simp] theorem State.modWc_fab (c : Nat) (f : CompChan → CompChan) : (s.modWc c f).fab = s.fab := rfl
@[simp] theorem State.modWc_dup (c : Nat) (f : CompChan → CompChan) : (s.modWc c f).dup = s.dup := rfl
@[simp] theorem State.modWc_sec (c : Nat) (f : CompChan → CompChan) : (s.modWc c f).sec = s.sec := rfl
@[simp] theorem State.modWc_ports (c : Nat) (f : CompChan → CompChan) : (s.modWc c f).ports = s.ports := rfl
@[simp] theorem State.modWc_dict (c : Nat) (f : CompChan → CompChan) : (s.modWc c f).dict = s.dict := rfl
@[simp] theorem State.modWc_tut (c : Nat) (f : CompChan → CompChan) : (s.modWc c f).tut = s.tut := rfl
@[simp] theorem State.modWc_satchel (c : Nat) (f : CompChan → CompChan) : (s.modWc c f).satchel = s.satchel := rfl
@[simp] theorem State.modWc_ct (c : Nat) (f : CompChan → CompChan) : (s.modWc c f).ct = s.ct := rfl
@[simp] theorem State.modWc_clk (c : Nat) (f : CompChan → CompChan) : (s.modWc c f).clk = s.clk := rfl
@[simp] theorem State.modWc_sar (c : Nat) (f : CompChan → CompChan) : (s.modWc c f).sar = s.sar := rfl
@[simp] theorem State.modWc_integ (c : Nat) (f : CompChan → CompChan) : (s.modWc c f).integ = s.integ := rfl
@[simp] theorem State.modWc_lib (c : Nat) (f : CompChan → CompChan) : (s.modWc c f).lib = s.lib := rfl
@[simp] theorem State.modWc_sd (c : Nat) (f : CompChan → CompChan) : (s.modWc c f).sd = s.sd := rfl
@[simp] theorem State.modWc_pwm (c : Nat) (f : CompChan → CompChan) : (s.modWc c f).pwm = s.pwm := rfl
@[simp] theorem State.modWc_gate (c : Nat) (f : CompChan → CompChan) : (s.modWc c f).gate = s.gate := rfl
@[simp] theorem State.modWc_eng (c : Nat) (f : CompChan → CompChan) : (s.modWc c f).eng = s.eng := rfl
@[simp] theorem State.modWc_ship (c : Nat) (f : CompChan → CompChan) : (s.modWc c f).ship = s.ship := rfl
@[simp] theorem State.modWc_bur (c : Nat) (f : CompChan → CompChan) : (s.modWc c f).bur = s.bur := rfl
@[simp] theorem State.modWc_pf (c : Nat) (f : CompChan → CompChan) : (s.modWc c f).pf = s.pf := rfl
@[simp] theorem State.fld_modWc (c : Nat) (f : CompChan → CompChan) (x : Fld) (j : Nat) : (s.modWc c f).fld x j = s.fld x j := rfl

/-! ### modSlot -/

@[simp] theorem State.modSlot_pending (k : Nat) (f : SarSlot → SarSlot) : (s.modSlot k f).pending = s.pending := rfl
@[simp] theorem State.modSlot_regs (k : Nat) (f : SarSlot → SarSlot) : (s.modSlot k f).regs = s.regs := rfl
@[simp] theorem State.modSlot_tb (k : Nat) (f : SarSlot → SarSlot) : (s.modSlot k f).tb = s.tb := rfl
@[simp] theorem State.modSlot_freeCtr (k : Nat) (f : SarSlot → SarSlot) : (s.modSlot k f).freeCtr = s.freeCtr := rfl
@[simp] theorem State.modSlot_rst (k : Nat) (f : SarSlot → SarSlot) : (s.modSlot k f).rst = s.rst := rfl
@[simp] theorem State.modSlot_bell (k : Nat) (f : SarSlot → SarSlot) : (s.modSlot k f).bell = s.bell := rfl
@[simp] theorem State.modSlot_fab (k : Nat) (f : SarSlot → SarSlot) : (s.modSlot k f).fab = s.fab := rfl
@[simp] theorem State.modSlot_dup (k : Nat) (f : SarSlot → SarSlot) : (s.modSlot k f).dup = s.dup := rfl
@[simp] theorem State.modSlot_sec (k : Nat) (f : SarSlot → SarSlot) : (s.modSlot k f).sec = s.sec := rfl
@[simp] theorem State.modSlot_ports (k : Nat) (f : SarSlot → SarSlot) : (s.modSlot k f).ports = s.ports := rfl
@[simp] theorem State.modSlot_dict (k : Nat) (f : SarSlot → SarSlot) : (s.modSlot k f).dict = s.dict := rfl
@[simp] theorem State.modSlot_tut (k : Nat) (f : SarSlot → SarSlot) : (s.modSlot k f).tut = s.tut := rfl
@[simp] theorem State.modSlot_satchel (k : Nat) (f : SarSlot → SarSlot) : (s.modSlot k f).satchel = s.satchel := rfl
@[simp] theorem State.modSlot_ct (k : Nat) (f : SarSlot → SarSlot) : (s.modSlot k f).ct = s.ct := rfl
@[simp] theorem State.modSlot_clk (k : Nat) (f : SarSlot → SarSlot) : (s.modSlot k f).clk = s.clk := rfl
@[simp] theorem State.modSlot_integ (k : Nat) (f : SarSlot → SarSlot) : (s.modSlot k f).integ = s.integ := rfl
@[simp] theorem State.modSlot_lib (k : Nat) (f : SarSlot → SarSlot) : (s.modSlot k f).lib = s.lib := rfl
@[simp] theorem State.modSlot_sd (k : Nat) (f : SarSlot → SarSlot) : (s.modSlot k f).sd = s.sd := rfl
@[simp] theorem State.modSlot_trip (k : Nat) (f : SarSlot → SarSlot) : (s.modSlot k f).trip = s.trip := rfl
@[simp] theorem State.modSlot_pwm (k : Nat) (f : SarSlot → SarSlot) : (s.modSlot k f).pwm = s.pwm := rfl
@[simp] theorem State.modSlot_gate (k : Nat) (f : SarSlot → SarSlot) : (s.modSlot k f).gate = s.gate := rfl
@[simp] theorem State.modSlot_eng (k : Nat) (f : SarSlot → SarSlot) : (s.modSlot k f).eng = s.eng := rfl
@[simp] theorem State.modSlot_ship (k : Nat) (f : SarSlot → SarSlot) : (s.modSlot k f).ship = s.ship := rfl
@[simp] theorem State.modSlot_bur (k : Nat) (f : SarSlot → SarSlot) : (s.modSlot k f).bur = s.bur := rfl
@[simp] theorem State.modSlot_pf (k : Nat) (f : SarSlot → SarSlot) : (s.modSlot k f).pf = s.pf := rfl
@[simp] theorem State.fld_modSlot (k : Nat) (f : SarSlot → SarSlot) (x : Fld) (j : Nat) : (s.modSlot k f).fld x j = s.fld x j := rfl

/-! ### modPoint -/

@[simp] theorem State.modPoint_pending (q : Nat) (f : BurPoint → BurPoint) : (s.modPoint q f).pending = s.pending := rfl
@[simp] theorem State.modPoint_regs (q : Nat) (f : BurPoint → BurPoint) : (s.modPoint q f).regs = s.regs := rfl
@[simp] theorem State.modPoint_tb (q : Nat) (f : BurPoint → BurPoint) : (s.modPoint q f).tb = s.tb := rfl
@[simp] theorem State.modPoint_freeCtr (q : Nat) (f : BurPoint → BurPoint) : (s.modPoint q f).freeCtr = s.freeCtr := rfl
@[simp] theorem State.modPoint_rst (q : Nat) (f : BurPoint → BurPoint) : (s.modPoint q f).rst = s.rst := rfl
@[simp] theorem State.modPoint_bell (q : Nat) (f : BurPoint → BurPoint) : (s.modPoint q f).bell = s.bell := rfl
@[simp] theorem State.modPoint_fab (q : Nat) (f : BurPoint → BurPoint) : (s.modPoint q f).fab = s.fab := rfl
@[simp] theorem State.modPoint_dup (q : Nat) (f : BurPoint → BurPoint) : (s.modPoint q f).dup = s.dup := rfl
@[simp] theorem State.modPoint_sec (q : Nat) (f : BurPoint → BurPoint) : (s.modPoint q f).sec = s.sec := rfl
@[simp] theorem State.modPoint_ports (q : Nat) (f : BurPoint → BurPoint) : (s.modPoint q f).ports = s.ports := rfl
@[simp] theorem State.modPoint_dict (q : Nat) (f : BurPoint → BurPoint) : (s.modPoint q f).dict = s.dict := rfl
@[simp] theorem State.modPoint_tut (q : Nat) (f : BurPoint → BurPoint) : (s.modPoint q f).tut = s.tut := rfl
@[simp] theorem State.modPoint_satchel (q : Nat) (f : BurPoint → BurPoint) : (s.modPoint q f).satchel = s.satchel := rfl
@[simp] theorem State.modPoint_ct (q : Nat) (f : BurPoint → BurPoint) : (s.modPoint q f).ct = s.ct := rfl
@[simp] theorem State.modPoint_clk (q : Nat) (f : BurPoint → BurPoint) : (s.modPoint q f).clk = s.clk := rfl
@[simp] theorem State.modPoint_sar (q : Nat) (f : BurPoint → BurPoint) : (s.modPoint q f).sar = s.sar := rfl
@[simp] theorem State.modPoint_integ (q : Nat) (f : BurPoint → BurPoint) : (s.modPoint q f).integ = s.integ := rfl
@[simp] theorem State.modPoint_lib (q : Nat) (f : BurPoint → BurPoint) : (s.modPoint q f).lib = s.lib := rfl
@[simp] theorem State.modPoint_sd (q : Nat) (f : BurPoint → BurPoint) : (s.modPoint q f).sd = s.sd := rfl
@[simp] theorem State.modPoint_trip (q : Nat) (f : BurPoint → BurPoint) : (s.modPoint q f).trip = s.trip := rfl
@[simp] theorem State.modPoint_pwm (q : Nat) (f : BurPoint → BurPoint) : (s.modPoint q f).pwm = s.pwm := rfl
@[simp] theorem State.modPoint_gate (q : Nat) (f : BurPoint → BurPoint) : (s.modPoint q f).gate = s.gate := rfl
@[simp] theorem State.modPoint_eng (q : Nat) (f : BurPoint → BurPoint) : (s.modPoint q f).eng = s.eng := rfl
@[simp] theorem State.modPoint_ship (q : Nat) (f : BurPoint → BurPoint) : (s.modPoint q f).ship = s.ship := rfl
@[simp] theorem State.modPoint_pf (q : Nat) (f : BurPoint → BurPoint) : (s.modPoint q f).pf = s.pf := rfl
@[simp] theorem State.fld_modPoint (q : Nat) (f : BurPoint → BurPoint) (x : Fld) (j : Nat) : (s.modPoint q f).fld x j = s.fld x j := rfl

/-! ### modPf -/

@[simp] theorem State.modPf_pending (f : PrefectSt → PrefectSt) : (s.modPf f).pending = s.pending := rfl
@[simp] theorem State.modPf_regs (f : PrefectSt → PrefectSt) : (s.modPf f).regs = s.regs := rfl
@[simp] theorem State.modPf_tb (f : PrefectSt → PrefectSt) : (s.modPf f).tb = s.tb := rfl
@[simp] theorem State.modPf_freeCtr (f : PrefectSt → PrefectSt) : (s.modPf f).freeCtr = s.freeCtr := rfl
@[simp] theorem State.modPf_rst (f : PrefectSt → PrefectSt) : (s.modPf f).rst = s.rst := rfl
@[simp] theorem State.modPf_bell (f : PrefectSt → PrefectSt) : (s.modPf f).bell = s.bell := rfl
@[simp] theorem State.modPf_fab (f : PrefectSt → PrefectSt) : (s.modPf f).fab = s.fab := rfl
@[simp] theorem State.modPf_dup (f : PrefectSt → PrefectSt) : (s.modPf f).dup = s.dup := rfl
@[simp] theorem State.modPf_sec (f : PrefectSt → PrefectSt) : (s.modPf f).sec = s.sec := rfl
@[simp] theorem State.modPf_ports (f : PrefectSt → PrefectSt) : (s.modPf f).ports = s.ports := rfl
@[simp] theorem State.modPf_dict (f : PrefectSt → PrefectSt) : (s.modPf f).dict = s.dict := rfl
@[simp] theorem State.modPf_tut (f : PrefectSt → PrefectSt) : (s.modPf f).tut = s.tut := rfl
@[simp] theorem State.modPf_satchel (f : PrefectSt → PrefectSt) : (s.modPf f).satchel = s.satchel := rfl
@[simp] theorem State.modPf_ct (f : PrefectSt → PrefectSt) : (s.modPf f).ct = s.ct := rfl
@[simp] theorem State.modPf_clk (f : PrefectSt → PrefectSt) : (s.modPf f).clk = s.clk := rfl
@[simp] theorem State.modPf_sar (f : PrefectSt → PrefectSt) : (s.modPf f).sar = s.sar := rfl
@[simp] theorem State.modPf_integ (f : PrefectSt → PrefectSt) : (s.modPf f).integ = s.integ := rfl
@[simp] theorem State.modPf_lib (f : PrefectSt → PrefectSt) : (s.modPf f).lib = s.lib := rfl
@[simp] theorem State.modPf_sd (f : PrefectSt → PrefectSt) : (s.modPf f).sd = s.sd := rfl
@[simp] theorem State.modPf_trip (f : PrefectSt → PrefectSt) : (s.modPf f).trip = s.trip := rfl
@[simp] theorem State.modPf_pwm (f : PrefectSt → PrefectSt) : (s.modPf f).pwm = s.pwm := rfl
@[simp] theorem State.modPf_gate (f : PrefectSt → PrefectSt) : (s.modPf f).gate = s.gate := rfl
@[simp] theorem State.modPf_eng (f : PrefectSt → PrefectSt) : (s.modPf f).eng = s.eng := rfl
@[simp] theorem State.modPf_ship (f : PrefectSt → PrefectSt) : (s.modPf f).ship = s.ship := rfl
@[simp] theorem State.modPf_bur (f : PrefectSt → PrefectSt) : (s.modPf f).bur = s.bur := rfl
@[simp] theorem State.fld_modPf (f : PrefectSt → PrefectSt) (x : Fld) (j : Nat) : (s.modPf f).fld x j = s.fld x j := rfl

/-! ### mark -/

@[simp] theorem State.mark_pending (mem w : Nat) (bad : Bool) : (s.mark mem w bad).pending = s.pending := rfl
@[simp] theorem State.mark_regs (mem w : Nat) (bad : Bool) : (s.mark mem w bad).regs = s.regs := rfl
@[simp] theorem State.mark_tb (mem w : Nat) (bad : Bool) : (s.mark mem w bad).tb = s.tb := rfl
@[simp] theorem State.mark_freeCtr (mem w : Nat) (bad : Bool) : (s.mark mem w bad).freeCtr = s.freeCtr := rfl
@[simp] theorem State.mark_rst (mem w : Nat) (bad : Bool) : (s.mark mem w bad).rst = s.rst := rfl
@[simp] theorem State.mark_bell (mem w : Nat) (bad : Bool) : (s.mark mem w bad).bell = s.bell := rfl
@[simp] theorem State.mark_fab (mem w : Nat) (bad : Bool) : (s.mark mem w bad).fab = s.fab := rfl
@[simp] theorem State.mark_dup (mem w : Nat) (bad : Bool) : (s.mark mem w bad).dup = s.dup := rfl
@[simp] theorem State.mark_sec (mem w : Nat) (bad : Bool) : (s.mark mem w bad).sec = s.sec := rfl
@[simp] theorem State.mark_ports (mem w : Nat) (bad : Bool) : (s.mark mem w bad).ports = s.ports := rfl
@[simp] theorem State.mark_dict (mem w : Nat) (bad : Bool) : (s.mark mem w bad).dict = s.dict := rfl
@[simp] theorem State.mark_tut (mem w : Nat) (bad : Bool) : (s.mark mem w bad).tut = s.tut := rfl
@[simp] theorem State.mark_satchel (mem w : Nat) (bad : Bool) : (s.mark mem w bad).satchel = s.satchel := rfl
@[simp] theorem State.mark_ct (mem w : Nat) (bad : Bool) : (s.mark mem w bad).ct = s.ct := rfl
@[simp] theorem State.mark_clk (mem w : Nat) (bad : Bool) : (s.mark mem w bad).clk = s.clk := rfl
@[simp] theorem State.mark_sar (mem w : Nat) (bad : Bool) : (s.mark mem w bad).sar = s.sar := rfl
@[simp] theorem State.mark_lib (mem w : Nat) (bad : Bool) : (s.mark mem w bad).lib = s.lib := rfl
@[simp] theorem State.mark_sd (mem w : Nat) (bad : Bool) : (s.mark mem w bad).sd = s.sd := rfl
@[simp] theorem State.mark_trip (mem w : Nat) (bad : Bool) : (s.mark mem w bad).trip = s.trip := rfl
@[simp] theorem State.mark_pwm (mem w : Nat) (bad : Bool) : (s.mark mem w bad).pwm = s.pwm := rfl
@[simp] theorem State.mark_gate (mem w : Nat) (bad : Bool) : (s.mark mem w bad).gate = s.gate := rfl
@[simp] theorem State.mark_eng (mem w : Nat) (bad : Bool) : (s.mark mem w bad).eng = s.eng := rfl
@[simp] theorem State.mark_ship (mem w : Nat) (bad : Bool) : (s.mark mem w bad).ship = s.ship := rfl
@[simp] theorem State.mark_bur (mem w : Nat) (bad : Bool) : (s.mark mem w bad).bur = s.bur := rfl
@[simp] theorem State.mark_pf (mem w : Nat) (bad : Bool) : (s.mark mem w bad).pf = s.pf := rfl
@[simp] theorem State.fld_mark (mem w : Nat) (bad : Bool) (x : Fld) (j : Nat) : (s.mark mem w bad).fld x j = s.fld x j := rfl

/-! ### satPut -/

@[simp] theorem State.satPut_pending (off b : Nat) : (s.satPut off b).pending = s.pending := rfl
@[simp] theorem State.satPut_regs (off b : Nat) : (s.satPut off b).regs = s.regs := rfl
@[simp] theorem State.satPut_tb (off b : Nat) : (s.satPut off b).tb = s.tb := rfl
@[simp] theorem State.satPut_freeCtr (off b : Nat) : (s.satPut off b).freeCtr = s.freeCtr := rfl
@[simp] theorem State.satPut_rst (off b : Nat) : (s.satPut off b).rst = s.rst := rfl
@[simp] theorem State.satPut_bell (off b : Nat) : (s.satPut off b).bell = s.bell := rfl
@[simp] theorem State.satPut_fab (off b : Nat) : (s.satPut off b).fab = s.fab := rfl
@[simp] theorem State.satPut_dup (off b : Nat) : (s.satPut off b).dup = s.dup := rfl
@[simp] theorem State.satPut_sec (off b : Nat) : (s.satPut off b).sec = s.sec := rfl
@[simp] theorem State.satPut_ports (off b : Nat) : (s.satPut off b).ports = s.ports := rfl
@[simp] theorem State.satPut_dict (off b : Nat) : (s.satPut off b).dict = s.dict := rfl
@[simp] theorem State.satPut_tut (off b : Nat) : (s.satPut off b).tut = s.tut := rfl
@[simp] theorem State.satPut_ct (off b : Nat) : (s.satPut off b).ct = s.ct := rfl
@[simp] theorem State.satPut_clk (off b : Nat) : (s.satPut off b).clk = s.clk := rfl
@[simp] theorem State.satPut_sar (off b : Nat) : (s.satPut off b).sar = s.sar := rfl
@[simp] theorem State.satPut_integ (off b : Nat) : (s.satPut off b).integ = s.integ := rfl
@[simp] theorem State.satPut_lib (off b : Nat) : (s.satPut off b).lib = s.lib := rfl
@[simp] theorem State.satPut_sd (off b : Nat) : (s.satPut off b).sd = s.sd := rfl
@[simp] theorem State.satPut_trip (off b : Nat) : (s.satPut off b).trip = s.trip := rfl
@[simp] theorem State.satPut_pwm (off b : Nat) : (s.satPut off b).pwm = s.pwm := rfl
@[simp] theorem State.satPut_gate (off b : Nat) : (s.satPut off b).gate = s.gate := rfl
@[simp] theorem State.satPut_eng (off b : Nat) : (s.satPut off b).eng = s.eng := rfl
@[simp] theorem State.satPut_ship (off b : Nat) : (s.satPut off b).ship = s.ship := rfl
@[simp] theorem State.satPut_bur (off b : Nat) : (s.satPut off b).bur = s.bur := rfl
@[simp] theorem State.satPut_pf (off b : Nat) : (s.satPut off b).pf = s.pf := rfl
@[simp] theorem State.fld_satPut (off b : Nat) (x : Fld) (j : Nat) : (s.satPut off b).fld x j = s.fld x j := rfl

/-! ### setCap -/

@[simp] theorem State.setCap_pending (a : Nat) (c : Capture) : (s.setCap a c).pending = s.pending := rfl
@[simp] theorem State.setCap_regs (a : Nat) (c : Capture) : (s.setCap a c).regs = s.regs := rfl
@[simp] theorem State.setCap_tb (a : Nat) (c : Capture) : (s.setCap a c).tb = s.tb := rfl
@[simp] theorem State.setCap_freeCtr (a : Nat) (c : Capture) : (s.setCap a c).freeCtr = s.freeCtr := rfl
@[simp] theorem State.setCap_rst (a : Nat) (c : Capture) : (s.setCap a c).rst = s.rst := rfl
@[simp] theorem State.setCap_bell (a : Nat) (c : Capture) : (s.setCap a c).bell = s.bell := rfl
@[simp] theorem State.setCap_fab (a : Nat) (c : Capture) : (s.setCap a c).fab = s.fab := rfl
@[simp] theorem State.setCap_dup (a : Nat) (c : Capture) : (s.setCap a c).dup = s.dup := rfl
@[simp] theorem State.setCap_sec (a : Nat) (c : Capture) : (s.setCap a c).sec = s.sec := rfl
@[simp] theorem State.setCap_dict (a : Nat) (c : Capture) : (s.setCap a c).dict = s.dict := rfl
@[simp] theorem State.setCap_tut (a : Nat) (c : Capture) : (s.setCap a c).tut = s.tut := rfl
@[simp] theorem State.setCap_satchel (a : Nat) (c : Capture) : (s.setCap a c).satchel = s.satchel := rfl
@[simp] theorem State.setCap_ct (a : Nat) (c : Capture) : (s.setCap a c).ct = s.ct := rfl
@[simp] theorem State.setCap_clk (a : Nat) (c : Capture) : (s.setCap a c).clk = s.clk := rfl
@[simp] theorem State.setCap_sar (a : Nat) (c : Capture) : (s.setCap a c).sar = s.sar := rfl
@[simp] theorem State.setCap_integ (a : Nat) (c : Capture) : (s.setCap a c).integ = s.integ := rfl
@[simp] theorem State.setCap_lib (a : Nat) (c : Capture) : (s.setCap a c).lib = s.lib := rfl
@[simp] theorem State.setCap_sd (a : Nat) (c : Capture) : (s.setCap a c).sd = s.sd := rfl
@[simp] theorem State.setCap_trip (a : Nat) (c : Capture) : (s.setCap a c).trip = s.trip := rfl
@[simp] theorem State.setCap_pwm (a : Nat) (c : Capture) : (s.setCap a c).pwm = s.pwm := rfl
@[simp] theorem State.setCap_gate (a : Nat) (c : Capture) : (s.setCap a c).gate = s.gate := rfl
@[simp] theorem State.setCap_eng (a : Nat) (c : Capture) : (s.setCap a c).eng = s.eng := rfl
@[simp] theorem State.setCap_ship (a : Nat) (c : Capture) : (s.setCap a c).ship = s.ship := rfl
@[simp] theorem State.setCap_bur (a : Nat) (c : Capture) : (s.setCap a c).bur = s.bur := rfl
@[simp] theorem State.setCap_pf (a : Nat) (c : Capture) : (s.setCap a c).pf = s.pf := rfl
@[simp] theorem State.fld_setCap (a : Nat) (c : Capture) (x : Fld) (j : Nat) : (s.setCap a c).fld x j = s.fld x j := rfl

/-! ### syncSend -/

@[simp] theorem State.syncSend_pending (l : List SyncOut) : (s.syncSend l).pending = s.pending := rfl
@[simp] theorem State.syncSend_regs (l : List SyncOut) : (s.syncSend l).regs = s.regs := rfl
@[simp] theorem State.syncSend_tb (l : List SyncOut) : (s.syncSend l).tb = s.tb := rfl
@[simp] theorem State.syncSend_freeCtr (l : List SyncOut) : (s.syncSend l).freeCtr = s.freeCtr := rfl
@[simp] theorem State.syncSend_rst (l : List SyncOut) : (s.syncSend l).rst = s.rst := rfl
@[simp] theorem State.syncSend_bell (l : List SyncOut) : (s.syncSend l).bell = s.bell := rfl
@[simp] theorem State.syncSend_fab (l : List SyncOut) : (s.syncSend l).fab = s.fab := rfl
@[simp] theorem State.syncSend_dup (l : List SyncOut) : (s.syncSend l).dup = s.dup := rfl
@[simp] theorem State.syncSend_sec (l : List SyncOut) : (s.syncSend l).sec = s.sec := rfl
@[simp] theorem State.syncSend_dict (l : List SyncOut) : (s.syncSend l).dict = s.dict := rfl
@[simp] theorem State.syncSend_tut (l : List SyncOut) : (s.syncSend l).tut = s.tut := rfl
@[simp] theorem State.syncSend_satchel (l : List SyncOut) : (s.syncSend l).satchel = s.satchel := rfl
@[simp] theorem State.syncSend_ct (l : List SyncOut) : (s.syncSend l).ct = s.ct := rfl
@[simp] theorem State.syncSend_clk (l : List SyncOut) : (s.syncSend l).clk = s.clk := rfl
@[simp] theorem State.syncSend_sar (l : List SyncOut) : (s.syncSend l).sar = s.sar := rfl
@[simp] theorem State.syncSend_integ (l : List SyncOut) : (s.syncSend l).integ = s.integ := rfl
@[simp] theorem State.syncSend_lib (l : List SyncOut) : (s.syncSend l).lib = s.lib := rfl
@[simp] theorem State.syncSend_sd (l : List SyncOut) : (s.syncSend l).sd = s.sd := rfl
@[simp] theorem State.syncSend_trip (l : List SyncOut) : (s.syncSend l).trip = s.trip := rfl
@[simp] theorem State.syncSend_pwm (l : List SyncOut) : (s.syncSend l).pwm = s.pwm := rfl
@[simp] theorem State.syncSend_gate (l : List SyncOut) : (s.syncSend l).gate = s.gate := rfl
@[simp] theorem State.syncSend_eng (l : List SyncOut) : (s.syncSend l).eng = s.eng := rfl
@[simp] theorem State.syncSend_ship (l : List SyncOut) : (s.syncSend l).ship = s.ship := rfl
@[simp] theorem State.syncSend_bur (l : List SyncOut) : (s.syncSend l).bur = s.bur := rfl
@[simp] theorem State.syncSend_pf (l : List SyncOut) : (s.syncSend l).pf = s.pf := rfl
@[simp] theorem State.fld_syncSend (l : List SyncOut) (x : Fld) (j : Nat) : (s.syncSend l).fld x j = s.fld x j := rfl

/-! ### peerSend -/

@[simp] theorem State.peerSend_pending (l : List Nat) : (s.peerSend l).pending = s.pending := rfl
@[simp] theorem State.peerSend_regs (l : List Nat) : (s.peerSend l).regs = s.regs := rfl
@[simp] theorem State.peerSend_tb (l : List Nat) : (s.peerSend l).tb = s.tb := rfl
@[simp] theorem State.peerSend_freeCtr (l : List Nat) : (s.peerSend l).freeCtr = s.freeCtr := rfl
@[simp] theorem State.peerSend_rst (l : List Nat) : (s.peerSend l).rst = s.rst := rfl
@[simp] theorem State.peerSend_bell (l : List Nat) : (s.peerSend l).bell = s.bell := rfl
@[simp] theorem State.peerSend_fab (l : List Nat) : (s.peerSend l).fab = s.fab := rfl
@[simp] theorem State.peerSend_dup (l : List Nat) : (s.peerSend l).dup = s.dup := rfl
@[simp] theorem State.peerSend_sec (l : List Nat) : (s.peerSend l).sec = s.sec := rfl
@[simp] theorem State.peerSend_dict (l : List Nat) : (s.peerSend l).dict = s.dict := rfl
@[simp] theorem State.peerSend_tut (l : List Nat) : (s.peerSend l).tut = s.tut := rfl
@[simp] theorem State.peerSend_satchel (l : List Nat) : (s.peerSend l).satchel = s.satchel := rfl
@[simp] theorem State.peerSend_ct (l : List Nat) : (s.peerSend l).ct = s.ct := rfl
@[simp] theorem State.peerSend_clk (l : List Nat) : (s.peerSend l).clk = s.clk := rfl
@[simp] theorem State.peerSend_sar (l : List Nat) : (s.peerSend l).sar = s.sar := rfl
@[simp] theorem State.peerSend_integ (l : List Nat) : (s.peerSend l).integ = s.integ := rfl
@[simp] theorem State.peerSend_lib (l : List Nat) : (s.peerSend l).lib = s.lib := rfl
@[simp] theorem State.peerSend_sd (l : List Nat) : (s.peerSend l).sd = s.sd := rfl
@[simp] theorem State.peerSend_trip (l : List Nat) : (s.peerSend l).trip = s.trip := rfl
@[simp] theorem State.peerSend_pwm (l : List Nat) : (s.peerSend l).pwm = s.pwm := rfl
@[simp] theorem State.peerSend_gate (l : List Nat) : (s.peerSend l).gate = s.gate := rfl
@[simp] theorem State.peerSend_eng (l : List Nat) : (s.peerSend l).eng = s.eng := rfl
@[simp] theorem State.peerSend_ship (l : List Nat) : (s.peerSend l).ship = s.ship := rfl
@[simp] theorem State.peerSend_bur (l : List Nat) : (s.peerSend l).bur = s.bur := rfl
@[simp] theorem State.peerSend_pf (l : List Nat) : (s.peerSend l).pf = s.pf := rfl
@[simp] theorem State.fld_peerSend (l : List Nat) (x : Fld) (j : Nat) : (s.peerSend l).fld x j = s.fld x j := rfl

/-! ### setPending -/

@[simp] theorem State.setPending_regs (l : List Instr) : (s.setPending l).regs = s.regs := rfl
@[simp] theorem State.setPending_tb (l : List Instr) : (s.setPending l).tb = s.tb := rfl
@[simp] theorem State.setPending_freeCtr (l : List Instr) : (s.setPending l).freeCtr = s.freeCtr := rfl
@[simp] theorem State.setPending_rst (l : List Instr) : (s.setPending l).rst = s.rst := rfl
@[simp] theorem State.setPending_bell (l : List Instr) : (s.setPending l).bell = s.bell := rfl
@[simp] theorem State.setPending_fab (l : List Instr) : (s.setPending l).fab = s.fab := rfl
@[simp] theorem State.setPending_dup (l : List Instr) : (s.setPending l).dup = s.dup := rfl
@[simp] theorem State.setPending_sec (l : List Instr) : (s.setPending l).sec = s.sec := rfl
@[simp] theorem State.setPending_ports (l : List Instr) : (s.setPending l).ports = s.ports := rfl
@[simp] theorem State.setPending_dict (l : List Instr) : (s.setPending l).dict = s.dict := rfl
@[simp] theorem State.setPending_tut (l : List Instr) : (s.setPending l).tut = s.tut := rfl
@[simp] theorem State.setPending_satchel (l : List Instr) : (s.setPending l).satchel = s.satchel := rfl
@[simp] theorem State.setPending_ct (l : List Instr) : (s.setPending l).ct = s.ct := rfl
@[simp] theorem State.setPending_clk (l : List Instr) : (s.setPending l).clk = s.clk := rfl
@[simp] theorem State.setPending_sar (l : List Instr) : (s.setPending l).sar = s.sar := rfl
@[simp] theorem State.setPending_integ (l : List Instr) : (s.setPending l).integ = s.integ := rfl
@[simp] theorem State.setPending_lib (l : List Instr) : (s.setPending l).lib = s.lib := rfl
@[simp] theorem State.setPending_sd (l : List Instr) : (s.setPending l).sd = s.sd := rfl
@[simp] theorem State.setPending_trip (l : List Instr) : (s.setPending l).trip = s.trip := rfl
@[simp] theorem State.setPending_pwm (l : List Instr) : (s.setPending l).pwm = s.pwm := rfl
@[simp] theorem State.setPending_gate (l : List Instr) : (s.setPending l).gate = s.gate := rfl
@[simp] theorem State.setPending_eng (l : List Instr) : (s.setPending l).eng = s.eng := rfl
@[simp] theorem State.setPending_ship (l : List Instr) : (s.setPending l).ship = s.ship := rfl
@[simp] theorem State.setPending_bur (l : List Instr) : (s.setPending l).bur = s.bur := rfl
@[simp] theorem State.setPending_pf (l : List Instr) : (s.setPending l).pf = s.pf := rfl
@[simp] theorem State.fld_setPending (l : List Instr) (x : Fld) (j : Nat) : (s.setPending l).fld x j = s.fld x j := rfl

/-! ### What the named updates write -/

theorem modAt_self {α : Type} {l : List α} {i : Nat} (d : α) (f : α → α) (h : i < l.length) :
    (modAt l i d f).getD i d = f (l.getD i d) := by
  simp [modAt, List.getD, h]

theorem modAt_ne {α : Type} (l : List α) {i j : Nat} (d : α) (f : α → α) (h : j ≠ i) :
    (modAt l i d f).getD j d = l.getD j d := by
  simp [modAt, List.getD, h.symm]

@[simp] theorem modAt_length {α : Type} (l : List α) (i : Nat) (d : α) (f : α → α) : (modAt l i d f).length = l.length := by
  simp [modAt]

theorem State.pm_modPm {m : Nat} (f : PwmMod → PwmMod) (h : m < s.pwm.mods.length) : (s.modPm m f).pm m = f (s.pm m) :=
  modAt_self _ _ h
theorem State.pm_modPm_ne {m j : Nat} (f : PwmMod → PwmMod) (h : j ≠ m) : (s.modPm m f).pm j = s.pm j := modAt_ne _ _ _ h
theorem State.engine_modEngine {n : Nat} (f : Engine → Engine) (h : n < s.eng.engines.length) : (s.modEngine n f).engine n = f (s.engine n) :=
  modAt_self _ _ h
theorem State.engine_modEngine_ne {n j : Nat} (f : Engine → Engine) (h : j ≠ n) : (s.modEngine n f).engine j = s.engine j := modAt_ne _ _ _ h
theorem State.chan_modChan {n : Nat} (f : ModChan → ModChan) (h : n < s.sd.length) : (s.modChan n f).chan n = f (s.chan n) :=
  modAt_self _ _ h
theorem State.chan_modChan_ne {n j : Nat} (f : ModChan → ModChan) (h : j ≠ n) : (s.modChan n f).chan j = s.chan j := modAt_ne _ _ _ h
theorem State.slot_modSlot {k : Nat} (f : SarSlot → SarSlot) (h : k < s.sar.slots.length) : (s.modSlot k f).slot k = f (s.slot k) :=
  modAt_self _ _ h
theorem State.slot_modSlot_ne {k j : Nat} (f : SarSlot → SarSlot) (h : j ≠ k) : (s.modSlot k f).slot j = s.slot j := modAt_ne _ _ _ h
theorem State.group_modGroup {g : Nat} (f : Group → Group) (h : g < s.dict.groups.length) : (s.modGroup g f).group g = f (s.group g) :=
  modAt_self _ _ h
theorem State.group_modGroup_ne {g j : Nat} (f : Group → Group) (h : j ≠ g) : (s.modGroup g f).group j = s.group j := modAt_ne _ _ _ h
theorem State.point_modPoint {q : Nat} (f : BurPoint → BurPoint) (h : q < s.bur.points.length) : (s.modPoint q f).point q = f (s.point q) :=
  modAt_self _ _ h
theorem State.point_modPoint_ne {q j : Nat} (f : BurPoint → BurPoint) (h : j ≠ q) : (s.modPoint q f).point j = s.point j := modAt_ne _ _ _ h
theorem State.wc_modWc {c : Nat} (f : CompChan → CompChan) (h : c < s.trip.chans.length) : (s.modWc c f).wc c = f (s.wc c) :=
  modAt_self _ _ h
theorem State.wc_modWc_ne {c j : Nat} (f : CompChan → CompChan) (h : j ≠ c) : (s.modWc c f).wc j = s.wc j := modAt_ne _ _ _ h

@[simp] theorem State.fresh_snd (w : Nat) : (s.fresh w).2 = { s with freeCtr := s.freeCtr + 1 } := rfl

end
end Sys2Proof.Machine
end

