-- ==== Sys2Proof/Laws/Still.lean ====
section
/-!
SUPPORT. Which register fields an operation leaves alone, as one fact about a state: field `F` of instance `I` reads `V`. One
lemma per way an operation is put together; the files Laws/Still… hold, per operation, the fields it can write as a number
whose bits go by the fields' order in Machine/Fields.lean, and the lemma that every other field stays.
-/
namespace Sys2Proof.Machine

/-- Field `F` of instance `I` reads `V`. -/
def Still (F : Fld) (I V : Nat) (s : State) : Prop := s.fld F I = V

/-- The same of the state a command answers. -/
def StillOut (F : Fld) (I V : Nat) (o : Out) : Prop := ∀ t, o = .next t → Still F I V t

section
variable {F : Fld} {I V : Nat} {s : State}

theorem StillOut.next {t : State} (h : Still F I V t) : StillOut F I V (.next t) := by
  intro u e; cases e; exact h

theorem StillOut.ite {p : Prop} [Decidable p] {a b : Out} (ha : StillOut F I V a) (hb : StillOut F I V b) :
    StillOut F I V (if p then a else b) := by
  split <;> assumption

/-- A field that one operation leaves is left by one that writes less. -/
theorem Wr.sub {a b k : Nat} (h : a &&& b = a) (hb : b.testBit k = false) : a.testBit k = false := by
  rw [← h, Nat.testBit_and, hb, Bool.and_false]

theorem Still.upd {p tb fc rst bell fab dup sec ports dict tut sat ct clk sar integ lib sd trip pwm gate eng ship bur pf}
    (h : Still F I V s) :
    Still F I V ⟨p, s.regs, tb, fc, rst, bell, fab, dup, sec, ports, dict, tut, sat, ct, clk, sar, integ, lib, sd, trip, pwm,
      gate, eng, ship, bur, pf⟩ := h

theorem State.setFld_still (s : State) (g : Fld) (j w : Nat) {W : Nat} (hg : W.testBit g.ctorIdx = true)
    (hw : W.testBit F.ctorIdx = false) (h : Still F I V s) : Still F I V (s.setFld g j w) := by
  unfold Still at *
  rw [State.fld_setFld_ne]
  · exact h
  · rintro ⟨rfl, -⟩; rw [hg] at hw; cases hw

theorem State.setFlag_still (s : State) (g : Fld) (j : Nat) (b : Bool) {W : Nat} (hg : W.testBit g.ctorIdx = true)
    (hw : W.testBit F.ctorIdx = false) (h : Still F I V s) : Still F I V (s.setFlag g j b) :=
  s.setFld_still g j _ hg hw h

theorem State.setBit_still (s : State) (g : Fld) (j k : Nat) (b : Bool) {W : Nat} (hg : W.testBit g.ctorIdx = true)
    (hw : W.testBit F.ctorIdx = false) (h : Still F I V s) : Still F I V (s.setBit g j k b) :=
  s.setFld_still g j _ hg hw h

theorem State.count_still (s : State) (g : Fld) (j : Nat) {W : Nat} (hg : W.testBit g.ctorIdx = true)
    (hw : W.testBit F.ctorIdx = false) (h : Still F I V s) : Still F I V (s.count g j) :=
  s.setFld_still g j _ hg hw h

/-- A filter on the fields' numbers leaves every field whose number it keeps. -/
theorem Still.filter {p : Nat → Bool} {tb fc rst bell fab dup sec ports dict tut sat ct clk sar integ lib sd trip pwm gate eng
    ship bur pf q} (h : Still F I V s) (hp : p F.ctorIdx = true) :
    Still F I V ⟨q, s.regs.filter (fun e => p e.1.1), tb, fc, rst, bell, fab, dup, sec, ports, dict, tut, sat, ct, clk, sar,
      integ, lib, sd, trip, pwm, gate, eng, ship, bur, pf⟩ := by
  unfold Still State.fld at *
  show SMap.get (s.regs.filter (fun e => p e.1.1)) _ _ = V
  rw [SMap.get_filter]
  simp only [Fld.key, hp, if_true]
  exact h

theorem Still.eachMem {α : Type} {f : State → α → State} {l : List α} (h : Still F I V s)
    (hf : ∀ x ∈ l, ∀ t, Still F I V t → Still F I V (f t x)) : Still F I V (s.each l f) := by
  induction l generalizing s with
  | nil => exact h
  | cons x l ih => exact ih (hf x List.mem_cons_self s h) (fun y hy => hf y (List.mem_cons_of_mem _ hy))

theorem Still.ite {p : Prop} [Decidable p] {a b : State} (ha : Still F I V a) (hb : Still F I V b) :
    Still F I V (if p then a else b) := by
  split <;> assumption

theorem Still.iteSnd {α : Type} {p : Prop} [Decidable p] {a b : α × State} (ha : Still F I V a.2) (hb : Still F I V b.2) :
    Still F I V (if p then a else b).2 := by
  split <;> assumption

theorem Still.iteFst {α : Type} {p : Prop} [Decidable p] {a b : State × α} (ha : Still F I V a.1) (hb : Still F I V b.1) :
    Still F I V (if p then a else b).1 := by
  split <;> assumption

theorem Still.whenIf {b : Bool} {f : State → State} (h : Still F I V s) (hf : ∀ t, Still F I V t → Still F I V (f t)) :
    Still F I V (s.when b f) := by
  unfold State.when
  split
  · exact hf s h
  · exact h

theorem Still.foldl {α : Type} {f : State → α → State} {l : List α} (h : Still F I V s)
    (hf : ∀ t, Still F I V t → ∀ x, Still F I V (f t x)) : Still F I V (l.foldl f s) := by
  induction l generalizing s with
  | nil => exact h
  | cons x l ih => exact ih (hf s h x)

theorem Still.each {α : Type} {f : State → α → State} {l : List α} (h : Still F I V s)
    (hf : ∀ t, Still F I V t → ∀ x, Still F I V (f t x)) : Still F I V (s.each l f) := Still.foldl h hf

theorem Still.snd {α : Type} {p : α × State} {a : α} {t : State} (h : Still F I V p.2) (e : p = (a, t)) : Still F I V t := by
  subst e; exact h

theorem Still.fst {α : Type} {p : State × α} {a : α} {t : State} (h : Still F I V p.1) (e : p = (t, a)) : Still F I V t := by
  subst e; exact h

end
end Sys2Proof.Machine
end

