-- ==== Sys2Proof/Laws/Same.lean ====
section
/-!
SUPPORT. Which parts of State an operation leaves alone, as one fact about a state: it agrees in part `P` with a state `s0`. One
lemma per way an operation is put together; the files Laws/Same… hold, per operation, the parts it can change as a number whose
bits go by the parts' order in State, and the lemma that every other part stays.
-/
namespace Sys2Proof.Machine

/-- State `s` agrees with `s0` in part `P`. -/
def Same (P : Part) (s0 s : State) : Prop := P.same s s0

/-- The same of the state a command answers. -/
def SameOut (P : Part) (s0 : State) (o : Out) : Prop := ∀ t, o = .next t → Same P s0 t

section
variable {P : Part} {s0 s : State}

theorem Same.refl (P : Part) (s : State) : Same P s s := by cases P <;> rfl

theorem SameOut.next {t : State} (h : Same P s0 t) : SameOut P s0 (.next t) := by
  intro u e; cases e; exact h

theorem SameOut.ite {p : Prop} [Decidable p] {a b : Out} (ha : SameOut P s0 a) (hb : SameOut P s0 b) :
    SameOut P s0 (if p then a else b) := by
  split <;> assumption

/-- A record update, with the numbers of the parts it changes. -/
theorem Same.upd {W : Nat} {regs tb fc rst bell fab dup sec ports dict tut sat ct clk sar integ lib sd trip pwm gate eng ship bur
    pf} (hw : W.testBit P.ctorIdx = false) (h : Same P s0 s)
    (h1 : regs = s.regs ∨ W.testBit 1 = true)
    (h2 : tb = s.tb ∨ W.testBit 2 = true)
    (h3 : fc = s.freeCtr ∨ W.testBit 3 = true)
    (h4 : rst = s.rst ∨ W.testBit 4 = true)
    (h5 : bell = s.bell ∨ W.testBit 5 = true)
    (h6 : fab = s.fab ∨ W.testBit 6 = true)
    (h7 : dup = s.dup ∨ W.testBit 7 = true)
    (h8 : sec = s.sec ∨ W.testBit 8 = true)
    (h9 : ports = s.ports ∨ W.testBit 9 = true)
    (h10 : dict = s.dict ∨ W.testBit 10 = true)
    (h11 : tut = s.tut ∨ W.testBit 11 = true)
    (h12 : sat = s.satchel ∨ W.testBit 12 = true)
    (h13 : ct = s.ct ∨ W.testBit 13 = true)
    (h14 : clk = s.clk ∨ W.testBit 14 = true)
    (h15 : sar = s.sar ∨ W.testBit 15 = true)
    (h16 : integ = s.integ ∨ W.testBit 16 = true)
    (h17 : lib = s.lib ∨ W.testBit 17 = true)
    (h18 : sd = s.sd ∨ W.testBit 18 = true)
    (h19 : trip = s.trip ∨ W.testBit 19 = true)
    (h20 : pwm = s.pwm ∨ W.testBit 20 = true)
    (h21 : gate = s.gate ∨ W.testBit 21 = true)
    (h22 : eng = s.eng ∨ W.testBit 22 = true)
    (h23 : ship = s.ship ∨ W.testBit 23 = true)
    (h24 : bur = s.bur ∨ W.testBit 24 = true)
    (h25 : pf = s.pf ∨ W.testBit 25 = true) :
    Same P s0 ⟨s.pending, regs, tb, fc, rst, bell, fab, dup, sec, ports, dict, tut, sat, ct, clk, sar, integ, lib, sd, trip, pwm,
      gate, eng, ship, bur, pf⟩ := by
  cases P
  · exact h
  · rcases h1 with e | e
    · exact e.trans h
    · exact absurd (hw.symm.trans e) Bool.false_ne_true
  · rcases h2 with e | e
    · exact e.trans h
    · exact absurd (hw.symm.trans e) Bool.false_ne_true
  · rcases h3 with e | e
    · exact e.trans h
    · exact absurd (hw.symm.trans e) Bool.false_ne_true
  · rcases h4 with e | e
    · exact e.trans h
    · exact absurd (hw.symm.trans e) Bool.false_ne_true
  · rcases h5 with e | e
    · exact e.trans h
    · exact absurd (hw.symm.trans e) Bool.false_ne_true
  · rcases h6 with e | e
    · exact e.trans h
    · exact absurd (hw.symm.trans e) Bool.false_ne_true
  · rcases h7 with e | e
    · exact e.trans h
    · exact absurd (hw.symm.trans e) Bool.false_ne_true
  · rcases h8 with e | e
    · exact e.trans h
    · exact absurd (hw.symm.trans e) Bool.false_ne_true
  · rcases h9 with e | e
    · exact e.trans h
    · exact absurd (hw.symm.trans e) Bool.false_ne_true
  · rcases h10 with e | e
    · exact e.trans h
    · exact absurd (hw.symm.trans e) Bool.false_ne_true
  · rcases h11 with e | e
    · exact e.trans h
    · exact absurd (hw.symm.trans e) Bool.false_ne_true
  · rcases h12 with e | e
    · exact e.trans h
    · exact absurd (hw.symm.trans e) Bool.false_ne_true
  · rcases h13 with e | e
    · exact e.trans h
    · exact absurd (hw.symm.trans e) Bool.false_ne_true
  · rcases h14 with e | e
    · exact e.trans h
    · exact absurd (hw.symm.trans e) Bool.false_ne_true
  · rcases h15 with e | e
    · exact e.trans h
    · exact absurd (hw.symm.trans e) Bool.false_ne_true
  · rcases h16 with e | e
    · exact e.trans h
    · exact absurd (hw.symm.trans e) Bool.false_ne_true
  · rcases h17 with e | e
    · exact e.trans h
    · exact absurd (hw.symm.trans e) Bool.false_ne_true
  · rcases h18 with e | e
    · exact e.trans h
    · exact absurd (hw.symm.trans e) Bool.false_ne_true
  · rcases h19 with e | e
    · exact e.trans h
    · exact absurd (hw.symm.trans e) Bool.false_ne_true
  · rcases h20 with e | e
    · exact e.trans h
    · exact absurd (hw.symm.trans e) Bool.false_ne_true
  · rcases h21 with e | e
    · exact e.trans h
    · exact absurd (hw.symm.trans e) Bool.false_ne_true
  · rcases h22 with e | e
    · exact e.trans h
    · exact absurd (hw.symm.trans e) Bool.false_ne_true
  · rcases h23 with e | e
    · exact e.trans h
    · exact absurd (hw.symm.trans e) Bool.false_ne_true
  · rcases h24 with e | e
    · exact e.trans h
    · exact absurd (hw.symm.trans e) Bool.false_ne_true
  · rcases h25 with e | e
    · exact e.trans h
    · exact absurd (hw.symm.trans e) Bool.false_ne_true

/-! An update of one part. -/

theorem Same.updRegs {W : Nat} {x} (hx : W.testBit 1 = true) (hw : W.testBit P.ctorIdx = false) (h : Same P s0 s) :
    Same P s0 ⟨s.pending, x, s.tb, s.freeCtr, s.rst, s.bell, s.fab, s.dup, s.sec, s.ports, s.dict, s.tut, s.satchel,
      s.ct, s.clk, s.sar, s.integ, s.lib, s.sd, s.trip, s.pwm, s.gate, s.eng, s.ship, s.bur, s.pf⟩ :=
  Same.upd hw h (.inr hx) (.inl rfl) (.inl rfl) (.inl rfl) (.inl rfl) (.inl rfl) (.inl rfl) (.inl rfl) (.inl rfl) (.inl
      rfl) (.inl rfl) (.inl rfl) (.inl rfl) (.inl rfl) (.inl rfl) (.inl rfl) (.inl rfl) (.inl rfl) (.inl rfl) (.inl rfl) (.inl rfl) (.inl rfl) (.inl rfl) (.inl rfl) (.inl rfl)

theorem Same.updTb {W : Nat} {x} (hx : W.testBit 2 = true) (hw : W.testBit P.ctorIdx = false) (h : Same P s0 s) :
    Same P s0 ⟨s.pending, s.regs, x, s.freeCtr, s.rst, s.bell, s.fab, s.dup, s.sec, s.ports, s.dict, s.tut, s.satchel,
      s.ct, s.clk, s.sar, s.integ, s.lib, s.sd, s.trip, s.pwm, s.gate, s.eng, s.ship, s.bur, s.pf⟩ :=
  Same.upd hw h (.inl rfl) (.inr hx) (.inl rfl) (.inl rfl) (.inl rfl) (.inl rfl) (.inl rfl) (.inl rfl) (.inl rfl) (.inl
      rfl) (.inl rfl) (.inl rfl) (.inl rfl) (.inl rfl) (.inl rfl) (.inl rfl) (.inl rfl) (.inl rfl) (.inl rfl) (.inl rfl) (.inl rfl) (.inl rfl) (.inl rfl) (.inl rfl) (.inl rfl)

theorem Same.updFreeCtr {W : Nat} {x} (hx : W.testBit 3 = true) (hw : W.testBit P.ctorIdx = false) (h : Same P s0 s) :
    Same P s0 ⟨s.pending, s.regs, s.tb, x, s.rst, s.bell, s.fab, s.dup, s.sec, s.ports, s.dict, s.tut, s.satchel, s.ct,
      s.clk, s.sar, s.integ, s.lib, s.sd, s.trip, s.pwm, s.gate, s.eng, s.ship, s.bur, s.pf⟩ :=
  Same.upd hw h (.inl rfl) (.inl rfl) (.inr hx) (.inl rfl) (.inl rfl) (.inl rfl) (.inl rfl) (.inl rfl) (.inl rfl) (.inl
      rfl) (.inl rfl) (.inl rfl) (.inl rfl) (.inl rfl) (.inl rfl) (.inl rfl) (.inl rfl) (.inl rfl) (.inl rfl) (.inl rfl) (.inl rfl) (.inl rfl) (.inl rfl) (.inl rfl) (.inl rfl)

theorem Same.updRst {W : Nat} {x} (hx : W.testBit 4 = true) (hw : W.testBit P.ctorIdx = false) (h : Same P s0 s) :
    Same P s0 ⟨s.pending, s.regs, s.tb, s.freeCtr, x, s.bell, s.fab, s.dup, s.sec, s.ports, s.dict, s.tut, s.satchel,
      s.ct, s.clk, s.sar, s.integ, s.lib, s.sd, s.trip, s.pwm, s.gate, s.eng, s.ship, s.bur, s.pf⟩ :=
  Same.upd hw h (.inl rfl) (.inl rfl) (.inl rfl) (.inr hx) (.inl rfl) (.inl rfl) (.inl rfl) (.inl rfl) (.inl rfl) (.inl
      rfl) (.inl rfl) (.inl rfl) (.inl rfl) (.inl rfl) (.inl rfl) (.inl rfl) (.inl rfl) (.inl rfl) (.inl rfl) (.inl rfl) (.inl rfl) (.inl rfl) (.inl rfl) (.inl rfl) (.inl rfl)

theorem Same.updBell {W : Nat} {x} (hx : W.testBit 5 = true) (hw : W.testBit P.ctorIdx = false) (h : Same P s0 s) :
    Same P s0 ⟨s.pending, s.regs, s.tb, s.freeCtr, s.rst, x, s.fab, s.dup, s.sec, s.ports, s.dict, s.tut, s.satchel,
      s.ct, s.clk, s.sar, s.integ, s.lib, s.sd, s.trip, s.pwm, s.gate, s.eng, s.ship, s.bur, s.pf⟩ :=
  Same.upd hw h (.inl rfl) (.inl rfl) (.inl rfl) (.inl rfl) (.inr hx) (.inl rfl) (.inl rfl) (.inl rfl) (.inl rfl) (.inl
      rfl) (.inl rfl) (.inl rfl) (.inl rfl) (.inl rfl) (.inl rfl) (.inl rfl) (.inl rfl) (.inl rfl) (.inl rfl) (.inl rfl) (.inl rfl) (.inl rfl) (.inl rfl) (.inl rfl) (.inl rfl)

theorem Same.updFab {W : Nat} {x} (hx : W.testBit 6 = true) (hw : W.testBit P.ctorIdx = false) (h : Same P s0 s) :
    Same P s0 ⟨s.pending, s.regs, s.tb, s.freeCtr, s.rst, s.bell, x, s.dup, s.sec, s.ports, s.dict, s.tut, s.satchel,
      s.ct, s.clk, s.sar, s.integ, s.lib, s.sd, s.trip, s.pwm, s.gate, s.eng, s.ship, s.bur, s.pf⟩ :=
  Same.upd hw h (.inl rfl) (.inl rfl) (.inl rfl) (.inl rfl) (.inl rfl) (.inr hx) (.inl rfl) (.inl rfl) (.inl rfl) (.inl
      rfl) (.inl rfl) (.inl rfl) (.inl rfl) (.inl rfl) (.inl rfl) (.inl rfl) (.inl rfl) (.inl rfl) (.inl rfl) (.inl rfl) (.inl rfl) (.inl rfl) (.inl rfl) (.inl rfl) (.inl rfl)

theorem Same.updDup {W : Nat} {x} (hx : W.testBit 7 = true) (hw : W.testBit P.ctorIdx = false) (h : Same P s0 s) :
    Same P s0 ⟨s.pending, s.regs, s.tb, s.freeCtr, s.rst, s.bell, s.fab, x, s.sec, s.ports, s.dict, s.tut, s.satchel,
      s.ct, s.clk, s.sar, s.integ, s.lib, s.sd, s.trip, s.pwm, s.gate, s.eng, s.ship, s.bur, s.pf⟩ :=
  Same.upd hw h (.inl rfl) (.inl rfl) (.inl rfl) (.inl rfl) (.inl rfl) (.inl rfl) (.inr hx) (.inl rfl) (.inl rfl) (.inl
      rfl) (.inl rfl) (.inl rfl) (.inl rfl) (.inl rfl) (.inl rfl) (.inl rfl) (.inl rfl) (.inl rfl) (.inl rfl) (.inl rfl) (.inl rfl) (.inl rfl) (.inl rfl) (.inl rfl) (.inl rfl)

theorem Same.updSec {W : Nat} {x} (hx : W.testBit 8 = true) (hw : W.testBit P.ctorIdx = false) (h : Same P s0 s) :
    Same P s0 ⟨s.pending, s.regs, s.tb, s.freeCtr, s.rst, s.bell, s.fab, s.dup, x, s.ports, s.dict, s.tut, s.satchel,
      s.ct, s.clk, s.sar, s.integ, s.lib, s.sd, s.trip, s.pwm, s.gate, s.eng, s.ship, s.bur, s.pf⟩ :=
  Same.upd hw h (.inl rfl) (.inl rfl) (.inl rfl) (.inl rfl) (.inl rfl) (.inl rfl) (.inl rfl) (.inr hx) (.inl rfl) (.inl
      rfl) (.inl rfl) (.inl rfl) (.inl rfl) (.inl rfl) (.inl rfl) (.inl rfl) (.inl rfl) (.inl rfl) (.inl rfl) (.inl rfl) (.inl rfl) (.inl rfl) (.inl rfl) (.inl rfl) (.inl rfl)

theorem Same.updPorts {W : Nat} {x} (hx : W.testBit 9 = true) (hw : W.testBit P.ctorIdx = false) (h : Same P s0 s) :
    Same P s0 ⟨s.pending, s.regs, s.tb, s.freeCtr, s.rst, s.bell, s.fab, s.dup, s.sec, x, s.dict, s.tut, s.satchel,
      s.ct, s.clk, s.sar, s.integ, s.lib, s.sd, s.trip, s.pwm, s.gate, s.eng, s.ship, s.bur, s.pf⟩ :=
  Same.upd hw h (.inl rfl) (.inl rfl) (.inl rfl) (.inl rfl) (.inl rfl) (.inl rfl) (.inl rfl) (.inl rfl) (.inr hx) (.inl
      rfl) (.inl rfl) (.inl rfl) (.inl rfl) (.inl rfl) (.inl rfl) (.inl rfl) (.inl rfl) (.inl rfl) (.inl rfl) (.inl rfl) (.inl rfl) (.inl rfl) (.inl rfl) (.inl rfl) (.inl rfl)

theorem Same.updDict {W : Nat} {x} (hx : W.testBit 10 = true) (hw : W.testBit P.ctorIdx = false) (h : Same P s0 s) :
    Same P s0 ⟨s.pending, s.regs, s.tb, s.freeCtr, s.rst, s.bell, s.fab, s.dup, s.sec, s.ports, x, s.tut, s.satchel,
      s.ct, s.clk, s.sar, s.integ, s.lib, s.sd, s.trip, s.pwm, s.gate, s.eng, s.ship, s.bur, s.pf⟩ :=
  Same.upd hw h (.inl rfl) (.inl rfl) (.inl rfl) (.inl rfl) (.inl rfl) (.inl rfl) (.inl rfl) (.inl rfl) (.inl rfl)
      (.inr hx) (.inl rfl) (.inl rfl) (.inl rfl) (.inl rfl) (.inl rfl) (.inl rfl) (.inl rfl) (.inl rfl) (.inl rfl) (.inl rfl) (.inl rfl) (.inl rfl) (.inl rfl) (.inl rfl) (.inl rfl)

theorem Same.updTut {W : Nat} {x} (hx : W.testBit 11 = true) (hw : W.testBit P.ctorIdx = false) (h : Same P s0 s) :
    Same P s0 ⟨s.pending, s.regs, s.tb, s.freeCtr, s.rst, s.bell, s.fab, s.dup, s.sec, s.ports, s.dict, x, s.satchel,
      s.ct, s.clk, s.sar, s.integ, s.lib, s.sd, s.trip, s.pwm, s.gate, s.eng, s.ship, s.bur, s.pf⟩ :=
  Same.upd hw h (.inl rfl) (.inl rfl) (.inl rfl) (.inl rfl) (.inl rfl) (.inl rfl) (.inl rfl) (.inl rfl) (.inl rfl)
      (.inl rfl) (.inr hx) (.inl rfl) (.inl rfl) (.inl rfl) (.inl rfl) (.inl rfl) (.inl rfl) (.inl rfl) (.inl rfl) (.inl rfl) (.inl rfl) (.inl rfl) (.inl rfl) (.inl rfl) (.inl rfl)

theorem Same.updSatchel {W : Nat} {x} (hx : W.testBit 12 = true) (hw : W.testBit P.ctorIdx = false) (h : Same P s0 s) :
    Same P s0 ⟨s.pending, s.regs, s.tb, s.freeCtr, s.rst, s.bell, s.fab, s.dup, s.sec, s.ports, s.dict, s.tut, x, s.ct,
      s.clk, s.sar, s.integ, s.lib, s.sd, s.trip, s.pwm, s.gate, s.eng, s.ship, s.bur, s.pf⟩ :=
  Same.upd hw h (.inl rfl) (.inl rfl) (.inl rfl) (.inl rfl) (.inl rfl) (.inl rfl) (.inl rfl) (.inl rfl) (.inl rfl)
      (.inl rfl) (.inl rfl) (.inr hx) (.inl rfl) (.inl rfl) (.inl rfl) (.inl rfl) (.inl rfl) (.inl rfl) (.inl rfl) (.inl rfl) (.inl rfl) (.inl rfl) (.inl rfl) (.inl rfl) (.inl rfl)

theorem Same.updCt {W : Nat} {x} (hx : W.testBit 13 = true) (hw : W.testBit P.ctorIdx = false) (h : Same P s0 s) :
    Same P s0 ⟨s.pending, s.regs, s.tb, s.freeCtr, s.rst, s.bell, s.fab, s.dup, s.sec, s.ports, s.dict, s.tut,
      s.satchel, x, s.clk, s.sar, s.integ, s.lib, s.sd, s.trip, s.pwm, s.gate, s.eng, s.ship, s.bur, s.pf⟩ :=
  Same.upd hw h (.inl rfl) (.inl rfl) (.inl rfl) (.inl rfl) (.inl rfl) (.inl rfl) (.inl rfl) (.inl rfl) (.inl rfl)
      (.inl rfl) (.inl rfl) (.inl rfl) (.inr hx) (.inl rfl) (.inl rfl) (.inl rfl) (.inl rfl) (.inl rfl) (.inl rfl) (.inl rfl) (.inl rfl) (.inl rfl) (.inl rfl) (.inl rfl) (.inl rfl)

theorem Same.updClk {W : Nat} {x} (hx : W.testBit 14 = true) (hw : W.testBit P.ctorIdx = false) (h : Same P s0 s) :
    Same P s0 ⟨s.pending, s.regs, s.tb, s.freeCtr, s.rst, s.bell, s.fab, s.dup, s.sec, s.ports, s.dict, s.tut,
      s.satchel, s.ct, x, s.sar, s.integ, s.lib, s.sd, s.trip, s.pwm, s.gate, s.eng, s.ship, s.bur, s.pf⟩ :=
  Same.upd hw h (.inl rfl) (.inl rfl) (.inl rfl) (.inl rfl) (.inl rfl) (.inl rfl) (.inl rfl) (.inl rfl) (.inl rfl)
      (.inl rfl) (.inl rfl) (.inl rfl) (.inl rfl) (.inr hx) (.inl rfl) (.inl rfl) (.inl rfl) (.inl rfl) (.inl rfl) (.inl rfl) (.inl rfl) (.inl rfl) (.inl rfl) (.inl rfl) (.inl rfl)

theorem Same.updSar {W : Nat} {x} (hx : W.testBit 15 = true) (hw : W.testBit P.ctorIdx = false) (h : Same P s0 s) :
    Same P s0 ⟨s.pending, s.regs, s.tb, s.freeCtr, s.rst, s.bell, s.fab, s.dup, s.sec, s.ports, s.dict, s.tut,
      s.satchel, s.ct, s.clk, x, s.integ, s.lib, s.sd, s.trip, s.pwm, s.gate, s.eng, s.ship, s.bur, s.pf⟩ :=
  Same.upd hw h (.inl rfl) (.inl rfl) (.inl rfl) (.inl rfl) (.inl rfl) (.inl rfl) (.inl rfl) (.inl rfl) (.inl rfl)
      (.inl rfl) (.inl rfl) (.inl rfl) (.inl rfl) (.inl rfl) (.inr hx) (.inl rfl) (.inl rfl) (.inl rfl) (.inl rfl) (.inl rfl) (.inl rfl) (.inl rfl) (.inl rfl) (.inl rfl) (.inl rfl)

theorem Same.updInteg {W : Nat} {x} (hx : W.testBit 16 = true) (hw : W.testBit P.ctorIdx = false) (h : Same P s0 s) :
    Same P s0 ⟨s.pending, s.regs, s.tb, s.freeCtr, s.rst, s.bell, s.fab, s.dup, s.sec, s.ports, s.dict, s.tut,
      s.satchel, s.ct, s.clk, s.sar, x, s.lib, s.sd, s.trip, s.pwm, s.gate, s.eng, s.ship, s.bur, s.pf⟩ :=
  Same.upd hw h (.inl rfl) (.inl rfl) (.inl rfl) (.inl rfl) (.inl rfl) (.inl rfl) (.inl rfl) (.inl rfl) (.inl rfl)
      (.inl rfl) (.inl rfl) (.inl rfl) (.inl rfl) (.inl rfl) (.inl rfl) (.inr hx) (.inl rfl) (.inl rfl) (.inl rfl) (.inl rfl) (.inl rfl) (.inl rfl) (.inl rfl) (.inl rfl) (.inl rfl)

theorem Same.updLib {W : Nat} {x} (hx : W.testBit 17 = true) (hw : W.testBit P.ctorIdx = false) (h : Same P s0 s) :
    Same P s0 ⟨s.pending, s.regs, s.tb, s.freeCtr, s.rst, s.bell, s.fab, s.dup, s.sec, s.ports, s.dict, s.tut,
      s.satchel, s.ct, s.clk, s.sar, s.integ, x, s.sd, s.trip, s.pwm, s.gate, s.eng, s.ship, s.bur, s.pf⟩ :=
  Same.upd hw h (.inl rfl) (.inl rfl) (.inl rfl) (.inl rfl) (.inl rfl) (.inl rfl) (.inl rfl) (.inl rfl) (.inl rfl)
      (.inl rfl) (.inl rfl) (.inl rfl) (.inl rfl) (.inl rfl) (.inl rfl) (.inl rfl) (.inr hx) (.inl rfl) (.inl rfl) (.inl rfl) (.inl rfl) (.inl rfl) (.inl rfl) (.inl rfl) (.inl rfl)

theorem Same.updSd {W : Nat} {x} (hx : W.testBit 18 = true) (hw : W.testBit P.ctorIdx = false) (h : Same P s0 s) :
    Same P s0 ⟨s.pending, s.regs, s.tb, s.freeCtr, s.rst, s.bell, s.fab, s.dup, s.sec, s.ports, s.dict, s.tut,
      s.satchel, s.ct, s.clk, s.sar, s.integ, s.lib, x, s.trip, s.pwm, s.gate, s.eng, s.ship, s.bur, s.pf⟩ :=
  Same.upd hw h (.inl rfl) (.inl rfl) (.inl rfl) (.inl rfl) (.inl rfl) (.inl rfl) (.inl rfl) (.inl rfl) (.inl rfl)
      (.inl rfl) (.inl rfl) (.inl rfl) (.inl rfl) (.inl rfl) (.inl rfl) (.inl rfl) (.inl rfl) (.inr hx) (.inl rfl) (.inl rfl) (.inl rfl) (.inl rfl) (.inl rfl) (.inl rfl) (.inl rfl)

theorem Same.updTrip {W : Nat} {x} (hx : W.testBit 19 = true) (hw : W.testBit P.ctorIdx = false) (h : Same P s0 s) :
    Same P s0 ⟨s.pending, s.regs, s.tb, s.freeCtr, s.rst, s.bell, s.fab, s.dup, s.sec, s.ports, s.dict, s.tut,
      s.satchel, s.ct, s.clk, s.sar, s.integ, s.lib, s.sd, x, s.pwm, s.gate, s.eng, s.ship, s.bur, s.pf⟩ :=
  Same.upd hw h (.inl rfl) (.inl rfl) (.inl rfl) (.inl rfl) (.inl rfl) (.inl rfl) (.inl rfl) (.inl rfl) (.inl rfl)
      (.inl rfl) (.inl rfl) (.inl rfl) (.inl rfl) (.inl rfl) (.inl rfl) (.inl rfl) (.inl rfl) (.inl rfl) (.inr hx) (.inl rfl) (.inl rfl) (.inl rfl) (.inl rfl) (.inl rfl) (.inl rfl)

theorem Same.updPwm {W : Nat} {x} (hx : W.testBit 20 = true) (hw : W.testBit P.ctorIdx = false) (h : Same P s0 s) :
    Same P s0 ⟨s.pending, s.regs, s.tb, s.freeCtr, s.rst, s.bell, s.fab, s.dup, s.sec, s.ports, s.dict, s.tut,
      s.satchel, s.ct, s.clk, s.sar, s.integ, s.lib, s.sd, s.trip, x, s.gate, s.eng, s.ship, s.bur, s.pf⟩ :=
  Same.upd hw h (.inl rfl) (.inl rfl) (.inl rfl) (.inl rfl) (.inl rfl) (.inl rfl) (.inl rfl) (.inl rfl) (.inl rfl)
      (.inl rfl) (.inl rfl) (.inl rfl) (.inl rfl) (.inl rfl) (.inl rfl) (.inl rfl) (.inl rfl) (.inl rfl) (.inl rfl) (.inr hx) (.inl rfl) (.inl rfl) (.inl rfl) (.inl rfl) (.inl rfl)

theorem Same.updGate {W : Nat} {x} (hx : W.testBit 21 = true) (hw : W.testBit P.ctorIdx = false) (h : Same P s0 s) :
    Same P s0 ⟨s.pending, s.regs, s.tb, s.freeCtr, s.rst, s.bell, s.fab, s.dup, s.sec, s.ports, s.dict, s.tut,
      s.satchel, s.ct, s.clk, s.sar, s.integ, s.lib, s.sd, s.trip, s.pwm, x, s.eng, s.ship, s.bur, s.pf⟩ :=
  Same.upd hw h (.inl rfl) (.inl rfl) (.inl rfl) (.inl rfl) (.inl rfl) (.inl rfl) (.inl rfl) (.inl rfl) (.inl rfl)
      (.inl rfl) (.inl rfl) (.inl rfl) (.inl rfl) (.inl rfl) (.inl rfl) (.inl rfl) (.inl rfl) (.inl rfl) (.inl rfl) (.inl rfl) (.inr hx) (.inl rfl) (.inl rfl) (.inl rfl) (.inl rfl)

theorem Same.updEng {W : Nat} {x} (hx : W.testBit 22 = true) (hw : W.testBit P.ctorIdx = false) (h : Same P s0 s) :
    Same P s0 ⟨s.pending, s.regs, s.tb, s.freeCtr, s.rst, s.bell, s.fab, s.dup, s.sec, s.ports, s.dict, s.tut,
      s.satchel, s.ct, s.clk, s.sar, s.integ, s.lib, s.sd, s.trip, s.pwm, s.gate, x, s.ship, s.bur, s.pf⟩ :=
  Same.upd hw h (.inl rfl) (.inl rfl) (.inl rfl) (.inl rfl) (.inl rfl) (.inl rfl) (.inl rfl) (.inl rfl) (.inl rfl)
      (.inl rfl) (.inl rfl) (.inl rfl) (.inl rfl) (.inl rfl) (.inl rfl) (.inl rfl) (.inl rfl) (.inl rfl) (.inl rfl) (.inl rfl) (.inl rfl) (.inr hx) (.inl rfl) (.inl rfl) (.inl rfl)

theorem Same.updShip {W : Nat} {x} (hx : W.testBit 23 = true) (hw : W.testBit P.ctorIdx = false) (h : Same P s0 s) :
    Same P s0 ⟨s.pending, s.regs, s.tb, s.freeCtr, s.rst, s.bell, s.fab, s.dup, s.sec, s.ports, s.dict, s.tut,
      s.satchel, s.ct, s.clk, s.sar, s.integ, s.lib, s.sd, s.trip, s.pwm, s.gate, s.eng, x, s.bur, s.pf⟩ :=
  Same.upd hw h (.inl rfl) (.inl rfl) (.inl rfl) (.inl rfl) (.inl rfl) (.inl rfl) (.inl rfl) (.inl rfl) (.inl rfl)
      (.inl rfl) (.inl rfl) (.inl rfl) (.inl rfl) (.inl rfl) (.inl rfl) (.inl rfl) (.inl rfl) (.inl rfl) (.inl rfl) (.inl rfl) (.inl rfl) (.inl rfl) (.inr hx) (.inl rfl) (.inl rfl)

theorem Same.updBur {W : Nat} {x} (hx : W.testBit 24 = true) (hw : W.testBit P.ctorIdx = false) (h : Same P s0 s) :
    Same P s0 ⟨s.pending, s.regs, s.tb, s.freeCtr, s.rst, s.bell, s.fab, s.dup, s.sec, s.ports, s.dict, s.tut,
      s.satchel, s.ct, s.clk, s.sar, s.integ, s.lib, s.sd, s.trip, s.pwm, s.gate, s.eng, s.ship, x, s.pf⟩ :=
  Same.upd hw h (.inl rfl) (.inl rfl) (.inl rfl) (.inl rfl) (.inl rfl) (.inl rfl) (.inl rfl) (.inl rfl) (.inl rfl)
      (.inl rfl) (.inl rfl) (.inl rfl) (.inl rfl) (.inl rfl) (.inl rfl) (.inl rfl) (.inl rfl) (.inl rfl) (.inl rfl) (.inl rfl) (.inl rfl) (.inl rfl) (.inl rfl) (.inr hx) (.inl rfl)

theorem Same.updPf {W : Nat} {x} (hx : W.testBit 25 = true) (hw : W.testBit P.ctorIdx = false) (h : Same P s0 s) :
    Same P s0 ⟨s.pending, s.regs, s.tb, s.freeCtr, s.rst, s.bell, s.fab, s.dup, s.sec, s.ports, s.dict, s.tut,
      s.satchel, s.ct, s.clk, s.sar, s.integ, s.lib, s.sd, s.trip, s.pwm, s.gate, s.eng, s.ship, s.bur, x⟩ :=
  Same.upd hw h (.inl rfl) (.inl rfl) (.inl rfl) (.inl rfl) (.inl rfl) (.inl rfl) (.inl rfl) (.inl rfl) (.inl rfl)
      (.inl rfl) (.inl rfl) (.inl rfl) (.inl rfl) (.inl rfl) (.inl rfl) (.inl rfl) (.inl rfl) (.inl rfl) (.inl rfl) (.inl rfl) (.inl rfl) (.inl rfl) (.inl rfl) (.inl rfl) (.inr hx)

theorem Same.ite {p : Prop} [Decidable p] {a b : State} (ha : Same P s0 a) (hb : Same P s0 b) :
    Same P s0 (if p then a else b) := by
  split <;> assumption

theorem Same.iteSnd {α : Type} {p : Prop} [Decidable p] {a b : α × State} (ha : Same P s0 a.2) (hb : Same P s0 b.2) :
    Same P s0 (if p then a else b).2 := by
  split <;> assumption

theorem Same.iteFst {α : Type} {p : Prop} [Decidable p] {a b : State × α} (ha : Same P s0 a.1) (hb : Same P s0 b.1) :
    Same P s0 (if p then a else b).1 := by
  split <;> assumption

theorem Same.whenIf {b : Bool} {f : State → State} (h : Same P s0 s) (hf : ∀ t, Same P s0 t → Same P s0 (f t)) :
    Same P s0 (s.when b f) := by
  unfold State.when
  split
  · exact hf s h
  · exact h

theorem Same.foldl {α : Type} {f : State → α → State} {l : List α} (h : Same P s0 s)
    (hf : ∀ t, Same P s0 t → ∀ x, Same P s0 (f t x)) : Same P s0 (l.foldl f s) := by
  induction l generalizing s with
  | nil => exact h
  | cons x l ih => exact ih (hf s h x)

theorem Same.each {α : Type} {f : State → α → State} {l : List α} (h : Same P s0 s)
    (hf : ∀ t, Same P s0 t → ∀ x, Same P s0 (f t x)) : Same P s0 (s.each l f) := Same.foldl h hf

theorem Same.snd {α : Type} {p : α × State} {a : α} {t : State} (h : Same P s0 p.2) (e : p = (a, t)) : Same P s0 t := by
  subst e; exact h

theorem Same.fst {α : Type} {p : State × α} {a : α} {t : State} (h : Same P s0 p.1) (e : p = (t, a)) : Same P s0 t := by
  subst e; exact h

theorem Same.zeta {t : State} (h : Same P s0 t) : Same P s0 ⟨t.pending, t.regs, t.tb, t.freeCtr, t.rst, t.bell, t.fab, t.dup,
    t.sec, t.ports, t.dict, t.tut, t.satchel, t.ct, t.clk, t.sar, t.integ, t.lib, t.sd, t.trip, t.pwm, t.gate, t.eng, t.ship,
    t.bur, t.pf⟩ := h

end
end Sys2Proof.Machine
end

