-- ==== Sys2Proof/Laws/SameOps.lean ====
section
/-!
SUPPORT. Which parts of State the operations of Machine/Ops.lean can change (Laws/Same.lean), as bits by the part's number, and that
they leave every other as it was.
-/
namespace Sys2Proof.Machine

set_option linter.unusedTactic false
set_option linter.unreachableTactic false

def State.setFld_parts : Nat := 0x2
theorem State.setFld_same {P : Part} {s0 : State} (s : State) (f : Fld) (i : Nat) (v : Nat) (hw :
    State.setFld_parts.testBit P.ctorIdx = false) (h : Same P s0 s) :
    Same P s0 (State.setFld s f i v) := by
  unfold State.setFld
  repeat' first
    | with_reducible assumption
    | intro _
    | fail_if_no_progress with_reducible refine Same.updRegs (W := State.setFld_parts) (by decide) hw ?_
    | split
    | (with_reducible apply Same.zeta); split

def State.setFlag_parts : Nat := 0x2
theorem State.setFlag_same {P : Part} {s0 : State} (s : State) (f : Fld) (i : Nat) (b : Bool) (hw :
    State.setFlag_parts.testBit P.ctorIdx = false) (h : Same P s0 s) :
    Same P s0 (State.setFlag s f i b) := by
  unfold State.setFlag
  repeat' first
    | with_reducible assumption
    | intro _
    | with_reducible refine State.setFld_same _ _ _ _ (Wr.sub (by decide) hw) ?_
    | split
    | (with_reducible apply Same.zeta); split

def State.setBit_parts : Nat := 0x2
theorem State.setBit_same {P : Part} {s0 : State} (s : State) (f : Fld) (i : Nat) (b : Nat) (v : Bool) (hw :
    State.setBit_parts.testBit P.ctorIdx = false) (h : Same P s0 s) :
    Same P s0 (State.setBit s f i b v) := by
  unfold State.setBit
  repeat' first
    | with_reducible assumption
    | intro _
    | with_reducible refine State.setFld_same _ _ _ _ (Wr.sub (by decide) hw) ?_
    | split
    | (with_reducible apply Same.zeta); split

def State.count_parts : Nat := 0x2
theorem State.count_same {P : Part} {s0 : State} (s : State) (f : Fld) (i : optParam Nat 0) (hw : State.count_parts.testBit
    P.ctorIdx = false) (h : Same P s0 s) :
    Same P s0 (State.count s f i) := by
  unfold State.count
  repeat' first
    | with_reducible assumption
    | intro _
    | with_reducible refine State.setFld_same _ _ _ _ (Wr.sub (by decide) hw) ?_
    | split
    | (with_reducible apply Same.zeta); split

def State.setLocked_parts : Nat := 0x2
theorem State.setLocked_same {P : Part} {s0 : State} (s : State) (f : Fld) (i : Nat) (v : Nat) (hw :
    State.setLocked_parts.testBit P.ctorIdx = false) (h : Same P s0 s) :
    Same P s0 (State.setLocked s f i v) := by
  unfold State.setLocked
  repeat' first
    | with_reducible assumption
    | intro _
    | with_reducible refine State.setFld_same _ _ _ _ (Wr.sub (by decide) hw) ?_
    | with_reducible apply Same.ite
    | split
    | (with_reducible apply Same.zeta); split

def State.setAll_parts : Nat := 0x2
theorem State.setAll_same {P : Part} {s0 : State} (s : State) (l : FldMap) (hw : State.setAll_parts.testBit P.ctorIdx =
    false) (h : Same P s0 s) :
    Same P s0 (State.setAll s l) := by
  unfold State.setAll
  repeat' first
    | with_reducible assumption
    | intro _
    | with_reducible refine State.setLocked_same _ _ _ _ (Wr.sub (by decide) hw) ?_
    | with_reducible apply Same.each
    | split
    | (with_reducible apply Same.zeta); split

def State.fresh_parts : Nat := 0x8
theorem State.fresh_same {P : Part} {s0 : State} (s : State) (w : Nat) (hw : State.fresh_parts.testBit P.ctorIdx = false)
    (h : Same P s0 s) :
    Same P s0 (State.fresh s w).2 := by
  unfold State.fresh
  repeat' first
    | with_reducible assumption
    | intro _
    | fail_if_no_progress with_reducible refine Same.updFreeCtr (W := State.fresh_parts) (by decide) hw ?_
    | dsimp only
    | split
    | (with_reducible apply Same.zeta); split

def State.raiseCore_parts : Nat := 0x802
theorem State.raiseCore_same {P : Part} {s0 : State} (s : State) (core : Nat) (src : Nat) (hw :
    State.raiseCore_parts.testBit P.ctorIdx = false) (h : Same P s0 s) :
    Same P s0 (State.raiseCore s core src) := by
  unfold State.raiseCore
  repeat' first
    | with_reducible assumption
    | intro _
    | with_reducible refine State.setBit_same _ _ _ _ _ (Wr.sub (by decide) hw) ?_
    | fail_if_no_progress with_reducible refine Same.updTut (W := State.raiseCore_parts) (by decide) hw ?_
    | split
    | (with_reducible apply Same.zeta); split

def State.raise_parts : Nat := 0x802
theorem State.raise_same {P : Part} {s0 : State} (s : State) (w : Wing) (src : Nat) (hw : State.raise_parts.testBit
    P.ctorIdx = false) (h : Same P s0 s) :
    Same P s0 (State.raise s w src) := by
  unfold State.raise
  repeat' first
    | with_reducible assumption
    | intro _
    | with_reducible refine State.raiseCore_same _ _ _ (Wr.sub (by decide) hw) ?_
    | split
    | (with_reducible apply Same.zeta); split

def State.raiseRing_parts : Nat := 0x802
theorem State.raiseRing_same {P : Part} {s0 : State} (s : State) (q_1 : Nat) (hw : State.raiseRing_parts.testBit P.ctorIdx
    = false) (h : Same P s0 s) :
    Same P s0 (State.raiseRing s q_1) := by
  unfold State.raiseRing
  repeat' first
    | with_reducible assumption
    | intro _
    | with_reducible refine State.raise_same _ _ _ (Wr.sub (by decide) hw) ?_
    | with_reducible apply Same.each
    | split
    | (with_reducible apply Same.zeta); split

def State.emit_parts : Nat := 0xa02
theorem State.emit_same {P : Part} {s0 : State} (s : State) (b : Blk) (payload : Nat) (hw : State.emit_parts.testBit
    P.ctorIdx = false) (h : Same P s0 s) :
    Same P s0 (State.emit s b payload) := by
  unfold State.emit
  repeat' first
    | with_reducible assumption
    | intro _
    | with_reducible refine State.setFld_same _ _ _ _ (Wr.sub (by decide) hw) ?_
    | with_reducible refine State.raiseRing_same _ _ (Wr.sub (by decide) hw) ?_
    | with_reducible refine State.count_same _ _ _ (Wr.sub (by decide) hw) ?_
    | with_reducible apply Same.whenIf
    | with_reducible apply Same.ite
    | fail_if_no_progress with_reducible refine Same.updPorts (W := State.emit_parts) (by decide) hw ?_
    | split
    | (with_reducible apply Same.zeta); split

def State.event_parts : Nat := 0xa02
theorem State.event_same {P : Part} {s0 : State} (s : State) (b : Blk) (code : Nat) (detail : Nat) (ident : Nat) (hw :
    State.event_parts.testBit P.ctorIdx = false) (h : Same P s0 s) :
    Same P s0 (State.event s b code detail ident) := by
  unfold State.event
  repeat' first
    | with_reducible assumption
    | intro _
    | with_reducible refine State.emit_same _ _ _ (Wr.sub (by decide) hw) ?_
    | split
    | (with_reducible apply Same.zeta); split

def State.discarded_parts : Nat := 0xa02
theorem State.discarded_same {P : Part} {s0 : State} (s : State) (b : Blk) (addr : Nat) (hw : State.discarded_parts.testBit
    P.ctorIdx = false) (h : Same P s0 s) :
    Same P s0 (State.discarded s b addr) := by
  unfold State.discarded
  repeat' first
    | with_reducible assumption
    | intro _
    | with_reducible refine State.event_same _ _ _ _ _ (Wr.sub (by decide) hw) ?_
    | split
    | (with_reducible apply Same.zeta); split

def State.supplyEvent_parts : Nat := 0xa02
theorem State.supplyEvent_same {P : Part} {s0 : State} (s : State) (hw : State.supplyEvent_parts.testBit P.ctorIdx = false)
    (h : Same P s0 s) :
    Same P s0 (State.supplyEvent s) := by
  unfold State.supplyEvent
  repeat' first
    | with_reducible assumption
    | intro _
    | with_reducible refine State.event_same _ _ _ _ _ (Wr.sub (by decide) hw) ?_
    | split
    | (with_reducible apply Same.zeta); split

def State.clockEvent_parts : Nat := 0xa02
theorem State.clockEvent_same {P : Part} {s0 : State} (s : State) (hw : State.clockEvent_parts.testBit P.ctorIdx = false)
    (h : Same P s0 s) :
    Same P s0 (State.clockEvent s) := by
  unfold State.clockEvent
  repeat' first
    | with_reducible assumption
    | intro _
    | with_reducible refine State.event_same _ _ _ _ _ (Wr.sub (by decide) hw) ?_
    | split
    | (with_reducible apply Same.zeta); split

def State.roundFree_parts : Nat := 0x8
theorem State.roundFree_same {P : Part} {s0 : State} (s : State) (num : Int) (den : Nat) (hw :
    State.roundFree_parts.testBit P.ctorIdx = false) (h : Same P s0 s) :
    Same P s0 (State.roundFree s num den).2 := by
  unfold State.roundFree
  repeat' first
    | with_reducible assumption
    | intro _
    | with_reducible refine State.fresh_same _ _ (Wr.sub (by decide) hw) ?_
    | (with_reducible refine Same.snd ?_ (by assumption)); with_reducible refine State.fresh_same _ _ (Wr.sub (by decide) hw) ?_
    | with_reducible apply Same.ite
    | with_reducible apply Same.iteSnd
    | dsimp only
    | split
    | (with_reducible apply Same.zeta); split

def State.secEvent_parts : Nat := 0xa02
theorem State.secEvent_same {P : Part} {s0 : State} (s : State) (code : Nat) (wing : Nat) (slot : Nat) (reason : Nat) (addr
    : Nat) (hw : State.secEvent_parts.testBit P.ctorIdx = false) (h : Same P s0 s) :
    Same P s0 (State.secEvent s code wing slot reason addr) := by
  unfold State.secEvent
  repeat' first
    | with_reducible assumption
    | intro _
    | with_reducible refine State.emit_same _ _ _ (Wr.sub (by decide) hw) ?_
    | split
    | (with_reducible apply Same.zeta); split

def State.dupEvent_parts : Nat := 0xa02
theorem State.dupEvent_same {P : Part} {s0 : State} (s : State) (code : Nat) (w : Wing) (bits : Nat) (reason : Nat) (age :
    Nat) (seq : Nat) (ts : Nat) (hw : State.dupEvent_parts.testBit P.ctorIdx = false) (h : Same P s0 s) :
    Same P s0 (State.dupEvent s code w bits reason age seq ts) := by
  unfold State.dupEvent
  repeat' first
    | with_reducible assumption
    | intro _
    | with_reducible refine State.emit_same _ _ _ (Wr.sub (by decide) hw) ?_
    | split
    | (with_reducible apply Same.zeta); split

def State.violation_parts : Nat := 0xb02
theorem State.violation_same {P : Part} {s0 : State} (s : State) (init : Nat) (addr : Nat) (hw :
    State.violation_parts.testBit P.ctorIdx = false) (h : Same P s0 s) :
    Same P s0 (State.violation s init addr) := by
  unfold State.violation
  repeat' first
    | with_reducible assumption
    | intro _
    | with_reducible refine State.setFld_same _ _ _ _ (Wr.sub (by decide) hw) ?_
    | with_reducible refine State.secEvent_same _ _ _ _ _ _ (Wr.sub (by decide) hw) ?_
    | with_reducible apply Same.ite
    | fail_if_no_progress with_reducible refine Same.updSec (W := State.violation_parts) (by decide) hw ?_
    | split
    | (with_reducible apply Same.zeta); split

def State.coreFault_parts : Nat := 0x800
theorem State.coreFault_same {P : Part} {s0 : State} (s : State) (core : Nat) (cause : Nat) (addr : Nat) (hw :
    State.coreFault_parts.testBit P.ctorIdx = false) (h : Same P s0 s) :
    Same P s0 (State.coreFault s core cause addr) := by
  unfold State.coreFault
  repeat' first
    | with_reducible assumption
    | intro _
    | fail_if_no_progress with_reducible refine Same.updTut (W := State.coreFault_parts) (by decide) hw ?_
    | split
    | (with_reducible apply Same.zeta); split

def State.reads_parts : Nat := 0x800
theorem State.reads_same {P : Part} {s0 : State} (s : State) (v : Nat) (hw : State.reads_parts.testBit P.ctorIdx = false)
    (h : Same P s0 s) :
    Same P s0 (State.reads s v) := by
  unfold State.reads
  repeat' first
    | with_reducible assumption
    | intro _
    | fail_if_no_progress with_reducible refine Same.updTut (W := State.reads_parts) (by decide) hw ?_
    | split
    | (with_reducible apply Same.zeta); split

def State.setWindow_parts : Nat := 0x80
theorem State.setWindow_same {P : Part} {s0 : State} (s : State) (w : Wing) (t : Option Nat) (hw :
    State.setWindow_parts.testBit P.ctorIdx = false) (h : Same P s0 s) :
    Same P s0 (State.setWindow s w t) := by
  unfold State.setWindow
  repeat' first
    | with_reducible assumption
    | intro _
    | fail_if_no_progress with_reducible refine Same.updDup (W := State.setWindow_parts) (by decide) hw ?_
    | split
    | (with_reducible apply Same.zeta); split

theorem State.coreActs_same {P : Part} {s0 : State} (s : State) (core : Nat) (f : State → State) (h : Same P s0 s) (hf : ∀
    t, Same P s0 t → Same P s0 (f t)) :
    Same P s0 (State.coreActs s core f) := by
  unfold State.coreActs
  repeat' first
    | with_reducible assumption
    | intro _
    | with_reducible apply Same.ite
    | with_reducible apply hf
    | split
    | (with_reducible apply Same.zeta); split

def State.accessAs_parts : Nat := 0xb02
theorem State.accessAs_same {P : Part} {s0 : State} (s : State) (cause : Nat) (core : Nat) (addr : Nat) (ns : Bool) (f :
    State → State) (hw : State.accessAs_parts.testBit P.ctorIdx = false) (h : Same P s0 s) (hf : ∀ t, Same P s0 t → Same P
    s0 (f t)) :
    Same P s0 (State.accessAs s cause core addr ns f) := by
  unfold State.accessAs
  repeat' first
    | with_reducible assumption
    | intro _
    | with_reducible refine State.coreActs_same _ _ _ ?_ ?_
    | with_reducible refine State.coreFault_same _ _ _ _ (Wr.sub (by decide) hw) ?_
    | with_reducible refine State.violation_same _ _ _ (Wr.sub (by decide) hw) ?_
    | with_reducible apply Same.ite
    | with_reducible apply hf
    | split
    | (with_reducible apply Same.zeta); split

def State.access_parts : Nat := 0xb02
theorem State.access_same {P : Part} {s0 : State} (s : State) (core : Nat) (addr : Nat) (ns : Bool) (f : State → State) (hw
    : State.access_parts.testBit P.ctorIdx = false) (h : Same P s0 s) (hf : ∀ t, Same P s0 t → Same P s0 (f t)) :
    Same P s0 (State.access s core addr ns f) := by
  unfold State.access
  repeat' first
    | with_reducible assumption
    | intro _
    | with_reducible refine State.accessAs_same _ _ _ _ _ _ (Wr.sub (by decide) hw) ?_ ?_
    | with_reducible apply hf
    | split
    | (with_reducible apply Same.zeta); split

def State.loadBlk_parts : Nat := 0xb02
theorem State.loadBlk_same {P : Part} {s0 : State} (s : State) (core : Nat) (b : Blk) (addr : Nat) (f : State → State) (hw
    : State.loadBlk_parts.testBit P.ctorIdx = false) (h : Same P s0 s) (hf : ∀ t, Same P s0 t → Same P s0 (f t)) :
    Same P s0 (State.loadBlk s core b addr f) := by
  unfold State.loadBlk
  repeat' first
    | with_reducible assumption
    | intro _
    | with_reducible refine State.accessAs_same _ _ _ _ _ _ (Wr.sub (by decide) hw) ?_ ?_
    | with_reducible apply hf
    | split
    | (with_reducible apply Same.zeta); split

def State.accessBlk_parts : Nat := 0xb02
theorem State.accessBlk_same {P : Part} {s0 : State} (s : State) (core : Nat) (b : Blk) (addr : Nat) (f : State → State)
    (hw : State.accessBlk_parts.testBit P.ctorIdx = false) (h : Same P s0 s) (hf : ∀ t, Same P s0 t → Same P s0 (f t)) :
    Same P s0 (State.accessBlk s core b addr f) := by
  unfold State.accessBlk
  repeat' first
    | with_reducible assumption
    | intro _
    | with_reducible refine State.access_same _ _ _ _ _ (Wr.sub (by decide) hw) ?_ ?_
    | with_reducible apply hf
    | split
    | (with_reducible apply Same.zeta); split

def State.setWing_parts : Nat := 0x2
theorem State.setWing_same {P : Part} {s0 : State} (s : State) (w : Wing) (st : WingState) (hw :
    State.setWing_parts.testBit P.ctorIdx = false) (h : Same P s0 s) :
    Same P s0 (State.setWing s w st) := by
  unfold State.setWing
  repeat' first
    | with_reducible assumption
    | intro _
    | with_reducible refine State.setFld_same _ _ _ _ (Wr.sub (by decide) hw) ?_
    | split
    | (with_reducible apply Same.zeta); split

def State.modGroup_parts : Nat := 0x400
theorem State.modGroup_same {P : Part} {s0 : State} (s : State) (g : Nat) (f : Group → Group) (hw :
    State.modGroup_parts.testBit P.ctorIdx = false) (h : Same P s0 s) :
    Same P s0 (State.modGroup s g f) := by
  unfold State.modGroup
  repeat' first
    | with_reducible assumption
    | intro _
    | fail_if_no_progress with_reducible refine Same.updDict (W := State.modGroup_parts) (by decide) hw ?_
    | split
    | (with_reducible apply Same.zeta); split

def State.requestApply_parts : Nat := 0x20
theorem State.requestApply_same {P : Part} {s0 : State} (s : State) (who : Nat) (group : Nat) (mask : Nat) (hw :
    State.requestApply_parts.testBit P.ctorIdx = false) (h : Same P s0 s) :
    Same P s0 (State.requestApply s who group mask) := by
  unfold State.requestApply
  repeat' first
    | with_reducible assumption
    | intro _
    | fail_if_no_progress with_reducible refine Same.updBell (W := State.requestApply_parts) (by decide) hw ?_
    | split
    | (with_reducible apply Same.zeta); split

def State.requestBarrier_parts : Nat := 0x20
theorem State.requestBarrier_same {P : Part} {s0 : State} (s : State) (who : Nat) (ident : Nat) (hw :
    State.requestBarrier_parts.testBit P.ctorIdx = false) (h : Same P s0 s) :
    Same P s0 (State.requestBarrier s who ident) := by
  unfold State.requestBarrier
  repeat' first
    | with_reducible assumption
    | intro _
    | fail_if_no_progress with_reducible refine Same.updBell (W := State.requestBarrier_parts) (by decide) hw ?_
    | split
    | (with_reducible apply Same.zeta); split

def State.intEvent_parts : Nat := 0xa02
theorem State.intEvent_same {P : Part} {s0 : State} (s : State) (code : Nat) (unit : Nat) (loc : Nat) (addr : Nat) (nerr :
    Nat) (hw : State.intEvent_parts.testBit P.ctorIdx = false) (h : Same P s0 s) :
    Same P s0 (State.intEvent s code unit loc addr nerr) := by
  unfold State.intEvent
  repeat' first
    | with_reducible assumption
    | intro _
    | with_reducible refine State.emit_same _ _ _ (Wr.sub (by decide) hw) ?_
    | split
    | (with_reducible apply Same.zeta); split

def State.putRemain_parts : Nat := 0x2
theorem State.putRemain_same {P : Part} {s0 : State} (s : State) (l : Nat) (n : Nat) (hw : State.putRemain_parts.testBit
    P.ctorIdx = false) (h : Same P s0 s) :
    Same P s0 (State.putRemain s l n) := by
  unfold State.putRemain
  repeat' first
    | with_reducible assumption
    | intro _
    | with_reducible refine State.setFld_same _ _ _ _ (Wr.sub (by decide) hw) ?_
    | split
    | (with_reducible apply Same.zeta); split

def State.noteFloor_parts : Nat := 0xa02
theorem State.noteFloor_same {P : Part} {s0 : State} (s : State) (l : Nat) (was : Bool) (hw : State.noteFloor_parts.testBit
    P.ctorIdx = false) (h : Same P s0 s) :
    Same P s0 (State.noteFloor s l was) := by
  unfold State.noteFloor
  repeat' first
    | with_reducible assumption
    | intro _
    | with_reducible refine State.intEvent_same _ _ _ _ _ _ (Wr.sub (by decide) hw) ?_
    | with_reducible refine State.setFld_same _ _ _ _ (Wr.sub (by decide) hw) ?_
    | with_reducible apply Same.whenIf
    | split
    | (with_reducible apply Same.zeta); split

def State.setRemain_parts : Nat := 0xa02
theorem State.setRemain_same {P : Part} {s0 : State} (s : State) (l : Nat) (n : Nat) (hw : State.setRemain_parts.testBit
    P.ctorIdx = false) (h : Same P s0 s) :
    Same P s0 (State.setRemain s l n) := by
  unfold State.setRemain
  repeat' first
    | with_reducible assumption
    | intro _
    | with_reducible refine State.noteFloor_same _ _ _ (Wr.sub (by decide) hw) ?_
    | with_reducible refine State.putRemain_same _ _ _ (Wr.sub (by decide) hw) ?_
    | split
    | (with_reducible apply Same.zeta); split

def State.consumeSpare_parts : Nat := 0xa02
theorem State.consumeSpare_same {P : Part} {s0 : State} (s : State) (l : Nat) (hw : State.consumeSpare_parts.testBit
    P.ctorIdx = false) (h : Same P s0 s) :
    Same P s0 (State.consumeSpare s l) := by
  unfold State.consumeSpare
  repeat' first
    | with_reducible assumption
    | intro _
    | with_reducible refine State.setRemain_same _ _ _ (Wr.sub (by decide) hw) ?_
    | split
    | (with_reducible apply Same.zeta); split

def State.recordRepair_parts : Nat := 0x10a02
theorem State.recordRepair_same {P : Part} {s0 : State} (s : State) (kind : Nat) (unit : Nat) (loc : Nat) (spare : Nat) (hw
    : State.recordRepair_parts.testBit P.ctorIdx = false) (h : Same P s0 s) :
    Same P s0 (State.recordRepair s kind unit loc spare) := by
  unfold State.recordRepair
  repeat' first
    | with_reducible assumption
    | intro _
    | with_reducible refine State.setFld_same _ _ _ _ (Wr.sub (by decide) hw) ?_
    | with_reducible refine State.intEvent_same _ _ _ _ _ _ (Wr.sub (by decide) hw) ?_
    | with_reducible apply Same.ite
    | fail_if_no_progress with_reducible refine Same.updInteg (W := State.recordRepair_parts) (by decide) hw ?_
    | split
    | (with_reducible apply Same.zeta); split

def State.standbyReserve_parts : Nat := 0xa02
theorem State.standbyReserve_same {P : Part} {s0 : State} (s : State) (there : Bool) (hw :
    State.standbyReserve_parts.testBit P.ctorIdx = false) (h : Same P s0 s) :
    Same P s0 (State.standbyReserve s there) := by
  unfold State.standbyReserve
  repeat' first
    | with_reducible assumption
    | intro _
    | with_reducible refine State.setRemain_same _ _ _ (Wr.sub (by decide) hw) ?_
    | with_reducible apply Same.ite
    | split
    | (with_reducible apply Same.zeta); split

end Sys2Proof.Machine
end

