-- ==== Sys2Proof/Laws/StillOps.lean ====
section
/-!
SUPPORT. Which register fields the operations of Machine/Ops.lean can write (Laws/Still.lean), as bits by the field's number, and
that they leave every other as it was.
-/
namespace Sys2Proof.Machine

set_option linter.unusedTactic false
set_option linter.unreachableTactic false

def State.setLocked_writes : Nat :=
    0x38003607ffffc40073000c0001f87fffc00000000ffff0003ffc47e1007c7ff0e0007fc000c00000000000000000000000000000
theorem State.setLocked_still {F : Fld} {I V : Nat} (s : State) (f : Fld) (i : Nat) (v : Nat) (hw :
    State.setLocked_writes.testBit F.ctorIdx = false) (h : Still F I V s) :
    Still F I V (State.setLocked s f i v) := by
  have key : ∀ g : Fld, g.acc = .rwl → State.setLocked_writes.testBit g.ctorIdx = true := by
    have hk : ∀ n < 700, (Fld.ofNat n).acc = .rwl → State.setLocked_writes.testBit (Fld.ofNat n).ctorIdx = true := by
      decide +kernel
    intro g hg
    have := hk g.ctorIdx g.ctorIdx_lt
    rw [Fld.ofNat_ctorIdx] at this
    exact this hg
  unfold State.setLocked
  split
  · exact State.setFld_still _ _ _ _ (key _ ‹_›) hw h
  · exact h

def State.setAll_writes : Nat :=
    0x38003607ffffc40073000c0001f87fffc00000000ffff0003ffc47e1007c7ff0e0007fc000c00000000000000000000000000000
theorem State.setAll_still {F : Fld} {I V : Nat} (s : State) (l : FldMap) (hw : State.setAll_writes.testBit F.ctorIdx =
    false) (h : Still F I V s) :
    Still F I V (State.setAll s l) := by
  unfold State.setAll
  repeat' first
    | with_reducible assumption
    | intro _
    | with_reducible refine State.setLocked_still _ _ _ _ (Wr.sub (by decide) hw) ?_
    | with_reducible apply Still.each
    | split
    | (with_reducible apply Still.upd); split

theorem State.fresh_still {F : Fld} {I V : Nat} (s : State) (w : Nat) (h : Still F I V s) :
    Still F I V (State.fresh s w).2 := by
  unfold State.fresh
  repeat' first
    | with_reducible assumption
    | intro _
    | fail_if_no_progress with_reducible apply Still.upd
    | dsimp only
    | split
    | (with_reducible apply Still.upd); split

def State.raiseCore_writes : Nat :=
    0x100000000000000000000000000000000000000000000000000000000000000000000000000000000000000000000000000000000000000000000000000000000000000000000000000000
theorem State.raiseCore_still {F : Fld} {I V : Nat} (s : State) (core : Nat) (src : Nat) (hw :
    State.raiseCore_writes.testBit F.ctorIdx = false) (h : Still F I V s) :
    Still F I V (State.raiseCore s core src) := by
  unfold State.raiseCore
  repeat' first
    | with_reducible assumption
    | intro _
    | with_reducible refine State.setBit_still _ _ _ _ _ (W := State.raiseCore_writes) ?_ hw ?_
    | decide
    | fail_if_no_progress with_reducible apply Still.upd
    | split
    | (with_reducible apply Still.upd); split

def State.raise_writes : Nat :=
    0x100000000000000000000000000000000000000000000000000000000000000000000000000000000000000000000000000000000000000000000000000000000000000000000000000000
theorem State.raise_still {F : Fld} {I V : Nat} (s : State) (w : Wing) (src : Nat) (hw : State.raise_writes.testBit
    F.ctorIdx = false) (h : Still F I V s) :
    Still F I V (State.raise s w src) := by
  unfold State.raise
  repeat' first
    | with_reducible assumption
    | intro _
    | with_reducible refine State.raiseCore_still _ _ _ (Wr.sub (by decide) hw) ?_
    | split
    | (with_reducible apply Still.upd); split

def State.raiseRing_writes : Nat :=
    0x100000000000000000000000000000000000000000000000000000000000000000000000000000000000000000000000000000000000000000000000000000000000000000000000000000
theorem State.raiseRing_still {F : Fld} {I V : Nat} (s : State) (q_1 : Nat) (hw : State.raiseRing_writes.testBit F.ctorIdx
    = false) (h : Still F I V s) :
    Still F I V (State.raiseRing s q_1) := by
  unfold State.raiseRing
  repeat' first
    | with_reducible assumption
    | intro _
    | with_reducible refine State.raise_still _ _ _ (Wr.sub (by decide) hw) ?_
    | with_reducible apply Still.each
    | split
    | (with_reducible apply Still.upd); split

def State.emit_writes : Nat :=
    0x100220000000000000000000000000000000000000000000000000000000000000000000000000000000000000000000000000000000000000000000000000000000000000000000000000
theorem State.emit_still {F : Fld} {I V : Nat} (s : State) (b : Blk) (payload : Nat) (hw : State.emit_writes.testBit
    F.ctorIdx = false) (h : Still F I V s) :
    Still F I V (State.emit s b payload) := by
  unfold State.emit
  repeat' first
    | with_reducible assumption
    | intro _
    | with_reducible refine State.setFld_still _ _ _ _ (W := State.emit_writes) ?_ hw ?_
    | with_reducible refine State.count_still _ _ _ (W := State.emit_writes) ?_ hw ?_
    | decide
    | with_reducible refine State.raiseRing_still _ _ (Wr.sub (by decide) hw) ?_
    | with_reducible apply Still.whenIf
    | with_reducible apply Still.ite
    | fail_if_no_progress with_reducible apply Still.upd
    | split
    | (with_reducible apply Still.upd); split

def State.event_writes : Nat :=
    0x100220000000000000000000000000000000000000000000000000000000000000000000000000000000000000000000000000000000000000000000000000000000000000000000000000
theorem State.event_still {F : Fld} {I V : Nat} (s : State) (b : Blk) (code : Nat) (detail : Nat) (ident : Nat) (hw :
    State.event_writes.testBit F.ctorIdx = false) (h : Still F I V s) :
    Still F I V (State.event s b code detail ident) := by
  unfold State.event
  repeat' first
    | with_reducible assumption
    | intro _
    | with_reducible refine State.emit_still _ _ _ (Wr.sub (by decide) hw) ?_
    | split
    | (with_reducible apply Still.upd); split

def State.discarded_writes : Nat :=
    0x100220000000000000000000000000000000000000000000000000000000000000000000000000000000000000000000000000000000000000000000000000000000000000000000000000
theorem State.discarded_still {F : Fld} {I V : Nat} (s : State) (b : Blk) (addr : Nat) (hw : State.discarded_writes.testBit
    F.ctorIdx = false) (h : Still F I V s) :
    Still F I V (State.discarded s b addr) := by
  unfold State.discarded
  repeat' first
    | with_reducible assumption
    | intro _
    | with_reducible refine State.event_still _ _ _ _ _ (Wr.sub (by decide) hw) ?_
    | split
    | (with_reducible apply Still.upd); split

def State.supplyEvent_writes : Nat :=
    0x100220000000000000000000000000000000000000000000000000000000000000000000000000000000000000000000000000000000000000000000000000000000000000000000000000
theorem State.supplyEvent_still {F : Fld} {I V : Nat} (s : State) (hw : State.supplyEvent_writes.testBit F.ctorIdx = false)
    (h : Still F I V s) :
    Still F I V (State.supplyEvent s) := by
  unfold State.supplyEvent
  repeat' first
    | with_reducible assumption
    | intro _
    | with_reducible refine State.event_still _ _ _ _ _ (Wr.sub (by decide) hw) ?_
    | split
    | (with_reducible apply Still.upd); split

def State.clockEvent_writes : Nat :=
    0x100220000000000000000000000000000000000000000000000000000000000000000000000000000000000000000000000000000000000000000000000000000000000000000000000000
theorem State.clockEvent_still {F : Fld} {I V : Nat} (s : State) (hw : State.clockEvent_writes.testBit F.ctorIdx = false)
    (h : Still F I V s) :
    Still F I V (State.clockEvent s) := by
  unfold State.clockEvent
  repeat' first
    | with_reducible assumption
    | intro _
    | with_reducible refine State.event_still _ _ _ _ _ (Wr.sub (by decide) hw) ?_
    | split
    | (with_reducible apply Still.upd); split

theorem State.roundFree_still {F : Fld} {I V : Nat} (s : State) (num : Int) (den : Nat) (h : Still F I V s) :
    Still F I V (State.roundFree s num den).2 := by
  unfold State.roundFree
  repeat' first
    | with_reducible assumption
    | intro _
    | with_reducible refine State.fresh_still _ _ ?_
    | (with_reducible refine Still.snd ?_ (by assumption)); with_reducible refine State.fresh_still _ _ ?_
    | with_reducible apply Still.ite
    | with_reducible apply Still.iteSnd
    | dsimp only
    | split
    | (with_reducible apply Still.upd); split

def State.secEvent_writes : Nat :=
    0x100220000000000000000000000000000000000000000000000000000000000000000000000000000000000000000000000000000000000000000000000000000000000000000000000000
theorem State.secEvent_still {F : Fld} {I V : Nat} (s : State) (code : Nat) (wing : Nat) (slot : Nat) (reason : Nat) (addr
    : Nat) (hw : State.secEvent_writes.testBit F.ctorIdx = false) (h : Still F I V s) :
    Still F I V (State.secEvent s code wing slot reason addr) := by
  unfold State.secEvent
  repeat' first
    | with_reducible assumption
    | intro _
    | with_reducible refine State.emit_still _ _ _ (Wr.sub (by decide) hw) ?_
    | split
    | (with_reducible apply Still.upd); split

def State.dupEvent_writes : Nat :=
    0x100220000000000000000000000000000000000000000000000000000000000000000000000000000000000000000000000000000000000000000000000000000000000000000000000000
theorem State.dupEvent_still {F : Fld} {I V : Nat} (s : State) (code : Nat) (w : Wing) (bits : Nat) (reason : Nat) (age :
    Nat) (seq : Nat) (ts : Nat) (hw : State.dupEvent_writes.testBit F.ctorIdx = false) (h : Still F I V s) :
    Still F I V (State.dupEvent s code w bits reason age seq ts) := by
  unfold State.dupEvent
  repeat' first
    | with_reducible assumption
    | intro _
    | with_reducible refine State.emit_still _ _ _ (Wr.sub (by decide) hw) ?_
    | split
    | (with_reducible apply Still.upd); split

def State.violation_writes : Nat :=
    0x100220000000000000000003000000000000000000000000000000000000000000000000000000000000000000000000000000000000000000000000000000000000000000000000000000
theorem State.violation_still {F : Fld} {I V : Nat} (s : State) (init : Nat) (addr : Nat) (hw :
    State.violation_writes.testBit F.ctorIdx = false) (h : Still F I V s) :
    Still F I V (State.violation s init addr) := by
  unfold State.violation
  repeat' first
    | with_reducible assumption
    | intro _
    | with_reducible refine State.setFld_still _ _ _ _ (W := State.violation_writes) ?_ hw ?_
    | decide
    | with_reducible refine State.secEvent_still _ _ _ _ _ _ (Wr.sub (by decide) hw) ?_
    | with_reducible apply Still.ite
    | fail_if_no_progress with_reducible apply Still.upd
    | split
    | (with_reducible apply Still.upd); split

theorem State.coreFault_still {F : Fld} {I V : Nat} (s : State) (core : Nat) (cause : Nat) (addr : Nat) (h : Still F I V s) :
    Still F I V (State.coreFault s core cause addr) := by
  unfold State.coreFault
  repeat' first
    | with_reducible assumption
    | intro _
    | fail_if_no_progress with_reducible apply Still.upd
    | split
    | (with_reducible apply Still.upd); split

theorem State.reads_still {F : Fld} {I V : Nat} (s : State) (v : Nat) (h : Still F I V s) :
    Still F I V (State.reads s v) := by
  unfold State.reads
  repeat' first
    | with_reducible assumption
    | intro _
    | fail_if_no_progress with_reducible apply Still.upd
    | split
    | (with_reducible apply Still.upd); split

theorem State.setWindow_still {F : Fld} {I V : Nat} (s : State) (w : Wing) (t : Option Nat) (h : Still F I V s) :
    Still F I V (State.setWindow s w t) := by
  unfold State.setWindow
  repeat' first
    | with_reducible assumption
    | intro _
    | fail_if_no_progress with_reducible apply Still.upd
    | split
    | (with_reducible apply Still.upd); split

theorem State.coreActs_still {F : Fld} {I V : Nat} (s : State) (core : Nat) (f : State → State) (h : Still F I V s) (hf : ∀
    t, Still F I V t → Still F I V (f t)) :
    Still F I V (State.coreActs s core f) := by
  unfold State.coreActs
  repeat' first
    | with_reducible assumption
    | intro _
    | with_reducible apply Still.ite
    | with_reducible apply hf
    | split
    | (with_reducible apply Still.upd); split

def State.accessAs_writes : Nat :=
    0x100220000000000000000003000000000000000000000000000000000000000000000000000000000000000000000000000000000000000000000000000000000000000000000000000000
theorem State.accessAs_still {F : Fld} {I V : Nat} (s : State) (cause : Nat) (core : Nat) (addr : Nat) (ns : Bool) (f :
    State → State) (hw : State.accessAs_writes.testBit F.ctorIdx = false) (h : Still F I V s) (hf : ∀ t, Still F I V t →
    Still F I V (f t)) :
    Still F I V (State.accessAs s cause core addr ns f) := by
  unfold State.accessAs
  repeat' first
    | with_reducible assumption
    | intro _
    | with_reducible refine State.coreActs_still _ _ _ ?_ ?_
    | with_reducible refine State.coreFault_still _ _ _ _ ?_
    | with_reducible refine State.violation_still _ _ _ (Wr.sub (by decide) hw) ?_
    | with_reducible apply Still.ite
    | with_reducible apply hf
    | split
    | (with_reducible apply Still.upd); split

def State.access_writes : Nat :=
    0x100220000000000000000003000000000000000000000000000000000000000000000000000000000000000000000000000000000000000000000000000000000000000000000000000000
theorem State.access_still {F : Fld} {I V : Nat} (s : State) (core : Nat) (addr : Nat) (ns : Bool) (f : State → State) (hw
    : State.access_writes.testBit F.ctorIdx = false) (h : Still F I V s) (hf : ∀ t, Still F I V t → Still F I V (f t)) :
    Still F I V (State.access s core addr ns f) := by
  unfold State.access
  repeat' first
    | with_reducible assumption
    | intro _
    | with_reducible refine State.accessAs_still _ _ _ _ _ _ (Wr.sub (by decide) hw) ?_ ?_
    | with_reducible apply hf
    | split
    | (with_reducible apply Still.upd); split

def State.loadBlk_writes : Nat :=
    0x100220000000000000000003000000000000000000000000000000000000000000000000000000000000000000000000000000000000000000000000000000000000000000000000000000
theorem State.loadBlk_still {F : Fld} {I V : Nat} (s : State) (core : Nat) (b : Blk) (addr : Nat) (f : State → State) (hw :
    State.loadBlk_writes.testBit F.ctorIdx = false) (h : Still F I V s) (hf : ∀ t, Still F I V t → Still F I V (f t)) :
    Still F I V (State.loadBlk s core b addr f) := by
  unfold State.loadBlk
  repeat' first
    | with_reducible assumption
    | intro _
    | with_reducible refine State.accessAs_still _ _ _ _ _ _ (Wr.sub (by decide) hw) ?_ ?_
    | with_reducible apply hf
    | split
    | (with_reducible apply Still.upd); split

def State.accessBlk_writes : Nat :=
    0x100220000000000000000003000000000000000000000000000000000000000000000000000000000000000000000000000000000000000000000000000000000000000000000000000000
theorem State.accessBlk_still {F : Fld} {I V : Nat} (s : State) (core : Nat) (b : Blk) (addr : Nat) (f : State → State) (hw
    : State.accessBlk_writes.testBit F.ctorIdx = false) (h : Still F I V s) (hf : ∀ t, Still F I V t → Still F I V (f t)) :
    Still F I V (State.accessBlk s core b addr f) := by
  unfold State.accessBlk
  repeat' first
    | with_reducible assumption
    | intro _
    | with_reducible refine State.access_still _ _ _ _ _ (Wr.sub (by decide) hw) ?_ ?_
    | with_reducible apply hf
    | split
    | (with_reducible apply Still.upd); split

def State.setWing_writes : Nat :=
    0x60000000000000000000000000000000000000000000000000000000000000000000000000000000000000000000000000000
theorem State.setWing_still {F : Fld} {I V : Nat} (s : State) (w : Wing) (st : WingState) (hw :
    State.setWing_writes.testBit F.ctorIdx = false) (h : Still F I V s) :
    Still F I V (State.setWing s w st) := by
  unfold State.setWing
  repeat' first
    | with_reducible assumption
    | intro _
    | with_reducible refine State.setFld_still _ _ _ _ (W := State.setWing_writes) ?_ hw ?_
    | decide
    | split
    | (with_reducible apply Still.upd); split

theorem State.modGroup_still {F : Fld} {I V : Nat} (s : State) (g : Nat) (f : Group → Group) (h : Still F I V s) :
    Still F I V (State.modGroup s g f) := by
  unfold State.modGroup
  repeat' first
    | with_reducible assumption
    | intro _
    | fail_if_no_progress with_reducible apply Still.upd
    | split
    | (with_reducible apply Still.upd); split

theorem State.requestApply_still {F : Fld} {I V : Nat} (s : State) (who : Nat) (group : Nat) (mask : Nat) (h : Still F I V
    s) :
    Still F I V (State.requestApply s who group mask) := by
  unfold State.requestApply
  repeat' first
    | with_reducible assumption
    | intro _
    | fail_if_no_progress with_reducible apply Still.upd
    | split
    | (with_reducible apply Still.upd); split

theorem State.requestBarrier_still {F : Fld} {I V : Nat} (s : State) (who : Nat) (ident : Nat) (h : Still F I V s) :
    Still F I V (State.requestBarrier s who ident) := by
  unfold State.requestBarrier
  repeat' first
    | with_reducible assumption
    | intro _
    | fail_if_no_progress with_reducible apply Still.upd
    | split
    | (with_reducible apply Still.upd); split

def State.intEvent_writes : Nat :=
    0x100220000000000000000000000000000000000000000000000000000000000000000000000000000000000000000000000000000000000000000000000000000000000000000000000000
theorem State.intEvent_still {F : Fld} {I V : Nat} (s : State) (code : Nat) (unit : Nat) (loc : Nat) (addr : Nat) (nerr :
    Nat) (hw : State.intEvent_writes.testBit F.ctorIdx = false) (h : Still F I V s) :
    Still F I V (State.intEvent s code unit loc addr nerr) := by
  unfold State.intEvent
  repeat' first
    | with_reducible assumption
    | intro _
    | with_reducible refine State.emit_still _ _ _ (Wr.sub (by decide) hw) ?_
    | split
    | (with_reducible apply Still.upd); split

def State.putRemain_writes : Nat :=
    0x600000000000000000000000000000000000000000000000000000000000000000000000000000000000000000000000000000000000000000
theorem State.putRemain_still {F : Fld} {I V : Nat} (s : State) (l : Nat) (n : Nat) (hw : State.putRemain_writes.testBit
    F.ctorIdx = false) (h : Still F I V s) :
    Still F I V (State.putRemain s l n) := by
  unfold State.putRemain
  repeat' first
    | with_reducible assumption
    | intro _
    | with_reducible refine State.setFld_still _ _ _ _ (W := State.putRemain_writes) ?_ hw ?_
    | decide
    | split
    | (with_reducible apply Still.upd); split

def State.noteFloor_writes : Nat :=
    0x100220000000000000000000000000000000000010000000000000000000000000000000000000000000000000000000000000000000000000000000000000000000000000000000000000
theorem State.noteFloor_still {F : Fld} {I V : Nat} (s : State) (l : Nat) (was : Bool) (hw : State.noteFloor_writes.testBit
    F.ctorIdx = false) (h : Still F I V s) :
    Still F I V (State.noteFloor s l was) := by
  unfold State.noteFloor
  repeat' first
    | with_reducible assumption
    | intro _
    | with_reducible refine State.setFld_still _ _ _ _ (W := State.noteFloor_writes) ?_ hw ?_
    | decide
    | with_reducible refine State.intEvent_still _ _ _ _ _ _ (Wr.sub (by decide) hw) ?_
    | with_reducible apply Still.whenIf
    | split
    | (with_reducible apply Still.upd); split

def State.setRemain_writes : Nat :=
    0x100220000000000000000000000000000000600010000000000000000000000000000000000000000000000000000000000000000000000000000000000000000000000000000000000000
theorem State.setRemain_still {F : Fld} {I V : Nat} (s : State) (l : Nat) (n : Nat) (hw : State.setRemain_writes.testBit
    F.ctorIdx = false) (h : Still F I V s) :
    Still F I V (State.setRemain s l n) := by
  unfold State.setRemain
  repeat' first
    | with_reducible assumption
    | intro _
    | with_reducible refine State.noteFloor_still _ _ _ (Wr.sub (by decide) hw) ?_
    | with_reducible refine State.putRemain_still _ _ _ (Wr.sub (by decide) hw) ?_
    | split
    | (with_reducible apply Still.upd); split

def State.consumeSpare_writes : Nat :=
    0x100220000000000000000000000000000000600010000000000000000000000000000000000000000000000000000000000000000000000000000000000000000000000000000000000000
theorem State.consumeSpare_still {F : Fld} {I V : Nat} (s : State) (l : Nat) (hw : State.consumeSpare_writes.testBit
    F.ctorIdx = false) (h : Still F I V s) :
    Still F I V (State.consumeSpare s l) := by
  unfold State.consumeSpare
  repeat' first
    | with_reducible assumption
    | intro _
    | with_reducible refine State.setRemain_still _ _ _ (Wr.sub (by decide) hw) ?_
    | split
    | (with_reducible apply Still.upd); split

def State.recordRepair_writes : Nat :=
    0x100220000000000000000000000000000000000208000000000000000000000000000000000000000000000000000000000000000000000000000000000000000000000000000000000000
theorem State.recordRepair_still {F : Fld} {I V : Nat} (s : State) (kind : Nat) (unit : Nat) (loc : Nat) (spare : Nat) (hw
    : State.recordRepair_writes.testBit F.ctorIdx = false) (h : Still F I V s) :
    Still F I V (State.recordRepair s kind unit loc spare) := by
  unfold State.recordRepair
  repeat' first
    | with_reducible assumption
    | intro _
    | with_reducible refine State.setFld_still _ _ _ _ (W := State.recordRepair_writes) ?_ hw ?_
    | decide
    | with_reducible refine State.intEvent_still _ _ _ _ _ _ (Wr.sub (by decide) hw) ?_
    | with_reducible apply Still.ite
    | fail_if_no_progress with_reducible apply Still.upd
    | split
    | (with_reducible apply Still.upd); split

def State.standbyReserve_writes : Nat :=
    0x100220000000000000000000000000000000600010000000000000000000000000000000000000000000000000000000000000000000000000000000000000000000000000000000000000
theorem State.standbyReserve_still {F : Fld} {I V : Nat} (s : State) (there : Bool) (hw :
    State.standbyReserve_writes.testBit F.ctorIdx = false) (h : Still F I V s) :
    Still F I V (State.standbyReserve s there) := by
  unfold State.standbyReserve
  repeat' first
    | with_reducible assumption
    | intro _
    | with_reducible refine State.setRemain_still _ _ _ (Wr.sub (by decide) hw) ?_
    | with_reducible apply Still.ite
    | split
    | (with_reducible apply Still.upd); split

end Sys2Proof.Machine
end

