-- ==== Sys2Proof/Laws/Event.lean ====
section
/-!
SUPPORT. Event records and interrupts: every kind of event is one `emit`, which leaves every part but the registers, the ports
and the Tutors alone, and among the registers writes only the head and drop count of Q10 and the pending sources of the
Tutors.
-/
namespace Sys2Proof.Machine

section
variable (s : State)

/-! ### Every event is one record -/

@[simp] theorem State.event_eq (b : Blk) (code detail ident : Nat) :
    s.event b code detail ident = s.emit b (genericPayload code detail ident s.ts) := rfl
@[simp] theorem State.discarded_eq (b : Blk) (addr : Nat) :
    s.discarded b addr = s.emit b (genericPayload 0x01 0 addr s.ts) := rfl
@[simp] theorem State.supplyEvent_eq :
    s.supplyEvent = s.emit .caretaker (genericPayload 0x08 0 s.ctStat s.ts) := rfl
@[simp] theorem State.clockEvent_eq :
    s.clockEvent = s.emit .caretaker (genericPayload 0x09 0 s.clkStat s.ts) := rfl
@[simp] theorem State.secEvent_eq (code wing slot reason addr : Nat) :
    s.secEvent code wing slot reason addr = s.emit .security (code % 256 + wing % 2 * 2 ^ 8 + slot % 8 * 2 ^ 9
      + reason % 16 * 2 ^ 12 + addr % 2 ^ 32 * 2 ^ 32 + s.ts * 2 ^ 64) := rfl
@[simp] theorem State.dupEvent_eq (code : Nat) (w : Wing) (bits reason age seq ts : Nat) :
    s.dupEvent code w bits reason age seq ts = s.emit .duplex (code % 256 + w.num * 2 ^ 8 + bits % 8 * 2 ^ 9
      + reason % 16 * 2 ^ 12 + min age 0xFFFF * 2 ^ 16 + seq % 2 ^ 32 * 2 ^ 32 + ts % 2 ^ 32 * 2 ^ 64) := rfl
@[simp] theorem State.intEvent_eq (code unit loc addr nerr : Nat) :
    s.intEvent code unit loc addr nerr = s.emit .integrity (code % 256 + unit % 256 * 2 ^ 8 + loc % 2 ^ 16 * 2 ^ 16
      + addr % 2 ^ 32 * 2 ^ 32 + nerr % 256 * 2 ^ 64 + s.ts * 2 ^ 96) := rfl

/-! ### Register fields -/

section
variable {p : List Instr} {tb fc rst bell fab dup sec ports dict tut sat ct clk sar integ lib sd trip pwm gate eng ship bur pf}

/-- A record update that leaves the registers alone leaves every field alone. -/
@[simp] theorem State.fld_upd (F : Fld) (I : Nat) : State.fld ⟨p, s.regs, tb, fc, rst, bell, fab, dup, sec, ports, dict, tut,
    sat, ct, clk, sar, integ, lib, sd, trip, pwm, gate, eng, ship, bur, pf⟩ F I = s.fld F I := rfl
@[simp] theorem State.flag_upd (F : Fld) (I : Nat) : State.flag ⟨p, s.regs, tb, fc, rst, bell, fab, dup, sec, ports, dict, tut,
    sat, ct, clk, sar, integ, lib, sd, trip, pwm, gate, eng, ship, bur, pf⟩ F I = s.flag F I := rfl
@[simp] theorem State.bit_upd (F : Fld) (I b : Nat) : State.bit ⟨p, s.regs, tb, fc, rst, bell, fab, dup, sec, ports, dict, tut,
    sat, ct, clk, sar, integ, lib, sd, trip, pwm, gate, eng, ship, bur, pf⟩ F I b = s.bit F I b := rfl
@[simp] theorem State.sfld_upd (F : Fld) (I : Nat) : State.sfld ⟨p, s.regs, tb, fc, rst, bell, fab, dup, sec, ports, dict, tut,
    sat, ct, clk, sar, integ, lib, sd, trip, pwm, gate, eng, ship, bur, pf⟩ F I = s.sfld F I := rfl
end

theorem Fld.width_pos (f : Fld) : 0 < f.width := by
  have h : ∀ k, k < 700 → ∀ g : Fld, g.ctorIdx = k → 0 < g.width := by
    intro k _ g _
    cases g <;> decide
  exact h _ f.ctorIdx_lt f rfl
@[simp] theorem Fld.toNat_mod (f : Fld) (b : Bool) : b.toNat % 2 ^ f.width = b.toNat :=
  Nat.mod_eq_of_lt (Nat.lt_of_lt_of_le b.toNat_lt (Nat.pow_le_pow_right Nat.two_pos f.width_pos))
@[simp] theorem Fld.one_mod (f : Fld) : 1 % 2 ^ f.width = 1 := f.toNat_mod true
@[simp] theorem toNat_bne_zero (b : Bool) : (b.toNat != 0) = b := by cases b <;> rfl

@[simp] theorem State.flag_setFld (f g : Fld) (i j v : Nat) :
    (s.setFld f i v).flag g j = if g = f ∧ j = i then v % 2 ^ f.width != 0 else s.flag g j := by
  unfold State.flag
  rw [State.fld_setFld]
  split <;> rfl
@[simp] theorem State.bit_setFld (f g : Fld) (i j v b : Nat) :
    (s.setFld f i v).bit g j b = if g = f ∧ j = i then (v % 2 ^ f.width).testBit b else s.bit g j b := by
  unfold State.bit
  rw [State.fld_setFld]
  split <;> rfl

theorem setBitTo_self (v i : Nat) (b : Bool) : (setBitTo v i b).testBit i = b := by
  unfold setBitTo
  cases b
  · simp only [Bool.false_eq_true, if_false]
    split
    · rename_i h
      have h1 := Nat.sub_mul_div v (2 ^ i) 1
      rw [Nat.mul_one] at h1
      rw [Nat.testBit_eq_decide_div_mod_eq] at h ⊢
      rw [h1]
      simp only [decide_eq_true_eq] at h
      simp only [decide_eq_false_iff_not]
      omega
    · rename_i h; simpa using h
  · simp [Nat.testBit_or, Nat.testBit_two_pow_self]

/-- A bit just written reads as it was written, where the field has it. -/
@[simp high] theorem State.bit_setBit (f : Fld) (i x b : Nat) (v : Bool) :
    (s.setFld f i (setBitTo x b v)).bit f i b = (decide (b < f.width) && v) := by
  rw [State.bit_setFld]
  simp [Nat.testBit_mod_two_pow, setBitTo_self]

@[simp] theorem State.raiseCore_fld {F : Fld} {I : Nat} (core src : Nat) (h : F ≠ .TUT_IPEND) :
    (s.raiseCore core src).fld F I = s.fld F I := s.fld_setFld_ne _ (fun e => h e.1)
@[simp] theorem State.raise_fld {F : Fld} {I : Nat} (w : Wing) (src : Nat) (h : F ≠ .TUT_IPEND) :
    (s.raise w src).fld F I = s.fld F I := by
  unfold State.raise
  rw [State.raiseCore_fld _ _ _ h, State.raiseCore_fld _ _ _ h]
@[simp] theorem State.raiseRing_fld {F : Fld} {I : Nat} (q : Nat) (h : F ≠ .TUT_IPEND) :
    (s.raiseRing q).fld F I = s.fld F I := by
  unfold State.raiseRing State.each
  generalize s.ringOwners q = l
  induction l generalizing s with
  | nil => rfl
  | cons w l ih => exact (ih _).trans (State.raise_fld _ _ _ h)
@[simp] theorem State.emit_fld {F : Fld} {I : Nat} (b : Blk) (p : Nat) (h : F ≠ .TUT_IPEND) (h1 : F ≠ .RING_HEAD_HEAD)
    (h2 : F ≠ .RING_STAT_DROP) : (s.emit b p).fld F I = s.fld F I := by
  have hw : State.emit_writes.testBit F.ctorIdx = false := by
    cases hc : State.emit_writes.testBit F.ctorIdx with
    | false => rfl
    | true =>
      exfalso
      have key : ∀ k, k < 700 → State.emit_writes.testBit k = true → k = Fld.TUT_IPEND.ctorIdx ∨
          k = Fld.RING_HEAD_HEAD.ctorIdx ∨ k = Fld.RING_STAT_DROP.ctorIdx := by decide +kernel
      rcases key _ F.ctorIdx_lt hc with e | e | e
      · exact h (Fld.ctorIdx_inj e)
      · exact h1 (Fld.ctorIdx_inj e)
      · exact h2 (Fld.ctorIdx_inj e)
  exact State.emit_still s b p hw rfl
@[simp] theorem State.emit_flag {F : Fld} {I : Nat} (b : Blk) (p : Nat) (h : F ≠ .TUT_IPEND) (h1 : F ≠ .RING_HEAD_HEAD)
    (h2 : F ≠ .RING_STAT_DROP) : (s.emit b p).flag F I = s.flag F I := by
  unfold State.flag; rw [State.emit_fld _ _ _ h h1 h2]
@[simp] theorem State.emit_bit {F : Fld} {I k : Nat} (b : Blk) (p : Nat) (h : F ≠ .TUT_IPEND) (h1 : F ≠ .RING_HEAD_HEAD)
    (h2 : F ≠ .RING_STAT_DROP) : (s.emit b p).bit F I k = s.bit F I k := by
  unfold State.bit; rw [State.emit_fld _ _ _ h h1 h2]

/-! ### raiseCore -/

@[simp] theorem State.raiseCore_pending (core src : Nat) : (s.raiseCore core src).pending = s.pending :=
  State.raiseCore_same (P := .pending) (s0 := s) s core src (by decide) rfl
@[simp] theorem State.raiseCore_tb (core src : Nat) : (s.raiseCore core src).tb = s.tb :=
  State.raiseCore_same (P := .tb) (s0 := s) s core src (by decide) rfl
@[simp] theorem State.raiseCore_freeCtr (core src : Nat) : (s.raiseCore core src).freeCtr = s.freeCtr :=
  State.raiseCore_same (P := .freeCtr) (s0 := s) s core src (by decide) rfl
@[simp] theorem State.raiseCore_rst (core src : Nat) : (s.raiseCore core src).rst = s.rst :=
  State.raiseCore_same (P := .rst) (s0 := s) s core src (by decide) rfl
@[simp] theorem State.raiseCore_bell (core src : Nat) : (s.raiseCore core src).bell = s.bell :=
  State.raiseCore_same (P := .bell) (s0 := s) s core src (by decide) rfl
@[simp] theorem State.raiseCore_fab (core src : Nat) : (s.raiseCore core src).fab = s.fab :=
  State.raiseCore_same (P := .fab) (s0 := s) s core src (by decide) rfl
@[simp] theorem State.raiseCore_dup (core src : Nat) : (s.raiseCore core src).dup = s.dup :=
  State.raiseCore_same (P := .dup) (s0 := s) s core src (by decide) rfl
@[simp] theorem State.raiseCore_sec (core src : Nat) : (s.raiseCore core src).sec = s.sec :=
  State.raiseCore_same (P := .sec) (s0 := s) s core src (by decide) rfl
@[simp] theorem State.raiseCore_ports (core src : Nat) : (s.raiseCore core src).ports = s.ports :=
  State.raiseCore_same (P := .ports) (s0 := s) s core src (by decide) rfl
@[simp] theorem State.raiseCore_dict (core src : Nat) : (s.raiseCore core src).dict = s.dict :=
  State.raiseCore_same (P := .dict) (s0 := s) s core src (by decide) rfl
@[simp] theorem State.raiseCore_satchel (core src : Nat) : (s.raiseCore core src).satchel = s.satchel :=
  State.raiseCore_same (P := .satchel) (s0 := s) s core src (by decide) rfl
@[simp] theorem State.raiseCore_ct (core src : Nat) : (s.raiseCore core src).ct = s.ct :=
  State.raiseCore_same (P := .ct) (s0 := s) s core src (by decide) rfl
@[simp] theorem State.raiseCore_clk (core src : Nat) : (s.raiseCore core src).clk = s.clk :=
  State.raiseCore_same (P := .clk) (s0 := s) s core src (by decide) rfl
@[simp] theorem State.raiseCore_sar (core src : Nat) : (s.raiseCore core src).sar = s.sar :=
  State.raiseCore_same (P := .sar) (s0 := s) s core src (by decide) rfl
@[simp] theorem State.raiseCore_integ (core src : Nat) : (s.raiseCore core src).integ = s.integ :=
  State.raiseCore_same (P := .integ) (s0 := s) s core src (by decide) rfl
@[simp] theorem State.raiseCore_lib (core src : Nat) : (s.raiseCore core src).lib = s.lib :=
  State.raiseCore_same (P := .lib) (s0 := s) s core src (by decide) rfl
@[simp] theorem State.raiseCore_sd (core src : Nat) : (s.raiseCore core src).sd = s.sd :=
  State.raiseCore_same (P := .sd) (s0 := s) s core src (by decide) rfl
@[simp] theorem State.raiseCore_trip (core src : Nat) : (s.raiseCore core src).trip = s.trip :=
  State.raiseCore_same (P := .trip) (s0 := s) s core src (by decide) rfl
@[simp] theorem State.raiseCore_pwm (core src : Nat) : (s.raiseCore core src).pwm = s.pwm :=
  State.raiseCore_same (P := .pwm) (s0 := s) s core src (by decide) rfl
@[simp] theorem State.raiseCore_gate (core src : Nat) : (s.raiseCore core src).gate = s.gate :=
  State.raiseCore_same (P := .gate) (s0 := s) s core src (by decide) rfl
@[simp] theorem State.raiseCore_eng (core src : Nat) : (s.raiseCore core src).eng = s.eng :=
  State.raiseCore_same (P := .eng) (s0 := s) s core src (by decide) rfl
@[simp] theorem State.raiseCore_ship (core src : Nat) : (s.raiseCore core src).ship = s.ship :=
  State.raiseCore_same (P := .ship) (s0 := s) s core src (by decide) rfl
@[simp] theorem State.raiseCore_bur (core src : Nat) : (s.raiseCore core src).bur = s.bur :=
  State.raiseCore_same (P := .bur) (s0 := s) s core src (by decide) rfl
@[simp] theorem State.raiseCore_pf (core src : Nat) : (s.raiseCore core src).pf = s.pf :=
  State.raiseCore_same (P := .pf) (s0 := s) s core src (by decide) rfl

/-! ### raise -/

@[simp] theorem State.raise_pending (w : Wing) (src : Nat) : (s.raise w src).pending = s.pending :=
  State.raise_same (P := .pending) (s0 := s) s w src (by decide) rfl
@[simp] theorem State.raise_tb (w : Wing) (src : Nat) : (s.raise w src).tb = s.tb :=
  State.raise_same (P := .tb) (s0 := s) s w src (by decide) rfl
@[simp] theorem State.raise_freeCtr (w : Wing) (src : Nat) : (s.raise w src).freeCtr = s.freeCtr :=
  State.raise_same (P := .freeCtr) (s0 := s) s w src (by decide) rfl
@[simp] theorem State.raise_rst (w : Wing) (src : Nat) : (s.raise w src).rst = s.rst :=
  State.raise_same (P := .rst) (s0 := s) s w src (by decide) rfl
@[simp] theorem State.raise_bell (w : Wing) (src : Nat) : (s.raise w src).bell = s.bell :=
  State.raise_same (P := .bell) (s0 := s) s w src (by decide) rfl
@[simp] theorem State.raise_fab (w : Wing) (src : Nat) : (s.raise w src).fab = s.fab :=
  State.raise_same (P := .fab) (s0 := s) s w src (by decide) rfl
@[simp] theorem State.raise_dup (w : Wing) (src : Nat) : (s.raise w src).dup = s.dup :=
  State.raise_same (P := .dup) (s0 := s) s w src (by decide) rfl
@[simp] theorem State.raise_sec (w : Wing) (src : Nat) : (s.raise w src).sec = s.sec :=
  State.raise_same (P := .sec) (s0 := s) s w src (by decide) rfl
@[simp] theorem State.raise_ports (w : Wing) (src : Nat) : (s.raise w src).ports = s.ports :=
  State.raise_same (P := .ports) (s0 := s) s w src (by decide) rfl
@[simp] theorem State.raise_dict (w : Wing) (src : Nat) : (s.raise w src).dict = s.dict :=
  State.raise_same (P := .dict) (s0 := s) s w src (by decide) rfl
@[simp] theorem State.raise_satchel (w : Wing) (src : Nat) : (s.raise w src).satchel = s.satchel :=
  State.raise_same (P := .satchel) (s0 := s) s w src (by decide) rfl
@[simp] theorem State.raise_ct (w : Wing) (src : Nat) : (s.raise w src).ct = s.ct :=
  State.raise_same (P := .ct) (s0 := s) s w src (by decide) rfl
@[simp] theorem State.raise_clk (w : Wing) (src : Nat) : (s.raise w src).clk = s.clk :=
  State.raise_same (P := .clk) (s0 := s) s w src (by decide) rfl
@[simp] theorem State.raise_sar (w : Wing) (src : Nat) : (s.raise w src).sar = s.sar :=
  State.raise_same (P := .sar) (s0 := s) s w src (by decide) rfl
@[simp] theorem State.raise_integ (w : Wing) (src : Nat) : (s.raise w src).integ = s.integ :=
  State.raise_same (P := .integ) (s0 := s) s w src (by decide) rfl
@[simp] theorem State.raise_lib (w : Wing) (src : Nat) : (s.raise w src).lib = s.lib :=
  State.raise_same (P := .lib) (s0 := s) s w src (by decide) rfl
@[simp] theorem State.raise_sd (w : Wing) (src : Nat) : (s.raise w src).sd = s.sd :=
  State.raise_same (P := .sd) (s0 := s) s w src (by decide) rfl
@[simp] theorem State.raise_trip (w : Wing) (src : Nat) : (s.raise w src).trip = s.trip :=
  State.raise_same (P := .trip) (s0 := s) s w src (by decide) rfl
@[simp] theorem State.raise_pwm (w : Wing) (src : Nat) : (s.raise w src).pwm = s.pwm :=
  State.raise_same (P := .pwm) (s0 := s) s w src (by decide) rfl
@[simp] theorem State.raise_gate (w : Wing) (src : Nat) : (s.raise w src).gate = s.gate :=
  State.raise_same (P := .gate) (s0 := s) s w src (by decide) rfl
@[simp] theorem State.raise_eng (w : Wing) (src : Nat) : (s.raise w src).eng = s.eng :=
  State.raise_same (P := .eng) (s0 := s) s w src (by decide) rfl
@[simp] theorem State.raise_ship (w : Wing) (src : Nat) : (s.raise w src).ship = s.ship :=
  State.raise_same (P := .ship) (s0 := s) s w src (by decide) rfl
@[simp] theorem State.raise_bur (w : Wing) (src : Nat) : (s.raise w src).bur = s.bur :=
  State.raise_same (P := .bur) (s0 := s) s w src (by decide) rfl
@[simp] theorem State.raise_pf (w : Wing) (src : Nat) : (s.raise w src).pf = s.pf :=
  State.raise_same (P := .pf) (s0 := s) s w src (by decide) rfl

/-! ### raiseRing -/

@[simp] theorem State.raiseRing_pending (q : Nat) : (s.raiseRing q).pending = s.pending :=
  State.raiseRing_same (P := .pending) (s0 := s) s q (by decide) rfl
@[simp] theorem State.raiseRing_tb (q : Nat) : (s.raiseRing q).tb = s.tb :=
  State.raiseRing_same (P := .tb) (s0 := s) s q (by decide) rfl
@[simp] theorem State.raiseRing_freeCtr (q : Nat) : (s.raiseRing q).freeCtr = s.freeCtr :=
  State.raiseRing_same (P := .freeCtr) (s0 := s) s q (by decide) rfl
@[simp] theorem State.raiseRing_rst (q : Nat) : (s.raiseRing q).rst = s.rst :=
  State.raiseRing_same (P := .rst) (s0 := s) s q (by decide) rfl
@[simp] theorem State.raiseRing_bell (q : Nat) : (s.raiseRing q).bell = s.bell :=
  State.raiseRing_same (P := .bell) (s0 := s) s q (by decide) rfl
@[simp] theorem State.raiseRing_fab (q : Nat) : (s.raiseRing q).fab = s.fab :=
  State.raiseRing_same (P := .fab) (s0 := s) s q (by decide) rfl
@[simp] theorem State.raiseRing_dup (q : Nat) : (s.raiseRing q).dup = s.dup :=
  State.raiseRing_same (P := .dup) (s0 := s) s q (by decide) rfl
@[simp] theorem State.raiseRing_sec (q : Nat) : (s.raiseRing q).sec = s.sec :=
  State.raiseRing_same (P := .sec) (s0 := s) s q (by decide) rfl
@[simp] theorem State.raiseRing_ports (q : Nat) : (s.raiseRing q).ports = s.ports :=
  State.raiseRing_same (P := .ports) (s0 := s) s q (by decide) rfl
@[simp] theorem State.raiseRing_dict (q : Nat) : (s.raiseRing q).dict = s.dict :=
  State.raiseRing_same (P := .dict) (s0 := s) s q (by decide) rfl
@[simp] theorem State.raiseRing_satchel (q : Nat) : (s.raiseRing q).satchel = s.satchel :=
  State.raiseRing_same (P := .satchel) (s0 := s) s q (by decide) rfl
@[simp] theorem State.raiseRing_ct (q : Nat) : (s.raiseRing q).ct = s.ct :=
  State.raiseRing_same (P := .ct) (s0 := s) s q (by decide) rfl
@[simp] theorem State.raiseRing_clk (q : Nat) : (s.raiseRing q).clk = s.clk :=
  State.raiseRing_same (P := .clk) (s0 := s) s q (by decide) rfl
@[simp] theorem State.raiseRing_sar (q : Nat) : (s.raiseRing q).sar = s.sar :=
  State.raiseRing_same (P := .sar) (s0 := s) s q (by decide) rfl
@[simp] theorem State.raiseRing_integ (q : Nat) : (s.raiseRing q).integ = s.integ :=
  State.raiseRing_same (P := .integ) (s0 := s) s q (by decide) rfl
@[simp] theorem State.raiseRing_lib (q : Nat) : (s.raiseRing q).lib = s.lib :=
  State.raiseRing_same (P := .lib) (s0 := s) s q (by decide) rfl
@[simp] theorem State.raiseRing_sd (q : Nat) : (s.raiseRing q).sd = s.sd :=
  State.raiseRing_same (P := .sd) (s0 := s) s q (by decide) rfl
@[simp] theorem State.raiseRing_trip (q : Nat) : (s.raiseRing q).trip = s.trip :=
  State.raiseRing_same (P := .trip) (s0 := s) s q (by decide) rfl
@[simp] theorem State.raiseRing_pwm (q : Nat) : (s.raiseRing q).pwm = s.pwm :=
  State.raiseRing_same (P := .pwm) (s0 := s) s q (by decide) rfl
@[simp] theorem State.raiseRing_gate (q : Nat) : (s.raiseRing q).gate = s.gate :=
  State.raiseRing_same (P := .gate) (s0 := s) s q (by decide) rfl
@[simp] theorem State.raiseRing_eng (q : Nat) : (s.raiseRing q).eng = s.eng :=
  State.raiseRing_same (P := .eng) (s0 := s) s q (by decide) rfl
@[simp] theorem State.raiseRing_ship (q : Nat) : (s.raiseRing q).ship = s.ship :=
  State.raiseRing_same (P := .ship) (s0 := s) s q (by decide) rfl
@[simp] theorem State.raiseRing_bur (q : Nat) : (s.raiseRing q).bur = s.bur :=
  State.raiseRing_same (P := .bur) (s0 := s) s q (by decide) rfl
@[simp] theorem State.raiseRing_pf (q : Nat) : (s.raiseRing q).pf = s.pf :=
  State.raiseRing_same (P := .pf) (s0 := s) s q (by decide) rfl

/-! ### emit -/

@[simp] theorem State.emit_pending (b : Blk) (p : Nat) : (s.emit b p).pending = s.pending :=
  State.emit_same (P := .pending) (s0 := s) s b p (by decide) rfl
@[simp] theorem State.emit_tb (b : Blk) (p : Nat) : (s.emit b p).tb = s.tb :=
  State.emit_same (P := .tb) (s0 := s) s b p (by decide) rfl
@[simp] theorem State.emit_freeCtr (b : Blk) (p : Nat) : (s.emit b p).freeCtr = s.freeCtr :=
  State.emit_same (P := .freeCtr) (s0 := s) s b p (by decide) rfl
@[simp] theorem State.emit_rst (b : Blk) (p : Nat) : (s.emit b p).rst = s.rst :=
  State.emit_same (P := .rst) (s0 := s) s b p (by decide) rfl
@[simp] theorem State.emit_bell (b : Blk) (p : Nat) : (s.emit b p).bell = s.bell :=
  State.emit_same (P := .bell) (s0 := s) s b p (by decide) rfl
@[simp] theorem State.emit_fab (b : Blk) (p : Nat) : (s.emit b p).fab = s.fab :=
  State.emit_same (P := .fab) (s0 := s) s b p (by decide) rfl
@[simp] theorem State.emit_dup (b : Blk) (p : Nat) : (s.emit b p).dup = s.dup :=
  State.emit_same (P := .dup) (s0 := s) s b p (by decide) rfl
@[simp] theorem State.emit_sec (b : Blk) (p : Nat) : (s.emit b p).sec = s.sec :=
  State.emit_same (P := .sec) (s0 := s) s b p (by decide) rfl
@[simp] theorem State.emit_dict (b : Blk) (p : Nat) : (s.emit b p).dict = s.dict :=
  State.emit_same (P := .dict) (s0 := s) s b p (by decide) rfl
@[simp] theorem State.emit_satchel (b : Blk) (p : Nat) : (s.emit b p).satchel = s.satchel :=
  State.emit_same (P := .satchel) (s0 := s) s b p (by decide) rfl
@[simp] theorem State.emit_ct (b : Blk) (p : Nat) : (s.emit b p).ct = s.ct :=
  State.emit_same (P := .ct) (s0 := s) s b p (by decide) rfl
@[simp] theorem State.emit_clk (b : Blk) (p : Nat) : (s.emit b p).clk = s.clk :=
  State.emit_same (P := .clk) (s0 := s) s b p (by decide) rfl
@[simp] theorem State.emit_sar (b : Blk) (p : Nat) : (s.emit b p).sar = s.sar :=
  State.emit_same (P := .sar) (s0 := s) s b p (by decide) rfl
@[simp] theorem State.emit_integ (b : Blk) (p : Nat) : (s.emit b p).integ = s.integ :=
  State.emit_same (P := .integ) (s0 := s) s b p (by decide) rfl
@[simp] theorem State.emit_lib (b : Blk) (p : Nat) : (s.emit b p).lib = s.lib :=
  State.emit_same (P := .lib) (s0 := s) s b p (by decide) rfl
@[simp] theorem State.emit_sd (b : Blk) (p : Nat) : (s.emit b p).sd = s.sd :=
  State.emit_same (P := .sd) (s0 := s) s b p (by decide) rfl
@[simp] theorem State.emit_trip (b : Blk) (p : Nat) : (s.emit b p).trip = s.trip :=
  State.emit_same (P := .trip) (s0 := s) s b p (by decide) rfl
@[simp] theorem State.emit_pwm (b : Blk) (p : Nat) : (s.emit b p).pwm = s.pwm :=
  State.emit_same (P := .pwm) (s0 := s) s b p (by decide) rfl
@[simp] theorem State.emit_gate (b : Blk) (p : Nat) : (s.emit b p).gate = s.gate :=
  State.emit_same (P := .gate) (s0 := s) s b p (by decide) rfl
@[simp] theorem State.emit_eng (b : Blk) (p : Nat) : (s.emit b p).eng = s.eng :=
  State.emit_same (P := .eng) (s0 := s) s b p (by decide) rfl
@[simp] theorem State.emit_ship (b : Blk) (p : Nat) : (s.emit b p).ship = s.ship :=
  State.emit_same (P := .ship) (s0 := s) s b p (by decide) rfl
@[simp] theorem State.emit_bur (b : Blk) (p : Nat) : (s.emit b p).bur = s.bur :=
  State.emit_same (P := .bur) (s0 := s) s b p (by decide) rfl
@[simp] theorem State.emit_pf (b : Blk) (p : Nat) : (s.emit b p).pf = s.pf :=
  State.emit_same (P := .pf) (s0 := s) s b p (by decide) rfl

/-! ### violation -/

@[simp] theorem State.violation_pending (init addr : Nat) : (s.violation init addr).pending = s.pending :=
  State.violation_same (P := .pending) (s0 := s) s init addr (by decide) rfl
@[simp] theorem State.violation_tb (init addr : Nat) : (s.violation init addr).tb = s.tb :=
  State.violation_same (P := .tb) (s0 := s) s init addr (by decide) rfl
@[simp] theorem State.violation_freeCtr (init addr : Nat) : (s.violation init addr).freeCtr = s.freeCtr :=
  State.violation_same (P := .freeCtr) (s0 := s) s init addr (by decide) rfl
@[simp] theorem State.violation_rst (init addr : Nat) : (s.violation init addr).rst = s.rst :=
  State.violation_same (P := .rst) (s0 := s) s init addr (by decide) rfl
@[simp] theorem State.violation_bell (init addr : Nat) : (s.violation init addr).bell = s.bell :=
  State.violation_same (P := .bell) (s0 := s) s init addr (by decide) rfl
@[simp] theorem State.violation_fab (init addr : Nat) : (s.violation init addr).fab = s.fab :=
  State.violation_same (P := .fab) (s0 := s) s init addr (by decide) rfl
@[simp] theorem State.violation_dup (init addr : Nat) : (s.violation init addr).dup = s.dup :=
  State.violation_same (P := .dup) (s0 := s) s init addr (by decide) rfl
@[simp] theorem State.violation_dict (init addr : Nat) : (s.violation init addr).dict = s.dict :=
  State.violation_same (P := .dict) (s0 := s) s init addr (by decide) rfl
@[simp] theorem State.violation_satchel (init addr : Nat) : (s.violation init addr).satchel = s.satchel :=
  State.violation_same (P := .satchel) (s0 := s) s init addr (by decide) rfl
@[simp] theorem State.violation_ct (init addr : Nat) : (s.violation init addr).ct = s.ct :=
  State.violation_same (P := .ct) (s0 := s) s init addr (by decide) rfl
@[simp] theorem State.violation_clk (init addr : Nat) : (s.violation init addr).clk = s.clk :=
  State.violation_same (P := .clk) (s0 := s) s init addr (by decide) rfl
@[simp] theorem State.violation_sar (init addr : Nat) : (s.violation init addr).sar = s.sar :=
  State.violation_same (P := .sar) (s0 := s) s init addr (by decide) rfl
@[simp] theorem State.violation_integ (init addr : Nat) : (s.violation init addr).integ = s.integ :=
  State.violation_same (P := .integ) (s0 := s) s init addr (by decide) rfl
@[simp] theorem State.violation_lib (init addr : Nat) : (s.violation init addr).lib = s.lib :=
  State.violation_same (P := .lib) (s0 := s) s init addr (by decide) rfl
@[simp] theorem State.violation_sd (init addr : Nat) : (s.violation init addr).sd = s.sd :=
  State.violation_same (P := .sd) (s0 := s) s init addr (by decide) rfl
@[simp] theorem State.violation_trip (init addr : Nat) : (s.violation init addr).trip = s.trip :=
  State.violation_same (P := .trip) (s0 := s) s init addr (by decide) rfl
@[simp] theorem State.violation_pwm (init addr : Nat) : (s.violation init addr).pwm = s.pwm :=
  State.violation_same (P := .pwm) (s0 := s) s init addr (by decide) rfl
@[simp] theorem State.violation_gate (init addr : Nat) : (s.violation init addr).gate = s.gate :=
  State.violation_same (P := .gate) (s0 := s) s init addr (by decide) rfl
@[simp] theorem State.violation_eng (init addr : Nat) : (s.violation init addr).eng = s.eng :=
  State.violation_same (P := .eng) (s0 := s) s init addr (by decide) rfl
@[simp] theorem State.violation_ship (init addr : Nat) : (s.violation init addr).ship = s.ship :=
  State.violation_same (P := .ship) (s0 := s) s init addr (by decide) rfl
@[simp] theorem State.violation_bur (init addr : Nat) : (s.violation init addr).bur = s.bur :=
  State.violation_same (P := .bur) (s0 := s) s init addr (by decide) rfl
@[simp] theorem State.violation_pf (init addr : Nat) : (s.violation init addr).pf = s.pf :=
  State.violation_same (P := .pf) (s0 := s) s init addr (by decide) rfl

/-! ### setRemain -/

@[simp] theorem State.setRemain_pending (l n : Nat) : (s.setRemain l n).pending = s.pending :=
  State.setRemain_same (P := .pending) (s0 := s) s l n (by decide) rfl
@[simp] theorem State.setRemain_tb (l n : Nat) : (s.setRemain l n).tb = s.tb :=
  State.setRemain_same (P := .tb) (s0 := s) s l n (by decide) rfl
@[simp] theorem State.setRemain_freeCtr (l n : Nat) : (s.setRemain l n).freeCtr = s.freeCtr :=
  State.setRemain_same (P := .freeCtr) (s0 := s) s l n (by decide) rfl
@[simp] theorem State.setRemain_rst (l n : Nat) : (s.setRemain l n).rst = s.rst :=
  State.setRemain_same (P := .rst) (s0 := s) s l n (by decide) rfl
@[simp] theorem State.setRemain_bell (l n : Nat) : (s.setRemain l n).bell = s.bell :=
  State.setRemain_same (P := .bell) (s0 := s) s l n (by decide) rfl
@[simp] theorem State.setRemain_fab (l n : Nat) : (s.setRemain l n).fab = s.fab :=
  State.setRemain_same (P := .fab) (s0 := s) s l n (by decide) rfl
@[simp] theorem State.setRemain_dup (l n : Nat) : (s.setRemain l n).dup = s.dup :=
  State.setRemain_same (P := .dup) (s0 := s) s l n (by decide) rfl
@[simp] theorem State.setRemain_sec (l n : Nat) : (s.setRemain l n).sec = s.sec :=
  State.setRemain_same (P := .sec) (s0 := s) s l n (by decide) rfl
@[simp] theorem State.setRemain_dict (l n : Nat) : (s.setRemain l n).dict = s.dict :=
  State.setRemain_same (P := .dict) (s0 := s) s l n (by decide) rfl
@[simp] theorem State.setRemain_satchel (l n : Nat) : (s.setRemain l n).satchel = s.satchel :=
  State.setRemain_same (P := .satchel) (s0 := s) s l n (by decide) rfl
@[simp] theorem State.setRemain_ct (l n : Nat) : (s.setRemain l n).ct = s.ct :=
  State.setRemain_same (P := .ct) (s0 := s) s l n (by decide) rfl
@[simp] theorem State.setRemain_clk (l n : Nat) : (s.setRemain l n).clk = s.clk :=
  State.setRemain_same (P := .clk) (s0 := s) s l n (by decide) rfl
@[simp] theorem State.setRemain_sar (l n : Nat) : (s.setRemain l n).sar = s.sar :=
  State.setRemain_same (P := .sar) (s0 := s) s l n (by decide) rfl
@[simp] theorem State.setRemain_integ (l n : Nat) : (s.setRemain l n).integ = s.integ :=
  State.setRemain_same (P := .integ) (s0 := s) s l n (by decide) rfl
@[simp] theorem State.setRemain_lib (l n : Nat) : (s.setRemain l n).lib = s.lib :=
  State.setRemain_same (P := .lib) (s0 := s) s l n (by decide) rfl
@[simp] theorem State.setRemain_sd (l n : Nat) : (s.setRemain l n).sd = s.sd :=
  State.setRemain_same (P := .sd) (s0 := s) s l n (by decide) rfl
@[simp] theorem State.setRemain_trip (l n : Nat) : (s.setRemain l n).trip = s.trip :=
  State.setRemain_same (P := .trip) (s0 := s) s l n (by decide) rfl
@[simp] theorem State.setRemain_pwm (l n : Nat) : (s.setRemain l n).pwm = s.pwm :=
  State.setRemain_same (P := .pwm) (s0 := s) s l n (by decide) rfl
@[simp] theorem State.setRemain_gate (l n : Nat) : (s.setRemain l n).gate = s.gate :=
  State.setRemain_same (P := .gate) (s0 := s) s l n (by decide) rfl
@[simp] theorem State.setRemain_eng (l n : Nat) : (s.setRemain l n).eng = s.eng :=
  State.setRemain_same (P := .eng) (s0 := s) s l n (by decide) rfl
@[simp] theorem State.setRemain_ship (l n : Nat) : (s.setRemain l n).ship = s.ship :=
  State.setRemain_same (P := .ship) (s0 := s) s l n (by decide) rfl
@[simp] theorem State.setRemain_bur (l n : Nat) : (s.setRemain l n).bur = s.bur :=
  State.setRemain_same (P := .bur) (s0 := s) s l n (by decide) rfl
@[simp] theorem State.setRemain_pf (l n : Nat) : (s.setRemain l n).pf = s.pf :=
  State.setRemain_same (P := .pf) (s0 := s) s l n (by decide) rfl

/-! ### setWing -/

@[simp] theorem State.setWing_pending (w : Wing) (st : WingState) : (s.setWing w st).pending = s.pending :=
  State.setWing_same (P := .pending) (s0 := s) s w st (by decide) rfl
@[simp] theorem State.setWing_tb (w : Wing) (st : WingState) : (s.setWing w st).tb = s.tb :=
  State.setWing_same (P := .tb) (s0 := s) s w st (by decide) rfl
@[simp] theorem State.setWing_freeCtr (w : Wing) (st : WingState) : (s.setWing w st).freeCtr = s.freeCtr :=
  State.setWing_same (P := .freeCtr) (s0 := s) s w st (by decide) rfl
@[simp] theorem State.setWing_rst (w : Wing) (st : WingState) : (s.setWing w st).rst = s.rst :=
  State.setWing_same (P := .rst) (s0 := s) s w st (by decide) rfl
@[simp] theorem State.setWing_bell (w : Wing) (st : WingState) : (s.setWing w st).bell = s.bell :=
  State.setWing_same (P := .bell) (s0 := s) s w st (by decide) rfl
@[simp] theorem State.setWing_fab (w : Wing) (st : WingState) : (s.setWing w st).fab = s.fab :=
  State.setWing_same (P := .fab) (s0 := s) s w st (by decide) rfl
@[simp] theorem State.setWing_dup (w : Wing) (st : WingState) : (s.setWing w st).dup = s.dup :=
  State.setWing_same (P := .dup) (s0 := s) s w st (by decide) rfl
@[simp] theorem State.setWing_sec (w : Wing) (st : WingState) : (s.setWing w st).sec = s.sec :=
  State.setWing_same (P := .sec) (s0 := s) s w st (by decide) rfl
@[simp] theorem State.setWing_ports (w : Wing) (st : WingState) : (s.setWing w st).ports = s.ports :=
  State.setWing_same (P := .ports) (s0 := s) s w st (by decide) rfl
@[simp] theorem State.setWing_dict (w : Wing) (st : WingState) : (s.setWing w st).dict = s.dict :=
  State.setWing_same (P := .dict) (s0 := s) s w st (by decide) rfl
@[simp] theorem State.setWing_tut (w : Wing) (st : WingState) : (s.setWing w st).tut = s.tut :=
  State.setWing_same (P := .tut) (s0 := s) s w st (by decide) rfl
@[simp] theorem State.setWing_satchel (w : Wing) (st : WingState) : (s.setWing w st).satchel = s.satchel :=
  State.setWing_same (P := .satchel) (s0 := s) s w st (by decide) rfl
@[simp] theorem State.setWing_ct (w : Wing) (st : WingState) : (s.setWing w st).ct = s.ct :=
  State.setWing_same (P := .ct) (s0 := s) s w st (by decide) rfl
@[simp] theorem State.setWing_clk (w : Wing) (st : WingState) : (s.setWing w st).clk = s.clk :=
  State.setWing_same (P := .clk) (s0 := s) s w st (by decide) rfl
@[simp] theorem State.setWing_sar (w : Wing) (st : WingState) : (s.setWing w st).sar = s.sar :=
  State.setWing_same (P := .sar) (s0 := s) s w st (by decide) rfl
@[simp] theorem State.setWing_integ (w : Wing) (st : WingState) : (s.setWing w st).integ = s.integ :=
  State.setWing_same (P := .integ) (s0 := s) s w st (by decide) rfl
@[simp] theorem State.setWing_lib (w : Wing) (st : WingState) : (s.setWing w st).lib = s.lib :=
  State.setWing_same (P := .lib) (s0 := s) s w st (by decide) rfl
@[simp] theorem State.setWing_sd (w : Wing) (st : WingState) : (s.setWing w st).sd = s.sd :=
  State.setWing_same (P := .sd) (s0 := s) s w st (by decide) rfl
@[simp] theorem State.setWing_trip (w : Wing) (st : WingState) : (s.setWing w st).trip = s.trip :=
  State.setWing_same (P := .trip) (s0 := s) s w st (by decide) rfl
@[simp] theorem State.setWing_pwm (w : Wing) (st : WingState) : (s.setWing w st).pwm = s.pwm :=
  State.setWing_same (P := .pwm) (s0 := s) s w st (by decide) rfl
@[simp] theorem State.setWing_gate (w : Wing) (st : WingState) : (s.setWing w st).gate = s.gate :=
  State.setWing_same (P := .gate) (s0 := s) s w st (by decide) rfl
@[simp] theorem State.setWing_eng (w : Wing) (st : WingState) : (s.setWing w st).eng = s.eng :=
  State.setWing_same (P := .eng) (s0 := s) s w st (by decide) rfl
@[simp] theorem State.setWing_ship (w : Wing) (st : WingState) : (s.setWing w st).ship = s.ship :=
  State.setWing_same (P := .ship) (s0 := s) s w st (by decide) rfl
@[simp] theorem State.setWing_bur (w : Wing) (st : WingState) : (s.setWing w st).bur = s.bur :=
  State.setWing_same (P := .bur) (s0 := s) s w st (by decide) rfl
@[simp] theorem State.setWing_pf (w : Wing) (st : WingState) : (s.setWing w st).pf = s.pf :=
  State.setWing_same (P := .pf) (s0 := s) s w st (by decide) rfl

/-! ### The record -/

theorem State.emit_q10 (b : Blk) (p : Nat) (h : s.ports.q10.length < s.q10Cap) :
    ∃ e, (s.emit b p).ports.q10 = s.ports.q10 ++ [e] ∧ e.eseq = (s.ports.eseq + 1) % 2 ^ 32 ∧ e.block = b.num ∧
      e.payload = p % 2 ^ 128 := by
  unfold State.emit
  simp only [h, if_true]
  unfold State.when
  split <;> simp

@[simp] theorem genericPayload_code (code detail ident ts : Nat) : genericPayload code detail ident ts % 256 = code % 256 := by
  unfold genericPayload
  omega

/-- One event record over states that agree on Q10. -/
theorem State.emit_tells {s s' : State} (b : Blk) (p code : Nat) (hp : p % 256 = code) (h1 : s'.ports = s.ports)
    (h2 : s'.fld .RING_CFG_SIZE_L2 10 = s.fld .RING_CFG_SIZE_L2 10) : s.tells (s'.emit b p) b code := by
  intro h
  have h' : s'.ports.q10.length < s'.q10Cap := by unfold State.q10Cap at *; rw [h1, h2]; exact h
  obtain ⟨e, e1, e2, e3, e4⟩ := s'.emit_q10 b p h'
  exact ⟨e, by rw [e1, h1], by rw [e2, h1], e3, by rw [e4]; omega⟩

/-- What follows an event and leaves the ports alone. -/
theorem State.tells_of {s t u : State} {b : Blk} {code : Nat} (h : s.tells t b code) (e : u.ports = t.ports) :
    s.tells u b code := by
  unfold State.tells at *; rw [e]; exact h

end
end Sys2Proof.Machine
end

