-- ==== Sys2Proof/Laws/SamePoison.lean ====
section
/-!
SUPPORT. Which parts of State the operations of Machine/Poison.lean can change (Laws/Same.lean), as bits by the part's number, and that
they leave every other as it was.
-/
namespace Sys2Proof.Machine

set_option linter.unusedTactic false
set_option linter.unreachableTactic false

def State.mark_parts : Nat := 0x10000
theorem State.mark_same {P : Part} {s0 : State} (s : State) (mem : Nat) (w : Nat) (bad : Bool) (hw :
    State.mark_parts.testBit P.ctorIdx = false) (h : Same P s0 s) :
    Same P s0 (State.mark s mem w bad) := by
  unfold State.mark
  repeat' first
    | with_reducible assumption
    | intro _
    | fail_if_no_progress with_reducible refine Same.updInteg (W := State.mark_parts) (by decide) hw ?_
    | split
    | (with_reducible apply Same.zeta); split

def State.badRead_parts : Nat := 0xa02
theorem State.badRead_same {P : Part} {s0 : State} (s : State) (mem : Nat) (addr : Nat) (fresh : Bool) (hw :
    State.badRead_parts.testBit P.ctorIdx = false) (h : Same P s0 s) :
    Same P s0 (State.badRead s mem addr fresh) := by
  unfold State.badRead
  repeat' first
    | with_reducible assumption
    | intro _
    | with_reducible refine State.intEvent_same _ _ _ _ _ _ (Wr.sub (by decide) hw) ?_
    | with_reducible refine State.setFld_same _ _ _ _ (Wr.sub (by decide) hw) ?_
    | with_reducible apply Same.ite
    | split
    | (with_reducible apply Same.zeta); split

end Sys2Proof.Machine
end

