-- ==== Sys2Proof/Laws/SameSatchel.lean ====
section
/-!
SUPPORT. Which parts of State the operations of Machine/Satchel.lean can change (Laws/Same.lean), as bits by the part's number, and that
they leave every other as it was.
-/
namespace Sys2Proof.Machine

set_option linter.unusedTactic false
set_option linter.unreachableTactic false

def State.satPut_parts : Nat := 0x1000
theorem State.satPut_same {P : Part} {s0 : State} (s : State) (off : Nat) (b : Nat) (hw : State.satPut_parts.testBit
    P.ctorIdx = false) (h : Same P s0 s) :
    Same P s0 (State.satPut s off b) := by
  unfold State.satPut
  repeat' first
    | with_reducible assumption
    | intro _
    | fail_if_no_progress with_reducible refine Same.updSatchel (W := State.satPut_parts) (by decide) hw ?_
    | split
    | (with_reducible apply Same.zeta); split

def State.satWriteWord_parts : Nat := 0x11000
theorem State.satWriteWord_same {P : Part} {s0 : State} (s : State) (off : Nat) (l : List Nat) (hw :
    State.satWriteWord_parts.testBit P.ctorIdx = false) (h : Same P s0 s) :
    Same P s0 (State.satWriteWord s off l).2 := by
  unfold State.satWriteWord
  repeat' first
    | with_reducible assumption
    | intro _
    | with_reducible refine State.satPut_same _ _ _ (Wr.sub (by decide) hw) ?_
    | with_reducible refine State.mark_same _ _ _ _ (Wr.sub (by decide) hw) ?_
    | with_reducible apply Same.each
    | with_reducible apply Same.ite
    | with_reducible apply Same.iteSnd
    | dsimp only
    | split
    | (with_reducible apply Same.zeta); split

def State.satWriteN_parts : Nat := 0x11000
theorem State.satWriteN_same {P : Part} {s0 : State} (x0 : Nat) (x1 : State) (x2 : Nat) (x3 : List Nat) (hw :
    State.satWriteN_parts.testBit P.ctorIdx = false) (h : Same P s0 x1) :
    Same P s0 (State.satWriteN x0 x1 x2 x3).2 := by
  induction x0 generalizing x1 x2 x3 with
  | zero => exact h
  | succ n ih =>
    unfold State.satWriteN
    split
    · exact h
    · exact ih _ _ _ (State.satWriteWord_same x1 x2 _ (Wr.sub (by decide) hw) h)

def State.satWrite_parts : Nat := 0x11000
theorem State.satWrite_same {P : Part} {s0 : State} (s : State) (addr : Nat) (l : List Nat) (hw :
    State.satWrite_parts.testBit P.ctorIdx = false) (h : Same P s0 s) :
    Same P s0 (State.satWrite s addr l).2 := by
  unfold State.satWrite
  repeat' first
    | with_reducible assumption
    | intro _
    | with_reducible refine State.satWriteN_same _ _ _ _ (Wr.sub (by decide) hw) ?_
    | (with_reducible refine Same.snd ?_ (by assumption)); with_reducible refine State.satWriteN_same _ _ _ _ (Wr.sub (by decide) hw) ?_
    | with_reducible apply Same.ite
    | with_reducible apply Same.iteSnd
    | dsimp only
    | split
    | (with_reducible apply Same.zeta); split

end Sys2Proof.Machine
end

