-- ==== Sys2Proof/Laws/SameVars.lean ====
section
/-!
SUPPORT. Which parts of State the operations of Machine/Vars.lean can change (Laws/Same.lean), as bits by the part's number, and that
they leave every other as it was.
-/
namespace Sys2Proof.Machine

set_option linter.unusedTactic false
set_option linter.unreachableTactic false

def State.setVar_parts : Nat := 0x400
theorem State.setVar_same {P : Part} {s0 : State} (s : State) (idx : Nat) (sub : Nat) (v : Nat) (hw :
    State.setVar_parts.testBit P.ctorIdx = false) (h : Same P s0 s) :
    Same P s0 (State.setVar s idx sub v) := by
  unfold State.setVar
  repeat' first
    | with_reducible assumption
    | intro _
    | fail_if_no_progress with_reducible refine Same.updDict (W := State.setVar_parts) (by decide) hw ?_
    | split
    | (with_reducible apply Same.zeta); split

def State.settleLate_parts : Nat := 0x800400
theorem State.settleLate_same {P : Part} {s0 : State} (s : State) (n : Nat) (hw : State.settleLate_parts.testBit P.ctorIdx
    = false) (h : Same P s0 s) :
    Same P s0 (State.settleLate s n) := by
  unfold State.settleLate
  repeat' first
    | with_reducible assumption
    | intro _
    | with_reducible refine State.setVar_same _ _ _ _ (Wr.sub (by decide) hw) ?_
    | with_reducible apply Same.each
    | fail_if_no_progress with_reducible refine Same.updShip (W := State.settleLate_parts) (by decide) hw ?_
    | split
    | (with_reducible apply Same.zeta); split

end Sys2Proof.Machine
end

