-- ==== Sys2Proof/Laws/SameRings.lean ====
section
/-!
SUPPORT. Which parts of State the operations of Machine/Rings.lean can change (Laws/Same.lean), as bits by the part's number, and that
they leave every other as it was.
-/
namespace Sys2Proof.Machine

set_option linter.unusedTactic false
set_option linter.unreachableTactic false

def State.putDescriptor_parts : Nat := 0x11000
theorem State.putDescriptor_same {P : Part} {s0 : State} (s : State) (q_1 : Nat) (i : Nat) (d : Desc) (hw :
    State.putDescriptor_parts.testBit P.ctorIdx = false) (h : Same P s0 s) :
    Same P s0 (State.putDescriptor s q_1 i d) := by
  unfold State.putDescriptor
  repeat' first
    | with_reducible assumption
    | intro _
    | with_reducible refine State.satWrite_same _ _ _ (Wr.sub (by decide) hw) ?_
    | (with_reducible refine Same.snd ?_ (by assumption)); with_reducible refine State.satWrite_same _ _ _ (Wr.sub (by decide) hw) ?_
    | split
    | (with_reducible apply Same.zeta); split

def State.finish_parts : Nat := 0x11a02
theorem State.finish_same {P : Part} {s0 : State} (s : State) (q_1 : Nat) (i : Nat) (d : Desc) (hw :
    State.finish_parts.testBit P.ctorIdx = false) (h : Same P s0 s) :
    Same P s0 (State.finish s q_1 i d) := by
  unfold State.finish
  repeat' first
    | with_reducible assumption
    | intro _
    | with_reducible refine State.putDescriptor_same _ _ _ _ (Wr.sub (by decide) hw) ?_
    | with_reducible refine State.raiseRing_same _ _ (Wr.sub (by decide) hw) ?_
    | with_reducible refine State.event_same _ _ _ _ _ (Wr.sub (by decide) hw) ?_
    | with_reducible refine State.setFld_same _ _ _ _ (Wr.sub (by decide) hw) ?_
    | with_reducible apply Same.whenIf
    | fail_if_no_progress with_reducible refine Same.updPorts (W := State.finish_parts) (by decide) hw ?_
    | split
    | (with_reducible apply Same.zeta); split

def State.finishCmd_parts : Nat := 0x11a02
theorem State.finishCmd_same {P : Part} {s0 : State} (s : State) (q_1 : Nat) (i : Nat) (len : Nat) (code : Nat) (hw :
    State.finishCmd_parts.testBit P.ctorIdx = false) (h : Same P s0 s) :
    Same P s0 (State.finishCmd s q_1 i len code) := by
  unfold State.finishCmd
  repeat' first
    | with_reducible assumption
    | intro _
    | with_reducible refine State.finish_same _ _ _ _ (Wr.sub (by decide) hw) ?_
    | with_reducible apply Same.ite
    | split
    | (with_reducible apply Same.zeta); split

def State.produce_parts : Nat := 0x11b02
theorem State.produce_same {P : Part} {s0 : State} (s : State) (q_1 : Nat) (d : Desc) (data : List Nat) (ts : Nat) (hw :
    State.produce_parts.testBit P.ctorIdx = false) (h : Same P s0 s) :
    Same P s0 (State.produce s q_1 d data ts) := by
  unfold State.produce
  repeat' first
    | with_reducible assumption
    | intro _
    | with_reducible refine State.setFld_same _ _ _ _ (Wr.sub (by decide) hw) ?_
    | with_reducible refine State.finish_same _ _ _ _ (Wr.sub (by decide) hw) ?_
    | with_reducible refine State.violation_same _ _ _ (Wr.sub (by decide) hw) ?_
    | with_reducible refine State.satWrite_same _ _ _ (Wr.sub (by decide) hw) ?_
    | (with_reducible refine Same.snd ?_ (by assumption)); with_reducible refine State.satWrite_same _ _ _ (Wr.sub (by decide) hw) ?_
    | with_reducible apply Same.ite
    | split
    | (with_reducible apply Same.zeta); split

def State.setCap_parts : Nat := 0x200
theorem State.setCap_same {P : Part} {s0 : State} (s : State) (a : Nat) (c : Capture) (hw : State.setCap_parts.testBit
    P.ctorIdx = false) (h : Same P s0 s) :
    Same P s0 (State.setCap s a c) := by
  unfold State.setCap
  repeat' first
    | with_reducible assumption
    | intro _
    | with_reducible apply Same.ite
    | fail_if_no_progress with_reducible refine Same.updPorts (W := State.setCap_parts) (by decide) hw ?_
    | split
    | (with_reducible apply Same.zeta); split

def State.streamSend_parts : Nat := 0x400
theorem State.streamSend_same {P : Part} {s0 : State} (s : State) (a : Nat) (gap : Bool) (closed : Bool) (l : List Nat) (hw
    : State.streamSend_parts.testBit P.ctorIdx = false) (h : Same P s0 s) :
    Same P s0 (State.streamSend s a gap closed l) := by
  unfold State.streamSend
  repeat' first
    | with_reducible assumption
    | intro _
    | with_reducible apply Same.ite
    | fail_if_no_progress with_reducible refine Same.updDict (W := State.streamSend_parts) (by decide) hw ?_
    | split
    | (with_reducible apply Same.zeta); split

def State.captureDone_parts : Nat := 0x11f02
theorem State.captureDone_same {P : Part} {s0 : State} (s : State) (a : Nat) (closed : Bool) (hw :
    State.captureDone_parts.testBit P.ctorIdx = false) (h : Same P s0 s) :
    Same P s0 (State.captureDone s a closed) := by
  unfold State.captureDone
  repeat' first
    | with_reducible assumption
    | intro _
    | with_reducible refine State.streamSend_same _ _ _ _ _ (Wr.sub (by decide) hw) ?_
    | with_reducible refine State.produce_same _ _ _ _ _ (Wr.sub (by decide) hw) ?_
    | with_reducible refine State.setCap_same _ _ _ (Wr.sub (by decide) hw) ?_
    | split
    | (with_reducible apply Same.zeta); split

def State.syncSend_parts : Nat := 0x200
theorem State.syncSend_same {P : Part} {s0 : State} (s : State) (l : List SyncOut) (hw : State.syncSend_parts.testBit
    P.ctorIdx = false) (h : Same P s0 s) :
    Same P s0 (State.syncSend s l) := by
  unfold State.syncSend
  repeat' first
    | with_reducible assumption
    | intro _
    | fail_if_no_progress with_reducible refine Same.updPorts (W := State.syncSend_parts) (by decide) hw ?_
    | split
    | (with_reducible apply Same.zeta); split

def State.peerSend_parts : Nat := 0x200
theorem State.peerSend_same {P : Part} {s0 : State} (s : State) (l : List Nat) (hw : State.peerSend_parts.testBit P.ctorIdx
    = false) (h : Same P s0 s) :
    Same P s0 (State.peerSend s l) := by
  unfold State.peerSend
  repeat' first
    | with_reducible assumption
    | intro _
    | fail_if_no_progress with_reducible refine Same.updPorts (W := State.peerSend_parts) (by decide) hw ?_
    | split
    | (with_reducible apply Same.zeta); split

end Sys2Proof.Machine
end

