-- ==== Sys2Proof/Laws/SameEpoch.lean ====
section
/-!
SUPPORT. Which parts of State the operations of Machine/Epoch.lean can change (Laws/Same.lean), as bits by the part's number, and that
they leave every other as it was.
-/
namespace Sys2Proof.Machine

set_option linter.unusedTactic false
set_option linter.unreachableTactic false

def State.haltRing_parts : Nat := 0x2
theorem State.haltRing_same {P : Part} {s0 : State} (s : State) (q_1 : Nat) (code : Nat) (hw : State.haltRing_parts.testBit
    P.ctorIdx = false) (h : Same P s0 s) :
    Same P s0 (State.haltRing s q_1 code) := by
  unfold State.haltRing
  repeat' first
    | with_reducible assumption
    | intro _
    | with_reducible refine State.setFld_same _ _ _ _ (Wr.sub (by decide) hw) ?_
    | split
    | (with_reducible apply Same.zeta); split

def State.closeCapture_parts : Nat := 0x11f02
theorem State.closeCapture_same {P : Part} {s0 : State} (s : State) (a : Nat) (hw : State.closeCapture_parts.testBit
    P.ctorIdx = false) (h : Same P s0 s) :
    Same P s0 (State.closeCapture s a) := by
  unfold State.closeCapture
  repeat' first
    | with_reducible assumption
    | intro _
    | with_reducible refine State.setFlag_same _ _ _ _ (Wr.sub (by decide) hw) ?_
    | with_reducible refine State.captureDone_same _ _ _ (Wr.sub (by decide) hw) ?_
    | split
    | (with_reducible apply Same.zeta); split

def State.settleRing_parts : Nat := 0x11002
theorem State.settleRing_same {P : Part} {s0 : State} (s : State) (q_1 : Nat) (hw : State.settleRing_parts.testBit
    P.ctorIdx = false) (h : Same P s0 s) :
    Same P s0 (State.settleRing s q_1) := by
  unfold State.settleRing
  repeat' first
    | with_reducible assumption
    | intro _
    | with_reducible refine State.putDescriptor_same _ _ _ _ (Wr.sub (by decide) hw) ?_
    | with_reducible refine State.setFld_same _ _ _ _ (Wr.sub (by decide) hw) ?_
    | with_reducible refine State.haltRing_same _ _ _ (Wr.sub (by decide) hw) ?_
    | with_reducible apply Same.whenIf
    | with_reducible apply Same.each
    | with_reducible apply Same.ite
    | split
    | (with_reducible apply Same.zeta); split

def State.settleRings_parts : Nat := 0x31f02
theorem State.settleRings_same {P : Part} {s0 : State} (s : State) (hw : State.settleRings_parts.testBit P.ctorIdx = false)
    (h : Same P s0 s) :
    Same P s0 (State.settleRings s) := by
  unfold State.settleRings
  repeat' first
    | with_reducible assumption
    | intro _
    | with_reducible refine State.settleRing_same _ _ (Wr.sub (by decide) hw) ?_
    | with_reducible refine State.haltRing_same _ _ _ (Wr.sub (by decide) hw) ?_
    | with_reducible refine State.putDescriptor_same _ _ _ _ (Wr.sub (by decide) hw) ?_
    | with_reducible refine State.closeCapture_same _ _ (Wr.sub (by decide) hw) ?_
    | with_reducible apply Same.whenIf
    | with_reducible apply Same.each
    | fail_if_no_progress with_reducible refine Same.updPorts (W := State.settleRings_parts) (by decide) hw ?_
    | fail_if_no_progress with_reducible refine Same.updLib (W := State.settleRings_parts) (by decide) hw ?_
    | fail_if_no_progress with_reducible refine Same.upd (W := State.settleRings_parts) hw ?_ (.inl rfl) (.inl rfl) (.inl rfl) (.inl rfl) (.inl rfl) (.inl rfl) (.inl rfl) (.inl rfl) (.inr (by decide)) (.inl rfl) (.inl rfl) (.inl rfl) (.inl rfl) (.inl rfl) (.inl rfl) (.inl rfl) (.inr (by decide)) (.inl rfl) (.inl rfl) (.inl rfl) (.inl rfl) (.inl rfl) (.inl rfl) (.inl rfl) (.inl rfl)
    | split
    | (with_reducible apply Same.zeta); split

def State.endGateway_parts : Nat := 0x802
theorem State.endGateway_same {P : Part} {s0 : State} (s : State) (core : Nat) (code : Nat) (hw :
    State.endGateway_parts.testBit P.ctorIdx = false) (h : Same P s0 s) :
    Same P s0 (State.endGateway s core code) := by
  unfold State.endGateway
  repeat' first
    | with_reducible assumption
    | intro _
    | with_reducible refine State.setFld_same _ _ _ _ (Wr.sub (by decide) hw) ?_
    | with_reducible refine State.raiseCore_same _ _ _ (Wr.sub (by decide) hw) ?_
    | with_reducible apply Same.whenIf
    | with_reducible apply Same.ite
    | split
    | (with_reducible apply Same.zeta); split

def State.epochEvent_parts : Nat := 0xa02
theorem State.epochEvent_same {P : Part} {s0 : State} (s : State) (reason : Nat) (hw : State.epochEvent_parts.testBit
    P.ctorIdx = false) (h : Same P s0 s) :
    Same P s0 (State.epochEvent s reason) := by
  unfold State.epochEvent
  repeat' first
    | with_reducible assumption
    | intro _
    | with_reducible refine State.event_same _ _ _ _ _ (Wr.sub (by decide) hw) ?_
    | with_reducible apply Same.ite
    | fail_if_no_progress with_reducible refine Same.updPorts (W := State.epochEvent_parts) (by decide) hw ?_
    | split
    | (with_reducible apply Same.zeta); split

def State.erased_parts : Nat := 0x20000
theorem State.erased_same {P : Part} {s0 : State} (s : State) (b : Nat) (hw : State.erased_parts.testBit P.ctorIdx = false)
    (h : Same P s0 s) :
    Same P s0 (State.erased s b) := by
  unfold State.erased
  repeat' first
    | with_reducible assumption
    | intro _
    | with_reducible apply Same.whenIf
    | fail_if_no_progress with_reducible refine Same.updLib (W := State.erased_parts) (by decide) hw ?_
    | split
    | (with_reducible apply Same.zeta); split

def State.cutBurst_parts : Nat := 0x33a02
theorem State.cutBurst_same {P : Part} {s0 : State} (s : State) (hw : State.cutBurst_parts.testBit P.ctorIdx = false) (h :
    Same P s0 s) :
    Same P s0 (State.cutBurst s) := by
  unfold State.cutBurst
  repeat' first
    | with_reducible assumption
    | intro _
    | with_reducible refine State.erased_same _ _ (Wr.sub (by decide) hw) ?_
    | with_reducible refine State.haltRing_same _ _ _ (Wr.sub (by decide) hw) ?_
    | with_reducible refine State.finishCmd_same _ _ _ _ _ (Wr.sub (by decide) hw) ?_
    | with_reducible apply Same.each
    | with_reducible apply Same.ite
    | fail_if_no_progress with_reducible refine Same.updCt (W := State.cutBurst_parts) (by decide) hw ?_
    | fail_if_no_progress with_reducible refine Same.updLib (W := State.cutBurst_parts) (by decide) hw ?_
    | fail_if_no_progress with_reducible refine Same.upd (W := State.cutBurst_parts) hw ?_ (.inl rfl) (.inl rfl) (.inl rfl) (.inl rfl) (.inl rfl) (.inl rfl) (.inl rfl) (.inl rfl) (.inl rfl) (.inl rfl) (.inl rfl) (.inl rfl) (.inr (by decide)) (.inl rfl) (.inl rfl) (.inl rfl) (.inr (by decide)) (.inl rfl) (.inl rfl) (.inl rfl) (.inl rfl) (.inl rfl) (.inl rfl) (.inl rfl) (.inl rfl)
    | split
    | (with_reducible apply Same.zeta); split

def State.seedCut_parts : Nat := 0x400000
theorem State.seedCut_same {P : Part} {s0 : State} (s : State) (hw : State.seedCut_parts.testBit P.ctorIdx = false) (h :
    Same P s0 s) :
    Same P s0 (State.seedCut s) := by
  unfold State.seedCut
  repeat' first
    | with_reducible assumption
    | intro _
    | with_reducible apply Same.ite
    | fail_if_no_progress with_reducible refine Same.updEng (W := State.seedCut_parts) (by decide) hw ?_
    | split
    | (with_reducible apply Same.zeta); split

def State.advanceEpoch_parts : Nat := 0x433f02
theorem State.advanceEpoch_same {P : Part} {s0 : State} (s : State) (reason : Nat) (detail : Nat) (hw :
    State.advanceEpoch_parts.testBit P.ctorIdx = false) (h : Same P s0 s) :
    Same P s0 (State.advanceEpoch s reason detail) := by
  unfold State.advanceEpoch
  repeat' first
    | with_reducible assumption
    | intro _
    | with_reducible refine State.setFld_same _ _ _ _ (Wr.sub (by decide) hw) ?_
    | with_reducible refine State.seedCut_same _ (Wr.sub (by decide) hw) ?_
    | with_reducible refine State.cutBurst_same _ (Wr.sub (by decide) hw) ?_
    | with_reducible refine State.settleRings_same _ (Wr.sub (by decide) hw) ?_
    | with_reducible refine State.endGateway_same _ _ _ (Wr.sub (by decide) hw) ?_
    | with_reducible refine State.epochEvent_same _ _ (Wr.sub (by decide) hw) ?_
    | with_reducible apply Same.each
    | with_reducible apply Same.ite
    | fail_if_no_progress with_reducible refine Same.updSec (W := State.advanceEpoch_parts) (by decide) hw ?_
    | fail_if_no_progress with_reducible refine Same.updDict (W := State.advanceEpoch_parts) (by decide) hw ?_
    | fail_if_no_progress with_reducible refine Same.upd (W := State.advanceEpoch_parts) hw ?_ (.inl rfl) (.inl rfl) (.inl rfl) (.inl rfl) (.inl rfl) (.inl rfl) (.inl rfl) (.inr (by decide)) (.inl rfl) (.inr (by decide)) (.inl rfl) (.inl rfl) (.inl rfl) (.inl rfl) (.inl rfl) (.inl rfl) (.inl rfl) (.inl rfl) (.inl rfl) (.inl rfl) (.inl rfl) (.inl rfl) (.inl rfl) (.inl rfl) (.inl rfl)
    | split
    | (with_reducible apply Same.zeta); split

def State.portFault_parts : Nat := 0x433f02
theorem State.portFault_same {P : Part} {s0 : State} (s : State) (p : Nat) (reason : Nat) (detail : Nat) (hw :
    State.portFault_parts.testBit P.ctorIdx = false) (h : Same P s0 s) :
    Same P s0 (State.portFault s p reason detail) := by
  unfold State.portFault
  repeat' first
    | with_reducible assumption
    | intro _
    | with_reducible refine State.advanceEpoch_same _ _ _ (Wr.sub (by decide) hw) ?_
    | fail_if_no_progress with_reducible refine Same.updPorts (W := State.portFault_parts) (by decide) hw ?_
    | split
    | (with_reducible apply Same.zeta); split

end Sys2Proof.Machine
end

