-- ==== Sys2Proof/Laws/SameResetCore.lean ====
section
/-!
SUPPORT. Which parts of State the operations of Machine/ResetCore.lean can change (Laws/Same.lean), as bits by the part's number, and that
they leave every other as it was.
-/
namespace Sys2Proof.Machine

set_option linter.unusedTactic false
set_option linter.unreachableTactic false

def State.revokeAll_parts : Nat := 0x82
theorem State.revokeAll_same {P : Part} {s0 : State} (s : State) (hw : State.revokeAll_parts.testBit P.ctorIdx = false) (h
    : Same P s0 s) :
    Same P s0 (State.revokeAll s) := by
  unfold State.revokeAll
  repeat' first
    | with_reducible assumption
    | intro _
    | with_reducible refine State.setFld_same _ _ _ _ (Wr.sub (by decide) hw) ?_
    | with_reducible apply Same.each
    | fail_if_no_progress with_reducible refine Same.updDup (W := State.revokeAll_parts) (by decide) hw ?_
    | split
    | (with_reducible apply Same.zeta); split

def State.program_parts : Nat := 0x102
theorem State.program_same {P : Part} {s0 : State} (s : State) (cmd : Nat) (v : Nat) (hw : State.program_parts.testBit
    P.ctorIdx = false) (h : Same P s0 s) :
    Same P s0 (State.program s cmd v) := by
  unfold State.program
  repeat' first
    | with_reducible assumption
    | intro _
    | with_reducible refine State.setFld_same _ _ _ _ (Wr.sub (by decide) hw) ?_
    | fail_if_no_progress with_reducible refine Same.updSec (W := State.program_parts) (by decide) hw ?_
    | split
    | (with_reducible apply Same.zeta); split

def State.cutSecCommand_parts : Nat := 0x10a
theorem State.cutSecCommand_same {P : Part} {s0 : State} (s : State) (hw : State.cutSecCommand_parts.testBit P.ctorIdx =
    false) (h : Same P s0 s) :
    Same P s0 (State.cutSecCommand s) := by
  unfold State.cutSecCommand
  repeat' first
    | with_reducible assumption
    | intro _
    | with_reducible refine State.fresh_same _ _ (Wr.sub (by decide) hw) ?_
    | (with_reducible refine Same.snd ?_ (by assumption)); with_reducible refine State.fresh_same _ _ (Wr.sub (by decide) hw) ?_
    | with_reducible refine State.program_same _ _ _ (Wr.sub (by decide) hw) ?_
    | with_reducible refine State.setFld_same _ _ _ _ (Wr.sub (by decide) hw) ?_
    | with_reducible apply Same.ite
    | fail_if_no_progress with_reducible refine Same.updSec (W := State.cutSecCommand_parts) (by decide) hw ?_
    | split
    | (with_reducible apply Same.zeta); split

def State.loseItcm_parts : Nat := 0x10800
theorem State.loseItcm_same {P : Part} {s0 : State} (s : State) (hw : State.loseItcm_parts.testBit P.ctorIdx = false) (h :
    Same P s0 s) :
    Same P s0 (State.loseItcm s) := by
  unfold State.loseItcm
  repeat' first
    | with_reducible assumption
    | intro _
    | fail_if_no_progress with_reducible refine Same.updTut (W := State.loseItcm_parts) (by decide) hw ?_
    | fail_if_no_progress with_reducible refine Same.updInteg (W := State.loseItcm_parts) (by decide) hw ?_
    | fail_if_no_progress with_reducible refine Same.upd (W := State.loseItcm_parts) hw ?_ (.inl rfl) (.inl rfl) (.inl rfl) (.inl rfl) (.inl rfl) (.inl rfl) (.inl rfl) (.inl rfl) (.inl rfl) (.inl rfl) (.inr (by decide)) (.inl rfl) (.inl rfl) (.inl rfl) (.inl rfl) (.inr (by decide)) (.inl rfl) (.inl rfl) (.inl rfl) (.inl rfl) (.inl rfl) (.inl rfl) (.inl rfl) (.inl rfl) (.inl rfl)
    | split
    | (with_reducible apply Same.zeta); split

def State.tripsReset_parts : Nat := 0x80002
theorem State.tripsReset_same {P : Part} {s0 : State} (s : State) (hw : State.tripsReset_parts.testBit P.ctorIdx = false)
    (h : Same P s0 s) :
    Same P s0 (State.tripsReset s) := by
  unfold State.tripsReset
  repeat' first
    | with_reducible assumption
    | intro _
    | with_reducible refine State.setFld_same _ _ _ _ (Wr.sub (by decide) hw) ?_
    | with_reducible apply Same.each
    | fail_if_no_progress with_reducible refine Same.updTrip (W := State.tripsReset_parts) (by decide) hw ?_
    | split
    | (with_reducible apply Same.zeta); split

def State.quiesce_parts : Nat := 0x7204e2
theorem State.quiesce_same {P : Part} {s0 : State} (s : State) (hw : State.quiesce_parts.testBit P.ctorIdx = false) (h :
    Same P s0 s) :
    Same P s0 (State.quiesce s) := by
  unfold State.quiesce
  repeat' first
    | with_reducible assumption
    | intro _
    | with_reducible refine State.setFld_same _ _ _ _ (Wr.sub (by decide) hw) ?_
    | with_reducible apply Same.each
    | fail_if_no_progress with_reducible refine Same.updBell (W := State.quiesce_parts) (by decide) hw ?_
    | fail_if_no_progress with_reducible refine Same.updFab (W := State.quiesce_parts) (by decide) hw ?_
    | fail_if_no_progress with_reducible refine Same.updDup (W := State.quiesce_parts) (by decide) hw ?_
    | fail_if_no_progress with_reducible refine Same.updDict (W := State.quiesce_parts) (by decide) hw ?_
    | fail_if_no_progress with_reducible refine Same.updLib (W := State.quiesce_parts) (by decide) hw ?_
    | fail_if_no_progress with_reducible refine Same.updPwm (W := State.quiesce_parts) (by decide) hw ?_
    | fail_if_no_progress with_reducible refine Same.updGate (W := State.quiesce_parts) (by decide) hw ?_
    | fail_if_no_progress with_reducible refine Same.updEng (W := State.quiesce_parts) (by decide) hw ?_
    | fail_if_no_progress with_reducible refine Same.upd (W := State.quiesce_parts) hw ?_ (.inl rfl) (.inl rfl) (.inl rfl) (.inl rfl) (.inr (by decide)) (.inr (by decide)) (.inr (by decide)) (.inl rfl) (.inl rfl) (.inr (by decide)) (.inl rfl) (.inl rfl) (.inl rfl) (.inl rfl) (.inl rfl) (.inl rfl) (.inr (by decide)) (.inl rfl) (.inl rfl) (.inr (by decide)) (.inr (by decide)) (.inr (by decide)) (.inl rfl) (.inl rfl) (.inl rfl)
    | split
    | (with_reducible apply Same.zeta); split

def State.startReset_parts : Nat := 0x7b7ffa
theorem State.startReset_same {P : Part} {s0 : State} (s : State) (cause : Nat) (hw : State.startReset_parts.testBit
    P.ctorIdx = false) (h : Same P s0 s) :
    Same P s0 (State.startReset s cause) := by
  unfold State.startReset
  repeat' first
    | with_reducible assumption
    | intro _
    | with_reducible refine State.tripsReset_same _ (Wr.sub (by decide) hw) ?_
    | with_reducible refine State.quiesce_same _ (Wr.sub (by decide) hw) ?_
    | with_reducible refine State.cutSecCommand_same _ (Wr.sub (by decide) hw) ?_
    | with_reducible refine State.revokeAll_same _ (Wr.sub (by decide) hw) ?_
    | with_reducible refine State.advanceEpoch_same _ _ _ (Wr.sub (by decide) hw) ?_
    | with_reducible refine State.loseItcm_same _ (Wr.sub (by decide) hw) ?_
    | with_reducible apply Same.whenIf
    | fail_if_no_progress with_reducible refine Same.updRst (W := State.startReset_parts) (by decide) hw ?_
    | fail_if_no_progress with_reducible refine Same.updSec (W := State.startReset_parts) (by decide) hw ?_
    | fail_if_no_progress with_reducible refine Same.updClk (W := State.startReset_parts) (by decide) hw ?_
    | fail_if_no_progress with_reducible refine Same.upd (W := State.startReset_parts) hw ?_ (.inl rfl) (.inl rfl) (.inl rfl) (.inr (by decide)) (.inl rfl) (.inl rfl) (.inl rfl) (.inr (by decide)) (.inl rfl) (.inl rfl) (.inl rfl) (.inl rfl) (.inl rfl) (.inr (by decide)) (.inl rfl) (.inl rfl) (.inl rfl) (.inl rfl) (.inl rfl) (.inl rfl) (.inl rfl) (.inl rfl) (.inl rfl) (.inl rfl) (.inl rfl)
    | split
    | (with_reducible apply Same.zeta); split

end Sys2Proof.Machine
end

