-- ==== Sys2Proof/Laws/SameBalls.lean ====
section
/-!
SUPPORT. Which parts of State the operations of Machine/Balls.lean can change (Laws/Same.lean), as bits by the part's number, and that
they leave every other as it was.
-/
namespace Sys2Proof.Machine

set_option linter.unusedTactic false
set_option linter.unreachableTactic false

def State.openBall_parts : Nat := 0x2002a02
theorem State.openBall_same {P : Part} {s0 : State} (s : State) (detail : Nat) (bit : Nat) (known : Nat) (hw :
    State.openBall_parts.testBit P.ctorIdx = false) (h : Same P s0 s) :
    Same P s0 (State.openBall s detail bit known) := by
  unfold State.openBall
  repeat' first
    | with_reducible assumption
    | intro _
    | with_reducible refine State.event_same _ _ _ _ _ (Wr.sub (by decide) hw) ?_
    | with_reducible refine State.consumeSpare_same _ _ (Wr.sub (by decide) hw) ?_
    | with_reducible apply Same.whenIf
    | with_reducible apply Same.ite
    | fail_if_no_progress with_reducible refine Same.updCt (W := State.openBall_parts) (by decide) hw ?_
    | fail_if_no_progress with_reducible refine Same.updPf (W := State.openBall_parts) (by decide) hw ?_
    | fail_if_no_progress with_reducible refine Same.upd (W := State.openBall_parts) hw ?_ (.inl rfl) (.inl rfl) (.inl rfl) (.inl rfl) (.inl rfl) (.inl rfl) (.inl rfl) (.inl rfl) (.inl rfl) (.inl rfl) (.inl rfl) (.inl rfl) (.inr (by decide)) (.inl rfl) (.inl rfl) (.inl rfl) (.inl rfl) (.inl rfl) (.inl rfl) (.inl rfl) (.inl rfl) (.inl rfl) (.inl rfl) (.inl rfl) (.inr (by decide))
    | split
    | (with_reducible apply Same.zeta); split

def execOpenBallTest_parts : Nat := 0x2002a02
theorem execOpenBallTest_same {P : Part} {s0 : State} (ball : DualBall) (changed : Bool) (s : State) (hw :
    execOpenBallTest_parts.testBit P.ctorIdx = false) (h : Same P s0 s) :
    SameOut P s0 (execOpenBallTest ball changed s) := by
  unfold execOpenBallTest
  repeat' first
    | with_reducible assumption
    | with_reducible apply SameOut.next
    | with_reducible apply SameOut.ite
    | intro _
    | with_reducible refine State.openBall_same _ _ _ _ (Wr.sub (by decide) hw) ?_
    | with_reducible refine State.setBit_same _ _ _ _ _ (Wr.sub (by decide) hw) ?_
    | with_reducible apply Same.whenIf
    | with_reducible apply Same.ite
    | fail_if_no_progress with_reducible refine Same.updCt (W := execOpenBallTest_parts) (by decide) hw ?_
    | split
    | dsimp only; split

def State.groupBallOpen_parts : Nat := 0x2a02
theorem State.groupBallOpen_same {P : Part} {s0 : State} (s : State) (which : Nat) (ball : Nat) (hw :
    State.groupBallOpen_parts.testBit P.ctorIdx = false) (h : Same P s0 s) :
    Same P s0 (State.groupBallOpen s which ball) := by
  unfold State.groupBallOpen
  repeat' first
    | with_reducible assumption
    | intro _
    | with_reducible refine State.setFld_same _ _ _ _ (Wr.sub (by decide) hw) ?_
    | with_reducible refine State.event_same _ _ _ _ _ (Wr.sub (by decide) hw) ?_
    | with_reducible refine State.consumeSpare_same _ _ (Wr.sub (by decide) hw) ?_
    | with_reducible apply Same.whenIf
    | with_reducible apply Same.ite
    | fail_if_no_progress with_reducible refine Same.updCt (W := State.groupBallOpen_parts) (by decide) hw ?_
    | split
    | (with_reducible apply Same.zeta); split

def execSupplyBallOpen_parts : Nat := 0x2002a02
theorem execSupplyBallOpen_same {P : Part} {s0 : State} (group : BallGroup) (amps : List Nat) (s : State) (hw :
    execSupplyBallOpen_parts.testBit P.ctorIdx = false) (h : Same P s0 s) :
    SameOut P s0 (execSupplyBallOpen group amps s) := by
  unfold execSupplyBallOpen
  repeat' first
    | with_reducible assumption
    | with_reducible apply SameOut.next
    | intro _
    | with_reducible refine State.setBit_same _ _ _ _ _ (Wr.sub (by decide) hw) ?_
    | with_reducible refine State.groupBallOpen_same _ _ _ (Wr.sub (by decide) hw) ?_
    | with_reducible refine State.openBall_same _ _ _ _ (Wr.sub (by decide) hw) ?_
    | with_reducible apply Same.whenIf
    | with_reducible apply Same.each
    | split
    | dsimp only; split

def execIoBankChange_parts : Nat := 0xa02
theorem execIoBankChange_same {P : Part} {s0 : State} (bank : Nat) (code : Nat) (s : State) (hw :
    execIoBankChange_parts.testBit P.ctorIdx = false) (h : Same P s0 s) :
    SameOut P s0 (execIoBankChange bank code s) := by
  unfold execIoBankChange
  repeat' first
    | with_reducible assumption
    | with_reducible apply SameOut.next
    | with_reducible apply SameOut.ite
    | intro _
    | with_reducible refine State.setFld_same _ _ _ _ (Wr.sub (by decide) hw) ?_
    | with_reducible refine State.event_same _ _ _ _ _ (Wr.sub (by decide) hw) ?_
    | with_reducible refine State.setBit_same _ _ _ _ _ (Wr.sub (by decide) hw) ?_
    | with_reducible apply Same.ite
    | split
    | dsimp only; split

end Sys2Proof.Machine
end

