-- ==== Sys2Proof/Laws/SameSupply.lean ====
section
/-!
SUPPORT. Which parts of State the operations of Machine/Supply.lean can change (Laws/Same.lean), as bits by the part's number, and that
they leave every other as it was.
-/
namespace Sys2Proof.Machine

set_option linter.unusedTactic false
set_option linter.unreachableTactic false

def State.losePd0_parts : Nat := 0x1016482
theorem State.losePd0_same {P : Part} {s0 : State} (s : State) (hw : State.losePd0_parts.testBit P.ctorIdx = false) (h :
    Same P s0 s) :
    Same P s0 (State.losePd0 s) := by
  unfold State.losePd0
  repeat' first
    | with_reducible assumption
    | intro _
    | with_reducible refine State.setFld_same _ _ _ _ (Wr.sub (by decide) hw) ?_
    | fail_if_no_progress with_reducible refine Same.updRegs (W := State.losePd0_parts) (by decide) hw ?_
    | fail_if_no_progress with_reducible refine Same.updDup (W := State.losePd0_parts) (by decide) hw ?_
    | fail_if_no_progress with_reducible refine Same.updDict (W := State.losePd0_parts) (by decide) hw ?_
    | fail_if_no_progress with_reducible refine Same.updCt (W := State.losePd0_parts) (by decide) hw ?_
    | fail_if_no_progress with_reducible refine Same.updClk (W := State.losePd0_parts) (by decide) hw ?_
    | fail_if_no_progress with_reducible refine Same.updInteg (W := State.losePd0_parts) (by decide) hw ?_
    | fail_if_no_progress with_reducible refine Same.updBur (W := State.losePd0_parts) (by decide) hw ?_
    | fail_if_no_progress with_reducible refine Same.upd (W := State.losePd0_parts) hw ?_ (.inr (by decide)) (.inl rfl) (.inl rfl) (.inl rfl) (.inl rfl) (.inl rfl) (.inr (by decide)) (.inl rfl) (.inl rfl) (.inr (by decide)) (.inl rfl) (.inl rfl) (.inr (by decide)) (.inr (by decide)) (.inl rfl) (.inr (by decide)) (.inl rfl) (.inl rfl) (.inl rfl) (.inl rfl) (.inl rfl) (.inl rfl) (.inl rfl) (.inr (by decide)) (.inl rfl)
    | split
    | (with_reducible apply Same.zeta); split

def State.droop_parts : Nat := 0x7b7ffa
theorem State.droop_same {P : Part} {s0 : State} (s : State) (hw : State.droop_parts.testBit P.ctorIdx = false) (h : Same P
    s0 s) :
    Same P s0 (State.droop s) := by
  unfold State.droop
  repeat' first
    | with_reducible assumption
    | intro _
    | with_reducible refine State.startReset_same _ _ (Wr.sub (by decide) hw) ?_
    | with_reducible refine State.count_same _ _ _ (Wr.sub (by decide) hw) ?_
    | split
    | (with_reducible apply Same.zeta); split

def execVcoreDroop_parts : Nat := 0x7b7ffa
theorem execVcoreDroop_same {P : Part} {s0 : State} (byVcore : Bool) (s : State) (hw : execVcoreDroop_parts.testBit
    P.ctorIdx = false) (h : Same P s0 s) :
    SameOut P s0 (execVcoreDroop byVcore s) := by
  unfold execVcoreDroop
  repeat' first
    | with_reducible assumption
    | with_reducible apply SameOut.next
    | with_reducible apply SameOut.ite
    | intro _
    | with_reducible refine State.setFld_same _ _ _ _ (Wr.sub (by decide) hw) ?_
    | with_reducible refine State.droop_same _ (Wr.sub (by decide) hw) ?_
    | with_reducible apply Same.ite
    | fail_if_no_progress with_reducible refine Same.updRst (W := execVcoreDroop_parts) (by decide) hw ?_
    | fail_if_no_progress with_reducible refine Same.updCt (W := execVcoreDroop_parts) (by decide) hw ?_
    | fail_if_no_progress with_reducible refine Same.upd (W := execVcoreDroop_parts) hw ?_ (.inl rfl) (.inl rfl) (.inl rfl) (.inr (by decide)) (.inl rfl) (.inl rfl) (.inl rfl) (.inl rfl) (.inl rfl) (.inl rfl) (.inl rfl) (.inl rfl) (.inr (by decide)) (.inl rfl) (.inl rfl) (.inl rfl) (.inl rfl) (.inl rfl) (.inl rfl) (.inl rfl) (.inl rfl) (.inl rfl) (.inl rfl) (.inl rfl) (.inl rfl)
    | split
    | dsimp only; split

def execVanaFail_parts : Nat := 0x7b7ffa
theorem execVanaFail_same {P : Part} {s0 : State} (s : State) (hw : execVanaFail_parts.testBit P.ctorIdx = false) (h : Same
    P s0 s) :
    SameOut P s0 (execVanaFail s) := by
  unfold execVanaFail
  repeat' first
    | with_reducible assumption
    | with_reducible apply SameOut.next
    | intro _
    | with_reducible refine State.setFld_same _ _ _ _ (Wr.sub (by decide) hw) ?_
    | with_reducible refine State.droop_same _ (Wr.sub (by decide) hw) ?_
    | with_reducible apply Same.whenIf
    | fail_if_no_progress with_reducible refine Same.updCt (W := execVanaFail_parts) (by decide) hw ?_
    | split
    | dsimp only; split

def State.theftAbort_parts : Nat := 0x1000002
theorem State.theftAbort_same {P : Part} {s0 : State} (s : State) (hw : State.theftAbort_parts.testBit P.ctorIdx = false)
    (h : Same P s0 s) :
    Same P s0 (State.theftAbort s) := by
  unfold State.theftAbort
  repeat' first
    | with_reducible assumption
    | intro _
    | with_reducible refine State.count_same _ _ _ (Wr.sub (by decide) hw) ?_
    | with_reducible apply Same.whenIf
    | fail_if_no_progress with_reducible refine Same.updBur (W := State.theftAbort_parts) (by decide) hw ?_
    | split
    | (with_reducible apply Same.zeta); split

def State.settlePaths_parts : Nat := 0x2002
theorem State.settlePaths_same {P : Part} {s0 : State} (s : State) (hw : State.settlePaths_parts.testBit P.ctorIdx = false)
    (h : Same P s0 s) :
    Same P s0 (State.settlePaths s) := by
  unfold State.settlePaths
  repeat' first
    | with_reducible assumption
    | intro _
    | with_reducible refine State.setFlag_same _ _ _ _ (Wr.sub (by decide) hw) ?_
    | fail_if_no_progress with_reducible refine Same.updCt (W := State.settlePaths_parts) (by decide) hw ?_
    | split
    | (with_reducible apply Same.zeta); split

def execMainSupplyGood_parts : Nat := 0x1002002
theorem execMainSupplyGood_same {P : Part} {s0 : State} (s : State) (hw : execMainSupplyGood_parts.testBit P.ctorIdx =
    false) (h : Same P s0 s) :
    SameOut P s0 (execMainSupplyGood s) := by
  unfold execMainSupplyGood
  repeat' first
    | with_reducible assumption
    | with_reducible apply SameOut.next
    | intro _
    | with_reducible refine State.theftAbort_same _ (Wr.sub (by decide) hw) ?_
    | with_reducible refine State.setFld_same _ _ _ _ (Wr.sub (by decide) hw) ?_
    | with_reducible apply Same.whenIf
    | fail_if_no_progress with_reducible refine Same.updCt (W := execMainSupplyGood_parts) (by decide) hw ?_
    | split
    | dsimp only; split

def execVanaGood_parts : Nat := 0x1000002
theorem execVanaGood_same {P : Part} {s0 : State} (s : State) (hw : execVanaGood_parts.testBit P.ctorIdx = false) (h : Same
    P s0 s) :
    SameOut P s0 (execVanaGood s) := by
  unfold execVanaGood
  repeat' first
    | with_reducible assumption
    | with_reducible apply SameOut.next
    | intro _
    | with_reducible refine State.setFld_same _ _ _ _ (Wr.sub (by decide) hw) ?_
    | with_reducible refine State.theftAbort_same _ (Wr.sub (by decide) hw) ?_
    | with_reducible refine State.setFlag_same _ _ _ _ (Wr.sub (by decide) hw) ?_
    | with_reducible apply Same.whenIf
    | split
    | dsimp only; split

def execCaretakerStart_parts : Nat := 0x1016482
theorem execCaretakerStart_same {P : Part} {s0 : State} (s : State) (hw : execCaretakerStart_parts.testBit P.ctorIdx =
    false) (h : Same P s0 s) :
    SameOut P s0 (execCaretakerStart s) := by
  unfold execCaretakerStart
  repeat' first
    | with_reducible assumption
    | with_reducible apply SameOut.next
    | with_reducible apply SameOut.ite
    | intro _
    | with_reducible refine State.losePd0_same _ (Wr.sub (by decide) hw) ?_
    | with_reducible apply Same.ite
    | fail_if_no_progress with_reducible refine Same.updCt (W := execCaretakerStart_parts) (by decide) hw ?_
    | split
    | dsimp only; split

def execCaretakerStop_parts : Nat := 0x1016482
theorem execCaretakerStop_same {P : Part} {s0 : State} (s : State) (hw : execCaretakerStop_parts.testBit P.ctorIdx = false)
    (h : Same P s0 s) :
    SameOut P s0 (execCaretakerStop s) := by
  unfold execCaretakerStop
  repeat' first
    | with_reducible assumption
    | with_reducible apply SameOut.next
    | with_reducible apply SameOut.ite
    | intro _
    | with_reducible refine State.losePd0_same _ (Wr.sub (by decide) hw) ?_
    | with_reducible apply Same.ite
    | fail_if_no_progress with_reducible refine Same.updCt (W := execCaretakerStop_parts) (by decide) hw ?_
    | split
    | dsimp only; split

def State.storeFault_parts : Nat := 0xa02
theorem State.storeFault_same {P : Part} {s0 : State} (s : State) (hw : State.storeFault_parts.testBit P.ctorIdx = false)
    (h : Same P s0 s) :
    Same P s0 (State.storeFault s) := by
  unfold State.storeFault
  repeat' first
    | with_reducible assumption
    | intro _
    | with_reducible refine State.supplyEvent_same _ (Wr.sub (by decide) hw) ?_
    | with_reducible refine State.setFld_same _ _ _ _ (Wr.sub (by decide) hw) ?_
    | with_reducible apply Same.ite
    | split
    | (with_reducible apply Same.zeta); split

def execStoreFault_parts : Nat := 0xa02
theorem execStoreFault_same {P : Part} {s0 : State} (s : State) (hw : execStoreFault_parts.testBit P.ctorIdx = false) (h :
    Same P s0 s) :
    SameOut P s0 (execStoreFault s) := by
  unfold execStoreFault
  repeat' first
    | with_reducible assumption
    | with_reducible apply SameOut.next
    | intro _
    | with_reducible refine State.storeFault_same _ (Wr.sub (by decide) hw) ?_
    | split
    | dsimp only; split

def State.losePd_parts : Nat := 0x410802
theorem State.losePd_same {P : Part} {s0 : State} (s : State) (w : Wing) (hw : State.losePd_parts.testBit P.ctorIdx =
    false) (h : Same P s0 s) :
    Same P s0 (State.losePd s w) := by
  unfold State.losePd
  repeat' first
    | with_reducible assumption
    | intro _
    | with_reducible refine State.setFld_same _ _ _ _ (Wr.sub (by decide) hw) ?_
    | with_reducible apply Same.each
    | with_reducible apply Same.ite
    | fail_if_no_progress with_reducible refine Same.updTut (W := State.losePd_parts) (by decide) hw ?_
    | fail_if_no_progress with_reducible refine Same.updInteg (W := State.losePd_parts) (by decide) hw ?_
    | fail_if_no_progress with_reducible refine Same.updEng (W := State.losePd_parts) (by decide) hw ?_
    | fail_if_no_progress with_reducible refine Same.upd (W := State.losePd_parts) hw ?_ (.inl rfl) (.inl rfl) (.inl rfl) (.inl rfl) (.inl rfl) (.inl rfl) (.inl rfl) (.inl rfl) (.inl rfl) (.inl rfl) (.inr (by decide)) (.inl rfl) (.inl rfl) (.inl rfl) (.inl rfl) (.inr (by decide)) (.inl rfl) (.inl rfl) (.inl rfl) (.inl rfl) (.inl rfl) (.inr (by decide)) (.inl rfl) (.inl rfl) (.inl rfl)
    | split
    | (with_reducible apply Same.zeta); split

def State.openSwitch_parts : Nat := 0x410b02
theorem State.openSwitch_same {P : Part} {s0 : State} (s : State) (w : Wing) (hw : State.openSwitch_parts.testBit P.ctorIdx
    = false) (h : Same P s0 s) :
    Same P s0 (State.openSwitch s w) := by
  unfold State.openSwitch
  repeat' first
    | with_reducible assumption
    | intro _
    | with_reducible refine State.losePd_same _ _ (Wr.sub (by decide) hw) ?_
    | with_reducible refine State.setFld_same _ _ _ _ (Wr.sub (by decide) hw) ?_
    | with_reducible refine State.setWing_same _ _ _ (Wr.sub (by decide) hw) ?_
    | with_reducible refine State.standbyReserve_same _ _ (Wr.sub (by decide) hw) ?_
    | fail_if_no_progress with_reducible refine Same.updSec (W := State.openSwitch_parts) (by decide) hw ?_
    | split
    | (with_reducible apply Same.zeta); split

def State.driveSwitch_parts : Nat := 0x410b02
theorem State.driveSwitch_same {P : Part} {s0 : State} (s : State) (w : Wing) (on : Bool) (hw :
    State.driveSwitch_parts.testBit P.ctorIdx = false) (h : Same P s0 s) :
    Same P s0 (State.driveSwitch s w on) := by
  unfold State.driveSwitch
  repeat' first
    | with_reducible assumption
    | intro _
    | with_reducible refine State.openSwitch_same _ _ (Wr.sub (by decide) hw) ?_
    | with_reducible refine State.setFld_same _ _ _ _ (Wr.sub (by decide) hw) ?_
    | with_reducible apply Same.ite
    | split
    | (with_reducible apply Same.zeta); split

def State.pwrSwWrite_parts : Nat := 0x410b02
theorem State.pwrSwWrite_same {P : Part} {s0 : State} (s : State) (pd1 : Bool) (pd2 : Bool) (clr1 : Bool) (clr2 : Bool) (hw
    : State.pwrSwWrite_parts.testBit P.ctorIdx = false) (h : Same P s0 s) :
    Same P s0 (State.pwrSwWrite s pd1 pd2 clr1 clr2) := by
  unfold State.pwrSwWrite
  repeat' first
    | with_reducible assumption
    | intro _
    | with_reducible refine State.discarded_same _ _ _ (Wr.sub (by decide) hw) ?_
    | with_reducible refine State.setFld_same _ _ _ _ (Wr.sub (by decide) hw) ?_
    | with_reducible refine State.driveSwitch_same _ _ _ (Wr.sub (by decide) hw) ?_
    | with_reducible apply Same.whenIf
    | with_reducible apply Same.ite
    | split
    | (with_reducible apply Same.zeta); split

def execPwrSwWrite_parts : Nat := 0x410b02
theorem execPwrSwWrite_same {P : Part} {s0 : State} (core : Nat) (pd1 : Bool) (pd2 : Bool) (clr1 : Bool) (clr2 : Bool) (s :
    State) (hw : execPwrSwWrite_parts.testBit P.ctorIdx = false) (h : Same P s0 s) :
    SameOut P s0 (execPwrSwWrite core pd1 pd2 clr1 clr2 s) := by
  unfold execPwrSwWrite
  repeat' first
    | with_reducible assumption
    | with_reducible apply SameOut.next
    | intro _
    | with_reducible refine State.accessBlk_same _ _ _ _ _ (Wr.sub (by decide) hw) ?_ ?_
    | with_reducible refine State.pwrSwWrite_same _ _ _ _ _ (Wr.sub (by decide) hw) ?_
    | split
    | dsimp only; split

def execWingPowerGood_parts : Nat := 0x102
theorem execWingPowerGood_same {P : Part} {s0 : State} (w : Wing) (s : State) (hw : execWingPowerGood_parts.testBit
    P.ctorIdx = false) (h : Same P s0 s) :
    SameOut P s0 (execWingPowerGood w s) := by
  unfold execWingPowerGood
  repeat' first
    | with_reducible assumption
    | with_reducible apply SameOut.next
    | with_reducible apply SameOut.ite
    | intro _
    | with_reducible refine State.setWing_same _ _ _ (Wr.sub (by decide) hw) ?_
    | with_reducible refine State.setFld_same _ _ _ _ (Wr.sub (by decide) hw) ?_
    | with_reducible apply Same.ite
    | fail_if_no_progress with_reducible refine Same.updSec (W := execWingPowerGood_parts) (by decide) hw ?_
    | split
    | dsimp only; split

def execSwitchOvercurrent_parts : Nat := 0x7b7ffa
theorem execSwitchOvercurrent_same {P : Part} {s0 : State} (pd : Nat) (s : State) (hw : execSwitchOvercurrent_parts.testBit
    P.ctorIdx = false) (h : Same P s0 s) :
    SameOut P s0 (execSwitchOvercurrent pd s) := by
  unfold execSwitchOvercurrent
  repeat' first
    | with_reducible assumption
    | with_reducible apply SameOut.next
    | intro _
    | with_reducible refine State.supplyEvent_same _ (Wr.sub (by decide) hw) ?_
    | with_reducible refine State.setFld_same _ _ _ _ (Wr.sub (by decide) hw) ?_
    | with_reducible refine State.openSwitch_same _ _ (Wr.sub (by decide) hw) ?_
    | with_reducible refine State.droop_same _ (Wr.sub (by decide) hw) ?_
    | with_reducible refine State.advanceEpoch_same _ _ _ (Wr.sub (by decide) hw) ?_
    | fail_if_no_progress with_reducible refine Same.updRst (W := execSwitchOvercurrent_parts) (by decide) hw ?_
    | fail_if_no_progress with_reducible refine Same.updCt (W := execSwitchOvercurrent_parts) (by decide) hw ?_
    | fail_if_no_progress with_reducible refine Same.upd (W := execSwitchOvercurrent_parts) hw ?_ (.inl rfl) (.inl rfl) (.inl rfl) (.inr (by decide)) (.inl rfl) (.inl rfl) (.inl rfl) (.inl rfl) (.inl rfl) (.inl rfl) (.inl rfl) (.inl rfl) (.inr (by decide)) (.inl rfl) (.inl rfl) (.inl rfl) (.inl rfl) (.inl rfl) (.inl rfl) (.inl rfl) (.inl rfl) (.inl rfl) (.inl rfl) (.inl rfl) (.inl rfl)
    | split
    | dsimp only; split

def execHarvestStateChange_parts : Nat := 0x2002
theorem execHarvestStateChange_same {P : Part} {s0 : State} (delivering : Bool) (setFault : Bool) (s : State) (hw :
    execHarvestStateChange_parts.testBit P.ctorIdx = false) (h : Same P s0 s) :
    SameOut P s0 (execHarvestStateChange delivering setFault s) := by
  unfold execHarvestStateChange
  repeat' first
    | with_reducible assumption
    | with_reducible apply SameOut.next
    | intro _
    | with_reducible refine State.setFlag_same _ _ _ _ (Wr.sub (by decide) hw) ?_
    | with_reducible refine State.settlePaths_same _ (Wr.sub (by decide) hw) ?_
    | fail_if_no_progress with_reducible refine Same.updCt (W := execHarvestStateChange_parts) (by decide) hw ?_
    | split
    | dsimp only; split

def execCellPathOn_parts : Nat := 0x2002
theorem execCellPathOn_same {P : Part} {s0 : State} (s : State) (hw : execCellPathOn_parts.testBit P.ctorIdx = false) (h :
    Same P s0 s) :
    SameOut P s0 (execCellPathOn s) := by
  unfold execCellPathOn
  repeat' first
    | with_reducible assumption
    | with_reducible apply SameOut.next
    | with_reducible apply SameOut.ite
    | intro _
    | with_reducible refine State.setFld_same _ _ _ _ (Wr.sub (by decide) hw) ?_
    | with_reducible apply Same.ite
    | fail_if_no_progress with_reducible refine Same.updCt (W := execCellPathOn_parts) (by decide) hw ?_
    | split
    | dsimp only; split

def execCellPathOff_parts : Nat := 0x2
theorem execCellPathOff_same {P : Part} {s0 : State} (s : State) (hw : execCellPathOff_parts.testBit P.ctorIdx = false) (h
    : Same P s0 s) :
    SameOut P s0 (execCellPathOff s) := by
  unfold execCellPathOff
  repeat' first
    | with_reducible assumption
    | with_reducible apply SameOut.next
    | intro _
    | with_reducible refine State.setFld_same _ _ _ _ (Wr.sub (by decide) hw) ?_
    | split
    | dsimp only; split

def execCellRemoved_parts : Nat := 0xa02
theorem execCellRemoved_same {P : Part} {s0 : State} (s : State) (hw : execCellRemoved_parts.testBit P.ctorIdx = false) (h
    : Same P s0 s) :
    SameOut P s0 (execCellRemoved s) := by
  unfold execCellRemoved
  repeat' first
    | with_reducible assumption
    | with_reducible apply SameOut.next
    | intro _
    | with_reducible refine State.supplyEvent_same _ (Wr.sub (by decide) hw) ?_
    | with_reducible refine State.setFld_same _ _ _ _ (Wr.sub (by decide) hw) ?_
    | split
    | dsimp only; split

def execCellInserted_parts : Nat := 0x2
theorem execCellInserted_same {P : Part} {s0 : State} (s : State) (hw : execCellInserted_parts.testBit P.ctorIdx = false)
    (h : Same P s0 s) :
    SameOut P s0 (execCellInserted s) := by
  unfold execCellInserted
  repeat' first
    | with_reducible assumption
    | with_reducible apply SameOut.next
    | intro _
    | with_reducible refine State.setFld_same _ _ _ _ (Wr.sub (by decide) hw) ?_
    | split
    | dsimp only; split

def execStoreCeilingReached_parts : Nat := 0x2
theorem execStoreCeilingReached_same {P : Part} {s0 : State} (s : State) (hw : execStoreCeilingReached_parts.testBit
    P.ctorIdx = false) (h : Same P s0 s) :
    SameOut P s0 (execStoreCeilingReached s) := by
  unfold execStoreCeilingReached
  repeat' first
    | with_reducible assumption
    | with_reducible apply SameOut.next
    | intro _
    | with_reducible refine State.setFld_same _ _ _ _ (Wr.sub (by decide) hw) ?_
    | split
    | dsimp only; split

def execStoreCapMeasured_parts : Nat := 0x2
theorem execStoreCapMeasured_same {P : Part} {s0 : State} (dtMs : Nat) (s : State) (hw : execStoreCapMeasured_parts.testBit
    P.ctorIdx = false) (h : Same P s0 s) :
    SameOut P s0 (execStoreCapMeasured dtMs s) := by
  unfold execStoreCapMeasured
  repeat' first
    | with_reducible assumption
    | with_reducible apply SameOut.next
    | intro _
    | with_reducible refine State.setFld_same _ _ _ _ (Wr.sub (by decide) hw) ?_
    | with_reducible apply Same.whenIf
    | split
    | dsimp only; split

def State.pwrCellWrite_parts : Nat := 0xa02
theorem State.pwrCellWrite_same {P : Part} {s0 : State} (s : State) (on : Nat) (off : Nat) (low : Nat) (ilim : Nat) (hw :
    State.pwrCellWrite_parts.testBit P.ctorIdx = false) (h : Same P s0 s) :
    Same P s0 (State.pwrCellWrite s on off low ilim) := by
  unfold State.pwrCellWrite
  repeat' first
    | with_reducible assumption
    | intro _
    | with_reducible refine State.discarded_same _ _ _ (Wr.sub (by decide) hw) ?_
    | with_reducible refine State.setFld_same _ _ _ _ (Wr.sub (by decide) hw) ?_
    | with_reducible apply Same.ite
    | split
    | (with_reducible apply Same.zeta); split

def execPwrCellWrite_parts : Nat := 0xb02
theorem execPwrCellWrite_same {P : Part} {s0 : State} (core : Nat) (on : Nat) (off : Nat) (low : Nat) (ilim : Nat) (s :
    State) (hw : execPwrCellWrite_parts.testBit P.ctorIdx = false) (h : Same P s0 s) :
    SameOut P s0 (execPwrCellWrite core on off low ilim s) := by
  unfold execPwrCellWrite
  repeat' first
    | with_reducible assumption
    | with_reducible apply SameOut.next
    | intro _
    | with_reducible refine State.accessBlk_same _ _ _ _ _ (Wr.sub (by decide) hw) ?_ ?_
    | with_reducible refine State.pwrCellWrite_same _ _ _ _ _ (Wr.sub (by decide) hw) ?_
    | split
    | dsimp only; split

def State.writeFinal_parts : Nat := 0x22002
theorem State.writeFinal_same {P : Part} {s0 : State} (s : State) (hw : State.writeFinal_parts.testBit P.ctorIdx = false)
    (h : Same P s0 s) :
    Same P s0 (State.writeFinal s) := by
  unfold State.writeFinal
  repeat' first
    | with_reducible assumption
    | intro _
    | with_reducible refine State.setFld_same _ _ _ _ (Wr.sub (by decide) hw) ?_
    | fail_if_no_progress with_reducible refine Same.updCt (W := State.writeFinal_parts) (by decide) hw ?_
    | fail_if_no_progress with_reducible refine Same.updLib (W := State.writeFinal_parts) (by decide) hw ?_
    | fail_if_no_progress with_reducible refine Same.upd (W := State.writeFinal_parts) hw ?_ (.inl rfl) (.inl rfl) (.inl rfl) (.inl rfl) (.inl rfl) (.inl rfl) (.inl rfl) (.inl rfl) (.inl rfl) (.inl rfl) (.inl rfl) (.inl rfl) (.inr (by decide)) (.inl rfl) (.inl rfl) (.inl rfl) (.inr (by decide)) (.inl rfl) (.inl rfl) (.inl rfl) (.inl rfl) (.inl rfl) (.inl rfl) (.inl rfl) (.inl rfl)
    | split
    | (with_reducible apply Same.zeta); split

def State.finalUnprompted_parts : Nat := 0x22002
theorem State.finalUnprompted_same {P : Part} {s0 : State} (s : State) (hw : State.finalUnprompted_parts.testBit P.ctorIdx
    = false) (h : Same P s0 s) :
    Same P s0 (State.finalUnprompted s) := by
  unfold State.finalUnprompted
  repeat' first
    | with_reducible assumption
    | intro _
    | with_reducible refine State.writeFinal_same _ (Wr.sub (by decide) hw) ?_
    | with_reducible refine State.count_same _ _ _ (Wr.sub (by decide) hw) ?_
    | with_reducible apply Same.ite
    | fail_if_no_progress with_reducible refine Same.updCt (W := State.finalUnprompted_parts) (by decide) hw ?_
    | split
    | (with_reducible apply Same.zeta); split

def State.gaugeSample_parts : Nat := 0x22a02
theorem State.gaugeSample_same {P : Part} {s0 : State} (vstore : Nat) (vcell : Nat) (used : Nat) (s : State) (hw :
    State.gaugeSample_parts.testBit P.ctorIdx = false) (h : Same P s0 s) :
    Same P s0 (State.gaugeSample vstore vcell used s) := by
  unfold State.gaugeSample
  repeat' first
    | with_reducible assumption
    | intro _
    | with_reducible refine State.setFld_same _ _ _ _ (Wr.sub (by decide) hw) ?_
    | with_reducible refine State.setFlag_same _ _ _ _ (Wr.sub (by decide) hw) ?_
    | with_reducible refine State.settlePaths_same _ (Wr.sub (by decide) hw) ?_
    | with_reducible refine State.storeFault_same _ (Wr.sub (by decide) hw) ?_
    | with_reducible refine State.finalUnprompted_same _ (Wr.sub (by decide) hw) ?_
    | with_reducible apply Same.whenIf
    | with_reducible apply Same.ite
    | fail_if_no_progress with_reducible refine Same.updCt (W := State.gaugeSample_parts) (by decide) hw ?_
    | split
    | (with_reducible apply Same.zeta); split

def State.admitBurst_parts : Nat := 0x22a02
theorem State.admitBurst_same {P : Part} {s0 : State} (s : State) (classes : List Nat) (byCaretaker : Bool) (hw :
    State.admitBurst_parts.testBit P.ctorIdx = false) (h : Same P s0 s) :
    Same P s0 (State.admitBurst s classes byCaretaker) := by
  unfold State.admitBurst
  repeat' first
    | with_reducible assumption
    | intro _
    | with_reducible refine State.supplyEvent_same _ (Wr.sub (by decide) hw) ?_
    | with_reducible refine State.setFld_same _ _ _ _ (Wr.sub (by decide) hw) ?_
    | with_reducible refine State.writeFinal_same _ (Wr.sub (by decide) hw) ?_
    | with_reducible apply Same.whenIf
    | with_reducible apply Same.ite
    | fail_if_no_progress with_reducible refine Same.updCt (W := State.admitBurst_parts) (by decide) hw ?_
    | split
    | (with_reducible apply Same.zeta); split

def State.leaveOctal_parts : Nat := 0x20002
theorem State.leaveOctal_same {P : Part} {s0 : State} (s : State) (hw : State.leaveOctal_parts.testBit P.ctorIdx = false)
    (h : Same P s0 s) :
    Same P s0 (State.leaveOctal s) := by
  unfold State.leaveOctal
  repeat' first
    | with_reducible assumption
    | intro _
    | with_reducible refine State.setFld_same _ _ _ _ (Wr.sub (by decide) hw) ?_
    | with_reducible apply Same.whenIf
    | fail_if_no_progress with_reducible refine Same.updLib (W := State.leaveOctal_parts) (by decide) hw ?_
    | split
    | (with_reducible apply Same.zeta); split

def execCaretakerTakePort_parts : Nat := 0x20002
theorem execCaretakerTakePort_same {P : Part} {s0 : State} (s : State) (hw : execCaretakerTakePort_parts.testBit P.ctorIdx
    = false) (h : Same P s0 s) :
    SameOut P s0 (execCaretakerTakePort s) := by
  unfold execCaretakerTakePort
  repeat' first
    | with_reducible assumption
    | with_reducible apply SameOut.next
    | with_reducible apply SameOut.ite
    | intro _
    | with_reducible refine State.setFld_same _ _ _ _ (Wr.sub (by decide) hw) ?_
    | with_reducible refine State.leaveOctal_same _ (Wr.sub (by decide) hw) ?_
    | with_reducible apply Same.ite
    | split
    | dsimp only; split

def execCaretakerReleasePort_parts : Nat := 0x2
theorem execCaretakerReleasePort_same {P : Part} {s0 : State} (s : State) (hw : execCaretakerReleasePort_parts.testBit
    P.ctorIdx = false) (h : Same P s0 s) :
    SameOut P s0 (execCaretakerReleasePort s) := by
  unfold execCaretakerReleasePort
  repeat' first
    | with_reducible assumption
    | with_reducible apply SameOut.next
    | with_reducible apply SameOut.ite
    | intro _
    | with_reducible refine State.setFld_same _ _ _ _ (Wr.sub (by decide) hw) ?_
    | with_reducible apply Same.ite
    | split
    | dsimp only; split

end Sys2Proof.Machine
end

