-- ==== Sys2Proof/Laws/StillPoison.lean ====
section
/-!
SUPPORT. Which register fields the operations of Machine/Poison.lean can write (Laws/Still.lean), as bits by the field's number, and
that they leave every other as it was.
-/
namespace Sys2Proof.Machine

set_option linter.unusedTactic false
set_option linter.unreachableTactic false

theorem State.mark_still {F : Fld} {I V : Nat} (s : State) (mem : Nat) (w : Nat) (bad : Bool) (h : Still F I V s) :
    Still F I V (State.mark s mem w bad) := by
  unfold State.mark
  repeat' first
    | with_reducible assumption
    | intro _
    | fail_if_no_progress with_reducible apply Still.upd
    | split
    | (with_reducible apply Still.upd); split

def State.badRead_writes : Nat :=
    0x100220000000000000000000000000000000040000000000000000000000000000000000000000000000000000000000000000000000000000000000000000000000000000000000000000
theorem State.badRead_still {F : Fld} {I V : Nat} (s : State) (mem : Nat) (addr : Nat) (fresh : Bool) (hw :
    State.badRead_writes.testBit F.ctorIdx = false) (h : Still F I V s) :
    Still F I V (State.badRead s mem addr fresh) := by
  unfold State.badRead
  repeat' first
    | with_reducible assumption
    | intro _
    | with_reducible refine State.setFld_still _ _ _ _ (W := State.badRead_writes) ?_ hw ?_
    | decide
    | with_reducible refine State.intEvent_still _ _ _ _ _ _ (Wr.sub (by decide) hw) ?_
    | with_reducible apply Still.ite
    | split
    | (with_reducible apply Still.upd); split

end Sys2Proof.Machine
end

