-- ==== Sys2Proof/Laws/StillSatchel.lean ====
section
/-!
SUPPORT. Which register fields the operations of Machine/Satchel.lean can write (Laws/Still.lean), as bits by the field's number, and
that they leave every other as it was.
-/
namespace Sys2Proof.Machine

set_option linter.unusedTactic false
set_option linter.unreachableTactic false

theorem State.satPut_still {F : Fld} {I V : Nat} (s : State) (off : Nat) (b : Nat) (h : Still F I V s) :
    Still F I V (State.satPut s off b) := by
  unfold State.satPut
  repeat' first
    | with_reducible assumption
    | intro _
    | fail_if_no_progress with_reducible apply Still.upd
    | split
    | (with_reducible apply Still.upd); split

theorem State.satWriteWord_still {F : Fld} {I V : Nat} (s : State) (off : Nat) (l : List Nat) (h : Still F I V s) :
    Still F I V (State.satWriteWord s off l).2 := by
  unfold State.satWriteWord
  repeat' first
    | with_reducible assumption
    | intro _
    | with_reducible refine State.satPut_still _ _ _ ?_
    | with_reducible refine State.mark_still _ _ _ _ ?_
    | with_reducible apply Still.each
    | with_reducible apply Still.ite
    | with_reducible apply Still.iteSnd
    | dsimp only
    | split
    | (with_reducible apply Still.upd); split

theorem State.satWriteN_still {F : Fld} {I V : Nat} (x0 : Nat) (x1 : State) (x2 : Nat) (x3 : List Nat) (h : Still F I V x1) :
    Still F I V (State.satWriteN x0 x1 x2 x3).2 := by
  induction x0 generalizing x1 x2 x3 with
  | zero => exact h
  | succ n ih =>
    unfold State.satWriteN
    split
    · exact h
    · exact ih _ _ _ (State.satWriteWord_still x1 x2 _ h)

theorem State.satWrite_still {F : Fld} {I V : Nat} (s : State) (addr : Nat) (l : List Nat) (h : Still F I V s) :
    Still F I V (State.satWrite s addr l).2 := by
  unfold State.satWrite
  repeat' first
    | with_reducible assumption
    | intro _
    | with_reducible refine State.satWriteN_still _ _ _ _ ?_
    | (with_reducible refine Still.snd ?_ (by assumption)); with_reducible refine State.satWriteN_still _ _ _ _ ?_
    | with_reducible apply Still.ite
    | with_reducible apply Still.iteSnd
    | dsimp only
    | split
    | (with_reducible apply Still.upd); split

end Sys2Proof.Machine
end

