-- ==== Sys2Proof/Laws/StillVars.lean ====
section
/-!
SUPPORT. Which register fields the operations of Machine/Vars.lean can write (Laws/Still.lean), as bits by the field's number, and
that they leave every other as it was.
-/
namespace Sys2Proof.Machine

set_option linter.unusedTactic false
set_option linter.unreachableTactic false

theorem State.setVar_still {F : Fld} {I V : Nat} (s : State) (idx : Nat) (sub : Nat) (v : Nat) (h : Still F I V s) :
    Still F I V (State.setVar s idx sub v) := by
  unfold State.setVar
  repeat' first
    | with_reducible assumption
    | intro _
    | fail_if_no_progress with_reducible apply Still.upd
    | split
    | (with_reducible apply Still.upd); split

theorem State.settleLate_still {F : Fld} {I V : Nat} (s : State) (n : Nat) (h : Still F I V s) :
    Still F I V (State.settleLate s n) := by
  unfold State.settleLate
  repeat' first
    | with_reducible assumption
    | intro _
    | with_reducible refine State.setVar_still _ _ _ _ ?_
    | with_reducible apply Still.each
    | fail_if_no_progress with_reducible apply Still.upd
    | split
    | (with_reducible apply Still.upd); split

end Sys2Proof.Machine
end

