-- ==== Sys2Proof/Laws/StillRings.lean ====
section
/-!
SUPPORT. Which register fields the operations of Machine/Rings.lean can write (Laws/Still.lean), as bits by the field's number, and
that they leave every other as it was.
-/
namespace Sys2Proof.Machine

set_option linter.unusedTactic false
set_option linter.unreachableTactic false

theorem State.putDescriptor_still {F : Fld} {I V : Nat} (s : State) (q_1 : Nat) (i : Nat) (d : Desc) (h : Still F I V s) :
    Still F I V (State.putDescriptor s q_1 i d) := by
  unfold State.putDescriptor
  repeat' first
    | with_reducible assumption
    | intro _
    | with_reducible refine State.satWrite_still _ _ _ ?_
    | (with_reducible refine Still.snd ?_ (by assumption)); with_reducible refine State.satWrite_still _ _ _ ?_
    | split
    | (with_reducible apply Still.upd); split

def State.finish_writes : Nat :=
    0x1003a0000000000000000000000000000000000000000000000000000000000000000000000000000000000000000000000000000000000000000000000000000000000000000000000000
theorem State.finish_still {F : Fld} {I V : Nat} (s : State) (q_1 : Nat) (i : Nat) (d : Desc) (hw :
    State.finish_writes.testBit F.ctorIdx = false) (h : Still F I V s) :
    Still F I V (State.finish s q_1 i d) := by
  unfold State.finish
  repeat' first
    | with_reducible assumption
    | intro _
    | with_reducible refine State.setFld_still _ _ _ _ (W := State.finish_writes) ?_ hw ?_
    | decide
    | with_reducible refine State.putDescriptor_still _ _ _ _ ?_
    | with_reducible refine State.raiseRing_still _ _ (Wr.sub (by decide) hw) ?_
    | with_reducible refine State.event_still _ _ _ _ _ (Wr.sub (by decide) hw) ?_
    | with_reducible apply Still.whenIf
    | fail_if_no_progress with_reducible apply Still.upd
    | split
    | (with_reducible apply Still.upd); split

def State.finishCmd_writes : Nat :=
    0x1003a0000000000000000000000000000000000000000000000000000000000000000000000000000000000000000000000000000000000000000000000000000000000000000000000000
theorem State.finishCmd_still {F : Fld} {I V : Nat} (s : State) (q_1 : Nat) (i : Nat) (len : Nat) (code : Nat) (hw :
    State.finishCmd_writes.testBit F.ctorIdx = false) (h : Still F I V s) :
    Still F I V (State.finishCmd s q_1 i len code) := by
  unfold State.finishCmd
  repeat' first
    | with_reducible assumption
    | intro _
    | with_reducible refine State.finish_still _ _ _ _ (Wr.sub (by decide) hw) ?_
    | with_reducible apply Still.ite
    | split
    | (with_reducible apply Still.upd); split

def State.produce_writes : Nat :=
    0x1003a0000000000000000003000000000000000000000000000000000000000000000000000000000000000000000000000000000000000000000000000000000000000000000000000000
theorem State.produce_still {F : Fld} {I V : Nat} (s : State) (q_1 : Nat) (d : Desc) (data : List Nat) (ts : Nat) (hw :
    State.produce_writes.testBit F.ctorIdx = false) (h : Still F I V s) :
    Still F I V (State.produce s q_1 d data ts) := by
  unfold State.produce
  repeat' first
    | with_reducible assumption
    | intro _
    | with_reducible refine State.setFld_still _ _ _ _ (W := State.produce_writes) ?_ hw ?_
    | decide
    | with_reducible refine State.finish_still _ _ _ _ (Wr.sub (by decide) hw) ?_
    | with_reducible refine State.violation_still _ _ _ (Wr.sub (by decide) hw) ?_
    | with_reducible refine State.satWrite_still _ _ _ ?_
    | (with_reducible refine Still.snd ?_ (by assumption)); with_reducible refine State.satWrite_still _ _ _ ?_
    | with_reducible apply Still.ite
    | split
    | (with_reducible apply Still.upd); split

theorem State.setCap_still {F : Fld} {I V : Nat} (s : State) (a : Nat) (c : Capture) (h : Still F I V s) :
    Still F I V (State.setCap s a c) := by
  unfold State.setCap
  repeat' first
    | with_reducible assumption
    | intro _
    | with_reducible apply Still.ite
    | fail_if_no_progress with_reducible apply Still.upd
    | split
    | (with_reducible apply Still.upd); split

theorem State.streamSend_still {F : Fld} {I V : Nat} (s : State) (a : Nat) (gap : Bool) (closed : Bool) (l : List Nat) (h :
    Still F I V s) :
    Still F I V (State.streamSend s a gap closed l) := by
  unfold State.streamSend
  repeat' first
    | with_reducible assumption
    | intro _
    | with_reducible apply Still.ite
    | fail_if_no_progress with_reducible apply Still.upd
    | split
    | (with_reducible apply Still.upd); split

def State.captureDone_writes : Nat :=
    0x1003a0000000000000000003000000000000000000000000000000000000000000000000000000000000000000000000000000000000000000000000000000000000000000000000000000
theorem State.captureDone_still {F : Fld} {I V : Nat} (s : State) (a : Nat) (closed : Bool) (hw :
    State.captureDone_writes.testBit F.ctorIdx = false) (h : Still F I V s) :
    Still F I V (State.captureDone s a closed) := by
  unfold State.captureDone
  repeat' first
    | with_reducible assumption
    | intro _
    | with_reducible refine State.streamSend_still _ _ _ _ _ ?_
    | with_reducible refine State.produce_still _ _ _ _ _ (Wr.sub (by decide) hw) ?_
    | with_reducible refine State.setCap_still _ _ _ ?_
    | split
    | (with_reducible apply Still.upd); split

theorem State.syncSend_still {F : Fld} {I V : Nat} (s : State) (l : List SyncOut) (h : Still F I V s) :
    Still F I V (State.syncSend s l) := by
  unfold State.syncSend
  repeat' first
    | with_reducible assumption
    | intro _
    | fail_if_no_progress with_reducible apply Still.upd
    | split
    | (with_reducible apply Still.upd); split

theorem State.peerSend_still {F : Fld} {I V : Nat} (s : State) (l : List Nat) (h : Still F I V s) :
    Still F I V (State.peerSend s l) := by
  unfold State.peerSend
  repeat' first
    | with_reducible assumption
    | intro _
    | fail_if_no_progress with_reducible apply Still.upd
    | split
    | (with_reducible apply Still.upd); split

end Sys2Proof.Machine
end

