-- ==== Sys2Proof/Laws/StillEpoch.lean ====
section
/-!
SUPPORT. Which register fields the operations of Machine/Epoch.lean can write (Laws/Still.lean), as bits by the field's number, and
that they leave every other as it was.
-/
namespace Sys2Proof.Machine

set_option linter.unusedTactic false
set_option linter.unreachableTactic false

def State.haltRing_writes : Nat :=
    0x180000000000000000000000000000000000000000000000000000000000000000000000000000000000000000000000000000000000000000000000000000000000000000000000000
theorem State.haltRing_still {F : Fld} {I V : Nat} (s : State) (q_1 : Nat) (code : Nat) (hw : State.haltRing_writes.testBit
    F.ctorIdx = false) (h : Still F I V s) :
    Still F I V (State.haltRing s q_1 code) := by
  unfold State.haltRing
  repeat' first
    | with_reducible assumption
    | intro _
    | with_reducible refine State.setFld_still _ _ _ _ (W := State.haltRing_writes) ?_ hw ?_
    | decide
    | split
    | (with_reducible apply Still.upd); split

def State.closeCapture_writes : Nat :=
    0x1003a0800000000000000003000000000000000000000000000000000000000000000000000000000000000000000000000000000000000000000000000000000000000000000000000000
theorem State.closeCapture_still {F : Fld} {I V : Nat} (s : State) (a : Nat) (hw : State.closeCapture_writes.testBit
    F.ctorIdx = false) (h : Still F I V s) :
    Still F I V (State.closeCapture s a) := by
  unfold State.closeCapture
  repeat' first
    | with_reducible assumption
    | intro _
    | with_reducible refine State.setFlag_still _ _ _ _ (W := State.closeCapture_writes) ?_ hw ?_
    | decide
    | with_reducible refine State.captureDone_still _ _ _ (Wr.sub (by decide) hw) ?_
    | split
    | (with_reducible apply Still.upd); split

def State.settleRing_writes : Nat :=
    0x1c0000000000000000000000000000000000000000000000000000000000000000000000000000000000000000000000000000000000000000000000000000000000000000000000000
theorem State.settleRing_still {F : Fld} {I V : Nat} (s : State) (q_1 : Nat) (hw : State.settleRing_writes.testBit
    F.ctorIdx = false) (h : Still F I V s) :
    Still F I V (State.settleRing s q_1) := by
  unfold State.settleRing
  repeat' first
    | with_reducible assumption
    | intro _
    | with_reducible refine State.setFld_still _ _ _ _ (W := State.settleRing_writes) ?_ hw ?_
    | decide
    | with_reducible refine State.putDescriptor_still _ _ _ _ ?_
    | with_reducible refine State.haltRing_still _ _ _ (Wr.sub (by decide) hw) ?_
    | with_reducible apply Still.whenIf
    | with_reducible apply Still.each
    | with_reducible apply Still.ite
    | split
    | (with_reducible apply Still.upd); split

def State.settleRings_writes : Nat :=
    0x1003e0800000000000000003000000000000000000000000000000000000000000000000000000000000000000000000000000000000000000000000000000000000000000000000000000
theorem State.settleRings_still {F : Fld} {I V : Nat} (s : State) (hw : State.settleRings_writes.testBit F.ctorIdx = false)
    (h : Still F I V s) :
    Still F I V (State.settleRings s) := by
  unfold State.settleRings
  repeat' first
    | with_reducible assumption
    | intro _
    | with_reducible refine State.settleRing_still _ _ (Wr.sub (by decide) hw) ?_
    | with_reducible refine State.haltRing_still _ _ _ (Wr.sub (by decide) hw) ?_
    | with_reducible refine State.putDescriptor_still _ _ _ _ ?_
    | with_reducible refine State.closeCapture_still _ _ (Wr.sub (by decide) hw) ?_
    | with_reducible apply Still.whenIf
    | with_reducible apply Still.each
    | fail_if_no_progress with_reducible apply Still.upd
    | split
    | (with_reducible apply Still.upd); split

def State.endGateway_writes : Nat :=
    0x1018100000000000000000000000000000000000000000000000000000000000000000000000000000000000000000000000000000000000000000000000000000000000000000000000000000
theorem State.endGateway_still {F : Fld} {I V : Nat} (s : State) (core : Nat) (code : Nat) (hw :
    State.endGateway_writes.testBit F.ctorIdx = false) (h : Still F I V s) :
    Still F I V (State.endGateway s core code) := by
  unfold State.endGateway
  repeat' first
    | with_reducible assumption
    | intro _
    | with_reducible refine State.setFld_still _ _ _ _ (W := State.endGateway_writes) ?_ hw ?_
    | decide
    | with_reducible refine State.raiseCore_still _ _ _ (Wr.sub (by decide) hw) ?_
    | with_reducible apply Still.whenIf
    | with_reducible apply Still.ite
    | split
    | (with_reducible apply Still.upd); split

def State.epochEvent_writes : Nat :=
    0x100220000000000000000000000000000000000000000000000000000000000000000000000000000000000000000000000000000000000000000000000000000000000000000000000000
theorem State.epochEvent_still {F : Fld} {I V : Nat} (s : State) (reason : Nat) (hw : State.epochEvent_writes.testBit
    F.ctorIdx = false) (h : Still F I V s) :
    Still F I V (State.epochEvent s reason) := by
  unfold State.epochEvent
  repeat' first
    | with_reducible assumption
    | intro _
    | with_reducible refine State.event_still _ _ _ _ _ (Wr.sub (by decide) hw) ?_
    | with_reducible apply Still.ite
    | fail_if_no_progress with_reducible apply Still.upd
    | split
    | (with_reducible apply Still.upd); split

theorem State.erased_still {F : Fld} {I V : Nat} (s : State) (b : Nat) (h : Still F I V s) :
    Still F I V (State.erased s b) := by
  unfold State.erased
  repeat' first
    | with_reducible assumption
    | intro _
    | with_reducible apply Still.whenIf
    | fail_if_no_progress with_reducible apply Still.upd
    | split
    | (with_reducible apply Still.upd); split

def State.cutBurst_writes : Nat :=
    0x1003a0000000000000000000000000000000000000000000000000000000000000000000000000000000000000000000000000000000000000000000000000000000000000000000000000
theorem State.cutBurst_still {F : Fld} {I V : Nat} (s : State) (hw : State.cutBurst_writes.testBit F.ctorIdx = false) (h :
    Still F I V s) :
    Still F I V (State.cutBurst s) := by
  unfold State.cutBurst
  repeat' first
    | with_reducible assumption
    | intro _
    | with_reducible refine State.erased_still _ _ ?_
    | with_reducible refine State.haltRing_still _ _ _ (Wr.sub (by decide) hw) ?_
    | with_reducible refine State.finishCmd_still _ _ _ _ _ (Wr.sub (by decide) hw) ?_
    | with_reducible apply Still.each
    | with_reducible apply Still.ite
    | fail_if_no_progress with_reducible apply Still.upd
    | split
    | (with_reducible apply Still.upd); split

theorem State.seedCut_still {F : Fld} {I V : Nat} (s : State) (h : Still F I V s) :
    Still F I V (State.seedCut s) := by
  unfold State.seedCut
  repeat' first
    | with_reducible assumption
    | intro _
    | with_reducible apply Still.ite
    | fail_if_no_progress with_reducible apply Still.upd
    | split
    | (with_reducible apply Still.upd); split

def State.advanceEpoch_writes : Nat :=
    0x10181003e0800000000002000003000000000000000000000000000000000000000000000000000000000000000000000000000000000000000000000000000000000000000000000000000000
theorem State.advanceEpoch_still {F : Fld} {I V : Nat} (s : State) (reason : Nat) (detail : Nat) (hw :
    State.advanceEpoch_writes.testBit F.ctorIdx = false) (h : Still F I V s) :
    Still F I V (State.advanceEpoch s reason detail) := by
  unfold State.advanceEpoch
  repeat' first
    | with_reducible assumption
    | intro _
    | with_reducible refine State.setFld_still _ _ _ _ (W := State.advanceEpoch_writes) ?_ hw ?_
    | decide
    | with_reducible refine State.seedCut_still _ ?_
    | with_reducible refine State.cutBurst_still _ (Wr.sub (by decide) hw) ?_
    | with_reducible refine State.settleRings_still _ (Wr.sub (by decide) hw) ?_
    | with_reducible refine State.endGateway_still _ _ _ (Wr.sub (by decide) hw) ?_
    | with_reducible refine State.epochEvent_still _ _ (Wr.sub (by decide) hw) ?_
    | with_reducible apply Still.each
    | with_reducible apply Still.ite
    | fail_if_no_progress with_reducible apply Still.upd
    | split
    | (with_reducible apply Still.upd); split

def State.portFault_writes : Nat :=
    0x10181003e0800000000002000003000000000000000000000000000000000000000000000000000000000000000000000000000000000000000000000000000000000000000000000000000000
theorem State.portFault_still {F : Fld} {I V : Nat} (s : State) (p : Nat) (reason : Nat) (detail : Nat) (hw :
    State.portFault_writes.testBit F.ctorIdx = false) (h : Still F I V s) :
    Still F I V (State.portFault s p reason detail) := by
  unfold State.portFault
  repeat' first
    | with_reducible assumption
    | intro _
    | with_reducible refine State.advanceEpoch_still _ _ _ (Wr.sub (by decide) hw) ?_
    | fail_if_no_progress with_reducible apply Still.upd
    | split
    | (with_reducible apply Still.upd); split

end Sys2Proof.Machine
end

