-- ==== Sys2Proof/Laws/StillResetCore.lean ====
section
/-!
SUPPORT. Which register fields the operations of Machine/ResetCore.lean can write (Laws/Still.lean), as bits by the field's number, and
that they leave every other as it was.
-/
namespace Sys2Proof.Machine

set_option linter.unusedTactic false
set_option linter.unreachableTactic false

def State.revokeAll_writes : Nat :=
    0x6010000000000000000000000000000000000000000000480000000000000000000000000000000000000000000000000000000
theorem State.revokeAll_still {F : Fld} {I V : Nat} (s : State) (hw : State.revokeAll_writes.testBit F.ctorIdx = false) (h
    : Still F I V s) :
    Still F I V (State.revokeAll s) := by
  unfold State.revokeAll
  repeat' first
    | with_reducible assumption
    | intro _
    | with_reducible refine State.setFld_still _ _ _ _ (W := State.revokeAll_writes) ?_ hw ?_
    | decide
    | with_reducible apply Still.each
    | fail_if_no_progress with_reducible apply Still.upd
    | split
    | (with_reducible apply Still.upd); split

def State.program_writes : Nat :=
    0xe0000000000000000000000000000000000000000000000000000000000000000000000000000000000000000000000000000000000000000000000000000
theorem State.program_still {F : Fld} {I V : Nat} (s : State) (cmd : Nat) (v : Nat) (hw : State.program_writes.testBit
    F.ctorIdx = false) (h : Still F I V s) :
    Still F I V (State.program s cmd v) := by
  unfold State.program
  repeat' first
    | with_reducible assumption
    | intro _
    | with_reducible refine State.setFld_still _ _ _ _ (W := State.program_writes) ?_ hw ?_
    | decide
    | fail_if_no_progress with_reducible apply Still.upd
    | split
    | (with_reducible apply Still.upd); split

def State.cutSecCommand_writes : Nat :=
    0x4e0000000000000000000000000000000000000000000000000000000000000000000000000000000000000000000000000000000000000000000000000000
theorem State.cutSecCommand_still {F : Fld} {I V : Nat} (s : State) (hw : State.cutSecCommand_writes.testBit F.ctorIdx =
    false) (h : Still F I V s) :
    Still F I V (State.cutSecCommand s) := by
  unfold State.cutSecCommand
  repeat' first
    | with_reducible assumption
    | intro _
    | with_reducible refine State.setFld_still _ _ _ _ (W := State.cutSecCommand_writes) ?_ hw ?_
    | decide
    | with_reducible refine State.fresh_still _ _ ?_
    | (with_reducible refine Still.snd ?_ (by assumption)); with_reducible refine State.fresh_still _ _ ?_
    | with_reducible refine State.program_still _ _ _ (Wr.sub (by decide) hw) ?_
    | with_reducible apply Still.ite
    | fail_if_no_progress with_reducible apply Still.upd
    | split
    | (with_reducible apply Still.upd); split

theorem State.loseItcm_still {F : Fld} {I V : Nat} (s : State) (h : Still F I V s) :
    Still F I V (State.loseItcm s) := by
  unfold State.loseItcm
  repeat' first
    | with_reducible assumption
    | intro _
    | fail_if_no_progress with_reducible apply Still.upd
    | split
    | (with_reducible apply Still.upd); split

def State.tripsReset_writes : Nat := 0x801c00000000000000000000000000000000000000000000000
theorem State.tripsReset_still {F : Fld} {I V : Nat} (s : State) (hw : State.tripsReset_writes.testBit F.ctorIdx = false)
    (h : Still F I V s) :
    Still F I V (State.tripsReset s) := by
  unfold State.tripsReset
  repeat' first
    | with_reducible assumption
    | intro _
    | with_reducible refine State.setFld_still _ _ _ _ (W := State.tripsReset_writes) ?_ hw ?_
    | decide
    | with_reducible apply Still.each
    | fail_if_no_progress with_reducible apply Still.upd
    | split
    | (with_reducible apply Still.upd); split

def State.quiesce_writes : Nat := 0x400000000000000000000000000000000000000000000000000000000000000000000000000000000000
theorem State.quiesce_still {F : Fld} {I V : Nat} (s : State) (hw : State.quiesce_writes.testBit F.ctorIdx = false) (h :
    Still F I V s) :
    Still F I V (State.quiesce s) := by
  unfold State.quiesce
  repeat' first
    | with_reducible assumption
    | intro _
    | with_reducible refine State.setFld_still _ _ _ _ (W := State.quiesce_writes) ?_ hw ?_
    | decide
    | with_reducible apply Still.each
    | fail_if_no_progress with_reducible apply Still.upd
    | split
    | (with_reducible apply Still.upd); split

def State.startReset_writes : Nat :=
    0x10181003e08000000000020000034e0000000000000000000006010000000000000000400000000000000000000000000480000801c00000000000000000000000000000000000000000000000
theorem State.startReset_still {F : Fld} {I V : Nat} (s : State) (cause : Nat) (hw : State.startReset_writes.testBit
    F.ctorIdx = false) (h : Still F I V s) :
    Still F I V (State.startReset s cause) := by
  unfold State.startReset
  repeat' first
    | with_reducible assumption
    | intro _
    | with_reducible refine State.tripsReset_still _ (Wr.sub (by decide) hw) ?_
    | with_reducible refine State.quiesce_still _ (Wr.sub (by decide) hw) ?_
    | with_reducible refine State.cutSecCommand_still _ (Wr.sub (by decide) hw) ?_
    | with_reducible refine State.revokeAll_still _ (Wr.sub (by decide) hw) ?_
    | with_reducible refine State.advanceEpoch_still _ _ _ (Wr.sub (by decide) hw) ?_
    | with_reducible refine State.loseItcm_still _ ?_
    | with_reducible apply Still.whenIf
    | fail_if_no_progress with_reducible apply Still.upd
    | split
    | (with_reducible apply Still.upd); split

end Sys2Proof.Machine
end

