-- ==== Sys2Proof/Laws/StillBalls.lean ====
section
/-!
SUPPORT. Which register fields the operations of Machine/Balls.lean can write (Laws/Still.lean), as bits by the field's number, and
that they leave every other as it was.
-/
namespace Sys2Proof.Machine

set_option linter.unusedTactic false
set_option linter.unreachableTactic false

def State.openBall_writes : Nat :=
    0x100220000000000000000000000000000000600010000000000000000000000000000000000000000000000000000000000000000000000000000000000000000000000000000000000000
theorem State.openBall_still {F : Fld} {I V : Nat} (s : State) (detail : Nat) (bit : Nat) (known : Nat) (hw :
    State.openBall_writes.testBit F.ctorIdx = false) (h : Still F I V s) :
    Still F I V (State.openBall s detail bit known) := by
  unfold State.openBall
  repeat' first
    | with_reducible assumption
    | intro _
    | with_reducible refine State.event_still _ _ _ _ _ (Wr.sub (by decide) hw) ?_
    | with_reducible refine State.consumeSpare_still _ _ (Wr.sub (by decide) hw) ?_
    | with_reducible apply Still.whenIf
    | with_reducible apply Still.ite
    | fail_if_no_progress with_reducible apply Still.upd
    | split
    | (with_reducible apply Still.upd); split

def execOpenBallTest_writes : Nat :=
    0x100220000000000000000000000000000000600010000000000000000000000000000000000000000000000000000000000000000000000000000000000000000000000000200000000000
theorem execOpenBallTest_still {F : Fld} {I V : Nat} (ball : DualBall) (changed : Bool) (s : State) (hw :
    execOpenBallTest_writes.testBit F.ctorIdx = false) (h : Still F I V s) :
    StillOut F I V (execOpenBallTest ball changed s) := by
  unfold execOpenBallTest
  repeat' first
    | with_reducible assumption
    | with_reducible apply StillOut.next
    | with_reducible apply StillOut.ite
    | intro _
    | with_reducible refine State.setBit_still _ _ _ _ _ (W := execOpenBallTest_writes) ?_ hw ?_
    | decide
    | with_reducible refine State.openBall_still _ _ _ _ (Wr.sub (by decide) hw) ?_
    | with_reducible apply Still.whenIf
    | with_reducible apply Still.ite
    | fail_if_no_progress with_reducible apply Still.upd
    | split
    | dsimp only; split

def State.groupBallOpen_writes : Nat :=
    0x100220000000000000000000000000000000600010000000000000000000000000000000000000000000000000000000000000000000000000000000000000000000000000800000000000
theorem State.groupBallOpen_still {F : Fld} {I V : Nat} (s : State) (which : Nat) (ball : Nat) (hw :
    State.groupBallOpen_writes.testBit F.ctorIdx = false) (h : Still F I V s) :
    Still F I V (State.groupBallOpen s which ball) := by
  unfold State.groupBallOpen
  repeat' first
    | with_reducible assumption
    | intro _
    | with_reducible refine State.setFld_still _ _ _ _ (W := State.groupBallOpen_writes) ?_ hw ?_
    | decide
    | with_reducible refine State.event_still _ _ _ _ _ (Wr.sub (by decide) hw) ?_
    | with_reducible refine State.consumeSpare_still _ _ (Wr.sub (by decide) hw) ?_
    | with_reducible apply Still.whenIf
    | with_reducible apply Still.ite
    | fail_if_no_progress with_reducible apply Still.upd
    | split
    | (with_reducible apply Still.upd); split

def execSupplyBallOpen_writes : Nat :=
    0x100220000000000000000000000000000000600010000000000000000000000000000000000000000000000000000000000000000000000000000000000000000000000003c00000000000
theorem execSupplyBallOpen_still {F : Fld} {I V : Nat} (group : BallGroup) (amps : List Nat) (s : State) (hw :
    execSupplyBallOpen_writes.testBit F.ctorIdx = false) (h : Still F I V s) :
    StillOut F I V (execSupplyBallOpen group amps s) := by
  unfold execSupplyBallOpen
  repeat' first
    | with_reducible assumption
    | with_reducible apply StillOut.next
    | intro _
    | with_reducible refine State.setBit_still _ _ _ _ _ (W := execSupplyBallOpen_writes) ?_ hw ?_
    | decide
    | with_reducible refine State.groupBallOpen_still _ _ _ (Wr.sub (by decide) hw) ?_
    | with_reducible refine State.openBall_still _ _ _ _ (Wr.sub (by decide) hw) ?_
    | with_reducible apply Still.whenIf
    | with_reducible apply Still.each
    | split
    | dsimp only; split

def execIoBankChange_writes : Nat :=
    0x10022000000000000000000000000000000000000000000000000000000000000000000000000000000000000000000000000000000000000000000000000000000000000007c000000000
theorem execIoBankChange_still {F : Fld} {I V : Nat} (bank : Nat) (code : Nat) (s : State) (hw :
    execIoBankChange_writes.testBit F.ctorIdx = false) (h : Still F I V s) :
    StillOut F I V (execIoBankChange bank code s) := by
  unfold execIoBankChange
  repeat' first
    | with_reducible assumption
    | with_reducible apply StillOut.next
    | with_reducible apply StillOut.ite
    | intro _
    | with_reducible refine State.setFld_still _ _ _ _ (W := execIoBankChange_writes) ?_ hw ?_
    | with_reducible refine State.setBit_still _ _ _ _ _ (W := execIoBankChange_writes) ?_ hw ?_
    | decide
    | unfold bankFld; split <;> decide
    | with_reducible refine State.event_still _ _ _ _ _ (Wr.sub (by decide) hw) ?_
    | with_reducible apply Still.ite
    | split
    | dsimp only; split

end Sys2Proof.Machine
end

