-- ==== Sys2Proof/Laws/StillSupply.lean ====
section
/-!
SUPPORT. Which register fields the operations of Machine/Supply.lean can write (Laws/Still.lean), as bits by the field's number, and
that they leave every other as it was.
-/
namespace Sys2Proof.Machine

set_option linter.unusedTactic false
set_option linter.unreachableTactic false

def State.losePd0_writes : Nat :=
    0x20000040000000e004000020000000000000000006c30400000000000000000000000000000000000000000000000c0000000003f000080200f9ffe00000000000000
theorem State.losePd0_still {F : Fld} {I V : Nat} (s : State) (hw : State.losePd0_writes.testBit F.ctorIdx = false) (h :
    Still F I V s) :
    Still F I V (State.losePd0 s) := by
  unfold State.losePd0
  have hp : (!((pd0Fields.filter (fun f => !pinFields.contains f)).map Fld.ctorIdx).contains F.ctorIdx) = true := by
    have hk : ∀ n ∈ (pd0Fields.filter (fun f => !pinFields.contains f)).map Fld.ctorIdx,
        State.losePd0_writes.testBit n = true := by decide +kernel
    cases hc : ((pd0Fields.filter (fun f => !pinFields.contains f)).map Fld.ctorIdx).contains F.ctorIdx with
    | false => rfl
    | true =>
      have := hk F.ctorIdx (List.contains_iff_mem.1 hc)
      rw [hw] at this; cases this
  exact State.setFld_still _ _ _ _ (W := State.losePd0_writes) (by decide) hw (Still.filter
    (p := fun n => !((pd0Fields.filter (fun f => !pinFields.contains f)).map Fld.ctorIdx).contains n) h hp)

def State.droop_writes : Nat :=
    0x10181003e08000000000020000034e0000000000000000000006010000000000000000400000000000000000000000000480000801c00000000000000000000000002000000000000000000000
theorem State.droop_still {F : Fld} {I V : Nat} (s : State) (hw : State.droop_writes.testBit F.ctorIdx = false) (h : Still
    F I V s) :
    Still F I V (State.droop s) := by
  unfold State.droop
  repeat' first
    | with_reducible assumption
    | intro _
    | with_reducible refine State.count_still _ _ _ (W := State.droop_writes) ?_ hw ?_
    | decide
    | with_reducible refine State.startReset_still _ _ (Wr.sub (by decide) hw) ?_
    | split
    | (with_reducible apply Still.upd); split

def execVcoreDroop_writes : Nat :=
    0x10181003e08000000000020000034e0000000000000000000006010000000000000000400000000000000000000000000480000801c00000000000000000000000002c00000044000000000000
theorem execVcoreDroop_still {F : Fld} {I V : Nat} (byVcore : Bool) (s : State) (hw : execVcoreDroop_writes.testBit
    F.ctorIdx = false) (h : Still F I V s) :
    StillOut F I V (execVcoreDroop byVcore s) := by
  unfold execVcoreDroop
  repeat' first
    | with_reducible assumption
    | with_reducible apply StillOut.next
    | with_reducible apply StillOut.ite
    | intro _
    | with_reducible refine State.setFld_still _ _ _ _ (W := execVcoreDroop_writes) ?_ hw ?_
    | decide
    | with_reducible refine State.droop_still _ (Wr.sub (by decide) hw) ?_
    | with_reducible apply Still.ite
    | fail_if_no_progress with_reducible apply Still.upd
    | split
    | dsimp only; split

def execVanaFail_writes : Nat :=
    0x10181003e08000000000020000034e0000000000000000000006010000000000000000400000000000000000000000000480000801c00000000000000000000000002800000044000000000000
theorem execVanaFail_still {F : Fld} {I V : Nat} (s : State) (hw : execVanaFail_writes.testBit F.ctorIdx = false) (h :
    Still F I V s) :
    StillOut F I V (execVanaFail s) := by
  unfold execVanaFail
  repeat' first
    | with_reducible assumption
    | with_reducible apply StillOut.next
    | intro _
    | with_reducible refine State.setFld_still _ _ _ _ (W := execVanaFail_writes) ?_ hw ?_
    | decide
    | with_reducible refine State.droop_still _ (Wr.sub (by decide) hw) ?_
    | with_reducible apply Still.whenIf
    | fail_if_no_progress with_reducible apply Still.upd
    | split
    | dsimp only; split

def State.theftAbort_writes : Nat :=
    0x8000000000000000000000000000000000000000000000000000000000000000000000000000000000000000000
theorem State.theftAbort_still {F : Fld} {I V : Nat} (s : State) (hw : State.theftAbort_writes.testBit F.ctorIdx = false)
    (h : Still F I V s) :
    Still F I V (State.theftAbort s) := by
  unfold State.theftAbort
  repeat' first
    | with_reducible assumption
    | intro _
    | with_reducible refine State.count_still _ _ _ (W := State.theftAbort_writes) ?_ hw ?_
    | decide
    | with_reducible apply Still.whenIf
    | fail_if_no_progress with_reducible apply Still.upd
    | split
    | (with_reducible apply Still.upd); split

def State.settlePaths_writes : Nat := 0x68000000000000
theorem State.settlePaths_still {F : Fld} {I V : Nat} (s : State) (hw : State.settlePaths_writes.testBit F.ctorIdx = false)
    (h : Still F I V s) :
    Still F I V (State.settlePaths s) := by
  unfold State.settlePaths
  repeat' first
    | with_reducible assumption
    | intro _
    | with_reducible refine State.setFlag_still _ _ _ _ (W := State.settlePaths_writes) ?_ hw ?_
    | decide
    | fail_if_no_progress with_reducible apply Still.upd
    | split
    | (with_reducible apply Still.upd); split

def execMainSupplyGood_writes : Nat :=
    0x8000000000000000000000000000000000000000000000000000000000000000000000c00000044000000000000
theorem execMainSupplyGood_still {F : Fld} {I V : Nat} (s : State) (hw : execMainSupplyGood_writes.testBit F.ctorIdx =
    false) (h : Still F I V s) :
    StillOut F I V (execMainSupplyGood s) := by
  unfold execMainSupplyGood
  repeat' first
    | with_reducible assumption
    | with_reducible apply StillOut.next
    | intro _
    | with_reducible refine State.setFld_still _ _ _ _ (W := execMainSupplyGood_writes) ?_ hw ?_
    | decide
    | with_reducible refine State.theftAbort_still _ (Wr.sub (by decide) hw) ?_
    | with_reducible apply Still.whenIf
    | fail_if_no_progress with_reducible apply Still.upd
    | split
    | dsimp only; split

def execVanaGood_writes : Nat := 0x8000000000000000000000000000000000000000000000000000000000000000000000800000044000000000000
theorem execVanaGood_still {F : Fld} {I V : Nat} (s : State) (hw : execVanaGood_writes.testBit F.ctorIdx = false) (h :
    Still F I V s) :
    StillOut F I V (execVanaGood s) := by
  unfold execVanaGood
  repeat' first
    | with_reducible assumption
    | with_reducible apply StillOut.next
    | intro _
    | with_reducible refine State.setFld_still _ _ _ _ (W := execVanaGood_writes) ?_ hw ?_
    | with_reducible refine State.setFlag_still _ _ _ _ (W := execVanaGood_writes) ?_ hw ?_
    | decide
    | with_reducible refine State.theftAbort_still _ (Wr.sub (by decide) hw) ?_
    | with_reducible apply Still.whenIf
    | split
    | dsimp only; split

def execCaretakerStart_writes : Nat :=
    0x20000040000000e004000020000000000000000006c30400000000000000000000000000000000000000000000000c0000000003f000080200f9ffe00000000000000
theorem execCaretakerStart_still {F : Fld} {I V : Nat} (s : State) (hw : execCaretakerStart_writes.testBit F.ctorIdx =
    false) (h : Still F I V s) :
    StillOut F I V (execCaretakerStart s) := by
  unfold execCaretakerStart
  repeat' first
    | with_reducible assumption
    | with_reducible apply StillOut.next
    | with_reducible apply StillOut.ite
    | intro _
    | with_reducible refine State.losePd0_still _ (Wr.sub (by decide) hw) ?_
    | with_reducible apply Still.ite
    | fail_if_no_progress with_reducible apply Still.upd
    | split
    | dsimp only; split

def execCaretakerStop_writes : Nat :=
    0x20000040000000e004000020000000000000000006c30400000000000000000000000000000000000000000000000c0000000003f000080200f9ffe00000000000000
theorem execCaretakerStop_still {F : Fld} {I V : Nat} (s : State) (hw : execCaretakerStop_writes.testBit F.ctorIdx = false)
    (h : Still F I V s) :
    StillOut F I V (execCaretakerStop s) := by
  unfold execCaretakerStop
  repeat' first
    | with_reducible assumption
    | with_reducible apply StillOut.next
    | with_reducible apply StillOut.ite
    | intro _
    | with_reducible refine State.losePd0_still _ (Wr.sub (by decide) hw) ?_
    | with_reducible apply Still.ite
    | fail_if_no_progress with_reducible apply Still.upd
    | split
    | dsimp only; split

def State.storeFault_writes : Nat :=
    0x100220000000000000000000000000000000000000000000000000000000000000000000000000000000000000000000000000000000000000000000000000000000000200000000000000
theorem State.storeFault_still {F : Fld} {I V : Nat} (s : State) (hw : State.storeFault_writes.testBit F.ctorIdx = false)
    (h : Still F I V s) :
    Still F I V (State.storeFault s) := by
  unfold State.storeFault
  repeat' first
    | with_reducible assumption
    | intro _
    | with_reducible refine State.setFld_still _ _ _ _ (W := State.storeFault_writes) ?_ hw ?_
    | decide
    | with_reducible refine State.supplyEvent_still _ (Wr.sub (by decide) hw) ?_
    | with_reducible apply Still.ite
    | split
    | (with_reducible apply Still.upd); split

def execStoreFault_writes : Nat :=
    0x100220000000000000000000000000000000000000000000000000000000000000000000000000000000000000000000000000000000000000000000000000000000000200000000000000
theorem execStoreFault_still {F : Fld} {I V : Nat} (s : State) (hw : execStoreFault_writes.testBit F.ctorIdx = false) (h :
    Still F I V s) :
    StillOut F I V (execStoreFault s) := by
  unfold execStoreFault
  repeat' first
    | with_reducible assumption
    | with_reducible apply StillOut.next
    | intro _
    | with_reducible refine State.storeFault_still _ (Wr.sub (by decide) hw) ?_
    | split
    | dsimp only; split

def State.losePd_writes : Nat := 0x400000000000000000000000000000000000000000000000000000000000000000000000000000000000
theorem State.losePd_still {F : Fld} {I V : Nat} (s : State) (w : Wing) (hw : State.losePd_writes.testBit F.ctorIdx =
    false) (h : Still F I V s) :
    Still F I V (State.losePd s w) := by
  unfold State.losePd
  repeat' first
    | with_reducible assumption
    | intro _
    | with_reducible refine State.setFld_still _ _ _ _ (W := State.losePd_writes) ?_ hw ?_
    | decide
    | with_reducible apply Still.each
    | with_reducible apply Still.ite
    | fail_if_no_progress with_reducible apply Still.upd
    | split
    | (with_reducible apply Still.upd); split

def State.openSwitch_writes : Nat :=
    0x1002200000000000000000000000000000006000100000000600000000000000004000000000000000000000000000000000000000000000000000000000000000f0000000000000000000
theorem State.openSwitch_still {F : Fld} {I V : Nat} (s : State) (w : Wing) (hw : State.openSwitch_writes.testBit F.ctorIdx
    = false) (h : Still F I V s) :
    Still F I V (State.openSwitch s w) := by
  unfold State.openSwitch
  repeat' first
    | with_reducible assumption
    | intro _
    | with_reducible refine State.setFld_still _ _ _ _ (W := State.openSwitch_writes) ?_ hw ?_
    | decide
    | unfold pdOn; split <;> decide
    | unfold pdPg; split <;> decide
    | with_reducible refine State.losePd_still _ _ (Wr.sub (by decide) hw) ?_
    | with_reducible refine State.setWing_still _ _ _ (Wr.sub (by decide) hw) ?_
    | with_reducible refine State.standbyReserve_still _ _ (Wr.sub (by decide) hw) ?_
    | fail_if_no_progress with_reducible apply Still.upd
    | split
    | (with_reducible apply Still.upd); split

def State.driveSwitch_writes : Nat :=
    0x1002200000000000000000000000000000006000100000000600000000000000004000000000000000000000000000000000000000000000000000000000000000f0000000000000000000
theorem State.driveSwitch_still {F : Fld} {I V : Nat} (s : State) (w : Wing) (on : Bool) (hw :
    State.driveSwitch_writes.testBit F.ctorIdx = false) (h : Still F I V s) :
    Still F I V (State.driveSwitch s w on) := by
  unfold State.driveSwitch
  repeat' first
    | with_reducible assumption
    | intro _
    | with_reducible refine State.setFld_still _ _ _ _ (W := State.driveSwitch_writes) ?_ hw ?_
    | decide
    | unfold pdOc; split <;> decide
    | unfold pdOn; split <;> decide
    | with_reducible refine State.openSwitch_still _ _ (Wr.sub (by decide) hw) ?_
    | with_reducible apply Still.ite
    | split
    | (with_reducible apply Still.upd); split

def State.pwrSwWrite_writes : Nat :=
    0x1002200000000000000000000000000000006000100000000600000000000000004000000000000000000000000000000000000000000000000000000000000003f0000000000000000000
theorem State.pwrSwWrite_still {F : Fld} {I V : Nat} (s : State) (pd1 : Bool) (pd2 : Bool) (clr1 : Bool) (clr2 : Bool) (hw
    : State.pwrSwWrite_writes.testBit F.ctorIdx = false) (h : Still F I V s) :
    Still F I V (State.pwrSwWrite s pd1 pd2 clr1 clr2) := by
  unfold State.pwrSwWrite
  repeat' first
    | with_reducible assumption
    | intro _
    | with_reducible refine State.setFld_still _ _ _ _ (W := State.pwrSwWrite_writes) ?_ hw ?_
    | decide
    | unfold pdOn; split <;> decide
    | with_reducible refine State.discarded_still _ _ _ (Wr.sub (by decide) hw) ?_
    | with_reducible refine State.driveSwitch_still _ _ _ (Wr.sub (by decide) hw) ?_
    | with_reducible apply Still.whenIf
    | with_reducible apply Still.ite
    | split
    | (with_reducible apply Still.upd); split

def execPwrSwWrite_writes : Nat :=
    0x1002200000000000000000030000000000006000100000000600000000000000004000000000000000000000000000000000000000000000000000000000000003f0000000000000000000
theorem execPwrSwWrite_still {F : Fld} {I V : Nat} (core : Nat) (pd1 : Bool) (pd2 : Bool) (clr1 : Bool) (clr2 : Bool) (s :
    State) (hw : execPwrSwWrite_writes.testBit F.ctorIdx = false) (h : Still F I V s) :
    StillOut F I V (execPwrSwWrite core pd1 pd2 clr1 clr2 s) := by
  unfold execPwrSwWrite
  repeat' first
    | with_reducible assumption
    | with_reducible apply StillOut.next
    | intro _
    | with_reducible refine State.accessBlk_still _ _ _ _ _ (Wr.sub (by decide) hw) ?_ ?_
    | with_reducible refine State.pwrSwWrite_still _ _ _ _ _ (Wr.sub (by decide) hw) ?_
    | split
    | dsimp only; split

def execWingPowerGood_writes : Nat :=
    0x600000000000000000000000000000000000000000000000000000000000000000000000000000000c0000000000000000000
theorem execWingPowerGood_still {F : Fld} {I V : Nat} (w : Wing) (s : State) (hw : execWingPowerGood_writes.testBit
    F.ctorIdx = false) (h : Still F I V s) :
    StillOut F I V (execWingPowerGood w s) := by
  unfold execWingPowerGood
  repeat' first
    | with_reducible assumption
    | with_reducible apply StillOut.next
    | with_reducible apply StillOut.ite
    | intro _
    | with_reducible refine State.setFld_still _ _ _ _ (W := execWingPowerGood_writes) ?_ hw ?_
    | decide
    | unfold pdOn; split <;> decide
    | unfold pdPg; split <;> decide
    | with_reducible refine State.setWing_still _ _ _ (Wr.sub (by decide) hw) ?_
    | with_reducible apply Still.ite
    | fail_if_no_progress with_reducible apply Still.upd
    | split
    | dsimp only; split

def execSwitchOvercurrent_writes : Nat :=
    0x10181003e08000000000020000034e0000000000600010000006070000000000000000400000000000000000000000000480000801c000000000000000000000000023f0000000000000000000
theorem execSwitchOvercurrent_still {F : Fld} {I V : Nat} (pd : Nat) (s : State) (hw : execSwitchOvercurrent_writes.testBit
    F.ctorIdx = false) (h : Still F I V s) :
    StillOut F I V (execSwitchOvercurrent pd s) := by
  unfold execSwitchOvercurrent
  repeat' first
    | with_reducible assumption
    | with_reducible apply StillOut.next
    | intro _
    | with_reducible refine State.setFld_still _ _ _ _ (W := execSwitchOvercurrent_writes) ?_ hw ?_
    | decide
    | with_reducible refine State.supplyEvent_still _ (Wr.sub (by decide) hw) ?_
    | with_reducible refine State.openSwitch_still _ _ (Wr.sub (by decide) hw) ?_
    | with_reducible refine State.droop_still _ (Wr.sub (by decide) hw) ?_
    | with_reducible refine State.advanceEpoch_still _ _ _ (Wr.sub (by decide) hw) ?_
    | fail_if_no_progress with_reducible apply Still.upd
    | split
    | dsimp only; split

def execHarvestStateChange_writes : Nat := 0xe8000000000000
theorem execHarvestStateChange_still {F : Fld} {I V : Nat} (delivering : Bool) (setFault : Bool) (s : State) (hw :
    execHarvestStateChange_writes.testBit F.ctorIdx = false) (h : Still F I V s) :
    StillOut F I V (execHarvestStateChange delivering setFault s) := by
  unfold execHarvestStateChange
  repeat' first
    | with_reducible assumption
    | with_reducible apply StillOut.next
    | intro _
    | with_reducible refine State.setFlag_still _ _ _ _ (W := execHarvestStateChange_writes) ?_ hw ?_
    | decide
    | with_reducible refine State.settlePaths_still _ (Wr.sub (by decide) hw) ?_
    | fail_if_no_progress with_reducible apply Still.upd
    | split
    | dsimp only; split

def execCellPathOn_writes : Nat := 0x20000000000000
theorem execCellPathOn_still {F : Fld} {I V : Nat} (s : State) (hw : execCellPathOn_writes.testBit F.ctorIdx = false) (h :
    Still F I V s) :
    StillOut F I V (execCellPathOn s) := by
  unfold execCellPathOn
  repeat' first
    | with_reducible assumption
    | with_reducible apply StillOut.next
    | with_reducible apply StillOut.ite
    | intro _
    | with_reducible refine State.setFld_still _ _ _ _ (W := execCellPathOn_writes) ?_ hw ?_
    | decide
    | with_reducible apply Still.ite
    | fail_if_no_progress with_reducible apply Still.upd
    | split
    | dsimp only; split

def execCellPathOff_writes : Nat := 0x20000000000000
theorem execCellPathOff_still {F : Fld} {I V : Nat} (s : State) (hw : execCellPathOff_writes.testBit F.ctorIdx = false) (h
    : Still F I V s) :
    StillOut F I V (execCellPathOff s) := by
  unfold execCellPathOff
  repeat' first
    | with_reducible assumption
    | with_reducible apply StillOut.next
    | intro _
    | with_reducible refine State.setFld_still _ _ _ _ (W := execCellPathOff_writes) ?_ hw ?_
    | decide
    | split
    | dsimp only; split

def execCellRemoved_writes : Nat :=
    0x100220000000000000000000000000000000000000000000000000000000000000000000000000000000000000000000000000000000000000000000000000000000000030000000000000
theorem execCellRemoved_still {F : Fld} {I V : Nat} (s : State) (hw : execCellRemoved_writes.testBit F.ctorIdx = false) (h
    : Still F I V s) :
    StillOut F I V (execCellRemoved s) := by
  unfold execCellRemoved
  repeat' first
    | with_reducible assumption
    | with_reducible apply StillOut.next
    | intro _
    | with_reducible refine State.setFld_still _ _ _ _ (W := execCellRemoved_writes) ?_ hw ?_
    | decide
    | with_reducible refine State.supplyEvent_still _ (Wr.sub (by decide) hw) ?_
    | split
    | dsimp only; split

def execCellInserted_writes : Nat := 0x10000000000000
theorem execCellInserted_still {F : Fld} {I V : Nat} (s : State) (hw : execCellInserted_writes.testBit F.ctorIdx = false)
    (h : Still F I V s) :
    StillOut F I V (execCellInserted s) := by
  unfold execCellInserted
  repeat' first
    | with_reducible assumption
    | with_reducible apply StillOut.next
    | intro _
    | with_reducible refine State.setFld_still _ _ _ _ (W := execCellInserted_writes) ?_ hw ?_
    | decide
    | split
    | dsimp only; split

def execStoreCeilingReached_writes : Nat := 0x68000000000000
theorem execStoreCeilingReached_still {F : Fld} {I V : Nat} (s : State) (hw : execStoreCeilingReached_writes.testBit
    F.ctorIdx = false) (h : Still F I V s) :
    StillOut F I V (execStoreCeilingReached s) := by
  unfold execStoreCeilingReached
  repeat' first
    | with_reducible assumption
    | with_reducible apply StillOut.next
    | intro _
    | with_reducible refine State.setFld_still _ _ _ _ (W := execStoreCeilingReached_writes) ?_ hw ?_
    | decide
    | split
    | dsimp only; split

def execStoreCapMeasured_writes : Nat := 0x800000000000000000
theorem execStoreCapMeasured_still {F : Fld} {I V : Nat} (dtMs : Nat) (s : State) (hw : execStoreCapMeasured_writes.testBit
    F.ctorIdx = false) (h : Still F I V s) :
    StillOut F I V (execStoreCapMeasured dtMs s) := by
  unfold execStoreCapMeasured
  repeat' first
    | with_reducible assumption
    | with_reducible apply StillOut.next
    | intro _
    | with_reducible refine State.setFld_still _ _ _ _ (W := execStoreCapMeasured_writes) ?_ hw ?_
    | decide
    | with_reducible apply Still.whenIf
    | split
    | dsimp only; split

def State.pwrCellWrite_writes : Nat :=
    0x1002200000000000000000000000000000000000000000000000000000000000000000000000000000000000000000000000000000000000000000000000000000000f0000000000000000
theorem State.pwrCellWrite_still {F : Fld} {I V : Nat} (s : State) (on : Nat) (off : Nat) (low : Nat) (ilim : Nat) (hw :
    State.pwrCellWrite_writes.testBit F.ctorIdx = false) (h : Still F I V s) :
    Still F I V (State.pwrCellWrite s on off low ilim) := by
  unfold State.pwrCellWrite
  repeat' first
    | with_reducible assumption
    | intro _
    | with_reducible refine State.setFld_still _ _ _ _ (W := State.pwrCellWrite_writes) ?_ hw ?_
    | decide
    | with_reducible refine State.discarded_still _ _ _ (Wr.sub (by decide) hw) ?_
    | with_reducible apply Still.ite
    | split
    | (with_reducible apply Still.upd); split

def execPwrCellWrite_writes : Nat :=
    0x1002200000000000000000030000000000000000000000000000000000000000000000000000000000000000000000000000000000000000000000000000000000000f0000000000000000
theorem execPwrCellWrite_still {F : Fld} {I V : Nat} (core : Nat) (on : Nat) (off : Nat) (low : Nat) (ilim : Nat) (s :
    State) (hw : execPwrCellWrite_writes.testBit F.ctorIdx = false) (h : Still F I V s) :
    StillOut F I V (execPwrCellWrite core on off low ilim s) := by
  unfold execPwrCellWrite
  repeat' first
    | with_reducible assumption
    | with_reducible apply StillOut.next
    | intro _
    | with_reducible refine State.accessBlk_still _ _ _ _ _ (Wr.sub (by decide) hw) ?_ ?_
    | with_reducible refine State.pwrCellWrite_still _ _ _ _ _ (Wr.sub (by decide) hw) ?_
    | split
    | dsimp only; split

def State.writeFinal_writes : Nat := 0x1000000000000000
theorem State.writeFinal_still {F : Fld} {I V : Nat} (s : State) (hw : State.writeFinal_writes.testBit F.ctorIdx = false)
    (h : Still F I V s) :
    Still F I V (State.writeFinal s) := by
  unfold State.writeFinal
  repeat' first
    | with_reducible assumption
    | intro _
    | with_reducible refine State.setFld_still _ _ _ _ (W := State.writeFinal_writes) ?_ hw ?_
    | decide
    | fail_if_no_progress with_reducible apply Still.upd
    | split
    | (with_reducible apply Still.upd); split

def State.finalUnprompted_writes : Nat :=
    0x4000000000000000000000000000000000000000000000000000000000000000000000000000000000000000000000000000000001000000000000000
theorem State.finalUnprompted_still {F : Fld} {I V : Nat} (s : State) (hw : State.finalUnprompted_writes.testBit F.ctorIdx
    = false) (h : Still F I V s) :
    Still F I V (State.finalUnprompted s) := by
  unfold State.finalUnprompted
  repeat' first
    | with_reducible assumption
    | intro _
    | with_reducible refine State.count_still _ _ _ (W := State.finalUnprompted_writes) ?_ hw ?_
    | decide
    | with_reducible refine State.writeFinal_still _ (Wr.sub (by decide) hw) ?_
    | with_reducible apply Still.ite
    | fail_if_no_progress with_reducible apply Still.upd
    | split
    | (with_reducible apply Still.upd); split

def State.gaugeSample_writes : Nat :=
    0x100220000000000000000000000004000000000000000000000000000000000000000000000000000000000000000000000000000000000000000000000000000002701368000000000000
theorem State.gaugeSample_still {F : Fld} {I V : Nat} (vstore : Nat) (vcell : Nat) (used : Nat) (s : State) (hw :
    State.gaugeSample_writes.testBit F.ctorIdx = false) (h : Still F I V s) :
    Still F I V (State.gaugeSample vstore vcell used s) := by
  unfold State.gaugeSample
  repeat' first
    | with_reducible assumption
    | intro _
    | with_reducible refine State.setFld_still _ _ _ _ (W := State.gaugeSample_writes) ?_ hw ?_
    | with_reducible refine State.setFlag_still _ _ _ _ (W := State.gaugeSample_writes) ?_ hw ?_
    | decide
    | with_reducible refine State.settlePaths_still _ (Wr.sub (by decide) hw) ?_
    | with_reducible refine State.storeFault_still _ (Wr.sub (by decide) hw) ?_
    | with_reducible refine State.finalUnprompted_still _ (Wr.sub (by decide) hw) ?_
    | with_reducible apply Still.whenIf
    | with_reducible apply Still.ite
    | fail_if_no_progress with_reducible apply Still.upd
    | split
    | (with_reducible apply Still.upd); split

def State.admitBurst_writes : Nat :=
    0x100220000000000000000000000000000000000000000000000000000000000000000000000000000000000000000000000000000000000000000000000000000000001800000000000000
theorem State.admitBurst_still {F : Fld} {I V : Nat} (s : State) (classes : List Nat) (byCaretaker : Bool) (hw :
    State.admitBurst_writes.testBit F.ctorIdx = false) (h : Still F I V s) :
    Still F I V (State.admitBurst s classes byCaretaker) := by
  unfold State.admitBurst
  repeat' first
    | with_reducible assumption
    | intro _
    | with_reducible refine State.setFld_still _ _ _ _ (W := State.admitBurst_writes) ?_ hw ?_
    | decide
    | with_reducible refine State.supplyEvent_still _ (Wr.sub (by decide) hw) ?_
    | with_reducible refine State.writeFinal_still _ (Wr.sub (by decide) hw) ?_
    | with_reducible apply Still.whenIf
    | with_reducible apply Still.ite
    | fail_if_no_progress with_reducible apply Still.upd
    | split
    | (with_reducible apply Still.upd); split

def State.leaveOctal_writes : Nat :=
    0x40000000000000000000000000000000000000000000000000000000000000000000000000000000000000000000000000000000000000000000
theorem State.leaveOctal_still {F : Fld} {I V : Nat} (s : State) (hw : State.leaveOctal_writes.testBit F.ctorIdx = false)
    (h : Still F I V s) :
    Still F I V (State.leaveOctal s) := by
  unfold State.leaveOctal
  repeat' first
    | with_reducible assumption
    | intro _
    | with_reducible refine State.setFld_still _ _ _ _ (W := State.leaveOctal_writes) ?_ hw ?_
    | decide
    | with_reducible apply Still.whenIf
    | fail_if_no_progress with_reducible apply Still.upd
    | split
    | (with_reducible apply Still.upd); split

def execCaretakerTakePort_writes : Nat :=
    0x40000000000000000000000000000000000000000000000000000000000000000000000000000000000000000000000000002000000000000000
theorem execCaretakerTakePort_still {F : Fld} {I V : Nat} (s : State) (hw : execCaretakerTakePort_writes.testBit F.ctorIdx
    = false) (h : Still F I V s) :
    StillOut F I V (execCaretakerTakePort s) := by
  unfold execCaretakerTakePort
  repeat' first
    | with_reducible assumption
    | with_reducible apply StillOut.next
    | with_reducible apply StillOut.ite
    | intro _
    | with_reducible refine State.setFld_still _ _ _ _ (W := execCaretakerTakePort_writes) ?_ hw ?_
    | decide
    | with_reducible refine State.leaveOctal_still _ (Wr.sub (by decide) hw) ?_
    | with_reducible apply Still.ite
    | split
    | dsimp only; split

def execCaretakerReleasePort_writes : Nat := 0x2000000000000000
theorem execCaretakerReleasePort_still {F : Fld} {I V : Nat} (s : State) (hw : execCaretakerReleasePort_writes.testBit
    F.ctorIdx = false) (h : Still F I V s) :
    StillOut F I V (execCaretakerReleasePort s) := by
  unfold execCaretakerReleasePort
  repeat' first
    | with_reducible assumption
    | with_reducible apply StillOut.next
    | with_reducible apply StillOut.ite
    | intro _
    | with_reducible refine State.setFld_still _ _ _ _ (W := execCaretakerReleasePort_writes) ?_ hw ?_
    | decide
    | with_reducible apply Still.ite
    | split
    | dsimp only; split

end Sys2Proof.Machine
end

