-- ==== Sys2Proof/Laws/Effects.lean ====
section
/-!
SUPPORT. What the operations that many commands share do, said once: an epoch advance and the start of a whole-die reset.
-/
namespace Sys2Proof.Machine

section
variable (s : State)

/-- What every round of a repetition keeps, the repetition keeps. -/
theorem State.each_keeps {α β : Type} (g : State → β) {f : State → α → State} (hf : ∀ t x, g (f t x) = g t)
    (l : List α) : g (s.each l f) = g s := by
  induction l generalizing s with
  | nil => rfl
  | cons x l ih => exact (ih (f s x)).trans (hf s x)

/-! ### Fault epoch -/

theorem State.streamSend_discard (a : Nat) (g c : Bool) (l : List Nat) :
    (s.streamSend a g c l).dict.discard = s.dict.discard := by
  unfold State.streamSend
  dsimp only
  split <;> rfl

theorem State.closeCapture_discard (a : Nat) : (s.closeCapture a).dict.discard = s.dict.discard := by
  unfold State.closeCapture State.captureDone
  dsimp only
  split
  · simp only [State.setFlag_eq, State.setFld_dict, State.streamSend_discard]
    exact congrArg DictSt.discard (State.produce_same (P := .dict) (s0 := s) _ _ _ _ _ (by decide)
      (State.setCap_same (P := .dict) (s0 := s) _ _ _ (by decide) rfl))
  · simp only [State.setFlag_eq, State.setFld_dict]
    exact congrArg DictSt.discard (State.setCap_same (P := .dict) (s0 := s) _ _ _ (by decide) rfl)

theorem State.settleRings_discard : s.settleRings.dict.discard = s.dict.discard := by
  unfold State.settleRings
  dsimp only
  have h0 : ∀ (l : List Taken) (u : State), u.dict = s.dict → (u.each l (fun s t =>
      (({ s with ports := { s.ports with taken := s.ports.taken.erase t } } : State).putDescriptor t.ring t.idx
      (t.desc.fail 0x06)).haltRing t.ring 0x06)).dict = s.dict := by
    intro l
    induction l with
    | nil => exact fun u h => h
    | cons x l ih =>
      intro u h
      refine ih _ ?_
      refine State.haltRing_same (P := .dict) (s0 := s) _ _ _ (by decide) ?_
      exact State.putDescriptor_same (P := .dict) (s0 := s) _ _ _ _ (by decide) h
  have h1 : ∀ (l : List Nat) (u : State), u.dict = s.dict → (u.each l State.settleRing).dict = s.dict := by
    intro l
    induction l with
    | nil => exact fun u h => h
    | cons x l ih => exact fun u h => ih _ (State.settleRing_same (P := .dict) (s0 := s) _ _ (by decide) h)
  have h2 := h0 (s.ports.taken.filter s.cutTaken) _ (h1 (flushRings ++ rxRings) s rfl)
  unfold State.when
  split <;> split <;> simp only [State.closeCapture_discard] <;> exact congrArg DictSt.discard h2

theorem State.cutBurst_dict : s.cutBurst.dict = s.dict :=
  State.cutBurst_same (P := .dict) (s0 := s) s (by decide) rfl

theorem State.epochEvent_dict (r : Nat) : (s.epochEvent r).dict = s.dict :=
  State.epochEvent_same (P := .dict) (s0 := s) s r (by decide) rfl

theorem State.endGateways_dict (l : List Nat) (c : Nat) : (s.each l (fun s k => s.endGateway k c)).dict = s.dict :=
  s.each_keeps State.dict (fun t x => State.endGateway_same (P := .dict) (s0 := t) t x c (by decide) rfl) l

/-- Ending the build of a seed changes only the engines (22 R524). -/
theorem State.seedCut_eq : s.seedCut = { s with eng := s.seedCut.eng } := by
  unfold State.seedCut
  split <;> rfl

/-- An epoch advance keeps what it discards work for (20 R480, R481): reason, epoch, time and detail. -/
theorem State.advanceEpoch_discard (reason detail : Nat) :
    (s.advanceEpoch reason detail).dict.discard =
      { reason := reason, epoch := (s.fld .RING_EPOCH + 1) % 2 ^ 32, time := s.tb, detail := detail } := by
  unfold State.advanceEpoch
  dsimp only
  rw [State.epochEvent_dict, State.endGateways_dict]
  show (State.settleRings _).cutBurst.dict.discard = _
  rw [State.cutBurst_dict, State.settleRings_discard, State.seedCut_eq]
  rfl

theorem State.advanceEpoch_epoch (reason detail : Nat) :
    (s.advanceEpoch reason detail).fld .RING_EPOCH = (s.fld .RING_EPOCH + 1) % 2 ^ 32 := by
  unfold State.advanceEpoch
  dsimp only
  have h0 : Still .RING_EPOCH 0 ((s.fld .RING_EPOCH + 1) % 2 ^ 32)
      (s.seedCut.setFld .RING_EPOCH 0 ((s.fld .RING_EPOCH + 1) % 2 ^ 32)) := by
    show State.fld _ _ _ = _
    rw [State.fld_setFld_self]
    exact Nat.mod_mod _ _
  refine State.epochEvent_still _ _ (by decide) (Still.eachMem ?_ fun x _ t h => State.endGateway_still _ _ _ (by decide) h)
  exact Still.upd (State.cutBurst_still _ (by decide) (State.settleRings_still _ (by decide) h0.upd))

theorem State.cutBurst_powerGood : s.cutBurst.ct.powerGood = s.ct.powerGood := by
  have h : ∀ (u : State) (i : Nat), ((u.finishCmd 13 i 0 0x06).haltRing 13 0x06).ct = u.ct := fun u i =>
    State.haltRing_same (P := .ct) (s0 := u) _ _ _ (by decide) (State.finishCmd_same (P := .ct) _ _ _ _ _ (by decide) rfl)
  have he : (s.each (s.lib.burst.bind LibBurst.erasing).toList State.erased).ct = s.ct :=
    s.each_keeps State.ct (fun t x => State.erased_same (P := .ct) (s0 := t) t x (by decide) rfl) _
  have hp := congrArg CaretakerSt.powerGood he
  unfold State.cutBurst
  dsimp only
  split
  · rfl
  · split
    · rw [h]
      exact hp
    · exact hp

theorem State.advanceEpoch_powerGood (reason detail : Nat) :
    (s.advanceEpoch reason detail).ct.powerGood = s.ct.powerGood := by
  unfold State.advanceEpoch
  dsimp only
  have h1 : ∀ u : State, (u.epochEvent reason).ct = u.ct := fun u =>
    State.epochEvent_same (P := .ct) (s0 := u) u reason (by decide) rfl
  have h2 : ∀ (u : State) (l : List Nat) (c : Nat), (u.each l (fun s k => s.endGateway k c)).ct = u.ct := fun u l c =>
    u.each_keeps State.ct (fun t x => State.endGateway_same (P := .ct) (s0 := t) t x c (by decide) rfl) l
  have h3 : ∀ u : State, u.settleRings.ct = u.ct := fun u =>
    State.settleRings_same (P := .ct) (s0 := u) u (by decide) rfl
  rw [h1, h2]
  show (State.settleRings _).cutBurst.ct.powerGood = _
  rw [State.cutBurst_powerGood, h3, State.seedCut_eq]
  rfl

/-! ### Whole-die reset -/

theorem State.revokeAll_holder : s.revokeAll.fld .HP_STAT_HOLDER = 0 := by
  unfold State.revokeAll
  dsimp only
  refine Still.eachMem ?_ fun m _ t h => State.setFld_still _ _ _ _ (W := 2 ^ Fld.PWM_STAT_OUTACT.ctorIdx)
    (by decide +kernel) (by decide +kernel) (State.setFld_still _ _ _ _ (W := 2 ^ Fld.PWM_RUN_OUTEN.ctorIdx)
    (by decide +kernel) (by decide +kernel) h)
  refine Still.upd ?_
  show State.fld _ _ _ = _
  simp

/-- Where each element of a list has one field written, each of those fields holds what was written. -/
theorem State.each_fld {F : Fld} {V : Nat} {f : State → Nat → State} (hs : ∀ t x, (f t x).fld F x = V)
    (ho : ∀ t x y, y ≠ x → (f t x).fld F y = t.fld F y) (l : List Nat) (m : Nat) (hm : m ∈ l ∨ s.fld F m = V) :
    (s.each l f).fld F m = V := by
  induction l generalizing s with
  | nil => simpa [State.each] using hm
  | cons x l ih =>
    refine ih (f s x) ?_
    by_cases e : m = x
    · subst e; exact .inr (hs s m)
    · rcases hm with h | h
      · rcases List.mem_cons.mp h with h | h
        · exact absurd h e
        · exact .inl h
      · exact .inr ((ho s x m e).trans h)

theorem State.revokeAll_outen (m : Nat) (hm : m < 24) : s.revokeAll.fld .PWM_RUN_OUTEN m = 0 := by
  unfold State.revokeAll
  dsimp only
  refine State.each_fld _ ?_ ?_ _ m (.inl (List.mem_range.mpr hm))
  · intro t x; simp
  · intro t x y h; simp [h]

theorem State.quiesce_discard : s.quiesce.dict.discard = s.dict.discard := by
  have h : (s.each (List.range 12) (fun s n => s.setFld .LE_STAT_RUNNING n 0)).dict = s.dict :=
    s.each_keeps State.dict (fun t x => t.setFld_dict .LE_STAT_RUNNING x 0) _
  unfold State.quiesce
  dsimp only
  rw [h]

theorem State.startReset_dict (cause : Nat) :
    (s.startReset cause).dict = (s.advanceEpoch 2 cause).revokeAll.cutSecCommand.quiesce.tripsReset.dict := by
  unfold State.startReset State.when
  dsimp only
  split
  · exact State.loseItcm_same (P := .dict) (s0 := (s.advanceEpoch 2 cause).revokeAll.cutSecCommand.quiesce.tripsReset) _ (by decide) rfl
  · exact rfl

theorem State.startReset_fld (cause : Nat) (F : Fld) (I : Nat) (h1 : State.quiesce_writes.testBit F.ctorIdx = false)
    (h2 : State.cutSecCommand_writes.testBit F.ctorIdx = false)
    (h3 : State.tripsReset_writes.testBit F.ctorIdx = false) :
    (s.startReset cause).fld F I = (s.advanceEpoch 2 cause).revokeAll.fld F I := by
  have h4 : Still F I ((s.advanceEpoch 2 cause).revokeAll.fld F I)
      ((s.advanceEpoch 2 cause).revokeAll.cutSecCommand.quiesce.tripsReset) :=
    State.tripsReset_still _ h3 (State.quiesce_still _ h1 (State.cutSecCommand_still _ h2 rfl))
  unfold State.startReset
  dsimp only
  exact Still.upd (Still.whenIf h4 fun t h => State.loseItcm_still _ h)

theorem State.startReset_rst (cause : Nat) :
    (s.startReset cause).rst.phase = .fuses ∧ (s.startReset cause).rst.cause = cause ∧ (s.startReset cause).clk.held =
      ((s.advanceEpoch 2 cause).revokeAll.cutSecCommand.quiesce.tripsReset).tb := by
  unfold State.startReset
  dsimp only
  refine ⟨rfl, rfl, ?_⟩
  unfold State.when
  split
  · exact State.loseItcm_same (P := .tb) (s0 := (s.advanceEpoch 2 cause).revokeAll.cutSecCommand.quiesce.tripsReset) _ (by decide) rfl
  · exact rfl

theorem State.startReset_powerGood (cause : Nat) : (s.startReset cause).ct.powerGood = s.ct.powerGood := by
  have h : ∀ u : State, u.revokeAll.cutSecCommand.quiesce.tripsReset.ct = u.ct := fun u =>
    State.tripsReset_same (P := .ct) (s0 := u) _ (by decide) (State.quiesce_same (P := .ct) _ (by decide)
      (State.cutSecCommand_same (P := .ct) _ (by decide) (State.revokeAll_same (P := .ct) _ (by decide) rfl)))
  have h2 : (s.startReset cause).ct = (s.advanceEpoch 2 cause).revokeAll.cutSecCommand.quiesce.tripsReset.ct := by
    unfold State.startReset State.when
    dsimp only
    split
    · exact State.loseItcm_same (P := .ct) (s0 := (s.advanceEpoch 2 cause).revokeAll.cutSecCommand.quiesce.tripsReset) _
        (by decide) rfl
    · exact rfl
  rw [h2, h, State.advanceEpoch_powerGood]

/-- A reset request begins the reset (01 R42, R43). -/
theorem State.startReset_begun (cause : Nat) : s.resetBegun (s.startReset cause) cause := by
  have hd : (s.startReset cause).dict.discard = (s.advanceEpoch 2 cause).dict.discard := by
    have h2 : (s.advanceEpoch 2 cause).revokeAll.cutSecCommand.dict = (s.advanceEpoch 2 cause).dict :=
      State.cutSecCommand_same (P := .dict) (s0 := s.advanceEpoch 2 cause) _ (by decide)
        (State.revokeAll_same (P := .dict) _ (by decide) rfl)
    rw [State.startReset_dict]
    refine (congrArg DictSt.discard (State.tripsReset_same (P := .dict) (s0 := _) _ (by decide) rfl)).trans ?_
    rw [State.quiesce_discard, h2]
  have ht : ((s.advanceEpoch 2 cause).revokeAll.cutSecCommand.quiesce.tripsReset).tb = s.tb :=
    State.tripsReset_same (P := .tb) (s0 := s) _ (by decide) (State.quiesce_same (P := .tb) _ (by decide)
      (State.cutSecCommand_same (P := .tb) _ (by decide) (State.revokeAll_same (P := .tb) _ (by decide)
        (State.advanceEpoch_same (P := .tb) _ _ _ (by decide) rfl))))
  refine ⟨(s.startReset_rst cause).1, (s.startReset_rst cause).2.1, ?_, ?_, ?_, ?_, ?_,
    (s.startReset_rst cause).2.2.trans ht⟩
  · rw [State.startReset_fld _ _ _ _ (by decide) (by decide) (by decide)]
    exact State.revokeAll_still _ (by decide) (s.advanceEpoch_epoch 2 cause)
  · rw [hd, State.advanceEpoch_discard]
  · rw [hd, State.advanceEpoch_discard]
  · rw [State.startReset_fld _ _ _ _ (by decide) (by decide) (by decide)]
    exact State.revokeAll_holder _
  · intro m hm
    rw [State.startReset_fld _ _ _ _ (by decide) (by decide) (by decide)]
    exact State.revokeAll_outen _ m hm

theorem State.resetBegun_of {s s' t : State} {c : Nat} (h : s'.resetBegun t c)
    (he : s'.fld .RING_EPOCH = s.fld .RING_EPOCH) (ht : s'.tb = s.tb) : s.resetBegun t c := by
  unfold State.resetBegun at *; rw [← he, ← ht]; exact h

/-- A droop begins the reset too (03 R74). -/
theorem State.droop_begun : s.resetBegun s.droop 4 :=
  State.resetBegun_of (State.startReset_begun (s.count .PWR_MON_DROOPS) 4) (by simp) rfl

/-! ### Cores and worlds -/

@[simp] theorem State.coreActs_runs (core : Nat) (f : State → State) (h : s.coreRuns core = true) : s.coreActs core f = f s := by
  simp [State.coreActs, h]

/-- A running Secure core reaches every block its PMP lets it reach (17 R410, 21 R504). -/
@[simp] theorem State.accessAs_secure (cause core addr : Nat) (ns : Bool) (f : State → State) (hr : s.coreRuns core = true)
    (hp : s.pmpAllows core cause addr = true) (h : s.coreNs core = false) : s.accessAs cause core addr ns f = f s := by
  simp [State.accessAs, h, hr, hp]
@[simp] theorem State.access_secure (core addr : Nat) (ns : Bool) (f : State → State) (hr : s.coreRuns core = true)
    (hp : s.pmpAllows core 7 addr = true) (h : s.coreNs core = false) :
    s.access core addr ns f = f s := s.accessAs_secure 7 core addr ns f hr hp h
@[simp] theorem State.accessBlk_secure (core : Nat) (b : Blk) (addr : Nat) (f : State → State) (hr : s.coreRuns core = true)
    (hp : s.pmpAllows core 7 addr = true) (h : s.coreNs core = false) :
    s.accessBlk core b addr f = f s := s.access_secure core addr _ f hr hp h
@[simp] theorem State.loadBlk_secure (core : Nat) (b : Blk) (addr : Nat) (f : State → State) (hr : s.coreRuns core = true)
    (hp : s.pmpAllows core 5 addr = true) (h : s.coreNs core = false) :
    s.loadBlk core b addr f = f s := s.accessAs_secure 5 core addr _ f hr hp h

/-- A Non-secure core that reaches for a Secure target is barred (17 R412). -/
theorem State.accessAs_barred (cause core addr : Nat) (f : State → State) (hr : s.coreRuns core = true)
    (hp : s.pmpAllows core cause addr = true) (h : s.coreNs core = true) :
    s.accessAs cause core addr false f = (s.violation core addr).coreFault core cause addr := by
  simp [State.accessAs, h, hr, hp]

end
end Sys2Proof.Machine
end

