-- ==== Sys2Proof/Laws/Footprint.lean ====
section
/-!
SUPPORT. From the footprint of a command (Footprint.lean) to the bit masks in which the laws of Laws/Still*.lean and
Laws/Same*.lean say what a meaning can write: a field or part outside the footprint has a clear bit in the mask.
-/
namespace Sys2Proof.Machine

/-- The fields of a list as bits by the field's number. -/
def fieldMask (l : List Fld) : Nat := l.foldl (fun m f => m ||| 2 ^ f.ctorIdx) 0

/-- The parts of a list as bits by the part's number. -/
def partMask (l : List Part) : Nat := l.foldl (fun m p => m ||| 2 ^ p.ctorIdx) 0

theorem testBit_foldl_or {α : Type} (g : α → Nat) (k : Nat) (l : List α) (m : Nat) :
    (l.foldl (fun m x => m ||| 2 ^ g x) m).testBit k = (m.testBit k || l.any (fun x => g x == k)) := by
  induction l generalizing m with
  | nil => simp
  | cons x r ih =>
    rw [List.foldl_cons, ih, List.any_cons, Nat.testBit_or, Nat.testBit_two_pow, Bool.or_assoc]
    congr 2

/-- A field outside a footprint that covers the mask `w` has a clear bit in it. -/
theorem fieldMask_testBit {l : List Fld} {w : Nat} (h : fieldMask l &&& w = w) {f : Fld} (hf : l.contains f = false) :
    w.testBit f.ctorIdx = false := by
  have e : (fieldMask l).testBit f.ctorIdx = false := by
    rw [fieldMask, testBit_foldl_or (fun f : Fld => f.ctorIdx), Nat.zero_testBit, Bool.false_or, List.any_eq_false]
    intro x hx hxf
    have := Fld.ctorIdx_inj (of_decide_eq_true hxf)
    subst this
    simp [hx] at hf
  rw [← h, Nat.testBit_and, e, Bool.false_and]

theorem Part.ctorIdx_inj {p q : Part} (h : p.ctorIdx = q.ctorIdx) : p = q := by
  cases p <;> cases q <;> first | rfl | exact absurd h (by decide)

/-- A part outside a footprint that covers the mask `w` has a clear bit in it. -/
theorem partMask_testBit {l : List Part} {w : Nat} (h : partMask l &&& w = w) {p : Part} (hp : p ∉ l) :
    w.testBit p.ctorIdx = false := by
  have e : (partMask l).testBit p.ctorIdx = false := by
    rw [partMask, testBit_foldl_or (fun p : Part => p.ctorIdx), Nat.zero_testBit, Bool.false_or, List.any_eq_false]
    intro x hx hxp
    have := Part.ctorIdx_inj (of_decide_eq_true hxp)
    subst this
    exact hp hx
  rw [← h, Nat.testBit_and, e, Bool.false_and]

end Sys2Proof.Machine
end

