-- ==== Sys2Proof/Laws/Kept.lean ====
section
/-!
SUPPORT. What every operation keeps, as one fact about a state: its queue is `q`, its tables are canonical, its register fields
lie in their widths and its tables of fixed size have their size. One lemma per way an operation is put together; the files
Laws/Kept… hold one lemma per operation.
-/
namespace Sys2Proof.Machine

/-- A table of register fields that gives every field a number of its width. -/
def RegsOk (m : SMap) : Prop := ∀ (f : Fld) i, m.get (f.key i) (f.reset i) < 2 ^ f.width

def TutOk (t : TutorSt) : Prop :=
  (t.itcm.wf (fun _ => 0) = true ∧ t.dtcm.wf (fun _ => 0) = true) ∧
    (t.mtcmp.length = 4 ∧ t.mtcmpHold.length = 4 ∧ t.entered.length = 4 ∧ t.lr.length = 4 ∧
      t.mcause.length = 4 ∧ t.mtval.length = 4)

def EngOk (e : EngSt) : Prop :=
  e.mem.wf (fun _ => 0) = true ∧ e.engines.length = 12 ∧ (∀ x ∈ e.engines, x.Shaped) ∧ e.lowHold.length = 4

def SarOk (r : SarSt) : Prop := r.slots.length = 16 ∧ r.lastInput.length = 17 ∧ r.fails.length = 17

def PwmOk (p : PwmSt) : Prop := p.mods.length = 24 ∧ p.holds.length = 4

def DupOk (d : DuplexSt) : Prop := d.voters.length = 3 ∧ d.slots.length = 4

def BurOk (b : BursarSt) : Prop := b.points.length = 8 ∧ b.accs.length = 8

def DictOk (d : DictSt) : Prop := d.groups.length = 16

def TripOk (p : TripSt) : Prop := p.chans.length = 48

def CtOk (c : CaretakerSt) : Prop := c.sram.wf (fun _ => 0) = true

/-- The twelve Lesson engines, each with its registers and subscriptions. -/
def EnginesOk (l : List Engine) : Prop := l.length = 12 ∧ ∀ x ∈ l, x.Shaped

/-! A part keeps its demands where each field that carries one does. -/

theorem TutOk.upd {t : TutorSt} {mtcmp : List Nat} {mtcmpHold : List (Option Nat)} {entered : List Nat} {dtcm : SMap} {itcm : SMap} {lr : List (Option (Nat × Nat))} {mcause : List Nat} {mtval : List Nat} {mtip claimedA claimedB claimedGw wfi halted takeover leHalted heldReset tapIr tapDr boundary extest dmUnavail lastRead xf csrs user timeh progbuf cmderr}
    (h : TutOk t)
    (h_mtcmp : mtcmp.length = t.mtcmp.length)
    (h_mtcmpHold : mtcmpHold.length = t.mtcmpHold.length)
    (h_entered : entered.length = t.entered.length)
    (h_lr : lr.length = t.lr.length)
    (h_mcause : mcause.length = t.mcause.length)
    (h_mtval : mtval.length = t.mtval.length)
    (h_dtcm : SMap.wf (fun _ => 0) t.dtcm = true → SMap.wf (fun _ => 0) dtcm = true)
    (h_itcm : SMap.wf (fun _ => 0) t.itcm = true → SMap.wf (fun _ => 0) itcm = true) :
    TutOk ⟨mtcmp, mtcmpHold, mtip, claimedA, claimedB, claimedGw, wfi, halted, takeover, entered, dtcm, itcm, leHalted, lr, heldReset, tapIr, tapDr, boundary, extest, dmUnavail, lastRead, mcause, mtval, xf, csrs, user, timeh, progbuf, cmderr⟩ := ⟨⟨h_itcm h.1.1, h_dtcm h.1.2⟩, h_mtcmp.trans h.2.1, h_mtcmpHold.trans h.2.2.1, h_entered.trans h.2.2.2.1, h_lr.trans h.2.2.2.2.1, h_mcause.trans h.2.2.2.2.2.1, h_mtval.trans h.2.2.2.2.2.2⟩

theorem EngOk.upd {t : EngSt} {engines : List Engine} {mem : SMap} {lowHold : List (Option (Nat × Nat × Nat))} {highLatch done lastBell divCount copyA copyB readyA readyB}
    (h : EngOk t)
    (h_mem : SMap.wf (fun _ => 0) t.mem = true → SMap.wf (fun _ => 0) mem = true)
    (h_engines : EnginesOk t.engines → EnginesOk engines)
    (h_lowHold : lowHold.length = t.lowHold.length) :
    EngOk ⟨engines, mem, lowHold, highLatch, done, lastBell, divCount, copyA, copyB, readyA, readyB⟩ := ⟨h_mem h.1, (h_engines ⟨h.2.1, h.2.2.1⟩).1, (h_engines ⟨h.2.1, h.2.2.1⟩).2, h_lowHold.trans h.2.2.2⟩

theorem SarOk.upd {t : SarSt} {slots : List SarSlot} {lastInput : List (Option Nat)} {fails : List Nat} {nextStep stepDue lost pairDone pairBad oppAt injAt exitFails exitFailed fgPending}
    (h : SarOk t)
    (h_slots : slots.length = t.slots.length)
    (h_lastInput : lastInput.length = t.lastInput.length)
    (h_fails : fails.length = t.fails.length) :
    SarOk ⟨slots, lastInput, fails, nextStep, stepDue, lost, pairDone, pairBad, oppAt, injAt, exitFails, exitFailed, fgPending⟩ := ⟨h_slots.trans h.1, h_lastInput.trans h.2.1, h_fails.trans h.2.2⟩

theorem PwmOk.upd {t : PwmSt} {mods : List PwmMod} {holds : List (Option (Nat × Nat × Nat))} {gstart links counted}
    (h : PwmOk t)
    (h_mods : mods.length = t.mods.length)
    (h_holds : holds.length = t.holds.length) :
    PwmOk ⟨mods, holds, gstart, links, counted⟩ := ⟨h_mods.trans h.1, h_holds.trans h.2⟩

theorem DupOk.upd {t : DuplexSt} {voters : List Voter} {slots : List Snapshot} {handover rearm chosen restored expiryTs released firstAfter noSnap seq written advanced acquired writing activeBells bistFailA bistFailB windowA windowB waking tkoOpen}
    (h : DupOk t)
    (h_voters : voters.length = t.voters.length)
    (h_slots : slots.length = t.slots.length) :
    DupOk ⟨voters, handover, rearm, chosen, restored, expiryTs, released, firstAfter, noSnap, seq, written, advanced, acquired, writing, slots, activeBells, bistFailA, bistFailB, windowA, windowB, waking, tkoOpen⟩ := ⟨h_voters.trans h.1, h_slots.trans h.2⟩

theorem BurOk.upd {t : BursarSt} {points : List BurPoint} {accs : List BurAcc} {theft tampered restoreDue rtcSet span absent window windowClock late}
    (h : BurOk t)
    (h_points : points.length = t.points.length)
    (h_accs : accs.length = t.accs.length) :
    BurOk ⟨points, accs, theft, tampered, restoreDue, rtcSet, span, absent, window, windowClock, late⟩ := ⟨h_points.trans h.1, h_accs.trans h.2⟩

theorem DictOk.upd {t : DictSt} {groups : List Group} {vars discard discards usdo idp cache joint seedOutcome seeding rollCall rollAskers seedAskers forwards summary descReq answered streamTag streamSent lastAbort unstored}
    (h : DictOk t)
    (h_groups : groups.length = t.groups.length) :
    DictOk ⟨groups, vars, discard, discards, usdo, idp, cache, joint, seedOutcome, seeding, rollCall, rollAskers, seedAskers, forwards, summary, descReq, answered, streamTag, streamSent, lastAbort, unstored⟩ := h_groups.trans h

theorem TripOk.upd {t : TripSt} {chans : List CompChan} {risen}
    (h : TripOk t)
    (h_chans : chans.length = t.chans.length) :
    TripOk ⟨chans, risen⟩ := h_chans.trans h

theorem CtOk.upd {t : CaretakerSt} {sram : SMap} {running powerGood burst burstOwn changed finalArmed reached riseSpoiled harvReady cellTook intOpen openKnown openBalls openGroups rcPhase rtcPhase flashAsleep}
    (h : CtOk t)
    (h_sram : SMap.wf (fun _ => 0) t.sram = true → SMap.wf (fun _ => 0) sram = true) :
    CtOk ⟨running, powerGood, burst, burstOwn, changed, finalArmed, reached, riseSpoiled, harvReady, cellTook, intOpen, openKnown, openBalls, openGroups, rcPhase, rtcPhase, flashAsleep, sram⟩ := h_sram h


/-- What every operation keeps. -/
structure Kept (q : List Instr) (s : State) : Prop where
  pending : s.pending = q
  regs : RegsOk s.regs
  satchel : s.satchel.wf (fun _ => 0) = true
  ct : CtOk s.ct
  tut : TutOk s.tut
  eng : EngOk s.eng
  sd : s.sd.length = 24
  trip : TripOk s.trip
  pwm : PwmOk s.pwm
  sar : SarOk s.sar
  dup : DupOk s.dup
  dict : DictOk s.dict
  bur : BurOk s.bur

/-- The fact in the terms of Safety.lean. -/
theorem kept_iff (q : List Instr) (s : State) : Kept q s ↔ s.pending = q ∧ s.Tidy ∧ s.InWidth ∧ s.Shaped := by
  constructor
  · intro h
    exact ⟨h.pending, ⟨h.satchel, h.eng.1, h.tut.1.1, h.tut.1.2, h.ct⟩, h.regs, h.sd, h.trip, h.pwm, h.sar,
      h.eng.2, h.dup, h.dict, h.bur, h.tut.2⟩
  · rintro ⟨h0, ⟨h1, h2, h3, h4, h5⟩, h6, h7, h8, h9, h10, h11, h12, h13, h14, h15⟩
    exact ⟨h0, h6, h1, h5, ⟨⟨h3, h4⟩, h15⟩, ⟨h2, h11⟩, h7, h8, h9, h10, h12, h13, h14⟩

/-- What the answer of a command keeps. -/
def KeptOut (q : List Instr) (o : Out) : Prop := ∀ t, o = .next t → Kept q t

theorem KeptOut.next {q : List Instr} {t : State} (h : Kept q t) : KeptOut q (.next t) := by
  intro u e; cases e; exact h

theorem KeptOut.ite {q : List Instr} {p : Prop} [Decidable p] {a b : Out} (ha : KeptOut q a) (hb : KeptOut q b) :
    KeptOut q (if p then a else b) := by
  split <;> assumption

theorem RegsOk.set {m : SMap} (h : RegsOk m) (f : Fld) (i v : Nat) :
    RegsOk (m.set (f.key i) (f.reset i) (v % 2 ^ f.width)) := by
  intro g j
  by_cases e : g.key j = f.key i
  · obtain ⟨rfl, rfl⟩ := Fld.key_inj e
    rw [SMap.get_set_self]
    exact Nat.mod_lt _ (Nat.two_pow_pos _)
  · rw [SMap.get_set_ne _ _ _ _ e]
    exact h g j

theorem RegsOk.filter {m : SMap} (h : RegsOk m) (p : Nat → Bool) : RegsOk (m.filter (fun e => p e.1.1)) := by
  intro f i
  rw [SMap.get_filter]
  split
  · exact h f i
  · exact f.reset_lt i

/-! ### Ways an operation is put together -/

section
variable {q : List Instr} {s : State}

theorem Kept.cut {a : State} {P : Prop} (h1 : Kept q a) (h2 : Kept q a → P) : P := h2 h1

/-- A change of parts that hold nothing kept. -/
theorem Kept.free {tb fc rst bell fab sec ports clk integ lib gate ship pf} (h : Kept q s) :
    Kept q ⟨s.pending, s.regs, tb, fc, rst, bell, fab, s.dup, sec, ports, s.dict, s.tut, s.satchel, s.ct, clk, s.sar, integ,
      lib, s.sd, s.trip, s.pwm, gate, s.eng, ship, s.bur, pf⟩ :=
  ⟨h.pending, h.regs, h.satchel, h.ct, h.tut, h.eng, h.sd, h.trip, h.pwm, h.sar, h.dup, h.dict, h.bur⟩

theorem Kept.updRegs {regs tb fc rst bell fab sec ports clk integ lib gate ship pf} (h : Kept q s)
    (hr : Kept q s → RegsOk regs) :
    Kept q ⟨s.pending, regs, tb, fc, rst, bell, fab, s.dup, sec, ports, s.dict, s.tut, s.satchel, s.ct, clk, s.sar, integ,
      lib, s.sd, s.trip, s.pwm, gate, s.eng, ship, s.bur, pf⟩ :=
  ⟨h.pending, hr h, h.satchel, h.ct, h.tut, h.eng, h.sd, h.trip, h.pwm, h.sar, h.dup, h.dict, h.bur⟩

theorem Kept.updDup {dup tb fc rst bell fab sec ports clk integ lib gate ship pf} (h : Kept q s)
    (hr : Kept q s → DupOk dup) :
    Kept q ⟨s.pending, s.regs, tb, fc, rst, bell, fab, dup, sec, ports, s.dict, s.tut, s.satchel, s.ct, clk, s.sar, integ,
      lib, s.sd, s.trip, s.pwm, gate, s.eng, ship, s.bur, pf⟩ :=
  ⟨h.pending, h.regs, h.satchel, h.ct, h.tut, h.eng, h.sd, h.trip, h.pwm, h.sar, hr h, h.dict, h.bur⟩

theorem Kept.updDict {dict : DictSt} {tb fc rst bell fab sec ports clk integ lib gate ship pf} (h : Kept q s)
    (hr : Kept q s → DictOk dict) :
    Kept q ⟨s.pending, s.regs, tb, fc, rst, bell, fab, s.dup, sec, ports, dict, s.tut, s.satchel, s.ct, clk, s.sar, integ,
      lib, s.sd, s.trip, s.pwm, gate, s.eng, ship, s.bur, pf⟩ :=
  ⟨h.pending, h.regs, h.satchel, h.ct, h.tut, h.eng, h.sd, h.trip, h.pwm, h.sar, h.dup, hr h, h.bur⟩

theorem Kept.updTut {tut tb fc rst bell fab sec ports clk integ lib gate ship pf} (h : Kept q s)
    (hr : Kept q s → TutOk tut) :
    Kept q ⟨s.pending, s.regs, tb, fc, rst, bell, fab, s.dup, sec, ports, s.dict, tut, s.satchel, s.ct, clk, s.sar, integ,
      lib, s.sd, s.trip, s.pwm, gate, s.eng, ship, s.bur, pf⟩ :=
  ⟨h.pending, h.regs, h.satchel, h.ct, hr h, h.eng, h.sd, h.trip, h.pwm, h.sar, h.dup, h.dict, h.bur⟩

theorem Kept.updSatchel {m : SMap} {tb fc rst bell fab sec ports clk integ lib gate ship pf} (h : Kept q s)
    (hr : Kept q s → m.wf (fun _ => 0) = true) :
    Kept q ⟨s.pending, s.regs, tb, fc, rst, bell, fab, s.dup, sec, ports, s.dict, s.tut, m, s.ct, clk, s.sar, integ,
      lib, s.sd, s.trip, s.pwm, gate, s.eng, ship, s.bur, pf⟩ :=
  ⟨h.pending, h.regs, hr h, h.ct, h.tut, h.eng, h.sd, h.trip, h.pwm, h.sar, h.dup, h.dict, h.bur⟩

theorem Kept.updCt {ct : CaretakerSt} {tb fc rst bell fab sec ports clk integ lib gate ship pf} (h : Kept q s)
    (hr : Kept q s → CtOk ct) :
    Kept q ⟨s.pending, s.regs, tb, fc, rst, bell, fab, s.dup, sec, ports, s.dict, s.tut, s.satchel, ct, clk, s.sar, integ,
      lib, s.sd, s.trip, s.pwm, gate, s.eng, ship, s.bur, pf⟩ :=
  ⟨h.pending, h.regs, h.satchel, hr h, h.tut, h.eng, h.sd, h.trip, h.pwm, h.sar, h.dup, h.dict, h.bur⟩

theorem Kept.updSar {sar tb fc rst bell fab sec ports clk integ lib gate ship pf} (h : Kept q s)
    (hr : Kept q s → SarOk sar) :
    Kept q ⟨s.pending, s.regs, tb, fc, rst, bell, fab, s.dup, sec, ports, s.dict, s.tut, s.satchel, s.ct, clk, sar, integ,
      lib, s.sd, s.trip, s.pwm, gate, s.eng, ship, s.bur, pf⟩ :=
  ⟨h.pending, h.regs, h.satchel, h.ct, h.tut, h.eng, h.sd, h.trip, h.pwm, hr h, h.dup, h.dict, h.bur⟩

theorem Kept.updSd {sd tb fc rst bell fab sec ports clk integ lib gate ship pf} (h : Kept q s)
    (hr : Kept q s → sd.length = 24) :
    Kept q ⟨s.pending, s.regs, tb, fc, rst, bell, fab, s.dup, sec, ports, s.dict, s.tut, s.satchel, s.ct, clk, s.sar, integ,
      lib, sd, s.trip, s.pwm, gate, s.eng, ship, s.bur, pf⟩ :=
  ⟨h.pending, h.regs, h.satchel, h.ct, h.tut, h.eng, hr h, h.trip, h.pwm, h.sar, h.dup, h.dict, h.bur⟩

theorem Kept.updTrip {trip : TripSt} {tb fc rst bell fab sec ports clk integ lib gate ship pf} (h : Kept q s)
    (hr : Kept q s → TripOk trip) :
    Kept q ⟨s.pending, s.regs, tb, fc, rst, bell, fab, s.dup, sec, ports, s.dict, s.tut, s.satchel, s.ct, clk, s.sar, integ,
      lib, s.sd, trip, s.pwm, gate, s.eng, ship, s.bur, pf⟩ :=
  ⟨h.pending, h.regs, h.satchel, h.ct, h.tut, h.eng, h.sd, hr h, h.pwm, h.sar, h.dup, h.dict, h.bur⟩

theorem Kept.updPwm {pwm tb fc rst bell fab sec ports clk integ lib gate ship pf} (h : Kept q s)
    (hr : Kept q s → PwmOk pwm) :
    Kept q ⟨s.pending, s.regs, tb, fc, rst, bell, fab, s.dup, sec, ports, s.dict, s.tut, s.satchel, s.ct, clk, s.sar, integ,
      lib, s.sd, s.trip, pwm, gate, s.eng, ship, s.bur, pf⟩ :=
  ⟨h.pending, h.regs, h.satchel, h.ct, h.tut, h.eng, h.sd, h.trip, hr h, h.sar, h.dup, h.dict, h.bur⟩

theorem Kept.updEng {eng tb fc rst bell fab sec ports clk integ lib gate ship pf} (h : Kept q s)
    (hr : Kept q s → EngOk eng) :
    Kept q ⟨s.pending, s.regs, tb, fc, rst, bell, fab, s.dup, sec, ports, s.dict, s.tut, s.satchel, s.ct, clk, s.sar, integ,
      lib, s.sd, s.trip, s.pwm, gate, eng, ship, s.bur, pf⟩ :=
  ⟨h.pending, h.regs, h.satchel, h.ct, h.tut, hr h, h.sd, h.trip, h.pwm, h.sar, h.dup, h.dict, h.bur⟩

theorem Kept.updBur {bur tb fc rst bell fab sec ports clk integ lib gate ship pf} (h : Kept q s)
    (hr : Kept q s → BurOk bur) :
    Kept q ⟨s.pending, s.regs, tb, fc, rst, bell, fab, s.dup, sec, ports, s.dict, s.tut, s.satchel, s.ct, clk, s.sar, integ,
      lib, s.sd, s.trip, s.pwm, gate, s.eng, ship, bur, pf⟩ :=
  ⟨h.pending, h.regs, h.satchel, h.ct, h.tut, h.eng, h.sd, h.trip, h.pwm, h.sar, h.dup, h.dict, hr h⟩

theorem mem_modAt {α : Type} {l : List α} {i : Nat} {d : α} {f : α → α} {P : α → Prop} (hl : ∀ x ∈ l, P x)
    (hd : P d) (hf : ∀ x, P x → P (f x)) : ∀ x ∈ modAt l i d f, P x := by
  intro x hx
  rcases List.mem_or_eq_of_mem_set hx with hx | rfl
  · exact hl x hx
  · apply hf
    by_cases hi : i < l.length
    · rw [List.getD_eq_getElem _ _ hi]; exact hl _ (List.getElem_mem hi)
    · rw [List.getD_eq_default _ _ (by omega)]; exact hd

theorem EnginesOk.map {l : List Engine} {f : Engine → Engine} (h : EnginesOk l) (hf : ∀ e, e.Shaped → (f e).Shaped) :
    EnginesOk (l.map f) := by
  refine ⟨by rw [List.length_map]; exact h.1, fun x hx => ?_⟩
  obtain ⟨e, he, rfl⟩ := List.mem_map.1 hx
  exact hf e (h.2 e he)

theorem EnginesOk.modAt {l : List Engine} {n : Nat} {f : Engine → Engine} (h : EnginesOk l)
    (hf : ∀ e, e.Shaped → (f e).Shaped) : EnginesOk (modAt l n {} f) :=
  ⟨by rw [modAt_length]; exact h.1, mem_modAt h.2 ⟨rfl, rfl⟩ hf⟩

theorem enginesOk_reset : EnginesOk (List.replicate 12 {}) :=
  ⟨rfl, fun x hx => by rw [List.eq_of_mem_replicate hx]; exact ⟨rfl, rfl⟩⟩

/-- The machine after reset has it, with an empty queue. -/
theorem kept_reset : Kept [] State.reset :=
  ⟨rfl, fun f i => f.reset_lt i, rfl, rfl, ⟨⟨rfl, rfl⟩, rfl, rfl, rfl, rfl, rfl, rfl⟩,
    ⟨rfl, rfl, enginesOk_reset.2, rfl⟩, List.length_replicate, List.length_replicate, ⟨rfl, rfl⟩, ⟨rfl, rfl, rfl⟩, ⟨rfl, rfl⟩,
    rfl, ⟨rfl, rfl⟩⟩

theorem Kept.updBurCt {bur ct tb fc rst bell fab sec ports clk integ lib gate ship pf} (h : Kept q s)
    (hr : Kept q s → BurOk bur) (hc : Kept q s → CtOk ct) :
    Kept q ⟨s.pending, s.regs, tb, fc, rst, bell, fab, s.dup, sec, ports, s.dict, s.tut, s.satchel, ct, clk, s.sar, integ,
      lib, s.sd, s.trip, s.pwm, gate, s.eng, ship, bur, pf⟩ :=
  ⟨h.pending, h.regs, h.satchel, hc h, h.tut, h.eng, h.sd, h.trip, h.pwm, h.sar, h.dup, h.dict, hr h⟩

theorem length_foldl_set {α β : Type} (f : α → Nat) (g : α → β) (xs : List α) {l : List β} :
    (xs.foldl (fun l x => l.set (f x) (g x)) l).length = l.length := by
  induction xs generalizing l with
  | nil => rfl
  | cons x xs ih => exact ih.trans List.length_set

theorem Kept.ite {p : Prop} [Decidable p] {a b : State} (ha : Kept q a) (hb : Kept q b) : Kept q (if p then a else b) := by
  split <;> assumption

theorem Kept.iteSnd {α : Type} {p : Prop} [Decidable p] {a b : α × State} (ha : Kept q a.2) (hb : Kept q b.2) :
    Kept q (if p then a else b).2 := by
  split <;> assumption

theorem Kept.iteFst {α : Type} {p : Prop} [Decidable p] {a b : State × α} (ha : Kept q a.1) (hb : Kept q b.1) :
    Kept q (if p then a else b).1 := by
  split <;> assumption

theorem Kept.whenIf {b : Bool} {f : State → State} (h : Kept q s) (hf : ∀ t, Kept q t → Kept q (f t)) :
    Kept q (s.when b f) := by
  unfold State.when
  split
  · exact hf s h
  · exact h

theorem Kept.foldl {α : Type} {f : State → α → State} {l : List α} (h : Kept q s)
    (hf : ∀ t, Kept q t → ∀ x, Kept q (f t x)) : Kept q (l.foldl f s) := by
  induction l generalizing s with
  | nil => exact h
  | cons x l ih => exact ih (hf s h x)

theorem Kept.each {α : Type} {f : State → α → State} {l : List α} (h : Kept q s)
    (hf : ∀ t, Kept q t → ∀ x, Kept q (f t x)) : Kept q (s.each l f) := Kept.foldl h hf

/-- An operation that answers a value beside the state. -/
theorem Kept.snd {α : Type} {p : α × State} {a : α} {t : State} (h : Kept q p.2) (e : p = (a, t)) : Kept q t := by
  subst e; exact h

theorem Kept.fst {α : Type} {p : State × α} {a : α} {t : State} (h : Kept q p.1) (e : p = (t, a)) : Kept q t := by
  subst e; exact h

/-! A part taken over from an earlier state that was kept. -/

theorem Kept.modsEq {t : State} (h : Kept q s) (g : Kept q t) : s.pwm.mods.length = t.pwm.mods.length :=
  (h.pwm.1).trans (g.pwm.1).symm
theorem Kept.holdsEq {t : State} (h : Kept q s) (g : Kept q t) : s.pwm.holds.length = t.pwm.holds.length :=
  (h.pwm.2).trans (g.pwm.2).symm
theorem Kept.groupsEq {t : State} (h : Kept q s) (g : Kept q t) : s.dict.groups.length = t.dict.groups.length :=
  (h.dict).trans (g.dict).symm
theorem Kept.chansEq {t : State} (h : Kept q s) (g : Kept q t) : s.trip.chans.length = t.trip.chans.length :=
  (h.trip).trans (g.trip).symm
theorem Kept.votersEq {t : State} (h : Kept q s) (g : Kept q t) : s.dup.voters.length = t.dup.voters.length :=
  (h.dup.1).trans (g.dup.1).symm
theorem Kept.slotsDEq {t : State} (h : Kept q s) (g : Kept q t) : s.dup.slots.length = t.dup.slots.length :=
  (h.dup.2).trans (g.dup.2).symm
theorem Kept.slotsSEq {t : State} (h : Kept q s) (g : Kept q t) : s.sar.slots.length = t.sar.slots.length :=
  (h.sar.1).trans (g.sar.1).symm
theorem Kept.lastInputEq {t : State} (h : Kept q s) (g : Kept q t) : s.sar.lastInput.length = t.sar.lastInput.length :=
  (h.sar.2.1).trans (g.sar.2.1).symm
theorem Kept.failsEq {t : State} (h : Kept q s) (g : Kept q t) : s.sar.fails.length = t.sar.fails.length :=
  (h.sar.2.2).trans (g.sar.2.2).symm
theorem Kept.pointsEq {t : State} (h : Kept q s) (g : Kept q t) : s.bur.points.length = t.bur.points.length :=
  (h.bur.1).trans (g.bur.1).symm
theorem Kept.accsEq {t : State} (h : Kept q s) (g : Kept q t) : s.bur.accs.length = t.bur.accs.length :=
  (h.bur.2).trans (g.bur.2).symm
theorem Kept.lowHoldEq {t : State} (h : Kept q s) (g : Kept q t) : s.eng.lowHold.length = t.eng.lowHold.length :=
  (h.eng.2.2.2).trans (g.eng.2.2.2).symm
theorem Kept.mtcmpEq {t : State} (h : Kept q s) (g : Kept q t) : s.tut.mtcmp.length = t.tut.mtcmp.length :=
  (h.tut.2.1).trans (g.tut.2.1).symm
theorem Kept.mtcmpHoldEq {t : State} (h : Kept q s) (g : Kept q t) : s.tut.mtcmpHold.length = t.tut.mtcmpHold.length :=
  (h.tut.2.2.1).trans (g.tut.2.2.1).symm
theorem Kept.enteredEq {t : State} (h : Kept q s) (g : Kept q t) : s.tut.entered.length = t.tut.entered.length :=
  (h.tut.2.2.2.1).trans (g.tut.2.2.2.1).symm
theorem Kept.lrEq {t : State} (h : Kept q s) (g : Kept q t) : s.tut.lr.length = t.tut.lr.length :=
  (h.tut.2.2.2.2.1).trans (g.tut.2.2.2.2.1).symm
theorem Kept.mcauseEq {t : State} (h : Kept q s) (g : Kept q t) : s.tut.mcause.length = t.tut.mcause.length :=
  (h.tut.2.2.2.2.2.1).trans (g.tut.2.2.2.2.2.1).symm
theorem Kept.mtvalEq {t : State} (h : Kept q s) (g : Kept q t) : s.tut.mtval.length = t.tut.mtval.length :=
  (h.tut.2.2.2.2.2.2).trans (g.tut.2.2.2.2.2.2).symm
theorem Kept.itcmWf {P : Prop} (h : Kept q s) : P → s.tut.itcm.wf (fun _ => 0) = true := fun _ => h.tut.1.1
theorem Kept.dtcmWf {P : Prop} (h : Kept q s) : P → s.tut.dtcm.wf (fun _ => 0) = true := fun _ => h.tut.1.2
theorem Kept.sramWf {P : Prop} (h : Kept q s) : P → s.ct.sram.wf (fun _ => 0) = true := fun _ => h.ct
theorem Kept.memWf {P : Prop} (h : Kept q s) : P → s.eng.mem.wf (fun _ => 0) = true := fun _ => h.eng.1
theorem Kept.engsOk {P : Prop} (h : Kept q s) : P → EnginesOk s.eng.engines := fun _ => ⟨h.eng.2.1, h.eng.2.2.1⟩

end
end Sys2Proof.Machine
end

