-- ==== Sys2Proof/Laws/KeptOps.lean ====
section
/-!
SUPPORT. What every operation of Machine/Ops.lean keeps (Laws/Kept.lean).
-/
namespace Sys2Proof.Machine

set_option linter.unusedTactic false
set_option linter.unreachableTactic false

theorem State.setFld_kept {q : List Instr} (s : State) (f : Fld) (i : Nat) (v : Nat) (h : Kept q s) :
    Kept q (State.setFld s f i v) := by
  unfold State.setFld
  exact Kept.updRegs h (fun h => RegsOk.set h.regs f i v)

theorem State.setFlag_kept {q : List Instr} (s : State) (f : Fld) (i : Nat) (b : Bool) (h : Kept q s) :
    Kept q (State.setFlag s f i b) := by
  unfold State.setFlag
  repeat' first
    | with_reducible assumption
    | intro _
    | with_reducible apply State.setFld_kept
    | split
    | (with_reducible apply Kept.free); split

theorem State.setBit_kept {q : List Instr} (s : State) (f : Fld) (i : Nat) (b : Nat) (v : Bool) (h : Kept q s) :
    Kept q (State.setBit s f i b v) := by
  unfold State.setBit
  repeat' first
    | with_reducible assumption
    | intro _
    | with_reducible apply State.setFld_kept
    | split
    | (with_reducible apply Kept.free); split

theorem State.count_kept {q : List Instr} (s : State) (f : Fld) (i : optParam Nat 0) (h : Kept q s) :
    Kept q (State.count s f i) := by
  unfold State.count
  repeat' first
    | with_reducible assumption
    | intro _
    | with_reducible apply State.setFld_kept
    | split
    | (with_reducible apply Kept.free); split

theorem State.setLocked_kept {q : List Instr} (s : State) (f : Fld) (i : Nat) (v : Nat) (h : Kept q s) :
    Kept q (State.setLocked s f i v) := by
  unfold State.setLocked
  repeat' first
    | with_reducible assumption
    | intro _
    | with_reducible apply State.setFld_kept
    | with_reducible apply Kept.ite
    | split
    | (with_reducible apply Kept.free); split

theorem State.setAll_kept {q : List Instr} (s : State) (l : FldMap) (h : Kept q s) :
    Kept q (State.setAll s l) := by
  unfold State.setAll
  repeat' first
    | with_reducible assumption
    | intro _
    | with_reducible apply State.setLocked_kept
    | with_reducible apply Kept.each
    | split
    | (with_reducible apply Kept.free); split

theorem State.fresh_kept {q : List Instr} (s : State) (w : Nat) (h : Kept q s) :
    Kept q (State.fresh s w).2 := by
  unfold State.fresh
  repeat' first
    | with_reducible assumption
    | with_reducible exact fun h => h
    | exact fun _ => rfl
    | intro _
    | fail_if_no_progress with_reducible apply Kept.free
    | fail_if_no_progress (with_reducible refine Kept.updRegs ?_ (fun hk => ?_)) <;> try with_reducible exact hk.regs
    | fail_if_no_progress (with_reducible refine Kept.updSd ?_ (fun hk => ?_)) <;> try with_reducible exact hk.sd
    | fail_if_no_progress (with_reducible refine Kept.updSatchel ?_ (fun hk => ?_)) <;> try with_reducible exact hk.satchel
    | with_reducible rfl
    | dsimp only
    | split
    | (with_reducible apply Kept.free); split

theorem State.raiseCore_kept {q : List Instr} (s : State) (core : Nat) (src : Nat) (h : Kept q s) :
    Kept q (State.raiseCore s core src) := by
  unfold State.raiseCore
  repeat' first
    | with_reducible assumption
    | with_reducible exact fun h => h
    | exact fun _ => rfl
    | with_reducible refine Kept.itcmWf (q := q) ?_
    | with_reducible refine Kept.dtcmWf (q := q) ?_
    | intro _
    | with_reducible apply State.setBit_kept
    | fail_if_no_progress with_reducible apply Kept.free
    | fail_if_no_progress (with_reducible refine Kept.updRegs ?_ (fun hk => ?_)) <;> try with_reducible exact hk.regs
    | fail_if_no_progress (with_reducible refine Kept.updTut ?_ (fun hk => TutOk.upd hk.tut ?_ ?_ ?_ ?_ ?_ ?_ ?_ ?_)) <;> try first | with_reducible rfl | with_reducible exact fun h => h
    | fail_if_no_progress (with_reducible refine Kept.updSd ?_ (fun hk => ?_)) <;> try with_reducible exact hk.sd
    | fail_if_no_progress (with_reducible refine Kept.updSatchel ?_ (fun hk => ?_)) <;> try with_reducible exact hk.satchel
    | with_reducible rfl
    | with_reducible refine Kept.mtcmpEq (q := q) ?_ ‹_›
    | with_reducible refine Kept.mtcmpHoldEq (q := q) ?_ ‹_›
    | with_reducible refine Kept.enteredEq (q := q) ?_ ‹_›
    | with_reducible refine Kept.lrEq (q := q) ?_ ‹_›
    | with_reducible refine Kept.mcauseEq (q := q) ?_ ‹_›
    | with_reducible refine Kept.mtvalEq (q := q) ?_ ‹_›
    | split
    | (with_reducible apply Kept.free); split

theorem State.raise_kept {q : List Instr} (s : State) (w : Wing) (src : Nat) (h : Kept q s) :
    Kept q (State.raise s w src) := by
  unfold State.raise
  repeat' first
    | with_reducible assumption
    | intro _
    | with_reducible apply State.raiseCore_kept
    | split
    | (with_reducible apply Kept.free); split

theorem State.raiseRing_kept {q : List Instr} (s : State) (q_1 : Nat) (h : Kept q s) :
    Kept q (State.raiseRing s q_1) := by
  unfold State.raiseRing
  repeat' first
    | with_reducible assumption
    | intro _
    | with_reducible apply State.raise_kept
    | with_reducible apply Kept.each
    | split
    | (with_reducible apply Kept.free); split

theorem State.emit_kept {q : List Instr} (s : State) (b : Blk) (payload : Nat) (h : Kept q s) :
    Kept q (State.emit s b payload) := by
  unfold State.emit
  repeat' first
    | with_reducible assumption
    | with_reducible exact fun h => h
    | exact fun _ => rfl
    | intro _
    | with_reducible apply State.setFld_kept
    | with_reducible apply State.raiseRing_kept
    | with_reducible apply State.count_kept
    | with_reducible apply Kept.whenIf
    | with_reducible apply Kept.ite
    | fail_if_no_progress with_reducible apply Kept.free
    | fail_if_no_progress (with_reducible refine Kept.updRegs ?_ (fun hk => ?_)) <;> try with_reducible exact hk.regs
    | fail_if_no_progress (with_reducible refine Kept.updSd ?_ (fun hk => ?_)) <;> try with_reducible exact hk.sd
    | fail_if_no_progress (with_reducible refine Kept.updSatchel ?_ (fun hk => ?_)) <;> try with_reducible exact hk.satchel
    | with_reducible rfl
    | split
    | (with_reducible apply Kept.free); split

theorem State.event_kept {q : List Instr} (s : State) (b : Blk) (code : Nat) (detail : Nat) (ident : Nat) (h : Kept q s) :
    Kept q (State.event s b code detail ident) := by
  unfold State.event
  repeat' first
    | with_reducible assumption
    | intro _
    | with_reducible apply State.emit_kept
    | split
    | (with_reducible apply Kept.free); split

theorem State.discarded_kept {q : List Instr} (s : State) (b : Blk) (addr : Nat) (h : Kept q s) :
    Kept q (State.discarded s b addr) := by
  unfold State.discarded
  repeat' first
    | with_reducible assumption
    | intro _
    | with_reducible apply State.event_kept
    | split
    | (with_reducible apply Kept.free); split

theorem State.supplyEvent_kept {q : List Instr} (s : State) (h : Kept q s) :
    Kept q (State.supplyEvent s) := by
  unfold State.supplyEvent
  repeat' first
    | with_reducible assumption
    | intro _
    | with_reducible apply State.event_kept
    | split
    | (with_reducible apply Kept.free); split

theorem State.clockEvent_kept {q : List Instr} (s : State) (h : Kept q s) :
    Kept q (State.clockEvent s) := by
  unfold State.clockEvent
  repeat' first
    | with_reducible assumption
    | intro _
    | with_reducible apply State.event_kept
    | split
    | (with_reducible apply Kept.free); split

theorem State.roundFree_kept {q : List Instr} (s : State) (num : Int) (den : Nat) (h : Kept q s) :
    Kept q (State.roundFree s num den).2 := by
  unfold State.roundFree
  repeat' first
    | with_reducible assumption
    | intro _
    | with_reducible apply State.fresh_kept
    | (with_reducible refine Kept.snd ?_ (by assumption)); with_reducible apply State.fresh_kept
    | with_reducible apply Kept.ite
    | with_reducible apply Kept.iteSnd
    | dsimp only
    | split
    | (with_reducible apply Kept.free); split

theorem State.secEvent_kept {q : List Instr} (s : State) (code : Nat) (wing : Nat) (slot : Nat) (reason : Nat) (addr : Nat)
    (h : Kept q s) :
    Kept q (State.secEvent s code wing slot reason addr) := by
  unfold State.secEvent
  repeat' first
    | with_reducible assumption
    | intro _
    | with_reducible apply State.emit_kept
    | split
    | (with_reducible apply Kept.free); split

theorem State.dupEvent_kept {q : List Instr} (s : State) (code : Nat) (w : Wing) (bits : Nat) (reason : Nat) (age : Nat)
    (seq : Nat) (ts : Nat) (h : Kept q s) :
    Kept q (State.dupEvent s code w bits reason age seq ts) := by
  unfold State.dupEvent
  repeat' first
    | with_reducible assumption
    | intro _
    | with_reducible apply State.emit_kept
    | split
    | (with_reducible apply Kept.free); split

theorem State.violation_kept {q : List Instr} (s : State) (init : Nat) (addr : Nat) (h : Kept q s) :
    Kept q (State.violation s init addr) := by
  unfold State.violation
  repeat' first
    | with_reducible assumption
    | with_reducible exact fun h => h
    | exact fun _ => rfl
    | intro _
    | with_reducible apply State.setFld_kept
    | with_reducible apply State.secEvent_kept
    | with_reducible apply Kept.ite
    | fail_if_no_progress with_reducible apply Kept.free
    | fail_if_no_progress (with_reducible refine Kept.updRegs ?_ (fun hk => ?_)) <;> try with_reducible exact hk.regs
    | fail_if_no_progress (with_reducible refine Kept.updSd ?_ (fun hk => ?_)) <;> try with_reducible exact hk.sd
    | fail_if_no_progress (with_reducible refine Kept.updSatchel ?_ (fun hk => ?_)) <;> try with_reducible exact hk.satchel
    | with_reducible rfl
    | split
    | (with_reducible apply Kept.free); split

theorem State.coreFault_kept {q : List Instr} (s : State) (core : Nat) (cause : Nat) (addr : Nat) (h : Kept q s) :
    Kept q (State.coreFault s core cause addr) := by
  unfold State.coreFault
  repeat' first
    | with_reducible assumption
    | with_reducible exact fun h => h
    | exact fun _ => rfl
    | with_reducible refine Kept.itcmWf (q := q) ?_
    | with_reducible refine Kept.dtcmWf (q := q) ?_
    | intro _
    | fail_if_no_progress with_reducible apply Kept.free
    | fail_if_no_progress (with_reducible refine Kept.updRegs ?_ (fun hk => ?_)) <;> try with_reducible exact hk.regs
    | fail_if_no_progress (with_reducible refine Kept.updTut ?_ (fun hk => TutOk.upd hk.tut ?_ ?_ ?_ ?_ ?_ ?_ ?_ ?_)) <;> try first | with_reducible rfl | with_reducible exact fun h => h
    | fail_if_no_progress (with_reducible refine Kept.updSd ?_ (fun hk => ?_)) <;> try with_reducible exact hk.sd
    | fail_if_no_progress (with_reducible refine Kept.updSatchel ?_ (fun hk => ?_)) <;> try with_reducible exact hk.satchel
    | with_reducible rfl
    | with_reducible exact List.length_set
    | with_reducible exact List.length_set.trans List.length_set
    | exact List.length_set
    | with_reducible refine Kept.mtcmpEq (q := q) ?_ ‹_›
    | with_reducible refine Kept.mtcmpHoldEq (q := q) ?_ ‹_›
    | with_reducible refine Kept.enteredEq (q := q) ?_ ‹_›
    | with_reducible refine Kept.lrEq (q := q) ?_ ‹_›
    | with_reducible refine Kept.mcauseEq (q := q) ?_ ‹_›
    | with_reducible refine Kept.mtvalEq (q := q) ?_ ‹_›
    | split
    | (with_reducible apply Kept.free); split

theorem State.reads_kept {q : List Instr} (s : State) (v : Nat) (h : Kept q s) :
    Kept q (State.reads s v) := by
  unfold State.reads
  repeat' first
    | with_reducible assumption
    | with_reducible exact fun h => h
    | exact fun _ => rfl
    | with_reducible refine Kept.itcmWf (q := q) ?_
    | with_reducible refine Kept.dtcmWf (q := q) ?_
    | intro _
    | fail_if_no_progress with_reducible apply Kept.free
    | fail_if_no_progress (with_reducible refine Kept.updRegs ?_ (fun hk => ?_)) <;> try with_reducible exact hk.regs
    | fail_if_no_progress (with_reducible refine Kept.updTut ?_ (fun hk => TutOk.upd hk.tut ?_ ?_ ?_ ?_ ?_ ?_ ?_ ?_)) <;> try first | with_reducible rfl | with_reducible exact fun h => h
    | fail_if_no_progress (with_reducible refine Kept.updSd ?_ (fun hk => ?_)) <;> try with_reducible exact hk.sd
    | fail_if_no_progress (with_reducible refine Kept.updSatchel ?_ (fun hk => ?_)) <;> try with_reducible exact hk.satchel
    | with_reducible rfl
    | with_reducible refine Kept.mtcmpEq (q := q) ?_ ‹_›
    | with_reducible refine Kept.mtcmpHoldEq (q := q) ?_ ‹_›
    | with_reducible refine Kept.enteredEq (q := q) ?_ ‹_›
    | with_reducible refine Kept.lrEq (q := q) ?_ ‹_›
    | with_reducible refine Kept.mcauseEq (q := q) ?_ ‹_›
    | with_reducible refine Kept.mtvalEq (q := q) ?_ ‹_›
    | split
    | (with_reducible apply Kept.free); split

theorem State.setWindow_kept {q : List Instr} (s : State) (w : Wing) (t : Option Nat) (h : Kept q s) :
    Kept q (State.setWindow s w t) := by
  unfold State.setWindow
  repeat' first
    | with_reducible assumption
    | with_reducible exact fun h => h
    | exact fun _ => rfl
    | intro _
    | fail_if_no_progress with_reducible apply Kept.free
    | fail_if_no_progress (with_reducible refine Kept.updRegs ?_ (fun hk => ?_)) <;> try with_reducible exact hk.regs
    | fail_if_no_progress (with_reducible refine Kept.updDup ?_ (fun hk => DupOk.upd hk.dup ?_ ?_)) <;> try first | with_reducible rfl | with_reducible exact fun h => h
    | fail_if_no_progress (with_reducible refine Kept.updSd ?_ (fun hk => ?_)) <;> try with_reducible exact hk.sd
    | fail_if_no_progress (with_reducible refine Kept.updSatchel ?_ (fun hk => ?_)) <;> try with_reducible exact hk.satchel
    | with_reducible rfl
    | with_reducible refine Kept.votersEq (q := q) ?_ ‹_›
    | with_reducible refine Kept.slotsDEq (q := q) ?_ ‹_›
    | split
    | (with_reducible apply Kept.free); split

theorem State.coreActs_kept {q : List Instr} (s : State) (core : Nat) (f : State → State) (h : Kept q s) (hf : ∀ t, Kept q
    t → Kept q (f t)) :
    Kept q (State.coreActs s core f) := by
  unfold State.coreActs
  repeat' first
    | with_reducible assumption
    | intro _
    | with_reducible apply Kept.ite
    | with_reducible apply hf
    | split
    | (with_reducible apply Kept.free); split

theorem State.accessAs_kept {q : List Instr} (s : State) (cause : Nat) (core : Nat) (addr : Nat) (ns : Bool) (f : State →
    State) (h : Kept q s) (hf : ∀ t, Kept q t → Kept q (f t)) :
    Kept q (State.accessAs s cause core addr ns f) := by
  unfold State.accessAs
  repeat' first
    | with_reducible assumption
    | intro _
    | with_reducible apply State.coreActs_kept
    | with_reducible apply State.coreFault_kept
    | with_reducible apply State.violation_kept
    | with_reducible apply Kept.ite
    | with_reducible apply hf
    | split
    | (with_reducible apply Kept.free); split

theorem State.access_kept {q : List Instr} (s : State) (core : Nat) (addr : Nat) (ns : Bool) (f : State → State) (h : Kept
    q s) (hf : ∀ t, Kept q t → Kept q (f t)) :
    Kept q (State.access s core addr ns f) := by
  unfold State.access
  repeat' first
    | with_reducible assumption
    | intro _
    | with_reducible apply State.accessAs_kept
    | with_reducible apply hf
    | split
    | (with_reducible apply Kept.free); split

theorem State.loadBlk_kept {q : List Instr} (s : State) (core : Nat) (b : Blk) (addr : Nat) (f : State → State) (h : Kept q
    s) (hf : ∀ t, Kept q t → Kept q (f t)) :
    Kept q (State.loadBlk s core b addr f) := by
  unfold State.loadBlk
  repeat' first
    | with_reducible assumption
    | intro _
    | with_reducible apply State.accessAs_kept
    | with_reducible apply hf
    | split
    | (with_reducible apply Kept.free); split

theorem State.accessBlk_kept {q : List Instr} (s : State) (core : Nat) (b : Blk) (addr : Nat) (f : State → State) (h : Kept
    q s) (hf : ∀ t, Kept q t → Kept q (f t)) :
    Kept q (State.accessBlk s core b addr f) := by
  unfold State.accessBlk
  repeat' first
    | with_reducible assumption
    | intro _
    | with_reducible apply State.access_kept
    | with_reducible apply hf
    | split
    | (with_reducible apply Kept.free); split

theorem State.setWing_kept {q : List Instr} (s : State) (w : Wing) (st : WingState) (h : Kept q s) :
    Kept q (State.setWing s w st) := by
  unfold State.setWing
  repeat' first
    | with_reducible assumption
    | intro _
    | with_reducible apply State.setFld_kept
    | split
    | (with_reducible apply Kept.free); split

theorem State.modGroup_kept {q : List Instr} (s : State) (g : Nat) (f : Group → Group) (h : Kept q s) :
    Kept q (State.modGroup s g f) := by
  unfold State.modGroup
  repeat' first
    | with_reducible assumption
    | with_reducible exact fun h => h
    | exact fun _ => rfl
    | intro _
    | fail_if_no_progress with_reducible apply Kept.free
    | fail_if_no_progress (with_reducible refine Kept.updRegs ?_ (fun hk => ?_)) <;> try with_reducible exact hk.regs
    | fail_if_no_progress (with_reducible refine Kept.updDict ?_ (fun hk => DictOk.upd hk.dict ?_)) <;> try first | with_reducible rfl | with_reducible exact fun h => h
    | fail_if_no_progress (with_reducible refine Kept.updSd ?_ (fun hk => ?_)) <;> try with_reducible exact hk.sd
    | fail_if_no_progress (with_reducible refine Kept.updSatchel ?_ (fun hk => ?_)) <;> try with_reducible exact hk.satchel
    | with_reducible rfl
    | with_reducible exact modAt_length _ _ _ _
    | exact modAt_length _ _ _ _
    | with_reducible refine Kept.groupsEq (q := q) ?_ ‹_›
    | split
    | (with_reducible apply Kept.free); split

theorem State.requestApply_kept {q : List Instr} (s : State) (who : Nat) (group : Nat) (mask : Nat) (h : Kept q s) :
    Kept q (State.requestApply s who group mask) := by
  unfold State.requestApply
  repeat' first
    | with_reducible assumption
    | with_reducible exact fun h => h
    | exact fun _ => rfl
    | intro _
    | fail_if_no_progress with_reducible apply Kept.free
    | fail_if_no_progress (with_reducible refine Kept.updRegs ?_ (fun hk => ?_)) <;> try with_reducible exact hk.regs
    | fail_if_no_progress (with_reducible refine Kept.updSd ?_ (fun hk => ?_)) <;> try with_reducible exact hk.sd
    | fail_if_no_progress (with_reducible refine Kept.updSatchel ?_ (fun hk => ?_)) <;> try with_reducible exact hk.satchel
    | with_reducible rfl
    | split
    | (with_reducible apply Kept.free); split

theorem State.requestBarrier_kept {q : List Instr} (s : State) (who : Nat) (ident : Nat) (h : Kept q s) :
    Kept q (State.requestBarrier s who ident) := by
  unfold State.requestBarrier
  repeat' first
    | with_reducible assumption
    | with_reducible exact fun h => h
    | exact fun _ => rfl
    | intro _
    | fail_if_no_progress with_reducible apply Kept.free
    | fail_if_no_progress (with_reducible refine Kept.updRegs ?_ (fun hk => ?_)) <;> try with_reducible exact hk.regs
    | fail_if_no_progress (with_reducible refine Kept.updSd ?_ (fun hk => ?_)) <;> try with_reducible exact hk.sd
    | fail_if_no_progress (with_reducible refine Kept.updSatchel ?_ (fun hk => ?_)) <;> try with_reducible exact hk.satchel
    | with_reducible rfl
    | split
    | (with_reducible apply Kept.free); split

theorem State.intEvent_kept {q : List Instr} (s : State) (code : Nat) (unit : Nat) (loc : Nat) (addr : Nat) (nerr : Nat) (h
    : Kept q s) :
    Kept q (State.intEvent s code unit loc addr nerr) := by
  unfold State.intEvent
  repeat' first
    | with_reducible assumption
    | intro _
    | with_reducible apply State.emit_kept
    | split
    | (with_reducible apply Kept.free); split

theorem State.putRemain_kept {q : List Instr} (s : State) (l : Nat) (n : Nat) (h : Kept q s) :
    Kept q (State.putRemain s l n) := by
  unfold State.putRemain
  repeat' first
    | with_reducible assumption
    | intro _
    | with_reducible apply State.setFld_kept
    | split
    | (with_reducible apply Kept.free); split

theorem State.noteFloor_kept {q : List Instr} (s : State) (l : Nat) (was : Bool) (h : Kept q s) :
    Kept q (State.noteFloor s l was) := by
  unfold State.noteFloor
  repeat' first
    | with_reducible assumption
    | intro _
    | with_reducible apply State.intEvent_kept
    | with_reducible apply State.setFld_kept
    | with_reducible apply Kept.whenIf
    | split
    | (with_reducible apply Kept.free); split

theorem State.setRemain_kept {q : List Instr} (s : State) (l : Nat) (n : Nat) (h : Kept q s) :
    Kept q (State.setRemain s l n) := by
  unfold State.setRemain
  repeat' first
    | with_reducible assumption
    | intro _
    | with_reducible apply State.noteFloor_kept
    | with_reducible apply State.putRemain_kept
    | split
    | (with_reducible apply Kept.free); split

theorem State.consumeSpare_kept {q : List Instr} (s : State) (l : Nat) (h : Kept q s) :
    Kept q (State.consumeSpare s l) := by
  unfold State.consumeSpare
  repeat' first
    | with_reducible assumption
    | intro _
    | with_reducible apply State.setRemain_kept
    | split
    | (with_reducible apply Kept.free); split

theorem State.recordRepair_kept {q : List Instr} (s : State) (kind : Nat) (unit : Nat) (loc : Nat) (spare : Nat) (h : Kept
    q s) :
    Kept q (State.recordRepair s kind unit loc spare) := by
  unfold State.recordRepair
  repeat' first
    | with_reducible assumption
    | with_reducible exact fun h => h
    | exact fun _ => rfl
    | intro _
    | with_reducible apply State.setFld_kept
    | with_reducible apply State.intEvent_kept
    | with_reducible apply Kept.ite
    | fail_if_no_progress with_reducible apply Kept.free
    | fail_if_no_progress (with_reducible refine Kept.updRegs ?_ (fun hk => ?_)) <;> try with_reducible exact hk.regs
    | fail_if_no_progress (with_reducible refine Kept.updSd ?_ (fun hk => ?_)) <;> try with_reducible exact hk.sd
    | fail_if_no_progress (with_reducible refine Kept.updSatchel ?_ (fun hk => ?_)) <;> try with_reducible exact hk.satchel
    | with_reducible rfl
    | split
    | (with_reducible apply Kept.free); split

theorem State.standbyReserve_kept {q : List Instr} (s : State) (there : Bool) (h : Kept q s) :
    Kept q (State.standbyReserve s there) := by
  unfold State.standbyReserve
  repeat' first
    | with_reducible assumption
    | intro _
    | with_reducible apply State.setRemain_kept
    | with_reducible apply Kept.ite
    | split
    | (with_reducible apply Kept.free); split

end Sys2Proof.Machine
end

