-- ==== Sys2Proof/Laws/KeptPoison.lean ====
section
/-!
SUPPORT. What every operation of Machine/Poison.lean keeps (Laws/Kept.lean).
-/
namespace Sys2Proof.Machine

set_option linter.unusedTactic false
set_option linter.unreachableTactic false

theorem State.mark_kept {q : List Instr} (s : State) (mem : Nat) (w : Nat) (bad : Bool) (h : Kept q s) :
    Kept q (State.mark s mem w bad) := by
  unfold State.mark
  repeat' first
    | with_reducible assumption
    | with_reducible exact fun h => h
    | exact fun _ => rfl
    | with_reducible exact SMap.wf_set (d := fun _ => 0) _ _
    | intro _
    | fail_if_no_progress with_reducible apply Kept.free
    | fail_if_no_progress (with_reducible refine Kept.updRegs ?_ (fun hk => ?_)) <;> try with_reducible exact hk.regs
    | fail_if_no_progress (with_reducible refine Kept.updSd ?_ (fun hk => ?_)) <;> try with_reducible exact hk.sd
    | fail_if_no_progress (with_reducible refine Kept.updSatchel ?_ (fun hk => ?_)) <;> try with_reducible exact hk.satchel
    | with_reducible rfl
    | split
    | (with_reducible apply Kept.free); split

theorem State.badRead_kept {q : List Instr} (s : State) (mem : Nat) (addr : Nat) (fresh : Bool) (h : Kept q s) :
    Kept q (State.badRead s mem addr fresh) := by
  unfold State.badRead
  repeat' first
    | with_reducible assumption
    | intro _
    | with_reducible apply State.intEvent_kept
    | with_reducible apply State.setFld_kept
    | with_reducible apply Kept.ite
    | split
    | (with_reducible apply Kept.free); split

end Sys2Proof.Machine
end

