-- ==== Sys2Proof/Laws/KeptSatchel.lean ====
section
/-!
SUPPORT. What every operation of Machine/Satchel.lean keeps (Laws/Kept.lean).
-/
namespace Sys2Proof.Machine

set_option linter.unusedTactic false
set_option linter.unreachableTactic false

theorem State.satPut_kept {q : List Instr} (s : State) (off : Nat) (b : Nat) (h : Kept q s) :
    Kept q (State.satPut s off b) := by
  unfold State.satPut
  exact Kept.updSatchel h (fun h => SMap.wf_set (d := fun _ => 0) _ _ h.satchel)

theorem State.satWriteWord_kept {q : List Instr} (s : State) (off : Nat) (l : List Nat) (h : Kept q s) :
    Kept q (State.satWriteWord s off l).2 := by
  unfold State.satWriteWord
  repeat' first
    | with_reducible assumption
    | intro _
    | with_reducible apply State.satPut_kept
    | with_reducible apply State.mark_kept
    | with_reducible apply Kept.each
    | with_reducible apply Kept.ite
    | with_reducible apply Kept.iteSnd
    | dsimp only
    | split
    | (with_reducible apply Kept.free); split

theorem State.satWriteN_kept {q : List Instr} (x0 : Nat) (x1 : State) (x2 : Nat) (x3 : List Nat) (h : Kept q x1) :
    Kept q (State.satWriteN x0 x1 x2 x3).2 := by
  induction x0 generalizing x1 x2 x3 with
  | zero => exact h
  | succ n ih =>
    unfold State.satWriteN
    split
    · exact h
    · exact ih _ _ _ (State.satWriteWord_kept x1 x2 _ h)

theorem State.satWrite_kept {q : List Instr} (s : State) (addr : Nat) (l : List Nat) (h : Kept q s) :
    Kept q (State.satWrite s addr l).2 := by
  unfold State.satWrite
  repeat' first
    | with_reducible assumption
    | intro _
    | with_reducible apply State.satWriteN_kept
    | (with_reducible refine Kept.snd ?_ (by assumption)); with_reducible apply State.satWriteN_kept
    | with_reducible apply Kept.ite
    | with_reducible apply Kept.iteSnd
    | dsimp only
    | split
    | (with_reducible apply Kept.free); split

end Sys2Proof.Machine
end

