-- ==== Sys2Proof/Laws/KeptVars.lean ====
section
/-!
SUPPORT. What every operation of Machine/Vars.lean keeps (Laws/Kept.lean).
-/
namespace Sys2Proof.Machine

set_option linter.unusedTactic false
set_option linter.unreachableTactic false

theorem State.setVar_kept {q : List Instr} (s : State) (idx : Nat) (sub : Nat) (v : Nat) (h : Kept q s) :
    Kept q (State.setVar s idx sub v) := by
  unfold State.setVar
  repeat' first
    | with_reducible assumption
    | with_reducible exact fun h => h
    | exact fun _ => rfl
    | with_reducible exact SMap.wf_set (d := fun _ => 0) _ _
    | intro _
    | fail_if_no_progress with_reducible apply Kept.free
    | fail_if_no_progress (with_reducible refine Kept.updRegs ?_ (fun hk => ?_)) <;> try with_reducible exact hk.regs
    | fail_if_no_progress (with_reducible refine Kept.updDict ?_ (fun hk => DictOk.upd hk.dict ?_)) <;> try first | with_reducible rfl | with_reducible exact fun h => h
    | fail_if_no_progress (with_reducible refine Kept.updSd ?_ (fun hk => ?_)) <;> try with_reducible exact hk.sd
    | fail_if_no_progress (with_reducible refine Kept.updSatchel ?_ (fun hk => ?_)) <;> try with_reducible exact hk.satchel
    | with_reducible rfl
    | with_reducible refine Kept.groupsEq (q := q) ?_ ‹_›
    | split
    | (with_reducible apply Kept.free); split

theorem State.settleLate_kept {q : List Instr} (s : State) (n : Nat) (h : Kept q s) :
    Kept q (State.settleLate s n) := by
  unfold State.settleLate
  repeat' first
    | with_reducible assumption
    | with_reducible exact fun h => h
    | exact fun _ => rfl
    | with_reducible exact SMap.wf_filter _
    | intro _
    | with_reducible apply State.setVar_kept
    | with_reducible apply Kept.each
    | fail_if_no_progress with_reducible apply Kept.free
    | fail_if_no_progress (with_reducible refine Kept.updRegs ?_ (fun hk => ?_)) <;> try with_reducible exact hk.regs
    | fail_if_no_progress (with_reducible refine Kept.updSd ?_ (fun hk => ?_)) <;> try with_reducible exact hk.sd
    | fail_if_no_progress (with_reducible refine Kept.updSatchel ?_ (fun hk => ?_)) <;> try with_reducible exact hk.satchel
    | with_reducible rfl
    | split
    | (with_reducible apply Kept.free); split

end Sys2Proof.Machine
end

