-- ==== Sys2Proof/Laws/KeptRings.lean ====
section
/-!
SUPPORT. What every operation of Machine/Rings.lean keeps (Laws/Kept.lean).
-/
namespace Sys2Proof.Machine

set_option linter.unusedTactic false
set_option linter.unreachableTactic false

theorem State.putDescriptor_kept {q : List Instr} (s : State) (q_1 : Nat) (i : Nat) (d : Desc) (h : Kept q s) :
    Kept q (State.putDescriptor s q_1 i d) := by
  unfold State.putDescriptor
  repeat' first
    | with_reducible assumption
    | intro _
    | with_reducible apply State.satWrite_kept
    | (with_reducible refine Kept.snd ?_ (by assumption)); with_reducible apply State.satWrite_kept
    | split
    | (with_reducible apply Kept.free); split

theorem State.finish_kept {q : List Instr} (s : State) (q_1 : Nat) (i : Nat) (d : Desc) (h : Kept q s) :
    Kept q (State.finish s q_1 i d) := by
  unfold State.finish
  repeat' first
    | with_reducible assumption
    | with_reducible exact fun h => h
    | exact fun _ => rfl
    | with_reducible exact SMap.wf_filter _
    | intro _
    | with_reducible apply State.putDescriptor_kept
    | with_reducible apply State.raiseRing_kept
    | with_reducible apply State.event_kept
    | with_reducible apply State.setFld_kept
    | with_reducible apply Kept.whenIf
    | fail_if_no_progress with_reducible apply Kept.free
    | fail_if_no_progress (with_reducible refine Kept.updRegs ?_ (fun hk => ?_)) <;> try with_reducible exact hk.regs
    | fail_if_no_progress (with_reducible refine Kept.updSd ?_ (fun hk => ?_)) <;> try with_reducible exact hk.sd
    | fail_if_no_progress (with_reducible refine Kept.updSatchel ?_ (fun hk => ?_)) <;> try with_reducible exact hk.satchel
    | with_reducible rfl
    | split
    | (with_reducible apply Kept.free); split

theorem State.finishCmd_kept {q : List Instr} (s : State) (q_1 : Nat) (i : Nat) (len : Nat) (code : Nat) (h : Kept q s) :
    Kept q (State.finishCmd s q_1 i len code) := by
  unfold State.finishCmd
  repeat' first
    | with_reducible assumption
    | intro _
    | with_reducible apply State.finish_kept
    | with_reducible apply Kept.ite
    | split
    | (with_reducible apply Kept.free); split

theorem State.produce_kept {q : List Instr} (s : State) (q_1 : Nat) (d : Desc) (data : List Nat) (ts : Nat) (h : Kept q s) :
    Kept q (State.produce s q_1 d data ts) := by
  unfold State.produce
  repeat' first
    | with_reducible assumption
    | intro _
    | with_reducible apply State.setFld_kept
    | with_reducible apply State.finish_kept
    | with_reducible apply State.violation_kept
    | with_reducible apply State.satWrite_kept
    | (with_reducible refine Kept.snd ?_ (by assumption)); with_reducible apply State.satWrite_kept
    | with_reducible apply Kept.ite
    | split
    | (with_reducible apply Kept.free); split

theorem State.setCap_kept {q : List Instr} (s : State) (a : Nat) (c : Capture) (h : Kept q s) :
    Kept q (State.setCap s a c) := by
  unfold State.setCap
  repeat' first
    | with_reducible assumption
    | with_reducible exact fun h => h
    | exact fun _ => rfl
    | intro _
    | with_reducible apply Kept.ite
    | fail_if_no_progress with_reducible apply Kept.free
    | fail_if_no_progress (with_reducible refine Kept.updRegs ?_ (fun hk => ?_)) <;> try with_reducible exact hk.regs
    | fail_if_no_progress (with_reducible refine Kept.updSd ?_ (fun hk => ?_)) <;> try with_reducible exact hk.sd
    | fail_if_no_progress (with_reducible refine Kept.updSatchel ?_ (fun hk => ?_)) <;> try with_reducible exact hk.satchel
    | with_reducible rfl
    | split
    | (with_reducible apply Kept.free); split

theorem State.streamSend_kept {q : List Instr} (s : State) (a : Nat) (gap : Bool) (closed : Bool) (l : List Nat) (h : Kept
    q s) :
    Kept q (State.streamSend s a gap closed l) := by
  unfold State.streamSend
  repeat' first
    | with_reducible assumption
    | with_reducible exact fun h => h
    | exact fun _ => rfl
    | intro _
    | with_reducible apply Kept.ite
    | fail_if_no_progress with_reducible apply Kept.free
    | fail_if_no_progress (with_reducible refine Kept.updRegs ?_ (fun hk => ?_)) <;> try with_reducible exact hk.regs
    | fail_if_no_progress (with_reducible refine Kept.updDict ?_ (fun hk => DictOk.upd hk.dict ?_)) <;> try first | with_reducible rfl | with_reducible exact fun h => h
    | fail_if_no_progress (with_reducible refine Kept.updSd ?_ (fun hk => ?_)) <;> try with_reducible exact hk.sd
    | fail_if_no_progress (with_reducible refine Kept.updSatchel ?_ (fun hk => ?_)) <;> try with_reducible exact hk.satchel
    | with_reducible rfl
    | with_reducible exact List.length_set
    | with_reducible exact List.length_map _
    | with_reducible exact List.length_set.trans List.length_set
    | exact List.length_set
    | with_reducible refine Kept.groupsEq (q := q) ?_ ‹_›
    | split
    | (with_reducible apply Kept.free); split

theorem State.captureDone_kept {q : List Instr} (s : State) (a : Nat) (closed : Bool) (h : Kept q s) :
    Kept q (State.captureDone s a closed) := by
  unfold State.captureDone
  repeat' first
    | with_reducible assumption
    | intro _
    | with_reducible apply State.streamSend_kept
    | with_reducible apply State.produce_kept
    | with_reducible apply State.setCap_kept
    | split
    | (with_reducible apply Kept.free); split

theorem State.syncSend_kept {q : List Instr} (s : State) (l : List SyncOut) (h : Kept q s) :
    Kept q (State.syncSend s l) := by
  unfold State.syncSend
  repeat' first
    | with_reducible assumption
    | with_reducible exact fun h => h
    | exact fun _ => rfl
    | intro _
    | fail_if_no_progress with_reducible apply Kept.free
    | fail_if_no_progress (with_reducible refine Kept.updRegs ?_ (fun hk => ?_)) <;> try with_reducible exact hk.regs
    | fail_if_no_progress (with_reducible refine Kept.updSd ?_ (fun hk => ?_)) <;> try with_reducible exact hk.sd
    | fail_if_no_progress (with_reducible refine Kept.updSatchel ?_ (fun hk => ?_)) <;> try with_reducible exact hk.satchel
    | with_reducible rfl
    | split
    | (with_reducible apply Kept.free); split

theorem State.peerSend_kept {q : List Instr} (s : State) (l : List Nat) (h : Kept q s) :
    Kept q (State.peerSend s l) := by
  unfold State.peerSend
  repeat' first
    | with_reducible assumption
    | with_reducible exact fun h => h
    | exact fun _ => rfl
    | intro _
    | fail_if_no_progress with_reducible apply Kept.free
    | fail_if_no_progress (with_reducible refine Kept.updRegs ?_ (fun hk => ?_)) <;> try with_reducible exact hk.regs
    | fail_if_no_progress (with_reducible refine Kept.updSd ?_ (fun hk => ?_)) <;> try with_reducible exact hk.sd
    | fail_if_no_progress (with_reducible refine Kept.updSatchel ?_ (fun hk => ?_)) <;> try with_reducible exact hk.satchel
    | with_reducible rfl
    | split
    | (with_reducible apply Kept.free); split

end Sys2Proof.Machine
end

