-- ==== Sys2Proof/Laws/KeptEpoch.lean ====
section
/-!
SUPPORT. What every operation of Machine/Epoch.lean keeps (Laws/Kept.lean).
-/
namespace Sys2Proof.Machine

set_option linter.unusedTactic false
set_option linter.unreachableTactic false

theorem State.haltRing_kept {q : List Instr} (s : State) (q_1 : Nat) (code : Nat) (h : Kept q s) :
    Kept q (State.haltRing s q_1 code) := by
  unfold State.haltRing
  repeat' first
    | with_reducible assumption
    | intro _
    | with_reducible apply State.setFld_kept
    | split
    | (with_reducible apply Kept.free); split

theorem State.closeCapture_kept {q : List Instr} (s : State) (a : Nat) (h : Kept q s) :
    Kept q (State.closeCapture s a) := by
  unfold State.closeCapture
  repeat' first
    | with_reducible assumption
    | intro _
    | with_reducible apply State.setFlag_kept
    | with_reducible apply State.captureDone_kept
    | split
    | (with_reducible apply Kept.free); split

theorem State.settleRing_kept {q : List Instr} (s : State) (q_1 : Nat) (h : Kept q s) :
    Kept q (State.settleRing s q_1) := by
  unfold State.settleRing
  repeat' first
    | with_reducible assumption
    | intro _
    | with_reducible apply State.putDescriptor_kept
    | with_reducible apply State.setFld_kept
    | with_reducible apply State.haltRing_kept
    | with_reducible apply Kept.whenIf
    | with_reducible apply Kept.each
    | with_reducible apply Kept.ite
    | split
    | (with_reducible apply Kept.free); split

theorem State.settleRings_kept {q : List Instr} (s : State) (h : Kept q s) :
    Kept q (State.settleRings s) := by
  unfold State.settleRings
  repeat' first
    | with_reducible assumption
    | with_reducible exact fun h => h
    | exact fun _ => rfl
    | with_reducible exact SMap.wf_filter _
    | intro _
    | with_reducible apply State.settleRing_kept
    | with_reducible apply State.haltRing_kept
    | with_reducible apply State.putDescriptor_kept
    | with_reducible apply State.closeCapture_kept
    | with_reducible apply Kept.whenIf
    | with_reducible apply Kept.each
    | fail_if_no_progress with_reducible apply Kept.free
    | fail_if_no_progress (with_reducible refine Kept.updRegs ?_ (fun hk => ?_)) <;> try with_reducible exact hk.regs
    | fail_if_no_progress (with_reducible refine Kept.updSd ?_ (fun hk => ?_)) <;> try with_reducible exact hk.sd
    | fail_if_no_progress (with_reducible refine Kept.updSatchel ?_ (fun hk => ?_)) <;> try with_reducible exact hk.satchel
    | with_reducible rfl
    | split
    | (with_reducible apply Kept.free); split

theorem State.endGateway_kept {q : List Instr} (s : State) (core : Nat) (code : Nat) (h : Kept q s) :
    Kept q (State.endGateway s core code) := by
  unfold State.endGateway
  repeat' first
    | with_reducible assumption
    | intro _
    | with_reducible apply State.setFld_kept
    | with_reducible apply State.raiseCore_kept
    | with_reducible apply Kept.whenIf
    | with_reducible apply Kept.ite
    | split
    | (with_reducible apply Kept.free); split

theorem State.epochEvent_kept {q : List Instr} (s : State) (reason : Nat) (h : Kept q s) :
    Kept q (State.epochEvent s reason) := by
  unfold State.epochEvent
  repeat' first
    | with_reducible assumption
    | with_reducible exact fun h => h
    | exact fun _ => rfl
    | intro _
    | with_reducible apply State.event_kept
    | with_reducible apply Kept.ite
    | fail_if_no_progress with_reducible apply Kept.free
    | fail_if_no_progress (with_reducible refine Kept.updRegs ?_ (fun hk => ?_)) <;> try with_reducible exact hk.regs
    | fail_if_no_progress (with_reducible refine Kept.updSd ?_ (fun hk => ?_)) <;> try with_reducible exact hk.sd
    | fail_if_no_progress (with_reducible refine Kept.updSatchel ?_ (fun hk => ?_)) <;> try with_reducible exact hk.satchel
    | with_reducible rfl
    | split
    | (with_reducible apply Kept.free); split

theorem State.erased_kept {q : List Instr} (s : State) (b : Nat) (h : Kept q s) :
    Kept q (State.erased s b) := by
  unfold State.erased
  repeat' first
    | with_reducible assumption
    | with_reducible exact fun h => h
    | exact fun _ => rfl
    | with_reducible exact SMap.wf_set (d := fun _ => 0) _ _
    | with_reducible exact SMap.wf_filter _
    | intro _
    | with_reducible apply Kept.whenIf
    | fail_if_no_progress with_reducible apply Kept.free
    | fail_if_no_progress (with_reducible refine Kept.updRegs ?_ (fun hk => ?_)) <;> try with_reducible exact hk.regs
    | fail_if_no_progress (with_reducible refine Kept.updSd ?_ (fun hk => ?_)) <;> try with_reducible exact hk.sd
    | fail_if_no_progress (with_reducible refine Kept.updSatchel ?_ (fun hk => ?_)) <;> try with_reducible exact hk.satchel
    | with_reducible rfl
    | with_reducible exact modAt_length _ _ _ _
    | exact modAt_length _ _ _ _
    | split
    | (with_reducible apply Kept.free); split

theorem State.cutBurst_kept {q : List Instr} (s : State) (h : Kept q s) :
    Kept q (State.cutBurst s) := by
  unfold State.cutBurst
  repeat' first
    | with_reducible assumption
    | with_reducible exact fun h => h
    | exact fun _ => rfl
    | with_reducible refine Kept.sramWf (q := q) ?_
    | intro _
    | with_reducible apply State.erased_kept
    | with_reducible apply State.haltRing_kept
    | with_reducible apply State.finishCmd_kept
    | with_reducible apply Kept.each
    | with_reducible apply Kept.ite
    | fail_if_no_progress with_reducible apply Kept.free
    | fail_if_no_progress (with_reducible refine Kept.updRegs ?_ (fun hk => ?_)) <;> try with_reducible exact hk.regs
    | fail_if_no_progress (with_reducible refine Kept.updSd ?_ (fun hk => ?_)) <;> try with_reducible exact hk.sd
    | fail_if_no_progress (with_reducible refine Kept.updSatchel ?_ (fun hk => ?_)) <;> try with_reducible exact hk.satchel
    | fail_if_no_progress (with_reducible refine Kept.updCt ?_ (fun hk => CtOk.upd hk.ct ?_)) <;> try first | with_reducible rfl | with_reducible exact fun h => h
    | with_reducible rfl
    | split
    | (with_reducible apply Kept.free); split

theorem State.seedCut_kept {q : List Instr} (s : State) (h : Kept q s) :
    Kept q (State.seedCut s) := by
  unfold State.seedCut
  split
  · refine Kept.updEng h (fun hk => EngOk.upd hk.eng (fun e => e) (fun e => ?_) rfl)
    refine ⟨(List.length_mapIdx).trans e.1, fun x hx => ?_⟩
    obtain ⟨i, hi, rfl⟩ := List.mem_mapIdx.1 hx
    split
    · have := e.2 _ (List.getElem_mem hi)
      exact this
    · exact e.2 _ (List.getElem_mem hi)
  · exact h

theorem State.advanceEpoch_kept {q : List Instr} (s : State) (reason : Nat) (detail : Nat) (h : Kept q s) :
    Kept q (State.advanceEpoch s reason detail) := by
  unfold State.advanceEpoch
  repeat' first
    | with_reducible assumption
    | with_reducible exact fun h => h
    | exact fun _ => rfl
    | intro _
    | with_reducible apply State.setFld_kept
    | with_reducible apply State.seedCut_kept
    | with_reducible apply State.cutBurst_kept
    | with_reducible apply State.settleRings_kept
    | with_reducible apply State.endGateway_kept
    | with_reducible apply State.epochEvent_kept
    | with_reducible apply Kept.each
    | with_reducible apply Kept.ite
    | fail_if_no_progress with_reducible apply Kept.free
    | fail_if_no_progress (with_reducible refine Kept.updRegs ?_ (fun hk => ?_)) <;> try with_reducible exact hk.regs
    | fail_if_no_progress (with_reducible refine Kept.updDict ?_ (fun hk => DictOk.upd hk.dict ?_)) <;> try first | with_reducible rfl | with_reducible exact fun h => h
    | fail_if_no_progress (with_reducible refine Kept.updSd ?_ (fun hk => ?_)) <;> try with_reducible exact hk.sd
    | fail_if_no_progress (with_reducible refine Kept.updSatchel ?_ (fun hk => ?_)) <;> try with_reducible exact hk.satchel
    | with_reducible rfl
    | with_reducible exact List.length_map _
    | with_reducible refine Kept.groupsEq (q := q) ?_ ‹_›
    | split
    | (with_reducible apply Kept.free); split

theorem State.portFault_kept {q : List Instr} (s : State) (p : Nat) (reason : Nat) (detail : Nat) (h : Kept q s) :
    Kept q (State.portFault s p reason detail) := by
  unfold State.portFault
  repeat' first
    | with_reducible assumption
    | with_reducible exact fun h => h
    | exact fun _ => rfl
    | intro _
    | with_reducible apply State.advanceEpoch_kept
    | fail_if_no_progress with_reducible apply Kept.free
    | fail_if_no_progress (with_reducible refine Kept.updRegs ?_ (fun hk => ?_)) <;> try with_reducible exact hk.regs
    | fail_if_no_progress (with_reducible refine Kept.updSd ?_ (fun hk => ?_)) <;> try with_reducible exact hk.sd
    | fail_if_no_progress (with_reducible refine Kept.updSatchel ?_ (fun hk => ?_)) <;> try with_reducible exact hk.satchel
    | with_reducible rfl
    | split
    | (with_reducible apply Kept.free); split

end Sys2Proof.Machine
end

