-- ==== Sys2Proof/Laws/KeptResetCore.lean ====
section
/-!
SUPPORT. What every operation of Machine/ResetCore.lean keeps (Laws/Kept.lean).
-/
namespace Sys2Proof.Machine

set_option linter.unusedTactic false
set_option linter.unreachableTactic false

theorem State.revokeAll_kept {q : List Instr} (s : State) (h : Kept q s) :
    Kept q (State.revokeAll s) := by
  unfold State.revokeAll
  repeat' first
    | with_reducible assumption
    | with_reducible exact fun h => h
    | exact fun _ => rfl
    | intro _
    | with_reducible apply State.setFld_kept
    | with_reducible apply Kept.each
    | fail_if_no_progress with_reducible apply Kept.free
    | fail_if_no_progress (with_reducible refine Kept.updRegs ?_ (fun hk => ?_)) <;> try with_reducible exact hk.regs
    | fail_if_no_progress (with_reducible refine Kept.updDup ?_ (fun hk => DupOk.upd hk.dup ?_ ?_)) <;> try first | with_reducible rfl | with_reducible exact fun h => h
    | fail_if_no_progress (with_reducible refine Kept.updSd ?_ (fun hk => ?_)) <;> try with_reducible exact hk.sd
    | fail_if_no_progress (with_reducible refine Kept.updSatchel ?_ (fun hk => ?_)) <;> try with_reducible exact hk.satchel
    | with_reducible rfl
    | with_reducible exact List.length_map _
    | with_reducible refine Kept.votersEq (q := q) ?_ ‹_›
    | with_reducible refine Kept.slotsDEq (q := q) ?_ ‹_›
    | exact hk.dup.1.symm
    | exact hk.dup.2.symm
    | split
    | (with_reducible apply Kept.free); split

theorem State.program_kept {q : List Instr} (s : State) (cmd : Nat) (v : Nat) (h : Kept q s) :
    Kept q (State.program s cmd v) := by
  unfold State.program
  repeat' first
    | with_reducible assumption
    | with_reducible exact fun h => h
    | exact fun _ => rfl
    | intro _
    | with_reducible apply State.setFld_kept
    | fail_if_no_progress with_reducible apply Kept.free
    | fail_if_no_progress (with_reducible refine Kept.updRegs ?_ (fun hk => ?_)) <;> try with_reducible exact hk.regs
    | fail_if_no_progress (with_reducible refine Kept.updSd ?_ (fun hk => ?_)) <;> try with_reducible exact hk.sd
    | fail_if_no_progress (with_reducible refine Kept.updSatchel ?_ (fun hk => ?_)) <;> try with_reducible exact hk.satchel
    | with_reducible rfl
    | split
    | (with_reducible apply Kept.free); split

theorem State.cutSecCommand_kept {q : List Instr} (s : State) (h : Kept q s) :
    Kept q (State.cutSecCommand s) := by
  unfold State.cutSecCommand
  repeat' first
    | with_reducible assumption
    | with_reducible exact fun h => h
    | exact fun _ => rfl
    | intro _
    | with_reducible apply State.fresh_kept
    | (with_reducible refine Kept.snd ?_ (by assumption)); with_reducible apply State.fresh_kept
    | with_reducible apply State.program_kept
    | with_reducible apply State.setFld_kept
    | with_reducible apply Kept.ite
    | fail_if_no_progress with_reducible apply Kept.free
    | fail_if_no_progress (with_reducible refine Kept.updRegs ?_ (fun hk => ?_)) <;> try with_reducible exact hk.regs
    | fail_if_no_progress (with_reducible refine Kept.updSd ?_ (fun hk => ?_)) <;> try with_reducible exact hk.sd
    | fail_if_no_progress (with_reducible refine Kept.updSatchel ?_ (fun hk => ?_)) <;> try with_reducible exact hk.satchel
    | with_reducible rfl
    | split
    | (with_reducible apply Kept.free); split

theorem State.loseItcm_kept {q : List Instr} (s : State) (h : Kept q s) :
    Kept q (State.loseItcm s) := by
  unfold State.loseItcm
  repeat' first
    | with_reducible assumption
    | with_reducible exact fun h => h
    | exact fun _ => rfl
    | with_reducible exact SMap.wf_filter _
    | with_reducible refine Kept.itcmWf (q := q) ?_
    | with_reducible refine Kept.dtcmWf (q := q) ?_
    | intro _
    | fail_if_no_progress with_reducible apply Kept.free
    | fail_if_no_progress (with_reducible refine Kept.updRegs ?_ (fun hk => ?_)) <;> try with_reducible exact hk.regs
    | fail_if_no_progress (with_reducible refine Kept.updTut ?_ (fun hk => TutOk.upd hk.tut ?_ ?_ ?_ ?_ ?_ ?_ ?_ ?_)) <;> try first | with_reducible rfl | with_reducible exact fun h => h
    | fail_if_no_progress (with_reducible refine Kept.updSd ?_ (fun hk => ?_)) <;> try with_reducible exact hk.sd
    | fail_if_no_progress (with_reducible refine Kept.updSatchel ?_ (fun hk => ?_)) <;> try with_reducible exact hk.satchel
    | with_reducible rfl
    | with_reducible refine Kept.mtcmpEq (q := q) ?_ ‹_›
    | with_reducible refine Kept.mtcmpHoldEq (q := q) ?_ ‹_›
    | with_reducible refine Kept.enteredEq (q := q) ?_ ‹_›
    | with_reducible refine Kept.lrEq (q := q) ?_ ‹_›
    | with_reducible refine Kept.mcauseEq (q := q) ?_ ‹_›
    | with_reducible refine Kept.mtvalEq (q := q) ?_ ‹_›
    | split
    | (with_reducible apply Kept.free); split

theorem State.tripsReset_kept {q : List Instr} (s : State) (h : Kept q s) :
    Kept q (State.tripsReset s) := by
  unfold State.tripsReset
  repeat' first
    | with_reducible assumption
    | with_reducible exact fun h => h
    | exact fun _ => rfl
    | intro _
    | with_reducible apply State.setFld_kept
    | with_reducible apply Kept.each
    | fail_if_no_progress with_reducible apply Kept.free
    | fail_if_no_progress (with_reducible refine Kept.updRegs ?_ (fun hk => ?_)) <;> try with_reducible exact hk.regs
    | fail_if_no_progress (with_reducible refine Kept.updSd ?_ (fun hk => ?_)) <;> try with_reducible exact hk.sd
    | fail_if_no_progress (with_reducible refine Kept.updTrip ?_ (fun hk => TripOk.upd hk.trip ?_)) <;> try first | with_reducible rfl | with_reducible exact fun h => h
    | fail_if_no_progress (with_reducible refine Kept.updSatchel ?_ (fun hk => ?_)) <;> try with_reducible exact hk.satchel
    | with_reducible rfl
    | with_reducible exact List.length_map _
    | with_reducible refine Kept.chansEq (q := q) ?_ ‹_›
    | split
    | (with_reducible apply Kept.free); split

theorem State.quiesce_kept {q : List Instr} (s : State) (h : Kept q s) :
    Kept q (State.quiesce s) := by
  unfold State.quiesce
  have hk : Kept q (s.each (List.range 12) (fun s n => s.setFld .LE_STAT_RUNNING n 0)) :=
    Kept.each h (fun t ht x => State.setFld_kept t _ _ _ ht)
  revert hk
  generalize s.each (List.range 12) (fun s n => s.setFld .LE_STAT_RUNNING n 0) = t
  intro hk
  exact ⟨hk.pending, hk.regs, hk.satchel, hk.ct, hk.tut,
    EngOk.upd hk.eng id (fun h => EnginesOk.map h (fun _ h => h)) rfl, hk.sd, hk.trip, ⟨rfl, rfl⟩, hk.sar, hk.dup, hk.dict,
    hk.bur⟩

theorem State.startReset_kept {q : List Instr} (s : State) (cause : Nat) (h : Kept q s) :
    Kept q (State.startReset s cause) := by
  unfold State.startReset
  repeat' first
    | with_reducible assumption
    | with_reducible exact fun h => h
    | exact fun _ => rfl
    | intro _
    | with_reducible apply State.tripsReset_kept
    | with_reducible apply State.quiesce_kept
    | with_reducible apply State.cutSecCommand_kept
    | with_reducible apply State.revokeAll_kept
    | with_reducible apply State.advanceEpoch_kept
    | with_reducible apply State.loseItcm_kept
    | with_reducible apply Kept.whenIf
    | fail_if_no_progress with_reducible apply Kept.free
    | fail_if_no_progress (with_reducible refine Kept.updRegs ?_ (fun hk => ?_)) <;> try with_reducible exact hk.regs
    | fail_if_no_progress (with_reducible refine Kept.updSd ?_ (fun hk => ?_)) <;> try with_reducible exact hk.sd
    | fail_if_no_progress (with_reducible refine Kept.updSatchel ?_ (fun hk => ?_)) <;> try with_reducible exact hk.satchel
    | with_reducible rfl
    | split
    | (with_reducible apply Kept.free); split

end Sys2Proof.Machine
end

