-- ==== Sys2Proof/Laws/KeptBalls.lean ====
section
/-!
SUPPORT. What every operation of Machine/Balls.lean keeps (Laws/Kept.lean).
-/
namespace Sys2Proof.Machine

set_option linter.unusedTactic false
set_option linter.unreachableTactic false

theorem State.openBall_kept {q : List Instr} (s : State) (detail : Nat) (bit : Nat) (known : Nat) (h : Kept q s) :
    Kept q (State.openBall s detail bit known) := by
  unfold State.openBall
  repeat' first
    | with_reducible assumption
    | with_reducible exact fun h => h
    | exact fun _ => rfl
    | with_reducible refine Kept.sramWf (q := q) ?_
    | intro _
    | with_reducible apply State.event_kept
    | with_reducible apply State.consumeSpare_kept
    | with_reducible apply Kept.whenIf
    | with_reducible apply Kept.ite
    | fail_if_no_progress with_reducible apply Kept.free
    | fail_if_no_progress (with_reducible refine Kept.updRegs ?_ (fun hk => ?_)) <;> try with_reducible exact hk.regs
    | fail_if_no_progress (with_reducible refine Kept.updSd ?_ (fun hk => ?_)) <;> try with_reducible exact hk.sd
    | fail_if_no_progress (with_reducible refine Kept.updSatchel ?_ (fun hk => ?_)) <;> try with_reducible exact hk.satchel
    | fail_if_no_progress (with_reducible refine Kept.updCt ?_ (fun hk => CtOk.upd hk.ct ?_)) <;> try first | with_reducible rfl | with_reducible exact fun h => h
    | with_reducible rfl
    | split
    | (with_reducible apply Kept.free); split

theorem execOpenBallTest_kept {q : List Instr} (ball : DualBall) (changed : Bool) (s : State) (h : Kept q s) :
    KeptOut q (execOpenBallTest ball changed s) := by
  unfold execOpenBallTest
  repeat' first
    | with_reducible assumption
    | with_reducible apply KeptOut.next
    | with_reducible apply KeptOut.ite
    | with_reducible exact fun h => h
    | exact fun _ => rfl
    | with_reducible refine Kept.sramWf (q := q) ?_
    | intro _
    | with_reducible apply State.openBall_kept
    | with_reducible apply State.setBit_kept
    | with_reducible apply Kept.whenIf
    | with_reducible apply Kept.ite
    | fail_if_no_progress with_reducible apply Kept.free
    | fail_if_no_progress (with_reducible refine Kept.updRegs ?_ (fun hk => ?_)) <;> try with_reducible exact hk.regs
    | fail_if_no_progress (with_reducible refine Kept.updSd ?_ (fun hk => ?_)) <;> try with_reducible exact hk.sd
    | fail_if_no_progress (with_reducible refine Kept.updSatchel ?_ (fun hk => ?_)) <;> try with_reducible exact hk.satchel
    | fail_if_no_progress (with_reducible refine Kept.updCt ?_ (fun hk => CtOk.upd hk.ct ?_)) <;> try first | with_reducible rfl | with_reducible exact fun h => h
    | with_reducible rfl
    | split
    | dsimp only; split

theorem State.groupBallOpen_kept {q : List Instr} (s : State) (which : Nat) (ball : Nat) (h : Kept q s) :
    Kept q (State.groupBallOpen s which ball) := by
  unfold State.groupBallOpen
  repeat' first
    | with_reducible assumption
    | with_reducible exact fun h => h
    | exact fun _ => rfl
    | with_reducible refine Kept.sramWf (q := q) ?_
    | intro _
    | with_reducible apply State.setFld_kept
    | with_reducible apply State.event_kept
    | with_reducible apply State.consumeSpare_kept
    | with_reducible apply Kept.whenIf
    | with_reducible apply Kept.ite
    | fail_if_no_progress with_reducible apply Kept.free
    | fail_if_no_progress (with_reducible refine Kept.updRegs ?_ (fun hk => ?_)) <;> try with_reducible exact hk.regs
    | fail_if_no_progress (with_reducible refine Kept.updSd ?_ (fun hk => ?_)) <;> try with_reducible exact hk.sd
    | fail_if_no_progress (with_reducible refine Kept.updSatchel ?_ (fun hk => ?_)) <;> try with_reducible exact hk.satchel
    | fail_if_no_progress (with_reducible refine Kept.updCt ?_ (fun hk => CtOk.upd hk.ct ?_)) <;> try first | with_reducible rfl | with_reducible exact fun h => h
    | with_reducible rfl
    | with_reducible exact List.length_set
    | with_reducible exact List.length_set.trans List.length_set
    | exact List.length_set
    | split
    | (with_reducible apply Kept.free); split

theorem execSupplyBallOpen_kept {q : List Instr} (group : BallGroup) (amps : List Nat) (s : State) (h : Kept q s) :
    KeptOut q (execSupplyBallOpen group amps s) := by
  unfold execSupplyBallOpen
  repeat' first
    | with_reducible assumption
    | with_reducible apply KeptOut.next
    | intro _
    | with_reducible apply State.setBit_kept
    | with_reducible apply State.groupBallOpen_kept
    | with_reducible apply State.openBall_kept
    | with_reducible apply Kept.whenIf
    | with_reducible apply Kept.each
    | split
    | dsimp only; split

theorem execIoBankChange_kept {q : List Instr} (bank : Nat) (code : Nat) (s : State) (h : Kept q s) :
    KeptOut q (execIoBankChange bank code s) := by
  unfold execIoBankChange
  repeat' first
    | with_reducible assumption
    | with_reducible apply KeptOut.next
    | with_reducible apply KeptOut.ite
    | intro _
    | with_reducible apply State.setFld_kept
    | with_reducible apply State.event_kept
    | with_reducible apply State.setBit_kept
    | with_reducible apply Kept.ite
    | split
    | dsimp only; split

end Sys2Proof.Machine
end

