-- ==== Sys2Proof/Laws/KeptSupply.lean ====
section
/-!
SUPPORT. What every operation of Machine/Supply.lean keeps (Laws/Kept.lean).
-/
namespace Sys2Proof.Machine

set_option linter.unusedTactic false
set_option linter.unreachableTactic false

theorem State.losePd0_kept {q : List Instr} (s : State) (h : Kept q s) :
    Kept q (State.losePd0 s) := by
  unfold State.losePd0
  refine State.setFld_kept _ _ _ _ ⟨h.pending, ?_, h.satchel, rfl, h.tut, h.eng, h.sd, h.trip, h.pwm, h.sar, h.dup, h.dict,
    ⟨h.bur.1, rfl⟩⟩
  exact RegsOk.filter h.regs (fun n => !((pd0Fields.filter (fun f => !pinFields.contains f)).map Fld.ctorIdx).contains n)

theorem State.droop_kept {q : List Instr} (s : State) (h : Kept q s) :
    Kept q (State.droop s) := by
  unfold State.droop
  repeat' first
    | with_reducible assumption
    | intro _
    | with_reducible apply State.startReset_kept
    | with_reducible apply State.count_kept
    | split
    | (with_reducible apply Kept.free); split

theorem execVcoreDroop_kept {q : List Instr} (byVcore : Bool) (s : State) (h : Kept q s) :
    KeptOut q (execVcoreDroop byVcore s) := by
  unfold execVcoreDroop
  repeat' first
    | with_reducible assumption
    | with_reducible apply KeptOut.next
    | with_reducible apply KeptOut.ite
    | with_reducible exact fun h => h
    | exact fun _ => rfl
    | with_reducible refine Kept.sramWf (q := q) ?_
    | intro _
    | with_reducible apply State.setFld_kept
    | with_reducible apply State.droop_kept
    | with_reducible apply Kept.ite
    | fail_if_no_progress with_reducible apply Kept.free
    | fail_if_no_progress (with_reducible refine Kept.updRegs ?_ (fun hk => ?_)) <;> try with_reducible exact hk.regs
    | fail_if_no_progress (with_reducible refine Kept.updSd ?_ (fun hk => ?_)) <;> try with_reducible exact hk.sd
    | fail_if_no_progress (with_reducible refine Kept.updSatchel ?_ (fun hk => ?_)) <;> try with_reducible exact hk.satchel
    | fail_if_no_progress (with_reducible refine Kept.updCt ?_ (fun hk => CtOk.upd hk.ct ?_)) <;> try first | with_reducible rfl | with_reducible exact fun h => h
    | with_reducible rfl
    | split
    | dsimp only; split

theorem execVanaFail_kept {q : List Instr} (s : State) (h : Kept q s) :
    KeptOut q (execVanaFail s) := by
  unfold execVanaFail
  repeat' first
    | with_reducible assumption
    | with_reducible apply KeptOut.next
    | with_reducible exact fun h => h
    | exact fun _ => rfl
    | with_reducible refine Kept.sramWf (q := q) ?_
    | intro _
    | with_reducible apply State.setFld_kept
    | with_reducible apply State.droop_kept
    | with_reducible apply Kept.whenIf
    | fail_if_no_progress with_reducible apply Kept.free
    | fail_if_no_progress (with_reducible refine Kept.updRegs ?_ (fun hk => ?_)) <;> try with_reducible exact hk.regs
    | fail_if_no_progress (with_reducible refine Kept.updSd ?_ (fun hk => ?_)) <;> try with_reducible exact hk.sd
    | fail_if_no_progress (with_reducible refine Kept.updSatchel ?_ (fun hk => ?_)) <;> try with_reducible exact hk.satchel
    | fail_if_no_progress (with_reducible refine Kept.updCt ?_ (fun hk => CtOk.upd hk.ct ?_)) <;> try first | with_reducible rfl | with_reducible exact fun h => h
    | with_reducible rfl
    | split
    | dsimp only; split

theorem State.theftAbort_kept {q : List Instr} (s : State) (h : Kept q s) :
    Kept q (State.theftAbort s) := by
  unfold State.theftAbort
  repeat' first
    | with_reducible assumption
    | with_reducible exact fun h => h
    | exact fun _ => rfl
    | intro _
    | with_reducible apply State.count_kept
    | with_reducible apply Kept.whenIf
    | fail_if_no_progress with_reducible apply Kept.free
    | fail_if_no_progress (with_reducible refine Kept.updRegs ?_ (fun hk => ?_)) <;> try with_reducible exact hk.regs
    | fail_if_no_progress (with_reducible refine Kept.updSd ?_ (fun hk => ?_)) <;> try with_reducible exact hk.sd
    | fail_if_no_progress (with_reducible refine Kept.updBur ?_ (fun hk => BurOk.upd hk.bur ?_ ?_)) <;> try first | with_reducible rfl | with_reducible exact fun h => h
    | fail_if_no_progress (with_reducible refine Kept.updSatchel ?_ (fun hk => ?_)) <;> try with_reducible exact hk.satchel
    | with_reducible rfl
    | with_reducible refine Kept.pointsEq (q := q) ?_ ‹_›
    | with_reducible refine Kept.accsEq (q := q) ?_ ‹_›
    | split
    | (with_reducible apply Kept.free); split

theorem State.settlePaths_kept {q : List Instr} (s : State) (h : Kept q s) :
    Kept q (State.settlePaths s) := by
  unfold State.settlePaths
  repeat' first
    | with_reducible assumption
    | with_reducible exact fun h => h
    | exact fun _ => rfl
    | with_reducible refine Kept.sramWf (q := q) ?_
    | intro _
    | with_reducible apply State.setFlag_kept
    | fail_if_no_progress with_reducible apply Kept.free
    | fail_if_no_progress (with_reducible refine Kept.updRegs ?_ (fun hk => ?_)) <;> try with_reducible exact hk.regs
    | fail_if_no_progress (with_reducible refine Kept.updSd ?_ (fun hk => ?_)) <;> try with_reducible exact hk.sd
    | fail_if_no_progress (with_reducible refine Kept.updSatchel ?_ (fun hk => ?_)) <;> try with_reducible exact hk.satchel
    | fail_if_no_progress (with_reducible refine Kept.updCt ?_ (fun hk => CtOk.upd hk.ct ?_)) <;> try first | with_reducible rfl | with_reducible exact fun h => h
    | with_reducible rfl
    | split
    | (with_reducible apply Kept.free); split

theorem execMainSupplyGood_kept {q : List Instr} (s : State) (h : Kept q s) :
    KeptOut q (execMainSupplyGood s) := by
  unfold execMainSupplyGood
  repeat' first
    | with_reducible assumption
    | with_reducible apply KeptOut.next
    | with_reducible exact fun h => h
    | exact fun _ => rfl
    | with_reducible refine Kept.sramWf (q := q) ?_
    | intro _
    | with_reducible apply State.theftAbort_kept
    | with_reducible apply State.setFld_kept
    | with_reducible apply Kept.whenIf
    | fail_if_no_progress with_reducible apply Kept.free
    | fail_if_no_progress (with_reducible refine Kept.updRegs ?_ (fun hk => ?_)) <;> try with_reducible exact hk.regs
    | fail_if_no_progress (with_reducible refine Kept.updSd ?_ (fun hk => ?_)) <;> try with_reducible exact hk.sd
    | fail_if_no_progress (with_reducible refine Kept.updSatchel ?_ (fun hk => ?_)) <;> try with_reducible exact hk.satchel
    | fail_if_no_progress (with_reducible refine Kept.updCt ?_ (fun hk => CtOk.upd hk.ct ?_)) <;> try first | with_reducible rfl | with_reducible exact fun h => h
    | with_reducible rfl
    | split
    | dsimp only; split

theorem execVanaGood_kept {q : List Instr} (s : State) (h : Kept q s) :
    KeptOut q (execVanaGood s) := by
  unfold execVanaGood
  repeat' first
    | with_reducible assumption
    | with_reducible apply KeptOut.next
    | intro _
    | with_reducible apply State.setFld_kept
    | with_reducible apply State.theftAbort_kept
    | with_reducible apply State.setFlag_kept
    | with_reducible apply Kept.whenIf
    | split
    | dsimp only; split

theorem execCaretakerStart_kept {q : List Instr} (s : State) (h : Kept q s) :
    KeptOut q (execCaretakerStart s) := by
  unfold execCaretakerStart
  repeat' first
    | with_reducible assumption
    | with_reducible apply KeptOut.next
    | with_reducible apply KeptOut.ite
    | with_reducible exact fun h => h
    | exact fun _ => rfl
    | with_reducible refine Kept.sramWf (q := q) ?_
    | intro _
    | with_reducible apply State.losePd0_kept
    | with_reducible apply Kept.ite
    | fail_if_no_progress with_reducible apply Kept.free
    | fail_if_no_progress (with_reducible refine Kept.updRegs ?_ (fun hk => ?_)) <;> try with_reducible exact hk.regs
    | fail_if_no_progress (with_reducible refine Kept.updSd ?_ (fun hk => ?_)) <;> try with_reducible exact hk.sd
    | fail_if_no_progress (with_reducible refine Kept.updSatchel ?_ (fun hk => ?_)) <;> try with_reducible exact hk.satchel
    | fail_if_no_progress (with_reducible refine Kept.updCt ?_ (fun hk => CtOk.upd hk.ct ?_)) <;> try first | with_reducible rfl | with_reducible exact fun h => h
    | with_reducible rfl
    | split
    | dsimp only; split

theorem execCaretakerStop_kept {q : List Instr} (s : State) (h : Kept q s) :
    KeptOut q (execCaretakerStop s) := by
  unfold execCaretakerStop
  repeat' first
    | with_reducible assumption
    | with_reducible apply KeptOut.next
    | with_reducible apply KeptOut.ite
    | with_reducible exact fun h => h
    | exact fun _ => rfl
    | with_reducible refine Kept.sramWf (q := q) ?_
    | intro _
    | with_reducible apply State.losePd0_kept
    | with_reducible apply Kept.ite
    | fail_if_no_progress with_reducible apply Kept.free
    | fail_if_no_progress (with_reducible refine Kept.updRegs ?_ (fun hk => ?_)) <;> try with_reducible exact hk.regs
    | fail_if_no_progress (with_reducible refine Kept.updSd ?_ (fun hk => ?_)) <;> try with_reducible exact hk.sd
    | fail_if_no_progress (with_reducible refine Kept.updSatchel ?_ (fun hk => ?_)) <;> try with_reducible exact hk.satchel
    | fail_if_no_progress (with_reducible refine Kept.updCt ?_ (fun hk => CtOk.upd hk.ct ?_)) <;> try first | with_reducible rfl | with_reducible exact fun h => h
    | with_reducible rfl
    | split
    | dsimp only; split

theorem State.storeFault_kept {q : List Instr} (s : State) (h : Kept q s) :
    Kept q (State.storeFault s) := by
  unfold State.storeFault
  repeat' first
    | with_reducible assumption
    | intro _
    | with_reducible apply State.supplyEvent_kept
    | with_reducible apply State.setFld_kept
    | with_reducible apply Kept.ite
    | split
    | (with_reducible apply Kept.free); split

theorem execStoreFault_kept {q : List Instr} (s : State) (h : Kept q s) :
    KeptOut q (execStoreFault s) := by
  unfold execStoreFault
  repeat' first
    | with_reducible assumption
    | with_reducible apply KeptOut.next
    | intro _
    | with_reducible apply State.storeFault_kept
    | split
    | dsimp only; split

theorem State.losePd_kept {q : List Instr} (s : State) (w : Wing) (h : Kept q s) :
    Kept q (State.losePd s w) := by
  unfold State.losePd
  have hk : Kept q (s.each ((List.range 12).filter (fun n => n / 6 == w.num)) (fun s n => s.setFld .LE_STAT_RUNNING n 0)) :=
    Kept.each h (fun t ht x => State.setFld_kept t _ _ _ ht)
  revert hk
  dsimp only
  generalize s.each ((List.range 12).filter (fun n => n / 6 == w.num)) (fun s n => s.setFld .LE_STAT_RUNNING n 0) = t
  intro hk
  refine ⟨hk.pending, hk.regs, hk.satchel, hk.ct, ?_, ?_, hk.sd, hk.trip, hk.pwm, hk.sar, hk.dup, hk.dict, hk.bur⟩
  · refine TutOk.upd hk.tut rfl rfl rfl ?_ rfl rfl (SMap.wf_filter _) (SMap.wf_filter _)
    rw [List.length_map, List.length_zipIdx]
  · refine EngOk.upd hk.eng (SMap.wf_filter _) (fun h => ?_) rfl
    refine ⟨by rw [List.length_map, List.length_zipIdx]; exact h.1, fun x hx => ?_⟩
    obtain ⟨e, he, rfl⟩ := List.mem_map.1 hx
    split
    · exact ⟨rfl, rfl⟩
    · exact h.2 _ (List.fst_mem_of_mem_zipIdx he)

theorem State.openSwitch_kept {q : List Instr} (s : State) (w : Wing) (h : Kept q s) :
    Kept q (State.openSwitch s w) := by
  unfold State.openSwitch
  repeat' first
    | with_reducible assumption
    | with_reducible exact fun h => h
    | exact fun _ => rfl
    | intro _
    | with_reducible apply State.losePd_kept
    | with_reducible apply State.setFld_kept
    | with_reducible apply State.setWing_kept
    | with_reducible apply State.standbyReserve_kept
    | fail_if_no_progress with_reducible apply Kept.free
    | fail_if_no_progress (with_reducible refine Kept.updRegs ?_ (fun hk => ?_)) <;> try with_reducible exact hk.regs
    | fail_if_no_progress (with_reducible refine Kept.updSd ?_ (fun hk => ?_)) <;> try with_reducible exact hk.sd
    | fail_if_no_progress (with_reducible refine Kept.updSatchel ?_ (fun hk => ?_)) <;> try with_reducible exact hk.satchel
    | with_reducible rfl
    | split
    | (with_reducible apply Kept.free); split

theorem State.driveSwitch_kept {q : List Instr} (s : State) (w : Wing) (on : Bool) (h : Kept q s) :
    Kept q (State.driveSwitch s w on) := by
  unfold State.driveSwitch
  repeat' first
    | with_reducible assumption
    | intro _
    | with_reducible apply State.openSwitch_kept
    | with_reducible apply State.setFld_kept
    | with_reducible apply Kept.ite
    | split
    | (with_reducible apply Kept.free); split

theorem State.pwrSwWrite_kept {q : List Instr} (s : State) (pd1 : Bool) (pd2 : Bool) (clr1 : Bool) (clr2 : Bool) (h : Kept
    q s) :
    Kept q (State.pwrSwWrite s pd1 pd2 clr1 clr2) := by
  unfold State.pwrSwWrite
  repeat' first
    | with_reducible assumption
    | intro _
    | with_reducible apply State.discarded_kept
    | with_reducible apply State.setFld_kept
    | with_reducible apply State.driveSwitch_kept
    | with_reducible apply Kept.whenIf
    | with_reducible apply Kept.ite
    | split
    | (with_reducible apply Kept.free); split

theorem execPwrSwWrite_kept {q : List Instr} (core : Nat) (pd1 : Bool) (pd2 : Bool) (clr1 : Bool) (clr2 : Bool) (s : State)
    (h : Kept q s) :
    KeptOut q (execPwrSwWrite core pd1 pd2 clr1 clr2 s) := by
  unfold execPwrSwWrite
  repeat' first
    | with_reducible assumption
    | with_reducible apply KeptOut.next
    | intro _
    | with_reducible apply State.accessBlk_kept
    | with_reducible apply State.pwrSwWrite_kept
    | split
    | dsimp only; split

theorem execWingPowerGood_kept {q : List Instr} (w : Wing) (s : State) (h : Kept q s) :
    KeptOut q (execWingPowerGood w s) := by
  unfold execWingPowerGood
  repeat' first
    | with_reducible assumption
    | with_reducible apply KeptOut.next
    | with_reducible apply KeptOut.ite
    | with_reducible exact fun h => h
    | exact fun _ => rfl
    | intro _
    | with_reducible apply State.setWing_kept
    | with_reducible apply State.setFld_kept
    | with_reducible apply Kept.ite
    | fail_if_no_progress with_reducible apply Kept.free
    | fail_if_no_progress (with_reducible refine Kept.updRegs ?_ (fun hk => ?_)) <;> try with_reducible exact hk.regs
    | fail_if_no_progress (with_reducible refine Kept.updSd ?_ (fun hk => ?_)) <;> try with_reducible exact hk.sd
    | fail_if_no_progress (with_reducible refine Kept.updSatchel ?_ (fun hk => ?_)) <;> try with_reducible exact hk.satchel
    | with_reducible rfl
    | split
    | dsimp only; split

theorem execSwitchOvercurrent_kept {q : List Instr} (pd : Nat) (s : State) (h : Kept q s) :
    KeptOut q (execSwitchOvercurrent pd s) := by
  unfold execSwitchOvercurrent
  repeat' first
    | with_reducible assumption
    | with_reducible apply KeptOut.next
    | with_reducible exact fun h => h
    | exact fun _ => rfl
    | with_reducible refine Kept.sramWf (q := q) ?_
    | intro _
    | with_reducible apply State.supplyEvent_kept
    | with_reducible apply State.setFld_kept
    | with_reducible apply State.openSwitch_kept
    | with_reducible apply State.droop_kept
    | with_reducible apply State.advanceEpoch_kept
    | fail_if_no_progress with_reducible apply Kept.free
    | fail_if_no_progress (with_reducible refine Kept.updRegs ?_ (fun hk => ?_)) <;> try with_reducible exact hk.regs
    | fail_if_no_progress (with_reducible refine Kept.updSd ?_ (fun hk => ?_)) <;> try with_reducible exact hk.sd
    | fail_if_no_progress (with_reducible refine Kept.updSatchel ?_ (fun hk => ?_)) <;> try with_reducible exact hk.satchel
    | fail_if_no_progress (with_reducible refine Kept.updCt ?_ (fun hk => CtOk.upd hk.ct ?_)) <;> try first | with_reducible rfl | with_reducible exact fun h => h
    | with_reducible rfl
    | split
    | dsimp only; split

theorem execHarvestStateChange_kept {q : List Instr} (delivering : Bool) (setFault : Bool) (s : State) (h : Kept q s) :
    KeptOut q (execHarvestStateChange delivering setFault s) := by
  unfold execHarvestStateChange
  repeat' first
    | with_reducible assumption
    | with_reducible apply KeptOut.next
    | with_reducible exact fun h => h
    | exact fun _ => rfl
    | with_reducible refine Kept.sramWf (q := q) ?_
    | intro _
    | with_reducible apply State.setFlag_kept
    | with_reducible apply State.settlePaths_kept
    | fail_if_no_progress with_reducible apply Kept.free
    | fail_if_no_progress (with_reducible refine Kept.updRegs ?_ (fun hk => ?_)) <;> try with_reducible exact hk.regs
    | fail_if_no_progress (with_reducible refine Kept.updSd ?_ (fun hk => ?_)) <;> try with_reducible exact hk.sd
    | fail_if_no_progress (with_reducible refine Kept.updSatchel ?_ (fun hk => ?_)) <;> try with_reducible exact hk.satchel
    | fail_if_no_progress (with_reducible refine Kept.updCt ?_ (fun hk => CtOk.upd hk.ct ?_)) <;> try first | with_reducible rfl | with_reducible exact fun h => h
    | with_reducible rfl
    | split
    | dsimp only; split

theorem execCellPathOn_kept {q : List Instr} (s : State) (h : Kept q s) :
    KeptOut q (execCellPathOn s) := by
  unfold execCellPathOn
  repeat' first
    | with_reducible assumption
    | with_reducible apply KeptOut.next
    | with_reducible apply KeptOut.ite
    | with_reducible exact fun h => h
    | exact fun _ => rfl
    | with_reducible refine Kept.sramWf (q := q) ?_
    | intro _
    | with_reducible apply State.setFld_kept
    | with_reducible apply Kept.ite
    | fail_if_no_progress with_reducible apply Kept.free
    | fail_if_no_progress (with_reducible refine Kept.updRegs ?_ (fun hk => ?_)) <;> try with_reducible exact hk.regs
    | fail_if_no_progress (with_reducible refine Kept.updSd ?_ (fun hk => ?_)) <;> try with_reducible exact hk.sd
    | fail_if_no_progress (with_reducible refine Kept.updSatchel ?_ (fun hk => ?_)) <;> try with_reducible exact hk.satchel
    | fail_if_no_progress (with_reducible refine Kept.updCt ?_ (fun hk => CtOk.upd hk.ct ?_)) <;> try first | with_reducible rfl | with_reducible exact fun h => h
    | with_reducible rfl
    | split
    | dsimp only; split

theorem execCellPathOff_kept {q : List Instr} (s : State) (h : Kept q s) :
    KeptOut q (execCellPathOff s) := by
  unfold execCellPathOff
  repeat' first
    | with_reducible assumption
    | with_reducible apply KeptOut.next
    | intro _
    | with_reducible apply State.setFld_kept
    | split
    | dsimp only; split

theorem execCellRemoved_kept {q : List Instr} (s : State) (h : Kept q s) :
    KeptOut q (execCellRemoved s) := by
  unfold execCellRemoved
  repeat' first
    | with_reducible assumption
    | with_reducible apply KeptOut.next
    | intro _
    | with_reducible apply State.supplyEvent_kept
    | with_reducible apply State.setFld_kept
    | split
    | dsimp only; split

theorem execCellInserted_kept {q : List Instr} (s : State) (h : Kept q s) :
    KeptOut q (execCellInserted s) := by
  unfold execCellInserted
  repeat' first
    | with_reducible assumption
    | with_reducible apply KeptOut.next
    | intro _
    | with_reducible apply State.setFld_kept
    | split
    | dsimp only; split

theorem execStoreCeilingReached_kept {q : List Instr} (s : State) (h : Kept q s) :
    KeptOut q (execStoreCeilingReached s) := by
  unfold execStoreCeilingReached
  repeat' first
    | with_reducible assumption
    | with_reducible apply KeptOut.next
    | intro _
    | with_reducible apply State.setFld_kept
    | split
    | dsimp only; split

theorem execStoreCapMeasured_kept {q : List Instr} (dtMs : Nat) (s : State) (h : Kept q s) :
    KeptOut q (execStoreCapMeasured dtMs s) := by
  unfold execStoreCapMeasured
  repeat' first
    | with_reducible assumption
    | with_reducible apply KeptOut.next
    | intro _
    | with_reducible apply State.setFld_kept
    | with_reducible apply Kept.whenIf
    | split
    | dsimp only; split

theorem State.pwrCellWrite_kept {q : List Instr} (s : State) (on : Nat) (off : Nat) (low : Nat) (ilim : Nat) (h : Kept q s) :
    Kept q (State.pwrCellWrite s on off low ilim) := by
  unfold State.pwrCellWrite
  repeat' first
    | with_reducible assumption
    | intro _
    | with_reducible apply State.discarded_kept
    | with_reducible apply State.setFld_kept
    | with_reducible apply Kept.ite
    | split
    | (with_reducible apply Kept.free); split

theorem execPwrCellWrite_kept {q : List Instr} (core : Nat) (on : Nat) (off : Nat) (low : Nat) (ilim : Nat) (s : State) (h
    : Kept q s) :
    KeptOut q (execPwrCellWrite core on off low ilim s) := by
  unfold execPwrCellWrite
  repeat' first
    | with_reducible assumption
    | with_reducible apply KeptOut.next
    | intro _
    | with_reducible apply State.accessBlk_kept
    | with_reducible apply State.pwrCellWrite_kept
    | split
    | dsimp only; split

theorem State.writeFinal_kept {q : List Instr} (s : State) (h : Kept q s) :
    Kept q (State.writeFinal s) := by
  unfold State.writeFinal
  repeat' first
    | with_reducible assumption
    | with_reducible exact fun h => h
    | exact fun _ => rfl
    | with_reducible refine Kept.sramWf (q := q) ?_
    | intro _
    | with_reducible apply State.setFld_kept
    | fail_if_no_progress with_reducible apply Kept.free
    | fail_if_no_progress (with_reducible refine Kept.updRegs ?_ (fun hk => ?_)) <;> try with_reducible exact hk.regs
    | fail_if_no_progress (with_reducible refine Kept.updSd ?_ (fun hk => ?_)) <;> try with_reducible exact hk.sd
    | fail_if_no_progress (with_reducible refine Kept.updSatchel ?_ (fun hk => ?_)) <;> try with_reducible exact hk.satchel
    | fail_if_no_progress (with_reducible refine Kept.updCt ?_ (fun hk => CtOk.upd hk.ct ?_)) <;> try first | with_reducible rfl | with_reducible exact fun h => h
    | with_reducible rfl
    | split
    | (with_reducible apply Kept.free); split

theorem State.finalUnprompted_kept {q : List Instr} (s : State) (h : Kept q s) :
    Kept q (State.finalUnprompted s) := by
  unfold State.finalUnprompted
  repeat' first
    | with_reducible assumption
    | with_reducible exact fun h => h
    | exact fun _ => rfl
    | with_reducible refine Kept.sramWf (q := q) ?_
    | intro _
    | with_reducible apply State.writeFinal_kept
    | with_reducible apply State.count_kept
    | with_reducible apply Kept.ite
    | fail_if_no_progress with_reducible apply Kept.free
    | fail_if_no_progress (with_reducible refine Kept.updRegs ?_ (fun hk => ?_)) <;> try with_reducible exact hk.regs
    | fail_if_no_progress (with_reducible refine Kept.updSd ?_ (fun hk => ?_)) <;> try with_reducible exact hk.sd
    | fail_if_no_progress (with_reducible refine Kept.updSatchel ?_ (fun hk => ?_)) <;> try with_reducible exact hk.satchel
    | fail_if_no_progress (with_reducible refine Kept.updCt ?_ (fun hk => CtOk.upd hk.ct ?_)) <;> try first | with_reducible rfl | with_reducible exact fun h => h
    | with_reducible rfl
    | split
    | (with_reducible apply Kept.free); split

theorem State.gaugeSample_kept {q : List Instr} (vstore : Nat) (vcell : Nat) (used : Nat) (s : State) (h : Kept q s) :
    Kept q (State.gaugeSample vstore vcell used s) := by
  unfold State.gaugeSample
  repeat' first
    | with_reducible assumption
    | with_reducible exact fun h => h
    | exact fun _ => rfl
    | with_reducible refine Kept.sramWf (q := q) ?_
    | intro _
    | with_reducible apply State.setFld_kept
    | with_reducible apply State.setFlag_kept
    | with_reducible apply State.settlePaths_kept
    | with_reducible apply State.storeFault_kept
    | with_reducible apply State.finalUnprompted_kept
    | with_reducible apply Kept.whenIf
    | with_reducible apply Kept.ite
    | fail_if_no_progress with_reducible apply Kept.free
    | fail_if_no_progress (with_reducible refine Kept.updRegs ?_ (fun hk => ?_)) <;> try with_reducible exact hk.regs
    | fail_if_no_progress (with_reducible refine Kept.updSd ?_ (fun hk => ?_)) <;> try with_reducible exact hk.sd
    | fail_if_no_progress (with_reducible refine Kept.updSatchel ?_ (fun hk => ?_)) <;> try with_reducible exact hk.satchel
    | fail_if_no_progress (with_reducible refine Kept.updCt ?_ (fun hk => CtOk.upd hk.ct ?_)) <;> try first | with_reducible rfl | with_reducible exact fun h => h
    | with_reducible rfl
    | split
    | (with_reducible apply Kept.free); split

theorem State.admitBurst_kept {q : List Instr} (s : State) (classes : List Nat) (byCaretaker : Bool) (h : Kept q s) :
    Kept q (State.admitBurst s classes byCaretaker) := by
  unfold State.admitBurst
  repeat' first
    | with_reducible assumption
    | with_reducible exact fun h => h
    | exact fun _ => rfl
    | with_reducible refine Kept.sramWf (q := q) ?_
    | intro _
    | with_reducible apply State.supplyEvent_kept
    | with_reducible apply State.setFld_kept
    | with_reducible apply State.writeFinal_kept
    | with_reducible apply Kept.whenIf
    | with_reducible apply Kept.ite
    | fail_if_no_progress with_reducible apply Kept.free
    | fail_if_no_progress (with_reducible refine Kept.updRegs ?_ (fun hk => ?_)) <;> try with_reducible exact hk.regs
    | fail_if_no_progress (with_reducible refine Kept.updSd ?_ (fun hk => ?_)) <;> try with_reducible exact hk.sd
    | fail_if_no_progress (with_reducible refine Kept.updSatchel ?_ (fun hk => ?_)) <;> try with_reducible exact hk.satchel
    | fail_if_no_progress (with_reducible refine Kept.updCt ?_ (fun hk => CtOk.upd hk.ct ?_)) <;> try first | with_reducible rfl | with_reducible exact fun h => h
    | with_reducible rfl
    | split
    | (with_reducible apply Kept.free); split

theorem State.leaveOctal_kept {q : List Instr} (s : State) (h : Kept q s) :
    Kept q (State.leaveOctal s) := by
  unfold State.leaveOctal
  repeat' first
    | with_reducible assumption
    | with_reducible exact fun h => h
    | exact fun _ => rfl
    | intro _
    | with_reducible apply State.setFld_kept
    | with_reducible apply Kept.whenIf
    | fail_if_no_progress with_reducible apply Kept.free
    | fail_if_no_progress (with_reducible refine Kept.updRegs ?_ (fun hk => ?_)) <;> try with_reducible exact hk.regs
    | fail_if_no_progress (with_reducible refine Kept.updSd ?_ (fun hk => ?_)) <;> try with_reducible exact hk.sd
    | fail_if_no_progress (with_reducible refine Kept.updSatchel ?_ (fun hk => ?_)) <;> try with_reducible exact hk.satchel
    | with_reducible rfl
    | split
    | (with_reducible apply Kept.free); split

theorem execCaretakerTakePort_kept {q : List Instr} (s : State) (h : Kept q s) :
    KeptOut q (execCaretakerTakePort s) := by
  unfold execCaretakerTakePort
  repeat' first
    | with_reducible assumption
    | with_reducible apply KeptOut.next
    | with_reducible apply KeptOut.ite
    | intro _
    | with_reducible apply State.setFld_kept
    | with_reducible apply State.leaveOctal_kept
    | with_reducible apply Kept.ite
    | split
    | dsimp only; split

theorem execCaretakerReleasePort_kept {q : List Instr} (s : State) (h : Kept q s) :
    KeptOut q (execCaretakerReleasePort s) := by
  unfold execCaretakerReleasePort
  repeat' first
    | with_reducible assumption
    | with_reducible apply KeptOut.next
    | with_reducible apply KeptOut.ite
    | intro _
    | with_reducible apply State.setFld_kept
    | with_reducible apply Kept.ite
    | split
    | dsimp only; split

end Sys2Proof.Machine
end

