-- ==== Sys2Proof/Laws/KeptLibrary.lean ====
section
/-!
SUPPORT. What every operation of Machine/Library.lean keeps (Laws/Kept.lean).
-/
namespace Sys2Proof.Machine

set_option linter.unusedTactic false
set_option linter.unreachableTactic false

theorem State.libEvent_kept {q : List Instr} (s : State) (code : Nat) (area : Nat) (block : Nat) (seq : Nat) (h : Kept q s) :
    Kept q (State.libEvent s code area block seq) := by
  unfold State.libEvent
  repeat' first
    | with_reducible assumption
    | intro _
    | with_reducible apply State.emit_kept
    | split
    | (with_reducible apply Kept.free); split

theorem State.burLate_kept {q : List Instr} (s : State) (payload : Nat) (h : Kept q s) :
    Kept q (State.burLate s payload) := by
  unfold State.burLate
  repeat' first
    | with_reducible assumption
    | with_reducible exact fun h => h
    | exact fun _ => rfl
    | intro _
    | with_reducible apply State.emit_kept
    | with_reducible apply Kept.ite
    | fail_if_no_progress with_reducible apply Kept.free
    | fail_if_no_progress (with_reducible refine Kept.updRegs ?_ (fun hk => ?_)) <;> try with_reducible exact hk.regs
    | fail_if_no_progress (with_reducible refine Kept.updSd ?_ (fun hk => ?_)) <;> try with_reducible exact hk.sd
    | fail_if_no_progress (with_reducible refine Kept.updBur ?_ (fun hk => BurOk.upd hk.bur ?_ ?_)) <;> try first | with_reducible rfl | with_reducible exact fun h => h
    | fail_if_no_progress (with_reducible refine Kept.updSatchel ?_ (fun hk => ?_)) <;> try with_reducible exact hk.satchel
    | with_reducible rfl
    | with_reducible refine Kept.pointsEq (q := q) ?_ ‹_›
    | with_reducible refine Kept.accsEq (q := q) ?_ ‹_›
    | split
    | (with_reducible apply Kept.free); split

theorem State.mgmtEvent_kept {q : List Instr} (s : State) (code : Nat) (g : Nat) (reason : Nat) (entry : Nat) (h : Kept q s) :
    Kept q (State.mgmtEvent s code g reason entry) := by
  unfold State.mgmtEvent
  repeat' first
    | with_reducible assumption
    | intro _
    | with_reducible apply State.emit_kept
    | split
    | (with_reducible apply Kept.free); split

theorem State.libShow_kept {q : List Instr} (s : State) (was : Nat) (h : Kept q s) :
    Kept q (State.libShow s was) := by
  unfold State.libShow
  repeat' first
    | with_reducible assumption
    | intro _
    | with_reducible apply State.setFld_kept
    | with_reducible apply State.libEvent_kept
    | with_reducible apply Kept.whenIf
    | with_reducible apply Kept.foldl
    | split
    | (with_reducible apply Kept.free); split

theorem State.written_kept {q : List Instr} (s : State) (b : Nat) (h : Kept q s) :
    Kept q (State.written s b) := by
  unfold State.written
  repeat' first
    | with_reducible assumption
    | with_reducible exact fun h => h
    | exact fun _ => rfl
    | with_reducible exact SMap.wf_set (d := fun _ => 0) _ _
    | intro _
    | fail_if_no_progress with_reducible apply Kept.free
    | fail_if_no_progress (with_reducible refine Kept.updRegs ?_ (fun hk => ?_)) <;> try with_reducible exact hk.regs
    | fail_if_no_progress (with_reducible refine Kept.updSd ?_ (fun hk => ?_)) <;> try with_reducible exact hk.sd
    | fail_if_no_progress (with_reducible refine Kept.updSatchel ?_ (fun hk => ?_)) <;> try with_reducible exact hk.satchel
    | with_reducible rfl
    | split
    | (with_reducible apply Kept.free); split

theorem State.remapBlock_kept {q : List Instr} (s : State) (old : Nat) (new : Nat) (h : Kept q s) :
    Kept q (State.remapBlock s old new) := by
  unfold State.remapBlock
  repeat' first
    | with_reducible assumption
    | with_reducible exact fun h => h
    | exact fun _ => rfl
    | intro _
    | with_reducible apply State.written_kept
    | with_reducible apply Kept.ite
    | fail_if_no_progress with_reducible apply Kept.free
    | fail_if_no_progress (with_reducible refine Kept.updRegs ?_ (fun hk => ?_)) <;> try with_reducible exact hk.regs
    | fail_if_no_progress (with_reducible refine Kept.updSd ?_ (fun hk => ?_)) <;> try with_reducible exact hk.sd
    | fail_if_no_progress (with_reducible refine Kept.updSatchel ?_ (fun hk => ?_)) <;> try with_reducible exact hk.satchel
    | with_reducible rfl
    | with_reducible exact List.length_map _
    | split
    | (with_reducible apply Kept.free); split

theorem State.rotate_kept {q : List Instr} (s : State) (a : Nat) (h : Kept q s) :
    Kept q (State.rotate s a) := by
  unfold State.rotate
  repeat' first
    | with_reducible assumption
    | with_reducible exact fun h => h
    | exact fun _ => rfl
    | intro _
    | fail_if_no_progress with_reducible apply Kept.free
    | fail_if_no_progress (with_reducible refine Kept.updRegs ?_ (fun hk => ?_)) <;> try with_reducible exact hk.regs
    | fail_if_no_progress (with_reducible refine Kept.updSd ?_ (fun hk => ?_)) <;> try with_reducible exact hk.sd
    | fail_if_no_progress (with_reducible refine Kept.updSatchel ?_ (fun hk => ?_)) <;> try with_reducible exact hk.satchel
    | with_reducible rfl
    | with_reducible exact List.length_set
    | with_reducible exact List.length_set.trans List.length_set
    | exact List.length_set
    | split
    | (with_reducible apply Kept.free); split

theorem State.placeRecord_kept {q : List Instr} (s : State) (r : LibReq) (h : Kept q s) :
    ∀ t, (State.placeRecord s r) = some t → Kept q t.2 := by
  unfold State.placeRecord
  intro t e
  dsimp only at e
  repeat' split at e
  all_goals first
    | (cases e; done)
    | (cases e; exact State.written_kept _ _ h)
    | (cases e; exact State.written_kept _ _ (Kept.free h))
    | (cases e; exact State.written_kept _ _ (Kept.free (State.rotate_kept _ _ h)))

theorem State.refuseBurst_kept {q : List Instr} (s : State) (r : LibReq) (h : Kept q s) :
    Kept q (State.refuseBurst s r) := by
  unfold State.refuseBurst
  repeat' first
    | with_reducible assumption
    | with_reducible exact fun h => h
    | exact fun _ => rfl
    | with_reducible exact SMap.wf_filter _
    | intro _
    | with_reducible apply State.setFld_kept
    | with_reducible apply State.libEvent_kept
    | with_reducible apply State.count_kept
    | with_reducible apply State.finishCmd_kept
    | with_reducible apply State.mgmtEvent_kept
    | with_reducible apply State.burLate_kept
    | with_reducible apply Kept.whenIf
    | with_reducible apply Kept.ite
    | fail_if_no_progress with_reducible apply Kept.free
    | fail_if_no_progress (with_reducible refine Kept.updRegs ?_ (fun hk => ?_)) <;> try with_reducible exact hk.regs
    | fail_if_no_progress (with_reducible refine Kept.updSd ?_ (fun hk => ?_)) <;> try with_reducible exact hk.sd
    | fail_if_no_progress (with_reducible refine Kept.updSatchel ?_ (fun hk => ?_)) <;> try with_reducible exact hk.satchel
    | with_reducible rfl
    | split
    | (with_reducible apply Kept.free); split

theorem State.startRecord_kept {q : List Instr} (s : State) (r : LibReq) (byCaretaker : Bool) (h : Kept q s) :
    Kept q (State.startRecord s r byCaretaker) := by
  unfold State.startRecord
  repeat' first
    | with_reducible assumption
    | with_reducible exact fun h => h
    | exact fun _ => rfl
    | intro _
    | with_reducible refine State.placeRecord_kept _ _ ?_ _ (by assumption)
    | with_reducible apply State.refuseBurst_kept
    | with_reducible apply State.admitBurst_kept
    | with_reducible apply State.setFld_kept
    | with_reducible apply State.leaveOctal_kept
    | with_reducible apply Kept.whenIf
    | with_reducible apply Kept.ite
    | fail_if_no_progress with_reducible apply Kept.free
    | fail_if_no_progress (with_reducible refine Kept.updRegs ?_ (fun hk => ?_)) <;> try with_reducible exact hk.regs
    | fail_if_no_progress (with_reducible refine Kept.updSd ?_ (fun hk => ?_)) <;> try with_reducible exact hk.sd
    | fail_if_no_progress (with_reducible refine Kept.updSatchel ?_ (fun hk => ?_)) <;> try with_reducible exact hk.satchel
    | with_reducible rfl
    | with_reducible exact List.length_set
    | with_reducible exact List.length_set.trans List.length_set
    | exact List.length_set
    | split
    | (with_reducible apply Kept.free); split

theorem State.startWork_kept {q : List Instr} (s : State) (r : LibReq) (b : Nat) (h : Kept q s) :
    Kept q (State.startWork s r b) := by
  unfold State.startWork
  repeat' first
    | with_reducible assumption
    | with_reducible exact fun h => h
    | exact fun _ => rfl
    | intro _
    | with_reducible apply State.admitBurst_kept
    | with_reducible apply State.refuseBurst_kept
    | with_reducible apply Kept.ite
    | fail_if_no_progress with_reducible apply Kept.free
    | fail_if_no_progress (with_reducible refine Kept.updRegs ?_ (fun hk => ?_)) <;> try with_reducible exact hk.regs
    | fail_if_no_progress (with_reducible refine Kept.updSd ?_ (fun hk => ?_)) <;> try with_reducible exact hk.sd
    | fail_if_no_progress (with_reducible refine Kept.updSatchel ?_ (fun hk => ?_)) <;> try with_reducible exact hk.satchel
    | with_reducible rfl
    | split
    | (with_reducible apply Kept.free); split

theorem State.startBurst_kept {q : List Instr} (s : State) (r : LibReq) (byCaretaker : Bool) (h : Kept q s) :
    Kept q (State.startBurst s r byCaretaker) := by
  unfold State.startBurst
  repeat' first
    | with_reducible assumption
    | with_reducible exact fun h => h
    | exact fun _ => rfl
    | intro _
    | with_reducible apply State.startWork_kept
    | with_reducible apply State.startRecord_kept
    | with_reducible apply State.refuseBurst_kept
    | with_reducible apply Kept.ite
    | fail_if_no_progress with_reducible apply Kept.free
    | fail_if_no_progress (with_reducible refine Kept.updRegs ?_ (fun hk => ?_)) <;> try with_reducible exact hk.regs
    | fail_if_no_progress (with_reducible refine Kept.updSd ?_ (fun hk => ?_)) <;> try with_reducible exact hk.sd
    | fail_if_no_progress (with_reducible refine Kept.updSatchel ?_ (fun hk => ?_)) <;> try with_reducible exact hk.satchel
    | with_reducible rfl
    | split
    | (with_reducible apply Kept.free); split

theorem State.serveN_kept {q : List Instr} (x0 : Nat) (x1 : State) (h : Kept q x1) :
    Kept q (State.serveN x0 x1) := by
  induction x0 generalizing x1 with
  | zero => exact h
  | succ n ih =>
    unfold State.serveN
    dsimp only
    split
    · exact h
    · split
      · exact h
      · exact ih _ (State.startBurst_kept _ _ _ (Kept.free h))

theorem State.serve_kept {q : List Instr} (s : State) (h : Kept q s) :
    Kept q (State.serve s) := by
  unfold State.serve
  repeat' first
    | with_reducible assumption
    | intro _
    | with_reducible apply State.serveN_kept
    | split
    | (with_reducible apply Kept.free); split

theorem State.libSubmit_kept {q : List Instr} (s : State) (r : LibReq) (h : Kept q s) :
    Kept q (State.libSubmit s r) := by
  unfold State.libSubmit
  repeat' first
    | with_reducible assumption
    | with_reducible exact fun h => h
    | exact fun _ => rfl
    | intro _
    | with_reducible apply State.serve_kept
    | fail_if_no_progress with_reducible apply Kept.free
    | fail_if_no_progress (with_reducible refine Kept.updRegs ?_ (fun hk => ?_)) <;> try with_reducible exact hk.regs
    | fail_if_no_progress (with_reducible refine Kept.updSd ?_ (fun hk => ?_)) <;> try with_reducible exact hk.sd
    | fail_if_no_progress (with_reducible refine Kept.updSatchel ?_ (fun hk => ?_)) <;> try with_reducible exact hk.satchel
    | with_reducible rfl
    | split
    | (with_reducible apply Kept.free); split

theorem State.askErase_kept {q : List Instr} (s : State) (a : Nat) (b : Nat) (h : Kept q s) :
    Kept q (State.askErase s a b) := by
  unfold State.askErase
  repeat' first
    | with_reducible assumption
    | intro _
    | with_reducible apply State.libSubmit_kept
    | with_reducible apply Kept.ite
    | split
    | (with_reducible apply Kept.free); split

theorem State.askCopy_kept {q : List Instr} (s : State) (a : Nat) (old : Nat) (new : Nat) (refresh : Bool) (bad : Bool) (h
    : Kept q s) :
    Kept q (State.askCopy s a old new refresh bad) := by
  unfold State.askCopy
  repeat' first
    | with_reducible assumption
    | intro _
    | with_reducible apply State.libSubmit_kept
    | split
    | (with_reducible apply Kept.free); split

theorem State.libPrepare_kept {q : List Instr} (s : State) (h : Kept q s) :
    Kept q (State.libPrepare s) := by
  unfold State.libPrepare
  repeat' first
    | with_reducible assumption
    | intro _
    | with_reducible apply State.askErase_kept
    | with_reducible apply State.libShow_kept
    | with_reducible apply Kept.whenIf
    | with_reducible apply Kept.each
    | split
    | (with_reducible apply Kept.free); split

theorem State.libRecord_kept {q : List Instr} (s : State) (client : Nat) (area : Nat) (type : Nat) (payload : List Nat) (h
    : Kept q s) :
    Kept q (State.libRecord s client area type payload) := by
  unfold State.libRecord
  repeat' first
    | with_reducible assumption
    | intro _
    | with_reducible apply State.libSubmit_kept
    | split
    | (with_reducible apply Kept.free); split

theorem State.dirUpdate_kept {q : List Instr} (s : State) (remap : Option (Nat × Nat)) (refresh : Bool) (h : Kept q s) :
    Kept q (State.dirUpdate s remap refresh) := by
  unfold State.dirUpdate
  repeat' first
    | with_reducible assumption
    | intro _
    | with_reducible apply State.libSubmit_kept
    | split
    | (with_reducible apply Kept.free); split

theorem State.modBurstRecord_kept {q : List Instr} (s : State) (b : LibBurst) (f : LibRecord → LibRecord) (h : Kept q s) :
    Kept q (State.modBurstRecord s b f) := by
  unfold State.modBurstRecord
  repeat' first
    | with_reducible assumption
    | with_reducible exact fun h => h
    | exact fun _ => rfl
    | intro _
    | with_reducible apply Kept.ite
    | fail_if_no_progress with_reducible apply Kept.free
    | fail_if_no_progress (with_reducible refine Kept.updRegs ?_ (fun hk => ?_)) <;> try with_reducible exact hk.regs
    | fail_if_no_progress (with_reducible refine Kept.updSd ?_ (fun hk => ?_)) <;> try with_reducible exact hk.sd
    | fail_if_no_progress (with_reducible refine Kept.updSatchel ?_ (fun hk => ?_)) <;> try with_reducible exact hk.satchel
    | with_reducible rfl
    | with_reducible exact List.length_map _
    | split
    | (with_reducible apply Kept.free); split

theorem State.markBad_kept {q : List Instr} (s : State) (a : Nat) (b : Nat) (seq : Nat) (h : Kept q s) :
    Kept q (State.markBad s a b seq) := by
  unfold State.markBad
  repeat' first
    | with_reducible assumption
    | with_reducible exact fun h => h
    | exact fun _ => rfl
    | with_reducible exact SMap.wf_filter _
    | intro _
    | with_reducible apply State.libShow_kept
    | with_reducible apply State.libEvent_kept
    | fail_if_no_progress with_reducible apply Kept.free
    | fail_if_no_progress (with_reducible refine Kept.updRegs ?_ (fun hk => ?_)) <;> try with_reducible exact hk.regs
    | fail_if_no_progress (with_reducible refine Kept.updSd ?_ (fun hk => ?_)) <;> try with_reducible exact hk.sd
    | fail_if_no_progress (with_reducible refine Kept.updSatchel ?_ (fun hk => ?_)) <;> try with_reducible exact hk.satchel
    | with_reducible rfl
    | split
    | (with_reducible apply Kept.free); split

theorem State.badBlock_kept {q : List Instr} (s : State) (a : Nat) (b : Nat) (seq : Nat) (h : Kept q s) :
    Kept q (State.badBlock s a b seq) := by
  unfold State.badBlock
  repeat' first
    | with_reducible assumption
    | with_reducible exact fun h => h
    | exact fun _ => rfl
    | with_reducible exact SMap.wf_filter _
    | intro _
    | with_reducible apply State.count_kept
    | with_reducible apply State.markBad_kept
    | with_reducible apply State.askCopy_kept
    | with_reducible apply State.libEvent_kept
    | with_reducible apply Kept.ite
    | fail_if_no_progress with_reducible apply Kept.free
    | fail_if_no_progress (with_reducible refine Kept.updRegs ?_ (fun hk => ?_)) <;> try with_reducible exact hk.regs
    | fail_if_no_progress (with_reducible refine Kept.updSd ?_ (fun hk => ?_)) <;> try with_reducible exact hk.sd
    | fail_if_no_progress (with_reducible refine Kept.updSatchel ?_ (fun hk => ?_)) <;> try with_reducible exact hk.satchel
    | with_reducible rfl
    | with_reducible exact List.length_map _
    | split
    | (with_reducible apply Kept.free); split

theorem State.operationFails_kept {q : List Instr} (s : State) (b : LibBurst) (h : Kept q s) :
    Kept q (State.operationFails s b) := by
  unfold State.operationFails
  repeat' first
    | with_reducible assumption
    | with_reducible exact fun h => h
    | exact fun _ => rfl
    | with_reducible exact SMap.wf_filter _
    | intro _
    | with_reducible apply State.badBlock_kept
    | with_reducible apply State.askCopy_kept
    | with_reducible apply State.finishCmd_kept
    | with_reducible apply Kept.each
    | with_reducible apply Kept.ite
    | fail_if_no_progress with_reducible apply Kept.free
    | fail_if_no_progress (with_reducible refine Kept.updRegs ?_ (fun hk => ?_)) <;> try with_reducible exact hk.regs
    | fail_if_no_progress (with_reducible refine Kept.updSd ?_ (fun hk => ?_)) <;> try with_reducible exact hk.sd
    | fail_if_no_progress (with_reducible refine Kept.updSatchel ?_ (fun hk => ?_)) <;> try with_reducible exact hk.satchel
    | with_reducible rfl
    | with_reducible exact List.length_set
    | with_reducible exact List.length_set.trans List.length_set
    | exact List.length_set
    | split
    | (with_reducible apply Kept.free); split

theorem State.workDone_kept {q : List Instr} (s : State) (b : LibBurst) (h : Kept q s) :
    Kept q (State.workDone s b) := by
  unfold State.workDone
  repeat' first
    | with_reducible assumption
    | with_reducible exact fun h => h
    | exact fun _ => rfl
    | with_reducible exact SMap.wf_filter _
    | intro _
    | with_reducible apply State.libShow_kept
    | with_reducible apply State.erased_kept
    | with_reducible apply State.dirUpdate_kept
    | with_reducible apply State.remapBlock_kept
    | with_reducible apply State.markBad_kept
    | with_reducible apply Kept.ite
    | fail_if_no_progress with_reducible apply Kept.free
    | fail_if_no_progress (with_reducible refine Kept.updRegs ?_ (fun hk => ?_)) <;> try with_reducible exact hk.regs
    | fail_if_no_progress (with_reducible refine Kept.updSd ?_ (fun hk => ?_)) <;> try with_reducible exact hk.sd
    | fail_if_no_progress (with_reducible refine Kept.updSatchel ?_ (fun hk => ?_)) <;> try with_reducible exact hk.satchel
    | with_reducible rfl
    | split
    | (with_reducible apply Kept.free); split

theorem execFlashOperationComplete_kept {q : List Instr} (ok : Bool) (s : State) (h : Kept q s) :
    KeptOut q (execFlashOperationComplete ok s) := by
  unfold execFlashOperationComplete
  repeat' first
    | with_reducible assumption
    | with_reducible apply KeptOut.next
    | with_reducible apply KeptOut.ite
    | with_reducible exact fun h => h
    | exact fun _ => rfl
    | intro _
    | with_reducible apply State.operationFails_kept
    | with_reducible apply State.workDone_kept
    | with_reducible apply Kept.whenIf
    | with_reducible apply Kept.ite
    | fail_if_no_progress with_reducible apply Kept.free
    | fail_if_no_progress (with_reducible refine Kept.updRegs ?_ (fun hk => ?_)) <;> try with_reducible exact hk.regs
    | fail_if_no_progress (with_reducible refine Kept.updSd ?_ (fun hk => ?_)) <;> try with_reducible exact hk.sd
    | fail_if_no_progress (with_reducible refine Kept.updSatchel ?_ (fun hk => ?_)) <;> try with_reducible exact hk.satchel
    | with_reducible rfl
    | split
    | dsimp only; split

theorem State.refreshNext_kept {q : List Instr} (s : State) (h : Kept q s) :
    Kept q (State.refreshNext s) := by
  unfold State.refreshNext
  repeat' first
    | with_reducible assumption
    | intro _
    | with_reducible apply State.askCopy_kept
    | with_reducible apply State.setFld_kept
    | split
    | (with_reducible apply Kept.free); split

theorem execLibraryRefresh_kept {q : List Instr} (s : State) (h : Kept q s) :
    KeptOut q (execLibraryRefresh s) := by
  unfold execLibraryRefresh
  repeat' first
    | with_reducible assumption
    | with_reducible apply KeptOut.next
    | with_reducible apply KeptOut.ite
    | intro _
    | with_reducible apply State.refreshNext_kept
    | with_reducible apply State.libPrepare_kept
    | with_reducible apply Kept.ite
    | split
    | dsimp only; split

theorem execWearLevelRelocate_kept {q : List Instr} (s : State) (h : Kept q s) :
    KeptOut q (execWearLevelRelocate s) := by
  unfold execWearLevelRelocate
  repeat' first
    | with_reducible assumption
    | with_reducible apply KeptOut.next
    | with_reducible apply KeptOut.ite
    | intro _
    | with_reducible apply State.askCopy_kept
    | with_reducible apply Kept.ite
    | split
    | dsimp only; split

theorem State.committed_kept {q : List Instr} (s : State) (b : LibBurst) (h : Kept q s) :
    Kept q (State.committed s b) := by
  unfold State.committed
  repeat' first
    | with_reducible assumption
    | with_reducible exact fun h => h
    | exact fun _ => rfl
    | with_reducible exact SMap.wf_filter _
    | intro _
    | with_reducible apply State.libShow_kept
    | with_reducible apply State.remapBlock_kept
    | with_reducible apply State.askErase_kept
    | with_reducible apply State.refreshNext_kept
    | with_reducible apply State.count_kept
    | with_reducible apply State.setFld_kept
    | with_reducible apply State.mgmtEvent_kept
    | with_reducible apply State.modGroup_kept
    | with_reducible apply Kept.ite
    | fail_if_no_progress with_reducible apply Kept.free
    | fail_if_no_progress (with_reducible refine Kept.updRegs ?_ (fun hk => ?_)) <;> try with_reducible exact hk.regs
    | fail_if_no_progress (with_reducible refine Kept.updDict ?_ (fun hk => DictOk.upd hk.dict ?_)) <;> try first | with_reducible rfl | with_reducible exact fun h => h
    | fail_if_no_progress (with_reducible refine Kept.updSd ?_ (fun hk => ?_)) <;> try with_reducible exact hk.sd
    | fail_if_no_progress (with_reducible refine Kept.updSatchel ?_ (fun hk => ?_)) <;> try with_reducible exact hk.satchel
    | with_reducible rfl
    | with_reducible refine Kept.groupsEq (q := q) ?_ ‹_›
    | split
    | (with_reducible apply Kept.free); split

theorem execRecordCommit_kept {q : List Instr} (s : State) (h : Kept q s) :
    KeptOut q (execRecordCommit s) := by
  unfold execRecordCommit
  repeat' first
    | with_reducible assumption
    | with_reducible apply KeptOut.next
    | with_reducible apply KeptOut.ite
    | with_reducible exact fun h => h
    | exact fun _ => rfl
    | intro _
    | with_reducible apply State.modBurstRecord_kept
    | with_reducible apply State.finishCmd_kept
    | with_reducible apply State.committed_kept
    | with_reducible apply Kept.ite
    | fail_if_no_progress with_reducible apply Kept.free
    | fail_if_no_progress (with_reducible refine Kept.updRegs ?_ (fun hk => ?_)) <;> try with_reducible exact hk.regs
    | fail_if_no_progress (with_reducible refine Kept.updSd ?_ (fun hk => ?_)) <;> try with_reducible exact hk.sd
    | fail_if_no_progress (with_reducible refine Kept.updSatchel ?_ (fun hk => ?_)) <;> try with_reducible exact hk.satchel
    | with_reducible rfl
    | split
    | dsimp only; split

theorem State.copyRepairs_kept {q : List Instr} (s : State) (h : Kept q s) :
    Kept q (State.copyRepairs s) := by
  unfold State.copyRepairs
  repeat' first
    | with_reducible assumption
    | intro _
    | with_reducible apply State.libRecord_kept
    | with_reducible apply Kept.each
    | split
    | (with_reducible apply Kept.free); split

theorem execBurstComplete_kept {q : List Instr} (s : State) (h : Kept q s) :
    KeptOut q (execBurstComplete s) := by
  unfold execBurstComplete
  repeat' first
    | with_reducible assumption
    | with_reducible apply KeptOut.next
    | with_reducible apply KeptOut.ite
    | with_reducible exact fun h => h
    | exact fun _ => rfl
    | with_reducible refine Kept.sramWf (q := q) ?_
    | intro _
    | with_reducible apply State.copyRepairs_kept
    | with_reducible apply State.serve_kept
    | with_reducible apply Kept.ite
    | fail_if_no_progress with_reducible apply Kept.free
    | fail_if_no_progress (with_reducible refine Kept.updRegs ?_ (fun hk => ?_)) <;> try with_reducible exact hk.regs
    | fail_if_no_progress (with_reducible refine Kept.updSd ?_ (fun hk => ?_)) <;> try with_reducible exact hk.sd
    | fail_if_no_progress (with_reducible refine Kept.updSatchel ?_ (fun hk => ?_)) <;> try with_reducible exact hk.satchel
    | fail_if_no_progress (with_reducible refine Kept.updCt ?_ (fun hk => CtOk.upd hk.ct ?_)) <;> try first | with_reducible rfl | with_reducible exact fun h => h
    | with_reducible rfl
    | split
    | dsimp only; split

theorem execAdmissionRequest_kept {q : List Instr} (classes : List Nat) (byCaretaker : Bool) (s : State) (h : Kept q s) :
    KeptOut q (execAdmissionRequest classes byCaretaker s) := by
  unfold execAdmissionRequest
  repeat' first
    | with_reducible assumption
    | with_reducible apply KeptOut.next
    | with_reducible apply KeptOut.ite
    | intro _
    | with_reducible apply State.admitBurst_kept
    | with_reducible apply State.setFld_kept
    | with_reducible apply State.leaveOctal_kept
    | with_reducible apply State.libEvent_kept
    | with_reducible apply State.count_kept
    | with_reducible apply State.serve_kept
    | with_reducible apply Kept.whenIf
    | with_reducible apply Kept.ite
    | split
    | dsimp only; split

theorem execGaugeSample_kept {q : List Instr} (vstore : Nat) (vcell : Nat) (used : Nat) (s : State) (h : Kept q s) :
    KeptOut q (execGaugeSample vstore vcell used s) := by
  unfold execGaugeSample
  repeat' first
    | with_reducible assumption
    | with_reducible apply KeptOut.next
    | with_reducible exact fun h => h
    | exact fun _ => rfl
    | intro _
    | with_reducible apply State.gaugeSample_kept
    | with_reducible apply State.copyRepairs_kept
    | with_reducible apply State.serve_kept
    | fail_if_no_progress with_reducible apply Kept.free
    | fail_if_no_progress (with_reducible refine Kept.updRegs ?_ (fun hk => ?_)) <;> try with_reducible exact hk.regs
    | fail_if_no_progress (with_reducible refine Kept.updSd ?_ (fun hk => ?_)) <;> try with_reducible exact hk.sd
    | fail_if_no_progress (with_reducible refine Kept.updSatchel ?_ (fun hk => ?_)) <;> try with_reducible exact hk.satchel
    | with_reducible rfl
    | split
    | dsimp only; split

theorem execLibAppendRecord_kept {q : List Instr} (idx : Nat) (s : State) (h : Kept q s) :
    KeptOut q (execLibAppendRecord idx s) := by
  unfold execLibAppendRecord
  repeat' first
    | with_reducible assumption
    | with_reducible apply KeptOut.next
    | with_reducible apply KeptOut.ite
    | intro _
    | with_reducible apply State.finishCmd_kept
    | with_reducible apply State.libSubmit_kept
    | with_reducible apply Kept.ite
    | split
    | dsimp only; split

theorem State.readRecord_kept {q : List Instr} (s : State) (idx : Nat) (d : Desc) (r : LibRecord) (errs : List Nat) (h :
    Kept q s) :
    Kept q (State.readRecord s idx d r errs) := by
  unfold State.readRecord
  repeat' first
    | with_reducible assumption
    | with_reducible exact fun h => h
    | exact fun _ => rfl
    | with_reducible exact SMap.wf_filter _
    | intro _
    | with_reducible apply State.count_kept
    | with_reducible apply State.setFld_kept
    | with_reducible apply State.badBlock_kept
    | with_reducible apply State.finishCmd_kept
    | with_reducible apply State.libEvent_kept
    | with_reducible apply State.satWrite_kept
    | (with_reducible refine Kept.snd ?_ (by assumption)); with_reducible apply State.satWrite_kept
    | with_reducible apply Kept.each
    | with_reducible apply Kept.ite
    | fail_if_no_progress with_reducible apply Kept.free
    | fail_if_no_progress (with_reducible refine Kept.updRegs ?_ (fun hk => ?_)) <;> try with_reducible exact hk.regs
    | fail_if_no_progress (with_reducible refine Kept.updSd ?_ (fun hk => ?_)) <;> try with_reducible exact hk.sd
    | fail_if_no_progress (with_reducible refine Kept.updSatchel ?_ (fun hk => ?_)) <;> try with_reducible exact hk.satchel
    | with_reducible rfl
    | with_reducible exact List.length_map _
    | split
    | (with_reducible apply Kept.free); split

theorem State.readCommand_kept {q : List Instr} (s : State) (idx : Nat) (op : Nat) (errs : List Nat) (pick : Nat → Nat →
    Nat → Option LibRecord) (h : Kept q s) :
    Kept q (State.readCommand s idx op errs pick) := by
  unfold State.readCommand
  repeat' first
    | with_reducible assumption
    | intro _
    | with_reducible apply State.finishCmd_kept
    | with_reducible apply State.setFld_kept
    | with_reducible apply State.readRecord_kept
    | with_reducible apply Kept.ite
    | split
    | (with_reducible apply Kept.free); split

theorem execLibReadRecord_kept {q : List Instr} (idx : Nat) (errs : List Nat) (s : State) (h : Kept q s) :
    KeptOut q (execLibReadRecord idx errs s) := by
  unfold execLibReadRecord
  repeat' first
    | with_reducible assumption
    | with_reducible apply KeptOut.next
    | intro _
    | with_reducible apply State.readCommand_kept
    | split
    | dsimp only; split

theorem execLibReadNewest_kept {q : List Instr} (idx : Nat) (errs : List Nat) (s : State) (h : Kept q s) :
    KeptOut q (execLibReadNewest idx errs s) := by
  unfold execLibReadNewest
  repeat' first
    | with_reducible assumption
    | with_reducible apply KeptOut.next
    | intro _
    | with_reducible apply State.readCommand_kept
    | split
    | dsimp only; split

theorem State.libInit_kept {q : List Instr} (s : State) (supported : Bool) (nand : Bool) (pageL2 : Nat) (eraseL2 : Nat)
    (blocks : Nat) (dir : List (Nat × Nat × Nat × Nat)) (recs : List (Nat × Nat × Nat × Nat × List Nat)) (finals : List
    (List Nat)) (h : Kept q s) :
    Kept q (State.libInit s supported nand pageL2 eraseL2 blocks dir recs finals) := by
  unfold State.libInit
  repeat' first
    | with_reducible assumption
    | with_reducible exact fun h => h
    | exact fun _ => rfl
    | with_reducible exact SMap.wf_set (d := fun _ => 0) _ _
    | with_reducible exact foldSet_wf _ _ _
    | with_reducible exact SMap.wf_filter _
    | intro _
    | with_reducible apply State.setFld_kept
    | with_reducible apply State.leaveOctal_kept
    | with_reducible apply State.setFlag_kept
    | with_reducible apply State.serve_kept
    | with_reducible apply State.libShow_kept
    | with_reducible apply Kept.foldl
    | with_reducible apply Kept.ite
    | fail_if_no_progress with_reducible apply Kept.free
    | fail_if_no_progress (with_reducible refine Kept.updRegs ?_ (fun hk => ?_)) <;> try with_reducible exact hk.regs
    | fail_if_no_progress (with_reducible refine Kept.updSd ?_ (fun hk => ?_)) <;> try with_reducible exact hk.sd
    | fail_if_no_progress (with_reducible refine Kept.updSatchel ?_ (fun hk => ?_)) <;> try with_reducible exact hk.satchel
    | with_reducible rfl
    | with_reducible exact List.length_map _
    | with_reducible exact length_foldl_set (fun x => x) _ _
    | split
    | (with_reducible apply Kept.free); split

end Sys2Proof.Machine
end

