-- ==== Sys2Proof/Laws/KeptClock.lean ====
section
/-!
SUPPORT. What every operation of Machine/Clock.lean keeps (Laws/Kept.lean).
-/
namespace Sys2Proof.Machine

set_option linter.unusedTactic false
set_option linter.unreachableTactic false

theorem State.edgeTick_kept {q : List Instr} (s : State) (h : Kept q s) :
    Kept q (State.edgeTick s) := by
  unfold State.edgeTick
  repeat' first
    | with_reducible assumption
    | with_reducible exact fun h => h
    | exact fun _ => rfl
    | intro _
    | fail_if_no_progress with_reducible apply Kept.free
    | fail_if_no_progress (with_reducible refine Kept.updRegs ?_ (fun hk => ?_)) <;> try with_reducible exact hk.regs
    | fail_if_no_progress (with_reducible refine Kept.updSd ?_ (fun hk => ?_)) <;> try with_reducible exact hk.sd
    | fail_if_no_progress (with_reducible refine Kept.updSatchel ?_ (fun hk => ?_)) <;> try with_reducible exact hk.satchel
    | with_reducible rfl
    | split
    | (with_reducible apply Kept.free); split

theorem State.takeRate_kept {q : List Instr} (s : State) (d : Int) (h : Kept q s) :
    Kept q (State.takeRate s d) := by
  unfold State.takeRate
  repeat' first
    | with_reducible assumption
    | with_reducible exact fun h => h
    | exact fun _ => rfl
    | intro _
    | fail_if_no_progress with_reducible apply Kept.free
    | fail_if_no_progress (with_reducible refine Kept.updRegs ?_ (fun hk => ?_)) <;> try with_reducible exact hk.regs
    | fail_if_no_progress (with_reducible refine Kept.updSd ?_ (fun hk => ?_)) <;> try with_reducible exact hk.sd
    | fail_if_no_progress (with_reducible refine Kept.updSatchel ?_ (fun hk => ?_)) <;> try with_reducible exact hk.satchel
    | with_reducible rfl
    | split
    | (with_reducible apply Kept.free); split

theorem State.takePhase_kept {q : List Instr} (s : State) (d : Int) (h : Kept q s) :
    Kept q (State.takePhase s d) := by
  unfold State.takePhase
  repeat' first
    | with_reducible assumption
    | with_reducible exact fun h => h
    | exact fun _ => rfl
    | intro _
    | with_reducible apply State.setFld_kept
    | fail_if_no_progress with_reducible apply Kept.free
    | fail_if_no_progress (with_reducible refine Kept.updRegs ?_ (fun hk => ?_)) <;> try with_reducible exact hk.regs
    | fail_if_no_progress (with_reducible refine Kept.updSd ?_ (fun hk => ?_)) <;> try with_reducible exact hk.sd
    | fail_if_no_progress (with_reducible refine Kept.updSatchel ?_ (fun hk => ?_)) <;> try with_reducible exact hk.satchel
    | with_reducible rfl
    | split
    | (with_reducible apply Kept.free); split

theorem State.moveTick_kept {q : List Instr} (s : State) (d : Int) (h : Kept q s) :
    Kept q (State.moveTick s d) := by
  unfold State.moveTick
  repeat' first
    | with_reducible assumption
    | with_reducible exact fun h => h
    | exact fun _ => rfl
    | intro _
    | fail_if_no_progress with_reducible apply Kept.free
    | fail_if_no_progress (with_reducible refine Kept.updRegs ?_ (fun hk => ?_)) <;> try with_reducible exact hk.regs
    | fail_if_no_progress (with_reducible refine Kept.updSd ?_ (fun hk => ?_)) <;> try with_reducible exact hk.sd
    | fail_if_no_progress (with_reducible refine Kept.updSatchel ?_ (fun hk => ?_)) <;> try with_reducible exact hk.satchel
    | with_reducible rfl
    | split
    | (with_reducible apply Kept.free); split

theorem execPhaseStep_kept {q : List Instr} (s : State) (h : Kept q s) :
    KeptOut q (execPhaseStep s) := by
  unfold execPhaseStep
  repeat' first
    | with_reducible assumption
    | with_reducible apply KeptOut.next
    | with_reducible apply KeptOut.ite
    | intro _
    | with_reducible apply State.takePhase_kept
    | with_reducible apply State.takeRate_kept
    | with_reducible apply State.moveTick_kept
    | with_reducible apply Kept.ite
    | split
    | dsimp only; split

theorem execTbLoRead_kept {q : List Instr} (core : Nat) (s : State) (h : Kept q s) :
    KeptOut q (execTbLoRead core s) := by
  unfold execTbLoRead
  repeat' first
    | with_reducible assumption
    | with_reducible apply KeptOut.next
    | intro _
    | with_reducible apply State.loadBlk_kept
    | with_reducible apply State.reads_kept
    | with_reducible apply State.setFld_kept
    | split
    | dsimp only; split

theorem execPpsPulse_kept {q : List Instr} (s : State) (h : Kept q s) :
    KeptOut q (execPpsPulse s) := by
  unfold execPpsPulse
  repeat' first
    | with_reducible assumption
    | with_reducible apply KeptOut.next
    | with_reducible apply KeptOut.ite
    | with_reducible exact fun h => h
    | exact fun _ => rfl
    | intro _
    | with_reducible apply Kept.ite
    | fail_if_no_progress with_reducible apply Kept.free
    | fail_if_no_progress (with_reducible refine Kept.updRegs ?_ (fun hk => ?_)) <;> try with_reducible exact hk.regs
    | fail_if_no_progress (with_reducible refine Kept.updSd ?_ (fun hk => ?_)) <;> try with_reducible exact hk.sd
    | fail_if_no_progress (with_reducible refine Kept.updSatchel ?_ (fun hk => ?_)) <;> try with_reducible exact hk.satchel
    | with_reducible rfl
    | split
    | dsimp only; split

theorem execPpsPulseEnd_kept {q : List Instr} (s : State) (h : Kept q s) :
    KeptOut q (execPpsPulseEnd s) := by
  unfold execPpsPulseEnd
  repeat' first
    | with_reducible assumption
    | with_reducible apply KeptOut.next
    | with_reducible exact fun h => h
    | exact fun _ => rfl
    | intro _
    | fail_if_no_progress with_reducible apply Kept.free
    | fail_if_no_progress (with_reducible refine Kept.updRegs ?_ (fun hk => ?_)) <;> try with_reducible exact hk.regs
    | fail_if_no_progress (with_reducible refine Kept.updSd ?_ (fun hk => ?_)) <;> try with_reducible exact hk.sd
    | fail_if_no_progress (with_reducible refine Kept.updSatchel ?_ (fun hk => ?_)) <;> try with_reducible exact hk.satchel
    | with_reducible rfl
    | split
    | dsimp only; split

theorem State.relaySync_kept {q : List Instr} (s : State) (cycle : Nat) (h : Kept q s) :
    Kept q (State.relaySync s cycle) := by
  unfold State.relaySync
  repeat' first
    | with_reducible assumption
    | with_reducible exact fun h => h
    | exact fun _ => rfl
    | intro _
    | with_reducible apply Kept.whenIf
    | fail_if_no_progress with_reducible apply Kept.free
    | fail_if_no_progress (with_reducible refine Kept.updRegs ?_ (fun hk => ?_)) <;> try with_reducible exact hk.regs
    | fail_if_no_progress (with_reducible refine Kept.updSd ?_ (fun hk => ?_)) <;> try with_reducible exact hk.sd
    | fail_if_no_progress (with_reducible refine Kept.updSatchel ?_ (fun hk => ?_)) <;> try with_reducible exact hk.satchel
    | with_reducible rfl
    | split
    | (with_reducible apply Kept.free); split

theorem State.syncEdge_kept {q : List Instr} (s : State) (cycle : Nat) (h : Kept q s) :
    Kept q (State.syncEdge s cycle) := by
  unfold State.syncEdge
  repeat' first
    | with_reducible assumption
    | with_reducible exact fun h => h
    | exact fun _ => rfl
    | intro _
    | with_reducible apply State.setFld_kept
    | with_reducible apply State.fresh_kept
    | (with_reducible refine Kept.snd ?_ (by assumption)); with_reducible apply State.fresh_kept
    | with_reducible apply Kept.ite
    | fail_if_no_progress with_reducible apply Kept.free
    | fail_if_no_progress (with_reducible refine Kept.updRegs ?_ (fun hk => ?_)) <;> try with_reducible exact hk.regs
    | fail_if_no_progress (with_reducible refine Kept.updSd ?_ (fun hk => ?_)) <;> try with_reducible exact hk.sd
    | fail_if_no_progress (with_reducible refine Kept.updSatchel ?_ (fun hk => ?_)) <;> try with_reducible exact hk.satchel
    | with_reducible rfl
    | split
    | (with_reducible apply Kept.free); split

theorem execSyncInEdge_kept {q : List Instr} (cycle : Nat) (s : State) (h : Kept q s) :
    KeptOut q (execSyncInEdge cycle s) := by
  unfold execSyncInEdge
  repeat' first
    | with_reducible assumption
    | with_reducible apply KeptOut.next
    | with_reducible apply KeptOut.ite
    | intro _
    | with_reducible apply State.relaySync_kept
    | with_reducible apply State.syncEdge_kept
    | with_reducible apply Kept.ite
    | split
    | dsimp only; split

theorem execSyncMissed_kept {q : List Instr} (s : State) (h : Kept q s) :
    KeptOut q (execSyncMissed s) := by
  unfold execSyncMissed
  repeat' first
    | with_reducible assumption
    | with_reducible apply KeptOut.next
    | with_reducible apply KeptOut.ite
    | intro _
    | with_reducible apply State.setFld_kept
    | with_reducible apply State.event_kept
    | with_reducible apply Kept.ite
    | split
    | dsimp only; split

theorem execSyncOutPulse_kept {q : List Instr} (s : State) (h : Kept q s) :
    KeptOut q (execSyncOutPulse s) := by
  unfold execSyncOutPulse
  repeat' first
    | with_reducible assumption
    | with_reducible apply KeptOut.next
    | with_reducible apply KeptOut.ite
    | with_reducible exact fun h => h
    | exact fun _ => rfl
    | intro _
    | with_reducible apply Kept.ite
    | fail_if_no_progress with_reducible apply Kept.free
    | fail_if_no_progress (with_reducible refine Kept.updRegs ?_ (fun hk => ?_)) <;> try with_reducible exact hk.regs
    | fail_if_no_progress (with_reducible refine Kept.updSd ?_ (fun hk => ?_)) <;> try with_reducible exact hk.sd
    | fail_if_no_progress (with_reducible refine Kept.updSatchel ?_ (fun hk => ?_)) <;> try with_reducible exact hk.satchel
    | with_reducible rfl
    | split
    | dsimp only; split

theorem State.clkEnWrite_kept {q : List Instr} (s : State) (a : Bool) (b : Bool) (h : Kept q s) :
    Kept q (State.clkEnWrite s a b) := by
  unfold State.clkEnWrite
  repeat' first
    | with_reducible assumption
    | intro _
    | with_reducible apply State.discarded_kept
    | with_reducible apply State.setFlag_kept
    | with_reducible apply State.setFld_kept
    | with_reducible apply Kept.whenIf
    | with_reducible apply Kept.ite
    | split
    | (with_reducible apply Kept.free); split

theorem execClkEnWrite_kept {q : List Instr} (core : Nat) (a : Bool) (b : Bool) (s : State) (h : Kept q s) :
    KeptOut q (execClkEnWrite core a b s) := by
  unfold execClkEnWrite
  repeat' first
    | with_reducible assumption
    | with_reducible apply KeptOut.next
    | intro _
    | with_reducible apply State.accessBlk_kept
    | with_reducible apply State.clkEnWrite_kept
    | split
    | dsimp only; split

theorem execRcTrim_kept {q : List Instr} (s : State) (h : Kept q s) :
    KeptOut q (execRcTrim s) := by
  unfold execRcTrim
  repeat' first
    | with_reducible assumption
    | with_reducible apply KeptOut.next
    | intro _
    | with_reducible apply State.setFlag_kept
    | split
    | dsimp only; split

theorem execRtcCrystalStop_kept {q : List Instr} (s : State) (h : Kept q s) :
    KeptOut q (execRtcCrystalStop s) := by
  unfold execRtcCrystalStop
  repeat' first
    | with_reducible assumption
    | with_reducible apply KeptOut.next
    | with_reducible exact fun h => h
    | exact fun _ => rfl
    | intro _
    | with_reducible apply State.setFld_kept
    | fail_if_no_progress with_reducible apply Kept.free
    | fail_if_no_progress (with_reducible refine Kept.updRegs ?_ (fun hk => ?_)) <;> try with_reducible exact hk.regs
    | fail_if_no_progress (with_reducible refine Kept.updSd ?_ (fun hk => ?_)) <;> try with_reducible exact hk.sd
    | fail_if_no_progress (with_reducible refine Kept.updSatchel ?_ (fun hk => ?_)) <;> try with_reducible exact hk.satchel
    | with_reducible rfl
    | split
    | dsimp only; split

theorem execRtcCrystalStart_kept {q : List Instr} (s : State) (h : Kept q s) :
    KeptOut q (execRtcCrystalStart s) := by
  unfold execRtcCrystalStart
  repeat' first
    | with_reducible assumption
    | with_reducible apply KeptOut.next
    | with_reducible exact fun h => h
    | exact fun _ => rfl
    | intro _
    | with_reducible apply State.setFld_kept
    | fail_if_no_progress with_reducible apply Kept.free
    | fail_if_no_progress (with_reducible refine Kept.updRegs ?_ (fun hk => ?_)) <;> try with_reducible exact hk.regs
    | fail_if_no_progress (with_reducible refine Kept.updSd ?_ (fun hk => ?_)) <;> try with_reducible exact hk.sd
    | fail_if_no_progress (with_reducible refine Kept.updSatchel ?_ (fun hk => ?_)) <;> try with_reducible exact hk.satchel
    | with_reducible rfl
    | split
    | dsimp only; split

theorem State.runFraction_kept {q : List Instr} (s : State) (h : Kept q s) :
    Kept q (State.runFraction s) := by
  unfold State.runFraction
  repeat' first
    | with_reducible assumption
    | with_reducible exact fun h => h
    | exact fun _ => rfl
    | with_reducible refine Kept.sramWf (q := q) ?_
    | intro _
    | with_reducible apply State.setFld_kept
    | with_reducible apply Kept.ite
    | fail_if_no_progress with_reducible apply Kept.free
    | fail_if_no_progress (with_reducible refine Kept.updRegs ?_ (fun hk => ?_)) <;> try with_reducible exact hk.regs
    | fail_if_no_progress (with_reducible refine Kept.updSd ?_ (fun hk => ?_)) <;> try with_reducible exact hk.sd
    | fail_if_no_progress (with_reducible refine Kept.updSatchel ?_ (fun hk => ?_)) <;> try with_reducible exact hk.satchel
    | fail_if_no_progress (with_reducible refine Kept.updCt ?_ (fun hk => CtOk.upd hk.ct ?_)) <;> try first | with_reducible rfl | with_reducible exact fun h => h
    | with_reducible rfl
    | split
    | (with_reducible apply Kept.free); split

theorem execRtcSubRead_kept {q : List Instr} (core : Nat) (s : State) (h : Kept q s) :
    KeptOut q (execRtcSubRead core s) := by
  unfold execRtcSubRead
  repeat' first
    | with_reducible assumption
    | with_reducible apply KeptOut.next
    | intro _
    | with_reducible apply State.loadBlk_kept
    | with_reducible apply State.setFld_kept
    | with_reducible apply State.reads_kept
    | split
    | dsimp only; split

end Sys2Proof.Machine
end

