-- ==== Sys2Proof/Laws/KeptTimetable.lean ====
section
/-!
SUPPORT. What every operation of Machine/Timetable.lean keeps (Laws/Kept.lean).
-/
namespace Sys2Proof.Machine

set_option linter.unusedTactic false
set_option linter.unreachableTactic false

theorem State.setEngWord_kept {q : List Instr} (s : State) (n : Nat) (idx : Nat) (v : Nat) (h : Kept q s) :
    Kept q (State.setEngWord s n idx v) := by
  unfold State.setEngWord
  repeat' first
    | with_reducible assumption
    | with_reducible exact fun h => h
    | exact fun _ => rfl
    | with_reducible exact SMap.wf_set (d := fun _ => 0) _ _
    | with_reducible refine Kept.memWf (q := q) ?_
    | with_reducible refine Kept.engsOk (q := q) ?_
    | intro _
    | fail_if_no_progress with_reducible apply Kept.free
    | fail_if_no_progress (with_reducible refine Kept.updRegs ?_ (fun hk => ?_)) <;> try with_reducible exact hk.regs
    | fail_if_no_progress (with_reducible refine Kept.updEng ?_ (fun hk => EngOk.upd hk.eng ?_ ?_ ?_)) <;> try first | with_reducible rfl | with_reducible exact fun h => h
    | fail_if_no_progress (with_reducible refine Kept.updSd ?_ (fun hk => ?_)) <;> try with_reducible exact hk.sd
    | fail_if_no_progress (with_reducible refine Kept.updSatchel ?_ (fun hk => ?_)) <;> try with_reducible exact hk.satchel
    | with_reducible rfl
    | with_reducible refine Kept.lowHoldEq (q := q) ?_ ‹_›
    | split
    | (with_reducible apply Kept.free); split

end Sys2Proof.Machine
end

