-- ==== Sys2Proof/Laws/KeptCarrier.lean ====
section
/-!
SUPPORT. What every operation of Machine/Carrier.lean keeps (Laws/Kept.lean).
-/
namespace Sys2Proof.Machine

set_option linter.unusedTactic false
set_option linter.unreachableTactic false

theorem State.modPm_kept {q : List Instr} (s : State) (m : Nat) (f : PwmMod → PwmMod) (h : Kept q s) :
    Kept q (State.modPm s m f) := by
  unfold State.modPm
  repeat' first
    | with_reducible assumption
    | with_reducible exact fun h => h
    | exact fun _ => rfl
    | intro _
    | fail_if_no_progress with_reducible apply Kept.free
    | fail_if_no_progress (with_reducible refine Kept.updRegs ?_ (fun hk => ?_)) <;> try with_reducible exact hk.regs
    | fail_if_no_progress (with_reducible refine Kept.updPwm ?_ (fun hk => PwmOk.upd hk.pwm ?_ ?_)) <;> try first | with_reducible rfl | with_reducible exact fun h => h
    | fail_if_no_progress (with_reducible refine Kept.updSd ?_ (fun hk => ?_)) <;> try with_reducible exact hk.sd
    | fail_if_no_progress (with_reducible refine Kept.updSatchel ?_ (fun hk => ?_)) <;> try with_reducible exact hk.satchel
    | with_reducible rfl
    | with_reducible exact modAt_length _ _ _ _
    | exact modAt_length _ _ _ _
    | with_reducible refine Kept.modsEq (q := q) ?_ ‹_›
    | with_reducible refine Kept.holdsEq (q := q) ?_ ‹_›
    | split
    | (with_reducible apply Kept.free); split

theorem State.setAct_kept {q : List Instr} (s : State) (m : Nat) (w : Nat) (v : Nat) (h : Kept q s) :
    Kept q (State.setAct s m w v) := by
  unfold State.setAct
  repeat' first
    | with_reducible assumption
    | intro _
    | with_reducible apply State.setFld_kept
    | split
    | (with_reducible apply Kept.free); split

end Sys2Proof.Machine
end

