-- ==== Sys2Proof/Laws/KeptBurWords.lean ====
section
/-!
SUPPORT. What every operation of Machine/BurWords.lean keeps (Laws/Kept.lean).
-/
namespace Sys2Proof.Machine

set_option linter.unusedTactic false
set_option linter.unreachableTactic false

theorem State.modPoint_kept {q : List Instr} (s : State) (q_1 : Nat) (f : BurPoint → BurPoint) (h : Kept q s) :
    Kept q (State.modPoint s q_1 f) := by
  unfold State.modPoint
  repeat' first
    | with_reducible assumption
    | with_reducible exact fun h => h
    | exact fun _ => rfl
    | intro _
    | fail_if_no_progress with_reducible apply Kept.free
    | fail_if_no_progress (with_reducible refine Kept.updRegs ?_ (fun hk => ?_)) <;> try with_reducible exact hk.regs
    | fail_if_no_progress (with_reducible refine Kept.updSd ?_ (fun hk => ?_)) <;> try with_reducible exact hk.sd
    | fail_if_no_progress (with_reducible refine Kept.updBur ?_ (fun hk => BurOk.upd hk.bur ?_ ?_)) <;> try first | with_reducible rfl | with_reducible exact fun h => h
    | fail_if_no_progress (with_reducible refine Kept.updSatchel ?_ (fun hk => ?_)) <;> try with_reducible exact hk.satchel
    | with_reducible rfl
    | with_reducible exact modAt_length _ _ _ _
    | exact modAt_length _ _ _ _
    | with_reducible refine Kept.pointsEq (q := q) ?_ ‹_›
    | with_reducible refine Kept.accsEq (q := q) ?_ ‹_›
    | split
    | (with_reducible apply Kept.free); split

theorem State.modPhase_kept {q : List Instr} (s : State) (q_1 : Nat) (x : Nat) (f : BurPhase → BurPhase) (h : Kept q s) :
    Kept q (State.modPhase s q_1 x f) := by
  unfold State.modPhase
  repeat' first
    | with_reducible assumption
    | intro _
    | with_reducible apply State.modPoint_kept
    | split
    | (with_reducible apply Kept.free); split

theorem State.burEvent_kept {q : List Instr} (s : State) (code : Nat) (point : Nat) (phases : Nat) (ended : Bool) (extreme
    : Nat) (duration : Nat) (time : Nat) (h : Kept q s) :
    Kept q (State.burEvent s code point phases ended extreme duration time) := by
  unfold State.burEvent
  repeat' first
    | with_reducible assumption
    | intro _
    | with_reducible apply State.emit_kept
    | split
    | (with_reducible apply Kept.free); split

theorem State.burGap_kept {q : List Instr} (s : State) (q_1 : Nat) (x : Nat) (h : Kept q s) :
    Kept q (State.burGap s q_1 x) := by
  unfold State.burGap
  repeat' first
    | with_reducible assumption
    | intro _
    | with_reducible apply State.setFld_kept
    | with_reducible apply State.modPhase_kept
    | with_reducible apply State.burEvent_kept
    | with_reducible apply Kept.ite
    | split
    | (with_reducible apply Kept.free); split

theorem State.takeVolt_kept {q : List Instr} (s : State) (q_1 : Nat) (x : Nat) (w : SampleWord) (h : Kept q s) :
    Kept q (State.takeVolt s q_1 x w) := by
  unfold State.takeVolt
  repeat' first
    | with_reducible assumption
    | intro _
    | with_reducible apply State.modPhase_kept
    | with_reducible apply State.burGap_kept
    | split
    | (with_reducible apply Kept.free); split

theorem State.takeAmp_kept {q : List Instr} (s : State) (q_1 : Nat) (x : Nat) (w : SampleWord) (h : Kept q s) :
    Kept q (State.takeAmp s q_1 x w) := by
  unfold State.takeAmp
  repeat' first
    | with_reducible assumption
    | intro _
    | with_reducible apply State.modPhase_kept
    | with_reducible apply State.burGap_kept
    | with_reducible apply Kept.ite
    | split
    | (with_reducible apply Kept.free); split

theorem State.bursarTakes_kept {q : List Instr} (s : State) (w : SampleWord) (h : Kept q s) :
    Kept q (State.bursarTakes s w) := by
  unfold State.bursarTakes
  repeat' first
    | with_reducible assumption
    | intro _
    | with_reducible apply State.takeVolt_kept
    | with_reducible apply State.takeAmp_kept
    | with_reducible apply Kept.whenIf
    | with_reducible apply Kept.each
    | with_reducible apply Kept.ite
    | split
    | (with_reducible apply Kept.free); split

end Sys2Proof.Machine
end

