-- ==== Sys2Proof/Laws/KeptFabric.lean ====
section
/-!
SUPPORT. What every operation of Machine/Fabric.lean keeps (Laws/Kept.lean).
-/
namespace Sys2Proof.Machine

set_option linter.unusedTactic false
set_option linter.unreachableTactic false

theorem State.carry_kept {q : List Instr} (s : State) (sp : Nat) (h : Kept q s) :
    Kept q (State.carry s sp) := by
  unfold State.carry
  repeat' first
    | with_reducible assumption
    | with_reducible exact fun h => h
    | exact fun _ => rfl
    | intro _
    | fail_if_no_progress with_reducible apply Kept.free
    | fail_if_no_progress (with_reducible refine Kept.updRegs ?_ (fun hk => ?_)) <;> try with_reducible exact hk.regs
    | fail_if_no_progress (with_reducible refine Kept.updSd ?_ (fun hk => ?_)) <;> try with_reducible exact hk.sd
    | fail_if_no_progress (with_reducible refine Kept.updSatchel ?_ (fun hk => ?_)) <;> try with_reducible exact hk.satchel
    | with_reducible rfl
    | with_reducible exact modAt_length _ _ _ _
    | exact modAt_length _ _ _ _
    | split
    | (with_reducible apply Kept.free); split

theorem State.loadTick_kept {q : List Instr} (s : State) (h : Kept q s) :
    Kept q (State.loadTick s) := by
  unfold State.loadTick
  repeat' first
    | with_reducible assumption
    | with_reducible exact fun h => h
    | exact fun _ => rfl
    | intro _
    | with_reducible apply State.setFld_kept
    | with_reducible apply Kept.each
    | with_reducible apply Kept.ite
    | fail_if_no_progress with_reducible apply Kept.free
    | fail_if_no_progress (with_reducible refine Kept.updRegs ?_ (fun hk => ?_)) <;> try with_reducible exact hk.regs
    | fail_if_no_progress (with_reducible refine Kept.updSd ?_ (fun hk => ?_)) <;> try with_reducible exact hk.sd
    | fail_if_no_progress (with_reducible refine Kept.updSatchel ?_ (fun hk => ?_)) <;> try with_reducible exact hk.satchel
    | with_reducible rfl
    | split
    | (with_reducible apply Kept.free); split

theorem State.capture_kept {q : List Instr} (s : State) (a : Nat) (w : SampleWord) (h : Kept q s) :
    Kept q (State.capture s a w) := by
  unfold State.capture
  repeat' first
    | with_reducible assumption
    | intro _
    | with_reducible apply State.setCap_kept
    | with_reducible apply State.captureDone_kept
    | with_reducible apply State.carry_kept
    | with_reducible apply State.count_kept
    | with_reducible apply Kept.whenIf
    | with_reducible apply Kept.ite
    | split
    | (with_reducible apply Kept.free); split

theorem State.modEngine_kept {q : List Instr} (s : State) (n : Nat) (f : Engine → Engine) (h : Kept q s) (hf : ∀ e :
    Engine, e.Shaped → (f e).Shaped) :
    Kept q (State.modEngine s n f) := by
  unfold State.modEngine
  exact Kept.updEng h (fun hk => EngOk.upd hk.eng id (fun g => EnginesOk.modAt g hf) rfl)

theorem State.endWait_kept {q : List Instr} (s : State) (n : Nat) (tmo : Bool) (h : Kept q s) :
    Kept q (State.endWait s n tmo) := by
  unfold State.endWait
  repeat' first
    | with_reducible assumption
    | exact fun e he => he
    | exact fun e he => ⟨List.length_set.trans he.1, he.2⟩
    | exact fun e he => by simpa [Engine.Shaped] using he
    | exact fun e he => ⟨List.length_replicate, he.2⟩
    | exact fun e he => ⟨he.1, List.length_replicate⟩
    | exact fun e _ => ⟨rfl, rfl⟩
    | intro _
    | with_reducible apply State.modEngine_kept
    | split
    | (with_reducible apply Kept.free); split

theorem State.releaseWait_kept {q : List Instr} (s : State) (n : Nat) (h : Kept q s) :
    Kept q (State.releaseWait s n) := by
  unfold State.releaseWait
  repeat' first
    | with_reducible assumption
    | intro _
    | with_reducible apply State.endWait_kept
    | with_reducible apply Kept.ite
    | split
    | (with_reducible apply Kept.free); split

theorem State.subscribe_kept {q : List Instr} (s : State) (w : SampleWord) (n : Nat) (i : Nat) (h : Kept q s) :
    Kept q (State.subscribe s w n i) := by
  unfold State.subscribe
  repeat' first
    | with_reducible assumption
    | exact fun e he => he
    | exact fun e he => ⟨List.length_set.trans he.1, he.2⟩
    | exact fun e he => by simpa [Engine.Shaped] using he
    | exact fun e he => ⟨List.length_replicate, he.2⟩
    | exact fun e he => ⟨he.1, List.length_replicate⟩
    | exact fun e _ => ⟨rfl, rfl⟩
    | intro _
    | with_reducible apply State.releaseWait_kept
    | with_reducible apply State.modEngine_kept
    | with_reducible apply Kept.ite
    | split
    | (with_reducible apply Kept.free); split

theorem State.deliver_kept {q : List Instr} (s : State) (w : SampleWord) (h : Kept q s) :
    Kept q (State.deliver s w) := by
  unfold State.deliver
  repeat' first
    | with_reducible assumption
    | with_reducible exact fun h => h
    | exact fun _ => rfl
    | intro _
    | with_reducible apply State.carry_kept
    | with_reducible apply State.bursarTakes_kept
    | with_reducible apply State.subscribe_kept
    | with_reducible apply State.capture_kept
    | with_reducible apply Kept.each
    | fail_if_no_progress with_reducible apply Kept.free
    | fail_if_no_progress (with_reducible refine Kept.updRegs ?_ (fun hk => ?_)) <;> try with_reducible exact hk.regs
    | fail_if_no_progress (with_reducible refine Kept.updSd ?_ (fun hk => ?_)) <;> try with_reducible exact hk.sd
    | fail_if_no_progress (with_reducible refine Kept.updSatchel ?_ (fun hk => ?_)) <;> try with_reducible exact hk.satchel
    | with_reducible rfl
    | split
    | (with_reducible apply Kept.free); split

theorem State.offer_kept {q : List Instr} (s : State) (w : SampleWord) (spineFree : Bool) (h : Kept q s) :
    Kept q (State.offer s w spineFree) := by
  unfold State.offer
  repeat' first
    | with_reducible assumption
    | with_reducible exact fun h => h
    | exact fun _ => rfl
    | with_reducible exact SMap.wf_filter _
    | intro _
    | with_reducible apply State.deliver_kept
    | with_reducible apply State.event_kept
    | with_reducible apply State.count_kept
    | with_reducible apply Kept.each
    | with_reducible apply Kept.ite
    | fail_if_no_progress with_reducible apply Kept.free
    | fail_if_no_progress (with_reducible refine Kept.updRegs ?_ (fun hk => ?_)) <;> try with_reducible exact hk.regs
    | fail_if_no_progress (with_reducible refine Kept.updSd ?_ (fun hk => ?_)) <;> try with_reducible exact hk.sd
    | fail_if_no_progress (with_reducible refine Kept.updSatchel ?_ (fun hk => ?_)) <;> try with_reducible exact hk.satchel
    | with_reducible rfl
    | split
    | (with_reducible apply Kept.free); split

theorem execSampleWordOffer_kept {q : List Instr} (result : Nat) (reason : Nat) (source : Nat) (ts : Nat) (subst : Bool)
    (inj : Bool) (spineFree : Bool) (s : State) (h : Kept q s) :
    KeptOut q (execSampleWordOffer result reason source ts subst inj spineFree s) := by
  unfold execSampleWordOffer
  repeat' first
    | with_reducible assumption
    | with_reducible apply KeptOut.next
    | intro _
    | with_reducible apply State.offer_kept
    | split
    | dsimp only; split

end Sys2Proof.Machine
end

