-- ==== Sys2Proof/Laws/KeptSar.lean ====
section
/-!
SUPPORT. What every operation of Machine/Sar.lean keeps (Laws/Kept.lean).
-/
namespace Sys2Proof.Machine

set_option linter.unusedTactic false
set_option linter.unreachableTactic false

theorem State.modSlot_kept {q : List Instr} (s : State) (k : Nat) (f : SarSlot → SarSlot) (h : Kept q s) :
    Kept q (State.modSlot s k f) := by
  unfold State.modSlot
  repeat' first
    | with_reducible assumption
    | with_reducible exact fun h => h
    | exact fun _ => rfl
    | intro _
    | fail_if_no_progress with_reducible apply Kept.free
    | fail_if_no_progress (with_reducible refine Kept.updRegs ?_ (fun hk => ?_)) <;> try with_reducible exact hk.regs
    | fail_if_no_progress (with_reducible refine Kept.updSar ?_ (fun hk => SarOk.upd hk.sar ?_ ?_ ?_)) <;> try first | with_reducible rfl | with_reducible exact fun h => h
    | fail_if_no_progress (with_reducible refine Kept.updSd ?_ (fun hk => ?_)) <;> try with_reducible exact hk.sd
    | fail_if_no_progress (with_reducible refine Kept.updSatchel ?_ (fun hk => ?_)) <;> try with_reducible exact hk.satchel
    | with_reducible rfl
    | with_reducible exact modAt_length _ _ _ _
    | exact modAt_length _ _ _ _
    | with_reducible refine Kept.slotsSEq (q := q) ?_ ‹_›
    | with_reducible refine Kept.lastInputEq (q := q) ?_ ‹_›
    | with_reducible refine Kept.failsEq (q := q) ?_ ‹_›
    | split
    | (with_reducible apply Kept.free); split

theorem State.nextConv_kept {q : List Instr} (s : State) (k : Nat) (h : Kept q s) :
    Kept q (State.nextConv s k) := by
  unfold State.nextConv
  repeat' first
    | with_reducible assumption
    | intro _
    | with_reducible apply State.modSlot_kept
    | with_reducible apply State.setFld_kept
    | with_reducible apply Kept.whenIf
    | with_reducible apply Kept.ite
    | split
    | (with_reducible apply Kept.free); split

theorem State.trigger_kept {q : List Instr} (s : State) (k : Nat) (h : Kept q s) :
    Kept q (State.trigger s k) := by
  unfold State.trigger
  repeat' first
    | with_reducible assumption
    | intro _
    | with_reducible apply State.modSlot_kept
    | with_reducible apply State.nextConv_kept
    | with_reducible apply State.count_kept
    | with_reducible apply Kept.whenIf
    | with_reducible apply Kept.ite
    | split
    | (with_reducible apply Kept.free); split

theorem State.occurs_kept {q : List Instr} (s : State) (src : Nat → Bool) (h : Kept q s) :
    Kept q (State.occurs s src) := by
  unfold State.occurs
  repeat' first
    | with_reducible assumption
    | intro _
    | with_reducible apply State.modSlot_kept
    | with_reducible apply Kept.whenIf
    | with_reducible apply Kept.each
    | split
    | (with_reducible apply Kept.free); split

theorem State.pwmOccurs_kept {q : List Instr} (s : State) (m : Nat) (evt : Nat) (h : Kept q s) :
    Kept q (State.pwmOccurs s m evt) := by
  unfold State.pwmOccurs
  repeat' first
    | with_reducible assumption
    | intro _
    | with_reducible apply State.occurs_kept
    | split
    | (with_reducible apply Kept.free); split

theorem State.bellOccurs_kept {q : List Instr} (s : State) (h : Kept q s) :
    Kept q (State.bellOccurs s) := by
  unfold State.bellOccurs
  repeat' first
    | with_reducible assumption
    | intro _
    | with_reducible apply State.occurs_kept
    | split
    | (with_reducible apply Kept.free); split

theorem execSarBurstStart_kept {q : List Instr} (k : Nat) (s : State) (h : Kept q s) :
    KeptOut q (execSarBurstStart k s) := by
  unfold execSarBurstStart
  repeat' first
    | with_reducible assumption
    | with_reducible apply KeptOut.next
    | with_reducible apply KeptOut.ite
    | intro _
    | with_reducible apply State.modSlot_kept
    | with_reducible apply State.trigger_kept
    | with_reducible apply Kept.ite
    | split
    | dsimp only; split

theorem State.sarSwtrig_kept {q : List Instr} (s : State) (mask : Nat) (h : Kept q s) :
    Kept q (State.sarSwtrig s mask) := by
  unfold State.sarSwtrig
  repeat' first
    | with_reducible assumption
    | intro _
    | with_reducible apply State.trigger_kept
    | with_reducible apply Kept.whenIf
    | with_reducible apply Kept.each
    | split
    | (with_reducible apply Kept.free); split

theorem execSarSwtrigWrite_kept {q : List Instr} (core : Nat) (mask : Nat) (s : State) (h : Kept q s) :
    KeptOut q (execSarSwtrigWrite core mask s) := by
  unfold execSarSwtrigWrite
  repeat' first
    | with_reducible assumption
    | with_reducible apply KeptOut.next
    | intro _
    | with_reducible apply State.accessBlk_kept
    | with_reducible apply State.sarSwtrig_kept
    | split
    | dsimp only; split

theorem execSarFreeRunTrigger_kept {q : List Instr} (k : Nat) (s : State) (h : Kept q s) :
    KeptOut q (execSarFreeRunTrigger k s) := by
  unfold execSarFreeRunTrigger
  repeat' first
    | with_reducible assumption
    | with_reducible apply KeptOut.next
    | intro _
    | with_reducible apply State.trigger_kept
    | with_reducible apply Kept.whenIf
    | split
    | dsimp only; split

theorem State.endStep_kept {q : List Instr} (s : State) (h : Kept q s) :
    Kept q (State.endStep s) := by
  unfold State.endStep
  repeat' first
    | with_reducible assumption
    | with_reducible exact fun h => h
    | exact fun _ => rfl
    | intro _
    | with_reducible apply State.setFld_kept
    | fail_if_no_progress with_reducible apply Kept.free
    | fail_if_no_progress (with_reducible refine Kept.updRegs ?_ (fun hk => ?_)) <;> try with_reducible exact hk.regs
    | fail_if_no_progress (with_reducible refine Kept.updSar ?_ (fun hk => SarOk.upd hk.sar ?_ ?_ ?_)) <;> try first | with_reducible rfl | with_reducible exact fun h => h
    | fail_if_no_progress (with_reducible refine Kept.updSd ?_ (fun hk => ?_)) <;> try with_reducible exact hk.sd
    | fail_if_no_progress (with_reducible refine Kept.updSatchel ?_ (fun hk => ?_)) <;> try with_reducible exact hk.satchel
    | with_reducible rfl
    | with_reducible refine Kept.slotsSEq (q := q) ?_ ‹_›
    | with_reducible refine Kept.lastInputEq (q := q) ?_ ‹_›
    | with_reducible refine Kept.failsEq (q := q) ?_ ‹_›
    | split
    | (with_reducible apply Kept.free); split

theorem State.abandonStep_kept {q : List Instr} (s : State) (h : Kept q s) :
    Kept q (State.abandonStep s) := by
  unfold State.abandonStep
  repeat' first
    | with_reducible assumption
    | intro _
    | with_reducible apply State.endStep_kept
    | with_reducible apply State.setFld_kept
    | with_reducible apply Kept.whenIf
    | split
    | (with_reducible apply Kept.free); split

theorem State.stopRotation_kept {q : List Instr} (s : State) (h : Kept q s) :
    Kept q (State.stopRotation s) := by
  unfold State.stopRotation
  repeat' first
    | with_reducible assumption
    | with_reducible exact fun h => h
    | exact fun _ => rfl
    | intro _
    | with_reducible apply State.abandonStep_kept
    | fail_if_no_progress with_reducible apply Kept.free
    | fail_if_no_progress (with_reducible refine Kept.updRegs ?_ (fun hk => ?_)) <;> try with_reducible exact hk.regs
    | fail_if_no_progress (with_reducible refine Kept.updSar ?_ (fun hk => SarOk.upd hk.sar ?_ ?_ ?_)) <;> try first | with_reducible rfl | with_reducible exact fun h => h
    | fail_if_no_progress (with_reducible refine Kept.updSd ?_ (fun hk => ?_)) <;> try with_reducible exact hk.sd
    | fail_if_no_progress (with_reducible refine Kept.updSatchel ?_ (fun hk => ?_)) <;> try with_reducible exact hk.satchel
    | with_reducible rfl
    | with_reducible refine Kept.slotsSEq (q := q) ?_ ‹_›
    | with_reducible refine Kept.lastInputEq (q := q) ?_ ‹_›
    | with_reducible refine Kept.failsEq (q := q) ?_ ‹_›
    | split
    | (with_reducible apply Kept.free); split

theorem State.retireSlice_kept {q : List Instr} (s : State) (x : Nat) (h : Kept q s) :
    Kept q (State.retireSlice s x) := by
  unfold State.retireSlice
  repeat' first
    | with_reducible assumption
    | intro _
    | with_reducible apply State.setBit_kept
    | with_reducible apply State.recordRepair_kept
    | with_reducible apply State.event_kept
    | with_reducible apply State.setFld_kept
    | with_reducible apply State.consumeSpare_kept
    | with_reducible apply Kept.whenIf
    | with_reducible apply Kept.ite
    | split
    | (with_reducible apply Kept.free); split

theorem State.stallSlice_kept {q : List Instr} (s : State) (x : Nat) (h : Kept q s) :
    Kept q (State.stallSlice s x) := by
  unfold State.stallSlice
  repeat' first
    | with_reducible assumption
    | intro _
    | with_reducible apply State.modSlot_kept
    | with_reducible apply State.retireSlice_kept
    | with_reducible apply State.endStep_kept
    | with_reducible apply Kept.whenIf
    | with_reducible apply Kept.each
    | with_reducible apply Kept.ite
    | split
    | (with_reducible apply Kept.free); split

theorem State.calFailed_kept {q : List Instr} (s : State) (x : Nat) (h : Kept q s) :
    Kept q (State.calFailed s x) := by
  unfold State.calFailed
  repeat' first
    | with_reducible assumption
    | with_reducible exact fun h => h
    | exact fun _ => rfl
    | intro _
    | with_reducible apply State.count_kept
    | with_reducible apply State.setFld_kept
    | with_reducible apply State.retireSlice_kept
    | with_reducible apply Kept.whenIf
    | with_reducible apply Kept.ite
    | fail_if_no_progress with_reducible apply Kept.free
    | fail_if_no_progress (with_reducible refine Kept.updRegs ?_ (fun hk => ?_)) <;> try with_reducible exact hk.regs
    | fail_if_no_progress (with_reducible refine Kept.updSar ?_ (fun hk => SarOk.upd hk.sar ?_ ?_ ?_)) <;> try first | with_reducible rfl | with_reducible exact fun h => h
    | fail_if_no_progress (with_reducible refine Kept.updSd ?_ (fun hk => ?_)) <;> try with_reducible exact hk.sd
    | fail_if_no_progress (with_reducible refine Kept.updSatchel ?_ (fun hk => ?_)) <;> try with_reducible exact hk.satchel
    | with_reducible rfl
    | with_reducible exact List.length_set
    | with_reducible exact List.length_set.trans List.length_set
    | exact List.length_set
    | with_reducible refine Kept.slotsSEq (q := q) ?_ ‹_›
    | with_reducible refine Kept.lastInputEq (q := q) ?_ ‹_›
    | with_reducible refine Kept.failsEq (q := q) ?_ ‹_›
    | split
    | (with_reducible apply Kept.free); split

theorem State.startStep_kept {q : List Instr} (s : State) (h : Kept q s) :
    Kept q (State.startStep s) := by
  unfold State.startStep
  repeat' first
    | with_reducible assumption
    | with_reducible exact fun h => h
    | exact fun _ => rfl
    | intro _
    | with_reducible apply State.setFld_kept
    | with_reducible apply Kept.ite
    | fail_if_no_progress with_reducible apply Kept.free
    | fail_if_no_progress (with_reducible refine Kept.updRegs ?_ (fun hk => ?_)) <;> try with_reducible exact hk.regs
    | fail_if_no_progress (with_reducible refine Kept.updSar ?_ (fun hk => SarOk.upd hk.sar ?_ ?_ ?_)) <;> try first | with_reducible rfl | with_reducible exact fun h => h
    | fail_if_no_progress (with_reducible refine Kept.updSd ?_ (fun hk => ?_)) <;> try with_reducible exact hk.sd
    | fail_if_no_progress (with_reducible refine Kept.updSatchel ?_ (fun hk => ?_)) <;> try with_reducible exact hk.satchel
    | with_reducible rfl
    | with_reducible exact List.length_set
    | with_reducible exact List.length_set.trans List.length_set
    | exact List.length_set
    | with_reducible refine Kept.slotsSEq (q := q) ?_ ‹_›
    | with_reducible refine Kept.lastInputEq (q := q) ?_ ‹_›
    | with_reducible refine Kept.failsEq (q := q) ?_ ‹_›
    | split
    | (with_reducible apply Kept.free); split

theorem State.exitDone_kept {q : List Instr} (s : State) (h : Kept q s) :
    Kept q (State.exitDone s) := by
  unfold State.exitDone
  repeat' first
    | with_reducible assumption
    | intro _
    | with_reducible apply State.endStep_kept
    | with_reducible apply State.startStep_kept
    | with_reducible apply Kept.whenIf
    | split
    | (with_reducible apply Kept.free); split

theorem State.roundDone_kept {q : List Instr} (s : State) (h : Kept q s) :
    Kept q (State.roundDone s) := by
  unfold State.roundDone
  repeat' first
    | with_reducible assumption
    | with_reducible exact fun h => h
    | exact fun _ => rfl
    | intro _
    | with_reducible apply State.setFld_kept
    | with_reducible apply State.count_kept
    | with_reducible apply State.startStep_kept
    | with_reducible apply Kept.whenIf
    | fail_if_no_progress with_reducible apply Kept.free
    | fail_if_no_progress (with_reducible refine Kept.updRegs ?_ (fun hk => ?_)) <;> try with_reducible exact hk.regs
    | fail_if_no_progress (with_reducible refine Kept.updSar ?_ (fun hk => SarOk.upd hk.sar ?_ ?_ ?_)) <;> try first | with_reducible rfl | with_reducible exact fun h => h
    | fail_if_no_progress (with_reducible refine Kept.updSd ?_ (fun hk => ?_)) <;> try with_reducible exact hk.sd
    | fail_if_no_progress (with_reducible refine Kept.updSatchel ?_ (fun hk => ?_)) <;> try with_reducible exact hk.satchel
    | with_reducible rfl
    | with_reducible refine Kept.slotsSEq (q := q) ?_ ‹_›
    | with_reducible refine Kept.lastInputEq (q := q) ?_ ‹_›
    | with_reducible refine Kept.failsEq (q := q) ?_ ‹_›
    | split
    | (with_reducible apply Kept.free); split

theorem State.loseEntry_kept {q : List Instr} (s : State) (h : Kept q s) :
    Kept q (State.loseEntry s) := by
  unfold State.loseEntry
  repeat' first
    | with_reducible assumption
    | with_reducible exact fun h => h
    | exact fun _ => rfl
    | intro _
    | with_reducible apply State.setFld_kept
    | with_reducible apply State.exitDone_kept
    | with_reducible apply State.event_kept
    | with_reducible apply State.setBit_kept
    | with_reducible apply Kept.whenIf
    | fail_if_no_progress with_reducible apply Kept.free
    | fail_if_no_progress (with_reducible refine Kept.updRegs ?_ (fun hk => ?_)) <;> try with_reducible exact hk.regs
    | fail_if_no_progress (with_reducible refine Kept.updSar ?_ (fun hk => SarOk.upd hk.sar ?_ ?_ ?_)) <;> try first | with_reducible rfl | with_reducible exact fun h => h
    | fail_if_no_progress (with_reducible refine Kept.updSd ?_ (fun hk => ?_)) <;> try with_reducible exact hk.sd
    | fail_if_no_progress (with_reducible refine Kept.updSatchel ?_ (fun hk => ?_)) <;> try with_reducible exact hk.satchel
    | with_reducible rfl
    | with_reducible refine Kept.slotsSEq (q := q) ?_ ‹_›
    | with_reducible refine Kept.lastInputEq (q := q) ?_ ‹_›
    | with_reducible refine Kept.failsEq (q := q) ?_ ‹_›
    | split
    | (with_reducible apply Kept.free); split

theorem State.loseExit_kept {q : List Instr} (s : State) (h : Kept q s) :
    Kept q (State.loseExit s) := by
  unfold State.loseExit
  repeat' first
    | with_reducible assumption
    | with_reducible exact fun h => h
    | exact fun _ => rfl
    | intro _
    | with_reducible apply State.setFld_kept
    | fail_if_no_progress with_reducible apply Kept.free
    | fail_if_no_progress (with_reducible refine Kept.updRegs ?_ (fun hk => ?_)) <;> try with_reducible exact hk.regs
    | fail_if_no_progress (with_reducible refine Kept.updSar ?_ (fun hk => SarOk.upd hk.sar ?_ ?_ ?_)) <;> try first | with_reducible rfl | with_reducible exact fun h => h
    | fail_if_no_progress (with_reducible refine Kept.updSd ?_ (fun hk => ?_)) <;> try with_reducible exact hk.sd
    | fail_if_no_progress (with_reducible refine Kept.updSatchel ?_ (fun hk => ?_)) <;> try with_reducible exact hk.satchel
    | with_reducible rfl
    | with_reducible refine Kept.slotsSEq (q := q) ?_ ‹_›
    | with_reducible refine Kept.lastInputEq (q := q) ?_ ‹_›
    | with_reducible refine Kept.failsEq (q := q) ?_ ‹_›
    | split
    | (with_reducible apply Kept.free); split

theorem execBackgroundStepStart_kept {q : List Instr} (s : State) (h : Kept q s) :
    KeptOut q (execBackgroundStepStart s) := by
  unfold execBackgroundStepStart
  repeat' first
    | with_reducible assumption
    | with_reducible apply KeptOut.next
    | with_reducible apply KeptOut.ite
    | with_reducible exact fun h => h
    | exact fun _ => rfl
    | intro _
    | with_reducible apply State.startStep_kept
    | with_reducible apply State.setFld_kept
    | with_reducible apply Kept.whenIf
    | with_reducible apply Kept.ite
    | fail_if_no_progress with_reducible apply Kept.free
    | fail_if_no_progress (with_reducible refine Kept.updRegs ?_ (fun hk => ?_)) <;> try with_reducible exact hk.regs
    | fail_if_no_progress (with_reducible refine Kept.updSar ?_ (fun hk => SarOk.upd hk.sar ?_ ?_ ?_)) <;> try first | with_reducible rfl | with_reducible exact fun h => h
    | fail_if_no_progress (with_reducible refine Kept.updSd ?_ (fun hk => ?_)) <;> try with_reducible exact hk.sd
    | fail_if_no_progress (with_reducible refine Kept.updSatchel ?_ (fun hk => ?_)) <;> try with_reducible exact hk.satchel
    | with_reducible rfl
    | with_reducible refine Kept.slotsSEq (q := q) ?_ ‹_›
    | with_reducible refine Kept.lastInputEq (q := q) ?_ ‹_›
    | with_reducible refine Kept.failsEq (q := q) ?_ ‹_›
    | split
    | dsimp only; split

theorem State.openPair_kept {q : List Instr} (s : State) (phase : Nat) (h : Kept q s) :
    Kept q (State.openPair s phase) := by
  unfold State.openPair
  repeat' first
    | with_reducible assumption
    | with_reducible exact fun h => h
    | exact fun _ => rfl
    | intro _
    | with_reducible apply State.setFld_kept
    | fail_if_no_progress with_reducible apply Kept.free
    | fail_if_no_progress (with_reducible refine Kept.updRegs ?_ (fun hk => ?_)) <;> try with_reducible exact hk.regs
    | fail_if_no_progress (with_reducible refine Kept.updSar ?_ (fun hk => SarOk.upd hk.sar ?_ ?_ ?_)) <;> try first | with_reducible rfl | with_reducible exact fun h => h
    | fail_if_no_progress (with_reducible refine Kept.updSd ?_ (fun hk => ?_)) <;> try with_reducible exact hk.sd
    | fail_if_no_progress (with_reducible refine Kept.updSatchel ?_ (fun hk => ?_)) <;> try with_reducible exact hk.satchel
    | with_reducible rfl
    | with_reducible refine Kept.slotsSEq (q := q) ?_ ‹_›
    | with_reducible refine Kept.lastInputEq (q := q) ?_ ‹_›
    | with_reducible refine Kept.failsEq (q := q) ?_ ‹_›
    | split
    | (with_reducible apply Kept.free); split

theorem execSubstEntryOpportunity_kept {q : List Instr} (s : State) (h : Kept q s) :
    KeptOut q (execSubstEntryOpportunity s) := by
  unfold execSubstEntryOpportunity
  repeat' first
    | with_reducible assumption
    | with_reducible apply KeptOut.next
    | with_reducible apply KeptOut.ite
    | intro _
    | with_reducible apply State.setFld_kept
    | with_reducible apply State.openPair_kept
    | with_reducible apply State.loseEntry_kept
    | with_reducible apply Kept.ite
    | split
    | dsimp only; split

theorem execSubstExitOpportunity_kept {q : List Instr} (s : State) (h : Kept q s) :
    KeptOut q (execSubstExitOpportunity s) := by
  unfold execSubstExitOpportunity
  repeat' first
    | with_reducible assumption
    | with_reducible apply KeptOut.next
    | with_reducible apply KeptOut.ite
    | intro _
    | with_reducible apply State.exitDone_kept
    | with_reducible apply State.openPair_kept
    | with_reducible apply Kept.ite
    | split
    | dsimp only; split

theorem execSliceCalComplete_kept {q : List Instr} (slice : Nat) (ofs : Int) (gain : Int) (residualOk : Bool) (s : State)
    (h : Kept q s) :
    KeptOut q (execSliceCalComplete slice ofs gain residualOk s) := by
  unfold execSliceCalComplete
  repeat' first
    | with_reducible assumption
    | with_reducible apply KeptOut.next
    | with_reducible apply KeptOut.ite
    | with_reducible exact fun h => h
    | exact fun _ => rfl
    | intro _
    | with_reducible apply State.setFld_kept
    | with_reducible apply State.roundDone_kept
    | with_reducible apply State.calFailed_kept
    | with_reducible apply Kept.whenIf
    | with_reducible apply Kept.ite
    | fail_if_no_progress with_reducible apply Kept.free
    | fail_if_no_progress (with_reducible refine Kept.updRegs ?_ (fun hk => ?_)) <;> try with_reducible exact hk.regs
    | fail_if_no_progress (with_reducible refine Kept.updSar ?_ (fun hk => SarOk.upd hk.sar ?_ ?_ ?_)) <;> try first | with_reducible rfl | with_reducible exact fun h => h
    | fail_if_no_progress (with_reducible refine Kept.updSd ?_ (fun hk => ?_)) <;> try with_reducible exact hk.sd
    | fail_if_no_progress (with_reducible refine Kept.updSatchel ?_ (fun hk => ?_)) <;> try with_reducible exact hk.satchel
    | with_reducible rfl
    | with_reducible exact List.length_set
    | with_reducible exact List.length_set.trans List.length_set
    | exact List.length_set
    | with_reducible refine Kept.slotsSEq (q := q) ?_ ‹_›
    | with_reducible refine Kept.lastInputEq (q := q) ?_ ‹_›
    | with_reducible refine Kept.failsEq (q := q) ?_ ‹_›
    | split
    | dsimp only; split

theorem State.startFgCal_kept {q : List Instr} (s : State) (h : Kept q s) :
    Kept q (State.startFgCal s) := by
  unfold State.startFgCal
  repeat' first
    | with_reducible assumption
    | with_reducible exact fun h => h
    | exact fun _ => rfl
    | intro _
    | with_reducible apply State.setFld_kept
    | fail_if_no_progress with_reducible apply Kept.free
    | fail_if_no_progress (with_reducible refine Kept.updRegs ?_ (fun hk => ?_)) <;> try with_reducible exact hk.regs
    | fail_if_no_progress (with_reducible refine Kept.updSar ?_ (fun hk => SarOk.upd hk.sar ?_ ?_ ?_)) <;> try first | with_reducible rfl | with_reducible exact fun h => h
    | fail_if_no_progress (with_reducible refine Kept.updSd ?_ (fun hk => ?_)) <;> try with_reducible exact hk.sd
    | fail_if_no_progress (with_reducible refine Kept.updSatchel ?_ (fun hk => ?_)) <;> try with_reducible exact hk.satchel
    | with_reducible rfl
    | with_reducible refine Kept.slotsSEq (q := q) ?_ ‹_›
    | with_reducible refine Kept.lastInputEq (q := q) ?_ ‹_›
    | with_reducible refine Kept.failsEq (q := q) ?_ ‹_›
    | exact hk.sar.1.symm
    | exact hk.sar.2.1.symm
    | exact hk.sar.2.2.symm
    | split
    | (with_reducible apply Kept.free); split

theorem execRefReadySet_kept {q : List Instr} (s : State) (h : Kept q s) :
    KeptOut q (execRefReadySet s) := by
  unfold execRefReadySet
  repeat' first
    | with_reducible assumption
    | with_reducible apply KeptOut.next
    | with_reducible apply KeptOut.ite
    | intro _
    | with_reducible apply State.setFld_kept
    | with_reducible apply State.startFgCal_kept
    | with_reducible apply Kept.whenIf
    | with_reducible apply Kept.ite
    | split
    | dsimp only; split

theorem execForegroundCalComplete_kept {q : List Instr} (s : State) (h : Kept q s) :
    KeptOut q (execForegroundCalComplete s) := by
  unfold execForegroundCalComplete
  repeat' first
    | with_reducible assumption
    | with_reducible apply KeptOut.next
    | with_reducible apply KeptOut.ite
    | with_reducible exact fun h => h
    | exact fun _ => rfl
    | intro _
    | with_reducible apply State.setFld_kept
    | with_reducible apply State.nextConv_kept
    | with_reducible apply Kept.whenIf
    | with_reducible apply Kept.each
    | with_reducible apply Kept.ite
    | fail_if_no_progress with_reducible apply Kept.free
    | fail_if_no_progress (with_reducible refine Kept.updRegs ?_ (fun hk => ?_)) <;> try with_reducible exact hk.regs
    | fail_if_no_progress (with_reducible refine Kept.updSar ?_ (fun hk => SarOk.upd hk.sar ?_ ?_ ?_)) <;> try first | with_reducible rfl | with_reducible exact fun h => h
    | fail_if_no_progress (with_reducible refine Kept.updSd ?_ (fun hk => ?_)) <;> try with_reducible exact hk.sd
    | fail_if_no_progress (with_reducible refine Kept.updSatchel ?_ (fun hk => ?_)) <;> try with_reducible exact hk.satchel
    | with_reducible rfl
    | with_reducible refine Kept.slotsSEq (q := q) ?_ ‹_›
    | with_reducible refine Kept.lastInputEq (q := q) ?_ ‹_›
    | with_reducible refine Kept.failsEq (q := q) ?_ ‹_›
    | exact hk.sar.1.symm
    | exact hk.sar.2.1.symm
    | exact hk.sar.2.2.symm
    | split
    | dsimp only; split

theorem State.reverseSwap_kept {q : List Instr} (s : State) (h : Kept q s) :
    Kept q (State.reverseSwap s) := by
  unfold State.reverseSwap
  repeat' first
    | with_reducible assumption
    | intro _
    | with_reducible apply State.loseEntry_kept
    | with_reducible apply State.loseExit_kept
    | with_reducible apply Kept.whenIf
    | with_reducible apply Kept.ite
    | split
    | (with_reducible apply Kept.free); split

theorem execVrefpOutOfRange_kept {q : List Instr} (s : State) (h : Kept q s) :
    KeptOut q (execVrefpOutOfRange s) := by
  unfold execVrefpOutOfRange
  repeat' first
    | with_reducible assumption
    | with_reducible apply KeptOut.next
    | with_reducible apply KeptOut.ite
    | intro _
    | with_reducible apply State.reverseSwap_kept
    | with_reducible apply State.setFld_kept
    | with_reducible apply Kept.ite
    | split
    | dsimp only; split

theorem State.inject_kept {q : List Instr} (s : State) (k : Nat) (input : Nat) (ext : Nat) (h : Kept q s) :
    Kept q (State.inject s k input ext) := by
  unfold State.inject
  repeat' first
    | with_reducible assumption
    | with_reducible exact fun h => h
    | exact fun _ => rfl
    | intro _
    | with_reducible apply State.event_kept
    | with_reducible apply State.setFld_kept
    | with_reducible apply State.modSlot_kept
    | with_reducible apply State.nextConv_kept
    | with_reducible apply Kept.whenIf
    | with_reducible apply Kept.ite
    | fail_if_no_progress with_reducible apply Kept.free
    | fail_if_no_progress (with_reducible refine Kept.updRegs ?_ (fun hk => ?_)) <;> try with_reducible exact hk.regs
    | fail_if_no_progress (with_reducible refine Kept.updSar ?_ (fun hk => SarOk.upd hk.sar ?_ ?_ ?_)) <;> try first | with_reducible rfl | with_reducible exact fun h => h
    | fail_if_no_progress (with_reducible refine Kept.updSd ?_ (fun hk => ?_)) <;> try with_reducible exact hk.sd
    | fail_if_no_progress (with_reducible refine Kept.updSatchel ?_ (fun hk => ?_)) <;> try with_reducible exact hk.satchel
    | with_reducible rfl
    | with_reducible refine Kept.slotsSEq (q := q) ?_ ‹_›
    | with_reducible refine Kept.lastInputEq (q := q) ?_ ‹_›
    | with_reducible refine Kept.failsEq (q := q) ?_ ‹_›
    | split
    | (with_reducible apply Kept.free); split

theorem execSarInjWrite_kept {q : List Instr} (core : Nat) (k : Nat) (input : Nat) (ext : Nat) (s : State) (h : Kept q s) :
    KeptOut q (execSarInjWrite core k input ext s) := by
  unfold execSarInjWrite
  repeat' first
    | with_reducible assumption
    | with_reducible apply KeptOut.next
    | with_reducible apply KeptOut.ite
    | intro _
    | with_reducible apply State.accessBlk_kept
    | with_reducible apply State.inject_kept
    | with_reducible apply Kept.ite
    | split
    | dsimp only; split

theorem State.pairStep_kept {q : List Instr} (s : State) (own : Nat) (subst : Nat) (h : Kept q s) :
    Kept q (State.pairStep s own subst) := by
  unfold State.pairStep
  repeat' first
    | with_reducible assumption
    | with_reducible exact fun h => h
    | exact fun _ => rfl
    | intro _
    | with_reducible apply State.loseEntry_kept
    | with_reducible apply State.setFld_kept
    | with_reducible apply State.loseExit_kept
    | with_reducible apply State.calFailed_kept
    | with_reducible apply State.exitDone_kept
    | with_reducible apply Kept.whenIf
    | with_reducible apply Kept.ite
    | fail_if_no_progress with_reducible apply Kept.free
    | fail_if_no_progress (with_reducible refine Kept.updRegs ?_ (fun hk => ?_)) <;> try with_reducible exact hk.regs
    | fail_if_no_progress (with_reducible refine Kept.updSar ?_ (fun hk => SarOk.upd hk.sar ?_ ?_ ?_)) <;> try first | with_reducible rfl | with_reducible exact fun h => h
    | fail_if_no_progress (with_reducible refine Kept.updSd ?_ (fun hk => ?_)) <;> try with_reducible exact hk.sd
    | fail_if_no_progress (with_reducible refine Kept.updSatchel ?_ (fun hk => ?_)) <;> try with_reducible exact hk.satchel
    | with_reducible rfl
    | with_reducible refine Kept.slotsSEq (q := q) ?_ ‹_›
    | with_reducible refine Kept.lastInputEq (q := q) ?_ ‹_›
    | with_reducible refine Kept.failsEq (q := q) ?_ ‹_›
    | split
    | (with_reducible apply Kept.free); split

theorem State.judgePair_kept {q : List Instr} (s : State) (k : Nat) (hold : Nat) (h : Kept q s) :
    Kept q (State.judgePair s k hold) := by
  unfold State.judgePair
  repeat' first
    | with_reducible assumption
    | intro _
    | with_reducible apply State.loseEntry_kept
    | with_reducible apply State.loseExit_kept
    | with_reducible apply Kept.whenIf
    | with_reducible apply Kept.ite
    | split
    | (with_reducible apply Kept.free); split

theorem State.sarResult_kept {q : List Instr} (s : State) (vin : Int) (vref : Nat) (h : Kept q s) :
    Kept q (State.sarResult s vin vref).2 := by
  unfold State.sarResult
  repeat' first
    | with_reducible assumption
    | intro _
    | with_reducible apply State.roundFree_kept
    | (with_reducible refine Kept.snd ?_ (by assumption)); with_reducible apply State.roundFree_kept
    | with_reducible apply Kept.ite
    | with_reducible apply Kept.iteSnd
    | dsimp only
    | split
    | (with_reducible apply Kept.free); split

theorem State.convert_kept {q : List Instr} (s : State) (k : Nat) (own : Nat) (subst : Nat) (hold : Nat) (c : SarConv) (h :
    Kept q s) :
    Kept q (State.convert s k own subst hold c) := by
  unfold State.convert
  repeat' first
    | with_reducible assumption
    | with_reducible exact fun h => h
    | exact fun _ => rfl
    | with_reducible exact foldSet_wf _ _ _
    | intro _
    | with_reducible apply State.modSlot_kept
    | with_reducible apply State.count_kept
    | with_reducible apply State.setFld_kept
    | with_reducible apply State.pairStep_kept
    | with_reducible apply State.nextConv_kept
    | with_reducible apply State.offer_kept
    | with_reducible apply Kept.whenIf
    | with_reducible apply Kept.foldl
    | with_reducible apply Kept.ite
    | fail_if_no_progress with_reducible apply Kept.free
    | fail_if_no_progress (with_reducible refine Kept.updRegs ?_ (fun hk => ?_)) <;> try with_reducible exact hk.regs
    | fail_if_no_progress (with_reducible refine Kept.updSar ?_ (fun hk => SarOk.upd hk.sar ?_ ?_ ?_)) <;> try first | with_reducible rfl | with_reducible exact fun h => h
    | fail_if_no_progress (with_reducible refine Kept.updSd ?_ (fun hk => ?_)) <;> try with_reducible exact hk.sd
    | fail_if_no_progress (with_reducible refine Kept.updSatchel ?_ (fun hk => ?_)) <;> try with_reducible exact hk.satchel
    | with_reducible rfl
    | with_reducible exact List.length_set
    | with_reducible exact length_foldl_set (fun x => x) _ _
    | with_reducible exact List.length_set.trans List.length_set
    | exact List.length_set
    | with_reducible refine Kept.slotsSEq (q := q) ?_ ‹_›
    | with_reducible refine Kept.lastInputEq (q := q) ?_ ‹_›
    | with_reducible refine Kept.failsEq (q := q) ?_ ‹_›
    | split
    | (with_reducible apply Kept.free); split

theorem execSarConversionComplete_kept {q : List Instr} (k : Nat) (own : Int) (subst : Int) (hold : SarHold) (s : State) (h
    : Kept q s) :
    KeptOut q (execSarConversionComplete k own subst hold s) := by
  unfold execSarConversionComplete
  repeat' first
    | with_reducible assumption
    | with_reducible apply KeptOut.next
    | intro _
    | with_reducible apply State.sarResult_kept
    | (with_reducible refine Kept.snd ?_ (by assumption)); with_reducible apply State.sarResult_kept
    | with_reducible apply State.convert_kept
    | with_reducible apply State.judgePair_kept
    | split
    | dsimp only; split

theorem State.sarLeave_kept {q : List Instr} (s : State) (h : Kept q s) :
    Kept q (State.sarLeave s) := by
  unfold State.sarLeave
  repeat' first
    | with_reducible assumption
    | with_reducible exact fun h => h
    | exact fun _ => rfl
    | intro _
    | with_reducible apply State.modSlot_kept
    | with_reducible apply State.setFld_kept
    | with_reducible apply State.event_kept
    | with_reducible apply State.abandonStep_kept
    | with_reducible apply Kept.whenIf
    | with_reducible apply Kept.each
    | fail_if_no_progress with_reducible apply Kept.free
    | fail_if_no_progress (with_reducible refine Kept.updRegs ?_ (fun hk => ?_)) <;> try with_reducible exact hk.regs
    | fail_if_no_progress (with_reducible refine Kept.updSar ?_ (fun hk => SarOk.upd hk.sar ?_ ?_ ?_)) <;> try first | with_reducible rfl | with_reducible exact fun h => h
    | fail_if_no_progress (with_reducible refine Kept.updSd ?_ (fun hk => ?_)) <;> try with_reducible exact hk.sd
    | fail_if_no_progress (with_reducible refine Kept.updSatchel ?_ (fun hk => ?_)) <;> try with_reducible exact hk.satchel
    | with_reducible rfl
    | with_reducible refine Kept.slotsSEq (q := q) ?_ ‹_›
    | with_reducible refine Kept.lastInputEq (q := q) ?_ ‹_›
    | with_reducible refine Kept.failsEq (q := q) ?_ ‹_›
    | exact hk.sar.1.symm
    | exact hk.sar.2.1.symm
    | exact hk.sar.2.2.symm
    | split
    | (with_reducible apply Kept.free); split

theorem State.sarApplied_kept {q : List Instr} (s : State) (oldSel : Nat) (h : Kept q s) :
    Kept q (State.sarApplied s oldSel) := by
  unfold State.sarApplied
  repeat' first
    | with_reducible assumption
    | with_reducible exact fun h => h
    | exact fun _ => rfl
    | intro _
    | with_reducible apply State.setFld_kept
    | with_reducible apply State.startFgCal_kept
    | with_reducible apply Kept.whenIf
    | fail_if_no_progress with_reducible apply Kept.free
    | fail_if_no_progress (with_reducible refine Kept.updRegs ?_ (fun hk => ?_)) <;> try with_reducible exact hk.regs
    | fail_if_no_progress (with_reducible refine Kept.updSar ?_ (fun hk => SarOk.upd hk.sar ?_ ?_ ?_)) <;> try first | with_reducible rfl | with_reducible exact fun h => h
    | fail_if_no_progress (with_reducible refine Kept.updSd ?_ (fun hk => ?_)) <;> try with_reducible exact hk.sd
    | fail_if_no_progress (with_reducible refine Kept.updSatchel ?_ (fun hk => ?_)) <;> try with_reducible exact hk.satchel
    | with_reducible rfl
    | with_reducible refine Kept.slotsSEq (q := q) ?_ ‹_›
    | with_reducible refine Kept.lastInputEq (q := q) ?_ ‹_›
    | with_reducible refine Kept.failsEq (q := q) ?_ ‹_›
    | split
    | (with_reducible apply Kept.free); split

end Sys2Proof.Machine
end

