-- ==== Sys2Proof/Laws/KeptPads.lean ====
section
/-!
SUPPORT. What every operation of Machine/Pads.lean keeps (Laws/Kept.lean).
-/
namespace Sys2Proof.Machine

set_option linter.unusedTactic false
set_option linter.unreachableTactic false

theorem State.edgeRecord_kept {q : List Instr} (s : State) (m : Nat) (kind : Nat) (inst : Nat) (tripf : Bool) (carry :
    Bool) (h : Kept q s) :
    Kept q (State.edgeRecord s m kind inst tripf carry) := by
  unfold State.edgeRecord
  repeat' first
    | with_reducible assumption
    | intro _
    | with_reducible apply State.offer_kept
    | with_reducible apply Kept.whenIf
    | split
    | (with_reducible apply Kept.free); split

theorem State.setSide_kept {q : List Instr} (s : State) (m : Nat) (low : Bool) (lvl : Bool) (inst : Nat) (tripf : Bool)
    (carry : Bool) (h : Kept q s) :
    Kept q (State.setSide s m low lvl inst tripf carry) := by
  unfold State.setSide
  repeat' first
    | with_reducible assumption
    | with_reducible exact fun h => h
    | exact fun _ => rfl
    | intro _
    | with_reducible apply State.modPm_kept
    | with_reducible apply State.edgeRecord_kept
    | with_reducible apply Kept.whenIf
    | with_reducible apply Kept.ite
    | fail_if_no_progress with_reducible apply Kept.free
    | fail_if_no_progress (with_reducible refine Kept.updRegs ?_ (fun hk => ?_)) <;> try with_reducible exact hk.regs
    | fail_if_no_progress (with_reducible refine Kept.updSd ?_ (fun hk => ?_)) <;> try with_reducible exact hk.sd
    | fail_if_no_progress (with_reducible refine Kept.updSatchel ?_ (fun hk => ?_)) <;> try with_reducible exact hk.satchel
    | with_reducible rfl
    | split
    | (with_reducible apply Kept.free); split

theorem State.startLeb_kept {q : List Instr} (s : State) (m : Nat) (low : Bool) (h : Kept q s) :
    Kept q (State.startLeb s m low) := by
  unfold State.startLeb
  repeat' first
    | with_reducible assumption
    | with_reducible exact fun h => h
    | exact fun _ => rfl
    | intro _
    | with_reducible apply Kept.ite
    | fail_if_no_progress with_reducible apply Kept.free
    | fail_if_no_progress (with_reducible refine Kept.updRegs ?_ (fun hk => ?_)) <;> try with_reducible exact hk.regs
    | fail_if_no_progress (with_reducible refine Kept.updSd ?_ (fun hk => ?_)) <;> try with_reducible exact hk.sd
    | fail_if_no_progress (with_reducible refine Kept.updTrip ?_ (fun hk => TripOk.upd hk.trip ?_)) <;> try first | with_reducible rfl | with_reducible exact fun h => h
    | fail_if_no_progress (with_reducible refine Kept.updSatchel ?_ (fun hk => ?_)) <;> try with_reducible exact hk.satchel
    | with_reducible rfl
    | with_reducible exact List.length_mapIdx
    | with_reducible refine Kept.chansEq (q := q) ?_ ‹_›
    | split
    | (with_reducible apply Kept.free); split

theorem State.setCmd_kept {q : List Instr} (s : State) (m : Nat) (low : Bool) (lvl : Bool) (inst : Nat) (carry : Bool) (h :
    Kept q s) :
    Kept q (State.setCmd s m low lvl inst carry) := by
  unfold State.setCmd
  repeat' first
    | with_reducible assumption
    | intro _
    | with_reducible apply State.modPm_kept
    | with_reducible apply State.startLeb_kept
    | with_reducible apply State.setSide_kept
    | with_reducible apply Kept.whenIf
    | with_reducible apply Kept.ite
    | split
    | (with_reducible apply Kept.free); split

theorem State.setCarry_kept {q : List Instr} (s : State) (m : Nat) (c : Int) (h : Kept q s) :
    Kept q (State.setCarry s m c) := by
  unfold State.setCarry
  repeat' first
    | with_reducible assumption
    | intro _
    | with_reducible apply State.setFld_kept
    | with_reducible apply Kept.whenIf
    | split
    | (with_reducible apply Kept.free); split

theorem State.leaveFollow_kept {q : List Instr} (s : State) (m : Nat) (mode : PadMode) (h : Kept q s) :
    Kept q (State.leaveFollow s m mode) := by
  unfold State.leaveFollow
  repeat' first
    | with_reducible assumption
    | intro _
    | with_reducible apply State.modPm_kept
    | with_reducible apply State.setFld_kept
    | with_reducible apply Kept.ite
    | split
    | (with_reducible apply Kept.free); split

theorem State.padsOff_kept {q : List Instr} (s : State) (m : Nat) (mode : PadMode) (tripf : Bool) (h : Kept q s) :
    Kept q (State.padsOff s m mode tripf) := by
  unfold State.padsOff
  repeat' first
    | with_reducible assumption
    | intro _
    | with_reducible apply State.leaveFollow_kept
    | with_reducible apply State.setSide_kept
    | split
    | (with_reducible apply Kept.free); split

theorem State.stage1_kept {q : List Instr} (s : State) (k : Nat) (m : Nat) (tripf : Bool) (h : Kept q s) :
    Kept q (State.stage1 s k m tripf) := by
  unfold State.stage1
  repeat' first
    | with_reducible assumption
    | intro _
    | with_reducible apply State.leaveFollow_kept
    | with_reducible apply State.setSide_kept
    | with_reducible apply Kept.ite
    | split
    | (with_reducible apply Kept.free); split

theorem State.legOff_kept {q : List Instr} (s : State) (k : Nat) (tripf : Bool) (h : Kept q s) :
    Kept q (State.legOff s k tripf) := by
  unfold State.legOff
  repeat' first
    | with_reducible assumption
    | with_reducible exact fun h => h
    | exact fun _ => rfl
    | with_reducible exact SMap.wf_filter _
    | intro _
    | with_reducible apply State.stage1_kept
    | with_reducible apply Kept.each
    | with_reducible apply Kept.ite
    | fail_if_no_progress with_reducible apply Kept.free
    | fail_if_no_progress (with_reducible refine Kept.updRegs ?_ (fun hk => ?_)) <;> try with_reducible exact hk.regs
    | fail_if_no_progress (with_reducible refine Kept.updSd ?_ (fun hk => ?_)) <;> try with_reducible exact hk.sd
    | fail_if_no_progress (with_reducible refine Kept.updSatchel ?_ (fun hk => ?_)) <;> try with_reducible exact hk.satchel
    | with_reducible rfl
    | split
    | (with_reducible apply Kept.free); split

theorem State.putDown_kept {q : List Instr} (s : State) (m : Nat) (mode : PadMode) (tripf : Bool) (h : Kept q s) :
    Kept q (State.putDown s m mode tripf) := by
  unfold State.putDown
  repeat' first
    | with_reducible assumption
    | intro _
    | with_reducible apply State.padsOff_kept
    | with_reducible apply State.legOff_kept
    | with_reducible apply Kept.ite
    | split
    | (with_reducible apply Kept.free); split

theorem State.settlePads_kept {q : List Instr} (s : State) (h : Kept q s) :
    Kept q (State.settlePads s) := by
  unfold State.settlePads
  repeat' first
    | with_reducible assumption
    | intro _
    | with_reducible apply State.putDown_kept
    | with_reducible apply Kept.each
    | with_reducible apply Kept.ite
    | split
    | (with_reducible apply Kept.free); split

theorem State.clearOuten_kept {q : List Instr} (s : State) (m : Nat) (h : Kept q s) :
    Kept q (State.clearOuten s m) := by
  unfold State.clearOuten
  repeat' first
    | with_reducible assumption
    | intro _
    | with_reducible apply State.setFld_kept
    | with_reducible apply State.putDown_kept
    | with_reducible apply Kept.whenIf
    | split
    | (with_reducible apply Kept.free); split

theorem State.setOuten_kept {q : List Instr} (s : State) (m : Nat) (h : Kept q s) :
    Kept q (State.setOuten s m) := by
  unfold State.setOuten
  repeat' first
    | with_reducible assumption
    | intro _
    | with_reducible apply State.setFld_kept
    | split
    | (with_reducible apply Kept.free); split

theorem State.stopCounter_kept {q : List Instr} (s : State) (m : Nat) (h : Kept q s) :
    Kept q (State.stopCounter s m) := by
  unfold State.stopCounter
  repeat' first
    | with_reducible assumption
    | intro _
    | with_reducible apply State.setFld_kept
    | with_reducible apply State.clearOuten_kept
    | split
    | (with_reducible apply Kept.free); split

theorem State.loadCount_kept {q : List Instr} (s : State) (m : Nat) (later : Nat) (h : Kept q s) :
    Kept q (State.loadCount s m later) := by
  unfold State.loadCount
  repeat' first
    | with_reducible assumption
    | intro _
    | with_reducible apply State.setFlag_kept
    | with_reducible apply State.setFld_kept
    | split
    | (with_reducible apply Kept.free); split

theorem State.headRestart_kept {q : List Instr} (s : State) (m : Nat) (h : Kept q s) :
    Kept q (State.headRestart s m) := by
  unfold State.headRestart
  repeat' first
    | with_reducible assumption
    | with_reducible exact fun h => h
    | exact fun _ => rfl
    | with_reducible refine Kept.memWf (q := q) ?_
    | with_reducible refine Kept.engsOk (q := q) ?_
    | intro _
    | with_reducible apply Kept.whenIf
    | fail_if_no_progress with_reducible apply Kept.free
    | fail_if_no_progress (with_reducible refine Kept.updRegs ?_ (fun hk => ?_)) <;> try with_reducible exact hk.regs
    | fail_if_no_progress (with_reducible refine Kept.updEng ?_ (fun hk => EngOk.upd hk.eng ?_ ?_ ?_)) <;> try first | with_reducible rfl | with_reducible exact fun h => h
    | fail_if_no_progress (with_reducible refine Kept.updSd ?_ (fun hk => ?_)) <;> try with_reducible exact hk.sd
    | fail_if_no_progress (with_reducible refine Kept.updSatchel ?_ (fun hk => ?_)) <;> try with_reducible exact hk.satchel
    | with_reducible rfl
    | with_reducible refine Kept.lowHoldEq (q := q) ?_ ‹_›
    | split
    | (with_reducible apply Kept.free); split

theorem State.startCounter_kept {q : List Instr} (s : State) (m : Nat) (h : Kept q s) :
    Kept q (State.startCounter s m) := by
  unfold State.startCounter
  repeat' first
    | with_reducible assumption
    | with_reducible exact fun h => h
    | exact fun _ => rfl
    | intro _
    | with_reducible apply State.setFld_kept
    | with_reducible apply State.loadCount_kept
    | with_reducible apply State.headRestart_kept
    | with_reducible apply State.modPm_kept
    | with_reducible apply Kept.ite
    | fail_if_no_progress with_reducible apply Kept.free
    | fail_if_no_progress (with_reducible refine Kept.updRegs ?_ (fun hk => ?_)) <;> try with_reducible exact hk.regs
    | fail_if_no_progress (with_reducible refine Kept.updPwm ?_ (fun hk => PwmOk.upd hk.pwm ?_ ?_)) <;> try first | with_reducible rfl | with_reducible exact fun h => h
    | fail_if_no_progress (with_reducible refine Kept.updSd ?_ (fun hk => ?_)) <;> try with_reducible exact hk.sd
    | fail_if_no_progress (with_reducible refine Kept.updSatchel ?_ (fun hk => ?_)) <;> try with_reducible exact hk.satchel
    | with_reducible rfl
    | with_reducible refine Kept.modsEq (q := q) ?_ ‹_›
    | with_reducible refine Kept.holdsEq (q := q) ?_ ‹_›
    | split
    | (with_reducible apply Kept.free); split

theorem State.gateEvent_kept {q : List Instr} (s : State) (code : Nat) (entry : Nat) (mask : Nat) (tsReport : Nat) (tsFirst
    : Nat) (h : Kept q s) :
    Kept q (State.gateEvent s code entry mask tsReport tsFirst) := by
  unfold State.gateEvent
  repeat' first
    | with_reducible assumption
    | intro _
    | with_reducible apply State.emit_kept
    | split
    | (with_reducible apply Kept.free); split

theorem State.gateNow_kept {q : List Instr} (s : State) (code : Nat) (entry : Nat) (mask : Nat) (h : Kept q s) :
    Kept q (State.gateNow s code entry mask) := by
  unfold State.gateNow
  repeat' first
    | with_reducible assumption
    | intro _
    | with_reducible apply State.gateEvent_kept
    | split
    | (with_reducible apply Kept.free); split

theorem State.runHeld_kept {q : List Instr} (s : State) (e : Nat × Bool) (h : Kept q s) :
    Kept q (State.runHeld s e) := by
  unfold State.runHeld
  repeat' first
    | with_reducible assumption
    | intro _
    | with_reducible apply State.gateNow_kept
    | with_reducible apply State.setOuten_kept
    | with_reducible apply State.startCounter_kept
    | with_reducible apply Kept.ite
    | split
    | (with_reducible apply Kept.free); split

theorem State.shutDone_kept {q : List Instr} (s : State) (ms : List Nat) (h : Kept q s) :
    Kept q (State.shutDone s ms) := by
  unfold State.shutDone
  repeat' first
    | with_reducible assumption
    | with_reducible exact fun h => h
    | exact fun _ => rfl
    | with_reducible exact SMap.wf_filter _
    | intro _
    | with_reducible apply State.setBit_kept
    | with_reducible apply State.stopCounter_kept
    | with_reducible apply State.runHeld_kept
    | with_reducible apply Kept.whenIf
    | with_reducible apply Kept.each
    | fail_if_no_progress with_reducible apply Kept.free
    | fail_if_no_progress (with_reducible refine Kept.updRegs ?_ (fun hk => ?_)) <;> try with_reducible exact hk.regs
    | fail_if_no_progress (with_reducible refine Kept.updSd ?_ (fun hk => ?_)) <;> try with_reducible exact hk.sd
    | fail_if_no_progress (with_reducible refine Kept.updSatchel ?_ (fun hk => ?_)) <;> try with_reducible exact hk.satchel
    | with_reducible rfl
    | split
    | (with_reducible apply Kept.free); split

theorem State.shutdown_kept {q : List Instr} (s : State) (targets : Nat) (stop : Bool) (h : Kept q s) :
    Kept q (State.shutdown s targets stop) := by
  unfold State.shutdown
  repeat' first
    | with_reducible assumption
    | with_reducible exact fun h => h
    | exact fun _ => rfl
    | with_reducible exact foldSet_wf _ _ _
    | with_reducible exact SMap.wf_filter _
    | intro _
    | with_reducible apply State.clearOuten_kept
    | with_reducible apply State.setBit_kept
    | with_reducible apply State.shutDone_kept
    | with_reducible apply Kept.whenIf
    | with_reducible apply Kept.each
    | with_reducible apply Kept.foldl
    | fail_if_no_progress with_reducible apply Kept.free
    | fail_if_no_progress (with_reducible refine Kept.updRegs ?_ (fun hk => ?_)) <;> try with_reducible exact hk.regs
    | fail_if_no_progress (with_reducible refine Kept.updSd ?_ (fun hk => ?_)) <;> try with_reducible exact hk.sd
    | fail_if_no_progress (with_reducible refine Kept.updSatchel ?_ (fun hk => ?_)) <;> try with_reducible exact hk.satchel
    | with_reducible rfl
    | with_reducible exact length_foldl_set (fun x => x) _ _
    | split
    | (with_reducible apply Kept.free); split

theorem State.runEntry_kept {q : List Instr} (s : State) (i : Nat) (affected : Nat) (h : Kept q s) :
    Kept q (State.runEntry s i affected) := by
  unfold State.runEntry
  repeat' first
    | with_reducible assumption
    | intro _
    | with_reducible apply State.setBit_kept
    | with_reducible apply State.gateNow_kept
    | with_reducible apply State.setFld_kept
    | with_reducible apply State.raise_kept
    | with_reducible apply State.shutdown_kept
    | with_reducible apply Kept.whenIf
    | with_reducible apply Kept.each
    | with_reducible apply Kept.ite
    | split
    | (with_reducible apply Kept.free); split

theorem State.gapEnd_kept {q : List Instr} (s : State) (k : Nat) (h : Kept q s) :
    Kept q (State.gapEnd s k) := by
  unfold State.gapEnd
  repeat' first
    | with_reducible assumption
    | with_reducible exact fun h => h
    | exact fun _ => rfl
    | with_reducible exact SMap.wf_filter _
    | intro _
    | with_reducible apply State.padsOff_kept
    | with_reducible apply State.shutDone_kept
    | with_reducible apply Kept.each
    | with_reducible apply Kept.ite
    | fail_if_no_progress with_reducible apply Kept.free
    | fail_if_no_progress (with_reducible refine Kept.updRegs ?_ (fun hk => ?_)) <;> try with_reducible exact hk.regs
    | fail_if_no_progress (with_reducible refine Kept.updSd ?_ (fun hk => ?_)) <;> try with_reducible exact hk.sd
    | fail_if_no_progress (with_reducible refine Kept.updSatchel ?_ (fun hk => ?_)) <;> try with_reducible exact hk.satchel
    | with_reducible rfl
    | split
    | (with_reducible apply Kept.free); split

theorem State.seqFallback_kept {q : List Instr} (s : State) (h : Kept q s) :
    Kept q (State.seqFallback s) := by
  unfold State.seqFallback
  repeat' first
    | with_reducible assumption
    | with_reducible exact fun h => h
    | exact fun _ => rfl
    | intro _
    | with_reducible apply State.setFld_kept
    | with_reducible apply Kept.whenIf
    | fail_if_no_progress with_reducible apply Kept.free
    | fail_if_no_progress (with_reducible refine Kept.updRegs ?_ (fun hk => ?_)) <;> try with_reducible exact hk.regs
    | fail_if_no_progress (with_reducible refine Kept.updSd ?_ (fun hk => ?_)) <;> try with_reducible exact hk.sd
    | fail_if_no_progress (with_reducible refine Kept.updSatchel ?_ (fun hk => ?_)) <;> try with_reducible exact hk.satchel
    | with_reducible rfl
    | split
    | (with_reducible apply Kept.free); split

theorem State.settleTrips_kept {q : List Instr} (s : State) (h : Kept q s) :
    Kept q (State.settleTrips s) := by
  unfold State.settleTrips
  repeat' first
    | with_reducible assumption
    | with_reducible exact fun h => h
    | exact fun _ => rfl
    | with_reducible exact foldSet_wf _ _ _
    | intro _
    | with_reducible apply State.setFld_kept
    | with_reducible apply State.setFlag_kept
    | with_reducible apply State.settlePads_kept
    | with_reducible apply Kept.whenIf
    | with_reducible apply Kept.each
    | with_reducible apply Kept.foldl
    | fail_if_no_progress with_reducible apply Kept.free
    | fail_if_no_progress (with_reducible refine Kept.updRegs ?_ (fun hk => ?_)) <;> try with_reducible exact hk.regs
    | fail_if_no_progress (with_reducible refine Kept.updSd ?_ (fun hk => ?_)) <;> try with_reducible exact hk.sd
    | fail_if_no_progress (with_reducible refine Kept.updTrip ?_ (fun hk => TripOk.upd hk.trip ?_)) <;> try first | with_reducible rfl | with_reducible exact fun h => h
    | fail_if_no_progress (with_reducible refine Kept.updSatchel ?_ (fun hk => ?_)) <;> try with_reducible exact hk.satchel
    | with_reducible rfl
    | with_reducible exact length_foldl_set (fun x => x) _ _
    | with_reducible refine Kept.chansEq (q := q) ?_ ‹_›
    | split
    | (with_reducible apply Kept.free); split

end Sys2Proof.Machine
end

