-- ==== Sys2Proof/Laws/KeptComparator.lean ====
section
/-!
SUPPORT. What every operation of Machine/Comparator.lean keeps (Laws/Kept.lean).
-/
namespace Sys2Proof.Machine

set_option linter.unusedTactic false
set_option linter.unreachableTactic false

theorem State.modWc_kept {q : List Instr} (s : State) (c : Nat) (f : CompChan → CompChan) (h : Kept q s) :
    Kept q (State.modWc s c f) := by
  unfold State.modWc
  repeat' first
    | with_reducible assumption
    | with_reducible exact fun h => h
    | exact fun _ => rfl
    | intro _
    | fail_if_no_progress with_reducible apply Kept.free
    | fail_if_no_progress (with_reducible refine Kept.updRegs ?_ (fun hk => ?_)) <;> try with_reducible exact hk.regs
    | fail_if_no_progress (with_reducible refine Kept.updSd ?_ (fun hk => ?_)) <;> try with_reducible exact hk.sd
    | fail_if_no_progress (with_reducible refine Kept.updTrip ?_ (fun hk => TripOk.upd hk.trip ?_)) <;> try first | with_reducible rfl | with_reducible exact fun h => h
    | fail_if_no_progress (with_reducible refine Kept.updSatchel ?_ (fun hk => ?_)) <;> try with_reducible exact hk.satchel
    | with_reducible rfl
    | with_reducible exact modAt_length _ _ _ _
    | exact modAt_length _ _ _ _
    | with_reducible refine Kept.chansEq (q := q) ?_ ‹_›
    | split
    | (with_reducible apply Kept.free); split

theorem State.latchIfTripping_kept {q : List Instr} (s : State) (c : Nat) (h : Kept q s) :
    Kept q (State.latchIfTripping s c) := by
  unfold State.latchIfTripping
  repeat' first
    | with_reducible assumption
    | intro _
    | with_reducible apply State.setFlag_kept
    | with_reducible apply State.setFld_kept
    | with_reducible apply State.settleTrips_kept
    | with_reducible apply State.count_kept
    | with_reducible apply Kept.ite
    | split
    | (with_reducible apply Kept.free); split

theorem State.setLevel_kept {q : List Instr} (s : State) (c : Nat) (level : Int) (h : Kept q s) :
    Kept q (State.setLevel s c level) := by
  unfold State.setLevel
  repeat' first
    | with_reducible assumption
    | intro _
    | with_reducible apply State.modWc_kept
    | with_reducible apply State.latchIfTripping_kept
    | with_reducible apply State.setFlag_kept
    | split
    | (with_reducible apply Kept.free); split

theorem State.latchClear_kept {q : List Instr} (s : State) (c : Nat) (h : Kept q s) :
    Kept q (State.latchClear s c) := by
  unfold State.latchClear
  repeat' first
    | with_reducible assumption
    | intro _
    | with_reducible apply State.settleTrips_kept
    | with_reducible apply State.modWc_kept
    | with_reducible apply State.setFld_kept
    | split
    | (with_reducible apply Kept.free); split

theorem execComparatorLatchSet_kept {q : List Instr} (c : Nat) (level : Int) (s : State) (h : Kept q s) :
    KeptOut q (execComparatorLatchSet c level s) := by
  unfold execComparatorLatchSet
  repeat' first
    | with_reducible assumption
    | with_reducible apply KeptOut.next
    | with_reducible apply KeptOut.ite
    | intro _
    | with_reducible apply State.setLevel_kept
    | with_reducible apply Kept.ite
    | split
    | dsimp only; split

theorem execLebBlankingEnd_kept {q : List Instr} (c : Nat) (level : Int) (s : State) (h : Kept q s) :
    KeptOut q (execLebBlankingEnd c level s) := by
  unfold execLebBlankingEnd
  repeat' first
    | with_reducible assumption
    | with_reducible apply KeptOut.next
    | with_reducible apply KeptOut.ite
    | intro _
    | with_reducible apply State.setLevel_kept
    | with_reducible apply State.modWc_kept
    | with_reducible apply Kept.ite
    | split
    | dsimp only; split

theorem State.wcClr_kept {q : List Instr} (s : State) (c : Nat) (h : Kept q s) :
    Kept q (State.wcClr s c) := by
  unfold State.wcClr
  repeat' first
    | with_reducible assumption
    | intro _
    | with_reducible apply State.latchClear_kept
    | with_reducible apply Kept.ite
    | split
    | (with_reducible apply Kept.free); split

theorem execWcClrWrite_kept {q : List Instr} (core : Nat) (c : Nat) (level : Int) (s : State) (h : Kept q s) :
    KeptOut q (execWcClrWrite core c level s) := by
  unfold execWcClrWrite
  repeat' first
    | with_reducible assumption
    | with_reducible apply KeptOut.next
    | with_reducible apply KeptOut.ite
    | intro _
    | with_reducible apply State.accessBlk_kept
    | with_reducible apply State.wcClr_kept
    | with_reducible apply State.setLevel_kept
    | with_reducible apply Kept.ite
    | split
    | dsimp only; split

theorem execComparatorInitialClear_kept {q : List Instr} (c : Nat) (level : Int) (s : State) (h : Kept q s) :
    KeptOut q (execComparatorInitialClear c level s) := by
  unfold execComparatorInitialClear
  repeat' first
    | with_reducible assumption
    | with_reducible apply KeptOut.next
    | with_reducible apply KeptOut.ite
    | intro _
    | with_reducible apply State.setLevel_kept
    | with_reducible apply State.modWc_kept
    | with_reducible apply State.latchClear_kept
    | with_reducible apply Kept.ite
    | split
    | dsimp only; split

theorem State.wcThr_kept {q : List Instr} (s : State) (c : Nat) (lo : Nat) (hi : Nat) (h : Kept q s) :
    Kept q (State.wcThr s c lo hi) := by
  unfold State.wcThr
  repeat' first
    | with_reducible assumption
    | intro _
    | with_reducible apply State.setFld_kept
    | with_reducible apply State.setLevel_kept
    | with_reducible apply State.discarded_kept
    | with_reducible apply Kept.ite
    | split
    | (with_reducible apply Kept.free); split

theorem execWcThrWrite_kept {q : List Instr} (core : Nat) (c : Nat) (lo : Nat) (hi : Nat) (s : State) (h : Kept q s) :
    KeptOut q (execWcThrWrite core c lo hi s) := by
  unfold execWcThrWrite
  repeat' first
    | with_reducible assumption
    | with_reducible apply KeptOut.next
    | intro _
    | with_reducible apply State.accessBlk_kept
    | with_reducible apply State.wcThr_kept
    | split
    | dsimp only; split

theorem execTripGroupFirstAssert_kept {q : List Instr} (g : Nat) (s : State) (h : Kept q s) :
    KeptOut q (execTripGroupFirstAssert g s) := by
  unfold execTripGroupFirstAssert
  repeat' first
    | with_reducible assumption
    | with_reducible apply KeptOut.next
    | with_reducible apply KeptOut.ite
    | with_reducible exact fun h => h
    | exact fun _ => rfl
    | intro _
    | with_reducible apply State.setBit_kept
    | with_reducible apply State.setFld_kept
    | with_reducible apply State.event_kept
    | with_reducible apply State.runEntry_kept
    | with_reducible apply Kept.ite
    | fail_if_no_progress with_reducible apply Kept.free
    | fail_if_no_progress (with_reducible refine Kept.updRegs ?_ (fun hk => ?_)) <;> try with_reducible exact hk.regs
    | fail_if_no_progress (with_reducible refine Kept.updSd ?_ (fun hk => ?_)) <;> try with_reducible exact hk.sd
    | fail_if_no_progress (with_reducible refine Kept.updTrip ?_ (fun hk => TripOk.upd hk.trip ?_)) <;> try first | with_reducible rfl | with_reducible exact fun h => h
    | fail_if_no_progress (with_reducible refine Kept.updSatchel ?_ (fun hk => ?_)) <;> try with_reducible exact hk.satchel
    | with_reducible rfl
    | with_reducible refine Kept.chansEq (q := q) ?_ ‹_›
    | split
    | dsimp only; split

theorem State.cycleClears_kept {q : List Instr} (s : State) (m : Nat) (h : Kept q s) :
    Kept q (State.cycleClears s m) := by
  unfold State.cycleClears
  repeat' first
    | with_reducible assumption
    | intro _
    | with_reducible apply State.modWc_kept
    | with_reducible apply State.setFld_kept
    | with_reducible apply State.settleTrips_kept
    | with_reducible apply Kept.whenIf
    | with_reducible apply Kept.each
    | split
    | (with_reducible apply Kept.free); split

theorem State.compApplied_kept {q : List Instr} (s : State) (oldMode : List Nat) (h : Kept q s) :
    Kept q (State.compApplied s oldMode) := by
  unfold State.compApplied
  repeat' first
    | with_reducible assumption
    | intro _
    | with_reducible apply State.modWc_kept
    | with_reducible apply State.setFld_kept
    | with_reducible apply State.setLevel_kept
    | with_reducible apply State.settleTrips_kept
    | with_reducible apply Kept.whenIf
    | with_reducible apply Kept.each
    | with_reducible apply Kept.ite
    | split
    | (with_reducible apply Kept.free); split

end Sys2Proof.Machine
end

