-- ==== Sys2Proof/Laws/KeptModulator.lean ====
section
/-!
SUPPORT. What every operation of Machine/Modulator.lean keeps (Laws/Kept.lean).
-/
namespace Sys2Proof.Machine

set_option linter.unusedTactic false
set_option linter.unreachableTactic false

theorem State.modChan_kept {q : List Instr} (s : State) (n : Nat) (f : ModChan → ModChan) (h : Kept q s) :
    Kept q (State.modChan s n f) := by
  unfold State.modChan
  exact Kept.updSd h (fun hk => (modAt_length _ _ _ _).trans hk.sd)

theorem State.mainOutput_kept {q : List Instr} (s : State) (n : Nat) (m : Nat) (l : List Bool) (h : Kept q s) :
    Kept q (State.mainOutput s n m l).2 := by
  unfold State.mainOutput
  repeat' first
    | with_reducible assumption
    | intro _
    | with_reducible apply State.roundFree_kept
    | (with_reducible refine Kept.snd ?_ (by assumption)); with_reducible apply State.roundFree_kept
    | dsimp only
    | split
    | (with_reducible apply Kept.free); split

theorem State.guardInside_kept {q : List Instr} (s : State) (n : Nat) (h : Kept q s) :
    Kept q (State.guardInside s n).2 := by
  unfold State.guardInside
  repeat' first
    | with_reducible assumption
    | intro _
    | with_reducible apply State.fresh_kept
    | (with_reducible refine Kept.snd ?_ (by assumption)); with_reducible apply State.fresh_kept
    | with_reducible apply Kept.ite
    | with_reducible apply Kept.iteSnd
    | dsimp only
    | split
    | (with_reducible apply Kept.free); split

theorem State.guardAssert_kept {q : List Instr} (s : State) (n : Nat) (initial : Bool) (h : Kept q s) :
    Kept q (State.guardAssert s n initial) := by
  unfold State.guardAssert
  repeat' first
    | with_reducible assumption
    | intro _
    | with_reducible apply State.count_kept
    | with_reducible apply State.setFld_kept
    | with_reducible apply State.modChan_kept
    | with_reducible apply Kept.whenIf
    | split
    | (with_reducible apply Kept.free); split

theorem State.guardClear_kept {q : List Instr} (s : State) (n : Nat) (h : Kept q s) :
    Kept q (State.guardClear s n) := by
  unfold State.guardClear
  repeat' first
    | with_reducible assumption
    | intro _
    | with_reducible apply State.settleTrips_kept
    | with_reducible apply State.modChan_kept
    | with_reducible apply State.setFld_kept
    | split
    | (with_reducible apply Kept.free); split

theorem State.chansLose_kept {q : List Instr} (s : State) (l : List Nat) (h : Kept q s) :
    Kept q (State.chansLose s l) := by
  unfold State.chansLose
  repeat' first
    | with_reducible assumption
    | intro _
    | with_reducible apply State.settleTrips_kept
    | with_reducible apply State.modChan_kept
    | with_reducible apply State.guardAssert_kept
    | with_reducible apply Kept.whenIf
    | with_reducible apply Kept.each
    | split
    | (with_reducible apply Kept.free); split

theorem State.chansRecover_kept {q : List Instr} (s : State) (l : List Nat) (h : Kept q s) :
    Kept q (State.chansRecover s l) := by
  unfold State.chansRecover
  repeat' first
    | with_reducible assumption
    | intro _
    | with_reducible apply State.settleTrips_kept
    | with_reducible apply State.guardAssert_kept
    | with_reducible apply State.modChan_kept
    | with_reducible apply Kept.whenIf
    | with_reducible apply Kept.each
    | split
    | (with_reducible apply Kept.free); split

theorem execModClockLost_kept {q : List Instr} (loss : ClockLoss) (s : State) (h : Kept q s) :
    KeptOut q (execModClockLost loss s) := by
  unfold execModClockLost
  repeat' first
    | with_reducible assumption
    | with_reducible apply KeptOut.next
    | with_reducible apply KeptOut.ite
    | intro _
    | with_reducible apply State.setBit_kept
    | with_reducible apply State.chansLose_kept
    | with_reducible apply State.event_kept
    | with_reducible apply Kept.ite
    | split
    | dsimp only; split

theorem State.interpolate_kept {q : List Instr} (s : State) (n : Nat) (h : Kept q s) :
    Kept q (State.interpolate s n).2 := by
  unfold State.interpolate
  repeat' first
    | with_reducible assumption
    | intro _
    | with_reducible apply State.fresh_kept
    | (with_reducible refine Kept.snd ?_ (by assumption)); with_reducible apply State.fresh_kept
    | with_reducible apply Kept.ite
    | with_reducible apply Kept.iteSnd
    | dsimp only
    | split
    | (with_reducible apply Kept.free); split

theorem State.mainStep_kept {q : List Instr} (s : State) (n : Nat) (h : Kept q s) :
    Kept q (State.mainStep s n).2 := by
  unfold State.mainStep
  repeat' first
    | with_reducible assumption
    | intro _
    | with_reducible apply State.mainOutput_kept
    | (with_reducible refine Kept.snd ?_ (by assumption)); with_reducible apply State.mainOutput_kept
    | with_reducible apply State.fresh_kept
    | (with_reducible refine Kept.snd ?_ (by assumption)); with_reducible apply State.fresh_kept
    | with_reducible apply Kept.ite
    | with_reducible apply Kept.iteSnd
    | dsimp only
    | split
    | (with_reducible apply Kept.free); split

theorem State.modWord_kept {q : List Instr} (s : State) (n : Nat) (h : Kept q s) :
    Kept q (State.modWord s n) := by
  unfold State.modWord
  repeat' first
    | with_reducible assumption
    | intro _
    | with_reducible apply State.mainStep_kept
    | (with_reducible refine Kept.snd ?_ (by assumption)); with_reducible apply State.mainStep_kept
    | with_reducible apply State.fresh_kept
    | (with_reducible refine Kept.snd ?_ (by assumption)); with_reducible apply State.fresh_kept
    | with_reducible apply State.modChan_kept
    | with_reducible apply State.interpolate_kept
    | (with_reducible refine Kept.snd ?_ (by assumption)); with_reducible apply State.interpolate_kept
    | with_reducible apply State.count_kept
    | with_reducible apply State.setFld_kept
    | with_reducible apply State.offer_kept
    | with_reducible apply Kept.whenIf
    | with_reducible apply Kept.ite
    | split
    | (with_reducible apply Kept.free); split

theorem State.dataCheck_kept {q : List Instr} (s : State) (n : Nat) (h : Kept q s) :
    Kept q (State.dataCheck s n) := by
  unfold State.dataCheck
  repeat' first
    | with_reducible assumption
    | intro _
    | with_reducible apply State.setBit_kept
    | with_reducible apply State.chansLose_kept
    | with_reducible apply State.event_kept
    | with_reducible apply State.chansRecover_kept
    | split
    | (with_reducible apply Kept.free); split

theorem State.guardCheck_kept {q : List Instr} (s : State) (n : Nat) (h : Kept q s) :
    Kept q (State.guardCheck s n) := by
  unfold State.guardCheck
  repeat' first
    | with_reducible assumption
    | intro _
    | with_reducible apply State.guardInside_kept
    | (with_reducible refine Kept.snd ?_ (by assumption)); with_reducible apply State.guardInside_kept
    | with_reducible apply State.settleTrips_kept
    | with_reducible apply State.guardAssert_kept
    | with_reducible apply State.guardClear_kept
    | with_reducible apply Kept.ite
    | split
    | (with_reducible apply Kept.free); split

theorem State.feedBit_kept {q : List Instr} (s : State) (n : Nat) (level : Bool) (t : Nat) (h : Kept q s) :
    Kept q (State.feedBit s n level t) := by
  unfold State.feedBit
  repeat' first
    | with_reducible assumption
    | intro _
    | with_reducible apply State.guardCheck_kept
    | with_reducible apply State.dataCheck_kept
    | with_reducible apply State.modChan_kept
    | with_reducible apply State.modWord_kept
    | with_reducible apply Kept.whenIf
    | split
    | (with_reducible apply Kept.free); split

theorem State.feedPeriod_kept {q : List Instr} (s : State) (j : Nat) (k : MdClock) (h : Kept q s) :
    Kept q (State.feedPeriod s j k) := by
  unfold State.feedPeriod
  repeat' first
    | with_reducible assumption
    | intro _
    | with_reducible apply State.feedBit_kept
    | with_reducible apply Kept.each
    | with_reducible apply Kept.ite
    | split
    | (with_reducible apply Kept.free); split

theorem State.feedPin_kept {q : List Instr} (s : State) (j : Nat) (l : List MdClock) (h : Kept q s) :
    Kept q (State.feedPin s j l) := by
  unfold State.feedPin
  repeat' first
    | with_reducible assumption
    | intro _
    | with_reducible apply State.feedPeriod_kept
    | with_reducible apply Kept.each
    | split
    | (with_reducible apply Kept.free); split

theorem execModDecimation_kept {q : List Instr} (j : Nat) (before : List MdClock) (last : MdClock) (s : State) (h : Kept q
    s) :
    KeptOut q (execModDecimation j before last s) := by
  unfold execModDecimation
  repeat' first
    | with_reducible assumption
    | with_reducible apply KeptOut.next
    | intro _
    | with_reducible apply State.feedPin_kept
    | split
    | dsimp only; split

theorem execModDataLost_kept {q : List Instr} (run : PinPeriods) (s : State) (h : Kept q s) :
    KeptOut q (execModDataLost run s) := by
  unfold execModDataLost
  repeat' first
    | with_reducible assumption
    | with_reducible apply KeptOut.next
    | intro _
    | with_reducible apply State.feedPin_kept
    | split
    | dsimp only; split

theorem execModLossEnd_kept {q : List Instr} (j : Nat) (clocks : List MdClock) (s : State) (h : Kept q s) :
    KeptOut q (execModLossEnd j clocks s) := by
  unfold execModLossEnd
  repeat' first
    | with_reducible assumption
    | with_reducible apply KeptOut.next
    | intro _
    | with_reducible apply State.feedPin_kept
    | with_reducible apply State.chansRecover_kept
    | with_reducible apply State.setBit_kept
    | with_reducible apply Kept.whenIf
    | split
    | dsimp only; split

theorem execGuardTripAssert_kept {q : List Instr} (j : Nat) (clocks : List MdClock) (s : State) (h : Kept q s) :
    KeptOut q (execGuardTripAssert j clocks s) := by
  unfold execGuardTripAssert
  repeat' first
    | with_reducible assumption
    | with_reducible apply KeptOut.next
    | intro _
    | with_reducible apply State.feedPin_kept
    | split
    | dsimp only; split

theorem execGuardSettleClear_kept {q : List Instr} (j : Nat) (clocks : List MdClock) (s : State) (h : Kept q s) :
    KeptOut q (execGuardSettleClear j clocks s) := by
  unfold execGuardSettleClear
  repeat' first
    | with_reducible assumption
    | with_reducible apply KeptOut.next
    | intro _
    | with_reducible apply State.feedPin_kept
    | split
    | dsimp only; split

theorem State.pwmEvent_kept {q : List Instr} (s : State) (m : Nat) (evt : Nat) (h : Kept q s) :
    Kept q (State.pwmEvent s m evt) := by
  unfold State.pwmEvent
  repeat' first
    | with_reducible assumption
    | intro _
    | with_reducible apply State.pwmOccurs_kept
    | with_reducible apply State.modChan_kept
    | with_reducible apply Kept.whenIf
    | with_reducible apply Kept.each
    | split
    | (with_reducible apply Kept.free); split

theorem State.modLeave_kept {q : List Instr} (s : State) (h : Kept q s) :
    Kept q (State.modLeave s) := by
  unfold State.modLeave
  repeat' first
    | with_reducible assumption
    | intro _
    | with_reducible apply State.modChan_kept
    | with_reducible apply Kept.each
    | split
    | (with_reducible apply Kept.free); split

theorem State.fdlyWrite_kept {q : List Instr} (s : State) (n : Nat) (v : Nat) (h : Kept q s) :
    Kept q (State.fdlyWrite s n v) := by
  unfold State.fdlyWrite
  repeat' first
    | with_reducible assumption
    | intro _
    | with_reducible apply State.discarded_kept
    | with_reducible apply State.modChan_kept
    | with_reducible apply State.setFld_kept
    | with_reducible apply Kept.ite
    | split
    | (with_reducible apply Kept.free); split

theorem execModFdlyWrite_kept {q : List Instr} (core : Nat) (n : Nat) (fdly : Nat) (s : State) (h : Kept q s) :
    KeptOut q (execModFdlyWrite core n fdly s) := by
  unfold execModFdlyWrite
  repeat' first
    | with_reducible assumption
    | with_reducible apply KeptOut.next
    | intro _
    | with_reducible apply State.accessBlk_kept
    | with_reducible apply State.fdlyWrite_kept
    | split
    | dsimp only; split

theorem State.guardClr_kept {q : List Instr} (s : State) (n : Nat) (h : Kept q s) :
    Kept q (State.guardClr s n) := by
  unfold State.guardClr
  repeat' first
    | with_reducible assumption
    | intro _
    | with_reducible apply State.guardInside_kept
    | (with_reducible refine Kept.snd ?_ (by assumption)); with_reducible apply State.guardInside_kept
    | with_reducible apply State.guardClear_kept
    | with_reducible apply Kept.ite
    | split
    | (with_reducible apply Kept.free); split

theorem execModGuardClr_kept {q : List Instr} (core : Nat) (n : Nat) (clr : Bool) (s : State) (h : Kept q s) :
    KeptOut q (execModGuardClr core n clr s) := by
  unfold execModGuardClr
  repeat' first
    | with_reducible assumption
    | with_reducible apply KeptOut.next
    | intro _
    | with_reducible apply State.accessBlk_kept
    | with_reducible apply State.guardClr_kept
    | with_reducible apply Kept.whenIf
    | split
    | dsimp only; split

theorem State.modApplied_kept {q : List Instr} (s : State) (chEn : Nat) (before : List (Nat × Nat × Nat × Nat)) (h : Kept q
    s) :
    Kept q (State.modApplied s chEn before) := by
  unfold State.modApplied
  repeat' first
    | with_reducible assumption
    | intro _
    | with_reducible apply State.modChan_kept
    | with_reducible apply State.guardAssert_kept
    | with_reducible apply State.settleTrips_kept
    | with_reducible apply Kept.whenIf
    | with_reducible apply Kept.each
    | with_reducible apply Kept.ite
    | split
    | (with_reducible apply Kept.free); split

end Sys2Proof.Machine
end

