-- ==== Sys2Proof/Laws/KeptPwm.lean ====
section
/-!
SUPPORT. What every operation of Machine/Pwm.lean keeps (Laws/Kept.lean).
-/
namespace Sys2Proof.Machine

set_option linter.unusedTactic false
set_option linter.unreachableTactic false

theorem State.suppressed_kept {q : List Instr} (s : State) (m : Nat) (h : Kept q s) :
    Kept q (State.suppressed s m) := by
  unfold State.suppressed
  repeat' first
    | with_reducible assumption
    | intro _
    | with_reducible apply State.count_kept
    | with_reducible apply State.setFld_kept
    | split
    | (with_reducible apply Kept.free); split

theorem State.fallCmd_kept {q : List Instr} (s : State) (m : Nat) (low : Bool) (inst : Nat) (carry : Bool) (h : Kept q s) :
    Kept q (State.fallCmd s m low inst carry) := by
  unfold State.fallCmd
  repeat' first
    | with_reducible assumption
    | intro _
    | with_reducible apply State.setCmd_kept
    | with_reducible apply State.modPm_kept
    | with_reducible apply Kept.ite
    | split
    | (with_reducible apply Kept.free); split

theorem State.dueFalls_kept {q : List Instr} (s : State) (m : Nat) (limit : Nat) (h : Kept q s) :
    Kept q (State.dueFalls s m limit) := by
  unfold State.dueFalls
  repeat' first
    | with_reducible assumption
    | intro _
    | with_reducible apply State.setCmd_kept
    | with_reducible apply State.modPm_kept
    | with_reducible apply Kept.ite
    | split
    | (with_reducible apply Kept.free); split

theorem State.riseCmd_kept {q : List Instr} (s : State) (m : Nat) (low : Bool) (inst : Nat) (h : Kept q s) :
    Kept q (State.riseCmd s m low inst) := by
  unfold State.riseCmd
  repeat' first
    | with_reducible assumption
    | intro _
    | with_reducible apply State.modPm_kept
    | with_reducible apply State.setCmd_kept
    | with_reducible apply Kept.ite
    | split
    | (with_reducible apply Kept.free); split

theorem State.innerFall_kept {q : List Instr} (s : State) (m : Nat) (low : Bool) (h : Kept q s) :
    Kept q (State.innerFall s m low) := by
  unfold State.innerFall
  repeat' first
    | with_reducible assumption
    | intro _
    | with_reducible apply State.modPm_kept
    | with_reducible apply Kept.ite
    | split
    | (with_reducible apply Kept.free); split

theorem State.innerRise_kept {q : List Instr} (s : State) (m : Nat) (low : Bool) (inst : Nat) (h : Kept q s) :
    Kept q (State.innerRise s m low inst) := by
  unfold State.innerRise
  repeat' first
    | with_reducible assumption
    | intro _
    | with_reducible apply State.modPm_kept
    | with_reducible apply Kept.ite
    | split
    | (with_reducible apply Kept.free); split

theorem State.refreshFall_kept {q : List Instr} (s : State) (m : Nat) (h : Kept q s) :
    Kept q (State.refreshFall s m) := by
  unfold State.refreshFall
  repeat' first
    | with_reducible assumption
    | intro _
    | with_reducible apply State.modPm_kept
    | with_reducible apply State.setCarry_kept
    | with_reducible apply Kept.whenIf
    | with_reducible apply Kept.ite
    | split
    | (with_reducible apply Kept.free); split

theorem State.riseH_kept {q : List Instr} (s : State) (m : Nat) (inst : Nat) (t : Nat) (h : Kept q s) :
    Kept q (State.riseH s m inst t) := by
  unfold State.riseH
  repeat' first
    | with_reducible assumption
    | intro _
    | with_reducible apply State.innerRise_kept
    | with_reducible apply State.innerFall_kept
    | with_reducible apply State.modPm_kept
    | with_reducible apply State.suppressed_kept
    | with_reducible apply State.setCarry_kept
    | with_reducible apply State.fallCmd_kept
    | with_reducible apply State.setFld_kept
    | with_reducible apply Kept.whenIf
    | with_reducible apply Kept.ite
    | split
    | (with_reducible apply Kept.free); split

theorem State.fallH_kept {q : List Instr} (s : State) (m : Nat) (inst : Nat) (t : Nat) (h : Kept q s) :
    Kept q (State.fallH s m inst t) := by
  unfold State.fallH
  repeat' first
    | with_reducible assumption
    | intro _
    | with_reducible apply State.innerRise_kept
    | with_reducible apply State.innerFall_kept
    | with_reducible apply State.modPm_kept
    | with_reducible apply State.refreshFall_kept
    | with_reducible apply State.suppressed_kept
    | with_reducible apply State.setCarry_kept
    | with_reducible apply State.riseCmd_kept
    | with_reducible apply State.fallCmd_kept
    | with_reducible apply State.setFld_kept
    | with_reducible apply Kept.whenIf
    | with_reducible apply Kept.ite
    | split
    | (with_reducible apply Kept.free); split

theorem State.riseSide_kept {q : List Instr} (s : State) (m : Nat) (low : Bool) (inst : Nat) (t : Nat) (h : Kept q s) :
    Kept q (State.riseSide s m low inst t) := by
  unfold State.riseSide
  repeat' first
    | with_reducible assumption
    | intro _
    | with_reducible apply State.innerRise_kept
    | with_reducible apply State.modPm_kept
    | with_reducible apply State.suppressed_kept
    | with_reducible apply State.setCarry_kept
    | with_reducible apply State.setFld_kept
    | with_reducible apply Kept.whenIf
    | with_reducible apply Kept.ite
    | split
    | (with_reducible apply Kept.free); split

theorem State.fallSide_kept {q : List Instr} (s : State) (m : Nat) (low : Bool) (inst : Nat) (h : Kept q s) :
    Kept q (State.fallSide s m low inst) := by
  unfold State.fallSide
  repeat' first
    | with_reducible assumption
    | intro _
    | with_reducible apply State.innerFall_kept
    | with_reducible apply State.modPm_kept
    | with_reducible apply State.refreshFall_kept
    | with_reducible apply State.suppressed_kept
    | with_reducible apply State.setCarry_kept
    | with_reducible apply State.riseCmd_kept
    | with_reducible apply State.fallCmd_kept
    | with_reducible apply Kept.whenIf
    | with_reducible apply Kept.ite
    | split
    | (with_reducible apply Kept.free); split

theorem State.earlyFall_kept {q : List Instr} (s : State) (m : Nat) (h : Kept q s) :
    Kept q (State.earlyFall s m) := by
  unfold State.earlyFall
  repeat' first
    | with_reducible assumption
    | intro _
    | with_reducible apply State.setCmd_kept
    | with_reducible apply State.modPm_kept
    | with_reducible apply Kept.ite
    | split
    | (with_reducible apply Kept.free); split

theorem State.ruleOn_kept {q : List Instr} (s : State) (m : Nat) (low : Bool) (evt : Nat) (inst : Nat) (t : Nat) (h : Kept
    q s) :
    Kept q (State.ruleOn s m low evt inst t) := by
  unfold State.ruleOn
  repeat' first
    | with_reducible assumption
    | intro _
    | with_reducible apply State.riseH_kept
    | with_reducible apply State.fallH_kept
    | with_reducible apply State.riseSide_kept
    | with_reducible apply State.fallSide_kept
    | with_reducible apply Kept.ite
    | split
    | (with_reducible apply Kept.free); split

theorem State.commandRules_kept {q : List Instr} (s : State) (m : Nat) (evt : Nat) (inst : Nat) (h : Kept q s) :
    Kept q (State.commandRules s m evt inst) := by
  unfold State.commandRules
  repeat' first
    | with_reducible assumption
    | intro _
    | with_reducible apply State.ruleOn_kept
    | with_reducible apply Kept.whenIf
    | split
    | (with_reducible apply Kept.free); split

theorem State.pwmInt_kept {q : List Instr} (s : State) (m : Nat) (code : Nat) (h : Kept q s) :
    Kept q (State.pwmInt s m code) := by
  unfold State.pwmInt
  repeat' first
    | with_reducible assumption
    | intro _
    | with_reducible apply State.setFld_kept
    | with_reducible apply State.raise_kept
    | with_reducible apply Kept.whenIf
    | with_reducible apply Kept.ite
    | split
    | (with_reducible apply Kept.free); split

theorem State.sendLink_kept {q : List Instr} (s : State) (m : Nat) (age : Nat) (h : Kept q s) :
    Kept q (State.sendLink s m age) := by
  unfold State.sendLink
  repeat' first
    | with_reducible assumption
    | with_reducible exact fun h => h
    | exact fun _ => rfl
    | intro _
    | with_reducible apply Kept.ite
    | fail_if_no_progress with_reducible apply Kept.free
    | fail_if_no_progress (with_reducible refine Kept.updRegs ?_ (fun hk => ?_)) <;> try with_reducible exact hk.regs
    | fail_if_no_progress (with_reducible refine Kept.updPwm ?_ (fun hk => PwmOk.upd hk.pwm ?_ ?_)) <;> try first | with_reducible rfl | with_reducible exact fun h => h
    | fail_if_no_progress (with_reducible refine Kept.updSd ?_ (fun hk => ?_)) <;> try with_reducible exact hk.sd
    | fail_if_no_progress (with_reducible refine Kept.updSatchel ?_ (fun hk => ?_)) <;> try with_reducible exact hk.satchel
    | with_reducible rfl
    | with_reducible refine Kept.modsEq (q := q) ?_ ‹_›
    | with_reducible refine Kept.holdsEq (q := q) ?_ ‹_›
    | split
    | (with_reducible apply Kept.free); split

theorem State.linkOut_kept {q : List Instr} (s : State) (m : Nat) (src : Nat) (h : Kept q s) :
    Kept q (State.linkOut s m src) := by
  unfold State.linkOut
  repeat' first
    | with_reducible assumption
    | intro _
    | with_reducible apply State.sendLink_kept
    | with_reducible apply Kept.whenIf
    | split
    | (with_reducible apply Kept.free); split

theorem State.reload_kept {q : List Instr} (s : State) (m : Nat) (zero : Bool) (h : Kept q s) :
    Kept q (State.reload s m zero) := by
  unfold State.reload
  repeat' first
    | with_reducible assumption
    | intro _
    | with_reducible apply State.setAct_kept
    | with_reducible apply State.count_kept
    | with_reducible apply State.modPm_kept
    | with_reducible apply Kept.each
    | with_reducible apply Kept.ite
    | split
    | (with_reducible apply Kept.free); split

theorem State.safeLevels_kept {q : List Instr} (s : State) (m : Nat) (h : Kept q s) :
    Kept q (State.safeLevels s m) := by
  unfold State.safeLevels
  repeat' first
    | with_reducible assumption
    | intro _
    | with_reducible apply State.setSide_kept
    | with_reducible apply Kept.ite
    | split
    | (with_reducible apply Kept.free); split

theorem State.pwmApplied_kept {q : List Instr} (s : State) (m : Nat) (h : Kept q s) :
    Kept q (State.pwmApplied s m) := by
  unfold State.pwmApplied
  repeat' first
    | with_reducible assumption
    | intro _
    | with_reducible apply State.safeLevels_kept
    | with_reducible apply State.setFld_kept
    | split
    | (with_reducible apply Kept.free); split

theorem State.takeSettings_kept {q : List Instr} (s : State) (m : Nat) (h : Kept q s) :
    Kept q (State.takeSettings s m) := by
  unfold State.takeSettings
  repeat' first
    | with_reducible assumption
    | intro _
    | with_reducible apply State.setAll_kept
    | with_reducible apply State.modPm_kept
    | with_reducible apply State.safeLevels_kept
    | with_reducible apply State.setCmd_kept
    | with_reducible apply Kept.whenIf
    | with_reducible apply Kept.ite
    | split
    | (with_reducible apply Kept.free); split

theorem State.periodStart_kept {q : List Instr} (s : State) (m : Nat) (wcin : List (Nat × Int)) (h : Kept q s) :
    Kept q (State.periodStart s m wcin) := by
  unfold State.periodStart
  repeat' first
    | with_reducible assumption
    | intro _
    | with_reducible apply State.setLevel_kept
    | with_reducible apply State.cycleClears_kept
    | with_reducible apply State.takeSettings_kept
    | with_reducible apply State.modPm_kept
    | with_reducible apply Kept.each
    | with_reducible apply Kept.ite
    | split
    | (with_reducible apply Kept.free); split

theorem execPwmZeroEvent_kept {q : List Instr} (m : Nat) (wcin : List (Nat × Int)) (s : State) (h : Kept q s) :
    KeptOut q (execPwmZeroEvent m wcin s) := by
  unfold execPwmZeroEvent
  repeat' first
    | with_reducible assumption
    | with_reducible apply KeptOut.next
    | with_reducible apply KeptOut.ite
    | intro _
    | with_reducible apply State.setFlag_kept
    | with_reducible apply State.setFld_kept
    | with_reducible apply State.periodStart_kept
    | with_reducible apply State.reload_kept
    | with_reducible apply State.linkOut_kept
    | with_reducible apply State.pwmEvent_kept
    | with_reducible apply State.pwmInt_kept
    | with_reducible apply State.commandRules_kept
    | with_reducible apply Kept.whenIf
    | with_reducible apply Kept.ite
    | split
    | dsimp only; split

theorem execPwmPeriodEvent_kept {q : List Instr} (m : Nat) (wcin : List (Nat × Int)) (s : State) (h : Kept q s) :
    KeptOut q (execPwmPeriodEvent m wcin s) := by
  unfold execPwmPeriodEvent
  repeat' first
    | with_reducible assumption
    | with_reducible apply KeptOut.next
    | with_reducible apply KeptOut.ite
    | intro _
    | with_reducible apply State.setFlag_kept
    | with_reducible apply State.setFld_kept
    | with_reducible apply State.periodStart_kept
    | with_reducible apply State.reload_kept
    | with_reducible apply State.linkOut_kept
    | with_reducible apply State.pwmEvent_kept
    | with_reducible apply State.pwmInt_kept
    | with_reducible apply State.commandRules_kept
    | with_reducible apply Kept.whenIf
    | with_reducible apply Kept.ite
    | split
    | dsimp only; split

theorem execPwmTriggerCompare_kept {q : List Instr} (m : Nat) (which : Nat) (falling : Bool) (s : State) (h : Kept q s) :
    KeptOut q (execPwmTriggerCompare m which falling s) := by
  unfold execPwmTriggerCompare
  repeat' first
    | with_reducible assumption
    | with_reducible apply KeptOut.next
    | with_reducible apply KeptOut.ite
    | intro _
    | with_reducible apply State.setFlag_kept
    | with_reducible apply State.setFld_kept
    | with_reducible apply State.pwmEvent_kept
    | with_reducible apply State.pwmInt_kept
    | with_reducible apply Kept.ite
    | split
    | dsimp only; split

theorem execPwmCompareMatch_kept {q : List Instr} (m : Nat) (b : Bool) (falling : Bool) (s : State) (h : Kept q s) :
    KeptOut q (execPwmCompareMatch m b falling s) := by
  unfold execPwmCompareMatch
  repeat' first
    | with_reducible assumption
    | with_reducible apply KeptOut.next
    | with_reducible apply KeptOut.ite
    | intro _
    | with_reducible apply State.setFlag_kept
    | with_reducible apply State.setFld_kept
    | with_reducible apply State.linkOut_kept
    | with_reducible apply State.pwmInt_kept
    | with_reducible apply State.commandRules_kept
    | with_reducible apply Kept.whenIf
    | with_reducible apply Kept.ite
    | split
    | dsimp only; split

theorem State.interlock_kept {q : List Instr} (s : State) (m : Nat) (h : Kept q s) :
    Kept q (State.interlock s m) := by
  unfold State.interlock
  repeat' first
    | with_reducible assumption
    | intro _
    | with_reducible apply State.leaveFollow_kept
    | with_reducible apply State.setSide_kept
    | with_reducible apply State.modPm_kept
    | split
    | (with_reducible apply Kept.free); split

theorem State.innerExpiry_kept {q : List Instr} (s : State) (m : Nat) (low : Bool) (h : Kept q s) :
    Kept q (State.innerExpiry s m low) := by
  unfold State.innerExpiry
  repeat' first
    | with_reducible assumption
    | intro _
    | with_reducible apply State.modPm_kept
    | with_reducible apply State.startLeb_kept
    | with_reducible apply State.interlock_kept
    | with_reducible apply Kept.whenIf
    | with_reducible apply Kept.ite
    | split
    | (with_reducible apply Kept.free); split

theorem execTurnOnDelayExpiry_kept {q : List Instr} (m : Nat) (low : Bool) (s : State) (h : Kept q s) :
    KeptOut q (execTurnOnDelayExpiry m low s) := by
  unfold execTurnOnDelayExpiry
  repeat' first
    | with_reducible assumption
    | with_reducible apply KeptOut.next
    | with_reducible apply KeptOut.ite
    | intro _
    | with_reducible apply State.innerExpiry_kept
    | with_reducible apply State.dueFalls_kept
    | with_reducible apply State.modPm_kept
    | with_reducible apply State.interlock_kept
    | with_reducible apply State.setCmd_kept
    | with_reducible apply Kept.ite
    | split
    | dsimp only; split

theorem State.commitShd_kept {q : List Instr} (s : State) (m : Nat) (w : Nat) (v : Nat) (direct : Bool) (h : Kept q s) :
    Kept q (State.commitShd s m w v direct) := by
  unfold State.commitShd
  repeat' first
    | with_reducible assumption
    | intro _
    | with_reducible apply State.modPm_kept
    | with_reducible apply State.count_kept
    | with_reducible apply State.setFld_kept
    | with_reducible apply Kept.whenIf
    | with_reducible apply Kept.ite
    | split
    | (with_reducible apply Kept.free); split

theorem State.shdLowWrite_kept {q : List Instr} (s : State) (core : Nat) (m : Nat) (w : Nat) (v : Nat) (h : Kept q s) :
    Kept q (State.shdLowWrite s core m w v) := by
  unfold State.shdLowWrite
  repeat' first
    | with_reducible assumption
    | with_reducible exact fun h => h
    | exact fun _ => rfl
    | intro _
    | with_reducible apply State.discarded_kept
    | with_reducible apply Kept.ite
    | fail_if_no_progress with_reducible apply Kept.free
    | fail_if_no_progress (with_reducible refine Kept.updRegs ?_ (fun hk => ?_)) <;> try with_reducible exact hk.regs
    | fail_if_no_progress (with_reducible refine Kept.updPwm ?_ (fun hk => PwmOk.upd hk.pwm ?_ ?_)) <;> try first | with_reducible rfl | with_reducible exact fun h => h
    | fail_if_no_progress (with_reducible refine Kept.updSd ?_ (fun hk => ?_)) <;> try with_reducible exact hk.sd
    | fail_if_no_progress (with_reducible refine Kept.updSatchel ?_ (fun hk => ?_)) <;> try with_reducible exact hk.satchel
    | with_reducible rfl
    | with_reducible exact List.length_set
    | with_reducible exact List.length_set.trans List.length_set
    | exact List.length_set
    | with_reducible refine Kept.modsEq (q := q) ?_ ‹_›
    | with_reducible refine Kept.holdsEq (q := q) ?_ ‹_›
    | split
    | (with_reducible apply Kept.free); split

theorem State.shdHighWrite_kept {q : List Instr} (s : State) (core : Nat) (m : Nat) (w : Nat) (v : Nat) (h : Kept q s) :
    Kept q (State.shdHighWrite s core m w v) := by
  unfold State.shdHighWrite
  repeat' first
    | with_reducible assumption
    | with_reducible exact fun h => h
    | exact fun _ => rfl
    | intro _
    | with_reducible apply State.commitShd_kept
    | with_reducible apply State.discarded_kept
    | with_reducible apply Kept.ite
    | fail_if_no_progress with_reducible apply Kept.free
    | fail_if_no_progress (with_reducible refine Kept.updRegs ?_ (fun hk => ?_)) <;> try with_reducible exact hk.regs
    | fail_if_no_progress (with_reducible refine Kept.updPwm ?_ (fun hk => PwmOk.upd hk.pwm ?_ ?_)) <;> try first | with_reducible rfl | with_reducible exact fun h => h
    | fail_if_no_progress (with_reducible refine Kept.updSd ?_ (fun hk => ?_)) <;> try with_reducible exact hk.sd
    | fail_if_no_progress (with_reducible refine Kept.updSatchel ?_ (fun hk => ?_)) <;> try with_reducible exact hk.satchel
    | with_reducible rfl
    | with_reducible exact List.length_set
    | with_reducible exact List.length_set.trans List.length_set
    | exact List.length_set
    | with_reducible refine Kept.modsEq (q := q) ?_ ‹_›
    | with_reducible refine Kept.holdsEq (q := q) ?_ ‹_›
    | split
    | (with_reducible apply Kept.free); split

theorem execPwmShadowLowWrite_kept {q : List Instr} (core : Nat) (m : Nat) (w : Nat) (value : Nat) (s : State) (h : Kept q
    s) :
    KeptOut q (execPwmShadowLowWrite core m w value s) := by
  unfold execPwmShadowLowWrite
  repeat' first
    | with_reducible assumption
    | with_reducible apply KeptOut.next
    | with_reducible apply KeptOut.ite
    | intro _
    | with_reducible apply State.accessBlk_kept
    | with_reducible apply State.shdLowWrite_kept
    | with_reducible apply Kept.ite
    | split
    | dsimp only; split

theorem execPwmShadowHighWrite_kept {q : List Instr} (core : Nat) (m : Nat) (w : Nat) (value : Nat) (s : State) (h : Kept q
    s) :
    KeptOut q (execPwmShadowHighWrite core m w value s) := by
  unfold execPwmShadowHighWrite
  repeat' first
    | with_reducible assumption
    | with_reducible apply KeptOut.next
    | with_reducible apply KeptOut.ite
    | intro _
    | with_reducible apply State.accessBlk_kept
    | with_reducible apply State.shdHighWrite_kept
    | with_reducible apply Kept.ite
    | split
    | dsimp only; split

theorem State.stage_kept {q : List Instr} (s : State) (n : Nat) (m : Nat) (w : Nat) (v : Nat) (h : Kept q s) :
    Kept q (State.stage s n m w v) := by
  unfold State.stage
  repeat' first
    | with_reducible assumption
    | intro _
    | with_reducible apply State.modPm_kept
    | with_reducible apply State.discarded_kept
    | with_reducible apply Kept.ite
    | split
    | (with_reducible apply Kept.free); split

theorem State.markStaged_kept {q : List Instr} (s : State) (n : Nat) (h : Kept q s) :
    Kept q (State.markStaged s n) := by
  unfold State.markStaged
  repeat' first
    | with_reducible assumption
    | with_reducible exact fun h => h
    | exact fun _ => rfl
    | intro _
    | with_reducible apply Kept.ite
    | fail_if_no_progress with_reducible apply Kept.free
    | fail_if_no_progress (with_reducible refine Kept.updRegs ?_ (fun hk => ?_)) <;> try with_reducible exact hk.regs
    | fail_if_no_progress (with_reducible refine Kept.updPwm ?_ (fun hk => PwmOk.upd hk.pwm ?_ ?_)) <;> try first | with_reducible rfl | with_reducible exact fun h => h
    | fail_if_no_progress (with_reducible refine Kept.updSd ?_ (fun hk => ?_)) <;> try with_reducible exact hk.sd
    | fail_if_no_progress (with_reducible refine Kept.updSatchel ?_ (fun hk => ?_)) <;> try with_reducible exact hk.satchel
    | with_reducible rfl
    | with_reducible exact List.length_map _
    | with_reducible refine Kept.modsEq (q := q) ?_ ‹_›
    | with_reducible refine Kept.holdsEq (q := q) ?_ ‹_›
    | split
    | (with_reducible apply Kept.free); split

theorem State.dropStaged_kept {q : List Instr} (s : State) (n : Nat) (h : Kept q s) :
    Kept q (State.dropStaged s n) := by
  unfold State.dropStaged
  repeat' first
    | with_reducible assumption
    | intro _
    | with_reducible apply State.modPm_kept
    | with_reducible apply State.count_kept
    | with_reducible apply Kept.whenIf
    | with_reducible apply Kept.each
    | split
    | (with_reducible apply Kept.free); split

theorem State.stagingAtBell_kept {q : List Instr} (s : State) (h : Kept q s) :
    Kept q (State.stagingAtBell s) := by
  unfold State.stagingAtBell
  repeat' first
    | with_reducible assumption
    | intro _
    | with_reducible apply State.modPm_kept
    | with_reducible apply State.count_kept
    | with_reducible apply Kept.whenIf
    | with_reducible apply Kept.each
    | split
    | (with_reducible apply Kept.free); split

theorem State.captureShadows_kept {q : List Instr} (s : State) (h : Kept q s) :
    Kept q (State.captureShadows s) := by
  unfold State.captureShadows
  repeat' first
    | with_reducible assumption
    | with_reducible exact fun h => h
    | exact fun _ => rfl
    | intro _
    | with_reducible apply Kept.ite
    | fail_if_no_progress with_reducible apply Kept.free
    | fail_if_no_progress (with_reducible refine Kept.updRegs ?_ (fun hk => ?_)) <;> try with_reducible exact hk.regs
    | fail_if_no_progress (with_reducible refine Kept.updDup ?_ (fun hk => DupOk.upd hk.dup ?_ ?_)) <;> try first | with_reducible rfl | with_reducible exact fun h => h
    | fail_if_no_progress (with_reducible refine Kept.updSd ?_ (fun hk => ?_)) <;> try with_reducible exact hk.sd
    | fail_if_no_progress (with_reducible refine Kept.updSatchel ?_ (fun hk => ?_)) <;> try with_reducible exact hk.satchel
    | with_reducible rfl
    | with_reducible refine Kept.votersEq (q := q) ?_ ‹_›
    | with_reducible refine Kept.slotsDEq (q := q) ?_ ‹_›
    | split
    | (with_reducible apply Kept.free); split

theorem execStagedMove_kept {q : List Instr} (s : State) (h : Kept q s) :
    KeptOut q (execStagedMove s) := by
  unfold execStagedMove
  repeat' first
    | with_reducible assumption
    | with_reducible apply KeptOut.next
    | with_reducible apply KeptOut.ite
    | with_reducible exact fun h => h
    | exact fun _ => rfl
    | with_reducible exact SMap.wf_filter _
    | intro _
    | with_reducible apply State.captureShadows_kept
    | with_reducible apply State.commitShd_kept
    | with_reducible apply State.modPm_kept
    | with_reducible apply State.count_kept
    | with_reducible apply State.setOuten_kept
    | with_reducible apply Kept.whenIf
    | with_reducible apply Kept.each
    | with_reducible apply Kept.ite
    | fail_if_no_progress with_reducible apply Kept.free
    | fail_if_no_progress (with_reducible refine Kept.updRegs ?_ (fun hk => ?_)) <;> try with_reducible exact hk.regs
    | fail_if_no_progress (with_reducible refine Kept.updDup ?_ (fun hk => DupOk.upd hk.dup ?_ ?_)) <;> try first | with_reducible rfl | with_reducible exact fun h => h
    | fail_if_no_progress (with_reducible refine Kept.updSd ?_ (fun hk => ?_)) <;> try with_reducible exact hk.sd
    | fail_if_no_progress (with_reducible refine Kept.updSatchel ?_ (fun hk => ?_)) <;> try with_reducible exact hk.satchel
    | with_reducible rfl
    | with_reducible exact List.length_map _
    | with_reducible refine Kept.votersEq (q := q) ?_ ‹_›
    | with_reducible refine Kept.slotsDEq (q := q) ?_ ‹_›
    | exact hk.dup.1.symm
    | exact hk.dup.2.symm
    | split
    | dsimp only; split

theorem execDelayLineLock_kept {q : List Instr} (s : State) (h : Kept q s) :
    KeptOut q (execDelayLineLock s) := by
  unfold execDelayLineLock
  repeat' first
    | with_reducible assumption
    | with_reducible apply KeptOut.next
    | intro _
    | with_reducible apply State.setFld_kept
    | split
    | dsimp only; split

theorem execDelayLineLost_kept {q : List Instr} (s : State) (h : Kept q s) :
    KeptOut q (execDelayLineLost s) := by
  unfold execDelayLineLost
  repeat' first
    | with_reducible assumption
    | with_reducible apply KeptOut.next
    | intro _
    | with_reducible apply State.event_kept
    | with_reducible apply State.setFld_kept
    | split
    | dsimp only; split

theorem State.followNow_kept {q : List Instr} (s : State) (m : Nat) (h : Kept q s) :
    Kept q (State.followNow s m) := by
  unfold State.followNow
  repeat' first
    | with_reducible assumption
    | intro _
    | with_reducible apply State.setFld_kept
    | with_reducible apply State.setSide_kept
    | with_reducible apply State.modPm_kept
    | with_reducible apply Kept.ite
    | split
    | (with_reducible apply Kept.free); split

theorem execSafeLevelResumeCheck_kept {q : List Instr} (m : Nat) (s : State) (h : Kept q s) :
    KeptOut q (execSafeLevelResumeCheck m s) := by
  unfold execSafeLevelResumeCheck
  repeat' first
    | with_reducible assumption
    | with_reducible apply KeptOut.next
    | with_reducible apply KeptOut.ite
    | intro _
    | with_reducible apply State.modPm_kept
    | with_reducible apply State.padsOff_kept
    | with_reducible apply State.followNow_kept
    | with_reducible apply Kept.whenIf
    | with_reducible apply Kept.ite
    | split
    | dsimp only; split

theorem State.holdWrite_kept {q : List Instr} (s : State) (m : Nat) (outen : Bool) (h : Kept q s) :
    Kept q (State.holdWrite s m outen) := by
  unfold State.holdWrite
  repeat' first
    | with_reducible assumption
    | with_reducible exact fun h => h
    | exact fun _ => rfl
    | with_reducible exact SMap.wf_filter _
    | intro _
    | with_reducible apply State.gateNow_kept
    | with_reducible apply State.setBit_kept
    | fail_if_no_progress with_reducible apply Kept.free
    | fail_if_no_progress (with_reducible refine Kept.updRegs ?_ (fun hk => ?_)) <;> try with_reducible exact hk.regs
    | fail_if_no_progress (with_reducible refine Kept.updSd ?_ (fun hk => ?_)) <;> try with_reducible exact hk.sd
    | fail_if_no_progress (with_reducible refine Kept.updSatchel ?_ (fun hk => ?_)) <;> try with_reducible exact hk.satchel
    | with_reducible rfl
    | split
    | (with_reducible apply Kept.free); split

theorem State.cancelHeld_kept {q : List Instr} (s : State) (m : Nat) (outen : Bool) (h : Kept q s) :
    Kept q (State.cancelHeld s m outen) := by
  unfold State.cancelHeld
  repeat' first
    | with_reducible assumption
    | with_reducible exact fun h => h
    | exact fun _ => rfl
    | with_reducible exact SMap.wf_filter _
    | intro _
    | fail_if_no_progress with_reducible apply Kept.free
    | fail_if_no_progress (with_reducible refine Kept.updRegs ?_ (fun hk => ?_)) <;> try with_reducible exact hk.regs
    | fail_if_no_progress (with_reducible refine Kept.updSd ?_ (fun hk => ?_)) <;> try with_reducible exact hk.sd
    | fail_if_no_progress (with_reducible refine Kept.updSatchel ?_ (fun hk => ?_)) <;> try with_reducible exact hk.satchel
    | with_reducible rfl
    | split
    | (with_reducible apply Kept.free); split

theorem State.outenWrite_kept {q : List Instr} (s : State) (w : Wing) (m : Nat) (on : Bool) (h : Kept q s) :
    Kept q (State.outenWrite s w m on) := by
  unfold State.outenWrite
  repeat' first
    | with_reducible assumption
    | intro _
    | with_reducible apply State.clearOuten_kept
    | with_reducible apply State.cancelHeld_kept
    | with_reducible apply State.discarded_kept
    | with_reducible apply State.gateNow_kept
    | with_reducible apply State.holdWrite_kept
    | with_reducible apply State.setOuten_kept
    | with_reducible apply Kept.ite
    | split
    | (with_reducible apply Kept.free); split

theorem execPwmOutenWrite_kept {q : List Instr} (core : Nat) (m : Nat) (on : Bool) (s : State) (h : Kept q s) :
    KeptOut q (execPwmOutenWrite core m on s) := by
  unfold execPwmOutenWrite
  repeat' first
    | with_reducible assumption
    | with_reducible apply KeptOut.next
    | intro _
    | with_reducible apply State.accessBlk_kept
    | with_reducible apply State.outenWrite_kept
    | split
    | dsimp only; split

theorem State.cntEnWrite_kept {q : List Instr} (s : State) (m : Nat) (on : Bool) (h : Kept q s) :
    Kept q (State.cntEnWrite s m on) := by
  unfold State.cntEnWrite
  repeat' first
    | with_reducible assumption
    | intro _
    | with_reducible apply State.stopCounter_kept
    | with_reducible apply State.cancelHeld_kept
    | with_reducible apply State.holdWrite_kept
    | with_reducible apply State.startCounter_kept
    | with_reducible apply Kept.ite
    | split
    | (with_reducible apply Kept.free); split

theorem execPwmCntEnWrite_kept {q : List Instr} (core : Nat) (m : Nat) (on : Bool) (s : State) (h : Kept q s) :
    KeptOut q (execPwmCntEnWrite core m on s) := by
  unfold execPwmCntEnWrite
  repeat' first
    | with_reducible assumption
    | with_reducible apply KeptOut.next
    | intro _
    | with_reducible apply State.accessBlk_kept
    | with_reducible apply State.cntEnWrite_kept
    | split
    | dsimp only; split

theorem State.armWrite_kept {q : List Instr} (s : State) (m : Nat) (on : Bool) (h : Kept q s) :
    Kept q (State.armWrite s m on) := by
  unfold State.armWrite
  repeat' first
    | with_reducible assumption
    | intro _
    | with_reducible apply State.setFlag_kept
    | with_reducible apply Kept.whenIf
    | split
    | (with_reducible apply Kept.free); split

theorem execPwmArmWrite_kept {q : List Instr} (core : Nat) (m : Nat) (on : Bool) (s : State) (h : Kept q s) :
    KeptOut q (execPwmArmWrite core m on s) := by
  unfold execPwmArmWrite
  repeat' first
    | with_reducible assumption
    | with_reducible apply KeptOut.next
    | intro _
    | with_reducible apply State.accessBlk_kept
    | with_reducible apply State.armWrite_kept
    | split
    | dsimp only; split

theorem State.gstartWrite_kept {q : List Instr} (s : State) (mask : Nat) (h : Kept q s) :
    Kept q (State.gstartWrite s mask) := by
  unfold State.gstartWrite
  repeat' first
    | with_reducible assumption
    | with_reducible exact fun h => h
    | exact fun _ => rfl
    | intro _
    | fail_if_no_progress with_reducible apply Kept.free
    | fail_if_no_progress (with_reducible refine Kept.updRegs ?_ (fun hk => ?_)) <;> try with_reducible exact hk.regs
    | fail_if_no_progress (with_reducible refine Kept.updPwm ?_ (fun hk => PwmOk.upd hk.pwm ?_ ?_)) <;> try first | with_reducible rfl | with_reducible exact fun h => h
    | fail_if_no_progress (with_reducible refine Kept.updSd ?_ (fun hk => ?_)) <;> try with_reducible exact hk.sd
    | fail_if_no_progress (with_reducible refine Kept.updSatchel ?_ (fun hk => ?_)) <;> try with_reducible exact hk.satchel
    | with_reducible rfl
    | with_reducible refine Kept.modsEq (q := q) ?_ ‹_›
    | with_reducible refine Kept.holdsEq (q := q) ?_ ‹_›
    | split
    | (with_reducible apply Kept.free); split

theorem execPwmGstartWrite_kept {q : List Instr} (core : Nat) (mask : Nat) (s : State) (h : Kept q s) :
    KeptOut q (execPwmGstartWrite core mask s) := by
  unfold execPwmGstartWrite
  repeat' first
    | with_reducible assumption
    | with_reducible apply KeptOut.next
    | intro _
    | with_reducible apply State.accessBlk_kept
    | with_reducible apply State.gstartWrite_kept
    | split
    | dsimp only; split

theorem execGroupStartExecute_kept {q : List Instr} (s : State) (h : Kept q s) :
    KeptOut q (execGroupStartExecute s) := by
  unfold execGroupStartExecute
  repeat' first
    | with_reducible assumption
    | with_reducible apply KeptOut.next
    | with_reducible exact fun h => h
    | exact fun _ => rfl
    | with_reducible exact SMap.wf_filter _
    | intro _
    | with_reducible apply State.startCounter_kept
    | with_reducible apply Kept.each
    | fail_if_no_progress with_reducible apply Kept.free
    | fail_if_no_progress (with_reducible refine Kept.updRegs ?_ (fun hk => ?_)) <;> try with_reducible exact hk.regs
    | fail_if_no_progress (with_reducible refine Kept.updPwm ?_ (fun hk => PwmOk.upd hk.pwm ?_ ?_)) <;> try first | with_reducible rfl | with_reducible exact fun h => h
    | fail_if_no_progress (with_reducible refine Kept.updSd ?_ (fun hk => ?_)) <;> try with_reducible exact hk.sd
    | fail_if_no_progress (with_reducible refine Kept.updSatchel ?_ (fun hk => ?_)) <;> try with_reducible exact hk.satchel
    | with_reducible rfl
    | with_reducible refine Kept.modsEq (q := q) ?_ ‹_›
    | with_reducible refine Kept.holdsEq (q := q) ?_ ‹_›
    | split
    | dsimp only; split

theorem execPwmTimedStart_kept {q : List Instr} (m : Nat) (s : State) (h : Kept q s) :
    KeptOut q (execPwmTimedStart m s) := by
  unfold execPwmTimedStart
  repeat' first
    | with_reducible assumption
    | with_reducible apply KeptOut.next
    | with_reducible apply KeptOut.ite
    | intro _
    | with_reducible apply State.startCounter_kept
    | with_reducible apply State.setFld_kept
    | with_reducible apply Kept.ite
    | split
    | dsimp only; split

theorem execPwmLinkPulse_kept {q : List Instr} (m : Nat) (s : State) (h : Kept q s) :
    KeptOut q (execPwmLinkPulse m s) := by
  unfold execPwmLinkPulse
  repeat' first
    | with_reducible assumption
    | with_reducible apply KeptOut.next
    | with_reducible apply KeptOut.ite
    | with_reducible exact fun h => h
    | exact fun _ => rfl
    | intro _
    | with_reducible apply State.modPm_kept
    | with_reducible apply State.loadCount_kept
    | with_reducible apply State.sendLink_kept
    | with_reducible apply Kept.whenIf
    | with_reducible apply Kept.ite
    | fail_if_no_progress with_reducible apply Kept.free
    | fail_if_no_progress (with_reducible refine Kept.updRegs ?_ (fun hk => ?_)) <;> try with_reducible exact hk.regs
    | fail_if_no_progress (with_reducible refine Kept.updPwm ?_ (fun hk => PwmOk.upd hk.pwm ?_ ?_)) <;> try first | with_reducible rfl | with_reducible exact fun h => h
    | fail_if_no_progress (with_reducible refine Kept.updSd ?_ (fun hk => ?_)) <;> try with_reducible exact hk.sd
    | fail_if_no_progress (with_reducible refine Kept.updSatchel ?_ (fun hk => ?_)) <;> try with_reducible exact hk.satchel
    | with_reducible rfl
    | with_reducible refine Kept.modsEq (q := q) ?_ ‹_›
    | with_reducible refine Kept.holdsEq (q := q) ?_ ‹_›
    | split
    | dsimp only; split

theorem State.intWrite_kept {q : List Instr} (s : State) (m : Nat) (isel : Nat) (presc : Nat) (ien : Bool) (clr : Bool) (h
    : Kept q s) :
    Kept q (State.intWrite s m isel presc ien clr) := by
  unfold State.intWrite
  repeat' first
    | with_reducible assumption
    | intro _
    | with_reducible apply State.setFlag_kept
    | with_reducible apply State.setFld_kept
    | with_reducible apply Kept.whenIf
    | with_reducible apply Kept.ite
    | split
    | (with_reducible apply Kept.free); split

theorem execPwmIntWrite_kept {q : List Instr} (core : Nat) (m : Nat) (isel : Nat) (presc : Nat) (ien : Bool) (clr : Bool)
    (s : State) (h : Kept q s) :
    KeptOut q (execPwmIntWrite core m isel presc ien clr s) := by
  unfold execPwmIntWrite
  repeat' first
    | with_reducible assumption
    | with_reducible apply KeptOut.next
    | intro _
    | with_reducible apply State.accessBlk_kept
    | with_reducible apply State.intWrite_kept
    | split
    | dsimp only; split

theorem State.modTick_kept {q : List Instr} (s : State) (m : Nat) (h : Kept q s) :
    Kept q (State.modTick s m) := by
  unfold State.modTick
  repeat' first
    | with_reducible assumption
    | intro _
    | with_reducible apply State.dueFalls_kept
    | with_reducible apply State.earlyFall_kept
    | with_reducible apply State.setFlag_kept
    | with_reducible apply State.setFld_kept
    | with_reducible apply Kept.ite
    | split
    | (with_reducible apply Kept.free); split

theorem State.advanceCounters_kept {q : List Instr} (s : State) (h : Kept q s) :
    Kept q (State.advanceCounters s) := by
  unfold State.advanceCounters
  repeat' first
    | with_reducible assumption
    | intro _
    | with_reducible apply State.modTick_kept
    | with_reducible apply Kept.each
    | split
    | (with_reducible apply Kept.free); split

end Sys2Proof.Machine
end

