-- ==== Sys2Proof/Laws/KeptGate.lean ====
section
/-!
SUPPORT. What every operation of Machine/Gate.lean keeps (Laws/Kept.lean).
-/
namespace Sys2Proof.Machine

set_option linter.unusedTactic false
set_option linter.unreachableTactic false

theorem State.fltReport_kept {q : List Instr} (s : State) (l : List (Nat × Nat)) (h : Kept q s) :
    Kept q (State.fltReport s l) := by
  unfold State.fltReport
  repeat' first
    | with_reducible assumption
    | intro _
    | with_reducible apply State.setFld_kept
    | with_reducible apply State.count_kept
    | with_reducible apply State.setBit_kept
    | with_reducible apply State.runEntry_kept
    | with_reducible apply State.gateEvent_kept
    | with_reducible apply Kept.each
    | with_reducible apply Kept.foldl
    | with_reducible apply Kept.ite
    | split
    | (with_reducible apply Kept.free); split

theorem State.endWindows_kept {q : List Instr} (s : State) (mask : Nat) (h : Kept q s) :
    Kept q (State.endWindows s mask).1 := by
  unfold State.endWindows
  repeat' first
    | with_reducible assumption
    | with_reducible exact fun h => h
    | exact fun _ => rfl
    | with_reducible exact foldSet_wf _ _ _
    | with_reducible exact SMap.wf_filter _
    | intro _
    | with_reducible apply State.setBit_kept
    | with_reducible apply Kept.each
    | with_reducible apply Kept.foldl
    | fail_if_no_progress with_reducible apply Kept.free
    | fail_if_no_progress (with_reducible refine Kept.updRegs ?_ (fun hk => ?_)) <;> try with_reducible exact hk.regs
    | fail_if_no_progress (with_reducible refine Kept.updSd ?_ (fun hk => ?_)) <;> try with_reducible exact hk.sd
    | fail_if_no_progress (with_reducible refine Kept.updSatchel ?_ (fun hk => ?_)) <;> try with_reducible exact hk.satchel
    | with_reducible rfl
    | with_reducible exact length_foldl_set (fun x => x) _ _
    | dsimp only
    | split
    | (with_reducible apply Kept.free); split

theorem execFltQualified_kept {q : List Instr} (mask : Nat) (ended : Nat) (s : State) (h : Kept q s) :
    KeptOut q (execFltQualified mask ended s) := by
  unfold execFltQualified
  repeat' first
    | with_reducible assumption
    | with_reducible apply KeptOut.next
    | with_reducible apply KeptOut.ite
    | with_reducible exact fun h => h
    | exact fun _ => rfl
    | with_reducible exact SMap.wf_filter _
    | intro _
    | with_reducible apply State.endWindows_kept
    | (with_reducible refine Kept.fst ?_ (by assumption)); with_reducible apply State.endWindows_kept
    | with_reducible apply State.setBit_kept
    | with_reducible apply State.fltReport_kept
    | with_reducible apply Kept.each
    | with_reducible apply Kept.ite
    | fail_if_no_progress with_reducible apply Kept.free
    | fail_if_no_progress (with_reducible refine Kept.updRegs ?_ (fun hk => ?_)) <;> try with_reducible exact hk.regs
    | fail_if_no_progress (with_reducible refine Kept.updSd ?_ (fun hk => ?_)) <;> try with_reducible exact hk.sd
    | fail_if_no_progress (with_reducible refine Kept.updSatchel ?_ (fun hk => ?_)) <;> try with_reducible exact hk.satchel
    | with_reducible rfl
    | with_reducible exact List.length_map _
    | split
    | dsimp only; split

theorem execFltBlankingEnd_kept {q : List Instr} (mask : Nat) (s : State) (h : Kept q s) :
    KeptOut q (execFltBlankingEnd mask s) := by
  unfold execFltBlankingEnd
  repeat' first
    | with_reducible assumption
    | with_reducible apply KeptOut.next
    | with_reducible apply KeptOut.ite
    | intro _
    | with_reducible apply State.endWindows_kept
    | (with_reducible refine Kept.fst ?_ (by assumption)); with_reducible apply State.endWindows_kept
    | with_reducible apply State.fltReport_kept
    | with_reducible apply Kept.ite
    | split
    | dsimp only; split

theorem execFltQualifiedHigh_kept {q : List Instr} (m : Nat) (s : State) (h : Kept q s) :
    KeptOut q (execFltQualifiedHigh m s) := by
  unfold execFltQualifiedHigh
  repeat' first
    | with_reducible assumption
    | with_reducible apply KeptOut.next
    | with_reducible apply KeptOut.ite
    | with_reducible exact fun h => h
    | exact fun _ => rfl
    | with_reducible exact SMap.wf_filter _
    | intro _
    | with_reducible apply State.setBit_kept
    | with_reducible apply Kept.ite
    | fail_if_no_progress with_reducible apply Kept.free
    | fail_if_no_progress (with_reducible refine Kept.updRegs ?_ (fun hk => ?_)) <;> try with_reducible exact hk.regs
    | fail_if_no_progress (with_reducible refine Kept.updSd ?_ (fun hk => ?_)) <;> try with_reducible exact hk.sd
    | fail_if_no_progress (with_reducible refine Kept.updSatchel ?_ (fun hk => ?_)) <;> try with_reducible exact hk.satchel
    | with_reducible rfl
    | split
    | dsimp only; split

theorem execRdyLost_kept {q : List Instr} (m : Nat) (s : State) (h : Kept q s) :
    KeptOut q (execRdyLost m s) := by
  unfold execRdyLost
  repeat' first
    | with_reducible assumption
    | with_reducible apply KeptOut.next
    | with_reducible apply KeptOut.ite
    | intro _
    | with_reducible apply State.setBit_kept
    | with_reducible apply State.runEntry_kept
    | with_reducible apply State.gateNow_kept
    | with_reducible apply Kept.whenIf
    | with_reducible apply Kept.ite
    | split
    | dsimp only; split

theorem execRdyQualifiedHigh_kept {q : List Instr} (m : Nat) (s : State) (h : Kept q s) :
    KeptOut q (execRdyQualifiedHigh m s) := by
  unfold execRdyQualifiedHigh
  repeat' first
    | with_reducible assumption
    | with_reducible apply KeptOut.next
    | with_reducible apply KeptOut.ite
    | intro _
    | with_reducible apply State.setBit_kept
    | with_reducible apply Kept.ite
    | split
    | dsimp only; split

theorem execShootThrough_kept {q : List Instr} (m : Nat) (s : State) (h : Kept q s) :
    KeptOut q (execShootThrough m s) := by
  unfold execShootThrough
  repeat' first
    | with_reducible assumption
    | with_reducible apply KeptOut.next
    | with_reducible apply KeptOut.ite
    | intro _
    | with_reducible apply State.modPm_kept
    | with_reducible apply State.count_kept
    | with_reducible apply State.setBit_kept
    | with_reducible apply State.runEntry_kept
    | with_reducible apply State.gateNow_kept
    | with_reducible apply Kept.ite
    | split
    | dsimp only; split

theorem State.swtrig_kept {q : List Instr} (s : State) (w : Wing) (trig : Nat) (h : Kept q s) :
    Kept q (State.swtrig s w trig) := by
  unfold State.swtrig
  repeat' first
    | with_reducible assumption
    | intro _
    | with_reducible apply State.runEntry_kept
    | with_reducible apply State.discarded_kept
    | with_reducible apply Kept.each
    | with_reducible apply Kept.ite
    | split
    | (with_reducible apply Kept.free); split

theorem execGiSwtrigWrite_kept {q : List Instr} (core : Nat) (trig : Nat) (s : State) (h : Kept q s) :
    KeptOut q (execGiSwtrigWrite core trig s) := by
  unfold execGiSwtrigWrite
  repeat' first
    | with_reducible assumption
    | with_reducible apply KeptOut.next
    | intro _
    | with_reducible apply State.accessBlk_kept
    | with_reducible apply State.swtrig_kept
    | split
    | dsimp only; split

theorem execSequencerGapEnd_kept {q : List Instr} (k : Nat) (s : State) (h : Kept q s) :
    KeptOut q (execSequencerGapEnd k s) := by
  unfold execSequencerGapEnd
  repeat' first
    | with_reducible assumption
    | with_reducible apply KeptOut.next
    | with_reducible apply KeptOut.ite
    | intro _
    | with_reducible apply State.seqFallback_kept
    | with_reducible apply State.gapEnd_kept
    | with_reducible apply Kept.ite
    | split
    | dsimp only; split

theorem execRefreshInsert_kept {q : List Instr} (m : Nat) (s : State) (h : Kept q s) :
    KeptOut q (execRefreshInsert m s) := by
  unfold execRefreshInsert
  repeat' first
    | with_reducible assumption
    | with_reducible apply KeptOut.next
    | with_reducible apply KeptOut.ite
    | intro _
    | with_reducible apply State.setCmd_kept
    | with_reducible apply State.count_kept
    | with_reducible apply State.modPm_kept
    | with_reducible apply Kept.ite
    | split
    | dsimp only; split

theorem execRefreshPhaseEnd_kept {q : List Instr} (m : Nat) (s : State) (h : Kept q s) :
    KeptOut q (execRefreshPhaseEnd m s) := by
  unfold execRefreshPhaseEnd
  repeat' first
    | with_reducible assumption
    | with_reducible apply KeptOut.next
    | with_reducible apply KeptOut.ite
    | intro _
    | with_reducible apply State.modPm_kept
    | with_reducible apply State.setCmd_kept
    | with_reducible apply Kept.whenIf
    | with_reducible apply Kept.ite
    | split
    | dsimp only; split

end Sys2Proof.Machine
end

