-- ==== Sys2Proof/Laws/KeptRecess.lean ====
section
/-!
SUPPORT. What every operation of Machine/Recess.lean keeps (Laws/Kept.lean).
-/
namespace Sys2Proof.Machine

set_option linter.unusedTactic false
set_option linter.unreachableTactic false

theorem State.answer_kept {q : List Instr} (s : State) (code : Nat) (h : Kept q s) :
    Kept q (State.answer s code) := by
  unfold State.answer
  repeat' first
    | with_reducible assumption
    | with_reducible exact fun h => h
    | exact fun _ => rfl
    | intro _
    | fail_if_no_progress with_reducible apply Kept.free
    | fail_if_no_progress (with_reducible refine Kept.updRegs ?_ (fun hk => ?_)) <;> try with_reducible exact hk.regs
    | fail_if_no_progress (with_reducible refine Kept.updDict ?_ (fun hk => DictOk.upd hk.dict ?_)) <;> try first | with_reducible rfl | with_reducible exact fun h => h
    | fail_if_no_progress (with_reducible refine Kept.updSd ?_ (fun hk => ?_)) <;> try with_reducible exact hk.sd
    | fail_if_no_progress (with_reducible refine Kept.updSatchel ?_ (fun hk => ?_)) <;> try with_reducible exact hk.satchel
    | with_reducible rfl
    | with_reducible refine Kept.groupsEq (q := q) ?_ ‹_›
    | split
    | (with_reducible apply Kept.free); split

theorem State.enterRecess_kept {q : List Instr} (s : State) (g : Nat) (h : Kept q s) :
    Kept q (State.enterRecess s g) := by
  unfold State.enterRecess
  repeat' first
    | with_reducible assumption
    | intro _
    | with_reducible apply State.modGroup_kept
    | with_reducible apply State.sarLeave_kept
    | with_reducible apply State.modLeave_kept
    | with_reducible apply Kept.whenIf
    | with_reducible apply Kept.ite
    | split
    | (with_reducible apply Kept.free); split

theorem State.groupAct_kept {q : List Instr} (s : State) (g : Nat) (cmd : Nat) (h : Kept q s) :
    Kept q (State.groupAct s g cmd) := by
  unfold State.groupAct
  repeat' first
    | with_reducible assumption
    | intro _
    | with_reducible apply State.answer_kept
    | with_reducible apply State.modGroup_kept
    | with_reducible apply State.enterRecess_kept
    | with_reducible apply Kept.ite
    | split
    | (with_reducible apply Kept.free); split

theorem State.groupCommand_kept {q : List Instr} (s : State) (g : Nat) (cmd : Nat) (h : Kept q s) :
    Kept q (State.groupCommand s g cmd) := by
  unfold State.groupCommand
  repeat' first
    | with_reducible assumption
    | intro _
    | with_reducible apply State.answer_kept
    | with_reducible apply State.mgmtEvent_kept
    | with_reducible apply State.modGroup_kept
    | with_reducible apply State.groupAct_kept
    | with_reducible apply Kept.ite
    | split
    | (with_reducible apply Kept.free); split

theorem State.cacheAnswer_kept {q : List Instr} (s : State) (port : Nat) (source : Nat) (tag : Nat) (code : Nat) (data :
    List Nat) (h : Kept q s) :
    Kept q (State.cacheAnswer s port source tag code data) := by
  unfold State.cacheAnswer
  repeat' first
    | with_reducible assumption
    | with_reducible exact fun h => h
    | exact fun _ => rfl
    | with_reducible exact SMap.wf_filter _
    | intro _
    | fail_if_no_progress with_reducible apply Kept.free
    | fail_if_no_progress (with_reducible refine Kept.updRegs ?_ (fun hk => ?_)) <;> try with_reducible exact hk.regs
    | fail_if_no_progress (with_reducible refine Kept.updDict ?_ (fun hk => DictOk.upd hk.dict ?_)) <;> try first | with_reducible rfl | with_reducible exact fun h => h
    | fail_if_no_progress (with_reducible refine Kept.updSd ?_ (fun hk => ?_)) <;> try with_reducible exact hk.sd
    | fail_if_no_progress (with_reducible refine Kept.updSatchel ?_ (fun hk => ?_)) <;> try with_reducible exact hk.satchel
    | with_reducible rfl
    | with_reducible refine Kept.groupsEq (q := q) ?_ ‹_›
    | split
    | (with_reducible apply Kept.free); split

theorem State.idpAnswer_kept {q : List Instr} (s : State) (p : Nat) (src : Nat) (tag : Nat) (code : Nat) (data : List Nat)
    (h : Kept q s) :
    Kept q (State.idpAnswer s p src tag code data) := by
  unfold State.idpAnswer
  repeat' first
    | with_reducible assumption
    | with_reducible exact fun h => h
    | exact fun _ => rfl
    | intro _
    | with_reducible apply State.answer_kept
    | with_reducible apply State.cacheAnswer_kept
    | with_reducible apply Kept.ite
    | fail_if_no_progress with_reducible apply Kept.free
    | fail_if_no_progress (with_reducible refine Kept.updRegs ?_ (fun hk => ?_)) <;> try with_reducible exact hk.regs
    | fail_if_no_progress (with_reducible refine Kept.updDict ?_ (fun hk => DictOk.upd hk.dict ?_)) <;> try first | with_reducible rfl | with_reducible exact fun h => h
    | fail_if_no_progress (with_reducible refine Kept.updSd ?_ (fun hk => ?_)) <;> try with_reducible exact hk.sd
    | fail_if_no_progress (with_reducible refine Kept.updSatchel ?_ (fun hk => ?_)) <;> try with_reducible exact hk.satchel
    | with_reducible rfl
    | with_reducible refine Kept.groupsEq (q := q) ?_ ‹_›
    | split
    | (with_reducible apply Kept.free); split

theorem State.usdoAnswer_kept {q : List Instr} (s : State) (p : Nat) (client : Nat) (code : Nat) (data : List Nat) (h :
    Kept q s) :
    Kept q (State.usdoAnswer s p client code data) := by
  unfold State.usdoAnswer
  repeat' first
    | with_reducible assumption
    | with_reducible exact fun h => h
    | exact fun _ => rfl
    | intro _
    | with_reducible apply Kept.ite
    | fail_if_no_progress with_reducible apply Kept.free
    | fail_if_no_progress (with_reducible refine Kept.updRegs ?_ (fun hk => ?_)) <;> try with_reducible exact hk.regs
    | fail_if_no_progress (with_reducible refine Kept.updDict ?_ (fun hk => DictOk.upd hk.dict ?_)) <;> try first | with_reducible rfl | with_reducible exact fun h => h
    | fail_if_no_progress (with_reducible refine Kept.updSd ?_ (fun hk => ?_)) <;> try with_reducible exact hk.sd
    | fail_if_no_progress (with_reducible refine Kept.updSatchel ?_ (fun hk => ?_)) <;> try with_reducible exact hk.satchel
    | with_reducible rfl
    | with_reducible refine Kept.groupsEq (q := q) ?_ ‹_›
    | split
    | (with_reducible apply Kept.free); split

theorem State.tell_kept {q : List Instr} (s : State) (a : Asker) (code : Nat) (data : List Nat) (h : Kept q s) :
    Kept q (State.tell s a code data) := by
  unfold State.tell
  repeat' first
    | with_reducible assumption
    | intro _
    | with_reducible apply State.idpAnswer_kept
    | with_reducible apply State.usdoAnswer_kept
    | with_reducible apply State.endGateway_kept
    | split
    | (with_reducible apply Kept.free); split

theorem State.tellAskers_kept {q : List Instr} (s : State) (g : Nat) (h : Kept q s) :
    Kept q (State.tellAskers s g) := by
  unfold State.tellAskers
  repeat' first
    | with_reducible assumption
    | intro _
    | with_reducible apply State.modGroup_kept
    | with_reducible apply State.tell_kept
    | with_reducible apply Kept.each
    | split
    | (with_reducible apply Kept.free); split

theorem State.heldCommand_kept {q : List Instr} (s : State) (g : Nat) (h_2 : Nat × Option Asker) (h : Kept q s) :
    Kept q (State.heldCommand s g h_2) := by
  unfold State.heldCommand
  repeat' first
    | with_reducible assumption
    | intro _
    | with_reducible apply State.modGroup_kept
    | with_reducible apply State.groupAct_kept
    | with_reducible apply State.tell_kept
    | with_reducible apply Kept.each
    | with_reducible apply Kept.ite
    | split
    | (with_reducible apply Kept.free); split

theorem State.releaseHeld_kept {q : List Instr} (s : State) (g : Nat) (h : Kept q s) :
    Kept q (State.releaseHeld s g) := by
  unfold State.releaseHeld
  repeat' first
    | with_reducible assumption
    | intro _
    | with_reducible apply State.modGroup_kept
    | with_reducible apply State.heldCommand_kept
    | with_reducible apply Kept.each
    | split
    | (with_reducible apply Kept.free); split

theorem State.settleEntering_kept {q : List Instr} (s : State) (h : Kept q s) :
    Kept q (State.settleEntering s) := by
  unfold State.settleEntering
  repeat' first
    | with_reducible assumption
    | intro _
    | with_reducible apply State.releaseHeld_kept
    | with_reducible apply State.modGroup_kept
    | with_reducible apply Kept.each
    | with_reducible apply Kept.ite
    | split
    | (with_reducible apply Kept.free); split

end Sys2Proof.Machine
end

