-- ==== Sys2Proof/Laws/KeptEngine.lean ====
section
/-!
SUPPORT. What every operation of Machine/Engine.lean keeps (Laws/Kept.lean).
-/
namespace Sys2Proof.Machine

set_option linter.unusedTactic false
set_option linter.unreachableTactic false

theorem State.engEvent_kept {q : List Instr} (s : State) (code : Nat) (n : Nat) (cause : Nat) (pc : Nat) (ecode : Nat)
    (value : Nat) (ts : Nat) (h : Kept q s) :
    Kept q (State.engEvent s code n cause pc ecode value ts) := by
  unfold State.engEvent
  repeat' first
    | with_reducible assumption
    | intro _
    | with_reducible apply State.emit_kept
    | split
    | (with_reducible apply Kept.free); split

theorem State.engStore_kept {q : List Instr} (s : State) (n : Nat) (l : List (Nat × Nat)) (h : Kept q s) :
    Kept q (State.engStore s n l) := by
  unfold State.engStore
  repeat' first
    | with_reducible assumption
    | intro _
    | with_reducible apply State.setEngWord_kept
    | with_reducible apply State.mark_kept
    | with_reducible apply State.badRead_kept
    | with_reducible apply Kept.each
    | with_reducible apply Kept.ite
    | split
    | (with_reducible apply Kept.free); split

theorem State.settleHeld_kept {q : List Instr} (s : State) (n : Nat) (h : Kept q s) :
    Kept q (State.settleHeld s n) := by
  unfold State.settleHeld
  repeat' first
    | with_reducible assumption
    | exact fun e he => he
    | exact fun e he => ⟨List.length_set.trans he.1, he.2⟩
    | exact fun e he => by simpa [Engine.Shaped] using he
    | exact fun e he => ⟨List.length_replicate, he.2⟩
    | exact fun e he => ⟨he.1, List.length_replicate⟩
    | exact fun e _ => ⟨rfl, rfl⟩
    | intro _
    | with_reducible apply State.modEngine_kept
    | with_reducible apply State.settleLate_kept
    | with_reducible apply State.engStore_kept
    | with_reducible apply Kept.each
    | split
    | (with_reducible apply Kept.free); split

theorem State.stopRun_kept {q : List Instr} (s : State) (n : Nat) (h : Kept q s) :
    Kept q (State.stopRun s n) := by
  unfold State.stopRun
  repeat' first
    | with_reducible assumption
    | exact fun e he => he
    | exact fun e he => ⟨List.length_set.trans he.1, he.2⟩
    | exact fun e he => by simpa [Engine.Shaped] using he
    | exact fun e he => ⟨List.length_replicate, he.2⟩
    | exact fun e he => ⟨he.1, List.length_replicate⟩
    | exact fun e _ => ⟨rfl, rfl⟩
    | intro _
    | with_reducible apply State.dropStaged_kept
    | with_reducible apply State.setFld_kept
    | with_reducible apply State.modEngine_kept
    | split
    | (with_reducible apply Kept.free); split

theorem State.rollback_kept {q : List Instr} (s : State) (n : Nat) (h : Kept q s) :
    Kept q (State.rollback s n) := by
  unfold State.rollback
  repeat' first
    | with_reducible assumption
    | exact fun e he => he
    | exact fun e he => ⟨List.length_set.trans he.1, he.2⟩
    | exact fun e he => by simpa [Engine.Shaped] using he
    | exact fun e he => ⟨List.length_replicate, he.2⟩
    | exact fun e he => ⟨he.1, List.length_replicate⟩
    | exact fun e _ => ⟨rfl, rfl⟩
    | intro _
    | with_reducible apply State.setEngWord_kept
    | with_reducible apply State.settleHeld_kept
    | with_reducible apply State.modEngine_kept
    | with_reducible apply Kept.each
    | split
    | (with_reducible apply Kept.free); split

theorem State.abandonRun_kept {q : List Instr} (s : State) (n : Nat) (h : Kept q s) :
    Kept q (State.abandonRun s n) := by
  unfold State.abandonRun
  repeat' first
    | with_reducible assumption
    | intro _
    | with_reducible apply State.settleEntering_kept
    | with_reducible apply State.rollback_kept
    | with_reducible apply State.stopRun_kept
    | split
    | (with_reducible apply Kept.free); split

theorem State.abandonWing_kept {q : List Instr} (s : State) (w : Wing) (h : Kept q s) :
    Kept q (State.abandonWing s w) := by
  unfold State.abandonWing
  repeat' first
    | with_reducible assumption
    | intro _
    | with_reducible apply State.abandonRun_kept
    | with_reducible apply Kept.each
    | with_reducible apply Kept.ite
    | split
    | (with_reducible apply Kept.free); split

theorem State.overrun_kept {q : List Instr} (s : State) (n : Nat) (h : Kept q s) :
    Kept q (State.overrun s n) := by
  unfold State.overrun
  repeat' first
    | with_reducible assumption
    | exact fun e he => he
    | exact fun e he => ⟨List.length_set.trans he.1, he.2⟩
    | exact fun e he => by simpa [Engine.Shaped] using he
    | exact fun e he => ⟨List.length_replicate, he.2⟩
    | exact fun e he => ⟨he.1, List.length_replicate⟩
    | exact fun e _ => ⟨rfl, rfl⟩
    | intro _
    | with_reducible apply State.abandonRun_kept
    | with_reducible apply State.setFld_kept
    | with_reducible apply State.count_kept
    | with_reducible apply State.engEvent_kept
    | with_reducible apply State.modEngine_kept
    | with_reducible apply State.runEntry_kept
    | with_reducible apply Kept.whenIf
    | split
    | (with_reducible apply Kept.free); split

theorem State.setCopy_kept {q : List Instr} (s : State) (w : Wing) (n : Option Nat) (ready : Bool) (h : Kept q s) :
    Kept q (State.setCopy s w n ready) := by
  unfold State.setCopy
  repeat' first
    | with_reducible assumption
    | with_reducible exact fun h => h
    | exact fun _ => rfl
    | with_reducible refine Kept.memWf (q := q) ?_
    | with_reducible refine Kept.engsOk (q := q) ?_
    | intro _
    | fail_if_no_progress with_reducible apply Kept.free
    | fail_if_no_progress (with_reducible refine Kept.updRegs ?_ (fun hk => ?_)) <;> try with_reducible exact hk.regs
    | fail_if_no_progress (with_reducible refine Kept.updEng ?_ (fun hk => EngOk.upd hk.eng ?_ ?_ ?_)) <;> try first | with_reducible rfl | with_reducible exact fun h => h
    | fail_if_no_progress (with_reducible refine Kept.updSd ?_ (fun hk => ?_)) <;> try with_reducible exact hk.sd
    | fail_if_no_progress (with_reducible refine Kept.updSatchel ?_ (fun hk => ?_)) <;> try with_reducible exact hk.satchel
    | with_reducible rfl
    | with_reducible refine Kept.lowHoldEq (q := q) ?_ ‹_›
    | split
    | (with_reducible apply Kept.free); split

theorem State.reserveGone_kept {q : List Instr} (s : State) (w : Wing) (h : Kept q s) :
    Kept q (State.reserveGone s w) := by
  unfold State.reserveGone
  repeat' first
    | with_reducible assumption
    | intro _
    | with_reducible apply State.dupEvent_kept
    | with_reducible apply State.raise_kept
    | with_reducible apply State.setFld_kept
    | with_reducible apply Kept.whenIf
    | split
    | (with_reducible apply Kept.free); split

theorem State.retireEngine_kept {q : List Instr} (s : State) (n : Nat) (h : Kept q s) :
    Kept q (State.retireEngine s n) := by
  unfold State.retireEngine
  repeat' first
    | with_reducible assumption
    | intro _
    | with_reducible apply State.abandonRun_kept
    | with_reducible apply State.engEvent_kept
    | with_reducible apply State.reserveGone_kept
    | with_reducible apply State.setCopy_kept
    | with_reducible apply State.recordRepair_kept
    | with_reducible apply State.setFld_kept
    | with_reducible apply State.setBit_kept
    | with_reducible apply State.consumeSpare_kept
    | with_reducible apply Kept.ite
    | split
    | (with_reducible apply Kept.free); split

theorem State.faultReport_kept {q : List Instr} (s : State) (n : Nat) (cause : Nat) (pc : Nat) (h : Kept q s) :
    Kept q (State.faultReport s n cause pc) := by
  unfold State.faultReport
  repeat' first
    | with_reducible assumption
    | intro _
    | with_reducible apply State.setFld_kept
    | with_reducible apply State.engEvent_kept
    | with_reducible apply State.runEntry_kept
    | split
    | (with_reducible apply Kept.free); split

theorem State.hardwareFault_kept {q : List Instr} (s : State) (n : Nat) (cause : Nat) (h : Kept q s) :
    Kept q (State.hardwareFault s n cause) := by
  unfold State.hardwareFault
  repeat' first
    | with_reducible assumption
    | exact fun e he => he
    | exact fun e he => ⟨List.length_set.trans he.1, he.2⟩
    | exact fun e he => by simpa [Engine.Shaped] using he
    | exact fun e he => ⟨List.length_replicate, he.2⟩
    | exact fun e he => ⟨he.1, List.length_replicate⟩
    | exact fun e _ => ⟨rfl, rfl⟩
    | intro _
    | with_reducible apply State.modEngine_kept
    | with_reducible apply State.retireEngine_kept
    | with_reducible apply Kept.ite
    | split
    | (with_reducible apply Kept.free); split

theorem State.engineFault_kept {q : List Instr} (s : State) (n : Nat) (cause : Nat) (h : Kept q s) :
    Kept q (State.engineFault s n cause) := by
  unfold State.engineFault
  repeat' first
    | with_reducible assumption
    | intro _
    | with_reducible apply State.abandonRun_kept
    | with_reducible apply State.faultReport_kept
    | with_reducible apply State.hardwareFault_kept
    | with_reducible apply Kept.ite
    | split
    | (with_reducible apply Kept.free); split

theorem execLessonRunStart_kept {q : List Instr} (n : Nat) (s : State) (h : Kept q s) :
    KeptOut q (execLessonRunStart n s) := by
  unfold execLessonRunStart
  repeat' first
    | with_reducible assumption
    | with_reducible apply KeptOut.next
    | with_reducible apply KeptOut.ite
    | exact fun e he => he
    | exact fun e he => ⟨List.length_set.trans he.1, he.2⟩
    | exact fun e he => by simpa [Engine.Shaped] using he
    | exact fun e he => ⟨List.length_replicate, he.2⟩
    | exact fun e he => ⟨he.1, List.length_replicate⟩
    | exact fun e _ => ⟨rfl, rfl⟩
    | intro _
    | with_reducible apply State.setFld_kept
    | with_reducible apply State.modEngine_kept
    | with_reducible apply Kept.ite
    | split
    | dsimp only; split

theorem State.dataMake_kept {q : List Instr} (s : State) (core : Nat) (n : Nat) (l : List (Nat × Nat)) (flushed : optParam
    Bool false) (h : Kept q s) :
    Kept q (State.dataMake s core n l flushed) := by
  unfold State.dataMake
  repeat' first
    | with_reducible assumption
    | exact fun e he => he
    | exact fun e he => ⟨List.length_set.trans he.1, he.2⟩
    | exact fun e he => by simpa [Engine.Shaped] using he
    | exact fun e he => ⟨List.length_replicate, he.2⟩
    | exact fun e he => ⟨he.1, List.length_replicate⟩
    | exact fun e _ => ⟨rfl, rfl⟩
    | intro _
    | with_reducible apply State.coreFault_kept
    | with_reducible apply State.modEngine_kept
    | with_reducible apply State.engStore_kept
    | with_reducible apply Kept.whenIf
    | with_reducible apply Kept.ite
    | split
    | (with_reducible apply Kept.free); split

theorem State.flushLow_kept {q : List Instr} (s : State) (core : Nat) (h : Kept q s) :
    Kept q (State.flushLow s core) := by
  unfold State.flushLow
  repeat' first
    | with_reducible assumption
    | with_reducible exact fun h => h
    | exact fun _ => rfl
    | with_reducible refine Kept.memWf (q := q) ?_
    | with_reducible refine Kept.engsOk (q := q) ?_
    | intro _
    | with_reducible apply State.dataMake_kept
    | fail_if_no_progress with_reducible apply Kept.free
    | fail_if_no_progress (with_reducible refine Kept.updRegs ?_ (fun hk => ?_)) <;> try with_reducible exact hk.regs
    | fail_if_no_progress (with_reducible refine Kept.updEng ?_ (fun hk => EngOk.upd hk.eng ?_ ?_ ?_)) <;> try first | with_reducible rfl | with_reducible exact fun h => h
    | fail_if_no_progress (with_reducible refine Kept.updSd ?_ (fun hk => ?_)) <;> try with_reducible exact hk.sd
    | fail_if_no_progress (with_reducible refine Kept.updSatchel ?_ (fun hk => ?_)) <;> try with_reducible exact hk.satchel
    | with_reducible rfl
    | with_reducible exact List.length_set
    | with_reducible exact List.length_set.trans List.length_set
    | exact List.length_set
    | with_reducible refine Kept.lowHoldEq (q := q) ?_ ‹_›
    | split
    | (with_reducible apply Kept.free); split

theorem State.dataWrite_kept {q : List Instr} (s : State) (core : Nat) (n : Nat) (idx : Nat) (v : Nat) (h : Kept q s) :
    Kept q (State.dataWrite s core n idx v) := by
  unfold State.dataWrite
  repeat' first
    | with_reducible assumption
    | with_reducible exact fun h => h
    | exact fun _ => rfl
    | with_reducible refine Kept.memWf (q := q) ?_
    | with_reducible refine Kept.engsOk (q := q) ?_
    | intro _
    | with_reducible apply State.flushLow_kept
    | with_reducible apply State.dataMake_kept
    | with_reducible apply Kept.ite
    | fail_if_no_progress with_reducible apply Kept.free
    | fail_if_no_progress (with_reducible refine Kept.updRegs ?_ (fun hk => ?_)) <;> try with_reducible exact hk.regs
    | fail_if_no_progress (with_reducible refine Kept.updEng ?_ (fun hk => EngOk.upd hk.eng ?_ ?_ ?_)) <;> try first | with_reducible rfl | with_reducible exact fun h => h
    | fail_if_no_progress (with_reducible refine Kept.updSd ?_ (fun hk => ?_)) <;> try with_reducible exact hk.sd
    | fail_if_no_progress (with_reducible refine Kept.updSatchel ?_ (fun hk => ?_)) <;> try with_reducible exact hk.satchel
    | with_reducible rfl
    | with_reducible exact List.length_set
    | with_reducible exact List.length_set.trans List.length_set
    | exact List.length_set
    | with_reducible refine Kept.lowHoldEq (q := q) ?_ ‹_›
    | split
    | (with_reducible apply Kept.free); split

theorem State.windowWrite_kept {q : List Instr} (s : State) (core : Nat) (n : Nat) (offset : Nat) (v : Nat) (h : Kept q s) :
    Kept q (State.windowWrite s core n offset v) := by
  unfold State.windowWrite
  repeat' first
    | with_reducible assumption
    | intro _
    | with_reducible apply State.coreFault_kept
    | with_reducible apply State.dataWrite_kept
    | with_reducible apply State.setEngWord_kept
    | with_reducible apply State.modGroup_kept
    | with_reducible apply State.discarded_kept
    | with_reducible apply Kept.ite
    | split
    | (with_reducible apply Kept.free); split

theorem execEngineDataWrite_kept {q : List Instr} (core : Nat) (n : Nat) (offset : Nat) (value : Nat) (s : State) (h : Kept
    q s) :
    KeptOut q (execEngineDataWrite core n offset value s) := by
  unfold execEngineDataWrite
  repeat' first
    | with_reducible assumption
    | with_reducible apply KeptOut.next
    | with_reducible apply KeptOut.ite
    | intro _
    | with_reducible apply State.accessBlk_kept
    | with_reducible apply State.windowWrite_kept
    | with_reducible apply Kept.ite
    | split
    | dsimp only; split

theorem execHeldLowHalfTimeout_kept {q : List Instr} (core : Nat) (s : State) (h : Kept q s) :
    KeptOut q (execHeldLowHalfTimeout core s) := by
  unfold execHeldLowHalfTimeout
  repeat' first
    | with_reducible assumption
    | with_reducible apply KeptOut.next
    | intro _
    | with_reducible apply State.flushLow_kept
    | split
    | dsimp only; split

theorem State.dataUpdate_kept {q : List Instr} (s : State) (n : Nat) (offset : Nat) (words : List Nat) (h : Kept q s) :
    Kept q (State.dataUpdate s n offset words) := by
  unfold State.dataUpdate
  repeat' first
    | with_reducible assumption
    | exact fun e he => he
    | exact fun e he => ⟨List.length_set.trans he.1, he.2⟩
    | exact fun e he => by simpa [Engine.Shaped] using he
    | exact fun e he => ⟨List.length_replicate, he.2⟩
    | exact fun e he => ⟨he.1, List.length_replicate⟩
    | exact fun e _ => ⟨rfl, rfl⟩
    | intro _
    | with_reducible apply State.modEngine_kept
    | with_reducible apply State.engStore_kept
    | with_reducible apply Kept.ite
    | split
    | (with_reducible apply Kept.free); split

theorem execEngineDataUpdate_kept {q : List Instr} (n : Nat) (offset : Nat) (words : List Nat) (s : State) (h : Kept q s) :
    KeptOut q (execEngineDataUpdate n offset words s) := by
  unfold execEngineDataUpdate
  repeat' first
    | with_reducible assumption
    | with_reducible apply KeptOut.next
    | with_reducible apply KeptOut.ite
    | intro _
    | with_reducible apply State.dataUpdate_kept
    | with_reducible apply Kept.ite
    | split
    | dsimp only; split

theorem State.retireWrite_kept {q : List Instr} (s : State) (n : Nat) (h : Kept q s) :
    Kept q (State.retireWrite s n) := by
  unfold State.retireWrite
  repeat' first
    | with_reducible assumption
    | exact fun e he => he
    | exact fun e he => ⟨List.length_set.trans he.1, he.2⟩
    | exact fun e he => by simpa [Engine.Shaped] using he
    | exact fun e he => ⟨List.length_replicate, he.2⟩
    | exact fun e he => ⟨he.1, List.length_replicate⟩
    | exact fun e _ => ⟨rfl, rfl⟩
    | intro _
    | with_reducible apply State.modEngine_kept
    | split
    | (with_reducible apply Kept.free); split

theorem State.engineAccess_kept {q : List Instr} (s : State) (core : Nat) (n : Nat) (addr : Nat) (f : State → State) (h :
    Kept q s) (hf : ∀ t, Kept q t → Kept q (f t)) :
    Kept q (State.engineAccess s core n addr f) := by
  unfold State.engineAccess
  repeat' first
    | with_reducible assumption
    | intro _
    | with_reducible apply State.accessBlk_kept
    | with_reducible apply State.coreFault_kept
    | with_reducible apply Kept.ite
    | with_reducible apply hf
    | split
    | (with_reducible apply Kept.free); split

theorem execLeRetireWrite_kept {q : List Instr} (core : Nat) (n : Nat) (s : State) (h : Kept q s) :
    KeptOut q (execLeRetireWrite core n s) := by
  unfold execLeRetireWrite
  repeat' first
    | with_reducible assumption
    | with_reducible apply KeptOut.next
    | with_reducible apply KeptOut.ite
    | intro _
    | with_reducible apply State.engineAccess_kept
    | with_reducible apply State.retireWrite_kept
    | with_reducible apply Kept.ite
    | split
    | dsimp only; split

theorem State.copyEnds_kept {q : List Instr} (s : State) (w : Wing) (n : Nat) (bad : List Nat) (h : Kept q s) :
    Kept q (State.copyEnds s w n bad) := by
  unfold State.copyEnds
  repeat' first
    | with_reducible assumption
    | intro _
    | with_reducible apply State.setEngWord_kept
    | with_reducible apply State.setFld_kept
    | with_reducible apply State.setCopy_kept
    | with_reducible apply State.raise_kept
    | with_reducible apply State.engEvent_kept
    | with_reducible apply Kept.each
    | with_reducible apply Kept.ite
    | split
    | (with_reducible apply Kept.free); split

theorem execSubstituteCopyComplete_kept {q : List Instr} (w : Wing) (bad : List Nat) (s : State) (h : Kept q s) :
    KeptOut q (execSubstituteCopyComplete w bad s) := by
  unfold execSubstituteCopyComplete
  repeat' first
    | with_reducible assumption
    | with_reducible apply KeptOut.next
    | with_reducible apply KeptOut.ite
    | intro _
    | with_reducible apply State.copyEnds_kept
    | with_reducible apply Kept.ite
    | split
    | dsimp only; split

theorem State.subgo_kept {q : List Instr} (s : State) (w : Wing) (h : Kept q s) :
    Kept q (State.subgo s w) := by
  unfold State.subgo
  repeat' first
    | with_reducible assumption
    | intro _
    | with_reducible apply State.setFld_kept
    | with_reducible apply Kept.whenIf
    | split
    | (with_reducible apply Kept.free); split

theorem State.subgoWrite_kept {q : List Instr} (s : State) (goa : Bool) (gob : Bool) (h : Kept q s) :
    Kept q (State.subgoWrite s goa gob) := by
  unfold State.subgoWrite
  repeat' first
    | with_reducible assumption
    | intro _
    | with_reducible apply State.subgo_kept
    | with_reducible apply Kept.whenIf
    | split
    | (with_reducible apply Kept.free); split

theorem execLeSubgoWrite_kept {q : List Instr} (core : Nat) (goa : Bool) (gob : Bool) (s : State) (h : Kept q s) :
    KeptOut q (execLeSubgoWrite core goa gob s) := by
  unfold execLeSubgoWrite
  repeat' first
    | with_reducible assumption
    | with_reducible apply KeptOut.next
    | intro _
    | with_reducible apply State.accessBlk_kept
    | with_reducible apply State.subgoWrite_kept
    | split
    | dsimp only; split

theorem execSubstituteSelfTest_kept {q : List Instr} (w : Wing) (pass : Bool) (s : State) (h : Kept q s) :
    KeptOut q (execSubstituteSelfTest w pass s) := by
  unfold execSubstituteSelfTest
  repeat' first
    | with_reducible assumption
    | with_reducible apply KeptOut.next
    | with_reducible apply KeptOut.ite
    | intro _
    | with_reducible apply State.consumeSpare_kept
    | with_reducible apply State.recordRepair_kept
    | with_reducible apply State.setFld_kept
    | with_reducible apply Kept.ite
    | split
    | dsimp only; split

theorem State.substService_kept {q : List Instr} (s : State) (w : Wing) (h : Kept q s) :
    Kept q (State.substService s w) := by
  unfold State.substService
  repeat' first
    | with_reducible assumption
    | intro _
    | with_reducible apply State.engEvent_kept
    | with_reducible apply State.setCopy_kept
    | with_reducible apply State.setFld_kept
    | with_reducible apply Kept.ite
    | split
    | (with_reducible apply Kept.free); split

theorem State.enginesEnd_kept {q : List Instr} (s : State) (h : Kept q s) :
    Kept q (State.enginesEnd s) := by
  unfold State.enginesEnd
  repeat' first
    | with_reducible assumption
    | exact fun e he => he
    | exact fun e he => ⟨List.length_set.trans he.1, he.2⟩
    | exact fun e he => by simpa [Engine.Shaped] using he
    | exact fun e he => ⟨List.length_replicate, he.2⟩
    | exact fun e he => ⟨he.1, List.length_replicate⟩
    | exact fun e _ => ⟨rfl, rfl⟩
    | with_reducible exact fun h => h
    | exact fun _ => rfl
    | with_reducible exact foldSet_wf _ _ _
    | with_reducible refine Kept.memWf (q := q) ?_
    | with_reducible refine Kept.engsOk (q := q) ?_
    | intro _
    | with_reducible apply State.overrun_kept
    | with_reducible apply State.stagingAtBell_kept
    | with_reducible apply State.modEngine_kept
    | with_reducible apply State.retireEngine_kept
    | with_reducible apply State.substService_kept
    | with_reducible apply Kept.each
    | with_reducible apply Kept.foldl
    | with_reducible apply Kept.ite
    | fail_if_no_progress with_reducible apply Kept.free
    | fail_if_no_progress (with_reducible refine Kept.updRegs ?_ (fun hk => ?_)) <;> try with_reducible exact hk.regs
    | fail_if_no_progress (with_reducible refine Kept.updEng ?_ (fun hk => EngOk.upd hk.eng ?_ ?_ ?_)) <;> try first | with_reducible rfl | with_reducible exact fun h => h
    | fail_if_no_progress (with_reducible refine Kept.updSd ?_ (fun hk => ?_)) <;> try with_reducible exact hk.sd
    | fail_if_no_progress (with_reducible refine Kept.updSatchel ?_ (fun hk => ?_)) <;> try with_reducible exact hk.satchel
    | with_reducible rfl
    | with_reducible exact length_foldl_set (fun x => x) _ _
    | with_reducible refine Kept.lowHoldEq (q := q) ?_ ‹_›
    | split
    | (with_reducible apply Kept.free); split

theorem State.enginesDue_kept {q : List Instr} (s : State) (ns : List Nat) (h : Kept q s) :
    Kept q (State.enginesDue s ns) := by
  unfold State.enginesDue
  repeat' first
    | with_reducible assumption
    | exact fun e he => he
    | exact fun e he => ⟨List.length_set.trans he.1, he.2⟩
    | exact fun e he => by simpa [Engine.Shaped] using he
    | exact fun e he => ⟨List.length_replicate, he.2⟩
    | exact fun e he => ⟨he.1, List.length_replicate⟩
    | exact fun e _ => ⟨rfl, rfl⟩
    | intro _
    | with_reducible apply State.modEngine_kept
    | with_reducible apply Kept.each
    | split
    | (with_reducible apply Kept.free); split

end Sys2Proof.Machine
end

