-- ==== Sys2Proof/Laws/KeptEngineInstr.lean ====
section
/-!
SUPPORT. What every operation of Machine/EngineInstr.lean keeps (Laws/Kept.lean).
-/
namespace Sys2Proof.Machine

set_option linter.unusedTactic false
set_option linter.unreachableTactic false

theorem State.setRgBits_kept {q : List Instr} (s : State) (n : Nat) (r : Nat) (v : Nat) (h : Kept q s) :
    Kept q (State.setRgBits s n r v) := by
  unfold State.setRgBits
  repeat' first
    | with_reducible assumption
    | exact fun e he => he
    | exact fun e he => ⟨List.length_set.trans he.1, he.2⟩
    | exact fun e he => by simpa [Engine.Shaped] using he
    | exact fun e he => ⟨List.length_replicate, he.2⟩
    | exact fun e he => ⟨he.1, List.length_replicate⟩
    | exact fun e _ => ⟨rfl, rfl⟩
    | intro _
    | with_reducible apply State.modEngine_kept
    | with_reducible apply Kept.ite
    | split
    | (with_reducible apply Kept.free); split

theorem State.setRg_kept {q : List Instr} (s : State) (n : Nat) (r : Nat) (x : Fp) (h : Kept q s) :
    Kept q (State.setRg s n r x) := by
  unfold State.setRg
  repeat' first
    | with_reducible assumption
    | intro _
    | with_reducible apply State.setRgBits_kept
    | split
    | (with_reducible apply Kept.free); split

theorem State.setRgs_kept {q : List Instr} (s : State) (n : Nat) (r : Nat) (l : List Fp) (h : Kept q s) :
    Kept q (State.setRgs s n r l) := by
  unfold State.setRgs
  repeat' first
    | with_reducible assumption
    | intro _
    | with_reducible apply State.setRg_kept
    | with_reducible apply Kept.each
    | split
    | (with_reducible apply Kept.free); split

theorem State.setEngFlag_kept {q : List Instr} (s : State) (n : Nat) (i : Nat) (b : Bool) (h : Kept q s) :
    Kept q (State.setEngFlag s n i b) := by
  unfold State.setEngFlag
  repeat' first
    | with_reducible assumption
    | exact fun e he => he
    | exact fun e he => ⟨List.length_set.trans he.1, he.2⟩
    | exact fun e he => by simpa [Engine.Shaped] using he
    | exact fun e he => ⟨List.length_replicate, he.2⟩
    | exact fun e he => ⟨he.1, List.length_replicate⟩
    | exact fun e _ => ⟨rfl, rfl⟩
    | intro _
    | with_reducible apply State.modEngine_kept
    | split
    | (with_reducible apply Kept.free); split

theorem State.instr_kept {q : List Instr} (s : State) (n : Nat) (cycles : Nat) (f : State → State) (h : Kept q s) (hf : ∀
    t, Kept q t → Kept q (f t)) :
    Kept q (State.instr s n cycles f) := by
  unfold State.instr
  repeat' first
    | with_reducible assumption
    | exact fun e he => he
    | exact fun e he => ⟨List.length_set.trans he.1, he.2⟩
    | exact fun e he => by simpa [Engine.Shaped] using he
    | exact fun e he => ⟨List.length_replicate, he.2⟩
    | exact fun e he => ⟨he.1, List.length_replicate⟩
    | exact fun e _ => ⟨rfl, rfl⟩
    | intro _
    | with_reducible apply State.modEngine_kept
    | with_reducible apply Kept.whenIf
    | with_reducible apply Kept.ite
    | with_reducible apply hf
    | split
    | (with_reducible apply Kept.free); split

theorem State.readWords_kept {q : List Instr} (s : State) (n : Nat) (i : Nat) (k : Nat) (f : State → State) (h : Kept q s)
    (hf : ∀ t, Kept q t → Kept q (f t)) :
    Kept q (State.readWords s n i k f) := by
  unfold State.readWords
  repeat' first
    | with_reducible assumption
    | intro _
    | with_reducible apply State.engineFault_kept
    | with_reducible apply State.badRead_kept
    | with_reducible apply hf
    | split
    | (with_reducible apply Kept.free); split

theorem State.readData_kept {q : List Instr} (s : State) (n : Nat) (a : Nat) (k : Nat) (f : State → State) (h : Kept q s)
    (hf : ∀ t, Kept q t → Kept q (f t)) :
    Kept q (State.readData s n a k f) := by
  unfold State.readData
  repeat' first
    | with_reducible assumption
    | intro _
    | with_reducible apply State.readWords_kept
    | with_reducible apply hf
    | split
    | (with_reducible apply Kept.free); split

theorem State.logStore_kept {q : List Instr} (s : State) (n : Nat) (a : Nat) (v : Nat) (h : Kept q s) :
    Kept q (State.logStore s n a v) := by
  unfold State.logStore
  repeat' first
    | with_reducible assumption
    | exact fun e he => he
    | exact fun e he => ⟨List.length_set.trans he.1, he.2⟩
    | exact fun e he => by simpa [Engine.Shaped] using he
    | exact fun e he => ⟨List.length_replicate, he.2⟩
    | exact fun e he => ⟨he.1, List.length_replicate⟩
    | exact fun e _ => ⟨rfl, rfl⟩
    | intro _
    | with_reducible apply State.setEngWord_kept
    | with_reducible apply State.modEngine_kept
    | split
    | (with_reducible apply Kept.free); split

theorem State.store64_kept {q : List Instr} (s : State) (n : Nat) (a : Nat) (x : Fp) (h : Kept q s) :
    Kept q (State.store64 s n a x) := by
  unfold State.store64
  repeat' first
    | with_reducible assumption
    | intro _
    | with_reducible apply State.logStore_kept
    | split
    | (with_reducible apply Kept.free); split

theorem State.putStates_kept {q : List Instr} (s : State) (n : Nat) (l : List (Nat × Fp)) (f : State → State) (h : Kept q
    s) (hf : ∀ t, Kept q t → Kept q (f t)) :
    Kept q (State.putStates s n l f) := by
  unfold State.putStates
  repeat' first
    | with_reducible assumption
    | intro _
    | with_reducible apply State.store64_kept
    | with_reducible apply State.engineFault_kept
    | with_reducible apply Kept.each
    | with_reducible apply Kept.ite
    | with_reducible apply hf
    | split
    | (with_reducible apply Kept.free); split

theorem execNop_kept {q : List Instr} (n : Nat) (s : State) (h : Kept q s) :
    KeptOut q (execNop n s) := by
  unfold execNop
  repeat' first
    | with_reducible assumption
    | with_reducible apply KeptOut.next
    | unfold id; with_reducible assumption
    | intro _
    | with_reducible apply State.instr_kept
    | split
    | dsimp only; split

theorem execLdk_kept {q : List Instr} (n : Nat) (rd : Nat) (imm : Nat) (s : State) (h : Kept q s) :
    KeptOut q (execLdk n rd imm s) := by
  unfold execLdk
  repeat' first
    | with_reducible assumption
    | with_reducible apply KeptOut.next
    | intro _
    | with_reducible apply State.instr_kept
    | with_reducible apply State.setRgBits_kept
    | split
    | dsimp only; split

theorem execLd_kept {q : List Instr} (n : Nat) (rd : Nat) (addr : Nat) (wide : Bool) (s : State) (h : Kept q s) :
    KeptOut q (execLd n rd addr wide s) := by
  unfold execLd
  repeat' first
    | with_reducible assumption
    | with_reducible apply KeptOut.next
    | with_reducible apply KeptOut.ite
    | intro _
    | with_reducible apply State.instr_kept
    | with_reducible apply State.readData_kept
    | with_reducible apply State.setRg_kept
    | with_reducible apply State.setRgBits_kept
    | with_reducible apply Kept.ite
    | split
    | dsimp only; split

theorem execSt_kept {q : List Instr} (n : Nat) (ra : Nat) (addr : Nat) (wide : Bool) (s : State) (h : Kept q s) :
    KeptOut q (execSt n ra addr wide s) := by
  unfold execSt
  repeat' first
    | with_reducible assumption
    | with_reducible apply KeptOut.next
    | with_reducible apply KeptOut.ite
    | intro _
    | with_reducible apply State.instr_kept
    | with_reducible apply State.engineFault_kept
    | with_reducible apply State.store64_kept
    | with_reducible apply State.mark_kept
    | with_reducible apply State.readData_kept
    | with_reducible apply State.logStore_kept
    | with_reducible apply Kept.ite
    | split
    | dsimp only; split

theorem execLds_kept {q : List Instr} (n : Nat) (rd : Nat) (ra : Nat) (mod : Nat) (s : State) (h : Kept q s) :
    KeptOut q (execLds n rd ra mod s) := by
  unfold execLds
  repeat' first
    | with_reducible assumption
    | with_reducible apply KeptOut.next
    | intro _
    | with_reducible apply State.instr_kept
    | with_reducible apply State.readWords_kept
    | with_reducible apply State.setRgs_kept
    | with_reducible apply State.count_kept
    | with_reducible apply State.setEngFlag_kept
    | with_reducible apply Kept.each
    | split
    | dsimp only; split

theorem execWait_kept {q : List Instr} (n : Nat) (ra : Nat) (rb : Nat) (d : Nat) (s : State) (h : Kept q s) :
    KeptOut q (execWait n ra rb d s) := by
  unfold execWait
  repeat' first
    | with_reducible assumption
    | with_reducible apply KeptOut.next
    | with_reducible apply KeptOut.ite
    | exact fun e he => he
    | exact fun e he => ⟨List.length_set.trans he.1, he.2⟩
    | exact fun e he => by simpa [Engine.Shaped] using he
    | exact fun e he => ⟨List.length_replicate, he.2⟩
    | exact fun e he => ⟨he.1, List.length_replicate⟩
    | exact fun e _ => ⟨rfl, rfl⟩
    | intro _
    | with_reducible apply State.modEngine_kept
    | with_reducible apply State.endWait_kept
    | with_reducible apply Kept.ite
    | split
    | dsimp only; split

theorem execWaitDeadline_kept {q : List Instr} (n : Nat) (s : State) (h : Kept q s) :
    KeptOut q (execWaitDeadline n s) := by
  unfold execWaitDeadline
  repeat' first
    | with_reducible assumption
    | with_reducible apply KeptOut.next
    | with_reducible apply KeptOut.ite
    | intro _
    | with_reducible apply State.endWait_kept
    | with_reducible apply Kept.ite
    | split
    | dsimp only; split

theorem execInj_kept {q : List Instr} (n : Nat) (slot : Nat) (input : Nat) (ext : Nat) (s : State) (h : Kept q s) :
    KeptOut q (execInj n slot input ext s) := by
  unfold execInj
  repeat' first
    | with_reducible assumption
    | with_reducible apply KeptOut.next
    | with_reducible apply KeptOut.ite
    | intro _
    | with_reducible apply State.instr_kept
    | with_reducible apply State.inject_kept
    | with_reducible apply Kept.ite
    | split
    | dsimp only; split

theorem State.stageAll_kept {q : List Instr} (s : State) (n : Nat) (m : Nat) (w : Nat) (l : List Fp) (v : Nat) (h : Kept q
    s) :
    Kept q (State.stageAll s n m w l v) := by
  unfold State.stageAll
  repeat' first
    | with_reducible assumption
    | intro _
    | with_reducible apply State.stage_kept
    | with_reducible apply State.engineFault_kept
    | with_reducible apply Kept.ite
    | split
    | (with_reducible apply Kept.free); split

theorem execStpc_kept {q : List Instr} (n : Nat) (m : Nat) (ra : Nat) (rb : Nat) (s : State) (h : Kept q s) :
    KeptOut q (execStpc n m ra rb s) := by
  unfold execStpc
  repeat' first
    | with_reducible assumption
    | with_reducible apply KeptOut.next
    | intro _
    | with_reducible apply State.instr_kept
    | with_reducible apply State.stageAll_kept
    | split
    | dsimp only; split

theorem execStpd_kept {q : List Instr} (n : Nat) (m : Nat) (ra : Nat) (rb : Nat) (s : State) (h : Kept q s) :
    KeptOut q (execStpd n m ra rb s) := by
  unfold execStpd
  repeat' first
    | with_reducible assumption
    | with_reducible apply KeptOut.next
    | intro _
    | with_reducible apply State.instr_kept
    | with_reducible apply State.stageAll_kept
    | split
    | dsimp only; split

theorem execStpp_kept {q : List Instr} (n : Nat) (m : Nat) (ra : Nat) (rb : Nat) (rc : Nat) (s : State) (h : Kept q s) :
    KeptOut q (execStpp n m ra rb rc s) := by
  unfold execStpp
  repeat' first
    | with_reducible assumption
    | with_reducible apply KeptOut.next
    | intro _
    | with_reducible apply State.instr_kept
    | with_reducible apply State.stageAll_kept
    | split
    | dsimp only; split

theorem execStpe_kept {q : List Instr} (n : Nat) (m : Nat) (ra : Nat) (rb : Nat) (s : State) (h : Kept q s) :
    KeptOut q (execStpe n m ra rb s) := by
  unfold execStpe
  repeat' first
    | with_reducible assumption
    | with_reducible apply KeptOut.next
    | intro _
    | with_reducible apply State.instr_kept
    | with_reducible apply State.stageAll_kept
    | split
    | dsimp only; split

theorem execAdd_kept {q : List Instr} (n : Nat) (rd : Nat) (ra : Nat) (rb : Nat) (s : State) (h : Kept q s) :
    KeptOut q (execAdd n rd ra rb s) := by
  unfold execAdd
  repeat' first
    | with_reducible assumption
    | with_reducible apply KeptOut.next
    | intro _
    | with_reducible apply State.instr_kept
    | with_reducible apply State.setRg_kept
    | split
    | dsimp only; split

theorem execSub_kept {q : List Instr} (n : Nat) (rd : Nat) (ra : Nat) (rb : Nat) (s : State) (h : Kept q s) :
    KeptOut q (execSub n rd ra rb s) := by
  unfold execSub
  repeat' first
    | with_reducible assumption
    | with_reducible apply KeptOut.next
    | intro _
    | with_reducible apply State.instr_kept
    | with_reducible apply State.setRg_kept
    | split
    | dsimp only; split

theorem execMul_kept {q : List Instr} (n : Nat) (rd : Nat) (ra : Nat) (rb : Nat) (s : State) (h : Kept q s) :
    KeptOut q (execMul n rd ra rb s) := by
  unfold execMul
  repeat' first
    | with_reducible assumption
    | with_reducible apply KeptOut.next
    | intro _
    | with_reducible apply State.instr_kept
    | with_reducible apply State.setRg_kept
    | split
    | dsimp only; split

theorem execMac_kept {q : List Instr} (n : Nat) (rd : Nat) (ra : Nat) (rb : Nat) (rc : Nat) (s : State) (h : Kept q s) :
    KeptOut q (execMac n rd ra rb rc s) := by
  unfold execMac
  repeat' first
    | with_reducible assumption
    | with_reducible apply KeptOut.next
    | intro _
    | with_reducible apply State.instr_kept
    | with_reducible apply State.setRg_kept
    | split
    | dsimp only; split

theorem execDiv_kept {q : List Instr} (n : Nat) (rd : Nat) (ra : Nat) (rb : Nat) (s : State) (h : Kept q s) :
    KeptOut q (execDiv n rd ra rb s) := by
  unfold execDiv
  repeat' first
    | with_reducible assumption
    | with_reducible apply KeptOut.next
    | intro _
    | with_reducible apply State.instr_kept
    | with_reducible apply State.setRg_kept
    | split
    | dsimp only; split

theorem execSqrt_kept {q : List Instr} (n : Nat) (rd : Nat) (ra : Nat) (s : State) (h : Kept q s) :
    KeptOut q (execSqrt n rd ra s) := by
  unfold execSqrt
  repeat' first
    | with_reducible assumption
    | with_reducible apply KeptOut.next
    | intro _
    | with_reducible apply State.instr_kept
    | with_reducible apply State.setRg_kept
    | split
    | dsimp only; split

theorem execAbs_kept {q : List Instr} (n : Nat) (rd : Nat) (ra : Nat) (s : State) (h : Kept q s) :
    KeptOut q (execAbs n rd ra s) := by
  unfold execAbs
  repeat' first
    | with_reducible assumption
    | with_reducible apply KeptOut.next
    | intro _
    | with_reducible apply State.instr_kept
    | with_reducible apply State.setRg_kept
    | split
    | dsimp only; split

theorem execSincos_kept {q : List Instr} (n : Nat) (rd : Nat) (ra : Nat) (s : State) (h : Kept q s) :
    KeptOut q (execSincos n rd ra s) := by
  unfold execSincos
  repeat' first
    | with_reducible assumption
    | with_reducible apply KeptOut.next
    | intro _
    | with_reducible apply State.instr_kept
    | with_reducible apply State.setRgs_kept
    | split
    | dsimp only; split

theorem execClarke_kept {q : List Instr} (n : Nat) (rd : Nat) (ra : Nat) (rb : Nat) (rc : Nat) (s : State) (h : Kept q s) :
    KeptOut q (execClarke n rd ra rb rc s) := by
  unfold execClarke
  repeat' first
    | with_reducible assumption
    | with_reducible apply KeptOut.next
    | intro _
    | with_reducible apply State.instr_kept
    | with_reducible apply State.setRgs_kept
    | split
    | dsimp only; split

theorem execPark_kept {q : List Instr} (n : Nat) (rd : Nat) (ra : Nat) (rb : Nat) (rc : Nat) (s : State) (h : Kept q s) :
    KeptOut q (execPark n rd ra rb rc s) := by
  unfold execPark
  repeat' first
    | with_reducible assumption
    | with_reducible apply KeptOut.next
    | intro _
    | with_reducible apply State.instr_kept
    | with_reducible apply State.setRgs_kept
    | split
    | dsimp only; split

theorem execIpark_kept {q : List Instr} (n : Nat) (rd : Nat) (ra : Nat) (rb : Nat) (rc : Nat) (s : State) (h : Kept q s) :
    KeptOut q (execIpark n rd ra rb rc s) := by
  unfold execIpark
  repeat' first
    | with_reducible assumption
    | with_reducible apply KeptOut.next
    | intro _
    | with_reducible apply State.instr_kept
    | with_reducible apply State.setRgs_kept
    | split
    | dsimp only; split

theorem execLim_kept {q : List Instr} (n : Nat) (rd : Nat) (ra : Nat) (rb : Nat) (rc : Nat) (s : State) (h : Kept q s) :
    KeptOut q (execLim n rd ra rb rc s) := by
  unfold execLim
  repeat' first
    | with_reducible assumption
    | with_reducible apply KeptOut.next
    | with_reducible apply KeptOut.ite
    | intro _
    | with_reducible apply State.instr_kept
    | with_reducible apply State.setEngFlag_kept
    | with_reducible apply State.setRgBits_kept
    | with_reducible apply Kept.ite
    | split
    | dsimp only; split

theorem execClim_kept {q : List Instr} (n : Nat) (rd : Nat) (ra : Nat) (rb : Nat) (rc : Nat) (mod : Nat) (s : State) (h :
    Kept q s) :
    KeptOut q (execClim n rd ra rb rc mod s) := by
  unfold execClim
  repeat' first
    | with_reducible assumption
    | with_reducible apply KeptOut.next
    | intro _
    | with_reducible apply State.instr_kept
    | with_reducible apply State.setEngFlag_kept
    | with_reducible apply State.setRgs_kept
    | split
    | dsimp only; split

theorem execCmpf_kept {q : List Instr} (n : Nat) (flag : Nat) (ra : Nat) (rb : Nat) (cond : Nat) (s : State) (h : Kept q s) :
    KeptOut q (execCmpf n flag ra rb cond s) := by
  unfold execCmpf
  repeat' first
    | with_reducible assumption
    | with_reducible apply KeptOut.next
    | intro _
    | with_reducible apply State.instr_kept
    | with_reducible apply State.setEngFlag_kept
    | split
    | dsimp only; split

theorem execPi_kept {q : List Instr} (n : Nat) (rd : Nat) (ra : Nat) (rb : Nat) (addr : Nat) (s : State) (h : Kept q s) :
    KeptOut q (execPi n rd ra rb addr s) := by
  unfold execPi
  repeat' first
    | with_reducible assumption
    | with_reducible apply KeptOut.next
    | intro _
    | with_reducible apply State.instr_kept
    | with_reducible apply State.readData_kept
    | with_reducible apply State.putStates_kept
    | with_reducible apply State.setEngFlag_kept
    | with_reducible apply State.setRg_kept
    | split
    | dsimp only; split

theorem execPr_kept {q : List Instr} (n : Nat) (rd : Nat) (ra : Nat) (rb : Nat) (addr : Nat) (s : State) (h : Kept q s) :
    KeptOut q (execPr n rd ra rb addr s) := by
  unfold execPr
  repeat' first
    | with_reducible assumption
    | with_reducible apply KeptOut.next
    | intro _
    | with_reducible apply State.instr_kept
    | with_reducible apply State.readData_kept
    | with_reducible apply State.putStates_kept
    | with_reducible apply State.setRg_kept
    | split
    | dsimp only; split

theorem execBiq_kept {q : List Instr} (n : Nat) (rd : Nat) (ra : Nat) (addr : Nat) (s : State) (h : Kept q s) :
    KeptOut q (execBiq n rd ra addr s) := by
  unfold execBiq
  repeat' first
    | with_reducible assumption
    | with_reducible apply KeptOut.next
    | intro _
    | with_reducible apply State.instr_kept
    | with_reducible apply State.readData_kept
    | with_reducible apply State.putStates_kept
    | with_reducible apply State.setRg_kept
    | split
    | dsimp only; split

theorem execSogi_kept {q : List Instr} (n : Nat) (rd : Nat) (ra : Nat) (rb : Nat) (addr : Nat) (s : State) (h : Kept q s) :
    KeptOut q (execSogi n rd ra rb addr s) := by
  unfold execSogi
  repeat' first
    | with_reducible assumption
    | with_reducible apply KeptOut.next
    | intro _
    | with_reducible apply State.instr_kept
    | with_reducible apply State.readData_kept
    | with_reducible apply State.putStates_kept
    | with_reducible apply State.setRgs_kept
    | split
    | dsimp only; split

theorem execDdsrf_kept {q : List Instr} (n : Nat) (rd : Nat) (ra : Nat) (rb : Nat) (rc : Nat) (addr : Nat) (s : State) (h :
    Kept q s) :
    KeptOut q (execDdsrf n rd ra rb rc addr s) := by
  unfold execDdsrf
  repeat' first
    | with_reducible assumption
    | with_reducible apply KeptOut.next
    | intro _
    | with_reducible apply State.instr_kept
    | with_reducible apply State.readData_kept
    | with_reducible apply State.putStates_kept
    | with_reducible apply State.setRgs_kept
    | split
    | dsimp only; split

theorem execPll_kept {q : List Instr} (n : Nat) (rd : Nat) (ra : Nat) (addr : Nat) (s : State) (h : Kept q s) :
    KeptOut q (execPll n rd ra addr s) := by
  unfold execPll
  repeat' first
    | with_reducible assumption
    | with_reducible apply KeptOut.next
    | intro _
    | with_reducible apply State.instr_kept
    | with_reducible apply State.readData_kept
    | with_reducible apply State.putStates_kept
    | with_reducible apply State.setEngFlag_kept
    | with_reducible apply State.setRgs_kept
    | split
    | dsimp only; split

theorem execRlim_kept {q : List Instr} (n : Nat) (rd : Nat) (ra : Nat) (addr : Nat) (s : State) (h : Kept q s) :
    KeptOut q (execRlim n rd ra addr s) := by
  unfold execRlim
  repeat' first
    | with_reducible assumption
    | with_reducible apply KeptOut.next
    | intro _
    | with_reducible apply State.instr_kept
    | with_reducible apply State.readData_kept
    | with_reducible apply State.putStates_kept
    | with_reducible apply State.setEngFlag_kept
    | with_reducible apply State.setRg_kept
    | split
    | dsimp only; split

theorem execLut_kept {q : List Instr} (n : Nat) (rd : Nat) (ra : Nat) (addr : Nat) (s : State) (h : Kept q s) :
    KeptOut q (execLut n rd ra addr s) := by
  unfold execLut
  repeat' first
    | with_reducible assumption
    | with_reducible apply KeptOut.next
    | with_reducible apply KeptOut.ite
    | intro _
    | with_reducible apply State.instr_kept
    | with_reducible apply State.readData_kept
    | with_reducible apply State.engineFault_kept
    | with_reducible apply State.setRg_kept
    | with_reducible apply Kept.ite
    | split
    | dsimp only; split

theorem execProf_kept {q : List Instr} (n : Nat) (rd : Nat) (ra : Nat) (addr : Nat) (s : State) (h : Kept q s) :
    KeptOut q (execProf n rd ra addr s) := by
  unfold execProf
  repeat' first
    | with_reducible assumption
    | with_reducible apply KeptOut.next
    | with_reducible apply KeptOut.ite
    | intro _
    | with_reducible apply State.instr_kept
    | with_reducible apply State.readData_kept
    | with_reducible apply State.putStates_kept
    | with_reducible apply State.setRgs_kept
    | with_reducible apply Kept.ite
    | split
    | dsimp only; split

theorem execRamp_kept {q : List Instr} (n : Nat) (rd : Nat) (ra : Nat) (rb : Nat) (addr : Nat) (s : State) (h : Kept q s) :
    KeptOut q (execRamp n rd ra rb addr s) := by
  unfold execRamp
  repeat' first
    | with_reducible assumption
    | with_reducible apply KeptOut.next
    | with_reducible apply KeptOut.ite
    | intro _
    | with_reducible apply State.instr_kept
    | with_reducible apply State.readData_kept
    | with_reducible apply State.putStates_kept
    | with_reducible apply State.logStore_kept
    | with_reducible apply State.setEngFlag_kept
    | with_reducible apply State.setRg_kept
    | with_reducible apply Kept.whenIf
    | with_reducible apply Kept.ite
    | split
    | dsimp only; split

theorem execFerr_kept {q : List Instr} (n : Nat) (ra : Nat) (rb : Nat) (addr : Nat) (s : State) (h : Kept q s) :
    KeptOut q (execFerr n ra rb addr s) := by
  unfold execFerr
  repeat' first
    | with_reducible assumption
    | with_reducible apply KeptOut.next
    | with_reducible apply KeptOut.ite
    | exact fun e he => he
    | exact fun e he => ⟨List.length_set.trans he.1, he.2⟩
    | exact fun e he => by simpa [Engine.Shaped] using he
    | exact fun e he => ⟨List.length_replicate, he.2⟩
    | exact fun e he => ⟨he.1, List.length_replicate⟩
    | exact fun e _ => ⟨rfl, rfl⟩
    | intro _
    | with_reducible apply State.instr_kept
    | with_reducible apply State.readData_kept
    | with_reducible apply State.logStore_kept
    | with_reducible apply State.modEngine_kept
    | with_reducible apply State.setEngFlag_kept
    | with_reducible apply Kept.whenIf
    | with_reducible apply Kept.ite
    | split
    | dsimp only; split

theorem execPreset_kept {q : List Instr} (n : Nat) (ra : Nat) (rb : Nat) (rc : Nat) (addr : Nat) (s : State) (h : Kept q s) :
    KeptOut q (execPreset n ra rb rc addr s) := by
  unfold execPreset
  repeat' first
    | with_reducible assumption
    | with_reducible apply KeptOut.next
    | unfold id; with_reducible assumption
    | intro _
    | with_reducible apply State.instr_kept
    | with_reducible apply State.readData_kept
    | with_reducible apply State.putStates_kept
    | split
    | dsimp only; split

theorem execSkip_kept {q : List Instr} (n : Nat) (flag : Nat) (eq : Bool) (count : Nat) (s : State) (h : Kept q s) :
    KeptOut q (execSkip n flag eq count s) := by
  unfold execSkip
  repeat' first
    | with_reducible assumption
    | with_reducible apply KeptOut.next
    | exact fun e he => he
    | exact fun e he => ⟨List.length_set.trans he.1, he.2⟩
    | exact fun e he => by simpa [Engine.Shaped] using he
    | exact fun e he => ⟨List.length_replicate, he.2⟩
    | exact fun e he => ⟨he.1, List.length_replicate⟩
    | exact fun e _ => ⟨rfl, rfl⟩
    | intro _
    | with_reducible apply State.instr_kept
    | with_reducible apply State.modEngine_kept
    | with_reducible apply Kept.whenIf
    | split
    | dsimp only; split

theorem execEvry_kept {q : List Instr} (n : Nat) (flag : Nat) (every : Nat) (phase : Nat) (s : State) (h : Kept q s) :
    KeptOut q (execEvry n flag every phase s) := by
  unfold execEvry
  repeat' first
    | with_reducible assumption
    | with_reducible apply KeptOut.next
    | intro _
    | with_reducible apply State.instr_kept
    | with_reducible apply State.setEngFlag_kept
    | split
    | dsimp only; split

theorem execEvt_kept {q : List Instr} (n : Nat) (ra : Nat) (code : Nat) (fault : Bool) (s : State) (h : Kept q s) :
    KeptOut q (execEvt n ra code fault s) := by
  unfold execEvt
  repeat' first
    | with_reducible assumption
    | with_reducible apply KeptOut.next
    | with_reducible apply KeptOut.ite
    | exact fun e he => he
    | exact fun e he => ⟨List.length_set.trans he.1, he.2⟩
    | exact fun e he => by simpa [Engine.Shaped] using he
    | exact fun e he => ⟨List.length_replicate, he.2⟩
    | exact fun e he => ⟨he.1, List.length_replicate⟩
    | exact fun e _ => ⟨rfl, rfl⟩
    | intro _
    | with_reducible apply State.instr_kept
    | with_reducible apply State.modEngine_kept
    | with_reducible apply Kept.ite
    | split
    | dsimp only; split

end Sys2Proof.Machine
end

