-- ==== Sys2Proof/Laws/KeptStandby.lean ====
section
/-!
SUPPORT. What every operation of Machine/Standby.lean keeps (Laws/Kept.lean).
-/
namespace Sys2Proof.Machine

set_option linter.unusedTactic false
set_option linter.unreachableTactic false

theorem State.standbyTakesSets_kept {q : List Instr} (s : State) (h : Kept q s) :
    Kept q (State.standbyTakesSets s) := by
  unfold State.standbyTakesSets
  repeat' first
    | with_reducible assumption
    | intro _
    | with_reducible apply State.modGroup_kept
    | with_reducible apply Kept.each
    | split
    | (with_reducible apply Kept.free); split

theorem State.standbyLeft_kept {q : List Instr} (s : State) (g : Nat) (old : SMap) (h : Kept q s) :
    Kept q (State.standbyLeft s g old) := by
  unfold State.standbyLeft
  repeat' first
    | with_reducible assumption
    | intro _
    | with_reducible apply State.modGroup_kept
    | with_reducible apply Kept.foldl
    | with_reducible apply Kept.ite
    | split
    | (with_reducible apply Kept.free); split

theorem State.standbySwap_kept {q : List Instr} (s : State) (h : Kept q s) :
    Kept q (State.standbySwap s) := by
  unfold State.standbySwap
  repeat' first
    | with_reducible assumption
    | intro _
    | with_reducible apply State.setVar_kept
    | with_reducible apply State.modGroup_kept
    | with_reducible apply State.requestApply_kept
    | with_reducible apply Kept.each
    | with_reducible apply Kept.ite
    | split
    | (with_reducible apply Kept.free); split

end Sys2Proof.Machine
end

