-- ==== Sys2Proof/Laws/KeptDuplex.lean ====
section
/-!
SUPPORT. What every operation of Machine/Duplex.lean keeps (Laws/Kept.lean).
-/
namespace Sys2Proof.Machine

set_option linter.unusedTactic false
set_option linter.unreachableTactic false

theorem State.setLease_kept {q : List Instr} (s : State) (w : Wing) (v : Nat) (h : Kept q s) :
    Kept q (State.setLease s w v) := by
  unfold State.setLease
  repeat' first
    | with_reducible assumption
    | with_reducible exact fun h => h
    | exact fun _ => rfl
    | intro _
    | with_reducible apply State.setFld_kept
    | fail_if_no_progress with_reducible apply Kept.free
    | fail_if_no_progress (with_reducible refine Kept.updRegs ?_ (fun hk => ?_)) <;> try with_reducible exact hk.regs
    | fail_if_no_progress (with_reducible refine Kept.updDup ?_ (fun hk => DupOk.upd hk.dup ?_ ?_)) <;> try first | with_reducible rfl | with_reducible exact fun h => h
    | fail_if_no_progress (with_reducible refine Kept.updSd ?_ (fun hk => ?_)) <;> try with_reducible exact hk.sd
    | fail_if_no_progress (with_reducible refine Kept.updSatchel ?_ (fun hk => ?_)) <;> try with_reducible exact hk.satchel
    | with_reducible rfl
    | with_reducible exact List.length_map _
    | with_reducible refine Kept.votersEq (q := q) ?_ ‹_›
    | with_reducible refine Kept.slotsDEq (q := q) ?_ ‹_›
    | split
    | (with_reducible apply Kept.free); split

theorem State.setPass_kept {q : List Instr} (s : State) (w : Wing) (on : Bool) (h : Kept q s) :
    Kept q (State.setPass s w on) := by
  unfold State.setPass
  repeat' first
    | with_reducible assumption
    | intro _
    | with_reducible apply State.setBit_kept
    | split
    | (with_reducible apply Kept.free); split

theorem State.grant_kept {q : List Instr} (s : State) (w : Wing) (h : Kept q s) :
    Kept q (State.grant s w) := by
  unfold State.grant
  repeat' first
    | with_reducible assumption
    | intro _
    | with_reducible apply State.setLease_kept
    | with_reducible apply State.setPass_kept
    | split
    | (with_reducible apply Kept.free); split

theorem State.setRc_kept {q : List Instr} (s : State) (n : Nat) (h : Kept q s) :
    Kept q (State.setRc s n) := by
  unfold State.setRc
  repeat' first
    | with_reducible assumption
    | with_reducible exact fun h => h
    | exact fun _ => rfl
    | with_reducible refine Kept.sramWf (q := q) ?_
    | intro _
    | fail_if_no_progress with_reducible apply Kept.free
    | fail_if_no_progress (with_reducible refine Kept.updRegs ?_ (fun hk => ?_)) <;> try with_reducible exact hk.regs
    | fail_if_no_progress (with_reducible refine Kept.updSd ?_ (fun hk => ?_)) <;> try with_reducible exact hk.sd
    | fail_if_no_progress (with_reducible refine Kept.updSatchel ?_ (fun hk => ?_)) <;> try with_reducible exact hk.satchel
    | fail_if_no_progress (with_reducible refine Kept.updCt ?_ (fun hk => CtOk.upd hk.ct ?_)) <;> try first | with_reducible rfl | with_reducible exact fun h => h
    | with_reducible rfl
    | split
    | (with_reducible apply Kept.free); split

theorem State.setAcquired_kept {q : List Instr} (s : State) (b : Bool) (h : Kept q s) :
    Kept q (State.setAcquired s b) := by
  unfold State.setAcquired
  repeat' first
    | with_reducible assumption
    | with_reducible exact fun h => h
    | exact fun _ => rfl
    | intro _
    | fail_if_no_progress with_reducible apply Kept.free
    | fail_if_no_progress (with_reducible refine Kept.updRegs ?_ (fun hk => ?_)) <;> try with_reducible exact hk.regs
    | fail_if_no_progress (with_reducible refine Kept.updDup ?_ (fun hk => DupOk.upd hk.dup ?_ ?_)) <;> try first | with_reducible rfl | with_reducible exact fun h => h
    | fail_if_no_progress (with_reducible refine Kept.updSd ?_ (fun hk => ?_)) <;> try with_reducible exact hk.sd
    | fail_if_no_progress (with_reducible refine Kept.updSatchel ?_ (fun hk => ?_)) <;> try with_reducible exact hk.satchel
    | with_reducible rfl
    | with_reducible refine Kept.votersEq (q := q) ?_ ‹_›
    | with_reducible refine Kept.slotsDEq (q := q) ?_ ‹_›
    | split
    | (with_reducible apply Kept.free); split

theorem State.leaseTick_kept {q : List Instr} (s : State) (h : Kept q s) :
    Kept q (State.leaseTick s) := by
  unfold State.leaseTick
  repeat' first
    | with_reducible assumption
    | intro _
    | with_reducible apply State.setRc_kept
    | with_reducible apply State.setAcquired_kept
    | with_reducible apply State.setLease_kept
    | with_reducible apply Kept.each
    | with_reducible apply Kept.ite
    | split
    | (with_reducible apply Kept.free); split

theorem State.renew_kept {q : List Instr} (s : State) (w : Wing) (h : Kept q s) :
    Kept q (State.renew s w) := by
  unfold State.renew
  repeat' first
    | with_reducible assumption
    | intro _
    | with_reducible apply State.setLease_kept
    | with_reducible apply State.count_kept
    | with_reducible apply Kept.ite
    | split
    | (with_reducible apply Kept.free); split

theorem execLeaseRenew_kept {q : List Instr} (core : Nat) (s : State) (h : Kept q s) :
    KeptOut q (execLeaseRenew core s) := by
  unfold execLeaseRenew
  repeat' first
    | with_reducible assumption
    | with_reducible apply KeptOut.next
    | intro _
    | with_reducible apply State.accessBlk_kept
    | with_reducible apply State.renew_kept
    | split
    | dsimp only; split

theorem State.enterTakeover_kept {q : List Instr} (s : State) (c : Nat) (h : Kept q s) :
    Kept q (State.enterTakeover s c) := by
  unfold State.enterTakeover
  repeat' first
    | with_reducible assumption
    | with_reducible exact fun h => h
    | exact fun _ => rfl
    | with_reducible exact SMap.wf_set (d := fun _ => 0) _ _
    | with_reducible refine Kept.itcmWf (q := q) ?_
    | with_reducible refine Kept.dtcmWf (q := q) ?_
    | intro _
    | with_reducible apply State.fresh_kept
    | (with_reducible refine Kept.snd ?_ (by assumption)); with_reducible apply State.fresh_kept
    | with_reducible apply Kept.ite
    | fail_if_no_progress with_reducible apply Kept.free
    | fail_if_no_progress (with_reducible refine Kept.updRegs ?_ (fun hk => ?_)) <;> try with_reducible exact hk.regs
    | fail_if_no_progress (with_reducible refine Kept.updTut ?_ (fun hk => TutOk.upd hk.tut ?_ ?_ ?_ ?_ ?_ ?_ ?_ ?_)) <;> try first | with_reducible rfl | with_reducible exact fun h => h
    | fail_if_no_progress (with_reducible refine Kept.updSd ?_ (fun hk => ?_)) <;> try with_reducible exact hk.sd
    | fail_if_no_progress (with_reducible refine Kept.updSatchel ?_ (fun hk => ?_)) <;> try with_reducible exact hk.satchel
    | with_reducible rfl
    | with_reducible exact List.length_set
    | with_reducible exact List.length_set.trans List.length_set
    | exact List.length_set
    | with_reducible refine Kept.mtcmpEq (q := q) ?_ ‹_›
    | with_reducible refine Kept.mtcmpHoldEq (q := q) ?_ ‹_›
    | with_reducible refine Kept.enteredEq (q := q) ?_ ‹_›
    | with_reducible refine Kept.lrEq (q := q) ?_ ‹_›
    | with_reducible refine Kept.mcauseEq (q := q) ?_ ‹_›
    | with_reducible refine Kept.mtvalEq (q := q) ?_ ‹_›
    | split
    | (with_reducible apply Kept.free); split

theorem State.takeoverEntry_kept {q : List Instr} (s : State) (w : Wing) (h : Kept q s) :
    Kept q (State.takeoverEntry s w) := by
  unfold State.takeoverEntry
  repeat' first
    | with_reducible assumption
    | with_reducible exact fun h => h
    | exact fun _ => rfl
    | with_reducible refine Kept.itcmWf (q := q) ?_
    | with_reducible refine Kept.dtcmWf (q := q) ?_
    | intro _
    | with_reducible apply State.enterTakeover_kept
    | with_reducible apply Kept.each
    | with_reducible apply Kept.ite
    | fail_if_no_progress with_reducible apply Kept.free
    | fail_if_no_progress (with_reducible refine Kept.updRegs ?_ (fun hk => ?_)) <;> try with_reducible exact hk.regs
    | fail_if_no_progress (with_reducible refine Kept.updTut ?_ (fun hk => TutOk.upd hk.tut ?_ ?_ ?_ ?_ ?_ ?_ ?_ ?_)) <;> try first | with_reducible rfl | with_reducible exact fun h => h
    | fail_if_no_progress (with_reducible refine Kept.updSd ?_ (fun hk => ?_)) <;> try with_reducible exact hk.sd
    | fail_if_no_progress (with_reducible refine Kept.updSatchel ?_ (fun hk => ?_)) <;> try with_reducible exact hk.satchel
    | with_reducible rfl
    | with_reducible refine Kept.mtcmpEq (q := q) ?_ ‹_›
    | with_reducible refine Kept.mtcmpHoldEq (q := q) ?_ ‹_›
    | with_reducible refine Kept.enteredEq (q := q) ?_ ‹_›
    | with_reducible refine Kept.lrEq (q := q) ?_ ‹_›
    | with_reducible refine Kept.mcauseEq (q := q) ?_ ‹_›
    | with_reducible refine Kept.mtvalEq (q := q) ?_ ‹_›
    | split
    | (with_reducible apply Kept.free); split

theorem State.wingLocked_kept {q : List Instr} (s : State) (w : Wing) (h : Kept q s) :
    Kept q (State.wingLocked s w) := by
  unfold State.wingLocked
  repeat' first
    | with_reducible assumption
    | with_reducible exact fun h => h
    | exact fun _ => rfl
    | intro _
    | with_reducible apply State.standbyTakesSets_kept
    | with_reducible apply State.setWing_kept
    | with_reducible apply State.takeoverEntry_kept
    | with_reducible apply Kept.whenIf
    | with_reducible apply Kept.ite
    | fail_if_no_progress with_reducible apply Kept.free
    | fail_if_no_progress (with_reducible refine Kept.updRegs ?_ (fun hk => ?_)) <;> try with_reducible exact hk.regs
    | fail_if_no_progress (with_reducible refine Kept.updDup ?_ (fun hk => DupOk.upd hk.dup ?_ ?_)) <;> try first | with_reducible rfl | with_reducible exact fun h => h
    | fail_if_no_progress (with_reducible refine Kept.updSd ?_ (fun hk => ?_)) <;> try with_reducible exact hk.sd
    | fail_if_no_progress (with_reducible refine Kept.updSatchel ?_ (fun hk => ?_)) <;> try with_reducible exact hk.satchel
    | with_reducible rfl
    | with_reducible refine Kept.votersEq (q := q) ?_ ‹_›
    | with_reducible refine Kept.slotsDEq (q := q) ?_ ‹_›
    | split
    | (with_reducible apply Kept.free); split

theorem State.passLost_kept {q : List Instr} (s : State) (w : Wing) (released : Bool) (h : Kept q s) :
    Kept q (State.passLost s w released) := by
  unfold State.passLost
  repeat' first
    | with_reducible assumption
    | with_reducible exact fun h => h
    | exact fun _ => rfl
    | with_reducible exact foldSet_wf _ _ _
    | intro _
    | with_reducible apply State.setLease_kept
    | with_reducible apply State.setPass_kept
    | with_reducible apply State.clearOuten_kept
    | with_reducible apply State.setFld_kept
    | with_reducible apply State.abandonWing_kept
    | with_reducible apply State.raise_kept
    | with_reducible apply State.setWing_kept
    | with_reducible apply State.dupEvent_kept
    | with_reducible apply State.advanceEpoch_kept
    | with_reducible apply State.standbySwap_kept
    | with_reducible apply State.grant_kept
    | with_reducible apply State.takeoverEntry_kept
    | with_reducible apply State.count_kept
    | with_reducible apply State.setWindow_kept
    | with_reducible apply Kept.whenIf
    | with_reducible apply Kept.each
    | with_reducible apply Kept.foldl
    | with_reducible apply Kept.ite
    | fail_if_no_progress with_reducible apply Kept.free
    | fail_if_no_progress (with_reducible refine Kept.updRegs ?_ (fun hk => ?_)) <;> try with_reducible exact hk.regs
    | fail_if_no_progress (with_reducible refine Kept.updDup ?_ (fun hk => DupOk.upd hk.dup ?_ ?_)) <;> try first | with_reducible rfl | with_reducible exact fun h => h
    | fail_if_no_progress (with_reducible refine Kept.updSd ?_ (fun hk => ?_)) <;> try with_reducible exact hk.sd
    | fail_if_no_progress (with_reducible refine Kept.updSatchel ?_ (fun hk => ?_)) <;> try with_reducible exact hk.satchel
    | with_reducible rfl
    | with_reducible exact length_foldl_set (fun x => x) _ _
    | with_reducible refine Kept.votersEq (q := q) ?_ ‹_›
    | with_reducible refine Kept.slotsDEq (q := q) ?_ ‹_›
    | split
    | (with_reducible apply Kept.free); split

theorem execLeaseExpiry_kept {q : List Instr} (w : Wing) (s : State) (h : Kept q s) :
    KeptOut q (execLeaseExpiry w s) := by
  unfold execLeaseExpiry
  repeat' first
    | with_reducible assumption
    | with_reducible apply KeptOut.next
    | intro _
    | with_reducible apply State.passLost_kept
    | split
    | dsimp only; split

theorem State.retireVoter_kept {q : List Instr} (s : State) (voter : Nat) (w : Wing) (h : Kept q s) :
    Kept q (State.retireVoter s voter w) := by
  unfold State.retireVoter
  repeat' first
    | with_reducible assumption
    | with_reducible exact fun h => h
    | exact fun _ => rfl
    | intro _
    | with_reducible apply State.consumeSpare_kept
    | with_reducible apply State.recordRepair_kept
    | with_reducible apply State.dupEvent_kept
    | with_reducible apply State.setFld_kept
    | fail_if_no_progress with_reducible apply Kept.free
    | fail_if_no_progress (with_reducible refine Kept.updRegs ?_ (fun hk => ?_)) <;> try with_reducible exact hk.regs
    | fail_if_no_progress (with_reducible refine Kept.updDup ?_ (fun hk => DupOk.upd hk.dup ?_ ?_)) <;> try first | with_reducible rfl | with_reducible exact fun h => h
    | fail_if_no_progress (with_reducible refine Kept.updSd ?_ (fun hk => ?_)) <;> try with_reducible exact hk.sd
    | fail_if_no_progress (with_reducible refine Kept.updSatchel ?_ (fun hk => ?_)) <;> try with_reducible exact hk.satchel
    | with_reducible rfl
    | with_reducible exact modAt_length _ _ _ _
    | exact modAt_length _ _ _ _
    | with_reducible refine Kept.votersEq (q := q) ?_ ‹_›
    | with_reducible refine Kept.slotsDEq (q := q) ?_ ‹_›
    | split
    | (with_reducible apply Kept.free); split

theorem execVoterDisagreement_kept {q : List Instr} (voter : Nat) (w : Wing) (s : State) (h : Kept q s) :
    KeptOut q (execVoterDisagreement voter w s) := by
  unfold execVoterDisagreement
  repeat' first
    | with_reducible assumption
    | with_reducible apply KeptOut.next
    | with_reducible apply KeptOut.ite
    | with_reducible exact fun h => h
    | exact fun _ => rfl
    | with_reducible exact SMap.wf_filter _
    | intro _
    | with_reducible apply State.passLost_kept
    | with_reducible apply State.retireVoter_kept
    | with_reducible apply Kept.whenIf
    | with_reducible apply Kept.ite
    | fail_if_no_progress with_reducible apply Kept.free
    | fail_if_no_progress (with_reducible refine Kept.updRegs ?_ (fun hk => ?_)) <;> try with_reducible exact hk.regs
    | fail_if_no_progress (with_reducible refine Kept.updDup ?_ (fun hk => DupOk.upd hk.dup ?_ ?_)) <;> try first | with_reducible rfl | with_reducible exact fun h => h
    | fail_if_no_progress (with_reducible refine Kept.updSd ?_ (fun hk => ?_)) <;> try with_reducible exact hk.sd
    | fail_if_no_progress (with_reducible refine Kept.updSatchel ?_ (fun hk => ?_)) <;> try with_reducible exact hk.satchel
    | with_reducible rfl
    | with_reducible exact List.length_set
    | with_reducible exact List.length_set.trans List.length_set
    | exact List.length_set
    | with_reducible refine Kept.votersEq (q := q) ?_ ‹_›
    | with_reducible refine Kept.slotsDEq (q := q) ?_ ‹_›
    | split
    | dsimp only; split

theorem State.cmdDiscarded_kept {q : List Instr} (s : State) (w : Wing) (cmd : Nat) (h : Kept q s) :
    Kept q (State.cmdDiscarded s w cmd) := by
  unfold State.cmdDiscarded
  repeat' first
    | with_reducible assumption
    | intro _
    | with_reducible apply State.dupEvent_kept
    | split
    | (with_reducible apply Kept.free); split

theorem State.hpCmd_kept {q : List Instr} (s : State) (core : Nat) (f : State → Wing → State) (h : Kept q s) (hf : ∀ t,
    Kept q t → ∀ x1, Kept q (f t x1)) :
    Kept q (State.hpCmd s core f) := by
  unfold State.hpCmd
  repeat' first
    | with_reducible assumption
    | intro _
    | with_reducible apply State.accessBlk_kept
    | with_reducible apply hf
    | split
    | (with_reducible apply Kept.free); split

theorem State.stopPll_kept {q : List Instr} (s : State) (x1 : Wing) (h : Kept q s) :
    Kept q (State.stopPll s x1) := by
  unfold State.stopPll
  repeat' first
    | with_reducible assumption
    | intro _
    | with_reducible apply State.setFld_kept
    | split
    | (with_reducible apply Kept.free); split

theorem State.setBistFails_kept {q : List Instr} (s : State) (w : Wing) (n : Nat) (h : Kept q s) :
    Kept q (State.setBistFails s w n) := by
  unfold State.setBistFails
  repeat' first
    | with_reducible assumption
    | with_reducible exact fun h => h
    | exact fun _ => rfl
    | intro _
    | fail_if_no_progress with_reducible apply Kept.free
    | fail_if_no_progress (with_reducible refine Kept.updRegs ?_ (fun hk => ?_)) <;> try with_reducible exact hk.regs
    | fail_if_no_progress (with_reducible refine Kept.updDup ?_ (fun hk => DupOk.upd hk.dup ?_ ?_)) <;> try first | with_reducible rfl | with_reducible exact fun h => h
    | fail_if_no_progress (with_reducible refine Kept.updSd ?_ (fun hk => ?_)) <;> try with_reducible exact hk.sd
    | fail_if_no_progress (with_reducible refine Kept.updSatchel ?_ (fun hk => ?_)) <;> try with_reducible exact hk.satchel
    | with_reducible rfl
    | with_reducible refine Kept.votersEq (q := q) ?_ ‹_›
    | with_reducible refine Kept.slotsDEq (q := q) ?_ ‹_›
    | split
    | (with_reducible apply Kept.free); split

theorem State.bistResult_kept {q : List Instr} (s : State) (w : Wing) (pass : Bool) (h : Kept q s) :
    Kept q (State.bistResult s w pass) := by
  unfold State.bistResult
  repeat' first
    | with_reducible assumption
    | intro _
    | with_reducible apply State.setFlag_kept
    | with_reducible apply State.setBistFails_kept
    | with_reducible apply State.count_kept
    | with_reducible apply State.dupEvent_kept
    | with_reducible apply State.standbyReserve_kept
    | with_reducible apply State.setWing_kept
    | with_reducible apply Kept.ite
    | split
    | (with_reducible apply Kept.free); split

theorem State.standbyCmd_kept {q : List Instr} (s : State) (w : Wing) (pass : Bool) (h : Kept q s) :
    Kept q (State.standbyCmd s w pass) := by
  unfold State.standbyCmd
  repeat' first
    | with_reducible assumption
    | intro _
    | with_reducible apply State.bistResult_kept
    | with_reducible apply State.standbyReserve_kept
    | with_reducible apply State.stopPll_kept
    | with_reducible apply State.setWing_kept
    | with_reducible apply State.cmdDiscarded_kept
    | with_reducible apply Kept.ite
    | split
    | (with_reducible apply Kept.free); split

theorem execStandby_kept {q : List Instr} (core : Nat) (pass : Bool) (s : State) (h : Kept q s) :
    KeptOut q (execStandby core pass s) := by
  unfold execStandby
  repeat' first
    | with_reducible assumption
    | with_reducible apply KeptOut.next
    | intro _
    | with_reducible apply State.hpCmd_kept
    | with_reducible apply State.standbyCmd_kept
    | split
    | dsimp only; split

theorem State.wakeWing_kept {q : List Instr} (s : State) (w : Wing) (h : Kept q s) :
    Kept q (State.wakeWing s w) := by
  unfold State.wakeWing
  repeat' first
    | with_reducible assumption
    | with_reducible exact fun h => h
    | exact fun _ => rfl
    | intro _
    | with_reducible apply State.standbyTakesSets_kept
    | with_reducible apply State.setWing_kept
    | with_reducible apply Kept.ite
    | fail_if_no_progress with_reducible apply Kept.free
    | fail_if_no_progress (with_reducible refine Kept.updRegs ?_ (fun hk => ?_)) <;> try with_reducible exact hk.regs
    | fail_if_no_progress (with_reducible refine Kept.updDup ?_ (fun hk => DupOk.upd hk.dup ?_ ?_)) <;> try first | with_reducible rfl | with_reducible exact fun h => h
    | fail_if_no_progress (with_reducible refine Kept.updSd ?_ (fun hk => ?_)) <;> try with_reducible exact hk.sd
    | fail_if_no_progress (with_reducible refine Kept.updSatchel ?_ (fun hk => ?_)) <;> try with_reducible exact hk.satchel
    | with_reducible rfl
    | with_reducible refine Kept.votersEq (q := q) ?_ ‹_›
    | with_reducible refine Kept.slotsDEq (q := q) ?_ ‹_›
    | split
    | (with_reducible apply Kept.free); split

theorem State.wakeCmd_kept {q : List Instr} (s : State) (w : Wing) (h : Kept q s) :
    Kept q (State.wakeCmd s w) := by
  unfold State.wakeCmd
  repeat' first
    | with_reducible assumption
    | intro _
    | with_reducible apply State.wakeWing_kept
    | with_reducible apply State.cmdDiscarded_kept
    | with_reducible apply Kept.ite
    | split
    | (with_reducible apply Kept.free); split

theorem execWake_kept {q : List Instr} (core : Nat) (s : State) (h : Kept q s) :
    KeptOut q (execWake core s) := by
  unfold execWake
  repeat' first
    | with_reducible assumption
    | with_reducible apply KeptOut.next
    | intro _
    | with_reducible apply State.hpCmd_kept
    | with_reducible apply State.wakeCmd_kept
    | split
    | dsimp only; split

theorem State.refuse_kept {q : List Instr} (s : State) (w : Wing) (reason : Nat) (h : Kept q s) :
    Kept q (State.refuse s w reason) := by
  unfold State.refuse
  repeat' first
    | with_reducible assumption
    | intro _
    | with_reducible apply State.dupEvent_kept
    | with_reducible apply State.setFld_kept
    | split
    | (with_reducible apply Kept.free); split

theorem State.readyCmd_kept {q : List Instr} (s : State) (w : Wing) (h : Kept q s) :
    Kept q (State.readyCmd s w) := by
  unfold State.readyCmd
  repeat' first
    | with_reducible assumption
    | intro _
    | with_reducible apply State.setWing_kept
    | with_reducible apply State.refuse_kept
    | with_reducible apply State.cmdDiscarded_kept
    | with_reducible apply Kept.ite
    | split
    | (with_reducible apply Kept.free); split

theorem execReady_kept {q : List Instr} (core : Nat) (s : State) (h : Kept q s) :
    KeptOut q (execReady core s) := by
  unfold execReady
  repeat' first
    | with_reducible assumption
    | with_reducible apply KeptOut.next
    | intro _
    | with_reducible apply State.hpCmd_kept
    | with_reducible apply State.readyCmd_kept
    | split
    | dsimp only; split

theorem State.handoverCmd_kept {q : List Instr} (s : State) (w : Wing) (h : Kept q s) :
    Kept q (State.handoverCmd s w) := by
  unfold State.handoverCmd
  repeat' first
    | with_reducible assumption
    | with_reducible exact fun h => h
    | exact fun _ => rfl
    | intro _
    | with_reducible apply State.setFld_kept
    | with_reducible apply State.setLease_kept
    | with_reducible apply State.refuse_kept
    | with_reducible apply State.cmdDiscarded_kept
    | with_reducible apply Kept.ite
    | fail_if_no_progress with_reducible apply Kept.free
    | fail_if_no_progress (with_reducible refine Kept.updRegs ?_ (fun hk => ?_)) <;> try with_reducible exact hk.regs
    | fail_if_no_progress (with_reducible refine Kept.updDup ?_ (fun hk => DupOk.upd hk.dup ?_ ?_)) <;> try first | with_reducible rfl | with_reducible exact fun h => h
    | fail_if_no_progress (with_reducible refine Kept.updSd ?_ (fun hk => ?_)) <;> try with_reducible exact hk.sd
    | fail_if_no_progress (with_reducible refine Kept.updSatchel ?_ (fun hk => ?_)) <;> try with_reducible exact hk.satchel
    | with_reducible rfl
    | with_reducible refine Kept.votersEq (q := q) ?_ ‹_›
    | with_reducible refine Kept.slotsDEq (q := q) ?_ ‹_›
    | split
    | (with_reducible apply Kept.free); split

theorem execHandover_kept {q : List Instr} (core : Nat) (s : State) (h : Kept q s) :
    KeptOut q (execHandover core s) := by
  unfold execHandover
  repeat' first
    | with_reducible assumption
    | with_reducible apply KeptOut.next
    | intro _
    | with_reducible apply State.hpCmd_kept
    | with_reducible apply State.handoverCmd_kept
    | split
    | dsimp only; split

theorem State.cancelHandover_kept {q : List Instr} (s : State) (h : Kept q s) :
    Kept q (State.cancelHandover s) := by
  unfold State.cancelHandover
  repeat' first
    | with_reducible assumption
    | with_reducible exact fun h => h
    | exact fun _ => rfl
    | intro _
    | with_reducible apply State.setFld_kept
    | fail_if_no_progress with_reducible apply Kept.free
    | fail_if_no_progress (with_reducible refine Kept.updRegs ?_ (fun hk => ?_)) <;> try with_reducible exact hk.regs
    | fail_if_no_progress (with_reducible refine Kept.updDup ?_ (fun hk => DupOk.upd hk.dup ?_ ?_)) <;> try first | with_reducible rfl | with_reducible exact fun h => h
    | fail_if_no_progress (with_reducible refine Kept.updSd ?_ (fun hk => ?_)) <;> try with_reducible exact hk.sd
    | fail_if_no_progress (with_reducible refine Kept.updSatchel ?_ (fun hk => ?_)) <;> try with_reducible exact hk.satchel
    | with_reducible rfl
    | with_reducible refine Kept.votersEq (q := q) ?_ ‹_›
    | with_reducible refine Kept.slotsDEq (q := q) ?_ ‹_›
    | split
    | (with_reducible apply Kept.free); split

theorem State.checkHandover_kept {q : List Instr} (s : State) (h : Kept q s) :
    Kept q (State.checkHandover s) := by
  unfold State.checkHandover
  repeat' first
    | with_reducible assumption
    | intro _
    | with_reducible apply State.cancelHandover_kept
    | with_reducible apply State.refuse_kept
    | with_reducible apply Kept.whenIf
    | split
    | (with_reducible apply Kept.free); split

theorem State.coldCmd_kept {q : List Instr} (s : State) (w : Wing) (h : Kept q s) :
    Kept q (State.coldCmd s w) := by
  unfold State.coldCmd
  repeat' first
    | with_reducible assumption
    | intro _
    | with_reducible apply State.checkHandover_kept
    | with_reducible apply State.stopPll_kept
    | with_reducible apply State.setWing_kept
    | with_reducible apply State.cmdDiscarded_kept
    | with_reducible apply Kept.ite
    | split
    | (with_reducible apply Kept.free); split

theorem execCold_kept {q : List Instr} (core : Nat) (s : State) (h : Kept q s) :
    KeptOut q (execCold core s) := by
  unfold execCold
  repeat' first
    | with_reducible assumption
    | with_reducible apply KeptOut.next
    | intro _
    | with_reducible apply State.hpCmd_kept
    | with_reducible apply State.coldCmd_kept
    | split
    | dsimp only; split

theorem State.cancelCmd_kept {q : List Instr} (s : State) (w : Wing) (h : Kept q s) :
    Kept q (State.cancelCmd s w) := by
  unfold State.cancelCmd
  repeat' first
    | with_reducible assumption
    | intro _
    | with_reducible apply State.cancelHandover_kept
    | with_reducible apply State.setWing_kept
    | with_reducible apply State.cmdDiscarded_kept
    | with_reducible apply Kept.whenIf
    | with_reducible apply Kept.ite
    | split
    | (with_reducible apply Kept.free); split

theorem execCancel_kept {q : List Instr} (core : Nat) (s : State) (h : Kept q s) :
    KeptOut q (execCancel core s) := by
  unfold execCancel
  repeat' first
    | with_reducible assumption
    | with_reducible apply KeptOut.next
    | intro _
    | with_reducible apply State.hpCmd_kept
    | with_reducible apply State.cancelCmd_kept
    | split
    | dsimp only; split

theorem State.releaseCmd_kept {q : List Instr} (s : State) (w : Wing) (h : Kept q s) :
    Kept q (State.releaseCmd s w) := by
  unfold State.releaseCmd
  repeat' first
    | with_reducible assumption
    | intro _
    | with_reducible apply State.passLost_kept
    | with_reducible apply State.cmdDiscarded_kept
    | with_reducible apply Kept.ite
    | split
    | (with_reducible apply Kept.free); split

theorem execRelease_kept {q : List Instr} (core : Nat) (s : State) (h : Kept q s) :
    KeptOut q (execRelease core s) := by
  unfold execRelease
  repeat' first
    | with_reducible assumption
    | with_reducible apply KeptOut.next
    | intro _
    | with_reducible apply State.hpCmd_kept
    | with_reducible apply State.releaseCmd_kept
    | split
    | dsimp only; split

theorem State.withdrawB_kept {q : List Instr} (s : State) (h : Kept q s) :
    Kept q (State.withdrawB s) := by
  unfold State.withdrawB
  repeat' first
    | with_reducible assumption
    | intro _
    | with_reducible apply State.setLease_kept
    | with_reducible apply State.setPass_kept
    | with_reducible apply State.clearOuten_kept
    | with_reducible apply State.setWing_kept
    | with_reducible apply State.abandonWing_kept
    | with_reducible apply Kept.each
    | split
    | (with_reducible apply Kept.free); split

theorem State.acquireCmd_kept {q : List Instr} (s : State) (w : Wing) (h : Kept q s) :
    Kept q (State.acquireCmd s w) := by
  unfold State.acquireCmd
  repeat' first
    | with_reducible assumption
    | intro _
    | with_reducible apply State.withdrawB_kept
    | with_reducible apply State.setWing_kept
    | with_reducible apply State.grant_kept
    | with_reducible apply State.setAcquired_kept
    | with_reducible apply State.cmdDiscarded_kept
    | with_reducible apply Kept.whenIf
    | with_reducible apply Kept.ite
    | split
    | (with_reducible apply Kept.free); split

theorem execAcquire_kept {q : List Instr} (core : Nat) (s : State) (h : Kept q s) :
    KeptOut q (execAcquire core s) := by
  unfold execAcquire
  repeat' first
    | with_reducible assumption
    | with_reducible apply KeptOut.next
    | intro _
    | with_reducible apply State.hpCmd_kept
    | with_reducible apply State.acquireCmd_kept
    | split
    | dsimp only; split

theorem execColdSelfTestWindow_kept {q : List Instr} (w : Wing) (pass : Bool) (s : State) (h : Kept q s) :
    KeptOut q (execColdSelfTestWindow w pass s) := by
  unfold execColdSelfTestWindow
  repeat' first
    | with_reducible assumption
    | with_reducible apply KeptOut.next
    | with_reducible apply KeptOut.ite
    | intro _
    | with_reducible apply State.bistResult_kept
    | with_reducible apply State.standbyTakesSets_kept
    | with_reducible apply State.setWindow_kept
    | with_reducible apply Kept.ite
    | split
    | dsimp only; split

theorem State.closeWindows_kept {q : List Instr} (s : State) (h : Kept q s) :
    Kept q (State.closeWindows s) := by
  unfold State.closeWindows
  repeat' first
    | with_reducible assumption
    | intro _
    | with_reducible apply State.setWindow_kept
    | with_reducible apply State.stopPll_kept
    | with_reducible apply Kept.whenIf
    | with_reducible apply Kept.each
    | split
    | (with_reducible apply Kept.free); split

theorem State.setDtcmWord_kept {q : List Instr} (s : State) (w : Wing) (ofs : Nat) (v : Nat) (h : Kept q s) :
    Kept q (State.setDtcmWord s w ofs v) := by
  unfold State.setDtcmWord
  repeat' first
    | with_reducible assumption
    | with_reducible exact fun h => h
    | exact fun _ => rfl
    | with_reducible exact SMap.wf_set (d := fun _ => 0) _ _
    | with_reducible exact foldSet_wf _ _ _
    | with_reducible refine Kept.itcmWf (q := q) ?_
    | with_reducible refine Kept.dtcmWf (q := q) ?_
    | intro _
    | with_reducible apply Kept.foldl
    | fail_if_no_progress with_reducible apply Kept.free
    | fail_if_no_progress (with_reducible refine Kept.updRegs ?_ (fun hk => ?_)) <;> try with_reducible exact hk.regs
    | fail_if_no_progress (with_reducible refine Kept.updTut ?_ (fun hk => TutOk.upd hk.tut ?_ ?_ ?_ ?_ ?_ ?_ ?_ ?_)) <;> try first | with_reducible rfl | with_reducible exact fun h => h
    | fail_if_no_progress (with_reducible refine Kept.updSd ?_ (fun hk => ?_)) <;> try with_reducible exact hk.sd
    | fail_if_no_progress (with_reducible refine Kept.updSatchel ?_ (fun hk => ?_)) <;> try with_reducible exact hk.satchel
    | with_reducible rfl
    | with_reducible exact length_foldl_set (fun x => x) _ _
    | with_reducible refine Kept.mtcmpEq (q := q) ?_ ‹_›
    | with_reducible refine Kept.mtcmpHoldEq (q := q) ?_ ‹_›
    | with_reducible refine Kept.enteredEq (q := q) ?_ ‹_›
    | with_reducible refine Kept.lrEq (q := q) ?_ ‹_›
    | with_reducible refine Kept.mcauseEq (q := q) ?_ ‹_›
    | with_reducible refine Kept.mtvalEq (q := q) ?_ ‹_›
    | split
    | (with_reducible apply Kept.free); split

theorem State.snapshotBell_kept {q : List Instr} (s : State) (handover : Bool) (h : Kept q s) :
    Kept q (State.snapshotBell s handover) := by
  unfold State.snapshotBell
  repeat' first
    | with_reducible assumption
    | with_reducible exact fun h => h
    | exact fun _ => rfl
    | with_reducible exact foldSet_wf _ _ _
    | intro _
    | with_reducible apply State.dupEvent_kept
    | with_reducible apply State.count_kept
    | with_reducible apply Kept.foldl
    | with_reducible apply Kept.ite
    | fail_if_no_progress with_reducible apply Kept.free
    | fail_if_no_progress (with_reducible refine Kept.updRegs ?_ (fun hk => ?_)) <;> try with_reducible exact hk.regs
    | fail_if_no_progress (with_reducible refine Kept.updDup ?_ (fun hk => DupOk.upd hk.dup ?_ ?_)) <;> try first | with_reducible rfl | with_reducible exact fun h => h
    | fail_if_no_progress (with_reducible refine Kept.updSd ?_ (fun hk => ?_)) <;> try with_reducible exact hk.sd
    | fail_if_no_progress (with_reducible refine Kept.updSatchel ?_ (fun hk => ?_)) <;> try with_reducible exact hk.satchel
    | with_reducible rfl
    | with_reducible exact length_foldl_set (fun x => x) _ _
    | with_reducible refine Kept.votersEq (q := q) ?_ ‹_›
    | with_reducible refine Kept.slotsDEq (q := q) ?_ ‹_›
    | exact hk.dup.1.symm
    | exact hk.dup.2.symm
    | split
    | (with_reducible apply Kept.free); split

theorem State.refreshAge_kept {q : List Instr} (s : State) (h : Kept q s) :
    Kept q (State.refreshAge s) := by
  unfold State.refreshAge
  repeat' first
    | with_reducible assumption
    | intro _
    | with_reducible apply State.setFld_kept
    | split
    | (with_reducible apply Kept.free); split

theorem State.settleStale_kept {q : List Instr} (s : State) (h : Kept q s) :
    Kept q (State.settleStale s) := by
  unfold State.settleStale
  repeat' first
    | with_reducible assumption
    | intro _
    | with_reducible apply State.dupEvent_kept
    | with_reducible apply State.setFld_kept
    | with_reducible apply Kept.whenIf
    | split
    | (with_reducible apply Kept.free); split

theorem execSnapshotWriteComplete_kept {q : List Instr} (s : State) (h : Kept q s) :
    KeptOut q (execSnapshotWriteComplete s) := by
  unfold execSnapshotWriteComplete
  repeat' first
    | with_reducible assumption
    | with_reducible apply KeptOut.next
    | with_reducible exact fun h => h
    | exact fun _ => rfl
    | intro _
    | with_reducible apply State.captureShadows_kept
    | with_reducible apply State.setFld_kept
    | with_reducible apply State.settleStale_kept
    | with_reducible apply State.refreshAge_kept
    | fail_if_no_progress with_reducible apply Kept.free
    | fail_if_no_progress (with_reducible refine Kept.updRegs ?_ (fun hk => ?_)) <;> try with_reducible exact hk.regs
    | fail_if_no_progress (with_reducible refine Kept.updDup ?_ (fun hk => DupOk.upd hk.dup ?_ ?_)) <;> try first | with_reducible rfl | with_reducible exact fun h => h
    | fail_if_no_progress (with_reducible refine Kept.updSd ?_ (fun hk => ?_)) <;> try with_reducible exact hk.sd
    | fail_if_no_progress (with_reducible refine Kept.updSatchel ?_ (fun hk => ?_)) <;> try with_reducible exact hk.satchel
    | with_reducible rfl
    | with_reducible exact List.length_set
    | with_reducible exact List.length_set.trans List.length_set
    | exact List.length_set
    | with_reducible refine Kept.votersEq (q := q) ?_ ‹_›
    | with_reducible refine Kept.slotsDEq (q := q) ?_ ‹_›
    | split
    | dsimp only; split

theorem State.linkFault_kept {q : List Instr} (s : State) (w : Wing) (h : Kept q s) :
    Kept q (State.linkFault s w) := by
  unfold State.linkFault
  repeat' first
    | with_reducible assumption
    | with_reducible exact fun h => h
    | exact fun _ => rfl
    | intro _
    | with_reducible apply State.setFld_kept
    | with_reducible apply State.checkHandover_kept
    | with_reducible apply State.raise_kept
    | with_reducible apply State.dupEvent_kept
    | fail_if_no_progress with_reducible apply Kept.free
    | fail_if_no_progress (with_reducible refine Kept.updRegs ?_ (fun hk => ?_)) <;> try with_reducible exact hk.regs
    | fail_if_no_progress (with_reducible refine Kept.updDup ?_ (fun hk => DupOk.upd hk.dup ?_ ?_)) <;> try first | with_reducible rfl | with_reducible exact fun h => h
    | fail_if_no_progress (with_reducible refine Kept.updSd ?_ (fun hk => ?_)) <;> try with_reducible exact hk.sd
    | fail_if_no_progress (with_reducible refine Kept.updSatchel ?_ (fun hk => ?_)) <;> try with_reducible exact hk.satchel
    | with_reducible rfl
    | with_reducible refine Kept.votersEq (q := q) ?_ ‹_›
    | with_reducible refine Kept.slotsDEq (q := q) ?_ ‹_›
    | split
    | (with_reducible apply Kept.free); split

theorem execLinkStale_kept {q : List Instr} (w : Wing) (s : State) (h : Kept q s) :
    KeptOut q (execLinkStale w s) := by
  unfold execLinkStale
  repeat' first
    | with_reducible assumption
    | with_reducible apply KeptOut.next
    | with_reducible apply KeptOut.ite
    | intro _
    | with_reducible apply State.linkFault_kept
    | with_reducible apply Kept.ite
    | split
    | dsimp only; split

theorem execTakeoverSlotChosen_kept {q : List Instr} (s : State) (h : Kept q s) :
    KeptOut q (execTakeoverSlotChosen s) := by
  unfold execTakeoverSlotChosen
  repeat' first
    | with_reducible assumption
    | with_reducible apply KeptOut.next
    | with_reducible apply KeptOut.ite
    | with_reducible exact fun h => h
    | exact fun _ => rfl
    | intro _
    | with_reducible apply State.dupEvent_kept
    | with_reducible apply State.setFld_kept
    | with_reducible apply Kept.ite
    | fail_if_no_progress with_reducible apply Kept.free
    | fail_if_no_progress (with_reducible refine Kept.updRegs ?_ (fun hk => ?_)) <;> try with_reducible exact hk.regs
    | fail_if_no_progress (with_reducible refine Kept.updDup ?_ (fun hk => DupOk.upd hk.dup ?_ ?_)) <;> try first | with_reducible rfl | with_reducible exact fun h => h
    | fail_if_no_progress (with_reducible refine Kept.updSd ?_ (fun hk => ?_)) <;> try with_reducible exact hk.sd
    | fail_if_no_progress (with_reducible refine Kept.updSatchel ?_ (fun hk => ?_)) <;> try with_reducible exact hk.satchel
    | with_reducible rfl
    | with_reducible refine Kept.votersEq (q := q) ?_ ‹_›
    | with_reducible refine Kept.slotsDEq (q := q) ?_ ‹_›
    | split
    | dsimp only; split

theorem State.restore_kept {q : List Instr} (s : State) (w : Wing) (engines : List EngSection) (tutor : Option (Nat × List
    Nat)) (h : Kept q s) :
    Kept q (State.restore s w engines tutor) := by
  unfold State.restore
  repeat' first
    | with_reducible assumption
    | exact fun e he => he
    | exact fun e he => ⟨List.length_set.trans he.1, he.2⟩
    | exact fun e he => by simpa [Engine.Shaped] using he
    | exact fun e he => ⟨List.length_replicate, he.2⟩
    | exact fun e he => ⟨he.1, List.length_replicate⟩
    | exact fun e _ => ⟨rfl, rfl⟩
    | intro _
    | with_reducible apply State.setEngWord_kept
    | with_reducible apply State.mark_kept
    | with_reducible apply State.modEngine_kept
    | with_reducible apply State.setDtcmWord_kept
    | with_reducible apply Kept.each
    | split
    | (with_reducible apply Kept.free); split

theorem State.setFirst_kept {q : List Instr} (s : State) (w : Wing) (b : Bool) (h : Kept q s) :
    Kept q (State.setFirst s w b) := by
  unfold State.setFirst
  repeat' first
    | with_reducible assumption
    | exact fun e he => he
    | exact fun e he => ⟨List.length_set.trans he.1, he.2⟩
    | exact fun e he => by simpa [Engine.Shaped] using he
    | exact fun e he => ⟨List.length_replicate, he.2⟩
    | exact fun e he => ⟨he.1, List.length_replicate⟩
    | exact fun e _ => ⟨rfl, rfl⟩
    | intro _
    | with_reducible apply State.modEngine_kept
    | with_reducible apply Kept.each
    | split
    | (with_reducible apply Kept.free); split

theorem execTakeoverRestoreComplete_kept {q : List Instr} (s : State) (h : Kept q s) :
    KeptOut q (execTakeoverRestoreComplete s) := by
  unfold execTakeoverRestoreComplete
  repeat' first
    | with_reducible assumption
    | with_reducible apply KeptOut.next
    | with_reducible apply KeptOut.ite
    | with_reducible exact fun h => h
    | exact fun _ => rfl
    | intro _
    | with_reducible apply State.setFirst_kept
    | with_reducible apply State.restore_kept
    | with_reducible apply Kept.ite
    | fail_if_no_progress with_reducible apply Kept.free
    | fail_if_no_progress (with_reducible refine Kept.updRegs ?_ (fun hk => ?_)) <;> try with_reducible exact hk.regs
    | fail_if_no_progress (with_reducible refine Kept.updDup ?_ (fun hk => DupOk.upd hk.dup ?_ ?_)) <;> try first | with_reducible rfl | with_reducible exact fun h => h
    | fail_if_no_progress (with_reducible refine Kept.updSd ?_ (fun hk => ?_)) <;> try with_reducible exact hk.sd
    | fail_if_no_progress (with_reducible refine Kept.updSatchel ?_ (fun hk => ?_)) <;> try with_reducible exact hk.satchel
    | with_reducible rfl
    | with_reducible refine Kept.votersEq (q := q) ?_ ‹_›
    | with_reducible refine Kept.slotsDEq (q := q) ?_ ‹_›
    | split
    | dsimp only; split

theorem State.takeoverBell_kept {q : List Instr} (s : State) (h : Kept q s) :
    Kept q (State.takeoverBell s) := by
  unfold State.takeoverBell
  repeat' first
    | with_reducible assumption
    | with_reducible exact fun h => h
    | exact fun _ => rfl
    | intro _
    | with_reducible apply State.setWing_kept
    | with_reducible apply Kept.ite
    | fail_if_no_progress with_reducible apply Kept.free
    | fail_if_no_progress (with_reducible refine Kept.updRegs ?_ (fun hk => ?_)) <;> try with_reducible exact hk.regs
    | fail_if_no_progress (with_reducible refine Kept.updDup ?_ (fun hk => DupOk.upd hk.dup ?_ ?_)) <;> try first | with_reducible rfl | with_reducible exact fun h => h
    | fail_if_no_progress (with_reducible refine Kept.updSd ?_ (fun hk => ?_)) <;> try with_reducible exact hk.sd
    | fail_if_no_progress (with_reducible refine Kept.updSatchel ?_ (fun hk => ?_)) <;> try with_reducible exact hk.satchel
    | with_reducible rfl
    | with_reducible refine Kept.votersEq (q := q) ?_ ‹_›
    | with_reducible refine Kept.slotsDEq (q := q) ?_ ‹_›
    | split
    | (with_reducible apply Kept.free); split

theorem State.rearmWrite_kept {q : List Instr} (s : State) (w : Wing) (mask : Nat) (h : Kept q s) :
    Kept q (State.rearmWrite s w mask) := by
  unfold State.rearmWrite
  repeat' first
    | with_reducible assumption
    | with_reducible exact fun h => h
    | exact fun _ => rfl
    | with_reducible exact foldSet_wf _ _ _
    | intro _
    | with_reducible apply State.setFld_kept
    | with_reducible apply State.discarded_kept
    | with_reducible apply Kept.whenIf
    | with_reducible apply Kept.foldl
    | with_reducible apply Kept.ite
    | fail_if_no_progress with_reducible apply Kept.free
    | fail_if_no_progress (with_reducible refine Kept.updRegs ?_ (fun hk => ?_)) <;> try with_reducible exact hk.regs
    | fail_if_no_progress (with_reducible refine Kept.updDup ?_ (fun hk => DupOk.upd hk.dup ?_ ?_)) <;> try first | with_reducible rfl | with_reducible exact fun h => h
    | fail_if_no_progress (with_reducible refine Kept.updSd ?_ (fun hk => ?_)) <;> try with_reducible exact hk.sd
    | fail_if_no_progress (with_reducible refine Kept.updSatchel ?_ (fun hk => ?_)) <;> try with_reducible exact hk.satchel
    | with_reducible rfl
    | with_reducible exact length_foldl_set (fun x => x) _ _
    | with_reducible refine Kept.votersEq (q := q) ?_ ‹_›
    | with_reducible refine Kept.slotsDEq (q := q) ?_ ‹_›
    | split
    | (with_reducible apply Kept.free); split

theorem execHpRearmWrite_kept {q : List Instr} (core : Nat) (mask : Nat) (s : State) (h : Kept q s) :
    KeptOut q (execHpRearmWrite core mask s) := by
  unfold execHpRearmWrite
  repeat' first
    | with_reducible assumption
    | with_reducible apply KeptOut.next
    | intro _
    | with_reducible apply State.accessBlk_kept
    | with_reducible apply State.rearmWrite_kept
    | split
    | dsimp only; split

theorem State.handoverBell_kept {q : List Instr} (s : State) (h : Kept q s) :
    Kept q (State.handoverBell s) := by
  unfold State.handoverBell
  repeat' first
    | with_reducible assumption
    | with_reducible exact fun h => h
    | exact fun _ => rfl
    | intro _
    | with_reducible apply State.checkHandover_kept
    | with_reducible apply State.snapshotBell_kept
    | with_reducible apply State.settlePads_kept
    | with_reducible apply State.setWing_kept
    | with_reducible apply Kept.ite
    | fail_if_no_progress with_reducible apply Kept.free
    | fail_if_no_progress (with_reducible refine Kept.updRegs ?_ (fun hk => ?_)) <;> try with_reducible exact hk.regs
    | fail_if_no_progress (with_reducible refine Kept.updDup ?_ (fun hk => DupOk.upd hk.dup ?_ ?_)) <;> try first | with_reducible rfl | with_reducible exact fun h => h
    | fail_if_no_progress (with_reducible refine Kept.updSd ?_ (fun hk => ?_)) <;> try with_reducible exact hk.sd
    | fail_if_no_progress (with_reducible refine Kept.updSatchel ?_ (fun hk => ?_)) <;> try with_reducible exact hk.satchel
    | with_reducible rfl
    | with_reducible refine Kept.votersEq (q := q) ?_ ‹_›
    | with_reducible refine Kept.slotsDEq (q := q) ?_ ‹_›
    | split
    | (with_reducible apply Kept.free); split

theorem execHandoverCopyComplete_kept {q : List Instr} (s : State) (h : Kept q s) :
    KeptOut q (execHandoverCopyComplete s) := by
  unfold execHandoverCopyComplete
  repeat' first
    | with_reducible assumption
    | with_reducible apply KeptOut.next
    | intro _
    | with_reducible apply State.setFirst_kept
    | with_reducible apply State.restore_kept
    | with_reducible apply State.grant_kept
    | with_reducible apply State.setLease_kept
    | with_reducible apply State.setPass_kept
    | with_reducible apply State.cancelHandover_kept
    | with_reducible apply State.setWing_kept
    | with_reducible apply State.dupEvent_kept
    | with_reducible apply State.count_kept
    | with_reducible apply State.settlePads_kept
    | with_reducible apply State.enginesDue_kept
    | split
    | dsimp only; split

end Sys2Proof.Machine
end

