-- ==== Sys2Proof/Laws/KeptSync.lean ====
section
/-!
SUPPORT. What every operation of Machine/Sync.lean keeps (Laws/Kept.lean).
-/
namespace Sys2Proof.Machine

set_option linter.unusedTactic false
set_option linter.unreachableTactic false

theorem State.freeR_kept {q : List Instr} (s : State) (h : Kept q s) :
    Kept q (State.freeR s).2 := by
  unfold State.freeR
  repeat' first
    | with_reducible assumption
    | intro _
    | with_reducible apply State.fresh_kept
    | (with_reducible refine Kept.snd ?_ (by assumption)); with_reducible apply State.fresh_kept
    | dsimp only
    | split
    | (with_reducible apply Kept.free); split

theorem State.shipDuty_kept {q : List Instr} (s : State) (n : Nat) (m : Nat) (d : Fp) (h : Kept q s) :
    Kept q (State.shipDuty s n m d) := by
  unfold State.shipDuty
  repeat' first
    | with_reducible assumption
    | intro _
    | with_reducible apply State.stage_kept
    | with_reducible apply Kept.ite
    | split
    | (with_reducible apply Kept.free); split

theorem State.shipEvt_kept {q : List Instr} (s : State) (n : Nat) (code : Nat) (value : Option Nat) (fault : optParam Bool
    false) (h : Kept q s) :
    Kept q (State.shipEvt s n code value fault) := by
  unfold State.shipEvt
  repeat' first
    | with_reducible assumption
    | exact fun e he => he
    | exact fun e he => ⟨List.length_set.trans he.1, he.2⟩
    | exact fun e he => by simpa [Engine.Shaped] using he
    | exact fun e he => ⟨List.length_replicate, he.2⟩
    | exact fun e he => ⟨he.1, List.length_replicate⟩
    | exact fun e _ => ⟨rfl, rfl⟩
    | intro _
    | with_reducible apply State.fresh_kept
    | (with_reducible refine Kept.snd ?_ (by assumption)); with_reducible apply State.fresh_kept
    | with_reducible apply State.modEngine_kept
    | with_reducible apply Kept.ite
    | split
    | (with_reducible apply Kept.free); split

end Sys2Proof.Machine
end

