-- ==== Sys2Proof/Laws/KeptGrid.lean ====
section
/-!
SUPPORT. What every operation of Machine/Grid.lean keeps (Laws/Kept.lean).
-/
namespace Sys2Proof.Machine

set_option linter.unusedTactic false
set_option linter.unreachableTactic false

theorem State.gridEvents_kept {q : List Instr} (s : State) (n : Nat) (was : GridSt) (g : GridSt) (u1 : Fp) (uLv : Fp) (uHv
    : Fp) (h : Kept q s) :
    Kept q (State.gridEvents s n was g u1 uLv uHv) := by
  unfold State.gridEvents
  repeat' first
    | with_reducible assumption
    | intro _
    | with_reducible apply State.shipEvt_kept
    | with_reducible apply Kept.whenIf
    | with_reducible apply Kept.ite
    | split
    | (with_reducible apply Kept.free); split

theorem State.gridRun_kept {q : List Instr} (s : State) (n : Nat) (h : Kept q s) :
    Kept q (State.gridRun s n) := by
  unfold State.gridRun
  repeat' first
    | with_reducible assumption
    | with_reducible exact fun h => h
    | exact fun _ => rfl
    | intro _
    | with_reducible apply State.gridEvents_kept
    | with_reducible apply State.shipDuty_kept
    | with_reducible apply Kept.each
    | with_reducible apply Kept.ite
    | fail_if_no_progress with_reducible apply Kept.free
    | fail_if_no_progress (with_reducible refine Kept.updRegs ?_ (fun hk => ?_)) <;> try with_reducible exact hk.regs
    | fail_if_no_progress (with_reducible refine Kept.updSd ?_ (fun hk => ?_)) <;> try with_reducible exact hk.sd
    | fail_if_no_progress (with_reducible refine Kept.updSatchel ?_ (fun hk => ?_)) <;> try with_reducible exact hk.satchel
    | with_reducible rfl
    | with_reducible exact List.length_map _
    | split
    | (with_reducible apply Kept.free); split

end Sys2Proof.Machine
end

