-- ==== Sys2Proof/Laws/KeptIslanding.lean ====
section
/-!
SUPPORT. What every operation of Machine/Islanding.lean keeps (Laws/Kept.lean).
-/
namespace Sys2Proof.Machine

set_option linter.unusedTactic false
set_option linter.unreachableTactic false

theorem State.islEvents_kept {q : List Instr} (s : State) (n : Nat) (was : IslSt) (p : IslSt) (h : Kept q s) :
    Kept q (State.islEvents s n was p) := by
  unfold State.islEvents
  repeat' first
    | with_reducible assumption
    | intro _
    | with_reducible apply State.shipEvt_kept
    | with_reducible apply Kept.whenIf
    | split
    | (with_reducible apply Kept.free); split

theorem State.islRun_kept {q : List Instr} (s : State) (n : Nat) (h : Kept q s) :
    Kept q (State.islRun s n) := by
  unfold State.islRun
  repeat' first
    | with_reducible assumption
    | with_reducible exact fun h => h
    | exact fun _ => rfl
    | with_reducible exact SMap.wf_filter _
    | intro _
    | with_reducible apply State.islEvents_kept
    | with_reducible apply State.shipEvt_kept
    | with_reducible apply Kept.ite
    | fail_if_no_progress with_reducible apply Kept.free
    | fail_if_no_progress (with_reducible refine Kept.updRegs ?_ (fun hk => ?_)) <;> try with_reducible exact hk.regs
    | fail_if_no_progress (with_reducible refine Kept.updSd ?_ (fun hk => ?_)) <;> try with_reducible exact hk.sd
    | fail_if_no_progress (with_reducible refine Kept.updSatchel ?_ (fun hk => ?_)) <;> try with_reducible exact hk.satchel
    | with_reducible rfl
    | with_reducible exact List.length_map _
    | split
    | (with_reducible apply Kept.free); split

end Sys2Proof.Machine
end

