-- ==== Sys2Proof/Laws/KeptMppt.lean ====
section
/-!
SUPPORT. What every operation of Machine/Mppt.lean keeps (Laws/Kept.lean).
-/
namespace Sys2Proof.Machine

set_option linter.unusedTactic false
set_option linter.unreachableTactic false

theorem State.trackerStart_kept {q : List Instr} (s : State) (t : Tracker) (v : Fp) (h : Kept q s) :
    Kept q (State.trackerStart s t v).2 := by
  unfold State.trackerStart
  repeat' first
    | with_reducible assumption
    | intro _
    | with_reducible apply State.freeR_kept
    | (with_reducible refine Kept.snd ?_ (by assumption)); with_reducible apply State.freeR_kept
    | with_reducible apply State.fresh_kept
    | (with_reducible refine Kept.snd ?_ (by assumption)); with_reducible apply State.fresh_kept
    | with_reducible apply Kept.foldl
    | with_reducible apply Kept.ite
    | with_reducible apply Kept.iteSnd
    | dsimp only
    | split
    | (with_reducible apply Kept.free); split

theorem State.tracePoint_kept {q : List Instr} (s : State) (n : Nat) (c : Trace) (h : Kept q s) :
    Kept q (State.tracePoint s n c).2 := by
  unfold State.tracePoint
  repeat' first
    | with_reducible assumption
    | intro _
    | with_reducible apply State.shipEvt_kept
    | with_reducible apply Kept.ite
    | with_reducible apply Kept.iteSnd
    | dsimp only
    | split
    | (with_reducible apply Kept.free); split

theorem State.setTrace_kept {q : List Instr} (s : State) (c : Option Trace) (h : Kept q s) :
    Kept q (State.setTrace s c) := by
  unfold State.setTrace
  repeat' first
    | with_reducible assumption
    | with_reducible exact fun h => h
    | exact fun _ => rfl
    | intro _
    | fail_if_no_progress with_reducible apply Kept.free
    | fail_if_no_progress (with_reducible refine Kept.updRegs ?_ (fun hk => ?_)) <;> try with_reducible exact hk.regs
    | fail_if_no_progress (with_reducible refine Kept.updSd ?_ (fun hk => ?_)) <;> try with_reducible exact hk.sd
    | fail_if_no_progress (with_reducible refine Kept.updSatchel ?_ (fun hk => ?_)) <;> try with_reducible exact hk.satchel
    | with_reducible rfl
    | split
    | (with_reducible apply Kept.free); split

theorem State.traceRun_kept {q : List Instr} (s : State) (n : Nat) (c : Trace) (t : Tracker) (v : Fp) (cur : Fp) (vdc : Fp)
    (h : Kept q s) :
    Kept q (State.traceRun s n c t v cur vdc).2 := by
  unfold State.traceRun
  repeat' first
    | with_reducible assumption
    | intro _
    | with_reducible apply State.shipEvt_kept
    | with_reducible apply State.setTrace_kept
    | with_reducible apply State.tracePoint_kept
    | (with_reducible refine Kept.snd ?_ (by assumption)); with_reducible apply State.tracePoint_kept
    | with_reducible apply Kept.ite
    | with_reducible apply Kept.iteSnd
    | dsimp only
    | split
    | (with_reducible apply Kept.free); split

theorem State.trackerEvents_kept {q : List Instr} (s : State) (n : Nat) (i : Nat) (was : Nat) (now : Nat) (h : Kept q s) :
    Kept q (State.trackerEvents s n i was now) := by
  unfold State.trackerEvents
  repeat' first
    | with_reducible assumption
    | intro _
    | with_reducible apply State.shipEvt_kept
    | with_reducible apply Kept.whenIf
    | split
    | (with_reducible apply Kept.free); split

theorem State.putTracker_kept {q : List Instr} (s : State) (i : Nat) (t : Tracker) (h : Kept q s) :
    Kept q (State.putTracker s i t) := by
  unfold State.putTracker
  repeat' first
    | with_reducible assumption
    | with_reducible exact fun h => h
    | exact fun _ => rfl
    | intro _
    | fail_if_no_progress with_reducible apply Kept.free
    | fail_if_no_progress (with_reducible refine Kept.updRegs ?_ (fun hk => ?_)) <;> try with_reducible exact hk.regs
    | fail_if_no_progress (with_reducible refine Kept.updSd ?_ (fun hk => ?_)) <;> try with_reducible exact hk.sd
    | fail_if_no_progress (with_reducible refine Kept.updSatchel ?_ (fun hk => ?_)) <;> try with_reducible exact hk.satchel
    | with_reducible rfl
    | with_reducible exact List.length_set
    | with_reducible exact List.length_set.trans List.length_set
    | exact List.length_set
    | split
    | (with_reducible apply Kept.free); split

theorem State.trackerMove_kept {q : List Instr} (s : State) (n : Nat) (i : Nat) (t : Tracker) (v : Fp) (cur : Fp) (vdc :
    Fp) (h : Kept q s) :
    Kept q (State.trackerMove s n i t v cur vdc).2 := by
  unfold State.trackerMove
  repeat' first
    | with_reducible assumption
    | intro _
    | with_reducible apply State.trackerStart_kept
    | (with_reducible refine Kept.snd ?_ (by assumption)); with_reducible apply State.trackerStart_kept
    | with_reducible apply State.trackerEvents_kept
    | with_reducible apply State.traceRun_kept
    | (with_reducible refine Kept.snd ?_ (by assumption)); with_reducible apply State.traceRun_kept
    | with_reducible apply Kept.ite
    | with_reducible apply Kept.iteSnd
    | dsimp only
    | split
    | (with_reducible apply Kept.free); split

theorem State.trackerRun_kept {q : List Instr} (s : State) (n : Nat) (i : Nat) (h : Kept q s) :
    Kept q (State.trackerRun s n i) := by
  unfold State.trackerRun
  repeat' first
    | with_reducible assumption
    | intro _
    | with_reducible apply State.trackerMove_kept
    | (with_reducible refine Kept.snd ?_ (by assumption)); with_reducible apply State.trackerMove_kept
    | with_reducible apply State.putTracker_kept
    | with_reducible apply State.shipDuty_kept
    | split
    | (with_reducible apply Kept.free); split

theorem State.traceStart_kept {q : List Instr} (s : State) (n : Nat) (h : Kept q s) :
    Kept q (State.traceStart s n) := by
  unfold State.traceStart
  repeat' first
    | with_reducible assumption
    | with_reducible exact fun h => h
    | exact fun _ => rfl
    | intro _
    | with_reducible apply State.shipEvt_kept
    | with_reducible apply Kept.ite
    | fail_if_no_progress with_reducible apply Kept.free
    | fail_if_no_progress (with_reducible refine Kept.updRegs ?_ (fun hk => ?_)) <;> try with_reducible exact hk.regs
    | fail_if_no_progress (with_reducible refine Kept.updSd ?_ (fun hk => ?_)) <;> try with_reducible exact hk.sd
    | fail_if_no_progress (with_reducible refine Kept.updSatchel ?_ (fun hk => ?_)) <;> try with_reducible exact hk.satchel
    | with_reducible rfl
    | with_reducible exact List.length_set
    | with_reducible exact List.length_set.trans List.length_set
    | exact List.length_set
    | split
    | (with_reducible apply Kept.free); split

theorem State.mpptRun_kept {q : List Instr} (s : State) (n : Nat) (h : Kept q s) :
    Kept q (State.mpptRun s n) := by
  unfold State.mpptRun
  repeat' first
    | with_reducible assumption
    | intro _
    | with_reducible apply State.traceStart_kept
    | with_reducible apply State.trackerRun_kept
    | with_reducible apply Kept.each
    | split
    | (with_reducible apply Kept.free); split

end Sys2Proof.Machine
end

