-- ==== Sys2Proof/Laws/KeptShipped.lean ====
section
/-!
SUPPORT. What every operation of Machine/Shipped.lean keeps (Laws/Kept.lean).
-/
namespace Sys2Proof.Machine

set_option linter.unusedTactic false
set_option linter.unreachableTactic false

theorem State.shippedRun_kept {q : List Instr} (s : State) (n : Nat) (h : Kept q s) :
    Kept q (State.shippedRun s n) := by
  unfold State.shippedRun
  repeat' first
    | with_reducible assumption
    | intro _
    | with_reducible apply State.gridRun_kept
    | with_reducible apply State.islRun_kept
    | with_reducible apply State.mpptRun_kept
    | with_reducible apply Kept.whenIf
    | split
    | (with_reducible apply Kept.free); split

theorem State.rwVar_kept {q : List Instr} (s : State) (idx : Nat) (sub : Nat) (v : Nat) (h : Kept q s) :
    Kept q (State.rwVar s idx sub v) := by
  unfold State.rwVar
  repeat' first
    | with_reducible assumption
    | with_reducible exact fun h => h
    | exact fun _ => rfl
    | intro _
    | with_reducible apply State.setVar_kept
    | with_reducible apply Kept.ite
    | fail_if_no_progress with_reducible apply Kept.free
    | fail_if_no_progress (with_reducible refine Kept.updRegs ?_ (fun hk => ?_)) <;> try with_reducible exact hk.regs
    | fail_if_no_progress (with_reducible refine Kept.updSd ?_ (fun hk => ?_)) <;> try with_reducible exact hk.sd
    | fail_if_no_progress (with_reducible refine Kept.updSatchel ?_ (fun hk => ?_)) <;> try with_reducible exact hk.satchel
    | with_reducible rfl
    | split
    | (with_reducible apply Kept.free); split

theorem State.gridCommand_kept {q : List Instr} (s : State) (v : Nat) (h : Kept q s) :
    Kept q (State.gridCommand s v) := by
  unfold State.gridCommand
  repeat' first
    | with_reducible assumption
    | with_reducible exact fun h => h
    | exact fun _ => rfl
    | intro _
    | with_reducible apply State.answer_kept
    | with_reducible apply State.setVar_kept
    | with_reducible apply Kept.ite
    | fail_if_no_progress with_reducible apply Kept.free
    | fail_if_no_progress (with_reducible refine Kept.updRegs ?_ (fun hk => ?_)) <;> try with_reducible exact hk.regs
    | fail_if_no_progress (with_reducible refine Kept.updSd ?_ (fun hk => ?_)) <;> try with_reducible exact hk.sd
    | fail_if_no_progress (with_reducible refine Kept.updSatchel ?_ (fun hk => ?_)) <;> try with_reducible exact hk.satchel
    | with_reducible rfl
    | split
    | (with_reducible apply Kept.free); split

theorem execGridCommandSync_kept {q : List Instr} (s : State) (h : Kept q s) :
    KeptOut q (execGridCommandSync s) := by
  unfold execGridCommandSync
  repeat' first
    | with_reducible assumption
    | with_reducible apply KeptOut.next
    | intro _
    | with_reducible apply State.gridCommand_kept
    | split
    | dsimp only; split

theorem execGridCommandRun_kept {q : List Instr} (s : State) (h : Kept q s) :
    KeptOut q (execGridCommandRun s) := by
  unfold execGridCommandRun
  repeat' first
    | with_reducible assumption
    | with_reducible apply KeptOut.next
    | intro _
    | with_reducible apply State.gridCommand_kept
    | split
    | dsimp only; split

theorem execGridCommandClearTrip_kept {q : List Instr} (s : State) (h : Kept q s) :
    KeptOut q (execGridCommandClearTrip s) := by
  unfold execGridCommandClearTrip
  repeat' first
    | with_reducible assumption
    | with_reducible apply KeptOut.next
    | intro _
    | with_reducible apply State.gridCommand_kept
    | split
    | dsimp only; split

theorem State.islCommand_kept {q : List Instr} (s : State) (v : Nat) (h : Kept q s) :
    Kept q (State.islCommand s v) := by
  unfold State.islCommand
  repeat' first
    | with_reducible assumption
    | with_reducible exact fun h => h
    | exact fun _ => rfl
    | intro _
    | with_reducible apply State.answer_kept
    | with_reducible apply State.setVar_kept
    | with_reducible apply Kept.ite
    | fail_if_no_progress with_reducible apply Kept.free
    | fail_if_no_progress (with_reducible refine Kept.updRegs ?_ (fun hk => ?_)) <;> try with_reducible exact hk.regs
    | fail_if_no_progress (with_reducible refine Kept.updSd ?_ (fun hk => ?_)) <;> try with_reducible exact hk.sd
    | fail_if_no_progress (with_reducible refine Kept.updSatchel ?_ (fun hk => ?_)) <;> try with_reducible exact hk.satchel
    | with_reducible rfl
    | split
    | (with_reducible apply Kept.free); split

theorem execIslandingDisarm_kept {q : List Instr} (s : State) (h : Kept q s) :
    KeptOut q (execIslandingDisarm s) := by
  unfold execIslandingDisarm
  repeat' first
    | with_reducible assumption
    | with_reducible apply KeptOut.next
    | intro _
    | with_reducible apply State.islCommand_kept
    | split
    | dsimp only; split

theorem execIslandingArm_kept {q : List Instr} (s : State) (h : Kept q s) :
    KeptOut q (execIslandingArm s) := by
  unfold execIslandingArm
  repeat' first
    | with_reducible assumption
    | with_reducible apply KeptOut.next
    | intro _
    | with_reducible apply State.islCommand_kept
    | split
    | dsimp only; split

theorem execIslandingClearTrip_kept {q : List Instr} (s : State) (h : Kept q s) :
    KeptOut q (execIslandingClearTrip s) := by
  unfold execIslandingClearTrip
  repeat' first
    | with_reducible assumption
    | with_reducible apply KeptOut.next
    | intro _
    | with_reducible apply State.islCommand_kept
    | split
    | dsimp only; split

theorem State.traceRequest_kept {q : List Instr} (s : State) (input : Nat) (h : Kept q s) :
    Kept q (State.traceRequest s input) := by
  unfold State.traceRequest
  repeat' first
    | with_reducible assumption
    | with_reducible exact fun h => h
    | exact fun _ => rfl
    | intro _
    | with_reducible apply State.answer_kept
    | with_reducible apply Kept.ite
    | fail_if_no_progress with_reducible apply Kept.free
    | fail_if_no_progress (with_reducible refine Kept.updRegs ?_ (fun hk => ?_)) <;> try with_reducible exact hk.regs
    | fail_if_no_progress (with_reducible refine Kept.updSd ?_ (fun hk => ?_)) <;> try with_reducible exact hk.sd
    | fail_if_no_progress (with_reducible refine Kept.updSatchel ?_ (fun hk => ?_)) <;> try with_reducible exact hk.satchel
    | with_reducible rfl
    | split
    | (with_reducible apply Kept.free); split

theorem execMpptTraceRequest_kept {q : List Instr} (input : Nat) (s : State) (h : Kept q s) :
    KeptOut q (execMpptTraceRequest input s) := by
  unfold execMpptTraceRequest
  repeat' first
    | with_reducible assumption
    | with_reducible apply KeptOut.next
    | intro _
    | with_reducible apply State.traceRequest_kept
    | split
    | dsimp only; split

theorem State.gridApplied_kept {q : List Instr} (s : State) (h : Kept q s) :
    Kept q (State.gridApplied s) := by
  unfold State.gridApplied
  repeat' first
    | with_reducible assumption
    | with_reducible exact fun h => h
    | exact fun _ => rfl
    | intro _
    | fail_if_no_progress with_reducible apply Kept.free
    | fail_if_no_progress (with_reducible refine Kept.updRegs ?_ (fun hk => ?_)) <;> try with_reducible exact hk.regs
    | fail_if_no_progress (with_reducible refine Kept.updSd ?_ (fun hk => ?_)) <;> try with_reducible exact hk.sd
    | fail_if_no_progress (with_reducible refine Kept.updSatchel ?_ (fun hk => ?_)) <;> try with_reducible exact hk.satchel
    | with_reducible rfl
    | split
    | (with_reducible apply Kept.free); split

theorem State.islApplied_kept {q : List Instr} (s : State) (h : Kept q s) :
    Kept q (State.islApplied s) := by
  unfold State.islApplied
  repeat' first
    | with_reducible assumption
    | with_reducible exact fun h => h
    | exact fun _ => rfl
    | intro _
    | fail_if_no_progress with_reducible apply Kept.free
    | fail_if_no_progress (with_reducible refine Kept.updRegs ?_ (fun hk => ?_)) <;> try with_reducible exact hk.regs
    | fail_if_no_progress (with_reducible refine Kept.updSd ?_ (fun hk => ?_)) <;> try with_reducible exact hk.sd
    | fail_if_no_progress (with_reducible refine Kept.updSatchel ?_ (fun hk => ?_)) <;> try with_reducible exact hk.satchel
    | with_reducible rfl
    | split
    | (with_reducible apply Kept.free); split

theorem State.mpptApplied_kept {q : List Instr} (s : State) (was : Nat) (h : Kept q s) :
    Kept q (State.mpptApplied s was) := by
  unfold State.mpptApplied
  repeat' first
    | with_reducible assumption
    | with_reducible exact fun h => h
    | exact fun _ => rfl
    | intro _
    | with_reducible apply Kept.ite
    | fail_if_no_progress with_reducible apply Kept.free
    | fail_if_no_progress (with_reducible refine Kept.updRegs ?_ (fun hk => ?_)) <;> try with_reducible exact hk.regs
    | fail_if_no_progress (with_reducible refine Kept.updSd ?_ (fun hk => ?_)) <;> try with_reducible exact hk.sd
    | fail_if_no_progress (with_reducible refine Kept.updSatchel ?_ (fun hk => ?_)) <;> try with_reducible exact hk.satchel
    | with_reducible rfl
    | with_reducible exact List.length_map _
    | split
    | (with_reducible apply Kept.free); split

theorem State.gridSync_kept {q : List Instr} (s : State) (h : Kept q s) :
    Kept q (State.gridSync s) := by
  unfold State.gridSync
  repeat' first
    | with_reducible assumption
    | with_reducible exact fun h => h
    | exact fun _ => rfl
    | intro _
    | fail_if_no_progress with_reducible apply Kept.free
    | fail_if_no_progress (with_reducible refine Kept.updRegs ?_ (fun hk => ?_)) <;> try with_reducible exact hk.regs
    | fail_if_no_progress (with_reducible refine Kept.updSd ?_ (fun hk => ?_)) <;> try with_reducible exact hk.sd
    | fail_if_no_progress (with_reducible refine Kept.updSatchel ?_ (fun hk => ?_)) <;> try with_reducible exact hk.satchel
    | with_reducible rfl
    | split
    | (with_reducible apply Kept.free); split

theorem State.endEvents_kept {q : List Instr} (s : State) (n : Nat) (e : Engine) (h : Kept q s) :
    Kept q (State.endEvents s n e) := by
  unfold State.endEvents
  repeat' first
    | with_reducible assumption
    | intro _
    | with_reducible apply State.engEvent_kept
    | with_reducible apply State.runEntry_kept
    | with_reducible apply State.faultReport_kept
    | with_reducible apply Kept.whenIf
    | with_reducible apply Kept.each
    | split
    | (with_reducible apply Kept.free); split

theorem execEndRun_kept {q : List Instr} (n : Nat) (s : State) (h : Kept q s) :
    KeptOut q (execEndRun n s) := by
  unfold execEndRun
  repeat' first
    | with_reducible assumption
    | with_reducible apply KeptOut.next
    | with_reducible apply KeptOut.ite
    | exact fun e he => he
    | exact fun e he => ⟨List.length_set.trans he.1, he.2⟩
    | exact fun e he => by simpa [Engine.Shaped] using he
    | exact fun e he => ⟨List.length_replicate, he.2⟩
    | exact fun e he => ⟨he.1, List.length_replicate⟩
    | exact fun e _ => ⟨rfl, rfl⟩
    | intro _
    | with_reducible apply State.shippedRun_kept
    | with_reducible apply State.markStaged_kept
    | with_reducible apply State.setFld_kept
    | with_reducible apply State.endEvents_kept
    | with_reducible apply State.modEngine_kept
    | with_reducible apply State.settleEntering_kept
    | with_reducible apply State.settleHeld_kept
    | with_reducible apply Kept.ite
    | split
    | dsimp only; split

end Sys2Proof.Machine
end

