-- ==== Sys2Proof/Laws/KeptBursar.lean ====
section
/-!
SUPPORT. What every operation of Machine/Bursar.lean keeps (Laws/Kept.lean).
-/
namespace Sys2Proof.Machine

set_option linter.unusedTactic false
set_option linter.unreachableTactic false

theorem execBursarPair_kept {q : List Instr} (q_0 : Nat) (x : Nat) (s : State) (h : Kept q s) :
    KeptOut q (execBursarPair q_0 x s) := by
  unfold execBursarPair
  repeat' first
    | with_reducible assumption
    | with_reducible apply KeptOut.next
    | with_reducible apply KeptOut.ite
    | with_reducible exact fun h => h
    | exact fun _ => rfl
    | intro _
    | with_reducible apply State.modPhase_kept
    | with_reducible apply Kept.ite
    | fail_if_no_progress with_reducible apply Kept.free
    | fail_if_no_progress (with_reducible refine Kept.updRegs ?_ (fun hk => ?_)) <;> try with_reducible exact hk.regs
    | fail_if_no_progress (with_reducible refine Kept.updSd ?_ (fun hk => ?_)) <;> try with_reducible exact hk.sd
    | fail_if_no_progress (with_reducible refine Kept.updBur ?_ (fun hk => BurOk.upd hk.bur ?_ ?_)) <;> try first | with_reducible rfl | with_reducible exact fun h => h
    | fail_if_no_progress (with_reducible refine Kept.updSatchel ?_ (fun hk => ?_)) <;> try with_reducible exact hk.satchel
    | with_reducible rfl
    | with_reducible exact modAt_length _ _ _ _
    | exact modAt_length _ _ _ _
    | with_reducible refine Kept.pointsEq (q := q) ?_ ‹_›
    | with_reducible refine Kept.accsEq (q := q) ?_ ‹_›
    | exact hk.bur.1.symm
    | exact hk.bur.2.symm
    | exact ((List.length_map _).trans List.length_range).trans hk.bur.2.symm
    | split
    | dsimp only; split

theorem State.increment_kept {q : List Instr} (s : State) (x : Fp) (h : Kept q s) :
    Kept q (State.increment s x).2 := by
  unfold State.increment
  repeat' first
    | with_reducible assumption
    | intro _
    | with_reducible apply State.fresh_kept
    | (with_reducible refine Kept.snd ?_ (by assumption)); with_reducible apply State.fresh_kept
    | with_reducible apply Kept.ite
    | with_reducible apply Kept.iteSnd
    | dsimp only
    | split
    | (with_reducible apply Kept.free); split

theorem State.accumulate_kept {q : List Instr} (s : State) (l : List Nat) (a : Nat) (x : Fp) (h : Kept q s) :
    Kept q (State.accumulate s l a x).2 := by
  unfold State.accumulate
  repeat' first
    | with_reducible assumption
    | intro _
    | with_reducible apply State.increment_kept
    | (with_reducible refine Kept.snd ?_ (by assumption)); with_reducible apply State.increment_kept
    | dsimp only
    | split
    | (with_reducible apply Kept.free); split

theorem State.accumulateSet_kept {q : List Instr} (s : State) (l : List Nat) (base : Nat) (pt : Fp) (qt : Fp) (st : Fp) (p
    : Fp) (q_7 : Fp) (h : Kept q s) :
    Kept q (State.accumulateSet s l base pt qt st p q_7).2 := by
  unfold State.accumulateSet
  repeat' first
    | with_reducible assumption
    | intro _
    | with_reducible apply State.accumulate_kept
    | (with_reducible refine Kept.snd ?_ (by assumption)); with_reducible apply State.accumulate_kept
    | dsimp only
    | split
    | (with_reducible apply Kept.free); split

theorem State.publish_kept {q : List Instr} (s : State) (q_1 : Nat) (l : List Fp) (h : Kept q s) :
    Kept q (State.publish s q_1 l) := by
  unfold State.publish
  repeat' first
    | with_reducible assumption
    | intro _
    | with_reducible apply State.setFld_kept
    | with_reducible apply Kept.each
    | split
    | (with_reducible apply Kept.free); split

theorem State.closeDc_kept {q : List Instr} (s : State) (q_1 : Nat) (ph : List PhaseSums) (tt : Fp) (acc : List Nat) (h :
    Kept q s) :
    Kept q (State.closeDc s q_1 ph tt acc).2 := by
  unfold State.closeDc
  repeat' first
    | with_reducible assumption
    | intro _
    | with_reducible apply State.accumulate_kept
    | (with_reducible refine Kept.snd ?_ (by assumption)); with_reducible apply State.accumulate_kept
    | with_reducible apply State.publish_kept
    | with_reducible apply Kept.ite
    | with_reducible apply Kept.iteSnd
    | dsimp only
    | split
    | (with_reducible apply Kept.free); split

theorem State.closeAc_kept {q : List Instr} (s : State) (q_1 : Nat) (ph : List PhaseSums) (tt : Fp) (acc : List Nat) (h :
    Kept q s) :
    Kept q (State.closeAc s q_1 ph tt acc).2 := by
  unfold State.closeAc
  repeat' first
    | with_reducible assumption
    | intro _
    | with_reducible apply State.accumulateSet_kept
    | (with_reducible refine Kept.snd ?_ (by assumption)); with_reducible apply State.accumulateSet_kept
    | with_reducible apply State.publish_kept
    | with_reducible apply Kept.ite
    | with_reducible apply Kept.iteSnd
    | dsimp only
    | split
    | (with_reducible apply Kept.free); split

theorem State.closeSums_kept {q : List Instr} (s : State) (q_1 : Nat) (ph : List PhaseSums) (tt : Fp) (acc : List Nat) (h :
    Kept q s) :
    Kept q (State.closeSums s q_1 ph tt acc).2 := by
  unfold State.closeSums
  repeat' first
    | with_reducible assumption
    | intro _
    | with_reducible apply State.closeDc_kept
    | (with_reducible refine Kept.snd ?_ (by assumption)); with_reducible apply State.closeDc_kept
    | with_reducible apply State.closeAc_kept
    | (with_reducible refine Kept.snd ?_ (by assumption)); with_reducible apply State.closeAc_kept
    | with_reducible apply Kept.ite
    | with_reducible apply Kept.iteSnd
    | dsimp only
    | split
    | (with_reducible apply Kept.free); split

theorem State.closeCycle_kept {q : List Instr} (s : State) (q_1 : Nat) (len : Nat) (h : Kept q s) :
    Kept q (State.closeCycle s q_1 len) := by
  unfold State.closeCycle
  repeat' first
    | with_reducible assumption
    | with_reducible exact fun h => h
    | exact fun _ => rfl
    | with_reducible refine Kept.sramWf (q := q) ?_
    | intro _
    | with_reducible apply State.modPhase_kept
    | with_reducible apply State.closeSums_kept
    | (with_reducible refine Kept.snd ?_ (by assumption)); with_reducible apply State.closeSums_kept
    | with_reducible apply Kept.each
    | fail_if_no_progress with_reducible apply Kept.free
    | fail_if_no_progress (with_reducible refine Kept.updRegs ?_ (fun hk => ?_)) <;> try with_reducible exact hk.regs
    | fail_if_no_progress (with_reducible refine Kept.updSd ?_ (fun hk => ?_)) <;> try with_reducible exact hk.sd
    | fail_if_no_progress (with_reducible refine Kept.updBur ?_ (fun hk => BurOk.upd hk.bur ?_ ?_)) <;> try first | with_reducible rfl | with_reducible exact fun h => h
    | fail_if_no_progress (with_reducible refine Kept.updSatchel ?_ (fun hk => ?_)) <;> try with_reducible exact hk.satchel
    | fail_if_no_progress (with_reducible refine Kept.updCt ?_ (fun hk => CtOk.upd hk.ct ?_)) <;> try first | with_reducible rfl | with_reducible exact fun h => h
    | fail_if_no_progress (with_reducible refine Kept.updBurCt ?_ (fun hk => BurOk.upd hk.bur ?_ ?_) (fun hk => CtOk.upd hk.ct ?_)) <;> try first | with_reducible rfl | with_reducible exact fun h => h
    | with_reducible rfl
    | with_reducible exact List.length_map _
    | with_reducible exact modAt_length _ _ _ _
    | exact modAt_length _ _ _ _
    | with_reducible refine Kept.pointsEq (q := q) ?_ ‹_›
    | with_reducible refine Kept.accsEq (q := q) ?_ ‹_›
    | exact hk.bur.1.symm
    | exact hk.bur.2.symm
    | exact ((List.length_map _).trans List.length_range).trans hk.bur.2.symm
    | split
    | (with_reducible apply Kept.free); split

theorem execMeteringCycleEnd_kept {q : List Instr} (q_0 : Nat) (len : Nat) (s : State) (h : Kept q s) :
    KeptOut q (execMeteringCycleEnd q_0 len s) := by
  unfold execMeteringCycleEnd
  repeat' first
    | with_reducible assumption
    | with_reducible apply KeptOut.next
    | with_reducible apply KeptOut.ite
    | intro _
    | with_reducible apply State.modPhase_kept
    | with_reducible apply State.modPoint_kept
    | with_reducible apply State.closeCycle_kept
    | with_reducible apply Kept.each
    | with_reducible apply Kept.ite
    | split
    | dsimp only; split

theorem State.judge_kept {q : List Instr} (s : State) (q_1 : Nat) (code : Nat) (ev : Option BurEvent) (starts : Bool) (ends
    : Bool) (phases : Nat) (now : Nat) (worse : Nat → Nat → Nat) (h : Kept q s) :
    Kept q (State.judge s q_1 code ev starts ends phases now worse).1 := by
  unfold State.judge
  repeat' first
    | with_reducible assumption
    | intro _
    | with_reducible apply State.burEvent_kept
    | with_reducible apply State.libRecord_kept
    | with_reducible apply Kept.ite
    | with_reducible apply Kept.iteFst
    | dsimp only
    | split
    | (with_reducible apply Kept.free); split

theorem execHalfCycleBoundary_kept {q : List Instr} (q_0 : Nat) (s : State) (h : Kept q s) :
    KeptOut q (execHalfCycleBoundary q_0 s) := by
  unfold execHalfCycleBoundary
  repeat' first
    | with_reducible assumption
    | with_reducible apply KeptOut.next
    | with_reducible apply KeptOut.ite
    | intro _
    | with_reducible apply State.modPhase_kept
    | with_reducible apply State.modPoint_kept
    | with_reducible apply State.judge_kept
    | (with_reducible refine Kept.fst ?_ (by assumption)); with_reducible apply State.judge_kept
    | with_reducible apply Kept.each
    | with_reducible apply Kept.foldl
    | with_reducible apply Kept.ite
    | split
    | dsimp only; split

theorem State.requestLatch_kept {q : List Instr} (s : State) (mask : Nat) (h : Kept q s) :
    Kept q (State.requestLatch s mask) := by
  unfold State.requestLatch
  repeat' first
    | with_reducible assumption
    | with_reducible exact fun h => h
    | exact fun _ => rfl
    | intro _
    | with_reducible apply State.setFld_kept
    | fail_if_no_progress with_reducible apply Kept.free
    | fail_if_no_progress (with_reducible refine Kept.updRegs ?_ (fun hk => ?_)) <;> try with_reducible exact hk.regs
    | fail_if_no_progress (with_reducible refine Kept.updSd ?_ (fun hk => ?_)) <;> try with_reducible exact hk.sd
    | fail_if_no_progress (with_reducible refine Kept.updSatchel ?_ (fun hk => ?_)) <;> try with_reducible exact hk.satchel
    | with_reducible rfl
    | split
    | (with_reducible apply Kept.free); split

theorem execBurLatchWrite_kept {q : List Instr} (core : Nat) (mask : Nat) (s : State) (h : Kept q s) :
    KeptOut q (execBurLatchWrite core mask s) := by
  unfold execBurLatchWrite
  repeat' first
    | with_reducible assumption
    | with_reducible apply KeptOut.next
    | intro _
    | with_reducible apply State.accessBlk_kept
    | with_reducible apply State.requestLatch_kept
    | split
    | dsimp only; split

theorem State.bursarLatch_kept {q : List Instr} (s : State) (points : Nat) (ts : Nat) (h : Kept q s) :
    Kept q (State.bursarLatch s points ts) := by
  unfold State.bursarLatch
  repeat' first
    | with_reducible assumption
    | intro _
    | with_reducible apply State.setFld_kept
    | with_reducible apply Kept.each
    | split
    | (with_reducible apply Kept.free); split

theorem State.saveDue_kept {q : List Instr} (s : State) (h : Kept q s) :
    Kept q (State.saveDue s) := by
  unfold State.saveDue
  repeat' first
    | with_reducible assumption
    | intro _
    | with_reducible apply State.libRecord_kept
    | split
    | (with_reducible apply Kept.free); split

theorem execBurSaveNowWrite_kept {q : List Instr} (core : Nat) (s : State) (h : Kept q s) :
    KeptOut q (execBurSaveNowWrite core s) := by
  unfold execBurSaveNowWrite
  repeat' first
    | with_reducible assumption
    | with_reducible apply KeptOut.next
    | intro _
    | with_reducible apply State.accessBlk_kept
    | with_reducible apply State.saveDue_kept
    | split
    | dsimp only; split

theorem execBursarRestore_kept {q : List Instr} (s : State) (h : Kept q s) :
    KeptOut q (execBursarRestore s) := by
  unfold execBursarRestore
  repeat' first
    | with_reducible assumption
    | with_reducible apply KeptOut.next
    | with_reducible apply KeptOut.ite
    | with_reducible exact fun h => h
    | exact fun _ => rfl
    | intro _
    | with_reducible apply State.setFld_kept
    | with_reducible apply State.setFlag_kept
    | with_reducible apply Kept.each
    | with_reducible apply Kept.ite
    | fail_if_no_progress with_reducible apply Kept.free
    | fail_if_no_progress (with_reducible refine Kept.updRegs ?_ (fun hk => ?_)) <;> try with_reducible exact hk.regs
    | fail_if_no_progress (with_reducible refine Kept.updSd ?_ (fun hk => ?_)) <;> try with_reducible exact hk.sd
    | fail_if_no_progress (with_reducible refine Kept.updBur ?_ (fun hk => BurOk.upd hk.bur ?_ ?_)) <;> try first | with_reducible rfl | with_reducible exact fun h => h
    | fail_if_no_progress (with_reducible refine Kept.updSatchel ?_ (fun hk => ?_)) <;> try with_reducible exact hk.satchel
    | with_reducible rfl
    | with_reducible exact List.length_map _
    | with_reducible refine Kept.pointsEq (q := q) ?_ ‹_›
    | with_reducible refine Kept.accsEq (q := q) ?_ ‹_›
    | exact hk.bur.1.symm
    | exact hk.bur.2.symm
    | exact ((List.length_map _).trans List.length_range).trans hk.bur.2.symm
    | split
    | dsimp only; split

theorem State.writeSpans_kept {q : List Instr} (s : State) (h : Kept q s) :
    Kept q (State.writeSpans s) := by
  unfold State.writeSpans
  repeat' first
    | with_reducible assumption
    | with_reducible exact fun h => h
    | exact fun _ => rfl
    | intro _
    | with_reducible apply State.setFld_kept
    | with_reducible apply State.libRecord_kept
    | with_reducible apply State.emit_kept
    | with_reducible apply Kept.each
    | fail_if_no_progress with_reducible apply Kept.free
    | fail_if_no_progress (with_reducible refine Kept.updRegs ?_ (fun hk => ?_)) <;> try with_reducible exact hk.regs
    | fail_if_no_progress (with_reducible refine Kept.updSd ?_ (fun hk => ?_)) <;> try with_reducible exact hk.sd
    | fail_if_no_progress (with_reducible refine Kept.updBur ?_ (fun hk => BurOk.upd hk.bur ?_ ?_)) <;> try first | with_reducible rfl | with_reducible exact fun h => h
    | fail_if_no_progress (with_reducible refine Kept.updSatchel ?_ (fun hk => ?_)) <;> try with_reducible exact hk.satchel
    | with_reducible rfl
    | with_reducible refine Kept.pointsEq (q := q) ?_ ‹_›
    | with_reducible refine Kept.accsEq (q := q) ?_ ‹_›
    | split
    | (with_reducible apply Kept.free); split

theorem State.theftSecond_kept {q : List Instr} (s : State) (h : Kept q s) :
    Kept q (State.theftSecond s) := by
  unfold State.theftSecond
  repeat' first
    | with_reducible assumption
    | with_reducible exact fun h => h
    | exact fun _ => rfl
    | intro _
    | with_reducible apply State.count_kept
    | with_reducible apply Kept.ite
    | fail_if_no_progress with_reducible apply Kept.free
    | fail_if_no_progress (with_reducible refine Kept.updRegs ?_ (fun hk => ?_)) <;> try with_reducible exact hk.regs
    | fail_if_no_progress (with_reducible refine Kept.updSd ?_ (fun hk => ?_)) <;> try with_reducible exact hk.sd
    | fail_if_no_progress (with_reducible refine Kept.updBur ?_ (fun hk => BurOk.upd hk.bur ?_ ?_)) <;> try first | with_reducible rfl | with_reducible exact fun h => h
    | fail_if_no_progress (with_reducible refine Kept.updSatchel ?_ (fun hk => ?_)) <;> try with_reducible exact hk.satchel
    | with_reducible rfl
    | with_reducible refine Kept.pointsEq (q := q) ?_ ‹_›
    | with_reducible refine Kept.accsEq (q := q) ?_ ‹_›
    | split
    | (with_reducible apply Kept.free); split

theorem execTheftWindowClock_kept {q : List Instr} (s : State) (h : Kept q s) :
    KeptOut q (execTheftWindowClock s) := by
  unfold execTheftWindowClock
  repeat' first
    | with_reducible assumption
    | with_reducible apply KeptOut.next
    | with_reducible apply KeptOut.ite
    | with_reducible exact fun h => h
    | exact fun _ => rfl
    | intro _
    | with_reducible apply Kept.ite
    | fail_if_no_progress with_reducible apply Kept.free
    | fail_if_no_progress (with_reducible refine Kept.updRegs ?_ (fun hk => ?_)) <;> try with_reducible exact hk.regs
    | fail_if_no_progress (with_reducible refine Kept.updSd ?_ (fun hk => ?_)) <;> try with_reducible exact hk.sd
    | fail_if_no_progress (with_reducible refine Kept.updBur ?_ (fun hk => BurOk.upd hk.bur ?_ ?_)) <;> try first | with_reducible rfl | with_reducible exact fun h => h
    | fail_if_no_progress (with_reducible refine Kept.updSatchel ?_ (fun hk => ?_)) <;> try with_reducible exact hk.satchel
    | with_reducible rfl
    | with_reducible refine Kept.pointsEq (q := q) ?_ ‹_›
    | with_reducible refine Kept.accsEq (q := q) ?_ ‹_›
    | split
    | dsimp only; split

theorem State.theftWordsN_kept {q : List Instr} (l : List Bool) (x1 : Nat) (x2 : State) (h : Kept q x2) :
    Kept q (State.theftWordsN l x1 x2).2 := by
  induction x1 with
  | zero => exact h
  | succ n ih =>
    unfold State.theftWordsN
    exact State.mainOutput_kept _ _ _ _ ih

theorem State.theftWords_kept {q : List Instr} (s : State) (l : List Bool) (h : Kept q s) :
    Kept q (State.theftWords s l).2 := by
  unfold State.theftWords
  repeat' first
    | with_reducible assumption
    | intro _
    | with_reducible apply State.theftWordsN_kept
    | (with_reducible refine Kept.snd ?_ (by assumption)); with_reducible apply State.theftWordsN_kept
    | dsimp only
    | split
    | (with_reducible apply Kept.free); split

theorem State.theftCharge_kept {q : List Instr} (s : State) (c : Nat) (l : List Int) (h : Kept q s) :
    Kept q (State.theftCharge s c l).2 := by
  unfold State.theftCharge
  repeat' first
    | with_reducible assumption
    | intro _
    | with_reducible apply State.fresh_kept
    | (with_reducible refine Kept.snd ?_ (by assumption)); with_reducible apply State.fresh_kept
    | with_reducible apply Kept.foldl
    | with_reducible apply Kept.ite
    | with_reducible apply Kept.iteSnd
    | dsimp only
    | split
    | (with_reducible apply Kept.free); split

theorem State.theftAdd_kept {q : List Instr} (s : State) (c : Nat) (words : List Int) (h : Kept q s) :
    Kept q (State.theftAdd s c words) := by
  unfold State.theftAdd
  repeat' first
    | with_reducible assumption
    | with_reducible exact fun h => h
    | exact fun _ => rfl
    | intro _
    | with_reducible apply State.theftCharge_kept
    | (with_reducible refine Kept.snd ?_ (by assumption)); with_reducible apply State.theftCharge_kept
    | with_reducible apply State.setFld_kept
    | with_reducible apply State.burLate_kept
    | with_reducible apply State.libRecord_kept
    | with_reducible apply Kept.ite
    | fail_if_no_progress with_reducible apply Kept.free
    | fail_if_no_progress (with_reducible refine Kept.updRegs ?_ (fun hk => ?_)) <;> try with_reducible exact hk.regs
    | fail_if_no_progress (with_reducible refine Kept.updSd ?_ (fun hk => ?_)) <;> try with_reducible exact hk.sd
    | fail_if_no_progress (with_reducible refine Kept.updBur ?_ (fun hk => BurOk.upd hk.bur ?_ ?_)) <;> try first | with_reducible rfl | with_reducible exact fun h => h
    | fail_if_no_progress (with_reducible refine Kept.updSatchel ?_ (fun hk => ?_)) <;> try with_reducible exact hk.satchel
    | with_reducible rfl
    | with_reducible exact List.length_set
    | with_reducible exact List.length_set.trans List.length_set
    | exact List.length_set
    | with_reducible refine Kept.pointsEq (q := q) ?_ ‹_›
    | with_reducible refine Kept.accsEq (q := q) ?_ ‹_›
    | split
    | (with_reducible apply Kept.free); split

theorem execTheftWindowEnd_kept {q : List Instr} (samples : List Nat) (s : State) (h : Kept q s) :
    KeptOut q (execTheftWindowEnd samples s) := by
  unfold execTheftWindowEnd
  repeat' first
    | with_reducible assumption
    | with_reducible apply KeptOut.next
    | with_reducible apply KeptOut.ite
    | with_reducible exact fun h => h
    | exact fun _ => rfl
    | with_reducible exact SMap.wf_filter _
    | intro _
    | with_reducible apply State.theftWords_kept
    | (with_reducible refine Kept.snd ?_ (by assumption)); with_reducible apply State.theftWords_kept
    | with_reducible apply State.theftAdd_kept
    | with_reducible apply Kept.each
    | with_reducible apply Kept.ite
    | fail_if_no_progress with_reducible apply Kept.free
    | fail_if_no_progress (with_reducible refine Kept.updRegs ?_ (fun hk => ?_)) <;> try with_reducible exact hk.regs
    | fail_if_no_progress (with_reducible refine Kept.updSd ?_ (fun hk => ?_)) <;> try with_reducible exact hk.sd
    | fail_if_no_progress (with_reducible refine Kept.updBur ?_ (fun hk => BurOk.upd hk.bur ?_ ?_)) <;> try first | with_reducible rfl | with_reducible exact fun h => h
    | fail_if_no_progress (with_reducible refine Kept.updSatchel ?_ (fun hk => ?_)) <;> try with_reducible exact hk.satchel
    | with_reducible rfl
    | with_reducible exact List.length_map _
    | with_reducible refine Kept.pointsEq (q := q) ?_ ‹_›
    | with_reducible refine Kept.accsEq (q := q) ?_ ‹_›
    | split
    | dsimp only; split

theorem State.theftClear_kept {q : List Instr} (s : State) (h : Kept q s) :
    Kept q (State.theftClear s) := by
  unfold State.theftClear
  repeat' first
    | with_reducible assumption
    | with_reducible exact fun h => h
    | exact fun _ => rfl
    | intro _
    | with_reducible apply State.setFld_kept
    | with_reducible apply Kept.each
    | with_reducible apply Kept.ite
    | fail_if_no_progress with_reducible apply Kept.free
    | fail_if_no_progress (with_reducible refine Kept.updRegs ?_ (fun hk => ?_)) <;> try with_reducible exact hk.regs
    | fail_if_no_progress (with_reducible refine Kept.updSd ?_ (fun hk => ?_)) <;> try with_reducible exact hk.sd
    | fail_if_no_progress (with_reducible refine Kept.updBur ?_ (fun hk => BurOk.upd hk.bur ?_ ?_)) <;> try first | with_reducible rfl | with_reducible exact fun h => h
    | fail_if_no_progress (with_reducible refine Kept.updSatchel ?_ (fun hk => ?_)) <;> try with_reducible exact hk.satchel
    | with_reducible rfl
    | with_reducible refine Kept.pointsEq (q := q) ?_ ‹_›
    | with_reducible refine Kept.accsEq (q := q) ?_ ‹_›
    | exact hk.bur.1.symm
    | exact hk.bur.2.symm
    | exact ((List.length_map _).trans List.length_range).trans hk.bur.2.symm
    | split
    | (with_reducible apply Kept.free); split

theorem execTheftClrWrite_kept {q : List Instr} (core : Nat) (s : State) (h : Kept q s) :
    KeptOut q (execTheftClrWrite core s) := by
  unfold execTheftClrWrite
  repeat' first
    | with_reducible assumption
    | with_reducible apply KeptOut.next
    | intro _
    | with_reducible apply State.accessBlk_kept
    | with_reducible apply State.theftClear_kept
    | split
    | dsimp only; split

theorem State.bursarApplied_kept {q : List Instr} (s : State) (was : State) (h : Kept q s) (hwas : Kept q was) :
    Kept q (State.bursarApplied s was) := by
  unfold State.bursarApplied
  repeat' first
    | with_reducible assumption
    | with_reducible exact fun h => h
    | exact fun _ => rfl
    | with_reducible refine Kept.sramWf (q := q) ?_
    | intro _
    | with_reducible apply State.closeCycle_kept
    | with_reducible apply State.setFld_kept
    | with_reducible apply State.modPoint_kept
    | with_reducible apply Kept.each
    | with_reducible apply Kept.ite
    | fail_if_no_progress with_reducible apply Kept.free
    | fail_if_no_progress (with_reducible refine Kept.updRegs ?_ (fun hk => ?_)) <;> try with_reducible exact hk.regs
    | fail_if_no_progress (with_reducible refine Kept.updSd ?_ (fun hk => ?_)) <;> try with_reducible exact hk.sd
    | fail_if_no_progress (with_reducible refine Kept.updBur ?_ (fun hk => BurOk.upd hk.bur ?_ ?_)) <;> try first | with_reducible rfl | with_reducible exact fun h => h
    | fail_if_no_progress (with_reducible refine Kept.updSatchel ?_ (fun hk => ?_)) <;> try with_reducible exact hk.satchel
    | fail_if_no_progress (with_reducible refine Kept.updCt ?_ (fun hk => CtOk.upd hk.ct ?_)) <;> try first | with_reducible rfl | with_reducible exact fun h => h
    | fail_if_no_progress (with_reducible refine Kept.updBurCt ?_ (fun hk => BurOk.upd hk.bur ?_ ?_) (fun hk => CtOk.upd hk.ct ?_)) <;> try first | with_reducible rfl | with_reducible exact fun h => h
    | with_reducible rfl
    | with_reducible exact List.length_set
    | with_reducible exact List.length_set.trans List.length_set
    | exact List.length_set
    | with_reducible refine Kept.pointsEq (q := q) ?_ ‹_›
    | with_reducible refine Kept.accsEq (q := q) ?_ ‹_›
    | exact hk.bur.1.symm
    | exact hk.bur.2.symm
    | exact ((List.length_map _).trans List.length_range).trans hk.bur.2.symm
    | split
    | (with_reducible apply Kept.free); split

end Sys2Proof.Machine
end

