-- ==== Sys2Proof/Laws/KeptIntegrity.lean ====
section
/-!
SUPPORT. What every operation of Machine/Integrity.lean keeps (Laws/Kept.lean).
-/
namespace Sys2Proof.Machine

set_option linter.unusedTactic false
set_option linter.unreachableTactic false

theorem State.writeBack_kept {q : List Instr} (s : State) (mem : Nat) (w : Nat) (data : Nat) (h : Kept q s) :
    Kept q (State.writeBack s mem w data) := by
  unfold State.writeBack
  repeat' first
    | with_reducible assumption
    | with_reducible exact fun h => h
    | exact fun _ => rfl
    | with_reducible exact putBytes_wf _ _ _
    | with_reducible refine Kept.itcmWf (q := q) ?_
    | with_reducible refine Kept.dtcmWf (q := q) ?_
    | with_reducible refine Kept.sramWf (q := q) ?_
    | intro _
    | with_reducible apply State.satWriteWord_kept
    | (with_reducible refine Kept.snd ?_ (by assumption)); with_reducible apply State.satWriteWord_kept
    | with_reducible apply State.setDtcmWord_kept
    | with_reducible apply State.setEngWord_kept
    | with_reducible apply Kept.ite
    | fail_if_no_progress with_reducible apply Kept.free
    | fail_if_no_progress (with_reducible refine Kept.updRegs ?_ (fun hk => ?_)) <;> try with_reducible exact hk.regs
    | fail_if_no_progress (with_reducible refine Kept.updTut ?_ (fun hk => TutOk.upd hk.tut ?_ ?_ ?_ ?_ ?_ ?_ ?_ ?_)) <;> try first | with_reducible rfl | with_reducible exact fun h => h
    | fail_if_no_progress (with_reducible refine Kept.updSd ?_ (fun hk => ?_)) <;> try with_reducible exact hk.sd
    | fail_if_no_progress (with_reducible refine Kept.updSatchel ?_ (fun hk => ?_)) <;> try with_reducible exact hk.satchel
    | fail_if_no_progress (with_reducible refine Kept.updCt ?_ (fun hk => CtOk.upd hk.ct ?_)) <;> try first | with_reducible rfl | with_reducible exact fun h => h
    | with_reducible rfl
    | with_reducible refine Kept.mtcmpEq (q := q) ?_ ‹_›
    | with_reducible refine Kept.mtcmpHoldEq (q := q) ?_ ‹_›
    | with_reducible refine Kept.enteredEq (q := q) ?_ ‹_›
    | with_reducible refine Kept.lrEq (q := q) ?_ ‹_›
    | with_reducible refine Kept.mcauseEq (q := q) ?_ ‹_›
    | with_reducible refine Kept.mtvalEq (q := q) ?_ ‹_›
    | split
    | (with_reducible apply Kept.free); split

theorem State.retireBank_kept {q : List Instr} (s : State) (b : Nat) (h : Kept q s) :
    Kept q (State.retireBank s b) := by
  unfold State.retireBank
  repeat' first
    | with_reducible assumption
    | intro _
    | with_reducible apply State.setBit_kept
    | with_reducible apply State.intEvent_kept
    | with_reducible apply State.recordRepair_kept
    | with_reducible apply State.setFld_kept
    | with_reducible apply Kept.whenIf
    | with_reducible apply Kept.ite
    | split
    | (with_reducible apply Kept.free); split

theorem State.bankFound_kept {q : List Instr} (s : State) (mem : Nat) (w : Nat) (h : Kept q s) :
    Kept q (State.bankFound s mem w) := by
  unfold State.bankFound
  repeat' first
    | with_reducible assumption
    | with_reducible exact fun h => h
    | exact fun _ => rfl
    | with_reducible exact SMap.wf_filter _
    | intro _
    | with_reducible apply State.retireBank_kept
    | with_reducible apply Kept.whenIf
    | with_reducible apply Kept.ite
    | fail_if_no_progress with_reducible apply Kept.free
    | fail_if_no_progress (with_reducible refine Kept.updRegs ?_ (fun hk => ?_)) <;> try with_reducible exact hk.regs
    | fail_if_no_progress (with_reducible refine Kept.updSd ?_ (fun hk => ?_)) <;> try with_reducible exact hk.sd
    | fail_if_no_progress (with_reducible refine Kept.updSatchel ?_ (fun hk => ?_)) <;> try with_reducible exact hk.satchel
    | with_reducible rfl
    | split
    | (with_reducible apply Kept.free); split

theorem execSatRetWrite_kept {q : List Instr} (core : Nat) (bank : Nat) (go : Bool) (s : State) (h : Kept q s) :
    KeptOut q (execSatRetWrite core bank go s) := by
  unfold execSatRetWrite
  repeat' first
    | with_reducible assumption
    | with_reducible apply KeptOut.next
    | intro _
    | with_reducible apply State.accessBlk_kept
    | with_reducible apply State.retireBank_kept
    | with_reducible apply Kept.whenIf
    | split
    | dsimp only; split

theorem State.replaceColumn_kept {q : List Instr} (s : State) (mem : Nat) (w : Nat) (col : Nat) (k : Nat) (h : Kept q s) :
    Kept q (State.replaceColumn s mem w col k) := by
  unfold State.replaceColumn
  repeat' first
    | with_reducible assumption
    | with_reducible exact fun h => h
    | exact fun _ => rfl
    | intro _
    | with_reducible apply State.putRemain_kept
    | with_reducible apply State.recordRepair_kept
    | with_reducible apply State.intEvent_kept
    | with_reducible apply State.noteFloor_kept
    | fail_if_no_progress with_reducible apply Kept.free
    | fail_if_no_progress (with_reducible refine Kept.updRegs ?_ (fun hk => ?_)) <;> try with_reducible exact hk.regs
    | fail_if_no_progress (with_reducible refine Kept.updSd ?_ (fun hk => ?_)) <;> try with_reducible exact hk.sd
    | fail_if_no_progress (with_reducible refine Kept.updSatchel ?_ (fun hk => ?_)) <;> try with_reducible exact hk.satchel
    | with_reducible rfl
    | split
    | (with_reducible apply Kept.free); split

theorem State.replaceRow_kept {q : List Instr} (s : State) (mem : Nat) (w : Nat) (k : Nat) (h : Kept q s) :
    Kept q (State.replaceRow s mem w k) := by
  unfold State.replaceRow
  repeat' first
    | with_reducible assumption
    | with_reducible exact fun h => h
    | exact fun _ => rfl
    | intro _
    | with_reducible apply State.putRemain_kept
    | with_reducible apply State.recordRepair_kept
    | with_reducible apply State.intEvent_kept
    | with_reducible apply State.noteFloor_kept
    | fail_if_no_progress with_reducible apply Kept.free
    | fail_if_no_progress (with_reducible refine Kept.updRegs ?_ (fun hk => ?_)) <;> try with_reducible exact hk.regs
    | fail_if_no_progress (with_reducible refine Kept.updSd ?_ (fun hk => ?_)) <;> try with_reducible exact hk.sd
    | fail_if_no_progress (with_reducible refine Kept.updSatchel ?_ (fun hk => ?_)) <;> try with_reducible exact hk.satchel
    | with_reducible rfl
    | split
    | (with_reducible apply Kept.free); split

theorem State.hardFault_kept {q : List Instr} (s : State) (m : Nat) (mem : Nat) (w : Nat) (bit : Nat) (nerr : Nat) (h :
    Kept q s) :
    Kept q (State.hardFault s m mem w bit nerr) := by
  unfold State.hardFault
  repeat' first
    | with_reducible assumption
    | with_reducible exact fun h => h
    | exact fun _ => rfl
    | intro _
    | with_reducible apply State.intEvent_kept
    | with_reducible apply State.count_kept
    | with_reducible apply State.replaceColumn_kept
    | with_reducible apply State.replaceRow_kept
    | with_reducible apply Kept.ite
    | fail_if_no_progress with_reducible apply Kept.free
    | fail_if_no_progress (with_reducible refine Kept.updRegs ?_ (fun hk => ?_)) <;> try with_reducible exact hk.regs
    | fail_if_no_progress (with_reducible refine Kept.updSd ?_ (fun hk => ?_)) <;> try with_reducible exact hk.sd
    | fail_if_no_progress (with_reducible refine Kept.updSatchel ?_ (fun hk => ?_)) <;> try with_reducible exact hk.satchel
    | with_reducible rfl
    | split
    | (with_reducible apply Kept.free); split

theorem State.scrubNext_kept {q : List Instr} (s : State) (m : Nat) (n : Nat) (h : Kept q s) :
    Kept q (State.scrubNext s m n) := by
  unfold State.scrubNext
  repeat' first
    | with_reducible assumption
    | with_reducible exact fun h => h
    | exact fun _ => rfl
    | intro _
    | with_reducible apply State.setFld_kept
    | with_reducible apply State.count_kept
    | with_reducible apply Kept.ite
    | fail_if_no_progress with_reducible apply Kept.free
    | fail_if_no_progress (with_reducible refine Kept.updRegs ?_ (fun hk => ?_)) <;> try with_reducible exact hk.regs
    | fail_if_no_progress (with_reducible refine Kept.updSd ?_ (fun hk => ?_)) <;> try with_reducible exact hk.sd
    | fail_if_no_progress (with_reducible refine Kept.updSatchel ?_ (fun hk => ?_)) <;> try with_reducible exact hk.satchel
    | with_reducible rfl
    | with_reducible exact List.length_set
    | with_reducible exact List.length_set.trans List.length_set
    | exact List.length_set
    | split
    | (with_reducible apply Kept.free); split

theorem State.scrubCorrected_kept {q : List Instr} (s : State) (m : Nat) (mem : Nat) (w : Nat) (data : Nat) (nerr : Nat)
    (bit : Nat) (written : Bool) (h : Kept q s) :
    Kept q (State.scrubCorrected s m mem w data nerr bit written) := by
  unfold State.scrubCorrected
  repeat' first
    | with_reducible assumption
    | with_reducible exact fun h => h
    | exact fun _ => rfl
    | intro _
    | with_reducible apply State.writeBack_kept
    | with_reducible apply State.setFld_kept
    | with_reducible apply State.count_kept
    | with_reducible apply State.intEvent_kept
    | with_reducible apply State.hardFault_kept
    | with_reducible apply Kept.whenIf
    | with_reducible apply Kept.ite
    | fail_if_no_progress with_reducible apply Kept.free
    | fail_if_no_progress (with_reducible refine Kept.updRegs ?_ (fun hk => ?_)) <;> try with_reducible exact hk.regs
    | fail_if_no_progress (with_reducible refine Kept.updSd ?_ (fun hk => ?_)) <;> try with_reducible exact hk.sd
    | fail_if_no_progress (with_reducible refine Kept.updSatchel ?_ (fun hk => ?_)) <;> try with_reducible exact hk.satchel
    | with_reducible rfl
    | with_reducible exact List.length_set
    | with_reducible exact List.length_set.trans List.length_set
    | exact List.length_set
    | split
    | (with_reducible apply Kept.free); split

theorem execScrubRead_kept {q : List Instr} (m : Nat) (stored : Nat) (written : Bool) (s : State) (h : Kept q s) :
    KeptOut q (execScrubRead m stored written s) := by
  unfold execScrubRead
  repeat' first
    | with_reducible assumption
    | with_reducible apply KeptOut.next
    | with_reducible apply KeptOut.ite
    | intro _
    | with_reducible apply State.scrubNext_kept
    | with_reducible apply State.scrubCorrected_kept
    | with_reducible apply State.mark_kept
    | with_reducible apply State.bankFound_kept
    | with_reducible apply State.intEvent_kept
    | with_reducible apply State.count_kept
    | with_reducible apply Kept.ite
    | split
    | dsimp only; split

theorem execScrubPassOverdue_kept {q : List Instr} (m : Nat) (s : State) (h : Kept q s) :
    KeptOut q (execScrubPassOverdue m s) := by
  unfold execScrubPassOverdue
  repeat' first
    | with_reducible assumption
    | with_reducible apply KeptOut.next
    | with_reducible apply KeptOut.ite
    | intro _
    | with_reducible apply State.intEvent_kept
    | with_reducible apply State.setBit_kept
    | with_reducible apply Kept.ite
    | split
    | dsimp only; split

theorem State.restorePoint_kept {q : List Instr} (s : State) (q_1 : Nat) (h : Kept q s) :
    Kept q (State.restorePoint s q_1) := by
  unfold State.restorePoint
  repeat' first
    | with_reducible assumption
    | with_reducible exact fun h => h
    | exact fun _ => rfl
    | intro _
    | with_reducible apply State.setFld_kept
    | fail_if_no_progress with_reducible apply Kept.free
    | fail_if_no_progress (with_reducible refine Kept.updRegs ?_ (fun hk => ?_)) <;> try with_reducible exact hk.regs
    | fail_if_no_progress (with_reducible refine Kept.updSd ?_ (fun hk => ?_)) <;> try with_reducible exact hk.sd
    | fail_if_no_progress (with_reducible refine Kept.updBur ?_ (fun hk => BurOk.upd hk.bur ?_ ?_)) <;> try first | with_reducible rfl | with_reducible exact fun h => h
    | fail_if_no_progress (with_reducible refine Kept.updSatchel ?_ (fun hk => ?_)) <;> try with_reducible exact hk.satchel
    | with_reducible rfl
    | with_reducible exact List.length_set
    | with_reducible exact List.length_set.trans List.length_set
    | exact List.length_set
    | with_reducible refine Kept.pointsEq (q := q) ?_ ‹_›
    | with_reducible refine Kept.accsEq (q := q) ?_ ‹_›
    | exact hk.bur.1.symm
    | exact hk.bur.2.symm
    | exact ((List.length_map _).trans List.length_range).trans hk.bur.2.symm
    | split
    | (with_reducible apply Kept.free); split

theorem State.consumerSees_kept {q : List Instr} (s : State) (c : Consumer) (addr : Nat) (h : Kept q s) :
    Kept q (State.consumerSees s c addr) := by
  unfold State.consumerSees
  repeat' first
    | with_reducible assumption
    | with_reducible exact fun h => h
    | exact fun _ => rfl
    | intro _
    | with_reducible apply State.coreFault_kept
    | with_reducible apply State.finish_kept
    | with_reducible apply State.portFault_kept
    | with_reducible apply State.engineFault_kept
    | with_reducible apply State.restorePoint_kept
    | with_reducible apply State.offer_kept
    | with_reducible apply Kept.whenIf
    | with_reducible apply Kept.ite
    | fail_if_no_progress with_reducible apply Kept.free
    | fail_if_no_progress (with_reducible refine Kept.updRegs ?_ (fun hk => ?_)) <;> try with_reducible exact hk.regs
    | fail_if_no_progress (with_reducible refine Kept.updDup ?_ (fun hk => DupOk.upd hk.dup ?_ ?_)) <;> try first | with_reducible rfl | with_reducible exact fun h => h
    | fail_if_no_progress (with_reducible refine Kept.updSd ?_ (fun hk => ?_)) <;> try with_reducible exact hk.sd
    | fail_if_no_progress (with_reducible refine Kept.updBur ?_ (fun hk => BurOk.upd hk.bur ?_ ?_)) <;> try first | with_reducible rfl | with_reducible exact fun h => h
    | fail_if_no_progress (with_reducible refine Kept.updSatchel ?_ (fun hk => ?_)) <;> try with_reducible exact hk.satchel
    | with_reducible rfl
    | with_reducible exact modAt_length _ _ _ _
    | exact modAt_length _ _ _ _
    | with_reducible refine Kept.votersEq (q := q) ?_ ‹_›
    | with_reducible refine Kept.slotsDEq (q := q) ?_ ‹_›
    | with_reducible refine Kept.pointsEq (q := q) ?_ ‹_›
    | with_reducible refine Kept.accsEq (q := q) ?_ ‹_›
    | exact hk.dup.1.symm
    | exact hk.dup.2.symm
    | exact hk.bur.1.symm
    | exact hk.bur.2.symm
    | exact ((List.length_map _).trans List.length_range).trans hk.bur.2.symm
    | split
    | (with_reducible apply Kept.free); split

theorem execUncorrectableRead_kept {q : List Instr} (c : Consumer) (mem : Nat) (w : Nat) (stored : Nat) (s : State) (h :
    Kept q s) :
    KeptOut q (execUncorrectableRead c mem w stored s) := by
  unfold execUncorrectableRead
  repeat' first
    | with_reducible assumption
    | with_reducible apply KeptOut.next
    | with_reducible apply KeptOut.ite
    | intro _
    | with_reducible apply State.consumerSees_kept
    | with_reducible apply State.badRead_kept
    | with_reducible apply State.mark_kept
    | with_reducible apply State.bankFound_kept
    | with_reducible apply Kept.ite
    | split
    | dsimp only; split

theorem State.applyRepair_kept {q : List Instr} (s : State) (e : Nat) (h : Kept q s) :
    Kept q (State.applyRepair s e) := by
  unfold State.applyRepair
  repeat' first
    | with_reducible assumption
    | with_reducible exact fun h => h
    | exact fun _ => rfl
    | intro _
    | with_reducible apply State.setBit_kept
    | with_reducible apply State.setFld_kept
    | with_reducible apply Kept.whenIf
    | with_reducible apply Kept.ite
    | fail_if_no_progress with_reducible apply Kept.free
    | fail_if_no_progress (with_reducible refine Kept.updRegs ?_ (fun hk => ?_)) <;> try with_reducible exact hk.regs
    | fail_if_no_progress (with_reducible refine Kept.updDup ?_ (fun hk => DupOk.upd hk.dup ?_ ?_)) <;> try first | with_reducible rfl | with_reducible exact fun h => h
    | fail_if_no_progress (with_reducible refine Kept.updSd ?_ (fun hk => ?_)) <;> try with_reducible exact hk.sd
    | fail_if_no_progress (with_reducible refine Kept.updSatchel ?_ (fun hk => ?_)) <;> try with_reducible exact hk.satchel
    | with_reducible rfl
    | with_reducible exact modAt_length _ _ _ _
    | exact modAt_length _ _ _ _
    | with_reducible refine Kept.votersEq (q := q) ?_ ‹_›
    | with_reducible refine Kept.slotsDEq (q := q) ?_ ‹_›
    | split
    | (with_reducible apply Kept.free); split

theorem State.zeroRow_kept {q : List Instr} (s : State) (e : Nat) (h : Kept q s) :
    Kept q (State.zeroRow s e) := by
  unfold State.zeroRow
  repeat' first
    | with_reducible assumption
    | intro _
    | with_reducible apply State.mark_kept
    | with_reducible apply State.writeBack_kept
    | with_reducible apply Kept.each
    | with_reducible apply Kept.ite
    | split
    | (with_reducible apply Kept.free); split

theorem State.repLoad_kept {q : List Instr} (s : State) (count : Nat) (h : Kept q s) :
    Kept q (State.repLoad s count) := by
  unfold State.repLoad
  repeat' first
    | with_reducible assumption
    | with_reducible exact fun h => h
    | exact fun _ => rfl
    | intro _
    | with_reducible apply State.zeroRow_kept
    | with_reducible apply State.applyRepair_kept
    | with_reducible apply State.consumeSpare_kept
    | with_reducible apply State.intEvent_kept
    | with_reducible apply State.setFld_kept
    | with_reducible apply Kept.each
    | with_reducible apply Kept.ite
    | fail_if_no_progress with_reducible apply Kept.free
    | fail_if_no_progress (with_reducible refine Kept.updRegs ?_ (fun hk => ?_)) <;> try with_reducible exact hk.regs
    | fail_if_no_progress (with_reducible refine Kept.updSd ?_ (fun hk => ?_)) <;> try with_reducible exact hk.sd
    | fail_if_no_progress (with_reducible refine Kept.updSatchel ?_ (fun hk => ?_)) <;> try with_reducible exact hk.satchel
    | with_reducible rfl
    | with_reducible exact (List.length_map _).trans List.length_zipIdx
    | split
    | (with_reducible apply Kept.free); split

theorem execRepLoadWrite_kept {q : List Instr} (core : Nat) (count : Nat) (s : State) (h : Kept q s) :
    KeptOut q (execRepLoadWrite core count s) := by
  unfold execRepLoadWrite
  repeat' first
    | with_reducible assumption
    | with_reducible apply KeptOut.next
    | intro _
    | with_reducible apply State.accessBlk_kept
    | with_reducible apply State.repLoad_kept
    | split
    | dsimp only; split

theorem execAgeingMeasure_kept {q : List Instr} (slow : List Nat) (s : State) (h : Kept q s) :
    KeptOut q (execAgeingMeasure slow s) := by
  unfold execAgeingMeasure
  repeat' first
    | with_reducible assumption
    | with_reducible apply KeptOut.next
    | intro _
    | with_reducible apply State.setFlag_kept
    | with_reducible apply State.setFld_kept
    | with_reducible apply State.intEvent_kept
    | with_reducible apply Kept.whenIf
    | with_reducible apply Kept.each
    | split
    | dsimp only; split

end Sys2Proof.Machine
end

