-- ==== Sys2Proof/Laws/KeptSecurity.lean ====
section
/-!
SUPPORT. What every operation of Machine/Security.lean keeps (Laws/Kept.lean).
-/
namespace Sys2Proof.Machine

set_option linter.unusedTactic false
set_option linter.unreachableTactic false

theorem execWorldViolation_kept {q : List Instr} (initiator : Nat) (addr : Nat) (cause : Nat) (s : State) (h : Kept q s) :
    KeptOut q (execWorldViolation initiator addr cause s) := by
  unfold execWorldViolation
  repeat' first
    | with_reducible assumption
    | with_reducible apply KeptOut.next
    | with_reducible apply KeptOut.ite
    | with_reducible exact fun h => h
    | exact fun _ => rfl
    | intro _
    | with_reducible apply State.violation_kept
    | with_reducible apply State.coreFault_kept
    | with_reducible apply State.event_kept
    | with_reducible apply State.haltRing_kept
    | with_reducible apply Kept.ite
    | fail_if_no_progress with_reducible apply Kept.free
    | fail_if_no_progress (with_reducible refine Kept.updRegs ?_ (fun hk => ?_)) <;> try with_reducible exact hk.regs
    | fail_if_no_progress (with_reducible refine Kept.updDict ?_ (fun hk => DictOk.upd hk.dict ?_)) <;> try first | with_reducible rfl | with_reducible exact fun h => h
    | fail_if_no_progress (with_reducible refine Kept.updSd ?_ (fun hk => ?_)) <;> try with_reducible exact hk.sd
    | fail_if_no_progress (with_reducible refine Kept.updSatchel ?_ (fun hk => ?_)) <;> try with_reducible exact hk.satchel
    | with_reducible rfl
    | with_reducible refine Kept.groupsEq (q := q) ?_ ‹_›
    | split
    | dsimp only; split

theorem State.secResult_kept {q : List Instr} (s : State) (r : Nat) (h : Kept q s) :
    Kept q (State.secResult s r) := by
  unfold State.secResult
  repeat' first
    | with_reducible assumption
    | intro _
    | with_reducible apply State.setFld_kept
    | split
    | (with_reducible apply Kept.free); split

theorem State.secCommand_kept {q : List Instr} (s : State) (core : Nat) (cmd : Nat) (cert : Option (List Nat)) (target :
    Nat) (h : Kept q s) :
    Kept q (State.secCommand s core cmd cert target) := by
  unfold State.secCommand
  repeat' first
    | with_reducible assumption
    | with_reducible exact fun h => h
    | exact fun _ => rfl
    | intro _
    | with_reducible apply State.secResult_kept
    | with_reducible apply State.setFld_kept
    | with_reducible apply Kept.ite
    | fail_if_no_progress with_reducible apply Kept.free
    | fail_if_no_progress (with_reducible refine Kept.updRegs ?_ (fun hk => ?_)) <;> try with_reducible exact hk.regs
    | fail_if_no_progress (with_reducible refine Kept.updSd ?_ (fun hk => ?_)) <;> try with_reducible exact hk.sd
    | fail_if_no_progress (with_reducible refine Kept.updSatchel ?_ (fun hk => ?_)) <;> try with_reducible exact hk.satchel
    | with_reducible rfl
    | split
    | (with_reducible apply Kept.free); split

theorem State.secCmdWrite_kept {q : List Instr} (s : State) (core : Nat) (cmd : Nat) (h : Kept q s) :
    Kept q (State.secCmdWrite s core cmd) := by
  unfold State.secCmdWrite
  repeat' first
    | with_reducible assumption
    | intro _
    | with_reducible apply State.secCommand_kept
    | with_reducible apply State.secResult_kept
    | with_reducible apply Kept.ite
    | split
    | (with_reducible apply Kept.free); split

theorem State.secCmdBy_kept {q : List Instr} (s : State) (core : Nat) (cmd : Nat) (h : Kept q s) :
    Kept q (State.secCmdBy s core cmd) := by
  unfold State.secCmdBy
  repeat' first
    | with_reducible assumption
    | intro _
    | with_reducible apply State.accessBlk_kept
    | with_reducible apply State.secCmdWrite_kept
    | split
    | (with_reducible apply Kept.free); split

theorem execEnrol_kept {q : List Instr} (core : Nat) (s : State) (h : Kept q s) :
    KeptOut q (execEnrol core s) := by
  unfold execEnrol
  repeat' first
    | with_reducible assumption
    | with_reducible apply KeptOut.next
    | intro _
    | with_reducible apply State.secCmdBy_kept
    | split
    | dsimp only; split

theorem execTransfer_kept {q : List Instr} (core : Nat) (s : State) (h : Kept q s) :
    KeptOut q (execTransfer core s) := by
  unfold execTransfer
  repeat' first
    | with_reducible assumption
    | with_reducible apply KeptOut.next
    | intro _
    | with_reducible apply State.secCmdBy_kept
    | split
    | dsimp only; split

theorem execVendorOff_kept {q : List Instr} (core : Nat) (s : State) (h : Kept q s) :
    KeptOut q (execVendorOff core s) := by
  unfold execVendorOff
  repeat' first
    | with_reducible assumption
    | with_reducible apply KeptOut.next
    | intro _
    | with_reducible apply State.secCmdBy_kept
    | split
    | dsimp only; split

theorem execAdvance_kept {q : List Instr} (core : Nat) (s : State) (h : Kept q s) :
    KeptOut q (execAdvance core s) := by
  unfold execAdvance
  repeat' first
    | with_reducible assumption
    | with_reducible apply KeptOut.next
    | intro _
    | with_reducible apply State.secCmdBy_kept
    | split
    | dsimp only; split

theorem execSecCommandComplete_kept {q : List Instr} (s : State) (h : Kept q s) :
    KeptOut q (execSecCommandComplete s) := by
  unfold execSecCommandComplete
  repeat' first
    | with_reducible assumption
    | with_reducible apply KeptOut.next
    | with_reducible apply KeptOut.ite
    | with_reducible exact fun h => h
    | exact fun _ => rfl
    | intro _
    | with_reducible apply State.program_kept
    | with_reducible apply State.secResult_kept
    | with_reducible apply State.setFld_kept
    | with_reducible apply State.secEvent_kept
    | with_reducible apply State.raise_kept
    | with_reducible apply Kept.whenIf
    | with_reducible apply Kept.ite
    | fail_if_no_progress with_reducible apply Kept.free
    | fail_if_no_progress (with_reducible refine Kept.updRegs ?_ (fun hk => ?_)) <;> try with_reducible exact hk.regs
    | fail_if_no_progress (with_reducible refine Kept.updSd ?_ (fun hk => ?_)) <;> try with_reducible exact hk.sd
    | fail_if_no_progress (with_reducible refine Kept.updSatchel ?_ (fun hk => ?_)) <;> try with_reducible exact hk.satchel
    | with_reducible rfl
    | split
    | dsimp only; split

theorem State.setTried_kept {q : List Instr} (s : State) (w : Wing) (l : List Nat) (h : Kept q s) :
    Kept q (State.setTried s w l) := by
  unfold State.setTried
  repeat' first
    | with_reducible assumption
    | with_reducible exact fun h => h
    | exact fun _ => rfl
    | intro _
    | fail_if_no_progress with_reducible apply Kept.free
    | fail_if_no_progress (with_reducible refine Kept.updRegs ?_ (fun hk => ?_)) <;> try with_reducible exact hk.regs
    | fail_if_no_progress (with_reducible refine Kept.updSd ?_ (fun hk => ?_)) <;> try with_reducible exact hk.sd
    | fail_if_no_progress (with_reducible refine Kept.updSatchel ?_ (fun hk => ?_)) <;> try with_reducible exact hk.satchel
    | with_reducible rfl
    | split
    | (with_reducible apply Kept.free); split

theorem State.lockMap_kept {q : List Instr} (s : State) (i : List Nat) (h : Kept q s) :
    Kept q (State.lockMap s i) := by
  unfold State.lockMap
  repeat' first
    | with_reducible assumption
    | intro _
    | with_reducible apply State.setFld_kept
    | split
    | (with_reducible apply Kept.free); split

theorem State.startImage_kept {q : List Instr} (s : State) (w : Wing) (slot : Nat) (i : List Nat) (h : Kept q s) :
    Kept q (State.startImage s w slot i) := by
  unfold State.startImage
  repeat' first
    | with_reducible assumption
    | with_reducible exact fun h => h
    | exact fun _ => rfl
    | with_reducible exact putBytes_wf _ _ _
    | with_reducible refine Kept.itcmWf (q := q) ?_
    | with_reducible refine Kept.dtcmWf (q := q) ?_
    | intro _
    | with_reducible apply State.mark_kept
    | with_reducible apply State.setFlag_kept
    | with_reducible apply State.setFld_kept
    | with_reducible apply State.secEvent_kept
    | with_reducible apply Kept.each
    | fail_if_no_progress with_reducible apply Kept.free
    | fail_if_no_progress (with_reducible refine Kept.updRegs ?_ (fun hk => ?_)) <;> try with_reducible exact hk.regs
    | fail_if_no_progress (with_reducible refine Kept.updTut ?_ (fun hk => TutOk.upd hk.tut ?_ ?_ ?_ ?_ ?_ ?_ ?_ ?_)) <;> try first | with_reducible rfl | with_reducible exact fun h => h
    | fail_if_no_progress (with_reducible refine Kept.updSd ?_ (fun hk => ?_)) <;> try with_reducible exact hk.sd
    | fail_if_no_progress (with_reducible refine Kept.updSatchel ?_ (fun hk => ?_)) <;> try with_reducible exact hk.satchel
    | with_reducible rfl
    | with_reducible exact List.length_set
    | with_reducible exact List.length_set.trans List.length_set
    | exact List.length_set
    | with_reducible refine Kept.mtcmpEq (q := q) ?_ ‹_›
    | with_reducible refine Kept.mtcmpHoldEq (q := q) ?_ ‹_›
    | with_reducible refine Kept.enteredEq (q := q) ?_ ‹_›
    | with_reducible refine Kept.lrEq (q := q) ?_ ‹_›
    | with_reducible refine Kept.mcauseEq (q := q) ?_ ‹_›
    | with_reducible refine Kept.mtvalEq (q := q) ?_ ‹_›
    | split
    | (with_reducible apply Kept.free); split

theorem execBootImageVerify_kept {q : List Instr} (w : Wing) (s : State) (h : Kept q s) :
    KeptOut q (execBootImageVerify w s) := by
  unfold execBootImageVerify
  repeat' first
    | with_reducible assumption
    | with_reducible apply KeptOut.next
    | with_reducible apply KeptOut.ite
    | intro _
    | with_reducible apply State.setFld_kept
    | with_reducible apply State.setTried_kept
    | with_reducible apply State.secEvent_kept
    | with_reducible apply State.lockMap_kept
    | with_reducible apply State.startImage_kept
    | with_reducible apply Kept.whenIf
    | with_reducible apply Kept.ite
    | split
    | dsimp only; split

theorem execIdentityKeyDerive_kept {q : List Instr} (extracted : Option Nat) (s : State) (h : Kept q s) :
    KeptOut q (execIdentityKeyDerive extracted s) := by
  unfold execIdentityKeyDerive
  repeat' first
    | with_reducible assumption
    | with_reducible apply KeptOut.next
    | with_reducible apply KeptOut.ite
    | with_reducible exact fun h => h
    | exact fun _ => rfl
    | intro _
    | with_reducible apply State.setFld_kept
    | with_reducible apply State.secEvent_kept
    | with_reducible apply Kept.ite
    | fail_if_no_progress with_reducible apply Kept.free
    | fail_if_no_progress (with_reducible refine Kept.updRegs ?_ (fun hk => ?_)) <;> try with_reducible exact hk.regs
    | fail_if_no_progress (with_reducible refine Kept.updSd ?_ (fun hk => ?_)) <;> try with_reducible exact hk.sd
    | fail_if_no_progress (with_reducible refine Kept.updSatchel ?_ (fun hk => ?_)) <;> try with_reducible exact hk.satchel
    | with_reducible rfl
    | split
    | dsimp only; split

theorem State.attestRequest_kept {q : List Instr} (s : State) (nonce : List Nat) (h : Kept q s) :
    Kept q (State.attestRequest s nonce) := by
  unfold State.attestRequest
  repeat' first
    | with_reducible assumption
    | with_reducible exact fun h => h
    | exact fun _ => rfl
    | intro _
    | with_reducible apply State.answer_kept
    | with_reducible apply Kept.ite
    | fail_if_no_progress with_reducible apply Kept.free
    | fail_if_no_progress (with_reducible refine Kept.updRegs ?_ (fun hk => ?_)) <;> try with_reducible exact hk.regs
    | fail_if_no_progress (with_reducible refine Kept.updSd ?_ (fun hk => ?_)) <;> try with_reducible exact hk.sd
    | fail_if_no_progress (with_reducible refine Kept.updSatchel ?_ (fun hk => ?_)) <;> try with_reducible exact hk.satchel
    | with_reducible rfl
    | with_reducible exact List.length_map _
    | split
    | (with_reducible apply Kept.free); split

theorem execAttestationRequest_kept {q : List Instr} (nonce : List Nat) (s : State) (h : Kept q s) :
    KeptOut q (execAttestationRequest nonce s) := by
  unfold execAttestationRequest
  repeat' first
    | with_reducible assumption
    | with_reducible apply KeptOut.next
    | intro _
    | with_reducible apply State.attestRequest_kept
    | split
    | dsimp only; split

theorem execAttestationComplete_kept {q : List Instr} (s : State) (h : Kept q s) :
    KeptOut q (execAttestationComplete s) := by
  unfold execAttestationComplete
  repeat' first
    | with_reducible assumption
    | with_reducible apply KeptOut.next
    | with_reducible exact fun h => h
    | exact fun _ => rfl
    | intro _
    | fail_if_no_progress with_reducible apply Kept.free
    | fail_if_no_progress (with_reducible refine Kept.updRegs ?_ (fun hk => ?_)) <;> try with_reducible exact hk.regs
    | fail_if_no_progress (with_reducible refine Kept.updSd ?_ (fun hk => ?_)) <;> try with_reducible exact hk.sd
    | fail_if_no_progress (with_reducible refine Kept.updSatchel ?_ (fun hk => ?_)) <;> try with_reducible exact hk.satchel
    | with_reducible rfl
    | split
    | dsimp only; split

end Sys2Proof.Machine
end

