-- ==== Sys2Proof/Laws/KeptPrefect.lean ====
section
/-!
SUPPORT. What every operation of Machine/Prefect.lean keeps (Laws/Kept.lean).
-/
namespace Sys2Proof.Machine

set_option linter.unusedTactic false
set_option linter.unreachableTactic false

theorem State.modPf_kept {q : List Instr} (s : State) (f : PrefectSt → PrefectSt) (h : Kept q s) :
    Kept q (State.modPf s f) := by
  unfold State.modPf
  repeat' first
    | with_reducible assumption
    | with_reducible exact fun h => h
    | exact fun _ => rfl
    | intro _
    | fail_if_no_progress with_reducible apply Kept.free
    | fail_if_no_progress (with_reducible refine Kept.updRegs ?_ (fun hk => ?_)) <;> try with_reducible exact hk.regs
    | fail_if_no_progress (with_reducible refine Kept.updSd ?_ (fun hk => ?_)) <;> try with_reducible exact hk.sd
    | fail_if_no_progress (with_reducible refine Kept.updSatchel ?_ (fun hk => ?_)) <;> try with_reducible exact hk.satchel
    | with_reducible rfl
    | split
    | (with_reducible apply Kept.free); split

theorem State.pfEvent_kept {q : List Instr} (s : State) (code : Nat) (chans : Nat) (h : Kept q s) :
    Kept q (State.pfEvent s code chans) := by
  unfold State.pfEvent
  repeat' first
    | with_reducible assumption
    | intro _
    | with_reducible apply State.emit_kept
    | split
    | (with_reducible apply Kept.free); split

theorem State.setPf_kept {q : List Instr} (s : State) (st : Nat) (h : Kept q s) :
    Kept q (State.setPf s st) := by
  unfold State.setPf
  repeat' first
    | with_reducible assumption
    | intro _
    | with_reducible apply State.setFld_kept
    | split
    | (with_reducible apply Kept.free); split

theorem State.pfAct_kept {q : List Instr} (s : State) (demand : Bool) (h : Kept q s) :
    Kept q (State.pfAct s demand) := by
  unfold State.pfAct
  repeat' first
    | with_reducible assumption
    | intro _
    | with_reducible apply State.modPf_kept
    | split
    | (with_reducible apply Kept.free); split

theorem State.pfFault_kept {q : List Instr} (s : State) (bit : Nat) (code : Nat) (chans : Nat) (h : Kept q s) :
    Kept q (State.pfFault s bit code chans) := by
  unfold State.pfFault
  repeat' first
    | with_reducible assumption
    | intro _
    | with_reducible apply State.modPf_kept
    | with_reducible apply State.count_kept
    | with_reducible apply State.setBit_kept
    | with_reducible apply State.setPf_kept
    | with_reducible apply State.pfAct_kept
    | with_reducible apply State.pfEvent_kept
    | with_reducible apply Kept.whenIf
    | with_reducible apply Kept.ite
    | split
    | (with_reducible apply Kept.free); split

theorem execTestPulseStart_kept {q : List Instr} (ch : Nat) (s : State) (h : Kept q s) :
    KeptOut q (execTestPulseStart ch s) := by
  unfold execTestPulseStart
  repeat' first
    | with_reducible assumption
    | with_reducible apply KeptOut.next
    | with_reducible apply KeptOut.ite
    | intro _
    | with_reducible apply State.modPf_kept
    | with_reducible apply Kept.ite
    | split
    | dsimp only; split

theorem execTestPulseEnd_kept {q : List Instr} (ch : Nat) (s : State) (h : Kept q s) :
    KeptOut q (execTestPulseEnd ch s) := by
  unfold execTestPulseEnd
  repeat' first
    | with_reducible assumption
    | with_reducible apply KeptOut.next
    | with_reducible apply KeptOut.ite
    | intro _
    | with_reducible apply State.modPf_kept
    | with_reducible apply Kept.ite
    | split
    | dsimp only; split

theorem execTestPulseCheck_kept {q : List Instr} (ch : Nat) (xReads : DualRead) (yReads : DualRead) (xStill : DualRead) (s
    : State) (h : Kept q s) :
    KeptOut q (execTestPulseCheck ch xReads yReads xStill s) := by
  unfold execTestPulseCheck
  repeat' first
    | with_reducible assumption
    | with_reducible apply KeptOut.next
    | with_reducible apply KeptOut.ite
    | intro _
    | with_reducible apply State.modPf_kept
    | with_reducible apply State.setFlag_kept
    | with_reducible apply State.pfFault_kept
    | with_reducible apply Kept.whenIf
    | with_reducible apply Kept.ite
    | split
    | dsimp only; split

theorem execFilteredDemand_kept {q : List Instr} (low : ChannelRead) (s : State) (h : Kept q s) :
    KeptOut q (execFilteredDemand low s) := by
  unfold execFilteredDemand
  repeat' first
    | with_reducible assumption
    | with_reducible apply KeptOut.next
    | with_reducible apply KeptOut.ite
    | intro _
    | with_reducible apply State.count_kept
    | with_reducible apply State.setFld_kept
    | with_reducible apply State.modPf_kept
    | with_reducible apply State.setPf_kept
    | with_reducible apply State.pfAct_kept
    | with_reducible apply Kept.whenIf
    | with_reducible apply Kept.ite
    | split
    | dsimp only; split

theorem execDiscrepancyFault_kept {q : List Instr} (ch : Nat) (s : State) (h : Kept q s) :
    KeptOut q (execDiscrepancyFault ch s) := by
  unfold execDiscrepancyFault
  repeat' first
    | with_reducible assumption
    | with_reducible apply KeptOut.next
    | with_reducible apply KeptOut.ite
    | intro _
    | with_reducible apply State.pfFault_kept
    | with_reducible apply Kept.ite
    | split
    | dsimp only; split

theorem execReadbackFault_kept {q : List Instr} (levels : DualRead) (s : State) (h : Kept q s) :
    KeptOut q (execReadbackFault levels s) := by
  unfold execReadbackFault
  repeat' first
    | with_reducible assumption
    | with_reducible apply KeptOut.next
    | with_reducible apply KeptOut.ite
    | intro _
    | with_reducible apply State.pfFault_kept
    | with_reducible apply Kept.ite
    | split
    | dsimp only; split

theorem execPrefectClockCheck_kept {q : List Instr} (count : Nat) (s : State) (h : Kept q s) :
    KeptOut q (execPrefectClockCheck count s) := by
  unfold execPrefectClockCheck
  repeat' first
    | with_reducible assumption
    | with_reducible apply KeptOut.next
    | with_reducible apply KeptOut.ite
    | intro _
    | with_reducible apply State.setFld_kept
    | with_reducible apply State.pfFault_kept
    | with_reducible apply Kept.whenIf
    | with_reducible apply Kept.ite
    | split
    | dsimp only; split

theorem execPrefectFaultClear_kept {q : List Instr} (s : State) (h : Kept q s) :
    KeptOut q (execPrefectFaultClear s) := by
  unfold execPrefectFaultClear
  repeat' first
    | with_reducible assumption
    | with_reducible apply KeptOut.next
    | with_reducible apply KeptOut.ite
    | intro _
    | with_reducible apply State.setFld_kept
    | with_reducible apply State.setPf_kept
    | with_reducible apply Kept.whenIf
    | with_reducible apply Kept.ite
    | split
    | dsimp only; split

theorem State.pfNotice_kept {q : List Instr} (s : State) (h : Kept q s) :
    Kept q (State.pfNotice s) := by
  unfold State.pfNotice
  repeat' first
    | with_reducible assumption
    | intro _
    | with_reducible apply State.clearOuten_kept
    | with_reducible apply State.setFld_kept
    | with_reducible apply Kept.each
    | split
    | (with_reducible apply Kept.free); split

theorem execPrefectNotice_kept {q : List Instr} (s : State) (h : Kept q s) :
    KeptOut q (execPrefectNotice s) := by
  unfold execPrefectNotice
  repeat' first
    | with_reducible assumption
    | with_reducible apply KeptOut.next
    | with_reducible apply KeptOut.ite
    | intro _
    | with_reducible apply State.pfNotice_kept
    | with_reducible apply State.modPf_kept
    | with_reducible apply Kept.ite
    | split
    | dsimp only; split

theorem State.pfForce_kept {q : List Instr} (s : State) (h : Kept q s) :
    Kept q (State.pfForce s) := by
  unfold State.pfForce
  repeat' first
    | with_reducible assumption
    | with_reducible exact fun h => h
    | exact fun _ => rfl
    | with_reducible exact SMap.wf_filter _
    | intro _
    | with_reducible apply State.modPf_kept
    | with_reducible apply State.padsOff_kept
    | with_reducible apply Kept.each
    | fail_if_no_progress with_reducible apply Kept.free
    | fail_if_no_progress (with_reducible refine Kept.updRegs ?_ (fun hk => ?_)) <;> try with_reducible exact hk.regs
    | fail_if_no_progress (with_reducible refine Kept.updSd ?_ (fun hk => ?_)) <;> try with_reducible exact hk.sd
    | fail_if_no_progress (with_reducible refine Kept.updSatchel ?_ (fun hk => ?_)) <;> try with_reducible exact hk.satchel
    | with_reducible rfl
    | split
    | (with_reducible apply Kept.free); split

theorem execPrefectForce_kept {q : List Instr} (s : State) (h : Kept q s) :
    KeptOut q (execPrefectForce s) := by
  unfold execPrefectForce
  repeat' first
    | with_reducible assumption
    | with_reducible apply KeptOut.next
    | with_reducible apply KeptOut.ite
    | intro _
    | with_reducible apply State.pfForce_kept
    | with_reducible apply State.modPf_kept
    | with_reducible apply State.pfEvent_kept
    | with_reducible apply Kept.whenIf
    | with_reducible apply Kept.ite
    | split
    | dsimp only; split

theorem execPrefectReleaseReady_kept {q : List Instr} (s : State) (h : Kept q s) :
    KeptOut q (execPrefectReleaseReady s) := by
  unfold execPrefectReleaseReady
  repeat' first
    | with_reducible assumption
    | with_reducible apply KeptOut.next
    | with_reducible apply KeptOut.ite
    | intro _
    | with_reducible apply State.setPf_kept
    | with_reducible apply State.setFld_kept
    | with_reducible apply State.modPf_kept
    | with_reducible apply Kept.ite
    | split
    | dsimp only; split

theorem State.pfRelease_kept {q : List Instr} (s : State) (key : Nat) (h : Kept q s) :
    Kept q (State.pfRelease s key) := by
  unfold State.pfRelease
  repeat' first
    | with_reducible assumption
    | intro _
    | with_reducible apply State.modPf_kept
    | with_reducible apply Kept.ite
    | split
    | (with_reducible apply Kept.free); split

theorem execPfRelWrite_kept {q : List Instr} (core : Nat) (key : Nat) (s : State) (h : Kept q s) :
    KeptOut q (execPfRelWrite core key s) := by
  unfold execPfRelWrite
  repeat' first
    | with_reducible assumption
    | with_reducible apply KeptOut.next
    | intro _
    | with_reducible apply State.access_kept
    | with_reducible apply State.pfRelease_kept
    | split
    | dsimp only; split

theorem execForceRelease_kept {q : List Instr} (s : State) (h : Kept q s) :
    KeptOut q (execForceRelease s) := by
  unfold execForceRelease
  repeat' first
    | with_reducible assumption
    | with_reducible apply KeptOut.next
    | with_reducible apply KeptOut.ite
    | with_reducible exact fun h => h
    | exact fun _ => rfl
    | intro _
    | with_reducible apply State.pfEvent_kept
    | with_reducible apply State.setPf_kept
    | with_reducible apply Kept.ite
    | fail_if_no_progress with_reducible apply Kept.free
    | fail_if_no_progress (with_reducible refine Kept.updRegs ?_ (fun hk => ?_)) <;> try with_reducible exact hk.regs
    | fail_if_no_progress (with_reducible refine Kept.updSd ?_ (fun hk => ?_)) <;> try with_reducible exact hk.sd
    | fail_if_no_progress (with_reducible refine Kept.updSatchel ?_ (fun hk => ?_)) <;> try with_reducible exact hk.satchel
    | with_reducible rfl
    | split
    | dsimp only; split

theorem execVpfGood_kept {q : List Instr} (s : State) (h : Kept q s) :
    KeptOut q (execVpfGood s) := by
  unfold execVpfGood
  repeat' first
    | with_reducible assumption
    | with_reducible apply KeptOut.next
    | with_reducible apply KeptOut.ite
    | intro _
    | with_reducible apply State.setFld_kept
    | with_reducible apply State.modPf_kept
    | with_reducible apply State.setPf_kept
    | with_reducible apply Kept.each
    | with_reducible apply Kept.ite
    | split
    | dsimp only; split

theorem execVpfFail_kept {q : List Instr} (s : State) (h : Kept q s) :
    KeptOut q (execVpfFail s) := by
  unfold execVpfFail
  repeat' first
    | with_reducible assumption
    | with_reducible apply KeptOut.next
    | with_reducible apply KeptOut.ite
    | intro _
    | with_reducible apply State.setPf_kept
    | with_reducible apply State.modPf_kept
    | with_reducible apply State.pfForce_kept
    | with_reducible apply State.fresh_kept
    | (with_reducible refine Kept.snd ?_ (by assumption)); with_reducible apply State.fresh_kept
    | with_reducible apply State.setFld_kept
    | with_reducible apply Kept.whenIf
    | with_reducible apply Kept.foldl
    | with_reducible apply Kept.ite
    | split
    | dsimp only; split

theorem execCfgswRead_kept {q : List Instr} (read : SwitchRead) (s : State) (h : Kept q s) :
    KeptOut q (execCfgswRead read s) := by
  unfold execCfgswRead
  repeat' first
    | with_reducible assumption
    | with_reducible apply KeptOut.next
    | with_reducible apply KeptOut.ite
    | intro _
    | with_reducible apply State.setFlag_kept
    | with_reducible apply State.setFld_kept
    | with_reducible apply State.modPf_kept
    | with_reducible apply Kept.ite
    | split
    | dsimp only; split

theorem execCfgswChange_kept {q : List Instr} (read : SwitchRead) (s : State) (h : Kept q s) :
    KeptOut q (execCfgswChange read s) := by
  unfold execCfgswChange
  repeat' first
    | with_reducible assumption
    | with_reducible apply KeptOut.next
    | with_reducible apply KeptOut.ite
    | intro _
    | with_reducible apply State.pfEvent_kept
    | with_reducible apply State.setFld_kept
    | with_reducible apply Kept.ite
    | split
    | dsimp only; split

theorem execPrefectSetDelivery_kept {q : List Instr} (s : State) (h : Kept q s) :
    KeptOut q (execPrefectSetDelivery s) := by
  unfold execPrefectSetDelivery
  repeat' first
    | with_reducible assumption
    | with_reducible apply KeptOut.next
    | with_reducible apply KeptOut.ite
    | intro _
    | with_reducible apply State.modPf_kept
    | with_reducible apply State.setPf_kept
    | with_reducible apply State.pfForce_kept
    | with_reducible apply State.setFld_kept
    | with_reducible apply State.pfEvent_kept
    | with_reducible apply Kept.whenIf
    | with_reducible apply Kept.each
    | with_reducible apply Kept.ite
    | split
    | dsimp only; split

theorem execSealOpened_kept {q : List Instr} (s : State) (h : Kept q s) :
    KeptOut q (execSealOpened s) := by
  unfold execSealOpened
  repeat' first
    | with_reducible assumption
    | with_reducible apply KeptOut.next
    | intro _
    | with_reducible apply State.pfEvent_kept
    | with_reducible apply State.setFld_kept
    | with_reducible apply Kept.whenIf
    | split
    | dsimp only; split

theorem execSealClosed_kept {q : List Instr} (s : State) (h : Kept q s) :
    KeptOut q (execSealClosed s) := by
  unfold execSealClosed
  repeat' first
    | with_reducible assumption
    | with_reducible apply KeptOut.next
    | unfold id; with_reducible assumption
    | intro _
    | with_reducible apply State.pfEvent_kept
    | with_reducible apply State.setFld_kept
    | with_reducible apply State.modPf_kept
    | with_reducible apply Kept.whenIf
    | split
    | dsimp only; split

theorem State.pfCommit_kept {q : List Instr} (s : State) (digest : Nat) (h : Kept q s) :
    Kept q (State.pfCommit s digest) := by
  unfold State.pfCommit
  repeat' first
    | with_reducible assumption
    | intro _
    | with_reducible apply State.setFld_kept
    | with_reducible apply Kept.ite
    | split
    | (with_reducible apply Kept.free); split

theorem execPfCommitWrite_kept {q : List Instr} (core : Nat) (digest : Nat) (s : State) (h : Kept q s) :
    KeptOut q (execPfCommitWrite core digest s) := by
  unfold execPfCommitWrite
  repeat' first
    | with_reducible assumption
    | with_reducible apply KeptOut.next
    | intro _
    | with_reducible apply State.access_kept
    | with_reducible apply State.pfCommit_kept
    | split
    | dsimp only; split

theorem execCommitArmTimeout_kept {q : List Instr} (s : State) (h : Kept q s) :
    KeptOut q (execCommitArmTimeout s) := by
  unfold execCommitArmTimeout
  repeat' first
    | with_reducible assumption
    | with_reducible apply KeptOut.next
    | with_reducible apply KeptOut.ite
    | intro _
    | with_reducible apply State.setFld_kept
    | with_reducible apply Kept.ite
    | split
    | dsimp only; split

theorem execCommissioningComplete_kept {q : List Instr} (s : State) (h : Kept q s) :
    KeptOut q (execCommissioningComplete s) := by
  unfold execCommissioningComplete
  repeat' first
    | with_reducible assumption
    | with_reducible apply KeptOut.next
    | with_reducible apply KeptOut.ite
    | intro _
    | with_reducible apply State.modPf_kept
    | with_reducible apply State.setFld_kept
    | with_reducible apply State.pfEvent_kept
    | with_reducible apply State.setPf_kept
    | with_reducible apply Kept.foldl
    | with_reducible apply Kept.ite
    | split
    | dsimp only; split

end Sys2Proof.Machine
end

