-- ==== Sys2Proof/Laws/KeptApply.lean ====
section
/-!
SUPPORT. What every operation of Machine/Apply.lean keeps (Laws/Kept.lean).
-/
namespace Sys2Proof.Machine

set_option linter.unusedTactic false
set_option linter.unreachableTactic false

theorem State.storeRecord_kept {q : List Instr} (s : State) (g : Nat) (seq : Nat) (entries : List Nat) (h : Kept q s) :
    Kept q (State.storeRecord s g seq entries) := by
  unfold State.storeRecord
  repeat' first
    | with_reducible assumption
    | with_reducible exact fun h => h
    | exact fun _ => rfl
    | with_reducible exact SMap.wf_filter _
    | intro _
    | with_reducible apply State.modGroup_kept
    | with_reducible apply State.mgmtEvent_kept
    | with_reducible apply State.libSubmit_kept
    | with_reducible apply Kept.whenIf
    | with_reducible apply Kept.ite
    | fail_if_no_progress with_reducible apply Kept.free
    | fail_if_no_progress (with_reducible refine Kept.updRegs ?_ (fun hk => ?_)) <;> try with_reducible exact hk.regs
    | fail_if_no_progress (with_reducible refine Kept.updDict ?_ (fun hk => DictOk.upd hk.dict ?_)) <;> try first | with_reducible rfl | with_reducible exact fun h => h
    | fail_if_no_progress (with_reducible refine Kept.updSd ?_ (fun hk => ?_)) <;> try with_reducible exact hk.sd
    | fail_if_no_progress (with_reducible refine Kept.updSatchel ?_ (fun hk => ?_)) <;> try with_reducible exact hk.satchel
    | with_reducible rfl
    | with_reducible refine Kept.groupsEq (q := q) ?_ ‹_›
    | split
    | (with_reducible apply Kept.free); split

theorem State.storeClassS_kept {q : List Instr} (s : State) (h : Kept q s) :
    Kept q (State.storeClassS s) := by
  unfold State.storeClassS
  repeat' first
    | with_reducible assumption
    | intro _
    | with_reducible apply State.storeRecord_kept
    | split
    | (with_reducible apply Kept.free); split

theorem State.takePending_kept {q : List Instr} (s : State) (g : Nat) (h : Kept q s) :
    Kept q (State.takePending s g) := by
  unfold State.takePending
  repeat' first
    | with_reducible assumption
    | intro _
    | with_reducible apply State.modGroup_kept
    | with_reducible apply State.modPm_kept
    | with_reducible apply State.setLocked_kept
    | with_reducible apply State.setEngWord_kept
    | with_reducible apply State.setVar_kept
    | with_reducible apply Kept.each
    | with_reducible apply Kept.ite
    | split
    | (with_reducible apply Kept.free); split

theorem State.modeApplied_kept {q : List Instr} (s : State) (was : Bool) (h : Kept q s) :
    Kept q (State.modeApplied s was) := by
  unfold State.modeApplied
  repeat' first
    | with_reducible assumption
    | with_reducible exact fun h => h
    | exact fun _ => rfl
    | intro _
    | with_reducible apply State.setWing_kept
    | with_reducible apply State.setLease_kept
    | with_reducible apply State.setPass_kept
    | with_reducible apply State.standbyReserve_kept
    | with_reducible apply Kept.whenIf
    | with_reducible apply Kept.each
    | with_reducible apply Kept.ite
    | fail_if_no_progress with_reducible apply Kept.free
    | fail_if_no_progress (with_reducible refine Kept.updRegs ?_ (fun hk => ?_)) <;> try with_reducible exact hk.regs
    | fail_if_no_progress (with_reducible refine Kept.updDup ?_ (fun hk => DupOk.upd hk.dup ?_ ?_)) <;> try first | with_reducible rfl | with_reducible exact fun h => h
    | fail_if_no_progress (with_reducible refine Kept.updSd ?_ (fun hk => ?_)) <;> try with_reducible exact hk.sd
    | fail_if_no_progress (with_reducible refine Kept.updSatchel ?_ (fun hk => ?_)) <;> try with_reducible exact hk.satchel
    | with_reducible rfl
    | with_reducible refine Kept.votersEq (q := q) ?_ ‹_›
    | with_reducible refine Kept.slotsDEq (q := q) ?_ ‹_›
    | split
    | (with_reducible apply Kept.free); split

theorem State.applyHook_kept {q : List Instr} (s : State) (was : State) (g : Nat) (h : Kept q s) (hwas : Kept q was) :
    Kept q (State.applyHook s was g) := by
  unfold State.applyHook
  repeat' first
    | with_reducible assumption
    | exact fun e he => he
    | exact fun e he => ⟨List.length_set.trans he.1, he.2⟩
    | exact fun e he => by simpa [Engine.Shaped] using he
    | exact fun e he => ⟨List.length_replicate, he.2⟩
    | exact fun e he => ⟨he.1, List.length_replicate⟩
    | exact fun e _ => ⟨rfl, rfl⟩
    | with_reducible exact fun h => h
    | exact fun _ => rfl
    | with_reducible exact SMap.wf_filter _
    | with_reducible refine Kept.memWf (q := q) ?_
    | with_reducible refine Kept.engsOk (q := q) ?_
    | intro _
    | with_reducible apply State.sarApplied_kept
    | with_reducible apply State.modApplied_kept
    | with_reducible apply State.compApplied_kept
    | with_reducible apply State.pwmApplied_kept
    | with_reducible apply State.setFlag_kept
    | with_reducible apply State.modEngine_kept
    | with_reducible apply State.gridSync_kept
    | with_reducible apply State.gridApplied_kept
    | with_reducible apply State.islApplied_kept
    | with_reducible apply State.mpptApplied_kept
    | with_reducible apply State.bursarApplied_kept
    | with_reducible apply State.modeApplied_kept
    | with_reducible apply Kept.whenIf
    | with_reducible apply Kept.each
    | fail_if_no_progress with_reducible apply Kept.free
    | fail_if_no_progress (with_reducible refine Kept.updRegs ?_ (fun hk => ?_)) <;> try with_reducible exact hk.regs
    | fail_if_no_progress (with_reducible refine Kept.updEng ?_ (fun hk => EngOk.upd hk.eng ?_ ?_ ?_)) <;> try first | with_reducible rfl | with_reducible exact fun h => h
    | fail_if_no_progress (with_reducible refine Kept.updSd ?_ (fun hk => ?_)) <;> try with_reducible exact hk.sd
    | fail_if_no_progress (with_reducible refine Kept.updSatchel ?_ (fun hk => ?_)) <;> try with_reducible exact hk.satchel
    | with_reducible rfl
    | with_reducible exact List.length_map _
    | with_reducible refine Kept.lowHoldEq (q := q) ?_ ‹_›
    | split
    | (with_reducible apply Kept.free); split

theorem State.mirrorSet_kept {q : List Instr} (s : State) (g : Nat) (pend : SMap) (old : SMap) (h : Kept q s) :
    Kept q (State.mirrorSet s g pend old) := by
  unfold State.mirrorSet
  repeat' first
    | with_reducible assumption
    | intro _
    | with_reducible apply State.standbyLeft_kept
    | with_reducible apply Kept.ite
    | split
    | (with_reducible apply Kept.free); split

theorem State.applyGroup_kept {q : List Instr} (s : State) (g : Nat) (h : Kept q s) :
    Kept q (State.applyGroup s g) := by
  unfold State.applyGroup
  repeat' first
    | with_reducible assumption
    | intro _
    | with_reducible apply State.applyHook_kept
    | with_reducible apply State.takePending_kept
    | with_reducible apply State.mirrorSet_kept
    | with_reducible apply State.modGroup_kept
    | with_reducible apply State.mgmtEvent_kept
    | with_reducible apply State.tellAskers_kept
    | with_reducible apply State.answer_kept
    | with_reducible apply State.storeRecord_kept
    | with_reducible apply State.releaseHeld_kept
    | with_reducible apply Kept.whenIf
    | with_reducible apply Kept.ite
    | split
    | (with_reducible apply Kept.free); split

theorem State.applyBell_kept {q : List Instr} (s : State) (group : Nat) (mask : Nat) (h : Kept q s) :
    Kept q (State.applyBell s group mask) := by
  unfold State.applyBell
  repeat' first
    | with_reducible assumption
    | with_reducible exact fun h => h
    | exact fun _ => rfl
    | intro _
    | with_reducible apply State.applyGroup_kept
    | with_reducible apply State.storeClassS_kept
    | with_reducible apply State.mgmtEvent_kept
    | with_reducible apply Kept.each
    | with_reducible apply Kept.ite
    | fail_if_no_progress with_reducible apply Kept.free
    | fail_if_no_progress (with_reducible refine Kept.updRegs ?_ (fun hk => ?_)) <;> try with_reducible exact hk.regs
    | fail_if_no_progress (with_reducible refine Kept.updDict ?_ (fun hk => DictOk.upd hk.dict ?_)) <;> try first | with_reducible rfl | with_reducible exact fun h => h
    | fail_if_no_progress (with_reducible refine Kept.updSd ?_ (fun hk => ?_)) <;> try with_reducible exact hk.sd
    | fail_if_no_progress (with_reducible refine Kept.updSatchel ?_ (fun hk => ?_)) <;> try with_reducible exact hk.satchel
    | with_reducible rfl
    | with_reducible refine Kept.groupsEq (q := q) ?_ ‹_›
    | split
    | (with_reducible apply Kept.free); split

end Sys2Proof.Machine
end

