-- ==== Sys2Proof/Laws/KeptBell.lean ====
section
/-!
SUPPORT. What every operation of Machine/Bell.lean keeps (Laws/Kept.lean).
-/
namespace Sys2Proof.Machine

set_option linter.unusedTactic false
set_option linter.unreachableTactic false

theorem State.ring_kept {q : List Instr} (s : State) (w : BellWord) (h : Kept q s) :
    Kept q (State.ring s w) := by
  unfold State.ring
  repeat' first
    | with_reducible assumption
    | with_reducible exact fun h => h
    | exact fun _ => rfl
    | intro _
    | with_reducible apply State.setFld_kept
    | with_reducible apply Kept.ite
    | fail_if_no_progress with_reducible apply Kept.free
    | fail_if_no_progress (with_reducible refine Kept.updRegs ?_ (fun hk => ?_)) <;> try with_reducible exact hk.regs
    | fail_if_no_progress (with_reducible refine Kept.updSd ?_ (fun hk => ?_)) <;> try with_reducible exact hk.sd
    | fail_if_no_progress (with_reducible refine Kept.updSatchel ?_ (fun hk => ?_)) <;> try with_reducible exact hk.satchel
    | with_reducible rfl
    | split
    | (with_reducible apply Kept.free); split

theorem State.barrierBell_kept {q : List Instr} (s : State) (ident : Nat) (h : Kept q s) :
    Kept q (State.barrierBell s ident) := by
  unfold State.barrierBell
  repeat' first
    | with_reducible assumption
    | with_reducible exact fun h => h
    | exact fun _ => rfl
    | intro _
    | fail_if_no_progress with_reducible apply Kept.free
    | fail_if_no_progress (with_reducible refine Kept.updRegs ?_ (fun hk => ?_)) <;> try with_reducible exact hk.regs
    | fail_if_no_progress (with_reducible refine Kept.updDict ?_ (fun hk => DictOk.upd hk.dict ?_)) <;> try first | with_reducible rfl | with_reducible exact fun h => h
    | fail_if_no_progress (with_reducible refine Kept.updSd ?_ (fun hk => ?_)) <;> try with_reducible exact hk.sd
    | fail_if_no_progress (with_reducible refine Kept.updSatchel ?_ (fun hk => ?_)) <;> try with_reducible exact hk.satchel
    | with_reducible rfl
    | with_reducible refine Kept.groupsEq (q := q) ?_ ‹_›
    | split
    | (with_reducible apply Kept.free); split

theorem State.tellRollCall_kept {q : List Instr} (s : State) (h : Kept q s) :
    Kept q (State.tellRollCall s) := by
  unfold State.tellRollCall
  repeat' first
    | with_reducible assumption
    | with_reducible exact fun h => h
    | exact fun _ => rfl
    | intro _
    | with_reducible apply State.tell_kept
    | with_reducible apply Kept.each
    | fail_if_no_progress with_reducible apply Kept.free
    | fail_if_no_progress (with_reducible refine Kept.updRegs ?_ (fun hk => ?_)) <;> try with_reducible exact hk.regs
    | fail_if_no_progress (with_reducible refine Kept.updDict ?_ (fun hk => DictOk.upd hk.dict ?_)) <;> try first | with_reducible rfl | with_reducible exact fun h => h
    | fail_if_no_progress (with_reducible refine Kept.updSd ?_ (fun hk => ?_)) <;> try with_reducible exact hk.sd
    | fail_if_no_progress (with_reducible refine Kept.updSatchel ?_ (fun hk => ?_)) <;> try with_reducible exact hk.satchel
    | with_reducible rfl
    | with_reducible refine Kept.groupsEq (q := q) ?_ ‹_›
    | split
    | (with_reducible apply Kept.free); split

theorem State.askRollCall_kept {q : List Instr} (s : State) (w : Wing) (h : Kept q s) :
    Kept q (State.askRollCall s w) := by
  unfold State.askRollCall
  repeat' first
    | with_reducible assumption
    | with_reducible exact fun h => h
    | exact fun _ => rfl
    | intro _
    | with_reducible apply State.requestBarrier_kept
    | with_reducible apply State.tellRollCall_kept
    | with_reducible apply Kept.ite
    | fail_if_no_progress with_reducible apply Kept.free
    | fail_if_no_progress (with_reducible refine Kept.updRegs ?_ (fun hk => ?_)) <;> try with_reducible exact hk.regs
    | fail_if_no_progress (with_reducible refine Kept.updDict ?_ (fun hk => DictOk.upd hk.dict ?_)) <;> try first | with_reducible rfl | with_reducible exact fun h => h
    | fail_if_no_progress (with_reducible refine Kept.updSd ?_ (fun hk => ?_)) <;> try with_reducible exact hk.sd
    | fail_if_no_progress (with_reducible refine Kept.updSatchel ?_ (fun hk => ?_)) <;> try with_reducible exact hk.satchel
    | with_reducible rfl
    | with_reducible refine Kept.groupsEq (q := q) ?_ ‹_›
    | split
    | (with_reducible apply Kept.free); split

theorem State.rollCallEnds_kept {q : List Instr} (s : State) (h : Kept q s) :
    Kept q (State.rollCallEnds s) := by
  unfold State.rollCallEnds
  repeat' first
    | with_reducible assumption
    | with_reducible exact fun h => h
    | exact fun _ => rfl
    | intro _
    | with_reducible apply State.tellRollCall_kept
    | with_reducible apply State.askRollCall_kept
    | with_reducible apply Kept.ite
    | fail_if_no_progress with_reducible apply Kept.free
    | fail_if_no_progress (with_reducible refine Kept.updRegs ?_ (fun hk => ?_)) <;> try with_reducible exact hk.regs
    | fail_if_no_progress (with_reducible refine Kept.updDict ?_ (fun hk => DictOk.upd hk.dict ?_)) <;> try first | with_reducible rfl | with_reducible exact fun h => h
    | fail_if_no_progress (with_reducible refine Kept.updSd ?_ (fun hk => ?_)) <;> try with_reducible exact hk.sd
    | fail_if_no_progress (with_reducible refine Kept.updSatchel ?_ (fun hk => ?_)) <;> try with_reducible exact hk.satchel
    | with_reducible rfl
    | with_reducible refine Kept.groupsEq (q := q) ?_ ‹_›
    | split
    | (with_reducible apply Kept.free); split

theorem State.barrierEnds_kept {q : List Instr} (s : State) (f : State → Barrier → State) (h : Kept q s) (hf : ∀ t, Kept q
    t → ∀ x1, Kept q (f t x1)) :
    Kept q (State.barrierEnds s f) := by
  unfold State.barrierEnds
  repeat' first
    | with_reducible assumption
    | with_reducible exact fun h => h
    | exact fun _ => rfl
    | intro _
    | with_reducible apply State.setFld_kept
    | with_reducible apply State.rollCallEnds_kept
    | with_reducible apply Kept.whenIf
    | with_reducible apply hf
    | fail_if_no_progress with_reducible apply Kept.free
    | fail_if_no_progress (with_reducible refine Kept.updRegs ?_ (fun hk => ?_)) <;> try with_reducible exact hk.regs
    | fail_if_no_progress (with_reducible refine Kept.updSd ?_ (fun hk => ?_)) <;> try with_reducible exact hk.sd
    | fail_if_no_progress (with_reducible refine Kept.updSatchel ?_ (fun hk => ?_)) <;> try with_reducible exact hk.satchel
    | with_reducible rfl
    | split
    | (with_reducible apply Kept.free); split

theorem execBarrierComplete_kept {q : List Instr} (s : State) (h : Kept q s) :
    KeptOut q (execBarrierComplete s) := by
  unfold execBarrierComplete
  repeat' first
    | with_reducible assumption
    | with_reducible apply KeptOut.next
    | intro _
    | with_reducible apply State.barrierEnds_kept
    | with_reducible apply State.setFld_kept
    | split
    | dsimp only; split

theorem execBarrierTimeout_kept {q : List Instr} (missing : Nat) (s : State) (h : Kept q s) :
    KeptOut q (execBarrierTimeout missing s) := by
  unfold execBarrierTimeout
  repeat' first
    | with_reducible assumption
    | with_reducible apply KeptOut.next
    | intro _
    | with_reducible apply State.barrierEnds_kept
    | with_reducible apply State.setFld_kept
    | with_reducible apply State.event_kept
    | split
    | dsimp only; split

theorem State.bellRequests_kept {q : List Instr} (s : State) (w : BellWord) (h : Kept q s) :
    Kept q (State.bellRequests s w) := by
  unfold State.bellRequests
  repeat' first
    | with_reducible assumption
    | intro _
    | with_reducible apply State.applyBell_kept
    | with_reducible apply State.bursarLatch_kept
    | with_reducible apply State.barrierBell_kept
    | with_reducible apply Kept.whenIf
    | split
    | (with_reducible apply Kept.free); split

theorem State.haltEngines_kept {q : List Instr} (s : State) (h : Kept q s) :
    Kept q (State.haltEngines s) := by
  unfold State.haltEngines
  repeat' first
    | with_reducible assumption
    | exact fun e he => he
    | exact fun e he => ⟨List.length_set.trans he.1, he.2⟩
    | exact fun e he => by simpa [Engine.Shaped] using he
    | exact fun e he => ⟨List.length_replicate, he.2⟩
    | exact fun e he => ⟨he.1, List.length_replicate⟩
    | exact fun e _ => ⟨rfl, rfl⟩
    | with_reducible exact fun h => h
    | exact fun _ => rfl
    | with_reducible refine Kept.itcmWf (q := q) ?_
    | with_reducible refine Kept.dtcmWf (q := q) ?_
    | intro _
    | with_reducible apply State.modEngine_kept
    | with_reducible apply State.settlePads_kept
    | with_reducible apply Kept.each
    | fail_if_no_progress with_reducible apply Kept.free
    | fail_if_no_progress (with_reducible refine Kept.updRegs ?_ (fun hk => ?_)) <;> try with_reducible exact hk.regs
    | fail_if_no_progress (with_reducible refine Kept.updTut ?_ (fun hk => TutOk.upd hk.tut ?_ ?_ ?_ ?_ ?_ ?_ ?_ ?_)) <;> try first | with_reducible rfl | with_reducible exact fun h => h
    | fail_if_no_progress (with_reducible refine Kept.updSd ?_ (fun hk => ?_)) <;> try with_reducible exact hk.sd
    | fail_if_no_progress (with_reducible refine Kept.updSatchel ?_ (fun hk => ?_)) <;> try with_reducible exact hk.satchel
    | with_reducible rfl
    | with_reducible refine Kept.mtcmpEq (q := q) ?_ ‹_›
    | with_reducible refine Kept.mtcmpHoldEq (q := q) ?_ ‹_›
    | with_reducible refine Kept.enteredEq (q := q) ?_ ‹_›
    | with_reducible refine Kept.lrEq (q := q) ?_ ‹_›
    | with_reducible refine Kept.mcauseEq (q := q) ?_ ‹_›
    | with_reducible refine Kept.mtvalEq (q := q) ?_ ‹_›
    | split
    | (with_reducible apply Kept.free); split

theorem State.countBell_kept {q : List Instr} (s : State) (h : Kept q s) :
    Kept q (State.countBell s) := by
  unfold State.countBell
  repeat' first
    | with_reducible assumption
    | with_reducible exact fun h => h
    | exact fun _ => rfl
    | with_reducible refine Kept.memWf (q := q) ?_
    | with_reducible refine Kept.engsOk (q := q) ?_
    | intro _
    | with_reducible apply State.setFld_kept
    | with_reducible apply State.fresh_kept
    | (with_reducible refine Kept.snd ?_ (by assumption)); with_reducible apply State.fresh_kept
    | with_reducible apply Kept.ite
    | fail_if_no_progress with_reducible apply Kept.free
    | fail_if_no_progress (with_reducible refine Kept.updRegs ?_ (fun hk => ?_)) <;> try with_reducible exact hk.regs
    | fail_if_no_progress (with_reducible refine Kept.updEng ?_ (fun hk => EngOk.upd hk.eng ?_ ?_ ?_)) <;> try first | with_reducible rfl | with_reducible exact fun h => h
    | fail_if_no_progress (with_reducible refine Kept.updSd ?_ (fun hk => ?_)) <;> try with_reducible exact hk.sd
    | fail_if_no_progress (with_reducible refine Kept.updSatchel ?_ (fun hk => ?_)) <;> try with_reducible exact hk.satchel
    | with_reducible rfl
    | with_reducible refine Kept.lowHoldEq (q := q) ?_ ‹_›
    | split
    | (with_reducible apply Kept.free); split

theorem State.chainOut_kept {q : List Instr} (s : State) (h : Kept q s) :
    Kept q (State.chainOut s) := by
  unfold State.chainOut
  repeat' first
    | with_reducible assumption
    | with_reducible exact fun h => h
    | exact fun _ => rfl
    | intro _
    | with_reducible apply State.syncSend_kept
    | with_reducible apply Kept.ite
    | fail_if_no_progress with_reducible apply Kept.free
    | fail_if_no_progress (with_reducible refine Kept.updRegs ?_ (fun hk => ?_)) <;> try with_reducible exact hk.regs
    | fail_if_no_progress (with_reducible refine Kept.updSd ?_ (fun hk => ?_)) <;> try with_reducible exact hk.sd
    | fail_if_no_progress (with_reducible refine Kept.updSatchel ?_ (fun hk => ?_)) <;> try with_reducible exact hk.satchel
    | with_reducible rfl
    | split
    | (with_reducible apply Kept.free); split

theorem State.periodBell_kept {q : List Instr} (s : State) (h : Kept q s) :
    Kept q (State.periodBell s) := by
  unfold State.periodBell
  repeat' first
    | with_reducible assumption
    | intro _
    | with_reducible apply State.countBell_kept
    | with_reducible apply State.enginesEnd_kept
    | with_reducible apply State.ring_kept
    | with_reducible apply State.takeoverBell_kept
    | with_reducible apply State.settleEntering_kept
    | with_reducible apply State.handoverBell_kept
    | with_reducible apply State.bellRequests_kept
    | with_reducible apply State.snapshotBell_kept
    | with_reducible apply State.bellOccurs_kept
    | with_reducible apply State.chainOut_kept
    | with_reducible apply State.haltEngines_kept
    | with_reducible apply State.raise_kept
    | with_reducible apply State.enginesDue_kept
    | with_reducible apply Kept.whenIf
    | with_reducible apply Kept.ite
    | split
    | (with_reducible apply Kept.free); split

theorem State.bellAlone_kept {q : List Instr} (s : State) (h : Kept q s) :
    Kept q (State.bellAlone s) := by
  unfold State.bellAlone
  repeat' first
    | with_reducible assumption
    | intro _
    | with_reducible apply State.bellRequests_kept
    | with_reducible apply State.ring_kept
    | with_reducible apply Kept.ite
    | split
    | (with_reducible apply Kept.free); split

theorem State.plainBell_kept {q : List Instr} (s : State) (h : Kept q s) :
    Kept q (State.plainBell s) := by
  unfold State.plainBell
  repeat' first
    | with_reducible assumption
    | intro _
    | with_reducible apply State.bellRequests_kept
    | with_reducible apply State.ring_kept
    | with_reducible apply Kept.ite
    | split
    | (with_reducible apply Kept.free); split

theorem State.chainHere_kept {q : List Instr} (s : State) (h : Kept q s) :
    Kept q (State.chainHere s) := by
  unfold State.chainHere
  repeat' first
    | with_reducible assumption
    | intro _
    | with_reducible apply State.fresh_kept
    | (with_reducible refine Kept.snd ?_ (by assumption)); with_reducible apply State.fresh_kept
    | with_reducible apply State.syncSend_kept
    | with_reducible apply State.periodBell_kept
    | with_reducible apply State.plainBell_kept
    | with_reducible apply Kept.ite
    | split
    | (with_reducible apply Kept.free); split

theorem execChainBell_kept {q : List Instr} (s : State) (h : Kept q s) :
    KeptOut q (execChainBell s) := by
  unfold execChainBell
  repeat' first
    | with_reducible assumption
    | with_reducible apply KeptOut.next
    | with_reducible apply KeptOut.ite
    | with_reducible exact fun h => h
    | exact fun _ => rfl
    | intro _
    | with_reducible apply State.chainHere_kept
    | with_reducible apply Kept.ite
    | fail_if_no_progress with_reducible apply Kept.free
    | fail_if_no_progress (with_reducible refine Kept.updRegs ?_ (fun hk => ?_)) <;> try with_reducible exact hk.regs
    | fail_if_no_progress (with_reducible refine Kept.updSd ?_ (fun hk => ?_)) <;> try with_reducible exact hk.sd
    | fail_if_no_progress (with_reducible refine Kept.updSatchel ?_ (fun hk => ?_)) <;> try with_reducible exact hk.satchel
    | with_reducible rfl
    | split
    | dsimp only; split

theorem State.trainingEnds_kept {q : List Instr} (s : State) (t : Training) (h : Kept q s) :
    Kept q (State.trainingEnds s t) := by
  unfold State.trainingEnds
  repeat' first
    | with_reducible assumption
    | with_reducible exact fun h => h
    | exact fun _ => rfl
    | intro _
    | with_reducible apply State.syncSend_kept
    | with_reducible apply State.chainHere_kept
    | with_reducible apply Kept.ite
    | fail_if_no_progress with_reducible apply Kept.free
    | fail_if_no_progress (with_reducible refine Kept.updRegs ?_ (fun hk => ?_)) <;> try with_reducible exact hk.regs
    | fail_if_no_progress (with_reducible refine Kept.updSd ?_ (fun hk => ?_)) <;> try with_reducible exact hk.sd
    | fail_if_no_progress (with_reducible refine Kept.updSatchel ?_ (fun hk => ?_)) <;> try with_reducible exact hk.satchel
    | with_reducible rfl
    | split
    | (with_reducible apply Kept.free); split

theorem execPeriodBell_kept {q : List Instr} (s : State) (h : Kept q s) :
    KeptOut q (execPeriodBell s) := by
  unfold execPeriodBell
  repeat' first
    | with_reducible assumption
    | with_reducible apply KeptOut.next
    | with_reducible apply KeptOut.ite
    | intro _
    | with_reducible apply State.periodBell_kept
    | with_reducible apply Kept.ite
    | split
    | dsimp only; split

theorem execHeadEvent_kept {q : List Instr} (m : Nat) (falling : Bool) (s : State) (h : Kept q s) :
    KeptOut q (execHeadEvent m falling s) := by
  unfold execHeadEvent
  repeat' first
    | with_reducible assumption
    | with_reducible apply KeptOut.next
    | with_reducible apply KeptOut.ite
    | with_reducible exact fun h => h
    | exact fun _ => rfl
    | with_reducible refine Kept.memWf (q := q) ?_
    | with_reducible refine Kept.engsOk (q := q) ?_
    | intro _
    | with_reducible apply State.setFld_kept
    | with_reducible apply State.periodBell_kept
    | with_reducible apply Kept.ite
    | fail_if_no_progress with_reducible apply Kept.free
    | fail_if_no_progress (with_reducible refine Kept.updRegs ?_ (fun hk => ?_)) <;> try with_reducible exact hk.regs
    | fail_if_no_progress (with_reducible refine Kept.updEng ?_ (fun hk => EngOk.upd hk.eng ?_ ?_ ?_)) <;> try first | with_reducible rfl | with_reducible exact fun h => h
    | fail_if_no_progress (with_reducible refine Kept.updSd ?_ (fun hk => ?_)) <;> try with_reducible exact hk.sd
    | fail_if_no_progress (with_reducible refine Kept.updSatchel ?_ (fun hk => ?_)) <;> try with_reducible exact hk.satchel
    | with_reducible rfl
    | with_reducible refine Kept.lowHoldEq (q := q) ?_ ‹_›
    | split
    | dsimp only; split

theorem execLessonFallback_kept {q : List Instr} (s : State) (h : Kept q s) :
    KeptOut q (execLessonFallback s) := by
  unfold execLessonFallback
  repeat' first
    | with_reducible assumption
    | with_reducible apply KeptOut.next
    | with_reducible apply KeptOut.ite
    | intro _
    | with_reducible apply State.periodBell_kept
    | with_reducible apply State.setFld_kept
    | with_reducible apply State.engEvent_kept
    | with_reducible apply Kept.ite
    | split
    | dsimp only; split

theorem State.bellReqWrite_kept {q : List Instr} (s : State) (who : Nat) (v : Nat) (h : Kept q s) :
    Kept q (State.bellReqWrite s who v) := by
  unfold State.bellReqWrite
  repeat' first
    | with_reducible assumption
    | intro _
    | with_reducible apply State.requestApply_kept
    | with_reducible apply State.discarded_kept
    | with_reducible apply State.requestLatch_kept
    | with_reducible apply State.requestBarrier_kept
    | with_reducible apply Kept.whenIf
    | with_reducible apply Kept.ite
    | split
    | (with_reducible apply Kept.free); split

theorem execBellReqApply_kept {q : List Instr} (core : Nat) (group : Nat) (s : State) (h : Kept q s) :
    KeptOut q (execBellReqApply core group s) := by
  unfold execBellReqApply
  repeat' first
    | with_reducible assumption
    | with_reducible apply KeptOut.next
    | with_reducible apply KeptOut.ite
    | intro _
    | with_reducible apply State.accessBlk_kept
    | with_reducible apply State.bellReqWrite_kept
    | with_reducible apply Kept.ite
    | split
    | dsimp only; split

theorem execBellReqJointApply_kept {q : List Instr} (core : Nat) (mask : Nat) (extra : Bool) (s : State) (h : Kept q s) :
    KeptOut q (execBellReqJointApply core mask extra s) := by
  unfold execBellReqJointApply
  repeat' first
    | with_reducible assumption
    | with_reducible apply KeptOut.next
    | intro _
    | with_reducible apply State.accessBlk_kept
    | with_reducible apply State.bellReqWrite_kept
    | split
    | dsimp only; split

theorem execBellReqLatch_kept {q : List Instr} (core : Nat) (points : Nat) (s : State) (h : Kept q s) :
    KeptOut q (execBellReqLatch core points s) := by
  unfold execBellReqLatch
  repeat' first
    | with_reducible assumption
    | with_reducible apply KeptOut.next
    | intro _
    | with_reducible apply State.accessBlk_kept
    | with_reducible apply State.bellReqWrite_kept
    | split
    | dsimp only; split

theorem execBellReqBarrier_kept {q : List Instr} (core : Nat) (ident : Nat) (s : State) (h : Kept q s) :
    KeptOut q (execBellReqBarrier core ident s) := by
  unfold execBellReqBarrier
  repeat' first
    | with_reducible assumption
    | with_reducible apply KeptOut.next
    | intro _
    | with_reducible apply State.accessBlk_kept
    | with_reducible apply State.bellReqWrite_kept
    | split
    | dsimp only; split

theorem execBellAlone_kept {q : List Instr} (s : State) (h : Kept q s) :
    KeptOut q (execBellAlone s) := by
  unfold execBellAlone
  repeat' first
    | with_reducible assumption
    | with_reducible apply KeptOut.next
    | intro _
    | with_reducible apply State.bellAlone_kept
    | split
    | dsimp only; split

theorem State.retireRoot_kept {q : List Instr} (s : State) (root : Nat) (h : Kept q s) :
    Kept q (State.retireRoot s root) := by
  unfold State.retireRoot
  repeat' first
    | with_reducible assumption
    | intro _
    | with_reducible apply State.event_kept
    | with_reducible apply State.consumeSpare_kept
    | with_reducible apply State.recordRepair_kept
    | with_reducible apply State.setFld_kept
    | with_reducible apply Kept.ite
    | split
    | (with_reducible apply Kept.free); split

theorem execBellCopyDivergence_kept {q : List Instr} (root : Nat) (s : State) (h : Kept q s) :
    KeptOut q (execBellCopyDivergence root s) := by
  unfold execBellCopyDivergence
  repeat' first
    | with_reducible assumption
    | with_reducible apply KeptOut.next
    | with_reducible apply KeptOut.ite
    | with_reducible exact fun h => h
    | exact fun _ => rfl
    | with_reducible exact SMap.wf_filter _
    | intro _
    | with_reducible apply State.event_kept
    | with_reducible apply State.count_kept
    | with_reducible apply State.retireRoot_kept
    | with_reducible apply Kept.whenIf
    | with_reducible apply Kept.ite
    | fail_if_no_progress with_reducible apply Kept.free
    | fail_if_no_progress (with_reducible refine Kept.updRegs ?_ (fun hk => ?_)) <;> try with_reducible exact hk.regs
    | fail_if_no_progress (with_reducible refine Kept.updSd ?_ (fun hk => ?_)) <;> try with_reducible exact hk.sd
    | fail_if_no_progress (with_reducible refine Kept.updSatchel ?_ (fun hk => ?_)) <;> try with_reducible exact hk.satchel
    | with_reducible rfl
    | split
    | dsimp only; split

end Sys2Proof.Machine
end

