-- ==== Sys2Proof/Laws/KeptPorts.lean ====
section
/-!
SUPPORT. What every operation of Machine/Ports.lean keeps (Laws/Kept.lean).
-/
namespace Sys2Proof.Machine

set_option linter.unusedTactic false
set_option linter.unreachableTactic false

theorem State.trainStart_kept {q : List Instr} (s : State) (h : Kept q s) :
    Kept q (State.trainStart s) := by
  unfold State.trainStart
  repeat' first
    | with_reducible assumption
    | with_reducible exact fun h => h
    | exact fun _ => rfl
    | intro _
    | with_reducible apply State.setFld_kept
    | with_reducible apply State.syncSend_kept
    | with_reducible apply Kept.ite
    | fail_if_no_progress with_reducible apply Kept.free
    | fail_if_no_progress (with_reducible refine Kept.updRegs ?_ (fun hk => ?_)) <;> try with_reducible exact hk.regs
    | fail_if_no_progress (with_reducible refine Kept.updSd ?_ (fun hk => ?_)) <;> try with_reducible exact hk.sd
    | fail_if_no_progress (with_reducible refine Kept.updSatchel ?_ (fun hk => ?_)) <;> try with_reducible exact hk.satchel
    | with_reducible rfl
    | split
    | (with_reducible apply Kept.free); split

theorem State.portStart_kept {q : List Instr} (s : State) (p : Nat) (h : Kept q s) :
    Kept q (State.portStart s p) := by
  unfold State.portStart
  repeat' first
    | with_reducible assumption
    | intro _
    | with_reducible apply State.setFld_kept
    | with_reducible apply State.trainStart_kept
    | with_reducible apply Kept.ite
    | split
    | (with_reducible apply Kept.free); split

theorem State.portStop_kept {q : List Instr} (s : State) (p : Nat) (h : Kept q s) :
    Kept q (State.portStop s p) := by
  unfold State.portStop
  repeat' first
    | with_reducible assumption
    | with_reducible exact fun h => h
    | exact fun _ => rfl
    | intro _
    | with_reducible apply State.setFld_kept
    | with_reducible apply Kept.ite
    | fail_if_no_progress with_reducible apply Kept.free
    | fail_if_no_progress (with_reducible refine Kept.updRegs ?_ (fun hk => ?_)) <;> try with_reducible exact hk.regs
    | fail_if_no_progress (with_reducible refine Kept.updSd ?_ (fun hk => ?_)) <;> try with_reducible exact hk.sd
    | fail_if_no_progress (with_reducible refine Kept.updSatchel ?_ (fun hk => ?_)) <;> try with_reducible exact hk.satchel
    | with_reducible rfl
    | split
    | (with_reducible apply Kept.free); split

theorem State.portEnSet_kept {q : List Instr} (s : State) (mask : Nat) (h : Kept q s) :
    Kept q (State.portEnSet s mask) := by
  unfold State.portEnSet
  repeat' first
    | with_reducible assumption
    | intro _
    | with_reducible apply State.setFld_kept
    | with_reducible apply State.portStart_kept
    | with_reducible apply State.portStop_kept
    | with_reducible apply Kept.each
    | with_reducible apply Kept.ite
    | split
    | (with_reducible apply Kept.free); split

theorem execPortEnWrite_kept {q : List Instr} (core : Nat) (mask : Nat) (s : State) (h : Kept q s) :
    KeptOut q (execPortEnWrite core mask s) := by
  unfold execPortEnWrite
  repeat' first
    | with_reducible assumption
    | with_reducible apply KeptOut.next
    | intro _
    | with_reducible apply State.access_kept
    | with_reducible apply State.portEnSet_kept
    | split
    | dsimp only; split

theorem execPortRestart_kept {q : List Instr} (p : Nat) (s : State) (h : Kept q s) :
    KeptOut q (execPortRestart p s) := by
  unfold execPortRestart
  repeat' first
    | with_reducible assumption
    | with_reducible apply KeptOut.next
    | with_reducible apply KeptOut.ite
    | with_reducible exact fun h => h
    | exact fun _ => rfl
    | intro _
    | with_reducible apply State.setBit_kept
    | with_reducible apply State.portStart_kept
    | with_reducible apply Kept.whenIf
    | with_reducible apply Kept.ite
    | fail_if_no_progress with_reducible apply Kept.free
    | fail_if_no_progress (with_reducible refine Kept.updRegs ?_ (fun hk => ?_)) <;> try with_reducible exact hk.regs
    | fail_if_no_progress (with_reducible refine Kept.updSd ?_ (fun hk => ?_)) <;> try with_reducible exact hk.sd
    | fail_if_no_progress (with_reducible refine Kept.updSatchel ?_ (fun hk => ?_)) <;> try with_reducible exact hk.satchel
    | with_reducible rfl
    | split
    | dsimp only; split

theorem execEthLinkChange_kept {q : List Instr} (p : Nat) (up : Bool) (spd : Nat) (fdx : Bool) (s : State) (h : Kept q s) :
    KeptOut q (execEthLinkChange p up spd fdx s) := by
  unfold execEthLinkChange
  repeat' first
    | with_reducible assumption
    | with_reducible apply KeptOut.next
    | with_reducible apply KeptOut.ite
    | intro _
    | with_reducible apply State.setFld_kept
    | with_reducible apply State.setFlag_kept
    | with_reducible apply Kept.ite
    | split
    | dsimp only; split

theorem State.ringReadsPoison_kept {q : List Instr} (s : State) (c : Consumer) (addr : Nat) (h : Kept q s) :
    Kept q (State.ringReadsPoison s c addr) := by
  unfold State.ringReadsPoison
  repeat' first
    | with_reducible assumption
    | intro _
    | with_reducible apply State.consumerSees_kept
    | with_reducible apply State.badRead_kept
    | split
    | (with_reducible apply Kept.free); split

theorem State.receive_kept {q : List Instr} (s : State) (q_1 : Nat) (frame : List Nat) (matched : Nat) (ts : Nat) (drop :
    State → State) (h : Kept q s) (hdrop : ∀ t, Kept q t → Kept q (drop t)) :
    Kept q (State.receive s q_1 frame matched ts drop) := by
  unfold State.receive
  repeat' first
    | with_reducible assumption
    | intro _
    | with_reducible apply State.produce_kept
    | with_reducible apply State.ringReadsPoison_kept
    | with_reducible apply State.setFld_kept
    | with_reducible apply State.count_kept
    | with_reducible apply Kept.ite
    | with_reducible apply hdrop
    | split
    | (with_reducible apply Kept.free); split

theorem execEthFrameReceive_kept {q : List Instr} (p : Nat) (frame : List Nat) (fcsOk : Bool) (ts : Nat) (s : State) (h :
    Kept q s) :
    KeptOut q (execEthFrameReceive p frame fcsOk ts s) := by
  unfold execEthFrameReceive
  repeat' first
    | with_reducible assumption
    | with_reducible apply KeptOut.next
    | with_reducible apply KeptOut.ite
    | intro _
    | with_reducible apply State.count_kept
    | with_reducible apply State.receive_kept
    | with_reducible apply Kept.ite
    | split
    | dsimp only; split

theorem State.canState_kept {q : List Instr} (s : State) (p : Nat) (h : Kept q s) :
    Kept q (State.canState s p) := by
  unfold State.canState
  repeat' first
    | with_reducible assumption
    | intro _
    | with_reducible apply State.setFld_kept
    | with_reducible apply Kept.ite
    | split
    | (with_reducible apply Kept.free); split

theorem State.canRec_kept {q : List Instr} (s : State) (p : Nat) (err : Bool) (h : Kept q s) :
    Kept q (State.canRec s p err) := by
  unfold State.canRec
  repeat' first
    | with_reducible assumption
    | intro _
    | with_reducible apply State.canState_kept
    | with_reducible apply State.setFld_kept
    | with_reducible apply Kept.ite
    | split
    | (with_reducible apply Kept.free); split

theorem State.canTec_kept {q : List Instr} (s : State) (p : Nat) (err : Bool) (h : Kept q s) :
    Kept q (State.canTec s p err) := by
  unfold State.canTec
  repeat' first
    | with_reducible assumption
    | intro _
    | with_reducible apply State.setFld_kept
    | with_reducible apply State.canState_kept
    | with_reducible apply Kept.ite
    | split
    | (with_reducible apply Kept.free); split

theorem State.canStore_kept {q : List Instr} (s : State) (p : Nat) (header : List Nat) (data : List Nat) (ts : Nat) (h :
    Kept q s) :
    Kept q (State.canStore s p header data ts) := by
  unfold State.canStore
  repeat' first
    | with_reducible assumption
    | unfold id; with_reducible assumption
    | intro _
    | with_reducible apply State.receive_kept
    | split
    | (with_reducible apply Kept.free); split

theorem execCanFrameReceive_kept {q : List Instr} (p : Nat) (ident : Nat) (ide : Bool) (fdf : Bool) (brs : Bool) (esi :
    Bool) (rtr : Bool) (dlc : Nat) (data : List Nat) (err : Bool) (ts : Nat) (s : State) (h : Kept q s) :
    KeptOut q (execCanFrameReceive p ident ide fdf brs esi rtr dlc data err ts s) := by
  unfold execCanFrameReceive
  repeat' first
    | with_reducible assumption
    | with_reducible apply KeptOut.next
    | with_reducible apply KeptOut.ite
    | intro _
    | with_reducible apply State.canRec_kept
    | with_reducible apply State.canStore_kept
    | with_reducible apply Kept.ite
    | split
    | dsimp only; split

theorem execCanBusOffRecovery_kept {q : List Instr} (p : Nat) (s : State) (h : Kept q s) :
    KeptOut q (execCanBusOffRecovery p s) := by
  unfold execCanBusOffRecovery
  repeat' first
    | with_reducible assumption
    | with_reducible apply KeptOut.next
    | with_reducible apply KeptOut.ite
    | intro _
    | with_reducible apply State.setFld_kept
    | with_reducible apply Kept.ite
    | split
    | dsimp only; split

theorem execNiujorFrameReceive_kept {q : List Instr} (dst : Nat) (src : Nat) (type : Nat) (payload : List Nat) (check :
    FrameCheck) (ts : Nat) (s : State) (h : Kept q s) :
    KeptOut q (execNiujorFrameReceive dst src type payload check ts s) := by
  unfold execNiujorFrameReceive
  repeat' first
    | with_reducible assumption
    | with_reducible apply KeptOut.next
    | with_reducible apply KeptOut.ite
    | unfold id; with_reducible assumption
    | with_reducible exact fun h => h
    | exact fun _ => rfl
    | intro _
    | with_reducible apply State.count_kept
    | with_reducible apply State.receive_kept
    | with_reducible apply Kept.ite
    | fail_if_no_progress with_reducible apply Kept.free
    | fail_if_no_progress (with_reducible refine Kept.updRegs ?_ (fun hk => ?_)) <;> try with_reducible exact hk.regs
    | fail_if_no_progress (with_reducible refine Kept.updSd ?_ (fun hk => ?_)) <;> try with_reducible exact hk.sd
    | fail_if_no_progress (with_reducible refine Kept.updSatchel ?_ (fun hk => ?_)) <;> try with_reducible exact hk.satchel
    | with_reducible rfl
    | split
    | dsimp only; split

theorem execNiujorCycleStart_kept {q : List Instr} (s : State) (h : Kept q s) :
    KeptOut q (execNiujorCycleStart s) := by
  unfold execNiujorCycleStart
  repeat' first
    | with_reducible assumption
    | with_reducible apply KeptOut.next
    | with_reducible apply KeptOut.ite
    | with_reducible exact fun h => h
    | exact fun _ => rfl
    | intro _
    | with_reducible apply State.peerSend_kept
    | with_reducible apply Kept.ite
    | fail_if_no_progress with_reducible apply Kept.free
    | fail_if_no_progress (with_reducible refine Kept.updRegs ?_ (fun hk => ?_)) <;> try with_reducible exact hk.regs
    | fail_if_no_progress (with_reducible refine Kept.updSd ?_ (fun hk => ?_)) <;> try with_reducible exact hk.sd
    | fail_if_no_progress (with_reducible refine Kept.updSatchel ?_ (fun hk => ?_)) <;> try with_reducible exact hk.satchel
    | with_reducible rfl
    | split
    | dsimp only; split

theorem execNiujorSlot_kept {q : List Instr} (s : State) (h : Kept q s) :
    KeptOut q (execNiujorSlot s) := by
  unfold execNiujorSlot
  repeat' first
    | with_reducible assumption
    | with_reducible apply KeptOut.next
    | with_reducible apply KeptOut.ite
    | with_reducible exact fun h => h
    | exact fun _ => rfl
    | intro _
    | with_reducible apply State.peerSend_kept
    | with_reducible apply Kept.ite
    | fail_if_no_progress with_reducible apply Kept.free
    | fail_if_no_progress (with_reducible refine Kept.updRegs ?_ (fun hk => ?_)) <;> try with_reducible exact hk.regs
    | fail_if_no_progress (with_reducible refine Kept.updSd ?_ (fun hk => ?_)) <;> try with_reducible exact hk.sd
    | fail_if_no_progress (with_reducible refine Kept.updSatchel ?_ (fun hk => ?_)) <;> try with_reducible exact hk.satchel
    | with_reducible rfl
    | split
    | dsimp only; split

theorem State.trainWrite_kept {q : List Instr} (s : State) (h : Kept q s) :
    Kept q (State.trainWrite s) := by
  unfold State.trainWrite
  repeat' first
    | with_reducible assumption
    | intro _
    | with_reducible apply State.trainStart_kept
    | with_reducible apply Kept.whenIf
    | split
    | (with_reducible apply Kept.free); split

theorem execPeerTrain_kept {q : List Instr} (core : Nat) (s : State) (h : Kept q s) :
    KeptOut q (execPeerTrain core s) := by
  unfold execPeerTrain
  repeat' first
    | with_reducible assumption
    | with_reducible apply KeptOut.next
    | intro _
    | with_reducible apply State.access_kept
    | with_reducible apply State.trainWrite_kept
    | split
    | dsimp only; split

theorem execTrainingWord_kept {q : List Instr} (marker : Nat) (pos : Nat) (check : Nat) (s : State) (h : Kept q s) :
    KeptOut q (execTrainingWord marker pos check s) := by
  unfold execTrainingWord
  repeat' first
    | with_reducible assumption
    | with_reducible apply KeptOut.next
    | with_reducible apply KeptOut.ite
    | with_reducible exact fun h => h
    | exact fun _ => rfl
    | intro _
    | with_reducible apply State.setFld_kept
    | with_reducible apply State.syncSend_kept
    | with_reducible apply Kept.ite
    | fail_if_no_progress with_reducible apply Kept.free
    | fail_if_no_progress (with_reducible refine Kept.updRegs ?_ (fun hk => ?_)) <;> try with_reducible exact hk.regs
    | fail_if_no_progress (with_reducible refine Kept.updSd ?_ (fun hk => ?_)) <;> try with_reducible exact hk.sd
    | fail_if_no_progress (with_reducible refine Kept.updSatchel ?_ (fun hk => ?_)) <;> try with_reducible exact hk.satchel
    | with_reducible rfl
    | split
    | dsimp only; split

theorem execHopPulse_kept {q : List Instr} (s : State) (h : Kept q s) :
    KeptOut q (execHopPulse s) := by
  unfold execHopPulse
  repeat' first
    | with_reducible assumption
    | with_reducible apply KeptOut.next
    | with_reducible apply KeptOut.ite
    | intro _
    | with_reducible apply State.peerSend_kept
    | with_reducible apply Kept.ite
    | split
    | dsimp only; split

theorem State.hopOf_kept {q : List Instr} (s : State) (rt : Nat) (h : Kept q s) :
    Kept q (State.hopOf s rt).2 := by
  unfold State.hopOf
  repeat' first
    | with_reducible assumption
    | intro _
    | with_reducible apply State.fresh_kept
    | (with_reducible refine Kept.snd ?_ (by assumption)); with_reducible apply State.fresh_kept
    | with_reducible apply Kept.ite
    | with_reducible apply Kept.iteSnd
    | dsimp only
    | split
    | (with_reducible apply Kept.free); split

theorem execTrainingEcho_kept {q : List Instr} (roundTrip : Nat) (s : State) (h : Kept q s) :
    KeptOut q (execTrainingEcho roundTrip s) := by
  unfold execTrainingEcho
  repeat' first
    | with_reducible assumption
    | with_reducible apply KeptOut.next
    | with_reducible apply KeptOut.ite
    | with_reducible exact fun h => h
    | exact fun _ => rfl
    | intro _
    | with_reducible apply State.hopOf_kept
    | (with_reducible refine Kept.snd ?_ (by assumption)); with_reducible apply State.hopOf_kept
    | with_reducible apply State.peerSend_kept
    | with_reducible apply State.trainingEnds_kept
    | with_reducible apply Kept.ite
    | fail_if_no_progress with_reducible apply Kept.free
    | fail_if_no_progress (with_reducible refine Kept.updRegs ?_ (fun hk => ?_)) <;> try with_reducible exact hk.regs
    | fail_if_no_progress (with_reducible refine Kept.updSd ?_ (fun hk => ?_)) <;> try with_reducible exact hk.sd
    | fail_if_no_progress (with_reducible refine Kept.updSatchel ?_ (fun hk => ?_)) <;> try with_reducible exact hk.satchel
    | with_reducible rfl
    | split
    | dsimp only; split

theorem execHopReport_kept {q : List Instr} (hop : Nat) (s : State) (h : Kept q s) :
    KeptOut q (execHopReport hop s) := by
  unfold execHopReport
  repeat' first
    | with_reducible assumption
    | with_reducible apply KeptOut.next
    | with_reducible apply KeptOut.ite
    | with_reducible exact fun h => h
    | exact fun _ => rfl
    | intro _
    | with_reducible apply State.setFld_kept
    | with_reducible apply State.syncSend_kept
    | with_reducible apply Kept.ite
    | fail_if_no_progress with_reducible apply Kept.free
    | fail_if_no_progress (with_reducible refine Kept.updRegs ?_ (fun hk => ?_)) <;> try with_reducible exact hk.regs
    | fail_if_no_progress (with_reducible refine Kept.updSd ?_ (fun hk => ?_)) <;> try with_reducible exact hk.sd
    | fail_if_no_progress (with_reducible refine Kept.updSatchel ?_ (fun hk => ?_)) <;> try with_reducible exact hk.satchel
    | with_reducible rfl
    | split
    | dsimp only; split

theorem execEchoTimeout_kept {q : List Instr} (s : State) (h : Kept q s) :
    KeptOut q (execEchoTimeout s) := by
  unfold execEchoTimeout
  repeat' first
    | with_reducible assumption
    | with_reducible apply KeptOut.next
    | with_reducible apply KeptOut.ite
    | intro _
    | with_reducible apply State.trainingEnds_kept
    | with_reducible apply State.setFld_kept
    | with_reducible apply State.peerSend_kept
    | with_reducible apply Kept.ite
    | split
    | dsimp only; split

theorem execPositionReport_kept {q : List Instr} (pos : Nat) (s : State) (h : Kept q s) :
    KeptOut q (execPositionReport pos s) := by
  unfold execPositionReport
  repeat' first
    | with_reducible assumption
    | with_reducible apply KeptOut.next
    | with_reducible apply KeptOut.ite
    | intro _
    | with_reducible apply State.trainingEnds_kept
    | with_reducible apply State.setFld_kept
    | with_reducible apply Kept.ite
    | split
    | dsimp only; split

theorem execTrainingTimeout_kept {q : List Instr} (s : State) (h : Kept q s) :
    KeptOut q (execTrainingTimeout s) := by
  unfold execTrainingTimeout
  repeat' first
    | with_reducible assumption
    | with_reducible apply KeptOut.next
    | with_reducible apply KeptOut.ite
    | intro _
    | with_reducible apply State.trainingEnds_kept
    | with_reducible apply Kept.ite
    | split
    | dsimp only; split

theorem State.mdioStart_kept {q : List Instr} (s : State) (phyad : Nat) (regad : Nat) (isWrite : Bool) (data : Nat) (h :
    Kept q s) :
    Kept q (State.mdioStart s phyad regad isWrite data) := by
  unfold State.mdioStart
  repeat' first
    | with_reducible assumption
    | with_reducible exact fun h => h
    | exact fun _ => rfl
    | intro _
    | with_reducible apply State.discarded_kept
    | with_reducible apply State.setFld_kept
    | with_reducible apply State.setFlag_kept
    | with_reducible apply Kept.ite
    | fail_if_no_progress with_reducible apply Kept.free
    | fail_if_no_progress (with_reducible refine Kept.updRegs ?_ (fun hk => ?_)) <;> try with_reducible exact hk.regs
    | fail_if_no_progress (with_reducible refine Kept.updSd ?_ (fun hk => ?_)) <;> try with_reducible exact hk.sd
    | fail_if_no_progress (with_reducible refine Kept.updSatchel ?_ (fun hk => ?_)) <;> try with_reducible exact hk.satchel
    | with_reducible rfl
    | split
    | (with_reducible apply Kept.free); split

theorem execEthMdioWrite_kept {q : List Instr} (core : Nat) (phyad : Nat) (regad : Nat) (isWrite : Bool) (data : Nat) (s :
    State) (h : Kept q s) :
    KeptOut q (execEthMdioWrite core phyad regad isWrite data s) := by
  unfold execEthMdioWrite
  repeat' first
    | with_reducible assumption
    | with_reducible apply KeptOut.next
    | intro _
    | with_reducible apply State.access_kept
    | with_reducible apply State.mdioStart_kept
    | split
    | dsimp only; split

theorem execMdioFrameComplete_kept {q : List Instr} (data : Nat) (s : State) (h : Kept q s) :
    KeptOut q (execMdioFrameComplete data s) := by
  unfold execMdioFrameComplete
  repeat' first
    | with_reducible assumption
    | with_reducible apply KeptOut.next
    | with_reducible apply KeptOut.ite
    | with_reducible exact fun h => h
    | exact fun _ => rfl
    | intro _
    | with_reducible apply State.setFld_kept
    | with_reducible apply Kept.ite
    | fail_if_no_progress with_reducible apply Kept.free
    | fail_if_no_progress (with_reducible refine Kept.updRegs ?_ (fun hk => ?_)) <;> try with_reducible exact hk.regs
    | fail_if_no_progress (with_reducible refine Kept.updSd ?_ (fun hk => ?_)) <;> try with_reducible exact hk.sd
    | fail_if_no_progress (with_reducible refine Kept.updSatchel ?_ (fun hk => ?_)) <;> try with_reducible exact hk.satchel
    | with_reducible rfl
    | split
    | dsimp only; split

theorem State.ringOwned_kept {q : List Instr} (s : State) (core : Nat) (q_2 : Nat) (addr : Nat) (f : State → State) (h :
    Kept q s) (hf : ∀ t, Kept q t → Kept q (f t)) :
    Kept q (State.ringOwned s core q_2 addr f) := by
  unfold State.ringOwned
  repeat' first
    | with_reducible assumption
    | intro _
    | with_reducible apply State.access_kept
    | with_reducible apply State.discarded_kept
    | with_reducible apply Kept.ite
    | with_reducible apply hf
    | split
    | (with_reducible apply Kept.free); split

theorem State.ringCfgSet_kept {q : List Instr} (s : State) (q_1 : Nat) (v : Nat) (h : Kept q s) :
    Kept q (State.ringCfgSet s q_1 v) := by
  unfold State.ringCfgSet
  repeat' first
    | with_reducible assumption
    | intro _
    | with_reducible apply State.setFld_kept
    | with_reducible apply State.setFlag_kept
    | with_reducible apply State.discarded_kept
    | with_reducible apply Kept.ite
    | split
    | (with_reducible apply Kept.free); split

theorem execRingCfgWrite_kept {q : List Instr} (core : Nat) (q_1 : Nat) (value : Nat) (s : State) (h : Kept q s) :
    KeptOut q (execRingCfgWrite core q_1 value s) := by
  unfold execRingCfgWrite
  repeat' first
    | with_reducible assumption
    | with_reducible apply KeptOut.next
    | with_reducible apply KeptOut.ite
    | intro _
    | with_reducible apply State.ringOwned_kept
    | with_reducible apply State.ringCfgSet_kept
    | with_reducible apply Kept.ite
    | split
    | dsimp only; split

theorem State.ringHeadSet_kept {q : List Instr} (s : State) (q_1 : Nat) (v : Nat) (h : Kept q s) :
    Kept q (State.ringHeadSet s q_1 v) := by
  unfold State.ringHeadSet
  repeat' first
    | with_reducible assumption
    | intro _
    | with_reducible apply State.setFld_kept
    | with_reducible apply Kept.ite
    | split
    | (with_reducible apply Kept.free); split

theorem execRingHeadWrite_kept {q : List Instr} (core : Nat) (q_1 : Nat) (head : Nat) (s : State) (h : Kept q s) :
    KeptOut q (execRingHeadWrite core q_1 head s) := by
  unfold execRingHeadWrite
  repeat' first
    | with_reducible assumption
    | with_reducible apply KeptOut.next
    | with_reducible apply KeptOut.ite
    | intro _
    | with_reducible apply State.ringOwned_kept
    | with_reducible apply State.ringHeadSet_kept
    | with_reducible apply Kept.ite
    | split
    | dsimp only; split

theorem State.lateEpochEvent_kept {q : List Instr} (s : State) (h : Kept q s) :
    Kept q (State.lateEpochEvent s) := by
  unfold State.lateEpochEvent
  repeat' first
    | with_reducible assumption
    | with_reducible exact fun h => h
    | exact fun _ => rfl
    | intro _
    | with_reducible apply State.event_kept
    | with_reducible apply Kept.ite
    | fail_if_no_progress with_reducible apply Kept.free
    | fail_if_no_progress (with_reducible refine Kept.updRegs ?_ (fun hk => ?_)) <;> try with_reducible exact hk.regs
    | fail_if_no_progress (with_reducible refine Kept.updSd ?_ (fun hk => ?_)) <;> try with_reducible exact hk.sd
    | fail_if_no_progress (with_reducible refine Kept.updSatchel ?_ (fun hk => ?_)) <;> try with_reducible exact hk.satchel
    | with_reducible rfl
    | split
    | (with_reducible apply Kept.free); split

theorem State.q10Passed_kept {q : List Instr} (s : State) (second : Bool) (n : Nat) (h : Kept q s) :
    Kept q (State.q10Passed s second n) := by
  unfold State.q10Passed
  repeat' first
    | with_reducible assumption
    | with_reducible exact fun h => h
    | exact fun _ => rfl
    | intro _
    | with_reducible apply State.lateEpochEvent_kept
    | with_reducible apply Kept.ite
    | fail_if_no_progress with_reducible apply Kept.free
    | fail_if_no_progress (with_reducible refine Kept.updRegs ?_ (fun hk => ?_)) <;> try with_reducible exact hk.regs
    | fail_if_no_progress (with_reducible refine Kept.updSd ?_ (fun hk => ?_)) <;> try with_reducible exact hk.sd
    | fail_if_no_progress (with_reducible refine Kept.updSatchel ?_ (fun hk => ?_)) <;> try with_reducible exact hk.satchel
    | with_reducible rfl
    | split
    | (with_reducible apply Kept.free); split

theorem State.q10TailSet_kept {q : List Instr} (s : State) (second : Bool) (v : Nat) (h : Kept q s) :
    Kept q (State.q10TailSet s second v) := by
  unfold State.q10TailSet
  repeat' first
    | with_reducible assumption
    | intro _
    | with_reducible apply State.q10Passed_kept
    | with_reducible apply State.setFld_kept
    | with_reducible apply Kept.ite
    | split
    | (with_reducible apply Kept.free); split

theorem State.ringTailSet_kept {q : List Instr} (s : State) (q_1 : Nat) (v : Nat) (h : Kept q s) :
    Kept q (State.ringTailSet s q_1 v) := by
  unfold State.ringTailSet
  repeat' first
    | with_reducible assumption
    | intro _
    | with_reducible apply State.q10TailSet_kept
    | with_reducible apply State.setFld_kept
    | with_reducible apply Kept.ite
    | split
    | (with_reducible apply Kept.free); split

theorem State.ringResume_kept {q : List Instr} (s : State) (q_1 : Nat) (h : Kept q s) :
    Kept q (State.ringResume s q_1) := by
  unfold State.ringResume
  repeat' first
    | with_reducible assumption
    | intro _
    | with_reducible apply State.setFld_kept
    | split
    | (with_reducible apply Kept.free); split

theorem execRingHaltClear_kept {q : List Instr} (core : Nat) (q_1 : Nat) (s : State) (h : Kept q s) :
    KeptOut q (execRingHaltClear core q_1 s) := by
  unfold execRingHaltClear
  repeat' first
    | with_reducible assumption
    | with_reducible apply KeptOut.next
    | with_reducible apply KeptOut.ite
    | intro _
    | with_reducible apply State.ringOwned_kept
    | with_reducible apply State.ringResume_kept
    | with_reducible apply Kept.ite
    | split
    | dsimp only; split

theorem State.takeDesc_kept {q : List Instr} (s : State) (q_1 : Nat) (i : Nat) (h : Kept q s) :
    Kept q (State.takeDesc s q_1 i) := by
  unfold State.takeDesc
  repeat' first
    | with_reducible assumption
    | with_reducible exact fun h => h
    | exact fun _ => rfl
    | intro _
    | with_reducible apply State.ringReadsPoison_kept
    | with_reducible apply State.finish_kept
    | with_reducible apply State.violation_kept
    | with_reducible apply Kept.ite
    | fail_if_no_progress with_reducible apply Kept.free
    | fail_if_no_progress (with_reducible refine Kept.updRegs ?_ (fun hk => ?_)) <;> try with_reducible exact hk.regs
    | fail_if_no_progress (with_reducible refine Kept.updSd ?_ (fun hk => ?_)) <;> try with_reducible exact hk.sd
    | fail_if_no_progress (with_reducible refine Kept.updSatchel ?_ (fun hk => ?_)) <;> try with_reducible exact hk.satchel
    | with_reducible rfl
    | split
    | (with_reducible apply Kept.free); split

theorem execDescriptorProcess_kept {q : List Instr} (s : State) (h : Kept q s) :
    KeptOut q (execDescriptorProcess s) := by
  unfold execDescriptorProcess
  repeat' first
    | with_reducible assumption
    | with_reducible apply KeptOut.next
    | with_reducible exact fun h => h
    | exact fun _ => rfl
    | intro _
    | with_reducible apply State.setFld_kept
    | with_reducible apply State.takeDesc_kept
    | fail_if_no_progress with_reducible apply Kept.free
    | fail_if_no_progress (with_reducible refine Kept.updRegs ?_ (fun hk => ?_)) <;> try with_reducible exact hk.regs
    | fail_if_no_progress (with_reducible refine Kept.updSd ?_ (fun hk => ?_)) <;> try with_reducible exact hk.sd
    | fail_if_no_progress (with_reducible refine Kept.updSatchel ?_ (fun hk => ?_)) <;> try with_reducible exact hk.satchel
    | with_reducible rfl
    | split
    | dsimp only; split

theorem State.canSent_kept {q : List Instr} (s : State) (p : Nat) (code : Nat) (d : Desc) (ts : Nat) (h : Kept q s) :
    Kept q (State.canSent s p code d ts) := by
  unfold State.canSent
  repeat' first
    | with_reducible assumption
    | intro _
    | with_reducible apply State.canTec_kept
    | with_reducible apply State.canStore_kept
    | with_reducible apply Kept.ite
    | split
    | (with_reducible apply Kept.free); split

theorem execDescriptorComplete_kept {q : List Instr} (q_0 : Nat) (code : Nat) (ts : Nat) (s : State) (h : Kept q s) :
    KeptOut q (execDescriptorComplete q_0 code ts s) := by
  unfold execDescriptorComplete
  repeat' first
    | with_reducible assumption
    | with_reducible apply KeptOut.next
    | with_reducible apply KeptOut.ite
    | intro _
    | with_reducible apply State.finish_kept
    | with_reducible apply State.canSent_kept
    | with_reducible apply Kept.ite
    | split
    | dsimp only; split

theorem execCaptureBufferComplete_kept {q : List Instr} (a : Nat) (s : State) (h : Kept q s) :
    KeptOut q (execCaptureBufferComplete a s) := by
  unfold execCaptureBufferComplete
  repeat' first
    | with_reducible assumption
    | with_reducible apply KeptOut.next
    | with_reducible apply KeptOut.ite
    | intro _
    | with_reducible apply State.captureDone_kept
    | with_reducible apply Kept.ite
    | split
    | dsimp only; split

theorem State.cryptoEnds_kept {q : List Instr} (s : State) (t : Taken) (result : Nat) (h : Kept q s) :
    Kept q (State.cryptoEnds s t result) := by
  unfold State.cryptoEnds
  repeat' first
    | with_reducible assumption
    | intro _
    | with_reducible apply State.satWrite_kept
    | (with_reducible refine Kept.snd ?_ (by assumption)); with_reducible apply State.satWrite_kept
    | with_reducible apply State.finish_kept
    | with_reducible apply Kept.ite
    | split
    | (with_reducible apply Kept.free); split

theorem State.crypto_kept {q : List Instr} (s : State) (op : Nat) (f : State → List Nat → Nat × State) (h : Kept q s) (hf :
    ∀ t, Kept q t → ∀ x1, Kept q (f t x1).2) :
    Kept q (State.crypto s op f) := by
  unfold State.crypto
  repeat' first
    | with_reducible assumption
    | intro _
    | with_reducible apply State.finish_kept
    | with_reducible apply State.cryptoEnds_kept
    | with_reducible apply Kept.ite
    | with_reducible apply hf
    | split
    | (with_reducible apply Kept.free); split

theorem execCryptoHash_kept {q : List Instr} (s : State) (h : Kept q s) :
    KeptOut q (execCryptoHash s) := by
  unfold execCryptoHash
  repeat' first
    | with_reducible assumption
    | with_reducible apply KeptOut.next
    | intro _
    | with_reducible apply State.crypto_kept
    | split
    | dsimp only; split

theorem execCryptoVerify_kept {q : List Instr} (s : State) (h : Kept q s) :
    KeptOut q (execCryptoVerify s) := by
  unfold execCryptoVerify
  repeat' first
    | with_reducible assumption
    | with_reducible apply KeptOut.next
    | with_reducible apply KeptOut.ite
    | intro _
    | with_reducible apply State.crypto_kept
    | with_reducible apply State.fresh_kept
    | (with_reducible refine Kept.snd ?_ (by assumption)); with_reducible apply State.fresh_kept
    | with_reducible apply Kept.ite
    | split
    | dsimp only; split

end Sys2Proof.Machine
end

