-- ==== Sys2Proof/Laws/KeptMemory.lean ====
section
/-!
SUPPORT. What every operation of Machine/Memory.lean keeps (Laws/Kept.lean).
-/
namespace Sys2Proof.Machine

set_option linter.unusedTactic false
set_option linter.unreachableTactic false

theorem State.breakLr_kept {q : List Instr} (s : State) (region : Nat) (w : Wing) (granule : Nat) (h : Kept q s) :
    Kept q (State.breakLr s region w granule) := by
  unfold State.breakLr
  repeat' first
    | with_reducible assumption
    | with_reducible exact fun h => h
    | exact fun _ => rfl
    | with_reducible refine Kept.itcmWf (q := q) ?_
    | with_reducible refine Kept.dtcmWf (q := q) ?_
    | intro _
    | with_reducible apply Kept.ite
    | fail_if_no_progress with_reducible apply Kept.free
    | fail_if_no_progress (with_reducible refine Kept.updRegs ?_ (fun hk => ?_)) <;> try with_reducible exact hk.regs
    | fail_if_no_progress (with_reducible refine Kept.updTut ?_ (fun hk => TutOk.upd hk.tut ?_ ?_ ?_ ?_ ?_ ?_ ?_ ?_)) <;> try first | with_reducible rfl | with_reducible exact fun h => h
    | fail_if_no_progress (with_reducible refine Kept.updSd ?_ (fun hk => ?_)) <;> try with_reducible exact hk.sd
    | fail_if_no_progress (with_reducible refine Kept.updSatchel ?_ (fun hk => ?_)) <;> try with_reducible exact hk.satchel
    | with_reducible rfl
    | with_reducible exact List.length_map _
    | with_reducible exact (List.length_map _).trans List.length_zipIdx
    | with_reducible refine Kept.mtcmpEq (q := q) ?_ ‹_›
    | with_reducible refine Kept.mtcmpHoldEq (q := q) ?_ ‹_›
    | with_reducible refine Kept.enteredEq (q := q) ?_ ‹_›
    | with_reducible refine Kept.lrEq (q := q) ?_ ‹_›
    | with_reducible refine Kept.mcauseEq (q := q) ?_ ‹_›
    | with_reducible refine Kept.mtvalEq (q := q) ?_ ‹_›
    | split
    | (with_reducible apply Kept.free); split

theorem State.storeGuard_kept {q : List Instr} (s : State) (core : Nat) (mem : Nat) (word : Nat) (addr : Nat) (f : State →
    State) (h : Kept q s) (hf : ∀ t, Kept q t → Kept q (f t)) :
    Kept q (State.storeGuard s core mem word addr f) := by
  unfold State.storeGuard
  repeat' first
    | with_reducible assumption
    | intro _
    | with_reducible apply State.coreFault_kept
    | with_reducible apply State.badRead_kept
    | with_reducible apply Kept.ite
    | with_reducible apply hf
    | split
    | (with_reducible apply Kept.free); split

theorem State.memStore_kept {q : List Instr} (s : State) (core : Nat) (addr : Nat) (l : List Nat) (h : Kept q s) :
    Kept q (State.memStore s core addr l) := by
  unfold State.memStore
  repeat' first
    | with_reducible assumption
    | with_reducible exact fun h => h
    | exact fun _ => rfl
    | with_reducible exact putBytes_wf _ _ _
    | with_reducible refine Kept.itcmWf (q := q) ?_
    | with_reducible refine Kept.dtcmWf (q := q) ?_
    | with_reducible refine Kept.sramWf (q := q) ?_
    | intro _
    | with_reducible apply State.storeGuard_kept
    | with_reducible apply State.breakLr_kept
    | with_reducible apply State.satWrite_kept
    | (with_reducible refine Kept.snd ?_ (by assumption)); with_reducible apply State.satWrite_kept
    | with_reducible apply State.coreFault_kept
    | with_reducible apply State.badRead_kept
    | with_reducible apply Kept.ite
    | fail_if_no_progress with_reducible apply Kept.free
    | fail_if_no_progress (with_reducible refine Kept.updRegs ?_ (fun hk => ?_)) <;> try with_reducible exact hk.regs
    | fail_if_no_progress (with_reducible refine Kept.updTut ?_ (fun hk => TutOk.upd hk.tut ?_ ?_ ?_ ?_ ?_ ?_ ?_ ?_)) <;> try first | with_reducible rfl | with_reducible exact fun h => h
    | fail_if_no_progress (with_reducible refine Kept.updSd ?_ (fun hk => ?_)) <;> try with_reducible exact hk.sd
    | fail_if_no_progress (with_reducible refine Kept.updSatchel ?_ (fun hk => ?_)) <;> try with_reducible exact hk.satchel
    | fail_if_no_progress (with_reducible refine Kept.updCt ?_ (fun hk => CtOk.upd hk.ct ?_)) <;> try first | with_reducible rfl | with_reducible exact fun h => h
    | with_reducible rfl
    | with_reducible refine Kept.mtcmpEq (q := q) ?_ ‹_›
    | with_reducible refine Kept.mtcmpHoldEq (q := q) ?_ ‹_›
    | with_reducible refine Kept.enteredEq (q := q) ?_ ‹_›
    | with_reducible refine Kept.lrEq (q := q) ?_ ‹_›
    | with_reducible refine Kept.mcauseEq (q := q) ?_ ‹_›
    | with_reducible refine Kept.mtvalEq (q := q) ?_ ‹_›
    | split
    | (with_reducible apply Kept.free); split

theorem State.coreStore_kept {q : List Instr} (s : State) (core : Nat) (addr : Nat) (l : List Nat) (h : Kept q s) :
    Kept q (State.coreStore s core addr l) := by
  unfold State.coreStore
  repeat' first
    | with_reducible assumption
    | intro _
    | with_reducible apply State.access_kept
    | with_reducible apply State.coreFault_kept
    | with_reducible apply State.memStore_kept
    | with_reducible apply Kept.ite
    | split
    | (with_reducible apply Kept.free); split

theorem State.corePlace_kept {q : List Instr} (s : State) (core : Nat) (addr : Nat) (l : List Nat) (h : Kept q s) :
    Kept q (State.corePlace s core addr l).2 := by
  unfold State.corePlace
  repeat' first
    | with_reducible assumption
    | with_reducible exact fun h => h
    | exact fun _ => rfl
    | with_reducible exact putBytes_wf _ _ _
    | with_reducible refine Kept.itcmWf (q := q) ?_
    | with_reducible refine Kept.dtcmWf (q := q) ?_
    | intro _
    | with_reducible apply State.satWrite_kept
    | (with_reducible refine Kept.snd ?_ (by assumption)); with_reducible apply State.satWrite_kept
    | with_reducible apply Kept.ite
    | with_reducible apply Kept.iteSnd
    | fail_if_no_progress with_reducible apply Kept.free
    | fail_if_no_progress (with_reducible refine Kept.updRegs ?_ (fun hk => ?_)) <;> try with_reducible exact hk.regs
    | fail_if_no_progress (with_reducible refine Kept.updTut ?_ (fun hk => TutOk.upd hk.tut ?_ ?_ ?_ ?_ ?_ ?_ ?_ ?_)) <;> try first | with_reducible rfl | with_reducible exact fun h => h
    | fail_if_no_progress (with_reducible refine Kept.updSd ?_ (fun hk => ?_)) <;> try with_reducible exact hk.sd
    | fail_if_no_progress (with_reducible refine Kept.updSatchel ?_ (fun hk => ?_)) <;> try with_reducible exact hk.satchel
    | with_reducible rfl
    | with_reducible refine Kept.mtcmpEq (q := q) ?_ ‹_›
    | with_reducible refine Kept.mtcmpHoldEq (q := q) ?_ ‹_›
    | with_reducible refine Kept.enteredEq (q := q) ?_ ‹_›
    | with_reducible refine Kept.lrEq (q := q) ?_ ‹_›
    | with_reducible refine Kept.mcauseEq (q := q) ?_ ‹_›
    | with_reducible refine Kept.mtvalEq (q := q) ?_ ‹_›
    | dsimp only
    | split
    | (with_reducible apply Kept.free); split

end Sys2Proof.Machine
end

