-- ==== Sys2Proof/Laws/KeptRegWrite.lean ====
section
/-!
SUPPORT. What every operation of Machine/RegWrite.lean keeps (Laws/Kept.lean).
-/
namespace Sys2Proof.Machine

set_option linter.unusedTactic false
set_option linter.unreachableTactic false

theorem State.took_kept {q : List Instr} (s : State) (o : Out) (h : Kept q s) (ho : KeptOut q o) :
    Kept q (State.took s o) := by
  unfold State.took
  split
  · exact ho _ rfl
  · exact h

theorem State.fieldPut_kept {q : List Instr} (s : State) (r : RegDesc) (i : Nat) (v : Nat) (mask : Nat) (fa : FieldAt) (h :
    Kept q s) :
    Kept q (State.fieldPut s r i v mask fa) := by
  unfold State.fieldPut
  repeat' first
    | with_reducible assumption
    | intro _
    | with_reducible apply State.setFld_kept
    | with_reducible apply State.modGroup_kept
    | with_reducible apply Kept.whenIf
    | with_reducible apply Kept.ite
    | split
    | (with_reducible apply Kept.free); split

theorem State.fieldsPut_kept {q : List Instr} (s : State) (r : RegDesc) (i : Nat) (addr : Nat) (v : Nat) (mask : Nat) (h :
    Kept q s) :
    Kept q (State.fieldsPut s r i addr v mask) := by
  unfold State.fieldsPut
  repeat' first
    | with_reducible assumption
    | intro _
    | with_reducible apply State.fieldPut_kept
    | with_reducible apply State.discarded_kept
    | with_reducible apply Kept.whenIf
    | with_reducible apply Kept.each
    | split
    | (with_reducible apply Kept.free); split

theorem State.rtcSecWrite_kept {q : List Instr} (s : State) (v : Nat) (h : Kept q s) :
    Kept q (State.rtcSecWrite s v) := by
  unfold State.rtcSecWrite
  repeat' first
    | with_reducible assumption
    | with_reducible exact fun h => h
    | exact fun _ => rfl
    | with_reducible refine Kept.sramWf (q := q) ?_
    | intro _
    | with_reducible apply State.discarded_kept
    | with_reducible apply State.writeSpans_kept
    | with_reducible apply State.setFld_kept
    | with_reducible apply Kept.ite
    | fail_if_no_progress with_reducible apply Kept.free
    | fail_if_no_progress (with_reducible refine Kept.updRegs ?_ (fun hk => ?_)) <;> try with_reducible exact hk.regs
    | fail_if_no_progress (with_reducible refine Kept.updSd ?_ (fun hk => ?_)) <;> try with_reducible exact hk.sd
    | fail_if_no_progress (with_reducible refine Kept.updSatchel ?_ (fun hk => ?_)) <;> try with_reducible exact hk.satchel
    | fail_if_no_progress (with_reducible refine Kept.updCt ?_ (fun hk => CtOk.upd hk.ct ?_)) <;> try first | with_reducible rfl | with_reducible exact fun h => h
    | with_reducible rfl
    | split
    | (with_reducible apply Kept.free); split

theorem execRtcSecWrite_kept {q : List Instr} (core : Nat) (seconds : Nat) (s : State) (h : Kept q s) :
    KeptOut q (execRtcSecWrite core seconds s) := by
  unfold execRtcSecWrite
  repeat' first
    | with_reducible assumption
    | with_reducible apply KeptOut.next
    | intro _
    | with_reducible apply State.accessBlk_kept
    | with_reducible apply State.rtcSecWrite_kept
    | split
    | dsimp only; split

theorem State.entitledClear_kept {q : List Instr} (s : State) (w : Wing) (locked : Bool) (addr : Nat) (v : Nat) (h : Kept q
    s) :
    Kept q (State.entitledClear s w locked addr v) := by
  unfold State.entitledClear
  repeat' first
    | with_reducible assumption
    | intro _
    | with_reducible apply State.setFld_kept
    | with_reducible apply State.discarded_kept
    | with_reducible apply Kept.whenIf
    | with_reducible apply Kept.foldl
    | with_reducible apply Kept.ite
    | split
    | (with_reducible apply Kept.free); split

theorem State.hpCmdWrite_kept {q : List Instr} (s : State) (w : Wing) (v : Nat) (h : Kept q s) :
    Kept q (State.hpCmdWrite s w v) := by
  unfold State.hpCmdWrite
  repeat' first
    | with_reducible assumption
    | intro _
    | with_reducible apply State.fresh_kept
    | (with_reducible refine Kept.snd ?_ (by assumption)); with_reducible apply State.fresh_kept
    | with_reducible apply State.standbyCmd_kept
    | with_reducible apply State.wakeCmd_kept
    | with_reducible apply State.coldCmd_kept
    | with_reducible apply State.readyCmd_kept
    | with_reducible apply State.handoverCmd_kept
    | with_reducible apply State.cancelCmd_kept
    | with_reducible apply State.releaseCmd_kept
    | with_reducible apply State.acquireCmd_kept
    | with_reducible apply State.cmdDiscarded_kept
    | split
    | (with_reducible apply Kept.free); split

theorem State.bothCores_kept {q : List Instr} (s : State) (r : RegDesc) (i : Nat) (v : Nat) (mask : Nat) (h : Kept q s) :
    Kept q (State.bothCores s r i v mask) := by
  unfold State.bothCores
  repeat' first
    | with_reducible assumption
    | intro _
    | with_reducible apply State.fieldPut_kept
    | with_reducible apply Kept.each
    | split
    | (with_reducible apply Kept.free); split

theorem State.softWakes_kept {q : List Instr} (s : State) (w : Wing) (h : Kept q s) :
    Kept q (State.softWakes s w) := by
  unfold State.softWakes
  repeat' first
    | with_reducible assumption
    | with_reducible exact fun h => h
    | exact fun _ => rfl
    | with_reducible refine Kept.itcmWf (q := q) ?_
    | with_reducible refine Kept.dtcmWf (q := q) ?_
    | intro _
    | with_reducible apply Kept.whenIf
    | with_reducible apply Kept.each
    | fail_if_no_progress with_reducible apply Kept.free
    | fail_if_no_progress (with_reducible refine Kept.updRegs ?_ (fun hk => ?_)) <;> try with_reducible exact hk.regs
    | fail_if_no_progress (with_reducible refine Kept.updTut ?_ (fun hk => TutOk.upd hk.tut ?_ ?_ ?_ ?_ ?_ ?_ ?_ ?_)) <;> try first | with_reducible rfl | with_reducible exact fun h => h
    | fail_if_no_progress (with_reducible refine Kept.updSd ?_ (fun hk => ?_)) <;> try with_reducible exact hk.sd
    | fail_if_no_progress (with_reducible refine Kept.updSatchel ?_ (fun hk => ?_)) <;> try with_reducible exact hk.satchel
    | with_reducible rfl
    | with_reducible refine Kept.mtcmpEq (q := q) ?_ ‹_›
    | with_reducible refine Kept.mtcmpHoldEq (q := q) ?_ ‹_›
    | with_reducible refine Kept.enteredEq (q := q) ?_ ‹_›
    | with_reducible refine Kept.lrEq (q := q) ?_ ‹_›
    | with_reducible refine Kept.mcauseEq (q := q) ?_ ‹_›
    | with_reducible refine Kept.mtvalEq (q := q) ?_ ‹_›
    | split
    | (with_reducible apply Kept.free); split

theorem State.timerCheck_kept {q : List Instr} (s : State) (core : Nat) (h : Kept q s) :
    Kept q (State.timerCheck s core) := by
  unfold State.timerCheck
  repeat' first
    | with_reducible assumption
    | with_reducible exact fun h => h
    | exact fun _ => rfl
    | with_reducible refine Kept.itcmWf (q := q) ?_
    | with_reducible refine Kept.dtcmWf (q := q) ?_
    | intro _
    | with_reducible apply Kept.whenIf
    | fail_if_no_progress with_reducible apply Kept.free
    | fail_if_no_progress (with_reducible refine Kept.updRegs ?_ (fun hk => ?_)) <;> try with_reducible exact hk.regs
    | fail_if_no_progress (with_reducible refine Kept.updTut ?_ (fun hk => TutOk.upd hk.tut ?_ ?_ ?_ ?_ ?_ ?_ ?_ ?_)) <;> try first | with_reducible rfl | with_reducible exact fun h => h
    | fail_if_no_progress (with_reducible refine Kept.updSd ?_ (fun hk => ?_)) <;> try with_reducible exact hk.sd
    | fail_if_no_progress (with_reducible refine Kept.updSatchel ?_ (fun hk => ?_)) <;> try with_reducible exact hk.satchel
    | with_reducible rfl
    | with_reducible refine Kept.mtcmpEq (q := q) ?_ ‹_›
    | with_reducible refine Kept.mtcmpHoldEq (q := q) ?_ ‹_›
    | with_reducible refine Kept.enteredEq (q := q) ?_ ‹_›
    | with_reducible refine Kept.lrEq (q := q) ?_ ‹_›
    | with_reducible refine Kept.mcauseEq (q := q) ?_ ‹_›
    | with_reducible refine Kept.mtvalEq (q := q) ?_ ‹_›
    | split
    | (with_reducible apply Kept.free); split

theorem State.mtcmpLow_kept {q : List Instr} (s : State) (core : Nat) (v : Nat) (h : Kept q s) :
    Kept q (State.mtcmpLow s core v) := by
  unfold State.mtcmpLow
  repeat' first
    | with_reducible assumption
    | with_reducible exact fun h => h
    | exact fun _ => rfl
    | with_reducible refine Kept.itcmWf (q := q) ?_
    | with_reducible refine Kept.dtcmWf (q := q) ?_
    | intro _
    | fail_if_no_progress with_reducible apply Kept.free
    | fail_if_no_progress (with_reducible refine Kept.updRegs ?_ (fun hk => ?_)) <;> try with_reducible exact hk.regs
    | fail_if_no_progress (with_reducible refine Kept.updTut ?_ (fun hk => TutOk.upd hk.tut ?_ ?_ ?_ ?_ ?_ ?_ ?_ ?_)) <;> try first | with_reducible rfl | with_reducible exact fun h => h
    | fail_if_no_progress (with_reducible refine Kept.updSd ?_ (fun hk => ?_)) <;> try with_reducible exact hk.sd
    | fail_if_no_progress (with_reducible refine Kept.updSatchel ?_ (fun hk => ?_)) <;> try with_reducible exact hk.satchel
    | with_reducible rfl
    | with_reducible exact List.length_set
    | with_reducible exact List.length_set.trans List.length_set
    | exact List.length_set
    | with_reducible refine Kept.mtcmpEq (q := q) ?_ ‹_›
    | with_reducible refine Kept.mtcmpHoldEq (q := q) ?_ ‹_›
    | with_reducible refine Kept.enteredEq (q := q) ?_ ‹_›
    | with_reducible refine Kept.lrEq (q := q) ?_ ‹_›
    | with_reducible refine Kept.mcauseEq (q := q) ?_ ‹_›
    | with_reducible refine Kept.mtvalEq (q := q) ?_ ‹_›
    | split
    | (with_reducible apply Kept.free); split

theorem State.mtcmpHigh_kept {q : List Instr} (s : State) (core : Nat) (v : Nat) (h : Kept q s) :
    Kept q (State.mtcmpHigh s core v) := by
  unfold State.mtcmpHigh
  repeat' first
    | with_reducible assumption
    | with_reducible exact fun h => h
    | exact fun _ => rfl
    | with_reducible refine Kept.itcmWf (q := q) ?_
    | with_reducible refine Kept.dtcmWf (q := q) ?_
    | intro _
    | with_reducible apply State.timerCheck_kept
    | with_reducible apply State.setFld_kept
    | fail_if_no_progress with_reducible apply Kept.free
    | fail_if_no_progress (with_reducible refine Kept.updRegs ?_ (fun hk => ?_)) <;> try with_reducible exact hk.regs
    | fail_if_no_progress (with_reducible refine Kept.updTut ?_ (fun hk => TutOk.upd hk.tut ?_ ?_ ?_ ?_ ?_ ?_ ?_ ?_)) <;> try first | with_reducible rfl | with_reducible exact fun h => h
    | fail_if_no_progress (with_reducible refine Kept.updSd ?_ (fun hk => ?_)) <;> try with_reducible exact hk.sd
    | fail_if_no_progress (with_reducible refine Kept.updSatchel ?_ (fun hk => ?_)) <;> try with_reducible exact hk.satchel
    | with_reducible rfl
    | with_reducible exact List.length_set
    | with_reducible exact List.length_set.trans List.length_set
    | exact List.length_set
    | with_reducible refine Kept.mtcmpEq (q := q) ?_ ‹_›
    | with_reducible refine Kept.mtcmpHoldEq (q := q) ?_ ‹_›
    | with_reducible refine Kept.enteredEq (q := q) ?_ ‹_›
    | with_reducible refine Kept.lrEq (q := q) ?_ ‹_›
    | with_reducible refine Kept.mcauseEq (q := q) ?_ ‹_›
    | with_reducible refine Kept.mtvalEq (q := q) ?_ ‹_›
    | split
    | (with_reducible apply Kept.free); split

theorem State.claimEnds_kept {q : List Instr} (s : State) (core : Nat) (src : Nat) (h : Kept q s) :
    Kept q (State.claimEnds s core src) := by
  unfold State.claimEnds
  repeat' first
    | with_reducible assumption
    | with_reducible exact fun h => h
    | exact fun _ => rfl
    | with_reducible refine Kept.itcmWf (q := q) ?_
    | with_reducible refine Kept.dtcmWf (q := q) ?_
    | intro _
    | with_reducible apply Kept.ite
    | fail_if_no_progress with_reducible apply Kept.free
    | fail_if_no_progress (with_reducible refine Kept.updRegs ?_ (fun hk => ?_)) <;> try with_reducible exact hk.regs
    | fail_if_no_progress (with_reducible refine Kept.updTut ?_ (fun hk => TutOk.upd hk.tut ?_ ?_ ?_ ?_ ?_ ?_ ?_ ?_)) <;> try first | with_reducible rfl | with_reducible exact fun h => h
    | fail_if_no_progress (with_reducible refine Kept.updSd ?_ (fun hk => ?_)) <;> try with_reducible exact hk.sd
    | fail_if_no_progress (with_reducible refine Kept.updSatchel ?_ (fun hk => ?_)) <;> try with_reducible exact hk.satchel
    | with_reducible rfl
    | with_reducible refine Kept.mtcmpEq (q := q) ?_ ‹_›
    | with_reducible refine Kept.mtcmpHoldEq (q := q) ?_ ‹_›
    | with_reducible refine Kept.enteredEq (q := q) ?_ ‹_›
    | with_reducible refine Kept.lrEq (q := q) ?_ ‹_›
    | with_reducible refine Kept.mcauseEq (q := q) ?_ ‹_›
    | with_reducible refine Kept.mtvalEq (q := q) ?_ ‹_›
    | split
    | (with_reducible apply Kept.free); split

theorem State.leHaltWrite_kept {q : List Instr} (s : State) (core : Nat) (v : Nat) (h : Kept q s) :
    Kept q (State.leHaltWrite s core v) := by
  unfold State.leHaltWrite
  repeat' first
    | with_reducible assumption
    | intro _
    | with_reducible apply State.setFld_kept
    | with_reducible apply Kept.ite
    | split
    | (with_reducible apply Kept.free); split

theorem State.tutDbgWrite_kept {q : List Instr} (s : State) (core : Nat) (v : Nat) (h : Kept q s) :
    Kept q (State.tutDbgWrite s core v) := by
  unfold State.tutDbgWrite
  repeat' first
    | with_reducible assumption
    | intro _
    | with_reducible apply State.setFld_kept
    | with_reducible apply State.leHaltWrite_kept
    | with_reducible apply Kept.each
    | split
    | (with_reducible apply Kept.free); split

theorem State.regAfter_kept {q : List Instr} (s : State) (core : Nat) (r : RegDesc) (i : Nat) (v : Nat) (h : Kept q s) :
    Kept q (State.regAfter s core r i v) := by
  unfold State.regAfter
  repeat' first
    | with_reducible assumption
    | intro _
    | with_reducible apply State.settlePaths_kept
    | with_reducible apply State.stopRotation_kept
    | with_reducible apply State.settleTrips_kept
    | with_reducible apply State.guardClr_kept
    | with_reducible apply State.wcClr_kept
    | with_reducible apply State.retireWrite_kept
    | with_reducible apply State.saveDue_kept
    | with_reducible apply State.settleStale_kept
    | with_reducible apply State.serve_kept
    | with_reducible apply State.softWakes_kept
    | with_reducible apply Kept.whenIf
    | split
    | (with_reducible apply Kept.free); split

theorem State.mdioPut_kept {q : List Instr} (s : State) (r : RegDesc) (i : Nat) (addr : Nat) (v : Nat) (mask : Nat) (h :
    Kept q s) :
    Kept q (State.mdioPut s r i addr v mask) := by
  unfold State.mdioPut
  repeat' first
    | with_reducible assumption
    | intro _
    | with_reducible apply State.mdioStart_kept
    | with_reducible apply State.discarded_kept
    | with_reducible apply State.fieldsPut_kept
    | with_reducible apply Kept.ite
    | split
    | (with_reducible apply Kept.free); split

theorem State.capPut_kept {q : List Instr} (s : State) (r : RegDesc) (i : Nat) (addr : Nat) (v : Nat) (mask : Nat) (h :
    Kept q s) :
    Kept q (State.capPut s r i addr v mask) := by
  unfold State.capPut
  repeat' first
    | with_reducible assumption
    | intro _
    | with_reducible apply State.closeCapture_kept
    | with_reducible apply State.fieldsPut_kept
    | with_reducible apply Kept.whenIf
    | split
    | (with_reducible apply Kept.free); split

theorem State.regPut_kept {q : List Instr} (s : State) (core : Nat) (r : RegDesc) (i : Nat) (addr : Nat) (v : Nat) (mask :
    Nat) (h : Kept q s) :
    Kept q (State.regPut s core r i addr v mask) := by
  unfold State.regPut
  repeat' first
    | with_reducible assumption
    | with_reducible exact fun h => h
    | exact fun _ => rfl
    | intro _
    | with_reducible apply State.bellReqWrite_kept
    | with_reducible apply State.pwrCellWrite_kept
    | with_reducible apply State.pwrSwWrite_kept
    | with_reducible apply State.clkEnWrite_kept
    | with_reducible apply State.rtcSecWrite_kept
    | with_reducible apply State.sarSwtrig_kept
    | with_reducible apply State.inject_kept
    | with_reducible apply State.fdlyWrite_kept
    | with_reducible apply State.wcThr_kept
    | with_reducible apply State.cntEnWrite_kept
    | with_reducible apply State.outenWrite_kept
    | with_reducible apply State.armWrite_kept
    | with_reducible apply State.intWrite_kept
    | with_reducible apply State.shdLowWrite_kept
    | with_reducible apply State.shdHighWrite_kept
    | with_reducible apply State.gstartWrite_kept
    | with_reducible apply State.entitledClear_kept
    | with_reducible apply State.swtrig_kept
    | with_reducible apply State.subgoWrite_kept
    | with_reducible apply State.requestLatch_kept
    | with_reducible apply State.theftClear_kept
    | with_reducible apply State.renew_kept
    | with_reducible apply State.hpCmdWrite_kept
    | with_reducible apply State.rearmWrite_kept
    | with_reducible apply State.retireBank_kept
    | with_reducible apply State.repLoad_kept
    | with_reducible apply State.setFld_kept
    | with_reducible apply State.secEvent_kept
    | with_reducible apply State.fieldsPut_kept
    | with_reducible apply State.secCmdWrite_kept
    | with_reducible apply State.pfRelease_kept
    | with_reducible apply State.pfCommit_kept
    | with_reducible apply State.portEnSet_kept
    | with_reducible apply State.mdioPut_kept
    | with_reducible apply State.trainWrite_kept
    | with_reducible apply State.capPut_kept
    | with_reducible apply State.discarded_kept
    | with_reducible apply State.ringCfgSet_kept
    | with_reducible apply State.ringHeadSet_kept
    | with_reducible apply State.ringTailSet_kept
    | with_reducible apply State.ringResume_kept
    | with_reducible apply State.q10TailSet_kept
    | with_reducible apply State.bothCores_kept
    | with_reducible apply State.regAfter_kept
    | with_reducible apply State.mtcmpLow_kept
    | with_reducible apply State.mtcmpHigh_kept
    | with_reducible apply State.tutDbgWrite_kept
    | with_reducible apply State.claimEnds_kept
    | with_reducible apply Kept.whenIf
    | with_reducible apply Kept.ite
    | fail_if_no_progress with_reducible apply Kept.free
    | fail_if_no_progress (with_reducible refine Kept.updRegs ?_ (fun hk => ?_)) <;> try with_reducible exact hk.regs
    | fail_if_no_progress (with_reducible refine Kept.updSd ?_ (fun hk => ?_)) <;> try with_reducible exact hk.sd
    | fail_if_no_progress (with_reducible refine Kept.updSatchel ?_ (fun hk => ?_)) <;> try with_reducible exact hk.satchel
    | with_reducible rfl
    | split
    | (with_reducible apply Kept.free); split

end Sys2Proof.Machine
end

