-- ==== Sys2Proof/Laws/KeptDict.lean ====
section
/-!
SUPPORT. What every operation of Machine/Dict.lean keeps (Laws/Kept.lean).
-/
namespace Sys2Proof.Machine

set_option linter.unusedTactic false
set_option linter.unreachableTactic false

theorem State.answerRead_kept {q : List Instr} (s : State) (r : Nat × List Nat) (h : Kept q s) :
    Kept q (State.answerRead s r) := by
  unfold State.answerRead
  repeat' first
    | with_reducible assumption
    | with_reducible exact fun h => h
    | exact fun _ => rfl
    | intro _
    | with_reducible apply Kept.ite
    | fail_if_no_progress with_reducible apply Kept.free
    | fail_if_no_progress (with_reducible refine Kept.updRegs ?_ (fun hk => ?_)) <;> try with_reducible exact hk.regs
    | fail_if_no_progress (with_reducible refine Kept.updDict ?_ (fun hk => DictOk.upd hk.dict ?_)) <;> try first | with_reducible rfl | with_reducible exact fun h => h
    | fail_if_no_progress (with_reducible refine Kept.updSd ?_ (fun hk => ?_)) <;> try with_reducible exact hk.sd
    | fail_if_no_progress (with_reducible refine Kept.updSatchel ?_ (fun hk => ?_)) <;> try with_reducible exact hk.satchel
    | with_reducible rfl
    | with_reducible refine Kept.groupsEq (q := q) ?_ ‹_›
    | split
    | (with_reducible apply Kept.free); split

theorem State.noRights_kept {q : List Instr} (s : State) (init : Nat) (idx : Nat) (sub : Nat) (h : Kept q s) :
    Kept q (State.noRights s init idx sub) := by
  unfold State.noRights
  repeat' first
    | with_reducible assumption
    | intro _
    | with_reducible apply State.answer_kept
    | with_reducible apply State.violation_kept
    | split
    | (with_reducible apply Kept.free); split

theorem State.dictRead_kept {q : List Instr} (s : State) (w : Wing) (init : Nat) (idx : Nat) (sub : Nat) (h : Kept q s) :
    Kept q (State.dictRead s w init idx sub) := by
  unfold State.dictRead
  repeat' first
    | with_reducible assumption
    | with_reducible exact fun h => h
    | exact fun _ => rfl
    | intro _
    | with_reducible apply State.answerRead_kept
    | with_reducible apply State.noRights_kept
    | with_reducible apply Kept.whenIf
    | fail_if_no_progress with_reducible apply Kept.free
    | fail_if_no_progress (with_reducible refine Kept.updRegs ?_ (fun hk => ?_)) <;> try with_reducible exact hk.regs
    | fail_if_no_progress (with_reducible refine Kept.updSd ?_ (fun hk => ?_)) <;> try with_reducible exact hk.sd
    | fail_if_no_progress (with_reducible refine Kept.updSatchel ?_ (fun hk => ?_)) <;> try with_reducible exact hk.satchel
    | with_reducible rfl
    | split
    | (with_reducible apply Kept.free); split

end Sys2Proof.Machine
end

