-- ==== Sys2Proof/Laws/KeptDictWrite.lean ====
section
/-!
SUPPORT. What every operation of Machine/DictWrite.lean keeps (Laws/Kept.lean).
-/
namespace Sys2Proof.Machine

set_option linter.unusedTactic false
set_option linter.unreachableTactic false

theorem State.writeReg_kept {q : List Instr} (s : State) (w : Wing) (ty : ObjTy) (addr : Nat) (lo : Nat) (width : Nat) (v :
    Nat) (h : Kept q s) :
    Kept q (State.writeReg s w ty addr lo width v) := by
  unfold State.writeReg
  repeat' first
    | with_reducible assumption
    | intro _
    | with_reducible apply State.answer_kept
    | with_reducible apply State.wcThr_kept
    | with_reducible apply State.regPut_kept
    | with_reducible apply Kept.ite
    | split
    | (with_reducible apply Kept.free); split

theorem State.writeRegs_kept {q : List Instr} (s : State) (w : Wing) (addrs : List Nat) (v : Nat) (h : Kept q s) :
    Kept q (State.writeRegs s w addrs v) := by
  unfold State.writeRegs
  repeat' first
    | with_reducible assumption
    | intro _
    | with_reducible apply State.answer_kept
    | with_reducible apply State.commitShd_kept
    | with_reducible apply State.regPut_kept
    | with_reducible apply Kept.each
    | with_reducible apply Kept.ite
    | split
    | (with_reducible apply Kept.free); split

theorem State.writeVar_kept {q : List Instr} (s : State) (e : Entry) (idx : Nat) (sub : Nat) (v : Nat) (h : Kept q s) :
    Kept q (State.writeVar s e idx sub v) := by
  unfold State.writeVar
  repeat' first
    | with_reducible assumption
    | intro _
    | with_reducible apply State.answer_kept
    | with_reducible apply State.gridCommand_kept
    | with_reducible apply State.islCommand_kept
    | with_reducible apply State.modGroup_kept
    | with_reducible apply State.rwVar_kept
    | with_reducible apply State.setVar_kept
    | with_reducible apply Kept.ite
    | split
    | (with_reducible apply Kept.free); split

theorem State.writeWindow_kept {q : List Instr} (s : State) (n : Nat) (first : Nat) (words : Nat) (data : List Nat) (h :
    Kept q s) :
    Kept q (State.writeWindow s n first words data) := by
  unfold State.writeWindow
  repeat' first
    | with_reducible assumption
    | intro _
    | with_reducible apply State.answer_kept
    | with_reducible apply State.modGroup_kept
    | with_reducible apply Kept.foldl
    | with_reducible apply Kept.ite
    | split
    | (with_reducible apply Kept.free); split

theorem State.writeData_kept {q : List Instr} (s : State) (n : Nat) (data : List Nat) (h : Kept q s) :
    Kept q (State.writeData s n data) := by
  unfold State.writeData
  repeat' first
    | with_reducible assumption
    | intro _
    | with_reducible apply State.answer_kept
    | with_reducible apply State.dataUpdate_kept
    | with_reducible apply Kept.ite
    | split
    | (with_reducible apply Kept.free); split

theorem State.storeParameters_kept {q : List Instr} (s : State) (v : Nat) (h : Kept q s) :
    Kept q (State.storeParameters s v) := by
  unfold State.storeParameters
  repeat' first
    | with_reducible assumption
    | intro _
    | with_reducible apply State.answer_kept
    | with_reducible apply State.storeClassS_kept
    | with_reducible apply Kept.ite
    | split
    | (with_reducible apply Kept.free); split

theorem State.restoreDefaults_kept {q : List Instr} (s : State) (v : Nat) (h : Kept q s) :
    Kept q (State.restoreDefaults s v) := by
  unfold State.restoreDefaults
  repeat' first
    | with_reducible assumption
    | intro _
    | with_reducible apply State.answer_kept
    | with_reducible apply State.storeRecord_kept
    | with_reducible apply Kept.each
    | with_reducible apply Kept.ite
    | split
    | (with_reducible apply Kept.free); split

theorem State.programDownload_kept {q : List Instr} (s : State) (w : Wing) (data : List Nat) (h : Kept q s) :
    Kept q (State.programDownload s w data) := by
  unfold State.programDownload
  repeat' first
    | with_reducible assumption
    | with_reducible exact fun h => h
    | exact fun _ => rfl
    | intro _
    | with_reducible apply State.answer_kept
    | with_reducible apply Kept.ite
    | fail_if_no_progress with_reducible apply Kept.free
    | fail_if_no_progress (with_reducible refine Kept.updRegs ?_ (fun hk => ?_)) <;> try with_reducible exact hk.regs
    | fail_if_no_progress (with_reducible refine Kept.updSd ?_ (fun hk => ?_)) <;> try with_reducible exact hk.sd
    | fail_if_no_progress (with_reducible refine Kept.updSatchel ?_ (fun hk => ?_)) <;> try with_reducible exact hk.satchel
    | with_reducible rfl
    | split
    | (with_reducible apply Kept.free); split

theorem State.imageSlotWrite_kept {q : List Instr} (s : State) (slot : Nat) (data : List Nat) (h : Kept q s) :
    Kept q (State.imageSlotWrite s slot data) := by
  unfold State.imageSlotWrite
  repeat' first
    | with_reducible assumption
    | intro _
    | with_reducible apply State.answer_kept
    | with_reducible apply State.libRecord_kept
    | with_reducible apply Kept.ite
    | split
    | (with_reducible apply Kept.free); split

theorem State.jointRestart_kept {q : List Instr} (s : State) (mask : Nat) (h : Kept q s) :
    Kept q (State.jointRestart s mask) := by
  unfold State.jointRestart
  repeat' first
    | with_reducible assumption
    | with_reducible exact fun h => h
    | exact fun _ => rfl
    | intro _
    | with_reducible apply State.answer_kept
    | with_reducible apply State.modGroup_kept
    | with_reducible apply Kept.each
    | with_reducible apply Kept.ite
    | fail_if_no_progress with_reducible apply Kept.free
    | fail_if_no_progress (with_reducible refine Kept.updRegs ?_ (fun hk => ?_)) <;> try with_reducible exact hk.regs
    | fail_if_no_progress (with_reducible refine Kept.updDict ?_ (fun hk => DictOk.upd hk.dict ?_)) <;> try first | with_reducible rfl | with_reducible exact fun h => h
    | fail_if_no_progress (with_reducible refine Kept.updSd ?_ (fun hk => ?_)) <;> try with_reducible exact hk.sd
    | fail_if_no_progress (with_reducible refine Kept.updSatchel ?_ (fun hk => ?_)) <;> try with_reducible exact hk.satchel
    | with_reducible rfl
    | with_reducible refine Kept.groupsEq (q := q) ?_ ‹_›
    | split
    | (with_reducible apply Kept.free); split

theorem State.seedRequest_kept {q : List Instr} (s : State) (w : Wing) (v : Nat) (h : Kept q s) :
    Kept q (State.seedRequest s w v) := by
  unfold State.seedRequest
  repeat' first
    | with_reducible assumption
    | with_reducible exact fun h => h
    | exact fun _ => rfl
    | intro _
    | with_reducible apply State.answer_kept
    | with_reducible apply Kept.ite
    | fail_if_no_progress with_reducible apply Kept.free
    | fail_if_no_progress (with_reducible refine Kept.updRegs ?_ (fun hk => ?_)) <;> try with_reducible exact hk.regs
    | fail_if_no_progress (with_reducible refine Kept.updDict ?_ (fun hk => DictOk.upd hk.dict ?_)) <;> try first | with_reducible rfl | with_reducible exact fun h => h
    | fail_if_no_progress (with_reducible refine Kept.updSd ?_ (fun hk => ?_)) <;> try with_reducible exact hk.sd
    | fail_if_no_progress (with_reducible refine Kept.updSatchel ?_ (fun hk => ?_)) <;> try with_reducible exact hk.satchel
    | with_reducible rfl
    | with_reducible refine Kept.groupsEq (q := q) ?_ ‹_›
    | split
    | (with_reducible apply Kept.free); split

theorem State.securityEntry_kept {q : List Instr} (s : State) (data : List Nat) (h : Kept q s) :
    Kept q (State.securityEntry s data) := by
  unfold State.securityEntry
  repeat' first
    | with_reducible assumption
    | intro _
    | with_reducible apply State.answer_kept
    | with_reducible apply State.secCommand_kept
    | with_reducible apply Kept.ite
    | split
    | (with_reducible apply Kept.free); split

theorem State.hpEntry_kept {q : List Instr} (s : State) (w : Wing) (v : Nat) (h : Kept q s) :
    Kept q (State.hpEntry s w v) := by
  unfold State.hpEntry
  repeat' first
    | with_reducible assumption
    | intro _
    | with_reducible apply State.answer_kept
    | with_reducible apply State.hpCmdWrite_kept
    | with_reducible apply Kept.ite
    | split
    | (with_reducible apply Kept.free); split

theorem State.writeSpecial_kept {q : List Instr} (s : State) (w : Wing) (idx : Nat) (sub : Nat) (data : List Nat) (h : Kept
    q s) :
    Kept q (State.writeSpecial s w idx sub data) := by
  unfold State.writeSpecial
  repeat' first
    | with_reducible assumption
    | with_reducible exact fun h => h
    | exact fun _ => rfl
    | intro _
    | with_reducible apply State.storeParameters_kept
    | with_reducible apply State.restoreDefaults_kept
    | with_reducible apply State.programDownload_kept
    | with_reducible apply State.imageSlotWrite_kept
    | with_reducible apply State.jointRestart_kept
    | with_reducible apply State.seedRequest_kept
    | with_reducible apply State.traceRequest_kept
    | with_reducible apply State.hpEntry_kept
    | with_reducible apply State.securityEntry_kept
    | with_reducible apply State.attestRequest_kept
    | with_reducible apply State.writeData_kept
    | with_reducible apply State.checkHandover_kept
    | with_reducible apply State.groupCommand_kept
    | with_reducible apply Kept.ite
    | fail_if_no_progress with_reducible apply Kept.free
    | fail_if_no_progress (with_reducible refine Kept.updRegs ?_ (fun hk => ?_)) <;> try with_reducible exact hk.regs
    | fail_if_no_progress (with_reducible refine Kept.updDict ?_ (fun hk => DictOk.upd hk.dict ?_)) <;> try first | with_reducible rfl | with_reducible exact fun h => h
    | fail_if_no_progress (with_reducible refine Kept.updSd ?_ (fun hk => ?_)) <;> try with_reducible exact hk.sd
    | fail_if_no_progress (with_reducible refine Kept.updSatchel ?_ (fun hk => ?_)) <;> try with_reducible exact hk.satchel
    | with_reducible rfl
    | with_reducible refine Kept.groupsEq (q := q) ?_ ‹_›
    | split
    | (with_reducible apply Kept.free); split

theorem State.putEntry_kept {q : List Instr} (s : State) (w : Wing) (e : Entry) (idx : Nat) (sub : Nat) (data : List Nat)
    (h : Kept q s) :
    Kept q (State.putEntry s w e idx sub data) := by
  unfold State.putEntry
  repeat' first
    | with_reducible assumption
    | intro _
    | with_reducible apply State.writeReg_kept
    | with_reducible apply State.writeRegs_kept
    | with_reducible apply State.writeVar_kept
    | with_reducible apply State.writeWindow_kept
    | with_reducible apply State.writeSpecial_kept
    | split
    | (with_reducible apply Kept.free); split

theorem State.dictWrite_kept {q : List Instr} (s : State) (w : Wing) (init : Nat) (idx : Nat) (sub : Nat) (data : List Nat)
    (h : Kept q s) :
    Kept q (State.dictWrite s w init idx sub data) := by
  unfold State.dictWrite
  repeat' first
    | with_reducible assumption
    | intro _
    | with_reducible apply State.noRights_kept
    | with_reducible apply State.answer_kept
    | with_reducible apply State.putEntry_kept
    | with_reducible apply Kept.ite
    | split
    | (with_reducible apply Kept.free); split

end Sys2Proof.Machine
end

