-- ==== Sys2Proof/Laws/KeptTransport.lean ====
section
/-!
SUPPORT. What every operation of Machine/Transport.lean keeps (Laws/Kept.lean).
-/
namespace Sys2Proof.Machine

set_option linter.unusedTactic false
set_option linter.unreachableTactic false

theorem State.request_kept {q : List Instr} (s : State) (w : Wing) (init : Nat) (idx : Nat) (sub : Nat) (data : Option
    (List Nat)) (h : Kept q s) :
    Kept q (State.request s w init idx sub data) := by
  unfold State.request
  repeat' first
    | with_reducible assumption
    | intro _
    | with_reducible apply State.dictWrite_kept
    | with_reducible apply State.askRollCall_kept
    | with_reducible apply State.dictRead_kept
    | with_reducible apply Kept.ite
    | split
    | (with_reducible apply Kept.free); split

theorem State.attach_kept {q : List Instr} (s : State) (a : Asker) (idx : Nat) (sub : Nat) (data : Option (List Nat)) (h :
    Kept q s) :
    ∀ t, (State.attach s a idx sub data) = some t → Kept q t := by
  unfold State.attach
  intro t e
  dsimp only at e
  repeat' split at e
  all_goals first
    | (cases e; done)
    | (cases e; exact Kept.updDict h (fun hk => hk.dict))
    | (cases e; exact State.modGroup_kept _ _ _ h)
    | (obtain ⟨g, -, rfl⟩ := Option.map_eq_some_iff.1 e; exact State.modGroup_kept _ _ _ h)

theorem State.serveFor_kept {q : List Instr} (s : State) (a : Asker) (w : Wing) (init : Nat) (idx : Nat) (sub : Nat) (data
    : Option (List Nat)) (h : Kept q s) :
    Kept q (State.serveFor s a w init idx sub data) := by
  unfold State.serveFor
  repeat' first
    | with_reducible assumption
    | intro _
    | with_reducible apply State.request_kept
    | with_reducible apply State.answer_kept
    | with_reducible refine State.attach_kept _ _ _ _ _ ?_ _ (by assumption)
    | with_reducible apply State.tell_kept
    | with_reducible apply Kept.ite
    | split
    | (with_reducible apply Kept.free); split

theorem State.route_kept {q : List Instr} (s : State) (a : Asker) (w : Wing) (init : Nat) (idx : Nat) (sub : Nat) (data :
    Option (List Nat)) (h : Kept q s) :
    Kept q (State.route s a w init idx sub data) := by
  unfold State.route
  repeat' first
    | with_reducible assumption
    | with_reducible exact fun h => h
    | exact fun _ => rfl
    | intro _
    | with_reducible apply State.serveFor_kept
    | with_reducible apply State.tell_kept
    | with_reducible apply Kept.ite
    | fail_if_no_progress with_reducible apply Kept.free
    | fail_if_no_progress (with_reducible refine Kept.updRegs ?_ (fun hk => ?_)) <;> try with_reducible exact hk.regs
    | fail_if_no_progress (with_reducible refine Kept.updDict ?_ (fun hk => DictOk.upd hk.dict ?_)) <;> try first | with_reducible rfl | with_reducible exact fun h => h
    | fail_if_no_progress (with_reducible refine Kept.updSd ?_ (fun hk => ?_)) <;> try with_reducible exact hk.sd
    | fail_if_no_progress (with_reducible refine Kept.updSatchel ?_ (fun hk => ?_)) <;> try with_reducible exact hk.satchel
    | with_reducible rfl
    | with_reducible refine Kept.groupsEq (q := q) ?_ ‹_›
    | split
    | (with_reducible apply Kept.free); split

theorem execRequestForward_kept {q : List Instr} (s : State) (h : Kept q s) :
    KeptOut q (execRequestForward s) := by
  unfold execRequestForward
  repeat' first
    | with_reducible assumption
    | with_reducible apply KeptOut.next
    | with_reducible apply KeptOut.ite
    | with_reducible exact fun h => h
    | exact fun _ => rfl
    | intro _
    | with_reducible apply State.tell_kept
    | with_reducible apply State.serveFor_kept
    | with_reducible apply Kept.ite
    | fail_if_no_progress with_reducible apply Kept.free
    | fail_if_no_progress (with_reducible refine Kept.updRegs ?_ (fun hk => ?_)) <;> try with_reducible exact hk.regs
    | fail_if_no_progress (with_reducible refine Kept.updDict ?_ (fun hk => DictOk.upd hk.dict ?_)) <;> try first | with_reducible rfl | with_reducible exact fun h => h
    | fail_if_no_progress (with_reducible refine Kept.updSd ?_ (fun hk => ?_)) <;> try with_reducible exact hk.sd
    | fail_if_no_progress (with_reducible refine Kept.updSatchel ?_ (fun hk => ?_)) <;> try with_reducible exact hk.satchel
    | with_reducible rfl
    | with_reducible refine Kept.groupsEq (q := q) ?_ ‹_›
    | split
    | dsimp only; split

theorem State.dropTransfer_kept {q : List Instr} (s : State) (p : Nat) (src : Nat) (tag : Nat) (h : Kept q s) :
    Kept q (State.dropTransfer s p src tag) := by
  unfold State.dropTransfer
  repeat' first
    | with_reducible assumption
    | with_reducible exact fun h => h
    | exact fun _ => rfl
    | with_reducible exact SMap.wf_filter _
    | intro _
    | fail_if_no_progress with_reducible apply Kept.free
    | fail_if_no_progress (with_reducible refine Kept.updRegs ?_ (fun hk => ?_)) <;> try with_reducible exact hk.regs
    | fail_if_no_progress (with_reducible refine Kept.updDict ?_ (fun hk => DictOk.upd hk.dict ?_)) <;> try first | with_reducible rfl | with_reducible exact fun h => h
    | fail_if_no_progress (with_reducible refine Kept.updSd ?_ (fun hk => ?_)) <;> try with_reducible exact hk.sd
    | fail_if_no_progress (with_reducible refine Kept.updSatchel ?_ (fun hk => ?_)) <;> try with_reducible exact hk.satchel
    | with_reducible rfl
    | with_reducible refine Kept.groupsEq (q := q) ?_ ‹_›
    | split
    | (with_reducible apply Kept.free); split

theorem State.setTransfer_kept {q : List Instr} (s : State) (t : IdpTransfer) (h : Kept q s) :
    Kept q (State.setTransfer s t) := by
  unfold State.setTransfer
  repeat' first
    | with_reducible assumption
    | with_reducible exact fun h => h
    | exact fun _ => rfl
    | intro _
    | with_reducible apply State.dropTransfer_kept
    | fail_if_no_progress with_reducible apply Kept.free
    | fail_if_no_progress (with_reducible refine Kept.updRegs ?_ (fun hk => ?_)) <;> try with_reducible exact hk.regs
    | fail_if_no_progress (with_reducible refine Kept.updDict ?_ (fun hk => DictOk.upd hk.dict ?_)) <;> try first | with_reducible rfl | with_reducible exact fun h => h
    | fail_if_no_progress (with_reducible refine Kept.updSd ?_ (fun hk => ?_)) <;> try with_reducible exact hk.sd
    | fail_if_no_progress (with_reducible refine Kept.updSatchel ?_ (fun hk => ?_)) <;> try with_reducible exact hk.satchel
    | with_reducible rfl
    | with_reducible refine Kept.groupsEq (q := q) ?_ ‹_›
    | split
    | (with_reducible apply Kept.free); split

theorem State.idpAgain_kept {q : List Instr} (s : State) (p : Nat) (src : Nat) (tag : Nat) (h : Kept q s) :
    ∀ t, (State.idpAgain s p src tag) = some t → Kept q t := by
  unfold State.idpAgain
  intro t e
  dsimp only at e
  repeat' split at e
  all_goals first
    | (cases e; done)
    | (cases e; exact h)
    | (cases e; exact State.idpAnswer_kept _ _ _ _ _ _ (State.dropTransfer_kept _ _ _ _ h))
    | (obtain ⟨g, -, rfl⟩ := Option.map_eq_some_iff.1 e; exact Kept.updDict h (fun hk => hk.dict))

theorem State.idpSegment_kept {q : List Instr} (s : State) (t : IdpTransfer) (offset : Nat) (h : Kept q s) :
    Kept q (State.idpSegment s t offset) := by
  unfold State.idpSegment
  repeat' first
    | with_reducible assumption
    | with_reducible exact fun h => h
    | exact fun _ => rfl
    | intro _
    | with_reducible apply State.setTransfer_kept
    | fail_if_no_progress with_reducible apply Kept.free
    | fail_if_no_progress (with_reducible refine Kept.updRegs ?_ (fun hk => ?_)) <;> try with_reducible exact hk.regs
    | fail_if_no_progress (with_reducible refine Kept.updDict ?_ (fun hk => DictOk.upd hk.dict ?_)) <;> try first | with_reducible rfl | with_reducible exact fun h => h
    | fail_if_no_progress (with_reducible refine Kept.updSd ?_ (fun hk => ?_)) <;> try with_reducible exact hk.sd
    | fail_if_no_progress (with_reducible refine Kept.updSatchel ?_ (fun hk => ?_)) <;> try with_reducible exact hk.satchel
    | with_reducible rfl
    | with_reducible refine Kept.groupsEq (q := q) ?_ ‹_›
    | split
    | (with_reducible apply Kept.free); split

theorem execIdpRead_kept {q : List Instr} (p : Nat) (source : Nat) (udp : Nat) (head : IdpHead) (s : State) (h : Kept q s) :
    KeptOut q (execIdpRead p source udp head s) := by
  unfold execIdpRead
  repeat' first
    | with_reducible assumption
    | with_reducible apply KeptOut.next
    | with_reducible apply KeptOut.ite
    | intro _
    | with_reducible refine State.idpAgain_kept _ _ _ _ ?_ _ (by assumption)
    | with_reducible apply State.idpAnswer_kept
    | with_reducible apply State.dropTransfer_kept
    | with_reducible apply State.idpSegment_kept
    | with_reducible apply State.route_kept
    | with_reducible apply Kept.ite
    | split
    | dsimp only; split

theorem State.idpTaken_kept {q : List Instr} (s : State) (w : Wing) (t : IdpTransfer) (h : Kept q s) :
    Kept q (State.idpTaken s w t) := by
  unfold State.idpTaken
  repeat' first
    | with_reducible assumption
    | intro _
    | with_reducible apply State.dropTransfer_kept
    | with_reducible apply State.route_kept
    | with_reducible apply State.idpAnswer_kept
    | with_reducible apply State.setTransfer_kept
    | with_reducible apply Kept.ite
    | split
    | (with_reducible apply Kept.free); split

theorem execIdpWrite_kept {q : List Instr} (p : Nat) (source : Nat) (udp : Nat) (head : IdpHead) (payload : List Nat) (s :
    State) (h : Kept q s) :
    KeptOut q (execIdpWrite p source udp head payload s) := by
  unfold execIdpWrite
  repeat' first
    | with_reducible assumption
    | with_reducible apply KeptOut.next
    | with_reducible apply KeptOut.ite
    | intro _
    | with_reducible refine State.idpAgain_kept _ _ _ _ ?_ _ (by assumption)
    | with_reducible apply State.idpAnswer_kept
    | with_reducible apply State.dropTransfer_kept
    | with_reducible apply State.idpTaken_kept
    | with_reducible apply Kept.ite
    | split
    | dsimp only; split

theorem execIdpTransferTimeout_kept {q : List Instr} (p : Nat) (source : Nat) (tag : Nat) (s : State) (h : Kept q s) :
    KeptOut q (execIdpTransferTimeout p source tag s) := by
  unfold execIdpTransferTimeout
  repeat' first
    | with_reducible assumption
    | with_reducible apply KeptOut.next
    | with_reducible apply KeptOut.ite
    | intro _
    | with_reducible apply State.dropTransfer_kept
    | with_reducible apply State.idpAnswer_kept
    | with_reducible apply Kept.ite
    | split
    | dsimp only; split

theorem State.dropSession_kept {q : List Instr} (s : State) (p : Nat) (client : Nat) (h : Kept q s) :
    Kept q (State.dropSession s p client) := by
  unfold State.dropSession
  repeat' first
    | with_reducible assumption
    | with_reducible exact fun h => h
    | exact fun _ => rfl
    | with_reducible exact SMap.wf_filter _
    | intro _
    | fail_if_no_progress with_reducible apply Kept.free
    | fail_if_no_progress (with_reducible refine Kept.updRegs ?_ (fun hk => ?_)) <;> try with_reducible exact hk.regs
    | fail_if_no_progress (with_reducible refine Kept.updDict ?_ (fun hk => DictOk.upd hk.dict ?_)) <;> try first | with_reducible rfl | with_reducible exact fun h => h
    | fail_if_no_progress (with_reducible refine Kept.updSd ?_ (fun hk => ?_)) <;> try with_reducible exact hk.sd
    | fail_if_no_progress (with_reducible refine Kept.updSatchel ?_ (fun hk => ?_)) <;> try with_reducible exact hk.satchel
    | with_reducible rfl
    | with_reducible refine Kept.groupsEq (q := q) ?_ ‹_›
    | split
    | (with_reducible apply Kept.free); split

theorem State.abortSession_kept {q : List Instr} (s : State) (p : Nat) (client : Nat) (code : Nat) (h : Kept q s) :
    Kept q (State.abortSession s p client code) := by
  unfold State.abortSession
  repeat' first
    | with_reducible assumption
    | with_reducible exact fun h => h
    | exact fun _ => rfl
    | intro _
    | with_reducible apply State.dropSession_kept
    | fail_if_no_progress with_reducible apply Kept.free
    | fail_if_no_progress (with_reducible refine Kept.updRegs ?_ (fun hk => ?_)) <;> try with_reducible exact hk.regs
    | fail_if_no_progress (with_reducible refine Kept.updDict ?_ (fun hk => DictOk.upd hk.dict ?_)) <;> try first | with_reducible rfl | with_reducible exact fun h => h
    | fail_if_no_progress (with_reducible refine Kept.updSd ?_ (fun hk => ?_)) <;> try with_reducible exact hk.sd
    | fail_if_no_progress (with_reducible refine Kept.updSatchel ?_ (fun hk => ?_)) <;> try with_reducible exact hk.satchel
    | with_reducible rfl
    | with_reducible refine Kept.groupsEq (q := q) ?_ ‹_›
    | split
    | (with_reducible apply Kept.free); split

theorem State.startSession_kept {q : List Instr} (s : State) (u : UsdoSession) (f : State → State) (h : Kept q s) (hf : ∀
    t, Kept q t → Kept q (f t)) :
    Kept q (State.startSession s u f) := by
  unfold State.startSession
  repeat' first
    | with_reducible assumption
    | with_reducible exact fun h => h
    | exact fun _ => rfl
    | with_reducible exact SMap.wf_filter _
    | intro _
    | with_reducible apply State.dropSession_kept
    | with_reducible apply State.abortSession_kept
    | with_reducible apply Kept.ite
    | with_reducible apply hf
    | fail_if_no_progress with_reducible apply Kept.free
    | fail_if_no_progress (with_reducible refine Kept.updRegs ?_ (fun hk => ?_)) <;> try with_reducible exact hk.regs
    | fail_if_no_progress (with_reducible refine Kept.updDict ?_ (fun hk => DictOk.upd hk.dict ?_)) <;> try first | with_reducible rfl | with_reducible exact fun h => h
    | fail_if_no_progress (with_reducible refine Kept.updSd ?_ (fun hk => ?_)) <;> try with_reducible exact hk.sd
    | fail_if_no_progress (with_reducible refine Kept.updSatchel ?_ (fun hk => ?_)) <;> try with_reducible exact hk.satchel
    | with_reducible rfl
    | with_reducible refine Kept.groupsEq (q := q) ?_ ‹_›
    | split
    | (with_reducible apply Kept.free); split

theorem State.setSession_kept {q : List Instr} (s : State) (u : UsdoSession) (h : Kept q s) :
    Kept q (State.setSession s u) := by
  unfold State.setSession
  repeat' first
    | with_reducible assumption
    | with_reducible exact fun h => h
    | exact fun _ => rfl
    | intro _
    | with_reducible apply State.dropSession_kept
    | fail_if_no_progress with_reducible apply Kept.free
    | fail_if_no_progress (with_reducible refine Kept.updRegs ?_ (fun hk => ?_)) <;> try with_reducible exact hk.regs
    | fail_if_no_progress (with_reducible refine Kept.updDict ?_ (fun hk => DictOk.upd hk.dict ?_)) <;> try first | with_reducible rfl | with_reducible exact fun h => h
    | fail_if_no_progress (with_reducible refine Kept.updSd ?_ (fun hk => ?_)) <;> try with_reducible exact hk.sd
    | fail_if_no_progress (with_reducible refine Kept.updSatchel ?_ (fun hk => ?_)) <;> try with_reducible exact hk.satchel
    | with_reducible rfl
    | with_reducible refine Kept.groupsEq (q := q) ?_ ‹_›
    | split
    | (with_reducible apply Kept.free); split

theorem State.usdoFrame_kept {q : List Instr} (s : State) (p : Nat) (client : Nat) (f : UsdoFrame) (h : Kept q s) :
    Kept q (State.usdoFrame s p client f) := by
  unfold State.usdoFrame
  repeat' first
    | with_reducible assumption
    | unfold id; with_reducible assumption
    | with_reducible exact fun h => h
    | exact fun _ => rfl
    | intro _
    | with_reducible apply State.route_kept
    | with_reducible apply State.abortSession_kept
    | with_reducible apply State.startSession_kept
    | with_reducible apply State.setSession_kept
    | with_reducible apply State.dropSession_kept
    | with_reducible apply Kept.ite
    | fail_if_no_progress with_reducible apply Kept.free
    | fail_if_no_progress (with_reducible refine Kept.updRegs ?_ (fun hk => ?_)) <;> try with_reducible exact hk.regs
    | fail_if_no_progress (with_reducible refine Kept.updDict ?_ (fun hk => DictOk.upd hk.dict ?_)) <;> try first | with_reducible rfl | with_reducible exact fun h => h
    | fail_if_no_progress (with_reducible refine Kept.updSd ?_ (fun hk => ?_)) <;> try with_reducible exact hk.sd
    | fail_if_no_progress (with_reducible refine Kept.updSatchel ?_ (fun hk => ?_)) <;> try with_reducible exact hk.satchel
    | with_reducible rfl
    | with_reducible refine Kept.groupsEq (q := q) ?_ ‹_›
    | split
    | (with_reducible apply Kept.free); split

theorem execUsdoTransfer_kept {q : List Instr} (p : Nat) (client : Nat) (frame : UsdoFrame) (s : State) (h : Kept q s) :
    KeptOut q (execUsdoTransfer p client frame s) := by
  unfold execUsdoTransfer
  repeat' first
    | with_reducible assumption
    | with_reducible apply KeptOut.next
    | with_reducible apply KeptOut.ite
    | intro _
    | with_reducible apply State.abortSession_kept
    | with_reducible apply State.usdoFrame_kept
    | with_reducible apply Kept.ite
    | split
    | dsimp only; split

theorem execUsdoSessionTimeout_kept {q : List Instr} (p : Nat) (client : Nat) (s : State) (h : Kept q s) :
    KeptOut q (execUsdoSessionTimeout p client s) := by
  unfold execUsdoSessionTimeout
  repeat' first
    | with_reducible assumption
    | with_reducible apply KeptOut.next
    | with_reducible apply KeptOut.ite
    | intro _
    | with_reducible apply State.abortSession_kept
    | with_reducible apply Kept.ite
    | split
    | dsimp only; split

theorem State.groupEntry_kept {q : List Instr} (s : State) (w : Wing) (init : Nat) (g : Nat) (cmd : Nat) (h : Kept q s) :
    Kept q (State.groupEntry s w init g cmd) := by
  unfold State.groupEntry
  repeat' first
    | with_reducible assumption
    | intro _
    | with_reducible apply State.dictWrite_kept
    | with_reducible apply State.answer_kept
    | with_reducible apply Kept.ite
    | split
    | (with_reducible apply Kept.free); split

theorem execGroupEnter_kept {q : List Instr} (w : Wing) (init : Nat) (g : Nat) (s : State) (h : Kept q s) :
    KeptOut q (execGroupEnter w init g s) := by
  unfold execGroupEnter
  repeat' first
    | with_reducible assumption
    | with_reducible apply KeptOut.next
    | intro _
    | with_reducible apply State.groupEntry_kept
    | split
    | dsimp only; split

theorem execGroupRestart_kept {q : List Instr} (w : Wing) (init : Nat) (g : Nat) (s : State) (h : Kept q s) :
    KeptOut q (execGroupRestart w init g s) := by
  unfold execGroupRestart
  repeat' first
    | with_reducible assumption
    | with_reducible apply KeptOut.next
    | intro _
    | with_reducible apply State.groupEntry_kept
    | split
    | dsimp only; split

theorem execGroupRestore_kept {q : List Instr} (w : Wing) (init : Nat) (g : Nat) (s : State) (h : Kept q s) :
    KeptOut q (execGroupRestore w init g s) := by
  unfold execGroupRestore
  repeat' first
    | with_reducible assumption
    | with_reducible apply KeptOut.next
    | intro _
    | with_reducible apply State.groupEntry_kept
    | split
    | dsimp only; split

theorem execJointRestart_kept {q : List Instr} (w : Wing) (init : Nat) (mask : Nat) (s : State) (h : Kept q s) :
    KeptOut q (execJointRestart w init mask s) := by
  unfold execJointRestart
  repeat' first
    | with_reducible assumption
    | with_reducible apply KeptOut.next
    | intro _
    | with_reducible apply State.dictWrite_kept
    | split
    | dsimp only; split

theorem execStoreParameters_kept {q : List Instr} (w : Wing) (init : Nat) (value : Nat) (s : State) (h : Kept q s) :
    KeptOut q (execStoreParameters w init value s) := by
  unfold execStoreParameters
  repeat' first
    | with_reducible assumption
    | with_reducible apply KeptOut.next
    | intro _
    | with_reducible apply State.dictWrite_kept
    | split
    | dsimp only; split

theorem execRestoreDefaults_kept {q : List Instr} (w : Wing) (init : Nat) (value : Nat) (s : State) (h : Kept q s) :
    KeptOut q (execRestoreDefaults w init value s) := by
  unfold execRestoreDefaults
  repeat' first
    | with_reducible assumption
    | with_reducible apply KeptOut.next
    | intro _
    | with_reducible apply State.dictWrite_kept
    | split
    | dsimp only; split

theorem execRollCall_kept {q : List Instr} (w : Wing) (init : Nat) (s : State) (h : Kept q s) :
    KeptOut q (execRollCall w init s) := by
  unfold execRollCall
  repeat' first
    | with_reducible assumption
    | with_reducible apply KeptOut.next
    | intro _
    | with_reducible apply State.request_kept
    | with_reducible apply State.answer_kept
    | split
    | dsimp only; split

theorem execDescriptionRequest_kept {q : List Instr} (w : Wing) (init : Nat) (value : Nat) (s : State) (h : Kept q s) :
    KeptOut q (execDescriptionRequest w init value s) := by
  unfold execDescriptionRequest
  repeat' first
    | with_reducible assumption
    | with_reducible apply KeptOut.next
    | intro _
    | with_reducible apply State.dictWrite_kept
    | split
    | dsimp only; split

theorem execDescriptionRead_kept {q : List Instr} (w : Wing) (init : Nat) (s : State) (h : Kept q s) :
    KeptOut q (execDescriptionRead w init s) := by
  unfold execDescriptionRead
  repeat' first
    | with_reducible assumption
    | with_reducible apply KeptOut.next
    | intro _
    | with_reducible apply State.dictRead_kept
    | split
    | dsimp only; split

theorem execProgramDownload_kept {q : List Instr} (w : Wing) (init : Nat) (data : List Nat) (s : State) (h : Kept q s) :
    KeptOut q (execProgramDownload w init data s) := by
  unfold execProgramDownload
  repeat' first
    | with_reducible assumption
    | with_reducible apply KeptOut.next
    | intro _
    | with_reducible apply State.dictWrite_kept
    | split
    | dsimp only; split

theorem execImageSlotWrite_kept {q : List Instr} (w : Wing) (init : Nat) (slot : Nat) (data : List Nat) (s : State) (h :
    Kept q s) :
    KeptOut q (execImageSlotWrite w init slot data s) := by
  unfold execImageSlotWrite
  repeat' first
    | with_reducible assumption
    | with_reducible apply KeptOut.next
    | with_reducible apply KeptOut.ite
    | intro _
    | with_reducible apply State.dictWrite_kept
    | with_reducible apply Kept.ite
    | split
    | dsimp only; split

theorem execSeedRequest_kept {q : List Instr} (w : Wing) (init : Nat) (value : Nat) (s : State) (h : Kept q s) :
    KeptOut q (execSeedRequest w init value s) := by
  unfold execSeedRequest
  repeat' first
    | with_reducible assumption
    | with_reducible apply KeptOut.next
    | intro _
    | with_reducible apply State.dictWrite_kept
    | split
    | dsimp only; split

end Sys2Proof.Machine
end

