-- ==== Sys2Proof/Laws/KeptValidate.lean ====
section
/-!
SUPPORT. What every operation of Machine/Validate.lean keeps (Laws/Kept.lean).
-/
namespace Sys2Proof.Machine

set_option linter.unusedTactic false
set_option linter.unreachableTactic false

theorem State.proposed_kept {q : List Instr} (s : State) (gs : List Nat) (h : Kept q s) :
    Kept q (State.proposed s gs) := by
  unfold State.proposed
  repeat' first
    | with_reducible assumption
    | intro _
    | with_reducible apply State.setAll_kept
    | with_reducible apply State.setEngWord_kept
    | with_reducible apply State.setVar_kept
    | with_reducible apply Kept.each
    | with_reducible apply Kept.ite
    | split
    | (with_reducible apply Kept.free); split

theorem State.showBounds_kept {q : List Instr} (s : State) (gs : List Nat) (h : Kept q s) :
    Kept q (State.showBounds s gs) := by
  unfold State.showBounds
  repeat' first
    | with_reducible assumption
    | intro _
    | with_reducible apply State.proposed_kept
    | with_reducible apply State.setFld_kept
    | with_reducible apply Kept.each
    | split
    | (with_reducible apply Kept.free); split

theorem State.validated_kept {q : List Instr} (s : State) (gs : List Nat) (joint : Option Nat) (h : Kept q s) :
    Kept q (State.validated s gs joint) := by
  unfold State.validated
  repeat' first
    | with_reducible assumption
    | with_reducible exact fun h => h
    | exact fun _ => rfl
    | intro _
    | with_reducible apply State.showBounds_kept
    | with_reducible apply State.modGroup_kept
    | with_reducible apply State.requestApply_kept
    | with_reducible apply State.mgmtEvent_kept
    | with_reducible apply State.answer_kept
    | with_reducible apply State.tellAskers_kept
    | with_reducible apply Kept.whenIf
    | with_reducible apply Kept.each
    | with_reducible apply Kept.ite
    | fail_if_no_progress with_reducible apply Kept.free
    | fail_if_no_progress (with_reducible refine Kept.updRegs ?_ (fun hk => ?_)) <;> try with_reducible exact hk.regs
    | fail_if_no_progress (with_reducible refine Kept.updDict ?_ (fun hk => DictOk.upd hk.dict ?_)) <;> try first | with_reducible rfl | with_reducible exact fun h => h
    | fail_if_no_progress (with_reducible refine Kept.updSd ?_ (fun hk => ?_)) <;> try with_reducible exact hk.sd
    | fail_if_no_progress (with_reducible refine Kept.updSatchel ?_ (fun hk => ?_)) <;> try with_reducible exact hk.satchel
    | with_reducible rfl
    | with_reducible refine Kept.groupsEq (q := q) ?_ ‹_›
    | split
    | (with_reducible apply Kept.free); split

theorem execValidationComplete_kept {q : List Instr} (g : Nat) (s : State) (h : Kept q s) :
    KeptOut q (execValidationComplete g s) := by
  unfold execValidationComplete
  repeat' first
    | with_reducible assumption
    | with_reducible apply KeptOut.next
    | with_reducible apply KeptOut.ite
    | intro _
    | with_reducible apply State.validated_kept
    | with_reducible apply Kept.ite
    | split
    | dsimp only; split

theorem State.restoreShadows_kept {q : List Instr} (s : State) (p : Snapshot) (h : Kept q s) :
    Kept q (State.restoreShadows s p) := by
  unfold State.restoreShadows
  repeat' first
    | with_reducible assumption
    | intro _
    | with_reducible apply State.setFld_kept
    | with_reducible apply Kept.each
    | split
    | (with_reducible apply Kept.free); split

theorem State.seed_kept {q : List Instr} (s : State) (w : Wing) (h : Kept q s) :
    Kept q (State.seed s w) := by
  unfold State.seed
  repeat' first
    | with_reducible assumption
    | with_reducible exact fun h => h
    | exact fun _ => rfl
    | intro _
    | with_reducible apply State.setFirst_kept
    | with_reducible apply State.restoreShadows_kept
    | with_reducible apply State.restore_kept
    | with_reducible apply Kept.ite
    | fail_if_no_progress with_reducible apply Kept.free
    | fail_if_no_progress (with_reducible refine Kept.updRegs ?_ (fun hk => ?_)) <;> try with_reducible exact hk.regs
    | fail_if_no_progress (with_reducible refine Kept.updDict ?_ (fun hk => DictOk.upd hk.dict ?_)) <;> try first | with_reducible rfl | with_reducible exact fun h => h
    | fail_if_no_progress (with_reducible refine Kept.updSd ?_ (fun hk => ?_)) <;> try with_reducible exact hk.sd
    | fail_if_no_progress (with_reducible refine Kept.updSatchel ?_ (fun hk => ?_)) <;> try with_reducible exact hk.satchel
    | with_reducible rfl
    | with_reducible refine Kept.groupsEq (q := q) ?_ ‹_›
    | split
    | (with_reducible apply Kept.free); split

theorem execSeedComplete_kept {q : List Instr} (s : State) (h : Kept q s) :
    KeptOut q (execSeedComplete s) := by
  unfold execSeedComplete
  repeat' first
    | with_reducible assumption
    | with_reducible apply KeptOut.next
    | with_reducible exact fun h => h
    | exact fun _ => rfl
    | intro _
    | with_reducible apply State.seed_kept
    | with_reducible apply State.tell_kept
    | with_reducible apply Kept.each
    | fail_if_no_progress with_reducible apply Kept.free
    | fail_if_no_progress (with_reducible refine Kept.updRegs ?_ (fun hk => ?_)) <;> try with_reducible exact hk.regs
    | fail_if_no_progress (with_reducible refine Kept.updDict ?_ (fun hk => DictOk.upd hk.dict ?_)) <;> try first | with_reducible rfl | with_reducible exact fun h => h
    | fail_if_no_progress (with_reducible refine Kept.updSd ?_ (fun hk => ?_)) <;> try with_reducible exact hk.sd
    | fail_if_no_progress (with_reducible refine Kept.updSatchel ?_ (fun hk => ?_)) <;> try with_reducible exact hk.satchel
    | with_reducible rfl
    | with_reducible refine Kept.groupsEq (q := q) ?_ ‹_›
    | split
    | dsimp only; split

end Sys2Proof.Machine
end

