-- ==== Sys2Proof/Laws/KeptTutor.lean ====
section
/-!
SUPPORT. What every operation of Machine/Tutor.lean keeps (Laws/Kept.lean).
-/
namespace Sys2Proof.Machine

set_option linter.unusedTactic false
set_option linter.unreachableTactic false

theorem execInterruptClaim_kept {q : List Instr} (core : Nat) (s : State) (h : Kept q s) :
    KeptOut q (execInterruptClaim core s) := by
  unfold execInterruptClaim
  repeat' first
    | with_reducible assumption
    | with_reducible apply KeptOut.next
    | with_reducible apply KeptOut.ite
    | with_reducible exact fun h => h
    | exact fun _ => rfl
    | with_reducible refine Kept.itcmWf (q := q) ?_
    | with_reducible refine Kept.dtcmWf (q := q) ?_
    | intro _
    | with_reducible apply State.coreActs_kept
    | with_reducible apply State.reads_kept
    | with_reducible apply State.setBit_kept
    | with_reducible apply Kept.ite
    | fail_if_no_progress with_reducible apply Kept.free
    | fail_if_no_progress (with_reducible refine Kept.updRegs ?_ (fun hk => ?_)) <;> try with_reducible exact hk.regs
    | fail_if_no_progress (with_reducible refine Kept.updTut ?_ (fun hk => TutOk.upd hk.tut ?_ ?_ ?_ ?_ ?_ ?_ ?_ ?_)) <;> try first | with_reducible rfl | with_reducible exact fun h => h
    | fail_if_no_progress (with_reducible refine Kept.updSd ?_ (fun hk => ?_)) <;> try with_reducible exact hk.sd
    | fail_if_no_progress (with_reducible refine Kept.updSatchel ?_ (fun hk => ?_)) <;> try with_reducible exact hk.satchel
    | with_reducible rfl
    | with_reducible refine Kept.mtcmpEq (q := q) ?_ ‹_›
    | with_reducible refine Kept.mtcmpHoldEq (q := q) ?_ ‹_›
    | with_reducible refine Kept.enteredEq (q := q) ?_ ‹_›
    | with_reducible refine Kept.lrEq (q := q) ?_ ‹_›
    | with_reducible refine Kept.mcauseEq (q := q) ?_ ‹_›
    | with_reducible refine Kept.mtvalEq (q := q) ?_ ‹_›
    | split
    | dsimp only; split

theorem execInterruptComplete_kept {q : List Instr} (core : Nat) (src : Nat) (s : State) (h : Kept q s) :
    KeptOut q (execInterruptComplete core src s) := by
  unfold execInterruptComplete
  repeat' first
    | with_reducible assumption
    | with_reducible apply KeptOut.next
    | intro _
    | with_reducible apply State.coreActs_kept
    | with_reducible apply State.claimEnds_kept
    | split
    | dsimp only; split

theorem execMachineTimer_kept {q : List Instr} (core : Nat) (s : State) (h : Kept q s) :
    KeptOut q (execMachineTimer core s) := by
  unfold execMachineTimer
  repeat' first
    | with_reducible assumption
    | with_reducible apply KeptOut.next
    | intro _
    | with_reducible apply State.timerCheck_kept
    | split
    | dsimp only; split

theorem execTutMtcmplWrite_kept {q : List Instr} (core : Nat) (value : Nat) (s : State) (h : Kept q s) :
    KeptOut q (execTutMtcmplWrite core value s) := by
  unfold execTutMtcmplWrite
  repeat' first
    | with_reducible assumption
    | with_reducible apply KeptOut.next
    | intro _
    | with_reducible apply State.coreActs_kept
    | with_reducible apply State.mtcmpLow_kept
    | split
    | dsimp only; split

theorem execTutMtcmphWrite_kept {q : List Instr} (core : Nat) (value : Nat) (s : State) (h : Kept q s) :
    KeptOut q (execTutMtcmphWrite core value s) := by
  unfold execTutMtcmphWrite
  repeat' first
    | with_reducible assumption
    | with_reducible apply KeptOut.next
    | intro _
    | with_reducible apply State.coreActs_kept
    | with_reducible apply State.mtcmpHigh_kept
    | split
    | dsimp only; split

theorem execWfi_kept {q : List Instr} (core : Nat) (s : State) (h : Kept q s) :
    KeptOut q (execWfi core s) := by
  unfold execWfi
  repeat' first
    | with_reducible assumption
    | with_reducible apply KeptOut.next
    | with_reducible apply KeptOut.ite
    | with_reducible exact fun h => h
    | exact fun _ => rfl
    | with_reducible refine Kept.itcmWf (q := q) ?_
    | with_reducible refine Kept.dtcmWf (q := q) ?_
    | intro _
    | with_reducible apply State.coreActs_kept
    | with_reducible apply Kept.ite
    | fail_if_no_progress with_reducible apply Kept.free
    | fail_if_no_progress (with_reducible refine Kept.updRegs ?_ (fun hk => ?_)) <;> try with_reducible exact hk.regs
    | fail_if_no_progress (with_reducible refine Kept.updTut ?_ (fun hk => TutOk.upd hk.tut ?_ ?_ ?_ ?_ ?_ ?_ ?_ ?_)) <;> try first | with_reducible rfl | with_reducible exact fun h => h
    | fail_if_no_progress (with_reducible refine Kept.updSd ?_ (fun hk => ?_)) <;> try with_reducible exact hk.sd
    | fail_if_no_progress (with_reducible refine Kept.updSatchel ?_ (fun hk => ?_)) <;> try with_reducible exact hk.satchel
    | with_reducible rfl
    | with_reducible refine Kept.mtcmpEq (q := q) ?_ ‹_›
    | with_reducible refine Kept.mtcmpHoldEq (q := q) ?_ ‹_›
    | with_reducible refine Kept.enteredEq (q := q) ?_ ‹_›
    | with_reducible refine Kept.lrEq (q := q) ?_ ‹_›
    | with_reducible refine Kept.mcauseEq (q := q) ?_ ‹_›
    | with_reducible refine Kept.mtvalEq (q := q) ?_ ‹_›
    | split
    | dsimp only; split

theorem State.gatewayGo_kept {q : List Instr} (s : State) (core : Nat) (op : Nat) (ien : Bool) (h : Kept q s) :
    Kept q (State.gatewayGo s core op ien) := by
  unfold State.gatewayGo
  repeat' first
    | with_reducible assumption
    | intro _
    | with_reducible apply State.discarded_kept
    | with_reducible apply State.setFld_kept
    | with_reducible apply State.setFlag_kept
    | with_reducible apply State.askRollCall_kept
    | with_reducible apply Kept.whenIf
    | with_reducible apply Kept.ite
    | split
    | (with_reducible apply Kept.free); split

theorem execGatewayRead_kept {q : List Instr} (core : Nat) (ien : Bool) (s : State) (h : Kept q s) :
    KeptOut q (execGatewayRead core ien s) := by
  unfold execGatewayRead
  repeat' first
    | with_reducible assumption
    | with_reducible apply KeptOut.next
    | intro _
    | with_reducible apply State.coreActs_kept
    | with_reducible apply State.gatewayGo_kept
    | split
    | dsimp only; split

theorem execGatewayWrite_kept {q : List Instr} (core : Nat) (ien : Bool) (s : State) (h : Kept q s) :
    KeptOut q (execGatewayWrite core ien s) := by
  unfold execGatewayWrite
  repeat' first
    | with_reducible assumption
    | with_reducible apply KeptOut.next
    | intro _
    | with_reducible apply State.coreActs_kept
    | with_reducible apply State.gatewayGo_kept
    | split
    | dsimp only; split

theorem State.gatewayFails_kept {q : List Instr} (s : State) (core : Nat) (code : Nat) (h : Kept q s) :
    Kept q (State.gatewayFails s core code) := by
  unfold State.gatewayFails
  repeat' first
    | with_reducible assumption
    | intro _
    | with_reducible apply State.violation_kept
    | with_reducible apply State.endGateway_kept
    | with_reducible apply Kept.whenIf
    | split
    | (with_reducible apply Kept.free); split

theorem State.gatewayPlace_kept {q : List Instr} (s : State) (core : Nat) (data : List Nat) (h : Kept q s) :
    Kept q (State.gatewayPlace s core data) := by
  unfold State.gatewayPlace
  repeat' first
    | with_reducible assumption
    | intro _
    | with_reducible apply State.gatewayFails_kept
    | with_reducible apply State.corePlace_kept
    | (with_reducible refine Kept.snd ?_ (by assumption)); with_reducible apply State.corePlace_kept
    | with_reducible apply State.endGateway_kept
    | with_reducible apply State.setFld_kept
    | with_reducible apply Kept.ite
    | split
    | (with_reducible apply Kept.free); split

theorem State.gatewayReads_kept {q : List Instr} (s : State) (core : Nat) (idx : Nat) (sub : Nat) (h : Kept q s) :
    Kept q (State.gatewayReads s core idx sub) := by
  unfold State.gatewayReads
  repeat' first
    | with_reducible assumption
    | intro _
    | with_reducible apply State.endGateway_kept
    | with_reducible apply State.gatewayPlace_kept
    | with_reducible apply State.dictRead_kept
    | with_reducible apply State.answer_kept
    | with_reducible apply Kept.ite
    | split
    | (with_reducible apply Kept.free); split

theorem State.gatewayWrites_kept {q : List Instr} (s : State) (core : Nat) (idx : Nat) (sub : Nat) (h : Kept q s) :
    Kept q (State.gatewayWrites s core idx sub) := by
  unfold State.gatewayWrites
  repeat' first
    | with_reducible assumption
    | intro _
    | with_reducible apply State.endGateway_kept
    | with_reducible apply State.gatewayFails_kept
    | with_reducible apply State.request_kept
    | with_reducible apply State.answer_kept
    | with_reducible refine State.attach_kept _ _ _ _ _ ?_ _ (by assumption)
    | with_reducible apply Kept.ite
    | split
    | (with_reducible apply Kept.free); split

theorem execGatewayDone_kept {q : List Instr} (core : Nat) (s : State) (h : Kept q s) :
    KeptOut q (execGatewayDone core s) := by
  unfold execGatewayDone
  repeat' first
    | with_reducible assumption
    | with_reducible apply KeptOut.next
    | with_reducible apply KeptOut.ite
    | intro _
    | with_reducible apply State.gatewayReads_kept
    | with_reducible apply State.gatewayWrites_kept
    | with_reducible apply Kept.ite
    | split
    | dsimp only; split

theorem State.tap_kept {q : List Instr} (s : State) (ir : Nat) (dr : Nat) (h : Kept q s) :
    Kept q (State.tap s ir dr) := by
  unfold State.tap
  repeat' first
    | with_reducible assumption
    | with_reducible exact fun h => h
    | exact fun _ => rfl
    | with_reducible refine Kept.itcmWf (q := q) ?_
    | with_reducible refine Kept.dtcmWf (q := q) ?_
    | intro _
    | with_reducible apply Kept.ite
    | fail_if_no_progress with_reducible apply Kept.free
    | fail_if_no_progress (with_reducible refine Kept.updRegs ?_ (fun hk => ?_)) <;> try with_reducible exact hk.regs
    | fail_if_no_progress (with_reducible refine Kept.updTut ?_ (fun hk => TutOk.upd hk.tut ?_ ?_ ?_ ?_ ?_ ?_ ?_ ?_)) <;> try first | with_reducible rfl | with_reducible exact fun h => h
    | fail_if_no_progress (with_reducible refine Kept.updSd ?_ (fun hk => ?_)) <;> try with_reducible exact hk.sd
    | fail_if_no_progress (with_reducible refine Kept.updSatchel ?_ (fun hk => ?_)) <;> try with_reducible exact hk.satchel
    | with_reducible rfl
    | with_reducible refine Kept.mtcmpEq (q := q) ?_ ‹_›
    | with_reducible refine Kept.mtcmpHoldEq (q := q) ?_ ‹_›
    | with_reducible refine Kept.enteredEq (q := q) ?_ ‹_›
    | with_reducible refine Kept.lrEq (q := q) ?_ ‹_›
    | with_reducible refine Kept.mcauseEq (q := q) ?_ ‹_›
    | with_reducible refine Kept.mtvalEq (q := q) ?_ ‹_›
    | split
    | (with_reducible apply Kept.free); split

theorem execTapReset_kept {q : List Instr} (s : State) (h : Kept q s) :
    KeptOut q (execTapReset s) := by
  unfold execTapReset
  repeat' first
    | with_reducible assumption
    | with_reducible apply KeptOut.next
    | intro _
    | with_reducible apply State.tap_kept
    | split
    | dsimp only; split

theorem execIdcode_kept {q : List Instr} (s : State) (h : Kept q s) :
    KeptOut q (execIdcode s) := by
  unfold execIdcode
  repeat' first
    | with_reducible assumption
    | with_reducible apply KeptOut.next
    | intro _
    | with_reducible apply State.tap_kept
    | split
    | dsimp only; split

theorem execExtest_kept {q : List Instr} (cells : Nat) (s : State) (h : Kept q s) :
    KeptOut q (execExtest cells s) := by
  unfold execExtest
  repeat' first
    | with_reducible assumption
    | with_reducible apply KeptOut.next
    | with_reducible exact fun h => h
    | exact fun _ => rfl
    | with_reducible refine Kept.itcmWf (q := q) ?_
    | with_reducible refine Kept.dtcmWf (q := q) ?_
    | intro _
    | with_reducible apply State.fresh_kept
    | (with_reducible refine Kept.snd ?_ (by assumption)); with_reducible apply State.fresh_kept
    | with_reducible apply State.tap_kept
    | fail_if_no_progress with_reducible apply Kept.free
    | fail_if_no_progress (with_reducible refine Kept.updRegs ?_ (fun hk => ?_)) <;> try with_reducible exact hk.regs
    | fail_if_no_progress (with_reducible refine Kept.updTut ?_ (fun hk => TutOk.upd hk.tut ?_ ?_ ?_ ?_ ?_ ?_ ?_ ?_)) <;> try first | with_reducible rfl | with_reducible exact fun h => h
    | fail_if_no_progress (with_reducible refine Kept.updSd ?_ (fun hk => ?_)) <;> try with_reducible exact hk.sd
    | fail_if_no_progress (with_reducible refine Kept.updSatchel ?_ (fun hk => ?_)) <;> try with_reducible exact hk.satchel
    | with_reducible rfl
    | with_reducible refine Kept.mtcmpEq (q := q) ?_ ‹_›
    | with_reducible refine Kept.mtcmpHoldEq (q := q) ?_ ‹_›
    | with_reducible refine Kept.enteredEq (q := q) ?_ ‹_›
    | with_reducible refine Kept.lrEq (q := q) ?_ ‹_›
    | with_reducible refine Kept.mcauseEq (q := q) ?_ ‹_›
    | with_reducible refine Kept.mtvalEq (q := q) ?_ ‹_›
    | split
    | dsimp only; split

theorem execSamplePreload_kept {q : List Instr} (cells : Nat) (s : State) (h : Kept q s) :
    KeptOut q (execSamplePreload cells s) := by
  unfold execSamplePreload
  repeat' first
    | with_reducible assumption
    | with_reducible apply KeptOut.next
    | with_reducible exact fun h => h
    | exact fun _ => rfl
    | with_reducible refine Kept.itcmWf (q := q) ?_
    | with_reducible refine Kept.dtcmWf (q := q) ?_
    | intro _
    | with_reducible apply State.fresh_kept
    | (with_reducible refine Kept.snd ?_ (by assumption)); with_reducible apply State.fresh_kept
    | with_reducible apply State.tap_kept
    | fail_if_no_progress with_reducible apply Kept.free
    | fail_if_no_progress (with_reducible refine Kept.updRegs ?_ (fun hk => ?_)) <;> try with_reducible exact hk.regs
    | fail_if_no_progress (with_reducible refine Kept.updTut ?_ (fun hk => TutOk.upd hk.tut ?_ ?_ ?_ ?_ ?_ ?_ ?_ ?_)) <;> try first | with_reducible rfl | with_reducible exact fun h => h
    | fail_if_no_progress (with_reducible refine Kept.updSd ?_ (fun hk => ?_)) <;> try with_reducible exact hk.sd
    | fail_if_no_progress (with_reducible refine Kept.updSatchel ?_ (fun hk => ?_)) <;> try with_reducible exact hk.satchel
    | with_reducible rfl
    | with_reducible refine Kept.mtcmpEq (q := q) ?_ ‹_›
    | with_reducible refine Kept.mtcmpHoldEq (q := q) ?_ ‹_›
    | with_reducible refine Kept.enteredEq (q := q) ?_ ‹_›
    | with_reducible refine Kept.lrEq (q := q) ?_ ‹_›
    | with_reducible refine Kept.mcauseEq (q := q) ?_ ‹_›
    | with_reducible refine Kept.mtvalEq (q := q) ?_ ‹_›
    | split
    | dsimp only; split

theorem execDtmcs_kept {q : List Instr} (s : State) (h : Kept q s) :
    KeptOut q (execDtmcs s) := by
  unfold execDtmcs
  repeat' first
    | with_reducible assumption
    | with_reducible apply KeptOut.next
    | intro _
    | with_reducible apply State.fresh_kept
    | (with_reducible refine Kept.snd ?_ (by assumption)); with_reducible apply State.fresh_kept
    | with_reducible apply State.tap_kept
    | split
    | dsimp only; split

theorem execBypass_kept {q : List Instr} (s : State) (h : Kept q s) :
    KeptOut q (execBypass s) := by
  unfold execBypass
  repeat' first
    | with_reducible assumption
    | with_reducible apply KeptOut.next
    | intro _
    | with_reducible apply State.tap_kept
    | split
    | dsimp only; split

theorem State.resumeCore_kept {q : List Instr} (s : State) (core : Nat) (h : Kept q s) :
    Kept q (State.resumeCore s core) := by
  unfold State.resumeCore
  repeat' first
    | with_reducible assumption
    | with_reducible exact fun h => h
    | exact fun _ => rfl
    | with_reducible refine Kept.itcmWf (q := q) ?_
    | with_reducible refine Kept.dtcmWf (q := q) ?_
    | intro _
    | with_reducible apply State.enterTakeover_kept
    | with_reducible apply Kept.whenIf
    | with_reducible apply Kept.ite
    | fail_if_no_progress with_reducible apply Kept.free
    | fail_if_no_progress (with_reducible refine Kept.updRegs ?_ (fun hk => ?_)) <;> try with_reducible exact hk.regs
    | fail_if_no_progress (with_reducible refine Kept.updTut ?_ (fun hk => TutOk.upd hk.tut ?_ ?_ ?_ ?_ ?_ ?_ ?_ ?_)) <;> try first | with_reducible rfl | with_reducible exact fun h => h
    | fail_if_no_progress (with_reducible refine Kept.updSd ?_ (fun hk => ?_)) <;> try with_reducible exact hk.sd
    | fail_if_no_progress (with_reducible refine Kept.updSatchel ?_ (fun hk => ?_)) <;> try with_reducible exact hk.satchel
    | with_reducible rfl
    | with_reducible refine Kept.mtcmpEq (q := q) ?_ ‹_›
    | with_reducible refine Kept.mtcmpHoldEq (q := q) ?_ ‹_›
    | with_reducible refine Kept.enteredEq (q := q) ?_ ‹_›
    | with_reducible refine Kept.lrEq (q := q) ?_ ‹_›
    | with_reducible refine Kept.mcauseEq (q := q) ?_ ‹_›
    | with_reducible refine Kept.mtvalEq (q := q) ?_ ‹_›
    | split
    | (with_reducible apply Kept.free); split

theorem execDebugHalt_kept {q : List Instr} (core : Nat) (s : State) (h : Kept q s) :
    KeptOut q (execDebugHalt core s) := by
  unfold execDebugHalt
  repeat' first
    | with_reducible assumption
    | with_reducible apply KeptOut.next
    | with_reducible apply KeptOut.ite
    | with_reducible exact fun h => h
    | exact fun _ => rfl
    | with_reducible refine Kept.itcmWf (q := q) ?_
    | with_reducible refine Kept.dtcmWf (q := q) ?_
    | intro _
    | with_reducible apply State.settlePads_kept
    | with_reducible apply Kept.ite
    | fail_if_no_progress with_reducible apply Kept.free
    | fail_if_no_progress (with_reducible refine Kept.updRegs ?_ (fun hk => ?_)) <;> try with_reducible exact hk.regs
    | fail_if_no_progress (with_reducible refine Kept.updTut ?_ (fun hk => TutOk.upd hk.tut ?_ ?_ ?_ ?_ ?_ ?_ ?_ ?_)) <;> try first | with_reducible rfl | with_reducible exact fun h => h
    | fail_if_no_progress (with_reducible refine Kept.updSd ?_ (fun hk => ?_)) <;> try with_reducible exact hk.sd
    | fail_if_no_progress (with_reducible refine Kept.updSatchel ?_ (fun hk => ?_)) <;> try with_reducible exact hk.satchel
    | with_reducible rfl
    | with_reducible refine Kept.mtcmpEq (q := q) ?_ ‹_›
    | with_reducible refine Kept.mtcmpHoldEq (q := q) ?_ ‹_›
    | with_reducible refine Kept.enteredEq (q := q) ?_ ‹_›
    | with_reducible refine Kept.lrEq (q := q) ?_ ‹_›
    | with_reducible refine Kept.mcauseEq (q := q) ?_ ‹_›
    | with_reducible refine Kept.mtvalEq (q := q) ?_ ‹_›
    | split
    | dsimp only; split

theorem execLehaltWrite_kept {q : List Instr} (core : Nat) (value : Nat) (s : State) (h : Kept q s) :
    KeptOut q (execLehaltWrite core value s) := by
  unfold execLehaltWrite
  repeat' first
    | with_reducible assumption
    | with_reducible apply KeptOut.next
    | intro _
    | with_reducible apply State.access_kept
    | with_reducible apply State.leHaltWrite_kept
    | split
    | dsimp only; split

theorem State.setLr_kept {q : List Instr} (s : State) (core : Nat) (g : Option (Nat × Nat)) (h : Kept q s) :
    Kept q (State.setLr s core g) := by
  unfold State.setLr
  repeat' first
    | with_reducible assumption
    | with_reducible exact fun h => h
    | exact fun _ => rfl
    | with_reducible refine Kept.itcmWf (q := q) ?_
    | with_reducible refine Kept.dtcmWf (q := q) ?_
    | intro _
    | fail_if_no_progress with_reducible apply Kept.free
    | fail_if_no_progress (with_reducible refine Kept.updRegs ?_ (fun hk => ?_)) <;> try with_reducible exact hk.regs
    | fail_if_no_progress (with_reducible refine Kept.updTut ?_ (fun hk => TutOk.upd hk.tut ?_ ?_ ?_ ?_ ?_ ?_ ?_ ?_)) <;> try first | with_reducible rfl | with_reducible exact fun h => h
    | fail_if_no_progress (with_reducible refine Kept.updSd ?_ (fun hk => ?_)) <;> try with_reducible exact hk.sd
    | fail_if_no_progress (with_reducible refine Kept.updSatchel ?_ (fun hk => ?_)) <;> try with_reducible exact hk.satchel
    | with_reducible rfl
    | with_reducible exact List.length_set
    | with_reducible exact List.length_set.trans List.length_set
    | exact List.length_set
    | with_reducible refine Kept.mtcmpEq (q := q) ?_ ‹_›
    | with_reducible refine Kept.mtcmpHoldEq (q := q) ?_ ‹_›
    | with_reducible refine Kept.enteredEq (q := q) ?_ ‹_›
    | with_reducible refine Kept.lrEq (q := q) ?_ ‹_›
    | with_reducible refine Kept.mcauseEq (q := q) ?_ ‹_›
    | with_reducible refine Kept.mtvalEq (q := q) ?_ ‹_›
    | split
    | (with_reducible apply Kept.free); split

theorem State.amoBad_kept {q : List Instr} (s : State) (core : Nat) (addr : Nat) (h : Kept q s) :
    Kept q (State.amoBad s core addr) := by
  unfold State.amoBad
  repeat' first
    | with_reducible assumption
    | intro _
    | with_reducible apply State.coreFault_kept
    | with_reducible apply State.badRead_kept
    | with_reducible apply Kept.ite
    | split
    | (with_reducible apply Kept.free); split

theorem State.amoDo_kept {q : List Instr} (s : State) (core : Nat) (addr : Nat) (g : Nat × Nat) (op : AmoOp) (old : Nat) (v
    : Nat) (h : Kept q s) :
    Kept q (State.amoDo s core addr g op old v) := by
  unfold State.amoDo
  repeat' first
    | with_reducible assumption
    | intro _
    | with_reducible apply State.setLr_kept
    | with_reducible apply State.reads_kept
    | with_reducible apply State.memStore_kept
    | with_reducible apply Kept.ite
    | split
    | (with_reducible apply Kept.free); split

theorem execAmoSatchel_kept {q : List Instr} (core : Nat) (addr : Nat) (op : AmoOp) (value : Nat) (s : State) (h : Kept q s) :
    KeptOut q (execAmoSatchel core addr op value s) := by
  unfold execAmoSatchel
  repeat' first
    | with_reducible assumption
    | with_reducible apply KeptOut.next
    | with_reducible apply KeptOut.ite
    | intro _
    | with_reducible apply State.access_kept
    | with_reducible apply State.coreFault_kept
    | with_reducible apply State.amoBad_kept
    | with_reducible apply State.amoDo_kept
    | with_reducible apply Kept.ite
    | split
    | dsimp only; split

theorem State.blockStore_kept {q : List Instr} (s : State) (core : Nat) (addr : Nat) (v : Nat) (h : Kept q s) :
    Kept q (State.blockStore s core addr v) := by
  unfold State.blockStore
  repeat' first
    | with_reducible assumption
    | intro _
    | with_reducible apply State.windowWrite_kept
    | with_reducible apply State.gatewayGo_kept
    | with_reducible apply State.setFld_kept
    | with_reducible apply State.coreFault_kept
    | with_reducible apply State.regPut_kept
    | with_reducible apply Kept.whenIf
    | with_reducible apply Kept.ite
    | split
    | (with_reducible apply Kept.free); split

theorem execRegisterWrite_kept {q : List Instr} (core : Nat) (addr : Nat) (value : Nat) (s : State) (h : Kept q s) :
    KeptOut q (execRegisterWrite core addr value s) := by
  unfold execRegisterWrite
  repeat' first
    | with_reducible assumption
    | with_reducible apply KeptOut.next
    | with_reducible apply KeptOut.ite
    | intro _
    | with_reducible apply State.access_kept
    | with_reducible apply State.coreFault_kept
    | with_reducible apply State.blockStore_kept
    | with_reducible apply State.coreStore_kept
    | with_reducible apply Kept.ite
    | split
    | dsimp only; split

end Sys2Proof.Machine
end

