-- ==== Sys2Proof/Laws/KeptCoreLoad.lean ====
section
/-!
SUPPORT. What every operation of Machine/CoreLoad.lean keeps (Laws/Kept.lean).
-/
namespace Sys2Proof.Machine

set_option linter.unusedTactic false
set_option linter.unreachableTactic false

theorem State.readClears_kept {q : List Instr} (s : State) (r : RegDesc) (i : Nat) (h : Kept q s) :
    Kept q (State.readClears s r i) := by
  unfold State.readClears
  repeat' first
    | with_reducible assumption
    | intro _
    | with_reducible apply State.setFld_kept
    | with_reducible apply Kept.whenIf
    | with_reducible apply Kept.each
    | split
    | (with_reducible apply Kept.free); split

theorem State.regLoad_kept {q : List Instr} (s : State) (core : Nat) (addr : Nat) (h : Kept q s) :
    Kept q (State.regLoad s core addr) := by
  unfold State.regLoad
  repeat' first
    | with_reducible assumption
    | with_reducible apply execTbLoRead_kept
    | with_reducible apply execRtcSubRead_kept
    | with_reducible apply execInterruptClaim_kept
    | intro _
    | with_reducible apply State.reads_kept
    | with_reducible apply State.took_kept
    | with_reducible apply execTbLoRead_kept
    | with_reducible apply execRtcSubRead_kept
    | with_reducible apply execInterruptClaim_kept
    | with_reducible apply State.setFld_kept
    | with_reducible apply State.readClears_kept
    | with_reducible apply Kept.ite
    | split
    | (with_reducible apply Kept.free); split

theorem State.setHighLatch_kept {q : List Instr} (s : State) (core : Nat) (l : Option (Nat × Nat × Nat)) (h : Kept q s) :
    Kept q (State.setHighLatch s core l) := by
  unfold State.setHighLatch
  repeat' first
    | with_reducible assumption
    | with_reducible exact fun h => h
    | exact fun _ => rfl
    | with_reducible refine Kept.memWf (q := q) ?_
    | with_reducible refine Kept.engsOk (q := q) ?_
    | intro _
    | fail_if_no_progress with_reducible apply Kept.free
    | fail_if_no_progress (with_reducible refine Kept.updRegs ?_ (fun hk => ?_)) <;> try with_reducible exact hk.regs
    | fail_if_no_progress (with_reducible refine Kept.updEng ?_ (fun hk => EngOk.upd hk.eng ?_ ?_ ?_)) <;> try first | with_reducible rfl | with_reducible exact fun h => h
    | fail_if_no_progress (with_reducible refine Kept.updSd ?_ (fun hk => ?_)) <;> try with_reducible exact hk.sd
    | fail_if_no_progress (with_reducible refine Kept.updSatchel ?_ (fun hk => ?_)) <;> try with_reducible exact hk.satchel
    | with_reducible rfl
    | with_reducible exact List.length_set
    | with_reducible exact List.length_set.trans List.length_set
    | exact List.length_set
    | with_reducible refine Kept.lowHoldEq (q := q) ?_ ‹_›
    | split
    | (with_reducible apply Kept.free); split

theorem State.windowLoad_kept {q : List Instr} (s : State) (core : Nat) (n : Nat) (idx : Nat) (h : Kept q s) :
    Kept q (State.windowLoad s core n idx) := by
  unfold State.windowLoad
  repeat' first
    | with_reducible assumption
    | intro _
    | with_reducible apply State.coreFault_kept
    | with_reducible apply State.badRead_kept
    | with_reducible apply State.reads_kept
    | with_reducible apply State.setHighLatch_kept
    | with_reducible apply Kept.ite
    | split
    | (with_reducible apply Kept.free); split

theorem State.blockLoad_kept {q : List Instr} (s : State) (core : Nat) (addr : Nat) (width : Nat) (h : Kept q s) :
    Kept q (State.blockLoad s core addr width) := by
  unfold State.blockLoad
  repeat' first
    | with_reducible assumption
    | intro _
    | with_reducible apply State.accessAs_kept
    | with_reducible apply State.coreFault_kept
    | with_reducible apply State.windowLoad_kept
    | with_reducible apply State.regLoad_kept
    | with_reducible apply Kept.ite
    | split
    | (with_reducible apply Kept.free); split

theorem State.readsBytes_kept {q : List Instr} (s : State) (l : List Nat) (h : Kept q s) :
    Kept q (State.readsBytes s l) := by
  unfold State.readsBytes
  repeat' first
    | with_reducible assumption
    | intro _
    | with_reducible apply State.reads_kept
    | split
    | (with_reducible apply Kept.free); split

theorem State.loadBad_kept {q : List Instr} (s : State) (cause : Nat) (core : Nat) (mem : Nat) (addr : Nat) (h : Kept q s) :
    Kept q (State.loadBad s cause core mem addr) := by
  unfold State.loadBad
  repeat' first
    | with_reducible assumption
    | intro _
    | with_reducible apply State.coreFault_kept
    | with_reducible apply State.badRead_kept
    | split
    | (with_reducible apply Kept.free); split

theorem State.sramLoad_kept {q : List Instr} (s : State) (cause : Nat) (core : Nat) (o : Nat) (n : Nat) (h : Kept q s) :
    Kept q (State.sramLoad s cause core o n) := by
  unfold State.sramLoad
  repeat' first
    | with_reducible assumption
    | intro _
    | with_reducible apply State.loadBad_kept
    | with_reducible apply State.readsBytes_kept
    | with_reducible apply State.fresh_kept
    | (with_reducible refine Kept.snd ?_ (by assumption)); with_reducible apply State.fresh_kept
    | with_reducible apply State.reads_kept
    | with_reducible apply Kept.ite
    | split
    | (with_reducible apply Kept.free); split

theorem State.xipLoad_kept {q : List Instr} (s : State) (cause : Nat) (core : Nat) (o : Nat) (n : Nat) (h : Kept q s) :
    Kept q (State.xipLoad s cause core o n) := by
  unfold State.xipLoad
  repeat' first
    | with_reducible assumption
    | intro _
    | with_reducible apply State.coreFault_kept
    | with_reducible apply State.fresh_kept
    | (with_reducible refine Kept.snd ?_ (by assumption)); with_reducible apply State.fresh_kept
    | with_reducible apply State.reads_kept
    | with_reducible apply State.readsBytes_kept
    | with_reducible apply Kept.ite
    | split
    | (with_reducible apply Kept.free); split

theorem State.memLoad_kept {q : List Instr} (s : State) (cause : Nat) (core : Nat) (addr : Nat) (n : Nat) (h : Kept q s) :
    Kept q (State.memLoad s cause core addr n) := by
  unfold State.memLoad
  repeat' first
    | with_reducible assumption
    | intro _
    | with_reducible apply State.readsBytes_kept
    | with_reducible apply State.loadBad_kept
    | with_reducible apply State.xipLoad_kept
    | with_reducible apply State.coreFault_kept
    | with_reducible apply State.sramLoad_kept
    | with_reducible apply Kept.ite
    | split
    | (with_reducible apply Kept.free); split

theorem State.coreLoad_kept {q : List Instr} (s : State) (core : Nat) (addr : Nat) (width : Nat) (h : Kept q s) :
    Kept q (State.coreLoad s core addr width) := by
  unfold State.coreLoad
  repeat' first
    | with_reducible assumption
    | intro _
    | with_reducible apply State.blockLoad_kept
    | with_reducible apply State.accessAs_kept
    | with_reducible apply State.coreFault_kept
    | with_reducible apply State.memLoad_kept
    | with_reducible apply Kept.ite
    | split
    | (with_reducible apply Kept.free); split

theorem State.coreFetch_kept {q : List Instr} (s : State) (core : Nat) (addr : Nat) (h : Kept q s) :
    Kept q (State.coreFetch s core addr) := by
  unfold State.coreFetch
  repeat' first
    | with_reducible assumption
    | intro _
    | with_reducible apply State.accessAs_kept
    | with_reducible apply State.memLoad_kept
    | split
    | (with_reducible apply Kept.free); split

theorem State.coreStores_kept {q : List Instr} (s : State) (core : Nat) (addr : Nat) (width : Nat) (v : Nat) (h : Kept q s) :
    Kept q (State.coreStores s core addr width v) := by
  unfold State.coreStores
  repeat' first
    | with_reducible assumption
    | with_reducible apply execRegisterWrite_kept
    | intro _
    | with_reducible apply State.took_kept
    | with_reducible apply execRegisterWrite_kept
    | with_reducible apply State.access_kept
    | with_reducible apply State.coreFault_kept
    | with_reducible apply State.coreStore_kept
    | with_reducible apply Kept.ite
    | split
    | (with_reducible apply Kept.free); split

theorem State.csrRead_kept {q : List Instr} (s : State) (core : Nat) (n : Nat) (h : Kept q s) :
    Kept q (State.csrRead s core n) := by
  unfold State.csrRead
  repeat' first
    | with_reducible assumption
    | with_reducible exact fun h => h
    | exact fun _ => rfl
    | with_reducible refine Kept.itcmWf (q := q) ?_
    | with_reducible refine Kept.dtcmWf (q := q) ?_
    | intro _
    | with_reducible apply State.reads_kept
    | with_reducible apply State.fresh_kept
    | (with_reducible refine Kept.snd ?_ (by assumption)); with_reducible apply State.fresh_kept
    | with_reducible apply Kept.ite
    | fail_if_no_progress with_reducible apply Kept.free
    | fail_if_no_progress (with_reducible refine Kept.updRegs ?_ (fun hk => ?_)) <;> try with_reducible exact hk.regs
    | fail_if_no_progress (with_reducible refine Kept.updTut ?_ (fun hk => TutOk.upd hk.tut ?_ ?_ ?_ ?_ ?_ ?_ ?_ ?_)) <;> try first | with_reducible rfl | with_reducible exact fun h => h
    | fail_if_no_progress (with_reducible refine Kept.updSd ?_ (fun hk => ?_)) <;> try with_reducible exact hk.sd
    | fail_if_no_progress (with_reducible refine Kept.updSatchel ?_ (fun hk => ?_)) <;> try with_reducible exact hk.satchel
    | with_reducible rfl
    | with_reducible exact List.length_set
    | with_reducible exact List.length_set.trans List.length_set
    | exact List.length_set
    | with_reducible refine Kept.mtcmpEq (q := q) ?_ ‹_›
    | with_reducible refine Kept.mtcmpHoldEq (q := q) ?_ ‹_›
    | with_reducible refine Kept.enteredEq (q := q) ?_ ‹_›
    | with_reducible refine Kept.lrEq (q := q) ?_ ‹_›
    | with_reducible refine Kept.mcauseEq (q := q) ?_ ‹_›
    | with_reducible refine Kept.mtvalEq (q := q) ?_ ‹_›
    | split
    | (with_reducible apply Kept.free); split

theorem State.csrPut_kept {q : List Instr} (s : State) (core : Nat) (n : Nat) (v : Nat) (h : Kept q s) :
    Kept q (State.csrPut s core n v) := by
  unfold State.csrPut
  repeat' first
    | with_reducible assumption
    | with_reducible exact fun h => h
    | exact fun _ => rfl
    | with_reducible exact SMap.wf_set (d := fun _ => 0) _ _
    | with_reducible refine Kept.itcmWf (q := q) ?_
    | with_reducible refine Kept.dtcmWf (q := q) ?_
    | intro _
    | fail_if_no_progress with_reducible apply Kept.free
    | fail_if_no_progress (with_reducible refine Kept.updRegs ?_ (fun hk => ?_)) <;> try with_reducible exact hk.regs
    | fail_if_no_progress (with_reducible refine Kept.updTut ?_ (fun hk => TutOk.upd hk.tut ?_ ?_ ?_ ?_ ?_ ?_ ?_ ?_)) <;> try first | with_reducible rfl | with_reducible exact fun h => h
    | fail_if_no_progress (with_reducible refine Kept.updSd ?_ (fun hk => ?_)) <;> try with_reducible exact hk.sd
    | fail_if_no_progress (with_reducible refine Kept.updSatchel ?_ (fun hk => ?_)) <;> try with_reducible exact hk.satchel
    | with_reducible rfl
    | with_reducible refine Kept.mtcmpEq (q := q) ?_ ‹_›
    | with_reducible refine Kept.mtcmpHoldEq (q := q) ?_ ‹_›
    | with_reducible refine Kept.enteredEq (q := q) ?_ ‹_›
    | with_reducible refine Kept.lrEq (q := q) ?_ ‹_›
    | with_reducible refine Kept.mcauseEq (q := q) ?_ ‹_›
    | with_reducible refine Kept.mtvalEq (q := q) ?_ ‹_›
    | split
    | (with_reducible apply Kept.free); split

theorem State.setPriv_kept {q : List Instr} (s : State) (core : Nat) (p : Nat) (h : Kept q s) :
    Kept q (State.setPriv s core p) := by
  unfold State.setPriv
  repeat' first
    | with_reducible assumption
    | with_reducible exact fun h => h
    | exact fun _ => rfl
    | with_reducible refine Kept.itcmWf (q := q) ?_
    | with_reducible refine Kept.dtcmWf (q := q) ?_
    | intro _
    | fail_if_no_progress with_reducible apply Kept.free
    | fail_if_no_progress (with_reducible refine Kept.updRegs ?_ (fun hk => ?_)) <;> try with_reducible exact hk.regs
    | fail_if_no_progress (with_reducible refine Kept.updTut ?_ (fun hk => TutOk.upd hk.tut ?_ ?_ ?_ ?_ ?_ ?_ ?_ ?_)) <;> try first | with_reducible rfl | with_reducible exact fun h => h
    | fail_if_no_progress (with_reducible refine Kept.updSd ?_ (fun hk => ?_)) <;> try with_reducible exact hk.sd
    | fail_if_no_progress (with_reducible refine Kept.updSatchel ?_ (fun hk => ?_)) <;> try with_reducible exact hk.satchel
    | with_reducible rfl
    | with_reducible refine Kept.mtcmpEq (q := q) ?_ ‹_›
    | with_reducible refine Kept.mtcmpHoldEq (q := q) ?_ ‹_›
    | with_reducible refine Kept.enteredEq (q := q) ?_ ‹_›
    | with_reducible refine Kept.lrEq (q := q) ?_ ‹_›
    | with_reducible refine Kept.mcauseEq (q := q) ?_ ‹_›
    | with_reducible refine Kept.mtvalEq (q := q) ?_ ‹_›
    | split
    | (with_reducible apply Kept.free); split

theorem State.csrWrite_kept {q : List Instr} (s : State) (core : Nat) (n : Nat) (v : Nat) (h : Kept q s) :
    Kept q (State.csrWrite s core n v) := by
  unfold State.csrWrite
  repeat' first
    | with_reducible assumption
    | with_reducible exact fun h => h
    | exact fun _ => rfl
    | with_reducible refine Kept.itcmWf (q := q) ?_
    | with_reducible refine Kept.dtcmWf (q := q) ?_
    | intro _
    | with_reducible apply State.setPriv_kept
    | with_reducible apply State.csrPut_kept
    | with_reducible apply Kept.ite
    | fail_if_no_progress with_reducible apply Kept.free
    | fail_if_no_progress (with_reducible refine Kept.updRegs ?_ (fun hk => ?_)) <;> try with_reducible exact hk.regs
    | fail_if_no_progress (with_reducible refine Kept.updTut ?_ (fun hk => TutOk.upd hk.tut ?_ ?_ ?_ ?_ ?_ ?_ ?_ ?_)) <;> try first | with_reducible rfl | with_reducible exact fun h => h
    | fail_if_no_progress (with_reducible refine Kept.updSd ?_ (fun hk => ?_)) <;> try with_reducible exact hk.sd
    | fail_if_no_progress (with_reducible refine Kept.updSatchel ?_ (fun hk => ?_)) <;> try with_reducible exact hk.satchel
    | with_reducible rfl
    | with_reducible exact List.length_set
    | with_reducible exact List.length_set.trans List.length_set
    | exact List.length_set
    | with_reducible refine Kept.mtcmpEq (q := q) ?_ ‹_›
    | with_reducible refine Kept.mtcmpHoldEq (q := q) ?_ ‹_›
    | with_reducible refine Kept.enteredEq (q := q) ?_ ‹_›
    | with_reducible refine Kept.lrEq (q := q) ?_ ‹_›
    | with_reducible refine Kept.mcauseEq (q := q) ?_ ‹_›
    | with_reducible refine Kept.mtvalEq (q := q) ?_ ‹_›
    | split
    | (with_reducible apply Kept.free); split

theorem State.regRead_kept {q : List Instr} (s : State) (core : Nat) (n : Nat) (h : Kept q s) :
    Kept q (State.regRead s core n) := by
  unfold State.regRead
  repeat' first
    | with_reducible assumption
    | intro _
    | with_reducible apply State.csrRead_kept
    | with_reducible apply State.reads_kept
    | with_reducible apply Kept.ite
    | split
    | (with_reducible apply Kept.free); split

theorem State.regWrite_kept {q : List Instr} (s : State) (core : Nat) (n : Nat) (v : Nat) (h : Kept q s) :
    Kept q (State.regWrite s core n v) := by
  unfold State.regWrite
  repeat' first
    | with_reducible assumption
    | with_reducible exact fun h => h
    | exact fun _ => rfl
    | with_reducible exact SMap.wf_set (d := fun _ => 0) _ _
    | with_reducible refine Kept.itcmWf (q := q) ?_
    | with_reducible refine Kept.dtcmWf (q := q) ?_
    | intro _
    | with_reducible apply State.csrWrite_kept
    | with_reducible apply Kept.ite
    | fail_if_no_progress with_reducible apply Kept.free
    | fail_if_no_progress (with_reducible refine Kept.updRegs ?_ (fun hk => ?_)) <;> try with_reducible exact hk.regs
    | fail_if_no_progress (with_reducible refine Kept.updTut ?_ (fun hk => TutOk.upd hk.tut ?_ ?_ ?_ ?_ ?_ ?_ ?_ ?_)) <;> try first | with_reducible rfl | with_reducible exact fun h => h
    | fail_if_no_progress (with_reducible refine Kept.updSd ?_ (fun hk => ?_)) <;> try with_reducible exact hk.sd
    | fail_if_no_progress (with_reducible refine Kept.updSatchel ?_ (fun hk => ?_)) <;> try with_reducible exact hk.satchel
    | with_reducible rfl
    | with_reducible refine Kept.mtcmpEq (q := q) ?_ ‹_›
    | with_reducible refine Kept.mtcmpHoldEq (q := q) ?_ ‹_›
    | with_reducible refine Kept.enteredEq (q := q) ?_ ‹_›
    | with_reducible refine Kept.lrEq (q := q) ?_ ‹_›
    | with_reducible refine Kept.mcauseEq (q := q) ?_ ‹_›
    | with_reducible refine Kept.mtvalEq (q := q) ?_ ‹_›
    | split
    | (with_reducible apply Kept.free); split

theorem State.setCmderr_kept {q : List Instr} (s : State) (e : Nat) (h : Kept q s) :
    Kept q (State.setCmderr s e) := by
  unfold State.setCmderr
  repeat' first
    | with_reducible assumption
    | with_reducible exact fun h => h
    | exact fun _ => rfl
    | with_reducible refine Kept.itcmWf (q := q) ?_
    | with_reducible refine Kept.dtcmWf (q := q) ?_
    | intro _
    | fail_if_no_progress with_reducible apply Kept.free
    | fail_if_no_progress (with_reducible refine Kept.updRegs ?_ (fun hk => ?_)) <;> try with_reducible exact hk.regs
    | fail_if_no_progress (with_reducible refine Kept.updTut ?_ (fun hk => TutOk.upd hk.tut ?_ ?_ ?_ ?_ ?_ ?_ ?_ ?_)) <;> try first | with_reducible rfl | with_reducible exact fun h => h
    | fail_if_no_progress (with_reducible refine Kept.updSd ?_ (fun hk => ?_)) <;> try with_reducible exact hk.sd
    | fail_if_no_progress (with_reducible refine Kept.updSatchel ?_ (fun hk => ?_)) <;> try with_reducible exact hk.satchel
    | with_reducible rfl
    | with_reducible refine Kept.mtcmpEq (q := q) ?_ ‹_›
    | with_reducible refine Kept.mtcmpHoldEq (q := q) ?_ ‹_›
    | with_reducible refine Kept.enteredEq (q := q) ?_ ‹_›
    | with_reducible refine Kept.lrEq (q := q) ?_ ‹_›
    | with_reducible refine Kept.mcauseEq (q := q) ?_ ‹_›
    | with_reducible refine Kept.mtvalEq (q := q) ?_ ‹_›
    | split
    | (with_reducible apply Kept.free); split

theorem State.setMcause_kept {q : List Instr} (s : State) (core : Nat) (c : Nat) (h : Kept q s) :
    Kept q (State.setMcause s core c) := by
  unfold State.setMcause
  repeat' first
    | with_reducible assumption
    | with_reducible exact fun h => h
    | exact fun _ => rfl
    | with_reducible refine Kept.itcmWf (q := q) ?_
    | with_reducible refine Kept.dtcmWf (q := q) ?_
    | intro _
    | fail_if_no_progress with_reducible apply Kept.free
    | fail_if_no_progress (with_reducible refine Kept.updRegs ?_ (fun hk => ?_)) <;> try with_reducible exact hk.regs
    | fail_if_no_progress (with_reducible refine Kept.updTut ?_ (fun hk => TutOk.upd hk.tut ?_ ?_ ?_ ?_ ?_ ?_ ?_ ?_)) <;> try first | with_reducible rfl | with_reducible exact fun h => h
    | fail_if_no_progress (with_reducible refine Kept.updSd ?_ (fun hk => ?_)) <;> try with_reducible exact hk.sd
    | fail_if_no_progress (with_reducible refine Kept.updSatchel ?_ (fun hk => ?_)) <;> try with_reducible exact hk.satchel
    | with_reducible rfl
    | with_reducible exact List.length_set
    | with_reducible exact List.length_set.trans List.length_set
    | exact List.length_set
    | with_reducible refine Kept.mtcmpEq (q := q) ?_ ‹_›
    | with_reducible refine Kept.mtcmpHoldEq (q := q) ?_ ‹_›
    | with_reducible refine Kept.enteredEq (q := q) ?_ ‹_›
    | with_reducible refine Kept.lrEq (q := q) ?_ ‹_›
    | with_reducible refine Kept.mcauseEq (q := q) ?_ ‹_›
    | with_reducible refine Kept.mtvalEq (q := q) ?_ ‹_›
    | split
    | (with_reducible apply Kept.free); split

theorem State.abstract_kept {q : List Instr} (s : State) (core : Nat) (f : State → State) (h : Kept q s) (hf : ∀ t, Kept q
    t → Kept q (f t)) :
    Kept q (State.abstract s core f) := by
  unfold State.abstract
  repeat' first
    | with_reducible assumption
    | intro _
    | with_reducible apply State.setCmderr_kept
    | with_reducible apply Kept.ite
    | with_reducible apply hf
    | split
    | (with_reducible apply Kept.free); split

theorem State.abstractMem_kept {q : List Instr} (s : State) (core : Nat) (f : State → State) (h : Kept q s) (hf : ∀ t, Kept
    q t → Kept q (f t)) :
    Kept q (State.abstractMem s core f) := by
  unfold State.abstractMem
  repeat' first
    | with_reducible assumption
    | intro _
    | with_reducible apply State.abstract_kept
    | with_reducible apply State.setMcause_kept
    | with_reducible apply State.setCmderr_kept
    | with_reducible apply Kept.ite
    | with_reducible apply hf
    | split
    | (with_reducible apply Kept.free); split

theorem State.debugDo_kept {q : List Instr} (s : State) (hart : Nat) (x2 : DmiOp) (h : Kept q s) :
    Kept q (State.debugDo s hart x2) := by
  unfold State.debugDo
  repeat' first
    | with_reducible assumption
    | with_reducible exact fun h => h
    | exact fun _ => rfl
    | with_reducible exact SMap.wf_set (d := fun _ => 0) _ _
    | with_reducible refine Kept.itcmWf (q := q) ?_
    | with_reducible refine Kept.dtcmWf (q := q) ?_
    | intro _
    | with_reducible apply State.resumeCore_kept
    | with_reducible apply State.abstractMem_kept
    | with_reducible apply State.coreLoad_kept
    | with_reducible apply State.coreStores_kept
    | with_reducible apply State.coreFetch_kept
    | with_reducible apply State.abstract_kept
    | with_reducible apply State.regRead_kept
    | with_reducible apply State.regWrite_kept
    | with_reducible apply State.reads_kept
    | fail_if_no_progress with_reducible apply Kept.free
    | fail_if_no_progress (with_reducible refine Kept.updRegs ?_ (fun hk => ?_)) <;> try with_reducible exact hk.regs
    | fail_if_no_progress (with_reducible refine Kept.updTut ?_ (fun hk => TutOk.upd hk.tut ?_ ?_ ?_ ?_ ?_ ?_ ?_ ?_)) <;> try first | with_reducible rfl | with_reducible exact fun h => h
    | fail_if_no_progress (with_reducible refine Kept.updSd ?_ (fun hk => ?_)) <;> try with_reducible exact hk.sd
    | fail_if_no_progress (with_reducible refine Kept.updSatchel ?_ (fun hk => ?_)) <;> try with_reducible exact hk.satchel
    | with_reducible rfl
    | with_reducible refine Kept.mtcmpEq (q := q) ?_ ‹_›
    | with_reducible refine Kept.mtcmpHoldEq (q := q) ?_ ‹_›
    | with_reducible refine Kept.enteredEq (q := q) ?_ ‹_›
    | with_reducible refine Kept.lrEq (q := q) ?_ ‹_›
    | with_reducible refine Kept.mcauseEq (q := q) ?_ ‹_›
    | with_reducible refine Kept.mtvalEq (q := q) ?_ ‹_›
    | split
    | (with_reducible apply Kept.free); split

theorem execDmi_kept {q : List Instr} (hart : Nat) (op : DmiOp) (s : State) (h : Kept q s) :
    KeptOut q (execDmi hart op s) := by
  unfold execDmi
  repeat' first
    | with_reducible assumption
    | with_reducible apply KeptOut.next
    | with_reducible exact fun h => h
    | exact fun _ => rfl
    | with_reducible refine Kept.itcmWf (q := q) ?_
    | with_reducible refine Kept.dtcmWf (q := q) ?_
    | intro _
    | with_reducible apply State.fresh_kept
    | (with_reducible refine Kept.snd ?_ (by assumption)); with_reducible apply State.fresh_kept
    | with_reducible apply State.tap_kept
    | with_reducible apply State.debugDo_kept
    | with_reducible apply Kept.whenIf
    | fail_if_no_progress with_reducible apply Kept.free
    | fail_if_no_progress (with_reducible refine Kept.updRegs ?_ (fun hk => ?_)) <;> try with_reducible exact hk.regs
    | fail_if_no_progress (with_reducible refine Kept.updTut ?_ (fun hk => TutOk.upd hk.tut ?_ ?_ ?_ ?_ ?_ ?_ ?_ ?_)) <;> try first | with_reducible rfl | with_reducible exact fun h => h
    | fail_if_no_progress (with_reducible refine Kept.updSd ?_ (fun hk => ?_)) <;> try with_reducible exact hk.sd
    | fail_if_no_progress (with_reducible refine Kept.updSatchel ?_ (fun hk => ?_)) <;> try with_reducible exact hk.satchel
    | with_reducible rfl
    | with_reducible refine Kept.mtcmpEq (q := q) ?_ ‹_›
    | with_reducible refine Kept.mtcmpHoldEq (q := q) ?_ ‹_›
    | with_reducible refine Kept.enteredEq (q := q) ?_ ‹_›
    | with_reducible refine Kept.lrEq (q := q) ?_ ‹_›
    | with_reducible refine Kept.mcauseEq (q := q) ?_ ‹_›
    | with_reducible refine Kept.mtvalEq (q := q) ?_ ‹_›
    | split
    | dsimp only; split

end Sys2Proof.Machine
end

