-- ==== Sys2Proof/Laws/KeptReset.lean ====
section
/-!
SUPPORT. What every operation of Machine/Reset.lean keeps (Laws/Kept.lean).
-/
namespace Sys2Proof.Machine

set_option linter.unusedTactic false
set_option linter.unreachableTactic false

theorem State.requestReset_kept {q : List Instr} (s : State) (cause : Nat) (h : Kept q s) :
    Kept q (State.requestReset s cause) := by
  unfold State.requestReset
  repeat' first
    | with_reducible assumption
    | intro _
    | with_reducible apply State.startReset_kept
    | with_reducible apply Kept.whenIf
    | split
    | (with_reducible apply Kept.free); split

theorem execPowerOn_kept {q : List Instr} (s : State) (h : Kept q s) :
    KeptOut q (execPowerOn s) := by
  unfold execPowerOn
  repeat' first
    | with_reducible assumption
    | with_reducible apply KeptOut.next
    | intro _
    | with_reducible apply State.requestReset_kept
    | split
    | dsimp only; split

theorem execRstnLow_kept {q : List Instr} (s : State) (h : Kept q s) :
    KeptOut q (execRstnLow s) := by
  unfold execRstnLow
  repeat' first
    | with_reducible assumption
    | with_reducible apply KeptOut.next
    | intro _
    | with_reducible apply State.requestReset_kept
    | with_reducible apply Kept.whenIf
    | split
    | dsimp only; split

theorem execSoftwareResetRequest_kept {q : List Instr} (s : State) (h : Kept q s) :
    KeptOut q (execSoftwareResetRequest s) := by
  unfold execSoftwareResetRequest
  repeat' first
    | with_reducible assumption
    | with_reducible apply KeptOut.next
    | intro _
    | with_reducible apply State.requestReset_kept
    | split
    | dsimp only; split

theorem execPllRetryReset_kept {q : List Instr} (s : State) (h : Kept q s) :
    KeptOut q (execPllRetryReset s) := by
  unfold execPllRetryReset
  repeat' first
    | with_reducible assumption
    | with_reducible apply KeptOut.next
    | intro _
    | with_reducible apply State.requestReset_kept
    | with_reducible apply Kept.whenIf
    | split
    | dsimp only; split

theorem State.pllsDone_kept {q : List Instr} (s : State) (mask : Nat) (h : Kept q s) :
    Kept q (State.pllsDone s mask) := by
  unfold State.pllsDone
  repeat' first
    | with_reducible assumption
    | with_reducible exact fun h => h
    | exact fun _ => rfl
    | intro _
    | with_reducible apply State.setFlag_kept
    | with_reducible apply Kept.each
    | fail_if_no_progress with_reducible apply Kept.free
    | fail_if_no_progress (with_reducible refine Kept.updRegs ?_ (fun hk => ?_)) <;> try with_reducible exact hk.regs
    | fail_if_no_progress (with_reducible refine Kept.updSd ?_ (fun hk => ?_)) <;> try with_reducible exact hk.sd
    | fail_if_no_progress (with_reducible refine Kept.updSatchel ?_ (fun hk => ?_)) <;> try with_reducible exact hk.satchel
    | with_reducible rfl
    | split
    | (with_reducible apply Kept.free); split

theorem State.clearMemories_kept {q : List Instr} (s : State) (h : Kept q s) :
    Kept q (State.clearMemories s) := by
  unfold State.clearMemories
  refine Kept.whenIf ?_ ?_
  · exact ⟨h.pending, h.regs, h.satchel, h.ct, ⟨⟨h.tut.1.1, rfl⟩, h.tut.2⟩, ⟨rfl, h.eng.2⟩, h.sd, h.trip, h.pwm, h.sar, h.dup,
      h.dict, h.bur⟩
  · intro t g
    exact ⟨g.pending, g.regs, rfl, g.ct, g.tut, g.eng, g.sd, g.trip, g.pwm, g.sar, ⟨g.dup.1, rfl⟩, g.dict, g.bur⟩

theorem State.loadTimebase_kept {q : List Instr} (s : State) (h : Kept q s) :
    Kept q (State.loadTimebase s) := by
  unfold State.loadTimebase
  repeat' first
    | with_reducible assumption
    | with_reducible exact fun h => h
    | exact fun _ => rfl
    | intro _
    | with_reducible apply Kept.ite
    | fail_if_no_progress with_reducible apply Kept.free
    | fail_if_no_progress (with_reducible refine Kept.updRegs ?_ (fun hk => ?_)) <;> try with_reducible exact hk.regs
    | fail_if_no_progress (with_reducible refine Kept.updSd ?_ (fun hk => ?_)) <;> try with_reducible exact hk.sd
    | fail_if_no_progress (with_reducible refine Kept.updSatchel ?_ (fun hk => ?_)) <;> try with_reducible exact hk.satchel
    | with_reducible rfl
    | split
    | (with_reducible apply Kept.free); split

theorem State.toPhase_kept {q : List Instr} (s : State) (p : ResetPhase) (h : Kept q s) :
    Kept q (State.toPhase s p) := by
  unfold State.toPhase
  repeat' first
    | with_reducible assumption
    | with_reducible exact fun h => h
    | exact fun _ => rfl
    | intro _
    | fail_if_no_progress with_reducible apply Kept.free
    | fail_if_no_progress (with_reducible refine Kept.updRegs ?_ (fun hk => ?_)) <;> try with_reducible exact hk.regs
    | fail_if_no_progress (with_reducible refine Kept.updSd ?_ (fun hk => ?_)) <;> try with_reducible exact hk.sd
    | fail_if_no_progress (with_reducible refine Kept.updSatchel ?_ (fun hk => ?_)) <;> try with_reducible exact hk.satchel
    | with_reducible rfl
    | split
    | (with_reducible apply Kept.free); split

theorem State.loadFuses_kept {q : List Instr} (s : State) (h : Kept q s) :
    Kept q (State.loadFuses s) := by
  unfold State.loadFuses
  repeat' first
    | with_reducible assumption
    | intro _
    | with_reducible apply State.setFld_kept
    | with_reducible apply State.setFlag_kept
    | with_reducible apply Kept.each
    | with_reducible apply Kept.ite
    | split
    | (with_reducible apply Kept.free); split

theorem State.testBell_kept {q : List Instr} (s : State) (h : Kept q s) :
    Kept q (State.testBell s) := by
  unfold State.testBell
  repeat' first
    | with_reducible assumption
    | with_reducible exact fun h => h
    | exact fun _ => rfl
    | intro _
    | fail_if_no_progress with_reducible apply Kept.free
    | fail_if_no_progress (with_reducible refine Kept.updRegs ?_ (fun hk => ?_)) <;> try with_reducible exact hk.regs
    | fail_if_no_progress (with_reducible refine Kept.updSd ?_ (fun hk => ?_)) <;> try with_reducible exact hk.sd
    | fail_if_no_progress (with_reducible refine Kept.updSatchel ?_ (fun hk => ?_)) <;> try with_reducible exact hk.satchel
    | with_reducible rfl
    | split
    | (with_reducible apply Kept.free); split

theorem execResetPhaseAdvance_kept {q : List Instr} (mask : Nat) (bootsel : Nat) (s : State) (h : Kept q s) :
    KeptOut q (execResetPhaseAdvance mask bootsel s) := by
  unfold execResetPhaseAdvance
  repeat' first
    | with_reducible assumption
    | with_reducible apply KeptOut.next
    | with_reducible apply KeptOut.ite
    | with_reducible exact fun h => h
    | exact fun _ => rfl
    | intro _
    | with_reducible apply State.toPhase_kept
    | with_reducible apply State.setFld_kept
    | with_reducible apply State.loadFuses_kept
    | with_reducible apply State.pllsDone_kept
    | with_reducible apply State.testBell_kept
    | with_reducible apply State.clearMemories_kept
    | with_reducible apply State.loadTimebase_kept
    | with_reducible apply Kept.ite
    | fail_if_no_progress with_reducible apply Kept.free
    | fail_if_no_progress (with_reducible refine Kept.updRegs ?_ (fun hk => ?_)) <;> try with_reducible exact hk.regs
    | fail_if_no_progress (with_reducible refine Kept.updSd ?_ (fun hk => ?_)) <;> try with_reducible exact hk.sd
    | fail_if_no_progress (with_reducible refine Kept.updSatchel ?_ (fun hk => ?_)) <;> try with_reducible exact hk.satchel
    | with_reducible rfl
    | split
    | dsimp only; split

theorem State.dieReset_kept {q : List Instr} (s : State) (h : Kept q s) :
    Kept q (State.dieReset s) := by
  unfold State.dieReset
  exact ⟨h.pending, RegsOk.filter h.regs (fun n => (keptFields.map Fld.ctorIdx).contains n), h.satchel, h.ct,
    ⟨h.tut.1, rfl, rfl, rfl, rfl, rfl, rfl⟩,
    ⟨h.eng.1, rfl, enginesOk_reset.2, rfl⟩, List.length_replicate,
    (List.length_map _).trans h.trip, ⟨rfl, rfl⟩, ⟨rfl, rfl, rfl⟩, ⟨rfl, h.dup.2⟩, rfl, ⟨List.length_replicate, h.bur.2⟩⟩

theorem State.restoreRepair_kept {q : List Instr} (s : State) (e : Nat) (h : Kept q s) :
    Kept q (State.restoreRepair s e) := by
  unfold State.restoreRepair
  repeat' first
    | with_reducible assumption
    | intro _
    | with_reducible apply State.applyRepair_kept
    | with_reducible apply State.putRemain_kept
    | with_reducible apply Kept.ite
    | split
    | (with_reducible apply Kept.free); split

theorem State.restoreRepairs_kept {q : List Instr} (s : State) (h : Kept q s) :
    Kept q (State.restoreRepairs s) := by
  unfold State.restoreRepairs
  repeat' first
    | with_reducible assumption
    | intro _
    | with_reducible apply State.putRemain_kept
    | with_reducible apply State.setFld_kept
    | with_reducible apply State.restoreRepair_kept
    | with_reducible apply Kept.each
    | split
    | (with_reducible apply Kept.free); split

theorem State.flushLate_kept {q : List Instr} (s : State) (h : Kept q s) :
    Kept q (State.flushLate s) := by
  unfold State.flushLate
  repeat' first
    | with_reducible assumption
    | with_reducible exact fun h => h
    | exact fun _ => rfl
    | intro _
    | with_reducible apply State.emit_kept
    | with_reducible apply Kept.each
    | fail_if_no_progress with_reducible apply Kept.free
    | fail_if_no_progress (with_reducible refine Kept.updRegs ?_ (fun hk => ?_)) <;> try with_reducible exact hk.regs
    | fail_if_no_progress (with_reducible refine Kept.updSd ?_ (fun hk => ?_)) <;> try with_reducible exact hk.sd
    | fail_if_no_progress (with_reducible refine Kept.updBur ?_ (fun hk => BurOk.upd hk.bur ?_ ?_)) <;> try first | with_reducible rfl | with_reducible exact fun h => h
    | fail_if_no_progress (with_reducible refine Kept.updSatchel ?_ (fun hk => ?_)) <;> try with_reducible exact hk.satchel
    | with_reducible rfl
    | with_reducible refine Kept.pointsEq (q := q) ?_ ‹_›
    | with_reducible refine Kept.accsEq (q := q) ?_ ‹_›
    | split
    | (with_reducible apply Kept.free); split

theorem State.afterReset_kept {q : List Instr} (s : State) (h : Kept q s) :
    Kept q (State.afterReset s) := by
  unfold State.afterReset
  repeat' first
    | with_reducible assumption
    | with_reducible exact fun h => h
    | exact fun _ => rfl
    | intro _
    | with_reducible apply State.restoreRepairs_kept
    | with_reducible apply State.setFlag_kept
    | with_reducible apply State.retireRoot_kept
    | with_reducible apply State.modPf_kept
    | with_reducible apply State.flushLate_kept
    | with_reducible apply Kept.whenIf
    | with_reducible apply Kept.each
    | fail_if_no_progress with_reducible apply Kept.free
    | fail_if_no_progress (with_reducible refine Kept.updRegs ?_ (fun hk => ?_)) <;> try with_reducible exact hk.regs
    | fail_if_no_progress (with_reducible refine Kept.updSd ?_ (fun hk => ?_)) <;> try with_reducible exact hk.sd
    | fail_if_no_progress (with_reducible refine Kept.updSatchel ?_ (fun hk => ?_)) <;> try with_reducible exact hk.satchel
    | with_reducible rfl
    | split
    | (with_reducible apply Kept.free); split

theorem State.finishReset_kept {q : List Instr} (s : State) (h : Kept q s) :
    Kept q (State.finishReset s) := by
  unfold State.finishReset
  repeat' first
    | with_reducible assumption
    | intro _
    | with_reducible apply State.afterReset_kept
    | with_reducible apply State.dieReset_kept
    | split
    | (with_reducible apply Kept.free); split

theorem execResetEnd_kept {q : List Instr} (s : State) (h : Kept q s) :
    KeptOut q (execResetEnd s) := by
  unfold execResetEnd
  repeat' first
    | with_reducible assumption
    | with_reducible apply KeptOut.next
    | with_reducible apply KeptOut.ite
    | intro _
    | with_reducible apply State.finishReset_kept
    | with_reducible apply Kept.ite
    | split
    | dsimp only; split

end Sys2Proof.Machine
end

