-- ==== Sys2Proof/Laws/KeptDuties.lean ====
section
/-!
SUPPORT. What every operation of Machine/Duties.lean keeps (Laws/Kept.lean).
-/
namespace Sys2Proof.Machine

set_option linter.unusedTactic false
set_option linter.unreachableTactic false

theorem State.askReset_kept {q : List Instr} (s : State) (h : Kept q s) :
    Kept q (State.askReset s) := by
  unfold State.askReset
  repeat' first
    | with_reducible assumption
    | with_reducible exact fun h => h
    | exact fun _ => rfl
    | intro _
    | fail_if_no_progress with_reducible apply Kept.free
    | fail_if_no_progress (with_reducible refine Kept.updRegs ?_ (fun hk => ?_)) <;> try with_reducible exact hk.regs
    | fail_if_no_progress (with_reducible refine Kept.updSd ?_ (fun hk => ?_)) <;> try with_reducible exact hk.sd
    | fail_if_no_progress (with_reducible refine Kept.updSatchel ?_ (fun hk => ?_)) <;> try with_reducible exact hk.satchel
    | with_reducible rfl
    | split
    | (with_reducible apply Kept.free); split

theorem State.clockFailure_kept {q : List Instr} (s : State) (h : Kept q s) :
    Kept q (State.clockFailure s) := by
  unfold State.clockFailure
  repeat' first
    | with_reducible assumption
    | with_reducible exact fun h => h
    | exact fun _ => rfl
    | intro _
    | with_reducible apply State.askReset_kept
    | with_reducible apply State.settlePads_kept
    | fail_if_no_progress with_reducible apply Kept.free
    | fail_if_no_progress (with_reducible refine Kept.updRegs ?_ (fun hk => ?_)) <;> try with_reducible exact hk.regs
    | fail_if_no_progress (with_reducible refine Kept.updSd ?_ (fun hk => ?_)) <;> try with_reducible exact hk.sd
    | fail_if_no_progress (with_reducible refine Kept.updSatchel ?_ (fun hk => ?_)) <;> try with_reducible exact hk.satchel
    | with_reducible rfl
    | split
    | (with_reducible apply Kept.free); split

theorem State.idle_kept {q : List Instr} (s : State) (h : Kept q s) :
    Kept q (State.idle s) := by
  unfold State.idle
  repeat' first
    | with_reducible assumption
    | with_reducible exact fun h => h
    | exact fun _ => rfl
    | intro _
    | with_reducible apply State.runFraction_kept
    | with_reducible apply State.leaseTick_kept
    | with_reducible apply State.requestReset_kept
    | with_reducible apply State.closeWindows_kept
    | with_reducible apply State.loadTick_kept
    | with_reducible apply State.refreshAge_kept
    | with_reducible apply State.advanceCounters_kept
    | with_reducible apply State.edgeTick_kept
    | with_reducible apply Kept.ite
    | fail_if_no_progress with_reducible apply Kept.free
    | fail_if_no_progress (with_reducible refine Kept.updRegs ?_ (fun hk => ?_)) <;> try with_reducible exact hk.regs
    | fail_if_no_progress (with_reducible refine Kept.updSd ?_ (fun hk => ?_)) <;> try with_reducible exact hk.sd
    | fail_if_no_progress (with_reducible refine Kept.updSatchel ?_ (fun hk => ?_)) <;> try with_reducible exact hk.satchel
    | with_reducible rfl
    | split
    | (with_reducible apply Kept.free); split

theorem State.edgeSwitch_kept {q : List Instr} (s : State) (h : Kept q s) :
    Kept q (State.edgeSwitch s) := by
  unfold State.edgeSwitch
  repeat' first
    | with_reducible assumption
    | intro _
    | with_reducible apply State.consumeSpare_kept
    | with_reducible apply State.clockEvent_kept
    | with_reducible apply State.setFld_kept
    | split
    | (with_reducible apply Kept.free); split

theorem execPllUnlock_kept {q : List Instr} (loop : Nat) (s : State) (h : Kept q s) :
    KeptOut q (execPllUnlock loop s) := by
  unfold execPllUnlock
  repeat' first
    | with_reducible assumption
    | with_reducible apply KeptOut.next
    | with_reducible apply KeptOut.ite
    | intro _
    | with_reducible apply State.setFld_kept
    | with_reducible apply State.edgeSwitch_kept
    | with_reducible apply State.clockFailure_kept
    | with_reducible apply State.abandonWing_kept
    | with_reducible apply State.askReset_kept
    | with_reducible apply Kept.whenIf
    | with_reducible apply Kept.ite
    | split
    | dsimp only; split

theorem execPllLock_kept {q : List Instr} (loop : Nat) (s : State) (h : Kept q s) :
    KeptOut q (execPllLock loop s) := by
  unfold execPllLock
  repeat' first
    | with_reducible assumption
    | with_reducible apply KeptOut.next
    | with_reducible apply KeptOut.ite
    | intro _
    | with_reducible apply State.seqFallback_kept
    | with_reducible apply State.setFld_kept
    | with_reducible apply State.wingLocked_kept
    | with_reducible apply Kept.ite
    | split
    | dsimp only; split

theorem execXinLost_kept {q : List Instr} (s : State) (h : Kept q s) :
    KeptOut q (execXinLost s) := by
  unfold execXinLost
  repeat' first
    | with_reducible assumption
    | with_reducible apply KeptOut.next
    | with_reducible exact fun h => h
    | exact fun _ => rfl
    | intro _
    | with_reducible apply State.setFld_kept
    | with_reducible apply State.clockFailure_kept
    | fail_if_no_progress with_reducible apply Kept.free
    | fail_if_no_progress (with_reducible refine Kept.updRegs ?_ (fun hk => ?_)) <;> try with_reducible exact hk.regs
    | fail_if_no_progress (with_reducible refine Kept.updSd ?_ (fun hk => ?_)) <;> try with_reducible exact hk.sd
    | fail_if_no_progress (with_reducible refine Kept.updSatchel ?_ (fun hk => ?_)) <;> try with_reducible exact hk.satchel
    | with_reducible rfl
    | split
    | dsimp only; split

theorem execRtcSecond_kept {q : List Instr} (s : State) (h : Kept q s) :
    KeptOut q (execRtcSecond s) := by
  unfold execRtcSecond
  repeat' first
    | with_reducible assumption
    | with_reducible apply KeptOut.next
    | with_reducible apply KeptOut.ite
    | with_reducible exact fun h => h
    | exact fun _ => rfl
    | with_reducible refine Kept.sramWf (q := q) ?_
    | intro _
    | with_reducible apply State.setFld_kept
    | with_reducible apply State.count_kept
    | with_reducible apply State.saveDue_kept
    | with_reducible apply State.theftSecond_kept
    | with_reducible apply Kept.whenIf
    | with_reducible apply Kept.each
    | with_reducible apply Kept.ite
    | fail_if_no_progress with_reducible apply Kept.free
    | fail_if_no_progress (with_reducible refine Kept.updRegs ?_ (fun hk => ?_)) <;> try with_reducible exact hk.regs
    | fail_if_no_progress (with_reducible refine Kept.updSd ?_ (fun hk => ?_)) <;> try with_reducible exact hk.sd
    | fail_if_no_progress (with_reducible refine Kept.updSatchel ?_ (fun hk => ?_)) <;> try with_reducible exact hk.satchel
    | fail_if_no_progress (with_reducible refine Kept.updCt ?_ (fun hk => CtOk.upd hk.ct ?_)) <;> try first | with_reducible rfl | with_reducible exact fun h => h
    | with_reducible rfl
    | split
    | dsimp only; split

theorem State.loadSet_kept {q : List Instr} (s : State) (l : List (Nat × Nat × List Nat)) (h : Kept q s) :
    Kept q (State.loadSet s l) := by
  unfold State.loadSet
  repeat' first
    | with_reducible assumption
    | intro _
    | with_reducible apply State.setFld_kept
    | with_reducible apply State.putEntry_kept
    | with_reducible apply Kept.each
    | with_reducible apply Kept.ite
    | split
    | (with_reducible apply Kept.free); split

theorem State.loadStored_kept {q : List Instr} (s : State) (h : Kept q s) :
    Kept q (State.loadStored s) := by
  unfold State.loadStored
  repeat' first
    | with_reducible assumption
    | with_reducible exact fun h => h
    | exact fun _ => rfl
    | intro _
    | with_reducible apply State.loadSet_kept
    | with_reducible apply Kept.each
    | with_reducible apply Kept.ite
    | fail_if_no_progress with_reducible apply Kept.free
    | fail_if_no_progress (with_reducible refine Kept.updRegs ?_ (fun hk => ?_)) <;> try with_reducible exact hk.regs
    | fail_if_no_progress (with_reducible refine Kept.updDict ?_ (fun hk => DictOk.upd hk.dict ?_)) <;> try first | with_reducible rfl | with_reducible exact fun h => h
    | fail_if_no_progress (with_reducible refine Kept.updSd ?_ (fun hk => ?_)) <;> try with_reducible exact hk.sd
    | fail_if_no_progress (with_reducible refine Kept.updSatchel ?_ (fun hk => ?_)) <;> try with_reducible exact hk.satchel
    | with_reducible rfl
    | with_reducible refine Kept.groupsEq (q := q) ?_ ‹_›
    | split
    | (with_reducible apply Kept.free); split

theorem execLibraryInit_kept {q : List Instr} (supported : Bool) (nand : Bool) (pageL2 : Nat) (eraseL2 : Nat) (blocks :
    Nat) (dir : List (Nat × Nat × Nat × Nat)) (recs : List (Nat × Nat × Nat × Nat × List Nat)) (finals : List (List Nat))
    (s : State) (h : Kept q s) :
    KeptOut q (execLibraryInit supported nand pageL2 eraseL2 blocks dir recs finals s) := by
  unfold execLibraryInit
  repeat' first
    | with_reducible assumption
    | with_reducible apply KeptOut.next
    | intro _
    | with_reducible apply State.libInit_kept
    | with_reducible apply State.copyRepairs_kept
    | with_reducible apply State.loadStored_kept
    | with_reducible apply Kept.whenIf
    | split
    | dsimp only; split

theorem State.stallEngine_kept {q : List Instr} (s : State) (site : Nat) (h : Kept q s) :
    Kept q (State.stallEngine s site) := by
  unfold State.stallEngine
  repeat' first
    | with_reducible assumption
    | intro _
    | with_reducible apply State.engineFault_kept
    | with_reducible apply State.setCopy_kept
    | with_reducible apply State.consumeSpare_kept
    | with_reducible apply State.recordRepair_kept
    | with_reducible apply State.setFld_kept
    | with_reducible apply State.reserveGone_kept
    | with_reducible apply Kept.whenIf
    | with_reducible apply Kept.ite
    | split
    | (with_reducible apply Kept.free); split

theorem State.stallCore_kept {q : List Instr} (s : State) (c : Nat) (h : Kept q s) :
    Kept q (State.stallCore s c) := by
  unfold State.stallCore
  repeat' first
    | with_reducible assumption
    | with_reducible exact fun h => h
    | exact fun _ => rfl
    | with_reducible refine Kept.itcmWf (q := q) ?_
    | with_reducible refine Kept.dtcmWf (q := q) ?_
    | intro _
    | with_reducible apply State.raiseCore_kept
    | fail_if_no_progress with_reducible apply Kept.free
    | fail_if_no_progress (with_reducible refine Kept.updRegs ?_ (fun hk => ?_)) <;> try with_reducible exact hk.regs
    | fail_if_no_progress (with_reducible refine Kept.updTut ?_ (fun hk => TutOk.upd hk.tut ?_ ?_ ?_ ?_ ?_ ?_ ?_ ?_)) <;> try first | with_reducible rfl | with_reducible exact fun h => h
    | fail_if_no_progress (with_reducible refine Kept.updSd ?_ (fun hk => ?_)) <;> try with_reducible exact hk.sd
    | fail_if_no_progress (with_reducible refine Kept.updSatchel ?_ (fun hk => ?_)) <;> try with_reducible exact hk.satchel
    | with_reducible rfl
    | with_reducible refine Kept.mtcmpEq (q := q) ?_ ‹_›
    | with_reducible refine Kept.mtcmpHoldEq (q := q) ?_ ‹_›
    | with_reducible refine Kept.enteredEq (q := q) ?_ ‹_›
    | with_reducible refine Kept.lrEq (q := q) ?_ ‹_›
    | with_reducible refine Kept.mcauseEq (q := q) ?_ ‹_›
    | with_reducible refine Kept.mtvalEq (q := q) ?_ ‹_›
    | split
    | (with_reducible apply Kept.free); split

theorem State.stallVoter_kept {q : List Instr} (s : State) (v : Nat) (h : Kept q s) :
    Kept q (State.stallVoter s v) := by
  unfold State.stallVoter
  repeat' first
    | with_reducible assumption
    | intro _
    | with_reducible apply State.passLost_kept
    | with_reducible apply State.retireVoter_kept
    | with_reducible apply Kept.each
    | with_reducible apply Kept.ite
    | split
    | (with_reducible apply Kept.free); split

theorem State.stallIsland_kept {q : List Instr} (s : State) (i : Nat) (h : Kept q s) :
    Kept q (State.stallIsland s i) := by
  unfold State.stallIsland
  repeat' first
    | with_reducible assumption
    | with_reducible exact fun h => h
    | exact fun _ => rfl
    | intro _
    | with_reducible apply State.stallEngine_kept
    | with_reducible apply State.stallCore_kept
    | with_reducible apply State.stallSlice_kept
    | with_reducible apply State.portFault_kept
    | with_reducible apply State.advanceEpoch_kept
    | with_reducible apply State.retireBank_kept
    | with_reducible apply State.stallVoter_kept
    | with_reducible apply State.retireRoot_kept
    | with_reducible apply Kept.ite
    | fail_if_no_progress with_reducible apply Kept.free
    | fail_if_no_progress (with_reducible refine Kept.updRegs ?_ (fun hk => ?_)) <;> try with_reducible exact hk.regs
    | fail_if_no_progress (with_reducible refine Kept.updSd ?_ (fun hk => ?_)) <;> try with_reducible exact hk.sd
    | fail_if_no_progress (with_reducible refine Kept.updSatchel ?_ (fun hk => ?_)) <;> try with_reducible exact hk.satchel
    | with_reducible rfl
    | split
    | (with_reducible apply Kept.free); split

theorem execHandshakeStall_kept {q : List Instr} (silent : Nat) (other : Nat) (receiver : Bool) (cmdPort : Option Nat) (s :
    State) (h : Kept q s) :
    KeptOut q (execHandshakeStall silent other receiver cmdPort s) := by
  unfold execHandshakeStall
  repeat' first
    | with_reducible assumption
    | with_reducible apply KeptOut.next
    | with_reducible apply KeptOut.ite
    | intro _
    | with_reducible apply State.event_kept
    | with_reducible apply State.count_kept
    | with_reducible apply State.linkFault_kept
    | with_reducible apply State.stallIsland_kept
    | with_reducible apply State.portFault_kept
    | with_reducible apply Kept.whenIf
    | with_reducible apply Kept.ite
    | split
    | dsimp only; split

end Sys2Proof.Machine
end

