-- ==== Sys2Proof/Laws/SameLibrary.lean ====
section
/-!
SUPPORT. Which parts of State the operations of Machine/Library.lean can change (Laws/Same.lean), as bits by the part's number, and that
they leave every other as it was.
-/
namespace Sys2Proof.Machine

set_option linter.unusedTactic false
set_option linter.unreachableTactic false

def State.libEvent_parts : Nat := 0xa02
theorem State.libEvent_same {P : Part} {s0 : State} (s : State) (code : Nat) (area : Nat) (block : Nat) (seq : Nat) (hw :
    State.libEvent_parts.testBit P.ctorIdx = false) (h : Same P s0 s) :
    Same P s0 (State.libEvent s code area block seq) := by
  unfold State.libEvent
  repeat' first
    | with_reducible assumption
    | intro _
    | with_reducible refine State.emit_same _ _ _ (Wr.sub (by decide) hw) ?_
    | split
    | (with_reducible apply Same.zeta); split

def State.burLate_parts : Nat := 0x1000a02
theorem State.burLate_same {P : Part} {s0 : State} (s : State) (payload : Nat) (hw : State.burLate_parts.testBit P.ctorIdx
    = false) (h : Same P s0 s) :
    Same P s0 (State.burLate s payload) := by
  unfold State.burLate
  repeat' first
    | with_reducible assumption
    | intro _
    | with_reducible refine State.emit_same _ _ _ (Wr.sub (by decide) hw) ?_
    | with_reducible apply Same.ite
    | fail_if_no_progress with_reducible refine Same.updBur (W := State.burLate_parts) (by decide) hw ?_
    | split
    | (with_reducible apply Same.zeta); split

def State.mgmtEvent_parts : Nat := 0xa02
theorem State.mgmtEvent_same {P : Part} {s0 : State} (s : State) (code : Nat) (g : Nat) (reason : Nat) (entry : Nat) (hw :
    State.mgmtEvent_parts.testBit P.ctorIdx = false) (h : Same P s0 s) :
    Same P s0 (State.mgmtEvent s code g reason entry) := by
  unfold State.mgmtEvent
  repeat' first
    | with_reducible assumption
    | intro _
    | with_reducible refine State.emit_same _ _ _ (Wr.sub (by decide) hw) ?_
    | split
    | (with_reducible apply Same.zeta); split

def State.libShow_parts : Nat := 0xa02
theorem State.libShow_same {P : Part} {s0 : State} (s : State) (was : Nat) (hw : State.libShow_parts.testBit P.ctorIdx =
    false) (h : Same P s0 s) :
    Same P s0 (State.libShow s was) := by
  unfold State.libShow
  repeat' first
    | with_reducible assumption
    | intro _
    | with_reducible refine State.setFld_same _ _ _ _ (Wr.sub (by decide) hw) ?_
    | with_reducible refine State.libEvent_same _ _ _ _ _ (Wr.sub (by decide) hw) ?_
    | with_reducible apply Same.whenIf
    | with_reducible apply Same.foldl
    | split
    | (with_reducible apply Same.zeta); split

def State.written_parts : Nat := 0x20000
theorem State.written_same {P : Part} {s0 : State} (s : State) (b : Nat) (hw : State.written_parts.testBit P.ctorIdx =
    false) (h : Same P s0 s) :
    Same P s0 (State.written s b) := by
  unfold State.written
  repeat' first
    | with_reducible assumption
    | intro _
    | fail_if_no_progress with_reducible refine Same.updLib (W := State.written_parts) (by decide) hw ?_
    | split
    | (with_reducible apply Same.zeta); split

def State.remapBlock_parts : Nat := 0x20000
theorem State.remapBlock_same {P : Part} {s0 : State} (s : State) (old : Nat) (new : Nat) (hw :
    State.remapBlock_parts.testBit P.ctorIdx = false) (h : Same P s0 s) :
    Same P s0 (State.remapBlock s old new) := by
  unfold State.remapBlock
  repeat' first
    | with_reducible assumption
    | intro _
    | with_reducible refine State.written_same _ _ (Wr.sub (by decide) hw) ?_
    | with_reducible apply Same.ite
    | fail_if_no_progress with_reducible refine Same.updLib (W := State.remapBlock_parts) (by decide) hw ?_
    | split
    | (with_reducible apply Same.zeta); split

def State.rotate_parts : Nat := 0x20000
theorem State.rotate_same {P : Part} {s0 : State} (s : State) (a : Nat) (hw : State.rotate_parts.testBit P.ctorIdx = false)
    (h : Same P s0 s) :
    Same P s0 (State.rotate s a) := by
  unfold State.rotate
  repeat' first
    | with_reducible assumption
    | intro _
    | fail_if_no_progress with_reducible refine Same.updLib (W := State.rotate_parts) (by decide) hw ?_
    | split
    | (with_reducible apply Same.zeta); split

def State.placeRecord_parts : Nat := 0x20000
theorem State.placeRecord_same {P : Part} {s0 : State} (s : State) (r : LibReq) (hw : State.placeRecord_parts.testBit
    P.ctorIdx = false) (h : Same P s0 s) :
    ∀ t, (State.placeRecord s r) = some t → Same P s0 t.2 := by
  unfold State.placeRecord
  intro t e
  dsimp only at e
  have up : ∀ {u : State} {l}, Same P s0 u → Same P s0 { u with lib := l } := fun hu =>
    Same.upd (W := State.placeRecord_parts) hw hu (.inl rfl) (.inl rfl) (.inl rfl) (.inl rfl) (.inl rfl) (.inl rfl) (.inl rfl)
      (.inl rfl) (.inl rfl) (.inl rfl) (.inl rfl) (.inl rfl) (.inl rfl) (.inl rfl) (.inl rfl) (.inl rfl) (.inr (by decide))
      (.inl rfl) (.inl rfl) (.inl rfl) (.inl rfl) (.inl rfl) (.inl rfl) (.inl rfl) (.inl rfl)
  repeat' split at e
  all_goals first
    | (cases e; done)
    | (cases e; exact State.written_same _ _ (Wr.sub (by decide) hw) h)
    | (cases e; exact State.written_same _ _ (Wr.sub (by decide) hw) (up h))
    | (cases e; exact State.written_same _ _ (Wr.sub (by decide) hw) (up (State.rotate_same _ _ (Wr.sub (by decide) hw) h)))

def State.refuseBurst_parts : Nat := 0x1031a02
theorem State.refuseBurst_same {P : Part} {s0 : State} (s : State) (r : LibReq) (hw : State.refuseBurst_parts.testBit
    P.ctorIdx = false) (h : Same P s0 s) :
    Same P s0 (State.refuseBurst s r) := by
  unfold State.refuseBurst
  repeat' first
    | with_reducible assumption
    | intro _
    | with_reducible refine State.setFld_same _ _ _ _ (Wr.sub (by decide) hw) ?_
    | with_reducible refine State.libEvent_same _ _ _ _ _ (Wr.sub (by decide) hw) ?_
    | with_reducible refine State.count_same _ _ _ (Wr.sub (by decide) hw) ?_
    | with_reducible refine State.finishCmd_same _ _ _ _ _ (Wr.sub (by decide) hw) ?_
    | with_reducible refine State.mgmtEvent_same _ _ _ _ _ (Wr.sub (by decide) hw) ?_
    | with_reducible refine State.burLate_same _ _ (Wr.sub (by decide) hw) ?_
    | with_reducible apply Same.whenIf
    | with_reducible apply Same.ite
    | fail_if_no_progress with_reducible refine Same.updLib (W := State.refuseBurst_parts) (by decide) hw ?_
    | split
    | (with_reducible apply Same.zeta); split

def State.startRecord_parts : Nat := 0x1033a02
theorem State.startRecord_same {P : Part} {s0 : State} (s : State) (r : LibReq) (byCaretaker : Bool) (hw :
    State.startRecord_parts.testBit P.ctorIdx = false) (h : Same P s0 s) :
    Same P s0 (State.startRecord s r byCaretaker) := by
  unfold State.startRecord
  repeat' first
    | with_reducible assumption
    | intro _
    | with_reducible refine State.placeRecord_same _ _ (Wr.sub (by decide) hw) ?_ _ (by assumption)
    | with_reducible refine State.refuseBurst_same _ _ (Wr.sub (by decide) hw) ?_
    | with_reducible refine State.admitBurst_same _ _ _ (Wr.sub (by decide) hw) ?_
    | with_reducible refine State.setFld_same _ _ _ _ (Wr.sub (by decide) hw) ?_
    | with_reducible refine State.leaveOctal_same _ (Wr.sub (by decide) hw) ?_
    | with_reducible apply Same.whenIf
    | with_reducible apply Same.ite
    | fail_if_no_progress with_reducible refine Same.updLib (W := State.startRecord_parts) (by decide) hw ?_
    | split
    | (with_reducible apply Same.zeta); split

def State.startWork_parts : Nat := 0x1033a02
theorem State.startWork_same {P : Part} {s0 : State} (s : State) (r : LibReq) (b : Nat) (hw : State.startWork_parts.testBit
    P.ctorIdx = false) (h : Same P s0 s) :
    Same P s0 (State.startWork s r b) := by
  unfold State.startWork
  repeat' first
    | with_reducible assumption
    | intro _
    | with_reducible refine State.admitBurst_same _ _ _ (Wr.sub (by decide) hw) ?_
    | with_reducible refine State.refuseBurst_same _ _ (Wr.sub (by decide) hw) ?_
    | with_reducible apply Same.ite
    | fail_if_no_progress with_reducible refine Same.updLib (W := State.startWork_parts) (by decide) hw ?_
    | split
    | (with_reducible apply Same.zeta); split

def State.startBurst_parts : Nat := 0x1033a02
theorem State.startBurst_same {P : Part} {s0 : State} (s : State) (r : LibReq) (byCaretaker : Bool) (hw :
    State.startBurst_parts.testBit P.ctorIdx = false) (h : Same P s0 s) :
    Same P s0 (State.startBurst s r byCaretaker) := by
  unfold State.startBurst
  repeat' first
    | with_reducible assumption
    | intro _
    | with_reducible refine State.startWork_same _ _ _ (Wr.sub (by decide) hw) ?_
    | with_reducible refine State.startRecord_same _ _ _ (Wr.sub (by decide) hw) ?_
    | with_reducible refine State.refuseBurst_same _ _ (Wr.sub (by decide) hw) ?_
    | with_reducible apply Same.ite
    | fail_if_no_progress with_reducible refine Same.updLib (W := State.startBurst_parts) (by decide) hw ?_
    | split
    | (with_reducible apply Same.zeta); split

def State.serveN_parts : Nat := 0x1033a02
theorem State.serveN_same {P : Part} {s0 : State} (x0 : Nat) (x1 : State) (hw : State.serveN_parts.testBit P.ctorIdx =
    false) (h : Same P s0 x1) :
    Same P s0 (State.serveN x0 x1) := by
  have up : ∀ {u : State} {l}, Same P s0 u → Same P s0 { u with lib := l } := fun hu =>
    Same.upd (W := State.serveN_parts) hw hu (.inl rfl) (.inl rfl) (.inl rfl) (.inl rfl) (.inl rfl) (.inl rfl) (.inl rfl)
      (.inl rfl) (.inl rfl) (.inl rfl) (.inl rfl) (.inl rfl) (.inl rfl) (.inl rfl) (.inl rfl) (.inl rfl) (.inr (by decide))
      (.inl rfl) (.inl rfl) (.inl rfl) (.inl rfl) (.inl rfl) (.inl rfl) (.inl rfl) (.inl rfl)
  induction x0 generalizing x1 with
  | zero => exact h
  | succ n ih =>
    unfold State.serveN
    dsimp only
    split
    · exact h
    · split
      · exact h
      · exact ih _ (State.startBurst_same _ _ _ (Wr.sub (by decide) hw) (up h))

def State.serve_parts : Nat := 0x1033a02
theorem State.serve_same {P : Part} {s0 : State} (s : State) (hw : State.serve_parts.testBit P.ctorIdx = false) (h : Same P
    s0 s) :
    Same P s0 (State.serve s) := by
  unfold State.serve
  repeat' first
    | with_reducible assumption
    | intro _
    | with_reducible refine State.serveN_same _ _ (Wr.sub (by decide) hw) ?_
    | split
    | (with_reducible apply Same.zeta); split

def State.libSubmit_parts : Nat := 0x1033a02
theorem State.libSubmit_same {P : Part} {s0 : State} (s : State) (r : LibReq) (hw : State.libSubmit_parts.testBit P.ctorIdx
    = false) (h : Same P s0 s) :
    Same P s0 (State.libSubmit s r) := by
  unfold State.libSubmit
  repeat' first
    | with_reducible assumption
    | intro _
    | with_reducible refine State.serve_same _ (Wr.sub (by decide) hw) ?_
    | fail_if_no_progress with_reducible refine Same.updLib (W := State.libSubmit_parts) (by decide) hw ?_
    | split
    | (with_reducible apply Same.zeta); split

def State.askErase_parts : Nat := 0x1033a02
theorem State.askErase_same {P : Part} {s0 : State} (s : State) (a : Nat) (b : Nat) (hw : State.askErase_parts.testBit
    P.ctorIdx = false) (h : Same P s0 s) :
    Same P s0 (State.askErase s a b) := by
  unfold State.askErase
  repeat' first
    | with_reducible assumption
    | intro _
    | with_reducible refine State.libSubmit_same _ _ (Wr.sub (by decide) hw) ?_
    | with_reducible apply Same.ite
    | split
    | (with_reducible apply Same.zeta); split

def State.askCopy_parts : Nat := 0x1033a02
theorem State.askCopy_same {P : Part} {s0 : State} (s : State) (a : Nat) (old : Nat) (new : Nat) (refresh : Bool) (bad :
    Bool) (hw : State.askCopy_parts.testBit P.ctorIdx = false) (h : Same P s0 s) :
    Same P s0 (State.askCopy s a old new refresh bad) := by
  unfold State.askCopy
  repeat' first
    | with_reducible assumption
    | intro _
    | with_reducible refine State.libSubmit_same _ _ (Wr.sub (by decide) hw) ?_
    | split
    | (with_reducible apply Same.zeta); split

def State.libPrepare_parts : Nat := 0x1033a02
theorem State.libPrepare_same {P : Part} {s0 : State} (s : State) (hw : State.libPrepare_parts.testBit P.ctorIdx = false)
    (h : Same P s0 s) :
    Same P s0 (State.libPrepare s) := by
  unfold State.libPrepare
  repeat' first
    | with_reducible assumption
    | intro _
    | with_reducible refine State.askErase_same _ _ _ (Wr.sub (by decide) hw) ?_
    | with_reducible refine State.libShow_same _ _ (Wr.sub (by decide) hw) ?_
    | with_reducible apply Same.whenIf
    | with_reducible apply Same.each
    | split
    | (with_reducible apply Same.zeta); split

def State.libRecord_parts : Nat := 0x1033a02
theorem State.libRecord_same {P : Part} {s0 : State} (s : State) (client : Nat) (area : Nat) (type : Nat) (payload : List
    Nat) (hw : State.libRecord_parts.testBit P.ctorIdx = false) (h : Same P s0 s) :
    Same P s0 (State.libRecord s client area type payload) := by
  unfold State.libRecord
  repeat' first
    | with_reducible assumption
    | intro _
    | with_reducible refine State.libSubmit_same _ _ (Wr.sub (by decide) hw) ?_
    | split
    | (with_reducible apply Same.zeta); split

def State.dirUpdate_parts : Nat := 0x1033a02
theorem State.dirUpdate_same {P : Part} {s0 : State} (s : State) (remap : Option (Nat × Nat)) (refresh : Bool) (hw :
    State.dirUpdate_parts.testBit P.ctorIdx = false) (h : Same P s0 s) :
    Same P s0 (State.dirUpdate s remap refresh) := by
  unfold State.dirUpdate
  repeat' first
    | with_reducible assumption
    | intro _
    | with_reducible refine State.libSubmit_same _ _ (Wr.sub (by decide) hw) ?_
    | split
    | (with_reducible apply Same.zeta); split

def State.modBurstRecord_parts : Nat := 0x20000
theorem State.modBurstRecord_same {P : Part} {s0 : State} (s : State) (b : LibBurst) (f : LibRecord → LibRecord) (hw :
    State.modBurstRecord_parts.testBit P.ctorIdx = false) (h : Same P s0 s) :
    Same P s0 (State.modBurstRecord s b f) := by
  unfold State.modBurstRecord
  repeat' first
    | with_reducible assumption
    | intro _
    | with_reducible apply Same.ite
    | fail_if_no_progress with_reducible refine Same.updLib (W := State.modBurstRecord_parts) (by decide) hw ?_
    | split
    | (with_reducible apply Same.zeta); split

def State.markBad_parts : Nat := 0x20a02
theorem State.markBad_same {P : Part} {s0 : State} (s : State) (a : Nat) (b : Nat) (seq : Nat) (hw :
    State.markBad_parts.testBit P.ctorIdx = false) (h : Same P s0 s) :
    Same P s0 (State.markBad s a b seq) := by
  unfold State.markBad
  repeat' first
    | with_reducible assumption
    | intro _
    | with_reducible refine State.libShow_same _ _ (Wr.sub (by decide) hw) ?_
    | with_reducible refine State.libEvent_same _ _ _ _ _ (Wr.sub (by decide) hw) ?_
    | fail_if_no_progress with_reducible refine Same.updLib (W := State.markBad_parts) (by decide) hw ?_
    | split
    | (with_reducible apply Same.zeta); split

def State.badBlock_parts : Nat := 0x1033a02
theorem State.badBlock_same {P : Part} {s0 : State} (s : State) (a : Nat) (b : Nat) (seq : Nat) (hw :
    State.badBlock_parts.testBit P.ctorIdx = false) (h : Same P s0 s) :
    Same P s0 (State.badBlock s a b seq) := by
  unfold State.badBlock
  repeat' first
    | with_reducible assumption
    | intro _
    | with_reducible refine State.count_same _ _ _ (Wr.sub (by decide) hw) ?_
    | with_reducible refine State.markBad_same _ _ _ _ (Wr.sub (by decide) hw) ?_
    | with_reducible refine State.askCopy_same _ _ _ _ _ _ (Wr.sub (by decide) hw) ?_
    | with_reducible refine State.libEvent_same _ _ _ _ _ (Wr.sub (by decide) hw) ?_
    | with_reducible apply Same.ite
    | fail_if_no_progress with_reducible refine Same.updLib (W := State.badBlock_parts) (by decide) hw ?_
    | split
    | (with_reducible apply Same.zeta); split

def State.operationFails_parts : Nat := 0x1033a02
theorem State.operationFails_same {P : Part} {s0 : State} (s : State) (b : LibBurst) (hw :
    State.operationFails_parts.testBit P.ctorIdx = false) (h : Same P s0 s) :
    Same P s0 (State.operationFails s b) := by
  unfold State.operationFails
  repeat' first
    | with_reducible assumption
    | intro _
    | with_reducible refine State.badBlock_same _ _ _ _ (Wr.sub (by decide) hw) ?_
    | with_reducible refine State.askCopy_same _ _ _ _ _ _ (Wr.sub (by decide) hw) ?_
    | with_reducible refine State.finishCmd_same _ _ _ _ _ (Wr.sub (by decide) hw) ?_
    | with_reducible apply Same.each
    | with_reducible apply Same.ite
    | fail_if_no_progress with_reducible refine Same.updLib (W := State.operationFails_parts) (by decide) hw ?_
    | split
    | (with_reducible apply Same.zeta); split

def State.workDone_parts : Nat := 0x1033a02
theorem State.workDone_same {P : Part} {s0 : State} (s : State) (b : LibBurst) (hw : State.workDone_parts.testBit P.ctorIdx
    = false) (h : Same P s0 s) :
    Same P s0 (State.workDone s b) := by
  unfold State.workDone
  repeat' first
    | with_reducible assumption
    | intro _
    | with_reducible refine State.libShow_same _ _ (Wr.sub (by decide) hw) ?_
    | with_reducible refine State.erased_same _ _ (Wr.sub (by decide) hw) ?_
    | with_reducible refine State.dirUpdate_same _ _ _ (Wr.sub (by decide) hw) ?_
    | with_reducible refine State.remapBlock_same _ _ _ (Wr.sub (by decide) hw) ?_
    | with_reducible refine State.markBad_same _ _ _ _ (Wr.sub (by decide) hw) ?_
    | with_reducible apply Same.ite
    | fail_if_no_progress with_reducible refine Same.updLib (W := State.workDone_parts) (by decide) hw ?_
    | split
    | (with_reducible apply Same.zeta); split

def execFlashOperationComplete_parts : Nat := 0x1033a02
theorem execFlashOperationComplete_same {P : Part} {s0 : State} (ok : Bool) (s : State) (hw :
    execFlashOperationComplete_parts.testBit P.ctorIdx = false) (h : Same P s0 s) :
    SameOut P s0 (execFlashOperationComplete ok s) := by
  unfold execFlashOperationComplete
  repeat' first
    | with_reducible assumption
    | with_reducible apply SameOut.next
    | with_reducible apply SameOut.ite
    | intro _
    | with_reducible refine State.operationFails_same _ _ (Wr.sub (by decide) hw) ?_
    | with_reducible refine State.workDone_same _ _ (Wr.sub (by decide) hw) ?_
    | with_reducible apply Same.whenIf
    | with_reducible apply Same.ite
    | fail_if_no_progress with_reducible refine Same.updLib (W := execFlashOperationComplete_parts) (by decide) hw ?_
    | split
    | dsimp only; split

def State.refreshNext_parts : Nat := 0x1033a02
theorem State.refreshNext_same {P : Part} {s0 : State} (s : State) (hw : State.refreshNext_parts.testBit P.ctorIdx = false)
    (h : Same P s0 s) :
    Same P s0 (State.refreshNext s) := by
  unfold State.refreshNext
  repeat' first
    | with_reducible assumption
    | intro _
    | with_reducible refine State.askCopy_same _ _ _ _ _ _ (Wr.sub (by decide) hw) ?_
    | with_reducible refine State.setFld_same _ _ _ _ (Wr.sub (by decide) hw) ?_
    | split
    | (with_reducible apply Same.zeta); split

def execLibraryRefresh_parts : Nat := 0x1033a02
theorem execLibraryRefresh_same {P : Part} {s0 : State} (s : State) (hw : execLibraryRefresh_parts.testBit P.ctorIdx =
    false) (h : Same P s0 s) :
    SameOut P s0 (execLibraryRefresh s) := by
  unfold execLibraryRefresh
  repeat' first
    | with_reducible assumption
    | with_reducible apply SameOut.next
    | with_reducible apply SameOut.ite
    | intro _
    | with_reducible refine State.refreshNext_same _ (Wr.sub (by decide) hw) ?_
    | with_reducible refine State.libPrepare_same _ (Wr.sub (by decide) hw) ?_
    | with_reducible apply Same.ite
    | split
    | dsimp only; split

def execWearLevelRelocate_parts : Nat := 0x1033a02
theorem execWearLevelRelocate_same {P : Part} {s0 : State} (s : State) (hw : execWearLevelRelocate_parts.testBit P.ctorIdx
    = false) (h : Same P s0 s) :
    SameOut P s0 (execWearLevelRelocate s) := by
  unfold execWearLevelRelocate
  repeat' first
    | with_reducible assumption
    | with_reducible apply SameOut.next
    | with_reducible apply SameOut.ite
    | intro _
    | with_reducible refine State.askCopy_same _ _ _ _ _ _ (Wr.sub (by decide) hw) ?_
    | with_reducible apply Same.ite
    | split
    | dsimp only; split

def State.committed_parts : Nat := 0x1033e02
theorem State.committed_same {P : Part} {s0 : State} (s : State) (b : LibBurst) (hw : State.committed_parts.testBit
    P.ctorIdx = false) (h : Same P s0 s) :
    Same P s0 (State.committed s b) := by
  unfold State.committed
  repeat' first
    | with_reducible assumption
    | intro _
    | with_reducible refine State.libShow_same _ _ (Wr.sub (by decide) hw) ?_
    | with_reducible refine State.remapBlock_same _ _ _ (Wr.sub (by decide) hw) ?_
    | with_reducible refine State.askErase_same _ _ _ (Wr.sub (by decide) hw) ?_
    | with_reducible refine State.refreshNext_same _ (Wr.sub (by decide) hw) ?_
    | with_reducible refine State.count_same _ _ _ (Wr.sub (by decide) hw) ?_
    | with_reducible refine State.setFld_same _ _ _ _ (Wr.sub (by decide) hw) ?_
    | with_reducible refine State.mgmtEvent_same _ _ _ _ _ (Wr.sub (by decide) hw) ?_
    | with_reducible refine State.modGroup_same _ _ _ (Wr.sub (by decide) hw) ?_
    | with_reducible apply Same.ite
    | fail_if_no_progress with_reducible refine Same.updDict (W := State.committed_parts) (by decide) hw ?_
    | fail_if_no_progress with_reducible refine Same.updLib (W := State.committed_parts) (by decide) hw ?_
    | fail_if_no_progress with_reducible refine Same.upd (W := State.committed_parts) hw ?_ (.inl rfl) (.inl rfl) (.inl rfl) (.inl rfl) (.inl rfl) (.inl rfl) (.inl rfl) (.inl rfl) (.inl rfl) (.inr (by decide)) (.inl rfl) (.inl rfl) (.inl rfl) (.inl rfl) (.inl rfl) (.inl rfl) (.inr (by decide)) (.inl rfl) (.inl rfl) (.inl rfl) (.inl rfl) (.inl rfl) (.inl rfl) (.inl rfl) (.inl rfl)
    | split
    | (with_reducible apply Same.zeta); split

def execRecordCommit_parts : Nat := 0x1033e02
theorem execRecordCommit_same {P : Part} {s0 : State} (s : State) (hw : execRecordCommit_parts.testBit P.ctorIdx = false)
    (h : Same P s0 s) :
    SameOut P s0 (execRecordCommit s) := by
  unfold execRecordCommit
  repeat' first
    | with_reducible assumption
    | with_reducible apply SameOut.next
    | with_reducible apply SameOut.ite
    | intro _
    | with_reducible refine State.modBurstRecord_same _ _ _ (Wr.sub (by decide) hw) ?_
    | with_reducible refine State.finishCmd_same _ _ _ _ _ (Wr.sub (by decide) hw) ?_
    | with_reducible refine State.committed_same _ _ (Wr.sub (by decide) hw) ?_
    | with_reducible apply Same.ite
    | fail_if_no_progress with_reducible refine Same.updLib (W := execRecordCommit_parts) (by decide) hw ?_
    | split
    | dsimp only; split

def State.copyRepairs_parts : Nat := 0x1033a02
theorem State.copyRepairs_same {P : Part} {s0 : State} (s : State) (hw : State.copyRepairs_parts.testBit P.ctorIdx = false)
    (h : Same P s0 s) :
    Same P s0 (State.copyRepairs s) := by
  unfold State.copyRepairs
  repeat' first
    | with_reducible assumption
    | intro _
    | with_reducible refine State.libRecord_same _ _ _ _ _ (Wr.sub (by decide) hw) ?_
    | with_reducible apply Same.each
    | split
    | (with_reducible apply Same.zeta); split

def execBurstComplete_parts : Nat := 0x1033a02
theorem execBurstComplete_same {P : Part} {s0 : State} (s : State) (hw : execBurstComplete_parts.testBit P.ctorIdx = false)
    (h : Same P s0 s) :
    SameOut P s0 (execBurstComplete s) := by
  unfold execBurstComplete
  repeat' first
    | with_reducible assumption
    | with_reducible apply SameOut.next
    | with_reducible apply SameOut.ite
    | intro _
    | with_reducible refine State.copyRepairs_same _ (Wr.sub (by decide) hw) ?_
    | with_reducible refine State.serve_same _ (Wr.sub (by decide) hw) ?_
    | with_reducible apply Same.ite
    | fail_if_no_progress with_reducible refine Same.updCt (W := execBurstComplete_parts) (by decide) hw ?_
    | fail_if_no_progress with_reducible refine Same.updLib (W := execBurstComplete_parts) (by decide) hw ?_
    | fail_if_no_progress with_reducible refine Same.upd (W := execBurstComplete_parts) hw ?_ (.inl rfl) (.inl rfl) (.inl rfl) (.inl rfl) (.inl rfl) (.inl rfl) (.inl rfl) (.inl rfl) (.inl rfl) (.inl rfl) (.inl rfl) (.inl rfl) (.inr (by decide)) (.inl rfl) (.inl rfl) (.inl rfl) (.inr (by decide)) (.inl rfl) (.inl rfl) (.inl rfl) (.inl rfl) (.inl rfl) (.inl rfl) (.inl rfl) (.inl rfl)
    | split
    | dsimp only; split

def execAdmissionRequest_parts : Nat := 0x1033a02
theorem execAdmissionRequest_same {P : Part} {s0 : State} (classes : List Nat) (byCaretaker : Bool) (s : State) (hw :
    execAdmissionRequest_parts.testBit P.ctorIdx = false) (h : Same P s0 s) :
    SameOut P s0 (execAdmissionRequest classes byCaretaker s) := by
  unfold execAdmissionRequest
  repeat' first
    | with_reducible assumption
    | with_reducible apply SameOut.next
    | with_reducible apply SameOut.ite
    | intro _
    | with_reducible refine State.admitBurst_same _ _ _ (Wr.sub (by decide) hw) ?_
    | with_reducible refine State.setFld_same _ _ _ _ (Wr.sub (by decide) hw) ?_
    | with_reducible refine State.leaveOctal_same _ (Wr.sub (by decide) hw) ?_
    | with_reducible refine State.libEvent_same _ _ _ _ _ (Wr.sub (by decide) hw) ?_
    | with_reducible refine State.count_same _ _ _ (Wr.sub (by decide) hw) ?_
    | with_reducible refine State.serve_same _ (Wr.sub (by decide) hw) ?_
    | with_reducible apply Same.whenIf
    | with_reducible apply Same.ite
    | split
    | dsimp only; split

def execGaugeSample_parts : Nat := 0x1033a02
theorem execGaugeSample_same {P : Part} {s0 : State} (vstore : Nat) (vcell : Nat) (used : Nat) (s : State) (hw :
    execGaugeSample_parts.testBit P.ctorIdx = false) (h : Same P s0 s) :
    SameOut P s0 (execGaugeSample vstore vcell used s) := by
  unfold execGaugeSample
  repeat' first
    | with_reducible assumption
    | with_reducible apply SameOut.next
    | intro _
    | with_reducible refine State.gaugeSample_same _ _ _ _ (Wr.sub (by decide) hw) ?_
    | with_reducible refine State.copyRepairs_same _ (Wr.sub (by decide) hw) ?_
    | with_reducible refine State.serve_same _ (Wr.sub (by decide) hw) ?_
    | fail_if_no_progress with_reducible refine Same.updLib (W := execGaugeSample_parts) (by decide) hw ?_
    | split
    | dsimp only; split

def execLibAppendRecord_parts : Nat := 0x1033a02
theorem execLibAppendRecord_same {P : Part} {s0 : State} (idx : Nat) (s : State) (hw : execLibAppendRecord_parts.testBit
    P.ctorIdx = false) (h : Same P s0 s) :
    SameOut P s0 (execLibAppendRecord idx s) := by
  unfold execLibAppendRecord
  repeat' first
    | with_reducible assumption
    | with_reducible apply SameOut.next
    | with_reducible apply SameOut.ite
    | intro _
    | with_reducible refine State.finishCmd_same _ _ _ _ _ (Wr.sub (by decide) hw) ?_
    | with_reducible refine State.libSubmit_same _ _ (Wr.sub (by decide) hw) ?_
    | with_reducible apply Same.ite
    | split
    | dsimp only; split

def State.readRecord_parts : Nat := 0x1033a02
theorem State.readRecord_same {P : Part} {s0 : State} (s : State) (idx : Nat) (d : Desc) (r : LibRecord) (errs : List Nat)
    (hw : State.readRecord_parts.testBit P.ctorIdx = false) (h : Same P s0 s) :
    Same P s0 (State.readRecord s idx d r errs) := by
  unfold State.readRecord
  repeat' first
    | with_reducible assumption
    | intro _
    | with_reducible refine State.count_same _ _ _ (Wr.sub (by decide) hw) ?_
    | with_reducible refine State.setFld_same _ _ _ _ (Wr.sub (by decide) hw) ?_
    | with_reducible refine State.badBlock_same _ _ _ _ (Wr.sub (by decide) hw) ?_
    | with_reducible refine State.finishCmd_same _ _ _ _ _ (Wr.sub (by decide) hw) ?_
    | with_reducible refine State.libEvent_same _ _ _ _ _ (Wr.sub (by decide) hw) ?_
    | with_reducible refine State.satWrite_same _ _ _ (Wr.sub (by decide) hw) ?_
    | (with_reducible refine Same.snd ?_ (by assumption)); with_reducible refine State.satWrite_same _ _ _ (Wr.sub (by decide) hw) ?_
    | with_reducible apply Same.each
    | with_reducible apply Same.ite
    | fail_if_no_progress with_reducible refine Same.updLib (W := State.readRecord_parts) (by decide) hw ?_
    | split
    | (with_reducible apply Same.zeta); split

def State.readCommand_parts : Nat := 0x1033a02
theorem State.readCommand_same {P : Part} {s0 : State} (s : State) (idx : Nat) (op : Nat) (errs : List Nat) (pick : Nat →
    Nat → Nat → Option LibRecord) (hw : State.readCommand_parts.testBit P.ctorIdx = false) (h : Same P s0 s) :
    Same P s0 (State.readCommand s idx op errs pick) := by
  unfold State.readCommand
  repeat' first
    | with_reducible assumption
    | intro _
    | with_reducible refine State.finishCmd_same _ _ _ _ _ (Wr.sub (by decide) hw) ?_
    | with_reducible refine State.setFld_same _ _ _ _ (Wr.sub (by decide) hw) ?_
    | with_reducible refine State.readRecord_same _ _ _ _ _ (Wr.sub (by decide) hw) ?_
    | with_reducible apply Same.ite
    | split
    | (with_reducible apply Same.zeta); split

def execLibReadRecord_parts : Nat := 0x1033a02
theorem execLibReadRecord_same {P : Part} {s0 : State} (idx : Nat) (errs : List Nat) (s : State) (hw :
    execLibReadRecord_parts.testBit P.ctorIdx = false) (h : Same P s0 s) :
    SameOut P s0 (execLibReadRecord idx errs s) := by
  unfold execLibReadRecord
  repeat' first
    | with_reducible assumption
    | with_reducible apply SameOut.next
    | intro _
    | with_reducible refine State.readCommand_same _ _ _ _ _ (Wr.sub (by decide) hw) ?_
    | split
    | dsimp only; split

def execLibReadNewest_parts : Nat := 0x1033a02
theorem execLibReadNewest_same {P : Part} {s0 : State} (idx : Nat) (errs : List Nat) (s : State) (hw :
    execLibReadNewest_parts.testBit P.ctorIdx = false) (h : Same P s0 s) :
    SameOut P s0 (execLibReadNewest idx errs s) := by
  unfold execLibReadNewest
  repeat' first
    | with_reducible assumption
    | with_reducible apply SameOut.next
    | intro _
    | with_reducible refine State.readCommand_same _ _ _ _ _ (Wr.sub (by decide) hw) ?_
    | split
    | dsimp only; split

def State.libInit_parts : Nat := 0x1033a02
theorem State.libInit_same {P : Part} {s0 : State} (s : State) (supported : Bool) (nand : Bool) (pageL2 : Nat) (eraseL2 :
    Nat) (blocks : Nat) (dir : List (Nat × Nat × Nat × Nat)) (recs : List (Nat × Nat × Nat × Nat × List Nat)) (finals :
    List (List Nat)) (hw : State.libInit_parts.testBit P.ctorIdx = false) (h : Same P s0 s) :
    Same P s0 (State.libInit s supported nand pageL2 eraseL2 blocks dir recs finals) := by
  unfold State.libInit
  repeat' first
    | with_reducible assumption
    | intro _
    | with_reducible refine State.setFld_same _ _ _ _ (Wr.sub (by decide) hw) ?_
    | with_reducible refine State.leaveOctal_same _ (Wr.sub (by decide) hw) ?_
    | with_reducible refine State.setFlag_same _ _ _ _ (Wr.sub (by decide) hw) ?_
    | with_reducible refine State.serve_same _ (Wr.sub (by decide) hw) ?_
    | with_reducible refine State.libShow_same _ _ (Wr.sub (by decide) hw) ?_
    | with_reducible apply Same.foldl
    | with_reducible apply Same.ite
    | fail_if_no_progress with_reducible refine Same.updLib (W := State.libInit_parts) (by decide) hw ?_
    | split
    | (with_reducible apply Same.zeta); split

end Sys2Proof.Machine
end

