-- ==== Sys2Proof/Laws/SameClock.lean ====
section
/-!
SUPPORT. Which parts of State the operations of Machine/Clock.lean can change (Laws/Same.lean), as bits by the part's number, and that
they leave every other as it was.
-/
namespace Sys2Proof.Machine

set_option linter.unusedTactic false
set_option linter.unreachableTactic false

def State.edgeTick_parts : Nat := 0x4004
theorem State.edgeTick_same {P : Part} {s0 : State} (s : State) (hw : State.edgeTick_parts.testBit P.ctorIdx = false) (h :
    Same P s0 s) :
    Same P s0 (State.edgeTick s) := by
  unfold State.edgeTick
  repeat' first
    | with_reducible assumption
    | intro _
    | fail_if_no_progress with_reducible refine Same.updTb (W := State.edgeTick_parts) (by decide) hw ?_
    | fail_if_no_progress with_reducible refine Same.updClk (W := State.edgeTick_parts) (by decide) hw ?_
    | fail_if_no_progress with_reducible refine Same.upd (W := State.edgeTick_parts) hw ?_ (.inl rfl) (.inr (by decide)) (.inl rfl) (.inl rfl) (.inl rfl) (.inl rfl) (.inl rfl) (.inl rfl) (.inl rfl) (.inl rfl) (.inl rfl) (.inl rfl) (.inl rfl) (.inr (by decide)) (.inl rfl) (.inl rfl) (.inl rfl) (.inl rfl) (.inl rfl) (.inl rfl) (.inl rfl) (.inl rfl) (.inl rfl) (.inl rfl) (.inl rfl)
    | split
    | (with_reducible apply Same.zeta); split

def State.takeRate_parts : Nat := 0x4000
theorem State.takeRate_same {P : Part} {s0 : State} (s : State) (d : Int) (hw : State.takeRate_parts.testBit P.ctorIdx =
    false) (h : Same P s0 s) :
    Same P s0 (State.takeRate s d) := by
  unfold State.takeRate
  repeat' first
    | with_reducible assumption
    | intro _
    | fail_if_no_progress with_reducible refine Same.updClk (W := State.takeRate_parts) (by decide) hw ?_
    | split
    | (with_reducible apply Same.zeta); split

def State.takePhase_parts : Nat := 0x4002
theorem State.takePhase_same {P : Part} {s0 : State} (s : State) (d : Int) (hw : State.takePhase_parts.testBit P.ctorIdx =
    false) (h : Same P s0 s) :
    Same P s0 (State.takePhase s d) := by
  unfold State.takePhase
  repeat' first
    | with_reducible assumption
    | intro _
    | with_reducible refine State.setFld_same _ _ _ _ (Wr.sub (by decide) hw) ?_
    | fail_if_no_progress with_reducible refine Same.updClk (W := State.takePhase_parts) (by decide) hw ?_
    | split
    | (with_reducible apply Same.zeta); split

def State.moveTick_parts : Nat := 0x4000
theorem State.moveTick_same {P : Part} {s0 : State} (s : State) (d : Int) (hw : State.moveTick_parts.testBit P.ctorIdx =
    false) (h : Same P s0 s) :
    Same P s0 (State.moveTick s d) := by
  unfold State.moveTick
  repeat' first
    | with_reducible assumption
    | intro _
    | fail_if_no_progress with_reducible refine Same.updClk (W := State.moveTick_parts) (by decide) hw ?_
    | split
    | (with_reducible apply Same.zeta); split

def execPhaseStep_parts : Nat := 0x4002
theorem execPhaseStep_same {P : Part} {s0 : State} (s : State) (hw : execPhaseStep_parts.testBit P.ctorIdx = false) (h :
    Same P s0 s) :
    SameOut P s0 (execPhaseStep s) := by
  unfold execPhaseStep
  repeat' first
    | with_reducible assumption
    | with_reducible apply SameOut.next
    | with_reducible apply SameOut.ite
    | intro _
    | with_reducible refine State.takePhase_same _ _ (Wr.sub (by decide) hw) ?_
    | with_reducible refine State.takeRate_same _ _ (Wr.sub (by decide) hw) ?_
    | with_reducible refine State.moveTick_same _ _ (Wr.sub (by decide) hw) ?_
    | with_reducible apply Same.ite
    | split
    | dsimp only; split

def execTbLoRead_parts : Nat := 0xb02
theorem execTbLoRead_same {P : Part} {s0 : State} (core : Nat) (s : State) (hw : execTbLoRead_parts.testBit P.ctorIdx =
    false) (h : Same P s0 s) :
    SameOut P s0 (execTbLoRead core s) := by
  unfold execTbLoRead
  repeat' first
    | with_reducible assumption
    | with_reducible apply SameOut.next
    | intro _
    | with_reducible refine State.loadBlk_same _ _ _ _ _ (Wr.sub (by decide) hw) ?_ ?_
    | with_reducible refine State.reads_same _ _ (Wr.sub (by decide) hw) ?_
    | with_reducible refine State.setFld_same _ _ _ _ (Wr.sub (by decide) hw) ?_
    | split
    | dsimp only; split

def execPpsPulse_parts : Nat := 0x4000
theorem execPpsPulse_same {P : Part} {s0 : State} (s : State) (hw : execPpsPulse_parts.testBit P.ctorIdx = false) (h : Same
    P s0 s) :
    SameOut P s0 (execPpsPulse s) := by
  unfold execPpsPulse
  repeat' first
    | with_reducible assumption
    | with_reducible apply SameOut.next
    | with_reducible apply SameOut.ite
    | intro _
    | with_reducible apply Same.ite
    | fail_if_no_progress with_reducible refine Same.updClk (W := execPpsPulse_parts) (by decide) hw ?_
    | split
    | dsimp only; split

def execPpsPulseEnd_parts : Nat := 0x4000
theorem execPpsPulseEnd_same {P : Part} {s0 : State} (s : State) (hw : execPpsPulseEnd_parts.testBit P.ctorIdx = false) (h
    : Same P s0 s) :
    SameOut P s0 (execPpsPulseEnd s) := by
  unfold execPpsPulseEnd
  repeat' first
    | with_reducible assumption
    | with_reducible apply SameOut.next
    | intro _
    | fail_if_no_progress with_reducible refine Same.updClk (W := execPpsPulseEnd_parts) (by decide) hw ?_
    | split
    | dsimp only; split

def State.relaySync_parts : Nat := 0x4000
theorem State.relaySync_same {P : Part} {s0 : State} (s : State) (cycle : Nat) (hw : State.relaySync_parts.testBit
    P.ctorIdx = false) (h : Same P s0 s) :
    Same P s0 (State.relaySync s cycle) := by
  unfold State.relaySync
  repeat' first
    | with_reducible assumption
    | intro _
    | with_reducible apply Same.whenIf
    | fail_if_no_progress with_reducible refine Same.updClk (W := State.relaySync_parts) (by decide) hw ?_
    | split
    | (with_reducible apply Same.zeta); split

def State.syncEdge_parts : Nat := 0x400e
theorem State.syncEdge_same {P : Part} {s0 : State} (s : State) (cycle : Nat) (hw : State.syncEdge_parts.testBit P.ctorIdx
    = false) (h : Same P s0 s) :
    Same P s0 (State.syncEdge s cycle) := by
  unfold State.syncEdge
  repeat' first
    | with_reducible assumption
    | intro _
    | with_reducible refine State.setFld_same _ _ _ _ (Wr.sub (by decide) hw) ?_
    | with_reducible refine State.fresh_same _ _ (Wr.sub (by decide) hw) ?_
    | (with_reducible refine Same.snd ?_ (by assumption)); with_reducible refine State.fresh_same _ _ (Wr.sub (by decide) hw) ?_
    | with_reducible apply Same.ite
    | fail_if_no_progress with_reducible refine Same.updTb (W := State.syncEdge_parts) (by decide) hw ?_
    | fail_if_no_progress with_reducible refine Same.updClk (W := State.syncEdge_parts) (by decide) hw ?_
    | fail_if_no_progress with_reducible refine Same.upd (W := State.syncEdge_parts) hw ?_ (.inl rfl) (.inr (by decide)) (.inl rfl) (.inl rfl) (.inl rfl) (.inl rfl) (.inl rfl) (.inl rfl) (.inl rfl) (.inl rfl) (.inl rfl) (.inl rfl) (.inl rfl) (.inr (by decide)) (.inl rfl) (.inl rfl) (.inl rfl) (.inl rfl) (.inl rfl) (.inl rfl) (.inl rfl) (.inl rfl) (.inl rfl) (.inl rfl) (.inl rfl)
    | split
    | (with_reducible apply Same.zeta); split

def execSyncInEdge_parts : Nat := 0x400e
theorem execSyncInEdge_same {P : Part} {s0 : State} (cycle : Nat) (s : State) (hw : execSyncInEdge_parts.testBit P.ctorIdx
    = false) (h : Same P s0 s) :
    SameOut P s0 (execSyncInEdge cycle s) := by
  unfold execSyncInEdge
  repeat' first
    | with_reducible assumption
    | with_reducible apply SameOut.next
    | with_reducible apply SameOut.ite
    | intro _
    | with_reducible refine State.relaySync_same _ _ (Wr.sub (by decide) hw) ?_
    | with_reducible refine State.syncEdge_same _ _ (Wr.sub (by decide) hw) ?_
    | with_reducible apply Same.ite
    | split
    | dsimp only; split

def execSyncMissed_parts : Nat := 0xa02
theorem execSyncMissed_same {P : Part} {s0 : State} (s : State) (hw : execSyncMissed_parts.testBit P.ctorIdx = false) (h :
    Same P s0 s) :
    SameOut P s0 (execSyncMissed s) := by
  unfold execSyncMissed
  repeat' first
    | with_reducible assumption
    | with_reducible apply SameOut.next
    | with_reducible apply SameOut.ite
    | intro _
    | with_reducible refine State.setFld_same _ _ _ _ (Wr.sub (by decide) hw) ?_
    | with_reducible refine State.event_same _ _ _ _ _ (Wr.sub (by decide) hw) ?_
    | with_reducible apply Same.ite
    | split
    | dsimp only; split

def execSyncOutPulse_parts : Nat := 0x4000
theorem execSyncOutPulse_same {P : Part} {s0 : State} (s : State) (hw : execSyncOutPulse_parts.testBit P.ctorIdx = false)
    (h : Same P s0 s) :
    SameOut P s0 (execSyncOutPulse s) := by
  unfold execSyncOutPulse
  repeat' first
    | with_reducible assumption
    | with_reducible apply SameOut.next
    | with_reducible apply SameOut.ite
    | intro _
    | with_reducible apply Same.ite
    | fail_if_no_progress with_reducible refine Same.updClk (W := execSyncOutPulse_parts) (by decide) hw ?_
    | split
    | dsimp only; split

def State.clkEnWrite_parts : Nat := 0xa02
theorem State.clkEnWrite_same {P : Part} {s0 : State} (s : State) (a : Bool) (b : Bool) (hw :
    State.clkEnWrite_parts.testBit P.ctorIdx = false) (h : Same P s0 s) :
    Same P s0 (State.clkEnWrite s a b) := by
  unfold State.clkEnWrite
  repeat' first
    | with_reducible assumption
    | intro _
    | with_reducible refine State.discarded_same _ _ _ (Wr.sub (by decide) hw) ?_
    | with_reducible refine State.setFlag_same _ _ _ _ (Wr.sub (by decide) hw) ?_
    | with_reducible refine State.setFld_same _ _ _ _ (Wr.sub (by decide) hw) ?_
    | with_reducible apply Same.whenIf
    | with_reducible apply Same.ite
    | split
    | (with_reducible apply Same.zeta); split

def execClkEnWrite_parts : Nat := 0xb02
theorem execClkEnWrite_same {P : Part} {s0 : State} (core : Nat) (a : Bool) (b : Bool) (s : State) (hw :
    execClkEnWrite_parts.testBit P.ctorIdx = false) (h : Same P s0 s) :
    SameOut P s0 (execClkEnWrite core a b s) := by
  unfold execClkEnWrite
  repeat' first
    | with_reducible assumption
    | with_reducible apply SameOut.next
    | intro _
    | with_reducible refine State.accessBlk_same _ _ _ _ _ (Wr.sub (by decide) hw) ?_ ?_
    | with_reducible refine State.clkEnWrite_same _ _ _ (Wr.sub (by decide) hw) ?_
    | split
    | dsimp only; split

def execRcTrim_parts : Nat := 0x2
theorem execRcTrim_same {P : Part} {s0 : State} (s : State) (hw : execRcTrim_parts.testBit P.ctorIdx = false) (h : Same P
    s0 s) :
    SameOut P s0 (execRcTrim s) := by
  unfold execRcTrim
  repeat' first
    | with_reducible assumption
    | with_reducible apply SameOut.next
    | intro _
    | with_reducible refine State.setFlag_same _ _ _ _ (Wr.sub (by decide) hw) ?_
    | split
    | dsimp only; split

def execRtcCrystalStop_parts : Nat := 0x4002
theorem execRtcCrystalStop_same {P : Part} {s0 : State} (s : State) (hw : execRtcCrystalStop_parts.testBit P.ctorIdx =
    false) (h : Same P s0 s) :
    SameOut P s0 (execRtcCrystalStop s) := by
  unfold execRtcCrystalStop
  repeat' first
    | with_reducible assumption
    | with_reducible apply SameOut.next
    | intro _
    | with_reducible refine State.setFld_same _ _ _ _ (Wr.sub (by decide) hw) ?_
    | fail_if_no_progress with_reducible refine Same.updClk (W := execRtcCrystalStop_parts) (by decide) hw ?_
    | split
    | dsimp only; split

def execRtcCrystalStart_parts : Nat := 0x4002
theorem execRtcCrystalStart_same {P : Part} {s0 : State} (s : State) (hw : execRtcCrystalStart_parts.testBit P.ctorIdx =
    false) (h : Same P s0 s) :
    SameOut P s0 (execRtcCrystalStart s) := by
  unfold execRtcCrystalStart
  repeat' first
    | with_reducible assumption
    | with_reducible apply SameOut.next
    | intro _
    | with_reducible refine State.setFld_same _ _ _ _ (Wr.sub (by decide) hw) ?_
    | fail_if_no_progress with_reducible refine Same.updClk (W := execRtcCrystalStart_parts) (by decide) hw ?_
    | split
    | dsimp only; split

def State.runFraction_parts : Nat := 0x2002
theorem State.runFraction_same {P : Part} {s0 : State} (s : State) (hw : State.runFraction_parts.testBit P.ctorIdx = false)
    (h : Same P s0 s) :
    Same P s0 (State.runFraction s) := by
  unfold State.runFraction
  repeat' first
    | with_reducible assumption
    | intro _
    | with_reducible refine State.setFld_same _ _ _ _ (Wr.sub (by decide) hw) ?_
    | with_reducible apply Same.ite
    | fail_if_no_progress with_reducible refine Same.updCt (W := State.runFraction_parts) (by decide) hw ?_
    | split
    | (with_reducible apply Same.zeta); split

def execRtcSubRead_parts : Nat := 0xb02
theorem execRtcSubRead_same {P : Part} {s0 : State} (core : Nat) (s : State) (hw : execRtcSubRead_parts.testBit P.ctorIdx =
    false) (h : Same P s0 s) :
    SameOut P s0 (execRtcSubRead core s) := by
  unfold execRtcSubRead
  repeat' first
    | with_reducible assumption
    | with_reducible apply SameOut.next
    | intro _
    | with_reducible refine State.loadBlk_same _ _ _ _ _ (Wr.sub (by decide) hw) ?_ ?_
    | with_reducible refine State.setFld_same _ _ _ _ (Wr.sub (by decide) hw) ?_
    | with_reducible refine State.reads_same _ _ (Wr.sub (by decide) hw) ?_
    | split
    | dsimp only; split

end Sys2Proof.Machine
end

