-- ==== Sys2Proof/Laws/SameTimetable.lean ====
section
/-!
SUPPORT. Which parts of State the operations of Machine/Timetable.lean can change (Laws/Same.lean), as bits by the part's number, and that
they leave every other as it was.
-/
namespace Sys2Proof.Machine

set_option linter.unusedTactic false
set_option linter.unreachableTactic false

def State.setEngWord_parts : Nat := 0x400000
theorem State.setEngWord_same {P : Part} {s0 : State} (s : State) (n : Nat) (idx : Nat) (v : Nat) (hw :
    State.setEngWord_parts.testBit P.ctorIdx = false) (h : Same P s0 s) :
    Same P s0 (State.setEngWord s n idx v) := by
  unfold State.setEngWord
  repeat' first
    | with_reducible assumption
    | intro _
    | fail_if_no_progress with_reducible refine Same.updEng (W := State.setEngWord_parts) (by decide) hw ?_
    | split
    | (with_reducible apply Same.zeta); split

end Sys2Proof.Machine
end

