-- ==== Sys2Proof/Laws/SameCarrier.lean ====
section
/-!
SUPPORT. Which parts of State the operations of Machine/Carrier.lean can change (Laws/Same.lean), as bits by the part's number, and that
they leave every other as it was.
-/
namespace Sys2Proof.Machine

set_option linter.unusedTactic false
set_option linter.unreachableTactic false

def State.modPm_parts : Nat := 0x100000
theorem State.modPm_same {P : Part} {s0 : State} (s : State) (m : Nat) (f : PwmMod → PwmMod) (hw :
    State.modPm_parts.testBit P.ctorIdx = false) (h : Same P s0 s) :
    Same P s0 (State.modPm s m f) := by
  unfold State.modPm
  repeat' first
    | with_reducible assumption
    | intro _
    | fail_if_no_progress with_reducible refine Same.updPwm (W := State.modPm_parts) (by decide) hw ?_
    | split
    | (with_reducible apply Same.zeta); split

def State.setAct_parts : Nat := 0x2
theorem State.setAct_same {P : Part} {s0 : State} (s : State) (m : Nat) (w : Nat) (v : Nat) (hw :
    State.setAct_parts.testBit P.ctorIdx = false) (h : Same P s0 s) :
    Same P s0 (State.setAct s m w v) := by
  unfold State.setAct
  repeat' first
    | with_reducible assumption
    | intro _
    | with_reducible refine State.setFld_same _ _ _ _ (Wr.sub (by decide) hw) ?_
    | split
    | (with_reducible apply Same.zeta); split

end Sys2Proof.Machine
end

