-- ==== Sys2Proof/Laws/SameBurWords.lean ====
section
/-!
SUPPORT. Which parts of State the operations of Machine/BurWords.lean can change (Laws/Same.lean), as bits by the part's number, and that
they leave every other as it was.
-/
namespace Sys2Proof.Machine

set_option linter.unusedTactic false
set_option linter.unreachableTactic false

def State.modPoint_parts : Nat := 0x1000000
theorem State.modPoint_same {P : Part} {s0 : State} (s : State) (q_1 : Nat) (f : BurPoint → BurPoint) (hw :
    State.modPoint_parts.testBit P.ctorIdx = false) (h : Same P s0 s) :
    Same P s0 (State.modPoint s q_1 f) := by
  unfold State.modPoint
  repeat' first
    | with_reducible assumption
    | intro _
    | fail_if_no_progress with_reducible refine Same.updBur (W := State.modPoint_parts) (by decide) hw ?_
    | split
    | (with_reducible apply Same.zeta); split

def State.modPhase_parts : Nat := 0x1000000
theorem State.modPhase_same {P : Part} {s0 : State} (s : State) (q_1 : Nat) (x : Nat) (f : BurPhase → BurPhase) (hw :
    State.modPhase_parts.testBit P.ctorIdx = false) (h : Same P s0 s) :
    Same P s0 (State.modPhase s q_1 x f) := by
  unfold State.modPhase
  repeat' first
    | with_reducible assumption
    | intro _
    | with_reducible refine State.modPoint_same _ _ _ (Wr.sub (by decide) hw) ?_
    | split
    | (with_reducible apply Same.zeta); split

def State.burEvent_parts : Nat := 0xa02
theorem State.burEvent_same {P : Part} {s0 : State} (s : State) (code : Nat) (point : Nat) (phases : Nat) (ended : Bool)
    (extreme : Nat) (duration : Nat) (time : Nat) (hw : State.burEvent_parts.testBit P.ctorIdx = false) (h : Same P s0 s) :
    Same P s0 (State.burEvent s code point phases ended extreme duration time) := by
  unfold State.burEvent
  repeat' first
    | with_reducible assumption
    | intro _
    | with_reducible refine State.emit_same _ _ _ (Wr.sub (by decide) hw) ?_
    | split
    | (with_reducible apply Same.zeta); split

def State.burGap_parts : Nat := 0x1000a02
theorem State.burGap_same {P : Part} {s0 : State} (s : State) (q_1 : Nat) (x : Nat) (hw : State.burGap_parts.testBit
    P.ctorIdx = false) (h : Same P s0 s) :
    Same P s0 (State.burGap s q_1 x) := by
  unfold State.burGap
  repeat' first
    | with_reducible assumption
    | intro _
    | with_reducible refine State.setFld_same _ _ _ _ (Wr.sub (by decide) hw) ?_
    | with_reducible refine State.modPhase_same _ _ _ _ (Wr.sub (by decide) hw) ?_
    | with_reducible refine State.burEvent_same _ _ _ _ _ _ _ _ (Wr.sub (by decide) hw) ?_
    | with_reducible apply Same.ite
    | split
    | (with_reducible apply Same.zeta); split

def State.takeVolt_parts : Nat := 0x1000a02
theorem State.takeVolt_same {P : Part} {s0 : State} (s : State) (q_1 : Nat) (x : Nat) (w : SampleWord) (hw :
    State.takeVolt_parts.testBit P.ctorIdx = false) (h : Same P s0 s) :
    Same P s0 (State.takeVolt s q_1 x w) := by
  unfold State.takeVolt
  repeat' first
    | with_reducible assumption
    | intro _
    | with_reducible refine State.modPhase_same _ _ _ _ (Wr.sub (by decide) hw) ?_
    | with_reducible refine State.burGap_same _ _ _ (Wr.sub (by decide) hw) ?_
    | split
    | (with_reducible apply Same.zeta); split

def State.takeAmp_parts : Nat := 0x1000a02
theorem State.takeAmp_same {P : Part} {s0 : State} (s : State) (q_1 : Nat) (x : Nat) (w : SampleWord) (hw :
    State.takeAmp_parts.testBit P.ctorIdx = false) (h : Same P s0 s) :
    Same P s0 (State.takeAmp s q_1 x w) := by
  unfold State.takeAmp
  repeat' first
    | with_reducible assumption
    | intro _
    | with_reducible refine State.modPhase_same _ _ _ _ (Wr.sub (by decide) hw) ?_
    | with_reducible refine State.burGap_same _ _ _ (Wr.sub (by decide) hw) ?_
    | with_reducible apply Same.ite
    | split
    | (with_reducible apply Same.zeta); split

def State.bursarTakes_parts : Nat := 0x1000a02
theorem State.bursarTakes_same {P : Part} {s0 : State} (s : State) (w : SampleWord) (hw : State.bursarTakes_parts.testBit
    P.ctorIdx = false) (h : Same P s0 s) :
    Same P s0 (State.bursarTakes s w) := by
  unfold State.bursarTakes
  repeat' first
    | with_reducible assumption
    | intro _
    | with_reducible refine State.takeVolt_same _ _ _ _ (Wr.sub (by decide) hw) ?_
    | with_reducible refine State.takeAmp_same _ _ _ _ (Wr.sub (by decide) hw) ?_
    | with_reducible apply Same.whenIf
    | with_reducible apply Same.each
    | with_reducible apply Same.ite
    | split
    | (with_reducible apply Same.zeta); split

end Sys2Proof.Machine
end

