-- ==== Sys2Proof/Laws/SameFabric.lean ====
section
/-!
SUPPORT. Which parts of State the operations of Machine/Fabric.lean can change (Laws/Same.lean), as bits by the part's number, and that
they leave every other as it was.
-/
namespace Sys2Proof.Machine

set_option linter.unusedTactic false
set_option linter.unreachableTactic false

def State.carry_parts : Nat := 0x40
theorem State.carry_same {P : Part} {s0 : State} (s : State) (sp : Nat) (hw : State.carry_parts.testBit P.ctorIdx = false)
    (h : Same P s0 s) :
    Same P s0 (State.carry s sp) := by
  unfold State.carry
  repeat' first
    | with_reducible assumption
    | intro _
    | fail_if_no_progress with_reducible refine Same.updFab (W := State.carry_parts) (by decide) hw ?_
    | split
    | (with_reducible apply Same.zeta); split

def State.loadTick_parts : Nat := 0x42
theorem State.loadTick_same {P : Part} {s0 : State} (s : State) (hw : State.loadTick_parts.testBit P.ctorIdx = false) (h :
    Same P s0 s) :
    Same P s0 (State.loadTick s) := by
  unfold State.loadTick
  repeat' first
    | with_reducible assumption
    | intro _
    | with_reducible refine State.setFld_same _ _ _ _ (Wr.sub (by decide) hw) ?_
    | with_reducible apply Same.each
    | with_reducible apply Same.ite
    | fail_if_no_progress with_reducible refine Same.updFab (W := State.loadTick_parts) (by decide) hw ?_
    | split
    | (with_reducible apply Same.zeta); split

def State.capture_parts : Nat := 0x11f42
theorem State.capture_same {P : Part} {s0 : State} (s : State) (a : Nat) (w : SampleWord) (hw : State.capture_parts.testBit
    P.ctorIdx = false) (h : Same P s0 s) :
    Same P s0 (State.capture s a w) := by
  unfold State.capture
  repeat' first
    | with_reducible assumption
    | intro _
    | with_reducible refine State.setCap_same _ _ _ (Wr.sub (by decide) hw) ?_
    | with_reducible refine State.captureDone_same _ _ _ (Wr.sub (by decide) hw) ?_
    | with_reducible refine State.carry_same _ _ (Wr.sub (by decide) hw) ?_
    | with_reducible refine State.count_same _ _ _ (Wr.sub (by decide) hw) ?_
    | with_reducible apply Same.whenIf
    | with_reducible apply Same.ite
    | split
    | (with_reducible apply Same.zeta); split

def State.modEngine_parts : Nat := 0x400000
theorem State.modEngine_same {P : Part} {s0 : State} (s : State) (n : Nat) (f : Engine → Engine) (hw :
    State.modEngine_parts.testBit P.ctorIdx = false) (h : Same P s0 s) :
    Same P s0 (State.modEngine s n f) := by
  unfold State.modEngine
  repeat' first
    | with_reducible assumption
    | intro _
    | fail_if_no_progress with_reducible refine Same.updEng (W := State.modEngine_parts) (by decide) hw ?_
    | split
    | (with_reducible apply Same.zeta); split

def State.endWait_parts : Nat := 0x400000
theorem State.endWait_same {P : Part} {s0 : State} (s : State) (n : Nat) (tmo : Bool) (hw : State.endWait_parts.testBit
    P.ctorIdx = false) (h : Same P s0 s) :
    Same P s0 (State.endWait s n tmo) := by
  unfold State.endWait
  repeat' first
    | with_reducible assumption
    | intro _
    | with_reducible refine State.modEngine_same _ _ _ (Wr.sub (by decide) hw) ?_
    | split
    | (with_reducible apply Same.zeta); split

def State.releaseWait_parts : Nat := 0x400000
theorem State.releaseWait_same {P : Part} {s0 : State} (s : State) (n : Nat) (hw : State.releaseWait_parts.testBit
    P.ctorIdx = false) (h : Same P s0 s) :
    Same P s0 (State.releaseWait s n) := by
  unfold State.releaseWait
  repeat' first
    | with_reducible assumption
    | intro _
    | with_reducible refine State.endWait_same _ _ _ (Wr.sub (by decide) hw) ?_
    | with_reducible apply Same.ite
    | split
    | (with_reducible apply Same.zeta); split

def State.subscribe_parts : Nat := 0x400000
theorem State.subscribe_same {P : Part} {s0 : State} (s : State) (w : SampleWord) (n : Nat) (i : Nat) (hw :
    State.subscribe_parts.testBit P.ctorIdx = false) (h : Same P s0 s) :
    Same P s0 (State.subscribe s w n i) := by
  unfold State.subscribe
  repeat' first
    | with_reducible assumption
    | intro _
    | with_reducible refine State.releaseWait_same _ _ (Wr.sub (by decide) hw) ?_
    | with_reducible refine State.modEngine_same _ _ _ (Wr.sub (by decide) hw) ?_
    | with_reducible apply Same.ite
    | split
    | (with_reducible apply Same.zeta); split

def State.deliver_parts : Nat := 0x1411f42
theorem State.deliver_same {P : Part} {s0 : State} (s : State) (w : SampleWord) (hw : State.deliver_parts.testBit P.ctorIdx
    = false) (h : Same P s0 s) :
    Same P s0 (State.deliver s w) := by
  unfold State.deliver
  repeat' first
    | with_reducible assumption
    | intro _
    | with_reducible refine State.carry_same _ _ (Wr.sub (by decide) hw) ?_
    | with_reducible refine State.bursarTakes_same _ _ (Wr.sub (by decide) hw) ?_
    | with_reducible refine State.subscribe_same _ _ _ _ (Wr.sub (by decide) hw) ?_
    | with_reducible refine State.capture_same _ _ _ (Wr.sub (by decide) hw) ?_
    | with_reducible apply Same.each
    | fail_if_no_progress with_reducible refine Same.updFab (W := State.deliver_parts) (by decide) hw ?_
    | split
    | (with_reducible apply Same.zeta); split

def State.offer_parts : Nat := 0x1411f42
theorem State.offer_same {P : Part} {s0 : State} (s : State) (w : SampleWord) (spineFree : Bool) (hw :
    State.offer_parts.testBit P.ctorIdx = false) (h : Same P s0 s) :
    Same P s0 (State.offer s w spineFree) := by
  unfold State.offer
  repeat' first
    | with_reducible assumption
    | intro _
    | with_reducible refine State.deliver_same _ _ (Wr.sub (by decide) hw) ?_
    | with_reducible refine State.event_same _ _ _ _ _ (Wr.sub (by decide) hw) ?_
    | with_reducible refine State.count_same _ _ _ (Wr.sub (by decide) hw) ?_
    | with_reducible apply Same.each
    | with_reducible apply Same.ite
    | fail_if_no_progress with_reducible refine Same.updFab (W := State.offer_parts) (by decide) hw ?_
    | split
    | (with_reducible apply Same.zeta); split

def execSampleWordOffer_parts : Nat := 0x1411f42
theorem execSampleWordOffer_same {P : Part} {s0 : State} (result : Nat) (reason : Nat) (source : Nat) (ts : Nat) (subst :
    Bool) (inj : Bool) (spineFree : Bool) (s : State) (hw : execSampleWordOffer_parts.testBit P.ctorIdx = false) (h : Same
    P s0 s) :
    SameOut P s0 (execSampleWordOffer result reason source ts subst inj spineFree s) := by
  unfold execSampleWordOffer
  repeat' first
    | with_reducible assumption
    | with_reducible apply SameOut.next
    | intro _
    | with_reducible refine State.offer_same _ _ _ (Wr.sub (by decide) hw) ?_
    | split
    | dsimp only; split

end Sys2Proof.Machine
end

