-- ==== Sys2Proof/Laws/SameSar.lean ====
section
/-!
SUPPORT. Which parts of State the operations of Machine/Sar.lean can change (Laws/Same.lean), as bits by the part's number, and that
they leave every other as it was.
-/
namespace Sys2Proof.Machine

set_option linter.unusedTactic false
set_option linter.unreachableTactic false

def State.modSlot_parts : Nat := 0x8000
theorem State.modSlot_same {P : Part} {s0 : State} (s : State) (k : Nat) (f : SarSlot → SarSlot) (hw :
    State.modSlot_parts.testBit P.ctorIdx = false) (h : Same P s0 s) :
    Same P s0 (State.modSlot s k f) := by
  unfold State.modSlot
  repeat' first
    | with_reducible assumption
    | intro _
    | fail_if_no_progress with_reducible refine Same.updSar (W := State.modSlot_parts) (by decide) hw ?_
    | split
    | (with_reducible apply Same.zeta); split

def State.nextConv_parts : Nat := 0x8002
theorem State.nextConv_same {P : Part} {s0 : State} (s : State) (k : Nat) (hw : State.nextConv_parts.testBit P.ctorIdx =
    false) (h : Same P s0 s) :
    Same P s0 (State.nextConv s k) := by
  unfold State.nextConv
  repeat' first
    | with_reducible assumption
    | intro _
    | with_reducible refine State.modSlot_same _ _ _ (Wr.sub (by decide) hw) ?_
    | with_reducible refine State.setFld_same _ _ _ _ (Wr.sub (by decide) hw) ?_
    | with_reducible apply Same.whenIf
    | with_reducible apply Same.ite
    | split
    | (with_reducible apply Same.zeta); split

def State.trigger_parts : Nat := 0x8002
theorem State.trigger_same {P : Part} {s0 : State} (s : State) (k : Nat) (hw : State.trigger_parts.testBit P.ctorIdx =
    false) (h : Same P s0 s) :
    Same P s0 (State.trigger s k) := by
  unfold State.trigger
  repeat' first
    | with_reducible assumption
    | intro _
    | with_reducible refine State.modSlot_same _ _ _ (Wr.sub (by decide) hw) ?_
    | with_reducible refine State.nextConv_same _ _ (Wr.sub (by decide) hw) ?_
    | with_reducible refine State.count_same _ _ _ (Wr.sub (by decide) hw) ?_
    | with_reducible apply Same.whenIf
    | with_reducible apply Same.ite
    | split
    | (with_reducible apply Same.zeta); split

def State.occurs_parts : Nat := 0x8000
theorem State.occurs_same {P : Part} {s0 : State} (s : State) (src : Nat → Bool) (hw : State.occurs_parts.testBit P.ctorIdx
    = false) (h : Same P s0 s) :
    Same P s0 (State.occurs s src) := by
  unfold State.occurs
  repeat' first
    | with_reducible assumption
    | intro _
    | with_reducible refine State.modSlot_same _ _ _ (Wr.sub (by decide) hw) ?_
    | with_reducible apply Same.whenIf
    | with_reducible apply Same.each
    | split
    | (with_reducible apply Same.zeta); split

def State.pwmOccurs_parts : Nat := 0x8000
theorem State.pwmOccurs_same {P : Part} {s0 : State} (s : State) (m : Nat) (evt : Nat) (hw : State.pwmOccurs_parts.testBit
    P.ctorIdx = false) (h : Same P s0 s) :
    Same P s0 (State.pwmOccurs s m evt) := by
  unfold State.pwmOccurs
  repeat' first
    | with_reducible assumption
    | intro _
    | with_reducible refine State.occurs_same _ _ (Wr.sub (by decide) hw) ?_
    | split
    | (with_reducible apply Same.zeta); split

def State.bellOccurs_parts : Nat := 0x8000
theorem State.bellOccurs_same {P : Part} {s0 : State} (s : State) (hw : State.bellOccurs_parts.testBit P.ctorIdx = false)
    (h : Same P s0 s) :
    Same P s0 (State.bellOccurs s) := by
  unfold State.bellOccurs
  repeat' first
    | with_reducible assumption
    | intro _
    | with_reducible refine State.occurs_same _ _ (Wr.sub (by decide) hw) ?_
    | split
    | (with_reducible apply Same.zeta); split

def execSarBurstStart_parts : Nat := 0x8002
theorem execSarBurstStart_same {P : Part} {s0 : State} (k : Nat) (s : State) (hw : execSarBurstStart_parts.testBit
    P.ctorIdx = false) (h : Same P s0 s) :
    SameOut P s0 (execSarBurstStart k s) := by
  unfold execSarBurstStart
  repeat' first
    | with_reducible assumption
    | with_reducible apply SameOut.next
    | with_reducible apply SameOut.ite
    | intro _
    | with_reducible refine State.modSlot_same _ _ _ (Wr.sub (by decide) hw) ?_
    | with_reducible refine State.trigger_same _ _ (Wr.sub (by decide) hw) ?_
    | with_reducible apply Same.ite
    | split
    | dsimp only; split

def State.sarSwtrig_parts : Nat := 0x8002
theorem State.sarSwtrig_same {P : Part} {s0 : State} (s : State) (mask : Nat) (hw : State.sarSwtrig_parts.testBit P.ctorIdx
    = false) (h : Same P s0 s) :
    Same P s0 (State.sarSwtrig s mask) := by
  unfold State.sarSwtrig
  repeat' first
    | with_reducible assumption
    | intro _
    | with_reducible refine State.trigger_same _ _ (Wr.sub (by decide) hw) ?_
    | with_reducible apply Same.whenIf
    | with_reducible apply Same.each
    | split
    | (with_reducible apply Same.zeta); split

def execSarSwtrigWrite_parts : Nat := 0x8b02
theorem execSarSwtrigWrite_same {P : Part} {s0 : State} (core : Nat) (mask : Nat) (s : State) (hw :
    execSarSwtrigWrite_parts.testBit P.ctorIdx = false) (h : Same P s0 s) :
    SameOut P s0 (execSarSwtrigWrite core mask s) := by
  unfold execSarSwtrigWrite
  repeat' first
    | with_reducible assumption
    | with_reducible apply SameOut.next
    | intro _
    | with_reducible refine State.accessBlk_same _ _ _ _ _ (Wr.sub (by decide) hw) ?_ ?_
    | with_reducible refine State.sarSwtrig_same _ _ (Wr.sub (by decide) hw) ?_
    | split
    | dsimp only; split

def execSarFreeRunTrigger_parts : Nat := 0x8002
theorem execSarFreeRunTrigger_same {P : Part} {s0 : State} (k : Nat) (s : State) (hw : execSarFreeRunTrigger_parts.testBit
    P.ctorIdx = false) (h : Same P s0 s) :
    SameOut P s0 (execSarFreeRunTrigger k s) := by
  unfold execSarFreeRunTrigger
  repeat' first
    | with_reducible assumption
    | with_reducible apply SameOut.next
    | intro _
    | with_reducible refine State.trigger_same _ _ (Wr.sub (by decide) hw) ?_
    | with_reducible apply Same.whenIf
    | split
    | dsimp only; split

def State.endStep_parts : Nat := 0x8002
theorem State.endStep_same {P : Part} {s0 : State} (s : State) (hw : State.endStep_parts.testBit P.ctorIdx = false) (h :
    Same P s0 s) :
    Same P s0 (State.endStep s) := by
  unfold State.endStep
  repeat' first
    | with_reducible assumption
    | intro _
    | with_reducible refine State.setFld_same _ _ _ _ (Wr.sub (by decide) hw) ?_
    | fail_if_no_progress with_reducible refine Same.updSar (W := State.endStep_parts) (by decide) hw ?_
    | split
    | (with_reducible apply Same.zeta); split

def State.abandonStep_parts : Nat := 0x8002
theorem State.abandonStep_same {P : Part} {s0 : State} (s : State) (hw : State.abandonStep_parts.testBit P.ctorIdx = false)
    (h : Same P s0 s) :
    Same P s0 (State.abandonStep s) := by
  unfold State.abandonStep
  repeat' first
    | with_reducible assumption
    | intro _
    | with_reducible refine State.endStep_same _ (Wr.sub (by decide) hw) ?_
    | with_reducible refine State.setFld_same _ _ _ _ (Wr.sub (by decide) hw) ?_
    | with_reducible apply Same.whenIf
    | split
    | (with_reducible apply Same.zeta); split

def State.stopRotation_parts : Nat := 0x8002
theorem State.stopRotation_same {P : Part} {s0 : State} (s : State) (hw : State.stopRotation_parts.testBit P.ctorIdx =
    false) (h : Same P s0 s) :
    Same P s0 (State.stopRotation s) := by
  unfold State.stopRotation
  repeat' first
    | with_reducible assumption
    | intro _
    | with_reducible refine State.abandonStep_same _ (Wr.sub (by decide) hw) ?_
    | fail_if_no_progress with_reducible refine Same.updSar (W := State.stopRotation_parts) (by decide) hw ?_
    | split
    | (with_reducible apply Same.zeta); split

def State.retireSlice_parts : Nat := 0x10a02
theorem State.retireSlice_same {P : Part} {s0 : State} (s : State) (x : Nat) (hw : State.retireSlice_parts.testBit
    P.ctorIdx = false) (h : Same P s0 s) :
    Same P s0 (State.retireSlice s x) := by
  unfold State.retireSlice
  repeat' first
    | with_reducible assumption
    | intro _
    | with_reducible refine State.setBit_same _ _ _ _ _ (Wr.sub (by decide) hw) ?_
    | with_reducible refine State.recordRepair_same _ _ _ _ _ (Wr.sub (by decide) hw) ?_
    | with_reducible refine State.event_same _ _ _ _ _ (Wr.sub (by decide) hw) ?_
    | with_reducible refine State.setFld_same _ _ _ _ (Wr.sub (by decide) hw) ?_
    | with_reducible refine State.consumeSpare_same _ _ (Wr.sub (by decide) hw) ?_
    | with_reducible apply Same.whenIf
    | with_reducible apply Same.ite
    | split
    | (with_reducible apply Same.zeta); split

def State.stallSlice_parts : Nat := 0x18a02
theorem State.stallSlice_same {P : Part} {s0 : State} (s : State) (x : Nat) (hw : State.stallSlice_parts.testBit P.ctorIdx
    = false) (h : Same P s0 s) :
    Same P s0 (State.stallSlice s x) := by
  unfold State.stallSlice
  repeat' first
    | with_reducible assumption
    | intro _
    | with_reducible refine State.modSlot_same _ _ _ (Wr.sub (by decide) hw) ?_
    | with_reducible refine State.retireSlice_same _ _ (Wr.sub (by decide) hw) ?_
    | with_reducible refine State.endStep_same _ (Wr.sub (by decide) hw) ?_
    | with_reducible apply Same.whenIf
    | with_reducible apply Same.each
    | with_reducible apply Same.ite
    | split
    | (with_reducible apply Same.zeta); split

def State.calFailed_parts : Nat := 0x18a02
theorem State.calFailed_same {P : Part} {s0 : State} (s : State) (x : Nat) (hw : State.calFailed_parts.testBit P.ctorIdx =
    false) (h : Same P s0 s) :
    Same P s0 (State.calFailed s x) := by
  unfold State.calFailed
  repeat' first
    | with_reducible assumption
    | intro _
    | with_reducible refine State.count_same _ _ _ (Wr.sub (by decide) hw) ?_
    | with_reducible refine State.setFld_same _ _ _ _ (Wr.sub (by decide) hw) ?_
    | with_reducible refine State.retireSlice_same _ _ (Wr.sub (by decide) hw) ?_
    | with_reducible apply Same.whenIf
    | with_reducible apply Same.ite
    | fail_if_no_progress with_reducible refine Same.updSar (W := State.calFailed_parts) (by decide) hw ?_
    | split
    | (with_reducible apply Same.zeta); split

def State.startStep_parts : Nat := 0x8002
theorem State.startStep_same {P : Part} {s0 : State} (s : State) (hw : State.startStep_parts.testBit P.ctorIdx = false) (h
    : Same P s0 s) :
    Same P s0 (State.startStep s) := by
  unfold State.startStep
  repeat' first
    | with_reducible assumption
    | intro _
    | with_reducible refine State.setFld_same _ _ _ _ (Wr.sub (by decide) hw) ?_
    | with_reducible apply Same.ite
    | fail_if_no_progress with_reducible refine Same.updSar (W := State.startStep_parts) (by decide) hw ?_
    | split
    | (with_reducible apply Same.zeta); split

def State.exitDone_parts : Nat := 0x8002
theorem State.exitDone_same {P : Part} {s0 : State} (s : State) (hw : State.exitDone_parts.testBit P.ctorIdx = false) (h :
    Same P s0 s) :
    Same P s0 (State.exitDone s) := by
  unfold State.exitDone
  repeat' first
    | with_reducible assumption
    | intro _
    | with_reducible refine State.endStep_same _ (Wr.sub (by decide) hw) ?_
    | with_reducible refine State.startStep_same _ (Wr.sub (by decide) hw) ?_
    | with_reducible apply Same.whenIf
    | split
    | (with_reducible apply Same.zeta); split

def State.roundDone_parts : Nat := 0x8002
theorem State.roundDone_same {P : Part} {s0 : State} (s : State) (hw : State.roundDone_parts.testBit P.ctorIdx = false) (h
    : Same P s0 s) :
    Same P s0 (State.roundDone s) := by
  unfold State.roundDone
  repeat' first
    | with_reducible assumption
    | intro _
    | with_reducible refine State.setFld_same _ _ _ _ (Wr.sub (by decide) hw) ?_
    | with_reducible refine State.count_same _ _ _ (Wr.sub (by decide) hw) ?_
    | with_reducible refine State.startStep_same _ (Wr.sub (by decide) hw) ?_
    | with_reducible apply Same.whenIf
    | fail_if_no_progress with_reducible refine Same.updSar (W := State.roundDone_parts) (by decide) hw ?_
    | split
    | (with_reducible apply Same.zeta); split

def State.loseEntry_parts : Nat := 0x8a02
theorem State.loseEntry_same {P : Part} {s0 : State} (s : State) (hw : State.loseEntry_parts.testBit P.ctorIdx = false) (h
    : Same P s0 s) :
    Same P s0 (State.loseEntry s) := by
  unfold State.loseEntry
  repeat' first
    | with_reducible assumption
    | intro _
    | with_reducible refine State.setFld_same _ _ _ _ (Wr.sub (by decide) hw) ?_
    | with_reducible refine State.exitDone_same _ (Wr.sub (by decide) hw) ?_
    | with_reducible refine State.event_same _ _ _ _ _ (Wr.sub (by decide) hw) ?_
    | with_reducible refine State.setBit_same _ _ _ _ _ (Wr.sub (by decide) hw) ?_
    | with_reducible apply Same.whenIf
    | fail_if_no_progress with_reducible refine Same.updSar (W := State.loseEntry_parts) (by decide) hw ?_
    | split
    | (with_reducible apply Same.zeta); split

def State.loseExit_parts : Nat := 0x8002
theorem State.loseExit_same {P : Part} {s0 : State} (s : State) (hw : State.loseExit_parts.testBit P.ctorIdx = false) (h :
    Same P s0 s) :
    Same P s0 (State.loseExit s) := by
  unfold State.loseExit
  repeat' first
    | with_reducible assumption
    | intro _
    | with_reducible refine State.setFld_same _ _ _ _ (Wr.sub (by decide) hw) ?_
    | fail_if_no_progress with_reducible refine Same.updSar (W := State.loseExit_parts) (by decide) hw ?_
    | split
    | (with_reducible apply Same.zeta); split

def execBackgroundStepStart_parts : Nat := 0x8002
theorem execBackgroundStepStart_same {P : Part} {s0 : State} (s : State) (hw : execBackgroundStepStart_parts.testBit
    P.ctorIdx = false) (h : Same P s0 s) :
    SameOut P s0 (execBackgroundStepStart s) := by
  unfold execBackgroundStepStart
  repeat' first
    | with_reducible assumption
    | with_reducible apply SameOut.next
    | with_reducible apply SameOut.ite
    | intro _
    | with_reducible refine State.startStep_same _ (Wr.sub (by decide) hw) ?_
    | with_reducible refine State.setFld_same _ _ _ _ (Wr.sub (by decide) hw) ?_
    | with_reducible apply Same.whenIf
    | with_reducible apply Same.ite
    | fail_if_no_progress with_reducible refine Same.updSar (W := execBackgroundStepStart_parts) (by decide) hw ?_
    | split
    | dsimp only; split

def State.openPair_parts : Nat := 0x8002
theorem State.openPair_same {P : Part} {s0 : State} (s : State) (phase : Nat) (hw : State.openPair_parts.testBit P.ctorIdx
    = false) (h : Same P s0 s) :
    Same P s0 (State.openPair s phase) := by
  unfold State.openPair
  repeat' first
    | with_reducible assumption
    | intro _
    | with_reducible refine State.setFld_same _ _ _ _ (Wr.sub (by decide) hw) ?_
    | fail_if_no_progress with_reducible refine Same.updSar (W := State.openPair_parts) (by decide) hw ?_
    | split
    | (with_reducible apply Same.zeta); split

def execSubstEntryOpportunity_parts : Nat := 0x8a02
theorem execSubstEntryOpportunity_same {P : Part} {s0 : State} (s : State) (hw : execSubstEntryOpportunity_parts.testBit
    P.ctorIdx = false) (h : Same P s0 s) :
    SameOut P s0 (execSubstEntryOpportunity s) := by
  unfold execSubstEntryOpportunity
  repeat' first
    | with_reducible assumption
    | with_reducible apply SameOut.next
    | with_reducible apply SameOut.ite
    | intro _
    | with_reducible refine State.setFld_same _ _ _ _ (Wr.sub (by decide) hw) ?_
    | with_reducible refine State.openPair_same _ _ (Wr.sub (by decide) hw) ?_
    | with_reducible refine State.loseEntry_same _ (Wr.sub (by decide) hw) ?_
    | with_reducible apply Same.ite
    | split
    | dsimp only; split

def execSubstExitOpportunity_parts : Nat := 0x8002
theorem execSubstExitOpportunity_same {P : Part} {s0 : State} (s : State) (hw : execSubstExitOpportunity_parts.testBit
    P.ctorIdx = false) (h : Same P s0 s) :
    SameOut P s0 (execSubstExitOpportunity s) := by
  unfold execSubstExitOpportunity
  repeat' first
    | with_reducible assumption
    | with_reducible apply SameOut.next
    | with_reducible apply SameOut.ite
    | intro _
    | with_reducible refine State.exitDone_same _ (Wr.sub (by decide) hw) ?_
    | with_reducible refine State.openPair_same _ _ (Wr.sub (by decide) hw) ?_
    | with_reducible apply Same.ite
    | split
    | dsimp only; split

def execSliceCalComplete_parts : Nat := 0x18a02
theorem execSliceCalComplete_same {P : Part} {s0 : State} (slice : Nat) (ofs : Int) (gain : Int) (residualOk : Bool) (s :
    State) (hw : execSliceCalComplete_parts.testBit P.ctorIdx = false) (h : Same P s0 s) :
    SameOut P s0 (execSliceCalComplete slice ofs gain residualOk s) := by
  unfold execSliceCalComplete
  repeat' first
    | with_reducible assumption
    | with_reducible apply SameOut.next
    | with_reducible apply SameOut.ite
    | intro _
    | with_reducible refine State.setFld_same _ _ _ _ (Wr.sub (by decide) hw) ?_
    | with_reducible refine State.roundDone_same _ (Wr.sub (by decide) hw) ?_
    | with_reducible refine State.calFailed_same _ _ (Wr.sub (by decide) hw) ?_
    | with_reducible apply Same.whenIf
    | with_reducible apply Same.ite
    | fail_if_no_progress with_reducible refine Same.updSar (W := execSliceCalComplete_parts) (by decide) hw ?_
    | split
    | dsimp only; split

def State.startFgCal_parts : Nat := 0x8002
theorem State.startFgCal_same {P : Part} {s0 : State} (s : State) (hw : State.startFgCal_parts.testBit P.ctorIdx = false)
    (h : Same P s0 s) :
    Same P s0 (State.startFgCal s) := by
  unfold State.startFgCal
  repeat' first
    | with_reducible assumption
    | intro _
    | with_reducible refine State.setFld_same _ _ _ _ (Wr.sub (by decide) hw) ?_
    | fail_if_no_progress with_reducible refine Same.updSar (W := State.startFgCal_parts) (by decide) hw ?_
    | split
    | (with_reducible apply Same.zeta); split

def execRefReadySet_parts : Nat := 0x8002
theorem execRefReadySet_same {P : Part} {s0 : State} (s : State) (hw : execRefReadySet_parts.testBit P.ctorIdx = false) (h
    : Same P s0 s) :
    SameOut P s0 (execRefReadySet s) := by
  unfold execRefReadySet
  repeat' first
    | with_reducible assumption
    | with_reducible apply SameOut.next
    | with_reducible apply SameOut.ite
    | intro _
    | with_reducible refine State.setFld_same _ _ _ _ (Wr.sub (by decide) hw) ?_
    | with_reducible refine State.startFgCal_same _ (Wr.sub (by decide) hw) ?_
    | with_reducible apply Same.whenIf
    | with_reducible apply Same.ite
    | split
    | dsimp only; split

def execForegroundCalComplete_parts : Nat := 0x8002
theorem execForegroundCalComplete_same {P : Part} {s0 : State} (s : State) (hw : execForegroundCalComplete_parts.testBit
    P.ctorIdx = false) (h : Same P s0 s) :
    SameOut P s0 (execForegroundCalComplete s) := by
  unfold execForegroundCalComplete
  repeat' first
    | with_reducible assumption
    | with_reducible apply SameOut.next
    | with_reducible apply SameOut.ite
    | intro _
    | with_reducible refine State.setFld_same _ _ _ _ (Wr.sub (by decide) hw) ?_
    | with_reducible refine State.nextConv_same _ _ (Wr.sub (by decide) hw) ?_
    | with_reducible apply Same.whenIf
    | with_reducible apply Same.each
    | with_reducible apply Same.ite
    | fail_if_no_progress with_reducible refine Same.updSar (W := execForegroundCalComplete_parts) (by decide) hw ?_
    | split
    | dsimp only; split

def State.reverseSwap_parts : Nat := 0x8a02
theorem State.reverseSwap_same {P : Part} {s0 : State} (s : State) (hw : State.reverseSwap_parts.testBit P.ctorIdx = false)
    (h : Same P s0 s) :
    Same P s0 (State.reverseSwap s) := by
  unfold State.reverseSwap
  repeat' first
    | with_reducible assumption
    | intro _
    | with_reducible refine State.loseEntry_same _ (Wr.sub (by decide) hw) ?_
    | with_reducible refine State.loseExit_same _ (Wr.sub (by decide) hw) ?_
    | with_reducible apply Same.whenIf
    | with_reducible apply Same.ite
    | split
    | (with_reducible apply Same.zeta); split

def execVrefpOutOfRange_parts : Nat := 0x8a02
theorem execVrefpOutOfRange_same {P : Part} {s0 : State} (s : State) (hw : execVrefpOutOfRange_parts.testBit P.ctorIdx =
    false) (h : Same P s0 s) :
    SameOut P s0 (execVrefpOutOfRange s) := by
  unfold execVrefpOutOfRange
  repeat' first
    | with_reducible assumption
    | with_reducible apply SameOut.next
    | with_reducible apply SameOut.ite
    | intro _
    | with_reducible refine State.reverseSwap_same _ (Wr.sub (by decide) hw) ?_
    | with_reducible refine State.setFld_same _ _ _ _ (Wr.sub (by decide) hw) ?_
    | with_reducible apply Same.ite
    | split
    | dsimp only; split

def State.inject_parts : Nat := 0x8a02
theorem State.inject_same {P : Part} {s0 : State} (s : State) (k : Nat) (input : Nat) (ext : Nat) (hw :
    State.inject_parts.testBit P.ctorIdx = false) (h : Same P s0 s) :
    Same P s0 (State.inject s k input ext) := by
  unfold State.inject
  repeat' first
    | with_reducible assumption
    | intro _
    | with_reducible refine State.event_same _ _ _ _ _ (Wr.sub (by decide) hw) ?_
    | with_reducible refine State.setFld_same _ _ _ _ (Wr.sub (by decide) hw) ?_
    | with_reducible refine State.modSlot_same _ _ _ (Wr.sub (by decide) hw) ?_
    | with_reducible refine State.nextConv_same _ _ (Wr.sub (by decide) hw) ?_
    | with_reducible apply Same.whenIf
    | with_reducible apply Same.ite
    | fail_if_no_progress with_reducible refine Same.updSar (W := State.inject_parts) (by decide) hw ?_
    | split
    | (with_reducible apply Same.zeta); split

def execSarInjWrite_parts : Nat := 0x8b02
theorem execSarInjWrite_same {P : Part} {s0 : State} (core : Nat) (k : Nat) (input : Nat) (ext : Nat) (s : State) (hw :
    execSarInjWrite_parts.testBit P.ctorIdx = false) (h : Same P s0 s) :
    SameOut P s0 (execSarInjWrite core k input ext s) := by
  unfold execSarInjWrite
  repeat' first
    | with_reducible assumption
    | with_reducible apply SameOut.next
    | with_reducible apply SameOut.ite
    | intro _
    | with_reducible refine State.accessBlk_same _ _ _ _ _ (Wr.sub (by decide) hw) ?_ ?_
    | with_reducible refine State.inject_same _ _ _ _ (Wr.sub (by decide) hw) ?_
    | with_reducible apply Same.ite
    | split
    | dsimp only; split

def State.pairStep_parts : Nat := 0x18a02
theorem State.pairStep_same {P : Part} {s0 : State} (s : State) (own : Nat) (subst : Nat) (hw :
    State.pairStep_parts.testBit P.ctorIdx = false) (h : Same P s0 s) :
    Same P s0 (State.pairStep s own subst) := by
  unfold State.pairStep
  repeat' first
    | with_reducible assumption
    | intro _
    | with_reducible refine State.loseEntry_same _ (Wr.sub (by decide) hw) ?_
    | with_reducible refine State.setFld_same _ _ _ _ (Wr.sub (by decide) hw) ?_
    | with_reducible refine State.loseExit_same _ (Wr.sub (by decide) hw) ?_
    | with_reducible refine State.calFailed_same _ _ (Wr.sub (by decide) hw) ?_
    | with_reducible refine State.exitDone_same _ (Wr.sub (by decide) hw) ?_
    | with_reducible apply Same.whenIf
    | with_reducible apply Same.ite
    | fail_if_no_progress with_reducible refine Same.updSar (W := State.pairStep_parts) (by decide) hw ?_
    | split
    | (with_reducible apply Same.zeta); split

def State.judgePair_parts : Nat := 0x8a02
theorem State.judgePair_same {P : Part} {s0 : State} (s : State) (k : Nat) (hold : Nat) (hw : State.judgePair_parts.testBit
    P.ctorIdx = false) (h : Same P s0 s) :
    Same P s0 (State.judgePair s k hold) := by
  unfold State.judgePair
  repeat' first
    | with_reducible assumption
    | intro _
    | with_reducible refine State.loseEntry_same _ (Wr.sub (by decide) hw) ?_
    | with_reducible refine State.loseExit_same _ (Wr.sub (by decide) hw) ?_
    | with_reducible apply Same.whenIf
    | with_reducible apply Same.ite
    | split
    | (with_reducible apply Same.zeta); split

def State.sarResult_parts : Nat := 0x8
theorem State.sarResult_same {P : Part} {s0 : State} (s : State) (vin : Int) (vref : Nat) (hw :
    State.sarResult_parts.testBit P.ctorIdx = false) (h : Same P s0 s) :
    Same P s0 (State.sarResult s vin vref).2 := by
  unfold State.sarResult
  repeat' first
    | with_reducible assumption
    | intro _
    | with_reducible refine State.roundFree_same _ _ _ (Wr.sub (by decide) hw) ?_
    | (with_reducible refine Same.snd ?_ (by assumption)); with_reducible refine State.roundFree_same _ _ _ (Wr.sub (by decide) hw) ?_
    | with_reducible apply Same.ite
    | with_reducible apply Same.iteSnd
    | dsimp only
    | split
    | (with_reducible apply Same.zeta); split

def State.convert_parts : Nat := 0x1419f42
theorem State.convert_same {P : Part} {s0 : State} (s : State) (k : Nat) (own : Nat) (subst : Nat) (hold : Nat) (c :
    SarConv) (hw : State.convert_parts.testBit P.ctorIdx = false) (h : Same P s0 s) :
    Same P s0 (State.convert s k own subst hold c) := by
  unfold State.convert
  repeat' first
    | with_reducible assumption
    | intro _
    | with_reducible refine State.modSlot_same _ _ _ (Wr.sub (by decide) hw) ?_
    | with_reducible refine State.count_same _ _ _ (Wr.sub (by decide) hw) ?_
    | with_reducible refine State.setFld_same _ _ _ _ (Wr.sub (by decide) hw) ?_
    | with_reducible refine State.pairStep_same _ _ _ (Wr.sub (by decide) hw) ?_
    | with_reducible refine State.nextConv_same _ _ (Wr.sub (by decide) hw) ?_
    | with_reducible refine State.offer_same _ _ _ (Wr.sub (by decide) hw) ?_
    | with_reducible apply Same.whenIf
    | with_reducible apply Same.foldl
    | with_reducible apply Same.ite
    | fail_if_no_progress with_reducible refine Same.updSar (W := State.convert_parts) (by decide) hw ?_
    | split
    | (with_reducible apply Same.zeta); split

def execSarConversionComplete_parts : Nat := 0x1419f4a
theorem execSarConversionComplete_same {P : Part} {s0 : State} (k : Nat) (own : Int) (subst : Int) (hold : SarHold) (s :
    State) (hw : execSarConversionComplete_parts.testBit P.ctorIdx = false) (h : Same P s0 s) :
    SameOut P s0 (execSarConversionComplete k own subst hold s) := by
  unfold execSarConversionComplete
  repeat' first
    | with_reducible assumption
    | with_reducible apply SameOut.next
    | intro _
    | with_reducible refine State.sarResult_same _ _ _ (Wr.sub (by decide) hw) ?_
    | (with_reducible refine Same.snd ?_ (by assumption)); with_reducible refine State.sarResult_same _ _ _ (Wr.sub (by decide) hw) ?_
    | with_reducible refine State.convert_same _ _ _ _ _ _ (Wr.sub (by decide) hw) ?_
    | with_reducible refine State.judgePair_same _ _ _ (Wr.sub (by decide) hw) ?_
    | split
    | dsimp only; split

def State.sarLeave_parts : Nat := 0x8a02
theorem State.sarLeave_same {P : Part} {s0 : State} (s : State) (hw : State.sarLeave_parts.testBit P.ctorIdx = false) (h :
    Same P s0 s) :
    Same P s0 (State.sarLeave s) := by
  unfold State.sarLeave
  repeat' first
    | with_reducible assumption
    | intro _
    | with_reducible refine State.modSlot_same _ _ _ (Wr.sub (by decide) hw) ?_
    | with_reducible refine State.setFld_same _ _ _ _ (Wr.sub (by decide) hw) ?_
    | with_reducible refine State.event_same _ _ _ _ _ (Wr.sub (by decide) hw) ?_
    | with_reducible refine State.abandonStep_same _ (Wr.sub (by decide) hw) ?_
    | with_reducible apply Same.whenIf
    | with_reducible apply Same.each
    | fail_if_no_progress with_reducible refine Same.updSar (W := State.sarLeave_parts) (by decide) hw ?_
    | split
    | (with_reducible apply Same.zeta); split

def State.sarApplied_parts : Nat := 0x8002
theorem State.sarApplied_same {P : Part} {s0 : State} (s : State) (oldSel : Nat) (hw : State.sarApplied_parts.testBit
    P.ctorIdx = false) (h : Same P s0 s) :
    Same P s0 (State.sarApplied s oldSel) := by
  unfold State.sarApplied
  repeat' first
    | with_reducible assumption
    | intro _
    | with_reducible refine State.setFld_same _ _ _ _ (Wr.sub (by decide) hw) ?_
    | with_reducible refine State.startFgCal_same _ (Wr.sub (by decide) hw) ?_
    | with_reducible apply Same.whenIf
    | fail_if_no_progress with_reducible refine Same.updSar (W := State.sarApplied_parts) (by decide) hw ?_
    | split
    | (with_reducible apply Same.zeta); split

end Sys2Proof.Machine
end

