-- ==== Sys2Proof/Laws/SamePads.lean ====
section
/-!
SUPPORT. Which parts of State the operations of Machine/Pads.lean can change (Laws/Same.lean), as bits by the part's number, and that
they leave every other as it was.
-/
namespace Sys2Proof.Machine

set_option linter.unusedTactic false
set_option linter.unreachableTactic false

def State.edgeRecord_parts : Nat := 0x1411f42
theorem State.edgeRecord_same {P : Part} {s0 : State} (s : State) (m : Nat) (kind : Nat) (inst : Nat) (tripf : Bool) (carry
    : Bool) (hw : State.edgeRecord_parts.testBit P.ctorIdx = false) (h : Same P s0 s) :
    Same P s0 (State.edgeRecord s m kind inst tripf carry) := by
  unfold State.edgeRecord
  repeat' first
    | with_reducible assumption
    | intro _
    | with_reducible refine State.offer_same _ _ _ (Wr.sub (by decide) hw) ?_
    | with_reducible apply Same.whenIf
    | split
    | (with_reducible apply Same.zeta); split

def State.setSide_parts : Nat := 0x1711f42
theorem State.setSide_same {P : Part} {s0 : State} (s : State) (m : Nat) (low : Bool) (lvl : Bool) (inst : Nat) (tripf :
    Bool) (carry : Bool) (hw : State.setSide_parts.testBit P.ctorIdx = false) (h : Same P s0 s) :
    Same P s0 (State.setSide s m low lvl inst tripf carry) := by
  unfold State.setSide
  repeat' first
    | with_reducible assumption
    | intro _
    | with_reducible refine State.modPm_same _ _ _ (Wr.sub (by decide) hw) ?_
    | with_reducible refine State.edgeRecord_same _ _ _ _ _ _ (Wr.sub (by decide) hw) ?_
    | with_reducible apply Same.whenIf
    | with_reducible apply Same.ite
    | fail_if_no_progress with_reducible refine Same.updGate (W := State.setSide_parts) (by decide) hw ?_
    | split
    | (with_reducible apply Same.zeta); split

def State.startLeb_parts : Nat := 0x80000
theorem State.startLeb_same {P : Part} {s0 : State} (s : State) (m : Nat) (low : Bool) (hw : State.startLeb_parts.testBit
    P.ctorIdx = false) (h : Same P s0 s) :
    Same P s0 (State.startLeb s m low) := by
  unfold State.startLeb
  repeat' first
    | with_reducible assumption
    | intro _
    | with_reducible apply Same.ite
    | fail_if_no_progress with_reducible refine Same.updTrip (W := State.startLeb_parts) (by decide) hw ?_
    | split
    | (with_reducible apply Same.zeta); split

def State.setCmd_parts : Nat := 0x1791f42
theorem State.setCmd_same {P : Part} {s0 : State} (s : State) (m : Nat) (low : Bool) (lvl : Bool) (inst : Nat) (carry :
    Bool) (hw : State.setCmd_parts.testBit P.ctorIdx = false) (h : Same P s0 s) :
    Same P s0 (State.setCmd s m low lvl inst carry) := by
  unfold State.setCmd
  repeat' first
    | with_reducible assumption
    | intro _
    | with_reducible refine State.modPm_same _ _ _ (Wr.sub (by decide) hw) ?_
    | with_reducible refine State.startLeb_same _ _ _ (Wr.sub (by decide) hw) ?_
    | with_reducible refine State.setSide_same _ _ _ _ _ _ _ (Wr.sub (by decide) hw) ?_
    | with_reducible apply Same.whenIf
    | with_reducible apply Same.ite
    | split
    | (with_reducible apply Same.zeta); split

def State.setCarry_parts : Nat := 0x2
theorem State.setCarry_same {P : Part} {s0 : State} (s : State) (m : Nat) (c : Int) (hw : State.setCarry_parts.testBit
    P.ctorIdx = false) (h : Same P s0 s) :
    Same P s0 (State.setCarry s m c) := by
  unfold State.setCarry
  repeat' first
    | with_reducible assumption
    | intro _
    | with_reducible refine State.setFld_same _ _ _ _ (Wr.sub (by decide) hw) ?_
    | with_reducible apply Same.whenIf
    | split
    | (with_reducible apply Same.zeta); split

def State.leaveFollow_parts : Nat := 0x100002
theorem State.leaveFollow_same {P : Part} {s0 : State} (s : State) (m : Nat) (mode : PadMode) (hw :
    State.leaveFollow_parts.testBit P.ctorIdx = false) (h : Same P s0 s) :
    Same P s0 (State.leaveFollow s m mode) := by
  unfold State.leaveFollow
  repeat' first
    | with_reducible assumption
    | intro _
    | with_reducible refine State.modPm_same _ _ _ (Wr.sub (by decide) hw) ?_
    | with_reducible refine State.setFld_same _ _ _ _ (Wr.sub (by decide) hw) ?_
    | with_reducible apply Same.ite
    | split
    | (with_reducible apply Same.zeta); split

def State.padsOff_parts : Nat := 0x1711f42
theorem State.padsOff_same {P : Part} {s0 : State} (s : State) (m : Nat) (mode : PadMode) (tripf : Bool) (hw :
    State.padsOff_parts.testBit P.ctorIdx = false) (h : Same P s0 s) :
    Same P s0 (State.padsOff s m mode tripf) := by
  unfold State.padsOff
  repeat' first
    | with_reducible assumption
    | intro _
    | with_reducible refine State.leaveFollow_same _ _ _ (Wr.sub (by decide) hw) ?_
    | with_reducible refine State.setSide_same _ _ _ _ _ _ _ (Wr.sub (by decide) hw) ?_
    | split
    | (with_reducible apply Same.zeta); split

def State.stage1_parts : Nat := 0x1711f42
theorem State.stage1_same {P : Part} {s0 : State} (s : State) (k : Nat) (m : Nat) (tripf : Bool) (hw :
    State.stage1_parts.testBit P.ctorIdx = false) (h : Same P s0 s) :
    Same P s0 (State.stage1 s k m tripf) := by
  unfold State.stage1
  repeat' first
    | with_reducible assumption
    | intro _
    | with_reducible refine State.leaveFollow_same _ _ _ (Wr.sub (by decide) hw) ?_
    | with_reducible refine State.setSide_same _ _ _ _ _ _ _ (Wr.sub (by decide) hw) ?_
    | with_reducible apply Same.ite
    | split
    | (with_reducible apply Same.zeta); split

def State.legOff_parts : Nat := 0x1711f42
theorem State.legOff_same {P : Part} {s0 : State} (s : State) (k : Nat) (tripf : Bool) (hw : State.legOff_parts.testBit
    P.ctorIdx = false) (h : Same P s0 s) :
    Same P s0 (State.legOff s k tripf) := by
  unfold State.legOff
  repeat' first
    | with_reducible assumption
    | intro _
    | with_reducible refine State.stage1_same _ _ _ _ (Wr.sub (by decide) hw) ?_
    | with_reducible apply Same.each
    | with_reducible apply Same.ite
    | fail_if_no_progress with_reducible refine Same.updGate (W := State.legOff_parts) (by decide) hw ?_
    | split
    | (with_reducible apply Same.zeta); split

def State.putDown_parts : Nat := 0x1711f42
theorem State.putDown_same {P : Part} {s0 : State} (s : State) (m : Nat) (mode : PadMode) (tripf : Bool) (hw :
    State.putDown_parts.testBit P.ctorIdx = false) (h : Same P s0 s) :
    Same P s0 (State.putDown s m mode tripf) := by
  unfold State.putDown
  repeat' first
    | with_reducible assumption
    | intro _
    | with_reducible refine State.padsOff_same _ _ _ _ (Wr.sub (by decide) hw) ?_
    | with_reducible refine State.legOff_same _ _ _ (Wr.sub (by decide) hw) ?_
    | with_reducible apply Same.ite
    | split
    | (with_reducible apply Same.zeta); split

def State.settlePads_parts : Nat := 0x1711f42
theorem State.settlePads_same {P : Part} {s0 : State} (s : State) (hw : State.settlePads_parts.testBit P.ctorIdx = false)
    (h : Same P s0 s) :
    Same P s0 (State.settlePads s) := by
  unfold State.settlePads
  repeat' first
    | with_reducible assumption
    | intro _
    | with_reducible refine State.putDown_same _ _ _ _ (Wr.sub (by decide) hw) ?_
    | with_reducible apply Same.each
    | with_reducible apply Same.ite
    | split
    | (with_reducible apply Same.zeta); split

def State.clearOuten_parts : Nat := 0x1711f42
theorem State.clearOuten_same {P : Part} {s0 : State} (s : State) (m : Nat) (hw : State.clearOuten_parts.testBit P.ctorIdx
    = false) (h : Same P s0 s) :
    Same P s0 (State.clearOuten s m) := by
  unfold State.clearOuten
  repeat' first
    | with_reducible assumption
    | intro _
    | with_reducible refine State.setFld_same _ _ _ _ (Wr.sub (by decide) hw) ?_
    | with_reducible refine State.putDown_same _ _ _ _ (Wr.sub (by decide) hw) ?_
    | with_reducible apply Same.whenIf
    | split
    | (with_reducible apply Same.zeta); split

def State.setOuten_parts : Nat := 0x2
theorem State.setOuten_same {P : Part} {s0 : State} (s : State) (m : Nat) (hw : State.setOuten_parts.testBit P.ctorIdx =
    false) (h : Same P s0 s) :
    Same P s0 (State.setOuten s m) := by
  unfold State.setOuten
  repeat' first
    | with_reducible assumption
    | intro _
    | with_reducible refine State.setFld_same _ _ _ _ (Wr.sub (by decide) hw) ?_
    | split
    | (with_reducible apply Same.zeta); split

def State.stopCounter_parts : Nat := 0x1711f42
theorem State.stopCounter_same {P : Part} {s0 : State} (s : State) (m : Nat) (hw : State.stopCounter_parts.testBit
    P.ctorIdx = false) (h : Same P s0 s) :
    Same P s0 (State.stopCounter s m) := by
  unfold State.stopCounter
  repeat' first
    | with_reducible assumption
    | intro _
    | with_reducible refine State.setFld_same _ _ _ _ (Wr.sub (by decide) hw) ?_
    | with_reducible refine State.clearOuten_same _ _ (Wr.sub (by decide) hw) ?_
    | split
    | (with_reducible apply Same.zeta); split

def State.loadCount_parts : Nat := 0x2
theorem State.loadCount_same {P : Part} {s0 : State} (s : State) (m : Nat) (later : Nat) (hw :
    State.loadCount_parts.testBit P.ctorIdx = false) (h : Same P s0 s) :
    Same P s0 (State.loadCount s m later) := by
  unfold State.loadCount
  repeat' first
    | with_reducible assumption
    | intro _
    | with_reducible refine State.setFlag_same _ _ _ _ (Wr.sub (by decide) hw) ?_
    | with_reducible refine State.setFld_same _ _ _ _ (Wr.sub (by decide) hw) ?_
    | split
    | (with_reducible apply Same.zeta); split

def State.headRestart_parts : Nat := 0x400000
theorem State.headRestart_same {P : Part} {s0 : State} (s : State) (m : Nat) (hw : State.headRestart_parts.testBit
    P.ctorIdx = false) (h : Same P s0 s) :
    Same P s0 (State.headRestart s m) := by
  unfold State.headRestart
  repeat' first
    | with_reducible assumption
    | intro _
    | with_reducible apply Same.whenIf
    | fail_if_no_progress with_reducible refine Same.updEng (W := State.headRestart_parts) (by decide) hw ?_
    | split
    | (with_reducible apply Same.zeta); split

def State.startCounter_parts : Nat := 0x500002
theorem State.startCounter_same {P : Part} {s0 : State} (s : State) (m : Nat) (hw : State.startCounter_parts.testBit
    P.ctorIdx = false) (h : Same P s0 s) :
    Same P s0 (State.startCounter s m) := by
  unfold State.startCounter
  repeat' first
    | with_reducible assumption
    | intro _
    | with_reducible refine State.setFld_same _ _ _ _ (Wr.sub (by decide) hw) ?_
    | with_reducible refine State.loadCount_same _ _ _ (Wr.sub (by decide) hw) ?_
    | with_reducible refine State.headRestart_same _ _ (Wr.sub (by decide) hw) ?_
    | with_reducible refine State.modPm_same _ _ _ (Wr.sub (by decide) hw) ?_
    | with_reducible apply Same.ite
    | fail_if_no_progress with_reducible refine Same.updPwm (W := State.startCounter_parts) (by decide) hw ?_
    | split
    | (with_reducible apply Same.zeta); split

def State.gateEvent_parts : Nat := 0xa02
theorem State.gateEvent_same {P : Part} {s0 : State} (s : State) (code : Nat) (entry : Nat) (mask : Nat) (tsReport : Nat)
    (tsFirst : Nat) (hw : State.gateEvent_parts.testBit P.ctorIdx = false) (h : Same P s0 s) :
    Same P s0 (State.gateEvent s code entry mask tsReport tsFirst) := by
  unfold State.gateEvent
  repeat' first
    | with_reducible assumption
    | intro _
    | with_reducible refine State.emit_same _ _ _ (Wr.sub (by decide) hw) ?_
    | split
    | (with_reducible apply Same.zeta); split

def State.gateNow_parts : Nat := 0xa02
theorem State.gateNow_same {P : Part} {s0 : State} (s : State) (code : Nat) (entry : Nat) (mask : Nat) (hw :
    State.gateNow_parts.testBit P.ctorIdx = false) (h : Same P s0 s) :
    Same P s0 (State.gateNow s code entry mask) := by
  unfold State.gateNow
  repeat' first
    | with_reducible assumption
    | intro _
    | with_reducible refine State.gateEvent_same _ _ _ _ _ _ (Wr.sub (by decide) hw) ?_
    | split
    | (with_reducible apply Same.zeta); split

def State.runHeld_parts : Nat := 0x500a02
theorem State.runHeld_same {P : Part} {s0 : State} (s : State) (e : Nat × Bool) (hw : State.runHeld_parts.testBit P.ctorIdx
    = false) (h : Same P s0 s) :
    Same P s0 (State.runHeld s e) := by
  unfold State.runHeld
  repeat' first
    | with_reducible assumption
    | intro _
    | with_reducible refine State.gateNow_same _ _ _ _ (Wr.sub (by decide) hw) ?_
    | with_reducible refine State.setOuten_same _ _ (Wr.sub (by decide) hw) ?_
    | with_reducible refine State.startCounter_same _ _ (Wr.sub (by decide) hw) ?_
    | with_reducible apply Same.ite
    | split
    | (with_reducible apply Same.zeta); split

def State.shutDone_parts : Nat := 0x1711f42
theorem State.shutDone_same {P : Part} {s0 : State} (s : State) (ms : List Nat) (hw : State.shutDone_parts.testBit
    P.ctorIdx = false) (h : Same P s0 s) :
    Same P s0 (State.shutDone s ms) := by
  unfold State.shutDone
  repeat' first
    | with_reducible assumption
    | intro _
    | with_reducible refine State.setBit_same _ _ _ _ _ (Wr.sub (by decide) hw) ?_
    | with_reducible refine State.stopCounter_same _ _ (Wr.sub (by decide) hw) ?_
    | with_reducible refine State.runHeld_same _ _ (Wr.sub (by decide) hw) ?_
    | with_reducible apply Same.whenIf
    | with_reducible apply Same.each
    | fail_if_no_progress with_reducible refine Same.updGate (W := State.shutDone_parts) (by decide) hw ?_
    | split
    | (with_reducible apply Same.zeta); split

def State.shutdown_parts : Nat := 0x1711f42
theorem State.shutdown_same {P : Part} {s0 : State} (s : State) (targets : Nat) (stop : Bool) (hw :
    State.shutdown_parts.testBit P.ctorIdx = false) (h : Same P s0 s) :
    Same P s0 (State.shutdown s targets stop) := by
  unfold State.shutdown
  repeat' first
    | with_reducible assumption
    | intro _
    | with_reducible refine State.clearOuten_same _ _ (Wr.sub (by decide) hw) ?_
    | with_reducible refine State.setBit_same _ _ _ _ _ (Wr.sub (by decide) hw) ?_
    | with_reducible refine State.shutDone_same _ _ (Wr.sub (by decide) hw) ?_
    | with_reducible apply Same.whenIf
    | with_reducible apply Same.each
    | with_reducible apply Same.foldl
    | fail_if_no_progress with_reducible refine Same.updGate (W := State.shutdown_parts) (by decide) hw ?_
    | split
    | (with_reducible apply Same.zeta); split

def State.runEntry_parts : Nat := 0x1711f42
theorem State.runEntry_same {P : Part} {s0 : State} (s : State) (i : Nat) (affected : Nat) (hw :
    State.runEntry_parts.testBit P.ctorIdx = false) (h : Same P s0 s) :
    Same P s0 (State.runEntry s i affected) := by
  unfold State.runEntry
  repeat' first
    | with_reducible assumption
    | intro _
    | with_reducible refine State.setBit_same _ _ _ _ _ (Wr.sub (by decide) hw) ?_
    | with_reducible refine State.gateNow_same _ _ _ _ (Wr.sub (by decide) hw) ?_
    | with_reducible refine State.setFld_same _ _ _ _ (Wr.sub (by decide) hw) ?_
    | with_reducible refine State.raise_same _ _ _ (Wr.sub (by decide) hw) ?_
    | with_reducible refine State.shutdown_same _ _ _ (Wr.sub (by decide) hw) ?_
    | with_reducible apply Same.whenIf
    | with_reducible apply Same.each
    | with_reducible apply Same.ite
    | split
    | (with_reducible apply Same.zeta); split

def State.gapEnd_parts : Nat := 0x1711f42
theorem State.gapEnd_same {P : Part} {s0 : State} (s : State) (k : Nat) (hw : State.gapEnd_parts.testBit P.ctorIdx = false)
    (h : Same P s0 s) :
    Same P s0 (State.gapEnd s k) := by
  unfold State.gapEnd
  repeat' first
    | with_reducible assumption
    | intro _
    | with_reducible refine State.padsOff_same _ _ _ _ (Wr.sub (by decide) hw) ?_
    | with_reducible refine State.shutDone_same _ _ (Wr.sub (by decide) hw) ?_
    | with_reducible apply Same.each
    | with_reducible apply Same.ite
    | fail_if_no_progress with_reducible refine Same.updGate (W := State.gapEnd_parts) (by decide) hw ?_
    | split
    | (with_reducible apply Same.zeta); split

def State.seqFallback_parts : Nat := 0x200002
theorem State.seqFallback_same {P : Part} {s0 : State} (s : State) (hw : State.seqFallback_parts.testBit P.ctorIdx = false)
    (h : Same P s0 s) :
    Same P s0 (State.seqFallback s) := by
  unfold State.seqFallback
  repeat' first
    | with_reducible assumption
    | intro _
    | with_reducible refine State.setFld_same _ _ _ _ (Wr.sub (by decide) hw) ?_
    | with_reducible apply Same.whenIf
    | fail_if_no_progress with_reducible refine Same.updGate (W := State.seqFallback_parts) (by decide) hw ?_
    | split
    | (with_reducible apply Same.zeta); split

def State.settleTrips_parts : Nat := 0x1791f42
theorem State.settleTrips_same {P : Part} {s0 : State} (s : State) (hw : State.settleTrips_parts.testBit P.ctorIdx = false)
    (h : Same P s0 s) :
    Same P s0 (State.settleTrips s) := by
  unfold State.settleTrips
  repeat' first
    | with_reducible assumption
    | intro _
    | with_reducible refine State.setFld_same _ _ _ _ (Wr.sub (by decide) hw) ?_
    | with_reducible refine State.setFlag_same _ _ _ _ (Wr.sub (by decide) hw) ?_
    | with_reducible refine State.settlePads_same _ (Wr.sub (by decide) hw) ?_
    | with_reducible apply Same.whenIf
    | with_reducible apply Same.each
    | with_reducible apply Same.foldl
    | fail_if_no_progress with_reducible refine Same.updTrip (W := State.settleTrips_parts) (by decide) hw ?_
    | split
    | (with_reducible apply Same.zeta); split

end Sys2Proof.Machine
end

