-- ==== Sys2Proof/Laws/SameComparator.lean ====
section
/-!
SUPPORT. Which parts of State the operations of Machine/Comparator.lean can change (Laws/Same.lean), as bits by the part's number, and that
they leave every other as it was.
-/
namespace Sys2Proof.Machine

set_option linter.unusedTactic false
set_option linter.unreachableTactic false

def State.modWc_parts : Nat := 0x80000
theorem State.modWc_same {P : Part} {s0 : State} (s : State) (c : Nat) (f : CompChan → CompChan) (hw :
    State.modWc_parts.testBit P.ctorIdx = false) (h : Same P s0 s) :
    Same P s0 (State.modWc s c f) := by
  unfold State.modWc
  repeat' first
    | with_reducible assumption
    | intro _
    | fail_if_no_progress with_reducible refine Same.updTrip (W := State.modWc_parts) (by decide) hw ?_
    | split
    | (with_reducible apply Same.zeta); split

def State.latchIfTripping_parts : Nat := 0x1791f42
theorem State.latchIfTripping_same {P : Part} {s0 : State} (s : State) (c : Nat) (hw : State.latchIfTripping_parts.testBit
    P.ctorIdx = false) (h : Same P s0 s) :
    Same P s0 (State.latchIfTripping s c) := by
  unfold State.latchIfTripping
  repeat' first
    | with_reducible assumption
    | intro _
    | with_reducible refine State.setFlag_same _ _ _ _ (Wr.sub (by decide) hw) ?_
    | with_reducible refine State.setFld_same _ _ _ _ (Wr.sub (by decide) hw) ?_
    | with_reducible refine State.settleTrips_same _ (Wr.sub (by decide) hw) ?_
    | with_reducible refine State.count_same _ _ _ (Wr.sub (by decide) hw) ?_
    | with_reducible apply Same.ite
    | split
    | (with_reducible apply Same.zeta); split

def State.setLevel_parts : Nat := 0x1791f42
theorem State.setLevel_same {P : Part} {s0 : State} (s : State) (c : Nat) (level : Int) (hw : State.setLevel_parts.testBit
    P.ctorIdx = false) (h : Same P s0 s) :
    Same P s0 (State.setLevel s c level) := by
  unfold State.setLevel
  repeat' first
    | with_reducible assumption
    | intro _
    | with_reducible refine State.modWc_same _ _ _ (Wr.sub (by decide) hw) ?_
    | with_reducible refine State.latchIfTripping_same _ _ (Wr.sub (by decide) hw) ?_
    | with_reducible refine State.setFlag_same _ _ _ _ (Wr.sub (by decide) hw) ?_
    | split
    | (with_reducible apply Same.zeta); split

def State.latchClear_parts : Nat := 0x1791f42
theorem State.latchClear_same {P : Part} {s0 : State} (s : State) (c : Nat) (hw : State.latchClear_parts.testBit P.ctorIdx
    = false) (h : Same P s0 s) :
    Same P s0 (State.latchClear s c) := by
  unfold State.latchClear
  repeat' first
    | with_reducible assumption
    | intro _
    | with_reducible refine State.settleTrips_same _ (Wr.sub (by decide) hw) ?_
    | with_reducible refine State.modWc_same _ _ _ (Wr.sub (by decide) hw) ?_
    | with_reducible refine State.setFld_same _ _ _ _ (Wr.sub (by decide) hw) ?_
    | split
    | (with_reducible apply Same.zeta); split

def execComparatorLatchSet_parts : Nat := 0x1791f42
theorem execComparatorLatchSet_same {P : Part} {s0 : State} (c : Nat) (level : Int) (s : State) (hw :
    execComparatorLatchSet_parts.testBit P.ctorIdx = false) (h : Same P s0 s) :
    SameOut P s0 (execComparatorLatchSet c level s) := by
  unfold execComparatorLatchSet
  repeat' first
    | with_reducible assumption
    | with_reducible apply SameOut.next
    | with_reducible apply SameOut.ite
    | intro _
    | with_reducible refine State.setLevel_same _ _ _ (Wr.sub (by decide) hw) ?_
    | with_reducible apply Same.ite
    | split
    | dsimp only; split

def execLebBlankingEnd_parts : Nat := 0x1791f42
theorem execLebBlankingEnd_same {P : Part} {s0 : State} (c : Nat) (level : Int) (s : State) (hw :
    execLebBlankingEnd_parts.testBit P.ctorIdx = false) (h : Same P s0 s) :
    SameOut P s0 (execLebBlankingEnd c level s) := by
  unfold execLebBlankingEnd
  repeat' first
    | with_reducible assumption
    | with_reducible apply SameOut.next
    | with_reducible apply SameOut.ite
    | intro _
    | with_reducible refine State.setLevel_same _ _ _ (Wr.sub (by decide) hw) ?_
    | with_reducible refine State.modWc_same _ _ _ (Wr.sub (by decide) hw) ?_
    | with_reducible apply Same.ite
    | split
    | dsimp only; split

def State.wcClr_parts : Nat := 0x1791f42
theorem State.wcClr_same {P : Part} {s0 : State} (s : State) (c : Nat) (hw : State.wcClr_parts.testBit P.ctorIdx = false)
    (h : Same P s0 s) :
    Same P s0 (State.wcClr s c) := by
  unfold State.wcClr
  repeat' first
    | with_reducible assumption
    | intro _
    | with_reducible refine State.latchClear_same _ _ (Wr.sub (by decide) hw) ?_
    | with_reducible apply Same.ite
    | split
    | (with_reducible apply Same.zeta); split

def execWcClrWrite_parts : Nat := 0x1791f42
theorem execWcClrWrite_same {P : Part} {s0 : State} (core : Nat) (c : Nat) (level : Int) (s : State) (hw :
    execWcClrWrite_parts.testBit P.ctorIdx = false) (h : Same P s0 s) :
    SameOut P s0 (execWcClrWrite core c level s) := by
  unfold execWcClrWrite
  repeat' first
    | with_reducible assumption
    | with_reducible apply SameOut.next
    | with_reducible apply SameOut.ite
    | intro _
    | with_reducible refine State.accessBlk_same _ _ _ _ _ (Wr.sub (by decide) hw) ?_ ?_
    | with_reducible refine State.wcClr_same _ _ (Wr.sub (by decide) hw) ?_
    | with_reducible refine State.setLevel_same _ _ _ (Wr.sub (by decide) hw) ?_
    | with_reducible apply Same.ite
    | split
    | dsimp only; split

def execComparatorInitialClear_parts : Nat := 0x1791f42
theorem execComparatorInitialClear_same {P : Part} {s0 : State} (c : Nat) (level : Int) (s : State) (hw :
    execComparatorInitialClear_parts.testBit P.ctorIdx = false) (h : Same P s0 s) :
    SameOut P s0 (execComparatorInitialClear c level s) := by
  unfold execComparatorInitialClear
  repeat' first
    | with_reducible assumption
    | with_reducible apply SameOut.next
    | with_reducible apply SameOut.ite
    | intro _
    | with_reducible refine State.setLevel_same _ _ _ (Wr.sub (by decide) hw) ?_
    | with_reducible refine State.modWc_same _ _ _ (Wr.sub (by decide) hw) ?_
    | with_reducible refine State.latchClear_same _ _ (Wr.sub (by decide) hw) ?_
    | with_reducible apply Same.ite
    | split
    | dsimp only; split

def State.wcThr_parts : Nat := 0x1791f42
theorem State.wcThr_same {P : Part} {s0 : State} (s : State) (c : Nat) (lo : Nat) (hi : Nat) (hw :
    State.wcThr_parts.testBit P.ctorIdx = false) (h : Same P s0 s) :
    Same P s0 (State.wcThr s c lo hi) := by
  unfold State.wcThr
  repeat' first
    | with_reducible assumption
    | intro _
    | with_reducible refine State.setFld_same _ _ _ _ (Wr.sub (by decide) hw) ?_
    | with_reducible refine State.setLevel_same _ _ _ (Wr.sub (by decide) hw) ?_
    | with_reducible refine State.discarded_same _ _ _ (Wr.sub (by decide) hw) ?_
    | with_reducible apply Same.ite
    | split
    | (with_reducible apply Same.zeta); split

def execWcThrWrite_parts : Nat := 0x1791f42
theorem execWcThrWrite_same {P : Part} {s0 : State} (core : Nat) (c : Nat) (lo : Nat) (hi : Nat) (s : State) (hw :
    execWcThrWrite_parts.testBit P.ctorIdx = false) (h : Same P s0 s) :
    SameOut P s0 (execWcThrWrite core c lo hi s) := by
  unfold execWcThrWrite
  repeat' first
    | with_reducible assumption
    | with_reducible apply SameOut.next
    | intro _
    | with_reducible refine State.accessBlk_same _ _ _ _ _ (Wr.sub (by decide) hw) ?_ ?_
    | with_reducible refine State.wcThr_same _ _ _ _ (Wr.sub (by decide) hw) ?_
    | split
    | dsimp only; split

def execTripGroupFirstAssert_parts : Nat := 0x1791f42
theorem execTripGroupFirstAssert_same {P : Part} {s0 : State} (g : Nat) (s : State) (hw :
    execTripGroupFirstAssert_parts.testBit P.ctorIdx = false) (h : Same P s0 s) :
    SameOut P s0 (execTripGroupFirstAssert g s) := by
  unfold execTripGroupFirstAssert
  repeat' first
    | with_reducible assumption
    | with_reducible apply SameOut.next
    | with_reducible apply SameOut.ite
    | intro _
    | with_reducible refine State.setBit_same _ _ _ _ _ (Wr.sub (by decide) hw) ?_
    | with_reducible refine State.setFld_same _ _ _ _ (Wr.sub (by decide) hw) ?_
    | with_reducible refine State.event_same _ _ _ _ _ (Wr.sub (by decide) hw) ?_
    | with_reducible refine State.runEntry_same _ _ _ (Wr.sub (by decide) hw) ?_
    | with_reducible apply Same.ite
    | fail_if_no_progress with_reducible refine Same.updTrip (W := execTripGroupFirstAssert_parts) (by decide) hw ?_
    | split
    | dsimp only; split

def State.cycleClears_parts : Nat := 0x1791f42
theorem State.cycleClears_same {P : Part} {s0 : State} (s : State) (m : Nat) (hw : State.cycleClears_parts.testBit
    P.ctorIdx = false) (h : Same P s0 s) :
    Same P s0 (State.cycleClears s m) := by
  unfold State.cycleClears
  repeat' first
    | with_reducible assumption
    | intro _
    | with_reducible refine State.modWc_same _ _ _ (Wr.sub (by decide) hw) ?_
    | with_reducible refine State.setFld_same _ _ _ _ (Wr.sub (by decide) hw) ?_
    | with_reducible refine State.settleTrips_same _ (Wr.sub (by decide) hw) ?_
    | with_reducible apply Same.whenIf
    | with_reducible apply Same.each
    | split
    | (with_reducible apply Same.zeta); split

def State.compApplied_parts : Nat := 0x1791f42
theorem State.compApplied_same {P : Part} {s0 : State} (s : State) (oldMode : List Nat) (hw :
    State.compApplied_parts.testBit P.ctorIdx = false) (h : Same P s0 s) :
    Same P s0 (State.compApplied s oldMode) := by
  unfold State.compApplied
  repeat' first
    | with_reducible assumption
    | intro _
    | with_reducible refine State.modWc_same _ _ _ (Wr.sub (by decide) hw) ?_
    | with_reducible refine State.setFld_same _ _ _ _ (Wr.sub (by decide) hw) ?_
    | with_reducible refine State.setLevel_same _ _ _ (Wr.sub (by decide) hw) ?_
    | with_reducible refine State.settleTrips_same _ (Wr.sub (by decide) hw) ?_
    | with_reducible apply Same.whenIf
    | with_reducible apply Same.each
    | with_reducible apply Same.ite
    | split
    | (with_reducible apply Same.zeta); split

end Sys2Proof.Machine
end

