-- ==== Sys2Proof/Laws/SameModulator.lean ====
section
/-!
SUPPORT. Which parts of State the operations of Machine/Modulator.lean can change (Laws/Same.lean), as bits by the part's number, and that
they leave every other as it was.
-/
namespace Sys2Proof.Machine

set_option linter.unusedTactic false
set_option linter.unreachableTactic false

def State.modChan_parts : Nat := 0x40000
theorem State.modChan_same {P : Part} {s0 : State} (s : State) (n : Nat) (f : ModChan → ModChan) (hw :
    State.modChan_parts.testBit P.ctorIdx = false) (h : Same P s0 s) :
    Same P s0 (State.modChan s n f) := by
  unfold State.modChan
  repeat' first
    | with_reducible assumption
    | intro _
    | fail_if_no_progress with_reducible refine Same.updSd (W := State.modChan_parts) (by decide) hw ?_
    | split
    | (with_reducible apply Same.zeta); split

def State.mainOutput_parts : Nat := 0x8
theorem State.mainOutput_same {P : Part} {s0 : State} (s : State) (n : Nat) (m : Nat) (l : List Bool) (hw :
    State.mainOutput_parts.testBit P.ctorIdx = false) (h : Same P s0 s) :
    Same P s0 (State.mainOutput s n m l).2 := by
  unfold State.mainOutput
  repeat' first
    | with_reducible assumption
    | intro _
    | with_reducible refine State.roundFree_same _ _ _ (Wr.sub (by decide) hw) ?_
    | (with_reducible refine Same.snd ?_ (by assumption)); with_reducible refine State.roundFree_same _ _ _ (Wr.sub (by decide) hw) ?_
    | dsimp only
    | split
    | (with_reducible apply Same.zeta); split

def State.guardInside_parts : Nat := 0x8
theorem State.guardInside_same {P : Part} {s0 : State} (s : State) (n : Nat) (hw : State.guardInside_parts.testBit
    P.ctorIdx = false) (h : Same P s0 s) :
    Same P s0 (State.guardInside s n).2 := by
  unfold State.guardInside
  repeat' first
    | with_reducible assumption
    | intro _
    | with_reducible refine State.fresh_same _ _ (Wr.sub (by decide) hw) ?_
    | (with_reducible refine Same.snd ?_ (by assumption)); with_reducible refine State.fresh_same _ _ (Wr.sub (by decide) hw) ?_
    | with_reducible apply Same.ite
    | with_reducible apply Same.iteSnd
    | dsimp only
    | split
    | (with_reducible apply Same.zeta); split

def State.guardAssert_parts : Nat := 0x40002
theorem State.guardAssert_same {P : Part} {s0 : State} (s : State) (n : Nat) (initial : Bool) (hw :
    State.guardAssert_parts.testBit P.ctorIdx = false) (h : Same P s0 s) :
    Same P s0 (State.guardAssert s n initial) := by
  unfold State.guardAssert
  repeat' first
    | with_reducible assumption
    | intro _
    | with_reducible refine State.count_same _ _ _ (Wr.sub (by decide) hw) ?_
    | with_reducible refine State.setFld_same _ _ _ _ (Wr.sub (by decide) hw) ?_
    | with_reducible refine State.modChan_same _ _ _ (Wr.sub (by decide) hw) ?_
    | with_reducible apply Same.whenIf
    | split
    | (with_reducible apply Same.zeta); split

def State.guardClear_parts : Nat := 0x17d1f42
theorem State.guardClear_same {P : Part} {s0 : State} (s : State) (n : Nat) (hw : State.guardClear_parts.testBit P.ctorIdx
    = false) (h : Same P s0 s) :
    Same P s0 (State.guardClear s n) := by
  unfold State.guardClear
  repeat' first
    | with_reducible assumption
    | intro _
    | with_reducible refine State.settleTrips_same _ (Wr.sub (by decide) hw) ?_
    | with_reducible refine State.modChan_same _ _ _ (Wr.sub (by decide) hw) ?_
    | with_reducible refine State.setFld_same _ _ _ _ (Wr.sub (by decide) hw) ?_
    | split
    | (with_reducible apply Same.zeta); split

def State.chansLose_parts : Nat := 0x17d1f42
theorem State.chansLose_same {P : Part} {s0 : State} (s : State) (l : List Nat) (hw : State.chansLose_parts.testBit
    P.ctorIdx = false) (h : Same P s0 s) :
    Same P s0 (State.chansLose s l) := by
  unfold State.chansLose
  repeat' first
    | with_reducible assumption
    | intro _
    | with_reducible refine State.settleTrips_same _ (Wr.sub (by decide) hw) ?_
    | with_reducible refine State.modChan_same _ _ _ (Wr.sub (by decide) hw) ?_
    | with_reducible refine State.guardAssert_same _ _ _ (Wr.sub (by decide) hw) ?_
    | with_reducible apply Same.whenIf
    | with_reducible apply Same.each
    | split
    | (with_reducible apply Same.zeta); split

def State.chansRecover_parts : Nat := 0x17d1f42
theorem State.chansRecover_same {P : Part} {s0 : State} (s : State) (l : List Nat) (hw : State.chansRecover_parts.testBit
    P.ctorIdx = false) (h : Same P s0 s) :
    Same P s0 (State.chansRecover s l) := by
  unfold State.chansRecover
  repeat' first
    | with_reducible assumption
    | intro _
    | with_reducible refine State.settleTrips_same _ (Wr.sub (by decide) hw) ?_
    | with_reducible refine State.guardAssert_same _ _ _ (Wr.sub (by decide) hw) ?_
    | with_reducible refine State.modChan_same _ _ _ (Wr.sub (by decide) hw) ?_
    | with_reducible apply Same.whenIf
    | with_reducible apply Same.each
    | split
    | (with_reducible apply Same.zeta); split

def execModClockLost_parts : Nat := 0x17d1f42
theorem execModClockLost_same {P : Part} {s0 : State} (loss : ClockLoss) (s : State) (hw : execModClockLost_parts.testBit
    P.ctorIdx = false) (h : Same P s0 s) :
    SameOut P s0 (execModClockLost loss s) := by
  unfold execModClockLost
  repeat' first
    | with_reducible assumption
    | with_reducible apply SameOut.next
    | with_reducible apply SameOut.ite
    | intro _
    | with_reducible refine State.setBit_same _ _ _ _ _ (Wr.sub (by decide) hw) ?_
    | with_reducible refine State.chansLose_same _ _ (Wr.sub (by decide) hw) ?_
    | with_reducible refine State.event_same _ _ _ _ _ (Wr.sub (by decide) hw) ?_
    | with_reducible apply Same.ite
    | split
    | dsimp only; split

def State.interpolate_parts : Nat := 0x8
theorem State.interpolate_same {P : Part} {s0 : State} (s : State) (n : Nat) (hw : State.interpolate_parts.testBit
    P.ctorIdx = false) (h : Same P s0 s) :
    Same P s0 (State.interpolate s n).2 := by
  unfold State.interpolate
  repeat' first
    | with_reducible assumption
    | intro _
    | with_reducible refine State.fresh_same _ _ (Wr.sub (by decide) hw) ?_
    | (with_reducible refine Same.snd ?_ (by assumption)); with_reducible refine State.fresh_same _ _ (Wr.sub (by decide) hw) ?_
    | with_reducible apply Same.ite
    | with_reducible apply Same.iteSnd
    | dsimp only
    | split
    | (with_reducible apply Same.zeta); split

def State.mainStep_parts : Nat := 0x8
theorem State.mainStep_same {P : Part} {s0 : State} (s : State) (n : Nat) (hw : State.mainStep_parts.testBit P.ctorIdx =
    false) (h : Same P s0 s) :
    Same P s0 (State.mainStep s n).2 := by
  unfold State.mainStep
  repeat' first
    | with_reducible assumption
    | intro _
    | with_reducible refine State.mainOutput_same _ _ _ _ (Wr.sub (by decide) hw) ?_
    | (with_reducible refine Same.snd ?_ (by assumption)); with_reducible refine State.mainOutput_same _ _ _ _ (Wr.sub (by decide) hw) ?_
    | with_reducible refine State.fresh_same _ _ (Wr.sub (by decide) hw) ?_
    | (with_reducible refine Same.snd ?_ (by assumption)); with_reducible refine State.fresh_same _ _ (Wr.sub (by decide) hw) ?_
    | with_reducible apply Same.ite
    | with_reducible apply Same.iteSnd
    | dsimp only
    | split
    | (with_reducible apply Same.zeta); split

def State.modWord_parts : Nat := 0x1451f4a
theorem State.modWord_same {P : Part} {s0 : State} (s : State) (n : Nat) (hw : State.modWord_parts.testBit P.ctorIdx =
    false) (h : Same P s0 s) :
    Same P s0 (State.modWord s n) := by
  unfold State.modWord
  repeat' first
    | with_reducible assumption
    | intro _
    | with_reducible refine State.mainStep_same _ _ (Wr.sub (by decide) hw) ?_
    | (with_reducible refine Same.snd ?_ (by assumption)); with_reducible refine State.mainStep_same _ _ (Wr.sub (by decide) hw) ?_
    | with_reducible refine State.fresh_same _ _ (Wr.sub (by decide) hw) ?_
    | (with_reducible refine Same.snd ?_ (by assumption)); with_reducible refine State.fresh_same _ _ (Wr.sub (by decide) hw) ?_
    | with_reducible refine State.modChan_same _ _ _ (Wr.sub (by decide) hw) ?_
    | with_reducible refine State.interpolate_same _ _ (Wr.sub (by decide) hw) ?_
    | (with_reducible refine Same.snd ?_ (by assumption)); with_reducible refine State.interpolate_same _ _ (Wr.sub (by decide) hw) ?_
    | with_reducible refine State.count_same _ _ _ (Wr.sub (by decide) hw) ?_
    | with_reducible refine State.setFld_same _ _ _ _ (Wr.sub (by decide) hw) ?_
    | with_reducible refine State.offer_same _ _ _ (Wr.sub (by decide) hw) ?_
    | with_reducible apply Same.whenIf
    | with_reducible apply Same.ite
    | split
    | (with_reducible apply Same.zeta); split

def State.dataCheck_parts : Nat := 0x17d1f42
theorem State.dataCheck_same {P : Part} {s0 : State} (s : State) (n : Nat) (hw : State.dataCheck_parts.testBit P.ctorIdx =
    false) (h : Same P s0 s) :
    Same P s0 (State.dataCheck s n) := by
  unfold State.dataCheck
  repeat' first
    | with_reducible assumption
    | intro _
    | with_reducible refine State.setBit_same _ _ _ _ _ (Wr.sub (by decide) hw) ?_
    | with_reducible refine State.chansLose_same _ _ (Wr.sub (by decide) hw) ?_
    | with_reducible refine State.event_same _ _ _ _ _ (Wr.sub (by decide) hw) ?_
    | with_reducible refine State.chansRecover_same _ _ (Wr.sub (by decide) hw) ?_
    | split
    | (with_reducible apply Same.zeta); split

def State.guardCheck_parts : Nat := 0x17d1f4a
theorem State.guardCheck_same {P : Part} {s0 : State} (s : State) (n : Nat) (hw : State.guardCheck_parts.testBit P.ctorIdx
    = false) (h : Same P s0 s) :
    Same P s0 (State.guardCheck s n) := by
  unfold State.guardCheck
  repeat' first
    | with_reducible assumption
    | intro _
    | with_reducible refine State.guardInside_same _ _ (Wr.sub (by decide) hw) ?_
    | (with_reducible refine Same.snd ?_ (by assumption)); with_reducible refine State.guardInside_same _ _ (Wr.sub (by decide) hw) ?_
    | with_reducible refine State.settleTrips_same _ (Wr.sub (by decide) hw) ?_
    | with_reducible refine State.guardAssert_same _ _ _ (Wr.sub (by decide) hw) ?_
    | with_reducible refine State.guardClear_same _ _ (Wr.sub (by decide) hw) ?_
    | with_reducible apply Same.ite
    | split
    | (with_reducible apply Same.zeta); split

def State.feedBit_parts : Nat := 0x17d1f4a
theorem State.feedBit_same {P : Part} {s0 : State} (s : State) (n : Nat) (level : Bool) (t : Nat) (hw :
    State.feedBit_parts.testBit P.ctorIdx = false) (h : Same P s0 s) :
    Same P s0 (State.feedBit s n level t) := by
  unfold State.feedBit
  repeat' first
    | with_reducible assumption
    | intro _
    | with_reducible refine State.guardCheck_same _ _ (Wr.sub (by decide) hw) ?_
    | with_reducible refine State.dataCheck_same _ _ (Wr.sub (by decide) hw) ?_
    | with_reducible refine State.modChan_same _ _ _ (Wr.sub (by decide) hw) ?_
    | with_reducible refine State.modWord_same _ _ (Wr.sub (by decide) hw) ?_
    | with_reducible apply Same.whenIf
    | split
    | (with_reducible apply Same.zeta); split

def State.feedPeriod_parts : Nat := 0x17d1f4a
theorem State.feedPeriod_same {P : Part} {s0 : State} (s : State) (j : Nat) (k : MdClock) (hw :
    State.feedPeriod_parts.testBit P.ctorIdx = false) (h : Same P s0 s) :
    Same P s0 (State.feedPeriod s j k) := by
  unfold State.feedPeriod
  repeat' first
    | with_reducible assumption
    | intro _
    | with_reducible refine State.feedBit_same _ _ _ _ (Wr.sub (by decide) hw) ?_
    | with_reducible apply Same.each
    | with_reducible apply Same.ite
    | split
    | (with_reducible apply Same.zeta); split

def State.feedPin_parts : Nat := 0x17d1f4a
theorem State.feedPin_same {P : Part} {s0 : State} (s : State) (j : Nat) (l : List MdClock) (hw :
    State.feedPin_parts.testBit P.ctorIdx = false) (h : Same P s0 s) :
    Same P s0 (State.feedPin s j l) := by
  unfold State.feedPin
  repeat' first
    | with_reducible assumption
    | intro _
    | with_reducible refine State.feedPeriod_same _ _ _ (Wr.sub (by decide) hw) ?_
    | with_reducible apply Same.each
    | split
    | (with_reducible apply Same.zeta); split

def execModDecimation_parts : Nat := 0x17d1f4a
theorem execModDecimation_same {P : Part} {s0 : State} (j : Nat) (before : List MdClock) (last : MdClock) (s : State) (hw :
    execModDecimation_parts.testBit P.ctorIdx = false) (h : Same P s0 s) :
    SameOut P s0 (execModDecimation j before last s) := by
  unfold execModDecimation
  repeat' first
    | with_reducible assumption
    | with_reducible apply SameOut.next
    | intro _
    | with_reducible refine State.feedPin_same _ _ _ (Wr.sub (by decide) hw) ?_
    | split
    | dsimp only; split

def execModDataLost_parts : Nat := 0x17d1f4a
theorem execModDataLost_same {P : Part} {s0 : State} (run : PinPeriods) (s : State) (hw : execModDataLost_parts.testBit
    P.ctorIdx = false) (h : Same P s0 s) :
    SameOut P s0 (execModDataLost run s) := by
  unfold execModDataLost
  repeat' first
    | with_reducible assumption
    | with_reducible apply SameOut.next
    | intro _
    | with_reducible refine State.feedPin_same _ _ _ (Wr.sub (by decide) hw) ?_
    | split
    | dsimp only; split

def execModLossEnd_parts : Nat := 0x17d1f4a
theorem execModLossEnd_same {P : Part} {s0 : State} (j : Nat) (clocks : List MdClock) (s : State) (hw :
    execModLossEnd_parts.testBit P.ctorIdx = false) (h : Same P s0 s) :
    SameOut P s0 (execModLossEnd j clocks s) := by
  unfold execModLossEnd
  repeat' first
    | with_reducible assumption
    | with_reducible apply SameOut.next
    | intro _
    | with_reducible refine State.feedPin_same _ _ _ (Wr.sub (by decide) hw) ?_
    | with_reducible refine State.chansRecover_same _ _ (Wr.sub (by decide) hw) ?_
    | with_reducible refine State.setBit_same _ _ _ _ _ (Wr.sub (by decide) hw) ?_
    | with_reducible apply Same.whenIf
    | split
    | dsimp only; split

def execGuardTripAssert_parts : Nat := 0x17d1f4a
theorem execGuardTripAssert_same {P : Part} {s0 : State} (j : Nat) (clocks : List MdClock) (s : State) (hw :
    execGuardTripAssert_parts.testBit P.ctorIdx = false) (h : Same P s0 s) :
    SameOut P s0 (execGuardTripAssert j clocks s) := by
  unfold execGuardTripAssert
  repeat' first
    | with_reducible assumption
    | with_reducible apply SameOut.next
    | intro _
    | with_reducible refine State.feedPin_same _ _ _ (Wr.sub (by decide) hw) ?_
    | split
    | dsimp only; split

def execGuardSettleClear_parts : Nat := 0x17d1f4a
theorem execGuardSettleClear_same {P : Part} {s0 : State} (j : Nat) (clocks : List MdClock) (s : State) (hw :
    execGuardSettleClear_parts.testBit P.ctorIdx = false) (h : Same P s0 s) :
    SameOut P s0 (execGuardSettleClear j clocks s) := by
  unfold execGuardSettleClear
  repeat' first
    | with_reducible assumption
    | with_reducible apply SameOut.next
    | intro _
    | with_reducible refine State.feedPin_same _ _ _ (Wr.sub (by decide) hw) ?_
    | split
    | dsimp only; split

def State.pwmEvent_parts : Nat := 0x48000
theorem State.pwmEvent_same {P : Part} {s0 : State} (s : State) (m : Nat) (evt : Nat) (hw : State.pwmEvent_parts.testBit
    P.ctorIdx = false) (h : Same P s0 s) :
    Same P s0 (State.pwmEvent s m evt) := by
  unfold State.pwmEvent
  repeat' first
    | with_reducible assumption
    | intro _
    | with_reducible refine State.pwmOccurs_same _ _ _ (Wr.sub (by decide) hw) ?_
    | with_reducible refine State.modChan_same _ _ _ (Wr.sub (by decide) hw) ?_
    | with_reducible apply Same.whenIf
    | with_reducible apply Same.each
    | split
    | (with_reducible apply Same.zeta); split

def State.modLeave_parts : Nat := 0x40000
theorem State.modLeave_same {P : Part} {s0 : State} (s : State) (hw : State.modLeave_parts.testBit P.ctorIdx = false) (h :
    Same P s0 s) :
    Same P s0 (State.modLeave s) := by
  unfold State.modLeave
  repeat' first
    | with_reducible assumption
    | intro _
    | with_reducible refine State.modChan_same _ _ _ (Wr.sub (by decide) hw) ?_
    | with_reducible apply Same.each
    | split
    | (with_reducible apply Same.zeta); split

def State.fdlyWrite_parts : Nat := 0x40a02
theorem State.fdlyWrite_same {P : Part} {s0 : State} (s : State) (n : Nat) (v : Nat) (hw : State.fdlyWrite_parts.testBit
    P.ctorIdx = false) (h : Same P s0 s) :
    Same P s0 (State.fdlyWrite s n v) := by
  unfold State.fdlyWrite
  repeat' first
    | with_reducible assumption
    | intro _
    | with_reducible refine State.discarded_same _ _ _ (Wr.sub (by decide) hw) ?_
    | with_reducible refine State.modChan_same _ _ _ (Wr.sub (by decide) hw) ?_
    | with_reducible refine State.setFld_same _ _ _ _ (Wr.sub (by decide) hw) ?_
    | with_reducible apply Same.ite
    | split
    | (with_reducible apply Same.zeta); split

def execModFdlyWrite_parts : Nat := 0x40b02
theorem execModFdlyWrite_same {P : Part} {s0 : State} (core : Nat) (n : Nat) (fdly : Nat) (s : State) (hw :
    execModFdlyWrite_parts.testBit P.ctorIdx = false) (h : Same P s0 s) :
    SameOut P s0 (execModFdlyWrite core n fdly s) := by
  unfold execModFdlyWrite
  repeat' first
    | with_reducible assumption
    | with_reducible apply SameOut.next
    | intro _
    | with_reducible refine State.accessBlk_same _ _ _ _ _ (Wr.sub (by decide) hw) ?_ ?_
    | with_reducible refine State.fdlyWrite_same _ _ _ (Wr.sub (by decide) hw) ?_
    | split
    | dsimp only; split

def State.guardClr_parts : Nat := 0x17d1f4a
theorem State.guardClr_same {P : Part} {s0 : State} (s : State) (n : Nat) (hw : State.guardClr_parts.testBit P.ctorIdx =
    false) (h : Same P s0 s) :
    Same P s0 (State.guardClr s n) := by
  unfold State.guardClr
  repeat' first
    | with_reducible assumption
    | intro _
    | with_reducible refine State.guardInside_same _ _ (Wr.sub (by decide) hw) ?_
    | (with_reducible refine Same.snd ?_ (by assumption)); with_reducible refine State.guardInside_same _ _ (Wr.sub (by decide) hw) ?_
    | with_reducible refine State.guardClear_same _ _ (Wr.sub (by decide) hw) ?_
    | with_reducible apply Same.ite
    | split
    | (with_reducible apply Same.zeta); split

def execModGuardClr_parts : Nat := 0x17d1f4a
theorem execModGuardClr_same {P : Part} {s0 : State} (core : Nat) (n : Nat) (clr : Bool) (s : State) (hw :
    execModGuardClr_parts.testBit P.ctorIdx = false) (h : Same P s0 s) :
    SameOut P s0 (execModGuardClr core n clr s) := by
  unfold execModGuardClr
  repeat' first
    | with_reducible assumption
    | with_reducible apply SameOut.next
    | intro _
    | with_reducible refine State.accessBlk_same _ _ _ _ _ (Wr.sub (by decide) hw) ?_ ?_
    | with_reducible refine State.guardClr_same _ _ (Wr.sub (by decide) hw) ?_
    | with_reducible apply Same.whenIf
    | split
    | dsimp only; split

def State.modApplied_parts : Nat := 0x17d1f42
theorem State.modApplied_same {P : Part} {s0 : State} (s : State) (chEn : Nat) (before : List (Nat × Nat × Nat × Nat)) (hw
    : State.modApplied_parts.testBit P.ctorIdx = false) (h : Same P s0 s) :
    Same P s0 (State.modApplied s chEn before) := by
  unfold State.modApplied
  repeat' first
    | with_reducible assumption
    | intro _
    | with_reducible refine State.modChan_same _ _ _ (Wr.sub (by decide) hw) ?_
    | with_reducible refine State.guardAssert_same _ _ _ (Wr.sub (by decide) hw) ?_
    | with_reducible refine State.settleTrips_same _ (Wr.sub (by decide) hw) ?_
    | with_reducible apply Same.whenIf
    | with_reducible apply Same.each
    | with_reducible apply Same.ite
    | split
    | (with_reducible apply Same.zeta); split

end Sys2Proof.Machine
end

