-- ==== Sys2Proof/Laws/SamePwm.lean ====
section
/-!
SUPPORT. Which parts of State the operations of Machine/Pwm.lean can change (Laws/Same.lean), as bits by the part's number, and that
they leave every other as it was.
-/
namespace Sys2Proof.Machine

set_option linter.unusedTactic false
set_option linter.unreachableTactic false

def State.suppressed_parts : Nat := 0x2
theorem State.suppressed_same {P : Part} {s0 : State} (s : State) (m : Nat) (hw : State.suppressed_parts.testBit P.ctorIdx
    = false) (h : Same P s0 s) :
    Same P s0 (State.suppressed s m) := by
  unfold State.suppressed
  repeat' first
    | with_reducible assumption
    | intro _
    | with_reducible refine State.count_same _ _ _ (Wr.sub (by decide) hw) ?_
    | with_reducible refine State.setFld_same _ _ _ _ (Wr.sub (by decide) hw) ?_
    | split
    | (with_reducible apply Same.zeta); split

def State.fallCmd_parts : Nat := 0x1791f42
theorem State.fallCmd_same {P : Part} {s0 : State} (s : State) (m : Nat) (low : Bool) (inst : Nat) (carry : Bool) (hw :
    State.fallCmd_parts.testBit P.ctorIdx = false) (h : Same P s0 s) :
    Same P s0 (State.fallCmd s m low inst carry) := by
  unfold State.fallCmd
  repeat' first
    | with_reducible assumption
    | intro _
    | with_reducible refine State.setCmd_same _ _ _ _ _ _ (Wr.sub (by decide) hw) ?_
    | with_reducible refine State.modPm_same _ _ _ (Wr.sub (by decide) hw) ?_
    | with_reducible apply Same.ite
    | split
    | (with_reducible apply Same.zeta); split

def State.dueFalls_parts : Nat := 0x1791f42
theorem State.dueFalls_same {P : Part} {s0 : State} (s : State) (m : Nat) (limit : Nat) (hw : State.dueFalls_parts.testBit
    P.ctorIdx = false) (h : Same P s0 s) :
    Same P s0 (State.dueFalls s m limit) := by
  unfold State.dueFalls
  repeat' first
    | with_reducible assumption
    | intro _
    | with_reducible refine State.setCmd_same _ _ _ _ _ _ (Wr.sub (by decide) hw) ?_
    | with_reducible refine State.modPm_same _ _ _ (Wr.sub (by decide) hw) ?_
    | with_reducible apply Same.ite
    | split
    | (with_reducible apply Same.zeta); split

def State.riseCmd_parts : Nat := 0x1791f42
theorem State.riseCmd_same {P : Part} {s0 : State} (s : State) (m : Nat) (low : Bool) (inst : Nat) (hw :
    State.riseCmd_parts.testBit P.ctorIdx = false) (h : Same P s0 s) :
    Same P s0 (State.riseCmd s m low inst) := by
  unfold State.riseCmd
  repeat' first
    | with_reducible assumption
    | intro _
    | with_reducible refine State.modPm_same _ _ _ (Wr.sub (by decide) hw) ?_
    | with_reducible refine State.setCmd_same _ _ _ _ _ _ (Wr.sub (by decide) hw) ?_
    | with_reducible apply Same.ite
    | split
    | (with_reducible apply Same.zeta); split

def State.innerFall_parts : Nat := 0x100000
theorem State.innerFall_same {P : Part} {s0 : State} (s : State) (m : Nat) (low : Bool) (hw : State.innerFall_parts.testBit
    P.ctorIdx = false) (h : Same P s0 s) :
    Same P s0 (State.innerFall s m low) := by
  unfold State.innerFall
  repeat' first
    | with_reducible assumption
    | intro _
    | with_reducible refine State.modPm_same _ _ _ (Wr.sub (by decide) hw) ?_
    | with_reducible apply Same.ite
    | split
    | (with_reducible apply Same.zeta); split

def State.innerRise_parts : Nat := 0x100000
theorem State.innerRise_same {P : Part} {s0 : State} (s : State) (m : Nat) (low : Bool) (inst : Nat) (hw :
    State.innerRise_parts.testBit P.ctorIdx = false) (h : Same P s0 s) :
    Same P s0 (State.innerRise s m low inst) := by
  unfold State.innerRise
  repeat' first
    | with_reducible assumption
    | intro _
    | with_reducible refine State.modPm_same _ _ _ (Wr.sub (by decide) hw) ?_
    | with_reducible apply Same.ite
    | split
    | (with_reducible apply Same.zeta); split

def State.refreshFall_parts : Nat := 0x100002
theorem State.refreshFall_same {P : Part} {s0 : State} (s : State) (m : Nat) (hw : State.refreshFall_parts.testBit
    P.ctorIdx = false) (h : Same P s0 s) :
    Same P s0 (State.refreshFall s m) := by
  unfold State.refreshFall
  repeat' first
    | with_reducible assumption
    | intro _
    | with_reducible refine State.modPm_same _ _ _ (Wr.sub (by decide) hw) ?_
    | with_reducible refine State.setCarry_same _ _ _ (Wr.sub (by decide) hw) ?_
    | with_reducible apply Same.whenIf
    | with_reducible apply Same.ite
    | split
    | (with_reducible apply Same.zeta); split

def State.riseH_parts : Nat := 0x1791f42
theorem State.riseH_same {P : Part} {s0 : State} (s : State) (m : Nat) (inst : Nat) (t : Nat) (hw :
    State.riseH_parts.testBit P.ctorIdx = false) (h : Same P s0 s) :
    Same P s0 (State.riseH s m inst t) := by
  unfold State.riseH
  repeat' first
    | with_reducible assumption
    | intro _
    | with_reducible refine State.innerRise_same _ _ _ _ (Wr.sub (by decide) hw) ?_
    | with_reducible refine State.innerFall_same _ _ _ (Wr.sub (by decide) hw) ?_
    | with_reducible refine State.modPm_same _ _ _ (Wr.sub (by decide) hw) ?_
    | with_reducible refine State.suppressed_same _ _ (Wr.sub (by decide) hw) ?_
    | with_reducible refine State.setCarry_same _ _ _ (Wr.sub (by decide) hw) ?_
    | with_reducible refine State.fallCmd_same _ _ _ _ _ (Wr.sub (by decide) hw) ?_
    | with_reducible refine State.setFld_same _ _ _ _ (Wr.sub (by decide) hw) ?_
    | with_reducible apply Same.whenIf
    | with_reducible apply Same.ite
    | split
    | (with_reducible apply Same.zeta); split

def State.fallH_parts : Nat := 0x1791f42
theorem State.fallH_same {P : Part} {s0 : State} (s : State) (m : Nat) (inst : Nat) (t : Nat) (hw :
    State.fallH_parts.testBit P.ctorIdx = false) (h : Same P s0 s) :
    Same P s0 (State.fallH s m inst t) := by
  unfold State.fallH
  repeat' first
    | with_reducible assumption
    | intro _
    | with_reducible refine State.innerRise_same _ _ _ _ (Wr.sub (by decide) hw) ?_
    | with_reducible refine State.innerFall_same _ _ _ (Wr.sub (by decide) hw) ?_
    | with_reducible refine State.modPm_same _ _ _ (Wr.sub (by decide) hw) ?_
    | with_reducible refine State.refreshFall_same _ _ (Wr.sub (by decide) hw) ?_
    | with_reducible refine State.suppressed_same _ _ (Wr.sub (by decide) hw) ?_
    | with_reducible refine State.setCarry_same _ _ _ (Wr.sub (by decide) hw) ?_
    | with_reducible refine State.riseCmd_same _ _ _ _ (Wr.sub (by decide) hw) ?_
    | with_reducible refine State.fallCmd_same _ _ _ _ _ (Wr.sub (by decide) hw) ?_
    | with_reducible refine State.setFld_same _ _ _ _ (Wr.sub (by decide) hw) ?_
    | with_reducible apply Same.whenIf
    | with_reducible apply Same.ite
    | split
    | (with_reducible apply Same.zeta); split

def State.riseSide_parts : Nat := 0x100002
theorem State.riseSide_same {P : Part} {s0 : State} (s : State) (m : Nat) (low : Bool) (inst : Nat) (t : Nat) (hw :
    State.riseSide_parts.testBit P.ctorIdx = false) (h : Same P s0 s) :
    Same P s0 (State.riseSide s m low inst t) := by
  unfold State.riseSide
  repeat' first
    | with_reducible assumption
    | intro _
    | with_reducible refine State.innerRise_same _ _ _ _ (Wr.sub (by decide) hw) ?_
    | with_reducible refine State.modPm_same _ _ _ (Wr.sub (by decide) hw) ?_
    | with_reducible refine State.suppressed_same _ _ (Wr.sub (by decide) hw) ?_
    | with_reducible refine State.setCarry_same _ _ _ (Wr.sub (by decide) hw) ?_
    | with_reducible refine State.setFld_same _ _ _ _ (Wr.sub (by decide) hw) ?_
    | with_reducible apply Same.whenIf
    | with_reducible apply Same.ite
    | split
    | (with_reducible apply Same.zeta); split

def State.fallSide_parts : Nat := 0x1791f42
theorem State.fallSide_same {P : Part} {s0 : State} (s : State) (m : Nat) (low : Bool) (inst : Nat) (hw :
    State.fallSide_parts.testBit P.ctorIdx = false) (h : Same P s0 s) :
    Same P s0 (State.fallSide s m low inst) := by
  unfold State.fallSide
  repeat' first
    | with_reducible assumption
    | intro _
    | with_reducible refine State.innerFall_same _ _ _ (Wr.sub (by decide) hw) ?_
    | with_reducible refine State.modPm_same _ _ _ (Wr.sub (by decide) hw) ?_
    | with_reducible refine State.refreshFall_same _ _ (Wr.sub (by decide) hw) ?_
    | with_reducible refine State.suppressed_same _ _ (Wr.sub (by decide) hw) ?_
    | with_reducible refine State.setCarry_same _ _ _ (Wr.sub (by decide) hw) ?_
    | with_reducible refine State.riseCmd_same _ _ _ _ (Wr.sub (by decide) hw) ?_
    | with_reducible refine State.fallCmd_same _ _ _ _ _ (Wr.sub (by decide) hw) ?_
    | with_reducible apply Same.whenIf
    | with_reducible apply Same.ite
    | split
    | (with_reducible apply Same.zeta); split

def State.earlyFall_parts : Nat := 0x1791f42
theorem State.earlyFall_same {P : Part} {s0 : State} (s : State) (m : Nat) (hw : State.earlyFall_parts.testBit P.ctorIdx =
    false) (h : Same P s0 s) :
    Same P s0 (State.earlyFall s m) := by
  unfold State.earlyFall
  repeat' first
    | with_reducible assumption
    | intro _
    | with_reducible refine State.setCmd_same _ _ _ _ _ _ (Wr.sub (by decide) hw) ?_
    | with_reducible refine State.modPm_same _ _ _ (Wr.sub (by decide) hw) ?_
    | with_reducible apply Same.ite
    | split
    | (with_reducible apply Same.zeta); split

def State.ruleOn_parts : Nat := 0x1791f42
theorem State.ruleOn_same {P : Part} {s0 : State} (s : State) (m : Nat) (low : Bool) (evt : Nat) (inst : Nat) (t : Nat) (hw
    : State.ruleOn_parts.testBit P.ctorIdx = false) (h : Same P s0 s) :
    Same P s0 (State.ruleOn s m low evt inst t) := by
  unfold State.ruleOn
  repeat' first
    | with_reducible assumption
    | intro _
    | with_reducible refine State.riseH_same _ _ _ _ (Wr.sub (by decide) hw) ?_
    | with_reducible refine State.fallH_same _ _ _ _ (Wr.sub (by decide) hw) ?_
    | with_reducible refine State.riseSide_same _ _ _ _ _ (Wr.sub (by decide) hw) ?_
    | with_reducible refine State.fallSide_same _ _ _ _ (Wr.sub (by decide) hw) ?_
    | with_reducible apply Same.ite
    | split
    | (with_reducible apply Same.zeta); split

def State.commandRules_parts : Nat := 0x1791f42
theorem State.commandRules_same {P : Part} {s0 : State} (s : State) (m : Nat) (evt : Nat) (inst : Nat) (hw :
    State.commandRules_parts.testBit P.ctorIdx = false) (h : Same P s0 s) :
    Same P s0 (State.commandRules s m evt inst) := by
  unfold State.commandRules
  repeat' first
    | with_reducible assumption
    | intro _
    | with_reducible refine State.ruleOn_same _ _ _ _ _ _ (Wr.sub (by decide) hw) ?_
    | with_reducible apply Same.whenIf
    | split
    | (with_reducible apply Same.zeta); split

def State.pwmInt_parts : Nat := 0x802
theorem State.pwmInt_same {P : Part} {s0 : State} (s : State) (m : Nat) (code : Nat) (hw : State.pwmInt_parts.testBit
    P.ctorIdx = false) (h : Same P s0 s) :
    Same P s0 (State.pwmInt s m code) := by
  unfold State.pwmInt
  repeat' first
    | with_reducible assumption
    | intro _
    | with_reducible refine State.setFld_same _ _ _ _ (Wr.sub (by decide) hw) ?_
    | with_reducible refine State.raise_same _ _ _ (Wr.sub (by decide) hw) ?_
    | with_reducible apply Same.whenIf
    | with_reducible apply Same.ite
    | split
    | (with_reducible apply Same.zeta); split

def State.sendLink_parts : Nat := 0x100000
theorem State.sendLink_same {P : Part} {s0 : State} (s : State) (m : Nat) (age : Nat) (hw : State.sendLink_parts.testBit
    P.ctorIdx = false) (h : Same P s0 s) :
    Same P s0 (State.sendLink s m age) := by
  unfold State.sendLink
  repeat' first
    | with_reducible assumption
    | intro _
    | with_reducible apply Same.ite
    | fail_if_no_progress with_reducible refine Same.updPwm (W := State.sendLink_parts) (by decide) hw ?_
    | split
    | (with_reducible apply Same.zeta); split

def State.linkOut_parts : Nat := 0x100000
theorem State.linkOut_same {P : Part} {s0 : State} (s : State) (m : Nat) (src : Nat) (hw : State.linkOut_parts.testBit
    P.ctorIdx = false) (h : Same P s0 s) :
    Same P s0 (State.linkOut s m src) := by
  unfold State.linkOut
  repeat' first
    | with_reducible assumption
    | intro _
    | with_reducible refine State.sendLink_same _ _ _ (Wr.sub (by decide) hw) ?_
    | with_reducible apply Same.whenIf
    | split
    | (with_reducible apply Same.zeta); split

def State.reload_parts : Nat := 0x100002
theorem State.reload_same {P : Part} {s0 : State} (s : State) (m : Nat) (zero : Bool) (hw : State.reload_parts.testBit
    P.ctorIdx = false) (h : Same P s0 s) :
    Same P s0 (State.reload s m zero) := by
  unfold State.reload
  repeat' first
    | with_reducible assumption
    | intro _
    | with_reducible refine State.setAct_same _ _ _ _ (Wr.sub (by decide) hw) ?_
    | with_reducible refine State.count_same _ _ _ (Wr.sub (by decide) hw) ?_
    | with_reducible refine State.modPm_same _ _ _ (Wr.sub (by decide) hw) ?_
    | with_reducible apply Same.each
    | with_reducible apply Same.ite
    | split
    | (with_reducible apply Same.zeta); split

def State.safeLevels_parts : Nat := 0x1711f42
theorem State.safeLevels_same {P : Part} {s0 : State} (s : State) (m : Nat) (hw : State.safeLevels_parts.testBit P.ctorIdx
    = false) (h : Same P s0 s) :
    Same P s0 (State.safeLevels s m) := by
  unfold State.safeLevels
  repeat' first
    | with_reducible assumption
    | intro _
    | with_reducible refine State.setSide_same _ _ _ _ _ _ _ (Wr.sub (by decide) hw) ?_
    | with_reducible apply Same.ite
    | split
    | (with_reducible apply Same.zeta); split

def State.pwmApplied_parts : Nat := 0x1711f42
theorem State.pwmApplied_same {P : Part} {s0 : State} (s : State) (m : Nat) (hw : State.pwmApplied_parts.testBit P.ctorIdx
    = false) (h : Same P s0 s) :
    Same P s0 (State.pwmApplied s m) := by
  unfold State.pwmApplied
  repeat' first
    | with_reducible assumption
    | intro _
    | with_reducible refine State.safeLevels_same _ _ (Wr.sub (by decide) hw) ?_
    | with_reducible refine State.setFld_same _ _ _ _ (Wr.sub (by decide) hw) ?_
    | split
    | (with_reducible apply Same.zeta); split

def State.takeSettings_parts : Nat := 0x1791f42
theorem State.takeSettings_same {P : Part} {s0 : State} (s : State) (m : Nat) (hw : State.takeSettings_parts.testBit
    P.ctorIdx = false) (h : Same P s0 s) :
    Same P s0 (State.takeSettings s m) := by
  unfold State.takeSettings
  repeat' first
    | with_reducible assumption
    | intro _
    | with_reducible refine State.setAll_same _ _ (Wr.sub (by decide) hw) ?_
    | with_reducible refine State.modPm_same _ _ _ (Wr.sub (by decide) hw) ?_
    | with_reducible refine State.safeLevels_same _ _ (Wr.sub (by decide) hw) ?_
    | with_reducible refine State.setCmd_same _ _ _ _ _ _ (Wr.sub (by decide) hw) ?_
    | with_reducible apply Same.whenIf
    | with_reducible apply Same.ite
    | split
    | (with_reducible apply Same.zeta); split

def State.periodStart_parts : Nat := 0x1791f42
theorem State.periodStart_same {P : Part} {s0 : State} (s : State) (m : Nat) (wcin : List (Nat × Int)) (hw :
    State.periodStart_parts.testBit P.ctorIdx = false) (h : Same P s0 s) :
    Same P s0 (State.periodStart s m wcin) := by
  unfold State.periodStart
  repeat' first
    | with_reducible assumption
    | intro _
    | with_reducible refine State.setLevel_same _ _ _ (Wr.sub (by decide) hw) ?_
    | with_reducible refine State.cycleClears_same _ _ (Wr.sub (by decide) hw) ?_
    | with_reducible refine State.takeSettings_same _ _ (Wr.sub (by decide) hw) ?_
    | with_reducible refine State.modPm_same _ _ _ (Wr.sub (by decide) hw) ?_
    | with_reducible apply Same.each
    | with_reducible apply Same.ite
    | split
    | (with_reducible apply Same.zeta); split

def execPwmZeroEvent_parts : Nat := 0x17d9f42
theorem execPwmZeroEvent_same {P : Part} {s0 : State} (m : Nat) (wcin : List (Nat × Int)) (s : State) (hw :
    execPwmZeroEvent_parts.testBit P.ctorIdx = false) (h : Same P s0 s) :
    SameOut P s0 (execPwmZeroEvent m wcin s) := by
  unfold execPwmZeroEvent
  repeat' first
    | with_reducible assumption
    | with_reducible apply SameOut.next
    | with_reducible apply SameOut.ite
    | intro _
    | with_reducible refine State.setFlag_same _ _ _ _ (Wr.sub (by decide) hw) ?_
    | with_reducible refine State.setFld_same _ _ _ _ (Wr.sub (by decide) hw) ?_
    | with_reducible refine State.periodStart_same _ _ _ (Wr.sub (by decide) hw) ?_
    | with_reducible refine State.reload_same _ _ _ (Wr.sub (by decide) hw) ?_
    | with_reducible refine State.linkOut_same _ _ _ (Wr.sub (by decide) hw) ?_
    | with_reducible refine State.pwmEvent_same _ _ _ (Wr.sub (by decide) hw) ?_
    | with_reducible refine State.pwmInt_same _ _ _ (Wr.sub (by decide) hw) ?_
    | with_reducible refine State.commandRules_same _ _ _ _ (Wr.sub (by decide) hw) ?_
    | with_reducible apply Same.whenIf
    | with_reducible apply Same.ite
    | split
    | dsimp only; split

def execPwmPeriodEvent_parts : Nat := 0x17d9f42
theorem execPwmPeriodEvent_same {P : Part} {s0 : State} (m : Nat) (wcin : List (Nat × Int)) (s : State) (hw :
    execPwmPeriodEvent_parts.testBit P.ctorIdx = false) (h : Same P s0 s) :
    SameOut P s0 (execPwmPeriodEvent m wcin s) := by
  unfold execPwmPeriodEvent
  repeat' first
    | with_reducible assumption
    | with_reducible apply SameOut.next
    | with_reducible apply SameOut.ite
    | intro _
    | with_reducible refine State.setFlag_same _ _ _ _ (Wr.sub (by decide) hw) ?_
    | with_reducible refine State.setFld_same _ _ _ _ (Wr.sub (by decide) hw) ?_
    | with_reducible refine State.periodStart_same _ _ _ (Wr.sub (by decide) hw) ?_
    | with_reducible refine State.reload_same _ _ _ (Wr.sub (by decide) hw) ?_
    | with_reducible refine State.linkOut_same _ _ _ (Wr.sub (by decide) hw) ?_
    | with_reducible refine State.pwmEvent_same _ _ _ (Wr.sub (by decide) hw) ?_
    | with_reducible refine State.pwmInt_same _ _ _ (Wr.sub (by decide) hw) ?_
    | with_reducible refine State.commandRules_same _ _ _ _ (Wr.sub (by decide) hw) ?_
    | with_reducible apply Same.whenIf
    | with_reducible apply Same.ite
    | split
    | dsimp only; split

def execPwmTriggerCompare_parts : Nat := 0x48802
theorem execPwmTriggerCompare_same {P : Part} {s0 : State} (m : Nat) (which : Nat) (falling : Bool) (s : State) (hw :
    execPwmTriggerCompare_parts.testBit P.ctorIdx = false) (h : Same P s0 s) :
    SameOut P s0 (execPwmTriggerCompare m which falling s) := by
  unfold execPwmTriggerCompare
  repeat' first
    | with_reducible assumption
    | with_reducible apply SameOut.next
    | with_reducible apply SameOut.ite
    | intro _
    | with_reducible refine State.setFlag_same _ _ _ _ (Wr.sub (by decide) hw) ?_
    | with_reducible refine State.setFld_same _ _ _ _ (Wr.sub (by decide) hw) ?_
    | with_reducible refine State.pwmEvent_same _ _ _ (Wr.sub (by decide) hw) ?_
    | with_reducible refine State.pwmInt_same _ _ _ (Wr.sub (by decide) hw) ?_
    | with_reducible apply Same.ite
    | split
    | dsimp only; split

def execPwmCompareMatch_parts : Nat := 0x1791f42
theorem execPwmCompareMatch_same {P : Part} {s0 : State} (m : Nat) (b : Bool) (falling : Bool) (s : State) (hw :
    execPwmCompareMatch_parts.testBit P.ctorIdx = false) (h : Same P s0 s) :
    SameOut P s0 (execPwmCompareMatch m b falling s) := by
  unfold execPwmCompareMatch
  repeat' first
    | with_reducible assumption
    | with_reducible apply SameOut.next
    | with_reducible apply SameOut.ite
    | intro _
    | with_reducible refine State.setFlag_same _ _ _ _ (Wr.sub (by decide) hw) ?_
    | with_reducible refine State.setFld_same _ _ _ _ (Wr.sub (by decide) hw) ?_
    | with_reducible refine State.linkOut_same _ _ _ (Wr.sub (by decide) hw) ?_
    | with_reducible refine State.pwmInt_same _ _ _ (Wr.sub (by decide) hw) ?_
    | with_reducible refine State.commandRules_same _ _ _ _ (Wr.sub (by decide) hw) ?_
    | with_reducible apply Same.whenIf
    | with_reducible apply Same.ite
    | split
    | dsimp only; split

def State.interlock_parts : Nat := 0x1711f42
theorem State.interlock_same {P : Part} {s0 : State} (s : State) (m : Nat) (hw : State.interlock_parts.testBit P.ctorIdx =
    false) (h : Same P s0 s) :
    Same P s0 (State.interlock s m) := by
  unfold State.interlock
  repeat' first
    | with_reducible assumption
    | intro _
    | with_reducible refine State.leaveFollow_same _ _ _ (Wr.sub (by decide) hw) ?_
    | with_reducible refine State.setSide_same _ _ _ _ _ _ _ (Wr.sub (by decide) hw) ?_
    | with_reducible refine State.modPm_same _ _ _ (Wr.sub (by decide) hw) ?_
    | split
    | (with_reducible apply Same.zeta); split

def State.innerExpiry_parts : Nat := 0x1791f42
theorem State.innerExpiry_same {P : Part} {s0 : State} (s : State) (m : Nat) (low : Bool) (hw :
    State.innerExpiry_parts.testBit P.ctorIdx = false) (h : Same P s0 s) :
    Same P s0 (State.innerExpiry s m low) := by
  unfold State.innerExpiry
  repeat' first
    | with_reducible assumption
    | intro _
    | with_reducible refine State.modPm_same _ _ _ (Wr.sub (by decide) hw) ?_
    | with_reducible refine State.startLeb_same _ _ _ (Wr.sub (by decide) hw) ?_
    | with_reducible refine State.interlock_same _ _ (Wr.sub (by decide) hw) ?_
    | with_reducible apply Same.whenIf
    | with_reducible apply Same.ite
    | split
    | (with_reducible apply Same.zeta); split

def execTurnOnDelayExpiry_parts : Nat := 0x1791f42
theorem execTurnOnDelayExpiry_same {P : Part} {s0 : State} (m : Nat) (low : Bool) (s : State) (hw :
    execTurnOnDelayExpiry_parts.testBit P.ctorIdx = false) (h : Same P s0 s) :
    SameOut P s0 (execTurnOnDelayExpiry m low s) := by
  unfold execTurnOnDelayExpiry
  repeat' first
    | with_reducible assumption
    | with_reducible apply SameOut.next
    | with_reducible apply SameOut.ite
    | intro _
    | with_reducible refine State.innerExpiry_same _ _ _ (Wr.sub (by decide) hw) ?_
    | with_reducible refine State.dueFalls_same _ _ _ (Wr.sub (by decide) hw) ?_
    | with_reducible refine State.modPm_same _ _ _ (Wr.sub (by decide) hw) ?_
    | with_reducible refine State.interlock_same _ _ (Wr.sub (by decide) hw) ?_
    | with_reducible refine State.setCmd_same _ _ _ _ _ _ (Wr.sub (by decide) hw) ?_
    | with_reducible apply Same.ite
    | split
    | dsimp only; split

def State.commitShd_parts : Nat := 0x100002
theorem State.commitShd_same {P : Part} {s0 : State} (s : State) (m : Nat) (w : Nat) (v : Nat) (direct : Bool) (hw :
    State.commitShd_parts.testBit P.ctorIdx = false) (h : Same P s0 s) :
    Same P s0 (State.commitShd s m w v direct) := by
  unfold State.commitShd
  repeat' first
    | with_reducible assumption
    | intro _
    | with_reducible refine State.modPm_same _ _ _ (Wr.sub (by decide) hw) ?_
    | with_reducible refine State.count_same _ _ _ (Wr.sub (by decide) hw) ?_
    | with_reducible refine State.setFld_same _ _ _ _ (Wr.sub (by decide) hw) ?_
    | with_reducible apply Same.whenIf
    | with_reducible apply Same.ite
    | split
    | (with_reducible apply Same.zeta); split

def State.shdLowWrite_parts : Nat := 0x100a02
theorem State.shdLowWrite_same {P : Part} {s0 : State} (s : State) (core : Nat) (m : Nat) (w : Nat) (v : Nat) (hw :
    State.shdLowWrite_parts.testBit P.ctorIdx = false) (h : Same P s0 s) :
    Same P s0 (State.shdLowWrite s core m w v) := by
  unfold State.shdLowWrite
  repeat' first
    | with_reducible assumption
    | intro _
    | with_reducible refine State.discarded_same _ _ _ (Wr.sub (by decide) hw) ?_
    | with_reducible apply Same.ite
    | fail_if_no_progress with_reducible refine Same.updPwm (W := State.shdLowWrite_parts) (by decide) hw ?_
    | split
    | (with_reducible apply Same.zeta); split

def State.shdHighWrite_parts : Nat := 0x100a02
theorem State.shdHighWrite_same {P : Part} {s0 : State} (s : State) (core : Nat) (m : Nat) (w : Nat) (v : Nat) (hw :
    State.shdHighWrite_parts.testBit P.ctorIdx = false) (h : Same P s0 s) :
    Same P s0 (State.shdHighWrite s core m w v) := by
  unfold State.shdHighWrite
  repeat' first
    | with_reducible assumption
    | intro _
    | with_reducible refine State.commitShd_same _ _ _ _ _ (Wr.sub (by decide) hw) ?_
    | with_reducible refine State.discarded_same _ _ _ (Wr.sub (by decide) hw) ?_
    | with_reducible apply Same.ite
    | fail_if_no_progress with_reducible refine Same.updPwm (W := State.shdHighWrite_parts) (by decide) hw ?_
    | split
    | (with_reducible apply Same.zeta); split

def execPwmShadowLowWrite_parts : Nat := 0x100b02
theorem execPwmShadowLowWrite_same {P : Part} {s0 : State} (core : Nat) (m : Nat) (w : Nat) (value : Nat) (s : State) (hw :
    execPwmShadowLowWrite_parts.testBit P.ctorIdx = false) (h : Same P s0 s) :
    SameOut P s0 (execPwmShadowLowWrite core m w value s) := by
  unfold execPwmShadowLowWrite
  repeat' first
    | with_reducible assumption
    | with_reducible apply SameOut.next
    | with_reducible apply SameOut.ite
    | intro _
    | with_reducible refine State.accessBlk_same _ _ _ _ _ (Wr.sub (by decide) hw) ?_ ?_
    | with_reducible refine State.shdLowWrite_same _ _ _ _ _ (Wr.sub (by decide) hw) ?_
    | with_reducible apply Same.ite
    | split
    | dsimp only; split

def execPwmShadowHighWrite_parts : Nat := 0x100b02
theorem execPwmShadowHighWrite_same {P : Part} {s0 : State} (core : Nat) (m : Nat) (w : Nat) (value : Nat) (s : State) (hw
    : execPwmShadowHighWrite_parts.testBit P.ctorIdx = false) (h : Same P s0 s) :
    SameOut P s0 (execPwmShadowHighWrite core m w value s) := by
  unfold execPwmShadowHighWrite
  repeat' first
    | with_reducible assumption
    | with_reducible apply SameOut.next
    | with_reducible apply SameOut.ite
    | intro _
    | with_reducible refine State.accessBlk_same _ _ _ _ _ (Wr.sub (by decide) hw) ?_ ?_
    | with_reducible refine State.shdHighWrite_same _ _ _ _ _ (Wr.sub (by decide) hw) ?_
    | with_reducible apply Same.ite
    | split
    | dsimp only; split

def State.stage_parts : Nat := 0x100a02
theorem State.stage_same {P : Part} {s0 : State} (s : State) (n : Nat) (m : Nat) (w : Nat) (v : Nat) (hw :
    State.stage_parts.testBit P.ctorIdx = false) (h : Same P s0 s) :
    Same P s0 (State.stage s n m w v) := by
  unfold State.stage
  repeat' first
    | with_reducible assumption
    | intro _
    | with_reducible refine State.modPm_same _ _ _ (Wr.sub (by decide) hw) ?_
    | with_reducible refine State.discarded_same _ _ _ (Wr.sub (by decide) hw) ?_
    | with_reducible apply Same.ite
    | split
    | (with_reducible apply Same.zeta); split

def State.markStaged_parts : Nat := 0x100000
theorem State.markStaged_same {P : Part} {s0 : State} (s : State) (n : Nat) (hw : State.markStaged_parts.testBit P.ctorIdx
    = false) (h : Same P s0 s) :
    Same P s0 (State.markStaged s n) := by
  unfold State.markStaged
  repeat' first
    | with_reducible assumption
    | intro _
    | with_reducible apply Same.ite
    | fail_if_no_progress with_reducible refine Same.updPwm (W := State.markStaged_parts) (by decide) hw ?_
    | split
    | (with_reducible apply Same.zeta); split

def State.dropStaged_parts : Nat := 0x100002
theorem State.dropStaged_same {P : Part} {s0 : State} (s : State) (n : Nat) (hw : State.dropStaged_parts.testBit P.ctorIdx
    = false) (h : Same P s0 s) :
    Same P s0 (State.dropStaged s n) := by
  unfold State.dropStaged
  repeat' first
    | with_reducible assumption
    | intro _
    | with_reducible refine State.modPm_same _ _ _ (Wr.sub (by decide) hw) ?_
    | with_reducible refine State.count_same _ _ _ (Wr.sub (by decide) hw) ?_
    | with_reducible apply Same.whenIf
    | with_reducible apply Same.each
    | split
    | (with_reducible apply Same.zeta); split

def State.stagingAtBell_parts : Nat := 0x100002
theorem State.stagingAtBell_same {P : Part} {s0 : State} (s : State) (hw : State.stagingAtBell_parts.testBit P.ctorIdx =
    false) (h : Same P s0 s) :
    Same P s0 (State.stagingAtBell s) := by
  unfold State.stagingAtBell
  repeat' first
    | with_reducible assumption
    | intro _
    | with_reducible refine State.modPm_same _ _ _ (Wr.sub (by decide) hw) ?_
    | with_reducible refine State.count_same _ _ _ (Wr.sub (by decide) hw) ?_
    | with_reducible apply Same.whenIf
    | with_reducible apply Same.each
    | split
    | (with_reducible apply Same.zeta); split

def State.captureShadows_parts : Nat := 0x80
theorem State.captureShadows_same {P : Part} {s0 : State} (s : State) (hw : State.captureShadows_parts.testBit P.ctorIdx =
    false) (h : Same P s0 s) :
    Same P s0 (State.captureShadows s) := by
  unfold State.captureShadows
  repeat' first
    | with_reducible assumption
    | intro _
    | with_reducible apply Same.ite
    | fail_if_no_progress with_reducible refine Same.updDup (W := State.captureShadows_parts) (by decide) hw ?_
    | split
    | (with_reducible apply Same.zeta); split

def execStagedMove_parts : Nat := 0x100082
theorem execStagedMove_same {P : Part} {s0 : State} (s : State) (hw : execStagedMove_parts.testBit P.ctorIdx = false) (h :
    Same P s0 s) :
    SameOut P s0 (execStagedMove s) := by
  unfold execStagedMove
  repeat' first
    | with_reducible assumption
    | with_reducible apply SameOut.next
    | with_reducible apply SameOut.ite
    | intro _
    | with_reducible refine State.captureShadows_same _ (Wr.sub (by decide) hw) ?_
    | with_reducible refine State.commitShd_same _ _ _ _ _ (Wr.sub (by decide) hw) ?_
    | with_reducible refine State.modPm_same _ _ _ (Wr.sub (by decide) hw) ?_
    | with_reducible refine State.count_same _ _ _ (Wr.sub (by decide) hw) ?_
    | with_reducible refine State.setOuten_same _ _ (Wr.sub (by decide) hw) ?_
    | with_reducible apply Same.whenIf
    | with_reducible apply Same.each
    | with_reducible apply Same.ite
    | fail_if_no_progress with_reducible refine Same.updDup (W := execStagedMove_parts) (by decide) hw ?_
    | split
    | dsimp only; split

def execDelayLineLock_parts : Nat := 0x2
theorem execDelayLineLock_same {P : Part} {s0 : State} (s : State) (hw : execDelayLineLock_parts.testBit P.ctorIdx = false)
    (h : Same P s0 s) :
    SameOut P s0 (execDelayLineLock s) := by
  unfold execDelayLineLock
  repeat' first
    | with_reducible assumption
    | with_reducible apply SameOut.next
    | intro _
    | with_reducible refine State.setFld_same _ _ _ _ (Wr.sub (by decide) hw) ?_
    | split
    | dsimp only; split

def execDelayLineLost_parts : Nat := 0xa02
theorem execDelayLineLost_same {P : Part} {s0 : State} (s : State) (hw : execDelayLineLost_parts.testBit P.ctorIdx = false)
    (h : Same P s0 s) :
    SameOut P s0 (execDelayLineLost s) := by
  unfold execDelayLineLost
  repeat' first
    | with_reducible assumption
    | with_reducible apply SameOut.next
    | intro _
    | with_reducible refine State.event_same _ _ _ _ _ (Wr.sub (by decide) hw) ?_
    | with_reducible refine State.setFld_same _ _ _ _ (Wr.sub (by decide) hw) ?_
    | split
    | dsimp only; split

def State.followNow_parts : Nat := 0x1711f42
theorem State.followNow_same {P : Part} {s0 : State} (s : State) (m : Nat) (hw : State.followNow_parts.testBit P.ctorIdx =
    false) (h : Same P s0 s) :
    Same P s0 (State.followNow s m) := by
  unfold State.followNow
  repeat' first
    | with_reducible assumption
    | intro _
    | with_reducible refine State.setFld_same _ _ _ _ (Wr.sub (by decide) hw) ?_
    | with_reducible refine State.setSide_same _ _ _ _ _ _ _ (Wr.sub (by decide) hw) ?_
    | with_reducible refine State.modPm_same _ _ _ (Wr.sub (by decide) hw) ?_
    | with_reducible apply Same.ite
    | split
    | (with_reducible apply Same.zeta); split

def execSafeLevelResumeCheck_parts : Nat := 0x1711f42
theorem execSafeLevelResumeCheck_same {P : Part} {s0 : State} (m : Nat) (s : State) (hw :
    execSafeLevelResumeCheck_parts.testBit P.ctorIdx = false) (h : Same P s0 s) :
    SameOut P s0 (execSafeLevelResumeCheck m s) := by
  unfold execSafeLevelResumeCheck
  repeat' first
    | with_reducible assumption
    | with_reducible apply SameOut.next
    | with_reducible apply SameOut.ite
    | intro _
    | with_reducible refine State.modPm_same _ _ _ (Wr.sub (by decide) hw) ?_
    | with_reducible refine State.padsOff_same _ _ _ _ (Wr.sub (by decide) hw) ?_
    | with_reducible refine State.followNow_same _ _ (Wr.sub (by decide) hw) ?_
    | with_reducible apply Same.whenIf
    | with_reducible apply Same.ite
    | split
    | dsimp only; split

def State.holdWrite_parts : Nat := 0x200a02
theorem State.holdWrite_same {P : Part} {s0 : State} (s : State) (m : Nat) (outen : Bool) (hw :
    State.holdWrite_parts.testBit P.ctorIdx = false) (h : Same P s0 s) :
    Same P s0 (State.holdWrite s m outen) := by
  unfold State.holdWrite
  repeat' first
    | with_reducible assumption
    | intro _
    | with_reducible refine State.gateNow_same _ _ _ _ (Wr.sub (by decide) hw) ?_
    | with_reducible refine State.setBit_same _ _ _ _ _ (Wr.sub (by decide) hw) ?_
    | fail_if_no_progress with_reducible refine Same.updGate (W := State.holdWrite_parts) (by decide) hw ?_
    | split
    | (with_reducible apply Same.zeta); split

def State.cancelHeld_parts : Nat := 0x200000
theorem State.cancelHeld_same {P : Part} {s0 : State} (s : State) (m : Nat) (outen : Bool) (hw :
    State.cancelHeld_parts.testBit P.ctorIdx = false) (h : Same P s0 s) :
    Same P s0 (State.cancelHeld s m outen) := by
  unfold State.cancelHeld
  repeat' first
    | with_reducible assumption
    | intro _
    | fail_if_no_progress with_reducible refine Same.updGate (W := State.cancelHeld_parts) (by decide) hw ?_
    | split
    | (with_reducible apply Same.zeta); split

def State.outenWrite_parts : Nat := 0x1711f42
theorem State.outenWrite_same {P : Part} {s0 : State} (s : State) (w : Wing) (m : Nat) (on : Bool) (hw :
    State.outenWrite_parts.testBit P.ctorIdx = false) (h : Same P s0 s) :
    Same P s0 (State.outenWrite s w m on) := by
  unfold State.outenWrite
  repeat' first
    | with_reducible assumption
    | intro _
    | with_reducible refine State.clearOuten_same _ _ (Wr.sub (by decide) hw) ?_
    | with_reducible refine State.cancelHeld_same _ _ _ (Wr.sub (by decide) hw) ?_
    | with_reducible refine State.discarded_same _ _ _ (Wr.sub (by decide) hw) ?_
    | with_reducible refine State.gateNow_same _ _ _ _ (Wr.sub (by decide) hw) ?_
    | with_reducible refine State.holdWrite_same _ _ _ (Wr.sub (by decide) hw) ?_
    | with_reducible refine State.setOuten_same _ _ (Wr.sub (by decide) hw) ?_
    | with_reducible apply Same.ite
    | split
    | (with_reducible apply Same.zeta); split

def execPwmOutenWrite_parts : Nat := 0x1711f42
theorem execPwmOutenWrite_same {P : Part} {s0 : State} (core : Nat) (m : Nat) (on : Bool) (s : State) (hw :
    execPwmOutenWrite_parts.testBit P.ctorIdx = false) (h : Same P s0 s) :
    SameOut P s0 (execPwmOutenWrite core m on s) := by
  unfold execPwmOutenWrite
  repeat' first
    | with_reducible assumption
    | with_reducible apply SameOut.next
    | intro _
    | with_reducible refine State.accessBlk_same _ _ _ _ _ (Wr.sub (by decide) hw) ?_ ?_
    | with_reducible refine State.outenWrite_same _ _ _ _ (Wr.sub (by decide) hw) ?_
    | split
    | dsimp only; split

def State.cntEnWrite_parts : Nat := 0x1711f42
theorem State.cntEnWrite_same {P : Part} {s0 : State} (s : State) (m : Nat) (on : Bool) (hw :
    State.cntEnWrite_parts.testBit P.ctorIdx = false) (h : Same P s0 s) :
    Same P s0 (State.cntEnWrite s m on) := by
  unfold State.cntEnWrite
  repeat' first
    | with_reducible assumption
    | intro _
    | with_reducible refine State.stopCounter_same _ _ (Wr.sub (by decide) hw) ?_
    | with_reducible refine State.cancelHeld_same _ _ _ (Wr.sub (by decide) hw) ?_
    | with_reducible refine State.holdWrite_same _ _ _ (Wr.sub (by decide) hw) ?_
    | with_reducible refine State.startCounter_same _ _ (Wr.sub (by decide) hw) ?_
    | with_reducible apply Same.ite
    | split
    | (with_reducible apply Same.zeta); split

def execPwmCntEnWrite_parts : Nat := 0x1711f42
theorem execPwmCntEnWrite_same {P : Part} {s0 : State} (core : Nat) (m : Nat) (on : Bool) (s : State) (hw :
    execPwmCntEnWrite_parts.testBit P.ctorIdx = false) (h : Same P s0 s) :
    SameOut P s0 (execPwmCntEnWrite core m on s) := by
  unfold execPwmCntEnWrite
  repeat' first
    | with_reducible assumption
    | with_reducible apply SameOut.next
    | intro _
    | with_reducible refine State.accessBlk_same _ _ _ _ _ (Wr.sub (by decide) hw) ?_ ?_
    | with_reducible refine State.cntEnWrite_same _ _ _ (Wr.sub (by decide) hw) ?_
    | split
    | dsimp only; split

def State.armWrite_parts : Nat := 0x2
theorem State.armWrite_same {P : Part} {s0 : State} (s : State) (m : Nat) (on : Bool) (hw : State.armWrite_parts.testBit
    P.ctorIdx = false) (h : Same P s0 s) :
    Same P s0 (State.armWrite s m on) := by
  unfold State.armWrite
  repeat' first
    | with_reducible assumption
    | intro _
    | with_reducible refine State.setFlag_same _ _ _ _ (Wr.sub (by decide) hw) ?_
    | with_reducible apply Same.whenIf
    | split
    | (with_reducible apply Same.zeta); split

def execPwmArmWrite_parts : Nat := 0xb02
theorem execPwmArmWrite_same {P : Part} {s0 : State} (core : Nat) (m : Nat) (on : Bool) (s : State) (hw :
    execPwmArmWrite_parts.testBit P.ctorIdx = false) (h : Same P s0 s) :
    SameOut P s0 (execPwmArmWrite core m on s) := by
  unfold execPwmArmWrite
  repeat' first
    | with_reducible assumption
    | with_reducible apply SameOut.next
    | intro _
    | with_reducible refine State.accessBlk_same _ _ _ _ _ (Wr.sub (by decide) hw) ?_ ?_
    | with_reducible refine State.armWrite_same _ _ _ (Wr.sub (by decide) hw) ?_
    | split
    | dsimp only; split

def State.gstartWrite_parts : Nat := 0x100000
theorem State.gstartWrite_same {P : Part} {s0 : State} (s : State) (mask : Nat) (hw : State.gstartWrite_parts.testBit
    P.ctorIdx = false) (h : Same P s0 s) :
    Same P s0 (State.gstartWrite s mask) := by
  unfold State.gstartWrite
  repeat' first
    | with_reducible assumption
    | intro _
    | fail_if_no_progress with_reducible refine Same.updPwm (W := State.gstartWrite_parts) (by decide) hw ?_
    | split
    | (with_reducible apply Same.zeta); split

def execPwmGstartWrite_parts : Nat := 0x100b02
theorem execPwmGstartWrite_same {P : Part} {s0 : State} (core : Nat) (mask : Nat) (s : State) (hw :
    execPwmGstartWrite_parts.testBit P.ctorIdx = false) (h : Same P s0 s) :
    SameOut P s0 (execPwmGstartWrite core mask s) := by
  unfold execPwmGstartWrite
  repeat' first
    | with_reducible assumption
    | with_reducible apply SameOut.next
    | intro _
    | with_reducible refine State.accessBlk_same _ _ _ _ _ (Wr.sub (by decide) hw) ?_ ?_
    | with_reducible refine State.gstartWrite_same _ _ (Wr.sub (by decide) hw) ?_
    | split
    | dsimp only; split

def execGroupStartExecute_parts : Nat := 0x500002
theorem execGroupStartExecute_same {P : Part} {s0 : State} (s : State) (hw : execGroupStartExecute_parts.testBit P.ctorIdx
    = false) (h : Same P s0 s) :
    SameOut P s0 (execGroupStartExecute s) := by
  unfold execGroupStartExecute
  repeat' first
    | with_reducible assumption
    | with_reducible apply SameOut.next
    | intro _
    | with_reducible refine State.startCounter_same _ _ (Wr.sub (by decide) hw) ?_
    | with_reducible apply Same.each
    | fail_if_no_progress with_reducible refine Same.updPwm (W := execGroupStartExecute_parts) (by decide) hw ?_
    | split
    | dsimp only; split

def execPwmTimedStart_parts : Nat := 0x500002
theorem execPwmTimedStart_same {P : Part} {s0 : State} (m : Nat) (s : State) (hw : execPwmTimedStart_parts.testBit
    P.ctorIdx = false) (h : Same P s0 s) :
    SameOut P s0 (execPwmTimedStart m s) := by
  unfold execPwmTimedStart
  repeat' first
    | with_reducible assumption
    | with_reducible apply SameOut.next
    | with_reducible apply SameOut.ite
    | intro _
    | with_reducible refine State.startCounter_same _ _ (Wr.sub (by decide) hw) ?_
    | with_reducible refine State.setFld_same _ _ _ _ (Wr.sub (by decide) hw) ?_
    | with_reducible apply Same.ite
    | split
    | dsimp only; split

def execPwmLinkPulse_parts : Nat := 0x100002
theorem execPwmLinkPulse_same {P : Part} {s0 : State} (m : Nat) (s : State) (hw : execPwmLinkPulse_parts.testBit P.ctorIdx
    = false) (h : Same P s0 s) :
    SameOut P s0 (execPwmLinkPulse m s) := by
  unfold execPwmLinkPulse
  repeat' first
    | with_reducible assumption
    | with_reducible apply SameOut.next
    | with_reducible apply SameOut.ite
    | intro _
    | with_reducible refine State.modPm_same _ _ _ (Wr.sub (by decide) hw) ?_
    | with_reducible refine State.loadCount_same _ _ _ (Wr.sub (by decide) hw) ?_
    | with_reducible refine State.sendLink_same _ _ _ (Wr.sub (by decide) hw) ?_
    | with_reducible apply Same.whenIf
    | with_reducible apply Same.ite
    | fail_if_no_progress with_reducible refine Same.updPwm (W := execPwmLinkPulse_parts) (by decide) hw ?_
    | split
    | dsimp only; split

def State.intWrite_parts : Nat := 0x2
theorem State.intWrite_same {P : Part} {s0 : State} (s : State) (m : Nat) (isel : Nat) (presc : Nat) (ien : Bool) (clr :
    Bool) (hw : State.intWrite_parts.testBit P.ctorIdx = false) (h : Same P s0 s) :
    Same P s0 (State.intWrite s m isel presc ien clr) := by
  unfold State.intWrite
  repeat' first
    | with_reducible assumption
    | intro _
    | with_reducible refine State.setFlag_same _ _ _ _ (Wr.sub (by decide) hw) ?_
    | with_reducible refine State.setFld_same _ _ _ _ (Wr.sub (by decide) hw) ?_
    | with_reducible apply Same.whenIf
    | with_reducible apply Same.ite
    | split
    | (with_reducible apply Same.zeta); split

def execPwmIntWrite_parts : Nat := 0xb02
theorem execPwmIntWrite_same {P : Part} {s0 : State} (core : Nat) (m : Nat) (isel : Nat) (presc : Nat) (ien : Bool) (clr :
    Bool) (s : State) (hw : execPwmIntWrite_parts.testBit P.ctorIdx = false) (h : Same P s0 s) :
    SameOut P s0 (execPwmIntWrite core m isel presc ien clr s) := by
  unfold execPwmIntWrite
  repeat' first
    | with_reducible assumption
    | with_reducible apply SameOut.next
    | intro _
    | with_reducible refine State.accessBlk_same _ _ _ _ _ (Wr.sub (by decide) hw) ?_ ?_
    | with_reducible refine State.intWrite_same _ _ _ _ _ _ (Wr.sub (by decide) hw) ?_
    | split
    | dsimp only; split

def State.modTick_parts : Nat := 0x1791f42
theorem State.modTick_same {P : Part} {s0 : State} (s : State) (m : Nat) (hw : State.modTick_parts.testBit P.ctorIdx =
    false) (h : Same P s0 s) :
    Same P s0 (State.modTick s m) := by
  unfold State.modTick
  repeat' first
    | with_reducible assumption
    | intro _
    | with_reducible refine State.dueFalls_same _ _ _ (Wr.sub (by decide) hw) ?_
    | with_reducible refine State.earlyFall_same _ _ (Wr.sub (by decide) hw) ?_
    | with_reducible refine State.setFlag_same _ _ _ _ (Wr.sub (by decide) hw) ?_
    | with_reducible refine State.setFld_same _ _ _ _ (Wr.sub (by decide) hw) ?_
    | with_reducible apply Same.ite
    | split
    | (with_reducible apply Same.zeta); split

def State.advanceCounters_parts : Nat := 0x1791f42
theorem State.advanceCounters_same {P : Part} {s0 : State} (s : State) (hw : State.advanceCounters_parts.testBit P.ctorIdx
    = false) (h : Same P s0 s) :
    Same P s0 (State.advanceCounters s) := by
  unfold State.advanceCounters
  repeat' first
    | with_reducible assumption
    | intro _
    | with_reducible refine State.modTick_same _ _ (Wr.sub (by decide) hw) ?_
    | with_reducible apply Same.each
    | split
    | (with_reducible apply Same.zeta); split

end Sys2Proof.Machine
end

