-- ==== Sys2Proof/Laws/SameGate.lean ====
section
/-!
SUPPORT. Which parts of State the operations of Machine/Gate.lean can change (Laws/Same.lean), as bits by the part's number, and that
they leave every other as it was.
-/
namespace Sys2Proof.Machine

set_option linter.unusedTactic false
set_option linter.unreachableTactic false

def State.fltReport_parts : Nat := 0x1711f42
theorem State.fltReport_same {P : Part} {s0 : State} (s : State) (l : List (Nat × Nat)) (hw : State.fltReport_parts.testBit
    P.ctorIdx = false) (h : Same P s0 s) :
    Same P s0 (State.fltReport s l) := by
  unfold State.fltReport
  repeat' first
    | with_reducible assumption
    | intro _
    | with_reducible refine State.setFld_same _ _ _ _ (Wr.sub (by decide) hw) ?_
    | with_reducible refine State.count_same _ _ _ (Wr.sub (by decide) hw) ?_
    | with_reducible refine State.setBit_same _ _ _ _ _ (Wr.sub (by decide) hw) ?_
    | with_reducible refine State.runEntry_same _ _ _ (Wr.sub (by decide) hw) ?_
    | with_reducible refine State.gateEvent_same _ _ _ _ _ _ (Wr.sub (by decide) hw) ?_
    | with_reducible apply Same.each
    | with_reducible apply Same.foldl
    | with_reducible apply Same.ite
    | split
    | (with_reducible apply Same.zeta); split

def State.endWindows_parts : Nat := 0x200002
theorem State.endWindows_same {P : Part} {s0 : State} (s : State) (mask : Nat) (hw : State.endWindows_parts.testBit
    P.ctorIdx = false) (h : Same P s0 s) :
    Same P s0 (State.endWindows s mask).1 := by
  unfold State.endWindows
  repeat' first
    | with_reducible assumption
    | intro _
    | with_reducible refine State.setBit_same _ _ _ _ _ (Wr.sub (by decide) hw) ?_
    | with_reducible apply Same.each
    | with_reducible apply Same.foldl
    | fail_if_no_progress with_reducible refine Same.updGate (W := State.endWindows_parts) (by decide) hw ?_
    | dsimp only
    | split
    | (with_reducible apply Same.zeta); split

def execFltQualified_parts : Nat := 0x1711f42
theorem execFltQualified_same {P : Part} {s0 : State} (mask : Nat) (ended : Nat) (s : State) (hw :
    execFltQualified_parts.testBit P.ctorIdx = false) (h : Same P s0 s) :
    SameOut P s0 (execFltQualified mask ended s) := by
  unfold execFltQualified
  repeat' first
    | with_reducible assumption
    | with_reducible apply SameOut.next
    | with_reducible apply SameOut.ite
    | intro _
    | with_reducible refine State.endWindows_same _ _ (Wr.sub (by decide) hw) ?_
    | (with_reducible refine Same.fst ?_ (by assumption)); with_reducible refine State.endWindows_same _ _ (Wr.sub (by decide) hw) ?_
    | with_reducible refine State.setBit_same _ _ _ _ _ (Wr.sub (by decide) hw) ?_
    | with_reducible refine State.fltReport_same _ _ (Wr.sub (by decide) hw) ?_
    | with_reducible apply Same.each
    | with_reducible apply Same.ite
    | fail_if_no_progress with_reducible refine Same.updGate (W := execFltQualified_parts) (by decide) hw ?_
    | split
    | dsimp only; split

def execFltBlankingEnd_parts : Nat := 0x1711f42
theorem execFltBlankingEnd_same {P : Part} {s0 : State} (mask : Nat) (s : State) (hw : execFltBlankingEnd_parts.testBit
    P.ctorIdx = false) (h : Same P s0 s) :
    SameOut P s0 (execFltBlankingEnd mask s) := by
  unfold execFltBlankingEnd
  repeat' first
    | with_reducible assumption
    | with_reducible apply SameOut.next
    | with_reducible apply SameOut.ite
    | intro _
    | with_reducible refine State.endWindows_same _ _ (Wr.sub (by decide) hw) ?_
    | (with_reducible refine Same.fst ?_ (by assumption)); with_reducible refine State.endWindows_same _ _ (Wr.sub (by decide) hw) ?_
    | with_reducible refine State.fltReport_same _ _ (Wr.sub (by decide) hw) ?_
    | with_reducible apply Same.ite
    | split
    | dsimp only; split

def execFltQualifiedHigh_parts : Nat := 0x200002
theorem execFltQualifiedHigh_same {P : Part} {s0 : State} (m : Nat) (s : State) (hw : execFltQualifiedHigh_parts.testBit
    P.ctorIdx = false) (h : Same P s0 s) :
    SameOut P s0 (execFltQualifiedHigh m s) := by
  unfold execFltQualifiedHigh
  repeat' first
    | with_reducible assumption
    | with_reducible apply SameOut.next
    | with_reducible apply SameOut.ite
    | intro _
    | with_reducible refine State.setBit_same _ _ _ _ _ (Wr.sub (by decide) hw) ?_
    | with_reducible apply Same.ite
    | fail_if_no_progress with_reducible refine Same.updGate (W := execFltQualifiedHigh_parts) (by decide) hw ?_
    | split
    | dsimp only; split

def execRdyLost_parts : Nat := 0x1711f42
theorem execRdyLost_same {P : Part} {s0 : State} (m : Nat) (s : State) (hw : execRdyLost_parts.testBit P.ctorIdx = false)
    (h : Same P s0 s) :
    SameOut P s0 (execRdyLost m s) := by
  unfold execRdyLost
  repeat' first
    | with_reducible assumption
    | with_reducible apply SameOut.next
    | with_reducible apply SameOut.ite
    | intro _
    | with_reducible refine State.setBit_same _ _ _ _ _ (Wr.sub (by decide) hw) ?_
    | with_reducible refine State.runEntry_same _ _ _ (Wr.sub (by decide) hw) ?_
    | with_reducible refine State.gateNow_same _ _ _ _ (Wr.sub (by decide) hw) ?_
    | with_reducible apply Same.whenIf
    | with_reducible apply Same.ite
    | split
    | dsimp only; split

def execRdyQualifiedHigh_parts : Nat := 0x2
theorem execRdyQualifiedHigh_same {P : Part} {s0 : State} (m : Nat) (s : State) (hw : execRdyQualifiedHigh_parts.testBit
    P.ctorIdx = false) (h : Same P s0 s) :
    SameOut P s0 (execRdyQualifiedHigh m s) := by
  unfold execRdyQualifiedHigh
  repeat' first
    | with_reducible assumption
    | with_reducible apply SameOut.next
    | with_reducible apply SameOut.ite
    | intro _
    | with_reducible refine State.setBit_same _ _ _ _ _ (Wr.sub (by decide) hw) ?_
    | with_reducible apply Same.ite
    | split
    | dsimp only; split

def execShootThrough_parts : Nat := 0x1711f42
theorem execShootThrough_same {P : Part} {s0 : State} (m : Nat) (s : State) (hw : execShootThrough_parts.testBit P.ctorIdx
    = false) (h : Same P s0 s) :
    SameOut P s0 (execShootThrough m s) := by
  unfold execShootThrough
  repeat' first
    | with_reducible assumption
    | with_reducible apply SameOut.next
    | with_reducible apply SameOut.ite
    | intro _
    | with_reducible refine State.modPm_same _ _ _ (Wr.sub (by decide) hw) ?_
    | with_reducible refine State.count_same _ _ _ (Wr.sub (by decide) hw) ?_
    | with_reducible refine State.setBit_same _ _ _ _ _ (Wr.sub (by decide) hw) ?_
    | with_reducible refine State.runEntry_same _ _ _ (Wr.sub (by decide) hw) ?_
    | with_reducible refine State.gateNow_same _ _ _ _ (Wr.sub (by decide) hw) ?_
    | with_reducible apply Same.ite
    | split
    | dsimp only; split

def State.swtrig_parts : Nat := 0x1711f42
theorem State.swtrig_same {P : Part} {s0 : State} (s : State) (w : Wing) (trig : Nat) (hw : State.swtrig_parts.testBit
    P.ctorIdx = false) (h : Same P s0 s) :
    Same P s0 (State.swtrig s w trig) := by
  unfold State.swtrig
  repeat' first
    | with_reducible assumption
    | intro _
    | with_reducible refine State.runEntry_same _ _ _ (Wr.sub (by decide) hw) ?_
    | with_reducible refine State.discarded_same _ _ _ (Wr.sub (by decide) hw) ?_
    | with_reducible apply Same.each
    | with_reducible apply Same.ite
    | split
    | (with_reducible apply Same.zeta); split

def execGiSwtrigWrite_parts : Nat := 0x1711f42
theorem execGiSwtrigWrite_same {P : Part} {s0 : State} (core : Nat) (trig : Nat) (s : State) (hw :
    execGiSwtrigWrite_parts.testBit P.ctorIdx = false) (h : Same P s0 s) :
    SameOut P s0 (execGiSwtrigWrite core trig s) := by
  unfold execGiSwtrigWrite
  repeat' first
    | with_reducible assumption
    | with_reducible apply SameOut.next
    | intro _
    | with_reducible refine State.accessBlk_same _ _ _ _ _ (Wr.sub (by decide) hw) ?_ ?_
    | with_reducible refine State.swtrig_same _ _ _ (Wr.sub (by decide) hw) ?_
    | split
    | dsimp only; split

def execSequencerGapEnd_parts : Nat := 0x1711f42
theorem execSequencerGapEnd_same {P : Part} {s0 : State} (k : Nat) (s : State) (hw : execSequencerGapEnd_parts.testBit
    P.ctorIdx = false) (h : Same P s0 s) :
    SameOut P s0 (execSequencerGapEnd k s) := by
  unfold execSequencerGapEnd
  repeat' first
    | with_reducible assumption
    | with_reducible apply SameOut.next
    | with_reducible apply SameOut.ite
    | intro _
    | with_reducible refine State.seqFallback_same _ (Wr.sub (by decide) hw) ?_
    | with_reducible refine State.gapEnd_same _ _ (Wr.sub (by decide) hw) ?_
    | with_reducible apply Same.ite
    | split
    | dsimp only; split

def execRefreshInsert_parts : Nat := 0x1791f42
theorem execRefreshInsert_same {P : Part} {s0 : State} (m : Nat) (s : State) (hw : execRefreshInsert_parts.testBit
    P.ctorIdx = false) (h : Same P s0 s) :
    SameOut P s0 (execRefreshInsert m s) := by
  unfold execRefreshInsert
  repeat' first
    | with_reducible assumption
    | with_reducible apply SameOut.next
    | with_reducible apply SameOut.ite
    | intro _
    | with_reducible refine State.setCmd_same _ _ _ _ _ _ (Wr.sub (by decide) hw) ?_
    | with_reducible refine State.count_same _ _ _ (Wr.sub (by decide) hw) ?_
    | with_reducible refine State.modPm_same _ _ _ (Wr.sub (by decide) hw) ?_
    | with_reducible apply Same.ite
    | split
    | dsimp only; split

def execRefreshPhaseEnd_parts : Nat := 0x1791f42
theorem execRefreshPhaseEnd_same {P : Part} {s0 : State} (m : Nat) (s : State) (hw : execRefreshPhaseEnd_parts.testBit
    P.ctorIdx = false) (h : Same P s0 s) :
    SameOut P s0 (execRefreshPhaseEnd m s) := by
  unfold execRefreshPhaseEnd
  repeat' first
    | with_reducible assumption
    | with_reducible apply SameOut.next
    | with_reducible apply SameOut.ite
    | intro _
    | with_reducible refine State.modPm_same _ _ _ (Wr.sub (by decide) hw) ?_
    | with_reducible refine State.setCmd_same _ _ _ _ _ _ (Wr.sub (by decide) hw) ?_
    | with_reducible apply Same.whenIf
    | with_reducible apply Same.ite
    | split
    | dsimp only; split

end Sys2Proof.Machine
end

