-- ==== Sys2Proof/Laws/SameRecess.lean ====
section
/-!
SUPPORT. Which parts of State the operations of Machine/Recess.lean can change (Laws/Same.lean), as bits by the part's number, and that
they leave every other as it was.
-/
namespace Sys2Proof.Machine

set_option linter.unusedTactic false
set_option linter.unreachableTactic false

def State.answer_parts : Nat := 0x400
theorem State.answer_same {P : Part} {s0 : State} (s : State) (code : Nat) (hw : State.answer_parts.testBit P.ctorIdx =
    false) (h : Same P s0 s) :
    Same P s0 (State.answer s code) := by
  unfold State.answer
  repeat' first
    | with_reducible assumption
    | intro _
    | fail_if_no_progress with_reducible refine Same.updDict (W := State.answer_parts) (by decide) hw ?_
    | split
    | (with_reducible apply Same.zeta); split

def State.enterRecess_parts : Nat := 0x48e02
theorem State.enterRecess_same {P : Part} {s0 : State} (s : State) (g : Nat) (hw : State.enterRecess_parts.testBit
    P.ctorIdx = false) (h : Same P s0 s) :
    Same P s0 (State.enterRecess s g) := by
  unfold State.enterRecess
  repeat' first
    | with_reducible assumption
    | intro _
    | with_reducible refine State.modGroup_same _ _ _ (Wr.sub (by decide) hw) ?_
    | with_reducible refine State.sarLeave_same _ (Wr.sub (by decide) hw) ?_
    | with_reducible refine State.modLeave_same _ (Wr.sub (by decide) hw) ?_
    | with_reducible apply Same.whenIf
    | with_reducible apply Same.ite
    | split
    | (with_reducible apply Same.zeta); split

def State.groupAct_parts : Nat := 0x48e02
theorem State.groupAct_same {P : Part} {s0 : State} (s : State) (g : Nat) (cmd : Nat) (hw : State.groupAct_parts.testBit
    P.ctorIdx = false) (h : Same P s0 s) :
    Same P s0 (State.groupAct s g cmd) := by
  unfold State.groupAct
  repeat' first
    | with_reducible assumption
    | intro _
    | with_reducible refine State.answer_same _ _ (Wr.sub (by decide) hw) ?_
    | with_reducible refine State.modGroup_same _ _ _ (Wr.sub (by decide) hw) ?_
    | with_reducible refine State.enterRecess_same _ _ (Wr.sub (by decide) hw) ?_
    | with_reducible apply Same.ite
    | split
    | (with_reducible apply Same.zeta); split

def State.groupCommand_parts : Nat := 0x48e02
theorem State.groupCommand_same {P : Part} {s0 : State} (s : State) (g : Nat) (cmd : Nat) (hw :
    State.groupCommand_parts.testBit P.ctorIdx = false) (h : Same P s0 s) :
    Same P s0 (State.groupCommand s g cmd) := by
  unfold State.groupCommand
  repeat' first
    | with_reducible assumption
    | intro _
    | with_reducible refine State.answer_same _ _ (Wr.sub (by decide) hw) ?_
    | with_reducible refine State.mgmtEvent_same _ _ _ _ _ (Wr.sub (by decide) hw) ?_
    | with_reducible refine State.modGroup_same _ _ _ (Wr.sub (by decide) hw) ?_
    | with_reducible refine State.groupAct_same _ _ _ (Wr.sub (by decide) hw) ?_
    | with_reducible apply Same.ite
    | split
    | (with_reducible apply Same.zeta); split

def State.cacheAnswer_parts : Nat := 0x400
theorem State.cacheAnswer_same {P : Part} {s0 : State} (s : State) (port : Nat) (source : Nat) (tag : Nat) (code : Nat)
    (data : List Nat) (hw : State.cacheAnswer_parts.testBit P.ctorIdx = false) (h : Same P s0 s) :
    Same P s0 (State.cacheAnswer s port source tag code data) := by
  unfold State.cacheAnswer
  repeat' first
    | with_reducible assumption
    | intro _
    | fail_if_no_progress with_reducible refine Same.updDict (W := State.cacheAnswer_parts) (by decide) hw ?_
    | split
    | (with_reducible apply Same.zeta); split

def State.idpAnswer_parts : Nat := 0x400
theorem State.idpAnswer_same {P : Part} {s0 : State} (s : State) (p : Nat) (src : Nat) (tag : Nat) (code : Nat) (data :
    List Nat) (hw : State.idpAnswer_parts.testBit P.ctorIdx = false) (h : Same P s0 s) :
    Same P s0 (State.idpAnswer s p src tag code data) := by
  unfold State.idpAnswer
  repeat' first
    | with_reducible assumption
    | intro _
    | with_reducible refine State.answer_same _ _ (Wr.sub (by decide) hw) ?_
    | with_reducible refine State.cacheAnswer_same _ _ _ _ _ _ (Wr.sub (by decide) hw) ?_
    | with_reducible apply Same.ite
    | fail_if_no_progress with_reducible refine Same.updDict (W := State.idpAnswer_parts) (by decide) hw ?_
    | split
    | (with_reducible apply Same.zeta); split

def State.usdoAnswer_parts : Nat := 0x400
theorem State.usdoAnswer_same {P : Part} {s0 : State} (s : State) (p : Nat) (client : Nat) (code : Nat) (data : List Nat)
    (hw : State.usdoAnswer_parts.testBit P.ctorIdx = false) (h : Same P s0 s) :
    Same P s0 (State.usdoAnswer s p client code data) := by
  unfold State.usdoAnswer
  repeat' first
    | with_reducible assumption
    | intro _
    | with_reducible apply Same.ite
    | fail_if_no_progress with_reducible refine Same.updDict (W := State.usdoAnswer_parts) (by decide) hw ?_
    | split
    | (with_reducible apply Same.zeta); split

def State.tell_parts : Nat := 0xc02
theorem State.tell_same {P : Part} {s0 : State} (s : State) (a : Asker) (code : Nat) (data : List Nat) (hw :
    State.tell_parts.testBit P.ctorIdx = false) (h : Same P s0 s) :
    Same P s0 (State.tell s a code data) := by
  unfold State.tell
  repeat' first
    | with_reducible assumption
    | intro _
    | with_reducible refine State.idpAnswer_same _ _ _ _ _ _ (Wr.sub (by decide) hw) ?_
    | with_reducible refine State.usdoAnswer_same _ _ _ _ _ (Wr.sub (by decide) hw) ?_
    | with_reducible refine State.endGateway_same _ _ _ (Wr.sub (by decide) hw) ?_
    | split
    | (with_reducible apply Same.zeta); split

def State.tellAskers_parts : Nat := 0xc02
theorem State.tellAskers_same {P : Part} {s0 : State} (s : State) (g : Nat) (hw : State.tellAskers_parts.testBit P.ctorIdx
    = false) (h : Same P s0 s) :
    Same P s0 (State.tellAskers s g) := by
  unfold State.tellAskers
  repeat' first
    | with_reducible assumption
    | intro _
    | with_reducible refine State.modGroup_same _ _ _ (Wr.sub (by decide) hw) ?_
    | with_reducible refine State.tell_same _ _ _ _ (Wr.sub (by decide) hw) ?_
    | with_reducible apply Same.each
    | split
    | (with_reducible apply Same.zeta); split

def State.heldCommand_parts : Nat := 0x48e02
theorem State.heldCommand_same {P : Part} {s0 : State} (s : State) (g : Nat) (h_2 : Nat × Option Asker) (hw :
    State.heldCommand_parts.testBit P.ctorIdx = false) (h : Same P s0 s) :
    Same P s0 (State.heldCommand s g h_2) := by
  unfold State.heldCommand
  repeat' first
    | with_reducible assumption
    | intro _
    | with_reducible refine State.modGroup_same _ _ _ (Wr.sub (by decide) hw) ?_
    | with_reducible refine State.groupAct_same _ _ _ (Wr.sub (by decide) hw) ?_
    | with_reducible refine State.tell_same _ _ _ _ (Wr.sub (by decide) hw) ?_
    | with_reducible apply Same.each
    | with_reducible apply Same.ite
    | split
    | (with_reducible apply Same.zeta); split

def State.releaseHeld_parts : Nat := 0x48e02
theorem State.releaseHeld_same {P : Part} {s0 : State} (s : State) (g : Nat) (hw : State.releaseHeld_parts.testBit
    P.ctorIdx = false) (h : Same P s0 s) :
    Same P s0 (State.releaseHeld s g) := by
  unfold State.releaseHeld
  repeat' first
    | with_reducible assumption
    | intro _
    | with_reducible refine State.modGroup_same _ _ _ (Wr.sub (by decide) hw) ?_
    | with_reducible refine State.heldCommand_same _ _ _ (Wr.sub (by decide) hw) ?_
    | with_reducible apply Same.each
    | split
    | (with_reducible apply Same.zeta); split

def State.settleEntering_parts : Nat := 0x48e02
theorem State.settleEntering_same {P : Part} {s0 : State} (s : State) (hw : State.settleEntering_parts.testBit P.ctorIdx =
    false) (h : Same P s0 s) :
    Same P s0 (State.settleEntering s) := by
  unfold State.settleEntering
  repeat' first
    | with_reducible assumption
    | intro _
    | with_reducible refine State.releaseHeld_same _ _ (Wr.sub (by decide) hw) ?_
    | with_reducible refine State.modGroup_same _ _ _ (Wr.sub (by decide) hw) ?_
    | with_reducible apply Same.each
    | with_reducible apply Same.ite
    | split
    | (with_reducible apply Same.zeta); split

end Sys2Proof.Machine
end

