-- ==== Sys2Proof/Laws/SameEngine.lean ====
section
/-!
SUPPORT. Which parts of State the operations of Machine/Engine.lean can change (Laws/Same.lean), as bits by the part's number, and that
they leave every other as it was.
-/
namespace Sys2Proof.Machine

set_option linter.unusedTactic false
set_option linter.unreachableTactic false

def State.engEvent_parts : Nat := 0xa02
theorem State.engEvent_same {P : Part} {s0 : State} (s : State) (code : Nat) (n : Nat) (cause : Nat) (pc : Nat) (ecode :
    Nat) (value : Nat) (ts : Nat) (hw : State.engEvent_parts.testBit P.ctorIdx = false) (h : Same P s0 s) :
    Same P s0 (State.engEvent s code n cause pc ecode value ts) := by
  unfold State.engEvent
  repeat' first
    | with_reducible assumption
    | intro _
    | with_reducible refine State.emit_same _ _ _ (Wr.sub (by decide) hw) ?_
    | split
    | (with_reducible apply Same.zeta); split

def State.engStore_parts : Nat := 0x410a02
theorem State.engStore_same {P : Part} {s0 : State} (s : State) (n : Nat) (l : List (Nat × Nat)) (hw :
    State.engStore_parts.testBit P.ctorIdx = false) (h : Same P s0 s) :
    Same P s0 (State.engStore s n l) := by
  unfold State.engStore
  repeat' first
    | with_reducible assumption
    | intro _
    | with_reducible refine State.setEngWord_same _ _ _ _ (Wr.sub (by decide) hw) ?_
    | with_reducible refine State.mark_same _ _ _ _ (Wr.sub (by decide) hw) ?_
    | with_reducible refine State.badRead_same _ _ _ _ (Wr.sub (by decide) hw) ?_
    | with_reducible apply Same.each
    | with_reducible apply Same.ite
    | split
    | (with_reducible apply Same.zeta); split

def State.settleHeld_parts : Nat := 0xc10e02
theorem State.settleHeld_same {P : Part} {s0 : State} (s : State) (n : Nat) (hw : State.settleHeld_parts.testBit P.ctorIdx
    = false) (h : Same P s0 s) :
    Same P s0 (State.settleHeld s n) := by
  unfold State.settleHeld
  repeat' first
    | with_reducible assumption
    | intro _
    | with_reducible refine State.modEngine_same _ _ _ (Wr.sub (by decide) hw) ?_
    | with_reducible refine State.settleLate_same _ _ (Wr.sub (by decide) hw) ?_
    | with_reducible refine State.engStore_same _ _ _ (Wr.sub (by decide) hw) ?_
    | with_reducible apply Same.each
    | split
    | (with_reducible apply Same.zeta); split

def State.stopRun_parts : Nat := 0x500002
theorem State.stopRun_same {P : Part} {s0 : State} (s : State) (n : Nat) (hw : State.stopRun_parts.testBit P.ctorIdx =
    false) (h : Same P s0 s) :
    Same P s0 (State.stopRun s n) := by
  unfold State.stopRun
  repeat' first
    | with_reducible assumption
    | intro _
    | with_reducible refine State.dropStaged_same _ _ (Wr.sub (by decide) hw) ?_
    | with_reducible refine State.setFld_same _ _ _ _ (Wr.sub (by decide) hw) ?_
    | with_reducible refine State.modEngine_same _ _ _ (Wr.sub (by decide) hw) ?_
    | split
    | (with_reducible apply Same.zeta); split

def State.rollback_parts : Nat := 0xc10e02
theorem State.rollback_same {P : Part} {s0 : State} (s : State) (n : Nat) (hw : State.rollback_parts.testBit P.ctorIdx =
    false) (h : Same P s0 s) :
    Same P s0 (State.rollback s n) := by
  unfold State.rollback
  repeat' first
    | with_reducible assumption
    | intro _
    | with_reducible refine State.setEngWord_same _ _ _ _ (Wr.sub (by decide) hw) ?_
    | with_reducible refine State.settleHeld_same _ _ (Wr.sub (by decide) hw) ?_
    | with_reducible refine State.modEngine_same _ _ _ (Wr.sub (by decide) hw) ?_
    | with_reducible apply Same.each
    | split
    | (with_reducible apply Same.zeta); split

def State.abandonRun_parts : Nat := 0xd58e02
theorem State.abandonRun_same {P : Part} {s0 : State} (s : State) (n : Nat) (hw : State.abandonRun_parts.testBit P.ctorIdx
    = false) (h : Same P s0 s) :
    Same P s0 (State.abandonRun s n) := by
  unfold State.abandonRun
  repeat' first
    | with_reducible assumption
    | intro _
    | with_reducible refine State.settleEntering_same _ (Wr.sub (by decide) hw) ?_
    | with_reducible refine State.rollback_same _ _ (Wr.sub (by decide) hw) ?_
    | with_reducible refine State.stopRun_same _ _ (Wr.sub (by decide) hw) ?_
    | split
    | (with_reducible apply Same.zeta); split

def State.abandonWing_parts : Nat := 0xd58e02
theorem State.abandonWing_same {P : Part} {s0 : State} (s : State) (w : Wing) (hw : State.abandonWing_parts.testBit
    P.ctorIdx = false) (h : Same P s0 s) :
    Same P s0 (State.abandonWing s w) := by
  unfold State.abandonWing
  repeat' first
    | with_reducible assumption
    | intro _
    | with_reducible refine State.abandonRun_same _ _ (Wr.sub (by decide) hw) ?_
    | with_reducible apply Same.each
    | with_reducible apply Same.ite
    | split
    | (with_reducible apply Same.zeta); split

def State.overrun_parts : Nat := 0x1f59f42
theorem State.overrun_same {P : Part} {s0 : State} (s : State) (n : Nat) (hw : State.overrun_parts.testBit P.ctorIdx =
    false) (h : Same P s0 s) :
    Same P s0 (State.overrun s n) := by
  unfold State.overrun
  repeat' first
    | with_reducible assumption
    | intro _
    | with_reducible refine State.abandonRun_same _ _ (Wr.sub (by decide) hw) ?_
    | with_reducible refine State.setFld_same _ _ _ _ (Wr.sub (by decide) hw) ?_
    | with_reducible refine State.count_same _ _ _ (Wr.sub (by decide) hw) ?_
    | with_reducible refine State.engEvent_same _ _ _ _ _ _ _ _ (Wr.sub (by decide) hw) ?_
    | with_reducible refine State.modEngine_same _ _ _ (Wr.sub (by decide) hw) ?_
    | with_reducible refine State.runEntry_same _ _ _ (Wr.sub (by decide) hw) ?_
    | with_reducible apply Same.whenIf
    | split
    | (with_reducible apply Same.zeta); split

def State.setCopy_parts : Nat := 0x400000
theorem State.setCopy_same {P : Part} {s0 : State} (s : State) (w : Wing) (n : Option Nat) (ready : Bool) (hw :
    State.setCopy_parts.testBit P.ctorIdx = false) (h : Same P s0 s) :
    Same P s0 (State.setCopy s w n ready) := by
  unfold State.setCopy
  repeat' first
    | with_reducible assumption
    | intro _
    | fail_if_no_progress with_reducible refine Same.updEng (W := State.setCopy_parts) (by decide) hw ?_
    | split
    | (with_reducible apply Same.zeta); split

def State.reserveGone_parts : Nat := 0xa02
theorem State.reserveGone_same {P : Part} {s0 : State} (s : State) (w : Wing) (hw : State.reserveGone_parts.testBit
    P.ctorIdx = false) (h : Same P s0 s) :
    Same P s0 (State.reserveGone s w) := by
  unfold State.reserveGone
  repeat' first
    | with_reducible assumption
    | intro _
    | with_reducible refine State.dupEvent_same _ _ _ _ _ _ _ _ (Wr.sub (by decide) hw) ?_
    | with_reducible refine State.raise_same _ _ _ (Wr.sub (by decide) hw) ?_
    | with_reducible refine State.setFld_same _ _ _ _ (Wr.sub (by decide) hw) ?_
    | with_reducible apply Same.whenIf
    | split
    | (with_reducible apply Same.zeta); split

def State.retireEngine_parts : Nat := 0xd58e02
theorem State.retireEngine_same {P : Part} {s0 : State} (s : State) (n : Nat) (hw : State.retireEngine_parts.testBit
    P.ctorIdx = false) (h : Same P s0 s) :
    Same P s0 (State.retireEngine s n) := by
  unfold State.retireEngine
  repeat' first
    | with_reducible assumption
    | intro _
    | with_reducible refine State.abandonRun_same _ _ (Wr.sub (by decide) hw) ?_
    | with_reducible refine State.engEvent_same _ _ _ _ _ _ _ _ (Wr.sub (by decide) hw) ?_
    | with_reducible refine State.reserveGone_same _ _ (Wr.sub (by decide) hw) ?_
    | with_reducible refine State.setCopy_same _ _ _ _ (Wr.sub (by decide) hw) ?_
    | with_reducible refine State.recordRepair_same _ _ _ _ _ (Wr.sub (by decide) hw) ?_
    | with_reducible refine State.setFld_same _ _ _ _ (Wr.sub (by decide) hw) ?_
    | with_reducible refine State.setBit_same _ _ _ _ _ (Wr.sub (by decide) hw) ?_
    | with_reducible refine State.consumeSpare_same _ _ (Wr.sub (by decide) hw) ?_
    | with_reducible apply Same.ite
    | split
    | (with_reducible apply Same.zeta); split

def State.faultReport_parts : Nat := 0x1711f42
theorem State.faultReport_same {P : Part} {s0 : State} (s : State) (n : Nat) (cause : Nat) (pc : Nat) (hw :
    State.faultReport_parts.testBit P.ctorIdx = false) (h : Same P s0 s) :
    Same P s0 (State.faultReport s n cause pc) := by
  unfold State.faultReport
  repeat' first
    | with_reducible assumption
    | intro _
    | with_reducible refine State.setFld_same _ _ _ _ (Wr.sub (by decide) hw) ?_
    | with_reducible refine State.engEvent_same _ _ _ _ _ _ _ _ (Wr.sub (by decide) hw) ?_
    | with_reducible refine State.runEntry_same _ _ _ (Wr.sub (by decide) hw) ?_
    | split
    | (with_reducible apply Same.zeta); split

def State.hardwareFault_parts : Nat := 0xd58e02
theorem State.hardwareFault_same {P : Part} {s0 : State} (s : State) (n : Nat) (cause : Nat) (hw :
    State.hardwareFault_parts.testBit P.ctorIdx = false) (h : Same P s0 s) :
    Same P s0 (State.hardwareFault s n cause) := by
  unfold State.hardwareFault
  repeat' first
    | with_reducible assumption
    | intro _
    | with_reducible refine State.modEngine_same _ _ _ (Wr.sub (by decide) hw) ?_
    | with_reducible refine State.retireEngine_same _ _ (Wr.sub (by decide) hw) ?_
    | with_reducible apply Same.ite
    | split
    | (with_reducible apply Same.zeta); split

def State.engineFault_parts : Nat := 0x1f59f42
theorem State.engineFault_same {P : Part} {s0 : State} (s : State) (n : Nat) (cause : Nat) (hw :
    State.engineFault_parts.testBit P.ctorIdx = false) (h : Same P s0 s) :
    Same P s0 (State.engineFault s n cause) := by
  unfold State.engineFault
  repeat' first
    | with_reducible assumption
    | intro _
    | with_reducible refine State.abandonRun_same _ _ (Wr.sub (by decide) hw) ?_
    | with_reducible refine State.faultReport_same _ _ _ _ (Wr.sub (by decide) hw) ?_
    | with_reducible refine State.hardwareFault_same _ _ _ (Wr.sub (by decide) hw) ?_
    | with_reducible apply Same.ite
    | split
    | (with_reducible apply Same.zeta); split

def execLessonRunStart_parts : Nat := 0x400002
theorem execLessonRunStart_same {P : Part} {s0 : State} (n : Nat) (s : State) (hw : execLessonRunStart_parts.testBit
    P.ctorIdx = false) (h : Same P s0 s) :
    SameOut P s0 (execLessonRunStart n s) := by
  unfold execLessonRunStart
  repeat' first
    | with_reducible assumption
    | with_reducible apply SameOut.next
    | with_reducible apply SameOut.ite
    | intro _
    | with_reducible refine State.setFld_same _ _ _ _ (Wr.sub (by decide) hw) ?_
    | with_reducible refine State.modEngine_same _ _ _ (Wr.sub (by decide) hw) ?_
    | with_reducible apply Same.ite
    | split
    | dsimp only; split

def State.dataMake_parts : Nat := 0x410a02
theorem State.dataMake_same {P : Part} {s0 : State} (s : State) (core : Nat) (n : Nat) (l : List (Nat × Nat)) (flushed :
    optParam Bool false) (hw : State.dataMake_parts.testBit P.ctorIdx = false) (h : Same P s0 s) :
    Same P s0 (State.dataMake s core n l flushed) := by
  unfold State.dataMake
  repeat' first
    | with_reducible assumption
    | intro _
    | with_reducible refine State.coreFault_same _ _ _ _ (Wr.sub (by decide) hw) ?_
    | with_reducible refine State.modEngine_same _ _ _ (Wr.sub (by decide) hw) ?_
    | with_reducible refine State.engStore_same _ _ _ (Wr.sub (by decide) hw) ?_
    | with_reducible apply Same.whenIf
    | with_reducible apply Same.ite
    | split
    | (with_reducible apply Same.zeta); split

def State.flushLow_parts : Nat := 0x410a02
theorem State.flushLow_same {P : Part} {s0 : State} (s : State) (core : Nat) (hw : State.flushLow_parts.testBit P.ctorIdx =
    false) (h : Same P s0 s) :
    Same P s0 (State.flushLow s core) := by
  unfold State.flushLow
  repeat' first
    | with_reducible assumption
    | intro _
    | with_reducible refine State.dataMake_same _ _ _ _ _ (Wr.sub (by decide) hw) ?_
    | fail_if_no_progress with_reducible refine Same.updEng (W := State.flushLow_parts) (by decide) hw ?_
    | split
    | (with_reducible apply Same.zeta); split

def State.dataWrite_parts : Nat := 0x410a02
theorem State.dataWrite_same {P : Part} {s0 : State} (s : State) (core : Nat) (n : Nat) (idx : Nat) (v : Nat) (hw :
    State.dataWrite_parts.testBit P.ctorIdx = false) (h : Same P s0 s) :
    Same P s0 (State.dataWrite s core n idx v) := by
  unfold State.dataWrite
  repeat' first
    | with_reducible assumption
    | intro _
    | with_reducible refine State.flushLow_same _ _ (Wr.sub (by decide) hw) ?_
    | with_reducible refine State.dataMake_same _ _ _ _ _ (Wr.sub (by decide) hw) ?_
    | with_reducible apply Same.ite
    | fail_if_no_progress with_reducible refine Same.updEng (W := State.dataWrite_parts) (by decide) hw ?_
    | split
    | (with_reducible apply Same.zeta); split

def State.windowWrite_parts : Nat := 0x410e02
theorem State.windowWrite_same {P : Part} {s0 : State} (s : State) (core : Nat) (n : Nat) (offset : Nat) (v : Nat) (hw :
    State.windowWrite_parts.testBit P.ctorIdx = false) (h : Same P s0 s) :
    Same P s0 (State.windowWrite s core n offset v) := by
  unfold State.windowWrite
  repeat' first
    | with_reducible assumption
    | intro _
    | with_reducible refine State.coreFault_same _ _ _ _ (Wr.sub (by decide) hw) ?_
    | with_reducible refine State.dataWrite_same _ _ _ _ _ (Wr.sub (by decide) hw) ?_
    | with_reducible refine State.setEngWord_same _ _ _ _ (Wr.sub (by decide) hw) ?_
    | with_reducible refine State.modGroup_same _ _ _ (Wr.sub (by decide) hw) ?_
    | with_reducible refine State.discarded_same _ _ _ (Wr.sub (by decide) hw) ?_
    | with_reducible apply Same.ite
    | split
    | (with_reducible apply Same.zeta); split

def execEngineDataWrite_parts : Nat := 0x410f02
theorem execEngineDataWrite_same {P : Part} {s0 : State} (core : Nat) (n : Nat) (offset : Nat) (value : Nat) (s : State)
    (hw : execEngineDataWrite_parts.testBit P.ctorIdx = false) (h : Same P s0 s) :
    SameOut P s0 (execEngineDataWrite core n offset value s) := by
  unfold execEngineDataWrite
  repeat' first
    | with_reducible assumption
    | with_reducible apply SameOut.next
    | with_reducible apply SameOut.ite
    | intro _
    | with_reducible refine State.accessBlk_same _ _ _ _ _ (Wr.sub (by decide) hw) ?_ ?_
    | with_reducible refine State.windowWrite_same _ _ _ _ _ (Wr.sub (by decide) hw) ?_
    | with_reducible apply Same.ite
    | split
    | dsimp only; split

def execHeldLowHalfTimeout_parts : Nat := 0x410a02
theorem execHeldLowHalfTimeout_same {P : Part} {s0 : State} (core : Nat) (s : State) (hw :
    execHeldLowHalfTimeout_parts.testBit P.ctorIdx = false) (h : Same P s0 s) :
    SameOut P s0 (execHeldLowHalfTimeout core s) := by
  unfold execHeldLowHalfTimeout
  repeat' first
    | with_reducible assumption
    | with_reducible apply SameOut.next
    | intro _
    | with_reducible refine State.flushLow_same _ _ (Wr.sub (by decide) hw) ?_
    | split
    | dsimp only; split

def State.dataUpdate_parts : Nat := 0x410a02
theorem State.dataUpdate_same {P : Part} {s0 : State} (s : State) (n : Nat) (offset : Nat) (words : List Nat) (hw :
    State.dataUpdate_parts.testBit P.ctorIdx = false) (h : Same P s0 s) :
    Same P s0 (State.dataUpdate s n offset words) := by
  unfold State.dataUpdate
  repeat' first
    | with_reducible assumption
    | intro _
    | with_reducible refine State.modEngine_same _ _ _ (Wr.sub (by decide) hw) ?_
    | with_reducible refine State.engStore_same _ _ _ (Wr.sub (by decide) hw) ?_
    | with_reducible apply Same.ite
    | split
    | (with_reducible apply Same.zeta); split

def execEngineDataUpdate_parts : Nat := 0x410a02
theorem execEngineDataUpdate_same {P : Part} {s0 : State} (n : Nat) (offset : Nat) (words : List Nat) (s : State) (hw :
    execEngineDataUpdate_parts.testBit P.ctorIdx = false) (h : Same P s0 s) :
    SameOut P s0 (execEngineDataUpdate n offset words s) := by
  unfold execEngineDataUpdate
  repeat' first
    | with_reducible assumption
    | with_reducible apply SameOut.next
    | with_reducible apply SameOut.ite
    | intro _
    | with_reducible refine State.dataUpdate_same _ _ _ _ (Wr.sub (by decide) hw) ?_
    | with_reducible apply Same.ite
    | split
    | dsimp only; split

def State.retireWrite_parts : Nat := 0x400000
theorem State.retireWrite_same {P : Part} {s0 : State} (s : State) (n : Nat) (hw : State.retireWrite_parts.testBit
    P.ctorIdx = false) (h : Same P s0 s) :
    Same P s0 (State.retireWrite s n) := by
  unfold State.retireWrite
  repeat' first
    | with_reducible assumption
    | intro _
    | with_reducible refine State.modEngine_same _ _ _ (Wr.sub (by decide) hw) ?_
    | split
    | (with_reducible apply Same.zeta); split

def State.engineAccess_parts : Nat := 0xb02
theorem State.engineAccess_same {P : Part} {s0 : State} (s : State) (core : Nat) (n : Nat) (addr : Nat) (f : State → State)
    (hw : State.engineAccess_parts.testBit P.ctorIdx = false) (h : Same P s0 s) (hf : ∀ t, Same P s0 t → Same P s0 (f t)) :
    Same P s0 (State.engineAccess s core n addr f) := by
  unfold State.engineAccess
  repeat' first
    | with_reducible assumption
    | intro _
    | with_reducible refine State.accessBlk_same _ _ _ _ _ (Wr.sub (by decide) hw) ?_ ?_
    | with_reducible refine State.coreFault_same _ _ _ _ (Wr.sub (by decide) hw) ?_
    | with_reducible apply Same.ite
    | with_reducible apply hf
    | split
    | (with_reducible apply Same.zeta); split

def execLeRetireWrite_parts : Nat := 0x400b02
theorem execLeRetireWrite_same {P : Part} {s0 : State} (core : Nat) (n : Nat) (s : State) (hw :
    execLeRetireWrite_parts.testBit P.ctorIdx = false) (h : Same P s0 s) :
    SameOut P s0 (execLeRetireWrite core n s) := by
  unfold execLeRetireWrite
  repeat' first
    | with_reducible assumption
    | with_reducible apply SameOut.next
    | with_reducible apply SameOut.ite
    | intro _
    | with_reducible refine State.engineAccess_same _ _ _ _ _ (Wr.sub (by decide) hw) ?_ ?_
    | with_reducible refine State.retireWrite_same _ _ (Wr.sub (by decide) hw) ?_
    | with_reducible apply Same.ite
    | split
    | dsimp only; split

def State.copyEnds_parts : Nat := 0x400a02
theorem State.copyEnds_same {P : Part} {s0 : State} (s : State) (w : Wing) (n : Nat) (bad : List Nat) (hw :
    State.copyEnds_parts.testBit P.ctorIdx = false) (h : Same P s0 s) :
    Same P s0 (State.copyEnds s w n bad) := by
  unfold State.copyEnds
  repeat' first
    | with_reducible assumption
    | intro _
    | with_reducible refine State.setEngWord_same _ _ _ _ (Wr.sub (by decide) hw) ?_
    | with_reducible refine State.setFld_same _ _ _ _ (Wr.sub (by decide) hw) ?_
    | with_reducible refine State.setCopy_same _ _ _ _ (Wr.sub (by decide) hw) ?_
    | with_reducible refine State.raise_same _ _ _ (Wr.sub (by decide) hw) ?_
    | with_reducible refine State.engEvent_same _ _ _ _ _ _ _ _ (Wr.sub (by decide) hw) ?_
    | with_reducible apply Same.each
    | with_reducible apply Same.ite
    | split
    | (with_reducible apply Same.zeta); split

def execSubstituteCopyComplete_parts : Nat := 0x400a02
theorem execSubstituteCopyComplete_same {P : Part} {s0 : State} (w : Wing) (bad : List Nat) (s : State) (hw :
    execSubstituteCopyComplete_parts.testBit P.ctorIdx = false) (h : Same P s0 s) :
    SameOut P s0 (execSubstituteCopyComplete w bad s) := by
  unfold execSubstituteCopyComplete
  repeat' first
    | with_reducible assumption
    | with_reducible apply SameOut.next
    | with_reducible apply SameOut.ite
    | intro _
    | with_reducible refine State.copyEnds_same _ _ _ _ (Wr.sub (by decide) hw) ?_
    | with_reducible apply Same.ite
    | split
    | dsimp only; split

def State.subgo_parts : Nat := 0x2
theorem State.subgo_same {P : Part} {s0 : State} (s : State) (w : Wing) (hw : State.subgo_parts.testBit P.ctorIdx = false)
    (h : Same P s0 s) :
    Same P s0 (State.subgo s w) := by
  unfold State.subgo
  repeat' first
    | with_reducible assumption
    | intro _
    | with_reducible refine State.setFld_same _ _ _ _ (Wr.sub (by decide) hw) ?_
    | with_reducible apply Same.whenIf
    | split
    | (with_reducible apply Same.zeta); split

def State.subgoWrite_parts : Nat := 0x2
theorem State.subgoWrite_same {P : Part} {s0 : State} (s : State) (goa : Bool) (gob : Bool) (hw :
    State.subgoWrite_parts.testBit P.ctorIdx = false) (h : Same P s0 s) :
    Same P s0 (State.subgoWrite s goa gob) := by
  unfold State.subgoWrite
  repeat' first
    | with_reducible assumption
    | intro _
    | with_reducible refine State.subgo_same _ _ (Wr.sub (by decide) hw) ?_
    | with_reducible apply Same.whenIf
    | split
    | (with_reducible apply Same.zeta); split

def execLeSubgoWrite_parts : Nat := 0xb02
theorem execLeSubgoWrite_same {P : Part} {s0 : State} (core : Nat) (goa : Bool) (gob : Bool) (s : State) (hw :
    execLeSubgoWrite_parts.testBit P.ctorIdx = false) (h : Same P s0 s) :
    SameOut P s0 (execLeSubgoWrite core goa gob s) := by
  unfold execLeSubgoWrite
  repeat' first
    | with_reducible assumption
    | with_reducible apply SameOut.next
    | intro _
    | with_reducible refine State.accessBlk_same _ _ _ _ _ (Wr.sub (by decide) hw) ?_ ?_
    | with_reducible refine State.subgoWrite_same _ _ _ (Wr.sub (by decide) hw) ?_
    | split
    | dsimp only; split

def execSubstituteSelfTest_parts : Nat := 0x10a02
theorem execSubstituteSelfTest_same {P : Part} {s0 : State} (w : Wing) (pass : Bool) (s : State) (hw :
    execSubstituteSelfTest_parts.testBit P.ctorIdx = false) (h : Same P s0 s) :
    SameOut P s0 (execSubstituteSelfTest w pass s) := by
  unfold execSubstituteSelfTest
  repeat' first
    | with_reducible assumption
    | with_reducible apply SameOut.next
    | with_reducible apply SameOut.ite
    | intro _
    | with_reducible refine State.consumeSpare_same _ _ (Wr.sub (by decide) hw) ?_
    | with_reducible refine State.recordRepair_same _ _ _ _ _ (Wr.sub (by decide) hw) ?_
    | with_reducible refine State.setFld_same _ _ _ _ (Wr.sub (by decide) hw) ?_
    | with_reducible apply Same.ite
    | split
    | dsimp only; split

def State.substService_parts : Nat := 0x400a02
theorem State.substService_same {P : Part} {s0 : State} (s : State) (w : Wing) (hw : State.substService_parts.testBit
    P.ctorIdx = false) (h : Same P s0 s) :
    Same P s0 (State.substService s w) := by
  unfold State.substService
  repeat' first
    | with_reducible assumption
    | intro _
    | with_reducible refine State.engEvent_same _ _ _ _ _ _ _ _ (Wr.sub (by decide) hw) ?_
    | with_reducible refine State.setCopy_same _ _ _ _ (Wr.sub (by decide) hw) ?_
    | with_reducible refine State.setFld_same _ _ _ _ (Wr.sub (by decide) hw) ?_
    | with_reducible apply Same.ite
    | split
    | (with_reducible apply Same.zeta); split

def State.enginesEnd_parts : Nat := 0x1f59f42
theorem State.enginesEnd_same {P : Part} {s0 : State} (s : State) (hw : State.enginesEnd_parts.testBit P.ctorIdx = false)
    (h : Same P s0 s) :
    Same P s0 (State.enginesEnd s) := by
  unfold State.enginesEnd
  repeat' first
    | with_reducible assumption
    | intro _
    | with_reducible refine State.overrun_same _ _ (Wr.sub (by decide) hw) ?_
    | with_reducible refine State.stagingAtBell_same _ (Wr.sub (by decide) hw) ?_
    | with_reducible refine State.modEngine_same _ _ _ (Wr.sub (by decide) hw) ?_
    | with_reducible refine State.retireEngine_same _ _ (Wr.sub (by decide) hw) ?_
    | with_reducible refine State.substService_same _ _ (Wr.sub (by decide) hw) ?_
    | with_reducible apply Same.each
    | with_reducible apply Same.foldl
    | with_reducible apply Same.ite
    | fail_if_no_progress with_reducible refine Same.updEng (W := State.enginesEnd_parts) (by decide) hw ?_
    | split
    | (with_reducible apply Same.zeta); split

def State.enginesDue_parts : Nat := 0x400000
theorem State.enginesDue_same {P : Part} {s0 : State} (s : State) (ns : List Nat) (hw : State.enginesDue_parts.testBit
    P.ctorIdx = false) (h : Same P s0 s) :
    Same P s0 (State.enginesDue s ns) := by
  unfold State.enginesDue
  repeat' first
    | with_reducible assumption
    | intro _
    | with_reducible refine State.modEngine_same _ _ _ (Wr.sub (by decide) hw) ?_
    | with_reducible apply Same.each
    | split
    | (with_reducible apply Same.zeta); split

end Sys2Proof.Machine
end

