-- ==== Sys2Proof/Laws/SameEngineInstr.lean ====
section
/-!
SUPPORT. Which parts of State the operations of Machine/EngineInstr.lean can change (Laws/Same.lean), as bits by the part's number, and that
they leave every other as it was.
-/
namespace Sys2Proof.Machine

set_option linter.unusedTactic false
set_option linter.unreachableTactic false

def State.setRgBits_parts : Nat := 0x400000
theorem State.setRgBits_same {P : Part} {s0 : State} (s : State) (n : Nat) (r : Nat) (v : Nat) (hw :
    State.setRgBits_parts.testBit P.ctorIdx = false) (h : Same P s0 s) :
    Same P s0 (State.setRgBits s n r v) := by
  unfold State.setRgBits
  repeat' first
    | with_reducible assumption
    | intro _
    | with_reducible refine State.modEngine_same _ _ _ (Wr.sub (by decide) hw) ?_
    | with_reducible apply Same.ite
    | split
    | (with_reducible apply Same.zeta); split

def State.setRg_parts : Nat := 0x400000
theorem State.setRg_same {P : Part} {s0 : State} (s : State) (n : Nat) (r : Nat) (x : Fp) (hw : State.setRg_parts.testBit
    P.ctorIdx = false) (h : Same P s0 s) :
    Same P s0 (State.setRg s n r x) := by
  unfold State.setRg
  repeat' first
    | with_reducible assumption
    | intro _
    | with_reducible refine State.setRgBits_same _ _ _ _ (Wr.sub (by decide) hw) ?_
    | split
    | (with_reducible apply Same.zeta); split

def State.setRgs_parts : Nat := 0x400000
theorem State.setRgs_same {P : Part} {s0 : State} (s : State) (n : Nat) (r : Nat) (l : List Fp) (hw :
    State.setRgs_parts.testBit P.ctorIdx = false) (h : Same P s0 s) :
    Same P s0 (State.setRgs s n r l) := by
  unfold State.setRgs
  repeat' first
    | with_reducible assumption
    | intro _
    | with_reducible refine State.setRg_same _ _ _ _ (Wr.sub (by decide) hw) ?_
    | with_reducible apply Same.each
    | split
    | (with_reducible apply Same.zeta); split

def State.setEngFlag_parts : Nat := 0x400000
theorem State.setEngFlag_same {P : Part} {s0 : State} (s : State) (n : Nat) (i : Nat) (b : Bool) (hw :
    State.setEngFlag_parts.testBit P.ctorIdx = false) (h : Same P s0 s) :
    Same P s0 (State.setEngFlag s n i b) := by
  unfold State.setEngFlag
  repeat' first
    | with_reducible assumption
    | intro _
    | with_reducible refine State.modEngine_same _ _ _ (Wr.sub (by decide) hw) ?_
    | split
    | (with_reducible apply Same.zeta); split

def State.instr_parts : Nat := 0x400000
theorem State.instr_same {P : Part} {s0 : State} (s : State) (n : Nat) (cycles : Nat) (f : State → State) (hw :
    State.instr_parts.testBit P.ctorIdx = false) (h : Same P s0 s) (hf : ∀ t, Same P s0 t → Same P s0 (f t)) :
    Same P s0 (State.instr s n cycles f) := by
  unfold State.instr
  repeat' first
    | with_reducible assumption
    | intro _
    | with_reducible refine State.modEngine_same _ _ _ (Wr.sub (by decide) hw) ?_
    | with_reducible apply Same.whenIf
    | with_reducible apply Same.ite
    | with_reducible apply hf
    | split
    | (with_reducible apply Same.zeta); split

def State.readWords_parts : Nat := 0x1f59f42
theorem State.readWords_same {P : Part} {s0 : State} (s : State) (n : Nat) (i : Nat) (k : Nat) (f : State → State) (hw :
    State.readWords_parts.testBit P.ctorIdx = false) (h : Same P s0 s) (hf : ∀ t, Same P s0 t → Same P s0 (f t)) :
    Same P s0 (State.readWords s n i k f) := by
  unfold State.readWords
  repeat' first
    | with_reducible assumption
    | intro _
    | with_reducible refine State.engineFault_same _ _ _ (Wr.sub (by decide) hw) ?_
    | with_reducible refine State.badRead_same _ _ _ _ (Wr.sub (by decide) hw) ?_
    | with_reducible apply hf
    | split
    | (with_reducible apply Same.zeta); split

def State.readData_parts : Nat := 0x1f59f42
theorem State.readData_same {P : Part} {s0 : State} (s : State) (n : Nat) (a : Nat) (k : Nat) (f : State → State) (hw :
    State.readData_parts.testBit P.ctorIdx = false) (h : Same P s0 s) (hf : ∀ t, Same P s0 t → Same P s0 (f t)) :
    Same P s0 (State.readData s n a k f) := by
  unfold State.readData
  repeat' first
    | with_reducible assumption
    | intro _
    | with_reducible refine State.readWords_same _ _ _ _ _ (Wr.sub (by decide) hw) ?_ ?_
    | with_reducible apply hf
    | split
    | (with_reducible apply Same.zeta); split

def State.logStore_parts : Nat := 0x400000
theorem State.logStore_same {P : Part} {s0 : State} (s : State) (n : Nat) (a : Nat) (v : Nat) (hw :
    State.logStore_parts.testBit P.ctorIdx = false) (h : Same P s0 s) :
    Same P s0 (State.logStore s n a v) := by
  unfold State.logStore
  repeat' first
    | with_reducible assumption
    | intro _
    | with_reducible refine State.setEngWord_same _ _ _ _ (Wr.sub (by decide) hw) ?_
    | with_reducible refine State.modEngine_same _ _ _ (Wr.sub (by decide) hw) ?_
    | split
    | (with_reducible apply Same.zeta); split

def State.store64_parts : Nat := 0x400000
theorem State.store64_same {P : Part} {s0 : State} (s : State) (n : Nat) (a : Nat) (x : Fp) (hw :
    State.store64_parts.testBit P.ctorIdx = false) (h : Same P s0 s) :
    Same P s0 (State.store64 s n a x) := by
  unfold State.store64
  repeat' first
    | with_reducible assumption
    | intro _
    | with_reducible refine State.logStore_same _ _ _ _ (Wr.sub (by decide) hw) ?_
    | split
    | (with_reducible apply Same.zeta); split

def State.putStates_parts : Nat := 0x1f59f42
theorem State.putStates_same {P : Part} {s0 : State} (s : State) (n : Nat) (l : List (Nat × Fp)) (f : State → State) (hw :
    State.putStates_parts.testBit P.ctorIdx = false) (h : Same P s0 s) (hf : ∀ t, Same P s0 t → Same P s0 (f t)) :
    Same P s0 (State.putStates s n l f) := by
  unfold State.putStates
  repeat' first
    | with_reducible assumption
    | intro _
    | with_reducible refine State.store64_same _ _ _ _ (Wr.sub (by decide) hw) ?_
    | with_reducible refine State.engineFault_same _ _ _ (Wr.sub (by decide) hw) ?_
    | with_reducible apply Same.each
    | with_reducible apply Same.ite
    | with_reducible apply hf
    | split
    | (with_reducible apply Same.zeta); split

def execNop_parts : Nat := 0x400000
theorem execNop_same {P : Part} {s0 : State} (n : Nat) (s : State) (hw : execNop_parts.testBit P.ctorIdx = false) (h : Same
    P s0 s) :
    SameOut P s0 (execNop n s) := by
  unfold execNop
  repeat' first
    | with_reducible assumption
    | with_reducible apply SameOut.next
    | unfold id; with_reducible assumption
    | intro _
    | with_reducible refine State.instr_same _ _ _ _ (Wr.sub (by decide) hw) ?_ ?_
    | split
    | dsimp only; split

def execLdk_parts : Nat := 0x400000
theorem execLdk_same {P : Part} {s0 : State} (n : Nat) (rd : Nat) (imm : Nat) (s : State) (hw : execLdk_parts.testBit
    P.ctorIdx = false) (h : Same P s0 s) :
    SameOut P s0 (execLdk n rd imm s) := by
  unfold execLdk
  repeat' first
    | with_reducible assumption
    | with_reducible apply SameOut.next
    | intro _
    | with_reducible refine State.instr_same _ _ _ _ (Wr.sub (by decide) hw) ?_ ?_
    | with_reducible refine State.setRgBits_same _ _ _ _ (Wr.sub (by decide) hw) ?_
    | split
    | dsimp only; split

def execLd_parts : Nat := 0x1f59f42
theorem execLd_same {P : Part} {s0 : State} (n : Nat) (rd : Nat) (addr : Nat) (wide : Bool) (s : State) (hw :
    execLd_parts.testBit P.ctorIdx = false) (h : Same P s0 s) :
    SameOut P s0 (execLd n rd addr wide s) := by
  unfold execLd
  repeat' first
    | with_reducible assumption
    | with_reducible apply SameOut.next
    | with_reducible apply SameOut.ite
    | intro _
    | with_reducible refine State.instr_same _ _ _ _ (Wr.sub (by decide) hw) ?_ ?_
    | with_reducible refine State.readData_same _ _ _ _ _ (Wr.sub (by decide) hw) ?_ ?_
    | with_reducible refine State.setRg_same _ _ _ _ (Wr.sub (by decide) hw) ?_
    | with_reducible refine State.setRgBits_same _ _ _ _ (Wr.sub (by decide) hw) ?_
    | with_reducible apply Same.ite
    | split
    | dsimp only; split

def execSt_parts : Nat := 0x1f59f42
theorem execSt_same {P : Part} {s0 : State} (n : Nat) (ra : Nat) (addr : Nat) (wide : Bool) (s : State) (hw :
    execSt_parts.testBit P.ctorIdx = false) (h : Same P s0 s) :
    SameOut P s0 (execSt n ra addr wide s) := by
  unfold execSt
  repeat' first
    | with_reducible assumption
    | with_reducible apply SameOut.next
    | with_reducible apply SameOut.ite
    | intro _
    | with_reducible refine State.instr_same _ _ _ _ (Wr.sub (by decide) hw) ?_ ?_
    | with_reducible refine State.engineFault_same _ _ _ (Wr.sub (by decide) hw) ?_
    | with_reducible refine State.store64_same _ _ _ _ (Wr.sub (by decide) hw) ?_
    | with_reducible refine State.mark_same _ _ _ _ (Wr.sub (by decide) hw) ?_
    | with_reducible refine State.readData_same _ _ _ _ _ (Wr.sub (by decide) hw) ?_ ?_
    | with_reducible refine State.logStore_same _ _ _ _ (Wr.sub (by decide) hw) ?_
    | with_reducible apply Same.ite
    | split
    | dsimp only; split

def execLds_parts : Nat := 0x1f59f42
theorem execLds_same {P : Part} {s0 : State} (n : Nat) (rd : Nat) (ra : Nat) (mod : Nat) (s : State) (hw :
    execLds_parts.testBit P.ctorIdx = false) (h : Same P s0 s) :
    SameOut P s0 (execLds n rd ra mod s) := by
  unfold execLds
  repeat' first
    | with_reducible assumption
    | with_reducible apply SameOut.next
    | intro _
    | with_reducible refine State.instr_same _ _ _ _ (Wr.sub (by decide) hw) ?_ ?_
    | with_reducible refine State.readWords_same _ _ _ _ _ (Wr.sub (by decide) hw) ?_ ?_
    | with_reducible refine State.setRgs_same _ _ _ _ (Wr.sub (by decide) hw) ?_
    | with_reducible refine State.count_same _ _ _ (Wr.sub (by decide) hw) ?_
    | with_reducible refine State.setEngFlag_same _ _ _ _ (Wr.sub (by decide) hw) ?_
    | with_reducible apply Same.each
    | split
    | dsimp only; split

def execWait_parts : Nat := 0x400000
theorem execWait_same {P : Part} {s0 : State} (n : Nat) (ra : Nat) (rb : Nat) (d : Nat) (s : State) (hw :
    execWait_parts.testBit P.ctorIdx = false) (h : Same P s0 s) :
    SameOut P s0 (execWait n ra rb d s) := by
  unfold execWait
  repeat' first
    | with_reducible assumption
    | with_reducible apply SameOut.next
    | with_reducible apply SameOut.ite
    | intro _
    | with_reducible refine State.modEngine_same _ _ _ (Wr.sub (by decide) hw) ?_
    | with_reducible refine State.endWait_same _ _ _ (Wr.sub (by decide) hw) ?_
    | with_reducible apply Same.ite
    | split
    | dsimp only; split

def execWaitDeadline_parts : Nat := 0x400000
theorem execWaitDeadline_same {P : Part} {s0 : State} (n : Nat) (s : State) (hw : execWaitDeadline_parts.testBit P.ctorIdx
    = false) (h : Same P s0 s) :
    SameOut P s0 (execWaitDeadline n s) := by
  unfold execWaitDeadline
  repeat' first
    | with_reducible assumption
    | with_reducible apply SameOut.next
    | with_reducible apply SameOut.ite
    | intro _
    | with_reducible refine State.endWait_same _ _ _ (Wr.sub (by decide) hw) ?_
    | with_reducible apply Same.ite
    | split
    | dsimp only; split

def execInj_parts : Nat := 0x408a02
theorem execInj_same {P : Part} {s0 : State} (n : Nat) (slot : Nat) (input : Nat) (ext : Nat) (s : State) (hw :
    execInj_parts.testBit P.ctorIdx = false) (h : Same P s0 s) :
    SameOut P s0 (execInj n slot input ext s) := by
  unfold execInj
  repeat' first
    | with_reducible assumption
    | with_reducible apply SameOut.next
    | with_reducible apply SameOut.ite
    | intro _
    | with_reducible refine State.instr_same _ _ _ _ (Wr.sub (by decide) hw) ?_ ?_
    | with_reducible refine State.inject_same _ _ _ _ (Wr.sub (by decide) hw) ?_
    | with_reducible apply Same.ite
    | split
    | dsimp only; split

def State.stageAll_parts : Nat := 0x1f59f42
theorem State.stageAll_same {P : Part} {s0 : State} (s : State) (n : Nat) (m : Nat) (w : Nat) (l : List Fp) (v : Nat) (hw :
    State.stageAll_parts.testBit P.ctorIdx = false) (h : Same P s0 s) :
    Same P s0 (State.stageAll s n m w l v) := by
  unfold State.stageAll
  repeat' first
    | with_reducible assumption
    | intro _
    | with_reducible refine State.stage_same _ _ _ _ _ (Wr.sub (by decide) hw) ?_
    | with_reducible refine State.engineFault_same _ _ _ (Wr.sub (by decide) hw) ?_
    | with_reducible apply Same.ite
    | split
    | (with_reducible apply Same.zeta); split

def execStpc_parts : Nat := 0x1f59f42
theorem execStpc_same {P : Part} {s0 : State} (n : Nat) (m : Nat) (ra : Nat) (rb : Nat) (s : State) (hw :
    execStpc_parts.testBit P.ctorIdx = false) (h : Same P s0 s) :
    SameOut P s0 (execStpc n m ra rb s) := by
  unfold execStpc
  repeat' first
    | with_reducible assumption
    | with_reducible apply SameOut.next
    | intro _
    | with_reducible refine State.instr_same _ _ _ _ (Wr.sub (by decide) hw) ?_ ?_
    | with_reducible refine State.stageAll_same _ _ _ _ _ _ (Wr.sub (by decide) hw) ?_
    | split
    | dsimp only; split

def execStpd_parts : Nat := 0x1f59f42
theorem execStpd_same {P : Part} {s0 : State} (n : Nat) (m : Nat) (ra : Nat) (rb : Nat) (s : State) (hw :
    execStpd_parts.testBit P.ctorIdx = false) (h : Same P s0 s) :
    SameOut P s0 (execStpd n m ra rb s) := by
  unfold execStpd
  repeat' first
    | with_reducible assumption
    | with_reducible apply SameOut.next
    | intro _
    | with_reducible refine State.instr_same _ _ _ _ (Wr.sub (by decide) hw) ?_ ?_
    | with_reducible refine State.stageAll_same _ _ _ _ _ _ (Wr.sub (by decide) hw) ?_
    | split
    | dsimp only; split

def execStpp_parts : Nat := 0x1f59f42
theorem execStpp_same {P : Part} {s0 : State} (n : Nat) (m : Nat) (ra : Nat) (rb : Nat) (rc : Nat) (s : State) (hw :
    execStpp_parts.testBit P.ctorIdx = false) (h : Same P s0 s) :
    SameOut P s0 (execStpp n m ra rb rc s) := by
  unfold execStpp
  repeat' first
    | with_reducible assumption
    | with_reducible apply SameOut.next
    | intro _
    | with_reducible refine State.instr_same _ _ _ _ (Wr.sub (by decide) hw) ?_ ?_
    | with_reducible refine State.stageAll_same _ _ _ _ _ _ (Wr.sub (by decide) hw) ?_
    | split
    | dsimp only; split

def execStpe_parts : Nat := 0x1f59f42
theorem execStpe_same {P : Part} {s0 : State} (n : Nat) (m : Nat) (ra : Nat) (rb : Nat) (s : State) (hw :
    execStpe_parts.testBit P.ctorIdx = false) (h : Same P s0 s) :
    SameOut P s0 (execStpe n m ra rb s) := by
  unfold execStpe
  repeat' first
    | with_reducible assumption
    | with_reducible apply SameOut.next
    | intro _
    | with_reducible refine State.instr_same _ _ _ _ (Wr.sub (by decide) hw) ?_ ?_
    | with_reducible refine State.stageAll_same _ _ _ _ _ _ (Wr.sub (by decide) hw) ?_
    | split
    | dsimp only; split

def execAdd_parts : Nat := 0x400000
theorem execAdd_same {P : Part} {s0 : State} (n : Nat) (rd : Nat) (ra : Nat) (rb : Nat) (s : State) (hw :
    execAdd_parts.testBit P.ctorIdx = false) (h : Same P s0 s) :
    SameOut P s0 (execAdd n rd ra rb s) := by
  unfold execAdd
  repeat' first
    | with_reducible assumption
    | with_reducible apply SameOut.next
    | intro _
    | with_reducible refine State.instr_same _ _ _ _ (Wr.sub (by decide) hw) ?_ ?_
    | with_reducible refine State.setRg_same _ _ _ _ (Wr.sub (by decide) hw) ?_
    | split
    | dsimp only; split

def execSub_parts : Nat := 0x400000
theorem execSub_same {P : Part} {s0 : State} (n : Nat) (rd : Nat) (ra : Nat) (rb : Nat) (s : State) (hw :
    execSub_parts.testBit P.ctorIdx = false) (h : Same P s0 s) :
    SameOut P s0 (execSub n rd ra rb s) := by
  unfold execSub
  repeat' first
    | with_reducible assumption
    | with_reducible apply SameOut.next
    | intro _
    | with_reducible refine State.instr_same _ _ _ _ (Wr.sub (by decide) hw) ?_ ?_
    | with_reducible refine State.setRg_same _ _ _ _ (Wr.sub (by decide) hw) ?_
    | split
    | dsimp only; split

def execMul_parts : Nat := 0x400000
theorem execMul_same {P : Part} {s0 : State} (n : Nat) (rd : Nat) (ra : Nat) (rb : Nat) (s : State) (hw :
    execMul_parts.testBit P.ctorIdx = false) (h : Same P s0 s) :
    SameOut P s0 (execMul n rd ra rb s) := by
  unfold execMul
  repeat' first
    | with_reducible assumption
    | with_reducible apply SameOut.next
    | intro _
    | with_reducible refine State.instr_same _ _ _ _ (Wr.sub (by decide) hw) ?_ ?_
    | with_reducible refine State.setRg_same _ _ _ _ (Wr.sub (by decide) hw) ?_
    | split
    | dsimp only; split

def execMac_parts : Nat := 0x400000
theorem execMac_same {P : Part} {s0 : State} (n : Nat) (rd : Nat) (ra : Nat) (rb : Nat) (rc : Nat) (s : State) (hw :
    execMac_parts.testBit P.ctorIdx = false) (h : Same P s0 s) :
    SameOut P s0 (execMac n rd ra rb rc s) := by
  unfold execMac
  repeat' first
    | with_reducible assumption
    | with_reducible apply SameOut.next
    | intro _
    | with_reducible refine State.instr_same _ _ _ _ (Wr.sub (by decide) hw) ?_ ?_
    | with_reducible refine State.setRg_same _ _ _ _ (Wr.sub (by decide) hw) ?_
    | split
    | dsimp only; split

def execDiv_parts : Nat := 0x400000
theorem execDiv_same {P : Part} {s0 : State} (n : Nat) (rd : Nat) (ra : Nat) (rb : Nat) (s : State) (hw :
    execDiv_parts.testBit P.ctorIdx = false) (h : Same P s0 s) :
    SameOut P s0 (execDiv n rd ra rb s) := by
  unfold execDiv
  repeat' first
    | with_reducible assumption
    | with_reducible apply SameOut.next
    | intro _
    | with_reducible refine State.instr_same _ _ _ _ (Wr.sub (by decide) hw) ?_ ?_
    | with_reducible refine State.setRg_same _ _ _ _ (Wr.sub (by decide) hw) ?_
    | split
    | dsimp only; split

def execSqrt_parts : Nat := 0x400000
theorem execSqrt_same {P : Part} {s0 : State} (n : Nat) (rd : Nat) (ra : Nat) (s : State) (hw : execSqrt_parts.testBit
    P.ctorIdx = false) (h : Same P s0 s) :
    SameOut P s0 (execSqrt n rd ra s) := by
  unfold execSqrt
  repeat' first
    | with_reducible assumption
    | with_reducible apply SameOut.next
    | intro _
    | with_reducible refine State.instr_same _ _ _ _ (Wr.sub (by decide) hw) ?_ ?_
    | with_reducible refine State.setRg_same _ _ _ _ (Wr.sub (by decide) hw) ?_
    | split
    | dsimp only; split

def execAbs_parts : Nat := 0x400000
theorem execAbs_same {P : Part} {s0 : State} (n : Nat) (rd : Nat) (ra : Nat) (s : State) (hw : execAbs_parts.testBit
    P.ctorIdx = false) (h : Same P s0 s) :
    SameOut P s0 (execAbs n rd ra s) := by
  unfold execAbs
  repeat' first
    | with_reducible assumption
    | with_reducible apply SameOut.next
    | intro _
    | with_reducible refine State.instr_same _ _ _ _ (Wr.sub (by decide) hw) ?_ ?_
    | with_reducible refine State.setRg_same _ _ _ _ (Wr.sub (by decide) hw) ?_
    | split
    | dsimp only; split

def execSincos_parts : Nat := 0x400000
theorem execSincos_same {P : Part} {s0 : State} (n : Nat) (rd : Nat) (ra : Nat) (s : State) (hw : execSincos_parts.testBit
    P.ctorIdx = false) (h : Same P s0 s) :
    SameOut P s0 (execSincos n rd ra s) := by
  unfold execSincos
  repeat' first
    | with_reducible assumption
    | with_reducible apply SameOut.next
    | intro _
    | with_reducible refine State.instr_same _ _ _ _ (Wr.sub (by decide) hw) ?_ ?_
    | with_reducible refine State.setRgs_same _ _ _ _ (Wr.sub (by decide) hw) ?_
    | split
    | dsimp only; split

def execClarke_parts : Nat := 0x400000
theorem execClarke_same {P : Part} {s0 : State} (n : Nat) (rd : Nat) (ra : Nat) (rb : Nat) (rc : Nat) (s : State) (hw :
    execClarke_parts.testBit P.ctorIdx = false) (h : Same P s0 s) :
    SameOut P s0 (execClarke n rd ra rb rc s) := by
  unfold execClarke
  repeat' first
    | with_reducible assumption
    | with_reducible apply SameOut.next
    | intro _
    | with_reducible refine State.instr_same _ _ _ _ (Wr.sub (by decide) hw) ?_ ?_
    | with_reducible refine State.setRgs_same _ _ _ _ (Wr.sub (by decide) hw) ?_
    | split
    | dsimp only; split

def execPark_parts : Nat := 0x400000
theorem execPark_same {P : Part} {s0 : State} (n : Nat) (rd : Nat) (ra : Nat) (rb : Nat) (rc : Nat) (s : State) (hw :
    execPark_parts.testBit P.ctorIdx = false) (h : Same P s0 s) :
    SameOut P s0 (execPark n rd ra rb rc s) := by
  unfold execPark
  repeat' first
    | with_reducible assumption
    | with_reducible apply SameOut.next
    | intro _
    | with_reducible refine State.instr_same _ _ _ _ (Wr.sub (by decide) hw) ?_ ?_
    | with_reducible refine State.setRgs_same _ _ _ _ (Wr.sub (by decide) hw) ?_
    | split
    | dsimp only; split

def execIpark_parts : Nat := 0x400000
theorem execIpark_same {P : Part} {s0 : State} (n : Nat) (rd : Nat) (ra : Nat) (rb : Nat) (rc : Nat) (s : State) (hw :
    execIpark_parts.testBit P.ctorIdx = false) (h : Same P s0 s) :
    SameOut P s0 (execIpark n rd ra rb rc s) := by
  unfold execIpark
  repeat' first
    | with_reducible assumption
    | with_reducible apply SameOut.next
    | intro _
    | with_reducible refine State.instr_same _ _ _ _ (Wr.sub (by decide) hw) ?_ ?_
    | with_reducible refine State.setRgs_same _ _ _ _ (Wr.sub (by decide) hw) ?_
    | split
    | dsimp only; split

def execLim_parts : Nat := 0x400000
theorem execLim_same {P : Part} {s0 : State} (n : Nat) (rd : Nat) (ra : Nat) (rb : Nat) (rc : Nat) (s : State) (hw :
    execLim_parts.testBit P.ctorIdx = false) (h : Same P s0 s) :
    SameOut P s0 (execLim n rd ra rb rc s) := by
  unfold execLim
  repeat' first
    | with_reducible assumption
    | with_reducible apply SameOut.next
    | with_reducible apply SameOut.ite
    | intro _
    | with_reducible refine State.instr_same _ _ _ _ (Wr.sub (by decide) hw) ?_ ?_
    | with_reducible refine State.setEngFlag_same _ _ _ _ (Wr.sub (by decide) hw) ?_
    | with_reducible refine State.setRgBits_same _ _ _ _ (Wr.sub (by decide) hw) ?_
    | with_reducible apply Same.ite
    | split
    | dsimp only; split

def execClim_parts : Nat := 0x400000
theorem execClim_same {P : Part} {s0 : State} (n : Nat) (rd : Nat) (ra : Nat) (rb : Nat) (rc : Nat) (mod : Nat) (s : State)
    (hw : execClim_parts.testBit P.ctorIdx = false) (h : Same P s0 s) :
    SameOut P s0 (execClim n rd ra rb rc mod s) := by
  unfold execClim
  repeat' first
    | with_reducible assumption
    | with_reducible apply SameOut.next
    | intro _
    | with_reducible refine State.instr_same _ _ _ _ (Wr.sub (by decide) hw) ?_ ?_
    | with_reducible refine State.setEngFlag_same _ _ _ _ (Wr.sub (by decide) hw) ?_
    | with_reducible refine State.setRgs_same _ _ _ _ (Wr.sub (by decide) hw) ?_
    | split
    | dsimp only; split

def execCmpf_parts : Nat := 0x400000
theorem execCmpf_same {P : Part} {s0 : State} (n : Nat) (flag : Nat) (ra : Nat) (rb : Nat) (cond : Nat) (s : State) (hw :
    execCmpf_parts.testBit P.ctorIdx = false) (h : Same P s0 s) :
    SameOut P s0 (execCmpf n flag ra rb cond s) := by
  unfold execCmpf
  repeat' first
    | with_reducible assumption
    | with_reducible apply SameOut.next
    | intro _
    | with_reducible refine State.instr_same _ _ _ _ (Wr.sub (by decide) hw) ?_ ?_
    | with_reducible refine State.setEngFlag_same _ _ _ _ (Wr.sub (by decide) hw) ?_
    | split
    | dsimp only; split

def execPi_parts : Nat := 0x1f59f42
theorem execPi_same {P : Part} {s0 : State} (n : Nat) (rd : Nat) (ra : Nat) (rb : Nat) (addr : Nat) (s : State) (hw :
    execPi_parts.testBit P.ctorIdx = false) (h : Same P s0 s) :
    SameOut P s0 (execPi n rd ra rb addr s) := by
  unfold execPi
  repeat' first
    | with_reducible assumption
    | with_reducible apply SameOut.next
    | intro _
    | with_reducible refine State.instr_same _ _ _ _ (Wr.sub (by decide) hw) ?_ ?_
    | with_reducible refine State.readData_same _ _ _ _ _ (Wr.sub (by decide) hw) ?_ ?_
    | with_reducible refine State.putStates_same _ _ _ _ (Wr.sub (by decide) hw) ?_ ?_
    | with_reducible refine State.setEngFlag_same _ _ _ _ (Wr.sub (by decide) hw) ?_
    | with_reducible refine State.setRg_same _ _ _ _ (Wr.sub (by decide) hw) ?_
    | split
    | dsimp only; split

def execPr_parts : Nat := 0x1f59f42
theorem execPr_same {P : Part} {s0 : State} (n : Nat) (rd : Nat) (ra : Nat) (rb : Nat) (addr : Nat) (s : State) (hw :
    execPr_parts.testBit P.ctorIdx = false) (h : Same P s0 s) :
    SameOut P s0 (execPr n rd ra rb addr s) := by
  unfold execPr
  repeat' first
    | with_reducible assumption
    | with_reducible apply SameOut.next
    | intro _
    | with_reducible refine State.instr_same _ _ _ _ (Wr.sub (by decide) hw) ?_ ?_
    | with_reducible refine State.readData_same _ _ _ _ _ (Wr.sub (by decide) hw) ?_ ?_
    | with_reducible refine State.putStates_same _ _ _ _ (Wr.sub (by decide) hw) ?_ ?_
    | with_reducible refine State.setRg_same _ _ _ _ (Wr.sub (by decide) hw) ?_
    | split
    | dsimp only; split

def execBiq_parts : Nat := 0x1f59f42
theorem execBiq_same {P : Part} {s0 : State} (n : Nat) (rd : Nat) (ra : Nat) (addr : Nat) (s : State) (hw :
    execBiq_parts.testBit P.ctorIdx = false) (h : Same P s0 s) :
    SameOut P s0 (execBiq n rd ra addr s) := by
  unfold execBiq
  repeat' first
    | with_reducible assumption
    | with_reducible apply SameOut.next
    | intro _
    | with_reducible refine State.instr_same _ _ _ _ (Wr.sub (by decide) hw) ?_ ?_
    | with_reducible refine State.readData_same _ _ _ _ _ (Wr.sub (by decide) hw) ?_ ?_
    | with_reducible refine State.putStates_same _ _ _ _ (Wr.sub (by decide) hw) ?_ ?_
    | with_reducible refine State.setRg_same _ _ _ _ (Wr.sub (by decide) hw) ?_
    | split
    | dsimp only; split

def execSogi_parts : Nat := 0x1f59f42
theorem execSogi_same {P : Part} {s0 : State} (n : Nat) (rd : Nat) (ra : Nat) (rb : Nat) (addr : Nat) (s : State) (hw :
    execSogi_parts.testBit P.ctorIdx = false) (h : Same P s0 s) :
    SameOut P s0 (execSogi n rd ra rb addr s) := by
  unfold execSogi
  repeat' first
    | with_reducible assumption
    | with_reducible apply SameOut.next
    | intro _
    | with_reducible refine State.instr_same _ _ _ _ (Wr.sub (by decide) hw) ?_ ?_
    | with_reducible refine State.readData_same _ _ _ _ _ (Wr.sub (by decide) hw) ?_ ?_
    | with_reducible refine State.putStates_same _ _ _ _ (Wr.sub (by decide) hw) ?_ ?_
    | with_reducible refine State.setRgs_same _ _ _ _ (Wr.sub (by decide) hw) ?_
    | split
    | dsimp only; split

def execDdsrf_parts : Nat := 0x1f59f42
theorem execDdsrf_same {P : Part} {s0 : State} (n : Nat) (rd : Nat) (ra : Nat) (rb : Nat) (rc : Nat) (addr : Nat) (s :
    State) (hw : execDdsrf_parts.testBit P.ctorIdx = false) (h : Same P s0 s) :
    SameOut P s0 (execDdsrf n rd ra rb rc addr s) := by
  unfold execDdsrf
  repeat' first
    | with_reducible assumption
    | with_reducible apply SameOut.next
    | intro _
    | with_reducible refine State.instr_same _ _ _ _ (Wr.sub (by decide) hw) ?_ ?_
    | with_reducible refine State.readData_same _ _ _ _ _ (Wr.sub (by decide) hw) ?_ ?_
    | with_reducible refine State.putStates_same _ _ _ _ (Wr.sub (by decide) hw) ?_ ?_
    | with_reducible refine State.setRgs_same _ _ _ _ (Wr.sub (by decide) hw) ?_
    | split
    | dsimp only; split

def execPll_parts : Nat := 0x1f59f42
theorem execPll_same {P : Part} {s0 : State} (n : Nat) (rd : Nat) (ra : Nat) (addr : Nat) (s : State) (hw :
    execPll_parts.testBit P.ctorIdx = false) (h : Same P s0 s) :
    SameOut P s0 (execPll n rd ra addr s) := by
  unfold execPll
  repeat' first
    | with_reducible assumption
    | with_reducible apply SameOut.next
    | intro _
    | with_reducible refine State.instr_same _ _ _ _ (Wr.sub (by decide) hw) ?_ ?_
    | with_reducible refine State.readData_same _ _ _ _ _ (Wr.sub (by decide) hw) ?_ ?_
    | with_reducible refine State.putStates_same _ _ _ _ (Wr.sub (by decide) hw) ?_ ?_
    | with_reducible refine State.setEngFlag_same _ _ _ _ (Wr.sub (by decide) hw) ?_
    | with_reducible refine State.setRgs_same _ _ _ _ (Wr.sub (by decide) hw) ?_
    | split
    | dsimp only; split

def execRlim_parts : Nat := 0x1f59f42
theorem execRlim_same {P : Part} {s0 : State} (n : Nat) (rd : Nat) (ra : Nat) (addr : Nat) (s : State) (hw :
    execRlim_parts.testBit P.ctorIdx = false) (h : Same P s0 s) :
    SameOut P s0 (execRlim n rd ra addr s) := by
  unfold execRlim
  repeat' first
    | with_reducible assumption
    | with_reducible apply SameOut.next
    | intro _
    | with_reducible refine State.instr_same _ _ _ _ (Wr.sub (by decide) hw) ?_ ?_
    | with_reducible refine State.readData_same _ _ _ _ _ (Wr.sub (by decide) hw) ?_ ?_
    | with_reducible refine State.putStates_same _ _ _ _ (Wr.sub (by decide) hw) ?_ ?_
    | with_reducible refine State.setEngFlag_same _ _ _ _ (Wr.sub (by decide) hw) ?_
    | with_reducible refine State.setRg_same _ _ _ _ (Wr.sub (by decide) hw) ?_
    | split
    | dsimp only; split

def execLut_parts : Nat := 0x1f59f42
theorem execLut_same {P : Part} {s0 : State} (n : Nat) (rd : Nat) (ra : Nat) (addr : Nat) (s : State) (hw :
    execLut_parts.testBit P.ctorIdx = false) (h : Same P s0 s) :
    SameOut P s0 (execLut n rd ra addr s) := by
  unfold execLut
  repeat' first
    | with_reducible assumption
    | with_reducible apply SameOut.next
    | with_reducible apply SameOut.ite
    | intro _
    | with_reducible refine State.instr_same _ _ _ _ (Wr.sub (by decide) hw) ?_ ?_
    | with_reducible refine State.readData_same _ _ _ _ _ (Wr.sub (by decide) hw) ?_ ?_
    | with_reducible refine State.engineFault_same _ _ _ (Wr.sub (by decide) hw) ?_
    | with_reducible refine State.setRg_same _ _ _ _ (Wr.sub (by decide) hw) ?_
    | with_reducible apply Same.ite
    | split
    | dsimp only; split

def execProf_parts : Nat := 0x1f59f42
theorem execProf_same {P : Part} {s0 : State} (n : Nat) (rd : Nat) (ra : Nat) (addr : Nat) (s : State) (hw :
    execProf_parts.testBit P.ctorIdx = false) (h : Same P s0 s) :
    SameOut P s0 (execProf n rd ra addr s) := by
  unfold execProf
  repeat' first
    | with_reducible assumption
    | with_reducible apply SameOut.next
    | with_reducible apply SameOut.ite
    | intro _
    | with_reducible refine State.instr_same _ _ _ _ (Wr.sub (by decide) hw) ?_ ?_
    | with_reducible refine State.readData_same _ _ _ _ _ (Wr.sub (by decide) hw) ?_ ?_
    | with_reducible refine State.putStates_same _ _ _ _ (Wr.sub (by decide) hw) ?_ ?_
    | with_reducible refine State.setRgs_same _ _ _ _ (Wr.sub (by decide) hw) ?_
    | with_reducible apply Same.ite
    | split
    | dsimp only; split

def execRamp_parts : Nat := 0x1f59f42
theorem execRamp_same {P : Part} {s0 : State} (n : Nat) (rd : Nat) (ra : Nat) (rb : Nat) (addr : Nat) (s : State) (hw :
    execRamp_parts.testBit P.ctorIdx = false) (h : Same P s0 s) :
    SameOut P s0 (execRamp n rd ra rb addr s) := by
  unfold execRamp
  repeat' first
    | with_reducible assumption
    | with_reducible apply SameOut.next
    | with_reducible apply SameOut.ite
    | intro _
    | with_reducible refine State.instr_same _ _ _ _ (Wr.sub (by decide) hw) ?_ ?_
    | with_reducible refine State.readData_same _ _ _ _ _ (Wr.sub (by decide) hw) ?_ ?_
    | with_reducible refine State.putStates_same _ _ _ _ (Wr.sub (by decide) hw) ?_ ?_
    | with_reducible refine State.logStore_same _ _ _ _ (Wr.sub (by decide) hw) ?_
    | with_reducible refine State.setEngFlag_same _ _ _ _ (Wr.sub (by decide) hw) ?_
    | with_reducible refine State.setRg_same _ _ _ _ (Wr.sub (by decide) hw) ?_
    | with_reducible apply Same.whenIf
    | with_reducible apply Same.ite
    | split
    | dsimp only; split

def execFerr_parts : Nat := 0x1f59f42
theorem execFerr_same {P : Part} {s0 : State} (n : Nat) (ra : Nat) (rb : Nat) (addr : Nat) (s : State) (hw :
    execFerr_parts.testBit P.ctorIdx = false) (h : Same P s0 s) :
    SameOut P s0 (execFerr n ra rb addr s) := by
  unfold execFerr
  repeat' first
    | with_reducible assumption
    | with_reducible apply SameOut.next
    | with_reducible apply SameOut.ite
    | intro _
    | with_reducible refine State.instr_same _ _ _ _ (Wr.sub (by decide) hw) ?_ ?_
    | with_reducible refine State.readData_same _ _ _ _ _ (Wr.sub (by decide) hw) ?_ ?_
    | with_reducible refine State.logStore_same _ _ _ _ (Wr.sub (by decide) hw) ?_
    | with_reducible refine State.modEngine_same _ _ _ (Wr.sub (by decide) hw) ?_
    | with_reducible refine State.setEngFlag_same _ _ _ _ (Wr.sub (by decide) hw) ?_
    | with_reducible apply Same.whenIf
    | with_reducible apply Same.ite
    | split
    | dsimp only; split

def execPreset_parts : Nat := 0x1f59f42
theorem execPreset_same {P : Part} {s0 : State} (n : Nat) (ra : Nat) (rb : Nat) (rc : Nat) (addr : Nat) (s : State) (hw :
    execPreset_parts.testBit P.ctorIdx = false) (h : Same P s0 s) :
    SameOut P s0 (execPreset n ra rb rc addr s) := by
  unfold execPreset
  repeat' first
    | with_reducible assumption
    | with_reducible apply SameOut.next
    | unfold id; with_reducible assumption
    | intro _
    | with_reducible refine State.instr_same _ _ _ _ (Wr.sub (by decide) hw) ?_ ?_
    | with_reducible refine State.readData_same _ _ _ _ _ (Wr.sub (by decide) hw) ?_ ?_
    | with_reducible refine State.putStates_same _ _ _ _ (Wr.sub (by decide) hw) ?_ ?_
    | split
    | dsimp only; split

def execSkip_parts : Nat := 0x400000
theorem execSkip_same {P : Part} {s0 : State} (n : Nat) (flag : Nat) (eq : Bool) (count : Nat) (s : State) (hw :
    execSkip_parts.testBit P.ctorIdx = false) (h : Same P s0 s) :
    SameOut P s0 (execSkip n flag eq count s) := by
  unfold execSkip
  repeat' first
    | with_reducible assumption
    | with_reducible apply SameOut.next
    | intro _
    | with_reducible refine State.instr_same _ _ _ _ (Wr.sub (by decide) hw) ?_ ?_
    | with_reducible refine State.modEngine_same _ _ _ (Wr.sub (by decide) hw) ?_
    | with_reducible apply Same.whenIf
    | split
    | dsimp only; split

def execEvry_parts : Nat := 0x400000
theorem execEvry_same {P : Part} {s0 : State} (n : Nat) (flag : Nat) (every : Nat) (phase : Nat) (s : State) (hw :
    execEvry_parts.testBit P.ctorIdx = false) (h : Same P s0 s) :
    SameOut P s0 (execEvry n flag every phase s) := by
  unfold execEvry
  repeat' first
    | with_reducible assumption
    | with_reducible apply SameOut.next
    | intro _
    | with_reducible refine State.instr_same _ _ _ _ (Wr.sub (by decide) hw) ?_ ?_
    | with_reducible refine State.setEngFlag_same _ _ _ _ (Wr.sub (by decide) hw) ?_
    | split
    | dsimp only; split

def execEvt_parts : Nat := 0x400000
theorem execEvt_same {P : Part} {s0 : State} (n : Nat) (ra : Nat) (code : Nat) (fault : Bool) (s : State) (hw :
    execEvt_parts.testBit P.ctorIdx = false) (h : Same P s0 s) :
    SameOut P s0 (execEvt n ra code fault s) := by
  unfold execEvt
  repeat' first
    | with_reducible assumption
    | with_reducible apply SameOut.next
    | with_reducible apply SameOut.ite
    | intro _
    | with_reducible refine State.instr_same _ _ _ _ (Wr.sub (by decide) hw) ?_ ?_
    | with_reducible refine State.modEngine_same _ _ _ (Wr.sub (by decide) hw) ?_
    | with_reducible apply Same.ite
    | split
    | dsimp only; split

end Sys2Proof.Machine
end

