-- ==== Sys2Proof/Laws/SameStandby.lean ====
section
/-!
SUPPORT. Which parts of State the operations of Machine/Standby.lean can change (Laws/Same.lean), as bits by the part's number, and that
they leave every other as it was.
-/
namespace Sys2Proof.Machine

set_option linter.unusedTactic false
set_option linter.unreachableTactic false

def State.standbyTakesSets_parts : Nat := 0x400
theorem State.standbyTakesSets_same {P : Part} {s0 : State} (s : State) (hw : State.standbyTakesSets_parts.testBit
    P.ctorIdx = false) (h : Same P s0 s) :
    Same P s0 (State.standbyTakesSets s) := by
  unfold State.standbyTakesSets
  repeat' first
    | with_reducible assumption
    | intro _
    | with_reducible refine State.modGroup_same _ _ _ (Wr.sub (by decide) hw) ?_
    | with_reducible apply Same.each
    | split
    | (with_reducible apply Same.zeta); split

def State.standbyLeft_parts : Nat := 0x400
theorem State.standbyLeft_same {P : Part} {s0 : State} (s : State) (g : Nat) (old : SMap) (hw :
    State.standbyLeft_parts.testBit P.ctorIdx = false) (h : Same P s0 s) :
    Same P s0 (State.standbyLeft s g old) := by
  unfold State.standbyLeft
  repeat' first
    | with_reducible assumption
    | intro _
    | with_reducible refine State.modGroup_same _ _ _ (Wr.sub (by decide) hw) ?_
    | with_reducible apply Same.foldl
    | with_reducible apply Same.ite
    | split
    | (with_reducible apply Same.zeta); split

def State.standbySwap_parts : Nat := 0x420
theorem State.standbySwap_same {P : Part} {s0 : State} (s : State) (hw : State.standbySwap_parts.testBit P.ctorIdx = false)
    (h : Same P s0 s) :
    Same P s0 (State.standbySwap s) := by
  unfold State.standbySwap
  repeat' first
    | with_reducible assumption
    | intro _
    | with_reducible refine State.setVar_same _ _ _ _ (Wr.sub (by decide) hw) ?_
    | with_reducible refine State.modGroup_same _ _ _ (Wr.sub (by decide) hw) ?_
    | with_reducible refine State.requestApply_same _ _ _ _ (Wr.sub (by decide) hw) ?_
    | with_reducible apply Same.each
    | with_reducible apply Same.ite
    | split
    | (with_reducible apply Same.zeta); split

end Sys2Proof.Machine
end

