-- ==== Sys2Proof/Laws/SameDuplex.lean ====
section
/-!
SUPPORT. Which parts of State the operations of Machine/Duplex.lean can change (Laws/Same.lean), as bits by the part's number, and that
they leave every other as it was.
-/
namespace Sys2Proof.Machine

set_option linter.unusedTactic false
set_option linter.unreachableTactic false

def State.setLease_parts : Nat := 0x82
theorem State.setLease_same {P : Part} {s0 : State} (s : State) (w : Wing) (v : Nat) (hw : State.setLease_parts.testBit
    P.ctorIdx = false) (h : Same P s0 s) :
    Same P s0 (State.setLease s w v) := by
  unfold State.setLease
  repeat' first
    | with_reducible assumption
    | intro _
    | with_reducible refine State.setFld_same _ _ _ _ (Wr.sub (by decide) hw) ?_
    | fail_if_no_progress with_reducible refine Same.updDup (W := State.setLease_parts) (by decide) hw ?_
    | split
    | (with_reducible apply Same.zeta); split

def State.setPass_parts : Nat := 0x2
theorem State.setPass_same {P : Part} {s0 : State} (s : State) (w : Wing) (on : Bool) (hw : State.setPass_parts.testBit
    P.ctorIdx = false) (h : Same P s0 s) :
    Same P s0 (State.setPass s w on) := by
  unfold State.setPass
  repeat' first
    | with_reducible assumption
    | intro _
    | with_reducible refine State.setBit_same _ _ _ _ _ (Wr.sub (by decide) hw) ?_
    | split
    | (with_reducible apply Same.zeta); split

def State.grant_parts : Nat := 0x82
theorem State.grant_same {P : Part} {s0 : State} (s : State) (w : Wing) (hw : State.grant_parts.testBit P.ctorIdx = false)
    (h : Same P s0 s) :
    Same P s0 (State.grant s w) := by
  unfold State.grant
  repeat' first
    | with_reducible assumption
    | intro _
    | with_reducible refine State.setLease_same _ _ _ (Wr.sub (by decide) hw) ?_
    | with_reducible refine State.setPass_same _ _ _ (Wr.sub (by decide) hw) ?_
    | split
    | (with_reducible apply Same.zeta); split

def State.setRc_parts : Nat := 0x2000
theorem State.setRc_same {P : Part} {s0 : State} (s : State) (n : Nat) (hw : State.setRc_parts.testBit P.ctorIdx = false)
    (h : Same P s0 s) :
    Same P s0 (State.setRc s n) := by
  unfold State.setRc
  repeat' first
    | with_reducible assumption
    | intro _
    | fail_if_no_progress with_reducible refine Same.updCt (W := State.setRc_parts) (by decide) hw ?_
    | split
    | (with_reducible apply Same.zeta); split

def State.setAcquired_parts : Nat := 0x80
theorem State.setAcquired_same {P : Part} {s0 : State} (s : State) (b : Bool) (hw : State.setAcquired_parts.testBit
    P.ctorIdx = false) (h : Same P s0 s) :
    Same P s0 (State.setAcquired s b) := by
  unfold State.setAcquired
  repeat' first
    | with_reducible assumption
    | intro _
    | fail_if_no_progress with_reducible refine Same.updDup (W := State.setAcquired_parts) (by decide) hw ?_
    | split
    | (with_reducible apply Same.zeta); split

def State.leaseTick_parts : Nat := 0x2082
theorem State.leaseTick_same {P : Part} {s0 : State} (s : State) (hw : State.leaseTick_parts.testBit P.ctorIdx = false) (h
    : Same P s0 s) :
    Same P s0 (State.leaseTick s) := by
  unfold State.leaseTick
  repeat' first
    | with_reducible assumption
    | intro _
    | with_reducible refine State.setRc_same _ _ (Wr.sub (by decide) hw) ?_
    | with_reducible refine State.setAcquired_same _ _ (Wr.sub (by decide) hw) ?_
    | with_reducible refine State.setLease_same _ _ _ (Wr.sub (by decide) hw) ?_
    | with_reducible apply Same.each
    | with_reducible apply Same.ite
    | split
    | (with_reducible apply Same.zeta); split

def State.renew_parts : Nat := 0x82
theorem State.renew_same {P : Part} {s0 : State} (s : State) (w : Wing) (hw : State.renew_parts.testBit P.ctorIdx = false)
    (h : Same P s0 s) :
    Same P s0 (State.renew s w) := by
  unfold State.renew
  repeat' first
    | with_reducible assumption
    | intro _
    | with_reducible refine State.setLease_same _ _ _ (Wr.sub (by decide) hw) ?_
    | with_reducible refine State.count_same _ _ _ (Wr.sub (by decide) hw) ?_
    | with_reducible apply Same.ite
    | split
    | (with_reducible apply Same.zeta); split

def execLeaseRenew_parts : Nat := 0xb82
theorem execLeaseRenew_same {P : Part} {s0 : State} (core : Nat) (s : State) (hw : execLeaseRenew_parts.testBit P.ctorIdx =
    false) (h : Same P s0 s) :
    SameOut P s0 (execLeaseRenew core s) := by
  unfold execLeaseRenew
  repeat' first
    | with_reducible assumption
    | with_reducible apply SameOut.next
    | intro _
    | with_reducible refine State.accessBlk_same _ _ _ _ _ (Wr.sub (by decide) hw) ?_ ?_
    | with_reducible refine State.renew_same _ _ (Wr.sub (by decide) hw) ?_
    | split
    | dsimp only; split

def State.enterTakeover_parts : Nat := 0x808
theorem State.enterTakeover_same {P : Part} {s0 : State} (s : State) (c : Nat) (hw : State.enterTakeover_parts.testBit
    P.ctorIdx = false) (h : Same P s0 s) :
    Same P s0 (State.enterTakeover s c) := by
  unfold State.enterTakeover
  repeat' first
    | with_reducible assumption
    | intro _
    | with_reducible refine State.fresh_same _ _ (Wr.sub (by decide) hw) ?_
    | (with_reducible refine Same.snd ?_ (by assumption)); with_reducible refine State.fresh_same _ _ (Wr.sub (by decide) hw) ?_
    | with_reducible apply Same.ite
    | fail_if_no_progress with_reducible refine Same.updTut (W := State.enterTakeover_parts) (by decide) hw ?_
    | split
    | (with_reducible apply Same.zeta); split

def State.takeoverEntry_parts : Nat := 0x808
theorem State.takeoverEntry_same {P : Part} {s0 : State} (s : State) (w : Wing) (hw : State.takeoverEntry_parts.testBit
    P.ctorIdx = false) (h : Same P s0 s) :
    Same P s0 (State.takeoverEntry s w) := by
  unfold State.takeoverEntry
  repeat' first
    | with_reducible assumption
    | intro _
    | with_reducible refine State.enterTakeover_same _ _ (Wr.sub (by decide) hw) ?_
    | with_reducible apply Same.each
    | with_reducible apply Same.ite
    | fail_if_no_progress with_reducible refine Same.updTut (W := State.takeoverEntry_parts) (by decide) hw ?_
    | split
    | (with_reducible apply Same.zeta); split

def State.wingLocked_parts : Nat := 0xc8a
theorem State.wingLocked_same {P : Part} {s0 : State} (s : State) (w : Wing) (hw : State.wingLocked_parts.testBit P.ctorIdx
    = false) (h : Same P s0 s) :
    Same P s0 (State.wingLocked s w) := by
  unfold State.wingLocked
  repeat' first
    | with_reducible assumption
    | intro _
    | with_reducible refine State.standbyTakesSets_same _ (Wr.sub (by decide) hw) ?_
    | with_reducible refine State.setWing_same _ _ _ (Wr.sub (by decide) hw) ?_
    | with_reducible refine State.takeoverEntry_same _ _ (Wr.sub (by decide) hw) ?_
    | with_reducible apply Same.whenIf
    | with_reducible apply Same.ite
    | fail_if_no_progress with_reducible refine Same.updDup (W := State.wingLocked_parts) (by decide) hw ?_
    | split
    | (with_reducible apply Same.zeta); split

def State.passLost_parts : Nat := 0x1f7bfea
theorem State.passLost_same {P : Part} {s0 : State} (s : State) (w : Wing) (released : Bool) (hw :
    State.passLost_parts.testBit P.ctorIdx = false) (h : Same P s0 s) :
    Same P s0 (State.passLost s w released) := by
  unfold State.passLost
  repeat' first
    | with_reducible assumption
    | intro _
    | with_reducible refine State.setLease_same _ _ _ (Wr.sub (by decide) hw) ?_
    | with_reducible refine State.setPass_same _ _ _ (Wr.sub (by decide) hw) ?_
    | with_reducible refine State.clearOuten_same _ _ (Wr.sub (by decide) hw) ?_
    | with_reducible refine State.setFld_same _ _ _ _ (Wr.sub (by decide) hw) ?_
    | with_reducible refine State.abandonWing_same _ _ (Wr.sub (by decide) hw) ?_
    | with_reducible refine State.raise_same _ _ _ (Wr.sub (by decide) hw) ?_
    | with_reducible refine State.setWing_same _ _ _ (Wr.sub (by decide) hw) ?_
    | with_reducible refine State.dupEvent_same _ _ _ _ _ _ _ _ (Wr.sub (by decide) hw) ?_
    | with_reducible refine State.advanceEpoch_same _ _ _ (Wr.sub (by decide) hw) ?_
    | with_reducible refine State.standbySwap_same _ (Wr.sub (by decide) hw) ?_
    | with_reducible refine State.grant_same _ _ (Wr.sub (by decide) hw) ?_
    | with_reducible refine State.takeoverEntry_same _ _ (Wr.sub (by decide) hw) ?_
    | with_reducible refine State.count_same _ _ _ (Wr.sub (by decide) hw) ?_
    | with_reducible refine State.setWindow_same _ _ _ (Wr.sub (by decide) hw) ?_
    | with_reducible apply Same.whenIf
    | with_reducible apply Same.each
    | with_reducible apply Same.foldl
    | with_reducible apply Same.ite
    | fail_if_no_progress with_reducible refine Same.updDup (W := State.passLost_parts) (by decide) hw ?_
    | split
    | (with_reducible apply Same.zeta); split

def execLeaseExpiry_parts : Nat := 0x1f7bfea
theorem execLeaseExpiry_same {P : Part} {s0 : State} (w : Wing) (s : State) (hw : execLeaseExpiry_parts.testBit P.ctorIdx =
    false) (h : Same P s0 s) :
    SameOut P s0 (execLeaseExpiry w s) := by
  unfold execLeaseExpiry
  repeat' first
    | with_reducible assumption
    | with_reducible apply SameOut.next
    | intro _
    | with_reducible refine State.passLost_same _ _ _ (Wr.sub (by decide) hw) ?_
    | split
    | dsimp only; split

def State.retireVoter_parts : Nat := 0x10a82
theorem State.retireVoter_same {P : Part} {s0 : State} (s : State) (voter : Nat) (w : Wing) (hw :
    State.retireVoter_parts.testBit P.ctorIdx = false) (h : Same P s0 s) :
    Same P s0 (State.retireVoter s voter w) := by
  unfold State.retireVoter
  repeat' first
    | with_reducible assumption
    | intro _
    | with_reducible refine State.consumeSpare_same _ _ (Wr.sub (by decide) hw) ?_
    | with_reducible refine State.recordRepair_same _ _ _ _ _ (Wr.sub (by decide) hw) ?_
    | with_reducible refine State.dupEvent_same _ _ _ _ _ _ _ _ (Wr.sub (by decide) hw) ?_
    | with_reducible refine State.setFld_same _ _ _ _ (Wr.sub (by decide) hw) ?_
    | fail_if_no_progress with_reducible refine Same.updDup (W := State.retireVoter_parts) (by decide) hw ?_
    | split
    | (with_reducible apply Same.zeta); split

def execVoterDisagreement_parts : Nat := 0x1f7bfea
theorem execVoterDisagreement_same {P : Part} {s0 : State} (voter : Nat) (w : Wing) (s : State) (hw :
    execVoterDisagreement_parts.testBit P.ctorIdx = false) (h : Same P s0 s) :
    SameOut P s0 (execVoterDisagreement voter w s) := by
  unfold execVoterDisagreement
  repeat' first
    | with_reducible assumption
    | with_reducible apply SameOut.next
    | with_reducible apply SameOut.ite
    | intro _
    | with_reducible refine State.passLost_same _ _ _ (Wr.sub (by decide) hw) ?_
    | with_reducible refine State.retireVoter_same _ _ _ (Wr.sub (by decide) hw) ?_
    | with_reducible apply Same.whenIf
    | with_reducible apply Same.ite
    | fail_if_no_progress with_reducible refine Same.updDup (W := execVoterDisagreement_parts) (by decide) hw ?_
    | split
    | dsimp only; split

def State.cmdDiscarded_parts : Nat := 0xa02
theorem State.cmdDiscarded_same {P : Part} {s0 : State} (s : State) (w : Wing) (cmd : Nat) (hw :
    State.cmdDiscarded_parts.testBit P.ctorIdx = false) (h : Same P s0 s) :
    Same P s0 (State.cmdDiscarded s w cmd) := by
  unfold State.cmdDiscarded
  repeat' first
    | with_reducible assumption
    | intro _
    | with_reducible refine State.dupEvent_same _ _ _ _ _ _ _ _ (Wr.sub (by decide) hw) ?_
    | split
    | (with_reducible apply Same.zeta); split

def State.hpCmd_parts : Nat := 0xb02
theorem State.hpCmd_same {P : Part} {s0 : State} (s : State) (core : Nat) (f : State → Wing → State) (hw :
    State.hpCmd_parts.testBit P.ctorIdx = false) (h : Same P s0 s) (hf : ∀ t, Same P s0 t → ∀ x1, Same P s0 (f t x1)) :
    Same P s0 (State.hpCmd s core f) := by
  unfold State.hpCmd
  repeat' first
    | with_reducible assumption
    | intro _
    | with_reducible refine State.accessBlk_same _ _ _ _ _ (Wr.sub (by decide) hw) ?_ ?_
    | with_reducible apply hf
    | split
    | (with_reducible apply Same.zeta); split

def State.stopPll_parts : Nat := 0x2
theorem State.stopPll_same {P : Part} {s0 : State} (s : State) (x1 : Wing) (hw : State.stopPll_parts.testBit P.ctorIdx =
    false) (h : Same P s0 s) :
    Same P s0 (State.stopPll s x1) := by
  unfold State.stopPll
  repeat' first
    | with_reducible assumption
    | intro _
    | with_reducible refine State.setFld_same _ _ _ _ (Wr.sub (by decide) hw) ?_
    | split
    | (with_reducible apply Same.zeta); split

def State.setBistFails_parts : Nat := 0x80
theorem State.setBistFails_same {P : Part} {s0 : State} (s : State) (w : Wing) (n : Nat) (hw :
    State.setBistFails_parts.testBit P.ctorIdx = false) (h : Same P s0 s) :
    Same P s0 (State.setBistFails s w n) := by
  unfold State.setBistFails
  repeat' first
    | with_reducible assumption
    | intro _
    | fail_if_no_progress with_reducible refine Same.updDup (W := State.setBistFails_parts) (by decide) hw ?_
    | split
    | (with_reducible apply Same.zeta); split

def State.bistResult_parts : Nat := 0xa82
theorem State.bistResult_same {P : Part} {s0 : State} (s : State) (w : Wing) (pass : Bool) (hw :
    State.bistResult_parts.testBit P.ctorIdx = false) (h : Same P s0 s) :
    Same P s0 (State.bistResult s w pass) := by
  unfold State.bistResult
  repeat' first
    | with_reducible assumption
    | intro _
    | with_reducible refine State.setFlag_same _ _ _ _ (Wr.sub (by decide) hw) ?_
    | with_reducible refine State.setBistFails_same _ _ _ (Wr.sub (by decide) hw) ?_
    | with_reducible refine State.count_same _ _ _ (Wr.sub (by decide) hw) ?_
    | with_reducible refine State.dupEvent_same _ _ _ _ _ _ _ _ (Wr.sub (by decide) hw) ?_
    | with_reducible refine State.standbyReserve_same _ _ (Wr.sub (by decide) hw) ?_
    | with_reducible refine State.setWing_same _ _ _ (Wr.sub (by decide) hw) ?_
    | with_reducible apply Same.ite
    | split
    | (with_reducible apply Same.zeta); split

def State.standbyCmd_parts : Nat := 0xa82
theorem State.standbyCmd_same {P : Part} {s0 : State} (s : State) (w : Wing) (pass : Bool) (hw :
    State.standbyCmd_parts.testBit P.ctorIdx = false) (h : Same P s0 s) :
    Same P s0 (State.standbyCmd s w pass) := by
  unfold State.standbyCmd
  repeat' first
    | with_reducible assumption
    | intro _
    | with_reducible refine State.bistResult_same _ _ _ (Wr.sub (by decide) hw) ?_
    | with_reducible refine State.standbyReserve_same _ _ (Wr.sub (by decide) hw) ?_
    | with_reducible refine State.stopPll_same _ _ (Wr.sub (by decide) hw) ?_
    | with_reducible refine State.setWing_same _ _ _ (Wr.sub (by decide) hw) ?_
    | with_reducible refine State.cmdDiscarded_same _ _ _ (Wr.sub (by decide) hw) ?_
    | with_reducible apply Same.ite
    | split
    | (with_reducible apply Same.zeta); split

def execStandby_parts : Nat := 0xb82
theorem execStandby_same {P : Part} {s0 : State} (core : Nat) (pass : Bool) (s : State) (hw : execStandby_parts.testBit
    P.ctorIdx = false) (h : Same P s0 s) :
    SameOut P s0 (execStandby core pass s) := by
  unfold execStandby
  repeat' first
    | with_reducible assumption
    | with_reducible apply SameOut.next
    | intro _
    | with_reducible refine State.hpCmd_same _ _ _ (Wr.sub (by decide) hw) ?_ ?_
    | with_reducible refine State.standbyCmd_same _ _ _ (Wr.sub (by decide) hw) ?_
    | split
    | dsimp only; split

def State.wakeWing_parts : Nat := 0x482
theorem State.wakeWing_same {P : Part} {s0 : State} (s : State) (w : Wing) (hw : State.wakeWing_parts.testBit P.ctorIdx =
    false) (h : Same P s0 s) :
    Same P s0 (State.wakeWing s w) := by
  unfold State.wakeWing
  repeat' first
    | with_reducible assumption
    | intro _
    | with_reducible refine State.standbyTakesSets_same _ (Wr.sub (by decide) hw) ?_
    | with_reducible refine State.setWing_same _ _ _ (Wr.sub (by decide) hw) ?_
    | with_reducible apply Same.ite
    | fail_if_no_progress with_reducible refine Same.updDup (W := State.wakeWing_parts) (by decide) hw ?_
    | split
    | (with_reducible apply Same.zeta); split

def State.wakeCmd_parts : Nat := 0xe82
theorem State.wakeCmd_same {P : Part} {s0 : State} (s : State) (w : Wing) (hw : State.wakeCmd_parts.testBit P.ctorIdx =
    false) (h : Same P s0 s) :
    Same P s0 (State.wakeCmd s w) := by
  unfold State.wakeCmd
  repeat' first
    | with_reducible assumption
    | intro _
    | with_reducible refine State.wakeWing_same _ _ (Wr.sub (by decide) hw) ?_
    | with_reducible refine State.cmdDiscarded_same _ _ _ (Wr.sub (by decide) hw) ?_
    | with_reducible apply Same.ite
    | split
    | (with_reducible apply Same.zeta); split

def execWake_parts : Nat := 0xf82
theorem execWake_same {P : Part} {s0 : State} (core : Nat) (s : State) (hw : execWake_parts.testBit P.ctorIdx = false) (h :
    Same P s0 s) :
    SameOut P s0 (execWake core s) := by
  unfold execWake
  repeat' first
    | with_reducible assumption
    | with_reducible apply SameOut.next
    | intro _
    | with_reducible refine State.hpCmd_same _ _ _ (Wr.sub (by decide) hw) ?_ ?_
    | with_reducible refine State.wakeCmd_same _ _ (Wr.sub (by decide) hw) ?_
    | split
    | dsimp only; split

def State.refuse_parts : Nat := 0xa02
theorem State.refuse_same {P : Part} {s0 : State} (s : State) (w : Wing) (reason : Nat) (hw : State.refuse_parts.testBit
    P.ctorIdx = false) (h : Same P s0 s) :
    Same P s0 (State.refuse s w reason) := by
  unfold State.refuse
  repeat' first
    | with_reducible assumption
    | intro _
    | with_reducible refine State.dupEvent_same _ _ _ _ _ _ _ _ (Wr.sub (by decide) hw) ?_
    | with_reducible refine State.setFld_same _ _ _ _ (Wr.sub (by decide) hw) ?_
    | split
    | (with_reducible apply Same.zeta); split

def State.readyCmd_parts : Nat := 0xa02
theorem State.readyCmd_same {P : Part} {s0 : State} (s : State) (w : Wing) (hw : State.readyCmd_parts.testBit P.ctorIdx =
    false) (h : Same P s0 s) :
    Same P s0 (State.readyCmd s w) := by
  unfold State.readyCmd
  repeat' first
    | with_reducible assumption
    | intro _
    | with_reducible refine State.setWing_same _ _ _ (Wr.sub (by decide) hw) ?_
    | with_reducible refine State.refuse_same _ _ _ (Wr.sub (by decide) hw) ?_
    | with_reducible refine State.cmdDiscarded_same _ _ _ (Wr.sub (by decide) hw) ?_
    | with_reducible apply Same.ite
    | split
    | (with_reducible apply Same.zeta); split

def execReady_parts : Nat := 0xb02
theorem execReady_same {P : Part} {s0 : State} (core : Nat) (s : State) (hw : execReady_parts.testBit P.ctorIdx = false) (h
    : Same P s0 s) :
    SameOut P s0 (execReady core s) := by
  unfold execReady
  repeat' first
    | with_reducible assumption
    | with_reducible apply SameOut.next
    | intro _
    | with_reducible refine State.hpCmd_same _ _ _ (Wr.sub (by decide) hw) ?_ ?_
    | with_reducible refine State.readyCmd_same _ _ (Wr.sub (by decide) hw) ?_
    | split
    | dsimp only; split

def State.handoverCmd_parts : Nat := 0xa82
theorem State.handoverCmd_same {P : Part} {s0 : State} (s : State) (w : Wing) (hw : State.handoverCmd_parts.testBit
    P.ctorIdx = false) (h : Same P s0 s) :
    Same P s0 (State.handoverCmd s w) := by
  unfold State.handoverCmd
  repeat' first
    | with_reducible assumption
    | intro _
    | with_reducible refine State.setFld_same _ _ _ _ (Wr.sub (by decide) hw) ?_
    | with_reducible refine State.setLease_same _ _ _ (Wr.sub (by decide) hw) ?_
    | with_reducible refine State.refuse_same _ _ _ (Wr.sub (by decide) hw) ?_
    | with_reducible refine State.cmdDiscarded_same _ _ _ (Wr.sub (by decide) hw) ?_
    | with_reducible apply Same.ite
    | fail_if_no_progress with_reducible refine Same.updDup (W := State.handoverCmd_parts) (by decide) hw ?_
    | split
    | (with_reducible apply Same.zeta); split

def execHandover_parts : Nat := 0xb82
theorem execHandover_same {P : Part} {s0 : State} (core : Nat) (s : State) (hw : execHandover_parts.testBit P.ctorIdx =
    false) (h : Same P s0 s) :
    SameOut P s0 (execHandover core s) := by
  unfold execHandover
  repeat' first
    | with_reducible assumption
    | with_reducible apply SameOut.next
    | intro _
    | with_reducible refine State.hpCmd_same _ _ _ (Wr.sub (by decide) hw) ?_ ?_
    | with_reducible refine State.handoverCmd_same _ _ (Wr.sub (by decide) hw) ?_
    | split
    | dsimp only; split

def State.cancelHandover_parts : Nat := 0x82
theorem State.cancelHandover_same {P : Part} {s0 : State} (s : State) (hw : State.cancelHandover_parts.testBit P.ctorIdx =
    false) (h : Same P s0 s) :
    Same P s0 (State.cancelHandover s) := by
  unfold State.cancelHandover
  repeat' first
    | with_reducible assumption
    | intro _
    | with_reducible refine State.setFld_same _ _ _ _ (Wr.sub (by decide) hw) ?_
    | fail_if_no_progress with_reducible refine Same.updDup (W := State.cancelHandover_parts) (by decide) hw ?_
    | split
    | (with_reducible apply Same.zeta); split

def State.checkHandover_parts : Nat := 0xa82
theorem State.checkHandover_same {P : Part} {s0 : State} (s : State) (hw : State.checkHandover_parts.testBit P.ctorIdx =
    false) (h : Same P s0 s) :
    Same P s0 (State.checkHandover s) := by
  unfold State.checkHandover
  repeat' first
    | with_reducible assumption
    | intro _
    | with_reducible refine State.cancelHandover_same _ (Wr.sub (by decide) hw) ?_
    | with_reducible refine State.refuse_same _ _ _ (Wr.sub (by decide) hw) ?_
    | with_reducible apply Same.whenIf
    | split
    | (with_reducible apply Same.zeta); split

def State.coldCmd_parts : Nat := 0xa82
theorem State.coldCmd_same {P : Part} {s0 : State} (s : State) (w : Wing) (hw : State.coldCmd_parts.testBit P.ctorIdx =
    false) (h : Same P s0 s) :
    Same P s0 (State.coldCmd s w) := by
  unfold State.coldCmd
  repeat' first
    | with_reducible assumption
    | intro _
    | with_reducible refine State.checkHandover_same _ (Wr.sub (by decide) hw) ?_
    | with_reducible refine State.stopPll_same _ _ (Wr.sub (by decide) hw) ?_
    | with_reducible refine State.setWing_same _ _ _ (Wr.sub (by decide) hw) ?_
    | with_reducible refine State.cmdDiscarded_same _ _ _ (Wr.sub (by decide) hw) ?_
    | with_reducible apply Same.ite
    | split
    | (with_reducible apply Same.zeta); split

def execCold_parts : Nat := 0xb82
theorem execCold_same {P : Part} {s0 : State} (core : Nat) (s : State) (hw : execCold_parts.testBit P.ctorIdx = false) (h :
    Same P s0 s) :
    SameOut P s0 (execCold core s) := by
  unfold execCold
  repeat' first
    | with_reducible assumption
    | with_reducible apply SameOut.next
    | intro _
    | with_reducible refine State.hpCmd_same _ _ _ (Wr.sub (by decide) hw) ?_ ?_
    | with_reducible refine State.coldCmd_same _ _ (Wr.sub (by decide) hw) ?_
    | split
    | dsimp only; split

def State.cancelCmd_parts : Nat := 0xa82
theorem State.cancelCmd_same {P : Part} {s0 : State} (s : State) (w : Wing) (hw : State.cancelCmd_parts.testBit P.ctorIdx =
    false) (h : Same P s0 s) :
    Same P s0 (State.cancelCmd s w) := by
  unfold State.cancelCmd
  repeat' first
    | with_reducible assumption
    | intro _
    | with_reducible refine State.cancelHandover_same _ (Wr.sub (by decide) hw) ?_
    | with_reducible refine State.setWing_same _ _ _ (Wr.sub (by decide) hw) ?_
    | with_reducible refine State.cmdDiscarded_same _ _ _ (Wr.sub (by decide) hw) ?_
    | with_reducible apply Same.whenIf
    | with_reducible apply Same.ite
    | split
    | (with_reducible apply Same.zeta); split

def execCancel_parts : Nat := 0xb82
theorem execCancel_same {P : Part} {s0 : State} (core : Nat) (s : State) (hw : execCancel_parts.testBit P.ctorIdx = false)
    (h : Same P s0 s) :
    SameOut P s0 (execCancel core s) := by
  unfold execCancel
  repeat' first
    | with_reducible assumption
    | with_reducible apply SameOut.next
    | intro _
    | with_reducible refine State.hpCmd_same _ _ _ (Wr.sub (by decide) hw) ?_ ?_
    | with_reducible refine State.cancelCmd_same _ _ (Wr.sub (by decide) hw) ?_
    | split
    | dsimp only; split

def State.releaseCmd_parts : Nat := 0x1f7bfea
theorem State.releaseCmd_same {P : Part} {s0 : State} (s : State) (w : Wing) (hw : State.releaseCmd_parts.testBit P.ctorIdx
    = false) (h : Same P s0 s) :
    Same P s0 (State.releaseCmd s w) := by
  unfold State.releaseCmd
  repeat' first
    | with_reducible assumption
    | intro _
    | with_reducible refine State.passLost_same _ _ _ (Wr.sub (by decide) hw) ?_
    | with_reducible refine State.cmdDiscarded_same _ _ _ (Wr.sub (by decide) hw) ?_
    | with_reducible apply Same.ite
    | split
    | (with_reducible apply Same.zeta); split

def execRelease_parts : Nat := 0x1f7bfea
theorem execRelease_same {P : Part} {s0 : State} (core : Nat) (s : State) (hw : execRelease_parts.testBit P.ctorIdx =
    false) (h : Same P s0 s) :
    SameOut P s0 (execRelease core s) := by
  unfold execRelease
  repeat' first
    | with_reducible assumption
    | with_reducible apply SameOut.next
    | intro _
    | with_reducible refine State.hpCmd_same _ _ _ (Wr.sub (by decide) hw) ?_ ?_
    | with_reducible refine State.releaseCmd_same _ _ (Wr.sub (by decide) hw) ?_
    | split
    | dsimp only; split

def State.withdrawB_parts : Nat := 0x1f59fc2
theorem State.withdrawB_same {P : Part} {s0 : State} (s : State) (hw : State.withdrawB_parts.testBit P.ctorIdx = false) (h
    : Same P s0 s) :
    Same P s0 (State.withdrawB s) := by
  unfold State.withdrawB
  repeat' first
    | with_reducible assumption
    | intro _
    | with_reducible refine State.setLease_same _ _ _ (Wr.sub (by decide) hw) ?_
    | with_reducible refine State.setPass_same _ _ _ (Wr.sub (by decide) hw) ?_
    | with_reducible refine State.clearOuten_same _ _ (Wr.sub (by decide) hw) ?_
    | with_reducible refine State.setWing_same _ _ _ (Wr.sub (by decide) hw) ?_
    | with_reducible refine State.abandonWing_same _ _ (Wr.sub (by decide) hw) ?_
    | with_reducible apply Same.each
    | split
    | (with_reducible apply Same.zeta); split

def State.acquireCmd_parts : Nat := 0x1f59fc2
theorem State.acquireCmd_same {P : Part} {s0 : State} (s : State) (w : Wing) (hw : State.acquireCmd_parts.testBit P.ctorIdx
    = false) (h : Same P s0 s) :
    Same P s0 (State.acquireCmd s w) := by
  unfold State.acquireCmd
  repeat' first
    | with_reducible assumption
    | intro _
    | with_reducible refine State.withdrawB_same _ (Wr.sub (by decide) hw) ?_
    | with_reducible refine State.setWing_same _ _ _ (Wr.sub (by decide) hw) ?_
    | with_reducible refine State.grant_same _ _ (Wr.sub (by decide) hw) ?_
    | with_reducible refine State.setAcquired_same _ _ (Wr.sub (by decide) hw) ?_
    | with_reducible refine State.cmdDiscarded_same _ _ _ (Wr.sub (by decide) hw) ?_
    | with_reducible apply Same.whenIf
    | with_reducible apply Same.ite
    | split
    | (with_reducible apply Same.zeta); split

def execAcquire_parts : Nat := 0x1f59fc2
theorem execAcquire_same {P : Part} {s0 : State} (core : Nat) (s : State) (hw : execAcquire_parts.testBit P.ctorIdx =
    false) (h : Same P s0 s) :
    SameOut P s0 (execAcquire core s) := by
  unfold execAcquire
  repeat' first
    | with_reducible assumption
    | with_reducible apply SameOut.next
    | intro _
    | with_reducible refine State.hpCmd_same _ _ _ (Wr.sub (by decide) hw) ?_ ?_
    | with_reducible refine State.acquireCmd_same _ _ (Wr.sub (by decide) hw) ?_
    | split
    | dsimp only; split

def execColdSelfTestWindow_parts : Nat := 0xe82
theorem execColdSelfTestWindow_same {P : Part} {s0 : State} (w : Wing) (pass : Bool) (s : State) (hw :
    execColdSelfTestWindow_parts.testBit P.ctorIdx = false) (h : Same P s0 s) :
    SameOut P s0 (execColdSelfTestWindow w pass s) := by
  unfold execColdSelfTestWindow
  repeat' first
    | with_reducible assumption
    | with_reducible apply SameOut.next
    | with_reducible apply SameOut.ite
    | intro _
    | with_reducible refine State.bistResult_same _ _ _ (Wr.sub (by decide) hw) ?_
    | with_reducible refine State.standbyTakesSets_same _ (Wr.sub (by decide) hw) ?_
    | with_reducible refine State.setWindow_same _ _ _ (Wr.sub (by decide) hw) ?_
    | with_reducible apply Same.ite
    | split
    | dsimp only; split

def State.closeWindows_parts : Nat := 0x82
theorem State.closeWindows_same {P : Part} {s0 : State} (s : State) (hw : State.closeWindows_parts.testBit P.ctorIdx =
    false) (h : Same P s0 s) :
    Same P s0 (State.closeWindows s) := by
  unfold State.closeWindows
  repeat' first
    | with_reducible assumption
    | intro _
    | with_reducible refine State.setWindow_same _ _ _ (Wr.sub (by decide) hw) ?_
    | with_reducible refine State.stopPll_same _ _ (Wr.sub (by decide) hw) ?_
    | with_reducible apply Same.whenIf
    | with_reducible apply Same.each
    | split
    | (with_reducible apply Same.zeta); split

def State.setDtcmWord_parts : Nat := 0x800
theorem State.setDtcmWord_same {P : Part} {s0 : State} (s : State) (w : Wing) (ofs : Nat) (v : Nat) (hw :
    State.setDtcmWord_parts.testBit P.ctorIdx = false) (h : Same P s0 s) :
    Same P s0 (State.setDtcmWord s w ofs v) := by
  unfold State.setDtcmWord
  repeat' first
    | with_reducible assumption
    | intro _
    | with_reducible apply Same.foldl
    | fail_if_no_progress with_reducible refine Same.updTut (W := State.setDtcmWord_parts) (by decide) hw ?_
    | split
    | (with_reducible apply Same.zeta); split

def State.snapshotBell_parts : Nat := 0xa82
theorem State.snapshotBell_same {P : Part} {s0 : State} (s : State) (handover : Bool) (hw :
    State.snapshotBell_parts.testBit P.ctorIdx = false) (h : Same P s0 s) :
    Same P s0 (State.snapshotBell s handover) := by
  unfold State.snapshotBell
  repeat' first
    | with_reducible assumption
    | intro _
    | with_reducible refine State.dupEvent_same _ _ _ _ _ _ _ _ (Wr.sub (by decide) hw) ?_
    | with_reducible refine State.count_same _ _ _ (Wr.sub (by decide) hw) ?_
    | with_reducible apply Same.foldl
    | with_reducible apply Same.ite
    | fail_if_no_progress with_reducible refine Same.updDup (W := State.snapshotBell_parts) (by decide) hw ?_
    | split
    | (with_reducible apply Same.zeta); split

def State.refreshAge_parts : Nat := 0x2
theorem State.refreshAge_same {P : Part} {s0 : State} (s : State) (hw : State.refreshAge_parts.testBit P.ctorIdx = false)
    (h : Same P s0 s) :
    Same P s0 (State.refreshAge s) := by
  unfold State.refreshAge
  repeat' first
    | with_reducible assumption
    | intro _
    | with_reducible refine State.setFld_same _ _ _ _ (Wr.sub (by decide) hw) ?_
    | split
    | (with_reducible apply Same.zeta); split

def State.settleStale_parts : Nat := 0xa02
theorem State.settleStale_same {P : Part} {s0 : State} (s : State) (hw : State.settleStale_parts.testBit P.ctorIdx = false)
    (h : Same P s0 s) :
    Same P s0 (State.settleStale s) := by
  unfold State.settleStale
  repeat' first
    | with_reducible assumption
    | intro _
    | with_reducible refine State.dupEvent_same _ _ _ _ _ _ _ _ (Wr.sub (by decide) hw) ?_
    | with_reducible refine State.setFld_same _ _ _ _ (Wr.sub (by decide) hw) ?_
    | with_reducible apply Same.whenIf
    | split
    | (with_reducible apply Same.zeta); split

def execSnapshotWriteComplete_parts : Nat := 0xa82
theorem execSnapshotWriteComplete_same {P : Part} {s0 : State} (s : State) (hw : execSnapshotWriteComplete_parts.testBit
    P.ctorIdx = false) (h : Same P s0 s) :
    SameOut P s0 (execSnapshotWriteComplete s) := by
  unfold execSnapshotWriteComplete
  repeat' first
    | with_reducible assumption
    | with_reducible apply SameOut.next
    | intro _
    | with_reducible refine State.captureShadows_same _ (Wr.sub (by decide) hw) ?_
    | with_reducible refine State.setFld_same _ _ _ _ (Wr.sub (by decide) hw) ?_
    | with_reducible refine State.settleStale_same _ (Wr.sub (by decide) hw) ?_
    | with_reducible refine State.refreshAge_same _ (Wr.sub (by decide) hw) ?_
    | fail_if_no_progress with_reducible refine Same.updDup (W := execSnapshotWriteComplete_parts) (by decide) hw ?_
    | split
    | dsimp only; split

def State.linkFault_parts : Nat := 0xa82
theorem State.linkFault_same {P : Part} {s0 : State} (s : State) (w : Wing) (hw : State.linkFault_parts.testBit P.ctorIdx =
    false) (h : Same P s0 s) :
    Same P s0 (State.linkFault s w) := by
  unfold State.linkFault
  repeat' first
    | with_reducible assumption
    | intro _
    | with_reducible refine State.setFld_same _ _ _ _ (Wr.sub (by decide) hw) ?_
    | with_reducible refine State.checkHandover_same _ (Wr.sub (by decide) hw) ?_
    | with_reducible refine State.raise_same _ _ _ (Wr.sub (by decide) hw) ?_
    | with_reducible refine State.dupEvent_same _ _ _ _ _ _ _ _ (Wr.sub (by decide) hw) ?_
    | fail_if_no_progress with_reducible refine Same.updDup (W := State.linkFault_parts) (by decide) hw ?_
    | split
    | (with_reducible apply Same.zeta); split

def execLinkStale_parts : Nat := 0xa82
theorem execLinkStale_same {P : Part} {s0 : State} (w : Wing) (s : State) (hw : execLinkStale_parts.testBit P.ctorIdx =
    false) (h : Same P s0 s) :
    SameOut P s0 (execLinkStale w s) := by
  unfold execLinkStale
  repeat' first
    | with_reducible assumption
    | with_reducible apply SameOut.next
    | with_reducible apply SameOut.ite
    | intro _
    | with_reducible refine State.linkFault_same _ _ (Wr.sub (by decide) hw) ?_
    | with_reducible apply Same.ite
    | split
    | dsimp only; split

def execTakeoverSlotChosen_parts : Nat := 0xa82
theorem execTakeoverSlotChosen_same {P : Part} {s0 : State} (s : State) (hw : execTakeoverSlotChosen_parts.testBit
    P.ctorIdx = false) (h : Same P s0 s) :
    SameOut P s0 (execTakeoverSlotChosen s) := by
  unfold execTakeoverSlotChosen
  repeat' first
    | with_reducible assumption
    | with_reducible apply SameOut.next
    | with_reducible apply SameOut.ite
    | intro _
    | with_reducible refine State.dupEvent_same _ _ _ _ _ _ _ _ (Wr.sub (by decide) hw) ?_
    | with_reducible refine State.setFld_same _ _ _ _ (Wr.sub (by decide) hw) ?_
    | with_reducible apply Same.ite
    | fail_if_no_progress with_reducible refine Same.updDup (W := execTakeoverSlotChosen_parts) (by decide) hw ?_
    | split
    | dsimp only; split

def State.restore_parts : Nat := 0x410800
theorem State.restore_same {P : Part} {s0 : State} (s : State) (w : Wing) (engines : List EngSection) (tutor : Option (Nat
    × List Nat)) (hw : State.restore_parts.testBit P.ctorIdx = false) (h : Same P s0 s) :
    Same P s0 (State.restore s w engines tutor) := by
  unfold State.restore
  repeat' first
    | with_reducible assumption
    | intro _
    | with_reducible refine State.setEngWord_same _ _ _ _ (Wr.sub (by decide) hw) ?_
    | with_reducible refine State.mark_same _ _ _ _ (Wr.sub (by decide) hw) ?_
    | with_reducible refine State.modEngine_same _ _ _ (Wr.sub (by decide) hw) ?_
    | with_reducible refine State.setDtcmWord_same _ _ _ _ (Wr.sub (by decide) hw) ?_
    | with_reducible apply Same.each
    | split
    | (with_reducible apply Same.zeta); split

def State.setFirst_parts : Nat := 0x400000
theorem State.setFirst_same {P : Part} {s0 : State} (s : State) (w : Wing) (b : Bool) (hw : State.setFirst_parts.testBit
    P.ctorIdx = false) (h : Same P s0 s) :
    Same P s0 (State.setFirst s w b) := by
  unfold State.setFirst
  repeat' first
    | with_reducible assumption
    | intro _
    | with_reducible refine State.modEngine_same _ _ _ (Wr.sub (by decide) hw) ?_
    | with_reducible apply Same.each
    | split
    | (with_reducible apply Same.zeta); split

def execTakeoverRestoreComplete_parts : Nat := 0x410880
theorem execTakeoverRestoreComplete_same {P : Part} {s0 : State} (s : State) (hw :
    execTakeoverRestoreComplete_parts.testBit P.ctorIdx = false) (h : Same P s0 s) :
    SameOut P s0 (execTakeoverRestoreComplete s) := by
  unfold execTakeoverRestoreComplete
  repeat' first
    | with_reducible assumption
    | with_reducible apply SameOut.next
    | with_reducible apply SameOut.ite
    | intro _
    | with_reducible refine State.setFirst_same _ _ _ (Wr.sub (by decide) hw) ?_
    | with_reducible refine State.restore_same _ _ _ _ (Wr.sub (by decide) hw) ?_
    | with_reducible apply Same.ite
    | fail_if_no_progress with_reducible refine Same.updDup (W := execTakeoverRestoreComplete_parts) (by decide) hw ?_
    | split
    | dsimp only; split

def State.takeoverBell_parts : Nat := 0x82
theorem State.takeoverBell_same {P : Part} {s0 : State} (s : State) (hw : State.takeoverBell_parts.testBit P.ctorIdx =
    false) (h : Same P s0 s) :
    Same P s0 (State.takeoverBell s) := by
  unfold State.takeoverBell
  repeat' first
    | with_reducible assumption
    | intro _
    | with_reducible refine State.setWing_same _ _ _ (Wr.sub (by decide) hw) ?_
    | with_reducible apply Same.ite
    | fail_if_no_progress with_reducible refine Same.updDup (W := State.takeoverBell_parts) (by decide) hw ?_
    | split
    | (with_reducible apply Same.zeta); split

def State.rearmWrite_parts : Nat := 0xa82
theorem State.rearmWrite_same {P : Part} {s0 : State} (s : State) (w : Wing) (mask : Nat) (hw :
    State.rearmWrite_parts.testBit P.ctorIdx = false) (h : Same P s0 s) :
    Same P s0 (State.rearmWrite s w mask) := by
  unfold State.rearmWrite
  repeat' first
    | with_reducible assumption
    | intro _
    | with_reducible refine State.setFld_same _ _ _ _ (Wr.sub (by decide) hw) ?_
    | with_reducible refine State.discarded_same _ _ _ (Wr.sub (by decide) hw) ?_
    | with_reducible apply Same.whenIf
    | with_reducible apply Same.foldl
    | with_reducible apply Same.ite
    | fail_if_no_progress with_reducible refine Same.updDup (W := State.rearmWrite_parts) (by decide) hw ?_
    | split
    | (with_reducible apply Same.zeta); split

def execHpRearmWrite_parts : Nat := 0xb82
theorem execHpRearmWrite_same {P : Part} {s0 : State} (core : Nat) (mask : Nat) (s : State) (hw :
    execHpRearmWrite_parts.testBit P.ctorIdx = false) (h : Same P s0 s) :
    SameOut P s0 (execHpRearmWrite core mask s) := by
  unfold execHpRearmWrite
  repeat' first
    | with_reducible assumption
    | with_reducible apply SameOut.next
    | intro _
    | with_reducible refine State.accessBlk_same _ _ _ _ _ (Wr.sub (by decide) hw) ?_ ?_
    | with_reducible refine State.rearmWrite_same _ _ _ (Wr.sub (by decide) hw) ?_
    | split
    | dsimp only; split

def State.handoverBell_parts : Nat := 0x1711fc2
theorem State.handoverBell_same {P : Part} {s0 : State} (s : State) (hw : State.handoverBell_parts.testBit P.ctorIdx =
    false) (h : Same P s0 s) :
    Same P s0 (State.handoverBell s) := by
  unfold State.handoverBell
  repeat' first
    | with_reducible assumption
    | intro _
    | with_reducible refine State.checkHandover_same _ (Wr.sub (by decide) hw) ?_
    | with_reducible refine State.snapshotBell_same _ _ (Wr.sub (by decide) hw) ?_
    | with_reducible refine State.settlePads_same _ (Wr.sub (by decide) hw) ?_
    | with_reducible refine State.setWing_same _ _ _ (Wr.sub (by decide) hw) ?_
    | with_reducible apply Same.ite
    | fail_if_no_progress with_reducible refine Same.updDup (W := State.handoverBell_parts) (by decide) hw ?_
    | split
    | (with_reducible apply Same.zeta); split

def execHandoverCopyComplete_parts : Nat := 0x1711fc2
theorem execHandoverCopyComplete_same {P : Part} {s0 : State} (s : State) (hw : execHandoverCopyComplete_parts.testBit
    P.ctorIdx = false) (h : Same P s0 s) :
    SameOut P s0 (execHandoverCopyComplete s) := by
  unfold execHandoverCopyComplete
  repeat' first
    | with_reducible assumption
    | with_reducible apply SameOut.next
    | intro _
    | with_reducible refine State.setFirst_same _ _ _ (Wr.sub (by decide) hw) ?_
    | with_reducible refine State.restore_same _ _ _ _ (Wr.sub (by decide) hw) ?_
    | with_reducible refine State.grant_same _ _ (Wr.sub (by decide) hw) ?_
    | with_reducible refine State.setLease_same _ _ _ (Wr.sub (by decide) hw) ?_
    | with_reducible refine State.setPass_same _ _ _ (Wr.sub (by decide) hw) ?_
    | with_reducible refine State.cancelHandover_same _ (Wr.sub (by decide) hw) ?_
    | with_reducible refine State.setWing_same _ _ _ (Wr.sub (by decide) hw) ?_
    | with_reducible refine State.dupEvent_same _ _ _ _ _ _ _ _ (Wr.sub (by decide) hw) ?_
    | with_reducible refine State.count_same _ _ _ (Wr.sub (by decide) hw) ?_
    | with_reducible refine State.settlePads_same _ (Wr.sub (by decide) hw) ?_
    | with_reducible refine State.enginesDue_same _ _ (Wr.sub (by decide) hw) ?_
    | split
    | dsimp only; split

end Sys2Proof.Machine
end

