-- ==== Sys2Proof/Laws/SameSync.lean ====
section
/-!
SUPPORT. Which parts of State the operations of Machine/Sync.lean can change (Laws/Same.lean), as bits by the part's number, and that
they leave every other as it was.
-/
namespace Sys2Proof.Machine

set_option linter.unusedTactic false
set_option linter.unreachableTactic false

def State.freeR_parts : Nat := 0x8
theorem State.freeR_same {P : Part} {s0 : State} (s : State) (hw : State.freeR_parts.testBit P.ctorIdx = false) (h : Same P
    s0 s) :
    Same P s0 (State.freeR s).2 := by
  unfold State.freeR
  repeat' first
    | with_reducible assumption
    | intro _
    | with_reducible refine State.fresh_same _ _ (Wr.sub (by decide) hw) ?_
    | (with_reducible refine Same.snd ?_ (by assumption)); with_reducible refine State.fresh_same _ _ (Wr.sub (by decide) hw) ?_
    | dsimp only
    | split
    | (with_reducible apply Same.zeta); split

def State.shipDuty_parts : Nat := 0x100a02
theorem State.shipDuty_same {P : Part} {s0 : State} (s : State) (n : Nat) (m : Nat) (d : Fp) (hw :
    State.shipDuty_parts.testBit P.ctorIdx = false) (h : Same P s0 s) :
    Same P s0 (State.shipDuty s n m d) := by
  unfold State.shipDuty
  repeat' first
    | with_reducible assumption
    | intro _
    | with_reducible refine State.stage_same _ _ _ _ _ (Wr.sub (by decide) hw) ?_
    | with_reducible apply Same.ite
    | split
    | (with_reducible apply Same.zeta); split

def State.shipEvt_parts : Nat := 0x400008
theorem State.shipEvt_same {P : Part} {s0 : State} (s : State) (n : Nat) (code : Nat) (value : Option Nat) (fault :
    optParam Bool false) (hw : State.shipEvt_parts.testBit P.ctorIdx = false) (h : Same P s0 s) :
    Same P s0 (State.shipEvt s n code value fault) := by
  unfold State.shipEvt
  repeat' first
    | with_reducible assumption
    | intro _
    | with_reducible refine State.fresh_same _ _ (Wr.sub (by decide) hw) ?_
    | (with_reducible refine Same.snd ?_ (by assumption)); with_reducible refine State.fresh_same _ _ (Wr.sub (by decide) hw) ?_
    | with_reducible refine State.modEngine_same _ _ _ (Wr.sub (by decide) hw) ?_
    | with_reducible apply Same.ite
    | split
    | (with_reducible apply Same.zeta); split

end Sys2Proof.Machine
end

