-- ==== Sys2Proof/Laws/SameGrid.lean ====
section
/-!
SUPPORT. Which parts of State the operations of Machine/Grid.lean can change (Laws/Same.lean), as bits by the part's number, and that
they leave every other as it was.
-/
namespace Sys2Proof.Machine

set_option linter.unusedTactic false
set_option linter.unreachableTactic false

def State.gridEvents_parts : Nat := 0x400008
theorem State.gridEvents_same {P : Part} {s0 : State} (s : State) (n : Nat) (was : GridSt) (g : GridSt) (u1 : Fp) (uLv :
    Fp) (uHv : Fp) (hw : State.gridEvents_parts.testBit P.ctorIdx = false) (h : Same P s0 s) :
    Same P s0 (State.gridEvents s n was g u1 uLv uHv) := by
  unfold State.gridEvents
  repeat' first
    | with_reducible assumption
    | intro _
    | with_reducible refine State.shipEvt_same _ _ _ _ _ (Wr.sub (by decide) hw) ?_
    | with_reducible apply Same.whenIf
    | with_reducible apply Same.ite
    | split
    | (with_reducible apply Same.zeta); split

def State.gridRun_parts : Nat := 0xd00a0a
theorem State.gridRun_same {P : Part} {s0 : State} (s : State) (n : Nat) (hw : State.gridRun_parts.testBit P.ctorIdx =
    false) (h : Same P s0 s) :
    Same P s0 (State.gridRun s n) := by
  unfold State.gridRun
  repeat' first
    | with_reducible assumption
    | intro _
    | with_reducible refine State.gridEvents_same _ _ _ _ _ _ _ (Wr.sub (by decide) hw) ?_
    | with_reducible refine State.shipDuty_same _ _ _ _ (Wr.sub (by decide) hw) ?_
    | with_reducible apply Same.each
    | with_reducible apply Same.ite
    | fail_if_no_progress with_reducible refine Same.updShip (W := State.gridRun_parts) (by decide) hw ?_
    | split
    | (with_reducible apply Same.zeta); split

end Sys2Proof.Machine
end

