-- ==== Sys2Proof/Laws/SameIslanding.lean ====
section
/-!
SUPPORT. Which parts of State the operations of Machine/Islanding.lean can change (Laws/Same.lean), as bits by the part's number, and that
they leave every other as it was.
-/
namespace Sys2Proof.Machine

set_option linter.unusedTactic false
set_option linter.unreachableTactic false

def State.islEvents_parts : Nat := 0x400008
theorem State.islEvents_same {P : Part} {s0 : State} (s : State) (n : Nat) (was : IslSt) (p : IslSt) (hw :
    State.islEvents_parts.testBit P.ctorIdx = false) (h : Same P s0 s) :
    Same P s0 (State.islEvents s n was p) := by
  unfold State.islEvents
  repeat' first
    | with_reducible assumption
    | intro _
    | with_reducible refine State.shipEvt_same _ _ _ _ _ (Wr.sub (by decide) hw) ?_
    | with_reducible apply Same.whenIf
    | split
    | (with_reducible apply Same.zeta); split

def State.islRun_parts : Nat := 0xc00008
theorem State.islRun_same {P : Part} {s0 : State} (s : State) (n : Nat) (hw : State.islRun_parts.testBit P.ctorIdx = false)
    (h : Same P s0 s) :
    Same P s0 (State.islRun s n) := by
  unfold State.islRun
  repeat' first
    | with_reducible assumption
    | intro _
    | with_reducible refine State.islEvents_same _ _ _ _ (Wr.sub (by decide) hw) ?_
    | with_reducible refine State.shipEvt_same _ _ _ _ _ (Wr.sub (by decide) hw) ?_
    | with_reducible apply Same.ite
    | fail_if_no_progress with_reducible refine Same.updShip (W := State.islRun_parts) (by decide) hw ?_
    | split
    | (with_reducible apply Same.zeta); split

end Sys2Proof.Machine
end

