-- ==== Sys2Proof/Laws/SameMppt.lean ====
section
/-!
SUPPORT. Which parts of State the operations of Machine/Mppt.lean can change (Laws/Same.lean), as bits by the part's number, and that
they leave every other as it was.
-/
namespace Sys2Proof.Machine

set_option linter.unusedTactic false
set_option linter.unreachableTactic false

def State.trackerStart_parts : Nat := 0x8
theorem State.trackerStart_same {P : Part} {s0 : State} (s : State) (t : Tracker) (v : Fp) (hw :
    State.trackerStart_parts.testBit P.ctorIdx = false) (h : Same P s0 s) :
    Same P s0 (State.trackerStart s t v).2 := by
  unfold State.trackerStart
  repeat' first
    | with_reducible assumption
    | intro _
    | with_reducible refine State.freeR_same _ (Wr.sub (by decide) hw) ?_
    | (with_reducible refine Same.snd ?_ (by assumption)); with_reducible refine State.freeR_same _ (Wr.sub (by decide) hw) ?_
    | with_reducible refine State.fresh_same _ _ (Wr.sub (by decide) hw) ?_
    | (with_reducible refine Same.snd ?_ (by assumption)); with_reducible refine State.fresh_same _ _ (Wr.sub (by decide) hw) ?_
    | with_reducible apply Same.foldl
    | with_reducible apply Same.ite
    | with_reducible apply Same.iteSnd
    | dsimp only
    | split
    | (with_reducible apply Same.zeta); split

def State.tracePoint_parts : Nat := 0x400008
theorem State.tracePoint_same {P : Part} {s0 : State} (s : State) (n : Nat) (c : Trace) (hw :
    State.tracePoint_parts.testBit P.ctorIdx = false) (h : Same P s0 s) :
    Same P s0 (State.tracePoint s n c).2 := by
  unfold State.tracePoint
  repeat' first
    | with_reducible assumption
    | intro _
    | with_reducible refine State.shipEvt_same _ _ _ _ _ (Wr.sub (by decide) hw) ?_
    | with_reducible apply Same.ite
    | with_reducible apply Same.iteSnd
    | dsimp only
    | split
    | (with_reducible apply Same.zeta); split

def State.setTrace_parts : Nat := 0x800000
theorem State.setTrace_same {P : Part} {s0 : State} (s : State) (c : Option Trace) (hw : State.setTrace_parts.testBit
    P.ctorIdx = false) (h : Same P s0 s) :
    Same P s0 (State.setTrace s c) := by
  unfold State.setTrace
  repeat' first
    | with_reducible assumption
    | intro _
    | fail_if_no_progress with_reducible refine Same.updShip (W := State.setTrace_parts) (by decide) hw ?_
    | split
    | (with_reducible apply Same.zeta); split

def State.traceRun_parts : Nat := 0xc00008
theorem State.traceRun_same {P : Part} {s0 : State} (s : State) (n : Nat) (c : Trace) (t : Tracker) (v : Fp) (cur : Fp)
    (vdc : Fp) (hw : State.traceRun_parts.testBit P.ctorIdx = false) (h : Same P s0 s) :
    Same P s0 (State.traceRun s n c t v cur vdc).2 := by
  unfold State.traceRun
  repeat' first
    | with_reducible assumption
    | intro _
    | with_reducible refine State.shipEvt_same _ _ _ _ _ (Wr.sub (by decide) hw) ?_
    | with_reducible refine State.setTrace_same _ _ (Wr.sub (by decide) hw) ?_
    | with_reducible refine State.tracePoint_same _ _ _ (Wr.sub (by decide) hw) ?_
    | (with_reducible refine Same.snd ?_ (by assumption)); with_reducible refine State.tracePoint_same _ _ _ (Wr.sub (by decide) hw) ?_
    | with_reducible apply Same.ite
    | with_reducible apply Same.iteSnd
    | dsimp only
    | split
    | (with_reducible apply Same.zeta); split

def State.trackerEvents_parts : Nat := 0x400008
theorem State.trackerEvents_same {P : Part} {s0 : State} (s : State) (n : Nat) (i : Nat) (was : Nat) (now : Nat) (hw :
    State.trackerEvents_parts.testBit P.ctorIdx = false) (h : Same P s0 s) :
    Same P s0 (State.trackerEvents s n i was now) := by
  unfold State.trackerEvents
  repeat' first
    | with_reducible assumption
    | intro _
    | with_reducible refine State.shipEvt_same _ _ _ _ _ (Wr.sub (by decide) hw) ?_
    | with_reducible apply Same.whenIf
    | split
    | (with_reducible apply Same.zeta); split

def State.putTracker_parts : Nat := 0x800000
theorem State.putTracker_same {P : Part} {s0 : State} (s : State) (i : Nat) (t : Tracker) (hw :
    State.putTracker_parts.testBit P.ctorIdx = false) (h : Same P s0 s) :
    Same P s0 (State.putTracker s i t) := by
  unfold State.putTracker
  repeat' first
    | with_reducible assumption
    | intro _
    | fail_if_no_progress with_reducible refine Same.updShip (W := State.putTracker_parts) (by decide) hw ?_
    | split
    | (with_reducible apply Same.zeta); split

def State.trackerMove_parts : Nat := 0xc00008
theorem State.trackerMove_same {P : Part} {s0 : State} (s : State) (n : Nat) (i : Nat) (t : Tracker) (v : Fp) (cur : Fp)
    (vdc : Fp) (hw : State.trackerMove_parts.testBit P.ctorIdx = false) (h : Same P s0 s) :
    Same P s0 (State.trackerMove s n i t v cur vdc).2 := by
  unfold State.trackerMove
  repeat' first
    | with_reducible assumption
    | intro _
    | with_reducible refine State.trackerStart_same _ _ _ (Wr.sub (by decide) hw) ?_
    | (with_reducible refine Same.snd ?_ (by assumption)); with_reducible refine State.trackerStart_same _ _ _ (Wr.sub (by decide) hw) ?_
    | with_reducible refine State.trackerEvents_same _ _ _ _ _ (Wr.sub (by decide) hw) ?_
    | with_reducible refine State.traceRun_same _ _ _ _ _ _ _ (Wr.sub (by decide) hw) ?_
    | (with_reducible refine Same.snd ?_ (by assumption)); with_reducible refine State.traceRun_same _ _ _ _ _ _ _ (Wr.sub (by decide) hw) ?_
    | with_reducible apply Same.ite
    | with_reducible apply Same.iteSnd
    | dsimp only
    | split
    | (with_reducible apply Same.zeta); split

def State.trackerRun_parts : Nat := 0xd00a0a
theorem State.trackerRun_same {P : Part} {s0 : State} (s : State) (n : Nat) (i : Nat) (hw : State.trackerRun_parts.testBit
    P.ctorIdx = false) (h : Same P s0 s) :
    Same P s0 (State.trackerRun s n i) := by
  unfold State.trackerRun
  repeat' first
    | with_reducible assumption
    | intro _
    | with_reducible refine State.trackerMove_same _ _ _ _ _ _ _ (Wr.sub (by decide) hw) ?_
    | (with_reducible refine Same.snd ?_ (by assumption)); with_reducible refine State.trackerMove_same _ _ _ _ _ _ _ (Wr.sub (by decide) hw) ?_
    | with_reducible refine State.putTracker_same _ _ _ (Wr.sub (by decide) hw) ?_
    | with_reducible refine State.shipDuty_same _ _ _ _ (Wr.sub (by decide) hw) ?_
    | split
    | (with_reducible apply Same.zeta); split

def State.traceStart_parts : Nat := 0xc00008
theorem State.traceStart_same {P : Part} {s0 : State} (s : State) (n : Nat) (hw : State.traceStart_parts.testBit P.ctorIdx
    = false) (h : Same P s0 s) :
    Same P s0 (State.traceStart s n) := by
  unfold State.traceStart
  repeat' first
    | with_reducible assumption
    | intro _
    | with_reducible refine State.shipEvt_same _ _ _ _ _ (Wr.sub (by decide) hw) ?_
    | with_reducible apply Same.ite
    | fail_if_no_progress with_reducible refine Same.updShip (W := State.traceStart_parts) (by decide) hw ?_
    | split
    | (with_reducible apply Same.zeta); split

def State.mpptRun_parts : Nat := 0xd00a0a
theorem State.mpptRun_same {P : Part} {s0 : State} (s : State) (n : Nat) (hw : State.mpptRun_parts.testBit P.ctorIdx =
    false) (h : Same P s0 s) :
    Same P s0 (State.mpptRun s n) := by
  unfold State.mpptRun
  repeat' first
    | with_reducible assumption
    | intro _
    | with_reducible refine State.traceStart_same _ _ (Wr.sub (by decide) hw) ?_
    | with_reducible refine State.trackerRun_same _ _ _ (Wr.sub (by decide) hw) ?_
    | with_reducible apply Same.each
    | split
    | (with_reducible apply Same.zeta); split

end Sys2Proof.Machine
end

