-- ==== Sys2Proof/Laws/SameShipped.lean ====
section
/-!
SUPPORT. Which parts of State the operations of Machine/Shipped.lean can change (Laws/Same.lean), as bits by the part's number, and that
they leave every other as it was.
-/
namespace Sys2Proof.Machine

set_option linter.unusedTactic false
set_option linter.unreachableTactic false

def State.shippedRun_parts : Nat := 0xd00a0a
theorem State.shippedRun_same {P : Part} {s0 : State} (s : State) (n : Nat) (hw : State.shippedRun_parts.testBit P.ctorIdx
    = false) (h : Same P s0 s) :
    Same P s0 (State.shippedRun s n) := by
  unfold State.shippedRun
  repeat' first
    | with_reducible assumption
    | intro _
    | with_reducible refine State.gridRun_same _ _ (Wr.sub (by decide) hw) ?_
    | with_reducible refine State.islRun_same _ _ (Wr.sub (by decide) hw) ?_
    | with_reducible refine State.mpptRun_same _ _ (Wr.sub (by decide) hw) ?_
    | with_reducible apply Same.whenIf
    | split
    | (with_reducible apply Same.zeta); split

def State.rwVar_parts : Nat := 0x800400
theorem State.rwVar_same {P : Part} {s0 : State} (s : State) (idx : Nat) (sub : Nat) (v : Nat) (hw :
    State.rwVar_parts.testBit P.ctorIdx = false) (h : Same P s0 s) :
    Same P s0 (State.rwVar s idx sub v) := by
  unfold State.rwVar
  repeat' first
    | with_reducible assumption
    | intro _
    | with_reducible refine State.setVar_same _ _ _ _ (Wr.sub (by decide) hw) ?_
    | with_reducible apply Same.ite
    | fail_if_no_progress with_reducible refine Same.updShip (W := State.rwVar_parts) (by decide) hw ?_
    | split
    | (with_reducible apply Same.zeta); split

def State.gridCommand_parts : Nat := 0x800400
theorem State.gridCommand_same {P : Part} {s0 : State} (s : State) (v : Nat) (hw : State.gridCommand_parts.testBit
    P.ctorIdx = false) (h : Same P s0 s) :
    Same P s0 (State.gridCommand s v) := by
  unfold State.gridCommand
  repeat' first
    | with_reducible assumption
    | intro _
    | with_reducible refine State.answer_same _ _ (Wr.sub (by decide) hw) ?_
    | with_reducible refine State.setVar_same _ _ _ _ (Wr.sub (by decide) hw) ?_
    | with_reducible apply Same.ite
    | fail_if_no_progress with_reducible refine Same.updShip (W := State.gridCommand_parts) (by decide) hw ?_
    | split
    | (with_reducible apply Same.zeta); split

def execGridCommandSync_parts : Nat := 0x800400
theorem execGridCommandSync_same {P : Part} {s0 : State} (s : State) (hw : execGridCommandSync_parts.testBit P.ctorIdx =
    false) (h : Same P s0 s) :
    SameOut P s0 (execGridCommandSync s) := by
  unfold execGridCommandSync
  repeat' first
    | with_reducible assumption
    | with_reducible apply SameOut.next
    | intro _
    | with_reducible refine State.gridCommand_same _ _ (Wr.sub (by decide) hw) ?_
    | split
    | dsimp only; split

def execGridCommandRun_parts : Nat := 0x800400
theorem execGridCommandRun_same {P : Part} {s0 : State} (s : State) (hw : execGridCommandRun_parts.testBit P.ctorIdx =
    false) (h : Same P s0 s) :
    SameOut P s0 (execGridCommandRun s) := by
  unfold execGridCommandRun
  repeat' first
    | with_reducible assumption
    | with_reducible apply SameOut.next
    | intro _
    | with_reducible refine State.gridCommand_same _ _ (Wr.sub (by decide) hw) ?_
    | split
    | dsimp only; split

def execGridCommandClearTrip_parts : Nat := 0x800400
theorem execGridCommandClearTrip_same {P : Part} {s0 : State} (s : State) (hw : execGridCommandClearTrip_parts.testBit
    P.ctorIdx = false) (h : Same P s0 s) :
    SameOut P s0 (execGridCommandClearTrip s) := by
  unfold execGridCommandClearTrip
  repeat' first
    | with_reducible assumption
    | with_reducible apply SameOut.next
    | intro _
    | with_reducible refine State.gridCommand_same _ _ (Wr.sub (by decide) hw) ?_
    | split
    | dsimp only; split

def State.islCommand_parts : Nat := 0x800400
theorem State.islCommand_same {P : Part} {s0 : State} (s : State) (v : Nat) (hw : State.islCommand_parts.testBit P.ctorIdx
    = false) (h : Same P s0 s) :
    Same P s0 (State.islCommand s v) := by
  unfold State.islCommand
  repeat' first
    | with_reducible assumption
    | intro _
    | with_reducible refine State.answer_same _ _ (Wr.sub (by decide) hw) ?_
    | with_reducible refine State.setVar_same _ _ _ _ (Wr.sub (by decide) hw) ?_
    | with_reducible apply Same.ite
    | fail_if_no_progress with_reducible refine Same.updShip (W := State.islCommand_parts) (by decide) hw ?_
    | split
    | (with_reducible apply Same.zeta); split

def execIslandingDisarm_parts : Nat := 0x800400
theorem execIslandingDisarm_same {P : Part} {s0 : State} (s : State) (hw : execIslandingDisarm_parts.testBit P.ctorIdx =
    false) (h : Same P s0 s) :
    SameOut P s0 (execIslandingDisarm s) := by
  unfold execIslandingDisarm
  repeat' first
    | with_reducible assumption
    | with_reducible apply SameOut.next
    | intro _
    | with_reducible refine State.islCommand_same _ _ (Wr.sub (by decide) hw) ?_
    | split
    | dsimp only; split

def execIslandingArm_parts : Nat := 0x800400
theorem execIslandingArm_same {P : Part} {s0 : State} (s : State) (hw : execIslandingArm_parts.testBit P.ctorIdx = false)
    (h : Same P s0 s) :
    SameOut P s0 (execIslandingArm s) := by
  unfold execIslandingArm
  repeat' first
    | with_reducible assumption
    | with_reducible apply SameOut.next
    | intro _
    | with_reducible refine State.islCommand_same _ _ (Wr.sub (by decide) hw) ?_
    | split
    | dsimp only; split

def execIslandingClearTrip_parts : Nat := 0x800400
theorem execIslandingClearTrip_same {P : Part} {s0 : State} (s : State) (hw : execIslandingClearTrip_parts.testBit
    P.ctorIdx = false) (h : Same P s0 s) :
    SameOut P s0 (execIslandingClearTrip s) := by
  unfold execIslandingClearTrip
  repeat' first
    | with_reducible assumption
    | with_reducible apply SameOut.next
    | intro _
    | with_reducible refine State.islCommand_same _ _ (Wr.sub (by decide) hw) ?_
    | split
    | dsimp only; split

def State.traceRequest_parts : Nat := 0x800400
theorem State.traceRequest_same {P : Part} {s0 : State} (s : State) (input : Nat) (hw : State.traceRequest_parts.testBit
    P.ctorIdx = false) (h : Same P s0 s) :
    Same P s0 (State.traceRequest s input) := by
  unfold State.traceRequest
  repeat' first
    | with_reducible assumption
    | intro _
    | with_reducible refine State.answer_same _ _ (Wr.sub (by decide) hw) ?_
    | with_reducible apply Same.ite
    | fail_if_no_progress with_reducible refine Same.updShip (W := State.traceRequest_parts) (by decide) hw ?_
    | split
    | (with_reducible apply Same.zeta); split

def execMpptTraceRequest_parts : Nat := 0x800400
theorem execMpptTraceRequest_same {P : Part} {s0 : State} (input : Nat) (s : State) (hw :
    execMpptTraceRequest_parts.testBit P.ctorIdx = false) (h : Same P s0 s) :
    SameOut P s0 (execMpptTraceRequest input s) := by
  unfold execMpptTraceRequest
  repeat' first
    | with_reducible assumption
    | with_reducible apply SameOut.next
    | intro _
    | with_reducible refine State.traceRequest_same _ _ (Wr.sub (by decide) hw) ?_
    | split
    | dsimp only; split

def State.gridApplied_parts : Nat := 0x800000
theorem State.gridApplied_same {P : Part} {s0 : State} (s : State) (hw : State.gridApplied_parts.testBit P.ctorIdx = false)
    (h : Same P s0 s) :
    Same P s0 (State.gridApplied s) := by
  unfold State.gridApplied
  repeat' first
    | with_reducible assumption
    | intro _
    | fail_if_no_progress with_reducible refine Same.updShip (W := State.gridApplied_parts) (by decide) hw ?_
    | split
    | (with_reducible apply Same.zeta); split

def State.islApplied_parts : Nat := 0x800000
theorem State.islApplied_same {P : Part} {s0 : State} (s : State) (hw : State.islApplied_parts.testBit P.ctorIdx = false)
    (h : Same P s0 s) :
    Same P s0 (State.islApplied s) := by
  unfold State.islApplied
  repeat' first
    | with_reducible assumption
    | intro _
    | fail_if_no_progress with_reducible refine Same.updShip (W := State.islApplied_parts) (by decide) hw ?_
    | split
    | (with_reducible apply Same.zeta); split

def State.mpptApplied_parts : Nat := 0x800000
theorem State.mpptApplied_same {P : Part} {s0 : State} (s : State) (was : Nat) (hw : State.mpptApplied_parts.testBit
    P.ctorIdx = false) (h : Same P s0 s) :
    Same P s0 (State.mpptApplied s was) := by
  unfold State.mpptApplied
  repeat' first
    | with_reducible assumption
    | intro _
    | with_reducible apply Same.ite
    | fail_if_no_progress with_reducible refine Same.updShip (W := State.mpptApplied_parts) (by decide) hw ?_
    | split
    | (with_reducible apply Same.zeta); split

def State.gridSync_parts : Nat := 0x800000
theorem State.gridSync_same {P : Part} {s0 : State} (s : State) (hw : State.gridSync_parts.testBit P.ctorIdx = false) (h :
    Same P s0 s) :
    Same P s0 (State.gridSync s) := by
  unfold State.gridSync
  repeat' first
    | with_reducible assumption
    | intro _
    | fail_if_no_progress with_reducible refine Same.updShip (W := State.gridSync_parts) (by decide) hw ?_
    | split
    | (with_reducible apply Same.zeta); split

def State.endEvents_parts : Nat := 0x1711f42
theorem State.endEvents_same {P : Part} {s0 : State} (s : State) (n : Nat) (e : Engine) (hw : State.endEvents_parts.testBit
    P.ctorIdx = false) (h : Same P s0 s) :
    Same P s0 (State.endEvents s n e) := by
  unfold State.endEvents
  repeat' first
    | with_reducible assumption
    | intro _
    | with_reducible refine State.engEvent_same _ _ _ _ _ _ _ _ (Wr.sub (by decide) hw) ?_
    | with_reducible refine State.runEntry_same _ _ _ (Wr.sub (by decide) hw) ?_
    | with_reducible refine State.faultReport_same _ _ _ _ (Wr.sub (by decide) hw) ?_
    | with_reducible apply Same.whenIf
    | with_reducible apply Same.each
    | split
    | (with_reducible apply Same.zeta); split

def execEndRun_parts : Nat := 0x1f59f4a
theorem execEndRun_same {P : Part} {s0 : State} (n : Nat) (s : State) (hw : execEndRun_parts.testBit P.ctorIdx = false) (h
    : Same P s0 s) :
    SameOut P s0 (execEndRun n s) := by
  unfold execEndRun
  repeat' first
    | with_reducible assumption
    | with_reducible apply SameOut.next
    | with_reducible apply SameOut.ite
    | intro _
    | with_reducible refine State.shippedRun_same _ _ (Wr.sub (by decide) hw) ?_
    | with_reducible refine State.markStaged_same _ _ (Wr.sub (by decide) hw) ?_
    | with_reducible refine State.setFld_same _ _ _ _ (Wr.sub (by decide) hw) ?_
    | with_reducible refine State.endEvents_same _ _ _ (Wr.sub (by decide) hw) ?_
    | with_reducible refine State.modEngine_same _ _ _ (Wr.sub (by decide) hw) ?_
    | with_reducible refine State.settleEntering_same _ (Wr.sub (by decide) hw) ?_
    | with_reducible refine State.settleHeld_same _ _ (Wr.sub (by decide) hw) ?_
    | with_reducible apply Same.ite
    | split
    | dsimp only; split

end Sys2Proof.Machine
end

