-- ==== Sys2Proof/Laws/SameBursar.lean ====
section
/-!
SUPPORT. Which parts of State the operations of Machine/Bursar.lean can change (Laws/Same.lean), as bits by the part's number, and that
they leave every other as it was.
-/
namespace Sys2Proof.Machine

set_option linter.unusedTactic false
set_option linter.unreachableTactic false

def execBursarPair_parts : Nat := 0x1000000
theorem execBursarPair_same {P : Part} {s0 : State} (q_0 : Nat) (x : Nat) (s : State) (hw : execBursarPair_parts.testBit
    P.ctorIdx = false) (h : Same P s0 s) :
    SameOut P s0 (execBursarPair q_0 x s) := by
  unfold execBursarPair
  repeat' first
    | with_reducible assumption
    | with_reducible apply SameOut.next
    | with_reducible apply SameOut.ite
    | intro _
    | with_reducible refine State.modPhase_same _ _ _ _ (Wr.sub (by decide) hw) ?_
    | with_reducible apply Same.ite
    | fail_if_no_progress with_reducible refine Same.updBur (W := execBursarPair_parts) (by decide) hw ?_
    | split
    | dsimp only; split

def State.increment_parts : Nat := 0x8
theorem State.increment_same {P : Part} {s0 : State} (s : State) (x : Fp) (hw : State.increment_parts.testBit P.ctorIdx =
    false) (h : Same P s0 s) :
    Same P s0 (State.increment s x).2 := by
  unfold State.increment
  repeat' first
    | with_reducible assumption
    | intro _
    | with_reducible refine State.fresh_same _ _ (Wr.sub (by decide) hw) ?_
    | (with_reducible refine Same.snd ?_ (by assumption)); with_reducible refine State.fresh_same _ _ (Wr.sub (by decide) hw) ?_
    | with_reducible apply Same.ite
    | with_reducible apply Same.iteSnd
    | dsimp only
    | split
    | (with_reducible apply Same.zeta); split

def State.accumulate_parts : Nat := 0x8
theorem State.accumulate_same {P : Part} {s0 : State} (s : State) (l : List Nat) (a : Nat) (x : Fp) (hw :
    State.accumulate_parts.testBit P.ctorIdx = false) (h : Same P s0 s) :
    Same P s0 (State.accumulate s l a x).2 := by
  unfold State.accumulate
  repeat' first
    | with_reducible assumption
    | intro _
    | with_reducible refine State.increment_same _ _ (Wr.sub (by decide) hw) ?_
    | (with_reducible refine Same.snd ?_ (by assumption)); with_reducible refine State.increment_same _ _ (Wr.sub (by decide) hw) ?_
    | dsimp only
    | split
    | (with_reducible apply Same.zeta); split

def State.accumulateSet_parts : Nat := 0x8
theorem State.accumulateSet_same {P : Part} {s0 : State} (s : State) (l : List Nat) (base : Nat) (pt : Fp) (qt : Fp) (st :
    Fp) (p : Fp) (q_7 : Fp) (hw : State.accumulateSet_parts.testBit P.ctorIdx = false) (h : Same P s0 s) :
    Same P s0 (State.accumulateSet s l base pt qt st p q_7).2 := by
  unfold State.accumulateSet
  repeat' first
    | with_reducible assumption
    | intro _
    | with_reducible refine State.accumulate_same _ _ _ _ (Wr.sub (by decide) hw) ?_
    | (with_reducible refine Same.snd ?_ (by assumption)); with_reducible refine State.accumulate_same _ _ _ _ (Wr.sub (by decide) hw) ?_
    | dsimp only
    | split
    | (with_reducible apply Same.zeta); split

def State.publish_parts : Nat := 0x2
theorem State.publish_same {P : Part} {s0 : State} (s : State) (q_1 : Nat) (l : List Fp) (hw : State.publish_parts.testBit
    P.ctorIdx = false) (h : Same P s0 s) :
    Same P s0 (State.publish s q_1 l) := by
  unfold State.publish
  repeat' first
    | with_reducible assumption
    | intro _
    | with_reducible refine State.setFld_same _ _ _ _ (Wr.sub (by decide) hw) ?_
    | with_reducible apply Same.each
    | split
    | (with_reducible apply Same.zeta); split

def State.closeDc_parts : Nat := 0xa
theorem State.closeDc_same {P : Part} {s0 : State} (s : State) (q_1 : Nat) (ph : List PhaseSums) (tt : Fp) (acc : List Nat)
    (hw : State.closeDc_parts.testBit P.ctorIdx = false) (h : Same P s0 s) :
    Same P s0 (State.closeDc s q_1 ph tt acc).2 := by
  unfold State.closeDc
  repeat' first
    | with_reducible assumption
    | intro _
    | with_reducible refine State.accumulate_same _ _ _ _ (Wr.sub (by decide) hw) ?_
    | (with_reducible refine Same.snd ?_ (by assumption)); with_reducible refine State.accumulate_same _ _ _ _ (Wr.sub (by decide) hw) ?_
    | with_reducible refine State.publish_same _ _ _ (Wr.sub (by decide) hw) ?_
    | with_reducible apply Same.ite
    | with_reducible apply Same.iteSnd
    | dsimp only
    | split
    | (with_reducible apply Same.zeta); split

def State.closeAc_parts : Nat := 0xa
theorem State.closeAc_same {P : Part} {s0 : State} (s : State) (q_1 : Nat) (ph : List PhaseSums) (tt : Fp) (acc : List Nat)
    (hw : State.closeAc_parts.testBit P.ctorIdx = false) (h : Same P s0 s) :
    Same P s0 (State.closeAc s q_1 ph tt acc).2 := by
  unfold State.closeAc
  repeat' first
    | with_reducible assumption
    | intro _
    | with_reducible refine State.accumulateSet_same _ _ _ _ _ _ _ _ (Wr.sub (by decide) hw) ?_
    | (with_reducible refine Same.snd ?_ (by assumption)); with_reducible refine State.accumulateSet_same _ _ _ _ _ _ _ _ (Wr.sub (by decide) hw) ?_
    | with_reducible refine State.publish_same _ _ _ (Wr.sub (by decide) hw) ?_
    | with_reducible apply Same.ite
    | with_reducible apply Same.iteSnd
    | dsimp only
    | split
    | (with_reducible apply Same.zeta); split

def State.closeSums_parts : Nat := 0xa
theorem State.closeSums_same {P : Part} {s0 : State} (s : State) (q_1 : Nat) (ph : List PhaseSums) (tt : Fp) (acc : List
    Nat) (hw : State.closeSums_parts.testBit P.ctorIdx = false) (h : Same P s0 s) :
    Same P s0 (State.closeSums s q_1 ph tt acc).2 := by
  unfold State.closeSums
  repeat' first
    | with_reducible assumption
    | intro _
    | with_reducible refine State.closeDc_same _ _ _ _ _ (Wr.sub (by decide) hw) ?_
    | (with_reducible refine Same.snd ?_ (by assumption)); with_reducible refine State.closeDc_same _ _ _ _ _ (Wr.sub (by decide) hw) ?_
    | with_reducible refine State.closeAc_same _ _ _ _ _ (Wr.sub (by decide) hw) ?_
    | (with_reducible refine Same.snd ?_ (by assumption)); with_reducible refine State.closeAc_same _ _ _ _ _ (Wr.sub (by decide) hw) ?_
    | with_reducible apply Same.ite
    | with_reducible apply Same.iteSnd
    | dsimp only
    | split
    | (with_reducible apply Same.zeta); split

def State.closeCycle_parts : Nat := 0x100200a
theorem State.closeCycle_same {P : Part} {s0 : State} (s : State) (q_1 : Nat) (len : Nat) (hw :
    State.closeCycle_parts.testBit P.ctorIdx = false) (h : Same P s0 s) :
    Same P s0 (State.closeCycle s q_1 len) := by
  unfold State.closeCycle
  repeat' first
    | with_reducible assumption
    | intro _
    | with_reducible refine State.modPhase_same _ _ _ _ (Wr.sub (by decide) hw) ?_
    | with_reducible refine State.closeSums_same _ _ _ _ _ (Wr.sub (by decide) hw) ?_
    | (with_reducible refine Same.snd ?_ (by assumption)); with_reducible refine State.closeSums_same _ _ _ _ _ (Wr.sub (by decide) hw) ?_
    | with_reducible apply Same.each
    | fail_if_no_progress with_reducible refine Same.updCt (W := State.closeCycle_parts) (by decide) hw ?_
    | fail_if_no_progress with_reducible refine Same.updBur (W := State.closeCycle_parts) (by decide) hw ?_
    | fail_if_no_progress with_reducible refine Same.upd (W := State.closeCycle_parts) hw ?_ (.inl rfl) (.inl rfl) (.inl rfl) (.inl rfl) (.inl rfl) (.inl rfl) (.inl rfl) (.inl rfl) (.inl rfl) (.inl rfl) (.inl rfl) (.inl rfl) (.inr (by decide)) (.inl rfl) (.inl rfl) (.inl rfl) (.inl rfl) (.inl rfl) (.inl rfl) (.inl rfl) (.inl rfl) (.inl rfl) (.inl rfl) (.inr (by decide)) (.inl rfl)
    | split
    | (with_reducible apply Same.zeta); split

def execMeteringCycleEnd_parts : Nat := 0x100200a
theorem execMeteringCycleEnd_same {P : Part} {s0 : State} (q_0 : Nat) (len : Nat) (s : State) (hw :
    execMeteringCycleEnd_parts.testBit P.ctorIdx = false) (h : Same P s0 s) :
    SameOut P s0 (execMeteringCycleEnd q_0 len s) := by
  unfold execMeteringCycleEnd
  repeat' first
    | with_reducible assumption
    | with_reducible apply SameOut.next
    | with_reducible apply SameOut.ite
    | intro _
    | with_reducible refine State.modPhase_same _ _ _ _ (Wr.sub (by decide) hw) ?_
    | with_reducible refine State.modPoint_same _ _ _ (Wr.sub (by decide) hw) ?_
    | with_reducible refine State.closeCycle_same _ _ _ (Wr.sub (by decide) hw) ?_
    | with_reducible apply Same.each
    | with_reducible apply Same.ite
    | split
    | dsimp only; split

def State.judge_parts : Nat := 0x1033a02
theorem State.judge_same {P : Part} {s0 : State} (s : State) (q_1 : Nat) (code : Nat) (ev : Option BurEvent) (starts :
    Bool) (ends : Bool) (phases : Nat) (now : Nat) (worse : Nat → Nat → Nat) (hw : State.judge_parts.testBit P.ctorIdx =
    false) (h : Same P s0 s) :
    Same P s0 (State.judge s q_1 code ev starts ends phases now worse).1 := by
  unfold State.judge
  repeat' first
    | with_reducible assumption
    | intro _
    | with_reducible refine State.burEvent_same _ _ _ _ _ _ _ _ (Wr.sub (by decide) hw) ?_
    | with_reducible refine State.libRecord_same _ _ _ _ _ (Wr.sub (by decide) hw) ?_
    | with_reducible apply Same.ite
    | with_reducible apply Same.iteFst
    | dsimp only
    | split
    | (with_reducible apply Same.zeta); split

def execHalfCycleBoundary_parts : Nat := 0x1033a02
theorem execHalfCycleBoundary_same {P : Part} {s0 : State} (q_0 : Nat) (s : State) (hw :
    execHalfCycleBoundary_parts.testBit P.ctorIdx = false) (h : Same P s0 s) :
    SameOut P s0 (execHalfCycleBoundary q_0 s) := by
  unfold execHalfCycleBoundary
  repeat' first
    | with_reducible assumption
    | with_reducible apply SameOut.next
    | with_reducible apply SameOut.ite
    | intro _
    | with_reducible refine State.modPhase_same _ _ _ _ (Wr.sub (by decide) hw) ?_
    | with_reducible refine State.modPoint_same _ _ _ (Wr.sub (by decide) hw) ?_
    | with_reducible refine State.judge_same _ _ _ _ _ _ _ _ _ (Wr.sub (by decide) hw) ?_
    | (with_reducible refine Same.fst ?_ (by assumption)); with_reducible refine State.judge_same _ _ _ _ _ _ _ _ _ (Wr.sub (by decide) hw) ?_
    | with_reducible apply Same.each
    | with_reducible apply Same.foldl
    | with_reducible apply Same.ite
    | split
    | dsimp only; split

def State.requestLatch_parts : Nat := 0x22
theorem State.requestLatch_same {P : Part} {s0 : State} (s : State) (mask : Nat) (hw : State.requestLatch_parts.testBit
    P.ctorIdx = false) (h : Same P s0 s) :
    Same P s0 (State.requestLatch s mask) := by
  unfold State.requestLatch
  repeat' first
    | with_reducible assumption
    | intro _
    | with_reducible refine State.setFld_same _ _ _ _ (Wr.sub (by decide) hw) ?_
    | fail_if_no_progress with_reducible refine Same.updBell (W := State.requestLatch_parts) (by decide) hw ?_
    | split
    | (with_reducible apply Same.zeta); split

def execBurLatchWrite_parts : Nat := 0xb22
theorem execBurLatchWrite_same {P : Part} {s0 : State} (core : Nat) (mask : Nat) (s : State) (hw :
    execBurLatchWrite_parts.testBit P.ctorIdx = false) (h : Same P s0 s) :
    SameOut P s0 (execBurLatchWrite core mask s) := by
  unfold execBurLatchWrite
  repeat' first
    | with_reducible assumption
    | with_reducible apply SameOut.next
    | intro _
    | with_reducible refine State.accessBlk_same _ _ _ _ _ (Wr.sub (by decide) hw) ?_ ?_
    | with_reducible refine State.requestLatch_same _ _ (Wr.sub (by decide) hw) ?_
    | split
    | dsimp only; split

def State.bursarLatch_parts : Nat := 0x2
theorem State.bursarLatch_same {P : Part} {s0 : State} (s : State) (points : Nat) (ts : Nat) (hw :
    State.bursarLatch_parts.testBit P.ctorIdx = false) (h : Same P s0 s) :
    Same P s0 (State.bursarLatch s points ts) := by
  unfold State.bursarLatch
  repeat' first
    | with_reducible assumption
    | intro _
    | with_reducible refine State.setFld_same _ _ _ _ (Wr.sub (by decide) hw) ?_
    | with_reducible apply Same.each
    | split
    | (with_reducible apply Same.zeta); split

def State.saveDue_parts : Nat := 0x1033a02
theorem State.saveDue_same {P : Part} {s0 : State} (s : State) (hw : State.saveDue_parts.testBit P.ctorIdx = false) (h :
    Same P s0 s) :
    Same P s0 (State.saveDue s) := by
  unfold State.saveDue
  repeat' first
    | with_reducible assumption
    | intro _
    | with_reducible refine State.libRecord_same _ _ _ _ _ (Wr.sub (by decide) hw) ?_
    | split
    | (with_reducible apply Same.zeta); split

def execBurSaveNowWrite_parts : Nat := 0x1033b02
theorem execBurSaveNowWrite_same {P : Part} {s0 : State} (core : Nat) (s : State) (hw : execBurSaveNowWrite_parts.testBit
    P.ctorIdx = false) (h : Same P s0 s) :
    SameOut P s0 (execBurSaveNowWrite core s) := by
  unfold execBurSaveNowWrite
  repeat' first
    | with_reducible assumption
    | with_reducible apply SameOut.next
    | intro _
    | with_reducible refine State.accessBlk_same _ _ _ _ _ (Wr.sub (by decide) hw) ?_ ?_
    | with_reducible refine State.saveDue_same _ (Wr.sub (by decide) hw) ?_
    | split
    | dsimp only; split

def execBursarRestore_parts : Nat := 0x1000002
theorem execBursarRestore_same {P : Part} {s0 : State} (s : State) (hw : execBursarRestore_parts.testBit P.ctorIdx = false)
    (h : Same P s0 s) :
    SameOut P s0 (execBursarRestore s) := by
  unfold execBursarRestore
  repeat' first
    | with_reducible assumption
    | with_reducible apply SameOut.next
    | with_reducible apply SameOut.ite
    | intro _
    | with_reducible refine State.setFld_same _ _ _ _ (Wr.sub (by decide) hw) ?_
    | with_reducible refine State.setFlag_same _ _ _ _ (Wr.sub (by decide) hw) ?_
    | with_reducible apply Same.each
    | with_reducible apply Same.ite
    | fail_if_no_progress with_reducible refine Same.updBur (W := execBursarRestore_parts) (by decide) hw ?_
    | split
    | dsimp only; split

def State.writeSpans_parts : Nat := 0x1033a02
theorem State.writeSpans_same {P : Part} {s0 : State} (s : State) (hw : State.writeSpans_parts.testBit P.ctorIdx = false)
    (h : Same P s0 s) :
    Same P s0 (State.writeSpans s) := by
  unfold State.writeSpans
  repeat' first
    | with_reducible assumption
    | intro _
    | with_reducible refine State.setFld_same _ _ _ _ (Wr.sub (by decide) hw) ?_
    | with_reducible refine State.libRecord_same _ _ _ _ _ (Wr.sub (by decide) hw) ?_
    | with_reducible refine State.emit_same _ _ _ (Wr.sub (by decide) hw) ?_
    | with_reducible apply Same.each
    | fail_if_no_progress with_reducible refine Same.updBur (W := State.writeSpans_parts) (by decide) hw ?_
    | split
    | (with_reducible apply Same.zeta); split

def State.theftSecond_parts : Nat := 0x1000002
theorem State.theftSecond_same {P : Part} {s0 : State} (s : State) (hw : State.theftSecond_parts.testBit P.ctorIdx = false)
    (h : Same P s0 s) :
    Same P s0 (State.theftSecond s) := by
  unfold State.theftSecond
  repeat' first
    | with_reducible assumption
    | intro _
    | with_reducible refine State.count_same _ _ _ (Wr.sub (by decide) hw) ?_
    | with_reducible apply Same.ite
    | fail_if_no_progress with_reducible refine Same.updBur (W := State.theftSecond_parts) (by decide) hw ?_
    | split
    | (with_reducible apply Same.zeta); split

def execTheftWindowClock_parts : Nat := 0x1000000
theorem execTheftWindowClock_same {P : Part} {s0 : State} (s : State) (hw : execTheftWindowClock_parts.testBit P.ctorIdx =
    false) (h : Same P s0 s) :
    SameOut P s0 (execTheftWindowClock s) := by
  unfold execTheftWindowClock
  repeat' first
    | with_reducible assumption
    | with_reducible apply SameOut.next
    | with_reducible apply SameOut.ite
    | intro _
    | with_reducible apply Same.ite
    | fail_if_no_progress with_reducible refine Same.updBur (W := execTheftWindowClock_parts) (by decide) hw ?_
    | split
    | dsimp only; split

def State.theftWordsN_parts : Nat := 0x8
theorem State.theftWordsN_same {P : Part} {s0 : State} (l : List Bool) (x1 : Nat) (x2 : State) (hw :
    State.theftWordsN_parts.testBit P.ctorIdx = false) (h : Same P s0 x2) :
    Same P s0 (State.theftWordsN l x1 x2).2 := by
  induction x1 with
  | zero => exact h
  | succ n ih =>
    unfold State.theftWordsN
    exact State.mainOutput_same _ _ _ _ (Wr.sub (by decide) hw) ih

def State.theftWords_parts : Nat := 0x8
theorem State.theftWords_same {P : Part} {s0 : State} (s : State) (l : List Bool) (hw : State.theftWords_parts.testBit
    P.ctorIdx = false) (h : Same P s0 s) :
    Same P s0 (State.theftWords s l).2 := by
  unfold State.theftWords
  repeat' first
    | with_reducible assumption
    | intro _
    | with_reducible refine State.theftWordsN_same _ _ _ (Wr.sub (by decide) hw) ?_
    | (with_reducible refine Same.snd ?_ (by assumption)); with_reducible refine State.theftWordsN_same _ _ _ (Wr.sub (by decide) hw) ?_
    | dsimp only
    | split
    | (with_reducible apply Same.zeta); split

def State.theftCharge_parts : Nat := 0x8
theorem State.theftCharge_same {P : Part} {s0 : State} (s : State) (c : Nat) (l : List Int) (hw :
    State.theftCharge_parts.testBit P.ctorIdx = false) (h : Same P s0 s) :
    Same P s0 (State.theftCharge s c l).2 := by
  unfold State.theftCharge
  repeat' first
    | with_reducible assumption
    | intro _
    | with_reducible refine State.fresh_same _ _ (Wr.sub (by decide) hw) ?_
    | (with_reducible refine Same.snd ?_ (by assumption)); with_reducible refine State.fresh_same _ _ (Wr.sub (by decide) hw) ?_
    | with_reducible apply Same.foldl
    | with_reducible apply Same.ite
    | with_reducible apply Same.iteSnd
    | dsimp only
    | split
    | (with_reducible apply Same.zeta); split

def State.theftAdd_parts : Nat := 0x1033a0a
theorem State.theftAdd_same {P : Part} {s0 : State} (s : State) (c : Nat) (words : List Int) (hw :
    State.theftAdd_parts.testBit P.ctorIdx = false) (h : Same P s0 s) :
    Same P s0 (State.theftAdd s c words) := by
  unfold State.theftAdd
  repeat' first
    | with_reducible assumption
    | intro _
    | with_reducible refine State.theftCharge_same _ _ _ (Wr.sub (by decide) hw) ?_
    | (with_reducible refine Same.snd ?_ (by assumption)); with_reducible refine State.theftCharge_same _ _ _ (Wr.sub (by decide) hw) ?_
    | with_reducible refine State.setFld_same _ _ _ _ (Wr.sub (by decide) hw) ?_
    | with_reducible refine State.burLate_same _ _ (Wr.sub (by decide) hw) ?_
    | with_reducible refine State.libRecord_same _ _ _ _ _ (Wr.sub (by decide) hw) ?_
    | with_reducible apply Same.ite
    | fail_if_no_progress with_reducible refine Same.updBur (W := State.theftAdd_parts) (by decide) hw ?_
    | split
    | (with_reducible apply Same.zeta); split

def execTheftWindowEnd_parts : Nat := 0x1033a0a
theorem execTheftWindowEnd_same {P : Part} {s0 : State} (samples : List Nat) (s : State) (hw :
    execTheftWindowEnd_parts.testBit P.ctorIdx = false) (h : Same P s0 s) :
    SameOut P s0 (execTheftWindowEnd samples s) := by
  unfold execTheftWindowEnd
  repeat' first
    | with_reducible assumption
    | with_reducible apply SameOut.next
    | with_reducible apply SameOut.ite
    | intro _
    | with_reducible refine State.theftWords_same _ _ (Wr.sub (by decide) hw) ?_
    | (with_reducible refine Same.snd ?_ (by assumption)); with_reducible refine State.theftWords_same _ _ (Wr.sub (by decide) hw) ?_
    | with_reducible refine State.theftAdd_same _ _ _ (Wr.sub (by decide) hw) ?_
    | with_reducible apply Same.each
    | with_reducible apply Same.ite
    | fail_if_no_progress with_reducible refine Same.updBur (W := execTheftWindowEnd_parts) (by decide) hw ?_
    | split
    | dsimp only; split

def State.theftClear_parts : Nat := 0x1000002
theorem State.theftClear_same {P : Part} {s0 : State} (s : State) (hw : State.theftClear_parts.testBit P.ctorIdx = false)
    (h : Same P s0 s) :
    Same P s0 (State.theftClear s) := by
  unfold State.theftClear
  repeat' first
    | with_reducible assumption
    | intro _
    | with_reducible refine State.setFld_same _ _ _ _ (Wr.sub (by decide) hw) ?_
    | with_reducible apply Same.each
    | with_reducible apply Same.ite
    | fail_if_no_progress with_reducible refine Same.updBur (W := State.theftClear_parts) (by decide) hw ?_
    | split
    | (with_reducible apply Same.zeta); split

def execTheftClrWrite_parts : Nat := 0x1000b02
theorem execTheftClrWrite_same {P : Part} {s0 : State} (core : Nat) (s : State) (hw : execTheftClrWrite_parts.testBit
    P.ctorIdx = false) (h : Same P s0 s) :
    SameOut P s0 (execTheftClrWrite core s) := by
  unfold execTheftClrWrite
  repeat' first
    | with_reducible assumption
    | with_reducible apply SameOut.next
    | intro _
    | with_reducible refine State.accessBlk_same _ _ _ _ _ (Wr.sub (by decide) hw) ?_ ?_
    | with_reducible refine State.theftClear_same _ (Wr.sub (by decide) hw) ?_
    | split
    | dsimp only; split

def State.bursarApplied_parts : Nat := 0x100200a
theorem State.bursarApplied_same {P : Part} {s0 : State} (s : State) (was : State) (hw : State.bursarApplied_parts.testBit
    P.ctorIdx = false) (h : Same P s0 s) (hwas : Same P s0 was) :
    Same P s0 (State.bursarApplied s was) := by
  unfold State.bursarApplied
  repeat' first
    | with_reducible assumption
    | intro _
    | with_reducible refine State.closeCycle_same _ _ _ (Wr.sub (by decide) hw) ?_
    | with_reducible refine State.setFld_same _ _ _ _ (Wr.sub (by decide) hw) ?_
    | with_reducible refine State.modPoint_same _ _ _ (Wr.sub (by decide) hw) ?_
    | with_reducible apply Same.each
    | with_reducible apply Same.ite
    | fail_if_no_progress with_reducible refine Same.updFreeCtr (W := State.bursarApplied_parts) (by decide) hw ?_
    | fail_if_no_progress with_reducible refine Same.updCt (W := State.bursarApplied_parts) (by decide) hw ?_
    | fail_if_no_progress with_reducible refine Same.updBur (W := State.bursarApplied_parts) (by decide) hw ?_
    | fail_if_no_progress with_reducible refine Same.upd (W := State.bursarApplied_parts) hw ?_ (.inl rfl) (.inl rfl) (.inr (by decide)) (.inl rfl) (.inl rfl) (.inl rfl) (.inl rfl) (.inl rfl) (.inl rfl) (.inl rfl) (.inl rfl) (.inl rfl) (.inr (by decide)) (.inl rfl) (.inl rfl) (.inl rfl) (.inl rfl) (.inl rfl) (.inl rfl) (.inl rfl) (.inl rfl) (.inl rfl) (.inl rfl) (.inr (by decide)) (.inl rfl)
    | split
    | (with_reducible apply Same.zeta); split

end Sys2Proof.Machine
end

