-- ==== Sys2Proof/Laws/SameIntegrity.lean ====
section
/-!
SUPPORT. Which parts of State the operations of Machine/Integrity.lean can change (Laws/Same.lean), as bits by the part's number, and that
they leave every other as it was.
-/
namespace Sys2Proof.Machine

set_option linter.unusedTactic false
set_option linter.unreachableTactic false

def State.writeBack_parts : Nat := 0x413800
theorem State.writeBack_same {P : Part} {s0 : State} (s : State) (mem : Nat) (w : Nat) (data : Nat) (hw :
    State.writeBack_parts.testBit P.ctorIdx = false) (h : Same P s0 s) :
    Same P s0 (State.writeBack s mem w data) := by
  unfold State.writeBack
  repeat' first
    | with_reducible assumption
    | intro _
    | with_reducible refine State.satWriteWord_same _ _ _ (Wr.sub (by decide) hw) ?_
    | (with_reducible refine Same.snd ?_ (by assumption)); with_reducible refine State.satWriteWord_same _ _ _ (Wr.sub (by decide) hw) ?_
    | with_reducible refine State.setDtcmWord_same _ _ _ _ (Wr.sub (by decide) hw) ?_
    | with_reducible refine State.setEngWord_same _ _ _ _ (Wr.sub (by decide) hw) ?_
    | with_reducible apply Same.ite
    | fail_if_no_progress with_reducible refine Same.updTut (W := State.writeBack_parts) (by decide) hw ?_
    | fail_if_no_progress with_reducible refine Same.updCt (W := State.writeBack_parts) (by decide) hw ?_
    | fail_if_no_progress with_reducible refine Same.upd (W := State.writeBack_parts) hw ?_ (.inl rfl) (.inl rfl) (.inl rfl) (.inl rfl) (.inl rfl) (.inl rfl) (.inl rfl) (.inl rfl) (.inl rfl) (.inl rfl) (.inr (by decide)) (.inl rfl) (.inr (by decide)) (.inl rfl) (.inl rfl) (.inl rfl) (.inl rfl) (.inl rfl) (.inl rfl) (.inl rfl) (.inl rfl) (.inl rfl) (.inl rfl) (.inl rfl) (.inl rfl)
    | split
    | (with_reducible apply Same.zeta); split

def State.retireBank_parts : Nat := 0x10a02
theorem State.retireBank_same {P : Part} {s0 : State} (s : State) (b : Nat) (hw : State.retireBank_parts.testBit P.ctorIdx
    = false) (h : Same P s0 s) :
    Same P s0 (State.retireBank s b) := by
  unfold State.retireBank
  repeat' first
    | with_reducible assumption
    | intro _
    | with_reducible refine State.setBit_same _ _ _ _ _ (Wr.sub (by decide) hw) ?_
    | with_reducible refine State.intEvent_same _ _ _ _ _ _ (Wr.sub (by decide) hw) ?_
    | with_reducible refine State.recordRepair_same _ _ _ _ _ (Wr.sub (by decide) hw) ?_
    | with_reducible refine State.setFld_same _ _ _ _ (Wr.sub (by decide) hw) ?_
    | with_reducible apply Same.whenIf
    | with_reducible apply Same.ite
    | split
    | (with_reducible apply Same.zeta); split

def State.bankFound_parts : Nat := 0x10a02
theorem State.bankFound_same {P : Part} {s0 : State} (s : State) (mem : Nat) (w : Nat) (hw : State.bankFound_parts.testBit
    P.ctorIdx = false) (h : Same P s0 s) :
    Same P s0 (State.bankFound s mem w) := by
  unfold State.bankFound
  repeat' first
    | with_reducible assumption
    | intro _
    | with_reducible refine State.retireBank_same _ _ (Wr.sub (by decide) hw) ?_
    | with_reducible apply Same.whenIf
    | with_reducible apply Same.ite
    | fail_if_no_progress with_reducible refine Same.updInteg (W := State.bankFound_parts) (by decide) hw ?_
    | split
    | (with_reducible apply Same.zeta); split

def execSatRetWrite_parts : Nat := 0x10b02
theorem execSatRetWrite_same {P : Part} {s0 : State} (core : Nat) (bank : Nat) (go : Bool) (s : State) (hw :
    execSatRetWrite_parts.testBit P.ctorIdx = false) (h : Same P s0 s) :
    SameOut P s0 (execSatRetWrite core bank go s) := by
  unfold execSatRetWrite
  repeat' first
    | with_reducible assumption
    | with_reducible apply SameOut.next
    | intro _
    | with_reducible refine State.accessBlk_same _ _ _ _ _ (Wr.sub (by decide) hw) ?_ ?_
    | with_reducible refine State.retireBank_same _ _ (Wr.sub (by decide) hw) ?_
    | with_reducible apply Same.whenIf
    | split
    | dsimp only; split

def State.replaceColumn_parts : Nat := 0x10a02
theorem State.replaceColumn_same {P : Part} {s0 : State} (s : State) (mem : Nat) (w : Nat) (col : Nat) (k : Nat) (hw :
    State.replaceColumn_parts.testBit P.ctorIdx = false) (h : Same P s0 s) :
    Same P s0 (State.replaceColumn s mem w col k) := by
  unfold State.replaceColumn
  repeat' first
    | with_reducible assumption
    | intro _
    | with_reducible refine State.putRemain_same _ _ _ (Wr.sub (by decide) hw) ?_
    | with_reducible refine State.recordRepair_same _ _ _ _ _ (Wr.sub (by decide) hw) ?_
    | with_reducible refine State.intEvent_same _ _ _ _ _ _ (Wr.sub (by decide) hw) ?_
    | with_reducible refine State.noteFloor_same _ _ _ (Wr.sub (by decide) hw) ?_
    | fail_if_no_progress with_reducible refine Same.updInteg (W := State.replaceColumn_parts) (by decide) hw ?_
    | split
    | (with_reducible apply Same.zeta); split

def State.replaceRow_parts : Nat := 0x10a02
theorem State.replaceRow_same {P : Part} {s0 : State} (s : State) (mem : Nat) (w : Nat) (k : Nat) (hw :
    State.replaceRow_parts.testBit P.ctorIdx = false) (h : Same P s0 s) :
    Same P s0 (State.replaceRow s mem w k) := by
  unfold State.replaceRow
  repeat' first
    | with_reducible assumption
    | intro _
    | with_reducible refine State.putRemain_same _ _ _ (Wr.sub (by decide) hw) ?_
    | with_reducible refine State.recordRepair_same _ _ _ _ _ (Wr.sub (by decide) hw) ?_
    | with_reducible refine State.intEvent_same _ _ _ _ _ _ (Wr.sub (by decide) hw) ?_
    | with_reducible refine State.noteFloor_same _ _ _ (Wr.sub (by decide) hw) ?_
    | fail_if_no_progress with_reducible refine Same.updInteg (W := State.replaceRow_parts) (by decide) hw ?_
    | split
    | (with_reducible apply Same.zeta); split

def State.hardFault_parts : Nat := 0x10a02
theorem State.hardFault_same {P : Part} {s0 : State} (s : State) (m : Nat) (mem : Nat) (w : Nat) (bit : Nat) (nerr : Nat)
    (hw : State.hardFault_parts.testBit P.ctorIdx = false) (h : Same P s0 s) :
    Same P s0 (State.hardFault s m mem w bit nerr) := by
  unfold State.hardFault
  repeat' first
    | with_reducible assumption
    | intro _
    | with_reducible refine State.intEvent_same _ _ _ _ _ _ (Wr.sub (by decide) hw) ?_
    | with_reducible refine State.count_same _ _ _ (Wr.sub (by decide) hw) ?_
    | with_reducible refine State.replaceColumn_same _ _ _ _ _ (Wr.sub (by decide) hw) ?_
    | with_reducible refine State.replaceRow_same _ _ _ _ (Wr.sub (by decide) hw) ?_
    | with_reducible apply Same.ite
    | fail_if_no_progress with_reducible refine Same.updInteg (W := State.hardFault_parts) (by decide) hw ?_
    | split
    | (with_reducible apply Same.zeta); split

def State.scrubNext_parts : Nat := 0x10002
theorem State.scrubNext_same {P : Part} {s0 : State} (s : State) (m : Nat) (n : Nat) (hw : State.scrubNext_parts.testBit
    P.ctorIdx = false) (h : Same P s0 s) :
    Same P s0 (State.scrubNext s m n) := by
  unfold State.scrubNext
  repeat' first
    | with_reducible assumption
    | intro _
    | with_reducible refine State.setFld_same _ _ _ _ (Wr.sub (by decide) hw) ?_
    | with_reducible refine State.count_same _ _ _ (Wr.sub (by decide) hw) ?_
    | with_reducible apply Same.ite
    | fail_if_no_progress with_reducible refine Same.updInteg (W := State.scrubNext_parts) (by decide) hw ?_
    | split
    | (with_reducible apply Same.zeta); split

def State.scrubCorrected_parts : Nat := 0x413a02
theorem State.scrubCorrected_same {P : Part} {s0 : State} (s : State) (m : Nat) (mem : Nat) (w : Nat) (data : Nat) (nerr :
    Nat) (bit : Nat) (written : Bool) (hw : State.scrubCorrected_parts.testBit P.ctorIdx = false) (h : Same P s0 s) :
    Same P s0 (State.scrubCorrected s m mem w data nerr bit written) := by
  unfold State.scrubCorrected
  repeat' first
    | with_reducible assumption
    | intro _
    | with_reducible refine State.writeBack_same _ _ _ _ (Wr.sub (by decide) hw) ?_
    | with_reducible refine State.setFld_same _ _ _ _ (Wr.sub (by decide) hw) ?_
    | with_reducible refine State.count_same _ _ _ (Wr.sub (by decide) hw) ?_
    | with_reducible refine State.intEvent_same _ _ _ _ _ _ (Wr.sub (by decide) hw) ?_
    | with_reducible refine State.hardFault_same _ _ _ _ _ _ (Wr.sub (by decide) hw) ?_
    | with_reducible apply Same.whenIf
    | with_reducible apply Same.ite
    | fail_if_no_progress with_reducible refine Same.updInteg (W := State.scrubCorrected_parts) (by decide) hw ?_
    | split
    | (with_reducible apply Same.zeta); split

def execScrubRead_parts : Nat := 0x413a02
theorem execScrubRead_same {P : Part} {s0 : State} (m : Nat) (stored : Nat) (written : Bool) (s : State) (hw :
    execScrubRead_parts.testBit P.ctorIdx = false) (h : Same P s0 s) :
    SameOut P s0 (execScrubRead m stored written s) := by
  unfold execScrubRead
  repeat' first
    | with_reducible assumption
    | with_reducible apply SameOut.next
    | with_reducible apply SameOut.ite
    | intro _
    | with_reducible refine State.scrubNext_same _ _ _ (Wr.sub (by decide) hw) ?_
    | with_reducible refine State.scrubCorrected_same _ _ _ _ _ _ _ _ (Wr.sub (by decide) hw) ?_
    | with_reducible refine State.mark_same _ _ _ _ (Wr.sub (by decide) hw) ?_
    | with_reducible refine State.bankFound_same _ _ _ (Wr.sub (by decide) hw) ?_
    | with_reducible refine State.intEvent_same _ _ _ _ _ _ (Wr.sub (by decide) hw) ?_
    | with_reducible refine State.count_same _ _ _ (Wr.sub (by decide) hw) ?_
    | with_reducible apply Same.ite
    | split
    | dsimp only; split

def execScrubPassOverdue_parts : Nat := 0xa02
theorem execScrubPassOverdue_same {P : Part} {s0 : State} (m : Nat) (s : State) (hw : execScrubPassOverdue_parts.testBit
    P.ctorIdx = false) (h : Same P s0 s) :
    SameOut P s0 (execScrubPassOverdue m s) := by
  unfold execScrubPassOverdue
  repeat' first
    | with_reducible assumption
    | with_reducible apply SameOut.next
    | with_reducible apply SameOut.ite
    | intro _
    | with_reducible refine State.intEvent_same _ _ _ _ _ _ (Wr.sub (by decide) hw) ?_
    | with_reducible refine State.setBit_same _ _ _ _ _ (Wr.sub (by decide) hw) ?_
    | with_reducible apply Same.ite
    | split
    | dsimp only; split

def State.restorePoint_parts : Nat := 0x1000002
theorem State.restorePoint_same {P : Part} {s0 : State} (s : State) (q_1 : Nat) (hw : State.restorePoint_parts.testBit
    P.ctorIdx = false) (h : Same P s0 s) :
    Same P s0 (State.restorePoint s q_1) := by
  unfold State.restorePoint
  repeat' first
    | with_reducible assumption
    | intro _
    | with_reducible refine State.setFld_same _ _ _ _ (Wr.sub (by decide) hw) ?_
    | fail_if_no_progress with_reducible refine Same.updBur (W := State.restorePoint_parts) (by decide) hw ?_
    | split
    | (with_reducible apply Same.zeta); split

def State.consumerSees_parts : Nat := 0x1f7bfc2
theorem State.consumerSees_same {P : Part} {s0 : State} (s : State) (c : Consumer) (addr : Nat) (hw :
    State.consumerSees_parts.testBit P.ctorIdx = false) (h : Same P s0 s) :
    Same P s0 (State.consumerSees s c addr) := by
  unfold State.consumerSees
  repeat' first
    | with_reducible assumption
    | intro _
    | with_reducible refine State.coreFault_same _ _ _ _ (Wr.sub (by decide) hw) ?_
    | with_reducible refine State.finish_same _ _ _ _ (Wr.sub (by decide) hw) ?_
    | with_reducible refine State.portFault_same _ _ _ _ (Wr.sub (by decide) hw) ?_
    | with_reducible refine State.engineFault_same _ _ _ (Wr.sub (by decide) hw) ?_
    | with_reducible refine State.restorePoint_same _ _ (Wr.sub (by decide) hw) ?_
    | with_reducible refine State.offer_same _ _ _ (Wr.sub (by decide) hw) ?_
    | with_reducible apply Same.whenIf
    | with_reducible apply Same.ite
    | fail_if_no_progress with_reducible refine Same.updDup (W := State.consumerSees_parts) (by decide) hw ?_
    | fail_if_no_progress with_reducible refine Same.updBur (W := State.consumerSees_parts) (by decide) hw ?_
    | fail_if_no_progress with_reducible refine Same.upd (W := State.consumerSees_parts) hw ?_ (.inl rfl) (.inl rfl) (.inl rfl) (.inl rfl) (.inl rfl) (.inl rfl) (.inr (by decide)) (.inl rfl) (.inl rfl) (.inl rfl) (.inl rfl) (.inl rfl) (.inl rfl) (.inl rfl) (.inl rfl) (.inl rfl) (.inl rfl) (.inl rfl) (.inl rfl) (.inl rfl) (.inl rfl) (.inl rfl) (.inl rfl) (.inr (by decide)) (.inl rfl)
    | split
    | (with_reducible apply Same.zeta); split

def execUncorrectableRead_parts : Nat := 0x1f7bfc2
theorem execUncorrectableRead_same {P : Part} {s0 : State} (c : Consumer) (mem : Nat) (w : Nat) (stored : Nat) (s : State)
    (hw : execUncorrectableRead_parts.testBit P.ctorIdx = false) (h : Same P s0 s) :
    SameOut P s0 (execUncorrectableRead c mem w stored s) := by
  unfold execUncorrectableRead
  repeat' first
    | with_reducible assumption
    | with_reducible apply SameOut.next
    | with_reducible apply SameOut.ite
    | intro _
    | with_reducible refine State.consumerSees_same _ _ _ (Wr.sub (by decide) hw) ?_
    | with_reducible refine State.badRead_same _ _ _ _ (Wr.sub (by decide) hw) ?_
    | with_reducible refine State.mark_same _ _ _ _ (Wr.sub (by decide) hw) ?_
    | with_reducible refine State.bankFound_same _ _ _ (Wr.sub (by decide) hw) ?_
    | with_reducible apply Same.ite
    | split
    | dsimp only; split

def State.applyRepair_parts : Nat := 0x10082
theorem State.applyRepair_same {P : Part} {s0 : State} (s : State) (e : Nat) (hw : State.applyRepair_parts.testBit
    P.ctorIdx = false) (h : Same P s0 s) :
    Same P s0 (State.applyRepair s e) := by
  unfold State.applyRepair
  repeat' first
    | with_reducible assumption
    | intro _
    | with_reducible refine State.setBit_same _ _ _ _ _ (Wr.sub (by decide) hw) ?_
    | with_reducible refine State.setFld_same _ _ _ _ (Wr.sub (by decide) hw) ?_
    | with_reducible apply Same.whenIf
    | with_reducible apply Same.ite
    | fail_if_no_progress with_reducible refine Same.updDup (W := State.applyRepair_parts) (by decide) hw ?_
    | fail_if_no_progress with_reducible refine Same.updInteg (W := State.applyRepair_parts) (by decide) hw ?_
    | fail_if_no_progress with_reducible refine Same.upd (W := State.applyRepair_parts) hw ?_ (.inl rfl) (.inl rfl) (.inl rfl) (.inl rfl) (.inl rfl) (.inl rfl) (.inr (by decide)) (.inl rfl) (.inl rfl) (.inl rfl) (.inl rfl) (.inl rfl) (.inl rfl) (.inl rfl) (.inl rfl) (.inr (by decide)) (.inl rfl) (.inl rfl) (.inl rfl) (.inl rfl) (.inl rfl) (.inl rfl) (.inl rfl) (.inl rfl) (.inl rfl)
    | split
    | (with_reducible apply Same.zeta); split

def State.zeroRow_parts : Nat := 0x413800
theorem State.zeroRow_same {P : Part} {s0 : State} (s : State) (e : Nat) (hw : State.zeroRow_parts.testBit P.ctorIdx =
    false) (h : Same P s0 s) :
    Same P s0 (State.zeroRow s e) := by
  unfold State.zeroRow
  repeat' first
    | with_reducible assumption
    | intro _
    | with_reducible refine State.mark_same _ _ _ _ (Wr.sub (by decide) hw) ?_
    | with_reducible refine State.writeBack_same _ _ _ _ (Wr.sub (by decide) hw) ?_
    | with_reducible apply Same.each
    | with_reducible apply Same.ite
    | split
    | (with_reducible apply Same.zeta); split

def State.repLoad_parts : Nat := 0x413a82
theorem State.repLoad_same {P : Part} {s0 : State} (s : State) (count : Nat) (hw : State.repLoad_parts.testBit P.ctorIdx =
    false) (h : Same P s0 s) :
    Same P s0 (State.repLoad s count) := by
  unfold State.repLoad
  repeat' first
    | with_reducible assumption
    | intro _
    | with_reducible refine State.zeroRow_same _ _ (Wr.sub (by decide) hw) ?_
    | with_reducible refine State.applyRepair_same _ _ (Wr.sub (by decide) hw) ?_
    | with_reducible refine State.consumeSpare_same _ _ (Wr.sub (by decide) hw) ?_
    | with_reducible refine State.intEvent_same _ _ _ _ _ _ (Wr.sub (by decide) hw) ?_
    | with_reducible refine State.setFld_same _ _ _ _ (Wr.sub (by decide) hw) ?_
    | with_reducible apply Same.each
    | with_reducible apply Same.ite
    | fail_if_no_progress with_reducible refine Same.updInteg (W := State.repLoad_parts) (by decide) hw ?_
    | split
    | (with_reducible apply Same.zeta); split

def execRepLoadWrite_parts : Nat := 0x413b82
theorem execRepLoadWrite_same {P : Part} {s0 : State} (core : Nat) (count : Nat) (s : State) (hw :
    execRepLoadWrite_parts.testBit P.ctorIdx = false) (h : Same P s0 s) :
    SameOut P s0 (execRepLoadWrite core count s) := by
  unfold execRepLoadWrite
  repeat' first
    | with_reducible assumption
    | with_reducible apply SameOut.next
    | intro _
    | with_reducible refine State.accessBlk_same _ _ _ _ _ (Wr.sub (by decide) hw) ?_ ?_
    | with_reducible refine State.repLoad_same _ _ (Wr.sub (by decide) hw) ?_
    | split
    | dsimp only; split

def execAgeingMeasure_parts : Nat := 0xa02
theorem execAgeingMeasure_same {P : Part} {s0 : State} (slow : List Nat) (s : State) (hw : execAgeingMeasure_parts.testBit
    P.ctorIdx = false) (h : Same P s0 s) :
    SameOut P s0 (execAgeingMeasure slow s) := by
  unfold execAgeingMeasure
  repeat' first
    | with_reducible assumption
    | with_reducible apply SameOut.next
    | intro _
    | with_reducible refine State.setFlag_same _ _ _ _ (Wr.sub (by decide) hw) ?_
    | with_reducible refine State.setFld_same _ _ _ _ (Wr.sub (by decide) hw) ?_
    | with_reducible refine State.intEvent_same _ _ _ _ _ _ (Wr.sub (by decide) hw) ?_
    | with_reducible apply Same.whenIf
    | with_reducible apply Same.each
    | split
    | dsimp only; split

end Sys2Proof.Machine
end

