-- ==== Sys2Proof/Laws/SameSecurity.lean ====
section
/-!
SUPPORT. Which parts of State the operations of Machine/Security.lean can change (Laws/Same.lean), as bits by the part's number, and that
they leave every other as it was.
-/
namespace Sys2Proof.Machine

set_option linter.unusedTactic false
set_option linter.unreachableTactic false

def execWorldViolation_parts : Nat := 0xf02
theorem execWorldViolation_same {P : Part} {s0 : State} (initiator : Nat) (addr : Nat) (cause : Nat) (s : State) (hw :
    execWorldViolation_parts.testBit P.ctorIdx = false) (h : Same P s0 s) :
    SameOut P s0 (execWorldViolation initiator addr cause s) := by
  unfold execWorldViolation
  repeat' first
    | with_reducible assumption
    | with_reducible apply SameOut.next
    | with_reducible apply SameOut.ite
    | intro _
    | with_reducible refine State.violation_same _ _ _ (Wr.sub (by decide) hw) ?_
    | with_reducible refine State.coreFault_same _ _ _ _ (Wr.sub (by decide) hw) ?_
    | with_reducible refine State.event_same _ _ _ _ _ (Wr.sub (by decide) hw) ?_
    | with_reducible refine State.haltRing_same _ _ _ (Wr.sub (by decide) hw) ?_
    | with_reducible apply Same.ite
    | fail_if_no_progress with_reducible refine Same.updDict (W := execWorldViolation_parts) (by decide) hw ?_
    | split
    | dsimp only; split

def State.secResult_parts : Nat := 0x2
theorem State.secResult_same {P : Part} {s0 : State} (s : State) (r : Nat) (hw : State.secResult_parts.testBit P.ctorIdx =
    false) (h : Same P s0 s) :
    Same P s0 (State.secResult s r) := by
  unfold State.secResult
  repeat' first
    | with_reducible assumption
    | intro _
    | with_reducible refine State.setFld_same _ _ _ _ (Wr.sub (by decide) hw) ?_
    | split
    | (with_reducible apply Same.zeta); split

def State.secCommand_parts : Nat := 0x102
theorem State.secCommand_same {P : Part} {s0 : State} (s : State) (core : Nat) (cmd : Nat) (cert : Option (List Nat))
    (target : Nat) (hw : State.secCommand_parts.testBit P.ctorIdx = false) (h : Same P s0 s) :
    Same P s0 (State.secCommand s core cmd cert target) := by
  unfold State.secCommand
  repeat' first
    | with_reducible assumption
    | intro _
    | with_reducible refine State.secResult_same _ _ (Wr.sub (by decide) hw) ?_
    | with_reducible refine State.setFld_same _ _ _ _ (Wr.sub (by decide) hw) ?_
    | with_reducible apply Same.ite
    | fail_if_no_progress with_reducible refine Same.updSec (W := State.secCommand_parts) (by decide) hw ?_
    | split
    | (with_reducible apply Same.zeta); split

def State.secCmdWrite_parts : Nat := 0x102
theorem State.secCmdWrite_same {P : Part} {s0 : State} (s : State) (core : Nat) (cmd : Nat) (hw :
    State.secCmdWrite_parts.testBit P.ctorIdx = false) (h : Same P s0 s) :
    Same P s0 (State.secCmdWrite s core cmd) := by
  unfold State.secCmdWrite
  repeat' first
    | with_reducible assumption
    | intro _
    | with_reducible refine State.secCommand_same _ _ _ _ _ (Wr.sub (by decide) hw) ?_
    | with_reducible refine State.secResult_same _ _ (Wr.sub (by decide) hw) ?_
    | with_reducible apply Same.ite
    | split
    | (with_reducible apply Same.zeta); split

def State.secCmdBy_parts : Nat := 0xb02
theorem State.secCmdBy_same {P : Part} {s0 : State} (s : State) (core : Nat) (cmd : Nat) (hw : State.secCmdBy_parts.testBit
    P.ctorIdx = false) (h : Same P s0 s) :
    Same P s0 (State.secCmdBy s core cmd) := by
  unfold State.secCmdBy
  repeat' first
    | with_reducible assumption
    | intro _
    | with_reducible refine State.accessBlk_same _ _ _ _ _ (Wr.sub (by decide) hw) ?_ ?_
    | with_reducible refine State.secCmdWrite_same _ _ _ (Wr.sub (by decide) hw) ?_
    | split
    | (with_reducible apply Same.zeta); split

def execEnrol_parts : Nat := 0xb02
theorem execEnrol_same {P : Part} {s0 : State} (core : Nat) (s : State) (hw : execEnrol_parts.testBit P.ctorIdx = false) (h
    : Same P s0 s) :
    SameOut P s0 (execEnrol core s) := by
  unfold execEnrol
  repeat' first
    | with_reducible assumption
    | with_reducible apply SameOut.next
    | intro _
    | with_reducible refine State.secCmdBy_same _ _ _ (Wr.sub (by decide) hw) ?_
    | split
    | dsimp only; split

def execTransfer_parts : Nat := 0xb02
theorem execTransfer_same {P : Part} {s0 : State} (core : Nat) (s : State) (hw : execTransfer_parts.testBit P.ctorIdx =
    false) (h : Same P s0 s) :
    SameOut P s0 (execTransfer core s) := by
  unfold execTransfer
  repeat' first
    | with_reducible assumption
    | with_reducible apply SameOut.next
    | intro _
    | with_reducible refine State.secCmdBy_same _ _ _ (Wr.sub (by decide) hw) ?_
    | split
    | dsimp only; split

def execVendorOff_parts : Nat := 0xb02
theorem execVendorOff_same {P : Part} {s0 : State} (core : Nat) (s : State) (hw : execVendorOff_parts.testBit P.ctorIdx =
    false) (h : Same P s0 s) :
    SameOut P s0 (execVendorOff core s) := by
  unfold execVendorOff
  repeat' first
    | with_reducible assumption
    | with_reducible apply SameOut.next
    | intro _
    | with_reducible refine State.secCmdBy_same _ _ _ (Wr.sub (by decide) hw) ?_
    | split
    | dsimp only; split

def execAdvance_parts : Nat := 0xb02
theorem execAdvance_same {P : Part} {s0 : State} (core : Nat) (s : State) (hw : execAdvance_parts.testBit P.ctorIdx =
    false) (h : Same P s0 s) :
    SameOut P s0 (execAdvance core s) := by
  unfold execAdvance
  repeat' first
    | with_reducible assumption
    | with_reducible apply SameOut.next
    | intro _
    | with_reducible refine State.secCmdBy_same _ _ _ (Wr.sub (by decide) hw) ?_
    | split
    | dsimp only; split

def execSecCommandComplete_parts : Nat := 0xb02
theorem execSecCommandComplete_same {P : Part} {s0 : State} (s : State) (hw : execSecCommandComplete_parts.testBit
    P.ctorIdx = false) (h : Same P s0 s) :
    SameOut P s0 (execSecCommandComplete s) := by
  unfold execSecCommandComplete
  repeat' first
    | with_reducible assumption
    | with_reducible apply SameOut.next
    | with_reducible apply SameOut.ite
    | intro _
    | with_reducible refine State.program_same _ _ _ (Wr.sub (by decide) hw) ?_
    | with_reducible refine State.secResult_same _ _ (Wr.sub (by decide) hw) ?_
    | with_reducible refine State.setFld_same _ _ _ _ (Wr.sub (by decide) hw) ?_
    | with_reducible refine State.secEvent_same _ _ _ _ _ _ (Wr.sub (by decide) hw) ?_
    | with_reducible refine State.raise_same _ _ _ (Wr.sub (by decide) hw) ?_
    | with_reducible apply Same.whenIf
    | with_reducible apply Same.ite
    | fail_if_no_progress with_reducible refine Same.updSec (W := execSecCommandComplete_parts) (by decide) hw ?_
    | split
    | dsimp only; split

def State.setTried_parts : Nat := 0x100
theorem State.setTried_same {P : Part} {s0 : State} (s : State) (w : Wing) (l : List Nat) (hw :
    State.setTried_parts.testBit P.ctorIdx = false) (h : Same P s0 s) :
    Same P s0 (State.setTried s w l) := by
  unfold State.setTried
  repeat' first
    | with_reducible assumption
    | intro _
    | fail_if_no_progress with_reducible refine Same.updSec (W := State.setTried_parts) (by decide) hw ?_
    | split
    | (with_reducible apply Same.zeta); split

def State.lockMap_parts : Nat := 0x2
theorem State.lockMap_same {P : Part} {s0 : State} (s : State) (i : List Nat) (hw : State.lockMap_parts.testBit P.ctorIdx =
    false) (h : Same P s0 s) :
    Same P s0 (State.lockMap s i) := by
  unfold State.lockMap
  repeat' first
    | with_reducible assumption
    | intro _
    | with_reducible refine State.setFld_same _ _ _ _ (Wr.sub (by decide) hw) ?_
    | split
    | (with_reducible apply Same.zeta); split

def State.startImage_parts : Nat := 0x10b02
theorem State.startImage_same {P : Part} {s0 : State} (s : State) (w : Wing) (slot : Nat) (i : List Nat) (hw :
    State.startImage_parts.testBit P.ctorIdx = false) (h : Same P s0 s) :
    Same P s0 (State.startImage s w slot i) := by
  unfold State.startImage
  repeat' first
    | with_reducible assumption
    | intro _
    | with_reducible refine State.mark_same _ _ _ _ (Wr.sub (by decide) hw) ?_
    | with_reducible refine State.setFlag_same _ _ _ _ (Wr.sub (by decide) hw) ?_
    | with_reducible refine State.setFld_same _ _ _ _ (Wr.sub (by decide) hw) ?_
    | with_reducible refine State.secEvent_same _ _ _ _ _ _ (Wr.sub (by decide) hw) ?_
    | with_reducible apply Same.each
    | fail_if_no_progress with_reducible refine Same.updSec (W := State.startImage_parts) (by decide) hw ?_
    | fail_if_no_progress with_reducible refine Same.updTut (W := State.startImage_parts) (by decide) hw ?_
    | fail_if_no_progress with_reducible refine Same.upd (W := State.startImage_parts) hw ?_ (.inl rfl) (.inl rfl) (.inl rfl) (.inl rfl) (.inl rfl) (.inl rfl) (.inl rfl) (.inr (by decide)) (.inl rfl) (.inl rfl) (.inr (by decide)) (.inl rfl) (.inl rfl) (.inl rfl) (.inl rfl) (.inl rfl) (.inl rfl) (.inl rfl) (.inl rfl) (.inl rfl) (.inl rfl) (.inl rfl) (.inl rfl) (.inl rfl) (.inl rfl)
    | split
    | (with_reducible apply Same.zeta); split

def execBootImageVerify_parts : Nat := 0x10b02
theorem execBootImageVerify_same {P : Part} {s0 : State} (w : Wing) (s : State) (hw : execBootImageVerify_parts.testBit
    P.ctorIdx = false) (h : Same P s0 s) :
    SameOut P s0 (execBootImageVerify w s) := by
  unfold execBootImageVerify
  repeat' first
    | with_reducible assumption
    | with_reducible apply SameOut.next
    | with_reducible apply SameOut.ite
    | intro _
    | with_reducible refine State.setFld_same _ _ _ _ (Wr.sub (by decide) hw) ?_
    | with_reducible refine State.setTried_same _ _ _ (Wr.sub (by decide) hw) ?_
    | with_reducible refine State.secEvent_same _ _ _ _ _ _ (Wr.sub (by decide) hw) ?_
    | with_reducible refine State.lockMap_same _ _ (Wr.sub (by decide) hw) ?_
    | with_reducible refine State.startImage_same _ _ _ _ (Wr.sub (by decide) hw) ?_
    | with_reducible apply Same.whenIf
    | with_reducible apply Same.ite
    | split
    | dsimp only; split

def execIdentityKeyDerive_parts : Nat := 0xb02
theorem execIdentityKeyDerive_same {P : Part} {s0 : State} (extracted : Option Nat) (s : State) (hw :
    execIdentityKeyDerive_parts.testBit P.ctorIdx = false) (h : Same P s0 s) :
    SameOut P s0 (execIdentityKeyDerive extracted s) := by
  unfold execIdentityKeyDerive
  repeat' first
    | with_reducible assumption
    | with_reducible apply SameOut.next
    | with_reducible apply SameOut.ite
    | intro _
    | with_reducible refine State.setFld_same _ _ _ _ (Wr.sub (by decide) hw) ?_
    | with_reducible refine State.secEvent_same _ _ _ _ _ _ (Wr.sub (by decide) hw) ?_
    | with_reducible apply Same.ite
    | fail_if_no_progress with_reducible refine Same.updSec (W := execIdentityKeyDerive_parts) (by decide) hw ?_
    | split
    | dsimp only; split

def State.attestRequest_parts : Nat := 0x500
theorem State.attestRequest_same {P : Part} {s0 : State} (s : State) (nonce : List Nat) (hw :
    State.attestRequest_parts.testBit P.ctorIdx = false) (h : Same P s0 s) :
    Same P s0 (State.attestRequest s nonce) := by
  unfold State.attestRequest
  repeat' first
    | with_reducible assumption
    | intro _
    | with_reducible refine State.answer_same _ _ (Wr.sub (by decide) hw) ?_
    | with_reducible apply Same.ite
    | fail_if_no_progress with_reducible refine Same.updSec (W := State.attestRequest_parts) (by decide) hw ?_
    | split
    | (with_reducible apply Same.zeta); split

def execAttestationRequest_parts : Nat := 0x500
theorem execAttestationRequest_same {P : Part} {s0 : State} (nonce : List Nat) (s : State) (hw :
    execAttestationRequest_parts.testBit P.ctorIdx = false) (h : Same P s0 s) :
    SameOut P s0 (execAttestationRequest nonce s) := by
  unfold execAttestationRequest
  repeat' first
    | with_reducible assumption
    | with_reducible apply SameOut.next
    | intro _
    | with_reducible refine State.attestRequest_same _ _ (Wr.sub (by decide) hw) ?_
    | split
    | dsimp only; split

def execAttestationComplete_parts : Nat := 0x100
theorem execAttestationComplete_same {P : Part} {s0 : State} (s : State) (hw : execAttestationComplete_parts.testBit
    P.ctorIdx = false) (h : Same P s0 s) :
    SameOut P s0 (execAttestationComplete s) := by
  unfold execAttestationComplete
  repeat' first
    | with_reducible assumption
    | with_reducible apply SameOut.next
    | intro _
    | fail_if_no_progress with_reducible refine Same.updSec (W := execAttestationComplete_parts) (by decide) hw ?_
    | split
    | dsimp only; split

end Sys2Proof.Machine
end

