-- ==== Sys2Proof/Laws/SamePrefect.lean ====
section
/-!
SUPPORT. Which parts of State the operations of Machine/Prefect.lean can change (Laws/Same.lean), as bits by the part's number, and that
they leave every other as it was.
-/
namespace Sys2Proof.Machine

set_option linter.unusedTactic false
set_option linter.unreachableTactic false

def State.modPf_parts : Nat := 0x2000000
theorem State.modPf_same {P : Part} {s0 : State} (s : State) (f : PrefectSt → PrefectSt) (hw : State.modPf_parts.testBit
    P.ctorIdx = false) (h : Same P s0 s) :
    Same P s0 (State.modPf s f) := by
  unfold State.modPf
  repeat' first
    | with_reducible assumption
    | intro _
    | fail_if_no_progress with_reducible refine Same.updPf (W := State.modPf_parts) (by decide) hw ?_
    | split
    | (with_reducible apply Same.zeta); split

def State.pfEvent_parts : Nat := 0xa02
theorem State.pfEvent_same {P : Part} {s0 : State} (s : State) (code : Nat) (chans : Nat) (hw : State.pfEvent_parts.testBit
    P.ctorIdx = false) (h : Same P s0 s) :
    Same P s0 (State.pfEvent s code chans) := by
  unfold State.pfEvent
  repeat' first
    | with_reducible assumption
    | intro _
    | with_reducible refine State.emit_same _ _ _ (Wr.sub (by decide) hw) ?_
    | split
    | (with_reducible apply Same.zeta); split

def State.setPf_parts : Nat := 0x2
theorem State.setPf_same {P : Part} {s0 : State} (s : State) (st : Nat) (hw : State.setPf_parts.testBit P.ctorIdx = false)
    (h : Same P s0 s) :
    Same P s0 (State.setPf s st) := by
  unfold State.setPf
  repeat' first
    | with_reducible assumption
    | intro _
    | with_reducible refine State.setFld_same _ _ _ _ (Wr.sub (by decide) hw) ?_
    | split
    | (with_reducible apply Same.zeta); split

def State.pfAct_parts : Nat := 0x2000000
theorem State.pfAct_same {P : Part} {s0 : State} (s : State) (demand : Bool) (hw : State.pfAct_parts.testBit P.ctorIdx =
    false) (h : Same P s0 s) :
    Same P s0 (State.pfAct s demand) := by
  unfold State.pfAct
  repeat' first
    | with_reducible assumption
    | intro _
    | with_reducible refine State.modPf_same _ _ (Wr.sub (by decide) hw) ?_
    | split
    | (with_reducible apply Same.zeta); split

def State.pfFault_parts : Nat := 0x2000a02
theorem State.pfFault_same {P : Part} {s0 : State} (s : State) (bit : Nat) (code : Nat) (chans : Nat) (hw :
    State.pfFault_parts.testBit P.ctorIdx = false) (h : Same P s0 s) :
    Same P s0 (State.pfFault s bit code chans) := by
  unfold State.pfFault
  repeat' first
    | with_reducible assumption
    | intro _
    | with_reducible refine State.modPf_same _ _ (Wr.sub (by decide) hw) ?_
    | with_reducible refine State.count_same _ _ _ (Wr.sub (by decide) hw) ?_
    | with_reducible refine State.setBit_same _ _ _ _ _ (Wr.sub (by decide) hw) ?_
    | with_reducible refine State.setPf_same _ _ (Wr.sub (by decide) hw) ?_
    | with_reducible refine State.pfAct_same _ _ (Wr.sub (by decide) hw) ?_
    | with_reducible refine State.pfEvent_same _ _ _ (Wr.sub (by decide) hw) ?_
    | with_reducible apply Same.whenIf
    | with_reducible apply Same.ite
    | split
    | (with_reducible apply Same.zeta); split

def execTestPulseStart_parts : Nat := 0x2000000
theorem execTestPulseStart_same {P : Part} {s0 : State} (ch : Nat) (s : State) (hw : execTestPulseStart_parts.testBit
    P.ctorIdx = false) (h : Same P s0 s) :
    SameOut P s0 (execTestPulseStart ch s) := by
  unfold execTestPulseStart
  repeat' first
    | with_reducible assumption
    | with_reducible apply SameOut.next
    | with_reducible apply SameOut.ite
    | intro _
    | with_reducible refine State.modPf_same _ _ (Wr.sub (by decide) hw) ?_
    | with_reducible apply Same.ite
    | split
    | dsimp only; split

def execTestPulseEnd_parts : Nat := 0x2000000
theorem execTestPulseEnd_same {P : Part} {s0 : State} (ch : Nat) (s : State) (hw : execTestPulseEnd_parts.testBit P.ctorIdx
    = false) (h : Same P s0 s) :
    SameOut P s0 (execTestPulseEnd ch s) := by
  unfold execTestPulseEnd
  repeat' first
    | with_reducible assumption
    | with_reducible apply SameOut.next
    | with_reducible apply SameOut.ite
    | intro _
    | with_reducible refine State.modPf_same _ _ (Wr.sub (by decide) hw) ?_
    | with_reducible apply Same.ite
    | split
    | dsimp only; split

def execTestPulseCheck_parts : Nat := 0x2000a02
theorem execTestPulseCheck_same {P : Part} {s0 : State} (ch : Nat) (xReads : DualRead) (yReads : DualRead) (xStill :
    DualRead) (s : State) (hw : execTestPulseCheck_parts.testBit P.ctorIdx = false) (h : Same P s0 s) :
    SameOut P s0 (execTestPulseCheck ch xReads yReads xStill s) := by
  unfold execTestPulseCheck
  repeat' first
    | with_reducible assumption
    | with_reducible apply SameOut.next
    | with_reducible apply SameOut.ite
    | intro _
    | with_reducible refine State.modPf_same _ _ (Wr.sub (by decide) hw) ?_
    | with_reducible refine State.setFlag_same _ _ _ _ (Wr.sub (by decide) hw) ?_
    | with_reducible refine State.pfFault_same _ _ _ _ (Wr.sub (by decide) hw) ?_
    | with_reducible apply Same.whenIf
    | with_reducible apply Same.ite
    | split
    | dsimp only; split

def execFilteredDemand_parts : Nat := 0x2000002
theorem execFilteredDemand_same {P : Part} {s0 : State} (low : ChannelRead) (s : State) (hw :
    execFilteredDemand_parts.testBit P.ctorIdx = false) (h : Same P s0 s) :
    SameOut P s0 (execFilteredDemand low s) := by
  unfold execFilteredDemand
  repeat' first
    | with_reducible assumption
    | with_reducible apply SameOut.next
    | with_reducible apply SameOut.ite
    | intro _
    | with_reducible refine State.count_same _ _ _ (Wr.sub (by decide) hw) ?_
    | with_reducible refine State.setFld_same _ _ _ _ (Wr.sub (by decide) hw) ?_
    | with_reducible refine State.modPf_same _ _ (Wr.sub (by decide) hw) ?_
    | with_reducible refine State.setPf_same _ _ (Wr.sub (by decide) hw) ?_
    | with_reducible refine State.pfAct_same _ _ (Wr.sub (by decide) hw) ?_
    | with_reducible apply Same.whenIf
    | with_reducible apply Same.ite
    | split
    | dsimp only; split

def execDiscrepancyFault_parts : Nat := 0x2000a02
theorem execDiscrepancyFault_same {P : Part} {s0 : State} (ch : Nat) (s : State) (hw : execDiscrepancyFault_parts.testBit
    P.ctorIdx = false) (h : Same P s0 s) :
    SameOut P s0 (execDiscrepancyFault ch s) := by
  unfold execDiscrepancyFault
  repeat' first
    | with_reducible assumption
    | with_reducible apply SameOut.next
    | with_reducible apply SameOut.ite
    | intro _
    | with_reducible refine State.pfFault_same _ _ _ _ (Wr.sub (by decide) hw) ?_
    | with_reducible apply Same.ite
    | split
    | dsimp only; split

def execReadbackFault_parts : Nat := 0x2000a02
theorem execReadbackFault_same {P : Part} {s0 : State} (levels : DualRead) (s : State) (hw :
    execReadbackFault_parts.testBit P.ctorIdx = false) (h : Same P s0 s) :
    SameOut P s0 (execReadbackFault levels s) := by
  unfold execReadbackFault
  repeat' first
    | with_reducible assumption
    | with_reducible apply SameOut.next
    | with_reducible apply SameOut.ite
    | intro _
    | with_reducible refine State.pfFault_same _ _ _ _ (Wr.sub (by decide) hw) ?_
    | with_reducible apply Same.ite
    | split
    | dsimp only; split

def execPrefectClockCheck_parts : Nat := 0x2000a02
theorem execPrefectClockCheck_same {P : Part} {s0 : State} (count : Nat) (s : State) (hw :
    execPrefectClockCheck_parts.testBit P.ctorIdx = false) (h : Same P s0 s) :
    SameOut P s0 (execPrefectClockCheck count s) := by
  unfold execPrefectClockCheck
  repeat' first
    | with_reducible assumption
    | with_reducible apply SameOut.next
    | with_reducible apply SameOut.ite
    | intro _
    | with_reducible refine State.setFld_same _ _ _ _ (Wr.sub (by decide) hw) ?_
    | with_reducible refine State.pfFault_same _ _ _ _ (Wr.sub (by decide) hw) ?_
    | with_reducible apply Same.whenIf
    | with_reducible apply Same.ite
    | split
    | dsimp only; split

def execPrefectFaultClear_parts : Nat := 0x2
theorem execPrefectFaultClear_same {P : Part} {s0 : State} (s : State) (hw : execPrefectFaultClear_parts.testBit P.ctorIdx
    = false) (h : Same P s0 s) :
    SameOut P s0 (execPrefectFaultClear s) := by
  unfold execPrefectFaultClear
  repeat' first
    | with_reducible assumption
    | with_reducible apply SameOut.next
    | with_reducible apply SameOut.ite
    | intro _
    | with_reducible refine State.setFld_same _ _ _ _ (Wr.sub (by decide) hw) ?_
    | with_reducible refine State.setPf_same _ _ (Wr.sub (by decide) hw) ?_
    | with_reducible apply Same.whenIf
    | with_reducible apply Same.ite
    | split
    | dsimp only; split

def State.pfNotice_parts : Nat := 0x1711f42
theorem State.pfNotice_same {P : Part} {s0 : State} (s : State) (hw : State.pfNotice_parts.testBit P.ctorIdx = false) (h :
    Same P s0 s) :
    Same P s0 (State.pfNotice s) := by
  unfold State.pfNotice
  repeat' first
    | with_reducible assumption
    | intro _
    | with_reducible refine State.clearOuten_same _ _ (Wr.sub (by decide) hw) ?_
    | with_reducible refine State.setFld_same _ _ _ _ (Wr.sub (by decide) hw) ?_
    | with_reducible apply Same.each
    | split
    | (with_reducible apply Same.zeta); split

def execPrefectNotice_parts : Nat := 0x3711f42
theorem execPrefectNotice_same {P : Part} {s0 : State} (s : State) (hw : execPrefectNotice_parts.testBit P.ctorIdx = false)
    (h : Same P s0 s) :
    SameOut P s0 (execPrefectNotice s) := by
  unfold execPrefectNotice
  repeat' first
    | with_reducible assumption
    | with_reducible apply SameOut.next
    | with_reducible apply SameOut.ite
    | intro _
    | with_reducible refine State.pfNotice_same _ (Wr.sub (by decide) hw) ?_
    | with_reducible refine State.modPf_same _ _ (Wr.sub (by decide) hw) ?_
    | with_reducible apply Same.ite
    | split
    | dsimp only; split

def State.pfForce_parts : Nat := 0x3711f42
theorem State.pfForce_same {P : Part} {s0 : State} (s : State) (hw : State.pfForce_parts.testBit P.ctorIdx = false) (h :
    Same P s0 s) :
    Same P s0 (State.pfForce s) := by
  unfold State.pfForce
  repeat' first
    | with_reducible assumption
    | intro _
    | with_reducible refine State.modPf_same _ _ (Wr.sub (by decide) hw) ?_
    | with_reducible refine State.padsOff_same _ _ _ _ (Wr.sub (by decide) hw) ?_
    | with_reducible apply Same.each
    | fail_if_no_progress with_reducible refine Same.updGate (W := State.pfForce_parts) (by decide) hw ?_
    | split
    | (with_reducible apply Same.zeta); split

def execPrefectForce_parts : Nat := 0x3711f42
theorem execPrefectForce_same {P : Part} {s0 : State} (s : State) (hw : execPrefectForce_parts.testBit P.ctorIdx = false)
    (h : Same P s0 s) :
    SameOut P s0 (execPrefectForce s) := by
  unfold execPrefectForce
  repeat' first
    | with_reducible assumption
    | with_reducible apply SameOut.next
    | with_reducible apply SameOut.ite
    | intro _
    | with_reducible refine State.pfForce_same _ (Wr.sub (by decide) hw) ?_
    | with_reducible refine State.modPf_same _ _ (Wr.sub (by decide) hw) ?_
    | with_reducible refine State.pfEvent_same _ _ _ (Wr.sub (by decide) hw) ?_
    | with_reducible apply Same.whenIf
    | with_reducible apply Same.ite
    | split
    | dsimp only; split

def execPrefectReleaseReady_parts : Nat := 0x2000002
theorem execPrefectReleaseReady_same {P : Part} {s0 : State} (s : State) (hw : execPrefectReleaseReady_parts.testBit
    P.ctorIdx = false) (h : Same P s0 s) :
    SameOut P s0 (execPrefectReleaseReady s) := by
  unfold execPrefectReleaseReady
  repeat' first
    | with_reducible assumption
    | with_reducible apply SameOut.next
    | with_reducible apply SameOut.ite
    | intro _
    | with_reducible refine State.setPf_same _ _ (Wr.sub (by decide) hw) ?_
    | with_reducible refine State.setFld_same _ _ _ _ (Wr.sub (by decide) hw) ?_
    | with_reducible refine State.modPf_same _ _ (Wr.sub (by decide) hw) ?_
    | with_reducible apply Same.ite
    | split
    | dsimp only; split

def State.pfRelease_parts : Nat := 0x2000000
theorem State.pfRelease_same {P : Part} {s0 : State} (s : State) (key : Nat) (hw : State.pfRelease_parts.testBit P.ctorIdx
    = false) (h : Same P s0 s) :
    Same P s0 (State.pfRelease s key) := by
  unfold State.pfRelease
  repeat' first
    | with_reducible assumption
    | intro _
    | with_reducible refine State.modPf_same _ _ (Wr.sub (by decide) hw) ?_
    | with_reducible apply Same.ite
    | split
    | (with_reducible apply Same.zeta); split

def execPfRelWrite_parts : Nat := 0x2000b02
theorem execPfRelWrite_same {P : Part} {s0 : State} (core : Nat) (key : Nat) (s : State) (hw : execPfRelWrite_parts.testBit
    P.ctorIdx = false) (h : Same P s0 s) :
    SameOut P s0 (execPfRelWrite core key s) := by
  unfold execPfRelWrite
  repeat' first
    | with_reducible assumption
    | with_reducible apply SameOut.next
    | intro _
    | with_reducible refine State.access_same _ _ _ _ _ (Wr.sub (by decide) hw) ?_ ?_
    | with_reducible refine State.pfRelease_same _ _ (Wr.sub (by decide) hw) ?_
    | split
    | dsimp only; split

def execForceRelease_parts : Nat := 0x200a02
theorem execForceRelease_same {P : Part} {s0 : State} (s : State) (hw : execForceRelease_parts.testBit P.ctorIdx = false)
    (h : Same P s0 s) :
    SameOut P s0 (execForceRelease s) := by
  unfold execForceRelease
  repeat' first
    | with_reducible assumption
    | with_reducible apply SameOut.next
    | with_reducible apply SameOut.ite
    | intro _
    | with_reducible refine State.pfEvent_same _ _ _ (Wr.sub (by decide) hw) ?_
    | with_reducible refine State.setPf_same _ _ (Wr.sub (by decide) hw) ?_
    | with_reducible apply Same.ite
    | fail_if_no_progress with_reducible refine Same.updGate (W := execForceRelease_parts) (by decide) hw ?_
    | split
    | dsimp only; split

def execVpfGood_parts : Nat := 0x2000002
theorem execVpfGood_same {P : Part} {s0 : State} (s : State) (hw : execVpfGood_parts.testBit P.ctorIdx = false) (h : Same P
    s0 s) :
    SameOut P s0 (execVpfGood s) := by
  unfold execVpfGood
  repeat' first
    | with_reducible assumption
    | with_reducible apply SameOut.next
    | with_reducible apply SameOut.ite
    | intro _
    | with_reducible refine State.setFld_same _ _ _ _ (Wr.sub (by decide) hw) ?_
    | with_reducible refine State.modPf_same _ _ (Wr.sub (by decide) hw) ?_
    | with_reducible refine State.setPf_same _ _ (Wr.sub (by decide) hw) ?_
    | with_reducible apply Same.each
    | with_reducible apply Same.ite
    | split
    | dsimp only; split

def execVpfFail_parts : Nat := 0x3711f4a
theorem execVpfFail_same {P : Part} {s0 : State} (s : State) (hw : execVpfFail_parts.testBit P.ctorIdx = false) (h : Same P
    s0 s) :
    SameOut P s0 (execVpfFail s) := by
  unfold execVpfFail
  repeat' first
    | with_reducible assumption
    | with_reducible apply SameOut.next
    | with_reducible apply SameOut.ite
    | intro _
    | with_reducible refine State.setPf_same _ _ (Wr.sub (by decide) hw) ?_
    | with_reducible refine State.modPf_same _ _ (Wr.sub (by decide) hw) ?_
    | with_reducible refine State.pfForce_same _ (Wr.sub (by decide) hw) ?_
    | with_reducible refine State.fresh_same _ _ (Wr.sub (by decide) hw) ?_
    | (with_reducible refine Same.snd ?_ (by assumption)); with_reducible refine State.fresh_same _ _ (Wr.sub (by decide) hw) ?_
    | with_reducible refine State.setFld_same _ _ _ _ (Wr.sub (by decide) hw) ?_
    | with_reducible apply Same.whenIf
    | with_reducible apply Same.foldl
    | with_reducible apply Same.ite
    | split
    | dsimp only; split

def execCfgswRead_parts : Nat := 0x2000002
theorem execCfgswRead_same {P : Part} {s0 : State} (read : SwitchRead) (s : State) (hw : execCfgswRead_parts.testBit
    P.ctorIdx = false) (h : Same P s0 s) :
    SameOut P s0 (execCfgswRead read s) := by
  unfold execCfgswRead
  repeat' first
    | with_reducible assumption
    | with_reducible apply SameOut.next
    | with_reducible apply SameOut.ite
    | intro _
    | with_reducible refine State.setFlag_same _ _ _ _ (Wr.sub (by decide) hw) ?_
    | with_reducible refine State.setFld_same _ _ _ _ (Wr.sub (by decide) hw) ?_
    | with_reducible refine State.modPf_same _ _ (Wr.sub (by decide) hw) ?_
    | with_reducible apply Same.ite
    | split
    | dsimp only; split

def execCfgswChange_parts : Nat := 0xa02
theorem execCfgswChange_same {P : Part} {s0 : State} (read : SwitchRead) (s : State) (hw : execCfgswChange_parts.testBit
    P.ctorIdx = false) (h : Same P s0 s) :
    SameOut P s0 (execCfgswChange read s) := by
  unfold execCfgswChange
  repeat' first
    | with_reducible assumption
    | with_reducible apply SameOut.next
    | with_reducible apply SameOut.ite
    | intro _
    | with_reducible refine State.pfEvent_same _ _ _ (Wr.sub (by decide) hw) ?_
    | with_reducible refine State.setFld_same _ _ _ _ (Wr.sub (by decide) hw) ?_
    | with_reducible apply Same.ite
    | split
    | dsimp only; split

def execPrefectSetDelivery_parts : Nat := 0x3711f42
theorem execPrefectSetDelivery_same {P : Part} {s0 : State} (s : State) (hw : execPrefectSetDelivery_parts.testBit
    P.ctorIdx = false) (h : Same P s0 s) :
    SameOut P s0 (execPrefectSetDelivery s) := by
  unfold execPrefectSetDelivery
  repeat' first
    | with_reducible assumption
    | with_reducible apply SameOut.next
    | with_reducible apply SameOut.ite
    | intro _
    | with_reducible refine State.modPf_same _ _ (Wr.sub (by decide) hw) ?_
    | with_reducible refine State.setPf_same _ _ (Wr.sub (by decide) hw) ?_
    | with_reducible refine State.pfForce_same _ (Wr.sub (by decide) hw) ?_
    | with_reducible refine State.setFld_same _ _ _ _ (Wr.sub (by decide) hw) ?_
    | with_reducible refine State.pfEvent_same _ _ _ (Wr.sub (by decide) hw) ?_
    | with_reducible apply Same.whenIf
    | with_reducible apply Same.each
    | with_reducible apply Same.ite
    | split
    | dsimp only; split

def execSealOpened_parts : Nat := 0xa02
theorem execSealOpened_same {P : Part} {s0 : State} (s : State) (hw : execSealOpened_parts.testBit P.ctorIdx = false) (h :
    Same P s0 s) :
    SameOut P s0 (execSealOpened s) := by
  unfold execSealOpened
  repeat' first
    | with_reducible assumption
    | with_reducible apply SameOut.next
    | intro _
    | with_reducible refine State.pfEvent_same _ _ _ (Wr.sub (by decide) hw) ?_
    | with_reducible refine State.setFld_same _ _ _ _ (Wr.sub (by decide) hw) ?_
    | with_reducible apply Same.whenIf
    | split
    | dsimp only; split

def execSealClosed_parts : Nat := 0x2000a02
theorem execSealClosed_same {P : Part} {s0 : State} (s : State) (hw : execSealClosed_parts.testBit P.ctorIdx = false) (h :
    Same P s0 s) :
    SameOut P s0 (execSealClosed s) := by
  unfold execSealClosed
  repeat' first
    | with_reducible assumption
    | with_reducible apply SameOut.next
    | unfold id; with_reducible assumption
    | intro _
    | with_reducible refine State.pfEvent_same _ _ _ (Wr.sub (by decide) hw) ?_
    | with_reducible refine State.setFld_same _ _ _ _ (Wr.sub (by decide) hw) ?_
    | with_reducible refine State.modPf_same _ _ (Wr.sub (by decide) hw) ?_
    | with_reducible apply Same.whenIf
    | split
    | dsimp only; split

def State.pfCommit_parts : Nat := 0x2
theorem State.pfCommit_same {P : Part} {s0 : State} (s : State) (digest : Nat) (hw : State.pfCommit_parts.testBit P.ctorIdx
    = false) (h : Same P s0 s) :
    Same P s0 (State.pfCommit s digest) := by
  unfold State.pfCommit
  repeat' first
    | with_reducible assumption
    | intro _
    | with_reducible refine State.setFld_same _ _ _ _ (Wr.sub (by decide) hw) ?_
    | with_reducible apply Same.ite
    | split
    | (with_reducible apply Same.zeta); split

def execPfCommitWrite_parts : Nat := 0xb02
theorem execPfCommitWrite_same {P : Part} {s0 : State} (core : Nat) (digest : Nat) (s : State) (hw :
    execPfCommitWrite_parts.testBit P.ctorIdx = false) (h : Same P s0 s) :
    SameOut P s0 (execPfCommitWrite core digest s) := by
  unfold execPfCommitWrite
  repeat' first
    | with_reducible assumption
    | with_reducible apply SameOut.next
    | intro _
    | with_reducible refine State.access_same _ _ _ _ _ (Wr.sub (by decide) hw) ?_ ?_
    | with_reducible refine State.pfCommit_same _ _ (Wr.sub (by decide) hw) ?_
    | split
    | dsimp only; split

def execCommitArmTimeout_parts : Nat := 0x2
theorem execCommitArmTimeout_same {P : Part} {s0 : State} (s : State) (hw : execCommitArmTimeout_parts.testBit P.ctorIdx =
    false) (h : Same P s0 s) :
    SameOut P s0 (execCommitArmTimeout s) := by
  unfold execCommitArmTimeout
  repeat' first
    | with_reducible assumption
    | with_reducible apply SameOut.next
    | with_reducible apply SameOut.ite
    | intro _
    | with_reducible refine State.setFld_same _ _ _ _ (Wr.sub (by decide) hw) ?_
    | with_reducible apply Same.ite
    | split
    | dsimp only; split

def execCommissioningComplete_parts : Nat := 0x2000a02
theorem execCommissioningComplete_same {P : Part} {s0 : State} (s : State) (hw : execCommissioningComplete_parts.testBit
    P.ctorIdx = false) (h : Same P s0 s) :
    SameOut P s0 (execCommissioningComplete s) := by
  unfold execCommissioningComplete
  repeat' first
    | with_reducible assumption
    | with_reducible apply SameOut.next
    | with_reducible apply SameOut.ite
    | intro _
    | with_reducible refine State.modPf_same _ _ (Wr.sub (by decide) hw) ?_
    | with_reducible refine State.setFld_same _ _ _ _ (Wr.sub (by decide) hw) ?_
    | with_reducible refine State.pfEvent_same _ _ _ (Wr.sub (by decide) hw) ?_
    | with_reducible refine State.setPf_same _ _ (Wr.sub (by decide) hw) ?_
    | with_reducible apply Same.foldl
    | with_reducible apply Same.ite
    | split
    | dsimp only; split

end Sys2Proof.Machine
end

