-- ==== Sys2Proof/Laws/SameApply.lean ====
section
/-!
SUPPORT. Which parts of State the operations of Machine/Apply.lean can change (Laws/Same.lean), as bits by the part's number, and that
they leave every other as it was.
-/
namespace Sys2Proof.Machine

set_option linter.unusedTactic false
set_option linter.unreachableTactic false

def State.storeRecord_parts : Nat := 0x1033e02
theorem State.storeRecord_same {P : Part} {s0 : State} (s : State) (g : Nat) (seq : Nat) (entries : List Nat) (hw :
    State.storeRecord_parts.testBit P.ctorIdx = false) (h : Same P s0 s) :
    Same P s0 (State.storeRecord s g seq entries) := by
  unfold State.storeRecord
  repeat' first
    | with_reducible assumption
    | intro _
    | with_reducible refine State.modGroup_same _ _ _ (Wr.sub (by decide) hw) ?_
    | with_reducible refine State.mgmtEvent_same _ _ _ _ _ (Wr.sub (by decide) hw) ?_
    | with_reducible refine State.libSubmit_same _ _ (Wr.sub (by decide) hw) ?_
    | with_reducible apply Same.whenIf
    | with_reducible apply Same.ite
    | fail_if_no_progress with_reducible refine Same.updDict (W := State.storeRecord_parts) (by decide) hw ?_
    | split
    | (with_reducible apply Same.zeta); split

def State.storeClassS_parts : Nat := 0x1033e02
theorem State.storeClassS_same {P : Part} {s0 : State} (s : State) (hw : State.storeClassS_parts.testBit P.ctorIdx = false)
    (h : Same P s0 s) :
    Same P s0 (State.storeClassS s) := by
  unfold State.storeClassS
  repeat' first
    | with_reducible assumption
    | intro _
    | with_reducible refine State.storeRecord_same _ _ _ _ (Wr.sub (by decide) hw) ?_
    | split
    | (with_reducible apply Same.zeta); split

def State.takePending_parts : Nat := 0x500402
theorem State.takePending_same {P : Part} {s0 : State} (s : State) (g : Nat) (hw : State.takePending_parts.testBit
    P.ctorIdx = false) (h : Same P s0 s) :
    Same P s0 (State.takePending s g) := by
  unfold State.takePending
  repeat' first
    | with_reducible assumption
    | intro _
    | with_reducible refine State.modGroup_same _ _ _ (Wr.sub (by decide) hw) ?_
    | with_reducible refine State.modPm_same _ _ _ (Wr.sub (by decide) hw) ?_
    | with_reducible refine State.setLocked_same _ _ _ _ (Wr.sub (by decide) hw) ?_
    | with_reducible refine State.setEngWord_same _ _ _ _ (Wr.sub (by decide) hw) ?_
    | with_reducible refine State.setVar_same _ _ _ _ (Wr.sub (by decide) hw) ?_
    | with_reducible apply Same.each
    | with_reducible apply Same.ite
    | split
    | (with_reducible apply Same.zeta); split

def State.modeApplied_parts : Nat := 0xa82
theorem State.modeApplied_same {P : Part} {s0 : State} (s : State) (was : Bool) (hw : State.modeApplied_parts.testBit
    P.ctorIdx = false) (h : Same P s0 s) :
    Same P s0 (State.modeApplied s was) := by
  unfold State.modeApplied
  repeat' first
    | with_reducible assumption
    | intro _
    | with_reducible refine State.setWing_same _ _ _ (Wr.sub (by decide) hw) ?_
    | with_reducible refine State.setLease_same _ _ _ (Wr.sub (by decide) hw) ?_
    | with_reducible refine State.setPass_same _ _ _ (Wr.sub (by decide) hw) ?_
    | with_reducible refine State.standbyReserve_same _ _ (Wr.sub (by decide) hw) ?_
    | with_reducible apply Same.whenIf
    | with_reducible apply Same.each
    | with_reducible apply Same.ite
    | fail_if_no_progress with_reducible refine Same.updDup (W := State.modeApplied_parts) (by decide) hw ?_
    | split
    | (with_reducible apply Same.zeta); split

def State.applyHook_parts : Nat := 0x1fdbfca
theorem State.applyHook_same {P : Part} {s0 : State} (s : State) (was : State) (g : Nat) (hw :
    State.applyHook_parts.testBit P.ctorIdx = false) (h : Same P s0 s) (hwas : Same P s0 was) :
    Same P s0 (State.applyHook s was g) := by
  unfold State.applyHook
  repeat' first
    | with_reducible assumption
    | intro _
    | with_reducible refine State.sarApplied_same _ _ (Wr.sub (by decide) hw) ?_
    | with_reducible refine State.modApplied_same _ _ _ (Wr.sub (by decide) hw) ?_
    | with_reducible refine State.compApplied_same _ _ (Wr.sub (by decide) hw) ?_
    | with_reducible refine State.pwmApplied_same _ _ (Wr.sub (by decide) hw) ?_
    | with_reducible refine State.setFlag_same _ _ _ _ (Wr.sub (by decide) hw) ?_
    | with_reducible refine State.modEngine_same _ _ _ (Wr.sub (by decide) hw) ?_
    | with_reducible refine State.gridSync_same _ (Wr.sub (by decide) hw) ?_
    | with_reducible refine State.gridApplied_same _ (Wr.sub (by decide) hw) ?_
    | with_reducible refine State.islApplied_same _ (Wr.sub (by decide) hw) ?_
    | with_reducible refine State.mpptApplied_same _ _ (Wr.sub (by decide) hw) ?_
    | with_reducible refine State.bursarApplied_same _ _ (Wr.sub (by decide) hw) ?_ ?_
    | with_reducible refine State.modeApplied_same _ _ (Wr.sub (by decide) hw) ?_
    | with_reducible apply Same.whenIf
    | with_reducible apply Same.each
    | fail_if_no_progress with_reducible refine Same.updEng (W := State.applyHook_parts) (by decide) hw ?_
    | split
    | (with_reducible apply Same.zeta); split

def State.mirrorSet_parts : Nat := 0x400
theorem State.mirrorSet_same {P : Part} {s0 : State} (s : State) (g : Nat) (pend : SMap) (old : SMap) (hw :
    State.mirrorSet_parts.testBit P.ctorIdx = false) (h : Same P s0 s) :
    Same P s0 (State.mirrorSet s g pend old) := by
  unfold State.mirrorSet
  repeat' first
    | with_reducible assumption
    | intro _
    | with_reducible refine State.standbyLeft_same _ _ _ (Wr.sub (by decide) hw) ?_
    | with_reducible apply Same.ite
    | split
    | (with_reducible apply Same.zeta); split

def State.applyGroup_parts : Nat := 0x1ffbfca
theorem State.applyGroup_same {P : Part} {s0 : State} (s : State) (g : Nat) (hw : State.applyGroup_parts.testBit P.ctorIdx
    = false) (h : Same P s0 s) :
    Same P s0 (State.applyGroup s g) := by
  unfold State.applyGroup
  repeat' first
    | with_reducible assumption
    | intro _
    | with_reducible refine State.applyHook_same _ _ _ (Wr.sub (by decide) hw) ?_ ?_
    | with_reducible refine State.takePending_same _ _ (Wr.sub (by decide) hw) ?_
    | with_reducible refine State.mirrorSet_same _ _ _ _ (Wr.sub (by decide) hw) ?_
    | with_reducible refine State.modGroup_same _ _ _ (Wr.sub (by decide) hw) ?_
    | with_reducible refine State.mgmtEvent_same _ _ _ _ _ (Wr.sub (by decide) hw) ?_
    | with_reducible refine State.tellAskers_same _ _ (Wr.sub (by decide) hw) ?_
    | with_reducible refine State.answer_same _ _ (Wr.sub (by decide) hw) ?_
    | with_reducible refine State.storeRecord_same _ _ _ _ (Wr.sub (by decide) hw) ?_
    | with_reducible refine State.releaseHeld_same _ _ (Wr.sub (by decide) hw) ?_
    | with_reducible apply Same.whenIf
    | with_reducible apply Same.ite
    | split
    | (with_reducible apply Same.zeta); split

def State.applyBell_parts : Nat := 0x1ffbfca
theorem State.applyBell_same {P : Part} {s0 : State} (s : State) (group : Nat) (mask : Nat) (hw :
    State.applyBell_parts.testBit P.ctorIdx = false) (h : Same P s0 s) :
    Same P s0 (State.applyBell s group mask) := by
  unfold State.applyBell
  repeat' first
    | with_reducible assumption
    | intro _
    | with_reducible refine State.applyGroup_same _ _ (Wr.sub (by decide) hw) ?_
    | with_reducible refine State.storeClassS_same _ (Wr.sub (by decide) hw) ?_
    | with_reducible refine State.mgmtEvent_same _ _ _ _ _ (Wr.sub (by decide) hw) ?_
    | with_reducible apply Same.each
    | with_reducible apply Same.ite
    | fail_if_no_progress with_reducible refine Same.updDict (W := State.applyBell_parts) (by decide) hw ?_
    | split
    | (with_reducible apply Same.zeta); split

end Sys2Proof.Machine
end

