-- ==== Sys2Proof/Laws/SameBell.lean ====
section
/-!
SUPPORT. Which parts of State the operations of Machine/Bell.lean can change (Laws/Same.lean), as bits by the part's number, and that
they leave every other as it was.
-/
namespace Sys2Proof.Machine

set_option linter.unusedTactic false
set_option linter.unreachableTactic false

def State.ring_parts : Nat := 0x22
theorem State.ring_same {P : Part} {s0 : State} (s : State) (w : BellWord) (hw : State.ring_parts.testBit P.ctorIdx =
    false) (h : Same P s0 s) :
    Same P s0 (State.ring s w) := by
  unfold State.ring
  repeat' first
    | with_reducible assumption
    | intro _
    | with_reducible refine State.setFld_same _ _ _ _ (Wr.sub (by decide) hw) ?_
    | with_reducible apply Same.ite
    | fail_if_no_progress with_reducible refine Same.updBell (W := State.ring_parts) (by decide) hw ?_
    | split
    | (with_reducible apply Same.zeta); split

def State.barrierBell_parts : Nat := 0x420
theorem State.barrierBell_same {P : Part} {s0 : State} (s : State) (ident : Nat) (hw : State.barrierBell_parts.testBit
    P.ctorIdx = false) (h : Same P s0 s) :
    Same P s0 (State.barrierBell s ident) := by
  unfold State.barrierBell
  repeat' first
    | with_reducible assumption
    | intro _
    | fail_if_no_progress with_reducible refine Same.updBell (W := State.barrierBell_parts) (by decide) hw ?_
    | fail_if_no_progress with_reducible refine Same.updDict (W := State.barrierBell_parts) (by decide) hw ?_
    | fail_if_no_progress with_reducible refine Same.upd (W := State.barrierBell_parts) hw ?_ (.inl rfl) (.inl rfl) (.inl rfl) (.inl rfl) (.inr (by decide)) (.inl rfl) (.inl rfl) (.inl rfl) (.inl rfl) (.inr (by decide)) (.inl rfl) (.inl rfl) (.inl rfl) (.inl rfl) (.inl rfl) (.inl rfl) (.inl rfl) (.inl rfl) (.inl rfl) (.inl rfl) (.inl rfl) (.inl rfl) (.inl rfl) (.inl rfl) (.inl rfl)
    | split
    | (with_reducible apply Same.zeta); split

def State.tellRollCall_parts : Nat := 0xc02
theorem State.tellRollCall_same {P : Part} {s0 : State} (s : State) (hw : State.tellRollCall_parts.testBit P.ctorIdx =
    false) (h : Same P s0 s) :
    Same P s0 (State.tellRollCall s) := by
  unfold State.tellRollCall
  repeat' first
    | with_reducible assumption
    | intro _
    | with_reducible refine State.tell_same _ _ _ _ (Wr.sub (by decide) hw) ?_
    | with_reducible apply Same.each
    | fail_if_no_progress with_reducible refine Same.updDict (W := State.tellRollCall_parts) (by decide) hw ?_
    | split
    | (with_reducible apply Same.zeta); split

def State.askRollCall_parts : Nat := 0xc22
theorem State.askRollCall_same {P : Part} {s0 : State} (s : State) (w : Wing) (hw : State.askRollCall_parts.testBit
    P.ctorIdx = false) (h : Same P s0 s) :
    Same P s0 (State.askRollCall s w) := by
  unfold State.askRollCall
  repeat' first
    | with_reducible assumption
    | intro _
    | with_reducible refine State.requestBarrier_same _ _ _ (Wr.sub (by decide) hw) ?_
    | with_reducible refine State.tellRollCall_same _ (Wr.sub (by decide) hw) ?_
    | with_reducible apply Same.ite
    | fail_if_no_progress with_reducible refine Same.updDict (W := State.askRollCall_parts) (by decide) hw ?_
    | split
    | (with_reducible apply Same.zeta); split

def State.rollCallEnds_parts : Nat := 0xc22
theorem State.rollCallEnds_same {P : Part} {s0 : State} (s : State) (hw : State.rollCallEnds_parts.testBit P.ctorIdx =
    false) (h : Same P s0 s) :
    Same P s0 (State.rollCallEnds s) := by
  unfold State.rollCallEnds
  repeat' first
    | with_reducible assumption
    | intro _
    | with_reducible refine State.tellRollCall_same _ (Wr.sub (by decide) hw) ?_
    | with_reducible refine State.askRollCall_same _ _ (Wr.sub (by decide) hw) ?_
    | with_reducible apply Same.ite
    | fail_if_no_progress with_reducible refine Same.updDict (W := State.rollCallEnds_parts) (by decide) hw ?_
    | split
    | (with_reducible apply Same.zeta); split

def State.barrierEnds_parts : Nat := 0xc22
theorem State.barrierEnds_same {P : Part} {s0 : State} (s : State) (f : State → Barrier → State) (hw :
    State.barrierEnds_parts.testBit P.ctorIdx = false) (h : Same P s0 s) (hf : ∀ t, Same P s0 t → ∀ x1, Same P s0 (f t x1)) :
    Same P s0 (State.barrierEnds s f) := by
  unfold State.barrierEnds
  repeat' first
    | with_reducible assumption
    | intro _
    | with_reducible refine State.setFld_same _ _ _ _ (Wr.sub (by decide) hw) ?_
    | with_reducible refine State.rollCallEnds_same _ (Wr.sub (by decide) hw) ?_
    | with_reducible apply Same.whenIf
    | with_reducible apply hf
    | fail_if_no_progress with_reducible refine Same.updBell (W := State.barrierEnds_parts) (by decide) hw ?_
    | split
    | (with_reducible apply Same.zeta); split

def execBarrierComplete_parts : Nat := 0xc22
theorem execBarrierComplete_same {P : Part} {s0 : State} (s : State) (hw : execBarrierComplete_parts.testBit P.ctorIdx =
    false) (h : Same P s0 s) :
    SameOut P s0 (execBarrierComplete s) := by
  unfold execBarrierComplete
  repeat' first
    | with_reducible assumption
    | with_reducible apply SameOut.next
    | intro _
    | with_reducible refine State.barrierEnds_same _ _ (Wr.sub (by decide) hw) ?_ ?_
    | with_reducible refine State.setFld_same _ _ _ _ (Wr.sub (by decide) hw) ?_
    | split
    | dsimp only; split

def execBarrierTimeout_parts : Nat := 0xe22
theorem execBarrierTimeout_same {P : Part} {s0 : State} (missing : Nat) (s : State) (hw : execBarrierTimeout_parts.testBit
    P.ctorIdx = false) (h : Same P s0 s) :
    SameOut P s0 (execBarrierTimeout missing s) := by
  unfold execBarrierTimeout
  repeat' first
    | with_reducible assumption
    | with_reducible apply SameOut.next
    | intro _
    | with_reducible refine State.barrierEnds_same _ _ (Wr.sub (by decide) hw) ?_ ?_
    | with_reducible refine State.setFld_same _ _ _ _ (Wr.sub (by decide) hw) ?_
    | with_reducible refine State.event_same _ _ _ _ _ (Wr.sub (by decide) hw) ?_
    | split
    | dsimp only; split

def State.bellRequests_parts : Nat := 0x1ffbfea
theorem State.bellRequests_same {P : Part} {s0 : State} (s : State) (w : BellWord) (hw : State.bellRequests_parts.testBit
    P.ctorIdx = false) (h : Same P s0 s) :
    Same P s0 (State.bellRequests s w) := by
  unfold State.bellRequests
  repeat' first
    | with_reducible assumption
    | intro _
    | with_reducible refine State.applyBell_same _ _ _ (Wr.sub (by decide) hw) ?_
    | with_reducible refine State.bursarLatch_same _ _ _ (Wr.sub (by decide) hw) ?_
    | with_reducible refine State.barrierBell_same _ _ (Wr.sub (by decide) hw) ?_
    | with_reducible apply Same.whenIf
    | split
    | (with_reducible apply Same.zeta); split

def State.haltEngines_parts : Nat := 0x1711f42
theorem State.haltEngines_same {P : Part} {s0 : State} (s : State) (hw : State.haltEngines_parts.testBit P.ctorIdx = false)
    (h : Same P s0 s) :
    Same P s0 (State.haltEngines s) := by
  unfold State.haltEngines
  repeat' first
    | with_reducible assumption
    | intro _
    | with_reducible refine State.modEngine_same _ _ _ (Wr.sub (by decide) hw) ?_
    | with_reducible refine State.settlePads_same _ (Wr.sub (by decide) hw) ?_
    | with_reducible apply Same.each
    | fail_if_no_progress with_reducible refine Same.updTut (W := State.haltEngines_parts) (by decide) hw ?_
    | split
    | (with_reducible apply Same.zeta); split

def State.countBell_parts : Nat := 0x40000a
theorem State.countBell_same {P : Part} {s0 : State} (s : State) (hw : State.countBell_parts.testBit P.ctorIdx = false) (h
    : Same P s0 s) :
    Same P s0 (State.countBell s) := by
  unfold State.countBell
  repeat' first
    | with_reducible assumption
    | intro _
    | with_reducible refine State.setFld_same _ _ _ _ (Wr.sub (by decide) hw) ?_
    | with_reducible refine State.fresh_same _ _ (Wr.sub (by decide) hw) ?_
    | (with_reducible refine Same.snd ?_ (by assumption)); with_reducible refine State.fresh_same _ _ (Wr.sub (by decide) hw) ?_
    | with_reducible apply Same.ite
    | fail_if_no_progress with_reducible refine Same.updEng (W := State.countBell_parts) (by decide) hw ?_
    | split
    | (with_reducible apply Same.zeta); split

def State.chainOut_parts : Nat := 0x200
theorem State.chainOut_same {P : Part} {s0 : State} (s : State) (hw : State.chainOut_parts.testBit P.ctorIdx = false) (h :
    Same P s0 s) :
    Same P s0 (State.chainOut s) := by
  unfold State.chainOut
  repeat' first
    | with_reducible assumption
    | intro _
    | with_reducible refine State.syncSend_same _ _ (Wr.sub (by decide) hw) ?_
    | with_reducible apply Same.ite
    | fail_if_no_progress with_reducible refine Same.updPorts (W := State.chainOut_parts) (by decide) hw ?_
    | split
    | (with_reducible apply Same.zeta); split

def State.periodBell_parts : Nat := 0x1ffbfea
theorem State.periodBell_same {P : Part} {s0 : State} (s : State) (hw : State.periodBell_parts.testBit P.ctorIdx = false)
    (h : Same P s0 s) :
    Same P s0 (State.periodBell s) := by
  unfold State.periodBell
  repeat' first
    | with_reducible assumption
    | intro _
    | with_reducible refine State.countBell_same _ (Wr.sub (by decide) hw) ?_
    | with_reducible refine State.enginesEnd_same _ (Wr.sub (by decide) hw) ?_
    | with_reducible refine State.ring_same _ _ (Wr.sub (by decide) hw) ?_
    | with_reducible refine State.takeoverBell_same _ (Wr.sub (by decide) hw) ?_
    | with_reducible refine State.settleEntering_same _ (Wr.sub (by decide) hw) ?_
    | with_reducible refine State.handoverBell_same _ (Wr.sub (by decide) hw) ?_
    | with_reducible refine State.bellRequests_same _ _ (Wr.sub (by decide) hw) ?_
    | with_reducible refine State.snapshotBell_same _ _ (Wr.sub (by decide) hw) ?_
    | with_reducible refine State.bellOccurs_same _ (Wr.sub (by decide) hw) ?_
    | with_reducible refine State.chainOut_same _ (Wr.sub (by decide) hw) ?_
    | with_reducible refine State.haltEngines_same _ (Wr.sub (by decide) hw) ?_
    | with_reducible refine State.raise_same _ _ _ (Wr.sub (by decide) hw) ?_
    | with_reducible refine State.enginesDue_same _ _ (Wr.sub (by decide) hw) ?_
    | with_reducible apply Same.whenIf
    | with_reducible apply Same.ite
    | split
    | (with_reducible apply Same.zeta); split

def State.bellAlone_parts : Nat := 0x1ffbfea
theorem State.bellAlone_same {P : Part} {s0 : State} (s : State) (hw : State.bellAlone_parts.testBit P.ctorIdx = false) (h
    : Same P s0 s) :
    Same P s0 (State.bellAlone s) := by
  unfold State.bellAlone
  repeat' first
    | with_reducible assumption
    | intro _
    | with_reducible refine State.bellRequests_same _ _ (Wr.sub (by decide) hw) ?_
    | with_reducible refine State.ring_same _ _ (Wr.sub (by decide) hw) ?_
    | with_reducible apply Same.ite
    | split
    | (with_reducible apply Same.zeta); split

def State.plainBell_parts : Nat := 0x1ffbfea
theorem State.plainBell_same {P : Part} {s0 : State} (s : State) (hw : State.plainBell_parts.testBit P.ctorIdx = false) (h
    : Same P s0 s) :
    Same P s0 (State.plainBell s) := by
  unfold State.plainBell
  repeat' first
    | with_reducible assumption
    | intro _
    | with_reducible refine State.bellRequests_same _ _ (Wr.sub (by decide) hw) ?_
    | with_reducible refine State.ring_same _ _ (Wr.sub (by decide) hw) ?_
    | with_reducible apply Same.ite
    | split
    | (with_reducible apply Same.zeta); split

def State.chainHere_parts : Nat := 0x1ffbfea
theorem State.chainHere_same {P : Part} {s0 : State} (s : State) (hw : State.chainHere_parts.testBit P.ctorIdx = false) (h
    : Same P s0 s) :
    Same P s0 (State.chainHere s) := by
  unfold State.chainHere
  repeat' first
    | with_reducible assumption
    | intro _
    | with_reducible refine State.fresh_same _ _ (Wr.sub (by decide) hw) ?_
    | (with_reducible refine Same.snd ?_ (by assumption)); with_reducible refine State.fresh_same _ _ (Wr.sub (by decide) hw) ?_
    | with_reducible refine State.syncSend_same _ _ (Wr.sub (by decide) hw) ?_
    | with_reducible refine State.periodBell_same _ (Wr.sub (by decide) hw) ?_
    | with_reducible refine State.plainBell_same _ (Wr.sub (by decide) hw) ?_
    | with_reducible apply Same.ite
    | split
    | (with_reducible apply Same.zeta); split

def execChainBell_parts : Nat := 0x1ffbfea
theorem execChainBell_same {P : Part} {s0 : State} (s : State) (hw : execChainBell_parts.testBit P.ctorIdx = false) (h :
    Same P s0 s) :
    SameOut P s0 (execChainBell s) := by
  unfold execChainBell
  repeat' first
    | with_reducible assumption
    | with_reducible apply SameOut.next
    | with_reducible apply SameOut.ite
    | intro _
    | with_reducible refine State.chainHere_same _ (Wr.sub (by decide) hw) ?_
    | with_reducible apply Same.ite
    | fail_if_no_progress with_reducible refine Same.updPorts (W := execChainBell_parts) (by decide) hw ?_
    | split
    | dsimp only; split

def State.trainingEnds_parts : Nat := 0x1ffbfea
theorem State.trainingEnds_same {P : Part} {s0 : State} (s : State) (t : Training) (hw : State.trainingEnds_parts.testBit
    P.ctorIdx = false) (h : Same P s0 s) :
    Same P s0 (State.trainingEnds s t) := by
  unfold State.trainingEnds
  repeat' first
    | with_reducible assumption
    | intro _
    | with_reducible refine State.syncSend_same _ _ (Wr.sub (by decide) hw) ?_
    | with_reducible refine State.chainHere_same _ (Wr.sub (by decide) hw) ?_
    | with_reducible apply Same.ite
    | fail_if_no_progress with_reducible refine Same.updPorts (W := State.trainingEnds_parts) (by decide) hw ?_
    | split
    | (with_reducible apply Same.zeta); split

def execPeriodBell_parts : Nat := 0x1ffbfea
theorem execPeriodBell_same {P : Part} {s0 : State} (s : State) (hw : execPeriodBell_parts.testBit P.ctorIdx = false) (h :
    Same P s0 s) :
    SameOut P s0 (execPeriodBell s) := by
  unfold execPeriodBell
  repeat' first
    | with_reducible assumption
    | with_reducible apply SameOut.next
    | with_reducible apply SameOut.ite
    | intro _
    | with_reducible refine State.periodBell_same _ (Wr.sub (by decide) hw) ?_
    | with_reducible apply Same.ite
    | split
    | dsimp only; split

def execHeadEvent_parts : Nat := 0x1ffbfea
theorem execHeadEvent_same {P : Part} {s0 : State} (m : Nat) (falling : Bool) (s : State) (hw : execHeadEvent_parts.testBit
    P.ctorIdx = false) (h : Same P s0 s) :
    SameOut P s0 (execHeadEvent m falling s) := by
  unfold execHeadEvent
  repeat' first
    | with_reducible assumption
    | with_reducible apply SameOut.next
    | with_reducible apply SameOut.ite
    | intro _
    | with_reducible refine State.setFld_same _ _ _ _ (Wr.sub (by decide) hw) ?_
    | with_reducible refine State.periodBell_same _ (Wr.sub (by decide) hw) ?_
    | with_reducible apply Same.ite
    | fail_if_no_progress with_reducible refine Same.updEng (W := execHeadEvent_parts) (by decide) hw ?_
    | split
    | dsimp only; split

def execLessonFallback_parts : Nat := 0x1ffbfea
theorem execLessonFallback_same {P : Part} {s0 : State} (s : State) (hw : execLessonFallback_parts.testBit P.ctorIdx =
    false) (h : Same P s0 s) :
    SameOut P s0 (execLessonFallback s) := by
  unfold execLessonFallback
  repeat' first
    | with_reducible assumption
    | with_reducible apply SameOut.next
    | with_reducible apply SameOut.ite
    | intro _
    | with_reducible refine State.periodBell_same _ (Wr.sub (by decide) hw) ?_
    | with_reducible refine State.setFld_same _ _ _ _ (Wr.sub (by decide) hw) ?_
    | with_reducible refine State.engEvent_same _ _ _ _ _ _ _ _ (Wr.sub (by decide) hw) ?_
    | with_reducible apply Same.ite
    | split
    | dsimp only; split

def State.bellReqWrite_parts : Nat := 0xa22
theorem State.bellReqWrite_same {P : Part} {s0 : State} (s : State) (who : Nat) (v : Nat) (hw :
    State.bellReqWrite_parts.testBit P.ctorIdx = false) (h : Same P s0 s) :
    Same P s0 (State.bellReqWrite s who v) := by
  unfold State.bellReqWrite
  repeat' first
    | with_reducible assumption
    | intro _
    | with_reducible refine State.requestApply_same _ _ _ _ (Wr.sub (by decide) hw) ?_
    | with_reducible refine State.discarded_same _ _ _ (Wr.sub (by decide) hw) ?_
    | with_reducible refine State.requestLatch_same _ _ (Wr.sub (by decide) hw) ?_
    | with_reducible refine State.requestBarrier_same _ _ _ (Wr.sub (by decide) hw) ?_
    | with_reducible apply Same.whenIf
    | with_reducible apply Same.ite
    | split
    | (with_reducible apply Same.zeta); split

def execBellReqApply_parts : Nat := 0xb22
theorem execBellReqApply_same {P : Part} {s0 : State} (core : Nat) (group : Nat) (s : State) (hw :
    execBellReqApply_parts.testBit P.ctorIdx = false) (h : Same P s0 s) :
    SameOut P s0 (execBellReqApply core group s) := by
  unfold execBellReqApply
  repeat' first
    | with_reducible assumption
    | with_reducible apply SameOut.next
    | with_reducible apply SameOut.ite
    | intro _
    | with_reducible refine State.accessBlk_same _ _ _ _ _ (Wr.sub (by decide) hw) ?_ ?_
    | with_reducible refine State.bellReqWrite_same _ _ _ (Wr.sub (by decide) hw) ?_
    | with_reducible apply Same.ite
    | split
    | dsimp only; split

def execBellReqJointApply_parts : Nat := 0xb22
theorem execBellReqJointApply_same {P : Part} {s0 : State} (core : Nat) (mask : Nat) (extra : Bool) (s : State) (hw :
    execBellReqJointApply_parts.testBit P.ctorIdx = false) (h : Same P s0 s) :
    SameOut P s0 (execBellReqJointApply core mask extra s) := by
  unfold execBellReqJointApply
  repeat' first
    | with_reducible assumption
    | with_reducible apply SameOut.next
    | intro _
    | with_reducible refine State.accessBlk_same _ _ _ _ _ (Wr.sub (by decide) hw) ?_ ?_
    | with_reducible refine State.bellReqWrite_same _ _ _ (Wr.sub (by decide) hw) ?_
    | split
    | dsimp only; split

def execBellReqLatch_parts : Nat := 0xb22
theorem execBellReqLatch_same {P : Part} {s0 : State} (core : Nat) (points : Nat) (s : State) (hw :
    execBellReqLatch_parts.testBit P.ctorIdx = false) (h : Same P s0 s) :
    SameOut P s0 (execBellReqLatch core points s) := by
  unfold execBellReqLatch
  repeat' first
    | with_reducible assumption
    | with_reducible apply SameOut.next
    | intro _
    | with_reducible refine State.accessBlk_same _ _ _ _ _ (Wr.sub (by decide) hw) ?_ ?_
    | with_reducible refine State.bellReqWrite_same _ _ _ (Wr.sub (by decide) hw) ?_
    | split
    | dsimp only; split

def execBellReqBarrier_parts : Nat := 0xb22
theorem execBellReqBarrier_same {P : Part} {s0 : State} (core : Nat) (ident : Nat) (s : State) (hw :
    execBellReqBarrier_parts.testBit P.ctorIdx = false) (h : Same P s0 s) :
    SameOut P s0 (execBellReqBarrier core ident s) := by
  unfold execBellReqBarrier
  repeat' first
    | with_reducible assumption
    | with_reducible apply SameOut.next
    | intro _
    | with_reducible refine State.accessBlk_same _ _ _ _ _ (Wr.sub (by decide) hw) ?_ ?_
    | with_reducible refine State.bellReqWrite_same _ _ _ (Wr.sub (by decide) hw) ?_
    | split
    | dsimp only; split

def execBellAlone_parts : Nat := 0x1ffbfea
theorem execBellAlone_same {P : Part} {s0 : State} (s : State) (hw : execBellAlone_parts.testBit P.ctorIdx = false) (h :
    Same P s0 s) :
    SameOut P s0 (execBellAlone s) := by
  unfold execBellAlone
  repeat' first
    | with_reducible assumption
    | with_reducible apply SameOut.next
    | intro _
    | with_reducible refine State.bellAlone_same _ (Wr.sub (by decide) hw) ?_
    | split
    | dsimp only; split

def State.retireRoot_parts : Nat := 0x10a02
theorem State.retireRoot_same {P : Part} {s0 : State} (s : State) (root : Nat) (hw : State.retireRoot_parts.testBit
    P.ctorIdx = false) (h : Same P s0 s) :
    Same P s0 (State.retireRoot s root) := by
  unfold State.retireRoot
  repeat' first
    | with_reducible assumption
    | intro _
    | with_reducible refine State.event_same _ _ _ _ _ (Wr.sub (by decide) hw) ?_
    | with_reducible refine State.consumeSpare_same _ _ (Wr.sub (by decide) hw) ?_
    | with_reducible refine State.recordRepair_same _ _ _ _ _ (Wr.sub (by decide) hw) ?_
    | with_reducible refine State.setFld_same _ _ _ _ (Wr.sub (by decide) hw) ?_
    | with_reducible apply Same.ite
    | split
    | (with_reducible apply Same.zeta); split

def execBellCopyDivergence_parts : Nat := 0x10a22
theorem execBellCopyDivergence_same {P : Part} {s0 : State} (root : Nat) (s : State) (hw :
    execBellCopyDivergence_parts.testBit P.ctorIdx = false) (h : Same P s0 s) :
    SameOut P s0 (execBellCopyDivergence root s) := by
  unfold execBellCopyDivergence
  repeat' first
    | with_reducible assumption
    | with_reducible apply SameOut.next
    | with_reducible apply SameOut.ite
    | intro _
    | with_reducible refine State.event_same _ _ _ _ _ (Wr.sub (by decide) hw) ?_
    | with_reducible refine State.count_same _ _ _ (Wr.sub (by decide) hw) ?_
    | with_reducible refine State.retireRoot_same _ _ (Wr.sub (by decide) hw) ?_
    | with_reducible apply Same.whenIf
    | with_reducible apply Same.ite
    | fail_if_no_progress with_reducible refine Same.updBell (W := execBellCopyDivergence_parts) (by decide) hw ?_
    | split
    | dsimp only; split

end Sys2Proof.Machine
end

