-- ==== Sys2Proof/Laws/SamePorts.lean ====
section
/-!
SUPPORT. Which parts of State the operations of Machine/Ports.lean can change (Laws/Same.lean), as bits by the part's number, and that
they leave every other as it was.
-/
namespace Sys2Proof.Machine

set_option linter.unusedTactic false
set_option linter.unreachableTactic false

def State.trainStart_parts : Nat := 0x202
theorem State.trainStart_same {P : Part} {s0 : State} (s : State) (hw : State.trainStart_parts.testBit P.ctorIdx = false)
    (h : Same P s0 s) :
    Same P s0 (State.trainStart s) := by
  unfold State.trainStart
  repeat' first
    | with_reducible assumption
    | intro _
    | with_reducible refine State.setFld_same _ _ _ _ (Wr.sub (by decide) hw) ?_
    | with_reducible refine State.syncSend_same _ _ (Wr.sub (by decide) hw) ?_
    | with_reducible apply Same.ite
    | fail_if_no_progress with_reducible refine Same.updPorts (W := State.trainStart_parts) (by decide) hw ?_
    | split
    | (with_reducible apply Same.zeta); split

def State.portStart_parts : Nat := 0x202
theorem State.portStart_same {P : Part} {s0 : State} (s : State) (p : Nat) (hw : State.portStart_parts.testBit P.ctorIdx =
    false) (h : Same P s0 s) :
    Same P s0 (State.portStart s p) := by
  unfold State.portStart
  repeat' first
    | with_reducible assumption
    | intro _
    | with_reducible refine State.setFld_same _ _ _ _ (Wr.sub (by decide) hw) ?_
    | with_reducible refine State.trainStart_same _ (Wr.sub (by decide) hw) ?_
    | with_reducible apply Same.ite
    | split
    | (with_reducible apply Same.zeta); split

def State.portStop_parts : Nat := 0x202
theorem State.portStop_same {P : Part} {s0 : State} (s : State) (p : Nat) (hw : State.portStop_parts.testBit P.ctorIdx =
    false) (h : Same P s0 s) :
    Same P s0 (State.portStop s p) := by
  unfold State.portStop
  repeat' first
    | with_reducible assumption
    | intro _
    | with_reducible refine State.setFld_same _ _ _ _ (Wr.sub (by decide) hw) ?_
    | with_reducible apply Same.ite
    | fail_if_no_progress with_reducible refine Same.updPorts (W := State.portStop_parts) (by decide) hw ?_
    | split
    | (with_reducible apply Same.zeta); split

def State.portEnSet_parts : Nat := 0x202
theorem State.portEnSet_same {P : Part} {s0 : State} (s : State) (mask : Nat) (hw : State.portEnSet_parts.testBit P.ctorIdx
    = false) (h : Same P s0 s) :
    Same P s0 (State.portEnSet s mask) := by
  unfold State.portEnSet
  repeat' first
    | with_reducible assumption
    | intro _
    | with_reducible refine State.setFld_same _ _ _ _ (Wr.sub (by decide) hw) ?_
    | with_reducible refine State.portStart_same _ _ (Wr.sub (by decide) hw) ?_
    | with_reducible refine State.portStop_same _ _ (Wr.sub (by decide) hw) ?_
    | with_reducible apply Same.each
    | with_reducible apply Same.ite
    | split
    | (with_reducible apply Same.zeta); split

def execPortEnWrite_parts : Nat := 0xb02
theorem execPortEnWrite_same {P : Part} {s0 : State} (core : Nat) (mask : Nat) (s : State) (hw :
    execPortEnWrite_parts.testBit P.ctorIdx = false) (h : Same P s0 s) :
    SameOut P s0 (execPortEnWrite core mask s) := by
  unfold execPortEnWrite
  repeat' first
    | with_reducible assumption
    | with_reducible apply SameOut.next
    | intro _
    | with_reducible refine State.access_same _ _ _ _ _ (Wr.sub (by decide) hw) ?_ ?_
    | with_reducible refine State.portEnSet_same _ _ (Wr.sub (by decide) hw) ?_
    | split
    | dsimp only; split

def execPortRestart_parts : Nat := 0x202
theorem execPortRestart_same {P : Part} {s0 : State} (p : Nat) (s : State) (hw : execPortRestart_parts.testBit P.ctorIdx =
    false) (h : Same P s0 s) :
    SameOut P s0 (execPortRestart p s) := by
  unfold execPortRestart
  repeat' first
    | with_reducible assumption
    | with_reducible apply SameOut.next
    | with_reducible apply SameOut.ite
    | intro _
    | with_reducible refine State.setBit_same _ _ _ _ _ (Wr.sub (by decide) hw) ?_
    | with_reducible refine State.portStart_same _ _ (Wr.sub (by decide) hw) ?_
    | with_reducible apply Same.whenIf
    | with_reducible apply Same.ite
    | fail_if_no_progress with_reducible refine Same.updPorts (W := execPortRestart_parts) (by decide) hw ?_
    | split
    | dsimp only; split

def execEthLinkChange_parts : Nat := 0x2
theorem execEthLinkChange_same {P : Part} {s0 : State} (p : Nat) (up : Bool) (spd : Nat) (fdx : Bool) (s : State) (hw :
    execEthLinkChange_parts.testBit P.ctorIdx = false) (h : Same P s0 s) :
    SameOut P s0 (execEthLinkChange p up spd fdx s) := by
  unfold execEthLinkChange
  repeat' first
    | with_reducible assumption
    | with_reducible apply SameOut.next
    | with_reducible apply SameOut.ite
    | intro _
    | with_reducible refine State.setFld_same _ _ _ _ (Wr.sub (by decide) hw) ?_
    | with_reducible refine State.setFlag_same _ _ _ _ (Wr.sub (by decide) hw) ?_
    | with_reducible apply Same.ite
    | split
    | dsimp only; split

def State.ringReadsPoison_parts : Nat := 0x1f7bfc2
theorem State.ringReadsPoison_same {P : Part} {s0 : State} (s : State) (c : Consumer) (addr : Nat) (hw :
    State.ringReadsPoison_parts.testBit P.ctorIdx = false) (h : Same P s0 s) :
    Same P s0 (State.ringReadsPoison s c addr) := by
  unfold State.ringReadsPoison
  repeat' first
    | with_reducible assumption
    | intro _
    | with_reducible refine State.consumerSees_same _ _ _ (Wr.sub (by decide) hw) ?_
    | with_reducible refine State.badRead_same _ _ _ _ (Wr.sub (by decide) hw) ?_
    | split
    | (with_reducible apply Same.zeta); split

def State.receive_parts : Nat := 0x1f7bfc2
theorem State.receive_same {P : Part} {s0 : State} (s : State) (q_1 : Nat) (frame : List Nat) (matched : Nat) (ts : Nat)
    (drop : State → State) (hw : State.receive_parts.testBit P.ctorIdx = false) (h : Same P s0 s) (hdrop : ∀ t, Same P s0 t
    → Same P s0 (drop t)) :
    Same P s0 (State.receive s q_1 frame matched ts drop) := by
  unfold State.receive
  repeat' first
    | with_reducible assumption
    | intro _
    | with_reducible refine State.produce_same _ _ _ _ _ (Wr.sub (by decide) hw) ?_
    | with_reducible refine State.ringReadsPoison_same _ _ _ (Wr.sub (by decide) hw) ?_
    | with_reducible refine State.setFld_same _ _ _ _ (Wr.sub (by decide) hw) ?_
    | with_reducible refine State.count_same _ _ _ (Wr.sub (by decide) hw) ?_
    | with_reducible apply Same.ite
    | with_reducible apply hdrop
    | split
    | (with_reducible apply Same.zeta); split

def execEthFrameReceive_parts : Nat := 0x1f7bfc2
theorem execEthFrameReceive_same {P : Part} {s0 : State} (p : Nat) (frame : List Nat) (fcsOk : Bool) (ts : Nat) (s : State)
    (hw : execEthFrameReceive_parts.testBit P.ctorIdx = false) (h : Same P s0 s) :
    SameOut P s0 (execEthFrameReceive p frame fcsOk ts s) := by
  unfold execEthFrameReceive
  repeat' first
    | with_reducible assumption
    | with_reducible apply SameOut.next
    | with_reducible apply SameOut.ite
    | intro _
    | with_reducible refine State.count_same _ _ _ (Wr.sub (by decide) hw) ?_
    | with_reducible refine State.receive_same _ _ _ _ _ _ (Wr.sub (by decide) hw) ?_ ?_
    | with_reducible apply Same.ite
    | split
    | dsimp only; split

def State.canState_parts : Nat := 0x2
theorem State.canState_same {P : Part} {s0 : State} (s : State) (p : Nat) (hw : State.canState_parts.testBit P.ctorIdx =
    false) (h : Same P s0 s) :
    Same P s0 (State.canState s p) := by
  unfold State.canState
  repeat' first
    | with_reducible assumption
    | intro _
    | with_reducible refine State.setFld_same _ _ _ _ (Wr.sub (by decide) hw) ?_
    | with_reducible apply Same.ite
    | split
    | (with_reducible apply Same.zeta); split

def State.canRec_parts : Nat := 0x2
theorem State.canRec_same {P : Part} {s0 : State} (s : State) (p : Nat) (err : Bool) (hw : State.canRec_parts.testBit
    P.ctorIdx = false) (h : Same P s0 s) :
    Same P s0 (State.canRec s p err) := by
  unfold State.canRec
  repeat' first
    | with_reducible assumption
    | intro _
    | with_reducible refine State.canState_same _ _ (Wr.sub (by decide) hw) ?_
    | with_reducible refine State.setFld_same _ _ _ _ (Wr.sub (by decide) hw) ?_
    | with_reducible apply Same.ite
    | split
    | (with_reducible apply Same.zeta); split

def State.canTec_parts : Nat := 0x2
theorem State.canTec_same {P : Part} {s0 : State} (s : State) (p : Nat) (err : Bool) (hw : State.canTec_parts.testBit
    P.ctorIdx = false) (h : Same P s0 s) :
    Same P s0 (State.canTec s p err) := by
  unfold State.canTec
  repeat' first
    | with_reducible assumption
    | intro _
    | with_reducible refine State.setFld_same _ _ _ _ (Wr.sub (by decide) hw) ?_
    | with_reducible refine State.canState_same _ _ (Wr.sub (by decide) hw) ?_
    | with_reducible apply Same.ite
    | split
    | (with_reducible apply Same.zeta); split

def State.canStore_parts : Nat := 0x1f7bfc2
theorem State.canStore_same {P : Part} {s0 : State} (s : State) (p : Nat) (header : List Nat) (data : List Nat) (ts : Nat)
    (hw : State.canStore_parts.testBit P.ctorIdx = false) (h : Same P s0 s) :
    Same P s0 (State.canStore s p header data ts) := by
  unfold State.canStore
  repeat' first
    | with_reducible assumption
    | unfold id; with_reducible assumption
    | intro _
    | with_reducible refine State.receive_same _ _ _ _ _ _ (Wr.sub (by decide) hw) ?_ ?_
    | split
    | (with_reducible apply Same.zeta); split

def execCanFrameReceive_parts : Nat := 0x1f7bfc2
theorem execCanFrameReceive_same {P : Part} {s0 : State} (p : Nat) (ident : Nat) (ide : Bool) (fdf : Bool) (brs : Bool)
    (esi : Bool) (rtr : Bool) (dlc : Nat) (data : List Nat) (err : Bool) (ts : Nat) (s : State) (hw :
    execCanFrameReceive_parts.testBit P.ctorIdx = false) (h : Same P s0 s) :
    SameOut P s0 (execCanFrameReceive p ident ide fdf brs esi rtr dlc data err ts s) := by
  unfold execCanFrameReceive
  repeat' first
    | with_reducible assumption
    | with_reducible apply SameOut.next
    | with_reducible apply SameOut.ite
    | intro _
    | with_reducible refine State.canRec_same _ _ _ (Wr.sub (by decide) hw) ?_
    | with_reducible refine State.canStore_same _ _ _ _ _ (Wr.sub (by decide) hw) ?_
    | with_reducible apply Same.ite
    | split
    | dsimp only; split

def execCanBusOffRecovery_parts : Nat := 0x2
theorem execCanBusOffRecovery_same {P : Part} {s0 : State} (p : Nat) (s : State) (hw : execCanBusOffRecovery_parts.testBit
    P.ctorIdx = false) (h : Same P s0 s) :
    SameOut P s0 (execCanBusOffRecovery p s) := by
  unfold execCanBusOffRecovery
  repeat' first
    | with_reducible assumption
    | with_reducible apply SameOut.next
    | with_reducible apply SameOut.ite
    | intro _
    | with_reducible refine State.setFld_same _ _ _ _ (Wr.sub (by decide) hw) ?_
    | with_reducible apply Same.ite
    | split
    | dsimp only; split

def execNiujorFrameReceive_parts : Nat := 0x1f7bfc2
theorem execNiujorFrameReceive_same {P : Part} {s0 : State} (dst : Nat) (src : Nat) (type : Nat) (payload : List Nat)
    (check : FrameCheck) (ts : Nat) (s : State) (hw : execNiujorFrameReceive_parts.testBit P.ctorIdx = false) (h : Same P
    s0 s) :
    SameOut P s0 (execNiujorFrameReceive dst src type payload check ts s) := by
  unfold execNiujorFrameReceive
  repeat' first
    | with_reducible assumption
    | with_reducible apply SameOut.next
    | with_reducible apply SameOut.ite
    | unfold id; with_reducible assumption
    | intro _
    | with_reducible refine State.count_same _ _ _ (Wr.sub (by decide) hw) ?_
    | with_reducible refine State.receive_same _ _ _ _ _ _ (Wr.sub (by decide) hw) ?_ ?_
    | with_reducible apply Same.ite
    | fail_if_no_progress with_reducible refine Same.updPorts (W := execNiujorFrameReceive_parts) (by decide) hw ?_
    | split
    | dsimp only; split

def execNiujorCycleStart_parts : Nat := 0x200
theorem execNiujorCycleStart_same {P : Part} {s0 : State} (s : State) (hw : execNiujorCycleStart_parts.testBit P.ctorIdx =
    false) (h : Same P s0 s) :
    SameOut P s0 (execNiujorCycleStart s) := by
  unfold execNiujorCycleStart
  repeat' first
    | with_reducible assumption
    | with_reducible apply SameOut.next
    | with_reducible apply SameOut.ite
    | intro _
    | with_reducible refine State.peerSend_same _ _ (Wr.sub (by decide) hw) ?_
    | with_reducible apply Same.ite
    | fail_if_no_progress with_reducible refine Same.updPorts (W := execNiujorCycleStart_parts) (by decide) hw ?_
    | split
    | dsimp only; split

def execNiujorSlot_parts : Nat := 0x200
theorem execNiujorSlot_same {P : Part} {s0 : State} (s : State) (hw : execNiujorSlot_parts.testBit P.ctorIdx = false) (h :
    Same P s0 s) :
    SameOut P s0 (execNiujorSlot s) := by
  unfold execNiujorSlot
  repeat' first
    | with_reducible assumption
    | with_reducible apply SameOut.next
    | with_reducible apply SameOut.ite
    | intro _
    | with_reducible refine State.peerSend_same _ _ (Wr.sub (by decide) hw) ?_
    | with_reducible apply Same.ite
    | fail_if_no_progress with_reducible refine Same.updPorts (W := execNiujorSlot_parts) (by decide) hw ?_
    | split
    | dsimp only; split

def State.trainWrite_parts : Nat := 0x202
theorem State.trainWrite_same {P : Part} {s0 : State} (s : State) (hw : State.trainWrite_parts.testBit P.ctorIdx = false)
    (h : Same P s0 s) :
    Same P s0 (State.trainWrite s) := by
  unfold State.trainWrite
  repeat' first
    | with_reducible assumption
    | intro _
    | with_reducible refine State.trainStart_same _ (Wr.sub (by decide) hw) ?_
    | with_reducible apply Same.whenIf
    | split
    | (with_reducible apply Same.zeta); split

def execPeerTrain_parts : Nat := 0xb02
theorem execPeerTrain_same {P : Part} {s0 : State} (core : Nat) (s : State) (hw : execPeerTrain_parts.testBit P.ctorIdx =
    false) (h : Same P s0 s) :
    SameOut P s0 (execPeerTrain core s) := by
  unfold execPeerTrain
  repeat' first
    | with_reducible assumption
    | with_reducible apply SameOut.next
    | intro _
    | with_reducible refine State.access_same _ _ _ _ _ (Wr.sub (by decide) hw) ?_ ?_
    | with_reducible refine State.trainWrite_same _ (Wr.sub (by decide) hw) ?_
    | split
    | dsimp only; split

def execTrainingWord_parts : Nat := 0x202
theorem execTrainingWord_same {P : Part} {s0 : State} (marker : Nat) (pos : Nat) (check : Nat) (s : State) (hw :
    execTrainingWord_parts.testBit P.ctorIdx = false) (h : Same P s0 s) :
    SameOut P s0 (execTrainingWord marker pos check s) := by
  unfold execTrainingWord
  repeat' first
    | with_reducible assumption
    | with_reducible apply SameOut.next
    | with_reducible apply SameOut.ite
    | intro _
    | with_reducible refine State.setFld_same _ _ _ _ (Wr.sub (by decide) hw) ?_
    | with_reducible refine State.syncSend_same _ _ (Wr.sub (by decide) hw) ?_
    | with_reducible apply Same.ite
    | fail_if_no_progress with_reducible refine Same.updPorts (W := execTrainingWord_parts) (by decide) hw ?_
    | split
    | dsimp only; split

def execHopPulse_parts : Nat := 0x200
theorem execHopPulse_same {P : Part} {s0 : State} (s : State) (hw : execHopPulse_parts.testBit P.ctorIdx = false) (h : Same
    P s0 s) :
    SameOut P s0 (execHopPulse s) := by
  unfold execHopPulse
  repeat' first
    | with_reducible assumption
    | with_reducible apply SameOut.next
    | with_reducible apply SameOut.ite
    | intro _
    | with_reducible refine State.peerSend_same _ _ (Wr.sub (by decide) hw) ?_
    | with_reducible apply Same.ite
    | split
    | dsimp only; split

def State.hopOf_parts : Nat := 0x8
theorem State.hopOf_same {P : Part} {s0 : State} (s : State) (rt : Nat) (hw : State.hopOf_parts.testBit P.ctorIdx = false)
    (h : Same P s0 s) :
    Same P s0 (State.hopOf s rt).2 := by
  unfold State.hopOf
  repeat' first
    | with_reducible assumption
    | intro _
    | with_reducible refine State.fresh_same _ _ (Wr.sub (by decide) hw) ?_
    | (with_reducible refine Same.snd ?_ (by assumption)); with_reducible refine State.fresh_same _ _ (Wr.sub (by decide) hw) ?_
    | with_reducible apply Same.ite
    | with_reducible apply Same.iteSnd
    | dsimp only
    | split
    | (with_reducible apply Same.zeta); split

def execTrainingEcho_parts : Nat := 0x1ffbfea
theorem execTrainingEcho_same {P : Part} {s0 : State} (roundTrip : Nat) (s : State) (hw : execTrainingEcho_parts.testBit
    P.ctorIdx = false) (h : Same P s0 s) :
    SameOut P s0 (execTrainingEcho roundTrip s) := by
  unfold execTrainingEcho
  repeat' first
    | with_reducible assumption
    | with_reducible apply SameOut.next
    | with_reducible apply SameOut.ite
    | intro _
    | with_reducible refine State.hopOf_same _ _ (Wr.sub (by decide) hw) ?_
    | (with_reducible refine Same.snd ?_ (by assumption)); with_reducible refine State.hopOf_same _ _ (Wr.sub (by decide) hw) ?_
    | with_reducible refine State.peerSend_same _ _ (Wr.sub (by decide) hw) ?_
    | with_reducible refine State.trainingEnds_same _ _ (Wr.sub (by decide) hw) ?_
    | with_reducible apply Same.ite
    | fail_if_no_progress with_reducible refine Same.updPorts (W := execTrainingEcho_parts) (by decide) hw ?_
    | split
    | dsimp only; split

def execHopReport_parts : Nat := 0x202
theorem execHopReport_same {P : Part} {s0 : State} (hop : Nat) (s : State) (hw : execHopReport_parts.testBit P.ctorIdx =
    false) (h : Same P s0 s) :
    SameOut P s0 (execHopReport hop s) := by
  unfold execHopReport
  repeat' first
    | with_reducible assumption
    | with_reducible apply SameOut.next
    | with_reducible apply SameOut.ite
    | intro _
    | with_reducible refine State.setFld_same _ _ _ _ (Wr.sub (by decide) hw) ?_
    | with_reducible refine State.syncSend_same _ _ (Wr.sub (by decide) hw) ?_
    | with_reducible apply Same.ite
    | fail_if_no_progress with_reducible refine Same.updPorts (W := execHopReport_parts) (by decide) hw ?_
    | split
    | dsimp only; split

def execEchoTimeout_parts : Nat := 0x1ffbfea
theorem execEchoTimeout_same {P : Part} {s0 : State} (s : State) (hw : execEchoTimeout_parts.testBit P.ctorIdx = false) (h
    : Same P s0 s) :
    SameOut P s0 (execEchoTimeout s) := by
  unfold execEchoTimeout
  repeat' first
    | with_reducible assumption
    | with_reducible apply SameOut.next
    | with_reducible apply SameOut.ite
    | intro _
    | with_reducible refine State.trainingEnds_same _ _ (Wr.sub (by decide) hw) ?_
    | with_reducible refine State.setFld_same _ _ _ _ (Wr.sub (by decide) hw) ?_
    | with_reducible refine State.peerSend_same _ _ (Wr.sub (by decide) hw) ?_
    | with_reducible apply Same.ite
    | split
    | dsimp only; split

def execPositionReport_parts : Nat := 0x1ffbfea
theorem execPositionReport_same {P : Part} {s0 : State} (pos : Nat) (s : State) (hw : execPositionReport_parts.testBit
    P.ctorIdx = false) (h : Same P s0 s) :
    SameOut P s0 (execPositionReport pos s) := by
  unfold execPositionReport
  repeat' first
    | with_reducible assumption
    | with_reducible apply SameOut.next
    | with_reducible apply SameOut.ite
    | intro _
    | with_reducible refine State.trainingEnds_same _ _ (Wr.sub (by decide) hw) ?_
    | with_reducible refine State.setFld_same _ _ _ _ (Wr.sub (by decide) hw) ?_
    | with_reducible apply Same.ite
    | split
    | dsimp only; split

def execTrainingTimeout_parts : Nat := 0x1ffbfea
theorem execTrainingTimeout_same {P : Part} {s0 : State} (s : State) (hw : execTrainingTimeout_parts.testBit P.ctorIdx =
    false) (h : Same P s0 s) :
    SameOut P s0 (execTrainingTimeout s) := by
  unfold execTrainingTimeout
  repeat' first
    | with_reducible assumption
    | with_reducible apply SameOut.next
    | with_reducible apply SameOut.ite
    | intro _
    | with_reducible refine State.trainingEnds_same _ _ (Wr.sub (by decide) hw) ?_
    | with_reducible apply Same.ite
    | split
    | dsimp only; split

def State.mdioStart_parts : Nat := 0xa02
theorem State.mdioStart_same {P : Part} {s0 : State} (s : State) (phyad : Nat) (regad : Nat) (isWrite : Bool) (data : Nat)
    (hw : State.mdioStart_parts.testBit P.ctorIdx = false) (h : Same P s0 s) :
    Same P s0 (State.mdioStart s phyad regad isWrite data) := by
  unfold State.mdioStart
  repeat' first
    | with_reducible assumption
    | intro _
    | with_reducible refine State.discarded_same _ _ _ (Wr.sub (by decide) hw) ?_
    | with_reducible refine State.setFld_same _ _ _ _ (Wr.sub (by decide) hw) ?_
    | with_reducible refine State.setFlag_same _ _ _ _ (Wr.sub (by decide) hw) ?_
    | with_reducible apply Same.ite
    | fail_if_no_progress with_reducible refine Same.updPorts (W := State.mdioStart_parts) (by decide) hw ?_
    | split
    | (with_reducible apply Same.zeta); split

def execEthMdioWrite_parts : Nat := 0xb02
theorem execEthMdioWrite_same {P : Part} {s0 : State} (core : Nat) (phyad : Nat) (regad : Nat) (isWrite : Bool) (data :
    Nat) (s : State) (hw : execEthMdioWrite_parts.testBit P.ctorIdx = false) (h : Same P s0 s) :
    SameOut P s0 (execEthMdioWrite core phyad regad isWrite data s) := by
  unfold execEthMdioWrite
  repeat' first
    | with_reducible assumption
    | with_reducible apply SameOut.next
    | intro _
    | with_reducible refine State.access_same _ _ _ _ _ (Wr.sub (by decide) hw) ?_ ?_
    | with_reducible refine State.mdioStart_same _ _ _ _ _ (Wr.sub (by decide) hw) ?_
    | split
    | dsimp only; split

def execMdioFrameComplete_parts : Nat := 0x202
theorem execMdioFrameComplete_same {P : Part} {s0 : State} (data : Nat) (s : State) (hw :
    execMdioFrameComplete_parts.testBit P.ctorIdx = false) (h : Same P s0 s) :
    SameOut P s0 (execMdioFrameComplete data s) := by
  unfold execMdioFrameComplete
  repeat' first
    | with_reducible assumption
    | with_reducible apply SameOut.next
    | with_reducible apply SameOut.ite
    | intro _
    | with_reducible refine State.setFld_same _ _ _ _ (Wr.sub (by decide) hw) ?_
    | with_reducible apply Same.ite
    | fail_if_no_progress with_reducible refine Same.updPorts (W := execMdioFrameComplete_parts) (by decide) hw ?_
    | split
    | dsimp only; split

def State.ringOwned_parts : Nat := 0xb02
theorem State.ringOwned_same {P : Part} {s0 : State} (s : State) (core : Nat) (q_2 : Nat) (addr : Nat) (f : State → State)
    (hw : State.ringOwned_parts.testBit P.ctorIdx = false) (h : Same P s0 s) (hf : ∀ t, Same P s0 t → Same P s0 (f t)) :
    Same P s0 (State.ringOwned s core q_2 addr f) := by
  unfold State.ringOwned
  repeat' first
    | with_reducible assumption
    | intro _
    | with_reducible refine State.access_same _ _ _ _ _ (Wr.sub (by decide) hw) ?_ ?_
    | with_reducible refine State.discarded_same _ _ _ (Wr.sub (by decide) hw) ?_
    | with_reducible apply Same.ite
    | with_reducible apply hf
    | split
    | (with_reducible apply Same.zeta); split

def State.ringCfgSet_parts : Nat := 0xa02
theorem State.ringCfgSet_same {P : Part} {s0 : State} (s : State) (q_1 : Nat) (v : Nat) (hw :
    State.ringCfgSet_parts.testBit P.ctorIdx = false) (h : Same P s0 s) :
    Same P s0 (State.ringCfgSet s q_1 v) := by
  unfold State.ringCfgSet
  repeat' first
    | with_reducible assumption
    | intro _
    | with_reducible refine State.setFld_same _ _ _ _ (Wr.sub (by decide) hw) ?_
    | with_reducible refine State.setFlag_same _ _ _ _ (Wr.sub (by decide) hw) ?_
    | with_reducible refine State.discarded_same _ _ _ (Wr.sub (by decide) hw) ?_
    | with_reducible apply Same.ite
    | split
    | (with_reducible apply Same.zeta); split

def execRingCfgWrite_parts : Nat := 0xb02
theorem execRingCfgWrite_same {P : Part} {s0 : State} (core : Nat) (q_1 : Nat) (value : Nat) (s : State) (hw :
    execRingCfgWrite_parts.testBit P.ctorIdx = false) (h : Same P s0 s) :
    SameOut P s0 (execRingCfgWrite core q_1 value s) := by
  unfold execRingCfgWrite
  repeat' first
    | with_reducible assumption
    | with_reducible apply SameOut.next
    | with_reducible apply SameOut.ite
    | intro _
    | with_reducible refine State.ringOwned_same _ _ _ _ _ (Wr.sub (by decide) hw) ?_ ?_
    | with_reducible refine State.ringCfgSet_same _ _ _ (Wr.sub (by decide) hw) ?_
    | with_reducible apply Same.ite
    | split
    | dsimp only; split

def State.ringHeadSet_parts : Nat := 0x2
theorem State.ringHeadSet_same {P : Part} {s0 : State} (s : State) (q_1 : Nat) (v : Nat) (hw :
    State.ringHeadSet_parts.testBit P.ctorIdx = false) (h : Same P s0 s) :
    Same P s0 (State.ringHeadSet s q_1 v) := by
  unfold State.ringHeadSet
  repeat' first
    | with_reducible assumption
    | intro _
    | with_reducible refine State.setFld_same _ _ _ _ (Wr.sub (by decide) hw) ?_
    | with_reducible apply Same.ite
    | split
    | (with_reducible apply Same.zeta); split

def execRingHeadWrite_parts : Nat := 0xb02
theorem execRingHeadWrite_same {P : Part} {s0 : State} (core : Nat) (q_1 : Nat) (head : Nat) (s : State) (hw :
    execRingHeadWrite_parts.testBit P.ctorIdx = false) (h : Same P s0 s) :
    SameOut P s0 (execRingHeadWrite core q_1 head s) := by
  unfold execRingHeadWrite
  repeat' first
    | with_reducible assumption
    | with_reducible apply SameOut.next
    | with_reducible apply SameOut.ite
    | intro _
    | with_reducible refine State.ringOwned_same _ _ _ _ _ (Wr.sub (by decide) hw) ?_ ?_
    | with_reducible refine State.ringHeadSet_same _ _ _ (Wr.sub (by decide) hw) ?_
    | with_reducible apply Same.ite
    | split
    | dsimp only; split

def State.lateEpochEvent_parts : Nat := 0xa02
theorem State.lateEpochEvent_same {P : Part} {s0 : State} (s : State) (hw : State.lateEpochEvent_parts.testBit P.ctorIdx =
    false) (h : Same P s0 s) :
    Same P s0 (State.lateEpochEvent s) := by
  unfold State.lateEpochEvent
  repeat' first
    | with_reducible assumption
    | intro _
    | with_reducible refine State.event_same _ _ _ _ _ (Wr.sub (by decide) hw) ?_
    | with_reducible apply Same.ite
    | fail_if_no_progress with_reducible refine Same.updPorts (W := State.lateEpochEvent_parts) (by decide) hw ?_
    | split
    | (with_reducible apply Same.zeta); split

def State.q10Passed_parts : Nat := 0xa02
theorem State.q10Passed_same {P : Part} {s0 : State} (s : State) (second : Bool) (n : Nat) (hw :
    State.q10Passed_parts.testBit P.ctorIdx = false) (h : Same P s0 s) :
    Same P s0 (State.q10Passed s second n) := by
  unfold State.q10Passed
  repeat' first
    | with_reducible assumption
    | intro _
    | with_reducible refine State.lateEpochEvent_same _ (Wr.sub (by decide) hw) ?_
    | with_reducible apply Same.ite
    | fail_if_no_progress with_reducible refine Same.updPorts (W := State.q10Passed_parts) (by decide) hw ?_
    | split
    | (with_reducible apply Same.zeta); split

def State.q10TailSet_parts : Nat := 0xa02
theorem State.q10TailSet_same {P : Part} {s0 : State} (s : State) (second : Bool) (v : Nat) (hw :
    State.q10TailSet_parts.testBit P.ctorIdx = false) (h : Same P s0 s) :
    Same P s0 (State.q10TailSet s second v) := by
  unfold State.q10TailSet
  repeat' first
    | with_reducible assumption
    | intro _
    | with_reducible refine State.q10Passed_same _ _ _ (Wr.sub (by decide) hw) ?_
    | with_reducible refine State.setFld_same _ _ _ _ (Wr.sub (by decide) hw) ?_
    | with_reducible apply Same.ite
    | split
    | (with_reducible apply Same.zeta); split

def State.ringTailSet_parts : Nat := 0xa02
theorem State.ringTailSet_same {P : Part} {s0 : State} (s : State) (q_1 : Nat) (v : Nat) (hw :
    State.ringTailSet_parts.testBit P.ctorIdx = false) (h : Same P s0 s) :
    Same P s0 (State.ringTailSet s q_1 v) := by
  unfold State.ringTailSet
  repeat' first
    | with_reducible assumption
    | intro _
    | with_reducible refine State.q10TailSet_same _ _ _ (Wr.sub (by decide) hw) ?_
    | with_reducible refine State.setFld_same _ _ _ _ (Wr.sub (by decide) hw) ?_
    | with_reducible apply Same.ite
    | split
    | (with_reducible apply Same.zeta); split

def State.ringResume_parts : Nat := 0x2
theorem State.ringResume_same {P : Part} {s0 : State} (s : State) (q_1 : Nat) (hw : State.ringResume_parts.testBit
    P.ctorIdx = false) (h : Same P s0 s) :
    Same P s0 (State.ringResume s q_1) := by
  unfold State.ringResume
  repeat' first
    | with_reducible assumption
    | intro _
    | with_reducible refine State.setFld_same _ _ _ _ (Wr.sub (by decide) hw) ?_
    | split
    | (with_reducible apply Same.zeta); split

def execRingHaltClear_parts : Nat := 0xb02
theorem execRingHaltClear_same {P : Part} {s0 : State} (core : Nat) (q_1 : Nat) (s : State) (hw :
    execRingHaltClear_parts.testBit P.ctorIdx = false) (h : Same P s0 s) :
    SameOut P s0 (execRingHaltClear core q_1 s) := by
  unfold execRingHaltClear
  repeat' first
    | with_reducible assumption
    | with_reducible apply SameOut.next
    | with_reducible apply SameOut.ite
    | intro _
    | with_reducible refine State.ringOwned_same _ _ _ _ _ (Wr.sub (by decide) hw) ?_ ?_
    | with_reducible refine State.ringResume_same _ _ (Wr.sub (by decide) hw) ?_
    | with_reducible apply Same.ite
    | split
    | dsimp only; split

def State.takeDesc_parts : Nat := 0x1f7bfc2
theorem State.takeDesc_same {P : Part} {s0 : State} (s : State) (q_1 : Nat) (i : Nat) (hw : State.takeDesc_parts.testBit
    P.ctorIdx = false) (h : Same P s0 s) :
    Same P s0 (State.takeDesc s q_1 i) := by
  unfold State.takeDesc
  repeat' first
    | with_reducible assumption
    | intro _
    | with_reducible refine State.ringReadsPoison_same _ _ _ (Wr.sub (by decide) hw) ?_
    | with_reducible refine State.finish_same _ _ _ _ (Wr.sub (by decide) hw) ?_
    | with_reducible refine State.violation_same _ _ _ (Wr.sub (by decide) hw) ?_
    | with_reducible apply Same.ite
    | fail_if_no_progress with_reducible refine Same.updPorts (W := State.takeDesc_parts) (by decide) hw ?_
    | split
    | (with_reducible apply Same.zeta); split

def execDescriptorProcess_parts : Nat := 0x1f7bfc2
theorem execDescriptorProcess_same {P : Part} {s0 : State} (s : State) (hw : execDescriptorProcess_parts.testBit P.ctorIdx
    = false) (h : Same P s0 s) :
    SameOut P s0 (execDescriptorProcess s) := by
  unfold execDescriptorProcess
  repeat' first
    | with_reducible assumption
    | with_reducible apply SameOut.next
    | intro _
    | with_reducible refine State.setFld_same _ _ _ _ (Wr.sub (by decide) hw) ?_
    | with_reducible refine State.takeDesc_same _ _ _ (Wr.sub (by decide) hw) ?_
    | fail_if_no_progress with_reducible refine Same.updPorts (W := execDescriptorProcess_parts) (by decide) hw ?_
    | split
    | dsimp only; split

def State.canSent_parts : Nat := 0x1f7bfc2
theorem State.canSent_same {P : Part} {s0 : State} (s : State) (p : Nat) (code : Nat) (d : Desc) (ts : Nat) (hw :
    State.canSent_parts.testBit P.ctorIdx = false) (h : Same P s0 s) :
    Same P s0 (State.canSent s p code d ts) := by
  unfold State.canSent
  repeat' first
    | with_reducible assumption
    | intro _
    | with_reducible refine State.canTec_same _ _ _ (Wr.sub (by decide) hw) ?_
    | with_reducible refine State.canStore_same _ _ _ _ _ (Wr.sub (by decide) hw) ?_
    | with_reducible apply Same.ite
    | split
    | (with_reducible apply Same.zeta); split

def execDescriptorComplete_parts : Nat := 0x1f7bfc2
theorem execDescriptorComplete_same {P : Part} {s0 : State} (q_0 : Nat) (code : Nat) (ts : Nat) (s : State) (hw :
    execDescriptorComplete_parts.testBit P.ctorIdx = false) (h : Same P s0 s) :
    SameOut P s0 (execDescriptorComplete q_0 code ts s) := by
  unfold execDescriptorComplete
  repeat' first
    | with_reducible assumption
    | with_reducible apply SameOut.next
    | with_reducible apply SameOut.ite
    | intro _
    | with_reducible refine State.finish_same _ _ _ _ (Wr.sub (by decide) hw) ?_
    | with_reducible refine State.canSent_same _ _ _ _ _ (Wr.sub (by decide) hw) ?_
    | with_reducible apply Same.ite
    | split
    | dsimp only; split

def execCaptureBufferComplete_parts : Nat := 0x11f02
theorem execCaptureBufferComplete_same {P : Part} {s0 : State} (a : Nat) (s : State) (hw :
    execCaptureBufferComplete_parts.testBit P.ctorIdx = false) (h : Same P s0 s) :
    SameOut P s0 (execCaptureBufferComplete a s) := by
  unfold execCaptureBufferComplete
  repeat' first
    | with_reducible assumption
    | with_reducible apply SameOut.next
    | with_reducible apply SameOut.ite
    | intro _
    | with_reducible refine State.captureDone_same _ _ _ (Wr.sub (by decide) hw) ?_
    | with_reducible apply Same.ite
    | split
    | dsimp only; split

def State.cryptoEnds_parts : Nat := 0x11a02
theorem State.cryptoEnds_same {P : Part} {s0 : State} (s : State) (t : Taken) (result : Nat) (hw :
    State.cryptoEnds_parts.testBit P.ctorIdx = false) (h : Same P s0 s) :
    Same P s0 (State.cryptoEnds s t result) := by
  unfold State.cryptoEnds
  repeat' first
    | with_reducible assumption
    | intro _
    | with_reducible refine State.satWrite_same _ _ _ (Wr.sub (by decide) hw) ?_
    | (with_reducible refine Same.snd ?_ (by assumption)); with_reducible refine State.satWrite_same _ _ _ (Wr.sub (by decide) hw) ?_
    | with_reducible refine State.finish_same _ _ _ _ (Wr.sub (by decide) hw) ?_
    | with_reducible apply Same.ite
    | split
    | (with_reducible apply Same.zeta); split

def State.crypto_parts : Nat := 0x11a02
theorem State.crypto_same {P : Part} {s0 : State} (s : State) (op : Nat) (f : State → List Nat → Nat × State) (hw :
    State.crypto_parts.testBit P.ctorIdx = false) (h : Same P s0 s) (hf : ∀ t, Same P s0 t → ∀ x1, Same P s0 (f t x1).2) :
    Same P s0 (State.crypto s op f) := by
  unfold State.crypto
  repeat' first
    | with_reducible assumption
    | intro _
    | with_reducible refine State.finish_same _ _ _ _ (Wr.sub (by decide) hw) ?_
    | with_reducible refine State.cryptoEnds_same _ _ _ (Wr.sub (by decide) hw) ?_
    | with_reducible apply Same.ite
    | with_reducible apply hf
    | split
    | (with_reducible apply Same.zeta); split

def execCryptoHash_parts : Nat := 0x11a02
theorem execCryptoHash_same {P : Part} {s0 : State} (s : State) (hw : execCryptoHash_parts.testBit P.ctorIdx = false) (h :
    Same P s0 s) :
    SameOut P s0 (execCryptoHash s) := by
  unfold execCryptoHash
  repeat' first
    | with_reducible assumption
    | with_reducible apply SameOut.next
    | intro _
    | with_reducible refine State.crypto_same _ _ _ (Wr.sub (by decide) hw) ?_ ?_
    | split
    | dsimp only; split

def execCryptoVerify_parts : Nat := 0x11a0a
theorem execCryptoVerify_same {P : Part} {s0 : State} (s : State) (hw : execCryptoVerify_parts.testBit P.ctorIdx = false)
    (h : Same P s0 s) :
    SameOut P s0 (execCryptoVerify s) := by
  unfold execCryptoVerify
  repeat' first
    | with_reducible assumption
    | with_reducible apply SameOut.next
    | with_reducible apply SameOut.ite
    | intro _
    | with_reducible refine State.crypto_same _ _ _ (Wr.sub (by decide) hw) ?_ ?_
    | with_reducible refine State.fresh_same _ _ (Wr.sub (by decide) hw) ?_
    | (with_reducible refine Same.snd ?_ (by assumption)); with_reducible refine State.fresh_same _ _ (Wr.sub (by decide) hw) ?_
    | with_reducible apply Same.ite
    | split
    | dsimp only; split

end Sys2Proof.Machine
end

