-- ==== Sys2Proof/Laws/SameMemory.lean ====
section
/-!
SUPPORT. Which parts of State the operations of Machine/Memory.lean can change (Laws/Same.lean), as bits by the part's number, and that
they leave every other as it was.
-/
namespace Sys2Proof.Machine

set_option linter.unusedTactic false
set_option linter.unreachableTactic false

def State.breakLr_parts : Nat := 0x800
theorem State.breakLr_same {P : Part} {s0 : State} (s : State) (region : Nat) (w : Wing) (granule : Nat) (hw :
    State.breakLr_parts.testBit P.ctorIdx = false) (h : Same P s0 s) :
    Same P s0 (State.breakLr s region w granule) := by
  unfold State.breakLr
  repeat' first
    | with_reducible assumption
    | intro _
    | with_reducible apply Same.ite
    | fail_if_no_progress with_reducible refine Same.updTut (W := State.breakLr_parts) (by decide) hw ?_
    | split
    | (with_reducible apply Same.zeta); split

def State.storeGuard_parts : Nat := 0xa02
theorem State.storeGuard_same {P : Part} {s0 : State} (s : State) (core : Nat) (mem : Nat) (word : Nat) (addr : Nat) (f :
    State → State) (hw : State.storeGuard_parts.testBit P.ctorIdx = false) (h : Same P s0 s) (hf : ∀ t, Same P s0 t → Same
    P s0 (f t)) :
    Same P s0 (State.storeGuard s core mem word addr f) := by
  unfold State.storeGuard
  repeat' first
    | with_reducible assumption
    | intro _
    | with_reducible refine State.coreFault_same _ _ _ _ (Wr.sub (by decide) hw) ?_
    | with_reducible refine State.badRead_same _ _ _ _ (Wr.sub (by decide) hw) ?_
    | with_reducible apply Same.ite
    | with_reducible apply hf
    | split
    | (with_reducible apply Same.zeta); split

def State.memStore_parts : Nat := 0x13a02
theorem State.memStore_same {P : Part} {s0 : State} (s : State) (core : Nat) (addr : Nat) (l : List Nat) (hw :
    State.memStore_parts.testBit P.ctorIdx = false) (h : Same P s0 s) :
    Same P s0 (State.memStore s core addr l) := by
  unfold State.memStore
  repeat' first
    | with_reducible assumption
    | intro _
    | with_reducible refine State.storeGuard_same _ _ _ _ _ _ (Wr.sub (by decide) hw) ?_ ?_
    | with_reducible refine State.breakLr_same _ _ _ _ (Wr.sub (by decide) hw) ?_
    | with_reducible refine State.satWrite_same _ _ _ (Wr.sub (by decide) hw) ?_
    | (with_reducible refine Same.snd ?_ (by assumption)); with_reducible refine State.satWrite_same _ _ _ (Wr.sub (by decide) hw) ?_
    | with_reducible refine State.coreFault_same _ _ _ _ (Wr.sub (by decide) hw) ?_
    | with_reducible refine State.badRead_same _ _ _ _ (Wr.sub (by decide) hw) ?_
    | with_reducible apply Same.ite
    | fail_if_no_progress with_reducible refine Same.updTut (W := State.memStore_parts) (by decide) hw ?_
    | fail_if_no_progress with_reducible refine Same.updCt (W := State.memStore_parts) (by decide) hw ?_
    | fail_if_no_progress with_reducible refine Same.upd (W := State.memStore_parts) hw ?_ (.inl rfl) (.inl rfl) (.inl rfl) (.inl rfl) (.inl rfl) (.inl rfl) (.inl rfl) (.inl rfl) (.inl rfl) (.inl rfl) (.inr (by decide)) (.inl rfl) (.inr (by decide)) (.inl rfl) (.inl rfl) (.inl rfl) (.inl rfl) (.inl rfl) (.inl rfl) (.inl rfl) (.inl rfl) (.inl rfl) (.inl rfl) (.inl rfl) (.inl rfl)
    | split
    | (with_reducible apply Same.zeta); split

def State.coreStore_parts : Nat := 0x13b02
theorem State.coreStore_same {P : Part} {s0 : State} (s : State) (core : Nat) (addr : Nat) (l : List Nat) (hw :
    State.coreStore_parts.testBit P.ctorIdx = false) (h : Same P s0 s) :
    Same P s0 (State.coreStore s core addr l) := by
  unfold State.coreStore
  repeat' first
    | with_reducible assumption
    | intro _
    | with_reducible refine State.access_same _ _ _ _ _ (Wr.sub (by decide) hw) ?_ ?_
    | with_reducible refine State.coreFault_same _ _ _ _ (Wr.sub (by decide) hw) ?_
    | with_reducible refine State.memStore_same _ _ _ _ (Wr.sub (by decide) hw) ?_
    | with_reducible apply Same.ite
    | split
    | (with_reducible apply Same.zeta); split

def State.corePlace_parts : Nat := 0x11800
theorem State.corePlace_same {P : Part} {s0 : State} (s : State) (core : Nat) (addr : Nat) (l : List Nat) (hw :
    State.corePlace_parts.testBit P.ctorIdx = false) (h : Same P s0 s) :
    Same P s0 (State.corePlace s core addr l).2 := by
  unfold State.corePlace
  repeat' first
    | with_reducible assumption
    | intro _
    | with_reducible refine State.satWrite_same _ _ _ (Wr.sub (by decide) hw) ?_
    | (with_reducible refine Same.snd ?_ (by assumption)); with_reducible refine State.satWrite_same _ _ _ (Wr.sub (by decide) hw) ?_
    | with_reducible apply Same.ite
    | with_reducible apply Same.iteSnd
    | fail_if_no_progress with_reducible refine Same.updTut (W := State.corePlace_parts) (by decide) hw ?_
    | dsimp only
    | split
    | (with_reducible apply Same.zeta); split

end Sys2Proof.Machine
end

