-- ==== Sys2Proof/Laws/SameRegWrite.lean ====
section
/-!
SUPPORT. Which parts of State the operations of Machine/RegWrite.lean can change (Laws/Same.lean), as bits by the part's number, and that
they leave every other as it was.
-/
namespace Sys2Proof.Machine

set_option linter.unusedTactic false
set_option linter.unreachableTactic false

theorem State.took_same {P : Part} {s0 : State} (s : State) (o : Out) (h : Same P s0 s) (ho : SameOut P s0 o) :
    Same P s0 (State.took s o) := by
  unfold State.took
  split
  · exact ho _ rfl
  · exact h

def State.fieldPut_parts : Nat := 0x402
theorem State.fieldPut_same {P : Part} {s0 : State} (s : State) (r : RegDesc) (i : Nat) (v : Nat) (mask : Nat) (fa :
    FieldAt) (hw : State.fieldPut_parts.testBit P.ctorIdx = false) (h : Same P s0 s) :
    Same P s0 (State.fieldPut s r i v mask fa) := by
  unfold State.fieldPut
  repeat' first
    | with_reducible assumption
    | intro _
    | with_reducible refine State.setFld_same _ _ _ _ (Wr.sub (by decide) hw) ?_
    | with_reducible refine State.modGroup_same _ _ _ (Wr.sub (by decide) hw) ?_
    | with_reducible apply Same.whenIf
    | with_reducible apply Same.ite
    | split
    | (with_reducible apply Same.zeta); split

def State.fieldsPut_parts : Nat := 0xe02
theorem State.fieldsPut_same {P : Part} {s0 : State} (s : State) (r : RegDesc) (i : Nat) (addr : Nat) (v : Nat) (mask :
    Nat) (hw : State.fieldsPut_parts.testBit P.ctorIdx = false) (h : Same P s0 s) :
    Same P s0 (State.fieldsPut s r i addr v mask) := by
  unfold State.fieldsPut
  repeat' first
    | with_reducible assumption
    | intro _
    | with_reducible refine State.fieldPut_same _ _ _ _ _ _ (Wr.sub (by decide) hw) ?_
    | with_reducible refine State.discarded_same _ _ _ (Wr.sub (by decide) hw) ?_
    | with_reducible apply Same.whenIf
    | with_reducible apply Same.each
    | split
    | (with_reducible apply Same.zeta); split

def State.rtcSecWrite_parts : Nat := 0x1037a02
theorem State.rtcSecWrite_same {P : Part} {s0 : State} (s : State) (v : Nat) (hw : State.rtcSecWrite_parts.testBit
    P.ctorIdx = false) (h : Same P s0 s) :
    Same P s0 (State.rtcSecWrite s v) := by
  unfold State.rtcSecWrite
  repeat' first
    | with_reducible assumption
    | intro _
    | with_reducible refine State.discarded_same _ _ _ (Wr.sub (by decide) hw) ?_
    | with_reducible refine State.writeSpans_same _ (Wr.sub (by decide) hw) ?_
    | with_reducible refine State.setFld_same _ _ _ _ (Wr.sub (by decide) hw) ?_
    | with_reducible apply Same.ite
    | fail_if_no_progress with_reducible refine Same.updCt (W := State.rtcSecWrite_parts) (by decide) hw ?_
    | fail_if_no_progress with_reducible refine Same.updClk (W := State.rtcSecWrite_parts) (by decide) hw ?_
    | fail_if_no_progress with_reducible refine Same.upd (W := State.rtcSecWrite_parts) hw ?_ (.inl rfl) (.inl rfl) (.inl rfl) (.inl rfl) (.inl rfl) (.inl rfl) (.inl rfl) (.inl rfl) (.inl rfl) (.inl rfl) (.inl rfl) (.inl rfl) (.inr (by decide)) (.inr (by decide)) (.inl rfl) (.inl rfl) (.inl rfl) (.inl rfl) (.inl rfl) (.inl rfl) (.inl rfl) (.inl rfl) (.inl rfl) (.inl rfl) (.inl rfl)
    | split
    | (with_reducible apply Same.zeta); split

def execRtcSecWrite_parts : Nat := 0x1037b02
theorem execRtcSecWrite_same {P : Part} {s0 : State} (core : Nat) (seconds : Nat) (s : State) (hw :
    execRtcSecWrite_parts.testBit P.ctorIdx = false) (h : Same P s0 s) :
    SameOut P s0 (execRtcSecWrite core seconds s) := by
  unfold execRtcSecWrite
  repeat' first
    | with_reducible assumption
    | with_reducible apply SameOut.next
    | intro _
    | with_reducible refine State.accessBlk_same _ _ _ _ _ (Wr.sub (by decide) hw) ?_ ?_
    | with_reducible refine State.rtcSecWrite_same _ _ (Wr.sub (by decide) hw) ?_
    | split
    | dsimp only; split

def State.entitledClear_parts : Nat := 0xa02
theorem State.entitledClear_same {P : Part} {s0 : State} (s : State) (w : Wing) (locked : Bool) (addr : Nat) (v : Nat) (hw
    : State.entitledClear_parts.testBit P.ctorIdx = false) (h : Same P s0 s) :
    Same P s0 (State.entitledClear s w locked addr v) := by
  unfold State.entitledClear
  repeat' first
    | with_reducible assumption
    | intro _
    | with_reducible refine State.setFld_same _ _ _ _ (Wr.sub (by decide) hw) ?_
    | with_reducible refine State.discarded_same _ _ _ (Wr.sub (by decide) hw) ?_
    | with_reducible apply Same.whenIf
    | with_reducible apply Same.foldl
    | with_reducible apply Same.ite
    | split
    | (with_reducible apply Same.zeta); split

def State.hpCmdWrite_parts : Nat := 0x1f7bfea
theorem State.hpCmdWrite_same {P : Part} {s0 : State} (s : State) (w : Wing) (v : Nat) (hw : State.hpCmdWrite_parts.testBit
    P.ctorIdx = false) (h : Same P s0 s) :
    Same P s0 (State.hpCmdWrite s w v) := by
  unfold State.hpCmdWrite
  repeat' first
    | with_reducible assumption
    | intro _
    | with_reducible refine State.fresh_same _ _ (Wr.sub (by decide) hw) ?_
    | (with_reducible refine Same.snd ?_ (by assumption)); with_reducible refine State.fresh_same _ _ (Wr.sub (by decide) hw) ?_
    | with_reducible refine State.standbyCmd_same _ _ _ (Wr.sub (by decide) hw) ?_
    | with_reducible refine State.wakeCmd_same _ _ (Wr.sub (by decide) hw) ?_
    | with_reducible refine State.coldCmd_same _ _ (Wr.sub (by decide) hw) ?_
    | with_reducible refine State.readyCmd_same _ _ (Wr.sub (by decide) hw) ?_
    | with_reducible refine State.handoverCmd_same _ _ (Wr.sub (by decide) hw) ?_
    | with_reducible refine State.cancelCmd_same _ _ (Wr.sub (by decide) hw) ?_
    | with_reducible refine State.releaseCmd_same _ _ (Wr.sub (by decide) hw) ?_
    | with_reducible refine State.acquireCmd_same _ _ (Wr.sub (by decide) hw) ?_
    | with_reducible refine State.cmdDiscarded_same _ _ _ (Wr.sub (by decide) hw) ?_
    | split
    | (with_reducible apply Same.zeta); split

def State.bothCores_parts : Nat := 0x402
theorem State.bothCores_same {P : Part} {s0 : State} (s : State) (r : RegDesc) (i : Nat) (v : Nat) (mask : Nat) (hw :
    State.bothCores_parts.testBit P.ctorIdx = false) (h : Same P s0 s) :
    Same P s0 (State.bothCores s r i v mask) := by
  unfold State.bothCores
  repeat' first
    | with_reducible assumption
    | intro _
    | with_reducible refine State.fieldPut_same _ _ _ _ _ _ (Wr.sub (by decide) hw) ?_
    | with_reducible apply Same.each
    | split
    | (with_reducible apply Same.zeta); split

def State.softWakes_parts : Nat := 0x800
theorem State.softWakes_same {P : Part} {s0 : State} (s : State) (w : Wing) (hw : State.softWakes_parts.testBit P.ctorIdx =
    false) (h : Same P s0 s) :
    Same P s0 (State.softWakes s w) := by
  unfold State.softWakes
  repeat' first
    | with_reducible assumption
    | intro _
    | with_reducible apply Same.whenIf
    | with_reducible apply Same.each
    | fail_if_no_progress with_reducible refine Same.updTut (W := State.softWakes_parts) (by decide) hw ?_
    | split
    | (with_reducible apply Same.zeta); split

def State.timerCheck_parts : Nat := 0x800
theorem State.timerCheck_same {P : Part} {s0 : State} (s : State) (core : Nat) (hw : State.timerCheck_parts.testBit
    P.ctorIdx = false) (h : Same P s0 s) :
    Same P s0 (State.timerCheck s core) := by
  unfold State.timerCheck
  repeat' first
    | with_reducible assumption
    | intro _
    | with_reducible apply Same.whenIf
    | fail_if_no_progress with_reducible refine Same.updTut (W := State.timerCheck_parts) (by decide) hw ?_
    | split
    | (with_reducible apply Same.zeta); split

def State.mtcmpLow_parts : Nat := 0x800
theorem State.mtcmpLow_same {P : Part} {s0 : State} (s : State) (core : Nat) (v : Nat) (hw : State.mtcmpLow_parts.testBit
    P.ctorIdx = false) (h : Same P s0 s) :
    Same P s0 (State.mtcmpLow s core v) := by
  unfold State.mtcmpLow
  repeat' first
    | with_reducible assumption
    | intro _
    | fail_if_no_progress with_reducible refine Same.updTut (W := State.mtcmpLow_parts) (by decide) hw ?_
    | split
    | (with_reducible apply Same.zeta); split

def State.mtcmpHigh_parts : Nat := 0x802
theorem State.mtcmpHigh_same {P : Part} {s0 : State} (s : State) (core : Nat) (v : Nat) (hw : State.mtcmpHigh_parts.testBit
    P.ctorIdx = false) (h : Same P s0 s) :
    Same P s0 (State.mtcmpHigh s core v) := by
  unfold State.mtcmpHigh
  repeat' first
    | with_reducible assumption
    | intro _
    | with_reducible refine State.timerCheck_same _ _ (Wr.sub (by decide) hw) ?_
    | with_reducible refine State.setFld_same _ _ _ _ (Wr.sub (by decide) hw) ?_
    | fail_if_no_progress with_reducible refine Same.updTut (W := State.mtcmpHigh_parts) (by decide) hw ?_
    | split
    | (with_reducible apply Same.zeta); split

def State.claimEnds_parts : Nat := 0x800
theorem State.claimEnds_same {P : Part} {s0 : State} (s : State) (core : Nat) (src : Nat) (hw :
    State.claimEnds_parts.testBit P.ctorIdx = false) (h : Same P s0 s) :
    Same P s0 (State.claimEnds s core src) := by
  unfold State.claimEnds
  repeat' first
    | with_reducible assumption
    | intro _
    | with_reducible apply Same.ite
    | fail_if_no_progress with_reducible refine Same.updTut (W := State.claimEnds_parts) (by decide) hw ?_
    | split
    | (with_reducible apply Same.zeta); split

def State.leHaltWrite_parts : Nat := 0x2
theorem State.leHaltWrite_same {P : Part} {s0 : State} (s : State) (core : Nat) (v : Nat) (hw :
    State.leHaltWrite_parts.testBit P.ctorIdx = false) (h : Same P s0 s) :
    Same P s0 (State.leHaltWrite s core v) := by
  unfold State.leHaltWrite
  repeat' first
    | with_reducible assumption
    | intro _
    | with_reducible refine State.setFld_same _ _ _ _ (Wr.sub (by decide) hw) ?_
    | with_reducible apply Same.ite
    | split
    | (with_reducible apply Same.zeta); split

def State.tutDbgWrite_parts : Nat := 0x2
theorem State.tutDbgWrite_same {P : Part} {s0 : State} (s : State) (core : Nat) (v : Nat) (hw :
    State.tutDbgWrite_parts.testBit P.ctorIdx = false) (h : Same P s0 s) :
    Same P s0 (State.tutDbgWrite s core v) := by
  unfold State.tutDbgWrite
  repeat' first
    | with_reducible assumption
    | intro _
    | with_reducible refine State.setFld_same _ _ _ _ (Wr.sub (by decide) hw) ?_
    | with_reducible refine State.leHaltWrite_same _ _ _ (Wr.sub (by decide) hw) ?_
    | with_reducible apply Same.each
    | split
    | (with_reducible apply Same.zeta); split

def State.regAfter_parts : Nat := 0x17fbf4a
theorem State.regAfter_same {P : Part} {s0 : State} (s : State) (core : Nat) (r : RegDesc) (i : Nat) (v : Nat) (hw :
    State.regAfter_parts.testBit P.ctorIdx = false) (h : Same P s0 s) :
    Same P s0 (State.regAfter s core r i v) := by
  unfold State.regAfter
  repeat' first
    | with_reducible assumption
    | intro _
    | with_reducible refine State.settlePaths_same _ (Wr.sub (by decide) hw) ?_
    | with_reducible refine State.stopRotation_same _ (Wr.sub (by decide) hw) ?_
    | with_reducible refine State.settleTrips_same _ (Wr.sub (by decide) hw) ?_
    | with_reducible refine State.guardClr_same _ _ (Wr.sub (by decide) hw) ?_
    | with_reducible refine State.wcClr_same _ _ (Wr.sub (by decide) hw) ?_
    | with_reducible refine State.retireWrite_same _ _ (Wr.sub (by decide) hw) ?_
    | with_reducible refine State.saveDue_same _ (Wr.sub (by decide) hw) ?_
    | with_reducible refine State.settleStale_same _ (Wr.sub (by decide) hw) ?_
    | with_reducible refine State.serve_same _ (Wr.sub (by decide) hw) ?_
    | with_reducible refine State.softWakes_same _ _ (Wr.sub (by decide) hw) ?_
    | with_reducible apply Same.whenIf
    | split
    | (with_reducible apply Same.zeta); split

def State.mdioPut_parts : Nat := 0xe02
theorem State.mdioPut_same {P : Part} {s0 : State} (s : State) (r : RegDesc) (i : Nat) (addr : Nat) (v : Nat) (mask : Nat)
    (hw : State.mdioPut_parts.testBit P.ctorIdx = false) (h : Same P s0 s) :
    Same P s0 (State.mdioPut s r i addr v mask) := by
  unfold State.mdioPut
  repeat' first
    | with_reducible assumption
    | intro _
    | with_reducible refine State.mdioStart_same _ _ _ _ _ (Wr.sub (by decide) hw) ?_
    | with_reducible refine State.discarded_same _ _ _ (Wr.sub (by decide) hw) ?_
    | with_reducible refine State.fieldsPut_same _ _ _ _ _ _ (Wr.sub (by decide) hw) ?_
    | with_reducible apply Same.ite
    | split
    | (with_reducible apply Same.zeta); split

def State.capPut_parts : Nat := 0x11f02
theorem State.capPut_same {P : Part} {s0 : State} (s : State) (r : RegDesc) (i : Nat) (addr : Nat) (v : Nat) (mask : Nat)
    (hw : State.capPut_parts.testBit P.ctorIdx = false) (h : Same P s0 s) :
    Same P s0 (State.capPut s r i addr v mask) := by
  unfold State.capPut
  repeat' first
    | with_reducible assumption
    | intro _
    | with_reducible refine State.closeCapture_same _ _ (Wr.sub (by decide) hw) ?_
    | with_reducible refine State.fieldsPut_same _ _ _ _ _ _ (Wr.sub (by decide) hw) ?_
    | with_reducible apply Same.whenIf
    | split
    | (with_reducible apply Same.zeta); split

def State.regPut_parts : Nat := 0x3ffffea
theorem State.regPut_same {P : Part} {s0 : State} (s : State) (core : Nat) (r : RegDesc) (i : Nat) (addr : Nat) (v : Nat)
    (mask : Nat) (hw : State.regPut_parts.testBit P.ctorIdx = false) (h : Same P s0 s) :
    Same P s0 (State.regPut s core r i addr v mask) := by
  unfold State.regPut
  repeat' first
    | with_reducible assumption
    | intro _
    | with_reducible refine State.bellReqWrite_same _ _ _ (Wr.sub (by decide) hw) ?_
    | with_reducible refine State.pwrCellWrite_same _ _ _ _ _ (Wr.sub (by decide) hw) ?_
    | with_reducible refine State.pwrSwWrite_same _ _ _ _ _ (Wr.sub (by decide) hw) ?_
    | with_reducible refine State.clkEnWrite_same _ _ _ (Wr.sub (by decide) hw) ?_
    | with_reducible refine State.rtcSecWrite_same _ _ (Wr.sub (by decide) hw) ?_
    | with_reducible refine State.sarSwtrig_same _ _ (Wr.sub (by decide) hw) ?_
    | with_reducible refine State.inject_same _ _ _ _ (Wr.sub (by decide) hw) ?_
    | with_reducible refine State.fdlyWrite_same _ _ _ (Wr.sub (by decide) hw) ?_
    | with_reducible refine State.wcThr_same _ _ _ _ (Wr.sub (by decide) hw) ?_
    | with_reducible refine State.cntEnWrite_same _ _ _ (Wr.sub (by decide) hw) ?_
    | with_reducible refine State.outenWrite_same _ _ _ _ (Wr.sub (by decide) hw) ?_
    | with_reducible refine State.armWrite_same _ _ _ (Wr.sub (by decide) hw) ?_
    | with_reducible refine State.intWrite_same _ _ _ _ _ _ (Wr.sub (by decide) hw) ?_
    | with_reducible refine State.shdLowWrite_same _ _ _ _ _ (Wr.sub (by decide) hw) ?_
    | with_reducible refine State.shdHighWrite_same _ _ _ _ _ (Wr.sub (by decide) hw) ?_
    | with_reducible refine State.gstartWrite_same _ _ (Wr.sub (by decide) hw) ?_
    | with_reducible refine State.entitledClear_same _ _ _ _ _ (Wr.sub (by decide) hw) ?_
    | with_reducible refine State.swtrig_same _ _ _ (Wr.sub (by decide) hw) ?_
    | with_reducible refine State.subgoWrite_same _ _ _ (Wr.sub (by decide) hw) ?_
    | with_reducible refine State.requestLatch_same _ _ (Wr.sub (by decide) hw) ?_
    | with_reducible refine State.theftClear_same _ (Wr.sub (by decide) hw) ?_
    | with_reducible refine State.renew_same _ _ (Wr.sub (by decide) hw) ?_
    | with_reducible refine State.hpCmdWrite_same _ _ _ (Wr.sub (by decide) hw) ?_
    | with_reducible refine State.rearmWrite_same _ _ _ (Wr.sub (by decide) hw) ?_
    | with_reducible refine State.retireBank_same _ _ (Wr.sub (by decide) hw) ?_
    | with_reducible refine State.repLoad_same _ _ (Wr.sub (by decide) hw) ?_
    | with_reducible refine State.setFld_same _ _ _ _ (Wr.sub (by decide) hw) ?_
    | with_reducible refine State.secEvent_same _ _ _ _ _ _ (Wr.sub (by decide) hw) ?_
    | with_reducible refine State.fieldsPut_same _ _ _ _ _ _ (Wr.sub (by decide) hw) ?_
    | with_reducible refine State.secCmdWrite_same _ _ _ (Wr.sub (by decide) hw) ?_
    | with_reducible refine State.pfRelease_same _ _ (Wr.sub (by decide) hw) ?_
    | with_reducible refine State.pfCommit_same _ _ (Wr.sub (by decide) hw) ?_
    | with_reducible refine State.portEnSet_same _ _ (Wr.sub (by decide) hw) ?_
    | with_reducible refine State.mdioPut_same _ _ _ _ _ _ (Wr.sub (by decide) hw) ?_
    | with_reducible refine State.trainWrite_same _ (Wr.sub (by decide) hw) ?_
    | with_reducible refine State.capPut_same _ _ _ _ _ _ (Wr.sub (by decide) hw) ?_
    | with_reducible refine State.discarded_same _ _ _ (Wr.sub (by decide) hw) ?_
    | with_reducible refine State.ringCfgSet_same _ _ _ (Wr.sub (by decide) hw) ?_
    | with_reducible refine State.ringHeadSet_same _ _ _ (Wr.sub (by decide) hw) ?_
    | with_reducible refine State.ringTailSet_same _ _ _ (Wr.sub (by decide) hw) ?_
    | with_reducible refine State.ringResume_same _ _ (Wr.sub (by decide) hw) ?_
    | with_reducible refine State.q10TailSet_same _ _ _ (Wr.sub (by decide) hw) ?_
    | with_reducible refine State.bothCores_same _ _ _ _ _ (Wr.sub (by decide) hw) ?_
    | with_reducible refine State.regAfter_same _ _ _ _ _ (Wr.sub (by decide) hw) ?_
    | with_reducible refine State.mtcmpLow_same _ _ _ (Wr.sub (by decide) hw) ?_
    | with_reducible refine State.mtcmpHigh_same _ _ _ (Wr.sub (by decide) hw) ?_
    | with_reducible refine State.tutDbgWrite_same _ _ _ (Wr.sub (by decide) hw) ?_
    | with_reducible refine State.claimEnds_same _ _ _ (Wr.sub (by decide) hw) ?_
    | with_reducible apply Same.whenIf
    | with_reducible apply Same.ite
    | fail_if_no_progress with_reducible refine Same.updClk (W := State.regPut_parts) (by decide) hw ?_
    | split
    | (with_reducible apply Same.zeta); split

end Sys2Proof.Machine
end

