-- ==== Sys2Proof/Laws/SameDict.lean ====
section
/-!
SUPPORT. Which parts of State the operations of Machine/Dict.lean can change (Laws/Same.lean), as bits by the part's number, and that
they leave every other as it was.
-/
namespace Sys2Proof.Machine

set_option linter.unusedTactic false
set_option linter.unreachableTactic false

def State.answerRead_parts : Nat := 0x400
theorem State.answerRead_same {P : Part} {s0 : State} (s : State) (r : Nat × List Nat) (hw : State.answerRead_parts.testBit
    P.ctorIdx = false) (h : Same P s0 s) :
    Same P s0 (State.answerRead s r) := by
  unfold State.answerRead
  repeat' first
    | with_reducible assumption
    | intro _
    | with_reducible apply Same.ite
    | fail_if_no_progress with_reducible refine Same.updDict (W := State.answerRead_parts) (by decide) hw ?_
    | split
    | (with_reducible apply Same.zeta); split

def State.noRights_parts : Nat := 0xf02
theorem State.noRights_same {P : Part} {s0 : State} (s : State) (init : Nat) (idx : Nat) (sub : Nat) (hw :
    State.noRights_parts.testBit P.ctorIdx = false) (h : Same P s0 s) :
    Same P s0 (State.noRights s init idx sub) := by
  unfold State.noRights
  repeat' first
    | with_reducible assumption
    | intro _
    | with_reducible refine State.answer_same _ _ (Wr.sub (by decide) hw) ?_
    | with_reducible refine State.violation_same _ _ _ (Wr.sub (by decide) hw) ?_
    | split
    | (with_reducible apply Same.zeta); split

def State.dictRead_parts : Nat := 0x800f02
theorem State.dictRead_same {P : Part} {s0 : State} (s : State) (w : Wing) (init : Nat) (idx : Nat) (sub : Nat) (hw :
    State.dictRead_parts.testBit P.ctorIdx = false) (h : Same P s0 s) :
    Same P s0 (State.dictRead s w init idx sub) := by
  unfold State.dictRead
  repeat' first
    | with_reducible assumption
    | intro _
    | with_reducible refine State.answerRead_same _ _ (Wr.sub (by decide) hw) ?_
    | with_reducible refine State.noRights_same _ _ _ _ (Wr.sub (by decide) hw) ?_
    | with_reducible apply Same.whenIf
    | fail_if_no_progress with_reducible refine Same.updShip (W := State.dictRead_parts) (by decide) hw ?_
    | split
    | (with_reducible apply Same.zeta); split

end Sys2Proof.Machine
end

