-- ==== Sys2Proof/Laws/SameDictWrite.lean ====
section
/-!
SUPPORT. Which parts of State the operations of Machine/DictWrite.lean can change (Laws/Same.lean), as bits by the part's number, and that
they leave every other as it was.
-/
namespace Sys2Proof.Machine

set_option linter.unusedTactic false
set_option linter.unreachableTactic false

def State.writeReg_parts : Nat := 0x3ffffea
theorem State.writeReg_same {P : Part} {s0 : State} (s : State) (w : Wing) (ty : ObjTy) (addr : Nat) (lo : Nat) (width :
    Nat) (v : Nat) (hw : State.writeReg_parts.testBit P.ctorIdx = false) (h : Same P s0 s) :
    Same P s0 (State.writeReg s w ty addr lo width v) := by
  unfold State.writeReg
  repeat' first
    | with_reducible assumption
    | intro _
    | with_reducible refine State.answer_same _ _ (Wr.sub (by decide) hw) ?_
    | with_reducible refine State.wcThr_same _ _ _ _ (Wr.sub (by decide) hw) ?_
    | with_reducible refine State.regPut_same _ _ _ _ _ _ _ (Wr.sub (by decide) hw) ?_
    | with_reducible apply Same.ite
    | split
    | (with_reducible apply Same.zeta); split

def State.writeRegs_parts : Nat := 0x3ffffea
theorem State.writeRegs_same {P : Part} {s0 : State} (s : State) (w : Wing) (addrs : List Nat) (v : Nat) (hw :
    State.writeRegs_parts.testBit P.ctorIdx = false) (h : Same P s0 s) :
    Same P s0 (State.writeRegs s w addrs v) := by
  unfold State.writeRegs
  repeat' first
    | with_reducible assumption
    | intro _
    | with_reducible refine State.answer_same _ _ (Wr.sub (by decide) hw) ?_
    | with_reducible refine State.commitShd_same _ _ _ _ _ (Wr.sub (by decide) hw) ?_
    | with_reducible refine State.regPut_same _ _ _ _ _ _ _ (Wr.sub (by decide) hw) ?_
    | with_reducible apply Same.each
    | with_reducible apply Same.ite
    | split
    | (with_reducible apply Same.zeta); split

def State.writeVar_parts : Nat := 0x800400
theorem State.writeVar_same {P : Part} {s0 : State} (s : State) (e : Entry) (idx : Nat) (sub : Nat) (v : Nat) (hw :
    State.writeVar_parts.testBit P.ctorIdx = false) (h : Same P s0 s) :
    Same P s0 (State.writeVar s e idx sub v) := by
  unfold State.writeVar
  repeat' first
    | with_reducible assumption
    | intro _
    | with_reducible refine State.answer_same _ _ (Wr.sub (by decide) hw) ?_
    | with_reducible refine State.gridCommand_same _ _ (Wr.sub (by decide) hw) ?_
    | with_reducible refine State.islCommand_same _ _ (Wr.sub (by decide) hw) ?_
    | with_reducible refine State.modGroup_same _ _ _ (Wr.sub (by decide) hw) ?_
    | with_reducible refine State.rwVar_same _ _ _ _ (Wr.sub (by decide) hw) ?_
    | with_reducible refine State.setVar_same _ _ _ _ (Wr.sub (by decide) hw) ?_
    | with_reducible apply Same.ite
    | split
    | (with_reducible apply Same.zeta); split

def State.writeWindow_parts : Nat := 0x400
theorem State.writeWindow_same {P : Part} {s0 : State} (s : State) (n : Nat) (first : Nat) (words : Nat) (data : List Nat)
    (hw : State.writeWindow_parts.testBit P.ctorIdx = false) (h : Same P s0 s) :
    Same P s0 (State.writeWindow s n first words data) := by
  unfold State.writeWindow
  repeat' first
    | with_reducible assumption
    | intro _
    | with_reducible refine State.answer_same _ _ (Wr.sub (by decide) hw) ?_
    | with_reducible refine State.modGroup_same _ _ _ (Wr.sub (by decide) hw) ?_
    | with_reducible apply Same.foldl
    | with_reducible apply Same.ite
    | split
    | (with_reducible apply Same.zeta); split

def State.writeData_parts : Nat := 0x410e02
theorem State.writeData_same {P : Part} {s0 : State} (s : State) (n : Nat) (data : List Nat) (hw :
    State.writeData_parts.testBit P.ctorIdx = false) (h : Same P s0 s) :
    Same P s0 (State.writeData s n data) := by
  unfold State.writeData
  repeat' first
    | with_reducible assumption
    | intro _
    | with_reducible refine State.answer_same _ _ (Wr.sub (by decide) hw) ?_
    | with_reducible refine State.dataUpdate_same _ _ _ _ (Wr.sub (by decide) hw) ?_
    | with_reducible apply Same.ite
    | split
    | (with_reducible apply Same.zeta); split

def State.storeParameters_parts : Nat := 0x1033e02
theorem State.storeParameters_same {P : Part} {s0 : State} (s : State) (v : Nat) (hw : State.storeParameters_parts.testBit
    P.ctorIdx = false) (h : Same P s0 s) :
    Same P s0 (State.storeParameters s v) := by
  unfold State.storeParameters
  repeat' first
    | with_reducible assumption
    | intro _
    | with_reducible refine State.answer_same _ _ (Wr.sub (by decide) hw) ?_
    | with_reducible refine State.storeClassS_same _ (Wr.sub (by decide) hw) ?_
    | with_reducible apply Same.ite
    | split
    | (with_reducible apply Same.zeta); split

def State.restoreDefaults_parts : Nat := 0x1033e02
theorem State.restoreDefaults_same {P : Part} {s0 : State} (s : State) (v : Nat) (hw : State.restoreDefaults_parts.testBit
    P.ctorIdx = false) (h : Same P s0 s) :
    Same P s0 (State.restoreDefaults s v) := by
  unfold State.restoreDefaults
  repeat' first
    | with_reducible assumption
    | intro _
    | with_reducible refine State.answer_same _ _ (Wr.sub (by decide) hw) ?_
    | with_reducible refine State.storeRecord_same _ _ _ _ (Wr.sub (by decide) hw) ?_
    | with_reducible apply Same.each
    | with_reducible apply Same.ite
    | split
    | (with_reducible apply Same.zeta); split

def State.programDownload_parts : Nat := 0x500
theorem State.programDownload_same {P : Part} {s0 : State} (s : State) (w : Wing) (data : List Nat) (hw :
    State.programDownload_parts.testBit P.ctorIdx = false) (h : Same P s0 s) :
    Same P s0 (State.programDownload s w data) := by
  unfold State.programDownload
  repeat' first
    | with_reducible assumption
    | intro _
    | with_reducible refine State.answer_same _ _ (Wr.sub (by decide) hw) ?_
    | with_reducible apply Same.ite
    | fail_if_no_progress with_reducible refine Same.updSec (W := State.programDownload_parts) (by decide) hw ?_
    | split
    | (with_reducible apply Same.zeta); split

def State.imageSlotWrite_parts : Nat := 0x1033e02
theorem State.imageSlotWrite_same {P : Part} {s0 : State} (s : State) (slot : Nat) (data : List Nat) (hw :
    State.imageSlotWrite_parts.testBit P.ctorIdx = false) (h : Same P s0 s) :
    Same P s0 (State.imageSlotWrite s slot data) := by
  unfold State.imageSlotWrite
  repeat' first
    | with_reducible assumption
    | intro _
    | with_reducible refine State.answer_same _ _ (Wr.sub (by decide) hw) ?_
    | with_reducible refine State.libRecord_same _ _ _ _ _ (Wr.sub (by decide) hw) ?_
    | with_reducible apply Same.ite
    | split
    | (with_reducible apply Same.zeta); split

def State.jointRestart_parts : Nat := 0x400
theorem State.jointRestart_same {P : Part} {s0 : State} (s : State) (mask : Nat) (hw : State.jointRestart_parts.testBit
    P.ctorIdx = false) (h : Same P s0 s) :
    Same P s0 (State.jointRestart s mask) := by
  unfold State.jointRestart
  repeat' first
    | with_reducible assumption
    | intro _
    | with_reducible refine State.answer_same _ _ (Wr.sub (by decide) hw) ?_
    | with_reducible refine State.modGroup_same _ _ _ (Wr.sub (by decide) hw) ?_
    | with_reducible apply Same.each
    | with_reducible apply Same.ite
    | fail_if_no_progress with_reducible refine Same.updDict (W := State.jointRestart_parts) (by decide) hw ?_
    | split
    | (with_reducible apply Same.zeta); split

def State.seedRequest_parts : Nat := 0x400
theorem State.seedRequest_same {P : Part} {s0 : State} (s : State) (w : Wing) (v : Nat) (hw :
    State.seedRequest_parts.testBit P.ctorIdx = false) (h : Same P s0 s) :
    Same P s0 (State.seedRequest s w v) := by
  unfold State.seedRequest
  repeat' first
    | with_reducible assumption
    | intro _
    | with_reducible refine State.answer_same _ _ (Wr.sub (by decide) hw) ?_
    | with_reducible apply Same.ite
    | fail_if_no_progress with_reducible refine Same.updDict (W := State.seedRequest_parts) (by decide) hw ?_
    | split
    | (with_reducible apply Same.zeta); split

def State.securityEntry_parts : Nat := 0x502
theorem State.securityEntry_same {P : Part} {s0 : State} (s : State) (data : List Nat) (hw :
    State.securityEntry_parts.testBit P.ctorIdx = false) (h : Same P s0 s) :
    Same P s0 (State.securityEntry s data) := by
  unfold State.securityEntry
  repeat' first
    | with_reducible assumption
    | intro _
    | with_reducible refine State.answer_same _ _ (Wr.sub (by decide) hw) ?_
    | with_reducible refine State.secCommand_same _ _ _ _ _ (Wr.sub (by decide) hw) ?_
    | with_reducible apply Same.ite
    | split
    | (with_reducible apply Same.zeta); split

def State.hpEntry_parts : Nat := 0x1f7bfea
theorem State.hpEntry_same {P : Part} {s0 : State} (s : State) (w : Wing) (v : Nat) (hw : State.hpEntry_parts.testBit
    P.ctorIdx = false) (h : Same P s0 s) :
    Same P s0 (State.hpEntry s w v) := by
  unfold State.hpEntry
  repeat' first
    | with_reducible assumption
    | intro _
    | with_reducible refine State.answer_same _ _ (Wr.sub (by decide) hw) ?_
    | with_reducible refine State.hpCmdWrite_same _ _ _ (Wr.sub (by decide) hw) ?_
    | with_reducible apply Same.ite
    | split
    | (with_reducible apply Same.zeta); split

def State.writeSpecial_parts : Nat := 0x1f7bfea
theorem State.writeSpecial_same {P : Part} {s0 : State} (s : State) (w : Wing) (idx : Nat) (sub : Nat) (data : List Nat)
    (hw : State.writeSpecial_parts.testBit P.ctorIdx = false) (h : Same P s0 s) :
    Same P s0 (State.writeSpecial s w idx sub data) := by
  unfold State.writeSpecial
  repeat' first
    | with_reducible assumption
    | intro _
    | with_reducible refine State.storeParameters_same _ _ (Wr.sub (by decide) hw) ?_
    | with_reducible refine State.restoreDefaults_same _ _ (Wr.sub (by decide) hw) ?_
    | with_reducible refine State.programDownload_same _ _ _ (Wr.sub (by decide) hw) ?_
    | with_reducible refine State.imageSlotWrite_same _ _ _ (Wr.sub (by decide) hw) ?_
    | with_reducible refine State.jointRestart_same _ _ (Wr.sub (by decide) hw) ?_
    | with_reducible refine State.seedRequest_same _ _ _ (Wr.sub (by decide) hw) ?_
    | with_reducible refine State.traceRequest_same _ _ (Wr.sub (by decide) hw) ?_
    | with_reducible refine State.hpEntry_same _ _ _ (Wr.sub (by decide) hw) ?_
    | with_reducible refine State.securityEntry_same _ _ (Wr.sub (by decide) hw) ?_
    | with_reducible refine State.attestRequest_same _ _ (Wr.sub (by decide) hw) ?_
    | with_reducible refine State.writeData_same _ _ _ (Wr.sub (by decide) hw) ?_
    | with_reducible refine State.checkHandover_same _ (Wr.sub (by decide) hw) ?_
    | with_reducible refine State.groupCommand_same _ _ _ (Wr.sub (by decide) hw) ?_
    | with_reducible apply Same.ite
    | fail_if_no_progress with_reducible refine Same.updDict (W := State.writeSpecial_parts) (by decide) hw ?_
    | split
    | (with_reducible apply Same.zeta); split

def State.putEntry_parts : Nat := 0x3ffffea
theorem State.putEntry_same {P : Part} {s0 : State} (s : State) (w : Wing) (e : Entry) (idx : Nat) (sub : Nat) (data : List
    Nat) (hw : State.putEntry_parts.testBit P.ctorIdx = false) (h : Same P s0 s) :
    Same P s0 (State.putEntry s w e idx sub data) := by
  unfold State.putEntry
  repeat' first
    | with_reducible assumption
    | intro _
    | with_reducible refine State.writeReg_same _ _ _ _ _ _ _ (Wr.sub (by decide) hw) ?_
    | with_reducible refine State.writeRegs_same _ _ _ _ (Wr.sub (by decide) hw) ?_
    | with_reducible refine State.writeVar_same _ _ _ _ _ (Wr.sub (by decide) hw) ?_
    | with_reducible refine State.writeWindow_same _ _ _ _ _ (Wr.sub (by decide) hw) ?_
    | with_reducible refine State.writeSpecial_same _ _ _ _ _ (Wr.sub (by decide) hw) ?_
    | split
    | (with_reducible apply Same.zeta); split

def State.dictWrite_parts : Nat := 0x3ffffea
theorem State.dictWrite_same {P : Part} {s0 : State} (s : State) (w : Wing) (init : Nat) (idx : Nat) (sub : Nat) (data :
    List Nat) (hw : State.dictWrite_parts.testBit P.ctorIdx = false) (h : Same P s0 s) :
    Same P s0 (State.dictWrite s w init idx sub data) := by
  unfold State.dictWrite
  repeat' first
    | with_reducible assumption
    | intro _
    | with_reducible refine State.noRights_same _ _ _ _ (Wr.sub (by decide) hw) ?_
    | with_reducible refine State.answer_same _ _ (Wr.sub (by decide) hw) ?_
    | with_reducible refine State.putEntry_same _ _ _ _ _ _ (Wr.sub (by decide) hw) ?_
    | with_reducible apply Same.ite
    | split
    | (with_reducible apply Same.zeta); split

end Sys2Proof.Machine
end

