-- ==== Sys2Proof/Laws/SameTransport.lean ====
section
/-!
SUPPORT. Which parts of State the operations of Machine/Transport.lean can change (Laws/Same.lean), as bits by the part's number, and that
they leave every other as it was.
-/
namespace Sys2Proof.Machine

set_option linter.unusedTactic false
set_option linter.unreachableTactic false

def State.request_parts : Nat := 0x3ffffea
theorem State.request_same {P : Part} {s0 : State} (s : State) (w : Wing) (init : Nat) (idx : Nat) (sub : Nat) (data :
    Option (List Nat)) (hw : State.request_parts.testBit P.ctorIdx = false) (h : Same P s0 s) :
    Same P s0 (State.request s w init idx sub data) := by
  unfold State.request
  repeat' first
    | with_reducible assumption
    | intro _
    | with_reducible refine State.dictWrite_same _ _ _ _ _ _ (Wr.sub (by decide) hw) ?_
    | with_reducible refine State.askRollCall_same _ _ (Wr.sub (by decide) hw) ?_
    | with_reducible refine State.dictRead_same _ _ _ _ _ (Wr.sub (by decide) hw) ?_
    | with_reducible apply Same.ite
    | split
    | (with_reducible apply Same.zeta); split

def State.attach_parts : Nat := 0x400
theorem State.attach_same {P : Part} {s0 : State} (s : State) (a : Asker) (idx : Nat) (sub : Nat) (data : Option (List
    Nat)) (hw : State.attach_parts.testBit P.ctorIdx = false) (h : Same P s0 s) :
    ∀ t, (State.attach s a idx sub data) = some t → Same P s0 t := by
  have up : ∀ {u : State} {l}, Same P s0 u → Same P s0 { u with dict := l } := fun hu =>
    Same.upd (W := State.attach_parts) hw hu (.inl rfl) (.inl rfl) (.inl rfl) (.inl rfl) (.inl rfl) (.inl rfl) (.inl rfl)
      (.inl rfl) (.inl rfl) (.inr (by decide)) (.inl rfl) (.inl rfl) (.inl rfl) (.inl rfl) (.inl rfl) (.inl rfl) (.inl rfl)
      (.inl rfl) (.inl rfl) (.inl rfl) (.inl rfl) (.inl rfl) (.inl rfl) (.inl rfl) (.inl rfl)
  unfold State.attach
  intro t e
  dsimp only at e
  repeat' split at e
  all_goals first
    | (cases e; done)
    | (cases e; exact h)
    | (cases e; exact up h)
    | (cases e; exact State.modGroup_same _ _ _ (Wr.sub (by decide) hw) h)
    | (obtain ⟨g, -, rfl⟩ := Option.map_eq_some_iff.1 e; exact State.modGroup_same _ _ _ (Wr.sub (by decide) hw) h)

def State.serveFor_parts : Nat := 0x3ffffea
theorem State.serveFor_same {P : Part} {s0 : State} (s : State) (a : Asker) (w : Wing) (init : Nat) (idx : Nat) (sub : Nat)
    (data : Option (List Nat)) (hw : State.serveFor_parts.testBit P.ctorIdx = false) (h : Same P s0 s) :
    Same P s0 (State.serveFor s a w init idx sub data) := by
  unfold State.serveFor
  repeat' first
    | with_reducible assumption
    | intro _
    | with_reducible refine State.request_same _ _ _ _ _ _ (Wr.sub (by decide) hw) ?_
    | with_reducible refine State.answer_same _ _ (Wr.sub (by decide) hw) ?_
    | with_reducible refine State.attach_same _ _ _ _ _ (Wr.sub (by decide) hw) ?_ _ (by assumption)
    | with_reducible refine State.tell_same _ _ _ _ (Wr.sub (by decide) hw) ?_
    | with_reducible apply Same.ite
    | split
    | (with_reducible apply Same.zeta); split

def State.route_parts : Nat := 0x3ffffea
theorem State.route_same {P : Part} {s0 : State} (s : State) (a : Asker) (w : Wing) (init : Nat) (idx : Nat) (sub : Nat)
    (data : Option (List Nat)) (hw : State.route_parts.testBit P.ctorIdx = false) (h : Same P s0 s) :
    Same P s0 (State.route s a w init idx sub data) := by
  unfold State.route
  repeat' first
    | with_reducible assumption
    | intro _
    | with_reducible refine State.serveFor_same _ _ _ _ _ _ _ (Wr.sub (by decide) hw) ?_
    | with_reducible refine State.tell_same _ _ _ _ (Wr.sub (by decide) hw) ?_
    | with_reducible apply Same.ite
    | fail_if_no_progress with_reducible refine Same.updDict (W := State.route_parts) (by decide) hw ?_
    | split
    | (with_reducible apply Same.zeta); split

def execRequestForward_parts : Nat := 0x3ffffea
theorem execRequestForward_same {P : Part} {s0 : State} (s : State) (hw : execRequestForward_parts.testBit P.ctorIdx =
    false) (h : Same P s0 s) :
    SameOut P s0 (execRequestForward s) := by
  unfold execRequestForward
  repeat' first
    | with_reducible assumption
    | with_reducible apply SameOut.next
    | with_reducible apply SameOut.ite
    | intro _
    | with_reducible refine State.tell_same _ _ _ _ (Wr.sub (by decide) hw) ?_
    | with_reducible refine State.serveFor_same _ _ _ _ _ _ _ (Wr.sub (by decide) hw) ?_
    | with_reducible apply Same.ite
    | fail_if_no_progress with_reducible refine Same.updDict (W := execRequestForward_parts) (by decide) hw ?_
    | split
    | dsimp only; split

def State.dropTransfer_parts : Nat := 0x400
theorem State.dropTransfer_same {P : Part} {s0 : State} (s : State) (p : Nat) (src : Nat) (tag : Nat) (hw :
    State.dropTransfer_parts.testBit P.ctorIdx = false) (h : Same P s0 s) :
    Same P s0 (State.dropTransfer s p src tag) := by
  unfold State.dropTransfer
  repeat' first
    | with_reducible assumption
    | intro _
    | fail_if_no_progress with_reducible refine Same.updDict (W := State.dropTransfer_parts) (by decide) hw ?_
    | split
    | (with_reducible apply Same.zeta); split

def State.setTransfer_parts : Nat := 0x400
theorem State.setTransfer_same {P : Part} {s0 : State} (s : State) (t : IdpTransfer) (hw : State.setTransfer_parts.testBit
    P.ctorIdx = false) (h : Same P s0 s) :
    Same P s0 (State.setTransfer s t) := by
  unfold State.setTransfer
  repeat' first
    | with_reducible assumption
    | intro _
    | with_reducible refine State.dropTransfer_same _ _ _ _ (Wr.sub (by decide) hw) ?_
    | fail_if_no_progress with_reducible refine Same.updDict (W := State.setTransfer_parts) (by decide) hw ?_
    | split
    | (with_reducible apply Same.zeta); split

def State.idpAgain_parts : Nat := 0x400
theorem State.idpAgain_same {P : Part} {s0 : State} (s : State) (p : Nat) (src : Nat) (tag : Nat) (hw :
    State.idpAgain_parts.testBit P.ctorIdx = false) (h : Same P s0 s) :
    ∀ t, (State.idpAgain s p src tag) = some t → Same P s0 t := by
  have up : ∀ {u : State} {l}, Same P s0 u → Same P s0 { u with dict := l } := fun hu =>
    Same.upd (W := State.idpAgain_parts) hw hu (.inl rfl) (.inl rfl) (.inl rfl) (.inl rfl) (.inl rfl) (.inl rfl) (.inl rfl)
      (.inl rfl) (.inl rfl) (.inr (by decide)) (.inl rfl) (.inl rfl) (.inl rfl) (.inl rfl) (.inl rfl) (.inl rfl) (.inl rfl)
      (.inl rfl) (.inl rfl) (.inl rfl) (.inl rfl) (.inl rfl) (.inl rfl) (.inl rfl) (.inl rfl)
  unfold State.idpAgain
  intro t e
  dsimp only at e
  repeat' split at e
  all_goals first
    | (cases e; done)
    | (cases e; exact h)
    | (cases e; exact up h)
    | (cases e; exact State.idpAnswer_same _ _ _ _ _ _ (Wr.sub (by decide) hw)
        (State.dropTransfer_same _ _ _ _ (Wr.sub (by decide) hw) h))
    | (obtain ⟨g, -, rfl⟩ := Option.map_eq_some_iff.1 e; exact up h)

def State.idpSegment_parts : Nat := 0x400
theorem State.idpSegment_same {P : Part} {s0 : State} (s : State) (t : IdpTransfer) (offset : Nat) (hw :
    State.idpSegment_parts.testBit P.ctorIdx = false) (h : Same P s0 s) :
    Same P s0 (State.idpSegment s t offset) := by
  unfold State.idpSegment
  repeat' first
    | with_reducible assumption
    | intro _
    | with_reducible refine State.setTransfer_same _ _ (Wr.sub (by decide) hw) ?_
    | fail_if_no_progress with_reducible refine Same.updDict (W := State.idpSegment_parts) (by decide) hw ?_
    | split
    | (with_reducible apply Same.zeta); split

def execIdpRead_parts : Nat := 0x3ffffea
theorem execIdpRead_same {P : Part} {s0 : State} (p : Nat) (source : Nat) (udp : Nat) (head : IdpHead) (s : State) (hw :
    execIdpRead_parts.testBit P.ctorIdx = false) (h : Same P s0 s) :
    SameOut P s0 (execIdpRead p source udp head s) := by
  unfold execIdpRead
  repeat' first
    | with_reducible assumption
    | with_reducible apply SameOut.next
    | with_reducible apply SameOut.ite
    | intro _
    | with_reducible refine State.idpAgain_same _ _ _ _ (Wr.sub (by decide) hw) ?_ _ (by assumption)
    | with_reducible refine State.idpAnswer_same _ _ _ _ _ _ (Wr.sub (by decide) hw) ?_
    | with_reducible refine State.dropTransfer_same _ _ _ _ (Wr.sub (by decide) hw) ?_
    | with_reducible refine State.idpSegment_same _ _ _ (Wr.sub (by decide) hw) ?_
    | with_reducible refine State.route_same _ _ _ _ _ _ _ (Wr.sub (by decide) hw) ?_
    | with_reducible apply Same.ite
    | split
    | dsimp only; split

def State.idpTaken_parts : Nat := 0x3ffffea
theorem State.idpTaken_same {P : Part} {s0 : State} (s : State) (w : Wing) (t : IdpTransfer) (hw :
    State.idpTaken_parts.testBit P.ctorIdx = false) (h : Same P s0 s) :
    Same P s0 (State.idpTaken s w t) := by
  unfold State.idpTaken
  repeat' first
    | with_reducible assumption
    | intro _
    | with_reducible refine State.dropTransfer_same _ _ _ _ (Wr.sub (by decide) hw) ?_
    | with_reducible refine State.route_same _ _ _ _ _ _ _ (Wr.sub (by decide) hw) ?_
    | with_reducible refine State.idpAnswer_same _ _ _ _ _ _ (Wr.sub (by decide) hw) ?_
    | with_reducible refine State.setTransfer_same _ _ (Wr.sub (by decide) hw) ?_
    | with_reducible apply Same.ite
    | split
    | (with_reducible apply Same.zeta); split

def execIdpWrite_parts : Nat := 0x3ffffea
theorem execIdpWrite_same {P : Part} {s0 : State} (p : Nat) (source : Nat) (udp : Nat) (head : IdpHead) (payload : List
    Nat) (s : State) (hw : execIdpWrite_parts.testBit P.ctorIdx = false) (h : Same P s0 s) :
    SameOut P s0 (execIdpWrite p source udp head payload s) := by
  unfold execIdpWrite
  repeat' first
    | with_reducible assumption
    | with_reducible apply SameOut.next
    | with_reducible apply SameOut.ite
    | intro _
    | with_reducible refine State.idpAgain_same _ _ _ _ (Wr.sub (by decide) hw) ?_ _ (by assumption)
    | with_reducible refine State.idpAnswer_same _ _ _ _ _ _ (Wr.sub (by decide) hw) ?_
    | with_reducible refine State.dropTransfer_same _ _ _ _ (Wr.sub (by decide) hw) ?_
    | with_reducible refine State.idpTaken_same _ _ _ (Wr.sub (by decide) hw) ?_
    | with_reducible apply Same.ite
    | split
    | dsimp only; split

def execIdpTransferTimeout_parts : Nat := 0x400
theorem execIdpTransferTimeout_same {P : Part} {s0 : State} (p : Nat) (source : Nat) (tag : Nat) (s : State) (hw :
    execIdpTransferTimeout_parts.testBit P.ctorIdx = false) (h : Same P s0 s) :
    SameOut P s0 (execIdpTransferTimeout p source tag s) := by
  unfold execIdpTransferTimeout
  repeat' first
    | with_reducible assumption
    | with_reducible apply SameOut.next
    | with_reducible apply SameOut.ite
    | intro _
    | with_reducible refine State.dropTransfer_same _ _ _ _ (Wr.sub (by decide) hw) ?_
    | with_reducible refine State.idpAnswer_same _ _ _ _ _ _ (Wr.sub (by decide) hw) ?_
    | with_reducible apply Same.ite
    | split
    | dsimp only; split

def State.dropSession_parts : Nat := 0x400
theorem State.dropSession_same {P : Part} {s0 : State} (s : State) (p : Nat) (client : Nat) (hw :
    State.dropSession_parts.testBit P.ctorIdx = false) (h : Same P s0 s) :
    Same P s0 (State.dropSession s p client) := by
  unfold State.dropSession
  repeat' first
    | with_reducible assumption
    | intro _
    | fail_if_no_progress with_reducible refine Same.updDict (W := State.dropSession_parts) (by decide) hw ?_
    | split
    | (with_reducible apply Same.zeta); split

def State.abortSession_parts : Nat := 0x400
theorem State.abortSession_same {P : Part} {s0 : State} (s : State) (p : Nat) (client : Nat) (code : Nat) (hw :
    State.abortSession_parts.testBit P.ctorIdx = false) (h : Same P s0 s) :
    Same P s0 (State.abortSession s p client code) := by
  unfold State.abortSession
  repeat' first
    | with_reducible assumption
    | intro _
    | with_reducible refine State.dropSession_same _ _ _ (Wr.sub (by decide) hw) ?_
    | fail_if_no_progress with_reducible refine Same.updDict (W := State.abortSession_parts) (by decide) hw ?_
    | split
    | (with_reducible apply Same.zeta); split

def State.startSession_parts : Nat := 0x400
theorem State.startSession_same {P : Part} {s0 : State} (s : State) (u : UsdoSession) (f : State → State) (hw :
    State.startSession_parts.testBit P.ctorIdx = false) (h : Same P s0 s) (hf : ∀ t, Same P s0 t → Same P s0 (f t)) :
    Same P s0 (State.startSession s u f) := by
  unfold State.startSession
  repeat' first
    | with_reducible assumption
    | intro _
    | with_reducible refine State.dropSession_same _ _ _ (Wr.sub (by decide) hw) ?_
    | with_reducible refine State.abortSession_same _ _ _ _ (Wr.sub (by decide) hw) ?_
    | with_reducible apply Same.ite
    | with_reducible apply hf
    | fail_if_no_progress with_reducible refine Same.updDict (W := State.startSession_parts) (by decide) hw ?_
    | split
    | (with_reducible apply Same.zeta); split

def State.setSession_parts : Nat := 0x400
theorem State.setSession_same {P : Part} {s0 : State} (s : State) (u : UsdoSession) (hw : State.setSession_parts.testBit
    P.ctorIdx = false) (h : Same P s0 s) :
    Same P s0 (State.setSession s u) := by
  unfold State.setSession
  repeat' first
    | with_reducible assumption
    | intro _
    | with_reducible refine State.dropSession_same _ _ _ (Wr.sub (by decide) hw) ?_
    | fail_if_no_progress with_reducible refine Same.updDict (W := State.setSession_parts) (by decide) hw ?_
    | split
    | (with_reducible apply Same.zeta); split

def State.usdoFrame_parts : Nat := 0x3ffffea
theorem State.usdoFrame_same {P : Part} {s0 : State} (s : State) (p : Nat) (client : Nat) (f : UsdoFrame) (hw :
    State.usdoFrame_parts.testBit P.ctorIdx = false) (h : Same P s0 s) :
    Same P s0 (State.usdoFrame s p client f) := by
  unfold State.usdoFrame
  repeat' first
    | with_reducible assumption
    | unfold id; with_reducible assumption
    | intro _
    | with_reducible refine State.route_same _ _ _ _ _ _ _ (Wr.sub (by decide) hw) ?_
    | with_reducible refine State.abortSession_same _ _ _ _ (Wr.sub (by decide) hw) ?_
    | with_reducible refine State.startSession_same _ _ _ (Wr.sub (by decide) hw) ?_ ?_
    | with_reducible refine State.setSession_same _ _ (Wr.sub (by decide) hw) ?_
    | with_reducible refine State.dropSession_same _ _ _ (Wr.sub (by decide) hw) ?_
    | with_reducible apply Same.ite
    | fail_if_no_progress with_reducible refine Same.updDict (W := State.usdoFrame_parts) (by decide) hw ?_
    | split
    | (with_reducible apply Same.zeta); split

def execUsdoTransfer_parts : Nat := 0x3ffffea
theorem execUsdoTransfer_same {P : Part} {s0 : State} (p : Nat) (client : Nat) (frame : UsdoFrame) (s : State) (hw :
    execUsdoTransfer_parts.testBit P.ctorIdx = false) (h : Same P s0 s) :
    SameOut P s0 (execUsdoTransfer p client frame s) := by
  unfold execUsdoTransfer
  repeat' first
    | with_reducible assumption
    | with_reducible apply SameOut.next
    | with_reducible apply SameOut.ite
    | intro _
    | with_reducible refine State.abortSession_same _ _ _ _ (Wr.sub (by decide) hw) ?_
    | with_reducible refine State.usdoFrame_same _ _ _ _ (Wr.sub (by decide) hw) ?_
    | with_reducible apply Same.ite
    | split
    | dsimp only; split

def execUsdoSessionTimeout_parts : Nat := 0x400
theorem execUsdoSessionTimeout_same {P : Part} {s0 : State} (p : Nat) (client : Nat) (s : State) (hw :
    execUsdoSessionTimeout_parts.testBit P.ctorIdx = false) (h : Same P s0 s) :
    SameOut P s0 (execUsdoSessionTimeout p client s) := by
  unfold execUsdoSessionTimeout
  repeat' first
    | with_reducible assumption
    | with_reducible apply SameOut.next
    | with_reducible apply SameOut.ite
    | intro _
    | with_reducible refine State.abortSession_same _ _ _ _ (Wr.sub (by decide) hw) ?_
    | with_reducible apply Same.ite
    | split
    | dsimp only; split

def State.groupEntry_parts : Nat := 0x3ffffea
theorem State.groupEntry_same {P : Part} {s0 : State} (s : State) (w : Wing) (init : Nat) (g : Nat) (cmd : Nat) (hw :
    State.groupEntry_parts.testBit P.ctorIdx = false) (h : Same P s0 s) :
    Same P s0 (State.groupEntry s w init g cmd) := by
  unfold State.groupEntry
  repeat' first
    | with_reducible assumption
    | intro _
    | with_reducible refine State.dictWrite_same _ _ _ _ _ _ (Wr.sub (by decide) hw) ?_
    | with_reducible refine State.answer_same _ _ (Wr.sub (by decide) hw) ?_
    | with_reducible apply Same.ite
    | split
    | (with_reducible apply Same.zeta); split

def execGroupEnter_parts : Nat := 0x3ffffea
theorem execGroupEnter_same {P : Part} {s0 : State} (w : Wing) (init : Nat) (g : Nat) (s : State) (hw :
    execGroupEnter_parts.testBit P.ctorIdx = false) (h : Same P s0 s) :
    SameOut P s0 (execGroupEnter w init g s) := by
  unfold execGroupEnter
  repeat' first
    | with_reducible assumption
    | with_reducible apply SameOut.next
    | intro _
    | with_reducible refine State.groupEntry_same _ _ _ _ _ (Wr.sub (by decide) hw) ?_
    | split
    | dsimp only; split

def execGroupRestart_parts : Nat := 0x3ffffea
theorem execGroupRestart_same {P : Part} {s0 : State} (w : Wing) (init : Nat) (g : Nat) (s : State) (hw :
    execGroupRestart_parts.testBit P.ctorIdx = false) (h : Same P s0 s) :
    SameOut P s0 (execGroupRestart w init g s) := by
  unfold execGroupRestart
  repeat' first
    | with_reducible assumption
    | with_reducible apply SameOut.next
    | intro _
    | with_reducible refine State.groupEntry_same _ _ _ _ _ (Wr.sub (by decide) hw) ?_
    | split
    | dsimp only; split

def execGroupRestore_parts : Nat := 0x3ffffea
theorem execGroupRestore_same {P : Part} {s0 : State} (w : Wing) (init : Nat) (g : Nat) (s : State) (hw :
    execGroupRestore_parts.testBit P.ctorIdx = false) (h : Same P s0 s) :
    SameOut P s0 (execGroupRestore w init g s) := by
  unfold execGroupRestore
  repeat' first
    | with_reducible assumption
    | with_reducible apply SameOut.next
    | intro _
    | with_reducible refine State.groupEntry_same _ _ _ _ _ (Wr.sub (by decide) hw) ?_
    | split
    | dsimp only; split

def execJointRestart_parts : Nat := 0x3ffffea
theorem execJointRestart_same {P : Part} {s0 : State} (w : Wing) (init : Nat) (mask : Nat) (s : State) (hw :
    execJointRestart_parts.testBit P.ctorIdx = false) (h : Same P s0 s) :
    SameOut P s0 (execJointRestart w init mask s) := by
  unfold execJointRestart
  repeat' first
    | with_reducible assumption
    | with_reducible apply SameOut.next
    | intro _
    | with_reducible refine State.dictWrite_same _ _ _ _ _ _ (Wr.sub (by decide) hw) ?_
    | split
    | dsimp only; split

def execStoreParameters_parts : Nat := 0x3ffffea
theorem execStoreParameters_same {P : Part} {s0 : State} (w : Wing) (init : Nat) (value : Nat) (s : State) (hw :
    execStoreParameters_parts.testBit P.ctorIdx = false) (h : Same P s0 s) :
    SameOut P s0 (execStoreParameters w init value s) := by
  unfold execStoreParameters
  repeat' first
    | with_reducible assumption
    | with_reducible apply SameOut.next
    | intro _
    | with_reducible refine State.dictWrite_same _ _ _ _ _ _ (Wr.sub (by decide) hw) ?_
    | split
    | dsimp only; split

def execRestoreDefaults_parts : Nat := 0x3ffffea
theorem execRestoreDefaults_same {P : Part} {s0 : State} (w : Wing) (init : Nat) (value : Nat) (s : State) (hw :
    execRestoreDefaults_parts.testBit P.ctorIdx = false) (h : Same P s0 s) :
    SameOut P s0 (execRestoreDefaults w init value s) := by
  unfold execRestoreDefaults
  repeat' first
    | with_reducible assumption
    | with_reducible apply SameOut.next
    | intro _
    | with_reducible refine State.dictWrite_same _ _ _ _ _ _ (Wr.sub (by decide) hw) ?_
    | split
    | dsimp only; split

def execRollCall_parts : Nat := 0x3ffffea
theorem execRollCall_same {P : Part} {s0 : State} (w : Wing) (init : Nat) (s : State) (hw : execRollCall_parts.testBit
    P.ctorIdx = false) (h : Same P s0 s) :
    SameOut P s0 (execRollCall w init s) := by
  unfold execRollCall
  repeat' first
    | with_reducible assumption
    | with_reducible apply SameOut.next
    | intro _
    | with_reducible refine State.request_same _ _ _ _ _ _ (Wr.sub (by decide) hw) ?_
    | with_reducible refine State.answer_same _ _ (Wr.sub (by decide) hw) ?_
    | split
    | dsimp only; split

def execDescriptionRequest_parts : Nat := 0x3ffffea
theorem execDescriptionRequest_same {P : Part} {s0 : State} (w : Wing) (init : Nat) (value : Nat) (s : State) (hw :
    execDescriptionRequest_parts.testBit P.ctorIdx = false) (h : Same P s0 s) :
    SameOut P s0 (execDescriptionRequest w init value s) := by
  unfold execDescriptionRequest
  repeat' first
    | with_reducible assumption
    | with_reducible apply SameOut.next
    | intro _
    | with_reducible refine State.dictWrite_same _ _ _ _ _ _ (Wr.sub (by decide) hw) ?_
    | split
    | dsimp only; split

def execDescriptionRead_parts : Nat := 0x800f02
theorem execDescriptionRead_same {P : Part} {s0 : State} (w : Wing) (init : Nat) (s : State) (hw :
    execDescriptionRead_parts.testBit P.ctorIdx = false) (h : Same P s0 s) :
    SameOut P s0 (execDescriptionRead w init s) := by
  unfold execDescriptionRead
  repeat' first
    | with_reducible assumption
    | with_reducible apply SameOut.next
    | intro _
    | with_reducible refine State.dictRead_same _ _ _ _ _ (Wr.sub (by decide) hw) ?_
    | split
    | dsimp only; split

def execProgramDownload_parts : Nat := 0x3ffffea
theorem execProgramDownload_same {P : Part} {s0 : State} (w : Wing) (init : Nat) (data : List Nat) (s : State) (hw :
    execProgramDownload_parts.testBit P.ctorIdx = false) (h : Same P s0 s) :
    SameOut P s0 (execProgramDownload w init data s) := by
  unfold execProgramDownload
  repeat' first
    | with_reducible assumption
    | with_reducible apply SameOut.next
    | intro _
    | with_reducible refine State.dictWrite_same _ _ _ _ _ _ (Wr.sub (by decide) hw) ?_
    | split
    | dsimp only; split

def execImageSlotWrite_parts : Nat := 0x3ffffea
theorem execImageSlotWrite_same {P : Part} {s0 : State} (w : Wing) (init : Nat) (slot : Nat) (data : List Nat) (s : State)
    (hw : execImageSlotWrite_parts.testBit P.ctorIdx = false) (h : Same P s0 s) :
    SameOut P s0 (execImageSlotWrite w init slot data s) := by
  unfold execImageSlotWrite
  repeat' first
    | with_reducible assumption
    | with_reducible apply SameOut.next
    | with_reducible apply SameOut.ite
    | intro _
    | with_reducible refine State.dictWrite_same _ _ _ _ _ _ (Wr.sub (by decide) hw) ?_
    | with_reducible apply Same.ite
    | split
    | dsimp only; split

def execSeedRequest_parts : Nat := 0x3ffffea
theorem execSeedRequest_same {P : Part} {s0 : State} (w : Wing) (init : Nat) (value : Nat) (s : State) (hw :
    execSeedRequest_parts.testBit P.ctorIdx = false) (h : Same P s0 s) :
    SameOut P s0 (execSeedRequest w init value s) := by
  unfold execSeedRequest
  repeat' first
    | with_reducible assumption
    | with_reducible apply SameOut.next
    | intro _
    | with_reducible refine State.dictWrite_same _ _ _ _ _ _ (Wr.sub (by decide) hw) ?_
    | split
    | dsimp only; split

end Sys2Proof.Machine
end

