-- ==== Sys2Proof/Laws/SameValidate.lean ====
section
/-!
SUPPORT. Which parts of State the operations of Machine/Validate.lean can change (Laws/Same.lean), as bits by the part's number, and that
they leave every other as it was.
-/
namespace Sys2Proof.Machine

set_option linter.unusedTactic false
set_option linter.unreachableTactic false

def State.proposed_parts : Nat := 0x400402
theorem State.proposed_same {P : Part} {s0 : State} (s : State) (gs : List Nat) (hw : State.proposed_parts.testBit
    P.ctorIdx = false) (h : Same P s0 s) :
    Same P s0 (State.proposed s gs) := by
  unfold State.proposed
  repeat' first
    | with_reducible assumption
    | intro _
    | with_reducible refine State.setAll_same _ _ (Wr.sub (by decide) hw) ?_
    | with_reducible refine State.setEngWord_same _ _ _ _ (Wr.sub (by decide) hw) ?_
    | with_reducible refine State.setVar_same _ _ _ _ (Wr.sub (by decide) hw) ?_
    | with_reducible apply Same.each
    | with_reducible apply Same.ite
    | split
    | (with_reducible apply Same.zeta); split

def State.showBounds_parts : Nat := 0x400402
theorem State.showBounds_same {P : Part} {s0 : State} (s : State) (gs : List Nat) (hw : State.showBounds_parts.testBit
    P.ctorIdx = false) (h : Same P s0 s) :
    Same P s0 (State.showBounds s gs) := by
  unfold State.showBounds
  repeat' first
    | with_reducible assumption
    | intro _
    | with_reducible refine State.proposed_same _ _ (Wr.sub (by decide) hw) ?_
    | with_reducible refine State.setFld_same _ _ _ _ (Wr.sub (by decide) hw) ?_
    | with_reducible apply Same.each
    | split
    | (with_reducible apply Same.zeta); split

def State.validated_parts : Nat := 0x400e22
theorem State.validated_same {P : Part} {s0 : State} (s : State) (gs : List Nat) (joint : Option Nat) (hw :
    State.validated_parts.testBit P.ctorIdx = false) (h : Same P s0 s) :
    Same P s0 (State.validated s gs joint) := by
  unfold State.validated
  repeat' first
    | with_reducible assumption
    | intro _
    | with_reducible refine State.showBounds_same _ _ (Wr.sub (by decide) hw) ?_
    | with_reducible refine State.modGroup_same _ _ _ (Wr.sub (by decide) hw) ?_
    | with_reducible refine State.requestApply_same _ _ _ _ (Wr.sub (by decide) hw) ?_
    | with_reducible refine State.mgmtEvent_same _ _ _ _ _ (Wr.sub (by decide) hw) ?_
    | with_reducible refine State.answer_same _ _ (Wr.sub (by decide) hw) ?_
    | with_reducible refine State.tellAskers_same _ _ (Wr.sub (by decide) hw) ?_
    | with_reducible apply Same.whenIf
    | with_reducible apply Same.each
    | with_reducible apply Same.ite
    | fail_if_no_progress with_reducible refine Same.updDict (W := State.validated_parts) (by decide) hw ?_
    | split
    | (with_reducible apply Same.zeta); split

def execValidationComplete_parts : Nat := 0x400e22
theorem execValidationComplete_same {P : Part} {s0 : State} (g : Nat) (s : State) (hw :
    execValidationComplete_parts.testBit P.ctorIdx = false) (h : Same P s0 s) :
    SameOut P s0 (execValidationComplete g s) := by
  unfold execValidationComplete
  repeat' first
    | with_reducible assumption
    | with_reducible apply SameOut.next
    | with_reducible apply SameOut.ite
    | intro _
    | with_reducible refine State.validated_same _ _ _ (Wr.sub (by decide) hw) ?_
    | with_reducible apply Same.ite
    | split
    | dsimp only; split

def State.restoreShadows_parts : Nat := 0x2
theorem State.restoreShadows_same {P : Part} {s0 : State} (s : State) (p : Snapshot) (hw :
    State.restoreShadows_parts.testBit P.ctorIdx = false) (h : Same P s0 s) :
    Same P s0 (State.restoreShadows s p) := by
  unfold State.restoreShadows
  repeat' first
    | with_reducible assumption
    | intro _
    | with_reducible refine State.setFld_same _ _ _ _ (Wr.sub (by decide) hw) ?_
    | with_reducible apply Same.each
    | split
    | (with_reducible apply Same.zeta); split

def State.seed_parts : Nat := 0x410c02
theorem State.seed_same {P : Part} {s0 : State} (s : State) (w : Wing) (hw : State.seed_parts.testBit P.ctorIdx = false) (h
    : Same P s0 s) :
    Same P s0 (State.seed s w) := by
  unfold State.seed
  repeat' first
    | with_reducible assumption
    | intro _
    | with_reducible refine State.setFirst_same _ _ _ (Wr.sub (by decide) hw) ?_
    | with_reducible refine State.restoreShadows_same _ _ (Wr.sub (by decide) hw) ?_
    | with_reducible refine State.restore_same _ _ _ _ (Wr.sub (by decide) hw) ?_
    | with_reducible apply Same.ite
    | fail_if_no_progress with_reducible refine Same.updDict (W := State.seed_parts) (by decide) hw ?_
    | split
    | (with_reducible apply Same.zeta); split

def execSeedComplete_parts : Nat := 0x410c02
theorem execSeedComplete_same {P : Part} {s0 : State} (s : State) (hw : execSeedComplete_parts.testBit P.ctorIdx = false)
    (h : Same P s0 s) :
    SameOut P s0 (execSeedComplete s) := by
  unfold execSeedComplete
  repeat' first
    | with_reducible assumption
    | with_reducible apply SameOut.next
    | intro _
    | with_reducible refine State.seed_same _ _ (Wr.sub (by decide) hw) ?_
    | with_reducible refine State.tell_same _ _ _ _ (Wr.sub (by decide) hw) ?_
    | with_reducible apply Same.each
    | fail_if_no_progress with_reducible refine Same.updDict (W := execSeedComplete_parts) (by decide) hw ?_
    | split
    | dsimp only; split

end Sys2Proof.Machine
end

