-- ==== Sys2Proof/Laws/SameTutor.lean ====
section
/-!
SUPPORT. Which parts of State the operations of Machine/Tutor.lean can change (Laws/Same.lean), as bits by the part's number, and that
they leave every other as it was.
-/
namespace Sys2Proof.Machine

set_option linter.unusedTactic false
set_option linter.unreachableTactic false

def execInterruptClaim_parts : Nat := 0x802
theorem execInterruptClaim_same {P : Part} {s0 : State} (core : Nat) (s : State) (hw : execInterruptClaim_parts.testBit
    P.ctorIdx = false) (h : Same P s0 s) :
    SameOut P s0 (execInterruptClaim core s) := by
  unfold execInterruptClaim
  repeat' first
    | with_reducible assumption
    | with_reducible apply SameOut.next
    | with_reducible apply SameOut.ite
    | intro _
    | with_reducible refine State.coreActs_same _ _ _ ?_ ?_
    | with_reducible refine State.reads_same _ _ (Wr.sub (by decide) hw) ?_
    | with_reducible refine State.setBit_same _ _ _ _ _ (Wr.sub (by decide) hw) ?_
    | with_reducible apply Same.ite
    | fail_if_no_progress with_reducible refine Same.updTut (W := execInterruptClaim_parts) (by decide) hw ?_
    | split
    | dsimp only; split

def execInterruptComplete_parts : Nat := 0x800
theorem execInterruptComplete_same {P : Part} {s0 : State} (core : Nat) (src : Nat) (s : State) (hw :
    execInterruptComplete_parts.testBit P.ctorIdx = false) (h : Same P s0 s) :
    SameOut P s0 (execInterruptComplete core src s) := by
  unfold execInterruptComplete
  repeat' first
    | with_reducible assumption
    | with_reducible apply SameOut.next
    | intro _
    | with_reducible refine State.coreActs_same _ _ _ ?_ ?_
    | with_reducible refine State.claimEnds_same _ _ _ (Wr.sub (by decide) hw) ?_
    | split
    | dsimp only; split

def execMachineTimer_parts : Nat := 0x800
theorem execMachineTimer_same {P : Part} {s0 : State} (core : Nat) (s : State) (hw : execMachineTimer_parts.testBit
    P.ctorIdx = false) (h : Same P s0 s) :
    SameOut P s0 (execMachineTimer core s) := by
  unfold execMachineTimer
  repeat' first
    | with_reducible assumption
    | with_reducible apply SameOut.next
    | intro _
    | with_reducible refine State.timerCheck_same _ _ (Wr.sub (by decide) hw) ?_
    | split
    | dsimp only; split

def execTutMtcmplWrite_parts : Nat := 0x800
theorem execTutMtcmplWrite_same {P : Part} {s0 : State} (core : Nat) (value : Nat) (s : State) (hw :
    execTutMtcmplWrite_parts.testBit P.ctorIdx = false) (h : Same P s0 s) :
    SameOut P s0 (execTutMtcmplWrite core value s) := by
  unfold execTutMtcmplWrite
  repeat' first
    | with_reducible assumption
    | with_reducible apply SameOut.next
    | intro _
    | with_reducible refine State.coreActs_same _ _ _ ?_ ?_
    | with_reducible refine State.mtcmpLow_same _ _ _ (Wr.sub (by decide) hw) ?_
    | split
    | dsimp only; split

def execTutMtcmphWrite_parts : Nat := 0x802
theorem execTutMtcmphWrite_same {P : Part} {s0 : State} (core : Nat) (value : Nat) (s : State) (hw :
    execTutMtcmphWrite_parts.testBit P.ctorIdx = false) (h : Same P s0 s) :
    SameOut P s0 (execTutMtcmphWrite core value s) := by
  unfold execTutMtcmphWrite
  repeat' first
    | with_reducible assumption
    | with_reducible apply SameOut.next
    | intro _
    | with_reducible refine State.coreActs_same _ _ _ ?_ ?_
    | with_reducible refine State.mtcmpHigh_same _ _ _ (Wr.sub (by decide) hw) ?_
    | split
    | dsimp only; split

def execWfi_parts : Nat := 0x800
theorem execWfi_same {P : Part} {s0 : State} (core : Nat) (s : State) (hw : execWfi_parts.testBit P.ctorIdx = false) (h :
    Same P s0 s) :
    SameOut P s0 (execWfi core s) := by
  unfold execWfi
  repeat' first
    | with_reducible assumption
    | with_reducible apply SameOut.next
    | with_reducible apply SameOut.ite
    | intro _
    | with_reducible refine State.coreActs_same _ _ _ ?_ ?_
    | with_reducible apply Same.ite
    | fail_if_no_progress with_reducible refine Same.updTut (W := execWfi_parts) (by decide) hw ?_
    | split
    | dsimp only; split

def State.gatewayGo_parts : Nat := 0xe22
theorem State.gatewayGo_same {P : Part} {s0 : State} (s : State) (core : Nat) (op : Nat) (ien : Bool) (hw :
    State.gatewayGo_parts.testBit P.ctorIdx = false) (h : Same P s0 s) :
    Same P s0 (State.gatewayGo s core op ien) := by
  unfold State.gatewayGo
  repeat' first
    | with_reducible assumption
    | intro _
    | with_reducible refine State.discarded_same _ _ _ (Wr.sub (by decide) hw) ?_
    | with_reducible refine State.setFld_same _ _ _ _ (Wr.sub (by decide) hw) ?_
    | with_reducible refine State.setFlag_same _ _ _ _ (Wr.sub (by decide) hw) ?_
    | with_reducible refine State.askRollCall_same _ _ (Wr.sub (by decide) hw) ?_
    | with_reducible apply Same.whenIf
    | with_reducible apply Same.ite
    | split
    | (with_reducible apply Same.zeta); split

def execGatewayRead_parts : Nat := 0xe22
theorem execGatewayRead_same {P : Part} {s0 : State} (core : Nat) (ien : Bool) (s : State) (hw :
    execGatewayRead_parts.testBit P.ctorIdx = false) (h : Same P s0 s) :
    SameOut P s0 (execGatewayRead core ien s) := by
  unfold execGatewayRead
  repeat' first
    | with_reducible assumption
    | with_reducible apply SameOut.next
    | intro _
    | with_reducible refine State.coreActs_same _ _ _ ?_ ?_
    | with_reducible refine State.gatewayGo_same _ _ _ _ (Wr.sub (by decide) hw) ?_
    | split
    | dsimp only; split

def execGatewayWrite_parts : Nat := 0xe22
theorem execGatewayWrite_same {P : Part} {s0 : State} (core : Nat) (ien : Bool) (s : State) (hw :
    execGatewayWrite_parts.testBit P.ctorIdx = false) (h : Same P s0 s) :
    SameOut P s0 (execGatewayWrite core ien s) := by
  unfold execGatewayWrite
  repeat' first
    | with_reducible assumption
    | with_reducible apply SameOut.next
    | intro _
    | with_reducible refine State.coreActs_same _ _ _ ?_ ?_
    | with_reducible refine State.gatewayGo_same _ _ _ _ (Wr.sub (by decide) hw) ?_
    | split
    | dsimp only; split

def State.gatewayFails_parts : Nat := 0xb02
theorem State.gatewayFails_same {P : Part} {s0 : State} (s : State) (core : Nat) (code : Nat) (hw :
    State.gatewayFails_parts.testBit P.ctorIdx = false) (h : Same P s0 s) :
    Same P s0 (State.gatewayFails s core code) := by
  unfold State.gatewayFails
  repeat' first
    | with_reducible assumption
    | intro _
    | with_reducible refine State.violation_same _ _ _ (Wr.sub (by decide) hw) ?_
    | with_reducible refine State.endGateway_same _ _ _ (Wr.sub (by decide) hw) ?_
    | with_reducible apply Same.whenIf
    | split
    | (with_reducible apply Same.zeta); split

def State.gatewayPlace_parts : Nat := 0x11b02
theorem State.gatewayPlace_same {P : Part} {s0 : State} (s : State) (core : Nat) (data : List Nat) (hw :
    State.gatewayPlace_parts.testBit P.ctorIdx = false) (h : Same P s0 s) :
    Same P s0 (State.gatewayPlace s core data) := by
  unfold State.gatewayPlace
  repeat' first
    | with_reducible assumption
    | intro _
    | with_reducible refine State.gatewayFails_same _ _ _ (Wr.sub (by decide) hw) ?_
    | with_reducible refine State.corePlace_same _ _ _ _ (Wr.sub (by decide) hw) ?_
    | (with_reducible refine Same.snd ?_ (by assumption)); with_reducible refine State.corePlace_same _ _ _ _ (Wr.sub (by decide) hw) ?_
    | with_reducible refine State.endGateway_same _ _ _ (Wr.sub (by decide) hw) ?_
    | with_reducible refine State.setFld_same _ _ _ _ (Wr.sub (by decide) hw) ?_
    | with_reducible apply Same.ite
    | split
    | (with_reducible apply Same.zeta); split

def State.gatewayReads_parts : Nat := 0x811f02
theorem State.gatewayReads_same {P : Part} {s0 : State} (s : State) (core : Nat) (idx : Nat) (sub : Nat) (hw :
    State.gatewayReads_parts.testBit P.ctorIdx = false) (h : Same P s0 s) :
    Same P s0 (State.gatewayReads s core idx sub) := by
  unfold State.gatewayReads
  repeat' first
    | with_reducible assumption
    | intro _
    | with_reducible refine State.endGateway_same _ _ _ (Wr.sub (by decide) hw) ?_
    | with_reducible refine State.gatewayPlace_same _ _ _ (Wr.sub (by decide) hw) ?_
    | with_reducible refine State.dictRead_same _ _ _ _ _ (Wr.sub (by decide) hw) ?_
    | with_reducible refine State.answer_same _ _ (Wr.sub (by decide) hw) ?_
    | with_reducible apply Same.ite
    | split
    | (with_reducible apply Same.zeta); split

def State.gatewayWrites_parts : Nat := 0x3ffffea
theorem State.gatewayWrites_same {P : Part} {s0 : State} (s : State) (core : Nat) (idx : Nat) (sub : Nat) (hw :
    State.gatewayWrites_parts.testBit P.ctorIdx = false) (h : Same P s0 s) :
    Same P s0 (State.gatewayWrites s core idx sub) := by
  unfold State.gatewayWrites
  repeat' first
    | with_reducible assumption
    | intro _
    | with_reducible refine State.endGateway_same _ _ _ (Wr.sub (by decide) hw) ?_
    | with_reducible refine State.gatewayFails_same _ _ _ (Wr.sub (by decide) hw) ?_
    | with_reducible refine State.request_same _ _ _ _ _ _ (Wr.sub (by decide) hw) ?_
    | with_reducible refine State.answer_same _ _ (Wr.sub (by decide) hw) ?_
    | with_reducible refine State.attach_same _ _ _ _ _ (Wr.sub (by decide) hw) ?_ _ (by assumption)
    | with_reducible apply Same.ite
    | split
    | (with_reducible apply Same.zeta); split

def execGatewayDone_parts : Nat := 0x3ffffea
theorem execGatewayDone_same {P : Part} {s0 : State} (core : Nat) (s : State) (hw : execGatewayDone_parts.testBit P.ctorIdx
    = false) (h : Same P s0 s) :
    SameOut P s0 (execGatewayDone core s) := by
  unfold execGatewayDone
  repeat' first
    | with_reducible assumption
    | with_reducible apply SameOut.next
    | with_reducible apply SameOut.ite
    | intro _
    | with_reducible refine State.gatewayReads_same _ _ _ _ (Wr.sub (by decide) hw) ?_
    | with_reducible refine State.gatewayWrites_same _ _ _ _ (Wr.sub (by decide) hw) ?_
    | with_reducible apply Same.ite
    | split
    | dsimp only; split

def State.tap_parts : Nat := 0x800
theorem State.tap_same {P : Part} {s0 : State} (s : State) (ir : Nat) (dr : Nat) (hw : State.tap_parts.testBit P.ctorIdx =
    false) (h : Same P s0 s) :
    Same P s0 (State.tap s ir dr) := by
  unfold State.tap
  repeat' first
    | with_reducible assumption
    | intro _
    | with_reducible apply Same.ite
    | fail_if_no_progress with_reducible refine Same.updTut (W := State.tap_parts) (by decide) hw ?_
    | split
    | (with_reducible apply Same.zeta); split

def execTapReset_parts : Nat := 0x800
theorem execTapReset_same {P : Part} {s0 : State} (s : State) (hw : execTapReset_parts.testBit P.ctorIdx = false) (h : Same
    P s0 s) :
    SameOut P s0 (execTapReset s) := by
  unfold execTapReset
  repeat' first
    | with_reducible assumption
    | with_reducible apply SameOut.next
    | intro _
    | with_reducible refine State.tap_same _ _ _ (Wr.sub (by decide) hw) ?_
    | split
    | dsimp only; split

def execIdcode_parts : Nat := 0x800
theorem execIdcode_same {P : Part} {s0 : State} (s : State) (hw : execIdcode_parts.testBit P.ctorIdx = false) (h : Same P
    s0 s) :
    SameOut P s0 (execIdcode s) := by
  unfold execIdcode
  repeat' first
    | with_reducible assumption
    | with_reducible apply SameOut.next
    | intro _
    | with_reducible refine State.tap_same _ _ _ (Wr.sub (by decide) hw) ?_
    | split
    | dsimp only; split

def execExtest_parts : Nat := 0x808
theorem execExtest_same {P : Part} {s0 : State} (cells : Nat) (s : State) (hw : execExtest_parts.testBit P.ctorIdx = false)
    (h : Same P s0 s) :
    SameOut P s0 (execExtest cells s) := by
  unfold execExtest
  repeat' first
    | with_reducible assumption
    | with_reducible apply SameOut.next
    | intro _
    | with_reducible refine State.fresh_same _ _ (Wr.sub (by decide) hw) ?_
    | (with_reducible refine Same.snd ?_ (by assumption)); with_reducible refine State.fresh_same _ _ (Wr.sub (by decide) hw) ?_
    | with_reducible refine State.tap_same _ _ _ (Wr.sub (by decide) hw) ?_
    | fail_if_no_progress with_reducible refine Same.updTut (W := execExtest_parts) (by decide) hw ?_
    | split
    | dsimp only; split

def execSamplePreload_parts : Nat := 0x808
theorem execSamplePreload_same {P : Part} {s0 : State} (cells : Nat) (s : State) (hw : execSamplePreload_parts.testBit
    P.ctorIdx = false) (h : Same P s0 s) :
    SameOut P s0 (execSamplePreload cells s) := by
  unfold execSamplePreload
  repeat' first
    | with_reducible assumption
    | with_reducible apply SameOut.next
    | intro _
    | with_reducible refine State.fresh_same _ _ (Wr.sub (by decide) hw) ?_
    | (with_reducible refine Same.snd ?_ (by assumption)); with_reducible refine State.fresh_same _ _ (Wr.sub (by decide) hw) ?_
    | with_reducible refine State.tap_same _ _ _ (Wr.sub (by decide) hw) ?_
    | fail_if_no_progress with_reducible refine Same.updTut (W := execSamplePreload_parts) (by decide) hw ?_
    | split
    | dsimp only; split

def execDtmcs_parts : Nat := 0x808
theorem execDtmcs_same {P : Part} {s0 : State} (s : State) (hw : execDtmcs_parts.testBit P.ctorIdx = false) (h : Same P s0
    s) :
    SameOut P s0 (execDtmcs s) := by
  unfold execDtmcs
  repeat' first
    | with_reducible assumption
    | with_reducible apply SameOut.next
    | intro _
    | with_reducible refine State.fresh_same _ _ (Wr.sub (by decide) hw) ?_
    | (with_reducible refine Same.snd ?_ (by assumption)); with_reducible refine State.fresh_same _ _ (Wr.sub (by decide) hw) ?_
    | with_reducible refine State.tap_same _ _ _ (Wr.sub (by decide) hw) ?_
    | split
    | dsimp only; split

def execBypass_parts : Nat := 0x800
theorem execBypass_same {P : Part} {s0 : State} (s : State) (hw : execBypass_parts.testBit P.ctorIdx = false) (h : Same P
    s0 s) :
    SameOut P s0 (execBypass s) := by
  unfold execBypass
  repeat' first
    | with_reducible assumption
    | with_reducible apply SameOut.next
    | intro _
    | with_reducible refine State.tap_same _ _ _ (Wr.sub (by decide) hw) ?_
    | split
    | dsimp only; split

def State.resumeCore_parts : Nat := 0x808
theorem State.resumeCore_same {P : Part} {s0 : State} (s : State) (core : Nat) (hw : State.resumeCore_parts.testBit
    P.ctorIdx = false) (h : Same P s0 s) :
    Same P s0 (State.resumeCore s core) := by
  unfold State.resumeCore
  repeat' first
    | with_reducible assumption
    | intro _
    | with_reducible refine State.enterTakeover_same _ _ (Wr.sub (by decide) hw) ?_
    | with_reducible apply Same.whenIf
    | with_reducible apply Same.ite
    | fail_if_no_progress with_reducible refine Same.updTut (W := State.resumeCore_parts) (by decide) hw ?_
    | split
    | (with_reducible apply Same.zeta); split

def execDebugHalt_parts : Nat := 0x1711f42
theorem execDebugHalt_same {P : Part} {s0 : State} (core : Nat) (s : State) (hw : execDebugHalt_parts.testBit P.ctorIdx =
    false) (h : Same P s0 s) :
    SameOut P s0 (execDebugHalt core s) := by
  unfold execDebugHalt
  repeat' first
    | with_reducible assumption
    | with_reducible apply SameOut.next
    | with_reducible apply SameOut.ite
    | intro _
    | with_reducible refine State.settlePads_same _ (Wr.sub (by decide) hw) ?_
    | with_reducible apply Same.ite
    | fail_if_no_progress with_reducible refine Same.updTut (W := execDebugHalt_parts) (by decide) hw ?_
    | split
    | dsimp only; split

def execLehaltWrite_parts : Nat := 0xb02
theorem execLehaltWrite_same {P : Part} {s0 : State} (core : Nat) (value : Nat) (s : State) (hw :
    execLehaltWrite_parts.testBit P.ctorIdx = false) (h : Same P s0 s) :
    SameOut P s0 (execLehaltWrite core value s) := by
  unfold execLehaltWrite
  repeat' first
    | with_reducible assumption
    | with_reducible apply SameOut.next
    | intro _
    | with_reducible refine State.access_same _ _ _ _ _ (Wr.sub (by decide) hw) ?_ ?_
    | with_reducible refine State.leHaltWrite_same _ _ _ (Wr.sub (by decide) hw) ?_
    | split
    | dsimp only; split

def State.setLr_parts : Nat := 0x800
theorem State.setLr_same {P : Part} {s0 : State} (s : State) (core : Nat) (g : Option (Nat × Nat)) (hw :
    State.setLr_parts.testBit P.ctorIdx = false) (h : Same P s0 s) :
    Same P s0 (State.setLr s core g) := by
  unfold State.setLr
  repeat' first
    | with_reducible assumption
    | intro _
    | fail_if_no_progress with_reducible refine Same.updTut (W := State.setLr_parts) (by decide) hw ?_
    | split
    | (with_reducible apply Same.zeta); split

def State.amoBad_parts : Nat := 0xa02
theorem State.amoBad_same {P : Part} {s0 : State} (s : State) (core : Nat) (addr : Nat) (hw : State.amoBad_parts.testBit
    P.ctorIdx = false) (h : Same P s0 s) :
    Same P s0 (State.amoBad s core addr) := by
  unfold State.amoBad
  repeat' first
    | with_reducible assumption
    | intro _
    | with_reducible refine State.coreFault_same _ _ _ _ (Wr.sub (by decide) hw) ?_
    | with_reducible refine State.badRead_same _ _ _ _ (Wr.sub (by decide) hw) ?_
    | with_reducible apply Same.ite
    | split
    | (with_reducible apply Same.zeta); split

def State.amoDo_parts : Nat := 0x13a02
theorem State.amoDo_same {P : Part} {s0 : State} (s : State) (core : Nat) (addr : Nat) (g : Nat × Nat) (op : AmoOp) (old :
    Nat) (v : Nat) (hw : State.amoDo_parts.testBit P.ctorIdx = false) (h : Same P s0 s) :
    Same P s0 (State.amoDo s core addr g op old v) := by
  unfold State.amoDo
  repeat' first
    | with_reducible assumption
    | intro _
    | with_reducible refine State.setLr_same _ _ _ (Wr.sub (by decide) hw) ?_
    | with_reducible refine State.reads_same _ _ (Wr.sub (by decide) hw) ?_
    | with_reducible refine State.memStore_same _ _ _ _ (Wr.sub (by decide) hw) ?_
    | with_reducible apply Same.ite
    | split
    | (with_reducible apply Same.zeta); split

def execAmoSatchel_parts : Nat := 0x13b02
theorem execAmoSatchel_same {P : Part} {s0 : State} (core : Nat) (addr : Nat) (op : AmoOp) (value : Nat) (s : State) (hw :
    execAmoSatchel_parts.testBit P.ctorIdx = false) (h : Same P s0 s) :
    SameOut P s0 (execAmoSatchel core addr op value s) := by
  unfold execAmoSatchel
  repeat' first
    | with_reducible assumption
    | with_reducible apply SameOut.next
    | with_reducible apply SameOut.ite
    | intro _
    | with_reducible refine State.access_same _ _ _ _ _ (Wr.sub (by decide) hw) ?_ ?_
    | with_reducible refine State.coreFault_same _ _ _ _ (Wr.sub (by decide) hw) ?_
    | with_reducible refine State.amoBad_same _ _ _ (Wr.sub (by decide) hw) ?_
    | with_reducible refine State.amoDo_same _ _ _ _ _ _ _ (Wr.sub (by decide) hw) ?_
    | with_reducible apply Same.ite
    | split
    | dsimp only; split

def State.blockStore_parts : Nat := 0x3ffffea
theorem State.blockStore_same {P : Part} {s0 : State} (s : State) (core : Nat) (addr : Nat) (v : Nat) (hw :
    State.blockStore_parts.testBit P.ctorIdx = false) (h : Same P s0 s) :
    Same P s0 (State.blockStore s core addr v) := by
  unfold State.blockStore
  repeat' first
    | with_reducible assumption
    | intro _
    | with_reducible refine State.windowWrite_same _ _ _ _ _ (Wr.sub (by decide) hw) ?_
    | with_reducible refine State.gatewayGo_same _ _ _ _ (Wr.sub (by decide) hw) ?_
    | with_reducible refine State.setFld_same _ _ _ _ (Wr.sub (by decide) hw) ?_
    | with_reducible refine State.coreFault_same _ _ _ _ (Wr.sub (by decide) hw) ?_
    | with_reducible refine State.regPut_same _ _ _ _ _ _ _ (Wr.sub (by decide) hw) ?_
    | with_reducible apply Same.whenIf
    | with_reducible apply Same.ite
    | split
    | (with_reducible apply Same.zeta); split

def execRegisterWrite_parts : Nat := 0x3ffffea
theorem execRegisterWrite_same {P : Part} {s0 : State} (core : Nat) (addr : Nat) (value : Nat) (s : State) (hw :
    execRegisterWrite_parts.testBit P.ctorIdx = false) (h : Same P s0 s) :
    SameOut P s0 (execRegisterWrite core addr value s) := by
  unfold execRegisterWrite
  repeat' first
    | with_reducible assumption
    | with_reducible apply SameOut.next
    | with_reducible apply SameOut.ite
    | intro _
    | with_reducible refine State.access_same _ _ _ _ _ (Wr.sub (by decide) hw) ?_ ?_
    | with_reducible refine State.coreFault_same _ _ _ _ (Wr.sub (by decide) hw) ?_
    | with_reducible refine State.blockStore_same _ _ _ _ (Wr.sub (by decide) hw) ?_
    | with_reducible refine State.coreStore_same _ _ _ _ (Wr.sub (by decide) hw) ?_
    | with_reducible apply Same.ite
    | split
    | dsimp only; split

end Sys2Proof.Machine
end

