-- ==== Sys2Proof/Laws/SameCoreLoad.lean ====
section
/-!
SUPPORT. Which parts of State the operations of Machine/CoreLoad.lean can change (Laws/Same.lean), as bits by the part's number, and that
they leave every other as it was.
-/
namespace Sys2Proof.Machine

set_option linter.unusedTactic false
set_option linter.unreachableTactic false

def State.readClears_parts : Nat := 0x2
theorem State.readClears_same {P : Part} {s0 : State} (s : State) (r : RegDesc) (i : Nat) (hw :
    State.readClears_parts.testBit P.ctorIdx = false) (h : Same P s0 s) :
    Same P s0 (State.readClears s r i) := by
  unfold State.readClears
  repeat' first
    | with_reducible assumption
    | intro _
    | with_reducible refine State.setFld_same _ _ _ _ (Wr.sub (by decide) hw) ?_
    | with_reducible apply Same.whenIf
    | with_reducible apply Same.each
    | split
    | (with_reducible apply Same.zeta); split

def State.regLoad_parts : Nat := 0xb02
theorem State.regLoad_same {P : Part} {s0 : State} (s : State) (core : Nat) (addr : Nat) (hw : State.regLoad_parts.testBit
    P.ctorIdx = false) (h : Same P s0 s) :
    Same P s0 (State.regLoad s core addr) := by
  unfold State.regLoad
  repeat' first
    | with_reducible assumption
    | with_reducible refine execTbLoRead_same _ _ (Wr.sub (by decide) hw) ?_
    | with_reducible refine execRtcSubRead_same _ _ (Wr.sub (by decide) hw) ?_
    | with_reducible refine execInterruptClaim_same _ _ (Wr.sub (by decide) hw) ?_
    | intro _
    | with_reducible refine State.reads_same _ _ (Wr.sub (by decide) hw) ?_
    | with_reducible refine State.took_same _ _ ?_ ?_
    | with_reducible refine State.setFld_same _ _ _ _ (Wr.sub (by decide) hw) ?_
    | with_reducible refine State.readClears_same _ _ _ (Wr.sub (by decide) hw) ?_
    | with_reducible apply Same.ite
    | split
    | (with_reducible apply Same.zeta); split

def State.setHighLatch_parts : Nat := 0x400000
theorem State.setHighLatch_same {P : Part} {s0 : State} (s : State) (core : Nat) (l : Option (Nat × Nat × Nat)) (hw :
    State.setHighLatch_parts.testBit P.ctorIdx = false) (h : Same P s0 s) :
    Same P s0 (State.setHighLatch s core l) := by
  unfold State.setHighLatch
  repeat' first
    | with_reducible assumption
    | intro _
    | fail_if_no_progress with_reducible refine Same.updEng (W := State.setHighLatch_parts) (by decide) hw ?_
    | split
    | (with_reducible apply Same.zeta); split

def State.windowLoad_parts : Nat := 0x400a02
theorem State.windowLoad_same {P : Part} {s0 : State} (s : State) (core : Nat) (n : Nat) (idx : Nat) (hw :
    State.windowLoad_parts.testBit P.ctorIdx = false) (h : Same P s0 s) :
    Same P s0 (State.windowLoad s core n idx) := by
  unfold State.windowLoad
  repeat' first
    | with_reducible assumption
    | intro _
    | with_reducible refine State.coreFault_same _ _ _ _ (Wr.sub (by decide) hw) ?_
    | with_reducible refine State.badRead_same _ _ _ _ (Wr.sub (by decide) hw) ?_
    | with_reducible refine State.reads_same _ _ (Wr.sub (by decide) hw) ?_
    | with_reducible refine State.setHighLatch_same _ _ _ (Wr.sub (by decide) hw) ?_
    | with_reducible apply Same.ite
    | split
    | (with_reducible apply Same.zeta); split

def State.blockLoad_parts : Nat := 0x400b02
theorem State.blockLoad_same {P : Part} {s0 : State} (s : State) (core : Nat) (addr : Nat) (width : Nat) (hw :
    State.blockLoad_parts.testBit P.ctorIdx = false) (h : Same P s0 s) :
    Same P s0 (State.blockLoad s core addr width) := by
  unfold State.blockLoad
  repeat' first
    | with_reducible assumption
    | intro _
    | with_reducible refine State.accessAs_same _ _ _ _ _ _ (Wr.sub (by decide) hw) ?_ ?_
    | with_reducible refine State.coreFault_same _ _ _ _ (Wr.sub (by decide) hw) ?_
    | with_reducible refine State.windowLoad_same _ _ _ _ (Wr.sub (by decide) hw) ?_
    | with_reducible refine State.regLoad_same _ _ _ (Wr.sub (by decide) hw) ?_
    | with_reducible apply Same.ite
    | split
    | (with_reducible apply Same.zeta); split

def State.readsBytes_parts : Nat := 0x800
theorem State.readsBytes_same {P : Part} {s0 : State} (s : State) (l : List Nat) (hw : State.readsBytes_parts.testBit
    P.ctorIdx = false) (h : Same P s0 s) :
    Same P s0 (State.readsBytes s l) := by
  unfold State.readsBytes
  repeat' first
    | with_reducible assumption
    | intro _
    | with_reducible refine State.reads_same _ _ (Wr.sub (by decide) hw) ?_
    | split
    | (with_reducible apply Same.zeta); split

def State.loadBad_parts : Nat := 0xa02
theorem State.loadBad_same {P : Part} {s0 : State} (s : State) (cause : Nat) (core : Nat) (mem : Nat) (addr : Nat) (hw :
    State.loadBad_parts.testBit P.ctorIdx = false) (h : Same P s0 s) :
    Same P s0 (State.loadBad s cause core mem addr) := by
  unfold State.loadBad
  repeat' first
    | with_reducible assumption
    | intro _
    | with_reducible refine State.coreFault_same _ _ _ _ (Wr.sub (by decide) hw) ?_
    | with_reducible refine State.badRead_same _ _ _ _ (Wr.sub (by decide) hw) ?_
    | split
    | (with_reducible apply Same.zeta); split

def State.sramLoad_parts : Nat := 0xa0a
theorem State.sramLoad_same {P : Part} {s0 : State} (s : State) (cause : Nat) (core : Nat) (o : Nat) (n : Nat) (hw :
    State.sramLoad_parts.testBit P.ctorIdx = false) (h : Same P s0 s) :
    Same P s0 (State.sramLoad s cause core o n) := by
  unfold State.sramLoad
  repeat' first
    | with_reducible assumption
    | intro _
    | with_reducible refine State.loadBad_same _ _ _ _ _ (Wr.sub (by decide) hw) ?_
    | with_reducible refine State.readsBytes_same _ _ (Wr.sub (by decide) hw) ?_
    | with_reducible refine State.fresh_same _ _ (Wr.sub (by decide) hw) ?_
    | (with_reducible refine Same.snd ?_ (by assumption)); with_reducible refine State.fresh_same _ _ (Wr.sub (by decide) hw) ?_
    | with_reducible refine State.reads_same _ _ (Wr.sub (by decide) hw) ?_
    | with_reducible apply Same.ite
    | split
    | (with_reducible apply Same.zeta); split

def State.xipLoad_parts : Nat := 0x808
theorem State.xipLoad_same {P : Part} {s0 : State} (s : State) (cause : Nat) (core : Nat) (o : Nat) (n : Nat) (hw :
    State.xipLoad_parts.testBit P.ctorIdx = false) (h : Same P s0 s) :
    Same P s0 (State.xipLoad s cause core o n) := by
  unfold State.xipLoad
  repeat' first
    | with_reducible assumption
    | intro _
    | with_reducible refine State.coreFault_same _ _ _ _ (Wr.sub (by decide) hw) ?_
    | with_reducible refine State.fresh_same _ _ (Wr.sub (by decide) hw) ?_
    | (with_reducible refine Same.snd ?_ (by assumption)); with_reducible refine State.fresh_same _ _ (Wr.sub (by decide) hw) ?_
    | with_reducible refine State.reads_same _ _ (Wr.sub (by decide) hw) ?_
    | with_reducible refine State.readsBytes_same _ _ (Wr.sub (by decide) hw) ?_
    | with_reducible apply Same.ite
    | split
    | (with_reducible apply Same.zeta); split

def State.memLoad_parts : Nat := 0xa0a
theorem State.memLoad_same {P : Part} {s0 : State} (s : State) (cause : Nat) (core : Nat) (addr : Nat) (n : Nat) (hw :
    State.memLoad_parts.testBit P.ctorIdx = false) (h : Same P s0 s) :
    Same P s0 (State.memLoad s cause core addr n) := by
  unfold State.memLoad
  repeat' first
    | with_reducible assumption
    | intro _
    | with_reducible refine State.readsBytes_same _ _ (Wr.sub (by decide) hw) ?_
    | with_reducible refine State.loadBad_same _ _ _ _ _ (Wr.sub (by decide) hw) ?_
    | with_reducible refine State.xipLoad_same _ _ _ _ _ (Wr.sub (by decide) hw) ?_
    | with_reducible refine State.coreFault_same _ _ _ _ (Wr.sub (by decide) hw) ?_
    | with_reducible refine State.sramLoad_same _ _ _ _ _ (Wr.sub (by decide) hw) ?_
    | with_reducible apply Same.ite
    | split
    | (with_reducible apply Same.zeta); split

def State.coreLoad_parts : Nat := 0x400b0a
theorem State.coreLoad_same {P : Part} {s0 : State} (s : State) (core : Nat) (addr : Nat) (width : Nat) (hw :
    State.coreLoad_parts.testBit P.ctorIdx = false) (h : Same P s0 s) :
    Same P s0 (State.coreLoad s core addr width) := by
  unfold State.coreLoad
  repeat' first
    | with_reducible assumption
    | intro _
    | with_reducible refine State.blockLoad_same _ _ _ _ (Wr.sub (by decide) hw) ?_
    | with_reducible refine State.accessAs_same _ _ _ _ _ _ (Wr.sub (by decide) hw) ?_ ?_
    | with_reducible refine State.coreFault_same _ _ _ _ (Wr.sub (by decide) hw) ?_
    | with_reducible refine State.memLoad_same _ _ _ _ _ (Wr.sub (by decide) hw) ?_
    | with_reducible apply Same.ite
    | split
    | (with_reducible apply Same.zeta); split

def State.coreFetch_parts : Nat := 0xb0a
theorem State.coreFetch_same {P : Part} {s0 : State} (s : State) (core : Nat) (addr : Nat) (hw :
    State.coreFetch_parts.testBit P.ctorIdx = false) (h : Same P s0 s) :
    Same P s0 (State.coreFetch s core addr) := by
  unfold State.coreFetch
  repeat' first
    | with_reducible assumption
    | intro _
    | with_reducible refine State.accessAs_same _ _ _ _ _ _ (Wr.sub (by decide) hw) ?_ ?_
    | with_reducible refine State.memLoad_same _ _ _ _ _ (Wr.sub (by decide) hw) ?_
    | split
    | (with_reducible apply Same.zeta); split

def State.coreStores_parts : Nat := 0x3ffffea
theorem State.coreStores_same {P : Part} {s0 : State} (s : State) (core : Nat) (addr : Nat) (width : Nat) (v : Nat) (hw :
    State.coreStores_parts.testBit P.ctorIdx = false) (h : Same P s0 s) :
    Same P s0 (State.coreStores s core addr width v) := by
  unfold State.coreStores
  repeat' first
    | with_reducible assumption
    | with_reducible refine execRegisterWrite_same _ _ _ _ (Wr.sub (by decide) hw) ?_
    | intro _
    | with_reducible refine State.took_same _ _ ?_ ?_
    | with_reducible refine State.access_same _ _ _ _ _ (Wr.sub (by decide) hw) ?_ ?_
    | with_reducible refine State.coreFault_same _ _ _ _ (Wr.sub (by decide) hw) ?_
    | with_reducible refine State.coreStore_same _ _ _ _ (Wr.sub (by decide) hw) ?_
    | with_reducible apply Same.ite
    | split
    | (with_reducible apply Same.zeta); split

def State.csrRead_parts : Nat := 0x808
theorem State.csrRead_same {P : Part} {s0 : State} (s : State) (core : Nat) (n : Nat) (hw : State.csrRead_parts.testBit
    P.ctorIdx = false) (h : Same P s0 s) :
    Same P s0 (State.csrRead s core n) := by
  unfold State.csrRead
  repeat' first
    | with_reducible assumption
    | intro _
    | with_reducible refine State.reads_same _ _ (Wr.sub (by decide) hw) ?_
    | with_reducible refine State.fresh_same _ _ (Wr.sub (by decide) hw) ?_
    | (with_reducible refine Same.snd ?_ (by assumption)); with_reducible refine State.fresh_same _ _ (Wr.sub (by decide) hw) ?_
    | with_reducible apply Same.ite
    | fail_if_no_progress with_reducible refine Same.updTut (W := State.csrRead_parts) (by decide) hw ?_
    | split
    | (with_reducible apply Same.zeta); split

def State.csrPut_parts : Nat := 0x800
theorem State.csrPut_same {P : Part} {s0 : State} (s : State) (core : Nat) (n : Nat) (v : Nat) (hw :
    State.csrPut_parts.testBit P.ctorIdx = false) (h : Same P s0 s) :
    Same P s0 (State.csrPut s core n v) := by
  unfold State.csrPut
  repeat' first
    | with_reducible assumption
    | intro _
    | fail_if_no_progress with_reducible refine Same.updTut (W := State.csrPut_parts) (by decide) hw ?_
    | split
    | (with_reducible apply Same.zeta); split

def State.setPriv_parts : Nat := 0x800
theorem State.setPriv_same {P : Part} {s0 : State} (s : State) (core : Nat) (p : Nat) (hw : State.setPriv_parts.testBit
    P.ctorIdx = false) (h : Same P s0 s) :
    Same P s0 (State.setPriv s core p) := by
  unfold State.setPriv
  repeat' first
    | with_reducible assumption
    | intro _
    | fail_if_no_progress with_reducible refine Same.updTut (W := State.setPriv_parts) (by decide) hw ?_
    | split
    | (with_reducible apply Same.zeta); split

def State.csrWrite_parts : Nat := 0x800
theorem State.csrWrite_same {P : Part} {s0 : State} (s : State) (core : Nat) (n : Nat) (v : Nat) (hw :
    State.csrWrite_parts.testBit P.ctorIdx = false) (h : Same P s0 s) :
    Same P s0 (State.csrWrite s core n v) := by
  unfold State.csrWrite
  repeat' first
    | with_reducible assumption
    | intro _
    | with_reducible refine State.setPriv_same _ _ _ (Wr.sub (by decide) hw) ?_
    | with_reducible refine State.csrPut_same _ _ _ _ (Wr.sub (by decide) hw) ?_
    | with_reducible apply Same.ite
    | fail_if_no_progress with_reducible refine Same.updTut (W := State.csrWrite_parts) (by decide) hw ?_
    | split
    | (with_reducible apply Same.zeta); split

def State.regRead_parts : Nat := 0x808
theorem State.regRead_same {P : Part} {s0 : State} (s : State) (core : Nat) (n : Nat) (hw : State.regRead_parts.testBit
    P.ctorIdx = false) (h : Same P s0 s) :
    Same P s0 (State.regRead s core n) := by
  unfold State.regRead
  repeat' first
    | with_reducible assumption
    | intro _
    | with_reducible refine State.csrRead_same _ _ _ (Wr.sub (by decide) hw) ?_
    | with_reducible refine State.reads_same _ _ (Wr.sub (by decide) hw) ?_
    | with_reducible apply Same.ite
    | split
    | (with_reducible apply Same.zeta); split

def State.regWrite_parts : Nat := 0x800
theorem State.regWrite_same {P : Part} {s0 : State} (s : State) (core : Nat) (n : Nat) (v : Nat) (hw :
    State.regWrite_parts.testBit P.ctorIdx = false) (h : Same P s0 s) :
    Same P s0 (State.regWrite s core n v) := by
  unfold State.regWrite
  repeat' first
    | with_reducible assumption
    | intro _
    | with_reducible refine State.csrWrite_same _ _ _ _ (Wr.sub (by decide) hw) ?_
    | with_reducible apply Same.ite
    | fail_if_no_progress with_reducible refine Same.updTut (W := State.regWrite_parts) (by decide) hw ?_
    | split
    | (with_reducible apply Same.zeta); split

def State.setCmderr_parts : Nat := 0x800
theorem State.setCmderr_same {P : Part} {s0 : State} (s : State) (e : Nat) (hw : State.setCmderr_parts.testBit P.ctorIdx =
    false) (h : Same P s0 s) :
    Same P s0 (State.setCmderr s e) := by
  unfold State.setCmderr
  repeat' first
    | with_reducible assumption
    | intro _
    | fail_if_no_progress with_reducible refine Same.updTut (W := State.setCmderr_parts) (by decide) hw ?_
    | split
    | (with_reducible apply Same.zeta); split

def State.setMcause_parts : Nat := 0x800
theorem State.setMcause_same {P : Part} {s0 : State} (s : State) (core : Nat) (c : Nat) (hw : State.setMcause_parts.testBit
    P.ctorIdx = false) (h : Same P s0 s) :
    Same P s0 (State.setMcause s core c) := by
  unfold State.setMcause
  repeat' first
    | with_reducible assumption
    | intro _
    | fail_if_no_progress with_reducible refine Same.updTut (W := State.setMcause_parts) (by decide) hw ?_
    | split
    | (with_reducible apply Same.zeta); split

def State.abstract_parts : Nat := 0x800
theorem State.abstract_same {P : Part} {s0 : State} (s : State) (core : Nat) (f : State → State) (hw :
    State.abstract_parts.testBit P.ctorIdx = false) (h : Same P s0 s) (hf : ∀ t, Same P s0 t → Same P s0 (f t)) :
    Same P s0 (State.abstract s core f) := by
  unfold State.abstract
  repeat' first
    | with_reducible assumption
    | intro _
    | with_reducible refine State.setCmderr_same _ _ (Wr.sub (by decide) hw) ?_
    | with_reducible apply Same.ite
    | with_reducible apply hf
    | split
    | (with_reducible apply Same.zeta); split

def State.abstractMem_parts : Nat := 0x800
theorem State.abstractMem_same {P : Part} {s0 : State} (s : State) (core : Nat) (f : State → State) (hw :
    State.abstractMem_parts.testBit P.ctorIdx = false) (h : Same P s0 s) (hf : ∀ t, Same P s0 t → Same P s0 (f t)) :
    Same P s0 (State.abstractMem s core f) := by
  unfold State.abstractMem
  repeat' first
    | with_reducible assumption
    | intro _
    | with_reducible refine State.abstract_same _ _ _ (Wr.sub (by decide) hw) ?_ ?_
    | with_reducible refine State.setMcause_same _ _ _ (Wr.sub (by decide) hw) ?_
    | with_reducible refine State.setCmderr_same _ _ (Wr.sub (by decide) hw) ?_
    | with_reducible apply Same.ite
    | with_reducible apply hf
    | split
    | (with_reducible apply Same.zeta); split

def State.debugDo_parts : Nat := 0x3ffffea
theorem State.debugDo_same {P : Part} {s0 : State} (s : State) (hart : Nat) (x2 : DmiOp) (hw : State.debugDo_parts.testBit
    P.ctorIdx = false) (h : Same P s0 s) :
    Same P s0 (State.debugDo s hart x2) := by
  unfold State.debugDo
  repeat' first
    | with_reducible assumption
    | intro _
    | with_reducible refine State.resumeCore_same _ _ (Wr.sub (by decide) hw) ?_
    | with_reducible refine State.abstractMem_same _ _ _ (Wr.sub (by decide) hw) ?_ ?_
    | with_reducible refine State.coreLoad_same _ _ _ _ (Wr.sub (by decide) hw) ?_
    | with_reducible refine State.coreStores_same _ _ _ _ _ (Wr.sub (by decide) hw) ?_
    | with_reducible refine State.coreFetch_same _ _ _ (Wr.sub (by decide) hw) ?_
    | with_reducible refine State.abstract_same _ _ _ (Wr.sub (by decide) hw) ?_ ?_
    | with_reducible refine State.regRead_same _ _ _ (Wr.sub (by decide) hw) ?_
    | with_reducible refine State.regWrite_same _ _ _ _ (Wr.sub (by decide) hw) ?_
    | with_reducible refine State.reads_same _ _ (Wr.sub (by decide) hw) ?_
    | fail_if_no_progress with_reducible refine Same.updTut (W := State.debugDo_parts) (by decide) hw ?_
    | split
    | (with_reducible apply Same.zeta); split

def execDmi_parts : Nat := 0x3ffffea
theorem execDmi_same {P : Part} {s0 : State} (hart : Nat) (op : DmiOp) (s : State) (hw : execDmi_parts.testBit P.ctorIdx =
    false) (h : Same P s0 s) :
    SameOut P s0 (execDmi hart op s) := by
  unfold execDmi
  repeat' first
    | with_reducible assumption
    | with_reducible apply SameOut.next
    | intro _
    | with_reducible refine State.fresh_same _ _ (Wr.sub (by decide) hw) ?_
    | (with_reducible refine Same.snd ?_ (by assumption)); with_reducible refine State.fresh_same _ _ (Wr.sub (by decide) hw) ?_
    | with_reducible refine State.tap_same _ _ _ (Wr.sub (by decide) hw) ?_
    | with_reducible refine State.debugDo_same _ _ _ (Wr.sub (by decide) hw) ?_
    | with_reducible apply Same.whenIf
    | fail_if_no_progress with_reducible refine Same.updTut (W := execDmi_parts) (by decide) hw ?_
    | split
    | dsimp only; split

end Sys2Proof.Machine
end

