-- ==== Sys2Proof/Laws/SameReset.lean ====
section
/-!
SUPPORT. Which parts of State the operations of Machine/Reset.lean can change (Laws/Same.lean), as bits by the part's number, and that
they leave every other as it was.
-/
namespace Sys2Proof.Machine

set_option linter.unusedTactic false
set_option linter.unreachableTactic false

def State.requestReset_parts : Nat := 0x7b7ffa
theorem State.requestReset_same {P : Part} {s0 : State} (s : State) (cause : Nat) (hw : State.requestReset_parts.testBit
    P.ctorIdx = false) (h : Same P s0 s) :
    Same P s0 (State.requestReset s cause) := by
  unfold State.requestReset
  repeat' first
    | with_reducible assumption
    | intro _
    | with_reducible refine State.startReset_same _ _ (Wr.sub (by decide) hw) ?_
    | with_reducible apply Same.whenIf
    | split
    | (with_reducible apply Same.zeta); split

def execPowerOn_parts : Nat := 0x7b7ffa
theorem execPowerOn_same {P : Part} {s0 : State} (s : State) (hw : execPowerOn_parts.testBit P.ctorIdx = false) (h : Same P
    s0 s) :
    SameOut P s0 (execPowerOn s) := by
  unfold execPowerOn
  repeat' first
    | with_reducible assumption
    | with_reducible apply SameOut.next
    | intro _
    | with_reducible refine State.requestReset_same _ _ (Wr.sub (by decide) hw) ?_
    | split
    | dsimp only; split

def execRstnLow_parts : Nat := 0x7b7ffa
theorem execRstnLow_same {P : Part} {s0 : State} (s : State) (hw : execRstnLow_parts.testBit P.ctorIdx = false) (h : Same P
    s0 s) :
    SameOut P s0 (execRstnLow s) := by
  unfold execRstnLow
  repeat' first
    | with_reducible assumption
    | with_reducible apply SameOut.next
    | intro _
    | with_reducible refine State.requestReset_same _ _ (Wr.sub (by decide) hw) ?_
    | with_reducible apply Same.whenIf
    | split
    | dsimp only; split

def execSoftwareResetRequest_parts : Nat := 0x7b7ffa
theorem execSoftwareResetRequest_same {P : Part} {s0 : State} (s : State) (hw : execSoftwareResetRequest_parts.testBit
    P.ctorIdx = false) (h : Same P s0 s) :
    SameOut P s0 (execSoftwareResetRequest s) := by
  unfold execSoftwareResetRequest
  repeat' first
    | with_reducible assumption
    | with_reducible apply SameOut.next
    | intro _
    | with_reducible refine State.requestReset_same _ _ (Wr.sub (by decide) hw) ?_
    | split
    | dsimp only; split

def execPllRetryReset_parts : Nat := 0x7b7ffa
theorem execPllRetryReset_same {P : Part} {s0 : State} (s : State) (hw : execPllRetryReset_parts.testBit P.ctorIdx = false)
    (h : Same P s0 s) :
    SameOut P s0 (execPllRetryReset s) := by
  unfold execPllRetryReset
  repeat' first
    | with_reducible assumption
    | with_reducible apply SameOut.next
    | intro _
    | with_reducible refine State.requestReset_same _ _ (Wr.sub (by decide) hw) ?_
    | with_reducible apply Same.whenIf
    | split
    | dsimp only; split

def State.pllsDone_parts : Nat := 0x4012
theorem State.pllsDone_same {P : Part} {s0 : State} (s : State) (mask : Nat) (hw : State.pllsDone_parts.testBit P.ctorIdx =
    false) (h : Same P s0 s) :
    Same P s0 (State.pllsDone s mask) := by
  unfold State.pllsDone
  repeat' first
    | with_reducible assumption
    | intro _
    | with_reducible refine State.setFlag_same _ _ _ _ (Wr.sub (by decide) hw) ?_
    | with_reducible apply Same.each
    | fail_if_no_progress with_reducible refine Same.updRst (W := State.pllsDone_parts) (by decide) hw ?_
    | fail_if_no_progress with_reducible refine Same.updClk (W := State.pllsDone_parts) (by decide) hw ?_
    | fail_if_no_progress with_reducible refine Same.upd (W := State.pllsDone_parts) hw ?_ (.inl rfl) (.inl rfl) (.inl rfl) (.inr (by decide)) (.inl rfl) (.inl rfl) (.inl rfl) (.inl rfl) (.inl rfl) (.inl rfl) (.inl rfl) (.inl rfl) (.inl rfl) (.inr (by decide)) (.inl rfl) (.inl rfl) (.inl rfl) (.inl rfl) (.inl rfl) (.inl rfl) (.inl rfl) (.inl rfl) (.inl rfl) (.inl rfl) (.inl rfl)
    | split
    | (with_reducible apply Same.zeta); split

def State.clearMemories_parts : Nat := 0x411880
theorem State.clearMemories_same {P : Part} {s0 : State} (s : State) (hw : State.clearMemories_parts.testBit P.ctorIdx =
    false) (h : Same P s0 s) :
    Same P s0 (State.clearMemories s) := by
  unfold State.clearMemories
  repeat' first
    | with_reducible assumption
    | intro _
    | with_reducible apply Same.whenIf
    | fail_if_no_progress with_reducible refine Same.updDup (W := State.clearMemories_parts) (by decide) hw ?_
    | fail_if_no_progress with_reducible refine Same.updTut (W := State.clearMemories_parts) (by decide) hw ?_
    | fail_if_no_progress with_reducible refine Same.updSatchel (W := State.clearMemories_parts) (by decide) hw ?_
    | fail_if_no_progress with_reducible refine Same.updInteg (W := State.clearMemories_parts) (by decide) hw ?_
    | fail_if_no_progress with_reducible refine Same.updEng (W := State.clearMemories_parts) (by decide) hw ?_
    | fail_if_no_progress with_reducible refine Same.upd (W := State.clearMemories_parts) hw ?_ (.inl rfl) (.inl rfl) (.inl rfl) (.inl rfl) (.inl rfl) (.inl rfl) (.inr (by decide)) (.inl rfl) (.inl rfl) (.inl rfl) (.inr (by decide)) (.inr (by decide)) (.inl rfl) (.inl rfl) (.inl rfl) (.inr (by decide)) (.inl rfl) (.inl rfl) (.inl rfl) (.inl rfl) (.inl rfl) (.inr (by decide)) (.inl rfl) (.inl rfl) (.inl rfl)
    | split
    | (with_reducible apply Same.zeta); split

def State.loadTimebase_parts : Nat := 0x4004
theorem State.loadTimebase_same {P : Part} {s0 : State} (s : State) (hw : State.loadTimebase_parts.testBit P.ctorIdx =
    false) (h : Same P s0 s) :
    Same P s0 (State.loadTimebase s) := by
  unfold State.loadTimebase
  repeat' first
    | with_reducible assumption
    | intro _
    | with_reducible apply Same.ite
    | fail_if_no_progress with_reducible refine Same.updTb (W := State.loadTimebase_parts) (by decide) hw ?_
    | fail_if_no_progress with_reducible refine Same.updClk (W := State.loadTimebase_parts) (by decide) hw ?_
    | fail_if_no_progress with_reducible refine Same.upd (W := State.loadTimebase_parts) hw ?_ (.inl rfl) (.inr (by decide)) (.inl rfl) (.inl rfl) (.inl rfl) (.inl rfl) (.inl rfl) (.inl rfl) (.inl rfl) (.inl rfl) (.inl rfl) (.inl rfl) (.inl rfl) (.inr (by decide)) (.inl rfl) (.inl rfl) (.inl rfl) (.inl rfl) (.inl rfl) (.inl rfl) (.inl rfl) (.inl rfl) (.inl rfl) (.inl rfl) (.inl rfl)
    | split
    | (with_reducible apply Same.zeta); split

def State.toPhase_parts : Nat := 0x10
theorem State.toPhase_same {P : Part} {s0 : State} (s : State) (p : ResetPhase) (hw : State.toPhase_parts.testBit P.ctorIdx
    = false) (h : Same P s0 s) :
    Same P s0 (State.toPhase s p) := by
  unfold State.toPhase
  repeat' first
    | with_reducible assumption
    | intro _
    | fail_if_no_progress with_reducible refine Same.updRst (W := State.toPhase_parts) (by decide) hw ?_
    | split
    | (with_reducible apply Same.zeta); split

def State.loadFuses_parts : Nat := 0x2
theorem State.loadFuses_same {P : Part} {s0 : State} (s : State) (hw : State.loadFuses_parts.testBit P.ctorIdx = false) (h
    : Same P s0 s) :
    Same P s0 (State.loadFuses s) := by
  unfold State.loadFuses
  repeat' first
    | with_reducible assumption
    | intro _
    | with_reducible refine State.setFld_same _ _ _ _ (Wr.sub (by decide) hw) ?_
    | with_reducible refine State.setFlag_same _ _ _ _ (Wr.sub (by decide) hw) ?_
    | with_reducible apply Same.each
    | with_reducible apply Same.ite
    | split
    | (with_reducible apply Same.zeta); split

def State.testBell_parts : Nat := 0x20
theorem State.testBell_same {P : Part} {s0 : State} (s : State) (hw : State.testBell_parts.testBit P.ctorIdx = false) (h :
    Same P s0 s) :
    Same P s0 (State.testBell s) := by
  unfold State.testBell
  repeat' first
    | with_reducible assumption
    | intro _
    | fail_if_no_progress with_reducible refine Same.updBell (W := State.testBell_parts) (by decide) hw ?_
    | split
    | (with_reducible apply Same.zeta); split

def execResetPhaseAdvance_parts : Nat := 0x4158b6
theorem execResetPhaseAdvance_same {P : Part} {s0 : State} (mask : Nat) (bootsel : Nat) (s : State) (hw :
    execResetPhaseAdvance_parts.testBit P.ctorIdx = false) (h : Same P s0 s) :
    SameOut P s0 (execResetPhaseAdvance mask bootsel s) := by
  unfold execResetPhaseAdvance
  repeat' first
    | with_reducible assumption
    | with_reducible apply SameOut.next
    | with_reducible apply SameOut.ite
    | intro _
    | with_reducible refine State.toPhase_same _ _ (Wr.sub (by decide) hw) ?_
    | with_reducible refine State.setFld_same _ _ _ _ (Wr.sub (by decide) hw) ?_
    | with_reducible refine State.loadFuses_same _ (Wr.sub (by decide) hw) ?_
    | with_reducible refine State.pllsDone_same _ _ (Wr.sub (by decide) hw) ?_
    | with_reducible refine State.testBell_same _ (Wr.sub (by decide) hw) ?_
    | with_reducible refine State.clearMemories_same _ (Wr.sub (by decide) hw) ?_
    | with_reducible refine State.loadTimebase_same _ (Wr.sub (by decide) hw) ?_
    | with_reducible apply Same.ite
    | fail_if_no_progress with_reducible refine Same.updRst (W := execResetPhaseAdvance_parts) (by decide) hw ?_
    | split
    | dsimp only; split

def State.dieReset_parts : Nat := 0x3ffeff2
theorem State.dieReset_same {P : Part} {s0 : State} (s : State) (hw : State.dieReset_parts.testBit P.ctorIdx = false) (h :
    Same P s0 s) :
    Same P s0 (State.dieReset s) := by
  unfold State.dieReset
  repeat' first
    | with_reducible assumption
    | intro _
    | fail_if_no_progress with_reducible refine Same.updRegs (W := State.dieReset_parts) (by decide) hw ?_
    | fail_if_no_progress with_reducible refine Same.updRst (W := State.dieReset_parts) (by decide) hw ?_
    | fail_if_no_progress with_reducible refine Same.updBell (W := State.dieReset_parts) (by decide) hw ?_
    | fail_if_no_progress with_reducible refine Same.updFab (W := State.dieReset_parts) (by decide) hw ?_
    | fail_if_no_progress with_reducible refine Same.updDup (W := State.dieReset_parts) (by decide) hw ?_
    | fail_if_no_progress with_reducible refine Same.updSec (W := State.dieReset_parts) (by decide) hw ?_
    | fail_if_no_progress with_reducible refine Same.updPorts (W := State.dieReset_parts) (by decide) hw ?_
    | fail_if_no_progress with_reducible refine Same.updDict (W := State.dieReset_parts) (by decide) hw ?_
    | fail_if_no_progress with_reducible refine Same.updTut (W := State.dieReset_parts) (by decide) hw ?_
    | fail_if_no_progress with_reducible refine Same.updCt (W := State.dieReset_parts) (by decide) hw ?_
    | fail_if_no_progress with_reducible refine Same.updClk (W := State.dieReset_parts) (by decide) hw ?_
    | fail_if_no_progress with_reducible refine Same.updSar (W := State.dieReset_parts) (by decide) hw ?_
    | fail_if_no_progress with_reducible refine Same.updInteg (W := State.dieReset_parts) (by decide) hw ?_
    | fail_if_no_progress with_reducible refine Same.updLib (W := State.dieReset_parts) (by decide) hw ?_
    | fail_if_no_progress with_reducible refine Same.updSd (W := State.dieReset_parts) (by decide) hw ?_
    | fail_if_no_progress with_reducible refine Same.updTrip (W := State.dieReset_parts) (by decide) hw ?_
    | fail_if_no_progress with_reducible refine Same.updPwm (W := State.dieReset_parts) (by decide) hw ?_
    | fail_if_no_progress with_reducible refine Same.updGate (W := State.dieReset_parts) (by decide) hw ?_
    | fail_if_no_progress with_reducible refine Same.updEng (W := State.dieReset_parts) (by decide) hw ?_
    | fail_if_no_progress with_reducible refine Same.updShip (W := State.dieReset_parts) (by decide) hw ?_
    | fail_if_no_progress with_reducible refine Same.updBur (W := State.dieReset_parts) (by decide) hw ?_
    | fail_if_no_progress with_reducible refine Same.updPf (W := State.dieReset_parts) (by decide) hw ?_
    | fail_if_no_progress with_reducible refine Same.upd (W := State.dieReset_parts) hw ?_ (.inr (by decide)) (.inl rfl) (.inl rfl) (.inr (by decide)) (.inr (by decide)) (.inr (by decide)) (.inr (by decide)) (.inr (by decide)) (.inr (by decide)) (.inr (by decide)) (.inr (by decide)) (.inl rfl) (.inr (by decide)) (.inr (by decide)) (.inr (by decide)) (.inr (by decide)) (.inr (by decide)) (.inr (by decide)) (.inr (by decide)) (.inr (by decide)) (.inr (by decide)) (.inr (by decide)) (.inr (by decide)) (.inr (by decide)) (.inr (by decide))
    | split
    | (with_reducible apply Same.zeta); split

def State.restoreRepair_parts : Nat := 0x10082
theorem State.restoreRepair_same {P : Part} {s0 : State} (s : State) (e : Nat) (hw : State.restoreRepair_parts.testBit
    P.ctorIdx = false) (h : Same P s0 s) :
    Same P s0 (State.restoreRepair s e) := by
  unfold State.restoreRepair
  repeat' first
    | with_reducible assumption
    | intro _
    | with_reducible refine State.applyRepair_same _ _ (Wr.sub (by decide) hw) ?_
    | with_reducible refine State.putRemain_same _ _ _ (Wr.sub (by decide) hw) ?_
    | with_reducible apply Same.ite
    | split
    | (with_reducible apply Same.zeta); split

def State.restoreRepairs_parts : Nat := 0x10082
theorem State.restoreRepairs_same {P : Part} {s0 : State} (s : State) (hw : State.restoreRepairs_parts.testBit P.ctorIdx =
    false) (h : Same P s0 s) :
    Same P s0 (State.restoreRepairs s) := by
  unfold State.restoreRepairs
  repeat' first
    | with_reducible assumption
    | intro _
    | with_reducible refine State.putRemain_same _ _ _ (Wr.sub (by decide) hw) ?_
    | with_reducible refine State.setFld_same _ _ _ _ (Wr.sub (by decide) hw) ?_
    | with_reducible refine State.restoreRepair_same _ _ (Wr.sub (by decide) hw) ?_
    | with_reducible apply Same.each
    | split
    | (with_reducible apply Same.zeta); split

def State.flushLate_parts : Nat := 0x1000a02
theorem State.flushLate_same {P : Part} {s0 : State} (s : State) (hw : State.flushLate_parts.testBit P.ctorIdx = false) (h
    : Same P s0 s) :
    Same P s0 (State.flushLate s) := by
  unfold State.flushLate
  repeat' first
    | with_reducible assumption
    | intro _
    | with_reducible refine State.emit_same _ _ _ (Wr.sub (by decide) hw) ?_
    | with_reducible apply Same.each
    | fail_if_no_progress with_reducible refine Same.updBur (W := State.flushLate_parts) (by decide) hw ?_
    | split
    | (with_reducible apply Same.zeta); split

def State.afterReset_parts : Nat := 0x3014a92
theorem State.afterReset_same {P : Part} {s0 : State} (s : State) (hw : State.afterReset_parts.testBit P.ctorIdx = false)
    (h : Same P s0 s) :
    Same P s0 (State.afterReset s) := by
  unfold State.afterReset
  repeat' first
    | with_reducible assumption
    | intro _
    | with_reducible refine State.restoreRepairs_same _ (Wr.sub (by decide) hw) ?_
    | with_reducible refine State.setFlag_same _ _ _ _ (Wr.sub (by decide) hw) ?_
    | with_reducible refine State.retireRoot_same _ _ (Wr.sub (by decide) hw) ?_
    | with_reducible refine State.modPf_same _ _ (Wr.sub (by decide) hw) ?_
    | with_reducible refine State.flushLate_same _ (Wr.sub (by decide) hw) ?_
    | with_reducible apply Same.whenIf
    | with_reducible apply Same.each
    | fail_if_no_progress with_reducible refine Same.updRst (W := State.afterReset_parts) (by decide) hw ?_
    | fail_if_no_progress with_reducible refine Same.updClk (W := State.afterReset_parts) (by decide) hw ?_
    | fail_if_no_progress with_reducible refine Same.upd (W := State.afterReset_parts) hw ?_ (.inl rfl) (.inl rfl) (.inl rfl) (.inr (by decide)) (.inl rfl) (.inl rfl) (.inl rfl) (.inl rfl) (.inl rfl) (.inl rfl) (.inl rfl) (.inl rfl) (.inl rfl) (.inr (by decide)) (.inl rfl) (.inl rfl) (.inl rfl) (.inl rfl) (.inl rfl) (.inl rfl) (.inl rfl) (.inl rfl) (.inl rfl) (.inl rfl) (.inl rfl)
    | split
    | (with_reducible apply Same.zeta); split

def State.finishReset_parts : Nat := 0x3ffeff2
theorem State.finishReset_same {P : Part} {s0 : State} (s : State) (hw : State.finishReset_parts.testBit P.ctorIdx = false)
    (h : Same P s0 s) :
    Same P s0 (State.finishReset s) := by
  unfold State.finishReset
  repeat' first
    | with_reducible assumption
    | intro _
    | with_reducible refine State.afterReset_same _ (Wr.sub (by decide) hw) ?_
    | with_reducible refine State.dieReset_same _ (Wr.sub (by decide) hw) ?_
    | split
    | (with_reducible apply Same.zeta); split

def execResetEnd_parts : Nat := 0x3ffeff2
theorem execResetEnd_same {P : Part} {s0 : State} (s : State) (hw : execResetEnd_parts.testBit P.ctorIdx = false) (h : Same
    P s0 s) :
    SameOut P s0 (execResetEnd s) := by
  unfold execResetEnd
  repeat' first
    | with_reducible assumption
    | with_reducible apply SameOut.next
    | with_reducible apply SameOut.ite
    | intro _
    | with_reducible refine State.finishReset_same _ (Wr.sub (by decide) hw) ?_
    | with_reducible apply Same.ite
    | split
    | dsimp only; split

end Sys2Proof.Machine
end

