-- ==== Sys2Proof/Laws/SameDuties.lean ====
section
/-!
SUPPORT. Which parts of State the operations of Machine/Duties.lean can change (Laws/Same.lean), as bits by the part's number, and that
they leave every other as it was.
-/
namespace Sys2Proof.Machine

set_option linter.unusedTactic false
set_option linter.unreachableTactic false

def State.askReset_parts : Nat := 0x10
theorem State.askReset_same {P : Part} {s0 : State} (s : State) (hw : State.askReset_parts.testBit P.ctorIdx = false) (h :
    Same P s0 s) :
    Same P s0 (State.askReset s) := by
  unfold State.askReset
  repeat' first
    | with_reducible assumption
    | intro _
    | fail_if_no_progress with_reducible refine Same.updRst (W := State.askReset_parts) (by decide) hw ?_
    | split
    | (with_reducible apply Same.zeta); split

def State.clockFailure_parts : Nat := 0x1711f52
theorem State.clockFailure_same {P : Part} {s0 : State} (s : State) (hw : State.clockFailure_parts.testBit P.ctorIdx =
    false) (h : Same P s0 s) :
    Same P s0 (State.clockFailure s) := by
  unfold State.clockFailure
  repeat' first
    | with_reducible assumption
    | intro _
    | with_reducible refine State.askReset_same _ (Wr.sub (by decide) hw) ?_
    | with_reducible refine State.settlePads_same _ (Wr.sub (by decide) hw) ?_
    | fail_if_no_progress with_reducible refine Same.updGate (W := State.clockFailure_parts) (by decide) hw ?_
    | split
    | (with_reducible apply Same.zeta); split

def State.idle_parts : Nat := 0x17b7ffe
theorem State.idle_same {P : Part} {s0 : State} (s : State) (hw : State.idle_parts.testBit P.ctorIdx = false) (h : Same P
    s0 s) :
    Same P s0 (State.idle s) := by
  unfold State.idle
  repeat' first
    | with_reducible assumption
    | intro _
    | with_reducible refine State.runFraction_same _ (Wr.sub (by decide) hw) ?_
    | with_reducible refine State.leaseTick_same _ (Wr.sub (by decide) hw) ?_
    | with_reducible refine State.requestReset_same _ _ (Wr.sub (by decide) hw) ?_
    | with_reducible refine State.closeWindows_same _ (Wr.sub (by decide) hw) ?_
    | with_reducible refine State.loadTick_same _ (Wr.sub (by decide) hw) ?_
    | with_reducible refine State.refreshAge_same _ (Wr.sub (by decide) hw) ?_
    | with_reducible refine State.advanceCounters_same _ (Wr.sub (by decide) hw) ?_
    | with_reducible refine State.edgeTick_same _ (Wr.sub (by decide) hw) ?_
    | with_reducible apply Same.ite
    | fail_if_no_progress with_reducible refine Same.updRst (W := State.idle_parts) (by decide) hw ?_
    | split
    | (with_reducible apply Same.zeta); split

def State.edgeSwitch_parts : Nat := 0xa02
theorem State.edgeSwitch_same {P : Part} {s0 : State} (s : State) (hw : State.edgeSwitch_parts.testBit P.ctorIdx = false)
    (h : Same P s0 s) :
    Same P s0 (State.edgeSwitch s) := by
  unfold State.edgeSwitch
  repeat' first
    | with_reducible assumption
    | intro _
    | with_reducible refine State.consumeSpare_same _ _ (Wr.sub (by decide) hw) ?_
    | with_reducible refine State.clockEvent_same _ (Wr.sub (by decide) hw) ?_
    | with_reducible refine State.setFld_same _ _ _ _ (Wr.sub (by decide) hw) ?_
    | split
    | (with_reducible apply Same.zeta); split

def execPllUnlock_parts : Nat := 0x1f59f52
theorem execPllUnlock_same {P : Part} {s0 : State} (loop : Nat) (s : State) (hw : execPllUnlock_parts.testBit P.ctorIdx =
    false) (h : Same P s0 s) :
    SameOut P s0 (execPllUnlock loop s) := by
  unfold execPllUnlock
  repeat' first
    | with_reducible assumption
    | with_reducible apply SameOut.next
    | with_reducible apply SameOut.ite
    | intro _
    | with_reducible refine State.setFld_same _ _ _ _ (Wr.sub (by decide) hw) ?_
    | with_reducible refine State.edgeSwitch_same _ (Wr.sub (by decide) hw) ?_
    | with_reducible refine State.clockFailure_same _ (Wr.sub (by decide) hw) ?_
    | with_reducible refine State.abandonWing_same _ _ (Wr.sub (by decide) hw) ?_
    | with_reducible refine State.askReset_same _ (Wr.sub (by decide) hw) ?_
    | with_reducible apply Same.whenIf
    | with_reducible apply Same.ite
    | split
    | dsimp only; split

def execPllLock_parts : Nat := 0x200c8a
theorem execPllLock_same {P : Part} {s0 : State} (loop : Nat) (s : State) (hw : execPllLock_parts.testBit P.ctorIdx =
    false) (h : Same P s0 s) :
    SameOut P s0 (execPllLock loop s) := by
  unfold execPllLock
  repeat' first
    | with_reducible assumption
    | with_reducible apply SameOut.next
    | with_reducible apply SameOut.ite
    | intro _
    | with_reducible refine State.seqFallback_same _ (Wr.sub (by decide) hw) ?_
    | with_reducible refine State.setFld_same _ _ _ _ (Wr.sub (by decide) hw) ?_
    | with_reducible refine State.wingLocked_same _ _ (Wr.sub (by decide) hw) ?_
    | with_reducible apply Same.ite
    | split
    | dsimp only; split

def execXinLost_parts : Nat := 0x1715f52
theorem execXinLost_same {P : Part} {s0 : State} (s : State) (hw : execXinLost_parts.testBit P.ctorIdx = false) (h : Same P
    s0 s) :
    SameOut P s0 (execXinLost s) := by
  unfold execXinLost
  repeat' first
    | with_reducible assumption
    | with_reducible apply SameOut.next
    | intro _
    | with_reducible refine State.setFld_same _ _ _ _ (Wr.sub (by decide) hw) ?_
    | with_reducible refine State.clockFailure_same _ (Wr.sub (by decide) hw) ?_
    | fail_if_no_progress with_reducible refine Same.updClk (W := execXinLost_parts) (by decide) hw ?_
    | split
    | dsimp only; split

def execRtcSecond_parts : Nat := 0x1037b02
theorem execRtcSecond_same {P : Part} {s0 : State} (s : State) (hw : execRtcSecond_parts.testBit P.ctorIdx = false) (h :
    Same P s0 s) :
    SameOut P s0 (execRtcSecond s) := by
  unfold execRtcSecond
  repeat' first
    | with_reducible assumption
    | with_reducible apply SameOut.next
    | with_reducible apply SameOut.ite
    | intro _
    | with_reducible refine State.setFld_same _ _ _ _ (Wr.sub (by decide) hw) ?_
    | with_reducible refine State.count_same _ _ _ (Wr.sub (by decide) hw) ?_
    | with_reducible refine State.saveDue_same _ (Wr.sub (by decide) hw) ?_
    | with_reducible refine State.theftSecond_same _ (Wr.sub (by decide) hw) ?_
    | with_reducible apply Same.whenIf
    | with_reducible apply Same.each
    | with_reducible apply Same.ite
    | fail_if_no_progress with_reducible refine Same.updSec (W := execRtcSecond_parts) (by decide) hw ?_
    | fail_if_no_progress with_reducible refine Same.updCt (W := execRtcSecond_parts) (by decide) hw ?_
    | fail_if_no_progress with_reducible refine Same.updClk (W := execRtcSecond_parts) (by decide) hw ?_
    | fail_if_no_progress with_reducible refine Same.upd (W := execRtcSecond_parts) hw ?_ (.inl rfl) (.inl rfl) (.inl rfl) (.inl rfl) (.inl rfl) (.inl rfl) (.inl rfl) (.inr (by decide)) (.inl rfl) (.inl rfl) (.inl rfl) (.inl rfl) (.inr (by decide)) (.inr (by decide)) (.inl rfl) (.inl rfl) (.inl rfl) (.inl rfl) (.inl rfl) (.inl rfl) (.inl rfl) (.inl rfl) (.inl rfl) (.inl rfl) (.inl rfl)
    | split
    | dsimp only; split

def State.loadSet_parts : Nat := 0x3ffffea
theorem State.loadSet_same {P : Part} {s0 : State} (s : State) (l : List (Nat × Nat × List Nat)) (hw :
    State.loadSet_parts.testBit P.ctorIdx = false) (h : Same P s0 s) :
    Same P s0 (State.loadSet s l) := by
  unfold State.loadSet
  repeat' first
    | with_reducible assumption
    | intro _
    | with_reducible refine State.setFld_same _ _ _ _ (Wr.sub (by decide) hw) ?_
    | with_reducible refine State.putEntry_same _ _ _ _ _ _ (Wr.sub (by decide) hw) ?_
    | with_reducible apply Same.each
    | with_reducible apply Same.ite
    | split
    | (with_reducible apply Same.zeta); split

def State.loadStored_parts : Nat := 0x3ffffea
theorem State.loadStored_same {P : Part} {s0 : State} (s : State) (hw : State.loadStored_parts.testBit P.ctorIdx = false)
    (h : Same P s0 s) :
    Same P s0 (State.loadStored s) := by
  unfold State.loadStored
  repeat' first
    | with_reducible assumption
    | intro _
    | with_reducible refine State.loadSet_same _ _ (Wr.sub (by decide) hw) ?_
    | with_reducible apply Same.each
    | with_reducible apply Same.ite
    | fail_if_no_progress with_reducible refine Same.updDict (W := State.loadStored_parts) (by decide) hw ?_
    | split
    | (with_reducible apply Same.zeta); split

def execLibraryInit_parts : Nat := 0x3ffffea
theorem execLibraryInit_same {P : Part} {s0 : State} (supported : Bool) (nand : Bool) (pageL2 : Nat) (eraseL2 : Nat)
    (blocks : Nat) (dir : List (Nat × Nat × Nat × Nat)) (recs : List (Nat × Nat × Nat × Nat × List Nat)) (finals : List
    (List Nat)) (s : State) (hw : execLibraryInit_parts.testBit P.ctorIdx = false) (h : Same P s0 s) :
    SameOut P s0 (execLibraryInit supported nand pageL2 eraseL2 blocks dir recs finals s) := by
  unfold execLibraryInit
  repeat' first
    | with_reducible assumption
    | with_reducible apply SameOut.next
    | intro _
    | with_reducible refine State.libInit_same _ _ _ _ _ _ _ _ _ (Wr.sub (by decide) hw) ?_
    | with_reducible refine State.copyRepairs_same _ (Wr.sub (by decide) hw) ?_
    | with_reducible refine State.loadStored_same _ (Wr.sub (by decide) hw) ?_
    | with_reducible apply Same.whenIf
    | split
    | dsimp only; split

def State.stallEngine_parts : Nat := 0x1f59f42
theorem State.stallEngine_same {P : Part} {s0 : State} (s : State) (site : Nat) (hw : State.stallEngine_parts.testBit
    P.ctorIdx = false) (h : Same P s0 s) :
    Same P s0 (State.stallEngine s site) := by
  unfold State.stallEngine
  repeat' first
    | with_reducible assumption
    | intro _
    | with_reducible refine State.engineFault_same _ _ _ (Wr.sub (by decide) hw) ?_
    | with_reducible refine State.setCopy_same _ _ _ _ (Wr.sub (by decide) hw) ?_
    | with_reducible refine State.consumeSpare_same _ _ (Wr.sub (by decide) hw) ?_
    | with_reducible refine State.recordRepair_same _ _ _ _ _ (Wr.sub (by decide) hw) ?_
    | with_reducible refine State.setFld_same _ _ _ _ (Wr.sub (by decide) hw) ?_
    | with_reducible refine State.reserveGone_same _ _ (Wr.sub (by decide) hw) ?_
    | with_reducible apply Same.whenIf
    | with_reducible apply Same.ite
    | split
    | (with_reducible apply Same.zeta); split

def State.stallCore_parts : Nat := 0x802
theorem State.stallCore_same {P : Part} {s0 : State} (s : State) (c : Nat) (hw : State.stallCore_parts.testBit P.ctorIdx =
    false) (h : Same P s0 s) :
    Same P s0 (State.stallCore s c) := by
  unfold State.stallCore
  repeat' first
    | with_reducible assumption
    | intro _
    | with_reducible refine State.raiseCore_same _ _ _ (Wr.sub (by decide) hw) ?_
    | fail_if_no_progress with_reducible refine Same.updTut (W := State.stallCore_parts) (by decide) hw ?_
    | split
    | (with_reducible apply Same.zeta); split

def State.stallVoter_parts : Nat := 0x1f7bfea
theorem State.stallVoter_same {P : Part} {s0 : State} (s : State) (v : Nat) (hw : State.stallVoter_parts.testBit P.ctorIdx
    = false) (h : Same P s0 s) :
    Same P s0 (State.stallVoter s v) := by
  unfold State.stallVoter
  repeat' first
    | with_reducible assumption
    | intro _
    | with_reducible refine State.passLost_same _ _ _ (Wr.sub (by decide) hw) ?_
    | with_reducible refine State.retireVoter_same _ _ _ (Wr.sub (by decide) hw) ?_
    | with_reducible apply Same.each
    | with_reducible apply Same.ite
    | split
    | (with_reducible apply Same.zeta); split

def State.stallIsland_parts : Nat := 0x1f7bfea
theorem State.stallIsland_same {P : Part} {s0 : State} (s : State) (i : Nat) (hw : State.stallIsland_parts.testBit
    P.ctorIdx = false) (h : Same P s0 s) :
    Same P s0 (State.stallIsland s i) := by
  unfold State.stallIsland
  repeat' first
    | with_reducible assumption
    | intro _
    | with_reducible refine State.stallEngine_same _ _ (Wr.sub (by decide) hw) ?_
    | with_reducible refine State.stallCore_same _ _ (Wr.sub (by decide) hw) ?_
    | with_reducible refine State.stallSlice_same _ _ (Wr.sub (by decide) hw) ?_
    | with_reducible refine State.portFault_same _ _ _ _ (Wr.sub (by decide) hw) ?_
    | with_reducible refine State.advanceEpoch_same _ _ _ (Wr.sub (by decide) hw) ?_
    | with_reducible refine State.retireBank_same _ _ (Wr.sub (by decide) hw) ?_
    | with_reducible refine State.stallVoter_same _ _ (Wr.sub (by decide) hw) ?_
    | with_reducible refine State.retireRoot_same _ _ (Wr.sub (by decide) hw) ?_
    | with_reducible apply Same.ite
    | fail_if_no_progress with_reducible refine Same.updInteg (W := State.stallIsland_parts) (by decide) hw ?_
    | split
    | (with_reducible apply Same.zeta); split

def execHandshakeStall_parts : Nat := 0x1f7bfea
theorem execHandshakeStall_same {P : Part} {s0 : State} (silent : Nat) (other : Nat) (receiver : Bool) (cmdPort : Option
    Nat) (s : State) (hw : execHandshakeStall_parts.testBit P.ctorIdx = false) (h : Same P s0 s) :
    SameOut P s0 (execHandshakeStall silent other receiver cmdPort s) := by
  unfold execHandshakeStall
  repeat' first
    | with_reducible assumption
    | with_reducible apply SameOut.next
    | with_reducible apply SameOut.ite
    | intro _
    | with_reducible refine State.event_same _ _ _ _ _ (Wr.sub (by decide) hw) ?_
    | with_reducible refine State.count_same _ _ _ (Wr.sub (by decide) hw) ?_
    | with_reducible refine State.linkFault_same _ _ (Wr.sub (by decide) hw) ?_
    | with_reducible refine State.stallIsland_same _ _ (Wr.sub (by decide) hw) ?_
    | with_reducible refine State.portFault_same _ _ _ _ (Wr.sub (by decide) hw) ?_
    | with_reducible apply Same.whenIf
    | with_reducible apply Same.ite
    | split
    | dsimp only; split

end Sys2Proof.Machine
end

