-- ==== Sys2Proof/Laws/StillLibrary.lean ====
section
/-!
SUPPORT. Which register fields the operations of Machine/Library.lean can write (Laws/Still.lean), as bits by the field's number, and
that they leave every other as it was.
-/
namespace Sys2Proof.Machine

set_option linter.unusedTactic false
set_option linter.unreachableTactic false

def State.libEvent_writes : Nat :=
    0x100220000000000000000000000000000000000000000000000000000000000000000000000000000000000000000000000000000000000000000000000000000000000000000000000000
theorem State.libEvent_still {F : Fld} {I V : Nat} (s : State) (code : Nat) (area : Nat) (block : Nat) (seq : Nat) (hw :
    State.libEvent_writes.testBit F.ctorIdx = false) (h : Still F I V s) :
    Still F I V (State.libEvent s code area block seq) := by
  unfold State.libEvent
  repeat' first
    | with_reducible assumption
    | intro _
    | with_reducible refine State.emit_still _ _ _ (Wr.sub (by decide) hw) ?_
    | split
    | (with_reducible apply Still.upd); split

def State.burLate_writes : Nat :=
    0x100220000000000000000000000000000000000000000000000000000000000000000000000000000000000000000000000000000000000000000000000000000000000000000000000000
theorem State.burLate_still {F : Fld} {I V : Nat} (s : State) (payload : Nat) (hw : State.burLate_writes.testBit F.ctorIdx
    = false) (h : Still F I V s) :
    Still F I V (State.burLate s payload) := by
  unfold State.burLate
  repeat' first
    | with_reducible assumption
    | intro _
    | with_reducible refine State.emit_still _ _ _ (Wr.sub (by decide) hw) ?_
    | with_reducible apply Still.ite
    | fail_if_no_progress with_reducible apply Still.upd
    | split
    | (with_reducible apply Still.upd); split

def State.mgmtEvent_writes : Nat :=
    0x100220000000000000000000000000000000000000000000000000000000000000000000000000000000000000000000000000000000000000000000000000000000000000000000000000
theorem State.mgmtEvent_still {F : Fld} {I V : Nat} (s : State) (code : Nat) (g : Nat) (reason : Nat) (entry : Nat) (hw :
    State.mgmtEvent_writes.testBit F.ctorIdx = false) (h : Still F I V s) :
    Still F I V (State.mgmtEvent s code g reason entry) := by
  unfold State.mgmtEvent
  repeat' first
    | with_reducible assumption
    | intro _
    | with_reducible refine State.emit_still _ _ _ (Wr.sub (by decide) hw) ?_
    | split
    | (with_reducible apply Still.upd); split

def State.libShow_writes : Nat :=
    0x100220000000000000000000000009800100000000000000000000000000000000000000000000000000000000000000000000000000000000000000000000000000000000000000000000
theorem State.libShow_still {F : Fld} {I V : Nat} (s : State) (was : Nat) (hw : State.libShow_writes.testBit F.ctorIdx =
    false) (h : Still F I V s) :
    Still F I V (State.libShow s was) := by
  unfold State.libShow
  repeat' first
    | with_reducible assumption
    | intro _
    | with_reducible refine State.setFld_still _ _ _ _ (W := State.libShow_writes) ?_ hw ?_
    | decide
    | with_reducible refine State.libEvent_still _ _ _ _ _ (Wr.sub (by decide) hw) ?_
    | with_reducible apply Still.whenIf
    | with_reducible apply Still.foldl
    | split
    | (with_reducible apply Still.upd); split

theorem State.written_still {F : Fld} {I V : Nat} (s : State) (b : Nat) (h : Still F I V s) :
    Still F I V (State.written s b) := by
  unfold State.written
  repeat' first
    | with_reducible assumption
    | intro _
    | fail_if_no_progress with_reducible apply Still.upd
    | split
    | (with_reducible apply Still.upd); split

theorem State.remapBlock_still {F : Fld} {I V : Nat} (s : State) (old : Nat) (new : Nat) (h : Still F I V s) :
    Still F I V (State.remapBlock s old new) := by
  unfold State.remapBlock
  repeat' first
    | with_reducible assumption
    | intro _
    | with_reducible refine State.written_still _ _ ?_
    | with_reducible apply Still.ite
    | fail_if_no_progress with_reducible apply Still.upd
    | split
    | (with_reducible apply Still.upd); split

theorem State.rotate_still {F : Fld} {I V : Nat} (s : State) (a : Nat) (h : Still F I V s) :
    Still F I V (State.rotate s a) := by
  unfold State.rotate
  repeat' first
    | with_reducible assumption
    | intro _
    | fail_if_no_progress with_reducible apply Still.upd
    | split
    | (with_reducible apply Still.upd); split

theorem State.placeRecord_still {F : Fld} {I V : Nat} (s : State) (r : LibReq) (h : Still F I V s) :
    ∀ t, (State.placeRecord s r) = some t → Still F I V t.2 := by
  unfold State.placeRecord
  intro t e
  dsimp only at e
  repeat' split at e
  all_goals first
    | (cases e; done)
    | (cases e; exact State.written_still _ _ h)
    | (cases e; exact State.written_still _ _ (State.rotate_still _ _ h))

def State.refuseBurst_writes : Nat :=
    0x1003a0000000000000000000000004000000000000000000000000000000400000000000000000000000000000000000000000000000000000000000000000000000000800000000000000
theorem State.refuseBurst_still {F : Fld} {I V : Nat} (s : State) (r : LibReq) (hw : State.refuseBurst_writes.testBit
    F.ctorIdx = false) (h : Still F I V s) :
    Still F I V (State.refuseBurst s r) := by
  unfold State.refuseBurst
  repeat' first
    | with_reducible assumption
    | intro _
    | with_reducible refine State.setFld_still _ _ _ _ (W := State.refuseBurst_writes) ?_ hw ?_
    | with_reducible refine State.count_still _ _ _ (W := State.refuseBurst_writes) ?_ hw ?_
    | decide
    | with_reducible refine State.libEvent_still _ _ _ _ _ (Wr.sub (by decide) hw) ?_
    | with_reducible refine State.finishCmd_still _ _ _ _ _ (Wr.sub (by decide) hw) ?_
    | with_reducible refine State.mgmtEvent_still _ _ _ _ _ (Wr.sub (by decide) hw) ?_
    | with_reducible refine State.burLate_still _ _ (Wr.sub (by decide) hw) ?_
    | with_reducible apply Still.whenIf
    | with_reducible apply Still.ite
    | fail_if_no_progress with_reducible apply Still.upd
    | split
    | (with_reducible apply Still.upd); split

def State.startRecord_writes : Nat :=
    0x1003a0000000000000000000000004000040000000000000000000000000400000000000000000000000000000000000000000000000000000000000000000000000003800000000000000
theorem State.startRecord_still {F : Fld} {I V : Nat} (s : State) (r : LibReq) (byCaretaker : Bool) (hw :
    State.startRecord_writes.testBit F.ctorIdx = false) (h : Still F I V s) :
    Still F I V (State.startRecord s r byCaretaker) := by
  unfold State.startRecord
  repeat' first
    | with_reducible assumption
    | intro _
    | with_reducible refine State.setFld_still _ _ _ _ (W := State.startRecord_writes) ?_ hw ?_
    | decide
    | with_reducible refine State.placeRecord_still _ _ ?_ _ (by assumption)
    | with_reducible refine State.refuseBurst_still _ _ (Wr.sub (by decide) hw) ?_
    | with_reducible refine State.admitBurst_still _ _ _ (Wr.sub (by decide) hw) ?_
    | with_reducible refine State.leaveOctal_still _ (Wr.sub (by decide) hw) ?_
    | with_reducible apply Still.whenIf
    | with_reducible apply Still.ite
    | fail_if_no_progress with_reducible apply Still.upd
    | split
    | (with_reducible apply Still.upd); split

def State.startWork_writes : Nat :=
    0x1003a0000000000000000000000004000000000000000000000000000000400000000000000000000000000000000000000000000000000000000000000000000000001800000000000000
theorem State.startWork_still {F : Fld} {I V : Nat} (s : State) (r : LibReq) (b : Nat) (hw : State.startWork_writes.testBit
    F.ctorIdx = false) (h : Still F I V s) :
    Still F I V (State.startWork s r b) := by
  unfold State.startWork
  repeat' first
    | with_reducible assumption
    | intro _
    | with_reducible refine State.admitBurst_still _ _ _ (Wr.sub (by decide) hw) ?_
    | with_reducible refine State.refuseBurst_still _ _ (Wr.sub (by decide) hw) ?_
    | with_reducible apply Still.ite
    | fail_if_no_progress with_reducible apply Still.upd
    | split
    | (with_reducible apply Still.upd); split

def State.startBurst_writes : Nat :=
    0x1003a0000000000000000000000004000040000000000000000000000000400000000000000000000000000000000000000000000000000000000000000000000000003800000000000000
theorem State.startBurst_still {F : Fld} {I V : Nat} (s : State) (r : LibReq) (byCaretaker : Bool) (hw :
    State.startBurst_writes.testBit F.ctorIdx = false) (h : Still F I V s) :
    Still F I V (State.startBurst s r byCaretaker) := by
  unfold State.startBurst
  repeat' first
    | with_reducible assumption
    | intro _
    | with_reducible refine State.startWork_still _ _ _ (Wr.sub (by decide) hw) ?_
    | with_reducible refine State.startRecord_still _ _ _ (Wr.sub (by decide) hw) ?_
    | with_reducible refine State.refuseBurst_still _ _ (Wr.sub (by decide) hw) ?_
    | with_reducible apply Still.ite
    | fail_if_no_progress with_reducible apply Still.upd
    | split
    | (with_reducible apply Still.upd); split

def State.serveN_writes : Nat :=
    0x1003a0000000000000000000000004000040000000000000000000000000400000000000000000000000000000000000000000000000000000000000000000000000003800000000000000
theorem State.serveN_still {F : Fld} {I V : Nat} (x0 : Nat) (x1 : State) (hw : State.serveN_writes.testBit F.ctorIdx =
    false) (h : Still F I V x1) :
    Still F I V (State.serveN x0 x1) := by
  induction x0 generalizing x1 with
  | zero => exact h
  | succ n ih =>
    unfold State.serveN
    dsimp only
    split
    · exact h
    · split
      · exact h
      · exact ih _ (State.startBurst_still _ _ _ (Wr.sub (by decide) hw) h)

def State.serve_writes : Nat :=
    0x1003a0000000000000000000000004000040000000000000000000000000400000000000000000000000000000000000000000000000000000000000000000000000003800000000000000
theorem State.serve_still {F : Fld} {I V : Nat} (s : State) (hw : State.serve_writes.testBit F.ctorIdx = false) (h : Still
    F I V s) :
    Still F I V (State.serve s) := by
  unfold State.serve
  repeat' first
    | with_reducible assumption
    | intro _
    | with_reducible refine State.serveN_still _ _ (Wr.sub (by decide) hw) ?_
    | split
    | (with_reducible apply Still.upd); split

def State.libSubmit_writes : Nat :=
    0x1003a0000000000000000000000004000040000000000000000000000000400000000000000000000000000000000000000000000000000000000000000000000000003800000000000000
theorem State.libSubmit_still {F : Fld} {I V : Nat} (s : State) (r : LibReq) (hw : State.libSubmit_writes.testBit F.ctorIdx
    = false) (h : Still F I V s) :
    Still F I V (State.libSubmit s r) := by
  unfold State.libSubmit
  repeat' first
    | with_reducible assumption
    | intro _
    | with_reducible refine State.serve_still _ (Wr.sub (by decide) hw) ?_
    | fail_if_no_progress with_reducible apply Still.upd
    | split
    | (with_reducible apply Still.upd); split

def State.askErase_writes : Nat :=
    0x1003a0000000000000000000000004000040000000000000000000000000400000000000000000000000000000000000000000000000000000000000000000000000003800000000000000
theorem State.askErase_still {F : Fld} {I V : Nat} (s : State) (a : Nat) (b : Nat) (hw : State.askErase_writes.testBit
    F.ctorIdx = false) (h : Still F I V s) :
    Still F I V (State.askErase s a b) := by
  unfold State.askErase
  repeat' first
    | with_reducible assumption
    | intro _
    | with_reducible refine State.libSubmit_still _ _ (Wr.sub (by decide) hw) ?_
    | with_reducible apply Still.ite
    | split
    | (with_reducible apply Still.upd); split

def State.askCopy_writes : Nat :=
    0x1003a0000000000000000000000004000040000000000000000000000000400000000000000000000000000000000000000000000000000000000000000000000000003800000000000000
theorem State.askCopy_still {F : Fld} {I V : Nat} (s : State) (a : Nat) (old : Nat) (new : Nat) (refresh : Bool) (bad :
    Bool) (hw : State.askCopy_writes.testBit F.ctorIdx = false) (h : Still F I V s) :
    Still F I V (State.askCopy s a old new refresh bad) := by
  unfold State.askCopy
  repeat' first
    | with_reducible assumption
    | intro _
    | with_reducible refine State.libSubmit_still _ _ (Wr.sub (by decide) hw) ?_
    | split
    | (with_reducible apply Still.upd); split

def State.libPrepare_writes : Nat :=
    0x1003a000000000000000000000000d800140000000000000000000000000400000000000000000000000000000000000000000000000000000000000000000000000003800000000000000
theorem State.libPrepare_still {F : Fld} {I V : Nat} (s : State) (hw : State.libPrepare_writes.testBit F.ctorIdx = false)
    (h : Still F I V s) :
    Still F I V (State.libPrepare s) := by
  unfold State.libPrepare
  repeat' first
    | with_reducible assumption
    | intro _
    | with_reducible refine State.askErase_still _ _ _ (Wr.sub (by decide) hw) ?_
    | with_reducible refine State.libShow_still _ _ (Wr.sub (by decide) hw) ?_
    | with_reducible apply Still.whenIf
    | with_reducible apply Still.each
    | split
    | (with_reducible apply Still.upd); split

def State.libRecord_writes : Nat :=
    0x1003a0000000000000000000000004000040000000000000000000000000400000000000000000000000000000000000000000000000000000000000000000000000003800000000000000
theorem State.libRecord_still {F : Fld} {I V : Nat} (s : State) (client : Nat) (area : Nat) (type : Nat) (payload : List
    Nat) (hw : State.libRecord_writes.testBit F.ctorIdx = false) (h : Still F I V s) :
    Still F I V (State.libRecord s client area type payload) := by
  unfold State.libRecord
  repeat' first
    | with_reducible assumption
    | intro _
    | with_reducible refine State.libSubmit_still _ _ (Wr.sub (by decide) hw) ?_
    | split
    | (with_reducible apply Still.upd); split

def State.dirUpdate_writes : Nat :=
    0x1003a0000000000000000000000004000040000000000000000000000000400000000000000000000000000000000000000000000000000000000000000000000000003800000000000000
theorem State.dirUpdate_still {F : Fld} {I V : Nat} (s : State) (remap : Option (Nat × Nat)) (refresh : Bool) (hw :
    State.dirUpdate_writes.testBit F.ctorIdx = false) (h : Still F I V s) :
    Still F I V (State.dirUpdate s remap refresh) := by
  unfold State.dirUpdate
  repeat' first
    | with_reducible assumption
    | intro _
    | with_reducible refine State.libSubmit_still _ _ (Wr.sub (by decide) hw) ?_
    | split
    | (with_reducible apply Still.upd); split

theorem State.modBurstRecord_still {F : Fld} {I V : Nat} (s : State) (b : LibBurst) (f : LibRecord → LibRecord) (h : Still
    F I V s) :
    Still F I V (State.modBurstRecord s b f) := by
  unfold State.modBurstRecord
  repeat' first
    | with_reducible assumption
    | intro _
    | with_reducible apply Still.ite
    | fail_if_no_progress with_reducible apply Still.upd
    | split
    | (with_reducible apply Still.upd); split

def State.markBad_writes : Nat :=
    0x100220000000000000000000000009800100000000000000000000000000000000000000000000000000000000000000000000000000000000000000000000000000000000000000000000
theorem State.markBad_still {F : Fld} {I V : Nat} (s : State) (a : Nat) (b : Nat) (seq : Nat) (hw :
    State.markBad_writes.testBit F.ctorIdx = false) (h : Still F I V s) :
    Still F I V (State.markBad s a b seq) := by
  unfold State.markBad
  repeat' first
    | with_reducible assumption
    | intro _
    | with_reducible refine State.libShow_still _ _ (Wr.sub (by decide) hw) ?_
    | with_reducible refine State.libEvent_still _ _ _ _ _ (Wr.sub (by decide) hw) ?_
    | fail_if_no_progress with_reducible apply Still.upd
    | split
    | (with_reducible apply Still.upd); split

def State.badBlock_writes : Nat :=
    0x1003a000000000000000000000000dc00140000000000000000000000000400000000000000000000000000000000000000000000000000000000000000000000000003800000000000000
theorem State.badBlock_still {F : Fld} {I V : Nat} (s : State) (a : Nat) (b : Nat) (seq : Nat) (hw :
    State.badBlock_writes.testBit F.ctorIdx = false) (h : Still F I V s) :
    Still F I V (State.badBlock s a b seq) := by
  unfold State.badBlock
  repeat' first
    | with_reducible assumption
    | intro _
    | with_reducible refine State.count_still _ _ _ (W := State.badBlock_writes) ?_ hw ?_
    | decide
    | with_reducible refine State.markBad_still _ _ _ _ (Wr.sub (by decide) hw) ?_
    | with_reducible refine State.askCopy_still _ _ _ _ _ _ (Wr.sub (by decide) hw) ?_
    | with_reducible refine State.libEvent_still _ _ _ _ _ (Wr.sub (by decide) hw) ?_
    | with_reducible apply Still.ite
    | fail_if_no_progress with_reducible apply Still.upd
    | split
    | (with_reducible apply Still.upd); split

def State.operationFails_writes : Nat :=
    0x1003a000000000000000000000000dc00140000000000000000000000000400000000000000000000000000000000000000000000000000000000000000000000000003800000000000000
theorem State.operationFails_still {F : Fld} {I V : Nat} (s : State) (b : LibBurst) (hw :
    State.operationFails_writes.testBit F.ctorIdx = false) (h : Still F I V s) :
    Still F I V (State.operationFails s b) := by
  unfold State.operationFails
  repeat' first
    | with_reducible assumption
    | intro _
    | with_reducible refine State.badBlock_still _ _ _ _ (Wr.sub (by decide) hw) ?_
    | with_reducible refine State.askCopy_still _ _ _ _ _ _ (Wr.sub (by decide) hw) ?_
    | with_reducible refine State.finishCmd_still _ _ _ _ _ (Wr.sub (by decide) hw) ?_
    | with_reducible apply Still.each
    | with_reducible apply Still.ite
    | fail_if_no_progress with_reducible apply Still.upd
    | split
    | (with_reducible apply Still.upd); split

def State.workDone_writes : Nat :=
    0x1003a000000000000000000000000d800140000000000000000000000000400000000000000000000000000000000000000000000000000000000000000000000000003800000000000000
theorem State.workDone_still {F : Fld} {I V : Nat} (s : State) (b : LibBurst) (hw : State.workDone_writes.testBit F.ctorIdx
    = false) (h : Still F I V s) :
    Still F I V (State.workDone s b) := by
  unfold State.workDone
  repeat' first
    | with_reducible assumption
    | intro _
    | with_reducible refine State.libShow_still _ _ (Wr.sub (by decide) hw) ?_
    | with_reducible refine State.erased_still _ _ ?_
    | with_reducible refine State.dirUpdate_still _ _ _ (Wr.sub (by decide) hw) ?_
    | with_reducible refine State.remapBlock_still _ _ _ ?_
    | with_reducible refine State.markBad_still _ _ _ _ (Wr.sub (by decide) hw) ?_
    | with_reducible apply Still.ite
    | fail_if_no_progress with_reducible apply Still.upd
    | split
    | (with_reducible apply Still.upd); split

def execFlashOperationComplete_writes : Nat :=
    0x1003a000000000000000000000000dc00140000000000000000000000000400000000000000000000000000000000000000000000000000000000000000000000000003800000000000000
theorem execFlashOperationComplete_still {F : Fld} {I V : Nat} (ok : Bool) (s : State) (hw :
    execFlashOperationComplete_writes.testBit F.ctorIdx = false) (h : Still F I V s) :
    StillOut F I V (execFlashOperationComplete ok s) := by
  unfold execFlashOperationComplete
  repeat' first
    | with_reducible assumption
    | with_reducible apply StillOut.next
    | with_reducible apply StillOut.ite
    | intro _
    | with_reducible refine State.operationFails_still _ _ (Wr.sub (by decide) hw) ?_
    | with_reducible refine State.workDone_still _ _ (Wr.sub (by decide) hw) ?_
    | with_reducible apply Still.whenIf
    | with_reducible apply Still.ite
    | fail_if_no_progress with_reducible apply Still.upd
    | split
    | dsimp only; split

def State.refreshNext_writes : Nat :=
    0x1003a00000000000000000000000040000c0000000000000000000000000400000000000000000000000000000000000000000000000000000000000000000000000003800000000000000
theorem State.refreshNext_still {F : Fld} {I V : Nat} (s : State) (hw : State.refreshNext_writes.testBit F.ctorIdx = false)
    (h : Still F I V s) :
    Still F I V (State.refreshNext s) := by
  unfold State.refreshNext
  repeat' first
    | with_reducible assumption
    | intro _
    | with_reducible refine State.setFld_still _ _ _ _ (W := State.refreshNext_writes) ?_ hw ?_
    | decide
    | with_reducible refine State.askCopy_still _ _ _ _ _ _ (Wr.sub (by decide) hw) ?_
    | split
    | (with_reducible apply Still.upd); split

def execLibraryRefresh_writes : Nat :=
    0x1003a000000000000000000000000d8001c0000000000000000000000000400000000000000000000000000000000000000000000000000000000000000000000000003800000000000000
theorem execLibraryRefresh_still {F : Fld} {I V : Nat} (s : State) (hw : execLibraryRefresh_writes.testBit F.ctorIdx =
    false) (h : Still F I V s) :
    StillOut F I V (execLibraryRefresh s) := by
  unfold execLibraryRefresh
  repeat' first
    | with_reducible assumption
    | with_reducible apply StillOut.next
    | with_reducible apply StillOut.ite
    | intro _
    | with_reducible refine State.refreshNext_still _ (Wr.sub (by decide) hw) ?_
    | with_reducible refine State.libPrepare_still _ (Wr.sub (by decide) hw) ?_
    | with_reducible apply Still.ite
    | split
    | dsimp only; split

def execWearLevelRelocate_writes : Nat :=
    0x1003a0000000000000000000000004000040000000000000000000000000400000000000000000000000000000000000000000000000000000000000000000000000003800000000000000
theorem execWearLevelRelocate_still {F : Fld} {I V : Nat} (s : State) (hw : execWearLevelRelocate_writes.testBit F.ctorIdx
    = false) (h : Still F I V s) :
    StillOut F I V (execWearLevelRelocate s) := by
  unfold execWearLevelRelocate
  repeat' first
    | with_reducible assumption
    | with_reducible apply StillOut.next
    | with_reducible apply StillOut.ite
    | intro _
    | with_reducible refine State.askCopy_still _ _ _ _ _ _ (Wr.sub (by decide) hw) ?_
    | with_reducible apply Still.ite
    | split
    | dsimp only; split

def State.committed_writes : Nat :=
    0x1003a000000000000000000000000f8001c0000000000000000000000002400000000000000000000000000000000000000000000000000000000000000000000000003800000000000000
theorem State.committed_still {F : Fld} {I V : Nat} (s : State) (b : LibBurst) (hw : State.committed_writes.testBit
    F.ctorIdx = false) (h : Still F I V s) :
    Still F I V (State.committed s b) := by
  unfold State.committed
  repeat' first
    | with_reducible assumption
    | intro _
    | with_reducible refine State.setFld_still _ _ _ _ (W := State.committed_writes) ?_ hw ?_
    | with_reducible refine State.count_still _ _ _ (W := State.committed_writes) ?_ hw ?_
    | decide
    | with_reducible refine State.libShow_still _ _ (Wr.sub (by decide) hw) ?_
    | with_reducible refine State.remapBlock_still _ _ _ ?_
    | with_reducible refine State.askErase_still _ _ _ (Wr.sub (by decide) hw) ?_
    | with_reducible refine State.refreshNext_still _ (Wr.sub (by decide) hw) ?_
    | with_reducible refine State.mgmtEvent_still _ _ _ _ _ (Wr.sub (by decide) hw) ?_
    | with_reducible refine State.modGroup_still _ _ _ ?_
    | with_reducible apply Still.ite
    | fail_if_no_progress with_reducible apply Still.upd
    | split
    | (with_reducible apply Still.upd); split

def execRecordCommit_writes : Nat :=
    0x1003a000000000000000000000000f8001c0000000000000000000000002400000000000000000000000000000000000000000000000000000000000000000000000003800000000000000
theorem execRecordCommit_still {F : Fld} {I V : Nat} (s : State) (hw : execRecordCommit_writes.testBit F.ctorIdx = false)
    (h : Still F I V s) :
    StillOut F I V (execRecordCommit s) := by
  unfold execRecordCommit
  repeat' first
    | with_reducible assumption
    | with_reducible apply StillOut.next
    | with_reducible apply StillOut.ite
    | intro _
    | with_reducible refine State.modBurstRecord_still _ _ _ ?_
    | with_reducible refine State.finishCmd_still _ _ _ _ _ (Wr.sub (by decide) hw) ?_
    | with_reducible refine State.committed_still _ _ (Wr.sub (by decide) hw) ?_
    | with_reducible apply Still.ite
    | fail_if_no_progress with_reducible apply Still.upd
    | split
    | dsimp only; split

def State.copyRepairs_writes : Nat :=
    0x1003a0000000000000000000000004000040000000000000000000000000400000000000000000000000000000000000000000000000000000000000000000000000003800000000000000
theorem State.copyRepairs_still {F : Fld} {I V : Nat} (s : State) (hw : State.copyRepairs_writes.testBit F.ctorIdx = false)
    (h : Still F I V s) :
    Still F I V (State.copyRepairs s) := by
  unfold State.copyRepairs
  repeat' first
    | with_reducible assumption
    | intro _
    | with_reducible refine State.libRecord_still _ _ _ _ _ (Wr.sub (by decide) hw) ?_
    | with_reducible apply Still.each
    | split
    | (with_reducible apply Still.upd); split

def execBurstComplete_writes : Nat :=
    0x1003a0000000000000000000000004000040000000000000000000000000400000000000000000000000000000000000000000000000000000000000000000000000003800000000000000
theorem execBurstComplete_still {F : Fld} {I V : Nat} (s : State) (hw : execBurstComplete_writes.testBit F.ctorIdx = false)
    (h : Still F I V s) :
    StillOut F I V (execBurstComplete s) := by
  unfold execBurstComplete
  repeat' first
    | with_reducible assumption
    | with_reducible apply StillOut.next
    | with_reducible apply StillOut.ite
    | intro _
    | with_reducible refine State.copyRepairs_still _ (Wr.sub (by decide) hw) ?_
    | with_reducible refine State.serve_still _ (Wr.sub (by decide) hw) ?_
    | with_reducible apply Still.ite
    | fail_if_no_progress with_reducible apply Still.upd
    | split
    | dsimp only; split

def execAdmissionRequest_writes : Nat :=
    0x1003a0000000000000000000000004000040000000000000000000000000400000000000000000000000000000000000000000000000000000000000000000000000003800000000000000
theorem execAdmissionRequest_still {F : Fld} {I V : Nat} (classes : List Nat) (byCaretaker : Bool) (s : State) (hw :
    execAdmissionRequest_writes.testBit F.ctorIdx = false) (h : Still F I V s) :
    StillOut F I V (execAdmissionRequest classes byCaretaker s) := by
  unfold execAdmissionRequest
  repeat' first
    | with_reducible assumption
    | with_reducible apply StillOut.next
    | with_reducible apply StillOut.ite
    | intro _
    | with_reducible refine State.setFld_still _ _ _ _ (W := execAdmissionRequest_writes) ?_ hw ?_
    | with_reducible refine State.count_still _ _ _ (W := execAdmissionRequest_writes) ?_ hw ?_
    | decide
    | with_reducible refine State.admitBurst_still _ _ _ (Wr.sub (by decide) hw) ?_
    | with_reducible refine State.leaveOctal_still _ (Wr.sub (by decide) hw) ?_
    | with_reducible refine State.libEvent_still _ _ _ _ _ (Wr.sub (by decide) hw) ?_
    | with_reducible refine State.serve_still _ (Wr.sub (by decide) hw) ?_
    | with_reducible apply Still.whenIf
    | with_reducible apply Still.ite
    | split
    | dsimp only; split

def execGaugeSample_writes : Nat :=
    0x1003a0000000000000000000000004000040000000000000000000000000400000000000000000000000000000000000000000000000000000000000000000000002703b68000000000000
theorem execGaugeSample_still {F : Fld} {I V : Nat} (vstore : Nat) (vcell : Nat) (used : Nat) (s : State) (hw :
    execGaugeSample_writes.testBit F.ctorIdx = false) (h : Still F I V s) :
    StillOut F I V (execGaugeSample vstore vcell used s) := by
  unfold execGaugeSample
  repeat' first
    | with_reducible assumption
    | with_reducible apply StillOut.next
    | intro _
    | with_reducible refine State.gaugeSample_still _ _ _ _ (Wr.sub (by decide) hw) ?_
    | with_reducible refine State.copyRepairs_still _ (Wr.sub (by decide) hw) ?_
    | with_reducible refine State.serve_still _ (Wr.sub (by decide) hw) ?_
    | fail_if_no_progress with_reducible apply Still.upd
    | split
    | dsimp only; split

def execLibAppendRecord_writes : Nat :=
    0x1003a0000000000000000000000004000040000000000000000000000000400000000000000000000000000000000000000000000000000000000000000000000000003800000000000000
theorem execLibAppendRecord_still {F : Fld} {I V : Nat} (idx : Nat) (s : State) (hw : execLibAppendRecord_writes.testBit
    F.ctorIdx = false) (h : Still F I V s) :
    StillOut F I V (execLibAppendRecord idx s) := by
  unfold execLibAppendRecord
  repeat' first
    | with_reducible assumption
    | with_reducible apply StillOut.next
    | with_reducible apply StillOut.ite
    | intro _
    | with_reducible refine State.finishCmd_still _ _ _ _ _ (Wr.sub (by decide) hw) ?_
    | with_reducible refine State.libSubmit_still _ _ (Wr.sub (by decide) hw) ?_
    | with_reducible apply Still.ite
    | split
    | dsimp only; split

def State.readRecord_writes : Nat :=
    0x1003a000000000000000000000000df00340000000000000000000000000400000000000000000000000000000000000000000000000000000000000000000000000003800000000000000
theorem State.readRecord_still {F : Fld} {I V : Nat} (s : State) (idx : Nat) (d : Desc) (r : LibRecord) (errs : List Nat)
    (hw : State.readRecord_writes.testBit F.ctorIdx = false) (h : Still F I V s) :
    Still F I V (State.readRecord s idx d r errs) := by
  unfold State.readRecord
  repeat' first
    | with_reducible assumption
    | intro _
    | with_reducible refine State.setFld_still _ _ _ _ (W := State.readRecord_writes) ?_ hw ?_
    | with_reducible refine State.count_still _ _ _ (W := State.readRecord_writes) ?_ hw ?_
    | decide
    | with_reducible refine State.badBlock_still _ _ _ _ (Wr.sub (by decide) hw) ?_
    | with_reducible refine State.finishCmd_still _ _ _ _ _ (Wr.sub (by decide) hw) ?_
    | with_reducible refine State.libEvent_still _ _ _ _ _ (Wr.sub (by decide) hw) ?_
    | with_reducible refine State.satWrite_still _ _ _ ?_
    | (with_reducible refine Still.snd ?_ (by assumption)); with_reducible refine State.satWrite_still _ _ _ ?_
    | with_reducible apply Still.each
    | with_reducible apply Still.ite
    | fail_if_no_progress with_reducible apply Still.upd
    | split
    | (with_reducible apply Still.upd); split

def State.readCommand_writes : Nat :=
    0x1003a000000000000000000000000df00340000000000000000000000000400000000000000000000000000000000000000000000000000000000000000000000000003800000000000000
theorem State.readCommand_still {F : Fld} {I V : Nat} (s : State) (idx : Nat) (op : Nat) (errs : List Nat) (pick : Nat →
    Nat → Nat → Option LibRecord) (hw : State.readCommand_writes.testBit F.ctorIdx = false) (h : Still F I V s) :
    Still F I V (State.readCommand s idx op errs pick) := by
  unfold State.readCommand
  repeat' first
    | with_reducible assumption
    | intro _
    | with_reducible refine State.setFld_still _ _ _ _ (W := State.readCommand_writes) ?_ hw ?_
    | decide
    | with_reducible refine State.finishCmd_still _ _ _ _ _ (Wr.sub (by decide) hw) ?_
    | with_reducible refine State.readRecord_still _ _ _ _ _ (Wr.sub (by decide) hw) ?_
    | with_reducible apply Still.ite
    | split
    | (with_reducible apply Still.upd); split

def execLibReadRecord_writes : Nat :=
    0x1003a000000000000000000000000df00340000000000000000000000000400000000000000000000000000000000000000000000000000000000000000000000000003800000000000000
theorem execLibReadRecord_still {F : Fld} {I V : Nat} (idx : Nat) (errs : List Nat) (s : State) (hw :
    execLibReadRecord_writes.testBit F.ctorIdx = false) (h : Still F I V s) :
    StillOut F I V (execLibReadRecord idx errs s) := by
  unfold execLibReadRecord
  repeat' first
    | with_reducible assumption
    | with_reducible apply StillOut.next
    | intro _
    | with_reducible refine State.readCommand_still _ _ _ _ _ (Wr.sub (by decide) hw) ?_
    | split
    | dsimp only; split

def execLibReadNewest_writes : Nat :=
    0x1003a000000000000000000000000df00340000000000000000000000000400000000000000000000000000000000000000000000000000000000000000000000000003800000000000000
theorem execLibReadNewest_still {F : Fld} {I V : Nat} (idx : Nat) (errs : List Nat) (s : State) (hw :
    execLibReadNewest_writes.testBit F.ctorIdx = false) (h : Still F I V s) :
    StillOut F I V (execLibReadNewest idx errs s) := by
  unfold execLibReadNewest
  repeat' first
    | with_reducible assumption
    | with_reducible apply StillOut.next
    | intro _
    | with_reducible refine State.readCommand_still _ _ _ _ _ (Wr.sub (by decide) hw) ?_
    | split
    | dsimp only; split

def State.libInit_writes : Nat :=
    0x1003a000000000000000000000000d801d70000000000000000000000000400000000000000000000000000000000000000000000000000000000000000000000000003800000000000000
theorem State.libInit_still {F : Fld} {I V : Nat} (s : State) (supported : Bool) (nand : Bool) (pageL2 : Nat) (eraseL2 :
    Nat) (blocks : Nat) (dir : List (Nat × Nat × Nat × Nat)) (recs : List (Nat × Nat × Nat × Nat × List Nat)) (finals :
    List (List Nat)) (hw : State.libInit_writes.testBit F.ctorIdx = false) (h : Still F I V s) :
    Still F I V (State.libInit s supported nand pageL2 eraseL2 blocks dir recs finals) := by
  unfold State.libInit
  repeat' first
    | with_reducible assumption
    | intro _
    | with_reducible refine State.setFld_still _ _ _ _ (W := State.libInit_writes) ?_ hw ?_
    | with_reducible refine State.setFlag_still _ _ _ _ (W := State.libInit_writes) ?_ hw ?_
    | decide
    | with_reducible refine State.leaveOctal_still _ (Wr.sub (by decide) hw) ?_
    | with_reducible refine State.serve_still _ (Wr.sub (by decide) hw) ?_
    | with_reducible refine State.libShow_still _ _ (Wr.sub (by decide) hw) ?_
    | with_reducible apply Still.foldl
    | with_reducible apply Still.ite
    | fail_if_no_progress with_reducible apply Still.upd
    | split
    | (with_reducible apply Still.upd); split

end Sys2Proof.Machine
end

