-- ==== Sys2Proof/Laws/StillClock.lean ====
section
/-!
SUPPORT. Which register fields the operations of Machine/Clock.lean can write (Laws/Still.lean), as bits by the field's number, and
that they leave every other as it was.
-/
namespace Sys2Proof.Machine

set_option linter.unusedTactic false
set_option linter.unreachableTactic false

theorem State.edgeTick_still {F : Fld} {I V : Nat} (s : State) (h : Still F I V s) :
    Still F I V (State.edgeTick s) := by
  unfold State.edgeTick
  repeat' first
    | with_reducible assumption
    | intro _
    | fail_if_no_progress with_reducible apply Still.upd
    | split
    | (with_reducible apply Still.upd); split

theorem State.takeRate_still {F : Fld} {I V : Nat} (s : State) (d : Int) (h : Still F I V s) :
    Still F I V (State.takeRate s d) := by
  unfold State.takeRate
  repeat' first
    | with_reducible assumption
    | intro _
    | fail_if_no_progress with_reducible apply Still.upd
    | split
    | (with_reducible apply Still.upd); split

def State.takePhase_writes : Nat := 0x400000000000000000000000000
theorem State.takePhase_still {F : Fld} {I V : Nat} (s : State) (d : Int) (hw : State.takePhase_writes.testBit F.ctorIdx =
    false) (h : Still F I V s) :
    Still F I V (State.takePhase s d) := by
  unfold State.takePhase
  repeat' first
    | with_reducible assumption
    | intro _
    | with_reducible refine State.setFld_still _ _ _ _ (W := State.takePhase_writes) ?_ hw ?_
    | decide
    | fail_if_no_progress with_reducible apply Still.upd
    | split
    | (with_reducible apply Still.upd); split

theorem State.moveTick_still {F : Fld} {I V : Nat} (s : State) (d : Int) (h : Still F I V s) :
    Still F I V (State.moveTick s d) := by
  unfold State.moveTick
  repeat' first
    | with_reducible assumption
    | intro _
    | fail_if_no_progress with_reducible apply Still.upd
    | split
    | (with_reducible apply Still.upd); split

def execPhaseStep_writes : Nat := 0x400000000000000000000000000
theorem execPhaseStep_still {F : Fld} {I V : Nat} (s : State) (hw : execPhaseStep_writes.testBit F.ctorIdx = false) (h :
    Still F I V s) :
    StillOut F I V (execPhaseStep s) := by
  unfold execPhaseStep
  repeat' first
    | with_reducible assumption
    | with_reducible apply StillOut.next
    | with_reducible apply StillOut.ite
    | intro _
    | with_reducible refine State.takePhase_still _ _ (Wr.sub (by decide) hw) ?_
    | with_reducible refine State.takeRate_still _ _ ?_
    | with_reducible refine State.moveTick_still _ _ ?_
    | with_reducible apply Still.ite
    | split
    | dsimp only; split

def execTbLoRead_writes : Nat :=
    0x100220000000000000000003000000000000000000000000000000000000000000000000000000000000000000000000000000000000000000000000002000000000000000000000000000
theorem execTbLoRead_still {F : Fld} {I V : Nat} (core : Nat) (s : State) (hw : execTbLoRead_writes.testBit F.ctorIdx =
    false) (h : Still F I V s) :
    StillOut F I V (execTbLoRead core s) := by
  unfold execTbLoRead
  repeat' first
    | with_reducible assumption
    | with_reducible apply StillOut.next
    | intro _
    | with_reducible refine State.setFld_still _ _ _ _ (W := execTbLoRead_writes) ?_ hw ?_
    | decide
    | with_reducible refine State.loadBlk_still _ _ _ _ _ (Wr.sub (by decide) hw) ?_ ?_
    | with_reducible refine State.reads_still _ _ ?_
    | split
    | dsimp only; split

theorem execPpsPulse_still {F : Fld} {I V : Nat} (s : State) (h : Still F I V s) :
    StillOut F I V (execPpsPulse s) := by
  unfold execPpsPulse
  repeat' first
    | with_reducible assumption
    | with_reducible apply StillOut.next
    | with_reducible apply StillOut.ite
    | intro _
    | with_reducible apply Still.ite
    | fail_if_no_progress with_reducible apply Still.upd
    | split
    | dsimp only; split

theorem execPpsPulseEnd_still {F : Fld} {I V : Nat} (s : State) (h : Still F I V s) :
    StillOut F I V (execPpsPulseEnd s) := by
  unfold execPpsPulseEnd
  repeat' first
    | with_reducible assumption
    | with_reducible apply StillOut.next
    | intro _
    | fail_if_no_progress with_reducible apply Still.upd
    | split
    | dsimp only; split

theorem State.relaySync_still {F : Fld} {I V : Nat} (s : State) (cycle : Nat) (h : Still F I V s) :
    Still F I V (State.relaySync s cycle) := by
  unfold State.relaySync
  repeat' first
    | with_reducible assumption
    | intro _
    | with_reducible apply Still.whenIf
    | fail_if_no_progress with_reducible apply Still.upd
    | split
    | (with_reducible apply Still.upd); split

def State.syncEdge_writes : Nat := 0x424000000000000000000000000
theorem State.syncEdge_still {F : Fld} {I V : Nat} (s : State) (cycle : Nat) (hw : State.syncEdge_writes.testBit F.ctorIdx
    = false) (h : Still F I V s) :
    Still F I V (State.syncEdge s cycle) := by
  unfold State.syncEdge
  repeat' first
    | with_reducible assumption
    | intro _
    | with_reducible refine State.setFld_still _ _ _ _ (W := State.syncEdge_writes) ?_ hw ?_
    | decide
    | with_reducible refine State.fresh_still _ _ ?_
    | (with_reducible refine Still.snd ?_ (by assumption)); with_reducible refine State.fresh_still _ _ ?_
    | with_reducible apply Still.ite
    | fail_if_no_progress with_reducible apply Still.upd
    | split
    | (with_reducible apply Still.upd); split

def execSyncInEdge_writes : Nat := 0x424000000000000000000000000
theorem execSyncInEdge_still {F : Fld} {I V : Nat} (cycle : Nat) (s : State) (hw : execSyncInEdge_writes.testBit F.ctorIdx
    = false) (h : Still F I V s) :
    StillOut F I V (execSyncInEdge cycle s) := by
  unfold execSyncInEdge
  repeat' first
    | with_reducible assumption
    | with_reducible apply StillOut.next
    | with_reducible apply StillOut.ite
    | intro _
    | with_reducible refine State.relaySync_still _ _ ?_
    | with_reducible refine State.syncEdge_still _ _ (Wr.sub (by decide) hw) ?_
    | with_reducible apply Still.ite
    | split
    | dsimp only; split

def execSyncMissed_writes : Nat :=
    0x100220000000000000000000000000000000000000000000000000000000000000000000000000000000000000000000000000000000000000000000000040000000000000000000000000
theorem execSyncMissed_still {F : Fld} {I V : Nat} (s : State) (hw : execSyncMissed_writes.testBit F.ctorIdx = false) (h :
    Still F I V s) :
    StillOut F I V (execSyncMissed s) := by
  unfold execSyncMissed
  repeat' first
    | with_reducible assumption
    | with_reducible apply StillOut.next
    | with_reducible apply StillOut.ite
    | intro _
    | with_reducible refine State.setFld_still _ _ _ _ (W := execSyncMissed_writes) ?_ hw ?_
    | decide
    | with_reducible refine State.event_still _ _ _ _ _ (Wr.sub (by decide) hw) ?_
    | with_reducible apply Still.ite
    | split
    | dsimp only; split

theorem execSyncOutPulse_still {F : Fld} {I V : Nat} (s : State) (h : Still F I V s) :
    StillOut F I V (execSyncOutPulse s) := by
  unfold execSyncOutPulse
  repeat' first
    | with_reducible assumption
    | with_reducible apply StillOut.next
    | with_reducible apply StillOut.ite
    | intro _
    | with_reducible apply Still.ite
    | fail_if_no_progress with_reducible apply Still.upd
    | split
    | dsimp only; split

def State.clkEnWrite_writes : Nat :=
    0x1002200000000000000000000000000000000000000000000000000000000000000000000000000000000000000000000000000000000000000000000000030c0000000000000000000000
theorem State.clkEnWrite_still {F : Fld} {I V : Nat} (s : State) (a : Bool) (b : Bool) (hw :
    State.clkEnWrite_writes.testBit F.ctorIdx = false) (h : Still F I V s) :
    Still F I V (State.clkEnWrite s a b) := by
  unfold State.clkEnWrite
  repeat' first
    | with_reducible assumption
    | intro _
    | with_reducible refine State.setFld_still _ _ _ _ (W := State.clkEnWrite_writes) ?_ hw ?_
    | with_reducible refine State.setFlag_still _ _ _ _ (W := State.clkEnWrite_writes) ?_ hw ?_
    | decide
    | with_reducible refine State.discarded_still _ _ _ (Wr.sub (by decide) hw) ?_
    | with_reducible apply Still.whenIf
    | with_reducible apply Still.ite
    | split
    | (with_reducible apply Still.upd); split

def execClkEnWrite_writes : Nat :=
    0x1002200000000000000000030000000000000000000000000000000000000000000000000000000000000000000000000000000000000000000000000000030c0000000000000000000000
theorem execClkEnWrite_still {F : Fld} {I V : Nat} (core : Nat) (a : Bool) (b : Bool) (s : State) (hw :
    execClkEnWrite_writes.testBit F.ctorIdx = false) (h : Still F I V s) :
    StillOut F I V (execClkEnWrite core a b s) := by
  unfold execClkEnWrite
  repeat' first
    | with_reducible assumption
    | with_reducible apply StillOut.next
    | intro _
    | with_reducible refine State.accessBlk_still _ _ _ _ _ (Wr.sub (by decide) hw) ?_ ?_
    | with_reducible refine State.clkEnWrite_still _ _ _ (Wr.sub (by decide) hw) ?_
    | split
    | dsimp only; split

def execRcTrim_writes : Nat := 0x200000000000000000000000000000
theorem execRcTrim_still {F : Fld} {I V : Nat} (s : State) (hw : execRcTrim_writes.testBit F.ctorIdx = false) (h : Still F
    I V s) :
    StillOut F I V (execRcTrim s) := by
  unfold execRcTrim
  repeat' first
    | with_reducible assumption
    | with_reducible apply StillOut.next
    | intro _
    | with_reducible refine State.setFlag_still _ _ _ _ (W := execRcTrim_writes) ?_ hw ?_
    | decide
    | split
    | dsimp only; split

def execRtcCrystalStop_writes : Nat := 0x220000000000000000000000000000
theorem execRtcCrystalStop_still {F : Fld} {I V : Nat} (s : State) (hw : execRtcCrystalStop_writes.testBit F.ctorIdx =
    false) (h : Still F I V s) :
    StillOut F I V (execRtcCrystalStop s) := by
  unfold execRtcCrystalStop
  repeat' first
    | with_reducible assumption
    | with_reducible apply StillOut.next
    | intro _
    | with_reducible refine State.setFld_still _ _ _ _ (W := execRtcCrystalStop_writes) ?_ hw ?_
    | decide
    | fail_if_no_progress with_reducible apply Still.upd
    | split
    | dsimp only; split

def execRtcCrystalStart_writes : Nat := 0x20000000000000000000000000000
theorem execRtcCrystalStart_still {F : Fld} {I V : Nat} (s : State) (hw : execRtcCrystalStart_writes.testBit F.ctorIdx =
    false) (h : Still F I V s) :
    StillOut F I V (execRtcCrystalStart s) := by
  unfold execRtcCrystalStart
  repeat' first
    | with_reducible assumption
    | with_reducible apply StillOut.next
    | intro _
    | with_reducible refine State.setFld_still _ _ _ _ (W := execRtcCrystalStart_writes) ?_ hw ?_
    | decide
    | fail_if_no_progress with_reducible apply Still.upd
    | split
    | dsimp only; split

def State.runFraction_writes : Nat := 0x10000000000000000000000000000
theorem State.runFraction_still {F : Fld} {I V : Nat} (s : State) (hw : State.runFraction_writes.testBit F.ctorIdx = false)
    (h : Still F I V s) :
    Still F I V (State.runFraction s) := by
  unfold State.runFraction
  repeat' first
    | with_reducible assumption
    | intro _
    | with_reducible refine State.setFld_still _ _ _ _ (W := State.runFraction_writes) ?_ hw ?_
    | decide
    | with_reducible apply Still.ite
    | fail_if_no_progress with_reducible apply Still.upd
    | split
    | (with_reducible apply Still.upd); split

def execRtcSubRead_writes : Nat :=
    0x1002200000000000000000030000000000000000000000000000000000000000000000000000000000000000000000000000000000000000000000000c0000000000000000000000000000
theorem execRtcSubRead_still {F : Fld} {I V : Nat} (core : Nat) (s : State) (hw : execRtcSubRead_writes.testBit F.ctorIdx =
    false) (h : Still F I V s) :
    StillOut F I V (execRtcSubRead core s) := by
  unfold execRtcSubRead
  repeat' first
    | with_reducible assumption
    | with_reducible apply StillOut.next
    | intro _
    | with_reducible refine State.setFld_still _ _ _ _ (W := execRtcSubRead_writes) ?_ hw ?_
    | decide
    | with_reducible refine State.loadBlk_still _ _ _ _ _ (Wr.sub (by decide) hw) ?_ ?_
    | with_reducible refine State.reads_still _ _ ?_
    | split
    | dsimp only; split

end Sys2Proof.Machine
end

