-- ==== Sys2Proof/Laws/StillTimetable.lean ====
section
/-!
SUPPORT. Which register fields the operations of Machine/Timetable.lean can write (Laws/Still.lean), as bits by the field's number, and
that they leave every other as it was.
-/
namespace Sys2Proof.Machine

set_option linter.unusedTactic false
set_option linter.unreachableTactic false

theorem State.setEngWord_still {F : Fld} {I V : Nat} (s : State) (n : Nat) (idx : Nat) (v : Nat) (h : Still F I V s) :
    Still F I V (State.setEngWord s n idx v) := by
  unfold State.setEngWord
  repeat' first
    | with_reducible assumption
    | intro _
    | fail_if_no_progress with_reducible apply Still.upd
    | split
    | (with_reducible apply Still.upd); split

end Sys2Proof.Machine
end

