-- ==== Sys2Proof/Laws/StillCarrier.lean ====
section
/-!
SUPPORT. Which register fields the operations of Machine/Carrier.lean can write (Laws/Still.lean), as bits by the field's number, and
that they leave every other as it was.
-/
namespace Sys2Proof.Machine

set_option linter.unusedTactic false
set_option linter.unreachableTactic false

theorem State.modPm_still {F : Fld} {I V : Nat} (s : State) (m : Nat) (f : PwmMod → PwmMod) (h : Still F I V s) :
    Still F I V (State.modPm s m f) := by
  unfold State.modPm
  repeat' first
    | with_reducible assumption
    | intro _
    | fail_if_no_progress with_reducible apply Still.upd
    | split
    | (with_reducible apply Still.upd); split

def State.setAct_writes : Nat := 0x7e000000000000000000000000000000000000000000000000000000000000000000
theorem State.setAct_still {F : Fld} {I V : Nat} (s : State) (m : Nat) (w : Nat) (v : Nat) (hw :
    State.setAct_writes.testBit F.ctorIdx = false) (h : Still F I V s) :
    Still F I V (State.setAct s m w v) := by
  unfold State.setAct
  repeat' first
    | with_reducible assumption
    | intro _
    | with_reducible refine State.setFld_still _ _ _ _ (W := State.setAct_writes) ?_ hw ?_
    | decide
    | unfold actHigh; split <;> decide
    | unfold actLow; split <;> decide
    | split
    | (with_reducible apply Still.upd); split

end Sys2Proof.Machine
end

