-- ==== Sys2Proof/Laws/StillBurWords.lean ====
section
/-!
SUPPORT. Which register fields the operations of Machine/BurWords.lean can write (Laws/Still.lean), as bits by the field's number, and
that they leave every other as it was.
-/
namespace Sys2Proof.Machine

set_option linter.unusedTactic false
set_option linter.unreachableTactic false

theorem State.modPoint_still {F : Fld} {I V : Nat} (s : State) (q_1 : Nat) (f : BurPoint → BurPoint) (h : Still F I V s) :
    Still F I V (State.modPoint s q_1 f) := by
  unfold State.modPoint
  repeat' first
    | with_reducible assumption
    | intro _
    | fail_if_no_progress with_reducible apply Still.upd
    | split
    | (with_reducible apply Still.upd); split

theorem State.modPhase_still {F : Fld} {I V : Nat} (s : State) (q_1 : Nat) (x : Nat) (f : BurPhase → BurPhase) (h : Still F
    I V s) :
    Still F I V (State.modPhase s q_1 x f) := by
  unfold State.modPhase
  repeat' first
    | with_reducible assumption
    | intro _
    | with_reducible refine State.modPoint_still _ _ _ ?_
    | split
    | (with_reducible apply Still.upd); split

def State.burEvent_writes : Nat :=
    0x100220000000000000000000000000000000000000000000000000000000000000000000000000000000000000000000000000000000000000000000000000000000000000000000000000
theorem State.burEvent_still {F : Fld} {I V : Nat} (s : State) (code : Nat) (point : Nat) (phases : Nat) (ended : Bool)
    (extreme : Nat) (duration : Nat) (time : Nat) (hw : State.burEvent_writes.testBit F.ctorIdx = false) (h : Still F I V s) :
    Still F I V (State.burEvent s code point phases ended extreme duration time) := by
  unfold State.burEvent
  repeat' first
    | with_reducible assumption
    | intro _
    | with_reducible refine State.emit_still _ _ _ (Wr.sub (by decide) hw) ?_
    | split
    | (with_reducible apply Still.upd); split

def State.burGap_writes : Nat :=
    0x100220000000000000000000000000000000000000000000000000000000800000000000000000000000000000000000000000000000000000000000000000000000000000000000000000
theorem State.burGap_still {F : Fld} {I V : Nat} (s : State) (q_1 : Nat) (x : Nat) (hw : State.burGap_writes.testBit
    F.ctorIdx = false) (h : Still F I V s) :
    Still F I V (State.burGap s q_1 x) := by
  unfold State.burGap
  repeat' first
    | with_reducible assumption
    | intro _
    | with_reducible refine State.setFld_still _ _ _ _ (W := State.burGap_writes) ?_ hw ?_
    | decide
    | with_reducible refine State.modPhase_still _ _ _ _ ?_
    | with_reducible refine State.burEvent_still _ _ _ _ _ _ _ _ (Wr.sub (by decide) hw) ?_
    | with_reducible apply Still.ite
    | split
    | (with_reducible apply Still.upd); split

def State.takeVolt_writes : Nat :=
    0x100220000000000000000000000000000000000000000000000000000000800000000000000000000000000000000000000000000000000000000000000000000000000000000000000000
theorem State.takeVolt_still {F : Fld} {I V : Nat} (s : State) (q_1 : Nat) (x : Nat) (w : SampleWord) (hw :
    State.takeVolt_writes.testBit F.ctorIdx = false) (h : Still F I V s) :
    Still F I V (State.takeVolt s q_1 x w) := by
  unfold State.takeVolt
  repeat' first
    | with_reducible assumption
    | intro _
    | with_reducible refine State.modPhase_still _ _ _ _ ?_
    | with_reducible refine State.burGap_still _ _ _ (Wr.sub (by decide) hw) ?_
    | split
    | (with_reducible apply Still.upd); split

def State.takeAmp_writes : Nat :=
    0x100220000000000000000000000000000000000000000000000000000000800000000000000000000000000000000000000000000000000000000000000000000000000000000000000000
theorem State.takeAmp_still {F : Fld} {I V : Nat} (s : State) (q_1 : Nat) (x : Nat) (w : SampleWord) (hw :
    State.takeAmp_writes.testBit F.ctorIdx = false) (h : Still F I V s) :
    Still F I V (State.takeAmp s q_1 x w) := by
  unfold State.takeAmp
  repeat' first
    | with_reducible assumption
    | intro _
    | with_reducible refine State.modPhase_still _ _ _ _ ?_
    | with_reducible refine State.burGap_still _ _ _ (Wr.sub (by decide) hw) ?_
    | with_reducible apply Still.ite
    | split
    | (with_reducible apply Still.upd); split

def State.bursarTakes_writes : Nat :=
    0x100220000000000000000000000000000000000000000000000000000000800000000000000000000000000000000000000000000000000000000000000000000000000000000000000000
theorem State.bursarTakes_still {F : Fld} {I V : Nat} (s : State) (w : SampleWord) (hw : State.bursarTakes_writes.testBit
    F.ctorIdx = false) (h : Still F I V s) :
    Still F I V (State.bursarTakes s w) := by
  unfold State.bursarTakes
  repeat' first
    | with_reducible assumption
    | intro _
    | with_reducible refine State.takeVolt_still _ _ _ _ (Wr.sub (by decide) hw) ?_
    | with_reducible refine State.takeAmp_still _ _ _ _ (Wr.sub (by decide) hw) ?_
    | with_reducible apply Still.whenIf
    | with_reducible apply Still.each
    | with_reducible apply Still.ite
    | split
    | (with_reducible apply Still.upd); split

end Sys2Proof.Machine
end

