-- ==== Sys2Proof/Laws/StillFabric.lean ====
section
/-!
SUPPORT. Which register fields the operations of Machine/Fabric.lean can write (Laws/Still.lean), as bits by the field's number, and
that they leave every other as it was.
-/
namespace Sys2Proof.Machine

set_option linter.unusedTactic false
set_option linter.unreachableTactic false

theorem State.carry_still {F : Fld} {I V : Nat} (s : State) (sp : Nat) (h : Still F I V s) :
    Still F I V (State.carry s sp) := by
  unfold State.carry
  repeat' first
    | with_reducible assumption
    | intro _
    | fail_if_no_progress with_reducible apply Still.upd
    | split
    | (with_reducible apply Still.upd); split

def State.loadTick_writes : Nat := 0xf00000
theorem State.loadTick_still {F : Fld} {I V : Nat} (s : State) (hw : State.loadTick_writes.testBit F.ctorIdx = false) (h :
    Still F I V s) :
    Still F I V (State.loadTick s) := by
  unfold State.loadTick
  repeat' first
    | with_reducible assumption
    | intro _
    | with_reducible refine State.setFld_still _ _ _ _ (W := State.loadTick_writes) ?_ hw ?_
    | decide
    | unfold loadFld; split <;> decide
    | with_reducible apply Still.each
    | with_reducible apply Still.ite
    | fail_if_no_progress with_reducible apply Still.upd
    | split
    | (with_reducible apply Still.upd); split

def State.capture_writes : Nat :=
    0x1003a0000000000000000003000000000000000000000000000000000000000000000000000000000000000000000000000000000000000000000000000000000000000000000000000000
theorem State.capture_still {F : Fld} {I V : Nat} (s : State) (a : Nat) (w : SampleWord) (hw : State.capture_writes.testBit
    F.ctorIdx = false) (h : Still F I V s) :
    Still F I V (State.capture s a w) := by
  unfold State.capture
  repeat' first
    | with_reducible assumption
    | intro _
    | with_reducible refine State.count_still _ _ _ (W := State.capture_writes) ?_ hw ?_
    | decide
    | with_reducible refine State.setCap_still _ _ _ ?_
    | with_reducible refine State.captureDone_still _ _ _ (Wr.sub (by decide) hw) ?_
    | with_reducible refine State.carry_still _ _ ?_
    | with_reducible apply Still.whenIf
    | with_reducible apply Still.ite
    | split
    | (with_reducible apply Still.upd); split

theorem State.modEngine_still {F : Fld} {I V : Nat} (s : State) (n : Nat) (f : Engine → Engine) (h : Still F I V s) :
    Still F I V (State.modEngine s n f) := by
  unfold State.modEngine
  repeat' first
    | with_reducible assumption
    | intro _
    | fail_if_no_progress with_reducible apply Still.upd
    | split
    | (with_reducible apply Still.upd); split

theorem State.endWait_still {F : Fld} {I V : Nat} (s : State) (n : Nat) (tmo : Bool) (h : Still F I V s) :
    Still F I V (State.endWait s n tmo) := by
  unfold State.endWait
  repeat' first
    | with_reducible assumption
    | intro _
    | with_reducible refine State.modEngine_still _ _ _ ?_
    | split
    | (with_reducible apply Still.upd); split

theorem State.releaseWait_still {F : Fld} {I V : Nat} (s : State) (n : Nat) (h : Still F I V s) :
    Still F I V (State.releaseWait s n) := by
  unfold State.releaseWait
  repeat' first
    | with_reducible assumption
    | intro _
    | with_reducible refine State.endWait_still _ _ _ ?_
    | with_reducible apply Still.ite
    | split
    | (with_reducible apply Still.upd); split

theorem State.subscribe_still {F : Fld} {I V : Nat} (s : State) (w : SampleWord) (n : Nat) (i : Nat) (h : Still F I V s) :
    Still F I V (State.subscribe s w n i) := by
  unfold State.subscribe
  repeat' first
    | with_reducible assumption
    | intro _
    | with_reducible refine State.releaseWait_still _ _ ?_
    | with_reducible refine State.modEngine_still _ _ _ ?_
    | with_reducible apply Still.ite
    | split
    | (with_reducible apply Still.upd); split

def State.deliver_writes : Nat :=
    0x1003a0000000000000000003000000000000000000000000000000000000800000000000000000000000000000000000000000000000000000000000000000000000000000000000000000
theorem State.deliver_still {F : Fld} {I V : Nat} (s : State) (w : SampleWord) (hw : State.deliver_writes.testBit F.ctorIdx
    = false) (h : Still F I V s) :
    Still F I V (State.deliver s w) := by
  unfold State.deliver
  repeat' first
    | with_reducible assumption
    | intro _
    | with_reducible refine State.carry_still _ _ ?_
    | with_reducible refine State.bursarTakes_still _ _ (Wr.sub (by decide) hw) ?_
    | with_reducible refine State.subscribe_still _ _ _ _ ?_
    | with_reducible refine State.capture_still _ _ _ (Wr.sub (by decide) hw) ?_
    | with_reducible apply Still.each
    | fail_if_no_progress with_reducible apply Still.upd
    | split
    | (with_reducible apply Still.upd); split

def State.offer_writes : Nat :=
    0x1003a0000000000000000003000000000000000000000000000000000000800000000000000000000000000000000000000000000000000000000000000000000000000000000001000000
theorem State.offer_still {F : Fld} {I V : Nat} (s : State) (w : SampleWord) (spineFree : Bool) (hw :
    State.offer_writes.testBit F.ctorIdx = false) (h : Still F I V s) :
    Still F I V (State.offer s w spineFree) := by
  unfold State.offer
  repeat' first
    | with_reducible assumption
    | intro _
    | with_reducible refine State.count_still _ _ _ (W := State.offer_writes) ?_ hw ?_
    | decide
    | with_reducible refine State.deliver_still _ _ (Wr.sub (by decide) hw) ?_
    | with_reducible refine State.event_still _ _ _ _ _ (Wr.sub (by decide) hw) ?_
    | with_reducible apply Still.each
    | with_reducible apply Still.ite
    | fail_if_no_progress with_reducible apply Still.upd
    | split
    | (with_reducible apply Still.upd); split

def execSampleWordOffer_writes : Nat :=
    0x1003a0000000000000000003000000000000000000000000000000000000800000000000000000000000000000000000000000000000000000000000000000000000000000000001000000
theorem execSampleWordOffer_still {F : Fld} {I V : Nat} (result : Nat) (reason : Nat) (source : Nat) (ts : Nat) (subst :
    Bool) (inj : Bool) (spineFree : Bool) (s : State) (hw : execSampleWordOffer_writes.testBit F.ctorIdx = false) (h :
    Still F I V s) :
    StillOut F I V (execSampleWordOffer result reason source ts subst inj spineFree s) := by
  unfold execSampleWordOffer
  repeat' first
    | with_reducible assumption
    | with_reducible apply StillOut.next
    | intro _
    | with_reducible refine State.offer_still _ _ _ (Wr.sub (by decide) hw) ?_
    | split
    | dsimp only; split

end Sys2Proof.Machine
end

