-- ==== Sys2Proof/Laws/StillSar.lean ====
section
/-!
SUPPORT. Which register fields the operations of Machine/Sar.lean can write (Laws/Still.lean), as bits by the field's number, and
that they leave every other as it was.
-/
namespace Sys2Proof.Machine

set_option linter.unusedTactic false
set_option linter.unreachableTactic false

theorem State.modSlot_still {F : Fld} {I V : Nat} (s : State) (k : Nat) (f : SarSlot → SarSlot) (h : Still F I V s) :
    Still F I V (State.modSlot s k f) := by
  unfold State.modSlot
  repeat' first
    | with_reducible assumption
    | intro _
    | fail_if_no_progress with_reducible apply Still.upd
    | split
    | (with_reducible apply Still.upd); split

def State.nextConv_writes : Nat := 0x2000000000000000000000000000000000000
theorem State.nextConv_still {F : Fld} {I V : Nat} (s : State) (k : Nat) (hw : State.nextConv_writes.testBit F.ctorIdx =
    false) (h : Still F I V s) :
    Still F I V (State.nextConv s k) := by
  unfold State.nextConv
  repeat' first
    | with_reducible assumption
    | intro _
    | with_reducible refine State.setFld_still _ _ _ _ (W := State.nextConv_writes) ?_ hw ?_
    | decide
    | with_reducible refine State.modSlot_still _ _ _ ?_
    | with_reducible apply Still.whenIf
    | with_reducible apply Still.ite
    | split
    | (with_reducible apply Still.upd); split

def State.trigger_writes : Nat := 0xa000000000000000000000000000000000000
theorem State.trigger_still {F : Fld} {I V : Nat} (s : State) (k : Nat) (hw : State.trigger_writes.testBit F.ctorIdx =
    false) (h : Still F I V s) :
    Still F I V (State.trigger s k) := by
  unfold State.trigger
  repeat' first
    | with_reducible assumption
    | intro _
    | with_reducible refine State.count_still _ _ _ (W := State.trigger_writes) ?_ hw ?_
    | decide
    | with_reducible refine State.modSlot_still _ _ _ ?_
    | with_reducible refine State.nextConv_still _ _ (Wr.sub (by decide) hw) ?_
    | with_reducible apply Still.whenIf
    | with_reducible apply Still.ite
    | split
    | (with_reducible apply Still.upd); split

theorem State.occurs_still {F : Fld} {I V : Nat} (s : State) (src : Nat → Bool) (h : Still F I V s) :
    Still F I V (State.occurs s src) := by
  unfold State.occurs
  repeat' first
    | with_reducible assumption
    | intro _
    | with_reducible refine State.modSlot_still _ _ _ ?_
    | with_reducible apply Still.whenIf
    | with_reducible apply Still.each
    | split
    | (with_reducible apply Still.upd); split

theorem State.pwmOccurs_still {F : Fld} {I V : Nat} (s : State) (m : Nat) (evt : Nat) (h : Still F I V s) :
    Still F I V (State.pwmOccurs s m evt) := by
  unfold State.pwmOccurs
  repeat' first
    | with_reducible assumption
    | intro _
    | with_reducible refine State.occurs_still _ _ ?_
    | split
    | (with_reducible apply Still.upd); split

theorem State.bellOccurs_still {F : Fld} {I V : Nat} (s : State) (h : Still F I V s) :
    Still F I V (State.bellOccurs s) := by
  unfold State.bellOccurs
  repeat' first
    | with_reducible assumption
    | intro _
    | with_reducible refine State.occurs_still _ _ ?_
    | split
    | (with_reducible apply Still.upd); split

def execSarBurstStart_writes : Nat := 0xa000000000000000000000000000000000000
theorem execSarBurstStart_still {F : Fld} {I V : Nat} (k : Nat) (s : State) (hw : execSarBurstStart_writes.testBit
    F.ctorIdx = false) (h : Still F I V s) :
    StillOut F I V (execSarBurstStart k s) := by
  unfold execSarBurstStart
  repeat' first
    | with_reducible assumption
    | with_reducible apply StillOut.next
    | with_reducible apply StillOut.ite
    | intro _
    | with_reducible refine State.modSlot_still _ _ _ ?_
    | with_reducible refine State.trigger_still _ _ (Wr.sub (by decide) hw) ?_
    | with_reducible apply Still.ite
    | split
    | dsimp only; split

def State.sarSwtrig_writes : Nat := 0xa000000000000000000000000000000000000
theorem State.sarSwtrig_still {F : Fld} {I V : Nat} (s : State) (mask : Nat) (hw : State.sarSwtrig_writes.testBit F.ctorIdx
    = false) (h : Still F I V s) :
    Still F I V (State.sarSwtrig s mask) := by
  unfold State.sarSwtrig
  repeat' first
    | with_reducible assumption
    | intro _
    | with_reducible refine State.trigger_still _ _ (Wr.sub (by decide) hw) ?_
    | with_reducible apply Still.whenIf
    | with_reducible apply Still.each
    | split
    | (with_reducible apply Still.upd); split

def execSarSwtrigWrite_writes : Nat :=
    0x10022000000000000000000300000000000000000000000000000000000000000000000000000000000000000000000000000000000000000a000000000000000000000000000000000000
theorem execSarSwtrigWrite_still {F : Fld} {I V : Nat} (core : Nat) (mask : Nat) (s : State) (hw :
    execSarSwtrigWrite_writes.testBit F.ctorIdx = false) (h : Still F I V s) :
    StillOut F I V (execSarSwtrigWrite core mask s) := by
  unfold execSarSwtrigWrite
  repeat' first
    | with_reducible assumption
    | with_reducible apply StillOut.next
    | intro _
    | with_reducible refine State.accessBlk_still _ _ _ _ _ (Wr.sub (by decide) hw) ?_ ?_
    | with_reducible refine State.sarSwtrig_still _ _ (Wr.sub (by decide) hw) ?_
    | split
    | dsimp only; split

def execSarFreeRunTrigger_writes : Nat := 0xa000000000000000000000000000000000000
theorem execSarFreeRunTrigger_still {F : Fld} {I V : Nat} (k : Nat) (s : State) (hw : execSarFreeRunTrigger_writes.testBit
    F.ctorIdx = false) (h : Still F I V s) :
    StillOut F I V (execSarFreeRunTrigger k s) := by
  unfold execSarFreeRunTrigger
  repeat' first
    | with_reducible assumption
    | with_reducible apply StillOut.next
    | intro _
    | with_reducible refine State.trigger_still _ _ (Wr.sub (by decide) hw) ?_
    | with_reducible apply Still.whenIf
    | split
    | dsimp only; split

def State.endStep_writes : Nat := 0x900000000000000000000000000000000
theorem State.endStep_still {F : Fld} {I V : Nat} (s : State) (hw : State.endStep_writes.testBit F.ctorIdx = false) (h :
    Still F I V s) :
    Still F I V (State.endStep s) := by
  unfold State.endStep
  repeat' first
    | with_reducible assumption
    | intro _
    | with_reducible refine State.setFld_still _ _ _ _ (W := State.endStep_writes) ?_ hw ?_
    | decide
    | fail_if_no_progress with_reducible apply Still.upd
    | split
    | (with_reducible apply Still.upd); split

def State.abandonStep_writes : Nat := 0x900000000000000000000000000000000
theorem State.abandonStep_still {F : Fld} {I V : Nat} (s : State) (hw : State.abandonStep_writes.testBit F.ctorIdx = false)
    (h : Still F I V s) :
    Still F I V (State.abandonStep s) := by
  unfold State.abandonStep
  repeat' first
    | with_reducible assumption
    | intro _
    | with_reducible refine State.setFld_still _ _ _ _ (W := State.abandonStep_writes) ?_ hw ?_
    | decide
    | with_reducible refine State.endStep_still _ (Wr.sub (by decide) hw) ?_
    | with_reducible apply Still.whenIf
    | split
    | (with_reducible apply Still.upd); split

def State.stopRotation_writes : Nat := 0x900000000000000000000000000000000
theorem State.stopRotation_still {F : Fld} {I V : Nat} (s : State) (hw : State.stopRotation_writes.testBit F.ctorIdx =
    false) (h : Still F I V s) :
    Still F I V (State.stopRotation s) := by
  unfold State.stopRotation
  repeat' first
    | with_reducible assumption
    | intro _
    | with_reducible refine State.abandonStep_still _ (Wr.sub (by decide) hw) ?_
    | fail_if_no_progress with_reducible apply Still.upd
    | split
    | (with_reducible apply Still.upd); split

def State.retireSlice_writes : Nat :=
    0x100220000000000000000000000000000000600218000000000000000000000000000000000000000000000000000000000000000000000000001910000000000000000000000000000000
theorem State.retireSlice_still {F : Fld} {I V : Nat} (s : State) (x : Nat) (hw : State.retireSlice_writes.testBit
    F.ctorIdx = false) (h : Still F I V s) :
    Still F I V (State.retireSlice s x) := by
  unfold State.retireSlice
  repeat' first
    | with_reducible assumption
    | intro _
    | with_reducible refine State.setFld_still _ _ _ _ (W := State.retireSlice_writes) ?_ hw ?_
    | with_reducible refine State.setBit_still _ _ _ _ _ (W := State.retireSlice_writes) ?_ hw ?_
    | decide
    | with_reducible refine State.recordRepair_still _ _ _ _ _ (Wr.sub (by decide) hw) ?_
    | with_reducible refine State.event_still _ _ _ _ _ (Wr.sub (by decide) hw) ?_
    | with_reducible refine State.consumeSpare_still _ _ (Wr.sub (by decide) hw) ?_
    | with_reducible apply Still.whenIf
    | with_reducible apply Still.ite
    | split
    | (with_reducible apply Still.upd); split

def State.stallSlice_writes : Nat :=
    0x100220000000000000000000000000000000600218000000000000000000000000000000000000000000000000000000000000000000000000001910000000000000000000000000000000
theorem State.stallSlice_still {F : Fld} {I V : Nat} (s : State) (x : Nat) (hw : State.stallSlice_writes.testBit F.ctorIdx
    = false) (h : Still F I V s) :
    Still F I V (State.stallSlice s x) := by
  unfold State.stallSlice
  repeat' first
    | with_reducible assumption
    | intro _
    | with_reducible refine State.modSlot_still _ _ _ ?_
    | with_reducible refine State.retireSlice_still _ _ (Wr.sub (by decide) hw) ?_
    | with_reducible refine State.endStep_still _ (Wr.sub (by decide) hw) ?_
    | with_reducible apply Still.whenIf
    | with_reducible apply Still.each
    | with_reducible apply Still.ite
    | split
    | (with_reducible apply Still.upd); split

def State.calFailed_writes : Nat :=
    0x100220000000000000000000000000000000600218000000000000000000000000000000000000000000000000000000000000000000000e00001910000000000000000000000000000000
theorem State.calFailed_still {F : Fld} {I V : Nat} (s : State) (x : Nat) (hw : State.calFailed_writes.testBit F.ctorIdx =
    false) (h : Still F I V s) :
    Still F I V (State.calFailed s x) := by
  unfold State.calFailed
  repeat' first
    | with_reducible assumption
    | intro _
    | with_reducible refine State.setFld_still _ _ _ _ (W := State.calFailed_writes) ?_ hw ?_
    | with_reducible refine State.count_still _ _ _ (W := State.calFailed_writes) ?_ hw ?_
    | decide
    | with_reducible refine State.retireSlice_still _ _ (Wr.sub (by decide) hw) ?_
    | with_reducible apply Still.whenIf
    | with_reducible apply Still.ite
    | fail_if_no_progress with_reducible apply Still.upd
    | split
    | (with_reducible apply Still.upd); split

def State.startStep_writes : Nat := 0x180000000000000000000000000000000
theorem State.startStep_still {F : Fld} {I V : Nat} (s : State) (hw : State.startStep_writes.testBit F.ctorIdx = false) (h
    : Still F I V s) :
    Still F I V (State.startStep s) := by
  unfold State.startStep
  repeat' first
    | with_reducible assumption
    | intro _
    | with_reducible refine State.setFld_still _ _ _ _ (W := State.startStep_writes) ?_ hw ?_
    | decide
    | with_reducible apply Still.ite
    | fail_if_no_progress with_reducible apply Still.upd
    | split
    | (with_reducible apply Still.upd); split

def State.exitDone_writes : Nat := 0x980000000000000000000000000000000
theorem State.exitDone_still {F : Fld} {I V : Nat} (s : State) (hw : State.exitDone_writes.testBit F.ctorIdx = false) (h :
    Still F I V s) :
    Still F I V (State.exitDone s) := by
  unfold State.exitDone
  repeat' first
    | with_reducible assumption
    | intro _
    | with_reducible refine State.endStep_still _ (Wr.sub (by decide) hw) ?_
    | with_reducible refine State.startStep_still _ (Wr.sub (by decide) hw) ?_
    | with_reducible apply Still.whenIf
    | split
    | (with_reducible apply Still.upd); split

def State.roundDone_writes : Nat := 0x380000000000000000000000000000000
theorem State.roundDone_still {F : Fld} {I V : Nat} (s : State) (hw : State.roundDone_writes.testBit F.ctorIdx = false) (h
    : Still F I V s) :
    Still F I V (State.roundDone s) := by
  unfold State.roundDone
  repeat' first
    | with_reducible assumption
    | intro _
    | with_reducible refine State.setFld_still _ _ _ _ (W := State.roundDone_writes) ?_ hw ?_
    | with_reducible refine State.count_still _ _ _ (W := State.roundDone_writes) ?_ hw ?_
    | decide
    | with_reducible refine State.startStep_still _ (Wr.sub (by decide) hw) ?_
    | with_reducible apply Still.whenIf
    | fail_if_no_progress with_reducible apply Still.upd
    | split
    | (with_reducible apply Still.upd); split

def State.loseEntry_writes : Nat :=
    0x100220000000000000000000000000000000000000000000000000000000000000000000000000000000000000000000000000000000000000000d80000000000000000000000000000000
theorem State.loseEntry_still {F : Fld} {I V : Nat} (s : State) (hw : State.loseEntry_writes.testBit F.ctorIdx = false) (h
    : Still F I V s) :
    Still F I V (State.loseEntry s) := by
  unfold State.loseEntry
  repeat' first
    | with_reducible assumption
    | intro _
    | with_reducible refine State.setFld_still _ _ _ _ (W := State.loseEntry_writes) ?_ hw ?_
    | with_reducible refine State.setBit_still _ _ _ _ _ (W := State.loseEntry_writes) ?_ hw ?_
    | decide
    | with_reducible refine State.exitDone_still _ (Wr.sub (by decide) hw) ?_
    | with_reducible refine State.event_still _ _ _ _ _ (Wr.sub (by decide) hw) ?_
    | with_reducible apply Still.whenIf
    | fail_if_no_progress with_reducible apply Still.upd
    | split
    | (with_reducible apply Still.upd); split

def State.loseExit_writes : Nat := 0x100000000000000000000000000000000
theorem State.loseExit_still {F : Fld} {I V : Nat} (s : State) (hw : State.loseExit_writes.testBit F.ctorIdx = false) (h :
    Still F I V s) :
    Still F I V (State.loseExit s) := by
  unfold State.loseExit
  repeat' first
    | with_reducible assumption
    | intro _
    | with_reducible refine State.setFld_still _ _ _ _ (W := State.loseExit_writes) ?_ hw ?_
    | decide
    | fail_if_no_progress with_reducible apply Still.upd
    | split
    | (with_reducible apply Still.upd); split

def execBackgroundStepStart_writes : Nat := 0x1a0000000000000000000000000000000
theorem execBackgroundStepStart_still {F : Fld} {I V : Nat} (s : State) (hw : execBackgroundStepStart_writes.testBit
    F.ctorIdx = false) (h : Still F I V s) :
    StillOut F I V (execBackgroundStepStart s) := by
  unfold execBackgroundStepStart
  repeat' first
    | with_reducible assumption
    | with_reducible apply StillOut.next
    | with_reducible apply StillOut.ite
    | intro _
    | with_reducible refine State.setFld_still _ _ _ _ (W := execBackgroundStepStart_writes) ?_ hw ?_
    | decide
    | with_reducible refine State.startStep_still _ (Wr.sub (by decide) hw) ?_
    | with_reducible apply Still.whenIf
    | with_reducible apply Still.ite
    | fail_if_no_progress with_reducible apply Still.upd
    | split
    | dsimp only; split

def State.openPair_writes : Nat := 0x100000000000000000000000000000000
theorem State.openPair_still {F : Fld} {I V : Nat} (s : State) (phase : Nat) (hw : State.openPair_writes.testBit F.ctorIdx
    = false) (h : Still F I V s) :
    Still F I V (State.openPair s phase) := by
  unfold State.openPair
  repeat' first
    | with_reducible assumption
    | intro _
    | with_reducible refine State.setFld_still _ _ _ _ (W := State.openPair_writes) ?_ hw ?_
    | decide
    | fail_if_no_progress with_reducible apply Still.upd
    | split
    | (with_reducible apply Still.upd); split

def execSubstEntryOpportunity_writes : Nat :=
    0x100220000000000000000000000000000000000000000000000000000000000000000000000000000000000000000000000000000000000000000d80000000000000000000000000000000
theorem execSubstEntryOpportunity_still {F : Fld} {I V : Nat} (s : State) (hw : execSubstEntryOpportunity_writes.testBit
    F.ctorIdx = false) (h : Still F I V s) :
    StillOut F I V (execSubstEntryOpportunity s) := by
  unfold execSubstEntryOpportunity
  repeat' first
    | with_reducible assumption
    | with_reducible apply StillOut.next
    | with_reducible apply StillOut.ite
    | intro _
    | with_reducible refine State.setFld_still _ _ _ _ (W := execSubstEntryOpportunity_writes) ?_ hw ?_
    | decide
    | with_reducible refine State.openPair_still _ _ (Wr.sub (by decide) hw) ?_
    | with_reducible refine State.loseEntry_still _ (Wr.sub (by decide) hw) ?_
    | with_reducible apply Still.ite
    | split
    | dsimp only; split

def execSubstExitOpportunity_writes : Nat := 0x980000000000000000000000000000000
theorem execSubstExitOpportunity_still {F : Fld} {I V : Nat} (s : State) (hw : execSubstExitOpportunity_writes.testBit
    F.ctorIdx = false) (h : Still F I V s) :
    StillOut F I V (execSubstExitOpportunity s) := by
  unfold execSubstExitOpportunity
  repeat' first
    | with_reducible assumption
    | with_reducible apply StillOut.next
    | with_reducible apply StillOut.ite
    | intro _
    | with_reducible refine State.exitDone_still _ (Wr.sub (by decide) hw) ?_
    | with_reducible refine State.openPair_still _ _ (Wr.sub (by decide) hw) ?_
    | with_reducible apply Still.ite
    | split
    | dsimp only; split

def execSliceCalComplete_writes : Nat :=
    0x100220000000000000000000000000000000600218000000000000000000000000000000000000000000000000000000000000000000001f80001b90000000000000000000000000000000
theorem execSliceCalComplete_still {F : Fld} {I V : Nat} (slice : Nat) (ofs : Int) (gain : Int) (residualOk : Bool) (s :
    State) (hw : execSliceCalComplete_writes.testBit F.ctorIdx = false) (h : Still F I V s) :
    StillOut F I V (execSliceCalComplete slice ofs gain residualOk s) := by
  unfold execSliceCalComplete
  repeat' first
    | with_reducible assumption
    | with_reducible apply StillOut.next
    | with_reducible apply StillOut.ite
    | intro _
    | with_reducible refine State.setFld_still _ _ _ _ (W := execSliceCalComplete_writes) ?_ hw ?_
    | decide
    | with_reducible refine State.roundDone_still _ (Wr.sub (by decide) hw) ?_
    | with_reducible refine State.calFailed_still _ _ (Wr.sub (by decide) hw) ?_
    | with_reducible apply Still.whenIf
    | with_reducible apply Still.ite
    | fail_if_no_progress with_reducible apply Still.upd
    | split
    | dsimp only; split

def State.startFgCal_writes : Nat := 0x8000000000000000000000000000000
theorem State.startFgCal_still {F : Fld} {I V : Nat} (s : State) (hw : State.startFgCal_writes.testBit F.ctorIdx = false)
    (h : Still F I V s) :
    Still F I V (State.startFgCal s) := by
  unfold State.startFgCal
  repeat' first
    | with_reducible assumption
    | intro _
    | with_reducible refine State.setFld_still _ _ _ _ (W := State.startFgCal_writes) ?_ hw ?_
    | decide
    | fail_if_no_progress with_reducible apply Still.upd
    | split
    | (with_reducible apply Still.upd); split

def execRefReadySet_writes : Nat := 0xb000000000000000000000000000000
theorem execRefReadySet_still {F : Fld} {I V : Nat} (s : State) (hw : execRefReadySet_writes.testBit F.ctorIdx = false) (h
    : Still F I V s) :
    StillOut F I V (execRefReadySet s) := by
  unfold execRefReadySet
  repeat' first
    | with_reducible assumption
    | with_reducible apply StillOut.next
    | with_reducible apply StillOut.ite
    | intro _
    | with_reducible refine State.setFld_still _ _ _ _ (W := execRefReadySet_writes) ?_ hw ?_
    | decide
    | with_reducible refine State.startFgCal_still _ (Wr.sub (by decide) hw) ?_
    | with_reducible apply Still.whenIf
    | with_reducible apply Still.ite
    | split
    | dsimp only; split

def execForegroundCalComplete_writes : Nat := 0x2000108000000000000000000000000000000
theorem execForegroundCalComplete_still {F : Fld} {I V : Nat} (s : State) (hw : execForegroundCalComplete_writes.testBit
    F.ctorIdx = false) (h : Still F I V s) :
    StillOut F I V (execForegroundCalComplete s) := by
  unfold execForegroundCalComplete
  repeat' first
    | with_reducible assumption
    | with_reducible apply StillOut.next
    | with_reducible apply StillOut.ite
    | intro _
    | with_reducible refine State.setFld_still _ _ _ _ (W := execForegroundCalComplete_writes) ?_ hw ?_
    | decide
    | with_reducible refine State.nextConv_still _ _ (Wr.sub (by decide) hw) ?_
    | with_reducible apply Still.whenIf
    | with_reducible apply Still.each
    | with_reducible apply Still.ite
    | fail_if_no_progress with_reducible apply Still.upd
    | split
    | dsimp only; split

def State.reverseSwap_writes : Nat :=
    0x100220000000000000000000000000000000000000000000000000000000000000000000000000000000000000000000000000000000000000000d80000000000000000000000000000000
theorem State.reverseSwap_still {F : Fld} {I V : Nat} (s : State) (hw : State.reverseSwap_writes.testBit F.ctorIdx = false)
    (h : Still F I V s) :
    Still F I V (State.reverseSwap s) := by
  unfold State.reverseSwap
  repeat' first
    | with_reducible assumption
    | intro _
    | with_reducible refine State.loseEntry_still _ (Wr.sub (by decide) hw) ?_
    | with_reducible refine State.loseExit_still _ (Wr.sub (by decide) hw) ?_
    | with_reducible apply Still.whenIf
    | with_reducible apply Still.ite
    | split
    | (with_reducible apply Still.upd); split

def execVrefpOutOfRange_writes : Nat :=
    0x100220000000000000000000000000000000000000000000000000000000000000000000000000000000000000000000000000000000000000000d83000000000000000000000000000000
theorem execVrefpOutOfRange_still {F : Fld} {I V : Nat} (s : State) (hw : execVrefpOutOfRange_writes.testBit F.ctorIdx =
    false) (h : Still F I V s) :
    StillOut F I V (execVrefpOutOfRange s) := by
  unfold execVrefpOutOfRange
  repeat' first
    | with_reducible assumption
    | with_reducible apply StillOut.next
    | with_reducible apply StillOut.ite
    | intro _
    | with_reducible refine State.setFld_still _ _ _ _ (W := execVrefpOutOfRange_writes) ?_ hw ?_
    | decide
    | with_reducible refine State.reverseSwap_still _ (Wr.sub (by decide) hw) ?_
    | with_reducible apply Still.ite
    | split
    | dsimp only; split

def State.inject_writes : Nat :=
    0x100220000000000000000000000000000000000000000000000000000000000000000000000000000000000000000000000000000000000006000000000000000000000000000000000000
theorem State.inject_still {F : Fld} {I V : Nat} (s : State) (k : Nat) (input : Nat) (ext : Nat) (hw :
    State.inject_writes.testBit F.ctorIdx = false) (h : Still F I V s) :
    Still F I V (State.inject s k input ext) := by
  unfold State.inject
  repeat' first
    | with_reducible assumption
    | intro _
    | with_reducible refine State.setFld_still _ _ _ _ (W := State.inject_writes) ?_ hw ?_
    | decide
    | with_reducible refine State.event_still _ _ _ _ _ (Wr.sub (by decide) hw) ?_
    | with_reducible refine State.modSlot_still _ _ _ ?_
    | with_reducible refine State.nextConv_still _ _ (Wr.sub (by decide) hw) ?_
    | with_reducible apply Still.whenIf
    | with_reducible apply Still.ite
    | fail_if_no_progress with_reducible apply Still.upd
    | split
    | (with_reducible apply Still.upd); split

def execSarInjWrite_writes : Nat :=
    0x100220000000000000000003000000000000000000000000000000000000000000000000000000000000000000000000000000000000000006000000000000000000000000000000000000
theorem execSarInjWrite_still {F : Fld} {I V : Nat} (core : Nat) (k : Nat) (input : Nat) (ext : Nat) (s : State) (hw :
    execSarInjWrite_writes.testBit F.ctorIdx = false) (h : Still F I V s) :
    StillOut F I V (execSarInjWrite core k input ext s) := by
  unfold execSarInjWrite
  repeat' first
    | with_reducible assumption
    | with_reducible apply StillOut.next
    | with_reducible apply StillOut.ite
    | intro _
    | with_reducible refine State.accessBlk_still _ _ _ _ _ (Wr.sub (by decide) hw) ?_ ?_
    | with_reducible refine State.inject_still _ _ _ _ (Wr.sub (by decide) hw) ?_
    | with_reducible apply Still.ite
    | split
    | dsimp only; split

def State.pairStep_writes : Nat :=
    0x100220000000000000000000000000000000600218000000000000000000000000000000000000000000000000000000000000000000000e00001d90000000000000000000000000000000
theorem State.pairStep_still {F : Fld} {I V : Nat} (s : State) (own : Nat) (subst : Nat) (hw :
    State.pairStep_writes.testBit F.ctorIdx = false) (h : Still F I V s) :
    Still F I V (State.pairStep s own subst) := by
  unfold State.pairStep
  repeat' first
    | with_reducible assumption
    | intro _
    | with_reducible refine State.setFld_still _ _ _ _ (W := State.pairStep_writes) ?_ hw ?_
    | decide
    | with_reducible refine State.loseEntry_still _ (Wr.sub (by decide) hw) ?_
    | with_reducible refine State.loseExit_still _ (Wr.sub (by decide) hw) ?_
    | with_reducible refine State.calFailed_still _ _ (Wr.sub (by decide) hw) ?_
    | with_reducible refine State.exitDone_still _ (Wr.sub (by decide) hw) ?_
    | with_reducible apply Still.whenIf
    | with_reducible apply Still.ite
    | fail_if_no_progress with_reducible apply Still.upd
    | split
    | (with_reducible apply Still.upd); split

def State.judgePair_writes : Nat :=
    0x100220000000000000000000000000000000000000000000000000000000000000000000000000000000000000000000000000000000000000000d80000000000000000000000000000000
theorem State.judgePair_still {F : Fld} {I V : Nat} (s : State) (k : Nat) (hold : Nat) (hw : State.judgePair_writes.testBit
    F.ctorIdx = false) (h : Still F I V s) :
    Still F I V (State.judgePair s k hold) := by
  unfold State.judgePair
  repeat' first
    | with_reducible assumption
    | intro _
    | with_reducible refine State.loseEntry_still _ (Wr.sub (by decide) hw) ?_
    | with_reducible refine State.loseExit_still _ (Wr.sub (by decide) hw) ?_
    | with_reducible apply Still.whenIf
    | with_reducible apply Still.ite
    | split
    | (with_reducible apply Still.upd); split

theorem State.sarResult_still {F : Fld} {I V : Nat} (s : State) (vin : Int) (vref : Nat) (h : Still F I V s) :
    Still F I V (State.sarResult s vin vref).2 := by
  unfold State.sarResult
  repeat' first
    | with_reducible assumption
    | intro _
    | with_reducible refine State.roundFree_still _ _ _ ?_
    | (with_reducible refine Still.snd ?_ (by assumption)); with_reducible refine State.roundFree_still _ _ _ ?_
    | with_reducible apply Still.ite
    | with_reducible apply Still.iteSnd
    | dsimp only
    | split
    | (with_reducible apply Still.upd); split

def State.convert_writes : Nat :=
    0x1003a0000000000000000003000000000000600218000000000000000000800000000000000000000000000000000000000000000000000e32001d90000000000000000000000001000000
theorem State.convert_still {F : Fld} {I V : Nat} (s : State) (k : Nat) (own : Nat) (subst : Nat) (hold : Nat) (c :
    SarConv) (hw : State.convert_writes.testBit F.ctorIdx = false) (h : Still F I V s) :
    Still F I V (State.convert s k own subst hold c) := by
  unfold State.convert
  repeat' first
    | with_reducible assumption
    | intro _
    | with_reducible refine State.setFld_still _ _ _ _ (W := State.convert_writes) ?_ hw ?_
    | with_reducible refine State.count_still _ _ _ (W := State.convert_writes) ?_ hw ?_
    | decide
    | with_reducible refine State.modSlot_still _ _ _ ?_
    | with_reducible refine State.pairStep_still _ _ _ (Wr.sub (by decide) hw) ?_
    | with_reducible refine State.nextConv_still _ _ (Wr.sub (by decide) hw) ?_
    | with_reducible refine State.offer_still _ _ _ (Wr.sub (by decide) hw) ?_
    | with_reducible apply Still.whenIf
    | with_reducible apply Still.foldl
    | with_reducible apply Still.ite
    | fail_if_no_progress with_reducible apply Still.upd
    | split
    | (with_reducible apply Still.upd); split

def execSarConversionComplete_writes : Nat :=
    0x1003a0000000000000000003000000000000600218000000000000000000800000000000000000000000000000000000000000000000000e32001d90000000000000000000000001000000
theorem execSarConversionComplete_still {F : Fld} {I V : Nat} (k : Nat) (own : Int) (subst : Int) (hold : SarHold) (s :
    State) (hw : execSarConversionComplete_writes.testBit F.ctorIdx = false) (h : Still F I V s) :
    StillOut F I V (execSarConversionComplete k own subst hold s) := by
  unfold execSarConversionComplete
  repeat' first
    | with_reducible assumption
    | with_reducible apply StillOut.next
    | intro _
    | with_reducible refine State.sarResult_still _ _ _ ?_
    | (with_reducible refine Still.snd ?_ (by assumption)); with_reducible refine State.sarResult_still _ _ _ ?_
    | with_reducible refine State.convert_still _ _ _ _ _ _ (Wr.sub (by decide) hw) ?_
    | with_reducible refine State.judgePair_still _ _ _ (Wr.sub (by decide) hw) ?_
    | split
    | dsimp only; split

def State.sarLeave_writes : Nat :=
    0x100220000000000000000000000000000000000000000000000000000000000000000000000000000000000000000000000000000000000002000908000000000000000000000000000000
theorem State.sarLeave_still {F : Fld} {I V : Nat} (s : State) (hw : State.sarLeave_writes.testBit F.ctorIdx = false) (h :
    Still F I V s) :
    Still F I V (State.sarLeave s) := by
  unfold State.sarLeave
  repeat' first
    | with_reducible assumption
    | intro _
    | with_reducible refine State.setFld_still _ _ _ _ (W := State.sarLeave_writes) ?_ hw ?_
    | decide
    | with_reducible refine State.modSlot_still _ _ _ ?_
    | with_reducible refine State.event_still _ _ _ _ _ (Wr.sub (by decide) hw) ?_
    | with_reducible refine State.abandonStep_still _ (Wr.sub (by decide) hw) ?_
    | with_reducible apply Still.whenIf
    | with_reducible apply Still.each
    | fail_if_no_progress with_reducible apply Still.upd
    | split
    | (with_reducible apply Still.upd); split

def State.sarApplied_writes : Nat := 0xb000000000000000000000000000000
theorem State.sarApplied_still {F : Fld} {I V : Nat} (s : State) (oldSel : Nat) (hw : State.sarApplied_writes.testBit
    F.ctorIdx = false) (h : Still F I V s) :
    Still F I V (State.sarApplied s oldSel) := by
  unfold State.sarApplied
  repeat' first
    | with_reducible assumption
    | intro _
    | with_reducible refine State.setFld_still _ _ _ _ (W := State.sarApplied_writes) ?_ hw ?_
    | decide
    | with_reducible refine State.startFgCal_still _ (Wr.sub (by decide) hw) ?_
    | with_reducible apply Still.whenIf
    | fail_if_no_progress with_reducible apply Still.upd
    | split
    | (with_reducible apply Still.upd); split

end Sys2Proof.Machine
end

