-- ==== Sys2Proof/Laws/StillPads.lean ====
section
/-!
SUPPORT. Which register fields the operations of Machine/Pads.lean can write (Laws/Still.lean), as bits by the field's number, and
that they leave every other as it was.
-/
namespace Sys2Proof.Machine

set_option linter.unusedTactic false
set_option linter.unreachableTactic false

def State.edgeRecord_writes : Nat :=
    0x1003a0000000000000000003000000000000000000000000000000000000800000000000000000000000000000000000000000000000000000000000000000000000000000000001000000
theorem State.edgeRecord_still {F : Fld} {I V : Nat} (s : State) (m : Nat) (kind : Nat) (inst : Nat) (tripf : Bool) (carry
    : Bool) (hw : State.edgeRecord_writes.testBit F.ctorIdx = false) (h : Still F I V s) :
    Still F I V (State.edgeRecord s m kind inst tripf carry) := by
  unfold State.edgeRecord
  repeat' first
    | with_reducible assumption
    | intro _
    | with_reducible refine State.offer_still _ _ _ (Wr.sub (by decide) hw) ?_
    | with_reducible apply Still.whenIf
    | split
    | (with_reducible apply Still.upd); split

def State.setSide_writes : Nat :=
    0x1003a0000000000000000003000000000000000000000000000000000000800000000000000000000000000000000000000000000000000000000000000000000000000000000001000000
theorem State.setSide_still {F : Fld} {I V : Nat} (s : State) (m : Nat) (low : Bool) (lvl : Bool) (inst : Nat) (tripf :
    Bool) (carry : Bool) (hw : State.setSide_writes.testBit F.ctorIdx = false) (h : Still F I V s) :
    Still F I V (State.setSide s m low lvl inst tripf carry) := by
  unfold State.setSide
  repeat' first
    | with_reducible assumption
    | intro _
    | with_reducible refine State.modPm_still _ _ _ ?_
    | with_reducible refine State.edgeRecord_still _ _ _ _ _ _ (Wr.sub (by decide) hw) ?_
    | with_reducible apply Still.whenIf
    | with_reducible apply Still.ite
    | fail_if_no_progress with_reducible apply Still.upd
    | split
    | (with_reducible apply Still.upd); split

theorem State.startLeb_still {F : Fld} {I V : Nat} (s : State) (m : Nat) (low : Bool) (h : Still F I V s) :
    Still F I V (State.startLeb s m low) := by
  unfold State.startLeb
  repeat' first
    | with_reducible assumption
    | intro _
    | with_reducible apply Still.ite
    | fail_if_no_progress with_reducible apply Still.upd
    | split
    | (with_reducible apply Still.upd); split

def State.setCmd_writes : Nat :=
    0x1003a0000000000000000003000000000000000000000000000000000000800000000000000000000000000000000000000000000000000000000000000000000000000000000001000000
theorem State.setCmd_still {F : Fld} {I V : Nat} (s : State) (m : Nat) (low : Bool) (lvl : Bool) (inst : Nat) (carry :
    Bool) (hw : State.setCmd_writes.testBit F.ctorIdx = false) (h : Still F I V s) :
    Still F I V (State.setCmd s m low lvl inst carry) := by
  unfold State.setCmd
  repeat' first
    | with_reducible assumption
    | intro _
    | with_reducible refine State.modPm_still _ _ _ ?_
    | with_reducible refine State.startLeb_still _ _ _ ?_
    | with_reducible refine State.setSide_still _ _ _ _ _ _ _ (Wr.sub (by decide) hw) ?_
    | with_reducible apply Still.whenIf
    | with_reducible apply Still.ite
    | split
    | (with_reducible apply Still.upd); split

def State.setCarry_writes : Nat := 0x1000010000000000000000000000000000000000000000000000000000000000
theorem State.setCarry_still {F : Fld} {I V : Nat} (s : State) (m : Nat) (c : Int) (hw : State.setCarry_writes.testBit
    F.ctorIdx = false) (h : Still F I V s) :
    Still F I V (State.setCarry s m c) := by
  unfold State.setCarry
  repeat' first
    | with_reducible assumption
    | intro _
    | with_reducible refine State.setFld_still _ _ _ _ (W := State.setCarry_writes) ?_ hw ?_
    | decide
    | with_reducible apply Still.whenIf
    | split
    | (with_reducible apply Still.upd); split

def State.leaveFollow_writes : Nat := 0x1000000400000000000000000000000000000000000000000000000000000000
theorem State.leaveFollow_still {F : Fld} {I V : Nat} (s : State) (m : Nat) (mode : PadMode) (hw :
    State.leaveFollow_writes.testBit F.ctorIdx = false) (h : Still F I V s) :
    Still F I V (State.leaveFollow s m mode) := by
  unfold State.leaveFollow
  repeat' first
    | with_reducible assumption
    | intro _
    | with_reducible refine State.setFld_still _ _ _ _ (W := State.leaveFollow_writes) ?_ hw ?_
    | decide
    | with_reducible refine State.modPm_still _ _ _ ?_
    | with_reducible apply Still.ite
    | split
    | (with_reducible apply Still.upd); split

def State.padsOff_writes : Nat :=
    0x1003a0000000000000000003000000000000000000000000000000000000800000000000000000000000001000000400000000000000000000000000000000000000000000000001000000
theorem State.padsOff_still {F : Fld} {I V : Nat} (s : State) (m : Nat) (mode : PadMode) (tripf : Bool) (hw :
    State.padsOff_writes.testBit F.ctorIdx = false) (h : Still F I V s) :
    Still F I V (State.padsOff s m mode tripf) := by
  unfold State.padsOff
  repeat' first
    | with_reducible assumption
    | intro _
    | with_reducible refine State.leaveFollow_still _ _ _ (Wr.sub (by decide) hw) ?_
    | with_reducible refine State.setSide_still _ _ _ _ _ _ _ (Wr.sub (by decide) hw) ?_
    | split
    | (with_reducible apply Still.upd); split

def State.stage1_writes : Nat :=
    0x1003a0000000000000000003000000000000000000000000000000000000800000000000000000000000001000000400000000000000000000000000000000000000000000000001000000
theorem State.stage1_still {F : Fld} {I V : Nat} (s : State) (k : Nat) (m : Nat) (tripf : Bool) (hw :
    State.stage1_writes.testBit F.ctorIdx = false) (h : Still F I V s) :
    Still F I V (State.stage1 s k m tripf) := by
  unfold State.stage1
  repeat' first
    | with_reducible assumption
    | intro _
    | with_reducible refine State.leaveFollow_still _ _ _ (Wr.sub (by decide) hw) ?_
    | with_reducible refine State.setSide_still _ _ _ _ _ _ _ (Wr.sub (by decide) hw) ?_
    | with_reducible apply Still.ite
    | split
    | (with_reducible apply Still.upd); split

def State.legOff_writes : Nat :=
    0x1003a0000000000000000003000000000000000000000000000000000000800000000000000000000000001000000400000000000000000000000000000000000000000000000001000000
theorem State.legOff_still {F : Fld} {I V : Nat} (s : State) (k : Nat) (tripf : Bool) (hw : State.legOff_writes.testBit
    F.ctorIdx = false) (h : Still F I V s) :
    Still F I V (State.legOff s k tripf) := by
  unfold State.legOff
  repeat' first
    | with_reducible assumption
    | intro _
    | with_reducible refine State.stage1_still _ _ _ _ (Wr.sub (by decide) hw) ?_
    | with_reducible apply Still.each
    | with_reducible apply Still.ite
    | fail_if_no_progress with_reducible apply Still.upd
    | split
    | (with_reducible apply Still.upd); split

def State.putDown_writes : Nat :=
    0x1003a0000000000000000003000000000000000000000000000000000000800000000000000000000000001000000400000000000000000000000000000000000000000000000001000000
theorem State.putDown_still {F : Fld} {I V : Nat} (s : State) (m : Nat) (mode : PadMode) (tripf : Bool) (hw :
    State.putDown_writes.testBit F.ctorIdx = false) (h : Still F I V s) :
    Still F I V (State.putDown s m mode tripf) := by
  unfold State.putDown
  repeat' first
    | with_reducible assumption
    | intro _
    | with_reducible refine State.padsOff_still _ _ _ _ (Wr.sub (by decide) hw) ?_
    | with_reducible refine State.legOff_still _ _ _ (Wr.sub (by decide) hw) ?_
    | with_reducible apply Still.ite
    | split
    | (with_reducible apply Still.upd); split

def State.settlePads_writes : Nat :=
    0x1003a0000000000000000003000000000000000000000000000000000000800000000000000000000000001000000400000000000000000000000000000000000000000000000001000000
theorem State.settlePads_still {F : Fld} {I V : Nat} (s : State) (hw : State.settlePads_writes.testBit F.ctorIdx = false)
    (h : Still F I V s) :
    Still F I V (State.settlePads s) := by
  unfold State.settlePads
  repeat' first
    | with_reducible assumption
    | intro _
    | with_reducible refine State.putDown_still _ _ _ _ (Wr.sub (by decide) hw) ?_
    | with_reducible apply Still.each
    | with_reducible apply Still.ite
    | split
    | (with_reducible apply Still.upd); split

def State.clearOuten_writes : Nat :=
    0x1003a0000000000000000003000000000000000000000000000000000000800000000000000000000000001000000480000000000000000000000000000000000000000000000001000000
theorem State.clearOuten_still {F : Fld} {I V : Nat} (s : State) (m : Nat) (hw : State.clearOuten_writes.testBit F.ctorIdx
    = false) (h : Still F I V s) :
    Still F I V (State.clearOuten s m) := by
  unfold State.clearOuten
  repeat' first
    | with_reducible assumption
    | intro _
    | with_reducible refine State.setFld_still _ _ _ _ (W := State.clearOuten_writes) ?_ hw ?_
    | decide
    | with_reducible refine State.putDown_still _ _ _ _ (Wr.sub (by decide) hw) ?_
    | with_reducible apply Still.whenIf
    | split
    | (with_reducible apply Still.upd); split

def State.setOuten_writes : Nat := 0x80000000000000000000000000000000000000000000000000000000
theorem State.setOuten_still {F : Fld} {I V : Nat} (s : State) (m : Nat) (hw : State.setOuten_writes.testBit F.ctorIdx =
    false) (h : Still F I V s) :
    Still F I V (State.setOuten s m) := by
  unfold State.setOuten
  repeat' first
    | with_reducible assumption
    | intro _
    | with_reducible refine State.setFld_still _ _ _ _ (W := State.setOuten_writes) ?_ hw ?_
    | decide
    | split
    | (with_reducible apply Still.upd); split

def State.stopCounter_writes : Nat :=
    0x1003a00000000000000000030000000000000000000000000000000000008000000000000000000000000010000007c0000000000000000000000000000000000000000000000001000000
theorem State.stopCounter_still {F : Fld} {I V : Nat} (s : State) (m : Nat) (hw : State.stopCounter_writes.testBit
    F.ctorIdx = false) (h : Still F I V s) :
    Still F I V (State.stopCounter s m) := by
  unfold State.stopCounter
  repeat' first
    | with_reducible assumption
    | intro _
    | with_reducible refine State.setFld_still _ _ _ _ (W := State.stopCounter_writes) ?_ hw ?_
    | decide
    | with_reducible refine State.clearOuten_still _ _ (Wr.sub (by decide) hw) ?_
    | split
    | (with_reducible apply Still.upd); split

def State.loadCount_writes : Nat := 0x82000000000000000000000000000000000000000000000000000000000
theorem State.loadCount_still {F : Fld} {I V : Nat} (s : State) (m : Nat) (later : Nat) (hw :
    State.loadCount_writes.testBit F.ctorIdx = false) (h : Still F I V s) :
    Still F I V (State.loadCount s m later) := by
  unfold State.loadCount
  repeat' first
    | with_reducible assumption
    | intro _
    | with_reducible refine State.setFld_still _ _ _ _ (W := State.loadCount_writes) ?_ hw ?_
    | with_reducible refine State.setFlag_still _ _ _ _ (W := State.loadCount_writes) ?_ hw ?_
    | decide
    | split
    | (with_reducible apply Still.upd); split

theorem State.headRestart_still {F : Fld} {I V : Nat} (s : State) (m : Nat) (h : Still F I V s) :
    Still F I V (State.headRestart s m) := by
  unfold State.headRestart
  repeat' first
    | with_reducible assumption
    | intro _
    | with_reducible apply Still.whenIf
    | fail_if_no_progress with_reducible apply Still.upd
    | split
    | (with_reducible apply Still.upd); split

def State.startCounter_writes : Nat := 0x20000082240000000000000000000000000000000000000000000000000000000
theorem State.startCounter_still {F : Fld} {I V : Nat} (s : State) (m : Nat) (hw : State.startCounter_writes.testBit
    F.ctorIdx = false) (h : Still F I V s) :
    Still F I V (State.startCounter s m) := by
  unfold State.startCounter
  repeat' first
    | with_reducible assumption
    | intro _
    | with_reducible refine State.setFld_still _ _ _ _ (W := State.startCounter_writes) ?_ hw ?_
    | decide
    | with_reducible refine State.loadCount_still _ _ _ (Wr.sub (by decide) hw) ?_
    | with_reducible refine State.headRestart_still _ _ ?_
    | with_reducible refine State.modPm_still _ _ _ ?_
    | with_reducible apply Still.ite
    | fail_if_no_progress with_reducible apply Still.upd
    | split
    | (with_reducible apply Still.upd); split

def State.gateEvent_writes : Nat :=
    0x100220000000000000000000000000000000000000000000000000000000000000000000000000000000000000000000000000000000000000000000000000000000000000000000000000
theorem State.gateEvent_still {F : Fld} {I V : Nat} (s : State) (code : Nat) (entry : Nat) (mask : Nat) (tsReport : Nat)
    (tsFirst : Nat) (hw : State.gateEvent_writes.testBit F.ctorIdx = false) (h : Still F I V s) :
    Still F I V (State.gateEvent s code entry mask tsReport tsFirst) := by
  unfold State.gateEvent
  repeat' first
    | with_reducible assumption
    | intro _
    | with_reducible refine State.emit_still _ _ _ (Wr.sub (by decide) hw) ?_
    | split
    | (with_reducible apply Still.upd); split

def State.gateNow_writes : Nat :=
    0x100220000000000000000000000000000000000000000000000000000000000000000000000000000000000000000000000000000000000000000000000000000000000000000000000000
theorem State.gateNow_still {F : Fld} {I V : Nat} (s : State) (code : Nat) (entry : Nat) (mask : Nat) (hw :
    State.gateNow_writes.testBit F.ctorIdx = false) (h : Still F I V s) :
    Still F I V (State.gateNow s code entry mask) := by
  unfold State.gateNow
  repeat' first
    | with_reducible assumption
    | intro _
    | with_reducible refine State.gateEvent_still _ _ _ _ _ _ (Wr.sub (by decide) hw) ?_
    | split
    | (with_reducible apply Still.upd); split

def State.runHeld_writes : Nat :=
    0x1002200000000000000000000000000000000000000000000000000000000000000000000000000000000200000822c0000000000000000000000000000000000000000000000000000000
theorem State.runHeld_still {F : Fld} {I V : Nat} (s : State) (e : Nat × Bool) (hw : State.runHeld_writes.testBit F.ctorIdx
    = false) (h : Still F I V s) :
    Still F I V (State.runHeld s e) := by
  unfold State.runHeld
  repeat' first
    | with_reducible assumption
    | intro _
    | with_reducible refine State.gateNow_still _ _ _ _ (Wr.sub (by decide) hw) ?_
    | with_reducible refine State.setOuten_still _ _ (Wr.sub (by decide) hw) ?_
    | with_reducible refine State.startCounter_still _ _ (Wr.sub (by decide) hw) ?_
    | with_reducible apply Still.ite
    | split
    | (with_reducible apply Still.upd); split

def State.shutDone_writes : Nat :=
    0x1003a00000000000000000030000000000000000000000000000000000008000000000000000000008000210000827c0000000000000000000000000000000000000000000000001000000
theorem State.shutDone_still {F : Fld} {I V : Nat} (s : State) (ms : List Nat) (hw : State.shutDone_writes.testBit
    F.ctorIdx = false) (h : Still F I V s) :
    Still F I V (State.shutDone s ms) := by
  unfold State.shutDone
  repeat' first
    | with_reducible assumption
    | intro _
    | with_reducible refine State.setBit_still _ _ _ _ _ (W := State.shutDone_writes) ?_ hw ?_
    | decide
    | with_reducible refine State.stopCounter_still _ _ (Wr.sub (by decide) hw) ?_
    | with_reducible refine State.runHeld_still _ _ (Wr.sub (by decide) hw) ?_
    | with_reducible apply Still.whenIf
    | with_reducible apply Still.each
    | fail_if_no_progress with_reducible apply Still.upd
    | split
    | (with_reducible apply Still.upd); split

def State.shutdown_writes : Nat :=
    0x1003a00000000000000000030000000000000000000000000000000000008000000000000000000008000210000827c0000000000000000000000000000000000000000000000001000000
theorem State.shutdown_still {F : Fld} {I V : Nat} (s : State) (targets : Nat) (stop : Bool) (hw :
    State.shutdown_writes.testBit F.ctorIdx = false) (h : Still F I V s) :
    Still F I V (State.shutdown s targets stop) := by
  unfold State.shutdown
  repeat' first
    | with_reducible assumption
    | intro _
    | with_reducible refine State.setBit_still _ _ _ _ _ (W := State.shutdown_writes) ?_ hw ?_
    | decide
    | with_reducible refine State.clearOuten_still _ _ (Wr.sub (by decide) hw) ?_
    | with_reducible refine State.shutDone_still _ _ (Wr.sub (by decide) hw) ?_
    | with_reducible apply Still.whenIf
    | with_reducible apply Still.each
    | with_reducible apply Still.foldl
    | fail_if_no_progress with_reducible apply Still.upd
    | split
    | (with_reducible apply Still.upd); split

def State.runEntry_writes : Nat :=
    0x1003a00000000000000000030000000000000000000000000000000000008000000000000000000068000210000827c0000000000000000000000000000000000000000000000001000000
theorem State.runEntry_still {F : Fld} {I V : Nat} (s : State) (i : Nat) (affected : Nat) (hw :
    State.runEntry_writes.testBit F.ctorIdx = false) (h : Still F I V s) :
    Still F I V (State.runEntry s i affected) := by
  unfold State.runEntry
  repeat' first
    | with_reducible assumption
    | intro _
    | with_reducible refine State.setFld_still _ _ _ _ (W := State.runEntry_writes) ?_ hw ?_
    | with_reducible refine State.setBit_still _ _ _ _ _ (W := State.runEntry_writes) ?_ hw ?_
    | decide
    | with_reducible refine State.gateNow_still _ _ _ _ (Wr.sub (by decide) hw) ?_
    | with_reducible refine State.raise_still _ _ _ (Wr.sub (by decide) hw) ?_
    | with_reducible refine State.shutdown_still _ _ _ (Wr.sub (by decide) hw) ?_
    | with_reducible apply Still.whenIf
    | with_reducible apply Still.each
    | with_reducible apply Still.ite
    | split
    | (with_reducible apply Still.upd); split

def State.gapEnd_writes : Nat :=
    0x1003a00000000000000000030000000000000000000000000000000000008000000000000000000008000210000827c0000000000000000000000000000000000000000000000001000000
theorem State.gapEnd_still {F : Fld} {I V : Nat} (s : State) (k : Nat) (hw : State.gapEnd_writes.testBit F.ctorIdx = false)
    (h : Still F I V s) :
    Still F I V (State.gapEnd s k) := by
  unfold State.gapEnd
  repeat' first
    | with_reducible assumption
    | intro _
    | with_reducible refine State.padsOff_still _ _ _ _ (Wr.sub (by decide) hw) ?_
    | with_reducible refine State.shutDone_still _ _ (Wr.sub (by decide) hw) ?_
    | with_reducible apply Still.each
    | with_reducible apply Still.ite
    | fail_if_no_progress with_reducible apply Still.upd
    | split
    | (with_reducible apply Still.upd); split

def State.seqFallback_writes : Nat := 0x200000000000000000000000000000000000000000000000000000000000000000000000
theorem State.seqFallback_still {F : Fld} {I V : Nat} (s : State) (hw : State.seqFallback_writes.testBit F.ctorIdx = false)
    (h : Still F I V s) :
    Still F I V (State.seqFallback s) := by
  unfold State.seqFallback
  repeat' first
    | with_reducible assumption
    | intro _
    | with_reducible refine State.setFld_still _ _ _ _ (W := State.seqFallback_writes) ?_ hw ?_
    | decide
    | with_reducible apply Still.whenIf
    | fail_if_no_progress with_reducible apply Still.upd
    | split
    | (with_reducible apply Still.upd); split

def State.settleTrips_writes : Nat :=
    0x1003a0000000000000000003000000000000000000000000000000000000800000000000000000000000001000001c00000000200000000000000000000000000000000000000001000000
theorem State.settleTrips_still {F : Fld} {I V : Nat} (s : State) (hw : State.settleTrips_writes.testBit F.ctorIdx = false)
    (h : Still F I V s) :
    Still F I V (State.settleTrips s) := by
  unfold State.settleTrips
  repeat' first
    | with_reducible assumption
    | intro _
    | with_reducible refine State.setFld_still _ _ _ _ (W := State.settleTrips_writes) ?_ hw ?_
    | with_reducible refine State.setFlag_still _ _ _ _ (W := State.settleTrips_writes) ?_ hw ?_
    | decide
    | with_reducible refine State.settlePads_still _ (Wr.sub (by decide) hw) ?_
    | with_reducible apply Still.whenIf
    | with_reducible apply Still.each
    | with_reducible apply Still.foldl
    | fail_if_no_progress with_reducible apply Still.upd
    | split
    | (with_reducible apply Still.upd); split

end Sys2Proof.Machine
end

