-- ==== Sys2Proof/Laws/StillComparator.lean ====
section
/-!
SUPPORT. Which register fields the operations of Machine/Comparator.lean can write (Laws/Still.lean), as bits by the field's number, and
that they leave every other as it was.
-/
namespace Sys2Proof.Machine

set_option linter.unusedTactic false
set_option linter.unreachableTactic false

theorem State.modWc_still {F : Fld} {I V : Nat} (s : State) (c : Nat) (f : CompChan → CompChan) (h : Still F I V s) :
    Still F I V (State.modWc s c f) := by
  unfold State.modWc
  repeat' first
    | with_reducible assumption
    | intro _
    | fail_if_no_progress with_reducible apply Still.upd
    | split
    | (with_reducible apply Still.upd); split

def State.latchIfTripping_writes : Nat :=
    0x1003a0000000000000000003000000000000000000000000000000000000800000000000000000000000001000001c00009800200000000000000000000000000000000000000001000000
theorem State.latchIfTripping_still {F : Fld} {I V : Nat} (s : State) (c : Nat) (hw : State.latchIfTripping_writes.testBit
    F.ctorIdx = false) (h : Still F I V s) :
    Still F I V (State.latchIfTripping s c) := by
  unfold State.latchIfTripping
  repeat' first
    | with_reducible assumption
    | intro _
    | with_reducible refine State.setFld_still _ _ _ _ (W := State.latchIfTripping_writes) ?_ hw ?_
    | with_reducible refine State.setFlag_still _ _ _ _ (W := State.latchIfTripping_writes) ?_ hw ?_
    | with_reducible refine State.count_still _ _ _ (W := State.latchIfTripping_writes) ?_ hw ?_
    | decide
    | with_reducible refine State.settleTrips_still _ (Wr.sub (by decide) hw) ?_
    | with_reducible apply Still.ite
    | split
    | (with_reducible apply Still.upd); split

def State.setLevel_writes : Nat :=
    0x1003a0000000000000000003000000000000000000000000000000000000800000000000000000000000001000001c00039800200000000000000000000000000000000000000001000000
theorem State.setLevel_still {F : Fld} {I V : Nat} (s : State) (c : Nat) (level : Int) (hw : State.setLevel_writes.testBit
    F.ctorIdx = false) (h : Still F I V s) :
    Still F I V (State.setLevel s c level) := by
  unfold State.setLevel
  repeat' first
    | with_reducible assumption
    | intro _
    | with_reducible refine State.setFlag_still _ _ _ _ (W := State.setLevel_writes) ?_ hw ?_
    | decide
    | with_reducible refine State.modWc_still _ _ _ ?_
    | with_reducible refine State.latchIfTripping_still _ _ (Wr.sub (by decide) hw) ?_
    | split
    | (with_reducible apply Still.upd); split

def State.latchClear_writes : Nat :=
    0x1003a0000000000000000003000000000000000000000000000000000000800000000000000000000000001000001c00000800200000000000000000000000000000000000000001000000
theorem State.latchClear_still {F : Fld} {I V : Nat} (s : State) (c : Nat) (hw : State.latchClear_writes.testBit F.ctorIdx
    = false) (h : Still F I V s) :
    Still F I V (State.latchClear s c) := by
  unfold State.latchClear
  repeat' first
    | with_reducible assumption
    | intro _
    | with_reducible refine State.setFld_still _ _ _ _ (W := State.latchClear_writes) ?_ hw ?_
    | decide
    | with_reducible refine State.settleTrips_still _ (Wr.sub (by decide) hw) ?_
    | with_reducible refine State.modWc_still _ _ _ ?_
    | split
    | (with_reducible apply Still.upd); split

def execComparatorLatchSet_writes : Nat :=
    0x1003a0000000000000000003000000000000000000000000000000000000800000000000000000000000001000001c00039800200000000000000000000000000000000000000001000000
theorem execComparatorLatchSet_still {F : Fld} {I V : Nat} (c : Nat) (level : Int) (s : State) (hw :
    execComparatorLatchSet_writes.testBit F.ctorIdx = false) (h : Still F I V s) :
    StillOut F I V (execComparatorLatchSet c level s) := by
  unfold execComparatorLatchSet
  repeat' first
    | with_reducible assumption
    | with_reducible apply StillOut.next
    | with_reducible apply StillOut.ite
    | intro _
    | with_reducible refine State.setLevel_still _ _ _ (Wr.sub (by decide) hw) ?_
    | with_reducible apply Still.ite
    | split
    | dsimp only; split

def execLebBlankingEnd_writes : Nat :=
    0x1003a0000000000000000003000000000000000000000000000000000000800000000000000000000000001000001c00039800200000000000000000000000000000000000000001000000
theorem execLebBlankingEnd_still {F : Fld} {I V : Nat} (c : Nat) (level : Int) (s : State) (hw :
    execLebBlankingEnd_writes.testBit F.ctorIdx = false) (h : Still F I V s) :
    StillOut F I V (execLebBlankingEnd c level s) := by
  unfold execLebBlankingEnd
  repeat' first
    | with_reducible assumption
    | with_reducible apply StillOut.next
    | with_reducible apply StillOut.ite
    | intro _
    | with_reducible refine State.setLevel_still _ _ _ (Wr.sub (by decide) hw) ?_
    | with_reducible refine State.modWc_still _ _ _ ?_
    | with_reducible apply Still.ite
    | split
    | dsimp only; split

def State.wcClr_writes : Nat :=
    0x1003a0000000000000000003000000000000000000000000000000000000800000000000000000000000001000001c00000800200000000000000000000000000000000000000001000000
theorem State.wcClr_still {F : Fld} {I V : Nat} (s : State) (c : Nat) (hw : State.wcClr_writes.testBit F.ctorIdx = false)
    (h : Still F I V s) :
    Still F I V (State.wcClr s c) := by
  unfold State.wcClr
  repeat' first
    | with_reducible assumption
    | intro _
    | with_reducible refine State.latchClear_still _ _ (Wr.sub (by decide) hw) ?_
    | with_reducible apply Still.ite
    | split
    | (with_reducible apply Still.upd); split

def execWcClrWrite_writes : Nat :=
    0x1003a0000000000000000003000000000000000000000000000000000000800000000000000000000000001000001c00039800200000000000000000000000000000000000000001000000
theorem execWcClrWrite_still {F : Fld} {I V : Nat} (core : Nat) (c : Nat) (level : Int) (s : State) (hw :
    execWcClrWrite_writes.testBit F.ctorIdx = false) (h : Still F I V s) :
    StillOut F I V (execWcClrWrite core c level s) := by
  unfold execWcClrWrite
  repeat' first
    | with_reducible assumption
    | with_reducible apply StillOut.next
    | with_reducible apply StillOut.ite
    | intro _
    | with_reducible refine State.accessBlk_still _ _ _ _ _ (Wr.sub (by decide) hw) ?_ ?_
    | with_reducible refine State.wcClr_still _ _ (Wr.sub (by decide) hw) ?_
    | with_reducible refine State.setLevel_still _ _ _ (Wr.sub (by decide) hw) ?_
    | with_reducible apply Still.ite
    | split
    | dsimp only; split

def execComparatorInitialClear_writes : Nat :=
    0x1003a0000000000000000003000000000000000000000000000000000000800000000000000000000000001000001c00039800200000000000000000000000000000000000000001000000
theorem execComparatorInitialClear_still {F : Fld} {I V : Nat} (c : Nat) (level : Int) (s : State) (hw :
    execComparatorInitialClear_writes.testBit F.ctorIdx = false) (h : Still F I V s) :
    StillOut F I V (execComparatorInitialClear c level s) := by
  unfold execComparatorInitialClear
  repeat' first
    | with_reducible assumption
    | with_reducible apply StillOut.next
    | with_reducible apply StillOut.ite
    | intro _
    | with_reducible refine State.setLevel_still _ _ _ (Wr.sub (by decide) hw) ?_
    | with_reducible refine State.modWc_still _ _ _ ?_
    | with_reducible refine State.latchClear_still _ _ (Wr.sub (by decide) hw) ?_
    | with_reducible apply Still.ite
    | split
    | dsimp only; split

def State.wcThr_writes : Nat :=
    0x1003a0000000000000000003000000000000000000000000000000000000800000000000000000000000001000001c00039818200000000000000000000000000000000000000001000000
theorem State.wcThr_still {F : Fld} {I V : Nat} (s : State) (c : Nat) (lo : Nat) (hi : Nat) (hw :
    State.wcThr_writes.testBit F.ctorIdx = false) (h : Still F I V s) :
    Still F I V (State.wcThr s c lo hi) := by
  unfold State.wcThr
  repeat' first
    | with_reducible assumption
    | intro _
    | with_reducible refine State.setFld_still _ _ _ _ (W := State.wcThr_writes) ?_ hw ?_
    | decide
    | with_reducible refine State.setLevel_still _ _ _ (Wr.sub (by decide) hw) ?_
    | with_reducible refine State.discarded_still _ _ _ (Wr.sub (by decide) hw) ?_
    | with_reducible apply Still.ite
    | split
    | (with_reducible apply Still.upd); split

def execWcThrWrite_writes : Nat :=
    0x1003a0000000000000000003000000000000000000000000000000000000800000000000000000000000001000001c00039818200000000000000000000000000000000000000001000000
theorem execWcThrWrite_still {F : Fld} {I V : Nat} (core : Nat) (c : Nat) (lo : Nat) (hi : Nat) (s : State) (hw :
    execWcThrWrite_writes.testBit F.ctorIdx = false) (h : Still F I V s) :
    StillOut F I V (execWcThrWrite core c lo hi s) := by
  unfold execWcThrWrite
  repeat' first
    | with_reducible assumption
    | with_reducible apply StillOut.next
    | intro _
    | with_reducible refine State.accessBlk_still _ _ _ _ _ (Wr.sub (by decide) hw) ?_ ?_
    | with_reducible refine State.wcThr_still _ _ _ _ (Wr.sub (by decide) hw) ?_
    | split
    | dsimp only; split

def execTripGroupFirstAssert_writes : Nat :=
    0x1003a00000000000000000030000000000000000000000000000000000008000000000000000000068000210000827c0000006400000000000000000000000000000000000000001000000
theorem execTripGroupFirstAssert_still {F : Fld} {I V : Nat} (g : Nat) (s : State) (hw :
    execTripGroupFirstAssert_writes.testBit F.ctorIdx = false) (h : Still F I V s) :
    StillOut F I V (execTripGroupFirstAssert g s) := by
  unfold execTripGroupFirstAssert
  repeat' first
    | with_reducible assumption
    | with_reducible apply StillOut.next
    | with_reducible apply StillOut.ite
    | intro _
    | with_reducible refine State.setFld_still _ _ _ _ (W := execTripGroupFirstAssert_writes) ?_ hw ?_
    | with_reducible refine State.setBit_still _ _ _ _ _ (W := execTripGroupFirstAssert_writes) ?_ hw ?_
    | decide
    | with_reducible refine State.event_still _ _ _ _ _ (Wr.sub (by decide) hw) ?_
    | with_reducible refine State.runEntry_still _ _ _ (Wr.sub (by decide) hw) ?_
    | with_reducible apply Still.ite
    | fail_if_no_progress with_reducible apply Still.upd
    | split
    | dsimp only; split

def State.cycleClears_writes : Nat :=
    0x1003a0000000000000000003000000000000000000000000000000000000800000000000000000000000001000001c00000800208000000000000000000000000000000000000001000000
theorem State.cycleClears_still {F : Fld} {I V : Nat} (s : State) (m : Nat) (hw : State.cycleClears_writes.testBit
    F.ctorIdx = false) (h : Still F I V s) :
    Still F I V (State.cycleClears s m) := by
  unfold State.cycleClears
  repeat' first
    | with_reducible assumption
    | intro _
    | with_reducible refine State.setFld_still _ _ _ _ (W := State.cycleClears_writes) ?_ hw ?_
    | decide
    | with_reducible refine State.modWc_still _ _ _ ?_
    | with_reducible refine State.settleTrips_still _ (Wr.sub (by decide) hw) ?_
    | with_reducible apply Still.whenIf
    | with_reducible apply Still.each
    | split
    | (with_reducible apply Still.upd); split

def State.compApplied_writes : Nat :=
    0x1003a0000000000000000003000000000000000000000000000000000000800000000000000000000000001000001c00039800200000000000000000000000000000000000000001000000
theorem State.compApplied_still {F : Fld} {I V : Nat} (s : State) (oldMode : List Nat) (hw :
    State.compApplied_writes.testBit F.ctorIdx = false) (h : Still F I V s) :
    Still F I V (State.compApplied s oldMode) := by
  unfold State.compApplied
  repeat' first
    | with_reducible assumption
    | intro _
    | with_reducible refine State.setFld_still _ _ _ _ (W := State.compApplied_writes) ?_ hw ?_
    | decide
    | with_reducible refine State.modWc_still _ _ _ ?_
    | with_reducible refine State.setLevel_still _ _ _ (Wr.sub (by decide) hw) ?_
    | with_reducible refine State.settleTrips_still _ (Wr.sub (by decide) hw) ?_
    | with_reducible apply Still.whenIf
    | with_reducible apply Still.each
    | with_reducible apply Still.ite
    | split
    | (with_reducible apply Still.upd); split

end Sys2Proof.Machine
end

