-- ==== Sys2Proof/Laws/StillModulator.lean ====
section
/-!
SUPPORT. Which register fields the operations of Machine/Modulator.lean can write (Laws/Still.lean), as bits by the field's number, and
that they leave every other as it was.
-/
namespace Sys2Proof.Machine

set_option linter.unusedTactic false
set_option linter.unreachableTactic false

theorem State.modChan_still {F : Fld} {I V : Nat} (s : State) (n : Nat) (f : ModChan → ModChan) (h : Still F I V s) :
    Still F I V (State.modChan s n f) := by
  unfold State.modChan
  repeat' first
    | with_reducible assumption
    | intro _
    | fail_if_no_progress with_reducible apply Still.upd
    | split
    | (with_reducible apply Still.upd); split

theorem State.mainOutput_still {F : Fld} {I V : Nat} (s : State) (n : Nat) (m : Nat) (l : List Bool) (h : Still F I V s) :
    Still F I V (State.mainOutput s n m l).2 := by
  unfold State.mainOutput
  repeat' first
    | with_reducible assumption
    | intro _
    | with_reducible refine State.roundFree_still _ _ _ ?_
    | (with_reducible refine Still.snd ?_ (by assumption)); with_reducible refine State.roundFree_still _ _ _ ?_
    | dsimp only
    | split
    | (with_reducible apply Still.upd); split

theorem State.guardInside_still {F : Fld} {I V : Nat} (s : State) (n : Nat) (h : Still F I V s) :
    Still F I V (State.guardInside s n).2 := by
  unfold State.guardInside
  repeat' first
    | with_reducible assumption
    | intro _
    | with_reducible refine State.fresh_still _ _ ?_
    | (with_reducible refine Still.snd ?_ (by assumption)); with_reducible refine State.fresh_still _ _ ?_
    | with_reducible apply Still.ite
    | with_reducible apply Still.iteSnd
    | dsimp only
    | split
    | (with_reducible apply Still.upd); split

def State.guardAssert_writes : Nat := 0x48000000000000000000000000000000000000000000000
theorem State.guardAssert_still {F : Fld} {I V : Nat} (s : State) (n : Nat) (initial : Bool) (hw :
    State.guardAssert_writes.testBit F.ctorIdx = false) (h : Still F I V s) :
    Still F I V (State.guardAssert s n initial) := by
  unfold State.guardAssert
  repeat' first
    | with_reducible assumption
    | intro _
    | with_reducible refine State.setFld_still _ _ _ _ (W := State.guardAssert_writes) ?_ hw ?_
    | with_reducible refine State.count_still _ _ _ (W := State.guardAssert_writes) ?_ hw ?_
    | decide
    | with_reducible refine State.modChan_still _ _ _ ?_
    | with_reducible apply Still.whenIf
    | split
    | (with_reducible apply Still.upd); split

def State.guardClear_writes : Nat :=
    0x1003a0000000000000000003000000000000000000000000000000000000800000000000000000000000001000001c00000000208000000000000000000000000000000000000001000000
theorem State.guardClear_still {F : Fld} {I V : Nat} (s : State) (n : Nat) (hw : State.guardClear_writes.testBit F.ctorIdx
    = false) (h : Still F I V s) :
    Still F I V (State.guardClear s n) := by
  unfold State.guardClear
  repeat' first
    | with_reducible assumption
    | intro _
    | with_reducible refine State.setFld_still _ _ _ _ (W := State.guardClear_writes) ?_ hw ?_
    | decide
    | with_reducible refine State.settleTrips_still _ (Wr.sub (by decide) hw) ?_
    | with_reducible refine State.modChan_still _ _ _ ?_
    | split
    | (with_reducible apply Still.upd); split

def State.chansLose_writes : Nat :=
    0x1003a0000000000000000003000000000000000000000000000000000000800000000000000000000000001000001c00000000248000000000000000000000000000000000000001000000
theorem State.chansLose_still {F : Fld} {I V : Nat} (s : State) (l : List Nat) (hw : State.chansLose_writes.testBit
    F.ctorIdx = false) (h : Still F I V s) :
    Still F I V (State.chansLose s l) := by
  unfold State.chansLose
  repeat' first
    | with_reducible assumption
    | intro _
    | with_reducible refine State.settleTrips_still _ (Wr.sub (by decide) hw) ?_
    | with_reducible refine State.modChan_still _ _ _ ?_
    | with_reducible refine State.guardAssert_still _ _ _ (Wr.sub (by decide) hw) ?_
    | with_reducible apply Still.whenIf
    | with_reducible apply Still.each
    | split
    | (with_reducible apply Still.upd); split

def State.chansRecover_writes : Nat :=
    0x1003a0000000000000000003000000000000000000000000000000000000800000000000000000000000001000001c00000000248000000000000000000000000000000000000001000000
theorem State.chansRecover_still {F : Fld} {I V : Nat} (s : State) (l : List Nat) (hw : State.chansRecover_writes.testBit
    F.ctorIdx = false) (h : Still F I V s) :
    Still F I V (State.chansRecover s l) := by
  unfold State.chansRecover
  repeat' first
    | with_reducible assumption
    | intro _
    | with_reducible refine State.settleTrips_still _ (Wr.sub (by decide) hw) ?_
    | with_reducible refine State.guardAssert_still _ _ _ (Wr.sub (by decide) hw) ?_
    | with_reducible refine State.modChan_still _ _ _ ?_
    | with_reducible apply Still.whenIf
    | with_reducible apply Still.each
    | split
    | (with_reducible apply Still.upd); split

def execModClockLost_writes : Nat :=
    0x1003a0000000000000000003000000000000000000000000000000000000800000000000000000000000001000001c00000000248000030000000000000000000000000000000001000000
theorem execModClockLost_still {F : Fld} {I V : Nat} (loss : ClockLoss) (s : State) (hw : execModClockLost_writes.testBit
    F.ctorIdx = false) (h : Still F I V s) :
    StillOut F I V (execModClockLost loss s) := by
  unfold execModClockLost
  repeat' first
    | with_reducible assumption
    | with_reducible apply StillOut.next
    | with_reducible apply StillOut.ite
    | intro _
    | with_reducible refine State.setBit_still _ _ _ _ _ (W := execModClockLost_writes) ?_ hw ?_
    | decide
    | with_reducible refine State.chansLose_still _ _ (Wr.sub (by decide) hw) ?_
    | with_reducible refine State.event_still _ _ _ _ _ (Wr.sub (by decide) hw) ?_
    | with_reducible apply Still.ite
    | split
    | dsimp only; split

theorem State.interpolate_still {F : Fld} {I V : Nat} (s : State) (n : Nat) (h : Still F I V s) :
    Still F I V (State.interpolate s n).2 := by
  unfold State.interpolate
  repeat' first
    | with_reducible assumption
    | intro _
    | with_reducible refine State.fresh_still _ _ ?_
    | (with_reducible refine Still.snd ?_ (by assumption)); with_reducible refine State.fresh_still _ _ ?_
    | with_reducible apply Still.ite
    | with_reducible apply Still.iteSnd
    | dsimp only
    | split
    | (with_reducible apply Still.upd); split

theorem State.mainStep_still {F : Fld} {I V : Nat} (s : State) (n : Nat) (h : Still F I V s) :
    Still F I V (State.mainStep s n).2 := by
  unfold State.mainStep
  repeat' first
    | with_reducible assumption
    | intro _
    | with_reducible refine State.mainOutput_still _ _ _ _ ?_
    | (with_reducible refine Still.snd ?_ (by assumption)); with_reducible refine State.mainOutput_still _ _ _ _ ?_
    | with_reducible refine State.fresh_still _ _ ?_
    | (with_reducible refine Still.snd ?_ (by assumption)); with_reducible refine State.fresh_still _ _ ?_
    | with_reducible apply Still.ite
    | with_reducible apply Still.iteSnd
    | dsimp only
    | split
    | (with_reducible apply Still.upd); split

def State.modWord_writes : Nat :=
    0x1003a00000000000000000030000000000000000000000000000000000008000000000000000000000000000000000000000000a0000000000000000000000000000000000000001000000
theorem State.modWord_still {F : Fld} {I V : Nat} (s : State) (n : Nat) (hw : State.modWord_writes.testBit F.ctorIdx =
    false) (h : Still F I V s) :
    Still F I V (State.modWord s n) := by
  unfold State.modWord
  repeat' first
    | with_reducible assumption
    | intro _
    | with_reducible refine State.setFld_still _ _ _ _ (W := State.modWord_writes) ?_ hw ?_
    | with_reducible refine State.count_still _ _ _ (W := State.modWord_writes) ?_ hw ?_
    | decide
    | with_reducible refine State.mainStep_still _ _ ?_
    | (with_reducible refine Still.snd ?_ (by assumption)); with_reducible refine State.mainStep_still _ _ ?_
    | with_reducible refine State.fresh_still _ _ ?_
    | (with_reducible refine Still.snd ?_ (by assumption)); with_reducible refine State.fresh_still _ _ ?_
    | with_reducible refine State.modChan_still _ _ _ ?_
    | with_reducible refine State.interpolate_still _ _ ?_
    | (with_reducible refine Still.snd ?_ (by assumption)); with_reducible refine State.interpolate_still _ _ ?_
    | with_reducible refine State.offer_still _ _ _ (Wr.sub (by decide) hw) ?_
    | with_reducible apply Still.whenIf
    | with_reducible apply Still.ite
    | split
    | (with_reducible apply Still.upd); split

def State.dataCheck_writes : Nat :=
    0x1003a0000000000000000003000000000000000000000000000000000000800000000000000000000000001000001c000000002480000c0000000000000000000000000000000001000000
theorem State.dataCheck_still {F : Fld} {I V : Nat} (s : State) (n : Nat) (hw : State.dataCheck_writes.testBit F.ctorIdx =
    false) (h : Still F I V s) :
    Still F I V (State.dataCheck s n) := by
  unfold State.dataCheck
  repeat' first
    | with_reducible assumption
    | intro _
    | with_reducible refine State.setBit_still _ _ _ _ _ (W := State.dataCheck_writes) ?_ hw ?_
    | decide
    | with_reducible refine State.chansLose_still _ _ (Wr.sub (by decide) hw) ?_
    | with_reducible refine State.event_still _ _ _ _ _ (Wr.sub (by decide) hw) ?_
    | with_reducible refine State.chansRecover_still _ _ (Wr.sub (by decide) hw) ?_
    | split
    | (with_reducible apply Still.upd); split

def State.guardCheck_writes : Nat :=
    0x1003a0000000000000000003000000000000000000000000000000000000800000000000000000000000001000001c00000000248000000000000000000000000000000000000001000000
theorem State.guardCheck_still {F : Fld} {I V : Nat} (s : State) (n : Nat) (hw : State.guardCheck_writes.testBit F.ctorIdx
    = false) (h : Still F I V s) :
    Still F I V (State.guardCheck s n) := by
  unfold State.guardCheck
  repeat' first
    | with_reducible assumption
    | intro _
    | with_reducible refine State.guardInside_still _ _ ?_
    | (with_reducible refine Still.snd ?_ (by assumption)); with_reducible refine State.guardInside_still _ _ ?_
    | with_reducible refine State.settleTrips_still _ (Wr.sub (by decide) hw) ?_
    | with_reducible refine State.guardAssert_still _ _ _ (Wr.sub (by decide) hw) ?_
    | with_reducible refine State.guardClear_still _ _ (Wr.sub (by decide) hw) ?_
    | with_reducible apply Still.ite
    | split
    | (with_reducible apply Still.upd); split

def State.feedBit_writes : Nat :=
    0x1003a0000000000000000003000000000000000000000000000000000000800000000000000000000000001000001c000000002e80000c0000000000000000000000000000000001000000
theorem State.feedBit_still {F : Fld} {I V : Nat} (s : State) (n : Nat) (level : Bool) (t : Nat) (hw :
    State.feedBit_writes.testBit F.ctorIdx = false) (h : Still F I V s) :
    Still F I V (State.feedBit s n level t) := by
  unfold State.feedBit
  repeat' first
    | with_reducible assumption
    | intro _
    | with_reducible refine State.guardCheck_still _ _ (Wr.sub (by decide) hw) ?_
    | with_reducible refine State.dataCheck_still _ _ (Wr.sub (by decide) hw) ?_
    | with_reducible refine State.modChan_still _ _ _ ?_
    | with_reducible refine State.modWord_still _ _ (Wr.sub (by decide) hw) ?_
    | with_reducible apply Still.whenIf
    | split
    | (with_reducible apply Still.upd); split

def State.feedPeriod_writes : Nat :=
    0x1003a0000000000000000003000000000000000000000000000000000000800000000000000000000000001000001c000000002e80000c0000000000000000000000000000000001000000
theorem State.feedPeriod_still {F : Fld} {I V : Nat} (s : State) (j : Nat) (k : MdClock) (hw :
    State.feedPeriod_writes.testBit F.ctorIdx = false) (h : Still F I V s) :
    Still F I V (State.feedPeriod s j k) := by
  unfold State.feedPeriod
  repeat' first
    | with_reducible assumption
    | intro _
    | with_reducible refine State.feedBit_still _ _ _ _ (Wr.sub (by decide) hw) ?_
    | with_reducible apply Still.each
    | with_reducible apply Still.ite
    | split
    | (with_reducible apply Still.upd); split

def State.feedPin_writes : Nat :=
    0x1003a0000000000000000003000000000000000000000000000000000000800000000000000000000000001000001c000000002e80000c0000000000000000000000000000000001000000
theorem State.feedPin_still {F : Fld} {I V : Nat} (s : State) (j : Nat) (l : List MdClock) (hw :
    State.feedPin_writes.testBit F.ctorIdx = false) (h : Still F I V s) :
    Still F I V (State.feedPin s j l) := by
  unfold State.feedPin
  repeat' first
    | with_reducible assumption
    | intro _
    | with_reducible refine State.feedPeriod_still _ _ _ (Wr.sub (by decide) hw) ?_
    | with_reducible apply Still.each
    | split
    | (with_reducible apply Still.upd); split

def execModDecimation_writes : Nat :=
    0x1003a0000000000000000003000000000000000000000000000000000000800000000000000000000000001000001c000000002e80000c0000000000000000000000000000000001000000
theorem execModDecimation_still {F : Fld} {I V : Nat} (j : Nat) (before : List MdClock) (last : MdClock) (s : State) (hw :
    execModDecimation_writes.testBit F.ctorIdx = false) (h : Still F I V s) :
    StillOut F I V (execModDecimation j before last s) := by
  unfold execModDecimation
  repeat' first
    | with_reducible assumption
    | with_reducible apply StillOut.next
    | intro _
    | with_reducible refine State.feedPin_still _ _ _ (Wr.sub (by decide) hw) ?_
    | split
    | dsimp only; split

def execModDataLost_writes : Nat :=
    0x1003a0000000000000000003000000000000000000000000000000000000800000000000000000000000001000001c000000002e80000c0000000000000000000000000000000001000000
theorem execModDataLost_still {F : Fld} {I V : Nat} (run : PinPeriods) (s : State) (hw : execModDataLost_writes.testBit
    F.ctorIdx = false) (h : Still F I V s) :
    StillOut F I V (execModDataLost run s) := by
  unfold execModDataLost
  repeat' first
    | with_reducible assumption
    | with_reducible apply StillOut.next
    | intro _
    | with_reducible refine State.feedPin_still _ _ _ (Wr.sub (by decide) hw) ?_
    | split
    | dsimp only; split

def execModLossEnd_writes : Nat :=
    0x1003a0000000000000000003000000000000000000000000000000000000800000000000000000000000001000001c000000002e80000d0000000000000000000000000000000001000000
theorem execModLossEnd_still {F : Fld} {I V : Nat} (j : Nat) (clocks : List MdClock) (s : State) (hw :
    execModLossEnd_writes.testBit F.ctorIdx = false) (h : Still F I V s) :
    StillOut F I V (execModLossEnd j clocks s) := by
  unfold execModLossEnd
  repeat' first
    | with_reducible assumption
    | with_reducible apply StillOut.next
    | intro _
    | with_reducible refine State.setBit_still _ _ _ _ _ (W := execModLossEnd_writes) ?_ hw ?_
    | decide
    | with_reducible refine State.feedPin_still _ _ _ (Wr.sub (by decide) hw) ?_
    | with_reducible refine State.chansRecover_still _ _ (Wr.sub (by decide) hw) ?_
    | with_reducible apply Still.whenIf
    | split
    | dsimp only; split

def execGuardTripAssert_writes : Nat :=
    0x1003a0000000000000000003000000000000000000000000000000000000800000000000000000000000001000001c000000002e80000c0000000000000000000000000000000001000000
theorem execGuardTripAssert_still {F : Fld} {I V : Nat} (j : Nat) (clocks : List MdClock) (s : State) (hw :
    execGuardTripAssert_writes.testBit F.ctorIdx = false) (h : Still F I V s) :
    StillOut F I V (execGuardTripAssert j clocks s) := by
  unfold execGuardTripAssert
  repeat' first
    | with_reducible assumption
    | with_reducible apply StillOut.next
    | intro _
    | with_reducible refine State.feedPin_still _ _ _ (Wr.sub (by decide) hw) ?_
    | split
    | dsimp only; split

def execGuardSettleClear_writes : Nat :=
    0x1003a0000000000000000003000000000000000000000000000000000000800000000000000000000000001000001c000000002e80000c0000000000000000000000000000000001000000
theorem execGuardSettleClear_still {F : Fld} {I V : Nat} (j : Nat) (clocks : List MdClock) (s : State) (hw :
    execGuardSettleClear_writes.testBit F.ctorIdx = false) (h : Still F I V s) :
    StillOut F I V (execGuardSettleClear j clocks s) := by
  unfold execGuardSettleClear
  repeat' first
    | with_reducible assumption
    | with_reducible apply StillOut.next
    | intro _
    | with_reducible refine State.feedPin_still _ _ _ (Wr.sub (by decide) hw) ?_
    | split
    | dsimp only; split

theorem State.pwmEvent_still {F : Fld} {I V : Nat} (s : State) (m : Nat) (evt : Nat) (h : Still F I V s) :
    Still F I V (State.pwmEvent s m evt) := by
  unfold State.pwmEvent
  repeat' first
    | with_reducible assumption
    | intro _
    | with_reducible refine State.pwmOccurs_still _ _ _ ?_
    | with_reducible refine State.modChan_still _ _ _ ?_
    | with_reducible apply Still.whenIf
    | with_reducible apply Still.each
    | split
    | (with_reducible apply Still.upd); split

theorem State.modLeave_still {F : Fld} {I V : Nat} (s : State) (h : Still F I V s) :
    Still F I V (State.modLeave s) := by
  unfold State.modLeave
  repeat' first
    | with_reducible assumption
    | intro _
    | with_reducible refine State.modChan_still _ _ _ ?_
    | with_reducible apply Still.each
    | split
    | (with_reducible apply Still.upd); split

def State.fdlyWrite_writes : Nat :=
    0x100220000000000000000000000000000000000000000000000000000000000000000000000000000000000000000000000000000080000000000000000000000000000000000000000000
theorem State.fdlyWrite_still {F : Fld} {I V : Nat} (s : State) (n : Nat) (v : Nat) (hw : State.fdlyWrite_writes.testBit
    F.ctorIdx = false) (h : Still F I V s) :
    Still F I V (State.fdlyWrite s n v) := by
  unfold State.fdlyWrite
  repeat' first
    | with_reducible assumption
    | intro _
    | with_reducible refine State.setFld_still _ _ _ _ (W := State.fdlyWrite_writes) ?_ hw ?_
    | decide
    | with_reducible refine State.discarded_still _ _ _ (Wr.sub (by decide) hw) ?_
    | with_reducible refine State.modChan_still _ _ _ ?_
    | with_reducible apply Still.ite
    | split
    | (with_reducible apply Still.upd); split

def execModFdlyWrite_writes : Nat :=
    0x100220000000000000000003000000000000000000000000000000000000000000000000000000000000000000000000000000000080000000000000000000000000000000000000000000
theorem execModFdlyWrite_still {F : Fld} {I V : Nat} (core : Nat) (n : Nat) (fdly : Nat) (s : State) (hw :
    execModFdlyWrite_writes.testBit F.ctorIdx = false) (h : Still F I V s) :
    StillOut F I V (execModFdlyWrite core n fdly s) := by
  unfold execModFdlyWrite
  repeat' first
    | with_reducible assumption
    | with_reducible apply StillOut.next
    | intro _
    | with_reducible refine State.accessBlk_still _ _ _ _ _ (Wr.sub (by decide) hw) ?_ ?_
    | with_reducible refine State.fdlyWrite_still _ _ _ (Wr.sub (by decide) hw) ?_
    | split
    | dsimp only; split

def State.guardClr_writes : Nat :=
    0x1003a0000000000000000003000000000000000000000000000000000000800000000000000000000000001000001c00000000208000000000000000000000000000000000000001000000
theorem State.guardClr_still {F : Fld} {I V : Nat} (s : State) (n : Nat) (hw : State.guardClr_writes.testBit F.ctorIdx =
    false) (h : Still F I V s) :
    Still F I V (State.guardClr s n) := by
  unfold State.guardClr
  repeat' first
    | with_reducible assumption
    | intro _
    | with_reducible refine State.guardInside_still _ _ ?_
    | (with_reducible refine Still.snd ?_ (by assumption)); with_reducible refine State.guardInside_still _ _ ?_
    | with_reducible refine State.guardClear_still _ _ (Wr.sub (by decide) hw) ?_
    | with_reducible apply Still.ite
    | split
    | (with_reducible apply Still.upd); split

def execModGuardClr_writes : Nat :=
    0x1003a0000000000000000003000000000000000000000000000000000000800000000000000000000000001000001c00000000208000000000000000000000000000000000000001000000
theorem execModGuardClr_still {F : Fld} {I V : Nat} (core : Nat) (n : Nat) (clr : Bool) (s : State) (hw :
    execModGuardClr_writes.testBit F.ctorIdx = false) (h : Still F I V s) :
    StillOut F I V (execModGuardClr core n clr s) := by
  unfold execModGuardClr
  repeat' first
    | with_reducible assumption
    | with_reducible apply StillOut.next
    | intro _
    | with_reducible refine State.accessBlk_still _ _ _ _ _ (Wr.sub (by decide) hw) ?_ ?_
    | with_reducible refine State.guardClr_still _ _ (Wr.sub (by decide) hw) ?_
    | with_reducible apply Still.whenIf
    | split
    | dsimp only; split

def State.modApplied_writes : Nat :=
    0x1003a0000000000000000003000000000000000000000000000000000000800000000000000000000000001000001c00000000248000000000000000000000000000000000000001000000
theorem State.modApplied_still {F : Fld} {I V : Nat} (s : State) (chEn : Nat) (before : List (Nat × Nat × Nat × Nat)) (hw :
    State.modApplied_writes.testBit F.ctorIdx = false) (h : Still F I V s) :
    Still F I V (State.modApplied s chEn before) := by
  unfold State.modApplied
  repeat' first
    | with_reducible assumption
    | intro _
    | with_reducible refine State.modChan_still _ _ _ ?_
    | with_reducible refine State.guardAssert_still _ _ _ (Wr.sub (by decide) hw) ?_
    | with_reducible refine State.settleTrips_still _ (Wr.sub (by decide) hw) ?_
    | with_reducible apply Still.whenIf
    | with_reducible apply Still.each
    | with_reducible apply Still.ite
    | split
    | (with_reducible apply Still.upd); split

end Sys2Proof.Machine
end

