-- ==== Sys2Proof/Laws/StillPwm.lean ====
section
/-!
SUPPORT. Which register fields the operations of Machine/Pwm.lean can write (Laws/Still.lean), as bits by the field's number, and
that they leave every other as it was.
-/
namespace Sys2Proof.Machine

set_option linter.unusedTactic false
set_option linter.unreachableTactic false

def State.suppressed_writes : Nat := 0x44000000000000000000000000000000000000000000000000000000000
theorem State.suppressed_still {F : Fld} {I V : Nat} (s : State) (m : Nat) (hw : State.suppressed_writes.testBit F.ctorIdx
    = false) (h : Still F I V s) :
    Still F I V (State.suppressed s m) := by
  unfold State.suppressed
  repeat' first
    | with_reducible assumption
    | intro _
    | with_reducible refine State.setFld_still _ _ _ _ (W := State.suppressed_writes) ?_ hw ?_
    | with_reducible refine State.count_still _ _ _ (W := State.suppressed_writes) ?_ hw ?_
    | decide
    | split
    | (with_reducible apply Still.upd); split

def State.fallCmd_writes : Nat :=
    0x1003a0000000000000000003000000000000000000000000000000000000800000000000000000000000000000000000000000000000000000000000000000000000000000000001000000
theorem State.fallCmd_still {F : Fld} {I V : Nat} (s : State) (m : Nat) (low : Bool) (inst : Nat) (carry : Bool) (hw :
    State.fallCmd_writes.testBit F.ctorIdx = false) (h : Still F I V s) :
    Still F I V (State.fallCmd s m low inst carry) := by
  unfold State.fallCmd
  repeat' first
    | with_reducible assumption
    | intro _
    | with_reducible refine State.setCmd_still _ _ _ _ _ _ (Wr.sub (by decide) hw) ?_
    | with_reducible refine State.modPm_still _ _ _ ?_
    | with_reducible apply Still.ite
    | split
    | (with_reducible apply Still.upd); split

def State.dueFalls_writes : Nat :=
    0x1003a0000000000000000003000000000000000000000000000000000000800000000000000000000000000000000000000000000000000000000000000000000000000000000001000000
theorem State.dueFalls_still {F : Fld} {I V : Nat} (s : State) (m : Nat) (limit : Nat) (hw : State.dueFalls_writes.testBit
    F.ctorIdx = false) (h : Still F I V s) :
    Still F I V (State.dueFalls s m limit) := by
  unfold State.dueFalls
  repeat' first
    | with_reducible assumption
    | intro _
    | with_reducible refine State.setCmd_still _ _ _ _ _ _ (Wr.sub (by decide) hw) ?_
    | with_reducible refine State.modPm_still _ _ _ ?_
    | with_reducible apply Still.ite
    | split
    | (with_reducible apply Still.upd); split

def State.riseCmd_writes : Nat :=
    0x1003a0000000000000000003000000000000000000000000000000000000800000000000000000000000000000000000000000000000000000000000000000000000000000000001000000
theorem State.riseCmd_still {F : Fld} {I V : Nat} (s : State) (m : Nat) (low : Bool) (inst : Nat) (hw :
    State.riseCmd_writes.testBit F.ctorIdx = false) (h : Still F I V s) :
    Still F I V (State.riseCmd s m low inst) := by
  unfold State.riseCmd
  repeat' first
    | with_reducible assumption
    | intro _
    | with_reducible refine State.modPm_still _ _ _ ?_
    | with_reducible refine State.setCmd_still _ _ _ _ _ _ (Wr.sub (by decide) hw) ?_
    | with_reducible apply Still.ite
    | split
    | (with_reducible apply Still.upd); split

theorem State.innerFall_still {F : Fld} {I V : Nat} (s : State) (m : Nat) (low : Bool) (h : Still F I V s) :
    Still F I V (State.innerFall s m low) := by
  unfold State.innerFall
  repeat' first
    | with_reducible assumption
    | intro _
    | with_reducible refine State.modPm_still _ _ _ ?_
    | with_reducible apply Still.ite
    | split
    | (with_reducible apply Still.upd); split

theorem State.innerRise_still {F : Fld} {I V : Nat} (s : State) (m : Nat) (low : Bool) (inst : Nat) (h : Still F I V s) :
    Still F I V (State.innerRise s m low inst) := by
  unfold State.innerRise
  repeat' first
    | with_reducible assumption
    | intro _
    | with_reducible refine State.modPm_still _ _ _ ?_
    | with_reducible apply Still.ite
    | split
    | (with_reducible apply Still.upd); split

def State.refreshFall_writes : Nat := 0x1000010000000000000000000000000000000000000000000000000000000000
theorem State.refreshFall_still {F : Fld} {I V : Nat} (s : State) (m : Nat) (hw : State.refreshFall_writes.testBit
    F.ctorIdx = false) (h : Still F I V s) :
    Still F I V (State.refreshFall s m) := by
  unfold State.refreshFall
  repeat' first
    | with_reducible assumption
    | intro _
    | with_reducible refine State.modPm_still _ _ _ ?_
    | with_reducible refine State.setCarry_still _ _ _ (Wr.sub (by decide) hw) ?_
    | with_reducible apply Still.whenIf
    | with_reducible apply Still.ite
    | split
    | (with_reducible apply Still.upd); split

def State.riseH_writes : Nat :=
    0x1003a000000000000000000300000000000000000000000000000000000080000000000000000000000000100005c000000000000000000000000000000000000000000000000001000000
theorem State.riseH_still {F : Fld} {I V : Nat} (s : State) (m : Nat) (inst : Nat) (t : Nat) (hw :
    State.riseH_writes.testBit F.ctorIdx = false) (h : Still F I V s) :
    Still F I V (State.riseH s m inst t) := by
  unfold State.riseH
  repeat' first
    | with_reducible assumption
    | intro _
    | with_reducible refine State.setFld_still _ _ _ _ (W := State.riseH_writes) ?_ hw ?_
    | decide
    | with_reducible refine State.innerRise_still _ _ _ _ ?_
    | with_reducible refine State.innerFall_still _ _ _ ?_
    | with_reducible refine State.modPm_still _ _ _ ?_
    | with_reducible refine State.suppressed_still _ _ (Wr.sub (by decide) hw) ?_
    | with_reducible refine State.setCarry_still _ _ _ (Wr.sub (by decide) hw) ?_
    | with_reducible refine State.fallCmd_still _ _ _ _ _ (Wr.sub (by decide) hw) ?_
    | with_reducible apply Still.whenIf
    | with_reducible apply Still.ite
    | split
    | (with_reducible apply Still.upd); split

def State.fallH_writes : Nat :=
    0x1003a000000000000000000300000000000000000000000000000000000080000000000000000000000000100005c000000000000000000000000000000000000000000000000001000000
theorem State.fallH_still {F : Fld} {I V : Nat} (s : State) (m : Nat) (inst : Nat) (t : Nat) (hw :
    State.fallH_writes.testBit F.ctorIdx = false) (h : Still F I V s) :
    Still F I V (State.fallH s m inst t) := by
  unfold State.fallH
  repeat' first
    | with_reducible assumption
    | intro _
    | with_reducible refine State.setFld_still _ _ _ _ (W := State.fallH_writes) ?_ hw ?_
    | decide
    | with_reducible refine State.innerRise_still _ _ _ _ ?_
    | with_reducible refine State.innerFall_still _ _ _ ?_
    | with_reducible refine State.modPm_still _ _ _ ?_
    | with_reducible refine State.refreshFall_still _ _ (Wr.sub (by decide) hw) ?_
    | with_reducible refine State.suppressed_still _ _ (Wr.sub (by decide) hw) ?_
    | with_reducible refine State.setCarry_still _ _ _ (Wr.sub (by decide) hw) ?_
    | with_reducible refine State.riseCmd_still _ _ _ _ (Wr.sub (by decide) hw) ?_
    | with_reducible refine State.fallCmd_still _ _ _ _ _ (Wr.sub (by decide) hw) ?_
    | with_reducible apply Still.whenIf
    | with_reducible apply Still.ite
    | split
    | (with_reducible apply Still.upd); split

def State.riseSide_writes : Nat := 0x100005c000000000000000000000000000000000000000000000000000000000
theorem State.riseSide_still {F : Fld} {I V : Nat} (s : State) (m : Nat) (low : Bool) (inst : Nat) (t : Nat) (hw :
    State.riseSide_writes.testBit F.ctorIdx = false) (h : Still F I V s) :
    Still F I V (State.riseSide s m low inst t) := by
  unfold State.riseSide
  repeat' first
    | with_reducible assumption
    | intro _
    | with_reducible refine State.setFld_still _ _ _ _ (W := State.riseSide_writes) ?_ hw ?_
    | decide
    | with_reducible refine State.innerRise_still _ _ _ _ ?_
    | with_reducible refine State.modPm_still _ _ _ ?_
    | with_reducible refine State.suppressed_still _ _ (Wr.sub (by decide) hw) ?_
    | with_reducible refine State.setCarry_still _ _ _ (Wr.sub (by decide) hw) ?_
    | with_reducible apply Still.whenIf
    | with_reducible apply Still.ite
    | split
    | (with_reducible apply Still.upd); split

def State.fallSide_writes : Nat :=
    0x1003a0000000000000000003000000000000000000000000000000000000800000000000000000000000001000054000000000000000000000000000000000000000000000000001000000
theorem State.fallSide_still {F : Fld} {I V : Nat} (s : State) (m : Nat) (low : Bool) (inst : Nat) (hw :
    State.fallSide_writes.testBit F.ctorIdx = false) (h : Still F I V s) :
    Still F I V (State.fallSide s m low inst) := by
  unfold State.fallSide
  repeat' first
    | with_reducible assumption
    | intro _
    | with_reducible refine State.innerFall_still _ _ _ ?_
    | with_reducible refine State.modPm_still _ _ _ ?_
    | with_reducible refine State.refreshFall_still _ _ (Wr.sub (by decide) hw) ?_
    | with_reducible refine State.suppressed_still _ _ (Wr.sub (by decide) hw) ?_
    | with_reducible refine State.setCarry_still _ _ _ (Wr.sub (by decide) hw) ?_
    | with_reducible refine State.riseCmd_still _ _ _ _ (Wr.sub (by decide) hw) ?_
    | with_reducible refine State.fallCmd_still _ _ _ _ _ (Wr.sub (by decide) hw) ?_
    | with_reducible apply Still.whenIf
    | with_reducible apply Still.ite
    | split
    | (with_reducible apply Still.upd); split

def State.earlyFall_writes : Nat :=
    0x1003a0000000000000000003000000000000000000000000000000000000800000000000000000000000000000000000000000000000000000000000000000000000000000000001000000
theorem State.earlyFall_still {F : Fld} {I V : Nat} (s : State) (m : Nat) (hw : State.earlyFall_writes.testBit F.ctorIdx =
    false) (h : Still F I V s) :
    Still F I V (State.earlyFall s m) := by
  unfold State.earlyFall
  repeat' first
    | with_reducible assumption
    | intro _
    | with_reducible refine State.setCmd_still _ _ _ _ _ _ (Wr.sub (by decide) hw) ?_
    | with_reducible refine State.modPm_still _ _ _ ?_
    | with_reducible apply Still.ite
    | split
    | (with_reducible apply Still.upd); split

def State.ruleOn_writes : Nat :=
    0x1003a000000000000000000300000000000000000000000000000000000080000000000000000000000000100005c000000000000000000000000000000000000000000000000001000000
theorem State.ruleOn_still {F : Fld} {I V : Nat} (s : State) (m : Nat) (low : Bool) (evt : Nat) (inst : Nat) (t : Nat) (hw
    : State.ruleOn_writes.testBit F.ctorIdx = false) (h : Still F I V s) :
    Still F I V (State.ruleOn s m low evt inst t) := by
  unfold State.ruleOn
  repeat' first
    | with_reducible assumption
    | intro _
    | with_reducible refine State.riseH_still _ _ _ _ (Wr.sub (by decide) hw) ?_
    | with_reducible refine State.fallH_still _ _ _ _ (Wr.sub (by decide) hw) ?_
    | with_reducible refine State.riseSide_still _ _ _ _ _ (Wr.sub (by decide) hw) ?_
    | with_reducible refine State.fallSide_still _ _ _ _ (Wr.sub (by decide) hw) ?_
    | with_reducible apply Still.ite
    | split
    | (with_reducible apply Still.upd); split

def State.commandRules_writes : Nat :=
    0x1003a000000000000000000300000000000000000000000000000000000080000000000000000000000000100005c000000000000000000000000000000000000000000000000001000000
theorem State.commandRules_still {F : Fld} {I V : Nat} (s : State) (m : Nat) (evt : Nat) (inst : Nat) (hw :
    State.commandRules_writes.testBit F.ctorIdx = false) (h : Still F I V s) :
    Still F I V (State.commandRules s m evt inst) := by
  unfold State.commandRules
  repeat' first
    | with_reducible assumption
    | intro _
    | with_reducible refine State.ruleOn_still _ _ _ _ _ _ (Wr.sub (by decide) hw) ?_
    | with_reducible apply Still.whenIf
    | split
    | (with_reducible apply Still.upd); split

def State.pwmInt_writes : Nat :=
    0x100000000000000000000000000000000000000000000000000000000000000000000000000000000000060000000000000000000000000000000000000000000000000000000000000000
theorem State.pwmInt_still {F : Fld} {I V : Nat} (s : State) (m : Nat) (code : Nat) (hw : State.pwmInt_writes.testBit
    F.ctorIdx = false) (h : Still F I V s) :
    Still F I V (State.pwmInt s m code) := by
  unfold State.pwmInt
  repeat' first
    | with_reducible assumption
    | intro _
    | with_reducible refine State.setFld_still _ _ _ _ (W := State.pwmInt_writes) ?_ hw ?_
    | decide
    | with_reducible refine State.raise_still _ _ _ (Wr.sub (by decide) hw) ?_
    | with_reducible apply Still.whenIf
    | with_reducible apply Still.ite
    | split
    | (with_reducible apply Still.upd); split

theorem State.sendLink_still {F : Fld} {I V : Nat} (s : State) (m : Nat) (age : Nat) (h : Still F I V s) :
    Still F I V (State.sendLink s m age) := by
  unfold State.sendLink
  repeat' first
    | with_reducible assumption
    | intro _
    | with_reducible apply Still.ite
    | fail_if_no_progress with_reducible apply Still.upd
    | split
    | (with_reducible apply Still.upd); split

theorem State.linkOut_still {F : Fld} {I V : Nat} (s : State) (m : Nat) (src : Nat) (h : Still F I V s) :
    Still F I V (State.linkOut s m src) := by
  unfold State.linkOut
  repeat' first
    | with_reducible assumption
    | intro _
    | with_reducible refine State.sendLink_still _ _ _ ?_
    | with_reducible apply Still.whenIf
    | split
    | (with_reducible apply Still.upd); split

def State.reload_writes : Nat := 0x7e000000020000000000000000000000000000000000000000000000000000000000
theorem State.reload_still {F : Fld} {I V : Nat} (s : State) (m : Nat) (zero : Bool) (hw : State.reload_writes.testBit
    F.ctorIdx = false) (h : Still F I V s) :
    Still F I V (State.reload s m zero) := by
  unfold State.reload
  repeat' first
    | with_reducible assumption
    | intro _
    | with_reducible refine State.count_still _ _ _ (W := State.reload_writes) ?_ hw ?_
    | decide
    | with_reducible refine State.setAct_still _ _ _ _ (Wr.sub (by decide) hw) ?_
    | with_reducible refine State.modPm_still _ _ _ ?_
    | with_reducible apply Still.each
    | with_reducible apply Still.ite
    | split
    | (with_reducible apply Still.upd); split

def State.safeLevels_writes : Nat :=
    0x1003a0000000000000000003000000000000000000000000000000000000800000000000000000000000000000000000000000000000000000000000000000000000000000000001000000
theorem State.safeLevels_still {F : Fld} {I V : Nat} (s : State) (m : Nat) (hw : State.safeLevels_writes.testBit F.ctorIdx
    = false) (h : Still F I V s) :
    Still F I V (State.safeLevels s m) := by
  unfold State.safeLevels
  repeat' first
    | with_reducible assumption
    | intro _
    | with_reducible refine State.setSide_still _ _ _ _ _ _ _ (Wr.sub (by decide) hw) ?_
    | with_reducible apply Still.ite
    | split
    | (with_reducible apply Still.upd); split

def State.pwmApplied_writes : Nat :=
    0x1003a0000000000000000003000000000000000000000000000000000000800000000000000000000000001000000000000000000000000000000000000000000000000000000001000000
theorem State.pwmApplied_still {F : Fld} {I V : Nat} (s : State) (m : Nat) (hw : State.pwmApplied_writes.testBit F.ctorIdx
    = false) (h : Still F I V s) :
    Still F I V (State.pwmApplied s m) := by
  unfold State.pwmApplied
  repeat' first
    | with_reducible assumption
    | intro _
    | with_reducible refine State.setFld_still _ _ _ _ (W := State.pwmApplied_writes) ?_ hw ?_
    | decide
    | with_reducible refine State.safeLevels_still _ _ (Wr.sub (by decide) hw) ?_
    | split
    | (with_reducible apply Still.upd); split

def State.takeSettings_writes : Nat :=
    0x1003a0000000000000000003000000000000000000000038003607ffffc48073000c0001f87fffc00000000ffff0003ffc47e1007c7ff0e0007fc000c00000000000000000000001000000
theorem State.takeSettings_still {F : Fld} {I V : Nat} (s : State) (m : Nat) (hw : State.takeSettings_writes.testBit
    F.ctorIdx = false) (h : Still F I V s) :
    Still F I V (State.takeSettings s m) := by
  unfold State.takeSettings
  repeat' first
    | with_reducible assumption
    | intro _
    | with_reducible refine State.setAll_still _ _ (Wr.sub (by decide) hw) ?_
    | with_reducible refine State.modPm_still _ _ _ ?_
    | with_reducible refine State.safeLevels_still _ _ (Wr.sub (by decide) hw) ?_
    | with_reducible refine State.setCmd_still _ _ _ _ _ _ (Wr.sub (by decide) hw) ?_
    | with_reducible apply Still.whenIf
    | with_reducible apply Still.ite
    | split
    | (with_reducible apply Still.upd); split

def State.periodStart_writes : Nat :=
    0x1003a0000000000000000003000000000000000000000038003607ffffc48073000c0001f87fffc00000001ffff01c3fffdfe120fc7ff0e0007fc000c00000000000000000000001000000
theorem State.periodStart_still {F : Fld} {I V : Nat} (s : State) (m : Nat) (wcin : List (Nat × Int)) (hw :
    State.periodStart_writes.testBit F.ctorIdx = false) (h : Still F I V s) :
    Still F I V (State.periodStart s m wcin) := by
  unfold State.periodStart
  repeat' first
    | with_reducible assumption
    | intro _
    | with_reducible refine State.setLevel_still _ _ _ (Wr.sub (by decide) hw) ?_
    | with_reducible refine State.cycleClears_still _ _ (Wr.sub (by decide) hw) ?_
    | with_reducible refine State.takeSettings_still _ _ (Wr.sub (by decide) hw) ?_
    | with_reducible refine State.modPm_still _ _ _ ?_
    | with_reducible apply Still.each
    | with_reducible apply Still.ite
    | split
    | (with_reducible apply Still.upd); split

def execPwmZeroEvent_writes : Nat :=
    0x1003a0000000000000000003000000000000000000000038003607ffffc48073000c0001f87fffc0007e061ffffffc3fffdfe120fc7ff0e0007fc000c00000000000000000000001000000
theorem execPwmZeroEvent_still {F : Fld} {I V : Nat} (m : Nat) (wcin : List (Nat × Int)) (s : State) (hw :
    execPwmZeroEvent_writes.testBit F.ctorIdx = false) (h : Still F I V s) :
    StillOut F I V (execPwmZeroEvent m wcin s) := by
  unfold execPwmZeroEvent
  repeat' first
    | with_reducible assumption
    | with_reducible apply StillOut.next
    | with_reducible apply StillOut.ite
    | intro _
    | with_reducible refine State.setFld_still _ _ _ _ (W := execPwmZeroEvent_writes) ?_ hw ?_
    | with_reducible refine State.setFlag_still _ _ _ _ (W := execPwmZeroEvent_writes) ?_ hw ?_
    | decide
    | with_reducible refine State.periodStart_still _ _ _ (Wr.sub (by decide) hw) ?_
    | with_reducible refine State.reload_still _ _ _ (Wr.sub (by decide) hw) ?_
    | with_reducible refine State.linkOut_still _ _ _ ?_
    | with_reducible refine State.pwmEvent_still _ _ _ ?_
    | with_reducible refine State.pwmInt_still _ _ _ (Wr.sub (by decide) hw) ?_
    | with_reducible refine State.commandRules_still _ _ _ _ (Wr.sub (by decide) hw) ?_
    | with_reducible apply Still.whenIf
    | with_reducible apply Still.ite
    | split
    | dsimp only; split

def execPwmPeriodEvent_writes : Nat :=
    0x1003a0000000000000000003000000000000000000000038003607ffffc48073000c0001f87fffc0007e061ffffffc3fffdfe120fc7ff0e0007fc000c00000000000000000000001000000
theorem execPwmPeriodEvent_still {F : Fld} {I V : Nat} (m : Nat) (wcin : List (Nat × Int)) (s : State) (hw :
    execPwmPeriodEvent_writes.testBit F.ctorIdx = false) (h : Still F I V s) :
    StillOut F I V (execPwmPeriodEvent m wcin s) := by
  unfold execPwmPeriodEvent
  repeat' first
    | with_reducible assumption
    | with_reducible apply StillOut.next
    | with_reducible apply StillOut.ite
    | intro _
    | with_reducible refine State.setFld_still _ _ _ _ (W := execPwmPeriodEvent_writes) ?_ hw ?_
    | with_reducible refine State.setFlag_still _ _ _ _ (W := execPwmPeriodEvent_writes) ?_ hw ?_
    | decide
    | with_reducible refine State.periodStart_still _ _ _ (Wr.sub (by decide) hw) ?_
    | with_reducible refine State.reload_still _ _ _ (Wr.sub (by decide) hw) ?_
    | with_reducible refine State.linkOut_still _ _ _ ?_
    | with_reducible refine State.pwmEvent_still _ _ _ ?_
    | with_reducible refine State.pwmInt_still _ _ _ (Wr.sub (by decide) hw) ?_
    | with_reducible refine State.commandRules_still _ _ _ _ (Wr.sub (by decide) hw) ?_
    | with_reducible apply Still.whenIf
    | with_reducible apply Still.ite
    | split
    | dsimp only; split

def execPwmTriggerCompare_writes : Nat :=
    0x100000000000000000000000000000000000000000000000000000000000000000000000000000000000060000082000000000000000000000000000000000000000000000000000000000
theorem execPwmTriggerCompare_still {F : Fld} {I V : Nat} (m : Nat) (which : Nat) (falling : Bool) (s : State) (hw :
    execPwmTriggerCompare_writes.testBit F.ctorIdx = false) (h : Still F I V s) :
    StillOut F I V (execPwmTriggerCompare m which falling s) := by
  unfold execPwmTriggerCompare
  repeat' first
    | with_reducible assumption
    | with_reducible apply StillOut.next
    | with_reducible apply StillOut.ite
    | intro _
    | with_reducible refine State.setFld_still _ _ _ _ (W := execPwmTriggerCompare_writes) ?_ hw ?_
    | with_reducible refine State.setFlag_still _ _ _ _ (W := execPwmTriggerCompare_writes) ?_ hw ?_
    | decide
    | with_reducible refine State.pwmEvent_still _ _ _ ?_
    | with_reducible refine State.pwmInt_still _ _ _ (Wr.sub (by decide) hw) ?_
    | with_reducible apply Still.ite
    | split
    | dsimp only; split

def execPwmCompareMatch_writes : Nat :=
    0x1003a00000000000000000030000000000000000000000000000000000008000000000000000000000000610000de000000000000000000000000000000000000000000000000001000000
theorem execPwmCompareMatch_still {F : Fld} {I V : Nat} (m : Nat) (b : Bool) (falling : Bool) (s : State) (hw :
    execPwmCompareMatch_writes.testBit F.ctorIdx = false) (h : Still F I V s) :
    StillOut F I V (execPwmCompareMatch m b falling s) := by
  unfold execPwmCompareMatch
  repeat' first
    | with_reducible assumption
    | with_reducible apply StillOut.next
    | with_reducible apply StillOut.ite
    | intro _
    | with_reducible refine State.setFld_still _ _ _ _ (W := execPwmCompareMatch_writes) ?_ hw ?_
    | with_reducible refine State.setFlag_still _ _ _ _ (W := execPwmCompareMatch_writes) ?_ hw ?_
    | decide
    | with_reducible refine State.linkOut_still _ _ _ ?_
    | with_reducible refine State.pwmInt_still _ _ _ (Wr.sub (by decide) hw) ?_
    | with_reducible refine State.commandRules_still _ _ _ _ (Wr.sub (by decide) hw) ?_
    | with_reducible apply Still.whenIf
    | with_reducible apply Still.ite
    | split
    | dsimp only; split

def State.interlock_writes : Nat :=
    0x1003a0000000000000000003000000000000000000000000000000000000800000000000000000000000001000000400000000000000000000000000000000000000000000000001000000
theorem State.interlock_still {F : Fld} {I V : Nat} (s : State) (m : Nat) (hw : State.interlock_writes.testBit F.ctorIdx =
    false) (h : Still F I V s) :
    Still F I V (State.interlock s m) := by
  unfold State.interlock
  repeat' first
    | with_reducible assumption
    | intro _
    | with_reducible refine State.leaveFollow_still _ _ _ (Wr.sub (by decide) hw) ?_
    | with_reducible refine State.setSide_still _ _ _ _ _ _ _ (Wr.sub (by decide) hw) ?_
    | with_reducible refine State.modPm_still _ _ _ ?_
    | split
    | (with_reducible apply Still.upd); split

def State.innerExpiry_writes : Nat :=
    0x1003a0000000000000000003000000000000000000000000000000000000800000000000000000000000001000000400000000000000000000000000000000000000000000000001000000
theorem State.innerExpiry_still {F : Fld} {I V : Nat} (s : State) (m : Nat) (low : Bool) (hw :
    State.innerExpiry_writes.testBit F.ctorIdx = false) (h : Still F I V s) :
    Still F I V (State.innerExpiry s m low) := by
  unfold State.innerExpiry
  repeat' first
    | with_reducible assumption
    | intro _
    | with_reducible refine State.modPm_still _ _ _ ?_
    | with_reducible refine State.startLeb_still _ _ _ ?_
    | with_reducible refine State.interlock_still _ _ (Wr.sub (by decide) hw) ?_
    | with_reducible apply Still.whenIf
    | with_reducible apply Still.ite
    | split
    | (with_reducible apply Still.upd); split

def execTurnOnDelayExpiry_writes : Nat :=
    0x1003a0000000000000000003000000000000000000000000000000000000800000000000000000000000001000000400000000000000000000000000000000000000000000000001000000
theorem execTurnOnDelayExpiry_still {F : Fld} {I V : Nat} (m : Nat) (low : Bool) (s : State) (hw :
    execTurnOnDelayExpiry_writes.testBit F.ctorIdx = false) (h : Still F I V s) :
    StillOut F I V (execTurnOnDelayExpiry m low s) := by
  unfold execTurnOnDelayExpiry
  repeat' first
    | with_reducible assumption
    | with_reducible apply StillOut.next
    | with_reducible apply StillOut.ite
    | intro _
    | with_reducible refine State.innerExpiry_still _ _ _ (Wr.sub (by decide) hw) ?_
    | with_reducible refine State.dueFalls_still _ _ _ (Wr.sub (by decide) hw) ?_
    | with_reducible refine State.modPm_still _ _ _ ?_
    | with_reducible refine State.interlock_still _ _ (Wr.sub (by decide) hw) ?_
    | with_reducible refine State.setCmd_still _ _ _ _ _ _ (Wr.sub (by decide) hw) ?_
    | with_reducible apply Still.ite
    | split
    | dsimp only; split

def State.commitShd_writes : Nat := 0x1f80000020000000000000000000000000000000000000000000000000000000000
theorem State.commitShd_still {F : Fld} {I V : Nat} (s : State) (m : Nat) (w : Nat) (v : Nat) (direct : Bool) (hw :
    State.commitShd_writes.testBit F.ctorIdx = false) (h : Still F I V s) :
    Still F I V (State.commitShd s m w v direct) := by
  unfold State.commitShd
  repeat' first
    | with_reducible assumption
    | intro _
    | with_reducible refine State.setFld_still _ _ _ _ (W := State.commitShd_writes) ?_ hw ?_
    | with_reducible refine State.count_still _ _ _ (W := State.commitShd_writes) ?_ hw ?_
    | decide
    | unfold shdHigh; split <;> decide
    | unfold shdLow; split <;> decide
    | with_reducible refine State.modPm_still _ _ _ ?_
    | with_reducible apply Still.whenIf
    | with_reducible apply Still.ite
    | split
    | (with_reducible apply Still.upd); split

def State.shdLowWrite_writes : Nat :=
    0x100220000000000000000000000000000000000000000000000000000000000000000000000000000000000000000000000000000000000000000000000000000000000000000000000000
theorem State.shdLowWrite_still {F : Fld} {I V : Nat} (s : State) (core : Nat) (m : Nat) (w : Nat) (v : Nat) (hw :
    State.shdLowWrite_writes.testBit F.ctorIdx = false) (h : Still F I V s) :
    Still F I V (State.shdLowWrite s core m w v) := by
  unfold State.shdLowWrite
  repeat' first
    | with_reducible assumption
    | intro _
    | with_reducible refine State.discarded_still _ _ _ (Wr.sub (by decide) hw) ?_
    | with_reducible apply Still.ite
    | fail_if_no_progress with_reducible apply Still.upd
    | split
    | (with_reducible apply Still.upd); split

def State.shdHighWrite_writes : Nat :=
    0x100220000000000000000000000000000000000000000000000000000000000000000000000000000001f80000020000000000000000000000000000000000000000000000000000000000
theorem State.shdHighWrite_still {F : Fld} {I V : Nat} (s : State) (core : Nat) (m : Nat) (w : Nat) (v : Nat) (hw :
    State.shdHighWrite_writes.testBit F.ctorIdx = false) (h : Still F I V s) :
    Still F I V (State.shdHighWrite s core m w v) := by
  unfold State.shdHighWrite
  repeat' first
    | with_reducible assumption
    | intro _
    | with_reducible refine State.commitShd_still _ _ _ _ _ (Wr.sub (by decide) hw) ?_
    | with_reducible refine State.discarded_still _ _ _ (Wr.sub (by decide) hw) ?_
    | with_reducible apply Still.ite
    | fail_if_no_progress with_reducible apply Still.upd
    | split
    | (with_reducible apply Still.upd); split

def execPwmShadowLowWrite_writes : Nat :=
    0x100220000000000000000003000000000000000000000000000000000000000000000000000000000000000000000000000000000000000000000000000000000000000000000000000000
theorem execPwmShadowLowWrite_still {F : Fld} {I V : Nat} (core : Nat) (m : Nat) (w : Nat) (value : Nat) (s : State) (hw :
    execPwmShadowLowWrite_writes.testBit F.ctorIdx = false) (h : Still F I V s) :
    StillOut F I V (execPwmShadowLowWrite core m w value s) := by
  unfold execPwmShadowLowWrite
  repeat' first
    | with_reducible assumption
    | with_reducible apply StillOut.next
    | with_reducible apply StillOut.ite
    | intro _
    | with_reducible refine State.accessBlk_still _ _ _ _ _ (Wr.sub (by decide) hw) ?_ ?_
    | with_reducible refine State.shdLowWrite_still _ _ _ _ _ (Wr.sub (by decide) hw) ?_
    | with_reducible apply Still.ite
    | split
    | dsimp only; split

def execPwmShadowHighWrite_writes : Nat :=
    0x100220000000000000000003000000000000000000000000000000000000000000000000000000000001f80000020000000000000000000000000000000000000000000000000000000000
theorem execPwmShadowHighWrite_still {F : Fld} {I V : Nat} (core : Nat) (m : Nat) (w : Nat) (value : Nat) (s : State) (hw :
    execPwmShadowHighWrite_writes.testBit F.ctorIdx = false) (h : Still F I V s) :
    StillOut F I V (execPwmShadowHighWrite core m w value s) := by
  unfold execPwmShadowHighWrite
  repeat' first
    | with_reducible assumption
    | with_reducible apply StillOut.next
    | with_reducible apply StillOut.ite
    | intro _
    | with_reducible refine State.accessBlk_still _ _ _ _ _ (Wr.sub (by decide) hw) ?_ ?_
    | with_reducible refine State.shdHighWrite_still _ _ _ _ _ (Wr.sub (by decide) hw) ?_
    | with_reducible apply Still.ite
    | split
    | dsimp only; split

def State.stage_writes : Nat :=
    0x100220000000000000000000000000000000000000000000000000000000000000000000000000000000000000000000000000000000000000000000000000000000000000000000000000
theorem State.stage_still {F : Fld} {I V : Nat} (s : State) (n : Nat) (m : Nat) (w : Nat) (v : Nat) (hw :
    State.stage_writes.testBit F.ctorIdx = false) (h : Still F I V s) :
    Still F I V (State.stage s n m w v) := by
  unfold State.stage
  repeat' first
    | with_reducible assumption
    | intro _
    | with_reducible refine State.modPm_still _ _ _ ?_
    | with_reducible refine State.discarded_still _ _ _ (Wr.sub (by decide) hw) ?_
    | with_reducible apply Still.ite
    | split
    | (with_reducible apply Still.upd); split

theorem State.markStaged_still {F : Fld} {I V : Nat} (s : State) (n : Nat) (h : Still F I V s) :
    Still F I V (State.markStaged s n) := by
  unfold State.markStaged
  repeat' first
    | with_reducible assumption
    | intro _
    | with_reducible apply Still.ite
    | fail_if_no_progress with_reducible apply Still.upd
    | split
    | (with_reducible apply Still.upd); split

def State.dropStaged_writes : Nat := 0x400000000000000000000000000000000000000000000000000000000000000000000
theorem State.dropStaged_still {F : Fld} {I V : Nat} (s : State) (n : Nat) (hw : State.dropStaged_writes.testBit F.ctorIdx
    = false) (h : Still F I V s) :
    Still F I V (State.dropStaged s n) := by
  unfold State.dropStaged
  repeat' first
    | with_reducible assumption
    | intro _
    | with_reducible refine State.count_still _ _ _ (W := State.dropStaged_writes) ?_ hw ?_
    | decide
    | with_reducible refine State.modPm_still _ _ _ ?_
    | with_reducible apply Still.whenIf
    | with_reducible apply Still.each
    | split
    | (with_reducible apply Still.upd); split

def State.stagingAtBell_writes : Nat := 0x400000000000000000000000000000000000000000000000000000000000000000000
theorem State.stagingAtBell_still {F : Fld} {I V : Nat} (s : State) (hw : State.stagingAtBell_writes.testBit F.ctorIdx =
    false) (h : Still F I V s) :
    Still F I V (State.stagingAtBell s) := by
  unfold State.stagingAtBell
  repeat' first
    | with_reducible assumption
    | intro _
    | with_reducible refine State.count_still _ _ _ (W := State.stagingAtBell_writes) ?_ hw ?_
    | decide
    | with_reducible refine State.modPm_still _ _ _ ?_
    | with_reducible apply Still.whenIf
    | with_reducible apply Still.each
    | split
    | (with_reducible apply Still.upd); split

theorem State.captureShadows_still {F : Fld} {I V : Nat} (s : State) (h : Still F I V s) :
    Still F I V (State.captureShadows s) := by
  unfold State.captureShadows
  repeat' first
    | with_reducible assumption
    | intro _
    | with_reducible apply Still.ite
    | fail_if_no_progress with_reducible apply Still.upd
    | split
    | (with_reducible apply Still.upd); split

def execStagedMove_writes : Nat := 0x401f80000020080000000000000000000000000000000000000000000000000000000
theorem execStagedMove_still {F : Fld} {I V : Nat} (s : State) (hw : execStagedMove_writes.testBit F.ctorIdx = false) (h :
    Still F I V s) :
    StillOut F I V (execStagedMove s) := by
  unfold execStagedMove
  repeat' first
    | with_reducible assumption
    | with_reducible apply StillOut.next
    | with_reducible apply StillOut.ite
    | intro _
    | with_reducible refine State.count_still _ _ _ (W := execStagedMove_writes) ?_ hw ?_
    | decide
    | with_reducible refine State.captureShadows_still _ ?_
    | with_reducible refine State.commitShd_still _ _ _ _ _ (Wr.sub (by decide) hw) ?_
    | with_reducible refine State.modPm_still _ _ _ ?_
    | with_reducible refine State.setOuten_still _ _ (Wr.sub (by decide) hw) ?_
    | with_reducible apply Still.whenIf
    | with_reducible apply Still.each
    | with_reducible apply Still.ite
    | fail_if_no_progress with_reducible apply Still.upd
    | split
    | dsimp only; split

def execDelayLineLock_writes : Nat := 0x100000000000000000000000000000000000000000000000000000000000000000000
theorem execDelayLineLock_still {F : Fld} {I V : Nat} (s : State) (hw : execDelayLineLock_writes.testBit F.ctorIdx = false)
    (h : Still F I V s) :
    StillOut F I V (execDelayLineLock s) := by
  unfold execDelayLineLock
  repeat' first
    | with_reducible assumption
    | with_reducible apply StillOut.next
    | intro _
    | with_reducible refine State.setFld_still _ _ _ _ (W := execDelayLineLock_writes) ?_ hw ?_
    | decide
    | split
    | dsimp only; split

def execDelayLineLost_writes : Nat :=
    0x100220000000000000000000000000000000000000000000000000000000000000000000000000000300000000000000000000000000000000000000000000000000000000000000000000
theorem execDelayLineLost_still {F : Fld} {I V : Nat} (s : State) (hw : execDelayLineLost_writes.testBit F.ctorIdx = false)
    (h : Still F I V s) :
    StillOut F I V (execDelayLineLost s) := by
  unfold execDelayLineLost
  repeat' first
    | with_reducible assumption
    | with_reducible apply StillOut.next
    | intro _
    | with_reducible refine State.setFld_still _ _ _ _ (W := execDelayLineLost_writes) ?_ hw ?_
    | decide
    | with_reducible refine State.event_still _ _ _ _ _ (Wr.sub (by decide) hw) ?_
    | split
    | dsimp only; split

def State.followNow_writes : Nat :=
    0x1003a0000000000000000003000000000000000000000000000000000000800000000000000000000000000000000400000000000000000000000000000000000000000000000001000000
theorem State.followNow_still {F : Fld} {I V : Nat} (s : State) (m : Nat) (hw : State.followNow_writes.testBit F.ctorIdx =
    false) (h : Still F I V s) :
    Still F I V (State.followNow s m) := by
  unfold State.followNow
  repeat' first
    | with_reducible assumption
    | intro _
    | with_reducible refine State.setFld_still _ _ _ _ (W := State.followNow_writes) ?_ hw ?_
    | decide
    | with_reducible refine State.setSide_still _ _ _ _ _ _ _ (Wr.sub (by decide) hw) ?_
    | with_reducible refine State.modPm_still _ _ _ ?_
    | with_reducible apply Still.ite
    | split
    | (with_reducible apply Still.upd); split

def execSafeLevelResumeCheck_writes : Nat :=
    0x1003a0000000000000000003000000000000000000000000000000000000800000000000000000000000001000000400000000000000000000000000000000000000000000000001000000
theorem execSafeLevelResumeCheck_still {F : Fld} {I V : Nat} (m : Nat) (s : State) (hw :
    execSafeLevelResumeCheck_writes.testBit F.ctorIdx = false) (h : Still F I V s) :
    StillOut F I V (execSafeLevelResumeCheck m s) := by
  unfold execSafeLevelResumeCheck
  repeat' first
    | with_reducible assumption
    | with_reducible apply StillOut.next
    | with_reducible apply StillOut.ite
    | intro _
    | with_reducible refine State.modPm_still _ _ _ ?_
    | with_reducible refine State.padsOff_still _ _ _ _ (Wr.sub (by decide) hw) ?_
    | with_reducible refine State.followNow_still _ _ (Wr.sub (by decide) hw) ?_
    | with_reducible apply Still.whenIf
    | with_reducible apply Still.ite
    | split
    | dsimp only; split

def State.holdWrite_writes : Nat :=
    0x100220000000000000000000000000000000000000000000000000000000000000000000000000001000000000000000000000000000000000000000000000000000000000000000000000
theorem State.holdWrite_still {F : Fld} {I V : Nat} (s : State) (m : Nat) (outen : Bool) (hw :
    State.holdWrite_writes.testBit F.ctorIdx = false) (h : Still F I V s) :
    Still F I V (State.holdWrite s m outen) := by
  unfold State.holdWrite
  repeat' first
    | with_reducible assumption
    | intro _
    | with_reducible refine State.setBit_still _ _ _ _ _ (W := State.holdWrite_writes) ?_ hw ?_
    | decide
    | with_reducible refine State.gateNow_still _ _ _ _ (Wr.sub (by decide) hw) ?_
    | fail_if_no_progress with_reducible apply Still.upd
    | split
    | (with_reducible apply Still.upd); split

theorem State.cancelHeld_still {F : Fld} {I V : Nat} (s : State) (m : Nat) (outen : Bool) (h : Still F I V s) :
    Still F I V (State.cancelHeld s m outen) := by
  unfold State.cancelHeld
  repeat' first
    | with_reducible assumption
    | intro _
    | fail_if_no_progress with_reducible apply Still.upd
    | split
    | (with_reducible apply Still.upd); split

def State.outenWrite_writes : Nat :=
    0x1003a0000000000000000003000000000000000000000000000000000000800000000000000000001000001000000480000000000000000000000000000000000000000000000001000000
theorem State.outenWrite_still {F : Fld} {I V : Nat} (s : State) (w : Wing) (m : Nat) (on : Bool) (hw :
    State.outenWrite_writes.testBit F.ctorIdx = false) (h : Still F I V s) :
    Still F I V (State.outenWrite s w m on) := by
  unfold State.outenWrite
  repeat' first
    | with_reducible assumption
    | intro _
    | with_reducible refine State.clearOuten_still _ _ (Wr.sub (by decide) hw) ?_
    | with_reducible refine State.cancelHeld_still _ _ _ ?_
    | with_reducible refine State.discarded_still _ _ _ (Wr.sub (by decide) hw) ?_
    | with_reducible refine State.gateNow_still _ _ _ _ (Wr.sub (by decide) hw) ?_
    | with_reducible refine State.holdWrite_still _ _ _ (Wr.sub (by decide) hw) ?_
    | with_reducible refine State.setOuten_still _ _ (Wr.sub (by decide) hw) ?_
    | with_reducible apply Still.ite
    | split
    | (with_reducible apply Still.upd); split

def execPwmOutenWrite_writes : Nat :=
    0x1003a0000000000000000003000000000000000000000000000000000000800000000000000000001000001000000480000000000000000000000000000000000000000000000001000000
theorem execPwmOutenWrite_still {F : Fld} {I V : Nat} (core : Nat) (m : Nat) (on : Bool) (s : State) (hw :
    execPwmOutenWrite_writes.testBit F.ctorIdx = false) (h : Still F I V s) :
    StillOut F I V (execPwmOutenWrite core m on s) := by
  unfold execPwmOutenWrite
  repeat' first
    | with_reducible assumption
    | with_reducible apply StillOut.next
    | intro _
    | with_reducible refine State.accessBlk_still _ _ _ _ _ (Wr.sub (by decide) hw) ?_ ?_
    | with_reducible refine State.outenWrite_still _ _ _ _ (Wr.sub (by decide) hw) ?_
    | split
    | dsimp only; split

def State.cntEnWrite_writes : Nat :=
    0x1003a00000000000000000030000000000000000000000000000000000008000000000000000000010000210000827c0000000000000000000000000000000000000000000000001000000
theorem State.cntEnWrite_still {F : Fld} {I V : Nat} (s : State) (m : Nat) (on : Bool) (hw :
    State.cntEnWrite_writes.testBit F.ctorIdx = false) (h : Still F I V s) :
    Still F I V (State.cntEnWrite s m on) := by
  unfold State.cntEnWrite
  repeat' first
    | with_reducible assumption
    | intro _
    | with_reducible refine State.stopCounter_still _ _ (Wr.sub (by decide) hw) ?_
    | with_reducible refine State.cancelHeld_still _ _ _ ?_
    | with_reducible refine State.holdWrite_still _ _ _ (Wr.sub (by decide) hw) ?_
    | with_reducible refine State.startCounter_still _ _ (Wr.sub (by decide) hw) ?_
    | with_reducible apply Still.ite
    | split
    | (with_reducible apply Still.upd); split

def execPwmCntEnWrite_writes : Nat :=
    0x1003a00000000000000000030000000000000000000000000000000000008000000000000000000010000210000827c0000000000000000000000000000000000000000000000001000000
theorem execPwmCntEnWrite_still {F : Fld} {I V : Nat} (core : Nat) (m : Nat) (on : Bool) (s : State) (hw :
    execPwmCntEnWrite_writes.testBit F.ctorIdx = false) (h : Still F I V s) :
    StillOut F I V (execPwmCntEnWrite core m on s) := by
  unfold execPwmCntEnWrite
  repeat' first
    | with_reducible assumption
    | with_reducible apply StillOut.next
    | intro _
    | with_reducible refine State.accessBlk_still _ _ _ _ _ (Wr.sub (by decide) hw) ?_ ?_
    | with_reducible refine State.cntEnWrite_still _ _ _ (Wr.sub (by decide) hw) ?_
    | split
    | dsimp only; split

def State.armWrite_writes : Nat := 0x100000000000000000000000000000000000000000000000000000000
theorem State.armWrite_still {F : Fld} {I V : Nat} (s : State) (m : Nat) (on : Bool) (hw : State.armWrite_writes.testBit
    F.ctorIdx = false) (h : Still F I V s) :
    Still F I V (State.armWrite s m on) := by
  unfold State.armWrite
  repeat' first
    | with_reducible assumption
    | intro _
    | with_reducible refine State.setFlag_still _ _ _ _ (W := State.armWrite_writes) ?_ hw ?_
    | decide
    | with_reducible apply Still.whenIf
    | split
    | (with_reducible apply Still.upd); split

def execPwmArmWrite_writes : Nat :=
    0x100220000000000000000003000000000000000000000000000000000000000000000000000000000000000000000100000000000000000000000000000000000000000000000000000000
theorem execPwmArmWrite_still {F : Fld} {I V : Nat} (core : Nat) (m : Nat) (on : Bool) (s : State) (hw :
    execPwmArmWrite_writes.testBit F.ctorIdx = false) (h : Still F I V s) :
    StillOut F I V (execPwmArmWrite core m on s) := by
  unfold execPwmArmWrite
  repeat' first
    | with_reducible assumption
    | with_reducible apply StillOut.next
    | intro _
    | with_reducible refine State.accessBlk_still _ _ _ _ _ (Wr.sub (by decide) hw) ?_ ?_
    | with_reducible refine State.armWrite_still _ _ _ (Wr.sub (by decide) hw) ?_
    | split
    | dsimp only; split

theorem State.gstartWrite_still {F : Fld} {I V : Nat} (s : State) (mask : Nat) (h : Still F I V s) :
    Still F I V (State.gstartWrite s mask) := by
  unfold State.gstartWrite
  repeat' first
    | with_reducible assumption
    | intro _
    | fail_if_no_progress with_reducible apply Still.upd
    | split
    | (with_reducible apply Still.upd); split

def execPwmGstartWrite_writes : Nat :=
    0x100220000000000000000003000000000000000000000000000000000000000000000000000000000000000000000000000000000000000000000000000000000000000000000000000000
theorem execPwmGstartWrite_still {F : Fld} {I V : Nat} (core : Nat) (mask : Nat) (s : State) (hw :
    execPwmGstartWrite_writes.testBit F.ctorIdx = false) (h : Still F I V s) :
    StillOut F I V (execPwmGstartWrite core mask s) := by
  unfold execPwmGstartWrite
  repeat' first
    | with_reducible assumption
    | with_reducible apply StillOut.next
    | intro _
    | with_reducible refine State.accessBlk_still _ _ _ _ _ (Wr.sub (by decide) hw) ?_ ?_
    | with_reducible refine State.gstartWrite_still _ _ ?_
    | split
    | dsimp only; split

def execGroupStartExecute_writes : Nat := 0x20000082240000000000000000000000000000000000000000000000000000000
theorem execGroupStartExecute_still {F : Fld} {I V : Nat} (s : State) (hw : execGroupStartExecute_writes.testBit F.ctorIdx
    = false) (h : Still F I V s) :
    StillOut F I V (execGroupStartExecute s) := by
  unfold execGroupStartExecute
  repeat' first
    | with_reducible assumption
    | with_reducible apply StillOut.next
    | intro _
    | with_reducible refine State.startCounter_still _ _ (Wr.sub (by decide) hw) ?_
    | with_reducible apply Still.each
    | fail_if_no_progress with_reducible apply Still.upd
    | split
    | dsimp only; split

def execPwmTimedStart_writes : Nat := 0x20000082340000000000000000000000000000000000000000000000000000000
theorem execPwmTimedStart_still {F : Fld} {I V : Nat} (m : Nat) (s : State) (hw : execPwmTimedStart_writes.testBit
    F.ctorIdx = false) (h : Still F I V s) :
    StillOut F I V (execPwmTimedStart m s) := by
  unfold execPwmTimedStart
  repeat' first
    | with_reducible assumption
    | with_reducible apply StillOut.next
    | with_reducible apply StillOut.ite
    | intro _
    | with_reducible refine State.setFld_still _ _ _ _ (W := execPwmTimedStart_writes) ?_ hw ?_
    | decide
    | with_reducible refine State.startCounter_still _ _ (Wr.sub (by decide) hw) ?_
    | with_reducible apply Still.ite
    | split
    | dsimp only; split

def execPwmLinkPulse_writes : Nat := 0x82000000000000000000000000000000000000000000000000000000000
theorem execPwmLinkPulse_still {F : Fld} {I V : Nat} (m : Nat) (s : State) (hw : execPwmLinkPulse_writes.testBit F.ctorIdx
    = false) (h : Still F I V s) :
    StillOut F I V (execPwmLinkPulse m s) := by
  unfold execPwmLinkPulse
  repeat' first
    | with_reducible assumption
    | with_reducible apply StillOut.next
    | with_reducible apply StillOut.ite
    | intro _
    | with_reducible refine State.modPm_still _ _ _ ?_
    | with_reducible refine State.loadCount_still _ _ _ (Wr.sub (by decide) hw) ?_
    | with_reducible refine State.sendLink_still _ _ _ ?_
    | with_reducible apply Still.whenIf
    | with_reducible apply Still.ite
    | fail_if_no_progress with_reducible apply Still.upd
    | split
    | dsimp only; split

def State.intWrite_writes : Nat := 0x7c000000000000000000000000000000000000000000000000000000000000000
theorem State.intWrite_still {F : Fld} {I V : Nat} (s : State) (m : Nat) (isel : Nat) (presc : Nat) (ien : Bool) (clr :
    Bool) (hw : State.intWrite_writes.testBit F.ctorIdx = false) (h : Still F I V s) :
    Still F I V (State.intWrite s m isel presc ien clr) := by
  unfold State.intWrite
  repeat' first
    | with_reducible assumption
    | intro _
    | with_reducible refine State.setFld_still _ _ _ _ (W := State.intWrite_writes) ?_ hw ?_
    | with_reducible refine State.setFlag_still _ _ _ _ (W := State.intWrite_writes) ?_ hw ?_
    | decide
    | with_reducible apply Still.whenIf
    | with_reducible apply Still.ite
    | split
    | (with_reducible apply Still.upd); split

def execPwmIntWrite_writes : Nat :=
    0x10022000000000000000000300000000000000000000000000000000000000000000000000000000000007c000000000000000000000000000000000000000000000000000000000000000
theorem execPwmIntWrite_still {F : Fld} {I V : Nat} (core : Nat) (m : Nat) (isel : Nat) (presc : Nat) (ien : Bool) (clr :
    Bool) (s : State) (hw : execPwmIntWrite_writes.testBit F.ctorIdx = false) (h : Still F I V s) :
    StillOut F I V (execPwmIntWrite core m isel presc ien clr s) := by
  unfold execPwmIntWrite
  repeat' first
    | with_reducible assumption
    | with_reducible apply StillOut.next
    | intro _
    | with_reducible refine State.accessBlk_still _ _ _ _ _ (Wr.sub (by decide) hw) ?_ ?_
    | with_reducible refine State.intWrite_still _ _ _ _ _ _ (Wr.sub (by decide) hw) ?_
    | split
    | dsimp only; split

def State.modTick_writes : Nat :=
    0x1003a0000000000000000003000000000000000000000000000000000000800000000000000000000000000000082000000000000000000000000000000000000000000000000001000000
theorem State.modTick_still {F : Fld} {I V : Nat} (s : State) (m : Nat) (hw : State.modTick_writes.testBit F.ctorIdx =
    false) (h : Still F I V s) :
    Still F I V (State.modTick s m) := by
  unfold State.modTick
  repeat' first
    | with_reducible assumption
    | intro _
    | with_reducible refine State.setFld_still _ _ _ _ (W := State.modTick_writes) ?_ hw ?_
    | with_reducible refine State.setFlag_still _ _ _ _ (W := State.modTick_writes) ?_ hw ?_
    | decide
    | with_reducible refine State.dueFalls_still _ _ _ (Wr.sub (by decide) hw) ?_
    | with_reducible refine State.earlyFall_still _ _ (Wr.sub (by decide) hw) ?_
    | with_reducible apply Still.ite
    | split
    | (with_reducible apply Still.upd); split

def State.advanceCounters_writes : Nat :=
    0x1003a0000000000000000003000000000000000000000000000000000000800000000000000000000000000000082000000000000000000000000000000000000000000000000001000000
theorem State.advanceCounters_still {F : Fld} {I V : Nat} (s : State) (hw : State.advanceCounters_writes.testBit F.ctorIdx
    = false) (h : Still F I V s) :
    Still F I V (State.advanceCounters s) := by
  unfold State.advanceCounters
  repeat' first
    | with_reducible assumption
    | intro _
    | with_reducible refine State.modTick_still _ _ (Wr.sub (by decide) hw) ?_
    | with_reducible apply Still.each
    | split
    | (with_reducible apply Still.upd); split

end Sys2Proof.Machine
end

