-- ==== Sys2Proof/Laws/StillGate.lean ====
section
/-!
SUPPORT. Which register fields the operations of Machine/Gate.lean can write (Laws/Still.lean), as bits by the field's number, and
that they leave every other as it was.
-/
namespace Sys2Proof.Machine

set_option linter.unusedTactic false
set_option linter.unreachableTactic false

def State.fltReport_writes : Nat :=
    0x1003a00000000000000000030000000000000000000000000000000000008000000000000180000268000210000827c0000000000000000000000000000000000000000000000001000000
theorem State.fltReport_still {F : Fld} {I V : Nat} (s : State) (l : List (Nat × Nat)) (hw : State.fltReport_writes.testBit
    F.ctorIdx = false) (h : Still F I V s) :
    Still F I V (State.fltReport s l) := by
  unfold State.fltReport
  repeat' first
    | with_reducible assumption
    | intro _
    | with_reducible refine State.setFld_still _ _ _ _ (W := State.fltReport_writes) ?_ hw ?_
    | with_reducible refine State.setBit_still _ _ _ _ _ (W := State.fltReport_writes) ?_ hw ?_
    | with_reducible refine State.count_still _ _ _ (W := State.fltReport_writes) ?_ hw ?_
    | decide
    | with_reducible refine State.runEntry_still _ _ _ (Wr.sub (by decide) hw) ?_
    | with_reducible refine State.gateEvent_still _ _ _ _ _ _ (Wr.sub (by decide) hw) ?_
    | with_reducible apply Still.each
    | with_reducible apply Still.foldl
    | with_reducible apply Still.ite
    | split
    | (with_reducible apply Still.upd); split

def State.endWindows_writes : Nat := 0x20000000000000000000000000000000000000000000000000000000000000000000000
theorem State.endWindows_still {F : Fld} {I V : Nat} (s : State) (mask : Nat) (hw : State.endWindows_writes.testBit
    F.ctorIdx = false) (h : Still F I V s) :
    Still F I V (State.endWindows s mask).1 := by
  unfold State.endWindows
  repeat' first
    | with_reducible assumption
    | intro _
    | with_reducible refine State.setBit_still _ _ _ _ _ (W := State.endWindows_writes) ?_ hw ?_
    | decide
    | with_reducible apply Still.each
    | with_reducible apply Still.foldl
    | fail_if_no_progress with_reducible apply Still.upd
    | dsimp only
    | split
    | (with_reducible apply Still.upd); split

def execFltQualified_writes : Nat :=
    0x1003a00000000000000000030000000000000000000000000000000000008000000000000180000368000210000827c0000000000000000000000000000000000000000000000001000000
theorem execFltQualified_still {F : Fld} {I V : Nat} (mask : Nat) (ended : Nat) (s : State) (hw :
    execFltQualified_writes.testBit F.ctorIdx = false) (h : Still F I V s) :
    StillOut F I V (execFltQualified mask ended s) := by
  unfold execFltQualified
  repeat' first
    | with_reducible assumption
    | with_reducible apply StillOut.next
    | with_reducible apply StillOut.ite
    | intro _
    | with_reducible refine State.setBit_still _ _ _ _ _ (W := execFltQualified_writes) ?_ hw ?_
    | decide
    | with_reducible refine State.endWindows_still _ _ (Wr.sub (by decide) hw) ?_
    | (with_reducible refine Still.fst ?_ (by assumption)); with_reducible refine State.endWindows_still _ _ (Wr.sub (by decide) hw) ?_
    | with_reducible refine State.fltReport_still _ _ (Wr.sub (by decide) hw) ?_
    | with_reducible apply Still.each
    | with_reducible apply Still.ite
    | fail_if_no_progress with_reducible apply Still.upd
    | split
    | dsimp only; split

def execFltBlankingEnd_writes : Nat :=
    0x1003a00000000000000000030000000000000000000000000000000000008000000000000180000268000210000827c0000000000000000000000000000000000000000000000001000000
theorem execFltBlankingEnd_still {F : Fld} {I V : Nat} (mask : Nat) (s : State) (hw : execFltBlankingEnd_writes.testBit
    F.ctorIdx = false) (h : Still F I V s) :
    StillOut F I V (execFltBlankingEnd mask s) := by
  unfold execFltBlankingEnd
  repeat' first
    | with_reducible assumption
    | with_reducible apply StillOut.next
    | with_reducible apply StillOut.ite
    | intro _
    | with_reducible refine State.endWindows_still _ _ (Wr.sub (by decide) hw) ?_
    | (with_reducible refine Still.fst ?_ (by assumption)); with_reducible refine State.endWindows_still _ _ (Wr.sub (by decide) hw) ?_
    | with_reducible refine State.fltReport_still _ _ (Wr.sub (by decide) hw) ?_
    | with_reducible apply Still.ite
    | split
    | dsimp only; split

def execFltQualifiedHigh_writes : Nat := 0x10000000000000000000000000000000000000000000000000000000000000000000000
theorem execFltQualifiedHigh_still {F : Fld} {I V : Nat} (m : Nat) (s : State) (hw : execFltQualifiedHigh_writes.testBit
    F.ctorIdx = false) (h : Still F I V s) :
    StillOut F I V (execFltQualifiedHigh m s) := by
  unfold execFltQualifiedHigh
  repeat' first
    | with_reducible assumption
    | with_reducible apply StillOut.next
    | with_reducible apply StillOut.ite
    | intro _
    | with_reducible refine State.setBit_still _ _ _ _ _ (W := execFltQualifiedHigh_writes) ?_ hw ?_
    | decide
    | with_reducible apply Still.ite
    | fail_if_no_progress with_reducible apply Still.upd
    | split
    | dsimp only; split

def execRdyLost_writes : Nat :=
    0x1003a00000000000000000030000000000000000000000000000000000008000000000000000000c68000210000827c0000000000000000000000000000000000000000000000001000000
theorem execRdyLost_still {F : Fld} {I V : Nat} (m : Nat) (s : State) (hw : execRdyLost_writes.testBit F.ctorIdx = false)
    (h : Still F I V s) :
    StillOut F I V (execRdyLost m s) := by
  unfold execRdyLost
  repeat' first
    | with_reducible assumption
    | with_reducible apply StillOut.next
    | with_reducible apply StillOut.ite
    | intro _
    | with_reducible refine State.setBit_still _ _ _ _ _ (W := execRdyLost_writes) ?_ hw ?_
    | decide
    | with_reducible refine State.runEntry_still _ _ _ (Wr.sub (by decide) hw) ?_
    | with_reducible refine State.gateNow_still _ _ _ _ (Wr.sub (by decide) hw) ?_
    | with_reducible apply Still.whenIf
    | with_reducible apply Still.ite
    | split
    | dsimp only; split

def execRdyQualifiedHigh_writes : Nat := 0x40000000000000000000000000000000000000000000000000000000000000000000000
theorem execRdyQualifiedHigh_still {F : Fld} {I V : Nat} (m : Nat) (s : State) (hw : execRdyQualifiedHigh_writes.testBit
    F.ctorIdx = false) (h : Still F I V s) :
    StillOut F I V (execRdyQualifiedHigh m s) := by
  unfold execRdyQualifiedHigh
  repeat' first
    | with_reducible assumption
    | with_reducible apply StillOut.next
    | with_reducible apply StillOut.ite
    | intro _
    | with_reducible refine State.setBit_still _ _ _ _ _ (W := execRdyQualifiedHigh_writes) ?_ hw ?_
    | decide
    | with_reducible apply Still.ite
    | split
    | dsimp only; split

def execShootThrough_writes : Nat :=
    0x1003a00000000000000000030000000000000000000000000000000000008000000000000400001068000210000827c0000000000000000000000000000000000000000000000001000000
theorem execShootThrough_still {F : Fld} {I V : Nat} (m : Nat) (s : State) (hw : execShootThrough_writes.testBit F.ctorIdx
    = false) (h : Still F I V s) :
    StillOut F I V (execShootThrough m s) := by
  unfold execShootThrough
  repeat' first
    | with_reducible assumption
    | with_reducible apply StillOut.next
    | with_reducible apply StillOut.ite
    | intro _
    | with_reducible refine State.setBit_still _ _ _ _ _ (W := execShootThrough_writes) ?_ hw ?_
    | with_reducible refine State.count_still _ _ _ (W := execShootThrough_writes) ?_ hw ?_
    | decide
    | with_reducible refine State.modPm_still _ _ _ ?_
    | with_reducible refine State.runEntry_still _ _ _ (Wr.sub (by decide) hw) ?_
    | with_reducible refine State.gateNow_still _ _ _ _ (Wr.sub (by decide) hw) ?_
    | with_reducible apply Still.ite
    | split
    | dsimp only; split

def State.swtrig_writes : Nat :=
    0x1003a00000000000000000030000000000000000000000000000000000008000000000000000000068000210000827c0000000000000000000000000000000000000000000000001000000
theorem State.swtrig_still {F : Fld} {I V : Nat} (s : State) (w : Wing) (trig : Nat) (hw : State.swtrig_writes.testBit
    F.ctorIdx = false) (h : Still F I V s) :
    Still F I V (State.swtrig s w trig) := by
  unfold State.swtrig
  repeat' first
    | with_reducible assumption
    | intro _
    | with_reducible refine State.runEntry_still _ _ _ (Wr.sub (by decide) hw) ?_
    | with_reducible refine State.discarded_still _ _ _ (Wr.sub (by decide) hw) ?_
    | with_reducible apply Still.each
    | with_reducible apply Still.ite
    | split
    | (with_reducible apply Still.upd); split

def execGiSwtrigWrite_writes : Nat :=
    0x1003a00000000000000000030000000000000000000000000000000000008000000000000000000068000210000827c0000000000000000000000000000000000000000000000001000000
theorem execGiSwtrigWrite_still {F : Fld} {I V : Nat} (core : Nat) (trig : Nat) (s : State) (hw :
    execGiSwtrigWrite_writes.testBit F.ctorIdx = false) (h : Still F I V s) :
    StillOut F I V (execGiSwtrigWrite core trig s) := by
  unfold execGiSwtrigWrite
  repeat' first
    | with_reducible assumption
    | with_reducible apply StillOut.next
    | intro _
    | with_reducible refine State.accessBlk_still _ _ _ _ _ (Wr.sub (by decide) hw) ?_ ?_
    | with_reducible refine State.swtrig_still _ _ _ (Wr.sub (by decide) hw) ?_
    | split
    | dsimp only; split

def execSequencerGapEnd_writes : Nat :=
    0x1003a00000000000000000030000000000000000000000000000000000008000000000000000002008000210000827c0000000000000000000000000000000000000000000000001000000
theorem execSequencerGapEnd_still {F : Fld} {I V : Nat} (k : Nat) (s : State) (hw : execSequencerGapEnd_writes.testBit
    F.ctorIdx = false) (h : Still F I V s) :
    StillOut F I V (execSequencerGapEnd k s) := by
  unfold execSequencerGapEnd
  repeat' first
    | with_reducible assumption
    | with_reducible apply StillOut.next
    | with_reducible apply StillOut.ite
    | intro _
    | with_reducible refine State.seqFallback_still _ (Wr.sub (by decide) hw) ?_
    | with_reducible refine State.gapEnd_still _ _ (Wr.sub (by decide) hw) ?_
    | with_reducible apply Still.ite
    | split
    | dsimp only; split

def execRefreshInsert_writes : Nat :=
    0x1003a0000000000000000003000000000000000000000000000000000000800000000000020000000000000000000000000000000000000000000000000000000000000000000001000000
theorem execRefreshInsert_still {F : Fld} {I V : Nat} (m : Nat) (s : State) (hw : execRefreshInsert_writes.testBit
    F.ctorIdx = false) (h : Still F I V s) :
    StillOut F I V (execRefreshInsert m s) := by
  unfold execRefreshInsert
  repeat' first
    | with_reducible assumption
    | with_reducible apply StillOut.next
    | with_reducible apply StillOut.ite
    | intro _
    | with_reducible refine State.count_still _ _ _ (W := execRefreshInsert_writes) ?_ hw ?_
    | decide
    | with_reducible refine State.setCmd_still _ _ _ _ _ _ (Wr.sub (by decide) hw) ?_
    | with_reducible refine State.modPm_still _ _ _ ?_
    | with_reducible apply Still.ite
    | split
    | dsimp only; split

def execRefreshPhaseEnd_writes : Nat :=
    0x1003a0000000000000000003000000000000000000000000000000000000800000000000000000000000000000000000000000000000000000000000000000000000000000000001000000
theorem execRefreshPhaseEnd_still {F : Fld} {I V : Nat} (m : Nat) (s : State) (hw : execRefreshPhaseEnd_writes.testBit
    F.ctorIdx = false) (h : Still F I V s) :
    StillOut F I V (execRefreshPhaseEnd m s) := by
  unfold execRefreshPhaseEnd
  repeat' first
    | with_reducible assumption
    | with_reducible apply StillOut.next
    | with_reducible apply StillOut.ite
    | intro _
    | with_reducible refine State.modPm_still _ _ _ ?_
    | with_reducible refine State.setCmd_still _ _ _ _ _ _ (Wr.sub (by decide) hw) ?_
    | with_reducible apply Still.whenIf
    | with_reducible apply Still.ite
    | split
    | dsimp only; split

end Sys2Proof.Machine
end

