-- ==== Sys2Proof/Laws/StillRecess.lean ====
section
/-!
SUPPORT. Which register fields the operations of Machine/Recess.lean can write (Laws/Still.lean), as bits by the field's number, and
that they leave every other as it was.
-/
namespace Sys2Proof.Machine

set_option linter.unusedTactic false
set_option linter.unreachableTactic false

theorem State.answer_still {F : Fld} {I V : Nat} (s : State) (code : Nat) (h : Still F I V s) :
    Still F I V (State.answer s code) := by
  unfold State.answer
  repeat' first
    | with_reducible assumption
    | intro _
    | fail_if_no_progress with_reducible apply Still.upd
    | split
    | (with_reducible apply Still.upd); split

def State.enterRecess_writes : Nat :=
    0x100220000000000000000000000000000000000000000000000000000000000000000000000000000000000000000000000000000000000002000908000000000000000000000000000000
theorem State.enterRecess_still {F : Fld} {I V : Nat} (s : State) (g : Nat) (hw : State.enterRecess_writes.testBit
    F.ctorIdx = false) (h : Still F I V s) :
    Still F I V (State.enterRecess s g) := by
  unfold State.enterRecess
  repeat' first
    | with_reducible assumption
    | intro _
    | with_reducible refine State.modGroup_still _ _ _ ?_
    | with_reducible refine State.sarLeave_still _ (Wr.sub (by decide) hw) ?_
    | with_reducible refine State.modLeave_still _ ?_
    | with_reducible apply Still.whenIf
    | with_reducible apply Still.ite
    | split
    | (with_reducible apply Still.upd); split

def State.groupAct_writes : Nat :=
    0x100220000000000000000000000000000000000000000000000000000000000000000000000000000000000000000000000000000000000002000908000000000000000000000000000000
theorem State.groupAct_still {F : Fld} {I V : Nat} (s : State) (g : Nat) (cmd : Nat) (hw : State.groupAct_writes.testBit
    F.ctorIdx = false) (h : Still F I V s) :
    Still F I V (State.groupAct s g cmd) := by
  unfold State.groupAct
  repeat' first
    | with_reducible assumption
    | intro _
    | with_reducible refine State.answer_still _ _ ?_
    | with_reducible refine State.modGroup_still _ _ _ ?_
    | with_reducible refine State.enterRecess_still _ _ (Wr.sub (by decide) hw) ?_
    | with_reducible apply Still.ite
    | split
    | (with_reducible apply Still.upd); split

def State.groupCommand_writes : Nat :=
    0x100220000000000000000000000000000000000000000000000000000000000000000000000000000000000000000000000000000000000002000908000000000000000000000000000000
theorem State.groupCommand_still {F : Fld} {I V : Nat} (s : State) (g : Nat) (cmd : Nat) (hw :
    State.groupCommand_writes.testBit F.ctorIdx = false) (h : Still F I V s) :
    Still F I V (State.groupCommand s g cmd) := by
  unfold State.groupCommand
  repeat' first
    | with_reducible assumption
    | intro _
    | with_reducible refine State.answer_still _ _ ?_
    | with_reducible refine State.mgmtEvent_still _ _ _ _ _ (Wr.sub (by decide) hw) ?_
    | with_reducible refine State.modGroup_still _ _ _ ?_
    | with_reducible refine State.groupAct_still _ _ _ (Wr.sub (by decide) hw) ?_
    | with_reducible apply Still.ite
    | split
    | (with_reducible apply Still.upd); split

theorem State.cacheAnswer_still {F : Fld} {I V : Nat} (s : State) (port : Nat) (source : Nat) (tag : Nat) (code : Nat)
    (data : List Nat) (h : Still F I V s) :
    Still F I V (State.cacheAnswer s port source tag code data) := by
  unfold State.cacheAnswer
  repeat' first
    | with_reducible assumption
    | intro _
    | fail_if_no_progress with_reducible apply Still.upd
    | split
    | (with_reducible apply Still.upd); split

theorem State.idpAnswer_still {F : Fld} {I V : Nat} (s : State) (p : Nat) (src : Nat) (tag : Nat) (code : Nat) (data : List
    Nat) (h : Still F I V s) :
    Still F I V (State.idpAnswer s p src tag code data) := by
  unfold State.idpAnswer
  repeat' first
    | with_reducible assumption
    | intro _
    | with_reducible refine State.answer_still _ _ ?_
    | with_reducible refine State.cacheAnswer_still _ _ _ _ _ _ ?_
    | with_reducible apply Still.ite
    | fail_if_no_progress with_reducible apply Still.upd
    | split
    | (with_reducible apply Still.upd); split

theorem State.usdoAnswer_still {F : Fld} {I V : Nat} (s : State) (p : Nat) (client : Nat) (code : Nat) (data : List Nat) (h
    : Still F I V s) :
    Still F I V (State.usdoAnswer s p client code data) := by
  unfold State.usdoAnswer
  repeat' first
    | with_reducible assumption
    | intro _
    | with_reducible apply Still.ite
    | fail_if_no_progress with_reducible apply Still.upd
    | split
    | (with_reducible apply Still.upd); split

def State.tell_writes : Nat :=
    0x1018100000000000000000000000000000000000000000000000000000000000000000000000000000000000000000000000000000000000000000000000000000000000000000000000000000
theorem State.tell_still {F : Fld} {I V : Nat} (s : State) (a : Asker) (code : Nat) (data : List Nat) (hw :
    State.tell_writes.testBit F.ctorIdx = false) (h : Still F I V s) :
    Still F I V (State.tell s a code data) := by
  unfold State.tell
  repeat' first
    | with_reducible assumption
    | intro _
    | with_reducible refine State.idpAnswer_still _ _ _ _ _ _ ?_
    | with_reducible refine State.usdoAnswer_still _ _ _ _ _ ?_
    | with_reducible refine State.endGateway_still _ _ _ (Wr.sub (by decide) hw) ?_
    | split
    | (with_reducible apply Still.upd); split

def State.tellAskers_writes : Nat :=
    0x1018100000000000000000000000000000000000000000000000000000000000000000000000000000000000000000000000000000000000000000000000000000000000000000000000000000
theorem State.tellAskers_still {F : Fld} {I V : Nat} (s : State) (g : Nat) (hw : State.tellAskers_writes.testBit F.ctorIdx
    = false) (h : Still F I V s) :
    Still F I V (State.tellAskers s g) := by
  unfold State.tellAskers
  repeat' first
    | with_reducible assumption
    | intro _
    | with_reducible refine State.modGroup_still _ _ _ ?_
    | with_reducible refine State.tell_still _ _ _ _ (Wr.sub (by decide) hw) ?_
    | with_reducible apply Still.each
    | split
    | (with_reducible apply Still.upd); split

def State.heldCommand_writes : Nat :=
    0x1018100220000000000000000000000000000000000000000000000000000000000000000000000000000000000000000000000000000000000002000908000000000000000000000000000000
theorem State.heldCommand_still {F : Fld} {I V : Nat} (s : State) (g : Nat) (h_2 : Nat × Option Asker) (hw :
    State.heldCommand_writes.testBit F.ctorIdx = false) (h : Still F I V s) :
    Still F I V (State.heldCommand s g h_2) := by
  unfold State.heldCommand
  repeat' first
    | with_reducible assumption
    | intro _
    | with_reducible refine State.modGroup_still _ _ _ ?_
    | with_reducible refine State.groupAct_still _ _ _ (Wr.sub (by decide) hw) ?_
    | with_reducible refine State.tell_still _ _ _ _ (Wr.sub (by decide) hw) ?_
    | with_reducible apply Still.each
    | with_reducible apply Still.ite
    | split
    | (with_reducible apply Still.upd); split

def State.releaseHeld_writes : Nat :=
    0x1018100220000000000000000000000000000000000000000000000000000000000000000000000000000000000000000000000000000000000002000908000000000000000000000000000000
theorem State.releaseHeld_still {F : Fld} {I V : Nat} (s : State) (g : Nat) (hw : State.releaseHeld_writes.testBit
    F.ctorIdx = false) (h : Still F I V s) :
    Still F I V (State.releaseHeld s g) := by
  unfold State.releaseHeld
  repeat' first
    | with_reducible assumption
    | intro _
    | with_reducible refine State.modGroup_still _ _ _ ?_
    | with_reducible refine State.heldCommand_still _ _ _ (Wr.sub (by decide) hw) ?_
    | with_reducible apply Still.each
    | split
    | (with_reducible apply Still.upd); split

def State.settleEntering_writes : Nat :=
    0x1018100220000000000000000000000000000000000000000000000000000000000000000000000000000000000000000000000000000000000002000908000000000000000000000000000000
theorem State.settleEntering_still {F : Fld} {I V : Nat} (s : State) (hw : State.settleEntering_writes.testBit F.ctorIdx =
    false) (h : Still F I V s) :
    Still F I V (State.settleEntering s) := by
  unfold State.settleEntering
  repeat' first
    | with_reducible assumption
    | intro _
    | with_reducible refine State.releaseHeld_still _ _ (Wr.sub (by decide) hw) ?_
    | with_reducible refine State.modGroup_still _ _ _ ?_
    | with_reducible apply Still.each
    | with_reducible apply Still.ite
    | split
    | (with_reducible apply Still.upd); split

end Sys2Proof.Machine
end

