-- ==== Sys2Proof/Laws/StillEngine.lean ====
section
/-!
SUPPORT. Which register fields the operations of Machine/Engine.lean can write (Laws/Still.lean), as bits by the field's number, and
that they leave every other as it was.
-/
namespace Sys2Proof.Machine

set_option linter.unusedTactic false
set_option linter.unreachableTactic false

def State.engEvent_writes : Nat :=
    0x100220000000000000000000000000000000000000000000000000000000000000000000000000000000000000000000000000000000000000000000000000000000000000000000000000
theorem State.engEvent_still {F : Fld} {I V : Nat} (s : State) (code : Nat) (n : Nat) (cause : Nat) (pc : Nat) (ecode :
    Nat) (value : Nat) (ts : Nat) (hw : State.engEvent_writes.testBit F.ctorIdx = false) (h : Still F I V s) :
    Still F I V (State.engEvent s code n cause pc ecode value ts) := by
  unfold State.engEvent
  repeat' first
    | with_reducible assumption
    | intro _
    | with_reducible refine State.emit_still _ _ _ (Wr.sub (by decide) hw) ?_
    | split
    | (with_reducible apply Still.upd); split

def State.engStore_writes : Nat :=
    0x100220000000000000000000000000000000040000000000000000000000000000000000000000000000000000000000000000000000000000000000000000000000000000000000000000
theorem State.engStore_still {F : Fld} {I V : Nat} (s : State) (n : Nat) (l : List (Nat × Nat)) (hw :
    State.engStore_writes.testBit F.ctorIdx = false) (h : Still F I V s) :
    Still F I V (State.engStore s n l) := by
  unfold State.engStore
  repeat' first
    | with_reducible assumption
    | intro _
    | with_reducible refine State.setEngWord_still _ _ _ _ ?_
    | with_reducible refine State.mark_still _ _ _ _ ?_
    | with_reducible refine State.badRead_still _ _ _ _ (Wr.sub (by decide) hw) ?_
    | with_reducible apply Still.each
    | with_reducible apply Still.ite
    | split
    | (with_reducible apply Still.upd); split

def State.settleHeld_writes : Nat :=
    0x100220000000000000000000000000000000040000000000000000000000000000000000000000000000000000000000000000000000000000000000000000000000000000000000000000
theorem State.settleHeld_still {F : Fld} {I V : Nat} (s : State) (n : Nat) (hw : State.settleHeld_writes.testBit F.ctorIdx
    = false) (h : Still F I V s) :
    Still F I V (State.settleHeld s n) := by
  unfold State.settleHeld
  repeat' first
    | with_reducible assumption
    | intro _
    | with_reducible refine State.modEngine_still _ _ _ ?_
    | with_reducible refine State.settleLate_still _ _ ?_
    | with_reducible refine State.engStore_still _ _ _ (Wr.sub (by decide) hw) ?_
    | with_reducible apply Still.each
    | split
    | (with_reducible apply Still.upd); split

def State.stopRun_writes : Nat := 0x400000000000000400000000000000000000000000000000000000000000000000000000000000000000
theorem State.stopRun_still {F : Fld} {I V : Nat} (s : State) (n : Nat) (hw : State.stopRun_writes.testBit F.ctorIdx =
    false) (h : Still F I V s) :
    Still F I V (State.stopRun s n) := by
  unfold State.stopRun
  repeat' first
    | with_reducible assumption
    | intro _
    | with_reducible refine State.setFld_still _ _ _ _ (W := State.stopRun_writes) ?_ hw ?_
    | decide
    | with_reducible refine State.dropStaged_still _ _ (Wr.sub (by decide) hw) ?_
    | with_reducible refine State.modEngine_still _ _ _ ?_
    | split
    | (with_reducible apply Still.upd); split

def State.rollback_writes : Nat :=
    0x100220000000000000000000000000000000040000000000000000000000000000000000000000000000000000000000000000000000000000000000000000000000000000000000000000
theorem State.rollback_still {F : Fld} {I V : Nat} (s : State) (n : Nat) (hw : State.rollback_writes.testBit F.ctorIdx =
    false) (h : Still F I V s) :
    Still F I V (State.rollback s n) := by
  unfold State.rollback
  repeat' first
    | with_reducible assumption
    | intro _
    | with_reducible refine State.setEngWord_still _ _ _ _ ?_
    | with_reducible refine State.settleHeld_still _ _ (Wr.sub (by decide) hw) ?_
    | with_reducible refine State.modEngine_still _ _ _ ?_
    | with_reducible apply Still.each
    | split
    | (with_reducible apply Still.upd); split

def State.abandonRun_writes : Nat :=
    0x1018100220000000000000000000000000000000040000000000000000000000000000400000000000000400000000000000000000000000000002000908000000000000000000000000000000
theorem State.abandonRun_still {F : Fld} {I V : Nat} (s : State) (n : Nat) (hw : State.abandonRun_writes.testBit F.ctorIdx
    = false) (h : Still F I V s) :
    Still F I V (State.abandonRun s n) := by
  unfold State.abandonRun
  repeat' first
    | with_reducible assumption
    | intro _
    | with_reducible refine State.settleEntering_still _ (Wr.sub (by decide) hw) ?_
    | with_reducible refine State.rollback_still _ _ (Wr.sub (by decide) hw) ?_
    | with_reducible refine State.stopRun_still _ _ (Wr.sub (by decide) hw) ?_
    | split
    | (with_reducible apply Still.upd); split

def State.abandonWing_writes : Nat :=
    0x1018100220000000000000000000000000000000040000000000000000000000000000400000000000000400000000000000000000000000000002000908000000000000000000000000000000
theorem State.abandonWing_still {F : Fld} {I V : Nat} (s : State) (w : Wing) (hw : State.abandonWing_writes.testBit
    F.ctorIdx = false) (h : Still F I V s) :
    Still F I V (State.abandonWing s w) := by
  unfold State.abandonWing
  repeat' first
    | with_reducible assumption
    | intro _
    | with_reducible refine State.abandonRun_still _ _ (Wr.sub (by decide) hw) ?_
    | with_reducible apply Still.each
    | with_reducible apply Still.ite
    | split
    | (with_reducible apply Still.upd); split

def State.overrun_writes : Nat :=
    0x10181003a000000000000000000300000000000004000000000000000000000080080cc00000000000006c000210000827c0000000000000000002000908000000000000000000000001000000
theorem State.overrun_still {F : Fld} {I V : Nat} (s : State) (n : Nat) (hw : State.overrun_writes.testBit F.ctorIdx =
    false) (h : Still F I V s) :
    Still F I V (State.overrun s n) := by
  unfold State.overrun
  repeat' first
    | with_reducible assumption
    | intro _
    | with_reducible refine State.setFld_still _ _ _ _ (W := State.overrun_writes) ?_ hw ?_
    | with_reducible refine State.count_still _ _ _ (W := State.overrun_writes) ?_ hw ?_
    | decide
    | with_reducible refine State.abandonRun_still _ _ (Wr.sub (by decide) hw) ?_
    | with_reducible refine State.engEvent_still _ _ _ _ _ _ _ _ (Wr.sub (by decide) hw) ?_
    | with_reducible refine State.modEngine_still _ _ _ ?_
    | with_reducible refine State.runEntry_still _ _ _ (Wr.sub (by decide) hw) ?_
    | with_reducible apply Still.whenIf
    | split
    | (with_reducible apply Still.upd); split

theorem State.setCopy_still {F : Fld} {I V : Nat} (s : State) (w : Wing) (n : Option Nat) (ready : Bool) (h : Still F I V s) :
    Still F I V (State.setCopy s w n ready) := by
  unfold State.setCopy
  repeat' first
    | with_reducible assumption
    | intro _
    | fail_if_no_progress with_reducible apply Still.upd
    | split
    | (with_reducible apply Still.upd); split

def State.reserveGone_writes : Nat :=
    0x100220000000000000000000000000000000000000000000200000000000000000000000000000000000000000000000000000000000000000000000000000000000000000000000000000
theorem State.reserveGone_still {F : Fld} {I V : Nat} (s : State) (w : Wing) (hw : State.reserveGone_writes.testBit
    F.ctorIdx = false) (h : Still F I V s) :
    Still F I V (State.reserveGone s w) := by
  unfold State.reserveGone
  repeat' first
    | with_reducible assumption
    | intro _
    | with_reducible refine State.setFld_still _ _ _ _ (W := State.reserveGone_writes) ?_ hw ?_
    | decide
    | with_reducible refine State.dupEvent_still _ _ _ _ _ _ _ _ (Wr.sub (by decide) hw) ?_
    | with_reducible refine State.raise_still _ _ _ (Wr.sub (by decide) hw) ?_
    | with_reducible apply Still.whenIf
    | split
    | (with_reducible apply Still.upd); split

def State.retireEngine_writes : Nat :=
    0x1018100220000000000000000000000000000000640218000000200000000000000000403f80000000000400000000000000000000000000000002000908000000000000000000000000000000
theorem State.retireEngine_still {F : Fld} {I V : Nat} (s : State) (n : Nat) (hw : State.retireEngine_writes.testBit
    F.ctorIdx = false) (h : Still F I V s) :
    Still F I V (State.retireEngine s n) := by
  unfold State.retireEngine
  repeat' first
    | with_reducible assumption
    | intro _
    | with_reducible refine State.setFld_still _ _ _ _ (W := State.retireEngine_writes) ?_ hw ?_
    | with_reducible refine State.setBit_still _ _ _ _ _ (W := State.retireEngine_writes) ?_ hw ?_
    | decide
    | unfold substCopy; split <;> decide
    | unfold substMap; split <;> decide
    | unfold substRet; split <;> decide
    | with_reducible refine State.abandonRun_still _ _ (Wr.sub (by decide) hw) ?_
    | with_reducible refine State.engEvent_still _ _ _ _ _ _ _ _ (Wr.sub (by decide) hw) ?_
    | with_reducible refine State.reserveGone_still _ _ (Wr.sub (by decide) hw) ?_
    | with_reducible refine State.setCopy_still _ _ _ _ ?_
    | with_reducible refine State.recordRepair_still _ _ _ _ _ (Wr.sub (by decide) hw) ?_
    | with_reducible refine State.consumeSpare_still _ _ (Wr.sub (by decide) hw) ?_
    | with_reducible apply Still.ite
    | split
    | (with_reducible apply Still.upd); split

def State.faultReport_writes : Nat :=
    0x1003a00000000000000000030000000000000000000000000000000000008008030000000000000068000210000827c0000000000000000000000000000000000000000000000001000000
theorem State.faultReport_still {F : Fld} {I V : Nat} (s : State) (n : Nat) (cause : Nat) (pc : Nat) (hw :
    State.faultReport_writes.testBit F.ctorIdx = false) (h : Still F I V s) :
    Still F I V (State.faultReport s n cause pc) := by
  unfold State.faultReport
  repeat' first
    | with_reducible assumption
    | intro _
    | with_reducible refine State.setFld_still _ _ _ _ (W := State.faultReport_writes) ?_ hw ?_
    | decide
    | with_reducible refine State.engEvent_still _ _ _ _ _ _ _ _ (Wr.sub (by decide) hw) ?_
    | with_reducible refine State.runEntry_still _ _ _ (Wr.sub (by decide) hw) ?_
    | split
    | (with_reducible apply Still.upd); split

def State.hardwareFault_writes : Nat :=
    0x1018100220000000000000000000000000000000640218000000200000000000000000403f80000000000400000000000000000000000000000002000908000000000000000000000000000000
theorem State.hardwareFault_still {F : Fld} {I V : Nat} (s : State) (n : Nat) (cause : Nat) (hw :
    State.hardwareFault_writes.testBit F.ctorIdx = false) (h : Still F I V s) :
    Still F I V (State.hardwareFault s n cause) := by
  unfold State.hardwareFault
  repeat' first
    | with_reducible assumption
    | intro _
    | with_reducible refine State.modEngine_still _ _ _ ?_
    | with_reducible refine State.retireEngine_still _ _ (Wr.sub (by decide) hw) ?_
    | with_reducible apply Still.ite
    | split
    | (with_reducible apply Still.upd); split

def State.engineFault_writes : Nat :=
    0x10181003a0000000000000000003000000000000640218000000200000000000800803403f80000000006c000210000827c0000000000000000002000908000000000000000000000001000000
theorem State.engineFault_still {F : Fld} {I V : Nat} (s : State) (n : Nat) (cause : Nat) (hw :
    State.engineFault_writes.testBit F.ctorIdx = false) (h : Still F I V s) :
    Still F I V (State.engineFault s n cause) := by
  unfold State.engineFault
  repeat' first
    | with_reducible assumption
    | intro _
    | with_reducible refine State.abandonRun_still _ _ (Wr.sub (by decide) hw) ?_
    | with_reducible refine State.faultReport_still _ _ _ _ (Wr.sub (by decide) hw) ?_
    | with_reducible refine State.hardwareFault_still _ _ _ (Wr.sub (by decide) hw) ?_
    | with_reducible apply Still.ite
    | split
    | (with_reducible apply Still.upd); split

def execLessonRunStart_writes : Nat := 0x400000000000000000000000000000000000000000000000000000000000000000000000000000000000
theorem execLessonRunStart_still {F : Fld} {I V : Nat} (n : Nat) (s : State) (hw : execLessonRunStart_writes.testBit
    F.ctorIdx = false) (h : Still F I V s) :
    StillOut F I V (execLessonRunStart n s) := by
  unfold execLessonRunStart
  repeat' first
    | with_reducible assumption
    | with_reducible apply StillOut.next
    | with_reducible apply StillOut.ite
    | intro _
    | with_reducible refine State.setFld_still _ _ _ _ (W := execLessonRunStart_writes) ?_ hw ?_
    | decide
    | with_reducible refine State.modEngine_still _ _ _ ?_
    | with_reducible apply Still.ite
    | split
    | dsimp only; split

def State.dataMake_writes : Nat :=
    0x100220000000000000000000000000000000040000000000000000000000000000000000000000000000000000000000000000000000000000000000000000000000000000000000000000
theorem State.dataMake_still {F : Fld} {I V : Nat} (s : State) (core : Nat) (n : Nat) (l : List (Nat × Nat)) (flushed :
    optParam Bool false) (hw : State.dataMake_writes.testBit F.ctorIdx = false) (h : Still F I V s) :
    Still F I V (State.dataMake s core n l flushed) := by
  unfold State.dataMake
  repeat' first
    | with_reducible assumption
    | intro _
    | with_reducible refine State.coreFault_still _ _ _ _ ?_
    | with_reducible refine State.modEngine_still _ _ _ ?_
    | with_reducible refine State.engStore_still _ _ _ (Wr.sub (by decide) hw) ?_
    | with_reducible apply Still.whenIf
    | with_reducible apply Still.ite
    | split
    | (with_reducible apply Still.upd); split

def State.flushLow_writes : Nat :=
    0x100220000000000000000000000000000000040000000000000000000000000000000000000000000000000000000000000000000000000000000000000000000000000000000000000000
theorem State.flushLow_still {F : Fld} {I V : Nat} (s : State) (core : Nat) (hw : State.flushLow_writes.testBit F.ctorIdx =
    false) (h : Still F I V s) :
    Still F I V (State.flushLow s core) := by
  unfold State.flushLow
  repeat' first
    | with_reducible assumption
    | intro _
    | with_reducible refine State.dataMake_still _ _ _ _ _ (Wr.sub (by decide) hw) ?_
    | fail_if_no_progress with_reducible apply Still.upd
    | split
    | (with_reducible apply Still.upd); split

def State.dataWrite_writes : Nat :=
    0x100220000000000000000000000000000000040000000000000000000000000000000000000000000000000000000000000000000000000000000000000000000000000000000000000000
theorem State.dataWrite_still {F : Fld} {I V : Nat} (s : State) (core : Nat) (n : Nat) (idx : Nat) (v : Nat) (hw :
    State.dataWrite_writes.testBit F.ctorIdx = false) (h : Still F I V s) :
    Still F I V (State.dataWrite s core n idx v) := by
  unfold State.dataWrite
  repeat' first
    | with_reducible assumption
    | intro _
    | with_reducible refine State.flushLow_still _ _ (Wr.sub (by decide) hw) ?_
    | with_reducible refine State.dataMake_still _ _ _ _ _ (Wr.sub (by decide) hw) ?_
    | with_reducible apply Still.ite
    | fail_if_no_progress with_reducible apply Still.upd
    | split
    | (with_reducible apply Still.upd); split

def State.windowWrite_writes : Nat :=
    0x100220000000000000000000000000000000040000000000000000000000000000000000000000000000000000000000000000000000000000000000000000000000000000000000000000
theorem State.windowWrite_still {F : Fld} {I V : Nat} (s : State) (core : Nat) (n : Nat) (offset : Nat) (v : Nat) (hw :
    State.windowWrite_writes.testBit F.ctorIdx = false) (h : Still F I V s) :
    Still F I V (State.windowWrite s core n offset v) := by
  unfold State.windowWrite
  repeat' first
    | with_reducible assumption
    | intro _
    | unfold substMap; split <;> decide
    | with_reducible refine State.coreFault_still _ _ _ _ ?_
    | with_reducible refine State.dataWrite_still _ _ _ _ _ (Wr.sub (by decide) hw) ?_
    | with_reducible refine State.setEngWord_still _ _ _ _ ?_
    | with_reducible refine State.modGroup_still _ _ _ ?_
    | with_reducible refine State.discarded_still _ _ _ (Wr.sub (by decide) hw) ?_
    | with_reducible apply Still.ite
    | split
    | (with_reducible apply Still.upd); split

def execEngineDataWrite_writes : Nat :=
    0x100220000000000000000003000000000000040000000000000000000000000000000000000000000000000000000000000000000000000000000000000000000000000000000000000000
theorem execEngineDataWrite_still {F : Fld} {I V : Nat} (core : Nat) (n : Nat) (offset : Nat) (value : Nat) (s : State) (hw
    : execEngineDataWrite_writes.testBit F.ctorIdx = false) (h : Still F I V s) :
    StillOut F I V (execEngineDataWrite core n offset value s) := by
  unfold execEngineDataWrite
  repeat' first
    | with_reducible assumption
    | with_reducible apply StillOut.next
    | with_reducible apply StillOut.ite
    | intro _
    | with_reducible refine State.accessBlk_still _ _ _ _ _ (Wr.sub (by decide) hw) ?_ ?_
    | with_reducible refine State.windowWrite_still _ _ _ _ _ (Wr.sub (by decide) hw) ?_
    | with_reducible apply Still.ite
    | split
    | dsimp only; split

def execHeldLowHalfTimeout_writes : Nat :=
    0x100220000000000000000000000000000000040000000000000000000000000000000000000000000000000000000000000000000000000000000000000000000000000000000000000000
theorem execHeldLowHalfTimeout_still {F : Fld} {I V : Nat} (core : Nat) (s : State) (hw :
    execHeldLowHalfTimeout_writes.testBit F.ctorIdx = false) (h : Still F I V s) :
    StillOut F I V (execHeldLowHalfTimeout core s) := by
  unfold execHeldLowHalfTimeout
  repeat' first
    | with_reducible assumption
    | with_reducible apply StillOut.next
    | intro _
    | with_reducible refine State.flushLow_still _ _ (Wr.sub (by decide) hw) ?_
    | split
    | dsimp only; split

def State.dataUpdate_writes : Nat :=
    0x100220000000000000000000000000000000040000000000000000000000000000000000000000000000000000000000000000000000000000000000000000000000000000000000000000
theorem State.dataUpdate_still {F : Fld} {I V : Nat} (s : State) (n : Nat) (offset : Nat) (words : List Nat) (hw :
    State.dataUpdate_writes.testBit F.ctorIdx = false) (h : Still F I V s) :
    Still F I V (State.dataUpdate s n offset words) := by
  unfold State.dataUpdate
  repeat' first
    | with_reducible assumption
    | intro _
    | with_reducible refine State.modEngine_still _ _ _ ?_
    | with_reducible refine State.engStore_still _ _ _ (Wr.sub (by decide) hw) ?_
    | with_reducible apply Still.ite
    | split
    | (with_reducible apply Still.upd); split

def execEngineDataUpdate_writes : Nat :=
    0x100220000000000000000000000000000000040000000000000000000000000000000000000000000000000000000000000000000000000000000000000000000000000000000000000000
theorem execEngineDataUpdate_still {F : Fld} {I V : Nat} (n : Nat) (offset : Nat) (words : List Nat) (s : State) (hw :
    execEngineDataUpdate_writes.testBit F.ctorIdx = false) (h : Still F I V s) :
    StillOut F I V (execEngineDataUpdate n offset words s) := by
  unfold execEngineDataUpdate
  repeat' first
    | with_reducible assumption
    | with_reducible apply StillOut.next
    | with_reducible apply StillOut.ite
    | intro _
    | with_reducible refine State.dataUpdate_still _ _ _ _ (Wr.sub (by decide) hw) ?_
    | with_reducible apply Still.ite
    | split
    | dsimp only; split

theorem State.retireWrite_still {F : Fld} {I V : Nat} (s : State) (n : Nat) (h : Still F I V s) :
    Still F I V (State.retireWrite s n) := by
  unfold State.retireWrite
  repeat' first
    | with_reducible assumption
    | intro _
    | with_reducible refine State.modEngine_still _ _ _ ?_
    | split
    | (with_reducible apply Still.upd); split

def State.engineAccess_writes : Nat :=
    0x100220000000000000000003000000000000000000000000000000000000000000000000000000000000000000000000000000000000000000000000000000000000000000000000000000
theorem State.engineAccess_still {F : Fld} {I V : Nat} (s : State) (core : Nat) (n : Nat) (addr : Nat) (f : State → State)
    (hw : State.engineAccess_writes.testBit F.ctorIdx = false) (h : Still F I V s) (hf : ∀ t, Still F I V t → Still F I V
    (f t)) :
    Still F I V (State.engineAccess s core n addr f) := by
  unfold State.engineAccess
  repeat' first
    | with_reducible assumption
    | intro _
    | with_reducible refine State.accessBlk_still _ _ _ _ _ (Wr.sub (by decide) hw) ?_ ?_
    | with_reducible refine State.coreFault_still _ _ _ _ ?_
    | with_reducible apply Still.ite
    | with_reducible apply hf
    | split
    | (with_reducible apply Still.upd); split

def execLeRetireWrite_writes : Nat :=
    0x100220000000000000000003000000000000000000000000000000000000000000000000000000000000000000000000000000000000000000000000000000000000000000000000000000
theorem execLeRetireWrite_still {F : Fld} {I V : Nat} (core : Nat) (n : Nat) (s : State) (hw :
    execLeRetireWrite_writes.testBit F.ctorIdx = false) (h : Still F I V s) :
    StillOut F I V (execLeRetireWrite core n s) := by
  unfold execLeRetireWrite
  repeat' first
    | with_reducible assumption
    | with_reducible apply StillOut.next
    | with_reducible apply StillOut.ite
    | intro _
    | with_reducible refine State.engineAccess_still _ _ _ _ _ (Wr.sub (by decide) hw) ?_ ?_
    | with_reducible refine State.retireWrite_still _ _ ?_
    | with_reducible apply Still.ite
    | split
    | dsimp only; split

def State.copyEnds_writes : Nat :=
    0x10022000000000000000000000000000000000000000000000000000000000000000f000000000000000000000000000000000000000000000000000000000000000000000000000000000
theorem State.copyEnds_still {F : Fld} {I V : Nat} (s : State) (w : Wing) (n : Nat) (bad : List Nat) (hw :
    State.copyEnds_writes.testBit F.ctorIdx = false) (h : Still F I V s) :
    Still F I V (State.copyEnds s w n bad) := by
  unfold State.copyEnds
  repeat' first
    | with_reducible assumption
    | intro _
    | with_reducible refine State.setFld_still _ _ _ _ (W := State.copyEnds_writes) ?_ hw ?_
    | decide
    | unfold substCopy; split <;> decide
    | unfold substImg; split <;> decide
    | with_reducible refine State.setEngWord_still _ _ _ _ ?_
    | with_reducible refine State.setCopy_still _ _ _ _ ?_
    | with_reducible refine State.raise_still _ _ _ (Wr.sub (by decide) hw) ?_
    | with_reducible refine State.engEvent_still _ _ _ _ _ _ _ _ (Wr.sub (by decide) hw) ?_
    | with_reducible apply Still.each
    | with_reducible apply Still.ite
    | split
    | (with_reducible apply Still.upd); split

def execSubstituteCopyComplete_writes : Nat :=
    0x10022000000000000000000000000000000000000000000000000000000000000000f000000000000000000000000000000000000000000000000000000000000000000000000000000000
theorem execSubstituteCopyComplete_still {F : Fld} {I V : Nat} (w : Wing) (bad : List Nat) (s : State) (hw :
    execSubstituteCopyComplete_writes.testBit F.ctorIdx = false) (h : Still F I V s) :
    StillOut F I V (execSubstituteCopyComplete w bad s) := by
  unfold execSubstituteCopyComplete
  repeat' first
    | with_reducible assumption
    | with_reducible apply StillOut.next
    | with_reducible apply StillOut.ite
    | intro _
    | unfold substCopy; split <;> decide
    | with_reducible refine State.copyEnds_still _ _ _ _ (Wr.sub (by decide) hw) ?_
    | with_reducible apply Still.ite
    | split
    | dsimp only; split

def State.subgo_writes : Nat := 0x3000000000000000000000000000000000000000000000000000000000000000000000000000000000
theorem State.subgo_still {F : Fld} {I V : Nat} (s : State) (w : Wing) (hw : State.subgo_writes.testBit F.ctorIdx = false)
    (h : Still F I V s) :
    Still F I V (State.subgo s w) := by
  unfold State.subgo
  repeat' first
    | with_reducible assumption
    | intro _
    | with_reducible refine State.setFld_still _ _ _ _ (W := State.subgo_writes) ?_ hw ?_
    | decide
    | unfold substCopy; split <;> decide
    | unfold substMap; split <;> decide
    | with_reducible apply Still.whenIf
    | split
    | (with_reducible apply Still.upd); split

def State.subgoWrite_writes : Nat := 0x3000000000000000000000000000000000000000000000000000000000000000000000000000000000
theorem State.subgoWrite_still {F : Fld} {I V : Nat} (s : State) (goa : Bool) (gob : Bool) (hw :
    State.subgoWrite_writes.testBit F.ctorIdx = false) (h : Still F I V s) :
    Still F I V (State.subgoWrite s goa gob) := by
  unfold State.subgoWrite
  repeat' first
    | with_reducible assumption
    | intro _
    | with_reducible refine State.subgo_still _ _ (Wr.sub (by decide) hw) ?_
    | with_reducible apply Still.whenIf
    | split
    | (with_reducible apply Still.upd); split

def execLeSubgoWrite_writes : Nat :=
    0x100220000000000000000003000000000000000000000000000000000000000000003000000000000000000000000000000000000000000000000000000000000000000000000000000000
theorem execLeSubgoWrite_still {F : Fld} {I V : Nat} (core : Nat) (goa : Bool) (gob : Bool) (s : State) (hw :
    execLeSubgoWrite_writes.testBit F.ctorIdx = false) (h : Still F I V s) :
    StillOut F I V (execLeSubgoWrite core goa gob s) := by
  unfold execLeSubgoWrite
  repeat' first
    | with_reducible assumption
    | with_reducible apply StillOut.next
    | intro _
    | with_reducible refine State.accessBlk_still _ _ _ _ _ (Wr.sub (by decide) hw) ?_ ?_
    | with_reducible refine State.subgoWrite_still _ _ _ (Wr.sub (by decide) hw) ?_
    | split
    | dsimp only; split

def execSubstituteSelfTest_writes : Nat :=
    0x100220000000000000000000000000000000600218000000000000000000000000000c00000000000000000000000000000000000000000000000000000000000000000000000000000000
theorem execSubstituteSelfTest_still {F : Fld} {I V : Nat} (w : Wing) (pass : Bool) (s : State) (hw :
    execSubstituteSelfTest_writes.testBit F.ctorIdx = false) (h : Still F I V s) :
    StillOut F I V (execSubstituteSelfTest w pass s) := by
  unfold execSubstituteSelfTest
  repeat' first
    | with_reducible assumption
    | with_reducible apply StillOut.next
    | with_reducible apply StillOut.ite
    | intro _
    | with_reducible refine State.setFld_still _ _ _ _ (W := execSubstituteSelfTest_writes) ?_ hw ?_
    | decide
    | unfold substMap; split <;> decide
    | unfold substRet; split <;> decide
    | with_reducible refine State.consumeSpare_still _ _ (Wr.sub (by decide) hw) ?_
    | with_reducible refine State.recordRepair_still _ _ _ _ _ (Wr.sub (by decide) hw) ?_
    | with_reducible apply Still.ite
    | split
    | dsimp only; split

def State.substService_writes : Nat :=
    0x100220000000000000000000000000000000000000000000000000000000000000000180000000000000000000000000000000000000000000000000000000000000000000000000000000
theorem State.substService_still {F : Fld} {I V : Nat} (s : State) (w : Wing) (hw : State.substService_writes.testBit
    F.ctorIdx = false) (h : Still F I V s) :
    Still F I V (State.substService s w) := by
  unfold State.substService
  repeat' first
    | with_reducible assumption
    | intro _
    | with_reducible refine State.setFld_still _ _ _ _ (W := State.substService_writes) ?_ hw ?_
    | decide
    | unfold substMap; split <;> decide
    | with_reducible refine State.engEvent_still _ _ _ _ _ _ _ _ (Wr.sub (by decide) hw) ?_
    | with_reducible refine State.setCopy_still _ _ _ _ ?_
    | with_reducible apply Still.ite
    | split
    | (with_reducible apply Still.upd); split

def State.enginesEnd_writes : Nat :=
    0x10181003a000000000000000000300000000000064021800000020000000000080080cc03f80000000006c000210000827c0000000000000000002000908000000000000000000000001000000
theorem State.enginesEnd_still {F : Fld} {I V : Nat} (s : State) (hw : State.enginesEnd_writes.testBit F.ctorIdx = false)
    (h : Still F I V s) :
    Still F I V (State.enginesEnd s) := by
  unfold State.enginesEnd
  repeat' first
    | with_reducible assumption
    | intro _
    | with_reducible refine State.overrun_still _ _ (Wr.sub (by decide) hw) ?_
    | with_reducible refine State.stagingAtBell_still _ (Wr.sub (by decide) hw) ?_
    | with_reducible refine State.modEngine_still _ _ _ ?_
    | with_reducible refine State.retireEngine_still _ _ (Wr.sub (by decide) hw) ?_
    | with_reducible refine State.substService_still _ _ (Wr.sub (by decide) hw) ?_
    | with_reducible apply Still.each
    | with_reducible apply Still.foldl
    | with_reducible apply Still.ite
    | fail_if_no_progress with_reducible apply Still.upd
    | split
    | (with_reducible apply Still.upd); split

theorem State.enginesDue_still {F : Fld} {I V : Nat} (s : State) (ns : List Nat) (h : Still F I V s) :
    Still F I V (State.enginesDue s ns) := by
  unfold State.enginesDue
  repeat' first
    | with_reducible assumption
    | intro _
    | with_reducible refine State.modEngine_still _ _ _ ?_
    | with_reducible apply Still.each
    | split
    | (with_reducible apply Still.upd); split

end Sys2Proof.Machine
end

