-- ==== Sys2Proof/Laws/StillEngineInstr.lean ====
section
/-!
SUPPORT. Which register fields the operations of Machine/EngineInstr.lean can write (Laws/Still.lean), as bits by the field's number, and
that they leave every other as it was.
-/
namespace Sys2Proof.Machine

set_option linter.unusedTactic false
set_option linter.unreachableTactic false

theorem State.setRgBits_still {F : Fld} {I V : Nat} (s : State) (n : Nat) (r : Nat) (v : Nat) (h : Still F I V s) :
    Still F I V (State.setRgBits s n r v) := by
  unfold State.setRgBits
  repeat' first
    | with_reducible assumption
    | intro _
    | with_reducible refine State.modEngine_still _ _ _ ?_
    | with_reducible apply Still.ite
    | split
    | (with_reducible apply Still.upd); split

theorem State.setRg_still {F : Fld} {I V : Nat} (s : State) (n : Nat) (r : Nat) (x : Fp) (h : Still F I V s) :
    Still F I V (State.setRg s n r x) := by
  unfold State.setRg
  repeat' first
    | with_reducible assumption
    | intro _
    | with_reducible refine State.setRgBits_still _ _ _ _ ?_
    | split
    | (with_reducible apply Still.upd); split

theorem State.setRgs_still {F : Fld} {I V : Nat} (s : State) (n : Nat) (r : Nat) (l : List Fp) (h : Still F I V s) :
    Still F I V (State.setRgs s n r l) := by
  unfold State.setRgs
  repeat' first
    | with_reducible assumption
    | intro _
    | with_reducible refine State.setRg_still _ _ _ _ ?_
    | with_reducible apply Still.each
    | split
    | (with_reducible apply Still.upd); split

theorem State.setEngFlag_still {F : Fld} {I V : Nat} (s : State) (n : Nat) (i : Nat) (b : Bool) (h : Still F I V s) :
    Still F I V (State.setEngFlag s n i b) := by
  unfold State.setEngFlag
  repeat' first
    | with_reducible assumption
    | intro _
    | with_reducible refine State.modEngine_still _ _ _ ?_
    | split
    | (with_reducible apply Still.upd); split

theorem State.instr_still {F : Fld} {I V : Nat} (s : State) (n : Nat) (cycles : Nat) (f : State → State) (h : Still F I V
    s) (hf : ∀ t, Still F I V t → Still F I V (f t)) :
    Still F I V (State.instr s n cycles f) := by
  unfold State.instr
  repeat' first
    | with_reducible assumption
    | intro _
    | with_reducible refine State.modEngine_still _ _ _ ?_
    | with_reducible apply Still.whenIf
    | with_reducible apply Still.ite
    | with_reducible apply hf
    | split
    | (with_reducible apply Still.upd); split

def State.readWords_writes : Nat :=
    0x10181003a0000000000000000003000000000000640218000000200000000000800803403f80000000006c000210000827c0000000000000000002000908000000000000000000000001000000
theorem State.readWords_still {F : Fld} {I V : Nat} (s : State) (n : Nat) (i : Nat) (k : Nat) (f : State → State) (hw :
    State.readWords_writes.testBit F.ctorIdx = false) (h : Still F I V s) (hf : ∀ t, Still F I V t → Still F I V (f t)) :
    Still F I V (State.readWords s n i k f) := by
  unfold State.readWords
  repeat' first
    | with_reducible assumption
    | intro _
    | with_reducible refine State.engineFault_still _ _ _ (Wr.sub (by decide) hw) ?_
    | with_reducible refine State.badRead_still _ _ _ _ (Wr.sub (by decide) hw) ?_
    | with_reducible apply hf
    | split
    | (with_reducible apply Still.upd); split

def State.readData_writes : Nat :=
    0x10181003a0000000000000000003000000000000640218000000200000000000800803403f80000000006c000210000827c0000000000000000002000908000000000000000000000001000000
theorem State.readData_still {F : Fld} {I V : Nat} (s : State) (n : Nat) (a : Nat) (k : Nat) (f : State → State) (hw :
    State.readData_writes.testBit F.ctorIdx = false) (h : Still F I V s) (hf : ∀ t, Still F I V t → Still F I V (f t)) :
    Still F I V (State.readData s n a k f) := by
  unfold State.readData
  repeat' first
    | with_reducible assumption
    | intro _
    | with_reducible refine State.readWords_still _ _ _ _ _ (Wr.sub (by decide) hw) ?_ ?_
    | with_reducible apply hf
    | split
    | (with_reducible apply Still.upd); split

theorem State.logStore_still {F : Fld} {I V : Nat} (s : State) (n : Nat) (a : Nat) (v : Nat) (h : Still F I V s) :
    Still F I V (State.logStore s n a v) := by
  unfold State.logStore
  repeat' first
    | with_reducible assumption
    | intro _
    | with_reducible refine State.setEngWord_still _ _ _ _ ?_
    | with_reducible refine State.modEngine_still _ _ _ ?_
    | split
    | (with_reducible apply Still.upd); split

theorem State.store64_still {F : Fld} {I V : Nat} (s : State) (n : Nat) (a : Nat) (x : Fp) (h : Still F I V s) :
    Still F I V (State.store64 s n a x) := by
  unfold State.store64
  repeat' first
    | with_reducible assumption
    | intro _
    | with_reducible refine State.logStore_still _ _ _ _ ?_
    | split
    | (with_reducible apply Still.upd); split

def State.putStates_writes : Nat :=
    0x10181003a0000000000000000003000000000000640218000000200000000000800803403f80000000006c000210000827c0000000000000000002000908000000000000000000000001000000
theorem State.putStates_still {F : Fld} {I V : Nat} (s : State) (n : Nat) (l : List (Nat × Fp)) (f : State → State) (hw :
    State.putStates_writes.testBit F.ctorIdx = false) (h : Still F I V s) (hf : ∀ t, Still F I V t → Still F I V (f t)) :
    Still F I V (State.putStates s n l f) := by
  unfold State.putStates
  repeat' first
    | with_reducible assumption
    | intro _
    | with_reducible refine State.store64_still _ _ _ _ ?_
    | with_reducible refine State.engineFault_still _ _ _ (Wr.sub (by decide) hw) ?_
    | with_reducible apply Still.each
    | with_reducible apply Still.ite
    | with_reducible apply hf
    | split
    | (with_reducible apply Still.upd); split

theorem execNop_still {F : Fld} {I V : Nat} (n : Nat) (s : State) (h : Still F I V s) :
    StillOut F I V (execNop n s) := by
  unfold execNop
  repeat' first
    | with_reducible assumption
    | with_reducible apply StillOut.next
    | unfold id; with_reducible assumption
    | intro _
    | with_reducible refine State.instr_still _ _ _ _ ?_ ?_
    | split
    | dsimp only; split

theorem execLdk_still {F : Fld} {I V : Nat} (n : Nat) (rd : Nat) (imm : Nat) (s : State) (h : Still F I V s) :
    StillOut F I V (execLdk n rd imm s) := by
  unfold execLdk
  repeat' first
    | with_reducible assumption
    | with_reducible apply StillOut.next
    | intro _
    | with_reducible refine State.instr_still _ _ _ _ ?_ ?_
    | with_reducible refine State.setRgBits_still _ _ _ _ ?_
    | split
    | dsimp only; split

def execLd_writes : Nat :=
    0x10181003a0000000000000000003000000000000640218000000200000000000800803403f80000000006c000210000827c0000000000000000002000908000000000000000000000001000000
theorem execLd_still {F : Fld} {I V : Nat} (n : Nat) (rd : Nat) (addr : Nat) (wide : Bool) (s : State) (hw :
    execLd_writes.testBit F.ctorIdx = false) (h : Still F I V s) :
    StillOut F I V (execLd n rd addr wide s) := by
  unfold execLd
  repeat' first
    | with_reducible assumption
    | with_reducible apply StillOut.next
    | with_reducible apply StillOut.ite
    | intro _
    | with_reducible refine State.instr_still _ _ _ _ ?_ ?_
    | with_reducible refine State.readData_still _ _ _ _ _ (Wr.sub (by decide) hw) ?_ ?_
    | with_reducible refine State.setRg_still _ _ _ _ ?_
    | with_reducible refine State.setRgBits_still _ _ _ _ ?_
    | with_reducible apply Still.ite
    | split
    | dsimp only; split

def execSt_writes : Nat :=
    0x10181003a0000000000000000003000000000000640218000000200000000000800803403f80000000006c000210000827c0000000000000000002000908000000000000000000000001000000
theorem execSt_still {F : Fld} {I V : Nat} (n : Nat) (ra : Nat) (addr : Nat) (wide : Bool) (s : State) (hw :
    execSt_writes.testBit F.ctorIdx = false) (h : Still F I V s) :
    StillOut F I V (execSt n ra addr wide s) := by
  unfold execSt
  repeat' first
    | with_reducible assumption
    | with_reducible apply StillOut.next
    | with_reducible apply StillOut.ite
    | intro _
    | with_reducible refine State.instr_still _ _ _ _ ?_ ?_
    | with_reducible refine State.engineFault_still _ _ _ (Wr.sub (by decide) hw) ?_
    | with_reducible refine State.store64_still _ _ _ _ ?_
    | with_reducible refine State.mark_still _ _ _ _ ?_
    | with_reducible refine State.readData_still _ _ _ _ _ (Wr.sub (by decide) hw) ?_ ?_
    | with_reducible refine State.logStore_still _ _ _ _ ?_
    | with_reducible apply Still.ite
    | split
    | dsimp only; split

def execLds_writes : Nat :=
    0x10181003a0000000000000000003000000000000640218000000200000000000800813403f80000000006c000210000827c0000000000000000002000908000000000000000000000001000000
theorem execLds_still {F : Fld} {I V : Nat} (n : Nat) (rd : Nat) (ra : Nat) (mod : Nat) (s : State) (hw :
    execLds_writes.testBit F.ctorIdx = false) (h : Still F I V s) :
    StillOut F I V (execLds n rd ra mod s) := by
  unfold execLds
  repeat' first
    | with_reducible assumption
    | with_reducible apply StillOut.next
    | intro _
    | with_reducible refine State.count_still _ _ _ (W := execLds_writes) ?_ hw ?_
    | decide
    | with_reducible refine State.instr_still _ _ _ _ ?_ ?_
    | with_reducible refine State.readWords_still _ _ _ _ _ (Wr.sub (by decide) hw) ?_ ?_
    | with_reducible refine State.setRgs_still _ _ _ _ ?_
    | with_reducible refine State.setEngFlag_still _ _ _ _ ?_
    | with_reducible apply Still.each
    | split
    | dsimp only; split

theorem execWait_still {F : Fld} {I V : Nat} (n : Nat) (ra : Nat) (rb : Nat) (d : Nat) (s : State) (h : Still F I V s) :
    StillOut F I V (execWait n ra rb d s) := by
  unfold execWait
  repeat' first
    | with_reducible assumption
    | with_reducible apply StillOut.next
    | with_reducible apply StillOut.ite
    | intro _
    | with_reducible refine State.modEngine_still _ _ _ ?_
    | with_reducible refine State.endWait_still _ _ _ ?_
    | with_reducible apply Still.ite
    | split
    | dsimp only; split

theorem execWaitDeadline_still {F : Fld} {I V : Nat} (n : Nat) (s : State) (h : Still F I V s) :
    StillOut F I V (execWaitDeadline n s) := by
  unfold execWaitDeadline
  repeat' first
    | with_reducible assumption
    | with_reducible apply StillOut.next
    | with_reducible apply StillOut.ite
    | intro _
    | with_reducible refine State.endWait_still _ _ _ ?_
    | with_reducible apply Still.ite
    | split
    | dsimp only; split

def execInj_writes : Nat :=
    0x100220000000000000000000000000000000000000000000000000000000000000000000000000000000000000000000000000000000000006000000000000000000000000000000000000
theorem execInj_still {F : Fld} {I V : Nat} (n : Nat) (slot : Nat) (input : Nat) (ext : Nat) (s : State) (hw :
    execInj_writes.testBit F.ctorIdx = false) (h : Still F I V s) :
    StillOut F I V (execInj n slot input ext s) := by
  unfold execInj
  repeat' first
    | with_reducible assumption
    | with_reducible apply StillOut.next
    | with_reducible apply StillOut.ite
    | intro _
    | with_reducible refine State.instr_still _ _ _ _ ?_ ?_
    | with_reducible refine State.inject_still _ _ _ _ (Wr.sub (by decide) hw) ?_
    | with_reducible apply Still.ite
    | split
    | dsimp only; split

def State.stageAll_writes : Nat :=
    0x10181003a0000000000000000003000000000000640218000000200000000000800803403f80000000006c000210000827c0000000000000000002000908000000000000000000000001000000
theorem State.stageAll_still {F : Fld} {I V : Nat} (s : State) (n : Nat) (m : Nat) (w : Nat) (l : List Fp) (v : Nat) (hw :
    State.stageAll_writes.testBit F.ctorIdx = false) (h : Still F I V s) :
    Still F I V (State.stageAll s n m w l v) := by
  unfold State.stageAll
  repeat' first
    | with_reducible assumption
    | intro _
    | with_reducible refine State.stage_still _ _ _ _ _ (Wr.sub (by decide) hw) ?_
    | with_reducible refine State.engineFault_still _ _ _ (Wr.sub (by decide) hw) ?_
    | with_reducible apply Still.ite
    | split
    | (with_reducible apply Still.upd); split

def execStpc_writes : Nat :=
    0x10181003a0000000000000000003000000000000640218000000200000000000800803403f80000000006c000210000827c0000000000000000002000908000000000000000000000001000000
theorem execStpc_still {F : Fld} {I V : Nat} (n : Nat) (m : Nat) (ra : Nat) (rb : Nat) (s : State) (hw :
    execStpc_writes.testBit F.ctorIdx = false) (h : Still F I V s) :
    StillOut F I V (execStpc n m ra rb s) := by
  unfold execStpc
  repeat' first
    | with_reducible assumption
    | with_reducible apply StillOut.next
    | intro _
    | with_reducible refine State.instr_still _ _ _ _ ?_ ?_
    | with_reducible refine State.stageAll_still _ _ _ _ _ _ (Wr.sub (by decide) hw) ?_
    | split
    | dsimp only; split

def execStpd_writes : Nat :=
    0x10181003a0000000000000000003000000000000640218000000200000000000800803403f80000000006c000210000827c0000000000000000002000908000000000000000000000001000000
theorem execStpd_still {F : Fld} {I V : Nat} (n : Nat) (m : Nat) (ra : Nat) (rb : Nat) (s : State) (hw :
    execStpd_writes.testBit F.ctorIdx = false) (h : Still F I V s) :
    StillOut F I V (execStpd n m ra rb s) := by
  unfold execStpd
  repeat' first
    | with_reducible assumption
    | with_reducible apply StillOut.next
    | intro _
    | with_reducible refine State.instr_still _ _ _ _ ?_ ?_
    | with_reducible refine State.stageAll_still _ _ _ _ _ _ (Wr.sub (by decide) hw) ?_
    | split
    | dsimp only; split

def execStpp_writes : Nat :=
    0x10181003a0000000000000000003000000000000640218000000200000000000800803403f80000000006c000210000827c0000000000000000002000908000000000000000000000001000000
theorem execStpp_still {F : Fld} {I V : Nat} (n : Nat) (m : Nat) (ra : Nat) (rb : Nat) (rc : Nat) (s : State) (hw :
    execStpp_writes.testBit F.ctorIdx = false) (h : Still F I V s) :
    StillOut F I V (execStpp n m ra rb rc s) := by
  unfold execStpp
  repeat' first
    | with_reducible assumption
    | with_reducible apply StillOut.next
    | intro _
    | with_reducible refine State.instr_still _ _ _ _ ?_ ?_
    | with_reducible refine State.stageAll_still _ _ _ _ _ _ (Wr.sub (by decide) hw) ?_
    | split
    | dsimp only; split

def execStpe_writes : Nat :=
    0x10181003a0000000000000000003000000000000640218000000200000000000800803403f80000000006c000210000827c0000000000000000002000908000000000000000000000001000000
theorem execStpe_still {F : Fld} {I V : Nat} (n : Nat) (m : Nat) (ra : Nat) (rb : Nat) (s : State) (hw :
    execStpe_writes.testBit F.ctorIdx = false) (h : Still F I V s) :
    StillOut F I V (execStpe n m ra rb s) := by
  unfold execStpe
  repeat' first
    | with_reducible assumption
    | with_reducible apply StillOut.next
    | intro _
    | with_reducible refine State.instr_still _ _ _ _ ?_ ?_
    | with_reducible refine State.stageAll_still _ _ _ _ _ _ (Wr.sub (by decide) hw) ?_
    | split
    | dsimp only; split

theorem execAdd_still {F : Fld} {I V : Nat} (n : Nat) (rd : Nat) (ra : Nat) (rb : Nat) (s : State) (h : Still F I V s) :
    StillOut F I V (execAdd n rd ra rb s) := by
  unfold execAdd
  repeat' first
    | with_reducible assumption
    | with_reducible apply StillOut.next
    | intro _
    | with_reducible refine State.instr_still _ _ _ _ ?_ ?_
    | with_reducible refine State.setRg_still _ _ _ _ ?_
    | split
    | dsimp only; split

theorem execSub_still {F : Fld} {I V : Nat} (n : Nat) (rd : Nat) (ra : Nat) (rb : Nat) (s : State) (h : Still F I V s) :
    StillOut F I V (execSub n rd ra rb s) := by
  unfold execSub
  repeat' first
    | with_reducible assumption
    | with_reducible apply StillOut.next
    | intro _
    | with_reducible refine State.instr_still _ _ _ _ ?_ ?_
    | with_reducible refine State.setRg_still _ _ _ _ ?_
    | split
    | dsimp only; split

theorem execMul_still {F : Fld} {I V : Nat} (n : Nat) (rd : Nat) (ra : Nat) (rb : Nat) (s : State) (h : Still F I V s) :
    StillOut F I V (execMul n rd ra rb s) := by
  unfold execMul
  repeat' first
    | with_reducible assumption
    | with_reducible apply StillOut.next
    | intro _
    | with_reducible refine State.instr_still _ _ _ _ ?_ ?_
    | with_reducible refine State.setRg_still _ _ _ _ ?_
    | split
    | dsimp only; split

theorem execMac_still {F : Fld} {I V : Nat} (n : Nat) (rd : Nat) (ra : Nat) (rb : Nat) (rc : Nat) (s : State) (h : Still F
    I V s) :
    StillOut F I V (execMac n rd ra rb rc s) := by
  unfold execMac
  repeat' first
    | with_reducible assumption
    | with_reducible apply StillOut.next
    | intro _
    | with_reducible refine State.instr_still _ _ _ _ ?_ ?_
    | with_reducible refine State.setRg_still _ _ _ _ ?_
    | split
    | dsimp only; split

theorem execDiv_still {F : Fld} {I V : Nat} (n : Nat) (rd : Nat) (ra : Nat) (rb : Nat) (s : State) (h : Still F I V s) :
    StillOut F I V (execDiv n rd ra rb s) := by
  unfold execDiv
  repeat' first
    | with_reducible assumption
    | with_reducible apply StillOut.next
    | intro _
    | with_reducible refine State.instr_still _ _ _ _ ?_ ?_
    | with_reducible refine State.setRg_still _ _ _ _ ?_
    | split
    | dsimp only; split

theorem execSqrt_still {F : Fld} {I V : Nat} (n : Nat) (rd : Nat) (ra : Nat) (s : State) (h : Still F I V s) :
    StillOut F I V (execSqrt n rd ra s) := by
  unfold execSqrt
  repeat' first
    | with_reducible assumption
    | with_reducible apply StillOut.next
    | intro _
    | with_reducible refine State.instr_still _ _ _ _ ?_ ?_
    | with_reducible refine State.setRg_still _ _ _ _ ?_
    | split
    | dsimp only; split

theorem execAbs_still {F : Fld} {I V : Nat} (n : Nat) (rd : Nat) (ra : Nat) (s : State) (h : Still F I V s) :
    StillOut F I V (execAbs n rd ra s) := by
  unfold execAbs
  repeat' first
    | with_reducible assumption
    | with_reducible apply StillOut.next
    | intro _
    | with_reducible refine State.instr_still _ _ _ _ ?_ ?_
    | with_reducible refine State.setRg_still _ _ _ _ ?_
    | split
    | dsimp only; split

theorem execSincos_still {F : Fld} {I V : Nat} (n : Nat) (rd : Nat) (ra : Nat) (s : State) (h : Still F I V s) :
    StillOut F I V (execSincos n rd ra s) := by
  unfold execSincos
  repeat' first
    | with_reducible assumption
    | with_reducible apply StillOut.next
    | intro _
    | with_reducible refine State.instr_still _ _ _ _ ?_ ?_
    | with_reducible refine State.setRgs_still _ _ _ _ ?_
    | split
    | dsimp only; split

theorem execClarke_still {F : Fld} {I V : Nat} (n : Nat) (rd : Nat) (ra : Nat) (rb : Nat) (rc : Nat) (s : State) (h : Still
    F I V s) :
    StillOut F I V (execClarke n rd ra rb rc s) := by
  unfold execClarke
  repeat' first
    | with_reducible assumption
    | with_reducible apply StillOut.next
    | intro _
    | with_reducible refine State.instr_still _ _ _ _ ?_ ?_
    | with_reducible refine State.setRgs_still _ _ _ _ ?_
    | split
    | dsimp only; split

theorem execPark_still {F : Fld} {I V : Nat} (n : Nat) (rd : Nat) (ra : Nat) (rb : Nat) (rc : Nat) (s : State) (h : Still F
    I V s) :
    StillOut F I V (execPark n rd ra rb rc s) := by
  unfold execPark
  repeat' first
    | with_reducible assumption
    | with_reducible apply StillOut.next
    | intro _
    | with_reducible refine State.instr_still _ _ _ _ ?_ ?_
    | with_reducible refine State.setRgs_still _ _ _ _ ?_
    | split
    | dsimp only; split

theorem execIpark_still {F : Fld} {I V : Nat} (n : Nat) (rd : Nat) (ra : Nat) (rb : Nat) (rc : Nat) (s : State) (h : Still
    F I V s) :
    StillOut F I V (execIpark n rd ra rb rc s) := by
  unfold execIpark
  repeat' first
    | with_reducible assumption
    | with_reducible apply StillOut.next
    | intro _
    | with_reducible refine State.instr_still _ _ _ _ ?_ ?_
    | with_reducible refine State.setRgs_still _ _ _ _ ?_
    | split
    | dsimp only; split

theorem execLim_still {F : Fld} {I V : Nat} (n : Nat) (rd : Nat) (ra : Nat) (rb : Nat) (rc : Nat) (s : State) (h : Still F
    I V s) :
    StillOut F I V (execLim n rd ra rb rc s) := by
  unfold execLim
  repeat' first
    | with_reducible assumption
    | with_reducible apply StillOut.next
    | with_reducible apply StillOut.ite
    | intro _
    | with_reducible refine State.instr_still _ _ _ _ ?_ ?_
    | with_reducible refine State.setEngFlag_still _ _ _ _ ?_
    | with_reducible refine State.setRgBits_still _ _ _ _ ?_
    | with_reducible apply Still.ite
    | split
    | dsimp only; split

theorem execClim_still {F : Fld} {I V : Nat} (n : Nat) (rd : Nat) (ra : Nat) (rb : Nat) (rc : Nat) (mod : Nat) (s : State)
    (h : Still F I V s) :
    StillOut F I V (execClim n rd ra rb rc mod s) := by
  unfold execClim
  repeat' first
    | with_reducible assumption
    | with_reducible apply StillOut.next
    | intro _
    | with_reducible refine State.instr_still _ _ _ _ ?_ ?_
    | with_reducible refine State.setEngFlag_still _ _ _ _ ?_
    | with_reducible refine State.setRgs_still _ _ _ _ ?_
    | split
    | dsimp only; split

theorem execCmpf_still {F : Fld} {I V : Nat} (n : Nat) (flag : Nat) (ra : Nat) (rb : Nat) (cond : Nat) (s : State) (h :
    Still F I V s) :
    StillOut F I V (execCmpf n flag ra rb cond s) := by
  unfold execCmpf
  repeat' first
    | with_reducible assumption
    | with_reducible apply StillOut.next
    | intro _
    | with_reducible refine State.instr_still _ _ _ _ ?_ ?_
    | with_reducible refine State.setEngFlag_still _ _ _ _ ?_
    | split
    | dsimp only; split

def execPi_writes : Nat :=
    0x10181003a0000000000000000003000000000000640218000000200000000000800803403f80000000006c000210000827c0000000000000000002000908000000000000000000000001000000
theorem execPi_still {F : Fld} {I V : Nat} (n : Nat) (rd : Nat) (ra : Nat) (rb : Nat) (addr : Nat) (s : State) (hw :
    execPi_writes.testBit F.ctorIdx = false) (h : Still F I V s) :
    StillOut F I V (execPi n rd ra rb addr s) := by
  unfold execPi
  repeat' first
    | with_reducible assumption
    | with_reducible apply StillOut.next
    | intro _
    | with_reducible refine State.instr_still _ _ _ _ ?_ ?_
    | with_reducible refine State.readData_still _ _ _ _ _ (Wr.sub (by decide) hw) ?_ ?_
    | with_reducible refine State.putStates_still _ _ _ _ (Wr.sub (by decide) hw) ?_ ?_
    | with_reducible refine State.setEngFlag_still _ _ _ _ ?_
    | with_reducible refine State.setRg_still _ _ _ _ ?_
    | split
    | dsimp only; split

def execPr_writes : Nat :=
    0x10181003a0000000000000000003000000000000640218000000200000000000800803403f80000000006c000210000827c0000000000000000002000908000000000000000000000001000000
theorem execPr_still {F : Fld} {I V : Nat} (n : Nat) (rd : Nat) (ra : Nat) (rb : Nat) (addr : Nat) (s : State) (hw :
    execPr_writes.testBit F.ctorIdx = false) (h : Still F I V s) :
    StillOut F I V (execPr n rd ra rb addr s) := by
  unfold execPr
  repeat' first
    | with_reducible assumption
    | with_reducible apply StillOut.next
    | intro _
    | with_reducible refine State.instr_still _ _ _ _ ?_ ?_
    | with_reducible refine State.readData_still _ _ _ _ _ (Wr.sub (by decide) hw) ?_ ?_
    | with_reducible refine State.putStates_still _ _ _ _ (Wr.sub (by decide) hw) ?_ ?_
    | with_reducible refine State.setRg_still _ _ _ _ ?_
    | split
    | dsimp only; split

def execBiq_writes : Nat :=
    0x10181003a0000000000000000003000000000000640218000000200000000000800803403f80000000006c000210000827c0000000000000000002000908000000000000000000000001000000
theorem execBiq_still {F : Fld} {I V : Nat} (n : Nat) (rd : Nat) (ra : Nat) (addr : Nat) (s : State) (hw :
    execBiq_writes.testBit F.ctorIdx = false) (h : Still F I V s) :
    StillOut F I V (execBiq n rd ra addr s) := by
  unfold execBiq
  repeat' first
    | with_reducible assumption
    | with_reducible apply StillOut.next
    | intro _
    | with_reducible refine State.instr_still _ _ _ _ ?_ ?_
    | with_reducible refine State.readData_still _ _ _ _ _ (Wr.sub (by decide) hw) ?_ ?_
    | with_reducible refine State.putStates_still _ _ _ _ (Wr.sub (by decide) hw) ?_ ?_
    | with_reducible refine State.setRg_still _ _ _ _ ?_
    | split
    | dsimp only; split

def execSogi_writes : Nat :=
    0x10181003a0000000000000000003000000000000640218000000200000000000800803403f80000000006c000210000827c0000000000000000002000908000000000000000000000001000000
theorem execSogi_still {F : Fld} {I V : Nat} (n : Nat) (rd : Nat) (ra : Nat) (rb : Nat) (addr : Nat) (s : State) (hw :
    execSogi_writes.testBit F.ctorIdx = false) (h : Still F I V s) :
    StillOut F I V (execSogi n rd ra rb addr s) := by
  unfold execSogi
  repeat' first
    | with_reducible assumption
    | with_reducible apply StillOut.next
    | intro _
    | with_reducible refine State.instr_still _ _ _ _ ?_ ?_
    | with_reducible refine State.readData_still _ _ _ _ _ (Wr.sub (by decide) hw) ?_ ?_
    | with_reducible refine State.putStates_still _ _ _ _ (Wr.sub (by decide) hw) ?_ ?_
    | with_reducible refine State.setRgs_still _ _ _ _ ?_
    | split
    | dsimp only; split

def execDdsrf_writes : Nat :=
    0x10181003a0000000000000000003000000000000640218000000200000000000800803403f80000000006c000210000827c0000000000000000002000908000000000000000000000001000000
theorem execDdsrf_still {F : Fld} {I V : Nat} (n : Nat) (rd : Nat) (ra : Nat) (rb : Nat) (rc : Nat) (addr : Nat) (s :
    State) (hw : execDdsrf_writes.testBit F.ctorIdx = false) (h : Still F I V s) :
    StillOut F I V (execDdsrf n rd ra rb rc addr s) := by
  unfold execDdsrf
  repeat' first
    | with_reducible assumption
    | with_reducible apply StillOut.next
    | intro _
    | with_reducible refine State.instr_still _ _ _ _ ?_ ?_
    | with_reducible refine State.readData_still _ _ _ _ _ (Wr.sub (by decide) hw) ?_ ?_
    | with_reducible refine State.putStates_still _ _ _ _ (Wr.sub (by decide) hw) ?_ ?_
    | with_reducible refine State.setRgs_still _ _ _ _ ?_
    | split
    | dsimp only; split

def execPll_writes : Nat :=
    0x10181003a0000000000000000003000000000000640218000000200000000000800803403f80000000006c000210000827c0000000000000000002000908000000000000000000000001000000
theorem execPll_still {F : Fld} {I V : Nat} (n : Nat) (rd : Nat) (ra : Nat) (addr : Nat) (s : State) (hw :
    execPll_writes.testBit F.ctorIdx = false) (h : Still F I V s) :
    StillOut F I V (execPll n rd ra addr s) := by
  unfold execPll
  repeat' first
    | with_reducible assumption
    | with_reducible apply StillOut.next
    | intro _
    | with_reducible refine State.instr_still _ _ _ _ ?_ ?_
    | with_reducible refine State.readData_still _ _ _ _ _ (Wr.sub (by decide) hw) ?_ ?_
    | with_reducible refine State.putStates_still _ _ _ _ (Wr.sub (by decide) hw) ?_ ?_
    | with_reducible refine State.setEngFlag_still _ _ _ _ ?_
    | with_reducible refine State.setRgs_still _ _ _ _ ?_
    | split
    | dsimp only; split

def execRlim_writes : Nat :=
    0x10181003a0000000000000000003000000000000640218000000200000000000800803403f80000000006c000210000827c0000000000000000002000908000000000000000000000001000000
theorem execRlim_still {F : Fld} {I V : Nat} (n : Nat) (rd : Nat) (ra : Nat) (addr : Nat) (s : State) (hw :
    execRlim_writes.testBit F.ctorIdx = false) (h : Still F I V s) :
    StillOut F I V (execRlim n rd ra addr s) := by
  unfold execRlim
  repeat' first
    | with_reducible assumption
    | with_reducible apply StillOut.next
    | intro _
    | with_reducible refine State.instr_still _ _ _ _ ?_ ?_
    | with_reducible refine State.readData_still _ _ _ _ _ (Wr.sub (by decide) hw) ?_ ?_
    | with_reducible refine State.putStates_still _ _ _ _ (Wr.sub (by decide) hw) ?_ ?_
    | with_reducible refine State.setEngFlag_still _ _ _ _ ?_
    | with_reducible refine State.setRg_still _ _ _ _ ?_
    | split
    | dsimp only; split

def execLut_writes : Nat :=
    0x10181003a0000000000000000003000000000000640218000000200000000000800803403f80000000006c000210000827c0000000000000000002000908000000000000000000000001000000
theorem execLut_still {F : Fld} {I V : Nat} (n : Nat) (rd : Nat) (ra : Nat) (addr : Nat) (s : State) (hw :
    execLut_writes.testBit F.ctorIdx = false) (h : Still F I V s) :
    StillOut F I V (execLut n rd ra addr s) := by
  unfold execLut
  repeat' first
    | with_reducible assumption
    | with_reducible apply StillOut.next
    | with_reducible apply StillOut.ite
    | intro _
    | with_reducible refine State.instr_still _ _ _ _ ?_ ?_
    | with_reducible refine State.readData_still _ _ _ _ _ (Wr.sub (by decide) hw) ?_ ?_
    | with_reducible refine State.engineFault_still _ _ _ (Wr.sub (by decide) hw) ?_
    | with_reducible refine State.setRg_still _ _ _ _ ?_
    | with_reducible apply Still.ite
    | split
    | dsimp only; split

def execProf_writes : Nat :=
    0x10181003a0000000000000000003000000000000640218000000200000000000800803403f80000000006c000210000827c0000000000000000002000908000000000000000000000001000000
theorem execProf_still {F : Fld} {I V : Nat} (n : Nat) (rd : Nat) (ra : Nat) (addr : Nat) (s : State) (hw :
    execProf_writes.testBit F.ctorIdx = false) (h : Still F I V s) :
    StillOut F I V (execProf n rd ra addr s) := by
  unfold execProf
  repeat' first
    | with_reducible assumption
    | with_reducible apply StillOut.next
    | with_reducible apply StillOut.ite
    | intro _
    | with_reducible refine State.instr_still _ _ _ _ ?_ ?_
    | with_reducible refine State.readData_still _ _ _ _ _ (Wr.sub (by decide) hw) ?_ ?_
    | with_reducible refine State.putStates_still _ _ _ _ (Wr.sub (by decide) hw) ?_ ?_
    | with_reducible refine State.setRgs_still _ _ _ _ ?_
    | with_reducible apply Still.ite
    | split
    | dsimp only; split

def execRamp_writes : Nat :=
    0x10181003a0000000000000000003000000000000640218000000200000000000800803403f80000000006c000210000827c0000000000000000002000908000000000000000000000001000000
theorem execRamp_still {F : Fld} {I V : Nat} (n : Nat) (rd : Nat) (ra : Nat) (rb : Nat) (addr : Nat) (s : State) (hw :
    execRamp_writes.testBit F.ctorIdx = false) (h : Still F I V s) :
    StillOut F I V (execRamp n rd ra rb addr s) := by
  unfold execRamp
  repeat' first
    | with_reducible assumption
    | with_reducible apply StillOut.next
    | with_reducible apply StillOut.ite
    | intro _
    | with_reducible refine State.instr_still _ _ _ _ ?_ ?_
    | with_reducible refine State.readData_still _ _ _ _ _ (Wr.sub (by decide) hw) ?_ ?_
    | with_reducible refine State.putStates_still _ _ _ _ (Wr.sub (by decide) hw) ?_ ?_
    | with_reducible refine State.logStore_still _ _ _ _ ?_
    | with_reducible refine State.setEngFlag_still _ _ _ _ ?_
    | with_reducible refine State.setRg_still _ _ _ _ ?_
    | with_reducible apply Still.whenIf
    | with_reducible apply Still.ite
    | split
    | dsimp only; split

def execFerr_writes : Nat :=
    0x10181003a0000000000000000003000000000000640218000000200000000000800803403f80000000006c000210000827c0000000000000000002000908000000000000000000000001000000
theorem execFerr_still {F : Fld} {I V : Nat} (n : Nat) (ra : Nat) (rb : Nat) (addr : Nat) (s : State) (hw :
    execFerr_writes.testBit F.ctorIdx = false) (h : Still F I V s) :
    StillOut F I V (execFerr n ra rb addr s) := by
  unfold execFerr
  repeat' first
    | with_reducible assumption
    | with_reducible apply StillOut.next
    | with_reducible apply StillOut.ite
    | intro _
    | with_reducible refine State.instr_still _ _ _ _ ?_ ?_
    | with_reducible refine State.readData_still _ _ _ _ _ (Wr.sub (by decide) hw) ?_ ?_
    | with_reducible refine State.logStore_still _ _ _ _ ?_
    | with_reducible refine State.modEngine_still _ _ _ ?_
    | with_reducible refine State.setEngFlag_still _ _ _ _ ?_
    | with_reducible apply Still.whenIf
    | with_reducible apply Still.ite
    | split
    | dsimp only; split

def execPreset_writes : Nat :=
    0x10181003a0000000000000000003000000000000640218000000200000000000800803403f80000000006c000210000827c0000000000000000002000908000000000000000000000001000000
theorem execPreset_still {F : Fld} {I V : Nat} (n : Nat) (ra : Nat) (rb : Nat) (rc : Nat) (addr : Nat) (s : State) (hw :
    execPreset_writes.testBit F.ctorIdx = false) (h : Still F I V s) :
    StillOut F I V (execPreset n ra rb rc addr s) := by
  unfold execPreset
  repeat' first
    | with_reducible assumption
    | with_reducible apply StillOut.next
    | unfold id; with_reducible assumption
    | intro _
    | with_reducible refine State.instr_still _ _ _ _ ?_ ?_
    | with_reducible refine State.readData_still _ _ _ _ _ (Wr.sub (by decide) hw) ?_ ?_
    | with_reducible refine State.putStates_still _ _ _ _ (Wr.sub (by decide) hw) ?_ ?_
    | split
    | dsimp only; split

theorem execSkip_still {F : Fld} {I V : Nat} (n : Nat) (flag : Nat) (eq : Bool) (count : Nat) (s : State) (h : Still F I V
    s) :
    StillOut F I V (execSkip n flag eq count s) := by
  unfold execSkip
  repeat' first
    | with_reducible assumption
    | with_reducible apply StillOut.next
    | intro _
    | with_reducible refine State.instr_still _ _ _ _ ?_ ?_
    | with_reducible refine State.modEngine_still _ _ _ ?_
    | with_reducible apply Still.whenIf
    | split
    | dsimp only; split

theorem execEvry_still {F : Fld} {I V : Nat} (n : Nat) (flag : Nat) (every : Nat) (phase : Nat) (s : State) (h : Still F I
    V s) :
    StillOut F I V (execEvry n flag every phase s) := by
  unfold execEvry
  repeat' first
    | with_reducible assumption
    | with_reducible apply StillOut.next
    | intro _
    | with_reducible refine State.instr_still _ _ _ _ ?_ ?_
    | with_reducible refine State.setEngFlag_still _ _ _ _ ?_
    | split
    | dsimp only; split

theorem execEvt_still {F : Fld} {I V : Nat} (n : Nat) (ra : Nat) (code : Nat) (fault : Bool) (s : State) (h : Still F I V s) :
    StillOut F I V (execEvt n ra code fault s) := by
  unfold execEvt
  repeat' first
    | with_reducible assumption
    | with_reducible apply StillOut.next
    | with_reducible apply StillOut.ite
    | intro _
    | with_reducible refine State.instr_still _ _ _ _ ?_ ?_
    | with_reducible refine State.modEngine_still _ _ _ ?_
    | with_reducible apply Still.ite
    | split
    | dsimp only; split

end Sys2Proof.Machine
end

