-- ==== Sys2Proof/Laws/StillStandby.lean ====
section
/-!
SUPPORT. Which register fields the operations of Machine/Standby.lean can write (Laws/Still.lean), as bits by the field's number, and
that they leave every other as it was.
-/
namespace Sys2Proof.Machine

set_option linter.unusedTactic false
set_option linter.unreachableTactic false

theorem State.standbyTakesSets_still {F : Fld} {I V : Nat} (s : State) (h : Still F I V s) :
    Still F I V (State.standbyTakesSets s) := by
  unfold State.standbyTakesSets
  repeat' first
    | with_reducible assumption
    | intro _
    | with_reducible refine State.modGroup_still _ _ _ ?_
    | with_reducible apply Still.each
    | split
    | (with_reducible apply Still.upd); split

theorem State.standbyLeft_still {F : Fld} {I V : Nat} (s : State) (g : Nat) (old : SMap) (h : Still F I V s) :
    Still F I V (State.standbyLeft s g old) := by
  unfold State.standbyLeft
  repeat' first
    | with_reducible assumption
    | intro _
    | with_reducible refine State.modGroup_still _ _ _ ?_
    | with_reducible apply Still.foldl
    | with_reducible apply Still.ite
    | split
    | (with_reducible apply Still.upd); split

theorem State.standbySwap_still {F : Fld} {I V : Nat} (s : State) (h : Still F I V s) :
    Still F I V (State.standbySwap s) := by
  unfold State.standbySwap
  repeat' first
    | with_reducible assumption
    | intro _
    | with_reducible refine State.setVar_still _ _ _ _ ?_
    | with_reducible refine State.modGroup_still _ _ _ ?_
    | with_reducible refine State.requestApply_still _ _ _ _ ?_
    | with_reducible apply Still.each
    | with_reducible apply Still.ite
    | split
    | (with_reducible apply Still.upd); split

end Sys2Proof.Machine
end

