-- ==== Sys2Proof/Laws/StillDuplex.lean ====
section
/-!
SUPPORT. Which register fields the operations of Machine/Duplex.lean can write (Laws/Still.lean), as bits by the field's number, and
that they leave every other as it was.
-/
namespace Sys2Proof.Machine

set_option linter.unusedTactic false
set_option linter.unreachableTactic false

def State.setLease_writes : Nat :=
    0x6000000000000000000000000000000000000000000000000000000000000000000000000000000000000000000000000000000
theorem State.setLease_still {F : Fld} {I V : Nat} (s : State) (w : Wing) (v : Nat) (hw : State.setLease_writes.testBit
    F.ctorIdx = false) (h : Still F I V s) :
    Still F I V (State.setLease s w v) := by
  unfold State.setLease
  repeat' first
    | with_reducible assumption
    | intro _
    | with_reducible refine State.setFld_still _ _ _ _ (W := State.setLease_writes) ?_ hw ?_
    | decide
    | fail_if_no_progress with_reducible apply Still.upd
    | split
    | (with_reducible apply Still.upd); split

def State.setPass_writes : Nat :=
    0x10000000000000000000000000000000000000000000000000000000000000000000000000000000000000000000000000000
theorem State.setPass_still {F : Fld} {I V : Nat} (s : State) (w : Wing) (on : Bool) (hw : State.setPass_writes.testBit
    F.ctorIdx = false) (h : Still F I V s) :
    Still F I V (State.setPass s w on) := by
  unfold State.setPass
  repeat' first
    | with_reducible assumption
    | intro _
    | with_reducible refine State.setBit_still _ _ _ _ _ (W := State.setPass_writes) ?_ hw ?_
    | decide
    | split
    | (with_reducible apply Still.upd); split

def State.grant_writes : Nat :=
    0x6010000000000000000000000000000000000000000000000000000000000000000000000000000000000000000000000000000
theorem State.grant_still {F : Fld} {I V : Nat} (s : State) (w : Wing) (hw : State.grant_writes.testBit F.ctorIdx = false)
    (h : Still F I V s) :
    Still F I V (State.grant s w) := by
  unfold State.grant
  repeat' first
    | with_reducible assumption
    | intro _
    | with_reducible refine State.setLease_still _ _ _ (Wr.sub (by decide) hw) ?_
    | with_reducible refine State.setPass_still _ _ _ (Wr.sub (by decide) hw) ?_
    | split
    | (with_reducible apply Still.upd); split

theorem State.setRc_still {F : Fld} {I V : Nat} (s : State) (n : Nat) (h : Still F I V s) :
    Still F I V (State.setRc s n) := by
  unfold State.setRc
  repeat' first
    | with_reducible assumption
    | intro _
    | fail_if_no_progress with_reducible apply Still.upd
    | split
    | (with_reducible apply Still.upd); split

theorem State.setAcquired_still {F : Fld} {I V : Nat} (s : State) (b : Bool) (h : Still F I V s) :
    Still F I V (State.setAcquired s b) := by
  unfold State.setAcquired
  repeat' first
    | with_reducible assumption
    | intro _
    | fail_if_no_progress with_reducible apply Still.upd
    | split
    | (with_reducible apply Still.upd); split

def State.leaseTick_writes : Nat :=
    0x6000000000000000000000000000000000000000000000000000000000000000000000000000000000000000000000000000000
theorem State.leaseTick_still {F : Fld} {I V : Nat} (s : State) (hw : State.leaseTick_writes.testBit F.ctorIdx = false) (h
    : Still F I V s) :
    Still F I V (State.leaseTick s) := by
  unfold State.leaseTick
  repeat' first
    | with_reducible assumption
    | intro _
    | with_reducible refine State.setRc_still _ _ ?_
    | with_reducible refine State.setAcquired_still _ _ ?_
    | with_reducible refine State.setLease_still _ _ _ (Wr.sub (by decide) hw) ?_
    | with_reducible apply Still.each
    | with_reducible apply Still.ite
    | split
    | (with_reducible apply Still.upd); split

def State.renew_writes : Nat :=
    0x4006000000000000000000000000000000000000000000000000000000000000000000000000000000000000000000000000000000
theorem State.renew_still {F : Fld} {I V : Nat} (s : State) (w : Wing) (hw : State.renew_writes.testBit F.ctorIdx = false)
    (h : Still F I V s) :
    Still F I V (State.renew s w) := by
  unfold State.renew
  repeat' first
    | with_reducible assumption
    | intro _
    | with_reducible refine State.count_still _ _ _ (W := State.renew_writes) ?_ hw ?_
    | decide
    | with_reducible refine State.setLease_still _ _ _ (Wr.sub (by decide) hw) ?_
    | with_reducible apply Still.ite
    | split
    | (with_reducible apply Still.upd); split

def execLeaseRenew_writes : Nat :=
    0x100220000000000000000003000000000000000000004006000000000000000000000000000000000000000000000000000000000000000000000000000000000000000000000000000000
theorem execLeaseRenew_still {F : Fld} {I V : Nat} (core : Nat) (s : State) (hw : execLeaseRenew_writes.testBit F.ctorIdx =
    false) (h : Still F I V s) :
    StillOut F I V (execLeaseRenew core s) := by
  unfold execLeaseRenew
  repeat' first
    | with_reducible assumption
    | with_reducible apply StillOut.next
    | intro _
    | with_reducible refine State.accessBlk_still _ _ _ _ _ (Wr.sub (by decide) hw) ?_ ?_
    | with_reducible refine State.renew_still _ _ (Wr.sub (by decide) hw) ?_
    | split
    | dsimp only; split

theorem State.enterTakeover_still {F : Fld} {I V : Nat} (s : State) (c : Nat) (h : Still F I V s) :
    Still F I V (State.enterTakeover s c) := by
  unfold State.enterTakeover
  repeat' first
    | with_reducible assumption
    | intro _
    | with_reducible refine State.fresh_still _ _ ?_
    | (with_reducible refine Still.snd ?_ (by assumption)); with_reducible refine State.fresh_still _ _ ?_
    | with_reducible apply Still.ite
    | fail_if_no_progress with_reducible apply Still.upd
    | split
    | (with_reducible apply Still.upd); split

theorem State.takeoverEntry_still {F : Fld} {I V : Nat} (s : State) (w : Wing) (h : Still F I V s) :
    Still F I V (State.takeoverEntry s w) := by
  unfold State.takeoverEntry
  repeat' first
    | with_reducible assumption
    | intro _
    | with_reducible refine State.enterTakeover_still _ _ ?_
    | with_reducible apply Still.each
    | with_reducible apply Still.ite
    | fail_if_no_progress with_reducible apply Still.upd
    | split
    | (with_reducible apply Still.upd); split

def State.wingLocked_writes : Nat :=
    0x60000000000000000000000000000000000000000000000000000000000000000000000000000000000000000000000000000
theorem State.wingLocked_still {F : Fld} {I V : Nat} (s : State) (w : Wing) (hw : State.wingLocked_writes.testBit F.ctorIdx
    = false) (h : Still F I V s) :
    Still F I V (State.wingLocked s w) := by
  unfold State.wingLocked
  repeat' first
    | with_reducible assumption
    | intro _
    | with_reducible refine State.standbyTakesSets_still _ ?_
    | with_reducible refine State.setWing_still _ _ _ (Wr.sub (by decide) hw) ?_
    | with_reducible refine State.takeoverEntry_still _ _ ?_
    | with_reducible apply Still.whenIf
    | with_reducible apply Still.ite
    | fail_if_no_progress with_reducible apply Still.upd
    | split
    | (with_reducible apply Still.upd); split

def State.passLost_writes : Nat :=
    0x10181003e0800000000002000003000000000000040000001006470000000000800000400000000000000400001000000480000000000000000002000908000000000000000000000001000000
theorem State.passLost_still {F : Fld} {I V : Nat} (s : State) (w : Wing) (released : Bool) (hw :
    State.passLost_writes.testBit F.ctorIdx = false) (h : Still F I V s) :
    Still F I V (State.passLost s w released) := by
  unfold State.passLost
  repeat' first
    | with_reducible assumption
    | intro _
    | with_reducible refine State.setFld_still _ _ _ _ (W := State.passLost_writes) ?_ hw ?_
    | with_reducible refine State.count_still _ _ _ (W := State.passLost_writes) ?_ hw ?_
    | decide
    | with_reducible refine State.setLease_still _ _ _ (Wr.sub (by decide) hw) ?_
    | with_reducible refine State.setPass_still _ _ _ (Wr.sub (by decide) hw) ?_
    | with_reducible refine State.clearOuten_still _ _ (Wr.sub (by decide) hw) ?_
    | with_reducible refine State.abandonWing_still _ _ (Wr.sub (by decide) hw) ?_
    | with_reducible refine State.raise_still _ _ _ (Wr.sub (by decide) hw) ?_
    | with_reducible refine State.setWing_still _ _ _ (Wr.sub (by decide) hw) ?_
    | with_reducible refine State.dupEvent_still _ _ _ _ _ _ _ _ (Wr.sub (by decide) hw) ?_
    | with_reducible refine State.advanceEpoch_still _ _ _ (Wr.sub (by decide) hw) ?_
    | with_reducible refine State.standbySwap_still _ ?_
    | with_reducible refine State.grant_still _ _ (Wr.sub (by decide) hw) ?_
    | with_reducible refine State.takeoverEntry_still _ _ ?_
    | with_reducible refine State.setWindow_still _ _ _ ?_
    | with_reducible apply Still.whenIf
    | with_reducible apply Still.each
    | with_reducible apply Still.foldl
    | with_reducible apply Still.ite
    | fail_if_no_progress with_reducible apply Still.upd
    | split
    | (with_reducible apply Still.upd); split

def execLeaseExpiry_writes : Nat :=
    0x10181003e0800000000002000003000000000000040000001006470000000000800000400000000000000400001000000480000000000000000002000908000000000000000000000001000000
theorem execLeaseExpiry_still {F : Fld} {I V : Nat} (w : Wing) (s : State) (hw : execLeaseExpiry_writes.testBit F.ctorIdx =
    false) (h : Still F I V s) :
    StillOut F I V (execLeaseExpiry w s) := by
  unfold execLeaseExpiry
  repeat' first
    | with_reducible assumption
    | with_reducible apply StillOut.next
    | intro _
    | with_reducible refine State.passLost_still _ _ _ (Wr.sub (by decide) hw) ?_
    | split
    | dsimp only; split

def State.retireVoter_writes : Nat :=
    0x100220000000000000000000000000000000600218000000800000000000000000000000000000000000000000000000000000000000000000000000000000000000000000000000000000
theorem State.retireVoter_still {F : Fld} {I V : Nat} (s : State) (voter : Nat) (w : Wing) (hw :
    State.retireVoter_writes.testBit F.ctorIdx = false) (h : Still F I V s) :
    Still F I V (State.retireVoter s voter w) := by
  unfold State.retireVoter
  repeat' first
    | with_reducible assumption
    | intro _
    | with_reducible refine State.setFld_still _ _ _ _ (W := State.retireVoter_writes) ?_ hw ?_
    | decide
    | with_reducible refine State.consumeSpare_still _ _ (Wr.sub (by decide) hw) ?_
    | with_reducible refine State.recordRepair_still _ _ _ _ _ (Wr.sub (by decide) hw) ?_
    | with_reducible refine State.dupEvent_still _ _ _ _ _ _ _ _ (Wr.sub (by decide) hw) ?_
    | fail_if_no_progress with_reducible apply Still.upd
    | split
    | (with_reducible apply Still.upd); split

def execVoterDisagreement_writes : Nat :=
    0x10181003e0800000000002000003000000000000640218001006c70000000000800000400000000000000400001000000480000000000000000002000908000000000000000000000001000000
theorem execVoterDisagreement_still {F : Fld} {I V : Nat} (voter : Nat) (w : Wing) (s : State) (hw :
    execVoterDisagreement_writes.testBit F.ctorIdx = false) (h : Still F I V s) :
    StillOut F I V (execVoterDisagreement voter w s) := by
  unfold execVoterDisagreement
  repeat' first
    | with_reducible assumption
    | with_reducible apply StillOut.next
    | with_reducible apply StillOut.ite
    | intro _
    | with_reducible refine State.passLost_still _ _ _ (Wr.sub (by decide) hw) ?_
    | with_reducible refine State.retireVoter_still _ _ _ (Wr.sub (by decide) hw) ?_
    | with_reducible apply Still.whenIf
    | with_reducible apply Still.ite
    | fail_if_no_progress with_reducible apply Still.upd
    | split
    | dsimp only; split

def State.cmdDiscarded_writes : Nat :=
    0x100220000000000000000000000000000000000000000000000000000000000000000000000000000000000000000000000000000000000000000000000000000000000000000000000000
theorem State.cmdDiscarded_still {F : Fld} {I V : Nat} (s : State) (w : Wing) (cmd : Nat) (hw :
    State.cmdDiscarded_writes.testBit F.ctorIdx = false) (h : Still F I V s) :
    Still F I V (State.cmdDiscarded s w cmd) := by
  unfold State.cmdDiscarded
  repeat' first
    | with_reducible assumption
    | intro _
    | with_reducible refine State.dupEvent_still _ _ _ _ _ _ _ _ (Wr.sub (by decide) hw) ?_
    | split
    | (with_reducible apply Still.upd); split

def State.hpCmd_writes : Nat :=
    0x100220000000000000000003000000000000000000000000000000000000000000000000000000000000000000000000000000000000000000000000000000000000000000000000000000
theorem State.hpCmd_still {F : Fld} {I V : Nat} (s : State) (core : Nat) (f : State → Wing → State) (hw :
    State.hpCmd_writes.testBit F.ctorIdx = false) (h : Still F I V s) (hf : ∀ t, Still F I V t → ∀ x1, Still F I V (f t x1)) :
    Still F I V (State.hpCmd s core f) := by
  unfold State.hpCmd
  repeat' first
    | with_reducible assumption
    | intro _
    | with_reducible refine State.accessBlk_still _ _ _ _ _ (Wr.sub (by decide) hw) ?_ ?_
    | with_reducible apply hf
    | split
    | (with_reducible apply Still.upd); split

def State.stopPll_writes : Nat := 0xc0000000000000000000000
theorem State.stopPll_still {F : Fld} {I V : Nat} (s : State) (x1 : Wing) (hw : State.stopPll_writes.testBit F.ctorIdx =
    false) (h : Still F I V s) :
    Still F I V (State.stopPll s x1) := by
  unfold State.stopPll
  repeat' first
    | with_reducible assumption
    | intro _
    | with_reducible refine State.setFld_still _ _ _ _ (W := State.stopPll_writes) ?_ hw ?_
    | decide
    | split
    | (with_reducible apply Still.upd); split

theorem State.setBistFails_still {F : Fld} {I V : Nat} (s : State) (w : Wing) (n : Nat) (h : Still F I V s) :
    Still F I V (State.setBistFails s w n) := by
  unfold State.setBistFails
  repeat' first
    | with_reducible assumption
    | intro _
    | fail_if_no_progress with_reducible apply Still.upd
    | split
    | (with_reducible apply Still.upd); split

def State.bistResult_writes : Nat :=
    0x1002200000000000000000000000000000006000100f0000060000000000000000000000000000000000000000000000000000000000000000000000000000000000000000000000000000
theorem State.bistResult_still {F : Fld} {I V : Nat} (s : State) (w : Wing) (pass : Bool) (hw :
    State.bistResult_writes.testBit F.ctorIdx = false) (h : Still F I V s) :
    Still F I V (State.bistResult s w pass) := by
  unfold State.bistResult
  repeat' first
    | with_reducible assumption
    | intro _
    | with_reducible refine State.setFlag_still _ _ _ _ (W := State.bistResult_writes) ?_ hw ?_
    | with_reducible refine State.count_still _ _ _ (W := State.bistResult_writes) ?_ hw ?_
    | decide
    | with_reducible refine State.setBistFails_still _ _ _ ?_
    | with_reducible refine State.dupEvent_still _ _ _ _ _ _ _ _ (Wr.sub (by decide) hw) ?_
    | with_reducible refine State.standbyReserve_still _ _ (Wr.sub (by decide) hw) ?_
    | with_reducible refine State.setWing_still _ _ _ (Wr.sub (by decide) hw) ?_
    | with_reducible apply Still.ite
    | split
    | (with_reducible apply Still.upd); split

def State.standbyCmd_writes : Nat :=
    0x1002200000000000000000000000000000006000100f00000600000000000000000000000000000000000000000000000000000000000000000000000000000c0000000000000000000000
theorem State.standbyCmd_still {F : Fld} {I V : Nat} (s : State) (w : Wing) (pass : Bool) (hw :
    State.standbyCmd_writes.testBit F.ctorIdx = false) (h : Still F I V s) :
    Still F I V (State.standbyCmd s w pass) := by
  unfold State.standbyCmd
  repeat' first
    | with_reducible assumption
    | intro _
    | with_reducible refine State.bistResult_still _ _ _ (Wr.sub (by decide) hw) ?_
    | with_reducible refine State.standbyReserve_still _ _ (Wr.sub (by decide) hw) ?_
    | with_reducible refine State.stopPll_still _ _ (Wr.sub (by decide) hw) ?_
    | with_reducible refine State.setWing_still _ _ _ (Wr.sub (by decide) hw) ?_
    | with_reducible refine State.cmdDiscarded_still _ _ _ (Wr.sub (by decide) hw) ?_
    | with_reducible apply Still.ite
    | split
    | (with_reducible apply Still.upd); split

def execStandby_writes : Nat :=
    0x1002200000000000000000030000000000006000100f00000600000000000000000000000000000000000000000000000000000000000000000000000000000c0000000000000000000000
theorem execStandby_still {F : Fld} {I V : Nat} (core : Nat) (pass : Bool) (s : State) (hw : execStandby_writes.testBit
    F.ctorIdx = false) (h : Still F I V s) :
    StillOut F I V (execStandby core pass s) := by
  unfold execStandby
  repeat' first
    | with_reducible assumption
    | with_reducible apply StillOut.next
    | intro _
    | with_reducible refine State.hpCmd_still _ _ _ (Wr.sub (by decide) hw) ?_ ?_
    | with_reducible refine State.standbyCmd_still _ _ _ (Wr.sub (by decide) hw) ?_
    | split
    | dsimp only; split

def State.wakeWing_writes : Nat :=
    0x60000000000000000000000000000000000000000000000000000000000000000000000000000000000000000000000000000
theorem State.wakeWing_still {F : Fld} {I V : Nat} (s : State) (w : Wing) (hw : State.wakeWing_writes.testBit F.ctorIdx =
    false) (h : Still F I V s) :
    Still F I V (State.wakeWing s w) := by
  unfold State.wakeWing
  repeat' first
    | with_reducible assumption
    | intro _
    | with_reducible refine State.standbyTakesSets_still _ ?_
    | with_reducible refine State.setWing_still _ _ _ (Wr.sub (by decide) hw) ?_
    | with_reducible apply Still.ite
    | fail_if_no_progress with_reducible apply Still.upd
    | split
    | (with_reducible apply Still.upd); split

def State.wakeCmd_writes : Nat :=
    0x100220000000000000000000000000000000000000000000060000000000000000000000000000000000000000000000000000000000000000000000000000000000000000000000000000
theorem State.wakeCmd_still {F : Fld} {I V : Nat} (s : State) (w : Wing) (hw : State.wakeCmd_writes.testBit F.ctorIdx =
    false) (h : Still F I V s) :
    Still F I V (State.wakeCmd s w) := by
  unfold State.wakeCmd
  repeat' first
    | with_reducible assumption
    | intro _
    | with_reducible refine State.wakeWing_still _ _ (Wr.sub (by decide) hw) ?_
    | with_reducible refine State.cmdDiscarded_still _ _ _ (Wr.sub (by decide) hw) ?_
    | with_reducible apply Still.ite
    | split
    | (with_reducible apply Still.upd); split

def execWake_writes : Nat :=
    0x100220000000000000000003000000000000000000000000060000000000000000000000000000000000000000000000000000000000000000000000000000000000000000000000000000
theorem execWake_still {F : Fld} {I V : Nat} (core : Nat) (s : State) (hw : execWake_writes.testBit F.ctorIdx = false) (h :
    Still F I V s) :
    StillOut F I V (execWake core s) := by
  unfold execWake
  repeat' first
    | with_reducible assumption
    | with_reducible apply StillOut.next
    | intro _
    | with_reducible refine State.hpCmd_still _ _ _ (Wr.sub (by decide) hw) ?_ ?_
    | with_reducible refine State.wakeCmd_still _ _ (Wr.sub (by decide) hw) ?_
    | split
    | dsimp only; split

def State.refuse_writes : Nat :=
    0x100220000000000000000000000000000000000000000001000000000000000000000000000000000000000000000000000000000000000000000000000000000000000000000000000000
theorem State.refuse_still {F : Fld} {I V : Nat} (s : State) (w : Wing) (reason : Nat) (hw : State.refuse_writes.testBit
    F.ctorIdx = false) (h : Still F I V s) :
    Still F I V (State.refuse s w reason) := by
  unfold State.refuse
  repeat' first
    | with_reducible assumption
    | intro _
    | with_reducible refine State.setFld_still _ _ _ _ (W := State.refuse_writes) ?_ hw ?_
    | decide
    | with_reducible refine State.dupEvent_still _ _ _ _ _ _ _ _ (Wr.sub (by decide) hw) ?_
    | split
    | (with_reducible apply Still.upd); split

def State.readyCmd_writes : Nat :=
    0x100220000000000000000000000000000000000000000001060000000000000000000000000000000000000000000000000000000000000000000000000000000000000000000000000000
theorem State.readyCmd_still {F : Fld} {I V : Nat} (s : State) (w : Wing) (hw : State.readyCmd_writes.testBit F.ctorIdx =
    false) (h : Still F I V s) :
    Still F I V (State.readyCmd s w) := by
  unfold State.readyCmd
  repeat' first
    | with_reducible assumption
    | intro _
    | with_reducible refine State.setWing_still _ _ _ (Wr.sub (by decide) hw) ?_
    | with_reducible refine State.refuse_still _ _ _ (Wr.sub (by decide) hw) ?_
    | with_reducible refine State.cmdDiscarded_still _ _ _ (Wr.sub (by decide) hw) ?_
    | with_reducible apply Still.ite
    | split
    | (with_reducible apply Still.upd); split

def execReady_writes : Nat :=
    0x100220000000000000000003000000000000000000000001060000000000000000000000000000000000000000000000000000000000000000000000000000000000000000000000000000
theorem execReady_still {F : Fld} {I V : Nat} (core : Nat) (s : State) (hw : execReady_writes.testBit F.ctorIdx = false) (h
    : Still F I V s) :
    StillOut F I V (execReady core s) := by
  unfold execReady
  repeat' first
    | with_reducible assumption
    | with_reducible apply StillOut.next
    | intro _
    | with_reducible refine State.hpCmd_still _ _ _ (Wr.sub (by decide) hw) ?_ ?_
    | with_reducible refine State.readyCmd_still _ _ (Wr.sub (by decide) hw) ?_
    | split
    | dsimp only; split

def State.handoverCmd_writes : Nat :=
    0x100220000000000000000000000000000000000000000007400000000000000000000000000000000000000000000000000000000000000000000000000000000000000000000000000000
theorem State.handoverCmd_still {F : Fld} {I V : Nat} (s : State) (w : Wing) (hw : State.handoverCmd_writes.testBit
    F.ctorIdx = false) (h : Still F I V s) :
    Still F I V (State.handoverCmd s w) := by
  unfold State.handoverCmd
  repeat' first
    | with_reducible assumption
    | intro _
    | with_reducible refine State.setFld_still _ _ _ _ (W := State.handoverCmd_writes) ?_ hw ?_
    | decide
    | with_reducible refine State.setLease_still _ _ _ (Wr.sub (by decide) hw) ?_
    | with_reducible refine State.refuse_still _ _ _ (Wr.sub (by decide) hw) ?_
    | with_reducible refine State.cmdDiscarded_still _ _ _ (Wr.sub (by decide) hw) ?_
    | with_reducible apply Still.ite
    | fail_if_no_progress with_reducible apply Still.upd
    | split
    | (with_reducible apply Still.upd); split

def execHandover_writes : Nat :=
    0x100220000000000000000003000000000000000000000007400000000000000000000000000000000000000000000000000000000000000000000000000000000000000000000000000000
theorem execHandover_still {F : Fld} {I V : Nat} (core : Nat) (s : State) (hw : execHandover_writes.testBit F.ctorIdx =
    false) (h : Still F I V s) :
    StillOut F I V (execHandover core s) := by
  unfold execHandover
  repeat' first
    | with_reducible assumption
    | with_reducible apply StillOut.next
    | intro _
    | with_reducible refine State.hpCmd_still _ _ _ (Wr.sub (by decide) hw) ?_ ?_
    | with_reducible refine State.handoverCmd_still _ _ (Wr.sub (by decide) hw) ?_
    | split
    | dsimp only; split

def State.cancelHandover_writes : Nat :=
    0x400000000000000000000000000000000000000000000000000000000000000000000000000000000000000000000000000000
theorem State.cancelHandover_still {F : Fld} {I V : Nat} (s : State) (hw : State.cancelHandover_writes.testBit F.ctorIdx =
    false) (h : Still F I V s) :
    Still F I V (State.cancelHandover s) := by
  unfold State.cancelHandover
  repeat' first
    | with_reducible assumption
    | intro _
    | with_reducible refine State.setFld_still _ _ _ _ (W := State.cancelHandover_writes) ?_ hw ?_
    | decide
    | fail_if_no_progress with_reducible apply Still.upd
    | split
    | (with_reducible apply Still.upd); split

def State.checkHandover_writes : Nat :=
    0x100220000000000000000000000000000000000000000001400000000000000000000000000000000000000000000000000000000000000000000000000000000000000000000000000000
theorem State.checkHandover_still {F : Fld} {I V : Nat} (s : State) (hw : State.checkHandover_writes.testBit F.ctorIdx =
    false) (h : Still F I V s) :
    Still F I V (State.checkHandover s) := by
  unfold State.checkHandover
  repeat' first
    | with_reducible assumption
    | intro _
    | with_reducible refine State.cancelHandover_still _ (Wr.sub (by decide) hw) ?_
    | with_reducible refine State.refuse_still _ _ _ (Wr.sub (by decide) hw) ?_
    | with_reducible apply Still.whenIf
    | split
    | (with_reducible apply Still.upd); split

def State.coldCmd_writes : Nat :=
    0x1002200000000000000000000000000000000000000000014600000000000000000000000000000000000000000000000000000000000000000000000000000c0000000000000000000000
theorem State.coldCmd_still {F : Fld} {I V : Nat} (s : State) (w : Wing) (hw : State.coldCmd_writes.testBit F.ctorIdx =
    false) (h : Still F I V s) :
    Still F I V (State.coldCmd s w) := by
  unfold State.coldCmd
  repeat' first
    | with_reducible assumption
    | intro _
    | with_reducible refine State.checkHandover_still _ (Wr.sub (by decide) hw) ?_
    | with_reducible refine State.stopPll_still _ _ (Wr.sub (by decide) hw) ?_
    | with_reducible refine State.setWing_still _ _ _ (Wr.sub (by decide) hw) ?_
    | with_reducible refine State.cmdDiscarded_still _ _ _ (Wr.sub (by decide) hw) ?_
    | with_reducible apply Still.ite
    | split
    | (with_reducible apply Still.upd); split

def execCold_writes : Nat :=
    0x1002200000000000000000030000000000000000000000014600000000000000000000000000000000000000000000000000000000000000000000000000000c0000000000000000000000
theorem execCold_still {F : Fld} {I V : Nat} (core : Nat) (s : State) (hw : execCold_writes.testBit F.ctorIdx = false) (h :
    Still F I V s) :
    StillOut F I V (execCold core s) := by
  unfold execCold
  repeat' first
    | with_reducible assumption
    | with_reducible apply StillOut.next
    | intro _
    | with_reducible refine State.hpCmd_still _ _ _ (Wr.sub (by decide) hw) ?_ ?_
    | with_reducible refine State.coldCmd_still _ _ (Wr.sub (by decide) hw) ?_
    | split
    | dsimp only; split

def State.cancelCmd_writes : Nat :=
    0x100220000000000000000000000000000000000000000000460000000000000000000000000000000000000000000000000000000000000000000000000000000000000000000000000000
theorem State.cancelCmd_still {F : Fld} {I V : Nat} (s : State) (w : Wing) (hw : State.cancelCmd_writes.testBit F.ctorIdx =
    false) (h : Still F I V s) :
    Still F I V (State.cancelCmd s w) := by
  unfold State.cancelCmd
  repeat' first
    | with_reducible assumption
    | intro _
    | with_reducible refine State.cancelHandover_still _ (Wr.sub (by decide) hw) ?_
    | with_reducible refine State.setWing_still _ _ _ (Wr.sub (by decide) hw) ?_
    | with_reducible refine State.cmdDiscarded_still _ _ _ (Wr.sub (by decide) hw) ?_
    | with_reducible apply Still.whenIf
    | with_reducible apply Still.ite
    | split
    | (with_reducible apply Still.upd); split

def execCancel_writes : Nat :=
    0x100220000000000000000003000000000000000000000000460000000000000000000000000000000000000000000000000000000000000000000000000000000000000000000000000000
theorem execCancel_still {F : Fld} {I V : Nat} (core : Nat) (s : State) (hw : execCancel_writes.testBit F.ctorIdx = false)
    (h : Still F I V s) :
    StillOut F I V (execCancel core s) := by
  unfold execCancel
  repeat' first
    | with_reducible assumption
    | with_reducible apply StillOut.next
    | intro _
    | with_reducible refine State.hpCmd_still _ _ _ (Wr.sub (by decide) hw) ?_ ?_
    | with_reducible refine State.cancelCmd_still _ _ (Wr.sub (by decide) hw) ?_
    | split
    | dsimp only; split

def State.releaseCmd_writes : Nat :=
    0x10181003e0800000000002000003000000000000040000001006470000000000800000400000000000000400001000000480000000000000000002000908000000000000000000000001000000
theorem State.releaseCmd_still {F : Fld} {I V : Nat} (s : State) (w : Wing) (hw : State.releaseCmd_writes.testBit F.ctorIdx
    = false) (h : Still F I V s) :
    Still F I V (State.releaseCmd s w) := by
  unfold State.releaseCmd
  repeat' first
    | with_reducible assumption
    | intro _
    | with_reducible refine State.passLost_still _ _ _ (Wr.sub (by decide) hw) ?_
    | with_reducible refine State.cmdDiscarded_still _ _ _ (Wr.sub (by decide) hw) ?_
    | with_reducible apply Still.ite
    | split
    | (with_reducible apply Still.upd); split

def execRelease_writes : Nat :=
    0x10181003e0800000000002000003000000000000040000001006470000000000800000400000000000000400001000000480000000000000000002000908000000000000000000000001000000
theorem execRelease_still {F : Fld} {I V : Nat} (core : Nat) (s : State) (hw : execRelease_writes.testBit F.ctorIdx =
    false) (h : Still F I V s) :
    StillOut F I V (execRelease core s) := by
  unfold execRelease
  repeat' first
    | with_reducible assumption
    | with_reducible apply StillOut.next
    | intro _
    | with_reducible refine State.hpCmd_still _ _ _ (Wr.sub (by decide) hw) ?_ ?_
    | with_reducible refine State.releaseCmd_still _ _ (Wr.sub (by decide) hw) ?_
    | split
    | dsimp only; split

def State.withdrawB_writes : Nat :=
    0x10181003a0000000000000000003000000000000040000000006070000000000800000400000000000000400001000000480000000000000000002000908000000000000000000000001000000
theorem State.withdrawB_still {F : Fld} {I V : Nat} (s : State) (hw : State.withdrawB_writes.testBit F.ctorIdx = false) (h
    : Still F I V s) :
    Still F I V (State.withdrawB s) := by
  unfold State.withdrawB
  repeat' first
    | with_reducible assumption
    | intro _
    | with_reducible refine State.setLease_still _ _ _ (Wr.sub (by decide) hw) ?_
    | with_reducible refine State.setPass_still _ _ _ (Wr.sub (by decide) hw) ?_
    | with_reducible refine State.clearOuten_still _ _ (Wr.sub (by decide) hw) ?_
    | with_reducible refine State.setWing_still _ _ _ (Wr.sub (by decide) hw) ?_
    | with_reducible refine State.abandonWing_still _ _ (Wr.sub (by decide) hw) ?_
    | with_reducible apply Still.each
    | split
    | (with_reducible apply Still.upd); split

def State.acquireCmd_writes : Nat :=
    0x10181003a0000000000000000003000000000000040000000006070000000000800000400000000000000400001000000480000000000000000002000908000000000000000000000001000000
theorem State.acquireCmd_still {F : Fld} {I V : Nat} (s : State) (w : Wing) (hw : State.acquireCmd_writes.testBit F.ctorIdx
    = false) (h : Still F I V s) :
    Still F I V (State.acquireCmd s w) := by
  unfold State.acquireCmd
  repeat' first
    | with_reducible assumption
    | intro _
    | with_reducible refine State.withdrawB_still _ (Wr.sub (by decide) hw) ?_
    | with_reducible refine State.setWing_still _ _ _ (Wr.sub (by decide) hw) ?_
    | with_reducible refine State.grant_still _ _ (Wr.sub (by decide) hw) ?_
    | with_reducible refine State.setAcquired_still _ _ ?_
    | with_reducible refine State.cmdDiscarded_still _ _ _ (Wr.sub (by decide) hw) ?_
    | with_reducible apply Still.whenIf
    | with_reducible apply Still.ite
    | split
    | (with_reducible apply Still.upd); split

def execAcquire_writes : Nat :=
    0x10181003a0000000000000000003000000000000040000000006070000000000800000400000000000000400001000000480000000000000000002000908000000000000000000000001000000
theorem execAcquire_still {F : Fld} {I V : Nat} (core : Nat) (s : State) (hw : execAcquire_writes.testBit F.ctorIdx =
    false) (h : Still F I V s) :
    StillOut F I V (execAcquire core s) := by
  unfold execAcquire
  repeat' first
    | with_reducible assumption
    | with_reducible apply StillOut.next
    | intro _
    | with_reducible refine State.hpCmd_still _ _ _ (Wr.sub (by decide) hw) ?_ ?_
    | with_reducible refine State.acquireCmd_still _ _ (Wr.sub (by decide) hw) ?_
    | split
    | dsimp only; split

def execColdSelfTestWindow_writes : Nat :=
    0x1002200000000000000000000000000000006000100f0000060000000000000000000000000000000000000000000000000000000000000000000000000000000000000000000000000000
theorem execColdSelfTestWindow_still {F : Fld} {I V : Nat} (w : Wing) (pass : Bool) (s : State) (hw :
    execColdSelfTestWindow_writes.testBit F.ctorIdx = false) (h : Still F I V s) :
    StillOut F I V (execColdSelfTestWindow w pass s) := by
  unfold execColdSelfTestWindow
  repeat' first
    | with_reducible assumption
    | with_reducible apply StillOut.next
    | with_reducible apply StillOut.ite
    | intro _
    | with_reducible refine State.bistResult_still _ _ _ (Wr.sub (by decide) hw) ?_
    | with_reducible refine State.standbyTakesSets_still _ ?_
    | with_reducible refine State.setWindow_still _ _ _ ?_
    | with_reducible apply Still.ite
    | split
    | dsimp only; split

def State.closeWindows_writes : Nat := 0xc0000000000000000000000
theorem State.closeWindows_still {F : Fld} {I V : Nat} (s : State) (hw : State.closeWindows_writes.testBit F.ctorIdx =
    false) (h : Still F I V s) :
    Still F I V (State.closeWindows s) := by
  unfold State.closeWindows
  repeat' first
    | with_reducible assumption
    | intro _
    | with_reducible refine State.setWindow_still _ _ _ ?_
    | with_reducible refine State.stopPll_still _ _ (Wr.sub (by decide) hw) ?_
    | with_reducible apply Still.whenIf
    | with_reducible apply Still.each
    | split
    | (with_reducible apply Still.upd); split

theorem State.setDtcmWord_still {F : Fld} {I V : Nat} (s : State) (w : Wing) (ofs : Nat) (v : Nat) (h : Still F I V s) :
    Still F I V (State.setDtcmWord s w ofs v) := by
  unfold State.setDtcmWord
  repeat' first
    | with_reducible assumption
    | intro _
    | with_reducible apply Still.foldl
    | fail_if_no_progress with_reducible apply Still.upd
    | split
    | (with_reducible apply Still.upd); split

def State.snapshotBell_writes : Nat :=
    0x100220000000000000000000000000000000000000008000000000000000000000000000000000000000000000000000000000000000000000000000000000000000000000000000000000
theorem State.snapshotBell_still {F : Fld} {I V : Nat} (s : State) (handover : Bool) (hw :
    State.snapshotBell_writes.testBit F.ctorIdx = false) (h : Still F I V s) :
    Still F I V (State.snapshotBell s handover) := by
  unfold State.snapshotBell
  repeat' first
    | with_reducible assumption
    | intro _
    | with_reducible refine State.count_still _ _ _ (W := State.snapshotBell_writes) ?_ hw ?_
    | decide
    | with_reducible refine State.dupEvent_still _ _ _ _ _ _ _ _ (Wr.sub (by decide) hw) ?_
    | with_reducible apply Still.foldl
    | with_reducible apply Still.ite
    | fail_if_no_progress with_reducible apply Still.upd
    | split
    | (with_reducible apply Still.upd); split

def State.refreshAge_writes : Nat :=
    0x100000000000000000000000000000000000000000000000000000000000000000000000000000000000000000000000000000000
theorem State.refreshAge_still {F : Fld} {I V : Nat} (s : State) (hw : State.refreshAge_writes.testBit F.ctorIdx = false)
    (h : Still F I V s) :
    Still F I V (State.refreshAge s) := by
  unfold State.refreshAge
  repeat' first
    | with_reducible assumption
    | intro _
    | with_reducible refine State.setFld_still _ _ _ _ (W := State.refreshAge_writes) ?_ hw ?_
    | decide
    | split
    | (with_reducible apply Still.upd); split

def State.settleStale_writes : Nat :=
    0x100220000000000000000000000000000000000000000000080000000000000000000000000000000000000000000000000000000000000000000000000000000000000000000000000000
theorem State.settleStale_still {F : Fld} {I V : Nat} (s : State) (hw : State.settleStale_writes.testBit F.ctorIdx = false)
    (h : Still F I V s) :
    Still F I V (State.settleStale s) := by
  unfold State.settleStale
  repeat' first
    | with_reducible assumption
    | intro _
    | with_reducible refine State.setFld_still _ _ _ _ (W := State.settleStale_writes) ?_ hw ?_
    | decide
    | with_reducible refine State.dupEvent_still _ _ _ _ _ _ _ _ (Wr.sub (by decide) hw) ?_
    | with_reducible apply Still.whenIf
    | split
    | (with_reducible apply Still.upd); split

def execSnapshotWriteComplete_writes : Nat :=
    0x100220000000000000000000000000000000000000000140080000000000000000000000000000000000000000000000000000000000000000000000000000000000000000000000000000
theorem execSnapshotWriteComplete_still {F : Fld} {I V : Nat} (s : State) (hw : execSnapshotWriteComplete_writes.testBit
    F.ctorIdx = false) (h : Still F I V s) :
    StillOut F I V (execSnapshotWriteComplete s) := by
  unfold execSnapshotWriteComplete
  repeat' first
    | with_reducible assumption
    | with_reducible apply StillOut.next
    | intro _
    | with_reducible refine State.setFld_still _ _ _ _ (W := execSnapshotWriteComplete_writes) ?_ hw ?_
    | decide
    | with_reducible refine State.captureShadows_still _ ?_
    | with_reducible refine State.settleStale_still _ (Wr.sub (by decide) hw) ?_
    | with_reducible refine State.refreshAge_still _ (Wr.sub (by decide) hw) ?_
    | fail_if_no_progress with_reducible apply Still.upd
    | split
    | dsimp only; split

def State.linkFault_writes : Nat :=
    0x100220000000000000000000000000000000000000000001580000000000000000000000000000000000000000000000000000000000000000000000000000000000000000000000000000
theorem State.linkFault_still {F : Fld} {I V : Nat} (s : State) (w : Wing) (hw : State.linkFault_writes.testBit F.ctorIdx =
    false) (h : Still F I V s) :
    Still F I V (State.linkFault s w) := by
  unfold State.linkFault
  repeat' first
    | with_reducible assumption
    | intro _
    | with_reducible refine State.setFld_still _ _ _ _ (W := State.linkFault_writes) ?_ hw ?_
    | decide
    | with_reducible refine State.checkHandover_still _ (Wr.sub (by decide) hw) ?_
    | with_reducible refine State.raise_still _ _ _ (Wr.sub (by decide) hw) ?_
    | with_reducible refine State.dupEvent_still _ _ _ _ _ _ _ _ (Wr.sub (by decide) hw) ?_
    | fail_if_no_progress with_reducible apply Still.upd
    | split
    | (with_reducible apply Still.upd); split

def execLinkStale_writes : Nat :=
    0x100220000000000000000000000000000000000000000001580000000000000000000000000000000000000000000000000000000000000000000000000000000000000000000000000000
theorem execLinkStale_still {F : Fld} {I V : Nat} (w : Wing) (s : State) (hw : execLinkStale_writes.testBit F.ctorIdx =
    false) (h : Still F I V s) :
    StillOut F I V (execLinkStale w s) := by
  unfold execLinkStale
  repeat' first
    | with_reducible assumption
    | with_reducible apply StillOut.next
    | with_reducible apply StillOut.ite
    | intro _
    | with_reducible refine State.linkFault_still _ _ (Wr.sub (by decide) hw) ?_
    | with_reducible apply Still.ite
    | split
    | dsimp only; split

def execTakeoverSlotChosen_writes : Nat :=
    0x100220000000000000000000000000000000000000200000000000000000000000000000000000000000000000000000000000000000000000000000000000000000000000000000000000
theorem execTakeoverSlotChosen_still {F : Fld} {I V : Nat} (s : State) (hw : execTakeoverSlotChosen_writes.testBit
    F.ctorIdx = false) (h : Still F I V s) :
    StillOut F I V (execTakeoverSlotChosen s) := by
  unfold execTakeoverSlotChosen
  repeat' first
    | with_reducible assumption
    | with_reducible apply StillOut.next
    | with_reducible apply StillOut.ite
    | intro _
    | with_reducible refine State.setFld_still _ _ _ _ (W := execTakeoverSlotChosen_writes) ?_ hw ?_
    | decide
    | with_reducible refine State.dupEvent_still _ _ _ _ _ _ _ _ (Wr.sub (by decide) hw) ?_
    | with_reducible apply Still.ite
    | fail_if_no_progress with_reducible apply Still.upd
    | split
    | dsimp only; split

theorem State.restore_still {F : Fld} {I V : Nat} (s : State) (w : Wing) (engines : List EngSection) (tutor : Option (Nat ×
    List Nat)) (h : Still F I V s) :
    Still F I V (State.restore s w engines tutor) := by
  unfold State.restore
  repeat' first
    | with_reducible assumption
    | intro _
    | with_reducible refine State.setEngWord_still _ _ _ _ ?_
    | with_reducible refine State.mark_still _ _ _ _ ?_
    | with_reducible refine State.modEngine_still _ _ _ ?_
    | with_reducible refine State.setDtcmWord_still _ _ _ _ ?_
    | with_reducible apply Still.each
    | split
    | (with_reducible apply Still.upd); split

theorem State.setFirst_still {F : Fld} {I V : Nat} (s : State) (w : Wing) (b : Bool) (h : Still F I V s) :
    Still F I V (State.setFirst s w b) := by
  unfold State.setFirst
  repeat' first
    | with_reducible assumption
    | intro _
    | with_reducible refine State.modEngine_still _ _ _ ?_
    | with_reducible apply Still.each
    | split
    | (with_reducible apply Still.upd); split

theorem execTakeoverRestoreComplete_still {F : Fld} {I V : Nat} (s : State) (h : Still F I V s) :
    StillOut F I V (execTakeoverRestoreComplete s) := by
  unfold execTakeoverRestoreComplete
  repeat' first
    | with_reducible assumption
    | with_reducible apply StillOut.next
    | with_reducible apply StillOut.ite
    | intro _
    | with_reducible refine State.setFirst_still _ _ _ ?_
    | with_reducible refine State.restore_still _ _ _ _ ?_
    | with_reducible apply Still.ite
    | fail_if_no_progress with_reducible apply Still.upd
    | split
    | dsimp only; split

def State.takeoverBell_writes : Nat :=
    0x60000000000000000000000000000000000000000000000000000000000000000000000000000000000000000000000000000
theorem State.takeoverBell_still {F : Fld} {I V : Nat} (s : State) (hw : State.takeoverBell_writes.testBit F.ctorIdx =
    false) (h : Still F I V s) :
    Still F I V (State.takeoverBell s) := by
  unfold State.takeoverBell
  repeat' first
    | with_reducible assumption
    | intro _
    | with_reducible refine State.setWing_still _ _ _ (Wr.sub (by decide) hw) ?_
    | with_reducible apply Still.ite
    | fail_if_no_progress with_reducible apply Still.upd
    | split
    | (with_reducible apply Still.upd); split

def State.rearmWrite_writes : Nat :=
    0x100220000000000000000000000000000000000000100000000000000000000000000000000000000000000000000000000000000000000000000000000000000000000000000000000000
theorem State.rearmWrite_still {F : Fld} {I V : Nat} (s : State) (w : Wing) (mask : Nat) (hw :
    State.rearmWrite_writes.testBit F.ctorIdx = false) (h : Still F I V s) :
    Still F I V (State.rearmWrite s w mask) := by
  unfold State.rearmWrite
  repeat' first
    | with_reducible assumption
    | intro _
    | with_reducible refine State.setFld_still _ _ _ _ (W := State.rearmWrite_writes) ?_ hw ?_
    | decide
    | with_reducible refine State.discarded_still _ _ _ (Wr.sub (by decide) hw) ?_
    | with_reducible apply Still.whenIf
    | with_reducible apply Still.foldl
    | with_reducible apply Still.ite
    | fail_if_no_progress with_reducible apply Still.upd
    | split
    | (with_reducible apply Still.upd); split

def execHpRearmWrite_writes : Nat :=
    0x100220000000000000000003000000000000000000100000000000000000000000000000000000000000000000000000000000000000000000000000000000000000000000000000000000
theorem execHpRearmWrite_still {F : Fld} {I V : Nat} (core : Nat) (mask : Nat) (s : State) (hw :
    execHpRearmWrite_writes.testBit F.ctorIdx = false) (h : Still F I V s) :
    StillOut F I V (execHpRearmWrite core mask s) := by
  unfold execHpRearmWrite
  repeat' first
    | with_reducible assumption
    | with_reducible apply StillOut.next
    | intro _
    | with_reducible refine State.accessBlk_still _ _ _ _ _ (Wr.sub (by decide) hw) ?_ ?_
    | with_reducible refine State.rearmWrite_still _ _ _ (Wr.sub (by decide) hw) ?_
    | split
    | dsimp only; split

def State.handoverBell_writes : Nat :=
    0x1003a0000000000000000003000000000000000000008001460000000000800000000000000000000000001000000400000000000000000000000000000000000000000000000001000000
theorem State.handoverBell_still {F : Fld} {I V : Nat} (s : State) (hw : State.handoverBell_writes.testBit F.ctorIdx =
    false) (h : Still F I V s) :
    Still F I V (State.handoverBell s) := by
  unfold State.handoverBell
  repeat' first
    | with_reducible assumption
    | intro _
    | with_reducible refine State.checkHandover_still _ (Wr.sub (by decide) hw) ?_
    | with_reducible refine State.snapshotBell_still _ _ (Wr.sub (by decide) hw) ?_
    | with_reducible refine State.settlePads_still _ (Wr.sub (by decide) hw) ?_
    | with_reducible refine State.setWing_still _ _ _ (Wr.sub (by decide) hw) ?_
    | with_reducible apply Still.ite
    | fail_if_no_progress with_reducible apply Still.upd
    | split
    | (with_reducible apply Still.upd); split

def execHandoverCopyComplete_writes : Nat :=
    0x1003a0000000000000000003000000000000000000002006470000000000800000000000000000000000001000000400000000000000000000000000000000000000000000000001000000
theorem execHandoverCopyComplete_still {F : Fld} {I V : Nat} (s : State) (hw : execHandoverCopyComplete_writes.testBit
    F.ctorIdx = false) (h : Still F I V s) :
    StillOut F I V (execHandoverCopyComplete s) := by
  unfold execHandoverCopyComplete
  repeat' first
    | with_reducible assumption
    | with_reducible apply StillOut.next
    | intro _
    | with_reducible refine State.count_still _ _ _ (W := execHandoverCopyComplete_writes) ?_ hw ?_
    | decide
    | with_reducible refine State.setFirst_still _ _ _ ?_
    | with_reducible refine State.restore_still _ _ _ _ ?_
    | with_reducible refine State.grant_still _ _ (Wr.sub (by decide) hw) ?_
    | with_reducible refine State.setLease_still _ _ _ (Wr.sub (by decide) hw) ?_
    | with_reducible refine State.setPass_still _ _ _ (Wr.sub (by decide) hw) ?_
    | with_reducible refine State.cancelHandover_still _ (Wr.sub (by decide) hw) ?_
    | with_reducible refine State.setWing_still _ _ _ (Wr.sub (by decide) hw) ?_
    | with_reducible refine State.dupEvent_still _ _ _ _ _ _ _ _ (Wr.sub (by decide) hw) ?_
    | with_reducible refine State.settlePads_still _ (Wr.sub (by decide) hw) ?_
    | with_reducible refine State.enginesDue_still _ _ ?_
    | split
    | dsimp only; split

end Sys2Proof.Machine
end

