-- ==== Sys2Proof/Laws/StillSync.lean ====
section
/-!
SUPPORT. Which register fields the operations of Machine/Sync.lean can write (Laws/Still.lean), as bits by the field's number, and
that they leave every other as it was.
-/
namespace Sys2Proof.Machine

set_option linter.unusedTactic false
set_option linter.unreachableTactic false

theorem State.freeR_still {F : Fld} {I V : Nat} (s : State) (h : Still F I V s) :
    Still F I V (State.freeR s).2 := by
  unfold State.freeR
  repeat' first
    | with_reducible assumption
    | intro _
    | with_reducible refine State.fresh_still _ _ ?_
    | (with_reducible refine Still.snd ?_ (by assumption)); with_reducible refine State.fresh_still _ _ ?_
    | dsimp only
    | split
    | (with_reducible apply Still.upd); split

def State.shipDuty_writes : Nat :=
    0x100220000000000000000000000000000000000000000000000000000000000000000000000000000000000000000000000000000000000000000000000000000000000000000000000000
theorem State.shipDuty_still {F : Fld} {I V : Nat} (s : State) (n : Nat) (m : Nat) (d : Fp) (hw :
    State.shipDuty_writes.testBit F.ctorIdx = false) (h : Still F I V s) :
    Still F I V (State.shipDuty s n m d) := by
  unfold State.shipDuty
  repeat' first
    | with_reducible assumption
    | intro _
    | with_reducible refine State.stage_still _ _ _ _ _ (Wr.sub (by decide) hw) ?_
    | with_reducible apply Still.ite
    | split
    | (with_reducible apply Still.upd); split

theorem State.shipEvt_still {F : Fld} {I V : Nat} (s : State) (n : Nat) (code : Nat) (value : Option Nat) (fault : optParam
    Bool false) (h : Still F I V s) :
    Still F I V (State.shipEvt s n code value fault) := by
  unfold State.shipEvt
  repeat' first
    | with_reducible assumption
    | intro _
    | with_reducible refine State.fresh_still _ _ ?_
    | (with_reducible refine Still.snd ?_ (by assumption)); with_reducible refine State.fresh_still _ _ ?_
    | with_reducible refine State.modEngine_still _ _ _ ?_
    | with_reducible apply Still.ite
    | split
    | (with_reducible apply Still.upd); split

end Sys2Proof.Machine
end

