-- ==== Sys2Proof/Laws/StillGrid.lean ====
section
/-!
SUPPORT. Which register fields the operations of Machine/Grid.lean can write (Laws/Still.lean), as bits by the field's number, and
that they leave every other as it was.
-/
namespace Sys2Proof.Machine

set_option linter.unusedTactic false
set_option linter.unreachableTactic false

theorem State.gridEvents_still {F : Fld} {I V : Nat} (s : State) (n : Nat) (was : GridSt) (g : GridSt) (u1 : Fp) (uLv : Fp)
    (uHv : Fp) (h : Still F I V s) :
    Still F I V (State.gridEvents s n was g u1 uLv uHv) := by
  unfold State.gridEvents
  repeat' first
    | with_reducible assumption
    | intro _
    | with_reducible refine State.shipEvt_still _ _ _ _ _ ?_
    | with_reducible apply Still.whenIf
    | with_reducible apply Still.ite
    | split
    | (with_reducible apply Still.upd); split

def State.gridRun_writes : Nat :=
    0x100220000000000000000000000000000000000000000000000000000000000000000000000000000000000000000000000000000000000000000000000000000000000000000000000000
theorem State.gridRun_still {F : Fld} {I V : Nat} (s : State) (n : Nat) (hw : State.gridRun_writes.testBit F.ctorIdx =
    false) (h : Still F I V s) :
    Still F I V (State.gridRun s n) := by
  unfold State.gridRun
  repeat' first
    | with_reducible assumption
    | intro _
    | with_reducible refine State.gridEvents_still _ _ _ _ _ _ _ ?_
    | with_reducible refine State.shipDuty_still _ _ _ _ (Wr.sub (by decide) hw) ?_
    | with_reducible apply Still.each
    | with_reducible apply Still.ite
    | fail_if_no_progress with_reducible apply Still.upd
    | split
    | (with_reducible apply Still.upd); split

end Sys2Proof.Machine
end

