-- ==== Sys2Proof/Laws/StillIslanding.lean ====
section
/-!
SUPPORT. Which register fields the operations of Machine/Islanding.lean can write (Laws/Still.lean), as bits by the field's number, and
that they leave every other as it was.
-/
namespace Sys2Proof.Machine

set_option linter.unusedTactic false
set_option linter.unreachableTactic false

theorem State.islEvents_still {F : Fld} {I V : Nat} (s : State) (n : Nat) (was : IslSt) (p : IslSt) (h : Still F I V s) :
    Still F I V (State.islEvents s n was p) := by
  unfold State.islEvents
  repeat' first
    | with_reducible assumption
    | intro _
    | with_reducible refine State.shipEvt_still _ _ _ _ _ ?_
    | with_reducible apply Still.whenIf
    | split
    | (with_reducible apply Still.upd); split

theorem State.islRun_still {F : Fld} {I V : Nat} (s : State) (n : Nat) (h : Still F I V s) :
    Still F I V (State.islRun s n) := by
  unfold State.islRun
  repeat' first
    | with_reducible assumption
    | intro _
    | with_reducible refine State.islEvents_still _ _ _ _ ?_
    | with_reducible refine State.shipEvt_still _ _ _ _ _ ?_
    | with_reducible apply Still.ite
    | fail_if_no_progress with_reducible apply Still.upd
    | split
    | (with_reducible apply Still.upd); split

end Sys2Proof.Machine
end

