-- ==== Sys2Proof/Laws/StillMppt.lean ====
section
/-!
SUPPORT. Which register fields the operations of Machine/Mppt.lean can write (Laws/Still.lean), as bits by the field's number, and
that they leave every other as it was.
-/
namespace Sys2Proof.Machine

set_option linter.unusedTactic false
set_option linter.unreachableTactic false

theorem State.trackerStart_still {F : Fld} {I V : Nat} (s : State) (t : Tracker) (v : Fp) (h : Still F I V s) :
    Still F I V (State.trackerStart s t v).2 := by
  unfold State.trackerStart
  repeat' first
    | with_reducible assumption
    | intro _
    | with_reducible refine State.freeR_still _ ?_
    | (with_reducible refine Still.snd ?_ (by assumption)); with_reducible refine State.freeR_still _ ?_
    | with_reducible refine State.fresh_still _ _ ?_
    | (with_reducible refine Still.snd ?_ (by assumption)); with_reducible refine State.fresh_still _ _ ?_
    | with_reducible apply Still.foldl
    | with_reducible apply Still.ite
    | with_reducible apply Still.iteSnd
    | dsimp only
    | split
    | (with_reducible apply Still.upd); split

theorem State.tracePoint_still {F : Fld} {I V : Nat} (s : State) (n : Nat) (c : Trace) (h : Still F I V s) :
    Still F I V (State.tracePoint s n c).2 := by
  unfold State.tracePoint
  repeat' first
    | with_reducible assumption
    | intro _
    | with_reducible refine State.shipEvt_still _ _ _ _ _ ?_
    | with_reducible apply Still.ite
    | with_reducible apply Still.iteSnd
    | dsimp only
    | split
    | (with_reducible apply Still.upd); split

theorem State.setTrace_still {F : Fld} {I V : Nat} (s : State) (c : Option Trace) (h : Still F I V s) :
    Still F I V (State.setTrace s c) := by
  unfold State.setTrace
  repeat' first
    | with_reducible assumption
    | intro _
    | fail_if_no_progress with_reducible apply Still.upd
    | split
    | (with_reducible apply Still.upd); split

theorem State.traceRun_still {F : Fld} {I V : Nat} (s : State) (n : Nat) (c : Trace) (t : Tracker) (v : Fp) (cur : Fp) (vdc
    : Fp) (h : Still F I V s) :
    Still F I V (State.traceRun s n c t v cur vdc).2 := by
  unfold State.traceRun
  repeat' first
    | with_reducible assumption
    | intro _
    | with_reducible refine State.shipEvt_still _ _ _ _ _ ?_
    | with_reducible refine State.setTrace_still _ _ ?_
    | with_reducible refine State.tracePoint_still _ _ _ ?_
    | (with_reducible refine Still.snd ?_ (by assumption)); with_reducible refine State.tracePoint_still _ _ _ ?_
    | with_reducible apply Still.ite
    | with_reducible apply Still.iteSnd
    | dsimp only
    | split
    | (with_reducible apply Still.upd); split

theorem State.trackerEvents_still {F : Fld} {I V : Nat} (s : State) (n : Nat) (i : Nat) (was : Nat) (now : Nat) (h : Still
    F I V s) :
    Still F I V (State.trackerEvents s n i was now) := by
  unfold State.trackerEvents
  repeat' first
    | with_reducible assumption
    | intro _
    | with_reducible refine State.shipEvt_still _ _ _ _ _ ?_
    | with_reducible apply Still.whenIf
    | split
    | (with_reducible apply Still.upd); split

theorem State.putTracker_still {F : Fld} {I V : Nat} (s : State) (i : Nat) (t : Tracker) (h : Still F I V s) :
    Still F I V (State.putTracker s i t) := by
  unfold State.putTracker
  repeat' first
    | with_reducible assumption
    | intro _
    | fail_if_no_progress with_reducible apply Still.upd
    | split
    | (with_reducible apply Still.upd); split

theorem State.trackerMove_still {F : Fld} {I V : Nat} (s : State) (n : Nat) (i : Nat) (t : Tracker) (v : Fp) (cur : Fp)
    (vdc : Fp) (h : Still F I V s) :
    Still F I V (State.trackerMove s n i t v cur vdc).2 := by
  unfold State.trackerMove
  repeat' first
    | with_reducible assumption
    | intro _
    | with_reducible refine State.trackerStart_still _ _ _ ?_
    | (with_reducible refine Still.snd ?_ (by assumption)); with_reducible refine State.trackerStart_still _ _ _ ?_
    | with_reducible refine State.trackerEvents_still _ _ _ _ _ ?_
    | with_reducible refine State.traceRun_still _ _ _ _ _ _ _ ?_
    | (with_reducible refine Still.snd ?_ (by assumption)); with_reducible refine State.traceRun_still _ _ _ _ _ _ _ ?_
    | with_reducible apply Still.ite
    | with_reducible apply Still.iteSnd
    | dsimp only
    | split
    | (with_reducible apply Still.upd); split

def State.trackerRun_writes : Nat :=
    0x100220000000000000000000000000000000000000000000000000000000000000000000000000000000000000000000000000000000000000000000000000000000000000000000000000
theorem State.trackerRun_still {F : Fld} {I V : Nat} (s : State) (n : Nat) (i : Nat) (hw : State.trackerRun_writes.testBit
    F.ctorIdx = false) (h : Still F I V s) :
    Still F I V (State.trackerRun s n i) := by
  unfold State.trackerRun
  repeat' first
    | with_reducible assumption
    | intro _
    | with_reducible refine State.trackerMove_still _ _ _ _ _ _ _ ?_
    | (with_reducible refine Still.snd ?_ (by assumption)); with_reducible refine State.trackerMove_still _ _ _ _ _ _ _ ?_
    | with_reducible refine State.putTracker_still _ _ _ ?_
    | with_reducible refine State.shipDuty_still _ _ _ _ (Wr.sub (by decide) hw) ?_
    | split
    | (with_reducible apply Still.upd); split

theorem State.traceStart_still {F : Fld} {I V : Nat} (s : State) (n : Nat) (h : Still F I V s) :
    Still F I V (State.traceStart s n) := by
  unfold State.traceStart
  repeat' first
    | with_reducible assumption
    | intro _
    | with_reducible refine State.shipEvt_still _ _ _ _ _ ?_
    | with_reducible apply Still.ite
    | fail_if_no_progress with_reducible apply Still.upd
    | split
    | (with_reducible apply Still.upd); split

def State.mpptRun_writes : Nat :=
    0x100220000000000000000000000000000000000000000000000000000000000000000000000000000000000000000000000000000000000000000000000000000000000000000000000000
theorem State.mpptRun_still {F : Fld} {I V : Nat} (s : State) (n : Nat) (hw : State.mpptRun_writes.testBit F.ctorIdx =
    false) (h : Still F I V s) :
    Still F I V (State.mpptRun s n) := by
  unfold State.mpptRun
  repeat' first
    | with_reducible assumption
    | intro _
    | with_reducible refine State.traceStart_still _ _ ?_
    | with_reducible refine State.trackerRun_still _ _ _ (Wr.sub (by decide) hw) ?_
    | with_reducible apply Still.each
    | split
    | (with_reducible apply Still.upd); split

end Sys2Proof.Machine
end

