-- ==== Sys2Proof/Laws/StillShipped.lean ====
section
/-!
SUPPORT. Which register fields the operations of Machine/Shipped.lean can write (Laws/Still.lean), as bits by the field's number, and
that they leave every other as it was.
-/
namespace Sys2Proof.Machine

set_option linter.unusedTactic false
set_option linter.unreachableTactic false

def State.shippedRun_writes : Nat :=
    0x100220000000000000000000000000000000000000000000000000000000000000000000000000000000000000000000000000000000000000000000000000000000000000000000000000
theorem State.shippedRun_still {F : Fld} {I V : Nat} (s : State) (n : Nat) (hw : State.shippedRun_writes.testBit F.ctorIdx
    = false) (h : Still F I V s) :
    Still F I V (State.shippedRun s n) := by
  unfold State.shippedRun
  repeat' first
    | with_reducible assumption
    | intro _
    | with_reducible refine State.gridRun_still _ _ (Wr.sub (by decide) hw) ?_
    | with_reducible refine State.islRun_still _ _ ?_
    | with_reducible refine State.mpptRun_still _ _ (Wr.sub (by decide) hw) ?_
    | with_reducible apply Still.whenIf
    | split
    | (with_reducible apply Still.upd); split

theorem State.rwVar_still {F : Fld} {I V : Nat} (s : State) (idx : Nat) (sub : Nat) (v : Nat) (h : Still F I V s) :
    Still F I V (State.rwVar s idx sub v) := by
  unfold State.rwVar
  repeat' first
    | with_reducible assumption
    | intro _
    | with_reducible refine State.setVar_still _ _ _ _ ?_
    | with_reducible apply Still.ite
    | fail_if_no_progress with_reducible apply Still.upd
    | split
    | (with_reducible apply Still.upd); split

theorem State.gridCommand_still {F : Fld} {I V : Nat} (s : State) (v : Nat) (h : Still F I V s) :
    Still F I V (State.gridCommand s v) := by
  unfold State.gridCommand
  repeat' first
    | with_reducible assumption
    | intro _
    | with_reducible refine State.answer_still _ _ ?_
    | with_reducible refine State.setVar_still _ _ _ _ ?_
    | with_reducible apply Still.ite
    | fail_if_no_progress with_reducible apply Still.upd
    | split
    | (with_reducible apply Still.upd); split

theorem execGridCommandSync_still {F : Fld} {I V : Nat} (s : State) (h : Still F I V s) :
    StillOut F I V (execGridCommandSync s) := by
  unfold execGridCommandSync
  repeat' first
    | with_reducible assumption
    | with_reducible apply StillOut.next
    | intro _
    | with_reducible refine State.gridCommand_still _ _ ?_
    | split
    | dsimp only; split

theorem execGridCommandRun_still {F : Fld} {I V : Nat} (s : State) (h : Still F I V s) :
    StillOut F I V (execGridCommandRun s) := by
  unfold execGridCommandRun
  repeat' first
    | with_reducible assumption
    | with_reducible apply StillOut.next
    | intro _
    | with_reducible refine State.gridCommand_still _ _ ?_
    | split
    | dsimp only; split

theorem execGridCommandClearTrip_still {F : Fld} {I V : Nat} (s : State) (h : Still F I V s) :
    StillOut F I V (execGridCommandClearTrip s) := by
  unfold execGridCommandClearTrip
  repeat' first
    | with_reducible assumption
    | with_reducible apply StillOut.next
    | intro _
    | with_reducible refine State.gridCommand_still _ _ ?_
    | split
    | dsimp only; split

theorem State.islCommand_still {F : Fld} {I V : Nat} (s : State) (v : Nat) (h : Still F I V s) :
    Still F I V (State.islCommand s v) := by
  unfold State.islCommand
  repeat' first
    | with_reducible assumption
    | intro _
    | with_reducible refine State.answer_still _ _ ?_
    | with_reducible refine State.setVar_still _ _ _ _ ?_
    | with_reducible apply Still.ite
    | fail_if_no_progress with_reducible apply Still.upd
    | split
    | (with_reducible apply Still.upd); split

theorem execIslandingDisarm_still {F : Fld} {I V : Nat} (s : State) (h : Still F I V s) :
    StillOut F I V (execIslandingDisarm s) := by
  unfold execIslandingDisarm
  repeat' first
    | with_reducible assumption
    | with_reducible apply StillOut.next
    | intro _
    | with_reducible refine State.islCommand_still _ _ ?_
    | split
    | dsimp only; split

theorem execIslandingArm_still {F : Fld} {I V : Nat} (s : State) (h : Still F I V s) :
    StillOut F I V (execIslandingArm s) := by
  unfold execIslandingArm
  repeat' first
    | with_reducible assumption
    | with_reducible apply StillOut.next
    | intro _
    | with_reducible refine State.islCommand_still _ _ ?_
    | split
    | dsimp only; split

theorem execIslandingClearTrip_still {F : Fld} {I V : Nat} (s : State) (h : Still F I V s) :
    StillOut F I V (execIslandingClearTrip s) := by
  unfold execIslandingClearTrip
  repeat' first
    | with_reducible assumption
    | with_reducible apply StillOut.next
    | intro _
    | with_reducible refine State.islCommand_still _ _ ?_
    | split
    | dsimp only; split

theorem State.traceRequest_still {F : Fld} {I V : Nat} (s : State) (input : Nat) (h : Still F I V s) :
    Still F I V (State.traceRequest s input) := by
  unfold State.traceRequest
  repeat' first
    | with_reducible assumption
    | intro _
    | with_reducible refine State.answer_still _ _ ?_
    | with_reducible apply Still.ite
    | fail_if_no_progress with_reducible apply Still.upd
    | split
    | (with_reducible apply Still.upd); split

theorem execMpptTraceRequest_still {F : Fld} {I V : Nat} (input : Nat) (s : State) (h : Still F I V s) :
    StillOut F I V (execMpptTraceRequest input s) := by
  unfold execMpptTraceRequest
  repeat' first
    | with_reducible assumption
    | with_reducible apply StillOut.next
    | intro _
    | with_reducible refine State.traceRequest_still _ _ ?_
    | split
    | dsimp only; split

theorem State.gridApplied_still {F : Fld} {I V : Nat} (s : State) (h : Still F I V s) :
    Still F I V (State.gridApplied s) := by
  unfold State.gridApplied
  repeat' first
    | with_reducible assumption
    | intro _
    | fail_if_no_progress with_reducible apply Still.upd
    | split
    | (with_reducible apply Still.upd); split

theorem State.islApplied_still {F : Fld} {I V : Nat} (s : State) (h : Still F I V s) :
    Still F I V (State.islApplied s) := by
  unfold State.islApplied
  repeat' first
    | with_reducible assumption
    | intro _
    | fail_if_no_progress with_reducible apply Still.upd
    | split
    | (with_reducible apply Still.upd); split

theorem State.mpptApplied_still {F : Fld} {I V : Nat} (s : State) (was : Nat) (h : Still F I V s) :
    Still F I V (State.mpptApplied s was) := by
  unfold State.mpptApplied
  repeat' first
    | with_reducible assumption
    | intro _
    | with_reducible apply Still.ite
    | fail_if_no_progress with_reducible apply Still.upd
    | split
    | (with_reducible apply Still.upd); split

theorem State.gridSync_still {F : Fld} {I V : Nat} (s : State) (h : Still F I V s) :
    Still F I V (State.gridSync s) := by
  unfold State.gridSync
  repeat' first
    | with_reducible assumption
    | intro _
    | fail_if_no_progress with_reducible apply Still.upd
    | split
    | (with_reducible apply Still.upd); split

def State.endEvents_writes : Nat :=
    0x1003a00000000000000000030000000000000000000000000000000000008008030000000000000068000210000827c0000000000000000000000000000000000000000000000001000000
theorem State.endEvents_still {F : Fld} {I V : Nat} (s : State) (n : Nat) (e : Engine) (hw : State.endEvents_writes.testBit
    F.ctorIdx = false) (h : Still F I V s) :
    Still F I V (State.endEvents s n e) := by
  unfold State.endEvents
  repeat' first
    | with_reducible assumption
    | intro _
    | with_reducible refine State.engEvent_still _ _ _ _ _ _ _ _ (Wr.sub (by decide) hw) ?_
    | with_reducible refine State.runEntry_still _ _ _ (Wr.sub (by decide) hw) ?_
    | with_reducible refine State.faultReport_still _ _ _ _ (Wr.sub (by decide) hw) ?_
    | with_reducible apply Still.whenIf
    | with_reducible apply Still.each
    | split
    | (with_reducible apply Still.upd); split

def execEndRun_writes : Nat :=
    0x10181003a0000000000000000003000000000000040000000000000000000000800c674000000000000068000210000827c0000000000000000002000908000000000000000000000001000000
theorem execEndRun_still {F : Fld} {I V : Nat} (n : Nat) (s : State) (hw : execEndRun_writes.testBit F.ctorIdx = false) (h
    : Still F I V s) :
    StillOut F I V (execEndRun n s) := by
  unfold execEndRun
  repeat' first
    | with_reducible assumption
    | with_reducible apply StillOut.next
    | with_reducible apply StillOut.ite
    | intro _
    | with_reducible refine State.setFld_still _ _ _ _ (W := execEndRun_writes) ?_ hw ?_
    | decide
    | with_reducible refine State.shippedRun_still _ _ (Wr.sub (by decide) hw) ?_
    | with_reducible refine State.markStaged_still _ _ ?_
    | with_reducible refine State.endEvents_still _ _ _ (Wr.sub (by decide) hw) ?_
    | with_reducible refine State.modEngine_still _ _ _ ?_
    | with_reducible refine State.settleEntering_still _ (Wr.sub (by decide) hw) ?_
    | with_reducible refine State.settleHeld_still _ _ (Wr.sub (by decide) hw) ?_
    | with_reducible apply Still.ite
    | split
    | dsimp only; split

end Sys2Proof.Machine
end

