-- ==== Sys2Proof/Laws/StillBursar.lean ====
section
/-!
SUPPORT. Which register fields the operations of Machine/Bursar.lean can write (Laws/Still.lean), as bits by the field's number, and
that they leave every other as it was.
-/
namespace Sys2Proof.Machine

set_option linter.unusedTactic false
set_option linter.unreachableTactic false

theorem execBursarPair_still {F : Fld} {I V : Nat} (q_0 : Nat) (x : Nat) (s : State) (h : Still F I V s) :
    StillOut F I V (execBursarPair q_0 x s) := by
  unfold execBursarPair
  repeat' first
    | with_reducible assumption
    | with_reducible apply StillOut.next
    | with_reducible apply StillOut.ite
    | intro _
    | with_reducible refine State.modPhase_still _ _ _ _ ?_
    | with_reducible apply Still.ite
    | fail_if_no_progress with_reducible apply Still.upd
    | split
    | dsimp only; split

theorem State.increment_still {F : Fld} {I V : Nat} (s : State) (x : Fp) (h : Still F I V s) :
    Still F I V (State.increment s x).2 := by
  unfold State.increment
  repeat' first
    | with_reducible assumption
    | intro _
    | with_reducible refine State.fresh_still _ _ ?_
    | (with_reducible refine Still.snd ?_ (by assumption)); with_reducible refine State.fresh_still _ _ ?_
    | with_reducible apply Still.ite
    | with_reducible apply Still.iteSnd
    | dsimp only
    | split
    | (with_reducible apply Still.upd); split

theorem State.accumulate_still {F : Fld} {I V : Nat} (s : State) (l : List Nat) (a : Nat) (x : Fp) (h : Still F I V s) :
    Still F I V (State.accumulate s l a x).2 := by
  unfold State.accumulate
  repeat' first
    | with_reducible assumption
    | intro _
    | with_reducible refine State.increment_still _ _ ?_
    | (with_reducible refine Still.snd ?_ (by assumption)); with_reducible refine State.increment_still _ _ ?_
    | dsimp only
    | split
    | (with_reducible apply Still.upd); split

theorem State.accumulateSet_still {F : Fld} {I V : Nat} (s : State) (l : List Nat) (base : Nat) (pt : Fp) (qt : Fp) (st :
    Fp) (p : Fp) (q_7 : Fp) (h : Still F I V s) :
    Still F I V (State.accumulateSet s l base pt qt st p q_7).2 := by
  unfold State.accumulateSet
  repeat' first
    | with_reducible assumption
    | intro _
    | with_reducible refine State.accumulate_still _ _ _ _ ?_
    | (with_reducible refine Still.snd ?_ (by assumption)); with_reducible refine State.accumulate_still _ _ _ _ ?_
    | dsimp only
    | split
    | (with_reducible apply Still.upd); split

def State.publish_writes : Nat :=
    0x100000000000000000000000000000000000000000000000000000000000000000000000000000000000000000000000000
theorem State.publish_still {F : Fld} {I V : Nat} (s : State) (q_1 : Nat) (l : List Fp) (hw : State.publish_writes.testBit
    F.ctorIdx = false) (h : Still F I V s) :
    Still F I V (State.publish s q_1 l) := by
  unfold State.publish
  repeat' first
    | with_reducible assumption
    | intro _
    | with_reducible refine State.setFld_still _ _ _ _ (W := State.publish_writes) ?_ hw ?_
    | decide
    | with_reducible apply Still.each
    | split
    | (with_reducible apply Still.upd); split

def State.closeDc_writes : Nat :=
    0x100000000000000000000000000000000000000000000000000000000000000000000000000000000000000000000000000
theorem State.closeDc_still {F : Fld} {I V : Nat} (s : State) (q_1 : Nat) (ph : List PhaseSums) (tt : Fp) (acc : List Nat)
    (hw : State.closeDc_writes.testBit F.ctorIdx = false) (h : Still F I V s) :
    Still F I V (State.closeDc s q_1 ph tt acc).2 := by
  unfold State.closeDc
  repeat' first
    | with_reducible assumption
    | intro _
    | with_reducible refine State.accumulate_still _ _ _ _ ?_
    | (with_reducible refine Still.snd ?_ (by assumption)); with_reducible refine State.accumulate_still _ _ _ _ ?_
    | with_reducible refine State.publish_still _ _ _ (Wr.sub (by decide) hw) ?_
    | with_reducible apply Still.ite
    | with_reducible apply Still.iteSnd
    | dsimp only
    | split
    | (with_reducible apply Still.upd); split

def State.closeAc_writes : Nat :=
    0x100000000000000000000000000000000000000000000000000000000000000000000000000000000000000000000000000
theorem State.closeAc_still {F : Fld} {I V : Nat} (s : State) (q_1 : Nat) (ph : List PhaseSums) (tt : Fp) (acc : List Nat)
    (hw : State.closeAc_writes.testBit F.ctorIdx = false) (h : Still F I V s) :
    Still F I V (State.closeAc s q_1 ph tt acc).2 := by
  unfold State.closeAc
  repeat' first
    | with_reducible assumption
    | intro _
    | with_reducible refine State.accumulateSet_still _ _ _ _ _ _ _ _ ?_
    | (with_reducible refine Still.snd ?_ (by assumption)); with_reducible refine State.accumulateSet_still _ _ _ _ _ _ _ _ ?_
    | with_reducible refine State.publish_still _ _ _ (Wr.sub (by decide) hw) ?_
    | with_reducible apply Still.ite
    | with_reducible apply Still.iteSnd
    | dsimp only
    | split
    | (with_reducible apply Still.upd); split

def State.closeSums_writes : Nat :=
    0x100000000000000000000000000000000000000000000000000000000000000000000000000000000000000000000000000
theorem State.closeSums_still {F : Fld} {I V : Nat} (s : State) (q_1 : Nat) (ph : List PhaseSums) (tt : Fp) (acc : List
    Nat) (hw : State.closeSums_writes.testBit F.ctorIdx = false) (h : Still F I V s) :
    Still F I V (State.closeSums s q_1 ph tt acc).2 := by
  unfold State.closeSums
  repeat' first
    | with_reducible assumption
    | intro _
    | with_reducible refine State.closeDc_still _ _ _ _ _ (Wr.sub (by decide) hw) ?_
    | (with_reducible refine Still.snd ?_ (by assumption)); with_reducible refine State.closeDc_still _ _ _ _ _ (Wr.sub (by decide) hw) ?_
    | with_reducible refine State.closeAc_still _ _ _ _ _ (Wr.sub (by decide) hw) ?_
    | (with_reducible refine Still.snd ?_ (by assumption)); with_reducible refine State.closeAc_still _ _ _ _ _ (Wr.sub (by decide) hw) ?_
    | with_reducible apply Still.ite
    | with_reducible apply Still.iteSnd
    | dsimp only
    | split
    | (with_reducible apply Still.upd); split

def State.closeCycle_writes : Nat :=
    0x100000000000000000000000000000000000000000000000000000000000000000000000000000000000000000000000000
theorem State.closeCycle_still {F : Fld} {I V : Nat} (s : State) (q_1 : Nat) (len : Nat) (hw :
    State.closeCycle_writes.testBit F.ctorIdx = false) (h : Still F I V s) :
    Still F I V (State.closeCycle s q_1 len) := by
  unfold State.closeCycle
  repeat' first
    | with_reducible assumption
    | intro _
    | with_reducible refine State.modPhase_still _ _ _ _ ?_
    | with_reducible refine State.closeSums_still _ _ _ _ _ (Wr.sub (by decide) hw) ?_
    | (with_reducible refine Still.snd ?_ (by assumption)); with_reducible refine State.closeSums_still _ _ _ _ _ (Wr.sub (by decide) hw) ?_
    | with_reducible apply Still.each
    | fail_if_no_progress with_reducible apply Still.upd
    | split
    | (with_reducible apply Still.upd); split

def execMeteringCycleEnd_writes : Nat :=
    0x100000000000000000000000000000000000000000000000000000000000000000000000000000000000000000000000000
theorem execMeteringCycleEnd_still {F : Fld} {I V : Nat} (q_0 : Nat) (len : Nat) (s : State) (hw :
    execMeteringCycleEnd_writes.testBit F.ctorIdx = false) (h : Still F I V s) :
    StillOut F I V (execMeteringCycleEnd q_0 len s) := by
  unfold execMeteringCycleEnd
  repeat' first
    | with_reducible assumption
    | with_reducible apply StillOut.next
    | with_reducible apply StillOut.ite
    | intro _
    | with_reducible refine State.modPhase_still _ _ _ _ ?_
    | with_reducible refine State.modPoint_still _ _ _ ?_
    | with_reducible refine State.closeCycle_still _ _ _ (Wr.sub (by decide) hw) ?_
    | with_reducible apply Still.each
    | with_reducible apply Still.ite
    | split
    | dsimp only; split

def State.judge_writes : Nat :=
    0x1003a0000000000000000000000004000040000000000000000000000000400000000000000000000000000000000000000000000000000000000000000000000000003800000000000000
theorem State.judge_still {F : Fld} {I V : Nat} (s : State) (q_1 : Nat) (code : Nat) (ev : Option BurEvent) (starts : Bool)
    (ends : Bool) (phases : Nat) (now : Nat) (worse : Nat → Nat → Nat) (hw : State.judge_writes.testBit F.ctorIdx = false)
    (h : Still F I V s) :
    Still F I V (State.judge s q_1 code ev starts ends phases now worse).1 := by
  unfold State.judge
  repeat' first
    | with_reducible assumption
    | intro _
    | with_reducible refine State.burEvent_still _ _ _ _ _ _ _ _ (Wr.sub (by decide) hw) ?_
    | with_reducible refine State.libRecord_still _ _ _ _ _ (Wr.sub (by decide) hw) ?_
    | with_reducible apply Still.ite
    | with_reducible apply Still.iteFst
    | dsimp only
    | split
    | (with_reducible apply Still.upd); split

def execHalfCycleBoundary_writes : Nat :=
    0x1003a0000000000000000000000004000040000000000000000000000000400000000000000000000000000000000000000000000000000000000000000000000000003800000000000000
theorem execHalfCycleBoundary_still {F : Fld} {I V : Nat} (q_0 : Nat) (s : State) (hw :
    execHalfCycleBoundary_writes.testBit F.ctorIdx = false) (h : Still F I V s) :
    StillOut F I V (execHalfCycleBoundary q_0 s) := by
  unfold execHalfCycleBoundary
  repeat' first
    | with_reducible assumption
    | with_reducible apply StillOut.next
    | with_reducible apply StillOut.ite
    | intro _
    | with_reducible refine State.modPhase_still _ _ _ _ ?_
    | with_reducible refine State.modPoint_still _ _ _ ?_
    | with_reducible refine State.judge_still _ _ _ _ _ _ _ _ _ (Wr.sub (by decide) hw) ?_
    | (with_reducible refine Still.fst ?_ (by assumption)); with_reducible refine State.judge_still _ _ _ _ _ _ _ _ _ (Wr.sub (by decide) hw) ?_
    | with_reducible apply Still.each
    | with_reducible apply Still.foldl
    | with_reducible apply Still.ite
    | split
    | dsimp only; split

def State.requestLatch_writes : Nat :=
    0x20000000000000000000000000000000000000000000000000000000000000000000000000000000000000000
theorem State.requestLatch_still {F : Fld} {I V : Nat} (s : State) (mask : Nat) (hw : State.requestLatch_writes.testBit
    F.ctorIdx = false) (h : Still F I V s) :
    Still F I V (State.requestLatch s mask) := by
  unfold State.requestLatch
  repeat' first
    | with_reducible assumption
    | intro _
    | with_reducible refine State.setFld_still _ _ _ _ (W := State.requestLatch_writes) ?_ hw ?_
    | decide
    | fail_if_no_progress with_reducible apply Still.upd
    | split
    | (with_reducible apply Still.upd); split

def execBurLatchWrite_writes : Nat :=
    0x100220000000000000000003000000000000000000000000000000000000020000000000000000000000000000000000000000000000000000000000000000000000000000000000000000
theorem execBurLatchWrite_still {F : Fld} {I V : Nat} (core : Nat) (mask : Nat) (s : State) (hw :
    execBurLatchWrite_writes.testBit F.ctorIdx = false) (h : Still F I V s) :
    StillOut F I V (execBurLatchWrite core mask s) := by
  unfold execBurLatchWrite
  repeat' first
    | with_reducible assumption
    | with_reducible apply StillOut.next
    | intro _
    | with_reducible refine State.accessBlk_still _ _ _ _ _ (Wr.sub (by decide) hw) ?_ ?_
    | with_reducible refine State.requestLatch_still _ _ (Wr.sub (by decide) hw) ?_
    | split
    | dsimp only; split

def State.bursarLatch_writes : Nat :=
    0xf8000000030000000000000000000000000000000000000000000000000000000000000000000000000000000000000000
theorem State.bursarLatch_still {F : Fld} {I V : Nat} (s : State) (points : Nat) (ts : Nat) (hw :
    State.bursarLatch_writes.testBit F.ctorIdx = false) (h : Still F I V s) :
    Still F I V (State.bursarLatch s points ts) := by
  unfold State.bursarLatch
  repeat' first
    | with_reducible assumption
    | intro _
    | with_reducible refine State.setFld_still _ _ _ _ (W := State.bursarLatch_writes) ?_ hw ?_
    | decide
    | with_reducible apply Still.each
    | split
    | (with_reducible apply Still.upd); split

def State.saveDue_writes : Nat :=
    0x1003a0000000000000000000000004000040000000000000000000000000400000000000000000000000000000000000000000000000000000000000000000000000003800000000000000
theorem State.saveDue_still {F : Fld} {I V : Nat} (s : State) (hw : State.saveDue_writes.testBit F.ctorIdx = false) (h :
    Still F I V s) :
    Still F I V (State.saveDue s) := by
  unfold State.saveDue
  repeat' first
    | with_reducible assumption
    | intro _
    | with_reducible refine State.libRecord_still _ _ _ _ _ (Wr.sub (by decide) hw) ?_
    | split
    | (with_reducible apply Still.upd); split

def execBurSaveNowWrite_writes : Nat :=
    0x1003a0000000000000000003000004000040000000000000000000000000400000000000000000000000000000000000000000000000000000000000000000000000003800000000000000
theorem execBurSaveNowWrite_still {F : Fld} {I V : Nat} (core : Nat) (s : State) (hw : execBurSaveNowWrite_writes.testBit
    F.ctorIdx = false) (h : Still F I V s) :
    StillOut F I V (execBurSaveNowWrite core s) := by
  unfold execBurSaveNowWrite
  repeat' first
    | with_reducible assumption
    | with_reducible apply StillOut.next
    | intro _
    | with_reducible refine State.accessBlk_still _ _ _ _ _ (Wr.sub (by decide) hw) ?_ ?_
    | with_reducible refine State.saveDue_still _ (Wr.sub (by decide) hw) ?_
    | split
    | dsimp only; split

def execBursarRestore_writes : Nat :=
    0x20300000000000000000000000000000000000000000000000000000000000000000000000000000000000000000
theorem execBursarRestore_still {F : Fld} {I V : Nat} (s : State) (hw : execBursarRestore_writes.testBit F.ctorIdx = false)
    (h : Still F I V s) :
    StillOut F I V (execBursarRestore s) := by
  unfold execBursarRestore
  repeat' first
    | with_reducible assumption
    | with_reducible apply StillOut.next
    | with_reducible apply StillOut.ite
    | intro _
    | with_reducible refine State.setFld_still _ _ _ _ (W := execBursarRestore_writes) ?_ hw ?_
    | with_reducible refine State.setFlag_still _ _ _ _ (W := execBursarRestore_writes) ?_ hw ?_
    | decide
    | with_reducible apply Still.each
    | with_reducible apply Still.ite
    | fail_if_no_progress with_reducible apply Still.upd
    | split
    | dsimp only; split

def State.writeSpans_writes : Nat :=
    0x1003a0000000000000000000000004000040000000000000000000000000600000000000000000000000000000000000000000000000000000000000000000000000003800000000000000
theorem State.writeSpans_still {F : Fld} {I V : Nat} (s : State) (hw : State.writeSpans_writes.testBit F.ctorIdx = false)
    (h : Still F I V s) :
    Still F I V (State.writeSpans s) := by
  unfold State.writeSpans
  repeat' first
    | with_reducible assumption
    | intro _
    | with_reducible refine State.setFld_still _ _ _ _ (W := State.writeSpans_writes) ?_ hw ?_
    | decide
    | with_reducible refine State.libRecord_still _ _ _ _ _ (Wr.sub (by decide) hw) ?_
    | with_reducible refine State.emit_still _ _ _ (Wr.sub (by decide) hw) ?_
    | with_reducible apply Still.each
    | fail_if_no_progress with_reducible apply Still.upd
    | split
    | (with_reducible apply Still.upd); split

def State.theftSecond_writes : Nat :=
    0x8000000000000000000000000000000000000000000000000000000000000000000000000000000000000000000
theorem State.theftSecond_still {F : Fld} {I V : Nat} (s : State) (hw : State.theftSecond_writes.testBit F.ctorIdx = false)
    (h : Still F I V s) :
    Still F I V (State.theftSecond s) := by
  unfold State.theftSecond
  repeat' first
    | with_reducible assumption
    | intro _
    | with_reducible refine State.count_still _ _ _ (W := State.theftSecond_writes) ?_ hw ?_
    | decide
    | with_reducible apply Still.ite
    | fail_if_no_progress with_reducible apply Still.upd
    | split
    | (with_reducible apply Still.upd); split

theorem execTheftWindowClock_still {F : Fld} {I V : Nat} (s : State) (h : Still F I V s) :
    StillOut F I V (execTheftWindowClock s) := by
  unfold execTheftWindowClock
  repeat' first
    | with_reducible assumption
    | with_reducible apply StillOut.next
    | with_reducible apply StillOut.ite
    | intro _
    | with_reducible apply Still.ite
    | fail_if_no_progress with_reducible apply Still.upd
    | split
    | dsimp only; split

theorem State.theftWordsN_still {F : Fld} {I V : Nat} (l : List Bool) (x1 : Nat) (x2 : State) (h : Still F I V x2) :
    Still F I V (State.theftWordsN l x1 x2).2 := by
  induction x1 with
  | zero => exact h
  | succ n ih =>
    unfold State.theftWordsN
    exact State.mainOutput_still _ _ _ _ ih

theorem State.theftWords_still {F : Fld} {I V : Nat} (s : State) (l : List Bool) (h : Still F I V s) :
    Still F I V (State.theftWords s l).2 := by
  unfold State.theftWords
  repeat' first
    | with_reducible assumption
    | intro _
    | with_reducible refine State.theftWordsN_still _ _ _ ?_
    | (with_reducible refine Still.snd ?_ (by assumption)); with_reducible refine State.theftWordsN_still _ _ _ ?_
    | dsimp only
    | split
    | (with_reducible apply Still.upd); split

theorem State.theftCharge_still {F : Fld} {I V : Nat} (s : State) (c : Nat) (l : List Int) (h : Still F I V s) :
    Still F I V (State.theftCharge s c l).2 := by
  unfold State.theftCharge
  repeat' first
    | with_reducible assumption
    | intro _
    | with_reducible refine State.fresh_still _ _ ?_
    | (with_reducible refine Still.snd ?_ (by assumption)); with_reducible refine State.fresh_still _ _ ?_
    | with_reducible apply Still.foldl
    | with_reducible apply Still.ite
    | with_reducible apply Still.iteSnd
    | dsimp only
    | split
    | (with_reducible apply Still.upd); split

def State.theftAdd_writes : Nat :=
    0x1003a0000000000000000000000004000040000000000000000000000021400000000000000000000000000000000000000000000000000000000000000000000000003800000000000000
theorem State.theftAdd_still {F : Fld} {I V : Nat} (s : State) (c : Nat) (words : List Int) (hw :
    State.theftAdd_writes.testBit F.ctorIdx = false) (h : Still F I V s) :
    Still F I V (State.theftAdd s c words) := by
  unfold State.theftAdd
  repeat' first
    | with_reducible assumption
    | intro _
    | with_reducible refine State.setFld_still _ _ _ _ (W := State.theftAdd_writes) ?_ hw ?_
    | decide
    | with_reducible refine State.theftCharge_still _ _ _ ?_
    | (with_reducible refine Still.snd ?_ (by assumption)); with_reducible refine State.theftCharge_still _ _ _ ?_
    | with_reducible refine State.burLate_still _ _ (Wr.sub (by decide) hw) ?_
    | with_reducible refine State.libRecord_still _ _ _ _ _ (Wr.sub (by decide) hw) ?_
    | with_reducible apply Still.ite
    | fail_if_no_progress with_reducible apply Still.upd
    | split
    | (with_reducible apply Still.upd); split

def execTheftWindowEnd_writes : Nat :=
    0x1003a0000000000000000000000004000040000000000000000000000021400000000000000000000000000000000000000000000000000000000000000000000000003800000000000000
theorem execTheftWindowEnd_still {F : Fld} {I V : Nat} (samples : List Nat) (s : State) (hw :
    execTheftWindowEnd_writes.testBit F.ctorIdx = false) (h : Still F I V s) :
    StillOut F I V (execTheftWindowEnd samples s) := by
  unfold execTheftWindowEnd
  repeat' first
    | with_reducible assumption
    | with_reducible apply StillOut.next
    | with_reducible apply StillOut.ite
    | intro _
    | with_reducible refine State.theftWords_still _ _ ?_
    | (with_reducible refine Still.snd ?_ (by assumption)); with_reducible refine State.theftWords_still _ _ ?_
    | with_reducible refine State.theftAdd_still _ _ _ (Wr.sub (by decide) hw) ?_
    | with_reducible apply Still.each
    | with_reducible apply Still.ite
    | fail_if_no_progress with_reducible apply Still.upd
    | split
    | dsimp only; split

def State.theftClear_writes : Nat :=
    0x20000000000000000000000000000000000000000000000000000000000000000000000000000000000000000000
theorem State.theftClear_still {F : Fld} {I V : Nat} (s : State) (hw : State.theftClear_writes.testBit F.ctorIdx = false)
    (h : Still F I V s) :
    Still F I V (State.theftClear s) := by
  unfold State.theftClear
  repeat' first
    | with_reducible assumption
    | intro _
    | with_reducible refine State.setFld_still _ _ _ _ (W := State.theftClear_writes) ?_ hw ?_
    | decide
    | with_reducible apply Still.each
    | with_reducible apply Still.ite
    | fail_if_no_progress with_reducible apply Still.upd
    | split
    | (with_reducible apply Still.upd); split

def execTheftClrWrite_writes : Nat :=
    0x100220000000000000000003000000000000000000000000000000000020000000000000000000000000000000000000000000000000000000000000000000000000000000000000000000
theorem execTheftClrWrite_still {F : Fld} {I V : Nat} (core : Nat) (s : State) (hw : execTheftClrWrite_writes.testBit
    F.ctorIdx = false) (h : Still F I V s) :
    StillOut F I V (execTheftClrWrite core s) := by
  unfold execTheftClrWrite
  repeat' first
    | with_reducible assumption
    | with_reducible apply StillOut.next
    | intro _
    | with_reducible refine State.accessBlk_still _ _ _ _ _ (Wr.sub (by decide) hw) ?_ ?_
    | with_reducible refine State.theftClear_still _ (Wr.sub (by decide) hw) ?_
    | split
    | dsimp only; split

def State.bursarApplied_writes : Nat :=
    0x100000000000000000000000000000000000000000000000000000000000000000000000000000000000000000000000000
theorem State.bursarApplied_still {F : Fld} {I V : Nat} (s : State) (was : State) (hw : State.bursarApplied_writes.testBit
    F.ctorIdx = false) (h : Still F I V s) (hwas : Still F I V was) :
    Still F I V (State.bursarApplied s was) := by
  unfold State.bursarApplied
  repeat' first
    | with_reducible assumption
    | intro _
    | with_reducible refine State.setFld_still _ _ _ _ (W := State.bursarApplied_writes) ?_ hw ?_
    | decide
    | with_reducible refine State.closeCycle_still _ _ _ (Wr.sub (by decide) hw) ?_
    | with_reducible refine State.modPoint_still _ _ _ ?_
    | with_reducible apply Still.each
    | with_reducible apply Still.ite
    | fail_if_no_progress with_reducible apply Still.upd
    | split
    | (with_reducible apply Still.upd); split

end Sys2Proof.Machine
end

