-- ==== Sys2Proof/Laws/StillIntegrity.lean ====
section
/-!
SUPPORT. Which register fields the operations of Machine/Integrity.lean can write (Laws/Still.lean), as bits by the field's number, and
that they leave every other as it was.
-/
namespace Sys2Proof.Machine

set_option linter.unusedTactic false
set_option linter.unreachableTactic false

theorem State.writeBack_still {F : Fld} {I V : Nat} (s : State) (mem : Nat) (w : Nat) (data : Nat) (h : Still F I V s) :
    Still F I V (State.writeBack s mem w data) := by
  unfold State.writeBack
  repeat' first
    | with_reducible assumption
    | intro _
    | with_reducible refine State.satWriteWord_still _ _ _ ?_
    | (with_reducible refine Still.snd ?_ (by assumption)); with_reducible refine State.satWriteWord_still _ _ _ ?_
    | with_reducible refine State.setDtcmWord_still _ _ _ _ ?_
    | with_reducible refine State.setEngWord_still _ _ _ _ ?_
    | with_reducible apply Still.ite
    | fail_if_no_progress with_reducible apply Still.upd
    | split
    | (with_reducible apply Still.upd); split

def State.retireBank_writes : Nat :=
    0x100220000000000000000000000000000000000278000000000000000000000000000000000000000000000000000000000000000000000000000000000000000000000000000000000000
theorem State.retireBank_still {F : Fld} {I V : Nat} (s : State) (b : Nat) (hw : State.retireBank_writes.testBit F.ctorIdx
    = false) (h : Still F I V s) :
    Still F I V (State.retireBank s b) := by
  unfold State.retireBank
  repeat' first
    | with_reducible assumption
    | intro _
    | with_reducible refine State.setFld_still _ _ _ _ (W := State.retireBank_writes) ?_ hw ?_
    | with_reducible refine State.setBit_still _ _ _ _ _ (W := State.retireBank_writes) ?_ hw ?_
    | decide
    | with_reducible refine State.intEvent_still _ _ _ _ _ _ (Wr.sub (by decide) hw) ?_
    | with_reducible refine State.recordRepair_still _ _ _ _ _ (Wr.sub (by decide) hw) ?_
    | with_reducible apply Still.whenIf
    | with_reducible apply Still.ite
    | split
    | (with_reducible apply Still.upd); split

def State.bankFound_writes : Nat :=
    0x100220000000000000000000000000000000000278000000000000000000000000000000000000000000000000000000000000000000000000000000000000000000000000000000000000
theorem State.bankFound_still {F : Fld} {I V : Nat} (s : State) (mem : Nat) (w : Nat) (hw : State.bankFound_writes.testBit
    F.ctorIdx = false) (h : Still F I V s) :
    Still F I V (State.bankFound s mem w) := by
  unfold State.bankFound
  repeat' first
    | with_reducible assumption
    | intro _
    | with_reducible refine State.retireBank_still _ _ (Wr.sub (by decide) hw) ?_
    | with_reducible apply Still.whenIf
    | with_reducible apply Still.ite
    | fail_if_no_progress with_reducible apply Still.upd
    | split
    | (with_reducible apply Still.upd); split

def execSatRetWrite_writes : Nat :=
    0x100220000000000000000003000000000000000278000000000000000000000000000000000000000000000000000000000000000000000000000000000000000000000000000000000000
theorem execSatRetWrite_still {F : Fld} {I V : Nat} (core : Nat) (bank : Nat) (go : Bool) (s : State) (hw :
    execSatRetWrite_writes.testBit F.ctorIdx = false) (h : Still F I V s) :
    StillOut F I V (execSatRetWrite core bank go s) := by
  unfold execSatRetWrite
  repeat' first
    | with_reducible assumption
    | with_reducible apply StillOut.next
    | intro _
    | with_reducible refine State.accessBlk_still _ _ _ _ _ (Wr.sub (by decide) hw) ?_ ?_
    | with_reducible refine State.retireBank_still _ _ (Wr.sub (by decide) hw) ?_
    | with_reducible apply Still.whenIf
    | split
    | dsimp only; split

def State.replaceColumn_writes : Nat :=
    0x100220000000000000000000000000000000600218000000000000000000000000000000000000000000000000000000000000000000000000000000000000000000000000000000000000
theorem State.replaceColumn_still {F : Fld} {I V : Nat} (s : State) (mem : Nat) (w : Nat) (col : Nat) (k : Nat) (hw :
    State.replaceColumn_writes.testBit F.ctorIdx = false) (h : Still F I V s) :
    Still F I V (State.replaceColumn s mem w col k) := by
  unfold State.replaceColumn
  repeat' first
    | with_reducible assumption
    | intro _
    | with_reducible refine State.putRemain_still _ _ _ (Wr.sub (by decide) hw) ?_
    | with_reducible refine State.recordRepair_still _ _ _ _ _ (Wr.sub (by decide) hw) ?_
    | with_reducible refine State.intEvent_still _ _ _ _ _ _ (Wr.sub (by decide) hw) ?_
    | with_reducible refine State.noteFloor_still _ _ _ (Wr.sub (by decide) hw) ?_
    | fail_if_no_progress with_reducible apply Still.upd
    | split
    | (with_reducible apply Still.upd); split

def State.replaceRow_writes : Nat :=
    0x100220000000000000000000000000000000600218000000000000000000000000000000000000000000000000000000000000000000000000000000000000000000000000000000000000
theorem State.replaceRow_still {F : Fld} {I V : Nat} (s : State) (mem : Nat) (w : Nat) (k : Nat) (hw :
    State.replaceRow_writes.testBit F.ctorIdx = false) (h : Still F I V s) :
    Still F I V (State.replaceRow s mem w k) := by
  unfold State.replaceRow
  repeat' first
    | with_reducible assumption
    | intro _
    | with_reducible refine State.putRemain_still _ _ _ (Wr.sub (by decide) hw) ?_
    | with_reducible refine State.recordRepair_still _ _ _ _ _ (Wr.sub (by decide) hw) ?_
    | with_reducible refine State.intEvent_still _ _ _ _ _ _ (Wr.sub (by decide) hw) ?_
    | with_reducible refine State.noteFloor_still _ _ _ (Wr.sub (by decide) hw) ?_
    | fail_if_no_progress with_reducible apply Still.upd
    | split
    | (with_reducible apply Still.upd); split

def State.hardFault_writes : Nat :=
    0x100220000000000000000000000000000000610218000000000000000000000000000000000000000000000000000000000000000000000000000000000000000000000000000000000000
theorem State.hardFault_still {F : Fld} {I V : Nat} (s : State) (m : Nat) (mem : Nat) (w : Nat) (bit : Nat) (nerr : Nat)
    (hw : State.hardFault_writes.testBit F.ctorIdx = false) (h : Still F I V s) :
    Still F I V (State.hardFault s m mem w bit nerr) := by
  unfold State.hardFault
  repeat' first
    | with_reducible assumption
    | intro _
    | with_reducible refine State.count_still _ _ _ (W := State.hardFault_writes) ?_ hw ?_
    | decide
    | with_reducible refine State.intEvent_still _ _ _ _ _ _ (Wr.sub (by decide) hw) ?_
    | with_reducible refine State.replaceColumn_still _ _ _ _ _ (Wr.sub (by decide) hw) ?_
    | with_reducible refine State.replaceRow_still _ _ _ _ (Wr.sub (by decide) hw) ?_
    | with_reducible apply Still.ite
    | fail_if_no_progress with_reducible apply Still.upd
    | split
    | (with_reducible apply Still.upd); split

def State.scrubNext_writes : Nat :=
    0x22000000000000000000000000000000000000000000000000000000000000000000000000000000000000000000000000000000000000000
theorem State.scrubNext_still {F : Fld} {I V : Nat} (s : State) (m : Nat) (n : Nat) (hw : State.scrubNext_writes.testBit
    F.ctorIdx = false) (h : Still F I V s) :
    Still F I V (State.scrubNext s m n) := by
  unfold State.scrubNext
  repeat' first
    | with_reducible assumption
    | intro _
    | with_reducible refine State.setFld_still _ _ _ _ (W := State.scrubNext_writes) ?_ hw ?_
    | with_reducible refine State.count_still _ _ _ (W := State.scrubNext_writes) ?_ hw ?_
    | decide
    | with_reducible apply Still.ite
    | fail_if_no_progress with_reducible apply Still.upd
    | split
    | (with_reducible apply Still.upd); split

def State.scrubCorrected_writes : Nat :=
    0x100220000000000000000000000000000000694218000000000000000000000000000000000000000000000000000000000000000000000000000000000000000000000000000000000000
theorem State.scrubCorrected_still {F : Fld} {I V : Nat} (s : State) (m : Nat) (mem : Nat) (w : Nat) (data : Nat) (nerr :
    Nat) (bit : Nat) (written : Bool) (hw : State.scrubCorrected_writes.testBit F.ctorIdx = false) (h : Still F I V s) :
    Still F I V (State.scrubCorrected s m mem w data nerr bit written) := by
  unfold State.scrubCorrected
  repeat' first
    | with_reducible assumption
    | intro _
    | with_reducible refine State.setFld_still _ _ _ _ (W := State.scrubCorrected_writes) ?_ hw ?_
    | with_reducible refine State.count_still _ _ _ (W := State.scrubCorrected_writes) ?_ hw ?_
    | decide
    | with_reducible refine State.writeBack_still _ _ _ _ ?_
    | with_reducible refine State.intEvent_still _ _ _ _ _ _ (Wr.sub (by decide) hw) ?_
    | with_reducible refine State.hardFault_still _ _ _ _ _ _ (Wr.sub (by decide) hw) ?_
    | with_reducible apply Still.whenIf
    | with_reducible apply Still.ite
    | fail_if_no_progress with_reducible apply Still.upd
    | split
    | (with_reducible apply Still.upd); split

def execScrubRead_writes : Nat :=
    0x1002200000000000000000000000000000006be278000000000000000000000000000000000000000000000000000000000000000000000000000000000000000000000000000000000000
theorem execScrubRead_still {F : Fld} {I V : Nat} (m : Nat) (stored : Nat) (written : Bool) (s : State) (hw :
    execScrubRead_writes.testBit F.ctorIdx = false) (h : Still F I V s) :
    StillOut F I V (execScrubRead m stored written s) := by
  unfold execScrubRead
  repeat' first
    | with_reducible assumption
    | with_reducible apply StillOut.next
    | with_reducible apply StillOut.ite
    | intro _
    | with_reducible refine State.count_still _ _ _ (W := execScrubRead_writes) ?_ hw ?_
    | decide
    | with_reducible refine State.scrubNext_still _ _ _ (Wr.sub (by decide) hw) ?_
    | with_reducible refine State.scrubCorrected_still _ _ _ _ _ _ _ _ (Wr.sub (by decide) hw) ?_
    | with_reducible refine State.mark_still _ _ _ _ ?_
    | with_reducible refine State.bankFound_still _ _ _ (Wr.sub (by decide) hw) ?_
    | with_reducible refine State.intEvent_still _ _ _ _ _ _ (Wr.sub (by decide) hw) ?_
    | with_reducible apply Still.ite
    | split
    | dsimp only; split

def execScrubPassOverdue_writes : Nat :=
    0x100220000000000000000000000000000000000004000000000000000000000000000000000000000000000000000000000000000000000000000000000000000000000000000000000000
theorem execScrubPassOverdue_still {F : Fld} {I V : Nat} (m : Nat) (s : State) (hw : execScrubPassOverdue_writes.testBit
    F.ctorIdx = false) (h : Still F I V s) :
    StillOut F I V (execScrubPassOverdue m s) := by
  unfold execScrubPassOverdue
  repeat' first
    | with_reducible assumption
    | with_reducible apply StillOut.next
    | with_reducible apply StillOut.ite
    | intro _
    | with_reducible refine State.setBit_still _ _ _ _ _ (W := execScrubPassOverdue_writes) ?_ hw ?_
    | decide
    | with_reducible refine State.intEvent_still _ _ _ _ _ _ (Wr.sub (by decide) hw) ?_
    | with_reducible apply Still.ite
    | split
    | dsimp only; split

def State.restorePoint_writes : Nat :=
    0x200000000000000000000000000000000000000000000000000000000000000000000000000000000000000000
theorem State.restorePoint_still {F : Fld} {I V : Nat} (s : State) (q_1 : Nat) (hw : State.restorePoint_writes.testBit
    F.ctorIdx = false) (h : Still F I V s) :
    Still F I V (State.restorePoint s q_1) := by
  unfold State.restorePoint
  repeat' first
    | with_reducible assumption
    | intro _
    | with_reducible refine State.setFld_still _ _ _ _ (W := State.restorePoint_writes) ?_ hw ?_
    | decide
    | fail_if_no_progress with_reducible apply Still.upd
    | split
    | (with_reducible apply Still.upd); split

def State.consumerSees_writes : Nat :=
    0x10181003e0800000000002000003000000000000640218000000200000000000a00803403f80000000006c000210000827c0000000000000000002000908000000000000000000000001000000
theorem State.consumerSees_still {F : Fld} {I V : Nat} (s : State) (c : Consumer) (addr : Nat) (hw :
    State.consumerSees_writes.testBit F.ctorIdx = false) (h : Still F I V s) :
    Still F I V (State.consumerSees s c addr) := by
  unfold State.consumerSees
  repeat' first
    | with_reducible assumption
    | intro _
    | with_reducible refine State.coreFault_still _ _ _ _ ?_
    | with_reducible refine State.finish_still _ _ _ _ (Wr.sub (by decide) hw) ?_
    | with_reducible refine State.portFault_still _ _ _ _ (Wr.sub (by decide) hw) ?_
    | with_reducible refine State.engineFault_still _ _ _ (Wr.sub (by decide) hw) ?_
    | with_reducible refine State.restorePoint_still _ _ (Wr.sub (by decide) hw) ?_
    | with_reducible refine State.offer_still _ _ _ (Wr.sub (by decide) hw) ?_
    | with_reducible apply Still.whenIf
    | with_reducible apply Still.ite
    | fail_if_no_progress with_reducible apply Still.upd
    | split
    | (with_reducible apply Still.upd); split

def execUncorrectableRead_writes : Nat :=
    0x10181003e0800000000002000003000000000000640278000000200000000000a00803403f80000000006c000210000827c0000000000000000002000908000000000000000000000001000000
theorem execUncorrectableRead_still {F : Fld} {I V : Nat} (c : Consumer) (mem : Nat) (w : Nat) (stored : Nat) (s : State)
    (hw : execUncorrectableRead_writes.testBit F.ctorIdx = false) (h : Still F I V s) :
    StillOut F I V (execUncorrectableRead c mem w stored s) := by
  unfold execUncorrectableRead
  repeat' first
    | with_reducible assumption
    | with_reducible apply StillOut.next
    | with_reducible apply StillOut.ite
    | intro _
    | with_reducible refine State.consumerSees_still _ _ _ (Wr.sub (by decide) hw) ?_
    | with_reducible refine State.badRead_still _ _ _ _ (Wr.sub (by decide) hw) ?_
    | with_reducible refine State.mark_still _ _ _ _ ?_
    | with_reducible refine State.bankFound_still _ _ _ (Wr.sub (by decide) hw) ?_
    | with_reducible apply Still.ite
    | split
    | dsimp only; split

def State.applyRepair_writes : Nat :=
    0x60000000800000000000000000000f80000000000000000000000000000000000000000000001810000000000000000000000000000300
theorem State.applyRepair_still {F : Fld} {I V : Nat} (s : State) (e : Nat) (hw : State.applyRepair_writes.testBit
    F.ctorIdx = false) (h : Still F I V s) :
    Still F I V (State.applyRepair s e) := by
  unfold State.applyRepair
  repeat' first
    | with_reducible assumption
    | intro _
    | with_reducible refine State.setFld_still _ _ _ _ (W := State.applyRepair_writes) ?_ hw ?_
    | with_reducible refine State.setBit_still _ _ _ _ _ (W := State.applyRepair_writes) ?_ hw ?_
    | decide
    | unfold substMap; split <;> decide
    | unfold substRet; split <;> decide
    | with_reducible apply Still.whenIf
    | with_reducible apply Still.ite
    | fail_if_no_progress with_reducible apply Still.upd
    | split
    | (with_reducible apply Still.upd); split

theorem State.zeroRow_still {F : Fld} {I V : Nat} (s : State) (e : Nat) (h : Still F I V s) :
    Still F I V (State.zeroRow s e) := by
  unfold State.zeroRow
  repeat' first
    | with_reducible assumption
    | intro _
    | with_reducible refine State.mark_still _ _ _ _ ?_
    | with_reducible refine State.writeBack_still _ _ _ _ ?_
    | with_reducible apply Still.each
    | with_reducible apply Still.ite
    | split
    | (with_reducible apply Still.upd); split

def State.repLoad_writes : Nat :=
    0x100220000000000000000000000000000000600270000000800000000000000000000f80000000000000000000000000000000000000000000001810000000000000000000000000000300
theorem State.repLoad_still {F : Fld} {I V : Nat} (s : State) (count : Nat) (hw : State.repLoad_writes.testBit F.ctorIdx =
    false) (h : Still F I V s) :
    Still F I V (State.repLoad s count) := by
  unfold State.repLoad
  repeat' first
    | with_reducible assumption
    | intro _
    | with_reducible refine State.setFld_still _ _ _ _ (W := State.repLoad_writes) ?_ hw ?_
    | decide
    | with_reducible refine State.zeroRow_still _ _ ?_
    | with_reducible refine State.applyRepair_still _ _ (Wr.sub (by decide) hw) ?_
    | with_reducible refine State.consumeSpare_still _ _ (Wr.sub (by decide) hw) ?_
    | with_reducible refine State.intEvent_still _ _ _ _ _ _ (Wr.sub (by decide) hw) ?_
    | with_reducible apply Still.each
    | with_reducible apply Still.ite
    | fail_if_no_progress with_reducible apply Still.upd
    | split
    | (with_reducible apply Still.upd); split

def execRepLoadWrite_writes : Nat :=
    0x100220000000000000000003000000000000600270000000800000000000000000000f80000000000000000000000000000000000000000000001810000000000000000000000000000300
theorem execRepLoadWrite_still {F : Fld} {I V : Nat} (core : Nat) (count : Nat) (s : State) (hw :
    execRepLoadWrite_writes.testBit F.ctorIdx = false) (h : Still F I V s) :
    StillOut F I V (execRepLoadWrite core count s) := by
  unfold execRepLoadWrite
  repeat' first
    | with_reducible assumption
    | with_reducible apply StillOut.next
    | intro _
    | with_reducible refine State.accessBlk_still _ _ _ _ _ (Wr.sub (by decide) hw) ?_ ?_
    | with_reducible refine State.repLoad_still _ _ (Wr.sub (by decide) hw) ?_
    | split
    | dsimp only; split

def execAgeingMeasure_writes : Nat :=
    0x100220000000000000000000000000000003000000000000000000000000000000000000000000000000000000000000000000000000000000000000000000000000000000000000000000
theorem execAgeingMeasure_still {F : Fld} {I V : Nat} (slow : List Nat) (s : State) (hw : execAgeingMeasure_writes.testBit
    F.ctorIdx = false) (h : Still F I V s) :
    StillOut F I V (execAgeingMeasure slow s) := by
  unfold execAgeingMeasure
  repeat' first
    | with_reducible assumption
    | with_reducible apply StillOut.next
    | intro _
    | with_reducible refine State.setFld_still _ _ _ _ (W := execAgeingMeasure_writes) ?_ hw ?_
    | with_reducible refine State.setFlag_still _ _ _ _ (W := execAgeingMeasure_writes) ?_ hw ?_
    | decide
    | with_reducible refine State.intEvent_still _ _ _ _ _ _ (Wr.sub (by decide) hw) ?_
    | with_reducible apply Still.whenIf
    | with_reducible apply Still.each
    | split
    | dsimp only; split

end Sys2Proof.Machine
end

