-- ==== Sys2Proof/Laws/StillSecurity.lean ====
section
/-!
SUPPORT. Which register fields the operations of Machine/Security.lean can write (Laws/Still.lean), as bits by the field's number, and
that they leave every other as it was.
-/
namespace Sys2Proof.Machine

set_option linter.unusedTactic false
set_option linter.unreachableTactic false

def execWorldViolation_writes : Nat :=
    0x1003a0000000000000000003000000000000000000000000000000000000000000000000000000000000000000000000000000000000000000000000000000000000000000000000000000
theorem execWorldViolation_still {F : Fld} {I V : Nat} (initiator : Nat) (addr : Nat) (cause : Nat) (s : State) (hw :
    execWorldViolation_writes.testBit F.ctorIdx = false) (h : Still F I V s) :
    StillOut F I V (execWorldViolation initiator addr cause s) := by
  unfold execWorldViolation
  repeat' first
    | with_reducible assumption
    | with_reducible apply StillOut.next
    | with_reducible apply StillOut.ite
    | intro _
    | with_reducible refine State.violation_still _ _ _ (Wr.sub (by decide) hw) ?_
    | with_reducible refine State.coreFault_still _ _ _ _ ?_
    | with_reducible refine State.event_still _ _ _ _ _ (Wr.sub (by decide) hw) ?_
    | with_reducible refine State.haltRing_still _ _ _ (Wr.sub (by decide) hw) ?_
    | with_reducible apply Still.ite
    | fail_if_no_progress with_reducible apply Still.upd
    | split
    | dsimp only; split

def State.secResult_writes : Nat :=
    0x800000000000000000000000000000000000000000000000000000000000000000000000000000000000000000000000000000000000000000000000000000
theorem State.secResult_still {F : Fld} {I V : Nat} (s : State) (r : Nat) (hw : State.secResult_writes.testBit F.ctorIdx =
    false) (h : Still F I V s) :
    Still F I V (State.secResult s r) := by
  unfold State.secResult
  repeat' first
    | with_reducible assumption
    | intro _
    | with_reducible refine State.setFld_still _ _ _ _ (W := State.secResult_writes) ?_ hw ?_
    | decide
    | split
    | (with_reducible apply Still.upd); split

def State.secCommand_writes : Nat :=
    0xc00000000000000000000000000000000000000000000000000000000000000000000000000000000000000000000000000000000000000000000000000000
theorem State.secCommand_still {F : Fld} {I V : Nat} (s : State) (core : Nat) (cmd : Nat) (cert : Option (List Nat))
    (target : Nat) (hw : State.secCommand_writes.testBit F.ctorIdx = false) (h : Still F I V s) :
    Still F I V (State.secCommand s core cmd cert target) := by
  unfold State.secCommand
  repeat' first
    | with_reducible assumption
    | intro _
    | with_reducible refine State.setFld_still _ _ _ _ (W := State.secCommand_writes) ?_ hw ?_
    | decide
    | with_reducible refine State.secResult_still _ _ (Wr.sub (by decide) hw) ?_
    | with_reducible apply Still.ite
    | fail_if_no_progress with_reducible apply Still.upd
    | split
    | (with_reducible apply Still.upd); split

def State.secCmdWrite_writes : Nat :=
    0xc00000000000000000000000000000000000000000000000000000000000000000000000000000000000000000000000000000000000000000000000000000
theorem State.secCmdWrite_still {F : Fld} {I V : Nat} (s : State) (core : Nat) (cmd : Nat) (hw :
    State.secCmdWrite_writes.testBit F.ctorIdx = false) (h : Still F I V s) :
    Still F I V (State.secCmdWrite s core cmd) := by
  unfold State.secCmdWrite
  repeat' first
    | with_reducible assumption
    | intro _
    | with_reducible refine State.secCommand_still _ _ _ _ _ (Wr.sub (by decide) hw) ?_
    | with_reducible refine State.secResult_still _ _ (Wr.sub (by decide) hw) ?_
    | with_reducible apply Still.ite
    | split
    | (with_reducible apply Still.upd); split

def State.secCmdBy_writes : Nat :=
    0x100220000000000000000003c00000000000000000000000000000000000000000000000000000000000000000000000000000000000000000000000000000000000000000000000000000
theorem State.secCmdBy_still {F : Fld} {I V : Nat} (s : State) (core : Nat) (cmd : Nat) (hw : State.secCmdBy_writes.testBit
    F.ctorIdx = false) (h : Still F I V s) :
    Still F I V (State.secCmdBy s core cmd) := by
  unfold State.secCmdBy
  repeat' first
    | with_reducible assumption
    | intro _
    | with_reducible refine State.accessBlk_still _ _ _ _ _ (Wr.sub (by decide) hw) ?_ ?_
    | with_reducible refine State.secCmdWrite_still _ _ _ (Wr.sub (by decide) hw) ?_
    | split
    | (with_reducible apply Still.upd); split

def execEnrol_writes : Nat :=
    0x100220000000000000000003c00000000000000000000000000000000000000000000000000000000000000000000000000000000000000000000000000000000000000000000000000000
theorem execEnrol_still {F : Fld} {I V : Nat} (core : Nat) (s : State) (hw : execEnrol_writes.testBit F.ctorIdx = false) (h
    : Still F I V s) :
    StillOut F I V (execEnrol core s) := by
  unfold execEnrol
  repeat' first
    | with_reducible assumption
    | with_reducible apply StillOut.next
    | intro _
    | with_reducible refine State.secCmdBy_still _ _ _ (Wr.sub (by decide) hw) ?_
    | split
    | dsimp only; split

def execTransfer_writes : Nat :=
    0x100220000000000000000003c00000000000000000000000000000000000000000000000000000000000000000000000000000000000000000000000000000000000000000000000000000
theorem execTransfer_still {F : Fld} {I V : Nat} (core : Nat) (s : State) (hw : execTransfer_writes.testBit F.ctorIdx =
    false) (h : Still F I V s) :
    StillOut F I V (execTransfer core s) := by
  unfold execTransfer
  repeat' first
    | with_reducible assumption
    | with_reducible apply StillOut.next
    | intro _
    | with_reducible refine State.secCmdBy_still _ _ _ (Wr.sub (by decide) hw) ?_
    | split
    | dsimp only; split

def execVendorOff_writes : Nat :=
    0x100220000000000000000003c00000000000000000000000000000000000000000000000000000000000000000000000000000000000000000000000000000000000000000000000000000
theorem execVendorOff_still {F : Fld} {I V : Nat} (core : Nat) (s : State) (hw : execVendorOff_writes.testBit F.ctorIdx =
    false) (h : Still F I V s) :
    StillOut F I V (execVendorOff core s) := by
  unfold execVendorOff
  repeat' first
    | with_reducible assumption
    | with_reducible apply StillOut.next
    | intro _
    | with_reducible refine State.secCmdBy_still _ _ _ (Wr.sub (by decide) hw) ?_
    | split
    | dsimp only; split

def execAdvance_writes : Nat :=
    0x100220000000000000000003c00000000000000000000000000000000000000000000000000000000000000000000000000000000000000000000000000000000000000000000000000000
theorem execAdvance_still {F : Fld} {I V : Nat} (core : Nat) (s : State) (hw : execAdvance_writes.testBit F.ctorIdx =
    false) (h : Still F I V s) :
    StillOut F I V (execAdvance core s) := by
  unfold execAdvance
  repeat' first
    | with_reducible assumption
    | with_reducible apply StillOut.next
    | intro _
    | with_reducible refine State.secCmdBy_still _ _ _ (Wr.sub (by decide) hw) ?_
    | split
    | dsimp only; split

def execSecCommandComplete_writes : Nat :=
    0x100220000000000000000000ce0000000000000000000000000000000000000000000000000000000000000000000000000000000000000000000000000000000000000000000000000000
theorem execSecCommandComplete_still {F : Fld} {I V : Nat} (s : State) (hw : execSecCommandComplete_writes.testBit
    F.ctorIdx = false) (h : Still F I V s) :
    StillOut F I V (execSecCommandComplete s) := by
  unfold execSecCommandComplete
  repeat' first
    | with_reducible assumption
    | with_reducible apply StillOut.next
    | with_reducible apply StillOut.ite
    | intro _
    | with_reducible refine State.setFld_still _ _ _ _ (W := execSecCommandComplete_writes) ?_ hw ?_
    | decide
    | with_reducible refine State.program_still _ _ _ (Wr.sub (by decide) hw) ?_
    | with_reducible refine State.secResult_still _ _ (Wr.sub (by decide) hw) ?_
    | with_reducible refine State.secEvent_still _ _ _ _ _ _ (Wr.sub (by decide) hw) ?_
    | with_reducible refine State.raise_still _ _ _ (Wr.sub (by decide) hw) ?_
    | with_reducible apply Still.whenIf
    | with_reducible apply Still.ite
    | fail_if_no_progress with_reducible apply Still.upd
    | split
    | dsimp only; split

theorem State.setTried_still {F : Fld} {I V : Nat} (s : State) (w : Wing) (l : List Nat) (h : Still F I V s) :
    Still F I V (State.setTried s w l) := by
  unfold State.setTried
  repeat' first
    | with_reducible assumption
    | intro _
    | fail_if_no_progress with_reducible apply Still.upd
    | split
    | (with_reducible apply Still.upd); split

def State.lockMap_writes : Nat :=
    0x1f810000000000000000000000000000000000000000000000000000000000000000000000000000000000000000000000000000000000000000000000000
theorem State.lockMap_still {F : Fld} {I V : Nat} (s : State) (i : List Nat) (hw : State.lockMap_writes.testBit F.ctorIdx =
    false) (h : Still F I V s) :
    Still F I V (State.lockMap s i) := by
  unfold State.lockMap
  repeat' first
    | with_reducible assumption
    | intro _
    | with_reducible refine State.setFld_still _ _ _ _ (W := State.lockMap_writes) ?_ hw ?_
    | decide
    | split
    | (with_reducible apply Still.upd); split

def State.startImage_writes : Nat :=
    0x103220000000000000000000000600000000000000000000000000000000000000000000000000000000000000000000000000000000000000000000000000000000000000000000000000
theorem State.startImage_still {F : Fld} {I V : Nat} (s : State) (w : Wing) (slot : Nat) (i : List Nat) (hw :
    State.startImage_writes.testBit F.ctorIdx = false) (h : Still F I V s) :
    Still F I V (State.startImage s w slot i) := by
  unfold State.startImage
  repeat' first
    | with_reducible assumption
    | intro _
    | with_reducible refine State.setFld_still _ _ _ _ (W := State.startImage_writes) ?_ hw ?_
    | with_reducible refine State.setFlag_still _ _ _ _ (W := State.startImage_writes) ?_ hw ?_
    | decide
    | with_reducible refine State.mark_still _ _ _ _ ?_
    | with_reducible refine State.secEvent_still _ _ _ _ _ _ (Wr.sub (by decide) hw) ?_
    | with_reducible apply Still.each
    | fail_if_no_progress with_reducible apply Still.upd
    | split
    | (with_reducible apply Still.upd); split

def execBootImageVerify_writes : Nat :=
    0x10322000000000000000000001ffd0000000000000000000000000000000000000000000000000000000000000000000000000000000000000000000000000000000000000000000000000
theorem execBootImageVerify_still {F : Fld} {I V : Nat} (w : Wing) (s : State) (hw : execBootImageVerify_writes.testBit
    F.ctorIdx = false) (h : Still F I V s) :
    StillOut F I V (execBootImageVerify w s) := by
  unfold execBootImageVerify
  repeat' first
    | with_reducible assumption
    | with_reducible apply StillOut.next
    | with_reducible apply StillOut.ite
    | intro _
    | with_reducible refine State.setFld_still _ _ _ _ (W := execBootImageVerify_writes) ?_ hw ?_
    | decide
    | with_reducible refine State.setTried_still _ _ _ ?_
    | with_reducible refine State.secEvent_still _ _ _ _ _ _ (Wr.sub (by decide) hw) ?_
    | with_reducible refine State.lockMap_still _ _ (Wr.sub (by decide) hw) ?_
    | with_reducible refine State.startImage_still _ _ _ _ (Wr.sub (by decide) hw) ?_
    | with_reducible apply Still.whenIf
    | with_reducible apply Still.ite
    | split
    | dsimp only; split

def execIdentityKeyDerive_writes : Nat :=
    0x100220000000000000000000000020000000000000000000000000000000000000000000000000000000000000000000000000000000000000000000000000000000000000000000000000
theorem execIdentityKeyDerive_still {F : Fld} {I V : Nat} (extracted : Option Nat) (s : State) (hw :
    execIdentityKeyDerive_writes.testBit F.ctorIdx = false) (h : Still F I V s) :
    StillOut F I V (execIdentityKeyDerive extracted s) := by
  unfold execIdentityKeyDerive
  repeat' first
    | with_reducible assumption
    | with_reducible apply StillOut.next
    | with_reducible apply StillOut.ite
    | intro _
    | with_reducible refine State.setFld_still _ _ _ _ (W := execIdentityKeyDerive_writes) ?_ hw ?_
    | decide
    | with_reducible refine State.secEvent_still _ _ _ _ _ _ (Wr.sub (by decide) hw) ?_
    | with_reducible apply Still.ite
    | fail_if_no_progress with_reducible apply Still.upd
    | split
    | dsimp only; split

theorem State.attestRequest_still {F : Fld} {I V : Nat} (s : State) (nonce : List Nat) (h : Still F I V s) :
    Still F I V (State.attestRequest s nonce) := by
  unfold State.attestRequest
  repeat' first
    | with_reducible assumption
    | intro _
    | with_reducible refine State.answer_still _ _ ?_
    | with_reducible apply Still.ite
    | fail_if_no_progress with_reducible apply Still.upd
    | split
    | (with_reducible apply Still.upd); split

theorem execAttestationRequest_still {F : Fld} {I V : Nat} (nonce : List Nat) (s : State) (h : Still F I V s) :
    StillOut F I V (execAttestationRequest nonce s) := by
  unfold execAttestationRequest
  repeat' first
    | with_reducible assumption
    | with_reducible apply StillOut.next
    | intro _
    | with_reducible refine State.attestRequest_still _ _ ?_
    | split
    | dsimp only; split

theorem execAttestationComplete_still {F : Fld} {I V : Nat} (s : State) (h : Still F I V s) :
    StillOut F I V (execAttestationComplete s) := by
  unfold execAttestationComplete
  repeat' first
    | with_reducible assumption
    | with_reducible apply StillOut.next
    | intro _
    | fail_if_no_progress with_reducible apply Still.upd
    | split
    | dsimp only; split

end Sys2Proof.Machine
end

