-- ==== Sys2Proof/Laws/StillPrefect.lean ====
section
/-!
SUPPORT. Which register fields the operations of Machine/Prefect.lean can write (Laws/Still.lean), as bits by the field's number, and
that they leave every other as it was.
-/
namespace Sys2Proof.Machine

set_option linter.unusedTactic false
set_option linter.unreachableTactic false

theorem State.modPf_still {F : Fld} {I V : Nat} (s : State) (f : PrefectSt → PrefectSt) (h : Still F I V s) :
    Still F I V (State.modPf s f) := by
  unfold State.modPf
  repeat' first
    | with_reducible assumption
    | intro _
    | fail_if_no_progress with_reducible apply Still.upd
    | split
    | (with_reducible apply Still.upd); split

def State.pfEvent_writes : Nat :=
    0x100220000000000000000000000000000000000000000000000000000000000000000000000000000000000000000000000000000000000000000000000000000000000000000000000000
theorem State.pfEvent_still {F : Fld} {I V : Nat} (s : State) (code : Nat) (chans : Nat) (hw : State.pfEvent_writes.testBit
    F.ctorIdx = false) (h : Still F I V s) :
    Still F I V (State.pfEvent s code chans) := by
  unfold State.pfEvent
  repeat' first
    | with_reducible assumption
    | intro _
    | with_reducible refine State.emit_still _ _ _ (Wr.sub (by decide) hw) ?_
    | split
    | (with_reducible apply Still.upd); split

def State.setPf_writes : Nat :=
    0x8000000000000000000000000000000000000000000000000000000000000000000000000000000000000000000000000000000000000000000000000000000
theorem State.setPf_still {F : Fld} {I V : Nat} (s : State) (st : Nat) (hw : State.setPf_writes.testBit F.ctorIdx = false)
    (h : Still F I V s) :
    Still F I V (State.setPf s st) := by
  unfold State.setPf
  repeat' first
    | with_reducible assumption
    | intro _
    | with_reducible refine State.setFld_still _ _ _ _ (W := State.setPf_writes) ?_ hw ?_
    | decide
    | split
    | (with_reducible apply Still.upd); split

theorem State.pfAct_still {F : Fld} {I V : Nat} (s : State) (demand : Bool) (h : Still F I V s) :
    Still F I V (State.pfAct s demand) := by
  unfold State.pfAct
  repeat' first
    | with_reducible assumption
    | intro _
    | with_reducible refine State.modPf_still _ _ ?_
    | split
    | (with_reducible apply Still.upd); split

def State.pfFault_writes : Nat :=
    0x100220000000000000030108000000000000000000000000000000000000000000000000000000000000000000000000000000000000000000000000000000000000000000000000000000
theorem State.pfFault_still {F : Fld} {I V : Nat} (s : State) (bit : Nat) (code : Nat) (chans : Nat) (hw :
    State.pfFault_writes.testBit F.ctorIdx = false) (h : Still F I V s) :
    Still F I V (State.pfFault s bit code chans) := by
  unfold State.pfFault
  repeat' first
    | with_reducible assumption
    | intro _
    | with_reducible refine State.setBit_still _ _ _ _ _ (W := State.pfFault_writes) ?_ hw ?_
    | with_reducible refine State.count_still _ _ _ (W := State.pfFault_writes) ?_ hw ?_
    | decide
    | with_reducible refine State.modPf_still _ _ ?_
    | with_reducible refine State.setPf_still _ _ (Wr.sub (by decide) hw) ?_
    | with_reducible refine State.pfAct_still _ _ ?_
    | with_reducible refine State.pfEvent_still _ _ _ (Wr.sub (by decide) hw) ?_
    | with_reducible apply Still.whenIf
    | with_reducible apply Still.ite
    | split
    | (with_reducible apply Still.upd); split

theorem execTestPulseStart_still {F : Fld} {I V : Nat} (ch : Nat) (s : State) (h : Still F I V s) :
    StillOut F I V (execTestPulseStart ch s) := by
  unfold execTestPulseStart
  repeat' first
    | with_reducible assumption
    | with_reducible apply StillOut.next
    | with_reducible apply StillOut.ite
    | intro _
    | with_reducible refine State.modPf_still _ _ ?_
    | with_reducible apply Still.ite
    | split
    | dsimp only; split

theorem execTestPulseEnd_still {F : Fld} {I V : Nat} (ch : Nat) (s : State) (h : Still F I V s) :
    StillOut F I V (execTestPulseEnd ch s) := by
  unfold execTestPulseEnd
  repeat' first
    | with_reducible assumption
    | with_reducible apply StillOut.next
    | with_reducible apply StillOut.ite
    | intro _
    | with_reducible refine State.modPf_still _ _ ?_
    | with_reducible apply Still.ite
    | split
    | dsimp only; split

def execTestPulseCheck_writes : Nat :=
    0x100220000000000000030168000000000000000000000000000000000000000000000000000000000000000000000000000000000000000000000000000000000000000000000000000000
theorem execTestPulseCheck_still {F : Fld} {I V : Nat} (ch : Nat) (xReads : DualRead) (yReads : DualRead) (xStill :
    DualRead) (s : State) (hw : execTestPulseCheck_writes.testBit F.ctorIdx = false) (h : Still F I V s) :
    StillOut F I V (execTestPulseCheck ch xReads yReads xStill s) := by
  unfold execTestPulseCheck
  repeat' first
    | with_reducible assumption
    | with_reducible apply StillOut.next
    | with_reducible apply StillOut.ite
    | intro _
    | with_reducible refine State.setFlag_still _ _ _ _ (W := execTestPulseCheck_writes) ?_ hw ?_
    | decide
    | unfold sprFld; split <;> decide
    | with_reducible refine State.modPf_still _ _ ?_
    | with_reducible refine State.pfFault_still _ _ _ _ (Wr.sub (by decide) hw) ?_
    | with_reducible apply Still.whenIf
    | with_reducible apply Still.ite
    | split
    | dsimp only; split

def execFilteredDemand_writes : Nat :=
    0x8068000000000000000000000000000000000000000000000000000000000000000000000000000000000000000000000000000000000000000000000000000000
theorem execFilteredDemand_still {F : Fld} {I V : Nat} (low : ChannelRead) (s : State) (hw :
    execFilteredDemand_writes.testBit F.ctorIdx = false) (h : Still F I V s) :
    StillOut F I V (execFilteredDemand low s) := by
  unfold execFilteredDemand
  repeat' first
    | with_reducible assumption
    | with_reducible apply StillOut.next
    | with_reducible apply StillOut.ite
    | intro _
    | with_reducible refine State.setFld_still _ _ _ _ (W := execFilteredDemand_writes) ?_ hw ?_
    | with_reducible refine State.count_still _ _ _ (W := execFilteredDemand_writes) ?_ hw ?_
    | decide
    | unfold sprFld; split <;> decide
    | with_reducible refine State.modPf_still _ _ ?_
    | with_reducible refine State.setPf_still _ _ (Wr.sub (by decide) hw) ?_
    | with_reducible refine State.pfAct_still _ _ ?_
    | with_reducible apply Still.whenIf
    | with_reducible apply Still.ite
    | split
    | dsimp only; split

def execDiscrepancyFault_writes : Nat :=
    0x100220000000000000030108000000000000000000000000000000000000000000000000000000000000000000000000000000000000000000000000000000000000000000000000000000
theorem execDiscrepancyFault_still {F : Fld} {I V : Nat} (ch : Nat) (s : State) (hw : execDiscrepancyFault_writes.testBit
    F.ctorIdx = false) (h : Still F I V s) :
    StillOut F I V (execDiscrepancyFault ch s) := by
  unfold execDiscrepancyFault
  repeat' first
    | with_reducible assumption
    | with_reducible apply StillOut.next
    | with_reducible apply StillOut.ite
    | intro _
    | with_reducible refine State.pfFault_still _ _ _ _ (Wr.sub (by decide) hw) ?_
    | with_reducible apply Still.ite
    | split
    | dsimp only; split

def execReadbackFault_writes : Nat :=
    0x100220000000000000030108000000000000000000000000000000000000000000000000000000000000000000000000000000000000000000000000000000000000000000000000000000
theorem execReadbackFault_still {F : Fld} {I V : Nat} (levels : DualRead) (s : State) (hw :
    execReadbackFault_writes.testBit F.ctorIdx = false) (h : Still F I V s) :
    StillOut F I V (execReadbackFault levels s) := by
  unfold execReadbackFault
  repeat' first
    | with_reducible assumption
    | with_reducible apply StillOut.next
    | with_reducible apply StillOut.ite
    | intro _
    | with_reducible refine State.pfFault_still _ _ _ _ (Wr.sub (by decide) hw) ?_
    | with_reducible apply Still.ite
    | split
    | dsimp only; split

def execPrefectClockCheck_writes : Nat :=
    0x100220000000000000030188000000000000000000000000000000000000000000000000000000000000000000000000000000000000000000000000000000000000000000000000000000
theorem execPrefectClockCheck_still {F : Fld} {I V : Nat} (count : Nat) (s : State) (hw :
    execPrefectClockCheck_writes.testBit F.ctorIdx = false) (h : Still F I V s) :
    StillOut F I V (execPrefectClockCheck count s) := by
  unfold execPrefectClockCheck
  repeat' first
    | with_reducible assumption
    | with_reducible apply StillOut.next
    | with_reducible apply StillOut.ite
    | intro _
    | with_reducible refine State.setFld_still _ _ _ _ (W := execPrefectClockCheck_writes) ?_ hw ?_
    | decide
    | with_reducible refine State.pfFault_still _ _ _ _ (Wr.sub (by decide) hw) ?_
    | with_reducible apply Still.whenIf
    | with_reducible apply Still.ite
    | split
    | dsimp only; split

def execPrefectFaultClear_writes : Nat :=
    0x108000000000000000000000000000000000000000000000000000000000000000000000000000000000000000000000000000000000000000000000000000000
theorem execPrefectFaultClear_still {F : Fld} {I V : Nat} (s : State) (hw : execPrefectFaultClear_writes.testBit F.ctorIdx
    = false) (h : Still F I V s) :
    StillOut F I V (execPrefectFaultClear s) := by
  unfold execPrefectFaultClear
  repeat' first
    | with_reducible assumption
    | with_reducible apply StillOut.next
    | with_reducible apply StillOut.ite
    | intro _
    | with_reducible refine State.setFld_still _ _ _ _ (W := execPrefectFaultClear_writes) ?_ hw ?_
    | decide
    | with_reducible refine State.setPf_still _ _ (Wr.sub (by decide) hw) ?_
    | with_reducible apply Still.whenIf
    | with_reducible apply Still.ite
    | split
    | dsimp only; split

def State.pfNotice_writes : Nat :=
    0x1003a0000000000000040003000000000000000000000000000000000000800000000000000000002000001000000480000000000000000000000000000000000000000000000001000000
theorem State.pfNotice_still {F : Fld} {I V : Nat} (s : State) (hw : State.pfNotice_writes.testBit F.ctorIdx = false) (h :
    Still F I V s) :
    Still F I V (State.pfNotice s) := by
  unfold State.pfNotice
  repeat' first
    | with_reducible assumption
    | intro _
    | with_reducible refine State.setFld_still _ _ _ _ (W := State.pfNotice_writes) ?_ hw ?_
    | decide
    | with_reducible refine State.clearOuten_still _ _ (Wr.sub (by decide) hw) ?_
    | with_reducible apply Still.each
    | split
    | (with_reducible apply Still.upd); split

def execPrefectNotice_writes : Nat :=
    0x1003a0000000000000040003000000000000000000000000000000000000800000000000000000002000001000000480000000000000000000000000000000000000000000000001000000
theorem execPrefectNotice_still {F : Fld} {I V : Nat} (s : State) (hw : execPrefectNotice_writes.testBit F.ctorIdx = false)
    (h : Still F I V s) :
    StillOut F I V (execPrefectNotice s) := by
  unfold execPrefectNotice
  repeat' first
    | with_reducible assumption
    | with_reducible apply StillOut.next
    | with_reducible apply StillOut.ite
    | intro _
    | with_reducible refine State.pfNotice_still _ (Wr.sub (by decide) hw) ?_
    | with_reducible refine State.modPf_still _ _ ?_
    | with_reducible apply Still.ite
    | split
    | dsimp only; split

def State.pfForce_writes : Nat :=
    0x1003a0000000000000000003000000000000000000000000000000000000800000000000000000000000001000000400000000000000000000000000000000000000000000000001000000
theorem State.pfForce_still {F : Fld} {I V : Nat} (s : State) (hw : State.pfForce_writes.testBit F.ctorIdx = false) (h :
    Still F I V s) :
    Still F I V (State.pfForce s) := by
  unfold State.pfForce
  repeat' first
    | with_reducible assumption
    | intro _
    | with_reducible refine State.modPf_still _ _ ?_
    | with_reducible refine State.padsOff_still _ _ _ _ (Wr.sub (by decide) hw) ?_
    | with_reducible apply Still.each
    | fail_if_no_progress with_reducible apply Still.upd
    | split
    | (with_reducible apply Still.upd); split

def execPrefectForce_writes : Nat :=
    0x1003a0000000000000000003000000000000000000000000000000000000800000000000000000000000001000000400000000000000000000000000000000000000000000000001000000
theorem execPrefectForce_still {F : Fld} {I V : Nat} (s : State) (hw : execPrefectForce_writes.testBit F.ctorIdx = false)
    (h : Still F I V s) :
    StillOut F I V (execPrefectForce s) := by
  unfold execPrefectForce
  repeat' first
    | with_reducible assumption
    | with_reducible apply StillOut.next
    | with_reducible apply StillOut.ite
    | intro _
    | with_reducible refine State.pfForce_still _ (Wr.sub (by decide) hw) ?_
    | with_reducible refine State.modPf_still _ _ ?_
    | with_reducible refine State.pfEvent_still _ _ _ (Wr.sub (by decide) hw) ?_
    | with_reducible apply Still.whenIf
    | with_reducible apply Still.ite
    | split
    | dsimp only; split

def execPrefectReleaseReady_writes : Nat :=
    0x68000000000000000000000000000000000000000000000000000000000000000000000000000000000000000000000000000000000000000000000000000000
theorem execPrefectReleaseReady_still {F : Fld} {I V : Nat} (s : State) (hw : execPrefectReleaseReady_writes.testBit
    F.ctorIdx = false) (h : Still F I V s) :
    StillOut F I V (execPrefectReleaseReady s) := by
  unfold execPrefectReleaseReady
  repeat' first
    | with_reducible assumption
    | with_reducible apply StillOut.next
    | with_reducible apply StillOut.ite
    | intro _
    | with_reducible refine State.setFld_still _ _ _ _ (W := execPrefectReleaseReady_writes) ?_ hw ?_
    | decide
    | with_reducible refine State.setPf_still _ _ (Wr.sub (by decide) hw) ?_
    | with_reducible refine State.modPf_still _ _ ?_
    | with_reducible apply Still.ite
    | split
    | dsimp only; split

theorem State.pfRelease_still {F : Fld} {I V : Nat} (s : State) (key : Nat) (h : Still F I V s) :
    Still F I V (State.pfRelease s key) := by
  unfold State.pfRelease
  repeat' first
    | with_reducible assumption
    | intro _
    | with_reducible refine State.modPf_still _ _ ?_
    | with_reducible apply Still.ite
    | split
    | (with_reducible apply Still.upd); split

def execPfRelWrite_writes : Nat :=
    0x100220000000000000000003000000000000000000000000000000000000000000000000000000000000000000000000000000000000000000000000000000000000000000000000000000
theorem execPfRelWrite_still {F : Fld} {I V : Nat} (core : Nat) (key : Nat) (s : State) (hw : execPfRelWrite_writes.testBit
    F.ctorIdx = false) (h : Still F I V s) :
    StillOut F I V (execPfRelWrite core key s) := by
  unfold execPfRelWrite
  repeat' first
    | with_reducible assumption
    | with_reducible apply StillOut.next
    | intro _
    | with_reducible refine State.access_still _ _ _ _ _ (Wr.sub (by decide) hw) ?_ ?_
    | with_reducible refine State.pfRelease_still _ _ ?_
    | split
    | dsimp only; split

def execForceRelease_writes : Nat :=
    0x100220000000000000000008000000000000000000000000000000000000000000000000000000000000000000000000000000000000000000000000000000000000000000000000000000
theorem execForceRelease_still {F : Fld} {I V : Nat} (s : State) (hw : execForceRelease_writes.testBit F.ctorIdx = false)
    (h : Still F I V s) :
    StillOut F I V (execForceRelease s) := by
  unfold execForceRelease
  repeat' first
    | with_reducible assumption
    | with_reducible apply StillOut.next
    | with_reducible apply StillOut.ite
    | intro _
    | with_reducible refine State.pfEvent_still _ _ _ (Wr.sub (by decide) hw) ?_
    | with_reducible refine State.setPf_still _ _ (Wr.sub (by decide) hw) ?_
    | with_reducible apply Still.ite
    | fail_if_no_progress with_reducible apply Still.upd
    | split
    | dsimp only; split

def execVpfGood_writes : Nat :=
    0x67f398000000000000000000000000000000000000000000000000000000000000000000000000000000000000000000000000000000000000000000000000000000
theorem execVpfGood_still {F : Fld} {I V : Nat} (s : State) (hw : execVpfGood_writes.testBit F.ctorIdx = false) (h : Still
    F I V s) :
    StillOut F I V (execVpfGood s) := by
  unfold execVpfGood
  refine StillOut.next (Still.ite h ?_)
  refine State.modPf_still _ _ (State.setPf_still _ _ (Wr.sub (by decide) hw) (Still.each (Still.eachMem h ?_) ?_))
  · intro f hf t ht
    refine State.setFld_still _ _ _ _ (W := execVpfGood_writes) ?_ hw ht
    revert f; decide
  · intro t ht x
    exact State.setFld_still _ _ _ _ (W := execVpfGood_writes) (by decide) hw ht

def execVpfFail_writes : Nat :=
    0x1003a0000000000000000c0b000000000000000000000000000000000000800000000000000000000000001000000400000000000000000000000000000000000000000000000001000000
theorem execVpfFail_still {F : Fld} {I V : Nat} (s : State) (hw : execVpfFail_writes.testBit F.ctorIdx = false) (h : Still
    F I V s) :
    StillOut F I V (execVpfFail s) := by
  unfold execVpfFail
  repeat' first
    | with_reducible assumption
    | with_reducible apply StillOut.next
    | with_reducible apply StillOut.ite
    | intro _
    | with_reducible refine State.setFld_still _ _ _ _ (W := execVpfFail_writes) ?_ hw ?_
    | decide
    | with_reducible refine State.setPf_still _ _ (Wr.sub (by decide) hw) ?_
    | with_reducible refine State.modPf_still _ _ ?_
    | with_reducible refine State.pfForce_still _ (Wr.sub (by decide) hw) ?_
    | with_reducible refine State.fresh_still _ _ ?_
    | (with_reducible refine Still.snd ?_ (by assumption)); with_reducible refine State.fresh_still _ _ ?_
    | with_reducible apply Still.whenIf
    | with_reducible apply Still.foldl
    | with_reducible apply Still.ite
    | split
    | dsimp only; split

def execCfgswRead_writes : Nat :=
    0x1200000000000000000000000000000000000000000000000000000000000000000000000000000000000000000000000000000000000000000000000000000000
theorem execCfgswRead_still {F : Fld} {I V : Nat} (read : SwitchRead) (s : State) (hw : execCfgswRead_writes.testBit
    F.ctorIdx = false) (h : Still F I V s) :
    StillOut F I V (execCfgswRead read s) := by
  unfold execCfgswRead
  repeat' first
    | with_reducible assumption
    | with_reducible apply StillOut.next
    | with_reducible apply StillOut.ite
    | intro _
    | with_reducible refine State.setFld_still _ _ _ _ (W := execCfgswRead_writes) ?_ hw ?_
    | with_reducible refine State.setFlag_still _ _ _ _ (W := execCfgswRead_writes) ?_ hw ?_
    | decide
    | with_reducible refine State.modPf_still _ _ ?_
    | with_reducible apply Still.ite
    | split
    | dsimp only; split

def execCfgswChange_writes : Nat :=
    0x100220000000000000202000000000000000000000000000000000000000000000000000000000000000000000000000000000000000000000000000000000000000000000000000000000
theorem execCfgswChange_still {F : Fld} {I V : Nat} (read : SwitchRead) (s : State) (hw : execCfgswChange_writes.testBit
    F.ctorIdx = false) (h : Still F I V s) :
    StillOut F I V (execCfgswChange read s) := by
  unfold execCfgswChange
  repeat' first
    | with_reducible assumption
    | with_reducible apply StillOut.next
    | with_reducible apply StillOut.ite
    | intro _
    | with_reducible refine State.setFld_still _ _ _ _ (W := execCfgswChange_writes) ?_ hw ?_
    | decide
    | with_reducible refine State.pfEvent_still _ _ _ (Wr.sub (by decide) hw) ?_
    | with_reducible apply Still.ite
    | split
    | dsimp only; split

def execPrefectSetDelivery_writes : Nat :=
    0x1003a000000000000000400b000000000000000000000000000000000000800000000000000000000000001000000400000000000000000000000000000000000000000000000001000000
theorem execPrefectSetDelivery_still {F : Fld} {I V : Nat} (s : State) (hw : execPrefectSetDelivery_writes.testBit
    F.ctorIdx = false) (h : Still F I V s) :
    StillOut F I V (execPrefectSetDelivery s) := by
  unfold execPrefectSetDelivery
  repeat' first
    | with_reducible assumption
    | with_reducible apply StillOut.next
    | with_reducible apply StillOut.ite
    | intro _
    | with_reducible refine State.setFld_still _ _ _ _ (W := execPrefectSetDelivery_writes) ?_ hw ?_
    | decide
    | with_reducible refine State.modPf_still _ _ ?_
    | with_reducible refine State.setPf_still _ _ (Wr.sub (by decide) hw) ?_
    | with_reducible refine State.pfForce_still _ (Wr.sub (by decide) hw) ?_
    | with_reducible refine State.pfEvent_still _ _ _ (Wr.sub (by decide) hw) ?_
    | with_reducible apply Still.whenIf
    | with_reducible apply Still.each
    | with_reducible apply Still.ite
    | split
    | dsimp only; split

def execSealOpened_writes : Nat :=
    0x100220000000000000000010000000000000000000000000000000000000000000000000000000000000000000000000000000000000000000000000000000000000000000000000000000
theorem execSealOpened_still {F : Fld} {I V : Nat} (s : State) (hw : execSealOpened_writes.testBit F.ctorIdx = false) (h :
    Still F I V s) :
    StillOut F I V (execSealOpened s) := by
  unfold execSealOpened
  repeat' first
    | with_reducible assumption
    | with_reducible apply StillOut.next
    | intro _
    | with_reducible refine State.setFld_still _ _ _ _ (W := execSealOpened_writes) ?_ hw ?_
    | decide
    | with_reducible refine State.pfEvent_still _ _ _ (Wr.sub (by decide) hw) ?_
    | with_reducible apply Still.whenIf
    | split
    | dsimp only; split

def execSealClosed_writes : Nat :=
    0x100220000000000000000010000000000000000000000000000000000000000000000000000000000000000000000000000000000000000000000000000000000000000000000000000000
theorem execSealClosed_still {F : Fld} {I V : Nat} (s : State) (hw : execSealClosed_writes.testBit F.ctorIdx = false) (h :
    Still F I V s) :
    StillOut F I V (execSealClosed s) := by
  unfold execSealClosed
  repeat' first
    | with_reducible assumption
    | with_reducible apply StillOut.next
    | unfold id; with_reducible assumption
    | intro _
    | with_reducible refine State.setFld_still _ _ _ _ (W := execSealClosed_writes) ?_ hw ?_
    | decide
    | with_reducible refine State.pfEvent_still _ _ _ (Wr.sub (by decide) hw) ?_
    | with_reducible refine State.modPf_still _ _ ?_
    | with_reducible apply Still.whenIf
    | split
    | dsimp only; split

def State.pfCommit_writes : Nat :=
    0x600000000000000000000000000000000000000000000000000000000000000000000000000000000000000000000000000000000000000000000000000000000000
theorem State.pfCommit_still {F : Fld} {I V : Nat} (s : State) (digest : Nat) (hw : State.pfCommit_writes.testBit F.ctorIdx
    = false) (h : Still F I V s) :
    Still F I V (State.pfCommit s digest) := by
  unfold State.pfCommit
  repeat' first
    | with_reducible assumption
    | intro _
    | with_reducible refine State.setFld_still _ _ _ _ (W := State.pfCommit_writes) ?_ hw ?_
    | decide
    | with_reducible apply Still.ite
    | split
    | (with_reducible apply Still.upd); split

def execPfCommitWrite_writes : Nat :=
    0x100220000000000000600003000000000000000000000000000000000000000000000000000000000000000000000000000000000000000000000000000000000000000000000000000000
theorem execPfCommitWrite_still {F : Fld} {I V : Nat} (core : Nat) (digest : Nat) (s : State) (hw :
    execPfCommitWrite_writes.testBit F.ctorIdx = false) (h : Still F I V s) :
    StillOut F I V (execPfCommitWrite core digest s) := by
  unfold execPfCommitWrite
  repeat' first
    | with_reducible assumption
    | with_reducible apply StillOut.next
    | intro _
    | with_reducible refine State.access_still _ _ _ _ _ (Wr.sub (by decide) hw) ?_ ?_
    | with_reducible refine State.pfCommit_still _ _ (Wr.sub (by decide) hw) ?_
    | split
    | dsimp only; split

def execCommitArmTimeout_writes : Nat :=
    0x200000000000000000000000000000000000000000000000000000000000000000000000000000000000000000000000000000000000000000000000000000000000
theorem execCommitArmTimeout_still {F : Fld} {I V : Nat} (s : State) (hw : execCommitArmTimeout_writes.testBit F.ctorIdx =
    false) (h : Still F I V s) :
    StillOut F I V (execCommitArmTimeout s) := by
  unfold execCommitArmTimeout
  repeat' first
    | with_reducible assumption
    | with_reducible apply StillOut.next
    | with_reducible apply StillOut.ite
    | intro _
    | with_reducible refine State.setFld_still _ _ _ _ (W := execCommitArmTimeout_writes) ?_ hw ?_
    | decide
    | with_reducible apply Still.ite
    | split
    | dsimp only; split

def execCommissioningComplete_writes : Nat :=
    0x100220000000000000200c08000000000000000000000000000000000000000000000000000000000000000000000000000000000000000000000000000000000000000000000000000000
theorem execCommissioningComplete_still {F : Fld} {I V : Nat} (s : State) (hw : execCommissioningComplete_writes.testBit
    F.ctorIdx = false) (h : Still F I V s) :
    StillOut F I V (execCommissioningComplete s) := by
  unfold execCommissioningComplete
  repeat' first
    | with_reducible assumption
    | with_reducible apply StillOut.next
    | with_reducible apply StillOut.ite
    | intro _
    | with_reducible refine State.setFld_still _ _ _ _ (W := execCommissioningComplete_writes) ?_ hw ?_
    | decide
    | with_reducible refine State.modPf_still _ _ ?_
    | with_reducible refine State.pfEvent_still _ _ _ (Wr.sub (by decide) hw) ?_
    | with_reducible refine State.setPf_still _ _ (Wr.sub (by decide) hw) ?_
    | with_reducible apply Still.foldl
    | with_reducible apply Still.ite
    | split
    | dsimp only; split

end Sys2Proof.Machine
end

