-- ==== Sys2Proof/Laws/StillApply.lean ====
section
/-!
SUPPORT. Which register fields the operations of Machine/Apply.lean can write (Laws/Still.lean), as bits by the field's number, and
that they leave every other as it was.
-/
namespace Sys2Proof.Machine

set_option linter.unusedTactic false
set_option linter.unreachableTactic false

def State.storeRecord_writes : Nat :=
    0x1003a0000000000000000000000004000040000000000000000000000000400000000000000000000000000000000000000000000000000000000000000000000000003800000000000000
theorem State.storeRecord_still {F : Fld} {I V : Nat} (s : State) (g : Nat) (seq : Nat) (entries : List Nat) (hw :
    State.storeRecord_writes.testBit F.ctorIdx = false) (h : Still F I V s) :
    Still F I V (State.storeRecord s g seq entries) := by
  unfold State.storeRecord
  repeat' first
    | with_reducible assumption
    | intro _
    | with_reducible refine State.modGroup_still _ _ _ ?_
    | with_reducible refine State.mgmtEvent_still _ _ _ _ _ (Wr.sub (by decide) hw) ?_
    | with_reducible refine State.libSubmit_still _ _ (Wr.sub (by decide) hw) ?_
    | with_reducible apply Still.whenIf
    | with_reducible apply Still.ite
    | fail_if_no_progress with_reducible apply Still.upd
    | split
    | (with_reducible apply Still.upd); split

def State.storeClassS_writes : Nat :=
    0x1003a0000000000000000000000004000040000000000000000000000000400000000000000000000000000000000000000000000000000000000000000000000000003800000000000000
theorem State.storeClassS_still {F : Fld} {I V : Nat} (s : State) (hw : State.storeClassS_writes.testBit F.ctorIdx = false)
    (h : Still F I V s) :
    Still F I V (State.storeClassS s) := by
  unfold State.storeClassS
  repeat' first
    | with_reducible assumption
    | intro _
    | with_reducible refine State.storeRecord_still _ _ _ _ (Wr.sub (by decide) hw) ?_
    | split
    | (with_reducible apply Still.upd); split

def State.takePending_writes : Nat :=
    0x38003607ffffc40073000c0001f87fffc00000000ffff0003ffc47e1007c7ff0e0007fc000c00000000000000000000000000000
theorem State.takePending_still {F : Fld} {I V : Nat} (s : State) (g : Nat) (hw : State.takePending_writes.testBit
    F.ctorIdx = false) (h : Still F I V s) :
    Still F I V (State.takePending s g) := by
  unfold State.takePending
  repeat' first
    | with_reducible assumption
    | intro _
    | with_reducible refine State.modGroup_still _ _ _ ?_
    | with_reducible refine State.modPm_still _ _ _ ?_
    | with_reducible refine State.setLocked_still _ _ _ _ (Wr.sub (by decide) hw) ?_
    | with_reducible refine State.setEngWord_still _ _ _ _ ?_
    | with_reducible refine State.setVar_still _ _ _ _ ?_
    | with_reducible apply Still.each
    | with_reducible apply Still.ite
    | split
    | (with_reducible apply Still.upd); split

def State.modeApplied_writes : Nat :=
    0x100220000000000000000000000000000000600010000006070000000000000000000000000000000000000000000000000000000000000000000000000000000000000000000000000000
theorem State.modeApplied_still {F : Fld} {I V : Nat} (s : State) (was : Bool) (hw : State.modeApplied_writes.testBit
    F.ctorIdx = false) (h : Still F I V s) :
    Still F I V (State.modeApplied s was) := by
  unfold State.modeApplied
  repeat' first
    | with_reducible assumption
    | intro _
    | with_reducible refine State.setWing_still _ _ _ (Wr.sub (by decide) hw) ?_
    | with_reducible refine State.setLease_still _ _ _ (Wr.sub (by decide) hw) ?_
    | with_reducible refine State.setPass_still _ _ _ (Wr.sub (by decide) hw) ?_
    | with_reducible refine State.standbyReserve_still _ _ (Wr.sub (by decide) hw) ?_
    | with_reducible apply Still.whenIf
    | with_reducible apply Still.each
    | with_reducible apply Still.ite
    | fail_if_no_progress with_reducible apply Still.upd
    | split
    | (with_reducible apply Still.upd); split

def State.applyHook_writes : Nat :=
    0x1003a0000000000000000003000000000000600010000006070100000000800000000002000000000000001000001c0003980024800000000000000b000000000000000000000001000000
theorem State.applyHook_still {F : Fld} {I V : Nat} (s : State) (was : State) (g : Nat) (hw :
    State.applyHook_writes.testBit F.ctorIdx = false) (h : Still F I V s) (hwas : Still F I V was) :
    Still F I V (State.applyHook s was g) := by
  unfold State.applyHook
  repeat' first
    | with_reducible assumption
    | intro _
    | with_reducible refine State.setFlag_still _ _ _ _ (W := State.applyHook_writes) ?_ hw ?_
    | decide
    | with_reducible refine State.sarApplied_still _ _ (Wr.sub (by decide) hw) ?_
    | with_reducible refine State.modApplied_still _ _ _ (Wr.sub (by decide) hw) ?_
    | with_reducible refine State.compApplied_still _ _ (Wr.sub (by decide) hw) ?_
    | with_reducible refine State.pwmApplied_still _ _ (Wr.sub (by decide) hw) ?_
    | with_reducible refine State.modEngine_still _ _ _ ?_
    | with_reducible refine State.gridSync_still _ ?_
    | with_reducible refine State.gridApplied_still _ ?_
    | with_reducible refine State.islApplied_still _ ?_
    | with_reducible refine State.mpptApplied_still _ _ ?_
    | with_reducible refine State.bursarApplied_still _ _ (Wr.sub (by decide) hw) ?_ ?_
    | with_reducible refine State.modeApplied_still _ _ (Wr.sub (by decide) hw) ?_
    | with_reducible apply Still.whenIf
    | with_reducible apply Still.each
    | fail_if_no_progress with_reducible apply Still.upd
    | split
    | (with_reducible apply Still.upd); split

theorem State.mirrorSet_still {F : Fld} {I V : Nat} (s : State) (g : Nat) (pend : SMap) (old : SMap) (h : Still F I V s) :
    Still F I V (State.mirrorSet s g pend old) := by
  unfold State.mirrorSet
  repeat' first
    | with_reducible assumption
    | intro _
    | with_reducible refine State.standbyLeft_still _ _ _ ?_
    | with_reducible apply Still.ite
    | split
    | (with_reducible apply Still.upd); split

def State.applyGroup_writes : Nat :=
    0x10181003a000000000000000000300000400004060001000003e073707ffffc4c073000c0003f87fffc00000001ffff01c3fffdfe124fc7ff0e0027fc90bc00000000000003800000001000000
theorem State.applyGroup_still {F : Fld} {I V : Nat} (s : State) (g : Nat) (hw : State.applyGroup_writes.testBit F.ctorIdx
    = false) (h : Still F I V s) :
    Still F I V (State.applyGroup s g) := by
  unfold State.applyGroup
  repeat' first
    | with_reducible assumption
    | intro _
    | with_reducible refine State.applyHook_still _ _ _ (Wr.sub (by decide) hw) ?_ ?_
    | with_reducible refine State.takePending_still _ _ (Wr.sub (by decide) hw) ?_
    | with_reducible refine State.mirrorSet_still _ _ _ _ ?_
    | with_reducible refine State.modGroup_still _ _ _ ?_
    | with_reducible refine State.mgmtEvent_still _ _ _ _ _ (Wr.sub (by decide) hw) ?_
    | with_reducible refine State.tellAskers_still _ _ (Wr.sub (by decide) hw) ?_
    | with_reducible refine State.answer_still _ _ ?_
    | with_reducible refine State.storeRecord_still _ _ _ _ (Wr.sub (by decide) hw) ?_
    | with_reducible refine State.releaseHeld_still _ _ (Wr.sub (by decide) hw) ?_
    | with_reducible apply Still.whenIf
    | with_reducible apply Still.ite
    | split
    | (with_reducible apply Still.upd); split

def State.applyBell_writes : Nat :=
    0x10181003a000000000000000000300000400004060001000003e073707ffffc4c073000c0003f87fffc00000001ffff01c3fffdfe124fc7ff0e0027fc90bc00000000000003800000001000000
theorem State.applyBell_still {F : Fld} {I V : Nat} (s : State) (group : Nat) (mask : Nat) (hw :
    State.applyBell_writes.testBit F.ctorIdx = false) (h : Still F I V s) :
    Still F I V (State.applyBell s group mask) := by
  unfold State.applyBell
  repeat' first
    | with_reducible assumption
    | intro _
    | with_reducible refine State.applyGroup_still _ _ (Wr.sub (by decide) hw) ?_
    | with_reducible refine State.storeClassS_still _ (Wr.sub (by decide) hw) ?_
    | with_reducible refine State.mgmtEvent_still _ _ _ _ _ (Wr.sub (by decide) hw) ?_
    | with_reducible apply Still.each
    | with_reducible apply Still.ite
    | fail_if_no_progress with_reducible apply Still.upd
    | split
    | (with_reducible apply Still.upd); split

end Sys2Proof.Machine
end

