-- ==== Sys2Proof/Laws/StillBell.lean ====
section
/-!
SUPPORT. Which register fields the operations of Machine/Bell.lean can write (Laws/Still.lean), as bits by the field's number, and
that they leave every other as it was.
-/
namespace Sys2Proof.Machine

set_option linter.unusedTactic false
set_option linter.unreachableTactic false

def State.ring_writes : Nat := 0x80
theorem State.ring_still {F : Fld} {I V : Nat} (s : State) (w : BellWord) (hw : State.ring_writes.testBit F.ctorIdx =
    false) (h : Still F I V s) :
    Still F I V (State.ring s w) := by
  unfold State.ring
  repeat' first
    | with_reducible assumption
    | intro _
    | with_reducible refine State.setFld_still _ _ _ _ (W := State.ring_writes) ?_ hw ?_
    | decide
    | with_reducible apply Still.ite
    | fail_if_no_progress with_reducible apply Still.upd
    | split
    | (with_reducible apply Still.upd); split

theorem State.barrierBell_still {F : Fld} {I V : Nat} (s : State) (ident : Nat) (h : Still F I V s) :
    Still F I V (State.barrierBell s ident) := by
  unfold State.barrierBell
  repeat' first
    | with_reducible assumption
    | intro _
    | fail_if_no_progress with_reducible apply Still.upd
    | split
    | (with_reducible apply Still.upd); split

def State.tellRollCall_writes : Nat :=
    0x1018100000000000000000000000000000000000000000000000000000000000000000000000000000000000000000000000000000000000000000000000000000000000000000000000000000
theorem State.tellRollCall_still {F : Fld} {I V : Nat} (s : State) (hw : State.tellRollCall_writes.testBit F.ctorIdx =
    false) (h : Still F I V s) :
    Still F I V (State.tellRollCall s) := by
  unfold State.tellRollCall
  repeat' first
    | with_reducible assumption
    | intro _
    | with_reducible refine State.tell_still _ _ _ _ (Wr.sub (by decide) hw) ?_
    | with_reducible apply Still.each
    | fail_if_no_progress with_reducible apply Still.upd
    | split
    | (with_reducible apply Still.upd); split

def State.askRollCall_writes : Nat :=
    0x1018100000000000000000000000000000000000000000000000000000000000000000000000000000000000000000000000000000000000000000000000000000000000000000000000000000
theorem State.askRollCall_still {F : Fld} {I V : Nat} (s : State) (w : Wing) (hw : State.askRollCall_writes.testBit
    F.ctorIdx = false) (h : Still F I V s) :
    Still F I V (State.askRollCall s w) := by
  unfold State.askRollCall
  repeat' first
    | with_reducible assumption
    | intro _
    | with_reducible refine State.requestBarrier_still _ _ _ ?_
    | with_reducible refine State.tellRollCall_still _ (Wr.sub (by decide) hw) ?_
    | with_reducible apply Still.ite
    | fail_if_no_progress with_reducible apply Still.upd
    | split
    | (with_reducible apply Still.upd); split

def State.rollCallEnds_writes : Nat :=
    0x1018100000000000000000000000000000000000000000000000000000000000000000000000000000000000000000000000000000000000000000000000000000000000000000000000000000
theorem State.rollCallEnds_still {F : Fld} {I V : Nat} (s : State) (hw : State.rollCallEnds_writes.testBit F.ctorIdx =
    false) (h : Still F I V s) :
    Still F I V (State.rollCallEnds s) := by
  unfold State.rollCallEnds
  repeat' first
    | with_reducible assumption
    | intro _
    | with_reducible refine State.tellRollCall_still _ (Wr.sub (by decide) hw) ?_
    | with_reducible refine State.askRollCall_still _ _ (Wr.sub (by decide) hw) ?_
    | with_reducible apply Still.ite
    | fail_if_no_progress with_reducible apply Still.upd
    | split
    | (with_reducible apply Still.upd); split

def State.barrierEnds_writes : Nat :=
    0x1018100000000000000000000000000000000000000000000000000000000000000000000000000000000000000000000000000000000000000000000000000000000000000000000000001000
theorem State.barrierEnds_still {F : Fld} {I V : Nat} (s : State) (f : State → Barrier → State) (hw :
    State.barrierEnds_writes.testBit F.ctorIdx = false) (h : Still F I V s) (hf : ∀ t, Still F I V t → ∀ x1, Still F I V (f
    t x1)) :
    Still F I V (State.barrierEnds s f) := by
  unfold State.barrierEnds
  repeat' first
    | with_reducible assumption
    | intro _
    | with_reducible refine State.setFld_still _ _ _ _ (W := State.barrierEnds_writes) ?_ hw ?_
    | decide
    | with_reducible refine State.rollCallEnds_still _ (Wr.sub (by decide) hw) ?_
    | with_reducible apply Still.whenIf
    | with_reducible apply hf
    | fail_if_no_progress with_reducible apply Still.upd
    | split
    | (with_reducible apply Still.upd); split

def execBarrierComplete_writes : Nat :=
    0x1018100000000000000000000000000000000000000000000000000000000000000000000000000000000000000000000000000000000000000000000000000000000000000000000000003400
theorem execBarrierComplete_still {F : Fld} {I V : Nat} (s : State) (hw : execBarrierComplete_writes.testBit F.ctorIdx =
    false) (h : Still F I V s) :
    StillOut F I V (execBarrierComplete s) := by
  unfold execBarrierComplete
  repeat' first
    | with_reducible assumption
    | with_reducible apply StillOut.next
    | intro _
    | with_reducible refine State.setFld_still _ _ _ _ (W := execBarrierComplete_writes) ?_ hw ?_
    | decide
    | with_reducible refine State.barrierEnds_still _ _ (Wr.sub (by decide) hw) ?_ ?_
    | split
    | dsimp only; split

def execBarrierTimeout_writes : Nat :=
    0x10181002200000000000000000000000000000000000000000000000000000000000000000000000000000000000000000000000000000000000000000000000000000000000000000000c1800
theorem execBarrierTimeout_still {F : Fld} {I V : Nat} (missing : Nat) (s : State) (hw : execBarrierTimeout_writes.testBit
    F.ctorIdx = false) (h : Still F I V s) :
    StillOut F I V (execBarrierTimeout missing s) := by
  unfold execBarrierTimeout
  repeat' first
    | with_reducible assumption
    | with_reducible apply StillOut.next
    | intro _
    | with_reducible refine State.setFld_still _ _ _ _ (W := execBarrierTimeout_writes) ?_ hw ?_
    | decide
    | with_reducible refine State.barrierEnds_still _ _ (Wr.sub (by decide) hw) ?_ ?_
    | with_reducible refine State.event_still _ _ _ _ _ (Wr.sub (by decide) hw) ?_
    | split
    | dsimp only; split

def State.bellRequests_writes : Nat :=
    0x10181003a000000000000000000300000400004060001000003e0737ffffffc4c373000c0003f87fffc00000001ffff01c3fffdfe124fc7ff0e0027fc90bc00000000000003800000001000000
theorem State.bellRequests_still {F : Fld} {I V : Nat} (s : State) (w : BellWord) (hw : State.bellRequests_writes.testBit
    F.ctorIdx = false) (h : Still F I V s) :
    Still F I V (State.bellRequests s w) := by
  unfold State.bellRequests
  repeat' first
    | with_reducible assumption
    | intro _
    | with_reducible refine State.applyBell_still _ _ _ (Wr.sub (by decide) hw) ?_
    | with_reducible refine State.bursarLatch_still _ _ _ (Wr.sub (by decide) hw) ?_
    | with_reducible refine State.barrierBell_still _ _ ?_
    | with_reducible apply Still.whenIf
    | split
    | (with_reducible apply Still.upd); split

def State.haltEngines_writes : Nat :=
    0x1003a0000000000000000003000000000000000000000000000000000000800000000000000000000000001000000400000000000000000000000000000000000000000000000001000000
theorem State.haltEngines_still {F : Fld} {I V : Nat} (s : State) (hw : State.haltEngines_writes.testBit F.ctorIdx = false)
    (h : Still F I V s) :
    Still F I V (State.haltEngines s) := by
  unfold State.haltEngines
  repeat' first
    | with_reducible assumption
    | intro _
    | with_reducible refine State.modEngine_still _ _ _ ?_
    | with_reducible refine State.settlePads_still _ (Wr.sub (by decide) hw) ?_
    | with_reducible apply Still.each
    | fail_if_no_progress with_reducible apply Still.upd
    | split
    | (with_reducible apply Still.upd); split

def State.countBell_writes : Nat := 0x70000000000000000000000000000000000000000000000000000000000000000000000000000000
theorem State.countBell_still {F : Fld} {I V : Nat} (s : State) (hw : State.countBell_writes.testBit F.ctorIdx = false) (h
    : Still F I V s) :
    Still F I V (State.countBell s) := by
  unfold State.countBell
  repeat' first
    | with_reducible assumption
    | intro _
    | with_reducible refine State.setFld_still _ _ _ _ (W := State.countBell_writes) ?_ hw ?_
    | decide
    | with_reducible refine State.fresh_still _ _ ?_
    | (with_reducible refine Still.snd ?_ (by assumption)); with_reducible refine State.fresh_still _ _ ?_
    | with_reducible apply Still.ite
    | fail_if_no_progress with_reducible apply Still.upd
    | split
    | (with_reducible apply Still.upd); split

theorem State.chainOut_still {F : Fld} {I V : Nat} (s : State) (h : Still F I V s) :
    Still F I V (State.chainOut s) := by
  unfold State.chainOut
  repeat' first
    | with_reducible assumption
    | intro _
    | with_reducible refine State.syncSend_still _ _ ?_
    | with_reducible apply Still.ite
    | fail_if_no_progress with_reducible apply Still.upd
    | split
    | (with_reducible apply Still.upd); split

def State.periodBell_writes : Nat :=
    0x10181003a000000000000000000300000400004064021800803f6737ffffffc4c37b0ccc3ff3f87fffc06c00021ffff83fffffdfe124fc7ff0e0027fc90bc00000000000003800000001000080
theorem State.periodBell_still {F : Fld} {I V : Nat} (s : State) (hw : State.periodBell_writes.testBit F.ctorIdx = false)
    (h : Still F I V s) :
    Still F I V (State.periodBell s) := by
  unfold State.periodBell
  repeat' first
    | with_reducible assumption
    | intro _
    | with_reducible refine State.countBell_still _ (Wr.sub (by decide) hw) ?_
    | with_reducible refine State.enginesEnd_still _ (Wr.sub (by decide) hw) ?_
    | with_reducible refine State.ring_still _ _ (Wr.sub (by decide) hw) ?_
    | with_reducible refine State.takeoverBell_still _ (Wr.sub (by decide) hw) ?_
    | with_reducible refine State.settleEntering_still _ (Wr.sub (by decide) hw) ?_
    | with_reducible refine State.handoverBell_still _ (Wr.sub (by decide) hw) ?_
    | with_reducible refine State.bellRequests_still _ _ (Wr.sub (by decide) hw) ?_
    | with_reducible refine State.snapshotBell_still _ _ (Wr.sub (by decide) hw) ?_
    | with_reducible refine State.bellOccurs_still _ ?_
    | with_reducible refine State.chainOut_still _ ?_
    | with_reducible refine State.haltEngines_still _ (Wr.sub (by decide) hw) ?_
    | with_reducible refine State.raise_still _ _ _ (Wr.sub (by decide) hw) ?_
    | with_reducible refine State.enginesDue_still _ _ ?_
    | with_reducible apply Still.whenIf
    | with_reducible apply Still.ite
    | split
    | (with_reducible apply Still.upd); split

def State.bellAlone_writes : Nat :=
    0x10181003a000000000000000000300000400004060001000003e0737ffffffc4c373000c0003f87fffc00000001ffff01c3fffdfe124fc7ff0e0027fc90bc00000000000003800000001000080
theorem State.bellAlone_still {F : Fld} {I V : Nat} (s : State) (hw : State.bellAlone_writes.testBit F.ctorIdx = false) (h
    : Still F I V s) :
    Still F I V (State.bellAlone s) := by
  unfold State.bellAlone
  repeat' first
    | with_reducible assumption
    | intro _
    | with_reducible refine State.bellRequests_still _ _ (Wr.sub (by decide) hw) ?_
    | with_reducible refine State.ring_still _ _ (Wr.sub (by decide) hw) ?_
    | with_reducible apply Still.ite
    | split
    | (with_reducible apply Still.upd); split

def State.plainBell_writes : Nat :=
    0x10181003a000000000000000000300000400004060001000003e0737ffffffc4c373000c0003f87fffc00000001ffff01c3fffdfe124fc7ff0e0027fc90bc00000000000003800000001000080
theorem State.plainBell_still {F : Fld} {I V : Nat} (s : State) (hw : State.plainBell_writes.testBit F.ctorIdx = false) (h
    : Still F I V s) :
    Still F I V (State.plainBell s) := by
  unfold State.plainBell
  repeat' first
    | with_reducible assumption
    | intro _
    | with_reducible refine State.bellRequests_still _ _ (Wr.sub (by decide) hw) ?_
    | with_reducible refine State.ring_still _ _ (Wr.sub (by decide) hw) ?_
    | with_reducible apply Still.ite
    | split
    | (with_reducible apply Still.upd); split

def State.chainHere_writes : Nat :=
    0x10181003a000000000000000000300000400004064021800803f6737ffffffc4c37b0ccc3ff3f87fffc06c00021ffff83fffffdfe124fc7ff0e0027fc90bc00000000000003800000001000080
theorem State.chainHere_still {F : Fld} {I V : Nat} (s : State) (hw : State.chainHere_writes.testBit F.ctorIdx = false) (h
    : Still F I V s) :
    Still F I V (State.chainHere s) := by
  unfold State.chainHere
  repeat' first
    | with_reducible assumption
    | intro _
    | with_reducible refine State.fresh_still _ _ ?_
    | (with_reducible refine Still.snd ?_ (by assumption)); with_reducible refine State.fresh_still _ _ ?_
    | with_reducible refine State.syncSend_still _ _ ?_
    | with_reducible refine State.periodBell_still _ (Wr.sub (by decide) hw) ?_
    | with_reducible refine State.plainBell_still _ (Wr.sub (by decide) hw) ?_
    | with_reducible apply Still.ite
    | split
    | (with_reducible apply Still.upd); split

def execChainBell_writes : Nat :=
    0x10181003a000000000000000000300000400004064021800803f6737ffffffc4c37b0ccc3ff3f87fffc06c00021ffff83fffffdfe124fc7ff0e0027fc90bc00000000000003800000001000080
theorem execChainBell_still {F : Fld} {I V : Nat} (s : State) (hw : execChainBell_writes.testBit F.ctorIdx = false) (h :
    Still F I V s) :
    StillOut F I V (execChainBell s) := by
  unfold execChainBell
  repeat' first
    | with_reducible assumption
    | with_reducible apply StillOut.next
    | with_reducible apply StillOut.ite
    | intro _
    | with_reducible refine State.chainHere_still _ (Wr.sub (by decide) hw) ?_
    | with_reducible apply Still.ite
    | fail_if_no_progress with_reducible apply Still.upd
    | split
    | dsimp only; split

def State.trainingEnds_writes : Nat :=
    0x10181003a000000000000000000300000400004064021800803f6737ffffffc4c37b0ccc3ff3f87fffc06c00021ffff83fffffdfe124fc7ff0e0027fc90bc00000000000003800000001000080
theorem State.trainingEnds_still {F : Fld} {I V : Nat} (s : State) (t : Training) (hw : State.trainingEnds_writes.testBit
    F.ctorIdx = false) (h : Still F I V s) :
    Still F I V (State.trainingEnds s t) := by
  unfold State.trainingEnds
  repeat' first
    | with_reducible assumption
    | intro _
    | with_reducible refine State.syncSend_still _ _ ?_
    | with_reducible refine State.chainHere_still _ (Wr.sub (by decide) hw) ?_
    | with_reducible apply Still.ite
    | fail_if_no_progress with_reducible apply Still.upd
    | split
    | (with_reducible apply Still.upd); split

def execPeriodBell_writes : Nat :=
    0x10181003a000000000000000000300000400004064021800803f6737ffffffc4c37b0ccc3ff3f87fffc06c00021ffff83fffffdfe124fc7ff0e0027fc90bc00000000000003800000001000080
theorem execPeriodBell_still {F : Fld} {I V : Nat} (s : State) (hw : execPeriodBell_writes.testBit F.ctorIdx = false) (h :
    Still F I V s) :
    StillOut F I V (execPeriodBell s) := by
  unfold execPeriodBell
  repeat' first
    | with_reducible assumption
    | with_reducible apply StillOut.next
    | with_reducible apply StillOut.ite
    | intro _
    | with_reducible refine State.periodBell_still _ (Wr.sub (by decide) hw) ?_
    | with_reducible apply Still.ite
    | split
    | dsimp only; split

def execHeadEvent_writes : Nat :=
    0x10181003a000000000000000000300000400004064021800803f6737ffffffc4c37b0ccc3ffbf87fffc06c00021ffff83fffffdfe124fc7ff0e0027fc90bc00000000000003800000001000080
theorem execHeadEvent_still {F : Fld} {I V : Nat} (m : Nat) (falling : Bool) (s : State) (hw : execHeadEvent_writes.testBit
    F.ctorIdx = false) (h : Still F I V s) :
    StillOut F I V (execHeadEvent m falling s) := by
  unfold execHeadEvent
  repeat' first
    | with_reducible assumption
    | with_reducible apply StillOut.next
    | with_reducible apply StillOut.ite
    | intro _
    | with_reducible refine State.setFld_still _ _ _ _ (W := execHeadEvent_writes) ?_ hw ?_
    | decide
    | with_reducible refine State.periodBell_still _ (Wr.sub (by decide) hw) ?_
    | with_reducible apply Still.ite
    | fail_if_no_progress with_reducible apply Still.upd
    | split
    | dsimp only; split

def execLessonFallback_writes : Nat :=
    0x10181003a000000000000000000300000400004064021800803f6737ffffffc4c37b0ccc3ff7f87fffc06c00021ffff83fffffdfe124fc7ff0e0027fc90bc00000000000003800000001000080
theorem execLessonFallback_still {F : Fld} {I V : Nat} (s : State) (hw : execLessonFallback_writes.testBit F.ctorIdx =
    false) (h : Still F I V s) :
    StillOut F I V (execLessonFallback s) := by
  unfold execLessonFallback
  repeat' first
    | with_reducible assumption
    | with_reducible apply StillOut.next
    | with_reducible apply StillOut.ite
    | intro _
    | with_reducible refine State.setFld_still _ _ _ _ (W := execLessonFallback_writes) ?_ hw ?_
    | decide
    | with_reducible refine State.periodBell_still _ (Wr.sub (by decide) hw) ?_
    | with_reducible refine State.engEvent_still _ _ _ _ _ _ _ _ (Wr.sub (by decide) hw) ?_
    | with_reducible apply Still.ite
    | split
    | dsimp only; split

def State.bellReqWrite_writes : Nat :=
    0x100220000000000000000000000000000000000000000000000000000000020000000000000000000000000000000000000000000000000000000000000000000000000000000000000000
theorem State.bellReqWrite_still {F : Fld} {I V : Nat} (s : State) (who : Nat) (v : Nat) (hw :
    State.bellReqWrite_writes.testBit F.ctorIdx = false) (h : Still F I V s) :
    Still F I V (State.bellReqWrite s who v) := by
  unfold State.bellReqWrite
  repeat' first
    | with_reducible assumption
    | intro _
    | with_reducible refine State.requestApply_still _ _ _ _ ?_
    | with_reducible refine State.discarded_still _ _ _ (Wr.sub (by decide) hw) ?_
    | with_reducible refine State.requestLatch_still _ _ (Wr.sub (by decide) hw) ?_
    | with_reducible refine State.requestBarrier_still _ _ _ ?_
    | with_reducible apply Still.whenIf
    | with_reducible apply Still.ite
    | split
    | (with_reducible apply Still.upd); split

def execBellReqApply_writes : Nat :=
    0x100220000000000000000003000000000000000000000000000000000000020000000000000000000000000000000000000000000000000000000000000000000000000000000000000000
theorem execBellReqApply_still {F : Fld} {I V : Nat} (core : Nat) (group : Nat) (s : State) (hw :
    execBellReqApply_writes.testBit F.ctorIdx = false) (h : Still F I V s) :
    StillOut F I V (execBellReqApply core group s) := by
  unfold execBellReqApply
  repeat' first
    | with_reducible assumption
    | with_reducible apply StillOut.next
    | with_reducible apply StillOut.ite
    | intro _
    | with_reducible refine State.accessBlk_still _ _ _ _ _ (Wr.sub (by decide) hw) ?_ ?_
    | with_reducible refine State.bellReqWrite_still _ _ _ (Wr.sub (by decide) hw) ?_
    | with_reducible apply Still.ite
    | split
    | dsimp only; split

def execBellReqJointApply_writes : Nat :=
    0x100220000000000000000003000000000000000000000000000000000000020000000000000000000000000000000000000000000000000000000000000000000000000000000000000000
theorem execBellReqJointApply_still {F : Fld} {I V : Nat} (core : Nat) (mask : Nat) (extra : Bool) (s : State) (hw :
    execBellReqJointApply_writes.testBit F.ctorIdx = false) (h : Still F I V s) :
    StillOut F I V (execBellReqJointApply core mask extra s) := by
  unfold execBellReqJointApply
  repeat' first
    | with_reducible assumption
    | with_reducible apply StillOut.next
    | intro _
    | with_reducible refine State.accessBlk_still _ _ _ _ _ (Wr.sub (by decide) hw) ?_ ?_
    | with_reducible refine State.bellReqWrite_still _ _ _ (Wr.sub (by decide) hw) ?_
    | split
    | dsimp only; split

def execBellReqLatch_writes : Nat :=
    0x100220000000000000000003000000000000000000000000000000000000020000000000000000000000000000000000000000000000000000000000000000000000000000000000000000
theorem execBellReqLatch_still {F : Fld} {I V : Nat} (core : Nat) (points : Nat) (s : State) (hw :
    execBellReqLatch_writes.testBit F.ctorIdx = false) (h : Still F I V s) :
    StillOut F I V (execBellReqLatch core points s) := by
  unfold execBellReqLatch
  repeat' first
    | with_reducible assumption
    | with_reducible apply StillOut.next
    | intro _
    | with_reducible refine State.accessBlk_still _ _ _ _ _ (Wr.sub (by decide) hw) ?_ ?_
    | with_reducible refine State.bellReqWrite_still _ _ _ (Wr.sub (by decide) hw) ?_
    | split
    | dsimp only; split

def execBellReqBarrier_writes : Nat :=
    0x100220000000000000000003000000000000000000000000000000000000020000000000000000000000000000000000000000000000000000000000000000000000000000000000000000
theorem execBellReqBarrier_still {F : Fld} {I V : Nat} (core : Nat) (ident : Nat) (s : State) (hw :
    execBellReqBarrier_writes.testBit F.ctorIdx = false) (h : Still F I V s) :
    StillOut F I V (execBellReqBarrier core ident s) := by
  unfold execBellReqBarrier
  repeat' first
    | with_reducible assumption
    | with_reducible apply StillOut.next
    | intro _
    | with_reducible refine State.accessBlk_still _ _ _ _ _ (Wr.sub (by decide) hw) ?_ ?_
    | with_reducible refine State.bellReqWrite_still _ _ _ (Wr.sub (by decide) hw) ?_
    | split
    | dsimp only; split

def execBellAlone_writes : Nat :=
    0x10181003a000000000000000000300000400004060001000003e0737ffffffc4c373000c0003f87fffc00000001ffff01c3fffdfe124fc7ff0e0027fc90bc00000000000003800000001000080
theorem execBellAlone_still {F : Fld} {I V : Nat} (s : State) (hw : execBellAlone_writes.testBit F.ctorIdx = false) (h :
    Still F I V s) :
    StillOut F I V (execBellAlone s) := by
  unfold execBellAlone
  repeat' first
    | with_reducible assumption
    | with_reducible apply StillOut.next
    | intro _
    | with_reducible refine State.bellAlone_still _ (Wr.sub (by decide) hw) ?_
    | split
    | dsimp only; split

def State.retireRoot_writes : Nat :=
    0x100220000000000000000000000000000000600218000000000000000000000000000000000000000000000000000000000000000000000000000000000000000000000000000000000300
theorem State.retireRoot_still {F : Fld} {I V : Nat} (s : State) (root : Nat) (hw : State.retireRoot_writes.testBit
    F.ctorIdx = false) (h : Still F I V s) :
    Still F I V (State.retireRoot s root) := by
  unfold State.retireRoot
  repeat' first
    | with_reducible assumption
    | intro _
    | with_reducible refine State.setFld_still _ _ _ _ (W := State.retireRoot_writes) ?_ hw ?_
    | decide
    | unfold rootOk; split <;> decide
    | with_reducible refine State.event_still _ _ _ _ _ (Wr.sub (by decide) hw) ?_
    | with_reducible refine State.consumeSpare_still _ _ (Wr.sub (by decide) hw) ?_
    | with_reducible refine State.recordRepair_still _ _ _ _ _ (Wr.sub (by decide) hw) ?_
    | with_reducible apply Still.ite
    | split
    | (with_reducible apply Still.upd); split

def execBellCopyDivergence_writes : Nat :=
    0x100220000000000000000000000000000000600218000000000000000000000000000000000000000000000000000000000000000000000000000000000000000000000000000000004300
theorem execBellCopyDivergence_still {F : Fld} {I V : Nat} (root : Nat) (s : State) (hw :
    execBellCopyDivergence_writes.testBit F.ctorIdx = false) (h : Still F I V s) :
    StillOut F I V (execBellCopyDivergence root s) := by
  unfold execBellCopyDivergence
  repeat' first
    | with_reducible assumption
    | with_reducible apply StillOut.next
    | with_reducible apply StillOut.ite
    | intro _
    | with_reducible refine State.count_still _ _ _ (W := execBellCopyDivergence_writes) ?_ hw ?_
    | decide
    | with_reducible refine State.event_still _ _ _ _ _ (Wr.sub (by decide) hw) ?_
    | with_reducible refine State.retireRoot_still _ _ (Wr.sub (by decide) hw) ?_
    | with_reducible apply Still.whenIf
    | with_reducible apply Still.ite
    | fail_if_no_progress with_reducible apply Still.upd
    | split
    | dsimp only; split

end Sys2Proof.Machine
end

