-- ==== Sys2Proof/Laws/StillPorts.lean ====
section
/-!
SUPPORT. Which register fields the operations of Machine/Ports.lean can write (Laws/Still.lean), as bits by the field's number, and
that they leave every other as it was.
-/
namespace Sys2Proof.Machine

set_option linter.unusedTactic false
set_option linter.unreachableTactic false

def State.trainStart_writes : Nat :=
    0xc0000000000000000000000000000000000000000000000000000000000000000000000000000000000000000000000000000000000000000000000000000000000000000000000
theorem State.trainStart_still {F : Fld} {I V : Nat} (s : State) (hw : State.trainStart_writes.testBit F.ctorIdx = false)
    (h : Still F I V s) :
    Still F I V (State.trainStart s) := by
  unfold State.trainStart
  repeat' first
    | with_reducible assumption
    | intro _
    | with_reducible refine State.setFld_still _ _ _ _ (W := State.trainStart_writes) ?_ hw ?_
    | decide
    | with_reducible refine State.syncSend_still _ _ ?_
    | with_reducible apply Still.ite
    | fail_if_no_progress with_reducible apply Still.upd
    | split
    | (with_reducible apply Still.upd); split

def State.portStart_writes : Nat :=
    0xc0e00002000000000000000000000000000000000000000000000000000000000000000000000000000000000000000000000000000000000000000000000000000000000000000
theorem State.portStart_still {F : Fld} {I V : Nat} (s : State) (p : Nat) (hw : State.portStart_writes.testBit F.ctorIdx =
    false) (h : Still F I V s) :
    Still F I V (State.portStart s p) := by
  unfold State.portStart
  repeat' first
    | with_reducible assumption
    | intro _
    | with_reducible refine State.setFld_still _ _ _ _ (W := State.portStart_writes) ?_ hw ?_
    | decide
    | with_reducible refine State.trainStart_still _ (Wr.sub (by decide) hw) ?_
    | with_reducible apply Still.ite
    | split
    | (with_reducible apply Still.upd); split

def State.portStop_writes : Nat :=
    0x2000000000000000000000000000000000000000000000000000000000000000000000000000000000000000000000000000000000000000000000000000000000000000
theorem State.portStop_still {F : Fld} {I V : Nat} (s : State) (p : Nat) (hw : State.portStop_writes.testBit F.ctorIdx =
    false) (h : Still F I V s) :
    Still F I V (State.portStop s p) := by
  unfold State.portStop
  repeat' first
    | with_reducible assumption
    | intro _
    | with_reducible refine State.setFld_still _ _ _ _ (W := State.portStop_writes) ?_ hw ?_
    | decide
    | with_reducible apply Still.ite
    | fail_if_no_progress with_reducible apply Still.upd
    | split
    | (with_reducible apply Still.upd); split

def State.portEnSet_writes : Nat :=
    0xc0e00002000800000000000000000000000000000000000000000000000000000000000000000000000000000000000000000000000000000000000000000000000000000000000
theorem State.portEnSet_still {F : Fld} {I V : Nat} (s : State) (mask : Nat) (hw : State.portEnSet_writes.testBit F.ctorIdx
    = false) (h : Still F I V s) :
    Still F I V (State.portEnSet s mask) := by
  unfold State.portEnSet
  repeat' first
    | with_reducible assumption
    | intro _
    | with_reducible refine State.setFld_still _ _ _ _ (W := State.portEnSet_writes) ?_ hw ?_
    | decide
    | with_reducible refine State.portStart_still _ _ (Wr.sub (by decide) hw) ?_
    | with_reducible refine State.portStop_still _ _ (Wr.sub (by decide) hw) ?_
    | with_reducible apply Still.each
    | with_reducible apply Still.ite
    | split
    | (with_reducible apply Still.upd); split

def execPortEnWrite_writes : Nat :=
    0x1002200c0e00002000800003000000000000000000000000000000000000000000000000000000000000000000000000000000000000000000000000000000000000000000000000000000
theorem execPortEnWrite_still {F : Fld} {I V : Nat} (core : Nat) (mask : Nat) (s : State) (hw :
    execPortEnWrite_writes.testBit F.ctorIdx = false) (h : Still F I V s) :
    StillOut F I V (execPortEnWrite core mask s) := by
  unfold execPortEnWrite
  repeat' first
    | with_reducible assumption
    | with_reducible apply StillOut.next
    | intro _
    | with_reducible refine State.access_still _ _ _ _ _ (Wr.sub (by decide) hw) ?_ ?_
    | with_reducible refine State.portEnSet_still _ _ (Wr.sub (by decide) hw) ?_
    | split
    | dsimp only; split

def execPortRestart_writes : Nat :=
    0xc0e00002001000000000000000000000000000000000000000000000000000000000000000000000000000000000000000000000000000000000000000000000000000000000000
theorem execPortRestart_still {F : Fld} {I V : Nat} (p : Nat) (s : State) (hw : execPortRestart_writes.testBit F.ctorIdx =
    false) (h : Still F I V s) :
    StillOut F I V (execPortRestart p s) := by
  unfold execPortRestart
  repeat' first
    | with_reducible assumption
    | with_reducible apply StillOut.next
    | with_reducible apply StillOut.ite
    | intro _
    | with_reducible refine State.setBit_still _ _ _ _ _ (W := execPortRestart_writes) ?_ hw ?_
    | decide
    | with_reducible refine State.portStart_still _ _ (Wr.sub (by decide) hw) ?_
    | with_reducible apply Still.whenIf
    | with_reducible apply Still.ite
    | fail_if_no_progress with_reducible apply Still.upd
    | split
    | dsimp only; split

def execEthLinkChange_writes : Nat :=
    0xe000000000000000000000000000000000000000000000000000000000000000000000000000000000000000000000000000000000000000000000000000000000000000
theorem execEthLinkChange_still {F : Fld} {I V : Nat} (p : Nat) (up : Bool) (spd : Nat) (fdx : Bool) (s : State) (hw :
    execEthLinkChange_writes.testBit F.ctorIdx = false) (h : Still F I V s) :
    StillOut F I V (execEthLinkChange p up spd fdx s) := by
  unfold execEthLinkChange
  repeat' first
    | with_reducible assumption
    | with_reducible apply StillOut.next
    | with_reducible apply StillOut.ite
    | intro _
    | with_reducible refine State.setFld_still _ _ _ _ (W := execEthLinkChange_writes) ?_ hw ?_
    | with_reducible refine State.setFlag_still _ _ _ _ (W := execEthLinkChange_writes) ?_ hw ?_
    | decide
    | with_reducible apply Still.ite
    | split
    | dsimp only; split

def State.ringReadsPoison_writes : Nat :=
    0x10181003e0800000000002000003000000000000640218000000200000000000a00803403f80000000006c000210000827c0000000000000000002000908000000000000000000000001000000
theorem State.ringReadsPoison_still {F : Fld} {I V : Nat} (s : State) (c : Consumer) (addr : Nat) (hw :
    State.ringReadsPoison_writes.testBit F.ctorIdx = false) (h : Still F I V s) :
    Still F I V (State.ringReadsPoison s c addr) := by
  unfold State.ringReadsPoison
  repeat' first
    | with_reducible assumption
    | intro _
    | with_reducible refine State.consumerSees_still _ _ _ (Wr.sub (by decide) hw) ?_
    | with_reducible refine State.badRead_still _ _ _ _ (Wr.sub (by decide) hw) ?_
    | split
    | (with_reducible apply Still.upd); split

def State.receive_writes : Nat :=
    0x10181003e0800000000002000003000000000000640218000000200000000000a00803403f80000000006c000210000827c0000000000000000002000908000000000000000000000001000000
theorem State.receive_still {F : Fld} {I V : Nat} (s : State) (q_1 : Nat) (frame : List Nat) (matched : Nat) (ts : Nat)
    (drop : State → State) (hw : State.receive_writes.testBit F.ctorIdx = false) (h : Still F I V s) (hdrop : ∀ t, Still F
    I V t → Still F I V (drop t)) :
    Still F I V (State.receive s q_1 frame matched ts drop) := by
  unfold State.receive
  repeat' first
    | with_reducible assumption
    | intro _
    | with_reducible refine State.setFld_still _ _ _ _ (W := State.receive_writes) ?_ hw ?_
    | with_reducible refine State.count_still _ _ _ (W := State.receive_writes) ?_ hw ?_
    | decide
    | with_reducible refine State.produce_still _ _ _ _ _ (Wr.sub (by decide) hw) ?_
    | with_reducible refine State.ringReadsPoison_still _ _ _ (Wr.sub (by decide) hw) ?_
    | with_reducible apply Still.ite
    | with_reducible apply hdrop
    | split
    | (with_reducible apply Still.upd); split

def execEthFrameReceive_writes : Nat :=
    0x10181003e0800000030002000003000000000000640218000000200000000000a00803403f80000000006c000210000827c0000000000000000002000908000000000000000000000001000000
theorem execEthFrameReceive_still {F : Fld} {I V : Nat} (p : Nat) (frame : List Nat) (fcsOk : Bool) (ts : Nat) (s : State)
    (hw : execEthFrameReceive_writes.testBit F.ctorIdx = false) (h : Still F I V s) :
    StillOut F I V (execEthFrameReceive p frame fcsOk ts s) := by
  unfold execEthFrameReceive
  repeat' first
    | with_reducible assumption
    | with_reducible apply StillOut.next
    | with_reducible apply StillOut.ite
    | intro _
    | with_reducible refine State.count_still _ _ _ (W := execEthFrameReceive_writes) ?_ hw ?_
    | decide
    | with_reducible refine State.receive_still _ _ _ _ _ _ (Wr.sub (by decide) hw) ?_ ?_
    | with_reducible apply Still.ite
    | split
    | dsimp only; split

def State.canState_writes : Nat :=
    0x800000000000000000000000000000000000000000000000000000000000000000000000000000000000000000000000000000000000000000000000000000000000000000000
theorem State.canState_still {F : Fld} {I V : Nat} (s : State) (p : Nat) (hw : State.canState_writes.testBit F.ctorIdx =
    false) (h : Still F I V s) :
    Still F I V (State.canState s p) := by
  unfold State.canState
  repeat' first
    | with_reducible assumption
    | intro _
    | with_reducible refine State.setFld_still _ _ _ _ (W := State.canState_writes) ?_ hw ?_
    | decide
    | with_reducible apply Still.ite
    | split
    | (with_reducible apply Still.upd); split

def State.canRec_writes : Nat :=
    0xc00000000000000000000000000000000000000000000000000000000000000000000000000000000000000000000000000000000000000000000000000000000000000000000
theorem State.canRec_still {F : Fld} {I V : Nat} (s : State) (p : Nat) (err : Bool) (hw : State.canRec_writes.testBit
    F.ctorIdx = false) (h : Still F I V s) :
    Still F I V (State.canRec s p err) := by
  unfold State.canRec
  repeat' first
    | with_reducible assumption
    | intro _
    | with_reducible refine State.setFld_still _ _ _ _ (W := State.canRec_writes) ?_ hw ?_
    | decide
    | with_reducible refine State.canState_still _ _ (Wr.sub (by decide) hw) ?_
    | with_reducible apply Still.ite
    | split
    | (with_reducible apply Still.upd); split

def State.canTec_writes : Nat :=
    0xa00000000000000000000000000000000000000000000000000000000000000000000000000000000000000000000000000000000000000000000000000000000000000000000
theorem State.canTec_still {F : Fld} {I V : Nat} (s : State) (p : Nat) (err : Bool) (hw : State.canTec_writes.testBit
    F.ctorIdx = false) (h : Still F I V s) :
    Still F I V (State.canTec s p err) := by
  unfold State.canTec
  repeat' first
    | with_reducible assumption
    | intro _
    | with_reducible refine State.setFld_still _ _ _ _ (W := State.canTec_writes) ?_ hw ?_
    | decide
    | with_reducible refine State.canState_still _ _ (Wr.sub (by decide) hw) ?_
    | with_reducible apply Still.ite
    | split
    | (with_reducible apply Still.upd); split

def State.canStore_writes : Nat :=
    0x10181003e0800000000002000003000000000000640218000000200000000000a00803403f80000000006c000210000827c0000000000000000002000908000000000000000000000001000000
theorem State.canStore_still {F : Fld} {I V : Nat} (s : State) (p : Nat) (header : List Nat) (data : List Nat) (ts : Nat)
    (hw : State.canStore_writes.testBit F.ctorIdx = false) (h : Still F I V s) :
    Still F I V (State.canStore s p header data ts) := by
  unfold State.canStore
  repeat' first
    | with_reducible assumption
    | unfold id; with_reducible assumption
    | intro _
    | with_reducible refine State.receive_still _ _ _ _ _ _ (Wr.sub (by decide) hw) ?_ ?_
    | split
    | (with_reducible apply Still.upd); split

def execCanFrameReceive_writes : Nat :=
    0x10181003e0800c00000002000003000000000000640218000000200000000000a00803403f80000000006c000210000827c0000000000000000002000908000000000000000000000001000000
theorem execCanFrameReceive_still {F : Fld} {I V : Nat} (p : Nat) (ident : Nat) (ide : Bool) (fdf : Bool) (brs : Bool) (esi
    : Bool) (rtr : Bool) (dlc : Nat) (data : List Nat) (err : Bool) (ts : Nat) (s : State) (hw :
    execCanFrameReceive_writes.testBit F.ctorIdx = false) (h : Still F I V s) :
    StillOut F I V (execCanFrameReceive p ident ide fdf brs esi rtr dlc data err ts s) := by
  unfold execCanFrameReceive
  repeat' first
    | with_reducible assumption
    | with_reducible apply StillOut.next
    | with_reducible apply StillOut.ite
    | intro _
    | with_reducible refine State.canRec_still _ _ _ (Wr.sub (by decide) hw) ?_
    | with_reducible refine State.canStore_still _ _ _ _ _ (Wr.sub (by decide) hw) ?_
    | with_reducible apply Still.ite
    | split
    | dsimp only; split

def execCanBusOffRecovery_writes : Nat :=
    0xe00000000000000000000000000000000000000000000000000000000000000000000000000000000000000000000000000000000000000000000000000000000000000000000
theorem execCanBusOffRecovery_still {F : Fld} {I V : Nat} (p : Nat) (s : State) (hw : execCanBusOffRecovery_writes.testBit
    F.ctorIdx = false) (h : Still F I V s) :
    StillOut F I V (execCanBusOffRecovery p s) := by
  unfold execCanBusOffRecovery
  repeat' first
    | with_reducible assumption
    | with_reducible apply StillOut.next
    | with_reducible apply StillOut.ite
    | intro _
    | with_reducible refine State.setFld_still _ _ _ _ (W := execCanBusOffRecovery_writes) ?_ hw ?_
    | decide
    | with_reducible apply Still.ite
    | split
    | dsimp only; split

def execNiujorFrameReceive_writes : Nat :=
    0x10181003e0900000000002000003000000000000640218000000200000000000a00803403f80000000006c000210000827c0000000000000000002000908000000000000000000000001000000
theorem execNiujorFrameReceive_still {F : Fld} {I V : Nat} (dst : Nat) (src : Nat) (type : Nat) (payload : List Nat) (check
    : FrameCheck) (ts : Nat) (s : State) (hw : execNiujorFrameReceive_writes.testBit F.ctorIdx = false) (h : Still F I V s) :
    StillOut F I V (execNiujorFrameReceive dst src type payload check ts s) := by
  unfold execNiujorFrameReceive
  repeat' first
    | with_reducible assumption
    | with_reducible apply StillOut.next
    | with_reducible apply StillOut.ite
    | unfold id; with_reducible assumption
    | intro _
    | with_reducible refine State.count_still _ _ _ (W := execNiujorFrameReceive_writes) ?_ hw ?_
    | decide
    | with_reducible refine State.receive_still _ _ _ _ _ _ (Wr.sub (by decide) hw) ?_ ?_
    | with_reducible apply Still.ite
    | fail_if_no_progress with_reducible apply Still.upd
    | split
    | dsimp only; split

theorem execNiujorCycleStart_still {F : Fld} {I V : Nat} (s : State) (h : Still F I V s) :
    StillOut F I V (execNiujorCycleStart s) := by
  unfold execNiujorCycleStart
  repeat' first
    | with_reducible assumption
    | with_reducible apply StillOut.next
    | with_reducible apply StillOut.ite
    | intro _
    | with_reducible refine State.peerSend_still _ _ ?_
    | with_reducible apply Still.ite
    | fail_if_no_progress with_reducible apply Still.upd
    | split
    | dsimp only; split

theorem execNiujorSlot_still {F : Fld} {I V : Nat} (s : State) (h : Still F I V s) :
    StillOut F I V (execNiujorSlot s) := by
  unfold execNiujorSlot
  repeat' first
    | with_reducible assumption
    | with_reducible apply StillOut.next
    | with_reducible apply StillOut.ite
    | intro _
    | with_reducible refine State.peerSend_still _ _ ?_
    | with_reducible apply Still.ite
    | fail_if_no_progress with_reducible apply Still.upd
    | split
    | dsimp only; split

def State.trainWrite_writes : Nat :=
    0xc0000000000000000000000000000000000000000000000000000000000000000000000000000000000000000000000000000000000000000000000000000000000000000000000
theorem State.trainWrite_still {F : Fld} {I V : Nat} (s : State) (hw : State.trainWrite_writes.testBit F.ctorIdx = false)
    (h : Still F I V s) :
    Still F I V (State.trainWrite s) := by
  unfold State.trainWrite
  repeat' first
    | with_reducible assumption
    | intro _
    | with_reducible refine State.trainStart_still _ (Wr.sub (by decide) hw) ?_
    | with_reducible apply Still.whenIf
    | split
    | (with_reducible apply Still.upd); split

def execPeerTrain_writes : Nat :=
    0x1002200c0000000000000003000000000000000000000000000000000000000000000000000000000000000000000000000000000000000000000000000000000000000000000000000000
theorem execPeerTrain_still {F : Fld} {I V : Nat} (core : Nat) (s : State) (hw : execPeerTrain_writes.testBit F.ctorIdx =
    false) (h : Still F I V s) :
    StillOut F I V (execPeerTrain core s) := by
  unfold execPeerTrain
  repeat' first
    | with_reducible assumption
    | with_reducible apply StillOut.next
    | intro _
    | with_reducible refine State.access_still _ _ _ _ _ (Wr.sub (by decide) hw) ?_ ?_
    | with_reducible refine State.trainWrite_still _ (Wr.sub (by decide) hw) ?_
    | split
    | dsimp only; split

def execTrainingWord_writes : Nat :=
    0xc0000000000000000000000000000000000000000000000000000000000000000000000000000000000000000000000000000000000000000000000000000000000000000000000
theorem execTrainingWord_still {F : Fld} {I V : Nat} (marker : Nat) (pos : Nat) (check : Nat) (s : State) (hw :
    execTrainingWord_writes.testBit F.ctorIdx = false) (h : Still F I V s) :
    StillOut F I V (execTrainingWord marker pos check s) := by
  unfold execTrainingWord
  repeat' first
    | with_reducible assumption
    | with_reducible apply StillOut.next
    | with_reducible apply StillOut.ite
    | intro _
    | with_reducible refine State.setFld_still _ _ _ _ (W := execTrainingWord_writes) ?_ hw ?_
    | decide
    | with_reducible refine State.syncSend_still _ _ ?_
    | with_reducible apply Still.ite
    | fail_if_no_progress with_reducible apply Still.upd
    | split
    | dsimp only; split

theorem execHopPulse_still {F : Fld} {I V : Nat} (s : State) (h : Still F I V s) :
    StillOut F I V (execHopPulse s) := by
  unfold execHopPulse
  repeat' first
    | with_reducible assumption
    | with_reducible apply StillOut.next
    | with_reducible apply StillOut.ite
    | intro _
    | with_reducible refine State.peerSend_still _ _ ?_
    | with_reducible apply Still.ite
    | split
    | dsimp only; split

theorem State.hopOf_still {F : Fld} {I V : Nat} (s : State) (rt : Nat) (h : Still F I V s) :
    Still F I V (State.hopOf s rt).2 := by
  unfold State.hopOf
  repeat' first
    | with_reducible assumption
    | intro _
    | with_reducible refine State.fresh_still _ _ ?_
    | (with_reducible refine Still.snd ?_ (by assumption)); with_reducible refine State.fresh_still _ _ ?_
    | with_reducible apply Still.ite
    | with_reducible apply Still.iteSnd
    | dsimp only
    | split
    | (with_reducible apply Still.upd); split

def execTrainingEcho_writes : Nat :=
    0x10181003a000000000000000000300000400004064021800803f6737ffffffc4c37b0ccc3ff3f87fffc06c00021ffff83fffffdfe124fc7ff0e0027fc90bc00000000000003800000001000080
theorem execTrainingEcho_still {F : Fld} {I V : Nat} (roundTrip : Nat) (s : State) (hw : execTrainingEcho_writes.testBit
    F.ctorIdx = false) (h : Still F I V s) :
    StillOut F I V (execTrainingEcho roundTrip s) := by
  unfold execTrainingEcho
  repeat' first
    | with_reducible assumption
    | with_reducible apply StillOut.next
    | with_reducible apply StillOut.ite
    | intro _
    | with_reducible refine State.hopOf_still _ _ ?_
    | (with_reducible refine Still.snd ?_ (by assumption)); with_reducible refine State.hopOf_still _ _ ?_
    | with_reducible refine State.peerSend_still _ _ ?_
    | with_reducible refine State.trainingEnds_still _ _ (Wr.sub (by decide) hw) ?_
    | with_reducible apply Still.ite
    | fail_if_no_progress with_reducible apply Still.upd
    | split
    | dsimp only; split

def execHopReport_writes : Nat := 0x20000
theorem execHopReport_still {F : Fld} {I V : Nat} (hop : Nat) (s : State) (hw : execHopReport_writes.testBit F.ctorIdx =
    false) (h : Still F I V s) :
    StillOut F I V (execHopReport hop s) := by
  unfold execHopReport
  repeat' first
    | with_reducible assumption
    | with_reducible apply StillOut.next
    | with_reducible apply StillOut.ite
    | intro _
    | with_reducible refine State.setFld_still _ _ _ _ (W := execHopReport_writes) ?_ hw ?_
    | decide
    | with_reducible refine State.syncSend_still _ _ ?_
    | with_reducible apply Still.ite
    | fail_if_no_progress with_reducible apply Still.upd
    | split
    | dsimp only; split

def execEchoTimeout_writes : Nat :=
    0x10181003a009000000000000000300000400004064021800803f6737ffffffc4c37b0ccc3ff3f87fffc06c00021ffff83fffffdfe124fc7ff0e0027fc90bc00000000000003800000001000080
theorem execEchoTimeout_still {F : Fld} {I V : Nat} (s : State) (hw : execEchoTimeout_writes.testBit F.ctorIdx = false) (h
    : Still F I V s) :
    StillOut F I V (execEchoTimeout s) := by
  unfold execEchoTimeout
  repeat' first
    | with_reducible assumption
    | with_reducible apply StillOut.next
    | with_reducible apply StillOut.ite
    | intro _
    | with_reducible refine State.setFld_still _ _ _ _ (W := execEchoTimeout_writes) ?_ hw ?_
    | decide
    | with_reducible refine State.trainingEnds_still _ _ (Wr.sub (by decide) hw) ?_
    | with_reducible refine State.peerSend_still _ _ ?_
    | with_reducible apply Still.ite
    | split
    | dsimp only; split

def execPositionReport_writes : Nat :=
    0x10181003a009000000000000000300000400004064021800803f6737ffffffc4c37b0ccc3ff3f87fffc06c00021ffff83fffffdfe124fc7ff0e0027fc90bc00000000000003800000001000080
theorem execPositionReport_still {F : Fld} {I V : Nat} (pos : Nat) (s : State) (hw : execPositionReport_writes.testBit
    F.ctorIdx = false) (h : Still F I V s) :
    StillOut F I V (execPositionReport pos s) := by
  unfold execPositionReport
  repeat' first
    | with_reducible assumption
    | with_reducible apply StillOut.next
    | with_reducible apply StillOut.ite
    | intro _
    | with_reducible refine State.setFld_still _ _ _ _ (W := execPositionReport_writes) ?_ hw ?_
    | decide
    | with_reducible refine State.trainingEnds_still _ _ (Wr.sub (by decide) hw) ?_
    | with_reducible apply Still.ite
    | split
    | dsimp only; split

def execTrainingTimeout_writes : Nat :=
    0x10181003a000000000000000000300000400004064021800803f6737ffffffc4c37b0ccc3ff3f87fffc06c00021ffff83fffffdfe124fc7ff0e0027fc90bc00000000000003800000001000080
theorem execTrainingTimeout_still {F : Fld} {I V : Nat} (s : State) (hw : execTrainingTimeout_writes.testBit F.ctorIdx =
    false) (h : Still F I V s) :
    StillOut F I V (execTrainingTimeout s) := by
  unfold execTrainingTimeout
  repeat' first
    | with_reducible assumption
    | with_reducible apply StillOut.next
    | with_reducible apply StillOut.ite
    | intro _
    | with_reducible refine State.trainingEnds_still _ _ (Wr.sub (by decide) hw) ?_
    | with_reducible apply Still.ite
    | split
    | dsimp only; split

def State.mdioStart_writes : Nat :=
    0x10022000000000007c000000000000000000000000000000000000000000000000000000000000000000000000000000000000000000000000000000000000000000000000000000000000
theorem State.mdioStart_still {F : Fld} {I V : Nat} (s : State) (phyad : Nat) (regad : Nat) (isWrite : Bool) (data : Nat)
    (hw : State.mdioStart_writes.testBit F.ctorIdx = false) (h : Still F I V s) :
    Still F I V (State.mdioStart s phyad regad isWrite data) := by
  unfold State.mdioStart
  repeat' first
    | with_reducible assumption
    | intro _
    | with_reducible refine State.setFld_still _ _ _ _ (W := State.mdioStart_writes) ?_ hw ?_
    | with_reducible refine State.setFlag_still _ _ _ _ (W := State.mdioStart_writes) ?_ hw ?_
    | decide
    | with_reducible refine State.discarded_still _ _ _ (Wr.sub (by decide) hw) ?_
    | with_reducible apply Still.ite
    | fail_if_no_progress with_reducible apply Still.upd
    | split
    | (with_reducible apply Still.upd); split

def execEthMdioWrite_writes : Nat :=
    0x10022000000000007c000003000000000000000000000000000000000000000000000000000000000000000000000000000000000000000000000000000000000000000000000000000000
theorem execEthMdioWrite_still {F : Fld} {I V : Nat} (core : Nat) (phyad : Nat) (regad : Nat) (isWrite : Bool) (data : Nat)
    (s : State) (hw : execEthMdioWrite_writes.testBit F.ctorIdx = false) (h : Still F I V s) :
    StillOut F I V (execEthMdioWrite core phyad regad isWrite data s) := by
  unfold execEthMdioWrite
  repeat' first
    | with_reducible assumption
    | with_reducible apply StillOut.next
    | intro _
    | with_reducible refine State.access_still _ _ _ _ _ (Wr.sub (by decide) hw) ?_ ?_
    | with_reducible refine State.mdioStart_still _ _ _ _ _ (Wr.sub (by decide) hw) ?_
    | split
    | dsimp only; split

def execMdioFrameComplete_writes : Nat :=
    0x60000000000000000000000000000000000000000000000000000000000000000000000000000000000000000000000000000000000000000000000000000000000000
theorem execMdioFrameComplete_still {F : Fld} {I V : Nat} (data : Nat) (s : State) (hw :
    execMdioFrameComplete_writes.testBit F.ctorIdx = false) (h : Still F I V s) :
    StillOut F I V (execMdioFrameComplete data s) := by
  unfold execMdioFrameComplete
  repeat' first
    | with_reducible assumption
    | with_reducible apply StillOut.next
    | with_reducible apply StillOut.ite
    | intro _
    | with_reducible refine State.setFld_still _ _ _ _ (W := execMdioFrameComplete_writes) ?_ hw ?_
    | decide
    | with_reducible apply Still.ite
    | fail_if_no_progress with_reducible apply Still.upd
    | split
    | dsimp only; split

def State.ringOwned_writes : Nat :=
    0x100220000000000000000003000000000000000000000000000000000000000000000000000000000000000000000000000000000000000000000000000000000000000000000000000000
theorem State.ringOwned_still {F : Fld} {I V : Nat} (s : State) (core : Nat) (q_2 : Nat) (addr : Nat) (f : State → State)
    (hw : State.ringOwned_writes.testBit F.ctorIdx = false) (h : Still F I V s) (hf : ∀ t, Still F I V t → Still F I V (f
    t)) :
    Still F I V (State.ringOwned s core q_2 addr f) := by
  unfold State.ringOwned
  repeat' first
    | with_reducible assumption
    | intro _
    | with_reducible refine State.access_still _ _ _ _ _ (Wr.sub (by decide) hw) ?_ ?_
    | with_reducible refine State.discarded_still _ _ _ (Wr.sub (by decide) hw) ?_
    | with_reducible apply Still.ite
    | with_reducible apply hf
    | split
    | (with_reducible apply Still.upd); split

def State.ringCfgSet_writes : Nat :=
    0x10023e000000000000000000000000000000000000000000000000000000000000000000000000000000000000000000000000000000000000000000000000000000000000000000000000
theorem State.ringCfgSet_still {F : Fld} {I V : Nat} (s : State) (q_1 : Nat) (v : Nat) (hw :
    State.ringCfgSet_writes.testBit F.ctorIdx = false) (h : Still F I V s) :
    Still F I V (State.ringCfgSet s q_1 v) := by
  unfold State.ringCfgSet
  repeat' first
    | with_reducible assumption
    | intro _
    | with_reducible refine State.setFld_still _ _ _ _ (W := State.ringCfgSet_writes) ?_ hw ?_
    | with_reducible refine State.setFlag_still _ _ _ _ (W := State.ringCfgSet_writes) ?_ hw ?_
    | decide
    | with_reducible refine State.discarded_still _ _ _ (Wr.sub (by decide) hw) ?_
    | with_reducible apply Still.ite
    | split
    | (with_reducible apply Still.upd); split

def execRingCfgWrite_writes : Nat :=
    0x10023e000000000000000003000000000000000000000000000000000000000000000000000000000000000000000000000000000000000000000000000000000000000000000000000000
theorem execRingCfgWrite_still {F : Fld} {I V : Nat} (core : Nat) (q_1 : Nat) (value : Nat) (s : State) (hw :
    execRingCfgWrite_writes.testBit F.ctorIdx = false) (h : Still F I V s) :
    StillOut F I V (execRingCfgWrite core q_1 value s) := by
  unfold execRingCfgWrite
  repeat' first
    | with_reducible assumption
    | with_reducible apply StillOut.next
    | with_reducible apply StillOut.ite
    | intro _
    | with_reducible refine State.ringOwned_still _ _ _ _ _ (Wr.sub (by decide) hw) ?_ ?_
    | with_reducible refine State.ringCfgSet_still _ _ _ (Wr.sub (by decide) hw) ?_
    | with_reducible apply Still.ite
    | split
    | dsimp only; split

def State.ringHeadSet_writes : Nat :=
    0x20000000000000000000000000000000000000000000000000000000000000000000000000000000000000000000000000000000000000000000000000000000000000000000000000
theorem State.ringHeadSet_still {F : Fld} {I V : Nat} (s : State) (q_1 : Nat) (v : Nat) (hw :
    State.ringHeadSet_writes.testBit F.ctorIdx = false) (h : Still F I V s) :
    Still F I V (State.ringHeadSet s q_1 v) := by
  unfold State.ringHeadSet
  repeat' first
    | with_reducible assumption
    | intro _
    | with_reducible refine State.setFld_still _ _ _ _ (W := State.ringHeadSet_writes) ?_ hw ?_
    | decide
    | with_reducible apply Still.ite
    | split
    | (with_reducible apply Still.upd); split

def execRingHeadWrite_writes : Nat :=
    0x100220000000000000000003000000000000000000000000000000000000000000000000000000000000000000000000000000000000000000000000000000000000000000000000000000
theorem execRingHeadWrite_still {F : Fld} {I V : Nat} (core : Nat) (q_1 : Nat) (head : Nat) (s : State) (hw :
    execRingHeadWrite_writes.testBit F.ctorIdx = false) (h : Still F I V s) :
    StillOut F I V (execRingHeadWrite core q_1 head s) := by
  unfold execRingHeadWrite
  repeat' first
    | with_reducible assumption
    | with_reducible apply StillOut.next
    | with_reducible apply StillOut.ite
    | intro _
    | with_reducible refine State.ringOwned_still _ _ _ _ _ (Wr.sub (by decide) hw) ?_ ?_
    | with_reducible refine State.ringHeadSet_still _ _ _ (Wr.sub (by decide) hw) ?_
    | with_reducible apply Still.ite
    | split
    | dsimp only; split

def State.lateEpochEvent_writes : Nat :=
    0x100220000000000000000000000000000000000000000000000000000000000000000000000000000000000000000000000000000000000000000000000000000000000000000000000000
theorem State.lateEpochEvent_still {F : Fld} {I V : Nat} (s : State) (hw : State.lateEpochEvent_writes.testBit F.ctorIdx =
    false) (h : Still F I V s) :
    Still F I V (State.lateEpochEvent s) := by
  unfold State.lateEpochEvent
  repeat' first
    | with_reducible assumption
    | intro _
    | with_reducible refine State.event_still _ _ _ _ _ (Wr.sub (by decide) hw) ?_
    | with_reducible apply Still.ite
    | fail_if_no_progress with_reducible apply Still.upd
    | split
    | (with_reducible apply Still.upd); split

def State.q10Passed_writes : Nat :=
    0x100220000000000000000000000000000000000000000000000000000000000000000000000000000000000000000000000000000000000000000000000000000000000000000000000000
theorem State.q10Passed_still {F : Fld} {I V : Nat} (s : State) (second : Bool) (n : Nat) (hw :
    State.q10Passed_writes.testBit F.ctorIdx = false) (h : Still F I V s) :
    Still F I V (State.q10Passed s second n) := by
  unfold State.q10Passed
  repeat' first
    | with_reducible assumption
    | intro _
    | with_reducible refine State.lateEpochEvent_still _ (Wr.sub (by decide) hw) ?_
    | with_reducible apply Still.ite
    | fail_if_no_progress with_reducible apply Still.upd
    | split
    | (with_reducible apply Still.upd); split

def State.q10TailSet_writes : Nat :=
    0x100660000000000000000000000000000000000000000000000000000000000000000000000000000000000000000000000000000000000000000000000000000000000000000000000000
theorem State.q10TailSet_still {F : Fld} {I V : Nat} (s : State) (second : Bool) (v : Nat) (hw :
    State.q10TailSet_writes.testBit F.ctorIdx = false) (h : Still F I V s) :
    Still F I V (State.q10TailSet s second v) := by
  unfold State.q10TailSet
  repeat' first
    | with_reducible assumption
    | intro _
    | with_reducible refine State.setFld_still _ _ _ _ (W := State.q10TailSet_writes) ?_ hw ?_
    | decide
    | with_reducible refine State.q10Passed_still _ _ _ (Wr.sub (by decide) hw) ?_
    | with_reducible apply Still.ite
    | split
    | (with_reducible apply Still.upd); split

def State.ringTailSet_writes : Nat :=
    0x100660000000000000000000000000000000000000000000000000000000000000000000000000000000000000000000000000000000000000000000000000000000000000000000000000
theorem State.ringTailSet_still {F : Fld} {I V : Nat} (s : State) (q_1 : Nat) (v : Nat) (hw :
    State.ringTailSet_writes.testBit F.ctorIdx = false) (h : Still F I V s) :
    Still F I V (State.ringTailSet s q_1 v) := by
  unfold State.ringTailSet
  repeat' first
    | with_reducible assumption
    | intro _
    | with_reducible refine State.setFld_still _ _ _ _ (W := State.ringTailSet_writes) ?_ hw ?_
    | decide
    | with_reducible refine State.q10TailSet_still _ _ _ (Wr.sub (by decide) hw) ?_
    | with_reducible apply Still.ite
    | split
    | (with_reducible apply Still.upd); split

def State.ringResume_writes : Nat :=
    0x80000000000000000000000000000000000000000000000000000000000000000000000000000000000000000000000000000000000000000000000000000000000000000000000000
theorem State.ringResume_still {F : Fld} {I V : Nat} (s : State) (q_1 : Nat) (hw : State.ringResume_writes.testBit
    F.ctorIdx = false) (h : Still F I V s) :
    Still F I V (State.ringResume s q_1) := by
  unfold State.ringResume
  repeat' first
    | with_reducible assumption
    | intro _
    | with_reducible refine State.setFld_still _ _ _ _ (W := State.ringResume_writes) ?_ hw ?_
    | decide
    | split
    | (with_reducible apply Still.upd); split

def execRingHaltClear_writes : Nat :=
    0x1002a0000000000000000003000000000000000000000000000000000000000000000000000000000000000000000000000000000000000000000000000000000000000000000000000000
theorem execRingHaltClear_still {F : Fld} {I V : Nat} (core : Nat) (q_1 : Nat) (s : State) (hw :
    execRingHaltClear_writes.testBit F.ctorIdx = false) (h : Still F I V s) :
    StillOut F I V (execRingHaltClear core q_1 s) := by
  unfold execRingHaltClear
  repeat' first
    | with_reducible assumption
    | with_reducible apply StillOut.next
    | with_reducible apply StillOut.ite
    | intro _
    | with_reducible refine State.ringOwned_still _ _ _ _ _ (Wr.sub (by decide) hw) ?_ ?_
    | with_reducible refine State.ringResume_still _ _ (Wr.sub (by decide) hw) ?_
    | with_reducible apply Still.ite
    | split
    | dsimp only; split

def State.takeDesc_writes : Nat :=
    0x10181003e0800000000002000003000000000000640218000000200000000000a00803403f80000000006c000210000827c0000000000000000002000908000000000000000000000001000000
theorem State.takeDesc_still {F : Fld} {I V : Nat} (s : State) (q_1 : Nat) (i : Nat) (hw : State.takeDesc_writes.testBit
    F.ctorIdx = false) (h : Still F I V s) :
    Still F I V (State.takeDesc s q_1 i) := by
  unfold State.takeDesc
  repeat' first
    | with_reducible assumption
    | intro _
    | with_reducible refine State.ringReadsPoison_still _ _ _ (Wr.sub (by decide) hw) ?_
    | with_reducible refine State.finish_still _ _ _ _ (Wr.sub (by decide) hw) ?_
    | with_reducible refine State.violation_still _ _ _ (Wr.sub (by decide) hw) ?_
    | with_reducible apply Still.ite
    | fail_if_no_progress with_reducible apply Still.upd
    | split
    | (with_reducible apply Still.upd); split

def execDescriptorProcess_writes : Nat :=
    0x10181003e0800000000002000003000000000000640218000000200000000000a00803403f80000000006c000210000827c0000000000000000002000908000000000000000000000001000000
theorem execDescriptorProcess_still {F : Fld} {I V : Nat} (s : State) (hw : execDescriptorProcess_writes.testBit F.ctorIdx
    = false) (h : Still F I V s) :
    StillOut F I V (execDescriptorProcess s) := by
  unfold execDescriptorProcess
  repeat' first
    | with_reducible assumption
    | with_reducible apply StillOut.next
    | intro _
    | with_reducible refine State.setFld_still _ _ _ _ (W := execDescriptorProcess_writes) ?_ hw ?_
    | decide
    | with_reducible refine State.takeDesc_still _ _ _ (Wr.sub (by decide) hw) ?_
    | fail_if_no_progress with_reducible apply Still.upd
    | split
    | dsimp only; split

def State.canSent_writes : Nat :=
    0x10181003e0800a00000002000003000000000000640218000000200000000000a00803403f80000000006c000210000827c0000000000000000002000908000000000000000000000001000000
theorem State.canSent_still {F : Fld} {I V : Nat} (s : State) (p : Nat) (code : Nat) (d : Desc) (ts : Nat) (hw :
    State.canSent_writes.testBit F.ctorIdx = false) (h : Still F I V s) :
    Still F I V (State.canSent s p code d ts) := by
  unfold State.canSent
  repeat' first
    | with_reducible assumption
    | intro _
    | with_reducible refine State.canTec_still _ _ _ (Wr.sub (by decide) hw) ?_
    | with_reducible refine State.canStore_still _ _ _ _ _ (Wr.sub (by decide) hw) ?_
    | with_reducible apply Still.ite
    | split
    | (with_reducible apply Still.upd); split

def execDescriptorComplete_writes : Nat :=
    0x10181003e0800a00000002000003000000000000640218000000200000000000a00803403f80000000006c000210000827c0000000000000000002000908000000000000000000000001000000
theorem execDescriptorComplete_still {F : Fld} {I V : Nat} (q_0 : Nat) (code : Nat) (ts : Nat) (s : State) (hw :
    execDescriptorComplete_writes.testBit F.ctorIdx = false) (h : Still F I V s) :
    StillOut F I V (execDescriptorComplete q_0 code ts s) := by
  unfold execDescriptorComplete
  repeat' first
    | with_reducible assumption
    | with_reducible apply StillOut.next
    | with_reducible apply StillOut.ite
    | intro _
    | with_reducible refine State.finish_still _ _ _ _ (Wr.sub (by decide) hw) ?_
    | with_reducible refine State.canSent_still _ _ _ _ _ (Wr.sub (by decide) hw) ?_
    | with_reducible apply Still.ite
    | split
    | dsimp only; split

def execCaptureBufferComplete_writes : Nat :=
    0x1003a0000000000000000003000000000000000000000000000000000000000000000000000000000000000000000000000000000000000000000000000000000000000000000000000000
theorem execCaptureBufferComplete_still {F : Fld} {I V : Nat} (a : Nat) (s : State) (hw :
    execCaptureBufferComplete_writes.testBit F.ctorIdx = false) (h : Still F I V s) :
    StillOut F I V (execCaptureBufferComplete a s) := by
  unfold execCaptureBufferComplete
  repeat' first
    | with_reducible assumption
    | with_reducible apply StillOut.next
    | with_reducible apply StillOut.ite
    | intro _
    | with_reducible refine State.captureDone_still _ _ _ (Wr.sub (by decide) hw) ?_
    | with_reducible apply Still.ite
    | split
    | dsimp only; split

def State.cryptoEnds_writes : Nat :=
    0x1003a0000000000000000000000000000000000000000000000000000000000000000000000000000000000000000000000000000000000000000000000000000000000000000000000000
theorem State.cryptoEnds_still {F : Fld} {I V : Nat} (s : State) (t : Taken) (result : Nat) (hw :
    State.cryptoEnds_writes.testBit F.ctorIdx = false) (h : Still F I V s) :
    Still F I V (State.cryptoEnds s t result) := by
  unfold State.cryptoEnds
  repeat' first
    | with_reducible assumption
    | intro _
    | with_reducible refine State.satWrite_still _ _ _ ?_
    | (with_reducible refine Still.snd ?_ (by assumption)); with_reducible refine State.satWrite_still _ _ _ ?_
    | with_reducible refine State.finish_still _ _ _ _ (Wr.sub (by decide) hw) ?_
    | with_reducible apply Still.ite
    | split
    | (with_reducible apply Still.upd); split

def State.crypto_writes : Nat :=
    0x1003a0000000000000000000000000000000000000000000000000000000000000000000000000000000000000000000000000000000000000000000000000000000000000000000000000
theorem State.crypto_still {F : Fld} {I V : Nat} (s : State) (op : Nat) (f : State → List Nat → Nat × State) (hw :
    State.crypto_writes.testBit F.ctorIdx = false) (h : Still F I V s) (hf : ∀ t, Still F I V t → ∀ x1, Still F I V (f t
    x1).2) :
    Still F I V (State.crypto s op f) := by
  unfold State.crypto
  repeat' first
    | with_reducible assumption
    | intro _
    | with_reducible refine State.finish_still _ _ _ _ (Wr.sub (by decide) hw) ?_
    | with_reducible refine State.cryptoEnds_still _ _ _ (Wr.sub (by decide) hw) ?_
    | with_reducible apply Still.ite
    | with_reducible apply hf
    | split
    | (with_reducible apply Still.upd); split

def execCryptoHash_writes : Nat :=
    0x1003a0000000000000000000000000000000000000000000000000000000000000000000000000000000000000000000000000000000000000000000000000000000000000000000000000
theorem execCryptoHash_still {F : Fld} {I V : Nat} (s : State) (hw : execCryptoHash_writes.testBit F.ctorIdx = false) (h :
    Still F I V s) :
    StillOut F I V (execCryptoHash s) := by
  unfold execCryptoHash
  repeat' first
    | with_reducible assumption
    | with_reducible apply StillOut.next
    | intro _
    | with_reducible refine State.crypto_still _ _ _ (Wr.sub (by decide) hw) ?_ ?_
    | split
    | dsimp only; split

def execCryptoVerify_writes : Nat :=
    0x1003a0000000000000000000000000000000000000000000000000000000000000000000000000000000000000000000000000000000000000000000000000000000000000000000000000
theorem execCryptoVerify_still {F : Fld} {I V : Nat} (s : State) (hw : execCryptoVerify_writes.testBit F.ctorIdx = false)
    (h : Still F I V s) :
    StillOut F I V (execCryptoVerify s) := by
  unfold execCryptoVerify
  repeat' first
    | with_reducible assumption
    | with_reducible apply StillOut.next
    | with_reducible apply StillOut.ite
    | intro _
    | with_reducible refine State.crypto_still _ _ _ (Wr.sub (by decide) hw) ?_ ?_
    | with_reducible refine State.fresh_still _ _ ?_
    | (with_reducible refine Still.snd ?_ (by assumption)); with_reducible refine State.fresh_still _ _ ?_
    | with_reducible apply Still.ite
    | split
    | dsimp only; split

end Sys2Proof.Machine
end

