-- ==== Sys2Proof/Laws/StillMemory.lean ====
section
/-!
SUPPORT. Which register fields the operations of Machine/Memory.lean can write (Laws/Still.lean), as bits by the field's number, and
that they leave every other as it was.
-/
namespace Sys2Proof.Machine

set_option linter.unusedTactic false
set_option linter.unreachableTactic false

theorem State.breakLr_still {F : Fld} {I V : Nat} (s : State) (region : Nat) (w : Wing) (granule : Nat) (h : Still F I V s) :
    Still F I V (State.breakLr s region w granule) := by
  unfold State.breakLr
  repeat' first
    | with_reducible assumption
    | intro _
    | with_reducible apply Still.ite
    | fail_if_no_progress with_reducible apply Still.upd
    | split
    | (with_reducible apply Still.upd); split

def State.storeGuard_writes : Nat :=
    0x100220000000000000000000000000000000040000000000000000000000000000000000000000000000000000000000000000000000000000000000000000000000000000000000000000
theorem State.storeGuard_still {F : Fld} {I V : Nat} (s : State) (core : Nat) (mem : Nat) (word : Nat) (addr : Nat) (f :
    State → State) (hw : State.storeGuard_writes.testBit F.ctorIdx = false) (h : Still F I V s) (hf : ∀ t, Still F I V t →
    Still F I V (f t)) :
    Still F I V (State.storeGuard s core mem word addr f) := by
  unfold State.storeGuard
  repeat' first
    | with_reducible assumption
    | intro _
    | with_reducible refine State.coreFault_still _ _ _ _ ?_
    | with_reducible refine State.badRead_still _ _ _ _ (Wr.sub (by decide) hw) ?_
    | with_reducible apply Still.ite
    | with_reducible apply hf
    | split
    | (with_reducible apply Still.upd); split

def State.memStore_writes : Nat :=
    0x100220000000000000000000000000000000040000000000000000000000000000000000000000000000000000000000000000000000000000000000000000000000000000000000000000
theorem State.memStore_still {F : Fld} {I V : Nat} (s : State) (core : Nat) (addr : Nat) (l : List Nat) (hw :
    State.memStore_writes.testBit F.ctorIdx = false) (h : Still F I V s) :
    Still F I V (State.memStore s core addr l) := by
  unfold State.memStore
  repeat' first
    | with_reducible assumption
    | intro _
    | with_reducible refine State.storeGuard_still _ _ _ _ _ _ (Wr.sub (by decide) hw) ?_ ?_
    | with_reducible refine State.breakLr_still _ _ _ _ ?_
    | with_reducible refine State.satWrite_still _ _ _ ?_
    | (with_reducible refine Still.snd ?_ (by assumption)); with_reducible refine State.satWrite_still _ _ _ ?_
    | with_reducible refine State.coreFault_still _ _ _ _ ?_
    | with_reducible refine State.badRead_still _ _ _ _ (Wr.sub (by decide) hw) ?_
    | with_reducible apply Still.ite
    | fail_if_no_progress with_reducible apply Still.upd
    | split
    | (with_reducible apply Still.upd); split

def State.coreStore_writes : Nat :=
    0x100220000000000000000003000000000000040000000000000000000000000000000000000000000000000000000000000000000000000000000000000000000000000000000000000000
theorem State.coreStore_still {F : Fld} {I V : Nat} (s : State) (core : Nat) (addr : Nat) (l : List Nat) (hw :
    State.coreStore_writes.testBit F.ctorIdx = false) (h : Still F I V s) :
    Still F I V (State.coreStore s core addr l) := by
  unfold State.coreStore
  repeat' first
    | with_reducible assumption
    | intro _
    | with_reducible refine State.access_still _ _ _ _ _ (Wr.sub (by decide) hw) ?_ ?_
    | with_reducible refine State.coreFault_still _ _ _ _ ?_
    | with_reducible refine State.memStore_still _ _ _ _ (Wr.sub (by decide) hw) ?_
    | with_reducible apply Still.ite
    | split
    | (with_reducible apply Still.upd); split

theorem State.corePlace_still {F : Fld} {I V : Nat} (s : State) (core : Nat) (addr : Nat) (l : List Nat) (h : Still F I V s) :
    Still F I V (State.corePlace s core addr l).2 := by
  unfold State.corePlace
  repeat' first
    | with_reducible assumption
    | intro _
    | with_reducible refine State.satWrite_still _ _ _ ?_
    | (with_reducible refine Still.snd ?_ (by assumption)); with_reducible refine State.satWrite_still _ _ _ ?_
    | with_reducible apply Still.ite
    | with_reducible apply Still.iteSnd
    | fail_if_no_progress with_reducible apply Still.upd
    | dsimp only
    | split
    | (with_reducible apply Still.upd); split

end Sys2Proof.Machine
end

