-- ==== Sys2Proof/Laws/StillRegWrite.lean ====
section
/-!
SUPPORT. Which register fields the operations of Machine/RegWrite.lean can write (Laws/Still.lean), as bits by the field's number, and
that they leave every other as it was.
-/
namespace Sys2Proof.Machine

set_option linter.unusedTactic false
set_option linter.unreachableTactic false

theorem State.took_still {F : Fld} {I V : Nat} (s : State) (o : Out) (h : Still F I V s) (ho : StillOut F I V o) :
    Still F I V (State.took s o) := by
  unfold State.took
  split
  · exact ho _ rfl
  · exact h

def State.fieldPut_writes : Nat :=
    0xff3efe4ffe0f1fffc1ffd80000421f8c00fe30c00181fc00c00300800000001c4000190c00c0000003a7201fde00001d1c0000018c003800a00040004641ccbffc0033d1fde007c0000018c01
theorem State.fieldPut_still {F : Fld} {I V : Nat} (s : State) (r : RegDesc) (i : Nat) (v : Nat) (mask : Nat) (fa :
    FieldAt) (hw : State.fieldPut_writes.testBit F.ctorIdx = false) (h : Still F I V s) :
    Still F I V (State.fieldPut s r i v mask fa) := by
  have key : ∀ g : Fld, (g.acc = .rw ∨ g.acc = .w1c ∨ g.acc = .w1s) → State.fieldPut_writes.testBit g.ctorIdx = true := by
    have hk : ∀ n < 700, ((Fld.ofNat n).acc = .rw ∨ (Fld.ofNat n).acc = .w1c ∨ (Fld.ofNat n).acc = .w1s) →
        State.fieldPut_writes.testBit (Fld.ofNat n).ctorIdx = true := by decide +kernel
    intro g hg
    have := hk g.ctorIdx g.ctorIdx_lt
    rw [Fld.ofNat_ctorIdx] at this
    exact this hg
  unfold State.fieldPut
  dsimp only
  split
  · exact h
  · split
    · rename_i e
      refine Still.whenIf (State.setFld_still _ _ _ _ (key _ (.inl e)) hw h) (fun t ht => ?_)
      exact State.modGroup_still _ _ _ ht
    · rename_i e
      exact State.setFld_still _ _ _ _ (key _ (.inr (.inl e))) hw h
    · rename_i e
      exact State.setFld_still _ _ _ _ (key _ (.inr (.inr e))) hw h
    · split
      · exact State.modGroup_still _ _ _ h
      · exact h
    all_goals exact h

def State.fieldsPut_writes : Nat :=
    0xff3ffe6ffe0f1fffc1ffd80000421f8c00fe30c00181fc00c00300800000001c4000190c00c0000003a7201fde00001d1c0000018c003800a00040004641ccbffc0033d1fde007c0000018c01
theorem State.fieldsPut_still {F : Fld} {I V : Nat} (s : State) (r : RegDesc) (i : Nat) (addr : Nat) (v : Nat) (mask : Nat)
    (hw : State.fieldsPut_writes.testBit F.ctorIdx = false) (h : Still F I V s) :
    Still F I V (State.fieldsPut s r i addr v mask) := by
  unfold State.fieldsPut
  repeat' first
    | with_reducible assumption
    | intro _
    | with_reducible refine State.fieldPut_still _ _ _ _ _ _ (Wr.sub (by decide) hw) ?_
    | with_reducible refine State.discarded_still _ _ _ (Wr.sub (by decide) hw) ?_
    | with_reducible apply Still.whenIf
    | with_reducible apply Still.each
    | split
    | (with_reducible apply Still.upd); split

def State.rtcSecWrite_writes : Nat :=
    0x1003a0000000000000000000000004000040000000000000000000000000600000000000000000000000000000000000000000000000000000000000010000000000003800000000000000
theorem State.rtcSecWrite_still {F : Fld} {I V : Nat} (s : State) (v : Nat) (hw : State.rtcSecWrite_writes.testBit
    F.ctorIdx = false) (h : Still F I V s) :
    Still F I V (State.rtcSecWrite s v) := by
  unfold State.rtcSecWrite
  repeat' first
    | with_reducible assumption
    | intro _
    | with_reducible refine State.setFld_still _ _ _ _ (W := State.rtcSecWrite_writes) ?_ hw ?_
    | decide
    | with_reducible refine State.discarded_still _ _ _ (Wr.sub (by decide) hw) ?_
    | with_reducible refine State.writeSpans_still _ (Wr.sub (by decide) hw) ?_
    | with_reducible apply Still.ite
    | fail_if_no_progress with_reducible apply Still.upd
    | split
    | (with_reducible apply Still.upd); split

def execRtcSecWrite_writes : Nat :=
    0x1003a0000000000000000003000004000040000000000000000000000000600000000000000000000000000000000000000000000000000000000000010000000000003800000000000000
theorem execRtcSecWrite_still {F : Fld} {I V : Nat} (core : Nat) (seconds : Nat) (s : State) (hw :
    execRtcSecWrite_writes.testBit F.ctorIdx = false) (h : Still F I V s) :
    StillOut F I V (execRtcSecWrite core seconds s) := by
  unfold execRtcSecWrite
  repeat' first
    | with_reducible assumption
    | with_reducible apply StillOut.next
    | intro _
    | with_reducible refine State.accessBlk_still _ _ _ _ _ (Wr.sub (by decide) hw) ?_ ?_
    | with_reducible refine State.rtcSecWrite_still _ _ (Wr.sub (by decide) hw) ?_
    | split
    | dsimp only; split

def State.entitledClear_writes : Nat :=
    0x100220000000000000000000000000000000000000000000000000000000000000000000000000003000000000000000000000000000000000000000000000000000000000000000000000
theorem State.entitledClear_still {F : Fld} {I V : Nat} (s : State) (w : Wing) (locked : Bool) (addr : Nat) (v : Nat) (hw :
    State.entitledClear_writes.testBit F.ctorIdx = false) (h : Still F I V s) :
    Still F I V (State.entitledClear s w locked addr v) := by
  unfold State.entitledClear
  repeat' first
    | with_reducible assumption
    | intro _
    | with_reducible refine State.setFld_still _ _ _ _ (W := State.entitledClear_writes) ?_ hw ?_
    | decide
    | with_reducible refine State.discarded_still _ _ _ (Wr.sub (by decide) hw) ?_
    | with_reducible apply Still.whenIf
    | with_reducible apply Still.foldl
    | with_reducible apply Still.ite
    | split
    | (with_reducible apply Still.upd); split

def State.hpCmdWrite_writes : Nat :=
    0x10181003e08000000000020000030000000000006400100f10074700000000008000004000000000000004000010000004800000000000000000020009080000000c0000000000000001000000
theorem State.hpCmdWrite_still {F : Fld} {I V : Nat} (s : State) (w : Wing) (v : Nat) (hw : State.hpCmdWrite_writes.testBit
    F.ctorIdx = false) (h : Still F I V s) :
    Still F I V (State.hpCmdWrite s w v) := by
  unfold State.hpCmdWrite
  repeat' first
    | with_reducible assumption
    | intro _
    | with_reducible refine State.fresh_still _ _ ?_
    | (with_reducible refine Still.snd ?_ (by assumption)); with_reducible refine State.fresh_still _ _ ?_
    | with_reducible refine State.standbyCmd_still _ _ _ (Wr.sub (by decide) hw) ?_
    | with_reducible refine State.wakeCmd_still _ _ (Wr.sub (by decide) hw) ?_
    | with_reducible refine State.coldCmd_still _ _ (Wr.sub (by decide) hw) ?_
    | with_reducible refine State.readyCmd_still _ _ (Wr.sub (by decide) hw) ?_
    | with_reducible refine State.handoverCmd_still _ _ (Wr.sub (by decide) hw) ?_
    | with_reducible refine State.cancelCmd_still _ _ (Wr.sub (by decide) hw) ?_
    | with_reducible refine State.releaseCmd_still _ _ (Wr.sub (by decide) hw) ?_
    | with_reducible refine State.acquireCmd_still _ _ (Wr.sub (by decide) hw) ?_
    | with_reducible refine State.cmdDiscarded_still _ _ _ (Wr.sub (by decide) hw) ?_
    | split
    | (with_reducible apply Still.upd); split

def State.bothCores_writes : Nat :=
    0xff3efe4ffe0f1fffc1ffd80000421f8c00fe30c00181fc00c00300800000001c4000190c00c0000003a7201fde00001d1c0000018c003800a00040004641ccbffc0033d1fde007c0000018c01
theorem State.bothCores_still {F : Fld} {I V : Nat} (s : State) (r : RegDesc) (i : Nat) (v : Nat) (mask : Nat) (hw :
    State.bothCores_writes.testBit F.ctorIdx = false) (h : Still F I V s) :
    Still F I V (State.bothCores s r i v mask) := by
  unfold State.bothCores
  repeat' first
    | with_reducible assumption
    | intro _
    | with_reducible refine State.fieldPut_still _ _ _ _ _ _ (Wr.sub (by decide) hw) ?_
    | with_reducible apply Still.each
    | split
    | (with_reducible apply Still.upd); split

theorem State.softWakes_still {F : Fld} {I V : Nat} (s : State) (w : Wing) (h : Still F I V s) :
    Still F I V (State.softWakes s w) := by
  unfold State.softWakes
  repeat' first
    | with_reducible assumption
    | intro _
    | with_reducible apply Still.whenIf
    | with_reducible apply Still.each
    | fail_if_no_progress with_reducible apply Still.upd
    | split
    | (with_reducible apply Still.upd); split

theorem State.timerCheck_still {F : Fld} {I V : Nat} (s : State) (core : Nat) (h : Still F I V s) :
    Still F I V (State.timerCheck s core) := by
  unfold State.timerCheck
  repeat' first
    | with_reducible assumption
    | intro _
    | with_reducible apply Still.whenIf
    | fail_if_no_progress with_reducible apply Still.upd
    | split
    | (with_reducible apply Still.upd); split

theorem State.mtcmpLow_still {F : Fld} {I V : Nat} (s : State) (core : Nat) (v : Nat) (h : Still F I V s) :
    Still F I V (State.mtcmpLow s core v) := by
  unfold State.mtcmpLow
  repeat' first
    | with_reducible assumption
    | intro _
    | fail_if_no_progress with_reducible apply Still.upd
    | split
    | (with_reducible apply Still.upd); split

def State.mtcmpHigh_writes : Nat :=
    0x18000000000000000000000000000000000000000000000000000000000000000000000000000000000000000000000000000000000000000000000000000000000000000000000000000
theorem State.mtcmpHigh_still {F : Fld} {I V : Nat} (s : State) (core : Nat) (v : Nat) (hw : State.mtcmpHigh_writes.testBit
    F.ctorIdx = false) (h : Still F I V s) :
    Still F I V (State.mtcmpHigh s core v) := by
  unfold State.mtcmpHigh
  repeat' first
    | with_reducible assumption
    | intro _
    | with_reducible refine State.setFld_still _ _ _ _ (W := State.mtcmpHigh_writes) ?_ hw ?_
    | decide
    | with_reducible refine State.timerCheck_still _ _ ?_
    | fail_if_no_progress with_reducible apply Still.upd
    | split
    | (with_reducible apply Still.upd); split

theorem State.claimEnds_still {F : Fld} {I V : Nat} (s : State) (core : Nat) (src : Nat) (h : Still F I V s) :
    Still F I V (State.claimEnds s core src) := by
  unfold State.claimEnds
  repeat' first
    | with_reducible assumption
    | intro _
    | with_reducible apply Still.ite
    | fail_if_no_progress with_reducible apply Still.upd
    | split
    | (with_reducible apply Still.upd); split

def State.leHaltWrite_writes : Nat :=
    0x80000000000000000000000000000000000000000000000000000000000000000000000000000000000000000000000000000000000000000000000000000000000000000000000000000
theorem State.leHaltWrite_still {F : Fld} {I V : Nat} (s : State) (core : Nat) (v : Nat) (hw :
    State.leHaltWrite_writes.testBit F.ctorIdx = false) (h : Still F I V s) :
    Still F I V (State.leHaltWrite s core v) := by
  unfold State.leHaltWrite
  repeat' first
    | with_reducible assumption
    | intro _
    | with_reducible refine State.setFld_still _ _ _ _ (W := State.leHaltWrite_writes) ?_ hw ?_
    | decide
    | with_reducible apply Still.ite
    | split
    | (with_reducible apply Still.upd); split

def State.tutDbgWrite_writes : Nat :=
    0xe0000000000000000000000000000000000000000000000000000000000000000000000000000000000000000000000000000000000000000000000000000000000000000000000000000
theorem State.tutDbgWrite_still {F : Fld} {I V : Nat} (s : State) (core : Nat) (v : Nat) (hw :
    State.tutDbgWrite_writes.testBit F.ctorIdx = false) (h : Still F I V s) :
    Still F I V (State.tutDbgWrite s core v) := by
  unfold State.tutDbgWrite
  repeat' first
    | with_reducible assumption
    | intro _
    | with_reducible refine State.setFld_still _ _ _ _ (W := State.tutDbgWrite_writes) ?_ hw ?_
    | decide
    | with_reducible refine State.leHaltWrite_still _ _ _ (Wr.sub (by decide) hw) ?_
    | with_reducible apply Still.each
    | split
    | (with_reducible apply Still.upd); split

def State.regAfter_writes : Nat :=
    0x1003a0000000000000000003000004000040000000000000080000000000c00000000000000000000000001000001c00000800208000000000000900000000000000003868000001000000
theorem State.regAfter_still {F : Fld} {I V : Nat} (s : State) (core : Nat) (r : RegDesc) (i : Nat) (v : Nat) (hw :
    State.regAfter_writes.testBit F.ctorIdx = false) (h : Still F I V s) :
    Still F I V (State.regAfter s core r i v) := by
  unfold State.regAfter
  repeat' first
    | with_reducible assumption
    | intro _
    | with_reducible refine State.settlePaths_still _ (Wr.sub (by decide) hw) ?_
    | with_reducible refine State.stopRotation_still _ (Wr.sub (by decide) hw) ?_
    | with_reducible refine State.settleTrips_still _ (Wr.sub (by decide) hw) ?_
    | with_reducible refine State.guardClr_still _ _ (Wr.sub (by decide) hw) ?_
    | with_reducible refine State.wcClr_still _ _ (Wr.sub (by decide) hw) ?_
    | with_reducible refine State.retireWrite_still _ _ ?_
    | with_reducible refine State.saveDue_still _ (Wr.sub (by decide) hw) ?_
    | with_reducible refine State.settleStale_still _ (Wr.sub (by decide) hw) ?_
    | with_reducible refine State.serve_still _ (Wr.sub (by decide) hw) ?_
    | with_reducible refine State.softWakes_still _ _ ?_
    | with_reducible apply Still.whenIf
    | split
    | (with_reducible apply Still.upd); split

def State.mdioPut_writes : Nat :=
    0xff3ffe6ffe0f1fffc1ffd80000421f8c00fe30c00181fc00c00300800000001c4000190c00c0000003a7201fde00001d1c0000018c003800a00040004641ccbffc0033d1fde007c0000018c01
theorem State.mdioPut_still {F : Fld} {I V : Nat} (s : State) (r : RegDesc) (i : Nat) (addr : Nat) (v : Nat) (mask : Nat)
    (hw : State.mdioPut_writes.testBit F.ctorIdx = false) (h : Still F I V s) :
    Still F I V (State.mdioPut s r i addr v mask) := by
  unfold State.mdioPut
  repeat' first
    | with_reducible assumption
    | intro _
    | with_reducible refine State.mdioStart_still _ _ _ _ _ (Wr.sub (by decide) hw) ?_
    | with_reducible refine State.discarded_still _ _ _ (Wr.sub (by decide) hw) ?_
    | with_reducible refine State.fieldsPut_still _ _ _ _ _ _ (Wr.sub (by decide) hw) ?_
    | with_reducible apply Still.ite
    | split
    | (with_reducible apply Still.upd); split

def State.capPut_writes : Nat :=
    0xff3ffe7ffe0f1fffc1ffd80000721f8c00fe30c00181fc00c00300800000001c4000190c00c0000003a7201fde00001d1c0000018c003800a00040004641ccbffc0033d1fde007c0000018c01
theorem State.capPut_still {F : Fld} {I V : Nat} (s : State) (r : RegDesc) (i : Nat) (addr : Nat) (v : Nat) (mask : Nat)
    (hw : State.capPut_writes.testBit F.ctorIdx = false) (h : Still F I V s) :
    Still F I V (State.capPut s r i addr v mask) := by
  unfold State.capPut
  repeat' first
    | with_reducible assumption
    | intro _
    | with_reducible refine State.closeCapture_still _ _ (Wr.sub (by decide) hw) ?_
    | with_reducible refine State.fieldsPut_still _ _ _ _ _ _ (Wr.sub (by decide) hw) ?_
    | with_reducible apply Still.whenIf
    | split
    | (with_reducible apply Still.upd); split

def State.regPut_writes : Nat :=
    0x1ffbffe7ffecfffffc3fffe00007e1f8d40fe34c641a7fdf5c07ff0800000021e60001d0ff8c0000003a7e01fff0000bffc0039818e083800a000e001d7c1dcbffcc03fd1ffe687c0001018f01
theorem State.regPut_still {F : Fld} {I V : Nat} (s : State) (core : Nat) (r : RegDesc) (i : Nat) (addr : Nat) (v : Nat)
    (mask : Nat) (hw : State.regPut_writes.testBit F.ctorIdx = false) (h : Still F I V s) :
    Still F I V (State.regPut s core r i addr v mask) := by
  unfold State.regPut
  repeat' first
    | with_reducible assumption
    | intro _
    | with_reducible refine State.setFld_still _ _ _ _ (W := State.regPut_writes) ?_ hw ?_
    | decide
    | with_reducible refine State.bellReqWrite_still _ _ _ (Wr.sub (by decide) hw) ?_
    | with_reducible refine State.pwrCellWrite_still _ _ _ _ _ (Wr.sub (by decide) hw) ?_
    | with_reducible refine State.pwrSwWrite_still _ _ _ _ _ (Wr.sub (by decide) hw) ?_
    | with_reducible refine State.clkEnWrite_still _ _ _ (Wr.sub (by decide) hw) ?_
    | with_reducible refine State.rtcSecWrite_still _ _ (Wr.sub (by decide) hw) ?_
    | with_reducible refine State.sarSwtrig_still _ _ (Wr.sub (by decide) hw) ?_
    | with_reducible refine State.inject_still _ _ _ _ (Wr.sub (by decide) hw) ?_
    | with_reducible refine State.fdlyWrite_still _ _ _ (Wr.sub (by decide) hw) ?_
    | with_reducible refine State.wcThr_still _ _ _ _ (Wr.sub (by decide) hw) ?_
    | with_reducible refine State.cntEnWrite_still _ _ _ (Wr.sub (by decide) hw) ?_
    | with_reducible refine State.outenWrite_still _ _ _ _ (Wr.sub (by decide) hw) ?_
    | with_reducible refine State.armWrite_still _ _ _ (Wr.sub (by decide) hw) ?_
    | with_reducible refine State.intWrite_still _ _ _ _ _ _ (Wr.sub (by decide) hw) ?_
    | with_reducible refine State.shdLowWrite_still _ _ _ _ _ (Wr.sub (by decide) hw) ?_
    | with_reducible refine State.shdHighWrite_still _ _ _ _ _ (Wr.sub (by decide) hw) ?_
    | with_reducible refine State.gstartWrite_still _ _ ?_
    | with_reducible refine State.entitledClear_still _ _ _ _ _ (Wr.sub (by decide) hw) ?_
    | with_reducible refine State.swtrig_still _ _ _ (Wr.sub (by decide) hw) ?_
    | with_reducible refine State.subgoWrite_still _ _ _ (Wr.sub (by decide) hw) ?_
    | with_reducible refine State.requestLatch_still _ _ (Wr.sub (by decide) hw) ?_
    | with_reducible refine State.theftClear_still _ (Wr.sub (by decide) hw) ?_
    | with_reducible refine State.renew_still _ _ (Wr.sub (by decide) hw) ?_
    | with_reducible refine State.hpCmdWrite_still _ _ _ (Wr.sub (by decide) hw) ?_
    | with_reducible refine State.rearmWrite_still _ _ _ (Wr.sub (by decide) hw) ?_
    | with_reducible refine State.retireBank_still _ _ (Wr.sub (by decide) hw) ?_
    | with_reducible refine State.repLoad_still _ _ (Wr.sub (by decide) hw) ?_
    | with_reducible refine State.secEvent_still _ _ _ _ _ _ (Wr.sub (by decide) hw) ?_
    | with_reducible refine State.fieldsPut_still _ _ _ _ _ _ (Wr.sub (by decide) hw) ?_
    | with_reducible refine State.secCmdWrite_still _ _ _ (Wr.sub (by decide) hw) ?_
    | with_reducible refine State.pfRelease_still _ _ ?_
    | with_reducible refine State.pfCommit_still _ _ (Wr.sub (by decide) hw) ?_
    | with_reducible refine State.portEnSet_still _ _ (Wr.sub (by decide) hw) ?_
    | with_reducible refine State.mdioPut_still _ _ _ _ _ _ (Wr.sub (by decide) hw) ?_
    | with_reducible refine State.trainWrite_still _ (Wr.sub (by decide) hw) ?_
    | with_reducible refine State.capPut_still _ _ _ _ _ _ (Wr.sub (by decide) hw) ?_
    | with_reducible refine State.discarded_still _ _ _ (Wr.sub (by decide) hw) ?_
    | with_reducible refine State.ringCfgSet_still _ _ _ (Wr.sub (by decide) hw) ?_
    | with_reducible refine State.ringHeadSet_still _ _ _ (Wr.sub (by decide) hw) ?_
    | with_reducible refine State.ringTailSet_still _ _ _ (Wr.sub (by decide) hw) ?_
    | with_reducible refine State.ringResume_still _ _ (Wr.sub (by decide) hw) ?_
    | with_reducible refine State.q10TailSet_still _ _ _ (Wr.sub (by decide) hw) ?_
    | with_reducible refine State.bothCores_still _ _ _ _ _ (Wr.sub (by decide) hw) ?_
    | with_reducible refine State.regAfter_still _ _ _ _ _ (Wr.sub (by decide) hw) ?_
    | with_reducible refine State.mtcmpLow_still _ _ _ ?_
    | with_reducible refine State.mtcmpHigh_still _ _ _ (Wr.sub (by decide) hw) ?_
    | with_reducible refine State.tutDbgWrite_still _ _ _ (Wr.sub (by decide) hw) ?_
    | with_reducible refine State.claimEnds_still _ _ _ ?_
    | with_reducible apply Still.whenIf
    | with_reducible apply Still.ite
    | fail_if_no_progress with_reducible apply Still.upd
    | split
    | (with_reducible apply Still.upd); split

end Sys2Proof.Machine
end

