-- ==== Sys2Proof/Laws/StillDict.lean ====
section
/-!
SUPPORT. Which register fields the operations of Machine/Dict.lean can write (Laws/Still.lean), as bits by the field's number, and
that they leave every other as it was.
-/
namespace Sys2Proof.Machine

set_option linter.unusedTactic false
set_option linter.unreachableTactic false

theorem State.answerRead_still {F : Fld} {I V : Nat} (s : State) (r : Nat × List Nat) (h : Still F I V s) :
    Still F I V (State.answerRead s r) := by
  unfold State.answerRead
  repeat' first
    | with_reducible assumption
    | intro _
    | with_reducible apply Still.ite
    | fail_if_no_progress with_reducible apply Still.upd
    | split
    | (with_reducible apply Still.upd); split

def State.noRights_writes : Nat :=
    0x100220000000000000000003000000000000000000000000000000000000000000000000000000000000000000000000000000000000000000000000000000000000000000000000000000
theorem State.noRights_still {F : Fld} {I V : Nat} (s : State) (init : Nat) (idx : Nat) (sub : Nat) (hw :
    State.noRights_writes.testBit F.ctorIdx = false) (h : Still F I V s) :
    Still F I V (State.noRights s init idx sub) := by
  unfold State.noRights
  repeat' first
    | with_reducible assumption
    | intro _
    | with_reducible refine State.answer_still _ _ ?_
    | with_reducible refine State.violation_still _ _ _ (Wr.sub (by decide) hw) ?_
    | split
    | (with_reducible apply Still.upd); split

def State.dictRead_writes : Nat :=
    0x100220000000000000000003000000000000000000000000000000000000000000000000000000000000000000000000000000000000000000000000000000000000000000000000000000
theorem State.dictRead_still {F : Fld} {I V : Nat} (s : State) (w : Wing) (init : Nat) (idx : Nat) (sub : Nat) (hw :
    State.dictRead_writes.testBit F.ctorIdx = false) (h : Still F I V s) :
    Still F I V (State.dictRead s w init idx sub) := by
  unfold State.dictRead
  repeat' first
    | with_reducible assumption
    | intro _
    | with_reducible refine State.answerRead_still _ _ ?_
    | with_reducible refine State.noRights_still _ _ _ _ (Wr.sub (by decide) hw) ?_
    | with_reducible apply Still.whenIf
    | fail_if_no_progress with_reducible apply Still.upd
    | split
    | (with_reducible apply Still.upd); split

end Sys2Proof.Machine
end

