-- ==== Sys2Proof/Laws/StillDictWrite.lean ====
section
/-!
SUPPORT. Which register fields the operations of Machine/DictWrite.lean can write (Laws/Still.lean), as bits by the field's number, and
that they leave every other as it was.
-/
namespace Sys2Proof.Machine

set_option linter.unusedTactic false
set_option linter.unreachableTactic false

def State.writeReg_writes : Nat :=
    0x1ffbffe7ffecfffffc3fffe00007e1f8d40fe34c641a7fdf5c07ff0800000021e60001d0ff8c0000003a7e01fff0000bffc0039818e083800a000e001d7c1dcbffcc03fd1ffe687c0001018f01
theorem State.writeReg_still {F : Fld} {I V : Nat} (s : State) (w : Wing) (ty : ObjTy) (addr : Nat) (lo : Nat) (width :
    Nat) (v : Nat) (hw : State.writeReg_writes.testBit F.ctorIdx = false) (h : Still F I V s) :
    Still F I V (State.writeReg s w ty addr lo width v) := by
  unfold State.writeReg
  repeat' first
    | with_reducible assumption
    | intro _
    | with_reducible refine State.answer_still _ _ ?_
    | with_reducible refine State.wcThr_still _ _ _ _ (Wr.sub (by decide) hw) ?_
    | with_reducible refine State.regPut_still _ _ _ _ _ _ _ (Wr.sub (by decide) hw) ?_
    | with_reducible apply Still.ite
    | split
    | (with_reducible apply Still.upd); split

def State.writeRegs_writes : Nat :=
    0x1ffbffe7ffecfffffc3fffe00007e1f8d40fe34c641a7fdf5c07ff0800000021e60001d0ff8c0000003a7e01fff0000bffc0039818e083800a000e001d7c1dcbffcc03fd1ffe687c0001018f01
theorem State.writeRegs_still {F : Fld} {I V : Nat} (s : State) (w : Wing) (addrs : List Nat) (v : Nat) (hw :
    State.writeRegs_writes.testBit F.ctorIdx = false) (h : Still F I V s) :
    Still F I V (State.writeRegs s w addrs v) := by
  unfold State.writeRegs
  repeat' first
    | with_reducible assumption
    | intro _
    | with_reducible refine State.answer_still _ _ ?_
    | with_reducible refine State.commitShd_still _ _ _ _ _ (Wr.sub (by decide) hw) ?_
    | with_reducible refine State.regPut_still _ _ _ _ _ _ _ (Wr.sub (by decide) hw) ?_
    | with_reducible apply Still.each
    | with_reducible apply Still.ite
    | split
    | (with_reducible apply Still.upd); split

theorem State.writeVar_still {F : Fld} {I V : Nat} (s : State) (e : Entry) (idx : Nat) (sub : Nat) (v : Nat) (h : Still F I
    V s) :
    Still F I V (State.writeVar s e idx sub v) := by
  unfold State.writeVar
  repeat' first
    | with_reducible assumption
    | intro _
    | with_reducible refine State.answer_still _ _ ?_
    | with_reducible refine State.gridCommand_still _ _ ?_
    | with_reducible refine State.islCommand_still _ _ ?_
    | with_reducible refine State.modGroup_still _ _ _ ?_
    | with_reducible refine State.rwVar_still _ _ _ _ ?_
    | with_reducible refine State.setVar_still _ _ _ _ ?_
    | with_reducible apply Still.ite
    | split
    | (with_reducible apply Still.upd); split

theorem State.writeWindow_still {F : Fld} {I V : Nat} (s : State) (n : Nat) (first : Nat) (words : Nat) (data : List Nat)
    (h : Still F I V s) :
    Still F I V (State.writeWindow s n first words data) := by
  unfold State.writeWindow
  repeat' first
    | with_reducible assumption
    | intro _
    | with_reducible refine State.answer_still _ _ ?_
    | with_reducible refine State.modGroup_still _ _ _ ?_
    | with_reducible apply Still.foldl
    | with_reducible apply Still.ite
    | split
    | (with_reducible apply Still.upd); split

def State.writeData_writes : Nat :=
    0x100220000000000000000000000000000000040000000000000000000000000000000000000000000000000000000000000000000000000000000000000000000000000000000000000000
theorem State.writeData_still {F : Fld} {I V : Nat} (s : State) (n : Nat) (data : List Nat) (hw :
    State.writeData_writes.testBit F.ctorIdx = false) (h : Still F I V s) :
    Still F I V (State.writeData s n data) := by
  unfold State.writeData
  repeat' first
    | with_reducible assumption
    | intro _
    | with_reducible refine State.answer_still _ _ ?_
    | with_reducible refine State.dataUpdate_still _ _ _ _ (Wr.sub (by decide) hw) ?_
    | with_reducible apply Still.ite
    | split
    | (with_reducible apply Still.upd); split

def State.storeParameters_writes : Nat :=
    0x1003a0000000000000000000000004000040000000000000000000000000400000000000000000000000000000000000000000000000000000000000000000000000003800000000000000
theorem State.storeParameters_still {F : Fld} {I V : Nat} (s : State) (v : Nat) (hw : State.storeParameters_writes.testBit
    F.ctorIdx = false) (h : Still F I V s) :
    Still F I V (State.storeParameters s v) := by
  unfold State.storeParameters
  repeat' first
    | with_reducible assumption
    | intro _
    | with_reducible refine State.answer_still _ _ ?_
    | with_reducible refine State.storeClassS_still _ (Wr.sub (by decide) hw) ?_
    | with_reducible apply Still.ite
    | split
    | (with_reducible apply Still.upd); split

def State.restoreDefaults_writes : Nat :=
    0x1003a0000000000000000000000004000040000000000000000000000000400000000000000000000000000000000000000000000000000000000000000000000000003800000000000000
theorem State.restoreDefaults_still {F : Fld} {I V : Nat} (s : State) (v : Nat) (hw : State.restoreDefaults_writes.testBit
    F.ctorIdx = false) (h : Still F I V s) :
    Still F I V (State.restoreDefaults s v) := by
  unfold State.restoreDefaults
  repeat' first
    | with_reducible assumption
    | intro _
    | with_reducible refine State.answer_still _ _ ?_
    | with_reducible refine State.storeRecord_still _ _ _ _ (Wr.sub (by decide) hw) ?_
    | with_reducible apply Still.each
    | with_reducible apply Still.ite
    | split
    | (with_reducible apply Still.upd); split

theorem State.programDownload_still {F : Fld} {I V : Nat} (s : State) (w : Wing) (data : List Nat) (h : Still F I V s) :
    Still F I V (State.programDownload s w data) := by
  unfold State.programDownload
  repeat' first
    | with_reducible assumption
    | intro _
    | with_reducible refine State.answer_still _ _ ?_
    | with_reducible apply Still.ite
    | fail_if_no_progress with_reducible apply Still.upd
    | split
    | (with_reducible apply Still.upd); split

def State.imageSlotWrite_writes : Nat :=
    0x1003a0000000000000000000000004000040000000000000000000000000400000000000000000000000000000000000000000000000000000000000000000000000003800000000000000
theorem State.imageSlotWrite_still {F : Fld} {I V : Nat} (s : State) (slot : Nat) (data : List Nat) (hw :
    State.imageSlotWrite_writes.testBit F.ctorIdx = false) (h : Still F I V s) :
    Still F I V (State.imageSlotWrite s slot data) := by
  unfold State.imageSlotWrite
  repeat' first
    | with_reducible assumption
    | intro _
    | with_reducible refine State.answer_still _ _ ?_
    | with_reducible refine State.libRecord_still _ _ _ _ _ (Wr.sub (by decide) hw) ?_
    | with_reducible apply Still.ite
    | split
    | (with_reducible apply Still.upd); split

theorem State.jointRestart_still {F : Fld} {I V : Nat} (s : State) (mask : Nat) (h : Still F I V s) :
    Still F I V (State.jointRestart s mask) := by
  unfold State.jointRestart
  repeat' first
    | with_reducible assumption
    | intro _
    | with_reducible refine State.answer_still _ _ ?_
    | with_reducible refine State.modGroup_still _ _ _ ?_
    | with_reducible apply Still.each
    | with_reducible apply Still.ite
    | fail_if_no_progress with_reducible apply Still.upd
    | split
    | (with_reducible apply Still.upd); split

theorem State.seedRequest_still {F : Fld} {I V : Nat} (s : State) (w : Wing) (v : Nat) (h : Still F I V s) :
    Still F I V (State.seedRequest s w v) := by
  unfold State.seedRequest
  repeat' first
    | with_reducible assumption
    | intro _
    | with_reducible refine State.answer_still _ _ ?_
    | with_reducible apply Still.ite
    | fail_if_no_progress with_reducible apply Still.upd
    | split
    | (with_reducible apply Still.upd); split

def State.securityEntry_writes : Nat :=
    0xc00000000000000000000000000000000000000000000000000000000000000000000000000000000000000000000000000000000000000000000000000000
theorem State.securityEntry_still {F : Fld} {I V : Nat} (s : State) (data : List Nat) (hw :
    State.securityEntry_writes.testBit F.ctorIdx = false) (h : Still F I V s) :
    Still F I V (State.securityEntry s data) := by
  unfold State.securityEntry
  repeat' first
    | with_reducible assumption
    | intro _
    | with_reducible refine State.answer_still _ _ ?_
    | with_reducible refine State.secCommand_still _ _ _ _ _ (Wr.sub (by decide) hw) ?_
    | with_reducible apply Still.ite
    | split
    | (with_reducible apply Still.upd); split

def State.hpEntry_writes : Nat :=
    0x10181003e08000000000020000030000000000006400100f10074700000000008000004000000000000004000010000004800000000000000000020009080000000c0000000000000001000000
theorem State.hpEntry_still {F : Fld} {I V : Nat} (s : State) (w : Wing) (v : Nat) (hw : State.hpEntry_writes.testBit
    F.ctorIdx = false) (h : Still F I V s) :
    Still F I V (State.hpEntry s w v) := by
  unfold State.hpEntry
  repeat' first
    | with_reducible assumption
    | intro _
    | with_reducible refine State.answer_still _ _ ?_
    | with_reducible refine State.hpCmdWrite_still _ _ _ (Wr.sub (by decide) hw) ?_
    | with_reducible apply Still.ite
    | split
    | (with_reducible apply Still.upd); split

def State.writeSpecial_writes : Nat :=
    0x10181003e0800000000002000003c000040000406400100f1007470000000000c000004000000000000004000010000004800000000000000000020009080000000c0000003800000001000000
theorem State.writeSpecial_still {F : Fld} {I V : Nat} (s : State) (w : Wing) (idx : Nat) (sub : Nat) (data : List Nat) (hw
    : State.writeSpecial_writes.testBit F.ctorIdx = false) (h : Still F I V s) :
    Still F I V (State.writeSpecial s w idx sub data) := by
  unfold State.writeSpecial
  repeat' first
    | with_reducible assumption
    | intro _
    | with_reducible refine State.storeParameters_still _ _ (Wr.sub (by decide) hw) ?_
    | with_reducible refine State.restoreDefaults_still _ _ (Wr.sub (by decide) hw) ?_
    | with_reducible refine State.programDownload_still _ _ _ ?_
    | with_reducible refine State.imageSlotWrite_still _ _ _ (Wr.sub (by decide) hw) ?_
    | with_reducible refine State.jointRestart_still _ _ ?_
    | with_reducible refine State.seedRequest_still _ _ _ ?_
    | with_reducible refine State.traceRequest_still _ _ ?_
    | with_reducible refine State.hpEntry_still _ _ _ (Wr.sub (by decide) hw) ?_
    | with_reducible refine State.securityEntry_still _ _ (Wr.sub (by decide) hw) ?_
    | with_reducible refine State.attestRequest_still _ _ ?_
    | with_reducible refine State.writeData_still _ _ _ (Wr.sub (by decide) hw) ?_
    | with_reducible refine State.checkHandover_still _ (Wr.sub (by decide) hw) ?_
    | with_reducible refine State.groupCommand_still _ _ _ (Wr.sub (by decide) hw) ?_
    | with_reducible apply Still.ite
    | fail_if_no_progress with_reducible apply Still.upd
    | split
    | (with_reducible apply Still.upd); split

def State.putEntry_writes : Nat :=
    0x1ffbffe7ffecfffffc3fffe00007e1f8d40fe34c641a7fdf5c07ff0800000021e60001d0ff8c0000003a7e01fff0000bffc0039818e083800a000e001d7c1dcbffcc03fd1ffe687c0001018f01
theorem State.putEntry_still {F : Fld} {I V : Nat} (s : State) (w : Wing) (e : Entry) (idx : Nat) (sub : Nat) (data : List
    Nat) (hw : State.putEntry_writes.testBit F.ctorIdx = false) (h : Still F I V s) :
    Still F I V (State.putEntry s w e idx sub data) := by
  unfold State.putEntry
  repeat' first
    | with_reducible assumption
    | intro _
    | with_reducible refine State.writeReg_still _ _ _ _ _ _ _ (Wr.sub (by decide) hw) ?_
    | with_reducible refine State.writeRegs_still _ _ _ _ (Wr.sub (by decide) hw) ?_
    | with_reducible refine State.writeVar_still _ _ _ _ _ ?_
    | with_reducible refine State.writeWindow_still _ _ _ _ _ ?_
    | with_reducible refine State.writeSpecial_still _ _ _ _ _ (Wr.sub (by decide) hw) ?_
    | split
    | (with_reducible apply Still.upd); split

def State.dictWrite_writes : Nat :=
    0x1ffbffe7ffecfffffc3fffe00007e1f8d40fe34c641a7fdf5c07ff0800000021e60001d0ff8c0000003a7e01fff0000bffc0039818e083800a000e001d7c1dcbffcc03fd1ffe687c0001018f01
theorem State.dictWrite_still {F : Fld} {I V : Nat} (s : State) (w : Wing) (init : Nat) (idx : Nat) (sub : Nat) (data :
    List Nat) (hw : State.dictWrite_writes.testBit F.ctorIdx = false) (h : Still F I V s) :
    Still F I V (State.dictWrite s w init idx sub data) := by
  unfold State.dictWrite
  repeat' first
    | with_reducible assumption
    | intro _
    | with_reducible refine State.noRights_still _ _ _ _ (Wr.sub (by decide) hw) ?_
    | with_reducible refine State.answer_still _ _ ?_
    | with_reducible refine State.putEntry_still _ _ _ _ _ _ (Wr.sub (by decide) hw) ?_
    | with_reducible apply Still.ite
    | split
    | (with_reducible apply Still.upd); split

end Sys2Proof.Machine
end

