-- ==== Sys2Proof/Laws/StillTransport.lean ====
section
/-!
SUPPORT. Which register fields the operations of Machine/Transport.lean can write (Laws/Still.lean), as bits by the field's number, and
that they leave every other as it was.
-/
namespace Sys2Proof.Machine

set_option linter.unusedTactic false
set_option linter.unreachableTactic false

def State.request_writes : Nat :=
    0x1ffbffe7ffecfffffc3fffe00007e1f8d40fe34c641a7fdf5c07ff0800000021e60001d0ff8c0000003a7e01fff0000bffc0039818e083800a000e001d7c1dcbffcc03fd1ffe687c0001018f01
theorem State.request_still {F : Fld} {I V : Nat} (s : State) (w : Wing) (init : Nat) (idx : Nat) (sub : Nat) (data :
    Option (List Nat)) (hw : State.request_writes.testBit F.ctorIdx = false) (h : Still F I V s) :
    Still F I V (State.request s w init idx sub data) := by
  unfold State.request
  repeat' first
    | with_reducible assumption
    | intro _
    | with_reducible refine State.dictWrite_still _ _ _ _ _ _ (Wr.sub (by decide) hw) ?_
    | with_reducible refine State.askRollCall_still _ _ (Wr.sub (by decide) hw) ?_
    | with_reducible refine State.dictRead_still _ _ _ _ _ (Wr.sub (by decide) hw) ?_
    | with_reducible apply Still.ite
    | split
    | (with_reducible apply Still.upd); split

theorem State.attach_still {F : Fld} {I V : Nat} (s : State) (a : Asker) (idx : Nat) (sub : Nat) (data : Option (List Nat))
    (h : Still F I V s) :
    ∀ t, (State.attach s a idx sub data) = some t → Still F I V t := by
  unfold State.attach
  intro t e
  dsimp only at e
  repeat' split at e
  all_goals first
    | (cases e; done)
    | (cases e; exact h)
    | (cases e; exact State.modGroup_still _ _ _ h)
    | (obtain ⟨g, -, rfl⟩ := Option.map_eq_some_iff.1 e; exact State.modGroup_still _ _ _ h)

def State.serveFor_writes : Nat :=
    0x1ffbffe7ffecfffffc3fffe00007e1f8d40fe34c641a7fdf5c07ff0800000021e60001d0ff8c0000003a7e01fff0000bffc0039818e083800a000e001d7c1dcbffcc03fd1ffe687c0001018f01
theorem State.serveFor_still {F : Fld} {I V : Nat} (s : State) (a : Asker) (w : Wing) (init : Nat) (idx : Nat) (sub : Nat)
    (data : Option (List Nat)) (hw : State.serveFor_writes.testBit F.ctorIdx = false) (h : Still F I V s) :
    Still F I V (State.serveFor s a w init idx sub data) := by
  unfold State.serveFor
  repeat' first
    | with_reducible assumption
    | intro _
    | with_reducible refine State.request_still _ _ _ _ _ _ (Wr.sub (by decide) hw) ?_
    | with_reducible refine State.answer_still _ _ ?_
    | with_reducible refine State.attach_still _ _ _ _ _ ?_ _ (by assumption)
    | with_reducible refine State.tell_still _ _ _ _ (Wr.sub (by decide) hw) ?_
    | with_reducible apply Still.ite
    | split
    | (with_reducible apply Still.upd); split

def State.route_writes : Nat :=
    0x1ffbffe7ffecfffffc3fffe00007e1f8d40fe34c641a7fdf5c07ff0800000021e60001d0ff8c0000003a7e01fff0000bffc0039818e083800a000e001d7c1dcbffcc03fd1ffe687c0001018f01
theorem State.route_still {F : Fld} {I V : Nat} (s : State) (a : Asker) (w : Wing) (init : Nat) (idx : Nat) (sub : Nat)
    (data : Option (List Nat)) (hw : State.route_writes.testBit F.ctorIdx = false) (h : Still F I V s) :
    Still F I V (State.route s a w init idx sub data) := by
  unfold State.route
  repeat' first
    | with_reducible assumption
    | intro _
    | with_reducible refine State.serveFor_still _ _ _ _ _ _ _ (Wr.sub (by decide) hw) ?_
    | with_reducible refine State.tell_still _ _ _ _ (Wr.sub (by decide) hw) ?_
    | with_reducible apply Still.ite
    | fail_if_no_progress with_reducible apply Still.upd
    | split
    | (with_reducible apply Still.upd); split

def execRequestForward_writes : Nat :=
    0x1ffbffe7ffecfffffc3fffe00007e1f8d40fe34c641a7fdf5c07ff0800000021e60001d0ff8c0000003a7e01fff0000bffc0039818e083800a000e001d7c1dcbffcc03fd1ffe687c0001018f01
theorem execRequestForward_still {F : Fld} {I V : Nat} (s : State) (hw : execRequestForward_writes.testBit F.ctorIdx =
    false) (h : Still F I V s) :
    StillOut F I V (execRequestForward s) := by
  unfold execRequestForward
  repeat' first
    | with_reducible assumption
    | with_reducible apply StillOut.next
    | with_reducible apply StillOut.ite
    | intro _
    | with_reducible refine State.tell_still _ _ _ _ (Wr.sub (by decide) hw) ?_
    | with_reducible refine State.serveFor_still _ _ _ _ _ _ _ (Wr.sub (by decide) hw) ?_
    | with_reducible apply Still.ite
    | fail_if_no_progress with_reducible apply Still.upd
    | split
    | dsimp only; split

theorem State.dropTransfer_still {F : Fld} {I V : Nat} (s : State) (p : Nat) (src : Nat) (tag : Nat) (h : Still F I V s) :
    Still F I V (State.dropTransfer s p src tag) := by
  unfold State.dropTransfer
  repeat' first
    | with_reducible assumption
    | intro _
    | fail_if_no_progress with_reducible apply Still.upd
    | split
    | (with_reducible apply Still.upd); split

theorem State.setTransfer_still {F : Fld} {I V : Nat} (s : State) (t : IdpTransfer) (h : Still F I V s) :
    Still F I V (State.setTransfer s t) := by
  unfold State.setTransfer
  repeat' first
    | with_reducible assumption
    | intro _
    | with_reducible refine State.dropTransfer_still _ _ _ _ ?_
    | fail_if_no_progress with_reducible apply Still.upd
    | split
    | (with_reducible apply Still.upd); split

theorem State.idpAgain_still {F : Fld} {I V : Nat} (s : State) (p : Nat) (src : Nat) (tag : Nat) (h : Still F I V s) :
    ∀ t, (State.idpAgain s p src tag) = some t → Still F I V t := by
  unfold State.idpAgain
  intro t e
  dsimp only at e
  repeat' split at e
  all_goals first
    | (cases e; done)
    | (cases e; exact h)
    | (cases e; exact State.idpAnswer_still _ _ _ _ _ _ (State.dropTransfer_still _ _ _ _ h))
    | (obtain ⟨g, -, rfl⟩ := Option.map_eq_some_iff.1 e; exact h)

theorem State.idpSegment_still {F : Fld} {I V : Nat} (s : State) (t : IdpTransfer) (offset : Nat) (h : Still F I V s) :
    Still F I V (State.idpSegment s t offset) := by
  unfold State.idpSegment
  repeat' first
    | with_reducible assumption
    | intro _
    | with_reducible refine State.setTransfer_still _ _ ?_
    | fail_if_no_progress with_reducible apply Still.upd
    | split
    | (with_reducible apply Still.upd); split

def execIdpRead_writes : Nat :=
    0x1ffbffe7ffecfffffc3fffe00007e1f8d40fe34c641a7fdf5c07ff0800000021e60001d0ff8c0000003a7e01fff0000bffc0039818e083800a000e001d7c1dcbffcc03fd1ffe687c0001018f01
theorem execIdpRead_still {F : Fld} {I V : Nat} (p : Nat) (source : Nat) (udp : Nat) (head : IdpHead) (s : State) (hw :
    execIdpRead_writes.testBit F.ctorIdx = false) (h : Still F I V s) :
    StillOut F I V (execIdpRead p source udp head s) := by
  unfold execIdpRead
  repeat' first
    | with_reducible assumption
    | with_reducible apply StillOut.next
    | with_reducible apply StillOut.ite
    | intro _
    | with_reducible refine State.idpAgain_still _ _ _ _ ?_ _ (by assumption)
    | with_reducible refine State.idpAnswer_still _ _ _ _ _ _ ?_
    | with_reducible refine State.dropTransfer_still _ _ _ _ ?_
    | with_reducible refine State.idpSegment_still _ _ _ ?_
    | with_reducible refine State.route_still _ _ _ _ _ _ _ (Wr.sub (by decide) hw) ?_
    | with_reducible apply Still.ite
    | split
    | dsimp only; split

def State.idpTaken_writes : Nat :=
    0x1ffbffe7ffecfffffc3fffe00007e1f8d40fe34c641a7fdf5c07ff0800000021e60001d0ff8c0000003a7e01fff0000bffc0039818e083800a000e001d7c1dcbffcc03fd1ffe687c0001018f01
theorem State.idpTaken_still {F : Fld} {I V : Nat} (s : State) (w : Wing) (t : IdpTransfer) (hw :
    State.idpTaken_writes.testBit F.ctorIdx = false) (h : Still F I V s) :
    Still F I V (State.idpTaken s w t) := by
  unfold State.idpTaken
  repeat' first
    | with_reducible assumption
    | intro _
    | with_reducible refine State.dropTransfer_still _ _ _ _ ?_
    | with_reducible refine State.route_still _ _ _ _ _ _ _ (Wr.sub (by decide) hw) ?_
    | with_reducible refine State.idpAnswer_still _ _ _ _ _ _ ?_
    | with_reducible refine State.setTransfer_still _ _ ?_
    | with_reducible apply Still.ite
    | split
    | (with_reducible apply Still.upd); split

def execIdpWrite_writes : Nat :=
    0x1ffbffe7ffecfffffc3fffe00007e1f8d40fe34c641a7fdf5c07ff0800000021e60001d0ff8c0000003a7e01fff0000bffc0039818e083800a000e001d7c1dcbffcc03fd1ffe687c0001018f01
theorem execIdpWrite_still {F : Fld} {I V : Nat} (p : Nat) (source : Nat) (udp : Nat) (head : IdpHead) (payload : List Nat)
    (s : State) (hw : execIdpWrite_writes.testBit F.ctorIdx = false) (h : Still F I V s) :
    StillOut F I V (execIdpWrite p source udp head payload s) := by
  unfold execIdpWrite
  repeat' first
    | with_reducible assumption
    | with_reducible apply StillOut.next
    | with_reducible apply StillOut.ite
    | intro _
    | with_reducible refine State.idpAgain_still _ _ _ _ ?_ _ (by assumption)
    | with_reducible refine State.idpAnswer_still _ _ _ _ _ _ ?_
    | with_reducible refine State.dropTransfer_still _ _ _ _ ?_
    | with_reducible refine State.idpTaken_still _ _ _ (Wr.sub (by decide) hw) ?_
    | with_reducible apply Still.ite
    | split
    | dsimp only; split

theorem execIdpTransferTimeout_still {F : Fld} {I V : Nat} (p : Nat) (source : Nat) (tag : Nat) (s : State) (h : Still F I
    V s) :
    StillOut F I V (execIdpTransferTimeout p source tag s) := by
  unfold execIdpTransferTimeout
  repeat' first
    | with_reducible assumption
    | with_reducible apply StillOut.next
    | with_reducible apply StillOut.ite
    | intro _
    | with_reducible refine State.dropTransfer_still _ _ _ _ ?_
    | with_reducible refine State.idpAnswer_still _ _ _ _ _ _ ?_
    | with_reducible apply Still.ite
    | split
    | dsimp only; split

theorem State.dropSession_still {F : Fld} {I V : Nat} (s : State) (p : Nat) (client : Nat) (h : Still F I V s) :
    Still F I V (State.dropSession s p client) := by
  unfold State.dropSession
  repeat' first
    | with_reducible assumption
    | intro _
    | fail_if_no_progress with_reducible apply Still.upd
    | split
    | (with_reducible apply Still.upd); split

theorem State.abortSession_still {F : Fld} {I V : Nat} (s : State) (p : Nat) (client : Nat) (code : Nat) (h : Still F I V s) :
    Still F I V (State.abortSession s p client code) := by
  unfold State.abortSession
  repeat' first
    | with_reducible assumption
    | intro _
    | with_reducible refine State.dropSession_still _ _ _ ?_
    | fail_if_no_progress with_reducible apply Still.upd
    | split
    | (with_reducible apply Still.upd); split

theorem State.startSession_still {F : Fld} {I V : Nat} (s : State) (u : UsdoSession) (f : State → State) (h : Still F I V
    s) (hf : ∀ t, Still F I V t → Still F I V (f t)) :
    Still F I V (State.startSession s u f) := by
  unfold State.startSession
  repeat' first
    | with_reducible assumption
    | intro _
    | with_reducible refine State.dropSession_still _ _ _ ?_
    | with_reducible refine State.abortSession_still _ _ _ _ ?_
    | with_reducible apply Still.ite
    | with_reducible apply hf
    | fail_if_no_progress with_reducible apply Still.upd
    | split
    | (with_reducible apply Still.upd); split

theorem State.setSession_still {F : Fld} {I V : Nat} (s : State) (u : UsdoSession) (h : Still F I V s) :
    Still F I V (State.setSession s u) := by
  unfold State.setSession
  repeat' first
    | with_reducible assumption
    | intro _
    | with_reducible refine State.dropSession_still _ _ _ ?_
    | fail_if_no_progress with_reducible apply Still.upd
    | split
    | (with_reducible apply Still.upd); split

def State.usdoFrame_writes : Nat :=
    0x1ffbffe7ffecfffffc3fffe00007e1f8d40fe34c641a7fdf5c07ff0800000021e60001d0ff8c0000003a7e01fff0000bffc0039818e083800a000e001d7c1dcbffcc03fd1ffe687c0001018f01
theorem State.usdoFrame_still {F : Fld} {I V : Nat} (s : State) (p : Nat) (client : Nat) (f : UsdoFrame) (hw :
    State.usdoFrame_writes.testBit F.ctorIdx = false) (h : Still F I V s) :
    Still F I V (State.usdoFrame s p client f) := by
  unfold State.usdoFrame
  repeat' first
    | with_reducible assumption
    | unfold id; with_reducible assumption
    | intro _
    | with_reducible refine State.route_still _ _ _ _ _ _ _ (Wr.sub (by decide) hw) ?_
    | with_reducible refine State.abortSession_still _ _ _ _ ?_
    | with_reducible refine State.startSession_still _ _ _ ?_ ?_
    | with_reducible refine State.setSession_still _ _ ?_
    | with_reducible refine State.dropSession_still _ _ _ ?_
    | with_reducible apply Still.ite
    | fail_if_no_progress with_reducible apply Still.upd
    | split
    | (with_reducible apply Still.upd); split

def execUsdoTransfer_writes : Nat :=
    0x1ffbffe7ffecfffffc3fffe00007e1f8d40fe34c641a7fdf5c07ff0800000021e60001d0ff8c0000003a7e01fff0000bffc0039818e083800a000e001d7c1dcbffcc03fd1ffe687c0001018f01
theorem execUsdoTransfer_still {F : Fld} {I V : Nat} (p : Nat) (client : Nat) (frame : UsdoFrame) (s : State) (hw :
    execUsdoTransfer_writes.testBit F.ctorIdx = false) (h : Still F I V s) :
    StillOut F I V (execUsdoTransfer p client frame s) := by
  unfold execUsdoTransfer
  repeat' first
    | with_reducible assumption
    | with_reducible apply StillOut.next
    | with_reducible apply StillOut.ite
    | intro _
    | with_reducible refine State.abortSession_still _ _ _ _ ?_
    | with_reducible refine State.usdoFrame_still _ _ _ _ (Wr.sub (by decide) hw) ?_
    | with_reducible apply Still.ite
    | split
    | dsimp only; split

theorem execUsdoSessionTimeout_still {F : Fld} {I V : Nat} (p : Nat) (client : Nat) (s : State) (h : Still F I V s) :
    StillOut F I V (execUsdoSessionTimeout p client s) := by
  unfold execUsdoSessionTimeout
  repeat' first
    | with_reducible assumption
    | with_reducible apply StillOut.next
    | with_reducible apply StillOut.ite
    | intro _
    | with_reducible refine State.abortSession_still _ _ _ _ ?_
    | with_reducible apply Still.ite
    | split
    | dsimp only; split

def State.groupEntry_writes : Nat :=
    0x1ffbffe7ffecfffffc3fffe00007e1f8d40fe34c641a7fdf5c07ff0800000021e60001d0ff8c0000003a7e01fff0000bffc0039818e083800a000e001d7c1dcbffcc03fd1ffe687c0001018f01
theorem State.groupEntry_still {F : Fld} {I V : Nat} (s : State) (w : Wing) (init : Nat) (g : Nat) (cmd : Nat) (hw :
    State.groupEntry_writes.testBit F.ctorIdx = false) (h : Still F I V s) :
    Still F I V (State.groupEntry s w init g cmd) := by
  unfold State.groupEntry
  repeat' first
    | with_reducible assumption
    | intro _
    | with_reducible refine State.dictWrite_still _ _ _ _ _ _ (Wr.sub (by decide) hw) ?_
    | with_reducible refine State.answer_still _ _ ?_
    | with_reducible apply Still.ite
    | split
    | (with_reducible apply Still.upd); split

def execGroupEnter_writes : Nat :=
    0x1ffbffe7ffecfffffc3fffe00007e1f8d40fe34c641a7fdf5c07ff0800000021e60001d0ff8c0000003a7e01fff0000bffc0039818e083800a000e001d7c1dcbffcc03fd1ffe687c0001018f01
theorem execGroupEnter_still {F : Fld} {I V : Nat} (w : Wing) (init : Nat) (g : Nat) (s : State) (hw :
    execGroupEnter_writes.testBit F.ctorIdx = false) (h : Still F I V s) :
    StillOut F I V (execGroupEnter w init g s) := by
  unfold execGroupEnter
  repeat' first
    | with_reducible assumption
    | with_reducible apply StillOut.next
    | intro _
    | with_reducible refine State.groupEntry_still _ _ _ _ _ (Wr.sub (by decide) hw) ?_
    | split
    | dsimp only; split

def execGroupRestart_writes : Nat :=
    0x1ffbffe7ffecfffffc3fffe00007e1f8d40fe34c641a7fdf5c07ff0800000021e60001d0ff8c0000003a7e01fff0000bffc0039818e083800a000e001d7c1dcbffcc03fd1ffe687c0001018f01
theorem execGroupRestart_still {F : Fld} {I V : Nat} (w : Wing) (init : Nat) (g : Nat) (s : State) (hw :
    execGroupRestart_writes.testBit F.ctorIdx = false) (h : Still F I V s) :
    StillOut F I V (execGroupRestart w init g s) := by
  unfold execGroupRestart
  repeat' first
    | with_reducible assumption
    | with_reducible apply StillOut.next
    | intro _
    | with_reducible refine State.groupEntry_still _ _ _ _ _ (Wr.sub (by decide) hw) ?_
    | split
    | dsimp only; split

def execGroupRestore_writes : Nat :=
    0x1ffbffe7ffecfffffc3fffe00007e1f8d40fe34c641a7fdf5c07ff0800000021e60001d0ff8c0000003a7e01fff0000bffc0039818e083800a000e001d7c1dcbffcc03fd1ffe687c0001018f01
theorem execGroupRestore_still {F : Fld} {I V : Nat} (w : Wing) (init : Nat) (g : Nat) (s : State) (hw :
    execGroupRestore_writes.testBit F.ctorIdx = false) (h : Still F I V s) :
    StillOut F I V (execGroupRestore w init g s) := by
  unfold execGroupRestore
  repeat' first
    | with_reducible assumption
    | with_reducible apply StillOut.next
    | intro _
    | with_reducible refine State.groupEntry_still _ _ _ _ _ (Wr.sub (by decide) hw) ?_
    | split
    | dsimp only; split

def execJointRestart_writes : Nat :=
    0x1ffbffe7ffecfffffc3fffe00007e1f8d40fe34c641a7fdf5c07ff0800000021e60001d0ff8c0000003a7e01fff0000bffc0039818e083800a000e001d7c1dcbffcc03fd1ffe687c0001018f01
theorem execJointRestart_still {F : Fld} {I V : Nat} (w : Wing) (init : Nat) (mask : Nat) (s : State) (hw :
    execJointRestart_writes.testBit F.ctorIdx = false) (h : Still F I V s) :
    StillOut F I V (execJointRestart w init mask s) := by
  unfold execJointRestart
  repeat' first
    | with_reducible assumption
    | with_reducible apply StillOut.next
    | intro _
    | with_reducible refine State.dictWrite_still _ _ _ _ _ _ (Wr.sub (by decide) hw) ?_
    | split
    | dsimp only; split

def execStoreParameters_writes : Nat :=
    0x1ffbffe7ffecfffffc3fffe00007e1f8d40fe34c641a7fdf5c07ff0800000021e60001d0ff8c0000003a7e01fff0000bffc0039818e083800a000e001d7c1dcbffcc03fd1ffe687c0001018f01
theorem execStoreParameters_still {F : Fld} {I V : Nat} (w : Wing) (init : Nat) (value : Nat) (s : State) (hw :
    execStoreParameters_writes.testBit F.ctorIdx = false) (h : Still F I V s) :
    StillOut F I V (execStoreParameters w init value s) := by
  unfold execStoreParameters
  repeat' first
    | with_reducible assumption
    | with_reducible apply StillOut.next
    | intro _
    | with_reducible refine State.dictWrite_still _ _ _ _ _ _ (Wr.sub (by decide) hw) ?_
    | split
    | dsimp only; split

def execRestoreDefaults_writes : Nat :=
    0x1ffbffe7ffecfffffc3fffe00007e1f8d40fe34c641a7fdf5c07ff0800000021e60001d0ff8c0000003a7e01fff0000bffc0039818e083800a000e001d7c1dcbffcc03fd1ffe687c0001018f01
theorem execRestoreDefaults_still {F : Fld} {I V : Nat} (w : Wing) (init : Nat) (value : Nat) (s : State) (hw :
    execRestoreDefaults_writes.testBit F.ctorIdx = false) (h : Still F I V s) :
    StillOut F I V (execRestoreDefaults w init value s) := by
  unfold execRestoreDefaults
  repeat' first
    | with_reducible assumption
    | with_reducible apply StillOut.next
    | intro _
    | with_reducible refine State.dictWrite_still _ _ _ _ _ _ (Wr.sub (by decide) hw) ?_
    | split
    | dsimp only; split

def execRollCall_writes : Nat :=
    0x1ffbffe7ffecfffffc3fffe00007e1f8d40fe34c641a7fdf5c07ff0800000021e60001d0ff8c0000003a7e01fff0000bffc0039818e083800a000e001d7c1dcbffcc03fd1ffe687c0001018f01
theorem execRollCall_still {F : Fld} {I V : Nat} (w : Wing) (init : Nat) (s : State) (hw : execRollCall_writes.testBit
    F.ctorIdx = false) (h : Still F I V s) :
    StillOut F I V (execRollCall w init s) := by
  unfold execRollCall
  repeat' first
    | with_reducible assumption
    | with_reducible apply StillOut.next
    | intro _
    | with_reducible refine State.request_still _ _ _ _ _ _ (Wr.sub (by decide) hw) ?_
    | with_reducible refine State.answer_still _ _ ?_
    | split
    | dsimp only; split

def execDescriptionRequest_writes : Nat :=
    0x1ffbffe7ffecfffffc3fffe00007e1f8d40fe34c641a7fdf5c07ff0800000021e60001d0ff8c0000003a7e01fff0000bffc0039818e083800a000e001d7c1dcbffcc03fd1ffe687c0001018f01
theorem execDescriptionRequest_still {F : Fld} {I V : Nat} (w : Wing) (init : Nat) (value : Nat) (s : State) (hw :
    execDescriptionRequest_writes.testBit F.ctorIdx = false) (h : Still F I V s) :
    StillOut F I V (execDescriptionRequest w init value s) := by
  unfold execDescriptionRequest
  repeat' first
    | with_reducible assumption
    | with_reducible apply StillOut.next
    | intro _
    | with_reducible refine State.dictWrite_still _ _ _ _ _ _ (Wr.sub (by decide) hw) ?_
    | split
    | dsimp only; split

def execDescriptionRead_writes : Nat :=
    0x100220000000000000000003000000000000000000000000000000000000000000000000000000000000000000000000000000000000000000000000000000000000000000000000000000
theorem execDescriptionRead_still {F : Fld} {I V : Nat} (w : Wing) (init : Nat) (s : State) (hw :
    execDescriptionRead_writes.testBit F.ctorIdx = false) (h : Still F I V s) :
    StillOut F I V (execDescriptionRead w init s) := by
  unfold execDescriptionRead
  repeat' first
    | with_reducible assumption
    | with_reducible apply StillOut.next
    | intro _
    | with_reducible refine State.dictRead_still _ _ _ _ _ (Wr.sub (by decide) hw) ?_
    | split
    | dsimp only; split

def execProgramDownload_writes : Nat :=
    0x1ffbffe7ffecfffffc3fffe00007e1f8d40fe34c641a7fdf5c07ff0800000021e60001d0ff8c0000003a7e01fff0000bffc0039818e083800a000e001d7c1dcbffcc03fd1ffe687c0001018f01
theorem execProgramDownload_still {F : Fld} {I V : Nat} (w : Wing) (init : Nat) (data : List Nat) (s : State) (hw :
    execProgramDownload_writes.testBit F.ctorIdx = false) (h : Still F I V s) :
    StillOut F I V (execProgramDownload w init data s) := by
  unfold execProgramDownload
  repeat' first
    | with_reducible assumption
    | with_reducible apply StillOut.next
    | intro _
    | with_reducible refine State.dictWrite_still _ _ _ _ _ _ (Wr.sub (by decide) hw) ?_
    | split
    | dsimp only; split

def execImageSlotWrite_writes : Nat :=
    0x1ffbffe7ffecfffffc3fffe00007e1f8d40fe34c641a7fdf5c07ff0800000021e60001d0ff8c0000003a7e01fff0000bffc0039818e083800a000e001d7c1dcbffcc03fd1ffe687c0001018f01
theorem execImageSlotWrite_still {F : Fld} {I V : Nat} (w : Wing) (init : Nat) (slot : Nat) (data : List Nat) (s : State)
    (hw : execImageSlotWrite_writes.testBit F.ctorIdx = false) (h : Still F I V s) :
    StillOut F I V (execImageSlotWrite w init slot data s) := by
  unfold execImageSlotWrite
  repeat' first
    | with_reducible assumption
    | with_reducible apply StillOut.next
    | with_reducible apply StillOut.ite
    | intro _
    | with_reducible refine State.dictWrite_still _ _ _ _ _ _ (Wr.sub (by decide) hw) ?_
    | with_reducible apply Still.ite
    | split
    | dsimp only; split

def execSeedRequest_writes : Nat :=
    0x1ffbffe7ffecfffffc3fffe00007e1f8d40fe34c641a7fdf5c07ff0800000021e60001d0ff8c0000003a7e01fff0000bffc0039818e083800a000e001d7c1dcbffcc03fd1ffe687c0001018f01
theorem execSeedRequest_still {F : Fld} {I V : Nat} (w : Wing) (init : Nat) (value : Nat) (s : State) (hw :
    execSeedRequest_writes.testBit F.ctorIdx = false) (h : Still F I V s) :
    StillOut F I V (execSeedRequest w init value s) := by
  unfold execSeedRequest
  repeat' first
    | with_reducible assumption
    | with_reducible apply StillOut.next
    | intro _
    | with_reducible refine State.dictWrite_still _ _ _ _ _ _ (Wr.sub (by decide) hw) ?_
    | split
    | dsimp only; split

end Sys2Proof.Machine
end

