-- ==== Sys2Proof/Laws/StillValidate.lean ====
section
/-!
SUPPORT. Which register fields the operations of Machine/Validate.lean can write (Laws/Still.lean), as bits by the field's number, and
that they leave every other as it was.
-/
namespace Sys2Proof.Machine

set_option linter.unusedTactic false
set_option linter.unreachableTactic false

def State.proposed_writes : Nat :=
    0x38003607ffffc40073000c0001f87fffc00000000ffff0003ffc47e1007c7ff0e0007fc000c00000000000000000000000000000
theorem State.proposed_still {F : Fld} {I V : Nat} (s : State) (gs : List Nat) (hw : State.proposed_writes.testBit
    F.ctorIdx = false) (h : Still F I V s) :
    Still F I V (State.proposed s gs) := by
  unfold State.proposed
  repeat' first
    | with_reducible assumption
    | intro _
    | with_reducible refine State.setAll_still _ _ (Wr.sub (by decide) hw) ?_
    | with_reducible refine State.setEngWord_still _ _ _ _ ?_
    | with_reducible refine State.setVar_still _ _ _ _ ?_
    | with_reducible apply Still.each
    | with_reducible apply Still.ite
    | split
    | (with_reducible apply Still.upd); split

def State.showBounds_writes : Nat :=
    0x38003607ffffc40073800c0001f87fffc00000000ffff0003ffc47e1007c7ff0e0007fc000c00000000000000000000000000000
theorem State.showBounds_still {F : Fld} {I V : Nat} (s : State) (gs : List Nat) (hw : State.showBounds_writes.testBit
    F.ctorIdx = false) (h : Still F I V s) :
    Still F I V (State.showBounds s gs) := by
  unfold State.showBounds
  repeat' first
    | with_reducible assumption
    | intro _
    | with_reducible refine State.setFld_still _ _ _ _ (W := State.showBounds_writes) ?_ hw ?_
    | decide
    | with_reducible refine State.proposed_still _ _ (Wr.sub (by decide) hw) ?_
    | with_reducible apply Still.each
    | split
    | (with_reducible apply Still.upd); split

def State.validated_writes : Nat :=
    0x1018100220000000000000000000000000000000000000000038003607ffffc40073800c0001f87fffc00000000ffff0003ffc47e1007c7ff0e0007fc000c00000000000000000000000000000
theorem State.validated_still {F : Fld} {I V : Nat} (s : State) (gs : List Nat) (joint : Option Nat) (hw :
    State.validated_writes.testBit F.ctorIdx = false) (h : Still F I V s) :
    Still F I V (State.validated s gs joint) := by
  unfold State.validated
  repeat' first
    | with_reducible assumption
    | intro _
    | with_reducible refine State.showBounds_still _ _ (Wr.sub (by decide) hw) ?_
    | with_reducible refine State.modGroup_still _ _ _ ?_
    | with_reducible refine State.requestApply_still _ _ _ _ ?_
    | with_reducible refine State.mgmtEvent_still _ _ _ _ _ (Wr.sub (by decide) hw) ?_
    | with_reducible refine State.answer_still _ _ ?_
    | with_reducible refine State.tellAskers_still _ _ (Wr.sub (by decide) hw) ?_
    | with_reducible apply Still.whenIf
    | with_reducible apply Still.each
    | with_reducible apply Still.ite
    | fail_if_no_progress with_reducible apply Still.upd
    | split
    | (with_reducible apply Still.upd); split

def execValidationComplete_writes : Nat :=
    0x1018100220000000000000000000000000000000000000000038003607ffffc40073800c0001f87fffc00000000ffff0003ffc47e1007c7ff0e0007fc000c00000000000000000000000000000
theorem execValidationComplete_still {F : Fld} {I V : Nat} (g : Nat) (s : State) (hw :
    execValidationComplete_writes.testBit F.ctorIdx = false) (h : Still F I V s) :
    StillOut F I V (execValidationComplete g s) := by
  unfold execValidationComplete
  repeat' first
    | with_reducible assumption
    | with_reducible apply StillOut.next
    | with_reducible apply StillOut.ite
    | intro _
    | with_reducible refine State.validated_still _ _ _ (Wr.sub (by decide) hw) ?_
    | with_reducible apply Still.ite
    | split
    | dsimp only; split

def State.restoreShadows_writes : Nat := 0x1f80000000000000000000000000000000000000000000000000000000000000000
theorem State.restoreShadows_still {F : Fld} {I V : Nat} (s : State) (p : Snapshot) (hw :
    State.restoreShadows_writes.testBit F.ctorIdx = false) (h : Still F I V s) :
    Still F I V (State.restoreShadows s p) := by
  unfold State.restoreShadows
  repeat' first
    | with_reducible assumption
    | intro _
    | with_reducible refine State.setFld_still _ _ _ _ (W := State.restoreShadows_writes) ?_ hw ?_
    | decide
    | unfold shdHigh; split <;> decide
    | unfold shdLow; split <;> decide
    | with_reducible apply Still.each
    | split
    | (with_reducible apply Still.upd); split

def State.seed_writes : Nat := 0x1f80000000000000000000000000000000000000000000000000000000000000000
theorem State.seed_still {F : Fld} {I V : Nat} (s : State) (w : Wing) (hw : State.seed_writes.testBit F.ctorIdx = false) (h
    : Still F I V s) :
    Still F I V (State.seed s w) := by
  unfold State.seed
  repeat' first
    | with_reducible assumption
    | intro _
    | with_reducible refine State.setFirst_still _ _ _ ?_
    | with_reducible refine State.restoreShadows_still _ _ (Wr.sub (by decide) hw) ?_
    | with_reducible refine State.restore_still _ _ _ _ ?_
    | with_reducible apply Still.ite
    | fail_if_no_progress with_reducible apply Still.upd
    | split
    | (with_reducible apply Still.upd); split

def execSeedComplete_writes : Nat :=
    0x1018100000000000000000000000000000000000000000000000000000000000000000000000000000000001f80000000000000000000000000000000000000000000000000000000000000000
theorem execSeedComplete_still {F : Fld} {I V : Nat} (s : State) (hw : execSeedComplete_writes.testBit F.ctorIdx = false)
    (h : Still F I V s) :
    StillOut F I V (execSeedComplete s) := by
  unfold execSeedComplete
  repeat' first
    | with_reducible assumption
    | with_reducible apply StillOut.next
    | intro _
    | with_reducible refine State.seed_still _ _ (Wr.sub (by decide) hw) ?_
    | with_reducible refine State.tell_still _ _ _ _ (Wr.sub (by decide) hw) ?_
    | with_reducible apply Still.each
    | fail_if_no_progress with_reducible apply Still.upd
    | split
    | dsimp only; split

end Sys2Proof.Machine
end

