-- ==== Sys2Proof/Laws/StillTutor.lean ====
section
/-!
SUPPORT. Which register fields the operations of Machine/Tutor.lean can write (Laws/Still.lean), as bits by the field's number, and
that they leave every other as it was.
-/
namespace Sys2Proof.Machine

set_option linter.unusedTactic false
set_option linter.unreachableTactic false

def execInterruptClaim_writes : Nat :=
    0x100000000000000000000000000000000000000000000000000000000000000000000000000000000000000000000000000000000000000000000000000000000000000000000000000000
theorem execInterruptClaim_still {F : Fld} {I V : Nat} (core : Nat) (s : State) (hw : execInterruptClaim_writes.testBit
    F.ctorIdx = false) (h : Still F I V s) :
    StillOut F I V (execInterruptClaim core s) := by
  unfold execInterruptClaim
  repeat' first
    | with_reducible assumption
    | with_reducible apply StillOut.next
    | with_reducible apply StillOut.ite
    | intro _
    | with_reducible refine State.setBit_still _ _ _ _ _ (W := execInterruptClaim_writes) ?_ hw ?_
    | decide
    | with_reducible refine State.coreActs_still _ _ _ ?_ ?_
    | with_reducible refine State.reads_still _ _ ?_
    | with_reducible apply Still.ite
    | fail_if_no_progress with_reducible apply Still.upd
    | split
    | dsimp only; split

theorem execInterruptComplete_still {F : Fld} {I V : Nat} (core : Nat) (src : Nat) (s : State) (h : Still F I V s) :
    StillOut F I V (execInterruptComplete core src s) := by
  unfold execInterruptComplete
  repeat' first
    | with_reducible assumption
    | with_reducible apply StillOut.next
    | intro _
    | with_reducible refine State.coreActs_still _ _ _ ?_ ?_
    | with_reducible refine State.claimEnds_still _ _ _ ?_
    | split
    | dsimp only; split

theorem execMachineTimer_still {F : Fld} {I V : Nat} (core : Nat) (s : State) (h : Still F I V s) :
    StillOut F I V (execMachineTimer core s) := by
  unfold execMachineTimer
  repeat' first
    | with_reducible assumption
    | with_reducible apply StillOut.next
    | intro _
    | with_reducible refine State.timerCheck_still _ _ ?_
    | split
    | dsimp only; split

theorem execTutMtcmplWrite_still {F : Fld} {I V : Nat} (core : Nat) (value : Nat) (s : State) (h : Still F I V s) :
    StillOut F I V (execTutMtcmplWrite core value s) := by
  unfold execTutMtcmplWrite
  repeat' first
    | with_reducible assumption
    | with_reducible apply StillOut.next
    | intro _
    | with_reducible refine State.coreActs_still _ _ _ ?_ ?_
    | with_reducible refine State.mtcmpLow_still _ _ _ ?_
    | split
    | dsimp only; split

def execTutMtcmphWrite_writes : Nat :=
    0x18000000000000000000000000000000000000000000000000000000000000000000000000000000000000000000000000000000000000000000000000000000000000000000000000000
theorem execTutMtcmphWrite_still {F : Fld} {I V : Nat} (core : Nat) (value : Nat) (s : State) (hw :
    execTutMtcmphWrite_writes.testBit F.ctorIdx = false) (h : Still F I V s) :
    StillOut F I V (execTutMtcmphWrite core value s) := by
  unfold execTutMtcmphWrite
  repeat' first
    | with_reducible assumption
    | with_reducible apply StillOut.next
    | intro _
    | with_reducible refine State.coreActs_still _ _ _ ?_ ?_
    | with_reducible refine State.mtcmpHigh_still _ _ _ (Wr.sub (by decide) hw) ?_
    | split
    | dsimp only; split

theorem execWfi_still {F : Fld} {I V : Nat} (core : Nat) (s : State) (h : Still F I V s) :
    StillOut F I V (execWfi core s) := by
  unfold execWfi
  repeat' first
    | with_reducible assumption
    | with_reducible apply StillOut.next
    | with_reducible apply StillOut.ite
    | intro _
    | with_reducible refine State.coreActs_still _ _ _ ?_ ?_
    | with_reducible apply Still.ite
    | fail_if_no_progress with_reducible apply Still.upd
    | split
    | dsimp only; split

def State.gatewayGo_writes : Nat :=
    0x103a100220000000000000000000000000000000000000000000000000000000000000000000000000000000000000000000000000000000000000000000000000000000000000000000000000
theorem State.gatewayGo_still {F : Fld} {I V : Nat} (s : State) (core : Nat) (op : Nat) (ien : Bool) (hw :
    State.gatewayGo_writes.testBit F.ctorIdx = false) (h : Still F I V s) :
    Still F I V (State.gatewayGo s core op ien) := by
  unfold State.gatewayGo
  repeat' first
    | with_reducible assumption
    | intro _
    | with_reducible refine State.setFld_still _ _ _ _ (W := State.gatewayGo_writes) ?_ hw ?_
    | with_reducible refine State.setFlag_still _ _ _ _ (W := State.gatewayGo_writes) ?_ hw ?_
    | decide
    | with_reducible refine State.discarded_still _ _ _ (Wr.sub (by decide) hw) ?_
    | with_reducible refine State.askRollCall_still _ _ (Wr.sub (by decide) hw) ?_
    | with_reducible apply Still.whenIf
    | with_reducible apply Still.ite
    | split
    | (with_reducible apply Still.upd); split

def execGatewayRead_writes : Nat :=
    0x103a100220000000000000000000000000000000000000000000000000000000000000000000000000000000000000000000000000000000000000000000000000000000000000000000000000
theorem execGatewayRead_still {F : Fld} {I V : Nat} (core : Nat) (ien : Bool) (s : State) (hw :
    execGatewayRead_writes.testBit F.ctorIdx = false) (h : Still F I V s) :
    StillOut F I V (execGatewayRead core ien s) := by
  unfold execGatewayRead
  repeat' first
    | with_reducible assumption
    | with_reducible apply StillOut.next
    | intro _
    | with_reducible refine State.coreActs_still _ _ _ ?_ ?_
    | with_reducible refine State.gatewayGo_still _ _ _ _ (Wr.sub (by decide) hw) ?_
    | split
    | dsimp only; split

def execGatewayWrite_writes : Nat :=
    0x103a100220000000000000000000000000000000000000000000000000000000000000000000000000000000000000000000000000000000000000000000000000000000000000000000000000
theorem execGatewayWrite_still {F : Fld} {I V : Nat} (core : Nat) (ien : Bool) (s : State) (hw :
    execGatewayWrite_writes.testBit F.ctorIdx = false) (h : Still F I V s) :
    StillOut F I V (execGatewayWrite core ien s) := by
  unfold execGatewayWrite
  repeat' first
    | with_reducible assumption
    | with_reducible apply StillOut.next
    | intro _
    | with_reducible refine State.coreActs_still _ _ _ ?_ ?_
    | with_reducible refine State.gatewayGo_still _ _ _ _ (Wr.sub (by decide) hw) ?_
    | split
    | dsimp only; split

def State.gatewayFails_writes : Nat :=
    0x1018100220000000000000000003000000000000000000000000000000000000000000000000000000000000000000000000000000000000000000000000000000000000000000000000000000
theorem State.gatewayFails_still {F : Fld} {I V : Nat} (s : State) (core : Nat) (code : Nat) (hw :
    State.gatewayFails_writes.testBit F.ctorIdx = false) (h : Still F I V s) :
    Still F I V (State.gatewayFails s core code) := by
  unfold State.gatewayFails
  repeat' first
    | with_reducible assumption
    | intro _
    | with_reducible refine State.violation_still _ _ _ (Wr.sub (by decide) hw) ?_
    | with_reducible refine State.endGateway_still _ _ _ (Wr.sub (by decide) hw) ?_
    | with_reducible apply Still.whenIf
    | split
    | (with_reducible apply Still.upd); split

def State.gatewayPlace_writes : Nat :=
    0x1418100220000000000000000003000000000000000000000000000000000000000000000000000000000000000000000000000000000000000000000000000000000000000000000000000000
theorem State.gatewayPlace_still {F : Fld} {I V : Nat} (s : State) (core : Nat) (data : List Nat) (hw :
    State.gatewayPlace_writes.testBit F.ctorIdx = false) (h : Still F I V s) :
    Still F I V (State.gatewayPlace s core data) := by
  unfold State.gatewayPlace
  repeat' first
    | with_reducible assumption
    | intro _
    | with_reducible refine State.setFld_still _ _ _ _ (W := State.gatewayPlace_writes) ?_ hw ?_
    | decide
    | with_reducible refine State.gatewayFails_still _ _ _ (Wr.sub (by decide) hw) ?_
    | with_reducible refine State.corePlace_still _ _ _ _ ?_
    | (with_reducible refine Still.snd ?_ (by assumption)); with_reducible refine State.corePlace_still _ _ _ _ ?_
    | with_reducible refine State.endGateway_still _ _ _ (Wr.sub (by decide) hw) ?_
    | with_reducible apply Still.ite
    | split
    | (with_reducible apply Still.upd); split

def State.gatewayReads_writes : Nat :=
    0x1418100220000000000000000003000000000000000000000000000000000000000000000000000000000000000000000000000000000000000000000000000000000000000000000000000000
theorem State.gatewayReads_still {F : Fld} {I V : Nat} (s : State) (core : Nat) (idx : Nat) (sub : Nat) (hw :
    State.gatewayReads_writes.testBit F.ctorIdx = false) (h : Still F I V s) :
    Still F I V (State.gatewayReads s core idx sub) := by
  unfold State.gatewayReads
  repeat' first
    | with_reducible assumption
    | intro _
    | with_reducible refine State.endGateway_still _ _ _ (Wr.sub (by decide) hw) ?_
    | with_reducible refine State.gatewayPlace_still _ _ _ (Wr.sub (by decide) hw) ?_
    | with_reducible refine State.dictRead_still _ _ _ _ _ (Wr.sub (by decide) hw) ?_
    | with_reducible refine State.answer_still _ _ ?_
    | with_reducible apply Still.ite
    | split
    | (with_reducible apply Still.upd); split

def State.gatewayWrites_writes : Nat :=
    0x1ffbffe7ffecfffffc3fffe00007e1f8d40fe34c641a7fdf5c07ff0800000021e60001d0ff8c0000003a7e01fff0000bffc0039818e083800a000e001d7c1dcbffcc03fd1ffe687c0001018f01
theorem State.gatewayWrites_still {F : Fld} {I V : Nat} (s : State) (core : Nat) (idx : Nat) (sub : Nat) (hw :
    State.gatewayWrites_writes.testBit F.ctorIdx = false) (h : Still F I V s) :
    Still F I V (State.gatewayWrites s core idx sub) := by
  unfold State.gatewayWrites
  repeat' first
    | with_reducible assumption
    | intro _
    | with_reducible refine State.endGateway_still _ _ _ (Wr.sub (by decide) hw) ?_
    | with_reducible refine State.gatewayFails_still _ _ _ (Wr.sub (by decide) hw) ?_
    | with_reducible refine State.request_still _ _ _ _ _ _ (Wr.sub (by decide) hw) ?_
    | with_reducible refine State.answer_still _ _ ?_
    | with_reducible refine State.attach_still _ _ _ _ _ ?_ _ (by assumption)
    | with_reducible apply Still.ite
    | split
    | (with_reducible apply Still.upd); split

def execGatewayDone_writes : Nat :=
    0x1ffbffe7ffecfffffc3fffe00007e1f8d40fe34c641a7fdf5c07ff0800000021e60001d0ff8c0000003a7e01fff0000bffc0039818e083800a000e001d7c1dcbffcc03fd1ffe687c0001018f01
theorem execGatewayDone_still {F : Fld} {I V : Nat} (core : Nat) (s : State) (hw : execGatewayDone_writes.testBit F.ctorIdx
    = false) (h : Still F I V s) :
    StillOut F I V (execGatewayDone core s) := by
  unfold execGatewayDone
  repeat' first
    | with_reducible assumption
    | with_reducible apply StillOut.next
    | with_reducible apply StillOut.ite
    | intro _
    | with_reducible refine State.gatewayReads_still _ _ _ _ (Wr.sub (by decide) hw) ?_
    | with_reducible refine State.gatewayWrites_still _ _ _ _ (Wr.sub (by decide) hw) ?_
    | with_reducible apply Still.ite
    | split
    | dsimp only; split

theorem State.tap_still {F : Fld} {I V : Nat} (s : State) (ir : Nat) (dr : Nat) (h : Still F I V s) :
    Still F I V (State.tap s ir dr) := by
  unfold State.tap
  repeat' first
    | with_reducible assumption
    | intro _
    | with_reducible apply Still.ite
    | fail_if_no_progress with_reducible apply Still.upd
    | split
    | (with_reducible apply Still.upd); split

theorem execTapReset_still {F : Fld} {I V : Nat} (s : State) (h : Still F I V s) :
    StillOut F I V (execTapReset s) := by
  unfold execTapReset
  repeat' first
    | with_reducible assumption
    | with_reducible apply StillOut.next
    | intro _
    | with_reducible refine State.tap_still _ _ _ ?_
    | split
    | dsimp only; split

theorem execIdcode_still {F : Fld} {I V : Nat} (s : State) (h : Still F I V s) :
    StillOut F I V (execIdcode s) := by
  unfold execIdcode
  repeat' first
    | with_reducible assumption
    | with_reducible apply StillOut.next
    | intro _
    | with_reducible refine State.tap_still _ _ _ ?_
    | split
    | dsimp only; split

theorem execExtest_still {F : Fld} {I V : Nat} (cells : Nat) (s : State) (h : Still F I V s) :
    StillOut F I V (execExtest cells s) := by
  unfold execExtest
  repeat' first
    | with_reducible assumption
    | with_reducible apply StillOut.next
    | intro _
    | with_reducible refine State.fresh_still _ _ ?_
    | (with_reducible refine Still.snd ?_ (by assumption)); with_reducible refine State.fresh_still _ _ ?_
    | with_reducible refine State.tap_still _ _ _ ?_
    | fail_if_no_progress with_reducible apply Still.upd
    | split
    | dsimp only; split

theorem execSamplePreload_still {F : Fld} {I V : Nat} (cells : Nat) (s : State) (h : Still F I V s) :
    StillOut F I V (execSamplePreload cells s) := by
  unfold execSamplePreload
  repeat' first
    | with_reducible assumption
    | with_reducible apply StillOut.next
    | intro _
    | with_reducible refine State.fresh_still _ _ ?_
    | (with_reducible refine Still.snd ?_ (by assumption)); with_reducible refine State.fresh_still _ _ ?_
    | with_reducible refine State.tap_still _ _ _ ?_
    | fail_if_no_progress with_reducible apply Still.upd
    | split
    | dsimp only; split

theorem execDtmcs_still {F : Fld} {I V : Nat} (s : State) (h : Still F I V s) :
    StillOut F I V (execDtmcs s) := by
  unfold execDtmcs
  repeat' first
    | with_reducible assumption
    | with_reducible apply StillOut.next
    | intro _
    | with_reducible refine State.fresh_still _ _ ?_
    | (with_reducible refine Still.snd ?_ (by assumption)); with_reducible refine State.fresh_still _ _ ?_
    | with_reducible refine State.tap_still _ _ _ ?_
    | split
    | dsimp only; split

theorem execBypass_still {F : Fld} {I V : Nat} (s : State) (h : Still F I V s) :
    StillOut F I V (execBypass s) := by
  unfold execBypass
  repeat' first
    | with_reducible assumption
    | with_reducible apply StillOut.next
    | intro _
    | with_reducible refine State.tap_still _ _ _ ?_
    | split
    | dsimp only; split

theorem State.resumeCore_still {F : Fld} {I V : Nat} (s : State) (core : Nat) (h : Still F I V s) :
    Still F I V (State.resumeCore s core) := by
  unfold State.resumeCore
  repeat' first
    | with_reducible assumption
    | intro _
    | with_reducible refine State.enterTakeover_still _ _ ?_
    | with_reducible apply Still.whenIf
    | with_reducible apply Still.ite
    | fail_if_no_progress with_reducible apply Still.upd
    | split
    | (with_reducible apply Still.upd); split

def execDebugHalt_writes : Nat :=
    0x1003a0000000000000000003000000000000000000000000000000000000800000000000000000000000001000000400000000000000000000000000000000000000000000000001000000
theorem execDebugHalt_still {F : Fld} {I V : Nat} (core : Nat) (s : State) (hw : execDebugHalt_writes.testBit F.ctorIdx =
    false) (h : Still F I V s) :
    StillOut F I V (execDebugHalt core s) := by
  unfold execDebugHalt
  repeat' first
    | with_reducible assumption
    | with_reducible apply StillOut.next
    | with_reducible apply StillOut.ite
    | intro _
    | with_reducible refine State.settlePads_still _ (Wr.sub (by decide) hw) ?_
    | with_reducible apply Still.ite
    | fail_if_no_progress with_reducible apply Still.upd
    | split
    | dsimp only; split

def execLehaltWrite_writes : Nat :=
    0x180220000000000000000003000000000000000000000000000000000000000000000000000000000000000000000000000000000000000000000000000000000000000000000000000000
theorem execLehaltWrite_still {F : Fld} {I V : Nat} (core : Nat) (value : Nat) (s : State) (hw :
    execLehaltWrite_writes.testBit F.ctorIdx = false) (h : Still F I V s) :
    StillOut F I V (execLehaltWrite core value s) := by
  unfold execLehaltWrite
  repeat' first
    | with_reducible assumption
    | with_reducible apply StillOut.next
    | intro _
    | with_reducible refine State.access_still _ _ _ _ _ (Wr.sub (by decide) hw) ?_ ?_
    | with_reducible refine State.leHaltWrite_still _ _ _ (Wr.sub (by decide) hw) ?_
    | split
    | dsimp only; split

theorem State.setLr_still {F : Fld} {I V : Nat} (s : State) (core : Nat) (g : Option (Nat × Nat)) (h : Still F I V s) :
    Still F I V (State.setLr s core g) := by
  unfold State.setLr
  repeat' first
    | with_reducible assumption
    | intro _
    | fail_if_no_progress with_reducible apply Still.upd
    | split
    | (with_reducible apply Still.upd); split

def State.amoBad_writes : Nat :=
    0x100220000000000000000000000000000000040000000000000000000000000000000000000000000000000000000000000000000000000000000000000000000000000000000000000000
theorem State.amoBad_still {F : Fld} {I V : Nat} (s : State) (core : Nat) (addr : Nat) (hw : State.amoBad_writes.testBit
    F.ctorIdx = false) (h : Still F I V s) :
    Still F I V (State.amoBad s core addr) := by
  unfold State.amoBad
  repeat' first
    | with_reducible assumption
    | intro _
    | with_reducible refine State.coreFault_still _ _ _ _ ?_
    | with_reducible refine State.badRead_still _ _ _ _ (Wr.sub (by decide) hw) ?_
    | with_reducible apply Still.ite
    | split
    | (with_reducible apply Still.upd); split

def State.amoDo_writes : Nat :=
    0x100220000000000000000000000000000000040000000000000000000000000000000000000000000000000000000000000000000000000000000000000000000000000000000000000000
theorem State.amoDo_still {F : Fld} {I V : Nat} (s : State) (core : Nat) (addr : Nat) (g : Nat × Nat) (op : AmoOp) (old :
    Nat) (v : Nat) (hw : State.amoDo_writes.testBit F.ctorIdx = false) (h : Still F I V s) :
    Still F I V (State.amoDo s core addr g op old v) := by
  unfold State.amoDo
  repeat' first
    | with_reducible assumption
    | intro _
    | with_reducible refine State.setLr_still _ _ _ ?_
    | with_reducible refine State.reads_still _ _ ?_
    | with_reducible refine State.memStore_still _ _ _ _ (Wr.sub (by decide) hw) ?_
    | with_reducible apply Still.ite
    | split
    | (with_reducible apply Still.upd); split

def execAmoSatchel_writes : Nat :=
    0x100220000000000000000003000000000000040000000000000000000000000000000000000000000000000000000000000000000000000000000000000000000000000000000000000000
theorem execAmoSatchel_still {F : Fld} {I V : Nat} (core : Nat) (addr : Nat) (op : AmoOp) (value : Nat) (s : State) (hw :
    execAmoSatchel_writes.testBit F.ctorIdx = false) (h : Still F I V s) :
    StillOut F I V (execAmoSatchel core addr op value s) := by
  unfold execAmoSatchel
  repeat' first
    | with_reducible assumption
    | with_reducible apply StillOut.next
    | with_reducible apply StillOut.ite
    | intro _
    | with_reducible refine State.access_still _ _ _ _ _ (Wr.sub (by decide) hw) ?_ ?_
    | with_reducible refine State.coreFault_still _ _ _ _ ?_
    | with_reducible refine State.amoBad_still _ _ _ (Wr.sub (by decide) hw) ?_
    | with_reducible refine State.amoDo_still _ _ _ _ _ _ _ (Wr.sub (by decide) hw) ?_
    | with_reducible apply Still.ite
    | split
    | dsimp only; split

def State.blockStore_writes : Nat :=
    0x1ffbffe7ffecfffffc3fffe00007e1f8d40fe34c641a7fdf5c07ff0800000021e60001d0ff8c0000003a7e01fff0000bffc0039818e083800a000e001d7c1dcbffcc03fd1ffe687c0001018f01
theorem State.blockStore_still {F : Fld} {I V : Nat} (s : State) (core : Nat) (addr : Nat) (v : Nat) (hw :
    State.blockStore_writes.testBit F.ctorIdx = false) (h : Still F I V s) :
    Still F I V (State.blockStore s core addr v) := by
  unfold State.blockStore
  repeat' first
    | with_reducible assumption
    | intro _
    | with_reducible refine State.setFld_still _ _ _ _ (W := State.blockStore_writes) ?_ hw ?_
    | decide
    | with_reducible refine State.windowWrite_still _ _ _ _ _ (Wr.sub (by decide) hw) ?_
    | with_reducible refine State.gatewayGo_still _ _ _ _ (Wr.sub (by decide) hw) ?_
    | with_reducible refine State.coreFault_still _ _ _ _ ?_
    | with_reducible refine State.regPut_still _ _ _ _ _ _ _ (Wr.sub (by decide) hw) ?_
    | with_reducible apply Still.whenIf
    | with_reducible apply Still.ite
    | split
    | (with_reducible apply Still.upd); split

def execRegisterWrite_writes : Nat :=
    0x1ffbffe7ffecfffffc3fffe00007e1f8d40fe34c641a7fdf5c07ff0800000021e60001d0ff8c0000003a7e01fff0000bffc0039818e083800a000e001d7c1dcbffcc03fd1ffe687c0001018f01
theorem execRegisterWrite_still {F : Fld} {I V : Nat} (core : Nat) (addr : Nat) (value : Nat) (s : State) (hw :
    execRegisterWrite_writes.testBit F.ctorIdx = false) (h : Still F I V s) :
    StillOut F I V (execRegisterWrite core addr value s) := by
  unfold execRegisterWrite
  repeat' first
    | with_reducible assumption
    | with_reducible apply StillOut.next
    | with_reducible apply StillOut.ite
    | intro _
    | with_reducible refine State.access_still _ _ _ _ _ (Wr.sub (by decide) hw) ?_ ?_
    | with_reducible refine State.coreFault_still _ _ _ _ ?_
    | with_reducible refine State.blockStore_still _ _ _ _ (Wr.sub (by decide) hw) ?_
    | with_reducible refine State.coreStore_still _ _ _ _ (Wr.sub (by decide) hw) ?_
    | with_reducible apply Still.ite
    | split
    | dsimp only; split

end Sys2Proof.Machine
end

