-- ==== Sys2Proof/Laws/StillCoreLoad.lean ====
section
/-!
SUPPORT. Which register fields the operations of Machine/CoreLoad.lean can write (Laws/Still.lean), as bits by the field's number, and
that they leave every other as it was.
-/
namespace Sys2Proof.Machine

set_option linter.unusedTactic false
set_option linter.unreachableTactic false

def State.readClears_writes : Nat :=
    0x20010000003000000000000000470000001c00000c000000000000000000058000000070000000400000000060000008000060000000018000000000000000000000000000003004000
theorem State.readClears_still {F : Fld} {I V : Nat} (s : State) (r : RegDesc) (i : Nat) (hw :
    State.readClears_writes.testBit F.ctorIdx = false) (h : Still F I V s) :
    Still F I V (State.readClears s r i) := by
  have key : ∀ g : Fld, g.acc = .rc → State.readClears_writes.testBit g.ctorIdx = true := by
    have hk : ∀ n < 700, (Fld.ofNat n).acc = .rc → State.readClears_writes.testBit (Fld.ofNat n).ctorIdx = true := by
      decide +kernel
    intro g hg
    have := hk g.ctorIdx g.ctorIdx_lt
    rw [Fld.ofNat_ctorIdx] at this
    exact this hg
  unfold State.readClears
  refine Still.each h (fun t ht fa => ?_)
  unfold State.when
  split
  · rename_i e
    exact State.setFld_still _ _ _ _ (key _ (by simpa using e)) hw ht
  · exact ht

def State.regLoad_writes : Nat :=
    0x10022010000003000000000300000470000001c00000c0800000000000000000580000000700000004000000000600000080001600000000580000000c2000000000000000000003004000
theorem State.regLoad_still {F : Fld} {I V : Nat} (s : State) (core : Nat) (addr : Nat) (hw : State.regLoad_writes.testBit
    F.ctorIdx = false) (h : Still F I V s) :
    Still F I V (State.regLoad s core addr) := by
  unfold State.regLoad
  repeat' first
    | with_reducible assumption
    | with_reducible refine execTbLoRead_still _ _ (Wr.sub (by decide) hw) ?_
    | with_reducible refine execRtcSubRead_still _ _ (Wr.sub (by decide) hw) ?_
    | with_reducible refine execInterruptClaim_still _ _ (Wr.sub (by decide) hw) ?_
    | intro _
    | with_reducible refine State.setFld_still _ _ _ _ (W := State.regLoad_writes) ?_ hw ?_
    | decide
    | with_reducible refine State.reads_still _ _ ?_
    | with_reducible refine State.took_still _ _ ?_ ?_
    | with_reducible refine State.readClears_still _ _ _ (Wr.sub (by decide) hw) ?_
    | with_reducible apply Still.ite
    | split
    | (with_reducible apply Still.upd); split

theorem State.setHighLatch_still {F : Fld} {I V : Nat} (s : State) (core : Nat) (l : Option (Nat × Nat × Nat)) (h : Still F
    I V s) :
    Still F I V (State.setHighLatch s core l) := by
  unfold State.setHighLatch
  repeat' first
    | with_reducible assumption
    | intro _
    | fail_if_no_progress with_reducible apply Still.upd
    | split
    | (with_reducible apply Still.upd); split

def State.windowLoad_writes : Nat :=
    0x100220000000000000000000000000000000040000000000000000000000000000000000000000000000000000000000000000000000000000000000000000000000000000000000000000
theorem State.windowLoad_still {F : Fld} {I V : Nat} (s : State) (core : Nat) (n : Nat) (idx : Nat) (hw :
    State.windowLoad_writes.testBit F.ctorIdx = false) (h : Still F I V s) :
    Still F I V (State.windowLoad s core n idx) := by
  unfold State.windowLoad
  repeat' first
    | with_reducible assumption
    | intro _
    | with_reducible refine State.coreFault_still _ _ _ _ ?_
    | with_reducible refine State.badRead_still _ _ _ _ (Wr.sub (by decide) hw) ?_
    | with_reducible refine State.reads_still _ _ ?_
    | with_reducible refine State.setHighLatch_still _ _ _ ?_
    | with_reducible apply Still.ite
    | split
    | (with_reducible apply Still.upd); split

def State.blockLoad_writes : Nat :=
    0x10022010000003000000000300000470000005c00000c0800000000000000000580000000700000004000000000600000080001600000000580000000c2000000000000000000003004000
theorem State.blockLoad_still {F : Fld} {I V : Nat} (s : State) (core : Nat) (addr : Nat) (width : Nat) (hw :
    State.blockLoad_writes.testBit F.ctorIdx = false) (h : Still F I V s) :
    Still F I V (State.blockLoad s core addr width) := by
  unfold State.blockLoad
  repeat' first
    | with_reducible assumption
    | intro _
    | with_reducible refine State.accessAs_still _ _ _ _ _ _ (Wr.sub (by decide) hw) ?_ ?_
    | with_reducible refine State.coreFault_still _ _ _ _ ?_
    | with_reducible refine State.windowLoad_still _ _ _ _ (Wr.sub (by decide) hw) ?_
    | with_reducible refine State.regLoad_still _ _ _ (Wr.sub (by decide) hw) ?_
    | with_reducible apply Still.ite
    | split
    | (with_reducible apply Still.upd); split

theorem State.readsBytes_still {F : Fld} {I V : Nat} (s : State) (l : List Nat) (h : Still F I V s) :
    Still F I V (State.readsBytes s l) := by
  unfold State.readsBytes
  repeat' first
    | with_reducible assumption
    | intro _
    | with_reducible refine State.reads_still _ _ ?_
    | split
    | (with_reducible apply Still.upd); split

def State.loadBad_writes : Nat :=
    0x100220000000000000000000000000000000040000000000000000000000000000000000000000000000000000000000000000000000000000000000000000000000000000000000000000
theorem State.loadBad_still {F : Fld} {I V : Nat} (s : State) (cause : Nat) (core : Nat) (mem : Nat) (addr : Nat) (hw :
    State.loadBad_writes.testBit F.ctorIdx = false) (h : Still F I V s) :
    Still F I V (State.loadBad s cause core mem addr) := by
  unfold State.loadBad
  repeat' first
    | with_reducible assumption
    | intro _
    | with_reducible refine State.coreFault_still _ _ _ _ ?_
    | with_reducible refine State.badRead_still _ _ _ _ (Wr.sub (by decide) hw) ?_
    | split
    | (with_reducible apply Still.upd); split

def State.sramLoad_writes : Nat :=
    0x100220000000000000000000000000000000040000000000000000000000000000000000000000000000000000000000000000000000000000000000000000000000000000000000000000
theorem State.sramLoad_still {F : Fld} {I V : Nat} (s : State) (cause : Nat) (core : Nat) (o : Nat) (n : Nat) (hw :
    State.sramLoad_writes.testBit F.ctorIdx = false) (h : Still F I V s) :
    Still F I V (State.sramLoad s cause core o n) := by
  unfold State.sramLoad
  repeat' first
    | with_reducible assumption
    | intro _
    | with_reducible refine State.loadBad_still _ _ _ _ _ (Wr.sub (by decide) hw) ?_
    | with_reducible refine State.readsBytes_still _ _ ?_
    | with_reducible refine State.fresh_still _ _ ?_
    | (with_reducible refine Still.snd ?_ (by assumption)); with_reducible refine State.fresh_still _ _ ?_
    | with_reducible refine State.reads_still _ _ ?_
    | with_reducible apply Still.ite
    | split
    | (with_reducible apply Still.upd); split

theorem State.xipLoad_still {F : Fld} {I V : Nat} (s : State) (cause : Nat) (core : Nat) (o : Nat) (n : Nat) (h : Still F I
    V s) :
    Still F I V (State.xipLoad s cause core o n) := by
  unfold State.xipLoad
  repeat' first
    | with_reducible assumption
    | intro _
    | with_reducible refine State.coreFault_still _ _ _ _ ?_
    | with_reducible refine State.fresh_still _ _ ?_
    | (with_reducible refine Still.snd ?_ (by assumption)); with_reducible refine State.fresh_still _ _ ?_
    | with_reducible refine State.reads_still _ _ ?_
    | with_reducible refine State.readsBytes_still _ _ ?_
    | with_reducible apply Still.ite
    | split
    | (with_reducible apply Still.upd); split

def State.memLoad_writes : Nat :=
    0x100220000000000000000000000000000000040000000000000000000000000000000000000000000000000000000000000000000000000000000000000000000000000000000000000000
theorem State.memLoad_still {F : Fld} {I V : Nat} (s : State) (cause : Nat) (core : Nat) (addr : Nat) (n : Nat) (hw :
    State.memLoad_writes.testBit F.ctorIdx = false) (h : Still F I V s) :
    Still F I V (State.memLoad s cause core addr n) := by
  unfold State.memLoad
  repeat' first
    | with_reducible assumption
    | intro _
    | with_reducible refine State.readsBytes_still _ _ ?_
    | with_reducible refine State.loadBad_still _ _ _ _ _ (Wr.sub (by decide) hw) ?_
    | with_reducible refine State.xipLoad_still _ _ _ _ _ ?_
    | with_reducible refine State.coreFault_still _ _ _ _ ?_
    | with_reducible refine State.sramLoad_still _ _ _ _ _ (Wr.sub (by decide) hw) ?_
    | with_reducible apply Still.ite
    | split
    | (with_reducible apply Still.upd); split

def State.coreLoad_writes : Nat :=
    0x10022010000003000000000300000470000005c00000c0800000000000000000580000000700000004000000000600000080001600000000580000000c2000000000000000000003004000
theorem State.coreLoad_still {F : Fld} {I V : Nat} (s : State) (core : Nat) (addr : Nat) (width : Nat) (hw :
    State.coreLoad_writes.testBit F.ctorIdx = false) (h : Still F I V s) :
    Still F I V (State.coreLoad s core addr width) := by
  unfold State.coreLoad
  repeat' first
    | with_reducible assumption
    | intro _
    | with_reducible refine State.blockLoad_still _ _ _ _ (Wr.sub (by decide) hw) ?_
    | with_reducible refine State.accessAs_still _ _ _ _ _ _ (Wr.sub (by decide) hw) ?_ ?_
    | with_reducible refine State.coreFault_still _ _ _ _ ?_
    | with_reducible refine State.memLoad_still _ _ _ _ _ (Wr.sub (by decide) hw) ?_
    | with_reducible apply Still.ite
    | split
    | (with_reducible apply Still.upd); split

def State.coreFetch_writes : Nat :=
    0x100220000000000000000003000000000000040000000000000000000000000000000000000000000000000000000000000000000000000000000000000000000000000000000000000000
theorem State.coreFetch_still {F : Fld} {I V : Nat} (s : State) (core : Nat) (addr : Nat) (hw :
    State.coreFetch_writes.testBit F.ctorIdx = false) (h : Still F I V s) :
    Still F I V (State.coreFetch s core addr) := by
  unfold State.coreFetch
  repeat' first
    | with_reducible assumption
    | intro _
    | with_reducible refine State.accessAs_still _ _ _ _ _ _ (Wr.sub (by decide) hw) ?_ ?_
    | with_reducible refine State.memLoad_still _ _ _ _ _ (Wr.sub (by decide) hw) ?_
    | split
    | (with_reducible apply Still.upd); split

def State.coreStores_writes : Nat :=
    0x1ffbffe7ffecfffffc3fffe00007e1f8d40fe34c641a7fdf5c07ff0800000021e60001d0ff8c0000003a7e01fff0000bffc0039818e083800a000e001d7c1dcbffcc03fd1ffe687c0001018f01
theorem State.coreStores_still {F : Fld} {I V : Nat} (s : State) (core : Nat) (addr : Nat) (width : Nat) (v : Nat) (hw :
    State.coreStores_writes.testBit F.ctorIdx = false) (h : Still F I V s) :
    Still F I V (State.coreStores s core addr width v) := by
  unfold State.coreStores
  repeat' first
    | with_reducible assumption
    | with_reducible refine execRegisterWrite_still _ _ _ _ (Wr.sub (by decide) hw) ?_
    | intro _
    | with_reducible refine State.took_still _ _ ?_ ?_
    | with_reducible refine State.access_still _ _ _ _ _ (Wr.sub (by decide) hw) ?_ ?_
    | with_reducible refine State.coreFault_still _ _ _ _ ?_
    | with_reducible refine State.coreStore_still _ _ _ _ (Wr.sub (by decide) hw) ?_
    | with_reducible apply Still.ite
    | split
    | (with_reducible apply Still.upd); split

theorem State.csrRead_still {F : Fld} {I V : Nat} (s : State) (core : Nat) (n : Nat) (h : Still F I V s) :
    Still F I V (State.csrRead s core n) := by
  unfold State.csrRead
  repeat' first
    | with_reducible assumption
    | intro _
    | with_reducible refine State.reads_still _ _ ?_
    | with_reducible refine State.fresh_still _ _ ?_
    | (with_reducible refine Still.snd ?_ (by assumption)); with_reducible refine State.fresh_still _ _ ?_
    | with_reducible apply Still.ite
    | fail_if_no_progress with_reducible apply Still.upd
    | split
    | (with_reducible apply Still.upd); split

theorem State.csrPut_still {F : Fld} {I V : Nat} (s : State) (core : Nat) (n : Nat) (v : Nat) (h : Still F I V s) :
    Still F I V (State.csrPut s core n v) := by
  unfold State.csrPut
  repeat' first
    | with_reducible assumption
    | intro _
    | fail_if_no_progress with_reducible apply Still.upd
    | split
    | (with_reducible apply Still.upd); split

theorem State.setPriv_still {F : Fld} {I V : Nat} (s : State) (core : Nat) (p : Nat) (h : Still F I V s) :
    Still F I V (State.setPriv s core p) := by
  unfold State.setPriv
  repeat' first
    | with_reducible assumption
    | intro _
    | fail_if_no_progress with_reducible apply Still.upd
    | split
    | (with_reducible apply Still.upd); split

theorem State.csrWrite_still {F : Fld} {I V : Nat} (s : State) (core : Nat) (n : Nat) (v : Nat) (h : Still F I V s) :
    Still F I V (State.csrWrite s core n v) := by
  unfold State.csrWrite
  repeat' first
    | with_reducible assumption
    | intro _
    | with_reducible refine State.setPriv_still _ _ _ ?_
    | with_reducible refine State.csrPut_still _ _ _ _ ?_
    | with_reducible apply Still.ite
    | fail_if_no_progress with_reducible apply Still.upd
    | split
    | (with_reducible apply Still.upd); split

theorem State.regRead_still {F : Fld} {I V : Nat} (s : State) (core : Nat) (n : Nat) (h : Still F I V s) :
    Still F I V (State.regRead s core n) := by
  unfold State.regRead
  repeat' first
    | with_reducible assumption
    | intro _
    | with_reducible refine State.csrRead_still _ _ _ ?_
    | with_reducible refine State.reads_still _ _ ?_
    | with_reducible apply Still.ite
    | split
    | (with_reducible apply Still.upd); split

theorem State.regWrite_still {F : Fld} {I V : Nat} (s : State) (core : Nat) (n : Nat) (v : Nat) (h : Still F I V s) :
    Still F I V (State.regWrite s core n v) := by
  unfold State.regWrite
  repeat' first
    | with_reducible assumption
    | intro _
    | with_reducible refine State.csrWrite_still _ _ _ _ ?_
    | with_reducible apply Still.ite
    | fail_if_no_progress with_reducible apply Still.upd
    | split
    | (with_reducible apply Still.upd); split

theorem State.setCmderr_still {F : Fld} {I V : Nat} (s : State) (e : Nat) (h : Still F I V s) :
    Still F I V (State.setCmderr s e) := by
  unfold State.setCmderr
  repeat' first
    | with_reducible assumption
    | intro _
    | fail_if_no_progress with_reducible apply Still.upd
    | split
    | (with_reducible apply Still.upd); split

theorem State.setMcause_still {F : Fld} {I V : Nat} (s : State) (core : Nat) (c : Nat) (h : Still F I V s) :
    Still F I V (State.setMcause s core c) := by
  unfold State.setMcause
  repeat' first
    | with_reducible assumption
    | intro _
    | fail_if_no_progress with_reducible apply Still.upd
    | split
    | (with_reducible apply Still.upd); split

theorem State.abstract_still {F : Fld} {I V : Nat} (s : State) (core : Nat) (f : State → State) (h : Still F I V s) (hf : ∀
    t, Still F I V t → Still F I V (f t)) :
    Still F I V (State.abstract s core f) := by
  unfold State.abstract
  repeat' first
    | with_reducible assumption
    | intro _
    | with_reducible refine State.setCmderr_still _ _ ?_
    | with_reducible apply Still.ite
    | with_reducible apply hf
    | split
    | (with_reducible apply Still.upd); split

theorem State.abstractMem_still {F : Fld} {I V : Nat} (s : State) (core : Nat) (f : State → State) (h : Still F I V s) (hf
    : ∀ t, Still F I V t → Still F I V (f t)) :
    Still F I V (State.abstractMem s core f) := by
  unfold State.abstractMem
  repeat' first
    | with_reducible assumption
    | intro _
    | with_reducible refine State.abstract_still _ _ _ ?_ ?_
    | with_reducible refine State.setMcause_still _ _ _ ?_
    | with_reducible refine State.setCmderr_still _ _ ?_
    | with_reducible apply Still.ite
    | with_reducible apply hf
    | split
    | (with_reducible apply Still.upd); split

def State.debugDo_writes : Nat :=
    0x1ffbffe7fffcffffff3fffe00007e1f8d47fe34c65da7fdfdc87ff0800000021e60059d0ff8c0700003a7e01fff0000fffc0039818f683800a005e001d7c1debffcc03fd1ffe687c000301cf01
theorem State.debugDo_still {F : Fld} {I V : Nat} (s : State) (hart : Nat) (x2 : DmiOp) (hw : State.debugDo_writes.testBit
    F.ctorIdx = false) (h : Still F I V s) :
    Still F I V (State.debugDo s hart x2) := by
  unfold State.debugDo
  repeat' first
    | with_reducible assumption
    | intro _
    | with_reducible refine State.resumeCore_still _ _ ?_
    | with_reducible refine State.abstractMem_still _ _ _ ?_ ?_
    | with_reducible refine State.coreLoad_still _ _ _ _ (Wr.sub (by decide) hw) ?_
    | with_reducible refine State.coreStores_still _ _ _ _ _ (Wr.sub (by decide) hw) ?_
    | with_reducible refine State.coreFetch_still _ _ _ (Wr.sub (by decide) hw) ?_
    | with_reducible refine State.abstract_still _ _ _ ?_ ?_
    | with_reducible refine State.regRead_still _ _ _ ?_
    | with_reducible refine State.regWrite_still _ _ _ _ ?_
    | with_reducible refine State.reads_still _ _ ?_
    | fail_if_no_progress with_reducible apply Still.upd
    | split
    | (with_reducible apply Still.upd); split

def execDmi_writes : Nat :=
    0x1ffbffe7fffcffffff3fffe00007e1f8d47fe34c65da7fdfdc87ff0800000021e60059d0ff8c0700003a7e01fff0000fffc0039818f683800a005e001d7c1debffcc03fd1ffe687c000301cf01
theorem execDmi_still {F : Fld} {I V : Nat} (hart : Nat) (op : DmiOp) (s : State) (hw : execDmi_writes.testBit F.ctorIdx =
    false) (h : Still F I V s) :
    StillOut F I V (execDmi hart op s) := by
  unfold execDmi
  repeat' first
    | with_reducible assumption
    | with_reducible apply StillOut.next
    | intro _
    | with_reducible refine State.fresh_still _ _ ?_
    | (with_reducible refine Still.snd ?_ (by assumption)); with_reducible refine State.fresh_still _ _ ?_
    | with_reducible refine State.tap_still _ _ _ ?_
    | with_reducible refine State.debugDo_still _ _ _ (Wr.sub (by decide) hw) ?_
    | with_reducible apply Still.whenIf
    | fail_if_no_progress with_reducible apply Still.upd
    | split
    | dsimp only; split

end Sys2Proof.Machine
end

