-- ==== Sys2Proof/Laws/StillReset.lean ====
section
/-!
SUPPORT. Which register fields the operations of Machine/Reset.lean can write (Laws/Still.lean), as bits by the field's number, and
that they leave every other as it was.
-/
namespace Sys2Proof.Machine

set_option linter.unusedTactic false
set_option linter.unreachableTactic false

def State.requestReset_writes : Nat :=
    0x10181003e08000000000020000034e0000000000000000000006010000000000000000400000000000000000000000000480000801c00000000000000000000000000000000000000000000000
theorem State.requestReset_still {F : Fld} {I V : Nat} (s : State) (cause : Nat) (hw : State.requestReset_writes.testBit
    F.ctorIdx = false) (h : Still F I V s) :
    Still F I V (State.requestReset s cause) := by
  unfold State.requestReset
  repeat' first
    | with_reducible assumption
    | intro _
    | with_reducible refine State.startReset_still _ _ (Wr.sub (by decide) hw) ?_
    | with_reducible apply Still.whenIf
    | split
    | (with_reducible apply Still.upd); split

def execPowerOn_writes : Nat :=
    0x10181003e08000000000020000034e0000000000000000000006010000000000000000400000000000000000000000000480000801c00000000000000000000000000000000000000000000000
theorem execPowerOn_still {F : Fld} {I V : Nat} (s : State) (hw : execPowerOn_writes.testBit F.ctorIdx = false) (h : Still
    F I V s) :
    StillOut F I V (execPowerOn s) := by
  unfold execPowerOn
  repeat' first
    | with_reducible assumption
    | with_reducible apply StillOut.next
    | intro _
    | with_reducible refine State.requestReset_still _ _ (Wr.sub (by decide) hw) ?_
    | split
    | dsimp only; split

def execRstnLow_writes : Nat :=
    0x10181003e08000000000020000034e0000000000000000000006010000000000000000400000000000000000000000000480000801c00000000000000000000000000000000000000000000000
theorem execRstnLow_still {F : Fld} {I V : Nat} (s : State) (hw : execRstnLow_writes.testBit F.ctorIdx = false) (h : Still
    F I V s) :
    StillOut F I V (execRstnLow s) := by
  unfold execRstnLow
  repeat' first
    | with_reducible assumption
    | with_reducible apply StillOut.next
    | intro _
    | with_reducible refine State.requestReset_still _ _ (Wr.sub (by decide) hw) ?_
    | with_reducible apply Still.whenIf
    | split
    | dsimp only; split

def execSoftwareResetRequest_writes : Nat :=
    0x10181003e08000000000020000034e0000000000000000000006010000000000000000400000000000000000000000000480000801c00000000000000000000000000000000000000000000000
theorem execSoftwareResetRequest_still {F : Fld} {I V : Nat} (s : State) (hw : execSoftwareResetRequest_writes.testBit
    F.ctorIdx = false) (h : Still F I V s) :
    StillOut F I V (execSoftwareResetRequest s) := by
  unfold execSoftwareResetRequest
  repeat' first
    | with_reducible assumption
    | with_reducible apply StillOut.next
    | intro _
    | with_reducible refine State.requestReset_still _ _ (Wr.sub (by decide) hw) ?_
    | split
    | dsimp only; split

def execPllRetryReset_writes : Nat :=
    0x10181003e08000000000020000034e0000000000000000000006010000000000000000400000000000000000000000000480000801c00000000000000000000000000000000000000000000000
theorem execPllRetryReset_still {F : Fld} {I V : Nat} (s : State) (hw : execPllRetryReset_writes.testBit F.ctorIdx = false)
    (h : Still F I V s) :
    StillOut F I V (execPllRetryReset s) := by
  unfold execPllRetryReset
  repeat' first
    | with_reducible assumption
    | with_reducible apply StillOut.next
    | intro _
    | with_reducible refine State.requestReset_still _ _ (Wr.sub (by decide) hw) ?_
    | with_reducible apply Still.whenIf
    | split
    | dsimp only; split

def State.pllsDone_writes : Nat := 0x3dc000000000000000000000
theorem State.pllsDone_still {F : Fld} {I V : Nat} (s : State) (mask : Nat) (hw : State.pllsDone_writes.testBit F.ctorIdx =
    false) (h : Still F I V s) :
    Still F I V (State.pllsDone s mask) := by
  unfold State.pllsDone
  repeat' first
    | with_reducible assumption
    | intro _
    | with_reducible refine State.setFlag_still _ _ _ _ (W := State.pllsDone_writes) ?_ hw ?_
    | decide
    | unfold lockFld; split <;> decide
    | with_reducible apply Still.each
    | fail_if_no_progress with_reducible apply Still.upd
    | split
    | (with_reducible apply Still.upd); split

theorem State.clearMemories_still {F : Fld} {I V : Nat} (s : State) (h : Still F I V s) :
    Still F I V (State.clearMemories s) := by
  unfold State.clearMemories
  repeat' first
    | with_reducible assumption
    | intro _
    | with_reducible apply Still.whenIf
    | fail_if_no_progress with_reducible apply Still.upd
    | split
    | (with_reducible apply Still.upd); split

theorem State.loadTimebase_still {F : Fld} {I V : Nat} (s : State) (h : Still F I V s) :
    Still F I V (State.loadTimebase s) := by
  unfold State.loadTimebase
  repeat' first
    | with_reducible assumption
    | intro _
    | with_reducible apply Still.ite
    | fail_if_no_progress with_reducible apply Still.upd
    | split
    | (with_reducible apply Still.upd); split

theorem State.toPhase_still {F : Fld} {I V : Nat} (s : State) (p : ResetPhase) (h : Still F I V s) :
    Still F I V (State.toPhase s p) := by
  unfold State.toPhase
  repeat' first
    | with_reducible assumption
    | intro _
    | fail_if_no_progress with_reducible apply Still.upd
    | split
    | (with_reducible apply Still.upd); split

def State.loadFuses_writes : Nat :=
    0x900000000000000000000000000000000000000000000000000000000000000000000000000000000000000000000000000000001ff0000000
theorem State.loadFuses_still {F : Fld} {I V : Nat} (s : State) (hw : State.loadFuses_writes.testBit F.ctorIdx = false) (h
    : Still F I V s) :
    Still F I V (State.loadFuses s) := by
  have key : ∀ v, ∀ e ∈ sizeRes (v % 4), State.loadFuses_writes.testBit e.1.ctorIdx = true := by
    intro v
    have : v % 4 < 4 := Nat.mod_lt _ (by decide)
    generalize v % 4 = k at this
    revert k; decide
  unfold State.loadFuses
  dsimp only
  refine State.setFld_still _ _ _ _ (W := State.loadFuses_writes) (by decide) hw ?_
  refine State.setFld_still _ _ _ _ (W := State.loadFuses_writes) (by decide) hw ?_
  refine State.setFlag_still _ _ _ _ (W := State.loadFuses_writes) (by decide) hw ?_
  refine State.setFlag_still _ _ _ _ (W := State.loadFuses_writes) (by decide) hw ?_
  refine State.setFlag_still _ _ _ _ (W := State.loadFuses_writes) (by decide) hw ?_
  split
  · exact h
  · exact Still.eachMem h (fun e he t ht => State.setFld_still _ _ _ _ (key _ e he) hw ht)

theorem State.testBell_still {F : Fld} {I V : Nat} (s : State) (h : Still F I V s) :
    Still F I V (State.testBell s) := by
  unfold State.testBell
  repeat' first
    | with_reducible assumption
    | intro _
    | fail_if_no_progress with_reducible apply Still.upd
    | split
    | (with_reducible apply Still.upd); split

def execResetPhaseAdvance_writes : Nat :=
    0x9000000000000000000000000000000000000000000000000000000000000000000000000000000000000000003dc000000000003ff0000000
theorem execResetPhaseAdvance_still {F : Fld} {I V : Nat} (mask : Nat) (bootsel : Nat) (s : State) (hw :
    execResetPhaseAdvance_writes.testBit F.ctorIdx = false) (h : Still F I V s) :
    StillOut F I V (execResetPhaseAdvance mask bootsel s) := by
  unfold execResetPhaseAdvance
  repeat' first
    | with_reducible assumption
    | with_reducible apply StillOut.next
    | with_reducible apply StillOut.ite
    | intro _
    | with_reducible refine State.setFld_still _ _ _ _ (W := execResetPhaseAdvance_writes) ?_ hw ?_
    | decide
    | with_reducible refine State.toPhase_still _ _ ?_
    | with_reducible refine State.loadFuses_still _ (Wr.sub (by decide) hw) ?_
    | with_reducible refine State.pllsDone_still _ _ (Wr.sub (by decide) hw) ?_
    | with_reducible refine State.testBell_still _ ?_
    | with_reducible refine State.clearMemories_still _ ?_
    | with_reducible refine State.loadTimebase_still _ ?_
    | with_reducible apply Still.ite
    | fail_if_no_progress with_reducible apply Still.upd
    | split
    | dsimp only; split

def State.dieReset_writes : Nat :=
    0x1ffffffffffffffffffffd980003f1fffff1ffbf6ffdffffff3fffffffffff93cfbfffffffffffffffffffffffffffffffffffffffffffffff3fffffffffc0ffff4203f0000003fc0003ffffff
theorem State.dieReset_still {F : Fld} {I V : Nat} (s : State) (hw : State.dieReset_writes.testBit F.ctorIdx = false) (h :
    Still F I V s) :
    Still F I V (State.dieReset s) := by
  have hp : (keptFields.map Fld.ctorIdx).contains F.ctorIdx = true := by
    have hk : ∀ n < 700, State.dieReset_writes.testBit (Fld.ofNat n).ctorIdx = false →
        (keptFields.map Fld.ctorIdx).contains (Fld.ofNat n).ctorIdx = true := by decide +kernel
    have := hk F.ctorIdx F.ctorIdx_lt
    rw [Fld.ofNat_ctorIdx] at this
    exact this hw
  exact Still.filter (p := fun n => (keptFields.map Fld.ctorIdx).contains n) h hp

def State.restoreRepair_writes : Nat :=
    0x600060000000800000000000000000000f80000000000000000000000000000000000000000000001810000000000000000000000000000300
theorem State.restoreRepair_still {F : Fld} {I V : Nat} (s : State) (e : Nat) (hw : State.restoreRepair_writes.testBit
    F.ctorIdx = false) (h : Still F I V s) :
    Still F I V (State.restoreRepair s e) := by
  unfold State.restoreRepair
  repeat' first
    | with_reducible assumption
    | intro _
    | with_reducible refine State.applyRepair_still _ _ (Wr.sub (by decide) hw) ?_
    | with_reducible refine State.putRemain_still _ _ _ (Wr.sub (by decide) hw) ?_
    | with_reducible apply Still.ite
    | split
    | (with_reducible apply Still.upd); split

def State.restoreRepairs_writes : Nat :=
    0x600060000000800000000000000000000f80000000000000000000000000000000000000000000001810000000000000000000000000000300
theorem State.restoreRepairs_still {F : Fld} {I V : Nat} (s : State) (hw : State.restoreRepairs_writes.testBit F.ctorIdx =
    false) (h : Still F I V s) :
    Still F I V (State.restoreRepairs s) := by
  unfold State.restoreRepairs
  repeat' first
    | with_reducible assumption
    | intro _
    | with_reducible refine State.setFld_still _ _ _ _ (W := State.restoreRepairs_writes) ?_ hw ?_
    | decide
    | with_reducible refine State.putRemain_still _ _ _ (Wr.sub (by decide) hw) ?_
    | with_reducible refine State.restoreRepair_still _ _ (Wr.sub (by decide) hw) ?_
    | with_reducible apply Still.each
    | split
    | (with_reducible apply Still.upd); split

def State.flushLate_writes : Nat :=
    0x100220000000000000000000000000000000000000000000000000000000000000000000000000000000000000000000000000000000000000000000000000000000000000000000000000
theorem State.flushLate_still {F : Fld} {I V : Nat} (s : State) (hw : State.flushLate_writes.testBit F.ctorIdx = false) (h
    : Still F I V s) :
    Still F I V (State.flushLate s) := by
  unfold State.flushLate
  repeat' first
    | with_reducible assumption
    | intro _
    | with_reducible refine State.emit_still _ _ _ (Wr.sub (by decide) hw) ?_
    | with_reducible apply Still.each
    | fail_if_no_progress with_reducible apply Still.upd
    | split
    | (with_reducible apply Still.upd); split

def State.afterReset_writes : Nat :=
    0x100220000000000000000000000000000000600278000000800000000000000000000f80000000000000000000000000000000000000000000001810000000020000000000000000000300
theorem State.afterReset_still {F : Fld} {I V : Nat} (s : State) (hw : State.afterReset_writes.testBit F.ctorIdx = false)
    (h : Still F I V s) :
    Still F I V (State.afterReset s) := by
  unfold State.afterReset
  repeat' first
    | with_reducible assumption
    | intro _
    | with_reducible refine State.setFlag_still _ _ _ _ (W := State.afterReset_writes) ?_ hw ?_
    | decide
    | with_reducible refine State.restoreRepairs_still _ (Wr.sub (by decide) hw) ?_
    | with_reducible refine State.retireRoot_still _ _ (Wr.sub (by decide) hw) ?_
    | with_reducible refine State.modPf_still _ _ ?_
    | with_reducible refine State.flushLate_still _ (Wr.sub (by decide) hw) ?_
    | with_reducible apply Still.whenIf
    | with_reducible apply Still.each
    | fail_if_no_progress with_reducible apply Still.upd
    | split
    | (with_reducible apply Still.upd); split

def State.finishReset_writes : Nat :=
    0x1ffffffffffffffffffffd980003f1fffff1ffbf6fffffffff3fffffffffff93cfbfffffffffffffffffffffffffffffffffffffffffffffff3fffffffffc0ffff4203f0000003fc0003ffffff
theorem State.finishReset_still {F : Fld} {I V : Nat} (s : State) (hw : State.finishReset_writes.testBit F.ctorIdx = false)
    (h : Still F I V s) :
    Still F I V (State.finishReset s) := by
  unfold State.finishReset
  repeat' first
    | with_reducible assumption
    | intro _
    | with_reducible refine State.afterReset_still _ (Wr.sub (by decide) hw) ?_
    | with_reducible refine State.dieReset_still _ (Wr.sub (by decide) hw) ?_
    | split
    | (with_reducible apply Still.upd); split

def execResetEnd_writes : Nat :=
    0x1ffffffffffffffffffffd980003f1fffff1ffbf6fffffffff3fffffffffff93cfbfffffffffffffffffffffffffffffffffffffffffffffff3fffffffffc0ffff4203f0000003fc0003ffffff
theorem execResetEnd_still {F : Fld} {I V : Nat} (s : State) (hw : execResetEnd_writes.testBit F.ctorIdx = false) (h :
    Still F I V s) :
    StillOut F I V (execResetEnd s) := by
  unfold execResetEnd
  repeat' first
    | with_reducible assumption
    | with_reducible apply StillOut.next
    | with_reducible apply StillOut.ite
    | intro _
    | with_reducible refine State.finishReset_still _ (Wr.sub (by decide) hw) ?_
    | with_reducible apply Still.ite
    | split
    | dsimp only; split

end Sys2Proof.Machine
end

