-- ==== Sys2Proof/Laws/StillDuties.lean ====
section
/-!
SUPPORT. Which register fields the operations of Machine/Duties.lean can write (Laws/Still.lean), as bits by the field's number, and
that they leave every other as it was.
-/
namespace Sys2Proof.Machine

set_option linter.unusedTactic false
set_option linter.unreachableTactic false

theorem State.askReset_still {F : Fld} {I V : Nat} (s : State) (h : Still F I V s) :
    Still F I V (State.askReset s) := by
  unfold State.askReset
  repeat' first
    | with_reducible assumption
    | intro _
    | fail_if_no_progress with_reducible apply Still.upd
    | split
    | (with_reducible apply Still.upd); split

def State.clockFailure_writes : Nat :=
    0x1003a0000000000000000003000000000000000000000000000000000000800000000000000000000000001000000400000000000000000000000000000000000000000000000001000000
theorem State.clockFailure_still {F : Fld} {I V : Nat} (s : State) (hw : State.clockFailure_writes.testBit F.ctorIdx =
    false) (h : Still F I V s) :
    Still F I V (State.clockFailure s) := by
  unfold State.clockFailure
  repeat' first
    | with_reducible assumption
    | intro _
    | with_reducible refine State.askReset_still _ ?_
    | with_reducible refine State.settlePads_still _ (Wr.sub (by decide) hw) ?_
    | fail_if_no_progress with_reducible apply Still.upd
    | split
    | (with_reducible apply Still.upd); split

def State.idle_writes : Nat :=
    0x10181003e08000000000020000034e0000000000000000000106010000000000800000400000000000000000000000082480000801c000000000000000000100000c0000000000000001f00000
theorem State.idle_still {F : Fld} {I V : Nat} (s : State) (hw : State.idle_writes.testBit F.ctorIdx = false) (h : Still F
    I V s) :
    Still F I V (State.idle s) := by
  unfold State.idle
  repeat' first
    | with_reducible assumption
    | intro _
    | with_reducible refine State.runFraction_still _ (Wr.sub (by decide) hw) ?_
    | with_reducible refine State.leaseTick_still _ (Wr.sub (by decide) hw) ?_
    | with_reducible refine State.requestReset_still _ _ (Wr.sub (by decide) hw) ?_
    | with_reducible refine State.closeWindows_still _ (Wr.sub (by decide) hw) ?_
    | with_reducible refine State.loadTick_still _ (Wr.sub (by decide) hw) ?_
    | with_reducible refine State.refreshAge_still _ (Wr.sub (by decide) hw) ?_
    | with_reducible refine State.advanceCounters_still _ (Wr.sub (by decide) hw) ?_
    | with_reducible refine State.edgeTick_still _ ?_
    | with_reducible apply Still.ite
    | fail_if_no_progress with_reducible apply Still.upd
    | split
    | (with_reducible apply Still.upd); split

def State.edgeSwitch_writes : Nat :=
    0x100220000000000000000000000000000000600010000000000000000000000000000000000000000000000000000000000000000000000000000000000000420000000000000000000000
theorem State.edgeSwitch_still {F : Fld} {I V : Nat} (s : State) (hw : State.edgeSwitch_writes.testBit F.ctorIdx = false)
    (h : Still F I V s) :
    Still F I V (State.edgeSwitch s) := by
  unfold State.edgeSwitch
  repeat' first
    | with_reducible assumption
    | intro _
    | with_reducible refine State.setFld_still _ _ _ _ (W := State.edgeSwitch_writes) ?_ hw ?_
    | decide
    | with_reducible refine State.consumeSpare_still _ _ (Wr.sub (by decide) hw) ?_
    | with_reducible refine State.clockEvent_still _ (Wr.sub (by decide) hw) ?_
    | split
    | (with_reducible apply Still.upd); split

def execPllUnlock_writes : Nat :=
    0x10181003a00000000000000000030000000000006400100000000000000000008000004000000000000004000010000004000000000000000000020009080000007f8000000000000001000000
theorem execPllUnlock_still {F : Fld} {I V : Nat} (loop : Nat) (s : State) (hw : execPllUnlock_writes.testBit F.ctorIdx =
    false) (h : Still F I V s) :
    StillOut F I V (execPllUnlock loop s) := by
  unfold execPllUnlock
  repeat' first
    | with_reducible assumption
    | with_reducible apply StillOut.next
    | with_reducible apply StillOut.ite
    | intro _
    | with_reducible refine State.setFld_still _ _ _ _ (W := execPllUnlock_writes) ?_ hw ?_
    | decide
    | unfold lockFld; split <;> decide
    | with_reducible refine State.edgeSwitch_still _ (Wr.sub (by decide) hw) ?_
    | with_reducible refine State.clockFailure_still _ (Wr.sub (by decide) hw) ?_
    | with_reducible refine State.abandonWing_still _ _ (Wr.sub (by decide) hw) ?_
    | with_reducible refine State.askReset_still _ ?_
    | with_reducible apply Still.whenIf
    | with_reducible apply Still.ite
    | split
    | dsimp only; split

def execPllLock_writes : Nat :=
    0x600000000000000000000000000002000000000000000000000000000000000000000000000003d8000000000000000000000
theorem execPllLock_still {F : Fld} {I V : Nat} (loop : Nat) (s : State) (hw : execPllLock_writes.testBit F.ctorIdx =
    false) (h : Still F I V s) :
    StillOut F I V (execPllLock loop s) := by
  unfold execPllLock
  repeat' first
    | with_reducible assumption
    | with_reducible apply StillOut.next
    | with_reducible apply StillOut.ite
    | intro _
    | with_reducible refine State.setFld_still _ _ _ _ (W := execPllLock_writes) ?_ hw ?_
    | decide
    | unfold lockFld; split <;> decide
    | with_reducible refine State.seqFallback_still _ (Wr.sub (by decide) hw) ?_
    | with_reducible refine State.wingLocked_still _ _ (Wr.sub (by decide) hw) ?_
    | with_reducible apply Still.ite
    | split
    | dsimp only; split

def execXinLost_writes : Nat :=
    0x1003a0000000000000000003000000000000000000000000000000000000800000000000000000000000001000000400000000000000000000000000000000804000000000000001000000
theorem execXinLost_still {F : Fld} {I V : Nat} (s : State) (hw : execXinLost_writes.testBit F.ctorIdx = false) (h : Still
    F I V s) :
    StillOut F I V (execXinLost s) := by
  unfold execXinLost
  repeat' first
    | with_reducible assumption
    | with_reducible apply StillOut.next
    | intro _
    | with_reducible refine State.setFld_still _ _ _ _ (W := execXinLost_writes) ?_ hw ?_
    | decide
    | with_reducible refine State.clockFailure_still _ (Wr.sub (by decide) hw) ?_
    | fail_if_no_progress with_reducible apply Still.upd
    | split
    | dsimp only; split

def execRtcSecond_writes : Nat :=
    0x1003a0000000000000000000000004000040000000000000000000000008400000000000000000000000000000000000000000000000001000000000010000000000003800000000000000
theorem execRtcSecond_still {F : Fld} {I V : Nat} (s : State) (hw : execRtcSecond_writes.testBit F.ctorIdx = false) (h :
    Still F I V s) :
    StillOut F I V (execRtcSecond s) := by
  unfold execRtcSecond
  repeat' first
    | with_reducible assumption
    | with_reducible apply StillOut.next
    | with_reducible apply StillOut.ite
    | intro _
    | with_reducible refine State.setFld_still _ _ _ _ (W := execRtcSecond_writes) ?_ hw ?_
    | with_reducible refine State.count_still _ _ _ (W := execRtcSecond_writes) ?_ hw ?_
    | decide
    | with_reducible refine State.saveDue_still _ (Wr.sub (by decide) hw) ?_
    | with_reducible refine State.theftSecond_still _ (Wr.sub (by decide) hw) ?_
    | with_reducible apply Still.whenIf
    | with_reducible apply Still.each
    | with_reducible apply Still.ite
    | fail_if_no_progress with_reducible apply Still.upd
    | split
    | dsimp only; split

def State.loadSet_writes : Nat :=
    0x1ffbffe7ffecfffffc3fffe00007e1f8d40fe34c641a7fdf5c07ff0800000021e60001d0ff8c0000003a7e01fff0000bffc0039818e083800a000e001d7c1dcbffcc03fd1ffe687c0001018f01
theorem State.loadSet_still {F : Fld} {I V : Nat} (s : State) (l : List (Nat × Nat × List Nat)) (hw :
    State.loadSet_writes.testBit F.ctorIdx = false) (h : Still F I V s) :
    Still F I V (State.loadSet s l) := by
  unfold State.loadSet
  repeat' first
    | with_reducible assumption
    | intro _
    | with_reducible refine State.setFld_still _ _ _ _ (W := State.loadSet_writes) ?_ hw ?_
    | decide
    | with_reducible refine State.putEntry_still _ _ _ _ _ _ (Wr.sub (by decide) hw) ?_
    | with_reducible apply Still.each
    | with_reducible apply Still.ite
    | split
    | (with_reducible apply Still.upd); split

def State.loadStored_writes : Nat :=
    0x1ffbffe7ffecfffffc3fffe00007e1f8d40fe34c641a7fdf5c07ff0800000021e60001d0ff8c0000003a7e01fff0000bffc0039818e083800a000e001d7c1dcbffcc03fd1ffe687c0001018f01
theorem State.loadStored_still {F : Fld} {I V : Nat} (s : State) (hw : State.loadStored_writes.testBit F.ctorIdx = false)
    (h : Still F I V s) :
    Still F I V (State.loadStored s) := by
  unfold State.loadStored
  repeat' first
    | with_reducible assumption
    | intro _
    | with_reducible refine State.loadSet_still _ _ (Wr.sub (by decide) hw) ?_
    | with_reducible apply Still.each
    | with_reducible apply Still.ite
    | fail_if_no_progress with_reducible apply Still.upd
    | split
    | (with_reducible apply Still.upd); split

def execLibraryInit_writes : Nat :=
    0x1ffbffe7ffecfffffc3fffe00007e1f8dd8fff7c641a7fdf5c07ff0800000021e60001d0ff8c0000003a7e01fff0000bffc0039818e083800a000e001d7c1dcbffcc03fd1ffe687c0001018f01
theorem execLibraryInit_still {F : Fld} {I V : Nat} (supported : Bool) (nand : Bool) (pageL2 : Nat) (eraseL2 : Nat) (blocks
    : Nat) (dir : List (Nat × Nat × Nat × Nat)) (recs : List (Nat × Nat × Nat × Nat × List Nat)) (finals : List (List Nat))
    (s : State) (hw : execLibraryInit_writes.testBit F.ctorIdx = false) (h : Still F I V s) :
    StillOut F I V (execLibraryInit supported nand pageL2 eraseL2 blocks dir recs finals s) := by
  unfold execLibraryInit
  repeat' first
    | with_reducible assumption
    | with_reducible apply StillOut.next
    | intro _
    | with_reducible refine State.libInit_still _ _ _ _ _ _ _ _ _ (Wr.sub (by decide) hw) ?_
    | with_reducible refine State.copyRepairs_still _ (Wr.sub (by decide) hw) ?_
    | with_reducible refine State.loadStored_still _ (Wr.sub (by decide) hw) ?_
    | with_reducible apply Still.whenIf
    | split
    | dsimp only; split

def State.stallEngine_writes : Nat :=
    0x10181003a0000000000000000003000000000000640218000000200000000000800803403f80000000006c000210000827c0000000000000000002000908000000000000000000000001000000
theorem State.stallEngine_still {F : Fld} {I V : Nat} (s : State) (site : Nat) (hw : State.stallEngine_writes.testBit
    F.ctorIdx = false) (h : Still F I V s) :
    Still F I V (State.stallEngine s site) := by
  unfold State.stallEngine
  repeat' first
    | with_reducible assumption
    | intro _
    | with_reducible refine State.setFld_still _ _ _ _ (W := State.stallEngine_writes) ?_ hw ?_
    | decide
    | unfold substCopy; split <;> decide
    | unfold substRet; split <;> decide
    | with_reducible refine State.engineFault_still _ _ _ (Wr.sub (by decide) hw) ?_
    | with_reducible refine State.setCopy_still _ _ _ _ ?_
    | with_reducible refine State.consumeSpare_still _ _ (Wr.sub (by decide) hw) ?_
    | with_reducible refine State.recordRepair_still _ _ _ _ _ (Wr.sub (by decide) hw) ?_
    | with_reducible refine State.reserveGone_still _ _ (Wr.sub (by decide) hw) ?_
    | with_reducible apply Still.whenIf
    | with_reducible apply Still.ite
    | split
    | (with_reducible apply Still.upd); split

def State.stallCore_writes : Nat :=
    0x100000000000000000000000000000000000000000000000000000000000000000000000000000000000000000000000000000000000000000000000000000000000000000000000000000
theorem State.stallCore_still {F : Fld} {I V : Nat} (s : State) (c : Nat) (hw : State.stallCore_writes.testBit F.ctorIdx =
    false) (h : Still F I V s) :
    Still F I V (State.stallCore s c) := by
  unfold State.stallCore
  repeat' first
    | with_reducible assumption
    | intro _
    | with_reducible refine State.raiseCore_still _ _ _ (Wr.sub (by decide) hw) ?_
    | fail_if_no_progress with_reducible apply Still.upd
    | split
    | (with_reducible apply Still.upd); split

def State.stallVoter_writes : Nat :=
    0x10181003e0800000000002000003000000000000640218001006c70000000000800000400000000000000400001000000480000000000000000002000908000000000000000000000001000000
theorem State.stallVoter_still {F : Fld} {I V : Nat} (s : State) (v : Nat) (hw : State.stallVoter_writes.testBit F.ctorIdx
    = false) (h : Still F I V s) :
    Still F I V (State.stallVoter s v) := by
  unfold State.stallVoter
  repeat' first
    | with_reducible assumption
    | intro _
    | with_reducible refine State.passLost_still _ _ _ (Wr.sub (by decide) hw) ?_
    | with_reducible refine State.retireVoter_still _ _ _ (Wr.sub (by decide) hw) ?_
    | with_reducible apply Still.each
    | with_reducible apply Still.ite
    | split
    | (with_reducible apply Still.upd); split

def State.stallIsland_writes : Nat :=
    0x10181003e0800000000002000003000000000000640278001006e70000000000800803403f80000000006c000210000827c0000000000000000002001918000000000000000000000001000300
theorem State.stallIsland_still {F : Fld} {I V : Nat} (s : State) (i : Nat) (hw : State.stallIsland_writes.testBit
    F.ctorIdx = false) (h : Still F I V s) :
    Still F I V (State.stallIsland s i) := by
  unfold State.stallIsland
  repeat' first
    | with_reducible assumption
    | intro _
    | with_reducible refine State.stallEngine_still _ _ (Wr.sub (by decide) hw) ?_
    | with_reducible refine State.stallCore_still _ _ (Wr.sub (by decide) hw) ?_
    | with_reducible refine State.stallSlice_still _ _ (Wr.sub (by decide) hw) ?_
    | with_reducible refine State.portFault_still _ _ _ _ (Wr.sub (by decide) hw) ?_
    | with_reducible refine State.advanceEpoch_still _ _ _ (Wr.sub (by decide) hw) ?_
    | with_reducible refine State.retireBank_still _ _ (Wr.sub (by decide) hw) ?_
    | with_reducible refine State.stallVoter_still _ _ (Wr.sub (by decide) hw) ?_
    | with_reducible refine State.retireRoot_still _ _ (Wr.sub (by decide) hw) ?_
    | with_reducible apply Still.ite
    | fail_if_no_progress with_reducible apply Still.upd
    | split
    | (with_reducible apply Still.upd); split

def execHandshakeStall_writes : Nat :=
    0x10181003e0800000000002000003000000000000640278001007ff0000000000800803403f80000000006c000210000827c0000000000000000002001918000000000000000000000003000300
theorem execHandshakeStall_still {F : Fld} {I V : Nat} (silent : Nat) (other : Nat) (receiver : Bool) (cmdPort : Option
    Nat) (s : State) (hw : execHandshakeStall_writes.testBit F.ctorIdx = false) (h : Still F I V s) :
    StillOut F I V (execHandshakeStall silent other receiver cmdPort s) := by
  unfold execHandshakeStall
  repeat' first
    | with_reducible assumption
    | with_reducible apply StillOut.next
    | with_reducible apply StillOut.ite
    | intro _
    | with_reducible refine State.count_still _ _ _ (W := execHandshakeStall_writes) ?_ hw ?_
    | decide
    | with_reducible refine State.event_still _ _ _ _ _ (Wr.sub (by decide) hw) ?_
    | with_reducible refine State.linkFault_still _ _ (Wr.sub (by decide) hw) ?_
    | with_reducible refine State.stallIsland_still _ _ (Wr.sub (by decide) hw) ?_
    | with_reducible refine State.portFault_still _ _ _ _ (Wr.sub (by decide) hw) ?_
    | with_reducible apply Still.whenIf
    | with_reducible apply Still.ite
    | split
    | dsimp only; split

end Sys2Proof.Machine
end

