-- ==== Sys2Proof/Machine/BallStates.lean ====
section
/-!
DEFINITION. What stands at each ball (02 R55, R59, R63 to R65, Table 2-8; 21 R515): a view of State that no command writes.
-/
namespace Sys2Proof.Machine

/-- What a ball does: nothing, its internal pull, a level that its drivers hold (both of a dual ball alike, 02 R59), an input, an
analog ball as configured, the signal of its unit, or the level of its boundary cell. -/
inductive BallDrive where
  | highZ
  | pull (high : Bool)
  | driven (high : Bool)
  | input
  | analog
  | unit
  | cell
  deriving DecidableEq, Repr

/-- The rows of Table 2-8, with what each numbers. -/
inductive Ball where
  /-- GHm and GLm, or PULSEm and ENm. -/
  | gate (m : Nat) (second : Bool)
  | flt (m : Nat)
  | rdy (m : Nat)
  | ain (k : Nat)
  | wcin (c : Nat)
  /-- VREFP, REFGND and REFCAP. -/
  | reference
  | md (n : Nat)
  | mclk (j : Nat)
  | modPwr
  /-- SGMII of ports 0 and 1, and the PEER pairs, port 4. -/
  | pairs (port : Nat)
  | mdc
  | mdio
  | canTx (port : Nat)
  | canRx (port : Nat)
  | xspiCs
  | xspiRstn
  | xspiCk
  | xspiData
  | syncIn
  | syncOut
  | ppsOut
  | tckTrstn
  | tmsTdi
  | tdo
  | rstn
  | bootsel
  /-- TAMP0, TAMP1 and the other inputs of the Caretaker. -/
  | caretaker
  /-- SPR_A, SPR_B, SEAL_IN and CFGSW. -/
  | prefectIn
  | tp (ch : Nat)
  | sprOut
  | sealOut
  deriving DecidableEq, Repr

/-- The bank of a ball (02 Table 2-4); none where the ball follows VANA, the Caretaker rail or VPF (02 R54). -/
def Ball.bank : Ball → Option Nat
  | .gate _ _ | .flt _ | .rdy _ => some 1
  | .md _ | .mclk _ => some 2
  | .mdc | .mdio | .canTx _ | .canRx _ | .syncIn | .syncOut | .ppsOut | .tckTrstn | .tmsTdi | .tdo | .rstn | .bootsel => some 3
  | .xspiCs | .xspiRstn | .xspiCk | .xspiData => some 4
  | _ => none

/-- Table 2-8, the bank present and VCORE absent. -/
def Ball.coldDrive : Ball → BallDrive
  | .gate _ _ | .flt _ | .rdy _ | .md _ | .mclk _ | .mdc | .xspiCk | .xspiData | .syncIn | .syncOut | .ppsOut | .tckTrstn
  | .bootsel => .pull false
  | .mdio | .canTx _ | .canRx _ | .xspiCs | .xspiRstn | .tmsTdi | .rstn => .pull true
  | _ => .highZ

/-- Table 2-8, in a whole-die reset. -/
def Ball.resetDrive : Ball → BallDrive
  | .gate _ _ | .mdc | .xspiCk | .syncOut | .ppsOut => .driven false
  | .flt _ | .rdy _ | .md _ | .mclk _ | .xspiData | .syncIn | .tckTrstn => .pull false
  | .mdio | .canRx _ | .tmsTdi => .pull true
  | .canTx _ | .xspiCs | .xspiRstn => .driven true
  | .reference => .analog
  | .rstn | .bootsel => .input
  | _ => .highZ

/-- Only observed in EXTEST (21 R515), or no output. -/
def Ball.cellDriven : Ball → Bool
  | .mclk _ | .pairs _ | .mdc | .mdio | .canTx _ | .xspiCs | .xspiCk | .xspiData | .syncOut | .ppsOut => true
  | _ => false

/-- Table 2-8, after reset and in the safe conditions; the pads of a module stand where the gate interface puts them. -/
def State.runDrive (s : State) (b : Ball) : BallDrive :=
  match b with
  | .gate m second => .driven (if second then (s.padsOf m).2 else (s.padsOf m).1)
  | .ain _ | .wcin _ | .reference => .analog
  | .mclk j => if s.fld .MOD_CLK_MODE j = 1 then .unit else .input
  | .pairs p => if s.portOn p then .unit else .highZ
  | .mdc => if s.bit .PORT_EN_EN 0 0 || s.bit .PORT_EN_EN 0 1 then .unit else .driven false
  | .mdio => if s.ports.mdio.isSome then .unit else .pull true
  | .canTx p => if s.portOn p then .unit else .driven true
  | .xspiCs | .xspiCk | .xspiData => .unit
  | .xspiRstn => .driven true
  | .syncOut =>
    if s.flag .CLK_SYNC_OUTEN && !s.flag .CLK_SYNC_OUTSRC then .unit
    else .driven (s.clk.syncOutAt.any (fun t => t ≤ s.tb && s.tb < t + 16))
  | .ppsOut => .driven s.clk.ppsOut
  | .tdo => .unit
  | _ => .input

/-- The Caretaker's and the Prefect's balls, which follow no bank, VCORE or reset (02 R63). A theft window switches MOD_PWR on; the
Prefect drives its outputs while VPF is good. -/
def State.ownDrive (s : State) (b : Ball) : Option BallDrive :=
  match b with
  | .modPwr => some (if s.bur.window then .driven true else .highZ)
  | .caretaker | .prefectIn => some .input
  | .tp ch => some (if s.pfRuns then .driven (!s.pf.tpLow.testBit ch) else .highZ)
  | .sprOut => some (if s.pfRuns then .driven s.pf.sprOut else .pull false)
  | .sealOut => some (if s.pfRuns then .driven (Sys2Proof.Machine.sealOut s.sealPlace) else .highZ)
  | _ => none

/-- What stands at a ball (02 R55, R63, Table 2-8). The Prefect's force keeps the gate outputs low in every column in which VIO1 is
present (02 R64); XSPI_RSTN goes low only for the pulses of the Library's own command (02 R65). -/
def State.ballDrive (s : State) (b : Ball) : BallDrive :=
  match s.ownDrive b with
  | some d => d
  | none =>
    if (b.bank).any (fun k => !s.bankOn k) then .highZ
    else match b with
    | .gate _ _ =>
      if s.forced then .driven false
      else if !s.ct.powerGood then b.coldDrive
      else if s.rst.phase != .none then b.resetDrive
      else s.runDrive b
    | _ =>
      if !s.ct.powerGood then b.coldDrive
      else if s.tut.extest && s.bankOn 3 && b.cellDriven then .cell
      else if s.rst.phase != .none then b.resetDrive
      else s.runDrive b

end Sys2Proof.Machine
end

