-- ==== Sys2Proof/WellFormed.lean ====
section
/-!
DEFINITION. When a command is well formed: every operand lies in the range that the command's rule gives it. An ill-formed
command is one that no sender of the block can send.
-/
namespace Sys2Proof

/-- A Tutor core (01 Table 1-2). -/
def isCore (c : Nat) : Bool := c < 4
/-- A PWM module (08). -/
def isPm (m : Nat) : Bool := m < 24
/-- A SAR slot (05). -/
def isSlot (k : Nat) : Bool := k < 16
/-- A modulator channel (06). -/
def isMd (n : Nat) : Bool := n < 24
/-- A window comparator (07). -/
def isComp (c : Nat) : Bool := c < 48
/-- A Lesson engine (10). -/
def isEng (n : Nat) : Bool := n < 12
/-- A register of a Lesson engine (10 R249). -/
def isReg (r : Nat) : Bool := r < 32
/-- A word index of an engine's data area (10 R251). -/
def isAddr (a : Nat) : Bool := a < 2 ^ 13
/-- A 32-bit word. -/
def is32 (v : Nat) : Bool := v < 2 ^ 32
/-- What the debug module can be asked (21 R516): addresses and values of 32 bits, widths of 1, 2 and 4 bytes, registers 0 to
0x103F, and 8 words of program buffer. -/
def dmiWf : DmiOp → Bool
  | .status | .resume => true
  | .load a w => is32 a && [1, 2, 4].contains w
  | .store a w v => is32 a && [1, 2, 4].contains w && is32 v
  | .fetch a => is32 a && a % 4 == 0
  | .readReg n => n < 0x1040
  | .writeReg n v => n < 0x1040 && is32 v
  | .readBuf k => k < 8
  | .writeBuf k v => k < 8 && is32 v
/-- A 64-bit count. -/
def is64 (v : Nat) : Bool := v < 2 ^ 64
/-- A period of a modulator clock: edges in their order, and for four channels the levels at 16 delays (06 R148). -/
def mdClockWf (k : MdClock) : Bool :=
  is64 k.rise && is64 k.fall && k.atRise.length == 4 && k.atFall.length == 4
    && (k.atRise ++ k.atFall).all (fun v => v < 2 ^ 16)
/-- Bytes. -/
def areBytes (l : List Nat) : Bool := l.all (fun b => b < 256)
/-- A mask of the 24 modules. -/
def isMask (v : Nat) : Bool := v < 2 ^ 24
/-- A metering point (13). -/
def isPoint (q : Nat) : Bool := q < 8
/-- A channel of the Prefect (18). -/
def isChan (ch : Nat) : Bool := ch < 2
/-- A hardware ring (19). -/
def isRing (q : Nat) : Bool := q < 16
/-- A function group (20 Table 20-6). -/
def isGroup (g : Nat) : Bool := 1 ≤ g && g < 14
/-- An initiator of a dictionary request: a core, or 0x40 plus a port. -/
def isInit (i : Nat) : Bool := i < 4 || (0x40 ≤ i && i < 0x44)
/-- An island number (01 Table 1-8, Table 1-13). -/
def isIsland (i : Nat) : Bool := i < 60 || (64 ≤ i && i < 93)

/-- The command's operands lie in their ranges. -/
def Instr.wf : Instr → Bool
  | .powerOn => true
  | .rstnLow => true
  | .softwareResetRequest => true
  | .vcoreDroop _ => true
  | .resetPhaseAdvance mask bootsel => mask < 64 && bootsel < 4
  | .resetEnd => true
  | .pllRetryReset => true
  | .handshakeStall silent other _ cmdPort => isIsland silent && isIsland other && cmdPort.all (fun p => p < 5)
  | .sampleWordOffer result reason source ts _ _ _ => result < 2 ^ 18 && reason < 8 && source < 256 && is32 ts
  | .bellCopyDivergence root => root < 2
  | .bellReqApply core group => isCore core && group < 256
  | .bellReqJointApply core mask _ => isCore core && mask < 2 ^ 16
  | .bellReqLatch core points => isCore core && points < 256
  | .bellReqBarrier core ident => isCore core && ident < 256
  | .bellAlone => true
  | .barrierComplete => true
  | .barrierTimeout missing => is64 missing
  | .periodBell => true
  | .headEvent m _ => isPm m
  | .lessonFallback => true
  | .openBallTest ball _ => ball.sig < 16
  | .supplyBallOpen group amps => (match group with
    | .large k => k < 8
    | .pair k => k < 9) && amps.all is32
  | .ioBankChange bank code => 1 ≤ bank && bank < 5 && code < 4
  | .mainSupplyGood => true
  | .vanaFail => true
  | .vpfGood => true
  | .vpfFail => true
  | .caretakerStart => true
  | .caretakerStop => true
  | .storeFault => true
  | .pwrSwWrite core _ _ _ _ => isCore core
  | .wingPowerGood _ => true
  | .switchOvercurrent pd => (pd == 1 || pd == 2 || pd == 3 || pd == 5 || pd == 6)
  | .harvestStateChange _ _ => true
  | .cellPathOn => true
  | .cellPathOff => true
  | .cellRemoved => true
  | .cellInserted => true
  | .storeCeilingReached => true
  | .storeCapMeasured _ => true
  | .pwrCellWrite core on off low ilim => isCore core && on < 256 && off < 256 && low < 256 && ilim < 4
  | .gaugeSample vstore vcell _ => vstore < 2 ^ 12 && vcell < 2 ^ 12
  | .admissionRequest classes _ => classes.all (fun n => n < 8)
  | .burstComplete => true
  | .caretakerTakePort => true
  | .caretakerReleasePort => true
  | .vanaGood => true
  | .pllLock loop => loop < 6
  | .pllUnlock loop => loop < 6
  | .clkEnWrite core _ _ => isCore core
  | .xinLost => true
  | .tbLoRead core => isCore core
  | .ppsPulse => true
  | .ppsPulseEnd => true
  | .phaseStep => true
  | .syncInEdge cycle => cycle < 4
  | .syncMissed => true
  | .syncOutPulse => true
  | .rcTrim => true
  | .rtcCrystalStop => true
  | .rtcCrystalStart => true
  | .rtcSecond => true
  | .rtcSecWrite core lo => isCore core && is32 lo
  | .rtcSubRead core => isCore core
  | .sarBurstStart k => isSlot k
  | .sarSwtrigWrite core mask => isCore core && mask < 2 ^ 16
  | .sarFreeRunTrigger k => isSlot k
  | .sarConversionComplete k _ _ h => isSlot k && 0 < h.vref && is64 h.instant
  | .sarInjWrite core k input ext => isCore core && isSlot k && input < 4 && ext < 64
  | .refReadySet => true
  | .foregroundCalComplete => true
  | .backgroundStepStart => true
  | .substEntryOpportunity => true
  | .sliceCalComplete slice _ _ _ => slice < 17
  | .substExitOpportunity => true
  | .vrefpOutOfRange => true
  | .modClockLost loss => (match loss with
    | .stopped j => j < 6
    | .fast j _ => j < 6)
  | .modDataLost run => run.pin < 6 && run.clocks.all mdClockWf
  | .modLossEnd j clocks => j < 6 && clocks.all mdClockWf
  | .modDecimation j before last => j < 6 && before.all mdClockWf && mdClockWf last
  | .modFdlyWrite core n fdly => isCore core && isMd n && fdly < 2 ^ 10
  | .guardTripAssert j clocks => j < 6 && clocks.all mdClockWf
  | .guardSettleClear j clocks => j < 6 && clocks.all mdClockWf
  | .modGuardClr core n _ => isCore core && isMd n
  | .comparatorLatchSet c _ => isComp c
  | .lebBlankingEnd c _ => isComp c
  | .wcClrWrite core c _ => isCore core && isComp c
  | .comparatorInitialClear c _ => isComp c
  | .wcThrWrite core c lo hi => isCore core && isComp c && lo < 2 ^ 12 && hi < 2 ^ 12
  | .tripGroupFirstAssert g => g < 8
  | .pwmZeroEvent m wcin => isPm m && wcin.all (fun e => isComp e.1)
  | .pwmPeriodEvent m wcin => isPm m && wcin.all (fun e => isComp e.1)
  | .pwmTriggerCompare m which _ => isPm m && which < 2
  | .pwmCompareMatch m _ _ => isPm m
  | .turnOnDelayExpiry m _ => isPm m
  | .pwmShadowLowWrite core m w value => isCore core && isPm m && w < 3 && is32 value
  | .pwmShadowHighWrite core m w value => isCore core && isPm m && w < 3 && is32 value
  | .stagedMove => true
  | .delayLineLock => true
  | .delayLineLost => true
  | .safeLevelResumeCheck m => isPm m
  | .pwmOutenWrite core m _ => isCore core && isPm m
  | .pwmCntEnWrite core m _ => isCore core && isPm m
  | .pwmArmWrite core m _ => isCore core && isPm m
  | .pwmGstartWrite core mask => isCore core && isMask mask
  | .groupStartExecute => true
  | .pwmTimedStart m => isPm m
  | .pwmLinkPulse m => isPm m
  | .pwmIntWrite core m isel presc _ _ => isCore core && isPm m && isel < 8 && presc < 16
  | .fltQualified mask ended => isMask mask && isMask ended
  | .fltBlankingEnd mask => isMask mask
  | .rdyLost m => isPm m
  | .shootThrough m => isPm m
  | .giSwtrigWrite core trig => isCore core && trig < 4
  | .sequencerGapEnd k => k < 12
  | .refreshInsert m => isPm m
  | .refreshPhaseEnd m => isPm m
  | .fltQualifiedHigh m => isPm m
  | .rdyQualifiedHigh m => isPm m
  | .lessonRunStart n => isEng n
  | .nop n => isEng n
  | .ldk n rd imm => isEng n && is32 imm && isReg rd
  | .ld n rd addr _ => isEng n && isReg rd && isAddr addr
  | .st n ra addr _ => isEng n && isReg ra && isAddr addr
  | .lds n rd ra mod => isEng n && mod < 16 && isReg rd && isReg ra
  | .wait n ra rb d => isEng n && d < 2 ^ 20 && isReg ra && isReg rb
  | .waitDeadline n => isEng n
  | .inj n slot input ext => isEng n && isSlot slot && input < 4 && ext < 64
  | .stpc n m ra rb => isEng n && isPm m && isReg ra && isReg rb
  | .stpd n m ra rb => isEng n && isPm m && isReg ra && isReg rb
  | .stpp n m ra rb rc => isEng n && isPm m && isReg ra && isReg rb && isReg rc
  | .stpe n m ra rb => isEng n && isPm m && isReg ra && isReg rb
  | .add n rd ra rb => isEng n && isReg rd && isReg ra && isReg rb
  | .sub n rd ra rb => isEng n && isReg rd && isReg ra && isReg rb
  | .mul n rd ra rb => isEng n && isReg rd && isReg ra && isReg rb
  | .mac n rd ra rb rc => isEng n && isReg rd && isReg ra && isReg rb && isReg rc
  | .div n rd ra rb => isEng n && isReg rd && isReg ra && isReg rb
  | .sqrt n rd ra => isEng n && isReg rd && isReg ra
  | .abs n rd ra => isEng n && isReg rd && isReg ra
  | .sincos n rd ra => isEng n && isReg rd && isReg ra
  | .pi n rd ra rb addr => isEng n && isReg rd && isReg ra && isReg rb && isAddr addr
  | .pr n rd ra rb addr => isEng n && isReg rd && isReg ra && isReg rb && isAddr addr
  | .biq n rd ra addr => isEng n && isReg rd && isReg ra && isAddr addr
  | .clarke n rd ra rb rc => isEng n && isReg rd && isReg ra && isReg rb && isReg rc
  | .park n rd ra rb rc => isEng n && isReg rd && isReg ra && isReg rb && isReg rc
  | .ipark n rd ra rb rc => isEng n && isReg rd && isReg ra && isReg rb && isReg rc
  | .sogi n rd ra rb addr => isEng n && isReg rd && isReg ra && isReg rb && isAddr addr
  | .ddsrf n rd ra rb rc addr => isEng n && isReg rd && isReg ra && isReg rb && isReg rc && isAddr addr
  | .pll n rd ra addr => isEng n && isReg rd && isReg ra && isAddr addr
  | .lim n rd ra rb rc => isEng n && isReg rd && isReg ra && isReg rb && isReg rc
  | .rlim n rd ra addr => isEng n && isReg rd && isReg ra && isAddr addr
  | .lut n rd ra addr => isEng n && isReg rd && isReg ra && isAddr addr
  | .cmpf n flag ra rb cond => isEng n && 8 ≤ flag && flag < 16 && cond < 8 && isReg ra && isReg rb
  | .clim n rd ra rb rc mod => isEng n && mod < 3 && isReg rd && isReg ra && isReg rb && isReg rc
  | .prof n rd ra addr => isEng n && isReg rd && isReg ra && isAddr addr
  | .ramp n rd ra rb addr => isEng n && isReg rd && isReg ra && isReg rb && isAddr addr
  | .ferr n ra rb addr => isEng n && isReg ra && isReg rb && isAddr addr
  | .preset n ra rb rc addr => isEng n && isReg ra && isReg rb && isReg rc && isAddr addr
  | .skip n flag _ count => isEng n && flag < 16 && 1 ≤ count && count < 256
  | .evry n flag every phase => isEng n && 8 ≤ flag && flag < 16 && every < 2 ^ 16 && phase < every
  | .evt n ra code _ => isEng n && code < 2 ^ 16 && isReg ra
  | .endRun n => isEng n
  | .engineDataWrite core n offset value => isCore core && n < 14 && offset < 2 ^ 16 && is32 value
  | .engineDataUpdate n offset words => isEng n && offset < 2 ^ 16 && words.all is32
  | .leRetireWrite core n => isCore core && isEng n
  | .substituteCopyComplete _ bad => bad.all (fun i => i < 2 ^ 14)
  | .leSubgoWrite core _ _ => isCore core
  | .substituteSelfTest _ _ => true
  | .heldLowHalfTimeout core => isCore core
  | .gridCommandSync => true
  | .gridCommandRun => true
  | .gridCommandClearTrip => true
  | .islandingDisarm => true
  | .islandingArm => true
  | .islandingClearTrip => true
  | .mpptTraceRequest input => input < 12
  | .bursarPair point phase => phase < 3 && isPoint point
  | .meteringCycleEnd point _ => isPoint point
  | .halfCycleBoundary point => isPoint point
  | .burLatchWrite core mask => isCore core && mask < 256
  | .burSaveNowWrite core => isCore core
  | .bursarRestore => true
  | .theftWindowClock => true
  | .theftWindowEnd samples => samples.all (fun v => v < 16)
  | .theftClrWrite core => isCore core
  | .leaseRenew core => isCore core
  | .leaseExpiry _ => true
  | .voterDisagreement voter _ => voter < 3
  | .standby core _ => isCore core
  | .wake core => isCore core
  | .cold core => isCore core
  | .ready core => isCore core
  | .handover core => isCore core
  | .cancel core => isCore core
  | .release core => isCore core
  | .acquire core => isCore core
  | .coldSelfTestWindow _ _ => true
  | .snapshotWriteComplete => true
  | .takeoverSlotChosen => true
  | .takeoverRestoreComplete => true
  | .hpRearmWrite core mask => isCore core && isMask mask
  | .handoverCopyComplete => true
  | .linkStale _ => true
  | .scrubRead cls _ _ => cls < 8
  | .scrubPassOverdue cls => cls < 8
  | .uncorrectableRead _ memory _ _ => memory < 0x40
  | .satRetWrite core bank _ => isCore core && bank < 16
  | .repLoadWrite core count => isCore core && count < 1024
  | .ageingMeasure slow => slow.length == 86
  | .libraryInit _ _ pageL2 eraseL2 blocks _ _ _ => pageL2 < 16 && eraseL2 < 32 && blocks < 2 ^ 16
  | .libAppendRecord idx => idx < 2 ^ 12
  | .libReadRecord idx _ => idx < 2 ^ 12
  | .libReadNewest idx _ => idx < 2 ^ 12
  | .flashOperationComplete _ => true
  | .recordCommit => true
  | .libraryRefresh => true
  | .wearLevelRelocate => true
  | .bootImageVerify _ => true
  | .identityKeyDerive extracted => extracted.all (fun v => v < 2 ^ 256)
  | .worldViolation initiator addr cause => initiator < 256 && is32 addr && (cause == 1 || cause == 5 || cause == 7)
  | .enrol core => isCore core
  | .transfer core => isCore core
  | .vendorOff core => isCore core
  | .advance core => isCore core
  | .secCommandComplete => true
  | .attestationRequest nonce => areBytes nonce
  | .attestationComplete => true
  | .testPulseStart ch => isChan ch
  | .testPulseEnd ch => isChan ch
  | .testPulseCheck ch _ _ _ => isChan ch
  | .filteredDemand low => isChan low.ch
  | .discrepancyFault ch => isChan ch
  | .readbackFault _ => true
  | .prefectClockCheck _ => true
  | .prefectFaultClear => true
  | .prefectNotice => true
  | .prefectForce => true
  | .prefectReleaseReady => true
  | .pfRelWrite core key => isCore core && key < 2 ^ 16
  | .forceRelease => true
  | .cfgswRead r => r.first < 256 && r.second < 256
  | .cfgswChange r => r.first < 256 && r.second < 256
  | .prefectSetDelivery => true
  | .sealOpened | .sealClosed => true
  | .pfCommitWrite core digest => isCore core && is32 digest
  | .commitArmTimeout => true
  | .commissioningComplete => true
  | .portEnWrite core mask => isCore core && mask < 32
  | .ethFrameReceive p frame _ ts => p < 2 && areBytes frame && is64 ts
  | .canFrameReceive p ident _ _ _ _ _ dlc data _ ts => 2 ≤ p && p < 4 && ident < 2 ^ 29 && dlc < 16 && areBytes data && is64 ts
  | .niujorFrameReceive dst src type payload check ts =>
    dst < 256 && src < 256 && type < 256 && areBytes payload && check.crc < 2 ^ 16 && is64 ts
  | .niujorCycleStart => true
  | .niujorSlot => true
  | .chainBell => true
  | .ethMdioWrite core phyad regad _ data => isCore core && phyad < 32 && regad < 32 && data < 2 ^ 16
  | .mdioFrameComplete data => data < 2 ^ 16
  | .peerTrain core => isCore core
  | .trainingWord marker pos check => marker < 256 && pos < 256 && check < 256
  | .hopPulse => true
  | .trainingEcho _ => true
  | .hopReport _ => true
  | .echoTimeout => true
  | .positionReport pos => pos < 256
  | .trainingTimeout => true
  | .ringCfgWrite core q value => isCore core && is32 value && isRing q
  | .ringHeadWrite core q head => isCore core && is32 head && isRing q
  | .descriptorProcess => true
  | .descriptorComplete q code ts => code < 256 && is64 ts && isRing q
  | .ringHaltClear core q => isCore core && isRing q
  | .captureBufferComplete a => a < 2
  | .cryptoHash => true
  | .cryptoVerify => true
  | .portRestart p => p < 5
  | .ethLinkChange p _ spd _ => p < 2 && spd < 4
  | .canBusOffRecovery p => 2 ≤ p && p < 4
  | .usdoTransfer p client _ => p < 4 && client < 128
  | .usdoSessionTimeout p client => p < 4 && client < 128
  | .idpRead p _ udp _ => p < 2 && udp < 2 ^ 16
  | .idpWrite p _ udp _ payload => p < 2 && udp < 2 ^ 16 && areBytes payload
  | .idpTransferTimeout p _ _ => p < 2
  | .requestForward => true
  | .groupEnter _ init g => isGroup g && isInit init
  | .groupRestart _ init g => isGroup g && isInit init
  | .groupRestore _ init g => isGroup g && isInit init
  | .validationComplete g => isGroup g
  | .jointRestart _ init mask => mask < 2 ^ 16 && isInit init
  | .storeParameters _ init value => is32 value && isInit init
  | .restoreDefaults _ init value => is32 value && isInit init
  | .rollCall _ init => isInit init
  | .descriptionRequest _ init value => is32 value && isInit init
  | .descriptionRead _ init => isInit init
  | .programDownload _ init data => areBytes data && isInit init
  | .imageSlotWrite _ init slot data => slot < 3 && areBytes data && isInit init
  | .seedRequest _ init value => is32 value && isInit init
  | .seedComplete => true
  | .interruptClaim core => isCore core
  | .interruptComplete core src => isCore core && src < 32
  | .machineTimer core => isCore core
  | .tutMtcmplWrite core value => isCore core && is32 value
  | .tutMtcmphWrite core value => isCore core && is32 value
  | .wfi core => isCore core
  | .gatewayRead core _ => isCore core
  | .gatewayWrite core _ => isCore core
  | .gatewayDone core => isCore core
  | .tapReset => true
  | .extest _ => true
  | .idcode => true
  | .samplePreload _ => true
  | .dtmcs => true
  | .dmi hart op => hart < 4 && dmiWf op
  | .bypass => true
  | .debugHalt core => isCore core
  | .lehaltWrite core value => isCore core && value < 64
  | .amoSatchel core addr _ value => isCore core && is32 addr && is32 value
  | .registerWrite core addr value => isCore core && is32 addr && is32 value

end Sys2Proof
end

