-- ==== Sys2Proof/Tests/Slice0.lean ====
section
/-!
SUPPORT. Tests: well-formed and ill-formed commands, small steps with results worked out from spec/, and for every statement
with hypotheses a state and operands that meet them all.
-/
namespace Sys2Proof.Tests
open Sys2Proof Sys2Proof.Machine

set_option Elab.async false
set_option linter.unusedVariables false

theorem test_wellFormed_1 : ([
    .powerOn, .rstnLow, .softwareResetRequest, .vcoreDroop true, .resetPhaseAdvance 0 0, .resetEnd, .pllRetryReset,
    .handshakeStall 0 0 true none, .sampleWordOffer 0 0 0 0 true true true, .bellCopyDivergence 0, .bellReqApply 0
    0, .bellReqJointApply 0 0 true, .bellReqLatch 0 0, .bellReqBarrier 0 0, .bellAlone, .barrierComplete,
    .barrierTimeout 0, .periodBell, .headEvent 0 true, .lessonFallback, .openBallTest ⟨0, true⟩ true,
    .supplyBallOpen (.large 0) [], .ioBankChange 1 0, .mainSupplyGood, .vanaFail, .vpfGood, .vpfFail,
    .caretakerStart, .caretakerStop, .storeFault, .pwrSwWrite 0 true true true true, .wingPowerGood .a,
    .switchOvercurrent 1, .harvestStateChange true true, .cellPathOn, .cellPathOff, .cellRemoved, .cellInserted,
    .storeCeilingReached, .storeCapMeasured 0, .pwrCellWrite 0 0 0 0 0, .gaugeSample 0 0 0, .admissionRequest []
    true, .burstComplete, .caretakerTakePort, .caretakerReleasePort, .vanaGood, .pllLock 0, .pllUnlock 0,
    .clkEnWrite 0 true true, .xinLost, .tbLoRead 0, .ppsPulse, .ppsPulseEnd, .phaseStep, .syncInEdge 0, .syncMissed,
    .syncOutPulse, .rcTrim, .rtcCrystalStop, .rtcCrystalStart, .rtcSecond, .rtcSecWrite 0 0, .rtcSubRead 0,
    .sarBurstStart 0, .sarSwtrigWrite 0 0, .sarFreeRunTrigger 0, .sarConversionComplete 0 0 0 ⟨1, 0⟩, .sarInjWrite 0
    0 0 0, .refReadySet, .foregroundCalComplete, .backgroundStepStart, .substEntryOpportunity, .sliceCalComplete 0 0
    0 true, .substExitOpportunity, .vrefpOutOfRange, .modClockLost (.stopped 0), .modDataLost ⟨0, []⟩, .modLossEnd 0
    [], .modDecimation 0 [] ⟨0, 1, [0, 0, 0, 0], [0, 0, 0, 0]⟩] : List Instr).all Instr.wf = true := by decide +kernel

theorem test_wellFormed_2 : ([
    .modFdlyWrite 0 0 0, .guardTripAssert 0 [], .guardSettleClear 0 [], .modGuardClr 0 0 true, .comparatorLatchSet 0
    0, .lebBlankingEnd 0 0, .wcClrWrite 0 0 0, .comparatorInitialClear 0 0, .wcThrWrite 0 0 0 0,
    .tripGroupFirstAssert 0, .pwmZeroEvent 0 [], .pwmPeriodEvent 0 [], .pwmTriggerCompare 0 0 true, .pwmCompareMatch
    0 true true, .turnOnDelayExpiry 0 true, .pwmShadowLowWrite 0 0 0 0, .pwmShadowHighWrite 0 0 0 0, .stagedMove,
    .delayLineLock, .delayLineLost, .safeLevelResumeCheck 0, .pwmOutenWrite 0 0 true, .pwmCntEnWrite 0 0 true,
    .pwmArmWrite 0 0 true, .pwmGstartWrite 0 0, .groupStartExecute, .pwmTimedStart 0, .pwmLinkPulse 0, .pwmIntWrite
    0 0 0 0 true true, .fltQualified 0 0, .fltBlankingEnd 0, .rdyLost 0, .shootThrough 0, .giSwtrigWrite 0 0,
    .sequencerGapEnd 0, .refreshInsert 0, .refreshPhaseEnd 0, .fltQualifiedHigh 0, .rdyQualifiedHigh 0,
    .lessonRunStart 0, .nop 0, .ldk 0 0 0, .ld 0 0 0 true, .st 0 0 0 true, .lds 0 0 0 0, .wait 0 0 0 0,
    .waitDeadline 0, .inj 0 0 0 0, .stpc 0 0 0 0, .stpd 0 0 0 0, .stpp 0 0 0 0 0, .stpe 0 0 0 0, .add 0 0 0 0, .sub
    0 0 0 0, .mul 0 0 0 0, .mac 0 0 0 0 0, .div 0 0 0 0, .sqrt 0 0 0, .abs 0 0 0, .sincos 0 0 0, .pi 0 0 0 0 0, .pr
    0 0 0 0 0, .biq 0 0 0 0, .clarke 0 0 0 0 0, .park 0 0 0 0 0, .ipark 0 0 0 0 0, .sogi 0 0 0 0 0, .ddsrf 0 0 0 0 0
    0, .pll 0 0 0 0, .lim 0 0 0 0 0, .rlim 0 0 0 0, .lut 0 0 0 0, .cmpf 0 8 0 0 0, .clim 0 0 0 0 0 0, .prof 0 0 0 0,
    .ramp 0 0 0 0 0, .ferr 0 0 0 0, .preset 0 0 0 0 0, .skip 0 0 true 1, .evry 0 8 1 0] : List Instr).all Instr.wf = true := by decide +kernel

theorem test_wellFormed_3 : ([
    .evt 0 0 0 true, .endRun 0, .engineDataWrite 0 0 0 0, .engineDataUpdate 0 0 [], .leRetireWrite 0 0,
    .substituteCopyComplete .a [], .leSubgoWrite 0 true true, .substituteSelfTest .a true, .heldLowHalfTimeout 0,
    .gridCommandSync, .gridCommandRun, .gridCommandClearTrip, .islandingDisarm, .islandingArm, .islandingClearTrip,
    .mpptTraceRequest 0, .bursarPair 0 0, .meteringCycleEnd 0 0, .halfCycleBoundary 0, .burLatchWrite 0 0,
    .burSaveNowWrite 0, .bursarRestore, .theftWindowClock, .theftWindowEnd [], .theftClrWrite 0, .leaseRenew 0,
    .leaseExpiry .a, .voterDisagreement 0 .a, .standby 0 true, .wake 0, .cold 0, .ready 0, .handover 0, .cancel 0,
    .release 0, .acquire 0, .coldSelfTestWindow .a true, .snapshotWriteComplete, .takeoverSlotChosen,
    .takeoverRestoreComplete, .hpRearmWrite 0 0, .handoverCopyComplete, .linkStale .a, .scrubRead 0 0 true,
    .scrubPassOverdue 0, .uncorrectableRead (.fetch 0) 0 0 0, .satRetWrite 0 0 true, .repLoadWrite 0 0,
    .ageingMeasure (List.replicate 86 0), .libraryInit true true 0 0 0 [] [] [], .libAppendRecord 0, .libReadRecord
    0 [], .libReadNewest 0 [], .flashOperationComplete true, .recordCommit, .libraryRefresh, .wearLevelRelocate,
    .bootImageVerify .a, .identityKeyDerive none, .worldViolation 0 0 1, .enrol 0, .transfer 0, .vendorOff 0,
    .advance 0, .secCommandComplete, .attestationRequest [], .attestationComplete, .testPulseStart 0, .testPulseEnd
    0, .testPulseCheck 0 ⟨true, true⟩ ⟨true, true⟩ ⟨true, true⟩, .filteredDemand ⟨0, ⟨true, true⟩⟩,
    .discrepancyFault 0, .readbackFault ⟨true, true⟩, .prefectClockCheck 0, .prefectFaultClear, .prefectNotice,
    .prefectForce, .prefectReleaseReady, .pfRelWrite 0 0, .forceRelease] : List Instr).all Instr.wf = true := by decide +kernel

theorem test_wellFormed_4 : ([
    .cfgswRead ⟨0, 0⟩, .cfgswChange ⟨0, 0⟩, .prefectSetDelivery, .sealOpened, .sealClosed, .pfCommitWrite 0 0,
    .commitArmTimeout, .commissioningComplete, .portEnWrite 0 0, .ethFrameReceive 0 [] true 0, .canFrameReceive 2 0
    false false false true true 0 [] true 0, .niujorFrameReceive 0 0 0 [] ⟨0, true⟩ 0, .niujorCycleStart,
    .niujorSlot, .chainBell, .ethMdioWrite 0 0 0 true 0, .mdioFrameComplete 0, .peerTrain 0, .trainingWord 0 0 0,
    .hopPulse, .trainingEcho 0, .hopReport 0, .echoTimeout, .positionReport 0, .trainingTimeout, .ringCfgWrite 0 0
    0, .ringHeadWrite 0 0 0, .descriptorProcess, .descriptorComplete 0 0 0, .ringHaltClear 0 0,
    .captureBufferComplete 0, .cryptoHash, .cryptoVerify, .portRestart 0, .ethLinkChange 0 true 0 true,
    .canBusOffRecovery 2, .usdoTransfer 0 0 (.read 0 0 0), .usdoSessionTimeout 0 0, .idpRead 0 0 0 ⟨0, 0, 0, 0, 0,
    0, 0, 0, 0⟩, .idpWrite 0 0 0 ⟨0, 0, 0, 0, 0, 0, 0, 0, 0⟩ [], .idpTransferTimeout 0 0 0, .requestForward,
    .groupEnter .a 0 1, .groupRestart .a 0 1, .groupRestore .a 0 1, .validationComplete 1, .jointRestart .a 0 0,
    .storeParameters .a 0 0, .restoreDefaults .a 0 0, .rollCall .a 0, .descriptionRequest .a 0 0, .descriptionRead
    .a 0, .programDownload .a 0 [], .imageSlotWrite .a 0 0 [], .seedRequest .a 0 0, .seedComplete, .interruptClaim
    0, .interruptComplete 0 0, .machineTimer 0, .tutMtcmplWrite 0 0, .tutMtcmphWrite 0 0, .wfi 0, .gatewayRead 0
    true, .gatewayWrite 0 true, .gatewayDone 0, .tapReset, .extest 0, .idcode, .samplePreload 0, .dtmcs, .dmi 0
    .resume, .bypass, .debugHalt 0, .lehaltWrite 0 0, .amoSatchel 0 0 .lr 0, .registerWrite 0 0 0] : List Instr).all Instr.wf = true := by decide +kernel

/-- One operand of each is out of its range. -/
theorem test_illFormed_1 : ([
    .resetPhaseAdvance (2 ^ 70) 0, .resetPhaseAdvance 0 (2 ^ 70), .handshakeStall (2 ^ 70) 0 true none,
    .handshakeStall 0 (2 ^ 70) true none, .handshakeStall 0 0 true (some (2 ^ 70)), .sampleWordOffer (2 ^ 70) 0 0 0
    true true true, .sampleWordOffer 0 (2 ^ 70) 0 0 true true true, .sampleWordOffer 0 0 (2 ^ 70) 0 true true true,
    .sampleWordOffer 0 0 0 (2 ^ 70) true true true, .bellCopyDivergence (2 ^ 70), .bellReqApply (2 ^ 70) 0,
    .bellReqApply 0 (2 ^ 70), .bellReqJointApply (2 ^ 70) 0 true, .bellReqJointApply 0 (2 ^ 70) true, .bellReqLatch
    (2 ^ 70) 0, .bellReqLatch 0 (2 ^ 70), .bellReqBarrier (2 ^ 70) 0, .bellReqBarrier 0 (2 ^ 70), .barrierTimeout (2
    ^ 70), .headEvent (2 ^ 70) true, .supplyBallOpen (.large 0) [2 ^ 70], .ioBankChange (2 ^ 70) 0, .ioBankChange 1
    (2 ^ 70), .pwrSwWrite (2 ^ 70) true true true true, .switchOvercurrent (2 ^ 70), .pwrCellWrite (2 ^ 70) 0 0 0 0,
    .pwrCellWrite 0 (2 ^ 70) 0 0 0, .pwrCellWrite 0 0 (2 ^ 70) 0 0, .pwrCellWrite 0 0 0 (2 ^ 70) 0, .pwrCellWrite 0
    0 0 0 (2 ^ 70), .gaugeSample (2 ^ 70) 0 0, .gaugeSample 0 (2 ^ 70) 0, .admissionRequest [2 ^ 70] true, .pllLock
    (2 ^ 70), .pllUnlock (2 ^ 70), .clkEnWrite (2 ^ 70) true true, .tbLoRead (2 ^ 70), .syncInEdge (2 ^ 70),
    .rtcSecWrite (2 ^ 70) 0, .rtcSecWrite 0 (2 ^ 70), .rtcSubRead (2 ^ 70), .sarBurstStart (2 ^ 70), .sarSwtrigWrite
    (2 ^ 70) 0, .sarSwtrigWrite 0 (2 ^ 70), .sarFreeRunTrigger (2 ^ 70), .sarConversionComplete (2 ^ 70) 0 0 ⟨1, 0⟩,
    .sarInjWrite (2 ^ 70) 0 0 0, .sarInjWrite 0 (2 ^ 70) 0 0, .sarInjWrite 0 0 (2 ^ 70) 0, .sarInjWrite 0 0 0 (2 ^
    70), .sliceCalComplete (2 ^ 70) 0 0 true, .modLossEnd (2 ^ 70) [], .modDecimation (2 ^ 70) [] ⟨0, 1, [0, 0, 0,
    0], [0, 0, 0, 0]⟩, .modFdlyWrite (2 ^ 70) 0 0, .modFdlyWrite 0 (2 ^ 70) 0, .modFdlyWrite 0 0 (2 ^ 70),
    .guardTripAssert (2 ^ 70) [], .guardSettleClear (2 ^ 70) [], .modGuardClr (2 ^ 70) 0 true, .modGuardClr 0 (2 ^
    70) true] : List Instr).all (fun c => !c.wf) = true := by decide +kernel

/-- One operand of each is out of its range. -/
theorem test_illFormed_2 : ([
    .comparatorLatchSet (2 ^ 70) 0, .lebBlankingEnd (2 ^ 70) 0, .wcClrWrite (2 ^ 70) 0 0, .wcClrWrite 0 (2 ^ 70) 0,
    .comparatorInitialClear (2 ^ 70) 0, .wcThrWrite (2 ^ 70) 0 0 0, .wcThrWrite 0 (2 ^ 70) 0 0, .wcThrWrite 0 0 (2 ^
    70) 0, .wcThrWrite 0 0 0 (2 ^ 70), .tripGroupFirstAssert (2 ^ 70), .pwmZeroEvent (2 ^ 70) [], .pwmZeroEvent 0
    [(2 ^ 70, 0)], .pwmPeriodEvent (2 ^ 70) [], .pwmPeriodEvent 0 [(2 ^ 70, 0)], .pwmTriggerCompare (2 ^ 70) 0 true,
    .pwmTriggerCompare 0 (2 ^ 70) true, .pwmCompareMatch (2 ^ 70) true true, .turnOnDelayExpiry (2 ^ 70) true,
    .pwmShadowLowWrite (2 ^ 70) 0 0 0, .pwmShadowLowWrite 0 (2 ^ 70) 0 0, .pwmShadowLowWrite 0 0 (2 ^ 70) 0,
    .pwmShadowLowWrite 0 0 0 (2 ^ 70), .pwmShadowHighWrite (2 ^ 70) 0 0 0, .pwmShadowHighWrite 0 (2 ^ 70) 0 0,
    .pwmShadowHighWrite 0 0 (2 ^ 70) 0, .pwmShadowHighWrite 0 0 0 (2 ^ 70), .safeLevelResumeCheck (2 ^ 70),
    .pwmOutenWrite (2 ^ 70) 0 true, .pwmOutenWrite 0 (2 ^ 70) true, .pwmCntEnWrite (2 ^ 70) 0 true, .pwmCntEnWrite 0
    (2 ^ 70) true, .pwmArmWrite (2 ^ 70) 0 true, .pwmArmWrite 0 (2 ^ 70) true, .pwmGstartWrite (2 ^ 70) 0,
    .pwmGstartWrite 0 (2 ^ 70), .pwmTimedStart (2 ^ 70), .pwmLinkPulse (2 ^ 70), .pwmIntWrite (2 ^ 70) 0 0 0 true
    true, .pwmIntWrite 0 (2 ^ 70) 0 0 true true, .pwmIntWrite 0 0 (2 ^ 70) 0 true true, .pwmIntWrite 0 0 0 (2 ^ 70)
    true true, .fltQualified (2 ^ 70) 0, .fltQualified 0 (2 ^ 70), .fltBlankingEnd (2 ^ 70), .rdyLost (2 ^ 70),
    .shootThrough (2 ^ 70), .giSwtrigWrite (2 ^ 70) 0, .giSwtrigWrite 0 (2 ^ 70), .sequencerGapEnd (2 ^ 70),
    .refreshInsert (2 ^ 70), .refreshPhaseEnd (2 ^ 70), .fltQualifiedHigh (2 ^ 70), .rdyQualifiedHigh (2 ^ 70),
    .lessonRunStart (2 ^ 70), .nop (2 ^ 70), .ldk (2 ^ 70) 0 0, .ldk 0 (2 ^ 70) 0, .ldk 0 0 (2 ^ 70), .ld (2 ^ 70) 0
    0 true, .ld 0 (2 ^ 70) 0 true] : List Instr).all (fun c => !c.wf) = true := by decide +kernel

/-- One operand of each is out of its range. -/
theorem test_illFormed_3 : ([
    .ld 0 0 (2 ^ 70) true, .st (2 ^ 70) 0 0 true, .st 0 (2 ^ 70) 0 true, .st 0 0 (2 ^ 70) true, .lds (2 ^ 70) 0 0 0,
    .lds 0 (2 ^ 70) 0 0, .lds 0 0 (2 ^ 70) 0, .lds 0 0 0 (2 ^ 70), .wait (2 ^ 70) 0 0 0, .wait 0 (2 ^ 70) 0 0, .wait
    0 0 (2 ^ 70) 0, .wait 0 0 0 (2 ^ 70), .waitDeadline (2 ^ 70), .inj (2 ^ 70) 0 0 0, .inj 0 (2 ^ 70) 0 0, .inj 0 0
    (2 ^ 70) 0, .inj 0 0 0 (2 ^ 70), .stpc (2 ^ 70) 0 0 0, .stpc 0 (2 ^ 70) 0 0, .stpc 0 0 (2 ^ 70) 0, .stpc 0 0 0
    (2 ^ 70), .stpd (2 ^ 70) 0 0 0, .stpd 0 (2 ^ 70) 0 0, .stpd 0 0 (2 ^ 70) 0, .stpd 0 0 0 (2 ^ 70), .stpp (2 ^ 70)
    0 0 0 0, .stpp 0 (2 ^ 70) 0 0 0, .stpp 0 0 (2 ^ 70) 0 0, .stpp 0 0 0 (2 ^ 70) 0, .stpp 0 0 0 0 (2 ^ 70), .stpe
    (2 ^ 70) 0 0 0, .stpe 0 (2 ^ 70) 0 0, .stpe 0 0 (2 ^ 70) 0, .stpe 0 0 0 (2 ^ 70), .add (2 ^ 70) 0 0 0, .add 0 (2
    ^ 70) 0 0, .add 0 0 (2 ^ 70) 0, .add 0 0 0 (2 ^ 70), .sub (2 ^ 70) 0 0 0, .sub 0 (2 ^ 70) 0 0, .sub 0 0 (2 ^ 70)
    0, .sub 0 0 0 (2 ^ 70), .mul (2 ^ 70) 0 0 0, .mul 0 (2 ^ 70) 0 0, .mul 0 0 (2 ^ 70) 0, .mul 0 0 0 (2 ^ 70), .mac
    (2 ^ 70) 0 0 0 0, .mac 0 (2 ^ 70) 0 0 0, .mac 0 0 (2 ^ 70) 0 0, .mac 0 0 0 (2 ^ 70) 0, .mac 0 0 0 0 (2 ^ 70),
    .div (2 ^ 70) 0 0 0, .div 0 (2 ^ 70) 0 0, .div 0 0 (2 ^ 70) 0, .div 0 0 0 (2 ^ 70), .sqrt (2 ^ 70) 0 0, .sqrt 0
    (2 ^ 70) 0, .sqrt 0 0 (2 ^ 70), .abs (2 ^ 70) 0 0, .abs 0 (2 ^ 70) 0] : List Instr).all (fun c => !c.wf) = true := by decide +kernel

/-- One operand of each is out of its range. -/
theorem test_illFormed_4 : ([
    .abs 0 0 (2 ^ 70), .sincos (2 ^ 70) 0 0, .sincos 0 (2 ^ 70) 0, .sincos 0 0 (2 ^ 70), .pi (2 ^ 70) 0 0 0 0, .pi 0
    (2 ^ 70) 0 0 0, .pi 0 0 (2 ^ 70) 0 0, .pi 0 0 0 (2 ^ 70) 0, .pi 0 0 0 0 (2 ^ 70), .pr (2 ^ 70) 0 0 0 0, .pr 0 (2
    ^ 70) 0 0 0, .pr 0 0 (2 ^ 70) 0 0, .pr 0 0 0 (2 ^ 70) 0, .pr 0 0 0 0 (2 ^ 70), .biq (2 ^ 70) 0 0 0, .biq 0 (2 ^
    70) 0 0, .biq 0 0 (2 ^ 70) 0, .biq 0 0 0 (2 ^ 70), .clarke (2 ^ 70) 0 0 0 0, .clarke 0 (2 ^ 70) 0 0 0, .clarke 0
    0 (2 ^ 70) 0 0, .clarke 0 0 0 (2 ^ 70) 0, .clarke 0 0 0 0 (2 ^ 70), .park (2 ^ 70) 0 0 0 0, .park 0 (2 ^ 70) 0 0
    0, .park 0 0 (2 ^ 70) 0 0, .park 0 0 0 (2 ^ 70) 0, .park 0 0 0 0 (2 ^ 70), .ipark (2 ^ 70) 0 0 0 0, .ipark 0 (2
    ^ 70) 0 0 0, .ipark 0 0 (2 ^ 70) 0 0, .ipark 0 0 0 (2 ^ 70) 0, .ipark 0 0 0 0 (2 ^ 70), .sogi (2 ^ 70) 0 0 0 0,
    .sogi 0 (2 ^ 70) 0 0 0, .sogi 0 0 (2 ^ 70) 0 0, .sogi 0 0 0 (2 ^ 70) 0, .sogi 0 0 0 0 (2 ^ 70), .ddsrf (2 ^ 70)
    0 0 0 0 0, .ddsrf 0 (2 ^ 70) 0 0 0 0, .ddsrf 0 0 (2 ^ 70) 0 0 0, .ddsrf 0 0 0 (2 ^ 70) 0 0, .ddsrf 0 0 0 0 (2 ^
    70) 0, .ddsrf 0 0 0 0 0 (2 ^ 70), .pll (2 ^ 70) 0 0 0, .pll 0 (2 ^ 70) 0 0, .pll 0 0 (2 ^ 70) 0, .pll 0 0 0 (2 ^
    70), .lim (2 ^ 70) 0 0 0 0, .lim 0 (2 ^ 70) 0 0 0, .lim 0 0 (2 ^ 70) 0 0, .lim 0 0 0 (2 ^ 70) 0, .lim 0 0 0 0 (2
    ^ 70), .rlim (2 ^ 70) 0 0 0, .rlim 0 (2 ^ 70) 0 0, .rlim 0 0 (2 ^ 70) 0, .rlim 0 0 0 (2 ^ 70), .lut (2 ^ 70) 0 0
    0, .lut 0 (2 ^ 70) 0 0, .lut 0 0 (2 ^ 70) 0] : List Instr).all (fun c => !c.wf) = true := by decide +kernel

/-- One operand of each is out of its range. -/
theorem test_illFormed_5 : ([
    .lut 0 0 0 (2 ^ 70), .cmpf (2 ^ 70) 8 0 0 0, .cmpf 0 (2 ^ 70) 0 0 0, .cmpf 0 8 (2 ^ 70) 0 0, .cmpf 0 8 0 (2 ^
    70) 0, .cmpf 0 8 0 0 (2 ^ 70), .clim (2 ^ 70) 0 0 0 0 0, .clim 0 (2 ^ 70) 0 0 0 0, .clim 0 0 (2 ^ 70) 0 0 0,
    .clim 0 0 0 (2 ^ 70) 0 0, .clim 0 0 0 0 (2 ^ 70) 0, .clim 0 0 0 0 0 (2 ^ 70), .prof (2 ^ 70) 0 0 0, .prof 0 (2 ^
    70) 0 0, .prof 0 0 (2 ^ 70) 0, .prof 0 0 0 (2 ^ 70), .ramp (2 ^ 70) 0 0 0 0, .ramp 0 (2 ^ 70) 0 0 0, .ramp 0 0
    (2 ^ 70) 0 0, .ramp 0 0 0 (2 ^ 70) 0, .ramp 0 0 0 0 (2 ^ 70), .ferr (2 ^ 70) 0 0 0, .ferr 0 (2 ^ 70) 0 0, .ferr
    0 0 (2 ^ 70) 0, .ferr 0 0 0 (2 ^ 70), .preset (2 ^ 70) 0 0 0 0, .preset 0 (2 ^ 70) 0 0 0, .preset 0 0 (2 ^ 70) 0
    0, .preset 0 0 0 (2 ^ 70) 0, .preset 0 0 0 0 (2 ^ 70), .skip (2 ^ 70) 0 true 1, .skip 0 (2 ^ 70) true 1, .skip 0
    0 true (2 ^ 70), .evry (2 ^ 70) 8 1 0, .evry 0 (2 ^ 70) 1 0, .evry 0 8 (2 ^ 70) 0, .evry 0 8 1 (2 ^ 70), .evt (2
    ^ 70) 0 0 true, .evt 0 (2 ^ 70) 0 true, .evt 0 0 (2 ^ 70) true, .endRun (2 ^ 70), .engineDataWrite (2 ^ 70) 0 0
    0, .engineDataWrite 0 (2 ^ 70) 0 0, .engineDataWrite 0 0 (2 ^ 70) 0, .engineDataWrite 0 0 0 (2 ^ 70),
    .engineDataUpdate (2 ^ 70) 0 [], .engineDataUpdate 0 (2 ^ 70) [], .engineDataUpdate 0 0 [2 ^ 70], .leRetireWrite
    (2 ^ 70) 0, .leRetireWrite 0 (2 ^ 70), .substituteCopyComplete .a [2 ^ 70], .leSubgoWrite (2 ^ 70) true true,
    .heldLowHalfTimeout (2 ^ 70), .mpptTraceRequest (2 ^ 70), .bursarPair (2 ^ 70) 0, .bursarPair 0 (2 ^ 70),
    .meteringCycleEnd (2 ^ 70) 0, .halfCycleBoundary (2 ^ 70), .burLatchWrite (2 ^ 70) 0, .burLatchWrite 0 (2 ^ 70)] : List Instr).all (fun c => !c.wf) = true := by decide +kernel

/-- One operand of each is out of its range. -/
theorem test_illFormed_6 : ([
    .burSaveNowWrite (2 ^ 70), .theftWindowEnd [2 ^ 70], .theftClrWrite (2 ^ 70), .leaseRenew (2 ^ 70),
    .voterDisagreement (2 ^ 70) .a, .standby (2 ^ 70) true, .wake (2 ^ 70), .cold (2 ^ 70), .ready (2 ^ 70),
    .handover (2 ^ 70), .cancel (2 ^ 70), .release (2 ^ 70), .acquire (2 ^ 70), .hpRearmWrite (2 ^ 70) 0,
    .hpRearmWrite 0 (2 ^ 70), .scrubRead (2 ^ 70) 0 true, .scrubPassOverdue (2 ^ 70), .uncorrectableRead (.fetch 0)
    (2 ^ 70) 0 0, .satRetWrite (2 ^ 70) 0 true, .satRetWrite 0 (2 ^ 70) true, .repLoadWrite (2 ^ 70) 0,
    .repLoadWrite 0 (2 ^ 70), .ageingMeasure [2 ^ 70], .libraryInit true true (2 ^ 70) 0 0 [] [] [], .libraryInit
    true true 0 (2 ^ 70) 0 [] [] [], .libraryInit true true 0 0 (2 ^ 70) [] [] [], .libAppendRecord (2 ^ 70),
    .libReadRecord (2 ^ 70) [], .libReadNewest (2 ^ 70) [], .worldViolation (2 ^ 70) 0 1, .worldViolation 0 (2 ^ 70)
    1, .worldViolation 0 0 (2 ^ 70), .enrol (2 ^ 70), .transfer (2 ^ 70), .vendorOff (2 ^ 70), .advance (2 ^ 70),
    .attestationRequest [2 ^ 70], .testPulseStart (2 ^ 70), .testPulseEnd (2 ^ 70), .testPulseCheck (2 ^ 70) ⟨true,
    true⟩ ⟨true, true⟩ ⟨true, true⟩, .discrepancyFault (2 ^ 70), .pfRelWrite (2 ^ 70) 0, .pfRelWrite 0 (2 ^ 70),
    .pfCommitWrite (2 ^ 70) 0, .pfCommitWrite 0 (2 ^ 70), .portEnWrite (2 ^ 70) 0, .portEnWrite 0 (2 ^ 70),
    .ethFrameReceive (2 ^ 70) [] true 0, .ethFrameReceive 0 [2 ^ 70] true 0, .ethFrameReceive 0 [] true (2 ^ 70),
    .canFrameReceive (2 ^ 70) 0 false false false true true 0 [] true 0, .canFrameReceive 2 (2 ^ 70) false false
    false true true 0 [] true 0, .canFrameReceive 2 0 false false false true true (2 ^ 70) [] true 0,
    .canFrameReceive 2 0 false false false true true 0 [2 ^ 70] true 0, .canFrameReceive 2 0 false false false true
    true 0 [] true (2 ^ 70), .niujorFrameReceive (2 ^ 70) 0 0 [] ⟨0, true⟩ 0, .niujorFrameReceive 0 (2 ^ 70) 0 []
    ⟨0, true⟩ 0, .niujorFrameReceive 0 0 (2 ^ 70) [] ⟨0, true⟩ 0, .niujorFrameReceive 0 0 0 [2 ^ 70] ⟨0, true⟩ 0,
    .niujorFrameReceive 0 0 0 [] ⟨0, true⟩ (2 ^ 70)] : List Instr).all (fun c => !c.wf) = true := by decide +kernel

/-- One operand of each is out of its range. -/
theorem test_illFormed_7 : ([
    .ethMdioWrite (2 ^ 70) 0 0 true 0, .ethMdioWrite 0 (2 ^ 70) 0 true 0, .ethMdioWrite 0 0 (2 ^ 70) true 0,
    .ethMdioWrite 0 0 0 true (2 ^ 70), .mdioFrameComplete (2 ^ 70), .peerTrain (2 ^ 70), .trainingWord (2 ^ 70) 0 0,
    .trainingWord 0 (2 ^ 70) 0, .trainingWord 0 0 (2 ^ 70), .positionReport (2 ^ 70), .ringCfgWrite (2 ^ 70) 0 0,
    .ringCfgWrite 0 (2 ^ 70) 0, .ringCfgWrite 0 0 (2 ^ 70), .ringHeadWrite (2 ^ 70) 0 0, .ringHeadWrite 0 (2 ^ 70)
    0, .ringHeadWrite 0 0 (2 ^ 70), .descriptorComplete (2 ^ 70) 0 0, .descriptorComplete 0 (2 ^ 70) 0,
    .descriptorComplete 0 0 (2 ^ 70), .ringHaltClear (2 ^ 70) 0, .ringHaltClear 0 (2 ^ 70), .captureBufferComplete
    (2 ^ 70), .portRestart (2 ^ 70), .ethLinkChange (2 ^ 70) true 0 true, .ethLinkChange 0 true (2 ^ 70) true,
    .canBusOffRecovery (2 ^ 70), .usdoTransfer (2 ^ 70) 0 (.read 0 0 0), .usdoTransfer 0 (2 ^ 70) (.read 0 0 0),
    .usdoSessionTimeout (2 ^ 70) 0, .usdoSessionTimeout 0 (2 ^ 70), .idpRead (2 ^ 70) 0 0 ⟨0, 0, 0, 0, 0, 0, 0, 0,
    0⟩, .idpRead 0 0 (2 ^ 70) ⟨0, 0, 0, 0, 0, 0, 0, 0, 0⟩, .idpWrite (2 ^ 70) 0 0 ⟨0, 0, 0, 0, 0, 0, 0, 0, 0⟩ [],
    .idpWrite 0 0 (2 ^ 70) ⟨0, 0, 0, 0, 0, 0, 0, 0, 0⟩ [], .idpWrite 0 0 0 ⟨0, 0, 0, 0, 0, 0, 0, 0, 0⟩ [2 ^ 70],
    .idpTransferTimeout (2 ^ 70) 0 0, .groupEnter .a (2 ^ 70) 1, .groupEnter .a 0 (2 ^ 70), .groupRestart .a (2 ^
    70) 1, .groupRestart .a 0 (2 ^ 70), .groupRestore .a (2 ^ 70) 1, .groupRestore .a 0 (2 ^ 70),
    .validationComplete (2 ^ 70), .jointRestart .a (2 ^ 70) 0, .jointRestart .a 0 (2 ^ 70), .storeParameters .a (2 ^
    70) 0, .storeParameters .a 0 (2 ^ 70), .restoreDefaults .a (2 ^ 70) 0, .restoreDefaults .a 0 (2 ^ 70), .rollCall
    .a (2 ^ 70), .descriptionRequest .a (2 ^ 70) 0, .descriptionRequest .a 0 (2 ^ 70), .descriptionRead .a (2 ^ 70),
    .programDownload .a (2 ^ 70) [], .programDownload .a 0 [2 ^ 70], .imageSlotWrite .a (2 ^ 70) 0 [],
    .imageSlotWrite .a 0 (2 ^ 70) [], .imageSlotWrite .a 0 0 [2 ^ 70], .seedRequest .a (2 ^ 70) 0, .seedRequest .a 0
    (2 ^ 70)] : List Instr).all (fun c => !c.wf) = true := by decide +kernel

/-- One operand of each is out of its range. -/
theorem test_illFormed_8 : ([
    .interruptClaim (2 ^ 70), .interruptComplete (2 ^ 70) 0, .interruptComplete 0 (2 ^ 70), .machineTimer (2 ^ 70),
    .tutMtcmplWrite (2 ^ 70) 0, .tutMtcmplWrite 0 (2 ^ 70), .tutMtcmphWrite (2 ^ 70) 0, .tutMtcmphWrite 0 (2 ^ 70),
    .wfi (2 ^ 70), .gatewayRead (2 ^ 70) true, .gatewayWrite (2 ^ 70) true, .gatewayDone (2 ^ 70), .dmi (2 ^ 70)
    .resume, .debugHalt (2 ^ 70), .lehaltWrite (2 ^ 70) 0, .lehaltWrite 0 (2 ^ 70), .amoSatchel (2 ^ 70) 0 .lr 0,
    .amoSatchel 0 (2 ^ 70) .lr 0, .amoSatchel 0 0 .lr (2 ^ 70), .registerWrite (2 ^ 70) 0 0, .registerWrite 0 (2 ^
    70) 0, .registerWrite 0 0 (2 ^ 70), .openBallTest ⟨16, true⟩ true, .supplyBallOpen (.large 8) [],
    .supplyBallOpen (.pair 9) [], .sarConversionComplete 0 0 0 ⟨0, 0⟩, .sarConversionComplete 0 0 0 ⟨1, 2 ^ 64⟩,
    .modClockLost (.stopped 6), .modClockLost (.fast 6 0), .modDataLost ⟨6, []⟩, .modDecimation 0 [] ⟨0, 2 ^ 64, [],
    []⟩, .filteredDemand ⟨2, ⟨true, true⟩⟩, .cfgswRead ⟨256, 0⟩, .cfgswRead ⟨0, 256⟩, .cfgswChange ⟨256, 0⟩,
    .cfgswChange ⟨0, 256⟩, .niujorFrameReceive 0 0 0 [] ⟨2 ^ 16, true⟩ 0, .dmi 0 (.load 0 3), .dmi 0 (.load (2 ^ 32)
    4), .dmi 0 (.store 0 4 (2 ^ 32)), .dmi 0 (.store 0 8 0), .dmi 0 (.fetch 2), .dmi 0 (.readReg 0x1040), .dmi 0
    (.writeReg 0x1040 0), .dmi 0 (.writeReg 0 (2 ^ 32)), .dmi 0 (.readBuf 8), .dmi 0 (.writeBuf 8 0), .modDataLost
    ⟨0, [⟨2 ^ 64, 0, [0, 0, 0, 0], [0, 0, 0, 0]⟩]⟩, .modDataLost ⟨0, [⟨0, 2 ^ 64, [0, 0, 0, 0], [0, 0, 0, 0]⟩]⟩,
    .modDataLost ⟨0, [⟨0, 1, [0, 0, 0], [0, 0, 0, 0]⟩]⟩, .modDataLost ⟨0, [⟨0, 1, [0, 0, 0, 0], [0, 0, 0, 0, 0]⟩]⟩,
    .modDataLost ⟨0, [⟨0, 1, [0, 0, 0, 2 ^ 16], [0, 0, 0, 0]⟩]⟩] : List Instr).all (fun c => !c.wf) = true := by decide +kernel

/-! ### Small steps -/

/-- The state after a command, or the one before where it has none. -/
def after (c : Instr) (s : State) : State :=
  match exec c s with
  | .next t => t
  | _ => s

/-- The timebase wraps modulo 2^64 (04 R104). -/
theorem test_tick_wraps : ({ State.reset with tb := 2 ^ 64 - 1 } : State).edgeTick.tb = 0 := by decide +kernel

/-- 640 000 003 is 3 ticks past a whole second: ALIGN to SYNC_PER 640 000 moves the count 639 997 forward (04 R109). -/
theorem test_align_moves_forward :
    (after (.syncInEdge 0) { State.reset.setFld .CLK_SYNC_MODE 0 1 with tb := 640000003 }).tb = 640640000 := by decide +kernel

/-- Engine 11 in a run, with two numbers in its registers. -/
def engineState (a b : Nat) : State :=
  (State.reset.setFld .LE_STAT_RUNNING 11 1).modEngine 11 (fun e => { e with regs := [0, a, b] ++ List.replicate 29 0 })

/-- 1.5 + 2.25 = 3.75 (10 R254). -/
theorem test_add : (after (.add 11 31 1 2) (engineState 0x3FC00000 0x40100000)).rgBits 11 31 = 0x40700000 := by decide +kernel

/-- 1.5 − 2.25 = −0.75, with the destination a source (10 R254). -/
theorem test_sub_into_source : (after (.sub 11 1 1 2) (engineState 0x3FC00000 0x40100000)).rgBits 11 1 = 0xBF400000 := by
  decide +kernel

/-- 1.5 × 2.25 = 3.375 (10 R254). -/
theorem test_mul : (after (.mul 11 31 1 2) (engineState 0x3FC00000 0x40100000)).rgBits 11 31 = 0x40580000 := by decide +kernel

/-- F0 reads +0.0 whatever is written to it (10 R249). -/
theorem test_f0_reads_zero : (after (.add 11 0 1 2) (engineState 0x3FC00000 0x40100000)).rgBits 11 0 = 0 := by decide +kernel

/-- An instruction of an engine that runs nothing has no effect (10 R252). -/
theorem test_idle_engine : after (.add 0 31 1 2) State.reset = State.reset := by decide +kernel

/-- A Satchel word is stored low byte first, and poison in its word discards it with a store access fault (15 R372). -/
theorem test_satchel_store :
    ((after (.registerWrite 0 0x20000010 0x04030201) { State.reset with integ := { State.reset.integ with satLost := false } }).satchel =
      [((0, 0x10), 1), ((0, 0x11), 2), ((0, 0x12), 3), ((0, 0x13), 4)]) ∧
    (after (.registerWrite 0 0x20000010 0x04030201) State.reset).tut.mcause.getD 0 0 = 7 := by decide +kernel

/-- A misaligned word store ends with mcause 6, a store to an unmapped address with 7 (21 Table 21-2, R507). -/
theorem test_store_faults :
    (after (.registerWrite 2 0x11000002 0) State.reset).tut.mcause.getD 2 0 = 6 ∧
    (after (.registerWrite 2 0x60000000 0) State.reset).tut.mcause.getD 2 0 = 7 := by decide +kernel

/-- AMOADD answers the old word and stores the sum modulo 2^32 (21 R503). -/
theorem test_amoadd_wraps :
    let s := after (.registerWrite 1 0x11000008 0xFFFFFFFF) State.reset
    (after (.amoSatchel 1 0x11000008 .add 2) s).tut.lastRead = 0xFFFFFFFF ∧
    (after (.amoSatchel 1 0x11000008 .add 2) s).tut.dtcm.get (0, 8) 0 = 1 := by decide +kernel

/-- SC without a reservation answers 1 and stores nothing (21 R503). -/
theorem test_sc_without_reservation :
    (after (.amoSatchel 1 0x11000008 .sc 2) State.reset).tut.lastRead = 1 ∧
    (after (.amoSatchel 1 0x11000008 .sc 2) State.reset).tut.dtcm = [] := by decide +kernel

/-- A low half waits and its high half commits both (08 R199). -/
theorem test_shadow_halves :
    let s := after (.pwmShadowHighWrite 0 3 1 7) (after (.pwmShadowLowWrite 0 3 1 0x12345678) State.reset)
    s.fld .PWM_SHD1L 3 = 0x12345678 % 2 ^ Fld.width .PWM_SHD1L ∧ s.fld .PWM_SHD1H 3 = 7 := by decide +kernel

/-- A PWR_CELL write that makes OFF less than ON + 2 codes is discarded (03 R93). -/
theorem test_cell_hysteresis : (after (.pwrCellWrite 0 20 21 0 0) State.reset).fld .PWR_CELL_ON = 0xF := by decide +kernel

/-- The first lost event of a full Q10 counts in ESEQ and in DROP (19 R458). -/
theorem test_event_dropped :
    let s := (List.range 17).foldl (fun s _ => s.emit .pwm 1) State.reset
    s.ports.q10.length = 16 ∧ s.ports.eseq = (State.reset.ports.eseq + 17) % 2 ^ 32 ∧ s.fld .RING_STAT_DROP 10 = 1 := by
  decide +kernel

/-- No row of the table has bits, so no word spells a command. -/
theorem test_no_word_decodes : decodeTableWord 32 0 = none ∧ State.reset.withFetchWord 32 0 = State.reset := by decide +kernel

/-- The encodings that the worked example of 10 lists: PI of line 21, STPD for PM1, LDK of √3/2. -/
theorem test_encodings :
    TtInstr.ofWords 0x00000012 0x302F4600 = { op := 0x30, rd := 5, ra := 29, rb := 3, rc := 0, mod := 0, imm := 0x12 } ∧
    TtInstr.ofWords 0x00000001 0x11054000 = { op := 0x11, rd := 0, ra := 21, rb := 0, rc := 0, mod := 0, imm := 1 } ∧
    TtInstr.ofWords 0x3F5DB3D7 0x01680000 = { op := 1, rd := 13, ra := 0, rb := 0, rc := 0, mod := 0, imm := 0x3F5DB3D7 } := by
  decide +kernel

/-- The operations of the worked example of 10, with WAIT's ticks and LDS's count. -/
def exampleOps : List (Nat × Nat × Nat) :=
  [(5, 0, 192), (4, 6, 0)] ++
  ([0x33, 0x33, 2, 0x27, 0x34, 0x34, 0x38, 2, 0x23, 0x27, 2, 2, 0x21, 0x21, 2, 0x22, 0x22, 0x21, 0x23, 0x30, 0x30, 2, 0x22, 0x44, 0x35,
    1, 0x24, 0x22, 1, 1, 0x22, 0x22, 0x20, 0x21, 0x22, 0x22, 1, 1, 0x40, 0x40, 0x20, 0x11, 0x11, 0x40, 0x40, 0x20, 0x11, 0x11, 0x40,
    0x40, 0x20, 0x11, 0x11, 0x5F].map (fun o => (o, 0, 0)))

/-- LE_WCET0 of the worked example reads 394 (10 R262). -/
theorem test_wcet_example :
    wcetBound (exampleOps.map (fun o => { op := o.1, rd := 0, ra := 0, rb := 0, rc := 0, mod := o.2.1, imm := o.2.2 })) = 394 := by
  decide +kernel

/-- The duty 0.8445083 of the worked example with PER 20 000 stages 2 161 941 (10 R255). -/
theorem test_stpd_example :
    ((after (.stpd 11 0 1 0) (((engineState 0x3F5831B3 0).setFld .PWM_SHD1L 0 20000).setFld .HP_STAT_HOLDER 0 2)).pm 0).staged.map (fun e => e.value % 2 ^ 32) =
      [2161941] := by decide +kernel

/-- A load of FAB_DROP returns the count and clears it (00 R12, 01 Table 1-10). -/
theorem test_read_clears :
    let s := (State.reset.setFld .FAB_DROP 0 7).blockLoad 0 0x4C002034 4
    s.tut.lastRead = 7 ∧ s.fld .FAB_DROP 0 = 0 := by decide +kernel

/-- A load of a low half latches the high half, which the next load returns although it has changed (10 R248). -/
theorem test_read_latch :
    let s := State.reset.engStore 0 [(0x2000, 5), (0x2001, 6)]
    let s := s.blockLoad 0 (engAddr 0 0x8000) 4
    (s.tut.lastRead = 5) ∧ (((s.engStore 0 [(0x2001, 9)]).blockLoad 0 (engAddr 0 0x8004) 4).tut.lastRead = 6) := by decide +kernel

/-- A debugger's load of FAB_DROP through a halted hart clears it as a core's does (00 R12, 21 R516). -/
theorem test_dmi_read_clears :
    let s := after (.dmi 1 (.load 0x4C002034 4))
      { (State.reset.setFld .TUT_DBG_SEC_EN 1 1).setFld .FAB_DROP 0 7 with tut := { State.reset.tut with halted := 2 } }
    s.tut.lastRead = 7 ∧ s.fld .FAB_DROP 0 = 0 := by decide +kernel

/-! ### Witnesses of the statements' hypotheses -/

/-- A parameter set of 96 bytes whose fields lie in the ranges of 18 Table 18-3. -/
def testSet : List Nat := [0x53, 0x50, 1, 0, 50, 0, 10, 0, 10, 0, 1] ++ List.replicate 85 0

/-- Its record, with the marker copies given. -/
def testSetRecord (m : List Nat) : LibRecord :=
  { area := 4, type := 2, seq := 0, time := 0, payload := testSet, block := 9, marker := some m }

/-- The record's CRC-32, worked out 28 bytes at a time. -/
theorem testSet_crc (m : List Nat) : crc32 (testSetRecord m).bytes = 3549099878 := by
  have h : (testSetRecord m).bytes = (testSetRecord []).bytes := rfl
  have h0 : (testSetRecord []).bytes = (testSetRecord []).bytes.take 28 ++ ((testSetRecord []).bytes.drop 28).take 28 ++
      ((testSetRecord []).bytes.drop 56).take 28 ++ (testSetRecord []).bytes.drop 84 := by decide +kernel
  have h1 : ((testSetRecord []).bytes.take 28).foldl crcByte 0xFFFFFFFF = 178791779 := by decide +kernel
  have h2 : (((testSetRecord []).bytes.drop 28).take 28).foldl crcByte 178791779 = 3731760521 := by decide +kernel
  have h3 : (((testSetRecord []).bytes.drop 56).take 28).foldl crcByte 3731760521 = 1308158065 := by decide +kernel
  have h4 : ((testSetRecord []).bytes.drop 84).foldl crcByte 1308158065 = 745867417 := by decide +kernel
  rw [h, crc32, h0, List.foldl_append, List.foldl_append, List.foldl_append, h1, h2, h3, h4]
  decide +kernel

theorem testSet_valid : (testSetRecord (List.replicate 4 3549099878)).valid = true := by
  have h : (testSetRecord (List.replicate 4 3549099878)).valid = (!false && decide (3 ≤ ((List.replicate 4 3549099878).filter
      (fun c => c == crc32 (testSetRecord (List.replicate 4 3549099878)).bytes)).length)) := by
    simp only [LibRecord.valid, testSetRecord]
  rw [h, testSet_crc]
  decide

/-- The first 16 bytes of the set's SHA-256. -/
def testSetHash : Nat := 332710830826553808892968768838631635096
theorem testSet_hash : setHash testSet = testSetHash := by decide +kernel

/-- A Prefect that awaits the delivery of the set its newest slot names. -/
def testDelivery : State :=
  { (State.reset.setFld .LIB_STAT_READY 0 1).setFld .PF_CFG_CFGSW 0 0xE1 with
      pf := { State.reset.pf with cfgRead := true, slots := [(1, testSetHash)] },
      lib := { State.reset.lib with records := [testSetRecord (List.replicate 4 3549099878)] } }

theorem testDelivery_record : testDelivery.prefectRecord (testDelivery.fld .PF_CFG_CFGSW % 16) = some testSet := by
  have h : testDelivery.lib.records.reverse = [testSetRecord (List.replicate 4 3549099878)] := rfl
  have h1 : testDelivery.fld .PF_CFG_CFGSW % 16 = 1 := by decide +kernel
  have h2 : ∀ b, ((testSetRecord (List.replicate 4 3549099878)).area == 4 && (testSetRecord (List.replicate 4 3549099878)).type == 2 &&
      b && (testSetRecord (List.replicate 4 3549099878)).payload.length == 96 &&
      setField (testSetRecord (List.replicate 4 3549099878)).payload 0 2 == 0x5053 &&
      setField (testSetRecord (List.replicate 4 3549099878)).payload 2 1 == 1) = b := by
    intro b
    cases b <;> decide +kernel
  rw [State.prefectRecord, h, h1, List.find?_cons_of_pos]
  · rfl
  · rw [h2]
    exact testSet_valid

theorem testDelivery_slot : testDelivery.pf.slots.getLast? = some (testDelivery.fld .PF_CFG_CFGSW % 16, setHash testSet) := by
  rw [testSet_hash]
  decide +kernel

theorem testDelivery_ready : testDelivery.pfRuns = true ∧ testDelivery.pf.deliver = true ∧ testDelivery.pf.cfgRead = true ∧
    testDelivery.flag .PF_CFG_SWBAD = false ∧ testDelivery.flag .LIB_STAT_READY = true ∧ setInRange testSet = true := by
  decide +kernel


theorem witness_ResetRequestsAndPhases_1 : ∃ (s : State), s.ct.powerGood = true :=
  ⟨State.reset, by decide +kernel⟩
theorem witness_ResetRequestsAndPhases_2 : ∃ (s : State), (s.ct.powerGood = true) ∧ (s.ct.openBalls.testBit 0 = false ∨ s.ct.openBalls.testBit 1 = false) ∧ (s.bankOn 3 = true) :=
  ⟨({ State.reset with ct := { State.reset.ct with openBalls := 1 } } : State), by decide +kernel⟩
theorem witness_ResetRequestsAndPhases_3 : ∃ (s : State), s.ct.powerGood = true :=
  ⟨State.reset, by decide +kernel⟩
theorem witness_ResetRequestsAndPhases_4 : ∃ (s : State), (s.ct.powerGood = true) ∧ (s.clk.retry = true) :=
  ⟨{ State.reset with clk := { State.reset.clk with retry := true } }, by decide +kernel⟩
theorem witness_ResetRequestsAndPhases_6 : ∃ (s : State) (mask bootsel : Nat), (s.ct.powerGood = true) ∧ (s.rst.phase = .fuses) :=
  ⟨{ State.reset with rst := { State.reset.rst with phase := .fuses } }, 0, 0, by decide +kernel⟩
theorem witness_ResetRequestsAndPhases_7 : ∃ (s : State) (mask bootsel : Nat), (s.ct.powerGood = true) ∧ (s.rst.phase = .plls) ∧ (mask < 64) :=
  ⟨{ State.reset with rst := { State.reset.rst with phase := .plls } }, 0, 0, by decide +kernel⟩
theorem witness_ResetRequestsAndPhases_8 : ∃ (s : State) (mask bootsel : Nat), (s.ct.powerGood = true) ∧ (s.rst.phase = .repairs) :=
  ⟨{ State.reset with rst := { State.reset.rst with phase := .repairs } }, 0, 0, by decide +kernel⟩
theorem witness_ResetRequestsAndPhases_9 : ∃ (s : State) (mask bootsel : Nat), (s.ct.powerGood = true) ∧ (s.rst.phase = .clearing) :=
  ⟨{ State.reset with rst := { State.reset.rst with phase := .clearing } }, 0, 0, by decide +kernel⟩
theorem witness_ResetRequestsAndPhases_10 : ∃ (s : State) (mask bootsel : Nat), (s.ct.powerGood = true) ∧ (s.rst.phase = .bellTest) :=
  ⟨{ State.reset with rst := { State.reset.rst with phase := .bellTest } }, 0, 0, by decide +kernel⟩
theorem witness_ResetRequestsAndPhases_11 : ∃ (s : State), (s.ct.powerGood = true) ∧ (s.rst.phase = .release) :=
  ⟨{ State.reset with rst := { State.reset.rst with phase := .release } }, by decide +kernel⟩

theorem witness_BellRequestsAndPeriods_1 : ∃ (s : State) (core group : Nat), (s.reaches core .caretaker bellReqAddr) ∧ (group < 255) :=
  ⟨State.reset, 0, 254, by decide +kernel⟩
theorem witness_BellRequestsAndPeriods_2 : ∃ (s : State) (core mask : Nat) (extra : Bool), (s.reaches core .caretaker bellReqAddr) ∧ (mask < 2 ^ 16) :=
  ⟨State.reset, 0, 0xFFFF, true, by decide +kernel⟩
theorem witness_BellRequestsAndPeriods_3 : ∃ (s : State) (core points : Nat), (s.reaches core .caretaker bellReqAddr) ∧ (points < 256) :=
  ⟨State.reset, 0, 255, by decide +kernel⟩
theorem witness_BellRequestsAndPeriods_4 : ∃ (s : State) (core ident : Nat), (s.reaches core .caretaker bellReqAddr) ∧ (ident < 256) :=
  ⟨State.reset, 0, 255, by decide +kernel⟩
theorem witness_BellRequestsAndPeriods_5 : ∃ (s : State), ((s.flag .BELL_STAT_ROOT0_OK = true ∨ s.flag .BELL_STAT_ROOT1_OK = true)) ∧ (s.timerFires = true) :=
  ⟨(State.reset.setFld .LT_CFG_SRC 0 1), by decide +kernel⟩
theorem witness_BellRequestsAndPeriods_6 : ∃ (s : State) (m : Nat) (falling : Bool), (s.headOccurs m falling = true) ∧ (s.eng.divCount < s.fld .LT_CFG_DIV) :=
  ⟨(((State.reset.setFld .LT_CFG_SRC 0 2).setFld .LT_CFG_DIV 0 1).setFld .PWM_RUN_CNT_EN 0 1), 0, false, by decide +kernel⟩
theorem witness_BellRequestsAndPeriods_7 : ∃ (s : State) (m : Nat) (falling : Bool), ((s.flag .BELL_STAT_ROOT0_OK = true ∨ s.flag .BELL_STAT_ROOT1_OK = true)) ∧ (s.headOccurs m falling = true) ∧ (s.fld .LT_CFG_DIV ≤ s.eng.divCount) ∧ (∀ u ∈ s.eng.lastBell, u + 3200 ≤ s.tb) :=
  ⟨((State.reset.setFld .LT_CFG_SRC 0 2).setFld .PWM_RUN_CNT_EN 0 1), 0, false, by decide +kernel⟩
theorem witness_BellRequestsAndPeriods_8 : ∃ (s : State) (m u : Nat) (falling : Bool), (s.headOccurs m falling = true) ∧ (s.fld .LT_CFG_DIV ≤ s.eng.divCount) ∧ (s.eng.lastBell = some u) ∧ (s.tb < u + 3200) :=
  ⟨{ ((State.reset.setFld .LT_CFG_SRC 0 2).setFld .PWM_RUN_CNT_EN 0 1) with eng := { State.reset.eng with lastBell := some 0 } }, 0, 0, false, by decide +kernel⟩
theorem witness_BellRequestsAndPeriods_9 : ∃ (s : State), ((s.flag .BELL_STAT_ROOT0_OK = true ∨ s.flag .BELL_STAT_ROOT1_OK = true)) ∧ (s.fld .LT_CFG_SRC = 2) ∧ (s.flag .LT_STAT_HEADMODE = true) ∧ (s.bellLate = true) :=
  ⟨((State.reset.setFld .LT_CFG_SRC 0 2).setFld .LT_STAT_HEADMODE 0 1), by decide +kernel⟩

theorem witness_BellsAndBarriers_1 : ∃ (s : State) (w : BellWord), ((s.flag .BELL_STAT_ROOT0_OK = true ∨ s.flag .BELL_STAT_ROOT1_OK = true)) ∧ (w = s.nextWord false (s.fld .LT_CFG_SRC = 0)) ∧ (w.apply = true ∨ w.latch = true ∨ w.barrier = true) :=
  ⟨{ State.reset with bell := { State.reset.bell with barrierQ := [{ who := 3, what := 255 }] } }, ({ State.reset with bell := { State.reset.bell with barrierQ := [{ who := 3, what := 255 }] } } : State).nextWord false true, by decide +kernel⟩
theorem witness_BellsAndBarriers_2 : ∃ (s : State) (b : Barrier) (r : List Barrier), (s.bell.barriers = b :: r) ∧ (b.id < 256) :=
  ⟨{ State.reset with bell := { State.reset.bell with barriers := [{ id := 255, waited := 0 }] } }, { id := 255, waited := 0 }, [], by decide +kernel⟩
theorem witness_BellsAndBarriers_3 : ∃ (s : State) (b : Barrier) (r : List Barrier) (missing : Nat), (s.bell.barriers = b :: r) ∧ (b.id < 256) ∧ (b.waited < 2 ^ 60) :=
  ⟨{ State.reset with bell := { State.reset.bell with barriers := [{ id := 255, waited := 2 ^ 60 - 1 }] } }, { id := 255, waited := 2 ^ 60 - 1 }, [], 1, by decide +kernel⟩
theorem witness_BellsAndBarriers_4 : ∃ (s : State) (root : Nat), (root < 2) ∧ (s.flag .BELL_STAT_ROOT0_OK = true) ∧ (s.flag .BELL_STAT_ROOT1_OK = true) ∧ (((if root = 0 then s.bell.div0 else s.bell.div1).filter (fun u => s.tb < u + tickSecond)).length < 2) :=
  ⟨State.reset, 1, by decide +kernel⟩
theorem witness_BellsAndBarriers_5 : ∃ (s : State) (root : Nat), (root < 2) ∧ (s.flag .BELL_STAT_ROOT0_OK = true) ∧ (s.flag .BELL_STAT_ROOT1_OK = true) ∧ (2 ≤ ((if root = 0 then s.bell.div0 else s.bell.div1).filter (fun u => s.tb < u + tickSecond)).length) :=
  ⟨{ State.reset with bell := { State.reset.bell with div0 := [0, 0] } }, 0, by decide +kernel⟩

theorem witness_SampleFabric_1 : ∃ (s : State) (result reason source ts : Nat) (subst inj : Bool), ∀ x ∈ s.fab.waiting, x.source ≠ source :=
  ⟨State.reset, 0, 0, 0, 0, false, false, by decide +kernel⟩
theorem witness_SampleFabric_2 : ∃ (s : State) (result reason source ts : Nat) (subst inj : Bool), (s.fab.waiting.filter (fun x => x.source == source && x.subst == subst)).length < 8 :=
  ⟨State.reset, 0, 0, 0, 0, false, false, by decide +kernel⟩
theorem witness_SampleFabric_3 : ∃ (s : State) (result reason source ts : Nat) (subst inj : Bool), 8 ≤ (s.fab.waiting.filter (fun x => x.source == source && x.subst == subst)).length :=
  ⟨{ State.reset with fab := { State.reset.fab with waiting := List.replicate 8 (mkWord 0 0 0 0 false false) } }, 0, 0, 0, 0, false, false, by decide +kernel⟩
theorem witness_SampleFabric_4 : ∃ (s : State) (silent other : Nat) (receiver : Bool), (35 ≤ silent) ∧ (silent < 48) ∧ (islandUsed other = true) :=
  ⟨State.reset, 47, 92, false, by decide +kernel⟩
theorem witness_SampleFabric_5 : ∃ (s : State) (c other : Nat) (receiver : Bool), (c < 4) ∧ (islandWing other = none) ∧ (islandUsed other = true) :=
  ⟨State.reset, 3, 91, true, by decide +kernel⟩

theorem witness_BallsAndBanks_1 : ∃ (s : State) (sig : Nat) (second changed : Bool), (s.flag .OPEN_CFG_EN = true) ∧ (sig < 16) ∧ (sig = 0 ∨ s.prefectFitted = true) :=
  ⟨(State.reset.setFld .OPEN_CFG_EN 0 1), 0, false, true, by decide +kernel⟩
theorem witness_BallsAndBanks_2 : ∃ (s : State) (which : Nat) (amps : List Nat), (s.flag .OPEN_CFG_EN = true) ∧ (which < 9) ∧ (meanEnough 2 amps = true) :=
  ⟨(State.reset.setFld .OPEN_CFG_EN 0 1), 8, [30000, 1000], by decide +kernel⟩
theorem witness_BallsAndBanks_3 : ∃ (s : State) (which n : Nat) (amps : List Nat), (s.flag .OPEN_CFG_EN = true) ∧ (which < 8) ∧ (n = groupBalls which s.sizeCode) ∧ (meanEnough n amps = true) :=
  ⟨(State.reset.setFld .OPEN_CFG_EN 0 1), 3, 4, [0, 30000, 30000, 30000], by decide +kernel⟩
theorem witness_BallsAndBanks_4 : ∃ (s : State) (bank code : Nat), (1 ≤ bank) ∧ (bank ≤ 4) ∧ (code < 4) ∧ (s.fld (bankFld bank) ≠ code) :=
  ⟨State.reset, 4, 0, by decide +kernel⟩

theorem witness_MonitorsAndCaretaker_4 : ∃ (s : State), (s.prefectFitted = true) ∧ (s.pf.vpfGood = false) :=
  ⟨{ State.reset.setFld .FUSE_RES_PREFECT 0 1 with pf := { State.reset.pf with vpfGood := false } }, by decide +kernel⟩
theorem witness_MonitorsAndCaretaker_5 : ∃ (s : State), s.prefectFitted = true :=
  ⟨(State.reset.setFld .FUSE_RES_PREFECT 0 1), by decide +kernel⟩
theorem witness_MonitorsAndCaretaker_6 : ∃ (s : State), s.ct.running = false :=
  ⟨{ State.reset with ct := { State.reset.ct with running := false } }, by decide +kernel⟩
theorem witness_MonitorsAndCaretaker_7 : ∃ (s : State), s.ct.running = true :=
  ⟨(State.reset.setFld .PWR_MON_VANA_OK 0 0), by decide +kernel⟩
theorem witness_MonitorsAndCaretaker_8 : ∃ (s : State), (s.ct.running = true) ∧ (s.flag .PWR_MON_VANA_OK = true) :=
  ⟨State.reset, by decide +kernel⟩

theorem witness_WingSwitches_1 : ∃ (s : State) (core : Nat) (pd1 pd2 clr1 clr2 : Bool), (s.reaches core .caretaker 0x4C000440) ∧ ((pd1 = false ∧ s.flag .PWR_SW_PD1_ON = true ∧ (s.pass .a = true ∨ s.split = true)) ∨
      (pd2 = false ∧ s.flag .PWR_SW_PD2_ON = true ∧ (s.pass .b = true ∨ s.split = true))) :=
  ⟨(State.reset.setFld .HP_STAT_HOLDER 0 1).setFld .PWR_SW_PD1_ON 0 1, 0, false, true, false, false, by decide +kernel⟩
theorem witness_WingSwitches_2 : ∃ (s : State) (core : Nat) (pd1 pd2 clr1 clr2 : Bool), (s.reaches core .caretaker 0x4C000440) ∧ (pd1 = true ∨ s.flag .PWR_SW_PD1_ON = false ∨ (s.pass .a = false ∧ s.split = false)) ∧ (pd2 = true ∨ s.flag .PWR_SW_PD2_ON = false ∨ (s.pass .b = false ∧ s.split = false)) :=
  ⟨((State.reset.setFld .PWR_SW_PD1_ON 0 1).setFld .PWR_SW_PD2_ON 0 1), 2, true, false, false, false, by decide +kernel⟩
theorem witness_WingSwitches_3 : ∃ (s : State) (w : Wing), (s.flag (pdOn w) = true) ∧ (s.flag (pdPg w) = false) :=
  ⟨((State.reset.setFld .PWR_SW_PD1_ON 0 1).setFld .PWR_SW_PD1_PG 0 0), .a, by decide +kernel⟩
theorem witness_WingSwitches_6 : ∃ (s : State) (pd : Nat), pd = 3 ∨ pd = 5 :=
  ⟨State.reset, 3, by decide +kernel⟩

theorem witness_StoreAndCell_2 : ∃ (s : State), (s.flag .CT_STAT_HARV = false) ∧ (s.flag .CT_STAT_CELLP = true) ∧ (s.belowCeiling = true) :=
  ⟨(State.reset.setFld .CT_STAT_CELLP 0 1), by decide +kernel⟩
theorem witness_StoreAndCell_8 : ∃ (s : State) (core on off low ilim : Nat), (s.reaches core .caretaker 0x4C000408) ∧ (ilim < 4) ∧ (min on 170 + 2 ≤ min off 170) :=
  ⟨State.reset, 0, 168, 170, 25, 3, by decide +kernel⟩
theorem witness_StoreAndCell_9 : ∃ (s : State) (core on off low ilim : Nat), (s.reaches core .caretaker 0x4C000408) ∧ (min off 170 < min on 170 + 2) :=
  ⟨State.reset, 0, 170, 171, 0, 0, by decide +kernel⟩
theorem witness_StoreAndCell_10 : ∃ (s : State) (vstore vcell used : Nat), (s.ct.running = true) ∧ (vstore < 4096) ∧ (vcell < 4096) :=
  ⟨State.reset, 4095, 0, 0, by decide +kernel⟩

theorem witness_BurstAdmission_1 : ∃ (s : State) (l : List Nat) (byC : Bool), (s.ct.running = true) ∧ (s.ct.burst = false) ∧ (s.lib.queue = []) ∧ (byC = !s.flag .PWR_MON_VCORE_OK) ∧ (byC = true → caretakerMay l = true) ∧ (s.burstCost l + s.admReserve ≤ s.eAvail) :=
  ⟨((State.reset.setFld .GAUGE_CAP_CAP 0 0xFFFF).setFld .GAUGE_V_VSTORE 0 4095), [], false, by decide +kernel⟩
theorem witness_BurstAdmission_2 : ∃ (s : State) (l : List Nat) (byC : Bool), (s.ct.running = true) ∧ (s.ct.burst = false) ∧ (s.lib.queue = []) ∧ (byC = !s.flag .PWR_MON_VCORE_OK) ∧ (byC = true → caretakerMay l = true) ∧ (s.eAvail < s.burstCost l + s.admReserve) :=
  ⟨State.reset, [1], false, by decide +kernel⟩
theorem witness_BurstAdmission_3 : ∃ (s : State) (l : List Nat), (caretakerMay l = false) ∧ (s.lib.queue = []) :=
  ⟨State.reset, [5], by decide +kernel⟩
theorem witness_BurstAdmission_4 : ∃ (s : State), (∀ b ∈ s.lib.burst, b.ops = []) ∧ (s.lib.queue = []) ∧ (s.integ.repairs.length ≤ s.repairCopy.length) :=
  ⟨{ State.reset with ct := { State.reset.ct with burst := true } }, by decide +kernel⟩
theorem witness_BurstAdmission_5 : ∃ (s : State), (s.ct.running = true) ∧ (s.flag .PWR_MON_VCORE_OK = false) :=
  ⟨(State.reset.setFld .PWR_MON_VCORE_OK 0 0), by decide +kernel⟩
theorem witness_BurstAdmission_6 : ∃ (s : State), (s.flag .CT_STAT_MAIN = true) ∧ (s.ct.burst = false ∨ s.ct.burstOwn = false) :=
  ⟨((State.reset.setFld .CT_STAT_LIBOWN 0 1).setFld .CT_STAT_MAIN 0 1), by decide +kernel⟩

theorem witness_PllsAndEdgeClock_1 : ∃ (s : State) (loop : Nat), (loop < 6) ∧ (s.pllRuns loop = true) ∧ (s.clk.gated = false) :=
  ⟨State.reset, 5, by decide +kernel⟩
theorem witness_PllsAndEdgeClock_2 : ∃ (s : State), s.flag .CLK_STAT_E0_LK = true :=
  ⟨State.reset, by decide +kernel⟩
theorem witness_PllsAndEdgeClock_3 : ∃ (s : State), s.flag .CLK_STAT_E1_LK = true :=
  ⟨State.reset, by decide +kernel⟩
theorem witness_PllsAndEdgeClock_4 : ∃ (s : State) (w : Wing), s.flag (lockFld (2 + w.num)) = true :=
  ⟨State.reset, .a, by decide +kernel⟩
theorem witness_PllsAndEdgeClock_5 : ∃ (s : State) (loop : Nat), (loop = 4 ∨ loop = 5) ∧ (s.flag (lockFld loop) = true) :=
  ⟨State.reset, 4, by decide +kernel⟩
theorem witness_PllsAndEdgeClock_7 : ∃ (s : State) (core : Nat) (a b : Bool), (s.reaches core .caretaker 0x4C001004) ∧ (a = true ∨ s.flag .CLK_EN_PLLA_EN = false ∨ (s.pass .a = false ∧ s.split = false)) ∧ (b = true ∨ s.flag .CLK_EN_PLLB_EN = false ∨ (s.pass .b = false ∧ s.split = false)) :=
  ⟨State.reset, 0, false, true, by decide +kernel⟩
theorem witness_PllsAndEdgeClock_8 : ∃ (s : State) (core : Nat) (a b : Bool), (s.reaches core .caretaker 0x4C001004) ∧ ((a = false ∧ s.flag .CLK_EN_PLLA_EN = true ∧ (s.pass .a = true ∨ s.split = true)) ∨
      (b = false ∧ s.flag .CLK_EN_PLLB_EN = true ∧ (s.pass .b = true ∨ s.split = true))) :=
  ⟨((State.reset.setFld .HP_STAT_HOLDER 0 1).setFld .CLK_EN_PLLA_EN 0 1), 0, false, true, by decide +kernel⟩

theorem witness_TimebaseAndSync_1 : ∃ (s : State) (core : Nat), (s.loads core .caretaker 0x4C00101C) ∧ (s.tb < 2 ^ 64) :=
  ⟨{ State.reset with tb := 2 ^ 64 - 1 }, 0, by decide +kernel⟩
theorem witness_TimebaseAndSync_2 : ∃ (s : State), (s.flag .TB_PPS_EN = true) ∧ (s.tb % 640000000 = s.fld .TB_PPS_PHASE) :=
  ⟨(State.reset.setFld .TB_PPS_EN 0 1), by decide +kernel⟩
theorem witness_TimebaseAndSync_4 : ∃ (s : State), (s.clk.stepAt ≠ some s.tb) ∧ (s.rateDemand ≠ 0) ∧ (s.rateDemand + s.phaseDemand ≠ 0) :=
  ⟨{ State.reset with clk := { State.reset.clk with rateAcc := rateStep } }, by decide +kernel⟩
theorem witness_TimebaseAndSync_5 : ∃ (s : State), (s.clk.stepAt ≠ some s.tb) ∧ (s.rateDemand = 0) ∧ (s.phaseDemand ≠ 0) :=
  ⟨{ State.reset.setFld .SYNC_ERR_ERR 0 5 with tb := 65536 }, by decide +kernel⟩
theorem witness_TimebaseAndSync_6 : ∃ (s : State), (s.clk.stepAt ≠ some s.tb) ∧ (s.rateDemand ≠ 0) ∧ (s.rateDemand + s.phaseDemand = 0) :=
  ⟨{ State.reset.setFld .SYNC_ERR_ERR 0 5 with tb := 65536, clk := { State.reset.clk with rateAcc := rateStep } }, by decide +kernel⟩
theorem witness_TimebaseAndSync_7 : ∃ (s : State) (cycle fwd : Nat), (s.bankOn 3 = true) ∧ (s.edgeStopped = false) ∧ (s.fld .CLK_SYNC_MODE = 1) ∧ (s.anyPass = false) ∧ (fwd < s.fld .SYNC_PER) ∧ ((s.tb + fwd) % s.fld .SYNC_PER = s.fld .SYNC_OFS % s.fld .SYNC_PER) :=
  ⟨(State.reset.setFld .CLK_SYNC_MODE 0 1), 3, 0, by decide +kernel⟩
theorem witness_TimebaseAndSync_8 : ∃ (s : State) (cycle : Nat), (s.bankOn 3 = true) ∧ (s.edgeStopped = false) ∧ (s.fld .CLK_SYNC_MODE = 1) ∧ (s.anyPass = true) :=
  ⟨((State.reset.setFld .CLK_SYNC_MODE 0 1).setFld .HP_STAT_HOLDER 0 1), 0, by decide +kernel⟩
theorem witness_TimebaseAndSync_9 : ∃ (s : State) (cycle : Nat) (d : Int), (s.bankOn 3 = true) ∧ (s.edgeStopped = false) ∧ (s.fld .CLK_SYNC_MODE = 2) ∧ (d = s.syncDistance (cycle % 4)) ∧ (-(2 ^ 23) ≤ d) ∧ (d < 2 ^ 23) :=
  ⟨(State.reset.setFld .CLK_SYNC_MODE 0 2), 3, 3, by decide +kernel⟩
theorem witness_TimebaseAndSync_10 : ∃ (s : State) (cycle : Nat), (s.bankOn 3 = true) ∧ (s.edgeStopped = false) ∧ (s.flag .CLK_SYNC_OUTEN = true) ∧ (s.flag .CLK_SYNC_OUTSRC = false) :=
  ⟨(State.reset.setFld .CLK_SYNC_OUTEN 0 1), 2, by decide +kernel⟩
theorem witness_TimebaseAndSync_11 : ∃ (s : State), (s.flag .CLK_SYNC_OUTEN = true) ∧ (s.flag .CLK_SYNC_OUTSRC = true) ∧ (s.tb % s.fld .SYNC_PER = 0) :=
  ⟨((State.reset.setFld .CLK_SYNC_OUTEN 0 1).setFld .CLK_SYNC_OUTSRC 0 1), by decide +kernel⟩
theorem witness_TimebaseAndSync_12 : ∃ (s : State), s.fld .CLK_SYNC_MODE = 2 :=
  ⟨(State.reset.setFld .CLK_SYNC_MODE 0 2), by decide +kernel⟩

theorem witness_RealTimeClock_1 : ∃ (s : State), s.ct.running = true :=
  ⟨State.reset, by decide +kernel⟩
theorem witness_RealTimeClock_5 : ∃ (s : State) (core : Nat), (s.loads core .caretaker 0x4C001040) ∧ (s.clk.rtc < 2 ^ 48) :=
  ⟨{ State.reset with clk := { State.reset.clk with rtc := 2 ^ 48 - 1 } }, 0, by decide +kernel⟩
theorem witness_RealTimeClock_6 : ∃ (s : State) (core v : Nat), (s.reaches core .caretaker 0x4C001044) ∧ (s.clk.rtc ≤ s.clk.sechHold * 2 ^ 32 + v % 2 ^ 32) :=
  ⟨State.reset, 0, 5, by decide +kernel⟩
theorem witness_RealTimeClock_7 : ∃ (s : State) (core v : Nat), (s.reaches core .caretaker 0x4C001044) ∧ (s.clk.sechHold * 2 ^ 32 + v % 2 ^ 32 < s.clk.rtc) :=
  ⟨{ State.reset with clk := { State.reset.clk with rtc := 6 } }, 0, 5, by decide +kernel⟩

theorem witness_SarTriggersAndConversions_1 : ∃ (s : State) (k : Nat), (k < s.sar.slots.length) ∧ (s.slotConverts k = true) ∧ (0 < (s.slot k).due) :=
  ⟨(((State.reset.modGroup 1 (fun g => { g with st := .running })).setFld .SAR_CTRL_SLOT_EN 0 0xFFFF).setFld .SAR_TRIG_SRC 15 2).modSlot 15 (fun p => { p with due := 1 }), 15, by decide +kernel⟩
theorem witness_SarTriggersAndConversions_2 : ∃ (s : State) (k : Nat), (k < s.sar.slots.length) ∧ (s.slotConverts k = true) ∧ (s.fld .SAR_TRIG_SRC k = 1) ∧ ((s.slot k).burst = false) :=
  ⟨((State.reset.modGroup 1 (fun g => { g with st := .running })).setFld .SAR_CTRL_SLOT_EN 0 0xFFFF).setFld .SAR_TRIG_SRC 15 1, 15, by decide +kernel⟩
theorem witness_SarTriggersAndConversions_3 : ∃ (s : State) (core mask k : Nat), (s.reaches core .sar 0x42000018) ∧ (k < 16) ∧ (k < s.sar.slots.length) ∧ (s.slotConverts k = true) :=
  ⟨((State.reset.modGroup 1 (fun g => { g with st := .running })).setFld .SAR_CTRL_SLOT_EN 0 0xFFFF).setFld .SAR_TRIG_SRC 15 4, 0, 0x8000, 15, by decide +kernel⟩
theorem witness_SarTriggersAndConversions_4 : ∃ (s : State) (core k input ext : Nat), (s.reaches core .sar (0x42000108 + 0x20 * k)) ∧ (k < 16) ∧ (k < s.sar.slots.length) ∧ (input < 4) ∧ (ext < 64) ∧ (s.bonded input = true) ∧ (s.sarConverts = true) ∧ ((s.slot k).injQ.length < 4) ∧ ((s.slot k).cur.isSome = true ∨ (s.slot k).injQ = []) :=
  ⟨((State.reset.modGroup 1 (fun g => { g with st := .running })).setFld .SAR_CTRL_SLOT_EN 0 0xFFFF).modSlot 15 (fun p => { p with cur := some { input := 0, ext := 0, inj := false } }), 0, 15, 0, 63, by decide +kernel⟩
theorem witness_SarTriggersAndConversions_5 : ∃ (s : State) (core k input ext : Nat), (s.reaches core .sar (0x42000108 + 0x20 * k)) ∧ (k < 16) ∧ (input < 4) ∧ (s.sarConverts = false ∨ s.bonded input = false ∨ 4 ≤ (s.slot k).injQ.length) :=
  ⟨State.reset, 0, 15, 0, 0, by decide +kernel⟩
theorem witness_SarTriggersAndConversions_6 : ∃ (s : State) (k x vref hold : Nat) (own subst : Int) (c : SarConv), (k < s.sar.slots.length) ∧ ((s.slot k).cur = some c) ∧ ((s.slot k).stalled = false) ∧ (s.swapping k = false) ∧ (s.servingSlice k = some x) ∧ (0 < s.vref vref) ∧ (∀ y ∈ s.fab.waiting, y.source ≠ 4 * k + c.input) :=
  ⟨(((State.reset.modGroup 1 (fun g => { g with st := .running })).setFld .SAR_CTRL_SLOT_EN 0 0xFFFF).setFld .SAR_REF_REF_READY 0 1).modSlot 15 (fun p => { p with cur := some { input := 3, ext := 0, inj := false } }), 15, 15, 0, 0, 1250000000, 0, { input := 3, ext := 0, inj := false }, by decide +kernel⟩
theorem witness_SarTriggersAndConversions_7 : ∃ (s : State) (k vref hold : Nat) (own subst : Int) (c : SarConv), (k < s.sar.slots.length) ∧ ((s.slot k).cur = some c) ∧ (s.swapping k = false) ∧ ((s.slot k).stalled = true ∨ s.servingSlice k = none) ∧ (∀ y ∈ s.fab.waiting, y.source ≠ 4 * k + c.input) :=
  ⟨(((State.reset.modGroup 1 (fun g => { g with st := .running })).setFld .SAR_CTRL_SLOT_EN 0 0xFFFF).setBit .SAR_MAP_RETIRED 0 15 true).modSlot 15 (fun p => { p with cur := some { input := 3, ext := 0, inj := false } }), 15, 0, 0, 0, 0, { input := 3, ext := 0, inj := false }, by decide +kernel⟩
theorem witness_SarTriggersAndConversions_8 : ∃ (s : State) (k vref hold a b : Nat) (own subst : Int) (c : SarConv), (k < s.sar.slots.length) ∧ (k < 16) ∧ ((s.slot k).cur = some c) ∧ ((s.slot k).stalled = false) ∧ (s.pairHold k hold = true) ∧ (s.fld .SAR_CALPOS_PHASE = 1) ∧ (s.sar.pairDone = 1) ∧ (s.sar.lost < 3) ∧ (a < 2 ^ 18) ∧ (b < 2 ^ 18) ∧ (0 < s.vref vref) ∧ (own * 2 ^ 18 = a * s.vref vref) ∧ (subst * 2 ^ 18 = b * s.vref vref) :=
  ⟨({ State.reset.modGroup 1 (fun g => { g with st := .running }) with sar := { State.reset.sar with pairDone := 1 } } : State).setFld .SAR_CTRL_SLOT_EN 0 0xFFFF |>.setFld .SAR_CALPOS_PHASE 0 1 |>.setFld .SAR_CALPOS_STEP 0 15 |>.modSlot 15 (fun p => { p with cur := some { input := 3, ext := 0, inj := false } }), 15, 0, 64, 0, 0, 0, 0, { input := 3, ext := 0, inj := false }, by decide +kernel⟩
theorem witness_SarTriggersAndConversions_9 : ∃ (s : State), s.domainHeld 5 = false :=
  ⟨State.reset, by decide +kernel⟩
theorem witness_SarTriggersAndConversions_10 : ∃ (s : State), (s.fld .SAR_REF_SEL = 1) ∧ (s.domainHeld 5 = false) :=
  ⟨(State.reset.setFld .SAR_REF_SEL 0 1), by decide +kernel⟩
theorem witness_SarTriggersAndConversions_11 : ∃ (s : State), s.flag .SAR_CAL_FGCAL = true :=
  ⟨(State.reset.setFld .SAR_CAL_FGCAL 0 1), by decide +kernel⟩
theorem witness_SarTriggersAndConversions_12 : ∃ (s : State), (s.sarConverts = true) ∧ (s.flag .SAR_CAL_ROT_EN = true) ∧ (s.flag .SAR_CAL_ROT_STOP = false) ∧ (s.sar.nextStep ≤ 16) ∧ (s.fld .SAR_CALPOS_PHASE = 5 ∨ s.stepSlot < 16) :=
  ⟨((State.reset.modGroup 1 (fun g => { g with st := .running })).setFld .SAR_CTRL_SLOT_EN 0 0xFFFF).setFld .SAR_CAL_ROT_EN 0 1, by decide +kernel⟩
theorem witness_SarTriggersAndConversions_13 : ∃ (s : State), (s.fld .SAR_CALPOS_PHASE = 0) ∧ (s.stepSlot < 16) ∧ (s.bit .SAR_CTRL_SLOT_EN 0 s.stepSlot = true → (s.slot s.stepSlot).injQ = [] ∧ s.flag .SAR_REF_REF_READY = true) :=
  ⟨((((State.reset.modGroup 1 (fun g => { g with st := .running })).setFld .SAR_CTRL_SLOT_EN 0 0xFFFF).setFld .SAR_CALPOS_PHASE 0 0).setFld .SAR_REF_REF_READY 0 1), by decide +kernel⟩
theorem witness_SarTriggersAndConversions_14 : ∃ (s : State), (s.fld .SAR_CALPOS_PHASE = 3) ∧ (s.stepSlot < 16) ∧ (s.bit .SAR_CTRL_SLOT_EN 0 s.stepSlot = true → (s.slot s.stepSlot).injQ = [] ∧ s.flag .SAR_REF_REF_READY = true) :=
  ⟨((((State.reset.modGroup 1 (fun g => { g with st := .running })).setFld .SAR_CTRL_SLOT_EN 0 0xFFFF).setFld .SAR_CALPOS_PHASE 0 3).setFld .SAR_REF_REF_READY 0 1), by decide +kernel⟩
theorem witness_SarTriggersAndConversions_15 : ∃ (s : State), (s.fld .SAR_CALPOS_PHASE = 0) ∧ (s.stepSlot < 16) ∧ (s.bit .SAR_CTRL_SLOT_EN 0 s.stepSlot = true) ∧ ((s.slot s.stepSlot).injQ ≠ [] ∨ s.flag .SAR_REF_REF_READY = false) ∧ (s.sar.lost ≤ 3) :=
  ⟨(((State.reset.modGroup 1 (fun g => { g with st := .running })).setFld .SAR_CTRL_SLOT_EN 0 0xFFFF).setFld .SAR_CALPOS_PHASE 0 0), by decide +kernel⟩
theorem witness_SarTriggersAndConversions_16 : ∃ (s : State) (slice : Nat) (ofs gain : Int) (ok : Bool), (slice < 17) ∧ (s.sliceRetired slice = false) ∧ (s.flag .SAR_CAL_FGCAL = true ∨ (s.fld .SAR_CALPOS_PHASE = 2 ∧ s.stepSlot = slice)) ∧ (calInLimits ofs gain ok = true) :=
  ⟨((State.reset.setFld .SAR_CALPOS_PHASE 0 2).setFld .SAR_CALPOS_STEP 0 15), 15, -8192, 5368709, true, by decide +kernel⟩
theorem witness_SarTriggersAndConversions_17 : ∃ (s : State) (slice : Nat) (ofs gain : Int) (ok : Bool), (slice < 17) ∧ (slice < s.sar.fails.length) ∧ (s.sliceRetired slice = false) ∧ (s.flag .SAR_CAL_FGCAL = true ∨ (s.fld .SAR_CALPOS_PHASE = 2 ∧ s.stepSlot = slice)) ∧ (calInLimits ofs gain ok = false) :=
  ⟨((State.reset.setFld .SAR_CALPOS_PHASE 0 2).setFld .SAR_CALPOS_STEP 0 15), 15, -8193, 0, true, by decide +kernel⟩

theorem witness_ModulatorChannels_1 : ∃ (s : State) (j m : Nat) (e : ClockLoss), (j < 6) ∧ (s.pinOn j = true) ∧ (e = .stopped j ∨ (e = .fast j m ∧ s.fld .MOD_CLK_MODE j = 2 ∧ 260 < m)) ∧ (s.bit .MOD_STAT_CLKLOST 0 j = false) :=
  ⟨(State.reset.setFld .MOD_CLK_MODE 5 1), 5, 0, .stopped 5, by decide +kernel, by decide +kernel, .inl rfl, by decide +kernel⟩
theorem witness_ModulatorChannels_2 : ∃ (s u : State) (j n : Nat) (l : List MdClock) (k : MdClock) (b : Bool), (u = s.feedPin j l) ∧ (u.pinOn j = true) ∧ (u.bankOn 2 = true) ∧ (n < 24) ∧ (n / 4 = j) ∧ (u.hasMd n = true) ∧ (n < u.sd.length) ∧ (b = ((if u.flag .MOD_CLK_EDGE j then k.atFall else k.atRise).getD (n % 4) 0).testBit (u.fld .MOD_CLK_DLY j)) ∧ (u.bit .MOD_DLOST_LOST 0 n = false) ∧ ((u.chan n).bits.head?.any (fun x => x.1 == b) = true) ∧ (32 * 2 ^ u.fld .MOD_CLK_STUCK j ≤ (u.chan n).run + 1) :=
  ⟨((State.reset.setFld .MOD_CLK_MODE 5 1).modChan 23 (fun c => { c with bits := [(true, 0)], run := 2000 * 2000 })), ((State.reset.setFld .MOD_CLK_MODE 5 1).modChan 23 (fun c => { c with bits := [(true, 0)], run := 2000 * 2000 })), 5, 23, [], { rise := 4, fall := 8, atRise := [0, 0, 0, 0xFFFF], atFall := [0, 0, 0, 0] }, true, by decide +kernel⟩
theorem witness_ModulatorChannels_3 : ∃ (s u : State) (j n : Nat) (l : List MdClock) (k : MdClock) (b : Bool), (s.bit .MOD_STAT_CLKLOST 0 j = false) ∧ (u = s.feedPin j l) ∧ (u.pinOn j = true) ∧ (u.bankOn 2 = true) ∧ (n < 24) ∧ (n / 4 = j) ∧ (u.hasMd n = true) ∧ (n < u.sd.length) ∧ (b = ((if u.flag .MOD_CLK_EDGE j then k.atFall else k.atRise).getD (n % 4) 0).testBit (u.fld .MOD_CLK_DLY j)) ∧ (u.bit .MOD_DLOST_LOST 0 n = true) ∧ ((u.chan n).bits.head?.all (fun x => x.1 != b) = true) :=
  ⟨((State.reset.setFld .MOD_CLK_MODE 5 1).setBit .MOD_DLOST_LOST 0 23 true), ((State.reset.setFld .MOD_CLK_MODE 5 1).setBit .MOD_DLOST_LOST 0 23 true), 5, 23, [], { rise := 4, fall := 8, atRise := [0, 0, 0, 0xFFFF], atFall := [0, 0, 0, 0] }, true, by decide +kernel⟩
theorem witness_ModulatorChannels_4 : ∃ (s : State) (j : Nat), (j < 6) ∧ (s.pinOn j = true) ∧ (s.bankOn 2 = true) ∧ (s.bit .MOD_STAT_CLKLOST 0 j = true) :=
  ⟨((State.reset.setFld .MOD_CLK_MODE 5 1).setBit .MOD_STAT_CLKLOST 0 5 true), 5, by decide +kernel⟩
theorem witness_ModulatorChannels_5 : ∃ (s u : State) (j n : Nat) (l : List MdClock) (k : MdClock) (b : Bool), (u = s.feedPin j l) ∧ (u.pinOn j = true) ∧ (u.bankOn 2 = true) ∧ (n < 24) ∧ (n / 4 = j) ∧ (u.hasMd n = true) ∧ (n < u.sd.length) ∧ (b = ((if u.flag .MOD_CLK_EDGE j then k.atFall else k.atRise).getD (n % 4) 0).testBit (u.fld .MOD_CLK_DLY j)) ∧ (u.bit .MOD_CTRL_CH_EN 0 n = true) ∧ (u.groupRunning 2 = true) ∧ (u.chanLost n = false) ∧ ((u.chan n).bits.head?.all (fun x => x.1 != b) = true ∨ (u.chan n).run + 1 < 32 * 2 ^ u.fld .MOD_CLK_STUCK j) ∧ (if u.fld .MOD_CFG_SYNC n = 1 then (u.chan n).syncDue = true ∨ u.fld .MOD_CFG_OSR n ≤ (u.chan n).since + 1
      else ((u.chan n).edges + 1) % u.fld .MOD_CFG_OSR n = 0) :=
  ⟨((State.reset.modGroup 2 (fun g => { g with st := .running })).setFld .MOD_CTRL_CH_EN 0 0xFFFFFF |>.setFld .MOD_CLK_MODE 5 1 |>.modChan 23 (fun c => { c with edges := 31, outs := [7], centre := some 5, rampStep := 4, markEn := 0 })), ((State.reset.modGroup 2 (fun g => { g with st := .running })).setFld .MOD_CTRL_CH_EN 0 0xFFFFFF |>.setFld .MOD_CLK_MODE 5 1 |>.modChan 23 (fun c => { c with edges := 31, outs := [7], centre := some 5, rampStep := 4, markEn := 0 })), 5, 23, [], { rise := 4, fall := 8, atRise := [0, 0, 0, 0xFFFF], atFall := [0, 0, 0, 0] }, true, by decide +kernel⟩
theorem witness_ModulatorChannels_6 : ∃ (s u : State) (j n : Nat) (l : List MdClock) (k : MdClock) (b : Bool), (u = s.feedPin j l) ∧ (u.pinOn j = true) ∧ (u.bankOn 2 = true) ∧ (n < 24) ∧ (n / 4 = j) ∧ (u.hasMd n = true) ∧ (n < u.sd.length) ∧ (b = ((if u.flag .MOD_CLK_EDGE j then k.atFall else k.atRise).getD (n % 4) 0).testBit (u.fld .MOD_CLK_DLY j)) ∧ (u.bit .MOD_CTRL_CH_EN 0 n = true) ∧ (u.groupRunning 2 = true) ∧ (u.bit .MOD_STAT_CLKLOST 0 j = true) ∧ (u.fld .MOD_CFG_SYNC n ≠ 1) ∧ (((u.chan n).edges + 1) % u.fld .MOD_CFG_OSR n = 0) :=
  ⟨(((State.reset.modGroup 2 (fun g => { g with st := .running })).setFld .MOD_CTRL_CH_EN 0 0xFFFFFF |>.setFld .MOD_CLK_MODE 5 1 |>.modChan 23 (fun c => { c with edges := 31, outs := [7], centre := some 5, rampStep := 4, markEn := 0 })).setBit .MOD_STAT_CLKLOST 0 5 true), (((State.reset.modGroup 2 (fun g => { g with st := .running })).setFld .MOD_CTRL_CH_EN 0 0xFFFFFF |>.setFld .MOD_CLK_MODE 5 1 |>.modChan 23 (fun c => { c with edges := 31, outs := [7], centre := some 5, rampStep := 4, markEn := 0 })).setBit .MOD_STAT_CLKLOST 0 5 true), 5, 23, [], { rise := 4, fall := 8, atRise := [0, 0, 0, 0xFFFF], atFall := [0, 0, 0, 0] }, true, by decide +kernel⟩
theorem witness_ModulatorChannels_7 : ∃ (s u : State) (j n : Nat) (l : List MdClock) (k : MdClock) (b : Bool), (u = s.feedPin j l) ∧ (u.pinOn j = true) ∧ (u.bankOn 2 = true) ∧ (n < 24) ∧ (n / 4 = j) ∧ (u.hasMd n = true) ∧ (n < u.sd.length) ∧ (b = ((if u.flag .MOD_CLK_EDGE j then k.atFall else k.atRise).getD (n % 4) 0).testBit (u.fld .MOD_CLK_DLY j)) ∧ (u.flag .MOD_GCFG_GEN n = true) ∧ (guardSpan (u.fld .MOD_CFG_GOSR n) ≤ (u.chan n).guardTaken + 1) ∧ (guardValue (u.fld .MOD_CFG_GOSR n) ((u.chan n).take b 0).levels < u.sfld .MOD_GTHR_LO n ∨ u.sfld .MOD_GTHR_HI n < guardValue (u.fld .MOD_CFG_GOSR n) ((u.chan n).take b 0).levels) :=
  ⟨((((((State.reset.setFld .MOD_CLK_MODE 5 1).setFld .MOD_GCFG_GEN 23 1).setFld .MOD_GTHR_HI 23 0).setFld .MOD_CFG_GOSR 23 8).setFld .MOD_GCFG_TRIPPED 23 0).modChan 23 (fun c => { c with bits := List.replicate 20 (true, 0), run := 20, guardTaken := 20 })), ((((((State.reset.setFld .MOD_CLK_MODE 5 1).setFld .MOD_GCFG_GEN 23 1).setFld .MOD_GTHR_HI 23 0).setFld .MOD_CFG_GOSR 23 8).setFld .MOD_GCFG_TRIPPED 23 0).modChan 23 (fun c => { c with bits := List.replicate 20 (true, 0), run := 20, guardTaken := 20 })), 5, 23, [], { rise := 4, fall := 8, atRise := [0, 0, 0, 0xFFFF], atFall := [0, 0, 0, 0] }, true, by decide +kernel⟩
theorem witness_ModulatorChannels_8 : ∃ (s u : State) (j n : Nat) (l : List MdClock) (k : MdClock) (b : Bool), (u = s.feedPin j l) ∧ (u.pinOn j = true) ∧ (u.bankOn 2 = true) ∧ (n < 24) ∧ (n / 4 = j) ∧ (u.hasMd n = true) ∧ (n < u.sd.length) ∧ (b = ((if u.flag .MOD_CLK_EDGE j then k.atFall else k.atRise).getD (n % 4) 0).testBit (u.fld .MOD_CLK_DLY j)) ∧ (u.flag .MOD_GCFG_GEN n = true) ∧ ((u.chan n).initial = true) ∧ (u.chanLost n = false) ∧ ((u.chan n).bits.head?.all (fun x => x.1 != b) = true ∨ (u.chan n).run + 1 < 32 * 2 ^ u.fld .MOD_CLK_STUCK j) ∧ (guardSpan (u.fld .MOD_CFG_GOSR n) ≤ (u.chan n).guardTaken + 1) ∧ (u.sfld .MOD_GTHR_LO n ≤ guardValue (u.fld .MOD_CFG_GOSR n) ((u.chan n).take b 0).levels) ∧ (guardValue (u.fld .MOD_CFG_GOSR n) ((u.chan n).take b 0).levels ≤ u.sfld .MOD_GTHR_HI n) :=
  ⟨((((State.reset.setFld .MOD_CLK_MODE 5 1).setFld .MOD_GCFG_GEN 23 1).setFld .MOD_CFG_GOSR 23 8).modChan 23 (fun c => { c with bits := List.replicate 20 (true, 0), run := 20, guardTaken := 20, initial := true })), ((((State.reset.setFld .MOD_CLK_MODE 5 1).setFld .MOD_GCFG_GEN 23 1).setFld .MOD_CFG_GOSR 23 8).modChan 23 (fun c => { c with bits := List.replicate 20 (true, 0), run := 20, guardTaken := 20, initial := true })), 5, 23, [], { rise := 4, fall := 8, atRise := [0, 0, 0, 0xFFFF], atFall := [0, 0, 0, 0] }, true, by decide +kernel⟩
theorem witness_ModulatorChannels_9 : ∃ (s : State) (core n : Nat) (clr : Bool), (s.reaches core .modulator (0x4300010C + 0x20 * n)) ∧ (s.hasMd n = true) ∧ (s.flag .MOD_GCFG_LATCH n = true) ∧ (s.lossHolds n = false) ∧ (s.guardFull n = true) :=
  ⟨(State.reset.setFld .MOD_GCFG_LATCH 23 1 |>.modChan 23 (fun c => { c with bits := List.replicate 30 (true, 0), guardTaken := 30 })), 0, 23, true, by decide +kernel⟩
theorem witness_ModulatorChannels_10 : ∃ (s : State) (core n fdly : Nat), (s.reaches core .modulator (0x43000104 + 0x20 * n)) ∧ (s.hasMd n = true) ∧ (n < s.sd.length) ∧ (s.fld .MOD_CFG_SYNC n ≠ 1 ∨ fdly = 0) ∧ (fdly < 1024) :=
  ⟨State.reset, 0, 23, 1023, by decide +kernel⟩
theorem witness_ModulatorChannels_11 : ∃ (s : State) (core n fdly : Nat), (s.reaches core .modulator (0x43000104 + 0x20 * n)) ∧ (s.hasMd n = true) ∧ (s.fld .MOD_CFG_SYNC n = 1) ∧ (fdly % 1024 ≠ 0) :=
  ⟨(State.reset.setFld .MOD_CFG_SYNC 23 1), 0, 23, 1, by decide +kernel⟩

theorem witness_ComparatorsAndTrips_1 : ∃ (s : State) (c : Nat) (level : Int), (s.wcWorks c = true) ∧ (c < s.trip.chans.length) ∧ ((s.fld .WC_CFG_MODE c ≤ 1 ∧ mvOf (s.fld .WC_THR_HI c) < level) ∨ ((s.fld .WC_CFG_MODE c = 0 ∨ s.fld .WC_CFG_MODE c = 2) ∧ level < mvOf (s.fld .WC_THR_LO c))) ∧ (s.flag .WC_CFG_TRIPPED c = false) ∧ ((s.wc c).blanked = false) :=
  ⟨(((State.reset.setFld .WC_CFG_TRIPPED 47 0).setFld .WC_CFG_MODE 47 2).setFld .WC_THR_LO 47 1), 47, 0, by decide +kernel⟩
theorem witness_ComparatorsAndTrips_2 : ∃ (s : State) (c : Nat) (level : Int), (s.wcWorks c = true) ∧ (c < s.trip.chans.length) ∧ (s.flag .WC_CFG_TRIPPED c = true ∨ (s.wc c).blanked = true ∨ ¬((s.fld .WC_CFG_MODE c ≤ 1 ∧ mvOf (s.fld .WC_THR_HI c) < level) ∨ ((s.fld .WC_CFG_MODE c = 0 ∨ s.fld .WC_CFG_MODE c = 2) ∧ level < mvOf (s.fld .WC_THR_LO c)))) :=
  ⟨(State.reset.setFld .WC_CFG_MODE 47 1), 47, 5, by decide +kernel⟩
theorem witness_ComparatorsAndTrips_3 : ∃ (s : State) (c : Nat) (level : Int), (s.wcWorks c = true) ∧ (c < s.trip.chans.length) :=
  ⟨(((State.reset.setFld .WC_CFG_TRIPPED 47 0).setFld .WC_CFG_MODE 47 1).modWc 47 (fun p => { p with blanked := true })), 47, 16385, by decide +kernel⟩
theorem witness_ComparatorsAndTrips_4 : ∃ (s : State) (core c : Nat) (level : Int), (s.reaches core .comparator (0x44000104 + 0x10 * c)) ∧ (s.wcWorks c = true) ∧ (c < s.trip.chans.length) ∧ (s.flag .WC_CFG_LATCH c = true ∨ s.flag .PWM_RUN_CNT_EN (s.fld .WC_CFG_LINK c) = false) ∧ ((s.fld .WC_CFG_MODE c ≤ 1 → level < mvOf (s.fld .WC_THR_HI c) - mvOf (s.fld .WC_CFG_HYST c))) ∧ ((s.fld .WC_CFG_MODE c = 0 ∨ s.fld .WC_CFG_MODE c = 2 → mvOf (s.fld .WC_THR_LO c) + mvOf (s.fld .WC_CFG_HYST c) < level)) :=
  ⟨(((State.reset.setFld .WC_THR_HI 47 4095).setFld .WC_CFG_TRIPPED 47 1).setFld .WC_CFG_LATCH 47 1), 0, 47, 8000, by decide +kernel⟩
theorem witness_ComparatorsAndTrips_5 : ∃ (s : State) (core c : Nat) (level : Int), (s.reaches core .comparator (0x44000104 + 0x10 * c)) ∧ (s.wcWorks c = true) ∧ (c < s.trip.chans.length) ∧ (s.flag .WC_CFG_TRIPPED c = true) ∧ ((s.flag .WC_CFG_LATCH c = false ∧ s.flag .PWM_RUN_CNT_EN (s.fld .WC_CFG_LINK c) = true) ∨ ¬((s.fld .WC_CFG_MODE c ≤ 1 → level < mvOf (s.fld .WC_THR_HI c) - mvOf (s.fld .WC_CFG_HYST c)) ∧ (s.fld .WC_CFG_MODE c = 0 ∨ s.fld .WC_CFG_MODE c = 2 → mvOf (s.fld .WC_THR_LO c) + mvOf (s.fld .WC_CFG_HYST c) < level))) :=
  ⟨(State.reset.setFld .WC_CFG_MODE 47 1 |>.setFld .WC_CFG_TRIPPED 47 1), 0, 47, 16380, by decide +kernel⟩
theorem witness_ComparatorsAndTrips_6 : ∃ (s : State) (c : Nat) (level : Int), (s.wcWorks c = true) ∧ (c < s.trip.chans.length) ∧ ((s.wc c).initial = true) ∧ (s.flag .WC_CFG_TRIPPED c = true) ∧ (s.fld .WC_CFG_MODE c ≤ 1 → (s.wc c).seenHi = true ∨ level < mvOf (s.fld .WC_THR_HI c) - mvOf (s.fld .WC_CFG_HYST c)) ∧ (s.fld .WC_CFG_MODE c = 0 ∨ s.fld .WC_CFG_MODE c = 2 → (s.wc c).seenLo = true ∨ mvOf (s.fld .WC_THR_LO c) + mvOf (s.fld .WC_CFG_HYST c) < level) ∧ (¬((s.fld .WC_CFG_MODE c ≤ 1 ∧ mvOf (s.fld .WC_THR_HI c) < level) ∨ ((s.fld .WC_CFG_MODE c = 0 ∨ s.fld .WC_CFG_MODE c = 2) ∧ level < mvOf (s.fld .WC_THR_LO c)))) :=
  ⟨((State.reset.setFld .WC_CFG_MODE 47 1).setFld .WC_CFG_TRIPPED 47 1 |>.modWc 47 (fun p => { p with initial := true })), 47, -1, by decide +kernel⟩
theorem witness_ComparatorsAndTrips_7 : ∃ (s : State) (c : Nat) (level : Int), (s.wcWorks c = true) ∧ (c < s.trip.chans.length) ∧ ((s.wc c).initial = true) ∧ (s.flag .WC_CFG_TRIPPED c = true) ∧ ((s.fld .WC_CFG_MODE c ≤ 1 ∧ mvOf (s.fld .WC_THR_HI c) < level) ∨ ((s.fld .WC_CFG_MODE c = 0 ∨ s.fld .WC_CFG_MODE c = 2) ∧ level < mvOf (s.fld .WC_THR_LO c))) :=
  ⟨(State.reset.setFld .WC_THR_LO 47 1 |>.setFld .WC_THR_HI 47 4095 |>.setFld .WC_CFG_TRIPPED 47 1 |>.modWc 47 (fun p => { p with initial := true })), 47, 0, by decide +kernel⟩
theorem witness_ComparatorsAndTrips_8 : ∃ (s : State) (core c lo hi : Nat), (s.reaches core .comparator (0x44000100 + 0x10 * c)) ∧ (s.hasWc c = true) ∧ (lo < 4096) ∧ (hi < 4096) ∧ (s.fld .WC_CFG_MODE c ≠ 0 ∨ lo + s.fld .WC_CFG_HYST c < hi - s.fld .WC_CFG_HYST c) :=
  ⟨State.reset, 0, 47, 0, 4095, by decide +kernel⟩
theorem witness_ComparatorsAndTrips_9 : ∃ (s : State) (core c lo hi : Nat), (s.reaches core .comparator (0x44000100 + 0x10 * c)) ∧ (s.hasWc c = true) ∧ (lo < 4096) ∧ (hi < 4096) ∧ (s.fld .WC_CFG_MODE c = 0) ∧ (hi - s.fld .WC_CFG_HYST c ≤ lo + s.fld .WC_CFG_HYST c) :=
  ⟨State.reset, 0, 47, 4095, 4095, by decide +kernel⟩
theorem witness_ComparatorsAndTrips_10 : ∃ (s : State) (g : Nat), (g < 8) ∧ (s.trip.risen.testBit g = true) ∧ (s.edgeStopped = false) :=
  ⟨{ State.reset with trip := { State.reset.trip with risen := 128 } }, 7, by decide +kernel⟩

theorem witness_PwmCounterEvents_1 : ∃ (s : State) (m : Nat) (wcin : List (Nat × Int)), (s.counts m = true) ∧ (s.overwritten m 0 = false) :=
  ⟨(State.reset.setFld .PWM_RUN_CNT_EN 18 1), 18, [], by decide +kernel⟩
theorem witness_PwmCounterEvents_2 : ∃ (s : State) (m : Nat) (wcin : List (Nat × Int)), (s.counts m = true) ∧ (s.overwritten m 0 = false) ∧ (s.fld .PWM_CTRL_CMODE m = 1 ∨ (s.pm m).wait = []) :=
  ⟨(State.reset.setFld .PWM_RUN_CNT_EN 18 1), 18, [], by decide +kernel⟩
theorem witness_PwmCounterEvents_3 : ∃ (s : State) (m : Nat) (wcin : List (Nat × Int)), (s.counts m = true) ∧ (s.overwritten m (s.per m) = false) :=
  ⟨(State.reset.setFld .PWM_RUN_CNT_EN 18 1), 18, [], by decide +kernel⟩
theorem witness_PwmCounterEvents_4 : ∃ (s : State) (m : Nat) (wcin : List (Nat × Int)), (s.counts m = true) ∧ (s.overwritten m (s.per m) = false) ∧ (s.fld .PWM_CTRL_CMODE m ≠ 1 ∨ (s.pm m).wait = []) :=
  ⟨((State.reset.setFld .PWM_RUN_CNT_EN 18 1).setFld .PWM_CTRL_RLD 18 1), 18, [], by decide +kernel⟩
theorem witness_PwmCounterEvents_5 : ∃ (s : State) (m which : Nat) (falling : Bool), (s.counts m = true) ∧ (which < 2) ∧ (s.tcmp m which ≤ s.per m) ∧ ((s.fld (if which = 0 then .PWM_TCFG_T0DIR else .PWM_TCFG_T1DIR) m) ≠ 0) ∧ ((s.fld .PWM_CTRL_CMODE m = 2 ∧ (s.tcmp m which = 0 ∨ s.tcmp m which = s.per m)) ∨
      (s.fld (if which = 0 then .PWM_TCFG_T0DIR else .PWM_TCFG_T1DIR) m).testBit (if s.fld .PWM_CTRL_CMODE m = 1 ∨ (s.fld .PWM_CTRL_CMODE m = 2 ∧ falling = true) then 1 else 0) = true) :=
  ⟨(((State.reset.setFld .PWM_RUN_CNT_EN 18 1).setFld .PWM_TCFG_T1DIR 18 1).setFld .PWM_INT_ISEL 18 7), 18, 1, false, by decide +kernel⟩
theorem witness_PwmCounterEvents_6 : ∃ (s : State) (m which : Nat) (falling : Bool), (which < 2) ∧ (s.per m < s.tcmp m which ∨ (s.fld (if which = 0 then .PWM_TCFG_T0DIR else .PWM_TCFG_T1DIR) m) = 0) :=
  ⟨(State.reset.setFld .PWM_RUN_CNT_EN 18 1), 18, 1, false, by decide +kernel⟩
theorem witness_PwmCounterEvents_7 : ∃ (s : State) (m act : Nat) (b falling : Bool), (s.counts m = true) ∧ (m < s.pwm.mods.length) ∧ ((s.eventAt m (3 + 2 * b.toNat + falling.toNat)).isSome = true) ∧ (s.winner m false ((s.eventAt m (3 + 2 * b.toNat + falling.toNat)).getD 0) = some ((3 + 2 * b.toNat + falling.toNat), act)) :=
  ⟨(((State.reset.setFld .PWM_RUN_CNT_EN 18 1).setFld .PWM_CTABH_EVT0 18 3).setFld .PWM_CTABH_ACT0 18 2), 18, 2, false, false, by decide +kernel⟩
theorem witness_PwmCounterEvents_8 : ∃ (s : State) (m : Nat) (wcin : List (Nat × Int)), s.counts m = false ∨ s.overwritten m 0 = true :=
  ⟨State.reset, 18, [], by decide +kernel⟩
theorem witness_PwmCounterEvents_9 : ∃ (s : State) (core m isel presc : Nat) (ien clr : Bool), (s.reaches core .pwm (pwmAddr m 0x30)) ∧ (isel < 8) ∧ (presc < 16) :=
  ⟨State.reset, 0, 18, 7, 15, true, true, by decide +kernel⟩

theorem witness_PwmShadowsOutputsAndDelayLines_1 : ∃ (s : State) (core m w value : Nat), (s.reaches core .pwm (shdAddr m w false)) ∧ (s.hasPm m = true) ∧ (w < 3) ∧ (core < s.pwm.holds.length) :=
  ⟨{ State.reset with pwm := { State.reset.pwm with holds := [some (23, 1, 5), none, none, none] } }, 0, 23, 2, 9, by decide +kernel⟩
theorem witness_PwmShadowsOutputsAndDelayLines_2 : ∃ (s : State) (core m w lo value : Nat), (s.reaches core .pwm (shdAddr m w true)) ∧ (s.hasPm m = true) ∧ (w < 3) ∧ (core < s.pwm.holds.length) ∧ (s.pwm.holds.getD core none = some (m, w, lo)) ∧ (lo < 2 ^ 32) :=
  ⟨{ State.reset with pwm := { State.reset.pwm with holds := [some (23, 1, 5), none, none, none] } }, 0, 23, 1, 5, 7, by decide +kernel⟩
theorem witness_PwmShadowsOutputsAndDelayLines_3 : ∃ (s : State) (core m w value : Nat), (s.reaches core .pwm (shdAddr m w true)) ∧ (s.hasPm m = true) ∧ (w < 3) ∧ (core < s.pwm.holds.length) ∧ (∀ x ∈ s.pwm.holds.getD core none, (x.1, x.2.1) ≠ (m, w)) :=
  ⟨{ State.reset with pwm := { State.reset.pwm with holds := [some (23, 1, 5), none, none, none] } }, 0, 23, 2, 7, by decide +kernel⟩
theorem witness_PwmShadowsOutputsAndDelayLines_4 : ∃ (s : State) (m : Nat) (e : Staged) (l r : List Staged), (m < 24) ∧ (m < s.pwm.mods.length) ∧ ((s.pm m).moving = l ++ e :: r) ∧ (s.mayMove m e.engine = true) ∧ (e.word < 3) ∧ (∀ x ∈ r, x.word = e.word → s.mayMove m x.engine = false) ∧ (∀ x ∈ l ++ r, x.word < 3) :=
  ⟨((State.reset.setFld .HP_STAT_HOLDER 0 1).modPm 23 (fun p => { p with moving := [{ engine := 0, word := 1, value := 3 }, { engine := 0, word := 0, value := 9 }] })), 23, { engine := 0, word := 0, value := 9 }, [{ engine := 0, word := 1, value := 3 }], [], by decide +kernel⟩
theorem witness_PwmShadowsOutputsAndDelayLines_5 : ∃ (s : State) (m : Nat), (m < 24) ∧ (m < s.pwm.mods.length) ∧ ((s.pm m).moving ≠ []) ∧ (∀ e ∈ (s.pm m).moving, s.mayMove m e.engine = false) :=
  ⟨(State.reset.modPm 23 (fun p => { p with moving := [{ engine := 0, word := 0, value := 9 }] })), 23, by decide +kernel⟩
theorem witness_PwmShadowsOutputsAndDelayLines_6 : ∃ (s : State) (m r : Nat) (low : Bool), (m < s.pwm.mods.length) ∧ ((s.pm m).mode = .follow) ∧ ((if low then (s.pm m).riseLo else (s.pm m).riseHi) = some r) ∧ (if low then (if s.complementary m then (s.pm m).he = false else (s.pm m).le = true) else (s.pm m).he = true) ∧ ((s.pm m).refresh = 0) ∧ (s.complementary m = true ∨ s.sizeL = false ∨ (if low then (s.pm m).hi else (s.pm m).lo) = false) :=
  ⟨(State.reset.modPm 23 (fun p => { p with riseHi := some 5, he := true, mode := .follow })), 23, 5, false, by decide +kernel⟩
theorem witness_PwmShadowsOutputsAndDelayLines_7 : ∃ (s : State) (m r : Nat), (m < s.pwm.mods.length) ∧ ((s.pm m).mode = .follow) ∧ ((s.pm m).riseHi = some r) ∧ ((s.pm m).he = false) ∧ ((s.pm m).fallHi = none) :=
  ⟨(State.reset.modPm 23 (fun p => { p with riseHi := some 5, mode := .follow })), 23, 5, by decide +kernel⟩
theorem witness_PwmShadowsOutputsAndDelayLines_8 : ∃ (s : State) (m r : Nat) (low : Bool), (m < s.pwm.mods.length) ∧ ((s.pm m).mode = .follow) ∧ ((if low then (s.pm m).riseLo else (s.pm m).riseHi) = some r) ∧ (if low then (if s.complementary m then (s.pm m).he = false else (s.pm m).le = true) else (s.pm m).he = true) ∧ ((s.pm m).refresh = 0) ∧ (s.complementary m = false) ∧ (s.sizeL = true) ∧ ((if low then (s.pm m).hi else (s.pm m).lo) = true) ∧ ((s.pm m).fallHi = none) ∧ ((s.pm m).fallLo = none) :=
  ⟨(State.reset.setFld .PWM_CTRL_OUTMODE 23 1 |>.modPm 23 (fun p => { p with riseHi := some 5, he := true, lo := true, outLo := true, mode := .follow })), 23, 5, false, by decide +kernel⟩
theorem witness_PwmShadowsOutputsAndDelayLines_9 : ∃ (s : State) (m r c : Nat) (low : Bool), (m < s.pwm.mods.length) ∧ ((s.pm m).mode ≠ .follow) ∧ ((if low then (s.pm m).dueLo else (s.pm m).dueHi) = some r) ∧ (c < s.trip.chans.length) ∧ (s.fld .WC_CFG_LINK c = m) ∧ (s.bit .WC_CFG_LEBEDGE c low.toNat = true) ∧ (s.fld .WC_LEB_LEBT c ≠ 0) :=
  ⟨(State.reset.setFld .WC_CFG_LINK 47 23 |>.setFld .WC_CFG_LEBEDGE 47 1 |>.setFld .WC_LEB_LEBT 47 1 |>.modPm 23 (fun p => { p with dueHi := some 5 })), 23, 5, 47, false, by decide +kernel⟩
theorem witness_PwmShadowsOutputsAndDelayLines_10 : ∃ (s : State) (m : Nat), (m < s.pwm.mods.length) ∧ ((s.pm m).due = true) ∧ ((∀ x ∈ s.together m, s.lowCause x = false)) ∧ (∀ x ∈ s.together m, s.safeCause x = false) ∧ ((s.pm m).mode ≠ .shoot ∨ s.complementary m = true) :=
  ⟨{ (((State.reset.setFld .HP_STAT_HOLDER 0 1).setFld .PWM_RUN_OUTEN 23 1).modPm 23 (fun p => { p with due := true, mode := .safe })) with gate := { State.reset.gate with force := false } }, 23, by decide +kernel⟩
theorem witness_PwmShadowsOutputsAndDelayLines_11 : ∃ (s : State) (m : Nat), (m < s.pwm.mods.length) ∧ ((s.pm m).due = true) ∧ ((∀ x ∈ s.together m, s.lowCause x = false)) ∧ (∃ x ∈ s.together m, s.safeCause x = true) :=
  ⟨{ (((State.reset.setFld .HP_STAT_HOLDER 0 1).setFld .PWM_RUN_OUTEN 23 1).setFld .PWM_STAT_TRIPPED 23 1 |>.modPm 23 (fun p => { p with due := true })) with gate := { State.reset.gate with force := false } }, 23, by decide +kernel⟩

theorem witness_PwmEnablesAndStarts_1 : ∃ (s : State) (core m : Nat), (s.reaches core .pwm (pwmAddr m 4)) ∧ (s.hasPm m = true) ∧ (s.isEntitled (coreWing core) m = true) ∧ (s.prefectBlocks = false) ∧ (s.bit .GI_SHUT_BUSY 0 m = false) ∧ (s.bit .GI_LOCKED_LOCK 0 m = false) :=
  ⟨((State.reset.setFld .HP_STAT_HOLDER 0 1).setFld .PF_STAT_STATE 0 6), 0, 23, by decide +kernel⟩
theorem witness_PwmEnablesAndStarts_2 : ∃ (s : State) (core m : Nat), (s.reaches core .pwm (pwmAddr m 4)) ∧ (s.hasPm m = true) ∧ (s.isEntitled (coreWing core) m = true) ∧ (s.prefectBlocks = true ∨ (s.bit .GI_SHUT_BUSY 0 m = false ∧ s.bit .GI_LOCKED_LOCK 0 m = true)) :=
  ⟨((State.reset.setFld .HP_STAT_HOLDER 0 1).setFld .PF_STAT_STATE 0 1), 0, 23, by decide +kernel⟩
theorem witness_PwmEnablesAndStarts_3 : ∃ (s : State) (core m : Nat), (s.reaches core .pwm (pwmAddr m 4)) ∧ (s.hasPm m = true) ∧ (s.isEntitled (coreWing core) m = true) ∧ (s.prefectBlocks = false) ∧ (s.bit .GI_SHUT_BUSY 0 m = true) ∧ (m < 24) :=
  ⟨(((State.reset.setFld .HP_STAT_HOLDER 0 1).setFld .PF_STAT_STATE 0 6).setBit .GI_SHUT_BUSY 0 23 true), 0, 23, by decide +kernel⟩
theorem witness_PwmEnablesAndStarts_4 : ∃ (s : State) (core m : Nat), (s.reaches core .pwm (pwmAddr m 4)) ∧ (s.hasPm m = true) ∧ (s.isEntitled (coreWing core) m = false) :=
  ⟨State.reset, 0, 23, by decide +kernel⟩
theorem witness_PwmEnablesAndStarts_5 : ∃ (s : State) (core m : Nat), (s.reaches core .pwm (pwmAddr m 4)) ∧ (s.hasPm m = true) :=
  ⟨(State.reset.setFld .PWM_RUN_OUTEN 23 1), 0, 23, by decide +kernel⟩
theorem witness_PwmEnablesAndStarts_6 : ∃ (s : State) (core m : Nat), (s.reaches core .pwm (pwmAddr m 4)) ∧ (s.hasPm m = true) :=
  ⟨State.reset, 0, 23, by decide +kernel⟩
theorem witness_PwmEnablesAndStarts_7 : ∃ (s : State) (core m : Nat), (s.reaches core .pwm (pwmAddr m 4)) ∧ (s.hasPm m = true) :=
  ⟨State.reset, 0, 23, by decide +kernel⟩
theorem witness_PwmEnablesAndStarts_8 : ∃ (s : State) (core m : Nat) (on : Bool), s.reaches core .pwm (pwmAddr m 4) :=
  ⟨State.reset, 0, 18, true, by decide +kernel⟩
theorem witness_PwmEnablesAndStarts_9 : ∃ (s : State) (core mask : Nat), s.reaches core .pwm 0x40001800 :=
  ⟨State.reset, 0, 1, by decide +kernel⟩
theorem witness_PwmEnablesAndStarts_10 : ∃ (s : State) (mask m : Nat) (rest : List Nat), (s.pwm.gstart = mask :: rest) ∧ (m < 24) ∧ (mask.testBit m = true) ∧ (s.hasPm m = true) :=
  ⟨{ State.reset with pwm := { State.reset.pwm with gstart := [0x800000] } }, 0x800000, 23, [], by decide +kernel⟩
theorem witness_PwmEnablesAndStarts_11 : ∃ (s : State) (m : Nat), (s.isHead m = true) ∧ (s.flag .PWM_RUN_ARM m = true) :=
  ⟨(State.reset.setFld .PWM_RUN_ARM 18 1), 18, by decide +kernel⟩
theorem witness_PwmEnablesAndStarts_12 : ∃ (s : State) (m : Nat) (l : LinkPulse), (s.pwm.links.find? (fun l => l.dest == m) = some l) ∧ (s.hasPm m = true) ∧ (m < s.pwm.mods.length) :=
  ⟨{ ((State.reset.setFld .PWM_CTRL_FOLLOW 23 1).setFld .PWM_RUN_CNT_EN 23 1) with pwm := { State.reset.pwm with links := [{ dest := 23, sent := 0, latency := 2 }] } }, 23, { dest := 23, sent := 0, latency := 2 }, by decide +kernel⟩

theorem witness_GateDriversAndResponses_1 : ∃ (s : State) (mask ended m : Nat), (m < 24) ∧ (mask.testBit m = true) ∧ (s.hasPm m = true) ∧ (s.samples = true) ∧ (s.bit .GI_FLTLVL_LOW 0 m = false) ∧ (s.fltLive m = true) ∧ (s.gate.blank.testBit m = false ∨ ended.testBit m = true) :=
  ⟨((State.reset.setFld .GI_CH_FLTEN 23 1).setFld .PWM_RUN_OUTEN 23 1), 0x800000, 0, 23, by decide +kernel⟩
theorem witness_GateDriversAndResponses_2 : ∃ (s : State) (mask ended m : Nat), (m < 24) ∧ (mask.testBit m = true) ∧ (s.hasPm m = true) ∧ (s.samples = true) ∧ (s.bit .GI_FLTLVL_LOW 0 m = false) ∧ (s.fltLive m = true) ∧ (s.gate.blank.testBit m = true) ∧ (ended.testBit m = false) :=
  ⟨{ ((State.reset.setFld .GI_CH_FLTEN 23 1).setFld .PWM_RUN_OUTEN 23 1) with gate := { State.reset.gate with blank := 0x800000 } }, 0x800000, 0, 23, by decide +kernel⟩
theorem witness_GateDriversAndResponses_3 : ∃ (s : State) (mask ended m : Nat), (m < 24) ∧ (mask.testBit m = true) ∧ (s.hasPm m = true) ∧ (s.samples = true) ∧ (s.bit .GI_FLTLVL_LOW 0 m = false) ∧ (s.fltLive m = false) :=
  ⟨State.reset, 0x800000, 0, 23, by decide +kernel⟩
theorem witness_GateDriversAndResponses_4 : ∃ (s : State) (mask m ts : Nat) (l r : List (Nat × Nat)), (m < 24) ∧ (mask.testBit m = true) ∧ (s.samples = true) ∧ (s.gate.blank.testBit m = true) ∧ (s.gate.fltWaits = l ++ (m, ts) :: r) ∧ (∀ e ∈ l ++ r, e.1 ≠ m) ∧ (s.bit .GI_FLTLVL_LOW 0 m = true) :=
  ⟨{ (((State.reset.setFld .GI_CH_FLTEN 23 1).setFld .PWM_RUN_OUTEN 23 1).setBit .GI_FLTLVL_LOW 0 23 true) with gate := { State.reset.gate with blank := 0x800000, fltWaits := [(23, 5)] } }, 0x800000, 23, 5, [], [], by decide +kernel⟩
theorem witness_GateDriversAndResponses_5 : ∃ (s : State) (m : Nat), (m < 24) ∧ (s.hasPm m = true) ∧ (s.samples = true) ∧ (s.bankOn 1 = true) :=
  ⟨(State.reset.setBit .GI_FLTLVL_LOW 0 23 true), 23, by decide +kernel⟩
theorem witness_GateDriversAndResponses_6 : ∃ (s : State) (m : Nat), (m < 24) ∧ (s.hasPm m = true) ∧ (s.samples = true) ∧ (s.bankOn 1 = true) :=
  ⟨State.reset, 23, by decide +kernel⟩
theorem witness_GateDriversAndResponses_7 : ∃ (s : State) (m : Nat), (m < 24) ∧ (s.hasPm m = true) ∧ (s.samples = true) :=
  ⟨(State.reset.setFld .GI_CH_RDYCHK 23 1 |>.setFld .PWM_STAT_OUTACT 23 1), 23, by decide +kernel⟩
theorem witness_GateDriversAndResponses_8 : ∃ (s : State) (m : Nat), (m < 24) ∧ (m < s.pwm.mods.length) ∧ (s.hasPm m = true) ∧ (s.sizeL = true) ∧ ((s.pm m).shot = true) :=
  ⟨(State.reset.modPm 23 (fun p => { p with shot := true })), 23, by decide +kernel⟩
theorem witness_GateDriversAndResponses_9 : ∃ (s : State) (core i : Nat), (s.reaches core .gate 0x41000010) ∧ (i < 2) ∧ (s.fld .RSP_CFG_ACT (14 + i) = 1 ∨ s.fld .RSP_CFG_ACT (14 + i) = 2) ∧ (∀ m, m < 24 → (s.fld .RSP_MASK_MASK (14 + i)).testBit m = true → s.hasPm m = true → s.isEntitled (coreWing core) m = true) :=
  ⟨(State.reset.setFld .RSP_CFG_ACT 15 1), 0, 1, by decide +kernel⟩
theorem witness_GateDriversAndResponses_10 : ∃ (s : State) (core i m : Nat), (s.reaches core .gate 0x41000010) ∧ (i < 2) ∧ (m < 24) ∧ ((s.fld .RSP_MASK_MASK (14 + i)).testBit m = true) ∧ (s.hasPm m = true) ∧ (s.isEntitled (coreWing core) m = false) :=
  ⟨(State.reset.setFld .RSP_MASK_MASK 15 0x800000), 0, 1, 23, by decide +kernel⟩
theorem witness_GateDriversAndResponses_11 : ∃ (s : State) (k : Nat), (s.gapRuns k = true) ∧ ((s.gate.gapMods.find? (fun e => e.1 == k)).map (·.2) = some (s.legMods k)) ∧ (∀ m ∈ s.legMods k, m < 24 ∧ m < s.pwm.mods.length ∧ s.legOf m = some k) :=
  ⟨{ (State.reset.setFld .GSEQ_LEG_EN 11 1 |>.setFld .GSEQ_LEG_MA 11 22 |>.setFld .GSEQ_LEG_MB 11 23 |>.setBit .GI_SHUT_BUSY 0 23 true) with gate := { State.reset.gate with gaps := 2 ^ 11, gapMods := [(11, [22, 23])] } }, 11, by decide +kernel⟩
theorem witness_GateDriversAndResponses_12 : ∃ (s : State) (m : Nat), (m < s.pwm.mods.length) ∧ (s.fld .GI_REF_REFRESH_N m ≠ 0) ∧ (s.fld .GI_REF_REFRESH_N m ≤ (s.pm m).refCount) ∧ ((s.pm m).mode = .follow) ∧ ((s.pm m).refresh = 0) :=
  ⟨((State.reset.setFld .GI_REF_REFRESH_N 23 1).modPm 23 (fun p => { p with mode := .follow, refCount := 1 })), 23, by decide +kernel⟩
theorem witness_GateDriversAndResponses_13 : ∃ (s : State) (m : Nat), (m < s.pwm.mods.length) ∧ ((s.pm m).refresh = 1) :=
  ⟨(State.reset.modPm 23 (fun p => { p with refresh := 1 })), 23, by decide +kernel⟩
theorem witness_GateDriversAndResponses_14 : ∃ (s : State) (m : Nat), (m < s.pwm.mods.length) ∧ ((s.pm m).refresh = 2) :=
  ⟨(State.reset.modPm 23 (fun p => { p with refresh := 2 })), 23, by decide +kernel⟩
theorem witness_GateDriversAndResponses_15 : ∃ (s : State) (m : Nat), (m < s.pwm.mods.length) ∧ ((s.pm m).refresh = 3) :=
  ⟨(State.reset.modPm 23 (fun p => { p with refresh := 3 })), 23, by decide +kernel⟩

theorem witness_EngineArithmetic_1 : ∃ (s : State) (n : Nat), s.executes n :=
  ⟨(State.reset.setFld .LE_STAT_RUNNING 11 1), 11, by decide +kernel⟩
theorem witness_EngineArithmetic_2 : ∃ (s : State) (n rd imm : Nat), (s.executes n) ∧ (rd < 32) :=
  ⟨(State.reset.setFld .LE_STAT_RUNNING 11 1), 11, 31, 0x3F800000, by decide +kernel⟩
theorem witness_EngineArithmetic_3 : ∃ (s : State) (n rd ra rb : Nat), (s.executes n) ∧ (rd < 32) :=
  ⟨((State.reset.setFld .LE_STAT_RUNNING 11 1).modEngine 11 (fun e => { e with regs := List.replicate 32 0x3F800000 })), 11, 31, 1, 2, by decide +kernel⟩
theorem witness_EngineArithmetic_4 : ∃ (s : State) (n rd ra rb : Nat), (s.executes n) ∧ (rd < 32) :=
  ⟨((State.reset.setFld .LE_STAT_RUNNING 11 1).modEngine 11 (fun e => { e with regs := List.replicate 32 0x3F800000 })), 11, 31, 1, 2, by decide +kernel⟩
theorem witness_EngineArithmetic_5 : ∃ (s : State) (n rd ra rb : Nat), (s.executes n) ∧ (rd < 32) :=
  ⟨((State.reset.setFld .LE_STAT_RUNNING 11 1).modEngine 11 (fun e => { e with regs := List.replicate 32 0x3F800000 })), 11, 31, 1, 2, by decide +kernel⟩
theorem witness_EngineArithmetic_6 : ∃ (s : State) (n rd ra rb rc : Nat), (s.executes n) ∧ (rd < 32) :=
  ⟨((State.reset.setFld .LE_STAT_RUNNING 11 1).modEngine 11 (fun e => { e with regs := List.replicate 32 0x3F800000 })), 11, 31, 1, 2, 3, by decide +kernel⟩
theorem witness_EngineArithmetic_7 : ∃ (s : State) (n rd ra rb : Nat), (s.executes n) ∧ (rd < 32) :=
  ⟨((State.reset.setFld .LE_STAT_RUNNING 11 1).modEngine 11 (fun e => { e with regs := List.replicate 32 0x3F800000 })), 11, 31, 1, 2, by decide +kernel⟩
theorem witness_EngineArithmetic_8 : ∃ (s : State) (n rd ra : Nat), (s.executes n) ∧ (rd < 32) :=
  ⟨((State.reset.setFld .LE_STAT_RUNNING 11 1).modEngine 11 (fun e => { e with regs := List.replicate 32 0x3F800000 })), 11, 31, 1, by decide +kernel⟩
theorem witness_EngineArithmetic_9 : ∃ (s : State) (n rd ra : Nat), (s.executes n) ∧ (rd < 32) :=
  ⟨((State.reset.setFld .LE_STAT_RUNNING 11 1).modEngine 11 (fun e => { e with regs := List.replicate 32 0x3F800000 })), 11, 31, 1, by decide +kernel⟩
theorem witness_EngineArithmetic_10 : ∃ (s : State) (n rd ra : Nat), (s.executes n) ∧ (rd < 31) :=
  ⟨((State.reset.setFld .LE_STAT_RUNNING 11 1).modEngine 11 (fun e => { e with regs := List.replicate 32 0x3F800000 })), 11, 30, 1, by decide +kernel⟩
theorem witness_EngineArithmetic_11 : ∃ (s : State) (n rd ra rb rc : Nat), (s.executes n) ∧ (rd < 32) :=
  ⟨((State.reset.setFld .LE_STAT_RUNNING 11 1).modEngine 11 (fun e => { e with regs := List.replicate 32 0x3F800000 })), 11, 31, 1, 2, 3, by decide +kernel⟩
theorem witness_EngineArithmetic_12 : ∃ (s : State) (n flag ra rb cond : Nat), s.executes n :=
  ⟨((State.reset.setFld .LE_STAT_RUNNING 11 1).modEngine 11 (fun e => { e with regs := List.replicate 32 0x3F800000 })), 11, 6, 1, 2, 7, by decide +kernel⟩
theorem witness_EngineArithmetic_13 : ∃ (s : State) (n flag every phase : Nat), s.executes n :=
  ⟨(State.reset.setFld .LE_STAT_RUNNING 11 1), 11, 6, 3, 1, by decide +kernel⟩
theorem witness_EngineArithmetic_14 : ∃ (s : State) (n flag count : Nat) (eq : Bool), s.executes n :=
  ⟨(State.reset.setFld .LE_STAT_RUNNING 11 1), 11, 6, 255, true, by decide +kernel⟩

theorem witness_EngineTransformsAndBlocks_1 : ∃ (s : State) (n rd ra rb rc : Nat), (s.executes n) ∧ (rd < 31) :=
  ⟨((State.reset.setFld .LE_STAT_RUNNING 11 1).modEngine 11 (fun e => { e with regs := List.replicate 32 0x3F800000 })), 11, 30, 1, 2, 3, by decide +kernel⟩
theorem witness_EngineTransformsAndBlocks_2 : ∃ (s : State) (n rd ra rb rc : Nat), (s.executes n) ∧ (rd < 31) :=
  ⟨((State.reset.setFld .LE_STAT_RUNNING 11 1).modEngine 11 (fun e => { e with regs := List.replicate 32 0x3F800000 })), 11, 30, 1, 2, 3, by decide +kernel⟩
theorem witness_EngineTransformsAndBlocks_3 : ∃ (s : State) (n rd ra rb rc : Nat), (s.executes n) ∧ (rd < 31) :=
  ⟨((State.reset.setFld .LE_STAT_RUNNING 11 1).modEngine 11 (fun e => { e with regs := List.replicate 32 0x3F800000 })), 11, 30, 1, 2, 3, by decide +kernel⟩
theorem witness_EngineTransformsAndBlocks_4 : ∃ (s : State) (n rd ra rb rc : Nat) (mag : Fp), (s.executes n) ∧ (rd < 31) ∧ (mag = Fp.sqrt b64 (((s.rg n ra).mul (s.rg n ra)).add ((s.rg n rb).mul (s.rg n rb)))) :=
  ⟨((State.reset.setFld .LE_STAT_RUNNING 11 1).modEngine 11 (fun e => { e with regs := List.replicate 32 0x3F800000 })), 11, 30, 1, 2, 3, Fp.sqrt b64 (((((State.reset.setFld .LE_STAT_RUNNING 11 1).modEngine 11 (fun e => { e with regs := List.replicate 32 0x3F800000 })).rg 11 1).mul (((State.reset.setFld .LE_STAT_RUNNING 11 1).modEngine 11 (fun e => { e with regs := List.replicate 32 0x3F800000 })).rg 11 1)).add ((((State.reset.setFld .LE_STAT_RUNNING 11 1).modEngine 11 (fun e => { e with regs := List.replicate 32 0x3F800000 })).rg 11 2).mul (((State.reset.setFld .LE_STAT_RUNNING 11 1).modEngine 11 (fun e => { e with regs := List.replicate 32 0x3F800000 })).rg 11 2))), by decide +kernel⟩
theorem witness_EngineTransformsAndBlocks_5 : ∃ (s : State) (n rd ra rb rc mod : Nat) (x y x1 m : Fp), (s.executes n) ∧ (rd < 31) ∧ (mod = 1 ∨ mod = 2) ∧ (x = (if mod = 1 then s.rg n ra else s.rg n rb)) ∧ (y = (if mod = 1 then s.rg n rb else s.rg n ra)) ∧ (x1 = x.clamp (s.rg n rc).neg (s.rg n rc)) ∧ (m = Fp.sqrt b64 (((s.rg n rc).mul (s.rg n rc)).sub (x1.mul x1))) :=
  ⟨((State.reset.setFld .LE_STAT_RUNNING 11 1).modEngine 11 (fun e => { e with regs := List.replicate 32 0x3F800000 })), 11, 30, 1, 2, 3, 1, ((State.reset.setFld .LE_STAT_RUNNING 11 1).modEngine 11 (fun e => { e with regs := List.replicate 32 0x3F800000 })).rg 11 1, ((State.reset.setFld .LE_STAT_RUNNING 11 1).modEngine 11 (fun e => { e with regs := List.replicate 32 0x3F800000 })).rg 11 2, (((State.reset.setFld .LE_STAT_RUNNING 11 1).modEngine 11 (fun e => { e with regs := List.replicate 32 0x3F800000 })).rg 11 1).clamp (((State.reset.setFld .LE_STAT_RUNNING 11 1).modEngine 11 (fun e => { e with regs := List.replicate 32 0x3F800000 })).rg 11 3).neg (((State.reset.setFld .LE_STAT_RUNNING 11 1).modEngine 11 (fun e => { e with regs := List.replicate 32 0x3F800000 })).rg 11 3), Fp.sqrt b64 (((((State.reset.setFld .LE_STAT_RUNNING 11 1).modEngine 11 (fun e => { e with regs := List.replicate 32 0x3F800000 })).rg 11 3).mul (((State.reset.setFld .LE_STAT_RUNNING 11 1).modEngine 11 (fun e => { e with regs := List.replicate 32 0x3F800000 })).rg 11 3)).sub (((((State.reset.setFld .LE_STAT_RUNNING 11 1).modEngine 11 (fun e => { e with regs := List.replicate 32 0x3F800000 })).rg 11 1).clamp (((State.reset.setFld .LE_STAT_RUNNING 11 1).modEngine 11 (fun e => { e with regs := List.replicate 32 0x3F800000 })).rg 11 3).neg (((State.reset.setFld .LE_STAT_RUNNING 11 1).modEngine 11 (fun e => { e with regs := List.replicate 32 0x3F800000 })).rg 11 3)).mul ((((State.reset.setFld .LE_STAT_RUNNING 11 1).modEngine 11 (fun e => { e with regs := List.replicate 32 0x3F800000 })).rg 11 1).clamp (((State.reset.setFld .LE_STAT_RUNNING 11 1).modEngine 11 (fun e => { e with regs := List.replicate 32 0x3F800000 })).rg 11 3).neg (((State.reset.setFld .LE_STAT_RUNNING 11 1).modEngine 11 (fun e => { e with regs := List.replicate 32 0x3F800000 })).rg 11 3)))), by decide +kernel⟩
theorem witness_EngineTransformsAndBlocks_6 : ∃ (s : State) (n rd ra rb addr : Nat), (s.executes n) ∧ (rd < 32) :=
  ⟨((State.reset.setFld .LE_STAT_RUNNING 11 1).modEngine 11 (fun e => { e with regs := List.replicate 32 0x3F800000 })), 11, 31, 1, 2, 0, by decide +kernel⟩
theorem witness_EngineTransformsAndBlocks_7 : ∃ (s : State) (n rd ra rb addr : Nat), (s.executes n) ∧ (rd < 32) :=
  ⟨((State.reset.setFld .LE_STAT_RUNNING 11 1).modEngine 11 (fun e => { e with regs := List.replicate 32 0x3F800000 })), 11, 31, 1, 2, 0, by decide +kernel⟩
theorem witness_EngineTransformsAndBlocks_8 : ∃ (s : State) (n rd ra addr : Nat), (s.executes n) ∧ (rd < 32) :=
  ⟨((State.reset.setFld .LE_STAT_RUNNING 11 1).modEngine 11 (fun e => { e with regs := List.replicate 32 0x3F800000 })), 11, 31, 1, 0, by decide +kernel⟩
theorem witness_EngineTransformsAndBlocks_9 : ∃ (s : State) (n rd ra rb addr : Nat), (s.executes n) ∧ (rd < 31) :=
  ⟨((State.reset.setFld .LE_STAT_RUNNING 11 1).modEngine 11 (fun e => { e with regs := List.replicate 32 0x3F800000 })), 11, 30, 1, 2, 0, by decide +kernel⟩
theorem witness_EngineTransformsAndBlocks_10 : ∃ (s : State) (n rd ra addr len j : Nat) (u : Fp), (s.executes n) ∧ (rd < 32) ∧ (s.sound n (0x2000 + addr) 4) ∧ (len = s.d32 n (addr + 2)) ∧ (u = (((s.rg n ra).sub (s.r32 n addr)).mul (s.r32 n (addr + 1))).clamp .zero (.ofInt (len - 1 : Nat))) ∧ (j = min u.floor.toNat (len - 2)) ∧ (s.sound n (0x2000 + (addr + 4 + j)) 2) :=
  ⟨((State.reset.setFld .LE_STAT_RUNNING 11 1).setEngWord 11 0x2002 2), 11, 31, 0, 0, 2, 0, (((Fp.of32 0).sub (Fp.of32 0)).mul (Fp.of32 0)).clamp .zero (.ofInt (2 - 1 : Nat)), by decide +kernel⟩

theorem witness_EngineFiltersAndRamps_1 : ∃ (s : State) (n rd ra rb rc addr : Nat) (o : Fp × Fp × Fp × Fp), (s.executes n) ∧ (rd < 29) ∧ (o = ddsrfSpec (fun k => s.r64 n (addr + k)) (s.rg n ra) (s.rg n rb) (s.rg n rc) (s.rg n (rc + 1))) :=
  ⟨((State.reset.setFld .LE_STAT_RUNNING 11 1).modEngine 11 (fun e => { e with regs := List.replicate 32 0x3F800000 })), 11, 28, 1, 2, 3, 0, ddsrfSpec (fun k => ((State.reset.setFld .LE_STAT_RUNNING 11 1).modEngine 11 (fun e => { e with regs := List.replicate 32 0x3F800000 })).r64 11 (0 + k)) (((State.reset.setFld .LE_STAT_RUNNING 11 1).modEngine 11 (fun e => { e with regs := List.replicate 32 0x3F800000 })).rg 11 1) (((State.reset.setFld .LE_STAT_RUNNING 11 1).modEngine 11 (fun e => { e with regs := List.replicate 32 0x3F800000 })).rg 11 2) (((State.reset.setFld .LE_STAT_RUNNING 11 1).modEngine 11 (fun e => { e with regs := List.replicate 32 0x3F800000 })).rg 11 3) (((State.reset.setFld .LE_STAT_RUNNING 11 1).modEngine 11 (fun e => { e with regs := List.replicate 32 0x3F800000 })).rg 11 4), by decide +kernel⟩
theorem witness_EngineFiltersAndRamps_2 : ∃ (s : State) (n rd ra addr : Nat), (s.executes n) ∧ (rd < 29) :=
  ⟨((State.reset.setFld .LE_STAT_RUNNING 11 1).modEngine 11 (fun e => { e with regs := List.replicate 32 0x3F800000 })), 11, 28, 1, 0, by decide +kernel⟩
theorem witness_EngineFiltersAndRamps_3 : ∃ (s : State) (n rd ra addr : Nat), (s.executes n) ∧ (rd < 32) :=
  ⟨((State.reset.setFld .LE_STAT_RUNNING 11 1).modEngine 11 (fun e => { e with regs := List.replicate 32 0x3F800000 })), 11, 31, 1, 0, by decide +kernel⟩
theorem witness_EngineFiltersAndRamps_4 : ∃ (s : State) (n rd ra addr : Nat), (s.executes n) ∧ (rd < 31) :=
  ⟨((((State.reset.setFld .LE_STAT_RUNNING 11 1).modEngine 11 (fun e => { e with regs := List.replicate 32 0x3F800000 })).setEngWord 11 0x2003 0x3F800000)), 11, 30, 1, 0, by decide +kernel⟩
theorem witness_EngineFiltersAndRamps_5 : ∃ (s : State) (n ra rb rc addr : Nat), s.executes n :=
  ⟨((State.reset.setFld .LE_STAT_RUNNING 11 1).modEngine 11 (fun e => { e with regs := List.replicate 32 0x3F800000 })), 11, 1, 2, 3, 0, by decide +kernel⟩
theorem witness_EngineFiltersAndRamps_6 : ∃ (s : State) (n rd ra rb addr : Nat) (y0 : Fp), (s.executes n) ∧ (rd < 32) ∧ (y0 = (if s.d32 n (addr + 4) = 0 ∨ s.engFlag n 3 = true then s.rg n rb else s.r64 n (addr + 2))) :=
  ⟨(State.reset.setFld .LE_STAT_RUNNING 11 1), 11, 31, 1, 2, 0, Fp.of32 0, by decide +kernel⟩
theorem witness_EngineFiltersAndRamps_7 : ∃ (s : State) (n ra rb addr : Nat) (beyond : Bool), (s.executes n) ∧ (beyond = (s.r32 n addr).lt ((s.rg n ra).sub (s.rg n rb)).abs) :=
  ⟨((((State.reset.setFld .LE_STAT_RUNNING 11 1).modEngine 11 (fun e => { e with regs := List.replicate 32 0x3F800000 })).setEngWord 11 0x2001 1).modEngine 11 (fun e => { e with regs := e.regs.set 2 0 })), 11, 1, 2, 0, true, by decide +kernel⟩

theorem witness_EngineMemoryAndStores_1 : ∃ (s : State) (n rd addr : Nat), (s.executes n) ∧ (rd < 32) :=
  ⟨(State.reset.setFld .LE_STAT_RUNNING 11 1), 11, 31, 0x1F7F, by decide +kernel⟩
theorem witness_EngineMemoryAndStores_2 : ∃ (s : State) (n rd addr : Nat), (s.executes n) ∧ (rd < 32) :=
  ⟨(State.reset.setFld .LE_STAT_RUNNING 11 1), 11, 31, 0x1F7E, by decide +kernel⟩
theorem witness_EngineMemoryAndStores_3 : ∃ (s : State) (n ra addr : Nat), (s.executes n) ∧ (s.sound n (0x2000 + addr) 1) :=
  ⟨((State.reset.setFld .LE_STAT_RUNNING 11 1).modEngine 11 (fun e => { e with regs := List.replicate 32 0x3F800000 })), 11, 31, 0x1F7F, by decide +kernel⟩
theorem witness_EngineMemoryAndStores_4 : ∃ (s : State) (n ra addr : Nat), (s.executes n) ∧ (addr % 2 = 0 ∨ s.sound n (0x2000 + addr) 2) :=
  ⟨((State.reset.setFld .LE_STAT_RUNNING 11 1).modEngine 11 (fun e => { e with regs := List.replicate 32 0x3F800000 })), 11, 31, 0x1F7E, by decide +kernel⟩
theorem witness_EngineMemoryAndStores_5 : ∃ (s : State) (n ra addr : Nat) (wide : Bool), (s.executes n) ∧ ((s.rg n ra).finite = true) ∧ (¬ s.sound n (0x2000 + addr) (if wide then 2 else 1)) ∧ (wide = false ∨ addr % 2 = 1) :=
  ⟨(((State.reset.setFld .LE_STAT_RUNNING 11 1).modEngine 11 (fun e => { e with regs := List.replicate 32 0x3F800000 })).mark 0x2B 0x1000 true), 11, 31, 0, false, by decide +kernel⟩
theorem witness_EngineMemoryAndStores_6 : ∃ (s : State) (n rd ra mod : Nat), (s.executes n) ∧ (rd + mod < 32) :=
  ⟨(State.reset.setFld .LE_STAT_RUNNING 11 1), 11, 28, 28, 3, by decide +kernel⟩
theorem witness_EngineMemoryAndStores_7 : ∃ (s : State) (n ra rb d : Nat), s.executes n :=
  ⟨(State.reset.setFld .LE_STAT_RUNNING 11 1), 11, 1, 0, 100, by decide +kernel⟩
theorem witness_EngineMemoryAndStores_8 : ∃ (s : State) (n : Nat), (n < 12) ∧ (n < s.eng.engines.length) ∧ (s.running n = true) ∧ ((s.engine n).wait ≠ none) ∧ (s.wingClock (engineWing n) = true) :=
  ⟨((State.reset.setFld .LE_STAT_RUNNING 11 1).modEngine 11 (fun e => { e with wait := some (0, 31, 0, 0) })), 11, by decide +kernel⟩
theorem witness_EngineMemoryAndStores_9 : ∃ (s : State) (n slot input ext : Nat), (s.executes n) ∧ (slot < 16) ∧ (slot < s.sar.slots.length) ∧ (input < 4) ∧ (ext < 64) :=
  ⟨((((State.reset.setFld .LE_STAT_RUNNING 11 1).modGroup 1 (fun g => { g with st := .running })).modSlot 15 (fun p => { p with cur := some { input := 0, ext := 0, inj := false } }))), 11, 15, 0, 63, by decide +kernel⟩
theorem witness_EngineMemoryAndStores_10 : ∃ (s : State) (n m ra rb : Nat) (a b : Fp), (s.executes n) ∧ (m < s.pwm.mods.length) ∧ (a = fp128.mul (s.rg n ra)) ∧ (b = fp128.mul (s.rg n rb)) :=
  ⟨((((State.reset.setFld .LE_STAT_RUNNING 11 1).modEngine 11 (fun e => { e with regs := List.replicate 32 0x3F800000 }))).setFld .HP_STAT_HOLDER 0 2), 11, 23, 1, 2, fp128.mul (((((State.reset.setFld .LE_STAT_RUNNING 11 1).modEngine 11 (fun e => { e with regs := List.replicate 32 0x3F800000 }))).setFld .HP_STAT_HOLDER 0 2).rg 11 1), fp128.mul (((((State.reset.setFld .LE_STAT_RUNNING 11 1).modEngine 11 (fun e => { e with regs := List.replicate 32 0x3F800000 }))).setFld .HP_STAT_HOLDER 0 2).rg 11 2), by decide +kernel⟩
theorem witness_EngineMemoryAndStores_11 : ∃ (s : State) (n m ra rb : Nat) (a b : Fp), (s.executes n) ∧ (m < s.pwm.mods.length) ∧ (a = (fp128.mul (s.rg n ra)).mul (Fp.ofInt (s.stagedPer n m))) ∧ (b = (fp128.mul (s.rg n rb)).mul (Fp.ofInt (s.stagedPer n m))) :=
  ⟨((((State.reset.setFld .LE_STAT_RUNNING 11 1).modEngine 11 (fun e => { e with regs := List.replicate 32 0x3F800000 }))).setFld .HP_STAT_HOLDER 0 2), 11, 23, 1, 2, (fp128.mul (((((State.reset.setFld .LE_STAT_RUNNING 11 1).modEngine 11 (fun e => { e with regs := List.replicate 32 0x3F800000 }))).setFld .HP_STAT_HOLDER 0 2).rg 11 1)).mul (Fp.ofInt (((((State.reset.setFld .LE_STAT_RUNNING 11 1).modEngine 11 (fun e => { e with regs := List.replicate 32 0x3F800000 }))).setFld .HP_STAT_HOLDER 0 2).stagedPer 11 23)), (fp128.mul (((((State.reset.setFld .LE_STAT_RUNNING 11 1).modEngine 11 (fun e => { e with regs := List.replicate 32 0x3F800000 }))).setFld .HP_STAT_HOLDER 0 2).rg 11 2)).mul (Fp.ofInt (((((State.reset.setFld .LE_STAT_RUNNING 11 1).modEngine 11 (fun e => { e with regs := List.replicate 32 0x3F800000 }))).setFld .HP_STAT_HOLDER 0 2).stagedPer 11 23)), by decide +kernel⟩
theorem witness_EngineMemoryAndStores_12 : ∃ (s : State) (n m ra rb rc : Nat), (s.executes n) ∧ (m < s.pwm.mods.length) :=
  ⟨((((State.reset.setFld .LE_STAT_RUNNING 11 1).modEngine 11 (fun e => { e with regs := List.replicate 32 0x3F800000 }))).setFld .HP_STAT_HOLDER 0 2), 11, 23, 1, 2, 3, by decide +kernel⟩
theorem witness_EngineMemoryAndStores_13 : ∃ (s : State) (n m ra rb : Nat) (h l : Fp), (s.executes n) ∧ (m < s.pwm.mods.length) ∧ (h = tapsPerNs.mul (s.rg n ra)) ∧ (l = tapsPerNs.mul (s.rg n rb)) :=
  ⟨((((State.reset.setFld .LE_STAT_RUNNING 11 1).modEngine 11 (fun e => { e with regs := List.replicate 32 0x3F800000 }))).setFld .HP_STAT_HOLDER 0 2), 11, 23, 1, 2, tapsPerNs.mul (((((State.reset.setFld .LE_STAT_RUNNING 11 1).modEngine 11 (fun e => { e with regs := List.replicate 32 0x3F800000 }))).setFld .HP_STAT_HOLDER 0 2).rg 11 1), tapsPerNs.mul (((((State.reset.setFld .LE_STAT_RUNNING 11 1).modEngine 11 (fun e => { e with regs := List.replicate 32 0x3F800000 }))).setFld .HP_STAT_HOLDER 0 2).rg 11 2), by decide +kernel⟩
theorem witness_EngineMemoryAndStores_14 : ∃ (s : State) (n ra code : Nat) (fault : Bool), s.executes n :=
  ⟨(State.reset.setFld .LE_STAT_RUNNING 11 1), 11, 1, 0, true, by decide +kernel⟩

theorem witness_EngineRunsAndData_1 : ∃ (s : State) (n : Nat), (n < 12) ∧ (n < s.eng.engines.length) :=
  ⟨((((State.reset.setFld .LE_CTRL_EN 11 1).modGroup 8 (fun g => { g with st := .running })).setWing .b .active).modEngine 11 (fun e => { e with due := true })), 11, by decide +kernel⟩
theorem witness_EngineRunsAndData_2 : ∃ (s : State) (n : Nat), s.executes n :=
  ⟨(State.reset.setFld .LE_STAT_RUNNING 11 1), 11, by decide +kernel⟩
theorem witness_EngineRunsAndData_3 : ∃ (s : State) (n k : Nat), (s.executes n) ∧ (s.ship.grid.installed = true) ∧ (s.shippedOn 0x6000 n = true) ∧ (k < 6) ∧ (s.var 0x6000 2 + k < s.pwm.mods.length) ∧ (s.hasPm (s.var 0x6000 2 + k) = true) ∧ (s.isEntitled (engineWing n) (s.var 0x6000 2 + k) = true) :=
  ⟨{ ((State.reset.setFld .LE_STAT_RUNNING 0 1).setFld .HP_STAT_HOLDER 0 1) with ship := { State.reset.ship with grid := { State.reset.ship.grid with installed := true } } }, 0, 5, by decide +kernel⟩
theorem witness_EngineRunsAndData_4 : ∃ (s : State) (core n idx v : Nat), (s.ownsWindow core n (4 * idx)) ∧ (core < s.eng.lowHold.length) ∧ (0x2000 ≤ idx) ∧ (idx < 0x3F80) ∧ (idx % 2 = 0) :=
  ⟨{ State.reset with eng := { State.reset.eng with lowHold := [none, none, some (11, 0x3F7E, 5), none] } }, 2, 11, 0x3F7C, 1, by decide +kernel⟩
theorem witness_EngineRunsAndData_5 : ∃ (s : State) (core n idx v lo : Nat), (s.ownsWindow core n (4 * idx)) ∧ (core < s.eng.lowHold.length) ∧ (0x2000 ≤ idx) ∧ (idx < 0x3F80) ∧ (idx % 2 = 1) ∧ (s.eng.lowHold.getD core none = some (n, idx - 1, lo)) ∧ (n < s.eng.engines.length) ∧ (core < s.tut.mcause.length) :=
  ⟨{ State.reset with eng := { State.reset.eng with lowHold := [none, none, some (11, 0x3F7E, 5), none] } }, 2, 11, 0x3F7F, 1, 5, by decide +kernel⟩
theorem witness_EngineRunsAndData_6 : ∃ (s : State) (core n idx v : Nat), (s.ownsWindow core n (4 * idx)) ∧ (core < s.eng.lowHold.length) ∧ (0x2000 ≤ idx) ∧ (idx < 0x3F80) ∧ (idx % 2 = 1) ∧ (∀ p ∈ s.eng.lowHold.getD core none, (p.1, p.2.1 + 1) ≠ (n, idx) ∧ p.2.1 / 2 ≠ idx / 2) ∧ (s.running n = false) ∧ (core < s.tut.mcause.length) :=
  ⟨State.reset, 2, 11, 0x3F7F, 1, by decide +kernel⟩
theorem witness_EngineRunsAndData_7 : ∃ (s : State) (core n idx v : Nat), (core < s.eng.lowHold.length) ∧ (n < s.eng.engines.length) ∧ (s.eng.lowHold.getD core none = some (n, idx, v)) ∧ (s.engBad n (idx / 2) = false) :=
  ⟨{ State.reset with eng := { State.reset.eng with lowHold := [none, none, some (11, 0x3F7E, 5), none] } }, 2, 11, 0x3F7E, 5, by decide +kernel⟩
theorem witness_EngineRunsAndData_8 : ∃ (s : State) (core n idx v : Nat), (s.ownsWindow core n (4 * idx)) ∧ (core < s.eng.lowHold.length) ∧ (n < 12) ∧ (idx < 0x2000 ∨ 0x3F80 ≤ idx) ∧ (s.imageAwaited n = false) ∧ (engGroup n < s.dict.groups.length) :=
  ⟨State.reset, 2, 11, 0, 1, by decide +kernel⟩
theorem witness_EngineRunsAndData_9 : ∃ (s : State) (core n ofs v : Nat), (s.reaches core .engine (engAddr n ofs)) ∧ (core < s.tut.mcause.length) ∧ (n < 12) ∧ (ofs < 0x10000) ∧ (coreWing core ≠ engineWing n) :=
  ⟨State.reset, 0, 11, 0x8000, 1, by decide +kernel⟩
theorem witness_EngineRunsAndData_10 : ∃ (s : State) (n ofs i : Nat) (words : List Nat), (n < 12) ∧ (n < s.eng.engines.length) ∧ (ofs % 4 = 0) ∧ (words.length ≤ 64) ∧ (ofs + 4 * words.length ≤ 32256) ∧ (i < words.length) :=
  ⟨State.reset, 11, 32248, 1, [7, 8], by decide +kernel⟩
theorem witness_EngineRunsAndData_11 : ∃ (s : State) (core n : Nat), (s.reaches core .engine (engRegAddr n 4)) ∧ (n < 12) ∧ (n < s.eng.engines.length) ∧ (core < s.tut.mcause.length) :=
  ⟨State.reset, 2, 11, by decide +kernel⟩

theorem witness_SubstitutesAndShippedCommands_1 : ∃ (s : State) (w : Wing) (n : Nat), (s.copyOf w = some n) ∧ (s.flag (substCopy w) = true) :=
  ⟨{ (State.reset.setFld .LE_SUBST_COPYA 0 1) with eng := { State.reset.eng with copyA := some 5 } }, .a, 5, by decide +kernel⟩
theorem witness_SubstitutesAndShippedCommands_2 : ∃ (s : State) (w : Wing) (n i : Nat) (bad : List Nat), (s.copyOf w = some n) ∧ (s.flag (substCopy w) = true) ∧ (i ∈ bad) ∧ (s.inSnap n (i / 2) = false) :=
  ⟨{ (State.reset.setFld .LE_SUBST_COPYA 0 1) with eng := { State.reset.eng with copyA := some 5 } }, .a, 5, 3, [3], by decide +kernel⟩
theorem witness_SubstitutesAndShippedCommands_3 : ∃ (s : State) (w : Wing) (n i v : Nat) (p : Snapshot), (s.copyOf w = some n) ∧ (s.flag (substCopy w) = true) ∧ (s.inSnap n (i / 2) = true) ∧ (s.newestSlot = some p) ∧ (p.engWord n (i / 2) = some v) :=
  ⟨{ ((State.reset.setFld .LE_SUBST_COPYA 0 1).setFld .LE_SNAP_LEN 5 1) with eng := { State.reset.eng with copyA := some 5 }, dup := { State.reset.dup with slots := [({ format := 1, crcOk := true, poisoned := false, epoch := State.reset.fld .RING_EPOCH, seq := 1, seqEnd := 1, engines := [{ pair := 5, base := 0, words := [9] }] } : Snapshot)] } }, .a, 5, 0x2000, 9, ({ format := 1, crcOk := true, poisoned := false, epoch := State.reset.fld .RING_EPOCH, seq := 1, seqEnd := 1, engines := [{ pair := 5, base := 0, words := [9] }] } : Snapshot), by decide +kernel⟩
theorem witness_SubstitutesAndShippedCommands_4 : ∃ (s : State) (core : Nat) (w : Wing) (a b : Bool), (s.reaches core .engine 0x45000028) ∧ ((match w with | .a => a | .b => b) = true) ∧ ((s.copyOf w).isSome = true) ∧ (s.fld (substMap w) = 0xF) :=
  ⟨{ State.reset with eng := { State.reset.eng with copyA := some 5 } }, 0, .a, true, false, by decide +kernel⟩

theorem witness_BursarMetering_1 : ∃ (s : State) (q x u : Nat) (v a b : BurWord) (rest : List BurWord), (q < s.bur.points.length) ∧ (q < s.bur.accs.length) ∧ (x < (s.point q).phases.length) ∧ ((s.phase q x).volts = v :: rest) ∧ (bracket (s.phase q x).amps ((v.ts + ofSigned 32 (s.sfld .BUR_PH_PH (3 * q + x))) % 2 ^ 32) = (some a, some b)) ∧ ((s.phase q x).prev = some u) :=
  ⟨((State.reset.modPhase 7 0 (fun p => { p with volts := [{ ts := 100, value := 0, ok := true }], amps := [{ ts := 95, value := 0, ok := true }, { ts := 105, value := 0, ok := true }], prev := some 90 })).modPoint 7 (fun p => { p with start := some 10 })), 7, 0, 90, { ts := 100, value := 0, ok := true }, { ts := 95, value := 0, ok := true }, { ts := 105, value := 0, ok := true }, [], by decide +kernel⟩
theorem witness_BursarMetering_2 : ∃ (s : State) (q x : Nat) (v : BurWord) (rest : List BurWord), (q < s.bur.points.length) ∧ (q < s.bur.accs.length) ∧ (x < (s.point q).phases.length) ∧ ((s.phase q x).volts = v :: rest) ∧ ((bracket (s.phase q x).amps ((v.ts + ofSigned 32 (s.sfld .BUR_PH_PH (3 * q + x))) % 2 ^ 32)).1 = none ∨ (bracket (s.phase q x).amps ((v.ts + ofSigned 32 (s.sfld .BUR_PH_PH (3 * q + x))) % 2 ^ 32)).2 = none) :=
  ⟨((State.reset.modPhase 7 0 (fun p => { p with volts := [{ ts := 100, value := 0, ok := true }], amps := [], prev := some 90 })).modPoint 7 (fun p => { p with start := some 10 })), 7, 0, { ts := 100, value := 0, ok := true }, [], by decide +kernel⟩
theorem witness_BursarMetering_3 : ∃ (s : State) (q len : Nat) (crossing : Bool), (s.metering q = true) ∧ (q < s.bur.points.length) ∧ (q < s.bur.accs.length) ∧ ((crossing = (decide (q < 4) && s.crossingCounts q len))) :=
  ⟨(((State.reset.setFld .BUR_CTRL_AC_EN 0 0xF).setFld .BUR_CTRL_DC_EN 0 0xF).modPoint 7 (fun p => { p with start := some 3 })), 7, 0, false, by decide +kernel⟩
theorem witness_BursarMetering_4 : ∃ (s : State) (q len : Nat), (s.metering q = true) ∧ (4 ≤ q) ∧ (q < s.bur.accs.length) ∧ ((s.point q).start.isSome = true) ∧ ((s.acc q).now.length = 16) ∧ ((overPhases ((List.range 3).map (fun x => phaseSums (cyclePairs (s.phase q x).pairs 12800000).1 12800000)) PhaseSums.energy).finite = true) :=
  ⟨(((State.reset.setFld .BUR_CTRL_AC_EN 0 0xF).setFld .BUR_CTRL_DC_EN 0 0xF).modPoint 7 (fun p => { p with start := some 3 })), 7, 0, by decide +kernel⟩
theorem witness_BursarMetering_5 : ∃ (s : State) (q : Nat), (s.metering q = true) ∧ (q < 4) ∧ (q < s.bur.points.length) ∧ ((s.point q).phases.length = 3) :=
  ⟨(((State.reset.setFld .BUR_CTRL_AC_EN 0 0xF).setFld .BUR_CTRL_DC_EN 0 0xF).setFld .BUR_EVT_SAG 3 9000 |>.setFld .BUR_SRC_VA 3 1 |>.setFld .BUR_UDIN 3 0x43660000 |>.modPhase 3 0 (fun p => { p with half := (0, 5), halfWas := some (0, 5) })), 3, by decide +kernel⟩
theorem witness_BursarMetering_6 : ∃ (s : State) (core mask : Nat), s.reaches core .bursar (burAddr 4) :=
  ⟨{ State.reset with bell := { State.reset.bell with latchQ := [1] } }, 0, 254, by decide +kernel⟩
theorem witness_BursarMetering_7 : ∃ (s : State) (core : Nat), (s.reaches core .bursar (burAddr 0xC)) ∧ (s.lib.queue.length + s.lib.refused.length < 64) ∧ (∀ x ∈ s.lib.queue, x.area ≠ 7 ∨ x.type ≠ 0x30) :=
  ⟨State.reset, 0, by decide +kernel⟩
theorem witness_BursarMetering_8 : ∃ (s : State), (s.bur.restoreDue = true) ∧ (s.flag .LIB_STAT_READY = true) :=
  ⟨(State.reset.setFld .LIB_STAT_READY 0 1), by decide +kernel⟩
theorem witness_BursarMetering_10 : ∃ (s : State) (samples : List Nat), (s.bur.window = true) ∧ (s.bur.windowClock = true) ∧ (s.bur.theft.length = 4) :=
  ⟨{ State.reset with bur := { State.reset.bur with window := true, windowClock := true } }, [], by decide +kernel⟩
theorem witness_BursarMetering_11 : ∃ (s : State) (core : Nat), s.reaches core .bursar (burAddr 0x20) :=
  ⟨State.reset, 0, by decide +kernel⟩

theorem witness_LibraryRecords_1 : ∃ (s : State) (sup nand : Bool) (p e b : Nat) (dir : List (Nat × Nat × Nat × Nat)) (recs : List (Nat × Nat × Nat × Nat × List Nat)) (finals : List (List Nat)), (p < 16) ∧ (e < 32) ∧ (b < 2 ^ 16) :=
  ⟨State.reset, true, false, 8, 16, 1024, [(0, 0, 0, 0)], [], [], by decide +kernel⟩
theorem witness_LibraryRecords_2 : ∃ (s : State) (idx arg sq : Nat) (d : Desc) (data : List Nat), (s.takenDesc 13 idx = some d) ∧ (s.command d = some (1, arg, sq, data)) ∧ (s.lib.queue.length + s.lib.refused.length < 64) :=
  ⟨{ ((State.reset.setFld .LIB_STAT_READY 0 1).setFld .RING_BASE 13 0x20010000) with integ := { State.reset.integ with satLost := false }, satchel := [((0, 0x100), 1), ((0, 0x101), 7)], ports := { State.reset.ports with taken := [{ ring := 13, idx := 3, desc := { addr := 0x20000100, len := 64 } }] }, ct := { State.reset.ct with burst := true }, lib := { State.reset.lib with areas := List.replicate 9 [0] } }, 3, 7, 0, { addr := 0x20000100, len := 64 }, List.replicate 48 0, by decide +kernel⟩
theorem witness_LibraryRecords_3 : ∃ (s : State) (idx arg sq : Nat) (d : Desc) (data errs : List Nat) (r : LibRecord), (s.takenDesc 13 idx = some d) ∧ (s.command d = some (2, arg, sq, data)) ∧ (s.flag .LIB_STAT_READY = true) ∧ (s.lib.records.reverse.find? (fun r => r.area == arg % 256 && r.seq == sq && r.valid) = some r) ∧ (16 + r.payload.length ≤ d.len) ∧ (s.bankOn 4 = true) ∧ (∀ e ∈ errs, e ≤ 16) ∧ (s.lib.fresh.contains r.block = false ∨ ∀ e ∈ errs, e ≤ s.fld .LIB_RET_REF_BITS) ∧ ((s.satWrite (d.addr + 16) r.payload).1 = true) :=
  ⟨{ ((State.reset.setFld .LIB_STAT_READY 0 1).setFld .RING_BASE 13 0x20010000) with integ := { State.reset.integ with satLost := false }, satchel := [((0, 0x100), 2), ((0, 0x101), 7)], ports := { State.reset.ports with taken := [{ ring := 13, idx := 3, desc := { addr := 0x20000100, len := 64 } }] }, lib := { State.reset.lib with records := [{ area := 7, type := 0, seq := 0, time := 0, payload := [], block := 9, marker := some (List.replicate 4 (crc32 (LibRecord.bytes { area := 7, type := 0, seq := 0, time := 0, payload := [], block := 9 }))) }] } }, 3, 7, 0, { addr := 0x20000100, len := 64 }, List.replicate 48 0, [], { area := 7, type := 0, seq := 0, time := 0, payload := [], block := 9, marker := some (List.replicate 4 (crc32 (LibRecord.bytes { area := 7, type := 0, seq := 0, time := 0, payload := [], block := 9 }))) }, by decide +kernel⟩
theorem witness_LibraryRecords_4 : ∃ (s : State) (idx arg sq : Nat) (d : Desc) (data errs : List Nat), (s.takenDesc 13 idx = some d) ∧ (s.command d = some (2, arg, sq, data)) ∧ (s.flag .LIB_STAT_READY = false ∨ s.lib.records.reverse.find? (fun r => r.area == arg % 256 && r.seq == sq && r.valid) = none) :=
  ⟨{ (State.reset.setFld .RING_BASE 13 0x20010000) with integ := { State.reset.integ with satLost := false }, satchel := [((0, 0x100), 2), ((0, 0x101), 7)], ports := { State.reset.ports with taken := [{ ring := 13, idx := 3, desc := { addr := 0x20000100, len := 64 } }] } }, 3, 7, 0, { addr := 0x20000100, len := 64 }, List.replicate 48 0, [], by decide +kernel⟩
theorem witness_LibraryRecords_5 : ∃ (s : State) (idx arg sq : Nat) (d : Desc) (data errs : List Nat) (r : LibRecord), (s.takenDesc 13 idx = some d) ∧ (s.command d = some (3, arg, sq, data)) ∧ (s.flag .LIB_STAT_READY = true) ∧ (s.newestRecord (arg % 256) (arg / 256 % 256) = some r) ∧ (16 + r.payload.length ≤ d.len) ∧ (s.bankOn 4 = true) ∧ (∀ e ∈ errs, e ≤ 16) ∧ (s.lib.fresh.contains r.block = false ∨ ∀ e ∈ errs, e ≤ s.fld .LIB_RET_REF_BITS) ∧ ((s.satWrite (d.addr + 16) r.payload).1 = true) :=
  ⟨{ ((State.reset.setFld .LIB_STAT_READY 0 1).setFld .RING_BASE 13 0x20010000) with integ := { State.reset.integ with satLost := false }, satchel := [((0, 0x100), 3), ((0, 0x101), 7)], ports := { State.reset.ports with taken := [{ ring := 13, idx := 3, desc := { addr := 0x20000100, len := 64 } }] }, lib := { State.reset.lib with records := [{ area := 7, type := 0, seq := 0, time := 0, payload := [], block := 9, marker := some (List.replicate 4 (crc32 (LibRecord.bytes { area := 7, type := 0, seq := 0, time := 0, payload := [], block := 9 }))) }] } }, 3, 7, 0, { addr := 0x20000100, len := 64 }, List.replicate 48 0, [], { area := 7, type := 0, seq := 0, time := 0, payload := [], block := 9, marker := some (List.replicate 4 (crc32 (LibRecord.bytes { area := 7, type := 0, seq := 0, time := 0, payload := [], block := 9 }))) }, by decide +kernel⟩
theorem witness_LibraryRecords_6 : ∃ (s : State) (idx arg sq : Nat) (d : Desc) (data errs : List Nat), (s.takenDesc 13 idx = some d) ∧ (s.command d = some (3, arg, sq, data)) ∧ (s.flag .LIB_STAT_READY = false ∨ s.newestRecord (arg % 256) (arg / 256 % 256) = none) :=
  ⟨{ (State.reset.setFld .RING_BASE 13 0x20010000) with integ := { State.reset.integ with satLost := false }, satchel := [((0, 0x100), 3), ((0, 0x101), 7)], ports := { State.reset.ports with taken := [{ ring := 13, idx := 3, desc := { addr := 0x20000100, len := 64 } }] } }, 3, 7, 0, { addr := 0x20000100, len := 64 }, List.replicate 48 0, [], by decide +kernel⟩
theorem witness_LibraryRecords_7 : ∃ (s : State) (idx arg sq : Nat) (d : Desc) (data errs : List Nat) (r : LibRecord), (s.takenDesc 13 idx = some d) ∧ (s.command d = some (2, arg, sq, data)) ∧ (s.flag .LIB_STAT_READY = true) ∧ (s.lib.records.reverse.find? (fun r => r.area == arg % 256 && r.seq == sq && r.valid) = some r) ∧ (16 + r.payload.length ≤ d.len) ∧ (s.lib.fresh.contains r.block = false) ∧ (s.bankOn 4 = false ∨ ∃ e ∈ errs, 16 < e) :=
  ⟨{ ((State.reset.setFld .LIB_STAT_READY 0 1).setFld .RING_BASE 13 0x20010000) with integ := { State.reset.integ with satLost := false }, satchel := [((0, 0x100), 2), ((0, 0x101), 7)], ports := { State.reset.ports with taken := [{ ring := 13, idx := 3, desc := { addr := 0x20000100, len := 64 } }] }, lib := { State.reset.lib with records := [{ area := 7, type := 0, seq := 0, time := 0, payload := [], block := 9, marker := some (List.replicate 4 (crc32 (LibRecord.bytes { area := 7, type := 0, seq := 0, time := 0, payload := [], block := 9 }))) }] } }, 3, 7, 0, { addr := 0x20000100, len := 64 }, List.replicate 48 0, [17], { area := 7, type := 0, seq := 0, time := 0, payload := [], block := 9, marker := some (List.replicate 4 (crc32 (LibRecord.bytes { area := 7, type := 0, seq := 0, time := 0, payload := [], block := 9 }))) }, by decide +kernel⟩
theorem witness_LibraryRecords_8 : ∃ (s : State) (b : LibBurst) (op : Nat) (rest : List Nat), (s.bankOn 4 = true) ∧ (s.lib.burst = some b) ∧ (b.ops = op :: rest) ∧ (op ≠ 3 ∨ b.req.work ≠ .record) :=
  ⟨{ State.reset with lib := { State.reset.lib with burst := some { req := { client := 0, area := 7, type := 0x30, payload := [] }, seq := 0, block := 0, ops := [1, 3] } } }, { req := { client := 0, area := 7, type := 0x30, payload := [] }, seq := 0, block := 0, ops := [1, 3] }, 1, [3], by decide +kernel⟩
theorem witness_LibraryRecords_9 : ∃ (s : State) (ok : Bool) (b : LibBurst) (op : Nat) (rest : List Nat), (ok = false ∨ s.bankOn 4 = false) ∧ (s.lib.burst = some b) ∧ (b.ops = op :: rest) ∧ (op ≠ 0) ∧ (op ≠ 3 ∨ b.req.work ≠ .record) :=
  ⟨{ State.reset with lib := { State.reset.lib with burst := some { req := { client := 0, area := 7, type := 0x30, payload := [] }, seq := 0, block := 0, ops := [1, 3] } } }, false, { req := { client := 0, area := 7, type := 0x30, payload := [] }, seq := 0, block := 0, ops := [1, 3] }, 1, [3], by decide +kernel⟩
theorem witness_LibraryRecords_10 : ∃ (s : State) (b : LibBurst), (s.lib.burst = some b) ∧ (b.ops = [3]) ∧ (b.req.work = .record) ∧ (b.req.area ≠ 0) :=
  ⟨{ State.reset with lib := { State.reset.lib with burst := some { req := { client := 0, area := 7, type := 0x30, payload := [] }, seq := 0, block := 0, ops := [3] } } }, { req := { client := 0, area := 7, type := 0x30, payload := [] }, seq := 0, block := 0, ops := [3] }, by decide +kernel⟩
theorem witness_LibraryRecords_11 : ∃ (s u : State) (b n : Nat), (s.flag .LIB_STAT_READY = true) ∧ (s.flag .LIB_CTRL_EN = true) ∧ (s.flag .CT_STAT_MAIN = true) ∧ (s.flag .LIB_STAT_REFRESHING = false) ∧ (u = s.libPrepare) ∧ (u.lib.queue.length + u.lib.refused.length < 64) :=
  ⟨{ (((State.reset.setFld .LIB_STAT_READY 0 1).setFld .LIB_GEOM_BLOCKS 0 4).setFld .LIB_EMAX 0 5000) with ct := { State.reset.ct with burst := true }, lib := { State.reset.lib with areas := [[0], [1], [2], [], [], [], [], [], []], worn := [1] } }, ({ (((State.reset.setFld .LIB_STAT_READY 0 1).setFld .LIB_GEOM_BLOCKS 0 4).setFld .LIB_EMAX 0 5000) with ct := { State.reset.ct with burst := true }, lib := { State.reset.lib with areas := [[0], [1], [2], [], [], [], [], [], []], worn := [1] } }).libPrepare, 1, 3, by decide +kernel⟩
theorem witness_LibraryRecords_12 : ∃ (s : State) (b n : Nat), (s.flag .LIB_STAT_READY = true) ∧ (s.flag .LIB_CTRL_EN = true) ∧ (s.flag .CT_STAT_MAIN = true) ∧ (s.lib.queue.length + s.lib.refused.length < 64) ∧ (([0, 1, 2, 3].flatMap (fun a => (s.area a).filter (fun b => s.erases b + s.fld .LIB_WL_WL_DIFF < s.fld .LIB_EMAX))).head? = some b) ∧ (s.mostWorn s.ready = some n) :=
  ⟨{ (((State.reset.setFld .LIB_STAT_READY 0 1).setFld .LIB_GEOM_BLOCKS 0 4).setFld .LIB_EMAX 0 5000) with ct := { State.reset.ct with burst := true }, lib := { State.reset.lib with areas := [[0], [1], [2], [], [], [], [], [], []], worn := [1] } }, 0, 3, by decide +kernel⟩

theorem witness_LeasesAndVoters_1 : ∃ (s : State) (core : Nat), s.reaches core .duplex (hpAddr 8) :=
  ⟨{ (State.reset.setWing .a .active).setFld .HP_STAT_HOLDER 0 1 with dup := { State.reset.dup with voters := List.replicate 3 { leaseA := 9, leaseB := 9 } } }, 0, by decide +kernel⟩
theorem witness_LeasesAndVoters_2 : ∃ (s : State) (w : Wing), s.pass w = true :=
  ⟨((State.reset.setWing .a .active).setFld .HP_STAT_HOLDER 0 1).setWing .b .warm, .a, by decide +kernel⟩
theorem witness_LeasesAndVoters_3 : ∃ (s : State) (w : Wing), s.pass w = true :=
  ⟨((State.reset.setWing .a .active).setFld .HP_STAT_HOLDER 0 1).setWing .b .warm, .a, by decide +kernel⟩
theorem witness_LeasesAndVoters_4 : ∃ (s : State) (w : Wing), s.pass w = false :=
  ⟨State.reset, .b, by decide +kernel⟩
theorem witness_LeasesAndVoters_5 : ∃ (s : State) (voter : Nat) (w : Wing), (voter < 3) ∧ (s.dup.voters.length = 3) :=
  ⟨{ State.reset with dup := { State.reset.dup with voters := [{}, {}, { times := [0, 0] }] } }, 2, .a, by decide +kernel⟩

theorem witness_WingCommands_1 : ∃ (s : State) (core : Nat) (pass : Bool), s.reaches core .duplex (hpAddr 0xC) :=
  ⟨State.reset, 0, true, by decide +kernel⟩
theorem witness_WingCommands_2 : ∃ (s : State) (core : Nat) (w : Wing), (s.reaches core .duplex (hpAddr 0xC)) ∧ (w = (if s.wing (coreWing core) = .cold ∧ s.inWindow (coreWing core) = true then coreWing core else (coreWing core).other)) :=
  ⟨((State.reset.setWing .a .active).setFld .HP_STAT_HOLDER 0 1).setWing .b .cold, 0, .b, by decide +kernel⟩
theorem witness_WingCommands_3 : ∃ (s : State) (core : Nat), s.reaches core .duplex (hpAddr 0xC) :=
  ⟨State.reset.setWing .b .warm, 2, by decide +kernel⟩
theorem witness_WingCommands_4 : ∃ (s : State) (core r : Nat), (s.reaches core .duplex (hpAddr 0xC)) ∧ (r = s.handoverCheck (coreWing core) false false) :=
  ⟨State.reset.setWing .b .warm, 2, (State.reset.setWing .b .warm).handoverCheck .b false false, by decide +kernel⟩
theorem witness_WingCommands_5 : ∃ (s : State) (core r : Nat), (s.reaches core .duplex (hpAddr 0xC)) ∧ (r = s.handoverCheck (coreWing core).other true false) :=
  ⟨(((((State.reset.setWing .a .active).setFld .HP_STAT_HOLDER 0 1).setWing .b .ready).modGroup 13 (fun g => { g with st := .running })).modGroup 7 (fun g => { g with st := .running })).modGroup 8 (fun g => { g with st := .running }), 0, ((((((State.reset.setWing .a .active).setFld .HP_STAT_HOLDER 0 1).setWing .b .ready).modGroup 13 (fun g => { g with st := .running })).modGroup 7 (fun g => { g with st := .running })).modGroup 8 (fun g => { g with st := .running })).handoverCheck .b true false, by decide +kernel⟩
theorem witness_WingCommands_6 : ∃ (s : State) (core : Nat) (w : Wing), (s.reaches core .duplex (hpAddr 0xC)) ∧ (w = (if s.wing (coreWing core) = .ready then coreWing core else (coreWing core).other)) :=
  ⟨{ State.reset.setWing .b .ready with dup := { State.reset.dup with handover := .pending 1 } }, 2, .b, by decide +kernel⟩
theorem witness_WingCommands_7 : ∃ (s : State) (core : Nat), s.reaches core .duplex (hpAddr 0xC) :=
  ⟨((State.reset.setWing .a .active).setFld .HP_STAT_HOLDER 0 1).setFld .HP_CTRL_MODE 0 1, 0, by decide +kernel⟩
theorem witness_WingCommands_8 : ∃ (s : State) (core : Nat), (s.reaches core .duplex (hpAddr 0xC)) ∧ (s.ct.running = true) ∧ (coreWing core = .b ∨ s.split = true ∨ s.dup.acquired = false) :=
  ⟨State.reset, 2, by decide +kernel⟩
theorem witness_WingCommands_9 : ∃ (s : State) (core : Nat), (s.reaches core .duplex (hpAddr 0xC)) ∧ (coreWing core = .a ∨ s.ct.running = false) ∧ (s.dup.acquired = true) ∧ (s.split = false) ∧ (s.wing .a = .boot) ∧ (s.wing .b = .active) ∧ (s.pass .a = false) ∧ (s.pass .b = true) :=
  ⟨{ (State.reset.setWing .b .active).setFld .HP_STAT_HOLDER 0 2 with dup := { State.reset.dup with acquired := true } }, 0, by decide +kernel⟩

theorem witness_SnapshotsAndTakeovers_2 : ∃ (s : State) (p : Snapshot), (s.dup.writing = some p) ∧ (s.dup.slots.length = 4) :=
  ⟨{ State.reset with dup := { State.reset.dup with writing := some { seq := 7 } } }, { seq := 7 }, by decide +kernel⟩
theorem witness_SnapshotsAndTakeovers_4 : ∃ (s : State) (w : Wing), (s.taking = some w) ∧ (s.dup.chosen = none) :=
  ⟨{ (State.reset.setWing .b .taking) with dup := { State.reset.dup with slots := [{ format := 1, seq := 4, seqEnd := 4, crcOk := true, epoch := 1, poisoned := false }, {}, {}, {}] } }, .b, by decide +kernel⟩
theorem witness_SnapshotsAndTakeovers_5 : ∃ (s : State) (w : Wing) (slot : Option Snapshot), (s.taking = some w) ∧ (s.dup.chosen = some slot) ∧ (s.dup.restored = false) ∧ (s.eng.engines.length = 12) :=
  ⟨{ (State.reset.setWing .b .taking) with dup := { State.reset.dup with chosen := some (some { format := 1, seq := 4, seqEnd := 4, crcOk := true, epoch := 1, poisoned := false, engines := [{ pair := 1, base := 3, words := [5, 9] }] }) } }, .b, some { format := 1, seq := 4, seqEnd := 4, crcOk := true, epoch := 1, poisoned := false, engines := [{ pair := 1, base := 3, words := [5, 9] }] }, by decide +kernel⟩
theorem witness_SnapshotsAndTakeovers_6 : ∃ (s : State) (core mask : Nat) (w : Wing), (s.reaches core .duplex (hpAddr 0x2C)) ∧ (w = coreWing core) :=
  ⟨(State.reset.setWing .b .taking), 2, 0xFFFFFF, .b, by decide +kernel⟩
theorem witness_SnapshotsAndTakeovers_7 : ∃ (s : State) (w : Wing), (s.dup.handover = .copying) ∧ (s.holder = some w) :=
  ⟨{ ((State.reset.setWing .a .active).setFld .HP_STAT_HOLDER 0 1).setWing .b .active with dup := { State.reset.dup with handover := .copying } }, .a, by decide +kernel⟩

theorem witness_ScrubbingAndMemoryFaults_1 : ∃ (s : State) (m stored mem w : Nat) (written : Bool), (m < 8) ∧ (classWord m (s.fld .SCR_POS_WORD m) = (mem, w)) :=
  ⟨State.reset, 7, 0, 0x30, 0, false, by decide +kernel⟩
theorem witness_ScrubbingAndMemoryFaults_2 : ∃ (s : State) (m stored mem w d k : Nat) (written : Bool) (c : Option Nat), (m < 8) ∧ (classWord m (s.fld .SCR_POS_WORD m) = (mem, w)) ∧ (s.mayScrub m mem = true) ∧ ((decide (mem < 0x10) && s.bankRetired mem) = false) ∧ (s.poisoned mem w = false) ∧ (decodeWord mem stored = .data d k c) :=
  ⟨State.reset, 7, 1, 0x30, 0, 0, 1, false, some 0, by decide +kernel⟩
theorem witness_ScrubbingAndMemoryFaults_3 : ∃ (s : State) (m stored mem w d k n : Nat) (written : Bool) (b : Option Nat), (m < 8) ∧ (classWord m (s.fld .SCR_POS_WORD m) = (mem, w)) ∧ (s.mayScrub m mem = true) ∧ ((decide (mem < 0x10) && s.bankRetired mem) = false) ∧ (s.poisoned mem w = false) ∧ (decodeWord mem stored = .data d (n + 1) b) ∧ (k = b.getD 0) ∧ (s.integ.suspectPrev.length = 8) ∧ ((s.integ.suspectPrev.getD m []).contains (s.fld .SCR_POS_WORD m) = true) :=
  ⟨{ State.reset with integ := { State.reset.integ with suspectPrev := State.reset.integ.suspectPrev.set 7 [0] } }, 7, 1, 0x30, 0, 0, 0, 0, false, some 0, by decide +kernel⟩
theorem witness_ScrubbingAndMemoryFaults_4 : ∃ (s : State) (m stored mem w : Nat) (written : Bool), (m < 8) ∧ (classWord m (s.fld .SCR_POS_WORD m) = (mem, w)) ∧ (s.mayScrub m mem = true) ∧ ((decide (mem < 0x10) && s.bankRetired mem) = false) ∧ (s.poisoned mem w = false) ∧ (decodeWord mem stored = .uncorrectable) :=
  ⟨State.reset, 7, 3, 0x30, 0, false, by decide +kernel⟩
theorem witness_ScrubbingAndMemoryFaults_5 : ∃ (s : State) (m : Nat), m < 8 :=
  ⟨State.reset, 7, by decide +kernel⟩
theorem witness_ScrubbingAndMemoryFaults_6 : ∃ (s : State) (x : Consumer) (mem w stored : Nat), (s.tut.mcause.length = 4) ∧ (s.eng.engines.length = 12) :=
  ⟨State.reset, .load 0, 0x30, 0, 3, by decide +kernel⟩
theorem witness_ScrubbingAndMemoryFaults_7 : ∃ (s : State) (core bank : Nat) (go : Bool), s.reaches core .integrity 0x4800000C :=
  ⟨State.reset, 0, 15, true, by decide +kernel⟩
theorem witness_ScrubbingAndMemoryFaults_8 : ∃ (s : State) (core count : Nat), s.reaches core .integrity 0x48000014 :=
  ⟨State.reset, 0, 512, by decide +kernel⟩
theorem witness_ScrubbingAndMemoryFaults_9 : ∃ (s : State) (slow : List Nat), slow.length ≤ 86 :=
  ⟨State.reset, List.replicate 86 500, by decide +kernel⟩

theorem witness_SecurityAndIdentity_1 : ∃ (s : State) (core : Nat), s.reaches core .security 0x4A00001C :=
  ⟨({ ((State.reset.setFld .SEC_CMDA 0 0x20000000)) with satchel := [((0, 0), 1), ((0, 2), 1)], integ := { State.reset.integ with satLost := false } }), 0, by decide +kernel⟩
theorem witness_SecurityAndIdentity_2 : ∃ (s : State) (core : Nat), s.reaches core .security 0x4A00001C :=
  ⟨({ ((State.reset.setFld .SEC_CMDA 0 0x20000000)) with satchel := [((0, 0), 1), ((0, 2), 2)], integ := { State.reset.integ with satLost := false } }), 0, by decide +kernel⟩
theorem witness_SecurityAndIdentity_3 : ∃ (s : State) (core : Nat), s.reaches core .security 0x4A00001C :=
  ⟨({ ((State.reset.setFld .SEC_CMDA 0 0x20000000)) with satchel := [((0, 0), 1), ((0, 2), 3)], integ := { State.reset.integ with satLost := false } }), 0, by decide +kernel⟩
theorem witness_SecurityAndIdentity_4 : ∃ (s : State) (core : Nat), s.reaches core .security 0x4A00001C :=
  ⟨State.reset, 0, by decide +kernel⟩
theorem witness_SecurityAndIdentity_5 : ∃ (s : State) (core cmd v : Nat), (s.sec.running = some (core, cmd, v)) ∧ (1 ≤ cmd) ∧ (cmd ≤ 4) :=
  ⟨{ State.reset with sec := { State.reset.sec with running := some (0, 1, 5) } }, 0, 1, 5, by decide +kernel⟩
theorem witness_SecurityAndIdentity_6 : ∃ (s : State) (x addr cause : Nat), (cause = 1 ∨ cause = 5 ∨ cause = 7) ∧ (x < 64 ∨ (64 ≤ x ∧ x < 69)) ∧ (s.tut.mcause.length = 4) ∧ (s.tut.mtval.length = 4) :=
  ⟨(State.reset.setFld .TUT_ID_NS 3 1), 3, 0x4A000000, 5, by decide +kernel⟩
theorem witness_SecurityAndIdentity_7 : ∃ (s : State) (w : Wing) (slot : Nat) (i : List Nat), (s.wing w = .boot) ∧ (s.image w = none) ∧ (s.rst.phase = .none) ∧ (s.bootOrder.find? (fun x => !(s.tried w).contains x) = some slot) ∧ (slot = 3 ∨ s.flag .LIB_STAT_READY = true) ∧ (slot ≠ 3 ∨ s.sec.download.isSome = true) ∧ (i = (s.slotImage slot).getD []) :=
  ⟨{ (State.reset.setFld .LIB_STAT_READY 0 1) with lib := { State.reset.lib with records := [{ area := 1, type := 1, seq := 0, time := 0, payload := [7], block := 9, marker := some (List.replicate 4 (crc32 (LibRecord.bytes { area := 1, type := 1, seq := 0, time := 0, payload := [7], block := 9 }))) }] } }, .a, 0, [7], by decide +kernel⟩
theorem witness_SecurityAndIdentity_10 : ∃ (s : State) (l : List Nat) (k : Nat), (s.sec.attesting = some l) ∧ (s.sec.identity = some k) :=
  ⟨{ State.reset with sec := { State.reset.sec with attesting := some [1], identity := some 5 } }, [1], 5, by decide +kernel⟩

theorem witness_PrefectTestsAndDemands_1 : ∃ (s : State) (ch : Nat), ch < 2 :=
  ⟨State.reset, 1, by decide +kernel⟩
theorem witness_PrefectTestsAndDemands_2 : ∃ (s : State) (ch : Nat), ch < 2 :=
  ⟨State.reset, 1, by decide +kernel⟩
theorem witness_PrefectTestsAndDemands_3 : ∃ (s : State) (ch : Nat) (x y z : DualRead), (ch < 2) ∧ (s.pf.clean.length = 2) :=
  ⟨{ State.reset with pf := { State.reset.pf with mask := 3 } }, 1, ⟨true, true⟩, ⟨false, false⟩, ⟨false, false⟩, by decide +kernel⟩
theorem witness_PrefectTestsAndDemands_4 : ∃ (s : State) (ch : Nat) (first second : Bool), ch < 2 :=
  ⟨State.reset.setFld .PF_STAT_STATE 0 6, 1, true, false, by decide +kernel⟩
theorem witness_PrefectTestsAndDemands_5 : ∃ (s : State) (ch : Nat), ch < 2 :=
  ⟨{ State.reset with pf := { State.reset.pf with demand := 2 } }, 1, by decide +kernel⟩
theorem witness_PrefectTestsAndDemands_7 : ∃ (s : State) (count : Nat), s.pfRuns = true :=
  ⟨{ State.reset with clk := { State.reset.clk with crystal := true } }, 424001, by decide +kernel⟩

theorem witness_PrefectForceReleaseCommission_4 : ∃ (s : State) (core key : Nat), s.mayStore core 0x4D000020 false :=
  ⟨{ State.reset.setFld .PF_STAT_STATE 0 5 with pf := { State.reset.pf with keyAt := some 0 } }, 0, 0xA55A, by decide +kernel⟩
theorem witness_PrefectForceReleaseCommission_6 : ∃ (s : State) (n : Nat) (r : SwitchRead), n = (r.first ||| r.second) % 256 :=
  ⟨State.reset, 0xF0, ⟨0x30, 0xC0⟩, by decide +kernel⟩
theorem witness_PrefectForceReleaseCommission_8 : ∃ (s : State) (p : List Nat), (s.pfRuns = true) ∧ (s.pf.deliver = true) ∧ (s.pf.cfgRead = true) ∧ (s.flag .PF_CFG_SWBAD = false) ∧ (s.flag .LIB_STAT_READY = true) ∧ (s.prefectRecord (s.fld .PF_CFG_CFGSW % 16) = some p) :=
  ⟨testDelivery, testSet, testDelivery_ready.1, testDelivery_ready.2.1, testDelivery_ready.2.2.1, testDelivery_ready.2.2.2.1, testDelivery_ready.2.2.2.2.1, testDelivery_record⟩
theorem witness_PrefectForceReleaseCommission_9 : ∃ (s : State), s.pfRuns = true :=
  ⟨State.reset, by decide +kernel⟩
theorem witness_PrefectForceReleaseCommission_10 : ∃ (s : State), s.pfRuns = true :=
  ⟨State.reset.setFld .PF_COMST_ARMED 0 1, by decide +kernel⟩
theorem witness_PrefectForceReleaseCommission_11 : ∃ (s : State) (core digest : Nat), s.mayStore core 0x4D000024 false :=
  ⟨(State.reset.setFld .PF_STAT_STATE 0 2).setFld .PF_STAT_SEALOK 0 0, 0, 0, by decide +kernel⟩

theorem witness_PortsAndReception_1 : ∃ (s : State) (core mask : Nat), s.mayStore core (portAddr 0) false :=
  ⟨State.reset, 0, 31, by decide +kernel⟩
theorem witness_PortsAndReception_2 : ∃ (s : State) (p : Nat), p < 5 :=
  ⟨{ State.reset with ports := { State.reset.ports with held := 4 } }, 2, by decide +kernel⟩
theorem witness_PortsAndReception_3 : ∃ (s : State) (p spd : Nat) (up fdx : Bool), (p < 2) ∧ (spd ≤ 2) :=
  ⟨(State.reset.setFld .PORT_EN_EN 0 2), 1, 1, true, true, by decide +kernel⟩
theorem witness_PortsAndReception_4 : ∃ (s : State) (p ts : Nat) (frame : List Nat), (p < 2) ∧ (s.portOn p = true) ∧ (frame.length ≤ 1518) ∧ (s.ethAccepts p frame = true) ∧ (s.receives (2 * p) frame.length frame) :=
  ⟨{ (((State.reset.setFld .RING_CFG_EN 2 1).setFld .RING_BASE 2 0x20001000).setFld .PORT_EN_EN 0 2) with satchel := [((0, 0x1003), 0x20), ((0, 0x1004), 60), ((0, 0x1006), 1)], integ := { State.reset.integ with satLost := false } }, 1, 77, [255, 255, 255, 255, 255, 255], by decide +kernel⟩
theorem witness_PortsAndReception_5 : ∃ (s : State) (p ts : Nat) (frame : List Nat) (d : Desc), (p < 2) ∧ (s.portOn p = true) ∧ (frame.length ≤ 1518) ∧ (s.ethAccepts p frame = true) ∧ (s.freeDesc (2 * p) = some d) ∧ (d.len < frame.length) :=
  ⟨{ (((State.reset.setFld .RING_CFG_EN 2 1).setFld .RING_BASE 2 0x20001000).setFld .PORT_EN_EN 0 2) with satchel := [((0, 0x1003), 0x20), ((0, 0x1004), 3), ((0, 0x1006), 1)], integ := { State.reset.integ with satLost := false } }, 1, 77, [255, 255, 255, 255, 255, 255], { addr := 0x20000000, len := 3, own := true }, by decide +kernel⟩
theorem witness_PortsAndReception_6 : ∃ (s : State) (p ts : Nat) (frame : List Nat), (p < 2) ∧ (s.portOn p = true) ∧ (frame.length ≤ 1518) ∧ (s.ethAccepts p frame = true) ∧ (s.freeDesc (2 * p) = none) ∧ (s.flag .RING_CFG_EN (2 * p) = false ∨ s.flag .RING_STAT_HALT (2 * p) = true ∨ (s.desc (2 * p) (s.fld .RING_HEAD_HEAD (2 * p))).isSome = true) :=
  ⟨(State.reset.setFld .PORT_EN_EN 0 1), 0, 0, [1], by decide +kernel⟩
theorem witness_PortsAndReception_7 : ∃ (s : State) (p ts : Nat) (frame : List Nat), (p < 2) ∧ (frame.length ≤ 1518) :=
  ⟨(State.reset.setFld .PORT_EN_EN 0 1), 0, 0, [1], by decide +kernel⟩
theorem witness_PortsAndReception_8 : ∃ (s : State) (p ident dlc ts k : Nat) (ide fdf brs esi rtr : Bool) (data : List Nat), (2 ≤ p) ∧ (p < 4) ∧ (s.portOn p = true) ∧ (s.fld .CAN_STAT_STATE p ≠ 2) ∧ ((fdf = true → s.flag .CAN_CFG_FDEN p = true)) ∧ (ident < 2 ^ 29) ∧ (s.canFilter p ident ide = some k) ∧ (s.receives (2 * p) (8 + data.length) (canHeader ident ide fdf brs esi rtr dlc ++ data)) :=
  ⟨{ (((State.reset.setFld .RING_CFG_EN 6 1).setFld .RING_BASE 6 0x20001000).setFld .PORT_EN_EN 0 8) with satchel := [((0, 0x1003), 0x20), ((0, 0x1004), 60), ((0, 0x1006), 1)], integ := { State.reset.integ with satLost := false } }, 3, 5, 1, 9, 0, true, true, false, false, false, [7], by decide +kernel⟩
theorem witness_PortsAndReception_9 : ∃ (s : State) (p ident dlc ts : Nat) (ide fdf brs esi rtr err : Bool) (data : List Nat), (2 ≤ p) ∧ (p < 4) ∧ (ident < 2 ^ 29) ∧ (err = true ∨ (fdf = true ∧ s.flag .CAN_CFG_FDEN p = false) ∨ s.canFilter p ident ide = none ∨ s.portOn p = false ∨ s.fld .CAN_STAT_STATE p = 2) :=
  ⟨(State.reset.setFld .PORT_EN_EN 0 8), 3, 5, 1, 9, true, true, false, false, false, true, [7], by decide +kernel⟩
theorem witness_PortsAndReception_10 : ∃ (s : State) (p : Nat), (2 ≤ p) ∧ (p < 4) :=
  ⟨(((State.reset.setFld .PORT_EN_EN 0 8).setFld .CAN_STAT_STATE 3 2).setFld .CAN_STAT_TEC 3 255), 3, by decide +kernel⟩
theorem witness_PortsAndReception_11 : ∃ (s : State) (dst src type ts : Nat) (payload : List Nat), (s.portOn 4 = true) ∧ (s.trains = false) ∧ (payload.length ≤ 64) ∧ (4 ≤ type) ∧ (dst = 0xFF ∨ dst = s.fld .PEER_CFG_POS) ∧ (s.receives 8 (4 + payload.length) (niujorBytes dst src type payload)) :=
  ⟨{ (((State.reset.setFld .RING_CFG_EN 8 1).setFld .RING_BASE 8 0x20001000).setFld .PORT_EN_EN 0 16) with satchel := [((0, 0x1003), 0x20), ((0, 0x1004), 68), ((0, 0x1006), 1)], integ := { State.reset.integ with satLost := false } }, 255, 3, 4, 0, [9], by decide +kernel⟩
theorem witness_PortsAndReception_12 : ∃ (s : State) (dst src type ts crc : Nat) (payload : List Nat) (ok : Bool), (s.portOn 4 = true) ∧ (ok = false ∨ crc ≠ niujorCrc (niujorBytes dst src type payload)) :=
  ⟨(State.reset.setFld .PORT_EN_EN 0 16), 0, 0, 0, 0, 0, [], false, by decide +kernel⟩
theorem witness_PortsAndReception_13 : ∃ (s : State) (core phyad regad data : Nat) (w : Bool), s.mayStore core (portAddr 0xC) false :=
  ⟨State.reset, 0, 1, 2, 3, true, by decide +kernel⟩
theorem witness_PortsAndReception_14 : ∃ (s : State) (data a b c : Nat) (w : Bool), s.ports.mdio = some (w, a, b, c) :=
  ⟨{ State.reset with ports := { State.reset.ports with mdio := some (false, 0, 0, 0) } }, 65536, 0, 0, 0, false, by decide +kernel⟩

theorem witness_NiujorLinkAndTraining_1 : ∃ (s : State) (x : List Nat), x = s.peerFrame.getD [0xFF, 0, 0, 0] :=
  ⟨((State.reset.setFld .PORT_EN_EN 0 16).setFld .BELL_COMP_ORIGIN 0 1), [0xFF, 0, 0, 0], by decide +kernel⟩
theorem witness_NiujorLinkAndTraining_3 : ∃ (s : State), (s.portOn 4 = true) ∧ (s.flag .BELL_COMP_ORIGIN = false) :=
  ⟨(State.reset.setFld .PORT_EN_EN 0 16), by decide +kernel⟩
theorem witness_NiujorLinkAndTraining_4 : ∃ (s : State) (core : Nat), s.mayStore core (portAddr 0x400) (s.portNs 4) :=
  ⟨((State.reset.setFld .PORT_EN_EN 0 16).setFld .BELL_COMP_ORIGIN 0 1), 0, by decide +kernel⟩
theorem witness_NiujorLinkAndTraining_5 : ∃ (s : State) (marker pos check : Nat), pos ≠ 31 :=
  ⟨(State.reset.setFld .PORT_EN_EN 0 16), 0xD2, 30, 0xD2 ^^^ 30 ^^^ 0x5A, by decide +kernel⟩
theorem witness_NiujorLinkAndTraining_7 : ∃ (s : State) (rt : Nat), (s.portOn 4 = true) ∧ (s.ports.training = .hops) ∧ (s.ports.hopStart.isSome = true) ∧ (s.ports.bellWaits = false) :=
  ⟨{ (State.reset.setFld .PORT_EN_EN 0 16) with ports := { State.reset.ports with training := .hops, hopStart := some 0 } }, 67125, by decide +kernel⟩
theorem witness_NiujorLinkAndTraining_8 : ∃ (s : State) (hop : Nat), hop < 2 ^ 16 :=
  ⟨{ (State.reset.setFld .PORT_EN_EN 0 16) with ports := { State.reset.ports with training := .hops } }, 65535, by decide +kernel⟩
theorem witness_NiujorLinkAndTraining_9 : ∃ (s : State), (s.portOn 4 = true) ∧ (s.ports.training = .hops) ∧ (s.ports.hopStart.isSome = true) :=
  ⟨{ (State.reset.setFld .PORT_EN_EN 0 16) with ports := { State.reset.ports with training := .hops, hopStart := some 0 } }, by decide +kernel⟩
theorem witness_NiujorLinkAndTraining_10 : ∃ (s : State) (pos : Nat), pos < 32 :=
  ⟨{ ((State.reset.setFld .PORT_EN_EN 0 16).setFld .BELL_COMP_ORIGIN 0 1) with ports := { State.reset.ports with training := .hops } }, 31, by decide +kernel⟩

theorem witness_RingsCryptoAndCapture_1 : ∃ (s : State) (core q v : Nat), (q < 16) ∧ (s.mayStore core (ringAddr q 4) (s.ringNs q)) :=
  ⟨(State.reset.setFld .RING_BASE 1 0x20001000), 0, 1, 0xEF, by decide +kernel⟩
theorem witness_RingsCryptoAndCapture_2 : ∃ (s : State) (core q v : Nat), (q < 16) ∧ (s.mayStore core (ringAddr q 8) (s.ringNs q)) :=
  ⟨State.reset, 0, 15, 4096, by decide +kernel⟩
theorem witness_RingsCryptoAndCapture_3 : ∃ (s : State) (core q : Nat), (q < 16) ∧ (s.mayStore core (ringAddr q 0x10) (s.ringNs q)) :=
  ⟨(State.reset.setFld .RING_STAT_HALT 15 1), 0, 15, by decide +kernel⟩
theorem witness_RingsCryptoAndCapture_4 : ∃ (s : State) (q n : Nat), (s.nextRing = some q) ∧ (n = s.fld .RING_TAIL_TAIL q % s.ringSize q) :=
  ⟨{ ((((State.reset.setFld .RING_HEAD_HEAD 1 1).setFld .RING_CFG_EN 1 1).setFld .RING_BASE 1 0x20001000).setFld .PORT_EN_EN 0 1) with satchel := [((0, 0x1003), 0x20), ((0, 0x1004), 4), ((0, 0x1006), 1), ((0, 0x1008), 1)], integ := { State.reset.integ with satLost := false } }, 1, 0, by decide +kernel⟩
theorem witness_RingsCryptoAndCapture_5 : ∃ (s : State) (q code ts : Nat) (x : Taken), (s.takenOf q = some x) ∧ (q < 16) ∧ (q ≠ 13) ∧ (q ≠ 14) ∧ (code = 0 ∨ code = 5) :=
  ⟨{ ((((State.reset.setFld .RING_HEAD_HEAD 1 1).setFld .RING_CFG_EN 1 1).setFld .RING_BASE 1 0x20001000).setFld .PORT_EN_EN 0 1) with satchel := [((0, 0x1003), 0x20), ((0, 0x1004), 4), ((0, 0x1006), 1), ((0, 0x1008), 1)], integ := { State.reset.integ with satLost := false }, ports := { State.reset.ports with taken := [{ ring := 1, idx := 0, desc := { len := 4, own := true } }] } }, 1, 5, 9, { ring := 1, idx := 0, desc := { len := 4, own := true } }, by decide +kernel⟩
theorem witness_RingsCryptoAndCapture_6 : ∃ (s : State) (x : Taken) (op arg seq : Nat) (data : List Nat), (s.takenOf 14 = some x) ∧ (x.desc.len < 2 ^ 16) ∧ (s.command x.desc = some (op, arg, seq, data)) :=
  ⟨{ (State.reset.setFld .RING_BASE 14 0x20001000) with satchel := [((0, 0), 1)], integ := { State.reset.integ with satLost := false }, ports := { State.reset.ports with taken := [{ ring := 14, idx := 0, desc := { addr := 0x20000000, len := 20, own := true } }] } }, { ring := 14, idx := 0, desc := { addr := 0x20000000, len := 20, own := true } }, 1, 0, 0, [0, 0, 0, 0], by decide +kernel⟩
theorem witness_RingsCryptoAndCapture_7 : ∃ (s : State) (x : Taken) (op arg seq : Nat) (data : List Nat), (s.takenOf 14 = some x) ∧ (x.desc.len < 2 ^ 16) ∧ (s.command x.desc = some (op, arg, seq, data)) :=
  ⟨{ (State.reset.setFld .RING_BASE 14 0x20001000) with satchel := [((0, 0), 2)], integ := { State.reset.integ with satLost := false }, ports := { State.reset.ports with taken := [{ ring := 14, idx := 0, desc := { addr := 0x20000000, len := 20, own := true } }] } }, { ring := 14, idx := 0, desc := { addr := 0x20000000, len := 20, own := true } }, 2, 0, 0, [0, 0, 0, 0], by decide +kernel⟩
theorem witness_RingsCryptoAndCapture_8 : ∃ (s : State) (a : Nat) (d : Desc), (a < 2) ∧ (s.freeDesc (11 + a) = some d) :=
  ⟨{ { ((((State.reset.setFld .CAP_CFG_EN 0 1).setFld .RING_CFG_EN 11 1).setFld .RING_BASE 11 0x20001000).setFld .PORT_EN_EN 0 0) with satchel := [((0, 0x1003), 0x20), ((0, 0x1004), 12), ((0, 0x1006), 1)], integ := { State.reset.integ with satLost := false } } with ports := { State.reset.ports with capA := { words := [⟨0, true, false, false, 0, 0, 0⟩] } } }, 0, { addr := 0x20000000, len := 12, own := true }, by decide +kernel⟩

theorem witness_FunctionGroupCommands_1 : ∃ (s : State) (w : Wing) (init g : Nat), (1 ≤ g) ∧ (g < 14) ∧ (s.dict.groups.length = 16) :=
  ⟨{ State.reset with dict := { State.reset.dict with groups := State.reset.dict.groups.set 8 { st := .running, lastCmd := 3 } } }, .a, 0, 8, by decide +kernel⟩
theorem witness_FunctionGroupCommands_2 : ∃ (s : State) (w : Wing) (init g : Nat), (1 ≤ g) ∧ (g < 14) ∧ (s.dict.groups.length = 16) :=
  ⟨State.reset, .a, 0, 13, by decide +kernel⟩
theorem witness_FunctionGroupCommands_3 : ∃ (s : State) (w : Wing) (init g : Nat), (1 ≤ g) ∧ (g < 14) ∧ (s.dict.groups.length = 16) :=
  ⟨{ State.reset with dict := { State.reset.dict with groups := State.reset.dict.groups.set 1 { st := .rejected, pendVars := [((0, 0), 1)] } } }, .b, 0, 1, by decide +kernel⟩
theorem witness_FunctionGroupCommands_4 : ∃ (s : State) (g : Nat) (x : Option Finding), (s.dict.groups.length = 16) ∧ (g < 14) ∧ (x = ((s.showBounds [g]).findings [g]).head?) ∧ (s.dict.joint = none ∨ (s.group g).joint = false) :=
  ⟨{ State.reset with dict := { State.reset.dict with groups := State.reset.dict.groups.set 5 { st := .validating } } }, 5, none, by decide +kernel⟩
theorem witness_FunctionGroupCommands_5 : ∃ (s : State) (g mask : Nat) (x : Option Finding), (s.dict.groups.length = 16) ∧ ((s.group g).st = .validating) ∧ ((s.group g).joint = true) ∧ (s.dict.joint = some mask) ∧ (x = ((s.showBounds (bitsOf 14 mask)).findings (bitsOf 14 mask)).head?) :=
  ⟨{ { State.reset with dict := { State.reset.dict with groups := State.reset.dict.groups.set 5 { st := .validating, joint := true } } } with dict := { ({ State.reset with dict := { State.reset.dict with groups := State.reset.dict.groups.set 5 { st := .validating, joint := true } } }).dict with joint := some 32 } }, 5, 32, none, by decide +kernel⟩
theorem witness_FunctionGroupCommands_6 : ∃ (s : State) (w : Wing) (init mask : Nat), (mask < 2 ^ 16) ∧ (s.dict.groups.length = 16) :=
  ⟨State.reset, .a, 0, 0x2002, by decide +kernel⟩

theorem witness_DictionaryManagement_2 : ∃ (s : State) (w : Wing) (init v : Nat), s.dict.groups.length = 16 :=
  ⟨{ { State.reset.setFld .LIB_STAT_READY 0 1 with ct := { State.reset.ct with burst := true } } with dict := { State.reset.dict with groups := List.replicate 16 {} } }, .a, 0, 0x64616F6C, by decide +kernel⟩
theorem witness_DictionaryManagement_4 : ∃ (s : State) (w : Wing) (init v : Nat), v < 2 ^ 32 :=
  ⟨State.reset, .a, 3, 0x10180100, by decide +kernel⟩
theorem witness_DictionaryManagement_7 : ∃ (s : State) (w : Wing) (init slot : Nat) (data : List Nat), slot < 3 :=
  ⟨{ State.reset.setFld .LIB_STAT_READY 0 1 with ct := { State.reset.ct with burst := true } }, .a, 0, 2, [300], by decide +kernel⟩
theorem witness_DictionaryManagement_8 : ∃ (s : State) (w : Wing) (init v : Nat), v < 256 :=
  ⟨{ State.reset.setWing .b .active with dict := { State.reset.dict with groups := State.reset.dict.groups.set 8 { st := .running } } }, .b, 0, 1, by decide +kernel⟩
theorem witness_DictionaryManagement_9 : ∃ (s : State) (w : Wing), s.dict.seeding = some w :=
  ⟨{ State.reset with dict := { State.reset.dict with seeding := some .b } }, .b, by decide +kernel⟩

theorem witness_DictionaryTransports_1 : ∃ (s : State) (p c i x room : Nat), (s.usdoOn p = true) ∧ (s.usdoSession p c = none) ∧ (¬(i = 0x2000 ∧ x = 1)) :=
  ⟨((State.reset.setFld .PORT_EN_EN 0 4)), 2, 1, 0x1018, 1, 4, by decide +kernel⟩
theorem witness_DictionaryTransports_2 : ∃ (s : State) (p c v : Nat), (s.usdoOn p = true) ∧ (s.usdoSession p c = none) ∧ ((s.dict.usdo.filter (fun u => u.port == p)).length < 4) ∧ (v < 2 ^ 32) :=
  ⟨((State.reset.setFld .PORT_EN_EN 0 4)), 2, 1, 0x10180100, by decide +kernel⟩
theorem witness_DictionaryTransports_3 : ∃ (s : State) (p c i x n : Nat), (s.usdoOn p = true) ∧ (s.usdoSession p c = none) :=
  ⟨((State.reset.setFld .PORT_EN_EN 0 4)), 2, 1, 0x2005, 1, 9, by decide +kernel⟩
theorem witness_DictionaryTransports_4 : ∃ (s : State) (p c : Nat) (x : UsdoSession) (b : Bool) (l : List Nat), (s.usdoOn p = true) ∧ (s.usdoSession p c = some x) ∧ ((x.data ++ l).length ≠ x.total ∨ x.aborted = true ∨ x.write = false ∨ b ≠ x.toggle) :=
  ⟨{ ((State.reset.setFld .PORT_EN_EN 0 4)) with dict := { State.reset.dict with usdo := [{ port := 2, client := 1, epoch := 1, index := 0, sub := 0, write := true, data := [], toggle := false, total := 9 }] } }, 2, 1, { port := 2, client := 1, epoch := 1, index := 0, sub := 0, write := true, data := [], toggle := false, total := 9 }, false, [1, 2], by decide +kernel⟩
theorem witness_DictionaryTransports_5 : ∃ (s : State) (p c : Nat), (s.usdoOn p = true) ∧ (s.usdoSession p c = none) :=
  ⟨((State.reset.setFld .PORT_EN_EN 0 4)), 2, 1, by decide +kernel⟩
theorem witness_DictionaryTransports_7 : ∃ (s : State) (p src udp : Nat) (h : IdpHead) (w : Wing), (s.idpTakes p udp h 0 = true) ∧ (s.awaited (.idp p src h.tag) = false) ∧ (s.cached p src h.tag = none) ∧ (s.idpWing p h.wing = some w) ∧ (s.idpTransfer p src h.tag = none) ∧ (h.offset = 0) ∧ ((s.entryWing h.index).getD w = w) ∧ (¬(h.index = 0x2000 ∧ h.sub = 1)) :=
  ⟨((State.reset.setFld .PORT_EN_EN 0 3)), 1, 9, 17732, { magic := 0x4449, version := 1, tag := 7, epoch := 1, index := 4120, sub := 1, wing := 0, offset := 0, total := 0 }, .a, by decide +kernel⟩
theorem witness_DictionaryTransports_8 : ∃ (s : State) (p src udp : Nat) (h : IdpHead) (a : Answer), (s.idpTakes p udp h 0 = true) ∧ (s.idpTransfer p src h.tag = none) ∧ (s.awaited (.idp p src h.tag) = false) ∧ (s.cached p src h.tag = some a) :=
  ⟨{ ((State.reset.setFld .PORT_EN_EN 0 3)) with dict := { State.reset.dict with cache := [{ port := 1, source := 9, tag := 7, code := 5, data := [3], at_ := 0 }] } }, 1, 9, 17732, { magic := 0x4449, version := 1, tag := 7, epoch := 1, index := 4120, sub := 1, wing := 0, offset := 0, total := 0 }, { port := 1, source := 9, tag := 7, code := 5, data := [3], at_ := 0 }, by decide +kernel⟩
theorem witness_DictionaryTransports_9 : ∃ (s : State) (p src udp : Nat) (h : IdpHead) (w : Wing) (l : List Nat), (s.idpTakes p udp h l.length = true) ∧ (s.awaited (.idp p src h.tag) = false) ∧ (s.cached p src h.tag = none) ∧ (s.idpWing p h.wing = some w) ∧ (s.idpTransfer p src h.tag = none) ∧ (h.total ≠ l.length ∨ h.epoch ≠ s.fld .RING_EPOCH ∨ h.offset ≠ 0) :=
  ⟨((State.reset.setFld .PORT_EN_EN 0 3)), 1, 9, 17732, { magic := 0x4449, version := 1, tag := 7, epoch := 1, index := 8197, sub := 1, wing := 0, offset := 0, total := 9 }, .a, [1, 2, 3, 4], by decide +kernel⟩
theorem witness_DictionaryTransports_10 : ∃ (s : State) (p src udp v : Nat) (h : IdpHead) (w : Wing), (s.idpTakes p udp h 4 = true) ∧ (s.awaited (.idp p src h.tag) = false) ∧ (s.cached p src h.tag = none) ∧ (s.idpWing p h.wing = some w) ∧ (s.idpTransfer p src h.tag = none) ∧ (h.epoch = s.fld .RING_EPOCH) ∧ (h.offset = 0) ∧ (h.total = 4) ∧ (h.index = 0x2005) ∧ (h.sub = 1) ∧ (v < 2 ^ 32) :=
  ⟨((State.reset.setFld .PORT_EN_EN 0 3)), 1, 9, 17732, 77, { magic := 0x4449, version := 1, tag := 7, epoch := 1, index := 8197, sub := 1, wing := 0, offset := 0, total := 4 }, .a, by decide +kernel⟩
theorem witness_DictionaryTransports_12 : ∃ (s : State) (f : Forward) (l : List Forward) (src tag p : Nat), (s.dict.forwards = f :: l) ∧ (f.asker = .idp p src tag) ∧ (f.data = none) ∧ (¬(f.index = 0x2000 ∧ f.sub = 1)) :=
  ⟨{ State.reset with dict := { State.reset.dict with forwards := [{ asker := .idp 1 9 7, wing := .b, init := 0x41, index := 0x501B, sub := 1, data := none }] } }, { asker := .idp 1 9 7, wing := .b, init := 0x41, index := 0x501B, sub := 1, data := none }, [], 9, 7, 1, by decide +kernel⟩

theorem witness_TutorInterruptsAndTimer_1 : ∃ (s : State) (core : Nat) (x : Option Nat), (s.coreRuns core = true) ∧ (core < 4) ∧ (x = s.offered core) :=
  ⟨((State.reset.setFld .TUT_IPEND 3 8).setFld .TUT_IEN 3 8).setFld .TUT_IPRIO_PRIO 99 1, 3, some 3, by decide +kernel⟩
theorem witness_TutorInterruptsAndTimer_2 : ∃ (s : State) (core src : Nat), (s.coreRuns core = true) ∧ (core < 4) ∧ (src < 32) :=
  ⟨State.reset, 3, 31, by decide +kernel⟩
theorem witness_TutorInterruptsAndTimer_3 : ∃ (s : State) (core : Nat), core < 4 :=
  ⟨State.reset, 3, by decide +kernel⟩
theorem witness_TutorInterruptsAndTimer_4 : ∃ (s : State) (core v : Nat), (s.coreRuns core = true) ∧ (core < 4) ∧ (s.tut.mtcmpHold.length = 4) :=
  ⟨State.reset, 3, 5, by decide +kernel⟩
theorem witness_TutorInterruptsAndTimer_5 : ∃ (s : State) (core v : Nat), (s.coreRuns core = true) ∧ (core < 4) ∧ (s.tut.mtcmp.length = 4) ∧ (s.tut.mtcmpHold.length = 4) :=
  ⟨{ State.reset with tut := { State.reset.tut with mtcmpHold := [none, none, none, some 7] } }, 3, 1, by decide +kernel⟩
theorem witness_TutorInterruptsAndTimer_6 : ∃ (s : State) (core : Nat), s.coreRuns core = true :=
  ⟨State.reset, 2, by decide +kernel⟩

theorem witness_GatewayAndStores_1 : ∃ (s : State) (core : Nat) (b : Bool), s.coreRuns core = true :=
  ⟨State.reset, 3, true, by decide +kernel⟩
theorem witness_GatewayAndStores_2 : ∃ (s : State) (core : Nat) (b : Bool), s.coreRuns core = true :=
  ⟨State.reset, 3, true, by decide +kernel⟩
theorem witness_GatewayAndStores_3 : ∃ (s : State) (core : Nat) (x : List Nat), (s.flag .GW_CTRL_BUSY core = true) ∧ (s.awaited (.core core) = false) ∧ (core < 4) ∧ (s.fld .GW_CTRL_OP core = 1) ∧ (s.fld .GW_EPOCH core = 0xFFFFFFFF ∨ s.fld .GW_EPOCH core = s.fld .RING_EPOCH) ∧ ((s.entryWing (s.fld .GW_ENTRY_INDEX core)).getD (coreWing core) = coreWing core) ∧ (¬(s.fld .GW_ENTRY_INDEX core = 0x2000 ∧ s.fld .GW_ENTRY_SUB core = 1)) ∧ (x = ((s.readEntry (coreWing core) core (s.fld .GW_ENTRY_INDEX core) (s.fld .GW_ENTRY_SUB core)).2.drop (s.fld .GW_OFS core)).take (s.fld .GW_LEN_LEN core)) ∧ (x ≠ []) ∧ (s.fld .GW_BUF core % 8 = 0) ∧ (0x11000000 ≤ s.fld .GW_BUF core) ∧ (s.fld .GW_BUF core + x.length ≤ 0x11080000) ∧ (s.coreNs core = false) :=
  ⟨((((((State.reset.setFld .GW_CTRL_BUSY 0 1).setFld .GW_CTRL_OP 0 1).setFld .GW_ENTRY_INDEX 0 0x1018).setFld .GW_ENTRY_SUB 0 1).setFld .GW_BUF 0 0x11000000).setFld .GW_LEN_LEN 0 64).setFld .GW_EPOCH 0 0xFFFFFFFF, 0, [0x35, 0x0A, 0, 0], by decide +kernel⟩
theorem witness_GatewayAndStores_4 : ∃ (s : State) (core : Nat), (s.flag .GW_CTRL_BUSY core = true) ∧ (s.awaited (.core core) = false) ∧ (s.fld .GW_CTRL_OP core = 1) ∧ (s.fld .GW_EPOCH core ≠ 0xFFFFFFFF) ∧ (s.fld .GW_EPOCH core ≠ s.fld .RING_EPOCH) ∧ (s.fld .GW_ENTRY_INDEX core ≠ 0x2000) ∧ (s.fld .GW_ENTRY_INDEX core ≠ 0x2001) :=
  ⟨((((((State.reset.setFld .GW_CTRL_BUSY 0 1).setFld .GW_CTRL_OP 0 1).setFld .GW_ENTRY_INDEX 0 0x1018).setFld .GW_ENTRY_SUB 0 1).setFld .GW_BUF 0 0x11000000).setFld .GW_LEN_LEN 0 64).setFld .GW_EPOCH 0 5, 0, by decide +kernel⟩
theorem witness_GatewayAndStores_5 : ∃ (s : State) (core : Nat) (l : List Nat), (s.flag .GW_CTRL_BUSY core = true) ∧ (s.awaited (.core core) = false) ∧ (s.fld .GW_CTRL_OP core = 2) ∧ (s.fld .GW_EPOCH core = s.fld .RING_EPOCH) ∧ (s.fld .GW_OFS core = 0) ∧ (s.gatewayBuffer core 4 = 0) ∧ (s.fld .GW_LEN_LEN core = 4) ∧ (s.coreRead core (s.fld .GW_BUF core) 4 = some l) ∧ (s.fld .GW_ENTRY_INDEX core = 0x2005) ∧ (s.fld .GW_ENTRY_SUB core = 1) :=
  ⟨((((((State.reset.setFld .GW_CTRL_BUSY 0 1).setFld .GW_CTRL_OP 0 2).setFld .GW_ENTRY_INDEX 0 0x2005).setFld .GW_ENTRY_SUB 0 1).setFld .GW_BUF 0 0x11000000).setFld .GW_LEN_LEN 0 4).setFld .GW_EPOCH 0 1, 0, [0, 0, 0, 0], by decide +kernel⟩
theorem witness_GatewayAndStores_6 : ∃ (s : State) (core addr v : Nat) (op : AmoOp) (l : List Nat), (s.mayStore core addr (s.targetNs core addr false)) ∧ (core < 4) ∧ (s.tut.lr.length = 4) ∧ (0x20000000 ≤ addr) ∧ (addr + 4 ≤ 0x20400000) ∧ (addr % 4 = 0) ∧ (s.coreRead core addr 4 = some l) ∧ (op ≠ .sc) :=
  ⟨{ State.reset with integ := { State.reset.integ with satLost := false } }, 0, 0x203FFFFC, 5, .add, [0, 0, 0, 0], by decide +kernel⟩
theorem witness_GatewayAndStores_7 : ∃ (s : State) (core addr v : Nat) (l : List Nat), (s.mayStore core addr (s.targetNs core addr false)) ∧ (core < 4) ∧ (s.tut.lr.length = 4) ∧ (0x20000000 ≤ addr) ∧ (addr + 4 ≤ 0x20400000) ∧ (addr % 4 = 0) ∧ (s.coreRead core addr 4 = some l) :=
  ⟨{ State.reset with integ := { State.reset.integ with satLost := false } }, 0, 0x203FFFFC, 5, [0, 0, 0, 0], by decide +kernel⟩
theorem witness_GatewayAndStores_8 : ∃ (s : State) (core addr v : Nat) (op : AmoOp), (s.mayStore core addr (s.targetNs core addr false)) ∧ (core < 4) ∧ (granuleOf addr = none ∨ addr % 4 ≠ 0) ∧ (s.tut.mcause.length = 4) ∧ (s.tut.mtval.length = 4) :=
  ⟨State.reset, 0, 0x4F000000, 5, .add, by decide +kernel⟩
theorem witness_GatewayAndStores_9 : ∃ (s : State) (core addr v : Nat), (s.mayStore core addr (s.targetNs core addr false)) ∧ (0x20000000 ≤ addr) ∧ (addr + 4 ≤ 0x20400000) ∧ (addr % 4 = 0) ∧ (s.satBad (addr - 0x20000000) = false) :=
  ⟨{ State.reset with integ := { State.reset.integ with satLost := false } }, 0, 0x203FFFFC, 0xFFFFFFFF, by decide +kernel⟩
theorem witness_GatewayAndStores_10 : ∃ (s : State) (core addr v : Nat), (s.mayStore core addr (s.targetNs core addr false)) ∧ (0x11000000 ≤ addr) ∧ (addr + 4 ≤ 0x11080000) ∧ (addr % 4 = 0) :=
  ⟨State.reset, 0, 0x11000000, 0xFFFFFFFF, by decide +kernel⟩
theorem witness_GatewayAndStores_11 : ∃ (s : State) (core p v : Nat), (p < 2) ∧ (s.mayStore core (0x4B000104 + 0x40 * p) (s.portNs p)) :=
  ⟨State.reset, 0, 1, 0xFFFFFFFF, by decide +kernel⟩
theorem witness_GatewayAndStores_12 : ∃ (s : State) (core addr v : Nat), (s.mayStore core addr (s.targetNs core addr false)) ∧ (0x45500000 ≤ addr) ∧ (addr < 0x4E001000) ∧ (addr % 4 = 0) ∧ (regAt core addr = none) :=
  ⟨State.reset, 0, 0x4C000FFC, 0xFFFFFFFF, by decide +kernel⟩
theorem witness_GatewayAndStores_13 : ∃ (s : State) (core addr v : Nat), (s.mayStore core addr (s.targetNs core addr false && !metrologyReg addr)) ∧ (core < 4) ∧ (0x40000000 ≤ addr) ∧ (addr < 0x4E001000) ∧ (addr % 4 ≠ 0) ∧ (s.tut.mcause.length = 4) ∧ (s.tut.mtval.length = 4) :=
  ⟨State.reset, 0, 0x4B000101, 0, by decide +kernel⟩

theorem witness_TapAndDebug_7 : ∃ (s : State) (hart : Nat) (x : DmiOp), s.hartEnabled hart = false :=
  ⟨State.reset, 4, .resume, by decide +kernel⟩
theorem witness_TapAndDebug_8 : ∃ (s : State) (hart : Nat), s.hartEnabled hart = true :=
  ⟨{ State.reset.setFld .TUT_DBG_SEC_EN 1 1 with tut := { State.reset.tut with halted := 2 } }, 1, by decide +kernel⟩
theorem witness_TapAndDebug_9 : ∃ (s : State) (hart a : Nat), (s.hartEnabled hart = true) ∧ (s.tut.halted.testBit hart = true) ∧ (s.coreRuns hart = true) ∧ ((s.coreNs hart = true → s.targetNs hart a true = true)) ∧ (0x40000000 ≤ a) ∧ (a < 0x4E001000) ∧ (a % 4 = 0) ∧ (¬(0x45400000 ≤ a ∧ a < 0x454E0000)) :=
  ⟨{ State.reset.setFld .TUT_DBG_SEC_EN 1 1 with tut := { State.reset.tut with halted := 2 } }, 1, 0x4C000000, by decide +kernel⟩
theorem witness_TapAndDebug_10 : ∃ (s : State) (hart a : Nat) (l : List Nat), (s.hartEnabled hart = true) ∧ (s.tut.halted.testBit hart = true) ∧ (s.coreRuns hart = true) ∧ ((s.coreNs hart = true → s.targetNs hart a true = true)) ∧ (0x11000000 ≤ a) ∧ (a + 4 ≤ 0x11080000) ∧ (a % 4 = 0) ∧ (s.coreRead hart a 4 = some l) :=
  ⟨{ State.reset.setFld .TUT_DBG_SEC_EN 1 1 with tut := { State.reset.tut with halted := 2 } }, 1, 0x11000000, [0, 0, 0, 0], by decide +kernel⟩
theorem witness_TapAndDebug_11 : ∃ (s : State) (hart n v : Nat), (s.hartEnabled hart = true) ∧ (n < 64) :=
  ⟨{ State.reset.setFld .TUT_DBG_SEC_EN 1 1 with tut := { State.reset.tut with halted := 2 } }, 1, 5, 7, by decide +kernel⟩
theorem witness_TapAndDebug_12 : ∃ (s : State) (hart n : Nat), (s.hartEnabled hart = true) ∧ (n < 64) :=
  ⟨{ State.reset.setFld .TUT_DBG_SEC_EN 1 1 with tut := { State.reset.tut with halted := 2 } }, 1, 5, by decide +kernel⟩
theorem witness_TapAndDebug_14 : ∃ (s : State) (core v : Nat), (s.mayStore core 0x4E000018 false) ∧ (core < 4) :=
  ⟨{ State.reset with tut := { State.reset.tut with halted := 8 } }, 3, 127, by decide +kernel⟩

theorem witness_StepRunsTheFrontCommand_1 : ∃ (c : Instr) (r : List Instr) (s : State), s.pending = c :: r :=
  ⟨.ppsPulse, [.ppsPulseEnd], State.reset.setPending [.ppsPulse, .ppsPulseEnd], rfl⟩

theorem witness_IdleStepIsOneEdgeTick_1 : ∃ (s : State), (s.pending = []) ∧ (s.rst.requested = none) ∧ (s.rst.phase = .none) ∧ (s.edgeStopped = false) :=
  ⟨State.reset, by decide +kernel⟩
theorem witness_IdleStepIsOneEdgeTick_2 : ∃ (s : State), (s.pending = []) ∧ (s.rst.requested = none) ∧ (s.rst.phase ≠ .none ∨ s.edgeStopped = true) :=
  ⟨{ State.reset with rst := { State.reset.rst with phase := .fuses } }, by decide +kernel⟩
theorem witness_IdleStepIsOneEdgeTick_3 : ∃ (s : State) (w : Wing), (s.pending = []) ∧ (s.rst.requested = none) ∧ (s.ct.running = true) ∧ (s.pass w = true) :=
  ⟨State.reset.setPass .b true, .b, by decide +kernel⟩
theorem witness_IdleStepIsOneEdgeTick_4 : ∃ (s : State) (cause : Nat), (s.pending = []) ∧ (s.rst.requested = some cause) ∧ (s.ct.powerGood = true) :=
  ⟨State.reset.askReset, 5, by decide +kernel⟩

theorem witness_ResetState_2 : ∃ (n : Nat), n < 24 :=
  ⟨23, by decide +kernel⟩
theorem witness_ResetState_3 : ∃ (c : Nat), c < 48 :=
  ⟨47, by decide +kernel⟩
theorem witness_ResetState_4 : ∃ (g : Nat), (1 ≤ g) ∧ (g ≤ 13) :=
  ⟨13, by decide +kernel⟩
theorem witness_ResetState_5 : ∃ (q : Nat), q < 16 :=
  ⟨15, by decide +kernel⟩


theorem witness_StepKeepsTheInvariant_1 : ∃ (s t : State), (s.Tidy) ∧ (s.InWidth) ∧ (s.Shaped) ∧ (step s = .next t) :=
  ⟨State.reset, _, ((kept_iff _ _).1 kept_reset).2.1, ((kept_iff _ _).1 kept_reset).2.2.1, ((kept_iff _ _).1 kept_reset).2.2.2, rfl⟩

theorem witness_FieldFrame_1 : ∃ (c : Instr) (s t : State) (f : Fld) (i : Nat), (exec c s = .next t) ∧ (c.mayWrite f = false) :=
  ⟨.ppsPulse, State.reset, _, .TB_HI, 0, rfl, by decide +kernel⟩

theorem witness_PartFrame_1 : ∃ (c : Instr) (s t : State) (p : Part), (exec c s = .next t) ∧ (p ≠ .regs) ∧ (p ∉ c.parts) :=
  ⟨.ppsPulse, State.reset, _, .satchel, rfl, by decide +kernel, by decide +kernel⟩

theorem witness_WorldCheck_1 : ∃ (c : Instr) (s : State) (core addr cause : Nat), (c.target s = some (core, addr, false, cause)) ∧ (s.coreNs core = true) ∧ (s.coreRuns core = true) ∧ (s.pmpAllows core cause addr = true) ∧ (core < 4) ∧ (core < s.tut.mcause.length) ∧ (core < s.tut.mtval.length) ∧ (addr < 2 ^ 32) :=
  ⟨.pwmArmWrite 3 23 true, State.reset.setFld .TUT_ID_NS 3 1, 3, 0x40001704, 7, by decide +kernel, by decide +kernel, by decide +kernel, by decide +kernel, by decide, by decide, by decide, by decide⟩

theorem witness_EventQueue_1 : ∃ (s : State) (b : Blk) (payload : Nat), s.ports.q10.length < s.q10Cap :=
  ⟨State.reset, .pwm, 0, by decide +kernel⟩
theorem witness_EventQueue_2 : ∃ (s : State) (b : Blk) (payload : Nat), s.q10Cap ≤ s.ports.q10.length :=
  ⟨{ State.reset with ports := { State.reset.ports with q10 := List.replicate 16 { eseq := 0, epoch := 0, block := 0, ns := false, lost := 0, rtc := 0, payload := 0 } } }, .prefect, 0, by decide +kernel⟩

theorem witness_EpochAdvance_2 : ∃ (s : State) (reason detail g : Nat), (s.group g).st = .recess :=
  ⟨State.reset, 1, 0, 13, by decide +kernel⟩
theorem witness_EpochAdvance_3 : ∃ (s : State) (reason detail g : Nat), (s.group g).st = .validating :=
  ⟨State.reset.modGroup 13 (fun p => { p with st := .validating }), 1, 0, 13, by decide +kernel⟩
theorem witness_EpochAdvance_4 : ∃ (s : State) (reason detail g : Nat), (s.group g).st = .applying ∨ (s.group g).st = .running :=
  ⟨State.reset.modGroup 13 (fun p => { p with st := .applying }), 1, 0, 13, by decide +kernel⟩

theorem witness_TimebaseNeverJumpsBackwards_2 : ∃ (s : State), (s.pending = []) ∧ (s.rst.requested = none) ∧ (s.rst.phase = .none) ∧ (s.edgeStopped = false) :=
  ⟨State.reset, by decide +kernel⟩
theorem witness_TimebaseNeverJumpsBackwards_3 : ∃ (c : Instr) (s t : State), (exec c s = .next t) ∧ ((∀ x, c ≠ .syncInEdge x)) ∧ ((∀ x y, c ≠ .resetPhaseAdvance x y)) :=
  ⟨.phaseStep, State.reset, _, rfl, by intro x; nofun, by intro x y; nofun⟩
theorem witness_TimebaseNeverJumpsBackwards_4 : ∃ (s : State) (cycle : Nat), (s.fld .CLK_SYNC_MODE = 1) ∧ (s.anyPass = false) ∧ (s.bankOn 3 = true) ∧ (s.edgeStopped = false) ∧ (0 < s.fld .SYNC_PER) :=
  ⟨State.reset.setFld .CLK_SYNC_MODE 0 1, 3, by decide +kernel⟩
theorem witness_TimebaseNeverJumpsBackwards_5 : ∃ (s : State) (cycle : Nat), s.fld .CLK_SYNC_MODE ≠ 1 ∨ s.anyPass = true :=
  ⟨State.reset, 0, by decide +kernel⟩
theorem witness_TimebaseNeverJumpsBackwards_7 : ∃ (s : State) (core : Nat), s.loads core .caretaker 0x4C00101C :=
  ⟨State.reset, 3, by decide +kernel⟩

theorem witness_SecurityVersionNeverAdvancesByItself_1 : ∃ (c : Instr) (s t : State), (exec c s = .next t) ∧ (s.InWidth) :=
  ⟨.ppsPulse, State.reset, _, rfl, ((kept_iff _ _).1 kept_reset).2.2.1⟩
theorem witness_SecurityVersionNeverAdvancesByItself_2 : ∃ (c : Instr) (s t : State), (exec c s = .next t) ∧ ((∀ core cmd v, s.sec.running = some (core, cmd, v) → cmd = 1 ∨ cmd = 2 ∨ cmd = 3)) :=
  ⟨.secCommandComplete, State.reset, _, rfl, by intro a b d h; cases h⟩
theorem witness_SecurityVersionNeverAdvancesByItself_3 : ∃ (s : State) (w : Wing), (s.image w = none) ∧ ((∀ slot < 4, (s.slotImage slot).all (fun i => decide (imgField i 12 1 < s.fld .SEC_FUSE_SVN)) = true)) :=
  ⟨{ ((State.reset.setFld .LIB_STAT_READY 0 1).setFld .SEC_FUSE_SVN 0 5) with lib := { State.reset.lib with records := [{ area := 1, type := 1, seq := 0, time := 0, payload := [7], block := 9, marker := some (List.replicate 4 (crc32 (LibRecord.bytes { area := 1, type := 1, seq := 0, time := 0, payload := [7], block := 9 }))) }] } }, .a, by decide +kernel⟩
theorem witness_SecurityVersionNeverAdvancesByItself_4 : ∃ (s : State) (core : Nat), (s.reaches core .security 0x4A00001C) ∧ (s.flag .SEC_CMDST_BUSY = false) ∧ (s.flag .CT_STAT_MAIN = true) ∧ ((s.servingImages.any (fun i => i.svn < s.fld .SEC_CMDA % 256)) = true) :=
  ⟨{ ((State.reset.setWing .a .active).setFld .SEC_CMDA 0 9) with sec := { State.reset.sec with imageA := some { digest := 0, svn := 8, owner := false, cores := 0, version := 0, entry := 0 } } }, 0, by decide +kernel⟩

theorem witness_PrefectStandsAlone_1 : ∃ (c : Instr) (s t : State), (exec c s = .next t) ∧ (c ≠ .vpfGood) ∧ (c ≠ .vpfFail) ∧ ((∀ a b d e, c ≠ .testPulseCheck a b d e)) ∧ ((∀ a, c ≠ .filteredDemand a)) ∧ ((∀ a, c ≠ .discrepancyFault a)) ∧ ((∀ a, c ≠ .readbackFault a)) ∧ ((∀ a, c ≠ .prefectClockCheck a)) ∧ (c ≠ .prefectFaultClear) ∧ (c ≠ .prefectReleaseReady) ∧ (c ≠ .forceRelease) ∧ (c ≠ .prefectSetDelivery) ∧ (c ≠ .commissioningComplete) :=
  ⟨.resetEnd, State.reset, _, rfl, by nofun, by nofun, by intros; nofun, by intros; nofun, by intros; nofun, by intros; nofun, by intros; nofun, by nofun, by nofun, by nofun, by nofun, by nofun⟩
theorem witness_PrefectStandsAlone_2 : ∃ (s : State) (core m : Nat), (s.reaches core .pwm (pwmAddr m 4)) ∧ (s.hasPm m = true) ∧ (s.isEntitled (coreWing core) m = true) ∧ (s.prefectBlocks = true) :=
  ⟨((State.reset.setFld .HP_STAT_HOLDER 0 1).setWing .a .active), 0, 23, by decide +kernel⟩

theorem witness_RingsHaltOnErrors_1 : ∃ (s : State) (q i : Nat) (d : Desc), d.errcode = 1 ∨ d.errcode = 2 :=
  ⟨State.reset, 0, 0, { errcode := 2 }, by decide +kernel⟩
theorem witness_RingsHaltOnErrors_2 : ∃ (s : State) (q i : Nat) (d : Desc), d.errcode = 4 ∨ d.errcode = 5 :=
  ⟨State.reset, 15, 0, { errcode := 5 }, by decide +kernel⟩
theorem witness_RingsHaltOnErrors_3 : ∃ (s : State), ∀ q < 16, s.flag .RING_CFG_EN q = true → s.flag .RING_STAT_HALT q = true :=
  ⟨(State.reset.setFld .RING_CFG_EN 1 1).setFld .RING_STAT_HALT 1 1, by decide +kernel⟩
theorem witness_RingsHaltOnErrors_4 : ∃ (s : State) (q : Nat), s.flag .RING_STAT_HALT q = true :=
  ⟨State.reset.setFld .RING_STAT_HALT 15 1, 15, by decide +kernel⟩
theorem witness_RingsHaltOnErrors_5 : ∃ (s : State) (q : Nat), s.nextRing = some q :=
  ⟨{ ((((State.reset.setFld .RING_HEAD_HEAD 1 1).setFld .RING_CFG_EN 1 1).setFld .RING_BASE 1 0x20001000).setFld .PORT_EN_EN 0 1) with satchel := [((0, 0x1003), 0x20), ((0, 0x1004), 4), ((0, 0x1006), 1), ((0, 0x1008), 1)], integ := { State.reset.integ with satLost := false } }, 1, by decide +kernel⟩
theorem witness_RingsHaltOnErrors_6 : ∃ (s : State) (core q : Nat), (s.mayStore core (ringAddr q 0x10) (s.ringNs q)) ∧ (q < 16) ∧ ((s.ringOwners q).contains (coreWing core) = true) :=
  ⟨(State.reset.setFld .RING_STAT_HALT 15 1).setFld .RING_CFG_OWNER 15 1, 3, 15, by decide +kernel⟩

theorem witness_StaleDescriptorsComplete_1 : ∃ (s : State) (q i : Nat) (d : Desc), (s.nextRing = some q) ∧ (i = s.fld .RING_TAIL_TAIL q % s.ringSize q) ∧ (s.desc q i = some d) ∧ (d.epoch ≠ s.fld .RING_EPOCH) ∧ ((s.satWrite (s.descAddr q i) d.bytes).1 = true) :=
  ⟨{ ((((State.reset.setFld .RING_HEAD_HEAD 1 1).setFld .RING_CFG_EN 1 1).setFld .RING_BASE 1 0x20001000).setFld .PORT_EN_EN 0 1) with satchel := [((0, 0x1003), 0x20), ((0, 0x1004), 4), ((0, 0x1006), 1)], integ := { State.reset.integ with satLost := false } }, 1, 0, { addr := 0x20000000, len := 4, own := true }, by decide +kernel⟩

theorem witness_InstanceFrames_1 : ∃ (c : Instr) (s t : State) (n k : Nat), (exec c s = .next t) ∧ (c.arithmeticOf = some n) ∧ (k ≠ n) :=
  ⟨.nop 3, State.reset, _, 3, 11, rfl, rfl, by decide⟩
theorem witness_InstanceFrames_2 : ∃ (s : State) (core m w v j : Nat), j ≠ m :=
  ⟨State.reset, 0, 23, 1, 5, 22, by decide +kernel⟩
theorem witness_InstanceFrames_3 : ∃ (s : State) (core m j : Nat) (on : Bool), j ≠ m :=
  ⟨State.reset, 0, 0, 23, true, by decide +kernel⟩
theorem witness_InstanceFrames_4 : ∃ (s : State) (core m isel presc j : Nat) (ien clr : Bool), j ≠ m :=
  ⟨State.reset, 0, 0, 1, 2, 23, true, true, by decide +kernel⟩
theorem witness_InstanceFrames_5 : ∃ (s : State) (core n fdly j : Nat), j ≠ n :=
  ⟨State.reset, 0, 0, 5, 23, by decide +kernel⟩
theorem witness_InstanceFrames_6 : ∃ (s : State) (core c lo hi j : Nat), j ≠ c :=
  ⟨State.reset, 0, 47, 1, 2, 0, by decide +kernel⟩
theorem witness_InstanceFrames_7 : ∃ (s : State) (core q v j : Nat), j ≠ q :=
  ⟨State.reset, 0, 15, 255, 0, by decide +kernel⟩
theorem witness_InstanceFrames_8 : ∃ (s : State) (core q v j : Nat), (j ≠ q) ∧ (j ≠ 10) :=
  ⟨State.reset, 0, 15, 3, 0, by decide +kernel⟩
theorem witness_InstanceFrames_9 : ∃ (s : State) (core q j : Nat), j ≠ q :=
  ⟨State.reset, 0, 15, 0, by decide +kernel⟩
theorem witness_InstanceFrames_10 : ∃ (s : State) (core v j : Nat), j ≠ core :=
  ⟨State.reset, 3, 7, 0, by decide +kernel⟩
theorem witness_InstanceFrames_11 : ∃ (s : State) (p spd j : Nat) (up fdx : Bool), j ≠ p :=
  ⟨State.reset, 0, 1, 1, true, true, by decide +kernel⟩
theorem witness_InstanceFrames_12 : ∃ (s : State) (p j : Nat), j ≠ p :=
  ⟨State.reset, 2, 3, by decide +kernel⟩
theorem witness_InstanceFrames_13 : ∃ (s : State) (n j : Nat), j ≠ n :=
  ⟨State.reset, 11, 0, by decide +kernel⟩

theorem witness_StoreFrames_1 : ∃ (s t : State) (core addr v a : Nat), (0x20000000 ≤ addr) ∧ (addr < 0x20400000) ∧ (exec (.registerWrite core addr v) s = .next t) ∧ (a < addr - 0x20000000 ∨ addr - 0x20000000 + 4 ≤ a) :=
  ⟨State.reset, _, 0, 0x203FFFFC, 1, 0, by decide, by decide, rfl, by decide⟩
theorem witness_StoreFrames_2 : ∃ (s t : State) (core addr v w a : Nat), (0x11000000 ≤ addr) ∧ (addr < 0x11080000) ∧ (exec (.registerWrite core addr v) s = .next t) ∧ (w ≠ (coreWing core).num ∨ a < addr - 0x11000000 ∨ addr - 0x11000000 + 4 ≤ a) :=
  ⟨State.reset, _, 3, 0x1107FFFC, 1, 0, 0, by decide, by decide, rfl, by decide⟩
theorem witness_StoreFrames_3 : ∃ (s t : State) (core addr v a : Nat) (op : AmoOp), (0x20000000 ≤ addr) ∧ (exec (.amoSatchel core addr op v) s = .next t) ∧ (a < addr - 0x20000000 ∨ addr - 0x20000000 + 4 ≤ a) :=
  ⟨State.reset, _, 0, 0x203FFFFC, 1, 0, .add, by decide, rfl, by decide⟩
theorem witness_StoreFrames_4 : ∃ (s t : State) (core addr v w a : Nat) (op : AmoOp), (addr < 0x20000000) ∧ (exec (.amoSatchel core addr op v) s = .next t) ∧ (w ≠ (coreWing core).num ∨ a < addr - 0x11000000 ∨ addr - 0x11000000 + 4 ≤ a) :=
  ⟨State.reset, _, 0, 0x11000000, 1, 1, 0, .add, by decide, rfl, by decide⟩
theorem witness_StoreFrames_5 : ∃ (s t : State) (n ra addr k i : Nat) (wide : Bool), (s.executes n) ∧ ((s.rg n ra).finite = true) ∧ (s.sound n (0x2000 + addr) (if wide then 2 else 1)) ∧ (exec (.st n ra addr wide) s = .next t) ∧ (¬(k = n ∧ 0x2000 + addr ≤ i ∧ i < 0x2000 + addr + (if wide then 2 else 1))) :=
  ⟨(State.reset.setFld .LE_STAT_RUNNING 11 1), _, 11, 31, 0x1F7E, 0, 0, true, by decide +kernel, by decide +kernel, by decide +kernel, rfl, by decide⟩
theorem witness_StoreFrames_6 : ∃ (s t : State) (p ts a : Nat) (frame : List Nat) (d : Desc), (p < 2) ∧ (s.freeDesc (2 * p) = some d) ∧ (s.receives (2 * p) frame.length frame) ∧ (exec (.ethFrameReceive p frame true ts) s = .next t) ∧ (a < d.addr - 0x20000000 ∨ d.addr - 0x20000000 + frame.length ≤ a) ∧ (a < s.descAddr (2 * p) (s.fld .RING_HEAD_HEAD (2 * p)) - 0x20000000 ∨ s.descAddr (2 * p) (s.fld .RING_HEAD_HEAD (2 * p)) - 0x20000000 + 32 ≤ a) :=
  ⟨{ (((State.reset.setFld .RING_CFG_EN 2 1).setFld .RING_BASE 2 0x20001000).setFld .PORT_EN_EN 0 2) with satchel := [((0, 0x1003), 0x20), ((0, 0x1004), 60), ((0, 0x1006), 1)], integ := { State.reset.integ with satLost := false } }, _, 1, 77, 0x2000, [255, 255, 255, 255, 255, 255], { addr := 0x20000000, len := 60, own := true }, by decide, by decide +kernel, by decide +kernel, rfl, by decide, by decide +kernel⟩

end Sys2Proof.Tests
end

section
/-!
What every command keeps and leaves, from the law of each command: one arm per command, as the dispatch has it.
-/
namespace Sys2Proof.Machine

/-! ### The invariant -/

/-- Every command keeps the invariant and the queue. -/
theorem exec_kept {q : List Instr} {s : State} (h : Kept q s) (c : Instr) : KeptOut q (exec c s) :=
  match c with
  | .powerOn => execPowerOn_kept s h
  | .rstnLow => execRstnLow_kept s h
  | .softwareResetRequest => execSoftwareResetRequest_kept s h
  | .vcoreDroop _ => execVcoreDroop_kept _ s h
  | .resetPhaseAdvance _ _ => execResetPhaseAdvance_kept _ _ s h
  | .resetEnd => execResetEnd_kept s h
  | .pllRetryReset => execPllRetryReset_kept s h
  | .handshakeStall _ _ _ _ => execHandshakeStall_kept _ _ _ _ s h
  | .sampleWordOffer _ _ _ _ _ _ _ => execSampleWordOffer_kept _ _ _ _ _ _ _ s h
  | .bellCopyDivergence _ => execBellCopyDivergence_kept _ s h
  | .bellReqApply _ _ => execBellReqApply_kept _ _ s h
  | .bellReqJointApply _ _ _ => execBellReqJointApply_kept _ _ _ s h
  | .bellReqLatch _ _ => execBellReqLatch_kept _ _ s h
  | .bellReqBarrier _ _ => execBellReqBarrier_kept _ _ s h
  | .bellAlone => execBellAlone_kept s h
  | .barrierComplete => execBarrierComplete_kept s h
  | .barrierTimeout _ => execBarrierTimeout_kept _ s h
  | .periodBell => execPeriodBell_kept s h
  | .headEvent _ _ => execHeadEvent_kept _ _ s h
  | .lessonFallback => execLessonFallback_kept s h
  | .openBallTest _ _ => execOpenBallTest_kept _ _ s h
  | .supplyBallOpen _ _ => execSupplyBallOpen_kept _ _ s h
  | .ioBankChange _ _ => execIoBankChange_kept _ _ s h
  | .mainSupplyGood => execMainSupplyGood_kept s h
  | .vanaFail => execVanaFail_kept s h
  | .vpfGood => execVpfGood_kept s h
  | .vpfFail => execVpfFail_kept s h
  | .caretakerStart => execCaretakerStart_kept s h
  | .caretakerStop => execCaretakerStop_kept s h
  | .storeFault => execStoreFault_kept s h
  | .pwrSwWrite _ _ _ _ _ => execPwrSwWrite_kept _ _ _ _ _ s h
  | .wingPowerGood _ => execWingPowerGood_kept _ s h
  | .switchOvercurrent _ => execSwitchOvercurrent_kept _ s h
  | .harvestStateChange _ _ => execHarvestStateChange_kept _ _ s h
  | .cellPathOn => execCellPathOn_kept s h
  | .cellPathOff => execCellPathOff_kept s h
  | .cellRemoved => execCellRemoved_kept s h
  | .cellInserted => execCellInserted_kept s h
  | .storeCeilingReached => execStoreCeilingReached_kept s h
  | .storeCapMeasured _ => execStoreCapMeasured_kept _ s h
  | .pwrCellWrite _ _ _ _ _ => execPwrCellWrite_kept _ _ _ _ _ s h
  | .gaugeSample _ _ _ => execGaugeSample_kept _ _ _ s h
  | .admissionRequest _ _ => execAdmissionRequest_kept _ _ s h
  | .burstComplete => execBurstComplete_kept s h
  | .caretakerTakePort => execCaretakerTakePort_kept s h
  | .caretakerReleasePort => execCaretakerReleasePort_kept s h
  | .vanaGood => execVanaGood_kept s h
  | .pllLock _ => execPllLock_kept _ s h
  | .pllUnlock _ => execPllUnlock_kept _ s h
  | .clkEnWrite _ _ _ => execClkEnWrite_kept _ _ _ s h
  | .xinLost => execXinLost_kept s h
  | .tbLoRead _ => execTbLoRead_kept _ s h
  | .ppsPulse => execPpsPulse_kept s h
  | .ppsPulseEnd => execPpsPulseEnd_kept s h
  | .phaseStep => execPhaseStep_kept s h
  | .syncInEdge _ => execSyncInEdge_kept _ s h
  | .syncMissed => execSyncMissed_kept s h
  | .syncOutPulse => execSyncOutPulse_kept s h
  | .rcTrim => execRcTrim_kept s h
  | .rtcCrystalStop => execRtcCrystalStop_kept s h
  | .rtcCrystalStart => execRtcCrystalStart_kept s h
  | .rtcSecond => execRtcSecond_kept s h
  | .rtcSecWrite _ _ => execRtcSecWrite_kept _ _ s h
  | .rtcSubRead _ => execRtcSubRead_kept _ s h
  | .sarBurstStart _ => execSarBurstStart_kept _ s h
  | .sarSwtrigWrite _ _ => execSarSwtrigWrite_kept _ _ s h
  | .sarFreeRunTrigger _ => execSarFreeRunTrigger_kept _ s h
  | .sarConversionComplete _ _ _ _ => execSarConversionComplete_kept _ _ _ _ s h
  | .sarInjWrite _ _ _ _ => execSarInjWrite_kept _ _ _ _ s h
  | .refReadySet => execRefReadySet_kept s h
  | .foregroundCalComplete => execForegroundCalComplete_kept s h
  | .backgroundStepStart => execBackgroundStepStart_kept s h
  | .substEntryOpportunity => execSubstEntryOpportunity_kept s h
  | .sliceCalComplete _ _ _ _ => execSliceCalComplete_kept _ _ _ _ s h
  | .substExitOpportunity => execSubstExitOpportunity_kept s h
  | .vrefpOutOfRange => execVrefpOutOfRange_kept s h
  | .modClockLost _ => execModClockLost_kept _ s h
  | .modDataLost _ => execModDataLost_kept _ s h
  | .modLossEnd _ _ => execModLossEnd_kept _ _ s h
  | .modDecimation _ _ _ => execModDecimation_kept _ _ _ s h
  | .modFdlyWrite _ _ _ => execModFdlyWrite_kept _ _ _ s h
  | .guardTripAssert _ _ => execGuardTripAssert_kept _ _ s h
  | .guardSettleClear _ _ => execGuardSettleClear_kept _ _ s h
  | .modGuardClr _ _ _ => execModGuardClr_kept _ _ _ s h
  | .comparatorLatchSet _ _ => execComparatorLatchSet_kept _ _ s h
  | .lebBlankingEnd _ _ => execLebBlankingEnd_kept _ _ s h
  | .wcClrWrite _ _ _ => execWcClrWrite_kept _ _ _ s h
  | .comparatorInitialClear _ _ => execComparatorInitialClear_kept _ _ s h
  | .wcThrWrite _ _ _ _ => execWcThrWrite_kept _ _ _ _ s h
  | .tripGroupFirstAssert _ => execTripGroupFirstAssert_kept _ s h
  | .pwmZeroEvent _ _ => execPwmZeroEvent_kept _ _ s h
  | .pwmPeriodEvent _ _ => execPwmPeriodEvent_kept _ _ s h
  | .pwmTriggerCompare _ _ _ => execPwmTriggerCompare_kept _ _ _ s h
  | .pwmCompareMatch _ _ _ => execPwmCompareMatch_kept _ _ _ s h
  | .turnOnDelayExpiry _ _ => execTurnOnDelayExpiry_kept _ _ s h
  | .pwmShadowLowWrite _ _ _ _ => execPwmShadowLowWrite_kept _ _ _ _ s h
  | .pwmShadowHighWrite _ _ _ _ => execPwmShadowHighWrite_kept _ _ _ _ s h
  | .stagedMove => execStagedMove_kept s h
  | .delayLineLock => execDelayLineLock_kept s h
  | .delayLineLost => execDelayLineLost_kept s h
  | .safeLevelResumeCheck _ => execSafeLevelResumeCheck_kept _ s h
  | .pwmOutenWrite _ _ _ => execPwmOutenWrite_kept _ _ _ s h
  | .pwmCntEnWrite _ _ _ => execPwmCntEnWrite_kept _ _ _ s h
  | .pwmArmWrite _ _ _ => execPwmArmWrite_kept _ _ _ s h
  | .pwmGstartWrite _ _ => execPwmGstartWrite_kept _ _ s h
  | .groupStartExecute => execGroupStartExecute_kept s h
  | .pwmTimedStart _ => execPwmTimedStart_kept _ s h
  | .pwmLinkPulse _ => execPwmLinkPulse_kept _ s h
  | .pwmIntWrite _ _ _ _ _ _ => execPwmIntWrite_kept _ _ _ _ _ _ s h
  | .fltQualified _ _ => execFltQualified_kept _ _ s h
  | .fltBlankingEnd _ => execFltBlankingEnd_kept _ s h
  | .rdyLost _ => execRdyLost_kept _ s h
  | .shootThrough _ => execShootThrough_kept _ s h
  | .giSwtrigWrite _ _ => execGiSwtrigWrite_kept _ _ s h
  | .sequencerGapEnd _ => execSequencerGapEnd_kept _ s h
  | .refreshInsert _ => execRefreshInsert_kept _ s h
  | .refreshPhaseEnd _ => execRefreshPhaseEnd_kept _ s h
  | .fltQualifiedHigh _ => execFltQualifiedHigh_kept _ s h
  | .rdyQualifiedHigh _ => execRdyQualifiedHigh_kept _ s h
  | .lessonRunStart _ => execLessonRunStart_kept _ s h
  | .nop _ => execNop_kept _ s h
  | .ldk _ _ _ => execLdk_kept _ _ _ s h
  | .ld _ _ _ _ => execLd_kept _ _ _ _ s h
  | .st _ _ _ _ => execSt_kept _ _ _ _ s h
  | .lds _ _ _ _ => execLds_kept _ _ _ _ s h
  | .wait _ _ _ _ => execWait_kept _ _ _ _ s h
  | .waitDeadline _ => execWaitDeadline_kept _ s h
  | .inj _ _ _ _ => execInj_kept _ _ _ _ s h
  | .stpc _ _ _ _ => execStpc_kept _ _ _ _ s h
  | .stpd _ _ _ _ => execStpd_kept _ _ _ _ s h
  | .stpp _ _ _ _ _ => execStpp_kept _ _ _ _ _ s h
  | .stpe _ _ _ _ => execStpe_kept _ _ _ _ s h
  | .add _ _ _ _ => execAdd_kept _ _ _ _ s h
  | .sub _ _ _ _ => execSub_kept _ _ _ _ s h
  | .mul _ _ _ _ => execMul_kept _ _ _ _ s h
  | .mac _ _ _ _ _ => execMac_kept _ _ _ _ _ s h
  | .div _ _ _ _ => execDiv_kept _ _ _ _ s h
  | .sqrt _ _ _ => execSqrt_kept _ _ _ s h
  | .abs _ _ _ => execAbs_kept _ _ _ s h
  | .sincos _ _ _ => execSincos_kept _ _ _ s h
  | .pi _ _ _ _ _ => execPi_kept _ _ _ _ _ s h
  | .pr _ _ _ _ _ => execPr_kept _ _ _ _ _ s h
  | .biq _ _ _ _ => execBiq_kept _ _ _ _ s h
  | .clarke _ _ _ _ _ => execClarke_kept _ _ _ _ _ s h
  | .park _ _ _ _ _ => execPark_kept _ _ _ _ _ s h
  | .ipark _ _ _ _ _ => execIpark_kept _ _ _ _ _ s h
  | .sogi _ _ _ _ _ => execSogi_kept _ _ _ _ _ s h
  | .ddsrf _ _ _ _ _ _ => execDdsrf_kept _ _ _ _ _ _ s h
  | .pll _ _ _ _ => execPll_kept _ _ _ _ s h
  | .lim _ _ _ _ _ => execLim_kept _ _ _ _ _ s h
  | .rlim _ _ _ _ => execRlim_kept _ _ _ _ s h
  | .lut _ _ _ _ => execLut_kept _ _ _ _ s h
  | .cmpf _ _ _ _ _ => execCmpf_kept _ _ _ _ _ s h
  | .clim _ _ _ _ _ _ => execClim_kept _ _ _ _ _ _ s h
  | .prof _ _ _ _ => execProf_kept _ _ _ _ s h
  | .ramp _ _ _ _ _ => execRamp_kept _ _ _ _ _ s h
  | .ferr _ _ _ _ => execFerr_kept _ _ _ _ s h
  | .preset _ _ _ _ _ => execPreset_kept _ _ _ _ _ s h
  | .skip _ _ _ _ => execSkip_kept _ _ _ _ s h
  | .evry _ _ _ _ => execEvry_kept _ _ _ _ s h
  | .evt _ _ _ _ => execEvt_kept _ _ _ _ s h
  | .endRun _ => execEndRun_kept _ s h
  | .engineDataWrite _ _ _ _ => execEngineDataWrite_kept _ _ _ _ s h
  | .engineDataUpdate _ _ _ => execEngineDataUpdate_kept _ _ _ s h
  | .leRetireWrite _ _ => execLeRetireWrite_kept _ _ s h
  | .substituteCopyComplete _ _ => execSubstituteCopyComplete_kept _ _ s h
  | .leSubgoWrite _ _ _ => execLeSubgoWrite_kept _ _ _ s h
  | .substituteSelfTest _ _ => execSubstituteSelfTest_kept _ _ s h
  | .heldLowHalfTimeout _ => execHeldLowHalfTimeout_kept _ s h
  | .gridCommandSync => execGridCommandSync_kept s h
  | .gridCommandRun => execGridCommandRun_kept s h
  | .gridCommandClearTrip => execGridCommandClearTrip_kept s h
  | .islandingDisarm => execIslandingDisarm_kept s h
  | .islandingArm => execIslandingArm_kept s h
  | .islandingClearTrip => execIslandingClearTrip_kept s h
  | .mpptTraceRequest _ => execMpptTraceRequest_kept _ s h
  | .bursarPair _ _ => execBursarPair_kept _ _ s h
  | .meteringCycleEnd _ _ => execMeteringCycleEnd_kept _ _ s h
  | .halfCycleBoundary _ => execHalfCycleBoundary_kept _ s h
  | .burLatchWrite _ _ => execBurLatchWrite_kept _ _ s h
  | .burSaveNowWrite _ => execBurSaveNowWrite_kept _ s h
  | .bursarRestore => execBursarRestore_kept s h
  | .theftWindowClock => execTheftWindowClock_kept s h
  | .theftWindowEnd _ => execTheftWindowEnd_kept _ s h
  | .theftClrWrite _ => execTheftClrWrite_kept _ s h
  | .leaseRenew _ => execLeaseRenew_kept _ s h
  | .leaseExpiry _ => execLeaseExpiry_kept _ s h
  | .voterDisagreement _ _ => execVoterDisagreement_kept _ _ s h
  | .standby _ _ => execStandby_kept _ _ s h
  | .wake _ => execWake_kept _ s h
  | .cold _ => execCold_kept _ s h
  | .ready _ => execReady_kept _ s h
  | .handover _ => execHandover_kept _ s h
  | .cancel _ => execCancel_kept _ s h
  | .release _ => execRelease_kept _ s h
  | .acquire _ => execAcquire_kept _ s h
  | .coldSelfTestWindow _ _ => execColdSelfTestWindow_kept _ _ s h
  | .snapshotWriteComplete => execSnapshotWriteComplete_kept s h
  | .takeoverSlotChosen => execTakeoverSlotChosen_kept s h
  | .takeoverRestoreComplete => execTakeoverRestoreComplete_kept s h
  | .hpRearmWrite _ _ => execHpRearmWrite_kept _ _ s h
  | .handoverCopyComplete => execHandoverCopyComplete_kept s h
  | .linkStale _ => execLinkStale_kept _ s h
  | .scrubRead _ _ _ => execScrubRead_kept _ _ _ s h
  | .scrubPassOverdue _ => execScrubPassOverdue_kept _ s h
  | .uncorrectableRead _ _ _ _ => execUncorrectableRead_kept _ _ _ _ s h
  | .satRetWrite _ _ _ => execSatRetWrite_kept _ _ _ s h
  | .repLoadWrite _ _ => execRepLoadWrite_kept _ _ s h
  | .ageingMeasure _ => execAgeingMeasure_kept _ s h
  | .libraryInit _ _ _ _ _ _ _ _ => execLibraryInit_kept _ _ _ _ _ _ _ _ s h
  | .libAppendRecord _ => execLibAppendRecord_kept _ s h
  | .libReadRecord _ _ => execLibReadRecord_kept _ _ s h
  | .libReadNewest _ _ => execLibReadNewest_kept _ _ s h
  | .flashOperationComplete _ => execFlashOperationComplete_kept _ s h
  | .recordCommit => execRecordCommit_kept s h
  | .libraryRefresh => execLibraryRefresh_kept s h
  | .wearLevelRelocate => execWearLevelRelocate_kept s h
  | .bootImageVerify _ => execBootImageVerify_kept _ s h
  | .identityKeyDerive _ => execIdentityKeyDerive_kept _ s h
  | .worldViolation _ _ _ => execWorldViolation_kept _ _ _ s h
  | .enrol _ => execEnrol_kept _ s h
  | .transfer _ => execTransfer_kept _ s h
  | .vendorOff _ => execVendorOff_kept _ s h
  | .advance _ => execAdvance_kept _ s h
  | .secCommandComplete => execSecCommandComplete_kept s h
  | .attestationRequest _ => execAttestationRequest_kept _ s h
  | .attestationComplete => execAttestationComplete_kept s h
  | .testPulseStart _ => execTestPulseStart_kept _ s h
  | .testPulseEnd _ => execTestPulseEnd_kept _ s h
  | .testPulseCheck _ _ _ _ => execTestPulseCheck_kept _ _ _ _ s h
  | .filteredDemand _ => execFilteredDemand_kept _ s h
  | .discrepancyFault _ => execDiscrepancyFault_kept _ s h
  | .readbackFault _ => execReadbackFault_kept _ s h
  | .prefectClockCheck _ => execPrefectClockCheck_kept _ s h
  | .prefectFaultClear => execPrefectFaultClear_kept s h
  | .prefectNotice => execPrefectNotice_kept s h
  | .prefectForce => execPrefectForce_kept s h
  | .prefectReleaseReady => execPrefectReleaseReady_kept s h
  | .pfRelWrite _ _ => execPfRelWrite_kept _ _ s h
  | .forceRelease => execForceRelease_kept s h
  | .cfgswRead _ => execCfgswRead_kept _ s h
  | .cfgswChange _ => execCfgswChange_kept _ s h
  | .prefectSetDelivery => execPrefectSetDelivery_kept s h
  | .sealOpened => execSealOpened_kept s h
  | .sealClosed => execSealClosed_kept s h
  | .pfCommitWrite _ _ => execPfCommitWrite_kept _ _ s h
  | .commitArmTimeout => execCommitArmTimeout_kept s h
  | .commissioningComplete => execCommissioningComplete_kept s h
  | .portEnWrite _ _ => execPortEnWrite_kept _ _ s h
  | .ethFrameReceive _ _ _ _ => execEthFrameReceive_kept _ _ _ _ s h
  | .canFrameReceive _ _ _ _ _ _ _ _ _ _ _ => execCanFrameReceive_kept _ _ _ _ _ _ _ _ _ _ _ s h
  | .niujorFrameReceive _ _ _ _ _ _ => execNiujorFrameReceive_kept _ _ _ _ _ _ s h
  | .niujorCycleStart => execNiujorCycleStart_kept s h
  | .niujorSlot => execNiujorSlot_kept s h
  | .chainBell => execChainBell_kept s h
  | .ethMdioWrite _ _ _ _ _ => execEthMdioWrite_kept _ _ _ _ _ s h
  | .mdioFrameComplete _ => execMdioFrameComplete_kept _ s h
  | .peerTrain _ => execPeerTrain_kept _ s h
  | .trainingWord _ _ _ => execTrainingWord_kept _ _ _ s h
  | .hopPulse => execHopPulse_kept s h
  | .trainingEcho _ => execTrainingEcho_kept _ s h
  | .hopReport _ => execHopReport_kept _ s h
  | .echoTimeout => execEchoTimeout_kept s h
  | .positionReport _ => execPositionReport_kept _ s h
  | .trainingTimeout => execTrainingTimeout_kept s h
  | .ringCfgWrite _ _ _ => execRingCfgWrite_kept _ _ _ s h
  | .ringHeadWrite _ _ _ => execRingHeadWrite_kept _ _ _ s h
  | .descriptorProcess => execDescriptorProcess_kept s h
  | .descriptorComplete _ _ _ => execDescriptorComplete_kept _ _ _ s h
  | .ringHaltClear _ _ => execRingHaltClear_kept _ _ s h
  | .captureBufferComplete _ => execCaptureBufferComplete_kept _ s h
  | .cryptoHash => execCryptoHash_kept s h
  | .cryptoVerify => execCryptoVerify_kept s h
  | .portRestart _ => execPortRestart_kept _ s h
  | .ethLinkChange _ _ _ _ => execEthLinkChange_kept _ _ _ _ s h
  | .canBusOffRecovery _ => execCanBusOffRecovery_kept _ s h
  | .usdoTransfer _ _ _ => execUsdoTransfer_kept _ _ _ s h
  | .usdoSessionTimeout _ _ => execUsdoSessionTimeout_kept _ _ s h
  | .idpRead _ _ _ _ => execIdpRead_kept _ _ _ _ s h
  | .idpWrite _ _ _ _ _ => execIdpWrite_kept _ _ _ _ _ s h
  | .idpTransferTimeout _ _ _ => execIdpTransferTimeout_kept _ _ _ s h
  | .requestForward => execRequestForward_kept s h
  | .groupEnter _ _ _ => execGroupEnter_kept _ _ _ s h
  | .groupRestart _ _ _ => execGroupRestart_kept _ _ _ s h
  | .groupRestore _ _ _ => execGroupRestore_kept _ _ _ s h
  | .validationComplete _ => execValidationComplete_kept _ s h
  | .jointRestart _ _ _ => execJointRestart_kept _ _ _ s h
  | .storeParameters _ _ _ => execStoreParameters_kept _ _ _ s h
  | .restoreDefaults _ _ _ => execRestoreDefaults_kept _ _ _ s h
  | .rollCall _ _ => execRollCall_kept _ _ s h
  | .descriptionRequest _ _ _ => execDescriptionRequest_kept _ _ _ s h
  | .descriptionRead _ _ => execDescriptionRead_kept _ _ s h
  | .programDownload _ _ _ => execProgramDownload_kept _ _ _ s h
  | .imageSlotWrite _ _ _ _ => execImageSlotWrite_kept _ _ _ _ s h
  | .seedRequest _ _ _ => execSeedRequest_kept _ _ _ s h
  | .seedComplete => execSeedComplete_kept s h
  | .interruptClaim _ => execInterruptClaim_kept _ s h
  | .interruptComplete _ _ => execInterruptComplete_kept _ _ s h
  | .machineTimer _ => execMachineTimer_kept _ s h
  | .tutMtcmplWrite _ _ => execTutMtcmplWrite_kept _ _ s h
  | .tutMtcmphWrite _ _ => execTutMtcmphWrite_kept _ _ s h
  | .wfi _ => execWfi_kept _ s h
  | .gatewayRead _ _ => execGatewayRead_kept _ _ s h
  | .gatewayWrite _ _ => execGatewayWrite_kept _ _ s h
  | .gatewayDone _ => execGatewayDone_kept _ s h
  | .tapReset => execTapReset_kept s h
  | .extest _ => execExtest_kept _ s h
  | .idcode => execIdcode_kept s h
  | .samplePreload _ => execSamplePreload_kept _ s h
  | .dtmcs => execDtmcs_kept s h
  | .dmi _ _ => execDmi_kept _ _ s h
  | .bypass => execBypass_kept s h
  | .debugHalt _ => execDebugHalt_kept _ s h
  | .lehaltWrite _ _ => execLehaltWrite_kept _ _ s h
  | .amoSatchel _ _ _ _ => execAmoSatchel_kept _ _ _ _ s h
  | .registerWrite _ _ _ => execRegisterWrite_kept _ _ _ s h

/-- Taking the front command off the queue keeps the invariant. -/
theorem State.setPending_kept {q : List Instr} {s : State} (h : Kept q s) (r : List Instr) : Kept r (s.setPending r) :=
  { h with pending := rfl }

/-- A step keeps the invariant, with what then waits. -/
theorem step_kept {q : List Instr} {s t : State} (h : Kept q s) (ht : step s = .next t) : ∃ r, Kept r t := by
  unfold step at ht
  split at ht
  case h_1 => exact ⟨q, KeptOut.next (s.idle_kept h) t ht⟩
  case h_2 c r _ => exact ⟨r, exec_kept (State.setPending_kept h r) c t ht⟩

/-- Settles O48: the invariant is Kept, which each command's law and the idle step's law preserve. -/
theorem stepKeepsTheInvariant : Obligations.StepKeepsTheInvariant := by
  intro s t htidy hwidth hshaped ht
  obtain ⟨r, hr⟩ := step_kept ((kept_iff s.pending s).2 ⟨rfl, htidy, hwidth, hshaped⟩) ht
  exact ((kept_iff r t).1 hr).2

/-! ### The register fields outside the footprint -/

theorem Instr.fields_of_mayWrite {c : Instr} {f : Fld} (hc : c.mayWrite f = false) : c.fields.contains f = false := by
  unfold Instr.mayWrite at hc
  split at hc
  · rfl
  · exact hc

/-- A field outside the footprint has a clear bit in a mask that the footprint covers; that it covers the mask of the law
is computed where the lemma is used. -/
theorem mayWrite_testBit {c : Instr} {f : Fld} {w : Nat} (hc : c.mayWrite f = false)
    (hw : fieldMask c.fields &&& w = w := by dsimp only [Instr.fields]; decide +kernel) : w.testBit f.ctorIdx = false :=
  fieldMask_testBit hw (Instr.fields_of_mayWrite hc)

/-- RESET_END's footprint is given by what it leaves. -/
theorem beyondReset_testBit {f : Fld} (hc : Instr.resetEnd.mayWrite f = false) :
    execResetEnd_writes.testBit f.ctorIdx = false := by
  have hf : f ∈ Foot.beyondReset := by simpa [Instr.mayWrite] using hc
  have hall : ∀ g ∈ Foot.beyondReset, execResetEnd_writes.testBit g.ctorIdx = false := by decide +kernel
  exact hall f hf

/-- Every command leaves a field outside its footprint. -/
theorem exec_still {F : Fld} {I V : Nat} {s : State} (h : Still F I V s) (c : Instr) (hc : c.mayWrite F = false) :
    StillOut F I V (exec c s) :=
  match c with
  | .powerOn => execPowerOn_still s (mayWrite_testBit hc) h
  | .rstnLow => execRstnLow_still s (mayWrite_testBit hc) h
  | .softwareResetRequest => execSoftwareResetRequest_still s (mayWrite_testBit hc) h
  | .vcoreDroop _ => execVcoreDroop_still _ s (mayWrite_testBit hc) h
  | .resetPhaseAdvance _ _ => execResetPhaseAdvance_still _ _ s (mayWrite_testBit hc) h
  | .resetEnd => execResetEnd_still s (beyondReset_testBit hc) h
  | .pllRetryReset => execPllRetryReset_still s (mayWrite_testBit hc) h
  | .handshakeStall _ _ _ _ => execHandshakeStall_still _ _ _ _ s (mayWrite_testBit hc) h
  | .sampleWordOffer _ _ _ _ _ _ _ => execSampleWordOffer_still _ _ _ _ _ _ _ s (mayWrite_testBit hc) h
  | .bellCopyDivergence _ => execBellCopyDivergence_still _ s (mayWrite_testBit hc) h
  | .bellReqApply _ _ => execBellReqApply_still _ _ s (mayWrite_testBit hc) h
  | .bellReqJointApply _ _ _ => execBellReqJointApply_still _ _ _ s (mayWrite_testBit hc) h
  | .bellReqLatch _ _ => execBellReqLatch_still _ _ s (mayWrite_testBit hc) h
  | .bellReqBarrier _ _ => execBellReqBarrier_still _ _ s (mayWrite_testBit hc) h
  | .bellAlone => execBellAlone_still s (mayWrite_testBit hc) h
  | .barrierComplete => execBarrierComplete_still s (mayWrite_testBit hc) h
  | .barrierTimeout _ => execBarrierTimeout_still _ s (mayWrite_testBit hc) h
  | .periodBell => execPeriodBell_still s (mayWrite_testBit hc) h
  | .headEvent _ _ => execHeadEvent_still _ _ s (mayWrite_testBit hc) h
  | .lessonFallback => execLessonFallback_still s (mayWrite_testBit hc) h
  | .openBallTest _ _ => execOpenBallTest_still _ _ s (mayWrite_testBit hc) h
  | .supplyBallOpen _ _ => execSupplyBallOpen_still _ _ s (mayWrite_testBit hc) h
  | .ioBankChange _ _ => execIoBankChange_still _ _ s (mayWrite_testBit hc) h
  | .mainSupplyGood => execMainSupplyGood_still s (mayWrite_testBit hc) h
  | .vanaFail => execVanaFail_still s (mayWrite_testBit hc) h
  | .vpfGood => execVpfGood_still s (mayWrite_testBit hc) h
  | .vpfFail => execVpfFail_still s (mayWrite_testBit hc) h
  | .caretakerStart => execCaretakerStart_still s (mayWrite_testBit hc) h
  | .caretakerStop => execCaretakerStop_still s (mayWrite_testBit hc) h
  | .storeFault => execStoreFault_still s (mayWrite_testBit hc) h
  | .pwrSwWrite _ _ _ _ _ => execPwrSwWrite_still _ _ _ _ _ s (mayWrite_testBit hc) h
  | .wingPowerGood _ => execWingPowerGood_still _ s (mayWrite_testBit hc) h
  | .switchOvercurrent _ => execSwitchOvercurrent_still _ s (mayWrite_testBit hc) h
  | .harvestStateChange _ _ => execHarvestStateChange_still _ _ s (mayWrite_testBit hc) h
  | .cellPathOn => execCellPathOn_still s (mayWrite_testBit hc) h
  | .cellPathOff => execCellPathOff_still s (mayWrite_testBit hc) h
  | .cellRemoved => execCellRemoved_still s (mayWrite_testBit hc) h
  | .cellInserted => execCellInserted_still s (mayWrite_testBit hc) h
  | .storeCeilingReached => execStoreCeilingReached_still s (mayWrite_testBit hc) h
  | .storeCapMeasured _ => execStoreCapMeasured_still _ s (mayWrite_testBit hc) h
  | .pwrCellWrite _ _ _ _ _ => execPwrCellWrite_still _ _ _ _ _ s (mayWrite_testBit hc) h
  | .gaugeSample _ _ _ => execGaugeSample_still _ _ _ s (mayWrite_testBit hc) h
  | .admissionRequest _ _ => execAdmissionRequest_still _ _ s (mayWrite_testBit hc) h
  | .burstComplete => execBurstComplete_still s (mayWrite_testBit hc) h
  | .caretakerTakePort => execCaretakerTakePort_still s (mayWrite_testBit hc) h
  | .caretakerReleasePort => execCaretakerReleasePort_still s (mayWrite_testBit hc) h
  | .vanaGood => execVanaGood_still s (mayWrite_testBit hc) h
  | .pllLock _ => execPllLock_still _ s (mayWrite_testBit hc) h
  | .pllUnlock _ => execPllUnlock_still _ s (mayWrite_testBit hc) h
  | .clkEnWrite _ _ _ => execClkEnWrite_still _ _ _ s (mayWrite_testBit hc) h
  | .xinLost => execXinLost_still s (mayWrite_testBit hc) h
  | .tbLoRead _ => execTbLoRead_still _ s (mayWrite_testBit hc) h
  | .ppsPulse => execPpsPulse_still s h
  | .ppsPulseEnd => execPpsPulseEnd_still s h
  | .phaseStep => execPhaseStep_still s (mayWrite_testBit hc) h
  | .syncInEdge _ => execSyncInEdge_still _ s (mayWrite_testBit hc) h
  | .syncMissed => execSyncMissed_still s (mayWrite_testBit hc) h
  | .syncOutPulse => execSyncOutPulse_still s h
  | .rcTrim => execRcTrim_still s (mayWrite_testBit hc) h
  | .rtcCrystalStop => execRtcCrystalStop_still s (mayWrite_testBit hc) h
  | .rtcCrystalStart => execRtcCrystalStart_still s (mayWrite_testBit hc) h
  | .rtcSecond => execRtcSecond_still s (mayWrite_testBit hc) h
  | .rtcSecWrite _ _ => execRtcSecWrite_still _ _ s (mayWrite_testBit hc) h
  | .rtcSubRead _ => execRtcSubRead_still _ s (mayWrite_testBit hc) h
  | .sarBurstStart _ => execSarBurstStart_still _ s (mayWrite_testBit hc) h
  | .sarSwtrigWrite _ _ => execSarSwtrigWrite_still _ _ s (mayWrite_testBit hc) h
  | .sarFreeRunTrigger _ => execSarFreeRunTrigger_still _ s (mayWrite_testBit hc) h
  | .sarConversionComplete _ _ _ _ => execSarConversionComplete_still _ _ _ _ s (mayWrite_testBit hc) h
  | .sarInjWrite _ _ _ _ => execSarInjWrite_still _ _ _ _ s (mayWrite_testBit hc) h
  | .refReadySet => execRefReadySet_still s (mayWrite_testBit hc) h
  | .foregroundCalComplete => execForegroundCalComplete_still s (mayWrite_testBit hc) h
  | .backgroundStepStart => execBackgroundStepStart_still s (mayWrite_testBit hc) h
  | .substEntryOpportunity => execSubstEntryOpportunity_still s (mayWrite_testBit hc) h
  | .sliceCalComplete _ _ _ _ => execSliceCalComplete_still _ _ _ _ s (mayWrite_testBit hc) h
  | .substExitOpportunity => execSubstExitOpportunity_still s (mayWrite_testBit hc) h
  | .vrefpOutOfRange => execVrefpOutOfRange_still s (mayWrite_testBit hc) h
  | .modClockLost _ => execModClockLost_still _ s (mayWrite_testBit hc) h
  | .modDataLost _ => execModDataLost_still _ s (mayWrite_testBit hc) h
  | .modLossEnd _ _ => execModLossEnd_still _ _ s (mayWrite_testBit hc) h
  | .modDecimation _ _ _ => execModDecimation_still _ _ _ s (mayWrite_testBit hc) h
  | .modFdlyWrite _ _ _ => execModFdlyWrite_still _ _ _ s (mayWrite_testBit hc) h
  | .guardTripAssert _ _ => execGuardTripAssert_still _ _ s (mayWrite_testBit hc) h
  | .guardSettleClear _ _ => execGuardSettleClear_still _ _ s (mayWrite_testBit hc) h
  | .modGuardClr _ _ _ => execModGuardClr_still _ _ _ s (mayWrite_testBit hc) h
  | .comparatorLatchSet _ _ => execComparatorLatchSet_still _ _ s (mayWrite_testBit hc) h
  | .lebBlankingEnd _ _ => execLebBlankingEnd_still _ _ s (mayWrite_testBit hc) h
  | .wcClrWrite _ _ _ => execWcClrWrite_still _ _ _ s (mayWrite_testBit hc) h
  | .comparatorInitialClear _ _ => execComparatorInitialClear_still _ _ s (mayWrite_testBit hc) h
  | .wcThrWrite _ _ _ _ => execWcThrWrite_still _ _ _ _ s (mayWrite_testBit hc) h
  | .tripGroupFirstAssert _ => execTripGroupFirstAssert_still _ s (mayWrite_testBit hc) h
  | .pwmZeroEvent _ _ => execPwmZeroEvent_still _ _ s (mayWrite_testBit hc) h
  | .pwmPeriodEvent _ _ => execPwmPeriodEvent_still _ _ s (mayWrite_testBit hc) h
  | .pwmTriggerCompare _ _ _ => execPwmTriggerCompare_still _ _ _ s (mayWrite_testBit hc) h
  | .pwmCompareMatch _ _ _ => execPwmCompareMatch_still _ _ _ s (mayWrite_testBit hc) h
  | .turnOnDelayExpiry _ _ => execTurnOnDelayExpiry_still _ _ s (mayWrite_testBit hc) h
  | .pwmShadowLowWrite _ _ _ _ => execPwmShadowLowWrite_still _ _ _ _ s (mayWrite_testBit hc) h
  | .pwmShadowHighWrite _ _ _ _ => execPwmShadowHighWrite_still _ _ _ _ s (mayWrite_testBit hc) h
  | .stagedMove => execStagedMove_still s (mayWrite_testBit hc) h
  | .delayLineLock => execDelayLineLock_still s (mayWrite_testBit hc) h
  | .delayLineLost => execDelayLineLost_still s (mayWrite_testBit hc) h
  | .safeLevelResumeCheck _ => execSafeLevelResumeCheck_still _ s (mayWrite_testBit hc) h
  | .pwmOutenWrite _ _ _ => execPwmOutenWrite_still _ _ _ s (mayWrite_testBit hc) h
  | .pwmCntEnWrite _ _ _ => execPwmCntEnWrite_still _ _ _ s (mayWrite_testBit hc) h
  | .pwmArmWrite _ _ _ => execPwmArmWrite_still _ _ _ s (mayWrite_testBit hc) h
  | .pwmGstartWrite _ _ => execPwmGstartWrite_still _ _ s (mayWrite_testBit hc) h
  | .groupStartExecute => execGroupStartExecute_still s (mayWrite_testBit hc) h
  | .pwmTimedStart _ => execPwmTimedStart_still _ s (mayWrite_testBit hc) h
  | .pwmLinkPulse _ => execPwmLinkPulse_still _ s (mayWrite_testBit hc) h
  | .pwmIntWrite _ _ _ _ _ _ => execPwmIntWrite_still _ _ _ _ _ _ s (mayWrite_testBit hc) h
  | .fltQualified _ _ => execFltQualified_still _ _ s (mayWrite_testBit hc) h
  | .fltBlankingEnd _ => execFltBlankingEnd_still _ s (mayWrite_testBit hc) h
  | .rdyLost _ => execRdyLost_still _ s (mayWrite_testBit hc) h
  | .shootThrough _ => execShootThrough_still _ s (mayWrite_testBit hc) h
  | .giSwtrigWrite _ _ => execGiSwtrigWrite_still _ _ s (mayWrite_testBit hc) h
  | .sequencerGapEnd _ => execSequencerGapEnd_still _ s (mayWrite_testBit hc) h
  | .refreshInsert _ => execRefreshInsert_still _ s (mayWrite_testBit hc) h
  | .refreshPhaseEnd _ => execRefreshPhaseEnd_still _ s (mayWrite_testBit hc) h
  | .fltQualifiedHigh _ => execFltQualifiedHigh_still _ s (mayWrite_testBit hc) h
  | .rdyQualifiedHigh _ => execRdyQualifiedHigh_still _ s (mayWrite_testBit hc) h
  | .lessonRunStart _ => execLessonRunStart_still _ s (mayWrite_testBit hc) h
  | .nop _ => execNop_still _ s h
  | .ldk _ _ _ => execLdk_still _ _ _ s h
  | .ld _ _ _ _ => execLd_still _ _ _ _ s (mayWrite_testBit hc) h
  | .st _ _ _ _ => execSt_still _ _ _ _ s (mayWrite_testBit hc) h
  | .lds _ _ _ _ => execLds_still _ _ _ _ s (mayWrite_testBit hc) h
  | .wait _ _ _ _ => execWait_still _ _ _ _ s h
  | .waitDeadline _ => execWaitDeadline_still _ s h
  | .inj _ _ _ _ => execInj_still _ _ _ _ s (mayWrite_testBit hc) h
  | .stpc _ _ _ _ => execStpc_still _ _ _ _ s (mayWrite_testBit hc) h
  | .stpd _ _ _ _ => execStpd_still _ _ _ _ s (mayWrite_testBit hc) h
  | .stpp _ _ _ _ _ => execStpp_still _ _ _ _ _ s (mayWrite_testBit hc) h
  | .stpe _ _ _ _ => execStpe_still _ _ _ _ s (mayWrite_testBit hc) h
  | .add _ _ _ _ => execAdd_still _ _ _ _ s h
  | .sub _ _ _ _ => execSub_still _ _ _ _ s h
  | .mul _ _ _ _ => execMul_still _ _ _ _ s h
  | .mac _ _ _ _ _ => execMac_still _ _ _ _ _ s h
  | .div _ _ _ _ => execDiv_still _ _ _ _ s h
  | .sqrt _ _ _ => execSqrt_still _ _ _ s h
  | .abs _ _ _ => execAbs_still _ _ _ s h
  | .sincos _ _ _ => execSincos_still _ _ _ s h
  | .pi _ _ _ _ _ => execPi_still _ _ _ _ _ s (mayWrite_testBit hc) h
  | .pr _ _ _ _ _ => execPr_still _ _ _ _ _ s (mayWrite_testBit hc) h
  | .biq _ _ _ _ => execBiq_still _ _ _ _ s (mayWrite_testBit hc) h
  | .clarke _ _ _ _ _ => execClarke_still _ _ _ _ _ s h
  | .park _ _ _ _ _ => execPark_still _ _ _ _ _ s h
  | .ipark _ _ _ _ _ => execIpark_still _ _ _ _ _ s h
  | .sogi _ _ _ _ _ => execSogi_still _ _ _ _ _ s (mayWrite_testBit hc) h
  | .ddsrf _ _ _ _ _ _ => execDdsrf_still _ _ _ _ _ _ s (mayWrite_testBit hc) h
  | .pll _ _ _ _ => execPll_still _ _ _ _ s (mayWrite_testBit hc) h
  | .lim _ _ _ _ _ => execLim_still _ _ _ _ _ s h
  | .rlim _ _ _ _ => execRlim_still _ _ _ _ s (mayWrite_testBit hc) h
  | .lut _ _ _ _ => execLut_still _ _ _ _ s (mayWrite_testBit hc) h
  | .cmpf _ _ _ _ _ => execCmpf_still _ _ _ _ _ s h
  | .clim _ _ _ _ _ _ => execClim_still _ _ _ _ _ _ s h
  | .prof _ _ _ _ => execProf_still _ _ _ _ s (mayWrite_testBit hc) h
  | .ramp _ _ _ _ _ => execRamp_still _ _ _ _ _ s (mayWrite_testBit hc) h
  | .ferr _ _ _ _ => execFerr_still _ _ _ _ s (mayWrite_testBit hc) h
  | .preset _ _ _ _ _ => execPreset_still _ _ _ _ _ s (mayWrite_testBit hc) h
  | .skip _ _ _ _ => execSkip_still _ _ _ _ s h
  | .evry _ _ _ _ => execEvry_still _ _ _ _ s h
  | .evt _ _ _ _ => execEvt_still _ _ _ _ s h
  | .endRun _ => execEndRun_still _ s (mayWrite_testBit hc) h
  | .engineDataWrite _ _ _ _ => execEngineDataWrite_still _ _ _ _ s (mayWrite_testBit hc) h
  | .engineDataUpdate _ _ _ => execEngineDataUpdate_still _ _ _ s (mayWrite_testBit hc) h
  | .leRetireWrite _ _ => execLeRetireWrite_still _ _ s (mayWrite_testBit hc) h
  | .substituteCopyComplete _ _ => execSubstituteCopyComplete_still _ _ s (mayWrite_testBit hc) h
  | .leSubgoWrite _ _ _ => execLeSubgoWrite_still _ _ _ s (mayWrite_testBit hc) h
  | .substituteSelfTest _ _ => execSubstituteSelfTest_still _ _ s (mayWrite_testBit hc) h
  | .heldLowHalfTimeout _ => execHeldLowHalfTimeout_still _ s (mayWrite_testBit hc) h
  | .gridCommandSync => execGridCommandSync_still s h
  | .gridCommandRun => execGridCommandRun_still s h
  | .gridCommandClearTrip => execGridCommandClearTrip_still s h
  | .islandingDisarm => execIslandingDisarm_still s h
  | .islandingArm => execIslandingArm_still s h
  | .islandingClearTrip => execIslandingClearTrip_still s h
  | .mpptTraceRequest _ => execMpptTraceRequest_still _ s h
  | .bursarPair _ _ => execBursarPair_still _ _ s h
  | .meteringCycleEnd _ _ => execMeteringCycleEnd_still _ _ s (mayWrite_testBit hc) h
  | .halfCycleBoundary _ => execHalfCycleBoundary_still _ s (mayWrite_testBit hc) h
  | .burLatchWrite _ _ => execBurLatchWrite_still _ _ s (mayWrite_testBit hc) h
  | .burSaveNowWrite _ => execBurSaveNowWrite_still _ s (mayWrite_testBit hc) h
  | .bursarRestore => execBursarRestore_still s (mayWrite_testBit hc) h
  | .theftWindowClock => execTheftWindowClock_still s h
  | .theftWindowEnd _ => execTheftWindowEnd_still _ s (mayWrite_testBit hc) h
  | .theftClrWrite _ => execTheftClrWrite_still _ s (mayWrite_testBit hc) h
  | .leaseRenew _ => execLeaseRenew_still _ s (mayWrite_testBit hc) h
  | .leaseExpiry _ => execLeaseExpiry_still _ s (mayWrite_testBit hc) h
  | .voterDisagreement _ _ => execVoterDisagreement_still _ _ s (mayWrite_testBit hc) h
  | .standby _ _ => execStandby_still _ _ s (mayWrite_testBit hc) h
  | .wake _ => execWake_still _ s (mayWrite_testBit hc) h
  | .cold _ => execCold_still _ s (mayWrite_testBit hc) h
  | .ready _ => execReady_still _ s (mayWrite_testBit hc) h
  | .handover _ => execHandover_still _ s (mayWrite_testBit hc) h
  | .cancel _ => execCancel_still _ s (mayWrite_testBit hc) h
  | .release _ => execRelease_still _ s (mayWrite_testBit hc) h
  | .acquire _ => execAcquire_still _ s (mayWrite_testBit hc) h
  | .coldSelfTestWindow _ _ => execColdSelfTestWindow_still _ _ s (mayWrite_testBit hc) h
  | .snapshotWriteComplete => execSnapshotWriteComplete_still s (mayWrite_testBit hc) h
  | .takeoverSlotChosen => execTakeoverSlotChosen_still s (mayWrite_testBit hc) h
  | .takeoverRestoreComplete => execTakeoverRestoreComplete_still s h
  | .hpRearmWrite _ _ => execHpRearmWrite_still _ _ s (mayWrite_testBit hc) h
  | .handoverCopyComplete => execHandoverCopyComplete_still s (mayWrite_testBit hc) h
  | .linkStale _ => execLinkStale_still _ s (mayWrite_testBit hc) h
  | .scrubRead _ _ _ => execScrubRead_still _ _ _ s (mayWrite_testBit hc) h
  | .scrubPassOverdue _ => execScrubPassOverdue_still _ s (mayWrite_testBit hc) h
  | .uncorrectableRead _ _ _ _ => execUncorrectableRead_still _ _ _ _ s (mayWrite_testBit hc) h
  | .satRetWrite _ _ _ => execSatRetWrite_still _ _ _ s (mayWrite_testBit hc) h
  | .repLoadWrite _ _ => execRepLoadWrite_still _ _ s (mayWrite_testBit hc) h
  | .ageingMeasure _ => execAgeingMeasure_still _ s (mayWrite_testBit hc) h
  | .libraryInit _ _ _ _ _ _ _ _ => execLibraryInit_still _ _ _ _ _ _ _ _ s (mayWrite_testBit hc) h
  | .libAppendRecord _ => execLibAppendRecord_still _ s (mayWrite_testBit hc) h
  | .libReadRecord _ _ => execLibReadRecord_still _ _ s (mayWrite_testBit hc) h
  | .libReadNewest _ _ => execLibReadNewest_still _ _ s (mayWrite_testBit hc) h
  | .flashOperationComplete _ => execFlashOperationComplete_still _ s (mayWrite_testBit hc) h
  | .recordCommit => execRecordCommit_still s (mayWrite_testBit hc) h
  | .libraryRefresh => execLibraryRefresh_still s (mayWrite_testBit hc) h
  | .wearLevelRelocate => execWearLevelRelocate_still s (mayWrite_testBit hc) h
  | .bootImageVerify _ => execBootImageVerify_still _ s (mayWrite_testBit hc) h
  | .identityKeyDerive _ => execIdentityKeyDerive_still _ s (mayWrite_testBit hc) h
  | .worldViolation _ _ _ => execWorldViolation_still _ _ _ s (mayWrite_testBit hc) h
  | .enrol _ => execEnrol_still _ s (mayWrite_testBit hc) h
  | .transfer _ => execTransfer_still _ s (mayWrite_testBit hc) h
  | .vendorOff _ => execVendorOff_still _ s (mayWrite_testBit hc) h
  | .advance _ => execAdvance_still _ s (mayWrite_testBit hc) h
  | .secCommandComplete => execSecCommandComplete_still s (mayWrite_testBit hc) h
  | .attestationRequest _ => execAttestationRequest_still _ s h
  | .attestationComplete => execAttestationComplete_still s h
  | .testPulseStart _ => execTestPulseStart_still _ s h
  | .testPulseEnd _ => execTestPulseEnd_still _ s h
  | .testPulseCheck _ _ _ _ => execTestPulseCheck_still _ _ _ _ s (mayWrite_testBit hc) h
  | .filteredDemand _ => execFilteredDemand_still _ s (mayWrite_testBit hc) h
  | .discrepancyFault _ => execDiscrepancyFault_still _ s (mayWrite_testBit hc) h
  | .readbackFault _ => execReadbackFault_still _ s (mayWrite_testBit hc) h
  | .prefectClockCheck _ => execPrefectClockCheck_still _ s (mayWrite_testBit hc) h
  | .prefectFaultClear => execPrefectFaultClear_still s (mayWrite_testBit hc) h
  | .prefectNotice => execPrefectNotice_still s (mayWrite_testBit hc) h
  | .prefectForce => execPrefectForce_still s (mayWrite_testBit hc) h
  | .prefectReleaseReady => execPrefectReleaseReady_still s (mayWrite_testBit hc) h
  | .pfRelWrite _ _ => execPfRelWrite_still _ _ s (mayWrite_testBit hc) h
  | .forceRelease => execForceRelease_still s (mayWrite_testBit hc) h
  | .cfgswRead _ => execCfgswRead_still _ s (mayWrite_testBit hc) h
  | .cfgswChange _ => execCfgswChange_still _ s (mayWrite_testBit hc) h
  | .prefectSetDelivery => execPrefectSetDelivery_still s (mayWrite_testBit hc) h
  | .sealOpened => execSealOpened_still s (mayWrite_testBit hc) h
  | .sealClosed => execSealClosed_still s (mayWrite_testBit hc) h
  | .pfCommitWrite _ _ => execPfCommitWrite_still _ _ s (mayWrite_testBit hc) h
  | .commitArmTimeout => execCommitArmTimeout_still s (mayWrite_testBit hc) h
  | .commissioningComplete => execCommissioningComplete_still s (mayWrite_testBit hc) h
  | .portEnWrite _ _ => execPortEnWrite_still _ _ s (mayWrite_testBit hc) h
  | .ethFrameReceive _ _ _ _ => execEthFrameReceive_still _ _ _ _ s (mayWrite_testBit hc) h
  | .canFrameReceive _ _ _ _ _ _ _ _ _ _ _ => execCanFrameReceive_still _ _ _ _ _ _ _ _ _ _ _ s (mayWrite_testBit hc) h
  | .niujorFrameReceive _ _ _ _ _ _ => execNiujorFrameReceive_still _ _ _ _ _ _ s (mayWrite_testBit hc) h
  | .niujorCycleStart => execNiujorCycleStart_still s h
  | .niujorSlot => execNiujorSlot_still s h
  | .chainBell => execChainBell_still s (mayWrite_testBit hc) h
  | .ethMdioWrite _ _ _ _ _ => execEthMdioWrite_still _ _ _ _ _ s (mayWrite_testBit hc) h
  | .mdioFrameComplete _ => execMdioFrameComplete_still _ s (mayWrite_testBit hc) h
  | .peerTrain _ => execPeerTrain_still _ s (mayWrite_testBit hc) h
  | .trainingWord _ _ _ => execTrainingWord_still _ _ _ s (mayWrite_testBit hc) h
  | .hopPulse => execHopPulse_still s h
  | .trainingEcho _ => execTrainingEcho_still _ s (mayWrite_testBit hc) h
  | .hopReport _ => execHopReport_still _ s (mayWrite_testBit hc) h
  | .echoTimeout => execEchoTimeout_still s (mayWrite_testBit hc) h
  | .positionReport _ => execPositionReport_still _ s (mayWrite_testBit hc) h
  | .trainingTimeout => execTrainingTimeout_still s (mayWrite_testBit hc) h
  | .ringCfgWrite _ _ _ => execRingCfgWrite_still _ _ _ s (mayWrite_testBit hc) h
  | .ringHeadWrite _ _ _ => execRingHeadWrite_still _ _ _ s (mayWrite_testBit hc) h
  | .descriptorProcess => execDescriptorProcess_still s (mayWrite_testBit hc) h
  | .descriptorComplete _ _ _ => execDescriptorComplete_still _ _ _ s (mayWrite_testBit hc) h
  | .ringHaltClear _ _ => execRingHaltClear_still _ _ s (mayWrite_testBit hc) h
  | .captureBufferComplete _ => execCaptureBufferComplete_still _ s (mayWrite_testBit hc) h
  | .cryptoHash => execCryptoHash_still s (mayWrite_testBit hc) h
  | .cryptoVerify => execCryptoVerify_still s (mayWrite_testBit hc) h
  | .portRestart _ => execPortRestart_still _ s (mayWrite_testBit hc) h
  | .ethLinkChange _ _ _ _ => execEthLinkChange_still _ _ _ _ s (mayWrite_testBit hc) h
  | .canBusOffRecovery _ => execCanBusOffRecovery_still _ s (mayWrite_testBit hc) h
  | .usdoTransfer _ _ _ => execUsdoTransfer_still _ _ _ s (mayWrite_testBit hc) h
  | .usdoSessionTimeout _ _ => execUsdoSessionTimeout_still _ _ s h
  | .idpRead _ _ _ _ => execIdpRead_still _ _ _ _ s (mayWrite_testBit hc) h
  | .idpWrite _ _ _ _ _ => execIdpWrite_still _ _ _ _ _ s (mayWrite_testBit hc) h
  | .idpTransferTimeout _ _ _ => execIdpTransferTimeout_still _ _ _ s h
  | .requestForward => execRequestForward_still s (mayWrite_testBit hc) h
  | .groupEnter _ _ _ => execGroupEnter_still _ _ _ s (mayWrite_testBit hc) h
  | .groupRestart _ _ _ => execGroupRestart_still _ _ _ s (mayWrite_testBit hc) h
  | .groupRestore _ _ _ => execGroupRestore_still _ _ _ s (mayWrite_testBit hc) h
  | .validationComplete _ => execValidationComplete_still _ s (mayWrite_testBit hc) h
  | .jointRestart _ _ _ => execJointRestart_still _ _ _ s (mayWrite_testBit hc) h
  | .storeParameters _ _ _ => execStoreParameters_still _ _ _ s (mayWrite_testBit hc) h
  | .restoreDefaults _ _ _ => execRestoreDefaults_still _ _ _ s (mayWrite_testBit hc) h
  | .rollCall _ _ => execRollCall_still _ _ s (mayWrite_testBit hc) h
  | .descriptionRequest _ _ _ => execDescriptionRequest_still _ _ _ s (mayWrite_testBit hc) h
  | .descriptionRead _ _ => execDescriptionRead_still _ _ s (mayWrite_testBit hc) h
  | .programDownload _ _ _ => execProgramDownload_still _ _ _ s (mayWrite_testBit hc) h
  | .imageSlotWrite _ _ _ _ => execImageSlotWrite_still _ _ _ _ s (mayWrite_testBit hc) h
  | .seedRequest _ _ _ => execSeedRequest_still _ _ _ s (mayWrite_testBit hc) h
  | .seedComplete => execSeedComplete_still s (mayWrite_testBit hc) h
  | .interruptClaim _ => execInterruptClaim_still _ s (mayWrite_testBit hc) h
  | .interruptComplete _ _ => execInterruptComplete_still _ _ s h
  | .machineTimer _ => execMachineTimer_still _ s h
  | .tutMtcmplWrite _ _ => execTutMtcmplWrite_still _ _ s h
  | .tutMtcmphWrite _ _ => execTutMtcmphWrite_still _ _ s (mayWrite_testBit hc) h
  | .wfi _ => execWfi_still _ s h
  | .gatewayRead _ _ => execGatewayRead_still _ _ s (mayWrite_testBit hc) h
  | .gatewayWrite _ _ => execGatewayWrite_still _ _ s (mayWrite_testBit hc) h
  | .gatewayDone _ => execGatewayDone_still _ s (mayWrite_testBit hc) h
  | .tapReset => execTapReset_still s h
  | .extest _ => execExtest_still _ s h
  | .idcode => execIdcode_still s h
  | .samplePreload _ => execSamplePreload_still _ s h
  | .dtmcs => execDtmcs_still s h
  | .dmi _ _ => execDmi_still _ _ s (mayWrite_testBit hc) h
  | .bypass => execBypass_still s h
  | .debugHalt _ => execDebugHalt_still _ s (mayWrite_testBit hc) h
  | .lehaltWrite _ _ => execLehaltWrite_still _ _ s (mayWrite_testBit hc) h
  | .amoSatchel _ _ _ _ => execAmoSatchel_still _ _ _ _ s (mayWrite_testBit hc) h
  | .registerWrite _ _ _ => execRegisterWrite_still _ _ _ s (mayWrite_testBit hc) h

/-- Settles O49, command by command. -/
theorem fieldFrame : Obligations.FieldFrame :=
  fun c s t f i ht hc => exec_still (F := f) (I := i) (V := s.fld f i) (s := s) rfl c hc t ht

/-! ### The parts of State outside the footprint -/

/-- A part beside the registers and outside the footprint has a clear bit in a mask that the footprint covers; that it
covers the mask of the law is computed where the lemma is used. -/
theorem parts_testBit {c : Instr} {p : Part} {w : Nat} (hr : p ≠ .regs) (hc : p ∉ c.parts)
    (hw : partMask (.regs :: c.parts) &&& w = w := by dsimp only [Instr.parts]; decide +kernel) :
    w.testBit p.ctorIdx = false :=
  partMask_testBit hw (by simp [hr, hc])

/-- Every command leaves a part beside the registers and outside its footprint. -/
theorem exec_same {P : Part} {s0 s : State} (h : Same P s0 s) (c : Instr) (hr : P ≠ .regs) (hc : P ∉ c.parts) :
    SameOut P s0 (exec c s) :=
  match c with
  | .powerOn => execPowerOn_same s (parts_testBit hr hc) h
  | .rstnLow => execRstnLow_same s (parts_testBit hr hc) h
  | .softwareResetRequest => execSoftwareResetRequest_same s (parts_testBit hr hc) h
  | .vcoreDroop _ => execVcoreDroop_same _ s (parts_testBit hr hc) h
  | .resetPhaseAdvance _ _ => execResetPhaseAdvance_same _ _ s (parts_testBit hr hc) h
  | .resetEnd => execResetEnd_same s (parts_testBit hr hc) h
  | .pllRetryReset => execPllRetryReset_same s (parts_testBit hr hc) h
  | .handshakeStall _ _ _ _ => execHandshakeStall_same _ _ _ _ s (parts_testBit hr hc) h
  | .sampleWordOffer _ _ _ _ _ _ _ => execSampleWordOffer_same _ _ _ _ _ _ _ s (parts_testBit hr hc) h
  | .bellCopyDivergence _ => execBellCopyDivergence_same _ s (parts_testBit hr hc) h
  | .bellReqApply _ _ => execBellReqApply_same _ _ s (parts_testBit hr hc) h
  | .bellReqJointApply _ _ _ => execBellReqJointApply_same _ _ _ s (parts_testBit hr hc) h
  | .bellReqLatch _ _ => execBellReqLatch_same _ _ s (parts_testBit hr hc) h
  | .bellReqBarrier _ _ => execBellReqBarrier_same _ _ s (parts_testBit hr hc) h
  | .bellAlone => execBellAlone_same s (parts_testBit hr hc) h
  | .barrierComplete => execBarrierComplete_same s (parts_testBit hr hc) h
  | .barrierTimeout _ => execBarrierTimeout_same _ s (parts_testBit hr hc) h
  | .periodBell => execPeriodBell_same s (parts_testBit hr hc) h
  | .headEvent _ _ => execHeadEvent_same _ _ s (parts_testBit hr hc) h
  | .lessonFallback => execLessonFallback_same s (parts_testBit hr hc) h
  | .openBallTest _ _ => execOpenBallTest_same _ _ s (parts_testBit hr hc) h
  | .supplyBallOpen _ _ => execSupplyBallOpen_same _ _ s (parts_testBit hr hc) h
  | .ioBankChange _ _ => execIoBankChange_same _ _ s (parts_testBit hr hc) h
  | .mainSupplyGood => execMainSupplyGood_same s (parts_testBit hr hc) h
  | .vanaFail => execVanaFail_same s (parts_testBit hr hc) h
  | .vpfGood => execVpfGood_same s (parts_testBit hr hc) h
  | .vpfFail => execVpfFail_same s (parts_testBit hr hc) h
  | .caretakerStart => execCaretakerStart_same s (parts_testBit hr hc) h
  | .caretakerStop => execCaretakerStop_same s (parts_testBit hr hc) h
  | .storeFault => execStoreFault_same s (parts_testBit hr hc) h
  | .pwrSwWrite _ _ _ _ _ => execPwrSwWrite_same _ _ _ _ _ s (parts_testBit hr hc) h
  | .wingPowerGood _ => execWingPowerGood_same _ s (parts_testBit hr hc) h
  | .switchOvercurrent _ => execSwitchOvercurrent_same _ s (parts_testBit hr hc) h
  | .harvestStateChange _ _ => execHarvestStateChange_same _ _ s (parts_testBit hr hc) h
  | .cellPathOn => execCellPathOn_same s (parts_testBit hr hc) h
  | .cellPathOff => execCellPathOff_same s (parts_testBit hr hc) h
  | .cellRemoved => execCellRemoved_same s (parts_testBit hr hc) h
  | .cellInserted => execCellInserted_same s (parts_testBit hr hc) h
  | .storeCeilingReached => execStoreCeilingReached_same s (parts_testBit hr hc) h
  | .storeCapMeasured _ => execStoreCapMeasured_same _ s (parts_testBit hr hc) h
  | .pwrCellWrite _ _ _ _ _ => execPwrCellWrite_same _ _ _ _ _ s (parts_testBit hr hc) h
  | .gaugeSample _ _ _ => execGaugeSample_same _ _ _ s (parts_testBit hr hc) h
  | .admissionRequest _ _ => execAdmissionRequest_same _ _ s (parts_testBit hr hc) h
  | .burstComplete => execBurstComplete_same s (parts_testBit hr hc) h
  | .caretakerTakePort => execCaretakerTakePort_same s (parts_testBit hr hc) h
  | .caretakerReleasePort => execCaretakerReleasePort_same s (parts_testBit hr hc) h
  | .vanaGood => execVanaGood_same s (parts_testBit hr hc) h
  | .pllLock _ => execPllLock_same _ s (parts_testBit hr hc) h
  | .pllUnlock _ => execPllUnlock_same _ s (parts_testBit hr hc) h
  | .clkEnWrite _ _ _ => execClkEnWrite_same _ _ _ s (parts_testBit hr hc) h
  | .xinLost => execXinLost_same s (parts_testBit hr hc) h
  | .tbLoRead _ => execTbLoRead_same _ s (parts_testBit hr hc) h
  | .ppsPulse => execPpsPulse_same s (parts_testBit hr hc) h
  | .ppsPulseEnd => execPpsPulseEnd_same s (parts_testBit hr hc) h
  | .phaseStep => execPhaseStep_same s (parts_testBit hr hc) h
  | .syncInEdge _ => execSyncInEdge_same _ s (parts_testBit hr hc) h
  | .syncMissed => execSyncMissed_same s (parts_testBit hr hc) h
  | .syncOutPulse => execSyncOutPulse_same s (parts_testBit hr hc) h
  | .rcTrim => execRcTrim_same s (parts_testBit hr hc) h
  | .rtcCrystalStop => execRtcCrystalStop_same s (parts_testBit hr hc) h
  | .rtcCrystalStart => execRtcCrystalStart_same s (parts_testBit hr hc) h
  | .rtcSecond => execRtcSecond_same s (parts_testBit hr hc) h
  | .rtcSecWrite _ _ => execRtcSecWrite_same _ _ s (parts_testBit hr hc) h
  | .rtcSubRead _ => execRtcSubRead_same _ s (parts_testBit hr hc) h
  | .sarBurstStart _ => execSarBurstStart_same _ s (parts_testBit hr hc) h
  | .sarSwtrigWrite _ _ => execSarSwtrigWrite_same _ _ s (parts_testBit hr hc) h
  | .sarFreeRunTrigger _ => execSarFreeRunTrigger_same _ s (parts_testBit hr hc) h
  | .sarConversionComplete _ _ _ _ => execSarConversionComplete_same _ _ _ _ s (parts_testBit hr hc) h
  | .sarInjWrite _ _ _ _ => execSarInjWrite_same _ _ _ _ s (parts_testBit hr hc) h
  | .refReadySet => execRefReadySet_same s (parts_testBit hr hc) h
  | .foregroundCalComplete => execForegroundCalComplete_same s (parts_testBit hr hc) h
  | .backgroundStepStart => execBackgroundStepStart_same s (parts_testBit hr hc) h
  | .substEntryOpportunity => execSubstEntryOpportunity_same s (parts_testBit hr hc) h
  | .sliceCalComplete _ _ _ _ => execSliceCalComplete_same _ _ _ _ s (parts_testBit hr hc) h
  | .substExitOpportunity => execSubstExitOpportunity_same s (parts_testBit hr hc) h
  | .vrefpOutOfRange => execVrefpOutOfRange_same s (parts_testBit hr hc) h
  | .modClockLost _ => execModClockLost_same _ s (parts_testBit hr hc) h
  | .modDataLost _ => execModDataLost_same _ s (parts_testBit hr hc) h
  | .modLossEnd _ _ => execModLossEnd_same _ _ s (parts_testBit hr hc) h
  | .modDecimation _ _ _ => execModDecimation_same _ _ _ s (parts_testBit hr hc) h
  | .modFdlyWrite _ _ _ => execModFdlyWrite_same _ _ _ s (parts_testBit hr hc) h
  | .guardTripAssert _ _ => execGuardTripAssert_same _ _ s (parts_testBit hr hc) h
  | .guardSettleClear _ _ => execGuardSettleClear_same _ _ s (parts_testBit hr hc) h
  | .modGuardClr _ _ _ => execModGuardClr_same _ _ _ s (parts_testBit hr hc) h
  | .comparatorLatchSet _ _ => execComparatorLatchSet_same _ _ s (parts_testBit hr hc) h
  | .lebBlankingEnd _ _ => execLebBlankingEnd_same _ _ s (parts_testBit hr hc) h
  | .wcClrWrite _ _ _ => execWcClrWrite_same _ _ _ s (parts_testBit hr hc) h
  | .comparatorInitialClear _ _ => execComparatorInitialClear_same _ _ s (parts_testBit hr hc) h
  | .wcThrWrite _ _ _ _ => execWcThrWrite_same _ _ _ _ s (parts_testBit hr hc) h
  | .tripGroupFirstAssert _ => execTripGroupFirstAssert_same _ s (parts_testBit hr hc) h
  | .pwmZeroEvent _ _ => execPwmZeroEvent_same _ _ s (parts_testBit hr hc) h
  | .pwmPeriodEvent _ _ => execPwmPeriodEvent_same _ _ s (parts_testBit hr hc) h
  | .pwmTriggerCompare _ _ _ => execPwmTriggerCompare_same _ _ _ s (parts_testBit hr hc) h
  | .pwmCompareMatch _ _ _ => execPwmCompareMatch_same _ _ _ s (parts_testBit hr hc) h
  | .turnOnDelayExpiry _ _ => execTurnOnDelayExpiry_same _ _ s (parts_testBit hr hc) h
  | .pwmShadowLowWrite _ _ _ _ => execPwmShadowLowWrite_same _ _ _ _ s (parts_testBit hr hc) h
  | .pwmShadowHighWrite _ _ _ _ => execPwmShadowHighWrite_same _ _ _ _ s (parts_testBit hr hc) h
  | .stagedMove => execStagedMove_same s (parts_testBit hr hc) h
  | .delayLineLock => execDelayLineLock_same s (parts_testBit hr hc) h
  | .delayLineLost => execDelayLineLost_same s (parts_testBit hr hc) h
  | .safeLevelResumeCheck _ => execSafeLevelResumeCheck_same _ s (parts_testBit hr hc) h
  | .pwmOutenWrite _ _ _ => execPwmOutenWrite_same _ _ _ s (parts_testBit hr hc) h
  | .pwmCntEnWrite _ _ _ => execPwmCntEnWrite_same _ _ _ s (parts_testBit hr hc) h
  | .pwmArmWrite _ _ _ => execPwmArmWrite_same _ _ _ s (parts_testBit hr hc) h
  | .pwmGstartWrite _ _ => execPwmGstartWrite_same _ _ s (parts_testBit hr hc) h
  | .groupStartExecute => execGroupStartExecute_same s (parts_testBit hr hc) h
  | .pwmTimedStart _ => execPwmTimedStart_same _ s (parts_testBit hr hc) h
  | .pwmLinkPulse _ => execPwmLinkPulse_same _ s (parts_testBit hr hc) h
  | .pwmIntWrite _ _ _ _ _ _ => execPwmIntWrite_same _ _ _ _ _ _ s (parts_testBit hr hc) h
  | .fltQualified _ _ => execFltQualified_same _ _ s (parts_testBit hr hc) h
  | .fltBlankingEnd _ => execFltBlankingEnd_same _ s (parts_testBit hr hc) h
  | .rdyLost _ => execRdyLost_same _ s (parts_testBit hr hc) h
  | .shootThrough _ => execShootThrough_same _ s (parts_testBit hr hc) h
  | .giSwtrigWrite _ _ => execGiSwtrigWrite_same _ _ s (parts_testBit hr hc) h
  | .sequencerGapEnd _ => execSequencerGapEnd_same _ s (parts_testBit hr hc) h
  | .refreshInsert _ => execRefreshInsert_same _ s (parts_testBit hr hc) h
  | .refreshPhaseEnd _ => execRefreshPhaseEnd_same _ s (parts_testBit hr hc) h
  | .fltQualifiedHigh _ => execFltQualifiedHigh_same _ s (parts_testBit hr hc) h
  | .rdyQualifiedHigh _ => execRdyQualifiedHigh_same _ s (parts_testBit hr hc) h
  | .lessonRunStart _ => execLessonRunStart_same _ s (parts_testBit hr hc) h
  | .nop _ => execNop_same _ s (parts_testBit hr hc) h
  | .ldk _ _ _ => execLdk_same _ _ _ s (parts_testBit hr hc) h
  | .ld _ _ _ _ => execLd_same _ _ _ _ s (parts_testBit hr hc) h
  | .st _ _ _ _ => execSt_same _ _ _ _ s (parts_testBit hr hc) h
  | .lds _ _ _ _ => execLds_same _ _ _ _ s (parts_testBit hr hc) h
  | .wait _ _ _ _ => execWait_same _ _ _ _ s (parts_testBit hr hc) h
  | .waitDeadline _ => execWaitDeadline_same _ s (parts_testBit hr hc) h
  | .inj _ _ _ _ => execInj_same _ _ _ _ s (parts_testBit hr hc) h
  | .stpc _ _ _ _ => execStpc_same _ _ _ _ s (parts_testBit hr hc) h
  | .stpd _ _ _ _ => execStpd_same _ _ _ _ s (parts_testBit hr hc) h
  | .stpp _ _ _ _ _ => execStpp_same _ _ _ _ _ s (parts_testBit hr hc) h
  | .stpe _ _ _ _ => execStpe_same _ _ _ _ s (parts_testBit hr hc) h
  | .add _ _ _ _ => execAdd_same _ _ _ _ s (parts_testBit hr hc) h
  | .sub _ _ _ _ => execSub_same _ _ _ _ s (parts_testBit hr hc) h
  | .mul _ _ _ _ => execMul_same _ _ _ _ s (parts_testBit hr hc) h
  | .mac _ _ _ _ _ => execMac_same _ _ _ _ _ s (parts_testBit hr hc) h
  | .div _ _ _ _ => execDiv_same _ _ _ _ s (parts_testBit hr hc) h
  | .sqrt _ _ _ => execSqrt_same _ _ _ s (parts_testBit hr hc) h
  | .abs _ _ _ => execAbs_same _ _ _ s (parts_testBit hr hc) h
  | .sincos _ _ _ => execSincos_same _ _ _ s (parts_testBit hr hc) h
  | .pi _ _ _ _ _ => execPi_same _ _ _ _ _ s (parts_testBit hr hc) h
  | .pr _ _ _ _ _ => execPr_same _ _ _ _ _ s (parts_testBit hr hc) h
  | .biq _ _ _ _ => execBiq_same _ _ _ _ s (parts_testBit hr hc) h
  | .clarke _ _ _ _ _ => execClarke_same _ _ _ _ _ s (parts_testBit hr hc) h
  | .park _ _ _ _ _ => execPark_same _ _ _ _ _ s (parts_testBit hr hc) h
  | .ipark _ _ _ _ _ => execIpark_same _ _ _ _ _ s (parts_testBit hr hc) h
  | .sogi _ _ _ _ _ => execSogi_same _ _ _ _ _ s (parts_testBit hr hc) h
  | .ddsrf _ _ _ _ _ _ => execDdsrf_same _ _ _ _ _ _ s (parts_testBit hr hc) h
  | .pll _ _ _ _ => execPll_same _ _ _ _ s (parts_testBit hr hc) h
  | .lim _ _ _ _ _ => execLim_same _ _ _ _ _ s (parts_testBit hr hc) h
  | .rlim _ _ _ _ => execRlim_same _ _ _ _ s (parts_testBit hr hc) h
  | .lut _ _ _ _ => execLut_same _ _ _ _ s (parts_testBit hr hc) h
  | .cmpf _ _ _ _ _ => execCmpf_same _ _ _ _ _ s (parts_testBit hr hc) h
  | .clim _ _ _ _ _ _ => execClim_same _ _ _ _ _ _ s (parts_testBit hr hc) h
  | .prof _ _ _ _ => execProf_same _ _ _ _ s (parts_testBit hr hc) h
  | .ramp _ _ _ _ _ => execRamp_same _ _ _ _ _ s (parts_testBit hr hc) h
  | .ferr _ _ _ _ => execFerr_same _ _ _ _ s (parts_testBit hr hc) h
  | .preset _ _ _ _ _ => execPreset_same _ _ _ _ _ s (parts_testBit hr hc) h
  | .skip _ _ _ _ => execSkip_same _ _ _ _ s (parts_testBit hr hc) h
  | .evry _ _ _ _ => execEvry_same _ _ _ _ s (parts_testBit hr hc) h
  | .evt _ _ _ _ => execEvt_same _ _ _ _ s (parts_testBit hr hc) h
  | .endRun _ => execEndRun_same _ s (parts_testBit hr hc) h
  | .engineDataWrite _ _ _ _ => execEngineDataWrite_same _ _ _ _ s (parts_testBit hr hc) h
  | .engineDataUpdate _ _ _ => execEngineDataUpdate_same _ _ _ s (parts_testBit hr hc) h
  | .leRetireWrite _ _ => execLeRetireWrite_same _ _ s (parts_testBit hr hc) h
  | .substituteCopyComplete _ _ => execSubstituteCopyComplete_same _ _ s (parts_testBit hr hc) h
  | .leSubgoWrite _ _ _ => execLeSubgoWrite_same _ _ _ s (parts_testBit hr hc) h
  | .substituteSelfTest _ _ => execSubstituteSelfTest_same _ _ s (parts_testBit hr hc) h
  | .heldLowHalfTimeout _ => execHeldLowHalfTimeout_same _ s (parts_testBit hr hc) h
  | .gridCommandSync => execGridCommandSync_same s (parts_testBit hr hc) h
  | .gridCommandRun => execGridCommandRun_same s (parts_testBit hr hc) h
  | .gridCommandClearTrip => execGridCommandClearTrip_same s (parts_testBit hr hc) h
  | .islandingDisarm => execIslandingDisarm_same s (parts_testBit hr hc) h
  | .islandingArm => execIslandingArm_same s (parts_testBit hr hc) h
  | .islandingClearTrip => execIslandingClearTrip_same s (parts_testBit hr hc) h
  | .mpptTraceRequest _ => execMpptTraceRequest_same _ s (parts_testBit hr hc) h
  | .bursarPair _ _ => execBursarPair_same _ _ s (parts_testBit hr hc) h
  | .meteringCycleEnd _ _ => execMeteringCycleEnd_same _ _ s (parts_testBit hr hc) h
  | .halfCycleBoundary _ => execHalfCycleBoundary_same _ s (parts_testBit hr hc) h
  | .burLatchWrite _ _ => execBurLatchWrite_same _ _ s (parts_testBit hr hc) h
  | .burSaveNowWrite _ => execBurSaveNowWrite_same _ s (parts_testBit hr hc) h
  | .bursarRestore => execBursarRestore_same s (parts_testBit hr hc) h
  | .theftWindowClock => execTheftWindowClock_same s (parts_testBit hr hc) h
  | .theftWindowEnd _ => execTheftWindowEnd_same _ s (parts_testBit hr hc) h
  | .theftClrWrite _ => execTheftClrWrite_same _ s (parts_testBit hr hc) h
  | .leaseRenew _ => execLeaseRenew_same _ s (parts_testBit hr hc) h
  | .leaseExpiry _ => execLeaseExpiry_same _ s (parts_testBit hr hc) h
  | .voterDisagreement _ _ => execVoterDisagreement_same _ _ s (parts_testBit hr hc) h
  | .standby _ _ => execStandby_same _ _ s (parts_testBit hr hc) h
  | .wake _ => execWake_same _ s (parts_testBit hr hc) h
  | .cold _ => execCold_same _ s (parts_testBit hr hc) h
  | .ready _ => execReady_same _ s (parts_testBit hr hc) h
  | .handover _ => execHandover_same _ s (parts_testBit hr hc) h
  | .cancel _ => execCancel_same _ s (parts_testBit hr hc) h
  | .release _ => execRelease_same _ s (parts_testBit hr hc) h
  | .acquire _ => execAcquire_same _ s (parts_testBit hr hc) h
  | .coldSelfTestWindow _ _ => execColdSelfTestWindow_same _ _ s (parts_testBit hr hc) h
  | .snapshotWriteComplete => execSnapshotWriteComplete_same s (parts_testBit hr hc) h
  | .takeoverSlotChosen => execTakeoverSlotChosen_same s (parts_testBit hr hc) h
  | .takeoverRestoreComplete => execTakeoverRestoreComplete_same s (parts_testBit hr hc) h
  | .hpRearmWrite _ _ => execHpRearmWrite_same _ _ s (parts_testBit hr hc) h
  | .handoverCopyComplete => execHandoverCopyComplete_same s (parts_testBit hr hc) h
  | .linkStale _ => execLinkStale_same _ s (parts_testBit hr hc) h
  | .scrubRead _ _ _ => execScrubRead_same _ _ _ s (parts_testBit hr hc) h
  | .scrubPassOverdue _ => execScrubPassOverdue_same _ s (parts_testBit hr hc) h
  | .uncorrectableRead _ _ _ _ => execUncorrectableRead_same _ _ _ _ s (parts_testBit hr hc) h
  | .satRetWrite _ _ _ => execSatRetWrite_same _ _ _ s (parts_testBit hr hc) h
  | .repLoadWrite _ _ => execRepLoadWrite_same _ _ s (parts_testBit hr hc) h
  | .ageingMeasure _ => execAgeingMeasure_same _ s (parts_testBit hr hc) h
  | .libraryInit _ _ _ _ _ _ _ _ => execLibraryInit_same _ _ _ _ _ _ _ _ s (parts_testBit hr hc) h
  | .libAppendRecord _ => execLibAppendRecord_same _ s (parts_testBit hr hc) h
  | .libReadRecord _ _ => execLibReadRecord_same _ _ s (parts_testBit hr hc) h
  | .libReadNewest _ _ => execLibReadNewest_same _ _ s (parts_testBit hr hc) h
  | .flashOperationComplete _ => execFlashOperationComplete_same _ s (parts_testBit hr hc) h
  | .recordCommit => execRecordCommit_same s (parts_testBit hr hc) h
  | .libraryRefresh => execLibraryRefresh_same s (parts_testBit hr hc) h
  | .wearLevelRelocate => execWearLevelRelocate_same s (parts_testBit hr hc) h
  | .bootImageVerify _ => execBootImageVerify_same _ s (parts_testBit hr hc) h
  | .identityKeyDerive _ => execIdentityKeyDerive_same _ s (parts_testBit hr hc) h
  | .worldViolation _ _ _ => execWorldViolation_same _ _ _ s (parts_testBit hr hc) h
  | .enrol _ => execEnrol_same _ s (parts_testBit hr hc) h
  | .transfer _ => execTransfer_same _ s (parts_testBit hr hc) h
  | .vendorOff _ => execVendorOff_same _ s (parts_testBit hr hc) h
  | .advance _ => execAdvance_same _ s (parts_testBit hr hc) h
  | .secCommandComplete => execSecCommandComplete_same s (parts_testBit hr hc) h
  | .attestationRequest _ => execAttestationRequest_same _ s (parts_testBit hr hc) h
  | .attestationComplete => execAttestationComplete_same s (parts_testBit hr hc) h
  | .testPulseStart _ => execTestPulseStart_same _ s (parts_testBit hr hc) h
  | .testPulseEnd _ => execTestPulseEnd_same _ s (parts_testBit hr hc) h
  | .testPulseCheck _ _ _ _ => execTestPulseCheck_same _ _ _ _ s (parts_testBit hr hc) h
  | .filteredDemand _ => execFilteredDemand_same _ s (parts_testBit hr hc) h
  | .discrepancyFault _ => execDiscrepancyFault_same _ s (parts_testBit hr hc) h
  | .readbackFault _ => execReadbackFault_same _ s (parts_testBit hr hc) h
  | .prefectClockCheck _ => execPrefectClockCheck_same _ s (parts_testBit hr hc) h
  | .prefectFaultClear => execPrefectFaultClear_same s (parts_testBit hr hc) h
  | .prefectNotice => execPrefectNotice_same s (parts_testBit hr hc) h
  | .prefectForce => execPrefectForce_same s (parts_testBit hr hc) h
  | .prefectReleaseReady => execPrefectReleaseReady_same s (parts_testBit hr hc) h
  | .pfRelWrite _ _ => execPfRelWrite_same _ _ s (parts_testBit hr hc) h
  | .forceRelease => execForceRelease_same s (parts_testBit hr hc) h
  | .cfgswRead _ => execCfgswRead_same _ s (parts_testBit hr hc) h
  | .cfgswChange _ => execCfgswChange_same _ s (parts_testBit hr hc) h
  | .prefectSetDelivery => execPrefectSetDelivery_same s (parts_testBit hr hc) h
  | .sealOpened => execSealOpened_same s (parts_testBit hr hc) h
  | .sealClosed => execSealClosed_same s (parts_testBit hr hc) h
  | .pfCommitWrite _ _ => execPfCommitWrite_same _ _ s (parts_testBit hr hc) h
  | .commitArmTimeout => execCommitArmTimeout_same s (parts_testBit hr hc) h
  | .commissioningComplete => execCommissioningComplete_same s (parts_testBit hr hc) h
  | .portEnWrite _ _ => execPortEnWrite_same _ _ s (parts_testBit hr hc) h
  | .ethFrameReceive _ _ _ _ => execEthFrameReceive_same _ _ _ _ s (parts_testBit hr hc) h
  | .canFrameReceive _ _ _ _ _ _ _ _ _ _ _ => execCanFrameReceive_same _ _ _ _ _ _ _ _ _ _ _ s (parts_testBit hr hc) h
  | .niujorFrameReceive _ _ _ _ _ _ => execNiujorFrameReceive_same _ _ _ _ _ _ s (parts_testBit hr hc) h
  | .niujorCycleStart => execNiujorCycleStart_same s (parts_testBit hr hc) h
  | .niujorSlot => execNiujorSlot_same s (parts_testBit hr hc) h
  | .chainBell => execChainBell_same s (parts_testBit hr hc) h
  | .ethMdioWrite _ _ _ _ _ => execEthMdioWrite_same _ _ _ _ _ s (parts_testBit hr hc) h
  | .mdioFrameComplete _ => execMdioFrameComplete_same _ s (parts_testBit hr hc) h
  | .peerTrain _ => execPeerTrain_same _ s (parts_testBit hr hc) h
  | .trainingWord _ _ _ => execTrainingWord_same _ _ _ s (parts_testBit hr hc) h
  | .hopPulse => execHopPulse_same s (parts_testBit hr hc) h
  | .trainingEcho _ => execTrainingEcho_same _ s (parts_testBit hr hc) h
  | .hopReport _ => execHopReport_same _ s (parts_testBit hr hc) h
  | .echoTimeout => execEchoTimeout_same s (parts_testBit hr hc) h
  | .positionReport _ => execPositionReport_same _ s (parts_testBit hr hc) h
  | .trainingTimeout => execTrainingTimeout_same s (parts_testBit hr hc) h
  | .ringCfgWrite _ _ _ => execRingCfgWrite_same _ _ _ s (parts_testBit hr hc) h
  | .ringHeadWrite _ _ _ => execRingHeadWrite_same _ _ _ s (parts_testBit hr hc) h
  | .descriptorProcess => execDescriptorProcess_same s (parts_testBit hr hc) h
  | .descriptorComplete _ _ _ => execDescriptorComplete_same _ _ _ s (parts_testBit hr hc) h
  | .ringHaltClear _ _ => execRingHaltClear_same _ _ s (parts_testBit hr hc) h
  | .captureBufferComplete _ => execCaptureBufferComplete_same _ s (parts_testBit hr hc) h
  | .cryptoHash => execCryptoHash_same s (parts_testBit hr hc) h
  | .cryptoVerify => execCryptoVerify_same s (parts_testBit hr hc) h
  | .portRestart _ => execPortRestart_same _ s (parts_testBit hr hc) h
  | .ethLinkChange _ _ _ _ => execEthLinkChange_same _ _ _ _ s (parts_testBit hr hc) h
  | .canBusOffRecovery _ => execCanBusOffRecovery_same _ s (parts_testBit hr hc) h
  | .usdoTransfer _ _ _ => execUsdoTransfer_same _ _ _ s (parts_testBit hr hc) h
  | .usdoSessionTimeout _ _ => execUsdoSessionTimeout_same _ _ s (parts_testBit hr hc) h
  | .idpRead _ _ _ _ => execIdpRead_same _ _ _ _ s (parts_testBit hr hc) h
  | .idpWrite _ _ _ _ _ => execIdpWrite_same _ _ _ _ _ s (parts_testBit hr hc) h
  | .idpTransferTimeout _ _ _ => execIdpTransferTimeout_same _ _ _ s (parts_testBit hr hc) h
  | .requestForward => execRequestForward_same s (parts_testBit hr hc) h
  | .groupEnter _ _ _ => execGroupEnter_same _ _ _ s (parts_testBit hr hc) h
  | .groupRestart _ _ _ => execGroupRestart_same _ _ _ s (parts_testBit hr hc) h
  | .groupRestore _ _ _ => execGroupRestore_same _ _ _ s (parts_testBit hr hc) h
  | .validationComplete _ => execValidationComplete_same _ s (parts_testBit hr hc) h
  | .jointRestart _ _ _ => execJointRestart_same _ _ _ s (parts_testBit hr hc) h
  | .storeParameters _ _ _ => execStoreParameters_same _ _ _ s (parts_testBit hr hc) h
  | .restoreDefaults _ _ _ => execRestoreDefaults_same _ _ _ s (parts_testBit hr hc) h
  | .rollCall _ _ => execRollCall_same _ _ s (parts_testBit hr hc) h
  | .descriptionRequest _ _ _ => execDescriptionRequest_same _ _ _ s (parts_testBit hr hc) h
  | .descriptionRead _ _ => execDescriptionRead_same _ _ s (parts_testBit hr hc) h
  | .programDownload _ _ _ => execProgramDownload_same _ _ _ s (parts_testBit hr hc) h
  | .imageSlotWrite _ _ _ _ => execImageSlotWrite_same _ _ _ _ s (parts_testBit hr hc) h
  | .seedRequest _ _ _ => execSeedRequest_same _ _ _ s (parts_testBit hr hc) h
  | .seedComplete => execSeedComplete_same s (parts_testBit hr hc) h
  | .interruptClaim _ => execInterruptClaim_same _ s (parts_testBit hr hc) h
  | .interruptComplete _ _ => execInterruptComplete_same _ _ s (parts_testBit hr hc) h
  | .machineTimer _ => execMachineTimer_same _ s (parts_testBit hr hc) h
  | .tutMtcmplWrite _ _ => execTutMtcmplWrite_same _ _ s (parts_testBit hr hc) h
  | .tutMtcmphWrite _ _ => execTutMtcmphWrite_same _ _ s (parts_testBit hr hc) h
  | .wfi _ => execWfi_same _ s (parts_testBit hr hc) h
  | .gatewayRead _ _ => execGatewayRead_same _ _ s (parts_testBit hr hc) h
  | .gatewayWrite _ _ => execGatewayWrite_same _ _ s (parts_testBit hr hc) h
  | .gatewayDone _ => execGatewayDone_same _ s (parts_testBit hr hc) h
  | .tapReset => execTapReset_same s (parts_testBit hr hc) h
  | .extest _ => execExtest_same _ s (parts_testBit hr hc) h
  | .idcode => execIdcode_same s (parts_testBit hr hc) h
  | .samplePreload _ => execSamplePreload_same _ s (parts_testBit hr hc) h
  | .dtmcs => execDtmcs_same s (parts_testBit hr hc) h
  | .dmi _ _ => execDmi_same _ _ s (parts_testBit hr hc) h
  | .bypass => execBypass_same s (parts_testBit hr hc) h
  | .debugHalt _ => execDebugHalt_same _ s (parts_testBit hr hc) h
  | .lehaltWrite _ _ => execLehaltWrite_same _ _ s (parts_testBit hr hc) h
  | .amoSatchel _ _ _ _ => execAmoSatchel_same _ _ _ _ s (parts_testBit hr hc) h
  | .registerWrite _ _ _ => execRegisterWrite_same _ _ _ s (parts_testBit hr hc) h

theorem Part.same_symm {p : Part} {s t : State} (h : p.same s t) : p.same t s := by
  cases p <;> exact Eq.symm h

/-- Settles O50, command by command. -/
theorem partFrame : Obligations.PartFrame :=
  fun c s t p ht hr hc => Part.same_symm (exec_same (Same.refl p s) c hr hc t ht)

end Sys2Proof.Machine
end

section
/-!
The state after reset, unit by unit.
-/
namespace Sys2Proof.Machine

theorem reset_modules : ∀ n < 24,
    State.reset.fld .MOD_GCFG_TRIPPED n = 1 ∧ State.reset.fld .MOD_GTHR_HI n = 0x7FFF ∧
      State.reset.fld .MOD_GTHR_LO n = 0x8000 ∧ State.reset.fld .PWM_RUN_OUTEN n = 0 ∧
      State.reset.fld .PWM_RUN_CNT_EN n = 0 ∧ State.reset.fld .PWM_RUN_ARM n = 0 ∧ State.reset.padHigh n = false := by
  decide +kernel

theorem reset_comparators : ∀ c < 48,
    State.reset.fld .WC_CFG_TRIPPED c = 1 ∧ State.reset.fld .WC_CFG_LATCH c = 1 ∧
      State.reset.fld .WC_THR_HI c = 0xFFF ∧ State.reset.fld .WC_THR_LO c = 0 := by decide +kernel

theorem reset_groups : ∀ g < 14, 1 ≤ g → (State.reset.dict.groups.getD g {}).st = .recess := by decide +kernel

theorem reset_rings : ∀ q < 16,
    State.reset.fld .RING_CFG_EN q = 0 ∧ State.reset.ringSize q = 16 ∧ State.reset.fld .RING_STAT_HALT q = 0 := by
  decide +kernel

/-- Settles O46: the invariant by kept_reset, the values by computing each unit's. -/
theorem resetState : Obligations.ResetState := by
  obtain ⟨hpending, htidy, hwidth, hshaped⟩ := (kept_iff [] State.reset).1 kept_reset
  refine ⟨⟨htidy, hwidth, hshaped, hpending⟩, reset_modules, reset_comparators, fun g h1 h13 => ?_, reset_rings, ?_⟩
  · exact reset_groups g (by omega) h1
  · decide +kernel

end Sys2Proof.Machine
end

section
/-!
What settling the gate pads leaves of the Tutor cores: all but WFI, which an interrupt ends (21 R502). Along the way of a
pad's edge record, from its sample word through the fabric and the rings to an event.
-/
namespace Sys2Proof.Machine

/-- Without WFI the part of the Tutor cores is `T`. -/
def Awake (T : TutorSt) (s : State) : Prop := { s.tut with wfi := 0 } = T

section
variable {T : TutorSt} {s : State}

theorem Awake.halted (h : Awake T s) : s.tut.halted = T.halted := by
  rw [← show _ = T from h]

theorem Awake.dmUnavail (h : Awake T s) : s.tut.dmUnavail = T.dmUnavail := by
  rw [← show _ = T from h]

theorem Awake.of_tut {t : State} (h : Awake T s) (e : t.tut = s.tut) : Awake T t := by
  rwa [Awake, e]

theorem Awake.ite {p : Prop} [Decidable p] {a b : State} (ha : Awake T a) (hb : Awake T b) :
    Awake T (if p then a else b) := by
  split <;> assumption

theorem Awake.when {b : Bool} {f : State → State} (h : Awake T s) (hf : ∀ u, Awake T u → Awake T (f u)) :
    Awake T (s.when b f) :=
  Awake.ite (hf s h) h

theorem Awake.each {α : Type} {f : State → α → State} {l : List α} (h : Awake T s)
    (hf : ∀ u x, Awake T u → Awake T (f u x)) : Awake T (s.each l f) := by
  induction l generalizing s with
  | nil => exact h
  | cons x l ih => exact ih (hf s x h)

/-! ### Events and interrupts -/

theorem Awake.raiseRing (h : Awake T s) (q : Nat) : Awake T (s.raiseRing q) :=
  Awake.each h fun _ _ hu => hu

theorem Awake.emit (h : Awake T s) (b : Blk) (payload : Nat) : Awake T (s.emit b payload) := by
  unfold State.emit
  dsimp only
  refine Awake.ite (Awake.when ?_ fun _ hu => hu.raiseRing 10) ?_ <;> exact h

theorem Awake.violation (h : Awake T s) (init addr : Nat) : Awake T (s.violation init addr) := by
  have hevent : Awake T (((s.setFld .SEC_VIOL_INIT 0 init).setFld .SEC_VIOLA 0 addr).secEvent 0xB2 0 0 0 addr) := by
    refine Awake.emit ?_ _ _
    exact h
  unfold State.violation
  exact Awake.ite h hevent

/-! ### The Bursar takes a word -/

theorem Awake.burGap (h : Awake T s) (q x : Nat) : Awake T (s.burGap q x) := by
  unfold State.burGap
  dsimp only
  split
  · refine Awake.ite (Awake.emit ?_ _ _) ?_ <;> exact h
  · refine Awake.ite ?_ (Awake.emit ?_ _ _) <;> exact h

theorem Awake.takeVolt (h : Awake T s) (q x : Nat) (w : SampleWord) : Awake T (s.takeVolt q x w) := by
  unfold State.takeVolt
  refine Awake.burGap ?_ q x
  exact h

theorem Awake.takeAmp (h : Awake T s) (q x : Nat) (w : SampleWord) : Awake T (s.takeAmp q x w) := by
  unfold State.takeAmp
  refine Awake.burGap ?_ q x
  exact h

theorem Awake.bursarTakes (h : Awake T s) (w : SampleWord) : Awake T (s.bursarTakes w) := by
  unfold State.bursarTakes
  refine Awake.ite h (Awake.each h fun u q hu => Awake.ite hu (Awake.each hu fun v x hv => ?_))
  exact (hv.when fun _ h => h.takeVolt q x w).when fun _ h => h.takeAmp q x w

/-! ### The rings and the captures -/

theorem Awake.finish (h : Awake T s) (q i : Nat) (d : Desc) : Awake T (s.finish q i d) := by
  unfold State.finish
  dsimp only
  refine Awake.when (Awake.when ?_ fun u hu => hu.raiseRing q) fun u hu => Awake.emit ?_ _ _
  · exact h.of_tut (State.putDescriptor_same (P := .tut) (s0 := s) s q i _ (by decide) rfl)
  · exact hu

theorem Awake.produce (h : Awake T s) (q : Nat) (d : Desc) (data : List Nat) (ts : Nat) :
    Awake T (s.produce q d data ts) := by
  unfold State.produce
  dsimp only
  refine Awake.ite (Awake.finish ?_ _ _ _) (Awake.ite (Awake.finish (Awake.violation ?_ _ _) _ _ _) (Awake.finish ?_ _ _ _))
  · exact h
  · exact h
  · exact h.of_tut (State.satWrite_same (P := .tut) (s0 := s) _ _ _ (by decide) rfl)

theorem Awake.captureDone (h : Awake T s) (a : Nat) (closed : Bool) : Awake T (s.captureDone a closed) := by
  unfold State.captureDone
  dsimp only
  split
  · refine Awake.of_tut (Awake.produce ?_ _ _ _ _) (State.streamSend_same (P := .tut) _ _ _ _ _ (by decide) rfl)
    exact h
  · exact h

theorem Awake.capture (h : Awake T s) (a : Nat) (w : SampleWord) : Awake T (s.capture a w) := by
  have hdone (b : Bool) (c : Capture) : Awake T ((s.setCap a c).when b (fun u => u.captureDone a false)) :=
    Awake.when h fun u hu => hu.captureDone a false
  unfold State.capture
  dsimp only
  refine Awake.ite (Awake.ite h ?_) h
  split <;> exact (hdone _ _).of_tut rfl

/-! ### The fabric and the pads -/

theorem Awake.deliver (h : Awake T s) (w : SampleWord) : Awake T (s.deliver w) := by
  unfold State.deliver
  refine Awake.capture (Awake.capture (Awake.each (Awake.bursarTakes ?_ w) fun u e hu => ?_) 0 w) 1 w
  · exact h
  · exact hu.of_tut (State.subscribe_same (P := .tut) (s0 := u) u w e.1 e.2 (by decide) rfl)

theorem Awake.offer (h : Awake T s) (w : SampleWord) (free : Bool) : Awake T (s.offer w free) := by
  have hready (l r : List SampleWord) :
      Awake T (State.each { s with fab := { s.fab with waiting := r } } l State.deliver) :=
    Awake.each h fun u x hu => hu.deliver x
  unfold State.offer
  refine Awake.ite (Awake.deliver ?_ w) (Awake.ite ?_ (Awake.emit ?_ _ _)) <;> exact hready _ _

theorem Awake.edgeRecord (h : Awake T s) (m kind inst : Nat) (tripf carry : Bool) :
    Awake T (s.edgeRecord m kind inst tripf carry) :=
  Awake.when h fun _ hu => hu.offer _ true

theorem Awake.setSide (h : Awake T s) (m : Nat) (low lvl : Bool) (inst : Nat) (tripf carry : Bool) :
    Awake T (s.setSide m low lvl inst tripf carry) := by
  unfold State.setSide
  refine Awake.ite h (Awake.when (Awake.edgeRecord ?_ _ _ _ _ _) fun u hu => ?_)
  · exact h
  · exact hu

theorem Awake.padsOff (h : Awake T s) (m : Nat) (mode : PadMode) (tripf : Bool) : Awake T (s.padsOff m mode tripf) := by
  unfold State.padsOff
  refine Awake.setSide (Awake.setSide ?_ _ _ _ _ _ _) _ _ _ _ _ _
  exact h

theorem Awake.stage1 (h : Awake T s) (k m : Nat) (tripf : Bool) : Awake T (s.stage1 k m tripf) := by
  unfold State.stage1
  refine Awake.setSide (Awake.setSide ?_ _ _ _ _ _ _) _ _ _ _ _ _
  exact h

theorem Awake.legOff (h : Awake T s) (k : Nat) (tripf : Bool) : Awake T (s.legOff k tripf) := by
  have hstages : Awake T (s.each (s.legMods k) (fun s m => s.stage1 k m tripf)) :=
    Awake.each h fun _ m hu => hu.stage1 k m tripf
  unfold State.legOff
  refine hstages.of_tut ?_
  rfl

theorem Awake.putDown (h : Awake T s) (m : Nat) (mode : PadMode) (tripf : Bool) : Awake T (s.putDown m mode tripf) := by
  have hoff : Awake T (if s.staysDown m mode then s else s.padsOff m mode tripf) := Awake.ite h (h.padsOff m mode tripf)
  unfold State.putDown
  split
  case h_1 => exact hoff
  case h_2 k _ => exact Awake.ite h (Awake.ite (h.legOff k tripf) hoff)

theorem Awake.settlePads (h : Awake T s) : Awake T s.settlePads := by
  unfold State.settlePads
  refine Awake.each h fun _ m hu => Awake.ite hu ?_
  exact Awake.ite (hu.putDown m .low false) (Awake.ite (hu.putDown m .safe true) hu)

end

/-- Settling the pads leaves which cores are in debug mode. -/
@[simp] theorem State.settlePads_halted (s : State) : s.settlePads.tut.halted = s.tut.halted :=
  (Awake.settlePads (T := { s.tut with wfi := 0 }) (s := s) rfl).halted

/-- Settling the pads leaves what the debug module reports of a hart. -/
@[simp] theorem State.settlePads_dmUnavail (s : State) : s.settlePads.tut.dmUnavail = s.tut.dmUnavail :=
  (Awake.settlePads (T := { s.tut with wfi := 0 }) (s := s) rfl).dmUnavail

end Sys2Proof.Machine
end

section
/-!
The TAP and the debug module (21 R514 to R518), operation by operation.
-/
namespace Sys2Proof.Machine

/-! ### The TAP -/

section
variable (s : State) (ir dr w : Nat)

@[simp] theorem State.tap_tapIr : (s.tap ir dr).tut.tapIr = if s.bankOn 3 = true then ir else 0x01 := by
  unfold State.tap; cases s.bankOn 3 <;> rfl

@[simp] theorem State.tap_tapDr : (s.tap ir dr).tut.tapDr = if s.bankOn 3 = true then dr else s.idcode := by
  unfold State.tap; cases s.bankOn 3 <;> rfl

/-- Only EXTEST drives the balls from the cells, and only with VIO3. -/
@[simp] theorem State.tap_extest : (s.tap ir dr).tut.extest = (s.bankOn 3 && decide (ir = 0x00)) := by
  unfold State.tap; cases s.bankOn 3 <;> rfl

theorem State.fresh_bankOn : (s.fresh w).2.bankOn 3 = s.bankOn 3 := rfl

theorem State.fresh_idcode : (s.fresh w).2.idcode = s.idcode := rfl

end

theorem execTapReset_captures (s : State) : ∃ t, exec .tapReset s = .next t ∧
    t.tut.tapIr = 0x01 ∧ t.tut.tapDr = s.idcode ∧ t.tut.extest = false :=
  ⟨s.tap 0x01 s.idcode, rfl, by simp⟩

theorem execIdcode_captures (s : State) : ∃ t, exec .idcode s = .next t ∧
    t.tut.tapIr = 0x01 ∧ t.tut.tapDr = s.idcode ∧ t.tut.extest = false :=
  ⟨s.tap 0x01 s.idcode, rfl, by simp⟩

theorem execBypass_captures (s : State) : ∃ t, exec .bypass s = .next t ∧ t.tut.extest = false ∧
    (if s.bankOn 3 = true then t.tut.tapIr = 0x1F ∧ t.tut.tapDr = 0
    else t.tut.tapIr = 0x01 ∧ t.tut.tapDr = s.idcode) := by
  refine ⟨s.tap 0x1F 0, rfl, by simp, ?_⟩
  split <;> simp [*]

/-- From `s` to `t` the TAP takes an instruction; with VIO3 absent it stays in reset (21 R514). -/
def State.tapTakes (s t : State) (ir : Nat) : Prop :=
  if s.bankOn 3 = true then t.tut.tapIr = ir else t.tut.tapIr = 0x01 ∧ t.tut.tapDr = s.idcode

/-- An instruction that captures a free value. -/
theorem State.tap_fresh (s : State) (ir : Nat) :
    ((s.fresh 32).2.tap ir (s.fresh 32).1).tut.extest = (s.bankOn 3 && decide (ir = 0x00)) ∧
      s.tapTakes ((s.fresh 32).2.tap ir (s.fresh 32).1) ir := by
  simp only [State.tapTakes, State.tap_extest, State.tap_tapIr, State.tap_tapDr, State.fresh_bankOn, State.fresh_idcode]
  split <;> simp [*]

theorem execExtest_drives (s : State) (cells : Nat) : ∃ t, exec (.extest cells) s = .next t ∧
    t.tut.boundary = cells ∧ t.tut.extest = s.bankOn 3 ∧ s.tapTakes t 0x00 := by
  obtain ⟨hdrive, hir⟩ := s.tap_fresh 0x00
  exact ⟨_, rfl, rfl, hdrive.trans (by simp), hir⟩

theorem execSamplePreload_takes (s : State) (cells : Nat) : ∃ t, exec (.samplePreload cells) s = .next t ∧
    t.tut.boundary = cells ∧ t.tut.extest = false ∧ s.tapTakes t 0x02 := by
  obtain ⟨hdrive, hir⟩ := s.tap_fresh 0x02
  exact ⟨_, rfl, rfl, hdrive.trans (by simp), hir⟩

theorem execDtmcs_takes (s : State) : ∃ t, exec .dtmcs s = .next t ∧ t.tut.extest = false ∧ s.tapTakes t 0x10 := by
  obtain ⟨hdrive, hir⟩ := s.tap_fresh 0x10
  exact ⟨_, rfl, hdrive.trans (by simp), hir⟩

/-! ### Halting and LEHALT -/

theorem execDebugHalt_halts (s : State) (core : Nat) : ∃ t, exec (.debugHalt core) s = .next t ∧
    if s.hartEnabled core = true then t.tut.halted.testBit core = true ∧ t.tut.dmUnavail = false
    else t.tut.halted = s.tut.halted ∧ t.tut.dmUnavail = true := by
  refine ⟨_, rfl, ?_⟩
  split
  · simp only [*, State.settlePads_halted, State.settlePads_dmUnavail, setBitTo_self, and_self]
  · simp only [*, and_self]

theorem execLehaltWrite_sets (s : State) (core v : Nat) (hmay : s.mayStore core 0x4E000018 false) :
    ∃ t, exec (.lehaltWrite core v) s = .next t ∧
      if s.tut.halted.testBit core = true then
        t.fld .TUT_DBG_LEHALT (core / 2 * 2) = v % 64 ∧ t.fld .TUT_DBG_LEHALT (core / 2 * 2 + 1) = v % 64
      else t = s := by
  obtain ⟨hruns, hpmp, hns⟩ := hmay
  have hsecure : s.coreNs core = false := by simpa using hns
  have hwidth : Fld.width .TUT_DBG_LEHALT = 6 := rfl
  refine ⟨_, rfl, ?_⟩
  rw [State.access_secure s core _ false _ hruns hpmp hsecure]
  split <;> simp [State.leHaltWrite, *]

/-! ### DMI -/

/-- The state in which the debug module acts on a hart: DMI stands in the TAP, and the module reports the hart. -/
def State.selectHart (s : State) (hart : Nat) : State :=
  { s with
    freeCtr := s.freeCtr + 1
    tut := { s.tut with
      tapIr := if s.bankOn 3 then 0x11 else 0x01
      tapDr := if s.bankOn 3 then (s.fresh 32).1 else s.idcode
      extest := false
      dmUnavail := !s.hartEnabled hart } }

theorem State.tap_dmi (s : State) :
    (s.fresh 32).2.tap 0x11 (s.fresh 32).1 =
      { s with
        freeCtr := s.freeCtr + 1
        tut := { s.tut with
          tapIr := if s.bankOn 3 then 0x11 else 0x01
          tapDr := if s.bankOn 3 then (s.fresh 32).1 else s.idcode
          extest := false } } := by
  unfold State.tap
  rw [State.fresh_bankOn]
  cases s.bankOn 3 <;> rfl

theorem execDmi_eq (hart : Nat) (op : DmiOp) (s : State) :
    execDmi hart op s = .next ((s.selectHart hart).when (s.hartEnabled hart) (fun u => u.debugDo hart op)) := by
  unfold execDmi
  dsimp only
  rw [State.tap_dmi]
  rfl

/-- The state in which an abstract access of a halted hart acts. -/
def State.debugged (s : State) (hart : Nat) : State := ((s.selectHart hart).setCmderr 0).setMcause hart 0

section
variable {s : State} {hart : Nat}

theorem State.debugged_regAbsent (r : RegDesc) (i : Nat) : (s.debugged hart).regAbsent r i = s.regAbsent r i := rfl

theorem State.debugged_regWord (r : RegDesc) (i : Nat) : (s.debugged hart).regWord r i = s.regWord r i := rfl

/-- The PMP does not apply in debug mode (21 R516). -/
theorem State.debugged_pmpAllows (h : s.tut.halted.testBit hart = true) (cause a : Nat) :
    (s.debugged hart).pmpAllows hart cause a = true := by
  have hd : (s.debugged hart).tut.halted.testBit hart = true := h
  simp [State.pmpAllows, hd]

theorem State.debugged_mcause : (s.debugged hart).tut.mcause.getD hart 0 = 0 := by
  have he : (s.debugged hart).tut.mcause = s.tut.mcause.set hart 0 := rfl
  rw [he, List.getD_eq_getElem?_getD, List.getElem?_set_self']
  cases s.tut.mcause[hart]? <;> rfl

theorem execDmi_unavailable (h : s.hartEnabled hart = false) (op : DmiOp) :
    exec (.dmi hart op) s = .next (s.selectHart hart) := by
  refine (execDmi_eq hart op s).trans ?_
  rw [h]; rfl

theorem execDmi_enabled (h : s.hartEnabled hart = true) (op : DmiOp) :
    exec (.dmi hart op) s = .next ((s.selectHart hart).debugDo hart op) := by
  refine (execDmi_eq hart op s).trans ?_
  rw [h]; rfl

theorem State.resumeCore_resumes (s : State) (core : Nat) :
    (s.resumeCore core).tut.halted.testBit core = false ∧ (s.resumeCore core).tut.dmUnavail = s.tut.dmUnavail := by
  unfold State.resumeCore
  split
  · dsimp only [State.when]
    split <;> exact ⟨setBitTo_self s.tut.halted core false, rfl⟩
  · next h => exact ⟨by simpa using h, rfl⟩

/-! ### Abstract commands -/

theorem State.abstract_halted (h : s.tut.halted.testBit hart = true) (f : State → State) :
    s.abstract hart f = f (s.setCmderr 0) := if_pos h

theorem State.abstract_running (h : ¬ s.tut.halted.testBit hart = true) (f : State → State) :
    s.abstract hart f = s.setCmderr 4 := if_neg h

/-- A load that ends without a fault stands as the load left it, with mcause as it was. -/
theorem State.debugDo_load {a w : Nat} {t : State} (h : s.tut.halted.testBit hart = true)
    (ht : (s.debugged hart).coreLoad hart a w = t) (hcause : t.tut.mcause.getD hart 0 = 0) :
    (s.selectHart hart).debugDo hart (.load a w) = t.setMcause hart (s.tut.mcause.getD hart 0) := by
  have hsel : (s.selectHart hart).tut.halted.testBit hart = true := h
  have habs : (s.selectHart hart).debugDo hart (.load a w) =
      if ((s.debugged hart).coreLoad hart a w).tut.mcause.getD hart 0 = 0 then
        ((s.debugged hart).coreLoad hart a w).setMcause hart (s.tut.mcause.getD hart 0)
      else ((s.debugged hart).coreLoad hart a w).setCmderr 3 := by
    rw [State.debugDo, State.abstractMem, State.abstract_halted hsel]
    rfl
  rw [habs, ht, if_pos hcause]

end

/-! ### Loads that the debug module makes a hart do -/

section
variable {s : State} {core a : Nat}

/-- An access of a running core that its PMP and its world let through. -/
theorem State.accessAs_lets {cause : Nat} {ns : Bool} (hruns : s.coreRuns core = true)
    (hpmp : s.pmpAllows core cause a = true) (hns : s.coreNs core = true → ns = true) (f : State → State) :
    s.accessAs cause core a ns f = f s := by
  have hworld : (s.coreNs core && !ns) = false := by cases ns <;> simp_all
  simp [State.accessAs, State.coreActs, hruns, hpmp, hworld]

theorem State.coreLoad_block (hruns : s.coreRuns core = true) (hpmp : s.pmpAllows core 5 a = true)
    (hns : s.coreNs core = true → s.targetNs core a true = true) (hlo : 0x40000000 ≤ a) (hhi : a < 0x4E001000)
    (halign : a % 4 = 0) (hwin : ¬(0x45400000 ≤ a ∧ a < 0x454E0000)) : s.coreLoad core a 4 = s.regLoad core a := by
  have hblock : s.coreLoad core a 4 = s.blockLoad core a 4 := if_pos (by simp [hlo, hhi])
  rw [hblock, State.blockLoad, State.accessAs_lets hruns hpmp hns]
  simp [halign, hwin]

theorem State.coreLoad_dtcm {l : List Nat} (hruns : s.coreRuns core = true) (hpmp : s.pmpAllows core 5 a = true)
    (hns : s.coreNs core = true → s.targetNs core a true = true) (hlo : 0x11000000 ≤ a) (hhi : a + 4 ≤ 0x11080000)
    (halign : a % 4 = 0) (hread : s.coreRead core a 4 = some l) : s.coreLoad core a 4 = s.reads (ofLe l) := by
  have hmem : s.memLoad 5 core a 4 = s.reads (ofLe l) := by
    unfold State.memLoad
    rw [if_neg (by omega), if_neg (by simp; omega), if_neg (by simp; omega), if_neg (by decide), if_neg (by simp; omega),
      if_pos (by simp; omega), hread]
    rfl
  rw [State.coreLoad, if_neg (by simp; omega), State.accessAs_lets hruns hpmp hns]
  simp [halign, hmem]

/-- The load of a register whose read has no effect but on its own fields. -/
theorem State.regLoad_plain {r : RegDesc} {i : Nat} (hat : regAt core a = some (r, i)) (hthere : s.regAbsent r i = false)
    (hbase : r.base ∉ [0x4C00101C, 0x4C001040, 0x4E00002C, 0x42000110, 0x43000114, 0x47000020]) :
    s.regLoad core a = (s.reads (s.regWord r i)).readClears r i := by
  simp only [State.regLoad, hat, hthere, Bool.false_eq_true, if_false]
  split
  case h_7 => rfl
  -- the other arms are the bases that hbase rules out
  all_goals simp_all

theorem State.readClears_tut (s : State) (r : RegDesc) (i : Nat) : (s.readClears r i).tut = s.tut :=
  State.readClears_same (P := .tut) (s0 := s) s r i (by decide) rfl

/-- An RC field of the list, or one that is 0 already, is 0 when the list has been cleared. -/
theorem State.each_clears {i : Nat} {g : FieldAt} (hg : g.fld.acc = .rc) (l : List FieldAt) {s : State}
    (h : g ∈ l ∨ s.fld g.fld i = 0) :
    (s.each l (fun s fa => s.when (fa.fld.acc = .rc) (fun s => s.setFld fa.fld i 0))).fld g.fld i = 0 := by
  induction l generalizing s with
  | nil => simpa [State.each] using h
  | cons fa l ih =>
    refine ih ?_
    rcases h with h | h
    · rcases List.mem_cons.1 h with rfl | h
      · exact .inr (by simp [State.when, hg])
      · exact .inl h
    · refine .inr ?_
      dsimp only [State.when]
      split
      · rw [State.fld_setFld, h, Nat.zero_mod, ite_self]
      · exact h

theorem State.readClears_clears (s : State) {r : RegDesc} (i : Nat) {g : FieldAt} (hmem : g ∈ r.fields)
    (hg : g.fld.acc = .rc) : (s.readClears r i).fld g.fld i = 0 :=
  State.each_clears hg r.fields (.inl hmem)

end

/-! ### What DMI answers -/

section
variable (s : State) (hart : Nat)

theorem execDmi_reports_unavailable (h : s.hartEnabled hart = false) (op : DmiOp) :
    ∃ t, exec (.dmi hart op) s = .next t ∧ t.tut.dmUnavail = true ∧
      t.tut.halted = s.tut.halted ∧ t.regs = s.regs ∧ t.tut.cmderr = s.tut.cmderr := by
  have hreport : (s.selectHart hart).tut.dmUnavail = !s.hartEnabled hart := rfl
  exact ⟨s.selectHart hart, execDmi_unavailable h op, by rw [hreport, h]; rfl, rfl, rfl, rfl⟩

theorem execDmi_resumes (h : s.hartEnabled hart = true) : ∃ t, exec (.dmi hart .resume) s = .next t ∧
    t.tut.dmUnavail = false ∧ t.tut.halted.testBit hart = false := by
  have hreport : (s.selectHart hart).tut.dmUnavail = !s.hartEnabled hart := rfl
  obtain ⟨hrun, hkeep⟩ := (s.selectHart hart).resumeCore_resumes hart
  exact ⟨_, execDmi_enabled h .resume, by rw [State.debugDo, hkeep, hreport, h]; rfl, hrun⟩

/-- A debugger's load of a register does what a core's load does: its word, and the RC fields clear. -/
theorem execDmi_loads_register (a : Nat) (h : s.hartEnabled hart = true) (hhalt : s.tut.halted.testBit hart = true)
    (hruns : s.coreRuns hart = true) (hns : s.coreNs hart = true → s.targetNs hart a true = true) (hlo : 0x40000000 ≤ a)
    (hhi : a < 0x4E001000) (halign : a % 4 = 0) (hwin : ¬(0x45400000 ≤ a ∧ a < 0x454E0000)) :
    ∃ t, exec (.dmi hart (.load a 4)) s = .next t ∧
      ∀ r ∈ regAt hart a, s.regAbsent r.1 r.2 = false →
        ¬ r.1.base ∈ [0x4C00101C, 0x4C001040, 0x4E00002C, 0x42000110, 0x43000114, 0x47000020] →
        t.tut.lastRead = s.regWord r.1 r.2 ∧ t.tut.cmderr = 0 ∧
          ∀ f ∈ r.1.fields, f.fld.acc = .rc → t.fld f.fld r.2 = 0 := by
  refine ⟨_, execDmi_enabled h _, ?_⟩
  rintro ⟨r, i⟩ hat hthere hbase
  have hload : (s.debugged hart).coreLoad hart a 4 = ((s.debugged hart).reads (s.regWord r i)).readClears r i := by
    rw [State.coreLoad_block (s := s.debugged hart) hruns (State.debugged_pmpAllows hhalt 5 a) hns hlo hhi halign hwin,
      State.regLoad_plain hat ((State.debugged_regAbsent r i).trans hthere) hbase, State.debugged_regWord]
  have htut := ((s.debugged hart).reads (s.regWord r i)).readClears_tut r i
  rw [State.debugDo_load hhalt hload (by rw [htut]; exact State.debugged_mcause)]
  refine ⟨(congrArg TutorSt.lastRead htut).trans rfl, (congrArg TutorSt.cmderr htut).trans rfl, fun g hg hrc => ?_⟩
  exact State.readClears_clears _ i hg hrc

theorem execDmi_loads_dtcm (a : Nat) (l : List Nat) (h : s.hartEnabled hart = true)
    (hhalt : s.tut.halted.testBit hart = true) (hruns : s.coreRuns hart = true)
    (hns : s.coreNs hart = true → s.targetNs hart a true = true) (hlo : 0x11000000 ≤ a)
    (hhi : a + 4 ≤ 0x11080000) (halign : a % 4 = 0) (hread : s.coreRead hart a 4 = some l) :
    ∃ t, exec (.dmi hart (.load a 4)) s = .next t ∧ t.tut.lastRead = ofLe l ∧ t.tut.cmderr = 0 := by
  have hload : (s.debugged hart).coreLoad hart a 4 = (s.debugged hart).reads (ofLe l) :=
    State.coreLoad_dtcm hruns (State.debugged_pmpAllows hhalt 5 a) hns hlo hhi halign hread
  refine ⟨_, execDmi_enabled h _, ?_⟩
  rw [State.debugDo_load hhalt hload State.debugged_mcause]
  exact ⟨rfl, rfl⟩

theorem execDmi_writes_register (n v : Nat) (h : s.hartEnabled hart = true) :
    ∃ t, exec (.dmi hart (.writeReg (0x1000 + n) v)) s = .next t ∧
      if s.tut.halted.testBit hart = true then
        t.tut.cmderr = 0 ∧ t.tut.xf.get (hart, n) 0 = (if n = 0 then s.tut.xf.get (hart, n) 0 else v)
      else t.tut.cmderr = 4 ∧ t.tut.xf = s.tut.xf := by
  refine ⟨_, execDmi_enabled h _, ?_⟩
  dsimp only [State.debugDo]
  split
  case isTrue hhalt =>
    rw [State.abstract_halted (s := s.selectHart hart) hhalt, State.regWrite, if_neg (by omega)]
    by_cases hn : n = 0
    · rw [if_pos (by omega), if_pos hn]
      exact ⟨rfl, rfl⟩
    · rw [if_neg (by omega), if_neg hn, Nat.add_sub_cancel_left]
      exact ⟨rfl, SMap.get_set_self _ _ _ _⟩
  case isFalse hhalt =>
    rw [State.abstract_running (s := s.selectHart hart) hhalt]
    exact ⟨rfl, rfl⟩

theorem execDmi_reads_register (n : Nat) (h : s.hartEnabled hart = true) :
    ∃ t, exec (.dmi hart (.readReg (0x1000 + n))) s = .next t ∧
      if s.tut.halted.testBit hart = true then t.tut.cmderr = 0 ∧ t.tut.lastRead = s.tut.xf.get (hart, n) 0
      else t.tut.cmderr = 4 := by
  refine ⟨_, execDmi_enabled h _, ?_⟩
  dsimp only [State.debugDo]
  split
  case isTrue hhalt =>
    rw [State.abstract_halted (s := s.selectHart hart) hhalt, State.regRead, if_neg (by omega), Nat.add_sub_cancel_left]
    exact ⟨rfl, rfl⟩
  case isFalse hhalt =>
    rw [State.abstract_running (s := s.selectHart hart) hhalt]
    rfl

end

/-- Settles O43, command by command. -/
theorem tapAndDebug : Obligations.TapAndDebug :=
  ⟨execTapReset_captures, execIdcode_captures, execExtest_drives, execSamplePreload_takes, execDtmcs_takes,
    execBypass_captures, fun s hart op h => execDmi_reports_unavailable s hart h op, execDmi_resumes,
    execDmi_loads_register, execDmi_loads_dtcm, fun s hart n v h _ => execDmi_writes_register s hart n v h,
    fun s hart n h _ => execDmi_reads_register s hart n h, execDebugHalt_halts,
    fun s core v hmay _ => execLehaltWrite_sets s core v hmay⟩

end Sys2Proof.Machine
end

section
/-!
The whole-die reset and the requests for Bells (01 R36, R44): where the statements about them fail.
-/
namespace Sys2Proof.Machine

/-- Power is good, and the last reset phase stands after a Bell self-test that root 0 failed (01 R44). -/
def failedRoot : State :=
  { State.reset with rst := { State.reset.rst with phase := .release, rootsFailed := 1 } }

/-- The root's retirement is event 0x04, the first record on the new Q10. -/
theorem execResetEnd_reports_failedRoot :
    ∃ t, exec .resetEnd failedRoot = .next t ∧ t.ports.eseq = 1 :=
  ⟨_, rfl, by decide⟩

/-- Refutes O1: the ports do not stand as in a fresh reset when the reset's end retires a Bell root, which is reported. -/
theorem not_resetRequestsAndPhases : ¬ Obligations.ResetRequestsAndPhases := by
  intro h
  obtain ⟨-, -, -, -, -, -, -, -, -, -, hend⟩ := h
  obtain ⟨t, ht, -, -, -, -, hports⟩ := hend failedRoot (by decide) rfl
  obtain ⟨u, hu, heseq⟩ := execResetEnd_reports_failedRoot
  obtain rfl : t = u := Host.Outcome.next.inj (ht.symm.trans hu)
  rw [hports] at heseq
  exact absurd heseq (by decide)

/-- The lesson timer is in head mode with no Bell in 640 000 ticks, and the APPLY of its own group waits at the root. -/
def lateTimerApply : State :=
  (((State.reset.setFld .LT_CFG_SRC 0 2).setFld .LT_STAT_HEADMODE 0 1).modGroup 6
    (fun p => { p with st := .applying })).requestApply 0 6 0

set_option maxRecDepth 2000 in
/-- The fallback's own Bell carries the APPLY, which puts a timer that follows a head module back into head mode. -/
theorem execLessonFallback_applies_lateTimerApply :
    ∃ t, exec .lessonFallback lateTimerApply = .next t ∧ t.fld .LT_STAT_HEADMODE = 1 :=
  ⟨_, rfl, by decide⟩

/-- Refutes O2: LESSON_FALLBACK does not leave head mode where its Bell applies the lesson timer's group. -/
theorem not_bellRequestsAndPeriods : ¬ Obligations.BellRequestsAndPeriods := by
  intro h
  obtain ⟨-, -, -, -, -, -, -, -, hfallback⟩ := h
  obtain ⟨t, ht, -, hmode, -⟩ := hfallback lateTimerApply (.inl (by decide)) (by decide)
    (by decide) (by decide)
  obtain ⟨u, hu, hmode'⟩ := execLessonFallback_applies_lateTimerApply
  obtain rfl : t = u := Host.Outcome.next.inj (ht.symm.trans hu)
  exact absurd (hmode.symm.trans hmode') (by decide)

end Sys2Proof.Machine
end

section
/-!
Bells for requests alone, barriers, and the divergence of Bell copies (01 R32 to R37).
-/
namespace Sys2Proof.Machine

/-! ### A Bell leaves the root -/

section
variable (s : State) (w : BellWord)

theorem State.ring_applyQ :
    (s.ring w).bell.applyQ = takeOut (if w.apply then s.nextApply else none) s.bell.applyQ := by
  have hnext (v : Nat) : (s.setFld .BELL_STAT_SEQ 0 v).nextApply = s.nextApply := by simp [State.nextApply]
  simp only [State.ring, hnext]

theorem State.ring_seq : (s.ring w).fld .BELL_STAT_SEQ = w.seq % 2 ^ 16 :=
  State.fld_setFld_self s .BELL_STAT_SEQ 0 w.seq

/-- A Bell with BARRIER begins one at the root (01 R37); the Roll Call's own changes the dictionary too. -/
theorem State.barrierBell_bell (ident : Nat) : (s.barrierBell ident).bell =
    { s.bell with barriers := s.bell.barriers ++ [{ id := ident, waited := (s.barrierBell ident).sitesWaited }] } := by
  unfold State.barrierBell
  dsimp only
  split <;> rfl

/-- What a Bell brings to its listeners changes nothing at the root but the barrier it begins. -/
theorem State.bellRequests_bell : (s.bellRequests w).bell =
    { s.bell with barriers := s.bell.barriers ++
        (if w.barrier then [{ id := w.barrierId, waited := (s.bellRequests w).sitesWaited }] else []) } := by
  have hsame : Same .bell s ((s.when w.apply fun s => s.applyBell w.group w.jointMask).when w.latch fun s =>
      s.bursarLatch w.points s.ts) :=
    Same.whenIf (Same.whenIf (Same.refl _ s) fun u hu => State.applyBell_same u _ _ (by decide) hu)
      fun u hu => State.bursarLatch_same u _ _ (by decide) hu
  have hbell : _ = s.bell := hsame
  unfold State.bellRequests
  dsimp only
  rw [State.when]
  split
  · rw [State.barrierBell_bell, hbell]
  · rw [hbell, List.append_nil]

theorem State.bellRequests_seq : (s.bellRequests w).fld .BELL_STAT_SEQ = s.fld .BELL_STAT_SEQ :=
  State.bellRequests_still (F := .BELL_STAT_SEQ) s w (by decide) rfl

end

theorem execBellAlone_rings (s : State) (w : BellWord)
    (hroot : s.flag .BELL_STAT_ROOT0_OK = true ∨ s.flag .BELL_STAT_ROOT1_OK = true)
    (hw : w = s.nextWord false (s.fld .LT_CFG_SRC = 0)) (hwaits : w.apply = true ∨ w.latch = true ∨ w.barrier = true) :
    ∃ t, exec .bellAlone s = .next t ∧
      t.bell.lastWord = w ∧ t.bell.sent = w.bits ∧ t.fld .BELL_STAT_SEQ = (s.fld .BELL_STAT_SEQ + 1) % 2 ^ 16 ∧
      t.bell.applyQ = takeOut (if w.apply then s.nextApply else none) s.bell.applyQ ∧
      t.bell.barriers = s.bell.barriers ++ (if w.barrier then [{ id := w.barrierId, waited := t.sitesWaited }] else []) := by
  have hrings : s.bellsRing = true := by simpa [State.bellsRing] using hroot
  have hbell : s.bellAlone = (s.ring w).bellRequests w := by
    simp [State.bellAlone, hrings, ← hw, or_assoc, hwaits]
  have hseq : w.seq = (s.fld .BELL_STAT_SEQ + 1) % 2 ^ 16 := by rw [hw]; rfl
  refine ⟨(s.ring w).bellRequests w, congrArg Host.Outcome.next hbell, ?_⟩
  rw [State.bellRequests_bell, State.bellRequests_seq, State.ring_seq, hseq, Nat.mod_mod, ← State.ring_applyQ]
  exact ⟨rfl, rfl, rfl, rfl, rfl⟩

/-! ### Barriers -/

section
variable {s : State} {b : Barrier} {r : List Barrier}

/-- The oldest barrier ends, where it is not the Roll Call's, whose identifier has nine bits. -/
theorem State.barrierEnds_cons (hbar : s.bell.barriers = b :: r) (hid : b.id < 256) (f : State → Barrier → State) :
    s.barrierEnds f = f (State.setFld { s with bell := { s.bell with barriers := r } } .BELL_STAT_BAR_ID 0 b.id) b := by
  have hroll : (b.id == rollCallId) = false := by simp [rollCallId]; omega
  rw [State.barrierEnds, hbar]
  simp only [hroll, State.when, Bool.false_eq_true, if_false]

theorem execBarrierComplete_ends (hbar : s.bell.barriers = b :: r) (hid : b.id < 256) :
    ∃ t, exec .barrierComplete s = .next t ∧
      t.bell.barriers = r ∧ t.fld .BELL_STAT_BAR_DONE = 1 ∧ t.fld .BELL_STAT_BAR_ID = b.id ∧ t.fld .BELL_BART = s.ts := by
  have hident : Fld.width .BELL_STAT_BAR_ID = 8 := rfl
  have htime : Fld.width .BELL_BART = 32 := rfl
  refine ⟨_, congrArg Host.Outcome.next (State.barrierEnds_cons hbar hid _), ?_⟩
  simp [hident, htime, Nat.mod_eq_of_lt hid, State.ts]

theorem execBarrierTimeout_ends (missing : Nat) (hbar : s.bell.barriers = b :: r) (hid : b.id < 256)
    (hwaited : b.waited < 2 ^ 60) :
    ∃ t, exec (.barrierTimeout missing) s = .next t ∧
      t.bell.barriers = r ∧ t.fld .BELL_STAT_BAR_TO = 1 ∧ t.fld .BELL_STAT_BAR_ID = b.id ∧
      t.fld .BELL_MISS0 + 2 ^ 32 * t.fld .BELL_MISS1 = missing &&& b.waited ∧ s.tells t .caretaker 0x05 := by
  have hident : Fld.width .BELL_STAT_BAR_ID = 8 := rfl
  have hlow : Fld.width .BELL_MISS0 = 32 := rfl
  have hhigh : Fld.width .BELL_MISS1 = 32 := rfl
  have hmissing : missing &&& b.waited < 2 ^ 60 := lt_of_le_of_lt Nat.and_le_right hwaited
  refine ⟨_, congrArg Host.Outcome.next (State.barrierEnds_cons hbar hid _), ?_, ?_, ?_, ?_,
    State.emit_tells _ _ _ (by simp) rfl (by simp)⟩
  · simp
  · simp
  · simp [hident, Nat.mod_eq_of_lt hid]
  · simp [hlow, hhigh]
    omega

end

/-! ### Divergence -/

section
variable {s : State} {root : Nat}

/-- The divergences within a second that point to a root, this one among them (01 R32). -/
def State.divergences (s : State) (root : Nat) : List Nat :=
  s.tb :: (if root = 0 then s.bell.div0 else s.bell.div1).filter (fun u => s.tb < u + tickSecond)

/-- A divergence between working roots is counted, reported and remembered. -/
def State.diverged (s : State) (root : Nat) : State :=
  let u := (s.count .BELL_DIV_DIVERGE).event .caretaker 0x04 0 root
  { u with bell := { s.bell with
    div0 := if root = 0 then s.divergences root else s.bell.div0
    div1 := if root = 0 then s.bell.div1 else s.divergences root } }

theorem execBellCopyDivergence_eq (hroot : root < 2) (h0 : s.flag .BELL_STAT_ROOT0_OK = true)
    (h1 : s.flag .BELL_STAT_ROOT1_OK = true) :
    exec (.bellCopyDivergence root) s =
      .next ((s.diverged root).when (decide (3 ≤ (s.divergences root).length)) fun s => s.retireRoot root) := by
  show execBellCopyDivergence root s = _
  have hact : (decide (2 ≤ root) || !s.flag .BELL_STAT_ROOT0_OK || !s.flag .BELL_STAT_ROOT1_OK) = false := by
    simp [h0, h1, hroot]
  unfold execBellCopyDivergence
  rw [hact]
  simp [State.diverged, State.divergences]

/-- The fields that a divergence is about: the bits of the roots and the count. -/
def rootFlds : List Fld := [.BELL_STAT_ROOT0_OK, .BELL_STAT_ROOT1_OK, .BELL_DIV_DIVERGE]

theorem rootOk_mem (root : Nat) : rootOk root ∈ rootFlds := by
  unfold rootOk
  split <;> decide

theorem State.diverged_rootOk (k : Nat) : (s.diverged root).fld (rootOk k) = s.fld (rootOk k) := by
  have hevent : ∀ F ∈ rootFlds, State.emit_writes.testBit F.ctorIdx = false := by decide
  have hcount : rootOk k ≠ .BELL_DIV_DIVERGE := by unfold rootOk; split <;> decide
  exact Still.upd (State.emit_still _ _ _ (hevent _ (rootOk_mem k)) (State.fld_setFld_ne _ _ fun e => hcount e.1))

theorem State.diverged_counts : (s.diverged root).fld .BELL_DIV_DIVERGE = satInc 16 (s.fld .BELL_DIV_DIVERGE) := by
  have hsat : satInc 16 (s.fld .BELL_DIV_DIVERGE) < 2 ^ 16 := by unfold satInc; split <;> omega
  have hwidth : Fld.width .BELL_DIV_DIVERGE = 16 := rfl
  simpa [State.diverged, hwidth] using hsat

theorem State.diverged_tells : s.tells (s.diverged root) .caretaker 0x04 :=
  State.tells_of (State.emit_tells (s' := s.count .BELL_DIV_DIVERGE) .caretaker _ 0x04 (genericPayload_code _ _ _ _) rfl
    (by simp)) rfl

/-- Of the fields of a divergence, retiring a working root writes the root's own bit. -/
theorem State.retireRoot_fld {F : Fld} (hF : F ∈ rootFlds) (hok : s.flag (rootOk root) = true) :
    (s.retireRoot root).fld F = (s.setFld (rootOk root) 0 0).fld F := by
  have hrecord : ∀ F ∈ rootFlds, State.recordRepair_writes.testBit F.ctorIdx = false := by decide
  have hspare : ∀ F ∈ rootFlds, State.consumeSpare_writes.testBit F.ctorIdx = false := by decide
  have hevent : ∀ F ∈ rootFlds, State.emit_writes.testBit F.ctorIdx = false := by decide
  rw [State.retireRoot, if_pos hok]
  exact State.emit_still _ _ _ (hevent F hF)
    (State.consumeSpare_still _ _ (hspare F hF) (State.recordRepair_still _ _ _ _ _ (hrecord F hF) rfl))

theorem execBellCopyDivergence_reports (hroot : root < 2) (h0 : s.flag .BELL_STAT_ROOT0_OK = true)
    (h1 : s.flag .BELL_STAT_ROOT1_OK = true)
    (hfew : ((if root = 0 then s.bell.div0 else s.bell.div1).filter (fun u => s.tb < u + tickSecond)).length < 2) :
    ∃ t, exec (.bellCopyDivergence root) s = .next t ∧
      t.fld .BELL_DIV_DIVERGE = satInc 16 (s.fld .BELL_DIV_DIVERGE) ∧ s.tells t .caretaker 0x04 ∧
      t.flag .BELL_STAT_ROOT0_OK = true ∧ t.flag .BELL_STAT_ROOT1_OK = true := by
  have hthird : decide (3 ≤ (s.divergences root).length) = false := by simp [State.divergences]; omega
  refine ⟨s.diverged root, ?_, State.diverged_counts, State.diverged_tells, ?_, ?_⟩
  · rw [execBellCopyDivergence_eq hroot h0 h1, hthird]
    rfl
  · exact (congrArg (· != 0) (State.diverged_rootOk 0)).trans h0
  · exact (congrArg (· != 0) (State.diverged_rootOk 1)).trans h1

theorem execBellCopyDivergence_retires (hroot : root < 2) (h0 : s.flag .BELL_STAT_ROOT0_OK = true)
    (h1 : s.flag .BELL_STAT_ROOT1_OK = true)
    (hmany : 2 ≤ ((if root = 0 then s.bell.div0 else s.bell.div1).filter (fun u => s.tb < u + tickSecond)).length) :
    ∃ t, exec (.bellCopyDivergence root) s = .next t ∧
      t.fld .BELL_DIV_DIVERGE = satInc 16 (s.fld .BELL_DIV_DIVERGE) ∧ t.flag (rootOk root) = false ∧
      t.flag (rootOk (1 - root)) = true := by
  have hthird : decide (3 ≤ (s.divergences root).length) = true := by simp [State.divergences]; omega
  have hworks (k : Nat) : (s.diverged root).flag (rootOk k) = true := by
    rw [State.flag, State.diverged_rootOk]
    unfold rootOk
    split <;> assumption
  have hother : rootOk (1 - root) ≠ rootOk root := by
    obtain rfl | rfl : root = 0 ∨ root = 1 := by omega
    all_goals decide
  refine ⟨(s.diverged root).retireRoot root, ?_, ?_, ?_, ?_⟩
  · rw [execBellCopyDivergence_eq hroot h0 h1, hthird]
    rfl
  · have hcount : Fld.BELL_DIV_DIVERGE ≠ rootOk root := by unfold rootOk; split <;> decide
    rw [State.retireRoot_fld (by decide) (hworks root), State.fld_setFld_ne _ _ fun e => hcount e.1, State.diverged_counts]
  · rw [State.flag, State.retireRoot_fld (rootOk_mem root) (hworks root), State.fld_setFld_self, Nat.zero_mod]
    rfl
  · rw [State.flag, State.retireRoot_fld (rootOk_mem _) (hworks root), State.fld_setFld_ne _ _ fun e => hother e.1]
    exact hworks _

end

/-- Settles O3, command by command. -/
theorem bellsAndBarriers : Obligations.BellsAndBarriers :=
  ⟨execBellAlone_rings, fun _ _ _ => execBarrierComplete_ends, fun _ _ _ missing => execBarrierTimeout_ends missing,
    fun _ _ => execBellCopyDivergence_reports, fun _ _ => execBellCopyDivergence_retires⟩

end Sys2Proof.Machine
end

section
/-!
What an operation leaves of the Niujor link (19 R450 to R452, R467): the step of the training, what went out on SYNC and on the
data pair, and whether a chain Bell waits. Ports and rings share a part of State with the link, and every event, interrupt and
receive ring changes the rest of it; along the operations of a Bell the link's own fields stay.
-/
namespace Sys2Proof.Machine

/-- The fields of the link. -/
def PortsSt.link (p : PortsSt) : Training × Option Nat × List SyncOut × List Nat × Bool :=
  (p.training, p.hopStart, p.syncOut, p.peerSent, p.bellWaits)

/-- The link of `s` is that of the ports `p`. -/
def Linked (p : PortsSt) (s : State) : Prop := s.ports.link = p.link

section
variable {p : PortsSt} {s : State}

theorem Linked.of_ports {t : State} (h : Linked p s) (e : t.ports = s.ports) : Linked p t := (congrArg PortsSt.link e).trans h

theorem Linked.ite {c : Prop} [Decidable c] {a b : State} (ha : Linked p a) (hb : Linked p b) :
    Linked p (if c then a else b) := by
  split <;> assumption

theorem Linked.when {b : Bool} {f : State → State} (h : Linked p s) (hf : ∀ u, Linked p u → Linked p (f u)) :
    Linked p (s.when b f) :=
  Linked.ite (hf s h) h

theorem Linked.each {α : Type} {f : State → α → State} {l : List α} (h : Linked p s)
    (hf : ∀ u x, Linked p u → Linked p (f u x)) : Linked p (s.each l f) := by
  induction l generalizing s with
  | nil => exact h
  | cons x l ih => exact ih (hf s x h)

/-- A record update that leaves the ports alone. -/
theorem Linked.upd {q regs tb fc rst bell fab dup sec dict tut sat ct clk sar integ lib sd trip pwm gate eng ship bur pf}
    (h : Linked p s) :
    Linked p ⟨q, regs, tb, fc, rst, bell, fab, dup, sec, s.ports, dict, tut, sat, ct, clk, sar, integ, lib, sd, trip, pwm, gate,
      eng, ship, bur, pf⟩ := h

theorem Linked.setFld (h : Linked p s) (f : Fld) (i v : Nat) : Linked p (s.setFld f i v) := h

theorem Linked.modGroup (h : Linked p s) (g : Nat) (f : Group → Group) : Linked p (s.modGroup g f) := h

theorem Linked.answer (h : Linked p s) (code : Nat) : Linked p (s.answer code) := h

theorem Linked.modEngine (h : Linked p s) (n : Nat) (f : Engine → Engine) : Linked p (s.modEngine n f) := h

theorem Linked.raise (h : Linked p s) (w : Wing) (src : Nat) : Linked p (s.raise w src) := h.of_ports (s.raise_ports w src)

/-! ### Events, spares and repairs -/

theorem Linked.emit (h : Linked p s) (b : Blk) (payload : Nat) : Linked p (s.emit b payload) := by
  unfold State.emit
  dsimp only
  refine Linked.ite (Linked.when ?_ fun u hu => hu.of_ports (u.raiseRing_ports 10)) ?_ <;> exact h

theorem Linked.noteFloor (h : Linked p s) (l : Nat) (was : Bool) : Linked p (s.noteFloor l was) :=
  Linked.when h fun _ hu => Linked.emit (by exact hu) _ _

theorem Linked.setRemain (h : Linked p s) (l n : Nat) : Linked p (s.setRemain l n) := Linked.noteFloor (by exact h) _ _

theorem Linked.recordRepair (h : Linked p s) (kind unit loc spare : Nat) : Linked p (s.recordRepair kind unit loc spare) := by
  unfold State.recordRepair
  dsimp only
  exact Linked.ite h (Linked.emit (by exact h) _ _)

theorem Linked.violation (h : Linked p s) (init addr : Nat) : Linked p (s.violation init addr) := by
  have hevent : Linked p (((s.setFld .SEC_VIOL_INIT 0 init).setFld .SEC_VIOLA 0 addr).secEvent 0xB2 0 0 0 addr) :=
    Linked.emit (by exact h) _ _
  unfold State.violation
  exact Linked.ite h hevent

/-! ### The Bursar takes a word -/

theorem Linked.burGap (h : Linked p s) (q x : Nat) : Linked p (s.burGap q x) := by
  unfold State.burGap
  dsimp only
  split
  · exact Linked.ite (Linked.emit (by exact h) _ _) h
  · exact Linked.ite h (Linked.emit (by exact h) _ _)

theorem Linked.takeVolt (h : Linked p s) (q x : Nat) (w : SampleWord) : Linked p (s.takeVolt q x w) :=
  Linked.burGap (by exact h) q x

theorem Linked.takeAmp (h : Linked p s) (q x : Nat) (w : SampleWord) : Linked p (s.takeAmp q x w) :=
  Linked.burGap (by exact h) q x

theorem Linked.bursarTakes (h : Linked p s) (w : SampleWord) : Linked p (s.bursarTakes w) := by
  unfold State.bursarTakes
  refine Linked.ite h (Linked.each h fun u q hu => Linked.ite hu (Linked.each hu fun v x hv => ?_))
  exact (hv.when fun _ h => h.takeVolt q x w).when fun _ h => h.takeAmp q x w

/-! ### The rings and the captures -/

theorem Linked.finish (h : Linked p s) (q i : Nat) (d : Desc) : Linked p (s.finish q i d) := by
  have hput (d' : Desc) : Linked p (s.putDescriptor q i d') :=
    h.of_ports (State.putDescriptor_same (P := .ports) (s0 := s) s q i d' (by decide) rfl)
  unfold State.finish
  dsimp only
  refine Linked.when (Linked.when ?_ fun u hu => hu.of_ports (u.raiseRing_ports q)) fun u hu => Linked.emit (by exact hu) _ _
  exact hput _

theorem Linked.produce (h : Linked p s) (q : Nat) (d : Desc) (data : List Nat) (ts : Nat) :
    Linked p (s.produce q d data ts) := by
  unfold State.produce
  dsimp only
  refine Linked.ite (Linked.finish ?_ _ _ _)
    (Linked.ite (Linked.finish (Linked.violation ?_ _ _) _ _ _) (Linked.finish ?_ _ _ _))
  · exact h
  · exact h
  · exact h.of_ports (State.satWrite_same (P := .ports) (s0 := s) _ _ _ (by decide) rfl)

theorem Linked.setCap (h : Linked p s) (a : Nat) (c : Capture) : Linked p (s.setCap a c) := by
  unfold Linked State.setCap
  dsimp only
  split <;> exact h

theorem Linked.captureDone (h : Linked p s) (a : Nat) (closed : Bool) : Linked p (s.captureDone a closed) := by
  unfold State.captureDone
  dsimp only
  split
  · exact Linked.of_ports ((h.setCap a {}).produce (11 + a) _ _ _)
      (State.streamSend_same (P := .ports) _ _ _ _ _ (by decide) (Same.refl _ _))
  · exact h.setCap a _

theorem Linked.capture (h : Linked p s) (a : Nat) (w : SampleWord) : Linked p (s.capture a w) := by
  have hdone (b : Bool) (c : Capture) : Linked p ((s.setCap a c).when b (fun u => u.captureDone a false)) :=
    Linked.when (h.setCap a c) fun u hu => hu.captureDone a false
  unfold State.capture
  dsimp only
  refine Linked.ite (Linked.ite (h.setCap a _) ?_) h
  split <;> exact (hdone _ _).setCap a _

/-! ### The fabric and the pads -/

theorem Linked.deliver (h : Linked p s) (w : SampleWord) : Linked p (s.deliver w) := by
  unfold State.deliver
  refine Linked.capture (Linked.capture (Linked.each (Linked.bursarTakes (by exact h) w) fun u e hu => ?_) 0 w) 1 w
  exact hu.of_ports (State.subscribe_same (P := .ports) (s0 := u) u w e.1 e.2 (by decide) rfl)

theorem Linked.offer (h : Linked p s) (w : SampleWord) (free : Bool) : Linked p (s.offer w free) := by
  have hready (l r : List SampleWord) :
      Linked p (State.each { s with fab := { s.fab with waiting := r } } l State.deliver) :=
    Linked.each h fun u x hu => hu.deliver x
  unfold State.offer
  exact Linked.ite ((hready _ _).deliver w) (Linked.ite (hready _ _) (Linked.emit (by exact hready _ _) _ _))

theorem Linked.edgeRecord (h : Linked p s) (m kind inst : Nat) (tripf carry : Bool) :
    Linked p (s.edgeRecord m kind inst tripf carry) :=
  Linked.when h fun _ hu => hu.offer _ true

theorem Linked.setSide (h : Linked p s) (m : Nat) (low lvl : Bool) (inst : Nat) (tripf carry : Bool) :
    Linked p (s.setSide m low lvl inst tripf carry) := by
  unfold State.setSide
  exact Linked.ite h (Linked.when (Linked.edgeRecord (by exact h) _ _ _ _ _) fun _ hu => hu)

theorem Linked.padsOff (h : Linked p s) (m : Nat) (mode : PadMode) (tripf : Bool) : Linked p (s.padsOff m mode tripf) :=
  Linked.setSide (Linked.setSide (by exact h) _ _ _ _ _ _) _ _ _ _ _ _

theorem Linked.stage1 (h : Linked p s) (k m : Nat) (tripf : Bool) : Linked p (s.stage1 k m tripf) :=
  Linked.setSide (Linked.setSide (by exact h) _ _ _ _ _ _) _ _ _ _ _ _

theorem Linked.legOff (h : Linked p s) (k : Nat) (tripf : Bool) : Linked p (s.legOff k tripf) :=
  Linked.upd (Linked.each h fun _ m hu => hu.stage1 k m tripf)

theorem Linked.putDown (h : Linked p s) (m : Nat) (mode : PadMode) (tripf : Bool) : Linked p (s.putDown m mode tripf) := by
  have hoff : Linked p (if s.staysDown m mode then s else s.padsOff m mode tripf) := Linked.ite h (h.padsOff m mode tripf)
  unfold State.putDown
  split
  case h_1 => exact hoff
  case h_2 k _ => exact Linked.ite h (Linked.ite (h.legOff k tripf) hoff)

theorem Linked.settlePads (h : Linked p s) : Linked p s.settlePads :=
  Linked.each h fun _ m hu =>
    Linked.ite hu (Linked.ite (hu.putDown m .low false) (Linked.ite (hu.putDown m .safe true) hu))

/-! ### Trips, modules and gate responses -/

theorem Linked.settleTrips (h : Linked p s) : Linked p s.settleTrips := by
  refine Linked.settlePads (Linked.each (by exact h) fun u m hu => ?_)
  have hset (c : Bool) : Linked p (u.when c fun v => v.setFld .PWM_STAT_TRIPL m 1) := Linked.when hu fun _ hv => hv
  exact hset _

theorem Linked.latchIfTripping (h : Linked p s) (c : Nat) : Linked p (s.latchIfTripping c) :=
  Linked.ite (Linked.settleTrips (by exact h)) h

theorem Linked.setLevel (h : Linked p s) (c : Nat) (level : Int) : Linked p (s.setLevel c level) :=
  Linked.latchIfTripping (by exact h) c

theorem Linked.safeLevels (h : Linked p s) (m : Nat) : Linked p (s.safeLevels m) :=
  Linked.ite ((h.setSide _ _ _ _ _ _).setSide _ _ _ _ _ _) h

theorem Linked.clearOuten (h : Linked p s) (m : Nat) : Linked p (s.clearOuten m) :=
  Linked.when (by exact h) fun _ hu => hu.putDown m .low false

theorem Linked.stopCounter (h : Linked p s) (m : Nat) : Linked p (s.stopCounter m) :=
  Linked.clearOuten (s := ((s.setFld .PWM_RUN_CNT_EN m 0).setFld .PWM_STAT_RUNNING m 0).setFld .PWM_RUN_ARM m 0) h m

theorem Linked.runHeld (h : Linked p s) (e : Nat × Bool) : Linked p (s.runHeld e) :=
  Linked.ite (Linked.ite (h.emit _ _) h)
    (Linked.ite h (h.of_ports (State.startCounter_same (P := .ports) (s0 := s) s e.1 (by decide) rfl)))

theorem Linked.shutDone (h : Linked p s) (ms : List Nat) : Linked p (s.shutDone ms) := by
  unfold State.shutDone
  dsimp only
  refine Linked.each ?_ fun _ e hu => hu.runHeld e
  exact (Linked.each (Linked.each h fun _ _ hu => hu) fun u m hu => Linked.when hu fun v hv =>
    Linked.stopCounter (by exact hv) m)

theorem Linked.shutdown (h : Linked p s) (targets : Nat) (stop : Bool) : Linked p (s.shutdown targets stop) := by
  unfold State.shutdown
  dsimp only
  refine Linked.shutDone (Linked.when (Linked.each h fun u m hu => Linked.clearOuten ?_ m) fun _ hu => ?_) _
  · exact hu
  · exact hu

theorem Linked.runEntry (h : Linked p s) (i affected : Nat) : Linked p (s.runEntry i affected) := by
  unfold State.runEntry
  dsimp only
  refine Linked.ite h (Linked.shutdown (Linked.when (Linked.when (Linked.emit ?_ _ _) fun _ hu => ?_) fun _ hu =>
    Linked.each hu fun _ w hv => hv.raise w 5) _ _)
  · exact h
  · exact hu

/-! ### Function groups -/

theorem Linked.sarLeave (h : Linked p s) : Linked p s.sarLeave := by
  unfold State.sarLeave
  dsimp only
  refine Linked.when (Linked.upd (Linked.setFld (Linked.each h fun u k hu => Linked.when ?_ fun _ hv => hv.emit _ _) _ _ _))
    fun u hu => hu.of_ports (State.abandonStep_same (P := .ports) (s0 := u) u (by decide) rfl)
  exact hu

theorem Linked.enterRecess (h : Linked p s) (g : Nat) : Linked p (s.enterRecess g) := by
  unfold State.enterRecess
  refine Linked.ite ?_ (Linked.when (Linked.when ?_ fun _ hu => hu.sarLeave) fun u hu =>
    hu.of_ports (State.modLeave_same (P := .ports) (s0 := u) u (by decide) rfl))
  · exact h
  · exact h

theorem Linked.groupAct (h : Linked p s) (g cmd : Nat) : Linked p (s.groupAct g cmd) := by
  unfold State.groupAct
  dsimp only
  split
  case h_1 => exact Linked.ite (h.answer _) (((h.enterRecess g).modGroup g _).answer 0)
  case h_9 => exact h.answer _
  all_goals exact Linked.answer (by exact h) 0

theorem Linked.tell (h : Linked p s) (a : Asker) (code : Nat) (data : List Nat) : Linked p (s.tell a code data) :=
  h.of_ports (State.tell_same (P := .ports) (s0 := s) s a code data (by decide) rfl)

theorem Linked.heldCommand (h : Linked p s) (g : Nat) (c : Nat × Option Asker) : Linked p (s.heldCommand g c) := by
  unfold State.heldCommand
  dsimp only
  split
  case h_3 => exact Linked.ite (h.groupAct g c.1) (Linked.each (h.groupAct g c.1) fun _ a hu => hu.tell a _ _)
  all_goals exact h

theorem Linked.releaseHeld (h : Linked p s) (g : Nat) : Linked p (s.releaseHeld g) :=
  Linked.each (s := s.modGroup g fun p => { p with held := [], deferred := false }) h fun _ c hu => hu.heldCommand g c

theorem Linked.settleEntering (h : Linked p s) : Linked p s.settleEntering :=
  Linked.each h fun u g hu => Linked.ite
    (Linked.releaseHeld (s := u.modGroup g fun p => { p with st := .recess, pend := [], pendVars := [] }) hu g) hu

/-! ### The engines at a Bell -/

theorem Linked.engStore (h : Linked p s) (n : Nat) (l : List (Nat × Nat)) : Linked p (s.engStore n l) :=
  Linked.each h fun _ _ hu => Linked.ite hu.upd (Linked.ite hu.upd (Linked.emit (hu.setFld _ _ _) _ _))

theorem Linked.settleHeld (h : Linked p s) (n : Nat) : Linked p (s.settleHeld n) := by
  unfold State.settleHeld
  dsimp only
  refine Linked.of_ports (Linked.each (l := (s.engine n).held) (s := s.modEngine n fun e => { e with held := [] }) h
    fun u w hu => hu.engStore n w.2)
    (State.settleLate_same (P := .ports) _ n (by decide) (Same.refl _ _))

theorem Linked.rollback (h : Linked p s) (n : Nat) : Linked p (s.rollback n) :=
  Linked.settleHeld (Linked.modEngine (Linked.each h fun _ _ hu => hu.upd) _ _) n

theorem Linked.abandonRun (h : Linked p s) (n : Nat) : Linked p (s.abandonRun n) :=
  ((h.of_ports (State.stopRun_same (P := .ports) (s0 := s) s n (by decide) rfl)).rollback n).settleEntering

theorem Linked.overrun (h : Linked p s) (n : Nat) : Linked p (s.overrun n) := by
  have hstop : Linked p ((s.setFld .LE_FLAGS_PC n (s.engine n).pc).abandonRun n) := (h.setFld _ _ _).abandonRun n
  unfold State.overrun
  dsimp only
  refine Linked.when (Linked.emit ?_ _ _) fun u hu => ?_
  · exact (hstop.setFld _ _ _).setFld _ _ _
  · exact ((Linked.emit (hu.setFld _ _ _) _ _).runEntry _ _).modEngine _ _

theorem Linked.reserveGone (h : Linked p s) (w : Wing) : Linked p (s.reserveGone w) :=
  Linked.when (h.emit _ _) fun _ hu => (hu.setFld .HP_STAT_HOREQ 0 1).raise w 6

theorem Linked.setCopy (h : Linked p s) (w : Wing) (n : Option Nat) (ready : Bool) : Linked p (s.setCopy w n ready) := by
  cases w <;> exact h

theorem Linked.retireEngine (h : Linked p s) (n : Nat) : Linked p (s.retireEngine n) := by
  have hstop (c : Prop) [Decidable c] : Linked p (if c then s.abandonRun n else s) := Linked.ite (h.abandonRun n) h
  unfold State.retireEngine
  dsimp only
  refine Linked.ite h (Linked.ite ?_ (Linked.ite ?_ ?_))
  · refine Linked.reserveGone (Linked.setCopy (Linked.recordRepair (Linked.setFld (Linked.setFld ?_ _ _ _) _ _ _)
      _ _ _ _) _ _ _) _
    exact (hstop _).emit _ _
  · refine Linked.reserveGone (Linked.recordRepair (Linked.setFld ?_ _ _ _) _ _ _ _) _
    exact (hstop _).emit _ _
  · refine Linked.setCopy (Linked.setFld (Linked.setRemain (Linked.recordRepair (Linked.setFld ?_ _ _ _) _ _ _ _)
      _ _) _ _ _) _ _ _
    exact (hstop _).emit _ _

theorem Linked.substService (h : Linked p s) (w : Wing) : Linked p (s.substService w) := by
  unfold State.substService
  split
  · refine Linked.ite (Linked.emit (Linked.setCopy ?_ _ _ _) _ _) h
    exact h.setFld _ _ _
  · exact h

theorem Linked.enginesEnd (h : Linked p s) : Linked p s.enginesEnd := by
  unfold State.enginesEnd
  dsimp only
  refine Linked.substService (Linked.substService (Linked.each (Linked.of_ports (Linked.upd (Linked.each h fun u n hu => ?_))
    (State.stagingAtBell_same (P := .ports) _ (by decide) (Same.refl _ _))) fun u n hu => ?_) _) _
  · exact Linked.ite (hu.overrun n) hu
  · exact Linked.ite ((hu.modEngine n _).retireEngine n) (hu.modEngine n _)

theorem Linked.haltEngines (h : Linked p s) : Linked p s.haltEngines := by
  unfold State.haltEngines
  dsimp only
  exact Linked.settlePads (Linked.upd (Linked.each h fun _ n hu => hu.modEngine n _))

/-! ### Snapshots and handovers -/

theorem Linked.checkHandover (h : Linked p s) : Linked p s.checkHandover := by
  unfold State.checkHandover
  split
  · exact Linked.when h fun u hu => Linked.emit (s := u.setFld .HP_STAT_REFUSE 0 _) hu _ _
  · exact h

theorem Linked.snapshotBell (h : Linked p s) (handover : Bool) : Linked p (s.snapshotBell handover) := by
  unfold State.snapshotBell
  split
  · exact Linked.ite h (Linked.ite (Linked.emit (by exact h) _ _) h)
  · exact h

theorem Linked.handoverBell (h : Linked p s) : Linked p s.handoverBell := by
  unfold State.handoverBell
  dsimp only
  split
  · refine Linked.ite h.checkHandover (Linked.settlePads (Linked.of_ports (h.checkHandover.snapshotBell true) ?_))
    exact State.setWing_same (P := .ports) _ _ _ (by decide) rfl
  · exact h.checkHandover

/-! ### The hooks of APPLY -/

theorem Linked.modWc (h : Linked p s) (c : Nat) (f : CompChan → CompChan) : Linked p (s.modWc c f) := h

theorem Linked.modChan (h : Linked p s) (n : Nat) (f : ModChan → ModChan) : Linked p (s.modChan n f) := h

theorem Linked.compApplied (h : Linked p s) (oldMode : List Nat) : Linked p (s.compApplied oldMode) := by
  unfold State.compApplied
  dsimp only
  refine Linked.settleTrips (Linked.each h fun u c hu => Linked.when ?_ fun v hv => hv.setLevel c _)
  refine Linked.ite (hu.modWc c _) (Linked.ite ?_ (Linked.ite (hu.modWc c _) ?_))
  · exact ((hu.modWc c _).setFld _ _ _).modWc c _
  · exact ((hu.modWc c _).setFld _ _ _).modWc c _

theorem Linked.modApplied (h : Linked p s) (chEn : Nat) (before : List (Nat × Nat × Nat × Nat)) :
    Linked p (s.modApplied chEn before) := by
  unfold State.modApplied
  dsimp only
  refine Linked.settleTrips (Linked.each h fun u n hu => Linked.when (Linked.when (Linked.when (hu.modChan n _) fun _ hv => ?_)
    fun _ hv => ?_) fun v hv => hv.of_ports (State.guardAssert_same (P := .ports) v n true (by decide) (Same.refl _ _)))
  · exact hv.modChan n _
  · exact hv.modChan n _

theorem Linked.modeApplied (h : Linked p s) (was : Bool) : Linked p (s.modeApplied was) := by
  unfold State.modeApplied
  dsimp only
  refine Linked.ite h (Linked.ite ?_ (Linked.setRemain ?_ _ _))
  all_goals
    refine Linked.upd (Linked.each h fun u w hu => Linked.when hu fun v hv => hv.of_ports ?_)
    exact State.setWing_same (P := .ports) _ _ _ (by decide) (State.setLease_same (P := .ports) _ _ _ (by decide)
      (State.setPass_same (P := .ports) _ _ _ (by decide) (Same.refl _ _)))

theorem Linked.bursarApplied (h : Linked p s) (was : State) : Linked p (s.bursarApplied was) := by
  unfold State.bursarApplied
  dsimp only
  refine Linked.each h fun u q hu => Linked.ite hu (Linked.upd ?_)
  split
  · exact Linked.ite hu (Linked.each hu.upd fun _ k hv => hv.setFld _ _ _)
  · exact hu

theorem Linked.applyHook (h : Linked p s) (was : State) (g : Nat) : Linked p (s.applyHook was g) := by
  unfold State.applyHook
  dsimp only
  split
  case h_1 => exact h.of_ports (State.sarApplied_same (P := .ports) s _ (by decide) (Same.refl _ _))
  case h_2 => exact h.modApplied _ _
  case h_3 => exact h.compApplied _
  case h_4 => exact Linked.each h fun _ m hu => (hu.setFld _ _ _).safeLevels m
  case h_5 => exact Linked.upd (h.setFld _ _ _)
  case h_6 => exact Linked.when (Linked.each h fun _ n hu => hu.modEngine n _) fun _ hu => hu.upd
  case h_7 => exact Linked.when (Linked.each h fun _ n hu => hu.modEngine n _) fun _ hu => hu.upd
  case h_8 => exact h.upd
  case h_9 => exact h.upd
  case h_10 => exact h.upd
  case h_11 => exact h.bursarApplied was
  case h_12 => exact h.modeApplied _
  case h_13 => exact h

/-! ### The Library takes a record -/

theorem Linked.finishCmd (h : Linked p s) (q i len code : Nat) : Linked p (s.finishCmd q i len code) := by
  unfold State.finishCmd
  split
  · exact h
  · exact h.finish _ _ _

theorem Linked.burLate (h : Linked p s) (payload : Nat) : Linked p (s.burLate payload) :=
  Linked.ite (h.emit _ _) h.upd

theorem Linked.refuseBurst (h : Linked p s) (r : LibReq) : Linked p (s.refuseBurst r) := by
  have hrefused : Linked p (((s.setFld .CT_STAT_REFUSED 0 1).count .LIB_REFUSE_REFUSED).libEvent 0xA5 r.area 0 0) :=
    ((h.setFld _ _ _).setFld _ _ _).emit _ _
  have hring (u : State) (hu : Linked p u) :
      Linked p (match r.ring with | some i => u.finishCmd 13 i 0 0x07 | none => u) := by
    split
    · exact hu.finishCmd _ _ _ _
    · exact hu
  unfold State.refuseBurst
  dsimp only
  refine Linked.when (Linked.when (hring _ (Linked.ite ?_ hrefused)) fun _ hu => hu.emit _ _)
    fun _ hu => (hu.setFld _ _ _).burLate _
  exact hrefused.upd

theorem Linked.admitBurst (h : Linked p s) (classes : List Nat) (byCaretaker : Bool) :
    Linked p (s.admitBurst classes byCaretaker) := by
  unfold State.admitBurst
  dsimp only
  exact Linked.ite h.upd (Linked.when ((h.setFld _ _ _).emit _ _) fun u hu =>
    hu.of_ports (State.writeFinal_same (P := .ports) u (by decide) (Same.refl _ _)))

theorem Linked.startRecord (h : Linked p s) (r : LibReq) (byCaretaker : Bool) : Linked p (s.startRecord r byCaretaker) := by
  unfold State.startRecord
  split
  case h_1 => exact h.refuseBurst r
  case h_2 b u hplace =>
    have hu : Linked p u := h.of_ports (State.placeRecord_same (P := .ports) s r (by decide) (Same.refl _ _) (b, u) hplace)
    refine Linked.ite (Linked.upd (Linked.when (hu.admitBurst _ _) fun v hv => Linked.setFld ?_ _ _ _)) ?_
    · exact hv.of_ports (State.leaveOctal_same (P := .ports) v (by decide) (Same.refl _ _))
    · exact (h.admitBurst _ _).refuseBurst r

theorem Linked.startWork (h : Linked p s) (r : LibReq) (b : Nat) : Linked p (s.startWork r b) :=
  Linked.ite (Linked.upd (h.admitBurst _ _)) ((h.admitBurst _ _).refuseBurst r)

theorem Linked.startBurst (h : Linked p s) (r : LibReq) (byCaretaker : Bool) : Linked p (s.startBurst r byCaretaker) := by
  unfold State.startBurst
  split
  · exact Linked.ite h.upd (h.startWork r _)
  · exact Linked.ite h.upd (h.startWork r _)
  · split
    · exact h.startRecord r byCaretaker
    · exact Linked.ite (h.refuseBurst r) (h.upd.startWork _ _)

theorem Linked.serveN (n : Nat) (h : Linked p s) : Linked p (s.serveN n) := by
  induction n generalizing s with
  | zero => exact h
  | succ n ih =>
    unfold State.serveN
    dsimp only
    refine Linked.ite h ?_
    split
    · exact h
    · exact ih (h.upd.startBurst _ _)

theorem Linked.storeRecord (h : Linked p s) (g seq : Nat) (entries : List Nat) : Linked p (s.storeRecord g seq entries) := by
  unfold State.storeRecord State.libSubmit
  dsimp only
  exact Linked.serveN _ (Linked.upd (Linked.when (h.modGroup g _).upd fun _ hu => hu.emit _ _))

/-! ### APPLY -/

theorem Linked.tellAskers (h : Linked p s) (g : Nat) : Linked p (s.tellAskers g) :=
  Linked.modGroup (Linked.each h fun _ a hu => hu.tell a _ _) g _

theorem Linked.applyGroup (h : Linked p s) (g : Nat) : Linked p (s.applyGroup g) := by
  have htaken : Linked p (s.takePending g) :=
    h.of_ports (State.takePending_same (P := .ports) s g (by decide) (Same.refl _ _))
  have hmirror (u : State) (hu : Linked p u) (pend old : SMap) : Linked p (u.mirrorSet g pend old) :=
    hu.of_ports (State.mirrorSet_same (P := .ports) u g pend old (by decide) (Same.refl _ _))
  unfold State.applyGroup
  dsimp only
  refine Linked.ite h (Linked.releaseHeld (Linked.storeRecord (Linked.modGroup (Linked.tellAskers (Linked.answer ?_ _) g) g _)
    _ _ _) g)
  exact Linked.when (Linked.modGroup (Linked.when (htaken.applyHook s g) fun u hu => hmirror u hu _ _) g _)
    fun _ hu => hu.emit _ _

theorem Linked.applyBell (h : Linked p s) (group mask : Nat) : Linked p (s.applyBell group mask) := by
  unfold State.applyBell
  refine Linked.ite (Linked.storeRecord (Linked.emit (Linked.upd (Linked.each h fun _ g hu => hu.applyGroup g)) _ _) _ _ _) ?_
  exact Linked.ite ((h.applyGroup group).storeRecord _ _ _) h

/-! ### The Bell -/

theorem Linked.bellRequests (h : Linked p s) (w : BellWord) : Linked p (s.bellRequests w) := by
  refine Linked.when (Linked.when (Linked.when h fun _ hu => hu.applyBell _ _) fun u hu => ?_) fun u hu => ?_
  · exact hu.of_ports (State.bursarLatch_same (P := .ports) u _ _ (by decide) (Same.refl _ _))
  · exact hu.of_ports (State.barrierBell_same (P := .ports) u _ (by decide) (Same.refl _ _))

/-- A PERIOD Bell between its leaving the root and the chain Bell: the runs of the period end, takeover and handover act, and
the requests that ride are carried out. -/
def State.periodActs (s : State) (w : BellWord) : State :=
  let s := s.enginesEnd.settleEntering.takeoverBell
  let was := s.dup.handover
  let s := s.handoverBell
  let handed := was != .copying && s.dup.handover == .copying
  let s := s.bellRequests { w with latch := false, barrier := false }
  let s := s.when (s.fld .LT_COUNT % s.fld .BELL_CFG_CADENCE = 0 && !handed) (fun s => s.snapshotBell false)
  let s := s.bellRequests { w with apply := false }
  ((s.raise .a 8).raise .b 8).haltEngines

/-- The word of the PERIOD Bell that a state issues next. -/
def State.periodWord (s : State) : BellWord := { s.nextWord true true with snapshot := s.snapshotDue }

/-- With a root in service, a PERIOD Bell ends with the chain Bell, the triggers, and runs due unless a handover copies. -/
theorem State.periodBell_eq (h : s.bellsRing = true) : ∃ c : Bool,
    s.periodBell =
      let t := ((s.countBell.ring s.countBell.periodWord).periodActs s.countBell.periodWord).chainOut.bellOccurs
      if c then t else t.enginesDue (List.range 12) := by
  unfold State.periodBell State.periodActs State.periodWord
  rw [if_neg (by simp [h])]
  exact ⟨_, rfl⟩

theorem Linked.periodActs (h : Linked p s) (w : BellWord) : Linked p (s.periodActs w) := by
  have htaken (t : State) (ht : Linked p t) : Linked p t.takeoverBell :=
    ht.of_ports (State.takeoverBell_same (P := .ports) t (by decide) (Same.refl _ _))
  unfold State.periodActs
  dsimp only
  exact Linked.haltEngines (Linked.raise (Linked.raise (Linked.bellRequests (Linked.when (Linked.bellRequests
    (Linked.handoverBell (htaken _ h.enginesEnd.settleEntering)) _) fun _ hu => hu.snapshotBell _) _) _ _) _ _)

/-- The fields that the acts of a PERIOD Bell can write, as bits. -/
def State.periodActs_writes : Nat :=
  State.enginesEnd_writes ||| State.settleEntering_writes ||| State.takeoverBell_writes ||| State.handoverBell_writes |||
    State.bellRequests_writes ||| State.snapshotBell_writes ||| State.raise_writes ||| State.haltEngines_writes

theorem State.periodActs_still {F : Fld} {V : Nat} (w : BellWord) (hw : State.periodActs_writes.testBit F.ctorIdx = false)
    (h : Still F 0 V s) : Still F 0 V (s.periodActs w) := by
  unfold State.periodActs
  dsimp only
  refine State.haltEngines_still _ (Wr.sub (by decide) hw) (State.raise_still _ _ _ (Wr.sub (by decide) hw)
    (State.raise_still _ _ _ (Wr.sub (by decide) hw) (State.bellRequests_still _ _ (Wr.sub (by decide) hw)
    (Still.whenIf (State.bellRequests_still _ _ (Wr.sub (by decide) hw) (State.handoverBell_still _ (Wr.sub (by decide) hw)
    (State.takeoverBell_still _ (Wr.sub (by decide) hw) (State.settleEntering_still _ (Wr.sub (by decide) hw)
    (State.enginesEnd_still _ (Wr.sub (by decide) hw) h))))) fun t ht => ?_))))
  exact State.snapshotBell_still t false (Wr.sub (by decide) hw) ht

theorem State.periodBell_seq (h : s.bellsRing = true) :
    s.periodBell.fld .BELL_STAT_SEQ = (s.fld .BELL_STAT_SEQ + 1) % 2 ^ 16 := by
  have hcount : s.countBell.fld .BELL_STAT_SEQ = s.fld .BELL_STAT_SEQ :=
    State.countBell_still (F := .BELL_STAT_SEQ) s (by decide) rfl
  have hring : Still .BELL_STAT_SEQ 0 ((s.fld .BELL_STAT_SEQ + 1) % 2 ^ 16) (s.countBell.ring s.countBell.periodWord) := by
    rw [Still, State.ring_seq, ← hcount]
    exact Nat.mod_mod _ _
  have hchain := State.bellOccurs_still _ (State.chainOut_still _
    (State.periodActs_still s.countBell.periodWord (by decide) hring))
  obtain ⟨c, hc⟩ := State.periodBell_eq h
  rw [hc]
  exact Still.ite hchain (State.enginesDue_still _ _ hchain)

/-- A unit that is not the origin sends no chain Bell of its own (01 R41). -/
theorem State.chainOut_follower (h : s.flag .BELL_COMP_ORIGIN = false) : s.chainOut = s := by
  simp [State.chainOut, h]

theorem Linked.periodBell (h : Linked p s) (hfollows : s.flag .BELL_COMP_ORIGIN = false) : Linked p s.periodBell := by
  cases hroot : s.bellsRing with
  | false => simpa [State.periodBell, hroot] using h
  | true =>
    obtain ⟨c, hc⟩ := State.periodBell_eq hroot
    have hsent : Linked p (s.countBell.ring s.countBell.periodWord) :=
      h.of_ports (State.ring_same (P := .ports) _ _ (by decide)
        (State.countBell_same (P := .ports) _ (by decide) (Same.refl _ _)))
    have horigin : ((s.countBell.ring s.countBell.periodWord).periodActs s.countBell.periodWord).flag .BELL_COMP_ORIGIN =
        s.flag .BELL_COMP_ORIGIN :=
      congrArg (· != 0) (State.periodActs_still _ (by decide) (State.ring_still _ _ (by decide)
        (State.countBell_still (F := .BELL_COMP_ORIGIN) (I := 0) s (by decide) rfl)))
    rw [hc, State.chainOut_follower (horigin.trans hfollows)]
    have hdone := (hsent.periodActs s.countBell.periodWord).of_ports
      (State.bellOccurs_same (P := .ports) _ (by decide) (Same.refl _ _))
    exact Linked.ite hdone (hdone.of_ports (State.enginesDue_same (P := .ports) _ _ (by decide) (Same.refl _ _)))

theorem Linked.plainBell (h : Linked p s) : Linked p s.plainBell :=
  Linked.ite h (Linked.bellRequests (h.of_ports (State.ring_same (P := .ports) _ _ (by decide) (Same.refl _ _))) _)

theorem State.plainBell_seq (h : s.bellsRing = true) :
    s.plainBell.fld .BELL_STAT_SEQ = (s.fld .BELL_STAT_SEQ + 1) % 2 ^ 16 := by
  have hbell (w : BellWord) : ((s.ring w).bellRequests w).fld .BELL_STAT_SEQ = w.seq % 2 ^ 16 := by
    rw [State.bellRequests_seq, State.ring_seq]
  unfold State.plainBell
  rw [h]
  exact (hbell _).trans (Nat.mod_mod _ _)

/-- A chain Bell goes out on SYNC, whichever Bell this unit emits with it. -/
theorem Linked.chainHere (h : Linked p (s.syncSend [.bell])) (hfollows : s.flag .BELL_COMP_ORIGIN = false) :
    Linked p s.chainHere :=
  Linked.ite (Linked.periodBell (s := ((s.syncSend [.bell]).fresh 1).2) h hfollows)
    (Linked.plainBell (s := ((s.syncSend [.bell]).fresh 1).2) h)

theorem State.chainHere_seq (h : s.bellsRing = true) :
    s.chainHere.fld .BELL_STAT_SEQ = (s.fld .BELL_STAT_SEQ + 1) % 2 ^ 16 := by
  unfold State.chainHere
  dsimp only
  split
  · exact State.periodBell_seq (s := ((s.syncSend [.bell]).fresh 1).2) h
  · exact State.plainBell_seq (s := ((s.syncSend [.bell]).fresh 1).2) h

end
end Sys2Proof.Machine
end


section
/-!
The Niujor link and its training (01 R41; 19 R450 to R452), command by command.
-/
namespace Sys2Proof.Machine

section
variable (s : State)

/-! ### Slots and chain Bells -/

theorem execNiujorCycleStart_sends (x : List Nat) (hx : x = s.peerFrame.getD [0xFF, 0, 0, 0]) :
    ∃ t, exec .niujorCycleStart s = .next t ∧
      if s.portOn 4 = true ∧ s.flag .BELL_COMP_ORIGIN = true ∧ s.trains = false then
        t.ports.slot = 0 ∧ t.ports.peerSent = x ++ leBytes 2 (niujorCrc x) else t = s := by
  refine ⟨_, rfl, ?_⟩
  split
  · simp [*, State.peerSend]
  case isFalse h => exact if_neg (by simpa [and_assoc] using h)

theorem execNiujorSlot_sends :
    ∃ t, exec .niujorSlot s = .next t ∧
      if s.portOn 4 = true ∧ s.flag .BELL_COMP_ORIGIN = false ∧ s.flag .PEER_CFG_TRAINED = true ∧ s.trains = false then
        t.ports.slot = s.fld .PEER_CFG_POS ∧ (∀ x ∈ s.peerFrame, t.ports.peerSent = x ++ leBytes 2 (niujorCrc x)) ∧
          (s.peerFrame = none → t.ports.peerSent = s.ports.peerSent) else t = s := by
  refine ⟨_, rfl, ?_⟩
  split
  case isTrue h =>
    rw [if_pos (by simp [h])]
    have hframe : State.peerFrame { s with ports := { s.ports with slot := s.fld .PEER_CFG_POS } } = s.peerFrame := rfl
    dsimp only
    rw [hframe]
    cases s.peerFrame with
    | none => exact ⟨rfl, by simp, fun _ => rfl⟩
    | some x => exact ⟨rfl, by simp [State.peerSend], by simp⟩
  case isFalse h => exact if_neg (by simpa [and_assoc] using h)

theorem execChainBell_relays (hport : s.portOn 4 = true) (hfollows : s.flag .BELL_COMP_ORIGIN = false) :
    ∃ t, exec .chainBell s = .next t ∧
      if s.trains = true then t.ports.bellWaits = true ∧ t.ports.syncOut = s.ports.syncOut
      else t.ports.syncOut = [.bell] ∧
        (s.bellsRing = true → t.fld .BELL_STAT_SEQ = (s.fld .BELL_STAT_SEQ + 1) % 2 ^ 16) := by
  have hlinked : Linked (s.syncSend [.bell]).ports s.chainHere := Linked.chainHere rfl hfollows
  refine ⟨_, rfl, ?_⟩
  simp only [hport, hfollows, Bool.not_true, Bool.or_self, Bool.false_eq_true, if_false]
  split
  · exact ⟨rfl, rfl⟩
  · exact ⟨congrArg (·.2.2.1) hlinked, State.chainHere_seq⟩

/-! ### The end of a training -/

/-- A training ends in its outcome; what waited goes on, and the data pair carries nothing for it (19 R451, R467). -/
theorem State.trainingEnds_link (o : Training) :
    (s.trainingEnds o).ports.training = o ∧ (s.trainingEnds o).ports.bellWaits = false ∧
      (s.trainingEnds o).ports.peerSent = s.ports.peerSent := by
  unfold State.trainingEnds
  dsimp only
  split
  · exact ⟨rfl, rfl, rfl⟩
  split
  · exact ⟨rfl, rfl, rfl⟩
  case isFalse horigin =>
    have hlinked := Linked.chainHere
      (p := { s.ports with training := o, hopStart := none, bellWaits := false, syncOut := [.bell] })
      (s := { s with ports := { s.ports with training := o, hopStart := none, bellWaits := false } }) rfl
      (by simpa using horigin)
    exact ⟨congrArg (·.1) hlinked, congrArg (·.2.2.2.2) hlinked, congrArg (·.2.2.2.1) hlinked⟩

theorem execEchoTimeout_ends (hport : s.portOn 4 = true) (hhops : s.ports.training = .hops)
    (hawaits : s.ports.hopStart.isSome = true) :
    ∃ t, exec .echoTimeout s = .next t ∧ t.ports.training = .idle ∧
      (if s.flag .BELL_COMP_ORIGIN = true then t.fld .PEER_CFG_NUNITS = 0 ∧ t.fld .PEER_CFG_TRAINED = 1
        else t.ports.peerSent = [0, s.fld .PEER_CFG_POS, 3, 1, s.fld .PEER_CFG_POS] ++
          leBytes 2 (niujorCrc [0, s.fld .PEER_CFG_POS, 3, 1, s.fld .PEER_CFG_POS])) := by
  refine ⟨_, rfl, ?_⟩
  rw [if_pos (by simp [*])]
  dsimp only
  split
  case isTrue horigin =>
    refine ⟨(State.trainingEnds_link _ _).1, ?_, ?_⟩
    · exact State.trainingEnds_still (F := .PEER_CFG_NUNITS) _ _ (by decide) (by simp [Still])
    · exact State.trainingEnds_still (F := .PEER_CFG_TRAINED) _ _ (by decide) (by simp [Still])
  case isFalse horigin =>
    obtain ⟨hidle, -, hsent⟩ :=
      State.trainingEnds_link (s.peerSend [0, s.fld .PEER_CFG_POS, 3, 1, s.fld .PEER_CFG_POS]) .idle
    exact ⟨hidle, hsent⟩

theorem execPositionReport_ends (pos : Nat) (hpos : pos < 32) :
    ∃ t, exec (.positionReport pos) s = .next t ∧
      if s.portOn 4 = true ∧ s.flag .BELL_COMP_ORIGIN = true ∧ s.ports.training = .hops then
        t.fld .PEER_CFG_NUNITS = pos ∧ t.fld .PEER_CFG_TRAINED = 1 ∧ t.ports.training = .idle else t = s := by
  have hwidth : Fld.width .PEER_CFG_NUNITS = 5 := rfl
  refine ⟨_, rfl, ?_⟩
  split
  case isTrue h =>
    rw [if_pos (by simp [h])]
    refine ⟨?_, ?_, (State.trainingEnds_link _ _).1⟩
    · exact State.trainingEnds_still (F := .PEER_CFG_NUNITS) _ _ (by decide) (by simpa [Still, hwidth] using hpos)
    · exact State.trainingEnds_still (F := .PEER_CFG_TRAINED) _ _ (by decide) (by simp [Still])
  case isFalse h => exact if_neg (by simpa [and_assoc] using h)

theorem execTrainingTimeout_fails :
    ∃ t, exec .trainingTimeout s = .next t ∧
      if s.trains = true then t.ports.training = .failed ∧ t.fld .PEER_CFG_TRAINED = s.fld .PEER_CFG_TRAINED ∧
        t.ports.bellWaits = false else t = s := by
  obtain ⟨hfailed, hwaits, -⟩ := s.trainingEnds_link .failed
  refine ⟨_, rfl, ?_⟩
  split
  · exact ⟨hfailed, State.trainingEnds_still (F := .PEER_CFG_TRAINED) s _ (by decide) rfl, hwaits⟩
  · rfl

/-! ### The steps of a training -/

theorem execPeerTrain_starts (core : Nat) (hmay : s.mayStore core (portAddr 0x400) (s.portNs 4)) :
    ∃ t, exec (.peerTrain core) s = .next t ∧
      if s.portOn 4 = true ∧ s.flag .BELL_COMP_ORIGIN = true then
        t.ports.training = .hops ∧ t.fld .PEER_CFG_TRAINED = 0 ∧ t.fld .PEER_CFG_POS = 0 ∧
          t.ports.syncOut = [.word 0, .hop] ∧ t.ports.hopStart = some s.tb else t = s := by
  obtain ⟨hruns, hpmp, hns⟩ := hmay
  refine ⟨s.trainWrite, congrArg Host.Outcome.next (State.accessAs_lets hruns hpmp hns _), ?_⟩
  unfold State.trainWrite State.when
  split
  case isTrue h =>
    rw [if_pos (by simp [h])]
    simp [State.trainStart, State.syncSend, h.2]
  case isFalse h => exact if_neg (by simpa [and_comm] using h)

theorem execTrainingWord_takes (marker pos check : Nat) (hlast : pos ≠ 31) :
    ∃ t, exec (.trainingWord marker pos check) s = .next t ∧
      if s.portOn 4 = true ∧ s.flag .BELL_COMP_ORIGIN = false ∧ marker = 0xD2 ∧ pos < 32 ∧
          check = (marker ^^^ pos ^^^ 0x5A) then
        t.fld .PEER_CFG_POS = pos + 1 ∧ t.fld .PEER_CFG_TRAINED = 1 ∧ t.ports.syncOut = [.word (pos + 1)] ∧
          t.ports.training = .hops else t = s := by
  have hwidth : Fld.width .PEER_CFG_POS = 5 := rfl
  refine ⟨_, rfl, ?_⟩
  split
  case isTrue h =>
    obtain ⟨hport, hfollows, hmarker, hpos, hcheck⟩ := h
    have hnext : (pos + 1) % 32 = pos + 1 := by omega
    rw [if_neg (by simp [*])]
    simp [State.syncSend, hwidth, hnext]
  case isFalse h =>
    refine if_pos (by_contra fun hgood => h ?_)
    simpa [and_assoc] using hgood

theorem execHopPulse_echoes :
    ∃ t, exec .hopPulse s = .next t ∧
      if s.portOn 4 = true ∧ s.flag .BELL_COMP_ORIGIN = false ∧ s.ports.training = .hops then
        t.ports.peerSent = [s.fld .PEER_CFG_POS - 1, s.fld .PEER_CFG_POS, 1, 0] ++
          leBytes 2 (niujorCrc [s.fld .PEER_CFG_POS - 1, s.fld .PEER_CFG_POS, 1, 0]) else t = s := by
  refine ⟨_, rfl, ?_⟩
  split
  case isTrue h => rw [if_pos (by simp [State.inHops, h])]; rfl
  case isFalse h => exact if_neg (by simpa [State.inHops, and_assoc] using h)

theorem execHopReport_passes (hop : Nat) (hhop : hop < 2 ^ 16) :
    ∃ t, exec (.hopReport hop) s = .next t ∧
      if s.portOn 4 = true ∧ s.flag .BELL_COMP_ORIGIN = false ∧ s.ports.training = .hops then
        t.fld .BELL_HOP_HOP = hop ∧ t.ports.syncOut = [.hop] ∧ t.ports.hopStart = some s.tb else t = s := by
  have hwidth : Fld.width .BELL_HOP_HOP = 16 := rfl
  refine ⟨_, rfl, ?_⟩
  split
  case isTrue h =>
    rw [if_pos (by simp [State.inHops, h])]
    exact ⟨by simpa [hwidth] using hhop, rfl, rfl⟩
  case isFalse h => exact if_neg (by simpa [State.inHops, and_assoc] using h)

/-- A quotient whose rounding is free is the one below or the one above. -/
theorem roundFree_mem (n b : Nat) (hbit : b < 2) :
    n / 3125 + (if n % 3125 = 0 then 0 else b) ∈ [n / 3125, (n + 3124) / 3125] := by
  simp only [List.mem_cons, List.not_mem_nil, or_false]
  split <;> omega

theorem State.hopOf_mem (rt : Nat) :
    (s.hopOf rt).1 ∈ [(rt - 64000) * 8 / 3125, ((rt - 64000) * 8 + 3124) / 3125] :=
  roundFree_mem ((rt - 64000) * 8) (Config.freeValue s.freeCtr % 2 ^ 1) (Nat.mod_lt _ Nat.two_pos)

/-- The hop report of a round trip has gone out (19 R452). -/
def State.hopReported (rt : Nat) : State :=
  (s.hopOf rt).2.peerSend ([s.fld .PEER_CFG_POS + 1, s.fld .PEER_CFG_POS, 2, 2] ++ leBytes 2 (s.hopOf rt).1)

theorem execTrainingEcho_eq (rt : Nat) (hport : s.portOn 4 = true) (hhops : s.ports.training = .hops)
    (hawaits : s.ports.hopStart.isSome = true) :
    exec (.trainingEcho rt) s = .next (if s.flag .BELL_COMP_ORIGIN = true then
        { s.hopReported rt with ports := { (s.hopReported rt).ports with hopStart := none } }
      else (s.hopReported rt).trainingEnds .idle) :=
  congrArg Host.Outcome.next (if_pos (by simp [*]))

theorem execTrainingEcho_reports (rt : Nat) (hport : s.portOn 4 = true) (hhops : s.ports.training = .hops)
    (hawaits : s.ports.hopStart.isSome = true) (hwaits : s.ports.bellWaits = false) :
    ∃ t, exec (.trainingEcho rt) s = .next t ∧
      t.ports.hopStart = none ∧ (s.flag .BELL_COMP_ORIGIN = false → t.ports.training = .idle) ∧
      (∃ h ∈ [(rt - 64000) * 8 / 3125, ((rt - 64000) * 8 + 3124) / 3125],
        t.ports.peerSent = ([s.fld .PEER_CFG_POS + 1, s.fld .PEER_CFG_POS, 2, 2] ++ leBytes 2 h) ++
          leBytes 2 (niujorCrc ([s.fld .PEER_CFG_POS + 1, s.fld .PEER_CFG_POS, 2, 2] ++ leBytes 2 h))) := by
  refine ⟨_, execTrainingEcho_eq s rt hport hhops hawaits, ?_⟩
  split
  case isTrue horigin => exact ⟨rfl, by simp [horigin], _, s.hopOf_mem rt, rfl⟩
  case isFalse horigin =>
    obtain ⟨hidle, -, hsent⟩ := State.trainingEnds_link (s.hopReported rt) .idle
    have hnone : ((s.hopReported rt).trainingEnds .idle).ports.hopStart = none := by
      rw [State.trainingEnds, show (s.hopReported rt).ports.bellWaits = false from hwaits]
      rfl
    exact ⟨hnone, fun _ => hidle, _, s.hopOf_mem rt, hsent⟩

end

/-- Settles O36, command by command. -/
theorem niujorLinkAndTraining : Obligations.NiujorLinkAndTraining :=
  ⟨execNiujorCycleStart_sends, execNiujorSlot_sends, execChainBell_relays, execPeerTrain_starts, execTrainingWord_takes,
    execHopPulse_echoes, execTrainingEcho_reports, execHopReport_passes, execEchoTimeout_ends, execPositionReport_ends,
    execTrainingTimeout_fails⟩

end Sys2Proof.Machine
end

section
/-!
Bits and counters as registers hold them: the other bits of a field in which one is set, one count of four bits among those of a
word, a count that saturates, and a change under a condition.
-/
namespace Sys2Proof.Machine

theorem satInc_lt (w v : Nat) : satInc w v < 2 ^ w := by
  have hpos := Nat.two_pow_pos w
  unfold satInc
  split <;> omega

theorem State.when_true (s : State) (f : State → State) : s.when true f = f s := rfl

theorem State.when_false (s : State) (f : State → State) : s.when false f = s := rfl

theorem testBit_setBitTo_true_ne {i j : Nat} (v : Nat) (h : j ≠ i) : (setBitTo v i true).testBit j = v.testBit j := by
  simp [setBitTo, Nat.testBit_or, h.symm]

/-- Setting a bit of a field leaves every other bit of it. -/
theorem State.bit_setBit_true_ne (s : State) {f : Fld} {i b k : Nat} (hk : k < f.width) (h : k ≠ b) :
    (s.setBit f i b true).bit f i k = s.bit f i k := by
  rw [State.setBit_eq, State.bit_setFld, if_pos ⟨rfl, rfl⟩, Nat.testBit_mod_two_pow, testBit_setBitTo_true_ne _ h]
  simp [hk, State.bit]

/-- Bits of a word that its width reaches. -/
theorem bits_mod_two_pow {lo w n : Nat} (v : Nat) (h : lo + w ≤ n) : bits (v % 2 ^ n) lo w = bits v lo w := by
  obtain ⟨d, rfl⟩ := Nat.exists_eq_add_of_le h
  unfold bits
  rw [Nat.add_assoc, Nat.pow_add, Nat.mod_mul_right_div_self]
  exact Nat.mod_mod_of_dvd _ (Nat.pow_dvd_pow 2 (Nat.le_add_right w d))

/-- Bits of a word, replaced in place by subtracting the old and adding the new. -/
theorem bits_replace {k w m : Nat} (v : Nat) (hm : m < 2 ^ w) : bits (v - bits v k w * 2 ^ k + m * 2 ^ k) k w = m := by
  have hv : v = 2 ^ k * (2 ^ w * (v / 2 ^ k / 2 ^ w)) + bits v k w * 2 ^ k + v % 2 ^ k := by
    have hlow := Nat.div_add_mod v (2 ^ k)
    have hhigh := Nat.div_add_mod (v / 2 ^ k) (2 ^ w)
    unfold bits
    rw [Nat.mul_comm (_ % _), ← Nat.mul_add, hhigh, hlow]
  have hnew : v - bits v k w * 2 ^ k + m * 2 ^ k = 2 ^ k * (2 ^ w * (v / 2 ^ k / 2 ^ w) + m) + v % 2 ^ k := by
    rw [Nat.mul_add, Nat.mul_comm _ m]
    omega
  rw [hnew, bits, Nat.mul_add_div (Nat.two_pow_pos k), Nat.div_eq_of_lt (Nat.mod_lt _ (Nat.two_pow_pos k)), Nat.add_zero,
    Nat.mul_add_mod, Nat.mod_eq_of_lt hm]

end Sys2Proof.Machine
end

section
/-!
How Q10 grows along a command (19 R458): each event adds at most one record behind those that stand there, so that an event is
among the records of its command wherever in it the event comes.
-/
namespace Sys2Proof.Machine

/-- From `s` to `t` at most `n` records join Q10, whose size stays. -/
def State.queues (s t : State) (n : Nat) : Prop :=
  s.ports.q10 <+: t.ports.q10 ∧ t.ports.q10.length ≤ s.ports.q10.length + n ∧ t.q10Cap = s.q10Cap

section
variable {s t u : State} {n : Nat} {b : Blk} {code : Nat}

/-- What leaves the ports and the size of Q10 alone queues nothing. -/
theorem State.queues_of_ports (hports : t.ports = s.ports) (hsize : t.q10Cap = s.q10Cap) : s.queues t 0 := by
  unfold State.queues
  rw [hports]
  exact ⟨List.prefix_refl _, Nat.le_refl _, hsize⟩

theorem State.emit_q10Cap (s : State) (b : Blk) (p : Nat) : (s.emit b p).q10Cap = s.q10Cap :=
  congrArg (2 ^ ·) (State.emit_fld s b p (by decide) (by decide) (by decide))

/-- A full Q10 drops the record. -/
theorem State.emit_q10_full (s : State) (b : Blk) (p : Nat) (h : ¬ s.ports.q10.length < s.q10Cap) :
    (s.emit b p).ports.q10 = s.ports.q10 := by
  unfold State.emit
  rw [if_neg h]
  rfl

theorem State.emit_queues (s : State) (b : Blk) (p : Nat) : s.queues (s.emit b p) 1 := by
  by_cases h : s.ports.q10.length < s.q10Cap
  · obtain ⟨e, hq, -⟩ := s.emit_q10 b p h
    exact ⟨⟨[e], hq.symm⟩, by simp [hq], s.emit_q10Cap b p⟩
  · have hq := s.emit_q10_full b p h
    exact ⟨by rw [hq], by simp [hq], s.emit_q10Cap b p⟩

theorem State.queues.trans {m : Nat} (h : s.queues t n) (g : t.queues u m) : s.queues u (n + m) := by
  obtain ⟨hpre, hlen, hcap⟩ := h
  obtain ⟨hpre', hlen', hcap'⟩ := g
  exact ⟨hpre.trans hpre', by omega, hcap'.trans hcap⟩

/-- An event that follows fewer than 32 others is reported. -/
theorem State.queues.emit_reports {p : Nat} (h : s.queues t n) (hn : n < 32) (hp : p % 256 = code) :
    s.reports (t.emit b p) b code := by
  intro hroom
  obtain ⟨⟨l, hl⟩, hlen, hcap⟩ := h
  obtain ⟨e, hq, -, hblock, hpayload⟩ := t.emit_q10 b p (by omega)
  have hcode : e.payload % 256 = code := by rw [hpayload]; omega
  rw [hq, ← hl, List.append_assoc, List.drop_left]
  simp [hblock, hcode]

/-- What follows leaves a record on Q10. -/
theorem State.queues.reports (h : t.queues u n) (g : s.reports t b code) : s.reports u b code := by
  intro hroom
  obtain ⟨e, he, hcode⟩ := List.any_eq_true.1 (g hroom)
  exact List.any_eq_true.2 ⟨e, (h.1.drop _).subset he, hcode⟩

/-- What precedes an event and leaves the ports and the size of Q10 alone. -/
theorem State.reports_of_same (hports : t.ports = s.ports) (hsize : t.q10Cap = s.q10Cap) (h : t.reports u b code) :
    s.reports u b code := by
  unfold State.reports at *
  rwa [hports, hsize] at h

theorem State.queues.when {c : Bool} {f : State → State} (h : s.queues (f s) n) : s.queues (s.when c f) n := by
  cases c
  · exact ⟨List.prefix_refl _, Nat.le_add_right _ _, rfl⟩
  · exact h

/-- The floor's event is all that a change of the spares queues. -/
theorem State.noteFloor_queues (s : State) (l : Nat) (was : Bool) : s.queues (s.noteFloor l was) 1 := by
  have hflag : s.queues (s.setFld .INT_STAT_FLOOR 0 1) 0 := State.queues_of_ports rfl (by simp [State.q10Cap])
  exact State.queues.when (hflag.trans (State.emit_queues _ _ _))

theorem State.consumeSpare_queues (s : State) (l : Nat) : s.queues (s.consumeSpare l) 1 := by
  have hput : s.queues (s.putRemain l (s.fld .REPC_REM_REMAIN l - 1)) 0 := State.queues_of_ports rfl
    (congrArg (2 ^ ·) (State.putRemain_still (F := .RING_CFG_SIZE_L2) (I := 10) s l _ (by decide) rfl))
  exact hput.trans (State.noteFloor_queues _ _ _)

end

end Sys2Proof.Machine
end

section
/-!
Open balls and I/O banks (02 R55, R60 to R62), command by command.
-/
namespace Sys2Proof.Machine

section
variable (s : State)

theorem State.consumeSpare_ct (l : Nat) : (s.consumeSpare l).ct = s.ct := s.setRemain_ct l _

/-! ### A signal, or a supply of two balls -/

/-- An open ball's event, and the Prefect's diagnostic where the ball is its own, before its reserve goes to zero (02 R62). -/
def State.ballReported (s : State) (detail bit known : Nat) : State :=
  let s := s.event .caretaker 0x06 detail bit
  s.when (((1 ≤ known && known < 16) || known == 20) && s.prefectFitted) fun s =>
    { s with pf := { s.pf with openBalls := setBitTo s.pf.openBalls known true } }

theorem State.ballReported_ct (detail bit known : Nat) : (s.ballReported detail bit known).ct = s.ct := by
  have hevent : (s.event .caretaker 0x06 detail bit).ct = s.ct := s.emit_ct _ _
  unfold State.ballReported State.when
  dsimp only
  split <;> exact hevent

theorem State.ballReported_queues (detail bit known : Nat) :
    (s.event .caretaker 0x06 detail bit).queues (s.ballReported detail bit known) 0 :=
  State.queues.when (State.queues_of_ports rfl rfl)

/-- A ball already known to be open consumes no spare. -/
theorem State.openBall_of_known {detail bit known : Nat} (h : s.ct.openKnown.testBit known = true) :
    s.openBall detail bit known = s.ballReported detail bit known :=
  if_pos ((s.ballReported_ct detail bit known).symm ▸ h)

theorem State.openBall_of_new {detail bit known : Nat} (h : ¬ s.ct.openKnown.testBit known = true) :
    s.openBall detail bit known =
      { (s.ballReported detail bit known).consumeSpare 7 with
        ct := { s.ct with openKnown := setBitTo s.ct.openKnown known true } } := by
  rw [← s.ballReported_ct detail bit known] at h ⊢
  exact if_neg h

theorem State.openBall_openBalls (detail bit known : Nat) : (s.openBall detail bit known).ct.openBalls = s.ct.openBalls := by
  by_cases h : s.ct.openKnown.testBit known = true
  · rw [s.openBall_of_known h, s.ballReported_ct]
  · rw [s.openBall_of_new h]

theorem State.openBall_reports (detail bit known : Nat) : s.reports (s.openBall detail bit known) .caretaker 0x06 := by
  have hevent : s.reports (s.event .caretaker 0x06 detail bit) .caretaker 0x06 :=
    (State.queues_of_ports rfl rfl).emit_reports (by decide) (genericPayload_code _ _ _ _)
  have hnoted := (s.ballReported_queues detail bit known).reports hevent
  by_cases h : s.ct.openKnown.testBit known = true
  · rwa [s.openBall_of_known h]
  · rw [s.openBall_of_new h]
    exact State.queues.reports (u := (s.ballReported detail bit known).consumeSpare 7) (State.consumeSpare_queues _ 7) hnoted

end

theorem State.openBall_bit (s : State) {F : Fld} (detail bit known k : Nat)
    (hF : State.openBall_writes.testBit F.ctorIdx = false) : (s.openBall detail bit known).bit F 0 k = s.bit F 0 k :=
  congrArg (·.testBit k) (State.openBall_still (F := F) (I := 0) s detail bit known hF rfl)

/-- The test of ball `k` finds it open or not (02 R60). -/
def State.ballTested (s : State) (k : Nat) (changed : Bool) : State :=
  { s with ct := { s.ct with openBalls := setBitTo s.ct.openBalls k changed } }

theorem execOpenBallTest_eq {s : State} {sig : Nat} (second changed : Bool) (htests : s.flag .OPEN_CFG_EN = true)
    (hsig : sig < 16) (hfitted : sig = 0 ∨ s.prefectFitted = true) :
    exec (.openBallTest ⟨sig, second⟩ changed) s =
      .next ((s.ballTested (2 * sig + second.toNat) changed).when changed fun u =>
        (u.setBit .OPEN_SIG_SIG 0 sig true).openBall 0 sig sig) := by
  have hnum : (if second = true then 1 else 0) = second.toNat := by cases second <;> rfl
  rw [← hnum]
  exact congrArg Host.Outcome.next (if_pos (by simp [htests, hsig, hfitted]))

theorem execOpenBallTest_tests (s : State) (sig : Nat) (second changed : Bool) (htests : s.flag .OPEN_CFG_EN = true)
    (hsig : sig < 16) (hfitted : sig = 0 ∨ s.prefectFitted = true) :
    ∃ t, exec (.openBallTest ⟨sig, second⟩ changed) s = .next t ∧
      t.ct.openBalls.testBit (2 * sig + second.toNat) = changed ∧
      (if changed then t.bit .OPEN_SIG_SIG 0 sig = true ∧ s.reports t .caretaker 0x06
       else t = { s with ct := { s.ct with openBalls := t.ct.openBalls } }) := by
  refine ⟨_, execOpenBallTest_eq second changed htests hsig hfitted, ?_⟩
  cases changed with
  | false => exact ⟨setBitTo_self _ _ false, rfl⟩
  | true =>
    rw [State.when_true, if_pos rfl]
    refine ⟨?_, ?_, State.reports_of_same ?_ ?_ (State.openBall_reports _ 0 sig sig)⟩
    · rw [State.openBall_openBalls]
      exact setBitTo_self _ _ true
    · have hbit : sig < Fld.width .OPEN_SIG_SIG := hsig
      exact (State.openBall_bit _ _ _ _ _ (by decide)).trans (by simp [hbit])
    · rfl
    · simp [State.q10Cap, State.ballTested]

theorem execSupplyBallOpen_pair (s : State) (which : Nat) (amps : List Nat) (htests : s.flag .OPEN_CFG_EN = true)
    (hwhich : which < 9) (hmean : meanEnough 2 amps = true) :
    ∃ t, exec (.supplyBallOpen (.pair which) amps) s = .next t ∧
      t.bit .OPEN_UNT_PAIR_U 0 which = false ∧
      (if lowBalls 2 amps = [] then t.bit .OPEN_PAIR_PAIR 0 which = s.bit .OPEN_PAIR_PAIR 0 which
       else t.bit .OPEN_PAIR_PAIR 0 which = true ∧ s.reports t .caretaker 0x06) := by
  refine ⟨_, congrArg Host.Outcome.next (if_pos (by simp [htests, hmean, hwhich])), ?_⟩
  by_cases hlow : lowBalls 2 amps = []
  · simp [hlow, State.when]
  · have hsome : (!(lowBalls 2 amps).isEmpty) = true := by simpa using hlow
    have hbit : which < Fld.width .OPEN_PAIR_PAIR := hwhich
    rw [if_neg hlow, hsome]
    dsimp only
    rw [State.when_true]
    refine ⟨?_, ?_, State.reports_of_same ?_ ?_ (State.openBall_reports _ 1 which (16 + which))⟩
    · exact (State.openBall_bit _ _ _ _ _ (by decide)).trans (by simp)
    · exact (State.openBall_bit _ _ _ _ _ (by decide)).trans (by simp [hbit])
    · rfl
    · simp [State.q10Cap]

/-! ### A large group -/

/-- The open balls of group `which` that the device has counted. -/
def State.countedBalls (s : State) (which : Nat) : Nat := s.ct.openGroups.getD which 0

/-- The count of open balls of group `which` in OPEN_GRP. -/
def State.groupCount (s : State) (which : Nat) : Nat := bits (s.fld .OPEN_GRP) (4 * which) 4

section
variable {s : State} {which ball : Nat}

theorem State.groupBallOpen_of_counted (h : (s.countedBalls which).testBit ball = true) : s.groupBallOpen which ball = s :=
  if_pos h

/-- One more ball of group `which` is counted, before its event. -/
def State.ballCounted (s : State) (which ball : Nat) : State :=
  State.setFld { s with ct := { s.ct with openGroups := s.ct.openGroups.set which (setBitTo (s.countedBalls which) ball true) } }
    .OPEN_GRP 0 (s.fld .OPEN_GRP - s.groupCount which * 2 ^ (4 * which) + min (s.groupCount which + 1) 15 * 2 ^ (4 * which))

/-- The event and the spare that follow the count of a ball leave the count and the balls counted. -/
theorem State.groupBallOpen_of_new (h : ¬ (s.countedBalls which).testBit ball = true) :
    (s.groupBallOpen which ball).ct = (s.ballCounted which ball).ct ∧
      (s.groupBallOpen which ball).fld .OPEN_GRP = (s.ballCounted which ball).fld .OPEN_GRP := by
  have hopen : ∃ c : Bool, s.groupBallOpen which ball =
      ((s.ballCounted which ball).event .caretaker 0x06 2 which).when c fun s => s.consumeSpare 7 := ⟨_, if_neg h⟩
  obtain ⟨c, hc⟩ := hopen
  have hevent : ((s.ballCounted which ball).event .caretaker 0x06 2 which).ct = (s.ballCounted which ball).ct :=
    State.emit_ct _ _ _
  have hcount := State.event_still (F := .OPEN_GRP) (I := 0) (s.ballCounted which ball) .caretaker 0x06 2 which (by decide) rfl
  rw [hc]
  cases c
  · rw [State.when_false]
    exact ⟨hevent, hcount⟩
  · rw [State.when_true]
    exact ⟨(State.consumeSpare_ct _ 7).trans hevent, State.consumeSpare_still _ _ (by decide) hcount⟩

theorem State.groupBallOpen_groupCount (hwhich : which < 8) :
    (s.groupBallOpen which ball).groupCount which =
      if (s.countedBalls which).testBit ball = true then s.groupCount which else min (s.groupCount which + 1) 15 := by
  split
  case isTrue h => rw [State.groupBallOpen_of_counted h]
  case isFalse h =>
    have hwidth : Fld.width .OPEN_GRP = 32 := rfl
    rw [State.groupCount, (State.groupBallOpen_of_new h).2, State.ballCounted, State.fld_setFld_self, hwidth,
      bits_mod_two_pow _ (by omega)]
    exact bits_replace _ (by omega)

theorem State.groupBallOpen_countedBalls_ne {other : Nat} (h : other ≠ ball) :
    ((s.groupBallOpen which ball).countedBalls which).testBit other = (s.countedBalls which).testBit other := by
  by_cases hball : (s.countedBalls which).testBit ball = true
  · rw [State.groupBallOpen_of_counted hball]
  · rw [State.countedBalls, (State.groupBallOpen_of_new hball).1]
    by_cases hlen : which < s.ct.openGroups.length
    · have hset : (s.ballCounted which ball).ct.openGroups.getD which 0 = setBitTo (s.countedBalls which) ball true := by
        simp [State.ballCounted, List.getD, hlen]
      rw [hset, testBit_setBitTo_true_ne _ h]
    · have hset : (s.ballCounted which ball).ct.openGroups = s.ct.openGroups := List.set_eq_of_length_le (by omega)
      rw [hset]
      rfl

/-- Each ball of a list is counted once, where it was not before. -/
theorem State.each_groupBallOpen_groupCount (hwhich : which < 8) {l : List Nat} (hl : l.Nodup) (s : State) :
    (s.each l fun s b => s.groupBallOpen which b).groupCount which =
      min (s.groupCount which + (l.filter fun b => !(s.countedBalls which).testBit b).length) 15 := by
  induction l generalizing s with
  | nil =>
    have hcount : s.groupCount which < 2 ^ 4 := Nat.mod_lt _ (by decide)
    exact (Nat.min_eq_left (show s.groupCount which ≤ 15 by omega)).symm
  | cons b l ih =>
    obtain ⟨hb, hl⟩ := List.nodup_cons.1 hl
    have hrest : (l.filter fun x => !((s.groupBallOpen which b).countedBalls which).testBit x) =
        l.filter fun x => !(s.countedBalls which).testBit x :=
      List.filter_congr fun x hx => by rw [State.groupBallOpen_countedBalls_ne (ne_of_mem_of_not_mem hx hb)]
    refine (ih hl (s.groupBallOpen which b)).trans ?_
    rw [hrest, State.groupBallOpen_groupCount hwhich]
    by_cases hball : (s.countedBalls which).testBit b = true
    · simp [hball]
    · simp [hball]
      omega

end

theorem execSupplyBallOpen_large (s : State) (which n : Nat) (amps : List Nat) (htests : s.flag .OPEN_CFG_EN = true)
    (hwhich : which < 8) (hn : n = groupBalls which s.sizeCode) (hmean : meanEnough n amps = true) :
    ∃ t, exec (.supplyBallOpen (.large which) amps) s = .next t ∧
      t.bit .OPEN_UNT_GRP_U 0 which = false ∧
      bits (t.fld .OPEN_GRP) (4 * which) 4 = min (bits (s.fld .OPEN_GRP) (4 * which) 4 +
        ((lowBalls n amps).filter (fun b => !(s.ct.openGroups.getD which 0).testBit b)).length) 15 := by
  subst hn
  refine ⟨_, congrArg Host.Outcome.next (if_pos (by simp [htests, hmean, hwhich])), ?_, ?_⟩
  · have huntested (l : List Nat) : ((s.setBit .OPEN_UNT_GRP_U 0 which false).each l fun u b => u.groupBallOpen which b).fld
        .OPEN_UNT_GRP_U = (s.setBit .OPEN_UNT_GRP_U 0 which false).fld .OPEN_UNT_GRP_U :=
      Still.each rfl fun u hu b => State.groupBallOpen_still u which b (by decide) hu
    exact (congrArg (·.testBit which) (huntested _)).trans
      ((State.bit_setBit s .OPEN_UNT_GRP_U 0 _ which false).trans (Bool.and_false _))
  · have hcount : (s.setBit .OPEN_UNT_GRP_U 0 which false).groupCount which = s.groupCount which := by
      simp [State.groupCount]
    have hnodup : (lowBalls (groupBalls which s.sizeCode) amps).Nodup := List.nodup_range.filter _
    exact (State.each_groupBallOpen_groupCount hwhich hnodup _).trans (by rw [hcount]; rfl)

/-! ### A bank of I/O balls -/

theorem bankFld_class (bank : Nat) : (bankFld bank).width = 2 ∧ bankFld bank ≠ .IOB_CHG_CHG ∧
    .RING_CFG_SIZE_L2 ≠ bankFld bank ∧ State.event_writes.testBit (bankFld bank).ctorIdx = false := by
  unfold bankFld
  split <;> decide

theorem execIoBankChange_shows (s : State) (bank code : Nat) (hfirst : 1 ≤ bank) (hlast : bank ≤ 4) (hcode : code < 4)
    (hchange : s.fld (bankFld bank) ≠ code) :
    ∃ t, exec (.ioBankChange bank code) s = .next t ∧
      t.fld (bankFld bank) = code ∧ t.bit .IOB_CHG_CHG 0 (bank - 1) = true ∧ s.tells t .caretaker 0x07 := by
  obtain ⟨hwidth, hchg, hsize, hevent⟩ := bankFld_class bank
  refine ⟨_, congrArg Host.Outcome.next (if_pos (by simp [hfirst, hlast, hcode, hchange])), ?_, ?_, ?_⟩
  · refine State.event_still _ _ _ _ _ hevent ((State.fld_setFld_ne _ _ fun h => hchg h.1).trans ?_)
    rw [State.fld_setFld_self, hwidth]
    exact Nat.mod_eq_of_lt hcode
  · have hbit : bank - 1 < Fld.width .IOB_CHG_CHG := by show bank - 1 < 4; omega
    simpa using hbit
  · exact State.emit_tells _ _ _ (genericPayload_code _ _ _ _) rfl (by simp [hsize])

/-- Settles O5, command by command. -/
theorem ballsAndBanks : Obligations.BallsAndBanks :=
  ⟨execOpenBallTest_tests, execSupplyBallOpen_pair, execSupplyBallOpen_large, execIoBankChange_shows⟩

end Sys2Proof.Machine
end

section
/-!
A fault of the Prefect (18 R431, R436): what latching it changes, and what it leaves.
-/
namespace Sys2Proof.Machine

/-- A fault of cause `bit` is latched: the clean cycles begin anew, FCAUSE, the counters and the state; its event and the force
come next. -/
def State.faultLatched (s : State) (bit : Nat) : State :=
  let s := s.modPf (fun p => { p with clean := [0, 0] })
  let s := (s.setBit .PF_STAT_FCAUSE 0 bit true).count .PF_CNT_FAULTS
  let s := s.when (bit < 2) (fun s => s.count .PF_CNT_TESTFAIL)
  s.when (4 ≤ s.fld .PF_STAT_STATE) (fun s => s.setPf 3)

/-- From `s` to `t` the Prefect acts on a new fault (18 R432): the notice and the force are on their way, and
an event tells it. -/
def State.faultTold (s t : State) (code : Nat) : Prop :=
  t.pf.noticeDue = true ∧ t.pf.forceDue = true ∧ s.tells t .prefect code

section
variable (s : State) (bit code chans : Nat)

theorem State.pfFault_of_latched {s : State} {bit : Nat} (h : s.bit .PF_STAT_FCAUSE 0 bit = true) :
    s.pfFault bit code chans = s.modPf (fun p => { p with clean := [0, 0] }) :=
  if_pos h

theorem State.pfFault_of_new {s : State} {bit : Nat} (h : s.bit .PF_STAT_FCAUSE 0 bit = false) :
    s.pfFault bit code chans = ((s.faultLatched bit).pfEvent code chans).pfAct false :=
  if_neg (ne_true_of_eq_false h)

/-! ### The notice and the force -/

@[simp] theorem State.pfAct_fld (demand : Bool) (F : Fld) (i : Nat) : (s.pfAct demand).fld F i = s.fld F i := rfl

theorem State.pfAct_ports (demand : Bool) : (s.pfAct demand).ports = s.ports := rfl

theorem State.pfAct_queues (demand : Bool) : s.queues (s.pfAct demand) 0 := State.queues_of_ports rfl rfl

/-! ### The latch -/

theorem State.faultLatched_pf : (s.faultLatched bit).pf = { s.pf with clean := [0, 0] } := by
  unfold State.faultLatched State.when
  dsimp only
  split <;> split <;> rfl

theorem State.faultLatched_ports : (s.faultLatched bit).ports = s.ports := by
  unfold State.faultLatched State.when
  dsimp only
  split <;> split <;> rfl

theorem State.faultLatched_ringSize : (s.faultLatched bit).fld .RING_CFG_SIZE_L2 10 = s.fld .RING_CFG_SIZE_L2 10 := by
  unfold State.faultLatched State.when State.setPf State.modPf
  dsimp only
  split <;> split <;> simp

theorem State.faultLatched_fcause :
    (s.faultLatched bit).fld .PF_STAT_FCAUSE = (s.setBit .PF_STAT_FCAUSE 0 bit true).fld .PF_STAT_FCAUSE := by
  unfold State.faultLatched State.when State.setPf State.modPf
  dsimp only
  split <;> split <;> simp

theorem State.faultLatched_state (h : 4 ≤ s.fld .PF_STAT_STATE) : (s.faultLatched bit).fld .PF_STAT_STATE = 3 := by
  unfold State.faultLatched State.when State.setPf State.modPf
  dsimp only
  split <;> simp [h] <;> rfl

/-! ### The fault -/

theorem State.pfFault_fld {F : Fld} (h : s.bit .PF_STAT_FCAUSE 0 bit = false)
    (hF : State.pfEvent_writes.testBit F.ctorIdx = false) : (s.pfFault bit code chans).fld F = (s.faultLatched bit).fld F := by
  rw [State.pfFault_of_new _ _ h]
  exact State.pfAct_still _ _ (State.pfEvent_still _ _ _ hF rfl)

theorem State.pfFault_bit_self (hbit : bit < 5) : (s.pfFault bit code chans).bit .PF_STAT_FCAUSE 0 bit = true := by
  cases h : s.bit .PF_STAT_FCAUSE 0 bit with
  | true => rwa [State.pfFault_of_latched _ _ h]
  | false =>
    have hwidth : bit < Fld.width .PF_STAT_FCAUSE := hbit
    rw [State.bit, State.pfFault_fld _ _ _ _ h (by decide), State.faultLatched_fcause]
    exact (State.bit_setBit s _ 0 _ bit true).trans (by simp [hwidth])

theorem State.pfFault_bit_ne {k : Nat} (hk : k < 5) (hne : k ≠ bit) :
    (s.pfFault bit code chans).bit .PF_STAT_FCAUSE 0 k = s.bit .PF_STAT_FCAUSE 0 k := by
  cases h : s.bit .PF_STAT_FCAUSE 0 bit with
  | true => rw [State.pfFault_of_latched _ _ h]; rfl
  | false =>
    rw [State.bit, State.pfFault_fld _ _ _ _ h (by decide), State.faultLatched_fcause]
    exact s.bit_setBit_true_ne hk hne

theorem State.pfFault_pf_of_new (h : s.bit .PF_STAT_FCAUSE 0 bit = false) : (s.pfFault bit code chans).pf =
    { s.pf with clean := [0, 0], noticeDue := true, forceDue := true, keyAt := none } := by
  have hevent : ((s.faultLatched bit).pfEvent code chans).pf = { s.pf with clean := [0, 0] } :=
    (State.emit_pf _ _ _).trans (s.faultLatched_pf bit)
  simp [State.pfFault_of_new _ _ h, State.pfAct, State.modPf, hevent]

/-- A fault, new or not, begins the clean cycles anew and leaves the channels' masks and demands. -/
theorem State.pfFault_channels : (s.pfFault bit code chans).pf.clean = [0, 0] ∧
    (s.pfFault bit code chans).pf.mask = s.pf.mask ∧ (s.pfFault bit code chans).pf.demand = s.pf.demand := by
  cases h : s.bit .PF_STAT_FCAUSE 0 bit with
  | true =>
    rw [State.pfFault_of_latched _ _ h]
    exact ⟨rfl, rfl, rfl⟩
  | false =>
    rw [s.pfFault_pf_of_new bit code chans h]
    exact ⟨rfl, rfl, rfl⟩

/-! ### Its event -/

theorem State.pfEvent_code (hcode : code < 256) :
    ∃ p, s.pfEvent code chans = s.emit .prefect p ∧ p % 256 = code := by
  refine ⟨_, rfl, ?_⟩
  omega

theorem State.pfFault_tells (hcode : code < 256) (h : s.bit .PF_STAT_FCAUSE 0 bit = false) :
    s.faultTold (s.pfFault bit code chans) code := by
  obtain ⟨p, hp, hpcode⟩ := (s.faultLatched bit).pfEvent_code code chans hcode
  rw [State.pfFault_of_new _ _ h, hp]
  have htold := State.emit_tells .prefect p code hpcode (s.faultLatched_ports bit) (s.faultLatched_ringSize bit)
  exact ⟨rfl, rfl, State.tells_of htold (State.pfAct_ports _ _)⟩

/-- A fault stands in FCAUSE, and the Prefect acts on it where it is new. -/
theorem State.pfFault_latches (hbit : bit < 5) (hcode : code < 256) :
    (s.pfFault bit code chans).bit .PF_STAT_FCAUSE 0 bit = true ∧ (s.pfFault bit code chans).pf.clean = [0, 0] ∧
      (s.bit .PF_STAT_FCAUSE 0 bit = false → s.faultTold (s.pfFault bit code chans) code) :=
  ⟨s.pfFault_bit_self bit code chans hbit, (s.pfFault_channels bit code chans).1, s.pfFault_tells bit code chans hcode⟩

theorem State.faultLatched_queues : s.queues (s.faultLatched bit) 0 :=
  State.queues_of_ports (s.faultLatched_ports bit) (congrArg (2 ^ ·) (s.faultLatched_ringSize bit))

theorem State.pfFault_queues : s.queues (s.pfFault bit code chans) 1 := by
  cases h : s.bit .PF_STAT_FCAUSE 0 bit with
  | true =>
    rw [State.pfFault_of_latched _ _ h]
    exact ⟨List.prefix_refl _, Nat.le_add_right _ _, rfl⟩
  | false =>
    rw [State.pfFault_of_new _ _ h]
    have hevent : (s.faultLatched bit).queues ((s.faultLatched bit).pfEvent code chans) 1 := State.emit_queues _ _ _
    exact (s.faultLatched_queues bit).trans (hevent.trans (State.pfAct_queues _ _))

/-- A new fault is reported, where few records of its command precede its own. -/
theorem State.pfFault_reports {s₀ : State} {n : Nat} (hq : s₀.queues s n) (hn : n < 32) (hcode : code < 256)
    (h : s.bit .PF_STAT_FCAUSE 0 bit = false) : s₀.reports (s.pfFault bit code chans) .prefect code := by
  obtain ⟨p, hp, hpcode⟩ := (s.faultLatched bit).pfEvent_code code chans hcode
  rw [State.pfFault_of_new _ _ h, hp]
  have htold := (hq.trans (s.faultLatched_queues bit)).emit_reports (b := .prefect) hn hpcode
  exact (State.pfAct_queues _ false).reports htold

end

end Sys2Proof.Machine
end

section
/-!
The Prefect's test pulses, demands and faults (18 R429 to R431, R436), command by command.
-/
namespace Sys2Proof.Machine

/-! ### Test pulses -/

theorem execTestPulseStart_masks (s : State) (ch : Nat) (hch : ch < 2) :
    ∃ t, exec (.testPulseStart ch) s = .next t ∧
      if s.pfRuns = true then t.pf.tpLow.testBit ch = true ∧ t.pf.mask.testBit ch = true ∧
        t.pf.tpLow.testBit (1 - ch) = s.pf.tpLow.testBit (1 - ch) else t = s := by
  refine ⟨_, rfl, ?_⟩
  split
  case isTrue h =>
    rw [if_pos (by simp [h, hch])]
    exact ⟨setBitTo_self _ _ true, setBitTo_self _ _ true, testBit_setBitTo_true_ne _ (by omega)⟩
  case isFalse h => exact if_neg (by simp [h])

theorem execTestPulseEnd_raises (s : State) (ch : Nat) (hch : ch < 2) :
    ∃ t, exec (.testPulseEnd ch) s = .next t ∧
      if s.pfRuns = true then t.pf.tpLow.testBit ch = false ∧ t.pf.mask = s.pf.mask else t = s := by
  refine ⟨_, rfl, ?_⟩
  split
  case isTrue h =>
    rw [if_pos (by simp [h, hch])]
    exact ⟨setBitTo_self _ _ false, rfl⟩
  case isFalse h => exact if_neg (by simp [h])

/-- The channel's SPR is not low in the pulse, or low after it without a demand (18 Table 18-1). -/
def State.pulseStuck (s : State) (ch : Nat) (x z : DualRead) : Bool :=
  !dualActive x.first x.second || (dualActive z.first z.second && !s.pf.demand.testBit ch)

/-- The other channel's SPR is low in the pulse without a demand (18 Table 18-1). -/
def State.pulseCrosses (s : State) (ch : Nat) (y : DualRead) : Bool :=
  dualActive y.first y.second && !s.pf.demand.testBit (1 - ch)

/-- The mask of a test pulse ends: SPR shows, a demand that has gone goes, and a clean cycle counts. -/
def State.pulseEnded (s : State) (ch : Nat) (x y z : DualRead) : State :=
  (s.modPf fun p => { p with
    mask := setBitTo p.mask ch false
    demand := if !dualActive z.first z.second then setBitTo p.demand ch false else p.demand
    clean := if s.pulseStuck ch x z || s.pulseCrosses ch y || s.pf.demand.testBit ch || s.pf.demand.testBit (1 - ch) then [0, 0]
      else p.clean.set ch (p.clean.getD ch 0 + 1) }).setFlag (sprFld ch) 0 !dualActive z.first z.second

/-- The faults of a test pulse. -/
def State.pulseJudged (s : State) (ch : Nat) (stuck crosses : Bool) : State :=
  (s.when stuck fun s => s.pfFault 0 0xC2 (2 ^ ch)).when crosses fun s => s.pfFault 1 0xC3 (2 ^ ch)

theorem execTestPulseCheck_eq {s : State} {ch : Nat} (x y z : DualRead) (hch : ch < 2) (hruns : s.pfRuns = true)
    (hmask : s.pf.mask.testBit ch = true) : exec (.testPulseCheck ch x y z) s =
      .next ((s.pulseEnded ch x y z).pulseJudged ch (s.pulseStuck ch x z) (s.pulseCrosses ch y)) := by
  refine congrArg Host.Outcome.next ((if_neg (by simp [hch, hruns, hmask])).trans ?_)
  unfold State.pulseEnded State.pulseJudged State.pulseStuck State.pulseCrosses
  simp only [Bool.not_not]

section
variable (s : State) (ch : Nat) (stuck crosses : Bool)

/-- A fault shows in its bit of FCAUSE, which otherwise stays. -/
theorem State.pulseJudged_fcause :
    (s.pulseJudged ch stuck crosses).bit .PF_STAT_FCAUSE 0 0 = (stuck || s.bit .PF_STAT_FCAUSE 0 0) ∧
      (s.pulseJudged ch stuck crosses).bit .PF_STAT_FCAUSE 0 1 = (crosses || s.bit .PF_STAT_FCAUSE 0 1) := by
  have hself (u : State) (b code : Nat) (hb : b < 5) := u.pfFault_bit_self b code (2 ^ ch) hb
  have hother (u : State) (b k code : Nat) (hk : k < 5) (hne : k ≠ b) := u.pfFault_bit_ne b code (2 ^ ch) hk hne
  unfold State.pulseJudged
  cases stuck <;> cases crosses <;> simp [State.when, hself, hother]

theorem State.pulseJudged_channels :
    (s.pulseJudged ch stuck crosses).pf.clean = (if stuck || crosses then [0, 0] else s.pf.clean) ∧
      (s.pulseJudged ch stuck crosses).pf.mask = s.pf.mask ∧ (s.pulseJudged ch stuck crosses).pf.demand = s.pf.demand := by
  have hfault (u : State) (b code : Nat) := u.pfFault_channels b code (2 ^ ch)
  unfold State.pulseJudged
  cases stuck <;> cases crosses <;> simp [State.when, hfault]

theorem State.pulseJudged_fld {F : Fld} (hF : State.pfFault_writes.testBit F.ctorIdx = false) :
    (s.pulseJudged ch stuck crosses).fld F = s.fld F :=
  Still.whenIf (Still.whenIf rfl fun u hu => State.pfFault_still u _ _ _ hF hu) fun u hu => State.pfFault_still u _ _ _ hF hu

/-- A new fault of a test pulse is reported; the fault of the other channel comes second. -/
theorem State.pulseJudged_reports {s₀ : State} (hq : s₀.queues s 0) :
    (stuck = true → s.bit .PF_STAT_FCAUSE 0 0 = false → s₀.reports (s.pulseJudged ch stuck crosses) .prefect 0xC2) ∧
      (crosses = true → s.bit .PF_STAT_FCAUSE 0 1 = false → s₀.reports (s.pulseJudged ch stuck crosses) .prefect 0xC3) := by
  constructor
  · rintro rfl hnew
    have hfirst := State.pfFault_reports s 0 0xC2 (2 ^ ch) hq (by decide) (by decide) hnew
    exact State.queues.reports (State.queues.when (State.pfFault_queues _ 1 0xC3 (2 ^ ch))) hfirst
  · rintro rfl hnew
    have hstuck : s.queues (s.when stuck fun s => s.pfFault 0 0xC2 (2 ^ ch)) 1 := State.queues.when (s.pfFault_queues _ _ _)
    refine State.pfFault_reports _ 1 0xC3 (2 ^ ch) (hq.trans hstuck) (by decide) (by decide) ?_
    cases stuck
    · exact hnew
    · exact (State.pfFault_bit_ne s 0 _ _ (by decide) (by decide)).trans hnew

end

section
variable (s : State) (ch : Nat) (x y z : DualRead)

theorem sprFld_eq (ch : Nat) : sprFld ch = .PF_STAT_SPRA ∨ sprFld ch = .PF_STAT_SPRB := by
  unfold sprFld
  split <;> simp

/-- A channel's SPR is none of the fields that demands and faults count by, and no fault writes it. -/
theorem sprFld_free (ch : Nat) : State.pfFault_writes.testBit (sprFld ch).ctorIdx = false ∧ sprFld ch ≠ .PF_STAT_FCAUSE ∧
    sprFld ch ≠ .RING_CFG_SIZE_L2 ∧ sprFld ch ≠ .PF_CNT_DEMANDS ∧ sprFld ch ≠ .PF_STAT_STATE := by
  obtain h | h := sprFld_eq ch <;> rw [h] <;> decide

theorem State.pulseEnded_queues : s.queues (s.pulseEnded ch x y z) 0 := by
  have hsize := (sprFld_free ch).2.2.1.symm
  exact State.queues_of_ports rfl (by simp [State.q10Cap, State.pulseEnded, State.modPf, hsize])

theorem State.pulseEnded_fcause (k : Nat) : (s.pulseEnded ch x y z).bit .PF_STAT_FCAUSE 0 k = s.bit .PF_STAT_FCAUSE 0 k := by
  have hspr := (sprFld_free ch).2.1.symm
  simp [State.pulseEnded, State.modPf, hspr]

end

/-- What the check of a channel's test pulse leaves in `t`: its mask over, its SPR shown, and its faults or a clean cycle. -/
def State.pulseChecked (s t : State) (ch : Nat) (x y z : DualRead) : Prop :=
  t.pf.mask.testBit ch = false ∧ t.flag (sprFld ch) = !dualActive z.first z.second ∧
    (dualActive z.first z.second = false → t.pf.demand.testBit ch = false) ∧
    (if dualActive x.first x.second = false ∨ (dualActive z.first z.second = true ∧ s.pf.demand.testBit ch = false) then
      t.bit .PF_STAT_FCAUSE 0 0 = true ∧ t.pf.clean = [0, 0] ∧
        (s.bit .PF_STAT_FCAUSE 0 0 = false → s.reports t .prefect 0xC2)
    else t.bit .PF_STAT_FCAUSE 0 0 = s.bit .PF_STAT_FCAUSE 0 0) ∧
    (if dualActive y.first y.second = true ∧ s.pf.demand.testBit (1 - ch) = false then
      t.bit .PF_STAT_FCAUSE 0 1 = true ∧ t.pf.clean = [0, 0] ∧
        (s.bit .PF_STAT_FCAUSE 0 1 = false → s.reports t .prefect 0xC3)
    else t.bit .PF_STAT_FCAUSE 0 1 = s.bit .PF_STAT_FCAUSE 0 1) ∧
    (s.pf.demand.testBit ch = false → s.pf.demand.testBit (1 - ch) = false → dualActive x.first x.second = true →
      dualActive z.first z.second = false → dualActive y.first y.second = false →
        t.pf.clean.getD ch 0 = s.pf.clean.getD ch 0 + 1)

theorem State.pulseJudged_checked (s : State) (ch : Nat) (x y z : DualRead) (hch : ch < 2) (hclean : s.pf.clean.length = 2) :
    s.pulseChecked ((s.pulseEnded ch x y z).pulseJudged ch (s.pulseStuck ch x z) (s.pulseCrosses ch y)) ch x y z := by
  have hstuck : s.pulseStuck ch x z = true ↔
      dualActive x.first x.second = false ∨ (dualActive z.first z.second = true ∧ s.pf.demand.testBit ch = false) := by
    simp [State.pulseStuck]
  have hcrosses : s.pulseCrosses ch y = true ↔ dualActive y.first y.second = true ∧ s.pf.demand.testBit (1 - ch) = false := by
    simp [State.pulseCrosses]
  obtain ⟨htest, hshort⟩ := (s.pulseEnded ch x y z).pulseJudged_fcause ch (s.pulseStuck ch x z) (s.pulseCrosses ch y)
  obtain ⟨hcycles, hmasks, hdemands⟩ :=
    (s.pulseEnded ch x y z).pulseJudged_channels ch (s.pulseStuck ch x z) (s.pulseCrosses ch y)
  obtain ⟨htold, htold'⟩ :=
    State.pulseJudged_reports _ ch (s.pulseStuck ch x z) (s.pulseCrosses ch y) (s.pulseEnded_queues ch x y z)
  have hshown : ((s.pulseEnded ch x y z).pulseJudged ch (s.pulseStuck ch x z) (s.pulseCrosses ch y)).flag (sprFld ch) =
      !dualActive z.first z.second := by
    rw [State.flag, State.pulseJudged_fld _ _ _ _ (sprFld_free ch).1]
    simp [State.pulseEnded]
  rw [State.pulseEnded_fcause] at htest hshort htold htold'
  unfold State.pulseChecked
  generalize State.pulseJudged _ _ _ _ = t at *
  simp only [← hstuck, ← hcrosses]
  refine ⟨?_, hshown, ?_, ?_, ?_, ?_⟩
  · rw [hmasks]
    exact setBitTo_self _ _ false
  · intro hhigh
    have hgone : (s.pulseEnded ch x y z).pf.demand = setBitTo s.pf.demand ch false := if_pos (by simp [hhigh])
    rw [hdemands, hgone]
    exact setBitTo_self _ _ false
  · split
    case isTrue hs => exact ⟨by simp [htest, hs], by simp [hcycles, hs], htold hs⟩
    case isFalse hs => simp [htest, hs]
  · split
    case isTrue hs => exact ⟨by simp [hshort, hs], by simp [hcycles, hs], htold' hs⟩
    case isFalse hs => simp [hshort, hs]
  · intro hx hy hlow hhigh hother
    have hnone : s.pulseStuck ch x z = false ∧ s.pulseCrosses ch y = false := by
      simp [State.pulseStuck, State.pulseCrosses, hlow, hhigh, hother]
    have hcounts : (s.pulseEnded ch x y z).pf.clean = s.pf.clean.set ch (s.pf.clean.getD ch 0 + 1) :=
      if_neg (by simp [hnone, hx, hy])
    simp [hcycles, hnone, hcounts, List.getD, hclean, hch]

theorem execTestPulseCheck_judges (s : State) (ch : Nat) (x y z : DualRead) (hch : ch < 2) (hclean : s.pf.clean.length = 2) :
    ∃ t, exec (.testPulseCheck ch x y z) s = .next t ∧
      if s.pfRuns = true ∧ s.pf.mask.testBit ch = true then s.pulseChecked t ch x y z else t = s := by
  split
  case isTrue h =>
    obtain ⟨hruns, hmask⟩ := h
    exact ⟨_, execTestPulseCheck_eq x y z hch hruns hmask, s.pulseJudged_checked ch x y z hch hclean⟩
  case isFalse h =>
    exact ⟨s, congrArg Host.Outcome.next (if_pos (by simpa [hch, imp_iff_not_or] using h)), rfl⟩

/-! ### Demands -/

/-- A demand is shown and counted, before the Prefect acts on it (18 R430, R436). -/
def State.demandShown (s : State) (ch : Nat) : State :=
  ((s.setFld (sprFld ch) 0 0).count .PF_CNT_DEMANDS).modPf fun p =>
    { p with demand := setBitTo p.demand ch true, clean := [0, 0] }

theorem execFilteredDemand_eq {s : State} {ch : Nat} {first second : Bool} (hch : ch < 2) (hruns : s.pfRuns = true)
    (hlow : dualActive first second = true) (hmask : s.pf.mask.testBit ch = false) :
    exec (.filteredDemand ⟨ch, ⟨first, second⟩⟩) s =
      .next (((s.demandShown ch).when (5 ≤ (s.demandShown ch).fld .PF_STAT_STATE) fun s => s.setPf 4).pfAct true) :=
  congrArg Host.Outcome.next (if_neg (by simp [hch, hruns, hlow, hmask]))

theorem State.demandShown_flds (s : State) (ch : Nat) : (s.demandShown ch).fld (sprFld ch) = 0 ∧
    (s.demandShown ch).fld .PF_CNT_DEMANDS = satInc (Fld.width .PF_CNT_DEMANDS) (s.fld .PF_CNT_DEMANDS) ∧
    (s.demandShown ch).fld .PF_STAT_STATE = s.fld .PF_STAT_STATE := by
  obtain ⟨-, -, -, hcount, hstate⟩ := sprFld_free ch
  have hsat := Nat.mod_eq_of_lt (satInc_lt (Fld.width .PF_CNT_DEMANDS) (s.fld .PF_CNT_DEMANDS))
  refine ⟨?_, ?_, ?_⟩ <;> simp [State.demandShown, State.modPf, hcount, hcount.symm, hstate.symm, hsat]

theorem execFilteredDemand_demands (s : State) (ch : Nat) (first second : Bool) (hch : ch < 2) :
    ∃ t, exec (.filteredDemand ⟨ch, ⟨first, second⟩⟩) s = .next t ∧
      if s.pfRuns = true ∧ dualActive first second = true ∧ s.pf.mask.testBit ch = false then
        t.pf.demand.testBit ch = true ∧ t.fld (sprFld ch) = 0 ∧ t.pf.noticeDue = true ∧ t.pf.forceDue = true ∧
          t.pf.forceDemand = true ∧
          t.fld .PF_CNT_DEMANDS = satInc (Fld.width .PF_CNT_DEMANDS) (s.fld .PF_CNT_DEMANDS) ∧
          (t.fld .PF_STAT_STATE = if 5 ≤ s.fld .PF_STAT_STATE then 4 else s.fld .PF_STAT_STATE)
      else t = s := by
  split
  case isTrue h =>
    obtain ⟨hruns, hlow, hmask⟩ := h
    obtain ⟨-, -, -, -, hspr⟩ := sprFld_free ch
    obtain ⟨hlevel, hcount, hstate⟩ := s.demandShown_flds ch
    refine ⟨_, execFilteredDemand_eq hch hruns hlow hmask, ?_⟩
    rw [hstate]
    by_cases hreleasing : 5 ≤ s.fld .PF_STAT_STATE
    · rw [decide_eq_true hreleasing, State.when_true, if_pos hreleasing]
      refine ⟨setBitTo_self _ _ true, ?_, rfl, rfl, Bool.or_true _, ?_, ?_⟩
      · rw [State.pfAct_fld, State.setPf, State.fld_setFld_ne _ _ fun e => hspr e.1, hlevel]
      · rw [State.pfAct_fld, State.setPf, State.fld_setFld_ne _ _ (by decide), hcount]
      · rw [State.pfAct_fld, State.setPf, State.fld_setFld_self]
        rfl
    · rw [decide_eq_false hreleasing, State.when_false, if_neg hreleasing]
      exact ⟨setBitTo_self _ _ true, hlevel, rfl, rfl, Bool.or_true _, hcount, hstate⟩
  case isFalse h =>
    exact ⟨s, congrArg Host.Outcome.next (if_pos (by simpa [hch, imp_iff_not_or, or_assoc] using h)), rfl⟩

/-! ### Faults outside a test pulse -/

theorem execDiscrepancyFault_latches (s : State) (ch : Nat) (hch : ch < 2) :
    ∃ t, exec (.discrepancyFault ch) s = .next t ∧
      if s.pfRuns = true ∧ s.pf.demand.testBit ch = true ∧ s.pf.demand.testBit (1 - ch) = false then
        t.bit .PF_STAT_FCAUSE 0 2 = true ∧ t.pf.clean = [0, 0] ∧
          (s.bit .PF_STAT_FCAUSE 0 2 = false → s.faultTold t 0xC4)
      else t = s := by
  refine ⟨_, rfl, ?_⟩
  split
  case isTrue h =>
    rw [if_pos (by simp [h, hch])]
    exact s.pfFault_latches 2 0xC4 (2 ^ ch) (by decide) (by decide)
  case isFalse h => exact if_neg (by simpa [hch, and_assoc] using h)

theorem execReadbackFault_latches (s : State) (first second : Bool) :
    ∃ t, exec (.readbackFault ⟨first, second⟩) s = .next t ∧
      if s.pfRuns = true ∧ (first ≠ s.pf.sprOut ∨ second ≠ s.pf.sprOut) then
        t.bit .PF_STAT_FCAUSE 0 3 = true ∧ t.pf.clean = [0, 0] ∧
          (s.bit .PF_STAT_FCAUSE 0 3 = false → s.faultTold t 0xCB)
      else t = s := by
  refine ⟨_, rfl, ?_⟩
  split
  case isTrue h =>
    rw [if_pos (by simpa using h)]
    exact s.pfFault_latches 3 0xCB 0 (by decide) (by decide)
  case isFalse h => exact if_neg (by simpa using h)

theorem execPrefectClockCheck_checks (s : State) (count : Nat) (hruns : s.pfRuns = true) :
    ∃ t, exec (.prefectClockCheck count) s = .next t ∧
      if s.clk.crystal = false then t.fld .PF_STAT_XTALSKIP = 1 ∧ t.fld .PF_STAT_FCAUSE = s.fld .PF_STAT_FCAUSE
      else t.fld .PF_STAT_XTALSKIP = 0 ∧
        (if count < 376000 ∨ 424000 < count then t.bit .PF_STAT_FCAUSE 0 4 = true ∧ t.pf.clean = [0, 0] ∧
            (s.bit .PF_STAT_FCAUSE 0 4 = false → 4 ≤ s.fld .PF_STAT_STATE → t.fld .PF_STAT_STATE = 3)
        else t.fld .PF_STAT_FCAUSE = s.fld .PF_STAT_FCAUSE) := by
  refine ⟨_, congrArg Host.Outcome.next (if_neg (by simp [hruns])), ?_⟩
  split
  case isTrue h =>
    rw [if_pos (by simp [h])]
    exact ⟨State.fld_setFld_self _ _ _ _, State.fld_setFld_ne _ _ (by decide)⟩
  case isFalse h =>
    have hskip : (s.setFld .PF_STAT_XTALSKIP 0 0).fld .PF_STAT_XTALSKIP = 0 := State.fld_setFld_self _ _ _ _
    have hother {F : Fld} (hF : F ≠ .PF_STAT_XTALSKIP) : (s.setFld .PF_STAT_XTALSKIP 0 0).fld F = s.fld F :=
      State.fld_setFld_ne _ _ fun e => hF e.1
    rw [if_neg (by simpa using h)]
    dsimp only
    split
    case isTrue hoff =>
      have hfar : (decide (count + 24000 < 400000) || decide (424000 < count)) = true := by simp; omega
      rw [hfar, State.when_true]
      refine ⟨State.pfFault_still _ 4 0xCB 0 (by decide) hskip, State.pfFault_bit_self _ 4 0xCB 0 (by decide),
        (State.pfFault_channels _ 4 0xCB 0).1, fun hnew hruns => ?_⟩
      rw [State.pfFault_fld _ 4 0xCB 0 ((congrArg (·.testBit 4) (hother (by decide))).trans hnew) (by decide)]
      exact State.faultLatched_state _ 4 (by rwa [hother (by decide)])
    case isFalse hoff =>
      have hnear : (decide (count + 24000 < 400000) || decide (424000 < count)) = false := by simp; omega
      rw [hnear, State.when_false]
      exact ⟨hskip, hother (by decide)⟩

theorem execPrefectFaultClear_clears (s : State) :
    ∃ t, exec .prefectFaultClear s = .next t ∧
      if s.pfRuns = true ∧ s.fld .PF_STAT_FCAUSE ≠ 0 ∧ s.pf.demand = 0 ∧ (∀ n ∈ s.pf.clean, 2 ≤ n) then
        t.fld .PF_STAT_FCAUSE = 0 ∧ (t.fld .PF_STAT_STATE = if s.fld .PF_STAT_STATE = 3 then 4 else s.fld .PF_STAT_STATE)
      else t = s := by
  refine ⟨_, rfl, ?_⟩
  split
  case isTrue h =>
    have hstate : (s.setFld .PF_STAT_FCAUSE 0 0).fld .PF_STAT_STATE = s.fld .PF_STAT_STATE :=
      State.fld_setFld_ne _ _ (by decide)
    have hcleared : (s.setFld .PF_STAT_FCAUSE 0 0).fld .PF_STAT_FCAUSE = 0 := State.fld_setFld_self _ _ _ _
    rw [if_pos (by simpa [and_assoc] using h)]
    dsimp only
    rw [hstate]
    by_cases hfault : s.fld .PF_STAT_STATE = 3
    · rw [decide_eq_true hfault, State.when_true, if_pos hfault]
      exact ⟨(State.fld_setFld_ne _ _ (by decide)).trans hcleared, State.fld_setFld_self _ _ _ _⟩
    · rw [decide_eq_false hfault, State.when_false, if_neg hfault]
      exact ⟨hcleared, hstate⟩
  case isFalse h => exact if_neg (by simpa [and_assoc] using h)

/-- Settles O33, command by command. -/
theorem prefectTestsAndDemands : Obligations.PrefectTestsAndDemands :=
  ⟨execTestPulseStart_masks, execTestPulseEnd_raises, execTestPulseCheck_judges, execFilteredDemand_demands,
    execDiscrepancyFault_latches, execReadbackFault_latches, execPrefectClockCheck_checks, execPrefectFaultClear_clears⟩

end Sys2Proof.Machine
end

section
/-!
The Lesson engines' instructions, rule by rule (10 R247, R252, R266): what the next instruction finds when one goes on, what
an engine fault shows, and what registers, flags and data words read as after a write.
-/
namespace Sys2Proof.Machine

section
variable {s t u : State} {n : Nat}

/-! ### Engines and their words -/

/-- What a change of an engine keeps of it, it keeps of every engine. -/
theorem State.modEngine_keeps {β : Type} (g : Engine → β) {f : Engine → Engine} (hg : ∀ e, g (f e) = g e) (k : Nat) :
    g ((s.modEngine n f).engine k) = g (s.engine k) := by
  by_cases hk : k = n
  · subst hk
    by_cases hlen : k < s.eng.engines.length
    · rw [State.engine_modEngine _ _ hlen, hg]
    · simp [State.engine, State.modEngine, modAt, List.getD, hlen]
  · rw [State.engine_modEngine_ne _ _ hk]

theorem State.modEngine_engines (f : Engine → Engine) :
    (s.modEngine n f).eng.engines.length = s.eng.engines.length := modAt_length _ _ _ _

theorem State.engWord_setEngWord (s : State) (n i v k j : Nat) :
    (s.setEngWord n i v).engWord k j = if k = n ∧ j = i then v % 2 ^ 32 else s.engWord k j := by
  unfold State.engWord State.setEngWord
  rw [SMap.get_set]
  simp only [Prod.mk.injEq]

theorem State.rgBits_modEngine {f : Engine → Engine} {r : Nat} (hf : ∀ e, (f e).regs.getD r 0 = e.regs.getD r 0) :
    (s.modEngine n f).rgBits n r = s.rgBits n r :=
  congrArg (fun v => if r = 0 then 0 else v) (State.modEngine_keeps (fun e => e.regs.getD r 0) hf n)

/-- The register just written, where the engine and the register stand in their tables. -/
theorem State.regHolds_setRgBits {r : Nat} (v : Nat) (hn : n < s.eng.engines.length)
    (hr : r < (s.engine n).regs.length) : (s.setRgBits n r v).regHolds n r v := by
  unfold State.regHolds State.rgBits State.setRgBits
  by_cases h0 : r = 0
  · simp [h0]
  · simp [h0, State.engine_modEngine, hn, hr]

theorem State.rgBits_setRgBits_ne (s : State) (n v : Nat) {r k : Nat} (h : k ≠ r) :
    (s.setRgBits n r v).rgBits n k = s.rgBits n k := by
  unfold State.setRgBits
  split
  · rfl
  · exact State.rgBits_modEngine fun e => by simp [List.getD, h.symm]

theorem State.engFlag_setEngFlag_self (i : Nat) (b : Bool) (hn : n < s.eng.engines.length) :
    (s.setEngFlag n i b).engFlag n i = b := by
  rw [State.engFlag, State.setEngFlag, State.engine_modEngine _ _ hn]
  exact setBitTo_self _ _ _

theorem State.rgBits_setEngFlag (s : State) (n i k : Nat) (b : Bool) : (s.setEngFlag n i b).rgBits n k = s.rgBits n k :=
  State.rgBits_modEngine (f := fun e => { e with flags := setBitTo e.flags i b }) fun _ => rfl

/-! ### An instruction that goes on -/

/-- From `s` to `u` the run of engine `n` has neither ended nor moved on, and its tables keep their lengths. -/
def State.GoesOn (s : State) (n : Nat) (u : State) : Prop :=
  u.running n = s.running n ∧ u.eng.engines.length = s.eng.engines.length ∧
    (u.engine n).regs.length = (s.engine n).regs.length ∧ (u.engine n).pc = (s.engine n).pc ∧
    (u.engine n).cycles = (s.engine n).cycles

theorem State.GoesOn.running (h : s.GoesOn n u) : u.running n = s.running n := h.left

theorem State.GoesOn.engines (h : s.GoesOn n u) : u.eng.engines.length = s.eng.engines.length := h.right.left

theorem State.GoesOn.regs (h : s.GoesOn n u) : (u.engine n).regs.length = (s.engine n).regs.length := by
  obtain ⟨-, -, hregs, -⟩ := h
  exact hregs

theorem State.GoesOn.pc (h : s.GoesOn n u) : (u.engine n).pc = (s.engine n).pc := by
  obtain ⟨-, -, -, hpc, -⟩ := h
  exact hpc

theorem State.GoesOn.cycles (h : s.GoesOn n u) : (u.engine n).cycles = (s.engine n).cycles := by
  obtain ⟨-, -, -, -, hcycles⟩ := h
  exact hcycles

theorem State.GoesOn.refl (s : State) (n : Nat) : s.GoesOn n s := ⟨rfl, rfl, rfl, rfl, rfl⟩

theorem State.GoesOn.trans (h : s.GoesOn n t) (g : t.GoesOn n u) : s.GoesOn n u :=
  ⟨g.running.trans h.running, g.engines.trans h.engines, g.regs.trans h.regs, g.pc.trans h.pc, g.cycles.trans h.cycles⟩

/-- What leaves the engines and their register RUNNING alone. -/
theorem State.goesOn_of_eng (heng : u.eng = s.eng) (hrun : u.fld .LE_STAT_RUNNING n = s.fld .LE_STAT_RUNNING n) :
    s.GoesOn n u := by
  have hengine : u.engine n = s.engine n := congrArg (fun e : EngSt => e.engines.getD n {}) heng
  exact ⟨congrArg (· != 0) hrun, by rw [heng], by rw [hengine], by rw [hengine], by rw [hengine]⟩

theorem State.goesOn_modEngine {f : Engine → Engine} (hregs : ∀ e, (f e).regs.length = e.regs.length)
    (hpc : ∀ e, (f e).pc = e.pc) (hcycles : ∀ e, (f e).cycles = e.cycles) : s.GoesOn n (s.modEngine n f) :=
  ⟨rfl, State.modEngine_engines f, State.modEngine_keeps (fun e => e.regs.length) hregs n,
    State.modEngine_keeps Engine.pc hpc n, State.modEngine_keeps Engine.cycles hcycles n⟩

theorem State.goesOn_each {α : Type} {f : State → α → State} (hf : ∀ (t : State) x, t.GoesOn n (f t x)) (l : List α)
    (s : State) : s.GoesOn n (s.each l f) := by
  induction l generalizing s with
  | nil => exact .refl s n
  | cons x l ih => exact (hf s x).trans (ih (f s x))

theorem State.goesOn_setRgBits (s : State) (n r v : Nat) : s.GoesOn n (s.setRgBits n r v) := by
  unfold State.setRgBits
  split
  · exact .refl s n
  · exact State.goesOn_modEngine (fun _ => List.length_set) (fun _ => rfl) fun _ => rfl

theorem State.goesOn_setRgs (s : State) (n r : Nat) (l : List Fp) : s.GoesOn n (s.setRgs n r l) :=
  State.goesOn_each (fun t i => t.goesOn_setRgBits n (r + i) _) _ s

theorem State.goesOn_setEngFlag (s : State) (n i : Nat) (b : Bool) : s.GoesOn n (s.setEngFlag n i b) :=
  State.goesOn_modEngine (fun _ => rfl) (fun _ => rfl) fun _ => rfl

theorem State.goesOn_mark (s : State) (n mem w : Nat) (bad : Bool) : s.GoesOn n (s.mark mem w bad) :=
  State.goesOn_of_eng rfl rfl

theorem State.goesOn_logStore (s : State) (n a v : Nat) : s.GoesOn n (s.logStore n a v) :=
  State.GoesOn.trans (t := s.modEngine n fun e => { e with log := (0x2000 + a, s.d32 n a) :: e.log })
    (State.goesOn_modEngine (fun _ => rfl) (fun _ => rfl) fun _ => rfl) ⟨rfl, rfl, rfl, rfl, rfl⟩

theorem State.goesOn_store64 (s : State) (n a : Nat) (x : Fp) : s.GoesOn n (s.store64 n a x) :=
  (s.goesOn_logStore n a _).trans (State.goesOn_logStore _ n (a + 1) _)

/-- Engine `n` goes on to its next instruction, `c` cycles later. -/
def State.advance (s : State) (n c : Nat) : State :=
  s.modEngine n (fun e => { e with pc := e.pc + 1, cycles := e.cycles + c })

theorem State.advance_keeps {β : Type} (g : Engine → β)
    (hg : ∀ e pc cycles, g { e with pc := pc, cycles := cycles } = g e) (c : Nat) :
    g ((s.advance n c).engine n) = g (s.engine n) :=
  State.modEngine_keeps g (fun _ => hg _ _ _) n

@[simp] theorem State.advance_rgBits (c r : Nat) : (s.advance n c).rgBits n r = s.rgBits n r :=
  State.rgBits_modEngine (f := fun e => { e with pc := e.pc + 1, cycles := e.cycles + c }) fun _ => rfl

@[simp] theorem State.advance_engFlag (c i : Nat) : (s.advance n c).engFlag n i = s.engFlag n i :=
  State.advance_keeps (fun e => e.flags.testBit i) (fun _ _ _ => rfl) c

theorem State.advance_regHolds (c r v : Nat) : (s.advance n c).regHolds n r v ↔ s.regHolds n r v := by
  rw [State.regHolds, State.advance_rgBits]

@[simp] theorem State.advance_d32 (c a : Nat) : (s.advance n c).d32 n a = s.d32 n a := rfl

theorem State.advance_wordHolds (c a : Nat) (x : Fp) : (s.advance n c).wordHolds n a x ↔ s.wordHolds n a x := by
  rw [State.wordHolds, State.advance_d32, State.advance_d32]

theorem State.advance_ports (c : Nat) : (s.advance n c).ports = s.ports := rfl

@[simp] theorem State.advance_slot (c k : Nat) : (s.advance n c).slot k = s.slot k := rfl

theorem State.executes.listed (h : s.executes n) : n < s.eng.engines.length := by
  obtain ⟨-, hn, -⟩ := h
  exact hn

theorem State.executes.regs (h : s.executes n) : (s.engine n).regs.length = 32 := by
  obtain ⟨-, -, hregs, -⟩ := h
  exact hregs

theorem State.executes.runs (h : s.executes n) : s.running n = true := by
  obtain ⟨-, -, -, hrun, -⟩ := h
  exact hrun

theorem State.executes.engineActs (h : s.executes n) : s.engineActs n = true := by
  obtain ⟨hn, -, -, hrun, hwait, hclock⟩ := h
  simp [State.engineActs, hn, hrun, hwait, hclock]

variable {c k : Nat} {f : State → State}

theorem State.instr_eq (h : s.executes n) : s.instr n c f = (f s).when ((f s).running n) (·.advance n c) :=
  if_pos h.engineActs

theorem State.instr_advances (h : s.executes n) (hgo : s.GoesOn n (f s)) : s.instr n c f = (f s).advance n c := by
  rw [State.instr_eq h, hgo.running, h.runs, State.when_true]

theorem State.advance_stepped (h : s.executes n) (hgo : s.GoesOn n u) : s.stepped (u.advance n c) n c := by
  have hn : n < u.eng.engines.length := hgo.engines ▸ h.listed
  rw [State.stepped, State.advance, State.engine_modEngine _ _ hn, ← hgo.pc, ← hgo.cycles]
  exact ⟨rfl, rfl⟩

theorem State.instr_faulted (h : s.executes n) (hfault : s.faulted (f s) n k) : s.faulted (s.instr n c f) n k := by
  have hends : (f s).running n = false := hfault.left
  rwa [State.instr_eq h, hends, State.when_false]

/-- An instruction goes on where its condition holds, and ends its run with an engine fault elsewhere. -/
theorem State.instr_outcome {o : Out} {C : Prop} [Decidable C] {P : State → Prop} (ho : o = .next (s.instr n c f))
    (h : s.executes n) (hgo : C → s.GoesOn n (f s) ∧ P ((f s).advance n c)) (hfault : ¬ C → s.faulted (f s) n k) :
    ∃ t, o = .next t ∧ if C then s.stepped t n c ∧ P t else s.faulted t n k := by
  refine ⟨_, ho, ?_⟩
  split
  case isTrue hC =>
    obtain ⟨hon, hP⟩ := hgo hC
    rw [State.instr_advances h hon]
    exact ⟨State.advance_stepped h hon, hP⟩
  case isFalse hC => exact State.instr_faulted h (hfault hC)

/-! ### Engine faults -/

/-- Abandoning a run ends it: what follows its end leaves RUNNING alone. -/
theorem State.abandonRun_ends (s : State) (n : Nat) : Still .LE_STAT_RUNNING n 0 (s.abandonRun n) := by
  have hstop : Still .LE_STAT_RUNNING n 0 (s.stopRun n) := by
    unfold State.stopRun
    exact State.modEngine_still _ _ _ (State.dropStaged_still _ _ (by decide) (by simp [Still]))
  exact State.settleEntering_still _ (by decide) (State.rollback_still _ _ (by decide) hstop)

theorem Still.setFld_ne {F G : Fld} {I V : Nat} (j v : Nat) (hG : F ≠ G) (h : Still F I V s) :
    Still F I V (s.setFld G j v) :=
  (State.fld_setFld_ne _ v fun e => hG e.1).trans h

/-- Retirement too leaves a run that has ended so. -/
theorem State.retireEngine_ends (h : Still .LE_STAT_RUNNING n 0 s) : Still .LE_STAT_RUNNING n 0 (s.retireEngine n) := by
  have hsubst (w : Wing) : Fld.LE_STAT_RUNNING ≠ substMap w ∧ Fld.LE_STAT_RUNNING ≠ substRet w ∧
      Fld.LE_STAT_RUNNING ≠ substCopy w := by cases w <;> decide
  obtain ⟨hmap, hret, hcopy⟩ := hsubst (engineWing n)
  have hended : Still .LE_STAT_RUNNING n 0 (if s.running n || (s.engine n).due then s.abandonRun n else s) :=
    Still.ite (s.abandonRun_ends n) h
  have hreported := fun ts => State.engEvent_still _ 0x55 n 0 (s.engine n).pc 0 0 ts (by decide) hended
  have hrecord (u : State) (kind unit loc spare : Nat) (hu : Still .LE_STAT_RUNNING n 0 u) :=
    State.recordRepair_still u kind unit loc spare (by decide) hu
  unfold State.retireEngine
  refine Still.ite h (Still.ite ?substitute (Still.ite ?exhausted ?copied))
  case substitute =>
    exact State.reserveGone_still _ _ (by decide)
      (State.setCopy_still _ _ _ _ (hrecord _ _ _ _ _ ((hreported _).setFld_ne _ _ hmap |>.setFld_ne _ _ hret)))
  case exhausted =>
    exact State.reserveGone_still _ _ (by decide) (hrecord _ _ _ _ _ ((hreported _).setFld_ne _ _ (by decide)))
  case copied =>
    exact State.setCopy_still _ _ _ _ ((State.consumeSpare_still _ _ (by decide)
      (hrecord _ _ _ _ _ ((hreported _).setFld_ne _ _ (by decide)))).setFld_ne _ _ hcopy)

theorem State.hardwareFault_ends (cause : Nat) (h : Still .LE_STAT_RUNNING n 0 s) :
    Still .LE_STAT_RUNNING n 0 (s.hardwareFault n cause) := by
  have hmod : Still .LE_STAT_RUNNING n 0 (s.modEngine n fun e => { e with faultAt := some s.tb }) := h
  unfold State.hardwareFault
  exact Still.ite (State.retireEngine_ends hmod) hmod

theorem State.engineFault_ends (s : State) (n cause : Nat) : Still .LE_STAT_RUNNING n 0 (s.engineFault n cause) :=
  Still.ite (State.hardwareFault_ends cause (State.abandonRun_ends _ n)) (State.abandonRun_ends _ n)

/-- The fields that show an engine fault (10 R266). -/
def faultFlds : List Fld := [.LE_STAT_FAULT, .LE_STAT_FCAUSE, .LE_FLAGS_PC]

theorem State.faultReport_fld (s : State) (n cause pc : Nat) {F : Fld} (hF : F ∈ faultFlds) :
    (s.faultReport n cause pc).fld F n =
      (((s.setFld .LE_STAT_FAULT n 1).setFld .LE_STAT_FCAUSE n cause).setFld .LE_FLAGS_PC n pc).fld F n := by
  have hevent : ∀ F ∈ faultFlds, State.engEvent_writes.testBit F.ctorIdx = false := by decide
  have hentry : ∀ F ∈ faultFlds, State.runEntry_writes.testBit F.ctorIdx = false := by decide
  exact State.runEntry_still _ _ _ (hentry F hF) (State.engEvent_still _ _ _ _ _ _ _ _ (hevent F hF) rfl)

/-- What follows the report of a fault leaves what it shows. -/
theorem State.engineFault_fld (s : State) (n cause : Nat) {F : Fld} (hF : F ∈ faultFlds) :
    (s.engineFault n cause).fld F n = (s.faultReport n cause (s.engine n).pc).fld F n := by
  have habandon : ∀ F ∈ faultFlds, State.abandonRun_writes.testBit F.ctorIdx = false := by decide
  have hhard : ∀ F ∈ faultFlds, State.hardwareFault_writes.testBit F.ctorIdx = false := by decide
  have hended := State.abandonRun_still (I := n) (s.faultReport n cause (s.engine n).pc) n (habandon F hF) rfl
  exact Still.ite (State.hardwareFault_still _ _ _ (hhard F hF) hended) hended

theorem State.engineFault_faulted (s : State) (n cause : Nat) (hcause : cause < 16) :
    s.faulted (s.engineFault n cause) n cause := by
  have hwidth : Fld.width .LE_STAT_FCAUSE = 4 := rfl
  have hpc : Fld.width .LE_FLAGS_PC = 12 := rfl
  refine ⟨congrArg (· != 0) (s.engineFault_ends n cause), ?_, ?_, ?_⟩
  · rw [State.flag, State.engineFault_fld _ _ _ (by decide), State.faultReport_fld _ _ _ _ (by decide)]
    simp
  · rw [State.engineFault_fld _ _ _ (by decide), State.faultReport_fld _ _ _ _ (by decide)]
    simpa [hwidth] using hcause
  · rw [State.engineFault_fld _ _ _ (by decide), State.faultReport_fld _ _ _ _ (by decide)]
    simp [hpc]

/-! ### Words that are read -/

theorem State.readWords_sound {i m : Nat} (f : State → State) (h : s.sound n i m) : s.readWords n i m f = f s := by
  have hnone : (List.range m).find? (fun j => s.engBad n ((i + j) / 2)) = none :=
    List.find?_eq_none.2 fun j hj => by simp [h j (List.mem_range.1 hj)]
  rw [State.readWords, hnone]

/-- A poisoned word among those read ends the run with cause 2 (15 R373). -/
theorem State.readWords_poisoned {i m : Nat} (f : State → State) (h : ¬ s.sound n i m) :
    s.faulted (s.readWords n i m f) n 2 := by
  obtain ⟨j, hj⟩ : ∃ j, (List.range m).find? (fun j => s.engBad n ((i + j) / 2)) = some j := by
    refine Option.ne_none_iff_exists'.1 fun hnone => h fun j hj => ?_
    simpa using List.find?_eq_none.1 hnone j (List.mem_range.2 hj)
  have heng : (s.badRead (0x20 + s.siteOf n) (engAddr n (4 * (i + j))) false).eng = s.eng :=
    State.badRead_same (P := .eng) (s0 := s) _ _ _ _ (by decide) rfl
  have hpc := congrArg (fun e : EngSt => (e.engines.getD n {}).pc % 2 ^ 12) heng
  obtain ⟨hends, hflag, hcause, hat⟩ :=
    (s.badRead (0x20 + s.siteOf n) (engAddr n (4 * (i + j))) false).engineFault_faulted n 2 (by decide)
  rw [State.readWords, hj]
  exact ⟨hends, hflag, hcause, hat.trans hpc⟩

theorem State.readData_sound {a m : Nat} (f : State → State) (h : s.sound n (0x2000 + a) m) : s.readData n a m f = f s :=
  State.readWords_sound f h

theorem State.readData_poisoned {a m : Nat} (f : State → State) (h : ¬ s.sound n (0x2000 + a) m) :
    s.faulted (s.readData n a m f) n 2 := State.readWords_poisoned f h

/-! ### Words and registers that are written -/

theorem State.d32_logStore_self (s : State) (n a v : Nat) : (s.logStore n a v).d32 n a = v % 2 ^ 32 :=
  (State.engWord_setEngWord _ _ _ _ _ _).trans (if_pos ⟨rfl, rfl⟩)

theorem State.d32_logStore_ne (s : State) (n v : Nat) {a b : Nat} (h : b ≠ a) : (s.logStore n a v).d32 n b = s.d32 n b :=
  (State.engWord_setEngWord _ _ _ _ _ _).trans (if_neg fun e => h (by omega))

theorem State.log_logStore (a v : Nat) (hn : n < s.eng.engines.length) :
    ((s.logStore n a v).engine n).log = (0x2000 + a, s.d32 n a) :: (s.engine n).log :=
  congrArg Engine.log (s.engine_modEngine (fun e => { e with log := (0x2000 + a, s.d32 n a) :: e.log }) hn)

theorem State.wordHolds_store64 (s : State) (n a : Nat) (x : Fp) : (s.store64 n a x).wordHolds n a x := by
  unfold State.wordHolds State.store64
  rw [State.d32_logStore_ne _ _ _ (by omega), State.d32_logStore_self, State.d32_logStore_self]
  exact ⟨rfl, rfl⟩

/-- A word written whole is not poisoned (15 R372), in a memory that lies in no island of a Wing. -/
theorem State.poisoned_mark (s : State) {mem : Nat} (w : Nat) (hmem : ¬ mem < 0x1C) :
    (s.mark mem w false).poisoned mem w = false := by
  have hclear : (s.mark mem w false).integ.marks.get (mem, w) ((s.mark mem w false).markDefault mem) = 0 :=
    SMap.get_set_self _ _ _ _
  rw [State.poisoned, State.deadBank, hclear, decide_eq_false hmem, Bool.and_false, Bool.false_and]
  rfl

theorem State.engBad_mark (s : State) (n w : Nat) : (s.mark (0x20 + s.siteOf n) w false).engBad n w = false :=
  s.poisoned_mark w (by omega)

/-- Poison depends on the marks and on the Substitutes' registers alone. -/
theorem State.engBad_congr (w : Nat) (hregs : t.regs = s.regs) (hinteg : t.integ = s.integ) :
    t.engBad n w = s.engBad n w :=
  congrArg₂ (fun regs integ => { s with regs := regs, integ := integ }.engBad n w) hregs hinteg

@[simp] theorem State.advance_engBad (c w : Nat) : (s.advance n c).engBad n w = s.engBad n w :=
  State.engBad_congr w rfl rfl

theorem State.logStore_engBad (s : State) (n a v w : Nat) : (s.logStore n a v).engBad n w = s.engBad n w :=
  State.engBad_congr w rfl rfl

theorem State.store64_engBad (s : State) (n a w : Nat) (x : Fp) : (s.store64 n a x).engBad n w = s.engBad n w :=
  (State.logStore_engBad _ n (a + 1) _ w).trans (s.logStore_engBad n a _ w)

/-- Registers written in turn each hold their value. -/
theorem State.regHolds_setRgs {r i : Nat} (l : List Fp) (hn : n < s.eng.engines.length)
    (hr : r + l.length ≤ (s.engine n).regs.length) (hi : i < l.length) :
    (s.setRgs n r l).regHolds n (r + i) (l.getD i .nan).bits32 := by
  suffices h : ∀ k, k ≤ l.length → i < k →
      (s.each (List.range k) fun s i => s.setRg n (r + i) (l.getD i .nan)).regHolds n (r + i) (l.getD i .nan).bits32 from
    h _ (Nat.le_refl _) hi
  intro k hk hik
  induction k with
  | zero => omega
  | succ k ih =>
    have hgo := State.goesOn_each (n := n) (fun t i => t.goesOn_setRgBits n (r + i) (l.getD i .nan).bits32) (List.range k) s
    rw [List.range_succ, State.each, List.foldl_append]
    by_cases hlast : i = k
    · subst hlast
      exact State.regHolds_setRgBits _ (hgo.engines ▸ hn) (lt_of_lt_of_eq (by omega) hgo.regs.symm)
    · exact (State.rgBits_setRgBits_ne _ _ _ (by omega)).trans (ih (by omega) (by omega))

end
end Sys2Proof.Machine
end

section
/-!
The loads, stores, samples and waits of a Lesson engine, its requests to the SAR slots and its PWM stores (10 R250, R254 to
R256, R259, R267; 05 R125; 15 R372, R373).
-/
namespace Sys2Proof.Machine

section
variable {s : State} {n : Nat}

/-! ### Loads and stores -/

theorem bnot_ne_true {b : Bool} (h : b = true) : ¬ (!b) = true := by
  subst h
  exact Bool.false_ne_true

/-- The change that LD makes in its engine. -/
def State.loadData (s : State) (n rd addr : Nat) (wide : Bool) : State :=
  s.readData n addr (if wide then 2 else 1) (fun s =>
    if wide then s.setRg n rd (s.r64 n addr) else s.setRgBits n rd (s.d32 n addr))

theorem execLd_eq (n rd addr : Nat) (wide : Bool) (s : State) :
    exec (.ld n rd addr wide) s = .next (s.instr n 2 (·.loadData n rd addr wide)) := rfl

theorem execLd_loads {rd addr m v : Nat} {wide : Bool} (h : s.executes n) (hrd : rd < 32)
    (hload : s.sound n (0x2000 + addr) m → s.loadData n rd addr wide = s.setRgBits n rd v)
    (hbad : ¬ s.sound n (0x2000 + addr) m → s.faulted (s.loadData n rd addr wide) n 2) :
    ∃ t, exec (.ld n rd addr wide) s = .next t ∧
      if s.sound n (0x2000 + addr) m then s.stepped t n 2 ∧ t.regHolds n rd v else s.faulted t n 2 := by
  have hregs := h.regs
  refine State.instr_outcome (execLd_eq n rd addr wide s) h (fun hsound => ?_) hbad
  rw [hload hsound]
  exact ⟨s.goesOn_setRgBits n rd _, (State.advance_regHolds _ _ _).2 (State.regHolds_setRgBits _ h.listed (by omega))⟩

theorem execLd_narrow (rd addr : Nat) (h : s.executes n) (hrd : rd < 32) :
    ∃ t, exec (.ld n rd addr false) s = .next t ∧
      if s.sound n (0x2000 + addr) 1 then s.stepped t n 2 ∧ t.regHolds n rd (s.d32 n addr) else s.faulted t n 2 :=
  execLd_loads h hrd (State.readData_sound _) (State.readData_poisoned _)

theorem execLd_wide (rd addr : Nat) (h : s.executes n) (hrd : rd < 32) :
    ∃ t, exec (.ld n rd addr true) s = .next t ∧
      if s.sound n (0x2000 + addr) 2 then s.stepped t n 2 ∧ t.regHolds n rd (s.r64 n addr).bits32 else s.faulted t n 2 :=
  execLd_loads h hrd (State.readData_sound _) (State.readData_poisoned _)

/-- The change that ST makes in its engine. -/
def State.storeReg (s : State) (n ra addr : Nat) (wide : Bool) : State :=
  if !(s.rg n ra).finite then s.engineFault n 3
  else if wide && addr % 2 = 0 then (s.mark (0x20 + s.siteOf n) ((0x2000 + addr) / 2) false).store64 n addr (s.rg n ra)
  else s.readData n addr (if wide then 2 else 1) (fun s =>
    if wide then s.store64 n addr (s.rg n ra) else s.logStore n addr (s.rgBits n ra))

theorem execSt_eq (n ra addr : Nat) (wide : Bool) (s : State) :
    exec (.st n ra addr wide) s = .next (s.instr n 2 (·.storeReg n ra addr wide)) := rfl

theorem State.storeReg_notFinite {ra : Nat} (addr : Nat) (wide : Bool) (h : ¬ (s.rg n ra).finite = true) :
    s.faulted (s.storeReg n ra addr wide) n 3 := by
  have hstore : s.storeReg n ra addr wide = s.engineFault n 3 := if_pos (congrArg Bool.not (Bool.eq_false_iff.2 h))
  rw [hstore]
  exact s.engineFault_faulted n 3 (by decide)

theorem State.storeReg_finite {ra : Nat} (addr : Nat) (wide : Bool) (h : (s.rg n ra).finite = true) :
    s.storeReg n ra addr wide = if wide && addr % 2 = 0 then
        (s.mark (0x20 + s.siteOf n) ((0x2000 + addr) / 2) false).store64 n addr (s.rg n ra)
      else s.readData n addr (if wide then 2 else 1) (fun s =>
        if wide then s.store64 n addr (s.rg n ra) else s.logStore n addr (s.rgBits n ra)) :=
  if_neg (bnot_ne_true h)

/-- A store that does not cover the words it changes reads them first. -/
theorem State.storeReg_reads {ra addr : Nat} {wide : Bool} (hfinite : (s.rg n ra).finite = true)
    (hpart : wide = false ∨ addr % 2 = 1) : s.storeReg n ra addr wide = s.readData n addr (if wide then 2 else 1) (fun s =>
      if wide then s.store64 n addr (s.rg n ra) else s.logStore n addr (s.rgBits n ra)) := by
  refine (State.storeReg_finite addr wide hfinite).trans (if_neg fun hwhole => ?_)
  obtain ⟨hwide, heven⟩ := (Bool.and_eq_true _ _).mp hwhole
  have heven := of_decide_eq_true heven
  rcases hpart with rfl | hodd
  · exact Bool.false_ne_true hwide
  · omega

theorem State.storeReg_narrow {ra addr : Nat} (hfinite : (s.rg n ra).finite = true) (hsound : s.sound n (0x2000 + addr) 1) :
    s.storeReg n ra addr false = s.logStore n addr (s.rgBits n ra) :=
  (State.storeReg_reads hfinite (.inl rfl)).trans (State.readData_sound _ hsound)

theorem State.storeReg_odd {ra addr : Nat} (hfinite : (s.rg n ra).finite = true) (hsound : s.sound n (0x2000 + addr) 2)
    (hodd : addr % 2 = 1) : s.storeReg n ra addr true = s.store64 n addr (s.rg n ra) :=
  (State.storeReg_reads hfinite (.inr hodd)).trans (State.readData_sound _ hsound)

theorem State.storeReg_even {ra addr : Nat} (hfinite : (s.rg n ra).finite = true) (heven : addr % 2 = 0) :
    s.storeReg n ra addr true =
      (s.mark (0x20 + s.siteOf n) ((0x2000 + addr) / 2) false).store64 n addr (s.rg n ra) :=
  (State.storeReg_finite addr true hfinite).trans (if_pos (decide_eq_true heven))

theorem execSt_storesNarrow (ra addr : Nat) (h : s.executes n) (hsound : s.sound n (0x2000 + addr) 1) :
    ∃ t, exec (.st n ra addr false) s = .next t ∧
      if (s.rg n ra).finite then
        s.stepped t n 2 ∧ t.d32 n addr = s.rgBits n ra % 2 ^ 32 ∧
          (t.engine n).log = (0x2000 + addr, s.d32 n addr) :: (s.engine n).log
      else s.faulted t n 3 := by
  refine State.instr_outcome (execSt_eq _ _ _ _ _) h (fun hfinite => ?_) (State.storeReg_notFinite addr false)
  rw [State.storeReg_narrow hfinite hsound]
  exact ⟨s.goesOn_logStore n addr _, (State.advance_d32 _ _).trans (s.d32_logStore_self n addr _),
    (State.advance_keeps Engine.log (fun _ _ _ => rfl) 2).trans (State.log_logStore addr _ h.listed)⟩

theorem execSt_storesWide (ra addr : Nat) (h : s.executes n) (hwhole : addr % 2 = 0 ∨ s.sound n (0x2000 + addr) 2) :
    ∃ t, exec (.st n ra addr true) s = .next t ∧
      if (s.rg n ra).finite then
        s.stepped t n 2 ∧ t.wordHolds n addr (s.rg n ra) ∧ (addr % 2 = 0 → t.engBad n ((0x2000 + addr) / 2) = false)
      else s.faulted t n 3 := by
  refine State.instr_outcome (execSt_eq _ _ _ _ _) h (fun hfinite => ?_) (State.storeReg_notFinite addr true)
  by_cases heven : addr % 2 = 0
  · rw [State.storeReg_even hfinite heven]
    refine ⟨(s.goesOn_mark n _ _ false).trans (State.goesOn_store64 _ n addr _),
      (State.advance_wordHolds _ _ _).2 (State.wordHolds_store64 _ n addr _), fun _ => ?_⟩
    rw [State.advance_engBad, State.store64_engBad, State.engBad_mark]
  · rw [State.storeReg_odd hfinite (hwhole.resolve_left heven) (by omega)]
    exact ⟨s.goesOn_store64 n addr _, (State.advance_wordHolds _ _ _).2 (s.wordHolds_store64 n addr _),
      fun hodd => absurd hodd heven⟩

theorem execSt_poisoned (ra addr : Nat) (wide : Bool) (h : s.executes n) (hfinite : (s.rg n ra).finite = true)
    (hbad : ¬ s.sound n (0x2000 + addr) (if wide then 2 else 1)) (hpart : wide = false ∨ addr % 2 = 1) :
    ∃ t, exec (.st n ra addr wide) s = .next t ∧ s.faulted t n 2 := by
  refine ⟨_, execSt_eq _ _ _ _ _, State.instr_faulted h ?_⟩
  rw [State.storeReg_reads hfinite hpart]
  exact State.readData_poisoned _ hbad

/-! ### Samples -/

/-- The change that LDS makes in its engine, with the subscriptions' values. -/
def State.loadSubs (s : State) (n rd : Nat) (l : List (Fp × Bool × Bool)) : State :=
  ((s.setRgs n rd (l.map (fun v => v.1))).each (l.filter (fun v => v.2.2)) (fun s _ => s.count .LE_STAT_INVCNT n)).setEngFlag
    n 0 (l.all (fun v => v.2.1))

theorem State.goesOn_countInvalid {α : Type} (s : State) (n : Nat) (l : List α) :
    s.GoesOn n (s.each l fun s _ => s.count .LE_STAT_INVCNT n) :=
  State.goesOn_each (fun t _ => State.goesOn_of_eng (u := t.count .LE_STAT_INVCNT n) rfl (by simp)) l s

theorem State.goesOn_loadSubs (s : State) (n rd : Nat) (l : List (Fp × Bool × Bool)) : s.GoesOn n (s.loadSubs n rd l) :=
  ((s.goesOn_setRgs n rd _).trans (State.goesOn_countInvalid _ n _)).trans (State.goesOn_setEngFlag _ n 0 _)

theorem State.countInvalid_rgBits {α : Type} (s : State) (n r : Nat) (l : List α) :
    (s.each l fun s _ => s.count .LE_STAT_INVCNT n).rgBits n r = s.rgBits n r :=
  s.each_keeps (fun s => s.rgBits n r) (fun t _ => (rfl : (t.count .LE_STAT_INVCNT n).rgBits n r = t.rgBits n r)) l

theorem State.loadSubs_regHolds {rd i : Nat} (l : List (Fp × Bool × Bool)) (hn : n < s.eng.engines.length)
    (hrd : rd + l.length ≤ (s.engine n).regs.length) (hi : i < l.length) :
    (s.loadSubs n rd l).regHolds n (rd + i) ((l.map Prod.fst).getD i .nan).bits32 := by
  rw [State.regHolds, State.loadSubs, State.rgBits_setEngFlag, State.countInvalid_rgBits]
  exact State.regHolds_setRgs _ hn (by rwa [List.length_map]) (by rwa [List.length_map])

theorem State.loadSubs_valid {rd : Nat} (l : List (Fp × Bool × Bool)) (hn : n < s.eng.engines.length) :
    (s.loadSubs n rd l).engFlag n 0 = l.all (fun v => v.2.1) := by
  have hgo := (s.goesOn_setRgs n rd (l.map (fun v => v.1))).trans (State.goesOn_countInvalid _ n (l.filter (fun v => v.2.2)))
  exact State.engFlag_setEngFlag_self 0 _ (hgo.engines ▸ hn)

theorem execLds_samples (rd ra mod : Nat) (h : s.executes n) (hrd : rd + mod < 32) :
    ∃ t, exec (.lds n rd ra mod) s = .next t ∧
      if s.sound n (0x3F80 + 4 * ra) (4 * (mod + 1)) then
        s.stepped t n (3 + mod) ∧ (∀ i, i ≤ mod → t.regHolds n (rd + i) (s.subValue n (ra + i)).1.bits32) ∧
          t.engFlag n 0 = (List.range (mod + 1)).all (fun i => (s.subValue n (ra + i)).2.1)
      else s.faulted t n 2 := by
  have hn := h.listed
  have hregs := h.regs
  refine State.instr_outcome rfl h (fun hsound => ?_) fun hbad => State.readWords_poisoned _ hbad
  rw [State.readWords_sound _ hsound]
  refine ⟨State.goesOn_loadSubs s n rd _, fun i hi => ?_, ?_⟩
  · have hvalue := State.loadSubs_regHolds (rd := rd) ((List.range (mod + 1)).map fun i => s.subValue n (ra + i)) hn
      (by rw [List.length_map, List.length_range]; omega) (i := i) (by rw [List.length_map, List.length_range]; omega)
    have hget : (((List.range (mod + 1)).map fun i => s.subValue n (ra + i)).map Prod.fst).getD i .nan =
        (s.subValue n (ra + i)).1 := by
      simp [List.getD, Nat.lt_succ_of_le hi]
    rw [State.advance_regHolds, ← hget]
    exact hvalue
  · rw [State.advance_engFlag]
    exact (State.loadSubs_valid _ hn).trans List.all_map

/-! ### Waits -/

theorem State.endWait_engine {a b d began : Nat} (tmo : Bool) (hn : n < s.eng.engines.length)
    (hwait : (s.engine n).wait = some (a, b, d, began)) : (s.endWait n tmo).engine n = { s.engine n with
      wait := none, pc := (s.engine n).pc + 1, cycles := (s.engine n).cycles + 1 + ((s.tb - began) * 5 + 3) / 4
      flags := setBitTo (s.engine n).flags 4 tmo } := by
  rw [State.endWait, hwait]
  exact State.engine_modEngine _ _ hn

/-- A wait that ends steps on and shows in TMO whether the deadline ended it (10 R259). -/
theorem State.endWait_steps (tmo : Bool) (hn : n < s.eng.engines.length) (hwait : (s.engine n).wait ≠ none) :
    ((s.endWait n tmo).engine n).pc = (s.engine n).pc + 1 ∧ ((s.endWait n tmo).engine n).wait = none ∧
      (s.endWait n tmo).engFlag n 4 = tmo := by
  obtain ⟨⟨a, b, d, began⟩, hwait⟩ := Option.ne_none_iff_exists'.1 hwait
  rw [State.engFlag, State.endWait_engine tmo hn hwait]
  exact ⟨rfl, rfl, setBitTo_self _ _ _⟩

/-- WAIT begins to stall. -/
def State.beginWait (s : State) (n ra rb d : Nat) : State :=
  s.modEngine n (fun e => { e with wait := some (ra, rb, e.tk + d, s.tb) })

theorem State.beginWait_engine (ra rb d : Nat) (hn : n < s.eng.engines.length) : (s.beginWait n ra rb d).engine n =
    { s.engine n with wait := some (ra, rb, (s.engine n).tk + d, s.tb) } := State.engine_modEngine _ _ hn

theorem execWait_eq (ra rb d : Nat) (h : s.executes n) : exec (.wait n ra rb d) s = .next (
    if (s.engine n).periodWords ra rb then (s.beginWait n ra rb d).endWait n false
    else if (s.engine n).tk + d ≤ s.tb then (s.beginWait n ra rb d).endWait n true
    else s.beginWait n ra rb d) :=
  congrArg Host.Outcome.next (if_pos h.engineActs)

theorem execWait_waits (ra rb d : Nat) (h : s.executes n) :
    ∃ t, exec (.wait n ra rb d) s = .next t ∧
      if (s.engine n).periodWords ra rb = true ∨ (s.engine n).tk + d ≤ s.tb then
        (t.engine n).pc = (s.engine n).pc + 1 ∧ (t.engine n).wait = none ∧
          t.engFlag n 4 = !(s.engine n).periodWords ra rb
      else (t.engine n).pc = (s.engine n).pc ∧ (t.engine n).wait = some (ra, rb, (s.engine n).tk + d, s.tb) := by
  have hbegun := State.beginWait_engine (s := s) ra rb d h.listed
  have hends (tmo : Bool) := State.endWait_steps (s := s.beginWait n ra rb d) tmo
    ((State.modEngine_engines (s := s) _).symm ▸ h.listed) (hbegun ▸ Option.some_ne_none _)
  rw [hbegun] at hends
  refine ⟨_, execWait_eq ra rb d h, ?_⟩
  by_cases hwords : (s.engine n).periodWords ra rb = true
  · rw [if_pos hwords, if_pos (.inl hwords), hwords]
    exact hends false
  · rw [if_neg hwords, Bool.eq_false_iff.2 hwords]
    by_cases hlate : (s.engine n).tk + d ≤ s.tb
    · rw [if_pos hlate, if_pos (.inr hlate)]
      exact hends true
    · rw [if_neg hlate, if_neg (by rintro (hwords | hlate) <;> contradiction), hbegun]
      exact ⟨rfl, rfl⟩

theorem execWaitDeadline_ends (n : Nat) (hbound : n < 12) (hn : n < s.eng.engines.length) (hrun : s.running n = true)
    (hwait : (s.engine n).wait ≠ none) (hclock : s.wingClock (engineWing n) = true) :
    ∃ t, exec (.waitDeadline n) s = .next t ∧
      (t.engine n).pc = (s.engine n).pc + 1 ∧ (t.engine n).wait = none ∧ t.engFlag n 4 = true :=
  ⟨s.endWait n true, congrArg Host.Outcome.next (if_pos (by simp [hbound, hrun, hclock])),
    State.endWait_steps true hn hwait⟩

end

/-! ### Injected requests -/

section
variable {s : State} {n k input ext : Nat}

/-- An injected request joins its slot's queue (05 R125), before the slot begins it. -/
def State.queueInj (s : State) (k input ext : Nat) : State :=
  let s := s.modSlot k (fun p => { p with injQ := p.injQ ++ [(input, ext % 64)] })
  let s := s.setFld .SAR_STAT_INJQ k (s.slot k).injQ.length
  s.when (s.swapping k && s.sar.injAt.isNone) (fun s => { s with sar := { s.sar with injAt := some s.ts } })

theorem State.inject_accepted (h : s.sarConverts = true ∧ s.bonded input = true ∧ (s.slot k).injQ.length < 4) :
    s.inject k input ext =
      (s.queueInj k input ext).when ((s.queueInj k input ext).slot k).cur.isNone (fun s => s.nextConv k) := by
  obtain ⟨hconverts, hbonded, hroom⟩ := h
  exact (if_neg (bnot_ne_true hconverts)).trans
    ((if_neg (bnot_ne_true hbonded)).trans (if_neg (Nat.not_le_of_lt hroom)))

theorem State.when_keeps {β : Type} (g : State → β) {f : State → State} (hf : ∀ s, g (f s) = g s) (s : State) (b : Bool) :
    g (s.when b f) = g s := by
  cases b
  · rfl
  · exact hf s

theorem State.queueInj_slots : (s.queueInj k input ext).sar.slots =
    modAt s.sar.slots k {} (fun p => { p with injQ := p.injQ ++ [(input, ext % 64)] }) :=
  State.when_keeps (f := fun s => { s with sar := { s.sar with injAt := some s.ts } }) (·.sar.slots) (fun _ => rfl) _ _

theorem State.queueInj_slot (hk : k < s.sar.slots.length) : (s.queueInj k input ext).slot k =
    { s.slot k with injQ := (s.slot k).injQ ++ [(input, ext % 64)] } :=
  (congrArg (fun l : List SarSlot => l.getD k {}) State.queueInj_slots).trans (modAt_self _ _ hk)

/-- A slot begins its oldest injected request before its burst (05 R126). -/
theorem State.nextConv_injected {r : List (Nat × Nat)} (hk : k < s.sar.slots.length)
    (hq : (s.slot k).injQ = (input, ext) :: r) :
    ((s.nextConv k).slot k).cur = some { input := input, ext := ext, inj := true } := by
  have hrestart (b : Bool) (f : SarSlot → SarSlot) (hf : ∀ p, (f p).injQ = p.injQ) :
      ((s.when b (·.modSlot k f)).slot k).injQ = (input, ext) :: r ∧
        k < (s.when b (·.modSlot k f)).sar.slots.length := by
    cases b
    · exact ⟨hq, hk⟩
    · rw [State.when_true, State.slot_modSlot _ _ hk, hf]
      exact ⟨hq, (modAt_length _ _ _ _).symm ▸ hk⟩
  obtain ⟨hqueue, hlen⟩ := hrestart ((s.slot k).burst && decide (s.fld .SAR_TRIG_SEQ_LEN k < (s.slot k).entry))
    (fun p => { p with burst := p.pendingTrig, pendingTrig := false, entry := 0 }) fun _ => rfl
  unfold State.nextConv
  dsimp only
  rw [hqueue]
  exact congrArg SarSlot.cur (State.slot_modSlot _ _ hlen)

theorem State.inject_queues (hk : k < s.sar.slots.length) (hext : ext < 64)
    (h : s.sarConverts = true ∧ s.bonded input = true ∧ (s.slot k).injQ.length < 4) :
    ((s.slot k).cur.isSome = true → ((s.inject k input ext).slot k).injQ = (s.slot k).injQ ++ [(input, ext)]) ∧
      ((s.slot k).cur = none → (s.slot k).injQ = [] →
        ((s.inject k input ext).slot k).cur = some { input := input, ext := ext, inj := true }) := by
  have hslot := State.queueInj_slot (input := input) (ext := ext) hk
  rw [Nat.mod_eq_of_lt hext] at hslot
  rw [State.inject_accepted h, hslot]
  constructor
  · intro hbusy
    rw [Option.isNone_eq_false_iff.2 hbusy, State.when_false, hslot]
  · intro hidle hempty
    rw [hidle, Option.isNone_none, State.when_true]
    exact State.nextConv_injected (by rwa [State.queueInj_slots, modAt_length]) (by rw [hslot, hempty]; rfl)

/-- A refused request changes nothing but the overflow mark of a full queue, and event 0x0A tells why. -/
theorem State.inject_refused (h : ¬ (s.sarConverts = true ∧ s.bonded input = true ∧ (s.slot k).injQ.length < 4)) :
    ∃ (u : State) (detail : Nat), s.inject k input ext = u.event .sar 0x0A detail k ∧ u.sar = s.sar ∧ u.ports = s.ports ∧
      u.fld .RING_CFG_SIZE_L2 10 = s.fld .RING_CFG_SIZE_L2 10 := by
  by_cases hconverts : s.sarConverts = true
  · by_cases hbonded : s.bonded input = true
    · have hfull : 4 ≤ (s.slot k).injQ.length := Nat.le_of_not_lt fun hroom => h ⟨hconverts, hbonded, hroom⟩
      exact ⟨s.setFld .SAR_STAT_INJOVF k 1, 1, (if_neg (bnot_ne_true hconverts)).trans
        ((if_neg (bnot_ne_true hbonded)).trans (if_pos hfull)), rfl, rfl,
        State.fld_setFld_ne _ _ fun e => Fld.noConfusion e.1⟩
    · exact ⟨s, 3, (if_neg (bnot_ne_true hconverts)).trans
        (if_pos (congrArg Bool.not (Bool.eq_false_iff.2 hbonded))), rfl, rfl, rfl⟩
  · exact ⟨s, 4, if_pos (congrArg Bool.not (Bool.eq_false_iff.2 hconverts)), rfl, rfl, rfl⟩

/-- A request is discarded with event 0x0A while slots do not convert, on an unbonded input, or with a full queue. -/
theorem State.inject_discards (h : ¬ (s.sarConverts = true ∧ s.bonded input = true ∧ (s.slot k).injQ.length < 4)) :
    (s.inject k input ext).slot k = s.slot k ∧ s.tells (s.inject k input ext) .sar 0x0A := by
  obtain ⟨u, detail, heq, hsar, hports, hsize⟩ := State.inject_refused (ext := ext) h
  rw [heq]
  exact ⟨congrArg (fun p : SarSt => p.slots.getD k {}) ((State.emit_sar _ _ _).trans hsar),
    State.emit_tells _ _ _ (genericPayload_code _ _ _ _) hports hsize⟩

theorem State.goesOn_inject (s : State) (n k input ext : Nat) : s.GoesOn n (s.inject k input ext) :=
  State.goesOn_of_eng (State.inject_same (P := .eng) (s0 := s) s k input ext (by decide) rfl)
    (State.inject_still s k input ext (by decide) rfl)

theorem execInj_eq (n ext : Nat) (s : State) (hk : k < 16) (hinput : input < 4) :
    exec (.inj n k input ext) s = .next (s.instr n 2 fun s => s.inject k input ext) :=
  congrArg (fun f => Host.Outcome.next (s.instr n 2 f)) (funext fun s =>
    (if_pos hk).trans (congrArg (fun i => s.inject k i ext) (Nat.mod_eq_of_lt hinput)))

theorem execInj_requests (h : s.executes n) (hk : k < 16) (hlen : k < s.sar.slots.length) (hinput : input < 4)
    (hext : ext < 64) :
    ∃ t, exec (.inj n k input ext) s = .next t ∧ s.stepped t n 2 ∧
      (if s.sarConverts = true ∧ s.bonded input = true ∧ (s.slot k).injQ.length < 4 then
        ((s.slot k).cur.isSome = true → (t.slot k).injQ = (s.slot k).injQ ++ [(input, ext)]) ∧
          ((s.slot k).cur = none → (s.slot k).injQ = [] →
            (t.slot k).cur = some { input := input, ext := ext, inj := true })
      else (t.slot k).injQ = (s.slot k).injQ ∧ s.tells t .sar 0x0A) := by
  have hgo := s.goesOn_inject n k input ext
  refine ⟨(s.inject k input ext).advance n 2,
    (execInj_eq n ext s hk hinput).trans (congrArg Host.Outcome.next (State.instr_advances h hgo)),
    State.advance_stepped h hgo, ?_⟩
  rw [State.advance_slot]
  split
  case isTrue haccepted => exact State.inject_queues hlen hext haccepted
  case isFalse hrefused =>
    obtain ⟨hslot, htells⟩ := State.inject_discards (ext := ext) hrefused
    exact ⟨congrArg SarSlot.injQ hslot, State.tells_of htells (State.advance_ports 2)⟩

end

/-! ### PWM stores -/

section
variable {s : State} {n m : Nat}

/-- From `s` to `t` a store of shadow word `w` by engine `n` is staged where its Wing is entitled to the module, and else
discarded (08 R202). -/
abbrev State.storesShadow (s t : State) (n m w v : Nat) : Prop :=
  if s.hasPm m = true ∧ s.isEntitled (engineWing n) m = true then t.stages n m w v
  else (t.pm m).staged = (s.pm m).staged ∧ (s.hasPm m = true → s.tells t .engine 0x01)

theorem State.advance_storesShadow {t : State} (c w v : Nat) :
    s.storesShadow (t.advance n c) n m w v ↔ s.storesShadow t n m w v := Iff.rfl

theorem State.stage_storesShadow (w v : Nat) (hm : m < s.pwm.mods.length) : s.storesShadow (s.stage n m w v) n m w v := by
  by_cases hpm : s.hasPm m = true
  · by_cases hentitled : s.isEntitled (engineWing n) m = true
    · rw [State.storesShadow, if_pos ⟨hpm, hentitled⟩, State.stage, hpm, if_pos hentitled, State.stages]
      exact (s.pm_modPm _ hm).symm ▸ List.mem_append_right _ (List.mem_singleton_self _)
    · rw [State.storesShadow, if_neg fun h => hentitled h.2, State.stage, hpm, if_neg hentitled]
      exact ⟨congrArg (fun p : PwmSt => (p.mods.getD m {}).staged) (State.emit_pwm _ _ _),
        fun _ => State.emit_tells _ _ _ (genericPayload_code _ _ _ _) rfl rfl⟩
  · rw [State.storesShadow, if_neg fun h => hpm h.1, State.stage, Bool.eq_false_iff.2 hpm]
    exact ⟨rfl, fun h => absurd h Bool.false_ne_true⟩

theorem State.goesOn_stage (s : State) (n m w v : Nat) : s.GoesOn n (s.stage n m w v) :=
  State.goesOn_of_eng (State.stage_same (P := .eng) (s0 := s) s n m w v (by decide) rfl)
    (State.stage_still s n m w v (by decide) rfl)

/-- What STPC, STPD, STPP and STPE share: finite values are staged, others end the run with cause 3 (10 R255, R256). -/
theorem State.stageAll_outcome {o : Out} {C : Prop} [Decidable C] {f : State → State} {c w v : Nat} {l : List Fp}
    (ho : o = .next (s.instr n c f)) (hf : f s = s.stageAll n m w l v) (hC : C ↔ l.all Fp.finite = true)
    (h : s.executes n) (hm : m < s.pwm.mods.length) :
    ∃ t, o = .next t ∧ if C then s.stepped t n c ∧ s.storesShadow t n m w v else s.faulted t n 3 := by
  refine State.instr_outcome ho h (fun hfinite => ?_) fun hother => ?_
  · rw [hf, State.stageAll, if_pos (hC.1 hfinite)]
    exact ⟨s.goesOn_stage n m w v, (State.advance_storesShadow c w v).2 (State.stage_storesShadow w v hm)⟩
  · rw [hf, State.stageAll, if_neg fun hall => hother (hC.2 hall)]
    exact s.engineFault_faulted n 3 (by decide)

theorem finite_pair (x y : Fp) : x.finite = true ∧ y.finite = true ↔ [x, y].all Fp.finite = true := by simp

theorem finite_triple (x y z : Fp) :
    x.finite = true ∧ y.finite = true ∧ z.finite = true ↔ [x, y, z].all Fp.finite = true := by simp

theorem execStpc_stores (ra rb : Nat) (a b : Fp) (h : s.executes n) (hm : m < s.pwm.mods.length)
    (ha : a = fp128.mul (s.rg n ra)) (hb : b = fp128.mul (s.rg n rb)) :
    ∃ t, exec (.stpc n m ra rb) s = .next t ∧
      if a.finite = true ∧ b.finite = true then
        s.stepped t n 3 ∧ s.storesShadow t n m 0 (compareOf a + compareOf b * 2 ^ 32)
      else s.faulted t n 3 := by
  subst ha hb
  exact State.stageAll_outcome rfl rfl (finite_pair _ _) h hm

theorem execStpd_stores (ra rb : Nat) (a b : Fp) (h : s.executes n) (hm : m < s.pwm.mods.length)
    (ha : a = (fp128.mul (s.rg n ra)).mul (Fp.ofInt (s.stagedPer n m)))
    (hb : b = (fp128.mul (s.rg n rb)).mul (Fp.ofInt (s.stagedPer n m))) :
    ∃ t, exec (.stpd n m ra rb) s = .next t ∧
      if a.finite = true ∧ b.finite = true then
        s.stepped t n 4 ∧ s.storesShadow t n m 0 (compareOf a + compareOf b * 2 ^ 32)
      else s.faulted t n 3 := by
  subst ha hb
  exact State.stageAll_outcome rfl rfl (finite_pair _ _) h hm

theorem execStpp_stores (ra rb rc : Nat) (h : s.executes n) (hm : m < s.pwm.mods.length) :
    ∃ t, exec (.stpp n m ra rb rc) s = .next t ∧
      if (s.rg n ra).finite = true ∧ (s.rg n rb).finite = true ∧ (s.rg n rc).finite = true then
        s.stepped t n 3 ∧ s.storesShadow t n m 1 ((s.rg n ra).count 16 1048575 + (s.rg n rb).count 0 1048575 * 2 ^ 20 +
          (s.rg n rc).count 0 1048575 * 2 ^ 40)
      else s.faulted t n 3 :=
  State.stageAll_outcome rfl rfl (finite_triple _ _ _) h hm

theorem execStpe_stores (ra rb : Nat) (x y : Fp) (h : s.executes n) (hm : m < s.pwm.mods.length)
    (hx : x = tapsPerNs.mul (s.rg n ra)) (hy : y = tapsPerNs.mul (s.rg n rb)) :
    ∃ t, exec (.stpe n m ra rb) s = .next t ∧
      if x.finite = true ∧ y.finite = true then
        s.stepped t n 3 ∧ s.storesShadow t n m 2 (x.count 0 163840 + y.count 0 163840 * 2 ^ 32)
      else s.faulted t n 3 := by
  subst hx hy
  exact State.stageAll_outcome rfl rfl (finite_pair _ _) h hm

/-! ### Events -/

/-- EVT keeps an event for END, and the first fault that one asks for. -/
def Engine.keepEvent (e : Engine) (code value : Nat) (fault : Bool) : Engine :=
  { e with
    events := e.events ++ [(0x54, e.pc, code % 2 ^ 16, value)]
    evtFault := if fault && e.evtFault.isNone then some e.pc else e.evtFault }

theorem Engine.keepEvent_fault (e : Engine) (code value : Nat) : (e.keepEvent code value true).evtFault.isSome = true := by
  show Option.isSome (if true && e.evtFault.isNone then some e.pc else e.evtFault) = true
  cases e.evtFault <;> rfl

theorem execEvt_eq (n ra code : Nat) (fault : Bool) (s : State) : exec (.evt n ra code fault) s =
    .next (s.instr n 2 fun s => s.modEngine n (·.keepEvent code (s.rgBits n ra) fault)) := rfl

theorem execEvt_keeps (ra code : Nat) (fault : Bool) (h : s.executes n) :
    ∃ t, exec (.evt n ra code fault) s = .next t ∧ s.stepped t n 2 ∧
      (t.engine n).events = (s.engine n).events ++ [(0x54, (s.engine n).pc, code % 2 ^ 16, s.rgBits n ra)] ∧
      (fault = true → (t.engine n).evtFault.isSome = true) := by
  have hgo : s.GoesOn n (s.modEngine n (·.keepEvent code (s.rgBits n ra) fault)) :=
    State.goesOn_modEngine (fun _ => rfl) (fun _ => rfl) fun _ => rfl
  have hengine := s.engine_modEngine (·.keepEvent code (s.rgBits n ra) fault) h.listed
  refine ⟨_, (execEvt_eq ..).trans (congrArg Host.Outcome.next (State.instr_advances h hgo)),
    State.advance_stepped h hgo, ?_, fun hfault => ?_⟩
  · rw [State.advance_keeps Engine.events fun _ _ _ => rfl, hengine]
    rfl
  · rw [State.advance_keeps Engine.evtFault fun _ _ _ => rfl, hengine, hfault]
    exact Engine.keepEvent_fault _ _ _

end

/-- Settles O23, instruction by instruction. -/
theorem engineMemoryAndStores : Obligations.EngineMemoryAndStores :=
  ⟨fun _ _ => execLd_narrow, fun _ _ => execLd_wide, fun _ _ => execSt_storesNarrow, fun _ _ => execSt_storesWide,
    fun _ _ => execSt_poisoned, fun _ _ => execLds_samples, fun _ _ => execWait_waits, fun _ => execWaitDeadline_ends,
    fun _ _ _ _ _ => execInj_requests, fun _ _ _ => execStpc_stores, fun _ _ _ => execStpd_stores,
    fun _ _ _ => execStpp_stores, fun _ _ _ => execStpe_stores, fun _ _ => execEvt_keeps⟩

end Sys2Proof.Machine
end

section
/-!
Units of one kind beside each other: a command on one module, channel, comparator, ring, core, port or engine leaves the
settings of the others. A register field belongs to a unit by its index, so what such a command writes at its own index, and
the event or violation that may go with it, are all that has to be looked at.
-/
namespace Sys2Proof.Machine

/-! ### Engines -/

section
variable {s t u : State} {n : Nat}

/-- From `s` to `t` no engine but `n` changes, and no engine's memory. -/
def State.onlyEngine (s : State) (n : Nat) (t : State) : Prop :=
  (∀ k, k ≠ n → t.engine k = s.engine k) ∧ t.eng.mem = s.eng.mem

theorem State.onlyEngine.refl (s : State) (n : Nat) : s.onlyEngine n s := ⟨fun _ _ => rfl, rfl⟩

theorem State.onlyEngine.trans (h : s.onlyEngine n t) (g : t.onlyEngine n u) : s.onlyEngine n u :=
  ⟨fun k hk => (g.1 k hk).trans (h.1 k hk), g.2.trans h.2⟩

theorem State.onlyEngine_when {b : Bool} {f : State → State} (hf : s.onlyEngine n (f s)) : s.onlyEngine n (s.when b f) := by
  cases b
  · exact .refl s n
  · exact hf

theorem State.onlyEngine_each {α : Type} {f : State → α → State} (hf : ∀ (t : State) x, t.onlyEngine n (f t x)) (l : List α)
    (s : State) : s.onlyEngine n (s.each l f) := by
  induction l generalizing s with
  | nil => exact .refl s n
  | cons x l ih => exact (hf s x).trans (ih (f s x))

theorem State.onlyEngine_modEngine (s : State) (n : Nat) (f : Engine → Engine) : s.onlyEngine n (s.modEngine n f) :=
  ⟨fun _ hk => State.engine_modEngine_ne _ _ hk, rfl⟩

theorem State.onlyEngine_setRgBits (s : State) (n r v : Nat) : s.onlyEngine n (s.setRgBits n r v) := by
  unfold State.setRgBits
  split
  · exact .refl s n
  · exact s.onlyEngine_modEngine n _

theorem State.onlyEngine_setRg (s : State) (n r : Nat) (x : Fp) : s.onlyEngine n (s.setRg n r x) :=
  s.onlyEngine_setRgBits n r _

theorem State.onlyEngine_setRgs (s : State) (n r : Nat) (l : List Fp) : s.onlyEngine n (s.setRgs n r l) :=
  State.onlyEngine_each (fun t _ => t.onlyEngine_setRg n _ _) _ s

theorem State.onlyEngine_setEngFlag (s : State) (n i : Nat) (b : Bool) : s.onlyEngine n (s.setEngFlag n i b) :=
  s.onlyEngine_modEngine n _

theorem State.onlyEngine_instr {c : Nat} {f : State → State} (hf : s.onlyEngine n (f s)) : s.onlyEngine n (s.instr n c f) := by
  unfold State.instr
  split
  · exact hf.trans (State.onlyEngine_when (State.onlyEngine_modEngine _ n _))
  · exact .refl s n

/-- Each of these instructions changes registers, flags or the place in the program of its own engine alone. -/
theorem exec_arithmetic (c : Instr) (hc : c.arithmeticOf = some n) (s : State) :
    ∃ t, exec c s = .next t ∧ s.onlyEngine n t :=
  match c, hc with
  | .nop _, rfl => ⟨_, rfl, State.onlyEngine_instr (.refl s n)⟩
  | .ldk _ _ _, rfl => ⟨_, rfl, State.onlyEngine_instr (s.onlyEngine_setRgBits n _ _)⟩
  | .add _ _ _ _, rfl | .sub _ _ _ _, rfl | .mul _ _ _ _, rfl | .mac _ _ _ _ _, rfl | .div _ _ _ _, rfl
  | .sqrt _ _ _, rfl | .abs _ _ _, rfl => ⟨_, rfl, State.onlyEngine_instr (s.onlyEngine_setRg n _ _)⟩
  | .sincos _ _ _, rfl | .clarke _ _ _ _ _, rfl | .park _ _ _ _ _, rfl | .ipark _ _ _ _ _, rfl =>
    ⟨_, rfl, State.onlyEngine_instr (s.onlyEngine_setRgs n _ _)⟩
  | .lim _ _ _ _ _, rfl =>
    ⟨_, rfl, State.onlyEngine_instr ((s.onlyEngine_setRgBits n _ _).trans (State.onlyEngine_setEngFlag _ n 1 _))⟩
  | .clim _ _ _ _ _ _, rfl =>
    ⟨_, rfl, State.onlyEngine_instr ((s.onlyEngine_setRgs n _ _).trans (State.onlyEngine_setEngFlag _ n 1 _))⟩
  | .cmpf _ _ _ _ _, rfl | .evry _ _ _ _, rfl => ⟨_, rfl, State.onlyEngine_instr (s.onlyEngine_setEngFlag n _ _)⟩
  | .skip _ _ _ _, rfl => ⟨_, rfl, State.onlyEngine_instr (State.onlyEngine_when (s.onlyEngine_modEngine n _))⟩

theorem exec_arithmetic_otherEngine {c : Instr} {k : Nat} (ht : exec c s = .next t) (hc : c.arithmeticOf = some n)
    (hk : k ≠ n) : t.engine k = s.engine k ∧ ∀ i, t.engWord k i = s.engWord k i := by
  obtain ⟨u, hu, hengine, hmem⟩ := exec_arithmetic c hc s
  cases hu.symm.trans ht
  exact ⟨hengine k hk, fun i => congrArg (fun m : SMap => m.get (k, i) 0) hmem⟩

theorem execLessonRunStart_otherEngine (s : State) (n j : Nat) (hj : j ≠ n) : ∃ t, exec (.lessonRunStart n) s = .next t ∧
    t.engine j = s.engine j ∧ t.fld .LE_STAT_RUNNING j = s.fld .LE_STAT_RUNNING j := by
  refine ⟨_, rfl, ?_⟩
  split
  · exact ⟨State.engine_modEngine_ne s _ hj, State.fld_setFld_ne _ _ fun e => hj e.2⟩
  · exact ⟨rfl, rfl⟩

end

/-! ### Register fields of another unit -/

section
variable {F : Fld} {I V i j n m c q p core addr : Nat} {s : State}

/-- A write to one unit's field leaves every field of another unit. -/
theorem State.setFld_otherUnit {g : Fld} (x : Nat) (hI : I ≠ i) (h : Still F I V s) : Still F I V (s.setFld g i x) :=
  (State.fld_setFld_ne _ x fun e => hI e.2).trans h

/-- A field that neither a violation nor an event writes. -/
abbrev Fld.Unreported (F : Fld) : Prop := State.violation_writes.testBit F.ctorIdx = false

/-- From `s` to `t` unit `j` of every kind has its fields as before, but those of a violation or an event. -/
def State.unitStands (s : State) (j : Nat) (t : State) : Prop := ∀ F : Fld, F.Unreported → t.fld F j = s.fld F j

theorem Fld.Unreported.discarded (hF : F.Unreported) (b : Blk) (addr : Nat) (h : Still F I V s) :
    Still F I V (s.discarded b addr) :=
  s.discarded_still b addr (Wr.sub (by decide) hF) h

theorem Fld.Unreported.accessBlk (hF : F.Unreported) {b : Blk} {f : State → State} (h : Still F I V s)
    (hf : ∀ t, Still F I V t → Still F I V (f t)) : Still F I V (s.accessBlk core b addr f) :=
  s.accessBlk_still core b addr f (Wr.sub (by decide) hF) h hf

theorem Fld.Unreported.ringOwned (hF : F.Unreported) {f : State → State} (h : Still F I V s)
    (hf : ∀ t, Still F I V t → Still F I V (f t)) : Still F I V (s.ringOwned core q addr f) :=
  s.ringOwned_still core q addr f (Wr.sub (by decide) hF) h hf

/-- What a barred access leaves, and the access that is made leaves too, a core's access leaves. -/
theorem State.access_keeps {β : Type} (g : State → β) {ns : Bool} {f : State → State}
    (hfault : ∀ t : State, g (t.coreFault core 7 addr) = g t) (hviolation : g (s.violation core addr) = g s)
    (hf : g (f s) = g s) : g (s.access core addr ns f) = g s := by
  unfold State.access State.accessAs State.coreActs
  dsimp only
  split
  · split
    · exact hfault s
    · split
      · exact (hfault _).trans hviolation
      · exact hf
  · rfl

/-! ### PWM modules -/

theorem State.commitShd_otherUnit (w v : Nat) (direct : Bool) (hI : I ≠ m) (h : Still F I V s) :
    Still F I V (s.commitShd m w v direct) := by
  unfold State.commitShd
  refine Still.ite ?counted (State.setFld_otherUnit _ hI (State.setFld_otherUnit _ hI ?counted))
  exact State.modPm_still _ _ _
    (Still.whenIf (Still.ite h (State.modPm_still _ _ _ h)) fun _ ht => State.setFld_otherUnit _ hI ht)

theorem State.shdHighWrite_otherUnit (w v : Nat) (hF : F.Unreported) (hI : I ≠ m) (h : Still F I V s) :
    Still F I V (s.shdHighWrite core m w v) := by
  unfold State.shdHighWrite
  refine Still.ite h ?_
  split
  next => exact Still.ite (State.commitShd_otherUnit _ _ _ hI h) (hF.discarded _ _ (hF.discarded _ _ h))
  next => exact hF.discarded _ _ h

theorem execPwmShadowHighWrite_otherUnit (s : State) (core w v : Nat) (hj : j ≠ m) :
    ∃ t, exec (.pwmShadowHighWrite core m w v) s = .next t ∧ s.unitStands j t :=
  ⟨_, rfl, fun _ hF => hF.accessBlk rfl fun _ ht => Still.ite (State.shdHighWrite_otherUnit w v hF hj ht) ht⟩

theorem execPwmArmWrite_otherUnit (s : State) (core : Nat) (on : Bool) (hj : j ≠ m) :
    ∃ t, exec (.pwmArmWrite core m on) s = .next t ∧ s.unitStands j t :=
  ⟨_, rfl, fun _ hF => hF.accessBlk rfl fun _ ht => Still.whenIf ht fun _ hu => State.setFld_otherUnit _ hj hu⟩

theorem State.intWrite_otherUnit (isel presc : Nat) (ien clr : Bool) (hI : I ≠ m) (h : Still F I V s) :
    Still F I V (s.intWrite m isel presc ien clr) := by
  have hset : Still F I V (((s.setFld .PWM_INT_ISEL m isel).setFld .PWM_INT_PRESC m presc).setFlag .PWM_INT_IEN m ien) :=
    State.setFld_otherUnit _ hI (State.setFld_otherUnit _ hI (State.setFld_otherUnit _ hI h))
  unfold State.intWrite
  exact Still.ite h (Still.whenIf (Still.whenIf hset fun _ ht => State.setFld_otherUnit _ hI ht)
    fun _ ht => State.setFld_otherUnit _ hI ht)

theorem execPwmIntWrite_otherUnit (s : State) (core isel presc : Nat) (ien clr : Bool) (hj : j ≠ m) :
    ∃ t, exec (.pwmIntWrite core m isel presc ien clr) s = .next t ∧ s.unitStands j t :=
  ⟨_, rfl, fun _ hF => hF.accessBlk rfl fun _ ht => State.intWrite_otherUnit isel presc ien clr hj ht⟩

/-! ### Modulator channels and comparators -/

theorem State.fdlyWrite_otherUnit (v : Nat) (hF : F.Unreported) (hI : I ≠ n) (h : Still F I V s) :
    Still F I V (s.fdlyWrite n v) := by
  unfold State.fdlyWrite
  exact Still.ite h (Still.ite (hF.discarded _ _ h) (State.modChan_still _ _ _ (State.setFld_otherUnit _ hI h)))

theorem State.fdlyWrite_otherChan (s : State) (v : Nat) (hj : j ≠ n) : (s.fdlyWrite n v).chan j = s.chan j := by
  unfold State.fdlyWrite
  split
  · rfl
  · split
    · exact congrArg (fun l : List ModChan => l.getD j {}) (State.emit_sd _ _ _)
    · exact State.chan_modChan_ne _ _ hj

theorem execModFdlyWrite_otherUnit (s : State) (core v : Nat) (hj : j ≠ n) :
    ∃ t, exec (.modFdlyWrite core n v) s = .next t ∧ s.unitStands j t ∧ t.chan j = s.chan j :=
  ⟨_, rfl, fun _ hF => hF.accessBlk rfl fun _ ht => State.fdlyWrite_otherUnit v hF hj ht,
    State.access_keeps (·.chan j) (fun _ => rfl) (congrArg (fun l : List ModChan => l.getD j {}) (State.violation_sd _ _ _))
      (s.fdlyWrite_otherChan v hj)⟩

/-- The comparator is judged anew, and a trip may follow: what both can write are not the thresholds. -/
theorem State.wcThr_otherUnit (lo hi : Nat) (hF : State.setLevel_writes.testBit F.ctorIdx = false) (hI : I ≠ c)
    (h : Still F I V s) : Still F I V (s.wcThr c lo hi) := by
  unfold State.wcThr
  exact Still.ite h (Still.ite
    (State.setLevel_still _ _ _ hF (State.setFld_otherUnit _ hI (State.setFld_otherUnit _ hI h)))
    (State.discarded_still _ _ _ (Wr.sub (by decide) hF) h))

theorem execWcThrWrite_otherUnit (s : State) (core lo hi : Nat) (hj : j ≠ c) :
    ∃ t, exec (.wcThrWrite core c lo hi) s = .next t ∧
      ∀ F : Fld, State.setLevel_writes.testBit F.ctorIdx = false → t.fld F j = s.fld F j :=
  ⟨_, rfl, fun _ hF => State.accessBlk_still _ _ _ _ _ (Wr.sub (by decide) hF) rfl fun _ ht =>
    State.wcThr_otherUnit lo hi hF hj ht⟩

/-! ### Rings -/

theorem State.ringCfgSet_otherUnit (v : Nat) (hF : F.Unreported) (hI : I ≠ q) (h : Still F I V s) :
    Still F I V (s.ringCfgSet q v) := by
  have hset (x y z : Nat) :
      Still F I V (((s.setFld .RING_CFG_SIZE_L2 q x).setFld .RING_CFG_OWNER q y).setFld .RING_CFG_IRQ q z) :=
    State.setFld_otherUnit _ hI (State.setFld_otherUnit _ hI (State.setFld_otherUnit _ hI h))
  unfold State.ringCfgSet
  exact Still.ite (State.setFld_otherUnit _ hI (hset _ _ _))
    (Still.ite (State.setFld_otherUnit _ hI (hset _ _ _)) (hF.discarded _ _ (hset _ _ _)))

theorem execRingCfgWrite_otherUnit (s : State) (core v : Nat) (hj : j ≠ q) :
    ∃ t, exec (.ringCfgWrite core q v) s = .next t ∧ s.unitStands j t :=
  ⟨_, rfl, fun _ hF => Still.ite (hF.ringOwned rfl fun _ ht => State.ringCfgSet_otherUnit v hF hj ht) rfl⟩

theorem execRingHaltClear_otherUnit (s : State) (core : Nat) (hj : j ≠ q) :
    ∃ t, exec (.ringHaltClear core q) s = .next t ∧ s.unitStands j t :=
  ⟨_, rfl, fun _ hF => Still.ite (hF.ringOwned rfl fun _ ht => State.setFld_otherUnit _ hj ht) rfl⟩

/-- An event record moves HEAD of Q10 alone. -/
theorem State.emit_otherHead (b : Blk) (payload : Nat) (hj : j ≠ 10) (h : Still .RING_HEAD_HEAD j V s) :
    Still .RING_HEAD_HEAD j V (s.emit b payload) := by
  have hraise (t : State) (ht : Still .RING_HEAD_HEAD j V t) : Still .RING_HEAD_HEAD j V (t.raiseRing 10) :=
    (t.raiseRing_fld 10 (by decide)).trans ht
  unfold State.emit
  exact Still.ite (Still.whenIf (State.setFld_otherUnit _ hj h) hraise)
    ((State.fld_setFld_ne _ _ fun e => Fld.noConfusion e.1).trans h)

theorem State.violation_otherHead (init addr : Nat) (hj : j ≠ 10) (h : Still .RING_HEAD_HEAD j V s) :
    Still .RING_HEAD_HEAD j V (s.violation init addr) := by
  have hset : Still .RING_HEAD_HEAD j V ((s.setFld .SEC_VIOL_INIT 0 init).setFld .SEC_VIOLA 0 addr) :=
    (State.fld_setFld_ne _ _ fun e => Fld.noConfusion e.1).trans
      ((State.fld_setFld_ne _ _ fun e => Fld.noConfusion e.1).trans h)
  unfold State.violation
  exact Still.ite hset (State.emit_otherHead _ _ hj hset)

theorem execRingHeadWrite_otherHead (s : State) (core v : Nat) (hj : j ≠ q) (h10 : j ≠ 10) :
    ∃ t, exec (.ringHeadWrite core q v) s = .next t ∧ t.fld .RING_HEAD_HEAD j = s.fld .RING_HEAD_HEAD j := by
  have hstart : Still .RING_HEAD_HEAD j (s.fld .RING_HEAD_HEAD j) s := rfl
  have hset : Still .RING_HEAD_HEAD j (s.fld .RING_HEAD_HEAD j) (s.ringHeadSet q v) :=
    Still.ite hstart (State.setFld_otherUnit _ hj hstart)
  exact ⟨_, rfl, Still.ite (State.access_keeps (·.fld .RING_HEAD_HEAD j) (fun _ => rfl)
    (State.violation_otherHead _ _ h10 hstart) (Still.ite hset (State.emit_otherHead _ _ h10 hstart))) hstart⟩

/-! ### Machine timers and ports -/

theorem State.timerCheck_mtcmp (s : State) (core : Nat) : (s.timerCheck core).tut.mtcmp = s.tut.mtcmp :=
  State.when_keeps (f := fun t => { t with tut := { t.tut with wfi := setBitTo t.tut.wfi core false } }) (·.tut.mtcmp)
    (fun _ => rfl) _ _

theorem State.mtcmpHigh_otherMtcmp (s : State) (v : Nat) (hj : j ≠ core) :
    (s.mtcmpHigh core v).tut.mtcmp.getD j 0 = s.tut.mtcmp.getD j 0 := by
  unfold State.mtcmpHigh
  rw [State.timerCheck_mtcmp]
  simp [List.getD, hj.symm]

theorem State.mtcmpHigh_otherUnit (v : Nat) (hI : I ≠ core) (h : Still F I V s) : Still F I V (s.mtcmpHigh core v) :=
  State.timerCheck_still _ _ (State.setFld_otherUnit _ hI (State.setFld_otherUnit _ hI (Still.upd h)))

theorem execTutMtcmphWrite_otherUnit (s : State) (v : Nat) (hj : j ≠ core) :
    ∃ t, exec (.tutMtcmphWrite core v) s = .next t ∧ (∀ F : Fld, t.fld F j = s.fld F j) ∧
      t.tut.mtcmp.getD j 0 = s.tut.mtcmp.getD j 0 := by
  refine ⟨_, rfl, fun _ => State.coreActs_still _ _ _ rfl fun _ ht => State.mtcmpHigh_otherUnit v hj ht, ?_⟩
  unfold State.coreActs
  split
  · exact s.mtcmpHigh_otherMtcmp v hj
  · rfl

theorem execEthLinkChange_otherUnit (s : State) (up : Bool) (spd : Nat) (fdx : Bool) (hj : j ≠ p) :
    ∃ t, exec (.ethLinkChange p up spd fdx) s = .next t ∧ ∀ F : Fld, t.fld F j = s.fld F j :=
  ⟨_, rfl, fun _ => Still.ite rfl (Still.ite (State.setFld_otherUnit _ hj rfl)
    (State.setFld_otherUnit _ hj (State.setFld_otherUnit _ hj (State.setFld_otherUnit _ hj rfl))))⟩

theorem execCanBusOffRecovery_otherUnit (s : State) (hj : j ≠ p) :
    ∃ t, exec (.canBusOffRecovery p) s = .next t ∧ ∀ F : Fld, t.fld F j = s.fld F j :=
  ⟨_, rfl, fun _ => Still.ite
    (State.setFld_otherUnit _ hj (State.setFld_otherUnit _ hj (State.setFld_otherUnit _ hj rfl))) rfl⟩

end

/-- Settles O59, command by command. -/
theorem instanceFrames : Obligations.InstanceFrames := by
  refine ⟨fun _ _ _ _ _ => exec_arithmetic_otherEngine, ?shadow, ?arm, ?interrupt, ?delay, ?thresholds, ?config, ?head, ?halt,
    ?timer, ?link, ?busOff, fun s n j => execLessonRunStart_otherEngine s n j⟩
  case shadow =>
    intro s core m w v j hj
    obtain ⟨t, ht, hunit⟩ := execPwmShadowHighWrite_otherUnit s core w v hj
    exact ⟨t, ht, hunit _ (by decide), hunit _ (by decide), hunit _ (by decide), hunit _ (by decide), hunit _ (by decide),
      hunit _ (by decide)⟩
  case arm =>
    intro s core m j on hj
    obtain ⟨t, ht, hunit⟩ := execPwmArmWrite_otherUnit s core on hj
    exact ⟨t, ht, hunit _ (by decide)⟩
  case interrupt =>
    intro s core m isel presc j ien clr hj
    obtain ⟨t, ht, hunit⟩ := execPwmIntWrite_otherUnit s core isel presc ien clr hj
    exact ⟨t, ht, hunit _ (by decide), hunit _ (by decide), hunit _ (by decide), hunit _ (by decide)⟩
  case delay =>
    intro s core n fdly j hj
    obtain ⟨t, ht, hunit, hchan⟩ := execModFdlyWrite_otherUnit s core fdly hj
    exact ⟨t, ht, hunit _ (by decide), hchan⟩
  case thresholds =>
    intro s core c lo hi j hj
    obtain ⟨t, ht, hunit⟩ := execWcThrWrite_otherUnit s core lo hi hj
    exact ⟨t, ht, hunit _ (by decide), hunit _ (by decide)⟩
  case config =>
    intro s core q v j hj
    obtain ⟨t, ht, hunit⟩ := execRingCfgWrite_otherUnit s core v hj
    exact ⟨t, ht, hunit _ (by decide), hunit _ (by decide), hunit _ (by decide), hunit _ (by decide)⟩
  case head => exact fun s core q v j => execRingHeadWrite_otherHead s core v
  case halt =>
    intro s core q j hj
    obtain ⟨t, ht, hunit⟩ := execRingHaltClear_otherUnit s core hj
    exact ⟨t, ht, hunit _ (by decide)⟩
  case timer =>
    intro s core v j hj
    obtain ⟨t, ht, hunit, hmtcmp⟩ := execTutMtcmphWrite_otherUnit s v hj
    exact ⟨t, ht, hmtcmp, hunit _, hunit _⟩
  case link =>
    intro s p spd j up fdx hj
    obtain ⟨t, ht, hunit⟩ := execEthLinkChange_otherUnit s up spd fdx hj
    exact ⟨t, ht, hunit _, hunit _, hunit _⟩
  case busOff =>
    intro s p j hj
    obtain ⟨t, ht, hunit⟩ := execCanBusOffRecovery_otherUnit s hj
    exact ⟨t, ht, hunit _, hunit _, hunit _⟩

end Sys2Proof.Machine
end

section
/-!
Counter events of the PWM modules (08 R219, R224): where the statement about them fails.
-/
namespace Sys2Proof.Machine

/-- The counter of module 0 counts up with LINKOUT selecting its zero event, and a restart has left a LINKOUT that selects
none to wait for the period start (08 R224). -/
def endingLinkOut : State :=
  ((State.reset.setFld .PWM_RUN_CNT_EN 0 1).setFld .PWM_CTRL_LINKOUT 0 1).modPm 0
    (fun p => { p with wait := [((.PWM_CTRL_LINKOUT, 0), 0)] })

set_option maxRecDepth 6000 in
/-- The zero event is that period start: the new LINKOUT is in force before the pulse would be sent. -/
theorem execPwmZeroEvent_endingLinkOut : ∃ t, exec (.pwmZeroEvent 0 []) endingLinkOut = .next t ∧ t.pwm.links = [] :=
  ⟨_, rfl, by decide⟩

/-- Refutes O16: the zero event of a counter that does not count down sends no link pulse, though LINKOUT selects one
before it, where a waiting LINKOUT that selects none takes effect at it. -/
theorem not_pwmCounterEvents : ¬ Obligations.PwmCounterEvents := by
  intro h
  obtain ⟨hzero, -⟩ := h
  obtain ⟨t, ht, -, -, hlink, -⟩ := hzero endingLinkOut 0 [] (by decide) (by decide)
  obtain ⟨u, hu, hnone⟩ := execPwmZeroEvent_endingLinkOut
  obtain rfl : t = u := Host.Outcome.next.inj (ht.symm.trans hu)
  have hsent := hlink (by decide) (by decide)
  rw [hnone] at hsent
  exact absurd hsent Bool.false_ne_true

end Sys2Proof.Machine
end

section
/-!
Enables and starts of the PWM modules (08 R216 to R220; 09 R240, R242; 18 R435).
-/
namespace Sys2Proof.Machine

section
variable {s t u : State} {core m j : Nat}

/-! ### Stores that reach their block -/

theorem State.accessBlk_reaches {b : Blk} {addr : Nat} (h : s.reaches core b addr) (f : State → State) :
    s.accessBlk core b addr f = f s :=
  State.accessAs_lets h.1 h.2.1 h.2.2 f

theorem State.flag_eq_true {F : Fld} (h : s.fld F j = 1) : s.flag F j = true := by
  rw [State.flag, h]; rfl

/-! ### Pads that cease to follow -/

theorem State.edgeRecord_pwm (s : State) (m kind inst : Nat) (tripf carry : Bool) :
    (s.edgeRecord m kind inst tripf carry).pwm = s.pwm :=
  State.edgeRecord_same (P := .pwm) (s0 := s) s m kind inst tripf carry (by decide) rfl

theorem State.edgeRecord_gate (s : State) (m kind inst : Nat) (tripf carry : Bool) :
    (s.edgeRecord m kind inst tripf carry).gate = s.gate :=
  State.edgeRecord_same (P := .gate) (s0 := s) s m kind inst tripf carry (by decide) rfl

/-- A side's level at the output stage, and the refresh count that a fall of the high side restarts (09 R237). -/
def PwmMod.drive (low lvl : Bool) (p : PwmMod) : PwmMod :=
  if low then { p with outLo := lvl }
  else if lvl then { p with outHi := true } else { p with outHi := false, stayed := false, refCount := 0 }

theorem PwmMod.drive_mode (low lvl : Bool) (p : PwmMod) : (p.drive low lvl).mode = p.mode := by
  cases low <;> cases lvl <;> rfl

theorem State.setSide_cases (s : State) (m : Nat) (low lvl : Bool) (inst : Nat) (tripf carry : Bool) :
    s.setSide m low lvl inst tripf carry = s ∨
      (s.setSide m low lvl inst tripf carry).pwm = (s.modPm m (PwmMod.drive low lvl)).pwm ∧
      (s.setSide m low lvl inst tripf carry).gate.held = s.gate.held := by
  by_cases hlevel : (if low then (s.pm m).outLo else (s.pm m).outHi) = lvl
  · exact .inl (if_pos hlevel)
  · rw [State.setSide, if_neg hlevel]
    exact .inr ⟨(State.when_keeps (·.pwm) (fun _ => by rfl) _ _).trans (State.edgeRecord_pwm _ _ _ _ _ _),
      (State.when_keeps (·.gate.held) (fun _ => by rfl) _ _).trans
        (congrArg GateSt.held (State.edgeRecord_gate _ _ _ _ _ _))⟩

theorem State.setSide_held (s : State) (m : Nat) (low lvl : Bool) (inst : Nat) (tripf carry : Bool) :
    (s.setSide m low lvl inst tripf carry).gate.held = s.gate.held := by
  obtain hsame | ⟨-, hheld⟩ := s.setSide_cases m low lvl inst tripf carry
  · rw [hsame]
  · exact hheld

theorem State.setSide_mode (s : State) (low lvl : Bool) (inst : Nat) (tripf carry : Bool) (hm : m < s.pwm.mods.length) :
    m < (s.setSide m low lvl inst tripf carry).pwm.mods.length ∧
      ((s.setSide m low lvl inst tripf carry).pm m).mode = (s.pm m).mode := by
  obtain hsame | ⟨hpwm, -⟩ := s.setSide_cases m low lvl inst tripf carry
  · rw [hsame]; exact ⟨hm, rfl⟩
  · rw [State.pm, hpwm]
    exact ⟨(modAt_length _ _ _ _).symm ▸ hm, (congrArg PwmMod.mode (s.pm_modPm _ hm)).trans (PwmMod.drive_mode _ _ _)⟩

theorem State.padsOff_held (s : State) (m : Nat) (mode : PadMode) (tripf : Bool) :
    (s.padsOff m mode tripf).gate.held = s.gate.held :=
  (State.setSide_held _ _ _ _ _ _ _).trans (State.setSide_held _ _ _ _ _ _ _)

theorem State.padsOff_mode (s : State) (mode : PadMode) (tripf : Bool) (hm : m < s.pwm.mods.length) :
    ((s.padsOff m mode tripf).pm m).mode = mode := by
  have hleft : m < (s.leaveFollow m mode).pwm.mods.length := by
    simpa [State.leaveFollow, State.modPm] using hm
  obtain ⟨hhigh, hhighMode⟩ :=
    State.setSide_mode _ false ((mode == .safe) && (s.leaveFollow m mode).flag .PWM_CTRL_SH m) (s.leaveFollow m mode).nowTaps
      tripf false hleft
  exact (State.setSide_mode _ true _ _ tripf false hhigh).2.trans
    (hhighMode.trans (congrArg PwmMod.mode (s.pm_modPm _ hm)))

theorem State.stage1_held (s : State) (k m : Nat) (tripf : Bool) : (s.stage1 k m tripf).gate.held = s.gate.held :=
  (State.setSide_held _ _ _ _ _ _ _).trans (State.setSide_held _ _ _ _ _ _ _)

theorem State.legOff_held (s : State) (k : Nat) (tripf : Bool) : (s.legOff k tripf).gate.held = s.gate.held :=
  s.each_keeps (·.gate.held) (fun u x => u.stage1_held k x tripf) (s.legMods k)

theorem State.putDown_held (s : State) (m : Nat) (mode : PadMode) (tripf : Bool) :
    (s.putDown m mode tripf).gate.held = s.gate.held := by
  unfold State.putDown
  split
  · split
    · rfl
    · exact s.padsOff_held m mode tripf
  · repeat' split
    · rfl
    · exact s.legOff_held _ tripf
    · rfl
    · exact s.padsOff_held m mode tripf

/-- The pads of a module in no leg do not follow once a cause sends them low. -/
theorem State.putDown_low_mode (hm : m < s.pwm.mods.length) (hleg : s.legOf m = none) :
    ((s.putDown m .low false).pm m).mode ≠ .follow := by
  rw [State.putDown, hleg]
  dsimp only
  split
  case isTrue hstays =>
    intro hfollow
    rw [State.staysDown, hfollow] at hstays
    exact absurd hstays (by simp)
  case isFalse => rw [s.padsOff_mode .low false hm]; decide

/-! ### OUTEN -/

theorem State.clearOuten_outen (s : State) (m : Nat) : (s.clearOuten m).fld .PWM_RUN_OUTEN m = 0 := by
  have hcleared : Still .PWM_RUN_OUTEN m 0 (s.setFld .PWM_RUN_OUTEN m 0) := by simp [Still]
  exact Still.whenIf hcleared fun u hu => State.putDown_still u m _ _ (by decide) hu

theorem State.clearOuten_held (s : State) (m : Nat) : (s.clearOuten m).gate.held = s.gate.held :=
  State.when_keeps (·.gate.held) (fun u => u.putDown_held m .low false) _ _

/-- The pads of a module in no leg do not follow once OUTEN is cleared: they are low, or a trip holds them at the safe
level. -/
theorem State.clearOuten_mode (hm : m < s.pwm.mods.length) (hleg : s.legOf m = none) :
    ((s.clearOuten m).pm m).mode ≠ .follow := by
  have hleg' : (s.setFld .PWM_RUN_OUTEN m 0).legOf m = none := by
    rw [← hleg]; simp [State.legOf, State.legMods]
  unfold State.clearOuten State.when
  dsimp only
  split
  · exact State.putDown_low_mode hm hleg'
  case isFalse hlow =>
    intro hfollow
    exact hlow (by simp [State.lowCause, hfollow])

theorem State.cancelHeld_not_held (s : State) (m : Nat) (outen : Bool) :
    (m, outen) ∉ (s.cancelHeld m outen).gate.held := by
  simp [State.cancelHeld]

theorem State.outenWrite_clears (hpm : s.hasPm m = true) (w : Wing) :
    s.outenWrite w m false = (s.cancelHeld m true).clearOuten m := by
  simp [State.outenWrite, hpm]

theorem State.outenWrite_discarded {w : Wing} (hpm : s.hasPm m = true) (hw : s.isEntitled w m = false) :
    s.outenWrite w m true = s.discarded .pwm (pwmAddr m 4) := by
  simp [State.outenWrite, hpm, hw]

theorem State.outenWrite_refused {w : Wing} (hpm : s.hasPm m = true) (hw : s.isEntitled w m = true)
    (h : s.prefectBlocks = true ∨ (s.bit .GI_SHUT_BUSY 0 m = false ∧ s.bit .GI_LOCKED_LOCK 0 m = true)) :
    s.outenWrite w m true = s.gateNow 0x34 0xFF (2 ^ m) := by
  cases hblocks : s.prefectBlocks
  case true => simp [State.outenWrite, hpm, hw, hblocks]
  case false =>
    obtain ⟨hbusy, hlock⟩ := h.resolve_left (by simp [hblocks])
    simp [State.outenWrite, hpm, hw, hblocks, hbusy, hlock]

theorem State.outenWrite_held {w : Wing} (hpm : s.hasPm m = true) (hw : s.isEntitled w m = true)
    (hblocks : s.prefectBlocks = false) (hbusy : s.bit .GI_SHUT_BUSY 0 m = true) :
    s.outenWrite w m true = s.holdWrite m true := by
  simp [State.outenWrite, hpm, hw, hblocks, hbusy]

theorem State.outenWrite_sets {w : Wing} (hpm : s.hasPm m = true) (hw : s.isEntitled w m = true)
    (hblocks : s.prefectBlocks = false) (hbusy : s.bit .GI_SHUT_BUSY 0 m = false)
    (hlock : s.bit .GI_LOCKED_LOCK 0 m = false) :
    s.outenWrite w m true = s.setOuten m := by
  simp [State.outenWrite, hpm, hw, hblocks, hbusy, hlock]

theorem execPwmOutenWrite_reaches (h : s.reaches core .pwm (pwmAddr m 4)) (on : Bool) :
    exec (.pwmOutenWrite core m on) s = .next (s.outenWrite (coreWing core) m on) :=
  congrArg Host.Outcome.next (State.accessBlk_reaches h _)

/-! ### Held writes and gate events -/

theorem State.gateNow_tells {code : Nat} (hcode : code < 256) (hports : t.ports = s.ports)
    (hsize : t.fld .RING_CFG_SIZE_L2 10 = s.fld .RING_CFG_SIZE_L2 10) (entry mask : Nat) :
    s.tells (t.gateNow code entry mask) .gate code :=
  State.emit_tells _ _ _ (by omega) hports hsize

/-- The write is held and DEFER shows it, before the event that tells of it (09 R242). -/
def State.deferred (s : State) (m : Nat) (outen : Bool) : State :=
  State.setBit { s with gate := { s.gate with held := s.gate.held.filter (· != (m, outen)) ++ [(m, outen)] } }
    .GI_DEFER_DEFER 0 m true

theorem State.holdWrite_eq (s : State) (m : Nat) (outen : Bool) :
    s.holdWrite m outen = (s.deferred m outen).gateNow 0x33 0xFF (2 ^ m) := rfl

theorem State.holdWrite_held (s : State) (m : Nat) (outen : Bool) : (m, outen) ∈ (s.holdWrite m outen).gate.held := by
  rw [State.holdWrite_eq, State.gateNow, State.gateEvent, State.emit_gate]
  exact List.mem_append_right _ (List.mem_singleton_self _)

theorem State.holdWrite_defers (s : State) (outen : Bool) (hm : m < 24) :
    (s.holdWrite m outen).bit .GI_DEFER_DEFER 0 m = true := by
  have hwidth : m < Fld.width .GI_DEFER_DEFER := hm
  rw [State.holdWrite_eq, State.gateNow, State.gateEvent, State.emit_bit _ _ _ (by decide) (by decide) (by decide)]
  simp [State.deferred, hwidth]

theorem State.holdWrite_tells (s : State) (m : Nat) (outen : Bool) : s.tells (s.holdWrite m outen) .gate 0x33 := by
  have hsize : (s.deferred m outen).fld .RING_CFG_SIZE_L2 10 = s.fld .RING_CFG_SIZE_L2 10 := by simp [State.deferred]
  exact State.gateNow_tells (s := s) (t := s.deferred m outen) (by decide) rfl hsize _ _

/-! ### Loading the count -/

/-- The count and direction that a load of LOADCNT reaches `later` ticks after it: above PER it loads PER (08 R190, R220). -/
def State.loaded (s : State) (m later : Nat) : Nat × Bool :=
  countAt (s.fld .PWM_CTRL_CMODE m) (s.per m)
    ((posOf (s.fld .PWM_CTRL_CMODE m) (s.per m) (min (s.fld .PWM_LOAD_LOADCNT m) (s.per m))
      (s.flag .PWM_LOAD_LOADDIR m) + later) % periodTicks (s.fld .PWM_CTRL_CMODE m) (s.per m))

/-- The count and direction of module `m`. -/
def State.counter (s : State) (m : Nat) : Nat × Bool := (s.fld .PWM_CNT_CNT m, s.flag .PWM_STAT_DIR m)

theorem countAt_le (mode per x : Nat) : (countAt mode per (x % periodTicks mode per)).1 ≤ per := by
  by_cases hdown : mode = 1
  · simp [countAt, hdown]
  · by_cases hupdown : mode = 2
    · simp only [countAt, if_neg hdown, if_pos hupdown]
      split
      case isTrue hrising => exact hrising.le
      case isFalse hfalling =>
        show 2 * per - _ ≤ per
        omega
    · simp only [countAt, periodTicks, if_neg hdown, if_neg hupdown]
      exact Nat.le_of_lt_succ (Nat.mod_lt _ (Nat.succ_pos _))

theorem State.loaded_lt (s : State) (m later : Nat) : (s.loaded m later).1 < 2 ^ 20 :=
  Nat.lt_of_le_of_lt (countAt_le _ _ _) (Nat.mod_lt _ (by decide))

theorem State.loadCount_eq (s : State) (m later : Nat) : s.loadCount m later =
    (s.setFld .PWM_CNT_CNT m (s.loaded m later).1).setFlag .PWM_STAT_DIR m (s.loaded m later).2 := rfl

theorem State.loadCount_counter (s : State) (m later : Nat) : (s.loadCount m later).counter m = s.loaded m later := by
  have hfits : (s.loaded m later).1 % 2 ^ Fld.width .PWM_CNT_CNT = (s.loaded m later).1 :=
    Nat.mod_eq_of_lt (s.loaded_lt m later)
  simp [State.loadCount_eq, State.counter, hfits]

/-! ### Starting a counter -/

/-- From `s` to `t` every field of unit `j` of every kind stays. -/
def State.keepsUnit (s : State) (j : Nat) (t : State) : Prop := ∀ F : Fld, t.fld F j = s.fld F j

theorem State.keepsUnit.trans (h : s.keepsUnit j t) (g : t.keepsUnit j u) : s.keepsUnit j u := fun F => (g F).trans (h F)

theorem State.keepsUnit.loaded (h : s.keepsUnit m t) (later : Nat) : t.loaded m later = s.loaded m later := by
  simp only [State.loaded, State.per, State.act, State.flag, h _]

/-- From `s` to `t` the counter of module `m` starts or restarts at LOADCNT (08 R218, R221). -/
def State.started (s t : State) (m : Nat) : Prop :=
  t.flag .PWM_RUN_CNT_EN m = true ∧ t.fld .PWM_INT_ICNT m = 0 ∧ t.counter m = s.loaded m 0

theorem State.started.after (h : s.started t m) (g : t.keepsUnit m u) : s.started u m := by
  obtain ⟨hen, hicnt, hcount⟩ := h
  refine ⟨?_, (g _).trans hicnt, ?_⟩
  · rw [← hen]; simp only [State.flag, g _]
  · rw [← hcount]; simp only [State.counter, State.flag, g _]

theorem State.started.before (h : t.started u m) (g : s.keepsUnit m t) : s.started u m := by
  obtain ⟨hen, hicnt, hcount⟩ := h
  exact ⟨hen, hicnt, hcount.trans (g.loaded 0)⟩

/-- The loaded count and the prescaler restarted, which every start does. -/
def State.restarted (s : State) (m : Nat) : State := ((s.loadCount m 0).setFld .PWM_INT_ICNT m 0).headRestart m

theorem State.headRestart_regs (s : State) (m : Nat) : (s.headRestart m).regs = s.regs :=
  State.when_keeps (·.regs) (fun _ => by rfl) _ _

theorem State.headRestart_pwm (s : State) (m : Nat) : (s.headRestart m).pwm = s.pwm :=
  State.when_keeps (·.pwm) (fun _ => by rfl) _ _

theorem State.fld_of_regs (h : t.regs = s.regs) (F : Fld) (i : Nat) : t.fld F i = s.fld F i := by
  simp only [State.fld, h]

theorem State.restarted_fld (s : State) (m : Nat) (F : Fld) (i : Nat) :
    (s.restarted m).fld F i = ((s.loadCount m 0).setFld .PWM_INT_ICNT m 0).fld F i :=
  State.fld_of_regs (State.headRestart_regs _ _) F i

theorem State.restarted_pwm (s : State) (m : Nat) : (s.restarted m).pwm = s.pwm := State.headRestart_pwm _ _

theorem State.restarted_counter (s : State) (m : Nat) : (s.restarted m).counter m = s.loaded m 0 := by
  rw [← s.loadCount_counter m 0]
  simp [State.counter, State.flag, State.restarted_fld]

theorem State.startCounter_running (h : s.flag .PWM_RUN_CNT_EN m = true) : s.startCounter m = s.restarted m := by
  simp [State.startCounter, State.restarted, h]

/-- A stopped counter that starts (08 R193, R218). -/
def State.startedAfresh (s : State) (m : Nat) : State :=
  let s := ((s.restarted m).setFld .PWM_RUN_CNT_EN m 1).setFld .PWM_STAT_RUNNING m 1
  State.modPm { s with pwm := { s.pwm with counted := true } } m
    (fun p => { p with h := false, l := false, he := false, le := false })

theorem State.startCounter_stopped (h : s.flag .PWM_RUN_CNT_EN m = false) : s.startCounter m = s.startedAfresh m := by
  simp [State.startCounter, State.restarted, State.startedAfresh, h]

theorem State.startedAfresh_fld (s : State) (m : Nat) (F : Fld) (i : Nat) : (s.startedAfresh m).fld F i =
    (((s.restarted m).setFld .PWM_RUN_CNT_EN m 1).setFld .PWM_STAT_RUNNING m 1).fld F i := by
  unfold State.startedAfresh
  rfl

theorem State.startedAfresh_counter (s : State) (m : Nat) : (s.startedAfresh m).counter m = s.loaded m 0 := by
  rw [← s.restarted_counter m]
  simp [State.counter, State.flag, State.startedAfresh_fld]

theorem State.startedAfresh_enabled (s : State) (m : Nat) : (s.startedAfresh m).fld .PWM_RUN_CNT_EN m = 1 := by
  simp [State.startedAfresh_fld]

theorem State.startedAfresh_runs (s : State) (m : Nat) : (s.startedAfresh m).fld .PWM_STAT_RUNNING m = 1 := by
  simp [State.startedAfresh_fld]

theorem State.startedAfresh_prescaler (s : State) (m : Nat) : (s.startedAfresh m).fld .PWM_INT_ICNT m = 0 := by
  simp [State.startedAfresh_fld, State.restarted_fld]

theorem State.startedAfresh_h (s : State) (hm : m < s.pwm.mods.length) : ((s.startedAfresh m).pm m).h = false := by
  refine congrArg PwmMod.h (State.pm_modPm _ _ ?_)
  show m < (s.restarted m).pwm.mods.length
  rwa [s.restarted_pwm m]

theorem State.startCounter_started (s : State) (m : Nat) : s.started (s.startCounter m) m := by
  cases hrun : s.flag .PWM_RUN_CNT_EN m
  case true =>
    rw [State.startCounter_running hrun]
    refine ⟨?_, by simp [State.restarted_fld], s.restarted_counter m⟩
    rw [← hrun]
    simp [State.flag, State.restarted_fld, State.loadCount_eq]
  case false =>
    rw [State.startCounter_stopped hrun]
    exact ⟨State.flag_eq_true (s.startedAfresh_enabled m), s.startedAfresh_prescaler m, s.startedAfresh_counter m⟩

theorem State.startCounter_keepsUnit (s : State) (hj : j ≠ m) : s.keepsUnit j (s.startCounter m) := by
  have hrestarted : s.keepsUnit j (s.restarted m) := fun F => by
    simp [State.restarted_fld, State.loadCount_eq, hj]
  cases hrun : s.flag .PWM_RUN_CNT_EN m
  case true => rw [State.startCounter_running hrun]; exact hrestarted
  case false =>
    rw [State.startCounter_stopped hrun]
    exact hrestarted.trans fun F => by simp [State.startedAfresh_fld, hj]

theorem State.startCounter_gstart (s : State) (m : Nat) : (s.startCounter m).pwm.gstart = s.pwm.gstart := by
  cases hrun : s.flag .PWM_RUN_CNT_EN m
  case true => rw [State.startCounter_running hrun, s.restarted_pwm m]
  case false =>
    rw [State.startCounter_stopped hrun]
    show (s.restarted m).pwm.gstart = _
    rw [s.restarted_pwm m]

/-- Starts of other modules leave the unit alone. -/
theorem State.each_startCounter_keepsUnit {l : List Nat} (hl : j ∉ l) (s : State) :
    s.keepsUnit j (s.each l State.startCounter) := by
  induction l generalizing s with
  | nil => exact fun _ => rfl
  | cons x l ih =>
    have hx : j ≠ x := fun e => hl (e ▸ List.mem_cons_self)
    exact (s.startCounter_keepsUnit hx).trans (ih (fun h => hl (List.mem_cons_of_mem _ h)) _)

/-- Of modules that start in one tick each starts at its own LOADCNT. -/
theorem State.each_startCounter_started {l : List Nat} (hl : l.Nodup) (hm : m ∈ l) (s : State) :
    s.started (s.each l State.startCounter) m := by
  induction l generalizing s with
  | nil => exact absurd hm List.not_mem_nil
  | cons x l ih =>
    obtain ⟨hx, hl⟩ := List.nodup_cons.1 hl
    by_cases e : m = x
    · subst e
      exact (s.startCounter_started m).after (State.each_startCounter_keepsUnit hx _)
    · exact (ih hl ((List.mem_cons.1 hm).resolve_left e) _).before (s.startCounter_keepsUnit e)

/-! ### CNT_EN, ARM and the starts -/

theorem execPwmCntEnWrite_reaches (h : s.reaches core .pwm (pwmAddr m 4)) (on : Bool) :
    exec (.pwmCntEnWrite core m on) s = .next (s.cntEnWrite m on) :=
  congrArg Host.Outcome.next (State.accessBlk_reaches h _)

theorem State.cntEnWrite_held (hpm : s.hasPm m = true) (hbusy : s.bit .GI_SHUT_BUSY 0 m = true) :
    s.cntEnWrite m true = s.holdWrite m false := by
  simp [State.cntEnWrite, hpm, hbusy]

theorem State.cntEnWrite_running (hpm : s.hasPm m = true) (hfree : ¬ s.bit .GI_SHUT_BUSY 0 m = true)
    (hrun : s.flag .PWM_RUN_CNT_EN m = true) : s.cntEnWrite m true = s := by
  simp [State.cntEnWrite, hpm, hfree, hrun]

theorem State.cntEnWrite_starts (hpm : s.hasPm m = true) (hfree : ¬ s.bit .GI_SHUT_BUSY 0 m = true)
    (hstop : ¬ s.flag .PWM_RUN_CNT_EN m = true) : s.cntEnWrite m true = s.startedAfresh m := by
  rw [← State.startCounter_stopped (Bool.eq_false_iff.2 hstop)]
  simp [State.cntEnWrite, hpm, hfree, hstop]

theorem State.cntEnWrite_stops (hpm : s.hasPm m = true) : s.cntEnWrite m false = (s.cancelHeld m false).stopCounter m := by
  simp [State.cntEnWrite, hpm]

theorem State.stopCounter_clears {F : Fld} (hF : State.clearOuten_writes.testBit F.ctorIdx = false)
    (hzero : (((s.setFld .PWM_RUN_CNT_EN m 0).setFld .PWM_STAT_RUNNING m 0).setFld .PWM_RUN_ARM m 0).fld F m = 0) :
    (s.stopCounter m).fld F m = 0 :=
  State.setFld_still _ _ _ _ (W := State.clearOuten_writes) (by decide) hF (State.clearOuten_still _ m hF hzero)

theorem State.stopCounter_outen (s : State) (m : Nat) : (s.stopCounter m).fld .PWM_RUN_OUTEN m = 0 :=
  (State.fld_setFld_ne _ _ (by simp)).trans (State.clearOuten_outen _ m)

theorem State.stopCounter_carry (s : State) (m : Nat) : (s.stopCounter m).fld .PWM_CARRY_CARRY m = 0 := by
  simp [State.stopCounter]

theorem execPwmArmWrite_arms (on : Bool) (h : s.reaches core .pwm (pwmAddr m 4)) :
    ∃ t, exec (.pwmArmWrite core m on) s = .next t ∧
      if s.isHead m = true then t.flag .PWM_RUN_ARM m = on else t = s := by
  refine ⟨s.armWrite m on, congrArg Host.Outcome.next (State.accessBlk_reaches h _), ?_⟩
  unfold State.armWrite State.when
  split
  · simp
  · rfl

theorem execGroupStartExecute_starts {mask : Nat} {rest : List Nat} (hfirst : s.pwm.gstart = mask :: rest) (hm : m < 24)
    (hmask : mask.testBit m = true) (hpm : s.hasPm m = true) :
    ∃ t, exec .groupStartExecute s = .next t ∧ s.started t m ∧ t.pwm.gstart = rest ∧
      t.fld .PWM_RUN_OUTEN m = s.fld .PWM_RUN_OUTEN m := by
  let taken : State := { s with pwm := { s.pwm with gstart := rest } }
  let named := (bitsOf 24 mask).filter s.hasPm
  have hnamed : m ∈ named := by simp [named, bitsOf, *]
  have hnodup : named.Nodup := (List.nodup_range.filter _).filter _
  refine ⟨taken.each named State.startCounter, ?_, State.each_startCounter_started hnodup hnamed taken, ?_, ?_⟩
  · show execGroupStartExecute s = _
    rw [execGroupStartExecute, hfirst]
  · exact taken.each_keeps (·.pwm.gstart) (fun u x => u.startCounter_gstart x) named
  · exact Still.each (s := taken) rfl fun u hu x => State.startCounter_still u x (by decide) hu

theorem execPwmTimedStart_starts (hhead : s.isHead m = true) (harm : s.flag .PWM_RUN_ARM m = true) :
    ∃ t, exec (.pwmTimedStart m) s = .next t ∧
      if s.fld .PWM_START m = s.ts then s.started t m ∧ t.fld .PWM_RUN_ARM m = 0 else t = s := by
  refine ⟨_, rfl, ?_⟩
  split
  case isTrue htime =>
    simp only [hhead, harm, htime, beq_self_eq_true, Bool.and_self, if_true]
    have hloaded : (s.setFld .PWM_RUN_ARM m 0).loaded m 0 = s.loaded m 0 := by
      simp [State.loaded, State.per, State.act, actLow, actHigh]
    obtain ⟨hen, hicnt, hcount⟩ := (s.setFld .PWM_RUN_ARM m 0).startCounter_started m
    exact ⟨⟨hen, hicnt, hcount.trans hloaded⟩, State.startCounter_still _ m (by decide) (by simp [Still])⟩
  case isFalse htime => simp [htime]

/-! ### Link pulses -/

theorem State.sendLink_fld (s : State) (m age : Nat) (F : Fld) (i : Nat) : (s.sendLink m age).fld F i = s.fld F i :=
  State.sendLink_still s m age rfl

theorem State.sendLink_countP (s : State) (m age : Nat) :
    (s.sendLink m age).pwm.links.countP (fun x => x.dest == m) = s.pwm.links.countP (fun x => x.dest == m) := by
  unfold State.sendLink
  split
  · rfl
  · simp

theorem State.sendLink_sends (age : Nat) (hm : m < 23) (hnone : ∀ x ∈ s.pwm.links, x.dest ≠ m + 1) :
    (s.sendLink m age).pwm.links.any (fun x => x.dest == m + 1 && x.latency == age + hopTicks (m + 1)) = true := by
  have hfree : ¬ (23 ≤ m ∨ s.pwm.links.any (fun l => l.dest == m + 1 && l.sent == s.tb) = true) := by
    rintro (hlast | hsent)
    · omega
    · obtain ⟨x, hx, hdest⟩ := List.any_eq_true.1 hsent
      exact hnone x hx (beq_iff_eq.1 (Bool.and_eq_true_iff.1 hdest).1)
  rw [State.sendLink, if_neg hfree]
  simp

/-- The pulse `l` has arrived, and its module has loaded where it follows (08 R219, R220). -/
def State.linkArrived (s : State) (m : Nat) (l : LinkPulse) : State :=
  State.when { s with pwm := { s.pwm with links := s.pwm.links.erase l } } (s.flag .PWM_CTRL_FOLLOW m) (fun s =>
    (s.loadCount m (if s.counts m then l.latency else 0)).modPm m (fun p => { p with loadAt := some s.tb }))

theorem State.linkArrived_links (s : State) (m : Nat) (l : LinkPulse) :
    (s.linkArrived m l).pwm.links = s.pwm.links.erase l :=
  State.when_keeps (·.pwm.links) (fun _ => by rfl) _ _

theorem State.linkArrived_forward (s : State) (m : Nat) (l : LinkPulse) :
    (s.linkArrived m l).flag .PWM_CTRL_FORWARD m = s.flag .PWM_CTRL_FORWARD m :=
  State.when_keeps (·.flag .PWM_CTRL_FORWARD m) (fun _ => by simp [State.loadCount_eq, State.flag]) _ _

theorem State.linkArrived_counter {l : LinkPulse} (h : s.flag .PWM_CTRL_FOLLOW m = true) :
    (s.linkArrived m l).counter m = s.loaded m (if s.counts m then l.latency else 0) := by
  rw [State.linkArrived, h]
  exact State.loadCount_counter { s with pwm := { s.pwm with links := s.pwm.links.erase l } } m _

theorem execPwmLinkPulse_eq {l : LinkPulse} (hl : s.pwm.links.find? (fun l => l.dest == m) = some l)
    (hpm : s.hasPm m = true) :
    exec (.pwmLinkPulse m) s =
      .next ((s.linkArrived m l).when (s.flag .PWM_CTRL_FORWARD m) (fun s => s.sendLink m l.latency)) := by
  have hpm' : State.hasPm { s with pwm := { s.pwm with links := s.pwm.links.erase l } } m = true := hpm
  rw [← s.linkArrived_forward m l]
  show execPwmLinkPulse m s = _
  rw [execPwmLinkPulse, hl]
  simp only [hpm']
  rfl

theorem execPwmLinkPulse_arrives {l : LinkPulse} (hl : s.pwm.links.find? (fun l => l.dest == m) = some l)
    (hpm : s.hasPm m = true) :
    ∃ t, exec (.pwmLinkPulse m) s = .next t ∧
      (s.flag .PWM_CTRL_FOLLOW m = true → t.counter m = s.loaded m (if s.counts m then l.latency else 0)) ∧
      (s.flag .PWM_CTRL_FORWARD m = true → m < 23 → (∀ x ∈ s.pwm.links, x.dest ≠ m + 1) →
        t.pwm.links.any (fun x => x.dest == m + 1 && x.latency == l.latency + hopTicks (m + 1)) = true) ∧
      t.pwm.links.countP (fun x => x.dest == m) + 1 = s.pwm.links.countP (fun x => x.dest == m) := by
  have hlinks := s.linkArrived_links m l
  have hmem := List.mem_of_find?_eq_some hl
  have hdest := List.find?_some hl
  refine ⟨_, execPwmLinkPulse_eq hl hpm, fun hfollow => ?_, fun hforward hm hnone => ?_, ?_⟩
  · rw [← State.linkArrived_counter hfollow]
    exact State.when_keeps (·.counter m) (fun u => by simp only [State.counter, State.flag, State.sendLink_fld]) _ _
  · rw [hforward]
    exact State.sendLink_sends _ hm fun x hx => hnone x (List.mem_of_mem_erase (hlinks ▸ hx))
  · rw [State.when_keeps (fun t => t.pwm.links.countP (fun x => x.dest == m)) (fun u => u.sendLink_countP m _), hlinks,
      List.countP_erase, if_pos ⟨hmem, hdest⟩]
    exact Nat.sub_add_cancel (List.countP_pos_iff.2 ⟨l, hmem, hdest⟩)

end

/-- Settles O18, write by write. -/
theorem pwmEnablesAndStarts : Obligations.PwmEnablesAndStarts := by
  refine ⟨?sets, ?refused, ?held, ?discarded, ?clears, ?starts, ?stops, fun _ _ _ on => execPwmArmWrite_arms on, ?gstart,
    ?group, ?timed, fun _ _ _ hl hpm _ => execPwmLinkPulse_arrives hl hpm⟩
  case sets =>
    intro s core m hmay hpm hw hblocks hbusy hlock
    refine ⟨_, execPwmOutenWrite_reaches hmay true, ?_⟩
    rw [State.outenWrite_sets hpm hw hblocks hbusy hlock]
    simp [State.setOuten]
  case refused =>
    intro s core m hmay hpm hw hrefused
    refine ⟨_, execPwmOutenWrite_reaches hmay true, ?_⟩
    rw [State.outenWrite_refused hpm hw hrefused]
    exact ⟨State.emit_fld _ _ _ (by decide) (by decide) (by decide),
      State.gateNow_tells (s := s) (t := s) (by decide) rfl rfl _ _⟩
  case held =>
    intro s core m hmay hpm hw hblocks hbusy hm
    refine ⟨_, execPwmOutenWrite_reaches hmay true, ?_⟩
    rw [State.outenWrite_held hpm hw hblocks hbusy]
    exact ⟨State.holdWrite_still s m true (by decide) rfl, s.holdWrite_held m true, s.holdWrite_defers true hm,
      s.holdWrite_tells m true⟩
  case discarded =>
    intro s core m hmay hpm hw
    refine ⟨_, execPwmOutenWrite_reaches hmay true, ?_⟩
    rw [State.outenWrite_discarded hpm hw]
    exact ⟨State.discarded_still s _ _ (by decide) rfl, State.emit_tells _ _ _ (genericPayload_code _ _ _ _) rfl rfl⟩
  case clears =>
    intro s core m hmay hpm
    refine ⟨_, execPwmOutenWrite_reaches hmay false, ?_⟩
    rw [State.outenWrite_clears hpm]
    refine ⟨State.clearOuten_outen _ m, ?_, fun hm hleg => State.clearOuten_mode hm hleg⟩
    rw [State.clearOuten_held]
    exact s.cancelHeld_not_held m true
  case starts =>
    intro s core m hmay hpm
    refine ⟨_, execPwmCntEnWrite_reaches hmay true, ?_⟩
    split
    case isTrue hbusy =>
      rw [State.cntEnWrite_held hpm hbusy]
      exact ⟨s.holdWrite_held m false, State.holdWrite_still s m false (by decide) rfl⟩
    case isFalse hfree =>
      split
      case isTrue hrun => exact State.cntEnWrite_running hpm hfree hrun
      case isFalse hstop =>
        rw [State.cntEnWrite_starts hpm hfree hstop]
        exact ⟨s.startedAfresh_enabled m, s.startedAfresh_runs m, s.startedAfresh_prescaler m, s.startedAfresh_h,
          s.startedAfresh_counter m⟩
  case stops =>
    intro s core m hmay hpm
    refine ⟨_, execPwmCntEnWrite_reaches hmay false, ?_⟩
    rw [State.cntEnWrite_stops hpm]
    exact ⟨State.stopCounter_clears (by decide) (by simp), State.stopCounter_clears (by decide) (by simp),
      State.stopCounter_outen _ m, State.stopCounter_clears (by decide) (by simp), State.stopCounter_carry _ m⟩
  case gstart =>
    exact fun s core mask hmay => ⟨s.gstartWrite mask, congrArg Host.Outcome.next (State.accessBlk_reaches hmay _), rfl⟩
  case group =>
    intro s mask m rest hfirst hm hmask hpm
    obtain ⟨t, ht, ⟨hen, hicnt, hcount⟩, hrest, houten⟩ := execGroupStartExecute_starts hfirst hm hmask hpm
    exact ⟨t, ht, hen, hicnt, hrest, houten, hcount⟩
  case timed =>
    intro s m hhead harm
    obtain ⟨t, ht, h⟩ := execPwmTimedStart_starts hhead harm
    refine ⟨t, ht, ?_⟩
    split
    case isTrue htime =>
      rw [if_pos htime] at h
      obtain ⟨⟨hen, -, hcount⟩, hclear⟩ := h
      exact ⟨hen, hclear, hcount⟩
    case isFalse htime => rwa [if_neg htime] at h

end Sys2Proof.Machine
end

section
/-!
Stores to the memories and what they leave: a core's store and atomic operation reach the bytes at their address alone, an
engine's store the words at its ADDR, and a received frame its buffer and its descriptor (10 R254; 15 R366; 19 R455; 21 R503,
R506).
-/
namespace Sys2Proof.Machine

/-! ### Bytes of a sparse memory -/

theorem putBytes_get_outside (m : SMap) {k o w a : Nat} {l : List Nat} (h : w ≠ k ∨ a < o ∨ o + l.length ≤ a) :
    (putBytes m k o l).get (w, a) 0 = m.get (w, a) 0 := by
  suffices hfold : ∀ (js : List Nat) (m : SMap), (∀ j ∈ js, j < l.length) →
      (js.foldl (fun m i => m.set (k, o + i) 0 (l.getD i 0 % 256)) m).get (w, a) 0 = m.get (w, a) 0 from
    hfold _ m fun _ => List.mem_range.1
  intro js
  induction js with
  | nil => exact fun _ _ => rfl
  | cons j js ih =>
    intro m hjs
    have hj := hjs j List.mem_cons_self
    refine (ih _ fun i hi => hjs i (List.mem_cons_of_mem _ hi)).trans (SMap.get_set_ne _ _ _ _ fun e => ?_)
    obtain ⟨rfl, rfl⟩ := Prod.mk.inj e
    omega

section
variable {s t : State} {a off addr core n : Nat} {l : List Nat}

/-! ### Satchel -/

/-- What each round keeps for the members of its list, the repetition keeps. -/
theorem State.each_keeps_mem {α β : Type} (g : State → β) {f : State → α → State} {l : List α}
    (hf : ∀ x ∈ l, ∀ t, g (f t x) = g t) (s : State) : g (s.each l f) = g s := by
  induction l generalizing s with
  | nil => rfl
  | cons x l ih =>
    exact (ih (fun y hy => hf y (List.mem_cons_of_mem _ hy)) (f s x)).trans (hf x List.mem_cons_self s)

theorem State.satByte_satPut_ne (b : Nat) (h : a ≠ off) : (s.satPut off b).satByte a = s.satByte a :=
  SMap.get_set_ne _ _ _ _ fun e => h (Prod.mk.inj e).2

theorem State.satByte_satWriteWord (h : a < off ∨ off + l.length ≤ a) : (s.satWriteWord off l).2.satByte a = s.satByte a := by
  have hput : (s.each (List.range l.length) fun s i => s.satPut (off + i) (l.getD i 0)).satByte a = s.satByte a := by
    refine State.each_keeps_mem (·.satByte a) (fun i hi t => State.satByte_satPut_ne _ ?_) s
    have hi := List.mem_range.1 hi
    omega
  unfold State.satWriteWord
  dsimp only
  split
  · rfl
  · split
    · exact hput
    · split
      · rfl
      · exact hput

theorem State.satByte_satWriteN (h : a < off ∨ off + l.length ≤ a) :
    (State.satWriteN n s off l).2.satByte a = s.satByte a := by
  induction n generalizing s off l with
  | zero => rfl
  | succ n ih =>
    unfold State.satWriteN
    split
    · rfl
    · have hword : (s.satWriteWord off (l.take (16 - off % 16))).2.satByte a = s.satByte a :=
        State.satByte_satWriteWord (by rw [List.length_take]; omega)
      exact (ih (by rw [List.length_drop]; omega)).trans hword

/-- A write to Satchel leaves every byte outside the bytes written. -/
theorem State.satByte_satWrite (h : a < addr - 0x20000000 ∨ addr - 0x20000000 + l.length ≤ a) :
    (s.satWrite addr l).2.satByte a = s.satByte a := by
  unfold State.satWrite
  dsimp only
  split
  · rfl
  · exact State.satByte_satWriteN h

/-! ### Stores of cores -/

/-- The memories that hold a core's data: Satchel and the DTCM of both Wings. -/
def State.dataMem (s : State) : SMap × SMap := (s.satchel, s.tut.dtcm)

theorem Awake.dtcm {T : TutorSt} (h : Awake T s) : s.tut.dtcm = T.dtcm := by
  rw [← show _ = T from h]

theorem State.violation_dataMem (s : State) (core addr : Nat) : (s.violation core addr).dataMem = s.dataMem :=
  congrArg₂ Prod.mk (State.violation_same (P := .satchel) (s0 := s) s core addr (by decide) rfl)
    (Awake.violation (T := { s.tut with wfi := 0 }) rfl core addr).dtcm

theorem State.badRead_dataMem (s : State) (mem addr : Nat) (fresh : Bool) : (s.badRead mem addr fresh).dataMem = s.dataMem :=
  congrArg₂ Prod.mk (State.badRead_same (P := .satchel) (s0 := s) s mem addr fresh (by decide) rfl)
    (Awake.emit (T := { s.tut with wfi := 0 }) (s := s.setFld .INT_LASTA 0 addr) rfl .integrity _).dtcm

theorem State.storeGuard_dataMem (s : State) (core mem word addr : Nat) (f : State → State) :
    (s.storeGuard core mem word addr f).dataMem = s.dataMem ∨ (s.storeGuard core mem word addr f).dataMem = (f s).dataMem := by
  unfold State.storeGuard
  split
  · exact .inl (s.badRead_dataMem mem addr false)
  · exact .inr rfl

/-- A store to a memory region writes the bytes at its address in DTCM or in Satchel, or neither of the two. -/
theorem State.memStore_dataMem (s : State) (core addr : Nat) (l : List Nat) :
    (s.memStore core addr l).dataMem = s.dataMem ∨
      addr < 0x20000000 ∧ (s.memStore core addr l).dataMem =
        (s.satchel, putBytes s.tut.dtcm (coreWing core).num (addr - 0x11000000) l) ∨
      0x20000000 ≤ addr ∧ (s.memStore core addr l).dataMem = ((s.satWrite addr l).2.satchel, s.tut.dtcm) := by
  have hput : (s.satWrite addr l).2.dataMem = ((s.satWrite addr l).2.satchel, s.tut.dtcm) :=
    congrArg (fun T : TutorSt => ((s.satWrite addr l).2.satchel, T.dtcm))
      (State.satWrite_same (P := .tut) (s0 := s) s addr l (by decide) rfl)
  unfold State.memStore
  dsimp only
  split
  case isTrue => exact .inl ((State.storeGuard_dataMem ..).elim id id)
  case isFalse =>
    split
    case isTrue hdtcm =>
      have hlow : addr < 0x20000000 := by
        simp only [Bool.and_eq_true, decide_eq_true_eq] at hdtcm
        omega
      exact (State.storeGuard_dataMem ..).imp id fun hput => .inl ⟨hlow, hput⟩
    case isFalse =>
      split
      case isTrue hsat =>
        have hhigh : 0x20000000 ≤ addr := by
          simp only [Bool.and_eq_true, decide_eq_true_eq] at hsat
          exact hsat.1
        refine .inr (.inr ⟨hhigh, ?_⟩)
        split
        · exact hput
        · exact (State.badRead_dataMem ..).trans hput
      case isFalse =>
        split
        · exact .inl rfl
        · exact .inl ((State.storeGuard_dataMem ..).elim id id)

/-- What a store to its memory region leaves of these memories, the core's store leaves. -/
theorem State.coreStore_keeps {β : Type} (g : SMap × SMap → β)
    (h : g (s.memStore core addr l).dataMem = g s.dataMem) : g (s.coreStore core addr l).dataMem = g s.dataMem := by
  refine State.access_keeps (fun t => g t.dataMem) (fun _ => rfl) (congrArg g (s.violation_dataMem core addr)) ?_
  split
  · rfl
  · split
    · rfl
    · exact h

/-- What a word's store leaves of these memories, an atomic operation there leaves. -/
theorem execAmoSatchel_keeps {β : Type} (g : SMap × SMap → β) (op : AmoOp) (v : Nat)
    (h : ∀ x, g (s.memStore core addr (leBytes 4 x)).dataMem = g s.dataMem) :
    ∃ t, exec (.amoSatchel core addr op v) s = .next t ∧ g t.dataMem = g s.dataMem := by
  refine ⟨_, rfl, State.access_keeps (fun t => g t.dataMem) (fun _ => rfl) (congrArg g (s.violation_dataMem core addr)) ?_⟩
  split
  · rfl
  · split
    · rfl
    · split
      · exact congrArg g (s.badRead_dataMem _ addr false)
      · cases op with
        | lr => rfl
        | sc =>
          unfold State.amoDo
          dsimp only
          split
          · exact h _
          · rfl
        | _ => exact h _

theorem execRegisterWrite_memory (v : Nat) (h : addr < 0x40000000) :
    exec (.registerWrite core addr v) s = .next (s.coreStore core addr (leBytes 4 (v % 2 ^ 32))) :=
  congrArg Host.Outcome.next (if_neg (by simp only [Bool.and_eq_true, decide_eq_true_eq]; omega))

/-- A byte of Satchel, and DTCM whole. -/
def satchelView (a : Nat) (m : SMap × SMap) : Nat × SMap := (m.1.get (0, a) 0, m.2)

/-- A byte of the DTCM of Wing `w`, and Satchel whole. -/
def dtcmView (w a : Nat) (m : SMap × SMap) : Nat × SMap := (m.2.get (w, a) 0, m.1)

theorem leBytes_length (n v : Nat) : (leBytes n v).length = n := by simp [leBytes]

/-- A word stored at a Satchel address, beside it. -/
theorem State.memStore_satchel_frame (haddr : 0x20000000 ≤ addr) (x : Nat)
    (ha : a < addr - 0x20000000 ∨ addr - 0x20000000 + 4 ≤ a) :
    satchelView a (s.memStore core addr (leBytes 4 x)).dataMem = satchelView a s.dataMem := by
  obtain hsame | ⟨hlow, -⟩ | ⟨-, hput⟩ := s.memStore_dataMem core addr (leBytes 4 x)
  · rw [hsame]
  · omega
  · rw [hput]
    exact congrArg (·, s.tut.dtcm) (State.satByte_satWrite (by rwa [leBytes_length]))

/-- A word stored at an address below Satchel, beside it. -/
theorem State.memStore_dtcm_frame {w : Nat} (haddr : addr < 0x20000000) (x : Nat)
    (ha : w ≠ (coreWing core).num ∨ a < addr - 0x11000000 ∨ addr - 0x11000000 + 4 ≤ a) :
    dtcmView w a (s.memStore core addr (leBytes 4 x)).dataMem = dtcmView w a s.dataMem := by
  obtain hsame | ⟨-, hput⟩ | ⟨hhigh, -⟩ := s.memStore_dataMem core addr (leBytes 4 x)
  · rw [hsame]
  · rw [hput]
    exact congrArg (·, s.satchel) (putBytes_get_outside _ (by rwa [leBytes_length]))
  · omega

theorem execRegisterWrite_satchel_frame (v : Nat) (hlo : 0x20000000 ≤ addr) (hhi : addr < 0x20400000)
    (ht : exec (.registerWrite core addr v) s = .next t) (ha : a < addr - 0x20000000 ∨ addr - 0x20000000 + 4 ≤ a) :
    t.satByte a = s.satByte a ∧ t.tut.dtcm = s.tut.dtcm := by
  cases (execRegisterWrite_memory v (by omega)).symm.trans ht
  exact Prod.mk.inj (State.coreStore_keeps (satchelView a) (State.memStore_satchel_frame hlo _ ha))

theorem execRegisterWrite_dtcm_frame {w : Nat} (v : Nat) (hhi : addr < 0x11080000)
    (ht : exec (.registerWrite core addr v) s = .next t)
    (ha : w ≠ (coreWing core).num ∨ a < addr - 0x11000000 ∨ addr - 0x11000000 + 4 ≤ a) :
    t.tut.dtcm.get (w, a) 0 = s.tut.dtcm.get (w, a) 0 ∧ t.satchel = s.satchel := by
  cases (execRegisterWrite_memory v (by omega)).symm.trans ht
  exact Prod.mk.inj (State.coreStore_keeps (dtcmView w a) (State.memStore_dtcm_frame (by omega) _ ha))

theorem execAmoSatchel_satchel_frame (op : AmoOp) (v : Nat) (hlo : 0x20000000 ≤ addr)
    (ht : exec (.amoSatchel core addr op v) s = .next t) (ha : a < addr - 0x20000000 ∨ addr - 0x20000000 + 4 ≤ a) :
    t.satByte a = s.satByte a ∧ t.tut.dtcm = s.tut.dtcm := by
  obtain ⟨u, hu, hkeeps⟩ := execAmoSatchel_keeps (satchelView a) op v
    fun x => State.memStore_satchel_frame hlo x ha
  cases hu.symm.trans ht
  exact Prod.mk.inj hkeeps

theorem execAmoSatchel_dtcm_frame {w : Nat} (op : AmoOp) (v : Nat) (hhi : addr < 0x20000000)
    (ht : exec (.amoSatchel core addr op v) s = .next t)
    (ha : w ≠ (coreWing core).num ∨ a < addr - 0x11000000 ∨ addr - 0x11000000 + 4 ≤ a) :
    t.tut.dtcm.get (w, a) 0 = s.tut.dtcm.get (w, a) 0 ∧ t.satchel = s.satchel := by
  obtain ⟨u, hu, hkeeps⟩ := execAmoSatchel_keeps (dtcmView w a) op v
    fun x => State.memStore_dtcm_frame hhi x ha
  cases hu.symm.trans ht
  exact Prod.mk.inj hkeeps

/-! ### Stores of engines -/

theorem State.engWord_logStore_ne {v k i : Nat} (h : ¬ (k = n ∧ i = 0x2000 + a)) :
    (s.logStore n a v).engWord k i = s.engWord k i :=
  (State.engWord_setEngWord ..).trans (if_neg h)

theorem State.engWord_store64_ne {k i : Nat} (x : Fp) (h : ¬ (k = n ∧ 0x2000 + a ≤ i ∧ i < 0x2000 + a + 2)) :
    (s.store64 n a x).engWord k i = s.engWord k i :=
  (State.engWord_logStore_ne (by omega)).trans (State.engWord_logStore_ne (by omega))

/-- ST of a finite value to sound words leaves the other words. -/
theorem State.storeReg_engWord {ra k i : Nat} {wide : Bool} (hfinite : (s.rg n ra).finite = true)
    (hsound : s.sound n (0x2000 + addr) (if wide then 2 else 1))
    (h : ¬ (k = n ∧ 0x2000 + addr ≤ i ∧ i < 0x2000 + addr + (if wide then 2 else 1))) :
    (s.storeReg n ra addr wide).engWord k i = s.engWord k i := by
  cases wide with
  | false =>
    rw [State.storeReg_narrow hfinite hsound]
    exact State.engWord_logStore_ne fun e => h (by simp only [Bool.false_eq_true, if_false]; omega)
  | true =>
    by_cases heven : addr % 2 = 0
    · rw [State.storeReg_even hfinite heven]
      exact State.engWord_store64_ne _ h
    · rw [State.storeReg_odd hfinite hsound (by omega)]
      exact State.engWord_store64_ne _ h

theorem State.instr_engWord {c k i : Nat} {f : State → State} (h : s.executes n) (hf : (f s).engWord k i = s.engWord k i) :
    (s.instr n c f).engWord k i = s.engWord k i := by
  rw [State.instr_eq h]
  exact (State.when_keeps (f := (·.advance n c)) (·.engWord k i) (fun _ => rfl) _ _).trans hf

theorem execSt_frame {ra k i : Nat} {wide : Bool} (h : s.executes n) (hfinite : (s.rg n ra).finite = true)
    (hsound : s.sound n (0x2000 + addr) (if wide then 2 else 1)) (ht : exec (.st n ra addr wide) s = .next t)
    (hout : ¬ (k = n ∧ 0x2000 + addr ≤ i ∧ i < 0x2000 + addr + (if wide then 2 else 1))) :
    t.engWord k i = s.engWord k i := by
  cases (execSt_eq n ra addr wide s).symm.trans ht
  exact State.instr_engWord h (State.storeReg_engWord hfinite hsound hout)

/-! ### Received frames -/

theorem State.satByte_of_satchel (h : t.satchel = s.satchel) (a : Nat) : t.satByte a = s.satByte a :=
  congrArg (fun m : SMap => m.get (0, a) 0) h

theorem Desc.bytes_length (d : Desc) : d.bytes.length = 32 := by simp [Desc.bytes, leBytes_length]

/-- A descriptor that completes changes its own 32 bytes (19 R455). -/
theorem State.finish_satByte (q i : Nat) (d : Desc)
    (h : a < s.descAddr q i - 0x20000000 ∨ s.descAddr q i - 0x20000000 + 32 ≤ a) :
    (s.finish q i d).satByte a = s.satByte a := by
  unfold State.finish
  dsimp only
  refine (State.when_keeps (·.satByte a) (fun u => ?_) _ _).trans
    ((State.when_keeps (·.satByte a) (fun u => ?_) _ _).trans ?_)
  · exact State.satByte_of_satchel (State.event_same (P := .satchel) (s0 := u)
      ((u.setFld .RING_STAT_HALT q 1).setFld .RING_STAT_ERR q d.errcode) _ _ _ _ (by decide) rfl) a
  · exact State.satByte_of_satchel (State.raiseRing_same (P := .satchel) (s0 := u) _ _ (by decide) rfl) a
  · exact State.satByte_satWrite (by rwa [Desc.bytes_length])

theorem State.descAddr_congr {q i : Nat} (h : t.fld .RING_BASE q = s.fld .RING_BASE q) : t.descAddr q i = s.descAddr q i :=
  congrArg (· + 32 * i) h

/-- Data that a ring takes change its buffer's first bytes and the descriptor at HEAD (19 R455, R456). -/
theorem State.produce_satByte {q : Nat} {d : Desc} {data : List Nat} (ts : Nat)
    (hbuf : a < d.addr - 0x20000000 ∨ d.addr - 0x20000000 + data.length ≤ a)
    (hdesc : a < s.descAddr q (s.fld .RING_HEAD_HEAD q) - 0x20000000 ∨
      s.descAddr q (s.fld .RING_HEAD_HEAD q) - 0x20000000 + 32 ≤ a) :
    (s.produce q d data ts).satByte a = s.satByte a := by
  have hhead (x : Nat) : (s.setFld .RING_HEAD_HEAD q x).fld .RING_BASE q = s.fld .RING_BASE q :=
    State.fld_setFld_ne _ _ fun e => Fld.noConfusion e.1
  have hfinish {u : State} (d : Desc) (hbase : u.fld .RING_BASE q = s.fld .RING_BASE q) :
      (u.finish q (s.fld .RING_HEAD_HEAD q) d).satByte a = u.satByte a :=
    State.finish_satByte q _ d (by rwa [State.descAddr_congr hbase])
  unfold State.produce
  dsimp only
  split
  · exact hfinish _ (hhead _)
  · split
    · exact (hfinish _ (State.violation_still _ _ _ (by decide) (hhead _))).trans
        (State.satByte_of_satchel (State.violation_same (P := .satchel) _ _ _ (by decide) rfl) a)
    · exact (hfinish _ (State.satWrite_still _ _ _ (hhead _))).trans (State.satByte_satWrite hbuf)

theorem execEthFrameReceive_frame {p ts : Nat} {frame : List Nat} {d : Desc} (hfree : s.freeDesc (2 * p) = some d)
    (ht : exec (.ethFrameReceive p frame true ts) s = .next t)
    (hbuf : a < d.addr - 0x20000000 ∨ d.addr - 0x20000000 + frame.length ≤ a)
    (hdesc : a < s.descAddr (2 * p) (s.fld .RING_HEAD_HEAD (2 * p)) - 0x20000000 ∨
      s.descAddr (2 * p) (s.fld .RING_HEAD_HEAD (2 * p)) - 0x20000000 + 32 ≤ a) : t.satByte a = s.satByte a := by
  have hreceive (drop : State → State) : (s.receive (2 * p) frame 0 ts drop).satByte a = s.satByte a := by
    unfold State.receive
    rw [hfree]
    exact State.produce_satByte (d := { d with matched := 0 }) ts hbuf hdesc
  cases ht
  split
  · rfl
  · split
    · rfl
    · split
      · exact hreceive _
      · rfl

end

/-- Settles O60, store by store. -/
theorem storeFrames : Obligations.StoreFrames :=
  ⟨fun _ _ _ _ v _ hlo hhi ht ha => execRegisterWrite_satchel_frame v hlo hhi ht ha,
    fun _ _ _ _ v _ _ _ hhi ht ha => execRegisterWrite_dtcm_frame v hhi ht ha,
    fun _ _ _ _ v _ op hlo ht ha => execAmoSatchel_satchel_frame op v hlo ht ha,
    fun _ _ _ _ v _ _ op hhi ht ha => execAmoSatchel_dtcm_frame op v hhi ht ha,
    fun _ _ _ _ _ _ _ _ => execSt_frame,
    fun _ _ _ _ _ _ _ _ hfree _ ht hbuf hdesc => execEthFrameReceive_frame hfree ht hbuf hdesc⟩

end Sys2Proof.Machine
end

section
/-!
The results of a Lesson engine's instructions (10 R247, R251, R252): what one that goes on leaves in its destination registers
and in its flags. With them the arithmetic and control instructions.
-/
namespace Sys2Proof.Machine

section
variable {s t u : State} {n rd c : Nat} {o : Out} {f : State → State} {outs : List Fp} {sat : Option Bool}

/-! ### Results of an instruction -/

/-- An instruction writes the results `outs` into the registers from `rd` on, and SAT where it has that flag. -/
def State.putResults (s : State) (n rd : Nat) (outs : List Fp) : Option Bool → State
  | none => s.setRgs n rd outs
  | some b => (s.setRgs n rd outs).setEngFlag n 1 b

/-- The registers from `rd` on hold the results `outs`, and SAT what it was given. -/
def State.holdsResults (t : State) (n rd : Nat) (outs : List Fp) (sat : Option Bool) : Prop :=
  (∀ i, i < outs.length → t.regHolds n (rd + i) (outs.getD i .nan).bits32) ∧ ∀ b, sat = some b → t.engFlag n 1 = b

theorem State.goesOn_putResults (s : State) (n rd : Nat) (outs : List Fp) (sat : Option Bool) :
    s.GoesOn n (s.putResults n rd outs sat) :=
  match sat with
  | none => s.goesOn_setRgs n rd outs
  | some b => (s.goesOn_setRgs n rd outs).trans (State.goesOn_setEngFlag _ n 1 b)

theorem State.onlyEngine_putResults (s : State) (n rd : Nat) (outs : List Fp) (sat : Option Bool) :
    s.onlyEngine n (s.putResults n rd outs sat) :=
  match sat with
  | none => s.onlyEngine_setRgs n rd outs
  | some b => (s.onlyEngine_setRgs n rd outs).trans (State.onlyEngine_setEngFlag _ n 1 b)

theorem State.putResults_rgBits (s : State) (n rd r : Nat) (outs : List Fp) (sat : Option Bool) :
    (s.putResults n rd outs sat).rgBits n r = (s.setRgs n rd outs).rgBits n r :=
  match sat with
  | none => rfl
  | some b => State.rgBits_setEngFlag _ n 1 r b

theorem State.putResults_holds (hn : n < s.eng.engines.length) (hrd : rd + outs.length ≤ (s.engine n).regs.length) :
    (s.putResults n rd outs sat).holdsResults n rd outs sat := by
  refine ⟨fun i hi => ?_, fun b hb => ?_⟩
  · rw [State.regHolds, State.putResults_rgBits]
    exact State.regHolds_setRgs outs hn hrd hi
  · subst hb
    exact State.engFlag_setEngFlag_self 1 b ((s.goesOn_setRgs n rd outs).engines ▸ hn)

theorem State.holdsResults_advance : (t.advance n c).holdsResults n rd outs sat ↔ t.holdsResults n rd outs sat := by
  simp only [State.holdsResults, State.advance_regHolds, State.advance_engFlag]

theorem State.holdsResults.one {x : Fp} (h : t.holdsResults n rd [x] sat) : t.regHolds n rd x.bits32 :=
  h.1 0 Nat.zero_lt_one

theorem State.holdsResults.two {x y : Fp} (h : t.holdsResults n rd [x, y] sat) :
    t.regHolds n rd x.bits32 ∧ t.regHolds n (rd + 1) y.bits32 :=
  ⟨h.1 0 Nat.zero_lt_two, h.1 1 Nat.one_lt_two⟩

theorem State.holdsResults.saturates {b : Bool} (h : t.holdsResults n rd outs (some b)) : t.engFlag n 1 = b := h.2 b rfl

/-- An instruction whose change goes on counts its cycles, and leaves what the change left. -/
theorem State.instr_steps {P : State → Prop} (ho : o = .next (s.instr n c f)) (h : s.executes n) (hgo : s.GoesOn n (f s))
    (hP : P ((f s).advance n c)) : ∃ t, o = .next t ∧ s.stepped t n c ∧ P t :=
  ⟨_, ho.trans (congrArg Host.Outcome.next (State.instr_advances h hgo)), State.advance_stepped h hgo, hP⟩

theorem State.instr_results (ho : o = .next (s.instr n c f)) (hf : f s = s.putResults n rd outs sat) (h : s.executes n)
    (hrd : rd + outs.length ≤ 32) : ∃ t, o = .next t ∧ s.stepped t n c ∧ t.holdsResults n rd outs sat :=
  State.instr_steps ho h (hf ▸ s.goesOn_putResults n rd outs sat)
    (hf ▸ State.holdsResults_advance.2 (State.putResults_holds h.listed (h.regs ▸ hrd)))

/-- One result, in RD. -/
theorem State.instr_writes {x : Fp} (ho : o = .next (s.instr n c f)) (hf : f s = s.putResults n rd [x] none)
    (h : s.executes n) (hrd : rd < 32) : ∃ t, o = .next t ∧ s.stepped t n c ∧ t.regHolds n rd x.bits32 := by
  obtain ⟨t, ht, hstep, hholds⟩ := State.instr_results ho hf h hrd
  exact ⟨t, ht, hstep, hholds.one⟩

/-- Two results, in RD and the next register. -/
theorem State.instr_writesTwo {x y : Fp} (ho : o = .next (s.instr n c f)) (hf : f s = s.putResults n rd [x, y] sat)
    (h : s.executes n) (hrd : rd < 31) :
    ∃ t, o = .next t ∧ s.stepped t n c ∧ t.regHolds n rd x.bits32 ∧ t.regHolds n (rd + 1) y.bits32 := by
  obtain ⟨t, ht, hstep, hholds⟩ := State.instr_results ho hf h (Nat.succ_lt_succ hrd)
  exact ⟨t, ht, hstep, hholds.two⟩

/-- A flag takes the result. -/
theorem State.instr_flags {i : Nat} {b : Bool} (ho : o = .next (s.instr n c f)) (hf : f s = s.setEngFlag n i b)
    (h : s.executes n) : ∃ t, o = .next t ∧ s.stepped t n c ∧ t.engFlag n i = b :=
  State.instr_steps ho h (hf ▸ s.goesOn_setEngFlag n i b)
    ((State.advance_engFlag c i).trans (hf ▸ State.engFlag_setEngFlag_self i b h.listed))

/-! ### Arithmetic -/

theorem execNop_steps (h : s.executes n) :
    ∃ t, exec (.nop n) s = .next t ∧ s.stepped t n 1 ∧ (t.engine n).regs = (s.engine n).regs :=
  State.instr_steps rfl h (.refl s n) (State.advance_keeps Engine.regs (fun _ _ _ => rfl) 1)

theorem execLdk_writes (imm : Nat) (h : s.executes n) (hrd : rd < 32) :
    ∃ t, exec (.ldk n rd imm) s = .next t ∧ s.stepped t n 1 ∧ t.regHolds n rd imm :=
  State.instr_steps rfl h (s.goesOn_setRgBits n rd imm)
    ((State.advance_regHolds 1 rd imm).2 (State.regHolds_setRgBits imm h.listed (h.regs ▸ hrd)))

/-! ### LIM -/

theorem Fp.max_eq (x y : Fp) : x.max y = x ∨ x.max y = y := by
  rw [Fp.max]
  cases x.cmp y
  case none => exact ite_eq_or_eq _ _ _
  case some d => exact (ite_eq_or_eq _ _ _).symm

theorem Fp.min_eq (x y : Fp) : x.min y = x ∨ x.min y = y := by
  rw [Fp.min]
  cases x.cmp y
  case none => exact ite_eq_or_eq _ _ _
  case some d => exact ite_eq_or_eq _ _ _

/-- The operand of LIM that is the limited value (10 R247). -/
def State.limSource (s : State) (n ra rb rc : Nat) : Nat :=
  let x := s.rg n ra
  let m := x.max (s.rg n rb)
  if x.clamp (s.rg n rb) (s.rg n rc) = m then (if m = x then ra else rb) else rc

theorem State.limSource_value (s : State) (n ra rb rc : Nat) : s.limSource n ra rb rc ∈ [ra, rb, rc] ∧
    s.rg n (s.limSource n ra rb rc) = (s.rg n ra).clamp (s.rg n rb) (s.rg n rc) := by
  unfold State.limSource
  dsimp only
  split
  case isTrue hlow =>
    rw [hlow]
    split
    case isTrue hx => exact ⟨by simp, hx.symm⟩
    case isFalse hx => exact ⟨by simp, ((Fp.max_eq _ _).resolve_left hx).symm⟩
  case isFalse hhigh => exact ⟨by simp, ((Fp.min_eq _ _).resolve_left hhigh).symm⟩

theorem execLim_eq (n rd ra rb rc : Nat) (s : State) : exec (.lim n rd ra rb rc) s =
    .next (s.instr n 1 fun s => (s.setRgBits n rd (s.rgBits n (s.limSource n ra rb rc))).setEngFlag n 1
      (!((s.rg n ra).clamp (s.rg n rb) (s.rg n rc)).eqv (s.rg n ra))) := rfl

theorem execLim_limits (ra rb rc : Nat) (h : s.executes n) (hrd : rd < 32) :
    ∃ t, exec (.lim n rd ra rb rc) s = .next t ∧ s.stepped t n 1 ∧
      (∃ r ∈ [ra, rb, rc], t.regHolds n rd (s.rgBits n r) ∧ s.rg n r = (s.rg n ra).clamp (s.rg n rb) (s.rg n rc)) ∧
      t.engFlag n 1 = !((s.rg n ra).clamp (s.rg n rb) (s.rg n rc)).eqv (s.rg n ra) := by
  obtain ⟨hmem, hvalue⟩ := s.limSource_value n ra rb rc
  have hset := s.goesOn_setRgBits n rd (s.rgBits n (s.limSource n ra rb rc))
  refine State.instr_steps (execLim_eq n rd ra rb rc s) h (hset.trans (State.goesOn_setEngFlag _ n 1 _))
    ⟨⟨_, hmem, ?_, hvalue⟩, ?_⟩
  · rw [State.advance_regHolds, State.regHolds, State.rgBits_setEngFlag]
    exact State.regHolds_setRgBits _ h.listed (h.regs ▸ hrd)
  · rw [State.advance_engFlag]
    exact State.engFlag_setEngFlag_self 1 _ (hset.engines ▸ h.listed)

/-! ### Flags and control -/

theorem execCmpf_compares (flag ra rb cond : Nat) (h : s.executes n) :
    ∃ t, exec (.cmpf n flag ra rb cond) s = .next t ∧
      s.stepped t n 1 ∧ t.engFlag n flag = condHolds cond (s.rg n ra) (s.rg n rb) :=
  State.instr_flags rfl rfl h

theorem execEvry_selects (flag every phase : Nat) (h : s.executes n) :
    ∃ t, exec (.evry n flag every phase) s = .next t ∧
      s.stepped t n 2 ∧ t.engFlag n flag = (s.fld .LT_COUNT % every == phase) :=
  State.instr_flags rfl rfl h

/-- SKIP passes over `k` instructions. -/
def State.skip (s : State) (n k : Nat) : State := s.modEngine n (fun e => { e with pc := e.pc + k })

theorem execSkip_eq (flag count : Nat) (eq : Bool) (h : s.executes n) : exec (.skip n flag eq count) s =
    .next ((s.when (s.engFlag n flag == eq) (·.skip n (count % 256))).advance n 1) := by
  have hruns : (s.when (s.engFlag n flag == eq) (·.skip n (count % 256))).running n = true :=
    (State.when_keeps (f := (·.skip n (count % 256))) (·.running n) (fun _ => rfl) s _).trans h.runs
  refine congrArg Host.Outcome.next ((State.instr_eq h).trans ?_)
  exact (congrArg (State.when _ · _) hruns).trans (State.when_true _ _)

theorem execSkip_skips (flag count : Nat) (eq : Bool) (h : s.executes n) :
    ∃ t, exec (.skip n flag eq count) s = .next t ∧
      (t.engine n).pc = (s.engine n).pc + 1 + (if s.engFlag n flag = eq then count % 256 else 0) ∧
      (t.engine n).cycles = (s.engine n).cycles + 1 := by
  refine ⟨_, execSkip_eq flag count eq h, ?_⟩
  by_cases hflag : s.engFlag n flag = eq
  · have hskip : (s.skip n (count % 256)).engine n = { s.engine n with pc := (s.engine n).pc + count % 256 } :=
      State.engine_modEngine s _ h.listed
    rw [if_pos hflag, beq_iff_eq.2 hflag, State.when_true, State.advance,
      State.engine_modEngine _ _ ((State.modEngine_engines (s := s) _).symm ▸ h.listed), hskip]
    exact ⟨Nat.add_right_comm _ _ _, rfl⟩
  · rw [if_neg hflag, beq_eq_false_iff_ne.2 hflag, State.when_false]
    exact State.advance_stepped h (.refl s n)

end

/-- Settles O20, instruction by instruction. -/
theorem engineArithmetic : Obligations.EngineArithmetic :=
  ⟨fun _ _ => execNop_steps, fun _ _ _ imm => execLdk_writes imm,
    fun _ _ _ _ _ => State.instr_writes rfl rfl, fun _ _ _ _ _ => State.instr_writes rfl rfl,
    fun _ _ _ _ _ => State.instr_writes rfl rfl, fun _ _ _ _ _ _ => State.instr_writes rfl rfl,
    fun _ _ _ _ _ => State.instr_writes rfl rfl, fun _ _ _ _ => State.instr_writes rfl rfl,
    fun _ _ _ _ => State.instr_writes rfl rfl, fun _ _ _ _ => State.instr_writesTwo (sat := none) rfl rfl,
    fun _ _ _ ra rb rc => execLim_limits ra rb rc, fun _ _ flag ra rb cond => execCmpf_compares flag ra rb cond,
    fun _ _ flag every phase => execEvry_selects flag every phase,
    fun _ _ flag count eq => execSkip_skips flag count eq⟩

end Sys2Proof.Machine
end

section
/-!
The transforms and the blocks of a Lesson engine (10 R251, R254, R256; 15 R373): what a block that goes on leaves in its state
words besides its results, and what ends its run.
-/
namespace Sys2Proof.Machine

/-! ### Transforms -/

section
variable {s t u : State} {n rd c : Nat} {o : Out} {outs : List Fp} {sat : Option Bool}

theorem execClarke_transforms (ra rb rc : Nat) (h : s.executes n) (hrd : rd < 31) :
    ∃ t, exec (.clarke n rd ra rb rc) s = .next t ∧ s.stepped t n 3 ∧
      t.regHolds n rd (clarkeOf (s.rg n ra) (s.rg n rb) (s.rg n rc)).1.bits32 ∧
      t.regHolds n (rd + 1) (clarkeOf (s.rg n ra) (s.rg n rb) (s.rg n rc)).2.bits32 :=
  State.instr_writesTwo (sat := none) rfl rfl h hrd

theorem execPark_transforms (ra rb rc : Nat) (h : s.executes n) (hrd : rd < 31) :
    ∃ t, exec (.park n rd ra rb rc) s = .next t ∧ s.stepped t n 3 ∧
      t.regHolds n rd (parkOf (s.rg n ra) (s.rg n rb) (s.rg n rc) (s.rg n (rc + 1))).1.bits32 ∧
      t.regHolds n (rd + 1) (parkOf (s.rg n ra) (s.rg n rb) (s.rg n rc) (s.rg n (rc + 1))).2.bits32 :=
  State.instr_writesTwo (sat := none) rfl rfl h hrd

theorem execIpark_transforms (ra rb rc : Nat) (h : s.executes n) (hrd : rd < 31) :
    ∃ t, exec (.ipark n rd ra rb rc) s = .next t ∧ s.stepped t n 3 ∧
      t.regHolds n rd (iparkOf (s.rg n ra) (s.rg n rb) (s.rg n rc) (s.rg n (rc + 1))).1.bits32 ∧
      t.regHolds n (rd + 1) (iparkOf (s.rg n ra) (s.rg n rb) (s.rg n rc) (s.rg n (rc + 1))).2.bits32 :=
  State.instr_writesTwo (sat := none) rfl rfl h hrd

/-! ### The circle of CLIM -/

/-- A vector's axes with `x` limited first, to the radius `r`, and `y` to what is left of the circle. -/
def limitFirst (x y r : Fp) : Fp × Fp :=
  let x' := x.clamp r.neg r
  let m := Fp.sqrt b64 ((r.mul r).sub (x'.mul x'))
  (x', y.clamp m.neg m)

theorem circleOf_zero (a b r : Fp) : circleOf 0 a b r =
    let mag := Fp.sqrt b64 ((a.mul a).add (b.mul b))
    if r.lt mag then (Fp.div b64 (a.mul r) mag, Fp.div b64 (b.mul r) mag) else (a, b) := rfl

theorem circleOf_one (a b r : Fp) : circleOf 1 a b r = limitFirst a b r := rfl

theorem circleOf_two (a b r : Fp) : circleOf 2 a b r = (limitFirst b a r).swap := rfl

theorem execClim_limits (ra rb rc mod : Nat) (h : s.executes n) (hrd : rd < 31) :
    ∃ t, exec (.clim n rd ra rb rc mod) s = .next t ∧ s.stepped t n 10 ∧
      t.regHolds n rd (circleOf mod (s.rg n ra) (s.rg n rb) (s.rg n rc)).1.bits32 ∧
      t.regHolds n (rd + 1) (circleOf mod (s.rg n ra) (s.rg n rb) (s.rg n rc)).2.bits32 :=
  State.instr_writesTwo (sat := some _) rfl rfl h hrd

theorem execClim_scales (ra rb rc : Nat) (mag : Fp) (h : s.executes n) (hrd : rd < 31)
    (hmag : mag = Fp.sqrt b64 (((s.rg n ra).mul (s.rg n ra)).add ((s.rg n rb).mul (s.rg n rb)))) :
    ∃ t, exec (.clim n rd ra rb rc 0) s = .next t ∧ s.stepped t n 10 ∧
      if (s.rg n rc).lt mag = true then
        t.regHolds n rd (Fp.div b64 ((s.rg n ra).mul (s.rg n rc)) mag).bits32 ∧
          t.regHolds n (rd + 1) (Fp.div b64 ((s.rg n rb).mul (s.rg n rc)) mag).bits32
      else t.regHolds n rd (s.rg n ra).bits32 ∧ t.regHolds n (rd + 1) (s.rg n rb).bits32 := by
  subst hmag
  obtain ⟨t, ht, hstep, hvector⟩ := execClim_limits ra rb rc 0 h hrd
  refine ⟨t, ht, hstep, ?_⟩
  rw [circleOf_zero] at hvector
  dsimp only at hvector
  split
  case isTrue hbeyond => rwa [if_pos hbeyond] at hvector
  case isFalse hwithin => rwa [if_neg hwithin] at hvector

theorem execClim_limitsFirst (ra rb rc mod : Nat) (x y x1 m : Fp) (h : s.executes n) (hrd : rd < 31)
    (hmod : mod = 1 ∨ mod = 2) (hx : x = if mod = 1 then s.rg n ra else s.rg n rb)
    (hy : y = if mod = 1 then s.rg n rb else s.rg n ra) (hx1 : x1 = x.clamp (s.rg n rc).neg (s.rg n rc))
    (hm : m = Fp.sqrt b64 (((s.rg n rc).mul (s.rg n rc)).sub (x1.mul x1))) :
    ∃ t, exec (.clim n rd ra rb rc mod) s = .next t ∧ s.stepped t n 10 ∧
      t.regHolds n (if mod = 1 then rd else rd + 1) x1.bits32 ∧
      t.regHolds n (if mod = 1 then rd + 1 else rd) (y.clamp m.neg m).bits32 := by
  subst hm hx1
  obtain ⟨t, ht, hstep, hfirst, hsecond⟩ := execClim_limits ra rb rc mod h hrd
  obtain rfl | rfl := hmod
  · subst hx hy
    exact ⟨t, ht, hstep, hfirst, hsecond⟩
  · subst hx hy
    exact ⟨t, ht, hstep, hsecond, hfirst⟩

/-! ### Blocks -/

/-- The state words of a block take their values, each logged. -/
def State.stores (s : State) (n : Nat) (l : List (Nat × Fp)) : State := s.each l (fun s e => s.store64 n e.1 e.2)

theorem State.stores_cons (s : State) (n : Nat) (e : Nat × Fp) (l : List (Nat × Fp)) :
    s.stores n (e :: l) = (s.store64 n e.1 e.2).stores n l := rfl

theorem State.goesOn_stores (s : State) (n : Nat) (l : List (Nat × Fp)) : s.GoesOn n (s.stores n l) := by
  induction l generalizing s with
  | nil => exact .refl s n
  | cons e l ih =>
    rw [State.stores_cons]
    exact (s.goesOn_store64 n e.1 e.2).trans (ih _)

theorem State.store64_wordHolds_ne {a b : Nat} {x y : Fp} (hab : b + 2 ≤ a ∨ a + 2 ≤ b) (h : s.wordHolds n b y) :
    (s.store64 n a x).wordHolds n b y := by
  unfold State.wordHolds State.store64
  rwa [State.d32_logStore_ne _ _ _ (by omega), State.d32_logStore_ne _ _ _ (by omega),
    State.d32_logStore_ne _ _ _ (by omega), State.d32_logStore_ne _ _ _ (by omega)]

theorem State.stores_wordHolds_ne {a : Nat} {x : Fp} {l : List (Nat × Fp)} (hl : ∀ e ∈ l, a + 2 ≤ e.1)
    (h : s.wordHolds n a x) : (s.stores n l).wordHolds n a x := by
  induction l generalizing s with
  | nil => exact h
  | cons e l ih =>
    rw [State.stores_cons]
    exact ih (fun e' he' => hl e' (List.mem_cons_of_mem _ he'))
      (State.store64_wordHolds_ne (.inl (hl e List.mem_cons_self)) h)

/-- State words that rise by their two data words each hold their value. -/
theorem State.stores_wordHolds {l : List (Nat × Fp)} (hl : l.Pairwise fun e e' => e.1 + 2 ≤ e'.1) {e : Nat × Fp}
    (he : e ∈ l) : (s.stores n l).wordHolds n e.1 e.2 := by
  induction l generalizing s with
  | nil => cases he
  | cons e' l ih =>
    obtain ⟨hfirst, hrest⟩ := List.pairwise_cons.1 hl
    rw [State.stores_cons]
    cases he with
    | head => exact State.stores_wordHolds_ne hfirst (s.wordHolds_store64 n _ _)
    | tail _ he => exact ih hrest he

theorem State.onlyEngine.wordHolds {a : Nat} {x : Fp} (h : s.onlyEngine n t) (hs : s.wordHolds n a x) :
    t.wordHolds n a x := by
  have hd (b : Nat) : t.d32 n b = s.d32 n b := congrArg (fun m : SMap => m.get (n, 0x2000 + b) 0) h.2
  rwa [State.wordHolds, hd, hd]

/-- After a block its results stand in its registers, and its states in its words. -/
def State.holdsBlock (t : State) (n rd : Nat) (outs : List Fp) (sat : Option Bool) (l : List (Nat × Fp)) : Prop :=
  t.holdsResults n rd outs sat ∧ ∀ e ∈ l, t.wordHolds n e.1 e.2

theorem State.block_goesOn (s : State) (n rd : Nat) (outs : List Fp) (sat : Option Bool) (l : List (Nat × Fp)) :
    s.GoesOn n ((s.stores n l).putResults n rd outs sat) :=
  (s.goesOn_stores n l).trans (State.goesOn_putResults _ n rd outs sat)

theorem State.block_holds {l : List (Nat × Fp)} (h : s.executes n) (hrd : rd + outs.length ≤ 32)
    (hl : l.Pairwise fun e e' => e.1 + 2 ≤ e'.1) :
    (((s.stores n l).putResults n rd outs sat).advance n c).holdsBlock n rd outs sat l := by
  have hgo := s.goesOn_stores n l
  refine ⟨State.holdsResults_advance.2 (State.putResults_holds (hgo.engines ▸ h.listed) (hgo.regs ▸ h.regs ▸ hrd)), ?_⟩
  exact fun e he => (State.advance_wordHolds _ _ _).2
    ((State.onlyEngine_putResults _ n rd outs sat).wordHolds (State.stores_wordHolds hl he))

/-- What the blocks share (10 R254, R256; 15 R373): on sound data words results and finite states are written, other states
end the run with cause 3, and a poisoned word ends it with cause 2. -/
theorem State.block_outcome {C : Prop} [Decidable C] {P : State → Prop} {F : State → State} {addr k : Nat}
    {l : List (Nat × Fp)} (ho : o = .next (s.instr n c fun s => s.readData n addr k F))
    (hF : F s = s.putStates n l fun s => s.putResults n rd outs sat) (hC : l.all (fun e => e.2.finite) = true ↔ C)
    (h : s.executes n) (hrd : rd + outs.length ≤ 32) (hl : l.Pairwise fun e e' => e.1 + 2 ≤ e'.1)
    (hP : ∀ t, t.holdsBlock n rd outs sat l → P t) :
    ∃ t, o = .next t ∧ if s.sound n (0x2000 + addr) k then (if C then s.stepped t n c ∧ P t else s.faulted t n 3)
      else s.faulted t n 2 := by
  by_cases hsound : s.sound n (0x2000 + addr) k
  · have hread : s.readData n addr k F = s.putStates n l fun s => s.putResults n rd outs sat :=
      (State.readData_sound F hsound).trans hF
    obtain ⟨t, ht, hout⟩ := State.instr_outcome (C := C) (k := 3) (P := P) ho h
      (fun hfinite => by
        rw [hread, State.putStates, if_pos (hC.2 hfinite)]
        exact ⟨s.block_goesOn n rd outs sat l, hP _ (State.block_holds h hrd hl)⟩)
      (fun hother => by
        rw [hread, State.putStates, if_neg fun hall => hother (hC.1 hall)]
        exact s.engineFault_faulted n 3 (by decide))
    exact ⟨t, ht, by rwa [if_pos hsound]⟩
  · exact ⟨_, ho, by rw [if_neg hsound]; exact State.instr_faulted h (State.readData_poisoned F hsound)⟩

theorem State.holdsBlock.results {l : List (Nat × Fp)} (h : t.holdsBlock n rd outs sat l) :
    t.holdsResults n rd outs sat := h.left

theorem State.holdsBlock.oneWord {a : Nat} {x : Fp} (h : t.holdsBlock n rd outs sat [(a, x)]) : t.wordHolds n a x :=
  h.right _ List.mem_cons_self

theorem State.holdsBlock.twoWords {a b : Nat} {x y : Fp} (h : t.holdsBlock n rd outs sat [(a, x), (b, y)]) :
    t.wordHolds n a x ∧ t.wordHolds n b y :=
  ⟨h.right _ List.mem_cons_self, h.right _ (List.mem_cons_of_mem _ List.mem_cons_self)⟩

theorem finite_state (a : Nat) (x : Fp) : [(a, x)].all (fun e => e.2.finite) = true ↔ x.finite = true := by simp

theorem finite_states (a b : Nat) (x y : Fp) :
    [(a, x), (b, y)].all (fun e => e.2.finite) = true ↔ x.finite = true ∧ y.finite = true := by simp

theorem pairwise_states {a b : Nat} (x y : Fp) (h : a + 2 ≤ b) :
    [(a, x), (b, y)].Pairwise fun e e' => e.1 + 2 ≤ e'.1 := by simpa using h

/-- PI's output, state and limit on the data words at ADDR. -/
abbrev State.piData (s : State) (n ra rb addr : Nat) : Fp × Fp × Bool :=
  piSpec (fun k => s.r32 n (addr + k)) (fun k => s.r64 n (addr + k)) (s.rg n ra) (s.rg n rb)

theorem execPi_regulates (ra rb addr : Nat) (h : s.executes n) (hrd : rd < 32) :
    ∃ t, exec (.pi n rd ra rb addr) s = .next t ∧
      if s.sound n (0x2000 + addr) 7 then
        (if (s.piData n ra rb addr).2.1.finite = true then
          s.stepped t n 6 ∧ t.regHolds n rd (s.piData n ra rb addr).1.bits32 ∧
            t.wordHolds n (addr + 4) (s.piData n ra rb addr).2.1 ∧ t.engFlag n 1 = (s.piData n ra rb addr).2.2
        else s.faulted t n 3)
      else s.faulted t n 2 :=
  State.block_outcome (outs := [(s.piData n ra rb addr).1]) (sat := some (s.piData n ra rb addr).2.2) rfl rfl
    (finite_state _ _) h hrd (List.pairwise_singleton _ _)
    fun _ ht => ⟨ht.results.one, ht.oneWord, ht.results.saturates⟩

/-- PR's output and states on the data words at ADDR. -/
abbrev State.prData (s : State) (n ra rb addr : Nat) : Fp × Fp × Fp :=
  prSpec (fun k => s.r32 n (addr + k)) (fun k => s.r64 n (addr + k)) (s.rg n ra) (s.rg n rb)

theorem execPr_regulates (ra rb addr : Nat) (h : s.executes n) (hrd : rd < 32) :
    ∃ t, exec (.pr n rd ra rb addr) s = .next t ∧
      if s.sound n (0x2000 + addr) 10 then
        (if (s.prData n ra rb addr).2.1.finite = true ∧ (s.prData n ra rb addr).2.2.finite = true then
          s.stepped t n 8 ∧ t.regHolds n rd (s.prData n ra rb addr).1.bits32 ∧
            t.wordHolds n (addr + 6) (s.prData n ra rb addr).2.1 ∧ t.wordHolds n (addr + 8) (s.prData n ra rb addr).2.2
        else s.faulted t n 3)
      else s.faulted t n 2 :=
  State.block_outcome (outs := [(s.prData n ra rb addr).1]) (sat := none) rfl rfl (finite_states _ _ _ _) h hrd
    (pairwise_states _ _ (Nat.le_refl _)) fun _ ht => ⟨ht.results.one, ht.twoWords⟩

/-- BIQ's output and states on the data words at ADDR. -/
abbrev State.biqData (s : State) (n ra addr : Nat) : Fp × Fp × Fp :=
  biqSpec (fun k => s.r32 n (addr + k)) (fun k => s.r64 n (addr + k)) (s.rg n ra)

theorem execBiq_filters (ra addr : Nat) (h : s.executes n) (hrd : rd < 32) :
    ∃ t, exec (.biq n rd ra addr) s = .next t ∧
      if s.sound n (0x2000 + addr) 10 then
        (if (s.biqData n ra addr).2.1.finite = true ∧ (s.biqData n ra addr).2.2.finite = true then
          s.stepped t n 7 ∧ t.regHolds n rd (s.biqData n ra addr).1.bits32 ∧
            t.wordHolds n (addr + 6) (s.biqData n ra addr).2.1 ∧ t.wordHolds n (addr + 8) (s.biqData n ra addr).2.2
        else s.faulted t n 3)
      else s.faulted t n 2 :=
  State.block_outcome (outs := [(s.biqData n ra addr).1]) (sat := none) rfl rfl (finite_states _ _ _ _) h hrd
    (pairwise_states _ _ (Nat.le_refl _)) fun _ ht => ⟨ht.results.one, ht.twoWords⟩

/-- SOGI's states, which are its outputs, on the data words at ADDR. -/
abbrev State.sogiData (s : State) (n ra rb addr : Nat) : Fp × Fp :=
  sogiSpec (fun k => s.r32 n (addr + k)) (fun k => s.r64 n (addr + k)) (s.rg n ra) (s.rg n rb)

theorem execSogi_integrates (ra rb addr : Nat) (h : s.executes n) (hrd : rd < 31) :
    ∃ t, exec (.sogi n rd ra rb addr) s = .next t ∧
      if s.sound n (0x2000 + addr) 6 then
        (if (s.sogiData n ra rb addr).1.finite = true ∧ (s.sogiData n ra rb addr).2.finite = true then
          s.stepped t n 10 ∧
            (t.regHolds n rd (s.sogiData n ra rb addr).1.bits32 ∧
              t.regHolds n (rd + 1) (s.sogiData n ra rb addr).2.bits32) ∧
            t.wordHolds n (addr + 2) (s.sogiData n ra rb addr).1 ∧ t.wordHolds n (addr + 4) (s.sogiData n ra rb addr).2
        else s.faulted t n 3)
      else s.faulted t n 2 :=
  State.block_outcome (outs := [(s.sogiData n ra rb addr).1, (s.sogiData n ra rb addr).2]) (sat := none) rfl rfl
    (finite_states _ _ _ _) h (Nat.succ_lt_succ hrd)
    (pairwise_states _ _ (Nat.le_refl _)) fun _ ht => ⟨ht.results.two, ht.twoWords⟩

/-! ### LUT -/

/-- LUT's length in range (10 Table 10-6): 2 to 256 entries within the data area. -/
abbrev lutFits (addr len : Nat) : Prop := 2 ≤ len ∧ len ≤ 256 ∧ addr + 4 + len ≤ 0x1F80

/-- Where LUT's operand lies in its table, and the entry at or below it. -/
abbrev State.lutPlace (s : State) (n ra addr : Nat) : Fp :=
  (((s.rg n ra).sub (s.r32 n addr)).mul (s.r32 n (addr + 1))).clamp .zero (.ofInt (s.d32 n (addr + 2) - 1 : Nat))

/-- The change that LUT makes in its engine on sound words of its head. -/
def State.lookUp (s : State) (n rd ra addr : Nat) : State :=
  let len := s.d32 n (addr + 2)
  if len < 2 ∨ 256 < len ∨ 0x1F80 < addr + 4 + len then s.engineFault n 6
  else
    let u := s.lutPlace n ra addr
    let j := min u.floor.toNat (len - 2)
    s.readData n (addr + 4 + j) 2 fun s => s.putResults n rd [(s.r32 n (addr + 4 + j)).add
      ((u.sub (.ofInt j)).mul ((s.r32 n (addr + 4 + j + 1)).sub (s.r32 n (addr + 4 + j))))] none

theorem execLut_eq (n rd ra addr : Nat) (s : State) : exec (.lut n rd ra addr) s =
    .next (s.instr n 6 fun s => s.readData n addr 4 fun s => s.lookUp n rd ra addr) := rfl

theorem execLut_interpolates (ra addr len j : Nat) (u : Fp) (h : s.executes n) (hrd : rd < 32)
    (hsound : s.sound n (0x2000 + addr) 4) (hlen : len = s.d32 n (addr + 2))
    (hu : u = (((s.rg n ra).sub (s.r32 n addr)).mul (s.r32 n (addr + 1))).clamp .zero (.ofInt (len - 1 : Nat)))
    (hj : j = min u.floor.toNat (len - 2)) (hentries : s.sound n (0x2000 + (addr + 4 + j)) 2) :
    ∃ t, exec (.lut n rd ra addr) s = .next t ∧
      if lutFits addr len then
        s.stepped t n 6 ∧ t.regHolds n rd ((s.r32 n (addr + 4 + j)).add
          ((u.sub (.ofInt j)).mul ((s.r32 n (addr + 4 + j + 1)).sub (s.r32 n (addr + 4 + j))))).bits32
      else s.faulted t n 6 := by
  have hread := State.readData_sound (·.lookUp n rd ra addr) hsound
  subst hlen hj hu
  refine State.instr_outcome (execLut_eq n rd ra addr s) h (fun hfits => ?_) fun hrange => ?_
  · rw [hread, State.lookUp, if_neg (by omega), State.readData_sound _ hentries]
    exact ⟨s.goesOn_putResults n rd _ none,
      (State.holdsResults_advance.2 (State.putResults_holds h.listed (h.regs ▸ hrd))).one⟩
  · rw [hread, State.lookUp, if_pos (by omega)]
    exact s.engineFault_faulted n 6 (by decide)

end

/-- Settles O21, instruction by instruction. -/
theorem engineTransformsAndBlocks : Obligations.EngineTransformsAndBlocks :=
  ⟨fun _ _ _ => execClarke_transforms, fun _ _ _ => execPark_transforms, fun _ _ _ => execIpark_transforms,
    fun _ _ _ => execClim_scales, fun _ _ _ => execClim_limitsFirst, fun _ _ _ => execPi_regulates,
    fun _ _ _ => execPr_regulates, fun _ _ _ => execBiq_filters, fun _ _ _ => execSogi_integrates,
    fun _ _ _ => execLut_interpolates⟩

end Sys2Proof.Machine
end

section
/-!
Following error and spares (10 R269, R273; 15 R387): where the statements about them fail. Both speak of every state, and so of
one in which a count stands above the width of the word or field that holds it, as no store to a word and no write to a field
leaves it.
-/
namespace Sys2Proof.Machine

/-- In a run of engine 11 the count word of a FERR block whose THR and NPER are 0 holds more than its 32 bits, and F1 holds
1.0. -/
def countBeyondWord : State :=
  let s := (State.reset.setFld .LE_STAT_RUNNING 11 1).modEngine 11
    (fun e => { e with regs := [0, 0x3F800000] ++ List.replicate 30 0 })
  { s with eng := { s.eng with mem := [((11, 0x2002), 2 ^ 32)] } }

/-- The count, which stays at NPER, is stored in 32 bits. -/
theorem execFerr_countBeyondWord : ∃ t, exec (.ferr 11 1 0 0) countBeyondWord = .next t ∧ t.d32 11 2 = 0 :=
  ⟨_, rfl, by decide⟩

/-- Refutes O22: FERR beyond the bound does not leave a count at NPER as it stands where that count exceeds 32 bits. -/
theorem not_engineFiltersAndRamps : ¬ Obligations.EngineFiltersAndRamps := by
  intro h
  obtain ⟨-, -, -, -, -, -, hferr⟩ := h
  obtain ⟨t, ht, hout⟩ := hferr countBeyondWord 11 1 0 0 true (by decide) (by decide)
  obtain ⟨u, hu, hzero⟩ := execFerr_countBeyondWord
  cases ht.symm.trans hu
  rw [if_pos (by decide)] at hout
  obtain ⟨-, hcount, -⟩ := hout
  exact absurd (hzero.symm.trans hcount) (by decide)

/-- The Substitute of Wing A is idle, and the record shows more Substitutes than its 16 bits hold. -/
def sparesBeyondField : State :=
  { State.reset with
    regs := State.reset.regs.set (Fld.key .REPC_REM_REMAIN 4) (Fld.reset .REPC_REM_REMAIN 4) (2 ^ 16 + 1) }

/-- One spare less is stored in 16 bits. -/
theorem execSubstituteSelfTest_sparesBeyondField :
    ∃ t, exec (.substituteSelfTest .a false) sparesBeyondField = .next t ∧ t.fld .REPC_REM_REMAIN 4 = 0 :=
  ⟨_, rfl, by decide⟩

/-- Refutes O25: SUBSTITUTE_SELF_TEST that fails does not leave one spare less where the record shows more than 16 bits
hold. -/
theorem not_substitutesAndShippedCommands : ¬ Obligations.SubstitutesAndShippedCommands := by
  intro h
  obtain ⟨-, -, -, -, htest, -⟩ := h
  obtain ⟨t, ht, hout⟩ := htest sparesBeyondField .a false
  obtain ⟨u, hu, hzero⟩ := execSubstituteSelfTest_sparesBeyondField
  cases ht.symm.trans hu
  rw [if_pos (by decide)] at hout
  obtain ⟨-, hspares⟩ := hout
  exact absurd (hzero.symm.trans hspares) (by decide)

end Sys2Proof.Machine
end

section
/-!
Leases and voters (14 R340 to R346): where the expiry of a lease abandons runs whose held writes meet poison, each of these queues
its own event, without a bound.
-/
namespace Sys2Proof.Machine

/-- In Split, Wing A holds its pass; a run of engine 0 is in progress, Tutor writes of one half of a poisoned word wait for its
end (10 R248), and Q10 is empty with room for exactly 32 records. -/
def manyBadWrites : State :=
  let s := ((((State.reset.setFld .HP_CTRL_MODE 0 1).setFld .HP_STAT_HOLDER 0 1).setFld .RING_CFG_SIZE_L2 10 5).setFld
    .LE_STAT_RUNNING 0 1).modEngine 0 (fun e => { e with held := List.replicate 32 (true, [(0, 0)]) })
  { s with integ := { s.integ with marks := [((0x20, 0), 1)] } }

set_option maxRecDepth 2000 in
/-- The events of the held writes (15 R373) fill Q10 before the event of the expiry comes. -/
theorem execLeaseExpiry_manyBadWrites : ∃ t, exec (.leaseExpiry .a) manyBadWrites = .next t ∧
    t.ports.q10.any (fun e => e.block == Blk.num .duplex && e.payload % 256 == 0x83) = false :=
  ⟨_, rfl, by decide⟩

/-- Refutes O28: an expiry in Split is not reported, though Q10 had room for 32 records, where the runs it abandons hold 32
writes that meet a poisoned word. -/
theorem not_leasesAndVoters : ¬ Obligations.LeasesAndVoters := by
  intro h
  obtain ⟨-, -, hexpiry, -⟩ := h
  obtain ⟨t, ht, hout⟩ := hexpiry manyBadWrites .a (by decide)
  obtain ⟨u, hu, hlost⟩ := execLeaseExpiry_manyBadWrites
  cases ht.symm.trans hu
  rw [if_pos (by decide)] at hout
  obtain ⟨-, -, hreport⟩ := hout
  exact absurd (hlost.symm.trans (hreport (by decide))) (by decide)

end Sys2Proof.Machine
end

section
/-!
What stands on Q10 stays there (19 R458): records join it behind those that it holds, however many an operation queues. Along the
pads, the fabric that takes their edge records, and the rings and the Bursar that take its words, an event reported before is
reported still.
-/
namespace Sys2Proof.Machine

/-- The records `l` stand at the front of Q10. -/
def Recorded (l : List Event) (s : State) : Prop := l <+: s.ports.q10

section
variable {l : List Event} {s t u : State}

theorem Recorded.refl (s : State) : Recorded s.ports.q10 s := List.prefix_refl _

/-- What leaves the records of Q10 leaves a report among them. -/
theorem Recorded.reports {b : Blk} {code : Nat} (h : Recorded t.ports.q10 u) (g : s.reports t b code) : s.reports u b code := by
  intro hroom
  obtain ⟨e, he, hcode⟩ := List.any_eq_true.1 (g hroom)
  exact List.any_eq_true.2 ⟨e, (List.IsPrefix.drop h _).subset he, hcode⟩

theorem Recorded.of_ports (h : Recorded l s) (e : t.ports = s.ports) : Recorded l t := by
  unfold Recorded
  rw [e]
  exact h

theorem Recorded.ite {c : Prop} [Decidable c] {a b : State} (ha : Recorded l a) (hb : Recorded l b) :
    Recorded l (if c then a else b) := by
  split <;> assumption

theorem Recorded.when {b : Bool} {f : State → State} (h : Recorded l s) (hf : ∀ u, Recorded l u → Recorded l (f u)) :
    Recorded l (s.when b f) :=
  Recorded.ite (hf s h) h

theorem Recorded.each {α : Type} {f : State → α → State} {r : List α} (h : Recorded l s)
    (hf : ∀ u x, Recorded l u → Recorded l (f u x)) : Recorded l (s.each r f) := by
  induction r generalizing s with
  | nil => exact h
  | cons x r ih => exact ih (hf s x h)

/-- A record update that leaves the ports alone. -/
theorem Recorded.upd {q regs tb fc rst bell fab dup sec dict tut sat ct clk sar integ lib sd trip pwm gate eng ship bur pf}
    (h : Recorded l s) :
    Recorded l ⟨q, regs, tb, fc, rst, bell, fab, dup, sec, s.ports, dict, tut, sat, ct, clk, sar, integ, lib, sd, trip, pwm,
      gate, eng, ship, bur, pf⟩ := h

/-! ### Events and spares -/

theorem Recorded.emit (h : Recorded l s) (b : Blk) (payload : Nat) : Recorded l (s.emit b payload) :=
  List.IsPrefix.trans h (s.emit_queues b payload).1

theorem Recorded.setRemain (h : Recorded l s) (k n : Nat) : Recorded l (s.setRemain k n) :=
  Recorded.when (s := s.putRemain k n) h fun _ hu => Recorded.emit (by exact hu) _ _

theorem Recorded.violation (h : Recorded l s) (init addr : Nat) : Recorded l (s.violation init addr) := by
  have hevent : Recorded l (((s.setFld .SEC_VIOL_INIT 0 init).setFld .SEC_VIOLA 0 addr).secEvent 0xB2 0 0 0 addr) :=
    Recorded.emit (by exact h) _ _
  unfold State.violation
  exact Recorded.ite h hevent

/-! ### The Bursar takes a word -/

theorem Recorded.burGap (h : Recorded l s) (q x : Nat) : Recorded l (s.burGap q x) := by
  unfold State.burGap
  dsimp only
  split
  · exact Recorded.ite (Recorded.emit (by exact h) _ _) h
  · exact Recorded.ite h (Recorded.emit (by exact h) _ _)

theorem Recorded.bursarTakes (h : Recorded l s) (w : SampleWord) : Recorded l (s.bursarTakes w) := by
  unfold State.bursarTakes
  refine Recorded.ite h (Recorded.each h fun u q hu => Recorded.ite hu (Recorded.each hu fun v x hv => ?_))
  exact (hv.when fun _ h => Recorded.burGap (by exact h) q x).when fun _ h => Recorded.burGap (by exact h) q x

/-! ### The rings and the captures -/

theorem Recorded.finish (h : Recorded l s) (q i : Nat) (d : Desc) : Recorded l (s.finish q i d) := by
  have hput (d' : Desc) : Recorded l (s.putDescriptor q i d') :=
    h.of_ports (State.putDescriptor_same (P := .ports) (s0 := s) s q i d' (by decide) rfl)
  unfold State.finish
  dsimp only
  refine Recorded.when (Recorded.when ?_ fun u hu => hu.of_ports (u.raiseRing_ports q)) fun u hu =>
    Recorded.emit (by exact hu) _ _
  exact hput _

theorem Recorded.produce (h : Recorded l s) (q : Nat) (d : Desc) (data : List Nat) (ts : Nat) :
    Recorded l (s.produce q d data ts) := by
  unfold State.produce
  dsimp only
  refine Recorded.ite (Recorded.finish ?_ _ _ _)
    (Recorded.ite (Recorded.finish (Recorded.violation ?_ _ _) _ _ _) (Recorded.finish ?_ _ _ _))
  · exact h
  · exact h
  · exact h.of_ports (State.satWrite_same (P := .ports) (s0 := s) _ _ _ (by decide) rfl)

theorem Recorded.setCap (h : Recorded l s) (a : Nat) (c : Capture) : Recorded l (s.setCap a c) := by
  unfold Recorded State.setCap
  dsimp only
  split <;> exact h

theorem Recorded.captureDone (h : Recorded l s) (a : Nat) (closed : Bool) : Recorded l (s.captureDone a closed) := by
  unfold State.captureDone
  dsimp only
  split
  · exact Recorded.of_ports ((h.setCap a {}).produce (11 + a) _ _ _)
      (State.streamSend_same (P := .ports) _ _ _ _ _ (by decide) (Same.refl _ _))
  · exact h.setCap a _

theorem Recorded.capture (h : Recorded l s) (a : Nat) (w : SampleWord) : Recorded l (s.capture a w) := by
  have hdone (b : Bool) (c : Capture) : Recorded l ((s.setCap a c).when b (fun u => u.captureDone a false)) :=
    Recorded.when (h.setCap a c) fun u hu => hu.captureDone a false
  unfold State.capture
  dsimp only
  refine Recorded.ite (Recorded.ite (h.setCap a _) ?_) h
  split <;> exact (hdone _ _).setCap a _

/-! ### The fabric and the pads -/

theorem Recorded.deliver (h : Recorded l s) (w : SampleWord) : Recorded l (s.deliver w) := by
  unfold State.deliver
  refine Recorded.capture (Recorded.capture (Recorded.each (Recorded.bursarTakes (by exact h) w) fun u e hu => ?_) 0 w) 1 w
  exact hu.of_ports (State.subscribe_same (P := .ports) (s0 := u) u w e.1 e.2 (by decide) rfl)

theorem Recorded.offer (h : Recorded l s) (w : SampleWord) (free : Bool) : Recorded l (s.offer w free) := by
  have hready (r x : List SampleWord) :
      Recorded l (State.each { s with fab := { s.fab with waiting := x } } r State.deliver) :=
    Recorded.each h fun u x hu => hu.deliver x
  unfold State.offer
  exact Recorded.ite ((hready _ _).deliver w) (Recorded.ite (hready _ _) (Recorded.emit (by exact hready _ _) _ _))

theorem Recorded.edgeRecord (h : Recorded l s) (m kind inst : Nat) (tripf carry : Bool) :
    Recorded l (s.edgeRecord m kind inst tripf carry) :=
  Recorded.when h fun _ hu => hu.offer _ true

theorem Recorded.setSide (h : Recorded l s) (m : Nat) (low lvl : Bool) (inst : Nat) (tripf carry : Bool) :
    Recorded l (s.setSide m low lvl inst tripf carry) := by
  unfold State.setSide
  exact Recorded.ite h (Recorded.when (Recorded.edgeRecord (by exact h) _ _ _ _ _) fun _ hu => hu)

theorem Recorded.padsOff (h : Recorded l s) (m : Nat) (mode : PadMode) (tripf : Bool) : Recorded l (s.padsOff m mode tripf) :=
  Recorded.setSide (Recorded.setSide (by exact h) _ _ _ _ _ _) _ _ _ _ _ _

theorem Recorded.stage1 (h : Recorded l s) (k m : Nat) (tripf : Bool) : Recorded l (s.stage1 k m tripf) :=
  Recorded.setSide (Recorded.setSide (by exact h) _ _ _ _ _ _) _ _ _ _ _ _

theorem Recorded.legOff (h : Recorded l s) (k : Nat) (tripf : Bool) : Recorded l (s.legOff k tripf) :=
  Recorded.upd (Recorded.each h fun _ m hu => hu.stage1 k m tripf)

theorem Recorded.putDown (h : Recorded l s) (m : Nat) (mode : PadMode) (tripf : Bool) : Recorded l (s.putDown m mode tripf) := by
  have hoff : Recorded l (if s.staysDown m mode then s else s.padsOff m mode tripf) := Recorded.ite h (h.padsOff m mode tripf)
  unfold State.putDown
  split
  case h_1 => exact hoff
  case h_2 k _ => exact Recorded.ite h (Recorded.ite (h.legOff k tripf) hoff)

theorem Recorded.settlePads (h : Recorded l s) : Recorded l s.settlePads :=
  Recorded.each h fun _ m hu =>
    Recorded.ite hu (Recorded.ite (hu.putDown m .low false) (Recorded.ite (hu.putDown m .safe true) hu))

end

end Sys2Proof.Machine
end

section
/-!
Wings, passes and leases in the duplex registers (14 R340, R341, R345): what a write of each leaves in it and in the others, and
the events of the block.
-/
namespace Sys2Proof.Machine

/-! ### Single bits -/

/-- A number whose bit `i` is set, split at that bit. -/
theorem eq_of_testBit_true {x i : Nat} (h : x.testBit i = true) :
    x = 2 ^ (i + 1) * (x / 2 ^ (i + 1)) + (2 ^ i + x % 2 ^ i) := by
  have hbit : x / 2 ^ i % 2 = 1 := by simpa [Nat.testBit_eq_decide_div_mod_eq] using h
  have hlow := Nat.div_add_mod x (2 ^ i)
  have hhigh := Nat.div_add_mod (x / 2 ^ i) 2
  rw [Nat.div_div_eq_div_mul, ← pow_succ, hbit] at hhigh
  rw [← hhigh, Nat.mul_add, ← Nat.mul_assoc, ← pow_succ] at hlow
  omega

theorem testBit_setBitTo_ne {i j : Nat} (x : Nat) (b : Bool) (h : j ≠ i) : (setBitTo x i b).testBit j = x.testBit j := by
  cases b
  case true => exact testBit_setBitTo_true_ne x h
  case false =>
    unfold setBitTo
    rw [if_neg Bool.false_ne_true]
    split
    case isFalse => rfl
    case isTrue hset =>
      have hlow : x % 2 ^ i < 2 ^ i := Nat.mod_lt _ (Nat.two_pow_pos i)
      have hpow : 2 ^ (i + 1) = 2 ^ i + 2 ^ i := by omega
      have hx := eq_of_testBit_true hset
      have hsub : x - 2 ^ i = 2 ^ (i + 1) * (x / 2 ^ (i + 1)) + x % 2 ^ i := by omega
      rw [hsub]
      conv_rhs => rw [hx]
      rw [Nat.testBit_two_pow_mul_add _ (by omega), Nat.testBit_two_pow_mul_add _ (by omega)]
      by_cases hj : j < i
      · rw [if_pos (by omega), if_pos (by omega), Nat.testBit_two_pow_add_gt hj]
      · rw [if_neg (by omega), if_neg (by omega)]

/-- Bits set one after the other, each to a value of its own. -/
theorem testBit_foldl_setBitTo (f : Nat → Bool) (m : Nat) (l : List Nat) (x : Nat) :
    (l.foldl (fun a k => setBitTo a k (f k)) x).testBit m = if m ∈ l then f m else x.testBit m := by
  induction l generalizing x with
  | nil => simp
  | cons k l ih =>
    rw [List.foldl_cons, ih]
    by_cases hm : m ∈ l
    · rw [if_pos hm, if_pos (List.mem_cons_of_mem _ hm)]
    · rw [if_neg hm]
      by_cases hk : m = k
      · subst hk; rw [if_pos List.mem_cons_self, setBitTo_self]
      · rw [testBit_setBitTo_ne x _ hk, if_neg (by simp [hk, hm])]

section
variable {s t : State} {w v : Wing} {F : Fld} {i : Nat}

theorem other_ne (w : Wing) : w.other ≠ w := by cases w <;> decide

theorem num_injective {v w : Wing} (h : v.num = w.num) : v = w := by
  revert h
  cases v <;> cases w <;> decide

theorem num_lt (w : Wing) : w.num < 2 := by cases w <;> decide

/-! ### The state of a Wing -/

/-- The field of HP_STAT that holds a Wing's state (14 Table 14-2). -/
def stateFld : Wing → Fld
  | .a => .HP_STAT_STATEA
  | .b => .HP_STAT_STATEB

theorem stateFld_injective {v w : Wing} (h : stateFld v = stateFld w) : v = w := by
  revert h
  cases v <;> cases w <;> decide

theorem stateFld_ne (h : v ≠ w) : stateFld v ≠ stateFld w := fun e => h (stateFld_injective e)

theorem ofCode_code (st : WingState) : WingState.ofCode (st.code % 2 ^ 3) = st := by cases st <;> rfl

theorem State.wing_eq (s : State) (w : Wing) : s.wing w = .ofCode (s.fld (stateFld w)) := by cases w <;> rfl

theorem State.setWing_eq (s : State) (w : Wing) (st : WingState) : s.setWing w st = s.setFld (stateFld w) 0 st.code := by
  cases w <;> rfl

theorem State.wing_congr (h : t.fld (stateFld w) = s.fld (stateFld w)) : t.wing w = s.wing w := by
  rw [State.wing_eq, h, State.wing_eq]

theorem State.setWing_fld_ne (s : State) (i : Nat) (st : WingState) (h : F ≠ stateFld w) :
    (s.setWing w st).fld F i = s.fld F i := by
  rw [State.setWing_eq]
  exact s.fld_setFld_ne _ fun e => h e.1

@[simp] theorem State.wing_setWing_self (s : State) (w : Wing) (st : WingState) : (s.setWing w st).wing w = st := by
  have hwidth : (stateFld w).width = 3 := by cases w <;> rfl
  rw [State.wing_eq, State.setWing_eq, State.fld_setFld_self, hwidth, ofCode_code]

theorem State.wing_setWing_ne (s : State) (st : WingState) (h : v ≠ w) : (s.setWing w st).wing v = s.wing v :=
  State.wing_congr (s.setWing_fld_ne 0 st (stateFld_ne h))

/-! ### The passes and the leases -/

theorem State.pass_congr (h : t.fld .HP_STAT_HOLDER = s.fld .HP_STAT_HOLDER) : t.pass w = s.pass w :=
  congrArg (·.testBit w.num) h

theorem State.split_congr (h : t.fld .HP_CTRL_MODE = s.fld .HP_CTRL_MODE) : t.split = s.split := congrArg (· != 0) h

theorem State.leaseCycles_congr (h : t.fld .HP_LEASE_LEASE = s.fld .HP_LEASE_LEASE) : t.leaseCycles = s.leaseCycles :=
  congrArg (16 * ·) h

@[simp] theorem State.pass_setPass_self (s : State) (w : Wing) (on : Bool) : (s.setPass w on).pass w = on := by
  have hwidth : w.num < Fld.width .HP_STAT_HOLDER := num_lt w
  simp [State.pass, State.setPass, hwidth]

theorem State.pass_setPass_ne (s : State) (on : Bool) (h : v ≠ w) : (s.setPass w on).pass v = s.pass v := by
  have hwidth : v.num < Fld.width .HP_STAT_HOLDER := num_lt v
  simp [State.pass, State.setPass, State.bit, Nat.testBit_mod_two_pow, hwidth, testBit_setBitTo_ne _ _ fun e => h (num_injective e)]

theorem State.setLease_fld (s : State) (w : Wing) (n : Nat) (hF : State.setLease_writes.testBit F.ctorIdx = false) :
    (s.setLease w n).fld F i = s.fld F i :=
  State.setLease_still s w n hF rfl

theorem State.setLease_pass (s : State) (w v : Wing) (n : Nat) : (s.setLease w n).pass v = s.pass v :=
  State.pass_congr (s.setLease_fld w n (by decide))

/-- Every voter holds the lease just loaded (14 R341). -/
theorem State.setLease_lease (s : State) (w : Wing) (n : Nat) : ∀ p ∈ (s.setLease w n).dup.voters, p.lease w = n := by
  intro p hp
  obtain ⟨q, -, rfl⟩ := List.mem_map.1 hp
  cases w <;> rfl

theorem State.grant_fld (s : State) (w : Wing) (hF : State.grant_writes.testBit F.ctorIdx = false) :
    (s.grant w).fld F i = s.fld F i :=
  State.grant_still s w hF rfl

theorem State.grant_pass_self (s : State) (w : Wing) : (s.grant w).pass w = true :=
  (State.setLease_pass _ w w _).trans (s.pass_setPass_self w true)

theorem State.grant_pass_ne (s : State) (h : v ≠ w) : (s.grant w).pass v = s.pass v :=
  (State.setLease_pass _ w v _).trans (s.pass_setPass_ne true h)

theorem State.grant_lease (s : State) (w : Wing) : ∀ p ∈ (s.grant w).dup.voters, p.lease w = s.leaseCycles :=
  State.setLease_lease _ w _

/-! ### Events -/

/-- The low byte of a duplex event is its CODE (14 Table 14-6). -/
theorem dupEvent_code {code : Nat} (hcode : code < 256) (w : Wing) (bits reason age seq ts : Nat) :
    (code % 256 + w.num * 2 ^ 8 + bits % 8 * 2 ^ 9 + reason % 16 * 2 ^ 12 + min age 0xFFFF * 2 ^ 16 + seq % 2 ^ 32 * 2 ^ 32
      + ts % 2 ^ 32 * 2 ^ 64) % 256 = code := by
  omega

theorem State.dupEvent_tells {code : Nat} (hcode : code < 256) (hports : t.ports = s.ports)
    (hsize : t.fld .RING_CFG_SIZE_L2 10 = s.fld .RING_CFG_SIZE_L2 10) (w : Wing) (bits reason age seq ts : Nat) :
    s.tells (t.dupEvent code w bits reason age seq ts) .duplex code :=
  State.emit_tells _ _ _ (dupEvent_code hcode w bits reason age seq ts) hports hsize

theorem State.queues.dupEvent_reports {code n : Nat} (h : s.queues t n) (hn : n < 32) (hcode : code < 256) (w : Wing)
    (bits reason age seq ts : Nat) : s.reports (t.dupEvent code w bits reason age seq ts) .duplex code :=
  h.emit_reports hn (dupEvent_code hcode w bits reason age seq ts)

theorem State.dupEvent_fld (s : State) (code : Nat) (w : Wing) (bits reason age seq ts : Nat)
    (hF : State.emit_writes.testBit F.ctorIdx = false) : (s.dupEvent code w bits reason age seq ts).fld F i = s.fld F i :=
  State.emit_still s _ _ hF rfl

theorem State.dupEvent_dup (s : State) (code : Nat) (w : Wing) (bits reason age seq ts : Nat) :
    (s.dupEvent code w bits reason age seq ts).dup = s.dup :=
  s.emit_dup _ _

theorem State.cmdDiscarded_tells (s : State) (w : Wing) (cmd : Nat) : s.tells (s.cmdDiscarded w cmd) .duplex 0x8B :=
  State.dupEvent_tells (by decide) rfl rfl w 0 cmd 0 0 s.ts

/-- The reasons of Table 14-6 fit their field. -/
theorem State.handoverCheck_lt (s : State) (sb : Wing) (needReady inTransfer : Bool) :
    s.handoverCheck sb needReady inTransfer < 2 ^ 3 := by
  unfold State.handoverCheck
  repeat' split
  all_goals decide

theorem State.refuse_fld (s : State) (w : Wing) (r : Nat) (hF : State.refuse_writes.testBit F.ctorIdx = false) :
    (s.refuse w r).fld F i = s.fld F i :=
  State.refuse_still s w r hF rfl

theorem State.refuse_dup (s : State) (w : Wing) (r : Nat) : (s.refuse w r).dup = s.dup :=
  State.refuse_same (P := .dup) (s0 := s) s w r (by decide) rfl

theorem State.refuse_reason (s : State) (w : Wing) {r : Nat} (hr : r < 2 ^ 3) : (s.refuse w r).fld .HP_STAT_REFUSE = r := by
  rw [State.refuse, State.dupEvent_fld _ _ _ _ _ _ _ _ (by decide), State.fld_setFld_self]
  exact Nat.mod_eq_of_lt hr

theorem State.refuse_tells (s : State) (w : Wing) (r : Nat) : s.tells (s.refuse w r) .duplex 0x82 :=
  State.dupEvent_tells (s := s) (t := s.setFld .HP_STAT_REFUSE 0 r) (by decide) rfl (by simp) w 0 r 0 0 s.ts

end

/-! ### Stores to HP_CMD -/

/-- A command that a core may store to HP_CMD acts (14 R364). -/
theorem State.hpCmd_reaches {s : State} {core : Nat} (h : s.reaches core .duplex (hpAddr 0xC)) (f : State → Wing → State) :
    s.hpCmd core f = f s (coreWing core) :=
  State.accessBlk_reaches h fun s => f s (coreWing core)

end Sys2Proof.Machine
end

section
/-!
The self-test of a Wing and the commands of HP_CMD that move it between BOOT, COLD, WARM and READY (14 R345, R348, R355, R356).
-/
namespace Sys2Proof.Machine

/-- HP_BIST of a Wing, and the lock of its PLL. -/
def bistOkFld : Wing → Fld
  | .a => .HP_BIST_A_OK
  | .b => .HP_BIST_B_OK

def bistFailsFld : Wing → Fld
  | .a => .HP_BIST_A_FAILS
  | .b => .HP_BIST_B_FAILS

def wingLockFld : Wing → Fld
  | .a => .CLK_STAT_A_LK
  | .b => .CLK_STAT_B_LK

section
variable {s t : State} {w v : Wing} {core : Nat} {F : Fld} {i : Nat}

theorem State.standbyReserve_fld (s : State) (there : Bool) (hF : State.standbyReserve_writes.testBit F.ctorIdx = false) :
    (s.standbyReserve there).fld F i = s.fld F i :=
  State.standbyReserve_still s there hF rfl

theorem State.standbyReserve_dup (s : State) (there : Bool) : (s.standbyReserve there).dup = s.dup :=
  State.standbyReserve_same (P := .dup) (s0 := s) s there (by decide) rfl

theorem State.stopPll_eq (s : State) (w : Wing) : s.stopPll w = s.setFld (wingLockFld w) 0 0 := by cases w <;> rfl

/-! ### The self-test -/

@[simp] theorem State.bistFails_setBistFails (s : State) (w : Wing) (n : Nat) : (s.setBistFails w n).bistFails w = n := by
  cases w <;> rfl

theorem State.setBistFails_fld (s : State) (w : Wing) (n : Nat) : (s.setBistFails w n).fld F i = s.fld F i :=
  State.setBistFails_still s w n rfl

theorem State.setBistFails_windowAt (s : State) (w : Wing) (n : Nat) : (s.setBistFails w n).windowAt v = s.windowAt v := by
  cases w <;> cases v <;> rfl

theorem State.bistFails_congr (h : t.dup = s.dup) : t.bistFails w = s.bistFails w := by
  cases w <;> simp [State.bistFails, h]

theorem State.windowAt_congr (h : t.dup = s.dup) : t.windowAt w = s.windowAt w := by
  cases w <;> simp [State.windowAt, h]

theorem State.bistResult_pass (s : State) (w : Wing) :
    s.bistResult w true = (s.setFlag (bistOkFld w) 0 true).setBistFails w 0 := by
  cases w <;> rfl

/-- A failed self-test of a Wing, as HP_BIST shows it and the device counts it. -/
def State.bistFailed (s : State) (w : Wing) : State :=
  ((s.setFlag (bistOkFld w) 0 false).count (bistFailsFld w)).setBistFails w (s.bistFails w + 1)

/-- Event 0x86 of a failed self-test. -/
def State.bistTold (s : State) (w : Wing) : State := (s.bistFailed w).dupEvent 0x86 w 0 0 0 0 s.ts

/-- The second failure in a row: event 0x87, and the Wing is no spare any more. -/
def State.bistFails2 (s : State) (w : Wing) : State :=
  (((s.bistTold w).setWing w .failed).dupEvent 0x87 w 0 0 0 0 (s.bistTold w).ts).standbyReserve false

theorem State.bistResult_fail (s : State) (w : Wing) :
    s.bistResult w false = if 1 ≤ s.bistFails w then s.bistFails2 w else s.bistTold w := by
  by_cases h : 1 ≤ s.bistFails w
  · rw [if_pos h]
    cases w <;> exact if_pos (Nat.succ_le_succ h)
  · rw [if_neg h]
    cases w <;> exact if_neg fun e => h (Nat.le_of_succ_le_succ e)

/-- The fields that a failed self-test leaves after its event, but for the state of the Wing. -/
theorem State.bistResult_fail_fld (s : State) (w : Wing) (hne : F ≠ stateFld w)
    (hreserve : State.standbyReserve_writes.testBit F.ctorIdx = false) (hevent : State.emit_writes.testBit F.ctorIdx = false) :
    (s.bistResult w false).fld F i = (s.bistFailed w).fld F i := by
  have htold : (s.bistTold w).fld F i = (s.bistFailed w).fld F i := State.dupEvent_fld _ _ _ _ _ _ _ _ hevent
  rw [State.bistResult_fail]
  split
  · rw [State.bistFails2, State.standbyReserve_fld _ _ hreserve, State.dupEvent_fld _ _ _ _ _ _ _ _ hevent,
      State.setWing_fld_ne _ _ _ hne, htold]
  · exact htold

theorem State.bistResult_ok (s : State) (w : Wing) (pass : Bool) : (s.bistResult w pass).fld (bistOkFld w) = pass.toNat := by
  cases pass
  case true => cases w <;> simp [State.bistResult_pass, State.setBistFails_fld]
  case false =>
    rw [State.bistResult_fail_fld s w (by cases w <;> decide) (by cases w <;> decide) (by cases w <;> decide),
      State.bistFailed, State.setBistFails_fld]
    cases w <;> simp [bistOkFld, bistFailsFld]

theorem State.bistResult_fails (s : State) (w : Wing) : (s.bistResult w false).fld (bistFailsFld w) =
    satInc (Fld.width .HP_BIST_A_FAILS) (s.fld (bistFailsFld w)) := by
  rw [State.bistResult_fail_fld s w (by cases w <;> decide) (by cases w <;> decide) (by cases w <;> decide),
    State.bistFailed, State.setBistFails_fld]
  cases w <;> simp [bistOkFld, bistFailsFld] <;> exact Nat.mod_eq_of_lt (satInc_lt 8 _)

theorem State.bistResult_wing (s : State) (w : Wing) :
    (s.bistResult w false).wing w = if 1 ≤ s.bistFails w then .failed else s.wing w := by
  rw [State.bistResult_fail]
  split
  · exact (State.wing_congr ((State.standbyReserve_fld _ _ (by cases w <;> decide)).trans
      (State.dupEvent_fld _ _ _ _ _ _ _ _ (by cases w <;> decide)))).trans (State.wing_setWing_self _ w .failed)
  · refine State.wing_congr ((State.dupEvent_fld _ _ _ _ _ _ _ _ (by cases w <;> decide)).trans
      ((State.setBistFails_fld _ w _).trans ?_))
    cases w <;> simp [stateFld, bistOkFld, bistFailsFld]

theorem State.bistResult_windowAt (s : State) (w : Wing) (pass : Bool) : (s.bistResult w pass).windowAt v = s.windowAt v := by
  have hfailed : (s.bistFailed w).windowAt v = s.windowAt v := State.setBistFails_windowAt _ w _
  have htold : (s.bistTold w).windowAt v = s.windowAt v :=
    (State.windowAt_congr (State.dupEvent_dup _ _ _ _ _ _ _ _)).trans hfailed
  cases pass
  case true => rw [State.bistResult_pass]; exact State.setBistFails_windowAt _ w 0
  case false =>
    rw [State.bistResult_fail]
    split
    · rw [← htold]
      exact State.windowAt_congr ((State.standbyReserve_dup _ _).trans
        ((State.dupEvent_dup _ _ _ _ _ _ _ _).trans (State.setWing_dup _ _ _)))
    · exact htold

end

end Sys2Proof.Machine
end

section
/-!
The commands of HP_CMD that leave the pass where it is (14 R345, R348, R355, R356), command by command.
-/
namespace Sys2Proof.Machine

section
variable {s t : State} {w v : Wing} {core : Nat} {F : Fld} {i : Nat}

/-! ### STANDBY -/

theorem State.bistResult_reports (s : State) (w : Wing) : s.reports (s.bistResult w false) .duplex 0x86 := by
  have hsize : (s.bistFailed w).q10Cap = s.q10Cap := by
    refine congrArg (2 ^ ·) ((State.setBistFails_fld _ w _).trans ?_)
    cases w <;> simp [bistOkFld, bistFailsFld]
  have hports : (s.bistFailed w).ports = s.ports := by cases w <;> rfl
  have htold : s.reports (s.bistTold w) .duplex 0x86 :=
    (State.queues_of_ports hports hsize).dupEvent_reports (by decide) (by decide) w 0 0 0 0 s.ts
  rw [State.bistResult_fail]
  split
  · refine Recorded.reports (t := s.bistTold w) ?_ htold
    have hfailed : Recorded (s.bistTold w).ports.q10 ((s.bistTold w).setWing w .failed) :=
      (Recorded.refl _).of_ports (State.setWing_ports _ _ _)
    exact Recorded.ite (hfailed.emit _ _) ((hfailed.emit _ _).setRemain _ _)
  · exact htold

theorem State.standbyCmd_fails (hboot : s.wing w = .boot) (hduplex : s.split = false) {pass : Bool}
    (hfail : ¬ (pass = true ∧ s.deadWing w = false)) : s.standbyCmd w pass = s.bistResult w false := by
  have hresult : (pass && !s.deadWing w) = false := by
    cases pass <;> simp_all
  unfold State.standbyCmd
  rw [if_pos (by simp [hboot, hduplex]), hresult]
  rfl

/-- A Wing that passes its self-test in STANDBY becomes COLD, stops its PLL and is a spare (14 R348). -/
theorem State.standbyCmd_passes (hboot : s.wing w = .boot) (hduplex : s.split = false) {pass : Bool}
    (hpass : pass = true ∧ s.deadWing w = false) :
    s.standbyCmd w pass = (((s.bistResult w true).setWing w .cold).stopPll w).standbyReserve true := by
  unfold State.standbyCmd
  rw [if_pos (by simp [hboot, hduplex]), hpass.1, hpass.2]
  rfl

theorem State.standbyCmd_discarded (h : ¬ (s.wing w = .boot ∧ s.split = false)) (pass : Bool) :
    s.standbyCmd w pass = s.cmdDiscarded w 1 :=
  if_neg (by simpa using h)

theorem execStandby_tests (s : State) (core : Nat) (pass : Bool) (h : s.reaches core .duplex (hpAddr 0xC)) :
    ∃ t, exec (.standby core pass) s = .next t ∧
      if s.wing (coreWing core) = .boot ∧ s.split = false then
        (if pass = true ∧ s.deadWing (coreWing core) = false then
          t.wing (coreWing core) = .cold ∧ t.fld (wingLockFld (coreWing core)) = 0 ∧ t.fld (bistOkFld (coreWing core)) = 1 ∧
            t.bistFails (coreWing core) = 0
        else t.fld (bistOkFld (coreWing core)) = 0 ∧ t.fld (bistFailsFld (coreWing core)) =
            satInc (Fld.width .HP_BIST_A_FAILS) (s.fld (bistFailsFld (coreWing core))) ∧ s.reports t .duplex 0x86 ∧
          t.wing (coreWing core) = if 1 ≤ s.bistFails (coreWing core) then .failed else .boot)
      else t.wing (coreWing core) = s.wing (coreWing core) ∧ s.tells t .duplex 0x8B := by
  refine ⟨_, congrArg Host.Outcome.next (State.hpCmd_reaches h _), ?_⟩
  generalize coreWing core = w
  split
  case isTrue hacts =>
    obtain ⟨hboot, hduplex⟩ := hacts
    split
    case isTrue hpass =>
      rw [State.standbyCmd_passes hboot hduplex hpass]
      refine ⟨?_, ?_, ?_, ?_⟩
      · refine (State.wing_congr ?_).trans (State.wing_setWing_self (s.bistResult w true) w .cold)
        rw [State.standbyReserve_fld _ _ (by cases w <;> decide), State.stopPll_eq]
        exact State.fld_setFld_ne _ _ (by cases w <;> decide)
      · rw [State.standbyReserve_fld _ _ (by cases w <;> decide), State.stopPll_eq, State.fld_setFld_self, Nat.zero_mod]
      · rw [State.standbyReserve_fld _ _ (by cases w <;> decide), State.stopPll_eq,
          State.fld_setFld_ne _ _ (by cases w <;> decide), State.setWing_fld_ne _ _ _ (by cases w <;> decide)]
        exact s.bistResult_ok w true
      · refine (State.bistFails_congr (s := s.bistResult w true) ?_).trans ?_
        · rw [State.standbyReserve_dup, State.stopPll_eq, State.setFld_dup, State.setWing_dup]
        · rw [State.bistResult_pass, State.bistFails_setBistFails]
    case isFalse hfail =>
      rw [State.standbyCmd_fails hboot hduplex hfail]
      refine ⟨s.bistResult_ok w false, s.bistResult_fails w, s.bistResult_reports w, ?_⟩
      rw [State.bistResult_wing, hboot]
  case isFalse hno =>
    rw [State.standbyCmd_discarded hno]
    exact ⟨State.wing_congr (State.dupEvent_fld _ _ _ _ _ _ _ _ (by cases w <;> decide)), s.cmdDiscarded_tells w 1⟩

/-! ### WAKE and COLD -/

theorem State.wakeWing_wing (hcold : s.wing w = .cold) :
    (s.wakeWing w).wing w = (if s.wingClock w = true then .warm else .cold) ∧
      (s.wingClock w = false → (s.wakeWing w).dup.waking.testBit w.num = true) := by
  unfold State.wakeWing
  split
  case isTrue hclock =>
    refine ⟨(State.wing_congr (State.standbyTakesSets_still _ rfl)).trans (State.wing_setWing_self s w .warm),
      fun hstopped => ?_⟩
    rw [hclock] at hstopped
    exact absurd hstopped (by decide)
  case isFalse => exact ⟨(State.wing_congr rfl).trans hcold, fun _ => setBitTo_self _ _ true⟩

theorem State.wakeCmd_eq (s : State) (w : Wing) :
    s.wakeCmd w = if s.wing w = .cold ∧ s.inWindow w = true then s.wakeWing w
      else if s.pass w = true ∧ s.wing w.other = .cold then s.wakeWing w.other else s.cmdDiscarded w 2 := by
  simp [State.wakeCmd]

theorem execWake_wakes (s : State) (core : Nat) (w : Wing) (h : s.reaches core .duplex (hpAddr 0xC))
    (hw : w = (if s.wing (coreWing core) = .cold ∧ s.inWindow (coreWing core) = true then coreWing core
      else (coreWing core).other)) :
    ∃ t, exec (.wake core) s = .next t ∧
      if s.wing w = .cold ∧ (w = coreWing core ∨ s.pass (coreWing core) = true) then
        t.wing w = (if s.wingClock w = true then .warm else .cold) ∧
          (s.wingClock w = false → t.dup.waking.testBit w.num = true)
      else s.tells t .duplex 0x8B := by
  refine ⟨_, congrArg Host.Outcome.next (State.hpCmd_reaches h _), ?_⟩
  subst hw
  generalize coreWing core = v
  rw [State.wakeCmd_eq]
  by_cases hown : s.wing v = .cold ∧ s.inWindow v = true
  · simp only [if_pos hown]
    rw [if_pos ⟨hown.1, .inl trivial⟩]
    exact State.wakeWing_wing hown.1
  · simp only [if_neg hown]
    by_cases hholds : s.pass v = true ∧ s.wing v.other = .cold
    · rw [if_pos hholds, if_pos ⟨hholds.2, .inr hholds.1⟩]
      exact State.wakeWing_wing hholds.2
    · have hneither : ¬ (s.wing v.other = .cold ∧ (v.other = v ∨ s.pass v = true)) := by
        rintro ⟨hcold, hsame | hpass⟩
        · exact other_ne v hsame
        · exact hholds ⟨hpass, hcold⟩
      rw [if_neg hneither, if_neg hholds]
      exact s.cmdDiscarded_tells v 2

theorem State.checkHandover_fld (s : State) (hF : State.checkHandover_writes.testBit F.ctorIdx = false) :
    s.checkHandover.fld F i = s.fld F i :=
  State.checkHandover_still s hF rfl

theorem State.coldCmd_eq (s : State) (w : Wing) :
    s.coldCmd w = if s.wing w = .warm ∨ s.wing w = .ready then ((s.setWing w .cold).stopPll w).checkHandover
      else s.cmdDiscarded w 3 := by
  simp [State.coldCmd]

theorem execCold_stops (s : State) (core : Nat) (h : s.reaches core .duplex (hpAddr 0xC)) :
    ∃ t, exec (.cold core) s = .next t ∧
      if s.wing (coreWing core) = .warm ∨ s.wing (coreWing core) = .ready then
        t.wing (coreWing core) = .cold ∧ t.fld (wingLockFld (coreWing core)) = 0
      else s.tells t .duplex 0x8B := by
  refine ⟨_, congrArg Host.Outcome.next (State.hpCmd_reaches h _), ?_⟩
  generalize coreWing core = w
  rw [State.coldCmd_eq]
  by_cases hstate : s.wing w = .warm ∨ s.wing w = .ready
  · rw [if_pos hstate, if_pos hstate]
    constructor
    · refine (State.wing_congr ?_).trans (State.wing_setWing_self s w .cold)
      rw [State.checkHandover_fld _ (by cases w <;> decide), State.stopPll_eq]
      exact State.fld_setFld_ne _ _ (by cases w <;> decide)
    · rw [State.checkHandover_fld _ (by cases w <;> decide), State.stopPll_eq, State.fld_setFld_self, Nat.zero_mod]
  · rw [if_neg hstate, if_neg hstate]
    exact s.cmdDiscarded_tells w 3

/-! ### READY, HANDOVER and CANCEL -/

theorem State.readyCmd_eq (s : State) (w : Wing) :
    s.readyCmd w = if s.wing w = .warm then
        (if s.handoverCheck w false false = 0 then s.setWing w .ready else s.refuse w (s.handoverCheck w false false))
      else s.cmdDiscarded w 4 := by
  simp [State.readyCmd]

theorem execReady_checks (s : State) (core r : Nat) (h : s.reaches core .duplex (hpAddr 0xC))
    (hr : r = s.handoverCheck (coreWing core) false false) :
    ∃ t, exec (.ready core) s = .next t ∧
      if s.wing (coreWing core) = .warm then
        (if r = 0 then t.wing (coreWing core) = .ready
        else t.wing (coreWing core) = .warm ∧ t.fld .HP_STAT_REFUSE = r ∧ s.tells t .duplex 0x82)
      else s.tells t .duplex 0x8B := by
  refine ⟨_, congrArg Host.Outcome.next (State.hpCmd_reaches h _), ?_⟩
  have hlt := s.handoverCheck_lt (coreWing core) false false
  rw [← hr] at hlt
  generalize coreWing core = w at hr
  rw [State.readyCmd_eq, ← hr]
  by_cases hwarm : s.wing w = .warm
  · rw [if_pos hwarm, if_pos hwarm]
    by_cases hzero : r = 0
    · rw [if_pos hzero, if_pos hzero, State.wing_setWing_self]
    · rw [if_neg hzero, if_neg hzero]
      exact ⟨(State.wing_congr (s.refuse_fld w r (by cases w <;> decide))).trans hwarm, s.refuse_reason w hlt,
        s.refuse_tells w r⟩
  · rw [if_neg hwarm, if_neg hwarm]
    exact s.cmdDiscarded_tells w 4

theorem execHandover_asks (s : State) (core r : Nat) (h : s.reaches core .duplex (hpAddr 0xC))
    (hr : r = s.handoverCheck (coreWing core).other true false) :
    ∃ t, exec (.handover core) s = .next t ∧
      if s.pass (coreWing core) = true then
        (if r = 0 then t.dup.handover = .pending 2 ∧ t.fld .HP_STAT_TRANSFER = 1 ∧
          (∀ v ∈ t.dup.voters, v.lease (coreWing core) = s.leaseCycles)
        else t.fld .HP_STAT_REFUSE = r ∧ t.dup.handover = s.dup.handover ∧ s.tells t .duplex 0x82)
      else s.tells t .duplex 0x8B := by
  refine ⟨_, congrArg Host.Outcome.next (State.hpCmd_reaches h _), ?_⟩
  have hlt := s.handoverCheck_lt (coreWing core).other true false
  rw [← hr] at hlt
  generalize coreWing core = w at hr
  unfold State.handoverCmd
  by_cases hpass : s.pass w = true
  · rw [if_pos hpass, if_pos hpass, ← hr]
    by_cases hzero : r = 0
    · rw [if_pos hzero, if_pos hzero]
      exact ⟨rfl, (s.setLease w s.leaseCycles).fld_setFld_self .HP_STAT_TRANSFER 0 1, s.setLease_lease w s.leaseCycles⟩
    · rw [if_neg hzero, if_neg hzero]
      exact ⟨s.refuse_reason w hlt, congrArg DuplexSt.handover (s.refuse_dup w r), s.refuse_tells w r⟩
  · rw [if_neg hpass, if_neg hpass]
    exact s.cmdDiscarded_tells w 5

/-- A handover that does not wait for its Bell, and is not past it, is none. -/
theorem State.handover_none (hwaits : s.handoverWaits = false) (hcopying : s.dup.handover ≠ .copying) :
    s.dup.handover = .none := by
  unfold State.handoverWaits at hwaits
  cases hphase : s.dup.handover with
  | none => rfl
  | pending k => rw [hphase] at hwaits; exact absurd hwaits.symm Bool.false_ne_true
  | copying => exact absurd hphase hcopying

/-- A handover that waits is given up before its Bell, and a READY standby returns to WARM (14 R345). -/
def State.givenUp (s : State) (w : Wing) : State :=
  (s.when s.handoverWaits State.cancelHandover).when ((s.when s.handoverWaits State.cancelHandover).wing w == .ready)
    fun s => s.setWing w .warm

theorem State.givenUp_ends (w : Wing) (hcopying : s.dup.handover ≠ .copying) :
    (s.givenUp w).dup.handover = .none ∧ (s.handoverWaits = true → (s.givenUp w).fld .HP_STAT_TRANSFER = 0) ∧
      (s.wing w = .ready → (s.givenUp w).wing w = .warm) := by
  have hwing : (s.when s.handoverWaits State.cancelHandover).wing w = s.wing w := by
    refine State.wing_congr (Still.whenIf (V := s.fld (stateFld w)) rfl fun u hu => ?_)
    exact State.cancelHandover_still u (by cases w <;> decide) hu
  unfold State.givenUp
  refine ⟨?_, fun hwaits => ?_, fun hready => ?_⟩
  · have hnone : (s.when s.handoverWaits State.cancelHandover).dup.handover = .none := by
      cases hwaits : s.handoverWaits
      case true => rfl
      case false => exact State.handover_none hwaits hcopying
    exact (State.when_keeps (·.dup.handover) (fun u => congrArg DuplexSt.handover (u.setWing_dup w .warm)) _ _).trans hnone
  · have hzero : Still .HP_STAT_TRANSFER 0 0 (s.when s.handoverWaits State.cancelHandover) := by
      rw [hwaits, State.when_true]
      exact State.fld_setFld_self _ _ _ _
    exact Still.whenIf hzero fun u hu => State.setWing_still u w .warm (by decide) hu
  · rw [hwing, hready]
    exact State.wing_setWing_self _ w .warm

/-- CANCEL acts for the READY Wing itself, or for the Duplex holder (14 R345). -/
theorem State.cancelCmd_eq (hw : w = if s.wing v = .ready then v else v.other) :
    s.cancelCmd v = if (w = v ∨ (s.pass v = true ∧ s.split = false)) ∧ s.dup.handover ≠ .copying ∧
        (s.handoverWaits = true ∨ s.wing w = .ready) then s.givenUp w else s.cmdDiscarded v 6 := by
  have hsb : (if s.wing v == .ready then v else v.other) = w := by simpa using hw.symm
  have hown : w = v ↔ s.wing v = .ready := by
    rw [hw]
    split
    case isTrue hready => simp [hready]
    case isFalse hready => simp [hready, other_ne v]
  unfold State.cancelCmd
  rw [hsb]
  simp only [hown, State.givenUp, Bool.and_eq_true, Bool.or_eq_true, beq_iff_eq, Bool.not_eq_true', bne_iff_ne, ne_eq,
    and_assoc, and_comm]

theorem execCancel_givesUp (s : State) (core : Nat) (w : Wing) (h : s.reaches core .duplex (hpAddr 0xC))
    (hw : w = (if s.wing (coreWing core) = .ready then coreWing core else (coreWing core).other)) :
    ∃ t, exec (.cancel core) s = .next t ∧
      if (w = coreWing core ∨ (s.pass (coreWing core) = true ∧ s.split = false)) ∧ s.dup.handover ≠ .copying ∧
          (s.handoverWaits = true ∨ s.wing w = .ready) then
        t.dup.handover = .none ∧ (s.handoverWaits = true → t.fld .HP_STAT_TRANSFER = 0) ∧
          (s.wing w = .ready → t.wing w = .warm)
      else s.tells t .duplex 0x8B := by
  refine ⟨_, congrArg Host.Outcome.next (State.hpCmd_reaches h _), ?_⟩
  generalize coreWing core = v at hw
  rw [State.cancelCmd_eq hw]
  split
  case isTrue hacts => exact State.givenUp_ends w hacts.2.1
  case isFalse => exact s.cmdDiscarded_tells v 6

end

end Sys2Proof.Machine
end

section
/-!
A pass is given up or taken (14 R340, R344, R345, R352): what the end of a lease does to the Wing that held it, what it leaves of
that when the other Wing takes over, and the two commands of HP_CMD that move the pass.
-/
namespace Sys2Proof.Machine

section
variable {s t : State} {w v o : Wing} {core : Nat} {F : Fld} {i : Nat}

/-! ### The Wing that loses its pass -/

/-- The pass of a Wing is revoked and its modules lose OUTEN. -/
def State.outputsOff (s : State) (w : Wing) : State :=
  ((s.setPass w false).setLease w 0).each (s.covered w) fun s m => s.clearOuten m

theorem State.outputsOff_fld (s : State) (w : Wing) (hpass : F ≠ .HP_STAT_HOLDER)
    (hlease : State.setLease_writes.testBit F.ctorIdx = false) (hclear : State.clearOuten_writes.testBit F.ctorIdx = false) :
    (s.outputsOff w).fld F i = s.fld F i := by
  refine Still.each (V := s.fld F i) ?_ fun u hu m => State.clearOuten_still u m hclear hu
  exact (State.setLease_fld _ w 0 hlease).trans (s.fld_setFld_ne _ fun e => hpass e.1)

theorem State.outputsOff_pass (s : State) (w v : Wing) : (s.outputsOff w).pass v = (s.setPass w false).pass v := by
  refine (State.pass_congr (s := (s.setPass w false).setLease w 0) ?_).trans (State.setLease_pass _ w v 0)
  exact Still.each rfl fun u hu m => State.clearOuten_still u m (by decide) hu

theorem State.clearOuten_outen_ne (s : State) {m k : Nat} (h : k ≠ m) :
    (s.clearOuten m).fld .PWM_RUN_OUTEN k = s.fld .PWM_RUN_OUTEN k := by
  have hkept : Still .PWM_RUN_OUTEN k (s.fld .PWM_RUN_OUTEN k) (s.setFld .PWM_RUN_OUTEN m 0) :=
    s.fld_setFld_ne 0 fun e => h e.2
  exact Still.whenIf hkept fun u hu => State.putDown_still u m _ _ (by decide) hu

theorem State.outputsOff_outen (s : State) (w : Wing) : ∀ m ∈ s.covered w, (s.outputsOff w).fld .PWM_RUN_OUTEN m = 0 :=
  fun m hm => State.each_fld _ (fun u k => u.clearOuten_outen k) (fun u _ _ h => u.clearOuten_outen_ne h) _ m (.inl hm)

/-- The outputs of a Wing that lost its pass are off, what waited on the pass is forgotten and the runs of its engines are
abandoned (14 R344, R346). -/
def State.runsLost (s : State) (w : Wing) (released : Bool) : State :=
  let s := s.outputsOff w
  let s := { s with dup := { s.dup with
    handover := .none, chosen := none, restored := false, released := released, expiryTs := s.tb,
    rearm := (s.covered w).foldl (fun a m => setBitTo a m false) s.dup.rearm } }
  (s.setFld .HP_STAT_TRANSFER 0 0).abandonWing w

/-- The end of a lease, before another Wing takes over: the Wing leaves ACTIVE or TAKING as well (14 R346). -/
def State.revoked (s : State) (w : Wing) (released : Bool) : State :=
  (s.runsLost w released).when ((s.runsLost w released).wing w == .active || (s.runsLost w released).wing w == .taking)
    fun s => (s.setWing w .boot).raise w 6

/-- The fields of HP_STAT and HP_CTRL that say who holds which pass in which state, and the fault epoch. -/
def dutyFlds : List Fld := [.HP_STAT_STATEA, .HP_STAT_STATEB, .HP_STAT_HOLDER, .HP_CTRL_MODE, .RING_EPOCH]

theorem stateFld_mem (w : Wing) : stateFld w ∈ dutyFlds := by cases w <;> decide

theorem State.abandonWing_fld (s : State) (w : Wing) (hF : State.abandonWing_writes.testBit F.ctorIdx = false) :
    (s.abandonWing w).fld F i = s.fld F i :=
  State.abandonWing_still s w hF rfl

theorem State.raise_duty (s : State) (w : Wing) (src : Nat) (hF : F ∈ .PWM_RUN_OUTEN :: dutyFlds) :
    (s.raise w src).fld F i = s.fld F i :=
  s.raise_fld w src fun e => absurd (e ▸ hF) (by decide)

/-- What happens to the runs leaves OUTEN, the passes and the states of the Wings. -/
theorem State.runsLost_fld (s : State) (w : Wing) (released : Bool) (hF : F ∈ .PWM_RUN_OUTEN :: dutyFlds) :
    (s.runsLost w released).fld F i = (s.outputsOff w).fld F i := by
  have hmask : ∀ F ∈ Fld.PWM_RUN_OUTEN :: dutyFlds, State.abandonWing_writes.testBit F.ctorIdx = false ∧
      F ≠ .HP_STAT_TRANSFER := by decide
  obtain ⟨habandon, htransfer⟩ := hmask F hF
  refine State.abandonWing_still _ w habandon ?_
  exact State.fld_setFld_ne _ 0 fun e => htransfer e.1

theorem State.runsLost_wing (s : State) (w : Wing) (released : Bool) : (s.runsLost w released).wing v = s.wing v :=
  State.wing_congr ((s.runsLost_fld w released (List.mem_cons_of_mem _ (stateFld_mem v))).trans
    (s.outputsOff_fld w (by cases v <;> decide) (by cases v <;> decide) (by cases v <;> decide)))

theorem State.revoked_fld (s : State) (w : Wing) (released : Bool) (hF : F ∈ .PWM_RUN_OUTEN :: dutyFlds)
    (hne : F ≠ stateFld w) : (s.revoked w released).fld F i = (s.outputsOff w).fld F i :=
  Still.whenIf (s.runsLost_fld w released hF) fun u hu =>
    ((State.raise_duty _ w 6 hF).trans (u.setWing_fld_ne i .boot hne)).trans hu

theorem State.revoked_wing (s : State) (w : Wing) (released : Bool) (h : s.wing w = .active ∨ s.wing w = .taking) :
    (s.revoked w released).wing w = .boot := by
  rw [State.revoked, s.runsLost_wing w released, State.when, if_pos (by simpa using h)]
  exact (State.wing_congr (State.raise_duty _ w 6 (List.mem_cons_of_mem _ (stateFld_mem w)))).trans
    (State.wing_setWing_self _ w .boot)

/-! ### The other Wing takes over, or the pass stays unheld -/

/-- A handover that was copying is over: the Wing that copied stands by again. -/
def State.copyDropped (s : State) (o : Wing) (copying : Bool) : State :=
  s.when (copying && s.wing o == .active) fun s => (s.abandonWing o).setWing o .ready

/-- The fault epoch passes and the standby's parts change sides where the Wing that takes over was COLD (14 R352). -/
def State.epochPassed (s : State) (o : Wing) : State :=
  (s.advanceEpoch 1 o.num).when ((s.advanceEpoch 1 o.num).wing o == .cold) State.standbySwap

/-- A Wing holds the pass, in TAKING, and enters the takeover where it is clocked. -/
def State.entered (s : State) (o : Wing) : State :=
  let s := (s.grant o).setWing o .taking
  s.when (s.wingClock o) fun s => s.takeoverEntry o

/-- The other Wing takes the pass over (14 R352). -/
def State.takenOver (s : State) (o : Wing) : State :=
  let s := (s.epochPassed o).entered o
  { s.count .HP_CNT_TKO with dup := { (s.setWindow o none).dup with
    waking := setBitTo s.dup.waking o.num (!s.wingClock o), tkoOpen := true } }

/-- The pass stays unheld in a new fault epoch, which event 0x80 tells. -/
def State.unheld (s : State) (w : Wing) (released : Bool) : State :=
  (s.advanceEpoch 1 0xFFFFFFFF).dupEvent 0x80 w (1 + 4 * released.toNat) 1 0xFFFF 0 (s.advanceEpoch 1 0xFFFFFFFF).ts

/-- What the end of a lease in Duplex does for the other Wing. -/
def State.succeeded (s : State) (w : Wing) (released : Bool) : State :=
  if s.eligible w.other && s.ct.running then s.takenOver w.other else s.unheld w released

theorem State.passLost_split (hpass : s.pass w = true) {released : Bool} (hsplit : (s.revoked w released).split = true) :
    s.passLost w released = (s.revoked w released).dupEvent 0x83 w 0 0 0 0 (s.revoked w released).ts :=
  (if_neg (by simp [hpass])).trans (if_pos hsplit)

theorem State.passLost_duplex (hpass : s.pass w = true) {released : Bool} (hduplex : (s.revoked w released).split = false) :
    s.passLost w released =
      ((s.revoked w released).copyDropped w.other ((s.outputsOff w).dup.handover == .copying)).succeeded w released :=
  (if_neg (by simp [hpass])).trans (if_neg (by rw [Bool.not_eq_true]; exact hduplex))

theorem State.copyDropped_fld (s : State) (o : Wing) (copying : Bool) (hF : F ∈ .PWM_RUN_OUTEN :: dutyFlds)
    (hne : F ≠ stateFld o) : (s.copyDropped o copying).fld F i = s.fld F i := by
  have hmask : ∀ F ∈ Fld.PWM_RUN_OUTEN :: dutyFlds, State.abandonWing_writes.testBit F.ctorIdx = false := by decide
  exact Still.whenIf rfl fun u hu => (State.setWing_fld_ne _ i .ready hne).trans ((State.abandonWing_fld u o (hmask F hF)).trans hu)

theorem State.advanceEpoch_duty (s : State) (reason detail : Nat) (hF : F ∈ .PWM_RUN_OUTEN :: dutyFlds)
    (hne : F ≠ .RING_EPOCH) :
    (s.advanceEpoch reason detail).fld F i = s.fld F i := by
  have hmask : ∀ F ∈ Fld.PWM_RUN_OUTEN :: dutyFlds, F ≠ .RING_EPOCH →
      State.advanceEpoch_writes.testBit F.ctorIdx = false := by decide
  exact State.advanceEpoch_still s reason detail (hmask F hF hne) rfl

theorem State.epochPassed_fld (s : State) (o : Wing) :
    (s.epochPassed o).fld F i = (s.advanceEpoch 1 o.num).fld F i :=
  Still.whenIf rfl fun u hu => State.standbySwap_still u hu

theorem State.takenOver_fld (s : State) (o : Wing) (hF : F ∈ .PWM_RUN_OUTEN :: dutyFlds) (hne : F ≠ stateFld o) :
    (s.takenOver o).fld F i = ((s.epochPassed o).grant o).fld F i := by
  have hcount : (s.takenOver o).fld F i = ((s.epochPassed o).entered o).fld F i :=
    State.fld_setFld_ne _ _ fun e => absurd (e.1 ▸ hF) (by decide)
  exact hcount.trans (Still.whenIf (State.setWing_fld_ne _ i .taking hne) fun u hu => State.takeoverEntry_still u o hu)

/-- Whichever Wing goes on, the states and outputs of the one that lost the pass stay as they were. -/
theorem State.succeeded_fld (s : State) (w : Wing) (released : Bool) (hF : F ∈ .PWM_RUN_OUTEN :: dutyFlds)
    (hother : F ≠ stateFld w.other) (hpass : F ≠ .HP_STAT_HOLDER) (hepoch : F ≠ .RING_EPOCH) :
    (s.succeeded w released).fld F i = s.fld F i := by
  have hmask : ∀ F ∈ Fld.PWM_RUN_OUTEN :: dutyFlds, F ≠ .HP_STAT_HOLDER → State.grant_writes.testBit F.ctorIdx = false ∧
      State.emit_writes.testBit F.ctorIdx = false := by decide
  obtain ⟨hgrant, hemit⟩ := hmask F hF hpass
  unfold State.succeeded
  split
  · rw [State.takenOver_fld _ _ hF hother, State.grant_fld _ _ hgrant, State.epochPassed_fld,
      State.advanceEpoch_duty _ _ _ hF hepoch]
  · exact (State.dupEvent_fld _ _ _ _ _ _ _ _ hemit).trans (State.advanceEpoch_duty _ _ _ hF hepoch)

theorem State.succeeded_pass (s : State) (w : Wing) (released : Bool) : (s.succeeded w released).pass w = s.pass w := by
  unfold State.succeeded
  split
  · rw [State.pass_congr (State.takenOver_fld s w.other (by decide) (by cases w <;> decide)),
      State.grant_pass_ne _ (other_ne w).symm]
    exact State.pass_congr ((State.epochPassed_fld _ _).trans (State.advanceEpoch_duty _ _ _ (by decide) (by decide)))
  · exact State.pass_congr ((State.dupEvent_fld _ _ _ _ _ _ _ _ (by decide)).trans
      (State.advanceEpoch_duty _ _ _ (by decide) (by decide)))

theorem State.succeeded_epoch (s : State) (w : Wing) (released : Bool) :
    (s.succeeded w released).fld .RING_EPOCH = (s.fld .RING_EPOCH + 1) % 2 ^ 32 := by
  unfold State.succeeded
  split
  · rw [State.takenOver_fld _ _ (by decide) (by cases w <;> decide), State.grant_fld _ _ (by decide), State.epochPassed_fld,
      State.advanceEpoch_epoch]
  · exact (State.dupEvent_fld _ _ _ _ _ _ _ _ (by decide)).trans (s.advanceEpoch_epoch 1 _)

/-! ### RELEASE -/

theorem State.revoked_split (s : State) (w : Wing) (released : Bool) : (s.revoked w released).split = s.split :=
  State.split_congr ((s.revoked_fld w released (by decide) (by cases w <;> decide)).trans
    (s.outputsOff_fld w (by decide) (by decide) (by decide)))

/-- The end of a lease touches the Wing that held it before the other Wing is considered, and not after. -/
theorem State.passLost_fld (hpass : s.pass w = true) (released : Bool) (hF : F ∈ .PWM_RUN_OUTEN :: dutyFlds)
    (hother : F ≠ stateFld w.other) (hholder : F ≠ .HP_STAT_HOLDER) (hepoch : F ≠ .RING_EPOCH) :
    (s.passLost w released).fld F i = (s.revoked w released).fld F i := by
  have hmask : ∀ F ∈ Fld.PWM_RUN_OUTEN :: dutyFlds, State.emit_writes.testBit F.ctorIdx = false := by decide
  cases hsplit : (s.revoked w released).split
  case true => rw [State.passLost_split hpass hsplit, State.dupEvent_fld _ _ _ _ _ _ _ _ (hmask F hF)]
  case false =>
    rw [State.passLost_duplex hpass hsplit, State.succeeded_fld _ _ _ hF hother hholder hepoch,
      State.copyDropped_fld _ _ _ hF hother]

theorem State.passLost_pass (hpass : s.pass w = true) (released : Bool) : (s.passLost w released).pass w = false := by
  have hrevoked : (s.revoked w released).pass w = false :=
    (State.pass_congr (s.revoked_fld w released (by decide) (by cases w <;> decide))).trans
      ((s.outputsOff_pass w w).trans (s.pass_setPass_self w false))
  cases hsplit : (s.revoked w released).split
  case true =>
    rw [State.passLost_split hpass hsplit, ← hrevoked]
    exact State.pass_congr (State.dupEvent_fld _ _ _ _ _ _ _ _ (by decide))
  case false =>
    rw [State.passLost_duplex hpass hsplit, State.succeeded_pass, ← hrevoked]
    exact State.pass_congr (State.copyDropped_fld _ _ _ (by decide) (by cases w <;> decide))

theorem State.passLost_epoch (hpass : s.pass w = true) (released : Bool) (hduplex : s.split = false) :
    (s.passLost w released).fld .RING_EPOCH = (s.fld .RING_EPOCH + 1) % 2 ^ 32 := by
  rw [State.passLost_duplex hpass ((s.revoked_split w released).trans hduplex), State.succeeded_epoch,
    State.copyDropped_fld _ _ _ (by decide) (by cases w <;> decide), s.revoked_fld w released (by decide) (by cases w <;> decide),
    s.outputsOff_fld w (by decide) (by decide) (by decide)]

theorem execRelease_gives (s : State) (core : Nat) (h : s.reaches core .duplex (hpAddr 0xC)) :
    ∃ t, exec (.release core) s = .next t ∧
      if s.pass (coreWing core) = true then t.pass (coreWing core) = false ∧
        (∀ m ∈ s.covered (coreWing core), t.fld .PWM_RUN_OUTEN m = 0) ∧
        (s.wing (coreWing core) = .active → t.wing (coreWing core) = .boot) ∧
        (s.split = false → t.fld .RING_EPOCH = (s.fld .RING_EPOCH + 1) % 2 ^ 32)
      else s.tells t .duplex 0x8B := by
  refine ⟨_, congrArg Host.Outcome.next (State.hpCmd_reaches h _), ?_⟩
  generalize coreWing core = w
  unfold State.releaseCmd
  split
  case isTrue hpass =>
    refine ⟨State.passLost_pass hpass true, fun m hm => ?_, fun hactive => ?_, State.passLost_epoch hpass true⟩
    · rw [State.passLost_fld hpass true (by decide) (by cases w <;> decide) (by decide) (by decide),
        s.revoked_fld w true (by decide) (by cases w <;> decide), s.outputsOff_outen w m hm]
    · refine (State.wing_congr ?_).trans (s.revoked_wing w true (.inl hactive))
      exact State.passLost_fld hpass true (List.mem_cons_of_mem _ (stateFld_mem w)) (stateFld_ne (other_ne w).symm)
        (by cases w <;> decide) (by cases w <;> decide)
  case isFalse => exact s.cmdDiscarded_tells w 7

/-! ### ACQUIRE -/

/-- A Wing takes a free pass from BOOT. -/
def State.acquires (s : State) (w : Wing) : State :=
  let s := (s.grant w).setWing w .active
  s.setAcquired (w == .b && !s.split)

theorem State.acquires_pass (s : State) (w : Wing) : (s.acquires w).pass w = true :=
  (State.pass_congr (State.setWing_fld_ne _ 0 .active (by cases w <;> decide))).trans (s.grant_pass_self w)

theorem State.acquires_wing (s : State) (w : Wing) : (s.acquires w).wing w = .active :=
  State.wing_setWing_self (s.grant w) w .active

theorem State.acquires_pass_ne (s : State) (h : v ≠ w) : (s.acquires w).pass v = s.pass v :=
  (State.pass_congr (State.setWing_fld_ne _ 0 .active (by cases w <;> decide))).trans (s.grant_pass_ne h)

theorem State.acquires_wing_ne (s : State) (h : v ≠ w) : (s.acquires w).wing v = s.wing v :=
  (State.wing_setWing_ne (s.grant w) .active h).trans
    (State.wing_congr (s.grant_fld w (by cases v <;> decide)))

theorem State.acquires_lease (s : State) (w : Wing) : ∀ v ∈ (s.acquires w).dup.voters, v.lease w = s.leaseCycles := by
  intro v hv
  refine s.grant_lease w v ?_
  rwa [← State.setWing_dup (s.grant w) w .active]

theorem State.acquireCmd_eq (hrun : s.ct.running = true) (hkeep : w = .b ∨ s.split = true ∨ s.dup.acquired = false) :
    s.acquireCmd w = if s.wing w = .boot ∧ (if s.split = true then s.pass w else s.anyPass) = false then s.acquires w
      else s.cmdDiscarded w 8 := by
  have hnone : (w == .a && s.wing .a == .boot && !s.split && s.dup.acquired && s.wing .b == .active) = false := by
    rcases hkeep with h | h | h <;> simp [h]
  unfold State.acquireCmd
  rw [if_neg (by simp [hrun]), hnone]
  exact if_congr (by simp [State.when]) rfl rfl

/-- A core of either Wing acquires a free pass; the grant to Wing B stands where Wing A does not ask in its RC cycle. -/
theorem execAcquire_takes (s : State) (core : Nat) (h : s.reaches core .duplex (hpAddr 0xC)) (hrun : s.ct.running = true)
    (hkeep : coreWing core = .b ∨ s.split = true ∨ s.dup.acquired = false) :
    ∃ t, exec (.acquire core) s = .next t ∧
      if s.wing (coreWing core) = .boot ∧ (if s.split = true then s.pass (coreWing core) else s.anyPass) = false then
        t.pass (coreWing core) = true ∧ t.wing (coreWing core) = .active ∧
          (∀ v ∈ t.dup.voters, v.lease (coreWing core) = s.leaseCycles)
      else s.tells t .duplex 0x8B := by
  refine ⟨_, congrArg Host.Outcome.next ((State.hpCmd_reaches h _).trans (State.acquireCmd_eq hrun hkeep)), ?_⟩
  by_cases hfree : s.wing (coreWing core) = .boot ∧ (if s.split = true then s.pass (coreWing core) else s.anyPass) = false
  · rw [if_pos hfree, if_pos hfree]
    exact ⟨s.acquires_pass _, s.acquires_wing _, s.acquires_lease _⟩
  · rw [if_neg hfree, if_neg hfree]
    exact s.cmdDiscarded_tells _ 8

/-! ### Both Wings acquire in one RC cycle -/

theorem State.withdrawB_eq (s : State) : s.withdrawB = ((s.outputsOff .b).abandonWing .b).setWing .b .boot := rfl

theorem State.withdrawB_fld (s : State) (hF : F ∈ dutyFlds) (hB : F ≠ .HP_STAT_STATEB) :
    s.withdrawB.fld F i = (s.outputsOff .b).fld F i := by
  have hmask : ∀ F ∈ dutyFlds, State.abandonWing_writes.testBit F.ctorIdx = false := by decide
  rw [s.withdrawB_eq, State.setWing_fld_ne _ _ _ hB, State.abandonWing_fld _ _ (hmask F hF)]

theorem State.withdrawB_pass (s : State) : s.withdrawB.pass w = (s.setPass .b false).pass w :=
  (State.pass_congr (s.withdrawB_fld (by decide) (by decide))).trans (s.outputsOff_pass .b w)

/-- Wing A takes the pass that Wing B acquired in the same RC cycle. -/
theorem State.acquireCmd_wins (hrun : s.ct.running = true) (hrace : s.dup.acquired = true) (hduplex : s.split = false)
    (hboot : s.wing .a = .boot) (hactive : s.wing .b = .active) (hfree : s.pass .a = false) :
    s.acquireCmd .a = s.withdrawB.acquires .a := by
  have hwins : (Wing.a == .a && s.wing .a == .boot && !s.split && s.dup.acquired && s.wing .b == .active) = true := by
    simp [hrace, hduplex, hboot, hactive]
  have hwing : s.withdrawB.wing .a = .boot := by
    rw [← hboot]
    exact State.wing_congr
      ((s.withdrawB_fld (by decide) (by decide)).trans (s.outputsOff_fld .b (by decide) (by decide) (by decide)))
  have hsplit : s.withdrawB.split = false := by
    rw [← hduplex]
    exact State.split_congr
      ((s.withdrawB_fld (by decide) (by decide)).trans (s.outputsOff_fld .b (by decide) (by decide) (by decide)))
  have hany : s.withdrawB.anyPass = false := by
    rw [State.anyPass, State.withdrawB_pass, State.withdrawB_pass, State.pass_setPass_self,
      State.pass_setPass_ne _ _ (by decide), hfree]
    rfl
  unfold State.acquireCmd
  rw [if_neg (by simp [hrun]), hwins]
  exact if_pos (by simp [State.when, hwing, hsplit, hany])

theorem State.acquireCmd_stopped (hstop : s.ct.running = false) : s.acquireCmd w = s := if_pos (by simp [hstop])

theorem execAcquire_race (s : State) (core : Nat) (h : s.reaches core .duplex (hpAddr 0xC))
    (hasks : coreWing core = .a ∨ s.ct.running = false) (hrace : s.dup.acquired = true) (hduplex : s.split = false)
    (hboot : s.wing .a = .boot) (hactive : s.wing .b = .active) (hfree : s.pass .a = false) :
    ∃ t, exec (.acquire core) s = .next t ∧
      if s.ct.running = true then t.pass .a = true ∧ t.wing .a = .active ∧ t.pass .b = false ∧ t.wing .b = .boot
      else t = s := by
  refine ⟨_, congrArg Host.Outcome.next (State.hpCmd_reaches h _), ?_⟩
  split
  case isTrue hrun =>
    rw [hasks.resolve_right (by simp [hrun]), State.acquireCmd_wins hrun hrace hduplex hboot hactive hfree]
    refine ⟨State.acquires_pass _ .a, State.acquires_wing _ .a, ?_, ?_⟩
    · exact (State.acquires_pass_ne _ (by decide)).trans (s.withdrawB_pass.trans (s.pass_setPass_self .b false))
    · exact (State.acquires_wing_ne _ (by decide)).trans (State.wing_setWing_self _ .b .boot)
  case isFalse hstop => exact State.acquireCmd_stopped (by simpa using hstop)

end

/-- Settles O29, command by command. -/
theorem wingCommands : Obligations.WingCommands :=
  ⟨execStandby_tests, execWake_wakes, execCold_stops, execReady_checks, execHandover_asks, execCancel_givesUp, execRelease_gives,
    execAcquire_takes, fun s core h hasks hrace hduplex hboot hactive hfree _ =>
      execAcquire_race s core h hasks hrace hduplex hboot hactive hfree⟩

end Sys2Proof.Machine
end

section
/-!
A takeover restores the sections of a snapshot (14 R349, R352): the words it puts into the engines' memories and DTCM, and the
flag FIRST of the engines.
-/
namespace Sys2Proof.Machine

section
variable {s t : State} {w : Wing} {n i : Nat}

/-! ### Rounds over a list -/

/-- What one member of a list sets and the others leave alone, the repetition leaves set; `P` is what each round may count on. -/
theorem State.each_sets {α : Type} {P Q : State → Prop} {f : State → α → State} {x : α} {l : List α}
    (hP : ∀ t y, P t → P (f t y)) (hx : ∀ t, P t → Q (f t x)) (hne : ∀ y ∈ l, y ≠ x → ∀ t, Q t → Q (f t y))
    (hs : P s) (h : x ∈ l ∨ Q s) : Q (s.each l f) := by
  induction l generalizing s with
  | nil => exact h.resolve_left List.not_mem_nil
  | cons y l ih =>
    refine ih (fun z hz => hne z (List.mem_cons_of_mem _ hz)) (hP s y hs) ?_
    by_cases e : y = x
    · subst e; exact .inr (hx s hs)
    · rcases h with h | h
      · exact .inl ((List.mem_cons.1 h).resolve_left fun e' => e e'.symm)
      · exact .inr (hne y List.mem_cons_self e s h)

/-! ### Words of an engine's memory -/

/-- A word of a section and its site's mark, in a pair of the engine's words. -/
def State.restoreWord (s : State) (n a v : Nat) : State :=
  ((s.mark (0x20 + s.siteOf n) (a / 2) false).setEngWord n a v).setEngWord n (a + 1) (v / 2 ^ 32)

theorem State.restoreWord_low (s : State) (n a v : Nat) : (s.restoreWord n a v).engWord n a = v % 2 ^ 32 := by
  rw [State.restoreWord, State.engWord_setEngWord, if_neg (by omega), State.engWord_setEngWord, if_pos ⟨rfl, rfl⟩]

theorem State.restoreWord_ne (s : State) {n a v k j : Nat} (h : k = n → j ≠ a ∧ j ≠ a + 1) :
    (s.restoreWord n a v).engWord k j = s.engWord k j := by
  rw [State.restoreWord, State.engWord_setEngWord, if_neg fun e => (h e.1).2 e.2, State.engWord_setEngWord,
    if_neg fun e => (h e.1).1 e.2]
  rfl

/-- The words of a section go to the engine of its pair that the Wing runs. -/
def State.restoreWords (s : State) (w : Wing) (g : EngSection) : State :=
  s.each (List.range g.words.length) fun s i => s.restoreWord (g.pair + 6 * w.num) (0x2000 + 2 * (g.base + i)) (g.words.getD i 0)

def State.restoreSection (s : State) (w : Wing) (g : EngSection) : State :=
  (s.restoreWords w g).modEngine (g.pair + 6 * w.num) fun e => { e with image := none }

theorem State.restoreSection_word (s : State) (w : Wing) (g : EngSection) (hi : i < g.words.length) :
    (s.restoreSection w g).engWord (g.pair + 6 * w.num) (0x2000 + 2 * (g.base + i)) = g.words.getD i 0 % 2 ^ 32 :=
  State.each_sets (P := fun _ => True)
    (Q := fun t => t.engWord (g.pair + 6 * w.num) (0x2000 + 2 * (g.base + i)) = g.words.getD i 0 % 2 ^ 32) (x := i)
    (fun _ _ _ => trivial) (fun t _ => t.restoreWord_low _ _ _)
    (fun _ _ hne t ht => (t.restoreWord_ne fun _ => by omega).trans ht) trivial (.inl (List.mem_range.2 hi))

theorem State.restoreSection_ne (s : State) (w : Wing) (g : EngSection) {k : Nat} (hk : k ≠ g.pair + 6 * w.num) (j : Nat) :
    (s.restoreSection w g).engWord k j = s.engWord k j :=
  State.each_keeps s (fun u => u.engWord k j) (fun t _ => t.restoreWord_ne fun e => absurd e hk) _

/-- Sections of different pairs do not overlap. -/
theorem State.restoreSections_word (s : State) (w : Wing) {l : List EngSection} {g : EngSection} (hg : g ∈ l)
    (hnodup : (l.map (·.pair)).Nodup) (hi : i < g.words.length) :
    (s.each l fun s g => s.restoreSection w g).engWord (g.pair + 6 * w.num) (0x2000 + 2 * (g.base + i)) =
      g.words.getD i 0 % 2 ^ 32 := by
  refine State.each_sets (P := fun _ => True) (x := g)
    (Q := fun t => t.engWord (g.pair + 6 * w.num) (0x2000 + 2 * (g.base + i)) = g.words.getD i 0 % 2 ^ 32)
    (fun _ _ _ => trivial) (fun t _ => t.restoreSection_word w g hi) (fun y hy hne t ht => ?_) trivial (.inl hg)
  have hpair : y.pair ≠ g.pair := fun e => hne (List.inj_on_of_nodup_map hnodup hy hg e)
  exact (t.restoreSection_ne w y (by omega) _).trans ht

/-! ### Words of DTCM -/

theorem setBytes_get (f : Nat → Nat) (k o i : Nat) (l : List Nat) (m : SMap) :
    (l.foldl (fun m j => m.set (k, o + j) 0 (f j)) m).get (k, o + i) 0 = if i ∈ l then f i else m.get (k, o + i) 0 := by
  induction l generalizing m with
  | nil => rfl
  | cons j l ih =>
    rw [List.foldl_cons, ih, SMap.get_set]
    by_cases hi : i ∈ l
    · rw [if_pos hi, if_pos (List.mem_cons_of_mem _ hi)]
    · by_cases e : i = j
      · subst e; simp [hi]
      · simp [hi, e]

theorem setBytes_get_ne (f : Nat → Nat) {k o a : Nat} {l : List Nat} (h : ∀ j ∈ l, a ≠ o + j) (m : SMap) :
    (l.foldl (fun m j => m.set (k, o + j) 0 (f j)) m).get (k, a) 0 = m.get (k, a) 0 := by
  induction l generalizing m with
  | nil => rfl
  | cons j l ih =>
    refine (ih (fun i hi => h i (List.mem_cons_of_mem _ hi)) _).trans (SMap.get_set_ne _ _ _ _ fun e => ?_)
    exact h j List.mem_cons_self (Prod.mk.inj e).2

/-- A word of DTCM is its eight bytes. -/
theorem State.dtcmWord_congr {ofs : Nat} (f : Nat → Nat) (h : ∀ b < 8, s.tut.dtcm.get (w.num, ofs + b) 0 = f b) :
    s.dtcmWord w ofs = (List.range 8).foldr (fun b a => f b + 256 * a) 0 :=
  List.foldr_ext _ _ _ fun b hb a => by rw [h b (List.mem_range.1 hb)]

theorem State.dtcmWord_of_tut {ofs : Nat} (h : t.tut = s.tut) : t.dtcmWord w ofs = s.dtcmWord w ofs := by
  simp only [State.dtcmWord, h]

/-- Eight bytes of a number are the number modulo 2^64. -/
theorem foldr_bytes (v : Nat) : (List.range 8).foldr (fun b a => v / 256 ^ b % 256 + 256 * a) 0 = v % 2 ^ 64 := by
  simp only [List.range, List.range.loop, List.foldr]
  omega

theorem State.dtcmWord_setDtcmWord (s : State) (w : Wing) (ofs v : Nat) : (s.setDtcmWord w ofs v).dtcmWord w ofs = v % 2 ^ 64 :=
  (State.dtcmWord_congr (fun b => v / 256 ^ b % 256) fun b hb =>
    (setBytes_get (fun b => v / 256 ^ b % 256) _ _ b _ _).trans (if_pos (List.mem_range.2 hb))).trans (foldr_bytes v)

theorem State.dtcmWord_setDtcmWord_ne (s : State) (w : Wing) {a ofs : Nat} (v : Nat) (h : a + 8 ≤ ofs ∨ ofs + 8 ≤ a) :
    (s.setDtcmWord w ofs v).dtcmWord w a = s.dtcmWord w a :=
  State.dtcmWord_congr (fun b => s.tut.dtcm.get (w.num, a + b) 0) fun b hb =>
    setBytes_get_ne _ (fun j hj => by have hj := List.mem_range.1 hj; omega) _

/-- The words of the Tutor section go to the Wing's DTCM. -/
def State.restoreTutor (s : State) (w : Wing) (l : Nat × List Nat) : State :=
  s.each (List.range l.2.length) fun s i => s.setDtcmWord w (8 * (l.1 + i)) (l.2.getD i 0)

theorem State.restoreTutor_word (s : State) (w : Wing) (l : Nat × List Nat) (hi : i < l.2.length) :
    (s.restoreTutor w l).dtcmWord w (8 * (l.1 + i)) = l.2.getD i 0 % 2 ^ 64 :=
  State.each_sets (P := fun _ => True) (Q := fun t => t.dtcmWord w (8 * (l.1 + i)) = l.2.getD i 0 % 2 ^ 64) (x := i)
    (fun _ _ _ => trivial) (fun t _ => t.dtcmWord_setDtcmWord _ _ _)
    (fun _ _ hne t ht => (t.dtcmWord_setDtcmWord_ne _ _ (by omega)).trans ht) trivial (.inl (List.mem_range.2 hi))

theorem State.restoreTutor_eng (s : State) (w : Wing) (l : Nat × List Nat) : (s.restoreTutor w l).eng = s.eng :=
  s.each_keeps State.eng (fun t i => (rfl : (t.setDtcmWord w (8 * (l.1 + i)) (l.2.getD i 0)).eng = t.eng)) _

/-! ### The sections of a snapshot -/

theorem State.restore_some (s : State) (w : Wing) (l : List EngSection) (tutor : Nat × List Nat) :
    s.restore w l (some tutor) = (s.each l fun s g => s.restoreSection w g).restoreTutor w tutor := rfl

theorem State.restore_none (s : State) (w : Wing) (l : List EngSection) :
    s.restore w l none = s.each l fun s g => s.restoreSection w g := rfl

/-- The Tutor section leaves the engines and their memories. -/
theorem State.restore_eng (s : State) (w : Wing) (l : List EngSection) (tutor : Option (Nat × List Nat)) :
    (s.restore w l tutor).eng = (s.each l fun s g => s.restoreSection w g).eng := by
  cases tutor with
  | none => rfl
  | some p => exact State.restoreTutor_eng _ w p

theorem State.restore_regs (s : State) (w : Wing) (l : List EngSection) (tutor : Option (Nat × List Nat)) :
    (s.restore w l tutor).regs = s.regs :=
  State.restore_same (P := .regs) (s0 := s) s w l tutor (by decide) rfl

theorem State.restoreSection_engines (s : State) (w : Wing) (g : EngSection) :
    (s.restoreSection w g).eng.engines.length = s.eng.engines.length := by
  have hword (t : State) (n a v : Nat) : (t.restoreWord n a v).eng.engines = t.eng.engines := rfl
  have hwords : (s.restoreWords w g).eng.engines = s.eng.engines :=
    s.each_keeps (fun t => t.eng.engines) (fun t i => hword t _ _ _) _
  exact (State.modEngine_engines _).trans (congrArg List.length hwords)

theorem State.restore_engines (s : State) (w : Wing) (l : List EngSection) (tutor : Option (Nat × List Nat)) :
    (s.restore w l tutor).eng.engines.length = s.eng.engines.length := by
  rw [State.restore_eng]
  exact s.each_keeps (fun t => t.eng.engines.length) (fun t g => t.restoreSection_engines w g) l

/-! ### FIRST -/

theorem State.setFirst_engWord (s : State) (w : Wing) (b : Bool) (n j : Nat) : (s.setFirst w b).engWord n j = s.engWord n j := by
  have hmem (t : State) (k : Nat) : (t.modEngine k fun e => { e with first := b }).eng.mem = t.eng.mem := rfl
  have hall : (s.setFirst w b).eng.mem = s.eng.mem := s.each_keeps (fun t => t.eng.mem) hmem _
  rw [State.engWord, hall, State.engWord]

theorem State.setFirst_tut (s : State) (w : Wing) (b : Bool) : (s.setFirst w b).tut = s.tut :=
  State.setFirst_same (P := .tut) (s0 := s) s w b (by decide) rfl

theorem State.setFirst_first (b : Bool) (hlen : s.eng.engines.length = 12) (hn : n < 12) (hw : engineWing n = w) :
    ((s.setFirst w b).engine n).first = b := by
  refine State.each_sets (P := fun t => t.eng.engines.length = 12) (Q := fun t => (t.engine n).first = b) (x := n)
    (fun t k ht => (State.modEngine_engines _).trans ht) (fun t ht => ?_) (fun k _ hne t ht => ?_) hlen (.inl ?_)
  · rw [State.engine_modEngine t _ (by omega)]
  · rw [State.engine_modEngine_ne t _ hne.symm, ht]
  · exact List.mem_filter.2 ⟨List.mem_range.2 hn, by simp [hw]⟩

end

end Sys2Proof.Machine
end

section
/-!
Self-test windows, snapshots, a stale link, takeovers and handovers (14 R348 to R355, R358), command by command.
-/
namespace Sys2Proof.Machine

section
variable {s t : State} {w v o : Wing} {core : Nat} {F : Fld} {i : Nat} {l : List Event}

/-! ### The window of a COLD Wing -/

/-- The window of a Wing opens and the standby takes its sets. -/
def State.windowOpened (s : State) (w : Wing) : State := (s.setWindow w (some s.tb)).standbyTakesSets

theorem State.windowOpened_dup (s : State) (w : Wing) : (s.windowOpened w).dup = (s.setWindow w (some s.tb)).dup :=
  State.standbyTakesSets_same (P := .dup) (s0 := s.setWindow w (some s.tb)) _ (by decide) rfl

theorem State.windowOpened_fld (s : State) (w : Wing) : (s.windowOpened w).fld F i = s.fld F i :=
  State.standbyTakesSets_still _ (by cases w <;> rfl)

theorem State.windowOpened_windowAt (s : State) (w : Wing) : (s.windowOpened w).windowAt w = some s.tb :=
  (State.windowAt_congr (s.windowOpened_dup w)).trans (by cases w <;> rfl)

theorem State.windowOpened_bistFails (s : State) (w : Wing) : (s.windowOpened w).bistFails w = s.bistFails w :=
  (State.bistFails_congr (s.windowOpened_dup w)).trans (by cases w <;> rfl)

theorem execColdSelfTestWindow_tests (s : State) (w : Wing) (pass : Bool) :
    ∃ t, exec (.coldSelfTestWindow w pass) s = .next t ∧
      if s.wing w = .cold ∧ s.flag .HP_CTRL_BISTEN = true then
        t.windowAt w = some s.tb ∧ t.fld (bistOkFld w) = (pass && !s.deadWing w).toNat ∧
          (pass = false ∨ s.deadWing w = true →
            t.fld (bistFailsFld w) = satInc (Fld.width .HP_BIST_A_FAILS) (s.fld (bistFailsFld w)) ∧
            t.wing w = if 1 ≤ s.bistFails w then .failed else .cold)
      else t = s := by
  refine ⟨_, rfl, ?_⟩
  split
  case isTrue h =>
    rw [if_pos (by simpa using h)]
    refine ⟨(State.bistResult_windowAt _ w _).trans (s.windowOpened_windowAt w), State.bistResult_ok _ w _, fun hfail => ?_⟩
    have hresult : (pass && !s.deadWing w) = false := by
      rcases hfail with h | h <;> simp [h]
    rw [hresult]
    refine ⟨(State.bistResult_fails _ w).trans (congrArg (satInc _) (s.windowOpened_fld w)), ?_⟩
    refine (State.bistResult_wing (s.windowOpened w) w).trans ?_
    rw [s.windowOpened_bistFails, State.wing_congr (s.windowOpened_fld w), h.1]
  case isFalse h => exact if_neg (by simpa using h)

/-! ### A snapshot is written -/

/-- The snapshot in writing fills its slot (14 R350). -/
def State.slotFilled (s : State) (p : Snapshot) : State :=
  let p := { p with seqEnd := p.seq, crcOk := true, poisoned := !s.slotInService (p.seq % 4) }
  let s := { s with dup := { s.dup with slots := s.dup.slots.set (p.seq % 4) p, writing := none } }
  { s.setFld .HP_SEQL 0 p.seq with dup := { s.dup with written := p.seq, advanced := true } }

/-- The shadows are captured once. -/
theorem State.captureShadows_writing {p : Snapshot} (h : s.dup.writing = some p) :
    ∃ q, s.captureShadows.dup.writing = some q ∧ q.seq = p.seq ∧ q.engines = p.engines ∧ q.tutor = p.tutor := by
  unfold State.captureShadows
  rw [h]
  dsimp only
  split
  · exact ⟨_, rfl, rfl, rfl, rfl⟩
  · exact ⟨p, h, rfl, rfl, rfl⟩

theorem State.captureShadows_slots (s : State) : s.captureShadows.dup.slots = s.dup.slots := by
  unfold State.captureShadows
  split
  · split <;> rfl
  · rfl

theorem State.captureShadows_slotInService (s : State) (i : Nat) : s.captureShadows.slotInService i = s.slotInService i := by
  have hregs : s.captureShadows.regs = s.regs := State.captureShadows_same (P := .regs) (s0 := s) s (by decide) rfl
  simp only [State.slotInService, State.bit, State.fld_of_regs hregs]

/-- After a slot is filled, only the age and the staleness of the snapshots change. -/
theorem State.settled_dup (s : State) : s.refreshAge.settleStale.dup = s.dup := by
  unfold State.settleStale State.when
  split
  · exact State.dupEvent_dup _ _ _ _ _ _ _ _
  · rfl

theorem execSnapshotWriteComplete_eq {p q : Snapshot} (h : s.dup.writing = some p) (hq : s.captureShadows.dup.writing = some q) :
    execSnapshotWriteComplete s = .next (s.captureShadows.slotFilled q).refreshAge.settleStale := by
  unfold execSnapshotWriteComplete
  rw [h]
  dsimp only
  rw [hq]
  rfl

theorem execSnapshotWriteComplete_fills (s : State) (p : Snapshot) (h : s.dup.writing = some p) (hlen : s.dup.slots.length = 4) :
    ∃ t, exec .snapshotWriteComplete s = .next t ∧
      t.dup.writing = none ∧ t.fld .HP_SEQL = p.seq % 2 ^ 32 ∧ (t.dup.slots.getD (p.seq % 4) {}).seq = p.seq ∧
      (t.dup.slots.getD (p.seq % 4) {}).seqEnd = p.seq ∧ (t.dup.slots.getD (p.seq % 4) {}).crcOk = true ∧
      (t.dup.slots.getD (p.seq % 4) {}).poisoned = !s.slotInService (p.seq % 4) ∧
      (t.dup.slots.getD (p.seq % 4) {}).engines = p.engines ∧ (t.dup.slots.getD (p.seq % 4) {}).tutor = p.tutor := by
  obtain ⟨q, hq, hseq, hengines, htutor⟩ := State.captureShadows_writing h
  refine ⟨_, execSnapshotWriteComplete_eq h hq, ?_⟩
  have hslot : (s.captureShadows.slotFilled q).dup.slots.getD (p.seq % 4) {} =
      { q with seqEnd := q.seq, crcOk := true, poisoned := !s.captureShadows.slotInService (q.seq % 4) } := by
    have hin : p.seq % 4 < s.captureShadows.dup.slots.length := by
      rw [s.captureShadows_slots, hlen]
      exact Nat.mod_lt _ (by decide)
    rw [← hseq] at hin ⊢
    simp [State.slotFilled, List.getD, hin]
  rw [State.settled_dup, hslot, ← hseq, ← hengines, ← htutor, s.captureShadows_slotInService]
  refine ⟨rfl, ?_, rfl, rfl, rfl, rfl, rfl, rfl⟩
  exact State.settleStale_still _ (by decide) (State.refreshAge_still _ (by decide) (State.fld_setFld_self _ _ _ _))

/-! ### The link of the standby is stale -/

theorem Recorded.checkHandover (h : Recorded l s) : Recorded l s.checkHandover := by
  unfold State.checkHandover
  split
  · exact h.when fun u hu => Recorded.upd (Recorded.emit (by exact hu) _ _)
  · exact h

/-- The link fault is shown and told, and a handover in progress is judged after it. -/
def State.linkFaulted (s : State) : State :=
  let s := (s.setFld .HP_STAT_LINKFLT 0 1).setFld .HP_STAT_STALE 0 1
  { s with dup := { s.dup with advanced := false } }

theorem State.linkFault_eq (s : State) (w : Wing) : s.linkFault w =
    (((s.linkFaulted).dupEvent 0x84 w 0 0 0 (s.linkFaulted).dup.seq (s.linkFaulted).ts).raise w 6).checkHandover := rfl

theorem State.linkFault_fld (s : State) (w : Wing) (hcheck : State.checkHandover_writes.testBit F.ctorIdx = false)
    (hraise : F ≠ .TUT_IPEND) (hemit : State.emit_writes.testBit F.ctorIdx = false) :
    (s.linkFault w).fld F i = (s.linkFaulted).fld F i := by
  rw [State.linkFault_eq, State.checkHandover_fld _ hcheck, State.raise_fld _ _ _ hraise, State.dupEvent_fld _ _ _ _ _ _ _ _ hemit]

theorem State.linkFault_reports (s : State) (w : Wing) : s.reports (s.linkFault w) .duplex 0x84 := by
  have hsize : (s.linkFaulted).q10Cap = s.q10Cap := by
    simp [State.q10Cap, State.linkFaulted]
  have htold := (State.queues_of_ports (s := s) (t := s.linkFaulted) rfl hsize).dupEvent_reports (by decide)
    (show 0x84 < 256 by decide) w 0 0 0 (s.linkFaulted).dup.seq (s.linkFaulted).ts
  rw [State.linkFault_eq]
  exact Recorded.reports (((Recorded.refl _).of_ports (State.raise_ports _ _ _)).checkHandover) htold

theorem execLinkStale_faults (s : State) (w : Wing) :
    ∃ t, exec (.linkStale w) s = .next t ∧
      if s.split = false ∧ (s.wing w = .warm ∨ s.wing w = .ready ∨ (s.wing w = .cold ∧ s.inWindow w = true)) ∧
          s.flag .HP_STAT_STALE = false then
        t.fld .HP_STAT_LINKFLT = 1 ∧ t.fld .HP_STAT_STALE = 1 ∧ s.reports t .duplex 0x84
      else t = s := by
  refine ⟨_, rfl, ?_⟩
  split
  case isTrue h =>
    rw [if_pos (by simpa [and_assoc, or_assoc] using h), s.linkFault_fld w (by decide) (by decide) (by decide),
      s.linkFault_fld w (by decide) (by decide) (by decide)]
    exact ⟨by simp [State.linkFaulted], by simp [State.linkFaulted], s.linkFault_reports w⟩
  case isFalse h => exact if_neg (by simpa [and_assoc, or_assoc] using h)

/-! ### A takeover -/

/-- A Wing that takes over has chosen, and HP_TKO_AGE shows the age of its choice. -/
def State.slotChosen (s : State) (age : Nat) : State :=
  ({ s with dup := { s.dup with chosen := some s.newestSlot } } : State).setFld .HP_TKO_AGE 0 age

theorem State.slotChosen_told (s : State) (w : Wing) {age : Nat} (hage : age ≤ 0xFFFF) (bits seq ts : Nat) :
    ((s.slotChosen age).dupEvent 0x80 w bits 0 age seq ts).dup.chosen = some s.newestSlot ∧
      s.tells ((s.slotChosen age).dupEvent 0x80 w bits 0 age seq ts) .duplex 0x80 ∧
      ((s.slotChosen age).dupEvent 0x80 w bits 0 age seq ts).fld .HP_TKO_AGE = age := by
  have hsize : (s.slotChosen age).fld .RING_CFG_SIZE_L2 10 = s.fld .RING_CFG_SIZE_L2 10 := by simp [State.slotChosen]
  refine ⟨by rw [State.dupEvent_dup]; rfl, ?_, ?_⟩
  · exact State.dupEvent_tells (code := 0x80) (s := s) (t := s.slotChosen age) (by decide) rfl hsize w _ _ _ _ _
  · rw [State.dupEvent_fld _ _ _ _ _ _ _ _ (by decide), State.slotChosen, State.fld_setFld_self]
    exact Nat.mod_eq_of_lt (Nat.lt_succ_of_le hage)

theorem execTakeoverSlotChosen_chooses (s : State) (w : Wing) (htaking : s.taking = some w) (hchosen : s.dup.chosen = none) :
    ∃ t, exec .takeoverSlotChosen s = .next t ∧
      t.dup.chosen = some s.newestSlot ∧ s.tells t .duplex 0x80 ∧ (s.newestSlot = none → t.fld .HP_TKO_AGE = 0xFFFF) ∧
      (∀ p ∈ s.newestSlot, t.fld .HP_TKO_AGE = min ((s.tb - p.time) / 640000) 0xFFFF) := by
  refine ⟨_, rfl, ?_⟩
  rw [htaking, hchosen]
  dsimp only [Option.isSome]
  rw [if_neg Bool.false_ne_true]
  cases hslot : s.newestSlot with
  | none =>
    obtain ⟨hkept, htold, hage⟩ := s.slotChosen_told w (Nat.le_refl 0xFFFF) (1 + 4 * s.dup.released.toNat) 0 s.dup.expiryTs
    rw [State.slotChosen, hslot] at hkept htold hage
    exact ⟨hkept, htold, fun _ => hage, fun p hp => absurd hp (by simp)⟩
  | some q =>
    obtain ⟨hkept, htold, hage⟩ := s.slotChosen_told w (age := min ((s.tb - q.time) / 640000) 0xFFFF) (Nat.min_le_right _ _)
      ((if s.fld .HP_STALE_STALE_MS * 640000 < s.tb - q.time then 2 else 0) + 4 * s.dup.released.toNat) q.seq s.dup.expiryTs
    rw [State.slotChosen, hslot] at hkept htold hage
    refine ⟨hkept, htold, fun h => absurd h (by simp), fun p hp => ?_⟩
    cases Option.mem_some.1 hp
    exact hage

/-- The state that TAKEOVER_RESTORE_COMPLETE leaves in the engines and DTCM. -/
def State.slotRestored (s : State) (w : Wing) : Option Snapshot → State
  | some p => (s.restore w p.engines p.tutor).setFirst w false
  | none => s.setFirst w true

theorem State.slotRestored_first (slot : Option Snapshot) (hlen : s.eng.engines.length = 12) {n : Nat} (hn : n < 12)
    (hw : engineWing n = w) : ((s.slotRestored w slot).engine n).first = slot.isNone := by
  cases slot with
  | none => exact State.setFirst_first true hlen hn hw
  | some p => exact State.setFirst_first false ((s.restore_engines w _ _).trans hlen) hn hw

theorem execTakeoverRestoreComplete_eq {slot : Option Snapshot} (htaking : s.taking = some w) (hchosen : s.dup.chosen = some slot)
    (hfresh : s.dup.restored = false) : execTakeoverRestoreComplete s =
      .next { s.slotRestored w slot with dup := { (s.slotRestored w slot).dup with restored := true, noSnap := slot.isNone } } := by
  unfold execTakeoverRestoreComplete
  rw [htaking, hchosen, hfresh]
  cases slot <;> rfl

theorem execTakeoverRestoreComplete_restores (s : State) (w : Wing) (slot : Option Snapshot) (htaking : s.taking = some w)
    (hchosen : s.dup.chosen = some slot) (hfresh : s.dup.restored = false) (hlen : s.eng.engines.length = 12) :
    ∃ t, exec .takeoverRestoreComplete s = .next t ∧
      t.dup.restored = true ∧ t.dup.noSnap = slot.isNone ∧
      (∀ n < 12, engineWing n = w → (t.engine n).first = slot.isNone) ∧
      (∀ p ∈ slot, ∀ l ∈ p.tutor, (∀ i < l.2.length, t.dtcmWord w (8 * (l.1 + i)) = l.2.getD i 0 % 2 ^ 64)) ∧
      (∀ p ∈ slot, (p.engines.map (·.pair)).Nodup → ∀ g ∈ p.engines, g.pair < 6 → ∀ i < g.words.length,
        t.engWord (g.pair + 6 * w.num) (0x2000 + 2 * (g.base + i)) = g.words.getD i 0 % 2 ^ 32) := by
  refine ⟨_, execTakeoverRestoreComplete_eq htaking hchosen hfresh, rfl, rfl,
    fun n hn hw => State.slotRestored_first slot hlen hn hw, fun p hp l hl i hi => ?_, fun p hp hnodup g hg _ i hi => ?_⟩
  · cases Option.mem_def.1 hp
    have htut : (s.slotRestored w (some p)).tut = (s.restore w p.engines (some l)).tut := by
      rw [← Option.mem_def.1 hl]
      exact State.setFirst_tut _ w false
    exact (State.dtcmWord_of_tut htut).trans
      (State.restoreTutor_word (s.each p.engines fun s g => s.restoreSection w g) w l hi)
  · cases Option.mem_def.1 hp
    refine ((State.setFirst_engWord _ w false _ _).trans ?_).trans (s.restoreSections_word w hg hnodup hi)
    rw [State.engWord, s.restore_eng, State.engWord]

/-! ### HP_REARM -/

theorem State.covered_setFld (s : State) (w : Wing) (i n : Nat) (hmode : F ≠ .HP_CTRL_MODE) (howner : F ≠ .PWM_CTRL_OWNER) :
    (s.setFld F i n).covered w = s.covered w := by
  have howners (m : Nat) : (s.setFld F i n).fld .PWM_CTRL_OWNER m = s.fld .PWM_CTRL_OWNER m :=
    s.fld_setFld_ne n fun e => howner e.1.symm
  have hsplit : (s.setFld F i n).split = s.split := State.split_congr (s.fld_setFld_ne n fun e => hmode e.1.symm)
  simp only [State.covered, State.flag, howners, hsplit]

/-- The duration of a takeover is shown once, at the first store. -/
def State.durationShown (s : State) : State :=
  s.when s.dup.tkoOpen fun s => s.setFld .HP_TKO_DUR 0 (min ((s.tb - s.dup.expiryTs) / 640) 4095)

theorem State.durationShown_dup (s : State) : s.durationShown.dup = s.dup := by
  unfold State.durationShown State.when
  split <;> rfl

theorem State.durationShown_covered (s : State) (w : Wing) : s.durationShown.covered w = s.covered w := by
  unfold State.durationShown State.when
  split
  · exact s.covered_setFld w _ _ (by decide) (by decide)
  · rfl

theorem State.durationShown_fld (h : s.dup.tkoOpen = true) :
    s.durationShown.fld .HP_TKO_DUR = min ((s.tb - s.dup.expiryTs) / 640) 4095 := by
  rw [State.durationShown, h, State.when_true, State.fld_setFld_self]
  exact Nat.mod_eq_of_lt (Nat.lt_succ_of_le (Nat.min_le_right _ _))

theorem execHpRearmWrite_names (s : State) (core mask : Nat) (w : Wing) (h : s.reaches core .duplex (hpAddr 0x2C))
    (hw : w = coreWing core) :
    ∃ t, exec (.hpRearmWrite core mask) s = .next t ∧
      if s.wing w = .taking ∨ s.wing w = .active then t.dup.tkoOpen = false ∧
        (∀ m < 24, t.dup.rearm.testBit m = if m ∈ s.covered w then mask.testBit m else s.dup.rearm.testBit m) ∧
        (s.dup.tkoOpen = true → t.fld .HP_TKO_DUR = min ((s.tb - s.dup.expiryTs) / 640) 4095)
      else t.dup.rearm = s.dup.rearm ∧ s.tells t .duplex 0x01 := by
  subst hw
  refine ⟨_, congrArg Host.Outcome.next (State.accessBlk_reaches h _), ?_⟩
  generalize coreWing core = w
  unfold State.rearmWrite
  split
  case isTrue hduty =>
    rw [if_pos (by simpa using hduty)]
    refine ⟨rfl, fun m _ => ?_, s.durationShown_fld⟩
    show (List.foldl (fun a k => setBitTo a k (mask.testBit k)) s.durationShown.dup.rearm
      (s.durationShown.covered w)).testBit m = _
    rw [testBit_foldl_setBitTo, s.durationShown_covered, s.durationShown_dup]
  case isFalse hduty =>
    rw [if_neg (by simpa using hduty)]
    exact ⟨congrArg (·.rearm) (s.emit_dup _ _), State.emit_tells _ _ _ (by simp) rfl rfl⟩

/-! ### A handover ends -/

/-- The engines of the new Wing have the old one's sections. -/
def State.copied (s : State) (w : Wing) : State :=
  (s.restore w.other (s.sections w) (s.tutorSection w)).setFirst w.other false

/-- The other Wing has the pass and a full lease. -/
def State.passGiven (s : State) (w : Wing) : State := (((s.copied w).setPass w false).setLease w 0).grant w.other

/-- The pass is the other Wing's, and the old holder is WARM (14 R355). -/
def State.handedOver (s : State) (w : Wing) : State :=
  (((s.passGiven w).setWing w .warm).cancelHandover).count .HP_CNT_HANDO

theorem execHandoverCopyComplete_eq (hcopying : s.dup.handover = .copying) (hholder : s.holder = some w) :
    execHandoverCopyComplete s = .next ((((s.handedOver w).dupEvent 0x81 w.other 0 0 0 (s.handedOver w).dup.seq
      (s.handedOver w).ts).enginesDue ((List.range 12).filter fun n => engineWing n == w.other)).settlePads) := by
  unfold execHandoverCopyComplete
  rw [hcopying, hholder]
  rfl

theorem State.copied_regs (s : State) (w : Wing) : (s.copied w).regs = s.regs :=
  (State.setFirst_same (P := .regs) (s0 := s.restore w.other (s.sections w) (s.tutorSection w)) _ _ _ (by decide) rfl).trans
    (s.restore_regs _ _ _)

theorem State.copied_ports (s : State) (w : Wing) : (s.copied w).ports = s.ports :=
  State.setFirst_same (P := .ports) (s0 := s) _ _ _ (by decide)
    (State.restore_same (P := .ports) (s0 := s) s _ _ _ (by decide) rfl)

theorem State.copied_fld (s : State) (w : Wing) : (s.copied w).fld F i = s.fld F i := State.fld_of_regs (s.copied_regs w) F i

theorem State.passGiven_fld (s : State) (w : Wing) (hgrant : State.grant_writes.testBit F.ctorIdx = false)
    (hlease : State.setLease_writes.testBit F.ctorIdx = false) (hholder : F ≠ .HP_STAT_HOLDER) :
    (s.passGiven w).fld F i = s.fld F i := by
  rw [State.passGiven, State.grant_fld _ _ hgrant, State.setLease_fld _ _ _ hlease]
  exact (State.fld_setFld_ne _ _ fun e => hholder e.1).trans (s.copied_fld w)

theorem State.passGiven_lease (s : State) (w : Wing) : ∀ p ∈ (s.passGiven w).dup.voters, p.lease w.other = s.leaseCycles := by
  have hcycles : (((s.copied w).setPass w false).setLease w 0).leaseCycles = s.leaseCycles :=
    State.leaseCycles_congr ((State.setLease_fld _ w 0 (by decide)).trans
      ((State.fld_setFld_ne _ _ (by decide)).trans (s.copied_fld w)))
  rw [← hcycles]
  exact State.grant_lease _ w.other

theorem State.handedOver_fld (s : State) (w : Wing) (hwing : F ≠ stateFld w) (hcount : F ≠ .HP_CNT_HANDO)
    (hcancel : State.cancelHandover_writes.testBit F.ctorIdx = false) :
    (s.handedOver w).fld F i = (s.passGiven w).fld F i := by
  refine (State.fld_setFld_ne _ _ fun e => hcount e.1).trans ?_
  exact State.cancelHandover_still _ hcancel (State.setWing_fld_ne _ i .warm hwing)

theorem State.handedOver_ports (s : State) (w : Wing) : (s.handedOver w).ports = s.ports := by
  rw [← s.copied_ports w, State.handedOver, State.passGiven]
  generalize s.copied w = u
  cases w <;> rfl

theorem State.handedOver_holder (s : State) (w : Wing) : (s.handedOver w).pass v = (s.passGiven w).pass v :=
  State.pass_congr (s.handedOver_fld w (by cases w <;> decide) (by decide) (by decide))

theorem State.handedOver_pass_old (s : State) (w : Wing) : (s.handedOver w).pass w = false := by
  rw [State.handedOver_holder, State.passGiven, State.grant_pass_ne _ (other_ne w).symm, State.setLease_pass,
    State.pass_setPass_self]

theorem State.handedOver_pass_new (s : State) (w : Wing) : (s.handedOver w).pass w.other = true := by
  rw [State.handedOver_holder, State.passGiven, State.grant_pass_self]

theorem State.handedOver_wing (s : State) (w : Wing) : (s.handedOver w).wing w = .warm := by
  refine (State.wing_congr ?_).trans (State.wing_setWing_self (s.passGiven w) w .warm)
  refine (State.fld_setFld_ne _ _ (by cases w <;> decide)).trans ?_
  exact State.cancelHandover_still _ (by cases w <;> decide) rfl

theorem State.handedOver_lease (s : State) (w : Wing) : ∀ p ∈ (s.handedOver w).dup.voters, p.lease w.other = s.leaseCycles := by
  have hvoters : (s.handedOver w).dup.voters = (s.passGiven w).dup.voters := by cases w <;> rfl
  rw [hvoters]
  exact s.passGiven_lease w

theorem State.handedOver_handover (s : State) (w : Wing) : (s.handedOver w).dup.handover = .none := by cases w <;> rfl

theorem State.handedOver_transfer (s : State) (w : Wing) : (s.handedOver w).fld .HP_STAT_TRANSFER = 0 :=
  (State.fld_setFld_ne _ _ (by decide)).trans (State.fld_setFld_self _ _ _ _)

theorem State.handedOver_count (s : State) (w : Wing) :
    (s.handedOver w).fld .HP_CNT_HANDO = satInc (Fld.width .HP_CNT_HANDO) (s.fld .HP_CNT_HANDO) := by
  have hbefore : (((s.passGiven w).setWing w .warm).cancelHandover).fld .HP_CNT_HANDO = s.fld .HP_CNT_HANDO :=
    State.cancelHandover_still _ (by decide) ((State.setWing_fld_ne _ 0 .warm (by cases w <;> decide)).trans
      (s.passGiven_fld w (by decide) (by decide) (by decide)))
  refine (State.fld_setFld_self _ _ _ _).trans ?_
  rw [hbefore]
  exact Nat.mod_eq_of_lt (satInc_lt _ _)

/-- The holder's handover is over, event 0x81 tells it, and the new Wing's engines run. -/
def State.handoverTold (s : State) (w : Wing) : State :=
  (((s.handedOver w).dupEvent 0x81 w.other 0 0 0 (s.handedOver w).dup.seq (s.handedOver w).ts).enginesDue
    ((List.range 12).filter fun n => engineWing n == w.other)).settlePads

theorem State.handoverTold_fld (s : State) (w : Wing) (hpads : State.settlePads_writes.testBit F.ctorIdx = false)
    (hemit : State.emit_writes.testBit F.ctorIdx = false) : (s.handoverTold w).fld F i = (s.handedOver w).fld F i :=
  State.settlePads_still _ hpads (State.enginesDue_still _ _ (State.dupEvent_fld _ _ _ _ _ _ _ _ hemit))

theorem State.handoverTold_dup (s : State) (w : Wing) : (s.handoverTold w).dup = (s.handedOver w).dup :=
  State.settlePads_same (P := .dup) (s0 := s.handedOver w) _ (by decide)
    (State.enginesDue_same (P := .dup) (s0 := s.handedOver w) _ _ (by decide) (State.dupEvent_dup _ _ _ _ _ _ _ _))

theorem State.handoverTold_reports (s : State) (w : Wing) : s.reports (s.handoverTold w) .duplex 0x81 := by
  have hsize : (s.handedOver w).fld .RING_CFG_SIZE_L2 10 = s.fld .RING_CFG_SIZE_L2 10 := by
    rw [s.handedOver_fld w (by cases w <;> decide) (by decide) (by decide), s.passGiven_fld w (by decide) (by decide) (by decide)]
  have htold := (State.queues_of_ports (s.handedOver_ports w) (congrArg (2 ^ ·) hsize)).dupEvent_reports (by decide)
    (show 0x81 < 256 by decide) w.other 0 0 0 (s.handedOver w).dup.seq (s.handedOver w).ts
  refine Recorded.reports (Recorded.settlePads ((Recorded.refl _).of_ports ?_)) htold
  exact State.enginesDue_same (P := .ports) _ _ (by decide) (Same.refl _ _)

theorem execHandoverCopyComplete_passes (s : State) (w : Wing) (hcopying : s.dup.handover = .copying)
    (hholder : s.holder = some w) :
    ∃ t, exec .handoverCopyComplete s = .next t ∧
      t.dup.handover = .none ∧ t.fld .HP_STAT_TRANSFER = 0 ∧ t.pass w = false ∧ t.pass w.other = true ∧ t.wing w = .warm ∧
      (∀ v ∈ t.dup.voters, v.lease w.other = s.leaseCycles) ∧
      t.fld .HP_CNT_HANDO = satInc (Fld.width .HP_CNT_HANDO) (s.fld .HP_CNT_HANDO) ∧ s.reports t .duplex 0x81 := by
  have hdup := s.handoverTold_dup w
  have hholder' (v : Wing) : (s.handoverTold w).pass v = (s.handedOver w).pass v :=
    State.pass_congr (s.handoverTold_fld w (by decide) (by decide))
  have hwing : (s.handoverTold w).wing w = (s.handedOver w).wing w :=
    State.wing_congr (s.handoverTold_fld w (by cases w <;> decide) (by cases w <;> decide))
  refine ⟨s.handoverTold w, execHandoverCopyComplete_eq hcopying hholder, ?_, ?_, ?_, ?_, ?_, ?_, ?_, s.handoverTold_reports w⟩
  · rw [hdup, s.handedOver_handover w]
  · rw [s.handoverTold_fld w (by decide) (by decide), s.handedOver_transfer w]
  · rw [hholder', s.handedOver_pass_old w]
  · rw [hholder', s.handedOver_pass_new w]
  · rw [hwing, s.handedOver_wing w]
  · rw [hdup]
    exact s.handedOver_lease w
  · rw [s.handoverTold_fld w (by decide) (by decide), s.handedOver_count w]

end

/-- Settles O30, command by command. -/
theorem snapshotsAndTakeovers : Obligations.SnapshotsAndTakeovers :=
  ⟨execColdSelfTestWindow_tests, execSnapshotWriteComplete_fills, execLinkStale_faults, execTakeoverSlotChosen_chooses,
    execTakeoverRestoreComplete_restores, execHpRearmWrite_names, execHandoverCopyComplete_passes⟩

end Sys2Proof.Machine
end
